-- ==== Sys2Proof/Word.lean ====
section
/-!
DEFINITION. The words of the model and the sparse store every keyed collection of the state is held in.
-/
namespace Sys2Proof

/-- A byte. -/
abbrev Byte := BitVec 8

/-- A sparse store: (key, value) pairs, keys strictly rising, no entry equal to the default an unlisted key reads as. -/
abbrev Store (V : Type) := List (Nat × V)

end Sys2Proof
end

