-- ==== Sys2Proof/Syntax.lean ====
section
/-!
DEFINITION. The commands and events of the block: one constructor of `Instr` for each row of spec/opcode_table.json, with
the operands the row's rule names. Commands come from outside the block: supplies, pins, ports, parcels, dictionary
requests, the layers' answers, and the expiry of the block's own timers.
-/
namespace Sys2Proof

/-- The four control processors (R24). -/
inductive ProcId where
  | sequencer | steward | warden | keeper
  deriving DecidableEq, Repr

/-- Where a dictionary request comes from (R443): a MAC address, the dictionary window or a secured SPDM session. -/
inductive Source where
  | mac (address : Nat)
  | window
  | session (id : Nat)
  deriving DecidableEq, Repr

/-- The envelope of a dictionary request: its source and its transaction number (R440, R443). -/
structure Req where
  src : Source
  txn : Nat
  deriving DecidableEq, Repr

/-- The header of a Hyrath parcel (R323), field by field. -/
structure Hdr where
  kind : Nat
  cls : Nat
  dest : Nat
  origin : Nat
  detour : Bool
  world : Bool
  len : Nat
  e2e : Nat
  hop : Nat
  colour : Nat
  opcode : Nat
  context : Nat
  stream : Nat
  rseq : Nat
  portKind : Nat
  portIndex : Nat
  /-- HOP_ACK: free base-lane units ÷ 8; 0 in every other kind. -/
  free : Nat
  tag : Nat
  due : Nat
  line : Nat
  deriving DecidableEq, Repr

/-- Where a request enters (R215, R323): a tile feed port, a real-time port, a Headland port (for the request of another
node, with its header), or a block-internal unit by its code of R465. -/
inductive Port where
  | tile (t : Nat)
  | rt (p : Nat)
  | headland (h : Nat) (hdr : Hdr)
  | unit (code : Nat)
  deriving DecidableEq, Repr

/-- The sideband of an open request (R106, R216): its port, stream, sequence number, core, class, context, world, relative
deadline, pre-colour and origin tag; and whether a field named rsvd was nonzero or the opcode rsvd (R219 step 1). -/
structure Side where
  port : Port
  stream : Nat
  seq : Nat
  core : Nat
  cls : Nat
  ctx : Nat
  world : Bool
  deadline : Nat
  pre : Nat
  tag : Nat
  rsvd : Bool
  deriving DecidableEq, Repr

/-- The fields of a reduce-into contribution (R167, R218). -/
structure RedWord where
  function : Nat
  type : Nat
  wide : Bool
  init : Bool
  tag : Nat
  index : Nat
  count : Nat
  signal : Bool
  object : Nat
  deriving DecidableEq, Repr

/-- What an open request asks for (R217): the operands of each opcode. Data and masks are numbers of 1,024 and 128 bits. -/
inductive Op where
  | read
  | write (mask data : Nat)
  | widen (entry j : Nat)
  | atomic (function offset : Nat) (wide fetch : Bool) (a b : Nat)
  | reduce (w : RedWord) (data : Nat)
  | sync (operation object operand : Nat)
  /-- A whole-line write of a block-internal unit that gives the line metadata as well (R125). -/
  | put (data info : Nat)
  deriving DecidableEq, Repr

/-- The reset side of a domain crossing (R409): a tile feed port, a real-time port, the channel controllers of a sheaf, a Headland
adapter or the far-tier adapter. -/
inductive Crossing where
  | feed (t : Nat)
  | rt (p : Nat)
  | sheaf (u : Nat)
  | headland (h : Nat)
  | far
  deriving DecidableEq, Repr

/-- The commands and events (spec/opcode_table.json, one constructor per row). -/
inductive Instr where
  /-- POWER_ON_RESET (R414): VKEEP becomes good and the node moves from OFF to BOOT, clearing the state that R428 gives for a power-on reset. -/
  | powerOnReset
  /-- VKEEP_LOSS (R414): VKEEP falls below its limit and the node enters OFF from any state. -/
  | vkeepLoss
  /-- VCORE_GOOD (R418): The block's detector reports VCORE good, and BOOT continues with FO, sv_ref_a and the sheaf PLLs. -/
  | vcoreGood
  /-- SUPPLY_LOSS (R542): VCORE or VPHY is lost while VKEEP is held, which breaks R272 and sends the node to HALTED. -/
  | supplyLoss (vphy : Bool)
  /-- SET_RESET (R427): The taken value of sv_set_reset_n has been 0 for 1 µs, and the node resets as at power-on and is held there while the value stays 0. -/
  | setReset
  /-- WARM_RESET (R429): A write of 1 to 0x2000:04 starts a warm reset: WARM_RESET is flooded, contexts are fenced, data is written back and the node returns to BOOT. -/
  | warmReset (r : Req)
  /-- STATE_REQUEST_READY (R416): A write of 4 to 0x2000:02 wakes a node in REST or DEEP, or ends the wait of blocker [8] in CONFIG, or is refused. -/
  | stateRequestReady (r : Req)
  /-- STATE_REQUEST_REST (R416): A write of 6 to 0x2000:02 requests REST, which is checked against the refusal reasons and then begins entry. -/
  | stateRequestRest (r : Req)
  /-- STATE_REQUEST_DEEP (R416): A write of 7 to 0x2000:02 requests DEEP, which is checked against the refusal reasons, the ledger segments included, and then begins entry. -/
  | stateRequestDeep (r : Req)
  /-- CONFIG_BLOCKERS_CLEAR (R420): Every bit of 0x2000:08 clears, and the node moves from CONFIG to READY at the next frame boundary with START_COMPLETE. -/
  | configBlockersClear
  /-- REST_ENTRY_DRAINED (R424): The journal holds no open request, so the channels enter self-refresh, keys are cleared and the units are gated. -/
  | restEntryDrained
  /-- WAKE_EXIT_COMPLETE (R425): REST or DEEP exit completes, and the node enters READY at the next frame boundary. -/
  | wakeExitComplete
  /-- UNRETAINED_CHANNEL_TIMEOUT (R431): A channel has not completed SRE within 100 µs of HALTED entry and is counted as unretained. -/
  | unretainedChannelTimeout (c : Nat)
  /-- UNRETAINED_POISON_FILL_DONE (R431): Every line of an unretained channel has been written poisoned before CONFIG ends, and SEGMENTS_LOST is raised. -/
  | unretainedPoisonFillDone (c : Nat)
  /-- CHECKER_SELF_TEST_DONE (R421): The checker self-test that runs at each entry to CONFIG completes, and it sets or clears blocker [0] and the bits of 0xB040:05. -/
  | checkerSelfTestDone (channels : List Nat) (journalA journalB comparators monitors : Bool) (replicas : List Nat) (slices : List Nat)
  /-- NODE_REJOIN (R434): A write to 0x2000:05 arms a shadow node to join at the next tide. -/
  | nodeRejoin (r : Req) (node : Nat)
  /-- PROCESSOR_WATCHDOG_EXPIRY (R25): The watchdog of the Sequencer, Steward or Warden expires, and the Keeper restarts that processor. -/
  | processorWatchdogExpiry (p : ProcId)
  /-- PROCESSOR_FAULT (R25): A control processor reports a fault and is restarted by the Keeper, with PROCESSOR_RESTART raised. -/
  | processorFault (p : ProcId)
  /-- KEEPER_WATCHDOG_EXPIRY (R25): The VKEEP hardware watchdog expires and restarts the Keeper. -/
  | keeperWatchdogExpiry
  /-- PROCESSOR_RESTART_DONE (R26): A restarted processor resumes its duties from unit and NVM state, and the paused work of R26 continues. -/
  | processorRestartDone (p : ProcId)
  /-- RESTART_LIMIT_EXPIRY (R26): A processor restart has not completed within 50 ms, which ends the journal guarantee, and the node enters HALTED. -/
  | restartLimitExpiry (p : ProcId)
  /-- DICTIONARY_WRITE (R444): A write to an object that has no row of its own is checked under R444 and applied, set-wide under R9 where the object is set-wide. -/
  | dictionaryWrite (r : Req) (idx sub : Nat) (value : List Byte)
  /-- REGION_DESCRIPTOR_WRITE (R49): A write of a region descriptor is checked against the reason codes and takes effect at once in CONFIG or at the next tide. -/
  | regionDescriptorWrite (r : Req) (n : Nat) (value : List Byte)
  /-- PLAN_LOAD (R70): The LOAD command discards any loaded plan, and every node starts reading and checking the image. -/
  | planLoad (r : Req)
  /-- PLAN_ARM (R70): The ARM command arms the loaded plan for the target tide chosen under R77. -/
  | planArm (r : Req)
  /-- PLAN_STOP (R70): The STOP command arms the empty plan for the target tide. -/
  | planStop (r : Req)
  /-- PLAN_DISCARD (R70): The DISCARD command returns a LOADED or REFUSED plan state to EMPTY. -/
  | planDiscard (r : Req)
  /-- PLAN_DISARM (R70): The DISARM command returns an armed plan to its earlier state before the commit point, and is DENIED after it. -/
  | planDisarm (r : Req)
  /-- PLAN_IMAGE_CHECKED (R71): Every node has finished its checks of the plan image, and the plan becomes LOADED or REFUSED. -/
  | planImageChecked (reason place detail : Nat) (rejoin : Bool) (id crc : Nat)
  /-- PLAN_LOAD_TIMEOUT (R71): A LOAD is neither loaded nor refused within 2 s and ends with refusal reason 0x01. -/
  | planLoadTimeout
  /-- FRAME_BOUNDARY (R54): A plan frame begins at set time E + f·5,120/3 ns, and frame-bound changes such as ladder levels and derate ends take effect. -/
  | frameBoundary
  /-- TIDE (R76): A tide frame is reached: plan-bound settings, pending descriptors and fence rules take effect, and at a switching tide the plan swaps. -/
  | tide
  /-- TIDE_PREPARE_POINT (R78): At 8 frames before an armed tide, the lead node sends PREPARE to every reachable node. -/
  | tidePreparePoint
  /-- COMMIT_POINT (R78): At 4 frames before the tide, the lead node sends COMMIT or DEFER according to the votes. -/
  | commitPoint
  /-- TIDE_DECISION_MISSING (R78): A node reaches 1 frame before the tide without COMMIT or DEFER, raises TIDE_ISOLATED and keeps its active plan. -/
  | tideDecisionMissing
  /-- TIDE_SWITCH_RETIRED (R78): One frame after a switching tide, the old stream state is retired and TIDE_SWITCH is raised. -/
  | tideSwitchRetired
  /-- TIDE_INTERVAL_WRITE (R75): A write of the tide interval is checked against P and sets a new anchor at the next tide, or at once in CONFIG. -/
  | tideIntervalWrite (r : Req) (value : Nat)
  /-- FENCE_CLEAR (R86): A write to 0x2203:02 clears context fences at the next switching tide, for contexts that the new plan marks in_use. -/
  | fenceClear (r : Req) (mask : Nat)
  /-- CHANNEL_SLOT (R186): At each slot, a channel controller fixes the planned row and column commands, then the reserves, urgent refresh, open path and Gleaner. -/
  | channelSlot (c fault : Nat)
  /-- END (R94): The stream engine decodes END, and the program yields skip items without end. -/
  | streamEnd (n : Nat)
  /-- SETA (R94): The stream engine decodes SETA, which sets an address generator's base and resets its position. -/
  | streamSeta (n : Nat)
  /-- SETD (R94): The stream engine decodes SETD, which sets one dimension's count and stride and resets the generator's position. -/
  | streamSetd (n : Nat)
  /-- MOVE (R94): The stream engine decodes MOVE, which yields N line items at successive generator positions, masked where the instruction says so. -/
  | streamMove (n : Nat)
  /-- SKIP (R94): The stream engine decodes SKIP, which yields N skip items. -/
  | streamSkip (n : Nat)
  /-- MASK (R96): The stream engine decodes MASK and reads a mask line through the shared cache to govern later masked items. -/
  | streamMask (n : Nat)
  /-- WAIT (R94): The stream engine decodes WAIT, which holds later line items until a synchronisation object reaches the threshold, and registers a watch. -/
  | streamWait (n : Nat)
  /-- SIGNAL (R94): The stream engine decodes SIGNAL, which adds the addend to an object once every earlier line item has landed or been written. -/
  | streamSignal (n : Nat)
  /-- REPEAT (R94): The stream engine decodes REPEAT, which jumps back to an earlier instruction the given number of times. -/
  | streamRepeat (n : Nat)
  /-- FMT (R94): The stream engine decodes FMT, which sets the format entry, or raw mode, for later line items. -/
  | streamFmt (n : Nat)
  /-- MASK_READ_DONE (R96): The mask line read completes and becomes the current mask. -/
  | maskReadDone (n : Nat)
  /-- WAIT_SATISFIED (R177): A watch notice shows that the object now meets the WAIT threshold, and the watch is removed. -/
  | waitSatisfied (n : Nat)
  /-- DRAIN_BEAT (R102): A DRAIN beat arrives on the up channel with feed lines of a drain stream, or is discarded and fences the context as an overrun. -/
  | drainBeat (t n : Nat) (h0 h1 : Option Nat)
  /-- FEED_CREDIT_RETURN (R101): A CREDIT beat arrives on the up channel and returns feed credits to the stream, capped at the ring size. -/
  | feedCreditReturn (t n amount : Nat)
  /-- LANDED_BEAT (R109): A LANDED beat arrives, and the pending feed SIGNAL takes effect. -/
  | landedBeat (t n : Nat)
  /-- UP_BEAT_DISCARDED (R106): An up beat of a rsvd kind, or one that names a stream the port does not serve, is discarded and counted. -/
  | upBeatDiscarded (port : Port)
  /-- FEED_PORT_TIMEOUT (R110): The tile has not taken a beat or returned LANDED within the port timeout, so the port goes down and its contexts are fenced. -/
  | feedPortTimeout (t : Nat) (beat : Bool)
  /-- PORT_READY_WITHDRAWN (R110): A tile or real-time port withdraws its ready, and the port goes down. -/
  | portReadyWithdrawn (port : Port)
  /-- PORT_READY_ASSERTED (R121): A tile asserts ready, and its feed port comes up. -/
  | portReadyAsserted (port : Port)
  /-- STALL_TIMEOUT (R117): A stream with nonzero lag has issued no line for the stall timeout, so its context is fenced with cause 0x02. -/
  | stallTimeout (n : Nat)
  /-- FENCE_REQUEST (R117): A write to 0x2300:05 fences each named context with cause 0x01. -/
  | fenceRequest (r : Req) (mask : Nat)
  /-- ENGINE_FAULT (R120): A stream engine faults: it is reset, its contexts are fenced and its buffers are lost. -/
  | engineFault (e : Nat)
  /-- PORT_REJOIN (R110): A write to 0x2322:t arms a shadow feed port to join at the next tide. -/
  | portRejoin (r : Req) (t : Nat)
  /-- ENGINE_REJOIN (R120): A write to 0x5000+e:08 arms a shadow engine to join at the next switching tide. -/
  | engineRejoin (r : Req) (e : Nat)
  /-- DRAIN_LINE_NARROWED (R143): Narrowing of a drain line finishes, 2.5 ns after its last feed line arrives, and the line becomes ready or is escaped. -/
  | drainLineNarrowed (n : Nat)
  /-- ESCAPE_READ_DONE (R144): The escape reads of an escaped home line complete; the pointer, stamps and generations are checked and the line is widened or poisoned. -/
  | escapeReadDone
  /-- POOL_RESET (R147): A write to 0x2401:01 requests a reset of escape pool r. -/
  | poolReset (r : Req) (d : Nat)
  /-- BEYOND_BOUND_CLEAR (R146): A write to 0x2441:01 clears region r's beyond-bound flag. -/
  | beyondBoundClear (r : Req) (d : Nat)
  /-- STANDING_ENTRY_WRITE (R149): A write of a standing format entry is checked under R133 and applied set-wide, or refused. -/
  | standingEntryWrite (r : Req) (x : Nat) (value : List Byte)
  /-- FORMAT_UNIT_FAULT (R151): A widen/narrow unit faults: it is reset, formatted contexts are fenced and formatted traffic completes UNREACHABLE. -/
  | formatUnitFault (u : Nat)
  /-- UNIT_REJOIN (R151): A write to 0x2420+u:10 arms a shadow widen/narrow unit to join at the next switching tide. -/
  | unitRejoin (r : Req) (u : Nat)
  /-- OPEN_READ (R217): A READ request arrives, passes the arrival checks and is offered for a read queue entry or served by the cache. -/
  | openRead (q : Side) (a : Nat)
  /-- OPEN_WRITE (R217): A WRITE request arrives with data and a byte mask and is offered for a write queue entry. -/
  | openWrite (q : Side) (a mask data : Nat)
  /-- OPEN_WIDEN (R148): A WIDEN request arrives; the stored line is read and widened under a standing entry, and one feed line is returned. -/
  | openWiden (q : Side) (a x j : Nat)
  /-- SWAP (R164): The atomic function SWAP sets the field to a in its home slice. -/
  | atomicSwap (q : Side) (a offset : Nat) (wide fetch : Bool) (x : Nat)
  /-- CAS (R164): The atomic function CAS sets the field to b when it equals a. -/
  | atomicCas (q : Side) (a offset : Nat) (wide fetch : Bool) (x y : Nat)
  /-- ADD (R164): The atomic function ADD adds a to the field, wrapping. -/
  | atomicAdd (q : Side) (a offset : Nat) (wide fetch : Bool) (x : Nat)
  /-- AND (R164): The atomic function AND takes the bitwise and of the field with a. -/
  | atomicAnd (q : Side) (a offset : Nat) (wide fetch : Bool) (x : Nat)
  /-- OR (R164): The atomic function OR takes the bitwise or of the field with a. -/
  | atomicOr (q : Side) (a offset : Nat) (wide fetch : Bool) (x : Nat)
  /-- XOR (R164): The atomic function XOR takes the bitwise xor of the field with a. -/
  | atomicXor (q : Side) (a offset : Nat) (wide fetch : Bool) (x : Nat)
  /-- SMIN (R164): The atomic function SMIN keeps the signed minimum of the field and a. -/
  | atomicSmin (q : Side) (a offset : Nat) (wide fetch : Bool) (x : Nat)
  /-- SMAX (R164): The atomic function SMAX keeps the signed maximum of the field and a. -/
  | atomicSmax (q : Side) (a offset : Nat) (wide fetch : Bool) (x : Nat)
  /-- UMIN (R164): The atomic function UMIN keeps the unsigned minimum of the field and a. -/
  | atomicUmin (q : Side) (a offset : Nat) (wide fetch : Bool) (x : Nat)
  /-- UMAX (R164): The atomic function UMAX keeps the unsigned maximum of the field and a. -/
  | atomicUmax (q : Side) (a offset : Nat) (wide fetch : Bool) (x : Nat)
  /-- FADD (R164): The atomic function FADD adds a to the field in binary32. -/
  | atomicFadd (q : Side) (a offset : Nat) (wide fetch : Bool) (x : Nat)
  /-- FMIN (R164): The atomic function FMIN keeps the binary32 minimum of the field and a, NaN if either is NaN. -/
  | atomicFmin (q : Side) (a offset : Nat) (wide fetch : Bool) (x : Nat)
  /-- FMAX (R164): The atomic function FMAX keeps the binary32 maximum of the field and a, NaN if either is NaN. -/
  | atomicFmax (q : Side) (a offset : Nat) (wide fetch : Bool) (x : Nat)
  /-- INCWRAP (R164): The atomic function INCWRAP increments the field, or wraps it to 0 once it reaches a. -/
  | atomicIncwrap (q : Side) (a offset : Nat) (wide fetch : Bool) (x : Nat)
  /-- ATOMIC_READ (R164): The atomic function READ returns the field unchanged. -/
  | atomicRead (q : Side) (a offset : Nat) (wide : Bool)
  /-- FLUSH (R159): The atomic function FLUSH writes the line back and completes once the line is clean. -/
  | atomicFlush (q : Side) (a offset : Nat) (wide : Bool)
  /-- REDUCE (R169): A reduce-into contribution arrives, and the home slice accepts, stages, refuses or denies it. -/
  | reduce (q : Side) (a : Nat) (w : RedWord) (data : Nat)
  /-- CONTRIBUTION_APPLY (R170): A lane applies the next contribution of a reduction, then any staged contribution whose index follows. -/
  | contributionApply (a : Nat)
  /-- REDUCE_TIMEOUT (R173): The reduce timeout passes with contributions missing, and the reduction breaks. -/
  | reduceTimeout
  /-- CLOSED_RECORD_EXPIRY (R171): A closed-reduction record reaches the reduce timeout and is dropped. -/
  | closedRecordExpiry
  /-- SYNC_READ (R175): The synchronisation operation READ returns the object state. -/
  | syncRead (q : Side) (obj : Nat)
  /-- SYNC_SET (R175): The synchronisation operation SET sets the value and clears both flags. -/
  | syncSet (q : Side) (obj value : Nat)
  /-- SYNC_ADD (R175): The synchronisation operation ADD adds to the value with saturation and returns the old state. -/
  | syncAdd (q : Side) (obj addend : Nat)
  /-- SYNC_SIGNAL (R175): The synchronisation operation SIGNAL adds to the value with saturation and completes with STATUS. -/
  | syncSignal (q : Side) (obj addend : Nat)
  /-- SYNC_WAIT (R177): The synchronisation operation WAIT takes a waiter entry and completes once the value reaches the threshold. -/
  | syncWait (q : Side) (obj threshold : Nat)
  /-- SYNC_RESET (R175): The synchronisation operation RESET zeroes the value and clears both flags. -/
  | syncReset (q : Side) (obj : Nat)
  /-- SYNC_WAIT_TIMEOUT (R175): A core or port WAIT reaches the wait timeout and completes with bit [34] clear. -/
  | syncWaitTimeout
  /-- SYNC_OBJECT_WRITE (R182): A dictionary write to 0x2540+g:n sets an object's value as SET does. -/
  | syncObjectWrite (r : Req) (o value : Nat)
  /-- CACHE_MISS_FILL (R158): A line fetched for a cache miss returns and is allocated under the class policy, then serves the waiting request. -/
  | cacheMissFill
  /-- WRITEBACK_AGE_EXPIRY (R159): A dirty line reaches the writeback age and is written back. -/
  | writebackAgeExpiry
  /-- FLUSH_ALL (R159): A write of 1 to 0x2500:06 writes back every dirty line and completes when all are written back. -/
  | flushAll (r : Req)
  /-- WRITE_BACK_ACCEPTED (R159): The channel accepts a write-back into its write queue, and the line counts as clean. -/
  | writeBackAccepted (x : Nat)
  /-- SLICE_FAULT (R161): A cache slice faults, and its partner takes over its sets and objects from the mirrors, or the pair goes out. -/
  | sliceFault (x : Nat)
  /-- SLICE_TAKEN_OVER (R161): The partner completes its takeover and serves both slices unmirrored. -/
  | sliceTakenOver (x : Nat) (repaired : Bool)
  /-- SLICE_REJOIN (R161): A write to 0x2510+x:08 arms a shadow slice to rejoin at the next tide. -/
  | sliceRejoin (r : Req) (x : Nat)
  /-- REFRESH_INTERVAL_TICK (R200): At each tREFIpb phase of a bank, its refresh debt rises by 1, and it becomes urgent at +8. -/
  | refreshIntervalTick (c bank : Nat)
  /-- REFRESH_CLASS_CHANGE (R201): The Steward changes a sheaf's refresh class, and the debts are rescaled with urgent refreshes down to 4. -/
  | refreshClassChange (u : Nat)
  /-- SELF_REFRESH_ENTRY (R203): A channel stops accepting requests, drains, settles refresh, issues PREab and SRE and stops its clock. -/
  | selfRefreshEntry (c : Nat)
  /-- SELF_REFRESH_EXIT (R205): Once the channel clock is stable, SRX is issued and after tXS every debt is set to 0 and service resumes. -/
  | selfRefreshExit (c : Nat)
  /-- DEEP_SEGMENT_POISON_DONE (R205): The lines of the segments not retained have been written poisoned on DEEP exit, and SEGMENTS_LOST is raised. -/
  | deepSegmentPoisonDone (c : Nat)
  /-- CHANNEL_FAULT (R208): A channel controller faults: the watchdog issues PREab and SRE, and the controller resets and restores its training. -/
  | channelFault (c : Nat) (placed : Bool)
  /-- CHANNEL_RECOVERED (R208): Recovery of a controller completes, its queued and unconfirmed work is reissued and service resumes. -/
  | channelRecovered (c : Nat) (ok : Bool)
  /-- CHANNEL_RECOVERY_TIMEOUT (R209): Recovery has not completed within 50 ms, so the channel fails and its queued reads complete UNREACHABLE. -/
  | channelRecoveryTimeout (c : Nat)
  /-- CHANNEL_REJOIN (R211): A write to 0x4000+c:1C arms a shadow channel to join at the next tide. -/
  | channelRejoin (r : Req) (c : Nat)
  /-- FILL_READ_RETURN (R192): The fill read of a partial write returns, and the bytes are merged or the write completes POISONED. -/
  | fillReadReturn (c : Nat)
  /-- READ_RETURN (R246): The data of a read returns and is checked, and a failed read opens or joins a recovery record. -/
  | readReturn (c : Nat)
  /-- WRITE_CONFIRM (R265): 16 slots pass after a write command without an alert, and the write is confirmed. -/
  | writeConfirm (c : Nat)
  /-- ALERT_SAMPLED (R523): The controller samples ALERT_n low, attributes it to one command and acts on it as the table gives. -/
  | alertSampled (c back : Nat)
  /-- MISSING_DATA_BEATS (R524): No DQS preamble arrives within the read gate of a read, which is therefore failed or reissued. -/
  | missingDataBeats (c : Nat)
  /-- OFFER_HOLD_EXPIRY (R228): An offered request is not granted within the offer hold and completes RETRY_LATER. -/
  | offerHoldExpiry
  /-- QUEUE_ENTRY_GRANT (R229): A queue entry becomes free and is granted to the highest tier under WFQ, which accepts the request. -/
  | queueEntryGrant (c : Nat) (write : Bool)
  /-- COMPLETION_DELIVERY (R269): The receiving port takes a completion beat, and the journal entry is retired when the rule allows. -/
  | completionDelivery (port : Port)
  /-- REGULATOR_WINDOW_START (R225): A partition's window begins, and its carry, allowance and used count are reset. -/
  | regulatorWindowStart (n : Nat)
  /-- PANIC_INPUT_TAKEN (R233): A change of sv_panic[p] is taken and changes the panic level in force. -/
  | panicInputTaken (p level : Nat)
  /-- PANIC_STUCK (R234): A nonzero panic level lasts for the panic limit, so the port is held at level 0b00. -/
  | panicStuck (p : Nat)
  /-- PANIC_RELEASED (R234): The filtered panic input has read 0b00 for 1 µs, and the hold ends. -/
  | panicReleased (p : Nat)
  /-- DEGRADE_STEP_END (R235): 64 consecutive frames pass without an occurrence of a degradation step, and the step ends. -/
  | degradeStepEnd (n : Nat)
  /-- QOS_STATE_FAULT (R238): Meter, shaper, regulator or tag state fails its check and is reset to its start value. -/
  | qosStateFault (kind n : Nat)
  /-- RECOVERY_RECORD_FREED (R247): A recovery record is freed, and a failed read that waited for one takes it. -/
  | recoveryRecordFreed (c : Nat)
  /-- REREAD_RETURN (R248): The re-read completes: its data is delivered if it passes, otherwise recovery moves to restore or poison. -/
  | rereadReturn (c : Nat)
  /-- RESTORE_READ_DONE (R248): The backing restore read completes, and the line is rewritten from backing or poisoned. -/
  | restoreReadDone (c : Nat)
  /-- GLEANER_SLOW (R254): A lap passes its target before it ends. -/
  | gleanerSlow (c : Nat)
  /-- TRACKER_AGE_EXPIRY (R256): A weak-line tracker entry reaches 1,440 minutes and is freed. -/
  | trackerAgeExpiry (c : Nat)
  /-- HEAL_WRITE_CONFIRMED (R257): A heal write is confirmed, the tracker entry is marked healed and LINE_HEALED is raised. -/
  | healWriteConfirmed (c : Nat)
  /-- ROW_MOVE_START (R259): A repair or retirement starts a row move, and the row's 8 lines are read into the move buffer. -/
  | rowMoveStart (c : Nat)
  /-- ROW_MOVE_BUFFER_COMPLETE (R259): The move buffer is full, so the soft repair is issued or the retirement target is allocated. -/
  | rowMoveBufferComplete (c : Nat)
  /-- ROW_MOVE_CONFIRMED (R259): The last write to the target is confirmed, the mapping changes and the action is logged. -/
  | rowMoveConfirmed (c : Nat)
  /-- RECONSTITUTE (R266): A write to 0xA003:01 starts reconstitution of a failed data channel by the sheaf's spare. -/
  | reconstitute (r : Req) (c : Nat)
  /-- DISPLACING_DONE (R266): Retired rows of other channels have been moved out of the spare, and filling begins. -/
  | displacingDone
  /-- RECONSTITUTION_DONE (R266): The reconstitution fill completes, and the spare is ready to join. -/
  | reconstitutionDone
  /-- COPY_BACK (R267): A write to 0xA003:05 starts copying the spare's lines back to a restored channel. -/
  | copyBack (r : Req) (c : Nat)
  /-- COPY_BACK_DONE (R267): The copy-back completes. -/
  | copyBackDone
  /-- JOURNAL_COPY_FAULT (R274): A journal entry fails its CRC in one copy, so that copy is taken out of service and rebuilt. -/
  | journalCopyFault (copyB : Bool)
  /-- JOURNAL_REBUILD_DONE (R274): The failed journal copy has been rebuilt and self-tested and returns to service. -/
  | journalRebuildDone
  /-- JOURNAL_LOST (R274): A journal entry fails in both copies, and the node enters HALTED. -/
  | journalLost
  /-- LOGIC_SENSOR_READ (R278): Every 10 µs the Steward reads the logic-side sensors. -/
  | logicSensorRead (readings : List Nat)
  /-- SENSOR_NO_READING (R279): A sensor has returned no valid reading for 4 scan intervals and becomes broken. -/
  | sensorNoReading (st n : Nat)
  /-- SENSOR_EXCLUDE (R280): A write of an exclusion mask in CONFIG inside an owner session replaces sensors, or is refused. -/
  | sensorExclude (r : Req) (logic : Bool) (st part mask : Nat)
  /-- HARDWARE_COMPARATOR (R282): A hardware comparator decides entry to T_emerg, T_trip or the junction trip from the next slot. -/
  | hardwareComparator
  /-- THROTTLE_ACK_TOGGLE (R284): A taken change of sv_throttle_ack acknowledges every outstanding throttle request, or is counted as spurious. -/
  | throttleAckToggle
  /-- THROTTLE_ACK_MISSING (R285): A throttle request goes unacknowledged for 100 µs, and stacks at level 2 or above are throttled as at level 3. -/
  | throttleAckMissing
  /-- GRACE_EXPIRED (R287): Collective grace runs out, and collective slots may then be taken. -/
  | graceExpired (st : Nat)
  /-- GRACE_REARM (R287): The stack has stayed below 97 °C for 100 ms, and grace is armed again. -/
  | graceRearm (st : Nat)
  /-- HALTED_SENSOR_CHECK (R289): Every 1 ms during a halt, the spare channel of each sheaf leaves self-refresh to read the sheaf's sensors. -/
  | haltedSensorCheck (st : Nat)
  /-- TRAFFIC_RESUMED (R290): The stack temperature falls below 102 °C, and the halted channels leave self-refresh and serve their work. -/
  | trafficResumed (st : Nat)
  /-- SHUTDOWN_RECORD_WRITTEN (R293): The Keeper writes the shutdown record to NVM after a trip. -/
  | shutdownRecordWritten
  /-- COOLED_RESTART (R294): Every sensor and the junction have read below their limits for 1 s, and start continues. -/
  | cooledRestart
  /-- SHUTDOWN_CLEAR (R294): A write to 0x9020:02 clears the shutdown record. -/
  | shutdownClear (r : Req)
  /-- THERMAL_FLAG_ALERT (R295): The Keeper reads a thermal flag of a layer on a spare channel's alert lane in self-refresh, and the trip starts. -/
  | thermalFlagAlert (c layer : Nat)
  /-- FULL_TRAINING_DONE (R304): Full training of a channel finishes its eight stages and sets the working centres. -/
  | fullTrainingDone (c : Nat) (words : List Nat) (lanes ca bad : Nat) (caOk : Bool)
  /-- TRAINING_TIMEOUT (R304): Full training has not finished within 500 ms, so it is retried or the channel is declared UNREACHABLE. -/
  | trainingTimeout (c : Nat)
  /-- RESTORED_TRAINING_DONE (R305): Restored training applies the NVM record and passes stage 8, or gives way to full training. -/
  | restoredTrainingDone (c : Nat) (ok : Bool)
  /-- TAP_STEP_CONFIRMED (R303): A one-tap step of a setting is confirmed by a passing burst. -/
  | tapStepConfirmed (c : Nat)
  /-- STEP_TIMEOUT (R303): A tap step is not confirmed within 50 µs, which is a calibration bad outcome. -/
  | stepTimeout (c g : Nat)
  /-- RETRAIN_ROUND_START (R307): The retrain interval or temperature drift starts a round that retrains each group in use. -/
  | retrainRoundStart (c : Nat)
  /-- GROUP_RETRAIN_DONE (R308): The sweep of one offline group ends, its centres are applied or it falls back, and the next group goes offline. -/
  | groupRetrainDone (c outcome rv wv : Nat) (delays : List Nat)
  /-- MARGIN_REQUEST (R317): A write to 0x4000+c:4A starts margining of a setting, or is refused. -/
  | marginRequest (r : Req) (c value : Nat)
  /-- MARGIN_DONE (R318): The margin sweep ends, and its result is placed in 0x4000+c:4B. -/
  | marginDone (c low high worst errors : Nat) (late : Bool)
  /-- RETRAIN_REQUEST (R313): A write to 0x4000+c:4C fully trains a failed channel again. -/
  | retrainRequest (r : Req) (c : Nat)
  /-- HELLO (R327): A HELLO parcel arrives after link up and is checked, and the port comes up or is refused. -/
  | hello (h node setNodes nstacks version nextHop setTag bundle : Nat)
  /-- JOIN_TIMEOUT (R326): A port's link has not come up within the join timeout and is refused with reason 0x01. -/
  | joinTimeout (h : Nat)
  /-- FORMATION_TIMEOUT (R326): The formation timeout passes, and the lowest reachable node checks quorum and forms the set. -/
  | formationTimeout
  /-- MEMBER (R326): A MEMBER parcel updates a node's view of membership and link state. -/
  | member (h : Nat) (hdr : Hdr) (node mask links : Nat)
  /-- FORMED (R326): A FORMED parcel arrives, and the node steps to the lead node's set time and takes the frame epoch. -/
  | formed (h : Nat) (hdr : Hdr) (lead mask time epoch : Nat)
  /-- FRAME_EPOCH (R329): Set time reaches the frame epoch E, and frame 0 begins. -/
  | frameEpoch
  /-- LOST (R345): A LOST parcel, or the node's own finding, declares a node lost and fences it, then quorum is checked. -/
  | lost (via : Option (Nat × Hdr)) (node mask : Nat)
  /-- LINK_STATE (R345): A LINK_STATE parcel reports links silent or down, and routes are recomputed. -/
  | linkState (h : Nat) (hdr : Hdr) (links : Nat)
  /-- FLOW_RESET (R333): A FLOW_RESET parcel gives a new base e2e sequence for a flow. -/
  | flowReset (h : Nat) (hdr : Hdr) (base : Nat)
  /-- PREPARE (R79): A PREPARE parcel for tide F arrives, and the node evaluates and sends its vote. -/
  | prepare (h : Nat) (hdr : Hdr) (frame plan : Nat)
  /-- VOTE (R78): A VOTE parcel arrives at the lead node and is held for the commit point. -/
  | vote (h : Nat) (hdr : Hdr) (frame vote : Nat)
  /-- COMMIT (R78): A COMMIT parcel commits the node to the switching tide. -/
  | commitTide (h : Nat) (hdr : Hdr) (frame : Nat)
  /-- DEFER (R78): A DEFER parcel re-arms the plan for the next tide, and arming fails after 16 deferrals. -/
  | deferTide (h : Nat) (hdr : Hdr) (frame : Nat)
  /-- OBJECT_WRITE (R30): An OBJECT_WRITE parcel applies a set-wide write in the lead node's order. -/
  | objectWrite (h : Nat) (hdr : Hdr) (idx sub order : Nat) (value : List Byte)
  /-- WARM_RESET_PARCEL (R344): A WARM_RESET parcel suspends the silent count toward the resetting node. -/
  | warmResetParcel (h : Nat) (hdr : Hdr) (node : Nat)
  /-- REJOIN (R347): A REJOIN parcel announces a returning node, which stays in shadow state. -/
  | rejoin (h : Nat) (hdr : Hdr) (node : Nat)
  /-- REQUEST_PARCEL (R334): A REQUEST parcel for another node arrives and is relayed or offered at the owning node. -/
  | requestParcel (h : Nat) (hdr : Hdr) (body : List Byte)
  /-- COMPLETION (R334): A COMPLETION parcel returns to the origin and answers or completes a forward-table request. -/
  | completionParcel (h : Nat) (hdr : Hdr) (body : List Byte)
  /-- ACCEPT (R334): An ACCEPT parcel returns, and the requester's handshake is answered ACCEPT. -/
  | acceptParcel (h : Nat) (hdr : Hdr)
  /-- DONE (R334): A DONE parcel reports a completion delivered and retires the owning node's entry. -/
  | doneParcel (h : Nat) (hdr : Hdr)
  /-- NOTICE (R177): A NOTICE parcel carries a change of a watched object to a watching node. -/
  | notice (h : Nat) (hdr : Hdr) (object value : Nat)
  /-- TIME (R342): A TIME parcel gives timestamps, and the node corrects its set-time rate toward its parent. -/
  | timeParcel (h tx echo echoRx rx : Nat)
  /-- KEEPALIVE (R344): A KEEPALIVE parcel arrives and resets the link's silent count. -/
  | keepalive (h : Nat)
  /-- HOP_ACK (R331): A HOP_ACK parcel acknowledges hop sequences and reports free base-lane room. -/
  | hopAck (h hop room : Nat)
  /-- PARCEL_MALFORMED (R325): A malformed parcel is discarded, and the link resets for a sequenced one. -/
  | parcelMalformed (h : Nat) (sequenced : Bool)
  /-- PARCEL_TRANSMIT (R338): A port can begin a parcel and sends the first eligible one by kind, rank, gate, shaper and fit. -/
  | parcelTransmit (h : Nat)
  /-- KEEPALIVE_SEND_TIMER (R344): A port that has sent nothing for 0.5 µs sends KEEPALIVE. -/
  | keepaliveSendTimer (h : Nat)
  /-- HOP_ACK_SEND_TIMER (R331): 100 ns pass since the last acknowledgement, and HOP_ACK is sent. -/
  | hopAckSendTimer (h : Nat)
  /-- TIME_SEND_TIMER (R342): Every 10 µs each side of an up link sends a TIME parcel. -/
  | timeSendTimer (h : Nat)
  /-- LINK_SILENT (R344): Nothing has arrived on a link for 2 µs, so the link is silent and LINK_STATE is flooded. -/
  | linkSilent (h : Nat)
  /-- LINK_RESET (R332): A UCIe link failure, retrain or port fault resets the link, which then replays after HELLO. -/
  | linkReset (h : Nat)
  /-- RETRAIN_LIMIT_EXPIRY (R332): A link is not up within the retrain limit, goes down and routes are recomputed. -/
  | retrainLimitExpiry (h : Nat)
  /-- WARM_RESET_LIMIT_EXPIRY (R429): A resetting node has not resumed within the warm-reset limit and is declared lost. -/
  | warmResetLimitExpiry (node : Nat)
  /-- TIME_OFFSET (R343): The set-time offset has exceeded ±5 ns for 100 µs. -/
  | timeOffset
  /-- TIME_UNSYNCHRONISED (R343): The offset has exceeded ±10 ns for 1 ms, and the time unit counts as faulted. -/
  | timeUnsynchronised
  /-- COALESCE_AGE_EXPIRY (R356): A dirty bale reaches the coalesce age and is written to its device. -/
  | coalesceAgeExpiry
  /-- BALE_WRITE_DONE (R356): A bale's device writes complete NDR, or fail and leave the bale stale. -/
  | baleWriteDone (bale : Nat) (ok : Bool)
  /-- BALE_READ_DONE (R357): A bale read returns and is verified, and a failure is retried once or reported to its readers. -/
  | baleReadDone (bale outcome : Nat)
  /-- BALE_READ_TIMEOUT (R357): A bale read has no completion within 100 µs and is retried or failed. -/
  | baleReadTimeout (bale : Nat)
  /-- TRANSFER_SUBMIT (R360): A descriptor written to 0x5C10:01 is checked and queued, or refused. -/
  | transferSubmit (r : Req) (value : List Byte)
  /-- TRANSFER_START (R362): A queued transfer starts once its wait object meets the threshold and fewer than 4 transfers run. -/
  | transferStart (held : Nat)
  /-- TRANSFER_DONE (R362): A transfer ends, signals its object and records its status. -/
  | transferDone (num : Nat)
  /-- LEDGER_ZEROING_DONE (R363): The whole bale ledger has been written to 0, and the far-tier port may serve traffic. -/
  | ledgerZeroingDone
  /-- FAR_PORT_DOWN (R363): The root port reports link down or a completion is missing for 100 µs, and the far-tier port goes down. -/
  | farPortDown
  /-- FAR_PORT_REJOIN (R363): A write to 0x5C00:0D returns a down far-tier port at the next tide. -/
  | farPortRejoin (r : Req)
  /-- GENERATE_XTS (R383): The key command GENERATE_XTS loads an empty slot with two XTS keys from the DRBG. -/
  | generateXts (r : Req) (world : Bool) (slot : Nat)
  /-- GENERATE_GCM (R383): The key command GENERATE_GCM loads an empty slot with one GCM key. -/
  | generateGcm (r : Req) (world : Bool) (slot : Nat)
  /-- IMPORT_VERIFY (R383): The key command IMPORT_VERIFY loads an empty slot with the staged verification key pair. -/
  | importVerify (r : Req) (world : Bool) (slot : Nat)
  /-- ERASE (R383): The key command ERASE overwrites a slot that is not named. -/
  | erase (r : Req) (world : Bool) (slot : Nat)
  /-- CLAIM (R379): The owner command CLAIM blows an epoch fuse, writes the owner record and sets the lifecycle to OWNED. -/
  | claim (r : Req)
  /-- TRANSFER (R379): The owner command TRANSFER zeroises, blows an epoch fuse and writes the record with the staged keys. -/
  | transferOwner (r : Req)
  /-- RELEASE (R379): The owner command RELEASE zeroises and erases the owner record. -/
  | release (r : Req)
  /-- ZEROISE (R387): The owner command ZEROISE runs zeroisation and keeps the owner record. -/
  | zeroise (r : Req)
  /-- ZEROISATION_POISON_DONE (R387): Every line of the Secure and sealed ranges has been written poisoned, and ZEROISED is raised. -/
  | zeroisationPoisonDone
  /-- GET_VERSION (R375): The SPDM request GET_VERSION is answered with version 1.3. -/
  | getVersion (r : Req)
  /-- GET_CAPABILITIES (R375): The SPDM request GET_CAPABILITIES is answered with the responder's capabilities. -/
  | getCapabilities (r : Req)
  /-- NEGOTIATE_ALGORITHMS (R375): The SPDM request NEGOTIATE_ALGORITHMS selects the supported algorithms. -/
  | negotiateAlgorithms (r : Req) (ecdsa mlDsa sha384 secp384 gcm : Bool)
  /-- GET_DIGESTS (R375): The SPDM request GET_DIGESTS returns the digests of the certificate chains. -/
  | getDigests (r : Req)
  /-- GET_CERTIFICATE (R374): The SPDM request GET_CERTIFICATE returns part of chain slot 0 or 1, or an error if the identity record is bad. -/
  | getCertificate (r : Req) (slot offset length : Nat)
  /-- CHALLENGE (R375): The SPDM request CHALLENGE is answered with a signature by the Alias key. -/
  | challenge (r : Req) (slot nonce : Nat)
  /-- GET_MEASUREMENTS (R376): The SPDM request GET_MEASUREMENTS returns the six measurement blocks. -/
  | getMeasurements (r : Req) (index nonce : Nat) (sign : Bool)
  /-- KEY_EXCHANGE (R377): The SPDM request KEY_EXCHANGE opens a secured session, up to four. -/
  | keyExchange (r : Req) (slot : Nat) (mutAuth : Bool)
  /-- FINISH (R378): The SPDM request FINISH completes a session, and an owner session when the requester signature verifies. -/
  | finish (r : Req) (id : Nat) (ml : Bool) (signature : List Byte)
  /-- HEARTBEAT (R377): The SPDM request HEARTBEAT keeps a secured session alive. -/
  | heartbeat (r : Req) (id : Nat)
  /-- KEY_UPDATE (R375): The SPDM request KEY_UPDATE updates a session's keys. -/
  | keyUpdate (r : Req) (id : Nat)
  /-- END_SESSION (R377): The SPDM request END_SESSION ends a secured session. -/
  | endSession (r : Req) (id : Nat)
  /-- RESPOND_IF_READY (R375): The SPDM request RESPOND_IF_READY returns a deferred response. -/
  | respondIfReady (r : Req)
  /-- CHUNK_SEND (R462): The SPDM request CHUNK_SEND carries one chunk of a large message. -/
  | chunkSend (r : Req) (seq : Nat) (last : Bool) (data : List Byte)
  /-- CHUNK_GET (R462): The SPDM request CHUNK_GET returns one chunk of a large response. -/
  | chunkGet (r : Req) (seq : Nat)
  /-- SPDM_UNSUPPORTED_REQUEST (R375): Any other SPDM request is answered UnsupportedRequest and counted. -/
  | spdmUnsupportedRequest (r : Req)
  /-- SESSION_IDLE_TIMEOUT (R377): A secured session has had no message for the idle timeout and ends. -/
  | sessionIdleTimeout (id : Nat)
  /-- DEBUG_UNLOCK (R389): A debug-unlock instruction reaches the Warden and is refused or runs zeroisation and sets the debug flag. -/
  | debugUnlock (code : Nat)
  /-- SLACK_MEASUREMENT (R394): Every 1 µs the replica delay lines are measured, and the slack reading and slack state are updated. -/
  | slackMeasurement (counts : List (Option Nat))
  /-- SLACK_CLEARED (R395): 64 consecutive frames read 600 ps or less, so the slack state returns to normal and the slack derate ends. -/
  | slackCleared
  /-- VREQ_LOWER_TIMER (R396): Readings have been 480 ps or less for 1 ms, and sv_vreq may show 0b10. -/
  | vreqLowerTimer
  /-- CLOCK_MONITOR_WINDOW (R404): A monitor window ends or overruns, and the monitored clock trips when its count is out of tolerance. -/
  | clockMonitorWindow (m count : Nat) (ended lock kfoOff ksoOff : Bool)
  /-- SOURCE_STABLE (R398): An oscillator, reference or PLL completes its stability count, and gated domains may start on it. -/
  | sourceStable (m : Nat)
  /-- FALLBACK_TIMEOUT (R406): A fallback is not stable within 4 times its count, so the Keeper moves to KSO and the node halts. -/
  | fallbackTimeout (d : Nat)
  /-- DIVIDER_STEP (R402): Every 1 µs a domain's divider steps by 1 toward its target. -/
  | dividerStep (d : Nat)
  /-- REF_B_ABSENT (R397): sv_ref_b shows no edge within 2.62 ms of VKEEP good and is treated as absent. -/
  | refBAbsent
  /-- KSO_TRIM_MEASUREMENT (R403): A KSO measurement completes, and the trim code moves one step toward zero error. -/
  | ksoTrimMeasurement (plca : Bool) (count expected : Nat)
  /-- OSC_TRIM_STALE (R403): No trim reference has been usable for 10 s. -/
  | oscTrimStale
  /-- CLOCK_ENABLE_WRITE (R408): A write to 0x2020:01 or :02 gates or ungates units, or is refused. -/
  | clockEnableWrite (r : Req) (sub value : Nat)
  /-- CROSSING_RESET (R409): One side of a domain crossing drops ready, and the live side refuses unaccepted requests and holds items. -/
  | crossingReset (x : Crossing)
  /-- CROSSING_REOPENED (R409): The resynchronisation exchange completes, and each side resends its replay store. -/
  | crossingReopened (x : Crossing)
  /-- SEG_START (R450): SEG_START opens a segmented write session after the first checks of R444. -/
  | segStart (r : Req) (idx sub total base : Nat)
  /-- SEG_DATA (R450): SEG_DATA carries the next bytes of a session, or is refused when out of order. -/
  | segData (r : Req) (idx sub offset : Nat) (data : List Byte)
  /-- SEG_END (R450): SEG_END checks completeness and the CRC-32C and applies the whole value in one step. -/
  | segEnd (r : Req) (idx sub crc : Nat)
  /-- SEG_ABORT (R450): SEG_ABORT closes a session without effect. -/
  | segAbort (r : Req) (idx sub : Nat)
  /-- SESSION_DROPPED (R450): A segmented session has received nothing for 1 s and is closed without effect. -/
  | sessionDropped (src : Source) (idx sub : Nat)
  /-- FRAME_MALFORMED (R441): A malformed Taette frame is discarded without a response. -/
  | frameMalformed
  /-- RECEIVE_BUFFER_FULL (R439): A frame arrives with the 8-frame receive buffer full and is dropped. -/
  | receiveBufferFull
  /-- NOTIFY_RESPONSE (R457): A subscriber's NOTIFY response acknowledges the outstanding notification. -/
  | notifyResponse (n seq : Nat)
  /-- NOTIFY_RETRY_TIMER (R457): An unanswered notification is sent again after the notify retry, or is given up. -/
  | notifyRetryTimer (n : Nat)
  /-- HEARTBEAT_TIMER (R452): Every heartbeat period the node sends a HEARTBEAT. -/
  | heartbeatTimer
  /-- PARTNER_HEARTBEAT (R453): A HEARTBEAT from a partner is recorded, and PARTNER_FOUND is raised when the partner is new. -/
  | partnerHeartbeat (address node state period : Nat)
  /-- PARTNER_LOST (R453): No partner heartbeat arrives for three of its periods plus 15 ms. -/
  | partnerLost
  /-- PLCA_STATUS_CHANGE (R438): PLCA status becomes inactive, and the MAC falls back to CSMA/CD. -/
  | plcaStatusChange (active : Bool)
  /-- DOORBELL (R463): The SoC rings the dictionary window doorbell, and the Keeper carries out the request in REQ_BUF. -/
  | doorbell (message : List Byte)
  /-- RSP_ACK (R548): A write to RSP_ACK releases the response buffer. -/
  | rspAck
  /-- RING_POP (R548): A write to RING_POP removes the oldest notification ring entry. -/
  | ringPop
  /-- ALARM_CLEAR (R458): A write of 1 to 0x1040:0A releases sv_alarm_n. -/
  | alarmClear (r : Req)
  /-- LOG_CLEAR (R471): A write of 1 to 0x1040:09 empties the event log. -/
  | logClear (r : Req)
  /-- MIRROR_CLEAR (R459): A write of 1 to 0x1041:05 empties the NVM mirror. -/
  | mirrorClear (r : Req)
  /-- NVM_RECORD_WRITE (R469): A record copy is erased, programmed and read back, and then the other copy. -/
  | nvmRecordWrite (area index : Nat)
  /-- NVM_WRITE_FAILED (R470): A copy fails twice and is taken out of use until the next start. -/
  | nvmWriteFailed (area index : Nat) (copyB : Bool)
  /-- PERSIST_GATHER_TIMER (R469): Persisted writes gathered over 1 s are written as one record. -/
  | persistGatherTimer
  /-- UPDATE_BEGIN (R477): The update command BEGIN takes the staging length and clears the block map. -/
  | updateBegin (r : Req)
  /-- UPDATE_VERIFY (R477): The update command VERIFY starts verification of the staged bundle. -/
  | updateVerify (r : Req)
  /-- UPDATE_ACTIVATE (R481): The update command ACTIVATE arms every node once all read VERIFIED with one version. -/
  | updateActivate (r : Req) (others : Bool)
  /-- UPDATE_DISCARD (R477): The update command DISCARD clears the block map and the armed mark. -/
  | updateDiscard (r : Req)
  /-- VERIFICATION_DONE (R476): Bundle verification ends in VERIFIED or REFUSED with a reason. -/
  | verificationDone
  /-- IMAGE_SELECTION (R482): At power-on or set reset, the Keeper ROM boots, copies or enters RECOVERY. -/
  | imageSelection (usable : Bool) (density mode : Nat)
  /-- SLOT_COPY_DONE (R482): The copy of the staging slot to the active slot completes and verifies. -/
  | slotCopyDone
  /-- SNAPSHOT_REQUEST (R492): A write to 0x7000:01 requests a snapshot at set time T. -/
  | snapshotRequest (r : Req) (time : Nat)
  /-- SNAPSHOT_CAPTURE (R493): Set time reaches T, and every bank copies its counters. -/
  | snapshotCapture
  /-- BANK_CLEAR (R491): A write to b:04 zeroes a bank's counters and sticky bits. -/
  | bankClear (r : Req) (bank : Nat)
  /-- CLEAR_ALL (R491): A write to 0x7000:06 clears every bank of every reachable node. -/
  | clearAll (r : Req)
  /-- BANK_FILTER_WRITE (R490): A write to a bank's filter word or range is checked and applied to later occurrences. -/
  | bankFilterWrite (r : Req) (bank sub value : Nat)
  /-- SAMPLE_CONTROL_WRITE (R496): A write to 0x7100:01 sets the sampler and reloads the LFSR and countdown. -/
  | sampleControlWrite (r : Req) (value : Nat)
  /-- LFSR_SEED_WRITE (R496): A write to 0x7100:05 reloads the LFSR and countdown. -/
  | lfsrSeedWrite (r : Req) (value : Nat)
  /-- CONSUMED_WRITE (R499): A write to 0x7100:08 frees sample records before the given sequence number. -/
  | consumedWrite (r : Req) (seq : Nat)
  /-- ACT (R510): The layer command ACT opens a row. -/
  | layerAct (c layer bank row : Nat)
  /-- PRE (R510): The layer command PRE precharges one bank. -/
  | layerPre (c layer bank : Nat)
  /-- PREAB (R510): The layer command PREab precharges every bank of a layer or of the channel. -/
  | layerPreab (c layer : Nat) (all : Bool)
  /-- MRWB (R513): The layer command MRWB writes a mode register in every layer. -/
  | layerMrwb (c addr data : Nat)
  /-- MRW (R513): The layer command MRW writes a mode register in one layer. -/
  | layerMrw (c layer addr data : Nat)
  /-- SRE (R530): The layer command SRE places every layer in self-refresh with a class and a segment mask. -/
  | layerSre (c cls mask : Nat)
  /-- SRX (R532): The layer command SRX takes the layers out of self-refresh. -/
  | layerSrx (c : Nat)
  /-- RPR (R527): The layer command RPR soft- or hard-maps a row to a spare row as REPAIR_SETUP gives. -/
  | layerRpr (c layer bank row : Nat)
  /-- HARD_REPAIR_DONE (R528): tHPR has passed, and the controller reads STATUS for the hard repair result. -/
  | hardRepairDone (c layer : Nat) (verified : Bool)
  /-- RD (R510): The layer command RD reads a line. -/
  | layerRd (c layer bank line : Nat) (autoPre : Bool)
  /-- RDC (R511): The layer command RDC drives the chaff pattern in place of the line. -/
  | layerRdc (c layer bank line : Nat) (autoPre : Bool)
  /-- WR (R510): The layer command WR writes a line, or draws a write capture alert. -/
  | layerWr (c layer bank line : Nat) (autoPre preamble : Bool) (burst : Nat)
  /-- MRR (R515): The layer command MRR drives 8 register bytes on the register path. -/
  | layerMrr (c layer addr : Nat)
  /-- REFPB (R525): The layer command REFpb refreshes two rows in each selected bank. -/
  | layerRefpb (c layer bank mask : Nat)
  /-- RDP (R518): The calibration sub-operation RDP drives one pattern read burst. -/
  | layerRdp (c layer : Nat)
  /-- WRP (R518): The calibration sub-operation WRP compares a write burst with the pattern and records errors. -/
  | layerWrp (c layer : Nat) (all preamble : Bool) (burst : Nat)
  /-- ERRCLR (R518): The calibration sub-operation ERRCLR clears ERRORS. -/
  | layerErrclr (c layer : Nat) (all : Bool)
  /-- PRESET (R518): The calibration sub-operation PRESET loads every pattern generator. -/
  | layerPreset (c layer : Nat) (all : Bool)
  /-- LBW (R518): The calibration sub-operation LBW captures a write burst into the loopback buffer. -/
  | layerLbw (c layer : Nat) (preamble : Bool) (burst : Nat)
  /-- LBR (R518): The calibration sub-operation LBR drives the loopback buffer as a read burst. -/
  | layerLbr (c layer : Nat)
  /-- COMMAND_PARITY_ERROR (R520): A command fails parity and is ignored by every layer, which asserts ALERT_n. -/
  | commandParityError (c : Nat)
  /-- RESET_PATTERN (R534): CA and CAP are all 1 for 64 ck, and the layer resets into held mode. -/
  | resetPattern (c : Nat)
  /-- CA_CAPTURE_EXIT (R519): The layer leaves CA capture mode after 8 all-one edges or 16,384 ck. -/
  | caCaptureExit (c layer : Nat)
  /-- LAYER_SENSOR_CONVERSION (R505): A layer sensor completes a conversion and updates its reading and thermal flag. -/
  | layerSensorConversion (st layer sensor code : Nat)
  /-- POWER_WARN_TAKEN (R554): A taken change of sv_power_warn enters or leaves reduced mode. -/
  | powerWarnTaken (level : Bool)
  /-- STRAP_SAMPLE (R552): The straps are sampled when KFO becomes stable, and again at each set reset release. -/
  | strapSample (nodeId setSize : Nat) (recovery : Bool)
  /-- WS_BYPASS (R555): The wrapper instruction WS_BYPASS selects the 1-bit bypass register. -/
  | wsBypass
  /-- WS_EXTEST (R555): The held wrapper instruction WS_EXTEST drives and captures the port signals. -/
  | wsExtest
  /-- WS_INTEST_SCAN (R555): The held debug-unlock instruction WS_INTEST_SCAN scans the whole block. -/
  | wsIntestScan
  /-- SV_IDCODE (R555): The wrapper instruction SV_IDCODE returns the hardware version and 0x5658. -/
  | svIdcode
  /-- SV_STATUS (R555): The wrapper instruction SV_STATUS returns the node state, blockers and self-test result. -/
  | svStatus
  /-- SV_MBIST_LOGIC (R555): The held wrapper instruction SV_MBIST_LOGIC self-tests the buffers and channel queues. -/
  | svMbistLogic
  /-- SV_MBIST_CACHE (R555): The held debug-unlock instruction SV_MBIST_CACHE self-tests the cache arrays. -/
  | svMbistCache
  /-- SV_MBIST_VKEEP (R555): The held debug-unlock instruction SV_MBIST_VKEEP self-tests the journal, object store and key store. -/
  | svMbistVkeep
  /-- SV_SDI_LOOP (R555): The held wrapper instruction SV_SDI_LOOP runs loopback inside each PHY. -/
  | svSdiLoop
  /-- SV_DRAM_ACCESS (R555): The held debug-unlock instruction SV_DRAM_ACCESS issues SDI commands directly. -/
  | svDramAccess
  /-- SV_PROC_DEBUG (R555): The held debug-unlock instruction SV_PROC_DEBUG halts, steps and accesses the Sequencer, Steward and Keeper. -/
  | svProcDebug
  /-- SV_WARDEN_DEBUG (R555): The held debug-unlock instruction SV_WARDEN_DEBUG halts, steps and accesses the Warden. -/
  | svWardenDebug
  /-- LINK_TRAINING_DONE (R332): UCIe link training or retraining of a Headland port ends, with the link up on its working modules or failed, and the port sends HELLO or is refused. -/
  | linkTrainingDone (h modules : Nat)
  /-- BUNDLE_VERIFIED (R429): During a warm reset or a DEEP exit, the Keeper's verification of the active bundle completes, the other processors are reloaded, the Alias keys are derived again and the node moves on toward CONFIG or READY. -/
  | bundleVerified
  /-- WRITE_BACK_LIMIT_EXPIRY (R180): A dirty-line write-back has not completed within 1 ms of a warm reset or of entry to HALTED, so the warm reset sends the node to HALTED, or the HALTED entry abandons the write-back and marks the channel unretained. -/
  | writeBackLimitExpiry
  /-- SHEAF_PLL_RESTART_LIMIT (R405): A tripped sheaf PLL is not stable within 40 ms, so the channels of its sheaf fail under R209. -/
  | sheafPllRestartLimit (u : Nat)
  deriving DecidableEq, Repr

end Sys2Proof
end

