-- ==== Sys2Proof/Decode.lean ====
section
/-!
DEFINITION. The block has no encoded instructions: no row of spec/opcode_table.json gives bits, so no word spells a command.
Commands come as they are, in the queue of the state.
-/
namespace Sys2Proof

/-- The command a word of `nbits` bits spells by the opcode table, for the rows that give bits: none does. (DESIGN CHOICE, log 9) -/
def decodeTableWord (_nbits _w : Nat) : Option Instr := none

end Sys2Proof
end

