-- ==== Sys2Proof/Machine/Bits.lean ====
section
/-!
DEFINITION. Bit fields, byte order and sign extension (R5, R446): the one place where a byte string becomes a number
and a number is cut into fields; and the operations of a sparse store.
-/
namespace Sys2Proof.Machine

/-- The field [hi:lo] of a word (R5 lists fields from high to low). -/
def bits (hi lo n : Nat) : Nat := (n >>> lo) % 2 ^ (hi + 1 - lo)

/-- Bit i of a word. -/
def bit (i n : Nat) : Bool := n.testBit i

/-- 1 for true, 0 for false: the encoding of BOOL (R446). -/
def b2n (b : Bool) : Nat := if b then 1 else 0

/-- Set (true) or clear (false) bit i of a word. -/
def setBit (i : Nat) (v : Bool) (n : Nat) : Nat :=
  if n.testBit i == v then n else if v then n + 2 ^ i else n - 2 ^ i

/-- A byte string read least significant byte first (R446). -/
def leNat : List Byte → Nat
  | [] => 0
  | b :: bs => b.toNat + 256 * leNat bs

/-- The low `k` bytes of a number, least significant byte first (R446). -/
def leBytes : Nat → Nat → List Byte
  | 0, _ => []
  | k + 1, n => BitVec.ofNat 8 n :: leBytes k (n / 256)

/-- A `w`-bit two's complement number as an integer (R446). -/
def signed (w n : Nat) : Int :=
  if n % 2 ^ w < 2 ^ (w - 1) then (n % 2 ^ w : Nat) else ((n % 2 ^ w : Nat) : Int) - (2 ^ w : Nat)

/-- An integer in `w`-bit two's complement (R446). -/
def unsigned (w : Nat) (x : Int) : Nat := (x % (2 ^ w : Nat)).toNat

/-- Zero bytes. -/
def zeroBytes (k : Nat) : List Byte := List.replicate k 0

/-- A byte string cut or zero-padded to `k` bytes. -/
def fitBytes (k : Nat) (bs : List Byte) : List Byte := (bs ++ zeroBytes (k - bs.length)).take k

/-- The `k` bytes of `bs` from byte `off`. -/
def sliceBytes (off k : Nat) (bs : List Byte) : List Byte := fitBytes k (bs.drop off)

/-- `old` with the bytes of `new` that `mask` selects (mask bit i for byte i). -/
def mergeBytes (mask : Nat) (new old : List Byte) : List Byte :=
  (old.zip new).zipIdx.map fun p => if mask.testBit p.2 then p.1.2 else p.1.1

/-- Read key `k` of a sparse store; an unlisted key reads as `d`. -/
def look {V : Type} (d : V) (k : Nat) : Store V → V
  | [] => d
  | (i, v) :: m => if i = k then v else look d k m

/-- Insert, replace or (when `v` is the default) remove key `k` of a sparse store, keeping its keys rising. -/
def put {V : Type} [DecidableEq V] (d : V) (k : Nat) (v : V) : Store V → Store V
  | [] => if v = d then [] else [(k, v)]
  | (i, w) :: m =>
    if i < k then (i, w) :: put d k v m
    else if i = k then (if v = d then m else (k, v) :: m)
    else (if v = d then (i, w) :: m else (k, v) :: (i, w) :: m)

/-- Apply `f` to the value at key `k` of a sparse store. -/
def alter {V : Type} [DecidableEq V] (d : V) (k : Nat) (f : V → V) (m : Store V) : Store V :=
  put d k (f (look d k m)) m

/-- The canonical form of a sparse store: keys strictly rising, no entry equal to the default. -/
def storeWf {V : Type} [DecidableEq V] (d : V) : Store V → Bool
  | [] => true
  | [(_, v)] => decide (v ≠ d)
  | (i, v) :: (j, w) :: m => decide (v ≠ d) && decide (i < j) && storeWf d ((j, w) :: m)

/-- The first `k` of a list after appending one element, dropping the oldest when it grows past `k`. -/
def pushLast {V : Type} (k : Nat) (x : V) (l : List V) : List V :=
  let l' := l ++ [x]
  l'.drop (l'.length - k)

/-- Apply a state transformer for each element of a list, in order. -/
def forEach {σ α : Type} (l : List α) (f : α → σ → σ) (s : σ) : σ := l.foldl (fun s a => f a s) s

/-- Insert an element into a list in order, before the first that does not come before it. -/
def insertBy {α : Type} (le : α → α → Bool) (x : α) : List α → List α
  | [] => [x]
  | y :: l => if le x y then x :: y :: l else y :: insertBy le x l

/-- A list in order, equal elements as they stood. -/
def sortList {α : Type} (l : List α) (le : α → α → Bool) : List α := l.foldr (insertBy le) []

end Sys2Proof.Machine
end

