-- ==== Sys2Proof/Machine/Float.lean ====
section
/-!
DEFINITION. Floating-point numbers as exact dyadic values, and rounding to nearest even into the formats of chapters 05 and
06: binary32, BF16, FP16, the FP8, FP6 and FP4 elements of OCP Microscaling v1.0.
-/
namespace Sys2Proof.Machine

/-- A number: NaN, an infinity, or a sign and a magnitude m·2^e. -/
inductive Num where
  | nan
  | inf (neg : Bool)
  | fin (neg : Bool) (m : Nat) (e : Int)
  deriving DecidableEq, Repr

/-- A binary format: mantissa and exponent bits, bias, and what the top exponent holds: 0 infinity and NaN, 1 NaN only in
the all-ones code (E4M3), 2 finite values only. -/
structure FFmt where
  mb : Nat
  eb : Nat
  bias : Nat
  top : Nat
  deriving DecidableEq, Repr

def fp32 : FFmt := ⟨23, 8, 127, 0⟩
def bf16 : FFmt := ⟨7, 8, 127, 0⟩
def fp16 : FFmt := ⟨10, 5, 15, 0⟩
def e4m3 : FFmt := ⟨3, 4, 7, 1⟩
def e5m2 : FFmt := ⟨2, 5, 15, 0⟩
def e2m3 : FFmt := ⟨3, 2, 1, 2⟩
def e3m2 : FFmt := ⟨2, 3, 3, 2⟩
def e2m1 : FFmt := ⟨1, 2, 1, 2⟩

/-- The exponent of the least significant mantissa bit of the smallest normal number. -/
def FFmt.qmin (f : FFmt) : Int := 1 - (f.bias : Int) - (f.mb : Int)

/-- The largest finite code without its sign. -/
def FFmt.maxCode (f : FFmt) : Nat :=
  match f.top with
  | 0 => (2 ^ f.eb - 1) * 2 ^ f.mb - 1
  | 1 => 2 ^ (f.eb + f.mb) - 2
  | _ => 2 ^ (f.eb + f.mb) - 1

/-- The magnitude of a code without its sign. -/
def FFmt.mag (f : FFmt) (c : Nat) : Num :=
  if c ≤ f.maxCode then
    let ex := c / 2 ^ f.mb
    if ex = 0 then .fin false c f.qmin
    else .fin false (2 ^ f.mb + c % 2 ^ f.mb) (f.qmin + (ex : Int) - 1)
  else if f.top = 0 && c == f.maxCode + 1 then .inf false else .nan

def Num.withSign (neg : Bool) : Num → Num
  | .nan => .nan
  | .inf _ => .inf neg
  | .fin _ m e => .fin neg m e

/-- The number a code stands for. -/
def FFmt.decode (f : FFmt) (c : Nat) : Num :=
  (f.mag (c % 2 ^ (f.eb + f.mb))).withSign (c.testBit (f.eb + f.mb))

/-- 2^k for any k, as a numerator and a denominator. -/
def pow2n (k : Int) : Nat := 2 ^ k.toNat
def pow2d (k : Int) : Nat := 2 ^ (-k).toNat

/-- ⌊log2 (p/q)⌋ for positive p and q. -/
def log2Rat (p q : Nat) : Int :=
  let l : Int := (p.log2 : Int) - (q.log2 : Int)
  if p * pow2d l < q * pow2n l then l - 1 else l

/-- p/q rounded to the nearest integer, ties to even. -/
def rneDiv (p q : Nat) : Nat :=
  let n := p / q
  let r := 2 * (p % q)
  if r < q then n else if q < r then n + 1 else if n % 2 = 0 then n else n + 1

/-- The code, without its sign, of p/q·2^e rounded to nearest even as if the exponent range had no top. -/
def FFmt.roundCode (f : FFmt) (p q : Nat) (e : Int) : Nat :=
  if p = 0 || q = 0 then 0
  else
    let k := max (log2Rat p q + e - (f.mb : Int)) f.qmin
    let n := rneDiv (p * pow2n (e - k)) (q * pow2d (e - k))
    (k - f.qmin).toNat * 2 ^ f.mb + n

/-- A number rounded into a format with infinity: overflow gives infinity, NaN the given code. -/
def FFmt.round (f : FFmt) (nanCode : Nat) : Num → Nat
  | .nan => nanCode
  | .inf s => b2n s * 2 ^ (f.eb + f.mb) + f.maxCode + 1
  | .fin s m e => b2n s * 2 ^ (f.eb + f.mb) + min (f.roundCode m 1 e) (f.maxCode + 1)

/-- A finite number rounded into a format, saturating at its largest finite value; whether it saturated. (DEDUCED, log 35) -/
def FFmt.roundSat (f : FFmt) (s : Bool) (m : Nat) (e : Int) : Nat × Bool :=
  let c := f.roundCode m 1 e
  (b2n s * 2 ^ (f.eb + f.mb) + min c f.maxCode, decide (f.maxCode < c))

/-- The NaN of R164. (DEDUCED, log 35) -/
def nan32 : Nat := 0x7FC00000

/-! ### Exact dyadic arithmetic -/

/-- A dyadic number m·2^e. -/
structure Dy where
  m : Int
  e : Int
  deriving DecidableEq, Repr

/-- The integers two dyadic numbers are multiples of 2^k by, for the lower exponent k. -/
def Dy.align (a b : Dy) : Int × Int × Int :=
  let k := min a.e b.e
  (a.m * (pow2n (a.e - k) : Int), b.m * (pow2n (b.e - k) : Int), k)

def Dy.lt (a b : Dy) : Bool := let p := a.align b; decide (p.1 < p.2.1)
def Dy.eq (a b : Dy) : Bool := let p := a.align b; decide (p.1 = p.2.1)
def Dy.add (a b : Dy) : Dy := let p := a.align b; ⟨p.1 + p.2.1, p.2.2⟩
def Dy.neg (a : Dy) : Dy := ⟨-a.m, a.e⟩
def Dy.mul (a b : Dy) : Dy := ⟨a.m * b.m, a.e + b.e⟩

/-- The value of a finite number. -/
def Num.dy : Num → Dy
  | .fin s m e => ⟨if s then -(m : Int) else m, e⟩
  | _ => ⟨0, 0⟩

/-- A dyadic number with the sign a zero takes. -/
def Dy.num (d : Dy) (zeroNeg : Bool) : Num := .fin (if d.m = 0 then zeroNeg else decide (d.m < 0)) d.m.natAbs d.e

/-- The exact product of two numbers. -/
def Num.mul : Num → Num → Num
  | .nan, _ => .nan
  | _, .nan => .nan
  | .inf s, .inf t => .inf (s != t)
  | .inf s, .fin t m _ => if m = 0 then .nan else .inf (s != t)
  | .fin s m _, .inf t => if m = 0 then .nan else .inf (s != t)
  | .fin s m e, .fin t n f => .fin (s != t) (m * n) (e + f)

/-- The exact sum of two numbers (IEEE 754): an exact zero is +0 unless both are −0. -/
def Num.add : Num → Num → Num
  | .nan, _ => .nan
  | _, .nan => .nan
  | .inf s, .inf t => if s = t then .inf s else .nan
  | .inf s, _ => .inf s
  | _, .inf t => .inf t
  | .fin s m e, .fin t n f => ((Num.fin s m e).dy.add (Num.fin t n f).dy).num (s && t)

/-- Whether a number is below another, with −0 below +0 (R164); neither is NaN. -/
def Num.below : Num → Num → Bool
  | .inf s, .inf t => s && !t
  | .inf s, _ => s
  | _, .inf t => !t
  | .fin s m e, .fin t n f =>
    if m = 0 && n = 0 then s && !t else (Num.fin s m e).dy.lt (Num.fin t n f).dy
  | _, _ => false

def Num.minN (a b : Num) : Num := match a, b with
  | .nan, _ => .nan
  | _, .nan => .nan
  | a, b => if b.below a then b else a

def Num.maxN (a b : Num) : Num := match a, b with
  | .nan, _ => .nan
  | _, .nan => .nan
  | a, b => if a.below b then b else a

/-- A dyadic number rounded to binary32 and back. -/
def Dy.round32 (d : Dy) : Dy := (fp32.decode (fp32.round nan32 (d.num false))).dy

/-- a ÷ b in binary32, for b ≠ 0. -/
def Dy.div32 (a b : Dy) : Dy :=
  let c := min (fp32.roundCode a.m.natAbs b.m.natAbs (a.e - b.e)) fp32.maxCode
  let d := (fp32.decode c).dy
  if decide (a.m < 0) != decide (b.m < 0) then d.neg else d

end Sys2Proof.Machine
end

