-- ==== Sys2Proof/Config.lean ====
section
/-!
DEFINITION. What an implementation fixes and the specification leaves open: uninterpreted functions without a body, so
that nothing can be proved of the values they give. Each is named in the assumption log.
-/
namespace Sys2Proof.Config

/-- The n-th value the specification leaves open: any 1,088-bit value. (DESIGN CHOICE, log 5) -/
opaque freeValue : Nat → BitVec 1088

/-- The set tag a device secret yields (R372, R373): SHA-384 over the derived DeviceID key, which no rule gives a value of. (PRESUMED, log 6) -/
opaque setTag : Nat → BitVec 64

/-- Where the triangular spread of a sheaf's PLL stands in a frame: its part of the full depth, in 1/65,536 (R400), which no rule gives.
(DEDUCED, log 61) -/
opaque spreadPhase : Nat → Nat → BitVec 16

/-- The Alias key derived from device secret, bundle version, debug flag and node number (R372). (PRESUMED, log 6) -/
opaque aliasKey : Nat → Nat → Bool → Nat → BitVec 384

/-- Whether a stored DeviceID certificate pair agrees with the keys derived from a device secret (R374). (PRESUMED, log 6) -/
opaque certificateMatches : Nat → List Byte → List Byte → Bool

/-- Whether a byte string is a valid public key of ECDSA P-384 (false) or ML-DSA-65 (true) (R383). (PRESUMED, log 6) -/
opaque validPublicKey : Bool → List Byte → Bool

/-- SHA-384 of a byte string. (PRESUMED, log 6) -/
opaque sha384 : List Byte → BitVec 384

/-- Whether a signature by a key (ML-DSA-65 when true) verifies for a session's or an image's transcript (FIPS 204, ECDSA). (PRESUMED, log 6) -/
opaque verifySignature : Bool → List Byte → Nat → List Byte → Bool

/-- Whether a signature by a public key verifies for a message: 0 ECDSA P-384 over the SHA-384 of the message, 1 ML-DSA-87,
2 ML-DSA-65 (R475). (PRESUMED, log 6) -/
opaque verifyMessage : Nat → List Byte → List Byte → List Byte → Bool

/-- A signature made by a key over a transcript. (PRESUMED, log 6) -/
opaque sign : Nat → Nat → BitVec 3072

/-- The digest of measurement block `i` (R376) that is fixed by ROM (1), the Warden firmware (2) or the rest of the bundle
(3), for a bundle version. (PRESUMED, log 6) -/
opaque firmwareDigest : Nat → Nat → BitVec 384

/-- The Alias certificate the Warden issues for a chain slot at a start (R374). (PRESUMED, log 6) -/
opaque aliasCertificate : Nat → Nat → Nat → List Byte

/-- The root and package CA certificates of a chain slot (R374). (PRESUMED, log 6) -/
opaque rootCertificates : Nat → List Byte

/-- The version of the training firmware in a bundle (R315). (PRESUMED, log 6) -/
opaque trainingVersion : Nat → BitVec 16

/-- Whether a higher trim code makes KSO faster (R403). (PRESUMED, log 6) -/
opaque trimRises : Bool

/-- AES-256-XTS of one 1,024-bit data unit under two keys and a tweak (R386): some permutation of the data units. (PRESUMED, log 6) -/
opaque xts : Nat → Nat → Nat → Equiv.Perm (BitVec 1024)

end Sys2Proof.Config
end

