-- ==== Sys2Proof/Machine/Events.lean ====
section
/-!
DEFINITION. The events a node raises (R12, R13, R460): every code the chapters' event tables give, with its one fixed
severity, and the rate limits that R558 applies.
-/
namespace Sys2Proof.Machine

/-- The severity of an event (R13): NOTE 0b00, WARN 0b01, FAULT 0b10, ALARM 0b11. -/
inductive Severity where
  | note | warn | fault | alarm
  deriving DecidableEq, Repr

/-- The 2-bit code of a severity (R13). -/
def Severity.code : Severity → Nat
  | .note => 0 | .warn => 1 | .fault => 2 | .alarm => 3

namespace Ev

/-- PROCESSOR_RESTART, FAULT: A control processor restarts under R25. The instance is its internal unit code. -/
abbrev processorRestart : Nat := 0x1001
/-- LEAD_CHANGED, WARN: A new lead node takes over under R31. The detail is the new lead's number. -/
abbrev leadChanged : Nat := 0x1002
/-- PARTNER_LOST, WARN: A management partner is lost under R453. -/
abbrev partnerLost : Nat := 0x1003
/-- PARTNER_FOUND, NOTE: A partner is heard under R453. -/
abbrev partnerFound : Nat := 0x1004
/-- EVENTS_DROPPED, WARN: Events were lost during a Keeper restart. -/
abbrev eventsDropped : Nat := 0x1005
/-- NVM_WRITE_FAILED, FAULT: An NVM record write fails under R470. -/
abbrev nvmWriteFailed : Nat := 0x1006
/-- NVM_RECORD_BAD, WARN: A record copy is invalid when read. -/
abbrev nvmRecordBad : Nat := 0x1007
/-- NVM_ABSENT, FAULT: No usable NVM is found under R466. -/
abbrev nvmAbsent : Nat := 0x1008
/-- NOTIFY_UNACKED, WARN: A notification goes unanswered; at most one per 10 s. -/
abbrev notifyUnacked : Nat := 0x1009
/-- PLCA_INACTIVE, WARN: PLCA status becomes inactive. -/
abbrev plcaInactive : Nat := 0x100A
/-- FRAME_MALFORMED, NOTE: A malformed frame is discarded; at most one per 10 s. -/
abbrev frameMalformed : Nat := 0x100B
/-- SETWIDE_RECONCILED, NOTE: A member adopts a differing set-wide value under R448. -/
abbrev setwideReconciled : Nat := 0x100C
/-- SESSION_DROPPED, NOTE: A segmented session is closed for idleness. -/
abbrev sessionDropped : Nat := 0x100D
/-- NODE_STATE, NOTE: The node state changes. -/
abbrev nodeState : Nat := 0x1030
/-- WARM_RESET, WARN: A warm reset begins. -/
abbrev warmReset : Nat := 0x1031
/-- NODE_HALTED, ALARM: The node enters HALTED. -/
abbrev nodeHalted : Nat := 0x1032
/-- SELF_TEST_FAILED, FAULT: A checker fails its self-test. -/
abbrev selfTestFailed : Nat := 0x1033
/-- STATE_REQUEST_REFUSED, NOTE: A state request is refused under R416. -/
abbrev stateRequestRefused : Nat := 0x1034
/-- START_COMPLETE, NOTE: sv_alive rises after a start. -/
abbrev startComplete : Nat := 0x1036
/-- REFRESH_URGENT, WARN: An urgent refresh issues; at most one per 10 µs per channel. -/
abbrev refreshUrgent : Nat := 0x2001
/-- REFRESH_CLASS, NOTE: A sheaf's refresh class changes; raised once per sheaf, with instance 8·s + w. -/
abbrev refreshClass : Nat := 0x2002
/-- QUEUE_FULL, NOTE: A request is refused for a full queue; at most one per 10 µs per channel. -/
abbrev queueFull : Nat := 0x2003
/-- FILL_POISONED, NOTE: A partial write completes POISONED; at most one per 10 µs per channel. -/
abbrev fillPoisoned : Nat := 0x2005
/-- CHANNEL_FAULT, FAULT: A controller faults. -/
abbrev channelFault : Nat := 0x2006
/-- CHANNEL_RECOVERED, WARN: A controller completes recovery under R208. -/
abbrev channelRecovered : Nat := 0x2007
/-- CHANNEL_FAILED, FAULT: A channel fails under R209. -/
abbrev channelFailed : Nat := 0x2008
/-- SELF_REFRESH_ENTRY, NOTE: A channel completes self-refresh entry. -/
abbrev selfRefreshEntry : Nat := 0x2009
/-- SELF_REFRESH_EXIT, NOTE: A channel completes self-refresh exit. -/
abbrev selfRefreshExit : Nat := 0x200A
/-- SEGMENTS_LOST, WARN: Lines of segments not retained are written poisoned on DEEP exit. -/
abbrev segmentsLost : Nat := 0x200B
/-- HALF_WIDTH, WARN: A channel enters half-width mode. -/
abbrev halfWidth : Nat := 0x200C
/-- CHANNEL_REJOINED, NOTE: A shadow channel joins at a tide. -/
abbrev channelRejoined : Nat := 0x200D
/-- READ_AGED, NOTE: A read becomes aged; at most one per 10 µs per channel. -/
abbrev readAged : Nat := 0x200E
/-- TRAINING_DONE, NOTE: A channel completes restored or full training. -/
abbrev trainingDone : Nat := 0x2010
/-- CALIBRATION_BAD, WARN: A calibration bad outcome under R314. -/
abbrev calibrationBad : Nat := 0x2011
/-- RESTORE_REJECTED, WARN: Restored training gives way to full training. -/
abbrev restoreRejected : Nat := 0x2012
/-- SPARE_GROUP_IN_USE, WARN: The spare group is assigned permanently. -/
abbrev spareGroupInUse : Nat := 0x2013
/-- MARGIN_DONE, NOTE: A margining request ends. -/
abbrev marginDone : Nat := 0x2014
/-- RECORD_WRITE_FAILED, WARN: A training record write fails. -/
abbrev recordWriteFailed : Nat := 0x2015
/-- PLAN_LOADED, NOTE: A plan becomes LOADED. -/
abbrev planLoaded : Nat := 0x3001
/-- PLAN_REFUSED, WARN: A LOAD ends in REFUSED. -/
abbrev planRefused : Nat := 0x3002
/-- TIDE_SWITCH, NOTE: A switching tide completes. -/
abbrev tideSwitch : Nat := 0x3003
/-- TIDE_DEFERRED, NOTE: The lead node sends DEFER. -/
abbrev tideDeferred : Nat := 0x3004
/-- ARM_FAILED, WARN: Arming ends after 16 deferrals. -/
abbrev armFailed : Nat := 0x3005
/-- PLAN_DERATE, WARN: A derate cause begins. -/
abbrev planDerate : Nat := 0x3006
/-- DERATE_CLEARED, NOTE: The last derate cause ends. -/
abbrev derateCleared : Nat := 0x3007
/-- PLAN_SLIP, WARN: A planned line slips; at most one per 10 µs. -/
abbrev planSlip : Nat := 0x3008
/-- CONTINUITY_BREAK, FAULT: Continuity is broken under R87. -/
abbrev continuityBreak : Nat := 0x3009
/-- TIDE_ISOLATED, FAULT: A node reaches −1 frame without a tide decision. -/
abbrev tideIsolated : Nat := 0x300A
/-- CONTEXT_FENCED, WARN: A context is fenced under R117. -/
abbrev contextFenced : Nat := 0x3010
/-- STREAM_STALL, FAULT: The stall timeout expires. -/
abbrev streamStall : Nat := 0x3011
/-- FEED_PORT_DOWN, FAULT: A feed port goes down. -/
abbrev feedPortDown : Nat := 0x3012
/-- DRAIN_OVERRUN, FAULT: A drain overrun or excess credit return occurs. -/
abbrev drainOverrun : Nat := 0x3013
/-- MASK_LATE, WARN: A mask is not in place for its first item. -/
abbrev maskLate : Nat := 0x3014
/-- POISON_FED, NOTE: A poisoned line is fed; at most one per 10 µs per engine. -/
abbrev poisonFed : Nat := 0x3015
/-- ENGINE_FAULT, FAULT: A stream engine faults and is reset. -/
abbrev engineFault : Nat := 0x3016
/-- UNIT_REJOINED, NOTE: A feed port or stream engine joins at a tide. -/
abbrev unitRejoined : Nat := 0x3017
/-- SCALE_SATURATED, NOTE: A scale clamps under R136; at most one per 10 µs per unit. -/
abbrev scaleSaturated : Nat := 0x4001
/-- NAN_BLOCK, NOTE: A NaN or infinite group is narrowed; at most one per 10 µs per unit. -/
abbrev nanBlock : Nat := 0x4002
/-- BEYOND_BOUND, WARN: A region's beyond-bound bit goes from 0 to 1. -/
abbrev beyondBound : Nat := 0x4003
/-- POOL_EXHAUSTED, FAULT: A pool is full when a line needs a slot; once per pool until reset. -/
abbrev poolExhausted : Nat := 0x4004
/-- POOL_LOW, WARN: A pool's cursor passes 0x2400:03. -/
abbrev poolLow : Nat := 0x4005
/-- FORMAT_TAG_MISMATCH, WARN: A tag mismatch under R126; at most one per 10 µs per unit. -/
abbrev formatTagMismatch : Nat := 0x4006
/-- LINE_MALFORMED, WARN: A formatted read finds a malformed SV2T line. -/
abbrev lineMalformed : Nat := 0x4007
/-- ESCAPE_STALE, WARN: An escaped line reads stale. -/
abbrev escapeStale : Nat := 0x4008
/-- ESCAPE_FAILED, WARN: An escape pointer or escape line fails its checks. -/
abbrev escapeFailed : Nat := 0x4009
/-- ESCAPE_ROUNDED, NOTE: A split code of an escaped line is rounded; at most one per 10 µs per unit. -/
abbrev escapeRounded : Nat := 0x400A
/-- ESCAPE_RESIDUAL, WARN: An escaped line still exceeds its bound. -/
abbrev escapeResidual : Nat := 0x400B
/-- FORMAT_UNIT_FAULT, FAULT: A widen/narrow unit faults. -/
abbrev formatUnitFault : Nat := 0x400C
/-- POOL_RESET, NOTE: A pool reset takes effect. -/
abbrev poolReset : Nat := 0x400D
/-- FORMAT_REFUSED, NOTE: A standing entry write is refused. -/
abbrev formatRefused : Nat := 0x400E
/-- SLICE_FAULT, FAULT: A slice faults. -/
abbrev sliceFault : Nat := 0x5001
/-- SLICE_TAKEN_OVER, WARN: A partner completes a takeover. -/
abbrev sliceTakenOver : Nat := 0x5002
/-- SLICE_PAIR_LOST, ALARM: A slice pair is out. -/
abbrev slicePairLost : Nat := 0x5003
/-- REDUCTION_BROKEN, WARN: A reduction breaks. -/
abbrev reductionBroken : Nat := 0x5004
/-- REDUCTION_OVERWRITTEN, NOTE: A planned write meets an open reduction; at most one per 10 µs per node. -/
abbrev reductionOverwritten : Nat := 0x5005
/-- REDUCTION_MISMATCH, NOTE: A contribution is DENIED; at most one per 10 µs per node. -/
abbrev reductionMismatch : Nat := 0x5006
/-- ATOMIC_REFUSED, NOTE: An atomic is DENIED under R163; at most one per 10 µs per node. -/
abbrev atomicRefused : Nat := 0x5007
/-- SYNC_OVERFLOW, WARN: An object saturates. -/
abbrev syncOverflow : Nat := 0x5008
/-- SYNC_TARGET_LOST, FAULT: A stream names an object of a lost node. -/
abbrev syncTargetLost : Nat := 0x5009
/-- SLICE_REJOINED, NOTE: A shadow slice joins at a tide. -/
abbrev sliceRejoined : Nat := 0x500A
/-- HEADLAND_JOIN_REFUSED, WARN: A port is refused under R327. -/
abbrev headlandJoinRefused : Nat := 0x6001
/-- SET_FORMED, NOTE: The set forms. -/
abbrev setFormed : Nat := 0x6002
/-- LINK_RESET, WARN: A link resets. -/
abbrev linkReset : Nat := 0x6003
/-- LINK_DOWN, FAULT: A link exceeds its retrain limit. -/
abbrev linkDown : Nat := 0x6004
/-- NODE_LOST, FAULT: A node is declared lost. -/
abbrev nodeLost : Nat := 0x6005
/-- SET_PARTITIONED, ALARM: A node lacks quorum. -/
abbrev setPartitioned : Nat := 0x6006
/-- ROUTE_CHANGED, WARN: A route table entry changes. -/
abbrev routeChanged : Nat := 0x6007
/-- TIME_OFFSET, WARN: The offset exceeds ±5 ns for 100 µs. -/
abbrev timeOffset : Nat := 0x6008
/-- TIME_UNSYNCHRONISED, FAULT: The offset exceeds ±10 ns for 1 ms. -/
abbrev timeUnsynchronised : Nat := 0x6009
/-- WINDOW_SHORT, WARN: A window falls short after narrowing. -/
abbrev windowShort : Nat := 0x600A
/-- PORT_NARROW, WARN: A port loses a module. -/
abbrev portNarrow : Nat := 0x600B
/-- NODE_REJOINED, NOTE: A node joins at a tide. -/
abbrev nodeRejoined : Nat := 0x600C
/-- PARCEL_MALFORMED, WARN: A malformed parcel is discarded; at most one per 10 µs per port. -/
abbrev parcelMalformed : Nat := 0x600E
/-- SET_STRAP_INVALID, FAULT: The straps of R326 are invalid. -/
abbrev setStrapInvalid : Nat := 0x600F
/-- THERMAL_2X, NOTE: A sheaf enters T_2x. -/
abbrev thermal2x : Nat := 0x7001
/-- THERMAL_4X, WARN: A stack enters level 2. -/
abbrev thermal4x : Nat := 0x7002
/-- THERMAL_THROTTLE, WARN: A stack enters level 3. -/
abbrev thermalThrottle : Nat := 0x7003
/-- THERMAL_EMERGENCY, ALARM: A stack enters level 4. -/
abbrev thermalEmergency : Nat := 0x7004
/-- THERMAL_TRIP, ALARM: A trip begins. -/
abbrev thermalTrip : Nat := 0x7005
/-- THERMAL_COOLED, NOTE: A stack leaves a level. -/
abbrev thermalCooled : Nat := 0x7006
/-- SENSOR_BROKEN, FAULT: A sensor becomes broken. -/
abbrev sensorBroken : Nat := 0x7007
/-- THROTTLE_ACK_MISSING, FAULT: A throttle request is not acknowledged in 100 µs. -/
abbrev throttleAckMissing : Nat := 0x7008
/-- GRACE_EXPIRED, WARN: Collective grace expires. -/
abbrev graceExpired : Nat := 0x7009
/-- TRAFFIC_RESUMED, WARN: A halted stack resumes. -/
abbrev trafficResumed : Nat := 0x700A
/-- JUNCTION_HIGH, WARN: Junction temperature reaches 110 °C. -/
abbrev junctionHigh : Nat := 0x700B
/-- COOLED_RESTART, NOTE: A cooled restart continues. -/
abbrev cooledRestart : Nat := 0x700C
/-- SENSOR_EXCLUDED, NOTE: An exclusion is in force at start. -/
abbrev sensorExcluded : Nat := 0x700E
/-- IDENTITY_DERIVED, NOTE: Key derivation completes at start. -/
abbrev identityDerived : Nat := 0x8001
/-- SESSION_OPENED, NOTE: A secured session opens. -/
abbrev sessionOpened : Nat := 0x8002
/-- SESSION_CLOSED, NOTE: A secured session ends. -/
abbrev sessionClosed : Nat := 0x8003
/-- OWNER_AUTH_FAILED, WARN: An owner signature fails; at most one per 1 s per node. -/
abbrev ownerAuthFailed : Nat := 0x8004
/-- OWNER_CLAIMED, WARN: CLAIM or TRANSFER completes. -/
abbrev ownerClaimed : Nat := 0x8005
/-- OWNER_RELEASED, WARN: RELEASE completes. -/
abbrev ownerReleased : Nat := 0x8006
/-- KEY_LOADED, NOTE: A key slot is loaded. -/
abbrev keyLoaded : Nat := 0x8007
/-- KEY_ERASED, NOTE: A key slot is erased by command. -/
abbrev keyErased : Nat := 0x8008
/-- ZEROISED, WARN: Zeroisation completes. -/
abbrev zeroised : Nat := 0x8009
/-- SEAL_KEY_ABSENT, WARN: A sealed-range request is DENIED under R386; at most one per 10 µs per node. -/
abbrev sealKeyAbsent : Nat := 0x800A
/-- IDENTITY_RECORD_BAD, FAULT: A DeviceID certificate or owner record is absent or does not match. -/
abbrev identityRecordBad : Nat := 0x800B
/-- SECRET_FAULT, ALARM: The device secret fails its checks. -/
abbrev secretFault : Nat := 0x800C
/-- SECURE_WRITE_REFUSED, NOTE: An RWS write outside an owner session; at most one per 10 µs per node. -/
abbrev secureWriteRefused : Nat := 0x800D
/-- SPDM_ERROR, NOTE: An SPDM request is answered UnsupportedRequest; at most one per 1 s per node. -/
abbrev spdmError : Nat := 0x800E
/-- DEBUG_UNLOCKED, WARN: A debug unlock takes effect. -/
abbrev debugUnlocked : Nat := 0x800F
/-- DEBUG_REFUSED, WARN: A debug unlock is refused under R389; at most one per 1 s per node. -/
abbrev debugRefused : Nat := 0x8013
/-- BALE_AUTH_FAILED, FAULT: A bale fails to verify. -/
abbrev baleAuthFailed : Nat := 0x8030
/-- CLOCK_TRIP, FAULT: A clock monitor trips. -/
abbrev clockTrip : Nat := 0x9001
/-- CLOCK_FALLBACK, ALARM: A domain runs on its fallback. -/
abbrev clockFallback : Nat := 0x9002
/-- CLOCK_HALT, ALARM: A fallback fails and the node enters HALTED. -/
abbrev clockHalt : Nat := 0x9003
/-- SLACK_LOW, WARN: The slack state enters 1. -/
abbrev slackLow : Nat := 0x9004
/-- SLACK_CRITICAL, FAULT: The slack state enters 2. -/
abbrev slackCritical : Nat := 0x9005
/-- SLACK_CLEARED, NOTE: The slack state returns to 0. -/
abbrev slackCleared : Nat := 0x9006
/-- OSC_TRIM_STALE, WARN: KSO has no trim reference for 10 s. -/
abbrev oscTrimStale : Nat := 0x9007
/-- CROSSING_RESET, NOTE: One side of a crossing resets. -/
abbrev crossingReset : Nat := 0x9008
/-- CROSSING_REOPENED, NOTE: A crossing reopens. -/
abbrev crossingReopened : Nat := 0x9009
/-- LINE_REREAD, NOTE: A re-read passes; at most one per 10 µs per channel. -/
abbrev lineReread : Nat := 0xA001
/-- LINE_RESTORED, WARN: A line is restored from backing. -/
abbrev lineRestored : Nat := 0xA002
/-- LINE_RECOMPUTE, WARN: A line of a recomputable region is poisoned. -/
abbrev lineRecompute : Nat := 0xA003
/-- LINE_POISONED, WARN: A line of any other region is poisoned. -/
abbrev linePoisoned : Nat := 0xA004
/-- RESTORE_FAILED, WARN: A restore read fails. -/
abbrev restoreFailed : Nat := 0xA005
/-- LINE_HEALED, NOTE: A heal write is confirmed. -/
abbrev lineHealed : Nat := 0xA006
/-- ROW_REPAIRED, WARN: A soft repair completes. -/
abbrev rowRepaired : Nat := 0xA007
/-- ROW_RETIRED, WARN: A retirement completes. -/
abbrev rowRetired : Nat := 0xA008
/-- REPAIR_EXHAUSTED, FAULT: A row becomes unprotected, the repair log is full, or a hard repair fails. -/
abbrev repairExhausted : Nat := 0xA009
/-- TRACKER_FULL, WARN: A line cannot be tracked; at most one per 10 s per channel. -/
abbrev trackerFull : Nat := 0xA00A
/-- GLEANER_FOUND, WARN: The Gleaner poisons a line of a region that is not recomputable. -/
abbrev gleanerFound : Nat := 0xA00B
/-- GLEANER_LAP, NOTE: A lap ends; at most one per 10 s per node. -/
abbrev gleanerLap : Nat := 0xA00C
/-- GLEANER_SLOW, WARN: A lap passes its target. -/
abbrev gleanerSlow : Nat := 0xA00D
/-- NOTIFY_OVERFLOW, WARN: A notification queue is full under R52. -/
abbrev notifyOverflow : Nat := 0xA010
/-- RECONSTITUTION_DONE, NOTE: A reconstitution fill completes. -/
abbrev reconstitutionDone : Nat := 0xA011
/-- COPY_BACK_DONE, NOTE: A copy-back completes. -/
abbrev copyBackDone : Nat := 0xA013
/-- JOURNAL_COPY_FAULT, FAULT: A journal copy fails its check. -/
abbrev journalCopyFault : Nat := 0xA014
/-- JOURNAL_LOST, ALARM: A journal entry fails in both copies. -/
abbrev journalLost : Nat := 0xA015
/-- REQUEST_DUPLICATE, NOTE: A duplicate is discarded; at most one per 10 µs per node. -/
abbrev requestDuplicate : Nat := 0xA016
/-- RETIREMENT_DISPLACED, WARN: A displaced retired row finds no room. -/
abbrev retirementDisplaced : Nat := 0xA017
/-- HARD_REPAIR, NOTE: A soft repair is converted to a hard repair. -/
abbrev hardRepair : Nat := 0xA019
/-- FAR_PORT_DOWN, FAULT: The port goes down. -/
abbrev farPortDown : Nat := 0xA030
/-- FAR_PORT_UP, NOTE: The port returns. -/
abbrev farPortUp : Nat := 0xA031
/-- BALE_READ_FAILED, WARN: A bale read fails other than by verification. -/
abbrev baleReadFailed : Nat := 0xA032
/-- BACKING_STALE, WARN: A backed bale is marked stale. -/
abbrev backingStale : Nat := 0xA033
/-- BALE_LOST, WARN: Lines of a bale are lost under R357 or R358. -/
abbrev baleLost : Nat := 0xA034
/-- BALE_VERSION_EXHAUSTED, FAULT: A write meets an exhausted bale. -/
abbrev baleVersionExhausted : Nat := 0xA035
/-- TRANSFER_FAILED, WARN: A transfer fails. -/
abbrev transferFailed : Nat := 0xA036
/-- LEDGER_LINE_LOST, WARN: A ledger line is poisoned. -/
abbrev ledgerLineLost : Nat := 0xA037
/-- UPDATE_BLOCK_BAD, NOTE: A block's CRC does not match. -/
abbrev updateBlockBad : Nat := 0xB001
/-- UPDATE_COMPLETE, NOTE: Every block is present. -/
abbrev updateComplete : Nat := 0xB002
/-- UPDATE_VERIFIED, NOTE: VERIFY passes. -/
abbrev updateVerified : Nat := 0xB003
/-- UPDATE_REFUSED, WARN: A command or verification is refused. -/
abbrev updateRefused : Nat := 0xB004
/-- UPDATE_ARMED, NOTE: ACTIVATE arms the set. -/
abbrev updateArmed : Nat := 0xB005
/-- UPDATE_APPLIED, WARN: A staged bundle is copied and booted. -/
abbrev updateApplied : Nat := 0xB006
/-- IMAGE_INVALID, FAULT: The active slot fails verification at start. -/
abbrev imageInvalid : Nat := 0xB007
/-- RECOVERY_MODE, ALARM: The node enters RECOVERY. -/
abbrev recoveryMode : Nat := 0xB008
/-- UPDATE_DEFERRED, NOTE: An armed copy waits on sv_power_warn. -/
abbrev updateDeferred : Nat := 0xB009
/-- DEGRADE_BEST_EFFORT, NOTE: Step 1 becomes active. -/
abbrev degradeBestEffort : Nat := 0xC001
/-- DEGRADE_YELLOW, NOTE: Step 2 becomes active. -/
abbrev degradeYellow : Nat := 0xC002
/-- DEGRADE_OVER_BUDGET, WARN: Step 3 becomes active. -/
abbrev degradeOverBudget : Nat := 0xC003
/-- DEGRADE_OPEN_MIN, WARN: Step 4 becomes active. -/
abbrev degradeOpenMin : Nat := 0xC004
/-- DEGRADE_PLANNED, WARN: Step 5 becomes active. -/
abbrev degradePlanned : Nat := 0xC005
/-- DEGRADE_CLEARED, NOTE: The last active step ends. -/
abbrev degradeCleared : Nat := 0xC006
/-- GUARANTEE_MISS, WARN: A tier A or B request expires; at most one per 10 µs per node. -/
abbrev guaranteeMiss : Nat := 0xC007
/-- PANIC_STUCK, WARN: A panic level becomes stuck under R234. -/
abbrev panicStuck : Nat := 0xC008
/-- PANIC_RELEASED, NOTE: A stuck port is released. -/
abbrev panicReleased : Nat := 0xC009
/-- METER_RED, NOTE: A request is coloured red; at most one per 10 µs per node. -/
abbrev meterRed : Nat := 0xC00A
/-- DEADLINE_MISSED, NOTE: A request completes OK_LATE; at most one per 10 µs per node. -/
abbrev deadlineMissed : Nat := 0xC00B
/-- QOS_WRITE_REFUSED, NOTE: A QoS object write completes DENIED. -/
abbrev qosWriteRefused : Nat := 0xC00C
/-- QOS_STATE_FAULT, FAULT: QoS state fails its check under R238. -/
abbrev qosStateFault : Nat := 0xC00D
end Ev

/-- Codes and severities of the chapters' event tables (R460), part 1. -/
def severityTable0 : List (Nat × Severity) := [
  (0x1001, .fault),
  (0x1002, .warn),
  (0x1003, .warn),
  (0x1004, .note),
  (0x1005, .warn),
  (0x1006, .fault),
  (0x1007, .warn),
  (0x1008, .fault),
  (0x1009, .warn),
  (0x100A, .warn),
  (0x100B, .note),
  (0x100C, .note),
  (0x100D, .note),
  (0x1030, .note),
  (0x1031, .warn),
  (0x1032, .alarm),
  (0x1033, .fault),
  (0x1034, .note),
  (0x1036, .note),
  (0x2001, .warn),
  (0x2002, .note),
  (0x2003, .note),
  (0x2005, .note),
  (0x2006, .fault),
  (0x2007, .warn),
  (0x2008, .fault),
  (0x2009, .note),
  (0x200A, .note),
  (0x200B, .warn),
  (0x200C, .warn),
  (0x200D, .note),
  (0x200E, .note),
  (0x2010, .note),
  (0x2011, .warn),
  (0x2012, .warn),
  (0x2013, .warn),
  (0x2014, .note),
  (0x2015, .warn),
  (0x3001, .note),
  (0x3002, .warn)]

/-- Codes and severities of the chapters' event tables (R460), part 2. -/
def severityTable1 : List (Nat × Severity) := [
  (0x3003, .note),
  (0x3004, .note),
  (0x3005, .warn),
  (0x3006, .warn),
  (0x3007, .note),
  (0x3008, .warn),
  (0x3009, .fault),
  (0x300A, .fault),
  (0x3010, .warn),
  (0x3011, .fault),
  (0x3012, .fault),
  (0x3013, .fault),
  (0x3014, .warn),
  (0x3015, .note),
  (0x3016, .fault),
  (0x3017, .note),
  (0x4001, .note),
  (0x4002, .note),
  (0x4003, .warn),
  (0x4004, .fault),
  (0x4005, .warn),
  (0x4006, .warn),
  (0x4007, .warn),
  (0x4008, .warn),
  (0x4009, .warn),
  (0x400A, .note),
  (0x400B, .warn),
  (0x400C, .fault),
  (0x400D, .note),
  (0x400E, .note),
  (0x5001, .fault),
  (0x5002, .warn),
  (0x5003, .alarm),
  (0x5004, .warn),
  (0x5005, .note),
  (0x5006, .note),
  (0x5007, .note),
  (0x5008, .warn),
  (0x5009, .fault),
  (0x500A, .note)]

/-- Codes and severities of the chapters' event tables (R460), part 3. -/
def severityTable2 : List (Nat × Severity) := [
  (0x6001, .warn),
  (0x6002, .note),
  (0x6003, .warn),
  (0x6004, .fault),
  (0x6005, .fault),
  (0x6006, .alarm),
  (0x6007, .warn),
  (0x6008, .warn),
  (0x6009, .fault),
  (0x600A, .warn),
  (0x600B, .warn),
  (0x600C, .note),
  (0x600E, .warn),
  (0x600F, .fault),
  (0x7001, .note),
  (0x7002, .warn),
  (0x7003, .warn),
  (0x7004, .alarm),
  (0x7005, .alarm),
  (0x7006, .note),
  (0x7007, .fault),
  (0x7008, .fault),
  (0x7009, .warn),
  (0x700A, .warn),
  (0x700B, .warn),
  (0x700C, .note),
  (0x700E, .note),
  (0x8001, .note),
  (0x8002, .note),
  (0x8003, .note),
  (0x8004, .warn),
  (0x8005, .warn),
  (0x8006, .warn),
  (0x8007, .note),
  (0x8008, .note),
  (0x8009, .warn),
  (0x800A, .warn),
  (0x800B, .fault),
  (0x800C, .alarm),
  (0x800D, .note)]

/-- Codes and severities of the chapters' event tables (R460), part 4. -/
def severityTable3 : List (Nat × Severity) := [
  (0x800E, .note),
  (0x800F, .warn),
  (0x8013, .warn),
  (0x8030, .fault),
  (0x9001, .fault),
  (0x9002, .alarm),
  (0x9003, .alarm),
  (0x9004, .warn),
  (0x9005, .fault),
  (0x9006, .note),
  (0x9007, .warn),
  (0x9008, .note),
  (0x9009, .note),
  (0xA001, .note),
  (0xA002, .warn),
  (0xA003, .warn),
  (0xA004, .warn),
  (0xA005, .warn),
  (0xA006, .note),
  (0xA007, .warn),
  (0xA008, .warn),
  (0xA009, .fault),
  (0xA00A, .warn),
  (0xA00B, .warn),
  (0xA00C, .note),
  (0xA00D, .warn),
  (0xA010, .warn),
  (0xA011, .note),
  (0xA013, .note),
  (0xA014, .fault),
  (0xA015, .alarm),
  (0xA016, .note),
  (0xA017, .warn),
  (0xA019, .note),
  (0xA030, .fault),
  (0xA031, .note),
  (0xA032, .warn),
  (0xA033, .warn),
  (0xA034, .warn),
  (0xA035, .fault)]

/-- Codes and severities of the chapters' event tables (R460), part 5. -/
def severityTable4 : List (Nat × Severity) := [
  (0xA036, .warn),
  (0xA037, .warn),
  (0xB001, .note),
  (0xB002, .note),
  (0xB003, .note),
  (0xB004, .warn),
  (0xB005, .note),
  (0xB006, .warn),
  (0xB007, .fault),
  (0xB008, .alarm),
  (0xB009, .note),
  (0xC001, .note),
  (0xC002, .note),
  (0xC003, .warn),
  (0xC004, .warn),
  (0xC005, .warn),
  (0xC006, .note),
  (0xC007, .warn),
  (0xC008, .warn),
  (0xC009, .note),
  (0xC00A, .note),
  (0xC00B, .note),
  (0xC00C, .note),
  (0xC00D, .fault)]

/-- Every event code with its severity (R12, R13). -/
def severityTable : List (Nat × Severity) :=
  severityTable0 ++ severityTable1 ++ severityTable2 ++ severityTable3 ++ severityTable4

/-- The severity of an event code (R13). A code no table gives is reserved and never raised (R460). -/
def severityOf (code : Nat) : Severity :=
  match severityTable.lookup code with
  | some v => v
  | none => .note
namespace Ev
/-- ACCESS_DENIED, NOTE (R53). -/
abbrev accessDenied : Nat := 0x8010
/-- DESCRIPTOR_REFUSED, NOTE (R49). -/
abbrev descriptorRefused : Nat := 0x8011
/-- ADDRESS_UNMAPPED, NOTE (R40). -/
abbrev addressUnmapped : Nat := 0x8012
end Ev

/-- Ticks of the model's time in 1 µs: a tick is 1/12 ns, so that the ck of R2 is 5 ticks and a slot 20. -/
def usTicks : Nat := 12000

/-- The rate limits the chapters give, as R558 applies them: the window in ticks, and whether the scope is the node
(otherwise the instance: channel, unit, engine or port). R74 names no scope for PLAN_SLIP; the node is taken. -/
def rateLimits : List (Nat × Nat × Bool) := [
  (Ev.addressUnmapped, 10 * usTicks, true), (Ev.accessDenied, 10 * usTicks, true),
  (Ev.planSlip, 10 * usTicks, true), (Ev.poisonFed, 10 * usTicks, false),
  (Ev.scaleSaturated, 10 * usTicks, false), (Ev.nanBlock, 10 * usTicks, false),
  (Ev.beyondBound, 10 * usTicks, false), (Ev.formatTagMismatch, 10 * usTicks, false),
  (Ev.escapeRounded, 10 * usTicks, false), (Ev.reductionOverwritten, 10 * usTicks, true),
  (Ev.reductionMismatch, 10 * usTicks, true), (Ev.atomicRefused, 10 * usTicks, true),
  (Ev.refreshUrgent, 10 * usTicks, false), (Ev.queueFull, 10 * usTicks, false),
  (Ev.fillPoisoned, 10 * usTicks, false), (Ev.readAged, 10 * usTicks, false),
  (Ev.guaranteeMiss, 10 * usTicks, true), (Ev.meterRed, 10 * usTicks, true),
  (Ev.deadlineMissed, 10 * usTicks, true), (Ev.lineReread, 10 * usTicks, false),
  (Ev.trackerFull, 10000000 * usTicks, false), (Ev.gleanerLap, 10000000 * usTicks, true),
  (Ev.requestDuplicate, 10 * usTicks, true), (Ev.parcelMalformed, 10 * usTicks, false),
  (Ev.secureWriteRefused, 10 * usTicks, true), (Ev.ownerAuthFailed, 1000000 * usTicks, true),
  (Ev.sealKeyAbsent, 10 * usTicks, true), (Ev.spdmError, 1000000 * usTicks, true),
  (Ev.debugRefused, 1000000 * usTicks, true), (Ev.notifyUnacked, 10000000 * usTicks, true),
  (Ev.frameMalformed, 10000000 * usTicks, true)]

end Sys2Proof.Machine
end

