-- ==== Sys2Proof/Machine/Objects.lean ====
section
/-!
DEFINITION. The object dictionary (R7, R8, R446, R447, R472): every object of the chapters' object tables with its type,
access, default and range. An object that a chapter's own checks govern further carries here only the range its table gives.
-/
namespace Sys2Proof.Machine

/-- The object types of R7 and R446. -/
inductive ObjTy where
  | bool | u8 | u16 | u32 | u64 | i16 | i32 | time64
  /-- STR(n): 1 to n bytes. -/
  | str (n : Nat)
  /-- DOMAIN of one fixed size. -/
  | domain (n : Nat)
  /-- DOMAIN of any size up to a limit. -/
  | domainUpTo (n : Nat)
  deriving DecidableEq, Repr

/-- The access kinds of R8, with the moment and the session an object's own row adds. -/
inductive Acc where
  | ro | rw | wo | rwp | rws
  /-- RWS, writable only in CONFIG. -/
  | rwsConfig
  /-- RWL, writable only in CONFIG. -/
  | rwlConfig
  /-- RWL, taking effect at the next tide. -/
  | rwlTide
  /-- WO inside an owner session only. -/
  | woOwner
  /-- WO; inside an owner session only once the lifecycle is OWNED (R379). -/
  | woOwned
  deriving DecidableEq, Repr

/-- The range of a written value (R444 step 7). -/
inductive Rng where
  | any
  | between (lo hi : Nat)
  /-- lo to hi in whole multiples of m. -/
  | step (lo hi m : Nat)
  /-- Only these bits may be 1. -/
  | mask (m : Nat)
  /-- A two's complement value from lo to hi. -/
  | signed (lo hi : Int)
  deriving DecidableEq, Repr

/-- Which per-STACKS instance an index or subindex names (R16, R20). -/
inductive ObjUnit where
  | none | stack | channel | engine | unit | tile
  /-- The widen/narrow unit or sheaf u is the subindex less 1. -/
  | unitSub
  /-- Sheaf PLL monitor 0x10 + u. -/
  | unitMon
  /-- Retirement entries 0xA040+8s+g. -/
  | retire
  deriving DecidableEq, Repr

/-- One row of an objects table. -/
structure ObjRow where
  lo : Nat
  hi : Nat
  slo : Nat
  shi : Nat
  unit : ObjUnit
  ty : ObjTy
  acc : Acc
  setWide : Bool
  persisted : Bool
  dflt : Nat
  rng : Rng
  deriving DecidableEq, Repr

/-- The object dictionary (R472), part 1 of 12, from the chapters' object tables. -/
def objRows0 : List ObjRow := [
  ⟨0x1000, 0x1000, 0x01, 0x01, .none, .str 16, .ro, false, false, 0, .any⟩, -- vendor_name (R471)
  ⟨0x1000, 0x1000, 0x02, 0x02, .none, .str 16, .ro, false, false, 0, .any⟩, -- product_name (R471)
  ⟨0x1000, 0x1000, 0x03, 0x03, .none, .u16, .ro, false, false, 0, .any⟩, -- hardware_version (R471)
  ⟨0x1000, 0x1000, 0x04, 0x04, .none, .u32, .ro, false, false, 0, .any⟩, -- rom_version (R471)
  ⟨0x1000, 0x1000, 0x05, 0x05, .none, .u64, .ro, false, false, 0, .any⟩, -- bundle_version (R471)
  ⟨0x1000, 0x1000, 0x06, 0x06, .none, .u64, .ro, false, false, 0, .any⟩, -- package_serial (R471)
  ⟨0x1000, 0x1000, 0x07, 0x07, .none, .u16, .ro, false, false, 0x0100, .any⟩, -- dictionary_version (R471)
  ⟨0x1000, 0x1000, 0x08, 0x08, .none, .u64, .ro, false, false, 0, .any⟩, -- uptime (R471)
  ⟨0x1000, 0x1000, 0x09, 0x09, .none, .u16, .ro, false, false, 0, .any⟩, -- pending_writes (R471)
  ⟨0x1010, 0x1010, 0x01, 0x01, .none, .u64, .rwp, false, true, 0, .mask 0xFFFFFFFFFFFF⟩, -- mac_address (R471)
  ⟨0x1010, 0x1010, 0x02, 0x02, .none, .u16, .rwp, true, true, 0x88B5, .any⟩, -- ethertype (R471)
  ⟨0x1010, 0x1010, 0x03, 0x03, .none, .u8, .ro, false, false, 1, .any⟩, -- plca_id (R471)
  ⟨0x1010, 0x1010, 0x04, 0x04, .none, .u8, .rwp, true, true, 9, .between 1 255⟩, -- plca_node_count (R471)
  ⟨0x1010, 0x1010, 0x05, 0x05, .none, .u8, .rwp, true, true, 32, .between 1 255⟩, -- plca_to_timer (R471)
  ⟨0x1010, 0x1010, 0x06, 0x06, .none, .u8, .rwp, true, true, 0, .between 0 255⟩, -- plca_burst_count (R471)
  ⟨0x1010, 0x1010, 0x07, 0x07, .none, .u8, .rwp, true, true, 128, .between 1 255⟩, -- plca_burst_timer (R471)
  ⟨0x1010, 0x1010, 0x08, 0x08, .none, .bool, .ro, false, false, 0, .any⟩, -- plca_status (R471)
  ⟨0x1010, 0x1010, 0x09, 0x09, .none, .u64, .ro, false, false, 0, .any⟩, -- frames_received (R471)
  ⟨0x1010, 0x1010, 0x0A, 0x0A, .none, .u64, .ro, false, false, 0, .any⟩, -- frames_sent (R471)
  ⟨0x1010, 0x1010, 0x0B, 0x0B, .none, .u32, .ro, false, false, 0, .any⟩, -- frames_discarded (R471)
  ⟨0x1010, 0x1010, 0x0C, 0x0C, .none, .u32, .ro, false, false, 0, .any⟩, -- frames_dropped (R471)
  ⟨0x1010, 0x1010, 0x0D, 0x0D, .none, .u32, .ro, false, false, 0, .any⟩, -- plca_inactive (R471)
  ⟨0x1010, 0x1010, 0x0E, 0x0E, .none, .u8, .ro, false, false, 0, .any⟩, -- segment_sessions (R471)
  ⟨0x1020, 0x1020, 0x01, 0x01, .none, .u16, .rw, true, false, 100, .between 10 10000⟩, -- heartbeat_period (R471)
  ⟨0x1020, 0x1020, 0x02, 0x02, .none, .u64, .rw, true, false, 0xFFFFFFFFFFFF, .mask 0xFFFFFFFFFFFF⟩, -- heartbeat_destination (R471)
  ⟨0x1020, 0x1020, 0x03, 0x03, .none, .u64, .ro, false, false, 0, .any⟩, -- partner_address (R471)
  ⟨0x1020, 0x1020, 0x04, 0x04, .none, .u8, .ro, false, false, 0, .any⟩, -- partner_state (R471)
  ⟨0x1020, 0x1020, 0x05, 0x05, .none, .u32, .ro, false, false, 0, .any⟩, -- partner_losses (R471)
  ⟨0x1020, 0x1020, 0x06, 0x06, .none, .u32, .ro, false, false, 0, .any⟩, -- heartbeat_sequence (R471)
  ⟨0x1040, 0x1040, 0x01, 0x01, .none, .u16, .ro, false, false, 0, .any⟩, -- log_count (R471)
  ⟨0x1040, 0x1040, 0x02, 0x02, .none, .u32, .ro, false, false, 0, .any⟩, -- log_next (R471)
  ⟨0x1040, 0x1040, 0x03, 0x03, .none, .u32, .rw, false, false, 0, .any⟩, -- log_select (R471)
  ⟨0x1040, 0x1040, 0x04, 0x04, .none, .domain 32, .ro, false, false, 0, .any⟩, -- log_entry (R471)
  ⟨0x1040, 0x1040, 0x05, 0x05, .none, .domain 1024, .ro, false, false, 0, .any⟩, -- log_block (R471)
  ⟨0x1040, 0x1040, 0x06, 0x06, .none, .u32, .ro, false, false, 0, .any⟩, -- log_overwritten (R471)
  ⟨0x1040, 0x1040, 0x07, 0x07, .none, .u64, .ro, false, false, 0, .any⟩, -- events_masked (R471)
  ⟨0x1040, 0x1040, 0x08, 0x08, .none, .u32, .ro, false, false, 0, .any⟩, -- events_dropped (R471)
  ⟨0x1040, 0x1040, 0x09, 0x09, .none, .bool, .wo, false, false, 0, .between 1 1⟩, -- log_clear (R471)
  ⟨0x1040, 0x1040, 0x0A, 0x0A, .none, .bool, .wo, false, false, 0, .between 1 1⟩, -- alarm_clear (R471)
  ⟨0x1040, 0x1040, 0x0B, 0x0B, .none, .bool, .ro, false, false, 0, .any⟩, -- alarm_active (R471)
  ⟨0x1041, 0x1041, 0x01, 0x01, .none, .u16, .ro, false, false, 0, .any⟩, -- mirror_count (R471)
  ⟨0x1041, 0x1041, 0x02, 0x02, .none, .u16, .rw, false, false, 0, .between 0 255⟩, -- mirror_select (R471)
  ⟨0x1041, 0x1041, 0x03, 0x03, .none, .domain 32, .ro, false, false, 0, .any⟩, -- mirror_entry (R471)
  ⟨0x1041, 0x1041, 0x04, 0x04, .none, .u32, .ro, false, false, 0, .any⟩, -- mirror_suppressed (R471)
  ⟨0x1041, 0x1041, 0x05, 0x05, .none, .bool, .wo, false, false, 0, .between 1 1⟩, -- mirror_clear (R471)
  ⟨0x1050, 0x1050, 0x01, 0x04, .none, .u64, .rw, true, false, 0, .mask 0x3FFFFFFFFFFFF⟩, -- subscriber_n (R471)
  ⟨0x1050, 0x1050, 0x05, 0x05, .none, .u16, .rw, true, false, 10, .between 1 1000⟩, -- notify_retry (R471)
  ⟨0x1050, 0x1050, 0x06, 0x06, .none, .u32, .ro, false, false, 0, .any⟩ ] -- notify_lost (R471)

/-- The object dictionary (R472), part 2 of 12, from the chapters' object tables. -/
def objRows1 : List ObjRow := [
  ⟨0x1060, 0x1060, 0x01, 0x01, .none, .u64, .ro, false, false, 0, .any⟩, -- window_requests (R471)
  ⟨0x1060, 0x1060, 0x02, 0x02, .none, .u8, .rw, false, false, 1, .between 0 3⟩, -- window_notify_level (R471)
  ⟨0x1060, 0x1060, 0x03, 0x03, .none, .u32, .ro, false, false, 0, .any⟩, -- window_notify_lost (R471)
  ⟨0x1070, 0x1070, 0x01, 0x01, .none, .u8, .ro, false, false, 0, .any⟩, -- nvm_state (R471)
  ⟨0x1070, 0x1070, 0x02, 0x02, .none, .u64, .ro, false, false, 0, .any⟩, -- nvm_density (R471)
  ⟨0x1070, 0x1070, 0x03, 0x03, .none, .u8, .ro, false, false, 0, .any⟩, -- nvm_read_mode (R471)
  ⟨0x1070, 0x1070, 0x04, 0x04, .none, .u32, .ro, false, false, 0, .any⟩, -- nvm_write_failures (R471)
  ⟨0x1070, 0x1070, 0x05, 0x05, .none, .u32, .ro, false, false, 0, .any⟩, -- nvm_bad_copies (R471)
  ⟨0x1070, 0x1070, 0x06, 0x06, .none, .u64, .ro, false, false, 0, .any⟩, -- nvm_erases (R471)
  ⟨0x1080, 0x108B, 0x01, 0x04, .none, .u64, .rw, true, false, 0, .any⟩, -- event_mask_k (R471)
  ⟨0x2000, 0x2000, 0x01, 0x01, .none, .u8, .ro, false, false, 1, .any⟩, -- node_state (R436)
  ⟨0x2000, 0x2000, 0x02, 0x02, .none, .u8, .rw, false, false, 0, .any⟩, -- state_request (R436)
  ⟨0x2000, 0x2000, 0x03, 0x03, .none, .bool, .rwp, false, true, 1, .between 0 1⟩, -- auto_ready (R436)
  ⟨0x2000, 0x2000, 0x04, 0x04, .none, .u8, .wo, false, false, 0, .between 1 1⟩, -- warm_reset (R436)
  ⟨0x2000, 0x2000, 0x05, 0x05, .none, .u8, .wo, true, false, 0, .between 0 7⟩, -- node_rejoin (R436)
  ⟨0x2000, 0x2000, 0x06, 0x06, .none, .u8, .ro, false, false, 0x00, .any⟩, -- last_state_refusal (R436)
  ⟨0x2000, 0x2000, 0x07, 0x07, .none, .bool, .ro, false, false, 0, .any⟩, -- shadow (R436)
  ⟨0x2000, 0x2000, 0x08, 0x08, .none, .u32, .ro, false, false, 0x000003FF, .any⟩, -- config_blockers (R436)
  ⟨0x2000, 0x2000, 0x09, 0x09, .none, .u8, .ro, false, false, 0, .any⟩, -- entry_phase (R436)
  ⟨0x2020, 0x2020, 0x01, 0x01, .none, .u32, .rw, false, false, 0, .any⟩, -- sheaf_enable (R412)
  ⟨0x2020, 0x2020, 0x02, 0x02, .none, .u8, .rw, false, false, 0, .mask 0x3F⟩, -- adapter_enable (R412)
  ⟨0x2030, 0x2030, 0x01, 0x01, .none, .u16, .rw, true, false, 64, .between 16 64⟩, -- retrain_interval (R320)
  ⟨0x2030, 0x2030, 0x02, 0x02, .none, .u8, .rw, true, false, 8, .between 2 16⟩, -- retrain_drift (R320)
  ⟨0x2030, 0x2030, 0x03, 0x03, .none, .bool, .rwp, true, true, 0, .between 0 1⟩, -- full_training_next (R320)
  ⟨0x2100, 0x2100, 0x01, 0x01, .none, .u8, .ro, false, false, 0, .any⟩, -- set_nodes (R560)
  ⟨0x2100, 0x2100, 0x02, 0x02, .none, .u8, .ro, false, false, 4, .any⟩, -- stacks (R560)
  ⟨0x2100, 0x2100, 0x03, 0x03, .none, .u8, .ro, false, false, 0, .any⟩, -- node_number (R560)
  ⟨0x2101, 0x2101, 0x01, 0x01, .none, .u8, .rwlConfig, true, false, 5, .between 0 5⟩, -- slice_size (R560)
  ⟨0x2101, 0x2101, 0x02, 0x02, .none, .u64, .ro, false, false, 0, .any⟩, -- shared_bytes (R560)
  ⟨0x2110, 0x2110, 0x01, 0x01, .none, .u16, .ro, false, false, 0, .any⟩, -- regions_valid (R560)
  ⟨0x2110, 0x2110, 0x02, 0x02, .none, .u8, .ro, false, false, 0x00, .any⟩, -- last_refusal (R560)
  ⟨0x2110, 0x2110, 0x03, 0x03, .none, .u64, .ro, false, false, 0, .any⟩, -- denied_count (R560)
  ⟨0x2110, 0x2110, 0x04, 0x04, .none, .u64, .ro, false, false, 0, .any⟩, -- last_denied (R560)
  ⟨0x2110, 0x2110, 0x05, 0x05, .none, .u64, .ro, false, false, 0, .any⟩, -- unmapped_count (R560)
  ⟨0x2110, 0x2110, 0x06, 0x06, .none, .u32, .ro, false, false, 0, .any⟩, -- notify_overflow (R560)
  ⟨0x2120, 0x2123, 0x00, 0xFF, .none, .domain 32, .rwlTide, false, false, 0, .any⟩, -- region_r (R560)
  ⟨0x2124, 0x2127, 0x00, 0xFF, .none, .u32, .ro, false, false, 0, .any⟩, -- queue_head_r (R560)
  ⟨0x2200, 0x2200, 0x01, 0x01, .none, .u64, .ro, true, false, 0, .any⟩, -- frame_number (R89)
  ⟨0x2200, 0x2200, 0x02, 0x02, .none, .u32, .rwlTide, true, false, 64, .between 1 65536⟩, -- tide_interval (R89)
  ⟨0x2200, 0x2200, 0x03, 0x03, .none, .u64, .ro, false, false, 0, .any⟩, -- next_tide (R89)
  ⟨0x2200, 0x2200, 0x04, 0x04, .none, .u16, .rwlTide, true, false, 64, .step 0 512 8⟩, -- open_path_min (R89)
  ⟨0x2200, 0x2200, 0x05, 0x05, .none, .u64, .ro, false, false, 0, .any⟩, -- active_plan_id (R89)
  ⟨0x2200, 0x2200, 0x06, 0x06, .none, .u8, .ro, false, false, 0, .any⟩, -- plan_state (R89)
  ⟨0x2200, 0x2200, 0x07, 0x07, .none, .u64, .ro, false, false, 0, .any⟩, -- armed_tide (R89)
  ⟨0x2200, 0x2200, 0x08, 0x08, .none, .u8, .ro, false, false, 0, .any⟩, -- deferrals (R89)
  ⟨0x2201, 0x2201, 0x01, 0x01, .none, .u64, .rw, true, false, 0, .step 0 (2^41 - 1) 16⟩, -- image_address (R89)
  ⟨0x2201, 0x2201, 0x02, 0x02, .none, .u32, .rw, true, false, 0, .between 16 (64 * 2^20)⟩, -- image_length (R89)
  ⟨0x2201, 0x2201, 0x03, 0x03, .none, .u8, .rw, true, false, 0, .between 0 15⟩ ] -- load_class (R89)

/-- The object dictionary (R472), part 3 of 12, from the chapters' object tables. -/
def objRows2 : List ObjRow := [
  ⟨0x2201, 0x2201, 0x04, 0x04, .none, .u8, .wo, true, false, 0, .between 1 5⟩, -- command (R89)
  ⟨0x2201, 0x2201, 0x05, 0x05, .none, .u64, .rw, true, false, 0, .any⟩, -- arm_frame (R89)
  ⟨0x2201, 0x2201, 0x06, 0x06, .none, .u64, .ro, false, false, 0, .any⟩, -- loaded_plan_id (R89)
  ⟨0x2201, 0x2201, 0x07, 0x07, .none, .u8, .ro, false, false, 0x00, .any⟩, -- refusal_reason (R89)
  ⟨0x2201, 0x2201, 0x08, 0x08, .none, .u32, .ro, false, false, 0, .any⟩, -- refusal_where (R89)
  ⟨0x2201, 0x2201, 0x09, 0x09, .none, .u32, .ro, false, false, 0, .any⟩, -- refusal_detail (R89)
  ⟨0x2202, 0x2202, 0x01, 0x01, .none, .u8, .ro, false, false, 0, .any⟩, -- derate_cause (R89)
  ⟨0x2202, 0x2202, 0x02, 0x02, .none, .u16, .ro, false, false, 0, .any⟩, -- derate_taken_max (R89)
  ⟨0x2202, 0x2202, 0x03, 0x03, .none, .u16, .ro, false, false, 0, .any⟩, -- derate_channels (R89)
  ⟨0x2202, 0x2202, 0x04, 0x04, .none, .u64, .ro, false, false, 0, .any⟩, -- slip_count (R89)
  ⟨0x2202, 0x2202, 0x05, 0x05, .none, .u32, .ro, false, false, 0, .any⟩, -- lag_max (R89)
  ⟨0x2202, 0x2202, 0x06, 0x06, .none, .u64, .ro, false, false, 0, .any⟩, -- derate_frames (R89)
  ⟨0x2203, 0x2203, 0x01, 0x01, .none, .u64, .ro, false, false, 0, .any⟩, -- fenced (R89)
  ⟨0x2203, 0x2203, 0x02, 0x02, .none, .u64, .wo, true, false, 0, .any⟩, -- fence_clear (R89)
  ⟨0x2204, 0x2204, 0x01, 0x01, .none, .bool, .rws, true, false, 0, .between 0 1⟩, -- sign_required (R89)
  ⟨0x2204, 0x2204, 0x02, 0x02, .none, .u8, .rws, true, false, 0, .between 0 255⟩, -- plan_key_slot (R89)
  ⟨0x2204, 0x2204, 0x03, 0x03, .none, .bool, .ro, false, false, 0, .any⟩, -- continuity_active (R89)
  ⟨0x2300, 0x2300, 0x01, 0x01, .none, .u8, .ro, false, false, 64, .any⟩, -- engines_present (R123)
  ⟨0x2300, 0x2300, 0x02, 0x02, .none, .u8, .ro, false, false, 0, .any⟩, -- feed_mode (R123)
  ⟨0x2300, 0x2300, 0x03, 0x03, .none, .u32, .rw, true, false, 1000, .between 10 1000000⟩, -- stall_timeout (R123)
  ⟨0x2300, 0x2300, 0x04, 0x04, .none, .u32, .rw, true, false, 10, .between 1 1000⟩, -- port_timeout (R123)
  ⟨0x2300, 0x2300, 0x05, 0x05, .none, .u64, .wo, false, false, 0, .any⟩, -- fence_request (R123)
  ⟨0x2300, 0x2300, 0x06, 0x06, .none, .u8, .ro, false, false, 0x00, .any⟩, -- last_fence_cause (R123)
  ⟨0x2300, 0x2300, 0x07, 0x07, .none, .u8, .ro, false, false, 0, .any⟩, -- last_fence_context (R123)
  ⟨0x2300, 0x2300, 0x08, 0x08, .none, .u32, .ro, false, false, 0, .any⟩, -- fence_count (R123)
  ⟨0x2320, 0x2320, 0x00, 0xFF, .tile, .u8, .rws, false, false, 0, .between 0 1⟩, -- port_world (R123)
  ⟨0x2321, 0x2321, 0x00, 0xFF, .tile, .u32, .ro, false, false, 0, .any⟩, -- port_state (R123)
  ⟨0x2322, 0x2322, 0x00, 0xFF, .tile, .bool, .wo, false, false, 0, .between 1 1⟩, -- port_rejoin (R123)
  ⟨0x2400, 0x2400, 0x01, 0x01, .none, .u16, .ro, false, false, 0x03FF, .any⟩, -- formats_supported (R154)
  ⟨0x2400, 0x2400, 0x02, 0x02, .none, .u8, .rw, true, false, 0, .between 0 15⟩, -- escape_class (R154)
  ⟨0x2400, 0x2400, 0x03, 0x03, .none, .u8, .rw, true, false, 90, .between 50 100⟩, -- pool_warn_level (R154)
  ⟨0x2400, 0x2400, 0x04, 0x04, .none, .u16, .ro, false, false, 0, .any⟩, -- beyond_bound_count (R154)
  ⟨0x2400, 0x2400, 0x05, 0x05, .none, .u32, .ro, false, false, 0, .any⟩, -- last_format_check (R154)
  ⟨0x2401, 0x2401, 0x01, 0x01, .none, .u16, .wo, false, false, 0, .between 0 1023⟩, -- pool_reset (R154)
  ⟨0x2404, 0x2407, 0x00, 0xFF, .none, .u64, .ro, false, false, 0, .any⟩, -- pool_state_r (R154)
  ⟨0x2410, 0x2410, 0x01, 0x40, .none, .domain 64, .rw, true, false, 0, .any⟩, -- standing_entry_x (R154)
  ⟨0x2420, 0x243F, 0x01, 0x01, .unit, .u64, .ro, false, false, 0, .any⟩, -- lines_widened (R154)
  ⟨0x2420, 0x243F, 0x02, 0x02, .unit, .u64, .ro, false, false, 0, .any⟩, -- lines_narrowed (R154)
  ⟨0x2420, 0x243F, 0x03, 0x03, .unit, .u64, .ro, false, false, 0, .any⟩, -- scale_over (R154)
  ⟨0x2420, 0x243F, 0x04, 0x04, .unit, .u64, .ro, false, false, 0, .any⟩, -- scale_under (R154)
  ⟨0x2420, 0x243F, 0x05, 0x05, .unit, .u64, .ro, false, false, 0, .any⟩, -- element_clamp (R154)
  ⟨0x2420, 0x243F, 0x06, 0x06, .unit, .u64, .ro, false, false, 0, .any⟩, -- nan_groups (R154)
  ⟨0x2420, 0x243F, 0x07, 0x07, .unit, .u64, .ro, false, false, 0, .any⟩, -- range_saturated (R154)
  ⟨0x2420, 0x243F, 0x08, 0x08, .unit, .u64, .ro, false, false, 0, .any⟩, -- residual_exceeded (R154)
  ⟨0x2420, 0x243F, 0x09, 0x09, .unit, .u64, .ro, false, false, 0, .any⟩, -- escapes_written (R154)
  ⟨0x2420, 0x243F, 0x0A, 0x0A, .unit, .u64, .ro, false, false, 0, .any⟩, -- escapes_read (R154)
  ⟨0x2420, 0x243F, 0x0B, 0x0B, .unit, .u64, .ro, false, false, 0, .any⟩, -- tag_mismatch (R154)
  ⟨0x2420, 0x243F, 0x0C, 0x0C, .unit, .u64, .ro, false, false, 0, .any⟩ ] -- malformed (R154)

/-- The object dictionary (R472), part 4 of 12, from the chapters' object tables. -/
def objRows3 : List ObjRow := [
  ⟨0x2420, 0x243F, 0x0D, 0x0D, .unit, .u64, .ro, false, false, 0, .any⟩, -- escape_failed (R154)
  ⟨0x2420, 0x243F, 0x0E, 0x0E, .unit, .u64, .ro, false, false, 0, .any⟩, -- escape_rounded (R154)
  ⟨0x2420, 0x243F, 0x0F, 0x0F, .unit, .u8, .ro, false, false, 0, .any⟩, -- unit_state (R154)
  ⟨0x2420, 0x243F, 0x10, 0x10, .unit, .bool, .wo, false, false, 0, .between 1 1⟩, -- unit_rejoin (R154)
  ⟨0x2440, 0x2440, 0x01, 0x10, .none, .u64, .ro, false, false, 0, .any⟩, -- beyond_bound_map (R154)
  ⟨0x2441, 0x2441, 0x01, 0x01, .none, .u16, .wo, false, false, 0, .between 0 1023⟩, -- beyond_bound_clear (R154)
  ⟨0x2441, 0x2441, 0x02, 0x02, .none, .u64, .ro, false, false, 0, .any⟩, -- beyond_bound_last (R154)
  ⟨0x2500, 0x2500, 0x01, 0x01, .none, .u16, .ro, false, false, 0xFFFF, .any⟩, -- slices_in_service (R182)
  ⟨0x2500, 0x2500, 0x02, 0x02, .none, .u8, .rw, true, false, 16, .between 1 64⟩, -- reduce_window (R182)
  ⟨0x2500, 0x2500, 0x03, 0x03, .none, .u32, .rw, true, false, 1000, .between 10 1000000⟩, -- reduce_timeout (R182)
  ⟨0x2500, 0x2500, 0x04, 0x04, .none, .u32, .rw, true, false, 1000, .between 1 1000000⟩, -- wait_timeout (R182)
  ⟨0x2500, 0x2500, 0x05, 0x05, .none, .u32, .rw, true, false, 10, .between 1 10000⟩, -- writeback_age (R182)
  ⟨0x2500, 0x2500, 0x06, 0x06, .none, .bool, .wo, false, false, 0, .between 1 1⟩, -- flush_all (R182)
  ⟨0x2500, 0x2500, 0x07, 0x07, .none, .u16, .rws, true, false, 16384, .between 0 16384⟩, -- secure_object_base (R182)
  ⟨0x2500, 0x2500, 0x08, 0x08, .none, .u16, .ro, false, false, 0, .any⟩, -- reductions_open (R182)
  ⟨0x2500, 0x2500, 0x09, 0x09, .none, .u32, .ro, false, false, 0, .any⟩, -- reductions_broken (R182)
  ⟨0x2500, 0x2500, 0x0A, 0x0A, .none, .u8, .rw, true, false, 0, .between 0 15⟩, -- sync_class (R182)
  ⟨0x2500, 0x2500, 0x0B, 0x0B, .none, .u64, .ro, false, false, 0, .any⟩, -- refused_count (R182)
  ⟨0x2501, 0x2501, 0x01, 0x10, .none, .u32, .rwlTide, true, false, 0x1FFFF, .any⟩, -- class_alloc_l (R182)
  ⟨0x2510, 0x251F, 0x01, 0x01, .none, .u8, .ro, false, false, 0, .any⟩, -- slice_state (R182)
  ⟨0x2510, 0x251F, 0x02, 0x02, .none, .u64, .ro, false, false, 0, .any⟩, -- hits (R182)
  ⟨0x2510, 0x251F, 0x03, 0x03, .none, .u64, .ro, false, false, 0, .any⟩, -- misses (R182)
  ⟨0x2510, 0x251F, 0x04, 0x04, .none, .u64, .ro, false, false, 0, .any⟩, -- atomics (R182)
  ⟨0x2510, 0x251F, 0x05, 0x05, .none, .u64, .ro, false, false, 0, .any⟩, -- contributions (R182)
  ⟨0x2510, 0x251F, 0x06, 0x06, .none, .u32, .ro, false, false, 0, .any⟩, -- dirty_lines (R182)
  ⟨0x2510, 0x251F, 0x07, 0x07, .none, .u16, .ro, false, false, 0, .any⟩, -- staging_peak (R182)
  ⟨0x2510, 0x251F, 0x08, 0x08, .none, .bool, .wo, false, false, 0, .between 1 1⟩, -- slice_rejoin (R182)
  ⟨0x2510, 0x251F, 0x09, 0x09, .none, .u32, .ro, false, false, 0, .any⟩, -- overwritten (R182)
  ⟨0x2540, 0x257F, 0x00, 0xFF, .none, .u64, .rw, false, false, 0, .any⟩, -- sync_object_o (R182)
  ⟨0x3000, 0x3000, 0x01, 0x01, .none, .u32, .rw, true, false, 1000, .between 0 100000⟩, -- offer_hold (R240)
  ⟨0x3000, 0x3000, 0x02, 0x02, .none, .u8, .rwlTide, true, false, 32, .between 0 96⟩, -- read_reserve (R240)
  ⟨0x3000, 0x3000, 0x03, 0x03, .none, .u8, .rwlTide, true, false, 24, .between 0 72⟩, -- write_reserve (R240)
  ⟨0x3000, 0x3000, 0x04, 0x04, .none, .u32, .rw, true, false, 100, .between 1 10000⟩, -- panic_limit (R240)
  ⟨0x3000, 0x3000, 0x05, 0x05, .none, .u16, .rw, true, false, 0xFFFF, .any⟩, -- tile_class_mask (R240)
  ⟨0x3000, 0x3000, 0x06, 0x06, .none, .u8, .ro, false, false, 0, .any⟩, -- degrade_state (R240)
  ⟨0x3000, 0x3000, 0x07, 0x0B, .none, .u64, .ro, false, false, 0, .any⟩, -- step_count_n (R240)
  ⟨0x3000, 0x3000, 0x0C, 0x0C, .none, .u64, .ro, false, false, 0, .any⟩, -- guarantee_misses (R240)
  ⟨0x3000, 0x3000, 0x0D, 0x0D, .none, .u32, .ro, false, false, 0, .any⟩, -- state_resets (R240)
  ⟨0x3000, 0x3000, 0x0E, 0x0E, .none, .u32, .ro, false, false, 0, .any⟩, -- regulator_capacity (R240)
  ⟨0x3010, 0x301F, 0x01, 0x01, .none, .u8, .rwlTide, true, false, 1, .between 0 1⟩, -- class_kind (R240)
  ⟨0x3010, 0x301F, 0x02, 0x02, .none, .u8, .rwlTide, true, false, 3, .between 3 7⟩, -- class_rank (R240)
  ⟨0x3010, 0x301F, 0x03, 0x03, .none, .u8, .rwlTide, true, false, 16, .between 1 255⟩, -- class_weight (R240)
  ⟨0x3010, 0x301F, 0x04, 0x04, .none, .u8, .rwlTide, true, false, 0, .between 0 2⟩, -- meter_mode (R240)
  ⟨0x3010, 0x301F, 0x05, 0x05, .none, .u32, .rwlTide, true, false, 0, .between 0 20000000⟩, -- cir (R240)
  ⟨0x3010, 0x301F, 0x06, 0x06, .none, .u32, .rwlTide, true, false, 16384, .between 128 (2^30)⟩, -- cbs (R240)
  ⟨0x3010, 0x301F, 0x07, 0x07, .none, .u32, .rwlTide, true, false, 0, .between 0 20000000⟩, -- pir (R240)
  ⟨0x3010, 0x301F, 0x08, 0x08, .none, .u32, .rwlTide, true, false, 32768, .between 128 (2^30)⟩, -- pbs (R240)
  ⟨0x3010, 0x301F, 0x09, 0x09, .none, .bool, .rwlTide, true, false, 0, .between 0 1⟩ ] -- shaper_enable (R240)

/-- The object dictionary (R472), part 5 of 12, from the chapters' object tables. -/
def objRows4 : List ObjRow := [
  ⟨0x3010, 0x301F, 0x0A, 0x0A, .none, .u32, .rwlTide, true, false, 0, .between 0 20000000⟩, -- idle_slope (R240)
  ⟨0x3010, 0x301F, 0x0B, 0x0B, .none, .u32, .rwlTide, true, false, 16384, .between 0 (2^30)⟩, -- hi_credit (R240)
  ⟨0x3010, 0x301F, 0x10, 0x10, .none, .u64, .ro, false, false, 0, .any⟩, -- green (R240)
  ⟨0x3010, 0x301F, 0x11, 0x11, .none, .u64, .ro, false, false, 0, .any⟩, -- yellow (R240)
  ⟨0x3010, 0x301F, 0x12, 0x12, .none, .u64, .ro, false, false, 0, .any⟩, -- red (R240)
  ⟨0x3010, 0x301F, 0x13, 0x13, .none, .u64, .ro, false, false, 0, .any⟩, -- accepted (R240)
  ⟨0x3010, 0x301F, 0x14, 0x14, .none, .u64, .ro, false, false, 0, .any⟩, -- expired (R240)
  ⟨0x3010, 0x301F, 0x15, 0x15, .none, .i32, .ro, false, false, 0, .any⟩, -- shaper_credit (R240)
  ⟨0x3010, 0x301F, 0x16, 0x16, .none, .u64, .ro, false, false, 0, .any⟩, -- late (R240)
  ⟨0x3020, 0x3027, 0x01, 0x01, .none, .u8, .rws, false, false, 0, .between 0 1⟩, -- rt_port_world (R240)
  ⟨0x3020, 0x3027, 0x02, 0x02, .none, .u16, .rw, false, false, 0xFFFF, .any⟩, -- rt_class_mask (R240)
  ⟨0x3020, 0x3027, 0x03, 0x03, .none, .u8, .ro, false, false, 0, .any⟩, -- panic_input (R240)
  ⟨0x3020, 0x3027, 0x04, 0x04, .none, .u8, .ro, false, false, 0, .any⟩, -- panic_state (R240)
  ⟨0x3020, 0x3027, 0x05, 0x05, .none, .u64, .ro, false, false, 0, .any⟩, -- panic_episodes (R240)
  ⟨0x3020, 0x3027, 0x06, 0x06, .none, .u32, .ro, false, false, 0, .any⟩, -- stuck_count (R240)
  ⟨0x3020, 0x3027, 0x07, 0x07, .none, .u64, .ro, false, false, 0, .any⟩, -- deadline_missed (R240)
  ⟨0x3020, 0x3027, 0x08, 0x08, .none, .u8, .ro, false, false, 0, .any⟩, -- offer_peak (R240)
  ⟨0x3020, 0x3027, 0x09, 0x09, .none, .u32, .ro, false, false, 0, .any⟩, -- discarded_beats (R240)
  ⟨0x3040, 0x3040, 0x01, 0x40, .none, .u8, .rwlTide, true, false, 0, .between 0 63⟩, -- context_partition_x (R240)
  ⟨0x3080, 0x30BF, 0x01, 0x01, .none, .u32, .rwlTide, false, false, 0, .any⟩, -- budget (R240)
  ⟨0x3080, 0x30BF, 0x02, 0x02, .none, .u16, .rwlTide, false, false, 0, .between 0 1024⟩, -- window (R240)
  ⟨0x3080, 0x30BF, 0x03, 0x03, .none, .u8, .rwlTide, false, false, 0, .between 0 1⟩, -- regulator_flags (R240)
  ⟨0x3080, 0x30BF, 0x04, 0x04, .none, .u32, .rwlTide, false, false, 0, .any⟩, -- burst (R240)
  ⟨0x3080, 0x30BF, 0x05, 0x05, .none, .u32, .ro, false, false, 0, .any⟩, -- used (R240)
  ⟨0x3080, 0x30BF, 0x06, 0x06, .none, .u32, .ro, false, false, 0, .any⟩, -- allowance (R240)
  ⟨0x3080, 0x30BF, 0x07, 0x07, .none, .u64, .ro, false, false, 0, .any⟩, -- demoted (R240)
  ⟨0x3800, 0x3803, 0x01, 0x01, .stack, .u64, .ro, false, false, 0, .any⟩, -- stack_identity (R539)
  ⟨0x3800, 0x3803, 0x02, 0x02, .stack, .u16, .ro, false, false, 0, .any⟩, -- vendor_code (R539)
  ⟨0x3800, 0x3803, 0x03, 0x03, .stack, .u16, .ro, false, false, 0, .any⟩, -- device_code (R539)
  ⟨0x3800, 0x3803, 0x04, 0x04, .stack, .u16, .ro, false, false, 0, .any⟩, -- layers_present (R539)
  ⟨0x3800, 0x3803, 0x05, 0x05, .stack, .u8, .ro, false, false, 0, .any⟩, -- identity_state (R539)
  ⟨0x3800, 0x3803, 0x06, 0x06, .stack, .u64, .ro, false, false, 0, .any⟩, -- alerts (R539)
  ⟨0x3800, 0x3803, 0x07, 0x07, .stack, .u64, .ro, false, false, 0, .any⟩, -- missing_beats (R539)
  ⟨0x3800, 0x3803, 0x08, 0x08, .stack, .u32, .ro, false, false, 0, .any⟩, -- soft_replayed (R539)
  ⟨0x3800, 0x3803, 0x09, 0x09, .stack, .u32, .ro, false, false, 0, .any⟩, -- hard_repairs (R539)
  ⟨0x3800, 0x3803, 0x0A, 0x0A, .stack, .u32, .ro, false, false, 0, .any⟩, -- hard_failures (R539)
  ⟨0x3800, 0x3803, 0x0B, 0x0B, .stack, .u32, .ro, false, false, 0, .any⟩, -- thermal_flags (R539)
  ⟨0x3800, 0x3803, 0x0C, 0x0C, .stack, .u8, .ro, false, false, 110, .any⟩, -- flag_temp (R539)
  ⟨0x3800, 0x3803, 0x0D, 0x0D, .stack, .domain 16, .ro, false, false, 0, .any⟩, -- layer_revisions (R539)
  ⟨0x4000, 0x411F, 0x01, 0x01, .channel, .u8, .ro, false, false, 0, .any⟩, -- channel_state (R214)
  ⟨0x4000, 0x411F, 0x02, 0x02, .channel, .u16, .ro, false, false, 0xFFFF, .any⟩, -- substitution (R214)
  ⟨0x4000, 0x411F, 0x03, 0x03, .channel, .u8, .ro, false, false, 0, .any⟩, -- width (R214)
  ⟨0x4000, 0x411F, 0x04, 0x04, .channel, .u8, .ro, false, false, 0, .any⟩, -- refresh_class (R214)
  ⟨0x4000, 0x411F, 0x05, 0x05, .channel, .i16, .ro, false, false, 0, .any⟩, -- debt_max (R214)
  ⟨0x4000, 0x411F, 0x06, 0x06, .channel, .u64, .ro, false, false, 0, .any⟩, -- bank_refreshes (R214)
  ⟨0x4000, 0x411F, 0x07, 0x07, .channel, .u64, .ro, false, false, 0, .any⟩, -- urgent_refreshes (R214)
  ⟨0x4000, 0x411F, 0x08, 0x08, .channel, .u16, .rw, false, false, 0xFFFF, .any⟩, -- segment_mask (R214)
  ⟨0x4000, 0x411F, 0x09, 0x09, .channel, .u8, .ro, false, false, 0, .any⟩ ] -- read_queue_depth (R214)

/-- The object dictionary (R472), part 6 of 12, from the chapters' object tables. -/
def objRows5 : List ObjRow := [
  ⟨0x4000, 0x411F, 0x0A, 0x0A, .channel, .u8, .ro, false, false, 0, .any⟩, -- write_queue_depth (R214)
  ⟨0x4000, 0x411F, 0x0B, 0x0B, .channel, .u8, .ro, false, false, 0, .any⟩, -- read_queue_peak (R214)
  ⟨0x4000, 0x411F, 0x0C, 0x0C, .channel, .u8, .ro, false, false, 0, .any⟩, -- write_queue_peak (R214)
  ⟨0x4000, 0x411F, 0x0D, 0x0D, .channel, .u64, .ro, false, false, 0, .any⟩, -- floods (R214)
  ⟨0x4000, 0x411F, 0x0E, 0x0E, .channel, .u64, .ro, false, false, 0, .any⟩, -- idle_drains (R214)
  ⟨0x4000, 0x411F, 0x0F, 0x0F, .channel, .u64, .ro, false, false, 0, .any⟩, -- hold_drains (R214)
  ⟨0x4000, 0x411F, 0x10, 0x10, .channel, .u64, .ro, false, false, 0, .any⟩, -- held_reads (R214)
  ⟨0x4000, 0x411F, 0x11, 0x11, .channel, .u64, .ro, false, false, 0, .any⟩, -- superseded_writes (R214)
  ⟨0x4000, 0x411F, 0x12, 0x12, .channel, .u64, .ro, false, false, 0, .any⟩, -- forwarded_reads (R214)
  ⟨0x4000, 0x411F, 0x13, 0x13, .channel, .u64, .ro, false, false, 0, .any⟩, -- partial_writes (R214)
  ⟨0x4000, 0x411F, 0x14, 0x14, .channel, .u64, .ro, false, false, 0, .any⟩, -- lines_planned (R214)
  ⟨0x4000, 0x411F, 0x15, 0x15, .channel, .u64, .ro, false, false, 0, .any⟩, -- lines_open (R214)
  ⟨0x4000, 0x411F, 0x16, 0x16, .channel, .u64, .ro, false, false, 0, .any⟩, -- activations (R214)
  ⟨0x4000, 0x411F, 0x17, 0x17, .channel, .u64, .ro, false, false, 0, .any⟩, -- quad_changes (R214)
  ⟨0x4000, 0x411F, 0x18, 0x18, .channel, .u64, .ro, false, false, 0, .any⟩, -- turnarounds (R214)
  ⟨0x4000, 0x411F, 0x19, 0x19, .channel, .u64, .ro, false, false, 0, .any⟩, -- slips (R214)
  ⟨0x4000, 0x411F, 0x1A, 0x1A, .channel, .u64, .ro, false, false, 0, .any⟩, -- harm_withheld (R214)
  ⟨0x4000, 0x411F, 0x1B, 0x1B, .channel, .u64, .ro, false, false, 0, .any⟩, -- aged_reads (R214)
  ⟨0x4000, 0x411F, 0x1C, 0x1C, .channel, .bool, .wo, false, false, 0, .between 1 1⟩, -- channel_rejoin (R214)
  ⟨0x4000, 0x411F, 0x40, 0x40, .channel, .u8, .ro, false, false, 0, .any⟩, -- training_state (R320)
  ⟨0x4000, 0x411F, 0x41, 0x41, .channel, .u8, .ro, false, false, 0, .any⟩, -- training_source (R320)
  ⟨0x4000, 0x411F, 0x42, 0x42, .channel, .u8, .ro, false, false, 0xFF, .any⟩, -- spare_group_use (R320)
  ⟨0x4000, 0x411F, 0x43, 0x43, .channel, .u32, .ro, false, false, 0, .any⟩, -- failed_groups (R320)
  ⟨0x4000, 0x411F, 0x44, 0x44, .channel, .time64, .ro, false, false, 0, .any⟩, -- last_round (R320)
  ⟨0x4000, 0x411F, 0x45, 0x45, .channel, .u32, .ro, false, false, 0, .any⟩, -- rounds (R320)
  ⟨0x4000, 0x411F, 0x46, 0x46, .channel, .u32, .ro, false, false, 0, .any⟩, -- rounds_late (R320)
  ⟨0x4000, 0x411F, 0x47, 0x47, .channel, .u32, .ro, false, false, 0, .any⟩, -- calibration_bad (R320)
  ⟨0x4000, 0x411F, 0x48, 0x48, .channel, .u32, .ro, false, false, 0, .any⟩, -- training_time (R320)
  ⟨0x4000, 0x411F, 0x49, 0x49, .channel, .u32, .ro, false, false, 0, .any⟩, -- record_sequence (R320)
  ⟨0x4000, 0x411F, 0x4A, 0x4A, .channel, .u64, .wo, false, false, 0, .any⟩, -- margin_request (R320)
  ⟨0x4000, 0x411F, 0x4B, 0x4B, .channel, .u64, .ro, false, false, 0, .any⟩, -- margin_result (R320)
  ⟨0x4000, 0x411F, 0x4C, 0x4C, .channel, .bool, .wo, false, false, 0, .between 1 1⟩, -- retrain_request (R320)
  ⟨0x4000, 0x411F, 0x50, 0x61, .channel, .u64, .ro, false, false, 0, .any⟩, -- group_settings (R320)
  ⟨0x4000, 0x411F, 0x62, 0x62, .channel, .domain 288, .ro, false, false, 0, .any⟩, -- lane_delays (R320)
  ⟨0x4000, 0x411F, 0x63, 0x63, .channel, .domain 16, .ro, false, false, 0, .any⟩, -- ca_settings (R320)
  ⟨0x4000, 0x411F, 0x80, 0x80, .channel, .u32, .ro, false, false, 0, .any⟩, -- gleaner_position (R276)
  ⟨0x4000, 0x411F, 0x81, 0x81, .channel, .u32, .ro, false, false, 0, .any⟩, -- gleaner_laps (R276)
  ⟨0x4000, 0x411F, 0x82, 0x82, .channel, .u32, .ro, false, false, 0, .any⟩, -- last_lap_time (R276)
  ⟨0x4000, 0x411F, 0x83, 0x83, .channel, .u64, .ro, false, false, 0, .any⟩, -- gleaner_lines (R276)
  ⟨0x4000, 0x411F, 0x84, 0x84, .channel, .u8, .ro, false, false, 0, .any⟩, -- tracker_used (R276)
  ⟨0x4000, 0x411F, 0x85, 0x85, .channel, .u64, .ro, false, false, 0, .any⟩, -- read_failures (R276)
  ⟨0x4000, 0x411F, 0x86, 0x86, .channel, .u64, .ro, false, false, 0, .any⟩, -- reread_ok (R276)
  ⟨0x4000, 0x411F, 0x87, 0x87, .channel, .u16, .ro, false, false, 0, .any⟩, -- spare_rows_used (R276)
  ⟨0x4000, 0x411F, 0x88, 0x88, .channel, .u16, .ro, false, false, 0, .any⟩, -- rows_retired_here (R276)
  ⟨0x4000, 0x411F, 0x89, 0x89, .channel, .u32, .ro, false, false, 0, .any⟩, -- tracker_overflow (R276)
  ⟨0x4000, 0x411F, 0x8A, 0x8A, .channel, .u64, .ro, false, false, 0, .any⟩, -- write_alerts (R276)
  ⟨0x4000, 0x411F, 0x8B, 0x8B, .channel, .u32, .ro, false, false, 0, .any⟩, -- recovery_waits (R276)
  ⟨0x4000, 0x411F, 0xC0, 0xFF, .channel, .u64, .ro, false, false, 0, .any⟩ ] -- tracker_entry_n (R276)

/-- The object dictionary (R472), part 7 of 12, from the chapters' object tables. -/
def objRows6 : List ObjRow := [
  ⟨0x5000, 0x503F, 0x01, 0x01, .engine, .u8, .ro, false, false, 0, .any⟩, -- engine_state (R123)
  ⟨0x5000, 0x503F, 0x02, 0x02, .engine, .u64, .ro, false, false, 0, .any⟩, -- lines_fed (R123)
  ⟨0x5000, 0x503F, 0x03, 0x03, .engine, .u64, .ro, false, false, 0, .any⟩, -- lines_drained (R123)
  ⟨0x5000, 0x503F, 0x04, 0x04, .engine, .u64, .ro, false, false, 0, .any⟩, -- lines_masked (R123)
  ⟨0x5000, 0x503F, 0x05, 0x05, .engine, .u64, .ro, false, false, 0, .any⟩, -- lines_chaff (R123)
  ⟨0x5000, 0x503F, 0x06, 0x06, .engine, .u64, .ro, false, false, 0, .any⟩, -- lines_poisoned (R123)
  ⟨0x5000, 0x503F, 0x07, 0x07, .engine, .u16, .ro, false, false, 0, .any⟩, -- feed_buffer_peak (R123)
  ⟨0x5000, 0x503F, 0x08, 0x08, .engine, .bool, .wo, false, false, 0, .between 1 1⟩, -- engine_rejoin (R123)
  ⟨0x5000, 0x503F, 0x40, 0x7F, .engine, .u64, .ro, false, false, 0, .any⟩, -- stream_status (R123)
  ⟨0x5000, 0x503F, 0x80, 0xBF, .engine, .u32, .ro, false, false, 0, .any⟩, -- stream_credit (R123)
  ⟨0x5800, 0x5803, 0x01, 0x01, .none, .u8, .ro, false, false, 0, .any⟩, -- port_state (R349)
  ⟨0x5800, 0x5803, 0x02, 0x02, .none, .u8, .ro, false, false, 0, .any⟩, -- modules (R349)
  ⟨0x5800, 0x5803, 0x03, 0x03, .none, .u8, .ro, false, false, 0xFF, .any⟩, -- peer_node (R349)
  ⟨0x5800, 0x5803, 0x04, 0x04, .none, .u8, .ro, false, false, 0x00, .any⟩, -- refusal_reason (R349)
  ⟨0x5800, 0x5803, 0x05, 0x05, .none, .u32, .rwlTide, false, false, 1000, .between 0 100000⟩, -- guard_band (R349)
  ⟨0x5800, 0x5803, 0x06, 0x06, .none, .i16, .rwp, false, true, 0, .signed (-5000) 5000⟩, -- asymmetry (R349)
  ⟨0x5800, 0x5803, 0x07, 0x07, .none, .u32, .rw, false, false, 1000, .between 10 100000⟩, -- retrain_limit (R349)
  ⟨0x5800, 0x5803, 0x08, 0x08, .none, .u64, .ro, false, false, 0, .any⟩, -- parcels_sent (R349)
  ⟨0x5800, 0x5803, 0x09, 0x09, .none, .u64, .ro, false, false, 0, .any⟩, -- parcels_received (R349)
  ⟨0x5800, 0x5803, 0x0A, 0x0A, .none, .u64, .ro, false, false, 0, .any⟩, -- replays (R349)
  ⟨0x5800, 0x5803, 0x0B, 0x0B, .none, .u64, .ro, false, false, 0, .any⟩, -- hop_duplicates (R349)
  ⟨0x5800, 0x5803, 0x0C, 0x0C, .none, .u32, .ro, false, false, 0, .any⟩, -- link_resets (R349)
  ⟨0x5800, 0x5803, 0x0D, 0x0D, .none, .u32, .ro, false, false, 0, .any⟩, -- malformed (R349)
  ⟨0x5800, 0x5803, 0x0E, 0x0E, .none, .u64, .ro, false, false, 0, .any⟩, -- window_waits (R349)
  ⟨0x5800, 0x5803, 0x0F, 0x0F, .none, .u16, .ro, false, false, 0, .any⟩, -- replay_peak (R349)
  ⟨0x5800, 0x5803, 0x10, 0x1F, .none, .u64, .rwlTide, true, false, 0, .any⟩, -- shaper_l (R349)
  ⟨0x5800, 0x5803, 0x20, 0x2F, .none, .i32, .ro, false, false, 0, .any⟩, -- credit_l (R349)
  ⟨0x5800, 0x5803, 0x30, 0x3F, .none, .u64, .ro, false, false, 0, .any⟩, -- bytes_l (R349)
  ⟨0x5808, 0x5808, 0x01, 0x01, .none, .u8, .ro, false, false, 0, .any⟩, -- set_state (R349)
  ⟨0x5808, 0x5808, 0x02, 0x02, .none, .u32, .rwp, true, true, 2000, .between 100 60000⟩, -- formation_timeout (R349)
  ⟨0x5808, 0x5808, 0x03, 0x03, .none, .u8, .ro, false, false, 0, .any⟩, -- members (R349)
  ⟨0x5808, 0x5808, 0x04, 0x04, .none, .u8, .ro, false, false, 0, .any⟩, -- lost (R349)
  ⟨0x5808, 0x5808, 0x05, 0x05, .none, .u8, .ro, false, false, 0, .any⟩, -- lead_node (R349)
  ⟨0x5808, 0x5808, 0x06, 0x06, .none, .time64, .ro, false, false, 0, .any⟩, -- frame_epoch (R349)
  ⟨0x5808, 0x5808, 0x08, 0x08, .none, .u32, .rwp, true, true, 100, .between 10 10000⟩, -- join_timeout (R349)
  ⟨0x5808, 0x5808, 0x09, 0x09, .none, .u16, .ro, false, false, 0, .any⟩, -- forward_in_use (R349)
  ⟨0x5808, 0x5808, 0x0A, 0x0A, .none, .u64, .ro, false, false, 0, .any⟩, -- e2e_duplicates (R349)
  ⟨0x5808, 0x5808, 0x0B, 0x0B, .none, .u64, .ro, false, false, 0, .any⟩, -- reissued (R349)
  ⟨0x5808, 0x5808, 0x0C, 0x0C, .none, .u32, .rwp, true, true, 500, .between 10 2000⟩, -- warm_reset_limit (R349)
  ⟨0x5809, 0x5809, 0x01, 0x08, .none, .u8, .ro, false, false, 0xFF, .any⟩, -- route_n (R349)
  ⟨0x580A, 0x580A, 0x01, 0x01, .none, .time64, .ro, false, false, 0, .any⟩, -- set_time (R349)
  ⟨0x580A, 0x580A, 0x02, 0x02, .none, .i32, .ro, false, false, 0, .any⟩, -- time_offset (R349)
  ⟨0x580A, 0x580A, 0x03, 0x03, .none, .u8, .ro, false, false, 0xFF, .any⟩, -- time_parent (R349)
  ⟨0x580A, 0x580A, 0x04, 0x04, .none, .i32, .ro, false, false, 0, .any⟩, -- rate_adjust (R349)
  ⟨0x5C00, 0x5C00, 0x01, 0x01, .none, .u8, .ro, false, false, 0, .any⟩, -- port_state (R365)
  ⟨0x5C00, 0x5C00, 0x02, 0x02, .none, .u64, .ro, false, false, 0, .any⟩, -- attached_capacity (R365)
  ⟨0x5C00, 0x5C00, 0x03, 0x03, .none, .u8, .rw, false, false, 25, .between 5 100⟩, -- transfer_share (R365)
  ⟨0x5C00, 0x5C00, 0x04, 0x04, .none, .u32, .rw, false, false, 2000, .between 100 100000⟩ ] -- coalesce_age (R365)

/-- The object dictionary (R472), part 8 of 12, from the chapters' object tables. -/
def objRows7 : List ObjRow := [
  ⟨0x5C00, 0x5C00, 0x05, 0x05, .none, .u8, .rwsConfig, false, false, 0, .between 0 255⟩, -- bale_key_slot (R365)
  ⟨0x5C00, 0x5C00, 0x06, 0x06, .none, .u64, .ro, false, false, 0, .any⟩, -- bale_reads (R365)
  ⟨0x5C00, 0x5C00, 0x07, 0x07, .none, .u64, .ro, false, false, 0, .any⟩, -- bale_writes (R365)
  ⟨0x5C00, 0x5C00, 0x08, 0x08, .none, .u64, .ro, false, false, 0, .any⟩, -- read_failures (R365)
  ⟨0x5C00, 0x5C00, 0x09, 0x09, .none, .u64, .ro, false, false, 0, .any⟩, -- auth_failures (R365)
  ⟨0x5C00, 0x5C00, 0x0A, 0x0A, .none, .u64, .ro, false, false, 0, .any⟩, -- bales_stale (R365)
  ⟨0x5C00, 0x5C00, 0x0C, 0x0C, .none, .u16, .ro, false, false, 0, .any⟩, -- buffer_peak (R365)
  ⟨0x5C00, 0x5C00, 0x0D, 0x0D, .none, .bool, .wo, false, false, 0, .between 1 1⟩, -- port_rejoin (R365)
  ⟨0x5C01, 0x5C08, 0x01, 0x01, .none, .u64, .rwlConfig, false, false, 0, .step 0 (2^64 - 64) 64⟩, -- hpa_base (R365)
  ⟨0x5C01, 0x5C08, 0x02, 0x02, .none, .u64, .rwlConfig, false, false, 0, .any⟩, -- device_bytes (R365)
  ⟨0x5C01, 0x5C08, 0x03, 0x03, .none, .u64, .ro, false, false, 0, .any⟩, -- data_bytes (R365)
  ⟨0x5C10, 0x5C10, 0x01, 0x01, .none, .domain 32, .wo, false, false, 0, .any⟩, -- transfer_submit (R365)
  ⟨0x5C10, 0x5C10, 0x02, 0x02, .none, .u8, .ro, false, false, 0, .any⟩, -- transfers_queued (R365)
  ⟨0x5C10, 0x5C10, 0x03, 0x03, .none, .u32, .ro, false, false, 0, .any⟩, -- last_transfer (R365)
  ⟨0x5C10, 0x5C10, 0x04, 0x04, .none, .u8, .ro, false, false, 0x00, .any⟩, -- last_refusal (R365)
  ⟨0x6000, 0x6000, 0x01, 0x01, .none, .u8, .ro, false, false, 0, .any⟩, -- lifecycle (R391)
  ⟨0x6000, 0x6000, 0x02, 0x02, .none, .u64, .ro, false, false, 0, .any⟩, -- set_tag (R391)
  ⟨0x6000, 0x6000, 0x03, 0x03, .none, .u8, .ro, false, false, 0, .any⟩, -- ownership_epoch (R391)
  ⟨0x6000, 0x6000, 0x04, 0x04, .none, .bool, .ro, false, false, 1, .any⟩, -- identity_ok (R391)
  ⟨0x6000, 0x6000, 0x05, 0x05, .none, .bool, .ro, false, false, 0, .any⟩, -- debug_flag (R391)
  ⟨0x6001, 0x6001, 0x01, 0x01, .none, .domainUpTo 65536, .ro, false, false, 0, .any⟩, -- cert_chain_ec (R391)
  ⟨0x6001, 0x6001, 0x02, 0x02, .none, .domainUpTo 65536, .ro, false, false, 0, .any⟩, -- cert_chain_ml (R391)
  ⟨0x6010, 0x6010, 0x01, 0x01, .none, .u8, .ro, false, false, 0, .any⟩, -- sessions_open (R391)
  ⟨0x6010, 0x6010, 0x02, 0x02, .none, .u32, .rws, true, false, 60, .between 2 3600⟩, -- session_idle_timeout (R391)
  ⟨0x6010, 0x6010, 0x03, 0x03, .none, .u32, .ro, false, false, 0, .any⟩, -- spdm_errors (R391)
  ⟨0x6010, 0x6010, 0x04, 0x04, .none, .u32, .ro, false, false, 0, .any⟩, -- enterprise_number (R391)
  ⟨0x6010, 0x6010, 0x05, 0x05, .none, .u32, .ro, false, false, 0, .any⟩, -- owner_auth_failures (R391)
  ⟨0x6020, 0x6020, 0x01, 0x01, .none, .domain 97, .woOwned, false, false, 0, .any⟩, -- owner_key_ec (R391)
  ⟨0x6020, 0x6020, 0x02, 0x02, .none, .domain 1952, .woOwned, false, false, 0, .any⟩, -- owner_key_ml (R391)
  ⟨0x6020, 0x6020, 0x03, 0x03, .none, .u32, .rws, true, false, 0, .any⟩, -- owner_policy (R391)
  ⟨0x6020, 0x6020, 0x04, 0x04, .none, .u8, .wo, true, false, 0, .between 1 4⟩, -- owner_command (R391)
  ⟨0x6030, 0x6030, 0x01, 0x01, .none, .u64, .woOwner, false, false, 0, .any⟩, -- key_command (R391)
  ⟨0x6030, 0x6030, 0x02, 0x02, .none, .u8, .ro, false, false, 0, .any⟩, -- key_result (R391)
  ⟨0x6030, 0x6030, 0x03, 0x03, .none, .domain 2049, .woOwner, false, false, 0, .any⟩, -- verify_key_stage (R391)
  ⟨0x6040, 0x6040, 0x01, 0x01, .none, .bool, .rws, false, false, 0, .between 0 1⟩, -- debug_permit (R391)
  ⟨0x6080, 0x6080, 0x00, 0xFF, .none, .u64, .ro, false, false, 0, .any⟩, -- key_slot_n (R391)
  ⟨0x7000, 0x7000, 0x01, 0x01, .none, .time64, .rw, true, false, 0, .any⟩, -- snapshot_time (R502)
  ⟨0x7000, 0x7000, 0x02, 0x02, .none, .u32, .ro, false, false, 0, .any⟩, -- snapshot_id (R502)
  ⟨0x7000, 0x7000, 0x03, 0x03, .none, .u8, .ro, false, false, 0, .any⟩, -- snapshot_state (R502)
  ⟨0x7000, 0x7000, 0x04, 0x04, .none, .time64, .ro, false, false, 0, .any⟩, -- snapshot_taken (R502)
  ⟨0x7000, 0x7000, 0x05, 0x05, .none, .u8, .ro, false, false, 0, .any⟩, -- snapshot_members (R502)
  ⟨0x7000, 0x7000, 0x06, 0x06, .none, .bool, .wo, true, false, 0, .between 1 1⟩, -- clear_all (R502)
  ⟨0x7000, 0x7000, 0x07, 0x07, .none, .u8, .ro, false, false, 0, .any⟩, -- snapshot_unaligned (R502)
  ⟨0x7100, 0x7100, 0x01, 0x01, .none, .u32, .rw, true, false, 0x00000C10, .any⟩, -- sample_control (R502)
  ⟨0x7100, 0x7100, 0x02, 0x02, .none, .u64, .rw, true, false, 0xFFFFC00000000000, .any⟩, -- sample_filter (R502)
  ⟨0x7100, 0x7100, 0x03, 0x03, .none, .u64, .rw, true, false, 0, .step 0 (2^53 - 128) 128⟩, -- sample_range_base (R502)
  ⟨0x7100, 0x7100, 0x04, 0x04, .none, .u64, .rw, true, false, 0x1FFFFFFFFFFF80, .step 0 (2^53 - 128) 128⟩, -- sample_range_limit (R502)
  ⟨0x7100, 0x7100, 0x05, 0x05, .none, .u32, .rw, true, false, 0x00000001, .any⟩ ] -- lfsr_seed (R502)

/-- The object dictionary (R472), part 9 of 12, from the chapters' object tables. -/
def objRows8 : List ObjRow := [
  ⟨0x7100, 0x7100, 0x06, 0x06, .none, .u32, .ro, false, false, 0, .any⟩, -- next_record (R502)
  ⟨0x7100, 0x7100, 0x07, 0x07, .none, .u32, .ro, false, false, 0, .any⟩, -- oldest_record (R502)
  ⟨0x7100, 0x7100, 0x08, 0x08, .none, .u32, .rw, false, false, 0, .any⟩, -- consumed (R502)
  ⟨0x7100, 0x7100, 0x09, 0x09, .none, .u32, .rw, false, false, 0, .any⟩, -- record_select (R502)
  ⟨0x7100, 0x7100, 0x0A, 0x0A, .none, .domain 1024, .ro, false, false, 0, .any⟩, -- record_block (R502)
  ⟨0x7100, 0x7100, 0x0B, 0x0B, .none, .u32, .ro, false, false, 0, .any⟩, -- samples_dropped (R502)
  ⟨0x7100, 0x7100, 0x0C, 0x0C, .none, .u32, .ro, false, false, 0, .any⟩, -- samples_overwritten (R502)
  ⟨0x7100, 0x7100, 0x0D, 0x0D, .none, .u64, .ro, false, false, 0, .any⟩, -- candidates (R502)
  ⟨0x7100, 0x7100, 0x0E, 0x0E, .none, .u64, .ro, false, false, 0, .any⟩, -- samples_taken (R502)
  ⟨0x7100, 0x7100, 0x0F, 0x0F, .none, .domain 64, .ro, false, false, 0, .any⟩, -- record_entry (R502)
  ⟨0x7400, 0x751F, 0x01, 0x01, .channel, .u64, .rw, false, false, 0xFFFFC00000000000, .any⟩, -- bank_filter (R502)
  ⟨0x7400, 0x751F, 0x02, 0x02, .channel, .u64, .rw, false, false, 0, .step 0 (2^53 - 128) 128⟩, -- range_base (R502)
  ⟨0x7400, 0x751F, 0x03, 0x03, .channel, .u64, .rw, false, false, 0x1FFFFFFFFFFF80, .step 0 (2^53 - 128) 128⟩, -- range_limit (R502)
  ⟨0x7400, 0x751F, 0x04, 0x04, .channel, .bool, .wo, false, false, 0, .between 1 1⟩, -- bank_clear (R502)
  ⟨0x7400, 0x751F, 0x05, 0x05, .channel, .u16, .ro, false, false, 0, .any⟩, -- sticky_map (R502)
  ⟨0x7400, 0x751F, 0x10, 0x1F, .channel, .u64, .ro, false, false, 0, .any⟩, -- counter_j (R502)
  ⟨0x7400, 0x751F, 0x30, 0x3F, .channel, .u64, .ro, false, false, 0, .any⟩, -- snapshot_j (R502)
  ⟨0x7600, 0x763F, 0x01, 0x01, .engine, .u64, .rw, false, false, 0xFFFFC00000000000, .any⟩, -- bank_filter (R502)
  ⟨0x7600, 0x763F, 0x02, 0x02, .engine, .u64, .rw, false, false, 0, .step 0 (2^53 - 128) 128⟩, -- range_base (R502)
  ⟨0x7600, 0x763F, 0x03, 0x03, .engine, .u64, .rw, false, false, 0x1FFFFFFFFFFF80, .step 0 (2^53 - 128) 128⟩, -- range_limit (R502)
  ⟨0x7600, 0x763F, 0x04, 0x04, .engine, .bool, .wo, false, false, 0, .between 1 1⟩, -- bank_clear (R502)
  ⟨0x7600, 0x763F, 0x05, 0x05, .engine, .u16, .ro, false, false, 0, .any⟩, -- sticky_map (R502)
  ⟨0x7600, 0x763F, 0x10, 0x17, .engine, .u64, .ro, false, false, 0, .any⟩, -- counter_j (R502)
  ⟨0x7600, 0x763F, 0x30, 0x37, .engine, .u64, .ro, false, false, 0, .any⟩, -- snapshot_j (R502)
  ⟨0x7680, 0x769F, 0x01, 0x01, .unit, .u64, .rw, false, false, 0xFFFFC00000000000, .any⟩, -- bank_filter (R502)
  ⟨0x7680, 0x769F, 0x02, 0x02, .unit, .u64, .rw, false, false, 0, .step 0 (2^53 - 128) 128⟩, -- range_base (R502)
  ⟨0x7680, 0x769F, 0x03, 0x03, .unit, .u64, .rw, false, false, 0x1FFFFFFFFFFF80, .step 0 (2^53 - 128) 128⟩, -- range_limit (R502)
  ⟨0x7680, 0x769F, 0x04, 0x04, .unit, .bool, .wo, false, false, 0, .between 1 1⟩, -- bank_clear (R502)
  ⟨0x7680, 0x769F, 0x05, 0x05, .unit, .u16, .ro, false, false, 0, .any⟩, -- sticky_map (R502)
  ⟨0x7680, 0x769F, 0x10, 0x15, .unit, .u64, .ro, false, false, 0, .any⟩, -- counter_j (R502)
  ⟨0x7680, 0x769F, 0x30, 0x35, .unit, .u64, .ro, false, false, 0, .any⟩, -- snapshot_j (R502)
  ⟨0x76C0, 0x76CF, 0x01, 0x01, .none, .u64, .rw, false, false, 0xFFFFC00000000000, .any⟩, -- bank_filter (R502)
  ⟨0x76C0, 0x76CF, 0x02, 0x02, .none, .u64, .rw, false, false, 0, .step 0 (2^53 - 128) 128⟩, -- range_base (R502)
  ⟨0x76C0, 0x76CF, 0x03, 0x03, .none, .u64, .rw, false, false, 0x1FFFFFFFFFFF80, .step 0 (2^53 - 128) 128⟩, -- range_limit (R502)
  ⟨0x76C0, 0x76CF, 0x04, 0x04, .none, .bool, .wo, false, false, 0, .between 1 1⟩, -- bank_clear (R502)
  ⟨0x76C0, 0x76CF, 0x05, 0x05, .none, .u16, .ro, false, false, 0, .any⟩, -- sticky_map (R502)
  ⟨0x76C0, 0x76CF, 0x10, 0x18, .none, .u64, .ro, false, false, 0, .any⟩, -- counter_j (R502)
  ⟨0x76C0, 0x76CF, 0x30, 0x38, .none, .u64, .ro, false, false, 0, .any⟩, -- snapshot_j (R502)
  ⟨0x76E0, 0x76E3, 0x01, 0x01, .none, .u64, .rw, false, false, 0xFFFFC00000000000, .any⟩, -- bank_filter (R502)
  ⟨0x76E0, 0x76E3, 0x02, 0x02, .none, .u64, .rw, false, false, 0, .step 0 (2^53 - 128) 128⟩, -- range_base (R502)
  ⟨0x76E0, 0x76E3, 0x03, 0x03, .none, .u64, .rw, false, false, 0x1FFFFFFFFFFF80, .step 0 (2^53 - 128) 128⟩, -- range_limit (R502)
  ⟨0x76E0, 0x76E3, 0x04, 0x04, .none, .bool, .wo, false, false, 0, .between 1 1⟩, -- bank_clear (R502)
  ⟨0x76E0, 0x76E3, 0x05, 0x05, .none, .u16, .ro, false, false, 0, .any⟩, -- sticky_map (R502)
  ⟨0x76E0, 0x76E3, 0x10, 0x16, .none, .u64, .ro, false, false, 0, .any⟩, -- counter_j (R502)
  ⟨0x76E0, 0x76E3, 0x30, 0x36, .none, .u64, .ro, false, false, 0, .any⟩, -- snapshot_j (R502)
  ⟨0x76F0, 0x76F0, 0x01, 0x01, .none, .u64, .rw, false, false, 0xFFFFC00000000000, .any⟩, -- bank_filter (R502)
  ⟨0x76F0, 0x76F0, 0x02, 0x02, .none, .u64, .rw, false, false, 0, .step 0 (2^53 - 128) 128⟩, -- range_base (R502)
  ⟨0x76F0, 0x76F0, 0x03, 0x03, .none, .u64, .rw, false, false, 0x1FFFFFFFFFFF80, .step 0 (2^53 - 128) 128⟩ ] -- range_limit (R502)

/-- The object dictionary (R472), part 10 of 12, from the chapters' object tables. -/
def objRows9 : List ObjRow := [
  ⟨0x76F0, 0x76F0, 0x04, 0x04, .none, .bool, .wo, false, false, 0, .between 1 1⟩, -- bank_clear (R502)
  ⟨0x76F0, 0x76F0, 0x05, 0x05, .none, .u16, .ro, false, false, 0, .any⟩, -- sticky_map (R502)
  ⟨0x76F0, 0x76F0, 0x10, 0x16, .none, .u64, .ro, false, false, 0, .any⟩, -- counter_j (R502)
  ⟨0x76F0, 0x76F0, 0x30, 0x36, .none, .u64, .ro, false, false, 0, .any⟩, -- snapshot_j (R502)
  ⟨0x76F8, 0x76F8, 0x01, 0x01, .none, .u64, .rw, false, false, 0xFFFFC00000000000, .any⟩, -- bank_filter (R502)
  ⟨0x76F8, 0x76F8, 0x02, 0x02, .none, .u64, .rw, false, false, 0, .step 0 (2^53 - 128) 128⟩, -- range_base (R502)
  ⟨0x76F8, 0x76F8, 0x03, 0x03, .none, .u64, .rw, false, false, 0x1FFFFFFFFFFF80, .step 0 (2^53 - 128) 128⟩, -- range_limit (R502)
  ⟨0x76F8, 0x76F8, 0x04, 0x04, .none, .bool, .wo, false, false, 0, .between 1 1⟩, -- bank_clear (R502)
  ⟨0x76F8, 0x76F8, 0x05, 0x05, .none, .u16, .ro, false, false, 0, .any⟩, -- sticky_map (R502)
  ⟨0x76F8, 0x76F8, 0x10, 0x18, .none, .u64, .ro, false, false, 0, .any⟩, -- counter_j (R502)
  ⟨0x76F8, 0x76F8, 0x30, 0x38, .none, .u64, .ro, false, false, 0, .any⟩, -- snapshot_j (R502)
  ⟨0x8000, 0x8000, 0x01, 0x01, .none, .domainUpTo 8388608, .wo, true, false, 0, .any⟩, -- staging_image (R485)
  ⟨0x8000, 0x8000, 0x02, 0x02, .none, .u8, .ro, false, false, 0, .any⟩, -- staging_state (R485)
  ⟨0x8000, 0x8000, 0x03, 0x03, .none, .u32, .rw, true, false, 0, .step 10896 (8 * 2^20) 16⟩, -- staging_length (R485)
  ⟨0x8000, 0x8000, 0x04, 0x04, .none, .u8, .wo, true, false, 0, .between 1 4⟩, -- update_command (R485)
  ⟨0x8000, 0x8000, 0x05, 0x05, .none, .domain 256, .ro, false, false, 0, .any⟩, -- block_map (R485)
  ⟨0x8000, 0x8000, 0x06, 0x06, .none, .u8, .ro, false, false, 0x00, .any⟩, -- last_refusal (R485)
  ⟨0x8000, 0x8000, 0x07, 0x07, .none, .u32, .ro, false, true, 0, .any⟩, -- rollback_floor (R485)
  ⟨0x8000, 0x8000, 0x08, 0x08, .none, .u64, .ro, false, false, 0, .any⟩, -- staged_version (R485)
  ⟨0x8000, 0x8000, 0x09, 0x09, .none, .u32, .ro, false, false, 0, .any⟩, -- staged_security (R485)
  ⟨0x8000, 0x8000, 0x0A, 0x0A, .none, .u32, .ro, false, false, 0, .any⟩, -- active_security (R485)
  ⟨0x8000, 0x8000, 0x0B, 0x0B, .none, .bool, .ro, false, true, 0, .any⟩, -- armed (R485)
  ⟨0x9000, 0x9000, 0x01, 0x01, .none, .u16, .rw, true, false, 16, .between 4 256⟩, -- scan_interval (R298)
  ⟨0x9000, 0x9000, 0x02, 0x02, .none, .u16, .rw, true, false, 2000, .between 0 10000⟩, -- collective_grace (R298)
  ⟨0x9000, 0x9000, 0x03, 0x03, .none, .u8, .rwlTide, true, false, 32, .step 8 64 8⟩, -- throttle_depth (R298)
  ⟨0x9000, 0x9000, 0x04, 0x04, .none, .u8, .rwp, true, true, 75, .between 40 82⟩, -- restart_limit (R298)
  ⟨0x9001, 0x9001, 0x01, 0x01, .none, .i16, .ro, false, false, 0, .any⟩, -- junction_temp (R298)
  ⟨0x9008, 0x900B, 0x01, 0x01, .stack, .u8, .ro, false, false, 0, .any⟩, -- stack_level (R298)
  ⟨0x9008, 0x900B, 0x02, 0x02, .stack, .i16, .ro, false, false, 0, .any⟩, -- stack_temp (R298)
  ⟨0x9008, 0x900B, 0x03, 0x03, .stack, .u8, .ro, false, false, 0, .any⟩, -- hottest_sensor (R298)
  ⟨0x9008, 0x900B, 0x04, 0x04, .stack, .u16, .ro, false, false, 0, .any⟩, -- grace_left (R298)
  ⟨0x9008, 0x900B, 0x05, 0x05, .stack, .bool, .ro, false, false, 1, .any⟩, -- grace_armed (R298)
  ⟨0x9008, 0x900B, 0x06, 0x06, .stack, .u64, .ro, false, false, 0, .any⟩, -- halt_time (R298)
  ⟨0x9008, 0x900B, 0x07, 0x07, .stack, .u8, .ro, false, false, 0, .any⟩, -- broken_sensors (R298)
  ⟨0x9010, 0x9013, 0x01, 0x90, .stack, .i16, .ro, false, false, 0, .any⟩, -- sensor_n (R298)
  ⟨0x9014, 0x9017, 0x01, 0x03, .stack, .u64, .rwsConfig, false, true, 0, .any⟩, -- exclude_mask (R298)
  ⟨0x9018, 0x9018, 0x01, 0x01, .none, .domain 32, .ro, false, false, 0, .any⟩, -- logic_sensors (R298)
  ⟨0x9018, 0x9018, 0x02, 0x02, .none, .u16, .rwsConfig, false, true, 0, .any⟩, -- logic_exclude (R298)
  ⟨0x9020, 0x9020, 0x01, 0x01, .none, .domain 64, .ro, false, false, 0, .any⟩, -- shutdown_record (R298)
  ⟨0x9020, 0x9020, 0x02, 0x02, .none, .bool, .wo, false, false, 0, .between 1 1⟩, -- shutdown_clear (R298)
  ⟨0x9020, 0x9020, 0x03, 0x03, .none, .u32, .ro, false, true, 0, .any⟩, -- trip_count (R298)
  ⟨0x9021, 0x9021, 0x01, 0x01, .none, .u32, .ro, false, false, 0, .any⟩, -- ack_missing (R298)
  ⟨0x9021, 0x9021, 0x02, 0x02, .none, .u32, .ro, false, false, 0, .any⟩, -- ack_spurious (R298)
  ⟨0xA000, 0xA000, 0x01, 0x01, .none, .bool, .rw, true, false, 1, .between 0 1⟩, -- gleaner_enable (R276)
  ⟨0xA000, 0xA000, 0x02, 0x02, .none, .u32, .rw, true, false, 1000, .between 10 100000⟩, -- gleaner_lap_target (R276)
  ⟨0xA000, 0xA000, 0x04, 0x04, .none, .bool, .rwp, true, true, 0, .between 0 1⟩, -- hard_repair_enable (R276)
  ⟨0xA000, 0xA000, 0x05, 0x05, .none, .u8, .rw, true, false, 0, .between 0 15⟩, -- restore_class (R276)
  ⟨0xA001, 0xA001, 0x01, 0x01, .none, .u64, .ro, false, false, 0, .any⟩ ] -- lines_reread (R276)

/-- The object dictionary (R472), part 11 of 12, from the chapters' object tables. -/
def objRows10 : List ObjRow := [
  ⟨0xA001, 0xA001, 0x02, 0x02, .none, .u64, .ro, false, false, 0, .any⟩, -- lines_restored (R276)
  ⟨0xA001, 0xA001, 0x03, 0x03, .none, .u64, .ro, false, false, 0, .any⟩, -- lines_recompute (R276)
  ⟨0xA001, 0xA001, 0x04, 0x04, .none, .u64, .ro, false, false, 0, .any⟩, -- lines_poisoned (R276)
  ⟨0xA001, 0xA001, 0x05, 0x05, .none, .u64, .ro, false, false, 0, .any⟩, -- restore_failed (R276)
  ⟨0xA001, 0xA001, 0x06, 0x06, .none, .u64, .ro, false, false, 0, .any⟩, -- poisoned_reads (R276)
  ⟨0xA001, 0xA001, 0x07, 0x07, .none, .u64, .ro, false, false, 0, .any⟩, -- lines_healed (R276)
  ⟨0xA001, 0xA001, 0x08, 0x08, .none, .u32, .ro, false, false, 0, .any⟩, -- rows_repaired (R276)
  ⟨0xA001, 0xA001, 0x09, 0x09, .none, .u32, .ro, false, false, 0, .any⟩, -- rows_retired (R276)
  ⟨0xA001, 0xA001, 0x0A, 0x0A, .none, .u32, .ro, false, false, 0, .any⟩, -- rows_unprotected (R276)
  ⟨0xA001, 0xA001, 0x0B, 0x0B, .none, .u64, .ro, false, false, 0, .any⟩, -- last_poisoned (R276)
  ⟨0xA002, 0xA002, 0x01, 0x01, .none, .u16, .ro, false, false, 0, .any⟩, -- journal_in_use (R276)
  ⟨0xA002, 0xA002, 0x02, 0x02, .none, .u16, .ro, false, false, 0, .any⟩, -- journal_peak (R276)
  ⟨0xA002, 0xA002, 0x03, 0x03, .none, .u8, .ro, false, false, 0, .any⟩, -- journal_copies (R276)
  ⟨0xA002, 0xA002, 0x04, 0x04, .none, .u64, .ro, false, false, 0, .any⟩, -- duplicates (R276)
  ⟨0xA002, 0xA002, 0x05, 0x05, .none, .u64, .ro, false, false, 0, .any⟩, -- replayed (R276)
  ⟨0xA002, 0xA002, 0x06, 0x06, .none, .u32, .ro, false, false, 0, .any⟩, -- discarded_unknown (R276)
  ⟨0xA003, 0xA003, 0x01, 0x01, .none, .u16, .wo, false, false, 0, .between 0 287⟩, -- reconstitute (R276)
  ⟨0xA003, 0xA003, 0x02, 0x02, .none, .u8, .ro, false, false, 0, .any⟩, -- reconstitute_state (R276)
  ⟨0xA003, 0xA003, 0x03, 0x03, .none, .u32, .ro, false, false, 0, .any⟩, -- reconstitute_lines (R276)
  ⟨0xA003, 0xA003, 0x05, 0x05, .none, .u16, .wo, false, false, 0, .between 0 287⟩, -- copy_back (R276)
  ⟨0xA020, 0xA020, 0x01, 0x01, .none, .u16, .ro, false, false, 0, .any⟩, -- repair_log_count (R276)
  ⟨0xA020, 0xA020, 0x02, 0x02, .none, .u16, .rw, false, false, 0, .between 0 8191⟩, -- repair_log_select (R276)
  ⟨0xA020, 0xA020, 0x03, 0x03, .none, .domain 16, .ro, false, false, 0, .any⟩, -- repair_log_entry (R276)
  ⟨0xA040, 0xA05F, 0x00, 0xFF, .retire, .u64, .ro, false, false, 0, .any⟩, -- retirement_entry (R276)
  ⟨0xB000, 0xB000, 0x01, 0x01, .none, .u16, .ro, false, false, 0, .any⟩, -- slack_reading (R412)
  ⟨0xB000, 0xB000, 0x02, 0x02, .none, .u16, .ro, false, false, 0, .any⟩, -- slack_peak (R412)
  ⟨0xB000, 0xB000, 0x03, 0x03, .none, .u8, .ro, false, false, 0, .any⟩, -- slack_state (R412)
  ⟨0xB000, 0xB000, 0x04, 0x04, .none, .u8, .ro, false, false, 0, .any⟩, -- vreq (R412)
  ⟨0xB000, 0xB000, 0x05, 0x05, .none, .u32, .ro, false, false, 0, .any⟩, -- slack_episodes (R412)
  ⟨0xB001, 0xB001, 0x01, 0x01, .none, .u8, .ro, false, false, 0, .any⟩, -- keeper_source (R412)
  ⟨0xB001, 0xB001, 0x02, 0x02, .none, .u8, .ro, false, false, 0, .any⟩, -- kso_trim (R412)
  ⟨0xB001, 0xB001, 0x03, 0x03, .none, .u8, .ro, false, false, 0, .any⟩, -- kso_trim_source (R412)
  ⟨0xB001, 0xB001, 0x04, 0x04, .none, .i32, .ro, false, false, 0, .any⟩, -- kso_error (R412)
  ⟨0xB001, 0xB001, 0x05, 0x05, .none, .bool, .ro, false, false, 0, .any⟩, -- ref_b_present (R412)
  ⟨0xB002, 0xB002, 0x01, 0x07, .none, .u32, .ro, false, false, 0, .any⟩, -- monitor_m (R412)
  ⟨0xB002, 0xB002, 0x10, 0x2F, .unitMon, .u32, .ro, false, false, 0, .any⟩, -- monitor_m (R412)
  ⟨0xB002, 0xB002, 0x30, 0x33, .none, .u32, .ro, false, false, 0, .any⟩, -- monitor_m (R412)
  ⟨0xB003, 0xB003, 0x01, 0x07, .none, .u32, .ro, false, false, 0, .any⟩, -- monitor_trips_m (R412)
  ⟨0xB003, 0xB003, 0x10, 0x2F, .unitMon, .u32, .ro, false, false, 0, .any⟩, -- monitor_trips_m (R412)
  ⟨0xB003, 0xB003, 0x30, 0x33, .none, .u32, .ro, false, false, 0, .any⟩, -- monitor_trips_m (R412)
  ⟨0xB004, 0xB004, 0x01, 0x01, .none, .u32, .ro, false, false, 0, .any⟩, -- crossing_resets (R412)
  ⟨0xB005, 0xB005, 0x01, 0x01, .none, .u16, .rwlConfig, false, false, 0, .any⟩, -- cxl_clk_freq (R412)
  ⟨0xB010, 0xB010, 0x01, 0x20, .unitSub, .u16, .ro, false, false, 0, .any⟩, -- sheaf_clock (R412)
  ⟨0xB020, 0xB020, 0x01, 0x20, .unitSub, .u8, .rwlTide, false, false, 0, .between 0 10⟩, -- spread_depth (R412)
  ⟨0xB021, 0xB021, 0x01, 0x20, .unitSub, .u8, .rwlTide, false, false, 0, .between 0 30⟩, -- spread_rate (R412)
  ⟨0xB040, 0xB040, 0x01, 0x01, .none, .u8, .ro, false, false, 1, .any⟩, -- last_reset_kind (R436)
  ⟨0xB040, 0xB040, 0x02, 0x02, .none, .u32, .ro, false, false, 0, .any⟩, -- warm_resets (R436)
  ⟨0xB040, 0xB040, 0x03, 0x03, .none, .u16, .ro, false, false, 0, .any⟩ ] -- halt_cause (R436)

/-- The object dictionary (R472), part 12 of 12, from the chapters' object tables. -/
def objRows11 : List ObjRow := [
  ⟨0xB040, 0xB040, 0x04, 0x04, .none, .u32, .ro, false, false, 0, .any⟩, -- start_time (R436)
  ⟨0xB040, 0xB040, 0x05, 0x05, .none, .u32, .ro, false, false, 0, .any⟩, -- self_test_result (R436)
  ⟨0xB040, 0xB040, 0x06, 0x06, .none, .u16, .ro, false, false, 0, .any⟩ ] -- unretained_channels (R436)

/-- Every object of the dictionary (R472). -/
def objRows : List ObjRow :=
  objRows0 ++ objRows1 ++ objRows2 ++ objRows3 ++ objRows4 ++ objRows5 ++ objRows6 ++ objRows7 ++ objRows8 ++ objRows9 ++ objRows10 ++ objRows11
/-- The row that describes an index and subindex, if any (R444 step 1). -/
def findObj (idx sub : Nat) : Option ObjRow :=
  objRows.find? fun r => decide (r.lo ≤ idx) && decide (idx ≤ r.hi) && decide (r.slo ≤ sub) && decide (sub ≤ r.shi)

/-- The array indices of R447, which keep no count at subindex 0x00. -/
def arrayIndex (idx : Nat) : Bool :=
  (decide (0x2120 ≤ idx) && decide (idx ≤ 0x2127)) || (decide (0x2320 ≤ idx) && decide (idx ≤ 0x2322)) ||
  (decide (0x2404 ≤ idx) && decide (idx ≤ 0x2407)) || (decide (0x2540 ≤ idx) && decide (idx ≤ 0x257F)) ||
  idx == 0x6080 || (decide (0xA040 ≤ idx) && decide (idx ≤ 0xA05F))

/-- The highest subindex of an index that holds an object: the value of subindex 0x00 (R447). -/
def highestSub (idx : Nat) : Nat :=
  (objRows.filter fun r => decide (r.lo ≤ idx) && decide (idx ≤ r.hi)).foldl (fun m r => max m r.shi) 0

/-- Whether any object exists at an index. -/
def indexExists (idx : Nat) : Bool :=
  objRows.any fun r => decide (r.lo ≤ idx) && decide (idx ≤ r.hi)

/-- The size in bytes a READ returns and the sizes a WRITE may carry: (least, most) (R446). -/
def ObjTy.sizes : ObjTy → Nat × Nat
  | .bool | .u8 => (1, 1)
  | .u16 | .i16 => (2, 2)
  | .u32 | .i32 => (4, 4)
  | .u64 | .time64 => (8, 8)
  | .str n => (1, n)
  | .domain n => (n, n)
  | .domainUpTo n => (0, n)

/-- The width in bits of a counter of this type, at which it wraps. -/
def ObjTy.width (t : ObjTy) : Nat := 8 * t.sizes.2

/-- Whether a written value lies in a range; `n` is its size in bytes (R444 step 7). -/
def Rng.holds (r : Rng) (n v : Nat) : Bool :=
  match r with
  | .any => true
  | .between lo hi => decide (lo ≤ v) && decide (v ≤ hi)
  | .step lo hi m => decide (lo ≤ v) && decide (v ≤ hi) && v % m == 0
  | .mask m => v &&& m == v
  | .signed lo hi => decide (lo ≤ Machine.signed (8 * n) v) && decide (Machine.signed (8 * n) v ≤ hi)

/-- The key of an object in the stored-value list. -/
def objKey (idx sub : Nat) : Nat := idx * 256 + sub

/-- The stored value an object has while nothing has written it: its table's default. Partition x of context x (R240) is
the one default that varies with the subindex. -/
def objDefault (key : Nat) : Nat :=
  if key / 256 = 0x3040 then key % 256 - 1
  else match findObj (key / 256) (key % 256) with
    | some r => r.dflt
    | none => 0

/-- The wrap width of an object's counter (RO counters wrap at their type's width). -/
def objWidth (key : Nat) : Nat :=
  match findObj (key / 256) (key % 256) with
  | some r => r.ty.width
  | none => 64

end Sys2Proof.Machine
end

