-- ==== Sys2Proof/Machine/State.lean ====
section
/-!
DEFINITION. The state of one node as plain data: everything the specification gives it, chapter by chapter, and the queue
of the commands that wait. Times are ticks of 1/12 ns. Object values that are one number each stand in `obj`, keyed by
index and subindex; what has a shape of its own stands in the structures below.
-/
namespace Sys2Proof.Machine

/-! ### The integration parameter and what silicon, ROM and fuses fix -/

/-- What is fixed when the block is instantiated or assembled (R15, R19, R471, R540). -/
structure Cfg where
  /-- STACKS, 1 to 4 (R540). -/
  nstacks : Nat
  hardwareVersion : Nat
  romVersion : Nat
  packageSerial : Nat
  enterprise : Nat
  /-- Fuse value of the KSO trim (R403). -/
  ksoTrimFuse : Nat
  deriving DecidableEq, Repr

/-! ### Chapters 01, 16, 21: node state, processors, pins, wrapper -/

/-- The nine node states (R35, R413). -/
inductive NodeState where
  | off | boot | recovery | config | ready | run | rest | deep | halted
  deriving DecidableEq, Repr

/-- A control processor (R24–R26): running, and since when a restart is in progress. -/
structure Proc where
  running : Bool
  restart : Option Nat
  deriving DecidableEq, Repr

/-- An event as the Keeper receives it (R454): what its log entry needs. -/
structure Event where
  code : Nat
  inst : Nat
  ctx : Nat
  detail : Nat
  /-- The event concerns a Secure range, so its fields are cleared for others under R369. -/
  secure : Bool
  /-- Set time of the event, ns. -/
  time : Nat
  deriving DecidableEq, Repr

/-- The four control processors, and the Keeper's staging buffer of R26. -/
structure Procs where
  sequencer : Proc
  steward : Proc
  warden : Proc
  keeper : Proc
  /-- Events held while the Keeper restarts, at most 64 (R26). -/
  staged : List Event
  /-- Events beyond the 64. -/
  stagedLost : Nat
  /-- Fences (cause, context) that wait for the Sequencer to return (R26). -/
  fences : List (Nat × Nat)
  deriving DecidableEq, Repr

/-- Power states, reset and start-up (R413–R434, R541, R542). -/
structure Power where
  node : NodeState
  /-- The supplies as the block's own detectors judge them (R542). -/
  vkeep : Bool
  vcore : Bool
  vphy : Bool
  /-- When VKEEP became good, for 0xB040:04. -/
  vkeepAt : Nat
  /-- When the last reset of any kind was, for 0x1000:08. -/
  resetAt : Nat
  /-- REST or DEEP entry is draining (0x2000:09). -/
  entering : Bool
  /-- A wake made during entry is held (R415). -/
  heldWake : Bool
  /-- REST or DEEP exit is in progress (R425). -/
  waking : Bool
  /-- DEEP exit: the bundle is verified and the processors are reloaded. -/
  reloaded : Bool
  /-- The node is in shadow state (R422, R434). -/
  shadow : Bool
  /-- A rejoin of this node is armed for the next tide (R434). -/
  rejoin : Bool
  /-- Nodes whose rejoin is armed, a bit each. -/
  rejoinMask : Nat
  /-- Software wrote 4 to 0x2000:02 in CONFIG (R416, R420 [8]). -/
  readyAsked : Bool
  /-- The checker self-test of this entry to CONFIG has ended (R421). -/
  selfTested : Bool
  /-- A node-level checker has failed, so that blocker [0] stays set (R421). -/
  checkerFailed : Bool
  /-- A warm reset is in progress: the node resumes at a tide (R429). -/
  warm : Bool
  /-- When the warm reset, or the entry to HALTED, began. -/
  warmAt : Nat
  /-- Entry to HALTED: dirty lines are still being written back (R431). -/
  halting : Bool
  /-- Channels unretained at the last entry to HALTED (R431). -/
  unretained : List Nat
  /-- Channels whose poison fill is due before CONFIG ends (R431). -/
  fill : List Nat
  /-- The Keeper has started after the last power-on or set reset and has sampled the straps (R399, R552). -/
  strapped : Bool
  /-- The old node state that a NODE_STATE event still to be raised names: after a reset, and during entry to REST or DEEP. -/
  resetFrom : Nat
  /-- The node is held in set reset (R551). -/
  setHeld : Bool
  /-- A held wrapper instruction has taken effect: the next reset is a set reset (R556). -/
  testUsed : Bool
  deriving DecidableEq, Repr

/-- An asynchronous input (R551): the value last taken and when it was taken. -/
structure AsyncIn where
  value : Nat
  at_ : Nat
  ever : Bool
  deriving DecidableEq, Repr

/-- Straps, asynchronous inputs and the outputs that are not computed from other state (R550–R554). -/
structure Pins where
  /-- The straps as held from the last sampling (R552): node number, set size field (N − 1), recovery. -/
  nodeId : Nat
  setSize : Nat
  recovery : Bool
  throttleAck : AsyncIn
  /-- sv_panic[p]. -/
  panic : Store AsyncIn
  powerWarn : AsyncIn
  setResetN : AsyncIn
  /-- sv_alarm_n is driven low (R458). -/
  alarm : Bool
  /-- sv_thermal_trip (R291, R292). -/
  trip : Bool
  /-- sv_heat_throttle[s] as driven (R282, R283). -/
  heat : Store Nat
  /-- sv_vreq as driven, and when it last changed (R396). -/
  vreq : Nat
  vreqAt : Nat
  deriving DecidableEq, Repr

/-- The test wrapper (R555, R556): the instruction register, and the register a serial capture shows. -/
structure Wrapper where
  instr : Nat
  /-- A held instruction is in effect. -/
  held : Bool
  /-- A debug unlock waits for zeroisation to end (R556): its code. -/
  waiting : Option Nat
  capture : Nat
  deriving DecidableEq, Repr

/-! ### Chapter 17: management -/

/-- An event log entry (R454). -/
structure LogEntry where
  time : Nat
  seq : Nat
  code : Nat
  sev : Nat
  /-- The event concerns a Secure request or range (R369). -/
  secure : Bool
  /-- flags [2]: Secure fields cleared (R369). -/
  cleared : Bool
  /-- flags [3]: mirrored to NVM. -/
  mirrored : Bool
  node : Nat
  inst : Nat
  suppressed : Nat
  ctx : Nat
  detail : Nat
  deriving DecidableEq, Repr

/-- A rate limiter of R558 for one code and scope. -/
structure Limiter where
  code : Nat
  scope : Nat
  last : Nat
  suppressed : Nat
  deriving DecidableEq, Repr

/-- The notifications of one subscriber (R457): the one outstanding, and those that wait (at most 64). -/
structure NotifyQueue where
  outstanding : Option LogEntry
  tries : Nat
  sentAt : Nat
  waiting : List LogEntry
  deriving DecidableEq, Repr

/-- The SPDM errors a responder answers (R374, R375, R377; those of DSP0274 for a request out of order or malformed). -/
inductive SpdmError where
  | busy | unsupportedRequest | unexpectedRequest | invalidRequest | invalidSession | unspecified | sessionLimitExceeded
  | decryptError | largeResponse
  deriving DecidableEq, Repr

/-- An SPDM response (R375). -/
inductive SpdmReply where
  /-- VERSION: 1.3 only. -/
  | version (major minor : Nat)
  | capabilities (names : List String) (dataTransferSize maxMessage : Nat)
  /-- ALGORITHMS: whether each supported algorithm was selected. -/
  | algorithms (ecdsaP384 mlDsa65 sha384 secp384r1 aes256gcm : Bool)
  | digests (slot0 slot1 : Nat)
  | certificate (portion : List Byte) (remainder : Nat)
  | challengeAuth (slot signature : Nat)
  /-- MEASUREMENTS: index and digest of each block, and a signature when one was asked for. -/
  | measurements (blocks : List (Nat × Nat)) (signature : Option Nat)
  | keyExchangeRsp (id heartbeatPeriod : Nat) (mutAuth : Bool)
  | finishRsp
  | heartbeatAck
  | keyUpdateAck
  | endSessionAck
  | chunkSendAck (seq : Nat)
  | chunkResponse (seq : Nat) (data : List Byte) (last : Bool)
  | error (e : SpdmError)
  deriving DecidableEq, Repr

/-- What a requester is answered with (R440, R442): status code, detail and returned bytes. -/
structure Answer where
  status : Nat
  detail : Nat
  data : List Byte
  spdm : Option SpdmReply
  /-- The more flag: bytes remain beyond those returned (R441, R462). -/
  more : Bool
  deriving DecidableEq, Repr

/-- A transaction of a source (R443): its number and its answer, none while it is still carried out. -/
structure Txn where
  num : Nat
  answer : Option Answer
  deriving DecidableEq, Repr

/-- The transactions remembered for one source, newest last, at most 16 (R443). -/
structure SourceLog where
  src : Source
  txns : List Txn
  deriving DecidableEq, Repr

/-- An open segmented write session (R450). -/
structure Segment where
  src : Source
  idx : Nat
  sub : Nat
  base : Nat
  total : Nat
  got : List Byte
  last : Nat
  deriving DecidableEq, Repr

/-- The management partner last heard (R453). -/
structure Partner where
  /-- 0 not heard, 1 present, 2 lost. -/
  state : Nat
  last : Nat
  period : Nat
  deriving DecidableEq, Repr

/-- Who is told that a value has been applied: a dictionary request, or the lead node that ordered a set-wide write. -/
inductive Completer where
  | req (r : Req)
  | order (n : Nat)
  deriving DecidableEq, Repr

/-- A persisted write waiting for its record write (R469). -/
structure PersistWrite where
  idx : Nat
  sub : Nat
  value : Nat
  who : Completer
  deriving DecidableEq, Repr

/-- A set-wide write in progress (R9, R30): its order number (0 until the lead has given one), the nodes that have not
yet applied it, and who asked for it (a request here, or the node that carried it to this lead). -/
structure SetWrite where
  order : Nat
  idx : Nat
  sub : Nat
  value : List Byte
  waiting : Nat
  req : Option Req
  via : Nat
  /-- This node has applied it (R31). -/
  applied : Bool
  /-- At the lead: the first status and detail other than OK that a node has reported of it; OK and 0 for none. -/
  refusal : Nat × Nat
  deriving DecidableEq, Repr

/-- What a management request asks for, its operands beside its source: a dictionary write, a segmented operation, or an SPDM request
(R441, R375). -/
inductive RequestOp where
  | write (idx sub : Nat) (value : List Byte)
  | segStart (idx sub total base : Nat)
  | segData (idx sub offset : Nat) (data : List Byte)
  | segEnd (idx sub crc : Nat)
  | segAbort (idx sub : Nat)
  | getVersion
  | getCapabilities
  | negotiateAlgorithms (ecdsa mlDsa sha384 secp384 gcm : Bool)
  | getDigests
  | getCertificate (slot offset length : Nat)
  | challenge (slot nonce : Nat)
  | getMeasurements (index nonce : Nat) (sign : Bool)
  | keyExchange (slot : Nat) (mutAuth : Bool)
  | finish (id : Nat) (ml : Bool) (signature : List Byte)
  | heartbeat (id : Nat)
  | keyUpdate (id : Nat)
  | endSession (id : Nat)
  | respondIfReady
  | chunkSend (seq : Nat) (last : Bool) (data : List Byte)
  | chunkGet (seq : Nat)
  | spdmUnsupported
  deriving DecidableEq, Repr

/-- A management request that waits behind another of its source (R443). -/
structure Held where
  req : Req
  what : RequestOp
  deriving DecidableEq, Repr

/-- The dictionary window (R463, R464, R548). -/
structure Window where
  reqBuf : List Byte
  rspBuf : List Byte
  /-- STATUS [0]: a request is outstanding or its response is not yet released. -/
  busy : Bool
  /-- What holds the window is an SPDM unit that no row of chapter 14 has carried out yet (R462, R463). -/
  unit : Bool
  /-- STATUS [1], sv_dw_done. -/
  ready : Bool
  /-- A doorbell was rung while busy, answered RETRY_LATER when the first completes. -/
  second : Option Req
  ring : List LogEntry
  /-- Index of the oldest ring entry. -/
  oldest : Nat
  deriving DecidableEq, Repr

/-- Management link, event log, notifications, window (R437–R464, R558). -/
structure Mgmt where
  /-- Transactions remembered per source, at most 16 sources (R443). -/
  sources : List SourceLog
  segments : List Segment
  partner : Partner
  heartbeatAt : Nat
  /-- Heartbeat severity field: an event was logged since the last heartbeat, and the highest severity of those. -/
  sinceBeat : Option Nat
  log : List LogEntry
  limiters : List Limiter
  mirrorTimes : List Nat
  /-- Subscribers 1 to 4, then the heartbeat destination of R458. -/
  notify : Store NotifyQueue
  /-- Sequence numbers of ALARM notifications one subscriber has answered (R457). -/
  alarmsAnswered : List Nat
  window : Window
  setWrites : List SetWrite
  /-- The next order number this node gives as lead. -/
  nextOrder : Nat
  /-- After the loss of a lead (R31): the members that have told this node, as the new lead, which orders they had applied, and bit 8 once
  those are being spread; and whether what was pending is still being settled. -/
  reported : Nat
  settling : Bool
  /-- RWL writes accepted and waiting for a tide (R447): key and value, in order, one per object. -/
  pendingTide : List (Nat × Nat)
  /-- Requests that wait behind one of the same source still carried out (R443), at most 8 frames (R439). -/
  waiting : List Held
  deriving DecidableEq, Repr

/-- One record area of the NVM (R467–R470): its sequence number, and for each copy whether it is valid and usable. -/
structure RecordArea where
  seq : Nat
  validA : Bool
  validB : Bool
  failedA : Bool
  failedB : Bool
  deriving DecidableEq, Repr

/-! ### Chapter 12: Headland ports -/

/-- A parcel: header and payload (R323). -/
structure Parcel where
  hdr : Hdr
  body : List Byte
  deriving DecidableEq, Repr

/-- The states of a Headland port (0x5800+h:01): down, training, up, keepalive rate, refused, unconnected. -/
inductive PortState where
  | down | training | up | keepalive | refused | unconnected
  deriving DecidableEq, Repr

/-- One Headland port (R321–R344). -/
structure HPort where
  state : PortState
  /-- Modules in use, 0 to 4 (R322). -/
  modules : Nat
  /-- Refusal reason of R327. -/
  refusal : Nat
  /-- Hop sequence of the next sequenced parcel sent, and of the next expected (R331). -/
  txHop : Nat
  rxHop : Nat
  /-- Sent, not yet acknowledged, oldest first (R331): at most 512. -/
  replay : List Parcel
  /-- Parcels of the replay buffer that are to be sent again after a reset (R332). -/
  resend : List Parcel
  /-- Free base-lane room the peer has reported, in 32 B units (R323, R331). -/
  room : Nat
  /-- Parcels waiting to leave, in arrival order (R338). -/
  egress : List Parcel
  /-- Shaper credit per class, in 1/12,000 byte (R339). -/
  credit : Store Int
  /-- Until when the port sends the parcel it began last. -/
  creditAt : Nat
  /-- By class and lane (2 · class + lane): the start of the window that its head parcel is counted as waiting for, plus 1; 1 when none
  comes (R340). -/
  waited : Store Nat
  /-- The class of the class parcel begun last, and by rank the class served last, plus 1, for round robin among equal ranks (R338). -/
  lastClass : Nat
  turns : Store Nat
  lastSent : Nat
  lastReceived : Nat
  /-- Sequenced parcels taken since the last HOP_ACK, and when it was sent (R331). -/
  unacked : Nat
  ackAt : Nat
  /-- When training or retraining began (R326, R332). -/
  trainAt : Nat
  /-- Malformed sequenced parcels in a row (R325). -/
  malformed : Nat
  silent : Bool
  /-- The sideband reports retraining or a warm reset of the peer, which suspends the silent count (R344). -/
  retraining : Bool
  peerReset : Option Nat
  /-- The peer's last TIME parcel: its transmit time and our receive time, and when we last sent one, 1/8 ns (R342). -/
  peerTx : Nat
  peerRx : Nat
  timeSent : Nat
  /-- Relayed parcels taken on this port that are not yet in the replay buffer of their egress port, oldest first (R331), with the
  header as it came. -/
  held : List Hdr
  /-- HELLO has been sent and checked since link up (R327). -/
  greeted : Bool
  /-- The link has been up since the last power-on or set reset. -/
  everUp : Bool
  deriving DecidableEq, Repr

/-- A flow's end-to-end sequence (R333): the next number sent and the next expected. -/
structure Flow where
  tx : Nat
  rx : Nat
  /-- The route it was last sent on, plus 1; 0 before the first parcel. -/
  route : Nat
  deriving DecidableEq, Repr

/-- Set, membership and set time (R326–R347). -/
structure SetView where
  /-- 0 forming, 1 formed, 2 partitioned (0x5808:01). -/
  state : Nat
  /-- Members of the set, a bit per node: M of R328 (reachable or not until lost). -/
  members : Nat
  /-- Nodes this node can reach, itself included. -/
  reachable : Nat
  lost : Nat
  /-- Fenced peers (R34). -/
  fenced : Nat
  /-- Lost nodes that have announced their return with REJOIN, in shadow state (R347). -/
  returned : Nat
  /-- Members in REST or DEEP as far as known, for R330. -/
  resting : Nat
  lead : Nat
  /-- Link-state word: 2 bits per port per node (R325). -/
  links : Nat
  /-- Frame epoch E, ns, once FORMED has given it (R329). -/
  epoch : Option Nat
  /-- Frame 0 has begun. -/
  epochReached : Bool
  /-- Set time: its value in ticks at `timeAt`, running at 1 + rate·10⁻⁹ (R342). -/
  timeBase : Nat
  timeAt : Nat
  rate : Int
  timeSet : Bool
  /-- Offset from the time parent, ps, and since when it has been beyond 5 ns and 10 ns, and within 5 ns (R343). -/
  offset : Int
  beyond5 : Option Nat
  beyond10 : Option Nat
  within5 : Option Nat
  unsynchronised : Bool
  /-- When CONFIG was entered, for the formation and join timeouts (R326). -/
  configAt : Nat
  /-- Route table entries, by node (0x5809): bit 7 detour, [2:0] port or 4, 0xFF unreachable. -/
  routes : Store Nat
  /-- The path of each detour in the route table, as a number that names its links; 0 for any other entry (R330). -/
  ways : Store Nat
  /-- Nodes whose route has changed since their requests and completions were last sent again (R335), a bit each. -/
  rerouted : Nat
  /-- Nodes seen in a warm reset: the time it was announced plus 1; 0 for none (R344, R429). -/
  resetting : Store Nat
  /-- Node states last heard in members' heartbeats (R452), by node; 0 not heard. -/
  peerStates : Store Nat
  deriving DecidableEq, Repr

/-- Headland ports, flows and set (chapter 12). -/
structure Headland where
  ports : Store HPort
  flows : Store Flow
  set : SetView
  deriving DecidableEq, Repr

/-- A Headland port at power-on reset: down, sequences 0 (R347). The room a peer has is its whole base lane of 32 KiB. -/
def HPort.reset : HPort :=
  { state := .down, modules := 0, refusal := 0, txHop := 0, rxHop := 0, replay := [], resend := [], room := 1024
    egress := [], credit := [], creditAt := 0, waited := [], lastClass := 0, turns := [], lastSent := 0, lastReceived := 0
    unacked := 0, ackAt := 0, trainAt := 0, malformed := 0, silent := false, retraining := false, peerReset := none
    peerTx := 0, peerRx := 0, timeSent := 0, held := [], greeted := false
    everUp := false }

/-- A flow at power-on reset: sequences 0 (R347). -/
def Flow.reset : Flow := ⟨0, 0, 0⟩

/-- The set as a node sees it at power-on reset: not formed. -/
def SetView.reset : SetView :=
  { state := 0, members := 0, reachable := 0, lost := 0, fenced := 0, returned := 0, resting := 0, lead := 0, links := 0, epoch := none
    epochReached := false, timeBase := 0, timeAt := 0, rate := 0, timeSet := false, offset := 0, beyond5 := none
    beyond10 := none, within5 := none, unsynchronised := false, configAt := 0, routes := [], ways := [], rerouted := 0, resetting := []
    peerStates := [] }

/-- Headland state at power-on reset (R347, R428). -/
def Headland.reset : Headland := { ports := [], flows := [], set := .reset }

/-! ### Chapter 14: worlds, keys and attestation -/

/-- The lifecycle of 0x6000:01 (R379). -/
inductive Lifecycle where
  | unowned | owned | zeroising | secretFault
  deriving DecidableEq, Repr

/-- The security fuses (R370). -/
structure Fuses where
  deviceSecret : Nat
  /-- The 32 parity bits agree with the secret (R371). -/
  parityOk : Bool
  /-- Epoch fuses blown, 0 to 64. -/
  epoch : Nat
  vendorRootHash : Nat
  debugDisable : Bool
  deriving DecidableEq, Repr

/-- What a key slot holds (R382). -/
inductive KeyKind where
  | empty | xts | gcm | verify
  deriving DecidableEq, Repr

/-- A key slot (R382): its state word's fields and the key itself, which no interface returns. -/
structure KeySlot where
  kind : KeyKind
  world : Bool
  loads : Nat
  fingerprint : Nat
  key : Nat
  key2 : Nat
  deriving DecidableEq, Repr

/-- A secured SPDM session (R377, R378). -/
structure Session where
  id : Nat
  /-- The requester. -/
  peer : Source
  /-- KEY_EXCHANGE_RSP set MutAuthRequested. -/
  mutAuth : Bool
  finished : Bool
  /-- An owner session (R378). -/
  owner : Bool
  /-- When its last secured message came. -/
  last : Nat
  /-- Key update generation (KEY_UPDATE). -/
  keyGen : Nat
  deriving DecidableEq, Repr

/-- An SPDM connection with a requester (R375): how far GET_VERSION, GET_CAPABILITIES and NEGOTIATE_ALGORITHMS have gone,
a deferred response, and the chunks of a large message (R462). -/
structure Spdm where
  peer : Source
  stage : Nat
  /-- ML-DSA-65 was selected. -/
  ml : Bool
  deferred : Option SpdmReply
  /-- CHUNK_SEND: bytes received and the next chunk number. -/
  chunks : List Byte
  chunkSeq : Nat
  /-- CHUNK_GET: the bytes of a large response and the next chunk number. -/
  large : List Byte
  largeSeq : Nat
  deriving DecidableEq, Repr

/-- The owner record (R380). -/
structure OwnerRecord where
  present : Bool
  keyEc : List Byte
  keyMl : List Byte
  policy : Nat
  epoch : Nat
  macOk : Bool
  deriving DecidableEq, Repr

/-- What started a zeroisation (R387), which decides how it ends. -/
inductive ZeroCause where
  | transfer | release | zeroise | absentRecord | debug (instr : Nat)
  deriving DecidableEq, Repr

/-- Security state (chapter 14). -/
structure Security where
  lifecycle : Lifecycle
  debugFlag : Bool
  /-- The debug flag as the last start found it, which measurement 6 shows (R389). -/
  flagAtStart : Bool
  identityOk : Bool
  /-- The set tag once derived; 0 before (R371, R373). -/
  setTag : Nat
  /-- The Alias key of this start. -/
  aliasKey : Nat
  stagedEc : List Byte
  stagedMl : List Byte
  stagedVerify : List Byte
  keys : Store KeySlot
  /-- Slots whose keys the engines hold (R385). -/
  loaded : List Nat
  sessions : List Session
  /-- The next session identifier. -/
  nextSession : Nat
  spdm : List Spdm
  /-- A zeroisation in progress: its cause, and the ranges (first address, granules) still to be written poisoned (R387 step 6). -/
  zeroing : Option ZeroCause
  poisonRanges : List (Nat × Nat)
  /-- Its place: 0 none, 1 accepted Secure work still to complete (step 3), 2 the ranges being written (step 6). -/
  zeroStage : Nat
  /-- The lifecycle to return to after ZEROISE or a debug unlock. -/
  lifecycleAfter : Lifecycle
  /-- The next staged keys of a TRANSFER in progress. -/
  transferEc : List Byte
  transferMl : List Byte
  deriving DecidableEq, Repr

/-- An empty key slot. -/
def KeySlot.reset : KeySlot := ⟨.empty, false, 0, 0, 0, 0⟩

/-- Security state at power-on reset (R388). -/
def Security.reset : Security :=
  { lifecycle := .unowned, debugFlag := false, flagAtStart := false, identityOk := true, setTag := 0, aliasKey := 0
    stagedEc := [], stagedMl := [], stagedVerify := [], keys := [], loaded := [], sessions := [], nextSession := 1
    spdm := [], zeroing := none, poisonRanges := [], zeroStage := 0, lifecycleAfter := .unowned, transferEc := [], transferMl := [] }

/-- An owner record never written: absent. -/
def OwnerRecord.none : OwnerRecord := ⟨false, [], [], 0, 0, false⟩

/-- The processors at power-on reset: only the Keeper's ROM runs (R35). -/
def Procs.reset : Procs :=
  { sequencer := ⟨false, none⟩, steward := ⟨false, none⟩, warden := ⟨false, none⟩, keeper := ⟨true, none⟩
    staged := [], stagedLost := 0, fences := [] }

/-- Power state at power-on reset: VKEEP good, BOOT (R414, R418). -/
def Power.reset : Power :=
  { node := .boot, vkeep := true, vcore := false, vphy := false, vkeepAt := 0, resetAt := 0, entering := false
    heldWake := false, waking := false, reloaded := false, shadow := false, rejoin := false, rejoinMask := 0
    readyAsked := false
    selfTested := false, checkerFailed := false, warm := false, warmAt := 0, halting := false, unretained := []
    fill := [], strapped := false, resetFrom := 0, setHeld := false, testUsed := false }

/-- An asynchronous input before its first taken change (R551). -/
def AsyncIn.reset : AsyncIn := ⟨0, 0, false⟩

/-- Pins from VKEEP good (R550). -/
def Pins.reset : Pins :=
  { nodeId := 0, setSize := 1, recovery := false, throttleAck := .reset, panic := [], powerWarn := .reset
    setResetN := ⟨1, 0, false⟩, alarm := false, trip := false, heat := [], vreq := 0, vreqAt := 0 }

/-- The wrapper at VKEEP good: bypass. -/
def Wrapper.reset : Wrapper := ⟨0, false, none, 0⟩

/-- A notification queue with nothing in it. -/
def NotifyQueue.reset : NotifyQueue := ⟨none, 0, 0, []⟩

/-- The dictionary window at reset (R548). -/
def Window.reset : Window := ⟨[], [], false, false, false, none, [], 0⟩

/-- Management state at power-on reset. -/
def Mgmt.reset : Mgmt :=
  { sources := [], segments := [], partner := ⟨0, 0, 0⟩, heartbeatAt := 0, sinceBeat := none, log := [], limiters := []
    mirrorTimes := [], notify := [], alarmsAnswered := [], window := .reset, setWrites := [], nextOrder := 1, reported := 0
    settling := false, pendingTide := [], waiting := [] }

/-- A record area never written: two invalid, usable copies. -/
def RecordArea.reset : RecordArea := ⟨0, false, false, false, false⟩

/-! ### Chapter 20: the DRAM layers -/

/-- What a layer holds for one channel (R513, R517, R520, R525, R527, R528). -/
structure LayerChan where
  /-- Mode registers by address; an unlisted one has its reset value. -/
  regs : Store Nat
  /-- Open rows: row + 1 by bank, 0 for precharged. -/
  open_ : Store Nat
  /-- Refresh row counter by bank. -/
  refRow : Store Nat
  /-- Soft and hard mappings: spare index + 1, by 4,096·bank + row. -/
  soft : Store Nat
  hard : Store Nat
  /-- Hard repair in progress: bank, row, spare index. -/
  busy : Option (Nat × Nat × Nat)
  hardFailed : Bool
  protoAlert : Bool
  parityErr : Bool
  parityCount : Nat
  /-- Compare errors, a bit per lane. -/
  errors : Nat
  /-- Loopback buffer: 8 beats of 144 lanes, beat 0 lowest. -/
  loop : Nat
  /-- Seed the generators were last loaded from, and the steps each lane has made since, by lane. -/
  seed : Nat
  steps : Store Nat
  /-- CA capture mode (R519). -/
  capturing : Bool
  /-- Thermal flag onsets seen by a read of TEMP. -/
  flagSeen : Nat
  /-- In self-refresh, the time up to which the refresh row counters have been advanced (R531). -/
  srSince : Nat
  deriving DecidableEq, Repr

/-- What all layers of one channel share: self-refresh, and what was last driven on the data lanes. -/
structure DramChan where
  /-- In self-refresh with a class and a segment mask (R530). -/
  selfRef : Option (Nat × Nat)
  /-- The last burst the layers drove: up to 16 beats of 144 lanes, beat 0 lowest; a lane that is not driven shows 0. -/
  bus : Nat
  /-- The lanes of that burst that were driven. -/
  driven : Nat
  /-- Alerts the layers have asserted. -/
  alerts : Nat
  deriving DecidableEq, Repr

/-- A layer's own sensors and identity (R505, R513, R516, R533). -/
structure LayerDie where
  /-- Sensor codes 0–7 by column and 8 for the centre, I16; 0x8000 invalid. -/
  readings : Store Nat
  flagTemp : Nat
  flag : Bool
  /-- Onsets of the thermal flag condition. -/
  flagOnsets : Nat
  /-- The refresh class its hottest sensor gives (R531): 0 1x, 1 2x, 2 4x. -/
  tempClass : Nat
  /-- ID bytes 0–7 and the revision, from the factory. -/
  id : Nat
  revision : Nat
  present : Bool
  deriving DecidableEq, Repr

/-- The stacks (R503). -/
structure Dram where
  /-- By 16·c + layer. -/
  layers : Store LayerChan
  /-- By channel c. -/
  chans : Store DramChan
  /-- By 16·s + layer. -/
  dies : Store LayerDie
  /-- Cells: key 136·line + byte, line = (((c·16 + layer)·16 + bank)·4,104 + row)·8 + line in row. -/
  cells : List Host.Cell
  /-- What an unlisted cell reads as, by twice (512·c + row ÷ 8): 0 zero, 1 a poisoned line (R244). -/
  fill : Store Nat
  /-- Blocks of 8 rows whose content is undefined since self-refresh did not retain them (R530): 1, by twice (512·c + row ÷ 8); a spare row by twice its line ÷ 8, plus 1. -/
  lost : Store Nat
  /-- Lines of such blocks written since: 1 by line key. -/
  rewritten : Store Nat
  deriving DecidableEq, Repr

/-- A layer's state for a channel after a reset (R534): registers at their reset values, banks precharged. -/
def LayerChan.reset : LayerChan :=
  { regs := [], open_ := [], refRow := [], soft := [], hard := [], busy := none, hardFailed := false, protoAlert := false
    parityErr := false, parityCount := 0, errors := 0, loop := 0, seed := 1, steps := [], capturing := false
    flagSeen := 0, srSince := 0 }

/-- A channel of layers at reset. -/
def DramChan.reset : DramChan := ⟨none, 0, 0, 0⟩

/-- A layer before its first conversions (R516). -/
def LayerDie.reset : LayerDie := ⟨[], 110, false, 0, 0, 1, 0, true⟩

/-- Stacks whose supplies have just come up. -/
def Dram.reset : Dram := { layers := [], chans := [], dies := [], cells := [], fill := [], lost := [], rewritten := [] }

/-! ### Chapters 03, 04, 05: plans, streams, formats -/

/-- A run of a slot table (R63): `len` slots of a type. -/
structure Run where
  type : Nat
  stream : Nat
  len : Nat
  deriving DecidableEq, Repr

/-- A stream descriptor (R93). -/
structure StreamDesc where
  q : Nat
  context : Nat
  fencePoison : Bool
  inherit : Bool
  world : Bool
  formatted : Bool
  drain : Bool
  entry : Nat
  port : Nat
  ringLog2 : Nat
  allot : Nat
  ringBase : Nat
  first : Nat
  len : Nat
  deriving DecidableEq, Repr

/-- A stream program (R93): its descriptors and its 128-bit instructions. -/
structure Program where
  streams : List StreamDesc
  instrs : List Nat
  deriving DecidableEq, Repr

/-- A gate-list entry (R65). -/
structure Gate where
  mask : Nat
  interval : Nat
  deriving DecidableEq, Repr

/-- A regulator budget entry (R66). -/
structure Budget where
  budget : Nat
  window : Nat
  flags : Nat
  burst : Nat
  rsvd : Nat
  deriving DecidableEq, Repr

/-- A format entry (R67). -/
structure FormatEntry where
  storage : Nat
  compute : Nat
  rounding : Nat
  flags : Nat
  bound : Nat
  seed : Nat
  table : List Nat
  rsvd : Nat
  deriving DecidableEq, Repr

/-- A plan as a node holds it (R57–R67): the header's fields and the sections that apply to the node. -/
structure Plan where
  id : Nat
  crc : Nat
  /-- SHA-384 of the whole image (R376). -/
  digest : Nat
  continuity : Bool
  signed : Bool
  cls : Nat
  period : Nat
  tail : Nat
  contexts : List Nat
  /-- By tile t of the data channel. -/
  tables : List (Nat × List Run)
  /-- By stream engine e. -/
  programs : List (Nat × Program)
  /-- By Headland port h. -/
  gates : List (Nat × List Gate)
  regulators : Option (List Budget)
  formats : Option (List FormatEntry)
  deriving DecidableEq, Repr

/-- What derates take of a channel in the 128-slot window under way (R82, R83, R286): the window, the frame and the planned
slots taken in it, the slots taken with their cause (0 refresh, 1 slack, 2 throttle), and the planned lines left in the
window. -/
structure Taken where
  window : Nat
  frame : Nat
  planned : Nat
  slots : List (Nat × Nat)
  lines : Nat
  deriving DecidableEq, Repr

/-- No window begun. -/
def Taken.reset : Taken := ⟨0, 0, 0, [], 0⟩

/-- The plan machinery of a node (R70–R87). The plan state, armed tide and deferrals stand in their objects. -/
structure Plans where
  active : Option Plan
  loaded : Option Plan
  /-- A LOAD in progress: when it began, and whether it was written in an owner session (R69, R71). -/
  loading : Option (Nat × Bool)
  /-- The active plan of the set as a returning node has read it (R81). -/
  returning : Option Plan
  /-- The armed plan is the empty plan of a STOP. -/
  stopping : Bool
  /-- The plan state before arming (R70 DISARM). -/
  armedFrom : Nat
  /-- The frame number of the last boundary that has begun; 0 before frame 0 with `begun` false. -/
  frame : Nat
  begun : Bool
  /-- The last tide frame whose changes have taken effect. -/
  tideDone : Option Nat
  /-- Anchor of the tide schedule (R75). -/
  anchor : Nat
  /-- The frame at which the active plan became active (R58). -/
  activeFrom : Nat
  /-- PREPARE sent for the armed tide (lead node). -/
  prepared : Bool
  /-- Votes held at the lead node: node, READY (R78). -/
  votes : List (Nat × Bool)
  /-- The decision this node holds for the armed tide: true COMMIT, false DEFER. -/
  decision : Option Bool
  /-- Isolated from the set at a tide (R78). -/
  isolated : Bool
  /-- A switching tide whose old stream state is not yet retired (R78): the tide frame and the plan_id to report. -/
  retiring : Option (Nat × Nat)
  /-- Fences to clear at the next switching tide (R86). -/
  clears : Nat
  /-- Contexts whose slots run as yield since the tide that followed their fence (R86). -/
  yielded : Nat
  /-- Regulator, gate and format settings in force from plans (R61): gate lists by port, format entries. -/
  gates : List (Nat × List Gate)
  formats : List FormatEntry
  /-- Slots that derates take, by channel. -/
  taken : Store Taken
  /-- Channels that a derate has taken slots from since the last tide. -/
  derated : List Nat
  /-- Frames since the slack reading last exceeded its limit (R84). -/
  slackFrames : Nat
  /-- Continuity causes already reported (R87). -/
  broken : List Nat
  /-- When the rejoin object of a unit was last written, plus 1 (R434): by node n, 0x100 + feed port, 0x300 + engine, 0x400 +
  widen/narrow unit, 0x500 + slice, 0x600 + channel, 0x900 for the far-tier port. -/
  rejoinAt : Store Nat
  deriving DecidableEq, Repr

/-- No plan. -/
def Plans.reset : Plans :=
  { active := none, loaded := none, loading := none, returning := none, stopping := false, armedFrom := 0, frame := 0, begun := false
    tideDone := none, anchor := 0, activeFrom := 0, prepared := false, votes := [], decision := none, isolated := false
    retiring := none, clears := 0, yielded := 0, gates := [], formats := [], taken := [], derated := [], slackFrames := 0, broken := [], rejoinAt := [] }

/-- An address generator (R95). -/
structure Gen where
  base : Nat
  counts : List Nat
  strides : List Int
  p : Nat
  deriving DecidableEq, Repr

/-- A generator at stream start. -/
def Gen.reset : Gen := ⟨0, [1, 1, 1, 1], [0, 0, 0, 0], 0⟩

/-- How far a stream program has been decoded (R94–R97). -/
structure Cursor where
  /-- Instruction index relative to the stream's first. -/
  pc : Nat
  /-- Open REPEATs: instruction and jumps left. A REPEAT of count 0 is never listed. -/
  loops : List (Nat × Nat)
  gens : List Gen
  /-- The current mask by number, 0 for none, its row_lines, and the masked items that have followed it. -/
  mask : Nat
  maskRows : Nat
  maskItems : Nat
  /-- The current format entry; none in raw mode. -/
  fmt : Option Nat
  ended : Bool
  deriving DecidableEq, Repr

/-- A run of decoded items that have not issued (R91): skip items, or the line items of a MOVE. -/
structure DRun where
  skip : Bool
  count : Nat
  gen : Gen
  /-- Mask number, row_lines and index of the first item under it; 0 for an unmasked or always-present run. -/
  mask : Nat
  maskRows : Nat
  maskFirst : Nat
  fmt : Option Nat
  /-- The instruction that yields the run, and the items of it that are gone (R497). -/
  instr : Nat
  gone : Nat
  deriving DecidableEq, Repr

/-- A mask line (R96). -/
structure Mask where
  num : Nat
  addr : Nat
  /-- The line once read: none while pending. -/
  line : Option Nat
  /-- The read did not complete in time or completed other than OK: every item it governs is present. -/
  late : Bool
  deriving DecidableEq, Repr

/-- A pending SIGNAL (R94, R109): it takes effect once `after` line items of the stream have landed or been written. -/
structure PendSignal where
  object : Nat
  addend : Nat
  after : Nat
  /-- Feed streams: the fence bit has been sent, with its number. -/
  sent : Bool
  deriving DecidableEq, Repr

/-- An issued feed line in stream order (R101, R111): its first ring position, its feed lines, and what has come of it. -/
structure FeedLine where
  num : Nat
  addr : Nat
  ring : Nat
  n : Nat
  /-- The format entry of the item as it was when the line issued (R92, R115). -/
  fmt : Option FormatEntry
  /-- none while in flight; then the feed lines, or [] for a poisoned line. -/
  lines : Option (List Nat)
  poisoned : Bool
  masked : Bool
  /-- The escaped home line, while its escape lines are read. -/
  home : Option (Nat × Nat)
  deriving DecidableEq, Repr

/-- A narrowed stored line of a drain stream, from its narrowing to its completion (R99, R102, R143): its number and
address, its n_w, the line itself, the escape writes (by request) not yet accepted and not yet completed, the pool, and the
journal entry once issued. -/
structure DrainLine where
  num : Nat
  addr : Nat
  nw : Nat
  data : Nat
  info : Nat
  /-- Escape writes that have not been accepted. -/
  escapes : List Nat
  /-- Escape writes that have not completed. -/
  unfinished : List Nat
  pool : Option Nat
  ask : Option Nat
  deriving DecidableEq, Repr

/-- A stream that is running (R90–R120). -/
structure Stream where
  desc : StreamDesc
  cur : Cursor
  runs : List DRun
  /-- Items decoded beyond `runs`: none. First item not yet issued, and the next own slot's number. -/
  pos : Nat
  sigma : Nat
  lag : Nat
  /-- The number of the first line item of this stream, and the numbers of the next to issue, of the next to land or to be
  written, and of the next to be decoded. A stream that follows one of the same number at a tide goes on numbering. -/
  first : Nat
  issued : Nat
  landed : Nat
  decoded : Nat
  credits : Nat
  ring : Nat
  /-- The ring index after the last feed line delivered (R105). -/
  fed : Nat
  waiting : Option (Nat × Nat)
  /-- The object value last seen by the watch, if registered. -/
  watched : Option Nat
  masks : List Mask
  signals : List PendSignal
  feed : List FeedLine
  drain : List DrainLine
  /-- Feed lines collected from the tile and not yet narrowed, with the times they came. -/
  collected : List (Nat × Nat)
  /-- Feed lines whose stored lines have been written. -/
  drained : Nat
  /-- Feed-fence beats sent whose LANDED is outstanding, oldest first: line item counts, and when each was sent. -/
  fences : List (Nat × Nat)
  /-- When a line last issued, or the stream's lag was last 0 (R117 cause 0x02). -/
  lastIssue : Nat
  fenced : Bool
  deriving DecidableEq, Repr

/-- Streams, engines and feed ports. -/
structure Feeds where
  /-- Streams of the active plan, by stream number. -/
  streams : List (Nat × Stream)
  /-- Streams of the old plan with lines still in flight after a switching tide. -/
  old : List (Nat × Stream)
  /-- Ports, engines and widen/narrow units armed to rejoin. -/
  rejoin : List Nat
  engineRejoin : List Nat
  unitRejoin : List Nat
  /-- Pools to reset at a tide (R147); escapes outstanding by pool. -/
  poolResets : List Nat
  escapesOut : Store Nat
  /-- Pool cursors with generation and flags: cursor, generation, exhausted raised, low raised; by descriptor r. -/
  pools : Store (Nat × Nat × Nat × Nat)
  /-- Tile feed ports t whose ready is asserted; and 256 + p for a real-time port p whose ready is withdrawn. -/
  ready : List Nat
  deriving DecidableEq, Repr

/-- No stream. -/
def Feeds.reset : Feeds := ⟨[], [], [], [], [], [], [], [], []⟩

/-! ### Chapters 07, 08, 09: channels, open path, journal and recovery -/

/-- A physical place: channel, layer, bank (4·group + bank in group), row, line in row (R15, R42). -/
structure Loc where
  c : Nat
  layer : Nat
  bank : Nat
  row : Nat
  line : Nat
  deriving DecidableEq, Repr

/-- On whose behalf a channel reads a line. -/
inductive Reader where
  /-- An accepted request. -/
  | ask (id : Nat)
  /-- The fill of a partial write (R192). -/
  | fill (wid : Nat)
  /-- A planned line of a stream. -/
  | planned (n num : Nat)
  | gleaner
  /-- The re-read of a recovery record. -/
  | reread (num : Nat)
  /-- Line i of the row a move takes (R259). -/
  | move (i : Nat)
  /-- A planned line of a retired row, fetched into the retirement buffer (R261). -/
  | prefetch (n num : Nat)
  /-- A reader that has had its line without waiting for the recovery (R190). -/
  | served
  /-- A temperature read of a layer (R278). -/
  | temp (layer : Nat)
  deriving DecidableEq, Repr

/-- On whose behalf a channel writes a line. -/
inductive Writer where
  | ask (id : Nat)
  /-- Recovery, heal and row move (line i). -/
  | recovery
  | heal
  | move (i : Nat)
  /-- The advance of a bale ledger entry (R354). -/
  | ledger
  deriving DecidableEq, Repr

/-- An entry of a read queue (R191), or a read that takes none. -/
structure RdEntry where
  who : Reader
  addr : Nat
  loc : Loc
  /-- Slot in which it was queued, and its order among everything placed. -/
  placed : Nat
  order : Nat
  rank : Nat
  /-- The real-time port whose panic marks it. -/
  port : Option Nat
  aged : Bool
  heldSince : Option Nat
  heldCounted : Bool
  /-- The region descriptor in force for it (R248): number and 256 bits. -/
  region : Option (Nat × Nat)
  deriving DecidableEq, Repr

/-- An entry of a write queue or of the urgent store (R191, R250). A partial write waits for its fill. -/
structure WrEntry where
  wid : Nat
  who : Writer
  addr : Nat
  loc : Loc
  data : Nat
  info : Nat
  mask : Nat
  /-- Still a partial write: its fill has not merged. -/
  partial_ : Bool
  fillIssued : Bool
  placed : Nat
  order : Nat
  alerts : Nat
  region : Option (Nat × Nat)
  deriving DecidableEq, Repr

/-- A read whose data is on its way: none once it is known to have failed (R246). -/
structure Flight where
  entry : RdEntry
  bytes : Option (List Byte)
  issued : Nat
  /-- The writes queued for the line when a planned read issued, oldest first (R190). -/
  queued : List WrEntry
  /-- A whole-line write to the line has been placed since the read issued (R250). -/
  newer : Bool
  deriving DecidableEq, Repr

/-- A write whose column command has issued and is not yet confirmed (R265). -/
structure Unconf where
  entry : WrEntry
  issued : Nat
  deriving DecidableEq, Repr

/-- Where a recovery record stands (R248). -/
inductive RecStep where
  /-- Re-read to issue, or in flight. -/
  | reread
  /-- Waiting for the backing restore. -/
  | restore
  /-- Its recovery write waits for the urgent store. -/
  | write
  deriving DecidableEq, Repr

/-- A recovery record (R247). -/
structure Rec where
  num : Nat
  addr : Nat
  loc : Loc
  /-- Its readers, the one that opened it first, each with the queued writes its line is merged with (R190). -/
  readers : List (Reader × List WrEntry)
  step : RecStep
  issued : Bool
  /-- Order of the failed read, for R250's supersession. -/
  order : Nat
  region : Option (Nat × Nat)
  gleaner : Bool
  /-- The line to write: data and metadata. -/
  line : Option (Nat × Nat)
  heal : Bool
  /-- A whole-line write to the line has been placed since the failed read issued (R250). -/
  superseded : Bool
  deriving DecidableEq, Repr

/-- A bank's last commands, as ck + 1 (0 none): ACT, RD or RDC, end of write data, start of precharge, REFpb. -/
structure BankT where
  act : Nat
  rd : Nat
  wr : Nat
  pre : Nat
  ref : Nat
  deriving DecidableEq, Repr

/-- A bank at rest. -/
def BankT.reset : BankT := ⟨0, 0, 0, 0, 0⟩

/-- What the controller knows of its channel's banks for R185. -/
structure Timing where
  /-- Open rows as the controller holds them: row + 1 by 16·layer + bank. -/
  open_ : Store Nat
  banks : Store BankT
  /-- Recent activations: layer, bank group, ck, and how many banks (a REFpb counts each it refreshes). -/
  acts : List (Nat × Nat × Nat × Nat)
  /-- Recent data commands: kind 0 RD, 1 RDC, 2 WR; layer, bank, ck. -/
  cols : List (Nat × Nat × Nat × Nat)
  /-- ck + 1 of the last SRX. -/
  srx : Nat
  /-- Banks whose open row was opened for planned lines (R186). -/
  planned : List Nat
  /-- ck + 1 of the last PREab, which holds for every bank, those already precharged among them (tRP of R185). -/
  preAll : Nat
  deriving DecidableEq, Repr

/-- A channel with nothing issued. -/
def Timing.reset : Timing := ⟨[], [], [], [], 0, [], 0⟩

/-- A command of the stack die interface as the controller issues it. -/
inductive SdiCmd where
  | act (layer bank row : Nat)
  | pre (layer bank : Nat)
  | preLayer (layer : Nat)
  | preAll
  | rpr (layer bank row : Nat)
  | rd (layer bank line : Nat) (ap : Bool)
  | rdc (layer bank line : Nat) (ap : Bool)
  | wr (layer bank line : Nat) (ap : Bool)
  | ref (layer big mask : Nat)
  | mrr (layer addr : Nat)
  | cal
  | sre (cls mask : Nat)
  | srx
  /-- A mode register write, of one layer or, for 16, of all. -/
  | mrw (layer addr value : Nat)
  deriving DecidableEq, Repr

/-- An issued command, for the attribution of alerts (R523): ck of its clock 0, and what it carried. -/
structure Issued where
  ck : Nat
  cmd : SdiCmd
  /-- Order number of the read or write it carries out. -/
  order : Nat
  deriving DecidableEq, Repr

/-- The queue modes of R194. -/
inductive QMode where
  | read | flood | idleDrain | holdDrain
  deriving DecidableEq, Repr

/-- A weak-line tracker entry (R255), with the time its age counts from. -/
structure Weak where
  line : Nat
  healed : Bool
  count : Nat
  since : Nat
  /-- A heal write is due or placed. -/
  healing : Bool
  /-- A first read has failed while the entry was healed: it is freed when the row's repair ends (R257). -/
  failed : Bool
  deriving DecidableEq, Repr

/-- A row move (R259): the row, whether it is retired, the buffer (data and metadata by line), and how far it has gone. -/
structure Move where
  layer : Nat
  bank : Nat
  row : Nat
  retire : Bool
  spare : Nat
  /-- The target of a retirement: channel and row. -/
  target : Option (Nat × Nat)
  buffer : List (Option (Nat × Nat))
  /-- 0 reading, or complete and waiting for its slot; 1 PREab of the layer issued; 2 repair register written; 3 writing. -/
  stage : Nat
  /-- Lines whose write to the target has been placed. -/
  written : List Nat
  /-- Caused by displacement (R266). -/
  displaced : Bool
  /-- Planned reads of lines that are not in the buffer yet, each with the writes it is merged with and its slot (R190, R259). -/
  waiting : List (RdEntry × List WrEntry × Nat)
  deriving DecidableEq, Repr

/-- A channel controller (chapters 07 and 09). Its state code stands in 0x4000+c:01. -/
structure Chan where
  rq : List RdEntry
  wq : List WrEntry
  urgent : List WrEntry
  flights : List Flight
  unconf : List Unconf
  recs : List Rec
  /-- Failed reads that wait for a record (R247). -/
  recWait : List Flight
  mode : QMode
  /-- Quad of the last RD or WR, and the lines its run has carried. -/
  quad : Nat
  run : Nat
  time : Timing
  issued : List Issued
  /-- Banks activated for the open path and not yet used (R197). -/
  openActs : List Nat
  debt : Store Int
  /-- Banks whose debt above 4 is refreshed urgently since a rise of class (R201). -/
  rising : List Nat
  /-- Rises each bank has had since the refresh origin. -/
  rises : Store Nat
  origin : Nat
  /-- The last slot executed. -/
  lastSlot : Option Nat
  /-- Last data command was a write (for turnarounds). -/
  lastWrite : Option Bool
  /-- A committed switching tide's PREab is due (R186). -/
  preabDue : Bool
  /-- When the Gleaner's lap began, and whether it has passed its target. -/
  lapStart : Nat
  lapSlow : Bool
  /-- The row the Gleaner opened last: 16·layer + bank, and the row. -/
  gleanRow : Option (Nat × Nat)
  weak : Store (Option Weak)
  move : Option Move
  /-- Moves that wait, in order of their cause: layer, bank, row, displaced. -/
  moves : List (Nat × Nat × Nat × Bool)
  /-- Spare rows of each bank that repairs have used; repair depth of each row moved, by 4,096·bank + row, and 4 more where it is
  unprotected (R258, R262). -/
  spares : Store Nat
  depth : Store Nat
  rejoin : Bool
  /-- Draining toward self-refresh: the class and the segment mask its SRE will carry. -/
  draining : Option (Nat × Nat)
  /-- A self-refresh entry under way: whether its SRE has issued, and the ck of its PREab or SRE (R203). -/
  entry : Option (Bool × Nat)
  /-- The channel state to return to after self-refresh or a recovery. -/
  srFrom : Nat
  /-- When SRE was issued, and when its recovery from a fault or its halt began. -/
  sreAt : Nat
  faultAt : Nat
  /-- Commands the controller must issue again at a row position (R523), and the alerts in a row a command has drawn. -/
  again : List SdiCmd
  alerts : List (SdiCmd × Nat)
  /-- Data-command count in the aligned window under throttle (R286): window number, count. -/
  capWindow : Nat
  capUsed : Nat
  /-- Slot owed to the second half of a half-width line (R210). -/
  busyNext : Bool
  /-- Segments whose lines are due to be written poisoned on DEEP exit (R205), and 65,536 once that is due. -/
  poisonDue : Nat
  deriving DecidableEq, Repr

/-- A channel controller at power-on reset (R212). -/
def Chan.reset : Chan :=
  { rq := [], wq := [], urgent := [], flights := [], unconf := [], recs := [], recWait := [], mode := .read, quad := 0
    run := 0, time := .reset, issued := [], openActs := [], debt := [], rising := [], rises := [], origin := 0, lastSlot := none
    lastWrite := none, preabDue := false, lapStart := 0, lapSlow := false, gleanRow := none, weak := [], move := none
    moves := [], spares := [], depth := [], rejoin := false, draining := none, entry := none, srFrom := 0, sreAt := 0, faultAt := 0, again := [], alerts := [], capWindow := 0, capUsed := 0
    busyNext := false, poisonDue := 0 }

/-- Where an open request stands. -/
inductive Stage where
  /-- In its port's offer buffer (R228). -/
  | offered
  /-- Accepted: it holds a journal entry (R268). -/
  | accepted
  /-- Finished: it has a completion. -/
  | finished
  deriving DecidableEq, Repr

/-- What a block-internal request is for. -/
inductive Purpose where
  /-- A request of a port. -/
  | port
  /-- Write-back of a cached line (R159). -/
  | writeBack (line : Nat)
  /-- Line i of the escape slot of a stream's drain line, or of an escaped line being read (R143, R144). -/
  | escapeWrite (n num : Nat)
  | escapeRead (id i : Nat)
  /-- Line i of the escape slot of a feed line of a stream (R144). -/
  | feedEscape (n num i : Nat)
  /-- Write of an entry of region r's notification queue (R52). -/
  | notifyWrite (r : Nat)
  /-- A mask line of a stream (R96). -/
  | mask (n num : Nat)
  /-- The journal entry of a drain line (R99). -/
  | drain (n num : Nat)
  /-- A line of a transfer (R362): transfer number and line. -/
  | transferRead (num i : Nat)
  | transferWrite (num i : Nat)
  /-- A bale ledger line. -/
  | ledger
  /-- Line i of a plan image (R71). -/
  | image (i : Nat)
  /-- The line of a reduction that a refused contribution has opened (R169). -/
  | redStart
  deriving DecidableEq, Repr

/-- An open request held in the node: in an offer buffer, in the journal, or waiting for its completion to be delivered
(R215, R268, R269). -/
structure Ask where
  id : Nat
  side : Side
  addr : Nat
  op : Op
  why : Purpose
  /-- Due time in ns + 1; 0 for none (R220). -/
  due : Nat
  /-- Tier 0 A to 4 E, and effective rank (R221, R229). -/
  tier : Nat
  rank : Nat
  /-- The request is over its partition's budget. -/
  overBudget : Bool
  arrived : Nat
  /-- Tides that had fallen when it was checked (R219). -/
  tides : Nat
  stage : Stage
  /-- The region in force when it was accepted (R50). -/
  region : Option (Nat × Nat)
  /-- Applied mark and recorded value (R165). -/
  applied : Option Nat
  /-- Status and data of the completion. -/
  result : Option (Nat × Option Nat)
  /-- It holds a journal entry. -/
  journal : Bool
  /-- Its write has been confirmed, or it needs no confirmation (R265). -/
  confirmed : Bool
  delivered : Bool
  /-- The cache is fetching its line (R158). -/
  miss : Bool
  /-- A request for another node, in the forward table (R334): 0 none, 1 sent, 2 answered ACCEPT. -/
  fwd : Nat
  /-- It waits for its backing write to complete (R251). -/
  backing : Bool
  /-- The standing entry in force when a WIDEN was accepted (R149), its 64 bytes as a number. -/
  entry : Nat
  /-- The set-wide value the request depends on, as this node held it when it was accepted (R9): the wait timeout of a WAIT, and
  otherwise the allocation word of its class. -/
  rule : Nat
  /-- Metadata of the line a block-internal read returned. -/
  info : Nat
  deriving DecidableEq, Repr

/-- A meter's buckets in units of 1/12,000 B, and when they were last brought up to date (R222). -/
structure Meter where
  tc : Nat
  tp : Nat
  at_ : Nat
  deriving DecidableEq, Repr

/-- A shaper's credit in units of 1/12,000 B (R227). -/
structure Shaper where
  credit : Int
  at_ : Nat
  deriving DecidableEq, Repr

/-- A partition's window (R225): the frame it began, and the frame its entry took effect. -/
structure RegWindow where
  start : Nat
  running : Bool
  /-- A tide has fallen since the entry took effect, so that its first window is to begin. -/
  armed : Bool
  deriving DecidableEq, Repr

/-- A real-time port's panic input (R233, R234). -/
structure PanicState where
  level : Nat
  changedAt : Option Nat
  since : Nat
  zeroSince : Nat
  deriving DecidableEq, Repr

/-- WFQ state of a channel's queue (R232): virtual time, and by class the last and head tags. -/
structure Wfq where
  v : Nat
  last : Store Nat
  head : Store Nat
  backlog : List Nat
  deriving DecidableEq, Repr

/-- A line of a sheaf's retirement buffer (R261): sheaf, stream, line number, and the line once read (none poisoned). -/
structure RetLine where
  sheaf : Nat
  n : Nat
  num : Nat
  arrived : Bool
  line : Option (Nat × Nat)
  deriving DecidableEq, Repr

/-- A reconstitution (R266) or copy-back (R267) in progress. -/
structure Rebuild where
  c : Nat
  spare : Nat
  /-- When the fill or the copy began, and whether it has ended. -/
  began : Nat
  ready : Bool
  deriving DecidableEq, Repr

/-- Open path, journal and quality of service (chapters 08 and 09). -/
structure Path where
  chans : Store Chan
  /-- Requests in order of arrival. -/
  asks : List Ask
  nextId : Nat
  /-- Order number of the next thing placed in any queue. -/
  nextOrder : Nat
  /-- Meters and shapers by class. -/
  meters : Store Meter
  shapers : Store Shaper
  regs : Store RegWindow
  wfq : Store Wfq
  /-- Refusal chains (R231): port, stream, refused sequence number. -/
  chains : List (Port × Nat × Nat)
  panics : Store PanicState
  /-- Degradation steps: frame of the last occurrence plus 1; 0 when not active (R235). -/
  degrade : Store Nat
  /-- Tides that have fallen. -/
  tides : Nat
  /-- The retirement buffers (R261). -/
  retired : List RetLine
  reconst : Option Rebuild
  copyBack : Option Rebuild
  /-- Repair log, oldest first: word 0 and time (R263). -/
  repairLog : List (Nat × Nat)
  /-- Repair log entries that were there at the last start (R264). -/
  logAtStart : Nat
  /-- Repair log entries still to be converted to hard repairs (R264). -/
  hardDue : List Nat
  /-- The journal's copies in service (R274). -/
  journalA : Bool
  journalB : Bool
  deriving DecidableEq, Repr

/-- Meters at node start are full; every other state is empty (R237). -/
def Path.reset : Path :=
  { chans := [], asks := [], nextId := 0, nextOrder := 0, meters := [], shapers := [], regs := [], wfq := [], chains := []
    panics := [], degrade := [], tides := 0, retired := [], reconst := none, copyBack := none, repairLog := []
    logAtStart := 0, hardDue := [], journalA := true, journalB := true }

/-! ### Chapter 06: the shared cache -/

/-- A way of a cache set (R155–R160): a clean copy, a dirty line or the mirror of a dirty line of the partner. -/
inductive WayKind where
  | clean | dirty | mirror
  deriving DecidableEq, Repr

/-- A cached line: line number (set address ÷ 128), bytes and metadata. -/
structure CWay where
  line : Nat
  data : Nat
  info : Nat
  kind : WayKind
  modified : Nat
  used : Nat
  /-- A write-back of it has been issued and not yet accepted. -/
  writing : Bool
  deriving DecidableEq, Repr

/-- An open reduction (R167–R173). -/
structure Red where
  addr : Nat
  word : RedWord
  window : Nat
  next : Nat
  lane : Nat
  /-- The accumulator's elements, once it holds the stored line. -/
  acc : Option (List Nat)
  /-- Staged contributions: index, request, data. -/
  staged : List (Nat × Nat × Nat)
  lastApplied : Nat
  /-- Open reads that wait for the close. -/
  readers : List Nat
  /-- Closed: its result waits to be written back before the object is signalled. -/
  closing : Bool
  deriving DecidableEq, Repr

/-- A closed-reduction record (R171). -/
structure RedDone where
  addr : Nat
  tag : Nat
  broken : Bool
  at_ : Nat
  deriving DecidableEq, Repr

/-- The shared cache and the synchronisation objects (chapter 06). -/
structure Cache where
  /-- By ((slice·2,048) + set)·16 + way. -/
  ways : Store (Option CWay)
  reds : List Red
  closed : List RedDone
  /-- WAITs of ports: object, threshold, request. -/
  waiters : List (Nat × Nat × Nat)
  /-- Watches: object, and the stream (0 to 4,095) or 4,096 + node that watches. -/
  watches : List (Nat × Nat)
  /-- Lines that came back for a cache miss: request, data, metadata, or none when poisoned (R158). -/
  fills : List (Nat × Option (Nat × Nat))
  /-- FLUSH requests that wait for their line: request, line. -/
  flushes : List (Nat × Nat)
  /-- flush_all writes that wait, with the lines still dirty. -/
  flushAll : List (Completer × List Nat)
  /-- Lines of writes that are to be allocated under a way mask once a dirty line of their set has been written back (R157). -/
  allocs : List (Nat × Nat)
  rejoin : List Nat
  /-- Use counter for least-recently-used replacement. -/
  use : Nat
  deriving DecidableEq, Repr

/-- An empty cache. -/
def Cache.reset : Cache := ⟨[], [], [], [], [], [], [], [], [], [], 0⟩

/-! ### Chapter 13: the far tier -/

/-- Who reads from a bale (R357, R362). -/
inductive FarReader where
  /-- An open READ of a line. -/
  | ask (id line : Nat)
  /-- A restore read of recovery record `num` of channel c, with its class label (R249). -/
  | restore (c num line cls : Nat)
  /-- The missing lines of a bale about to be written. -/
  | merge
  /-- A partial line write that needs the line (R356): request, line, mask, data. -/
  | part (id line mask data : Nat)
  /-- A restore transfer. -/
  | transfer (num : Nat)
  deriving DecidableEq, Repr

/-- A bale in the port's buffer (R356): the lines it holds, and who waits for its write. -/
structure Bale where
  num : Nat
  /-- Data and metadata by line in bale. -/
  lines : Store (Option (Nat × Nat))
  dirty : Bool
  mergedAt : Nat
  /-- Requests whose line write completes with the bale write: id, and whether it is a backing write. -/
  waits : List (Nat × Bool)
  /-- Writing to its device under a version. -/
  writing : Bool
  /-- A read of the bale is outstanding: its readers, tries, and when it was issued. -/
  readers : List FarReader
  tries : Nat
  readAt : Nat
  used : Nat
  deriving DecidableEq, Repr

/-- A transfer (R360–R362): its descriptor words, whether it runs, bales done, and lines of the bale under way. -/
structure Transfer where
  num : Nat
  words : List Nat
  running : Bool
  bales : Nat
  got : Store (Option (Nat × Nat))
  waiting : Nat
  /-- Where the bale under way stands: 0 not begun, 1 its lines or the bale are being read, 2 the bale is handed over to the
  buffer, or its lines are being written. -/
  stage : Nat
  failed : Bool
  deriving DecidableEq, Repr

/-- A bale as sealed on its device: its version and its 128 lines. -/
structure Sealed where
  version : Nat
  lines : List (Nat × Nat)
  deriving DecidableEq, Repr

/-- A line write to a bale: its line, bytes, and the request that waits for it (`backing` for a written-through copy). -/
structure FarWrite where
  bale : Nat
  line : Nat
  mask : Nat
  data : Nat
  info : Nat
  ask : Nat
  backing : Bool
  deriving DecidableEq, Repr

/-- An operation that waits for its turn at the port, or for a buffer entry: a line write, or a read of a line of a bale (R356). -/
inductive FarOp where
  | write (w : FarWrite)
  | read (bale line : Nat) (r : FarReader)
  deriving DecidableEq, Repr

/-- A restore read that has ended: the channel and recovery record it is for, and the line, or none when it failed. -/
structure Restored where
  c : Nat
  num : Nat
  line : Option (Nat × Nat)
  deriving DecidableEq, Repr

/-- The far-tier port (chapter 13). -/
structure Far where
  bales : List Bale
  /-- What the devices hold, by bale: the last bale written whole. -/
  stored : Store (Option Sealed)
  /-- Operations the port has not taken, in the order they reached it: for want of a buffer entry, or behind another of their bale. -/
  waiting : List FarOp
  transfers : List Transfer
  nextTransfer : Nat
  /-- Ledger lines lost (R355). -/
  lost : List Nat
  rejoin : Bool
  /-- The ledger is being zeroed (R363). -/
  zeroing : Bool
  use : Nat
  /-- Restore reads that have ended and whose recovery has not yet gone on. -/
  restored : List Restored
  deriving DecidableEq, Repr

/-- The port off, nothing attached. -/
def Far.reset : Far := ⟨[], [], [], [], 0, [], false, false, 0, []⟩

/-! ### Chapter 10: heat -/

/-- A temperature sensor (R279): its last valid reading in quarters of a degree and when it came, when the reading last
changed and what the others of its column then read, and the state of its being broken. -/
structure Sensor where
  value : Int
  has : Bool
  at_ : Nat
  changed : Nat
  /-- Readings of the sensors of its column when its own last changed, by sensor number. -/
  peers : Store Int
  broken : Bool
  /-- Valid readings in a row that each moved by at most 4 °C. -/
  good : Nat
  deriving DecidableEq, Repr

/-- A sensor that has not been read. -/
def Sensor.reset : Sensor := ⟨0, false, 0, 0, [], false, 0⟩

/-- Heat (R277–R296). Stack levels and classes in force stand in their objects. -/
structure Heat where
  /-- Layer sensors by 144·s + n, logic-side sensors by 10,000 + n. -/
  sensors : Store Sensor
  /-- The scan interval (counted from the epoch) of the last temperature read of a layer by a sheaf, plus 1: by 16·u +
  layer. -/
  scanned : Store Nat
  /-- The refresh class each sheaf is to take (R282), and the one its own temperature calls for (R281). -/
  classDue : Store Nat
  sheafLevel : Store Nat
  /-- Throttle requests outstanding: when each was made (R284). -/
  requests : List Nat
  /-- A request went unacknowledged for 100 µs, and no toggle has arrived since (R285). -/
  unanswered : Bool
  /-- Collective grace by stack: when it ends plus 1; 0 when it does not run (R287). -/
  grace : Store Nat
  /-- Since when a stack has stayed below 97 °C, plus 1 (R287). -/
  coolSince : Store Nat
  /-- When a stack's halt began, plus 1, and when its sensors were last read during it (R288, R289). -/
  haltedAt : Store Nat
  checkedAt : Store Nat
  /-- Junction warning entered and not left (R281). -/
  junctionHigh : Bool
  /-- The shutdown record of the trip under way, and whether it has yet to be written (R291, R293). -/
  trip : List Byte
  tripped : Bool
  /-- When the trip was decided, plus 1, while the node is still to enter HALTED; 0 otherwise (R291). -/
  tripAt : Nat
  recordDue : Bool
  /-- Since when every sensor and the junction have read below their limits, plus 1 (R294). -/
  coolFrom : Nat
  /-- The cooled restart of this start has ended (R294). -/
  cooled : Bool
  deriving DecidableEq, Repr

/-- Heat at power-on reset (R296). -/
def Heat.reset : Heat :=
  { sensors := [], scanned := [], classDue := [], sheafLevel := [], requests := [], unanswered := false, grace := [], coolSince := []
    haltedAt := [], checkedAt := [], junctionHigh := false, trip := [], tripped := false, tripAt := 0, recordDue := false, coolFrom := 0
    cooled := false }

/-! ### Chapter 11: training -/

/-- A margining request in progress (R317): the request word, and when it began. -/
structure Margin where
  word : Nat
  began : Nat
  deriving DecidableEq, Repr

/-- Training of one channel (R304–R316). Its settings stand in their objects. -/
structure Train where
  /-- When the training under way began, and how many training timeouts it has had. -/
  began : Nat
  timeouts : Nat
  /-- The training under way was asked for by 0x4000+c:4C (R313). -/
  asked : Bool
  /-- A round runs; the groups it has still to retrain, the first of them offline or next. -/
  round : Bool
  groups : List Nat
  /-- The group that is offline, the spare carrying its bits. -/
  offline : Option Nat
  /-- Sheaf temperature, in quarters of a degree, and time at the start of the last round. -/
  roundTemp : Int
  roundAt : Nat
  /-- The round that follows has already fallen due. -/
  late : Bool
  /-- Rounds in a row with a result that is not working, by group (R309). -/
  bad : Store Nat
  /-- The half in use: 0 full width, 1 half A, 2 half B. -/
  width : Nat
  /-- Settings on their way to a new value, one tap at a time: code, instance, goal; when the step under way was written; and the
  objects as they stood before (R303). -/
  steps : List (Nat × Nat × Nat)
  stepAt : Nat
  before : List (Nat × Nat)
  /-- Groups a step timeout has cost in the full training under way (R314). -/
  lost : Nat
  margin : Option Margin
  /-- When the record was last made due by a round. -/
  recordAt : Option Nat
  /-- The steering to take at the next calibration reserve slot: the group to go offline, or none (R308). -/
  steer : Option (Option Nat)
  /-- Sheaf temperature at training, in quarters of a degree (R315). -/
  temp : Option Int
  deriving DecidableEq, Repr

/-- A channel that has never been trained. -/
def Train.reset : Train :=
  { began := 0, timeouts := 0, asked := false, round := false, groups := [], offline := none, roundTemp := 0, roundAt := 0
    late := false, bad := [], width := 0, steps := [], stepAt := 0, before := [], lost := 0, margin := none, recordAt := none
    steer := none, temp := none }

/-! ### Chapter 18: firmware update -/

/-- Firmware update (R477–R482). Staging state, block map, versions and the armed mark stand in their objects. -/
structure Update where
  /-- The length that BEGIN took. -/
  length : Nat
  /-- A staging write has failed (R470, R478). -/
  failed : Bool
  /-- The Keeper ROM has found an image to boot at this start. -/
  selected : Bool
  /-- The Keeper ROM copies the staging slot to the active slot. -/
  copying : Bool
  /-- RECOVERY was entered because both images failed (R478). -/
  bothFailed : Bool
  deriving DecidableEq, Repr

/-- No update under way. -/
def Update.reset : Update := ⟨0, false, false, false, false⟩

/-! ### Chapter 15: clocks -/

/-- A clock source or monitored clock: counting toward stability since a time, stable, tripped or off (R398, R404). -/
inductive SourceState where
  | off | counting (since : Nat) | stable | tripped (since : Nat)
  deriving DecidableEq, Repr

/-- Clocks and the slack monitor (R392–R410). Monitor words, dividers and sources of the sheaf domains stand in their
objects. -/
structure Clocks where
  /-- Sources by monitor number of R404. -/
  sources : Store SourceState
  /-- When sv_ref_a began to be counted, for the 65,536 cycles of R399. -/
  refAFrom : Nat
  /-- When a domain's divider last stepped: sheaf u by u, Keeper by 64. -/
  stepped : Store Nat
  /-- Divider of the Keeper's domain. -/
  keeperDiv : Nat
  /-- Domains held gated since a source trip, until their fallback is stable: when, by sheaf u or 64 (R406). -/
  waiting : Store (Option Nat)
  /-- Sheaf PLLs that restart after a trip: when they tripped, plus 1 (R405). -/
  pllTrip : Store Nat
  /-- When the replicas were last measured, and the last measurement of each. -/
  slackAt : Nat
  replicas : Store Nat
  /-- When each replica last returned a measurement. -/
  replicaAt : Store Nat
  /-- Replicas left out of the slack reading after the self-test (R421). -/
  replicasOut : List Nat
  /-- A reading above 600 ps has come in the frame under way. -/
  slackHigh : Bool
  /-- Since when every reading has been 480 ps or less, plus 1. -/
  easySince : Nat
  /-- KSO measurements in a row within ±0.1%, and when a trim reference was last usable. -/
  trimGood : Nat
  trimAt : Nat
  trimStale : Bool
  /-- Crossings closed by a reset (R409): the port or unit, as a number. -/
  closed : List Nat
  deriving DecidableEq, Repr

/-- Clocks at power-on reset: KSO and KFO counting from VKEEP good, everything else off (R399). -/
def Clocks.reset : Clocks :=
  { sources := [(2, .counting 0), (4, .counting 0), (5, .counting 0)], refAFrom := 0, stepped := [], keeperDiv := 1, waiting := [], pllTrip := []
    slackAt := 0, replicas := [], replicaAt := [], replicasOut := [], slackHigh := false, easySince := 0, trimGood := 0, trimAt := 0
    trimStale := false, closed := [] }

/-! ### Chapter 19: precise sampling. The counters, their snapshots, filters and the sampler's settings stand in their objects -/

/-- A selected candidate whose record is being built (R497, R498): a request by number (kind 0), or a planned line of a feed stream
by stream and line number (kind 1). Times are the block's own; `cmd` is the first column command or the effect point, `dataAt` the
end of the DRAM part. -/
structure Building where
  kind : Nat
  id : Nat
  num : Nat
  issueNs : Nat
  began : Nat
  cmd : Option Nat
  dataAt : Option Nat
  addr : Nat
  tag : Nat
  stream : Nat
  seq : Nat
  cls : Nat
  ctx : Nat
  opcode : Nat
  source : Nat
  node : Nat
  flags : Nat
  channel : Nat
  /-- The request is Secure-world, or its line lies in a Secure range (R500). -/
  secure : Bool
  interval : Nat
  deriving DecidableEq, Repr

/-- A sample record in the ring (R497, R499). -/
structure Sample where
  seq : Nat
  bytes : List Byte
  secure : Bool
  deriving DecidableEq, Repr

/-- The sampler of a node (R495–R500). -/
structure Sampler where
  lfsr : Nat
  countdown : Nat
  /-- The interval that the countdown was loaded with. -/
  interval : Nat
  building : List Building
  /-- The ring, oldest first: at most 4,096 records. -/
  ring : List Sample
  /-- A record has been dropped since the last one was written. -/
  dropped : Bool
  deriving DecidableEq, Repr

/-- The sampler at power-on reset (R496, R500): seed 1, k = 16, j = 0. -/
def Sampler.reset : Sampler := ⟨1, 65536, 65536, [], [], false⟩

/-! ### The NVM and the fuses, which survive every reset (R428, R467) -/

/-- The serial NOR flash (R466–R470): its records by content, and the copies of each record area. -/
structure Nvm where
  usable : Bool
  /-- Copies of each record area: 0 map, 1 persisted objects, 2 event mirror, 3 shutdown record, 4 owner record,
  5 certificates, 6 repair log, 0x100 + c training record of channel c. -/
  areas : Store RecordArea
  /-- Persisted object values, by object key (R468). -/
  persisted : Store Nat
  /-- Keys the persisted record lists. -/
  persistedKeys : List Nat
  /-- Persisted writes gathered and not yet written, and when the first came (R469). -/
  gather : List PersistWrite
  gatherAt : Nat
  /-- The gathered writes are due: 1 s has passed. -/
  gatherDue : Bool
  /-- The event mirror, oldest first (R459). -/
  mirror : List LogEntry
  /-- The repair log as it stands in NVM, oldest first (R263). -/
  repairs : List (Nat × Nat)
  /-- The certificates of both chains (R374), as their DER bytes. -/
  certEc : List Byte
  certMl : List Byte
  owner : OwnerRecord
  /-- The shutdown record (R293). -/
  shutdown : List Byte
  /-- Training records by channel, 512 bytes each, byte 0 lowest (R315). -/
  training : Store Nat
  /-- Channels whose training record is due to be written (R316). -/
  trainDue : List Nat
  /-- Firmware staging slot: its 4 KiB sectors by number, each as a number, byte 0 lowest; none is an erased sector (R467). -/
  staging : Store (Option Nat)
  /-- Firmware active slot, likewise. -/
  activeSlot : Store (Option Nat)
  deriving DecidableEq, Repr

/-- A blank flash: no record written. -/
def Nvm.reset : Nvm :=
  { usable := false, areas := [], persisted := [], persistedKeys := [], gather := [], gatherAt := 0, gatherDue := false
    mirror := [], repairs := [], certEc := [], certMl := [], owner := .none
    shutdown := []
    training := []
    trainDue := []
    staging := []
    activeSlot := [] }

/-- What the node sends: the oldest first in `State.out`. -/
inductive Output where
  /-- The response to a dictionary request (R441, R442). -/
  | response (r : Req) (a : Answer)
  /-- A parcel that leaves Headland port h (R338). -/
  | parcel (h : Nat) (p : Parcel)
  /-- A NOTIFY frame to an address (R457). -/
  | notify (dest : Nat) (e : LogEntry)
  /-- A HEARTBEAT to an address, with its 32-byte payload (R452). -/
  | heartbeat (dest : Nat) (payload : List Byte)
  /-- A sideband notice on Headland port h: 0 retraining, 1 link up, 2 warm reset (R332, R344). -/
  | sideband (h : Nat) (code : Nat)
  /-- A DATA or STATUS beat to a tile feed port or real-time port (R105, R107, R217). -/
  | completion (port : Port) (stream seq core status : Nat) (data : Option Nat)
  /-- A FEED beat on tile feed port t (R105): stream, tile SRAM address, the halves that are valid with their data, poison,
  and the fence bit. -/
  | feed (t n address : Nat) (h0 h1 : Option Nat) (poison fence : Bool)
  /-- A CREDIT beat (R102, R105). -/
  | credit (t n amount : Nat)
  /-- A FENCED beat (R105, R118). -/
  | fenced (t n cause position : Nat)
  /-- A request to the far-tier devices (R350): read or write of a bale. -/
  | bale (write : Bool) (device number : Nat)
  deriving DecidableEq, Repr

/-! ### The state -/

/-- The state of a node. -/
structure State where
  /-- Time, in ticks of 1/12 ns. -/
  now : Nat
  /-- What silicon, ROM and fuses fix. -/
  cfg : Cfg
  /-- Power states, reset and start-up. -/
  power : Power
  /-- The control processors. -/
  procs : Procs
  /-- Straps, inputs and outputs. -/
  pins : Pins
  /-- The test wrapper. -/
  wrap : Wrapper
  /-- Object values in force, keyed by 256·index + subindex; an unlisted one has its table's default. -/
  obj : Store Nat
  /-- Management link, event log, notifications, window. -/
  mgmt : Mgmt
  /-- Headland ports and the set. -/
  hl : Headland
  /-- The DRAM layers and the cells they hold. -/
  dram : Dram
  /-- Worlds, keys and attestation. -/
  sec : Security
  /-- The security fuses. -/
  fuses : Fuses
  /-- The NVM. -/
  nvm : Nvm
  /-- The model's own counter of free values taken. -/
  free : Nat
  /-- Everything the node has sent, oldest first. -/
  out : List Output
  /-- The commands that wait, first in, first out. -/
  pending : List Instr
  /-- Plans, tides and derates. -/
  plans : Plans
  /-- Stream engines, feed ports and escape pools. -/
  feeds : Feeds
  /-- Channels, open path, journal, recovery and repair. -/
  path : Path
  /-- The shared cache, reductions and waits. -/
  cache : Cache
  /-- The far-tier port. -/
  far : Far
  /-- Synchronisation objects by number (R174). -/
  syncs : Store Nat
  /-- Temperatures, levels and trips. -/
  heat : Heat
  /-- Training of each channel. -/
  train : Store Train
  /-- Clock sources and slack. -/
  clk : Clocks
  /-- Firmware update. -/
  upd : Update
  /-- The precise sampler. -/
  sampler : Sampler
  deriving DecidableEq, Repr

/-- Why a step stops with a fault. -/
inductive Fault where
  /-- The command names a unit that the silicon does not hold (R19, R22): raised by every meaning that takes an
  instance number. Safe: the machine stops where no such hardware exists to go on. -/
  | absentUnit
  deriving DecidableEq, Repr

/-- Why a step refuses a command. -/
inductive Refusal where
  /-- The command has no meaning in this model yet: raised by the arms of Dispatch only. Safe: the machine stops. -/
  | notModelled (mnemonic : String)
  deriving DecidableEq, Repr

/-- The node right after a power-on reset (R413, R427, R428): VKEEP good, in BOOT, nothing received yet (DESIGN CHOICE, log 3). -/
def State.reset : State :=
  {
    now := 0
    cfg := ⟨4, 0, 0, 0, 0, 0⟩
    power := .reset
    procs := .reset
    pins := .reset
    wrap := .reset
    obj := []
    mgmt := .reset
    hl := .reset
    dram := .reset
    sec := .reset
    fuses := ⟨1, true, 0, 0, false⟩
    nvm := .reset
    free := 0
    out := []
    pending := []
    plans := .reset
    feeds := .reset
    path := .reset
    cache := .reset
    far := .reset
    syncs := []
    heat := .reset
    train := []
    clk := .reset
    upd := .reset
    sampler := .reset
  }

end Sys2Proof.Machine
end

