-- ==== Sys2Proof/Machine/Ops.lean ====
section
/-!
DEFINITION. The named operations every meaning is built from: time, object values, answers, and the one operation that
raises an event (R454–R459, R464, R558).
-/
namespace Sys2Proof.Machine

/-- The outcome of a meaning. -/
abbrev Res := Host.Outcome State Fault Refusal

/-- A meaning that applies to an instance the silicon holds, and faults for any other (R19, R20). (DESIGN CHOICE, log 8) -/
def present (p : Bool) (s : State) : Res := if p then .next s else .fault .absentUnit

/-! ### Time -/

/-- Ticks in a nanosecond. -/
def nsT : Nat := 12
/-- Ticks in a millisecond. -/
def msT : Nat := 12000000
/-- Ticks in a second. -/
def secT : Nat := 12000000000
/-- Ticks in a slot of 4 ck (R3). (DEDUCED, log 53) -/
def slotT : Nat := 20
/-- Ticks in a plan frame of 1,024 slots (R3). (DEDUCED, log 53) -/
def frameT : Nat := 20480

/-- Set time in ticks (R342): it runs at 1 + rate·10⁻⁹ from its last correction. -/
def State.setTicks (s : State) : Nat :=
  s.hl.set.timeBase + (s.now - s.hl.set.timeAt) * (1000000000 + s.hl.set.rate).toNat / 1000000000

/-- Set time in ns; before formation the Keeper timebase since the last reset (R454). -/
def State.setNs (s : State) : Nat :=
  if s.hl.set.timeSet then s.setTicks / nsT else (s.now - s.power.resetAt) / nsT

/-- The Keeper's own timebase, ns since the last reset. -/
def State.keeperNs (s : State) : Nat := (s.now - s.power.resetAt) / nsT

/-- Whether `t` ticks have passed since time `from_`. (DESIGN CHOICE, log 2) -/
def State.elapsed (s : State) (from_ t : Nat) : Bool := decide (from_ + t ≤ s.now)

/-! ### Free values -/

/-- A free value of `w` bits: nothing constrains it (the model's counter only tells one from the next). (DESIGN CHOICE, log 5) -/
def State.freeValue (s : State) (w : Nat) : Nat := (Config.freeValue s.free).toNat % 2 ^ w

/-- The state after a free value has been taken. (DESIGN CHOICE, log 5) -/
def State.takeFree (s : State) : State := { s with free := s.free + 1 }

/-! ### Object values -/

/-- The stored value of an object. -/
def State.ob (s : State) (idx sub : Nat) : Nat := look (objDefault (objKey idx sub)) (objKey idx sub) s.obj

/-- Store a value in an object. -/
def State.setOb (s : State) (idx sub v : Nat) : State :=
  { s with obj := put (objDefault (objKey idx sub)) (objKey idx sub) v s.obj }

/-- Add to a counter object, wrapping at its type's width. -/
def State.bumpBy (s : State) (idx sub n : Nat) : State :=
  s.setOb idx sub ((s.ob idx sub + n) % 2 ^ objWidth (objKey idx sub))

/-- Count one occurrence in a counter object. -/
def State.bump (s : State) (idx sub : Nat) : State := s.bumpBy idx sub 1

/-- Raise a peak object to a value. -/
def State.peak (s : State) (idx sub v : Nat) : State := if s.ob idx sub < v then s.setOb idx sub v else s

/-! ### Outputs and pins -/

/-- Send something. -/
def State.send (s : State) (o : Output) : State := { s with out := s.out ++ [o] }

/-- Reduced mode (R554). -/
def State.reduced (s : State) : Bool := s.pins.powerWarn.value == 1

/-- sv_alive: high in READY and RUN only (R417). -/
def State.alive (s : State) : Bool := s.power.node == .ready || s.power.node == .run

/-- This node's number, from the straps (R29, R552). -/
def State.me (s : State) : Nat := s.pins.nodeId

/-- N, the size of the set, from the straps (R326). -/
def State.setNodes (s : State) : Nat := s.pins.setSize + 1

/-- Data and spare channels of the node (R16). -/
def State.channels (s : State) : Nat := 72 * s.cfg.nstacks

/-- The code of a node state (R413). -/
def NodeState.code : NodeState → Nat
  | .off => 0 | .boot => 1 | .recovery => 2 | .config => 3 | .ready => 4 | .run => 5 | .rest => 6 | .deep => 7
  | .halted => 8

/-! ### Raising an event -/

/-- Whether an event is masked under R456. ALARM events cannot be. -/
def State.masked (s : State) (code : Nat) : Bool :=
  severityOf code != .alarm && (s.ob (0x1080 + (code / 4096 - 1)) (code % 256 / 64 + 1)).testBit (code % 64)

/-- The rate limit of a code: window in ns and scope key (R558). (DEDUCED, log 31) -/
def limitOf (code inst : Nat) : Option (Nat × Nat) :=
  match rateLimits.find? fun r => r.1 == code with
  | some (_, w, nodeScope) => some (w / nsT, if nodeScope then 0xFFFF else inst)
  | none => none

/-- The limiter of a code and scope. (DEDUCED, log 31) -/
def findLimiter (code scope : Nat) (ls : List Limiter) : Option Limiter :=
  ls.find? fun l => l.code == code && l.scope == scope

/-- Replace or add the limiter of a code and scope. -/
def setLimiter (l : Limiter) (ls : List Limiter) : List Limiter :=
  l :: ls.filter fun m => !(m.code == l.code && m.scope == l.scope)

/-- A log entry as it is read outside an owner session: Secure fields cleared (R369). -/
def LogEntry.forOthers (e : LogEntry) : LogEntry :=
  if e.secure then { e with detail := 0, cleared := true } else e

/-- The 32 bytes of a log entry (R454). -/
def LogEntry.bytes (e : LogEntry) : List Byte :=
  leBytes 8 e.time ++ leBytes 4 e.seq ++ leBytes 2 e.code ++
  leBytes 1 (e.sev + 4 * b2n e.cleared + 8 * b2n e.mirrored) ++ leBytes 1 e.node ++ leBytes 2 e.inst ++
  leBytes 2 e.suppressed ++ leBytes 1 e.ctx ++ zeroBytes 3 ++ leBytes 8 e.detail

/-- Place a log entry in the window's ring (R464): when full, an entry below ALARM is dropped, and an ALARM replaces the
oldest entry below ALARM; either way one is counted. -/
def ringPlace (e : LogEntry) (s : State) : State :=
  let w := s.mgmt.window
  if w.ring.length < 64 then { s with mgmt := { s.mgmt with window := { w with ring := w.ring ++ [e.forOthers] } } }
  else if e.sev < 3 then s.bump 0x1060 3
  else match w.ring.findIdx? fun x => decide (x.sev < 3) with
    | some i =>
      ({ s with mgmt := { s.mgmt with window := { w with ring := w.ring.eraseIdx i ++ [e.forOthers] } } }).bump 0x1060 3
    | none => s.bump 0x1060 3

/-- The address notification queue n sends to: subscriber n for 1 to 4, the heartbeat destination for 5 (R457, R458). -/
def State.notifyDest (s : State) (n : Nat) : Nat :=
  if n = 5 then s.ob 0x1020 2 else s.ob 0x1050 n % 2 ^ 48

/-- Send a NOTIFY and count the frame. -/
def sendNotify (n : Nat) (e : LogEntry) (s : State) : State :=
  (s.send (.notify (s.notifyDest n) e.forOthers)).bump 0x1010 0x0A

/-- Queue a notification for subscriber n (R457): sent at once when none is outstanding, otherwise waiting; past 64, the
oldest waiting notification below ALARM is dropped and counted. -/
def notifyQueue (n : Nat) (e : LogEntry) (s : State) : State :=
  let q := look .reset n s.mgmt.notify
  let setQ (q' : NotifyQueue) (s : State) : State :=
    { s with mgmt := { s.mgmt with notify := put .reset n q' s.mgmt.notify } }
  match q.outstanding with
  | none => sendNotify n e (setQ { q with outstanding := some e, tries := 1, sentAt := s.now } s)
  | some _ =>
    let w := q.waiting ++ [e]
    if w.length ≤ 64 then setQ { q with waiting := w } s
    else match w.findIdx? fun x => decide (x.sev < 3) with
      | some i => (setQ { q with waiting := w.eraseIdx i } s).bump 0x1050 6
      | none => setQ { q with waiting := w } s

/-- Notify every subscriber whose minimum severity a log entry meets; an ALARM goes to all, or to the heartbeat destination
when there is none (R457, R458). -/
def notifyAll (e : LogEntry) (s : State) : State :=
  let subs := [1, 2, 3, 4].filter fun n =>
    s.ob 0x1050 n % 2 ^ 48 != 0 && (e.sev == 3 || decide (bits 49 48 (s.ob 0x1050 n) ≤ e.sev))
  if subs.isEmpty && e.sev == 3 && [1, 2, 3, 4].all (fun n => s.ob 0x1050 n % 2 ^ 48 == 0) then notifyQueue 5 e s
  else forEach subs (fun n => notifyQueue n e) s

/-- The record of an area can be written: usable flash, and a copy of the area still in use (R466, R470). -/
def State.canRecord (s : State) (area : Nat) : Bool :=
  s.nvm.usable && !((look .reset area s.nvm.areas).failedA && (look .reset area s.nvm.areas).failedB)

/-- Whether an entry may be mirrored now (R459): not in reduced mode, the mirror's record can be written, and fewer than 10 in the
1 s of set time before it. -/
def State.mayMirror (s : State) (time : Nat) : Bool :=
  !s.reduced && s.canRecord 2 && decide ((s.mgmt.mirrorTimes.filter fun t => decide (time < t + 1000000000)).length < 10)

/-- Write an entry to the log, the mirror, the notifications and the ring (R455, R457–R459, R464). -/
def logEntry (e : LogEntry) (s : State) : State :=
  let s := s.bump 0x1040 2
  let s := if s.mgmt.log.length < 1024 then s else s.bump 0x1040 6
  let m := decide (1 ≤ e.sev) && s.mayMirror e.time
  let e := { e with mirrored := m }
  let s := if decide (1 ≤ e.sev) && !m then s.bump 0x1041 4 else s
  let s := if m then
      { s with nvm := { s.nvm with mirror := pushLast 256 e s.nvm.mirror }
               mgmt := { s.mgmt with mirrorTimes := pushLast 10 e.time s.mgmt.mirrorTimes } }
    else s
  let s := { s with mgmt := { s.mgmt with
    log := pushLast 1024 e s.mgmt.log
    sinceBeat := some (max e.sev (s.mgmt.sinceBeat.getD 0)) } }
  let s := notifyAll e s
  let s := if decide (s.ob 0x1060 2 ≤ e.sev) then ringPlace e s else s
  if e.sev = 3 then { s with pins := { s.pins with alarm := true } } else s

/-- Log an event unless it is masked (R456) or suppressed by its rate limit (R558). -/
def logEvent (e : Event) (s : State) : State :=
  if s.masked e.code then s.bump 0x1040 7
  else
    let entry (supp : Nat) : LogEntry :=
      { time := e.time, seq := s.ob 0x1040 2, code := e.code, sev := (severityOf e.code).code, secure := e.secure
        cleared := false, mirrored := false, node := s.me, inst := e.inst, suppressed := min supp 0xFFFF, ctx := e.ctx
        detail := e.detail }
    match limitOf e.code e.inst with
    | none => logEntry (entry 0) s
    | some (w, scope) =>
      match findLimiter e.code scope s.mgmt.limiters with
      | some l =>
        if e.time < l.last + w then
          { s with mgmt := { s.mgmt with
              limiters := setLimiter { l with suppressed := l.suppressed + 1 } s.mgmt.limiters } }
        else logEntry (entry l.suppressed)
          { s with mgmt := { s.mgmt with limiters := setLimiter ⟨e.code, scope, e.time, 0⟩ s.mgmt.limiters } }
      | none => logEntry (entry 0)
          { s with mgmt := { s.mgmt with limiters := setLimiter ⟨e.code, scope, e.time, 0⟩ s.mgmt.limiters } }

/-- Raise an event (R454): logged at once, or staged while the Keeper restarts (R26); no Keeper runs in OFF. -/
def raiseEvent (e : Event) (s : State) : State :=
  if s.power.node = .off then s
  else if s.procs.keeper.restart.isSome then
    if s.procs.staged.length < 64 then { s with procs := { s.procs with staged := s.procs.staged ++ [e] } }
    else ({ s with procs := { s.procs with stagedLost := s.procs.stagedLost + 1 } }).bump 0x1040 8
  else logEvent e s

/-- Raise an event of an instance with a detail; no context, not Secure. (DEDUCED, log 31) -/
def raise (code inst detail : Nat) (s : State) : State :=
  raiseEvent ⟨code, inst, 0xFF, detail, false, s.setNs⟩ s

/-- Raise an event of the node. -/
def raiseNode (code detail : Nat) (s : State) : State := raise code 0xFFFF detail s

/-- Raise an event that concerns a context. -/
def raiseCtx (code inst ctx detail : Nat) (s : State) : State :=
  raiseEvent ⟨code, inst, ctx, detail, false, s.setNs⟩ s

/-- Raise an event that concerns an address of a range of the given world (R369). -/
def raiseAt (code inst detail : Nat) (secure : Bool) (s : State) : State :=
  raiseEvent ⟨code, inst, 0xFF, detail, secure, s.setNs⟩ s

/-! ### Status codes (R10) -/

namespace St
abbrev ok : Nat := 0
abbrev okLate : Nat := 1
abbrev retry : Nat := 2
abbrev denied : Nat := 3
abbrev poisoned : Nat := 4
abbrev unreachable : Nat := 5
abbrev aborted : Nat := 6
abbrev unitOff : Nat := 7
end St

/-! ### Answering dictionary requests (R441–R443) -/

/-- The source's log with transaction `num` set to an answer, newest source last, 16 sources and 16 transactions kept. (DEDUCED, log 11) -/
def recordTxn (src : Source) (num : Nat) (a : Option Answer) (l : List SourceLog) : List SourceLog :=
  let old := match l.find? fun e => e.src == src with | some e => e.txns | none => []
  pushLast 16 ⟨src, pushLast 16 ⟨num, a⟩ (old.filter fun t => t.num != num)⟩ (l.filter fun e => e.src != src)

/-- The remembered transaction of a request, if it is a repeat (R443). -/
def State.findTxn (s : State) (r : Req) : Option Txn :=
  match s.mgmt.sources.find? fun e => e.src == r.src with
  | some e => e.txns.find? fun t => t.num == r.txn
  | none => none

/-- What carries a request: the peer of a secured session, or the source itself (R377, R462). -/
def State.carrier (s : State) (src : Source) : Source :=
  match src with
  | .session id => match s.sec.sessions.find? fun x => x.id == id with | some x => x.peer | none => src
  | _ => src

/-- The response message of the window (R440, R463): op, index, subindex and offset echo the request's. -/
def responseBytes (req : List Byte) (r : Req) (a : Answer) : List Byte :=
  leBytes 1 (0x18 + 4 * b2n a.more) ++ sliceBytes 1 1 req ++ leBytes 2 r.txn ++ zeroBytes 1 ++ leBytes 1 (a.status + 16 * a.detail) ++
  sliceBytes 6 4 req ++ leBytes 2 a.data.length ++ sliceBytes 12 4 req ++ a.data

/-- Send a response, counting the frame; on the window it is placed in the response buffer (R463). -/
def sendResponse (r : Req) (a : Answer) (s : State) : State :=
  match s.carrier r.src with
  | .window =>
    let w := s.mgmt.window
    ({ s with mgmt := { s.mgmt with window := { w with rspBuf := responseBytes w.reqBuf r a, ready := true } } }).send (.response r a)
  | .mac _ => (s.send (.response r a)).bump 0x1010 0x0A
  | .session _ => s.send (.response r a)

/-- Answer a request and remember the answer (R443). -/
def respond (r : Req) (a : Answer) (s : State) : State :=
  sendResponse r a { s with mgmt := { s.mgmt with sources := recordTxn r.src r.txn (some a) s.mgmt.sources } }

/-- Answer with a status and no data. -/
def answer (r : Req) (status detail : Nat) (s : State) : State := respond r ⟨status, detail, [], none, false⟩ s

/-- A domain crossing is closed (R409): 512 + u the crossing of sheaf u, 768 + h of a Headland adapter, 800 of the far tier. -/
def State.crossingShut (s : State) (n : Nat) : Bool := s.clk.closed.contains n

/-! ### Owner sessions -/

/-- Whether a request is made inside an owner session (R368, R369, R378). -/
def State.isOwner (s : State) (r : Req) : Bool :=
  match r.src with
  | .session id => s.sec.sessions.any fun x => x.id == id && x.owner
  | _ => false

/-- Whether a request is made inside any secured session. -/
def State.inSession (s : State) (r : Req) : Bool :=
  match r.src with
  | .session id => s.sec.sessions.any fun x => x.id == id && x.finished
  | _ => false

/-! ### Continuity (R87) -/

def State.setPlans (s : State) (p : Plans) : State := { s with plans := p }

/-- A cause breaks the continuity of the active plan: raised once per cause. 0 halt at T_emerg, 1 HALTED, 2 node lost, 3 a derate of
a collective context. -/
def breakContinuity (cause : Nat) (s : State) : State :=
  if s.ob 0x2204 3 = 1 && !s.plans.broken.contains cause then
    raiseNode Ev.continuityBreak cause (s.setPlans { s.plans with broken := cause :: s.plans.broken })
  else s

end Sys2Proof.Machine
end

