-- ==== Sys2Proof/Machine/Count.lean ====
section
/-!
DEFINITION. Counter banks with their filters, and the precise sampler (chapter 19, R486–R500).
-/
namespace Sys2Proof.Machine

/-! ### What caused an occurrence (R489) -/

/-- The request, or the planned line, that caused an occurrence: class (none for a planned line), world, port kind and index, the
node it entered the set at, and its line (none for SYNC). -/
structure Cause where
  cls : Option Nat
  world : Bool
  kind : Nat
  index : Nat
  origin : Nat
  line : Option Nat
  deriving DecidableEq, Repr

/-- The request opcode (R217). -/
def opCode : Op → Nat
  | .read => 1 | .write _ _ => 2 | .atomic .. => 3 | .reduce _ _ => 4 | .sync _ _ _ => 5 | .widen _ _ => 6 | .put _ _ => 2

/-- Port kind and index of a header (R323). -/
def portKindOf : Port → Nat
  | .tile _ => 0 | .rt _ => 1 | .unit _ => 2 | .headland _ h => h.portKind
def portIndexOf : Port → Nat
  | .tile t => t | .rt p => p | .unit k => k | .headland _ h => h.portIndex

/-- The node at which a request entered the set. -/
def State.originOf (s : State) : Port → Nat
  | .headland _ h => h.origin
  | _ => s.me

/-- The line of an address. -/
def lineStart (a : Nat) : Nat := a / 128 * 128

/-- The cause an open request is. -/
def State.askCause (s : State) (q : Ask) : Cause :=
  { cls := some q.side.cls, world := q.side.world, kind := portKindOf q.side.port, index := portIndexOf q.side.port
    origin := s.originOf q.side.port, line := match q.op with | .sync _ _ _ => none | _ => some (lineStart q.addr) }

/-- The cause a request of a given number is; a unit's own work (the Steward's, DESIGN CHOICE) when it is gone. (DEDUCED, log 48) -/
def State.idCause (s : State) (id a : Nat) : Cause :=
  match s.path.asks.find? fun q => q.id == id with
  | some q => s.askCause q
  | none => ⟨some 0, false, 2, 1, s.me, some (lineStart a)⟩

/-- The work of a block-internal unit on a line that no request asked for. -/
def State.unitCause (s : State) (code a : Nat) (world : Bool) : Cause := ⟨some 0, world, 2, code, s.me, some (lineStart a)⟩

/-- The cause a planned line of a stream is. -/
def State.planCause (s : State) (n a : Nat) : Cause :=
  let world := match (s.feeds.streams ++ s.feeds.old).find? fun p => p.1 == n with | some p => p.2.desc.world | none => false
  ⟨none, world, 2, 0x40 + n / 64, s.me, some (lineStart a)⟩

/-- Whether a cause matches a filter word and range. -/
def Cause.matches_ (c : Cause) (word base limit : Nat) : Bool :=
  (match c.cls with | some l => word.testBit (48 + l) | none => bits 63 48 word == 0xFFFF) &&
  (if c.world then word.testBit 47 else word.testBit 46) &&
  (!word.testBit 45 || (c.kind == bits 43 42 word && c.index == bits 41 34 word)) &&
  (!word.testBit 44 || (match c.line with
    | some a => decide (base ≤ a) && decide (a ≤ limit)
    | none => base == 0 && limit == 0x1FFFFFFFFFFF80)) &&
  (!word.testBit 30 || c.origin == bits 33 31 word)

/-! ### Counters (R486, R487) -/

/-- The banks: channel c, stream engine e, widen/narrow unit u, cache slice x, Headland port h, the far-tier port and the
Breakwater. -/
def chanBank (c : Nat) : Nat := 0x7400 + c
def engineBank (e : Nat) : Nat := 0x7600 + e
def unitBank (u : Nat) : Nat := 0x7680 + u
def sliceBank (x : Nat) : Nat := 0x76C0 + x
def headlandBank (h : Nat) : Nat := 0x76E0 + h
def farBank : Nat := 0x76F0
def breakwaterBank : Nat := 0x76F8

/-- Counters of each bank, with its first index and how many banks there are. -/
def bankKinds : List (Nat × Nat × Nat) :=
  [(0x7400, 288, 16), (0x7600, 64, 8), (0x7680, 32, 6), (0x76C0, 32, 9), (0x76E0, 4, 7), (0x76F0, 1, 7), (0x76F8, 1, 9)]

/-- Every bank of a node: its index and how many counters it has. Banks of units that the silicon does not hold are not listed. -/
def State.banks (s : State) : List (Nat × Nat) :=
  let chans := (List.range s.channels).map fun c => (0x7400 + c, 16)
  let per (base n k : Nat) : List (Nat × Nat) := (List.range n).map fun i => (base + i, k)
  chans ++ per 0x7600 (16 * s.cfg.nstacks) 8 ++ per 0x7680 (8 * s.cfg.nstacks) 6 ++ per 0x76C0 16 9 ++ per 0x76E0 4 7 ++
    [(0x76F0, 7), (0x76F8, 9)]

/-- The value of a counter after n more occurrences: 48 bits, with the sticky bit once it has wrapped. -/
def counterPlus (v n : Nat) : Nat :=
  let t := v % 2 ^ 48 + n
  t % 2 ^ 48 + (if v.testBit 63 || decide (2 ^ 48 ≤ t) then 2 ^ 63 else 0)

/-- Count n occurrences in counter j of bank b, whatever its filter. -/
def count (b j n : Nat) (s : State) : State := if n = 0 then s else s.setOb b (0x10 + j) (counterPlus (s.ob b (0x10 + j)) n)

/-- Count n occurrences with a cause in a filtered counter (R489). (DEDUCED, log 48) -/
def countIf (b j n : Nat) (c : Cause) (s : State) : State :=
  if c.matches_ (s.ob b 1) (s.ob b 2) (s.ob b 3) then count b j n s else s

/-- Set every counter of a bank to 0 (R491). -/
def clearBank (b n : Nat) (s : State) : State := forEach (List.range n) (fun j s => s.setOb b (0x10 + j) 0) s

/-- The counters of a bank whose sticky bit is set. -/
def State.stickyMap (s : State) (b : Nat) : Nat :=
  (List.range 16).foldl (fun m j => if (s.ob b (0x10 + j)).testBit 63 then m + 2 ^ j else m) 0

/-- A filter word's rsvd field is 0 (R490). -/
def filterOk (w : Nat) : Bool := bits 29 0 w == 0

/-! ### The sampler (R495–R500) -/

def State.setSampler (s : State) (x : Sampler) : State := { s with sampler := x }

/-- The control word of the sampler: 0x7100:01. -/
def State.sampleControl (s : State) : Nat := s.ob 0x7100 1

/-- One step of the LFSR. -/
def lfsrStep (x : Nat) : Nat := if x.testBit 0 then (x / 2) ^^^ 0x80200003 else x / 2

/-- The next interval and LFSR state. -/
def nextInterval (control lfsr : Nat) : Nat × Nat :=
  let k := bits 4 0 control
  let j := bits 9 5 control
  if j = 0 then (2 ^ k, lfsr)
  else let l := lfsrStep lfsr; (2 ^ k - 2 ^ (j - 1) + l % 2 ^ j, l)

/-- Load the LFSR from the seed and the countdown with an interval (R496). (DEDUCED, log 48) -/
def loadSampler (s : State) : State :=
  let seed := (s.ob 0x7100 5 ^^^ (s.me * 2 ^ 24)) % 2 ^ 32
  let r := nextInterval s.sampleControl (if seed = 0 then 1 else seed)
  s.setSampler { s.sampler with lfsr := r.2, countdown := r.1, interval := r.1 }

/-- A candidate of a population (its control bit) passes; the one that brings the countdown to 0 is selected. (DEDUCED, log 48) -/
def candidate (population : Nat) (c : Cause) (mk : State → Building) (s : State) : State :=
  let w := s.sampleControl
  if !w.testBit population || !c.matches_ (s.ob 0x7100 2) (s.ob 0x7100 3) (s.ob 0x7100 4) then s
  else
    let s := s.setOb 0x7100 0x0D ((s.ob 0x7100 0x0D + 1) % 2 ^ 64)
    let x := s.sampler
    if !w.testBit 14 then s
    else if 1 < x.countdown then s.setSampler { x with countdown := x.countdown - 1 }
    else
      let r := nextInterval w x.lfsr
      let s := s.setOb 0x7100 0x0E ((s.ob 0x7100 0x0E + 1) % 2 ^ 64)
      s.setSampler { x with lfsr := r.2, countdown := r.1, interval := r.1, building := x.building ++ [{ mk s with interval := x.interval }] }

/-- The record of a request to be built: what is known when it is accepted. `channel` serves the line, 511 for none. (DEDUCED, log 48) -/
def askSample (q : Ask) (channel : Nat) (seald secure : Bool) (s : State) : Building :=
  let remote := match q.side.port with | .headland _ _ => true | _ => false
  let sync := match q.op with | .sync _ _ _ => true | _ => false
  { kind := 0, id := q.id, num := 0, issueNs := s.setNs, began := s.now, cmd := none, dataAt := none
    addr := if sync then 0 else lineStart q.addr, tag := q.side.tag, stream := q.side.stream, seq := q.side.seq
    cls := q.side.cls % 16 + 16 * (q.rank % 8), ctx := q.side.ctx % 64 + 64 * b2n q.side.world, opcode := opCode q.op
    source := 256 * portKindOf q.side.port + portIndexOf q.side.port % 256, node := s.originOf q.side.port
    flags := 2 * b2n remote + 16 * b2n seald, channel := channel, secure := q.side.world || secure, interval := 0 }

/-- The record of a planned line: `lag` slots have passed since the own slot that nominally carried it. A line of a drain stream
goes by the request that holds its journal entry. -/
def planSample (drain : Bool) (n id a instr place context : Nat) (world : Bool) (lag channel : Nat) (seald secure : Bool) (s : State) :
    Building :=
  { kind := if drain then 0 else 1, id := if drain then id else n, num := if drain then 0 else id
    issueNs := s.setNs - lag * slotT / nsT, began := s.now - lag * slotT, cmd := none, dataAt := none
    addr := lineStart a, tag := instr % 2 ^ 12 * 2 ^ 16 + place % 2 ^ 16, stream := n, seq := 0, cls := 0
    ctx := context % 64 + 64 * b2n world, opcode := if drain then 2 else 1, source := 2 * 256 + 0x40 + n / 64, node := s.me
    flags := 1 + 16 * b2n seald, channel := channel, secure := world || secure, interval := 0 }

/-- Change the record being built for a candidate. -/
def modBuilding (kind id num : Nat) (f : Building → Building) (s : State) : State :=
  if s.sampler.building.isEmpty then s
  else s.setSampler { s.sampler with building := s.sampler.building.map fun b =>
    if b.kind == kind && b.id == id && b.num == num then f b else b }

/-- A column command has issued for a candidate: queue time ends at the first. -/
def sampleCmd (kind id num : Nat) (s : State) : State :=
  modBuilding kind id num (fun b => { b with cmd := some (b.cmd.getD s.now) }) s

/-- Data read for a candidate has passed its check: DRAM time ends at the last. -/
def sampleData (kind id num : Nat) (s : State) : State := modBuilding kind id num (fun b => { b with dataAt := some s.now }) s

/-- A request has its completion: what has not ended by then ends at its effect point (R498). -/
def sampleEffect (id : Nat) (s : State) : State :=
  modBuilding 0 id 0 (fun b => { b with cmd := some (b.cmd.getD s.now), dataAt := some (b.dataAt.getD (b.cmd.getD s.now)) }) s

/-- Set a flag of a record (R497). -/
def sampleFlag (kind id num flag : Nat) (s : State) : State :=
  modBuilding kind id num (fun b => { b with flags := b.flags ||| 2 ^ flag }) s

/-- A time in picoseconds, saturated to 32 bits. -/
def psOf (ticks : Nat) : Nat := min (ticks * 1000 / nsT) (2 ^ 32 - 1)

/-- The 64 bytes of a sample record (R497) at delivery. -/
def Building.bytes (b : Building) (status seq now : Nat) (dropped : Bool) : List Byte :=
  let cmd := b.cmd.getD now
  let data := b.dataAt.getD cmd
  leBytes 8 b.issueNs ++ leBytes 8 b.addr ++ leBytes 4 b.tag ++ leBytes 2 b.stream ++ leBytes 2 b.seq ++
  leBytes 4 (psOf (cmd - b.began)) ++ leBytes 4 (psOf (data - cmd)) ++ leBytes 4 (psOf (now - data)) ++
  leBytes 1 status ++ leBytes 1 b.cls ++ leBytes 1 b.ctx ++ leBytes 1 b.opcode ++ leBytes 2 b.source ++ leBytes 1 b.node ++
  leBytes 1 (b.flags % 64 + 128 * b2n dropped) ++ leBytes 2 b.channel ++ zeroBytes 2 ++ leBytes 4 seq ++ leBytes 4 b.interval ++
  zeroBytes 8

/-- Records the ring holds (R499). -/
def ringSamples : Nat := 4096

/-- Write a record, or drop it where the ring is full and does not overwrite (R499). -/
def writeSample (b : Building) (status : Nat) (s : State) : State :=
  let x := s.sampler
  let full := decide (ringSamples ≤ x.ring.length)
  if full && !s.sampleControl.testBit 13 then s.bump 0x7100 0x0B |>.setSampler { x with dropped := true }
  else
    let s := if full then s.bump 0x7100 0x0C else s
    let seq := s.ob 0x7100 6
    let ring := (if full then x.ring.drop 1 else x.ring) ++ [⟨seq, b.bytes status seq s.now x.dropped, b.secure⟩]
    let s := s.setOb 0x7100 6 ((seq + 1) % 2 ^ 32)
    let s := s.setOb 0x7100 7 ((ring.head?.map (·.seq)).getD 0)
    s.setSampler { x with ring := ring, dropped := false }

/-- A selected request's completion has been delivered. -/
def sampleEnd (kind id num status : Nat) (s : State) : State :=
  match s.sampler.building.find? fun b => b.kind == kind && b.id == id && b.num == num with
  | none => s
  | some b =>
    let s := s.setSampler { s.sampler with building := s.sampler.building.filter fun d => !(d.kind == kind && d.id == id && d.num == num) }
    writeSample b status s

/-- A selected request that will never complete yields no record (R497). -/
def sampleGone (kind id num : Nat) (s : State) : State :=
  if s.sampler.building.isEmpty then s
  else s.setSampler { s.sampler with building := s.sampler.building.filter fun d => !(d.kind == kind && d.id == id && d.num == num) }

/-- Records being built at a warm reset are discarded and counted (R497). -/
def discardSamples (s : State) : State :=
  (s.bumpBy 0x7100 0x0B s.sampler.building.length).setSampler { s.sampler with building := [] }

/-- A record as it is read (R500): outside an owner session a Secure one shows 0 in address and origin, and flag [6]. -/
def Sample.shown (r : Sample) (owner : Bool) : List Byte :=
  if !r.secure || owner then r.bytes
  else sliceBytes 0 8 r.bytes ++ zeroBytes 12 ++ sliceBytes 20 23 r.bytes ++
    leBytes 1 (((r.bytes.getD 43 0).toNat) ||| 64) ++ sliceBytes 44 20 r.bytes

/-- The record of a sequence number, if it is held. -/
def State.sample? (s : State) (seq : Nat) : Option Sample := s.sampler.ring.find? fun r => r.seq == seq

end Sys2Proof.Machine
end

