-- ==== Sys2Proof/Machine/Hyrath.lean ====
section
/-!
DEFINITION. The Hyrath mesh (R321), its routes (R330), and the sending of parcels into a port's egress queues (R323–R325,
R331, R333). Everything a node sends to another goes through `sendParcel`.
-/
namespace Sys2Proof.Machine

/-! ### The mesh (R321) -/

/-- The column and row of a node. -/
def nodeX (n : Nat) : Nat := n % 4
def nodeY (n : Nat) : Nat := n / 4

/-- The node behind port h of node n in a set of N nodes, if it is a member position: h = 0 north, 1 east, 2 south,
3 west (R321). -/
def neighbour (setNodes n h : Nat) : Option Nat :=
  let m := match h with
    | 0 => if nodeY n = 1 then some (n - 4) else none
    | 1 => if nodeX n < 3 then some (n + 1) else none
    | 2 => if nodeY n = 0 then some (n + 4) else none
    | 3 => if 0 < nodeX n then some (n - 1) else none
    | _ => none
  match m with
  | some k => if k < setNodes then some k else none
  | none => none

/-- The port of the neighbour that faces back. -/
def opposite (h : Nat) : Nat := (h + 2) % 4

/-- The link-state code of port h of node n in a link-state word (R325): 0 unconnected, 1 up, 2 silent, 3 down. -/
def linkCode (links n h : Nat) : Nat := bits (8 * n + 2 * h + 1) (8 * n + 2 * h) links

/-- A link-state word with one code replaced. -/
def setLinkCode (links n h code : Nat) : Nat :=
  links - linkCode links n h * 2 ^ (8 * n + 2 * h) + code * 2 ^ (8 * n + 2 * h)

/-- Whether the link at port h of node n is up at both of its ends. -/
def linkUp (setNodes links n h : Nat) : Bool :=
  match neighbour setNodes n h with
  | some m => linkCode links n h == 1 && linkCode links m (opposite h) == 1
  | none => false

/-! ### Routes (R330) -/

/-- The port a base route from node o takes first toward node d. -/
def baseStep (o d : Nat) : Nat :=
  if nodeY d < nodeY o then 0
  else if nodeX o < nodeX d then 1
  else if nodeX d < nodeX o then 3
  else 2

/-- The base route from o to d as (node, port) pairs; at most 5 links. -/
def basePath (setNodes : Nat) : Nat → Nat → Nat → List (Nat × Nat)
  | 0, _, _ => []
  | k + 1, o, d =>
    if o = d then []
    else match neighbour setNodes o (baseStep o d) with
      | some m => (o, baseStep o d) :: basePath setNodes k m d
      | none => [(o, 9)]

/-- Whether a base route is up: every node and link of it, and no intermediate node in REST or DEEP. -/
def baseUp (setNodes links lost resting o d : Nat) : Bool :=
  let p := basePath setNodes 8 o d
  p.all (fun q => linkUp setNodes links q.1 q.2 && !lost.testBit q.1) &&
  (p.drop 1).all (fun q => !resting.testBit q.1) && !lost.testBit d

/-- One round of shortest distances to d over up links that avoid a set of nodes (a bit each); 99 is unreachable. -/
def distRound (setNodes links avoid d : Nat) (dist : List Nat) : List Nat :=
  (List.range 8).map fun n =>
    if n = d then 0
    else (List.range 4).foldl (fun best h =>
      match neighbour setNodes n h with
      | some m =>
        if linkUp setNodes links n h && (m == d || !avoid.testBit m) then min best (dist.getD m 99 + 1) else best
      | none => best) (dist.getD n 99)

/-- Shortest distances to d. -/
def distances (setNodes links avoid d : Nat) : List Nat :=
  (List.range 8).foldl (fun a _ => distRound setNodes links avoid d a) ((List.range 8).map fun n => if n = d then 0 else 99)

/-- The port of a shortest route from o to d: at each node the lowest port wins ties. -/
def detourStep (setNodes links avoid o d : Nat) : Option Nat :=
  let dist := distances setNodes links avoid d
  if 99 ≤ dist.getD o 99 then none
  else (List.range 4).find? fun h =>
    match neighbour setNodes o h with
    | some m => linkUp setNodes links o h && (m == d || !avoid.testBit m) && dist.getD m 99 + 1 == dist.getD o 99
    | none => false

/-- The detour from o to d: avoiding lost nodes, and resting ones where it can. -/
def detourPort (setNodes links lost resting o d : Nat) : Option Nat :=
  match detourStep setNodes links (lost ||| resting) o d with
  | some h => some h
  | none => detourStep setNodes links lost o d

/-- The links of a detour as directed links 4·node + port. -/
def detourPath (setNodes links lost resting : Nat) : Nat → Nat → Nat → List Nat
  | 0, _, _ => []
  | k + 1, o, d =>
    if o = d then []
    else match detourPort setNodes links lost resting o d with
      | some h => match neighbour setNodes o h with
        | some m => (4 * o + h) :: detourPath setNodes links lost resting k m d
        | none => []
      | none => []

/-- The pairs of consecutive elements of a list. -/
def consecutive : List Nat → List (Nat × Nat)
  | a :: b :: l => (a, b) :: consecutive (b :: l)
  | _ => []

/-- Whether a set of dependencies between directed links holds no cycle: links nothing depends on are removed round after
round until none is left. -/
def acyclic (deps : List (Nat × Nat)) : Bool :=
  ((List.range 32).foldl (fun ds _ => ds.filter fun p => ds.any fun q => q.1 == p.2) deps).isEmpty

/-- The detour routes of all nodes together hold no cycle of link dependencies. -/
def detoursSafe (setNodes links lost resting : Nat) : Bool :=
  acyclic ((List.range setNodes).flatMap fun o => (List.range setNodes).flatMap fun d =>
    if o == d || baseUp setNodes links lost resting o d then []
    else consecutive (detourPath setNodes links lost resting 8 o d))

/-- The route table entry of node d at node o: 4 local, a port, a port with bit 7 for a detour, or 0xFF unreachable. -/
def routeEntry (setNodes links lost resting o d : Nat) : Nat :=
  if setNodes ≤ d || lost.testBit d then 0xFF
  else if o = d then 4
  else if baseUp setNodes links lost resting o d then baseStep o d
  else if detoursSafe setNodes links lost resting then
    match detourPort setNodes links lost resting o d with
    | some h => 128 + h
    | none => 0xFF
  else 0xFF

/-- The route this node has to node d. -/
def State.route (s : State) (d : Nat) : Nat := look 0xFF d s.hl.set.routes

/-- Whether a route is usable. -/
def State.canReach (s : State) (d : Nat) : Bool := s.route d != 0xFF

/-! ### Ports -/

/-- Port h of this node. -/
def State.port (s : State) (h : Nat) : HPort := look .reset h s.hl.ports

/-- Change port h. -/
def State.setPort (s : State) (h : Nat) (p : HPort) : State :=
  { s with hl := { s.hl with ports := put .reset h p s.hl.ports } }

/-- Change the set's view. -/
def State.setSet (s : State) (v : SetView) : State := { s with hl := { s.hl with set := v } }

/-- The key of flow (origin, destination, class) (R333). -/
def flowKey (origin dest cls : Nat) : Nat := (origin * 8 + dest) * 16 + cls

/-- A flow's state. -/
def State.flow (s : State) (k : Nat) : Flow := look .reset k s.hl.flows

/-- Change a flow's state. -/
def State.setFlow (s : State) (k : Nat) (f : Flow) : State :=
  { s with hl := { s.hl with flows := put .reset k f s.hl.flows } }

/-- A header with every field 0, from which a kind's own fields are set (R323: an unused field is 0). -/
def Hdr.zero : Hdr :=
  { kind := 0, cls := 0, dest := 0, origin := 0, detour := false, world := false, len := 0, e2e := 0, hop := 0
    colour := 0, opcode := 0, context := 0, stream := 0, rseq := 0, portKind := 0, portIndex := 0, free := 0, tag := 0
    due := 0, line := 0 }

/-- The four words of a header as they are sent (R323). -/
def hdrWords (h : Hdr) : List Nat :=
  [h.kind * 2 ^ 60 + h.cls * 2 ^ 56 + h.dest * 2 ^ 53 + h.origin * 2 ^ 50 + b2n h.detour * 2 ^ 49 + b2n h.world * 2 ^ 48 + h.len * 2 ^ 44 +
      h.e2e * 2 ^ 28 + h.hop * 2 ^ 12 + h.colour * 2 ^ 10,
    h.opcode * 2 ^ 58 + h.context * 2 ^ 52 + h.stream * 2 ^ 40 + h.rseq * 2 ^ 24 + h.portKind * 2 ^ 22 + h.portIndex * 2 ^ 14 + h.free,
    h.tag * 2 ^ 32 + h.due, h.line * 2 ^ 18]

/-- The header that four words spell. -/
def hdrOfWords (a b c d : Nat) : Hdr :=
  { kind := bits 63 60 a, cls := bits 59 56 a, dest := bits 55 53 a, origin := bits 52 50 a, detour := bit 49 a, world := bit 48 a
    len := bits 47 44 a, e2e := bits 43 28 a, hop := bits 27 12 a, colour := bits 11 10 a
    opcode := bits 63 58 b, context := bits 57 52 b, stream := bits 51 40 b, rseq := bits 39 24 b, portKind := bits 23 22 b
    portIndex := bits 21 14 b, free := bits 13 0 b, tag := bits 63 32 c, due := bits 31 0 c, line := bits 63 18 d }

/-- A payload as it is sent: padded to a multiple of 32 B with rsvd bytes (R325). -/
def padBody (body : List Byte) : List Byte := body ++ zeroBytes ((32 - body.length % 32) % 32)

/-- The bytes of a parcel: header, then payload (R323). -/
def Parcel.bytes (p : Parcel) : List Byte := (hdrWords p.hdr).flatMap (leBytes 8) ++ p.body

/-- The length code of a payload: 32-byte units (R323). -/
def lenCode (body : List Byte) : Nat := (body.length + 31) / 32

/-- Append a parcel to a port's egress, its payload padded. -/
def enqueue (h : Nat) (p : Parcel) (s : State) : State :=
  s.setPort h { s.port h with egress := (s.port h).egress ++ [{ p with body := padBody p.body }] }

/-- Send a sequenced parcel to node d: it takes the next end-to-end number of its flow (R333) and waits at the port of the
route (R330). Nothing is sent to an unreachable node. On a new route a FLOW_RESET goes first, with base = last number sent + 32,768. -/
def sendParcel (d : Nat) (hdr : Hdr) (body : List Byte) (s : State) : State :=
  let r := s.route d
  if d = s.me || 4 ≤ r % 128 then s
  else
    let k := flowKey s.me d hdr.cls
    let f := s.flow k
    let moved := f.route != 0 && f.route != r + 1
    let base := (f.tx + 32767) % 65536
    let place (h : Hdr) (n : Nat) (b : List Byte) : Parcel :=
      ⟨{ h with dest := d, origin := s.me, detour := decide (128 ≤ r), e2e := n, len := lenCode b }, b⟩
    let s := if moved then
        enqueue (r % 128) (place { Hdr.zero with kind := 6, opcode := 5, cls := hdr.cls } f.tx (leBytes 2 base ++ zeroBytes 6)) s
      else s
    let n := if moved then base else f.tx
    enqueue (r % 128) (place hdr n body) (s.setFlow k { f with tx := (n + 1) % 65536, route := r + 1 })

/-- Send a CONTROL parcel of a sub-kind to node d (R325). -/
def sendControl (sub d : Nat) (body : List Byte) (s : State) : State :=
  sendParcel d { Hdr.zero with kind := 6, opcode := sub } body s

/-- Every other node this node can reach. -/
def State.others (s : State) : List Nat :=
  (List.range 8).filter fun n => n != s.me && s.hl.set.reachable.testBit n

/-- Send a CONTROL parcel to every reachable node. -/
def flood (sub : Nat) (body : List Byte) (s : State) : State :=
  forEach s.others (fun n => sendControl sub n body) s

/-- Send a link parcel on port h: it travels one link and carries no sequence (R324). -/
def sendLink (h kind : Nat) (hdr : Hdr) (body : List Byte) (s : State) : State :=
  enqueue h ⟨{ hdr with kind := kind, origin := s.me, len := lenCode body }, body⟩ s

/-- The payloads of R325. -/
def memberBody (s : State) : List Byte :=
  leBytes 1 s.me ++ leBytes 1 s.hl.set.reachable ++ zeroBytes 6 ++ leBytes 8 s.hl.set.links
def formedBody (lead mask time epoch : Nat) : List Byte :=
  leBytes 1 lead ++ leBytes 1 mask ++ zeroBytes 6 ++ leBytes 8 time ++ leBytes 8 epoch
def lostBody (node mask : Nat) : List Byte := leBytes 1 node ++ leBytes 1 mask ++ zeroBytes 6
def wordBody (w : Nat) : List Byte := leBytes 8 w
def objectBody (idx sub order : Nat) (value : List Byte) : List Byte :=
  leBytes 2 idx ++ leBytes 1 sub ++ zeroBytes 1 ++ leBytes 4 order ++ value

/-- Nodes as a list from a mask. -/
def maskNodes (m : Nat) : List Nat := (List.range 8).filter fun n => m.testBit n

/-- The number of nodes of a mask. -/
def maskCount (m : Nat) : Nat := (maskNodes m).length

/-- The lowest node of a mask; 0 for an empty one. -/
def lowestNode (m : Nat) : Nat := (maskNodes m).headD 0

/-- Quorum of R328: members M before a change, reachable R after it. -/
def quorum (m r : Nat) : Bool :=
  decide (maskCount m < 2 * maskCount r) || (2 * maskCount r == maskCount m && r.testBit (lowestNode m))

/-- The mark of a flow whose next parcel is to follow a FLOW_RESET, whatever its route. -/
def staleRoute : Nat := 1000

/-- Node d's requests and completions are due again, and every flow to it starts again with FLOW_RESET (R333, R335). -/
def restartFlows (d : Nat) (s : State) : State :=
  let mine (k : Nat) : Bool := (List.range 16).any fun l => k == flowKey s.me d l
  let again (f : Nat × Flow) : Nat × Flow := if mine f.1 && f.2.route != 0 then (f.1, { f.2 with route := staleRoute }) else f
  let s := { s with hl := { s.hl with flows := s.hl.flows.map again } }
  s.setSet { s.hl.set with rerouted := setBit d true s.hl.set.rerouted }

/-- The number that names the links of a detour; 0 for an entry that is none. -/
def wayOf (setNodes links lost resting o d e : Nat) : Nat :=
  if 128 ≤ e && e != 0xFF then (detourPath setNodes links lost resting 8 o d).foldl (fun n k => 33 * n + k + 1) 0 else 0

/-- Recompute the route table after a change of membership, link state or node state; each changed entry raises
ROUTE_CHANGED (R330). A detour that takes other links further on is another route too. -/
def computeRoutes (s : State) : State :=
  forEach (List.range 8) (fun d s =>
    let v := s.hl.set
    let e := routeEntry s.setNodes v.links v.lost v.resting s.me d
    let w := wayOf s.setNodes v.links v.lost v.resting s.me d e
    if e = s.route d then (if w = look 0 d v.ways then s else restartFlows d (s.setSet { v with ways := put 0 d w v.ways }))
    else raiseNode Ev.routeChanged d (restartFlows d (s.setSet { v with routes := put 0xFF d e v.routes, ways := put 0 d w v.ways }))) s

/-- The route of this node to node d goes through node n, or ends there. -/
def State.pathThrough (s : State) (n d : Nat) : Bool :=
  let v := s.hl.set
  d == n || (if 128 ≤ s.route d then (detourPath s.setNodes v.links v.lost v.resting 8 s.me d).any fun k => k / 4 == n
    else (basePath s.setNodes 8 s.me d).any fun q => q.1 == n)

/-- A node in a warm reset has come back: every flow to it or through it starts again (R335, R344). -/
def peerBack (n : Nat) (s : State) : State :=
  if look 0 n s.hl.set.resetting = 0 then s
  else
    let s := s.setSet { s.hl.set with resetting := put 0 n 0 s.hl.set.resetting }
    forEach ((List.range 8).filter fun d => d != s.me && s.canReach d && s.pathThrough n d) restartFlows s

/-- The set is formed (0x5808:01 reads 1). -/
def State.formed (s : State) : Bool := s.hl.set.state == 1

/-- This node is the lead node (R30). -/
def State.isLead (s : State) : Bool := s.formed && s.hl.set.lead == s.me

end Sys2Proof.Machine
end

