-- ==== Sys2Proof/Machine/Dict.lean ====
section
/-!
DEFINITION. Carrying out a dictionary write (R8, R9, R30, R443–R448): the checks in their order, the lead node's order for
set-wide objects, persisted writes, and the answer. What a write does to the machine is the home chapter's own operation,
which each caller hands over.
-/
namespace Sys2Proof.Machine

/-- What a home chapter answers to a write that has passed the checks of R444. -/
inductive WResult where
  /-- Applied. -/
  | done (s : State)
  /-- Not applied: the status and detail to answer, and the state with what the chapter records of the refusal. -/
  | refused (status detail : Nat) (s : State)
  /-- Accepted; it completes later. -/
  | wait (s : State)

/-- A refusal by a check of the home chapter (R442 detail 0x9). -/
def WResult.denied (s : State) : WResult := .refused St.denied 9 s

/-- The home operation of a write: who is told of its completion, and the state. -/
abbrev Home := Completer → State → WResult

/-! ### The checks of R444 -/

/-- Step 2: the unit that owns the object is present (R20). -/
def unitPresent (r : ObjRow) (idx sub : Nat) (s : State) : Bool :=
  let n := s.cfg.nstacks
  match r.unit with
  | .none => true
  | .stack => decide (idx - r.lo < n)
  | .channel => decide (idx - r.lo < 72 * n)
  | .engine => decide (idx - r.lo < 16 * n)
  | .unit => decide (idx - r.lo < 8 * n)
  | .tile => decide (sub < 64 * n)
  | .unitSub => decide (sub - 1 < 8 * n)
  | .unitMon => decide (sub - 0x10 < 8 * n)
  | .retire => decide ((idx - r.lo) / 8 < n)

/-- The sheaf of a channel, u = 8·s + w (R16). -/
def sheafOf (c : Nat) : Nat := c / 9

/-- The clock enables of R407: sheaf PHY u, Headland adapter h, far-tier adapter, MAC. -/
def State.sheafOn (s : State) (u : Nat) : Bool := (s.ob 0x2020 1).testBit u
def State.adapterOn (s : State) (k : Nat) : Bool := (s.ob 0x2020 2).testBit k

/-- Step 4: the unit is gated (R407). The port state of a gated adapter still reads 0. -/
def unitGated (r : ObjRow) (idx sub : Nat) (s : State) : Bool :=
  (r.unit == .channel && !s.sheafOn (sheafOf (idx - r.lo))) ||
  (decide (0x5800 ≤ idx) && decide (idx ≤ 0x5803) && sub != 1 && !s.adapterOn (idx - 0x5800)) ||
  (decide (0x5C00 ≤ idx) && decide (idx ≤ 0x5C10) && !(idx == 0x5C00 && sub == 1) && !s.adapterOn 4)

/-- Step 3, reads: what the node state answers (R445); `none` permits the access. -/
def readState (idx sub : Nat) (s : State) : Option Nat :=
  match s.power.node with
  | .boot | .recovery =>
    if (decide (0x1000 ≤ idx) && decide (idx ≤ 0x10FF)) || (idx == 0x2000 && sub == 1) ||
       (decide (0x8000 ≤ idx) && decide (idx ≤ 0x80FF)) then none else some St.retry
  | _ => none

/-- Step 3, writes (R445). -/
def writeState (idx sub : Nat) (s : State) : Option Nat :=
  let mgmt := decide (0x1000 ≤ idx) && decide (idx ≤ 0x10FF)
  match s.power.node with
  | .boot | .recovery =>
    if mgmt || (idx == 0x2000 && sub == 1) || (decide (0x8000 ≤ idx) && decide (idx ≤ 0x80FF)) then none
    else some St.retry
  | .rest | .deep =>
    if mgmt || (idx == 0x2000 && (sub == 2 || sub == 4)) then none else some St.retry
  | .halted => if mgmt || (idx == 0x2000 && sub == 4) then none else some St.denied
  | _ => none

/-- Step 5 for writes: the access kind permits the write, and an RWS write comes from an owner session (R8, R368). -/
def writeAccess (r : ObjRow) (req : Req) (s : State) : Bool :=
  match r.acc with
  | .ro => false
  | .rw | .wo | .rwp | .rwlTide => true
  | .rws => s.isOwner req
  | .rwsConfig => s.isOwner req && s.power.node == .config
  | .rwlConfig => s.power.node == .config
  | .woOwner => s.isOwner req
  | .woOwned => s.sec.lifecycle != .owned || s.isOwner req

/-- Whether step 5 failed for want of an owner session on an RWS object, or on a key command's object (R368, R383). (DEDUCED, log 12) -/
def secureRefused (r : ObjRow) (req : Req) (s : State) : Bool :=
  (r.acc == .rws || r.acc == .woOwner || r.acc == .rwsConfig || (r.acc == .woOwned && s.sec.lifecycle == .owned)) && !s.isOwner req

/-- Ranges that the range column states beyond an interval, and reserved bits of a layout (R444 step 7, R446, R559). -/
def extraRange (idx sub v : Nat) (s : State) : Bool :=
  if idx == 0x1010 && sub == 2 then
    decide (0x600 ≤ v) && !([0x0800, 0x0806, 0x86DD, 0x8100, 0x88A8].contains v)
  else if idx == 0x1010 && sub == 4 then decide (s.setNodes + 1 ≤ v)
  else if idx == 0x2000 && sub == 2 then [4, 6, 7].contains v
  else if idx == 0x2501 then bits 31 18 v == 0 && bits 17 16 v != 3 && bits 15 0 v != 0
  else if decide (0x2540 ≤ idx) && decide (idx ≤ 0x257F) then bits 63 34 v == 0
  else if idx == 0x7100 && sub == 1 then
    decide (4 ≤ bits 4 0 v) && decide (bits 4 0 v ≤ 24) && decide (bits 9 5 v < bits 4 0 v) && decide (v < 2 ^ 15)
  else if (idx == 0x7100 && sub == 2) || (decide (0x7400 ≤ idx) && decide (idx < 0x7700) && sub == 1) then filterOk v
  else if idx == 0xB005 then v == 0 || (decide (100 ≤ v) && decide (v ≤ 2000))
  else if decide (0x5C01 ≤ idx) && decide (idx ≤ 0x5C08) && sub == 2 then
    v == 0 || (decide (16896 ≤ v) && decide (v ≤ 33 * 2 ^ 36))
  else if idx == 0x6020 && sub == 3 then decide (v < 16)
  else if idx == 0x6020 && sub == 4 then decide (1 ≤ v) && decide (v ≤ 4)
  else true

/-- The first failing one of steps 1 to 5 for a write: status and detail, and the state after what the failure raises. (DEDUCED, log 12) -/
def writeChecks (req : Req) (idx sub : Nat) (s : State) : Option (Nat × Nat × State) :=
  match findObj idx sub with
  | none => some (St.denied, if decide (0xF000 ≤ idx) && !s.sec.debugFlag then 0 else 1, s)
  | some r =>
    if !unitPresent r idx sub s then some (St.unreachable, 0, s)
    else match writeState idx sub s with
      | some st => some (st, 8, s)
      | none =>
        if unitGated r idx sub s then some (St.unitOff, 0, s)
        else if writeAccess r req s then none
        else some (St.denied, 0, if secureRefused r req s then raiseNode Ev.secureWriteRefused 0 s else s)

/-- Steps 6 and 7: length and range. -/
def valueChecks (r : ObjRow) (idx sub : Nat) (value : List Byte) (s : State) : Option Nat :=
  if value.length < r.ty.sizes.1 || r.ty.sizes.2 < value.length then some 2
  else if (r.ty == .bool && decide (1 < leNat value)) || !r.rng.holds r.ty.sizes.2 (leNat value) ||
      !extraRange idx sub (leNat value) s then some 3
  else none

/-! ### Storing values -/

/-- Whether an RWL write takes effect at once: in CONFIG, and for a set-wide object when every reachable member is in
CONFIG (R8). (DEDUCED, log 20) -/
def State.rwlAtOnce (s : State) (setWide : Bool) : Bool :=
  s.power.node == .config && (!setWide || s.others.all fun n => look 0 n s.hl.set.peerStates == NodeState.code .config)

/-- Queue an RWL write for the next tide, the last one to an object holding (R447). -/
def pendTide (key v : Nat) (s : State) : State :=
  { s with mgmt := { s.mgmt with pendingTide := (s.mgmt.pendingTide.filter fun p => p.1 != key) ++ [(key, v)] } }

/-- Gather a persisted write; the record write completes it (R469). In reduced mode it is not made (R554). (DEDUCED, log 28) -/
def gatherPersist (who : Completer) (idx sub v : Nat) (s : State) : WResult :=
  if s.reduced then .refused St.retry 0 s
  else if !s.nvm.usable then .refused St.retry 0 s
  else .wait { s with nvm := { s.nvm with
    gather := s.nvm.gather ++ [⟨idx, sub, v, who⟩]
    gatherAt := if s.nvm.gather.isEmpty then s.now else s.nvm.gatherAt } }

/-- Store a value as the access kind says: at once, at the next tide, or when its record is written (R8). -/
def storeValue (r : ObjRow) (idx sub v : Nat) : Home := fun who s =>
  if r.persisted then gatherPersist who idx sub v s
  else match r.acc with
    | .rwlTide => if s.rwlAtOnce r.setWide then .done (s.setOb idx sub v) else .done (pendTide (objKey idx sub) v s)
    | _ => .done (s.setOb idx sub v)

/-! ### Set-wide order (R9, R30) -/

/-- The header of the parcels with which nodes report a set-wide write: the Keeper as a block-internal unit (R465), with the
order number as origin tag. -/
def keeperHdr (kind tag : Nat) : Hdr := { Hdr.zero with kind := kind, portKind := 2, portIndex := 3, tag := tag }

/-- Change the list of set-wide writes. -/
def State.setWrites (s : State) (l : List SetWrite) : State := { s with mgmt := { s.mgmt with setWrites := l } }

/-- A set-wide write ends at the lead: the requester here is answered, or the node that carried it is told. -/
def finishOrder (w : SetWrite) (status detail : Nat) (s : State) : State :=
  match w.req with
  | some r => answer r status detail s
  | none =>
    if w.via = s.me then s
    else sendParcel w.via { keeperHdr 2 w.order with opcode := status, line := 256 * w.idx + w.sub, context := detail } [] s

/-- At the lead, node `n` is done with write `order`, and reports the status and detail it ended with there; when every reachable node
has, it completes (R9): OK where every node has applied it, otherwise with the first other status reported. (DEDUCED, log 19) -/
def ackOrder (order n status detail : Nat) (s : State) : State :=
  match s.mgmt.setWrites.find? fun w => w.order == order && order != 0 && w.waiting != 0 with
  | none => s
  | some w =>
    let w' := { w with
      waiting := setBit n false w.waiting, applied := w.applied || (n == s.me && status == St.ok)
      refusal := if w.refusal.1 == St.ok then (status, detail) else w.refusal }
    let rest := s.mgmt.setWrites.filter fun x => x.order != order
    if w'.waiting = 0 then finishOrder w' w'.refusal.1 w'.refusal.2 (s.setWrites rest)
    else s.setWrites (rest ++ [w'])

/-- A node that has refused an order does not count as having applied it. -/
def forgetOrder (n : Nat) (s : State) : State :=
  s.setWrites (s.mgmt.setWrites.filter fun w => !(w.req.isNone && w.waiting == 0 && w.applied && w.order == n))

/-- Tell whoever asked for a write how it has ended here. (DEDUCED, log 19) -/
def complete (who : Completer) (status detail : Nat) (s : State) : State :=
  match who with
  | .req r => answer r status detail s
  | .order n =>
    if s.isLead then ackOrder n s.me status detail s
    else sendParcel s.hl.set.lead { keeperHdr 4 n with opcode := status, context := detail } []
      (if status = St.ok then s else forgetOrder n s)

/-- Settle what a home operation answered. -/
def settle (who : Completer) (w : WResult) : State :=
  match w with
  | .done s => complete who St.ok 0 s
  | .refused st d s => complete who st d s
  | .wait s => s

/-- The lowest order still pending at the lead. -/
def State.lowOrder (s : State) : Nat :=
  s.mgmt.setWrites.foldl (fun n w => if w.order != 0 && w.waiting != 0 then min n w.order else n) s.mgmt.nextOrder

/-- Send a set-wide write as OBJECT_WRITE parcels of one order number: a value longer than the 248 bytes of one goes in pieces, the
last one shorter (R325). The header's world bit tells that the write was made in an owner session, its tag that the lead sends it: the lowest
order still pending, or 1 for a value to adopt. (DEDUCED, log 19) -/
def sendObject (d idx sub order : Nat) (value : List Byte) (owner : Bool) (s : State) : State :=
  let low := if !s.isLead then 0 else if order = 0 then 1 else s.lowOrder
  forEach (List.range (value.length / 248 + 1)) (fun i s =>
    sendParcel d { Hdr.zero with kind := 6, opcode := 0x0A, world := owner, tag := low } (objectBody idx sub order ((value.drop (248 * i)).take 248)) s) s

/-- The value the lead orders: a snapshot asked for at set time 0 gets its time from the lead (R492). -/
def State.leadValue (s : State) (idx sub : Nat) (value : List Byte) : List Byte :=
  if idx == 0x7000 && sub == 1 && leNat value == 0 then leBytes 8 ((s.setNs + 20000 + 999) / 1000 * 1000) else value

/-- The lead orders a set-wide write: it applies it and sends it to every other reachable node (R30). (DEDUCED, log 19) -/
def leadOrder (idx sub : Nat) (value : List Byte) (owner : Bool) (req : Option Req) (via : Nat) (home : Home) (s : State) : State :=
  let n := s.mgmt.nextOrder
  let value := s.leadValue idx sub value
  let s := { s with mgmt := { s.mgmt with nextOrder := n + 1 } }
  let w : SetWrite := { order := n, idx := idx, sub := sub, value := value, waiting := s.hl.set.reachable ||| 2 ^ s.me
                        req := req, via := via, applied := false, refusal := (St.ok, 0) }
  match home (.order n) s with
  | .refused st d s' => finishOrder w st d s'
  | .done s' =>
    ackOrder n s.me St.ok 0 (forEach s.others (fun m => sendObject m idx sub n value owner)
      (s'.setWrites (s'.mgmt.setWrites ++ [w])))
  | .wait s' =>
    forEach s.others (fun m => sendObject m idx sub n value owner) (s'.setWrites (s'.mgmt.setWrites ++ [w]))

/-- Carry out a write that has passed steps 1 to 7, in the set's order where the object is set-wide (R9, R30, R448); the update
objects apply at this node alone before the set is formed and in BOOT and RECOVERY (R481). What the object's own check refuses at the node
that is asked goes no further (step 8 of R444, R149). (DEDUCED, log 19) -/
def orderedWrite (req : Req) (setWide persisted : Bool) (idx sub : Nat) (value : List Byte) (home : Home) (s : State) :
    State :=
  let alone := idx == 0x8000 && (!s.formed || s.power.node == .boot || s.power.node == .recovery)
  if !setWide || alone then settle (.req req) (home (.req req) s)
  else if !s.formed then
    if persisted then settle (.req req) (home (.req req) s) else answer req St.retry 0 s
  else if s.isLead then leadOrder idx sub value (s.isOwner req) (some req) s.me home s
  else if s.canReach s.hl.set.lead then
    match home (.req req) s with
    | .refused st d s' => answer req st d s'
    | _ =>
    sendObject s.hl.set.lead idx sub 0 value (s.isOwner req)
      (s.setWrites (s.mgmt.setWrites ++ [⟨0, idx, sub, value, 0, some req, s.hl.set.lead, false, (St.ok, 0)⟩]))
  else answer req St.unreachable 0 s

/-- A write to a quality-of-service object that completes DENIED raises QOS_WRITE_REFUSED (chapter 08, Events). (DEDUCED, log 13) -/
def qosRefusal (idx sub st : Nat) (s : State) : State :=
  if st = St.denied && decide (0x3000 ≤ idx) && decide (idx < 0x30C0) && (findObj idx sub).isSome then
    raiseNode Ev.qosWriteRefused 0 s
  else s

/-- Carry out one dictionary write through every step of R444. -/
def carryOut (req : Req) (idx sub : Nat) (value : List Byte) (home : Home) (s : State) : State :=
  match writeChecks req idx sub s with
  | some (st, d, s') => answer req st d (qosRefusal idx sub st s')
  | none =>
    match findObj idx sub with
    | none => s
    | some r =>
      match valueChecks r idx sub value s with
      | some d => answer req St.denied d (qosRefusal idx sub St.denied s)
      | none => orderedWrite req r.setWide (r.acc == .rwp) idx sub value home s

/-- Whether a source has a request still carried out (R443). -/
def State.srcBusy (s : State) (src : Source) : Bool :=
  match s.mgmt.sources.find? fun e => e.src == src with
  | some e => e.txns.any fun t => t.answer.isNone
  | none => false

/-- A secured message keeps its session alive (R377). -/
def heardFrom (req : Req) (s : State) : State :=
  match req.src with
  | .session id =>
    let hear (x : Session) : Session := if x.id = id then { x with last := s.now } else x
    { s with sec := { s.sec with sessions := s.sec.sessions.map hear } }
  | _ => s

/-- Count a frame taken from the management bus (R439), or a request of the window, which holds it from then on (R463). -/
def countFrame (req : Req) (s : State) : State :=
  let s := heardFrom req s
  match s.carrier req.src with
  | .mac _ => s.bump 0x1010 9
  | .window => ({ s with mgmt := { s.mgmt with window := { s.mgmt.window with busy := true, unit := false } } }).bump 0x1060 1
  | .session _ => s

/-- The MAC has a clock: from the Keeper PLL, or from sv_ref_b (R397, R405). Otherwise the management link is silent. -/
def State.macUp (s : State) : Bool :=
  s.adapterOn 5 && (look .off 6 s.clk.sources == .stable || look .off 2 s.clk.sources == .stable)

/-- A request reaches the Keeper: the window always does, a frame only over a link that is up. -/
def State.reaches (s : State) (r : Req) : Bool :=
  s.power.node != .off && (match s.carrier r.src with | .mac _ => s.macUp | _ => true)

/-- A request is begun (R443): answered RETRY_LATER while the Keeper restarts; a repeat answered from memory, or RETRY_LATER with
detail 0x6 while the original is still carried out; otherwise carried out by `act`. (DEDUCED, log 11) -/
def beginRequest (req : Req) (act : State → State) (s : State) : State :=
  if s.procs.keeper.restart.isSome then sendResponse req ⟨St.retry, 7, [], none, false⟩ s
  else match s.findTxn req with
    | some ⟨_, some a⟩ => sendResponse req a s
    | some ⟨_, none⟩ => sendResponse req ⟨St.retry, 6, [], none, false⟩ s
    | none => act { s with mgmt := { s.mgmt with sources := recordTxn req.src req.txn none s.mgmt.sources } }

/-- A request as it reaches the Keeper: taken, counted and begun. -/
def takeNow (req : Req) (act : State → State) (s : State) : State :=
  if s.reaches req then beginRequest req act (countFrame req s) else s

/-- The window is held by a request of its own, and this one comes through it too (R463). -/
def State.windowHeld (s : State) (req : Req) : Bool :=
  s.carrier req.src == .window && s.mgmt.window.busy && !s.mgmt.window.unit

/-- A second request of the window is counted and noted; it is answered when the first completes (R463). -/
def noteSecond (req : Req) (s : State) : State :=
  ({ s with mgmt := { s.mgmt with window := { s.mgmt.window with second := some req } } }).bump 0x1060 1

/-- A request of a source that has one still carried out, or waiting. -/
def State.behind (s : State) (req : Req) : Bool :=
  (s.srcBusy req.src || s.mgmt.waiting.any fun w => w.req.src == req.src) && (s.findTxn req).isNone

/-- A request that asks for `i` (R439, R443): one behind a request of its source still carried out waits in the 8-frame receive
buffer, or is dropped when that is full. (DEDUCED, log 11) -/
def takeRequest (req : Req) (i : RequestOp) (act : State → State) (s : State) : State :=
  if !s.reaches req then s
  else if s.windowHeld req then noteSecond req s
  else if s.behind req && s.procs.keeper.restart.isNone then
    if s.mgmt.waiting.length < 8 then
      let s := countFrame req s
      { s with mgmt := { s.mgmt with waiting := s.mgmt.waiting ++ [⟨req, i⟩] } }
    else s.bump 0x1010 0x0C
  else takeNow req act s

/-- A dictionary write as it arrives (R444). -/
def dictWrite (req : Req) (idx sub : Nat) (value : List Byte) (home : Home) (s : State) : State :=
  takeRequest req (.write idx sub value) (carryOut req idx sub value home) s

/-- A home operation that only stores the value. -/
def storeHome (idx sub : Nat) (value : List Byte) : Home := fun who s =>
  match findObj idx sub with
  | some r => storeValue r idx sub (leNat value) who s
  | none => .done s

/-- A home operation that always applies. -/
def applyHome (f : State → State) : Home := fun _ s => .done (f s)

end Sys2Proof.Machine
end

