-- ==== Sys2Proof/Machine/Links.lean ====
section
/-!
DEFINITION. Headland links (R321, R322, R326–R333, R342–R344): training, HELLO, formation of the set, the taking of
sequenced parcels, set time, and the link timers.
-/
namespace Sys2Proof.Machine

/-- A Headland port exists (R22). -/
def portOk (h : Nat) : Bool := decide (h < 4)

/-- The instance of a port's objects. -/
def hIdx (h : Nat) : Nat := 0x5800 + h

/-- A port that carries parcels. -/
def HPort.live (p : HPort) : Bool := p.state == .up || p.state == .keepalive

/-! ### Membership and formation (R326, R328, R329, R448) -/

/-- Recompute routes and, while the set is forming, the nodes this node can reach. -/
def refreshView (s : State) : State :=
  let s := computeRoutes s
  if s.formed then s
  else s.setSet { s.hl.set with
    reachable := (List.range s.setNodes).foldl (fun m n => if s.canReach n then m ||| 2 ^ n else m) 0 }

/-- A HELLO has been exchanged on port h: the link is up at the neighbour's end too, until the neighbour says otherwise. -/
def linkSeen (h : Nat) (s : State) : State :=
  match neighbour s.setNodes s.me h with
  | some n => refreshView (s.setSet { s.hl.set with links := setLinkCode s.hl.set.links n (opposite h) 1 })
  | none => s

/-- Set the link-state code of one of this node's ports; the change is told to every reachable node: with MEMBER while the
set forms, with LINK_STATE afterwards (R326, R345). -/
def setOwnLink (h code : Nat) (s : State) : State :=
  if linkCode s.hl.set.links s.me h = code then s
  else
    let s := refreshView (s.setSet { s.hl.set with links := setLinkCode s.hl.set.links s.me h code })
    if s.formed then flood 4 (wordBody s.hl.set.links) s else flood 1 (memberBody s) s

/-- The straps are usable (R326). -/
def State.strapsValid (s : State) : Bool := s.pins.setSize != 0 && decide (s.me < s.setNodes)

/-- The set-wide objects whose values the lead node sends to every member when the set forms or a node rejoins (R448). -/
def setWideKeys : List Nat :=
  (objRows.filter fun r => r.setWide && r.acc != .wo && r.acc != .ro).flatMap fun r =>
    (List.range (r.hi + 1 - r.lo)).flatMap fun i => (List.range (r.shi + 1 - r.slo)).map fun j =>
      objKey (r.lo + i) (r.slo + j)

/-- Send every set-wide value to a member, as OBJECT_WRITE with order number 0 from the lead (R448). -/
def sendSetWide (n : Nat) (s : State) : State :=
  forEach setWideKeys (fun k s =>
    sendParcel n { Hdr.zero with kind := 6, opcode := 0x0A, tag := 1 }
      (objectBody (k / 256) (k % 256) 0 (leBytes (objWidth k / 8) (s.ob (k / 256) (k % 256)))) s) s

/-- The frame epoch for a set time of formation: the first multiple of 5,120 ns at least 1 ms after it (R329). -/
def epochAfter (time : Nat) : Nat := (time + 1000000 + 5119) / 5120 * 5120

/-- The set forms: lead, members, one step of set time, frame epoch. A member not reachable is lost under R34 (R326). -/
def formSet (lead mask time epoch : Nat) (s : State) : State :=
  let all := 2 ^ s.setNodes - 1
  let away := all - (all &&& mask)
  let s := s.setSet { s.hl.set with
    state := 1, lead := lead, reachable := mask, members := all, lost := away, fenced := away
    epoch := some epoch, timeBase := time * nsT, timeAt := s.now, rate := 0, timeSet := true, offset := 0
    beyond5 := none, beyond10 := none, within5 := some s.now }
  let s := computeRoutes s
  let s := raiseNode Ev.setFormed lead s
  forEach (maskNodes away) (fun n => raiseNode Ev.nodeLost n) s

/-- The lowest reachable node forms the set when all N are reachable or the formation timeout has passed and it has quorum; past the
timeout it tries at each change of membership (R326, R328). -/
def tryForm (timeout : Bool) (s : State) : State :=
  let v := s.hl.set
  let all := 2 ^ s.setNodes - 1
  if s.formed || !s.strapsValid || s.power.node != .config || v.reachable == 0 then s
  else if lowestNode v.reachable != s.me then s
  else if !(v.reachable == all || ((timeout || s.elapsed v.configAt (s.ob 0x5808 2 * msT)) && quorum all v.reachable)) then s
  else
    let t := s.keeperNs
    let e := epochAfter t
    let s := formSet s.me v.reachable t e s
    let s := flood 2 (formedBody s.me v.reachable t e) s
    forEach s.others (fun n => sendSetWide n) s

/-! ### Training and HELLO (R322, R326, R327, R332) -/

/-- The HELLO payload (R327). -/
def helloBody (h : Nat) (s : State) : List Byte :=
  leBytes 1 s.me ++ leBytes 1 s.setNodes ++ leBytes 1 s.cfg.nstacks ++ leBytes 1 1 ++
  leBytes 2 (s.port h).rxHop ++ zeroBytes 2 ++ leBytes 8 s.sec.setTag ++ leBytes 8 (s.ob 0x1000 5) ++ zeroBytes 8

/-- A port is refused with a reason (R327). -/
def refusePort (h reason : Nat) (s : State) : State :=
  let s := s.setPort h { s.port h with state := .refused, refusal := reason, greeted := false }
  setOwnLink h 3 (raise Ev.headlandJoinRefused h reason s)

/-- What a window must last at least on m modules: guard band and the time of a 288 B parcel, 1/12,000 ns (R341). -/
def State.spanNeed (s : State) (m h : Nat) : Nat := 12 * s.ob (hIdx h) 5 + 13500 / max 1 m

/-- The same at the port's width. -/
def State.windowNeed (s : State) (h : Nat) : Nat := s.spanNeed (s.port h).modules h

/-- Windows of a class over a period (R340): maximal runs of consecutive entries, the last joined to the first. The result is the first
entry of each window that is too short. -/
def shortWindows (gs : List Gate) (l need : Nat) : List Nat :=
  let open_ := gs.map fun g => g.mask.testBit l
  if open_.all id || !open_.any id then []
  else (List.range gs.length).filter fun i =>
    (gs.getD i ⟨0, 0⟩).mask.testBit l && !(gs.getD ((i + gs.length - 1) % gs.length) ⟨0, 0⟩).mask.testBit l &&
    decide (((((gs ++ gs).drop i).takeWhile fun g => g.mask.testBit l).map (·.interval)).sum * 20000 < need)

/-- The gate list of a port; none: every class is open. -/
def State.gatesOf (s : State) (h : Nat) : List Gate := ((s.plans.gates.find? fun g => g.1 == h).map (·.2)).getD []

/-- WINDOW_SHORT for each window of a port's gate list that falls short at its width and did not at `before` (R341). (DEDUCED, log 46) -/
def raiseShort (h before : Nat) (s : State) : State :=
  let now := s.windowNeed h
  forEach (List.range 16) (fun l s =>
    forEach (shortWindows (s.gatesOf h) l now) (fun i s =>
      if (shortWindows (s.gatesOf h) l before).contains i then s else raise Ev.windowShort h l s) s) s

/-- UCIe training or retraining ends (R322, R326, R332): with no module it has failed, and a link that has never been up is
refused with reason 0x01; otherwise HELLO is sent. A port that was down is up for HELLO again (R347). -/
def trainingDone (h modules : Nat) (s : State) : State :=
  let p := s.port h
  if (neighbour s.setNodes s.me h).isNone || p.state == .unconnected then s
  else if modules = 0 then
    if p.everUp then s else refusePort h 1 s
  else
    let m := min modules 4
    let narrowed := if p.modules = 0 then decide (m < 4) else decide (m < p.modules)
    let s := s.setPort h { p with state := if p.state == .down then .training else p.state, modules := m, retraining := false, lastReceived := s.now }
    let s := if narrowed then raiseShort h (s.spanNeed p.modules h) (raise Ev.portNarrow h m s) else s
    sendLink h 9 Hdr.zero (helloBody h s) (s.send (.sideband h 1))

/-- The first failing check of the join refusal reasons table; 0 when all pass (R327). -/
def helloReason (h node setNodes nstacks version setTag bundle : Nat) (s : State) : Nat :=
  if neighbour s.setNodes s.me h != some node then 2
  else if setNodes != s.setNodes then 3
  else if nstacks != s.cfg.nstacks then 4
  else if version != 1 then 5
  else if setTag != s.sec.setTag || setTag == 0 then 6
  else if bundle != s.ob 0x1000 5 then 7
  else 0

/-- Whether hop sequence `a` lies before `b` (within 32,768). -/
def seqBefore (a b : Nat) : Bool := decide (0 < (b + 65536 - a) % 65536) && decide ((b + 65536 - a) % 65536 ≤ 32768)

/-- A HELLO arrives (R327): the port is refused, or comes up and replays from the peer's next hop (R332). -/
def helloTaken (h node setNodes nstacks version nextHop setTag bundle : Nat) (s : State) : State :=
  let p := s.port h
  if p.state == .unconnected || p.state == .down then s
  else
    let s := s.setPort h { p with lastReceived := s.now }
    let why := helloReason h node setNodes nstacks version setTag bundle s
    if why ≠ 0 then refusePort h why s
    else
      let keep := p.replay.filter fun q => !seqBefore q.hdr.hop nextHop
      let s := s.setPort h { p with
        state := if s.power.node = .rest || s.power.node = .deep then .keepalive else .up, refusal := 0, greeted := true, everUp := true, silent := false, retraining := false, peerReset := none
        lastReceived := s.now, replay := keep, resend := keep, room := 1024, txHop := if keep.isEmpty then nextHop % 65536 else p.txHop }
      let s := setOwnLink h 1 (linkSeen h s)
      tryForm false (if s.formed then s else flood 1 (memberBody s) s)

/-- The join timeout of a port passes (R326). -/
def joinTimeout (h : Nat) (s : State) : State :=
  if (s.port h).state == .training && (s.port h).retraining && !(s.port h).everUp && s.elapsed s.hl.set.configAt (s.ob 0x5808 8 * msT) then
    refusePort h 1 s
  else s

/-- Begin the training of a port that faces a member position (R326); an unconnected port is never powered (R321). -/
def startTraining (h : Nat) (s : State) : State :=
  if (neighbour s.setNodes s.me h).isSome then
    s.setPort h { s.port h with state := .training, trainAt := s.now, retraining := true, greeted := false }
  else s.setPort h { s.port h with state := .unconnected }

/-- The link at a port resets (R332): both sides report retraining, and nothing but link parcels leaves before HELLO. -/
def linkReset (h : Nat) (s : State) : State :=
  let p := s.port h
  if p.state == .unconnected then s
  else
    let s := s.setPort h { p with state := .training, trainAt := s.now, retraining := true, greeted := false }
    (raise Ev.linkReset h 0 (s.bump (hIdx h) 0x0C)).send (.sideband h 0)

/-! ### Taking parcels (R331, R333) -/

/-- Something arrived on a link: its silent count starts again (R344). -/
def heard (h : Nat) (s : State) : State :=
  let p := s.port h
  let s' := s.setPort h { p with lastReceived := s.now, silent := false }
  if p.silent then setOwnLink h 1 s' else s'

/-- The requests that wait in the offer buffer of port h, which holds 256 of them (R215). -/
def State.headlandOffers (s : State) (h : Nat) : Nat :=
  (s.path.asks.filter fun b => b.stage == .offered && b.fwd == 0 && match b.side.port with | .headland k _ => h == k | _ => false).length
def State.offersFull (s : State) (h : Nat) : Bool := decide (256 ≤ s.headlandOffers h)

/-- The 32-byte units of a parcel. -/
def hdrUnits (h : Hdr) : Nat := 1 + h.len

/-- Of the parcels relayed from port h, those that still wait to leave. -/
def State.heldBy (s : State) (h : Nat) : List Hdr :=
  (s.port h).held.filter fun g => (List.range 4).any fun k => (s.port k).egress.any fun q => { q.hdr with detour := g.detour } == g

/-- Send HOP_ACK: the hop sequence up to which every parcel has reached its consumer or the replay buffer of its egress port, and the free
base-lane units ÷ 8, none while the port's offer buffer is full (R215, R323, R331). (DEDUCED, log 23) -/
def sendHopAck (h : Nat) (s : State) : State :=
  let p := s.port h
  let held := s.heldBy h
  let next := match held with | g :: _ => g.hop | [] => p.rxHop
  let free := 1024 - ((held.filter fun g => !g.detour).map hdrUnits).sum
  sendLink h 0xA { Hdr.zero with hop := (next + 65535) % 65536, free := if s.offersFull h then 0 else free / 8 } []
    (s.setPort h { p with unacked := 0, ackAt := s.now, held := held })

/-- Relay a parcel that came by port h toward its destination (R330): a detour parcel goes on along the detour, whatever route this node
has itself; another takes the detour lane where this node's route is a detour. -/
def relay (h : Nat) (p : Parcel) (s : State) : State :=
  let v := s.hl.set
  let d := p.hdr.dest
  let pass (k : Nat) (detour : Bool) (s : State) : State :=
    enqueue k { p with hdr := { p.hdr with detour := detour } } (s.setPort h { s.port h with held := (s.port h).held ++ [p.hdr] })
  if p.hdr.detour then
    match detourPort s.setNodes v.links v.lost v.resting s.me d with
    | some k => pass k true s
    | none => s
  else if 4 ≤ s.route d % 128 then s else pass (s.route d % 128) (decide (128 ≤ s.route d)) s

/-- The end-to-end check at the destination (R333): the expected number is taken, one before it is a duplicate and counted,
one ahead is discarded uncounted. -/
def flowCheck (hdr : Hdr) (deliver : State → State) (s : State) : State :=
  let k := flowKey hdr.origin s.me hdr.cls
  let f := s.flow k
  if hdr.e2e = f.rx then deliver (s.setFlow k { f with rx := (f.rx + 1) % 65536 })
  else if seqBefore hdr.e2e f.rx then s.bump 0x5808 0x0A
  else s

/-- A sequenced parcel sent (0) or taken (2) on a port, and its bytes, header included (R487, R489): a parcel that is no request
counts as the work of the block-internal units of its origin. -/
def countParcel (j h : Nat) (hdr : Hdr) (s : State) : State :=
  let c : Cause := if hdr.kind ≤ 5 then
      ⟨some hdr.cls, hdr.world, hdr.portKind, hdr.portIndex, hdr.origin, if hdr.opcode = 5 then none else some (hdr.line * 128)⟩
    else ⟨some hdr.cls, hdr.world, 2, 3, hdr.origin, none⟩
  countIf (headlandBank h) (j + 1) (32 + hdr.len * 32) c (countIf (headlandBank h) j 1 c s)

/-- A malformed parcel (R325): counted; a sequenced one resets the link, and three in a row take the port down. -/
def malformedParcel (h : Nat) (sequenced : Bool) (s : State) : State :=
  let s := raise Ev.parcelMalformed h 0 (s.bump (hIdx h) 0x0D)
  if !sequenced then s
  else
    let p := s.port h
    let n := p.malformed + 1
    if 3 ≤ n then setOwnLink h 3 (s.setPort h { p with malformed := n, state := .down })
    else linkReset h (s.setPort h { p with malformed := n })

/-- The hop check of a sequenced parcel that arrives on port h (R331); `act` runs on the one that is taken. One with a length
code above 8, or a nonzero rsvd field (`ok` false), is malformed (R325). (DEDUCED, log 23) -/
def hopCheck (h : Nat) (hdr : Hdr) (ok : Bool) (act : State → State) (s : State) : State :=
  let p := s.port h
  if !p.live || !p.greeted then s
  else
    let s := heard h s
    if 8 < hdr.len || hdr.free != 0 || !ok then malformedParcel h true s else
    let p := s.port h
    if hdr.hop = p.rxHop then
      let s := (s.setPort h { p with rxHop := (p.rxHop + 1) % 65536, unacked := p.unacked + 1, malformed := 0 }).bump
        (hIdx h) 9
      let s := countParcel 2 h hdr s
      let s := act s
      if 64 ≤ (s.port h).unacked then sendHopAck h s else s
    else if seqBefore hdr.hop p.rxHop then s.bump (hIdx h) 0x0B
    else linkReset h s

/-- A sequenced parcel arrives (R331, R333): relayed, or delivered here; a parcel of a node in a warm reset says that it is back (R344).
An isolated node takes none (R78). (DEDUCED, log 23) -/
def takeChecked (h : Nat) (hdr : Hdr) (body : List Byte) (ok : Bool) (deliver : State → State) (s : State) : State :=
  if s.plans.isolated then s
  else hopCheck h hdr ok (fun s =>
    if hdr.dest = s.me then flowCheck hdr (fun s => deliver (peerBack hdr.origin s)) s else relay h ⟨hdr, body⟩ s) s

/-- A sequenced parcel whose fields its command spells out, so that none of them is rsvd. -/
def takeParcel (h : Nat) (hdr : Hdr) (body : List Byte) (deliver : State → State) (s : State) : State :=
  takeChecked h hdr body true deliver s

/-- A FLOW_RESET (R333): the destination expects the new base, whatever number the parcel itself carries. -/
def flowReset (h : Nat) (hdr : Hdr) (base : Nat) (s : State) : State :=
  if s.plans.isolated then s
  else hopCheck h hdr true (fun s =>
    if hdr.dest = s.me then
      let s := peerBack hdr.origin s
      let k := flowKey hdr.origin s.me hdr.cls
      s.setFlow k { s.flow k with rx := base % 65536 }
    else relay h ⟨hdr, leBytes 2 base ++ zeroBytes 6⟩ s) s

/-! ### Set time (R342, R343) -/

/-- The port toward the time parent: the route toward the lead node; none at the lead (0x580A:03). -/
def State.timeParent (s : State) : Option Nat :=
  if !s.formed || s.isLead then none
  else let r := s.route s.hl.set.lead % 128; if r < 4 then some r else none

/-- Set time in 1/8 ns, the resolution of TIME parcels. -/
def State.setEighths (s : State) : Nat := s.setTicks * 2 / 3

/-- The offset of the parent in ps from t1 = echo, t2 = echoRx, t3 = tx and t4 = rx in 1/8 ns, less the asymmetry A. -/
def timeOffsetPs (tx echo echoRx rx : Nat) (a : Int) : Int :=
  (((echoRx : Int) - echo) - ((rx : Int) - tx)) * 125 / 2 - a

/-- The rate correction for an offset: at most ±100 ppm, toward the parent; its size is open (R342). (DESIGN CHOICE, log 25) -/
def State.rateFor (s : State) (off : Int) : Int :=
  let m : Int := (s.freeValue 64 % 100001 : Nat)
  if 0 < off then m else if off < 0 then -m else 0

/-- A TIME parcel arrives (R342, R343). (DESIGN CHOICE, log 25) -/
def timeTaken (h tx echo echoRx rx : Nat) (s : State) : State :=
  let p := s.port h
  if !p.live then s
  else
    let s := heard h s
    let s := s.setPort h { s.port h with peerTx := tx, peerRx := rx }
    if s.isLead then
      let v := s.hl.set
      let synced := match v.within5 with | some t => s.elapsed t msT | none => false
      s.setSet { v with unsynchronised := v.unsynchronised && !synced }
    else if s.timeParent != some h then s
    else
      let off := timeOffsetPs tx echo echoRx rx (signed 16 (s.ob (hIdx h) 6))
      let v := s.hl.set
      let since (b : Bool) (o : Option Nat) : Option Nat := if b then some (o.getD s.now) else none
      let in5 := since (decide (-5000 ≤ off) && decide (off ≤ 5000)) v.within5
      let synced := match in5 with | some t => s.elapsed t msT | none => false
      (s.setSet { v with
        timeBase := s.setTicks, timeAt := s.now, rate := s.rateFor off, offset := off
        beyond5 := since (decide (off < -5000) || decide (5000 < off)) v.beyond5
        beyond10 := since (decide (off < -10000) || decide (10000 < off)) v.beyond10
        within5 := in5
        unsynchronised := v.unsynchronised && !synced }).takeFree

/-! ### Meanings -/

/-- LINK_TRAINING_DONE (R332). -/
def execLinkTrainingDone (h modules : Nat) (s : State) : Res :=
  if portOk h then .next (trainingDone h modules s) else .fault .absentUnit

/-- HELLO (R327). -/
def execHello (h node setNodes nstacks version nextHop setTag bundle : Nat) (s : State) : Res :=
  if portOk h then .next (helloTaken h node setNodes nstacks version nextHop setTag bundle s) else .fault .absentUnit

/-- JOIN_TIMEOUT (R326). -/
def execJoinTimeout (h : Nat) (s : State) : Res :=
  if portOk h then .next (joinTimeout h s) else .fault .absentUnit

/-- FORMATION_TIMEOUT (R326, R328). -/
def execFormationTimeout (s : State) : Res :=
  .next (if s.elapsed s.hl.set.configAt (s.ob 0x5808 2 * msT) then tryForm true s else s)

/-- The other nodes' link codes of a MEMBER's word, where this node knows none, and the sender's own. -/
def mergeLinks (me node mine theirs : Nat) : Nat :=
  (List.range 8).foldl (fun w n =>
    if n = me then w
    else if n = node || bits (8 * n + 7) (8 * n) w = 0 then
      w - bits (8 * n + 7) (8 * n) w * 2 ^ (8 * n) + bits (8 * n + 7) (8 * n) theirs * 2 ^ (8 * n)
    else w) mine

/-- A formed set tells a node that is still forming how it stands (R347): a lost one can be reached again, and stays fenced. -/
def tellReturning (node : Nat) (s : State) : State :=
  let v := s.hl.set
  if s.power.shadow || node = s.me || s.setNodes ≤ node then s
  else
    let s := computeRoutes (s.setSet { v with lost := setBit node false v.lost })
    sendControl 2 node (formedBody v.lead v.reachable s.setNs (v.epoch.getD 0)) s

/-- A node finds its set formed without it: it steps its set time, adopts the frame epoch, and announces itself with REJOIN; it
stays in shadow state (R347, R422). -/
def joinFormed (lead mask time epoch : Nat) (s : State) : State :=
  let all := 2 ^ s.setNodes - 1
  let away := all - (all &&& mask) - 2 ^ s.me
  let s := s.setSet { s.hl.set with
    state := 1, lead := lead, reachable := mask ||| 2 ^ s.me, members := all, lost := away, fenced := away, epoch := some epoch
    epochReached := true, timeBase := time * nsT, timeAt := s.now, rate := 0, timeSet := true, offset := 0
    beyond5 := none, beyond10 := none, within5 := some s.now }
  let s := s.setWrites (s.mgmt.setWrites.filter fun w => w.req.isSome)
  let s := computeRoutes { s with power := { s.power with shadow := true }, plans := { s.plans with begun := true } }
  flood 0x0C (leBytes 1 s.me) (raiseNode Ev.setFormed lead s)

/-- MEMBER (R326): membership and link state; every change is flooded again. -/
def execMember (h : Nat) (hdr : Hdr) (node mask links : Nat) (s : State) : Res :=
  if portOk h then .next (takeParcel h hdr (leBytes 1 node ++ leBytes 1 mask ++ zeroBytes 6 ++ leBytes 8 links) (fun s =>
    let w := mergeLinks s.me node s.hl.set.links links
    if s.formed then tellReturning node (refreshView (s.setSet { s.hl.set with links := w }))
    else if w = s.hl.set.links then tryForm false s
    else
      let s := refreshView (s.setSet { s.hl.set with links := w })
      tryForm false (flood 1 (memberBody s) s)) s)
  else .fault .absentUnit

/-- FORMED (R326, R329). -/
def execFormed (h : Nat) (hdr : Hdr) (lead mask time epoch : Nat) (s : State) : Res :=
  if portOk h then .next (takeParcel h hdr (formedBody lead mask time epoch) (fun s =>
    if s.formed then s else if mask.testBit s.me then formSet lead mask time epoch s else joinFormed lead mask time epoch s) s)
  else .fault .absentUnit

/-- FLOW_RESET (R333). -/
def execFlowReset (h : Nat) (hdr : Hdr) (base : Nat) (s : State) : Res :=
  if portOk h then .next (flowReset h hdr base s) else .fault .absentUnit

/-- TIME (R342). -/
def execTimeParcel (h tx echo echoRx rx : Nat) (s : State) : Res :=
  if portOk h then .next (timeTaken h tx echo echoRx rx s) else .fault .absentUnit

/-- KEEPALIVE (R344). -/
def execKeepalive (h : Nat) (s : State) : Res :=
  if portOk h then .next (heard h s) else .fault .absentUnit

/-- HOP_ACK (R331): parcels up to the hop sequence leave the replay buffer; the room reported is ÷ 8. (DEDUCED, log 23) -/
def execHopAck (h hop room : Nat) (s : State) : Res :=
  if portOk h then
    let s := heard h s
    let p := s.port h
    .next (s.setPort h { p with replay := p.replay.filter (fun q => q.hdr.hop != hop && !seqBefore q.hdr.hop hop)
                                resend := p.resend.filter (fun q => q.hdr.hop != hop && !seqBefore q.hdr.hop hop)
                                room := 8 * room })
  else .fault .absentUnit

/-- PARCEL_MALFORMED (R325). -/
def execParcelMalformed (h : Nat) (sequenced : Bool) (s : State) : Res :=
  if portOk h then .next (malformedParcel h sequenced s) else .fault .absentUnit

/-- KEEPALIVE_SEND_TIMER (R344). -/
def execKeepaliveSendTimer (h : Nat) (s : State) : Res :=
  if portOk h then .next (
    if ((s.port h).live || (s.port h).state == .refused) && s.elapsed (s.port h).lastSent (500 * nsT) then
      sendLink h 8 Hdr.zero [] s else s)
  else .fault .absentUnit

/-- HOP_ACK_SEND_TIMER (R331). -/
def execHopAckSendTimer (h : Nat) (s : State) : Res :=
  if portOk h then .next (if (s.port h).live && s.elapsed (s.port h).ackAt (100 * nsT) then sendHopAck h s else s)
  else .fault .absentUnit

/-- The payload of a TIME parcel (R342). -/
def timeBody (h : Nat) (s : State) : List Byte :=
  leBytes 8 s.setEighths ++ leBytes 8 (s.port h).peerTx ++ leBytes 8 (s.port h).peerRx ++ zeroBytes 8

/-- TIME_SEND_TIMER (R342): every 10 µs on an up link. -/
def execTimeSendTimer (h : Nat) (s : State) : Res :=
  if portOk h then .next (
    let p := s.port h
    if p.live && s.elapsed p.timeSent (10000 * nsT) then
      sendLink h 7 Hdr.zero (timeBody h s)
        (s.setPort h { p with timeSent := s.now })
    else s)
  else .fault .absentUnit

/-- LINK_RESET (R332). -/
def execLinkReset (h : Nat) (s : State) : Res :=
  if portOk h then .next (linkReset h s) else .fault .absentUnit

/-- TIME_OFFSET (R343): beyond ±5 ns for 100 µs. -/
def execTimeOffset (s : State) : Res :=
  .next (match s.hl.set.beyond5 with
    | some t => if s.elapsed t (100 * usTicks) then raiseNode Ev.timeOffset 0 s else s
    | none => s)

/-- TIME_UNSYNCHRONISED (R343): beyond ±10 ns for 1 ms; the time unit counts as faulted under R79. -/
def execTimeUnsynchronised (s : State) : Res :=
  .next (match s.hl.set.beyond10 with
    | some t =>
      if s.elapsed t msT then
        raiseNode Ev.timeUnsynchronised 0 (s.setSet { s.hl.set with unsynchronised := true })
      else s
    | none => s)

/-! ### The lead node (R30, R31) -/

/-- The orders this node remembers as applied. -/
def State.ordersDone (s : State) : List SetWrite := s.mgmt.setWrites.filter fun w => w.req.isNone && w.waiting == 0 && w.applied

/-- The tag of the DONE with which a member ends what it tells a new lead, and with which the lead says that all is settled (R31). (DESIGN
CHOICE, log 19) -/
def settledTag : Nat := 0xFFFFFFFF

/-- This node's own writes that it had handed to a lost lead are answered: OK where a surviving node had applied them, otherwise
RETRY_LATER (R31). -/
def answerHanded (s : State) : State :=
  let own (w : SetWrite) : Bool := w.req.isSome && w.order == 0 && w.via != s.hl.set.lead
  let l := s.mgmt.setWrites
  forEach (l.filter own) (fun w s => match w.req with
    | some r => answer r (if w.applied then St.ok else St.retry) 0 s
    | none => s) (s.setWrites (l.filter fun w => !own w))

/-- Everything that was pending at a lost lead is settled: the new lead says so to every other node. -/
def endSettle (s : State) : State :=
  let s := { s with mgmt := { s.mgmt with settling := false, reported := 0 } }
  answerHanded (forEach s.others (fun m s => sendParcel m (keeperHdr 4 settledTag) [] s) s)

/-- The new lead goes on settling: once every other reachable node has reported, it applies every order that any of them had applied at
all of them (R31). (DESIGN CHOICE, log 19) -/
def settleLead (s : State) : State :=
  if !s.isLead || !s.mgmt.settling then s
  else if s.mgmt.reported.testBit 8 then
    if s.mgmt.setWrites.any fun w => w.req.isNone && w.via == s.me && w.waiting != 0 then s else endSettle s
  else if !s.others.all fun m => s.mgmt.reported.testBit m then s
  else
    let kept := s.ordersDone
    let others := s.others.foldl (fun m n => m + 2 ^ n) 0
    if others = 0 || kept.isEmpty then endSettle s
    else
      let next := max s.mgmt.nextOrder ((kept.map fun (w : SetWrite) => w.order).foldl max 0 + 1)
      let rest := s.mgmt.setWrites.filter fun w => !(w.req.isNone && w.waiting == 0 && w.applied)
      let s := { s with mgmt := { s.mgmt with nextOrder := next, reported := 256 } }
      let s := s.setWrites (rest ++ kept.map fun w => { w with waiting := others, via := s.me, refusal := (St.ok, 0) })
      forEach kept (fun w s => forEach s.others (fun m s => sendObject m w.idx w.sub w.order w.value true s) s) s

/-- The lead is lost: the new one gathers what the surviving nodes have applied, and every other node tells it (R31). (DESIGN CHOICE,
log 19) -/
def leadLost (s : State) : State :=
  let kept := s.ordersDone
  let own := s.mgmt.setWrites.filter fun w => w.req.isSome && w.order == 0
  let s := s.setWrites (kept ++ own)
  let s := { s with mgmt := { s.mgmt with settling := true } }
  if s.isLead then
    let last := (kept.map fun (w : SetWrite) => w.order).foldl max s.mgmt.nextOrder
    settleLead { s with mgmt := { s.mgmt with nextOrder := (last / 65536 + 1) * 65536 } }
  else
    let s := forEach kept (fun w s => sendObject s.hl.set.lead w.idx w.sub w.order w.value true s) s
    sendParcel s.hl.set.lead (keeperHdr 4 settledTag) [] s

/-- Node `lead` is the lead node from now on: what was pending at the one before is settled (R31), and the new one keeps its own set
time, which from then on is the set's (R343). -/
def newLead (lead : Nat) (s : State) : State :=
  let v := { s.hl.set with lead := lead }
  leadLost (s.setSet (if lead != s.me then v
    else { v with timeBase := s.setTicks, timeAt := s.now, rate := 0, offset := 0, beyond5 := none, beyond10 := none, within5 := some s.now }))

/-- The lead node is the lowest-numbered reachable member (R30): when a node of a lower number has joined, it is the lead from then on.
(DEDUCED, log 19) -/
def settleJoined (s : State) : State :=
  let low := lowestNode s.hl.set.reachable
  if low = s.hl.set.lead then s else newLead low s

end Sys2Proof.Machine
end

