-- ==== Sys2Proof/Machine/Mgmt.lean ====
section
/-!
DEFINITION. Management (chapter 17): heartbeats, partners, notifications, the log and its mirror, segmented writes, the
dictionary window's own registers, and the frames that are dropped.
-/
namespace Sys2Proof.Machine

/-- The Keeper runs and is not restarting, so that it sends and answers (R26, R35). -/
def State.keeperUp (s : State) : Bool := s.power.node != .off && s.procs.keeper.restart.isNone && s.macUp

/-! ### Heartbeats (R452, R453) -/

/-- The flags of a heartbeat: sv_alive high, sv_alarm_n low, set formed, lead node. -/
def heartbeatFlags (s : State) : Nat :=
  b2n s.alive + 2 * b2n s.pins.alarm + 4 * b2n s.formed + 8 * b2n s.isLead

/-- The heartbeat payload, 32 bytes (R452). -/
def heartbeatBody (seq : Nat) (s : State) : List Byte :=
  leBytes 1 s.me ++ leBytes 1 s.power.node.code ++ leBytes 1 (heartbeatFlags s) ++
  leBytes 1 (match s.mgmt.sinceBeat with | some v => 128 + v | none => 0) ++ leBytes 4 seq ++ leBytes 8 s.sec.setTag ++
  leBytes 8 (if s.hl.set.timeSet then s.setNs else 0) ++ leBytes 4 (s.ob 0x1040 2) ++ leBytes 2 (s.ob 0x1020 1) ++
  zeroBytes 2

/-- HEARTBEAT_TIMER (R452): every heartbeat period the node sends a HEARTBEAT. -/
def execHeartbeatTimer (s : State) : Res :=
  .next (if s.keeperUp && s.elapsed s.mgmt.heartbeatAt (s.ob 0x1020 1 * msT) then
      let s := s.bump 0x1020 6
      let s := s.send (.heartbeat (s.ob 0x1020 2) (heartbeatBody (s.ob 0x1020 6) s))
      ({ s with mgmt := { s.mgmt with heartbeatAt := s.now, sinceBeat := none } }).bump 0x1010 0x0A
    else s)

/-- A heartbeat of node 0xFF: the partner is recorded, and found when it was not present (R453). -/
def partnerHeard (address period : Nat) (s : State) : State :=
  let found := s.mgmt.partner.state != 1
  let s := s.setOb 0x1020 3 address
  let s := { s with mgmt := { s.mgmt with partner := ⟨1, s.now, period⟩ } }
  if found then raiseNode Ev.partnerFound 0 s else s

/-- A member's heartbeat tells its node state, which routes depend on (R330, R452); one in HALTED breaks continuity (R87). -/
def memberHeard (node state : Nat) (s : State) : State :=
  let v := s.hl.set
  let r := if state = 6 || state = 7 then setBit node true v.resting else setBit node false v.resting
  let s := s.setSet { v with peerStates := put 0 node state v.peerStates, resting := r }
  let s := if state = NodeState.code .halted then breakContinuity 1 s else s
  if r = v.resting then s else computeRoutes s

/-- PARTNER_HEARTBEAT (R452, R453): from node 0xFF it is a management partner's; otherwise a member's. (DEDUCED, log 20) -/
def execPartnerHeartbeat (address node state period : Nat) (s : State) : Res :=
  .next (if !s.keeperUp then s
    else if node = 0xFF then partnerHeard address period (s.bump 0x1010 9)
    else if node < 8 then memberHeard node state (s.bump 0x1010 9)
    else s)

/-- PARTNER_LOST (R453): nothing for three of its periods plus 15 ms. -/
def execPartnerLost (s : State) : Res :=
  .next (let p := s.mgmt.partner
    if p.state = 1 && s.elapsed p.last ((3 * p.period + 15) * msT) then
      raiseNode Ev.partnerLost 0 (({ s with mgmt := { s.mgmt with partner := { p with state := 2 } } }).bump 0x1020 5)
    else s)

/-- PLCA_STATUS_CHANGE (R438). -/
def execPlcaStatusChange (active : Bool) (s : State) : Res :=
  .next (
    let was := s.ob 0x1010 8
    let s := s.setOb 0x1010 8 (b2n active)
    if was = 1 && !active then raiseNode Ev.plcaInactive 0 (s.bump 0x1010 0x0D) else s)

/-- FRAME_MALFORMED (R441): discarded without a response, counted, and raised at most once per 10 s. -/
def execFrameMalformed (s : State) : Res :=
  .next (raiseNode Ev.frameMalformed 0 (s.bump 0x1010 0x0B))

/-- RECEIVE_BUFFER_FULL (R439): the frame is dropped without a response and counted. -/
def execReceiveBufferFull (s : State) : Res := .next (s.bump 0x1010 0x0C)

/-! ### Notifications (R457) -/

/-- Queue n of the notifications. -/
def State.notifyQ (s : State) (n : Nat) : NotifyQueue := look .reset n s.mgmt.notify

/-- Change queue n. -/
def State.setNotifyQ (s : State) (n : Nat) (q : NotifyQueue) : State :=
  { s with mgmt := { s.mgmt with notify := put .reset n q s.mgmt.notify } }

/-- The outstanding notification of queue n is over: the next one waiting is sent. -/
def notifyNext (n : Nat) (s : State) : State :=
  match (s.notifyQ n).waiting with
  | e :: w => sendNotify n e (s.setNotifyQ n ⟨some e, 1, s.now, w⟩)
  | [] => s.setNotifyQ n ⟨none, 0, 0, []⟩

/-- NOTIFY_RESPONSE (R457): the outstanding notification is acknowledged; an ALARM one subscriber has answered is not
sent again to any. -/
def execNotifyResponse (n seq : Nat) (s : State) : Res :=
  .next (match (s.notifyQ n).outstanding with
    | some e =>
      if e.seq ≠ seq || !s.keeperUp then s
      else if e.sev < 3 then notifyNext n s
      else
        let s := { s with mgmt := { s.mgmt with alarmsAnswered := pushLast 64 seq s.mgmt.alarmsAnswered } }
        forEach [1, 2, 3, 4, 5] (fun k s =>
          match (s.notifyQ k).outstanding with
          | some x => if x.seq = seq then notifyNext k s else s
          | none => s) s
    | none => s)

/-- NOTIFY_RETRY_TIMER (R457): sent again every notify retry: below ALARM at most 3 times in all, and then counted; an
ALARM until one subscriber answers it. -/
def execNotifyRetryTimer (n : Nat) (s : State) : Res :=
  .next (match (s.notifyQ n).outstanding with
    | none => s
    | some e =>
      if !s.keeperUp || !s.elapsed (s.notifyQ n).sentAt (s.ob 0x1050 5 * msT) then s
      else if e.sev = 3 && s.mgmt.alarmsAnswered.contains e.seq then notifyNext n s
      else if e.sev = 3 || (s.notifyQ n).tries < 3 then
        sendNotify n e (s.setNotifyQ n { s.notifyQ n with tries := (s.notifyQ n).tries + 1, sentAt := s.now })
      else raiseNode Ev.notifyUnacked 0 (notifyNext n (s.bump 0x1050 6)))

/-! ### Alarm, log and mirror (R455, R458, R459) -/

/-- Release sv_alarm_n. -/
def clearAlarm (s : State) : State := { s with pins := { s.pins with alarm := false } }

/-- Empty the log; sequence numbers continue. -/
def clearLog (s : State) : State := { s with mgmt := { s.mgmt with log := [] } }

/-- Empty the NVM mirror. -/
def clearMirror (s : State) : State := { s with nvm := { s.nvm with mirror := [] } }

/-- ALARM_CLEAR (R458). -/
def execAlarmClear (r : Req) (s : State) : Res := .next (dictWrite r 0x1040 0x0A [1] (applyHome clearAlarm) s)

/-- LOG_CLEAR (R471). -/
def execLogClear (r : Req) (s : State) : Res := .next (dictWrite r 0x1040 9 [1] (applyHome clearLog) s)

/-- MIRROR_CLEAR (R459). -/
def execMirrorClear (r : Req) (s : State) : Res := .next (dictWrite r 0x1041 5 [1] (applyHome clearMirror) s)

/-! ### Segmented writes (R450) -/

/-- The open session of a source on an object. -/
def State.segment (s : State) (src : Source) (idx sub : Nat) : Option Segment :=
  s.mgmt.segments.find? fun g => g.src == src && g.idx == idx && g.sub == sub

/-- The sessions without one. -/
def dropSegment (src : Source) (idx sub : Nat) (l : List Segment) : List Segment :=
  l.filter fun g => !(g.src == src && g.idx == idx && g.sub == sub)

/-- Change the sessions. -/
def State.setSegments (s : State) (l : List Segment) : State := { s with mgmt := { s.mgmt with segments := l } }

/-- Sessions on objects that the node's new state lets no one write are closed without effect (R451). (DEDUCED, log 30) -/
def closeSegments (s : State) : State :=
  s.setSegments (s.mgmt.segments.filter fun g => (writeState g.idx g.sub s).isNone)

/-- Objects that are written at offsets (R450): the bundle object. -/
def offsetObject (idx sub : Nat) : Bool := idx == 0x8000 && sub == 1

/-- Open a segmented session (R450): steps 1 to 5, then that the total placed at the base fits the object. (DEDUCED, log 30) -/
def segStart (r : Req) (idx sub total base : Nat) (s : State) : State :=
  match writeChecks r idx sub s with
  | some (st, d, s') => answer r st d s'
  | none =>
    match findObj idx sub with
    | none => s
    | some row =>
      if row.ty.sizes.2 < base + total || (base ≠ 0 && !offsetObject idx sub) then answer r St.denied 2 s
      else
        let l := dropSegment r.src idx sub s.mgmt.segments
        if 4 ≤ l.length then answer r St.retry 7 s
        else answer r St.ok 0 (s.setSegments (l ++ [⟨r.src, idx, sub, base, total, [], s.now⟩]))

/-- SEG_START (R450). -/
def execSegStart (r : Req) (idx sub total base : Nat) (s : State) : Res :=
  .next (takeRequest r (.segStart idx sub total base) (segStart r idx sub total base) s)

/-- The next bytes of a session, without gap, within the total (R450). -/
def segData (r : Req) (idx sub offset : Nat) (data : List Byte) (s : State) : State :=
  match s.segment r.src idx sub with
  | none => answer r St.denied 4 s
  | some g =>
    if offset ≠ g.got.length || g.total < g.got.length + data.length then answer r St.denied 4 s
    else answer r St.ok 0 (s.setSegments (dropSegment r.src idx sub s.mgmt.segments ++
      [{ g with got := g.got ++ data, last := s.now }]))

/-- SEG_DATA. -/
def execSegData (r : Req) (idx sub offset : Nat) (data : List Byte) (s : State) : Res :=
  .next (takeRequest r (.segData idx sub offset data) (segData r idx sub offset data) s)

/-- A session is closed without effect (R450). -/
def segAbort (r : Req) (idx sub : Nat) (s : State) : State :=
  match s.segment r.src idx sub with
  | none => answer r St.denied 4 s
  | some _ => answer r St.ok 0 (s.setSegments (dropSegment r.src idx sub s.mgmt.segments))

/-- SEG_ABORT. -/
def execSegAbort (r : Req) (idx sub : Nat) (s : State) : Res :=
  .next (takeRequest r (.segAbort idx sub) (segAbort r idx sub) s)

/-- SESSION_DROPPED (R450): a session that has received nothing for 1 s is closed. -/
def execSessionDropped (src : Source) (idx sub : Nat) (s : State) : Res :=
  .next (match s.segment src idx sub with
    | some g =>
      if s.elapsed g.last secT then
        raiseNode Ev.sessionDropped 0 (s.setSegments (dropSegment src idx sub s.mgmt.segments))
      else s
    | none => s)

/-! ### The window's registers (R463, R464, R548) -/

/-- RSP_ACK (R548): STATUS [1] clears and the window is released. A doorbell rung while it was busy is answered
RETRY_LATER with detail 0x7 and not carried out (R463). -/
def execRspAck (s : State) : Res :=
  .next (
    let w := s.mgmt.window
    if !w.ready then s
    else match w.second with
      | some r => sendResponse r ⟨St.retry, 7, [], none, false⟩
          { s with mgmt := { s.mgmt with window := { w with ready := false, second := none } } }
      | none => { s with mgmt := { s.mgmt with window := { w with busy := false, unit := false, ready := false, rspBuf := [] } } })

/-- RING_POP (R548): the oldest ring entry is removed. -/
def execRingPop (s : State) : Res :=
  .next (match s.mgmt.window.ring with
    | [] => s
    | _ :: l => { s with mgmt := { s.mgmt with
        window := { s.mgmt.window with ring := l, oldest := (s.mgmt.window.oldest + 1) % 64 } } })

/-- PERSIST_GATHER_TIMER (R469): writes gathered over 1 s are due as one record. -/
def execPersistGatherTimer (s : State) : Res :=
  .next (if !s.nvm.gather.isEmpty && s.elapsed s.nvm.gatherAt secT then
      { s with nvm := { s.nvm with gatherDue := true } }
    else s)

end Sys2Proof.Machine
end

