-- ==== Sys2Proof/Machine/Regions.lean ====
section
/-!
DEFINITION. Set addresses (R38–R40, R42), core slices (R43, R44), region descriptors (R46–R49) and the access checks
(R53, R560).
-/
namespace Sys2Proof.Machine

/-! ### Set addresses -/

/-- The tier bit. -/
def farAddr (a : Nat) : Bool := a.testBit 52
/-- In-package fields (R38). -/
def adNode (a : Nat) : Nat := if farAddr a then bits 43 41 a else bits 40 38 a
def adStack (a : Nat) : Nat := bits 37 36 a
def adChan (a : Nat) : Nat := bits 35 30 a
def adOffset (a : Nat) : Nat := bits 29 0 a
/-- The far-tier offset within its node (R39). -/
def adFar (a : Nat) : Nat := bits 40 0 a
/-- The line of an address: the address with its byte in line cleared. -/
def lineOf (a : Nat) : Nat := a / 128 * 128

/-- The first address of data channel d of stack t of a node. -/
def chanBase (node t d : Nat) : Nat := node * 2 ^ 38 + t * 2 ^ 36 + d * 2 ^ 30

/-- Channel within the node of data channel d of stack t: c = 72·s + 9·w + k (R16). -/
def chanOf (t d : Nat) : Nat := 72 * t + 9 * (d / 8) + d % 8

/-- The parts of a channel offset (R42). -/
def ofRow (o : Nat) : Nat := bits 29 18 o
def ofLayer (o : Nat) : Nat := bits 17 14 o
def ofLine (o : Nat) : Nat := bits 13 11 o
def ofBank (o : Nat) : Nat := 4 * bits 8 7 o + bits 10 9 o

/-- The channel offset of a row, layer, bank (bank group in [3:2], bank in group in [1:0]) and line in row (R42). -/
def offsetOf (row layer bank line : Nat) : Nat :=
  row * 2 ^ 18 + layer * 2 ^ 14 + line * 2 ^ 11 + bank % 4 * 2 ^ 9 + bank / 4 * 2 ^ 7

/-- A request is unmapped (R40). The attached capacity is known of this node's own far-tier port only; another node's
offset is checked there (R41). (DEDUCED, log 22) -/
def unmapped (a : Nat) (s : State) : Bool :=
  let n := adNode a
  let gone := !s.hl.set.members.testBit n || s.hl.set.fenced.testBit n
  if farAddr a then
    bits 51 44 a != 0 || decide (2 ^ 53 ≤ a) || gone || (n == s.me && decide (s.ob 0x5C00 2 ≤ adFar a))
  else bits 51 41 a != 0 || gone || decide (s.cfg.nstacks ≤ adStack a)

/-! ### Core slices (R43, R44) -/

/-- The slice size S in bytes for a code; 0 for none (R43). -/
def sliceBytesOf (code : Nat) : Nat := if code = 0 then 0 else 2 ^ (16 + code)

/-- The shared remainder per channel in bytes (0x2101:02). -/
def sharedBytes (code : Nat) : Nat := 2 ^ 30 - 512 * sliceBytesOf code

/-- A core: node, tile and index (R17). -/
structure CoreId where
  node : Nat
  tile : Nat
  core : Nat
  deriving DecidableEq, Repr

/-- Whether a core-originated request targets a private slice other than its own (R44). -/
def sliceDenied (k : CoreId) (a : Nat) (s : State) : Bool :=
  let sz := sliceBytesOf (s.ob 0x2101 1)
  !farAddr a && sz != 0 && decide (adOffset a < 512 * sz) &&
  !(k.node == adNode a && k.tile == 64 * adStack a + adChan a && k.core == adOffset a / sz)

/-! ### Region descriptors (R46–R48) -/

/-- A region descriptor's fields (R47). -/
structure Region where
  valid : Bool
  world : Bool
  role : Nat
  sealed_ : Bool
  backed : Bool
  recomputable : Bool
  bound : Bool
  owner : Nat
  ownerRights : Nat
  otherRights : Nat
  format : Nat
  keySlot : Nat
  /-- Base tier. -/
  far : Bool
  /-- First granule, counted within its tier: set address [43:21]. -/
  base : Nat
  escape : Bool
  pool : Nat
  backing : Nat
  /-- Granules. -/
  len : Nat
  queueCode : Nat
  syncObj : Nat
  /-- Queue base address. -/
  queue : Nat
  /-- Every reserved field is 0. -/
  rsvdOk : Bool
  deriving DecidableEq, Repr

/-- The fields of a descriptor's 256 bits (R47). -/
def decodeRegion (v : Nat) : Region :=
  let w0 := v % 2 ^ 64
  let w1 := v / 2 ^ 64 % 2 ^ 64
  let w2 := v / 2 ^ 128 % 2 ^ 64
  let w3 := v / 2 ^ 192 % 2 ^ 64
  { valid := bit 63 w0, world := bit 62 w0, role := bits 61 60 w0, sealed_ := bit 59 w0, backed := bit 58 w0
    recomputable := bit 57 w0, bound := bit 56 w0, owner := bits 55 50 w0, ownerRights := bits 49 47 w0
    otherRights := bits 46 44 w0, format := bits 43 40 w0, keySlot := bits 39 32 w0, far := bit 23 w0
    base := bits 22 0 w0, escape := bit 63 w1, pool := bits 52 43 w1, backing := bits 42 20 w1
    len := bits 19 0 w1 + 1, queueCode := bits 63 60 w2, syncObj := bits 59 46 w2, queue := bits 40 7 w2 * 128
    rsvdOk := bits 31 24 w0 == 0 && bits 62 53 w1 == 0 && bits 45 41 w2 == 0 && bits 6 0 w2 == 0 && w3 == 0 }

/-- The dictionary place of descriptor r: 0x2120+g:n with r = 256·g + n. -/
def regionIdx (r : Nat) : Nat := 0x2120 + r / 256
def regionSub (r : Nat) : Nat := r % 256

/-- Descriptor r in force. -/
def State.region (s : State) (r : Nat) : Region := decodeRegion (s.ob (regionIdx r) (regionSub r))

/-- The descriptor an object key holds, if it is one. -/
def keyRegion (key : Nat) : Option Nat :=
  if decide (0x2120 ≤ key / 256) && decide (key / 256 ≤ 0x2123) then some ((key / 256 - 0x2120) * 256 + key % 256) else none

/-- The numbers of the descriptors in force that are not all 0. -/
def State.regionList (s : State) : List Nat := s.obj.filterMap fun p => keyRegion p.1

/-- The valid descriptors in force. -/
def State.validRegions (s : State) : List (Nat × Region) :=
  (s.regionList.map fun r => (r, s.region r)).filter fun p => p.2.valid

/-- The descriptors as they will stand after every pending write (R50). -/
def State.regionsAhead (s : State) : List (Nat × Region) :=
  let pend := s.mgmt.pendingTide.filterMap fun p => (keyRegion p.1).map fun r => (r, decodeRegion p.2)
  ((s.validRegions.filter fun p => !pend.any fun q => q.1 == p.1) ++ pend).filter fun p => p.2.valid

/-- The set-address granule [43:21] of an address. -/
def granuleOf (a : Nat) : Nat := bits 43 21 a

/-- Whether a descriptor's range holds an address. -/
def Region.covers (g : Region) (a : Nat) : Bool :=
  g.valid && g.far == farAddr a && decide (g.base ≤ granuleOf a) && decide (granuleOf a < g.base + g.len)

/-- The descriptor that covers an address, if any. -/
def State.regionAt (s : State) (a : Nat) : Option (Nat × Region) := s.validRegions.find? fun p => p.2.covers a

/-- Whether an address lies in a backing range of a valid backed descriptor (R48). -/
def State.inBacking (s : State) (a : Nat) : Bool :=
  farAddr a && s.validRegions.any fun p =>
    p.2.backed && decide (p.2.backing ≤ granuleOf a) && decide (granuleOf a < p.2.backing + p.2.len)

/-- The first set address of a granule of a tier. -/
def granuleAddr (far : Bool) (g : Nat) : Nat := (if far then 2 ^ 52 else 0) + g * 2 ^ 21

/-- Whether an address belongs to a Secure range. -/
def State.secureAt (s : State) (a : Nat) : Bool :=
  match s.regionAt a with | some p => p.2.world | none => false

/-- Whether an address belongs to a sealed range. -/
def State.sealedAt (s : State) (a : Nat) : Bool :=
  match s.regionAt a with | some p => p.2.sealed_ | none => false

/-- The format tag of an address's range: 0 in the default region (R48). -/
def State.formatAt (s : State) (a : Nat) : Nat :=
  match s.regionAt a with | some p => p.2.format | none => 0

/-! ### Access checks (R53) -/

/-- The kinds of operation whose right step 5 checks; `exempt` for a request that step 5 does not apply to (R560). -/
inductive AccessOp where
  | read | write | atomic | exempt
  deriving DecidableEq, Repr

/-- Whether the applicable rights include an operation (R47, R53 step 5). -/
def Region.grants (g : Region) (op : AccessOp) (ctx : Nat) : Bool :=
  let rights := if g.bound && g.owner != ctx then g.otherRights else g.ownerRights
  match op with
  | .read => rights.testBit 2
  | .write => rights.testBit 1
  | .atomic => rights.testBit 0
  | .exempt => true

/-- Steps 1 to 5 of R53 for one line at its owning node; `none` when they pass, otherwise the status. Step 6, the sealed
metadata bit, is checked where the line is read. -/
def accessStatus (op : AccessOp) (world : Bool) (ctx : Nat) (core : Option CoreId) (a : Nat) (s : State) : Option Nat :=
  if unmapped a s then some St.unreachable
  else match s.regionAt a with
    | none =>
      if s.inBacking a then some St.denied
      else if (core.map fun k => sliceDenied k a s).getD false then some St.denied
      else none
    | some (_, g) =>
      if g.role == 1 || g.role == 2 then some St.denied
      else if g.world && !world then some St.denied
      else if (core.map fun k => sliceDenied k a s).getD false then some St.denied
      else if g.grants op ctx then none
      else some St.denied

/-- Count and raise what a failed access check asks for: DENIED lines in 0x2110:03 and :04 with ACCESS_DENIED, unmapped
ones in 0x2110:05 with ADDRESS_UNMAPPED (R40, R53). -/
def countAccess (status a : Nat) (s : State) : State :=
  if status = St.unreachable then raiseAt Ev.addressUnmapped 0xFFFF a false (s.bump 0x2110 5)
  else raiseAt Ev.accessDenied 0xFFFF a (s.secureAt a) ((s.bump 0x2110 3).setOb 0x2110 4 a)

/-- The access checks of R53, with what a failure counts and raises. -/
def accessCheck (op : AccessOp) (world : Bool) (ctx : Nat) (core : Option CoreId) (a : Nat) (s : State) :
    Option Nat × State :=
  match accessStatus op world ctx core a s with
  | none => (none, s)
  | some st => (some st, countAccess st a s)

/-! ### Descriptor writes (R49) -/

/-- Granules of attached far-tier capacity. -/
def State.farGranules (s : State) : Nat := s.ob 0x5C00 2 / 2 ^ 21

/-- Whether a range of granules lies wholly within this node's populated in-package range or attached far tier. -/
def rangeInNode (far : Bool) (base len : Nat) (s : State) : Bool :=
  if far then decide (s.me * 2 ^ 20 ≤ base) && decide (base + len ≤ s.me * 2 ^ 20 + s.farGranules)
  else decide (s.me * 2 ^ 17 ≤ base) && decide (base + len ≤ s.me * 2 ^ 17 + s.cfg.nstacks * 2 ^ 15)

/-- Whether two ranges of granules meet. -/
def overlap (b1 l1 b2 l2 : Nat) : Bool := decide (b1 < b2 + l2) && decide (b2 < b1 + l1)

/-- The granules a role 2 descriptor must span for the attached capacity: capacity ÷ 4,096, in whole granules (R51). -/
def State.ledgerGranules (s : State) : Nat := (s.ob 0x5C00 2 / 4096 + 2 ^ 21 - 1) / 2 ^ 21

/-- Whether a descriptor is a bale ledger large enough for the attached far tier (R51). -/
def Region.isLedger (g : Region) (s : State) : Bool := g.valid && g.role == 2 && decide (s.ledgerGranules ≤ g.len)

/-- Reasons 0x01 to 0x06 and 0x09 of R49 for a descriptor with valid 1, in their order; 0 when none applies. `others` are
the other descriptors the write is checked against. (DEDUCED, log 47) -/
def regionShape (r : Nat) (g : Region) (others : List (Nat × Region)) (s : State) : Nat :=
  let after := (r, g) :: others
  let queueBytes := 8 * 64 * 2 ^ g.queueCode
  let key := look KeySlot.reset g.keySlot s.sec.keys
  if !g.rsvdOk || g.role == 3 || decide (10 < g.queueCode) || decide (9 < g.format) then 1
  else if !rangeInNode g.far g.base g.len s then 2
  else if others.any fun p => (p.2.far == g.far && overlap p.2.base p.2.len g.base g.len) ||
      (p.2.backed && g.far && overlap p.2.backing p.2.len g.base g.len) then 3
  else if g.backed && (g.far || !rangeInNode true g.backing g.len s ||
      others.any fun p => (p.2.far && overlap p.2.base p.2.len g.backing g.len) ||
        (p.2.backed && overlap p.2.backing p.2.len g.backing g.len)) then 4
  else if g.sealed_ && (g.far || key.kind != .xts || key.world != g.world) then 5
  else if (g.recomputable && !after.any fun p => p.2.role == 0 && !p.2.far && p.2.world == g.world &&
        p.2.covers g.queue && p.2.covers (g.queue + queueBytes - 1)) ||
      (g.escape && !after.any fun p => p.1 == g.pool && p.2.role == 1 && !p.2.far && p.2.world == g.world) then 6
  else if (g.role == 1 || g.role == 2) && (g.ownerRights != 0 || g.otherRights != 0 || g.sealed_ || g.backed ||
        g.recomputable || g.escape) then 9
  else 0

/-- Whether a descriptor asks for an owner session (reason 0x07). -/
def Region.guarded (g : Region) : Bool := g.world || g.sealed_ || g.role == 2

/-- The first failing condition of R49 in the table's order; 0 when the write is accepted. `planBreak` tells whether the
change breaks reason 0x08. Reasons 0x03 and 0x04 are checked, as 0x06 is, against the descriptors as they will stand after the pending
writes, which the spec says of 0x06 alone. (DESIGN CHOICE, log 47) -/
def regionReason (r : Nat) (old new : Region) (owner planBreak : Bool) (s : State) : Nat :=
  let others := s.regionsAhead.filter fun p => p.1 != r
  let shape := if new.valid then regionShape r new others s else 0
  if shape != 0 && shape != 9 then shape
  else if (old.guarded || new.guarded) && !owner then 7
  else if planBreak then 8
  else shape

/-! ### Key slots named by descriptors (R561) -/

/-- A valid sealed descriptor in force names a slot, or an accepted pending write does. -/
def slotNamedByRegion (n : Nat) (s : State) : Bool :=
  (s.validRegions.any fun p => p.2.sealed_ && p.2.keySlot == n) ||
  s.mgmt.pendingTide.any fun p =>
    (keyRegion p.1).isSome && (decodeRegion p.2).valid && (decodeRegion p.2).sealed_ && (decodeRegion p.2).keySlot == n

/-- The node holds a valid role 2 descriptor, or a change of one is pending. -/
def ledgerHeld (s : State) : Bool :=
  (s.validRegions.any fun p => p.2.role == 2) ||
  s.mgmt.pendingTide.any fun p => match keyRegion p.1 with
    | some r => (decodeRegion p.2).role == 2 || (s.region r).role == 2
    | none => false

/-! ### Sealed ranges (R386) -/

/-- A request to a sealed range is DENIED when the slot is not an XTS key of the range's world. -/
def sealDenied (a : Nat) (s : State) : Bool :=
  match s.regionAt a with
  | some (_, g) =>
    g.sealed_ && ((look KeySlot.reset g.keySlot s.sec.keys).kind != .xts ||
      (look KeySlot.reset g.keySlot s.sec.keys).world != g.world)
  | none => false

end Sys2Proof.Machine
end

