-- ==== Sys2Proof/Machine/Security.lean ====
section
/-!
DEFINITION. The Warden's services that change no traffic (chapter 14): derived identity, certificates, the SPDM responder,
owner claims and key commands. Cryptographic values are the uninterpreted functions of `Config`.
-/
namespace Sys2Proof.Machine

/-- Change the security state. -/
def State.setSec (s : State) (x : Security) : State := { s with sec := x }

/-! ### Identity (R371–R374, R380) -/

/-- The device secret passes its checks at start (R371). -/
def secretOk (f : Fuses) : Bool := f.parityOk && f.deviceSecret != 0 && f.deviceSecret != 2 ^ 256 - 1

/-- The DeviceID certificates are present and match the derived keys (R374). -/
def certsOk (s : State) : Bool :=
  !s.nvm.certEc.isEmpty && !s.nvm.certMl.isEmpty &&
  Config.certificateMatches s.fuses.deviceSecret s.nvm.certEc s.nvm.certMl

/-- The owner record is absent (R380). -/
def ownerAbsent (s : State) : Bool :=
  !s.nvm.owner.present || !s.nvm.owner.macOk || s.nvm.owner.epoch != s.fuses.epoch

/-- The keys the Warden derives at every start (R371–R374): with a failed secret no identity is derived. -/
def deriveIdentity (s : State) : State :=
  let s := s.setSec { s.sec with stagedEc := [], stagedMl := [], stagedVerify := [], flagAtStart := s.sec.debugFlag }
  let s := s.setOb 0x6040 1 0
  if !secretOk s.fuses then
    raiseNode Ev.secretFault 0 (s.setSec { s.sec with lifecycle := .secretFault, setTag := 0 })
  else
    let ok := certsOk s
    let s := s.setSec { s.sec with
      setTag := (Config.setTag s.fuses.deviceSecret).toNat, identityOk := ok
      aliasKey := (Config.aliasKey s.fuses.deviceSecret (s.ob 0x1000 5) s.sec.debugFlag s.me).toNat }
    let s := if ok then s else raiseNode Ev.identityRecordBad 0 s
    raiseNode Ev.identityDerived 0 s

/-- The lifecycle a start finds (R379, R380): OWNED while a record is present. -/
def recordLifecycle (s : State) : Lifecycle :=
  if s.nvm.owner.present && !ownerAbsent s then .owned else .unowned

/-! ### SPDM (R375–R378, R462) -/

/-- The SPDM responder answers only in CONFIG, READY and RUN, and not while the Warden restarts (R26, R375, R445). -/
def spdmBusy (s : State) : Bool :=
  !(s.power.node == .config || s.power.node == .ready || s.power.node == .run) || s.procs.warden.restart.isSome ||
  !s.procs.warden.running

/-- Answer a request with an SPDM response. -/
def spdmReply (r : Req) (m : SpdmReply) (s : State) : State := respond r ⟨0, 0, [], some m, false⟩ s

/-- Answer with an SPDM error. (PRESUMED, log 26) -/
def spdmError (r : Req) (e : SpdmError) (s : State) : State := spdmReply r (.error e) s

/-- An SPDM request as the Keeper hands it to the Warden. (PRESUMED, log 26) -/
def spdmBegin (r : Req) (f : State → State) (s : State) : State := if spdmBusy s then spdmError r .busy s else f s

/-- An SPDM request as it arrives, which asks for `i`. -/
def spdmTake (r : Req) (i : RequestOp) (f : State → State) (s : State) : Res := .next (takeRequest r i (spdmBegin r f) s)

/-- The connection of a requester. -/
def State.spdmOf (s : State) (src : Source) : Spdm :=
  match s.sec.spdm.find? fun c => c.peer == src with
  | some c => c
  | none => ⟨src, 0, false, none, [], 0, [], 0⟩

/-- Replace a connection. -/
def State.setSpdm (s : State) (c : Spdm) : State :=
  s.setSec { s.sec with spdm := c :: s.sec.spdm.filter fun x => x.peer != c.peer }

/-- A request that needs the negotiation to have ended answers UnexpectedRequest before it has (DSP0274). -/
def negotiated (r : Req) (f : State → State) (s : State) : State :=
  if (s.spdmOf r.src).stage < 3 then spdmError r .unexpectedRequest s else f s

/-- GET_VERSION (R375): 1.3 only; the connection begins anew. -/
def getVersionAct (r : Req) : State → State :=
  fun s => spdmReply r (.version 1 3) (s.setSpdm { s.spdmOf r.src with stage := 1, ml := false })

/-- GET_VERSION, as it arrives. -/
def execGetVersion (r : Req) (s : State) : Res := spdmTake r .getVersion (getVersionAct r) s

/-- The responder's capabilities (R375). -/
def spdmCapabilities : List String :=
  ["CERT", "CHAL", "MEAS_SIG", "ENCRYPT", "MAC", "KEY_EX", "HBEAT", "KEY_UPD", "MUT_AUTH", "CHUNK", "PUB_KEY_ID"]

/-- GET_CAPABILITIES (R375): DataTransferSize 4,096 B, MaxSPDMmsgSize 65,536 B. -/
def getCapabilitiesAct (r : Req) : State → State :=
  fun s =>
    if (s.spdmOf r.src).stage = 0 then spdmError r .unexpectedRequest s
    else spdmReply r (.capabilities spdmCapabilities 4096 65536) (s.setSpdm { s.spdmOf r.src with stage := 2 })

/-- GET_CAPABILITIES, as it arrives. -/
def execGetCapabilities (r : Req) (s : State) : Res := spdmTake r .getCapabilities (getCapabilitiesAct r) s

/-- NEGOTIATE_ALGORITHMS (R375): of what the requester offers, the supported ones are selected; without a common signature,
hash, key exchange and AEAD algorithm there is no selection. -/
def negotiateAlgorithmsAct (r : Req) (ecdsa mlDsa sha384 secp384 gcm : Bool) : State → State :=
  fun s =>
    if (s.spdmOf r.src).stage < 2 then spdmError r .unexpectedRequest s
    else if !(ecdsa || mlDsa) || !sha384 then spdmError r .invalidRequest s
    else spdmReply r (.algorithms ecdsa mlDsa sha384 secp384 gcm)
      (s.setSpdm { s.spdmOf r.src with stage := 3, ml := mlDsa && !ecdsa })

/-- NEGOTIATE_ALGORITHMS, as it arrives. -/
def execNegotiateAlgorithms (r : Req) (ecdsa mlDsa sha384 secp384 gcm : Bool) (s : State) : Res :=
  spdmTake r (.negotiateAlgorithms ecdsa mlDsa sha384 secp384 gcm) (negotiateAlgorithmsAct r ecdsa mlDsa sha384 secp384 gcm) s

/-- The certificate chain of a slot, root first (R374). -/
def certChain (slot : Nat) (s : State) : List Byte :=
  Config.rootCertificates slot ++ (if slot = 0 then s.nvm.certEc else s.nvm.certMl) ++
  Config.aliasCertificate slot s.sec.aliasKey s.me

/-- GET_DIGESTS (R375). -/
def getDigestsAct (r : Req) : State → State :=
  negotiated r fun s =>
    spdmReply r (.digests (Config.sha384 (certChain 0 s)).toNat (Config.sha384 (certChain 1 s)).toNat) s

/-- GET_DIGESTS, as it arrives. -/
def execGetDigests (r : Req) (s : State) : Res := spdmTake r .getDigests (getDigestsAct r) s

/-- GET_CERTIFICATE (R374): part of chain slot 0 or 1; Unspecified when the identity record is bad. -/
def getCertificateAct (r : Req) (slot offset length : Nat) : State → State :=
  negotiated r fun s =>
    if 1 < slot then spdmError r .invalidRequest s
    else if !s.sec.identityOk then spdmError r .unspecified s
    else
      let rest := (certChain slot s).drop offset
      spdmReply r (.certificate (rest.take (min length 4096)) (rest.length - min length 4096)) s

/-- GET_CERTIFICATE, as it arrives. -/
def execGetCertificate (r : Req) (slot offset length : Nat) (s : State) : Res :=
  spdmTake r (.getCertificate slot offset length) (getCertificateAct r slot offset length) s

/-- CHALLENGE (R375): answered with a signature by the Alias key. -/
def challengeAct (r : Req) (slot nonce : Nat) : State → State :=
  negotiated r fun s =>
    if 1 < slot then spdmError r .invalidRequest s
    else spdmReply r (.challengeAuth slot (Config.sign (s.sec.aliasKey + slot) nonce).toNat) s

/-- CHALLENGE, as it arrives. -/
def execChallenge (r : Req) (slot nonce : Nat) (s : State) : Res := spdmTake r (.challenge slot nonce) (challengeAct r slot nonce) s

/-- The code of a lifecycle (0x6000:01). -/
def Lifecycle.code : Lifecycle → Nat
  | .unowned => 0 | .owned => 1 | .zeroising => 2 | .secretFault => 3

/-- Measurement block i (R376): with no plan active or no owner, blocks 4 and 5 are the digest over 48 zero bytes. (DEDUCED, log 68) -/
def measurement (i : Nat) (s : State) : Nat :=
  match i with
  | 4 => match s.plans.active with | some p => p.digest | none => (Config.sha384 (zeroBytes 48)).toNat
  | 5 => if s.sec.lifecycle == .unowned then (Config.sha384 (zeroBytes 48)).toNat else
      (Config.sha384 (s.nvm.owner.keyEc ++ s.nvm.owner.keyMl ++ leBytes 4 (s.ob 0x6020 3) ++ leBytes 1 s.fuses.epoch)).toNat
  | 6 => (Config.sha384 [BitVec.ofNat 8 (b2n s.sec.flagAtStart), BitVec.ofNat 8 s.sec.lifecycle.code]).toNat
  | _ => (Config.firmwareDigest i (s.ob 0x1000 5)).toNat

/-- GET_MEASUREMENTS (R376): one of the six blocks, or all (0xFF), signed when asked. -/
def getMeasurementsAct (r : Req) (index nonce : Nat) (sign : Bool) : State → State :=
  negotiated r fun s =>
    let l := if index = 0xFF then [1, 2, 3, 4, 5, 6] else if 1 ≤ index && index ≤ 6 then [index] else []
    if l.isEmpty && index ≠ 0 then spdmError r .invalidRequest s
    else spdmReply r (.measurements (l.map fun i => (i, measurement i s))
      (if sign then some (Config.sign s.sec.aliasKey nonce).toNat else none)) s

/-- GET_MEASUREMENTS, as it arrives. -/
def execGetMeasurements (r : Req) (index nonce : Nat) (sign : Bool) (s : State) : Res :=
  spdmTake r (.getMeasurements index nonce sign) (getMeasurementsAct r index nonce sign) s

/-- KEY_EXCHANGE (R377): opens a secured session, up to four; whether mutual authentication is requested is the responder's
choice in KEY_EXCHANGE_RSP. During zeroisation owner sessions are not opened (R387). (PRESUMED, log 26) -/
def keyExchangeAct (r : Req) (slot : Nat) (mutAuth : Bool) : State → State :=
  negotiated r fun s =>
    if 4 ≤ s.sec.sessions.length then spdmError r .sessionLimitExceeded s
    else if 1 < slot then spdmError r .invalidRequest s
    else if mutAuth && s.sec.zeroing.isSome then spdmError r .busy s
    else
      let id := s.sec.nextSession
      let x := s.sec
      let s := s.setSec { x with nextSession := id + 1, sessions := x.sessions ++ [⟨id, r.src, mutAuth, false, false, s.now, 0⟩] }
      spdmReply r (.keyExchangeRsp id (s.ob 0x6010 2 / 2) mutAuth) (raiseNode Ev.sessionOpened id s)

/-- KEY_EXCHANGE, as it arrives. -/
def execKeyExchange (r : Req) (slot : Nat) (mutAuth : Bool) (s : State) : Res :=
  spdmTake r (.keyExchange slot mutAuth) (keyExchangeAct r slot mutAuth) s

/-- End one session (R377). -/
def endSession (id : Nat) (s : State) : State :=
  if s.sec.sessions.any (fun x => x.id == id) then
    raiseNode Ev.sessionClosed id (s.setSec { s.sec with sessions := s.sec.sessions.filter fun x => x.id != id })
  else s

/-- End every session: at a Warden restart, a warm reset, entry to REST or DEEP, and zeroisation (R377). -/
def endSessions (s : State) : State := forEach (s.sec.sessions.map (·.id)) endSession s

/-- Change one session. -/
def updSession (id : Nat) (f : Session → Session) (s : State) : State :=
  s.setSec { s.sec with sessions := s.sec.sessions.map fun x => if x.id = id then f x else x }

/-- A request inside a session: it must exist, and it is heard from. -/
def withSession (r : Req) (id : Nat) (f : Session → State → State) (s : State) : State :=
  match s.sec.sessions.find? fun x => x.id == id with
  | some x => f x (updSession id (fun x => { x with last := s.now }) s)
  | none => spdmError r .invalidSession s

/-- Whether a FINISH signature verifies under an owner key of the owner record (R378): only ML-DSA-65 when policy bit [2]
is 1. -/
def ownerSigned (id : Nat) (ml : Bool) (signature : List Byte) (s : State) : Bool :=
  !ownerAbsent s && (ml || !(s.ob 0x6020 3).testBit 2) &&
  Config.verifySignature ml (if ml then s.nvm.owner.keyMl else s.nvm.owner.keyEc) id signature

/-- FINISH (R378): completes a session; an owner session when mutual authentication was requested and the requester's
signature verifies; one that fails ends the session. (PRESUMED, log 26) -/
def finishAct (r : Req) (id : Nat) (ml : Bool) (signature : List Byte) : State → State :=
  withSession r id fun x s =>
    if x.finished then spdmError r .unexpectedRequest s
    else if !x.mutAuth then spdmReply r .finishRsp (updSession id (fun x => { x with finished := true }) s)
    else if ownerSigned id ml signature s then
      spdmReply r .finishRsp (updSession id (fun x => { x with finished := true, owner := true }) s)
    else spdmError r .decryptError (raiseNode Ev.ownerAuthFailed 0 ((endSession id s).bump 0x6010 5))

/-- FINISH, as it arrives. -/
def execFinish (r : Req) (id : Nat) (ml : Bool) (signature : List Byte) (s : State) : Res :=
  spdmTake r (.finish id ml signature) (finishAct r id ml signature) s

/-- HEARTBEAT (R377): keeps a session alive. -/
def heartbeatAct (r : Req) (id : Nat) : State → State :=
  withSession r id fun _ s => spdmReply r .heartbeatAck s

/-- HEARTBEAT, as it arrives. -/
def execHeartbeat (r : Req) (id : Nat) (s : State) : Res := spdmTake r (.heartbeat id) (heartbeatAct r id) s

/-- KEY_UPDATE (R375). -/
def keyUpdateAct (r : Req) (id : Nat) : State → State :=
  withSession r id fun _ s =>
    spdmReply r .keyUpdateAck (updSession id (fun x => { x with keyGen := x.keyGen + 1 }) s)

/-- KEY_UPDATE, as it arrives. -/
def execKeyUpdate (r : Req) (id : Nat) (s : State) : Res := spdmTake r (.keyUpdate id) (keyUpdateAct r id) s

/-- END_SESSION (R377). -/
def endSessionAct (r : Req) (id : Nat) : State → State :=
  withSession r id fun _ s => endSession id (spdmReply r .endSessionAck s)

/-- END_SESSION, as it arrives. -/
def execEndSession (r : Req) (id : Nat) (s : State) : Res := spdmTake r (.endSession id) (endSessionAct r id) s

/-- RESPOND_IF_READY (R375): returns the deferred response. -/
def respondIfReadyAct (r : Req) : State → State :=
  fun s =>
    match (s.spdmOf r.src).deferred with
    | some m => spdmReply r m (s.setSpdm { s.spdmOf r.src with deferred := none })
    | none => spdmError r .unexpectedRequest s

/-- RESPOND_IF_READY, as it arrives. -/
def execRespondIfReady (r : Req) (s : State) : Res := spdmTake r .respondIfReady (respondIfReadyAct r) s

/-- CHUNK_SEND (R462): the next chunk of a large message, up to MaxSPDMmsgSize. -/
def chunkSendAct (r : Req) (seq : Nat) (last : Bool) (data : List Byte) : State → State :=
  fun s =>
    let c := s.spdmOf r.src
    let c := if seq = 0 then { c with chunks := [], chunkSeq := 0 } else c
    if seq ≠ c.chunkSeq || 65536 < c.chunks.length + data.length then spdmError r .invalidRequest s
    else spdmReply r (.chunkSendAck seq)
      (s.setSpdm { c with chunks := c.chunks ++ data, chunkSeq := if last then 0 else seq + 1 })

/-- CHUNK_SEND, as it arrives. -/
def execChunkSend (r : Req) (seq : Nat) (last : Bool) (data : List Byte) (s : State) : Res :=
  spdmTake r (.chunkSend seq last data) (chunkSendAct r seq last data) s

/-- CHUNK_GET (R462): the next chunk of a large response. -/
def chunkGetAct (r : Req) (seq : Nat) : State → State :=
  fun s =>
    let c := s.spdmOf r.src
    if c.large.isEmpty || seq ≠ c.largeSeq then spdmError r .invalidRequest s
    else
      let rest := c.large.drop 4096
      spdmReply r (.chunkResponse seq (c.large.take 4096) rest.isEmpty)
        (s.setSpdm { c with large := rest, largeSeq := seq + 1 })

/-- CHUNK_GET, as it arrives. -/
def execChunkGet (r : Req) (seq : Nat) (s : State) : Res := spdmTake r (.chunkGet seq) (chunkGetAct r seq) s

/-- SPDM_UNSUPPORTED_REQUEST (R375): answered UnsupportedRequest, counted and raised. -/
def spdmUnsupportedRequestAct (r : Req) : State → State :=
  fun s => spdmError r .unsupportedRequest (raiseNode Ev.spdmError 0 (s.bump 0x6010 3))

/-- SPDM_UNSUPPORTED_REQUEST, as it arrives. -/
def execSpdmUnsupportedRequest (r : Req) (s : State) : Res := spdmTake r .spdmUnsupported (spdmUnsupportedRequestAct r) s

/-- An SPDM request that has waited behind another of its source (R443, R462). -/
def spdmHeld (r : Req) (i : RequestOp) (s : State) : State :=
  match i with
  | .getVersion => spdmBegin r (getVersionAct r) s
  | .getCapabilities => spdmBegin r (getCapabilitiesAct r) s
  | .negotiateAlgorithms ecdsa mlDsa sha384 secp384 gcm => spdmBegin r (negotiateAlgorithmsAct r ecdsa mlDsa sha384 secp384 gcm) s
  | .getDigests => spdmBegin r (getDigestsAct r) s
  | .getCertificate slot offset length => spdmBegin r (getCertificateAct r slot offset length) s
  | .challenge slot nonce => spdmBegin r (challengeAct r slot nonce) s
  | .getMeasurements index nonce sign => spdmBegin r (getMeasurementsAct r index nonce sign) s
  | .keyExchange slot mutAuth => spdmBegin r (keyExchangeAct r slot mutAuth) s
  | .finish id ml signature => spdmBegin r (finishAct r id ml signature) s
  | .heartbeat id => spdmBegin r (heartbeatAct r id) s
  | .keyUpdate id => spdmBegin r (keyUpdateAct r id) s
  | .endSession id => spdmBegin r (endSessionAct r id) s
  | .respondIfReady => spdmBegin r (respondIfReadyAct r) s
  | .chunkSend seq last data => spdmBegin r (chunkSendAct r seq last data) s
  | .chunkGet seq => spdmBegin r (chunkGetAct r seq) s
  | .spdmUnsupported => spdmBegin r (spdmUnsupportedRequestAct r) s
  | _ => s

/-- SESSION_IDLE_TIMEOUT (R377). -/
def execSessionIdleTimeout (id : Nat) (s : State) : Res :=
  .next (match s.sec.sessions.find? fun x => x.id == id with
    | some x => if s.elapsed x.last (s.ob 0x6010 2 * secT) then endSession id s else s
    | none => s)

/-! ### Key slots (R382–R384, R561) -/

/-- Key slot n. -/
def State.key (s : State) (n : Nat) : KeySlot := look .reset n s.sec.keys

/-- Change key slot n. -/
def State.setKey (s : State) (n : Nat) (k : KeySlot) : State :=
  let rest := s.sec.loaded.filter fun m => m != n
  s.setSec { s.sec with keys := put .reset n k s.sec.keys, loaded := if k.kind == .empty then rest else rest ++ [n] }

/-- A plan with a signature section is loaded, armed or active (R561). -/
def State.signedPlan (s : State) : Bool := (s.plans.active.toList ++ s.plans.loaded.toList).any (·.signed)

/-- A slot is named (R561). `plans` tells whether a plan with a signature section is loaded, armed or active. -/
def slotNamed (n : Nat) (plans : Bool) (s : State) : Bool :=
  slotNamedByRegion n s || (s.ob 0x5C00 5 == n && ledgerHeld s) ||
  (s.ob 0x2204 2 == n && (s.ob 0x2204 1 == 1 || plans))

/-- The kind code of a slot. -/
def KeyKind.code : KeyKind → Nat
  | .empty => 0 | .xts => 1 | .gcm => 2 | .verify => 3

/-- The state word of a slot (R382). -/
def slotWord (n : Nat) (plans : Bool) (s : State) : Nat :=
  let k := s.key n
  k.kind.code * 2 ^ 60 + b2n k.world * 2 ^ 59 + b2n (slotNamed n plans s) * 2 ^ 58 + k.loads % 65536 * 2 ^ 32 +
  k.fingerprint % 2 ^ 32

/-- Record a key command's refusal and deny it (R383). -/
def keyDenied (code : Nat) (s : State) : WResult := .denied (s.setOb 0x6030 2 code)

/-- A key command is put off while the Warden restarts or zeroisation runs (R26, R387). -/
def keyBusy (s : State) : Bool := s.procs.warden.restart.isSome || s.sec.zeroing.isSome

/-- Load an empty slot (R383): kind, world and key; one load counted, KEY_LOADED. -/
def loadKey (code n : Nat) (kind : KeyKind) (world : Bool) (fp k1 k2 : Nat) (s : State) : WResult :=
  if (s.key n).kind != .empty then keyDenied code s
  else .done (raiseNode Ev.keyLoaded n ((s.setKey n
    { kind := kind, world := world, loads := ((s.key n).loads + 1) % 65536, fingerprint := fp, key := k1, key2 := k2 }).setOb
      0x6030 2 0))

/-- Two AES-256 keys from the DRBG, drawn until they differ (R383). -/
def generateXts (n : Nat) (world : Bool) (s : State) : WResult :=
  let k1 := s.freeValue 256
  let d := s.takeFree.freeValue 256
  let e := s.takeFree.takeFree.freeValue 256
  let k2 := if d = k1 then (k1 + 1 + e % (2 ^ 256 - 1)) % 2 ^ 256 else d
  loadKey 1 n .xts world 0 k1 k2 s.takeFree.takeFree.takeFree

/-- One AES-256 key from the DRBG (R383). -/
def generateGcm (n : Nat) (world : Bool) (s : State) : WResult :=
  loadKey 2 n .gcm world 0 (s.freeValue 256) 0 s.takeFree

/-- The staged verification key pair (R383): 97 B ECDSA, then 1,952 B ML-DSA. It is cleared after the command. -/
def importVerify (n : Nat) (world : Bool) (s : State) : WResult :=
  let st := s.sec.stagedVerify
  let s := s.setSec { s.sec with stagedVerify := [] }
  if st.isEmpty || !Config.validPublicKey false (st.take 97) || !Config.validPublicKey true (st.drop 97) then keyDenied 3 s
  else loadKey 3 n .verify world ((Config.sha384 st).toNat % 2 ^ 32) (leNat (st.take 97)) (leNat (st.drop 97)) s

/-- Overwrite a slot that is not named (R383). -/
def eraseKey (n : Nat) (plans : Bool) (s : State) : WResult :=
  if slotNamed n plans s then keyDenied 4 s
  else .done (raiseNode Ev.keyErased n ((s.setKey n { KeySlot.reset with loads := (s.key n).loads }).setOb 0x6030 2 0))

/-- Carry out a key command word (R383). -/
def keyCommand (v : Nat) (plans : Bool) (s : State) : WResult :=
  let op := bits 63 56 v
  let n := bits 7 0 v
  let world := bit 48 v
  if keyBusy s then .refused St.retry 0 s
  else if op = 0 || 4 < op then keyDenied 0xFF s
  else if bits 55 49 v != 0 || bits 47 8 v != 0 then
    let s := if op = 3 then s.setSec { s.sec with stagedVerify := [] } else s
    keyDenied op s
  else if op = 1 then generateXts n world s
  else if op = 2 then generateGcm n world s
  else if op = 3 then importVerify n world s
  else eraseKey n plans s

/-- The 8 bytes of a key command word. -/
def keyWord (op : Nat) (world : Bool) (slot : Nat) : List Byte :=
  leBytes 8 (op * 2 ^ 56 + b2n world * 2 ^ 48 + slot % 256)

/-! ### CLAIM (R379) -/

/-- Both owner keys are staged. -/
def keysStaged (s : State) : Bool := !s.sec.stagedEc.isEmpty && !s.sec.stagedMl.isEmpty

/-- Write the owner record at an epoch (R380). -/
def writeOwner (ec ml : List Byte) (policy epoch : Nat) (s : State) : State :=
  { s with nvm := { s.nvm with owner := ⟨true, ec, ml, policy, epoch, true⟩ } }

/-- Clear the staged owner keys. -/
def clearStaged (s : State) : State := s.setSec { s.sec with stagedEc := [], stagedMl := [] }

/-- CLAIM: UNOWNED, CONFIG, in any secured session, both keys staged, an epoch fuse unblown; RETRY_LATER where the owner record cannot be
written (R470). -/
def claim (inSession : Bool) (s : State) : WResult :=
  if s.sec.lifecycle == .unowned && s.power.node == .config && inSession && keysStaged s && decide (s.fuses.epoch < 64) then
    if !s.canRecord 4 then .refused St.retry 0 (clearStaged s)
    else
    let e := s.fuses.epoch + 1
    let s := writeOwner s.sec.stagedEc s.sec.stagedMl (s.ob 0x6020 3) e { s with fuses := { s.fuses with epoch := e } }
    .done (raiseNode Ev.ownerClaimed 0 (clearStaged (s.setSec { s.sec with lifecycle := .owned })))
  else .denied (clearStaged s)

/-- A policy write rewrites the owner record at the same epoch (R381). -/
def writePolicy (v : Nat) (s : State) : State :=
  let s := s.setOb 0x6020 3 v
  if s.nvm.owner.present then { s with nvm := { s.nvm with owner := { s.nvm.owner with policy := v } } } else s

end Sys2Proof.Machine
end

