-- ==== Sys2Proof/Machine/Line.lean ====
section
/-!
DEFINITION. Stored lines: the check field, the line's CRC-32C, poison (R241–R244), the seal of a sealed range (R386), and
the cells of the stacks as a byte memory in one canonical form.
-/
namespace Sys2Proof.Machine

/-! ### CRC-32C (R242) -/

/-- One bit of the reflected Castagnoli CRC. -/
def crcBit (c : Nat) : Nat := if c % 2 = 1 then (c / 2) ^^^ 0x82F63B78 else c / 2

/-- One byte of the CRC. -/
def crcByte (c b : Nat) : Nat := crcBit (crcBit (crcBit (crcBit (crcBit (crcBit (crcBit (crcBit (c ^^^ b))))))))

/-- CRC-32C: reflected, initial value and final XOR 0xFFFF_FFFF. -/
def crc32c (bs : List Byte) : Nat := bs.foldl (fun c b => crcByte c b.toNat) 0xFFFFFFFF ^^^ 0xFFFFFFFF

/-! ### Lines -/

/-- A line as the block handles it: 128 data bytes and the metadata U16 (metadata bit 16 + k is bit k). -/
structure Line where
  data : List Byte
  info : Nat
  deriving DecidableEq, Repr

/-- Metadata fields (R241). -/
def Line.tag (l : Line) : Nat := bits 15 12 l.info
def Line.poison (l : Line) : Bool := l.info.testBit 11
def Line.escape (l : Line) : Bool := l.info.testBit 10
def Line.isSealed (l : Line) : Bool := l.info.testBit 9

/-- Metadata from its fields. -/
def infoOf (tag : Nat) (poison escape sealBit : Bool) : Nat :=
  tag % 16 * 2 ^ 12 + b2n poison * 2 ^ 11 + b2n escape * 2 ^ 10 + b2n sealBit * 2 ^ 9

/-- The CRC of a line at a home channel offset (R242). -/
def lineCrc (off : Nat) (l : Line) : Nat := crc32c (fitBytes 128 l.data ++ leBytes 4 (off % 2 ^ 30) ++ leBytes 2 l.info)

/-- The 136 bytes stored for a line at a home channel offset (R241): data, then the check field. -/
def encodeLine (off : Nat) (l : Line) : List Byte :=
  fitBytes 128 l.data ++ leBytes 2 0 ++ leBytes 2 l.info ++ leBytes 4 (lineCrc off l)

/-- The line that 136 stored bytes hold. -/
def decodeLine (bs : List Byte) : Line := ⟨bs.take 128, leNat (sliceBytes 130 2 bs)⟩

/-- Whether stored bytes pass their check at a home channel offset (R243): the CRC agrees and metadata [24:16] is 0. -/
def passesCheck (off : Nat) (bs : List Byte) : Bool :=
  leNat (sliceBytes 132 4 bs) == lineCrc off (decodeLine bs) && leNat (sliceBytes 130 2 bs) % 512 == 0

/-- The poisoned line (R244). -/
def poisonLine (sealBit : Bool) : Line := ⟨zeroBytes 128, infoOf 0 true false sealBit⟩

/-! ### Sealing (R386) -/

/-- AES-256-XTS of a line's 128 bytes under a slot's two keys, the set address as tweak. (DEDUCED, log 36) -/
def sealData (k : KeySlot) (a : Nat) (d : List Byte) : List Byte :=
  leBytes 128 (Config.xts k.key k.key2 (lineOf a) (BitVec.ofNat 1024 (leNat d))).toNat

/-- The inverse of `sealData`. -/
def unsealData (k : KeySlot) (a : Nat) (d : List Byte) : List Byte :=
  leBytes 128 ((Config.xts k.key k.key2 (lineOf a)).symm (BitVec.ofNat 1024 (leNat d))).toNat

/-! ### Cells -/

/-- A physical line (R15): channel, layer, bank, row (4,096 and up are spare rows), line in row. -/
def physLine (c layer bank row line : Nat) : Nat := (((c * 16 + layer) * 16 + bank) * 4104 + row) * 8 + line

/-- The parts of a physical line key. -/
def plLine (k : Nat) : Nat := k % 8
def plRow (k : Nat) : Nat := k / 8 % 4104
def plBank (k : Nat) : Nat := k / (8 * 4104) % 16
def plLayer (k : Nat) : Nat := k / (8 * 4104 * 16) % 16
def plChan (k : Nat) : Nat := k / (8 * 4104 * 256)

/-- The key of a block of 8 rows of a channel: even, so that no spare row shares it. -/
def blockKey (c block : Nat) : Nat := 2 * (512 * c + block)

/-- The block of 8 rows a physical line lies in; a spare row is a block of its own, which is never filled. -/
def fillKey (k : Nat) : Nat := if plRow k < 4096 then blockKey (plChan k) (plRow k / 8) else 2 * (k / 8) + 1

/-- What a fill code writes at a home channel offset: 0 zero bytes, 1 a poisoned line, 2 one whose sealed bit is 1 (R244),
3 a line of zero data (R363). -/
def filledLine (off code : Nat) : List Byte :=
  match code with
  | 0 => zeroBytes 136
  | 3 => encodeLine off ⟨zeroBytes 128, 0⟩
  | c => encodeLine off (poisonLine (c == 2))

/-- The 136 bytes an unlisted line reads as: zeros, or what its block was filled with. -/
def defaultLine (fill : Store Nat) (k : Nat) : List Byte :=
  filledLine (offsetOf (plRow k) (plLayer k) (plBank k) (plLine k)) (look 0 (fillKey k) fill)

/-- What an unlisted cell reads as. (DESIGN CHOICE, log 4) -/
def cellDefault (fill : Store Nat) (addr : Nat) : Byte := (defaultLine fill (addr / 136)).getD (addr % 136) 0

/-- Read one cell. (DESIGN CHOICE, log 4) -/
def readCell (m : Dram) (addr : Nat) : Byte := look (cellDefault m.fill addr) addr m.cells

/-- Read a physical line's 136 bytes. -/
def readPhys (m : Dram) (k : Nat) : List Byte := (List.range 136).map fun i => readCell m (136 * k + i)

/-- Write one cell, keeping the canonical form. -/
def writeCell (m : Dram) (addr : Nat) (b : Byte) : Dram := { m with cells := put (cellDefault m.fill addr) addr b m.cells }

/-- Write consecutive cells. -/
def writeCells (m : Dram) (addr : Nat) : List Byte → Dram
  | [] => m
  | b :: bs => writeCells (writeCell m addr b) (addr + 1) bs

/-- Write a physical line's 136 bytes. A line of a block whose content was undefined is defined from then on. -/
def writePhys (m : Dram) (k : Nat) (bs : List Byte) : Dram :=
  let m := writeCells m (136 * k) (fitBytes 136 bs)
  if look 0 (fillKey k) m.lost = 1 then { m with rewritten := put 0 k 1 m.rewritten } else m

/-- Whether a physical line's content is undefined (R530). -/
def undefinedLine (m : Dram) (k : Nat) : Bool := look 0 (fillKey k) m.lost == 1 && look 0 k m.rewritten == 0

/-- Write a whole block of 8 rows with a fill code: its cells are dropped and its default changes. -/
def fillBlock (c block code : Nat) (m : Dram) : Dram :=
  let key := blockKey c block
  let inBlock (k : Nat) : Bool := fillKey k == key
  { m with
    cells := m.cells.filter fun p => !inBlock (p.1 / 136)
    fill := put 0 key code m.fill
    lost := put 0 key 0 m.lost
    rewritten := m.rewritten.filter fun p => !inBlock p.1 }

/-- The blocks of a segment m of a channel: rows 256m to 256m + 255 (R530). -/
def segmentBlocks (m : Nat) : List Nat := (List.range 32).map fun i => 32 * m + i

/-- The content of a physical row becomes undefined: for a spare row, which is a block of its own (R527). -/
def loseSpare (c layer bank row : Nat) (m : Dram) : Dram :=
  let key := fillKey (physLine c layer bank row 0)
  { m with lost := put 0 key 1 m.lost
           rewritten := m.rewritten.filter fun p => fillKey p.1 != key }

/-- The content of the segments a mask does not retain becomes undefined (R530). -/
def loseSegments (c mask : Nat) (m : Dram) : Dram :=
  forEach ((List.range 16).filter fun g => !mask.testBit g) (fun g m =>
    forEach (segmentBlocks g) (fun b m =>
      { m with lost := put 0 (blockKey c b) 1 m.lost
               rewritten := m.rewritten.filter fun p => fillKey p.1 != blockKey c b }) m) m

/-- The canonical form of the cells: addresses strictly rising, none equal to what an unlisted one reads as. -/
def cellsWf (fill : Store Nat) : List Host.Cell → Bool
  | [] => true
  | [(a, b)] => decide (b ≠ cellDefault fill a)
  | (a, b) :: (a', b') :: m => decide (b ≠ cellDefault fill a) && decide (a < a') && cellsWf fill ((a', b') :: m)

/-- The canonical form of the memory. -/
def Dram.wf (m : Dram) : Bool := cellsWf m.fill m.cells

end Sys2Proof.Machine
end

