-- ==== Sys2Proof/Machine/Layers.lean ====
section
/-!
DEFINITION. The DRAM layers (chapter 20): what each command of the stack die interface does to the layers of a channel.
The channel controller issues the same operations when it drives a slot.
-/
namespace Sys2Proof.Machine

/-! ### Places -/

/-- What a layer holds for a channel. -/
def State.lay (s : State) (c l : Nat) : LayerChan := look .reset (16 * c + l) s.dram.layers
def State.setLay (s : State) (c l : Nat) (x : LayerChan) : State :=
  { s with dram := { s.dram with layers := put .reset (16 * c + l) x s.dram.layers } }
def State.dch (s : State) (c : Nat) : DramChan := look .reset c s.dram.chans
def State.setDch (s : State) (c : Nat) (x : DramChan) : State :=
  { s with dram := { s.dram with chans := put .reset c x s.dram.chans } }
def State.die (s : State) (st l : Nat) : LayerDie := look .reset (16 * st + l) s.dram.dies
def State.setDie (s : State) (st l : Nat) (x : LayerDie) : State :=
  { s with dram := { s.dram with dies := put .reset (16 * st + l) x s.dram.dies } }

/-- The stack of a channel. -/
def stackOf (c : Nat) : Nat := c / 72

/-- The layers of a stack. -/
def layers16 : List Nat := List.range 16

/-- A layer takes commands: it is there, the channel is out of self-refresh (R530), and it is not in CA capture (R519). -/
def State.layOn (s : State) (c l : Nat) : Bool :=
  (s.die (stackOf c) l).present && (s.dch c).selfRef.isNone && !(s.lay c l).capturing

/-! ### Alerts (R520–R523) -/

/-- ALERT_n is asserted for a command on a channel, which the command has drawn (R522, R523). -/
def alertOn (c : Nat) (s : State) : State :=
  (s.setDch c { s.dch c with alerts := (s.dch c).alerts + 1 }).bump (0x3800 + stackOf c) 6

/-- A layer ignores a command with a protocol alert (R521): STATUS [2]. -/
def markAlert (c l : Nat) (s : State) : State := s.setLay c l { s.lay c l with protoAlert := true }
def protoAlert (c l : Nat) (s : State) : State := alertOn c (markAlert c l s)

/-- One channel's part of a node's silicon is there. -/
def State.chanOk (s : State) (c : Nat) : Bool := decide (c < s.channels)

/-! ### Banks and rows -/

/-- The open row of a bank. -/
def LayerChan.openRow (x : LayerChan) (bank : Nat) : Option Nat :=
  match look 0 bank x.open_ with | 0 => none | r + 1 => some r

def LayerChan.setOpen (x : LayerChan) (bank : Nat) (row : Option Nat) : LayerChan :=
  { x with open_ := put 0 bank (match row with | none => 0 | some r => r + 1) x.open_ }

/-- The spare row a row of a bank is mapped to; a soft mapping takes precedence over a hard one (R529). -/
def LayerChan.spareOf (x : LayerChan) (bank row : Nat) : Option Nat :=
  match look 0 (4096 * bank + row) x.soft with
  | i + 1 => some i
  | 0 => match look 0 (4096 * bank + row) x.hard with | i + 1 => some i | 0 => none

/-- The physical row that holds a row's content. -/
def LayerChan.physRow (x : LayerChan) (bank row : Nat) : Nat :=
  match x.spareOf bank row with | some i => 4096 + i | none => row

/-- A bank is in hard repair (R528). -/
def LayerChan.inRepair (x : LayerChan) (bank : Nat) : Bool :=
  match x.busy with | some (b, _, _) => b == bank | none => false

/-- Every bank of a layer is precharged. -/
def LayerChan.idle (x : LayerChan) : Bool := x.open_.isEmpty

/-- The physical line a row, bank and line of a layer name. -/
def State.cellLine (s : State) (c l bank row line : Nat) : Nat := physLine c l bank ((s.lay c l).physRow bank row) line

/-- The rows of a block of 8 rows that spare rows replace: layer, bank, row. -/
def replacedRows (c : Nat) (want : Nat → Bool) (s : State) : List (Nat × Nat × Nat) :=
  layers16.flatMap fun l =>
    let x := s.lay c l
    let keys := (x.soft.map (·.1)) ++ ((x.hard.map (·.1)).filter fun k => look 0 k x.soft == 0)
    (keys.filter fun k => want (k % 4096)).map fun k => (l, k / 4096, k % 4096)

/-- Every line of a block of 8 rows of a channel is written with a fill code. -/
def fillRows (c block code : Nat) (s : State) : State :=
  let s := { s with dram := fillBlock c block code s.dram }
  forEach (replacedRows c (fun r => r / 8 == block) s) (fun p s =>
    forEach (List.range 8) (fun i s =>
      let (l, bank, row) := p
      let bytes := filledLine (offsetOf row l bank i) code
      { s with dram := writePhys s.dram (s.cellLine c l bank row i) bytes }) s) s

/-- The content of the segments a mask does not retain is undefined, with the spare rows that replace their rows (R530). -/
def loseContent (c mask : Nat) (s : State) : State :=
  let s := { s with dram := loseSegments c mask s.dram }
  forEach (replacedRows c (fun r => !mask.testBit (r / 256)) s) (fun p s =>
    { s with dram := loseSpare c p.1 p.2.1 ((s.lay c p.1).physRow p.2.1 p.2.2) s.dram }) s

/-! ### Pattern generators (R517) -/

/-- One step of a lane generator: the step bit and the next state. -/
def genBit (g : Nat) : Nat := g / 16384 % 2 ^^^ g / 8192 % 2
def genStep (g : Nat) : Nat := (2 * g + genBit g) % 32768

/-- A lane's generator as loaded from a seed. -/
def genLoad (seed lane : Nat) : Nat :=
  let v := (seed + 163 * lane) % 32768
  if v = 0 then 1 else v

/-- A generator after some steps. -/
def genAfter (g : Nat) : Nat → Nat
  | 0 => g
  | n + 1 => genStep (genAfter g n)

/-- A lane's generator after the steps it has made. -/
def LayerChan.gen (x : LayerChan) (lane extra : Nat) : Nat :=
  genAfter (genLoad x.seed lane) ((look 0 lane x.steps + extra) % 32767)

/-- The value of a register; an unlisted one has its reset value (R513). -/
def regReset (a : Nat) : Nat :=
  if a = 0x11 then 0x1F else if a = 0x12 then 50 else if a = 0x13 then 110 else if a = 0x15 then 1
  else if 0x20 ≤ a && a ≤ 0x31 then 50 else 0
def LayerChan.reg (x : LayerChan) (a : Nat) : Nat := look (regReset a) a x.regs

/-- The pattern bit of lane i of group g in the b-th beat from now: none when the pattern drives nothing (R517). -/
def LayerChan.patternBit (x : LayerChan) (g i b : Nat) : Option Nat :=
  match x.reg 0x14 % 4 with
  | 0 => some (b % 2)
  | 1 => some (genBit (x.gen (8 * g + i) b))
  | 2 => some (genBit (x.gen (8 * g) b) ^^^ i % 2)
  | _ => none

/-- A group's eight pattern bits. -/
def LayerChan.patternByte (x : LayerChan) (g b : Nat) : Option Nat :=
  if x.reg 0x14 % 4 = 3 then none
  else some ((List.range 8).foldl (fun a i => a + (x.patternBit g i b).getD 0 * 2 ^ i) 0)

/-- The generators of a group step once a beat. -/
def LayerChan.stepGroup (x : LayerChan) (g beats : Nat) : LayerChan :=
  if x.reg 0x14 % 4 = 3 then x
  else { x with steps := forEach (List.range 8) (fun i m => alter 0 (8 * g + i) (fun n => n + beats) m) x.steps }

/-- The generators are loaded from the seed registers. -/
def LayerChan.loadGens (x : LayerChan) : LayerChan := { x with seed := x.reg 0x16 % 128 * 256 + x.reg 0x15, steps := [] }

/-! ### The lanes (R299, R312, R507, R508) -/

/-- The half in use: 0 full width, 1 half A, 2 half B. -/
def LayerChan.width (x : LayerChan) : Nat := bits 2 1 (x.reg 0x10)
/-- Beats of a data burst. -/
def LayerChan.beats (x : LayerChan) : Nat := if x.width = 0 then 8 else 16
/-- The group the spare group carries. -/
def LayerChan.steer (x : LayerChan) : Option Nat := if x.reg 0x11 % 32 ≤ 16 then some (x.reg 0x11 % 32) else none

/-- A group carries line bytes at the width in use. -/
def LayerChan.inWidth (x : LayerChan) (g : Nat) : Bool :=
  g == 16 || match x.width with | 0 => decide (g < 16) | 1 => decide (g < 8) | _ => decide (8 ≤ g) && decide (g < 16)

/-- The byte of the 136 that group g carries in beat b: none where the check group carries 0. -/
def LayerChan.byteAt (x : LayerChan) (g b : Nat) : Option Nat :=
  if g = 16 then (if b < 8 then some (128 + b) else none)
  else if x.width = 0 then some (16 * b + g)
  else some (8 * b + g % 8)

/-- A group's eight bits in a beat of a burst. -/
def laneByte (burst b g : Nat) : Nat := burst >>> (144 * b + 8 * g) % 256

/-- The 136 bytes a layer takes from the lanes of a write burst (R507, R508). -/
def LayerChan.takeBurst (x : LayerChan) (burst : Nat) : List Byte :=
  (List.range 136).map fun k =>
    let (b, g) :=
      if 128 ≤ k then (k - 128, 16)
      else if x.width = 0 then (k / 16, k % 16)
      else (k / 8, k % 8 + if x.width = 2 then 8 else 0)
    BitVec.ofNat 8 (laneByte burst b (if x.steer == some g then 17 else g))

/-- The burst a controller drives for 136 bytes: the spare group stands in where STEER says (R308, R507, R508). -/
def LayerChan.makeBurst (x : LayerChan) (bytes : List Byte) : Nat :=
  (List.range x.beats).foldl (fun a b => (List.range 18).foldl (fun a g =>
    let src := if g = 17 then x.steer else if x.steer == some g then none else if x.inWidth g then some g else none
    let v := match src with
      | some h => match x.byteAt h b with | some k => (bytes.getD k 0).toNat | none => 0
      | none => 0
    a + v * 2 ^ (144 * b + 8 * g)) a) 0

/-- Drive a burst: `src` gives a group's bits in a beat. With `pattern`, an offline group's lanes carry the pattern (R508). -/
def driveBurst (c l beats : Nat) (pattern : Bool) (src : Nat → Nat → Nat) (used : Nat → Bool) (s : State) : State :=
  let x := s.lay c l
  let offline := pattern && !(x.reg 0x11).testBit 5
  let val (b g : Nat) : Option Nat :=
    if g = 17 then (match x.steer with | some k => if used k then some (src b k) else none | none => none)
    else if x.steer == some g then (if offline then x.patternByte g b else none)
    else if used g then some (src b g) else none
  let bus := (List.range beats).foldl (fun a b => (List.range 18).foldl (fun a g =>
    a + (val b g).getD 0 * 2 ^ (144 * b + 8 * g)) a) 0
  let driven := (List.range 18).foldl (fun a g => if (val 0 g).isSome then a + 255 * 2 ^ (8 * g) else a) 0
  let x' := match x.steer with
    | some g => if offline then x.stepGroup g beats else x
    | none => x
  (s.setLay c l x').setDch c { s.dch c with bus := bus, driven := driven }

/-! ### Row commands -/

/-- ACT (R510): opens the row. -/
def layAct (c l bank row : Nat) (s : State) : State :=
  let x := s.lay c l
  if !s.layOn c l then s
  else if (x.openRow bank).isSome || x.inRepair bank then protoAlert c l s
  else s.setLay c l (x.setOpen bank (some row))

/-- PRE (R510): precharges one bank. -/
def layPre (c l bank : Nat) (s : State) : State :=
  let x := s.lay c l
  if !s.layOn c l then s
  else if x.inRepair bank then protoAlert c l s
  else s.setLay c l (x.setOpen bank none)

/-- PREab of one layer. -/
def layPreLayer (c l : Nat) (s : State) : State :=
  if s.layOn c l then s.setLay c l { s.lay c l with open_ := [] } else s

/-- PREab (R510): every bank of a layer, or of every layer, for which [19:11] are 0; otherwise the layer named ignores it (R521). -/
def layPreab (c l : Nat) (all : Bool) (s : State) : State :=
  if !all then layPreLayer c l s
  else if l = 0 then forEach layers16 (layPreLayer c) s
  else if s.layOn c l then protoAlert c l s
  else s

/-- Whether a mode register may be written with a value (R513): it is RW, its rsvd fields are 0 and the value is one its
content names. (DEDUCED, log 51) -/
def regWritable (a v : Nat) : Bool :=
  if a = 0x10 then decide (v < 6)
  else if a = 0x11 then decide (v < 64) && (decide (v % 32 ≤ 16) || v % 32 == 31)
  else if a = 0x12 || (0x20 ≤ a && a ≤ 0x31) then decide (v ≤ 100)
  else if a = 0x13 then decide (v < 128)
  else if a = 0x14 then decide (v < 4)
  else if a = 0x15 then true
  else if a = 0x16 then decide (v < 128)
  else if a = 0x17 then decide (v < 4)
  else if a = 0x18 then decide (v < 16)
  else false

/-- The thermal flag condition of a layer after a change of reading or of FLAG_TEMP (R533). -/
def LayerDie.refreshFlag (d : LayerDie) : LayerDie :=
  let codes := (List.range 9).filterMap fun i =>
    let v := look 0x8000 i d.readings
    if v = 0x8000 then none else some (signed 16 v)
  match codes with
  | [] => d
  | v :: vs =>
    let hot := vs.foldl max v
    let flag := if decide ((4 * d.flagTemp : Nat) ≤ hot) then true
      else if decide (hot < 4 * (d.flagTemp : Int) - 12) then false else d.flag
    let cls := if decide (380 ≤ hot) then 2
      else if decide (340 ≤ hot) then (if d.tempClass = 2 && decide (368 ≤ hot) then 2 else 1)
      else if d.tempClass ≥ 1 && decide (328 ≤ hot) then 1 else 0
    { d with flag := flag, flagOnsets := d.flagOnsets + b2n (flag && !d.flag), tempClass := cls }

/-- A mode register write to one layer (R513, R517, R519). -/
def layRegWrite (c l a v : Nat) (s : State) : State :=
  if !s.layOn c l then s
  else
    let x := s.lay c l
    let x := { x with regs := put (regReset a) a v x.regs }
    let x := if a = 0x14 || a = 0x15 || a = 0x16 then x.loadGens else x
    let x := if a = 0x17 && v.testBit 0 then { x with capturing := true } else x
    let s := s.setLay c l x
    if a = 0x13 then
      let d := s.die (stackOf c) l
      let s := s.setDie (stackOf c) l ({ d with flagTemp := v }).refreshFlag
      s.setOb (0x3800 + stackOf c) 0x0C v
    else s

/-- MRW (R513). (DEDUCED, log 51) -/
def layMrw (c l a v : Nat) (s : State) : State :=
  if !s.layOn c l then s
  else if regWritable a v then layRegWrite c l a v s else protoAlert c l s

/-- MRWB (R513): every layer. An ignored one draws one alert. -/
def layMrwb (c a v : Nat) (s : State) : State :=
  if regWritable a v then forEach layers16 (fun l => layRegWrite c l a v) s
  else
    let ls := layers16.filter fun l => s.layOn c l
    if ls.isEmpty then s else alertOn c (forEach ls (markAlert c) s)

/-! ### Self-refresh (R530–R532) -/

/-- tREFIpb in ticks of a class (R185). -/
def refiT (cls : Nat) : Nat := 187500 / 2 ^ cls

/-- Bring the refresh row counters of a layer up to now at the present pace (R531): by two rows each interval. (DEDUCED, log 51) -/
def srAdvance (c l : Nat) (s : State) : State :=
  match (s.dch c).selfRef with
  | none => s
  | some (cls, _) =>
    let x := s.lay c l
    let t := refiT (max cls (s.die (stackOf c) l).tempClass)
    let n := (s.now - x.srSince) / t
    s.setLay c l { x with
      refRow := forEach (List.range 16) (fun b m => alter 0 b (fun r => (r + 2 * n) % 4096) m) x.refRow
      srSince := x.srSince + n * t }

/-- SRE (R530): every layer enters self-refresh with a class and a segment mask. -/
def laySre (c cls mask : Nat) (s : State) : State :=
  let ls := layers16.filter fun l => s.layOn c l
  if ls.isEmpty then s
  else if cls = 3 || ls.any (fun l => !(s.lay c l).idle) then
    alertOn c (forEach (ls.filter fun l => cls == 3 || !(s.lay c l).idle) (markAlert c) s)
  else
    let s := forEach layers16 (fun l s => s.setLay c l { s.lay c l with srSince := s.now }) s
    s.setDch c { s.dch c with selfRef := some (cls, mask) }

/-- SRX (R532): the layers leave self-refresh; what was not retained is undefined. -/
def laySrx (c : Nat) (s : State) : State :=
  match (s.dch c).selfRef with
  | none => s
  | some (_, mask) =>
    let s := forEach layers16 (fun l s => srAdvance c l s) s
    let s := forEach layers16 (fun l s => s.setLay c l { s.lay c l with srSince := 0 }) s
    (loseContent c mask s).setDch c { s.dch c with selfRef := none }

/-! ### Row repair (R527, R528) -/

/-- A soft mapping of a row to a spare row: the spare row's content is undefined until written, but for a repeat. -/
def softMap (c l bank row i : Nat) (s : State) : State :=
  let x := s.lay c l
  if look 0 (4096 * bank + row) x.soft = i + 1 then s
  else
    let keep := x.soft.filter fun p => !(p.1 / 4096 == bank && p.2 == i + 1)
    let s := s.setLay c l { x with soft := put 0 (4096 * bank + row) (i + 1) keep }
    { s with dram := loseSpare c l bank (4096 + i) s.dram }

/-- RPR (R527, R528). (DEDUCED, log 51) -/
def layRpr (c l bank row : Nat) (s : State) : State :=
  let x := s.lay c l
  let i := x.reg 0x18 % 8
  if !s.layOn c l then s
  else if !x.idle || x.inRepair bank then protoAlert c l s
  else if (x.reg 0x18).testBit 3 then s.setLay c l { x with busy := some (bank, row, i) }
  else softMap c l bank row i s

/-- The end of a hard repair (R528): the mapping is fused, or STATUS [1] is set. A spare row to which the row was already mapped keeps its
content; any other is undefined until written (R527). -/
def layHardDone (c l : Nat) (ok : Bool) (s : State) : State :=
  let x := s.lay c l
  match x.busy with
  | none => s
  | some (bank, row, i) =>
    if ok then
      let key := 4096 * bank + row
      let held := look 0 key x.soft == i + 1 || look 0 key x.hard == i + 1
      let s := s.setLay c l { x with busy := none, hardFailed := false, hard := put 0 key (i + 1) x.hard }
      if held then s else { s with dram := loseSpare c l bank (4096 + i) s.dram }
    else s.setLay c l { x with busy := none, hardFailed := true }

/-! ### Column commands -/

/-- Close the bank behind an access with auto-precharge. -/
def autoPre (c l bank : Nat) (ap : Bool) (s : State) : State :=
  if ap then s.setLay c l ((s.lay c l).setOpen bank none) else s

/-- Whether a read or write finds its bank ready: the open row. -/
def State.rowOf (s : State) (c l bank : Nat) : Option Nat :=
  if (s.lay c l).inRepair bank then none else (s.lay c l).openRow bank

/-- The 136 bytes a line of an open row holds; a free value where the content is undefined. -/
def lineBytes (c l bank row line : Nat) (s : State) : List Byte × State :=
  let k := s.cellLine c l bank row line
  if undefinedLine s.dram k then (leBytes 136 (s.freeValue 1088), s.takeFree) else (readPhys s.dram k, s)

/-- RD (R510): the line on the array path; none when it draws an alert or the layer takes no command. (DEDUCED, log 51) -/
def layRd (c l bank line : Nat) (ap : Bool) (s : State) : Option (List Byte) × State :=
  if !s.layOn c l then (none, s)
  else match s.rowOf c l bank with
    | none => (none, protoAlert c l s)
    | some row =>
      let (bytes, s) := lineBytes c l bank row line s
      let x := s.lay c l
      let s := driveBurst c l x.beats true
        (fun b g => match x.byteAt g b with | some k => (bytes.getD k 0).toNat | none => 0) x.inWidth s
      (some bytes, autoPre c l bank ap s)

/-- RDC (R511): the chaff pattern in place of the line. -/
def layRdc (c l bank : Nat) (ap : Bool) (s : State) : State :=
  if !s.layOn c l then s
  else match s.rowOf c l bank with
    | none => protoAlert c l s
    | some _ =>
      let s := driveBurst c l (s.lay c l).beats true (fun b _ => if b % 2 = 0 then 0xAA else 0x55) (s.lay c l).inWidth s
      autoPre c l bank ap s

/-- WR (R510, R521): the line from the lanes; a missing preamble draws an alert and nothing is written. The result tells
whether an alert was drawn. -/
def layWr (c l bank line : Nat) (ap preamble : Bool) (burst : Nat) (s : State) : Bool × State :=
  if !s.layOn c l then (false, s)
  else match s.rowOf c l bank with
    | none => (true, protoAlert c l s)
    | some row =>
      if !preamble then (true, alertOn c s)
      else
        let s := { s with dram := writePhys s.dram (s.cellLine c l bank row line) ((s.lay c l).takeBurst burst) }
        (false, autoPre c l bank ap s)

/-- The byte a register readout returns at an address (R513, R516). -/
def layReg (c l a : Nat) (s : State) : Nat :=
  let x := s.lay c l
  let d := s.die (stackOf c) l
  let temp (i : Nat) : Nat := look 0x8000 i d.readings
  if a < 8 then bits (8 * a + 7) (8 * a) d.id
  else if a = 0x08 then d.revision % 16 * 16 + l
  else if a = 0x09 then b2n x.busy.isSome + 2 * b2n x.hardFailed + 4 * b2n x.protoAlert + 8 * b2n x.parityErr
  else if a = 0x0A then x.parityCount
  else if a = 0x40 then temp (sheafOf c % 8) % 256
  else if a = 0x41 then temp (sheafOf c % 8) / 256
  else if a = 0x42 then temp 8 % 256
  else if a = 0x43 then temp 8 / 256
  else if a = 0x44 then b2n d.flag + 2 * b2n (decide (x.flagSeen < d.flagOnsets) || d.flag)
  else if 0x48 ≤ a && a ≤ 0x59 then x.errors >>> (8 * (a - 0x48)) % 256
  else if 0x10 ≤ a && a ≤ 0x31 && a ≠ 0x19 then x.reg a
  else 0

/-- What a readout clears: STATUS [3:1], PARITY_COUNT, and the latched thermal flag. -/
def clearOnRead (c l a : Nat) (s : State) : State :=
  let x := s.lay c l
  let d := s.die (stackOf c) l
  if a = 0x08 then s.setLay c l { x with hardFailed := false, protoAlert := false, parityErr := false, parityCount := 0 }
  else if a = 0x40 then s.setLay c l { x with flagSeen := d.flagOnsets - b2n d.flag }
  else s

/-- MRR (R515): eight register bytes on the check group's lanes; none when it draws an alert or nothing answers. -/
def layMrr (c l a : Nat) (s : State) : Option (List Byte) × State :=
  if !s.layOn c l then (none, s)
  else if a % 8 ≠ 0 then (none, protoAlert c l s)
  else
    let bytes := (List.range 8).map fun b => layReg c l (a + b) s
    let s := driveBurst c l 8 false (fun b _ => bytes.getD b 0) (fun g => g == 16) s
    (some (bytes.map fun v => BitVec.ofNat 8 v), clearOnRead c l a s)

/-- The banks a REFpb names. -/
def refBanks (big mask : Nat) : List Nat := ((List.range 4).filter fun g => mask.testBit g).map fun g => 4 * g + big

/-- REFpb (R525): two rows of each selected bank; the counters advance by 2. -/
def layRefpb (c l big mask : Nat) (s : State) : State :=
  let x := s.lay c l
  let bs := refBanks big mask
  if !s.layOn c l then s
  else if bs.any fun b => (x.openRow b).isSome || x.inRepair b then protoAlert c l s
  else s.setLay c l { x with refRow := forEach bs (fun b m => alter 0 b (fun r => (r + 2) % 4096) m) x.refRow }

/-! ### Calibration (R518) -/

/-- RDP: one burst of the pattern on all lanes. -/
def layRdp (c l : Nat) (s : State) : State :=
  if !s.layOn c l then s
  else
    let x := s.lay c l
    if x.reg 0x14 % 4 = 3 then s.setDch c { s.dch c with bus := 0, driven := 0 }
    else
      let bus := (List.range 8).foldl (fun a b => (List.range 18).foldl (fun a g =>
        a + (x.patternByte g b).getD 0 * 2 ^ (144 * b + 8 * g)) a) 0
      (s.setLay c l (forEach (List.range 18) (fun g x => x.stepGroup g 8) x)).setDch c
        { s.dch c with bus := bus, driven := 2 ^ 144 - 1 }

/-- The lanes of a write burst that differ from the pattern in some beat. -/
def LayerChan.mismatch (x : LayerChan) (burst : Nat) : Nat :=
  if x.reg 0x14 % 4 = 3 then 0
  else (List.range 144).foldl (fun a lane =>
    if (List.range 8).any fun b => (x.patternBit (lane / 8) (lane % 8) b).getD 0 != burst >>> (144 * b + lane) % 2
    then a + 2 ^ lane else a) 0

/-- WRP in one layer. -/
def layWrpOne (c : Nat) (burst : Nat) (l : Nat) (s : State) : State :=
  let x := s.lay c l
  s.setLay c l (forEach (List.range 18) (fun g x => x.stepGroup g 8) { x with errors := x.errors ||| x.mismatch burst })

/-- The layers a calibration command acts in. -/
def calLayers (c l : Nat) (all : Bool) (s : State) : List Nat :=
  (if all then layers16 else [l]).filter fun k => s.layOn c k

/-- WRP: compares a write burst with the pattern. -/
def layWrp (c l : Nat) (all preamble : Bool) (burst : Nat) (s : State) : State :=
  let ls := calLayers c l all s
  if ls.isEmpty then s
  else if !preamble then alertOn c s
  else forEach ls (layWrpOne c burst) s

/-- ERRCLR and PRESET. -/
def layErrclr (c l : Nat) (all : Bool) (s : State) : State :=
  forEach (calLayers c l all s) (fun k s => s.setLay c k { s.lay c k with errors := 0 }) s
def layPreset (c l : Nat) (all : Bool) (s : State) : State :=
  forEach (calLayers c l all s) (fun k s => s.setLay c k (s.lay c k).loadGens) s

/-- LBW and LBR: the loopback buffer. -/
def layLbw (c l : Nat) (preamble : Bool) (burst : Nat) (s : State) : State :=
  if !s.layOn c l then s
  else if !preamble then alertOn c s
  else s.setLay c l { s.lay c l with loop := burst % 2 ^ 1152 }
def layLbr (c l : Nat) (s : State) : State :=
  if !s.layOn c l then s
  else s.setDch c { s.dch c with bus := (s.lay c l).loop, driven := 2 ^ 144 - 1 }

/-! ### Parity, reset and sensors -/

/-- A command that fails parity is ignored, counted and alerted (R520). -/
def layParity (c : Nat) (s : State) : State :=
  let ls := layers16.filter fun l => s.layOn c l
  if ls.isEmpty then s
  else alertOn c (forEach ls (fun l s =>
    s.setLay c l { s.lay c l with parityErr := true, parityCount := min 255 ((s.lay c l).parityCount + 1) }) s)

/-- The reset pattern (R534): registers at reset, FLAG_TEMP with them, banks precharged, generators loaded; refresh counters and mappings
kept. The sensors read invalid until their next conversion (R516). (DEDUCED, log 51) -/
def layResetOne (c : Nat) (l : Nat) (s : State) : State :=
  let x := s.lay c l
  let s := s.setLay c l { LayerChan.reset with
    refRow := x.refRow, soft := x.soft, hard := x.hard, flagSeen := x.flagSeen }
  let d := s.die (stackOf c) l
  s.setDie (stackOf c) l { d with
    flagTemp := 110, readings := put 0x8000 8 0x8000 (put 0x8000 (sheafOf c % 8) 0x8000 d.readings) }.refreshFlag

/-- The reset pattern on a channel, in any mode. One that ends self-refresh leaves what was not retained undefined, as SRX would. (DEDUCED,
log 51) -/
def layReset (c : Nat) (s : State) : State :=
  let s := forEach layers16 (srAdvance c) s
  let s := match (s.dch c).selfRef with | some (_, mask) => loseContent c mask s | none => s
  (forEach layers16 (layResetOne c) s).setDch c { s.dch c with selfRef := none }

/-- A layer leaves CA capture mode (R519). (DESIGN CHOICE, log 52) -/
def layCaptureExit (c l : Nat) (s : State) : State :=
  let x := s.lay c l
  if x.capturing then s.setLay c l { x with capturing := false, regs := put 0 0x17 0 x.regs } else s

/-- A sensor conversion (R505, R516, R531, R533): a reading outside −64 °C to 191.75 °C is invalid. -/
def laySensor (st l i code : Nat) (s : State) : State :=
  let v := signed 16 code
  let stored := if decide (-256 ≤ v) && decide (v ≤ 767) then code % 65536 else 0x8000
  let d := s.die st l
  let d' := ({ d with readings := put 0x8000 i stored d.readings }).refreshFlag
  let s := if d'.tempClass = d.tempClass then s
    else forEach (List.range 72) (fun k s => srAdvance (72 * st + k) l s) s
  s.setDie st l d'

/-! ### Commands -/

def execLayerAct (c layer bank row : Nat) (s : State) : Res :=
  if s.chanOk c then .next (layAct c (layer % 16) (bank % 16) (row % 4096) s) else .fault .absentUnit
def execLayerPre (c layer bank : Nat) (s : State) : Res :=
  if s.chanOk c then .next (layPre c (layer % 16) (bank % 16) s) else .fault .absentUnit
def execLayerPreab (c layer : Nat) (all : Bool) (s : State) : Res :=
  if s.chanOk c then .next (layPreab c (layer % 16) all s) else .fault .absentUnit
def execLayerMrwb (c addr data : Nat) (s : State) : Res :=
  if s.chanOk c then .next (layMrwb c (addr % 256) (data % 256) s) else .fault .absentUnit
def execLayerMrw (c layer addr data : Nat) (s : State) : Res :=
  if s.chanOk c then .next (layMrw c (layer % 16) (addr % 256) (data % 256) s) else .fault .absentUnit
def execLayerSre (c cls mask : Nat) (s : State) : Res :=
  if s.chanOk c then .next (laySre c (cls % 4) (mask % 65536) s) else .fault .absentUnit
def execLayerSrx (c : Nat) (s : State) : Res :=
  if s.chanOk c then .next (laySrx c s) else .fault .absentUnit
def execLayerRpr (c layer bank row : Nat) (s : State) : Res :=
  if s.chanOk c then .next (layRpr c (layer % 16) (bank % 16) (row % 4096) s) else .fault .absentUnit
def execLayerRd (c layer bank line : Nat) (autoPre : Bool) (s : State) : Res :=
  if s.chanOk c then .next (layRd c (layer % 16) (bank % 16) (line % 8) autoPre s).2 else .fault .absentUnit
def execLayerRdc (c layer bank _line : Nat) (autoPre : Bool) (s : State) : Res :=
  if s.chanOk c then .next (layRdc c (layer % 16) (bank % 16) autoPre s) else .fault .absentUnit
def execLayerWr (c layer bank line : Nat) (autoPre preamble : Bool) (burst : Nat) (s : State) : Res :=
  if s.chanOk c then .next (layWr c (layer % 16) (bank % 16) (line % 8) autoPre preamble burst s).2 else .fault .absentUnit
def execLayerMrr (c layer addr : Nat) (s : State) : Res :=
  if s.chanOk c then .next (layMrr c (layer % 16) (addr % 256) s).2 else .fault .absentUnit
def execLayerRefpb (c layer bank mask : Nat) (s : State) : Res :=
  if s.chanOk c then .next (layRefpb c (layer % 16) (bank % 4) (mask % 16) s) else .fault .absentUnit
def execLayerRdp (c layer : Nat) (s : State) : Res :=
  if s.chanOk c then .next (layRdp c (layer % 16) s) else .fault .absentUnit
def execLayerWrp (c layer : Nat) (all preamble : Bool) (burst : Nat) (s : State) : Res :=
  if s.chanOk c then .next (layWrp c (layer % 16) all preamble burst s) else .fault .absentUnit
def execLayerErrclr (c layer : Nat) (all : Bool) (s : State) : Res :=
  if s.chanOk c then .next (layErrclr c (layer % 16) all s) else .fault .absentUnit
def execLayerPreset (c layer : Nat) (all : Bool) (s : State) : Res :=
  if s.chanOk c then .next (layPreset c (layer % 16) all s) else .fault .absentUnit
def execLayerLbw (c layer : Nat) (preamble : Bool) (burst : Nat) (s : State) : Res :=
  if s.chanOk c then .next (layLbw c (layer % 16) preamble burst s) else .fault .absentUnit
def execLayerLbr (c layer : Nat) (s : State) : Res :=
  if s.chanOk c then .next (layLbr c (layer % 16) s) else .fault .absentUnit
def execCommandParityError (c : Nat) (s : State) : Res :=
  if s.chanOk c then .next (layParity c s) else .fault .absentUnit
def execResetPattern (c : Nat) (s : State) : Res :=
  if s.chanOk c then .next (layReset c s) else .fault .absentUnit
def execCaCaptureExit (c layer : Nat) (s : State) : Res :=
  if s.chanOk c then .next (layCaptureExit c (layer % 16) s) else .fault .absentUnit
def execLayerSensorConversion (s layer sensor code : Nat) (t : State) : Res :=
  if s < t.cfg.nstacks && sensor < 9 then .next (laySensor s (layer % 16) sensor code t) else .fault .absentUnit

end Sys2Proof.Machine
end

