-- ==== Sys2Proof/Machine/Sched.lean ====
section
/-!
DEFINITION. What a channel controller may issue when: the timing table of R185, the planned window of R186, and the
replay that both the no-harm rule of R188 and the audit of R187 rest on. Times are in ck; a bank is 16·layer +
4·group + bank in group.
-/
namespace Sys2Proof.Machine

/-- ck of the row and column positions of a slot (R183). -/
def rowCk (slot : Nat) : Nat := 4 * slot
def colCk (slot : Nat) : Nat := 4 * slot + 2

/-- The bank index within the channel. -/
def bankIx (layer bank : Nat) : Nat := 16 * layer + bank

/-- The quad of a layer (R184). -/
def quadOf (layer : Nat) : Nat := layer / 4

/-- A time recorded as ck + 1 (0: never) lies less than `d` ck before `t`. -/
def within (t d recorded : Nat) : Bool := match recorded with | 0 => false | r + 1 => decide (t < r + d)

def Timing.bk (T : Timing) (b : Nat) : BankT :=
  let k := look .reset b T.banks
  { k with pre := max k.pre T.preAll }
def Timing.row (T : Timing) (b : Nat) : Option Nat := match look 0 b T.open_ with | 0 => none | r + 1 => some r

/-- Parameters of R185 that an ACT breaks at ck t. -/
def actBreaks (T : Timing) (t layer bank : Nat) : List Nat :=
  let k := T.bk (bankIx layer bank)
  let faw := (T.acts.filter fun a => a.1 == layer && decide (t < a.2.2.1 + 24)).foldl (fun (n : Nat) a => n + a.2.2.2) 0
  (if within t 32 k.pre then [2] else []) ++ (if within t 96 k.act then [4] else []) ++
  (if T.acts.any fun a => a.2.1 != 16 && !(a.1 == layer && a.2.1 == bank / 4) && decide (t < a.2.2.1 + 4) then [5] else []) ++
  (if T.acts.any fun a => a.1 == layer && a.2.1 == bank / 4 && decide (t < a.2.2.1 + 8) then [6] else []) ++
  (if 4 < faw + 1 then [7] else []) ++ (if within t 216 k.ref then [18] else []) ++
  (if within t 240 T.srx then [20] else [])

/-- Parameters a PRE of one bank breaks. -/
def preBreaks (T : Timing) (t b : Nat) : List Nat :=
  let k := T.bk b
  (if within t 64 k.act then [3] else []) ++ (if within t 32 k.wr then [16] else []) ++
  (if within t 8 k.rd then [17] else []) ++ (if within t 240 T.srx then [20] else [])

/-- The ck from the end of a write's clock 0 to the end of its data: tWL and the beats (R185, R210). -/
def writeTail (half : Bool) : Nat := 8 + if half then 8 else 4

/-- Parameters a data command breaks: `wr` for WR, otherwise RD or RDC. -/
def colBreaks (T : Timing) (half wr : Bool) (t layer bank : Nat) : List Nat :=
  let k := T.bk (bankIx layer bank)
  let same (c : Nat × Nat × Nat × Nat) : Bool := c.2.1 == layer && c.2.2.1 / 4 == bank / 4
  let quad (c : Nat × Nat × Nat × Nat) : Bool := quadOf c.2.1 == quadOf layer
  let gap := if half then 8 else 4
  (if within t 32 k.act || k.act = 0 then [1] else []) ++
  (if T.cols.any fun c => quad c && !same c && decide (t < c.2.2.2 + gap) then [8] else []) ++
  (if T.cols.any fun c => same c && decide (t < c.2.2.2 + max 6 gap) then [9] else []) ++
  (if T.cols.any fun c => !quad c && decide (t < c.2.2.2 + 32) then [10] else []) ++
  (if wr && T.cols.any fun c => c.1 != 2 && decide (t < c.2.2.2 + 12) then [13] else []) ++
  (if !wr && T.cols.any fun c => c.1 == 2 && !same c && decide (t < c.2.2.2 + writeTail half + 20) then [14] else []) ++
  (if !wr && T.cols.any fun c => c.1 == 2 && same c && decide (t < c.2.2.2 + writeTail half + 24) then [15] else []) ++
  (if within t 240 T.srx then [20] else [])

/-- Parameters a REFpb breaks; its banks count as precharged tRP after their precharge began. -/
def refBreaks (T : Timing) (t layer big mask : Nat) : List Nat :=
  let bs := refBanks big mask
  let faw := (T.acts.filter fun a => a.1 == layer && decide (t < a.2.2.1 + 24)).foldl (fun (n : Nat) a => n + a.2.2.2) 0
  (if bs.any fun b => within t 32 (T.bk (bankIx layer b)).pre then [2] else []) ++
  (if 4 < faw + bs.length then [7] else []) ++
  (if bs.any fun b => within t 216 (T.bk (bankIx layer b)).ref then [18] else []) ++
  (if within t 240 T.srx then [20] else [])

/-- Parameters a command breaks at ck t. -/
def breaks (T : Timing) (half : Bool) (t : Nat) : SdiCmd → List Nat
  | .act l b _ => actBreaks T t l b
  | .pre l b => preBreaks T t (bankIx l b)
  | .preLayer l => (List.range 16).flatMap fun b => preBreaks T t (bankIx l b)
  | .preAll => (List.range 256).flatMap fun b => preBreaks T t b
  | .rd l b _ _ => colBreaks T half false t l b
  | .rdc l b _ _ => colBreaks T half false t l b
  | .wr l b _ _ => colBreaks T half true t l b
  | .ref l big mask => refBreaks T t l big mask
  | .sre _ _ => (if (List.range 256).any fun b => within t 32 (T.bk b).pre then [2] else []) ++
      (if within t 240 T.srx then [20] else [])
  | .rpr l _ _ => (if (List.range 16).any fun b => within t 32 (T.bk (bankIx l b)).pre then [2] else []) ++
      (if within t 240 T.srx then [20] else [])
  | .mrr _ _ => if within t 240 T.srx then [20] else []
  | .cal => if within t 240 T.srx then [20] else []
  | .mrw _ _ _ => if within t 240 T.srx then [20] else []
  | .srx => []

/-- Whether the banks stand as a command needs them: precharged, or with the row open. -/
def fits (T : Timing) : SdiCmd → Bool
  | .act l b _ => (T.row (bankIx l b)).isNone
  | .rd l b _ _ => (T.row (bankIx l b)).isSome
  | .rdc l b _ _ => (T.row (bankIx l b)).isSome
  | .wr l b _ _ => (T.row (bankIx l b)).isSome
  | .ref l big mask => (refBanks big mask).all fun b => (T.row (bankIx l b)).isNone
  | .sre _ _ => T.open_.isEmpty
  | .rpr l _ _ => (List.range 16).all fun b => (T.row (bankIx l b)).isNone
  | _ => true

/-- R185 and the bank states allow a command at ck t. -/
def allowed (T : Timing) (half : Bool) (t : Nat) (c : SdiCmd) : Bool := fits T c && (breaks T half t c).isEmpty

/-- Close a bank, its precharge beginning at ck p. -/
def Timing.close (T : Timing) (b p : Nat) : Timing :=
  { T with open_ := put 0 b 0 T.open_, banks := alter .reset b (fun k => { k with pre := p + 1 }) T.banks
           planned := T.planned.filter fun x => x != b }

/-- When auto-precharge of a bank begins: when tRAS, tRTP and tWR allow it (R185). -/
def autoStart (k : BankT) (t : Nat) : Nat :=
  let after (d r : Nat) : Nat := match r with | 0 => 0 | r + 1 => r + d
  max t (max (after 64 k.act) (max (after 8 k.rd) (after 32 k.wr)))

/-- What issuing a data command leaves: kind 0 RD, 1 RDC, 2 WR. -/
def Timing.data (T : Timing) (half : Bool) (t kind l b : Nat) (ap : Bool) : Timing :=
  let upd (k : BankT) : BankT := if kind = 2 then { k with wr := t + writeTail half + 1 } else { k with rd := t + 1 }
  let T := { T with banks := alter .reset (bankIx l b) upd T.banks
                    cols := (T.cols.filter fun c => decide (t < c.2.2.2 + 48)) ++ [(kind, l, b, t)] }
  if ap then T.close (bankIx l b) (autoStart (T.bk (bankIx l b)) t) else T

/-- What issuing a command leaves. -/
def Timing.issue (T : Timing) (half : Bool) (t : Nat) : SdiCmd → Timing
  | .act l b row =>
    { T with open_ := put 0 (bankIx l b) (row + 1) T.open_
             banks := alter .reset (bankIx l b) (fun k => { k with act := t + 1 }) T.banks
             acts := (T.acts.filter fun a => decide (t < a.2.2.1 + 24)) ++ [(l, b / 4, t, 1)] }
  | .pre l b => T.close (bankIx l b) t
  | .preLayer l => forEach ((List.range 16).map fun b => bankIx l b)
      (fun b T => if (T.row b).isSome then T.close b t else
        { T with banks := alter .reset b (fun k => { k with pre := max k.pre (t + 1) }) T.banks }) T
  | .preAll => { forEach (T.open_.map (·.1)) (fun b T => T.close b t) T with preAll := t + 1 }
  | .rd l b _ ap => T.data half t 0 l b ap
  | .rdc l b _ ap => T.data half t 1 l b ap
  | .wr l b _ ap => T.data half t 2 l b ap
  | .ref l big mask =>
    { T with banks := forEach (refBanks big mask)
               (fun b m => alter .reset (bankIx l b) (fun k => { k with ref := t + 1 }) m) T.banks
             acts := (T.acts.filter fun a => decide (t < a.2.2.1 + 24)) ++ [(l, 16, t, (refBanks big mask).length)] }
  | .srx => { T with srx := t + 1 }
  | .rpr l b _ => { T with banks := alter .reset (bankIx l b) (fun k => { k with ref := t + 25 }) T.banks }
  | _ => T
/-! ### The planned window (R186) -/

/-- A planned line of the window: its place, whether it is written, and whether it has a column command (a masked line
has none, or a chaff read). -/
structure PLine where
  layer : Nat
  bank : Nat
  row : Nat
  line : Nat
  write : Bool
  masked : Bool
  /-- It takes part with its row commands only: a line served from elsewhere than its row (R259, R261). -/
  silent : Bool
  deriving DecidableEq, Repr

def PLine.ix (p : PLine) : Nat := bankIx p.layer p.bank

/-- Whether a line of the window uses a row of a bank. -/
def usesRow (w : List PLine) (b row : Nat) : Bool := w.any fun p => p.ix == b && p.row == row

/-- The planned row command at the row position of a slot, for the lines of the window in slot order. -/
def planRow (T : Timing) (half : Bool) (t : Nat) (w : List PLine) : Option SdiCmd :=
  let pres := T.open_.filterMap fun p => match p.2 with
    | 0 => none
    | r + 1 => if !usesRow w p.1 r && (w.any fun q => q.ix == p.1) &&
        allowed T half t (.pre (p.1 / 16) (p.1 % 16)) then some (SdiCmd.pre (p.1 / 16) (p.1 % 16)) else none
  let acts := w.filterMap fun p => if allowed T half t (.act p.layer p.bank p.row) then some (SdiCmd.act p.layer p.bank p.row)
    else none
  let idle := (sortList T.planned fun a b => decide (a ≤ b)).filterMap fun b => match T.row b with
    | none => none
    | some r => if !usesRow w b r && allowed T half t (.pre (b / 16) (b % 16)) then some (SdiCmd.pre (b / 16) (b % 16)) else none
  match pres with
  | c :: _ => some c
  | [] => match acts with
    | c :: _ => some c
    | [] => idle.head?

/-- A planned ACT marks its bank. -/
def Timing.issuePlanned (T : Timing) (half : Bool) (t : Nat) (c : SdiCmd) : Timing :=
  let T := T.issue half t c
  match c with
  | .act l b _ => { T with planned := bankIx l b :: T.planned.filter fun x => x != bankIx l b }
  | _ => T

/-- The column command of a planned line: with auto-precharge when no later line of the window uses its row. A masked line
has a chaff read in a set of five or more nodes, and none otherwise (R113). -/
def planCol (chaff : Bool) (p : PLine) (later : List PLine) : Option SdiCmd :=
  let ap := !usesRow later p.ix p.row
  if p.silent then none
  else if p.masked then (if chaff then some (.rdc p.layer p.bank p.line ap) else none)
  else if p.write then some (.wr p.layer p.bank p.line ap)
  else some (.rd p.layer p.bank p.line ap)

/-- The row a column command needs is open. -/
def rowReady (T : Timing) (p : PLine) : Bool := T.row p.ix == some p.row

/-- One slot of the replay: the planned row command, then the planned column command where it is allowed. The result tells
both, and the parameters a planned column command would break in its own slot. -/
def replaySlot (chaff half : Bool) (slot : Nat) (w : List (Option PLine)) (T : Timing) :
    Timing × Option SdiCmd × Option SdiCmd × List Nat :=
  let lines := (w.take 32).filterMap id
  let row := planRow T half (rowCk slot) lines
  let T := match row with | some c => T.issuePlanned half (rowCk slot) c | none => T
  match w with
  | some p :: rest =>
    match planCol chaff p ((rest.take 31).filterMap id) with
    | none => (T, row, none, [])
    | some c =>
      if rowReady T p && allowed T half (colCk slot) c then (T.issue half (colCk slot) c, row, some c, [])
      else (T, row, none, if rowReady T p then breaks T half (colCk slot) c else [1])
  | _ => (T, row, none, [])

/-- The replay of the slots of a window, one after the other: what each issues. -/
def replay (chaff half : Bool) : Nat → List (Option PLine) → Timing → List (Option SdiCmd × Option SdiCmd)
  | _, [], _ => []
  | slot, p :: w, T =>
    let (T', r, c, _) := replaySlot chaff half slot (p :: w) T
    (r, c) :: replay chaff half (slot + 1) w T'

/-- R188: with a command added at the column position of a slot, whose planned row command has issued, every later command
of the window still issues at its own position. -/
def noHarmCol (chaff half : Bool) (slot : Nat) (later : List (Option PLine)) (T : Timing) (c : SdiCmd) : Bool :=
  replay chaff half (slot + 1) later (T.issue half (colCk slot) c) == replay chaff half (slot + 1) later T

/-- R188 for a command added at the row position of a slot that carries no planned row command: the slot's own column
command counts as well. -/
def noHarmRow (chaff half : Bool) (slot : Nat) (w : List (Option PLine)) (T : Timing) (c : SdiCmd) : Bool :=
  let T' := T.issue half (rowCk slot) c
  let col (T : Timing) : Timing × Option SdiCmd := match w with
    | some p :: rest => match planCol chaff p (rest.filterMap id) with
      | some x => if rowReady T p && allowed T half (colCk slot) x then (T.issue half (colCk slot) x, some x) else (T, none)
      | none => (T, none)
    | _ => (T, none)
  (col T').2 == (col T).2 &&
  replay chaff half (slot + 1) (w.drop 1) (col T').1 == replay chaff half (slot + 1) (w.drop 1) (col T).1

/-! ### The audit (R187) -/

/-- The first slot of the replay whose planned column command breaks a parameter, with the lowest index it breaks; or the
row state the replay leaves. (DEDUCED, log 17) -/
def auditRun : Nat → List (Option PLine) → Timing → (Nat × Nat) ⊕ Timing
  | _, [], T => .inr T
  | slot, p :: w, T =>
    match replaySlot true false slot (p :: w) T with
    | (T', _, _, []) => auditRun (slot + 1) w T'
    | (_, _, _, v) => .inl (slot, v.foldl min 99)

/-- The timing audit of one channel over a period of lines: from banks that a PREab at slot 0 has precharged, so that no row command
issues before tRP has passed, at slot 8; then again with the row state the period left (the seam of frame P − 1 into frame 0), and the
seam of a PREab at the row position of slot 0. The result is the slot in the period and the parameter that fails. The replay of a period
looks ahead into the next; before the PREab of a committed switching tide the window stops at the boundary (R186). (DEDUCED, log 17) -/
def audit (lines : List (Option PLine)) : Option (Nat × Nat) :=
  let n := lines.length
  let first := auditRun 8 ((lines ++ lines.take 32).drop 8) .reset
  match first with
  | .inl (k, v) => some (k % n, v)
  | .inr _ =>
    match auditRun 8 ((lines ++ lines ++ lines.take 32).drop 8) .reset with
    | .inl (k, v) => some (k % n, v)
    | .inr _ =>
      match auditRunState 8 (n - 8) (lines.drop 8) .reset with
      | T =>
        let v := breaks T false (rowCk n) .preAll
        if v.isEmpty then none else some (0, v.foldl min 99)
where
  /-- The row state after `n` slots of the replay. -/
  auditRunState : Nat → Nat → List (Option PLine) → Timing → Timing
    | _, 0, _, T => T
    | _, _, [], T => T
    | slot, n + 1, p :: w, T => auditRunState (slot + 1) n w (replaySlot true false slot (p :: w) T).1

end Sys2Proof.Machine
end

