-- ==== Sys2Proof/Machine/Paths.lean ====
section
/-!
DEFINITION. The places a line can be served from, the queues of a channel, and the requests a node holds (chapters 07, 08
and 09): the operations every unit of the data path shares.
-/
namespace Sys2Proof.Machine

/-! ### Channels -/

def State.chan (s : State) (c : Nat) : Chan := look .reset c s.path.chans
def State.setPath (s : State) (p : Path) : State := { s with path := p }
def State.setChan (s : State) (c : Nat) (x : Chan) : State :=
  s.setPath { s.path with chans := put .reset c x s.path.chans }
def State.modChan (s : State) (c : Nat) (f : Chan → Chan) : State := s.setChan c (f (s.chan c))

/-- The channel object index, and the channel state of 0x4000+c:01. -/
def chanIdx (c : Nat) : Nat := 0x4000 + c
def State.chanState (s : State) (c : Nat) : Nat := s.ob (chanIdx c) 1
def State.setChanState (s : State) (c v : Nat) : State := s.setOb (chanIdx c) 1 v

/-- The frame epoch in ticks of set time; 0 before it is known (R54). (DEDUCED, log 53) -/
def State.epochT (s : State) : Nat := match s.hl.set.epoch with | some e => e * nsT | none => 0

/-- The frame of set time under way (R54). -/
def State.frame (s : State) : Nat := (s.setTicks - s.epochT) / frameT

/-- The number of the slot under way, 4 ck each, counted so that every frame begins at a multiple of 1,024 (R3, R54). -/
def State.slot (s : State) : Nat := (s.setTicks + frameT - s.epochT % frameT) / slotT

/-- The slot under way on a channel, counted on its own clock from the frame boundary: with down-spread of depth D the last slots of a
frame may not begin (R54, R400). Where the modulation stands in a frame is a free value. (DEDUCED, log 61) -/
def State.slotOf (s : State) (c : Nat) : Nat :=
  let depth := s.ob 0xB020 (c / 9 + 1)
  if depth = 0 then s.slot
  else
    let t := s.setTicks + frameT - s.epochT % frameT
    let slow := 2000 * 65536 - depth * (Config.spreadPhase (c / 9) s.frame).toNat
    t / frameT * 1024 + t % frameT * slow / (slotT * (2000 * 65536))

/-- The frame a slot lies in, and its place in the frame. -/
def State.frameOf (s : State) (slot : Nat) : Nat := slot / 1024 - 1 - s.epochT / frameT
def slotInFrame (slot : Nat) : Nat := slot % 1024

/-- Spare channels are k = 8 of their sheaf (R16). -/
def isSpare (c : Nat) : Bool := c % 9 == 8
def spareFor (c : Nat) : Nat := c / 9 * 9 + 8

/-- The tile of a data channel (R16, R17): t = 64·s + 8·w + k. -/
def tileOf (c : Nat) : Nat := 64 * (c / 72) + 8 * (c % 72 / 9) + c % 9

/-- The data channel of tile t. -/
def chanOfTile (t : Nat) : Nat := chanOf (t / 64) (t % 64)

/-- The home data channel of an address. -/
def homeChan (a : Nat) : Nat := chanOf (adStack a) (adChan a)

/-- The channel that serves a data channel's addresses (R18): its sheaf's spare once that substitutes for it. -/
def State.servedBy (s : State) (c : Nat) : Nat :=
  let p := s.ob (chanIdx c) 2
  if !isSpare c && p != 0xFFFF && s.chanState p == 5 then p else c

/-! ### Retired rows (R260, R261) -/

/-- The object index of the retirement table of a stack, part g. -/
def retireIdx (st g : Nat) : Nat := 0xA040 + 8 * st + g

/-- The retirement entries of a stack that are in use: number and value. -/
def State.retirements (s : State) (st : Nat) : List (Nat × Nat) :=
  s.obj.filterMap fun p =>
    let idx := p.1 / 256
    if decide (retireIdx st 0 ≤ idx) && decide (idx < retireIdx st 8) && p.2.testBit 63 then
      some ((idx - retireIdx st 0) * 256 + p.1 % 256, p.2) else none

/-- The source row of an entry: channel, layer, bank, row. -/
def retSource (st v : Nat) : Nat × Nat × Nat × Nat :=
  (72 * st + 9 * bits 62 60 v + bits 59 56 v, bits 55 52 v, bits 51 48 v, bits 47 36 v)

/-- The target of an entry: spare channel and row. -/
def retTarget (st v : Nat) : Nat × Nat := (72 * st + 9 * bits 35 33 v + 8, bits 24 13 v)

/-- Where a row of a channel lives, if it is retired. -/
def State.retiredTo (s : State) (c layer bank row : Nat) : Option (Nat × Nat) :=
  let st := stackOf c
  ((s.retirements st).find? fun p => retSource st p.2 == (c, layer, bank, row)).map fun p => retTarget st p.2

/-- The physical place that serves a line of this node (R18, R42, R261). -/
def State.place (s : State) (a : Nat) : Loc :=
  let o := adOffset a
  let c := homeChan a
  let c' := s.servedBy c
  let loc : Loc := ⟨c', ofLayer o, ofBank o, ofRow o, ofLine o⟩
  if c' = c then
    match s.retiredTo c loc.layer loc.bank loc.row with
    | some (t, row) => { loc with c := t, row := row }
    | none => loc
  else loc

/-- The set address of line `off` of a data channel of this node. -/
def State.addrOf (s : State) (c off : Nat) : Nat := chanBase s.me (c / 72) (8 * (c % 72 / 9) + c % 9) + off

/-- The data channel whose addresses a channel serves: its own, or the one it substitutes for. -/
def State.homeOfChan (s : State) (c : Nat) : Nat := if s.chanState c = 5 then s.ob (chanIdx c) 2 else c

/-- The channel that serves an address can take requests (R209, R211): it is not failed and not in shadow state. -/
def State.reachable (s : State) (a : Nat) : Bool :=
  let c := (s.place a).c
  s.chanState c != 2 && s.chanState c != 3 && s.chanState (s.servedBy (homeChan a)) != 2 &&
  s.chanState (s.servedBy (homeChan a)) != 3

/-- The mask of a spare (R204): that of the channel it stands in for, and every segment that holds a retired row of a retained
segment. -/
def State.spareMask (s : State) (c : Nat) : Nat :=
  let own := if s.homeOfChan c != c then s.ob (chanIdx (s.homeOfChan c)) 8 else 0
  (s.retirements (stackOf c)).foldl (fun m p =>
    let src := retSource (stackOf c) p.2
    let dst := retTarget (stackOf c) p.2
    if dst.1 = c && (s.ob (chanIdx src.1) 8).testBit (src.2.2.2 / 256) then m ||| 2 ^ (dst.2 / 256) else m) own

/-- The Steward sets the mask of each spare. (DESIGN CHOICE, log 62) -/
def setSpareMasks (s : State) : State :=
  forEach ((List.range s.channels).filter isSpare) (fun c s => s.setOb (chanIdx c) 8 (s.spareMask c)) s

/-- The descriptor in force for an address, as recovery needs it (R248): number and 256 bits. -/
def State.regionRaw (s : State) (a : Nat) : Option (Nat × Nat) :=
  (s.regionAt a).map fun p => (p.1, s.ob (regionIdx p.1) (regionSub p.1))

/-- The fields of a recorded descriptor. -/
def rawRegion (r : Option (Nat × Nat)) : Option Region := r.map fun p => decodeRegion p.2

/-! ### Lines as numbers -/

/-- Bytes of `new` that the mask selects, over `old`. -/
def mergeData (mask new old : Nat) : Nat := leNat (mergeBytes mask (leBytes 128 new) (leBytes 128 old))

/-- A write covers the whole line. -/
def fullMask : Nat := 2 ^ 128 - 1

/-- The stored line at a place, if its content passes the check at its home channel offset (R243). -/
def State.storedLine (s : State) (loc : Loc) (a : Nat) : Option (Nat × Nat) :=
  let k := s.cellLine loc.c loc.layer loc.bank loc.row loc.line
  let bs := readPhys s.dram k
  if undefinedLine s.dram k || !passesCheck (adOffset (lineOf a)) bs then none
  else some (leNat (bs.take 128), (decodeLine bs).info)

/-- The key slot of an address's range. -/
def State.sealSlot (s : State) (a : Nat) : KeySlot :=
  match s.regionAt a with
  | some p => look KeySlot.reset p.2.keySlot s.sec.keys
  | none => .reset

/-- A line is held as ciphertext: its sealed bit is 1 and it is not poisoned (R241, R244). -/
def cipherInfo (info : Nat) : Bool := info.testBit 9 && !info.testBit 11

/-- The plaintext of a stored line, and the stored form of a plaintext line, in a sealed range (R386). A pool's range is
never sealed: its escape lines are sealed and opened under their home region's key where they are made and used (R142). -/
def State.openLine (s : State) (a : Nat) (l : Nat × Nat) : Nat × Nat :=
  if cipherInfo l.2 && s.sealedAt a then (leNat (unsealData (s.sealSlot a) a (leBytes 128 l.1)), l.2) else l
def State.closeLine (s : State) (a : Nat) (l : Nat × Nat) : Nat × Nat :=
  if cipherInfo l.2 && s.sealedAt a then (leNat (sealData (s.sealSlot a) a (leBytes 128 l.1)), l.2) else l

/-- A queued write applied to a line in plaintext: a whole-line entry holds its stored form, a partial one its bytes, which
have no effect on a poisoned line (R192). -/
def WrEntry.apply (s : State) (e : WrEntry) (cur : Option (Nat × Nat)) : Option (Nat × Nat) :=
  if !e.partial_ then some (s.openLine e.addr (e.data, e.info))
  else cur.map fun l => if l.2.testBit 11 then l else (mergeData e.mask e.data l.1, e.info)

/-- The writes a channel holds for a line and has not issued, oldest first. -/
def Chan.writesTo (x : Chan) (a : Nat) : List WrEntry :=
  sortList ((x.wq ++ x.urgent).filter fun e => e.addr == a) fun e f => decide (e.order ≤ f.order)

/-- The line as a read placed now returns it, in plaintext: the stored line with every placed write applied (R193). -/
def State.lineNow (s : State) (a : Nat) : Option (Nat × Nat) :=
  let a := lineOf a
  let loc := s.place a
  ((s.chan loc.c).writesTo a).foldl (fun cur e => e.apply s cur) ((s.storedLine loc a).map (s.openLine a))

/-! ### Queues (R191) -/

/-- Read and write entries of a channel. -/
def rqSize : Nat := 128
def wqSize : Nat := 96
def urgentSize : Nat := 16

/-- The depth objects follow the queues. -/
def syncDepth (c : Nat) (s : State) : State :=
  let x := s.chan c
  let s := s.setOb (chanIdx c) 9 x.rq.length
  let s := s.setOb (chanIdx c) 0x0A x.wq.length
  (s.peak (chanIdx c) 0x0B x.rq.length).peak (chanIdx c) 0x0C x.wq.length

/-- The next order number. -/
def State.takeOrder (s : State) : State := s.setPath { s.path with nextOrder := s.path.nextOrder + 1 }

/-- Queue a read of a line. -/
def pushRead (who : Reader) (a rank : Nat) (port : Option Nat) (region : Option (Nat × Nat)) (s : State) : State :=
  let a := lineOf a
  let loc := s.place a
  let e : RdEntry := { who := who, addr := a, loc := loc, placed := s.slotOf loc.c, order := s.path.nextOrder, rank := rank
                       port := port, aged := false, heldSince := none, heldCounted := false, region := region }
  syncDepth loc.c ((s.modChan loc.c fun x => { x with rq := x.rq ++ [e] }).takeOrder)

/-- A new write entry for a line at a place. -/
def State.newWrite (s : State) (who : Writer) (a : Nat) (loc : Loc) (mask data info : Nat) (region : Option (Nat × Nat)) :
    WrEntry :=
  { wid := s.path.nextOrder, who := who, addr := lineOf a, loc := loc, data := data, info := info, mask := mask
    partial_ := mask != fullMask, fillIssued := false, placed := s.slotOf loc.c, order := s.path.nextOrder, alerts := 0
    region := region }

/-- The metadata of an open write (R125): the range's format tag and sealed bit, nothing else. -/
def State.writeInfo (s : State) (a : Nat) : Nat := infoOf (s.formatAt a) false false (s.sealedAt a)

/-- A whole-line write to a line is placed: the recovery write of a read of it that has issued is superseded (R250). -/
def Chan.overtake (a : Nat) (x : Chan) : Chan :=
  let rec_ (r : Rec) : Rec := if r.addr = a then { r with superseded := true } else r
  let flight (f : Flight) : Flight := if f.entry.addr = a then { f with newer := true } else f
  { x with recs := x.recs.map rec_, flights := x.flights.map flight, recWait := x.recWait.map flight }

/-- Place a plaintext write in the write queue (R191, R192); a whole line is sealed on the way (R386). It supersedes the write of
a recovery of its line that is under way (R250). -/
def pushWrite (who : Writer) (a mask data info : Nat) (region : Option (Nat × Nat)) (s : State) : State :=
  let loc := s.place (lineOf a)
  let data := if mask = fullMask then (s.closeLine a (data, info)).1 else data
  let e := s.newWrite who a loc mask data info region
  let s := (s.modChan loc.c fun x =>
    let x := if mask = fullMask then x.overtake (lineOf a) else x
    { x with wq := x.wq ++ [e] }).takeOrder
  syncDepth loc.c (if e.partial_ then s.bump (chanIdx loc.c) 0x13 else s)

/-- Place a whole-line write, in its stored form, in the urgent store (R250), at a place of its own for a row move. -/
def pushUrgent (who : Writer) (a : Nat) (loc : Loc) (data info : Nat) (s : State) : State :=
  let e := s.newWrite who a loc fullMask data info none
  (s.modChan loc.c fun x => { x with urgent := x.urgent ++ [e] }).takeOrder

/-! ### Requests (R268, R269) -/

def State.ask? (s : State) (id : Nat) : Option Ask := s.path.asks.find? fun a => a.id == id
def State.setAsks (s : State) (l : List Ask) : State := s.setPath { s.path with asks := l }
def State.modAsk (s : State) (id : Nat) (f : Ask → Ask) : State :=
  s.setAsks (s.path.asks.map fun a => if a.id == id then f a else a)

/-- Journal entries, and those only block-internal work may use (R265, R268). -/
def journalSize : Nat := 16384
def journalReserve : Nat := 512

/-- Block-internal writes take their entries from the reserve (R265). -/
def Ask.fromReserve (a : Ask) : Bool :=
  (match a.side.port with | .unit _ => true | .headland _ h => h.portKind == 2 | _ => false) &&
  (match a.why with | .drain _ _ => false | _ => true) && (match a.op with | .write _ _ => true | .put _ _ => true | _ => false)

/-- Entries of the reserve held: block-internal writes, recovery writes and the writes of row moves, until they are confirmed. -/
def State.reserveUsed (s : State) : Nat :=
  let internal (w : Writer) : Bool := match w with | .ask _ => false | _ => true
  (s.path.asks.filter fun a => a.journal && a.fromReserve).length +
  (s.path.chans.map fun p => (p.2.urgent.filter fun e => internal e.who).length + (p.2.wq.filter fun e => internal e.who).length +
    (p.2.unconf.filter fun u => internal u.entry.who).length).sum

/-- Entries outside the reserve held. -/
def State.openUsed (s : State) : Nat := (s.path.asks.filter fun a => a.journal && !a.fromReserve).length

/-- Journal entries held. -/
def State.journalUsed (s : State) : Nat := s.openUsed + s.reserveUsed

/-- An entry outside the reserve is free; an entry of the reserve is free. -/
def State.journalFree (s : State) : Bool := decide (s.openUsed + journalReserve < journalSize)
def State.reserveFree (s : State) : Bool := decide (s.reserveUsed < journalReserve)
def State.entryFree (s : State) (a : Ask) : Bool := if a.fromReserve then s.reserveFree else s.journalFree

/-- An entry whose completion has been delivered and whose write has been confirmed is retired (R265, R269). -/
def retire (id : Nat) (s : State) : State :=
  s.setAsks (s.path.asks.filter fun a => !(a.id == id && a.delivered && a.confirmed))

/-- Block-internal requests of this node have no port to deliver to. -/
def Ask.internal (a : Ask) : Bool := match a.side.port with | .unit _ => true | _ => false

/-- A request is block-internal: its port kind is a block-internal unit, of this node or carried from another (R35, R323). -/
def Ask.unitKind (a : Ask) : Bool := match a.side.port with
  | .unit _ => true
  | .headland _ h => h.portKind == 2
  | _ => false

/-- Which steps of R53 apply to a request (R560). -/
inductive Checks where
  /-- All: a request of a port. -/
  | full
  /-- Steps 1, 2, 3, 5 and 6: the read of a mask line (R96). -/
  | mask
  /-- Steps 1, 2, 3 and 6: the read of a plan image (R71). -/
  | image
  /-- Step 1 only. -/
  | one
  deriving DecidableEq, Repr

/-- Another node's unit is known by its code (R465): a stream engine reads mask lines, the Sequencer plan images. -/
def Ask.checks (a : Ask) : Checks :=
  match a.side.port with
  | .unit _ => (match a.why with | .mask _ _ => .mask | .image _ => .image | _ => .one)
  | .headland _ h =>
    if h.portKind != 2 then .full
    else if a.op == .read && decide (0x40 ≤ h.portIndex) && decide (h.portIndex < 0x80) then .mask
    else if a.op == .read && h.portIndex == 0 then .image
    else .one
  | _ => .full

/-- A request checked at step 1 of R53 only (R560). -/
def Ask.stepOne (a : Ask) : Bool := a.checks == .one

/-- A request that the cache takes no part in: block-internal, but for the reads of masks and plan images and the writes of a
notification queue, which software reads through the cache. -/
def Ask.uncached (a : Ask) : Bool := a.stepOne && match a.why with | .notifyWrite _ => false | _ => true

/-- A new request of this node, not yet offered. -/
def State.newAsk (s : State) (side : Side) (a : Nat) (op : Op) (why : Purpose) : Ask :=
  { id := s.path.nextId, side := side, addr := a, op := op, why := why, due := 0, tier := 1, rank := 0, overBudget := false
    arrived := s.now, tides := s.path.tides, stage := .offered, region := none, applied := none, result := none
    journal := false, confirmed := true, delivered := false, miss := false, fwd := 0, backing := false
    entry := 0, rule := 0, info := 0 }

/-- The set-wide value a request depends on (R9, R157, R175): the wait timeout, or an allocation word, which for the read of a mask line is
allocation on reads in any way. -/
def State.ruleFor (s : State) (a : Ask) : Nat :=
  match a.op with
  | .sync .. => s.ob 0x2500 4
  | .read => if a.checks = .mask then 0x1FFFF else s.ob 0x2501 (a.side.cls + 1)
  | _ => s.ob 0x2501 (a.side.cls + 1)

/-- Allocation policy and way mask of an allocation word (R157). -/
def rulePolicy (w : Nat) : Nat := bits 17 16 w
def ruleMask (w : Nat) : Nat := w % 2 ^ 16

/-- Add a request. -/
def addAsk (a : Ask) (s : State) : State := s.setPath { s.path with asks := s.path.asks ++ [a], nextId := s.path.nextId + 1 }

/-- The effective rank of a block-internal request: its class's rank, 0 for a best-effort class (R221). -/
def State.classRank (s : State) (l : Nat) : Nat := if s.ob (0x3010 + l) 1 = 0 then 0 else s.ob (0x3010 + l) 2

/-- Stacks halted at T_emerg (R288). -/
def State.halted (s : State) (st : Nat) : Bool := decide (4 ≤ s.ob (0x9008 + st) 1)

/-- A block-internal request targets a channel in service (R35): in CONFIG, one that has been trained. -/
def State.unitReady (s : State) (q : Ask) : Bool :=
  match q.op with
  | .sync .. => true
  | _ => farAddr q.addr || (let c := (s.place q.addr).c
      ((s.chanState c == 0 || s.chanState c == 5 || s.chanState c == 4) && (s.power.node != .config || s.ob (chanIdx c) 0x40 == 3)) ||
      s.halted (stackOf c))

/-- What an accepted request keeps of its region: whether its range is sealed, and a stored line opened under it (R50, R386). -/
def Ask.sealed (q : Ask) : Bool := match rawRegion q.region with | some g => g.sealed_ | none => false
def State.openAsk (s : State) (q : Ask) (l : Nat × Nat) : Nat × Nat :=
  match rawRegion q.region with
  | some g => if cipherInfo l.2 && g.sealed_ then (leNat (unsealData (look KeySlot.reset g.keySlot s.sec.keys) q.addr (leBytes 128 l.1)), l.2) else l
  | none => l

/-- Tell the origin of a remote request that it is accepted (R334). -/
def sendAccept (a : Ask) (s : State) : State :=
  match a.side.port with
  | .headland _ h => sendParcel h.origin { h with kind := 3, dest := h.origin, origin := s.me, len := 0, opcode := 0, due := 0, line := 0 } [] s
  | _ => s

/-- A request is accepted (R268): it takes a journal entry, and the region and the set-wide value in force stay with it (R9, R50). -/
def acceptAsk (id : Nat) (confirmed : Bool) (s : State) : State :=
  match s.ask? id with
  | none => s
  | some a =>
    let s := s.modAsk id fun a =>
      { a with stage := .accepted, journal := true, confirmed := confirmed, region := s.regionRaw a.addr, rule := s.ruleFor a }
    let s := s.peak 0xA002 2 s.journalUsed
    let c := s.askCause a
    let sync := match a.op with | .sync _ _ _ => true | _ => false
    let chan := if sync || farAddr a.addr then 511 else (s.place a.addr).c
    let s := candidate (if a.internal then 12 else 10) c
      (askSample a chan (!sync && s.sealedAt a.addr) (!sync && s.secureAt a.addr)) (countIf breakwaterBank 0 1 c s)
    sendAccept a s

/-! ### Ports -/

/-- State of a tile feed port: 0 up, 1 down, 2 shadow, 3 absent. -/
def State.portState (s : State) (t : Nat) : Nat := if decide (64 * s.cfg.nstacks ≤ t) then 3 else s.ob 0x2321 t % 256
def setPortState (t v : Nat) (s : State) : State := s.setOb 0x2321 t (s.ob 0x2321 t / 256 * 256 + v)

/-- A port takes completion beats: a tile feed port that is not down, a real-time port whose ready is asserted, and no closed
crossing between (R110, R409). -/
def State.portTakes (s : State) : Port → Bool
  | .tile t => s.portState t != 1 && !s.clk.closed.contains t
  | .rt p => !s.feeds.ready.contains (256 + p) && !s.clk.closed.contains (256 + p)
  | _ => true

/-! ### Fenced contexts, window of contexts -/

/-- A context is fenced (R117, 0x2203:01). -/
def State.fenced (s : State) (ctx : Nat) : Bool := (s.ob 0x2203 1).testBit ctx

/-- A rejoin object has been written for a unit (R434). (DEDUCED, log 33) -/
def State.armRejoin (s : State) (k : Nat) : State :=
  { s with plans := { s.plans with rejoinAt := put 0 k (s.setTicks + 1) s.plans.rejoinAt } }

/-- The commit point of tide f, four frames before it, followed the write of a unit's rejoin object (R78, R434). -/
def State.rejoinDue (s : State) (k f : Nat) : Bool :=
  let t := look 0 k s.plans.rejoinAt
  t != 0 && decide (t - 1 + 4 * frameT < s.epochT + f * frameT)

end Sys2Proof.Machine
end

