-- ==== Sys2Proof/Machine/Forward.lean ====
section
/-!
DEFINITION. Requests between nodes (R323, R334) and the completion of a request wherever it came from (R10, R269).
-/
namespace Sys2Proof.Machine

/-! ### Operand words (R218) -/

def atomicWord (f offset : Nat) (wide fetch : Bool) : Nat := offset * 2 ^ 7 + b2n fetch * 2 ^ 6 + b2n wide * 2 ^ 5 + f
def redWord (w : RedWord) : Nat :=
  w.function * 2 ^ 54 + w.type * 2 ^ 52 + b2n w.wide * 2 ^ 51 + b2n w.init * 2 ^ 50 + w.tag * 2 ^ 42 + w.index * 2 ^ 30 +
  w.count * 2 ^ 18 + b2n w.signal * 2 ^ 17 + w.object
def syncWord (op obj operand : Nat) : Nat := op * 2 ^ 52 + obj * 2 ^ 35 + operand
def widenWord (x j : Nat) : Nat := j * 2 ^ 8 + x

/-- A reduction word's fields. -/
def redOf (w : Nat) : RedWord :=
  ⟨bits 55 54 w, bits 53 52 w, bit 51 w, bit 50 w, bits 49 42 w, bits 41 30 w, bits 29 18 w, bit 17 w, bits 16 0 w⟩

/-- The payload of a REQUEST (R324). -/
def opBody : Op → List Byte
  | .read => []
  | .write m d => leBytes 128 d ++ leBytes 16 m ++ zeroBytes 16
  | .put d _ => leBytes 128 d ++ leBytes 16 fullMask ++ zeroBytes 16
  | .atomic f o w fe a b => leBytes 8 a ++ leBytes 8 b ++ leBytes 8 (atomicWord f o w fe) ++ zeroBytes 8
  | .reduce w d => leBytes 128 d ++ leBytes 8 (redWord w) ++ zeroBytes 24
  | .sync op o x => leBytes 8 (syncWord op o x) ++ zeroBytes 24
  | .widen x j => leBytes 8 (widenWord x j) ++ zeroBytes 24

/-- The operation a REQUEST parcel carries; none for a rsvd opcode or a nonzero rsvd bit. -/
def opOf (code : Nat) (body : List Byte) : Option Op :=
  let w (k : Nat) : Nat := leNat (sliceBytes (8 * k) 8 body)
  match code with
  | 1 => some .read
  | 2 => some (.write (leNat (sliceBytes 128 16 body)) (leNat (body.take 128)))
  | 3 =>
    if bits 63 14 (w 2) != 0 then none
    else some (.atomic (bits 4 0 (w 2)) (bits 13 7 (w 2)) (bit 5 (w 2)) (bit 6 (w 2)) (w 0) (w 1))
  | 4 => if bits 63 56 (w 16) != 0 then none else some (.reduce (redOf (w 16)) (leNat (body.take 128)))
  | 5 =>
    if bits 63 56 (w 0) != 0 || bits 34 32 (w 0) != 0 then none
    else some (.sync (bits 55 52 (w 0)) (bits 51 35 (w 0)) (bits 31 0 (w 0)))
  | 6 => if bits 63 11 (w 0) != 0 || bits 7 6 (w 0) != 0 then none else some (.widen (bits 5 0 (w 0)) (bits 10 8 (w 0)))
  | _ => none

/-- The header of a request for another node. -/
def Ask.header (a : Ask) (dest me : Nat) : Hdr :=
  { Hdr.zero with
    kind := 1, cls := a.side.cls, dest := dest, origin := me, world := a.side.world, colour := a.side.pre
    len := ((opBody a.op).length + 31) / 32, opcode := opCode a.op, context := a.side.ctx, stream := a.side.stream
    rseq := a.side.seq, portKind := portKindOf a.side.port, portIndex := portIndexOf a.side.port, tag := a.side.tag
    due := if a.due = 0 then 0 else if (a.due - 1) % 2 ^ 32 = 0 then 1 else (a.due - 1) % 2 ^ 32
    line := match a.op with | .sync .. => 0 | _ => a.addr / 128 }

/-- The node that owns what a request targets (R218): the object's node for SYNC, otherwise the address's. -/
def Ask.owner (a : Ask) : Nat := match a.op with | .sync _ o _ => o / 2 ^ 14 % 8 | _ => adNode a.addr

/-- Entries of the forward table (R334). -/
def forwardSize : Nat := 4096
def State.forwarded (s : State) : Nat := (s.path.asks.filter fun a => a.fwd != 0).length

/-! ### Completions -/

/-- The header of the completion of a remote request. -/
def completionHdr (h : Hdr) (me status len : Nat) : Hdr :=
  { h with kind := 2, dest := h.origin, origin := me, opcode := status, len := len, detour := false, e2e := 0, hop := 0, due := 0, line := 0 }

/-- The payload of a completion: 32 bytes for a synchronisation state, a line otherwise. -/
def completionBody (op : Op) (data : Option Nat) : List Byte :=
  match data with
  | none => []
  | some d => match op with | .sync .. => leBytes 32 d | _ => leBytes 128 d

/-- Send the completion of a remote request to its origin. -/
def sendCompletion (a : Ask) (status : Nat) (data : Option Nat) (s : State) : State :=
  match a.side.port with
  | .headland _ h =>
    let body := completionBody a.op data
    sendParcel h.origin (completionHdr h s.me status (body.length / 32)) body s
  | _ => s

/-- A drain line's journal entry. -/
def Ask.isDrain (a : Ask) : Bool := match a.why with | .drain _ _ => true | _ => false

/-- The Breakwater's counters of a decision on a request of its own (R487). -/
def countDecision (a : Ask) (status : Nat) (s : State) : State :=
  let c := s.askCause a
  if a.fwd != 0 || a.isDrain then s
  else if status = St.retry then countIf breakwaterBank 1 1 c s
  else if status = St.denied then countIf breakwaterBank 2 1 c s
  else if status = St.unreachable then countIf breakwaterBank 3 1 c s
  else if status = St.poisoned then countIf breakwaterBank 4 1 c s
  else s

/-- A request gets its completion, once (R10, R269). A remote one is sent to its origin, and held until its DONE if it was
accepted; an internal one that needs no more is retired. -/
def finish (id status : Nat) (data : Option Nat) (s : State) : State :=
  match s.ask? id with
  | none => s
  | some a =>
    if a.stage == .finished then s
    else
      let s := countDecision a status (s.modAsk id fun a => { a with stage := .finished, result := some (status, data) })
      let s := sampleEffect id s
      let s := if a.internal then (if a.isDrain then s else sampleEnd 0 id 0 status s) else s
      match a.side.port with
      | .headland _ _ =>
        let s := sendCompletion a status data s
        if a.journal then s else s.setAsks (s.path.asks.filter fun b => b.id != id)
      | _ => s

/-- Drop a request without a completion. -/
def dropAsk (id : Nat) (s : State) : State :=
  let s := sampleGone 0 id 0 s
  s.setAsks (s.path.asks.filter fun b => b.id != id)

/-- Requests of a unit that it no longer waits for: one another node still serves is left to its completion, any other goes. -/
def abandonReads (f : Purpose → Bool) (s : State) : State :=
  forEach (s.path.asks.filter fun q => f q.why) (fun q s =>
    if q.fwd != 0 && q.stage != .finished then s.modAsk q.id fun b => { b with why := .port } else dropAsk q.id s) s

/-- After a change of route to a node, or its return from a warm reset: requests to it that hold neither ACCEPT nor a completion are
sent again, and so is every completion for it that no DONE covers (R335). (DEDUCED, log 23) -/
def reissue (n : Nat) (s : State) : State :=
  let s := s.setSet { s.hl.set with rerouted := setBit n false s.hl.set.rerouted }
  let ask (q : Ask) : Bool := q.fwd == 1 && q.owner == n && q.stage != .finished
  let done (q : Ask) : Bool := q.stage == .finished && (match q.side.port with | .headland _ g => g.origin == n | _ => false)
  let s := forEach (s.path.asks.filter ask) (fun q s =>
    sendParcel n (q.header n s.me) (opBody q.op) (s.bump 0x5808 0x0B)) s
  forEach (s.path.asks.filter done) (fun q s => let r := q.result.getD (0, none); sendCompletion q r.1 r.2 s) s

/-- Offer a request for another node (R334): it takes a forward-table entry and is sent, or completes RETRY_LATER. An
unreachable node answers UNREACHABLE, and the address of one that is no member, or fenced, is unmapped (R40); a request to a node in a warm reset waits in the table (R344); after a
change of route the older ones go again first (R337). A unit's own request is told from
its others by a sequence number of the table's. (DEDUCED, log 22) -/
def forwardAsk (a : Ask) (s : State) : State :=
  let dest := a.owner
  let s := if s.hl.set.rerouted.testBit dest && s.canReach dest && look 0 dest s.hl.set.resetting == 0 then reissue dest s else s
  let a := if a.internal then { a with side := { a.side with seq := a.id % 65536 } } else a
  if !s.hl.set.members.testBit dest || s.hl.set.fenced.testBit dest then
    let s := match a.op with | .sync .. => s | _ => countAccess St.unreachable a.addr s
    finish a.id St.unreachable none (addAsk a s)
  else if !s.canReach dest then finish a.id St.unreachable none (addAsk a s)
  else if forwardSize ≤ s.forwarded then finish a.id St.retry none (addAsk a s)
  else if look 0 dest s.hl.set.resetting != 0 then addAsk { a with fwd := 1 } s
  else sendParcel dest (a.header dest s.me) (opBody a.op) (addAsk { a with fwd := 1 } s)

/-- A block-internal request of this node: tier E in a best-effort class, B otherwise (R229). -/
def State.unitAsk (s : State) (code cls ctx : Nat) (world : Bool) (a : Nat) (op : Op) (why : Purpose) : Ask :=
  { s.newAsk ⟨.unit code, 0, 0, 0, cls, ctx, world, 0, 0, 0, false⟩ a op why with
    rank := s.classRank cls, tier := if s.ob (0x3010 + cls) 1 = 0 then 4 else 1 }

/-- Offer a block-internal request that is checked at step 1 of R53 only (R215, R219, R560): no meter, no hold limit. One whose channel
has failed is UNREACHABLE; one whose channel is not yet in service stays with its unit (R35). (DEDUCED, log 60) -/
def offerInternal (code cls ctx : Nat) (world : Bool) (a : Nat) (op : Op) (why : Purpose) (s : State) : State :=
  let q := s.unitAsk code cls ctx world a op why
  if q.owner != s.me then forwardAsk q s
  else if unmapped a s then finish q.id St.unreachable none (addAsk q (countAccess St.unreachable a s))
  else if !farAddr a && !s.reachable a then finish q.id St.unreachable none (addAsk q s)
  else addAsk q s

end Sys2Proof.Machine
end

