-- ==== Sys2Proof/Machine/Sync.lean ====
section
/-!
DEFINITION. How a request ends short of its effect (R219, R231), and the synchronisation objects (R174–R179).
-/
namespace Sys2Proof.Machine

/-! ### Refusals -/

/-- The sender of a request, without what differs from one parcel to the next. -/
def Ask.sender (a : Ask) : Port :=
  match a.side.port with
  | .headland _ h => .headland 0 { Hdr.zero with origin := h.origin, portKind := h.portKind, portIndex := h.portIndex }
  | p => p

/-- Two requests are of one (port, stream). -/
def Ask.sameStream (a b : Ask) : Bool := a.sender == b.sender && a.side.stream == b.side.stream

/-- The requests that came after a request. -/
def laterAsks (id : Nat) (l : List Ask) : List Ask := (l.dropWhile fun b => b.id != id).drop 1
def earlierAsks (id : Nat) (l : List Ask) : List Ask := l.takeWhile fun b => b.id != id

/-- Sequence number `b` comes after `a`, modulo 2^16 (R231). -/
def seqAfter (b a : Nat) : Bool := decide (0 < (b + 65536 - a % 65536) % 65536) && decide ((b + 65536 - a % 65536) % 65536 < 32768)

/-- A request comes after the refused one of a refusal chain of its (port, stream) (R231). -/
def State.chained (s : State) (a : Ask) : Bool :=
  s.path.chains.any fun k => k.1 == a.sender && k.2.1 == a.side.stream && seqAfter a.side.seq k.2.2

/-- A request that carries the refused sequence number ends its chain (R231). -/
def endChain (a : Ask) (s : State) : State :=
  s.setPath { s.path with chains := s.path.chains.filter fun k =>
    !(k.1 == a.sender && k.2.1 == a.side.stream && k.2.2 == a.side.seq) }

/-- Start a refusal chain, and refuse what is already offered behind: `later` are the requests that came after (R231). (DEDUCED, log 54) -/
def startChain (a : Ask) (later : List Ask) (s : State) : State :=
  if a.unitKind || s.chained a then s
  else
    let s := s.setPath { s.path with chains := s.path.chains ++ [(a.sender, a.side.stream, a.side.seq)] }
    forEach (later.filter fun b => b.sameStream a && b.stage == .offered && b.fwd == 0)
      (fun b s => finish b.id St.retry none s) s

/-- A request completes RETRY_LATER. -/
def refuseLater (id : Nat) (s : State) : State :=
  match s.ask? id with
  | none => s
  | some a => startChain a (laterAsks id s.path.asks) (finish id St.retry none s)

/-- A slice decides RETRY_LATER (R487). -/
def sliceLater (x id : Nat) (s : State) : State :=
  refuseLater id (match s.ask? id with | some a => countIf (sliceBank x) 7 1 (s.askCause a) s | none => s)

/-- A request completes DENIED. Atomics and contributions are counted and reported (R163, R169). -/
def denyAsk (id : Nat) (s : State) : State :=
  match s.ask? id with
  | none => s
  | some a =>
    let s := finish id St.denied none s
    match a.op with
    | .atomic .. => raiseAt Ev.atomicRefused 0xFFFF a.addr (s.secureAt a.addr) (s.bump 0x2500 0x0B)
    | .reduce .. => raiseAt Ev.reductionMismatch 0xFFFF a.addr (s.secureAt a.addr) (s.bump 0x2500 0x0B)
    | _ => s

/-- The effect of a request has been taken, as R176 orders by it. -/
def Ask.effected (a : Ask) : Bool :=
  a.stage == .finished || a.fwd != 0 ||
  match a.op with
  | .read => false
  | .widen _ _ => false
  | .write _ _ => a.stage != .offered
  | .put _ _ => a.stage != .offered
  | .sync 4 _ _ => true
  | _ => a.applied.isSome

/-- Every earlier request of the (port, stream) has taken effect (R176). -/
def State.earlierDone (s : State) (a : Ask) : Bool :=
  (earlierAsks a.id s.path.asks).all fun b => !b.sameStream a || b.effected

/-- A journal entry for a request, or RETRY_LATER when none outside the reserve is free (R268). -/
def acceptOr (id : Nat) (confirmed : Bool) (f : State → State) (s : State) : State :=
  match s.ask? id with
  | none => s
  | some a =>
    if a.stage != .offered then f s
    else if !s.entryFree a then (if a.unitKind then s else refuseLater id s)
    else f (acceptAsk id confirmed s)

/-! ### Objects (R174) -/

def syncNode (obj : Nat) : Nat := obj / 2 ^ 14 % 8
def syncIndex (obj : Nat) : Nat := obj % 2 ^ 14
def syncValue (v : Nat) : Nat := v % 2 ^ 32
def State.syncState (s : State) (o : Nat) : Nat := look 0 o s.syncs

/-- Objects at or above the base of 0x2500:07 are Secure. -/
def State.syncSecure (s : State) (o : Nat) : Bool := decide (s.ob 0x2500 7 ≤ o)

/-- State of slice x: 0 in service, 1 faulted, 2 taken over, 3 shadow, 4 out (0x2510+x:01). -/
def State.sliceState (s : State) (x : Nat) : Nat := s.ob (0x2510 + x) 1

/-- The slice that serves an object (R156). -/
def syncSlice (o : Nat) : Nat := o % 16

/-- The waiters on an object whose threshold a value reaches. -/
def State.satisfied (s : State) (o v : Nat) : List (Nat × Nat × Nat) :=
  s.cache.waiters.filter fun w => w.1 == o && decide (w.2.1 ≤ syncValue v)

/-- A stream engine is sent a changed object state (R177). -/
def Stream.notice (o v : Nat) (t : Stream) : Stream :=
  match t.waiting with
  | some w => if w.1 = o then { t with watched := some (syncValue v) } else t
  | none => t

/-- Send an object's state to another node (R178). -/
def sendNotice (node obj v : Nat) (s : State) : State :=
  sendParcel node { Hdr.zero with kind := 5, cls := s.ob 0x2500 0x0A } (leBytes 4 obj ++ leBytes 8 v ++ zeroBytes 20) s

/-- Tell a watcher: a stream of this node, or another node. -/
def tellWatcher (o v w : Nat) (s : State) : State :=
  let obj := s.me * 2 ^ 14 + o
  if w < 4096 then
    { s with feeds := { s.feeds with streams := s.feeds.streams.map fun p =>
        if p.1 == w then (p.1, p.2.notice obj v) else p } }
  else sendNotice (w - 4096) obj v s

/-- Change an object: waiters whose condition now holds complete, and watchers are told in order (R175, R177). -/
def putSync (o v : Nat) (s : State) : State :=
  let s := { s with syncs := put 0 o v s.syncs }
  let ready := s.satisfied o v
  let s := { s with cache := { s.cache with waiters := s.cache.waiters.filter fun w => !ready.contains w } }
  let s := forEach ready (fun w s => finish w.2.2 St.ok (some (v + 2 ^ 34)) s) s
  forEach (s.cache.watches.filter fun w => w.1 == o) (fun w s => tellWatcher o v w.2 s) s

/-- The state after a saturating addition (R175). -/
def addSync (v n : Nat) : Nat :=
  if syncValue v + n < 2 ^ 32 then v + n
  else setBit 32 true (v - syncValue v + (2 ^ 32 - 1))

/-- Add to an object; an overflow is raised once until its flag is cleared. -/
def bumpSync (o n : Nat) (broken : Bool) (s : State) : State :=
  let v := s.syncState o
  let v' := addSync v n
  let s := if v'.testBit 32 && !v.testBit 32 then raiseNode Ev.syncOverflow o s else s
  putSync o (if broken then setBit 33 true v' else v') s

/-- Signal a 17-bit object of any node (R171, R173, R178): here at once, without effect on a Secure object in the Normal world (R174);
elsewhere as a SYNC request of a unit of this node. A SIGNAL request has no place for the broken flag (R324), so another node's object is
signalled without it. (DEDUCED, log 34) -/
def signalObject (unit obj addend ctx : Nat) (world broken : Bool) (s : State) : State :=
  if syncNode obj = s.me then
    if s.syncSecure (syncIndex obj) && !world then s else bumpSync (syncIndex obj) addend broken s
  else
    let side : Side := ⟨.unit unit, 0, 0, 0, s.ob 0x2500 0x0A, ctx, world, 0, 0, 0, false⟩
    forwardAsk (s.newAsk side 0 (.sync 3 obj addend) .port) s

/-- Waiter entries of a slice in use (R155). -/
def State.waitersOf (s : State) (x : Nat) : Nat := (s.cache.waiters.filter fun w => syncSlice w.1 == x).length

/-- Record an operation's applied mark and complete it (R165, R269). -/
def applyAsk (id : Nat) (value : Nat) (data : Option Nat) (s : State) : State :=
  finish id St.ok data (s.modAsk id fun a => { a with applied := some value })

/-- A watch another node's stream engine asks for (R177, R178). -/
def Ask.watches (a : Ask) : Option Nat :=
  match a.side.port with
  | .headland _ h => if h.portKind = 2 && decide (0x40 ≤ h.portIndex) && decide (h.portIndex < 0x80) then some (4096 + h.origin)
    else none
  | _ => none

/-- Apply a synchronisation operation that its slice has accepted (R175). -/
def syncApply (a : Ask) (op o operand : Nat) (s : State) : State :=
  let v := s.syncState o
  match op with
  | 0 => applyAsk a.id v (some v) s
  | 1 => putSync o operand (applyAsk a.id v none s)
  | 2 => bumpSync o operand false (applyAsk a.id v (some v) s)
  | 3 => bumpSync o operand false (applyAsk a.id v none s)
  | 4 =>
    match a.watches with
    | some w =>
      let s := { s with cache := { s.cache with watches := s.cache.watches.filter (fun k => k != (o, w)) ++ [(o, w)] } }
      sendNotice (w - 4096) (s.me * 2 ^ 14 + o) v (applyAsk a.id v (some v) s)
    | none =>
      if operand ≤ syncValue v then applyAsk a.id v (some (v + 2 ^ 34)) s
      else { s with cache := { s.cache with waiters := s.cache.waiters ++ [(o, operand, a.id)] } }
  | _ => putSync o 0 (applyAsk a.id v none s)

/-- A synchronisation operation at the serving slice: refused or denied, accepted and held behind earlier requests, or
applied (R174–R177). -/
def serveSync (id : Nat) (s : State) : State :=
  match s.ask? id with
  | none => s
  | some a =>
    match a.op with
    | .sync op obj operand =>
      let o := syncIndex obj
      let x := syncSlice o
      if a.stage == .finished || a.applied.isSome || s.cache.waiters.any (fun w => w.2.2 == id) then s
      else if a.stage == .offered && (5 < op || (s.syncSecure o && !a.side.world)) then denyAsk id s
      else if s.sliceState x = 1 then (if a.stage == .offered then sliceLater x id s else s)
      else if a.stage == .offered && op == 4 && a.watches.isNone && decide (256 ≤ s.waitersOf x) then sliceLater x id s
      else acceptOr id true (fun s =>
        if op == 0 || op == 4 || s.earlierDone a then syncApply a op o operand (countIf (sliceBank x) 8 1 (s.askCause a) s) else s) s
    | _ => s

/-- WAITs of a slice that have waited for the wait timeout complete with bit [34] clear (R175). -/
def syncTimeouts (s : State) : State :=
  let due := s.cache.waiters.filter fun w => match s.ask? w.2.2 with
    | some a => s.elapsed a.arrived (a.rule * 1000 * nsT)
    | none => true
  let s := { s with cache := { s.cache with waiters := s.cache.waiters.filter fun w => !due.contains w } }
  forEach due (fun w s => finish w.2.2 St.ok (some (s.syncState w.1)) s) s

/-! ### A lost node (R179) -/

/-- The watches and waiters a lost node held are removed; a WAIT of its that was accepted ends as one whose time is over. (DESIGN CHOICE,
log 34) -/
def dropWatcher (node : Nat) (s : State) : State :=
  let held (w : Nat × Nat × Nat) : Bool := match s.ask? w.2.2 with
    | some a => (match a.side.port with | .headland _ h => h.origin == node | _ => false)
    | none => false
  let gone := s.cache.waiters.filter held
  let s := { s with cache := { s.cache with
      watches := s.cache.watches.filter fun w => w.2 != 4096 + node
      waiters := s.cache.waiters.filter fun w => !held w } }
  forEach gone (fun w s => finish w.2.2 St.ok (some (s.syncState w.1)) s) s

end Sys2Proof.Machine
end

