-- ==== Sys2Proof/Machine/Cache.lean ====
section
/-!
DEFINITION. The shared cache (R155–R166): slices, sets and ways, allocation, dirty lines with their mirrors, write-backs, and
the atomic functions.
-/
namespace Sys2Proof.Machine

/-! ### Placement (R156) -/

/-- The home slice and the set of a line's address. -/
def sliceOf (a : Nat) : Nat :=
  bits 10 7 a ^^^ bits 14 11 a ^^^ bits 18 15 a ^^^ bits 22 19 a ^^^ bits 26 23 a ^^^ bits 30 27 a ^^^ bits 34 31 a ^^^
  bits 38 35 a ^^^ bits 40 39 a
def setOf (a : Nat) : Nat := bits 21 11 a
def partnerOf (x : Nat) : Nat := x ^^^ 8

/-- The slice that serves the lines of slice x: itself, its partner after a takeover, none while it is faulted or its pair is
out (R161, R162). -/
def State.serving (s : State) (x : Nat) : Option Nat :=
  match s.sliceState x with
  | 0 => some x
  | 2 => some (partnerOf x)
  | 3 => some (partnerOf x)
  | _ => none

/-- Dirty lines of slice x have mirrors: it and its partner serve their own sets (R160, R161). -/
def State.mirrored (s : State) (x : Nat) : Bool := s.sliceState x == 0 && s.sliceState (partnerOf x) == 0

/-! ### Ways -/

def State.setCache (s : State) (c : Cache) : State := { s with cache := c }

/-- Way w of set y of the array of slice p. -/
def wayKey (p y w : Nat) : Nat := (p * 2048 + y) * 16 + w
def State.way (s : State) (k : Nat) : Option CWay := look none k s.cache.ways
def State.setWay (s : State) (k : Nat) (w : Option CWay) : State :=
  s.setCache { s.cache with ways := put none k w s.cache.ways }

/-- The ways of a set, by key. -/
def setKeys (p y : Nat) : List Nat := (List.range 16).map (wayKey p y)

/-- Where the array of slice p holds a line of a kind that `f` accepts. -/
def State.findWay (s : State) (p line : Nat) (f : WayKind → Bool) : Option (Nat × CWay) :=
  (setKeys p (setOf (line * 128))).findSome? fun k => match s.way k with
    | some w => if w.line = line && f w.kind then some (k, w) else none
    | none => none

/-- The copy of a line that the cache serves, with its way. -/
def State.cached (s : State) (a : Nat) : Option (Nat × CWay) :=
  match s.serving (sliceOf a) with
  | some p => s.findWay p (a / 128) fun k => k != .mirror
  | none => none

/-- The mirror of a dirty line of slice x. -/
def State.mirrorOf (s : State) (a : Nat) : Option (Nat × CWay) :=
  s.findWay (partnerOf (sliceOf a)) (a / 128) fun k => k == .mirror

/-- The object of a slice's dirty lines follows its ways. -/
def syncDirty (a : Nat) (s : State) : State :=
  let x := sliceOf a
  s.setOb (0x2510 + x) 6
    (s.cache.ways.filter fun p => match p.2 with
      | some w => w.kind == .dirty && sliceOf (w.line * 128) == x
      | none => false).length

/-- Use a way: it is the most recently used. -/
def touch (k : Nat) (s : State) : State :=
  let n := s.cache.use + 1
  (s.setCache { s.cache with use := n }).setWay k ((s.way k).map fun w => { w with used := n })

/-- What a set offers to a line to be allocated under a way mask (R157). -/
inductive Victim where
  /-- A way that is free or holds a clean line. -/
  | way (key : Nat)
  /-- Only a dirty line may be replaced, once written back. -/
  | dirty (line : Nat)
  | none
  deriving DecidableEq, Repr

/-- The least of some ways by a measure. -/
def leastWay (f : CWay → Nat) (l : List (Nat × CWay)) : Option (Nat × CWay) :=
  l.foldl (fun b p => match b with
    | some q => if f p.2 < f q.2 then some p else some q
    | none => some p) none

/-- The way a line takes: a free way, the least recently used clean line, or a dirty line (R157): of dirty lines the one longest unmodified.
(DESIGN CHOICE, log 34) -/
def State.victim (s : State) (p y mask : Nat) : Victim :=
  let ks := (List.range 16).filterMap fun w => if mask.testBit w then some (wayKey p y w) else none
  match ks.find? fun k => (s.way k).isNone with
  | some k => .way k
  | none =>
    let ways := ks.filterMap fun k => (s.way k).map fun w => (k, w)
    match leastWay CWay.used (ways.filter fun q => q.2.kind == .clean) with
    | some q => .way q.1
    | none => match leastWay CWay.modified (ways.filter fun q => q.2.kind == .dirty) with
      | some q => .dirty q.2.line
      | none => .none

def anyWay : Nat := 0xFFFF

/-- A clean copy of a line. -/
def CWay.fresh (line data info used : Nat) : CWay := ⟨line, data, info, .clean, 0, used, false⟩

/-- Put a clean copy of a line in a way. -/
def installAt (k a data info : Nat) (s : State) : State :=
  touch k (s.setWay k (some (.fresh (a / 128) data info 0)))

/-- Drop the cache's copies of a line, mirror included. -/
def dropLine (a : Nat) (s : State) : State :=
  let s := match s.cached a with | some q => s.setWay q.1 none | none => s
  let s := match s.mirrorOf a with | some q => s.setWay q.1 none | none => s
  syncDirty a s

/-- Keep the mirror of a dirty line as it is (R160). -/
def mirrorLine (a : Nat) (w : CWay) (s : State) : State :=
  let x := sliceOf a
  if !s.mirrored x then s
  else
    let m : CWay := { w with kind := .mirror }
    match s.mirrorOf a with
    | some q => s.setWay q.1 (some m)
    | none => match s.victim (partnerOf x) (setOf a) anyWay with
      | .way k => s.setWay k (some m)
      | _ => s

/-- Lines of a set that count to the limit of 8: dirty lines and mirrors (R160). -/
def State.dirtyIn (s : State) (p y : Nat) : List CWay :=
  (setKeys p y).filterMap fun k => match s.way k with
    | some w => if w.kind == .clean then none else some w
    | none => none

/-! ### Write-backs (R159) -/

/-- The lines that are dirty. -/
def State.dirtyLines (s : State) : List Nat :=
  s.cache.ways.filterMap fun p => match p.2 with
    | some w => if w.kind == .dirty then some w.line else none
    | none => none

/-- Begin the write-back of a line: an open-path write of its slice, journalled once it is granted. -/
def startWriteBack (line : Nat) (s : State) : State :=
  let a := line * 128
  match s.cached a with
  | some (k, w) =>
    if w.writing then s
    else
      let s := count (sliceBank (sliceOf a)) 6 1 (s.setWay k (some { w with writing := true }))
      offerInternal (0x10 + sliceOf a) 0 0 (s.secureAt a) a (.put w.data (s.writeInfo a)) (.writeBack line) s
  | none => s

/-- A FLUSH and a write-through atomic of a line complete once it is clean (R159, R161). -/
def lineClean (line : Nat) (s : State) : State :=
  let fl := s.cache.flushes.filter fun f => f.2 == line
  let s := s.setCache { s.cache with flushes := s.cache.flushes.filter fun f => f.2 != line }
  let s := forEach fl (fun f s => applyAsk f.1 0 none s) s
  let held := s.path.asks.filter fun b => b.stage == .accepted && b.addr / 128 == line && b.applied.isSome &&
    (match b.op with | .atomic .. => true | _ => false)
  let s := forEach held (fun b s => finish b.id St.ok (match b.op with
    | .atomic f _ _ fe _ _ => if fe || f == 14 then b.applied else none
    | _ => none) s) s
  let all := s.cache.flushAll.map fun p => (p.1, p.2.filter fun l => l != line)
  let s := s.setCache { s.cache with flushAll := all.filter fun p => !p.2.isEmpty }
  forEach (all.filter fun p => p.2.isEmpty) (fun p s => complete p.1 St.ok 0 s) s

/-- A line becomes clean: its mirror goes. -/
def cleanLine (a : Nat) (s : State) : State :=
  let s := match s.cached a with
    | some (k, w) => s.setWay k (some { w with kind := .clean, writing := false })
    | none => s
  let s := match s.mirrorOf a with | some q => s.setWay q.1 none | none => s
  lineClean (a / 128) (syncDirty a s)

/-- The channel has accepted a write-back with its data: the line is clean unless it has changed since (R159). -/
def writtenBack (line data : Nat) (s : State) : State :=
  match s.cached (line * 128) with
  | some (k, w) =>
    if w.data = data then cleanLine (line * 128) s
    else s.setWay k (some { w with writing := false })
  | none => lineClean line s

/-- Write back every dirty line that a condition selects. -/
def writeBackAll (f : CWay → Bool) (s : State) : State :=
  forEach (s.cache.ways.filterMap fun p => match p.2 with
    | some w => if w.kind == .dirty && f w then some w.line else none
    | none => none) startWriteBack s

/-- A planned or open whole write to a line replaces the cached copy, which becomes clean; a write-back of the old bytes that has not been
accepted is not made (R158). -/
def replaceCopy (a data info : Nat) (s : State) : State :=
  match s.cached a with
  | some (k, w) =>
    let old (q : Ask) : Bool := q.stage == .offered && q.why == .writeBack (a / 128) && w.kind == .dirty
    let s := s.setAsks (s.path.asks.filter fun q => !old q)
    cleanLine a (s.setWay k (some { w with data := data, info := info }))
  | none =>
    if s.sliceState (sliceOf a) = 1 then match s.mirrorOf a with | some q => syncDirty a (s.setWay q.1 none) | none => s else s

/-- Allocate a clean copy if a way is free for it; whether it was. (DEDUCED, log 34) -/
def tryInstall (a mask data info : Nat) (s : State) : Bool × State :=
  match s.serving (sliceOf a) with
  | none => (true, s)
  | some p => match s.cached a with
    | some (k, w) => (true, if w.kind == .clean then s.setWay k (some { w with data := data, info := info }) else s)
    | none => match s.victim p (setOf a) mask with
      | .way k => (true, installAt k a data info s)
      | .dirty l => (false, startWriteBack l s)
      | .none => (true, s)

/-- Allocate the line of an open write; where only a dirty line may give way, the line waits for its write-back (R157). -/
def allocWrite (a mask data info : Nat) (s : State) : State :=
  let r := tryInstall a mask data info s
  if r.1 then r.2 else r.2.setCache { r.2.cache with allocs := r.2.cache.allocs.filter (fun p => p.1 != a / 128) ++ [(a / 128, mask)] }

/-- The lines that wait to be allocated, each as it stands now (R157). -/
def retryAllocs (s : State) : State :=
  let l := s.cache.allocs
  forEach l (fun p s =>
    match s.cached (128 * p.1), s.lineNow (128 * p.1) with
    | none, some d => if d.2.testBit 11 then s else allocWrite (128 * p.1) p.2 d.1 d.2 s
    | _, _ => s) (s.setCache { s.cache with allocs := [] })

/-! ### Atomic functions (R163, R164) -/

/-- The width is allowed for the function. -/
def atomicWidthOk (f : Nat) (wide : Bool) : Bool :=
  !wide || (f != 10 && f != 11 && f != 12 && f != 13 && f != 15)

/-- The new value of a field m of w bits. (DEDUCED, log 34) -/
def atomicFn (f w m a b : Nat) : Nat :=
  let a := a % 2 ^ w
  let b := b % 2 ^ w
  match f with
  | 0 => a
  | 1 => if m = a then b else m
  | 2 => (m + a) % 2 ^ w
  | 3 => m &&& a
  | 4 => m ||| a
  | 5 => m ^^^ a
  | 6 => if signed w a < signed w m then a else m
  | 7 => if signed w m < signed w a then a else m
  | 8 => min m a
  | 9 => max m a
  | 10 => fp32.round nan32 ((fp32.decode m).add (fp32.decode a))
  | 11 => fp32.round nan32 ((fp32.decode m).minN (fp32.decode a))
  | 12 => fp32.round nan32 ((fp32.decode m).maxN (fp32.decode a))
  | 13 => if a ≤ m then 0 else m + 1
  | _ => m

/-- The field of a line at a byte offset, and the line with the field replaced. -/
def fieldAt (d offset w : Nat) : Nat := d / 2 ^ (8 * offset) % 2 ^ w
def withField (d offset w v : Nat) : Nat := d - fieldAt d offset w * 2 ^ (8 * offset) + v * 2 ^ (8 * offset)

/-- The checks of R163 that rest on the request alone. -/
def atomicDenied (f offset : Nat) (wide : Bool) (a : Nat) : Bool :=
  decide (15 < f) || !atomicWidthOk f wide || offset % (if wide then 8 else 4) != 0 || farAddr a

/-- An open reduction on a line. -/
def State.redOn (s : State) (a : Nat) : Option Red := s.cache.reds.find? fun r => r.addr == lineOf a

/-- An earlier atomic or open write to the same line has been accepted and not yet applied (R165). -/
def State.lineBusy (s : State) (a : Ask) : Bool :=
  (earlierAsks a.id s.path.asks).any fun b => b.stage == .accepted && b.applied.isNone && b.addr / 128 == a.addr / 128 &&
    (match b.op with | .atomic .. => true | _ => false)

/-- Change a field in a way: the applied mark, the mirror and the change are one step (R160, R165). Unmirrored, the line is
written through before the atomic completes (R161). (DEDUCED, log 34) -/
def applyAtomic (q : Ask) (k : Nat) (w : CWay) (f offset : Nat) (wide fetch : Bool) (a b : Nat) (s : State) : State :=
  let n := if wide then 64 else 32
  let old := fieldAt w.data offset n
  let s := countIf (sliceBank (sliceOf q.addr)) 3 1 (s.askCause q) (s.bump (0x2510 + sliceOf q.addr) 4)
  let data := if fetch || f == 14 then some old else none
  if f = 14 then applyAsk q.id old data (touch k s)
  else
    let w' : CWay := { w with data := withField w.data offset n (atomicFn f n old a b), info := s.writeInfo q.addr
                              kind := .dirty, modified := s.now, writing := false }
    let s := mirrorLine q.addr w' (touch k (s.setWay k (some w')))
    let s := syncDirty q.addr s
    if s.mirrored (sliceOf q.addr) then applyAsk q.id old data s
    else startWriteBack (q.addr / 128) (s.modAsk q.id fun c => { c with applied := some old })

/-- The limit of 8 dirty lines and mirrors of a set would be exceeded; the line to write back first (R160). -/
def State.dirtyLimit (s : State) (a : Nat) (w : CWay) : Option Nat :=
  match s.serving (sliceOf a) with
  | none => none
  | some p =>
    let l := s.dirtyIn p (setOf a)
    if w.kind == .clean && decide (8 ≤ l.length) then
      (leastWay CWay.modified (l.map fun w => (0, w))).map fun q => q.2.line
    else none

/-- A FLUSH of a line (R159). -/
def serveFlush (q : Ask) (s : State) : State :=
  match s.cached q.addr with
  | some (_, w) =>
    if w.kind == .dirty then
      let fl := (s.cache.flushes.filter fun f => f.1 != q.id) ++ [(q.id, q.addr / 128)]
      startWriteBack (q.addr / 128) (s.setCache { s.cache with flushes := fl })
    else applyAsk q.id 0 none s
  | none => applyAsk q.id 0 none s

/-- An accepted atomic at its slice: applied where the line is cached, POISONED where the copy is; otherwise it waits for its line (R165). -/
def tryAtomic (q : Ask) (f offset : Nat) (wide fetch : Bool) (a b : Nat) (s : State) : State :=
  if s.lineBusy q then s
  else if f = 15 then serveFlush q s
  else match s.cached q.addr with
    | none => s
    | some (k, w) =>
      if w.info.testBit 11 then finish q.id St.poisoned none s
      else if f = 14 then applyAtomic q k w f offset wide fetch a b s
      else match s.dirtyLimit q.addr w with
        | some l => startWriteBack l s
        | none => applyAtomic q k w f offset wide fetch a b s

/-- An atomic at its home slice (R161–R165, R172). -/
def serveAtomic (id : Nat) (s : State) : State :=
  match s.ask? id with
  | none => s
  | some q =>
    match q.op with
    | .atomic f offset wide fetch a b =>
      let x := sliceOf q.addr
      if q.stage == .finished || q.applied.isSome then s
      else if q.stage == .offered && atomicDenied f offset wide q.addr then denyAsk id s
      else if s.sliceState x = 4 then finish id St.unreachable none s
      else if s.sliceState x = 1 then (if q.stage == .offered then sliceLater x id s else s)
      else if (s.redOn q.addr).isSome then (if q.stage == .offered then sliceLater x id s else s)
      else acceptOr id true (fun s => tryAtomic q f offset wide fetch a b s) s
    | _ => s

/-- An atomic that has been accepted needs its line fetched (R158). -/
def State.needsFetch (s : State) (q : Ask) : Bool :=
  q.stage == .accepted && q.applied.isNone && !q.miss && (s.cached q.addr).isNone && (s.serving (sliceOf q.addr)).isSome &&
  match q.op with
  | .atomic f .. => f != 15
  | .reduce _ _ => match s.redOn q.addr with
    | some r => r.acc.isNone && (r.staged.head?.map fun c => c.2.1) == some q.id
    | none => false
  | _ => false

end Sys2Proof.Machine
end

