-- ==== Sys2Proof/Machine/Narrow.lean ====
section
/-!
DEFINITION. Narrow formats as pure functions of a line's bytes (chapter 05): format entries and their checks, the storage
layouts, widening into feed lines, and narrowing from feed lines with scales, rounding and residuals.
-/
namespace Sys2Proof.Machine

/-! ### Format entries (R67, R132, R133) -/

/-- The entry that 64 bytes, read as a number, hold. -/
def decodeEntry (v : Nat) : FormatEntry :=
  { storage := v % 256, compute := v / 2 ^ 8 % 256, rounding := v / 2 ^ 16 % 256, flags := v / 2 ^ 24 % 256
    bound := v / 2 ^ 32 % 2 ^ 32, seed := v / 2 ^ 64 % 2 ^ 64
    table := (List.range 16).map fun i => v / 2 ^ (128 + 16 * i) % 2 ^ 16, rsvd := v / 2 ^ 384 % 2 ^ 128 }

/-- E, the elements of a stored line of a tag (R127). -/
def elemsOf (tag : Nat) : Nat :=
  match tag with
  | 1 => 96 | 2 => 96 | 3 => 160 | 4 => 160 | 5 => 224 | 6 => 96 | 7 => 256 | 8 => 512 | 9 => 256 | _ => 0

/-- n_w by storage tag and compute format; 0 where no entry may name the combination (R132). -/
def widened (tag compute : Nat) : Nat :=
  match tag, compute with
  | 1, 1 => 2 | 1, 2 => 2 | 1, 3 => 2 | 1, 5 => 3
  | 2, 1 => 2 | 2, 2 => 2 | 2, 5 => 3
  | 3, 1 => 3 | 3, 2 => 3 | 3, 3 => 3 | 3, 5 => 5
  | 4, 1 => 3 | 4, 2 => 3 | 4, 3 => 3 | 4, 5 => 5
  | 5, 1 => 4 | 5, 2 => 4 | 5, 3 => 3 | 5, 5 => 7
  | 6, 1 => 2 | 6, 2 => 2 | 6, 4 => 2 | 6, 5 => 3
  | 7, 1 => 4 | 7, 2 => 4 | 7, 3 => 3 | 7, 4 => 3 | 7, 5 => 8
  | 8, 1 => 8 | 8, 2 => 8 | 8, 3 => 5 | 8, 4 => 5
  | 9, 1 => 4 | 9, 2 => 4 | 9, 5 => 8
  | _, _ => 0

def FormatEntry.nw (x : FormatEntry) : Nat := widened x.storage x.compute
/-- Delivery is applied: BF16, FP16 or FP32 (R130). -/
def FormatEntry.applied (x : FormatEntry) : Bool := x.compute == 1 || x.compute == 2 || x.compute == 5
/-- residual_check. -/
def FormatEntry.checks (x : FormatEntry) : Bool := x.flags.testBit 0

/-- A table of BF16 values is finite and strictly increasing. -/
def risingTable : List Nat → Bool
  | [] => true
  | [a] => (match bf16.decode a with | .fin .. => true | _ => false)
  | a :: b :: l =>
    (match bf16.decode a, bf16.decode b with
      | .fin s m e, .fin t n f => (Num.fin s m e).dy.lt (Num.fin t n f).dy
      | _, _ => false) && risingTable (b :: l)

/-- The bound is finite and in (0, 1] when residual_check is 1, and +0.0 otherwise. -/
def FormatEntry.boundOk (x : FormatEntry) : Bool :=
  if x.checks then
    match fp32.decode x.bound with
    | .fin false m e => m != 0 && !(Dy.lt ⟨1, 0⟩ ⟨m, e⟩)
    | _ => false
  else x.bound == 0

/-- The first failing check of R133; 0 for a valid entry. -/
def entryCheck (x : FormatEntry) : Nat :=
  if x.storage = 0 || 9 < x.storage then 1
  else if x.nw = 0 then 2
  else if 1 < x.rounding then 3
  else if 1 < x.flags || !x.boundOk then 4
  else if !(if x.storage = 9 then risingTable x.table else x.table.all (· == 0)) then 5
  else if x.rsvd != 0 then 6
  else 0

/-! ### Stored lines (R127–R129) -/

/-- Byte k of a line. -/
def byteAt (d k : Nat) : Nat := d / 2 ^ (8 * k) % 256

/-- 2^(s − 127), NaN for 0xFF (R128). -/
def e8m0 (s : Nat) : Num := if s = 255 then .nan else .fin false 1 ((s : Int) - 127)

/-- An integer times 2^e. -/
def intNum (c : Int) (e : Int) : Num := .fin (decide (c < 0)) c.natAbs e

/-- The element format of an MX floating-point tag. -/
def mxFmt : Nat → FFmt
  | 1 => e4m3 | 2 => e5m2 | 3 => e2m3 | 4 => e3m2 | _ => e2m1

/-- Code j of a line of a tag. -/
def codeAt (tag d j : Nat) : Nat :=
  match tag with
  | 3 => d / 2 ^ (6 * j) % 64
  | 4 => d / 2 ^ (6 * j) % 64
  | 5 => d / 2 ^ (4 * j) % 16
  | 7 => d / 2 ^ (3 * j) % 8
  | 8 => byteAt d (j / 5) / 3 ^ (j % 5) % 3
  | 9 => d / 2 ^ (4 * j) % 16
  | _ => byteAt d j

/-- The scale byte that governs element j, and the sub-scale of tag 7. -/
def scaleAt (tag d j : Nat) : Nat :=
  match tag with
  | 3 => byteAt d (120 + j / 32)
  | 4 => byteAt d (120 + j / 32)
  | 5 => byteAt d (112 + j / 32)
  | 8 => byteAt d (103 + j / 64)
  | _ => byteAt d (96 + j / 32)
def subScale (d j : Nat) : Nat := d / 2 ^ (832 + 4 * (j / 8)) % 16

/-- The trit of a code: 0, +1, −1. -/
def trit (c : Nat) : Int := if c = 1 then 1 else if c = 2 then -1 else 0

/-- The value of element j (R128). -/
def elemValue (tag : Nat) (table : List Nat) (d j : Nat) : Num :=
  let c := codeAt tag d j
  let s := scaleAt tag d j
  match tag with
  | 6 => (e8m0 s).mul (intNum (signed 8 c) (-6))
  | 7 => ((e8m0 s).mul (intNum (signed 3 c) 0)).mul (.fin false (16 + subScale d j) (-4))
  | 8 => (e4m3.decode s).mul (intNum (trit c) 0)
  | 9 => bf16.decode (table.getD c 0)
  | _ => (e8m0 s).mul ((mxFmt tag).decode c)

/-- A malformed SV2T line (R129). -/
def malformed (tag d : Nat) : Bool :=
  tag == 8 && ((List.range 103).any (fun k => decide (243 ≤ byteAt d k)) || decide (9 ≤ byteAt d 102))

/-! ### Widening (R131, R135) -/

/-- The element size of a compute format. -/
def elemSize (compute : Nat) : Nat := match compute with | 1 => 2 | 2 => 2 | 5 => 4 | _ => 1

/-- The binary format of an applied compute format, and its canonical NaN. -/
def computeFmt (compute : Nat) : FFmt × Nat := match compute with
  | 1 => (bf16, 0x7FC0) | 2 => (fp16, 0x7E00) | _ => (fp32, nan32)

/-- convert() of R135: the code, and whether a finite value saturated. -/
def convert (compute : Nat) : Num → Nat × Bool
  | .nan => ((computeFmt compute).2, false)
  | .inf s => ((computeFmt compute).1.round 0 (.inf s), false)
  | .fin s m e => (computeFmt compute).1.roundSat s m e

/-- Little-endian fields of w bits, element 0 lowest, as one number. -/
def packFields (w : Nat) : List Nat → Nat
  | [] => 0
  | c :: l => c % 2 ^ w + 2 ^ w * packFields w l

/-- The feed lines of a byte string. -/
def feedLines (n v : Nat) : List Nat := (List.range n).map fun i => v / 2 ^ (1024 * i) % 2 ^ 1024

/-- Widening an applied entry's values: the feed lines, and how many elements saturated. -/
def widenApplied (x : FormatEntry) (vals : List Num) : List Nat × Nat :=
  let cs := vals.map (convert x.compute)
  (feedLines x.nw (packFields (8 * elemSize x.compute) (cs.map (·.1))), (cs.filter (·.2)).length)

/-- The elements of a delivery group (R131). -/
def groupSize (tag : Nat) : Nat := match tag with | 7 => 8 | 8 => 64 | _ => 32

/-- The split code of an element. -/
def splitCode (tag compute d j : Nat) : Nat :=
  let c := codeAt tag d j
  let int : Int := match tag with | 6 => signed 8 c | 7 => signed 3 c | _ => trit c
  if compute = 4 then unsigned 8 int
  else match tag with
    | 1 => c
    | 7 => e4m3.round 0x7F (intNum int 0)
    | 8 => e4m3.round 0x7F (intNum int 0)
    | _ => e4m3.round 0x7F ((mxFmt tag).decode c)

/-- The trailer scale of the delivery group that element j opens. -/
def trailerScale (tag d j : Nat) : Nat :=
  let s := scaleAt tag d j
  fp32.round nan32 <| match tag with
    | 6 => (e8m0 s).mul (.fin false 1 (-6))
    | 7 => (e8m0 s).mul (.fin false (16 + subScale d j) (-4))
    | 8 => e4m3.decode s
    | _ => e8m0 s

/-- The byte string of a split delivery: the codes in their feed lines, then the trailer. -/
def splitLines (x : FormatEntry) (codes trailer : List Nat) : List Nat :=
  let head := (codes.length + 127) / 128
  feedLines x.nw (packFields 8 codes + 2 ^ (1024 * head) * packFields 32 trailer)

/-- Widening of a stored line (R135): its n_w feed lines and how many elements saturated. -/
def widenLine (x : FormatEntry) (d : Nat) : List Nat × Nat :=
  let n := elemsOf x.storage
  if x.applied then widenApplied x ((List.range n).map fun j => elemValue x.storage x.table d j)
  else
    let g := groupSize x.storage
    (splitLines x ((List.range n).map fun j => splitCode x.storage x.compute d j)
      ((List.range (n / g)).map fun i => trailerScale x.storage d (g * i)), 0)

/-- The MXINT8 values of escape lines, in the home format's E elements (R142, R144): `ls` are the escape lines. -/
def escapeValues (tag : Nat) (ls : List Nat) : List Num :=
  (List.range (elemsOf tag)).map fun j => elemValue 6 [] (ls.getD (j / 96) 0) (j % 96)

/-- The largest block exponent among the escape blocks that hold a delivery group; none when one is NaN (R145). -/
def escapeExp (tag : Nat) (ls : List Nat) (g : Nat) : Option Int :=
  let n := groupSize tag
  let ss := (List.range n).map fun i => let j := n * g + i; scaleAt 6 (ls.getD (j / 96) 0) (j % 96)
  if ss.any (· == 255) then none else some ((ss.foldl max 0 : Nat) - 127)

/-- One code of a split delivery of an escaped line: value ÷ T rounded to nearest even and saturated, and whether it is not
exact (R145). -/
def escapeCode (compute : Nat) (v : Num) (t : Int) : Nat × Bool :=
  match v with
  | .fin s m e =>
    if compute = 4 then
      let p := pow2n (e - t)
      let q := pow2d (e - t)
      let n := rneDiv (m * p) q
      let n' := if s then min n 128 else min n 127
      (unsigned 8 (if s then -(n' : Int) else n'), n' * q != m * p)
    else
      let c := (e4m3.roundSat s m (e - t)).1
      (c, !((e4m3.decode c).dy.eq (Num.fin s m (e - t)).dy))
  | _ => (if compute = 4 then 0 else 0x7F, false)

/-- Widening of an escaped line (R144, R145): its feed lines, elements saturated, and codes rounded. A group whose trailer is NaN has its
codes delivered as 0. (DESIGN CHOICE, log 35) -/
def widenEscaped (x : FormatEntry) (ls : List Nat) : List Nat × Nat × Nat :=
  let vals := escapeValues x.storage ls
  if x.applied then let r := widenApplied x vals; (r.1, r.2, 0)
  else
    let g := groupSize x.storage
    let cs := (List.range vals.length).map fun j =>
      match escapeExp x.storage ls (j / g) with
      | none => ((0 : Nat), false)
      | some e => escapeCode x.compute (vals.getD j .nan) (e - 6)
    let tr := (List.range (vals.length / g)).map fun i => match escapeExp x.storage ls i with
      | none => nan32
      | some e => fp32.round nan32 (.fin false 1 (e - 6))
    (splitLines x (cs.map (·.1)) tr, 0, (cs.filter (·.2)).length)

/-! ### Element sets (R136) -/

/-- A member of an element set: its value and its code. -/
structure Member where
  v : Dy
  code : Nat
  deriving DecidableEq, Repr

/-- The finite values of an MX floating-point element, ascending; zero once, with the positive code. -/
def fmtMembers (f : FFmt) : List Member :=
  let pos := (List.range (f.maxCode + 1)).map fun c => (⟨(f.decode c).dy, c⟩ : Member)
  ((pos.drop 1).reverse.map fun m => ⟨m.v.neg, m.code + 2 ^ (f.mb + f.eb)⟩) ++ pos

/-- Signed integer codes lo to hi of w bits, times 2^e, ascending. -/
def intMembers (w : Nat) (lo : Int) (n : Nat) (e : Int) : List Member :=
  (List.range n).map fun (i : Nat) => ⟨⟨lo + (i : Int), e⟩, unsigned w (lo + (i : Int))⟩

/-- The element set of a tag. -/
def members (tag : Nat) (table : List Nat) : List Member :=
  match tag with
  | 6 => intMembers 8 (-128) 256 (-6)
  | 7 => intMembers 3 (-4) 8 0
  | 8 => [⟨⟨-1, 0⟩, 2⟩, ⟨⟨0, 0⟩, 0⟩, ⟨⟨1, 0⟩, 1⟩]
  | 9 => (List.range 16).map fun i => ⟨(bf16.decode (table.getD i 0)).dy, i⟩
  | _ => fmtMembers (mxFmt tag)

/-- Whether a tie goes to a member: its code is even, and for SV2T to 0 (R137). -/
def Member.even (tag : Nat) (m : Member) : Bool := if tag = 8 then m.v.m == 0 else m.code % 2 == 0

/-- The members that bracket v: the last at or below it and the first at or above. -/
def bracket (v : Dy) : List Member → Member → Member × Member
  | [], a => (a, a)
  | b :: l, a => if v.lt b.v then (a, b) else bracket v l b

/-- Round v into an element set: nearest even, or with a stochastic draw (R137, R138); whether it saturated. -/
def pick (tag : Nat) (set : List Member) (draw : Option Nat) (v : Dy) : Member × Bool :=
  match set with
  | [] => (⟨⟨0, 0⟩, 0⟩, false)
  | lo :: rest =>
    if v.lt lo.v then (lo, true)
    else
      let hi := rest.getLastD lo
      if hi.v.lt v then (hi, true)
      else
        let (a, b) := bracket v rest lo
        if a.v.eq v then (a, false)
        else
          let da := v.add a.v.neg
          let db := b.v.add v.neg
          match draw with
          | some r =>
            let w := b.v.add a.v.neg
            let p := da.align w
            (if r < (65536 * p.1).toNat / p.2.1.toNat then b else a, false)
          | none =>
            (if da.lt db then a else if db.lt da then b else if a.even tag then a else b, false)

/-! ### The generator of R138 -/

def u64 : Nat := 2 ^ 64
def xorshift (x : Nat) : Nat :=
  let x := x ^^^ (x * 2 ^ 13 % u64)
  let x := x ^^^ (x / 2 ^ 7)
  x ^^^ (x * 2 ^ 17 % u64)

/-- n draws from a generator state. -/
def drawsFrom : Nat → Nat → List Nat
  | 0, _ => []
  | n + 1, st => xorshift st / 2 ^ 48 :: drawsFrom n (xorshift st)

/-- The draws of a stored line. -/
def draws (seed a n : Nat) : List Nat :=
  let st := (seed ^^^ (a / 128 * 0x9E3779B97F4A7C15 % u64)) % u64
  let st := if st = 0 then 0x9E3779B97F4A7C15 else st
  drawsFrom n (xorshift (xorshift st))

/-! ### Narrowing (R136–R140) -/

/-- What narrowing counts: scale clamps above and below, elements saturated, NaN groups, and whether a NaN block makes an
SV4N line poisoned. -/
structure NarrowStats where
  above : Nat
  below : Nat
  clamps : Nat
  nans : Nat
  poison : Bool
  /-- The line residual (R140). -/
  residual : Dy
  deriving DecidableEq, Repr

/-- |x| of an element; 0 for NaN and infinity, which mark their group. -/
def Num.absDy : Num → Dy
  | .fin _ m e => ⟨m, e⟩
  | _ => ⟨0, 0⟩

def Num.finite : Num → Bool | .fin .. => true | _ => false
def Dy.max (a b : Dy) : Dy := if a.lt b then b else a

/-- The largest magnitude of a group. -/
def amax (xs : List Num) : Dy := xs.foldl (fun a x => a.max x.absDy) ⟨0, 0⟩

/-- ⌊log2⌋ of a positive dyadic number. -/
def Dy.log2 (a : Dy) : Int := (a.m.natAbs.log2 : Int) + a.e

/-- A block exponent clamped to −127 to 127, with the counts of R136. -/
def clampExp (a : Dy) (emax : Int) : Int × Nat × Nat :=
  if a.m = 0 then (-127, 0, 0)
  else
    let e := a.log2 - emax
    if 127 < e then (127, 1, 0) else if e < -127 then (-127, 0, 1) else (e, 0, 0)

/-- emax of an MX tag. -/
def emaxOf (tag : Nat) : Int := match tag with | 1 => 8 | 2 => 15 | 3 => 2 | 4 => 4 | 5 => 2 | _ => 0

/-- The code of a chosen member, with the negative zero of tags 1 to 5 (R137). -/
def signedCode (tag : Nat) (x : Num) (m : Member) : Nat :=
  let f := mxFmt tag
  match x with
  | .fin true _ _ => if m.v.m = 0 && decide (1 ≤ tag) && decide (tag ≤ 5) then 2 ^ (f.mb + f.eb) else m.code
  | _ => m.code

/-- Narrow the elements of one group with multiplier X (positive): codes, values, saturations. -/
def narrowElems (tag : Nat) (set : List Member) (mult : Dy) (xs : List (Num × Option Nat)) :
    List (Nat × Dy × Bool) :=
  xs.map fun p =>
    let v := p.1.dy.div32 mult
    let r := pick tag set p.2 v
    (signedCode tag p.1 r.1, r.1.v.mul mult, r.2)

/-- A difference rounded to binary32; an infinite one is taken as 2^128, beyond every bound. -/
def Dy.dist32 (d : Dy) : Dy := if fp32.maxCode < fp32.roundCode d.m.natAbs 1 d.e then ⟨1, 128⟩ else d.round32

/-- The residual of a block (R140). -/
def residual (xs : List Num) (ys : List Dy) : Dy :=
  let a := amax xs
  if a.m = 0 then ⟨0, 0⟩
  else
    let d := (xs.zip ys).foldl (fun (w : Dy) p =>
      let t := (p.1.dy.add p.2.neg).dist32
      w.max ⟨t.m.natAbs, t.e⟩) ⟨0, 0⟩
    d.div32 a

/-- One narrowed scale group: its scale byte, sub-scales, codes, and what it counts. -/
structure Group where
  scale : Nat
  subs : List Nat
  codes : List Nat
  st : NarrowStats
  deriving DecidableEq, Repr

def NarrowStats.zero : NarrowStats := ⟨0, 0, 0, 0, false, ⟨0, 0⟩⟩
def NarrowStats.add (a b : NarrowStats) : NarrowStats :=
  ⟨a.above + b.above, a.below + b.below, a.clamps + b.clamps, a.nans + b.nans, a.poison || b.poison,
    a.residual.max b.residual⟩

/-- Count the saturated elements of narrowed elements. -/
def satCount (r : List (Nat × Dy × Bool)) : Nat := (r.filter (·.2.2)).length

/-- A group that holds a NaN or an infinity (R139). -/
def nanGroup (tag n : Nat) : Group :=
  { scale := match tag with | 8 => 0x7F | 9 => 0 | _ => 0xFF
    subs := if tag = 7 then [0, 0, 0, 0] else []
    codes := List.replicate n 0
    st := { NarrowStats.zero with nans := 1, poison := tag == 9 } }

/-- The sub-scale of an SV3 sub-block (R136); where 16·amax overflows binary32, the quotient is infinite. -/
def subScaleFor (a : Dy) (e : Int) : Nat :=
  if a.m = 0 then 0
  else if fp32.maxCode < fp32.roundCode (16 * a.m.natAbs) 1 a.e then 15
  else
    let q := (Dy.mk (16 * a.m) a.e).div32 ⟨3, e⟩
    let c := -((-q.m * (pow2n q.e : Int)) / (pow2d q.e : Int))
    min 15 (max 0 (c - 16)).toNat

/-- Narrow one scale group of finite values. -/
def narrowGroup (tag : Nat) (set : List Member) (xs : List (Num × Option Nat)) : Group :=
  let ns := xs.map (·.1)
  if !ns.all Num.finite then nanGroup tag xs.length
  else
    let a := amax ns
    match tag with
    | 8 =>
      let c := e4m3.roundCode a.m.natAbs 1 a.e
      let g := min c e4m3.maxCode
      if g = 0 then
        { scale := 0, subs := [], codes := List.replicate xs.length 0
          st := { NarrowStats.zero with below := if a.m = 0 then 0 else 1
                                        residual := residual ns (ns.map fun _ => ⟨0, 0⟩) } }
      else
        let r := narrowElems tag set (e4m3.decode g).dy xs
        { scale := g, subs := [], codes := r.map (·.1)
          st := { NarrowStats.zero with above := if e4m3.maxCode < c then 1 else 0, clamps := satCount r
                                        residual := residual ns (r.map (·.2.1)) } }
    | 9 =>
      let r := narrowElems tag set ⟨1, 0⟩ xs
      { scale := 0, subs := [], codes := r.map (·.1)
        st := { NarrowStats.zero with clamps := satCount r, residual := residual ns (r.map (·.2.1)) } }
    | 7 =>
      let (e, up, dn) := clampExp a 1
      let subs := (List.range 4).map fun m => (xs.drop (8 * m)).take 8
      let ks := subs.map fun l => subScaleFor (amax (l.map (·.1))) e
      let r := (subs.zip ks).flatMap fun p => narrowElems tag set ⟨16 + p.2, e - 4⟩ p.1
      { scale := (e + 127).toNat, subs := ks, codes := r.map (·.1)
        st := { NarrowStats.zero with above := up, below := dn, clamps := satCount r
                                      residual := residual ns (r.map (·.2.1)) } }
    | _ =>
      let (e, up, dn) := clampExp a (emaxOf tag)
      let r := narrowElems tag set ⟨1, e⟩ xs
      { scale := (e + 127).toNat, subs := [], codes := r.map (·.1)
        st := { NarrowStats.zero with above := up, below := dn, clamps := satCount r
                                      residual := residual ns (r.map (·.2.1)) } }

/-- Cut a list into chunks of n, k of them. -/
def chunks {α : Type} (n : Nat) : Nat → List α → List (List α)
  | 0, _ => []
  | k + 1, l => l.take n :: chunks n k (l.drop n)

/-- Elements of a scale group. -/
def scaleGroup (tag : Nat) : Nat := if tag = 8 then 64 else 32

/-- Bytes of five trit codes. -/
def packTrits : Nat → List Nat → List Nat
  | 0, _ => []
  | k + 1, l => (l.getD 0 0 + 3 * l.getD 1 0 + 9 * l.getD 2 0 + 27 * l.getD 3 0 + 81 * l.getD 4 0) ::
      packTrits k (l.drop 5)

/-- The 128 data bytes of narrowed groups (R127). -/
def packLine (tag : Nat) (gs : List Group) : Nat :=
  let codes := gs.flatMap (·.codes)
  let scales := packFields 8 (gs.map (·.scale))
  match tag with
  | 3 => packFields 6 codes + 2 ^ 960 * scales
  | 4 => packFields 6 codes + 2 ^ 960 * scales
  | 5 => packFields 4 codes + 2 ^ 896 * scales
  | 7 => packFields 3 codes + 2 ^ 768 * scales + 2 ^ 832 * packFields 4 (gs.flatMap (·.subs))
  | 8 => packFields 8 (packTrits 103 codes) + 2 ^ 824 * scales
  | 9 => packFields 4 codes
  | _ => packFields 8 codes + 2 ^ 768 * scales

/-- Narrow E values into a line of a tag: its data and what it counts. -/
def narrowValues (tag : Nat) (table : List Nat) (rs : Option (List Nat)) (xs : List Num) : Nat × NarrowStats :=
  let n := scaleGroup tag
  let draw (j : Nat) : Option Nat := rs.map fun l => l.getD j 0
  let ps := (List.range xs.length).map fun j => (xs.getD j .nan, draw j)
  let set := members tag table
  let gs := (chunks n ((xs.length + n - 1) / n) ps).map (narrowGroup tag set)
  (packLine tag gs, gs.foldl (fun a g => a.add g.st) .zero)

/-- The FP32 values of a drain line's feed lines (R131). -/
def drainValues (x : FormatEntry) (feeds : List Nat) : List Num :=
  let v := packFields 1024 feeds
  let w := 8 * elemSize x.compute
  (List.range (elemsOf x.storage)).map fun j => (computeFmt x.compute).1.decode (v / 2 ^ (w * j) % 2 ^ w)

/-- Narrow a drain line under an entry at a set address (R136–R140). -/
def narrowLine (x : FormatEntry) (a : Nat) (feeds : List Nat) : Nat × NarrowStats :=
  let xs := drainValues x feeds
  narrowValues x.storage x.table (if x.rounding = 1 then some (draws x.seed a xs.length) else none) xs

/-- The line exceeds its bound (R140). -/
def exceeds (x : FormatEntry) (r : Dy) : Bool := x.checks && (fp32.decode x.bound).dy.lt r

/-! ### Escapes (R142) -/

/-- L, the escape lines of a home tag. -/
def escapeCount (tag : Nat) : Nat := (elemsOf tag + 95) / 96

/-- The data of escape line i, without its stamp, and what its narrowing counts (R136, R141). -/
def escapeData (xs : List Num) (i : Nat) : Nat × NarrowStats :=
  let part := (xs.drop (96 * i)).take 96
  let blocks := (chunks 32 3 part).map fun b =>
    if b.isEmpty then { nanGroup 6 32 with scale := 0, st := .zero }
    else
      let g := narrowGroup 6 (members 6 []) (b.map fun v => (v, none))
      { g with codes := g.codes ++ List.replicate (32 - b.length) 0 }
  (packLine 6 blocks, blocks.foldl (fun a g => a.add g.st) .zero)

/-- The escape stamp in bytes 120–127, and an escape line with it. -/
def stampOf (gen home : Nat) : Nat := gen * 2 ^ 48 + home / 128 % 2 ^ 46
def withStamp (d gen home : Nat) : Nat := d % 2 ^ 960 + 2 ^ 960 * stampOf gen home

/-- The home line of an escaped line. -/
def pointerLine (gen l slot : Nat) : Nat := gen * 2 ^ 48 + l * 2 ^ 44 + slot / 2 ^ 10 * 2 ^ 10

/-- The residual the escape lines leave, over the residual blocks of the home format (R142). -/
def escapeResidual (tag : Nat) (xs : List Num) (ls : List Nat) : Dy :=
  let n := scaleGroup tag
  let k := (xs.length + n - 1) / n
  ((chunks n k xs).zip (chunks n k (escapeValues tag ls))).foldl (fun a p =>
    if p.1.all Num.finite && p.2.all Num.finite then a.max (residual p.1 (p.2.map Num.dy)) else a) ⟨0, 0⟩

end Sys2Proof.Machine
end

