-- ==== Sys2Proof/Machine/Reduce.lean ====
section
/-!
DEFINITION. Reduce-into (R167–R173): the decision on a contribution, its application in index order, the close and the break
of a reduction.
-/
namespace Sys2Proof.Machine

/-! ### Arithmetic (R168) -/

/-- The format of a reduction type, its canonical NaN, and the width of an element. -/
def redFmt (type : Nat) : FFmt × Nat := match type with | 1 => (bf16, 0x7FC0) | 2 => (fp16, 0x7E00) | _ => (fp32, nan32)
def redWidth (type : Nat) : Nat := if type = 1 || type = 2 then 16 else 32
def redElems (type : Nat) : Nat := if type = 1 || type = 2 then 64 else 32

/-- The elements of a line. -/
def lineElems (type d : Nat) : List Nat :=
  (List.range (redElems type)).map fun j => d / 2 ^ (redWidth type * j) % 2 ^ redWidth type

/-- The format the accumulator holds. (DEDUCED, log 35) -/
def accType (w : RedWord) : Nat := if w.wide then 0 else w.type

/-- A code of one format in another, exactly or rounded to nearest even. (DEDUCED, log 35) -/
def recode (src dst c : Nat) : Nat := (redFmt dst).1.round (redFmt dst).2 ((redFmt src).1.decode c)

/-- One combination, accumulator op contribution. (DEDUCED, log 35) -/
def combine (w : RedWord) (acc c : Nat) : Nat :=
  if w.type = 3 then
    match w.function with
    | 0 => (acc + c) % 2 ^ 32
    | 1 => if signed 32 acc < signed 32 c then c else acc
    | _ => if signed 32 c < signed 32 acc then c else acc
  else
    let f := redFmt (accType w)
    let x := f.1.decode acc
    let y := (redFmt w.type).1.decode c
    f.1.round f.2 (match w.function with | 0 => x.add y | 1 => x.maxN y | _ => x.minN y)

/-- The identity of a function. -/
def redIdentity (w : RedWord) : Nat :=
  if w.type = 3 then (match w.function with | 0 => 0 | 1 => 2 ^ 31 | _ => 2 ^ 31 - 1)
  else
    let f := redFmt (accType w)
    match w.function with
    | 0 => 0
    | 1 => f.1.round f.2 (.inf true)
    | _ => f.1.round f.2 (.inf false)

/-- The accumulator from a stored line, converted exactly when wide. -/
def accFrom (w : RedWord) (d : Nat) : List Nat :=
  (lineElems w.type d).map fun c => if w.wide then recode w.type 0 c else c

/-- The accumulator at the open of a reduction with init 1. -/
def accInit (w : RedWord) : List Nat := List.replicate (redElems w.type) (redIdentity w)

/-- The result line at the close. -/
def accLine (w : RedWord) (acc : List Nat) : Nat :=
  packFields (redWidth w.type) (acc.map fun c => if w.wide then recode 0 w.type c else c)

/-! ### The table -/

/-- K. -/
def redK (w : RedWord) : Nat := w.count + 1

/-- What R167 denies before the decision. -/
def redDenied (w : RedWord) (a : Nat) : Bool :=
  w.function == 3 || (w.wide && (w.type == 0 || w.type == 3)) || (w.object != 0 && !w.signal) || decide (redK w ≤ w.index) ||
  farAddr a

/-- The fields every contribution of a reduction carries alike. -/
def redAlike (v w : RedWord) : Bool := { v with index := 0 } == { w with index := 0 }

def State.setReds (s : State) (l : List Red) : State :=
  (s.setCache { s.cache with reds := l }).setOb 0x2500 8 l.length
def State.modRed (s : State) (a : Nat) (f : Red → Red) : State :=
  s.setReds (s.cache.reds.map fun r => if r.addr == lineOf a then f r else r)
def State.redsOf (s : State) (x : Nat) : List Red := s.cache.reds.filter fun r => sliceOf r.addr == x

/-- Staging lines of a slice in use: two for a wide accumulator, one for each early contribution (R155, R168). -/
def Red.staging (r : Red) : Nat := (if r.word.wide then 2 else 0) + (r.staged.filter fun c => c.1 != r.next).length
def State.stagingOf (s : State) (x : Nat) : Nat := ((s.redsOf x).map Red.staging).sum

/-- The lane with the fewest open reductions, the lower on a tie (R170). -/
def State.laneFor (s : State) (x : Nat) : Nat :=
  let load (l : Nat) : Nat := ((s.redsOf x).filter fun r => r.lane == l).length
  (List.range 4).foldl (fun b l => if load l < load b then l else b) 0

/-- The decision of R169. -/
inductive RedChoice where
  | poisoned | denied
  /-- Not accepted; the reduction opens first when `opens`. -/
  | later (opens : Bool)
  /-- Accepted: opening the reduction first when `opens`. -/
  | take (opens : Bool)
  deriving DecidableEq, Repr

def State.redDecide (s : State) (a : Nat) (w : RedWord) : RedChoice :=
  let x := sliceOf a
  match s.cache.closed.find? fun d => d.addr == lineOf a && d.tag == w.tag with
  | some d => if d.broken then .poisoned else .denied
  | none =>
    match s.redOn a with
    | none =>
      if decide (512 ≤ (s.redsOf x).length) || (w.wide && decide (1024 < s.stagingOf x + 2)) then .later false
      else if w.index = 0 then .take true
      else if decide (w.index < s.ob 0x2500 2) && decide (s.stagingOf x + (if w.wide then 2 else 0) < 1024) then .take true
      else .later true
    | some r =>
      if r.word.tag != w.tag then .later false
      else if !redAlike r.word w then .denied
      else if w.index < r.next || r.staged.any fun c => c.1 == w.index then .denied
      else if w.index = r.next then .take false
      else if decide (w.index < r.next + r.window) && decide (s.stagingOf x < 1024) then .take false
      else .later false

/-- Open a reduction (R169, R170). With init 0 its line is fetched, by the entry that its first accepted contribution takes. (DEDUCED,
log 34) -/
def openRed (a : Nat) (w : RedWord) (s : State) : State :=
  let acc := if w.init then some (accInit w)
    else (s.cached a).bind fun q => if q.2.info.testBit 11 then none else some (accFrom w q.2.data)
  s.setReds (s.cache.reds ++ [{ addr := lineOf a, word := w, window := s.ob 0x2500 2, next := 0, lane := s.laneFor (sliceOf a)
                                acc := acc, staged := [], lastApplied := s.now, readers := [], closing := false }])

/-! ### Records and breaks -/

/-- Enter a closed record; a slice holds 1,024 and drops its oldest (R171). -/
def closeRecord (r : Red) (broken : Bool) (s : State) : State :=
  let x := sliceOf r.addr
  let l : List RedDone := s.cache.closed ++ [⟨r.addr, r.word.tag, broken, s.now⟩]
  let mine := l.filter fun d => sliceOf d.addr == x
  let l := if 1024 < mine.length then l.erase (mine.headD ⟨0, 0, false, 0⟩) else l
  s.setCache { s.cache with closed := l }

/-- The context and world of the requests of a reduction; with no staged contribution left, context 0 and the world of the line's
region. (DESIGN CHOICE, log 34) -/
def State.redSide (s : State) (r : Red) : Nat × Bool :=
  match r.staged.head? with
  | some c => match s.ask? c.2.1 with | some q => (q.side.ctx, q.side.world) | none => (0, s.secureAt r.addr)
  | none => (0, s.secureAt r.addr)

/-- Signal the object of a reduction (R171, R173). -/
def redSignal (r : Red) (broken : Bool) (s : State) : State :=
  if r.word.signal then
    let c := s.redSide r
    signalObject (0x10 + sliceOf r.addr) r.word.object 1 c.1 c.2 broken s
  else s

/-- A poisoned write of a line, as an internal write of its slice (R162, R173, R244). -/
def poisonWrite (a : Nat) (s : State) : State :=
  offerInternal (0x10 + sliceOf a) 0 0 (s.secureAt a) (lineOf a) (.put 0 (infoOf 0 true false (s.sealedAt a)))
    (.writeBack (a / 128)) s

/-- A reduction breaks (R173). -/
def breakRed (r : Red) (s : State) : State :=
  let s := s.setReds (s.cache.reds.filter fun q => q.addr != r.addr)
  let s := poisonWrite r.addr (dropLine r.addr s)
  let s := forEach r.staged (fun c s => finish c.2.1 St.poisoned none s) s
  let s := forEach r.readers (fun id s => finish id St.poisoned none s) s
  let s := closeRecord r true (redSignal r true s)
  raiseAt Ev.reductionBroken (sliceOf r.addr) r.addr (s.secureAt r.addr) (s.bump 0x2500 9)

/-- A reduction whose accumulator would start from a poisoned copy breaks (R173). -/
def breakPoisoned (a : Nat) (s : State) : State :=
  match s.redOn a, s.cached a with
  | some r, some (_, w) => if r.acc.isNone && w.info.testBit 11 then breakRed r s else s
  | _, _ => s

/-- A reduction opened by a contribution that is not taken: with init 0 and no cached copy, its slice reads the line itself. -/
def openRefused (a : Nat) (w : RedWord) (s : State) : State :=
  let s := breakPoisoned a (openRed a w s)
  if s.cache.reds.any fun r => r.addr == lineOf a && r.acc.isNone then
    offerInternal (0x10 + sliceOf a) 0 0 (s.secureAt a) (lineOf a) .read .redStart s
  else s

/-- A contribution at its home slice (R161, R162, R167, R169). -/
def serveReduce (id : Nat) (s : State) : State :=
  match s.ask? id with
  | none => s
  | some q =>
    match q.op with
    | .reduce w d =>
      let x := sliceOf q.addr
      if q.stage != .offered then s
      else if redDenied w q.addr then denyAsk id s
      else if s.sliceState x = 4 then finish id St.unreachable none s
      else if s.sliceState x = 1 then sliceLater x id s
      else match s.redDecide q.addr w with
        | .poisoned => acceptOr id true (finish id St.poisoned none) s
        | .denied => denyAsk id s
        | .later opens => sliceLater x id (if opens then openRefused q.addr w s else s)
        | .take opens =>
          if !s.journalFree then refuseLater id s
          else
            let s := if opens then openRed q.addr w s else s
            let s := s.modRed q.addr fun r => { r with staged := r.staged ++ [(w.index, id, d)] }
            breakPoisoned q.addr ((acceptAsk id true (countIf (sliceBank x) 5 1 (s.askCause q) s)).peak (0x2510 + x) 7 (s.stagingOf x))
    | _ => s

/-! ### Application and close (R170, R171) -/

/-- Apply the contribution whose turn it is, if it is there and the accumulator holds its line. -/
def applyNext (r : Red) (s : State) : Option (Red × State) :=
  match r.acc, r.staged.find? fun c => c.1 == r.next with
  | some acc, some c =>
    let es := lineElems r.word.type c.2.2
    let acc := (acc.zip es).map fun p => combine r.word p.1 p.2
    let r := { r with acc := some acc, next := r.next + 1, staged := r.staged.filter fun d => d.1 != c.1, lastApplied := s.now }
    let s := countIf (sliceBank (sliceOf r.addr)) 4 1 (s.idCause c.2.1 r.addr) (s.bump (0x2510 + sliceOf r.addr) 5)
    some (r, applyAsk c.2.1 0 none s)
  | _, _ => none

/-- Apply every contribution whose turn has come. -/
def applyAll : Nat → Red → State → Red × State
  | 0, r, s => (r, s)
  | n + 1, r, s => match applyNext r s with
    | some (r', s') => applyAll n r' s'
    | none => (r, s)

/-- The result of a closing reduction has been written back: its object is signalled and its entry freed (R171). -/
def endClose (a data : Nat) (s : State) : State :=
  match s.redOn a with
  | some r =>
    if r.closing && accLine r.word (r.acc.getD []) == data then
      let s := redSignal r false s
      closeRecord r false (s.setReds (s.cache.reds.filter fun q => q.addr != r.addr))
    else s
  | none => s

/-- The fetched line of a reduction with init 0: its accumulator, or a break when it is poisoned (R170, R173). -/
def redFill (a : Nat) (line : Option (Nat × Nat)) (s : State) : State :=
  match s.redOn a with
  | some r =>
    if r.acc.isSome then s
    else match line with
      | some l => s.modRed a fun q => { q with acc := some (accFrom q.word l.1) }
      | none => breakRed r s
  | none => s

/-- The reduce timeout in ticks (0x2500:03). -/
def State.reduceTimeout (s : State) : Nat := s.ob 0x2500 3 * 1000 * nsT

/-- A reduction's timeout has passed since its last application with contributions missing. -/
def State.redExpired (s : State) (r : Red) : Bool :=
  !r.closing && decide (r.next + r.staged.length < redK r.word) && s.elapsed r.lastApplied s.reduceTimeout

def reduceTimeouts (s : State) : State := forEach (s.cache.reds.filter s.redExpired) breakRed s

/-- Closed records that have reached the reduce timeout are dropped (R171). -/
def expireRecords (s : State) : State :=
  s.setCache { s.cache with closed := s.cache.closed.filter fun d => !s.elapsed d.at_ s.reduceTimeout }

/-- A reduction is open on a line: until the write-back of its result has been accepted (R159, R171, R172). -/
def State.redOpen (s : State) (a : Nat) : Bool :=
  match s.redOn a with
  | some r => !(r.closing && s.path.asks.any fun q => q.why == .writeBack (r.addr / 128) && q.stage == .finished && !q.delivered)
  | none => false

/-- A planned write meets an open reduction (R172). -/
def planOverRed (a : Nat) (s : State) : State :=
  match if s.redOpen a then s.redOn a else none with
  | some r => raiseAt Ev.reductionOverwritten 0xFFFF r.addr (s.secureAt a) (s.bump (0x2510 + sliceOf a) 9)
  | none => s

/-- A fence aborts a staged contribution, and the reduction breaks (R173). -/
def fenceReds (ctx : Nat) (s : State) : State :=
  let hit (c : Nat × Nat × Nat) : Bool := match s.ask? c.2.1 with | some q => q.side.ctx == ctx | none => false
  forEach (s.cache.reds.filter fun r => r.staged.any hit) (fun r s =>
    let s := forEach (r.staged.filter hit) (fun c s => finish c.2.1 St.aborted none s) s
    breakRed { r with staged := r.staged.filter fun c => !hit c } s) s

end Sys2Proof.Machine
end

