-- ==== Sys2Proof/Machine/FarTier.lean ====
section
/-!
DEFINITION. The far-tier port (chapter 13): devices, the bale ledger, the bale buffer, reads and writes of bales, and backing
writes.
-/
namespace Sys2Proof.Machine

def State.setFar (s : State) (f : Far) : State := { s with far := f }
def State.modBale (s : State) (b : Nat) (f : Bale → Bale) : State :=
  s.setFar { s.far with bales := s.far.bales.map fun x => if x.num == b then f x else x }
def State.bale? (s : State) (b : Nat) : Option Bale := s.far.bales.find? fun x => x.num == b

/-- 0 off, 1 up, 2 down (0x5C00:01). -/
def State.farState (s : State) : Nat := s.ob 0x5C00 1
def State.farUp (s : State) : Bool := s.farState == 1

/-! ### Devices (R351) -/

/-- C_i: the largest multiple of 16 KiB with C + C ÷ 32 ≤ device_bytes. -/
def dataBytes (d : Nat) : Nat := 32 * d / 33 / 16384 * 16384

/-- The device that holds a bale of the node, and the bale's number within it. -/
def State.deviceOf (s : State) (b : Nat) : Nat × Nat :=
  ((List.range 8).foldl (fun (r : Option (Nat × Nat) × Nat) i =>
    let n := s.ob (0x5C01 + i) 3 / 16384
    match r.1 with
    | some _ => r
    | none => if r.2 < n then (some (i, r.2), 0) else (none, r.2 - n)) (none, b)).1.getD (0, b)

/-! ### The ledger (R354, R355) -/

/-- The node's bale ledger: its first set address. -/
def State.ledgerBase (s : State) : Option Nat :=
  (s.validRegions.find? fun p => p.2.isLedger s).map fun p => granuleAddr p.2.far p.2.base

/-- The set address of the ledger line of a bale, and of its entry. -/
def State.ledgerLine (s : State) (b : Nat) : Option Nat := s.ledgerBase.map fun a => a + b / 32 * 128

/-- A bale's ledger entry. -/
inductive Entry where
  /-- Its ledger line is lost, or there is no ledger. -/
  | lost
  | version (v : Nat)
  deriving DecidableEq, Repr

def State.ledgerEntry (s : State) (b : Nat) : Entry :=
  match s.ledgerLine b with
  | none => .lost
  | some a =>
    if s.far.lost.contains (b / 32) then .lost
    else match s.lineNow a with
      | some l => if l.2.testBit 11 then .lost else .version (l.1 / 2 ^ (32 * (b % 32)) % 2 ^ 32)
      | none => .lost

/-- A ledger line found poisoned is reported once (R355). -/
def noteLost (b : Nat) (s : State) : State :=
  if s.far.lost.contains (b / 32) || s.ledgerBase.isNone then s
  else raiseNode Ev.ledgerLineLost (b / 32) (s.setFar { s.far with lost := s.far.lost ++ [b / 32] })

/-- Exhausted: it can no longer be written. -/
def exhausted : Nat := 0xFFFFFFFF

/-- Place the partial write that advances a bale's ledger entry (R354). -/
def advanceLedger (b v : Nat) (s : State) : State :=
  match s.ledgerLine b with
  | some a =>
    let sh := 4 * (b % 32)
    pushWrite .ledger a (15 * 2 ^ sh) ((v + 1) * 2 ^ (8 * sh)) (s.writeInfo a) (s.regionRaw a) s
  | none => s

/-! ### Completion of writes that are written through (R251) -/

/-- A write's home effect has been reached: it completes, or waits for its backing write. -/
def homeEffect (id status : Nat) (s : State) : State :=
  match s.ask? id with
  | some q =>
    if q.stage == .finished then s
    else if q.backing then s.modAsk id fun q => { q with applied := some status }
    else finish id status none (s.modAsk id fun q => { q with applied := some status })
  | none => s

/-- A write's backing write is final. -/
def backingDone (id : Nat) (s : State) : State :=
  match s.ask? id with
  | some q =>
    let s := s.modAsk id fun q => { q with backing := false }
    match q.applied with
    | some st => if q.stage == .finished then s else finish id st none s
    | none => s
  | none => s

/-- A far-tier write that a request waits for ends. -/
def endFarWrite (id : Nat) (backing : Bool) (status : Nat) (s : State) : State :=
  if backing then backingDone id s else finish id status none s

/-! ### The buffer (R356) -/

def baleBuffer : Nat := 256
def poisonInfo : Nat := infoOf 0 true false false

/-- An entry of the buffer may be dropped for another bale: clean and idle. -/
def Bale.idle (x : Bale) : Bool := !x.dirty && !x.writing && x.readers.isEmpty && x.waits.isEmpty

/-- A bale has an entry, or can be given one. -/
def State.farRoom (s : State) (b : Nat) : Bool :=
  (s.bale? b).isSome || decide (s.far.bales.length < baleBuffer) || s.far.bales.any Bale.idle

/-- The port can take a line write to a bale now. -/
def State.farCanTake (s : State) (b : Nat) : Bool :=
  s.farUp && s.farRoom b && match s.bale? b with
    | some x => !x.writing
    | none => true

/-- A bale's entry is used now. -/
def useBale (b : Nat) (s : State) : State :=
  let n := s.far.use + 1
  (s.modBale b fun x => { x with used := n }).setFar { (s.modBale b fun x => { x with used := n }).far with use := n }

/-- An entry for a bale: the one there is, or a new one in place of the idle one used longest ago. -/
def takeBale (b : Nat) (s : State) : State :=
  if (s.bale? b).isSome then useBale b s
  else
    let oldest := (s.far.bales.filter Bale.idle).foldl (fun (o : Option Bale) x => match o with
      | some y => if x.used < y.used then some x else some y
      | none => some x) none
    let keep := if s.far.bales.length < baleBuffer then s.far.bales
      else match oldest with
        | some y => s.far.bales.filter fun x => x.num != y.num
        | none => s.far.bales
    let n := s.far.use + 1
    let x : Bale := { num := b, lines := [], dirty := false, mergedAt := 0, waits := [], writing := false, readers := []
                      tries := 0, readAt := 0, used := n }
    let s := s.setFar { s.far with bales := keep ++ [x], use := n }
    s.peak 0x5C00 0x0C s.far.bales.length

/-- Issue a read of a bale to its device. -/
def issueBaleRead (b : Nat) (s : State) : State :=
  let d := s.deviceOf b
  (s.modBale b fun x => { x with tries := x.tries + 1, readAt := s.now }).send (.bale false d.1 d.2)

/-- Register a reader of a bale, reading it unless a read is under way. -/
def waitBale (b : Nat) (r : FarReader) (s : State) : State :=
  let s := takeBale b s
  let s := s.modBale b fun x => { x with readers := x.readers ++ [r] }
  match s.bale? b with
  | some x => if x.tries = 0 then issueBaleRead b s else s
  | none => s

/-- Lines present in a bale's entry. -/
def Bale.full (x : Bale) : Bool := (List.range 128).all fun i => (look none i x.lines).isSome

/-- Give the lines a bale does not hold a value. -/
def fillMissing (b : Nat) (f : Nat → Nat × Nat) (s : State) : State :=
  s.modBale b fun x => { x with lines := (List.range 128).foldl (fun m i =>
    if (look none i x.lines).isSome then m else put none i (some (f i)) m) x.lines }

/-- Write a bale to its device: the ledger first, then the bale. A write queue that is full holds it back. -/
def issueBaleWrite (b v : Nat) (s : State) : State :=
  match s.ledgerLine b with
  | none => s
  | some a =>
    if wqSize ≤ (s.chan (s.place a).c).wq.length then s
    else
      let d := s.deviceOf b
      ((advanceLedger b v s).modBale b fun x => { x with writing := true }).send (.bale true d.1 d.2)

/-- A bale whose ledger line is lost cannot be written: its writes complete DENIED (R355). -/
def denyBale (b : Nat) (s : State) : State :=
  match s.bale? b with
  | none => s
  | some x =>
    let s := (noteLost b s).setFar { s.far with bales := s.far.bales.filter fun y => y.num != b }
    forEach x.waits (fun w s => endFarWrite w.1 w.2 St.denied s) s

/-- Begin to write a dirty bale: whole as it stands, or after its missing lines have been read (R356). -/
def writeBale (b : Nat) (s : State) : State :=
  match s.bale? b with
  | none => s
  | some x =>
    if !x.dirty || x.writing || !s.farUp || x.readers.contains .merge then s
    else match s.ledgerEntry b with
      | .lost => denyBale b s
      | .version v =>
        if v = exhausted then s
        else if x.full then issueBaleWrite b v s
        else if v = 0 then issueBaleWrite b v (fillMissing b (fun _ => (0, poisonInfo)) s)
        else waitBale b .merge s

/-! ### Line writes (R356) -/

/-- Merge bytes into the line a bale holds; none when it holds none, or holds it poisoned. -/
def mergeFar (w : FarWrite) (cur : Option (Nat × Nat)) : Option (Nat × Nat) :=
  if w.mask = fullMask then some (w.data, w.info)
  else match cur with
    | some l => if l.2.testBit 11 then none else some (mergeData w.mask w.data l.1, w.info)
    | none => none

/-- Merge a line write into its bale's entry. -/
def mergeBale (w : FarWrite) (l : Nat × Nat) (s : State) : State :=
  let s := s.modBale w.bale fun x =>
    { x with lines := put none w.line (some l) x.lines, dirty := true
             mergedAt := if x.dirty then x.mergedAt else s.now, waits := x.waits ++ [(w.ask, w.backing)] }
  match s.bale? w.bale with
  | some x => if x.full then writeBale w.bale s else s
  | none => s

/-- A line write the port has taken: refused where its bale cannot be written, merged, or held while the line is read. -/
def takeFarWrite (w : FarWrite) (s : State) : State :=
  match s.ledgerEntry w.bale with
  | .lost => endFarWrite w.ask w.backing St.denied (noteLost w.bale s)
  | .version v =>
    if v = exhausted then endFarWrite w.ask w.backing St.denied (raiseNode Ev.baleVersionExhausted w.bale s)
    else
      let s := takeBale w.bale s
      let cur := (s.bale? w.bale).bind fun x => look none w.line x.lines
      match mergeFar w cur with
      | some l => mergeBale w l s
      | none =>
        if cur.isSome || v = 0 then endFarWrite w.ask w.backing St.poisoned s
        else waitBale w.bale (.part w.ask w.line w.mask w.data) s

/-- The operations that reached the port before this one have been applied to its bale (R356). -/
def State.farInOrder (s : State) (b : Nat) : Bool := match s.bale? b with | some x => x.readers.isEmpty | none => true

/-- The bale of an operation. -/
def FarOp.bale : FarOp → Nat
  | .write w => w.bale
  | .read b _ _ => b

/-- Nothing that reached the port before waits for the bale. -/
def State.farFirst (s : State) (b : Nat) : Bool := !(s.far.waiting.any fun x => x.bale == b)
def queueFar (w : FarOp) (s : State) : State := s.setFar { s.far with waiting := s.far.waiting ++ [w] }

/-- What requests find at a port that is not up (R363). -/
def State.farClosed (s : State) : Nat := if s.farState = 2 then St.unreachable else St.unitOff

/-- A line write that reaches the port: taken in its turn, or waiting for a buffer entry; an open one finds the port out of service
(R363). (DEDUCED, log 49) -/
def farWrite (w : FarWrite) (s : State) : State :=
  if !s.farUp && !w.backing then finish w.ask s.farClosed none s
  else if s.farCanTake w.bale && s.farInOrder w.bale && s.farFirst w.bale then takeFarWrite w s
  else queueFar (.write w) s

/-- The bale of a far-tier offset, and its line. -/
def baleOf (off : Nat) : Nat := off / 16384
def baleLine (off : Nat) : Nat := off / 128 % 128

/-- The far-tier offset of the backing copy of an address of a backed range (R48). -/
def backingOffset (g : Region) (a : Nat) : Nat := (g.backing + granuleOf a - g.base) % 2 ^ 20 * 2 ^ 21 + a % 2 ^ 21 / 128 * 128

/-- The backing bale of an address, if its range is backed. -/
def State.backingBale (s : State) (a : Nat) : Option Nat :=
  match s.regionAt a with
  | some p => if p.2.backed then some (baleOf (backingOffset p.2 a)) else none
  | none => none

/-- A write to the address can be granted: its backing write, if it needs one, can be taken (R251). -/
def State.backingReady (s : State) (a : Nat) : Bool :=
  match s.backingBale a with
  | some b => s.farCanTake b
  | none => true

/-- The set address of this node's far-tier offset (R40). -/
def State.farSet (s : State) (off : Nat) : Nat := 2 ^ 52 + s.me * 2 ^ 41 + off

/-- Issue the backing write of a whole line of a backed range (R251); step 1 of R53 alone is checked (R560). -/
def backingWrite (id a data info : Nat) (s : State) : State :=
  match s.regionAt a with
  | some p =>
    let off := backingOffset p.2 a
    if unmapped (s.farSet off) s then backingDone id (countAccess St.unreachable (s.farSet off) s)
    else farWrite ⟨baleOf off, baleLine off, fullMask, data, info % 2 ^ 16, id, true⟩ s
  | none => s

/-! ### Line reads -/

/-- What a read of a bale's line finds at once: none when the bale has to be read. -/
def State.farLine (s : State) (b line : Nat) : Option (Option (Nat × Nat)) :=
  match s.ledgerEntry b with
  | .lost => some none
  | .version v =>
    match (s.bale? b).bind fun x => look none line x.lines with
    | some l => some (some l)
    | none => if v = 0 then some (some (0, poisonInfo)) else none

/-- An open READ of a far-tier line ends (R245, R357); step 6 of R53 is made on the line. -/
def endFarRead (id : Nat) (line : Option (Nat × Nat)) (s : State) : State :=
  match line with
  | some l =>
    let mixed := (s.ask? id).filter fun q => !q.stepOne && l.2.testBit 9 != s.sealedAt q.addr
    if let some q := mixed then finish id St.denied none (countAccess St.denied q.addr s)
    else if l.2.testBit 11 then finish id St.poisoned none s else finish id St.ok (some l.1) s
  | none => finish id St.poisoned none s

/-- A restore read ends: recovery goes on when RESTORE_READ_DONE is taken. -/
def endRestore (c num : Nat) (line : Option (Nat × Nat)) (s : State) : State :=
  s.setFar { s.far with restored := s.far.restored ++ [⟨c, num, line⟩] }

/-- A restore transfer takes the lines of a bale: they become its lines to write (R362). -/
def endTransferRead (num : Nat) (line : Nat → Nat × Nat) (s : State) : State :=
  s.setFar { s.far with transfers := s.far.transfers.map fun t =>
    if t.num == num then { t with got := (List.range 128).foldl (fun m i => put none i (some (line i)) m) [] } else t }

/-- Serve one reader of a bale from its entry. -/
def serveReader (b : Nat) (r : FarReader) (s : State) : State :=
  match s.bale? b with
  | none => s
  | some x =>
    match r with
    | .ask id line => endFarRead id (look none line x.lines) s
    | .restore c num line _ => endRestore c num (look none line x.lines) s
    | .merge => s
    | .part id line mask data =>
      match s.ask? id with
      | some q =>
        let w : FarWrite := ⟨b, line, mask, data, s.writeInfo q.addr, id, false⟩
        (match mergeFar w (look none line x.lines) with
          | some l => mergeBale w l s
          | none => finish id St.poisoned none s)
      | none => s
    | .transfer num => endTransferRead num (fun i => (look none i x.lines).getD (0, poisonInfo)) s

/-- A bale read has failed: the outcome of each reader (R357); a line that the bale's entry holds is served from it (R356). -/
def failReader (b : Nat) (r : FarReader) (s : State) : State :=
  let held (line : Nat) : Bool := match (s.bale? b).bind fun x => look none line x.lines with
    | some l => !l.2.testBit 11
    | none => false
  match r with
  | .ask id line => if held line then serveReader b r s else finish id St.poisoned none s
  | .restore c num line _ => if held line then serveReader b r s else endRestore c num none s
  | .merge => raiseNode Ev.baleLost b (fillMissing b (fun _ => (0, poisonInfo)) s)
  | .part id line _ _ => if held line then serveReader b r s else finish id St.poisoned none s
  | .transfer num =>
    let lines := match s.bale? b with | some x => x.lines | none => []
    endTransferRead num (fun i => (look none i lines).getD (0, poisonInfo)) s

/-- The readers of a bale are done; a bale that waited for its missing lines is written. -/
def doneReaders (b : Nat) (each : FarReader → State → State) (s : State) : State :=
  match s.bale? b with
  | none => s
  | some x =>
    let s := s.modBale b fun y => { y with readers := [], tries := 0 }
    let s := forEach x.readers each s
    if x.readers.contains .merge then writeBale b s else s

/-- A bale as its device holds it verifies under the ledger's version (R353). -/
def State.verifies (s : State) (b : Nat) : Option Sealed :=
  match look none b s.far.stored, s.ledgerEntry b with
  | some z, .version v => if z.version = v then some z else none
  | _, _ => none

/-- The device bytes of a bale (R353, R359). -/
def baleDeviceBytes : Nat := 16896

/-- A bale has been read whole and unaltered: it verifies and fills the entry, or fails to verify (R357). -/
def baleArrived (b : Nat) (s : State) : State :=
  let s := count farBank 2 baleDeviceBytes (count farBank 0 1 (s.bump 0x5C00 6))
  match s.verifies b with
  | some z => doneReaders b (serveReader b) (fillMissing b (fun i => z.lines.getD i (0, poisonInfo)) s)
  | none => doneReaders b (failReader b) (raiseNode Ev.baleAuthFailed b (count farBank 5 1 (s.bump 0x5C00 9)))

/-- A bale read ended in an error or without completion: issued once more, then failed (R357). -/
def baleReadError (b : Nat) (s : State) : State :=
  match s.bale? b with
  | none => s
  | some x =>
    if x.tries = 1 then issueBaleRead b s
    else doneReaders b (failReader b) (raiseNode Ev.baleReadFailed b (count farBank 5 1 (s.bump 0x5C00 8)))

/-- A read of a line can be taken: it needs no bale read, or its bale has an entry or can be given one. -/
def State.farCanRead (s : State) (b line : Nat) : Bool := (s.farLine b line).isSome || s.farRoom b

/-- A read of a line is taken in its turn: behind the bale's other operations, from the bale's entry, or from its device. -/
def takeFarRead (b line : Nat) (r : FarReader) (s : State) : State :=
  if !s.farInOrder b then waitBale b r s
  else match s.farLine b line with
    | some none => failReader b r (noteLost b s)
    | some (some l) =>
      (match r with
        | .ask id _ => endFarRead id (some l) (useBale b s)
        | .restore c num _ _ => endRestore c num (some l) (useBale b s)
        | _ => waitBale b r s)
    | none => waitBale b r s

/-- Read a line of a bale on behalf of a reader (R359): at once, or behind what reached the port before it or for want of a buffer entry
(R356); the port answers nothing while it is not up. -/
def farRead (b line : Nat) (r : FarReader) (s : State) : State :=
  let s := match r with | .restore _ _ _ _ => count farBank 4 1 s | _ => s
  if !s.farUp then
    (match r with | .ask id _ => finish id s.farClosed none s | _ => failReader b r s)
  else if s.farFirst b && s.farCanRead b line then takeFarRead b line r s
  else queueFar (.read b line r) s

/-- An operation that waits can be taken. -/
def State.farReady (s : State) : FarOp → Bool
  | .write w => s.farCanTake w.bale && s.farInOrder w.bale
  | .read b line _ => s.farUp && s.farCanRead b line

/-- An operation is taken. -/
def takeFarOp : FarOp → State → State
  | .write w => takeFarWrite w
  | .read b line r => takeFarRead b line r

/-- The dirty bale used longest ago is written when an operation waits for an entry, none is idle, and no bale is being written: once
clean, it gives its entry up (R356). Which bale is evicted is open. (DESIGN CHOICE, log 67) -/
def evictBale (s : State) : State :=
  if s.far.bales.any (·.writing) || s.far.waiting.all fun w => s.farRoom w.bale then s
  else
    let oldest := (s.far.bales.filter fun x => x.dirty && x.readers.isEmpty).foldl (fun (o : Option Bale) x => match o with
      | some y => if x.used < y.used then some x else some y
      | none => some x) none
    match oldest with
    | some x => writeBale x.num s
    | none => s

/-- Take what waits, oldest first, as far as entries are free and each is the first of its bale. (DEDUCED, log 49) -/
def drainFar (s : State) : State :=
  evictBale (forEach s.far.waiting (fun w s =>
    if s.farReady w && (s.far.waiting.find? fun x => x.bale == w.bale) == some w then
      takeFarOp w (s.setFar { s.far with waiting := s.far.waiting.erase w })
    else s) s)

/-! ### The end of a bale write (R356, R358) -/

/-- A backed range's backing copy lies in a bale. -/
def State.backedBale (s : State) (b : Nat) : Bool :=
  s.validRegions.any fun p => p.2.backed && decide (p.2.backing % 2 ^ 20 * 128 ≤ b) &&
    decide (b < (p.2.backing % 2 ^ 20 + p.2.len) * 128)

/-- A running spill has handed over the bale it is at, and the bale is `b`. -/
def Transfer.spilling (b : Nat) (t : Transfer) : Bool :=
  let base := baleOf (bits 40 0 (t.words.getD 1 0))
  t.running && bits 63 62 (t.words.getD 0 0) == 0 && base + t.bales == b && t.stage == 2

/-- The transfer a bale write belongs to goes on. -/
def transferStep (b : Nat) (s : State) : State :=
  let next (t : Transfer) : Transfer := if t.spilling b then { t with bales := t.bales + 1, got := [], stage := 0 } else t
  let s := count farBank 6 ((s.far.transfers.filter fun t => t.spilling b).length) s
  s.setFar { s.far with transfers := s.far.transfers.map next }

/-- All device writes of a bale completed: it is sealed under the ledger's version, and its writes complete. -/
def baleWritten (b : Nat) (s : State) : State :=
  match s.bale? b, s.ledgerEntry b with
  | some x, .version v =>
    if !x.writing then s
    else
      let ls := (List.range 128).map fun i => (look none i x.lines).getD (0, poisonInfo)
      let s := s.setFar { s.far with stored := put none b (some ⟨v, ls⟩) s.far.stored }
      let s := (count farBank 3 baleDeviceBytes (count farBank 1 1 (s.bump 0x5C00 7))).modBale b fun y =>
        { y with dirty := false, writing := false, waits := [] }
      transferStep b (forEach x.waits (fun w s => endFarWrite w.1 w.2 St.ok s) s)
  | some x, .lost => if x.writing then denyBale b s else s
  | none, _ => s

/-- A device write of a bale did not complete: the ledger stands advanced, and the bale no longer verifies (R358). -/
def baleStale (b : Nat) (s : State) : State :=
  match s.bale? b with
  | some x =>
    if !x.writing then s
    else
      let s := (s.bump 0x5C00 0x0A).setFar { s.far with bales := s.far.bales.filter fun y => y.num != b }
      let s := raiseNode (if s.backedBale b then Ev.backingStale else Ev.baleLost) b s
      transferStep b (forEach x.waits (fun w s => endFarWrite w.1 w.2 St.unreachable s) s)
  | none => s

/-- A bale the port can no longer write is marked: its ledger entry stands advanced, as after a failed write (R358). -/
def markStale (b : Nat) (s : State) : State :=
  match s.bale? b, s.ledgerEntry b with
  | some x, .version v => baleStale b ((if x.writing then s else advanceLedger b v s).modBale b fun x => { x with writing := true })
  | none, .version v =>
    raiseNode (if s.backedBale b then Ev.backingStale else Ev.baleLost) b ((advanceLedger b v s).bump 0x5C00 0x0A)
  | _, .lost => denyBale b s

/-- Bales all of whose lines are present and whose write an ledger entry's queue held back are written. -/
def writeFull (s : State) : State :=
  forEach (s.far.bales.filter fun x => x.dirty && !x.writing && x.readers.isEmpty && x.full) (fun x s => writeBale x.num s) s

/-- Dirty bales whose age has passed are written (R356). -/
def coalesceAged (s : State) : State :=
  forEach (s.far.bales.filter fun x => x.dirty && s.elapsed x.mergedAt (s.ob 0x5C00 4 * nsT)) (fun x s => writeBale x.num s) s

end Sys2Proof.Machine
end

