-- ==== Sys2Proof/Machine/Convert.lean ====
section
/-!
DEFINITION. The widen/narrow units at work (chapter 05): widening of stored and escaped lines with what each counts, the
escape pools, and the beyond-bound flag.
-/
namespace Sys2Proof.Machine

/-- The widen/narrow unit of a channel: that of its sheaf (u = 8·s + w). -/
def unitOf (c : Nat) : Nat := c / 9
def unitIdx (u : Nat) : Nat := 0x2420 + u
def State.unitState (s : State) (u : Nat) : Nat := s.ob (unitIdx u) 0x0F

/-! ### Pools (R142, R146) -/

/-- A pool's state: slots allocated, generation, and whether POOL_EXHAUSTED and POOL_LOW have been raised. -/
def State.pool (s : State) (r : Nat) : Nat × Nat × Nat × Nat := look (0, 0, 0, 0) r s.feeds.pools
def State.setFeeds (s : State) (f : Feeds) : State := { s with feeds := f }
def State.setPool (s : State) (r : Nat) (p : Nat × Nat × Nat × Nat) : State :=
  s.setFeeds { s.feeds with pools := put (0, 0, 0, 0) r p s.feeds.pools }

/-- Slots of a pool: 2,048 per granule. -/
def poolSlots (g : Region) : Nat := 2048 * g.len

/-- The set address of slot k of a pool. -/
def slotAddr (g : Region) (k : Nat) : Nat := granuleAddr false g.base + 1024 * k

/-- The pool whose range holds an address, if it is a role 1 range of a world. -/
def State.poolAt (s : State) (a : Nat) (world : Bool) : Option (Nat × Region) :=
  match s.regionAt a with
  | some p => if p.2.role = 1 && p.2.world == world && !farAddr a then some p else none
  | none => none

/-! ### Widening (R126, R129, R135, R144) -/

/-- What a formatted read of a line meets. -/
inductive Widened where
  | poisoned
  | mismatch
  | malformed
  /-- The line is escaped: the slot and the lines to read. -/
  | escape (slot l : Nat)
  /-- The pointer fails its checks. -/
  | badPointer
  /-- The feed lines, and elements saturated. -/
  | lines (l : List Nat) (saturated : Nat)
  deriving DecidableEq, Repr

/-- A formatted read of a line under an entry: poison first, then the tag, then the escape bit (R126, R144, R245). -/
def State.widen (s : State) (x : FormatEntry) (a : Nat) (l : Nat × Nat) : Widened :=
  if l.2.testBit 11 then .poisoned
  else if bits 15 12 l.2 != x.storage then .mismatch
  else if l.2.testBit 10 then
    let p := l.1 % 2 ^ 64
    let slot := bits 40 10 p * 2 ^ 10
    if bits 47 44 p != escapeCount x.storage || bits 43 41 p != 0 || bits 9 0 p != 0 || adNode slot != adNode a ||
      (s.poolAt slot (s.secureAt a)).isNone then .badPointer
    else .escape slot (bits 47 44 p)
  else if malformed x.storage l.1 then .malformed
  else let r := widenLine x l.1; .lines r.1 r.2

/-- What the escape lines give. -/
inductive Escaped where
  | stale | failed
  | lines (l : List Nat) (saturated rounded : Nat)
  deriving DecidableEq, Repr

/-- The checks on the escape lines and the widening of their values (R144). `got` holds the lines read, none for one that did
not complete OK. A line that fails another check is not looked at for its generation. (DESIGN CHOICE, log 36) -/
def State.widenEscape (s : State) (x : FormatEntry) (a : Nat) (home : Nat × Nat) (got : List (Option (Nat × Nat))) : Escaped :=
  let p := home.1 % 2 ^ 64
  let gen := bits 63 48 p
  let now := match s.poolAt (bits 40 10 p * 2 ^ 10) (s.secureAt a) with
    | some q => (s.pool q.1).2.1
    | none => gen
  let slot := bits 40 10 p * 2 ^ 10
  let got := (List.range got.length).map fun i => (got.getD i none).map fun l =>
    if l.2.testBit 9 then (leNat (unsealData (s.sealSlot a) (slot + 128 * i) (leBytes 128 l.1)), l.2) else l
  let ok := got.all fun e => match e with
    | some l => bits 15 12 l.2 == 6 && l.1 / 2 ^ 960 % 2 ^ 46 == a / 128 % 2 ^ 46
    | none => false
  if !ok then .failed
  else if gen != now || got.any (fun e => match e with
      | some l => l.1 / 2 ^ 1008 % 2 ^ 16 != now
      | none => true) then .stale
  else let r := widenEscaped x (got.map fun e => (e.getD (0, 0)).1); .lines r.1 r.2.1 r.2.2

/-- Count a formatted read that gives no feed line, and raise its event. -/
def countWiden (u a : Nat) (cs : Cause) (w : Widened) (s : State) : State :=
  match w with
  | .mismatch => raiseAt Ev.formatTagMismatch u a (s.secureAt a) (s.bump (unitIdx u) 0x0B)
  | .malformed => raiseAt Ev.lineMalformed u a (s.secureAt a) (s.bump (unitIdx u) 0x0C)
  | .badPointer => raiseAt Ev.escapeFailed u a (s.secureAt a) (s.bump (unitIdx u) 0x0D)
  | .lines _ n => countIf (unitBank u) 2 n cs (countIf (unitBank u) 0 1 cs ((s.bump (unitIdx u) 1).bumpBy (unitIdx u) 7 n))
  | _ => s

/-- Count an escaped read. -/
def countEscape (u a : Nat) (cs : Cause) (e : Escaped) (s : State) : State :=
  match e with
  | .stale => raiseAt Ev.escapeStale u a (s.secureAt a) (s.bump (unitIdx u) 0x0D)
  | .failed => raiseAt Ev.escapeFailed u a (s.secureAt a) (s.bump (unitIdx u) 0x0D)
  | .lines _ n r =>
    let s := (((s.bump (unitIdx u) 1).bump (unitIdx u) 0x0A).bumpBy (unitIdx u) 7 n).bumpBy (unitIdx u) 0x0E r
    let s := countIf (unitBank u) 5 1 cs (countIf (unitBank u) 2 n cs (countIf (unitBank u) 0 1 cs s))
    if r = 0 then s else raiseAt Ev.escapeRounded u a (s.secureAt a) s

/-- Issue the reads of an escape slot (R144). (DEDUCED, log 36) -/
def readEscape (u slot l ctx : Nat) (world : Bool) (why : Nat → Purpose) (s : State) : State :=
  forEach (List.range l) (fun i s => offerInternal (0x80 + u) (s.ob 0x2400 2) ctx world (slot + 128 * i) .read (why i) s) s

/-! ### Narrowing a drain line (R139–R146) -/

/-- Set the beyond-bound bit of a home region, and record the address (R146). -/
def flagBeyond (u a : Nat) (s : State) : State :=
  let s := s.setOb 0x2441 2 a
  match s.regionAt a with
  | some p =>
    let sub := p.1 / 64 + 1
    let m := s.ob 0x2440 sub
    if m.testBit (p.1 % 64) then s
    else raiseAt Ev.beyondBound u a p.2.world
      ((s.setOb 0x2440 sub (setBit (p.1 % 64) true m)).setOb 0x2400 4 (s.ob 0x2400 4 + 1))
  | none => raiseAt Ev.beyondBound u a false s

/-- The pool a line may escape to: its descriptor number and range, when escape is enabled (R141). The region is the one in force as the
line is narrowed, before the write is accepted. (DESIGN CHOICE, log 36) -/
def State.escapePool (s : State) (a : Nat) : Option (Nat × Region) :=
  match s.regionAt a with
  | some p =>
    if !p.2.escape then none
    else
      let g := s.region p.2.pool
      if g.valid && g.role == 1 && g.world == p.2.world then some (p.2.pool, g) else none
  | none => none

/-- A slot of a pool, with the events of R146: POOL_EXHAUSTED once when it is full, POOL_LOW once past the warning level. (DEDUCED, log 36) -/
def allocSlot (r : Nat) (g : Region) (s : State) : Option Nat × State :=
  let p := s.pool r
  if poolSlots g ≤ p.1 then
    if p.2.2.1 = 1 then (none, s) else (none, raiseNode Ev.poolExhausted r (s.setPool r (p.1, p.2.1, 1, p.2.2.2)))
  else
    let n := p.1 + 1
    let low := decide (s.ob 0x2400 3 * poolSlots g < 100 * n)
    let s := s.setPool r (n, p.2.1, p.2.2.1, if low then 1 else p.2.2.2)
    (some (slotAddr g p.1), if low && p.2.2.2 == 0 then raiseNode Ev.poolLow r s else s)

/-- A narrowed line: its data and metadata, and the escape writes it needs (address, data, metadata). -/
structure Narrowed where
  data : Nat
  info : Nat
  writes : List (Nat × Nat × Nat)
  pool : Nat
  deriving DecidableEq, Repr

/-- Count the scale clamps and the saturated elements of a narrowing (R136). -/
def countScales (u a : Nat) (cs : Cause) (st : NarrowStats) (s : State) : State :=
  let i := unitIdx u
  let s := countIf (unitBank u) 2 st.clamps cs (((s.bumpBy i 3 st.above).bumpBy i 4 st.below).bumpBy i 5 st.clamps)
  if st.above + st.below = 0 then s else raise Ev.scaleSaturated u a s

/-- Narrow a drain line at a set address with what it counts, escaping or flagging it where it exceeds its bound. The NaN blocks of its escape
lines are not counted again. (DESIGN CHOICE, log 35) -/
def narrow (u : Nat) (cs : Cause) (x : FormatEntry) (a : Nat) (feeds : List Nat) (s : State) : Narrowed × State :=
  let (d, st) := narrowLine x a feeds
  let i := unitIdx u
  let s := countScales u a cs st ((s.bump i 2).bumpBy i 6 st.nans)
  let s := countIf (unitBank u) 1 1 cs s
  let s := if st.nans = 0 then s else raise Ev.nanBlock u a s
  let seald := s.sealedAt a
  let beyond := exceeds x st.residual
  let s := if beyond then countIf (unitBank u) 3 1 cs (s.bump i 8) else s
  if st.poison then (⟨0, infoOf 0 true false seald, [], 0⟩, s)
  else
    let plain : Narrowed := ⟨d, infoOf x.storage false false seald, [], 0⟩
    if !beyond then (plain, s)
    else
      match s.escapePool a with
      | none => (plain, flagBeyond u a s)
      | some (r, g) =>
        match allocSlot r g s with
        | (none, s) => (plain, flagBeyond u a s)
        | (some slot, s) =>
          let xs := drainValues x feeds
          let gen := (s.pool r).2.1
          let l := escapeCount x.storage
          let parts := (List.range l).map (escapeData xs)
          let es := parts.map fun p => withStamp p.1 gen a
          let s := countScales u a cs (parts.foldl (fun t p => t.add p.2) .zero) s
          let s := countIf (unitBank u) 4 1 cs (s.bump i 9)
          let s := if exceeds x (escapeResidual x.storage xs es) then raiseAt Ev.escapeResidual u a (s.secureAt a) (flagBeyond u a s)
            else s
          (⟨pointerLine gen l slot, infoOf x.storage false true seald,
            (List.range l).map fun k =>
              let d := es.getD k 0
              let d := if seald then leNat (sealData (s.sealSlot a) (slot + 128 * k) (leBytes 128 d)) else d
              (slot + 128 * k, d, infoOf 6 false false seald), r⟩, s)

/-! ### Standing entries (R133, R149) -/

/-- The standing entry x as it is held. -/
def State.standing (s : State) (x : Nat) : Nat := s.ob 0x2410 (x + 1)

/-- A refused entry leaves its index and check code in 0x2400:05. -/
def recordCheck (x code : Nat) (s : State) : State := s.setOb 0x2400 5 (x * 256 + code)

end Sys2Proof.Machine
end

