-- ==== Sys2Proof/Machine/OpenPath.lean ====
section
/-!
DEFINITION. The open path up to admission (chapter 08): the arrival checks, meters, regulators, shapers, panic levels,
degradation, and what the cache and the slices serve without a queue entry.
-/
namespace Sys2Proof.Machine

/-! ### Panic (R233, R234) -/

def rtIdx (p : Nat) : Nat := 0x3020 + p
def State.panicState (s : State) (p : Nat) : PanicState := look ⟨0, none, 0, 0⟩ p s.path.panics
def State.setPanic (s : State) (p : Nat) (x : PanicState) : State :=
  s.setPath { s.path with panics := put ⟨0, none, 0, 0⟩ p x s.path.panics }

/-- The level changes at most once per 10 µs: so long after the last change a new value of the input is taken (R233, R551). -/
def State.panicFree (s : State) (x : PanicState) : Bool := match x.changedAt with
  | some t => s.elapsed t (10000 * nsT)
  | none => true

/-- The level in force; 0 while the port is stuck. -/
def State.panicIn (s : State) (p : Nat) : Nat := if s.ob (rtIdx p) 4 = 2 then 0 else (s.panicState p).level

/-! ### Degradation (R235) -/

/-- An occurrence of degradation step n. -/
def degrade (n : Nat) (s : State) : State :=
  let s := s.bump 0x3000 (6 + n)
  let active := (s.ob 0x3000 6).testBit (n - 1)
  let s := s.setPath { s.path with degrade := put 0 n (s.frame + 1) s.path.degrade }
  if active then s else raiseNode (0xC000 + n) 0 (s.setOb 0x3000 6 (setBit (n - 1) true (s.ob 0x3000 6)))

/-! ### Meters (R222, R223) -/

def classIdx (l : Nat) : Nat := 0x3010 + l

/-- One byte in units of 1/12,000 B. -/
def byteUnit : Nat := 12000

/-- The buckets of a class, brought up to date: full where no request has been metered since they were set full. -/
def State.meter (s : State) (l : Nat) : Meter :=
  let i := classIdx l
  let full : Meter := ⟨s.ob i 6 * byteUnit, s.ob i 8 * byteUnit, s.now⟩
  match s.path.meters.find? fun p => p.1 == l with
  | none => full
  | some (_, m) =>
    let t := s.now - m.at_
    ⟨min full.tc (m.tc + s.ob i 5 * t), min full.tp (m.tp + s.ob i 7 * t), s.now⟩

def State.setMeter (s : State) (l : Nat) (m : Meter) : State :=
  s.setPath { s.path with meters := put ⟨0, 0, 0⟩ l m s.path.meters }

/-- A meter set full. -/
def fillMeter (l : Nat) (s : State) : State :=
  s.setPath { s.path with meters := s.path.meters.filter fun p => p.1 != l }

/-- The colour of a request, 0 green, 1 yellow, 2 red, and the buckets after it. -/
def Meter.colour (m : Meter) (mode pre : Nat) : Nat × Meter :=
  let b := 128 * byteUnit
  let pre := if mode = 2 then pre else 0
  if pre = 2 || m.tp < b then (2, m)
  else if pre = 1 || m.tc < b then (1, { m with tp := m.tp - b })
  else (0, { m with tp := m.tp - b, tc := m.tc - b })

/-- Colour a request (step 6 of R219); a port at panic level 0b11 is green without debiting. -/
def meterAsk (q : Ask) (s : State) : Nat × State :=
  let l := q.side.cls
  let mode := s.ob (classIdx l) 4
  let free := match q.side.port with | .rt p => s.panicIn p == 3 | _ => false
  if mode = 0 || free then (0, s.bump (classIdx l) 0x10)
  else
    let r := (s.meter l).colour mode q.side.pre
    (r.1, (s.setMeter l r.2).bump (classIdx l) (0x10 + r.1))

/-! ### Regulators (R224, R225) -/

def regIdx (r : Nat) : Nat := 0x3080 + r
def State.partition (s : State) (ctx : Nat) : Nat := s.ob 0x3040 (ctx + 1)
def State.regEnabled (s : State) (r : Nat) : Bool := (s.ob (regIdx r) 3).testBit 0

/-- The window of a partition. -/
def State.regWindow (s : State) (r : Nat) : RegWindow := look ⟨0, false, false⟩ r s.path.regs
def State.setRegWindow (s : State) (r : Nat) (w : RegWindow) : State :=
  s.setPath { s.path with regs := put ⟨0, false, false⟩ r w s.path.regs }

/-- A request is over its partition's budget (R225); a block-internal one belongs to no partition (R224), and before its first window
a partition has no allowance to exceed. -/
def State.overBudget (s : State) (q : Ask) : Bool :=
  let r := s.partition q.side.ctx
  !q.unitKind && s.regEnabled r && (s.regWindow r).running && decide (s.ob (regIdx r) 6 ≤ s.ob (regIdx r) 5)

/-- Start a window of a partition: carry, allowance and used (R225). The first begins at the tide that armed it, each other where the
one before ends. -/
def startWindow (r : Nat) (first : Bool) (s : State) : State :=
  let i := regIdx r
  let budget := s.ob i 1
  let carry := if first then 0 else min (s.ob i 4) (budget - s.ob i 5)
  let w := s.regWindow r
  let s := (s.setOb i 6 (budget + carry)).setOb i 5 0
  s.setRegWindow r ⟨if first then w.start else w.start + s.ob i 2, true, false⟩

/-- The regulator windows at a tide: those of enabled partitions that do not run are to begin (R225, R237). -/
def armWindows (f : Nat) (s : State) : State :=
  forEach (List.range 64) (fun r s => if s.regEnabled r && !(s.regWindow r).running && !(s.regWindow r).armed then s.setRegWindow r ⟨f, false, true⟩ else s) s

/-- An entry of the regulator has taken effect: its windows begin at the tide. -/
def stopWindow (r : Nat) (s : State) : State := s.setRegWindow r ⟨0, false, false⟩

/-! ### Shapers (R227) -/

def State.shaped (s : State) (l : Nat) : Bool := s.ob (classIdx l) 9 == 1

/-- The class has a request in an offer buffer. -/
def State.offeredOf (s : State) (l : Nat) : Bool :=
  s.path.asks.any fun q => q.stage == .offered && q.fwd == 0 && q.side.cls == l && !q.internal

/-- A class's shaper credit now. -/
def State.shaperNow (s : State) (l : Nat) : Int :=
  let x := look ⟨0, 0⟩ l s.path.shapers
  let rise : Int := ((s.now - x.at_) * s.ob (classIdx l) 0x0A : Nat)
  let top : Int := (s.ob (classIdx l) 0x0B * byteUnit : Nat)
  if s.offeredOf l then (if x.credit < top then min top (x.credit + rise) else x.credit)
  else if 0 < x.credit then 0
  else min 0 (x.credit + rise)

/-- Bring a class's credit up to date; its object shows whole bytes. -/
def setShaper (l : Nat) (c : Int) (s : State) : State :=
  (s.setPath { s.path with shapers := put ⟨0, 0⟩ l ⟨c, s.now⟩ s.path.shapers }).setOb (classIdx l) 0x15
    (unsigned 32 (c / (byteUnit : Int)))
def settleShaper (l : Nat) (s : State) : State := if s.shaped l then setShaper l (s.shaperNow l) s else s

/-- A request is neither shaped nor takes credit: block-internal, or of a port at panic level 0b01 or above. -/
def State.unshaped (s : State) (q : Ask) : Bool :=
  q.unitKind || !s.shaped q.side.cls || match q.side.port with | .rt p => s.panicIn p != 0 | _ => false

/-! ### Admission state of a request -/

/-- The first row of R229 that applies: 0 A, 1 B, 2 C, 3 D, 4 E. -/
def State.tierOf (s : State) (q : Ask) (colour : Nat) (overB : Bool) : Nat :=
  let panic := match q.side.port with | .rt p => s.panicIn p != 0 | _ => false
  if panic then 0
  else if s.ob (classIdx q.side.cls) 1 = 0 then 4
  else if colour = 1 then 3
  else if overB then 2
  else 1

/-- The effective rank of R221. -/
def State.rankOf (s : State) (q : Ask) (colour : Nat) (overB : Bool) : Nat :=
  if s.ob (classIdx q.side.cls) 1 = 0 then 0
  else if colour = 1 then 1
  else if overB then 2
  else s.ob (classIdx q.side.cls) 2

/-! ### The checks of R219 -/

/-- What a step answers: it passes, a status, or no answer at all. -/
inductive Admit where
  | pass
  | status (st : Nat)
  | silent
  deriving DecidableEq, Repr

/-- The right an operation needs. -/
def accessOf : Op → AccessOp
  | .read => .read | .widen _ _ => .read | .write _ _ => .write | .put _ _ => .write | _ => .atomic

/-- The core a request comes from (R44): a tile feed port's own core index; the header of another node's request names its
tile and no core. -/
def Ask.coreId (q : Ask) (me : Nat) : Option CoreId :=
  match q.side.port with
  | .tile t => some ⟨me, t, q.side.core⟩
  | .headland _ h => if h.portKind = 0 then some ⟨h.origin, h.portIndex, 0⟩ else none
  | _ => none


/-- What the node state answers (R35, R36); new Secure-world requests wait for the end of a zeroisation (R387). A halted node answers
UNREACHABLE at its own ports while their crossings run (R432). (DEDUCED, log 44) -/
def State.nodeAdmits (s : State) (q : Ask) : Admit :=
  match s.power.node with
  | .off => .silent
  | .halted => match q.side.port with
    | .tile _ => if s.power.vcore then .status St.unreachable else .silent
    | .rt _ => if s.power.vcore then .status St.unreachable else .silent
    | _ => .silent
  | .ready => if s.sec.zeroing.isSome && q.side.world then .status St.retry else .pass
  | .run => if s.sec.zeroing.isSome && q.side.world then .status St.retry else .pass
  | .config => if q.unitKind then .pass else .status St.retry
  | _ => .status St.retry

/-- The ledger the attached capacity asks for is there (R51): without one far requests complete UNIT_OFF. -/
def State.ledgerThere (s : State) : Bool := s.validRegions.any fun p => p.2.isLedger s

/-- The far-tier port's own answer (R51, R359, R363). An ATOMIC, a REDUCE or a WIDEN is DENIED before the want of a ledger is looked at.
(DESIGN CHOICE, log 49) -/
def State.farAdmits (s : State) (q : Ask) : Admit :=
  match q.op with
  | .atomic .. => .status St.denied
  | .reduce _ _ => .status St.denied
  | .widen _ _ => .status St.denied
  | _ => if s.farState = 1 then (if s.ledgerThere then .pass else .status St.unitOff)
      else if s.farState = 2 then .status St.unreachable else .status St.unitOff

/-- The steps of R53 that apply to a request, and the key of a sealed range (R386); `none` when they pass. -/
def stepAccess (q : Ask) (s : State) : Option Nat × State :=
  let ranged (op : AccessOp) : Option Nat × State :=
    match accessCheck op q.side.world q.side.ctx (q.coreId s.me) q.addr s with
    | (some st, s) => (some st, s)
    | (none, s) => if sealDenied q.addr s then (some St.denied, raiseNode Ev.sealKeyAbsent 0 s) else (none, s)
  match q.checks with
  | .one => if unmapped q.addr s then (some St.unreachable, countAccess St.unreachable q.addr s) else (none, s)
  | .image => ranged .exempt
  | _ => ranged (accessOf q.op)

/-- The clocked unit a request is for is not gated (R407). -/
def State.unitClocked (s : State) (q : Ask) : Bool :=
  if farAddr q.addr then s.adapterOn 4 else s.sheafOn (sheafOf (homeChan q.addr))

/-- What the target answers once the access checks have passed: the node state, a gated unit, the far-tier port, the channel (R35, R36,
R359, R407). -/
def State.targetAdmits (s : State) (q : Ask) : Admit :=
  match s.nodeAdmits q with
  | .pass =>
    if !s.unitClocked q then .status St.unitOff
    else if farAddr q.addr then s.farAdmits q
    else if !s.reachable q.addr then .status St.unreachable
    else if q.unitKind && !s.unitReady q then .status St.retry
    else .pass
  | r => r

/-- Step 5 of R219: the access checks of R53, then the node state and whether the target can be reached. A node in OFF or HALTED gives
no answer. -/
def step5 (q : Ask) (s : State) : Admit × State :=
  match q.op with
  | .sync .. => (s.nodeAdmits q, s)
  | _ =>
    if s.nodeAdmits q = .silent then (.silent, s)
    else match stepAccess q s with
      | (some st, s) => (.status st, s)
      | (none, s) => (s.targetAdmits q, s)

/-- Steps 1 to 3, made at the node of the port: no reserved value, the port's class mask, the port's world. H1 [127:96] is
reserved on a tile feed port, the core index on a real-time port (R106, R216). -/
def portDenied (q : Ask) (s : State) : Bool :=
  let maskZero := match q.op with | .write m _ => m == 0 | _ => false
  q.side.rsvd || q.side.pre == 3 || maskZero ||
  match q.side.port with
  | .tile t => q.side.deadline != 0 || q.side.pre != 0 || !(s.ob 0x3000 5).testBit q.side.cls ||
      (q.side.world && s.ob (0x2320) t == 0)
  | .rt p => q.side.core != 0 || !(s.ob (rtIdx p) 2).testBit q.side.cls || (q.side.world && s.ob (rtIdx p) 1 == 0)
  | _ => false

/-- The requests a port's offer buffer holds, and its size (R215). (DEDUCED, log 54) -/
def State.offersOf (s : State) (q : Ask) : Nat :=
  (s.path.asks.filter fun b => b.stage == .offered && b.fwd == 0 && match q.side.port, b.side.port with
    | .headland h _, .headland k _ => h == k
    | p, r => p == r).length
def offerSize : Port → Nat
  | .tile _ => 16 | .rt _ => 64 | .headland _ _ => 256 | .unit _ => 65536

/-- A request with the (port, stream, sequence number) of an entry in the journal (R270). -/
def State.duplicate (s : State) (q : Ask) : Bool :=
  s.path.asks.any fun b => (b.journal || b.fwd == 2) && b.sameStream q && b.side.seq == q.side.seq

/-! ### Completion of reads -/

/-- A widening read gives its feed line, or the outcome of R126, R129 and R144; UNREACHABLE where its unit is out of service (R151). -/
def finishWiden (q : Ask) (j : Nat) (l : Nat × Nat) (s : State) : State :=
  let x := decodeEntry q.entry
  let u := unitOf (homeChan q.addr)
  if s.unitState u != 0 then finish q.id St.unreachable none s
  else
  let w := s.widen x q.addr l
  let s := countWiden u q.addr (s.askCause q) w s
  match w with
  | .poisoned => finish q.id St.poisoned none s
  | .mismatch => finish q.id St.denied none s
  | .malformed => finish q.id St.poisoned none s
  | .badPointer => finish q.id St.poisoned none s
  | .lines ls _ => finish q.id St.ok (some (ls.getD j 0)) s
  | .escape slot n =>
    readEscape u slot n q.side.ctx q.side.world (.escapeRead q.id)
      (s.modAsk q.id fun q => { q with applied := some l.1, info := l.2 })

/-- The line of a READ or WIDEN, in plaintext, or of an internal read, which takes its metadata too: the sealed bit first
(step 6 of R53), then poison (R245). -/
def finishRead (id : Nat) (l : Nat × Nat) (s : State) : State :=
  match s.ask? id with
  | none => s
  | some q =>
    let poison := l.2.testBit 11
    if q.stage == .finished then s
    else if !q.uncached && l.2.testBit 9 != q.sealed then finish id St.denied none (countAccess St.denied q.addr s)
    else
      let s := if poison then s.bump 0xA001 6 else s
      if q.internal then
        finish id (if poison then St.poisoned else St.ok) (some l.1) (s.modAsk id fun q => { q with info := l.2 })
      else if poison then finish id St.poisoned none s
      else match q.op with
        | .widen _ j => finishWiden q j l s
        | _ => finish id St.ok (some l.1) s

/-! ### The close of a reduction (R171) -/

/-- After contribution K − 1 the result becomes the cached copy and is written back; open reads of the line complete. -/
def beginClose (r : Red) (s : State) : State :=
  let d := accLine r.word (r.acc.getD [])
  let info := s.writeInfo r.addr
  let s := replaceCopy r.addr d info s
  let s := (tryInstall r.addr anyWay d info s).2
  let s := forEach r.readers (fun id => finishRead id (d, info)) s
  let s := s.modRed r.addr fun q => { q with readers := [], closing := true }
  offerInternal (0x10 + sliceOf r.addr) 0 0 (s.secureAt r.addr) r.addr (.put d info) (.writeBack (r.addr / 128)) s

/-- A lane applies what it can of the reduction on a line (R170). (DEDUCED, log 34) -/
def contribute (a : Nat) (s : State) : State :=
  match s.redOn a with
  | none => s
  | some r =>
    if r.closing then s
    else
      let (r', s) := applyAll (r.staged.length + 1) r s
      let s := s.modRed a fun _ => r'
      if r'.next = redK r'.word then beginClose r' s else s

/-! ### What needs no queue entry -/

/-- No earlier request of its (port, stream) is still offered (R231). -/
def State.inTurn (s : State) (q : Ask) : Bool :=
  (earlierAsks q.id s.path.asks).all fun b => !(b.sameStream q && b.stage == .offered && b.fwd == 0)

/-- A request of a shaped class waits for credit. -/
def State.hasCredit (s : State) (q : Ask) : Bool := s.unshaped q || decide (0 ≤ s.shaperNow q.side.cls)

/-- What a grant counts and takes: the class, its shaper, its partition (R225, R227). (DEDUCED, log 14) -/
def countGrant (q : Ask) (credit : Int) (s : State) : State :=
  let s := s.bump (classIdx q.side.cls) 0x13
  let s := if s.unshaped q then s
    else setShaper q.side.cls (credit - 128 * byteUnit) s
  let r := s.partition q.side.ctx
  if q.unitKind || !s.regEnabled r || !(s.regWindow r).running then s else s.setOb (regIdx r) 5 ((s.ob (regIdx r) 5 + 1) % 2 ^ 32)

/-- Step 5 again at the grant when a tide has fallen since the request arrived (R219): passes, or ends the request. (DEDUCED, log 14) -/
def recheck (q : Ask) (s : State) : Bool × State :=
  if q.tides = s.path.tides then (true, s)
  else match step5 q s with
    | (.pass, s) => (true, s)
    | (.status st, s) => (false, if st = St.retry then refuseLater q.id s else if st = St.denied then denyAsk q.id s
        else finish q.id st none s)
    | (.silent, s) => (false, dropAsk q.id s)

/-- The entry of a widening read is valid and has the feed line (R148); its unit runs (R151). -/
def State.widenRefusal (s : State) (q : Ask) : Option Nat :=
  match q.op with
  | .widen x j =>
    let e := decodeEntry (s.standing x)
    if entryCheck e != 0 || decide (e.nw ≤ j) then some St.denied
    else if s.unitState (unitOf (homeChan q.addr)) != 0 then some St.unreachable
    else none
  | _ => none

/-- Grant: the step 5 of R219, the entry of a widening read as it is now, the journal entry, and then the request's own work. -/
def grant (q : Ask) (confirmed : Bool) (f : State → State) (s : State) : State :=
  match recheck q s with
  | (false, s) => s
  | (true, s) =>
    match s.widenRefusal q with
    | some st => if st = St.denied then denyAsk q.id s else finish q.id st none s
    | none =>
      if !s.entryFree q then (if q.unitKind then s else refuseLater q.id s)
      else f (acceptAsk q.id confirmed (countGrant q (s.shaperNow q.side.cls) s))

/-- Whether the cache is asked about an open READ, WRITE or WIDEN here (R155, R158). -/
def State.cacheable (s : State) (q : Ask) : Bool := !farAddr q.addr && !q.uncached && (s.serving (sliceOf q.addr)).isSome

/-- Note a hit (2) or a miss (3) of an open READ, WRITE or WIDEN. -/
def countHit (q : Ask) (sub : Nat) (s : State) : State :=
  let x := sliceOf q.addr
  let open_ := match q.op with | .read => true | .write _ _ => true | .widen _ _ => true | _ => false
  if open_ && !q.unitKind && s.cacheable q then
    let s := s.bump (0x2510 + x) sub
    match q.op with
    | .write _ _ => s
    | _ =>
      if sub = 2 then sampleFlag 0 q.id 0 3 (countIf (sliceBank x) 0 1 (s.askCause q) s)
      else countIf (sliceBank x) 1 1 (s.askCause q) s
  else s

/-- Record the standing entry a widening read uses (R149). -/
def noteEntry (q : Ask) (s : State) : State :=
  match q.op with
  | .widen x _ => s.modAsk q.id fun b => { b with entry := s.standing x }
  | _ => s

/-- An offered READ or WIDEN that the cache can answer: a hit, or a line under reduction, whose result it gets at the close (R158,
R172). -/
def serveHit (id : Nat) (s : State) : State :=
  match s.ask? id with
  | none => s
  | some q =>
    if q.stage != .offered || q.uncached || !s.inTurn q || !s.hasCredit q || farAddr q.addr then s
    else match s.redOn q.addr, s.cached q.addr with
      | some r, _ =>
        if r.closing then grant q true (fun s => finishRead id (accLine r.word (r.acc.getD []), s.writeInfo r.addr) (noteEntry q s)) s
        else grant q true (fun s => (noteEntry q s).modRed q.addr fun r => { r with readers := r.readers ++ [id] }) s
      | none, some (k, w) =>
        grant q true (fun s => finishRead id (w.data, w.info) (touch k (countHit q 2 (noteEntry q s)))) s
      | none, none => s

/-- A write that hits a dirty copy is absorbed by it, mirror included (R158, R160). -/
def absorbWrite (q : Ask) (mask data k : Nat) (w : CWay) (s : State) : State :=
  let w' : CWay := { w with data := mergeData mask data w.data, info := s.writeInfo q.addr, modified := s.now, writing := false }
  applyAsk q.id 0 none (countHit q 2 (mirrorLine q.addr w' (touch k (s.setWay k (some w')))))

/-- An offered write that hits a dirty copy is granted at once and absorbed (R158); a line under reduction refuses it (R172). -/
def serveAbsorb (id mask data : Nat) (s : State) : State :=
  match s.ask? id with
  | none => s
  | some q =>
    if q.stage != .offered || q.uncached || !s.inTurn q || !s.hasCredit q || farAddr q.addr then s
    else if (s.redOn q.addr).isSome then refuseLater id s
    else match s.cached q.addr with
      | some (k, w) =>
        if w.kind != .dirty then s
        else grant q true (absorbWrite q mask data k w) s
      | none => s

/-- A far-tier READ or WRITE at the port (R356, R359). -/
def serveFar (id : Nat) (s : State) : State :=
  match s.ask? id with
  | none => s
  | some q =>
    if q.stage != .offered || !farAddr q.addr || s.crossingShut 800 || !s.inTurn q || !s.hasCredit q then s
    else
      let b := baleOf (adFar q.addr)
      let line := baleLine (adFar q.addr)
      match q.op with
      | .read => grant q true (farRead b line (.ask id line)) s
      | .write m d => grant q true (farWrite ⟨b, line, m, d, s.writeInfo q.addr, id, false⟩) s
      | .put d i => grant q true (farWrite ⟨b, line, fullMask, d, i, id, false⟩) s
      | _ => s

/-- A request that its slice grants (R228): in turn, with credit, checked again after a tide, and counted when it is accepted
(R225, R227). (DEDUCED, log 14) -/
def serveSliced (q : Ask) (f : State → State) (s : State) : State :=
  if q.stage != .offered then f s
  else if !s.inTurn q || !s.hasCredit q then s
  else match recheck q s with
    | (false, s) => s
    | (true, s) =>
      let t := f s
      match t.ask? q.id with
      | some b => if b.journal then countGrant q (s.shaperNow q.side.cls) t else t
      | none => t

/-- Try what a request may do without a queue entry. -/
def serveAsk (id : Nat) (s : State) : State :=
  match s.ask? id with
  | none => s
  | some q =>
    if q.fwd != 0 || q.stage == .finished then s
    else match q.op with
      | .sync .. => serveSliced q (serveSync id) s
      | .atomic .. => serveSliced q (serveAtomic id) s
      | .reduce _ _ => serveSliced q (serveReduce id) s
      | .write m d => if farAddr q.addr then serveFar id s else serveAbsorb id m d s
      | .put _ _ => serveFar id s
      | _ => if farAddr q.addr then serveFar id s else serveHit id s

/-- Serve every request held that can be served, in order of arrival. -/
def serveAll (s : State) : State := forEach (s.path.asks.map (·.id)) serveAsk (drainFar s)

/-! ### Arrival -/

/-- The due time of a request (R220): of a real-time port's deadline, or as another node's header gives its low 32 bits. -/
def State.dueOf (s : State) (side : Side) : Nat :=
  match side.port with
  | .rt _ => if side.deadline = 0 then 0 else s.setNs + side.deadline + 1
  | .headland _ h =>
    if h.due = 0 then 0
    else
      let base := s.setNs / 2 ^ 32 * 2 ^ 32 + h.due
      1 + (if base + 2 ^ 31 < s.setNs then base + 2 ^ 32 else if s.setNs + 2 ^ 31 < base then base - 2 ^ 32 else base)
  | _ => 0

/-- A request to a slice that its partner is taking over: refused RETRY_LATER (R161). -/
def State.sliceHeld (s : State) (q : Ask) : Bool :=
  !q.unitKind && !farAddr q.addr && s.sliceState (sliceOf q.addr) == 1 &&
  match q.op with | .read => true | .write _ _ => true | .widen _ _ => true | _ => false

/-- Steps 5 to 7 at the owning node: the request is refused, or enters the offer buffer with its tier and rank. -/
def offerAsk (q : Ask) (s : State) : State :=
  let refuse (st : Nat) (s : State) : State :=
    if st = St.retry then refuseLater q.id s else if st = St.denied then denyAsk q.id s else finish q.id st none s
  let s := addAsk q (settleShaper q.side.cls s)
  match step5 q s with
  | (.silent, s) => dropAsk q.id s
  | (.status st, s) => refuse st s
  | (.pass, s) =>
    match s.widenRefusal q with
    | some st => refuse st s
    | none =>
      if s.sliceHeld q then sliceLater (sliceOf q.addr) q.id s else
      let (colour, s) := if q.unitKind then (0, s) else meterAsk q s
      if colour = 2 then refuseLater q.id (raiseNode Ev.meterRed 0 s)
      else
        let ov := s.overBudget q
        let t := s.tierOf q colour ov
        let s := if t = 2 then s.bump (regIdx (s.partition q.side.ctx)) 7 else s
        let r := s.rankOf q colour ov
        let s := s.modAsk q.id fun b => { b with tier := t, rank := r, overBudget := ov }
        let s := match q.side.port with | .rt p => s.peak (rtIdx p) 8 (s.offersOf q) | _ => s
        serveAll s

/-- A request for another node that completed RETRY_LATER at once, for want of a forward-table entry, starts its chain (R231, R334). -/
def chainForward (q : Ask) (s : State) : State :=
  match s.ask? q.id with
  | some b => if b.result.map (·.1) = some St.retry then startChain b [] s else s
  | none => s

/-- Offer a block-internal request that is checked further (R560): the read of a mask line or of a plan image passes step 5 of R219
where its target is; one that fails it completes at once. -/
def offerChecked (q : Ask) (s : State) : State :=
  if q.owner != s.me then forwardAsk q s
  else match step5 q s with
    | (.pass, s) => serveAll (addAsk q s)
    | (.status st, s) => finish q.id st none (addAsk q s)
    | (.silent, s) => s

/-- An operation on an object of another node travels under the class of 0x2500:0A (R178). -/
def State.syncClass (s : State) (q : Ask) : Ask :=
  match q.op with
  | .sync .. => { q with side := { q.side with cls := s.ob 0x2500 0x0A } }
  | _ => q

/-- A request arrives at a port of this node, or in a parcel from another (R215, R219, R270). A full offer buffer leaves it
with its sender. (DEDUCED, log 54) -/
def arrive (side : Side) (a : Nat) (op : Op) (s : State) : State :=
  let q : Ask := { s.newAsk side a op .port with due := s.dueOf side }
  let here : Bool := match side.port with | .tile _ => true | .rt _ => true | _ => false
  if s.power.node = .off || s.power.node = .halted then s
  else if s.duplicate q then raiseNode Ev.requestDuplicate 0 (count breakwaterBank 8 1 (s.bump 0xA002 4))
  else if offerSize side.port ≤ s.offersOf q then s
  else
    let s := endChain q s
    if here && portDenied q s then denyAsk q.id (addAsk q s)
    else if !here && side.rsvd then denyAsk q.id (addAsk q s)
    else if !q.unitKind && s.chained q then finish q.id St.retry none (addAsk q s)
    else if here && q.owner != s.me then chainForward q (forwardAsk (s.syncClass q) s)
    else offerAsk q s

end Sys2Proof.Machine
end

