-- ==== Sys2Proof/Machine/Grant.lean ====
section
/-!
DEFINITION. Weighted fair queueing and the grant of queue entries (R228–R232), the expiry of offers, and the delivery of
completions (R269, R270).
-/
namespace Sys2Proof.Machine

/-! ### Candidates (R228–R231) -/

/-- A request waits for a queue entry: offered, or accepted with its line to be fetched. -/
def State.wantsEntry (s : State) (write : Bool) (q : Ask) : Bool :=
  q.fwd == 0 && !farAddr q.addr &&
  if write then q.stage == .offered && (match q.op with | .write _ _ => true | .put _ _ => true | _ => false)
  else (q.stage == .offered && (match q.op with | .read => true | .widen _ _ => true | _ => false)) || s.needsFetch q

/-- Free entries of a channel's queue. -/
def State.freeEntries (s : State) (c : Nat) (write : Bool) : Nat :=
  if write then wqSize - (s.chan c).wq.length else rqSize - (s.chan c).rq.length

/-- The Breakwater accepts requests for a channel: not while it drains toward self-refresh, unless its stack is halted (R203,
R288). -/
def State.chanOpen (s : State) (c : Nat) : Bool := (s.chan c).draining.isNone || s.halted (stackOf c)

/-- A write-back of a node that begins a warm reset, which comes before its channels' self-refresh (R159, R180). -/
def State.warmBack (s : State) (q : Ask) : Bool := s.power.warm && s.power.node == .boot && q.why == .writeBack (q.addr / 128)

/-- A slice answers requests for its lines: while it is being taken over, they are held (R161). -/
def State.sliceReady (s : State) (q : Ask) : Bool := q.uncached || s.sliceState (sliceOf q.addr) != 1

/-- A request is eligible for an entry of a channel's queue (R231, R227); a block-internal one waits for its channel to be in service
(R35), and none crosses a closed crossing (R409). -/
def State.eligible (s : State) (c : Nat) (write : Bool) (q : Ask) : Bool :=
  s.wantsEntry write q && (s.place q.addr).c == c && !s.crossingShut (512 + sheafOf c) && (q.stage == .accepted || s.inTurn q) && s.hasCredit q && s.sliceReady q &&
  (!q.unitKind || s.unitReady q) && (!write || s.backingReady q.addr)

/-- The eligible requests of a channel's queue. -/
def State.eligibles (s : State) (c : Nat) (write : Bool) : List Ask := s.path.asks.filter (s.eligible c write)

/-- Those that an entry may be granted to now: one is free, and more than the reserve are for tiers C to E (R230). -/
def State.candidates (s : State) (c : Nat) (write : Bool) : List Ask :=
  if decide (0 < s.freeEntries c write) then
    (s.eligibles c write).filter fun q => (s.chanOpen c || s.warmBack q) &&
      (decide (q.tier ≤ 1) || decide (s.ob 0x3000 (if write then 3 else 2) < s.freeEntries c write))
  else []

/-! ### Tags (R232) -/

def Wfq.reset : Wfq := ⟨0, [], [], []⟩
def wfqKey (c : Nat) (write : Bool) : Nat := 2 * c + b2n write
def State.wfqOf (s : State) (c : Nat) (write : Bool) : Wfq := look .reset (wfqKey c write) s.path.wfq
def State.setWfq (s : State) (c : Nat) (write : Bool) (w : Wfq) : State :=
  s.setPath { s.path with wfq := put .reset (wfqKey c write) w s.path.wfq }

/-- Tags are compared by the sign of their difference modulo 2^32. -/
def tagLt (a b : Nat) : Bool := decide (signed 32 (a + 2 ^ 32 - b % 2 ^ 32) < 0)
def tagMax (a b : Nat) : Nat := if tagLt a b then b else a

def State.cost (s : State) (l : Nat) : Nat := 65536 / max 1 (s.ob (classIdx l) 3)

/-- The classes now backlogged: those that wake take a head tag, those without an eligible request lose theirs. -/
def Wfq.wake (w : Wfq) (classes : List Nat) (cost : Nat → Nat) : Wfq :=
  let fresh := classes.filter fun l => !w.backlog.contains l
  { w with
    backlog := classes
    head := fresh.foldl (fun m l => put 0 l ((tagMax w.v (look 0 l w.last) + cost l) % 2 ^ 32) m) w.head }

/-- The tags after a grant to class l. -/
def Wfq.granted (w : Wfq) (l : Nat) (still : Bool) (cost : Nat) : Wfq :=
  let h := look 0 l w.head
  { v := tagMax w.v h
    last := put 0 l h w.last
    head := if still then put 0 l ((h + cost) % 2 ^ 32) w.head else w.head
    backlog := if still then w.backlog else w.backlog.filter fun x => x != l }

/-- The classes of some requests, ascending. -/
def classesOf (qs : List Ask) : List Nat := (List.range 16).filter fun l => qs.any fun q => q.side.cls == l

/-- The class with the least head tag, the lower on a tie. -/
def Wfq.least (w : Wfq) : List Nat → Option Nat
  | [] => none
  | l :: ls => match w.least ls with
    | some m => if tagLt (look 0 m w.head) (look 0 l w.head) then some m else some l
    | none => some l

/-- Bring the backlog of a channel's queue up to date. -/
def syncWfq (c : Nat) (write : Bool) (s : State) : State :=
  s.setWfq c write ((s.wfqOf c write).wake (classesOf (s.eligibles c write)) s.cost)

/-- Bring every queue's backlog up to date: after offered requests went without a grant, and before weights change. -/
def syncQueues (s : State) : State :=
  forEach (s.path.wfq.map (·.1)) (fun k s => syncWfq (k / 2) (k % 2 == 1) s) s

/-- The request that takes the next free entry: of the highest tier, of the class with the least head tag, the oldest. -/
def State.chosen (s : State) (c : Nat) (write : Bool) : Option Ask :=
  let qs := s.candidates c write
  let t := qs.foldl (fun t q => min t q.tier) 5
  let qs := qs.filter fun q => q.tier == t
  match ((s.wfqOf c write).wake (classesOf (s.eligibles c write)) s.cost).least (classesOf qs) with
  | some l => qs.find? fun q => q.side.cls == l
  | none => none

/-! ### The grant itself -/

/-- The real-time port of this node whose panic marks a read (R233). -/
def Ask.rtPort (q : Ask) : Option Nat := match q.side.port with | .rt p => some p | _ => none

/-- The region in force for a request: since its acceptance, the one it was accepted under (R50, R248). -/
def State.regionFor (s : State) (q : Ask) : Option (Nat × Nat) :=
  match s.ask? q.id with
  | some b => if b.stage = .offered then s.regionRaw q.addr else b.region
  | none => s.regionRaw q.addr

/-- A read takes its entry. -/
def placeRead (q : Ask) (s : State) : State :=
  pushRead (.ask q.id) q.addr q.rank q.rtPort (s.regionFor q) (countHit q 3 (noteEntry q s))

/-- What a placed open write does to the cache (R158): a clean copy takes its bytes; a miss allocates under policy 2. -/
def writeThroughCache (q : Ask) (mask data info : Nat) (s : State) : State :=
  let s := if s.cacheable q then countIf (sliceBank (sliceOf q.addr)) 2 1 (s.askCause q) s else s
  if q.uncached then s
  else match s.cached q.addr with
    | some (k, w) => countHit q 2 (s.setWay k (some { w with data := mergeData mask data w.data, info := info }))
    | none =>
      let s := countHit q 3 s
      let w := s.ruleFor q
      if mask = fullMask && rulePolicy w == 2 then allocWrite q.addr (ruleMask w) data info s else s

/-- A whole line has been placed at home: its backing write is issued, and the request reaches its effect point (R251,
R269). -/
def wholePlaced (id a data info : Nat) (s : State) : State :=
  if (s.backingBale a).isSome && !farAddr a then
    homeEffect id St.ok (backingWrite id a data info (s.modAsk id fun q => { q with backing := true }))
  else homeEffect id St.ok s

/-- A write takes its entry (R191, R192). -/
def placeWrite (q : Ask) (s : State) : State :=
  match q.op with
  | .write mask data =>
    match if q.uncached then none else (s.cached q.addr).filter fun x => x.2.kind == .dirty with
    | some (k, w) => absorbWrite q mask data k w (s.modAsk q.id fun b => { b with confirmed := true })
    | none =>
    let info := s.writeInfo q.addr
    let s := writeThroughCache q mask data info (pushWrite (.ask q.id) q.addr mask data info (s.regionFor q) s)
    if mask = fullMask then wholePlaced q.id q.addr data info s
    else if (s.backingBale q.addr).isSome then s.modAsk q.id fun b => { b with backing := true } else s
  | .put data info =>
    let info := if q.why == .writeBack (q.addr / 128) && !info.testBit 11 then s.writeInfo q.addr else info
    wholePlaced q.id q.addr data info (pushWrite (.ask q.id) q.addr fullMask data info (s.regionFor q) s)
  | _ => s

/-- Give a request its entry. An open write to a line under reduction is refused instead (R172); a read that the cache can
now answer, or whose line is under reduction, is served there. -/
def grantEntry (q : Ask) (write : Bool) (s : State) : State :=
  if q.stage = .accepted then placeRead q (s.modAsk q.id fun b => { b with miss := true })
  else if write && !q.uncached && (s.redOn q.addr).isSome then refuseLater q.id s
  else if !write && !q.uncached && ((s.redOn q.addr).isSome || (s.cached q.addr).isSome) then serveHit q.id s
  else if write then grant q false (placeWrite q) s
  else grant q true (placeRead q) s

/-- An entry of a channel's queue is granted (R229–R232). A request that is refused, or served without an entry, leaves every tag as
it was. -/
def grantOne (c : Nat) (write : Bool) (s : State) : State :=
  match s.chosen c write with
  | none => syncWfq c write s
  | some q =>
    let s := syncWfq c write s
    let s' := grantEntry q write s
    if s'.freeEntries c write < s.freeEntries c write then
      let still := (s'.eligibles c write).any fun b => b.side.cls == q.side.cls
      serveAll (syncWfq c write (s'.setWfq c write ((s'.wfqOf c write).granted q.side.cls still (s'.cost q.side.cls))))
    else serveAll (syncWfq c write s')

/-- The grants of a channel's queue that can be made at once. -/
def grantAll (c : Nat) (write : Bool) (s : State) : State :=
  forEach (s.candidates c write) (fun _ s => grantOne c write s) s

/-! ### Expiry (R228, R235) -/

/-- A request's offer hold has run out. -/
def State.holdOver (s : State) (q : Ask) : Bool :=
  q.stage == .offered && q.fwd == 0 && !q.unitKind && s.elapsed q.arrived (s.ob 0x3000 1 * nsT)

/-- One expiry: counted in its class and its degradation step, or as a guarantee miss; QUEUE_FULL where no entry was free. -/
def expireAsk (q : Ask) (s : State) : State :=
  let s := s.bump (classIdx q.side.cls) 0x14
  let s := match q.tier with
    | 4 => degrade 1 s
    | 3 => degrade 2 s
    | 2 => degrade 3 s
    | _ => raiseNode Ev.guaranteeMiss 0 (s.bump 0x3000 0x0C)
  let write := match q.op with | .write _ _ => true | _ => false
  let c := (s.place q.addr).c
  let full := !farAddr q.addr && s.wantsEntry write q && s.freeEntries c write == 0
  let s := if full then raise Ev.queueFull c 0 s else s
  syncQueues (refuseLater q.id s)

/-- The queue a request waits for: its channel, and whether it is the write queue. -/
def State.queueOf (s : State) (q : Ask) : Nat × Bool :=
  ((s.place q.addr).c, match q.op with | .write _ _ => true | .put _ _ => true | _ => false)

/-- Every offer whose hold has run out; the grants that can be made are made first (R228). (DEDUCED, log 54) -/
def expireHolds (s : State) : State :=
  let over_ := s.path.asks.filter s.holdOver
  let s := forEach ((over_.filter fun q => !farAddr q.addr).map s.queueOf).eraseDups (fun k s => grantAll k.1 k.2 s) (serveAll s)
  serveAll (forEach over_ (fun q s =>
    match s.ask? q.id with
    | some b => if b.stage = .offered then expireAsk b s else s
    | none => s) s)

/-! ### Delivery (R220, R269, R270) -/

/-- The completions a port can take: the first undelivered request of each (port, stream), once finished. -/
def State.deliverable (s : State) (port : Port) : Option Ask :=
  s.path.asks.find? fun q => q.side.port == port && (match port with | .tile _ | .rt _ => true | _ => false) &&
    q.stage == .finished && !q.delivered && !q.internal &&
    (earlierAsks q.id s.path.asks).all fun b => !(b.sameStream q) || b.delivered

/-- The due time of a request has passed. -/
def State.isLate (s : State) (q : Ask) : Bool := q.due != 0 && decide (q.due - 1 < s.setNs)

/-- The status a completion leaves with: OK becomes OK_LATE after the due time (R220). -/
def lateStatus (q : Ask) (st : Nat) (s : State) : Nat × State :=
  if st = St.ok && s.isLate q then
    let s := match q.side.port with | .rt p => s.bump (rtIdx p) 7 | _ => s
    (St.okLate, raiseNode Ev.deadlineMissed q.side.cls
      (countIf breakwaterBank 5 1 (s.askCause q) (s.bump (classIdx q.side.cls) 0x16)))
  else (st, s)

/-- The origin tells the owning node that a completion has been delivered (R334). -/
def sendDone (q : Ask) (s : State) : State :=
  sendParcel q.owner { q.header q.owner s.me with kind := 4, len := 0, opcode := 0, due := 0, line := 0 } [] s

/-- A completion beat is taken by its port: the journal entry or forward-table entry goes when the rule allows (R269). -/
def deliver (port : Port) (s : State) : State :=
  match if s.portTakes port then s.deliverable port else none with
  | none => s
  | some q =>
    let (st, data) := q.result.getD (0, none)
    let (st, s) := lateStatus q st s
    let core := match port with | .tile _ => q.side.core | _ => 0
    let s := s.send (.completion port q.side.stream q.side.seq core st data)
    let s := sampleEnd 0 q.id 0 st (s.modAsk q.id fun b => { b with delivered := true })
    if q.fwd != 0 then dropAsk q.id (sendDone q s)
    else if q.journal then retire q.id s
    else dropAsk q.id s

end Sys2Proof.Machine
end

