-- ==== Sys2Proof/Machine/Requests.lean ====
section
/-!
DEFINITION. Open requests as commands (R163–R178, R217): reads, writes, widening reads, the atomic functions, contributions
and synchronisation operations, with the slice events of the cache and the open path's own events.
-/
namespace Sys2Proof.Machine

/-- The port a request enters on is one the silicon has. -/
def portPresent (p : Port) (s : State) : Bool := match p with
  | .tile t => decide (t < 64 * s.cfg.nstacks)
  | .rt p => decide (p < 8)
  | .headland h _ => decide (h < 4)
  | .unit _ => true

/-- A request for a line as its beat carries it: a 53-bit set address whose [6:0] are 0 (R217). -/
def lineRequest (q : Side) (a : Nat) (op : Op) (s : State) : Res :=
  present (portPresent q.port s) (arrive { q with rsvd := q.rsvd || a % 128 != 0 } (a % 2 ^ 53 / 128 * 128) op s)

/-! ### Reads, writes, widening reads -/

/-- OPEN_READ (R217). -/
def execOpenRead (q : Side) (a : Nat) (s : State) : Res := lineRequest q a .read s

/-- OPEN_WRITE (R217): 128 bytes and their mask. -/
def execOpenWrite (q : Side) (a mask data : Nat) (s : State) : Res :=
  lineRequest q a (.write (mask % 2 ^ 128) (data % 2 ^ 1024)) s

/-- OPEN_WIDEN (R148): feed line j under standing entry x. -/
def execOpenWiden (q : Side) (a x j : Nat) (s : State) : Res := lineRequest q a (.widen (x % 64) (j % 8)) s

/-! ### Atomics (R164) -/

/-- An atomic request with its function code. -/
def atomicRequest (f : Nat) (q : Side) (a offset : Nat) (wide fetch : Bool) (x y : Nat) (s : State) : Res :=
  lineRequest q a (.atomic f (offset % 128) wide fetch (x % 2 ^ 64) (y % 2 ^ 64)) s

def execAtomicSwap (q : Side) (a offset : Nat) (wide fetch : Bool) (x : Nat) (s : State) : Res :=
  atomicRequest 0 q a offset wide fetch x 0 s
def execAtomicCas (q : Side) (a offset : Nat) (wide fetch : Bool) (x y : Nat) (s : State) : Res :=
  atomicRequest 1 q a offset wide fetch x y s
def execAtomicAdd (q : Side) (a offset : Nat) (wide fetch : Bool) (x : Nat) (s : State) : Res :=
  atomicRequest 2 q a offset wide fetch x 0 s
def execAtomicAnd (q : Side) (a offset : Nat) (wide fetch : Bool) (x : Nat) (s : State) : Res :=
  atomicRequest 3 q a offset wide fetch x 0 s
def execAtomicOr (q : Side) (a offset : Nat) (wide fetch : Bool) (x : Nat) (s : State) : Res :=
  atomicRequest 4 q a offset wide fetch x 0 s
def execAtomicXor (q : Side) (a offset : Nat) (wide fetch : Bool) (x : Nat) (s : State) : Res :=
  atomicRequest 5 q a offset wide fetch x 0 s
def execAtomicSmin (q : Side) (a offset : Nat) (wide fetch : Bool) (x : Nat) (s : State) : Res :=
  atomicRequest 6 q a offset wide fetch x 0 s
def execAtomicSmax (q : Side) (a offset : Nat) (wide fetch : Bool) (x : Nat) (s : State) : Res :=
  atomicRequest 7 q a offset wide fetch x 0 s
def execAtomicUmin (q : Side) (a offset : Nat) (wide fetch : Bool) (x : Nat) (s : State) : Res :=
  atomicRequest 8 q a offset wide fetch x 0 s
def execAtomicUmax (q : Side) (a offset : Nat) (wide fetch : Bool) (x : Nat) (s : State) : Res :=
  atomicRequest 9 q a offset wide fetch x 0 s
def execAtomicFadd (q : Side) (a offset : Nat) (wide fetch : Bool) (x : Nat) (s : State) : Res :=
  atomicRequest 10 q a offset wide fetch x 0 s
def execAtomicFmin (q : Side) (a offset : Nat) (wide fetch : Bool) (x : Nat) (s : State) : Res :=
  atomicRequest 11 q a offset wide fetch x 0 s
def execAtomicFmax (q : Side) (a offset : Nat) (wide fetch : Bool) (x : Nat) (s : State) : Res :=
  atomicRequest 12 q a offset wide fetch x 0 s
def execAtomicIncwrap (q : Side) (a offset : Nat) (wide fetch : Bool) (x : Nat) (s : State) : Res :=
  atomicRequest 13 q a offset wide fetch x 0 s
/-- READ always fetches. -/
def execAtomicRead (q : Side) (a offset : Nat) (wide : Bool) (s : State) : Res := atomicRequest 14 q a offset wide true 0 0 s
/-- FLUSH never fetches. -/
def execAtomicFlush (q : Side) (a offset : Nat) (wide : Bool) (s : State) : Res := atomicRequest 15 q a offset wide false 0 0 s

/-! ### Reduce-into (R167–R173) -/

/-- REDUCE: a contribution. Fields are cut to their widths. -/
def execReduce (q : Side) (a : Nat) (w : RedWord) (data : Nat) (s : State) : Res :=
  lineRequest q a (.reduce (redOf (redWord { w with
    function := w.function % 4, type := w.type % 4, tag := w.tag % 256, index := w.index % 4096, count := w.count % 4096
    object := w.object % 2 ^ 17 })) (data % 2 ^ 1024)) s

/-- CONTRIBUTION_APPLY: a lane applies the contributions whose turn it is, for the reduction on a line. -/
def execContributionApply (a : Nat) (s : State) : Res := .next (serveAll (contribute a s))

/-- REDUCE_TIMEOUT. -/
def execReduceTimeout (s : State) : Res := .next (serveAll (reduceTimeouts s))

/-- CLOSED_RECORD_EXPIRY. -/
def execClosedRecordExpiry (s : State) : Res := .next (expireRecords s)

/-! ### Synchronisation operations (R175) -/

/-- A SYNC request: its object has 17 bits, its operand 32. -/
def syncRequest (op : Nat) (q : Side) (obj operand : Nat) (s : State) : Res :=
  present (portPresent q.port s) (arrive q 0 (.sync op (obj % 2 ^ 17) (operand % 2 ^ 32)) s)

def execSyncRead (q : Side) (obj : Nat) (s : State) : Res := syncRequest 0 q obj 0 s
def execSyncSet (q : Side) (obj value : Nat) (s : State) : Res := syncRequest 1 q obj value s
def execSyncAdd (q : Side) (obj addend : Nat) (s : State) : Res := syncRequest 2 q obj addend s
def execSyncSignal (q : Side) (obj addend : Nat) (s : State) : Res := syncRequest 3 q obj addend s
def execSyncWait (q : Side) (obj threshold : Nat) (s : State) : Res := syncRequest 4 q obj threshold s
def execSyncReset (q : Side) (obj : Nat) (s : State) : Res := syncRequest 5 q obj 0 s

/-- SYNC_WAIT_TIMEOUT. -/
def execSyncWaitTimeout (s : State) : Res := .next (serveAll (syncTimeouts s))

/-- 0x2540+g:n: as SET; a Secure object asks for an owner session (R174, R182). -/
def syncObjectHome (o value : Nat) (owner : Bool) : Home := fun _ s =>
  if s.syncSecure o && !owner then .refused St.denied 0 (raiseNode Ev.secureWriteRefused 0 s)
  else .done (putSync o (value % 2 ^ 32) s)

/-- SYNC_OBJECT_WRITE. -/
def execSyncObjectWrite (r : Req) (o value : Nat) (s : State) : Res :=
  .next (dictWrite r (0x2540 + o % 16384 / 256) (o % 256) (leBytes 8 value) (syncObjectHome (o % 16384) value (s.isOwner r)) s)

/-! ### The cache (R158, R159, R161, R162) -/

/-- The line a fill allocates: as it stands after every write placed since (R193), or as it was fetched. -/
def State.fillLine (s : State) (a : Nat) (l : Nat × Nat) : Nat × Nat :=
  match s.lineNow a with
  | some n => if n.2.testBit 11 then l else n
  | none => l

/-- Take the oldest fill, if its line can be allocated: the waiting request is served (R157, R158). A poisoned line is not
allocated. (DEDUCED, log 34) -/
def missFill (s : State) : State :=
  match s.cache.fills with
  | [] => s
  | (id, line) :: rest =>
    let take (s : State) : State := s.setCache { s.cache with fills := rest }
    match s.ask? id, line with
    | none, _ => take s
    | some q, none =>
      (match q.op with
        | .reduce _ _ => redFill q.addr none (take s)
        | _ => finish id St.poisoned none (take s))
    | some q, some l =>
      (match q.op with
        | .reduce _ _ => redFill q.addr (some l) (take s)
        | .atomic .. =>
          let n := s.fillLine q.addr l
          let (ok, s) := tryInstall q.addr anyWay n.1 n.2 s
          if ok then (take s).modAsk id fun b => { b with miss := false } else s
        | _ =>
          if rulePolicy q.rule = 0 || l.2.testBit 11 then finishRead id l (take s)
          else
            let n := s.fillLine q.addr l
            let (ok, s) := tryInstall q.addr (ruleMask q.rule) n.1 n.2 s
            if ok then finishRead id l (take s) else s)

/-- CACHE_MISS_FILL. -/
def execCacheMissFill (s : State) : Res := .next (serveAll (missFill s))

/-- WRITEBACK_AGE_EXPIRY (R159). -/
def execWritebackAgeExpiry (s : State) : Res :=
  .next (writeBackAll (fun w => s.elapsed w.modified (s.ob 0x2500 5 * 1000 * nsT)) s)

/-- 0x2500:06 (R159): completes once every line now dirty has been written back. -/
def flushAllHome : Home := fun who s =>
  let l := s.dirtyLines
  if l.isEmpty then .done s
  else .wait (writeBackAll (fun _ => true) (s.setCache { s.cache with flushAll := s.cache.flushAll ++ [(who, l)] }))

/-- FLUSH_ALL. -/
def execFlushAll (r : Req) (s : State) : Res := .next (dictWrite r 0x2500 6 [1] flushAllHome s)

/-- The oldest write-back of slice x that has ended and has not been taken. -/
def State.endedBack (s : State) (x : Nat) : Option Ask :=
  s.path.asks.find? fun q => q.stage == .finished && !q.delivered && sliceOf q.addr == x && q.internal &&
    q.why == .writeBack (q.addr / 128)

/-- A write-back has been accepted by its channel: its line counts as clean, and what waited for it goes on (R159, R171). One
that could not be placed leaves its line dirty. -/
def takeWriteBack (x : Nat) (s : State) : State :=
  match s.endedBack x with
  | none => s
  | some q =>
    let s := retire q.id (s.modAsk q.id fun b => { b with delivered := true })
    let data := match q.op with | .put d _ => d | _ => 0
    match q.result with
    | some (0, _) => endClose q.addr data (writtenBack (q.addr / 128) data s)
    | _ => match s.cached q.addr with
      | some (k, w) => s.setWay k (some { w with writing := false })
      | none => s

/-- WRITE_BACK_ACCEPTED. -/
def execWriteBackAccepted (x : Nat) (s : State) : Res := present (decide (x < 16)) (serveAll (retryAllocs (takeWriteBack x s)))

/-- Set a slice's state, and its bit of 0x2500:01. -/
def setSlice (x v : Nat) (s : State) : State :=
  (s.setOb (0x2510 + x) 1 v).setOb 0x2500 1 (setBit x (v == 0) (s.ob 0x2500 1))

/-- The ways of an array. -/
def State.arrayOf (s : State) (p : Nat) : List (Nat × CWay) :=
  s.cache.ways.filterMap fun k => if k.1 / (16 * 2048) = p then k.2.map fun w => (k.1, w) else none

/-- Drop everything an array holds. -/
def clearArray (p : Nat) (s : State) : State :=
  s.setCache { s.cache with ways := s.cache.ways.filter fun k => k.1 / (16 * 2048) != p }

/-- A pair is out (R162). -/
def pairOut (x : Nat) (s : State) : State :=
  let y := partnerOf x
  let inPair (a : Nat) : Bool := sliceOf a == x || sliceOf a == y
  let dirty := ((s.arrayOf x ++ s.arrayOf y).filter fun k => k.2.kind != .clean).map fun k => k.2.line
  let s := clearArray x (clearArray y s)
  let s := setSlice x 4 (setSlice y 4 (raise Ev.slicePairLost x 0 s))
  let s := s.setCache { s.cache with rejoin := s.cache.rejoin.filter fun z => z != x && z != y }
  let s := forEach dirty.eraseDups (fun l s => syncDirty (128 * l) (poisonWrite (128 * l) s)) s
  let s := forEach (s.cache.reds.filter fun r => inPair r.addr) breakRed s
  let held := s.path.asks.filter fun q => q.stage == .accepted && !farAddr q.addr && inPair q.addr &&
    (match q.op with | .atomic .. => true | .reduce _ _ => true | _ => false)
  forEach held (fun q s => finish q.id St.poisoned none s) s

/-- What is still only offered to a slice that is being taken over is refused RETRY_LATER (R161). -/
def refuseHeld (x : Nat) (s : State) : State :=
  forEach (s.path.asks.filter fun q => q.stage == .offered && q.fwd == 0 && sliceOf q.addr == x && s.sliceHeld q) (fun q s => sliceLater x q.id s) s

/-- A slice faults (R161, R162): its clean copies are lost; its dirty lines stand in their mirrors. -/
def sliceFault (x : Nat) (s : State) : State :=
  match s.sliceState x with
  | 0 =>
    let s := raise Ev.sliceFault x 0 s
    if s.sliceState (partnerOf x) = 0 then refuseHeld x (setSlice x 1 (clearArray x s)) else pairOut x s
  | 3 => setSlice x 2 (raise Ev.sliceFault x 0 (s.setCache { s.cache with rejoin := s.cache.rejoin.filter fun z => z != x }))
  | _ => s

/-- The partner completes a takeover (R161): mirrors become dirty lines, and every dirty line of both slices is written back.
A slice whose reset and self-test have passed is in shadow state; otherwise it stays taken over. (DEDUCED, log 34) -/
def sliceTaken (x : Nat) (repaired : Bool) (s : State) : State :=
  if s.sliceState x != 1 then s
  else
    let p := partnerOf x
    let s := raise Ev.sliceTakenOver x 0 (setSlice x (if repaired then 3 else 2) s)
    let s := forEach (s.arrayOf p) (fun k s =>
      if k.2.kind = .mirror then s.setWay k.1 (some { k.2 with kind := .dirty }) else s) s
    writeBackAll (fun w => sliceOf (128 * w.line) == x || sliceOf (128 * w.line) == p) s

/-- At its tide a slice joins: its partner hands back its sets, and mirroring resumes (R161, R434). -/
def joinSlice (x : Nat) (s : State) : State :=
  let p := partnerOf x
  let there (k : Nat) : Nat := k - p * (16 * 2048) + x * (16 * 2048)
  let both := s.sliceState p == 0
  let s := raise Ev.sliceRejoined x 0 (setSlice x 0 s)
  if !both then s
  else forEach (s.arrayOf p) (fun k s =>
    if sliceOf (128 * k.2.line) = x then
      (s.setWay (there k.1) (some k.2)).setWay k.1 (if k.2.kind = .dirty then some { k.2 with kind := .mirror } else none)
    else if k.2.kind = .dirty then s.setWay (there k.1) (some { k.2 with kind := .mirror })
    else s) s

/-- SLICE_TAKEN_OVER. -/
def execSliceTakenOver (x : Nat) (repaired : Bool) (s : State) : Res :=
  present (decide (x < 16)) (serveAll (sliceTaken x repaired s))

/-- 0x2510+x:08 (R434): DENIED unless the slice is in shadow state or its pair is out. -/
def sliceRejoinHome (x : Nat) : Home := fun _ s =>
  if s.sliceState x = 3 || s.sliceState x = 4 then
    .done ((s.setCache { s.cache with rejoin := (s.cache.rejoin.filter fun z => z != x) ++ [x] }).armRejoin (0x500 + x))
  else .denied s

/-- SLICE_REJOIN. -/
def execSliceRejoin (r : Req) (x : Nat) (s : State) : Res :=
  .next (dictWrite r (0x2510 + x % 16) 8 [1] (sliceRejoinHome (x % 16)) s)

/-! ### The open path's own events -/

/-- OFFER_HOLD_EXPIRY (R228). -/
def execOfferHoldExpiry (s : State) : Res := .next (expireHolds s)

/-- QUEUE_ENTRY_GRANT (R229): an entry of a channel's read or write queue. -/
def execQueueEntryGrant (c : Nat) (write : Bool) (s : State) : Res := present (decide (c < s.channels)) (grantOne c write s)

/-- COMPLETION_DELIVERY (R269). -/
def execCompletionDelivery (port : Port) (s : State) : Res := present (portPresent port s) (deliver port s)

/-- The window of a partition has run its length, or its entry has just taken effect (R225). -/
def State.windowDue (s : State) (r : Nat) : Bool :=
  let w := s.regWindow r
  s.regEnabled r && (if w.running then decide (w.start + s.ob (regIdx r) 2 ≤ s.frame) else w.armed)

/-- REGULATOR_WINDOW_START (R225). -/
def execRegulatorWindowStart (n : Nat) (s : State) : Res :=
  present (decide (n < 64)) (if s.windowDue n then startWindow n (!(s.regWindow n).running) s else s)

/-- A change of a port's filtered panic input is taken, unless one was taken less than 10 µs before (R233, R551). A level that stands
through a warm reset takes force again when it is taken again. (DEDUCED, log 58) -/
def takePanic (p level : Nat) (s : State) : State :=
  let x := s.panicState p
  let old := s.panicIn p
  if !s.panicFree x || (level = s.ob (rtIdx p) 3 && level = x.level) then s
  else
    let s := s.setOb (rtIdx p) 3 level
    let stuck := s.ob (rtIdx p) 4 == 2
    let x : PanicState :=
      { level := level, changedAt := some s.now
        since := if old = 0 then s.now else x.since, zeroSince := if level = 0 then s.now else x.zeroSince }
    let s := s.setPanic p x
    if stuck then s
    else
      let s := s.setOb (rtIdx p) 4 (if level = 0 then 0 else 1)
      if old = 0 && level != 0 then s.bump (rtIdx p) 5 else s

/-- PANIC_INPUT_TAKEN. -/
def execPanicInputTaken (p level : Nat) (s : State) : Res := present (decide (p < 8)) (takePanic p (level % 4) s)

/-- PANIC_STUCK (R234). -/
def execPanicStuck (p : Nat) (s : State) : Res :=
  present (decide (p < 8))
    (if s.ob (rtIdx p) 4 != 2 && s.panicIn p != 0 && s.elapsed (s.panicState p).since (s.ob 0x3000 4 * 1000 * nsT) then
      raise Ev.panicStuck p 0 ((s.setOb (rtIdx p) 4 2).bump (rtIdx p) 6)
    else s)

/-- PANIC_RELEASED (R234): the filtered input has read 0b00 for 1 µs. -/
def execPanicReleased (p : Nat) (s : State) : Res :=
  present (decide (p < 8))
    (if s.ob (rtIdx p) 4 = 2 && s.ob (rtIdx p) 3 = 0 && s.elapsed (s.panicState p).zeroSince (1000 * nsT) then
      raise Ev.panicReleased p 0 (s.setOb (rtIdx p) 4 0)
    else s)

/-- DEGRADE_STEP_END (R235). -/
def execDegradeStepEnd (n : Nat) (s : State) : Res :=
  present (decide (1 ≤ n) && decide (n ≤ 5))
    (let last := look 0 n s.path.degrade
    if (s.ob 0x3000 6).testBit (n - 1) && decide (last + 64 ≤ s.frame) then
      let m := setBit (n - 1) false (s.ob 0x3000 6)
      let s := s.setOb 0x3000 6 m
      if m = 0 then raiseNode Ev.degradeCleared 0 s else s
    else s)

/-- The state that failed its check goes to its start value (R237, R238): 0 the meter of class n, 1 its shaper, 2 partition
n's window, 3 the tags of queue n. -/
def resetQos (kind n : Nat) (s : State) : State :=
  match kind with
  | 0 => fillMeter n s
  | 1 => setShaper n 0 s
  | 2 => stopWindow n ((s.setOb (regIdx n) 5 0).setOb (regIdx n) 6 0)
  | _ => s.setPath { s.path with wfq := put Wfq.reset n .reset s.path.wfq }

/-- QOS_STATE_FAULT (R238). -/
def execQosStateFault (kind n : Nat) (s : State) : Res :=
  .next (raiseNode Ev.qosStateFault 0 ((resetQos (kind % 4) n s).bump 0x3000 0x0D))

end Sys2Proof.Machine
end

