-- ==== Sys2Proof/Machine/Streams.lean ====
section
/-!
DEFINITION. Streams at work (chapter 04): address generators, the decoding of stream programs, items, credits, the feed and
drain buffers, fences, and SIGNALs.
-/
namespace Sys2Proof.Machine

/-! ### Numbers and objects -/

/-- The engine of a stream, its stream within the engine, and the engine's objects (R90, R123). -/
def engineOf (n : Nat) : Nat := n / 64
def engineIdx (e : Nat) : Nat := 0x5000 + e

/-- The sheaf an engine belongs to: e = 16·s + 2·w + j (R16). -/
def sheafOfEngine (e : Nat) : Nat := e / 2

/-- Block-internal unit numbers of the stream engines. -/
def engineUnit (n : Nat) : Nat := 0x40 + engineOf n

def State.stream? (s : State) (n : Nat) : Option Stream := (s.feeds.streams.find? fun p => p.1 == n).map (·.2)
def State.oldStream? (s : State) (n : Nat) : Option Stream := (s.feeds.old.find? fun p => p.1 == n).map (·.2)
def State.modStream (s : State) (n : Nat) (f : Stream → Stream) : State :=
  s.setFeeds { s.feeds with streams := s.feeds.streams.map fun p => if p.1 == n then (p.1, f p.2) else p }
def State.modOld (s : State) (n : Nat) (f : Stream → Stream) : State :=
  s.setFeeds { s.feeds with old := s.feeds.old.map fun p => if p.1 == n then (p.1, f p.2) else p }

/-- Streams of the node, old ones first. -/
def State.allStreams (s : State) : List (Nat × Stream) := s.feeds.old ++ s.feeds.streams

/-- Count an up beat that is discarded (R106). -/
def discardBeat (t : Nat) (s : State) : State := s.setOb 0x2321 t ((s.ob 0x2321 t + 256) % 2 ^ 32)

/-! ### Address generators (R95) -/

/-- C₀·C₁·C₂·C₃. -/
def Gen.size (g : Gen) : Nat := g.counts.foldl (· * ·) 1

/-- Σ pₖ·Sₖ for the digits of a position. -/
def digitSum : Nat → List Nat → List Int → Int
  | p, c :: cs, d :: ds => ((p % max 1 c : Nat) : Int) * d + digitSum (p / max 1 c) cs ds
  | _, _, _ => 0

/-- The address i items on, and the generator after i items. -/
def Gen.addrAt (g : Gen) (i : Nat) : Nat :=
  (((g.base : Int) + 128 * digitSum ((g.p + i) % max 1 g.size) g.counts g.strides) % (2 ^ 53 : Int)).toNat
def Gen.advance (g : Gen) (i : Nat) : Gen := { g with p := (g.p + i) % max 1 g.size }

/-! ### Decoding (R94) -/

/-- Fields of an instruction. -/
def insOp (w : Nat) : Nat := bits 127 120 w
def insGen (w : Nat) : Nat := bits 113 112 w
def insObject (w : Nat) : Nat := bits 112 96 w

/-- Change generator g. -/
def Cursor.modGen (c : Cursor) (g : Nat) (f : Gen → Gen) : Cursor :=
  { c with gens := c.gens.set g (f (c.gens.getD g .reset)) }

/-- Go on at the next instruction. -/
def Cursor.next (c : Cursor) : Cursor := { c with pc := c.pc + 1 }

/-- REPEAT: jump back while jumps are left, then fall through; a count of 0 repeats without end. -/
def Cursor.jump (c : Cursor) (target count : Nat) : Cursor :=
  if count = 0 then { c with pc := target }
  else match c.loops with
    | (k, left) :: rest =>
      if k = c.pc then
        (if left = 0 then { c.next with loops := rest } else { c with pc := target, loops := (k, left - 1) :: rest })
      else { c with pc := target, loops := (c.pc, count - 1) :: c.loops }
    | [] => { c with pc := target, loops := [(c.pc, count - 1)] }

/-- What one instruction does to the cursor, and the items it yields (R94–R96). WAIT, SIGNAL and the reading of a mask line
act beside it. -/
def Cursor.step (c : Cursor) (w : Nat) : Cursor × Option DRun :=
  let g := insGen w
  match insOp w with
  | 1 => ((c.modGen g fun x => { x with base := bits 52 0 w, p := 0 }).next, none)
  | 2 =>
    let k := bits 109 108 w
    let set (x : Gen) : Gen :=
      { x with counts := x.counts.set k (bits 95 80 w + 1), strides := x.strides.set k (signed 32 (bits 63 32 w)), p := 0 }
    ((c.modGen g set).next, none)
  | 3 =>
    let n := bits 23 0 w + 1
    let masked := w.testBit 111 && c.mask != 0
    let run : DRun := { skip := false, count := n, gen := c.gens.getD g .reset, mask := if masked then c.mask else 0
                        maskRows := c.maskRows, maskFirst := if masked then c.maskItems else 0, fmt := c.fmt
                        instr := c.pc, gone := 0 }
    (({ c with maskItems := if masked then c.maskItems + n else c.maskItems }.modGen g fun x => x.advance n).next, some run)
  | 4 => (c.next, some ⟨true, bits 23 0 w + 1, .reset, 0, 0, 0, none, c.pc, 0⟩)
  | 5 => ({ c with mask := c.mask + 1, maskRows := bits 95 80 w + 1, maskItems := 0 }.next, none)
  | 6 => (c.next, none)
  | 7 => (c.next, none)
  | 8 => (c.jump (bits 111 96 w) (bits 15 0 w), none)
  | 9 => ({ c with fmt := if w.testBit 104 then some (bits 103 96 w) else none }.next, none)
  | _ => ({ c with ended := true }, none)

/-- The cursor of a stream at its start. -/
def Cursor.start (d : StreamDesc) : Cursor :=
  { pc := 0, loops := [], gens := List.replicate 4 .reset, mask := 0, maskRows := 1, maskItems := 0
    fmt := if d.formatted then some d.entry else none, ended := false }

/-- The instructions of an engine's active program. -/
def State.program (s : State) (e : Nat) : Program :=
  match s.plans.active with
  | some p => ((p.programs.find? fun x => x.1 == e).map (·.2)).getD ⟨[], []⟩
  | none => ⟨[], []⟩

/-- The instruction a stream decodes next. -/
def State.instrOf (s : State) (n : Nat) (t : Stream) : Nat := (s.program (engineOf n)).instrs.getD (t.desc.first + t.cur.pc) 0

/-- Items decoded and not issued. -/
def Stream.ahead (t : Stream) : Nat := (t.runs.map (·.count)).sum

/-- Whether a stream may decode (R97): running, not past a WAIT, and at most 1,024 own slots ahead. -/
def Stream.mayDecode (t : Stream) : Bool :=
  !t.fenced && t.waiting.isNone && !t.cur.ended && decide (t.pos + t.ahead < t.sigma + 1024)

/-! ### Items (R91, R100) -/

/-- An item: nothing to move, or a line at an address under a format and perhaps a mask. -/
structure LineItem where
  addr : Nat
  fmt : Option Nat
  /-- Mask number (0 for none) and the bit that governs the item; 1,024 when past the mask. -/
  mask : Nat
  maskBit : Nat
  /-- The instruction index of its MOVE and its place within that MOVE (R497). -/
  instr : Nat
  place : Nat
  deriving DecidableEq, Repr

/-- The i-th line item of a run. -/
def DRun.lineAt (r : DRun) (i : Nat) : LineItem :=
  ⟨r.gen.addrAt i, r.fmt, r.mask, min 1024 ((r.maskFirst + i) / max 1 r.maskRows), r.instr, r.gone + i⟩

/-- What stands at the head of the items: none when nothing is decoded; `some none` for a skip. -/
def Stream.head (t : Stream) : Option (Option LineItem) :=
  match t.runs with
  | r :: _ => some (if r.skip then none else some (r.lineAt 0))
  | [] => if t.cur.ended then some none else none

/-- Drop k items of the first run. -/
def DRun.drop (r : DRun) (k : Nat) : DRun :=
  if r.skip then { r with count := r.count - k }
  else { r with count := r.count - k, gen := r.gen.advance k, maskFirst := r.maskFirst + k, gone := r.gone + k }

/-- Pass the item at the head. -/
def Stream.pop (t : Stream) : Stream :=
  match t.runs with
  | r :: rs => { t with pos := t.pos + 1, runs := if r.count ≤ 1 then rs else r.drop 1 :: rs }
  | [] => { t with pos := t.pos + 1 }

/-- Overdue skips are dropped (R100). -/
def dropSkips : List DRun → Nat → Nat → List DRun × Nat
  | [], pos, _ => ([], pos)
  | r :: rs, pos, sigma =>
    if !r.skip || sigma ≤ pos then (r :: rs, pos)
    else if r.count ≤ sigma - pos then dropSkips rs (pos + r.count) sigma
    else (r.drop (sigma - pos) :: rs, sigma)
def Stream.dropSkips (t : Stream) : Stream :=
  let r := Machine.dropSkips t.runs t.pos t.sigma
  { t with runs := r.1, pos := if r.1.isEmpty && t.cur.ended then max r.2 t.sigma else r.2 }

/-- Runs that decoding would yield from a cursor, without regard to WAITs, until `want` items are there. -/
def peekRuns (instr : Nat → Nat) : Nat → Cursor → Nat → List DRun
  | 0, _, _ => []
  | fuel + 1, c, want =>
    if want = 0 || c.ended then []
    else match c.step (instr c.pc) with
      | (c', some r) => r :: peekRuns instr fuel c' (want - r.count)
      | (c', none) => peekRuns instr fuel c' want

/-- Line items among the first k items of some runs. -/
def linesIn : List DRun → Nat → Nat
  | [], _ => 0
  | r :: rs, k => (if r.skip then 0 else min k r.count) + linesIn rs (k - r.count)

/-- The lag of a stream: the line items among positions pos to sigma − 1 (R100). -/
def Stream.lagNow (t : Stream) (instr : Nat → Nat) : Nat :=
  let due := t.sigma - t.pos
  let more := due - t.ahead
  linesIn (t.runs ++ peekRuns instr ((more + 1) * (t.desc.len + 1)) t.cur more) due

/-- The end of an own slot (R100): the next slot's number, and the lag. -/
def endOwnSlot (n : Nat) (s : State) : State :=
  match s.stream? n with
  | none => s
  | some t =>
    let t := { t with sigma := t.sigma + 1 }
    let p := s.program (engineOf n)
    let lag := t.lagNow fun k => p.instrs.getD (t.desc.first + k) 0
    let t := { t with lag := lag, lastIssue := if lag = 0 then s.now else t.lastIssue }
    let s := s.modStream n fun _ => t
    s.setOb 0x2202 5 ((s.feeds.streams.map fun p => p.2.lag).foldl max 0)

/-- The line item of a given number among those decoded and not issued. -/
def findLine : List DRun → Nat → Option LineItem
  | [], _ => none
  | r :: rs, k => if r.skip then findLine rs k else if k < r.count then some (r.lineAt k) else findLine rs (k - r.count)
def Stream.lineItem (t : Stream) (num : Nat) : Option LineItem :=
  if num < t.issued then none else findLine t.runs (num - t.issued)

/-! ### Formats -/

/-- The format entry of index x in force, and its n_w (R92). -/
def State.formatEntry (s : State) (x : Nat) : FormatEntry := s.plans.formats.getD x ⟨0, 0, 0, 0, 0, 0, [], 0⟩
def State.nwOf (s : State) (f : Option Nat) : Nat := match f with | some x => (s.formatEntry x).nw | none => 1

/-! ### Masks (R96) -/

/-- Whether an item is masked, given the masks as they have been read. -/
def Stream.isMasked (t : Stream) (i : LineItem) : Bool :=
  i.mask != 0 && decide (i.maskBit < 1024) && match t.masks.find? fun m => m.num == i.mask with
    | some m => !m.late && match m.line with | some d => !d.testBit i.maskBit | none => false
    | none => false

/-- At the slot of the first item a mask governs, a mask line that is not there makes every item present (R96). -/
def lateMask (n : Nat) (i : LineItem) (s : State) : State :=
  match s.stream? n with
  | none => s
  | some t =>
    match t.masks.find? fun m => m.num == i.mask with
    | some m =>
      if i.mask = 0 || m.late || m.line.isSome then s
      else
        let s := s.modStream n fun t => { t with masks := t.masks.map fun k => if k.num == i.mask then { k with late := true } else k }
        raiseCtx Ev.maskLate (engineOf n) t.desc.context n s
    | none => s

/-! ### SIGNALs (R109, R173) -/

/-- Effect of the pending SIGNALs of a stream whose lines have all landed or been written, in program order. -/
def fireSignals (n : Nat) (t : Stream) (s : State) : Stream × State :=
  let due := t.signals.filter fun g => decide (g.after ≤ t.landed)
  let s := forEach due (fun g s => signalObject (engineUnit n) g.object g.addend t.desc.context t.desc.world false s) s
  ({ t with signals := t.signals.filter fun g => !decide (g.after ≤ t.landed) }, s)

/-- The same for the stream as the node holds it, in either list. -/
def fire (old : Bool) (n : Nat) (s : State) : State :=
  match if old then s.oldStream? n else s.stream? n with
  | none => s
  | some t =>
    let r := fireSignals n t s
    if old then r.2.modOld n fun x => { x with signals := r.1.signals } else r.2.modStream n fun x => { x with signals := r.1.signals }

/-! ### Feeding (R101–R111, R119) -/

/-- FEED beats for consecutive feed lines from a ring position: address of the even position, and the halves. (DEDUCED, log 57) -/
def feedBeats (base size : Nat) : Nat → List Nat → List (Nat × Option Nat × Option Nat)
  | _, [] => []
  | j, [d] => if j % 2 = 1 then [(base + 128 * (j - 1), none, some d)] else [(base + 128 * j, some d, none)]
  | j, d :: e :: rest =>
    if j % 2 = 1 then (base + 128 * (j - 1), none, some d) :: feedBeats base size ((j + 1) % size) (e :: rest)
    else (base + 128 * j, some d, some e) :: feedBeats base size ((j + 2) % size) rest

/-- Send the beats of a line, the fence bit on the last when a SIGNAL follows. (DEDUCED, log 57) -/
def sendBeats (n : Nat) (d : StreamDesc) (poison fence : Bool) : List (Nat × Option Nat × Option Nat) → State → State
  | [], s => s
  | [b], s => s.send (.feed d.port n b.1 b.2.1 b.2.2 poison fence)
  | b :: rest, s => sendBeats n d poison fence rest (s.send (.feed d.port n b.1 b.2.1 b.2.2 poison false))

/-- Ring size of a feed stream. -/
def ringSize (d : StreamDesc) : Nat := 2 ^ d.ringLog2

/-- The fence bit goes out for line items before `num`, when a SIGNAL waits for exactly them. -/
def Stream.needsFence (t : Stream) (num : Nat) : Bool := t.signals.any fun g => g.after == num && !g.sent
def Stream.markFence (t : Stream) (num now : Nat) : Stream :=
  { t with signals := t.signals.map fun g => if g.after == num then { g with sent := true } else g
           fences := t.fences ++ [(num, now)] }

/-- Feed lines go out in stream order as soon as they are there (R108); a masked line sends no beat (R112), but for the fence bit of a
SIGNAL behind it, which a FEED beat with no valid half carries at its ring position. (DESIGN CHOICE, log 32) A poisoned line is counted
as it is fed (R119); it is the last to go where it fences its context, and then the answer says so (R117). When a beat leaves among those
of other kinds is timing. (DESIGN CHOICE, log 57) -/
def pumpFeed (n : Nat) : Nat → Stream → State → Stream × State × Bool
  | 0, t, s => (t, s, false)
  | k + 1, t, s =>
    match t.feed with
    | [] => (t, s, false)
    | f :: rest =>
      match f.lines with
      | none => (t, s, false)
      | some ls =>
        let t := { t with feed := rest, fed := if f.masked then t.fed else (f.ring + f.n) % ringSize t.desc }
        let fence := t.needsFence (f.num + 1)
        let e := engineIdx (engineOf n)
        let s := if f.masked then (if fence then s.send (.feed t.desc.port n (t.desc.ringBase + 128 * (f.ring / 2 * 2)) none none false true)
            else s)
          else
            let ls := if f.poisoned then List.replicate f.n 0 else ls
            sendBeats n t.desc f.poisoned fence (feedBeats t.desc.ringBase (ringSize t.desc) f.ring ls)
              (countIf (engineBank (engineOf n)) 0 f.n (s.planCause n f.addr) (s.bumpBy e 2 f.n))
        let s := sampleEnd 1 n f.num (if f.poisoned then St.poisoned else St.ok) s
        let t := if fence then t.markFence (f.num + 1) s.now else t
        let s := if f.poisoned then raiseCtx Ev.poisonFed (engineOf n) t.desc.context f.addr
            (countIf (engineBank (engineOf n)) 7 1 (s.planCause n f.addr) (s.bump e 6))
          else s
        if f.poisoned && t.desc.fencePoison then (t, s, true) else pumpFeed n k t s

/-- A SIGNAL whose last line item has been fed without a fence bit: a beat with no valid half carries it. -/
def lateFence (n : Nat) (s : State) : State :=
  match s.stream? n with
  | none => s
  | some t =>
    let fed := t.issued - t.feed.length
    match t.signals.find? fun g => !g.sent && decide (t.landed < g.after) && decide (g.after ≤ fed) with
    | none => s
    | some g =>
      let s := s.send (.feed t.desc.port n (t.desc.ringBase + 128 * (t.ring / 2 * 2)) none none false true)
      s.modStream n fun t => t.markFence g.after s.now

/-- Feed lines of an engine that hold or have reserved feed-buffer space (R103). -/
def State.feedHeld (s : State) (e : Nat) (arrived : Bool) : Nat :=
  ((s.allStreams.filter fun p => engineOf p.1 == e).map fun p =>
    ((p.2.feed.filter fun f => !f.masked && (!arrived || f.lines.isSome)).map (·.n)).sum).sum

/-- Something of a stream of an old plan is still to come: a line, a LANDED, a SIGNAL (R115). -/
def Stream.pending (t : Stream) : Bool := !(t.signals.isEmpty && t.fences.isEmpty && t.feed.isEmpty && t.drain.isEmpty)

/-- After the first frame of a plan, the old plan's streams are kept only while something of theirs is still to come (R78, R115). -/
def sweepOld (s : State) : State :=
  if s.plans.retiring.isSome then s else s.setFeeds { s.feeds with old := s.feeds.old.filter fun p => p.2.pending }

/-! ### Drains (R99, R102, R143) -/

/-- Whether a drain line has completed OK: issued, its journal entry finished, its escape writes completed. -/
def DrainLine.isDone (d : DrainLine) (s : State) : Bool :=
  d.unfinished.isEmpty && match d.ask with
    | some id => (match s.ask? id with | some q => q.stage == .finished | none => true)
    | none => false

/-- Drain lines that have completed OK leave in order; SIGNALs behind them take effect (R109). -/
def settleDrain (old : Bool) (n : Nat) (s : State) : State :=
  match if old then s.oldStream? n else s.stream? n with
  | none => s
  | some t =>
    if !t.desc.drain then s
    else
      let done := (t.drain.takeWhile fun d => d.isDone s).length
      let upd (t : Stream) : Stream := { t with drain := t.drain.drop done, landed := t.landed + done }
      if done = 0 then s else sweepOld (fire old n (if old then s.modOld n upd else s.modStream n upd))

/-! ### Fences (R117, R118) -/

/-- The streams of a context of the active plan. -/
def State.streamsOf (s : State) (ctx : Nat) : List (Nat × Stream) := s.allStreams.filter fun p => p.2.desc.context == ctx

/-- The position a FENCED beat carries (R105). -/
def Stream.fencePosition (t : Stream) : Nat :=
  if t.desc.drain then t.drained % 2 ^ 32 else t.fed

/-- What a fence leaves of a stream: nothing more issues, nothing undelivered is fed, no SIGNAL takes effect. -/
def Stream.fence (t : Stream) : Stream :=
  { t with fenced := true, waiting := none, watched := none, signals := [], feed := [], collected := [], fences := []
           drain := t.drain.filter fun d => d.ask.isSome, runs := [] }

/-- The escape slots of drain lines that a fence discards are no longer outstanding (R147). -/
def dropEscapes (t : Stream) (s : State) : State :=
  forEach (t.drain.filterMap fun d => if d.ask.isNone then d.pool else none)
    (fun r s => s.setFeeds { s.feeds with escapesOut := alter 0 r (fun n => n - 1) s.feeds.escapesOut }) s

/-- An accepted request of a port that has not reached its effect point (R269). Staged contributions are the reductions' own (R173). -/
def State.abortable (s : State) (q : Ask) : Bool :=
  q.stage == .accepted && q.journal && !q.unitKind && match q.op with
    | .read => true
    | .widen _ _ => true
    | .write _ _ => s.path.chans.any fun c => c.2.wq.any fun w => w.partial_ && w.who == .ask q.id
    | .put _ _ => false
    | .reduce _ _ => false
    | _ => q.applied.isNone

/-- The accepted journal entries of a fenced context that have not reached their effect point complete ABORTED, and leave the queues they
stand in (R28). (DEDUCED, log 64) -/
def abortAsks (ctx : Nat) (s : State) : State :=
  let ids := (s.path.asks.filter fun q => q.side.ctx == ctx && s.abortable q).map (·.id)
  let gone (w : WrEntry) : Bool := match w.who with | .ask id => w.partial_ && ids.contains id | _ => false
  let s := forEach (s.path.chans.map (·.1)) (fun c s =>
    let wids := ((s.chan c).wq.filter gone).map (·.wid)
    syncDepth c (s.modChan c fun x => { x with
      wq := x.wq.filter fun w => !gone w
      rq := x.rq.filter fun e => match e.who with
        | .ask id => !ids.contains id
        | .fill wid => !wids.contains wid
        | _ => true })) s
  let s := s.setCache { s.cache with
    waiters := s.cache.waiters.filter (fun w => !ids.contains w.2.2), flushes := s.cache.flushes.filter fun f => !ids.contains f.1 }
  let s := abandonReads (fun p => match p with | .escapeRead id _ => ids.contains id | _ => false) s
  forEach ids (fun id s =>
    retire id (finish id St.aborted none (s.modAsk id fun q => { q with confirmed := true, backing := false }))) s

/-- Fence a context with a cause (R117): the streams stop, each up port is told once per stream number, the context's accepted entries complete
ABORTED, and its staged contributions break their reductions (R28, R118, R173). While the Sequencer restarts, only the streams stop (R26).
A further cause of a fenced context changes nothing, 0x2300:06 to 08 among it. (DEDUCED, log 56) -/
def fenceContext (cause ctx : Nat) (s : State) : State :=
  if s.fenced ctx then s
  else if s.procs.sequencer.restart.isSome then
    let stop (l : List (Nat × Stream)) : List (Nat × Stream) :=
      l.map fun p => if p.2.desc.context == ctx then (p.1, { p.2 with fenced := true }) else p
    { s.setFeeds { s.feeds with streams := stop s.feeds.streams } with procs :=
      { s.procs with fences := s.procs.fences.filter (fun x => x.2 != ctx) ++ [(cause, ctx)] } }
  else
    let s := s.setOb 0x2203 1 (setBit ctx true (s.ob 0x2203 1))
    let s := ((s.setOb 0x2300 6 cause).setOb 0x2300 7 ctx).bump 0x2300 8
    let s := raiseCtx Ev.contextFenced 0xFFFF ctx cause s
    let ts := s.streamsOf ctx
    let told := ts.filter fun p => (s.stream? p.1).all fun t => t == p.2 || t.desc.port != p.2.desc.port || t.desc.context != ctx
    let s := forEach told (fun p s => if s.portState p.2.desc.port = 0
      then s.send (.fenced p.2.desc.port p.1 cause p.2.fencePosition) else s) s
    let s := forEach ts (fun p s => dropEscapes p.2 s) s
    let ns := ts.map (·.1)
    let cut (l : List (Nat × Stream)) : List (Nat × Stream) :=
      l.map fun p => if p.2.desc.context == ctx then (p.1, p.2.fence) else p
    let s := s.setFeeds { s.feeds with streams := cut s.feeds.streams, old := cut s.feeds.old }
    let s := { s with cache := { s.cache with watches := s.cache.watches.filter fun w => !ns.contains w.2 } }
    abortAsks ctx (fenceReds ctx s)

/-- Fence every context that has a stream of some kind. -/
def fenceStreams (cause : Nat) (want : Nat → Stream → Bool) (s : State) : State :=
  forEach ((s.allStreams.filter fun p => want p.1 p.2).map fun p => p.2.desc.context) (fenceContext cause) s

/-- Feed what can be fed of a stream in one of the lists, an inheriting stream going on from the ring position of the one before it (R104); a line fed poisoned may fence its context (cause 0x05). -/
def feedList (old : Bool) (n : Nat) (s : State) : State :=
  match if old then s.oldStream? n else s.stream? n with
  | none => s
  | some t =>
    let r := pumpFeed n t.feed.length t s
    let follow (u : Stream) : Stream := if u.desc.inherit && !u.desc.drain then { u with fed := r.1.fed } else u
    let s := if old then (r.2.1.modOld n fun _ => r.1).modStream n follow else r.2.1.modStream n fun _ => r.1
    if r.2.2 then fenceContext 5 t.desc.context s else s

/-- Feed what can be fed of a stream number: a new stream's lines wait behind those of the old plan's stream (R104, R116). -/
def feedOut (n : Nat) (s : State) : State :=
  let s := feedList true n s
  if (match s.oldStream? n with | some t => !t.feed.isEmpty | none => false) then s else feedList false n (sweepOld s)

/-- The runs of tile t's slot table in a plan; none when it has no table (R61). -/
def State.tableRuns (p : Plan) (t : Nat) : List Run := ((p.tables.find? fun x => x.1 == t).map (·.2)).getD []

/-! ### The lines of a feed stream as they come back -/

/-- Change the feed line of a number, in whichever list holds it. -/
def Stream.modFeed (t : Stream) (num : Nat) (f : FeedLine → FeedLine) : Stream :=
  { t with feed := t.feed.map fun x => if x.num == num then f x else x }
def State.modFeed (s : State) (n num : Nat) (f : FeedLine → FeedLine) : State :=
  (s.modStream n fun t => t.modFeed num f).modOld n fun t => t.modFeed num f

/-- The feed line of a number and the stream that holds it. -/
def State.feedLine? (s : State) (n num : Nat) : Option (Stream × FeedLine) :=
  (s.allStreams.filter fun p => p.1 == n).findSome? fun p => (p.2.feed.find? fun f => f.num == num).map fun f => (p.2, f)

/-- A feed line's outcome is known: it is fed in its turn (R108, R119). -/
def feedArrive (n num : Nat) (ls : List Nat) (poison : Bool) (s : State) : State :=
  match s.feedLine? n num with
  | none => s
  | some _ =>
    let e := engineOf n
    let s := s.modFeed n num fun f => { f with lines := some ls, poisoned := poison, home := none }
    feedOut n (s.peak (engineIdx e) 7 (s.feedHeld e true))

/-- A planned line that completes DENIED or UNREACHABLE fences its context (cause 0x06). -/
def feedRefused (n num : Nat) (s : State) : State :=
  match s.feedLine? n num with
  | none => s
  | some (t, _) => fenceContext 6 t.desc.context s

/-- A planned line of a feed stream comes back from its channel, in plaintext: the sealed bit is checked (step 6 of R53), then
the line is widened or passed on (R92, R126, R144); a formatted read whose unit is out of service completes UNREACHABLE (R151). -/
def feedLine (n num : Nat) (l : Nat × Nat) (s : State) : State :=
  match s.feedLine? n num with
  | none => s
  | some (t, f) =>
    let a := f.addr
    let u := sheafOfEngine (engineOf n)
    if l.2.testBit 9 != s.sealedAt a then feedRefused n num (countAccess St.denied a s)
    else if l.2.testBit 11 then feedArrive n num [] true (s.bump 0xA001 6)
    else match f.fmt with
      | none => feedArrive n num [l.1] false s
      | some e =>
        if s.unitState u != 0 then feedRefused n num s
        else
        let w := s.widen e a l
        let s := countWiden u a (s.planCause n a) w s
        match w with
        | .lines ls _ => feedArrive n num ls false s
        | .escape slot k =>
          readEscape u slot k t.desc.context t.desc.world (.feedEscape n num) (s.modFeed n num fun f => { f with home := some l })
        | _ => feedArrive n num [] true s

end Sys2Proof.Machine
end

