-- ==== Sys2Proof/Machine/Feeding.lean ====
section
/-!
DEFINITION. The commands of stream engines, feed ports and widen/narrow units (chapters 04 and 05).
-/
namespace Sys2Proof.Machine

/-! ### Decoding (R94, R97) -/

/-- Take a block-internal request whose outcome has been used out of the lists. -/
def takeInternal (q : Ask) (s : State) : State := retire q.id (s.modAsk q.id fun b => { b with delivered := true, confirmed := true })

/-- Decode the next instruction of stream n when its opcode is `op` and R97 lets the engine go on: the items it yields join
those decoded, and `act` is what it does besides. (DEDUCED, log 32) -/
def decodeOne (op n : Nat) (act : Nat → Stream → State → State) (s : State) : State :=
  match s.stream? n with
  | none => s
  | some t =>
    let w := s.instrOf n t
    if t.mayDecode && insOp w == op then
      let (c, run) := t.cur.step w
      let lines := match run with | some r => if r.skip then 0 else r.count | none => 0
      let t := { t with cur := c, runs := t.runs ++ run.toList, decoded := t.decoded + lines }
      act w t (s.modStream n fun _ => t)
    else s

/-- A decode command of a stream number the node can hold. (DEDUCED, log 32) -/
def decodeCmd (op n : Nat) (act : Nat → Stream → State → State) (s : State) : Res :=
  present (decide (engineOf n < 16 * s.cfg.nstacks)) (decodeOne op n act s)

/-- END. -/
def execStreamEnd (n : Nat) (s : State) : Res := decodeCmd 0 n (fun _ _ s => s) s
/-- SETA. -/
def execStreamSeta (n : Nat) (s : State) : Res := decodeCmd 1 n (fun _ _ s => s) s
/-- SETD. -/
def execStreamSetd (n : Nat) (s : State) : Res := decodeCmd 2 n (fun _ _ s => s) s
/-- MOVE. -/
def execStreamMove (n : Nat) (s : State) : Res := decodeCmd 3 n (fun _ _ s => s) s
/-- SKIP. -/
def execStreamSkip (n : Nat) (s : State) : Res := decodeCmd 4 n (fun _ _ s => s) s

/-- The masks still needed: the newest, and those that govern items not issued. -/
def Stream.keepMasks (t : Stream) : List Mask := t.masks.filter fun m => t.runs.any fun r => r.mask == m.num

/-- The read of a mask line, through the cache, under the stream's context and world (R96). (DEDUCED, log 32) -/
def readMask (n w : Nat) (t : Stream) (s : State) : State :=
  let a := lineOf (bits 52 0 w)
  let s := s.modStream n fun t => { t with masks := t.keepMasks ++ [⟨t.cur.mask, a, none, false⟩] }
  offerChecked (s.unitAsk (engineUnit n) 0 t.desc.context t.desc.world a .read (.mask n t.cur.mask)) s

/-- MASK. -/
def execStreamMask (n : Nat) (s : State) : Res := decodeCmd 5 n (readMask n) s

/-- A SIGNAL or WAIT that names an object of a lost node fences its context (R179). -/
def lostTarget (n obj : Nat) (t : Stream) (s : State) : State :=
  fenceContext 8 t.desc.context (raiseCtx Ev.syncTargetLost (engineOf n) t.desc.context obj s)

/-- Register the watch of a WAIT (R177): the slice sends the object's state at once; a Normal-world watch of a Secure object is denied
(R174). (DEDUCED, log 32) -/
def registerWatch (n obj : Nat) (t : Stream) (s : State) : State :=
  if syncNode obj = s.me then
    let o := syncIndex obj
    if s.syncSecure o && !t.desc.world then s
    else
    let s := s.setCache { s.cache with watches := s.cache.watches.filter (fun w => w != (o, n)) ++ [(o, n)] }
    s.modStream n fun t => { t with watched := some (syncValue (s.syncState o)) }
  else if !s.canReach (syncNode obj) then lostTarget n obj t s
  else
    let side : Side := ⟨.unit (engineUnit n), 0, 0, 0, s.ob 0x2500 0x0A, t.desc.context, t.desc.world, 0, 0, 0, false⟩
    forwardAsk (s.newAsk side 0 (.sync 4 obj 0) .port) s

/-- WAIT. -/
def execStreamWait (n : Nat) (s : State) : Res :=
  decodeCmd 6 n (fun w t s =>
    let obj := insObject w
    registerWatch n obj t (s.modStream n fun t => { t with waiting := some (obj, bits 31 0 w), watched := none })) s

/-- Enter a SIGNAL: at once when every earlier line item has landed or been written (R94, R109). (DEDUCED, log 32) -/
def enterSignal (n w : Nat) (t : Stream) (s : State) : State :=
  let obj := insObject w
  if syncNode obj != s.me && !s.canReach (syncNode obj) then lostTarget n obj t s
  else
    let s := s.modStream n fun t => { t with signals := t.signals ++ [⟨obj, bits 31 0 w, t.decoded, false⟩] }
    let s := fire false n s
    if t.desc.drain then s else lateFence n s

/-- SIGNAL. -/
def execStreamSignal (n : Nat) (s : State) : Res := decodeCmd 7 n (enterSignal n) s
/-- REPEAT. -/
def execStreamRepeat (n : Nat) (s : State) : Res := decodeCmd 8 n (fun _ _ s => s) s
/-- FMT. -/
def execStreamFmt (n : Nat) (s : State) : Res := decodeCmd 9 n (fun _ _ s => s) s

/-- Mask reads of a stream that have ended: a line that came OK becomes the mask (R96). -/
def takeMasks (n : Nat) (s : State) : State :=
  forEach (s.path.asks.filter fun q => q.stage == .finished && (match q.why with | .mask k _ => k == n | _ => false)) (fun q s =>
    let s := takeInternal q s
    match q.why, q.result with
    | .mask _ num, some (0, some d) =>
      s.modStream n fun t => { t with masks := t.masks.map fun m => if m.num == num && !m.late then { m with line := some d } else m }
    | _, _ => s) s

/-- MASK_READ_DONE. -/
def execMaskReadDone (n : Nat) (s : State) : Res := present (decide (engineOf n < 16 * s.cfg.nstacks)) (takeMasks n s)

/-- The condition of a WAIT is seen to hold: its watch goes, and decoding goes on (R177). No parcel removes a watch another node keeps:
its notices to a stream that no longer waits are without effect. (DESIGN CHOICE, log 34) -/
def passWait (n : Nat) (s : State) : State :=
  match s.stream? n with
  | none => s
  | some t =>
    match t.waiting, t.watched with
    | some (obj, thr), some v =>
      if decide (thr ≤ v) then
        let s := s.modStream n fun t => { t with waiting := none, watched := none }
        s.setCache { s.cache with watches := s.cache.watches.filter fun w => !(w.2 == n && syncNode obj == s.me && w.1 == syncIndex obj) }
      else s
    | _, _ => s

/-- WAIT_SATISFIED. -/
def execWaitSatisfied (n : Nat) (s : State) : Res := present (decide (engineOf n < 16 * s.cfg.nstacks)) (passWait n s)

/-! ### Beats of a tile (R102, R106, R109) -/

/-- The port serves the stream. -/
def State.serves (s : State) (t n : Nat) (drain : Bool) : Bool :=
  match s.stream? n with
  | some x => x.desc.port == t && x.desc.drain == drain
  | none => false

/-- Fence a context for a drain overrun or an excess credit return (cause 0x04). -/
def overrun (n : Nat) (t : Stream) (s : State) : State :=
  fenceContext 4 t.desc.context (raiseCtx Ev.drainOverrun (engineOf n) t.desc.context n s)

/-- Collect the feed lines of a DRAIN beat, or discard it (R102). A port that is down or in shadow state sends nothing the block takes or
counts. (DESIGN CHOICE, log 33) -/
def drainBeat (t n : Nat) (halves : List Nat) (s : State) : State :=
  if s.portState t != 0 then s
  else if !s.serves t n true then discardBeat t s
  else match s.stream? n with
    | none => s
    | some x =>
      if x.fenced then s
      else if x.credits < halves.length then overrun n x s
      else s.modStream n fun x => { x with credits := x.credits - halves.length
                                           collected := x.collected ++ halves.map fun d => (d, s.now) }

/-- DRAIN_BEAT. -/
def execDrainBeat (t n : Nat) (h0 h1 : Option Nat) (s : State) : Res :=
  present (decide (t < 64 * s.cfg.nstacks)) (drainBeat t n ((h0.toList ++ h1.toList).map fun d => d % 2 ^ 1024) s)

/-- Return feed credits (R101). -/
def creditBeat (t n amount : Nat) (s : State) : State :=
  if s.portState t != 0 then s
  else if !s.serves t n false then discardBeat t s
  else match s.stream? n with
    | none => s
    | some x =>
      if x.fenced then s
      else if ringSize x.desc < x.credits + amount then
        overrun n x (s.modStream n fun x => { x with credits := ringSize x.desc })
      else s.modStream n fun x => { x with credits := x.credits + amount }

/-- FEED_CREDIT_RETURN. -/
def execFeedCreditReturn (t n amount : Nat) (s : State) : Res :=
  present (decide (t < 64 * s.cfg.nstacks)) (creditBeat t n (amount % 65536) s)

/-- The oldest fence of a stream has landed. -/
def Stream.land (t : Stream) : Stream :=
  match t.fences with
  | m :: rest => { t with fences := rest, landed := max t.landed m.1 }
  | [] => t

/-- LANDED of a stream number: an old plan's fences come first (R109, R115). -/
def landedBeat (t n : Nat) (s : State) : State :=
  if s.portState t != 0 then s
  else match (s.oldStream? n).bind fun x => if x.desc.port = t && !x.fences.isEmpty then some x else none with
    | some _ => sweepOld (fire true n (s.modOld n Stream.land))
    | none => if s.serves t n false then fire false n (s.modStream n Stream.land) else discardBeat t s

/-- LANDED_BEAT. -/
def execLandedBeat (t n : Nat) (s : State) : Res := present (decide (t < 64 * s.cfg.nstacks)) (landedBeat t n s)

/-- UP_BEAT_DISCARDED (R106, R216). -/
def execUpBeatDiscarded (port : Port) (s : State) : Res :=
  match port with
  | .tile t => present (decide (t < 64 * s.cfg.nstacks)) (discardBeat t s)
  | .rt p => present (decide (p < 8)) (s.bump (rtIdx p) 9)
  | _ => .next s

/-! ### Feed ports (R110, R121) -/

/-- A feed port that is up or in shadow state goes down: every context that has a stream naming it is fenced. (DEDUCED, log 33) -/
def portDown (t : Nat) (s : State) : State :=
  if s.portState t != 0 && s.portState t != 2 then s
  else
    let s := (setPortState t 1 s).setFeeds { s.feeds with rejoin := s.feeds.rejoin.filter fun x => x != t }
    fenceStreams 3 (fun _ x => x.desc.port == t) (raise Ev.feedPortDown t 0 s)

/-- The port timeout (0x2300:04) has passed with a LANDED outstanding. -/
def State.landedLate (s : State) (t : Nat) : Bool :=
  s.allStreams.any fun p => p.2.desc.port == t && match p.2.fences with
    | f :: _ => s.elapsed f.2 (s.ob 0x2300 4 * 1000 * nsT)
    | [] => false

/-- FEED_PORT_TIMEOUT: a beat has not been taken in time (`beat`), or a LANDED is missing. -/
def execFeedPortTimeout (t : Nat) (beat : Bool) (s : State) : Res :=
  present (decide (t < 64 * s.cfg.nstacks)) (if beat || s.landedLate t then portDown t s else s)

/-- PORT_READY_WITHDRAWN. -/
def execPortReadyWithdrawn (port : Port) (s : State) : Res :=
  match port with
  | .tile t => present (decide (t < 64 * s.cfg.nstacks))
      (portDown t (s.setFeeds { s.feeds with ready := s.feeds.ready.filter fun x => x != t }))
  | .rt p => present (decide (p < 8))
      (s.setFeeds { s.feeds with ready := s.feeds.ready.filter (fun x => x != 256 + p) ++ [256 + p] })
  | _ => .next s

/-- A tile asserts ready: up before READY, otherwise a down port is back in shadow state (R110, R121). (DEDUCED, log 33) -/
def portReady (t : Nat) (s : State) : State :=
  let s := s.setFeeds { s.feeds with ready := s.feeds.ready.filter (fun x => x != t) ++ [t] }
  if s.portState t = 1 then setPortState t 2 s else s

/-- PORT_READY_ASSERTED. -/
def execPortReadyAsserted (port : Port) (s : State) : Res :=
  match port with
  | .tile t => present (decide (t < 64 * s.cfg.nstacks)) (portReady t s)
  | .rt p => present (decide (p < 8)) (s.setFeeds { s.feeds with ready := s.feeds.ready.filter fun x => x != 256 + p })
  | _ => .next s

/-- A node that enters READY finds every port down whose tile has not asserted ready (R121). -/
def closePorts (s : State) : State :=
  forEach ((List.range (64 * s.cfg.nstacks)).filter fun t => !s.feeds.ready.contains t && s.portState t == 0) (fun t => setPortState t 1) s

/-- 0x2322:t. -/
def portRejoinHome (t : Nat) : Home := fun _ s =>
  if s.portState t = 2 then
    .done ((s.setFeeds { s.feeds with rejoin := s.feeds.rejoin.filter (fun x => x != t) ++ [t] }).armRejoin (0x100 + t))
  else .denied s

/-- PORT_REJOIN. -/
def execPortRejoin (r : Req) (t : Nat) (s : State) : Res := .next (dictWrite r 0x2322 (t % 256) [1] (portRejoinHome (t % 256)) s)

/-- At tide f the armed shadow ports join. (DEDUCED, log 33) -/
def joinPorts (f : Nat) (s : State) : State :=
  let due (t : Nat) : Bool := s.portState t != 2 || s.rejoinDue (0x100 + t) f
  let l := s.feeds.rejoin.filter fun t => s.portState t == 2 && due t
  forEach l (fun t s => raise Ev.unitRejoined t 0 (setPortState t 0 s))
    (s.setFeeds { s.feeds with rejoin := s.feeds.rejoin.filter fun t => !due t })

/-! ### Stalls, fence requests, engine faults (R117, R120) -/

/-- A stream with lag has issued no line for the stall timeout. -/
def stall (n : Nat) (s : State) : State :=
  match s.stream? n with
  | none => s
  | some t =>
    if t.lag != 0 && !t.fenced && !s.halted (engineOf n / 16) && s.elapsed t.lastIssue (s.ob 0x2300 3 * 1000 * nsT) then
      fenceContext 2 t.desc.context (raiseCtx Ev.streamStall (engineOf n) t.desc.context n s)
    else s

/-- STALL_TIMEOUT. -/
def execStallTimeout (n : Nat) (s : State) : Res := present (decide (engineOf n < 16 * s.cfg.nstacks)) (stall n s)

/-- 0x2300:05. -/
def fenceRequestHome (mask : Nat) : Home :=
  applyHome (forEach ((List.range 64).filter fun x => mask.testBit x) (fenceContext 1))

/-- FENCE_REQUEST. -/
def execFenceRequest (r : Req) (mask : Nat) (s : State) : Res :=
  .next (dictWrite r 0x2300 5 (leBytes 8 mask) (fenceRequestHome (mask % 2 ^ 64)) s)

/-- An engine faults: its contexts are fenced, its buffers are lost, and it comes back in shadow state (R120). -/
def engineFault (e : Nat) (s : State) : State :=
  let s := raise Ev.engineFault e 0 (s.setOb (engineIdx e) 1 2)
  let s := fenceStreams 7 (fun n _ => engineOf n == e) s
  let empty (l : List (Nat × Stream)) : List (Nat × Stream) :=
    l.map fun p => if engineOf p.1 == e then (p.1, { p.2.fence with drain := p.2.drain.filter fun d => d.ask.isSome }) else p
  let s := s.setFeeds { s.feeds with streams := empty s.feeds.streams, old := empty s.feeds.old
                                     engineRejoin := s.feeds.engineRejoin.filter fun x => x != e }
  s.setOb (engineIdx e) 1 3

/-- 0x5000+e:08. -/
def engineRejoinHome (e : Nat) : Home := fun _ s =>
  if s.ob (engineIdx e) 1 = 3 then
    .done ((s.setFeeds { s.feeds with engineRejoin := s.feeds.engineRejoin.filter (fun x => x != e) ++ [e] }).armRejoin (0x300 + e))
  else .denied s

/-- ENGINE_REJOIN. -/
def execEngineRejoin (r : Req) (e : Nat) (s : State) : Res :=
  .next (dictWrite r (engineIdx (e % 64)) 8 [1] (engineRejoinHome (e % 64)) s)

/-! ### Narrowing (R139–R146) -/

/-- Issue the escape writes of a narrowed line as open-path writes to the pool's channel (R143). -/
def writeEscapes (n num : Nat) (t : Stream) (ws : List (Nat × Nat × Nat)) (s : State) : List Nat × State :=
  let ids := (List.range ws.length).map fun k => s.path.nextId + k
  (ids, forEach ws (fun w s => offerInternal (0x80 + sheafOfEngine (engineOf n)) (s.ob 0x2400 2) t.desc.context t.desc.world w.1
    (.put w.2.1 w.2.2) (.escapeWrite n num) s) s)

/-- The line of a drain stream's next stored line: raw lines pass as they are, with the region's format default (R125); a
formatted one is narrowed. -/
def narrowItem (n num : Nat) (t : Stream) (i : LineItem) (feeds : List Nat) (s : State) : DrainLine × State :=
  match i.fmt with
  | none => (⟨num, i.addr, feeds.length, feeds.getD 0 0, s.writeInfo i.addr, [], [], none, none⟩, s)
  | some x =>
    let (r, s) := narrow (sheafOfEngine (engineOf n)) (s.planCause n i.addr) (s.formatEntry x) i.addr feeds s
    let (ids, s) := writeEscapes n num t r.writes s
    let pool := if r.writes.isEmpty then none else some r.pool
    let s := match pool with
      | some p => s.setFeeds { s.feeds with escapesOut := alter 0 p (fun k => k + 1) s.feeds.escapesOut }
      | none => s
    (⟨num, i.addr, feeds.length, r.data, r.info, ids, ids, pool, none⟩, s)

/-- A stream's next stored line whose feed lines are all there: its number, its item, and when the last of them came. -/
def State.narrowDue (s : State) (n : Nat) : Option (Nat × LineItem × Nat) :=
  match s.stream? n with
  | none => none
  | some t =>
    let num := t.issued + (t.drain.filter fun d => d.ask.isNone).length
    match if t.desc.drain && !t.fenced then t.lineItem num else none with
    | none => none
    | some i =>
      let k := s.nwOf i.fmt
      let got := t.collected.take k
      let last := match got.getLast? with | some g => g.2 | none => s.now
      if k = 0 || got.length < k then none else some (num, i, last)

/-- The slot in which a line's narrowing finishes, 2.5 ns after its last feed line came, and its unit: the order of escapes (R143). -/
def State.narrowOrder (s : State) (n last : Nat) : Nat × Nat :=
  ((s.setTicks + last + 30 + frameT - s.now - s.epochT % frameT) / slotT, sheafOfEngine (engineOf n))

/-- The same line once its narrowing has finished. A raw line takes no conversion. (DEDUCED, log 36) -/
def State.narrowed (s : State) (n : Nat) : Option (Nat × LineItem × Nat) :=
  (s.narrowDue n).filter fun x => x.2.1.fmt.isNone || s.elapsed x.2.2 30

/-- The narrowed line joins those to be written; a formatted one whose unit is out of service completes UNREACHABLE (R151). -/
def narrowOne (n : Nat) (s : State) : State :=
  match s.narrowDue n, s.stream? n with
  | some (num, i, _), some t =>
    if i.fmt.isSome && s.unitState (sheafOfEngine (engineOf n)) != 0 then fenceContext 6 t.desc.context s
    else
      let k := s.nwOf i.fmt
      let (d, s) := narrowItem n num t i ((t.collected.take k).map (·.1)) s
      s.modStream n fun t => { t with collected := t.collected.drop k, drain := t.drain ++ [d] }
  | _, _ => s

/-- An order of escapes comes before another: an earlier slot, or the same slot on a lower unit (R143). -/
def escapesBefore (a b : Nat × Nat) : Bool := decide (a.1 < b.1 ∨ (a.1 = b.1 ∧ a.2 < b.2))

/-- Lines that come before an order are narrowed first, at most k of them. Those that finish later in the same slot have their feed lines
already, for narrowing takes longer than a slot. -/
def narrowBefore (o : Nat × Nat) : Nat → State → State
  | 0, s => s
  | k + 1, s =>
    let due := s.feeds.streams.filterMap fun p => match s.narrowDue p.1 with
      | some (_, _, last) => if escapesBefore (s.narrowOrder p.1 last) o then some (p.1, s.narrowOrder p.1 last) else none
      | none => none
    match (sortList due fun a b => !escapesBefore b.2 a.2).head? with
    | some p => narrowBefore o k (narrowOne p.1 s)
    | none => s

/-- Narrowing of a stream's next stored line has finished; every line that finishes in an earlier slot, or in the same slot on a lower unit,
comes first (R143). -/
def narrowNext (n : Nat) (s : State) : State :=
  match s.narrowed n with
  | none => s
  | some (_, _, last) =>
    narrowOne n (narrowBefore (s.narrowOrder n last) ((s.feeds.streams.map fun p => p.2.collected.length).sum) s)

/-- DRAIN_LINE_NARROWED. -/
def execDrainLineNarrowed (n : Nat) (s : State) : Res :=
  present (decide (engineOf n < 16 * s.cfg.nstacks)) (narrowNext n s)

/-- What has come of the escape writes of a stream's drain lines: those accepted, and those that have completed. -/
def noteEscapes (s : State) : State :=
  let accepted (id : Nat) : Bool := match s.ask? id with | some q => q.stage != .offered | none => true
  let done (id : Nat) : Bool := match s.ask? id with | some q => q.stage == .finished | none => true
  let upd (l : List (Nat × Stream)) : List (Nat × Stream) := l.map fun p =>
    (p.1, { p.2 with drain := p.2.drain.map fun d =>
      { d with escapes := d.escapes.filter fun id => !accepted id, unfinished := d.unfinished.filter fun id => !done id } })
  s.setFeeds { s.feeds with streams := upd s.feeds.streams, old := upd s.feeds.old }

/-! ### Escaped lines (R144) -/

/-- The reads of an escaped line: requests with a given purpose, in order of their number. -/
def State.escapeReads (s : State) (f : Purpose → Option Nat) : List Ask :=
  sortList (s.path.asks.filter fun q => (f q.why).isSome) fun a b => decide ((f a.why).getD 0 ≤ (f b.why).getD 0)

/-- What an escape read returned: its line, if it completed OK. -/
def Ask.gotLine (q : Ask) : Option (Nat × Nat) :=
  match q.result with | some (0, some d) => some (d, q.info) | _ => none

/-- Drop the escape reads that have been used. -/
def dropReads (l : List Ask) (s : State) : State := forEach l takeInternal s

/-- Widen an escaped feed line whose reads have all ended. -/
def escapeFeed (n num : Nat) (s : State) : State :=
  let pick (p : Purpose) : Option Nat := match p with | .feedEscape a b i => if a = n && b = num then some i else none | _ => none
  let rs := s.escapeReads pick
  if rs.isEmpty || !(rs.all fun q => q.stage == .finished) then s
  else
    let got := rs.map Ask.gotLine
    let s := dropReads rs s
    match s.feedLine? n num with
    | none => s
    | some (_, f) =>
      match f.home, f.fmt with
      | some home, some x =>
        let e := s.widenEscape x f.addr home got
        let s := countEscape (sheafOfEngine (engineOf n)) f.addr (s.planCause n f.addr) e s
        match e with
        | .lines ls _ _ => feedArrive n num ls false s
        | _ => feedArrive n num [] true s
      | _, _ => s

/-- Complete a widening read whose escape reads have all ended. -/
def escapeAsk (q : Ask) (s : State) : State :=
  let pick (p : Purpose) : Option Nat := match p with | .escapeRead a i => if a = q.id then some i else none | _ => none
  let rs := s.escapeReads pick
  if rs.isEmpty || !(rs.all fun r => r.stage == .finished) then s
  else
    let got := rs.map Ask.gotLine
    let s := dropReads rs s
    let e := s.widenEscape (decodeEntry q.entry) q.addr (q.applied.getD 0, q.info) got
    let s := countEscape (unitOf (homeChan q.addr)) q.addr (s.askCause q) e s
    match e, q.op with
    | .lines ls _ _, .widen _ j => finish q.id St.ok (some (ls.getD j 0)) s
    | _, _ => finish q.id St.poisoned none s

/-- Every escaped line whose reads have ended goes on. -/
def endEscapes (s : State) : State :=
  let feeds := (s.path.asks.filterMap fun q => match q.why with | .feedEscape n num _ => some (n, num) | _ => none).eraseDups
  let asks := s.path.asks.filter fun q => q.stage == .accepted && (match q.op with | .widen _ _ => true | _ => false)
  forEach asks escapeAsk (forEach feeds (fun p => escapeFeed p.1 p.2) s)

/-- ESCAPE_READ_DONE. -/
def execEscapeReadDone (s : State) : Res := .next (serveAll (endEscapes s))

/-! ### Pools, the beyond-bound map, standing entries (R146, R147, R149) -/

/-- 0x2401:01: the reset waits for the first tide at which no escape of the pool is outstanding. -/
def poolResetHome (r : Nat) : Home := fun _ s =>
  let g := s.region r
  if g.valid && g.role = 1 then
    .done (s.setFeeds { s.feeds with poolResets := s.feeds.poolResets.filter (fun x => x != r) ++ [r] })
  else .denied s

/-- POOL_RESET. -/
def execPoolReset (r : Req) (d : Nat) (s : State) : Res := .next (dictWrite r 0x2401 1 (leBytes 2 d) (poolResetHome (d % 65536)) s)

/-- At a tide: every pool reset whose pool has no escape outstanding; POOL_LOW is armed again with POOL_EXHAUSTED. (DESIGN CHOICE, log 36) -/
def resetPools (s : State) : State :=
  let ready := s.feeds.poolResets.filter fun r => look 0 r s.feeds.escapesOut == 0
  let s := s.setFeeds { s.feeds with poolResets := s.feeds.poolResets.filter fun r => !ready.contains r }
  forEach ready (fun r s =>
    raise Ev.poolReset r 0 (s.setPool r (0, ((s.pool r).2.1 + 1) % 65536, 0, 0))) s

/-- 0x2441:01. -/
def beyondClearHome (r : Nat) : Home := applyHome fun s =>
  let sub := r / 64 + 1
  let m := s.ob 0x2440 sub
  if m.testBit (r % 64) then (s.setOb 0x2440 sub (setBit (r % 64) false m)).setOb 0x2400 4 (s.ob 0x2400 4 - 1) else s

/-- BEYOND_BOUND_CLEAR. -/
def execBeyondBoundClear (r : Req) (d : Nat) (s : State) : Res :=
  .next (dictWrite r 0x2441 1 (leBytes 2 d) (beyondClearHome (d % 65536)) s)

/-- 0x2410:(x + 1). -/
def standingHome (x : Nat) (value : List Byte) : Home := fun _ s =>
  let code := entryCheck (decodeEntry (leNat value))
  if code = 0 then .done (s.setOb 0x2410 (x + 1) (leNat value))
  else .refused St.denied 9 (raiseNode Ev.formatRefused (x * 256 + code) (recordCheck x code s))

/-- STANDING_ENTRY_WRITE. -/
def execStandingEntryWrite (r : Req) (x : Nat) (value : List Byte) (s : State) : Res :=
  .next (dictWrite r 0x2410 (x % 64 + 1) value (standingHome (x % 64) value) s)

/-! ### Widen/narrow units (R151) -/

/-- Accepted widening reads held in a unit. -/
def State.heldIn (s : State) (u : Nat) : List Ask :=
  s.path.asks.filter fun q => q.stage == .accepted && unitOf (homeChan q.addr) == u &&
    (match q.op with | .widen _ _ => true | _ => false) && s.path.asks.any fun r => match r.why with
      | .escapeRead id _ => id == q.id
      | _ => false

/-- Whether a stream is formatted anywhere in what it has left to do: at its start or by an FMT of its range. -/
def State.usesFormats (s : State) (n : Nat) (t : Stream) : Bool :=
  t.desc.formatted || t.cur.fmt.isSome || (((s.program (engineOf n)).instrs.drop t.desc.first).take t.desc.len).any fun w =>
    insOp w == 9 && w.testBit 104

/-- A unit faults: contexts with a formatted stream on the sheaf's two engines are fenced, held widening reads complete
UNREACHABLE, and the unit comes back in shadow state. -/
def unitFault (u : Nat) (s : State) : State :=
  let s := raise Ev.formatUnitFault u 0 (s.setOb (unitIdx u) 0x0F 1)
  let s := fenceStreams 8 (fun n t => sheafOfEngine (engineOf n) == u && s.usesFormats n t) s
  let held := s.heldIn u
  let s := abandonReads (fun p => match p with | .escapeRead id _ => held.any (fun q => q.id == id) | _ => false) s
  let s := forEach held (fun q s => finish q.id St.unreachable none s) s
  (s.setFeeds { s.feeds with unitRejoin := s.feeds.unitRejoin.filter fun x => x != u }).setOb (unitIdx u) 0x0F 2

/-- 0x2420+u:10. -/
def unitRejoinHome (u : Nat) : Home := fun _ s =>
  if s.unitState u = 2 then
    .done ((s.setFeeds { s.feeds with unitRejoin := s.feeds.unitRejoin.filter (fun x => x != u) ++ [u] }).armRejoin (0x400 + u))
  else .denied s

/-- UNIT_REJOIN. -/
def execUnitRejoin (r : Req) (u : Nat) (s : State) : Res :=
  .next (dictWrite r (unitIdx (u % 32)) 0x10 [1] (unitRejoinHome (u % 32)) s)

/-- At switching tide f the armed engines and units join. (DEDUCED, log 33) -/
def joinEngines (f : Nat) (s : State) : State :=
  let dueE (e : Nat) : Bool := s.ob (engineIdx e) 1 != 3 || s.rejoinDue (0x300 + e) f
  let dueU (u : Nat) : Bool := s.unitState u != 2 || s.rejoinDue (0x400 + u) f
  let es := s.feeds.engineRejoin.filter fun e => s.ob (engineIdx e) 1 == 3 && dueE e
  let us := s.feeds.unitRejoin.filter fun u => s.unitState u == 2 && dueU u
  let s := s.setFeeds { s.feeds with engineRejoin := s.feeds.engineRejoin.filter (fun e => !dueE e)
                                     unitRejoin := s.feeds.unitRejoin.filter fun u => !dueU u }
  let s := forEach es (fun e s => raise Ev.unitRejoined e 0 (s.setOb (engineIdx e) 1 0)) s
  forEach us (fun u s => s.setOb (unitIdx u) 0x0F 0) s

end Sys2Proof.Machine
end

