-- ==== Sys2Proof/Machine/PlanImage.lean ====
section
/-!
DEFINITION. The plan image and its checks (R55–R74, R98, R226, R341): what a node reads from the image's bytes, and the first
reason for which it refuses it.
-/
namespace Sys2Proof.Machine

/-! ### Reading the image -/

/-- A field of the image. -/
def field (img : List Byte) (off len : Nat) : Nat := leNat (sliceBytes off len img)

/-- An entry of the section table (R59). -/
structure Sect where
  type : Nat
  node : Nat
  inst : Nat
  off : Nat
  len : Nat
  crc : Nat
  deriving DecidableEq, Repr

/-- Header fields (R58). -/
def imgCount (img : List Byte) : Nat := field img 0x20 2
def imgTable (img : List Byte) : Nat := field img 0x24 4
def imgPeriod (img : List Byte) : Nat := field img 0x1B 1
def imgClass (img : List Byte) : Nat := field img 0x1A 1
def imgTail (img : List Byte) : Nat := field img 0x1C 1
def imgSigned (img : List Byte) : Bool := (field img 0x0C 4).testBit 1

/-- The section table. -/
def sections (img : List Byte) : List Sect :=
  (List.range (imgCount img)).map fun i =>
    let o := imgTable img + 16 * i
    ⟨field img o 1, field img (o + 1) 1, field img (o + 2) 2, field img (o + 4) 4, field img (o + 8) 4, field img (o + 12) 4⟩

def Sect.body (x : Sect) (img : List Byte) : List Byte := sliceBytes x.off x.len img

/-- The sections that apply to a node: its own, and those for every node where it has none of its own (R60). -/
def sectionsFor (node : Nat) (img : List Byte) : List Sect :=
  let all := sections img
  all.filter fun x => x.type != 0x7F && (x.node == node || (x.node == 0xFF &&
    !all.any fun y => y.type == x.type && y.inst == x.inst && y.node == node))

/-- A slot-table run word (R63). -/
def decodeRun (w : Nat) : Run := ⟨bits 31 29 w, bits 28 17 w, bits 9 0 w + 1⟩
def runWords (b : List Byte) : List Nat := (List.range (field b 0 4)).map fun i => field b (8 + 4 * i) 4
def decodeRuns (b : List Byte) : List Run := (runWords b).map decodeRun

/-- A stream descriptor (R93). -/
def decodeDesc (b : List Byte) : StreamDesc :=
  let fl := field b 2 1
  { q := field b 0 1, context := field b 1 1, fencePoison := fl.testBit 4, inherit := fl.testBit 3, world := fl.testBit 2
    formatted := fl.testBit 1, drain := fl.testBit 0, entry := field b 3 1, port := field b 4 1, ringLog2 := field b 5 1
    allot := field b 6 2, ringBase := field b 8 4, first := field b 0x0C 2, len := field b 0x0E 2 }

/-- A stream program body (R93). -/
def decodeProgram (b : List Byte) : Program :=
  let n := field b 0 2
  ⟨(List.range n).map fun i => decodeDesc (sliceBytes (16 + 32 * i) 32 b),
   (List.range (field b 2 2)).map fun i => field b (16 + 32 * n + 16 * i) 16⟩

/-- Gate, regulator and format bodies (R65–R67). -/
def decodeGates (b : List Byte) : List Gate :=
  (List.range (field b 0 2)).map fun i => ⟨field b (8 + 8 * i + 6) 2, field b (8 + 8 * i) 4⟩
def decodeBudgets (b : List Byte) : List Budget :=
  (List.range 64).map fun i =>
    ⟨field b (16 * i) 4, field b (16 * i + 4) 2, field b (16 * i + 6) 1, field b (16 * i + 8) 4,
     field b (16 * i + 7) 1 + 256 * field b (16 * i + 12) 4⟩
def decodeFormats (b : List Byte) : List FormatEntry :=
  (List.range (field b 0 2)).map fun i => decodeEntry (field b (16 + 64 * i) 64)

/-- The plan a node holds from an image (R71). -/
def decodePlan (node : Nat) (img : List Byte) : Plan :=
  let ss := sectionsFor node img
  let ofType (k : Nat) : List Sect := ss.filter fun x => x.type == k
  { id := field img 0x10 8, crc := field img 0x28 4, digest := (Config.sha384 img).toNat, continuity := (field img 0x0C 4).testBit 0, signed := imgSigned img
    cls := imgClass img, period := imgPeriod img, tail := imgTail img
    contexts := match ofType 1 with
      | x :: _ => (List.range 64).map fun i => field (x.body img) (4 * i) 4
      | [] => []
    tables := (ofType 2).map fun x => (x.inst, decodeRuns (x.body img))
    programs := (ofType 3).map fun x => (x.inst, decodeProgram (x.body img))
    gates := (ofType 4).map fun x => (x.inst, decodeGates (x.body img))
    regulators := (ofType 5).head?.map fun x => decodeBudgets (x.body img)
    formats := (ofType 6).head?.map fun x => decodeFormats (x.body img) }

/-- Context table fields (R62). -/
def Plan.inUse (p : Plan) (x : Nat) : Bool := (p.contexts.getD x 0).testBit 31
def Plan.ctxWorld (p : Plan) (x : Nat) : Bool := (p.contexts.getD x 0).testBit 30
def Plan.collective (p : Plan) (x : Nat) : Bool := (p.contexts.getD x 0).testBit 29
def Plan.priority (p : Plan) (x : Nat) : Nat := bits 26 24 (p.contexts.getD x 0)

/-- The streams a plan defines: number, engine program, descriptor. -/
def Plan.streams (p : Plan) : List (Nat × Program × StreamDesc) :=
  p.programs.flatMap fun e => e.2.streams.map fun d => (64 * e.1 + d.q, e.2, d)
def Plan.desc? (p : Plan) (n : Nat) : Option (Program × StreamDesc) := (p.streams.find? fun x => x.1 == n).map (·.2)

/-! ### Slots -/

/-- The slots of a table: type and stream. -/
def slotsOf (runs : List Run) : List (Nat × Nat) := runs.flatMap fun r => List.replicate r.len (r.type, r.stream)

/-- The idle table: the type of slot k of a frame (R61). -/
def idleSlot (cls k : Nat) : Nat :=
  let i := k % 128
  let r := 2 ^ cls
  if i < r then 4 else if i = r && k % 1024 / 128 % 2 = 0 then 5 else 1

def plannedType (t : Nat) : Bool := t == 2 || t == 3
def freeType (t : Nat) : Bool := t == 0 || t == 1

/-- Count the slots of a kind in a span. -/
def countIn (ts : List Nat) (from_ len : Nat) (p : Nat → Bool) : Nat := (((ts.drop from_).take len).filter p).length

/-! ### Refusals (R73) -/

/-- A refusal: reason, location and detail. -/
structure PlanFault where
  reason : Nat
  at_ : Nat
  detail : Nat
  deriving DecidableEq, Repr

/-- A location (R73). (DEDUCED, log 15) -/
def whereAt (node inst frame slot : Nat) : Nat := node % 8 * 2 ^ 24 + inst % 256 * 2 ^ 16 + frame % 64 * 2 ^ 10 + slot % 1024

/-- Reason 0x02: the offset of the first header field that is out of range (R58). -/
def headerFault (img : List Byte) : Option Nat :=
  let n := img.length
  let u (o l : Nat) : Nat := field img o l
  if u 0 4 != 0x504E4C47 then some 0
  else if u 4 2 != 0x0100 then some 4
  else if u 6 2 != 0x80 then some 6
  else if u 8 4 != n then some 8
  else if 3 < u 0x0C 4 then some 0x0C
  else if u 0x10 8 = 0 then some 0x10
  else if u 0x18 1 < 2 || 8 < u 0x18 1 then some 0x18
  else if u 0x19 1 < 1 || 4 < u 0x19 1 then some 0x19
  else if 2 < u 0x1A 1 then some 0x1A
  else if u 0x1B 1 < 1 || 64 < u 0x1B 1 then some 0x1B
  else if 6 < u 0x1C 1 then some 0x1C
  else if u 0x1D 3 != 0 then some 0x1D
  else if u 0x20 2 < 1 || 4096 < u 0x20 2 then some 0x20
  else if u 0x22 2 != 0 then some 0x22
  else if u 0x24 4 % 16 != 0 || u 0x24 4 < 0x80 || n < u 0x24 4 + 16 * u 0x20 2 then some 0x24
  else if u 0x2C 4 != 0 then some 0x2C
  else if u 0x40 64 != 0 then some 0x40
  else none

/-- Reason 0x03: the image CRC with its own field taken as 0, then the section CRCs; the detail is a section index. -/
def crcFault (img : List Byte) : Option Nat :=
  if crc32c (img.take 0x28 ++ zeroBytes 4 ++ img.drop 0x2C) != field img 0x28 4 then some 0
  else ((List.range (imgCount img)).zip (sections img)).findSome? fun p =>
    if p.2.off + p.2.len ≤ img.length && crc32c (p.2.body img) != p.2.crc then some p.1 else none

/-- Whether an entry's type, node and instance are ones R60 names. -/
def Sect.named (x : Sect) (nst : Nat) : Bool :=
  let every := x.node == 0xFF
  let one := decide (x.node < 8)
  match x.type with
  | 1 => (one || every) && x.inst == 0
  | 2 => one && decide (x.inst < 64 * nst)
  | 3 => one && decide (x.inst < 16 * nst)
  | 4 => (one || every) && decide (x.inst < 4)
  | 5 => (one || every) && x.inst == 0
  | 6 => (one || every) && x.inst == 0
  | 0x7F => every && x.inst == 0
  | _ => false

/-- Whether two spans of bytes meet. -/
def spansMeet (a la b lb : Nat) : Bool := decide (a < b + lb) && decide (b < a + la) && decide (0 < la) && decide (0 < lb)

/-- Reason 0x05: the first entry that breaks R59, R60 or R61, or the count where the table as a whole does. -/
def tableFault (nst setNodes : Nat) (img : List Byte) : Option Nat :=
  let ss := sections img
  let n := img.length
  let k := ss.length
  let t := imgTable img
  let bad := (List.range k).find? fun i =>
    let x := ss.getD i ⟨0, 0, 0, 0, 0, 0⟩
    !x.named nst || x.off % 16 != 0 || n < x.off + x.len || x.off < 0x80 || spansMeet x.off x.len t (16 * k) ||
    (ss.take i).any (fun y => spansMeet x.off x.len y.off y.len || (y.type == x.type && y.node == x.node && y.inst == x.inst)) ||
    (x.type == 0x7F && (i + 1 != k || x.off + x.len != n || !imgSigned img))
  match bad with
  | some i => some i
  | none =>
    if imgSigned img && !ss.any (fun x => x.type == 0x7F) then some k
    else if (List.range setNodes).any (fun m => !ss.any fun x => x.type == 1 && (x.node == m || x.node == 0xFF)) then some k
    else none

/-- The contexts an image marks Secure in any context table (R69). -/
def secureContexts (img : List Byte) : List Nat :=
  ((sections img).filter fun x => x.type == 1).flatMap fun x =>
    (List.range 64).filter fun i => (field (x.body img) (4 * i) 4).testBit 30

/-- The signature section verifies under the keys of the slot 0x2204:02 (R68). -/
def signatureOk (img : List Byte) (s : State) : Bool :=
  match (sections img).find? fun x => x.type == 0x7F with
  | none => false
  | some x =>
    let b := x.body img
    let slot := look KeySlot.reset (s.ob 0x2204 2) s.sec.keys
    let msg := img.take x.off
    x.len == 3456 && field b 0 1 == 3 && field b 1 1 == s.ob 0x2204 2 && field b 2 6 == 0 && field b 0xD55 43 == 0 &&
    slot.kind == .verify &&
    Config.verifySignature false (leBytes 97 slot.key) (Config.sha384 msg).toNat (sliceBytes 8 96 b) &&
    Config.verifySignature true (leBytes 1952 slot.key2) (leNat msg) (sliceBytes 0x68 3309 b)

/-- Reason 0x06 (R69). -/
def signatureFault (img : List Byte) (s : State) : Bool :=
  if imgSigned img then !signatureOk img s
  else s.ob 0x2204 1 == 1 || !(secureContexts img).isEmpty

/-- Reason 0x07: the first context that breaks R62 or the session rule of R69. -/
def contextFault (p : Plan) (img : List Byte) (node : Nat) (session : Bool) : Option Nat :=
  let tbl := (sectionsFor node img).find? fun x => x.type == 1
  match tbl with
  | none => some 0
  | some x =>
    if x.len != 256 then some 0
    else match (List.range 64).find? fun i =>
        let w := p.contexts.getD i 0
        bits 28 27 w != 0 || bits 23 0 w != 0 ||
        p.streams.any fun d => d.2.2.context == i && (!w.testBit 31 || w.testBit 30 != d.2.2.world) with
      | some i => some i
      | none =>
        match (p.streams.find? fun d => decide (64 ≤ d.2.2.context)) with
        | some d => some d.2.2.context
        | none => if session then none else (secureContexts img).head?

/-! ### Slot tables (R64, R72) -/

/-- Reason 0x08: the first run that breaks one of the first four conditions of R64, and the slot of the period it begins at. -/
def runFault (p : Plan) (t : Nat) (b : List Byte) : Option (Nat × Nat) :=
  let k := field b 0 4
  if b.length < 8 || k < 1 || 4096 < k || field b 4 4 != 0 || b.length != 8 + 4 * k then some (0, 0)
  else go (runWords b) 0 0
where
  go : List Nat → Nat → Nat → Option (Nat × Nat)
    | [], i, pos => if pos = 1024 * p.period then none else some (i, pos)
    | w :: ws, i, pos =>
      let r := decodeRun w
      let planned := plannedType r.type
      if 5 < r.type || bits 16 10 w != 0 || (!planned && r.stream != 0) || pos / 1024 != (pos + r.len - 1) / 1024 ||
        1024 * p.period < pos + r.len ||
        (planned && (sheafOfEngine (engineOf r.stream) != unitOf (chanOfTile t) || (p.desc? r.stream).isNone)) then some (i, pos)
      else go ws (i + 1) (pos + r.len)

/-- The spread tail of a sheaf: ⌈1,024·D⌉ slots of its depth (R55). -/
def State.tailOf (s : State) (u : Nat) : Nat := (1024 * 5 * s.ob 0xB020 (u + 1) + 9999) / 10000

/-- ⌈1,024·D⌉ for the deepest down-spread of the node's sheaves (R55, R400). -/
def State.tailNeed (s : State) : Nat :=
  ((List.range (8 * s.cfg.nstacks)).map s.tailOf).foldl max 0

/-- The open-path minimum and tide interval that will be in force at the next tide (R71). -/
def State.ahead (s : State) (idx sub : Nat) : Nat :=
  match s.mgmt.pendingTide.find? fun p => p.1 == 256 * idx + sub with
  | some p => p.2
  | none => s.ob idx sub

/-- Reason 0x09: the slot of the period at which a table breaks a placement condition of R64. (DEDUCED, log 15) -/
def placeFault (cls period tail openMin : Nat) (ts : List Nat) : Option Nat :=
  let refresh := 2 ^ cls
  match (List.range period).findSome? fun f =>
      let base := 1024 * f
      match (List.range 8).find? fun k =>
          countIn ts (base + 128 * k) 128 (· == 4) != refresh ||
          countIn ts (base + 128 * k) (min 128 (1024 - tail - 128 * k)) freeType < openMin / 8 with
      | some k => some (base + 128 * k)
      | none =>
        match (List.range 4).find? fun k => countIn ts (base + 256 * k) 256 (· == 5) != 1 with
        | some k => some (base + 256 * k)
        | none => ((List.range tail).find? fun k => ts.getD (base + 1024 - tail + k) 0 != 0).map fun k => base + 1024 - tail + k with
  | some k => some k
  | none => (List.range 16).find? fun k => plannedType (ts.getD k 0)

/-- Reason 0x0A: frame and excess of the first frame that R72 does not admit. -/
def admitFault (cls period tail openMin : Nat) (ts : List Nat) : Option (Nat × Nat) :=
  (List.range period).findSome? fun f =>
    let need := countIn ts (1024 * f) 1024 plannedType + 8 * 2 ^ cls + 4 + openMin + tail
    if 1024 < need then some (f, need - 1024) else none

/-! ### Stream programs (R98) -/

/-- The bits an instruction's row names, with its opcode (R94). -/
def insMask (op : Nat) : Nat :=
  let span (hi lo : Nat) : Nat := 2 ^ (hi + 1) - 2 ^ lo
  span 127 120 + match op with
    | 1 => span 113 112 + span 52 0
    | 2 => span 113 112 + span 109 108 + span 95 80 + span 63 32
    | 3 => span 113 112 + span 111 111 + span 23 0
    | 4 => span 23 0
    | 5 => span 95 80 + span 52 0
    | 6 => span 112 96 + span 31 0
    | 7 => span 112 96 + span 31 0
    | 8 => span 111 96 + span 15 0
    | 9 => span 104 104 + span 103 96
    | _ => 0

/-- An instruction is well formed: known opcode, no reserved bit, fields in range. The spec names no check for a mask address whose [6:0]
are not 0: it is taken as a field out of range, code 0x02, as a ring base that is not a multiple of 128 is under 0x04 in `programFault`.
(DESIGN CHOICE, log 15) -/
def insOk (w : Nat) : Bool :=
  let op := insOp w
  decide (op ≤ 9) && (w ||| insMask op) == insMask op &&
  (op != 1 || (!w.testBit 52 && bits 6 0 w == 0)) && (op != 5 || bits 6 0 w == 0)

/-- The instructions of a stream's range. -/
def Program.range (p : Program) (d : StreamDesc) : List Nat := (p.instrs.drop d.first).take d.len

/-- The REPEATs of a range: own index and target. -/
def repeats (ws : List Nat) : List (Nat × Nat) :=
  (List.range ws.length).filterMap fun i => let w := ws.getD i 0; if insOp w = 8 then some (i, bits 111 96 w) else none

/-- Check 0x02 of a stream: the first failing instruction of its range. -/
def rangeFault (ws : List Nat) : Option Nat :=
  let rs := repeats ws
  match (List.range ws.length).find? fun i =>
      let w := ws.getD i 0
      !insOk w ||
      (insOp w == 8 && (decide (i ≤ bits 111 96 w) ||
        rs.any fun r => decide (r.1 < i) && decide (r.2 < bits 111 96 w) && decide (bits 111 96 w ≤ r.1))) ||
      decide (4 < (rs.filter fun r => decide (r.2 ≤ i) && decide (i ≤ r.1)).length) with
  | some i => some i
  | none =>
    let w := ws.getLastD 0
    if insOp w = 0 && !ws.isEmpty then none
    else if insOp w = 8 && bits 15 0 w = 0 then none
    else some (ws.length - 1)

/-- Check 0x02 of the instructions outside every stream's range: the first that is not well formed. (DEDUCED, log 15) -/
def strayFault (g : Program) : Option Nat :=
  (List.range g.instrs.length).find? fun i =>
    !(g.streams.any fun d => decide (d.first ≤ i) && decide (i < d.first + d.len)) && !insOk (g.instrs.getD i 0)

/-- Check 0x01: the layout of a program body (R93); the result is the stream it fails at. -/
def layoutFault (b : List Byte) : Option Nat :=
  let n := field b 0 2
  let m := field b 2 2
  if b.length < 16 || 64 < n || m < 1 || 4096 < m || field b 4 12 != 0 || b.length != 16 + 32 * n + 16 * m then some 0
  else
    let raw := (List.range n).map fun i => sliceBytes (16 + 32 * i) 32 b
    let ds := raw.map decodeDesc
    (List.range n).findSome? fun i =>
      let d := ds.getD i (decodeDesc [])
      let r := raw.getD i []
      if 64 ≤ d.q || 64 ≤ d.context || 32 ≤ field r 2 1 || (!d.formatted && d.entry != 0) || field r 0x10 16 != 0 ||
        d.len < 1 || m < d.first + d.len ||
        (ds.take i).any (fun e => e.q == d.q || spansMeet e.first e.len d.first d.len) then some d.q else none

/-- The items of a stream from its start, as far as `want` of them (R95, R187: every line present). -/
def streamRuns (p : Program) (d : StreamDesc) (fuel want : Nat) : List DRun :=
  peekRuns (fun k => p.instrs.getD (d.first + k) 0) fuel (Cursor.start d) want

/-- The item at a place among runs; none for a skip or past the end. -/
def itemAt : List DRun → Nat → Option LineItem
  | [], _ => none
  | r :: rs, k => if k < r.count then (if r.skip then none else some (r.lineAt k)) else itemAt rs (k - r.count)

/-- The MOVEs that a program executes from a cursor on: until it ends, or until a REPEAT without end jumps with the generators as they
stood at its first jump, from where on every position comes again. -/
def moveRuns (instr : Nat → Nat) : Nat → Option (List Gen) → Cursor → List DRun
  | 0, _, _ => []
  | fuel + 1, seen, c =>
    let w := instr c.pc
    let endless := insOp w == 8 && bits 15 0 w == 0
    if c.ended || (endless && seen == some c.gens) then []
    else
      let next := c.step w
      (next.2.filter fun r => !r.skip).toList ++
        moveRuns instr fuel (if endless then seen.orElse fun _ => some c.gens else seen) next.1

/-- More steps than a program can take before its positions come again: four loops of 65,536 over 4,096 instructions, and 2^64 positions
of a generator. -/
def moveFuel : Nat := 2 ^ 144

/-- The MOVEs of a stream: instruction, generator at its first item, and the positions it covers. -/
def Program.moves (p : Program) (d : StreamDesc) : List (Nat × Gen × Nat) :=
  ((moveRuns (fun k => p.instrs.getD (d.first + k) 0) moveFuel none (Cursor.start d)).map fun r =>
    (d.first + r.instr, r.gen, min r.count r.gen.size)).eraseDups

/-- The first MOVE of a stream with a position whose line a condition picks. -/
def Program.moveWith (p : Program) (d : StreamDesc) (f : Nat → Bool) : Option Nat :=
  (p.moves d).findSome? fun x => if (List.range x.2.2).any fun i => f (x.2.1.addrAt i) then some x.1 else none

/-- The mask addresses of a stream's range. -/
def Program.maskLines (p : Program) (d : StreamDesc) : List Nat :=
  (p.range d).filterMap fun w => if insOp w = 5 then some (lineOf (bits 52 0 w)) else none

/-- The channels that hold planned slots of a stream, with whether they are all of the right type. -/
def Plan.slotsOfStream (p : Plan) (n : Nat) : List (Nat × Nat) :=
  p.tables.flatMap fun t => (t.2.filter fun r => plannedType r.type && r.stream == n).map fun r => (t.1, r.type)

/-- The n_w of an item under a format section. -/
def nwIn (fs : List FormatEntry) (f : Option Nat) : Nat :=
  match f with | some x => (match fs[x]? with | some e => e.nw | none => 0) | none => 1

/-- A format entry a stream of a direction may name (R98 check 0x05, R134). -/
def entryFits (fs : List FormatEntry) (drain : Bool) (x : Nat) : Bool :=
  match fs[x]? with
  | some e => entryCheck e == 0 && (!drain || e.applied)
  | none => false

/-- A line or object a stream names is one it may use: on its data channel, in this node's populated range, not denied. -/
def lineAllowed (d : StreamDesc) (c : Option Nat) (op : AccessOp) (a : Nat) (s : State) : Bool :=
  !farAddr a && adNode a == s.me && (match c with | some c => homeChan a == c | none => true) &&
  (accessStatus op d.world d.context none a s).isNone

/-- Check 0x06 of one instruction of a range other than MOVE: a mask address, which may lie off the stream's data channel (DEDUCED, log 15),
or an object. -/
def targetAllowed (d : StreamDesc) (setNodes w : Nat) (s : State) : Bool :=
  match insOp w with
  | 5 => lineAllowed d none .read (lineOf (bits 52 0 w)) s
  | 6 => decide (syncNode (insObject w) < setNodes) &&
      (syncNode (insObject w) != s.me || d.world || !s.syncSecure (syncIndex (insObject w)))
  | 7 => decide (syncNode (insObject w) < setNodes) &&
      (syncNode (insObject w) != s.me || d.world || !s.syncSecure (syncIndex (insObject w)))
  | _ => true

/-- Whether a program's items come again: how many come before the first jump of a REPEAT without end, and how many from one such jump to
the next; 1 for a program that ends, whose own slots then carry nothing. -/
def itemCycle (instr : Nat → Nat) : Nat → Option Nat → Nat → Cursor → Nat × Nat
  | 0, _, k, _ => (k, 1)
  | fuel + 1, seen, k, c =>
    if c.ended then (k, 1)
    else
      let w := instr c.pc
      let next := c.step w
      let k' := k + (next.2.map (·.count)).getD 0
      if insOp w == 8 && bits 15 0 w == 0 then
        match seen with
        | some a => (a, max 1 (k' - a))
        | none => itemCycle instr fuel (some k') k' next.1
      else itemCycle instr fuel seen k' next.1

/-- Own slots of a stream in one period of tile t's table. -/
def ownSlots (slots : List (Nat × Nat)) (n : Nat) : Nat := (slots.filter fun x => plannedType x.1 && x.2 == n).length

/-- The streams with planned slots in a table. -/
def tableStreams (slots : List (Nat × Nat)) : List Nat :=
  (slots.filterMap fun x => if plannedType x.1 then some x.2 else none).eraseDups

/-- Periods of a plan after which the items in its slots come again as they were. -/
def Plan.horizon (p : Plan) : Nat :=
  let one (slots : List (Nat × Nat)) (n : Nat) : Nat × Nat :=
    match p.desc? n with
    | some (g, d) =>
      let x := itemCycle (fun k => g.instrs.getD (d.first + k) 0) moveFuel none 0 (Cursor.start d)
      (x.1 / max 1 (ownSlots slots n) + 1, x.2)
    | none => (0, 1)
  let l := p.tables.flatMap fun t => let slots := slotsOf t.2; (tableStreams slots).map (one slots)
  (l.map (·.1)).foldl max 0 + (l.map (·.2)).foldl Nat.lcm 1

/-- The planned lines of period q on tile t: by slot, the stream, its item, and whether it is a write. -/
def Plan.periodLines (p : Plan) (t q : Nat) : List (Option (Nat × LineItem × Bool)) :=
  let slots := slotsOf (((p.tables.find? fun x => x.1 == t).map (·.2)).getD [])
  let ns := tableStreams slots
  let runs := ns.map fun n =>
    (n, match p.desc? n with | some (g, d) => streamRuns g d moveFuel ((q + 1) * ownSlots slots n) | none => [])
  go runs (ns.map fun n => (n, q * ownSlots slots n)) slots
where
  go (runs : List (Nat × List DRun)) : List (Nat × Nat) → List (Nat × Nat) → List (Option (Nat × LineItem × Bool))
    | _, [] => []
    | seen, (k, n) :: rest =>
      if plannedType k then
        let i := ((seen.find? fun x => x.1 == n).map (·.2)).getD 0
        let item := itemAt (((runs.find? fun x => x.1 == n).map (·.2)).getD []) i
        item.map (fun x => (n, x, k == 3)) :: go runs ((n, i + 1) :: seen.filter fun x => x.1 != n) rest
      else none :: go runs seen rest

/-- Feed lines bound for, or collected from, one port in some aligned window of 128 slots exceed 480 (check 0x07). -/
def Plan.portOver (p : Plan) (fs : List FormatEntry) (port : Nat) : Bool :=
  (List.range p.horizon).any fun q =>
  let per : List (List (Option (Nat × LineItem × Bool))) := p.tables.map fun t => p.periodLines t.1 q
  (List.range (8 * p.period)).any fun k =>
    let lines := per.flatMap fun l => ((l.drop (128 * k)).take 128).filterMap fun x => x
    let sum (drain : Bool) : Nat := (lines.map fun x => match p.desc? x.1 with
      | some (_, d) => if d.port = port && d.drain == drain then nwIn fs x.2.1.fmt else 0
      | none => 0).sum
    480 < sum false || 480 < sum true

/-- The first failing check of an engine's program: code, stream, instruction (R98). -/
def programFault (p : Plan) (e setNodes : Nat) (b : List Byte) (s : State) : Option (Nat × Nat × Nat) :=
  match layoutFault b with
  | some q => some (1, q, 0)
  | none =>
    let g := decodeProgram b
    let fs := p.formats.getD s.plans.formats
    let first (code : Nat) (f : StreamDesc → Option Nat) : Option (Nat × Nat × Nat) :=
      g.streams.findSome? fun d => (f d).map fun i => (code, d.q, i)
    let flag (b : Bool) : Option Nat := if b then some 0 else none
    let ins (d : StreamDesc) (bad : Nat → Bool) : Option Nat :=
      ((List.range d.len).find? fun i => bad ((g.range d).getD i 0)).map fun i => d.first + i
    let chans (d : StreamDesc) := p.slotsOfStream (64 * e + d.q)
    let home (d : StreamDesc) : Option Nat := (chans d).head?.map fun x => chanOfTile x.1
    let checks : List (Option (Nat × Nat × Nat)) :=
      [first 2 fun d => (rangeFault (g.range d)).map fun i => d.first + i,
       (strayFault g).map fun i => (2, 0, i),
       first 3 fun d => flag ((chans d).any fun x => x.1 != ((chans d).head?.map (·.1)).getD 0 || x.2 != (if d.drain then 3 else 2)),
       first 4 fun d => flag (decide (64 * s.cfg.nstacks ≤ d.port) ||
         (if d.drain then d.ringLog2 != 0 || d.ringBase != 0 || decide (d.allot < 16) || decide (512 < d.allot)
          else d.allot != 0 || decide (d.ringLog2 < 6) || decide (16 < d.ringLog2) || d.ringBase % 128 != 0 ||
            decide (2 ^ 32 < d.ringBase + 128 * 2 ^ d.ringLog2))),
       first 5 fun d => if d.formatted && !entryFits fs d.drain d.entry then some 0
         else ins d fun w => (insOp w == 9 && w.testBit 104 && !entryFits fs d.drain (bits 103 96 w)) || (d.drain && insOp w == 5),
       first 6 fun d =>
         match ins d fun w => !targetAllowed d setNodes w s with
         | some i => some i
         | none =>
           let op : AccessOp := if d.drain then .write else .read
           g.moveWith d fun a => !lineAllowed d (home d) op a s,
       first 7 fun d => flag (p.portOver fs d.port),
       if 512 < (g.streams.map (·.allot)).sum then some (8, 0, 0) else none,
       first 9 fun d => flag (d.inherit && match s.plans.active with
         | none => true
         | some a => match a.desc? (64 * e + d.q) with
           | some (_, o) => d.drain || o.drain || o.port != d.port || o.ringBase != d.ringBase || o.ringLog2 != d.ringLog2
           | none => true),
       first 10 fun d => flag (d.world != (s.ob 0x2320 d.port == 1))]
    checks.findSome? id

/-! ### Gates, regulators, the audit -/

/-- Reason 0x0F: the entry at which a gate list breaks R65 or the window check of R341. -/
def gateFault (period need : Nat) (b : List Byte) : Option Nat :=
  let k := field b 0 2
  let gs := decodeGates b
  if b.length < 8 || k < 1 || 256 < k || field b 2 6 != 0 || b.length != 8 + 8 * k then some 0
  else match (List.range k).find? fun i =>
      let g := gs.getD i ⟨0, 0⟩
      field b (8 + 8 * i + 4) 2 != 0 || g.interval < 1 || 1024 * period < g.interval with
    | some i => some i
    | none =>
      if (gs.map (·.interval)).sum != 1024 * period then some (k - 1)
      else (List.range 16).findSome? fun l => (shortWindows gs l need).head?

/-- ⌊0.62·m⌋ for the least count of yield and open-path slots of any frame, outside the spread tail (R226). -/
def openShare (period tail : Nat) (ts : List Nat) : Nat :=
  let m := (List.range period).foldl (fun m f => min m (countIn ts (1024 * f) (1024 - tail) freeType)) 1024
  62 * m / 100

/-- A of R226 for a plan, or for the idle table at a class. -/
def State.shareOf (s : State) (p : Option Plan) : Nat :=
  ((List.range (64 * s.cfg.nstacks)).map fun t =>
    let c := chanOfTile t
    match p with
    | some p => match p.tables.find? fun x => x.1 == t with
      | some x => openShare p.period p.tail ((slotsOf x.2).map (·.1))
      | none => openShare 1 p.tail ((List.range 1024).map (idleSlot p.cls))
    | none => openShare 1 (s.tailOf (unitOf c)) ((List.range 1024).map (idleSlot (s.ob (chanIdx c) 4)))).sum

/-- Lines per frame an enabled entry asks for. -/
def Budget.perFrame (b : Budget) : Nat := if b.flags.testBit 0 then (b.budget + b.window - 1) / max 1 b.window else 0

/-- Reason 0x10: the first partition that breaks R66 or R226. -/
def budgetFault (bs : List Budget) (share : Nat) : Option Nat :=
  match (List.range 64).find? fun i =>
      let b := bs.getD i ⟨0, 0, 0, 0, 0⟩
      b.rsvd != 0 || 1 < b.flags ||
      (if b.flags = 1 then b.budget < 1 || b.window < 1 || 1024 < b.window || b.budget < b.burst
       else b.budget != 0 || b.window != 0 || b.burst != 0) with
  | some i => some i
  | none => (List.range 64).find? fun i => decide (share < ((bs.take (i + 1)).map Budget.perFrame).sum)

/-- The planned lines of a table as the audit replays them (R187). -/
def Plan.auditLines (p : Plan) (t : Nat) : List (Option PLine) :=
  (p.periodLines t 0).map fun x => x.map fun l =>
    let o := adOffset l.2.1.addr
    ⟨ofLayer o, ofBank o, ofRow o, ofLine o, l.2.2, false, false⟩

/-- The first stream of a plan with a planned line, or a mask line, that the descriptors do not permit (reason 0x0E of R73, R49). -/
def Plan.deniedStream (p : Plan) (s : State) : Option Nat :=
  p.streams.findSome? fun x =>
    let d := x.2.2
    let denied (op : AccessOp) (a : Nat) : Bool := (accessStatus op d.world d.context none a s).isSome
    if (x.2.1.moveWith d (denied (if d.drain then .write else .read))).isSome || (x.2.1.maskLines d).any (denied .read) then some x.1
    else none

/-- The state with every pending descriptor write applied (R50). -/
def State.regionsApplied (s : State) : State :=
  { s with obj := s.mgmt.pendingTide.foldl (fun m p => if (keyRegion p.1).isSome then put 0 p.1 p.2 m else m) s.obj }

/-- The first failing reason of R73 for an image read whole, at this node; `session` tells whether LOAD was written in a secure
owner session. Where several channels fail the audit, the first slot-table section in image order gives the failing command; reason 0x0E
leaves instance, frame and slot 0. (DESIGN CHOICE, log 15) -/
def State.imageFault (s : State) (img : List Byte) (session : Bool) : Option PlanFault :=
  let me := s.me
  let k := s.cfg.nstacks
  let s' := s.regionsApplied
  match headerFault img with
  | some o => some ⟨2, whereAt me 0 0 0, o⟩
  | none =>
    match crcFault img with
    | some i => some ⟨3, whereAt me 0 0 0, i⟩
    | none =>
      if field img 0x18 1 != s.setNodes || field img 0x19 1 != k then some ⟨4, whereAt me 0 0 0, 0⟩
      else match tableFault k s.setNodes img with
        | some i => some ⟨5, whereAt me 0 0 0, i⟩
        | none =>
          if signatureFault img s then some ⟨6, whereAt me 0 0 0, 0⟩
          else
            let p := decodePlan me img
            let ss := sectionsFor me img
            let ofType (k : Nat) : List Sect := ss.filter fun x => x.type == k
            let tail := p.tail
            let openMin := s.ahead 0x2200 4
            let each (k : Nat) (f : Sect → Option PlanFault) : Option PlanFault := (ofType k).findSome? f
            let types (x : Sect) : List Nat := (slotsOf (decodeRuns (x.body img))).map (·.1)
            let fault (r inst pos d : Nat) : PlanFault := ⟨r, whereAt me inst (pos / 1024) (pos % 1024), d⟩
            let checks : List (Option PlanFault) :=
              [(contextFault p img me session).map fun x => fault 7 0 0 x,
               each 2 fun x => (runFault p x.inst (x.body img)).map fun r => fault 8 x.inst r.2 r.1,
               if tail < s.tailNeed then some (fault 9 0 0 0) else none,
               each 2 fun x => (placeFault p.cls p.period tail openMin (types x)).map fun k => fault 9 x.inst k 0,
               each 2 fun x => (admitFault p.cls p.period tail openMin (types x)).map fun r => fault 10 x.inst (1024 * r.1) r.2,
               if s.ahead 0x2200 2 % p.period != 0 then some (fault 11 0 0 0) else none,
               each 3 fun x => (programFault p x.inst s.setNodes (x.body img) s').map fun r =>
                 fault 12 x.inst 0 (r.1 + 256 * r.2.1 + 65536 * r.2.2),
               each 2 fun x => (audit (p.auditLines x.inst)).map fun r => fault 13 x.inst r.1 r.2,
               (p.deniedStream s').map fun n => fault 14 0 0 n,
               each 4 fun x => (gateFault p.period (s.windowNeed x.inst) (x.body img)).map fun i => fault 15 x.inst 0 i,
               each 5 fun x => (if x.len != 1024 then some 0 else budgetFault (decodeBudgets (x.body img)) (s.shareOf (some p))).map
                 fun i => fault 16 0 0 i,
               each 6 fun x =>
                 let b := x.body img
                 if b.length < 16 || 256 < field b 0 2 || field b 2 14 != 0 || b.length != 16 + 64 * field b 0 2 then
                   some (fault 17 0 0 0)
                 else ((List.range (field b 0 2)).find? fun i => entryCheck ((decodeFormats b).getD i ⟨0, 0, 0, 0, 0, 0, [], 0⟩) != 0).map
                   fun i => fault 17 0 0 i]
            checks.findSome? id

/-- The check code a refused format entry leaves in 0x2400:05 (R133). Of a section refused for its own layout, entry 0 is recorded, with
the code of its own check. (DESIGN CHOICE, log 15) -/
def noteFormatFault (img : List Byte) (f : PlanFault) (s : State) : State :=
  if f.reason != 17 then s
  else match (sectionsFor s.me img).find? fun x => x.type == 6 with
    | some x => recordCheck f.detail (entryCheck ((decodeFormats (x.body img)).getD f.detail ⟨0, 0, 0, 0, 0, 0, [], 0⟩)) s
    | none => s

end Sys2Proof.Machine
end

