-- ==== Sys2Proof/Machine/Tides.lean ====
section
/-!
DEFINITION. Plan commands, tides and the switch from one plan to the next (R54, R69–R81, R86, R87, R115, R116).
-/
namespace Sys2Proof.Machine

/-- The plan state: 0 EMPTY, 1 LOADING, 2 LOADED, 3 ARMED, 4 STOP_ARMED, 5 REFUSED (R70). -/
def State.planState (s : State) : Nat := s.ob 0x2200 6
def setPlanState (v : Nat) (s : State) : State := s.setOb 0x2200 6 v
def State.planArmed (s : State) : Bool := s.planState == 3 || s.planState == 4

/-! ### Tide frames (R75, R77) -/

/-- The first tide at or after a frame. -/
def State.tideFrom (s : State) (f : Nat) : Nat :=
  let n := max 1 (s.ob 0x2200 2)
  let a := s.plans.anchor
  if f ≤ a then a else a + (f - a + n - 1) / n * n
def State.isTide (s : State) (f : Nat) : Bool := s.tideFrom f == f

/-- The frame that selects an armed tide: what 0x2201:05 asks for, if it may (R77). -/
def State.target (s : State) : Option Nat :=
  let want := s.ob 0x2201 5
  let low := s.frame + 16
  if want = 0 then some (s.tideFrom low) else if s.isTide want && decide (low ≤ want) then some want else none

/-- The armed tide frame; a later interval change moves it to the first tide at or after the selected frame. -/
def State.armedTide (s : State) : Nat := s.tideFrom (s.ob 0x2200 7)

/-- Set time has reached `n` frames before frame f. -/
def State.before (s : State) (f n : Nat) : Bool :=
  s.hl.set.epoch.isSome && decide (s.epochT + f * frameT ≤ s.setTicks + n * frameT)

/-! ### The plan commands (R70) -/

/-- Whether a command may be given in the node state and plan state. -/
def commandNode (code : Nat) (s : State) : Bool :=
  match code with
  | 1 => s.power.node == .config || s.power.node == .ready || s.power.node == .run
  | 2 => s.power.node == .ready || s.power.node == .run
  | 3 => s.power.node == .run
  | _ => true
def commandState (code : Nat) (s : State) : Bool :=
  let p := s.planState
  match code with
  | 1 => p == 0 || p == 2 || p == 5
  | 2 => p == 2
  | 3 => (p == 0 || p == 2 || p == 5) && s.plans.active.isSome
  | 4 => p == 2 || p == 5
  | _ => p == 3 || p == 4

/-- The inherit conditions of R116 hold against the active plan. -/
def State.inheritOk (s : State) (p : Plan) : Bool :=
  p.streams.all fun x => !x.2.2.inherit || match s.plans.active.bind fun a => a.desc? x.1 with
    | some (_, o) => !o.drain && o.port == x.2.2.port && o.ringBase == x.2.2.ringBase && o.ringLog2 == x.2.2.ringLog2
    | none => false

/-- Length rules of reason 0x01. -/
def lengthBad (len : Nat) : Bool := decide (len < 16) || decide (2 ^ 26 < len) || len % 16 != 0

/-- The first line of the image and how many lines it meets. -/
def State.imageSpan (s : State) : Nat × Nat :=
  let a := s.ob 0x2201 1
  (lineOf a, (a + s.ob 0x2201 2 - lineOf a + 127) / 128)

/-- The line of an image that a request reads. -/
def Purpose.imageLine : Purpose → Option Nat
  | .image i => some i
  | _ => none

/-- What the Sequencer still reads of an image is given up. -/
def dropImage (s : State) : State := abandonReads (fun w => w.imageLine.isSome) s

/-- The Sequencer reads the image through the open path, on whichever node it lies, with the class of 0x2201:03 (R71). -/
def readImage (world : Bool) (s : State) : State :=
  let s := dropImage s
  let (first, k) := s.imageSpan
  if lengthBad (s.ob 0x2201 2) then s
  else forEach (List.range k) (fun i s => offerChecked (s.unitAsk 0 (s.ob 0x2201 3) 0 world (first + 128 * i) .read (.image i)) s) s

/-- LOAD: the loaded plan is discarded and the image is read. -/
def loadPlan (session : Bool) (s : State) : State :=
  readImage session (setPlanState 1 ((s.setPlans { s.plans with loaded := none, loading := some (s.now, session) }).setOb 0x2201 6 0))

/-- ARM and STOP for a tide frame. -/
def armPlan (stop : Bool) (f : Nat) (s : State) : State :=
  let s := s.setPlans { s.plans with stopping := stop, armedFrom := s.planState, prepared := false, votes := [], decision := none }
  setPlanState (if stop then 4 else 3) ((s.setOb 0x2200 7 f).setOb 0x2200 8 0)

/-- The armed plan goes back to the state held before arming. -/
def unarm (s : State) : State :=
  let s := setPlanState s.plans.armedFrom s
  (s.setPlans { s.plans with stopping := false, prepared := false, votes := [], decision := none }).setOb 0x2200 7 0

/-- The commit point of the armed tide has passed (R78). -/
def State.pastCommit (s : State) : Bool := s.plans.decision.isSome || s.before s.armedTide 4

/-- A plan command. (DEDUCED, log 46) -/
def planCommand (code : Nat) (session : Bool) : Home := fun _ s =>
  if s.procs.sequencer.restart.isSome && code ≤ 3 then .refused St.retry 0 s
  else if !commandNode code s then .denied s
  else if !commandState code s then
    (if s.planState = 1 || s.planArmed then .refused St.retry 0 s else .denied s)
  else match code with
    | 1 => .done (loadPlan session s)
    | 2 => match s.target, s.plans.loaded with
      | some f, some p => if s.inheritOk p then .done (armPlan false f s) else .denied s
      | _, _ => .denied s
    | 3 => match s.target with
      | some f => .done (armPlan true f s)
      | none => .denied s
    | 4 => .done (setPlanState 0 ((s.setPlans { s.plans with loaded := none }).setOb 0x2201 6 0))
    | _ => if s.pastCommit then .denied s else .done (unarm s)

/-- 0x2201:04, the value being the command. -/
def planHome (value : Nat) (session : Bool) : Home := planCommand value session

/-- PLAN_LOAD. -/
def execPlanLoad (r : Req) (s : State) : Res := .next (dictWrite r 0x2201 4 [1] (planHome 1 (s.isOwner r)) s)
/-- PLAN_ARM. -/
def execPlanArm (r : Req) (s : State) : Res := .next (dictWrite r 0x2201 4 [2] (planHome 2 (s.isOwner r)) s)
/-- PLAN_STOP. -/
def execPlanStop (r : Req) (s : State) : Res := .next (dictWrite r 0x2201 4 [3] (planHome 3 (s.isOwner r)) s)
/-- PLAN_DISCARD. -/
def execPlanDiscard (r : Req) (s : State) : Res := .next (dictWrite r 0x2201 4 [4] (planHome 4 (s.isOwner r)) s)
/-- PLAN_DISARM. -/
def execPlanDisarm (r : Req) (s : State) : Res := .next (dictWrite r 0x2201 4 [5] (planHome 5 (s.isOwner r)) s)

/-! ### The end of a LOAD (R71, R73) -/

/-- A refusal: the image is discarded. -/
def refusePlan (f : PlanFault) (s : State) : State :=
  let s := dropImage (s.setPlans { s.plans with loaded := none, loading := none })
  let s := (((setPlanState 5 s).setOb 0x2201 7 f.reason).setOb 0x2201 8 f.at_).setOb 0x2201 9 f.detail
  raiseNode Ev.planRefused f.reason s

/-- What the reads of the image have brought, once all have ended: its bytes, or the status of the first line that did not complete OK. -/
def State.imageRead (s : State) : Option (List Byte ⊕ Nat) :=
  let (first, k) := s.imageSpan
  let reads := s.path.asks.filter fun q => q.why.imageLine.isSome
  if reads.length != k || reads.any fun q => q.stage != .finished then none
  else
    let results := reads.map fun q => q.result.getD (St.unreachable, none)
    match results.find? fun r => r.1 != St.ok with
    | some r => some (.inr r.1)
    | none => some (.inl (((results.flatMap fun r => leBytes 128 (r.2.getD 0)).drop (s.ob 0x2201 1 - first)).take (s.ob 0x2201 2)))

/-- This node's own finding, once the image is read: its refusal, if it refuses it, and the image. -/
def State.ownFault (s : State) (session : Bool) : Option (Option PlanFault × List Byte) :=
  if lengthBad (s.ob 0x2201 2) then some (some ⟨1, whereAt s.me 0 0 0, 0⟩, [])
  else s.imageRead.map fun r => match r with
    | .inr st => (some ⟨1, whereAt s.me 0 0 0, st⟩, [])
    | .inl b => (s.imageFault b session, b)

/-- Every reachable node has finished its checks: `other` is a refusal another node has reported. This node's own reads must have ended. -/
def imageChecked (other : Option PlanFault) (s : State) : State :=
  match s.plans.loading with
  | none => s
  | some (_, session) =>
    if s.planState != 1 then s
    else match s.ownFault session, other with
      | some (some f, b), _ => noteFormatFault b f (refusePlan f s)
      | _, some f => refusePlan f s
      | some (none, b), none =>
        let p := decodePlan s.me b
        let s := dropImage (s.setPlans { s.plans with loaded := some p, loading := none })
        raiseNode Ev.planLoaded p.id ((setPlanState 2 s).setOb 0x2201 6 p.id)
      | none, none => s

/-- A returning node, or one at the end of its warm reset, has still to read the active image (R81, R429). -/
def State.mustReread (s : State) : Bool :=
  !s.power.reloaded && ((s.power.shadow && s.power.rejoin) || (s.power.warm && !s.power.shadow && s.power.node == .config))

/-- Such a node reads the image of the set's active plan: its identifier and CRC must be those of the plan, or the node comes to stand in
shadow state with reason 0x03 (R81). An image not yet read, or one whose reads were put off, is read again. A set that runs no plan,
identifier 0, has no image to read. (DEDUCED, log 46) -/
def rejoinChecked (id crc : Nat) (s : State) : State :=
  if id = 0 then passed none s
  else if lengthBad (s.ob 0x2201 2) then bad s
  else match s.imageRead with
    | some (.inl b) =>
      let p := decodePlan s.me b
      if p.id = id && p.crc = crc && (crcFault b).isNone then passed (some p) s else bad s
    | some (.inr st) => if st = St.retry then readImage false s else bad s
    | none => if s.path.asks.any fun q => q.why.imageLine.isSome then s else readImage false s
where
  /-- The node may join. -/
  passed (p : Option Plan) (s : State) : State :=
    let s := dropImage s
    { s with power := { s.power with reloaded := true }, plans := { s.plans with returning := p } }
  /-- Reason 0x03: the node stays, or comes to stand, in shadow state. -/
  bad (s : State) : State :=
    let s := dropImage s
    ({ s with power := { s.power with rejoin := false, shadow := true } }).setOb 0x2201 7 3

/-- PLAN_IMAGE_CHECKED: `reason`, `place` and `detail` another node's refusal (reason 0: none); with `rejoin`, the check of a node that is
to take up the set's active plan, of identifier `id` and CRC `crc`. -/
def execPlanImageChecked (reason place detail : Nat) (rejoin : Bool) (id crc : Nat) (s : State) : Res :=
  .next (if rejoin then (if s.mustReread then rejoinChecked id crc s else s)
    else imageChecked (if reason = 0 then none else some ⟨reason, place, detail⟩) s)

/-- PLAN_LOAD_TIMEOUT (R71): 2 s. The location names this node. (DESIGN CHOICE, log 15) -/
def execPlanLoadTimeout (s : State) : Res :=
  .next (match s.plans.loading with
    | some (t, _) => if s.planState = 1 && s.elapsed t (2 * secT) then refusePlan ⟨1, whereAt s.me 0 0 0, 0⟩ s else s
    | none => s)

/-! ### Votes (R78, R79) -/

/-- Everything a plan needs here is in service: channels with tables, engines, units and ports of its streams. -/
def State.unitsReady (s : State) (p : Plan) : Bool :=
  (p.tables.all fun t => let c := chanOfTile t.1; s.chanState c == 0 || s.chanState (s.servedBy c) == 5) &&
  (p.programs.all fun e => s.ob (engineIdx e.1) 1 < 2) &&
  (p.streams.all fun x => s.portState x.2.2.port == 0 &&
    (!(x.2.2.formatted || (x.2.1.range x.2.2).any fun w => insOp w == 9 && w.testBit 104) ||
      s.unitState (sheafOfEngine (engineOf x.1)) == 0)) &&
  !s.hl.set.unsynchronised &&
  (p.gates.all fun g => let x := s.port g.1; x.state != .down && x.state != .refused)

/-- This node's vote for a tide that activates a plan, or the empty plan (R79, R426). -/
def State.vote (s : State) (plan : Nat) : Bool :=
  let low := s.power.node == .rest || s.power.node == .deep || s.power.entering
  if s.power.warm then false
  else if s.planState = 4 then s.procs.sequencer.restart.isNone
  else match s.plans.loaded with
    | none => false
    | some p =>
      p.id == plan && s.planState == 3 && s.procs.sequencer.restart.isNone && s.unitsReady p &&
      !(low && !p.tables.isEmpty) && (s.feeds.streams.all fun x => x.2.lag == 0) && (p.deniedStream s.regionsApplied).isNone

/-- PREPARE arrives: the lead's frame is the target, and the node answers with its vote. -/
def takePrepare (f plan : Nat) (s : State) : State :=
  let s := if s.planArmed then (s.setOb 0x2200 7 f).setPlans { s.plans with decision := none } else s
  let v := if s.planArmed && s.vote plan then 1 else 2
  sendControl 7 s.hl.set.lead (leBytes 8 f ++ leBytes 1 v ++ zeroBytes 7) s

/-- A vote arrives at the lead node. -/
def takeVote (node : Nat) (ready : Bool) (f : Nat) (s : State) : State :=
  if s.isLead && s.plans.prepared && s.armedTide = f then
    s.setPlans { s.plans with votes := s.plans.votes.filter (fun v => v.1 != node) ++ [(node, ready)] }
  else s

/-- DEFER: armed for the next tide, or, after 16 deferrals in a row, no longer armed (R78, R79). -/
def deferTide (s : State) : State :=
  let n := s.ob 0x2200 8 + 1
  let f := s.tideFrom (s.armedTide + 1)
  let s := s.setOb 0x2200 8 n
  if 16 ≤ n then
    let s := unarm s
    raiseNode Ev.armFailed n s
  else (s.setOb 0x2200 7 f).setPlans { s.plans with prepared := false, votes := [], decision := none }

/-- COMMIT. -/
def commitTide (s : State) : State := s.setPlans { s.plans with decision := some true }

/-- A tide is armed that has not switched: until its old state is retired the plan state goes on reading ARMED (R78). -/
def State.tideAhead (s : State) : Bool := s.planArmed && s.plans.retiring.isNone

/-- The lead prepares an armed tide, 8 frames before it. -/
def prepareTide (s : State) : State :=
  if !(s.isLead && s.tideAhead && !s.plans.prepared && s.plans.decision.isNone && s.before s.armedTide 8) then s
  else
    let f := s.armedTide
    let id := if s.planState = 4 then 0 else (s.plans.loaded.map (·.id)).getD 0
    let s := s.setPlans { s.plans with prepared := true, votes := [(s.me, s.vote id)] }
    flood 6 (leBytes 8 f ++ leBytes 8 id) s

/-- Every reachable node has voted READY. -/
def State.allReady (s : State) : Bool :=
  (s.me :: s.others).all fun n => s.plans.votes.any fun v => v.1 == n && v.2

/-- The commit point, at the lead node. -/
def commitPoint (s : State) : State :=
  if !(s.isLead && s.tideAhead && s.plans.prepared && s.plans.decision.isNone && s.before s.armedTide 4) then s
  else
    let body := leBytes 8 s.armedTide
    if s.allReady then commitTide (flood 8 body s)
    else deferTide (raiseNode Ev.tideDeferred 0 (flood 9 body s))

/-- A node that has no decision one frame before the tide keeps its active plan, isolated (R78); its arming ends. -/
def decisionMissing (s : State) : State :=
  if s.tideAhead && s.plans.decision.isNone && s.before s.armedTide 1 then
    let s := raiseNode Ev.tideIsolated 0 (unarm s)
    s.setPlans { s.plans with isolated := true }
  else s

/-- TIDE_PREPARE_POINT. -/
def execTidePreparePoint (s : State) : Res := .next (prepareTide s)
/-- COMMIT_POINT. -/
def execCommitPoint (s : State) : Res := .next (commitPoint s)
/-- TIDE_DECISION_MISSING. -/
def execTideDecisionMissing (s : State) : Res := .next (decisionMissing s)

/-- PREPARE. -/
def execPrepare (h : Nat) (hdr : Hdr) (frame plan : Nat) (s : State) : Res :=
  if portOk h then .next (takeParcel h hdr (leBytes 8 frame ++ leBytes 8 plan) (takePrepare (frame % 2 ^ 64) (plan % 2 ^ 64)) s)
  else .fault .absentUnit
/-- VOTE. -/
def execVote (h : Nat) (hdr : Hdr) (frame vote : Nat) (s : State) : Res :=
  if portOk h then .next (takeParcel h hdr (leBytes 8 frame ++ leBytes 1 vote ++ zeroBytes 7)
    (takeVote hdr.origin (vote % 256 == 1) (frame % 2 ^ 64)) s)
  else .fault .absentUnit
/-- COMMIT. -/
def execCommitTide (h : Nat) (hdr : Hdr) (frame : Nat) (s : State) : Res :=
  if portOk h then .next (takeParcel h hdr (leBytes 8 frame) (fun s => if s.planArmed && s.armedTide = frame % 2 ^ 64 then commitTide s
    else s) s)
  else .fault .absentUnit
/-- DEFER. -/
def execDeferTide (h : Nat) (hdr : Hdr) (frame : Nat) (s : State) : Res :=
  if portOk h then .next (takeParcel h hdr (leBytes 8 frame) (fun s => if s.planArmed && s.armedTide = frame % 2 ^ 64 then deferTide s
    else s) s)
  else .fault .absentUnit

/-! ### The switch (R76, R78, R86, R115, R116) -/

/-- What a switching tide leaves of a stream of the old plan: lines already issued, and the SIGNALs behind them. -/
def Stream.retire (t : Stream) : Stream :=
  { t with runs := [], waiting := none, watched := none, masks := [], lag := 0, collected := []
           signals := t.signals.filter fun g => decide (g.after ≤ t.issued), drain := t.drain.filter fun d => d.ask.isSome }

/-- A stream of a new plan at its start (R101, R102, R115, R116). -/
def startStream (n : Nat) (d : StreamDesc) (s : State) : Stream :=
  let old := s.oldStream? n
  let base := match old with | some o => o.issued | none => 0
  let ring := match old with | some o => if d.inherit && !o.desc.drain then some (o.ring, o.credits) else none | none => none
  { desc := d, cur := .start d, runs := [], pos := 0, sigma := 0, lag := 0, first := base, issued := base, landed := base
    decoded := base, credits := if d.drain then d.allot else match ring with | some r => r.2 | none => ringSize d
    ring := match ring with | some r => r.1 | none => 0
    fed := if ring.isSome then (match old with | some o => o.fed | none => 0) else 0
    waiting := none, watched := none, masks := [], signals := [], feed := [], drain := [], collected := [], drained := 0
    fences := [], lastIssue := s.now, fenced := false }

/-- What is still to come of an older stream of the same number and port comes before what is to come of a retired one. (DESIGN CHOICE,
log 46) -/
def Stream.behind (t : Stream) (older : Option Stream) : Stream :=
  match older with
  | some o =>
    if o.pending && o.desc.port == t.desc.port && o.desc.drain == t.desc.drain then
      { t with landed := o.landed, signals := o.signals ++ t.signals, fences := o.fences ++ t.fences, feed := o.feed ++ t.feed
               drain := o.drain ++ t.drain }
    else t
  | none => t

/-- Every stream of the running plan becomes an old one. -/
def retireStreams (s : State) : State :=
  let s := forEach s.feeds.streams (fun p s => dropEscapes p.2 s) s
  let kept := s.feeds.old.filter fun p => p.2.pending && (s.stream? p.1).isNone
  let gone := s.feeds.streams.map fun p => (p.1, p.2.retire.behind (s.oldStream? p.1))
  let s := s.setFeeds { s.feeds with old := kept ++ gone, streams := [] }
  let s := { s with cache := { s.cache with watches := s.cache.watches.filter fun w => decide (4096 ≤ w.2) } }
  abandonReads (fun w => match w with | .mask _ _ => true | _ => false) s

/-- The engines carry the streams of a plan; a drain stream grants its credits (R102). Streams of a fenced context do not start. -/
def startStreams (p : Plan) (s : State) : State :=
  let go := p.streams.filter fun x => !s.fenced x.2.2.context && decide (s.ob (engineIdx (engineOf x.1)) 1 < 2)
  let s := s.setFeeds { s.feeds with streams := go.map fun x => (x.1, startStream x.1 x.2.2 s) }
  forEach go (fun x s => if x.2.2.drain then s.send (.credit x.2.2.port x.1 x.2.2.allot) else s) s

/-- Engine states follow what the engines carry: 0 empty, 1 running; a faulted or shadow engine keeps its state (R123). -/
def setEngines (s : State) : State :=
  forEach (List.range (16 * s.cfg.nstacks)) (fun e s =>
    if 2 ≤ s.ob (engineIdx e) 1 then s
    else s.setOb (engineIdx e) 1 (b2n (s.feeds.streams.any fun p => engineOf p.1 == e))) s

/-- Regulator entries of a plan come into force; their windows begin at the tide (R225). -/
def setBudgets (bs : List Budget) (s : State) : State :=
  forEach (List.range 64) (fun r s =>
    let b := bs.getD r ⟨0, 0, 0, 0, 0⟩
    let i := regIdx r
    stopWindow r ((((s.setOb i 1 b.budget).setOb i 2 b.window).setOb i 3 (b.flags % 2)).setOb i 4 b.burst)) s

/-- Fences that software asked to clear go at a switching tide, for contexts the new plan marks in_use (R86); the slots of contexts
still fenced run as yield. -/
def clearFences (p : Option Plan) (s : State) : State :=
  let keep (x : Nat) : Bool := !(s.plans.clears.testBit x && match p with | some p => p.inUse x | none => false)
  let m := (List.range 64).foldl (fun m x => if s.fenced x && keep x then m + 2 ^ x else m) 0
  (s.setPlans { s.plans with clears := 0, yielded := m }).setOb 0x2203 1 m

/-- The switch at tide frame f: everything of R76 goes from shadow to active together. -/
def switchPlan (f : Nat) (s : State) : State :=
  let stop := s.plans.stopping
  let p := if stop then none else s.plans.loaded
  let s := clearFences p (retireStreams s)
  let s := joinEngines f s
  let s := s.setPlans { s.plans with
    active := p, loaded := if stop then s.plans.loaded else none, activeFrom := f, broken := []
    gates := (match p with | some p => p.gates | none => []), formats := (match p.bind (·.formats) with | some l => l | none => s.plans.formats)
    retiring := some (f, (p.map (·.id)).getD 0), prepared := false, votes := [], decision := none }
  let s := match p with | some p => startStreams p s | none => s
  let s := setEngines s
  let s := match p.bind (·.regulators) with | some bs => setBudgets bs s | none => s
  let s := (s.setOb 0x2204 3 (b2n ((p.map (·.continuity)).getD false))).setOb 0x2202 5 0
  forEach (List.range s.channels) (fun c s => s.modChan c fun x => { x with preabDue := true }) s

/-- One frame after a switching tide the old plan's state goes, but for what LANDED and drains still owe (R78, R115). -/
def retireSwitch (s : State) : State :=
  match s.plans.retiring with
  | some (f, id) =>
    if s.before (f + 1) 0 then
      let s := sweepOld (s.setPlans { s.plans with retiring := none, stopping := false })
      let s := ((setPlanState (if s.planState = 4 then (if s.plans.loaded.isSome then 2 else 0) else if s.planState = 3 then 0 else s.planState) s).setOb
        0x2200 5 id).setOb 0x2200 7 0
      raiseNode Ev.tideSwitch id (if s.plans.loaded.isNone then s.setOb 0x2201 6 0 else s)
    else s
  | none => s

/-- TIDE_SWITCH_RETIRED. -/
def execTideSwitchRetired (s : State) : Res := .next (retireSwitch s)

/-! ### Interval and fence objects (R75, R86) -/

/-- The periods that bind the tide interval: of the active, the loaded and the armed plan. -/
def State.periods (s : State) : List Nat := ((s.plans.active.toList ++ s.plans.loaded.toList).map (·.period))

/-- 0x2200:02. -/
def intervalHome (v : Nat) : Home := fun _ s =>
  if s.periods.any fun p => v % p != 0 then .denied s
  else if s.rwlAtOnce true then
    let a := if s.before 0 0 then (s.setTicks - s.epochT + frameT - 1) / frameT else 0
    .done ((s.setOb 0x2200 2 v).setPlans { s.plans with anchor := a })
  else .done (pendTide (256 * 0x2200 + 2) v s)

/-- TIDE_INTERVAL_WRITE. -/
def execTideIntervalWrite (r : Req) (value : Nat) (s : State) : Res :=
  .next (dictWrite r 0x2200 2 (leBytes 4 value) (intervalHome (value % 2 ^ 32)) s)

/-- 0x2203:02. -/
def fenceClearHome (mask : Nat) : Home :=
  applyHome fun s => s.setPlans { s.plans with clears := s.plans.clears ||| mask }

/-- FENCE_CLEAR. -/
def execFenceClear (r : Req) (mask : Nat) (s : State) : Res :=
  .next (dictWrite r 0x2203 2 (leBytes 8 mask) (fenceClearHome (mask % 2 ^ 64)) s)

end Sys2Proof.Machine
end

