-- ==== Sys2Proof/Machine/Derate.lean ====
section
/-!
DEFINITION. What a slot of a channel is for (R27, R61, R63, R86), the planned window (R186), and the slots derates take
(R82–R84, R286, R287).
-/
namespace Sys2Proof.Machine

/-! ### Derate causes -/

/-- A derate cause is present: 0 refresh, 1 slack, 2 throttle, 3 slip (R82). -/
def State.derated (s : State) (b : Nat) : Bool := (s.ob 0x2202 1).testBit b

/-- A derate cause begins: its event is raised at its onset. -/
def startDerate (b : Nat) (s : State) : State :=
  if s.derated b then s else raiseNode Ev.planDerate b (s.setOb 0x2202 1 (setBit b true (s.ob 0x2202 1)))

/-- The plan a node runs. -/
def State.running (s : State) : Option Plan := if s.power.node = .run then s.plans.active else none

/-- A stack's bandwidth is throttled (R285, R286). -/
def State.throttled (s : State) (st : Nat) : Bool :=
  let l := s.ob (0x9008 + st) 1
  l == 3 || (s.heat.unanswered && l == 2)

/-- Collective grace runs on a stack (R287). -/
def State.graceRuns (s : State) (st : Nat) : Bool :=
  s.ob (0x9008 + st) 1 == 3 && !s.heat.unanswered && decide (s.now + 1 < look 0 st s.heat.grace)

/-- The refresh class of a channel's sheaf (R198). -/
def State.refreshClass (s : State) (c : Nat) : Nat := s.ob (chanIdx c) 4

/-! ### What a slot is for -/

/-- The type and stream of slot k of a period. -/
def runAt : List Run → Nat → Nat × Nat
  | [], _ => (0, 0)
  | r :: rs, k => if k < r.len then (r.type, r.stream) else runAt rs (k - r.len)

/-- A channel runs the slot table of a data channel: its own, or that of the channel it substitutes for (R18, R209). -/
def State.servesData (s : State) (c : Nat) : Bool := (s.chanState c == 0 && !isSpare c) || s.chanState c == 5

/-- The slot table a channel runs, if the plan has one for it. -/
def State.tableOf (s : State) (c : Nat) : Option (Plan × List Run) :=
  match s.running with
  | none => none
  | some p =>
    if !s.servesData c then none
    else match State.tableRuns p (tileOf (s.homeOfChan c)) with
      | [] => none
      | runs => some (p, runs)

/-- The class of the idle table a channel runs: the plan's for a channel the plan gives no table, otherwise its sheaf's (R61,
R81, R209). -/
def State.idleClass (s : State) (c : Nat) : Nat :=
  match s.running with
  | some p => if s.servesData c then p.cls else s.refreshClass c
  | none => s.refreshClass c

/-- The type and stream of a slot as the table gives them. -/
def State.slotType (s : State) (c slot : Nat) : Nat × Nat :=
  match s.tableOf c with
  | some (p, runs) => runAt runs ((s.frameOf slot - s.plans.activeFrom) % max 1 p.period * 1024 + slotInFrame slot)
  | none => (idleSlot (s.idleClass c) (slotInFrame slot), 0)

/-- A slot that stays idle: one of a fenced context before the tide that follows the fence (R28, R86). -/
def idleUse : Nat := 9

/-- What a slot is used as: a planned slot of a fenced context is idle until the next tide and then yield (R86); one of a
stream that did not start is yield. -/
def State.slotUse (s : State) (c slot : Nat) : Nat × Nat :=
  let x := s.slotType c slot
  if !plannedType x.1 then x
  else match s.stream? x.2 with
    | none => (0, 0)
    | some t =>
      if !t.fenced && !s.fenced t.desc.context then x
      else if s.plans.yielded.testBit t.desc.context then (0, 0) else (idleUse, 0)

/-- The frame at which a committed switching tide falls (R78). -/
def State.switchAt (s : State) : Option Nat := if s.planArmed && s.plans.decision == some true then some s.armedTide else none

def State.takenOf (s : State) (c : Nat) : Taken := look .reset c s.plans.taken

/-- The cause for which a slot is taken, if it is (R82). -/
def State.takenFor (s : State) (c slot : Nat) : Option Nat := ((s.takenOf c).slots.find? fun x => x.1 == slot).map (·.2)

/-! ### The planned window (R186) -/

/-- A line item due in a slot of the window: stream, its line number, the item, whether it is written, whether it is masked. -/
structure Due where
  n : Nat
  num : Nat
  item : LineItem
  write : Bool
  masked : Bool
  deriving DecidableEq, Repr

/-- What an own slot does to a stream if its line is ready: the line item due, and the stream after it (R100). -/
def Stream.ownSlot (n : Nat) (t : Stream) : Option Due × Stream :=
  let t := t.dropSkips
  match t.head with
  | none => (none, { t with sigma := t.sigma + 1 })
  | some none => (none, { t.pop with sigma := t.sigma + 1 })
  | some (some i) =>
    (some ⟨n, t.issued, i, t.desc.drain, t.isMasked i⟩, { t.pop with sigma := t.sigma + 1, issued := t.issued + 1 })

/-- The line items due in the next k slots of a channel, as its streams have decoded them; it stops at a committed switching
tide. -/
def State.dueFrom (s : State) (c : Nat) : Nat → Nat → List (Nat × Stream) → List (Option Due)
  | 0, _, _ => []
  | k + 1, slot, ts =>
    if (match s.switchAt with | some f => decide (f ≤ s.frameOf slot) | none => false) then []
    else
      let x := s.slotUse c slot
      match if plannedType x.1 then ts.find? fun p => p.1 == x.2 else none with
      | none => none :: s.dueFrom c k (slot + 1) ts
      | some (n, t) =>
        let put (t : Stream) : List (Nat × Stream) := ts.map fun p => if p.1 == n then (n, t) else p
        if (s.takenFor c slot).isSome then
          let t := t.dropSkips
          let t := match t.head with | some none => t.pop | _ => t
          none :: s.dueFrom c k (slot + 1) (put { t with sigma := t.sigma + 1 })
        else
          let r := t.ownSlot n
          r.1 :: s.dueFrom c k (slot + 1) (put r.2)

/-- The line items due on a channel in the k slots from a slot on. -/
def State.dueIn (s : State) (c slot k : Nat) : List (Option Due) := s.dueFrom c k slot s.feeds.streams

/-- A span of channel slots that holds the next 1,024 own slots of every stream of the channel, as far as a stream is decoded (R97): each
has at least one own slot in a period of the table. -/
def State.decodeSpan (s : State) (c : Nat) : Nat :=
  match s.tableOf c with
  | some (p, _) => 1024 * (max 1 p.period * 1024)
  | none => 0

/-- The fixed chaff of a set of five or more nodes (R113). -/
def State.chaff (s : State) : Bool := decide (5 ≤ s.setNodes)

/-- The move that has a row of a channel in its buffer (R259). -/
def State.moveAt (s : State) (l : Loc) : Option Move :=
  match (s.chan l.c).move with
  | some m => if m.layer = l.layer && m.bank = l.bank && m.row = l.row then some m else none
  | none => none

/-- The line of a row in the move buffer, once it is there. -/
def State.moveLine (s : State) (l : Loc) : Option (Nat × Nat) := (s.moveAt l).bind fun m => (m.buffer.getD l.line none)

/-- A due line as the row and column commands see it: it has no column command on its channel when it is masked in a small set (R113), or
present and retired to another channel or served from the move buffer. -/
def State.pline (s : State) (c : Nat) (d : Due) : PLine :=
  let o := adOffset d.item.addr
  let l := s.place d.item.addr
  ⟨ofLayer o, ofBank o, ofRow o, ofLine o, d.write, d.masked,
    if d.masked then !s.chaff else l.c != c || (s.moveAt l).isSome⟩

/-- The planned window of a channel: the lines of the next k slots from a slot on. -/
def State.window (s : State) (c slot k : Nat) : List (Option PLine) :=
  (s.dueIn c slot k).map fun x => x.map fun d => s.pline c d

/-! ### The slots derates take (R83) -/

/-- The planned slots of a window in the order in which derates take them (R83 step 3): by context, lowest priority first, then
the higher number; within a context, from the last slot backwards. While collective grace runs, collective contexts come
last. -/
def takeOrder (key : Nat → Nat) (l : List (Nat × Nat)) : List (Nat × Nat) :=
  sortList l fun a b => decide (key a.2 < key b.2) || (key a.2 == key b.2 && decide (b.1 ≤ a.1))

/-- The order of a context among those a derate takes slots from. -/
def Plan.takeKey (p : Plan) (grace : Bool) (ctx : Nat) : Nat :=
  (if grace && p.collective ctx then 1024 else 0) + 64 * p.priority ctx + (63 - ctx)

/-- The planned slots of a window with their contexts: (slot, context). -/
def State.plannedIn (s : State) (c first : Nat) : List (Nat × Nat) :=
  (List.range 128).filterMap fun i =>
    let x := s.slotUse c (first + i)
    if plannedType x.1 then (s.stream? x.2).map fun t => (first + i, t.desc.context) else none

/-- Mark slots of a channel as taken for a cause. -/
def takeSlots (c cause : Nat) (l : List Nat) (s : State) : State :=
  let x := s.takenOf c
  s.setPlans { s.plans with taken := put .reset c { x with slots := x.slots ++ l.map fun k => (k, cause) } s.plans.taken }

/-- What a taken planned slot brings: degradation step 5, and a break of continuity when its context is collective (R83, R87). -/
def plannedTaken (p : Plan) (ctx : Nat) (s : State) : State :=
  let s := degrade 5 s
  if p.collective ctx then breakContinuity 3 s else s

/-- Count planned slots taken from a channel in the frame under way, for 0x2202:02 and :03. (DEDUCED, log 16) -/
def countTaken (c k : Nat) (s : State) : State :=
  let x := s.takenOf c
  let x := { x with planned := x.planned + k }
  let d := if k = 0 || s.plans.derated.contains c then s.plans.derated else c :: s.plans.derated
  let s := s.setPlans { s.plans with taken := put .reset c x s.plans.taken, derated := d }
  (s.peak 0x2202 2 x.planned).setOb 0x2202 3 d.length

/-- A channel counts as derated since the last tide. -/
def markDerated (c : Nat) (s : State) : State :=
  let d := if s.plans.derated.contains c then s.plans.derated else c :: s.plans.derated
  (s.setPlans { s.plans with derated := d }).setOb 0x2202 3 d.length

/-- The column commands of the planned lines of a window. -/
def State.linesIn (s : State) (c first : Nat) : List Nat :=
  (((List.range 128).zip (s.window c first 128)).filterMap fun p => match p.2 with
    | some l => if l.silent then none else some (first + p.1)
    | none => none)

/-- Take a window's slots for a running plan: refresh, then slack, then throttle. The open-path minimum of step 4 is judged in the
window, as an eighth of 0x2200:04. (DEDUCED, log 16) -/
def takeWindow (c first : Nat) (p : Plan) (s : State) : State :=
  let st := stackOf c
  let free (ty : Nat) : List Nat := (List.range 128).filterMap fun i =>
    if (s.slotUse c (first + i)).1 = ty then some (first + i) else none
  let open_ := free 0 ++ free 1
  let need := 2 ^ s.refreshClass c - 2 ^ p.cls
  let fromOpen := open_.take need
  let planned := s.plannedIn c first
  let order := takeOrder (p.takeKey (s.graceRuns st)) planned
  let forRefresh := order.take (need - fromOpen.length)
  let nSlack := if s.derated 1 then (planned.length + 7) / 8 else 0
  let forSlack := (order.drop forRefresh.length).take nSlack
  let s := takeSlots c 0 (fromOpen ++ forRefresh.map (·.1)) s
  let s := takeSlots c 1 (forSlack.map (·.1)) s
  let cap := 128 - s.ob 0x9000 3
  let lines := s.linesIn c first
  let excess := if s.throttled st then lines.length - cap else 0
  let left := (takeOrder (p.takeKey false) planned).filter fun x =>
    lines.contains x.1 && !(s.graceRuns st && p.collective x.2)
  let forThrottle := left.take excess
  let s := takeSlots c 2 (forThrottle.map (·.1)) s
  let gone := forRefresh ++ forSlack ++ forThrottle
  let s := forEach gone (fun x s => plannedTaken p x.2 s) s
  let s := countTaken c gone.length s
  let s := if fromOpen.isEmpty then s else markDerated c s
  let minimum := s.ob 0x2200 4 / 8
  let under := min (fromOpen.length - (free 0).length) (minimum - (open_.length - fromOpen.length))
  let s := forEach (List.range under) (fun _ s => degrade 4 s) s
  let x := s.takenOf c
  s.setPlans { s.plans with taken := put .reset c { x with lines := lines.length - forThrottle.length } s.plans.taken }

/-- At the first slot of an aligned 128-slot window, the slots that derates take in it are fixed. (DEDUCED, log 16) -/
def beginWindow (c slot : Nat) (s : State) : State :=
  let w := slot / 128
  let x := s.takenOf c
  if x.window = w then s
  else
    let f := s.frameOf slot
    let s := s.setPlans { s.plans with
      taken := put .reset c ⟨w, f, if x.frame = f then x.planned else 0, [], 0⟩ s.plans.taken }
    match s.running with
    | some p => if s.servesData c then takeWindow c (128 * w) p s else s
    | none => s

end Sys2Proof.Machine
end

