-- ==== Sys2Proof/Machine/Issue.lean ====
section
/-!
DEFINITION. A channel controller's commands on the stack die interface: what each does to its record of the banks, to the
layers, to the counters and to the reads and writes it carries (R183–R197, R265, R521–R523).
-/
namespace Sys2Proof.Machine

/-- Half-width mode (R210). -/
def State.half (s : State) (c : Nat) : Bool := s.ob (chanIdx c) 3 == 1

/-! ### The record of what has been issued (R523) -/

/-- How long an issued command can still draw an alert, in ck. -/
def alertSpan : Nat := 40

/-- Forget the commands that can no longer draw an alert: one that drew none ends its row of alerts. -/
def Chan.pruneIssued (x : Chan) (ck : Nat) : Chan :=
  let old := x.issued.filter fun i => decide (i.ck + alertSpan ≤ ck)
  { x with issued := x.issued.filter fun i => decide (ck < i.ck + alertSpan)
           alerts := x.alerts.filter fun a => !(old.any fun i => i.cmd == a.1) }

/-- Record an issued command. -/
def Chan.note (x : Chan) (ck : Nat) (cmd : SdiCmd) (order : Nat) : Chan :=
  { x.pruneIssued ck with issued := (x.pruneIssued ck).issued ++ [⟨ck, cmd, order⟩] }

/-- The controller's record after a command: the banks, and the command itself. -/
def noteCmd (c ck : Nat) (cmd : SdiCmd) (order : Nat) (s : State) : State :=
  s.modChan c fun x => { x.note ck cmd order with time := x.time.issue (s.half c) ck cmd }

/-! ### Row commands -/

/-- No command has taken the row position of a slot (R183). -/
def Chan.rowFree (x : Chan) (slot : Nat) : Bool := !(x.issued.any fun i => i.ck == rowCk slot)

/-- A command as the layers take it, but for those that move data. `bad` tells that its parity fails at the layers. -/
def driveCmd (c : Nat) (bad : Bool) (cmd : SdiCmd) (s : State) : State :=
  if bad then layParity c s
  else match cmd with
    | .act l b r => layAct c l b r s
    | .pre l b => layPre c l b s
    | .preLayer l => layPreab c l false s
    | .preAll => layPreab c 0 true s
    | .rpr l b r => layRpr c l b r s
    | .ref l big mask => layRefpb c l big mask s
    | .sre cls mask => laySre c cls mask s
    | .srx => laySrx c s
    | .mrw l a v => if l = 16 then layMrwb c a v s else layMrw c l a v s
    | _ => s

/-- On whose behalf a row command issues: the plan's, the open path's, the Gleaner's. -/
inductive RowKind where
  | planned | open_ | gleaner
  deriving DecidableEq, Repr

/-- Issue a command at the row position of a slot; a planned ACT marks its bank, an open-path ACT counts to its limit of 8. -/
def issueRow (c slot : Nat) (bad : Bool) (kind : RowKind) (cmd : SdiCmd) (s : State) : State :=
  let s := noteCmd c (rowCk slot) cmd 0 s
  let s := match cmd with
    | .act l b r =>
      let s := count (chanBank c) 4 1 (s.bump (chanIdx c) 0x16)
      s.modChan c fun x =>
        match kind with
        | .planned => { x with time := { x.time with planned := bankIx l b :: x.time.planned.filter fun k => k != bankIx l b } }
        | .open_ => { x with openActs := x.openActs ++ [bankIx l b] }
        | .gleaner => { x with gleanRow := some (bankIx l b, r) }
    | .pre l b => s.modChan c fun x => { x with openActs := x.openActs.filter fun k => k != bankIx l b }
    | .preLayer l => s.modChan c fun x => { x with openActs := x.openActs.filter fun k => k / 16 != l }
    | .preAll => s.modChan c fun x => { x with openActs := [] }
    | _ => s
  driveCmd c bad cmd s

/-! ### Refresh (R199) -/

/-- The debt of a bank. -/
def Chan.debtOf (x : Chan) (b : Nat) : Int := look 0 b x.debt

/-- 0x4000+c:05 holds the largest debt. -/
def showDebt (c : Nat) (s : State) : State :=
  let x := s.chan c
  s.setOb (chanIdx c) 5 (unsigned 16 ((List.range 256).foldl (fun (m : Int) b => max m (x.debtOf b)) (-8)))

/-- Change the debts of some banks. -/
def addDebt (c : Nat) (banks : List Nat) (d : Int) (s : State) : State :=
  showDebt c (s.modChan c fun x => { x with debt := forEach banks (fun b m => alter 0 b (fun v => v + d) m) x.debt })

/-- Issue a REFpb: each bank's debt falls by 1. -/
def issueRef (c slot : Nat) (bad : Bool) (l big mask : Nat) (s : State) : State :=
  let s := noteCmd c (colCk slot) (.ref l big mask) 0 s
  let bs := (refBanks big mask).map fun b => bankIx l b
  let s := addDebt c bs (-1) s
  let s := s.modChan c fun x => { x with rising := x.rising.filter fun b => decide (4 < x.debtOf b) }
  driveCmd c bad (.ref l big mask) (count (chanBank c) 5 1 (s.bumpBy (chanIdx c) 6 bs.length))

/-! ### Data commands -/

/-- What every data command leaves: quad changes, turnarounds, the run in the quad, and the pair of slots of a half-width line (R184,
R210, R214). -/
def countTurn (c l : Nat) (wr : Bool) (s : State) : State :=
  let x := s.chan c
  let q := quadOf l
  let s := if x.lastWrite.isSome && x.quad != q then count (chanBank c) 7 1 (s.bump (chanIdx c) 0x17) else s
  let s := if (match x.lastWrite with | some w => w != wr | none => false) then count (chanBank c) 8 1 (s.bump (chanIdx c) 0x18)
    else s
  s.modChan c fun x => { x with quad := q, run := if x.quad = q then x.run + 1 else 1, lastWrite := some wr, busyNext := s.half c }

/-- What every RD and WR leaves besides: the line it counts as, and the cap's count. -/
def countData (c slot l : Nat) (wr planned : Bool) (s : State) : State :=
  let s := countTurn c l wr s
  let s := s.bump (chanIdx c) (if planned then 0x14 else 0x15)
  s.modChan c fun x =>
    { x with capUsed := if planned then x.capUsed else (if x.capWindow = slot / 128 then x.capUsed + 1 else 1)
             capWindow := if planned then x.capWindow else slot / 128 }

/-- The cause of a read, and of a write, at its channel. -/
def State.readCause (s : State) (c : Nat) (e : RdEntry) : Cause :=
  match e.who with
  | .ask id => s.idCause id e.addr
  | .planned n _ => s.planCause n e.addr
  | .prefetch n _ => s.planCause n e.addr
  | .fill wid =>
    (match (s.chan c).wq.find? fun w => w.wid == wid with
      | some w => (match w.who with | .ask id => s.idCause id e.addr | _ => s.unitCause 1 e.addr (s.secureAt e.addr))
      | none => s.unitCause 1 e.addr (s.secureAt e.addr))
  | .reread num =>
    (match ((s.chan c).recs.find? fun r => r.num == num).bind fun r => r.readers.head? with
      | some (.ask id, _) => s.idCause id e.addr
      | some (.planned n _, _) => s.planCause n e.addr
      | _ => s.unitCause 1 e.addr (s.secureAt e.addr))
  | _ => s.unitCause 1 e.addr (s.secureAt e.addr)
def State.writeCause (s : State) (e : WrEntry) : Cause :=
  match e.who with
  | .ask id => s.idCause id e.addr
  | _ => s.unitCause 1 e.addr (s.secureAt e.addr)

/-- A column read counts by whom it is for, and ends the queue time of its candidate (R487, R498). -/
def countRead (c : Nat) (planned : Bool) (e : RdEntry) (s : State) : State :=
  let s := if e.who = .gleaner then count (chanBank c) 14 1 s
    else countIf (chanBank c) (if planned then 0 else 2) 1 (s.readCause c e) s
  match e.who with
  | .ask id => sampleCmd 0 id 0 s
  | .planned n num => sampleCmd 1 n num s
  | _ => s
def countWrite (c : Nat) (planned : Bool) (e : WrEntry) (s : State) : State :=
  let s := countIf (chanBank c) (if planned then 1 else 3) 1 (s.writeCause e) s
  match e.who with
  | .ask id => sampleCmd 0 id 0 s
  | _ => s

/-- The row an access needed has been used. -/
def usedRow (c l b : Nat) (s : State) : State :=
  s.modChan c fun x => { x with openActs := x.openActs.filter fun k => k != bankIx l b }

/-- Issue an RD for a reader: its data is on its way. `bad` tells that its parity fails at the layers. -/
def issueRead (c slot : Nat) (bad ap planned : Bool) (e : RdEntry) (over_ : List WrEntry) (s : State) : State :=
  let l := e.loc
  let s := noteCmd c (colCk slot) (.rd l.layer l.bank l.line ap) e.order s
  let s := countRead c planned e (usedRow c l.layer l.bank (countData c slot l.layer false planned s))
  let (bytes, s) := if bad then (none, layParity c s) else layRd c l.layer l.bank l.line ap s
  s.modChan c fun x => { x with flights := x.flights ++ [⟨e, bytes, slot, over_, false⟩] }

/-- Issue a chaff read (R113, R511). -/
def issueChaff (c slot : Nat) (bad ap : Bool) (l b line : Nat) (s : State) : State :=
  let s := noteCmd c (colCk slot) (.rdc l b line ap) 0 s
  let s := count (chanBank c) 15 1 (countTurn c l false s)
  if bad then layParity c s else layRdc c l b ap s

/-- The 136 bytes of a write entry, in its stored form. -/
def WrEntry.bytes (e : WrEntry) : List Byte := encodeLine (adOffset e.addr) ⟨leBytes 128 e.data, e.info⟩

/-- Issue a WR of an entry, which is then unconfirmed (R265). -/
def issueWrite (c slot : Nat) (bad preamble ap planned : Bool) (e : WrEntry) (s : State) : State :=
  let l := e.loc
  let s := noteCmd c (colCk slot) (.wr l.layer l.bank l.line ap) e.order s
  let s := countWrite c planned e (usedRow c l.layer l.bank (countData c slot l.layer true planned s))
  let s := s.modChan c fun x => { x with unconf := x.unconf ++ [⟨e, slot⟩] }
  if bad then layParity c s
  else (layWr c l.layer l.bank l.line ap preamble ((s.lay c l.layer).makeBurst e.bytes) s).2

/-- Issue a temperature read of a layer (R278): the result comes back like a read's. -/
def issueTemp (c slot layer : Nat) (bad : Bool) (s : State) : State :=
  let s := noteCmd c (colCk slot) (.mrr layer 0x40) s.path.nextOrder s
  let (bytes, s) := if bad then (none, layParity c s) else layMrr c layer 0x40 s
  let e : RdEntry := { who := .temp layer, addr := 0, loc := ⟨c, layer, 0, 0, 0⟩, placed := slot, order := s.path.nextOrder
                       rank := 0, port := none, aged := false, heldSince := none, heldCounted := false, region := none }
  (s.modChan c fun x => { x with flights := x.flights ++ [⟨e, bytes, slot, [], false⟩], busyNext := false }).takeOrder

/-! ### The weak-line tracker (R255–R257) -/

/-- The line index in its channel of a place: the tracker and the Gleaner count by it. -/
def lineIndex (l : Loc) : Nat := offsetOf l.row l.layer l.bank l.line / 128

/-- Minutes of a tracker entry's age, in set time. -/
def Weak.age (w : Weak) (now : Nat) : Nat := (now - w.since) / (60 * secT)

/-- A tracker entry as its object shows it. -/
def Weak.word (w : Weak) (now : Nat) : Nat :=
  2 ^ 63 + b2n w.healed * 2 ^ 62 + w.count * 2 ^ 60 + w.line % 2 ^ 23 * 2 ^ 37 + w.age now % 2 ^ 17 * 2 ^ 20

/-- Change tracker entry n of a channel, with its object and the count of entries. -/
def setWeak (c n : Nat) (w : Option Weak) (s : State) : State :=
  let s := s.modChan c fun x => { x with weak := put none n w x.weak }
  let s := s.setOb (chanIdx c) (0xC0 + n) (match w with | some w => w.word s.setTicks | none => 0)
  s.setOb (chanIdx c) 0x84 (s.chan c).weak.length

/-- The tracker entry of a line. -/
def Chan.weakOf (x : Chan) (line : Nat) : Option (Nat × Weak) :=
  x.weak.findSome? fun p => match p.2 with | some w => if w.line == line then some (p.1, w) else none | none => none

/-- The line of a tracker entry has been rewritten: the entry is healed and its age restarts (R257). -/
def healedNow (c line : Nat) (s : State) : State :=
  match (s.chan c).weakOf line with
  | some (n, w) => setWeak c n (some { w with healed := true, since := s.setTicks, healing := false }) s
  | none => s

end Sys2Proof.Machine
end

