-- ==== Sys2Proof/Machine/Slot.lean ====
section
/-!
DEFINITION. A slot of a channel (R27, R186–R201): planned commands, reserves, urgent refresh, the open path and the Gleaner.
-/
namespace Sys2Proof.Machine

/-! ### Whether a channel issues commands -/

/-- The channel clock runs at its full rate and is stable (R205, R401, R402): the sheaf's PLL at divider 1. -/
def State.clockFull (s : State) (c : Nat) : Bool := s.ob 0xB010 (sheafOf c + 1) == 0x102

/-- The channel's domain has a clock: its sheaf PLL or FO (R431). -/
def State.clockRuns (s : State) (c : Nat) : Bool :=
  let w := s.ob 0xB010 (sheafOf c + 1)
  w % 256 == 1 || w % 256 == 2

/-- A channel's controller issues commands: it is trained and out of self-refresh, its clock runs, and its stack is not halted
(R206, R209, R212, R402). -/
def State.slotRuns (s : State) (c : Nat) : Bool :=
  let st := s.chanState c
  (st == 0 || st == 3 || st == 4 || st == 5) && s.ob (chanIdx c) 0x40 == 3 && s.clockFull c && (s.dch c).selfRef.isNone &&
  (s.chan c).entry.isNone && !s.halted (stackOf c) && !s.heat.tripped

/-- A channel's training. -/
def State.tr (s : State) (c : Nat) : Train := look .reset c s.train
def State.modTr (s : State) (c : Nat) (f : Train → Train) : State := { s with train := put .reset c (f (s.tr c)) s.train }

/-- The value of the steering register (R513): the group the spare carries, bit 5 for a failed group. -/
def steerValue (group : Option Nat) (permanent : Bool) : Nat :=
  match group with | some g => g + b2n permanent * 32 | none => 31

/-- The permanent assignment of the spare group (R311). -/
def State.spareGroup (s : State) (c : Nat) : Option Nat :=
  let g := s.ob (chanIdx c) 0x42
  if g = 0xFF then none else some g

/-- A Steward that restarts makes no decision (R26). -/
def State.stewardUp (s : State) : Bool := s.procs.steward.running && s.procs.steward.restart.isNone

/-! ### Ages and holds (R193, R195) -/

/-- The writes of its line that a read waits for. -/
def Chan.holders (x : Chan) (e : RdEntry) : List WrEntry := (x.writesTo e.addr).filter fun w => decide (w.order < e.order)

/-- A read waits behind the writes of its line; the reads of a row move do not, since every such write is applied to the move buffer
(R193, R259). -/
def Chan.heldRead (x : Chan) (e : RdEntry) : Bool := (match e.who with | .move _ => false | _ => true) && !(x.holders e).isEmpty

/-- Reads that have waited 1,024 slots become aged; held reads are counted once. -/
def ageReads (c slot : Nat) (s : State) : State :=
  let x := s.chan c
  let old := x.rq.filter fun e => !e.aged && decide (e.placed + 1024 ≤ slot)
  let s := forEach old (fun _ s => raise Ev.readAged c 0 (s.bump (chanIdx c) 0x1B)) s
  let newHeld := x.rq.filter fun e => x.heldRead e && !e.heldCounted
  let s := forEach newHeld (fun e s => countIf (chanBank c) 12 1 (s.readCause c e) s) (s.bumpBy (chanIdx c) 0x10 newHeld.length)
  s.modChan c fun x => { x with rq := x.rq.map fun e =>
    let h := x.heldRead e
    { e with aged := e.aged || decide (e.placed + 1024 ≤ slot), heldCounted := e.heldCounted || h
             heldSince := if h then some (e.heldSince.getD slot) else none } }

/-- The mode of the queues at a column position (R194). An idle drain ends as the table of R194 says and not as its listing does.
(DEDUCED, log 37) -/
def nextMode (c slot : Nat) (s : State) : State :=
  let x := s.chan c
  let held := x.rq.filter fun e => e.heldSince.isSome
  let waited := held.any fun e => match e.heldSince with | some t => decide (t + 64 ≤ slot) | none => false
  let unheld := x.rq.length - held.length
  let n := x.wq.length
  let mode : QMode :=
    if 72 ≤ n then .flood
    else if x.mode = .flood && 24 < n then .flood
    else if waited || (!x.rq.isEmpty && unheld = 0) then .holdDrain
    else if x.mode = .holdDrain && !held.isEmpty then .holdDrain
    else if unheld = 0 && (8 ≤ n || (x.mode = .idleDrain && 0 < n) || (x.draining.isSome && 0 < n)) then .idleDrain
    else .read
  let s := s.modChan c fun x => { x with mode := mode }
  if mode = x.mode then s
  else match mode with
    | .flood => s.bump (chanIdx c) 0x0D
    | .idleDrain => s.bump (chanIdx c) 0x0E
    | .holdDrain => s.bump (chanIdx c) 0x0F
    | .read => s

/-! ### Candidates of the open path -/

/-- What the open path can issue: a read of a queue, the fill of a partial write, the re-read of a record, or a write, of the
urgent store or of the queue. -/
inductive Pick where
  | read (e : RdEntry)
  | fill (w : WrEntry)
  | reread (r : Rec)
  | write (urgent : Bool) (w : WrEntry)
  deriving DecidableEq, Repr

def Pick.loc : Pick → Loc
  | .read e => e.loc | .fill w => w.loc | .reread r => r.loc | .write _ w => w.loc
def Pick.order : Pick → Nat
  | .read e => e.order | .fill w => w.order | .reread r => r.order | .write _ w => w.order
def Pick.isWrite : Pick → Bool
  | .write _ _ => true | _ => false

/-- No write of the same line was placed before an entry and waits. -/
def Chan.firstOfLine (x : Chan) (w : WrEntry) : Bool := (x.writesTo w.addr).all fun v => decide (w.order ≤ v.order)

/-- The re-reads to issue, which go first of all (R249). -/
def Chan.rereads (x : Chan) : List Pick := (x.recs.filter fun r => r.step == .reread && !r.issued).map .reread

/-- A place lies in the row a move holds: its reads are served from the move buffer and its writes are applied to it (R259). -/
def Chan.moving (x : Chan) (l : Loc) : Bool :=
  match x.move with | some m => m.layer == l.layer && m.bank == l.bank && m.row == l.row | none => false

/-- A write of a row move itself. -/
def isMove : Writer → Bool
  | .move _ => true | _ => false

/-- The urgent writes, in placement order (R250). -/
def Chan.urgents (x : Chan) : List Pick :=
  match x.urgent.filter fun w => x.firstOfLine w && (isMove w.who || !x.moving w.loc) with | w :: _ => [.write true w] | [] => []

/-- The partial writes whose fill is to be made, oldest first (R192): behind the earlier writes of their line and behind a recovery of
it. -/
def Chan.unfilled (x : Chan) : List WrEntry :=
  x.wq.filter fun w => w.partial_ && !w.fillIssued && x.firstOfLine w && !(x.recs.any fun r => r.addr == w.addr)

/-- The fills to issue. -/
def Chan.fills (x : Chan) : List Pick := (x.unfilled.filter fun w => !x.moving w.loc).map .fill

/-- The reads that may issue, the reads of a row move among them. -/
def Chan.freeReads (x : Chan) : List RdEntry :=
  x.rq.filter fun e => !x.heldRead e && (!x.moving e.loc || match e.who with | .move _ => true | _ => false)

/-- The writes that may issue; a partial write waits for its fill. -/
def Chan.freeWrites (x : Chan) : List WrEntry := x.wq.filter fun w => !w.partial_ && x.firstOfLine w && !x.moving w.loc

/-- A read that goes before all others but the re-reads: panic or aged. -/
def State.pressing (s : State) (e : RdEntry) : Bool :=
  e.aged || match e.port with | some p => decide (2 ≤ s.panicIn p) | none => false

/-- Whether a read goes before another (R195). `quad` is the current quad, or none when its run has ended. -/
def State.readBefore (s : State) (x : Chan) (quad : Option Nat) (a b : RdEntry) : Bool :=
  let key (e : RdEntry) : List Nat :=
    if s.pressing e then [0, e.order, 0, 0, 0]
    else [1, if quad == some (quadOf e.loc.layer) then 0 else 1, 7 - e.rank,
      if x.time.row (bankIx e.loc.layer e.loc.bank) == some e.loc.row then 0 else 1, e.order]
  decide (key a ≤ key b)

/-- The current quad for reads: its run ends at 32 lines when another quad holds a read of higher rank. -/
def Chan.readQuad (x : Chan) : Option Nat :=
  let here := x.freeReads.filter fun e => quadOf e.loc.layer == x.quad
  let best := (here.map (·.rank)).foldl max 0
  let better := x.freeReads.any fun e => quadOf e.loc.layer != x.quad && decide (best < e.rank)
  if x.lastWrite.isNone || (32 ≤ x.run && better) then none else some x.quad

/-- Whether a write goes before another (R196). -/
def writeBefore (x : Chan) (a b : WrEntry) : Bool :=
  let key (e : WrEntry) : List Nat :=
    [if x.lastWrite.isSome && quadOf e.loc.layer == x.quad then 0 else 1,
      if x.time.row (bankIx e.loc.layer e.loc.bank) == some e.loc.row then 0 else 1, e.order]
  decide (key a ≤ key b)

/-- Fills go ahead of every read accepted after their write was placed. -/
def mergeFills : List Pick → List Pick → List Pick
  | [], rs => rs
  | f :: fs, rs =>
    let before := rs.takeWhile fun r => decide (r.order < f.order)
    before ++ f :: mergeFills fs (rs.drop before.length)

/-- The run in the current quad has ended: the command to come next is elsewhere, so that nothing more issues in the old quad and tCCD_Q
can pass (R195, R249, R250). (DEDUCED, log 37) -/
def State.turning (s : State) (x : Chan) (first : List Pick) : Bool :=
  let away (l : Loc) : Bool := quadOf l.layer != x.quad
  x.lastWrite.isSome && match first with
    | p :: _ => away p.loc
    | [] => x.mode == .read && match sortList (x.freeReads.filter s.pressing) fun a b => decide (a.order ≤ b.order) with
      | e :: _ => away e.loc
      | [] => x.readQuad.isNone

/-- What the open path would issue in a slot, in its order of choice (R194–R196, R249, R250). A hold drain takes the oldest write that can issue.
(DEDUCED, log 37) -/
def State.picks (s : State) (c : Nat) : List Pick :=
  let x := s.chan c
  let reads := (sortList x.freeReads (s.readBefore x x.readQuad)).map Pick.read
  let writes := (sortList x.freeWrites (writeBefore x)).map (Pick.write false)
  let waited := sortList (x.freeWrites.filter fun w => x.rq.any fun e => e.addr == w.addr && decide (w.order < e.order))
    fun a b => decide (a.order ≤ b.order)
  let first := x.rereads ++ x.urgents
  let rest := match x.mode with
    | .read => mergeFills x.fills reads
    | .holdDrain => waited.map (Pick.write false) ++ x.fills
    | _ => writes ++ x.fills
  first ++ if s.turning x first then rest.filter fun p => quadOf p.loc.layer != x.quad else rest

/-- Auto-precharge goes with an open-path access unless another queued request uses its row (R197). -/
def Chan.autoPre (x : Chan) (p : Pick) : Bool :=
  let l := p.loc
  let same (m : Loc) : Bool := m.layer == l.layer && m.bank == l.bank && m.row == l.row
  let n := (x.rq.filter fun e => same e.loc).length + ((x.wq ++ x.urgent).filter fun w => same w.loc).length +
    (x.recs.filter fun r => r.step == .reread && !r.issued && same r.loc).length
  let own := match p with | .reread _ => 1 | _ => 1
  decide (n ≤ own)

/-- The column command of a pick. -/
def Pick.cmd (x : Chan) (p : Pick) : SdiCmd :=
  let l := p.loc
  if p.isWrite then .wr l.layer l.bank l.line (x.autoPre p) else .rd l.layer l.bank l.line (x.autoPre p)

/-- A read entry that the controller makes for itself. -/
def ownRead (who : Reader) (a : Nat) (l : Loc) (slot order : Nat) (region : Option (Nat × Nat)) : RdEntry :=
  { who := who, addr := a, loc := l, placed := slot, order := order, rank := 0, port := none, aged := false
    heldSince := none, heldCounted := false, region := region }

/-- A block-internal read that is not issued on behalf of an accepted request (R248). -/
def Purpose.unasked : Purpose → Bool
  | .mask _ _ | .image _ | .transferRead _ _ | .feedEscape _ _ _ | .ledger => true
  | _ => false

/-- The region a read is judged by when it fails (R248): of a read that concerns no accepted request, the one in force when it issues. -/
def State.readRegion (s : State) (e : RdEntry) : Option (Nat × Nat) :=
  let own : Bool := match e.who with
    | .move _ => true
    | .prefetch _ _ => true
    | .ask id => s.path.asks.any fun q => q.id == id && q.why.unasked
    | _ => false
  if own then s.regionRaw e.addr else e.region

/-- Issue a pick. -/
def issuePick (c slot : Nat) (bad preamble : Bool) (p : Pick) (s : State) : State :=
  let ap := (s.chan c).autoPre p
  match p with
  | .read e =>
    let e := { e with region := s.readRegion e }
    syncDepth c (issueRead c slot bad ap false e [] (s.modChan c fun x => { x with rq := x.rq.filter fun r => r.order != e.order }))
  | .fill w =>
    let s := s.modChan c fun x => { x with wq := x.wq.map fun v => if v.wid == w.wid then { v with fillIssued := true } else v }
    issueRead c slot bad ap false (ownRead (.fill w.wid) w.addr w.loc slot w.order w.region) [] s
  | .reread r =>
    let s := s.modChan c fun x => { x with recs := x.recs.map fun q => if q.num == r.num then { q with issued := true } else q }
    issueRead c slot bad ap false (ownRead (.reread r.num) r.addr r.loc slot r.order r.region) [] s
  | .write urgent w =>
    let drop (l : List WrEntry) : List WrEntry := l.filter fun v => v.wid != w.wid
    let s := s.modChan c fun x => if urgent then { x with urgent := drop x.urgent } else { x with wq := drop x.wq }
    syncDepth c (issueWrite c slot bad preamble ap false w s)

/-! ### The row position -/

/-- Count the commands that the no-harm rule withholds (R188). -/
def withheldMany (c n : Nat) (s : State) : State := s.bumpBy (chanIdx c) 0x1A n
def withheld (c : Nat) (s : State) : State := withheldMany c 1 s

/-- The row command that brings a line's row to be open: ACT, or PRE of another row. -/
def Chan.rowFor (x : Chan) (l : Loc) : Option SdiCmd :=
  match x.time.row (bankIx l.layer l.bank) with
  | none => some (.act l.layer l.bank l.row)
  | some r => if r = l.row then none else some (.pre l.layer l.bank)

/-- A queued request uses the row a bank has open. -/
def Chan.wantsRow (x : Chan) (b r : Nat) : Bool :=
  let same (m : Loc) : Bool := bankIx m.layer m.bank == b && m.row == r
  (x.rq.any fun e => same e.loc) || ((x.wq ++ x.urgent).any fun w => same w.loc)

/-- A PRE that would close a row other queued requests of the same kind use, or one activated and not yet used, waits. -/
def Chan.mayRow (x : Chan) : SdiCmd → Bool
  | .act l _ _ => decide (x.openActs.length < 8) &&
    !(match x.move with | some m => (m.stage == 1 || m.stage == 2) && m.layer == l | none => false)
  | .pre l b => !x.openActs.contains (bankIx l b)
  | _ => true

/-- The line index the Gleaner reads next in a channel, if it runs (R252): every line of a data channel or substituting spare;
of a standby spare only the rows that hold retirements. -/
def State.gleanNext (s : State) (c : Nat) : Option Nat :=
  let pos := s.ob (chanIdx c) 0x80
  if s.ob 0xA000 1 = 0 || !s.stewardUp then none
  else if s.servesData c then some pos
  else if s.chanState c = 4 then
    let st := stackOf c
    let lines := (s.retirements st).flatMap fun p =>
      if (retTarget st p.2).1 = c then
        (List.range 8).map fun i => offsetOf (bits 24 13 p.2) (bits 32 29 p.2) (bits 28 25 p.2) i / 128
      else []
    match (lines.filter fun l => decide (pos ≤ l)).min? with
    | some l => some l
    | none => lines.min?
  else none

/-- The place of a line index of a channel. -/
def lineLoc (c k : Nat) : Loc := let o := 128 * k; ⟨c, ofLayer o, ofBank o, ofRow o, ofLine o⟩

/-- A lap of the Gleaner ends (R254). -/
def endLap (c : Nat) (s : State) : State :=
  let s := s.setOb (chanIdx c) 0x82 (((s.now - (s.chan c).lapStart) / (1000 * nsT)) % 2 ^ 32)
  let s := raise Ev.gleanerLap c 0 (s.bump (chanIdx c) 0x81)
  s.modChan c fun x => { x with lapStart := s.now, lapSlow := false }

/-- The Gleaner goes on past a line index. -/
def gleanPast (c k : Nat) (s : State) : State :=
  let next := (k + 1) % 2 ^ 23
  let s := s.setOb (chanIdx c) 0x80 next
  let more := match s.gleanNext c with | some n => decide (next ≤ n) && next != 0 | none => true
  if more then s else endLap c s

/-- The data channel offset and address a line of a channel belongs to: of a standby spare, that of the row retired there. -/
def State.ownerAddr (s : State) (c k : Nat) : Nat :=
  let st := stackOf c
  let l := lineLoc c k
  match if s.chanState c = 4 then
      (s.retirements st).find? fun p => retTarget st p.2 == (c, l.row) && bits 32 29 p.2 == l.layer && bits 28 25 p.2 == l.bank
    else none with
  | some p => let r := retSource st p.2; s.addrOf r.1 (offsetOf r.2.2.2 r.2.1 r.2.2.1 l.line)
  | none => s.addrOf (s.homeOfChan c) (128 * k)

/-- A line the Gleaner meets is skipped because a write of it waits, or its row is in a move (R252, R259). -/
def State.gleanSkips (s : State) (c k : Nat) : Bool :=
  let x := s.chan c
  !(x.writesTo (s.ownerAddr c k)).isEmpty || x.moving (lineLoc c k)

/-- The bank an urgent refresh waits for: debt 8 or more, or above 4 after a rise of class (R200, R201). -/
def Chan.urgentBanks (x : Chan) : List Nat :=
  (x.debt.map (·.1)).filter fun b => decide (8 ≤ x.debtOf b) || (x.rising.contains b && decide (4 < x.debtOf b))

/-- The channel settles its refresh before self-refresh (R203): it is draining and its queues are empty. -/
def State.settling (s : State) (c : Nat) : Bool :=
  let x := s.chan c
  x.draining.isSome && x.rq.isEmpty && x.wq.isEmpty && x.urgent.isEmpty && x.recs.isEmpty && x.recWait.isEmpty &&
  x.flights.isEmpty

/-- The mode register write that changes the steering in a calibration reserve slot (R308). -/
def State.steerCmd (s : State) (c slot : Nat) : Option SdiCmd :=
  if (s.slotUse c slot).1 = 5 && s.stewardUp then
    match (s.tr c).steer with
    | some (some g) => some (.mrw 16 0x11 (steerValue (some g) false))
    | some none => some (.mrw 16 0x11 (steerValue (s.spareGroup c) true))
    | none => none
  else none

/-- The steering has changed: a group goes offline, or carries its own bits again (R308). -/
def takeSteer (c : Nat) (s : State) : State :=
  s.modTr c fun t => match t.steer with
    | some g => { t with offline := g, steer := none }
    | none => t

/-- The command at the row position, if it is free and there is one: one to be issued again, the PREab of a switching tide, a PRE that an
urgent refresh needs, a planned one, or one of the open path or the Gleaner (R186, R197, R523). (DEDUCED, log 37) -/
def rowPosition (c slot : Nat) (bad : Bool) (w : List (Option PLine)) (s : State) : State :=
  let x := s.chan c
  let ck := rowCk slot
  let half := s.half c
  let ok (cmd : SdiCmd) : Bool := allowed x.time half ck cmd
  if !x.rowFree slot then s
  else match x.again.find? ok with
  | some cmd => issueRow c slot bad .open_ cmd (s.modChan c fun x => { x with again := x.again.erase cmd })
  | none =>
    if x.preabDue && ok .preAll then issueRow c slot bad .planned .preAll (s.modChan c fun x => { x with preabDue := false })
    else
      let forRefresh := (if s.settling c then (x.time.open_.map (·.1)) else x.urgentBanks).filterMap fun b =>
        if (x.time.row b).isSome && ok (.pre (b / 16) (b % 16)) then some (SdiCmd.pre (b / 16) (b % 16)) else none
      match forRefresh with
      | cmd :: _ => issueRow c slot bad .open_ cmd s
      | [] =>
        match planRow x.time half ck ((w.take 32).filterMap fun p => p) with
        | some cmd => issueRow c slot bad .planned cmd s
        | none =>
          let harmless (cmd : SdiCmd) : Bool := noHarmRow s.chaff half slot w x.time cmd
          match (s.steerCmd c slot).filter fun cmd => ok cmd && harmless cmd with
          | some cmd => takeSteer c (issueRow c slot bad .open_ cmd s)
          | none =>
          let want := (((s.picks c).filterMap fun p => x.rowFor p.loc).filter fun cmd => x.mayRow cmd && ok cmd).eraseDups
          match want with
          | cmd :: rest =>
            let s := withheldMany c ((cmd :: rest).takeWhile fun y => !harmless y).length s
            match (cmd :: rest).find? harmless with
            | some cmd => issueRow c slot bad .open_ cmd s
            | none => s
          | [] =>
            match s.gleanNext c with
            | none => s
            | some k =>
              let b := bankIx (lineLoc c k).layer (lineLoc c k).bank
              let other := match x.gleanRow with
                | some (g, r) => if g != b && x.time.row g == some r && !x.wantsRow g r then some (SdiCmd.pre (g / 16) (g % 16)) else none
                | none => none
              match (x.rowFor (lineLoc c k)).map fun cmd => other.getD cmd with
              | none => s
              | some cmd =>
                let busy := match x.time.row b with | some r => x.wantsRow b r | none => false
                if (busy && other.isNone) || !ok cmd || (s.settling c) then s
                else if harmless cmd then
                  issueRow c slot bad .gleaner cmd s
                else withheld c s

/-! ### The column position: refresh and temperature -/

/-- Issue an urgent refresh, if one is due and R185 allows it: its mask holds every bank of the group whose debt is 4 or more and
that R185 lets it refresh (R200). (DEDUCED, log 37) -/
def urgentRefresh (c slot : Nat) (bad : Bool) (s : State) : Option State :=
  let x := s.chan c
  let ck := colCk slot
  let one (b : Nat) : Bool := allowed x.time (s.half c) ck (.ref (b / 16) (b % 4) (2 ^ (b % 16 / 4)))
  match x.urgentBanks.find? one with
  | none => none
  | some b =>
    let l := b / 16
    let big := b % 4
    let join (m g : Nat) : Nat :=
      let k := bankIx l (4 * g + big)
      let m' := m + 2 ^ g
      if k != b && decide (4 ≤ x.debtOf k) && allowed x.time (s.half c) ck (.ref l big m') then m' else m
    let mask := [0, 1, 2, 3].foldl join (2 ^ (b % 16 / 4))
    let s := issueRef c slot bad l big mask s
    some (raise Ev.refreshUrgent c 0 (count (chanBank c) 6 1 (s.bump (chanIdx c) 7)))

/-- The refresh groups of a channel: layer and bank in group. -/
def refreshGroups : List (Nat × Nat) := (List.range 64).map fun i => (i / 4, i % 4)

/-- The mask of a group: every bank whose debt is above −8 (R199). -/
def Chan.groupMask (x : Chan) (l big : Nat) : Nat :=
  [0, 1, 2, 3].foldl (fun (m : Nat) g => if decide (-8 < x.debtOf (bankIx l (4 * g + big))) then m + 2 ^ g else m) 0

/-- The sum of a group's debts. -/
def Chan.groupDebt (x : Chan) (l big : Nat) : Int :=
  [0, 1, 2, 3].foldl (fun (n : Int) g => n + x.debtOf (bankIx l (4 * g + big))) 0

/-- The refresh group a reserve slot takes (R199), if there is a candidate; without `harm`, as if no command could do harm. `after` holds
the lines of the next 64 slots. -/
def State.refreshPick (s : State) (c slot : Nat) (harm : Bool) (after : List (Option PLine)) : Option (Nat × Nat × Nat) :=
  let x := s.chan c
  let used := (after.take 62).filterMap fun p => p
  let cand (g : Nat × Nat) : Bool :=
    let mask := x.groupMask g.1 g.2
    mask != 0 && !(used.any fun p => p.layer == g.1 && p.bank % 4 == g.2) &&
    !((refBanks g.2 15).any fun b => (x.time.row (bankIx g.1 b)).isSome && !x.time.planned.contains (bankIx g.1 b)) &&
    allowed x.time (s.half c) (colCk slot) (.ref g.1 g.2 mask) &&
    (!harm || noHarmCol s.chaff (s.half c) slot (after.take 31) x.time (.ref g.1 g.2 mask))
  let best := (refreshGroups.filter cand).foldl (fun (b : Option (Nat × Nat)) g => match b with
    | none => some g
    | some h => if x.groupDebt h.1 h.2 < x.groupDebt g.1 g.2 then some g else some h) none
  best.map fun g => (g.1, g.2, x.groupMask g.1 g.2)

/-- The scan interval under way, and whether more than half of it has passed (R278). -/
def State.scanIndex (s : State) : Nat := s.frame / max 1 (s.ob 0x9000 1)
def State.scanLate (s : State) : Bool :=
  let n := max 1 (s.ob 0x9000 1)
  decide (n < 2 * (s.frame % n))

/-- The layer whose temperature a channel reads next: the first of its sheaf's that the interval has not yet read. -/
def State.tempDue (s : State) (c : Nat) : Option Nat :=
  layers16.find? fun l => look 0 (16 * sheafOf c + l) s.heat.scanned != s.scanIndex + 1

/-- Read a temperature (R278): whether the slot is used. One that would harm the plan is withheld (R188). (DEDUCED, log 37) -/
def readTemp (c slot : Nat) (bad : Bool) (after : List (Option PLine)) (s : State) : Bool × State :=
  match s.tempDue c with
  | none => (false, s)
  | some l =>
    let x := s.chan c
    if !allowed x.time (s.half c) (colCk slot) (.mrr l 0x40) then (false, s)
    else if !noHarmCol s.chaff (s.half c) slot (after.take 31) x.time (.mrr l 0x40) then (false, withheld c s)
    else
      let s := { s with heat := { s.heat with scanned := put 0 (16 * sheafOf c + l) (s.scanIndex + 1) s.heat.scanned } }
      (true, issueTemp c slot l bad s)

/-- A refresh reserve slot, or a slot taken for refresh (R82, R199, R278): an overdue temperature read goes before a refresh whose
banks all have debt 0 or less. The result tells whether the slot is used; a refresh that would harm the plan is withheld (R188). (DEDUCED,
log 37) -/
def reserveRefresh (c slot : Nat) (bad : Bool) (after : List (Option PLine)) (s : State) : Bool × State :=
  let g := s.refreshPick c slot true after
  let idle := match g with
    | some (l, big, mask) => (refBanks big mask).all fun b => decide ((s.chan c).debtOf (bankIx l b) ≤ 0)
    | none => true
  let passed := s.refreshPick c slot false after != g
  let s := if passed then withheld c s else s
  let temp := readTemp c slot bad after s
  if idle && s.scanLate && temp.1 then temp
  else match g with
    | some (l, big, mask) => (true, issueRef c slot bad l big mask s)
    | none => temp

/-- A calibration command in a calibration reserve slot, where R185 and R188 allow it. -/
def calSlot (c slot : Nat) (after : List (Option PLine)) (s : State) : State :=
  let x := s.chan c
  if !allowed x.time (s.half c) (colCk slot) .cal then s
  else if noHarmCol s.chaff (s.half c) slot (after.take 31) x.time .cal then noteCmd c (colCk slot) .cal 0 s
  else withheld c s

/-! ### The column position: the open path and the Gleaner -/

/-- The throttle cap leaves room for a command that is not planned (R286). -/
def State.capLeft (s : State) (c slot : Nat) : Bool :=
  let x := s.chan c
  let used := if x.capWindow = slot / 128 then x.capUsed else 0
  !s.throttled (stackOf c) || decide ((s.takenOf c).lines + used + s.ob 0x9000 3 < 128)

/-- In half-width mode a line takes two slots (R210): the next one has to be free of reserves, of idle slots and of slots taken, and for
a line that is not planned also of planned lines. (DEDUCED, log 37) -/
def State.pairFree (s : State) (c slot : Nat) (planned : Bool) (after : List (Option PLine)) : Bool :=
  let ty := (s.slotUse c (slot + 1)).1
  !s.half c || (ty != 4 && ty != 5 && ty != idleUse && (s.takenFor c (slot + 1)).isNone && (planned || after.head?.join.isNone))

/-- The open path uses the slot, if it can (R194–R197): whether it has. -/
def openSlot (c slot : Nat) (bad preamble : Bool) (after : List (Option PLine)) (s : State) : Bool × State :=
  if !s.capLeft c slot || !s.pairFree c slot false after then (false, s)
  else
    let x := s.chan c
    let ready (p : Pick) : Bool :=
      x.time.row (bankIx p.loc.layer p.loc.bank) == some p.loc.row && allowed x.time (s.half c) (colCk slot) (p.cmd x)
    match (s.picks c).filter ready with
    | [] => (false, s)
    | p :: rest =>
      let harmless (p : Pick) : Bool := noHarmCol s.chaff (s.half c) slot (after.take 31) x.time (p.cmd x)
      let s := withheldMany c ((p :: rest).takeWhile fun y => !harmless y).length s
      match (p :: rest).find? harmless with
      | some p => (true, issuePick c slot bad preamble p s)
      | none => (false, s)

/-- The Gleaner uses the slot, if it can (R252). (DEDUCED, log 37) -/
def gleanSlot (c slot : Nat) (bad : Bool) (after : List (Option PLine)) (s : State) : State :=
  if !s.capLeft c slot || !s.pairFree c slot false after || (s.chan c).draining.isSome then s
  else match s.gleanNext c with
    | none => s
    | some k =>
      if s.gleanSkips c k then gleanPast c k s
      else
        let x := s.chan c
        let l := lineLoc c k
        let last := match (gleanPast c k s).gleanNext c with
          | some n => let m := lineLoc c n; !(m.layer == l.layer && m.bank == l.bank && m.row == l.row)
          | none => true
        let ap := last && !x.wantsRow (bankIx l.layer l.bank) l.row
        if x.time.row (bankIx l.layer l.bank) != some l.row ||
            !allowed x.time (s.half c) (colCk slot) (.rd l.layer l.bank l.line ap) then s
        else if !noHarmCol s.chaff (s.half c) slot (after.take 31) x.time (.rd l.layer l.bank l.line ap) then withheld c s
        else
          let a := s.ownerAddr c k
          let s := s.bump (chanIdx c) 0x83
          let s := issueRead c slot bad ap false (ownRead .gleaner a l slot s.path.nextOrder (s.regionRaw a)) [] s
          gleanPast c k s.takeOrder

/-! ### Planned slots (R99, R100, R189, R190) -/

/-- A planned line slips (R74): its slot is taken, degradation step 5 (R82, R83, R235). -/
def slip (c n : Nat) (s : State) : State :=
  let collective := match s.stream? n, s.running with | some t, some p => p.collective t.desc.context | _, _ => false
  let s := startDerate 3 (degrade 5 (raise Ev.planSlip c 0 ((s.bump 0x2202 4).bump (chanIdx c) 0x19)))
  countTaken c 1 (if collective then breakContinuity 3 s else s)

/-- Change the stream that an own slot advances. -/
def advance (n : Nat) (t : Stream) (s : State) : State := s.modStream n fun _ => { t with lastIssue := s.now }

/-- A feed line item leaves its stream: its credits and ring positions go with it (R101). -/
def Stream.giveFeed (t : Stream) (d : Due) (nw : Nat) (fmt : Option FormatEntry) (lines : Option (List Nat)) : Stream :=
  let size := 2 ^ t.desc.ringLog2
  { t.pop with
    issued := t.issued + 1, credits := t.credits - nw, ring := (t.ring + nw) % size
    feed := t.feed ++ [⟨d.num, d.item.addr, t.ring, nw, fmt, lines, false, d.masked, none⟩] }

/-- The retirement buffer's line of a stream's line, once it is there (R261). -/
def State.retLine (s : State) (n num : Nat) : Option RetLine :=
  s.path.retired.find? fun r => r.n == n && r.num == num && r.arrived

/-- The column command of a due line, with auto-precharge when no later line of the window uses its row. -/
def dueCmd (p : PLine) (w : List (Option PLine)) (chaff : Bool) : Option SdiCmd :=
  planCol chaff p (((w.drop 1).take 31).filterMap fun p => p)

/-- A read of a row in a move is answered from the move buffer, once its line is there (R259). -/
def moveRead (c : Nat) (e : RdEntry) (over_ : List WrEntry) (slot : Nat) (s : State) : State :=
  match s.moveLine e.loc with
  | some l => s.modChan c fun x =>
    { x with flights := x.flights ++ [⟨e, some (encodeLine (adOffset e.addr) ⟨leBytes 128 l.1, l.2⟩), slot, over_, false⟩] }
  | none => s.modChan c fun x => { x with move := x.move.map fun m => { m with waiting := m.waiting ++ [(e, over_, slot)] } }

/-- A feed line issues in its slot: masked, from the retirement buffer, from the move buffer, or by its column read. -/
def issueFeed (c slot : Nat) (bad : Bool) (d : Due) (nw : Nat) (cmd : Option SdiCmd) (t : Stream) (s : State) : State :=
  let e := engineIdx (engineOf d.n)
  let a := d.item.addr
  let loc := s.place a
  let ap := match cmd with | some (.rd _ _ _ ap) => ap | some (.rdc _ _ _ ap) => ap | _ => false
  let fmt := d.item.fmt.map s.formatEntry
  if d.masked then
    let s := advance d.n (t.giveFeed d nw fmt (some [])) (countIf (engineBank (engineOf d.n)) 2 1 (s.planCause d.n a) (s.bump e 4))
    let s := match cmd with
      | some (.rdc l b i ap) => issueChaff c slot bad ap l b i (s.bump e 5)
      | _ => s
    feedOut d.n s
  else
    let lag := t.lag
    let s := advance d.n (t.giveFeed d nw fmt none) s
    let s := if cmd.isSome then candidate 11 (s.planCause d.n a)
        (planSample false d.n d.num a d.item.instr d.item.place t.desc.context t.desc.world lag c (s.sealedAt a) (s.secureAt a)) s
      else s
    let entry := ownRead (.planned d.n d.num) a loc slot s.path.nextOrder (s.regionRaw a)
    match s.retLine d.n d.num with
    | some r =>
      let s := s.setPath { s.path with retired := s.path.retired.filter fun q => !(q.n == d.n && q.num == d.num) }
      match r.line with
      | some l => feedLine d.n d.num l s
      | none => feedArrive d.n d.num [] true s
    | none =>
      let w := (s.chan c).writesTo a
      let s := if w.isEmpty then s else sampleFlag 1 d.n d.num 5 (s.bump (chanIdx c) 0x12)
      if (s.chan c).moving loc then (moveRead c entry w slot s).takeOrder
      else (issueRead c slot bad ap true entry w s).takeOrder

/-- A heal or recovery write that a newer whole-line write overwrites counts as the rewrite it would have been (R257). -/
def countHealed (w : WrEntry) (s : State) : State :=
  match w.who with
  | .heal => healedNow w.loc.c (lineIndex w.loc) s
  | _ => s

/-- An open write that a planned write overwrites leaves its queue and is reported applied (R190); a recovery write that still waits is
superseded with it (R250). The planned write's own backing write stands for that of a partial write not yet merged (R251). -/
def supersedeWrites (c a : Nat) (s : State) : State :=
  let x := s.chan c
  let gone := x.wq.filter fun w => w.addr == a
  let old := x.urgent.filter fun w => w.addr == a && !isMove w.who
  let s := s.modChan c fun x => { x with
    wq := x.wq.filter (fun w => w.addr != a), urgent := x.urgent.filter fun w => !(w.addr == a && !isMove w.who) }
  let s := forEach old countHealed s
  syncDepth c (forEach gone (fun w s =>
    let s := s.bump (chanIdx c) 0x11
    match w.who with
    | .ask id =>
      let s := if w.partial_ then s.modAsk id fun q => { q with backing := false } else s
      retire id ((homeEffect id St.ok s).modAsk id fun q => { q with confirmed := true })
    | _ => s) s)

/-- A line written to the row a move holds goes into the move buffer, and has to be written to the target again (R259). -/
def writeMove (l : Loc) (data info : Nat) (s : State) : State :=
  s.modChan l.c fun x => match x.move with
    | some m =>
      let b := m.buffer.set l.line (some (data, info))
      { x with move := some { m with buffer := b, written := m.written.filter fun i => i != l.line } }
    | none => x

/-- The metadata of a drain line under the region in force as it is accepted (R50, R125): of a raw line all, of a formatted one the sealed
bit; an escaped line keeps what its escape lines were written under. -/
def State.drainInfo (s : State) (fmt : Option Nat) (a info : Nat) : Nat :=
  if fmt.isNone then s.writeInfo a
  else if info.testBit 10 then info
  else setBit 9 (s.sealedAt a) info

/-- A drain line issues in its slot (R99, R102, R190): it takes a journal entry, supersedes the writes queued for its line, and is
written by its column command, in the spare's write queue where its row is retired, or in the move buffer. -/
def issueDrain (c slot : Nat) (bad preamble : Bool) (d : Due) (x : DrainLine) (cmd : Option SdiCmd) (t : Stream) (s : State) :
    State :=
  let a := lineOf d.item.addr
  let e := engineIdx (engineOf d.n)
  let loc := s.place a
  let id := s.path.nextId
  let x := { x with info := s.drainInfo d.item.fmt a x.info }
  let side : Side := ⟨.unit (engineUnit d.n), 0, 0, 0, 0, t.desc.context, t.desc.world, 0, 0, 0, false⟩
  let s := addAsk { s.newAsk side a (.put x.data x.info) (.drain d.n d.num) with
    stage := .accepted, journal := true, confirmed := false, region := s.regionRaw a } s
  let s := s.peak 0xA002 2 s.journalUsed
  let mark (y : DrainLine) : DrainLine := if y.num = x.num && y.ask.isNone then { y with ask := some id } else y
  let t := { t.pop with issued := t.issued + 1, drain := t.drain.map mark, credits := t.credits + x.nw, drained := t.drained + x.nw }
  let s := advance d.n t s
  let s := s.send (.credit t.desc.port d.n x.nw)
  let s := countIf (engineBank (engineOf d.n)) 1 1 (s.planCause d.n a) (s.bump e 3)
  let s := if cmd.isSome then candidate 11 (s.planCause d.n a)
      (planSample true d.n id a d.item.instr d.item.place t.desc.context t.desc.world t.lag c (s.sealedAt a) (s.secureAt a)) s
    else s
  let s := match x.pool with
    | some r => s.setFeeds { s.feeds with escapesOut := alter 0 r (fun k => k - 1) s.feeds.escapesOut }
    | none => s
  let s := planOverRed a s
  let s := supersedeWrites loc.c a s
  let s := if s.redOpen a then s else replaceCopy a x.data x.info s
  let s := s.modChan loc.c (Chan.overtake a)
  let stored := (s.closeLine a (x.data, x.info)).1
  let s :=
    if loc.c ≠ c then pushWrite (.ask id) a fullMask x.data x.info (s.regionRaw a) s
    else if (s.chan c).moving loc then
      (writeMove loc stored x.info s).modAsk id fun q => { q with confirmed := true }
    else
      let ap := match cmd with | some (.wr _ _ _ ap) => ap | _ => false
      let w := { s.newWrite (.ask id) a loc fullMask stored x.info (s.regionRaw a) with placed := slot }
      (issueWrite c slot bad preamble ap true w s).takeOrder
  settleDrain false d.n (wholePlaced id a x.data x.info s)

/-- The conditions of R99 but the last, for a feed line and for a drain line. -/
def State.feedReady (s : State) (t : Stream) (d : Due) (c nw : Nat) : Bool :=
  decide (nw ≤ t.credits) &&
  (d.masked || (decide (s.feedHeld (engineOf d.n) false + nw ≤ 1024) &&
    ((s.place d.item.addr).c == c || (s.retLine d.n d.num).isSome)))
def State.drainReady (s : State) (t : Stream) (d : Due) (c : Nat) : Option DrainLine :=
  match t.drain.find? fun x => x.ask.isNone with
  | some x =>
    let a := lineOf d.item.addr
    let l := s.place a
    if x.num = d.num && x.escapes.isEmpty && s.journalFree && s.backingReady a &&
        (l.c == c || decide ((s.chan l.c).wq.length < wqSize)) then some x else none
  | none => none

/-- A planned slot at its column position (R100, R189): whether its stream has used it, be it for a line without a column command (R113,
R259, R261). A line that R185 alone forbids in its own slot slips; one that finds no pair of slots stays due (R210). `own` tells that
the slot is one of the stream's own. -/
def plannedSlot (c slot : Nat) (bad preamble own : Bool) (n : Nat) (w : List (Option PLine)) (s : State) : Bool × State :=
  match s.stream? n with
  | none => (false, s)
  | some t =>
    let t := t.dropSkips
    let bank := engineBank (engineOf n)
    match t.head with
    | none => (false, s.modStream n fun _ => t)
    | some none => (false, s.modStream n fun _ => t.pop)
    | some (some i) =>
      let s := lateMask n i (s.modStream n fun _ => t)
      let t := (s.stream? n).getD t
      let d : Due := ⟨n, t.issued, i, t.desc.drain, t.isMasked i⟩
      let p := s.pline c d
      let cmd := dueCmd p w s.chaff
      let x := s.chan c
      let fit := !x.busyNext && match cmd with
        | none => true
        | some y => rowReady x.time p && allowed x.time (s.half c) (colCk slot) y
      let nw := s.nwOf i.fmt
      let pair := cmd.isNone || s.pairFree c slot true []
      let s := countIf bank 4 (b2n (decide (t.credits < nw) && !t.desc.drain)) (s.planCause n i.addr) s
      let s := countIf bank 5 (b2n (decide (1024 < s.feedHeld (engineOf n) false + nw) && !t.desc.drain && !d.masked))
        (s.planCause n i.addr) s
      if t.desc.drain then
        match s.drainReady t d c with
        | none => (false, s)
        | some y =>
          if !pair then (false, s) else if fit then (true, issueDrain c slot bad preamble d y cmd t s)
          else (false, if own then slip c n s else s)
      else if !s.feedReady t d c nw || !pair then (false, s)
      else if fit then (true, issueFeed c slot bad d nw cmd t s) else (false, if own then slip c n s else s)

/-- A stream's lag after it has moved a line outside its own slots. -/
def settleLag (n : Nat) (s : State) : State :=
  match s.stream? n with
  | none => s
  | some t =>
    let p := s.program (engineOf n)
    s.modStream n fun _ => { t with lag := t.lagNow fun k => p.instrs.getD (t.desc.first + k) 0 }

/-- In half-width mode a planned line that found no pair in its own slot takes the first free pair after it (R210): whether one has. -/
def lateLine (c slot : Nat) (bad preamble : Bool) (w after : List (Option PLine)) (s : State) : Bool × State :=
  let waits (p : Nat × Stream) : Bool := decide (0 < p.2.lag) && match p.2.dropSkips.head with
    | some (some i) => (s.place i.addr).c == c && !p.2.fenced && !s.fenced p.2.desc.context
    | _ => false
  if !s.half c || !s.pairFree c slot false after then (false, s)
  else match s.feeds.streams.find? waits with
    | some (n, _) => let r := plannedSlot c slot bad preamble false n w s; (r.1, if r.1 then settleLag n r.2 else s)
    | none => (false, s)

/-- The line a stream is due to move is held by a WAIT (R487, engine counter 6). -/
def countOwn (n : Nat) (s : State) : State :=
  match s.stream? n with
  | some t => if t.runs.isEmpty && t.waiting.isSome then countIf (engineBank (engineOf n)) 6 1 (s.planCause n 0) s else s
  | none => s

/-- A slot taken from a stream: a skip item passes, a line stays due (R83, R100). -/
def takenSlot (n : Nat) (s : State) : State :=
  match s.stream? n with
  | none => s
  | some t =>
    let t := t.dropSkips
    s.modStream n fun _ => match t.head with | some none => t.pop | _ => t

/-! ### Retired rows (R261) and the move buffer (R259) -/

/-- Prefetch the retired lines among its streams' decoded items, in the order in which they fall due, into the sheaf's retirement buffer:
once no earlier planned write of the line is still to be placed. -/
def prefetch (c slot : Nat) (s : State) : State :=
  let here := (s.retirements (stackOf c)).any fun p => (retSource (stackOf c) p.2).1 == c
  let due := if here then (s.dueIn c slot (s.decodeSpan c)).filterMap fun x => x else []
  (List.range due.length).foldl (fun s i =>
    match due[i]? with
    | none => s
    | some d =>
      let l := s.place d.item.addr
      let held := s.path.retired.any fun r => r.n == d.n && r.num == d.num
      let earlier := (due.take i).any fun e => e.write && lineOf e.item.addr == lineOf d.item.addr
      let used := (s.path.retired.filter fun r => r.sheaf == sheafOf c).length
      if d.write || d.masked || l.c == c || held || earlier || 64 ≤ used || rqSize ≤ (s.chan l.c).rq.length then s
      else
        let s := s.setPath { s.path with retired := s.path.retired ++ [⟨sheafOf c, d.n, d.num, false, none⟩] }
        pushRead (.prefetch d.n d.num) d.item.addr 0 none (s.regionRaw d.item.addr) s) s

/-- Open reads and writes of a row that a move holds are served from its buffer, without a column command (R259): every whole-line write
is applied to it, and a read or a fill is answered once its line is there. -/
def serveMove (c slot : Nat) (s : State) : State :=
  let x := s.chan c
  let ws := (x.wq ++ x.urgent).filter fun w => !w.partial_ && !isMove w.who && x.firstOfLine w && x.moving w.loc
  let s := forEach ws (fun w s =>
    let s := countHealed w (writeMove w.loc w.data w.info (s.modChan c fun x => { x with
      wq := x.wq.filter (fun v => v.wid != w.wid), urgent := x.urgent.filter fun v => v.wid != w.wid }))
    match w.who with
    | .ask id => retire id (s.modAsk id fun q => { q with confirmed := true })
    | _ => s) s
  let x := s.chan c
  let there (l : Loc) : Bool := (s.moveLine l).isSome
  let rs := x.rq.filter fun e => !x.heldRead e && there e.loc
  let s := forEach rs (fun e s => moveRead c e [] slot (s.modChan c fun x =>
    { x with rq := x.rq.filter fun r => r.order != e.order })) s
  let fs := x.unfilled.filter fun w => there w.loc
  let s := forEach fs (fun w s => moveRead c (ownRead (.fill w.wid) w.addr w.loc slot w.order w.region) [] slot (s.modChan c fun x =>
    { x with wq := x.wq.map fun v => if v.wid == w.wid then { v with fillIssued := true } else v })) s
  syncDepth c s

/-! ### The slot -/

/-- What remains of a slot goes to planned lines that wait for a pair (R210), to the open path and then to the Gleaner (R27). -/
def freeSlot (c slot : Nat) (bad preamble : Bool) (w after : List (Option PLine)) (s : State) : State :=
  match lateLine c slot bad preamble w after s with
  | (true, s) => s
  | (false, s) =>
    match openSlot c slot bad preamble after s with
    | (true, s) => s
    | (false, s) => gleanSlot c slot bad after s

/-- A slot passes to its next claimant unless the first has used it. -/
def orElse (next : State → State) (r : Bool × State) : State := if r.1 then r.2 else next r.2

/-- A round of retraining is the first claimant of a calibration reserve slot (R27, R307). -/
def State.calibrating (s : State) (c : Nat) : Bool :=
  let t := s.tr c
  (t.round || t.margin.isSome || t.steer.isSome) && s.stewardUp

/-- The column position of a slot. (DEDUCED, log 37) -/
def colPosition (c slot : Nat) (bad preamble : Bool) (w after : List (Option PLine)) (s : State) : State :=
  let (ty, n) := s.slotUse c slot
  let taken := s.takenFor c slot
  let planned := plannedType ty
  let finish (s : State) : State := if planned then endOwnSlot n s else s
  match urgentRefresh c slot bad s with
  | some s' =>
    let s' := s'.modChan c fun x => { x with busyNext := false }
    if planned && taken.isNone then
      let line := (s.dueIn c slot 1).head?.join.isSome
      let s' := takenSlot n s'
      finish (if line then slip c n s' else s')
    else if planned then finish (takenSlot n s') else s'
  | none =>
    if (s.chan c).busyNext then
      let s := s.modChan c fun x => { x with busyNext := false }
      if planned then finish (takenSlot n s) else s
    else if s.settling c then (reserveRefresh c slot bad [] s).2
    else match taken with
      | some 0 =>
        let s := if planned then takenSlot n s else s
        finish (reserveRefresh c slot bad after s).2
      | some _ => finish (if planned then takenSlot n s else s)
      | none =>
        if ty = 4 then orElse (gleanSlot c slot bad after) (reserveRefresh c slot bad after s)
        else if ty = 5 then
          if s.calibrating c then calSlot c slot after s
          else orElse (gleanSlot c slot bad after) (readTemp c slot bad after s)
        else if planned then
          let s := countOwn n s
          let before := match s.stream? n with | some t => t.pos | none => 0
          let (done, s) := plannedSlot c slot bad preamble true n w s
          let after_ := match s.stream? n with | some t => t.pos | none => 0
          let s := countIf (engineBank (engineOf n)) 3 (b2n (before == after_)) (s.planCause n 0) s
          finish (if done then s else freeSlot c slot bad preamble w after s)
        else if ty = idleUse then s
        else freeSlot c slot bad preamble w after s

/-- A slot carried an RD, RDC or WR. -/
def Chan.dataIn (x : Chan) (slot : Nat) : Bool := x.issued.any fun i =>
  i.ck == colCk slot && (match i.cmd with | .rd .. => true | .rdc .. => true | .wr .. => true | _ => false)

/-- A slot passes while its channel issues nothing (halted, in self-refresh, training or recovering): a planned slot is its stream's own
slot all the same, and the line that is due stays due (R91, R100, R288). -/
def passSlot (c slot : Nat) (s : State) : State :=
  match s.running with
  | none => s
  | some p =>
    let home := s.homeOfChan c
    let x := match State.tableRuns p (tileOf home) with
      | [] => (0, 0)
      | runs => runAt runs ((s.frameOf slot - s.plans.activeFrom) % max 1 p.period * 1024 + slotInFrame slot)
    let live := match s.stream? x.2 with | some t => !t.fenced && !s.fenced t.desc.context | none => false
    if s.servedBy home != c || !plannedType x.1 || !live then s else endOwnSlot x.2 (takenSlot x.2 s)

/-- One slot of a channel controller. `fault` tells what goes wrong at the layers in it: 0 nothing, 1 the parity of the row
command, 2 the parity of the column command, 3 the preamble of a write. -/
def channelSlot (c fault : Nat) (s : State) : State :=
  let slot := s.slotOf c
  let x := s.chan c
  if match x.lastSlot with | some k => decide (slot ≤ k) | none => false then s
  else if !s.slotRuns c then passSlot c slot (s.modChan c fun x => { x with lastSlot := some slot })
  else
    let s := s.modChan c fun x => { x.pruneIssued (rowCk slot) with lastSlot := some slot }
    let s := beginWindow c slot s
    let s := serveMove c slot (nextMode c slot (ageReads c slot s))
    let s := count (chanBank c) 11 (s.chan c).wq.length (count (chanBank c) 10 (s.chan c).rq.length s)
    let s := prefetch c slot s
    let w := s.window c slot 32
    let s := rowPosition c slot (fault == 1) w s
    let w64 := s.window c slot 65
    let s := colPosition c slot (fault == 2) (fault != 3) w64 (w64.drop 1) s
    count (chanBank c) 9 (b2n (!(s.chan c).dataIn slot)) s

/-- CHANNEL_SLOT. -/
def execChannelSlot (c fault : Nat) (s : State) : Res := present (decide (c < s.channels)) (channelSlot c fault s)

end Sys2Proof.Machine
end

