-- ==== Sys2Proof/Machine/Halt.lean ====
section
/-!
DEFINITION. Node state changes, and the entry to HALTED (R36, R273, R413, R430, R431).
-/
namespace Sys2Proof.Machine

/-- The node moves to another state; the event carries the old and the new code (R413). -/
def setNode (n : NodeState) (s : State) : State :=
  let old := s.power.node.code
  if s.power.node = n then s
  else
    let s := { s with power := { s.power with node := n } }
    raiseNode Ev.nodeState (256 * old + n.code) (closeSegments (s.setOb 0x2000 1 n.code))

/-- A channel is to enter self-refresh with a class and a segment mask (R203, R206). -/
def drainChannel (c cls mask : Nat) (s : State) : State :=
  if (s.dch c).selfRef.isSome then s else s.modChan c fun x => { x with draining := some (cls, mask) }

/-- A channel counts as unretained at this entry to HALTED (R431). -/
def markUnretained (c : Nat) (s : State) : State :=
  if s.power.unretained.contains c then s
  else
    let l := s.power.unretained ++ [c]
    { s with power := { s.power with unretained := l } }.setOb 0xB040 6 l.length

/-- A channel does not answer. -/
def State.silentChan (s : State) (c : Nat) : Bool := s.chanState c == 1 || s.chanState c == 2 || !s.clockRuns c

/-- The writes of requests whose effect cannot be known: issued and not confirmed, on a channel that does not answer (R273). -/
def State.unknownWrites (s : State) : List Nat :=
  s.path.chans.flatMap fun p =>
    if s.silentChan p.1 then p.2.unconf.filterMap fun u => match u.entry.who with | .ask id => some id | _ => none else []

/-- The controllers' own writes whose effect cannot be known leave the journal and are counted (R273). -/
def dropUnknown (s : State) : State :=
  forEach ((s.path.chans.map (·.1)).filter s.silentChan) (fun c s =>
    let own (u : Unconf) : Bool := match u.entry.who with | .ask _ => false | _ => true
    (s.modChan c fun x => { x with unconf := x.unconf.filter fun u => !own u }).bumpBy 0xA002 6 ((s.chan c).unconf.filter own).length) s

/-- The journal at an entry to HALTED (R273, R36): entries of unknown effect go without a completion, the others that have no
completion complete UNREACHABLE, but for a write or an atomic at its effect point, which has its result. -/
def journalHalt (s : State) : State :=
  let lost := s.unknownWrites.filter fun id => match s.ask? id with | some q => !q.delivered | none => false
  let s := s.bumpBy 0xA002 6 lost.length
  let s := dropUnknown (s.setAsks (s.path.asks.filter fun q => !lost.contains q.id))
  let open_ := s.path.asks.filter fun q => q.fwd == 0 && q.stage != .finished
  let result (q : Ask) : Nat × Option Nat := match q.op, q.applied with
    | .write _ _, some st => (st, none)
    | .put _ _, some st => (st, none)
    | .atomic f _ _ fe _ _, some old => (St.ok, if fe || f == 14 then some old else none)
    | _, _ => (St.unreachable, none)
  forEach open_ (fun q s => finish q.id (result q).1 (result q).2 s) s

/-- The Headland ports stop, once what they hold has left (R36). -/
def stopPorts (s : State) : State :=
  forEach (List.range 4) (fun h s =>
    let p := s.port h
    if !p.live then s
    else
      let s := forEach p.egress (fun q s => s.send (.parcel h q)) s
      s.setPort h { s.port h with state := .down, egress := [] }) s

/-- The second and third step of an entry to HALTED: the journal, the ports, and self-refresh at class 4x with every segment for
each channel whose domain has a clock (R431). -/
def haltChannels (s : State) : State :=
  let s := { s with power := { s.power with halting := false } }
  let s := stopPorts (journalHalt s)
  forEach (List.range s.channels) (fun c s =>
    if s.chanState c = 2 || (s.dch c).selfRef.isSome then s
    else if s.clockRuns c then drainChannel c 2 0xFFFF s else markUnretained c s) s

/-- The Sequencer, the Steward and the Warden stop. -/
def stopProcs (s : State) : State :=
  let idle : Proc := ⟨false, none⟩
  { s with procs := { s.procs with sequencer := idle, steward := idle, warden := idle } }

/-- The node enters HALTED for an event (R430, R431): only the Keeper goes on (R24, R35), and dirty lines are written back first,
unless `back` is false. (DEDUCED, log 44) -/
def enterHalted (code : Nat) (back : Bool) (s : State) : State :=
  if s.power.node = .halted || s.power.node = .off then s
  else
    let s := setNode .halted (s.setOb 0xB040 3 code)
    let s := breakContinuity 1 (raiseNode Ev.nodeHalted code s)
    let s := { s with power := { s.power with
      unretained := [], fill := [], warmAt := s.now, halting := true, entering := false, waking := false } }
    let s := stopProcs ((s.setOb 0xB040 6 0).setOb 0x2000 9 0)
    let s := if back then writeBackAll (fun _ => true) s else s
    if !back || s.dirtyLines.isEmpty then haltChannels s else s

/-- An entry to HALTED goes on once no line is dirty (R431). -/
def haltStep (s : State) : State := if s.power.halting && s.dirtyLines.isEmpty then haltChannels s else s

end Sys2Proof.Machine
end

