-- ==== Sys2Proof/Machine/Refresh.lean ====
section
/-!
DEFINITION. Refresh, self-refresh, and the faults and return of a channel (R198–R212).
-/
namespace Sys2Proof.Machine

/-! ### Refresh debt (R200–R202) -/

/-- The time of a bank's m-th rise: φ + (j ÷ 256 + m)·tREFIpb. -/
def riseDue (origin cls j m : Nat) (now : Nat) : Bool := decide ((j + 256 * m) * refiT cls ≤ 256 * (now - origin))

/-- A channel's controller keeps refresh: it is trained and its layers are not in self-refresh. -/
def State.refreshes (s : State) (c : Nat) : Bool :=
  let st := s.chanState c
  (st == 0 || st == 3 || st == 4 || st == 5) && s.ob (chanIdx c) 0x40 == 3 && (s.dch c).selfRef.isNone

/-- A bank's debt rises by 1 at its next phase. -/
def debtRise (c j : Nat) (s : State) : State :=
  let x := s.chan c
  let m := look 0 j x.rises
  if !s.refreshes c || 256 ≤ j || !riseDue x.origin (s.refreshClass c) j m s.now then s
  else
    let s := s.modChan c fun x => { x with rises := put 0 j (m + 1) x.rises }
    if x.debtOf j < 32 then addDebt c [j] 1 s else s

/-- REFRESH_INTERVAL_TICK. -/
def execRefreshIntervalTick (c bank : Nat) (s : State) : Res := present (decide (c < s.channels)) (debtRise c bank s)

/-- A debt after a change of class by a factor (R201): a positive one becomes F·d, or ⌈d ÷ F⌉; credit is kept. -/
def rescale (old new : Nat) (d : Int) : Int :=
  if d ≤ 0 then d
  else if old < new then d * (2 : Int) ^ (new - old)
  else (d + (2 : Int) ^ (old - new) - 1) / (2 : Int) ^ (old - new)

/-- When the frame under way began, in ticks of the node. -/
def State.frameBegan (s : State) : Nat := s.now - (s.setTicks + frameT - s.epochT % frameT) % frameT

/-- A channel takes a refresh class: its debts are rescaled, its phases restart at the frame boundary, and debts above 4 are refreshed
urgently (R200, R201). -/
def takeClass (new c : Nat) (s : State) : State :=
  let old := s.refreshClass c
  let s := s.setOb (chanIdx c) 4 new
  showDebt c (s.modChan c fun x =>
    let debt := forEach (x.debt.map (·.1)) (fun b m => put 0 b (rescale old new (x.debtOf b)) m) x.debt
    { x with debt := debt, origin := s.frameBegan, rises := []
             rising := if old < new then (debt.map (·.1)).filter fun b => decide (4 < look (0 : Int) b debt) else x.rising })

/-- A sheaf takes the class its temperature calls for, once the Steward runs (R198, R201, R202). -/
def classChange (u : Nat) (s : State) : State :=
  let new := look 0 u s.heat.classDue
  let old := s.refreshClass (9 * u)
  if !s.stewardUp || new = old then s
  else
    let s := forEach (List.range 9) (fun k s => takeClass new (9 * u + k) s) s
    let s := raise Ev.refreshClass u (256 * old + new) s
    match s.running with
    | some p => if p.cls < new then startDerate 0 s else s
    | none => s

/-- REFRESH_CLASS_CHANGE. -/
def execRefreshClassChange (u : Nat) (s : State) : Res := present (decide (u < 8 * s.cfg.nstacks)) (classChange u s)

/-! ### Self-refresh entry (R203, R206) -/

/-- The mode register writes, address and value, that give the layers what training has left: the width and the permanent assignment of
the spare group (R312, R513). -/
def State.layerModes (s : State) (c : Nat) : List (Nat × Nat) :=
  [(0x10, 1 + 2 * (s.tr c).width), (0x11, steerValue (s.spareGroup c) true)]

/-- Those that give the layers every setting they hold: the Vref of each group and of the CA lanes besides. -/
def State.layerSettings (s : State) (c : Nat) : List (Nat × Nat) :=
  s.layerModes c ++ ((List.range 18).map fun g => (0x20 + g, s.ob (chanIdx c) (0x50 + g) % 256)) ++
  [(0x12, s.ob (chanIdx c) 0x63 / 2 ^ 104 % 256)]

/-- The layers take some mode registers while the channel is not in service, at no position of its slots. (DESIGN CHOICE, log 18) -/
def layModes (c : Nat) (l : List (Nat × Nat)) (s : State) : State := forEach l (fun p s => layMrwb c p.1 p.2 s) s
def setLayers (c : Nat) (s : State) : State := layModes c (s.layerModes c) s

/-- A round or a margining leaves no group offline: it is abandoned, an offline group under way to new settings keeps its old ones, and a
round follows at once (R310). -/
def dropRound (c : Nat) (s : State) : State :=
  let t := s.tr c
  let s := if t.offline.isSome && !t.steps.isEmpty then forEach t.before (fun p s => s.setOb (chanIdx c) p.1 p.2) s else s
  s.modTr c fun t => { t with
    round := false, groups := [], offline := none, steer := none, steps := [], late := t.late || t.round }

/-- The mode registers a round to be abandoned has changed, with what they go back to, once it is dropped. -/
def State.roundBack (s : State) (c : Nat) : List (Nat × Nat) :=
  let t := s.tr c
  let u := dropRound c s
  let vref := match t.offline with
    | some g => if t.steps.isEmpty then [] else [(0x20 + g, u.ob (chanIdx c) (0x50 + g) % 256)]
    | none => []
  if t.round || t.offline.isSome then vref ++ u.layerModes c else []

/-- A round of retraining is abandoned (R310). -/
def abandonRound (c : Nat) (s : State) : State := layModes c (s.roundBack c) (dropRound c s)

/-- The PREab step of an entry, at the row position of the slot under way; a round is abandoned, and its mode registers and the thermal
flag threshold of every layer, T_trip, are written at the row positions that follow (R183, R203, R289, R295, R310). -/
def entryPreab (c : Nat) (s : State) : State :=
  let slot := s.slotOf c
  let modes := (s.roundBack c ++ [(0x13, 110)]).map fun (p : Nat × Nat) => SdiCmd.mrw 16 p.1 p.2
  let s := issueRow c slot false .planned .preAll (dropRound c s)
  s.modChan c fun x => { x with
    entry := some (false, rowCk slot), gleanRow := none, again := modes, rising := [], mode := .read, busyNext := false }

/-- The next mode register write of an entry. -/
def entryMode (c : Nat) (cmd : SdiCmd) (s : State) : State :=
  issueRow c (s.slotOf c) false .planned cmd (s.modChan c fun x => { x with again := x.again.erase cmd })

/-- The SRE step of an entry. -/
def entrySre (c cls mask : Nat) (s : State) : State :=
  let slot := s.slotOf c
  let s := issueRow c slot false .planned (.sre cls mask) s
  s.modChan c fun x => { x with entry := some (true, rowCk slot), sreAt := s.now }

/-- The channel clock stops: the entry is complete. -/
def enterSelfRefresh (c : Nat) (s : State) : State :=
  let st := s.chanState c
  let s := s.modChan c fun x => { x with entry := none, srFrom := if st = 6 then x.srFrom else st }
  raise Ev.selfRefreshEntry c 0 (s.setChanState c 6)

/-- A channel enters self-refresh because of a halt, at class 4x (R206, R288, R431). -/
def State.haltEntry (s : State) (c : Nat) : Bool := s.halted (stackOf c) || s.power.node == .halted || s.heat.tripped

/-- The class its SRE carries: the sheaf's as it stands then (R203), or that of the halt. -/
def State.sreClass (s : State) (c cls : Nat) : Nat := if s.haltEntry c then cls else s.refreshClass c

/-- A command may take the row position of the slot under way. -/
def State.rowAllowed (s : State) (c : Nat) (cmd : SdiCmd) : Bool :=
  (s.chan c).rowFree (s.slotOf c) && allowed (s.chan c).time (s.half c) (rowCk (s.slotOf c)) cmd

/-- Write-backs of a warm reset still wait for a channel's write queue (R159, R180). -/
def State.backsWaiting (s : State) (c : Nat) : Bool :=
  s.path.asks.any fun q => q.stage == .offered && s.warmBack q && (s.place q.addr).c == c

/-- The next step of a channel's entry to self-refresh: in a halt from the PREab on, otherwise once its queues are empty and its refresh
is settled; tCKSRE after SRE the clock stops (R185, R203, R206). -/
def selfRefreshEntry (c : Nat) (s : State) : State :=
  let x := s.chan c
  let st := s.chanState c
  match x.draining with
  | none => s
  | some (cls, mask) =>
    if !(st == 0 || st == 3 || st == 4 || st == 5 || (st == 6 && (s.dch c).selfRef.isNone) || x.entry.isSome) || s.backsWaiting c then s
    else match x.entry with
      | some (true, t) => if t + 8 ≤ rowCk (s.slotOf c) then enterSelfRefresh c s else s
      | some (false, _) =>
        match x.again with
        | cmd :: _ => if s.rowAllowed c cmd then entryMode c cmd s else s
        | [] => if s.rowAllowed c (.sre (s.sreClass c cls) mask) then entrySre c (s.sreClass c cls) mask s else s
      | none =>
        if !s.rowAllowed c .preAll then s
        else if s.haltEntry c || (s.settling c && x.unconf.isEmpty && (x.debt.all fun p => decide (p.2 ≤ 0))) then entryPreab c s
        else s

/-- SELF_REFRESH_ENTRY. -/
def execSelfRefreshEntry (c : Nat) (s : State) : Res := present (decide (c < s.channels)) (selfRefreshEntry c s)

/-! ### Self-refresh exit (R205) -/

/-- The controller starts afresh after SRX or at node start (R205, R212): every debt 0, its phases restarted. -/
def freshRefresh (c : Nat) (s : State) : State :=
  showDebt c (s.modChan c fun x => { x with debt := [], rises := [], rising := [], origin := s.now })

/-- SRX at the row position of the slot under way. -/
def exitSrx (c : Nat) (s : State) : State :=
  let mask := match (s.dch c).selfRef with | some (_, m) => m | none => 0xFFFF
  let ck := rowCk (s.slotOf c)
  let s := s.modChan c fun x =>
    { x with time := Timing.reset, draining := none, entry := none, issued := [], alerts := []
             poisonDue := (0xFFFF - mask % 65536) + if mask % 65536 = 0xFFFF then 0 else 65536 }
  laySrx c (noteCmd c ck .srx 0 s)

/-- tXS after SRX: the layers take their settings, and refresh starts afresh (R185, R205). -/
def leaveSelfRefresh (c : Nat) (s : State) : State := freshRefresh c (layModes c (s.layerSettings c) s)

/-- tSRmin. -/
def srMin : Nat := 1000 * nsT

/-- The node is to take a channel out of self-refresh: a wake, a start after a warm reset, or the end of a stack's halt (R205,
R206, R425, R429). -/
def State.exitWanted (s : State) (c : Nat) : Bool :=
  !s.halted (stackOf c) && s.power.node != .halted && !s.heat.tripped &&
  (s.power.node == .config || s.power.node == .ready || s.power.node == .run || s.power.waking)

/-- SRX may issue: the channel clock has been stable for tCKSRX, and tSRmin has passed since SRE (R185, R205). -/
def State.srxAllowed (s : State) (c : Nat) : Bool :=
  s.clockFull c && s.elapsed (look 0 (sheafOf c) s.clk.stepped) 80 && s.elapsed (s.chan c).sreAt srMin

/-- Training of a channel begins: restored, or full. -/
def beginTraining (c : Nat) (full : Bool) (s : State) : State :=
  let s := s.setOb (chanIdx c) 0x40 (if full then 2 else 1)
  s.modTr c fun t => { t with began := s.now, stepAt := s.now, lost := 0 }

/-- A channel of a stack that is still being trained in full. -/
def State.trainingFull (s : State) (st : Nat) : Bool :=
  (List.range 72).any fun i => s.ob (chanIdx (72 * st + i)) 0x40 == 2

/-- Full training waits for its stack's turn, in order: a channel that is to be trained in full is marked 0xFF in `timeouts` until
then. -/
def waitingTurn : Nat := 0xFF

/-- A channel is to be trained in full, as soon as no other stack trains in full (R304). -/
def wantFull (c : Nat) (s : State) : State :=
  let busy := (List.range s.cfg.nstacks).any fun st => st != stackOf c && s.trainingFull st
  let s := s.modTr c fun t => { t with timeouts := if busy then waitingTurn else 0 }
  if busy then s.setOb (chanIdx c) 0x40 0 else beginTraining c true s

/-- A failed channel that software wants trained again, and whose training has not begun (R313). -/
def State.askedAgain (s : State) (c : Nat) : Bool :=
  s.chanState c == 2 && (s.tr c).asked && s.ob (chanIdx c) 0x40 == 0 && (s.tr c).timeouts != waitingTurn

/-- The next step of a channel's exit from self-refresh, once its settings are applied: SRX, and its service tXS later, or the training
that was asked for. -/
def selfRefreshExit (c : Nat) (s : State) : State :=
  let x := s.chan c
  if s.askedAgain c then
    if (s.dch c).selfRef.isSome then if s.srxAllowed c then exitSrx c s else s
    else if within (rowCk (s.slotOf c)) 240 x.time.srx then s
    else wantFull c (raise Ev.selfRefreshExit c 0 s)
  else if s.chanState c != 6 || s.ob (chanIdx c) 0x40 != 3 then s
  else if (s.dch c).selfRef.isSome then if s.srxAllowed c && s.exitWanted c then exitSrx c s else s
  else if within (rowCk (s.slotOf c)) 240 x.time.srx then s
  else raise Ev.selfRefreshExit c 0 ((leaveSelfRefresh c s).setChanState c x.srFrom)

/-- SELF_REFRESH_EXIT. -/
def execSelfRefreshExit (c : Nat) (s : State) : Res := present (decide (c < s.channels)) (serveAll (selfRefreshExit c s))

/-- Write a block of 8 rows of a channel poisoned: the sealed bit is that of its range (R244). -/
def poisonBlock (c block : Nat) (s : State) : State :=
  let a := s.addrOf (s.homeOfChan c) (block * 2 ^ 21)
  fillRows c block (if s.sealedAt a then 2 else 1) s

/-- The lines of the segments not retained have been written poisoned on DEEP exit (R205). -/
def deepPoison (c : Nat) (s : State) : State :=
  let due := (s.chan c).poisonDue
  if due = 0 || (s.dch c).selfRef.isSome then s
  else
    let segs := (List.range 16).filter fun m => due.testBit m
    let s := forEach (segs.flatMap segmentBlocks) (poisonBlock c) s
    let s := s.modChan c fun x => { x with poisonDue := 0 }
    raise Ev.segmentsLost c (segs.length * 524288) s

/-- DEEP_SEGMENT_POISON_DONE. -/
def execDeepSegmentPoisonDone (c : Nat) (s : State) : Res := present (decide (c < s.channels)) (deepPoison c s)

/-! ### Faults and failure (R208, R209) -/

/-- A stream has planned slots on a channel. -/
def State.streamUses (s : State) (c n : Nat) : Bool :=
  match s.plans.active with
  | some p => (State.tableRuns p (tileOf (s.homeOfChan c))).any fun r => plannedType r.type && r.stream == n
  | none => false

/-- The reads and writes of a channel go back to be issued again, in order (R208, R271); what only concerned the controller
itself is dropped. The result also tells how many entries of the journal are reissued. -/
def Chan.replay (x : Chan) : Chan × Nat :=
  let fromFlight (f : Flight) : Option RdEntry := match f.entry.who with | .ask _ => some f.entry | .prefetch _ _ => some f.entry | .move _ => some f.entry | _ => none
  let reads := sortList (x.flights.filterMap fromFlight ++ x.rq) fun a b => decide (a.order ≤ b.order)
  let writes := (x.unconf.map (·.entry)).filter fun w => match w.who with | .ask _ => true | _ => false
  let own := (x.unconf.map (·.entry)).filter fun w => match w.who with | .ask _ => false | _ => true
  let unfill (w : WrEntry) : WrEntry := if w.partial_ then { w with fillIssued := false } else w
  let unread (r : Rec) : Rec := { r with issued := false }
  ({ x with
      flights := [], unconf := [], issued := [], alerts := [], again := [], openActs := [], busyNext := false
      rq := reads, wq := (writes ++ x.wq).map unfill, urgent := own ++ x.urgent, recs := x.recs.map unread
      move := x.move.map fun m => { m with waiting := [] }
      gleanRow := none, lastWrite := none, run := 0, mode := .read },
    (reads.filter fun e => match e.who with | .ask _ => true | _ => false).length + writes.length + own.length + x.wq.length + x.urgent.length)

/-- A channel fails: its contents are lost with it (R209). (DEDUCED, log 38) -/
def failChannel (c : Nat) (s : State) : State :=
  if s.chanState c = 2 then s
  else
    let x := s.chan c
    let s := raise Ev.channelFailed c 0 (s.setChanState c 2)
    let askOf (w : WrEntry) : Option Nat := match w.who with | .ask id => some id | _ => none
    let readers := (x.rq ++ (x.flights ++ x.recWait).map (·.entry)).map (·.who) ++ x.recs.flatMap fun r => r.readers.map (·.1)
    let fills := (x.wq.filter (·.partial_)).filterMap askOf
    let placed := (((x.wq.filter fun w => !w.partial_) ++ x.unconf.map (·.entry)).filterMap askOf)
    let offered := (s.path.asks.filter fun q =>
      q.stage == .offered && q.fwd == 0 && !farAddr q.addr && (s.place q.addr).c == c &&
      (match q.op with | .sync .. => false | _ => true)).map (·.id)
    let s := loseContent c 0 (s.setChan c { Chan.reset with lapStart := x.lapStart, weak := x.weak, spares := x.spares, depth := x.depth })
    let s := forEach readers (fun r s => match r with
      | .ask id => finish id St.unreachable none s
      | .planned n num => feedRefused n num s
      | .prefetch n num => s.setPath { s.path with retired := s.path.retired.filter fun q => !(q.n == n && q.num == num) }
      | _ => s) s
    let s := forEach fills (fun id s => finish id St.unreachable none s) s
    let s := forEach offered (fun id s => finish id St.unreachable none s) s
    let s := forEach placed (fun id s => retire id (s.modAsk id fun q => { q with confirmed := true })) s
    syncDepth c (fenceStreams 8 (fun n _ => s.streamUses c n) s)

/-- A controller faults: its watchdog places the channel in self-refresh, which completes the entry, and it restores its training; or
the channel fails (R208, R209, R213). -/
def channelFault (c : Nat) (placed : Bool) (s : State) : State :=
  let st := s.chanState c
  if st = 1 || st = 2 then s
  else
    let s := raise Ev.channelFault c 0 s
    if !placed then failChannel c s
    else
      let s := fenceStreams 8 (fun n _ => s.streamUses c n) s
      let s := if (s.dch c).selfRef.isSome then s
        else raise Ev.selfRefreshEntry c 0 (laySre c (s.refreshClass c) 0xFFFF (layPreab c 0 true s))
      let s := abandonRound c s
      let s := s.modChan c fun x =>
        { x with time := { x.time with open_ := [], planned := [] }, faultAt := s.now, sreAt := s.now, rejoin := false
                 entry := none, srFrom := if st = 6 then x.srFrom else st }
      beginTraining c false (s.setChanState c 1)

/-! ### One fault at a time (R272, R273) -/

/-- The recovery of a single part of R271 is under way: a channel, a slice being taken over, a link that retrains, a crossing that is
shut, a control processor, or a copy of the journal. (DEDUCED, log 38) -/
def State.recovering (s : State) : Bool :=
  (s.path.chans.any fun p => s.chanState p.1 == 1) || ((List.range 16).any fun x => s.sliceState x == 1) ||
  ((List.range 4).any fun h => (s.port h).retraining && (s.port h).everUp) || !s.clk.closed.isEmpty ||
  [s.procs.sequencer, s.procs.steward, s.procs.warden, s.procs.keeper].any (fun p => p.restart.isSome) || s.ob 0xA002 3 != 0

/-- A fault of a single part: with another recovery under way the guarantee of R10 no longer holds, and the node is halted. (DEDUCED, log 38) -/
def singleFault (code : Nat) (f : State → State) (s : State) : State :=
  let second := s.recovering && (s.power.node == .ready || s.power.node == .run)
  let s := f (s.setOb 0xB040 1 4)
  if second then enterHalted code true s else s

/-- ENGINE_FAULT. -/
def execEngineFault (e : Nat) (s : State) : Res :=
  present (decide (e < 16 * s.cfg.nstacks)) (serveAll (singleFault Ev.engineFault (engineFault e) s))

/-- FORMAT_UNIT_FAULT. -/
def execFormatUnitFault (u : Nat) (s : State) : Res :=
  present (decide (u < 8 * s.cfg.nstacks)) (serveAll (singleFault Ev.formatUnitFault (unitFault u) s))

/-- SLICE_FAULT. -/
def execSliceFault (x : Nat) (s : State) : Res :=
  present (decide (x < 16)) (serveAll (singleFault Ev.sliceFault (sliceFault x) s))

/-- CHANNEL_FAULT: `placed` tells whether the watchdog could place the channel in self-refresh. -/
def execChannelFault (c : Nat) (placed : Bool) (s : State) : Res :=
  present (decide (c < s.channels)) (serveAll (singleFault Ev.channelFault (channelFault c placed) s))

/-- The bound of R208. -/
def recoveryLimit : Nat := 50 * msT

/-- A recovered controller takes up its work again: it is reissued in journal order, and service resumes (R208). -/
def resumeChannel (c : Nat) (s : State) : State :=
  let s := raise Ev.selfRefreshExit c 0 (leaveSelfRefresh c s)
  let (x, k) := (s.chan c).replay
  let s := (s.setChan c x).bumpBy 0xA002 5 k
  let s := syncDepth c (s.setChanState c x.srFrom)
  let s := raise Ev.channelRecovered c 0 s
  if s.haltEntry c then drainChannel c 2 0xFFFF s else s

/-- The next step of a controller's recovery, once its training is restored: SRX, and its service tXS later (R205, R208). A failed
self-test or training fails the channel. (DEDUCED, log 38) -/
def channelRecovered (c : Nat) (ok : Bool) (s : State) : State :=
  if s.chanState c != 1 then s
  else if !ok then failChannel c s
  else if s.ob (chanIdx c) 0x40 != 3 then s
  else if (s.dch c).selfRef.isSome then if s.srxAllowed c then exitSrx c s else s
  else if within (rowCk (s.slotOf c)) 240 (s.chan c).time.srx then s
  else resumeChannel c s

/-- CHANNEL_RECOVERED: `ok` tells whether its self-test and training passed. -/
def execChannelRecovered (c : Nat) (ok : Bool) (s : State) : Res :=
  present (decide (c < s.channels)) (serveAll (channelRecovered c ok s))

/-- CHANNEL_RECOVERY_TIMEOUT. -/
def execChannelRecoveryTimeout (c : Nat) (s : State) : Res :=
  present (decide (c < s.channels))
    (if s.chanState c == 1 && s.elapsed (s.chan c).faultAt recoveryLimit then serveAll (failChannel c s) else s)

/-- 0x4000+c:1C: DENIED unless the channel is in shadow state and no fill or copy of it runs (R211, R266, R267, R434). -/
def channelRejoinHome (c : Nat) : Home := fun _ s =>
  let ready := match s.path.copyBack with | some b => b.c == c && b.ready | none => false
  let copying := !isSpare c && s.servedBy c != c && !ready
  let filling := match s.path.reconst with | some b => b.spare == c && !b.ready | none => false
  if s.chanState c != 3 || copying || filling then .denied s
  else .done ((s.modChan c fun x => { x with rejoin := true }).armRejoin (0x600 + c))

/-- CHANNEL_REJOIN. -/
def execChannelRejoin (r : Req) (c : Nat) (s : State) : Res :=
  .next (dictWrite r (chanIdx (c % 4096)) 0x1C [1] (channelRejoinHome (c % 4096)) s)

end Sys2Proof.Machine
end

