-- ==== Sys2Proof/Machine/Heat.lean ====
section
/-!
DEFINITION. Temperatures, the ladder, the throttle handshake, the emergency halt and the trip (R277–R296). Temperatures are in
quarters of a degree.
-/
namespace Sys2Proof.Machine

/-! ### Sensors (R277, R279, R280) -/

/-- The hottest code, 127.75 °C. -/
def hottest : Int := 511

/-- A sensor: layer sensor n of stack st, or logic-side sensor n. -/
def sensorKey (st n : Nat) : Nat := 144 * st + n
def logicKey (n : Nat) : Nat := 10000 + n

def State.sensor (s : State) (k : Nat) : Sensor := look .reset k s.heat.sensors
def State.setHeat (s : State) (h : Heat) : State := { s with heat := h }
def State.setSensor (s : State) (k : Nat) (x : Sensor) : State :=
  s.setHeat { s.heat with sensors := put .reset k x s.heat.sensors }

/-- A sensor is excluded (R280). -/
def State.excluded (s : State) (st n : Nat) : Bool := (s.ob (0x9014 + st) (n / 64 + 1)).testBit (n % 64)
def State.logicExcluded (s : State) (n : Nat) : Bool := (s.ob 0x9018 2).testBit n

/-- What a sensor reads by itself: the hottest code while it is broken, nothing before its first reading. -/
def Sensor.reading (x : Sensor) : Option Int := if x.broken then some hottest else if x.has then some x.value else none

/-- The highest of some readings. -/
def maxReading (l : List (Option Int)) : Option Int :=
  l.foldl (fun m x => match m, x with
    | none, x => x
    | some a, some b => some (max a b)
    | m, none => m) none

/-- A replacement: the highest of its sources plus 5 °C; a broken source gives the hottest code. (DEDUCED, log 39) -/
def replaceBy (srcs : List Sensor) : Option Int :=
  if srcs.any (·.broken) then some hottest else (maxReading (srcs.map (·.reading))).map fun v => min hottest (v + 20)

/-- The sensors that replace an excluded layer sensor. -/
def layerSources (n : Nat) : List Nat :=
  if n % 9 = 8 then (List.range 8).map fun w => 9 * (n / 9) + w
  else (if 9 ≤ n then [n - 9] else []) ++ (if n + 9 < 144 then [n + 9] else [])

/-- The reading of a layer sensor as the ladder uses it, and whether it stands for a broken sensor. -/
def State.layerReading (s : State) (st n : Nat) : Option Int :=
  if s.excluded st n then replaceBy ((layerSources n).map fun m => s.sensor (sensorKey st m))
  else (s.sensor (sensorKey st n)).reading

/-- A layer sensor's reading rests on a broken sensor. -/
def State.layerBroken (s : State) (st n : Nat) : Bool :=
  if s.excluded st n then (layerSources n).any fun m => (s.sensor (sensorKey st m)).broken
  else (s.sensor (sensorKey st n)).broken

def logicNumbers : List Nat := List.range 16

/-- The sensors that replace an excluded logic-side sensor. -/
def State.logicSources (s : State) (n : Nat) : List Nat := logicNumbers.filter fun m => m != n && !s.logicExcluded m

/-- A logic-side sensor's reading rests on a broken sensor. -/
def State.logicBroken (s : State) (n : Nat) : Bool :=
  if s.logicExcluded n then (s.logicSources n).any fun m => (s.sensor (logicKey m)).broken else (s.sensor (logicKey n)).broken

def State.logicReading (s : State) (n : Nat) : Option Int :=
  if s.logicExcluded n then
    replaceBy ((s.logicSources n).map fun m => s.sensor (logicKey m))
  else (s.sensor (logicKey n)).reading

/-! ### Governing temperatures (R277) -/

/-- Sheaf temperature of sheaf u. -/
def State.sheafTemp (s : State) (u : Nat) : Option Int :=
  let st := u / 8
  maxReading ((List.range 16).flatMap fun l => [s.layerReading st (9 * l + u % 8), s.layerReading st (9 * l + 8)])

/-- Stack temperature; of the valid readings alone in CONFIG (R294). -/
def State.stackTemp (s : State) (st : Nat) : Option Int :=
  let all := s.power.node != .config
  maxReading ((List.range 144).map fun n => if all || !s.layerBroken st n then s.layerReading st n else none)

/-- Junction temperature. -/
def State.junction (s : State) : Option Int := maxReading (logicNumbers.map s.logicReading)

/-- The sensor that gives the stack temperature. -/
def State.hottestSensor (s : State) (st : Nat) : Nat :=
  ((List.range 144).find? fun n => s.layerReading st n == s.stackTemp st).getD 0

/-- The block's stacks. -/
def State.stacks_ (s : State) : List Nat := List.range s.cfg.nstacks

/-- The object of one sensor. -/
def showSensor (st n : Nat) (s : State) : State :=
  match s.layerReading st n with
  | some v => s.setOb (0x9010 + st) (n + 1) (unsigned 16 v)
  | none => s

/-- The objects of a stack's temperatures follow its sensors; an excluded sensor shows what replaces it (R280, R298). -/
def showStack (st : Nat) (s : State) : State :=
  let i := 0x9008 + st
  let s := forEach ((List.range 144).filter fun n => s.excluded st n) (showSensor st) s
  let s := match s.stackTemp st with
    | some t => (s.setOb i 2 (unsigned 16 t)).setOb i 3 (s.hottestSensor st)
    | none => s
  s.setOb i 7 ((List.range 144).filter fun n => (s.sensor (sensorKey st n)).broken).length

/-- The objects of the logic-side sensors. -/
def showLogic (s : State) : State :=
  let words := logicNumbers.map fun n => unsigned 16 ((s.logicReading n).getD 0)
  let s := s.setOb 0x9018 1 (words.foldr (fun w m => w + 2 ^ 16 * m) 0)
  match s.junction with | some t => s.setOb 0x9001 1 (unsigned 16 t) | none => s

/-! ### A reading comes (R279) -/

/-- The other sensors a stuck sensor is judged by: those of its column, or the other logic-side sensors. -/
def peersOf (k : Nat) : List Nat :=
  if 10000 ≤ k then (logicNumbers.map logicKey).filter fun j => j != k
  else ((List.range 16).map fun l => sensorKey (k / 144) (9 * l + k % 144 % 9)).filter fun j => j != k

/-- What the peers of a sensor read now. -/
def State.peerReadings (s : State) (k : Nat) : Store Int :=
  (peersOf k).foldl (fun m j => if (s.sensor j).has then put 1000 j (s.sensor j).value m else m) []

/-- A sensor becomes broken. -/
def breakSensor (k : Nat) (s : State) : State :=
  let x := s.sensor k
  if x.broken then s.setSensor k { x with good := 0 }
  else
    let s := s.setSensor k { x with broken := true, good := 0 }
    if 10000 ≤ k then raise Ev.sensorBroken (0x80 + (k - 10000)) 0 s else raise Ev.sensorBroken (k / 144) (k % 144) s

/-- A valid reading: within the range of R279, or it breaks the sensor; a sensor that has not changed for 1 s while a peer
changed by 4 °C is stuck; a broken one is whole again after 16 readings in a row that moved by at most 4 °C. -/
def takeReading (k : Nat) (v : Int) (s : State) : State :=
  let x := s.sensor k
  if v < -160 || hottest < v then breakSensor k (s.setSensor k { x with at_ := s.now })
  else
    let calm := x.has && decide ((v - x.value).natAbs ≤ 16)
    let good := if calm then x.good + 1 else 1
    let moved := !x.has || v != x.value
    let y : Sensor := { x with value := v, has := true, at_ := s.now, good := good }
    let y := if moved then { y with changed := s.now, peers := s.peerReadings k } else y
    if x.broken then
      s.setSensor k (if 16 ≤ good then { y with broken := false, changed := s.now, peers := s.peerReadings k } else y)
    else
      let s := s.setSensor k y
      let stuck := s.elapsed y.changed secT && (peersOf k).any fun j =>
        let p := look 1000 j y.peers
        p != 1000 && (s.sensor j).has && decide (16 ≤ ((s.sensor j).value - p).natAbs)
      if stuck then breakSensor k s else s

/-- A sensor has been read and the reading is not valid: the invalid code, or no answer. -/
def noReading (k : Nat) (s : State) : State := s.setSensor k { s.sensor k with good := 0 }

/-- What follows every reading: the objects, the time a stack has been cool, and the time of R294. -/
def afterReadings (st : Nat) (s : State) : State :=
  let s := showStack st s
  let cool := match s.stackTemp st with | some t => decide (t < 388) | none => false
  let since := look 0 st s.heat.coolSince
  s.setHeat { s.heat with coolSince := put 0 st (if cool then (if since = 0 then s.now + 1 else since) else 0) s.heat.coolSince }

/-- Every sensor that is not excluded, and the junction, read below the limits of R294. -/
def State.allCool (s : State) : Bool :=
  let limit : Int := 4 * s.ob 0x9000 4
  (s.stacks_.all fun st => (List.range 144).all fun n =>
    s.excluded st n || match (s.sensor (sensorKey st n)).reading with | some v => decide (v < limit) | none => false) &&
  (match s.junction with | some t => decide (t < 400) | none => false)

/-- The second of R294 begins, goes on or is broken. -/
def noteCool (s : State) : State :=
  if !s.nvm.shutdown.isEmpty then
    s.setHeat { s.heat with coolFrom := if s.allCool then (if s.heat.coolFrom = 0 then s.now + 1 else s.heat.coolFrom) else 0 }
  else s

/-- Take one sensor's code of the readout: the invalid code 0x8000 is no reading. -/
def takeCode (st n code : Nat) (s : State) : State :=
  let k := sensorKey st n
  showSensor st n (if code = 0x8000 then noReading k s else takeReading k (signed 16 code) s)

/-- The TEMP block of a layer as a channel of sheaf u reads it (R278, R516): its column sensor, and its centre sensor for the
layers w and w + 8. -/
def tempBlock (u layer : Nat) (bytes : List Byte) (s : State) : State :=
  let w := u % 8
  let st := u / 8
  let s := takeCode st (9 * layer + w) (leNat (bytes.take 2)) s
  let s := if layer % 8 = w then takeCode st (9 * layer + 8) (leNat ((bytes.drop 2).take 2)) s else s
  noteCool (afterReadings st s)

/-- A temperature read that draws an alert or brings nothing is not valid. -/
def tempFailed (u layer : Nat) (s : State) : State :=
  let w := u % 8
  let s := noReading (sensorKey (u / 8) (9 * layer + w)) s
  if layer % 8 = w then noReading (sensorKey (u / 8) (9 * layer + 8)) s else s

/-! ### The ladder (R281, R282) -/

/-- The thresholds of the stack levels 1 to 5. -/
def ladder : List (Nat × Int) := [(1, 340), (2, 380), (3, 400), (4, 420), (5, 440)]

/-- The highest threshold entered and not left, from the level now: left below the threshold less 3 °C. -/
def levelFor (cur : Nat) (t : Int) : Nat :=
  ladder.foldl (fun (m : Nat) p => if p.2 ≤ t || (p.1 ≤ cur && p.2 - 12 ≤ t) then p.1 else m) 0

def stackIdx (st : Nat) : Nat := 0x9008 + st
def State.level (s : State) (st : Nat) : Nat := s.ob (stackIdx st) 1

/-- What sv_heat_throttle shows for a level (R283). -/
def heatPin (level : Nat) : Nat := if level ≤ 1 then 0 else min 3 (level - 1)

/-- Drive sv_heat_throttle[s]: a rise is a throttle request (R284). -/
def driveHeat (st v : Nat) (s : State) : State :=
  let old := look 0 st s.pins.heat
  let s := { s with pins := { s.pins with heat := put 0 st v s.pins.heat } }
  if old < v then s.setHeat { s.heat with requests := s.heat.requests ++ [s.now] } else s

/-- The event of a level entered. -/
def levelEvent : Nat → Option Nat
  | 2 => some Ev.thermal4x | 3 => some Ev.thermalThrottle | 4 => some Ev.thermalEmergency | _ => none

/-- Stop a stack's grace (R287). -/
def endGrace (st : Nat) (s : State) : State :=
  (s.setHeat { s.heat with grace := put 0 st 0 s.heat.grace }).setOb (stackIdx st) 4 0

/-- The time a request may go unacknowledged. -/
def ackLimit : Nat := 100 * 1000 * nsT

/-- Start grace on a stack that enters level 3, if it is armed and no request is outstanding beyond 100 µs. -/
def startGrace (st : Nat) (s : State) : State :=
  let us := s.ob 0x9000 2
  if s.ob (stackIdx st) 5 = 0 || s.heat.unanswered || s.heat.requests.any (fun t => s.elapsed t ackLimit) then s
  else ((s.setHeat { s.heat with grace := put 0 st (s.now + us * 1000 * nsT + 1) s.heat.grace }).setOb (stackIdx st) 4 us).setOb
    (stackIdx st) 5 0

/-- A stack takes a level: the event, the pin, grace and the throttle derate (R82, R281–R283, R287), which level 2 brings too while a
request is unanswered (R285). -/
def takeLevel (st new : Nat) (s : State) : State :=
  let old := s.level st
  if new = old then s
  else
    let s := driveHeat st (heatPin new) (s.setOb (stackIdx st) 1 new)
    if old < new then
      let s := match levelEvent new with | some e => raise e st new s | none => s
      let s := if new = 3 then startGrace st s else endGrace st s
      if 3 ≤ new || (new = 2 && s.heat.unanswered) then startDerate 2 s else s
    else
      let s := raise Ev.thermalCooled st old s
      if new = 3 then startDerate 2 (startGrace st s) else endGrace st s

/-- The refresh class the temperature of a sheaf calls for (R281). -/
def State.classFor (s : State) (u : Nat) : Nat :=
  let cur := look 0 u s.heat.sheafLevel
  match s.sheafTemp u with | some t => min 2 (levelFor cur t) | none => cur

/-- What the Steward does at a frame boundary (R282): it takes every change of level but those of the comparators, and decides
the class of every sheaf, never below 4x while its stack is at level 3 or 4, which REFRESH_CLASS_CHANGE then applies (R281). A trip under
way keeps what it shows (R283). (DEDUCED, log 39) -/
def ladderStep (s : State) : State :=
  if !s.stewardUp || s.heat.tripped then s
  else
    let s := forEach s.stacks_ (fun st s =>
      if s.level st = 4 then s
      else match s.stackTemp st with
        | some t => takeLevel st (min 3 (levelFor (min 3 (s.level st)) t)) s
        | none => s) s
    forEach (List.range (8 * s.cfg.nstacks)) (fun u s =>
      let old := look 0 u s.heat.sheafLevel
      let new := s.classFor u
      let s := s.setHeat { s.heat with
        sheafLevel := put 0 u new s.heat.sheafLevel, classDue := put 0 u (if 3 ≤ s.level (u / 8) then 2 else new) s.heat.classDue }
      if old = 0 && 0 < new then raise Ev.thermal2x u 0 s else s) s

/-! ### Emergency halt (R288) and trip (R291, R293) -/

/-- The channels of a stack. -/
def channelsOf (st : Nat) : List Nat := (List.range 72).map fun i => 72 * st + i

/-- A stack enters level 4: its channels halt. -/
def emergency (st : Nat) (s : State) : State :=
  let s := takeLevel st 4 s
  let s := s.setHeat { s.heat with haltedAt := put 0 st (s.now + 1) s.heat.haltedAt, checkedAt := put 0 st s.now s.heat.checkedAt }
  breakContinuity 0 (forEach (channelsOf st) (fun c s => if s.chanState c = 2 then s else drainChannel c 2 0xFFFF s) s)

/-- Why a trip starts: its cause, stack (0xFF for logic-side), sensor and reading (R293). -/
structure TripCause where
  cause : Nat
  stack : Nat
  sensor : Nat
  reading : Int
  deriving DecidableEq, Repr

/-- The shutdown record of a trip (R293). -/
def shutdownRecord (x : TripCause) (s : State) : List Byte :=
  let temps := (List.range 4).flatMap fun st =>
    leBytes 2 (if st < s.cfg.nstacks then (match s.stackTemp st with | some t => unsigned 16 t | none => 0x8000) else 0x8000)
  let levels := (List.range 4).flatMap fun st => leBytes 1 (if st < s.cfg.nstacks then s.level st else 0)
  let since := look 0 x.stack s.heat.haltedAt
  let halted := if since = 0 then 0 else (s.now + 1 - since) / (1000 * nsT)
  leBytes 4 0x50495254 ++ leBytes 2 1 ++ leBytes 1 x.cause ++ leBytes 1 s.me ++ leBytes 8 s.setNs ++ leBytes 1 x.stack ++
  leBytes 1 x.sensor ++ leBytes 2 (unsigned 16 x.reading) ++ temps ++ levels ++ leBytes 4 halted ++
  leBytes 4 (s.ob 0x9020 3 + 1) ++ leBytes 8 (match s.plans.active with | some p => p.id | none => 0) ++ zeroBytes 16

/-- The first layer sensor of a stack whose valid reading is at T_trip. -/
def State.tripSensor (s : State) (st : Nat) : Option (Nat × Int) :=
  (List.range 144).findSome? fun n =>
    if s.layerBroken st n then none
    else match s.layerReading st n with
      | some v => if 440 ≤ v then some (n, v) else none
      | none => none

/-- A stack enters level 5 (R281). -/
def levelFive (st n : Nat) (s : State) : State := raise Ev.thermalTrip st n (endGrace st (s.setOb (stackIdx st) 1 5))

/-- Every stack that reads at T_trip once a trip is decided enters level 5 (R281). -/
def reachTrip (s : State) : State :=
  forEach s.stacks_ (fun st s => match s.tripSensor st with
    | some p => if s.level st < 5 then levelFive st p.1 s else s
    | none => s) s

/-- A trip (R291): column commands stop, sv_thermal_trip rises and every stack is shown at 0b11; `tripStep` does the rest. (DEDUCED, log 39) -/
def trip (x : TripCause) (s : State) : State :=
  if s.heat.tripped then reachTrip s
  else
    let s := reachTrip (if x.cause = 1 || x.cause = 2 then levelFive x.stack x.sensor s else raise Ev.thermalTrip x.stack x.sensor s)
    let s := s.setHeat { s.heat with trip := shutdownRecord x s, tripped := true, tripAt := s.now + 1, recordDue := true, cooled := false }
    let s := { s with pins := { s.pins with trip := true } }
    forEach s.stacks_ (fun st s => driveHeat st 3 s) s

/-- A trip goes on (R291): 1 µs after it was decided the channels enter self-refresh, and 1 µs later the node enters HALTED, without
write-back. (DEDUCED, log 39) -/
def tripStep (s : State) : State :=
  if s.heat.tripAt = 0 then s
  else if s.elapsed (s.heat.tripAt - 1) (2 * usTicks) then
    enterHalted Ev.thermalTrip false (s.setHeat { s.heat with tripAt := 0 })
  else if s.elapsed (s.heat.tripAt - 1) usTicks then
    forEach (List.range s.channels) (fun c s => if s.chanState c = 2 then s else drainChannel c 2 0xFFFF s) s
  else s

/-- The cause a comparator finds for a trip, if there is one: a valid layer reading at T_trip, the junction trip, and in READY
and RUN a broken sensor that is not excluded. -/
def State.tripCause (s : State) : Option TripCause :=
  let serving := s.power.node == .ready || s.power.node == .run
  let layer := s.stacks_.findSome? fun st => (s.tripSensor st).map fun p => (⟨1, st, p.1, p.2⟩ : TripCause)
  let junction := logicNumbers.findSome? fun n =>
    if s.logicBroken n then none
    else match s.logicReading n with
      | some v => if 500 ≤ v then some (⟨3, 0xFF, n, v⟩ : TripCause) else none
      | none => none
  let brokenLayer := s.stacks_.findSome? fun st => (List.range 144).findSome? fun n =>
    if serving && (s.sensor (sensorKey st n)).broken && !s.excluded st n then some (⟨2, st, n, hottest⟩ : TripCause) else none
  let brokenLogic := logicNumbers.findSome? fun n =>
    if serving && (s.sensor (logicKey n)).broken && !s.logicExcluded n then some (⟨4, 0xFF, n, hottest⟩ : TripCause) else none
  layer <|> junction <|> brokenLayer <|> brokenLogic

/-- The comparators act in CONFIG, READY, RUN and HALTED. -/
def State.comparing (s : State) : Bool :=
  s.power.node == .config || s.power.node == .ready || s.power.node == .run || s.power.node == .halted

/-- HARDWARE_COMPARATOR: the comparators decide what the readings call for (R282). (DEDUCED, log 39) -/
def comparators (s : State) : State :=
  if !s.comparing then s
  else match s.tripCause with
    | some x => trip x s
    | none => forEach s.stacks_ (fun st s =>
        match s.stackTemp st with
        | some t => if s.level st < 4 && decide (420 ≤ t) then emergency st s else s
        | none => s) s

/-! ### Reads of the logic side, and readings that do not come -/

/-- LOGIC_SENSOR_READ: the 16 logic-side sensors, as I16 codes, every 10 µs (R278). -/
def readLogic (codes : List Nat) (s : State) : State :=
  let first := s.sensor (logicKey 0)
  if !s.comparing || (first.at_ != 0 && !s.elapsed first.at_ (10 * 1000 * nsT)) then s
  else
    let s := forEach (codes.zip logicNumbers) (fun p s =>
      if p.1 % 2 ^ 16 = 0x8000 then noReading (logicKey p.2) s else takeReading (logicKey p.2) (signed 16 (p.1 % 2 ^ 16)) s) s
    let s := noteCool (showLogic s)
    match s.junction with
    | none => s
    | some t =>
      if 440 ≤ t && !s.heat.junctionHigh then raiseNode Ev.junctionHigh (unsigned 16 t) (s.setHeat { s.heat with junctionHigh := true })
      else if t < 428 then s.setHeat { s.heat with junctionHigh := false }
      else s

/-- How long a sensor may be without a valid reading (R279): 4 scan intervals, or 4 ms while its stack is halted (R289). -/
def State.readLimit (s : State) (st : Nat) : Nat :=
  if st < 4 && s.halted st then 4 * msT else 4 * s.ob 0x9000 1 * frameT

/-- SENSOR_NO_READING: layer sensor n of stack st, or logic-side sensor n for st = 255, has been without a valid reading for too
long. (DEDUCED, log 39) -/
def silentSensor (st n : Nat) (s : State) : State :=
  let k := if st = 255 then logicKey n else sensorKey st n
  let from_ := max (s.sensor k).at_ s.power.resetAt
  if !s.comparing || s.power.node == .halted || !s.elapsed from_ (s.readLimit st) then s
  else
    let s := breakSensor k s
    noteCool (if st = 255 then showLogic s else afterReadings st (showSensor st n s))

/-! ### The handshake (R284, R285) and grace (R287) -/

/-- THROTTLE_ACK_TOGGLE: a change of sv_throttle_ack is taken. -/
def ackToggle (s : State) : State :=
  let x := s.pins.throttleAck
  if x.ever && !s.elapsed x.at_ (10 * usTicks) then s
  else
  let s := { s with pins := { s.pins with throttleAck := ⟨1 - x.value % 2, s.now, true⟩ } }
  if s.heat.requests.isEmpty && !s.heat.unanswered then s.bump 0x9021 2
  else s.setHeat { s.heat with requests := [], unanswered := false }

/-- THROTTLE_ACK_MISSING: each request that has not been acknowledged in 100 µs is told and counted. -/
def ackMissing (s : State) : State :=
  let late := s.heat.requests.filter fun t => s.elapsed t ackLimit
  if late.isEmpty then s
  else
    let s := s.setHeat { s.heat with requests := s.heat.requests.filter (fun t => !s.elapsed t ackLimit), unanswered := true }
    let s := forEach late (fun _ => raiseNode Ev.throttleAckMissing 0) (s.bumpBy 0x9021 1 late.length)
    forEach s.stacks_ (fun st s =>
      if 2 ≤ s.level st then startDerate 2 (endGrace st s) else s) s

/-- GRACE_EXPIRED. -/
def graceOver (st : Nat) (s : State) : State :=
  let t := look 0 st s.heat.grace
  if t = 0 || s.now + 1 < t then s else raise Ev.graceExpired st 0 (endGrace st s)

/-- GRACE_REARM. -/
def rearmGrace (st : Nat) (s : State) : State :=
  let t := look 0 st s.heat.coolSince
  if s.ob (stackIdx st) 5 = 1 || t = 0 || !s.elapsed (t - 1) (100 * msT) then s else s.setOb (stackIdx st) 5 1

/-! ### Readings at start and at a wake (R295, R296) -/

/-- The sensors of a sheaf are read on a channel of it: every layer's TEMP block. -/
def readSheaf (u c : Nat) (s : State) : State :=
  forEach layers16 (fun l s => match layMrr c l 0x40 s with
    | (some bytes, s) => tempBlock u l bytes s
    | (none, s) => tempFailed u l s) s

/-- The first reading of every sensor, before training begins, and the readings of a wake, on the spare channel of each sheaf or, when
that has failed, the first of its channels that has not. (DEDUCED, log 39) -/
def readAllSensors (s : State) : State :=
  forEach (List.range (8 * s.cfg.nstacks)) (fun u s =>
    match [8, 0, 1, 2, 3, 4, 5, 6, 7].find? fun k => s.chanState (9 * u + k) != 2 with
    | some k => readSheaf u (9 * u + k) s
    | none => s) s

/-- Each exclusion in force at start is told (R280). -/
def tellExclusions (s : State) : State :=
  let s := forEach s.stacks_ (fun st s =>
    forEach ((List.range 144).filter fun n => s.excluded st n) (fun n => raise Ev.sensorExcluded st n) s) s
  forEach (logicNumbers.filter fun n => s.logicExcluded n) (fun n => raise Ev.sensorExcluded (0x80 + n) 0) s

/-! ### A halted stack (R289, R290) -/

/-- The spare channel of a sheaf in its halted stack's self-refresh: where a reading is `due`, SRX; tXS later it reads the sheaf's 18 sensors
and is to enter self-refresh again from the PREab step, which SELF_REFRESH_ENTRY takes (R205, R289). -/
def readHalted (u : Nat) (due : Bool) (s : State) : State :=
  let c := 9 * u + 8
  if s.chanState c != 6 then s
  else if (s.dch c).selfRef.isSome then (if due && s.srxAllowed c then exitSrx c s else s)
  else if within (rowCk (s.slotOf c)) 240 (s.chan c).time.srx || (s.chan c).draining.isSome then s
  else drainChannel c 2 0xFFFF (readSheaf u c (raise Ev.selfRefreshExit c 0 s))

/-- A new reading of a halted stack is due: 1 ms after the last one. -/
def State.checkDue (s : State) (st : Nat) : Bool := s.elapsed (look 0 st s.heat.checkedAt) msT

/-- HALTED_SENSOR_CHECK: a reading of the stack's sheaves begins or goes on. (DEDUCED, log 39) -/
def haltedCheck (st : Nat) (s : State) : State :=
  if !s.halted st || !s.stewardUp then s
  else
    let due := s.checkDue st
    let s := if due then s.setHeat { s.heat with checkedAt := put 0 st s.now s.heat.checkedAt } else s
    forEach (List.range 8) (fun w s => readHalted (8 * st + w) due s) s

/-- The streams of a stack's channels start their stall time again (R288). -/
def restartStall (st : Nat) (s : State) : State :=
  let again (p : Nat × Stream) : Nat × Stream :=
    if (channelsOf st).any (fun c => s.streamUses c p.1) then (p.1, { p.2 with lastIssue := s.now }) else p
  s.setFeeds { s.feeds with streams := s.feeds.streams.map again }

/-- The slot under way is the first of a frame; before frame 0 no boundary is waited for (R282). -/
def State.atBoundary (s : State) : Bool := !s.plans.begun || s.slot % 1024 == 0

/-- TRAFFIC_RESUMED: a halted stack that reads below 102 °C resumes, at a frame boundary (R282). -/
def resumeTraffic (st : Nat) (s : State) : State :=
  match s.stackTemp st with
  | none => s
  | some t =>
    if s.level st != 4 || !s.stewardUp || !s.atBoundary || 408 ≤ t || s.heat.tripped || s.power.node == .halted then s
    else
      let since := look 0 st s.heat.haltedAt
      let us := (s.now + 1 - since) / (1000 * nsT)
      let s := takeLevel st (min 3 (levelFor 3 t)) (s.bumpBy (stackIdx st) 6 us)
      let s := s.setHeat { s.heat with haltedAt := put 0 st 0 s.heat.haltedAt }
      let s := forEach (channelsOf st) (fun c s =>
        if (s.dch c).selfRef.isNone then s.modChan c fun x => { x with draining := none, entry := none } else s) s
      restartStall st (raise Ev.trafficResumed st 0 s)

/-! ### The thermal flag in self-refresh (R289, R295) -/

/-- THERMAL_FLAG_ALERT: the flag of layer w or w + 8 comes on the alert lane of the spare channel of sheaf w in self-refresh
(R533). -/
def flagAlert (c layer : Nat) (s : State) : State :=
  let st := stackOf c
  let n := 9 * layer + 8
  if !isSpare c || (s.dch c).selfRef.isNone || !(s.die st layer).flag || 16 ≤ layer || layer % 8 != sheafOf c % 8 then s
  else
  let s := s.bump (0x3800 + st) 0x0B
  if s.power.node == .rest || s.power.node == .deep then trip ⟨1, st, n, 440⟩ s
  else if s.halted st then afterReadings st (showSensor st n (takeReading (sensorKey st n) 440 s))
  else s

/-! ### The shutdown record (R293, R294) -/

/-- SHUTDOWN_RECORD_WRITTEN: the Keeper has written the record of a trip, and the trip counts. -/
def recordWritten (s : State) : State :=
  if !s.heat.recordDue || !s.canRecord 3 then s
  else
    let k := (s.ob 0x9020 3 + 1) % 2 ^ 32
    let s := (s.setOb 0x9020 3 k).setOb 0x9020 1 (leNat s.heat.trip)
    let s := { s with nvm := { s.nvm with shutdown := s.heat.trip, persisted := put 0 (objKey 0x9020 3) k s.nvm.persisted } }
    s.setHeat { s.heat with recordDue := false }

/-- COOLED_RESTART: the second of R294 has passed in CONFIG. -/
def cooledRestart (s : State) : State :=
  let t := s.heat.coolFrom
  if s.power.node != .config || s.nvm.shutdown.isEmpty || s.heat.cooled || t = 0 || !s.elapsed (t - 1) secT then s
  else raiseNode Ev.cooledRestart 0 (s.setHeat { s.heat with cooled := true })

/-- 0x9020:02 clears the record. -/
def shutdownClearHome : Home := fun _ s =>
  .done ({ s with nvm := { s.nvm with shutdown := [] } }.setOb 0x9020 1 0)

/-! ### Exclusion (R280) -/

/-- Some sensor excluded by a stack's masks would depend on an excluded sensor. -/
def excludeDepends (masks : Nat → Bool) : Bool :=
  (List.range 144).any fun n => masks n && (layerSources n).any masks

/-- The value a persisted object takes once the writes that wait for NVM are applied. -/
def State.comingValue (s : State) (idx sub : Nat) : Nat :=
  match s.nvm.gather.reverse.find? fun w => w.idx == idx && w.sub == sub with
  | some w => w.value
  | none => s.ob idx sub

/-- 0x9014+s:01–03. -/
def layerExcludeHome (st sub v : Nat) : Home := fun who s =>
  let masks (n : Nat) : Bool := (if n / 64 + 1 = sub then v else s.comingValue (0x9014 + st) (n / 64 + 1)).testBit (n % 64)
  if excludeDepends masks || 16 < ((List.range 144).filter masks).length then .denied s
  else gatherPersist who (0x9014 + st) sub v s

/-- 0x9018:02. -/
def logicExcludeHome (v : Nat) : Home := fun who s =>
  if 4 < (logicNumbers.filter v.testBit).length then .denied s else gatherPersist who 0x9018 2 v s

/-! ### The commands -/

/-- LOGIC_SENSOR_READ: sixteen I16 codes. -/
def execLogicSensorRead (readings : List Nat) (s : State) : Res := .next (readLogic readings s)

/-- SENSOR_NO_READING. -/
def execSensorNoReading (st n : Nat) (s : State) : Res :=
  present ((st == 255 && decide (n < 16)) || (decide (st < s.cfg.nstacks) && decide (n < 144))) (silentSensor st n s)

/-- SENSOR_EXCLUDE: a mask for part 0 to 2 of a stack's sensors, or for the logic side. -/
def execSensorExclude (r : Req) (logic : Bool) (st part mask : Nat) (s : State) : Res :=
  if logic then .next (dictWrite r 0x9018 2 (leBytes 2 mask) (logicExcludeHome (mask % 2 ^ 16)) s)
  else .next (dictWrite r (0x9014 + st % 4) (part % 3 + 1) (leBytes 8 mask) (layerExcludeHome (st % 4) (part % 3 + 1) (mask % 2 ^ 64)) s)

/-- HARDWARE_COMPARATOR; before frame 0 no frame boundary comes, and the Steward acts on the readings at once (R296). (DEDUCED, log 39) -/
def execHardwareComparator (s : State) : Res :=
  let t := tripStep (comparators s)
  .next (serveAll (if t.plans.begun || !t.comparing || t.power.node = .halted then t else ladderStep t))

/-- THROTTLE_ACK_TOGGLE. -/
def execThrottleAckToggle (s : State) : Res := .next (ackToggle s)

/-- THROTTLE_ACK_MISSING. -/
def execThrottleAckMissing (s : State) : Res := .next (ackMissing s)

/-- GRACE_EXPIRED. -/
def execGraceExpired (st : Nat) (s : State) : Res := present (decide (st < s.cfg.nstacks)) (graceOver st s)

/-- GRACE_REARM. -/
def execGraceRearm (st : Nat) (s : State) : Res := present (decide (st < s.cfg.nstacks)) (rearmGrace st s)

/-- HALTED_SENSOR_CHECK. -/
def execHaltedSensorCheck (st : Nat) (s : State) : Res := present (decide (st < s.cfg.nstacks)) (haltedCheck st s)

/-- TRAFFIC_RESUMED. -/
def execTrafficResumed (st : Nat) (s : State) : Res := present (decide (st < s.cfg.nstacks)) (serveAll (resumeTraffic st s))

/-- THERMAL_FLAG_ALERT. -/
def execThermalFlagAlert (c layer : Nat) (s : State) : Res := present (decide (c < s.channels)) (flagAlert c layer s)

/-- SHUTDOWN_RECORD_WRITTEN. -/
def execShutdownRecordWritten (s : State) : Res := .next (recordWritten s)

/-- COOLED_RESTART. -/
def execCooledRestart (s : State) : Res := .next (cooledRestart s)

/-- SHUTDOWN_CLEAR. -/
def execShutdownClear (r : Req) (s : State) : Res := .next (dictWrite r 0x9020 2 [1] shutdownClearHome s)

end Sys2Proof.Machine
end

