-- ==== Sys2Proof/Machine/Recover.lean ====
section
/-!
DEFINITION. Failed reads and their recovery: recovery records, the weak-line tracker, poisoning and notification
(R52, R246–R257), and how a line that has come back reaches its reader (R192, R245).
-/
namespace Sys2Proof.Machine

/-! ### The poisoned line, and lines that notify -/

/-- The poisoned line of a range as it is stored (R244). -/
def poisonStored (g : Option Region) : Nat × Nat :=
  (0, infoOf 0 true false (match g with | some g => g.sealed_ | none => false))

/-- A line is poisoned. -/
def lineBad (l : Nat × Nat) : Bool := l.2.testBit 11

/-- Entries of a notification queue. -/
def queueEntries (g : Region) : Nat := 64 * 2 ^ g.queueCode

/-- The number of the next entry of region r's queue. -/
def State.queueHead (s : State) (r : Nat) : Nat := s.ob (0x2124 + r / 256) (r % 256)

/-- The 8 bytes of the queue at an address, as the cache or the channel holds them now. -/
def State.queueWord (s : State) (a : Nat) : Nat :=
  let line := match s.cached (lineOf a) with
    | some (_, w) => w.data
    | none => match s.lineNow (lineOf a) with | some l => l.1 | none => 0
  line / 2 ^ (8 * (a % 128)) % 2 ^ 64

/-- Tell the owner of a recomputable region that a line is poisoned (R52): an entry is written if the queue has room, and then
the region's object is signalled; a full queue is signalled at once. -/
def notifyLine (r : Nat) (g : Region) (a cause : Nat) (s : State) : State :=
  let head := s.queueHead r
  let e := g.queue + 8 * head
  let w := s.queueWord e
  if w.testBit 63 then
    let s := raise Ev.notifyOverflow r (lineOf a) (s.bump 0x2110 6)
    signalObject 1 g.syncObj 1 g.owner g.world false s
  else
    let off := e % 128
    let word := 2 ^ 63 + cause * 2 ^ 53 + a / 128 % 2 ^ 46 * 2 ^ 7
    let s := s.setOb (0x2124 + r / 256) (r % 256) ((head + 1) % queueEntries g)
    offerInternal 1 0 g.owner g.world (lineOf e) (.write ((2 ^ 8 - 1) * 2 ^ off) (word * 2 ^ (8 * off))) (.notifyWrite r) s

/-! ### Delivery of a line (R192, R245) -/

/-- An atomic or a reduction gets the line it waits for; a read that the cache serves gets it through its fill. -/
def addFill (id : Nat) (l : Option (Nat × Nat)) (s : State) : State :=
  s.setCache { s.cache with fills := s.cache.fills ++ [(id, l)] }

/-- A line comes back for a request: to the cache where the cache takes part, otherwise to the request itself. -/
def deliverAsk (id : Nat) (l : Nat × Nat) (s : State) : State :=
  match s.ask? id with
  | none => s
  | some q =>
    let p := s.openAsk q l
    match q.op with
    | .atomic .. => if lineBad l then addFill id none (s.bump 0xA001 6) else addFill id (some p) s
    | .reduce _ _ => if lineBad l then addFill id none (s.bump 0xA001 6) else addFill id (some p) s
    | _ =>
      if s.cacheable q && !lineBad l && l.2.testBit 9 == q.sealed then addFill id (some p) s
      else finishRead id p s

/-- The fill of a partial write comes back: the entry becomes a whole line, or the write ends POISONED without effect (R192). -/
def mergeFill (c wid : Nat) (l : Nat × Nat) (s : State) : State :=
  match (s.chan c).wq.find? fun w => w.wid == wid with
  | none => s
  | some w =>
    if lineBad l then
      let s := s.modChan c fun x => { x with wq := x.wq.filter fun v => v.wid != wid }
      let s := syncDepth c (raiseAt Ev.fillPoisoned c w.addr (s.secureAt w.addr) (s.bump 0xA001 6))
      match w.who with
      | .ask id => retire id (finish id St.poisoned none (s.modAsk id fun q => { q with confirmed := true, backing := false }))
      | _ => s
    else
      let data := mergeData w.mask w.data (s.openLine w.addr l).1
      let stored := (s.closeLine w.addr (data, w.info)).1
      let whole : WrEntry := { w with data := stored, mask := fullMask, partial_ := false }
      let s := s.modChan c fun x => { x with wq := x.wq.map fun v => if v.wid == wid then whole else v }
      match w.who with
      | .ask id =>
        let s := match s.ask? id with
          | some q =>
            if !q.uncached && (s.cached w.addr).isNone && rulePolicy q.rule == 2 then
              allocWrite w.addr (ruleMask q.rule) data w.info s
            else s
          | none => s
        wholePlaced id w.addr data w.info s
      | _ => s

/-- A prefetched line is in the retirement buffer (R261). -/
def retArrived (n num : Nat) (l : Option (Nat × Nat)) (s : State) : State :=
  s.setPath { s.path with retired := s.path.retired.map fun r =>
    if r.n == n && r.num == num && !r.arrived then { r with arrived := true, line := l } else r }

/-- A line of a moving row is in the move buffer (R259), unless a write has already put a newer one there; the planned reads that waited
for it have it. -/
def moveArrived (c i : Nat) (l : Nat × Nat) (s : State) : State :=
  s.modChan c fun x => match x.move with
    | some m =>
      let mine (e : RdEntry × List WrEntry × Nat) : Bool := e.1.loc.line == i
      let flight (e : RdEntry × List WrEntry × Nat) : Flight :=
        ⟨e.1, some (encodeLine (adOffset e.1.addr) ⟨leBytes 128 l.1, l.2⟩), e.2.2, e.2.1, false⟩
      let buffer := if m.buffer[i]? = some none then m.buffer.set i (some l) else m.buffer
      { x with flights := x.flights ++ (m.waiting.filter mine).map flight
               move := some { m with buffer := buffer, waiting := m.waiting.filter fun e => !mine e } }
    | none => x

/-- A line, as it is stored or as recovery gives it, reaches a reader; `over_` holds the queued writes a planned read is merged
with (R190). -/
def deliverLine (c a : Nat) (who : Reader) (over_ : List WrEntry) (l : Nat × Nat) (s : State) : State :=
  let count (s : State) : State := if lineBad l then s.bump 0xA001 6 else s
  match who with
  | .ask id => deliverAsk id l (sampleData 0 id 0 s)
  | .fill wid => mergeFill c wid l s
  | .planned n num =>
    let s := sampleData 1 n num s
    feedLine n num ((over_.foldl (fun cur e => e.apply s cur) (some (s.openLine a l))).getD l) s
  | .gleaner => count s
  | .move i => moveArrived c i l (count s)
  | .prefetch n num => retArrived n num (if lineBad l then none else some (s.openLine a l)) (count s)
  | .reread _ => s
  | .served => s
  | .temp _ => s

/-! ### The weak-line tracker (R255–R257) -/

/-- The place of a new tracker entry: a free one, or the oldest with count 1 that is not healed (R256). -/
def Chan.weakPlace (x : Chan) : Option Nat :=
  match (List.range 64).find? fun n => (look none n x.weak).isNone with
  | some n => some n
  | none =>
    let old := x.weak.filterMap fun p => match p.2 with
      | some w => if w.count == 1 && !w.healed then some (w.since, p.1) else none
      | none => none
    (old.foldl (fun (b : Option (Nat × Nat)) e => match b with
      | some m => if e.1 < m.1 then some e else b
      | none => some e) none).map (·.2)

/-- Take a tracker entry for a line, if there is a place. -/
def takeWeak (c : Nat) (w : Weak) (s : State) : State :=
  match (s.chan c).weakPlace with
  | some n => setWeak c n (some w) s
  | none => raise Ev.trackerFull c 0 (s.bump (chanIdx c) 0x89)

/-- A re-read has passed (rule 1 of R257): whether the line's count has reached 3 and it is to be healed. -/
def trackOk (c line : Nat) (s : State) : Bool × State :=
  match (s.chan c).weakOf line with
  | none => (false, takeWeak c ⟨line, false, 1, s.setTicks, false, false⟩ s)
  | some (n, w) =>
    if w.healed then (false, s)
    else
      let k := min 3 (w.count + 1)
      let heal := k == 3 && !w.healing
      (heal, setWeak c n (some { w with count := k, healing := w.healing || heal }) s)

/-- A line has been rewritten (rule 2 of R257). -/
def trackRewritten (c line : Nat) (s : State) : State :=
  match (s.chan c).weakOf line with
  | none => takeWeak c ⟨line, true, 0, s.setTicks, false, false⟩ s
  | some _ => healedNow c line s

/-- A row move is queued, unless the row is moving, waits already, or is unprotected (R258, R259, R262). -/
def queueMove (c layer bank row : Nat) (displaced : Bool) (s : State) : State :=
  s.modChan c fun x =>
    let moving := match x.move with | some m => m.layer == layer && m.bank == bank && m.row == row | none => false
    let waits := x.moves.any fun m => m.1 == layer && m.2.1 == bank && m.2.2.1 == row
    if moving || waits || 4 ≤ look 0 (4096 * bankIx layer bank + row) x.depth then x
    else { x with moves := x.moves ++ [(layer, bank, row, displaced)] }

/-- A first read of a line has failed while its entry is healed: its row is repaired (rule 3 of R257). -/
def healedFails (c : Nat) (l : Loc) (s : State) : State :=
  match (s.chan c).weakOf (lineIndex l) with
  | some (n, w) => if w.healed then queueMove c l.layer l.bank l.row false (setWeak c n (some { w with failed := true }) s) else s
  | none => s

/-- Tracker entries of a channel that have reached 1,440 minutes are freed; the others show their age (R255, R256). -/
def ageWeak (c : Nat) (s : State) : State :=
  forEach (List.range 64) (fun n s =>
    match look none n (s.chan c).weak with
    | none => s
    | some w => if 1440 ≤ w.age s.setTicks then setWeak c n none s else setWeak c n (some w) s) s

/-! ### Recovery records (R247–R250) -/

/-- Change a record of a channel. -/
def modRec (c num : Nat) (f : Rec → Rec) (s : State) : State :=
  s.modChan c fun x => { x with recs := x.recs.map fun r => if r.num == num then f r else r }

def Chan.rec? (x : Chan) (num : Nat) : Option Rec := x.recs.find? fun r => r.num == num

/-- Free a record. -/
def freeRec (c num : Nat) (s : State) : State :=
  s.modChan c fun x => { x with recs := x.recs.filter fun r => r.num != num }

/-- Records of a channel. -/
def recSize : Nat := 8

/-- A failed read joins its line's record, opens one, or waits for one (R247). A line whose outcome is known already gives it. -/
def joinRec (c : Nat) (who : Reader) (f : Flight) (s : State) : State :=
  let e := f.entry
  let x := s.chan c
  match x.recs.find? fun r => r.addr == e.addr with
  | some r =>
    (match r.step, r.line with
      | .write, some l => deliverLine c e.addr who f.queued l s
      | _, _ => modRec c r.num (fun r => { r with readers := r.readers ++ [(who, f.queued)] }) s)
  | none =>
    if recSize ≤ x.recs.length then s.modChan c fun x => { x with recWait := x.recWait ++ [{ f with entry := { e with who := who } }] }
    else
      let r : Rec := { num := s.path.nextOrder, addr := e.addr, loc := e.loc, readers := [(who, f.queued)], step := .reread
                       issued := false, order := e.order, region := e.region, gleaner := who == .gleaner, line := none
                       heal := false, superseded := f.newer }
      (s.modChan c fun x => { x with recs := x.recs ++ [r] }).takeOrder

/-- The queued writes a planned read meets cover its whole line (R190). -/
def coversAll (ws : List WrEntry) : Bool := ws.foldl (fun m w => m ||| w.mask) 0 == fullMask

/-- A first read has failed (R246, R247). -/
def failedRead (c : Nat) (f : Flight) (s : State) : State :=
  let e := f.entry
  let s := countIf (chanBank c) 13 1 (s.readCause c e) (healedFails c e.loc (s.bump (chanIdx c) 0x85))
  let s := match e.who with | .ask id => sampleFlag 0 id 0 2 s | .planned n num => sampleFlag 1 n num 2 s | _ => s
  let (who, s) := match e.who with
    | .planned n num =>
      if coversAll f.queued then (Reader.served, deliverLine c e.addr (.planned n num) f.queued (0, s.writeInfo e.addr) s)
      else (e.who, s)
    | w => (w, s)
  let full := !((s.chan c).recs.any fun r => r.addr == e.addr) && recSize ≤ (s.chan c).recs.length
  joinRec c who f (if full then s.bump (chanIdx c) 0x8B else s)

/-- Deliver a record's outcome to every reader. -/
def deliverRec (r : Rec) (l : Nat × Nat) (s : State) : State :=
  forEach r.readers (fun p s => deliverLine r.loc.c r.addr p.1 p.2 l s) s

/-- A record's line is to be written: as restored, healed or poisoned (R250). A superseded one is not placed. -/
def toWrite (c num : Nat) (l : Nat × Nat) (heal : Bool) (s : State) : State :=
  modRec c num (fun r => { r with step := .write, line := some l, heal := heal, readers := [] }) s

/-- The urgent store of a channel has room, and the reserve of the journal an entry (R250, R265). -/
def State.urgentRoom (s : State) (c : Nat) : Bool :=
  decide ((s.chan c).urgent.length < urgentSize) && s.reserveFree

/-- Recovery writes that can be placed are placed in the urgent store; their records, and those superseded, are free (R247, R250).
A freed record is taken by the read that has waited longest. Heal writes wait while the Steward restarts (R26, R257). -/
def placeRecovery (c : Nat) (s : State) : State :=
  forEach ((s.chan c).recs.filter fun r => r.step == .write) (fun r s =>
    match r.line with
    | none => freeRec c r.num s
    | some l =>
      if r.heal && !s.stewardUp then s
      else if r.superseded then freeRec c r.num (if r.heal then healedNow c (lineIndex r.loc) s else s)
      else if !s.urgentRoom c then s
      else freeRec c r.num (pushUrgent (if r.heal then .heal else .recovery) r.addr r.loc l.1 l.2 s)) s

/-- Reads that wait for a record take the free ones (R247). -/
def takeWaiting (c : Nat) (s : State) : State :=
  forEach (List.range recSize) (fun _ s =>
    let x := s.chan c
    match x.recWait with
    | [] => s
    | f :: rest =>
      if recSize ≤ x.recs.length && !(x.recs.any fun r => r.addr == f.entry.addr) then s
      else joinRec c f.entry.who f (s.modChan c fun x => { x with recWait := rest })) s

/-- A record ends with the line poisoned (R248): counted, reported, notified and delivered. -/
def poisonRec (c : Nat) (r : Rec) (cause : Nat) (s : State) : State :=
  let g := rawRegion r.region
  let l := poisonStored g
  let secure := match g with | some g => g.world | none => false
  let s := s.setOb 0xA001 0x0B r.addr
  let recompute := match g with | some g => g.recomputable | none => false
  let s :=
    if recompute then raiseAt Ev.lineRecompute c r.addr secure (s.bump 0xA001 3)
    else
      let s := raiseAt Ev.linePoisoned c r.addr secure (s.bump 0xA001 4)
      if r.gleaner then
        raiseEvent { code := Ev.gleanerFound, inst := c, ctx := (match g with | some g => g.owner | none => 0)
                     detail := r.addr, secure := secure, time := s.setNs } s
      else s
  let s := match r.region, g with
    | some (n, _), some g => if g.recomputable then notifyLine n g r.addr cause s else s
    | _, _ => s
  trackRewritten c (lineIndex r.loc) (deliverRec r l (toWrite c r.num l false s))

/-- A re-read has passed: its line is delivered and tracked; a third time it is healed (R248, R257). -/
def rereadPassed (c : Nat) (r : Rec) (l : Nat × Nat) (s : State) : State :=
  let secure := match rawRegion r.region with | some g => g.world | none => false
  let s := raiseAt Ev.lineReread c r.addr secure ((s.bump (chanIdx c) 0x86).bump 0xA001 1)
  let (heal, s) := trackOk c (lineIndex r.loc) s
  deliverRec r l (if heal then toWrite c r.num l true s else freeRec c r.num s)

/-- A re-read has failed: the line is restored from its backing copy, or poisoned (R248). -/
def rereadFailed (c : Nat) (r : Rec) (s : State) : State :=
  match rawRegion r.region with
  | some g =>
    if g.backed then
      let off := backingOffset g r.addr
      let s := modRec c r.num (fun r => { r with step := .restore }) s
      if unmapped (s.farSet off) s then endRestore c r.num none (countAccess St.unreachable (s.farSet off) s)
      else farRead (baleOf off) (baleLine off) (.restore c r.num (baleLine off) (s.ob 0xA000 5 % 16)) s
    else poisonRec c r (if r.gleaner then 2 else 1) s
  | none => poisonRec c r (if r.gleaner then 2 else 1) s

/-- The restore read of a record has ended: the line is rewritten from its backing copy, or poisoned (R248). -/
def restoreEnded (x : Restored) (s : State) : State :=
  match (s.chan x.c).rec? x.num with
  | none => s
  | some r =>
    let secure := match rawRegion r.region with | some g => g.world | none => false
    match x.line with
    | some l =>
      if lineBad l then poisonRec x.c r 3 (raiseAt Ev.restoreFailed x.c r.addr secure (s.bump 0xA001 5))
      else
        let s := raiseAt Ev.lineRestored x.c r.addr secure (s.bump 0xA001 2)
        let p := s.closeLine r.addr l
        trackRewritten x.c (lineIndex r.loc) (deliverRec r p (toWrite x.c r.num p false s))
    | none => poisonRec x.c r 3 (raiseAt Ev.restoreFailed x.c r.addr secure (s.bump 0xA001 5))

end Sys2Proof.Machine
end

