-- ==== Sys2Proof/Machine/Returns.lean ====
section
/-!
DEFINITION. What comes back to a channel controller: read data, confirmations and alerts (R246, R249, R257, R265, R523, R524),
and what the node does of itself after each.
-/
namespace Sys2Proof.Machine

/-! ### What the node does of itself -/

/-- A finished block-internal request whose outcome concerns nothing but its purpose: escape writes, drain lines, queue writes. The
reads of escape slots and masks and the write-backs wait for their own commands. -/
def endInternal (q : Ask) (s : State) : State :=
  let taken (s : State) : State := retire q.id (s.modAsk q.id fun b => { b with delivered := true })
  let ok := match q.result with | some (st, _) => st == St.ok | none => true
  match q.why with
  | .escapeWrite n _ =>
    let s := taken (if ok then s else s.modAsk q.id fun b => { b with confirmed := true })
    if ok then s
    else match s.stream? n with
      | some t => fenceContext 6 t.desc.context s
      | none => s
  | .drain n _ => taken (settleDrain true n (settleDrain false n s))
  | .notifyWrite r =>
    (match q.result with
      | some (st, _) =>
        if st = St.retry then s.modAsk q.id fun b => { b with stage := .offered, result := none }
        else
          let g := s.region r
          let s := taken (if ok then s else s.modAsk q.id fun b => { b with confirmed := true })
          signalObject 1 g.syncObj 1 g.owner g.world false s
      | none => s)
  | .redStart =>
    taken (redFill q.addr (match q.result with | some (0, some d) => some (d, s.writeInfo q.addr) | _ => none) s)
  | .port => taken (if ok then s else s.modAsk q.id fun b => { b with confirmed := true })
  | _ => s

/-- Block-internal requests that have finished, and those whose target can no longer be reached. -/
def endInternals (s : State) : State :=
  let s := forEach (s.path.asks.filter fun q => q.internal && q.stage == .finished && !q.delivered) endInternal s
  let lost (q : Ask) : Bool := q.internal && q.stage == .offered && q.fwd == 0 && !farAddr q.addr &&
    (match q.op with | .sync .. => false | _ => true) && (unmapped q.addr s || !s.reachable q.addr)
  forEach (s.path.asks.filter lost) (fun q s => finish q.id St.unreachable none s) s

/-- Everything that goes on by itself once something has come back. -/
def pump (s : State) : State :=
  let s := forEach (s.path.chans.map (·.1)) (fun c s => takeWaiting c (placeRecovery c s)) s
  haltStep (endInternals (serveAll (noteEscapes s)))

/-! ### Read data (R246, R248, R249) -/

/-- The line a read has brought, if it has not failed (R246). -/
def Flight.line (f : Flight) : Option (Nat × Nat) :=
  match f.bytes with
  | some bs => if passesCheck (adOffset f.entry.addr) bs then some (leNat (bs.take 128), (decodeLine bs).info) else none
  | none => none

/-- Slots from a read's command to its data. (DESIGN CHOICE, log 18) -/
def readSlots : Nat := 8

/-- The oldest read of a kind whose data is due. -/
def State.flightDue (s : State) (c : Nat) (want : Reader → Bool) : Option Flight :=
  if s.chanState c = 1 || s.chanState c = 2 then none
  else (s.chan c).flights.find? fun f => want f.entry.who && decide (f.issued + readSlots ≤ s.slotOf c)

/-- Take a read out of those under way. -/
def dropFlight (c : Nat) (f : Flight) (s : State) : State := s.modChan c fun x => { x with flights := x.flights.erase f }

def isFill : Reader → Bool
  | .fill _ => true | _ => false
def isReread : Reader → Bool
  | .reread _ => true | _ => false

/-- The data of a first read: it reaches its reader, or recovery begins. -/
def readBack (c : Nat) (f : Flight) (s : State) : State :=
  let s := dropFlight c f s
  match f.entry.who with
  | .temp layer => (match f.bytes with | some bs => tempBlock (sheafOf c) layer bs s | none => tempFailed (sheafOf c) layer s)
  | who => match f.line with
    | some l => deliverLine c f.entry.addr who f.queued l s
    | none => failedRead c f s

/-- The data of a re-read. -/
def rereadBack (c : Nat) (f : Flight) (s : State) : State :=
  let s := dropFlight c f s
  match f.entry.who with
  | .reread num => (match (s.chan c).rec? num with
    | none => s
    | some r => match f.line with
      | some l => rereadPassed c r l s
      | none => rereadFailed c r s)
  | _ => s

/-- READ_RETURN. (DESIGN CHOICE, log 18) -/
def execReadReturn (c : Nat) (s : State) : Res :=
  present (decide (c < s.channels))
    (match s.flightDue c (fun w => !isFill w && !isReread w) with | some f => pump (readBack c f s) | none => s)

/-- FILL_READ_RETURN. -/
def execFillReadReturn (c : Nat) (s : State) : Res :=
  present (decide (c < s.channels)) (match s.flightDue c isFill with | some f => pump (readBack c f s) | none => s)

/-- REREAD_RETURN. -/
def execRereadReturn (c : Nat) (s : State) : Res :=
  present (decide (c < s.channels)) (match s.flightDue c isReread with | some f => pump (rereadBack c f s) | none => s)

/-- RECOVERY_RECORD_FREED: recovery writes that can be placed free their records, and waiting reads take them. -/
def execRecoveryRecordFreed (c : Nat) (s : State) : Res :=
  present (decide (c < s.channels)) (pump (takeWaiting c (placeRecovery c s)))

/-- RESTORE_READ_DONE: the oldest restore read of a channel that has ended. -/
def execRestoreReadDone (c : Nat) (s : State) : Res :=
  present (decide (c < s.channels))
    (match s.far.restored.find? fun x => x.c == c with
      | some x => pump (restoreEnded x (s.setFar { s.far with restored := s.far.restored.erase x }))
      | none => s)

/-! ### Confirmations (R257, R265) -/

/-- Slots without an alert that confirm a write. (DESIGN CHOICE, log 18) -/
def confirmSlots : Nat := 16

/-- The oldest unconfirmed write of a kind that has passed its slots. -/
def State.confirmable (s : State) (c : Nat) (want : Writer → Bool) : Option Unconf :=
  if s.chanState c = 1 || s.chanState c = 2 then none
  else (s.chan c).unconf.find? fun u => want u.entry.who && decide (u.issued + confirmSlots ≤ s.slotOf c)

/-- A write is confirmed: its journal entry may be retired. -/
def confirmWrite (c : Nat) (u : Unconf) (s : State) : State :=
  let s := s.modChan c fun x => { x with unconf := x.unconf.erase u }
  match u.entry.who with
  | .ask id =>
    let s := match s.ask? id with
      | some q => if q.isDrain then sampleEnd 0 id 0 St.ok (sampleData 0 id 0 s) else s
      | none => s
    retire id (s.modAsk id fun q => { q with confirmed := true })
  | _ => s

def isHeal : Writer → Bool
  | .heal => true | _ => false

/-- WRITE_CONFIRM. -/
def execWriteConfirm (c : Nat) (s : State) : Res :=
  present (decide (c < s.channels))
    (let moving := s.path.chans.any fun p => match p.2.move with
        | some m => p.1 == c || m.target.map (·.1) == some c
        | none => false
     match s.confirmable c (fun w => !isHeal w && !(isMove w && moving)) with | some u => pump (confirmWrite c u s) | none => s)

/-- A heal write is confirmed: the entry is healed and its age restarts (rule 1 of R257). -/
def healConfirmed (c : Nat) (u : Unconf) (s : State) : State :=
  let s := healedNow c (lineIndex u.entry.loc) (confirmWrite c u s)
  raiseAt Ev.lineHealed c u.entry.addr (s.secureAt u.entry.addr) (s.bump 0xA001 7)

/-- HEAL_WRITE_CONFIRMED. -/
def execHealWriteConfirmed (c : Nat) (s : State) : Res :=
  present (decide (c < s.channels)) (match s.confirmable c isHeal with | some u => pump (healConfirmed c u s) | none => s)

/-- TRACKER_AGE_EXPIRY. -/
def execTrackerAgeExpiry (c : Nat) (s : State) : Res := present (decide (c < s.channels)) (ageWeak c s)

/-- GLEANER_SLOW: a lap has passed its target before its end, once per lap (R254). -/
def execGleanerSlow (c : Nat) (s : State) : Res :=
  present (decide (c < s.channels))
    (let x := s.chan c
     if x.lapSlow || (s.gleanNext c).isNone || !s.elapsed x.lapStart (s.ob 0xA000 2 * msT) then s
     else raise Ev.gleanerSlow c 0 (s.modChan c fun x => { x with lapSlow := true }))

/-! ### Alerts and missing beats (R523, R524) -/

/-- The ck under way, counted as the slots are. -/
def State.ck (s : State) : Nat := (s.setTicks + frameT - s.epochT % frameT) / 5

/-- The controller takes the bank as it stands after a command that the layer ignored. -/
def resyncBank (c l b : Nat) (s : State) : State :=
  let row := match (s.lay c l).openRow b with | some r => r + 1 | none => 0
  s.modChan c fun x => { x with time := { x.time with open_ := put 0 (bankIx l b) row x.time.open_ } }

/-- Issue a command again at the first row position that allows it. -/
def reissueRow (c : Nat) (cmd : SdiCmd) (s : State) : State :=
  s.modChan c fun x => { x with again := if x.again.contains cmd then x.again else x.again ++ [cmd] }

/-- The read that a command carried out fails. -/
def failFlight (c order : Nat) (s : State) : State :=
  let mark (f : Flight) : Flight := if f.entry.order = order then { f with bytes := none } else f
  s.modChan c fun x => { x with flights := x.flights.map mark }

/-- A write that drew an alert is issued again, and with it the later unconfirmed writes of its line (R265). The third alert in a row
on one write tells. -/
def reissueWrite (c order : Nat) (s : State) : Bool × State :=
  match (s.chan c).unconf.find? fun u => u.entry.order == order with
  | none => (false, s)
  | some u =>
    let again := (s.chan c).unconf.filter fun v => v.entry.addr == u.entry.addr && decide (order ≤ v.entry.order)
    let s := forEach again (fun v s =>
      let e := { v.entry with alerts := if v.entry.order = order then v.entry.alerts + 1 else v.entry.alerts }
      let s := s.bump (chanIdx c) 0x8A
      let s := match e.who with | .ask id => sampleFlag 0 id 0 2 s | _ => s
      s.modChan c fun x =>
        let rest := x.unconf.filter fun w => w.entry.order != e.order
        match e.who with
        | .ask _ => { x with unconf := rest, wq := e :: x.wq }
        | _ => { x with unconf := rest, urgent := e :: x.urgent }) s
    (decide (3 ≤ u.entry.alerts + 1), syncDepth c s)

/-- A temperature read is to be made again: the layer is due. -/
def redoTemp (c layer order : Nat) (s : State) : State :=
  let s := s.modChan c fun x => { x with flights := x.flights.filter fun f => f.entry.order != order }
  s.setHeat { s.heat with scanned := put 0 (16 * sheafOf c + layer) 0 s.heat.scanned }

/-- A command has drawn an alert: what the controller does (R523). (DEDUCED, log 37) -/
def alerted (c : Nat) (i : Issued) (s : State) : State :=
  let k := ((s.chan c).alerts.find? fun a => a.1 == i.cmd).elim 1 fun a => a.2 + 1
  let rest (x : Chan) : List (SdiCmd × Nat) := x.alerts.filter fun a => a.1 != i.cmd
  let s := s.modChan c fun x => { x with alerts := rest x ++ [(i.cmd, k)], issued := x.issued.erase i }
  let (fault, s) : Bool × State := match i.cmd with
    | .act l b _ => (false, reissueRow c (.pre l b) (resyncBank c l b s))
    | .pre l b => (false, reissueRow c i.cmd (resyncBank c l b s))
    | .preLayer l => (false, reissueRow c i.cmd (forEach (List.range 16) (resyncBank c l) s))
    | .preAll => (false, reissueRow c i.cmd (forEach layers16 (fun l s => forEach (List.range 16) (resyncBank c l) s) s))
    | .rpr _ _ _ => (false, reissueRow c i.cmd s)
    | .rd l b _ _ => (false, failFlight c i.order (resyncBank c l b s))
    | .rdc l b _ _ => (false, resyncBank c l b s)
    | .wr l b _ _ => reissueWrite c i.order (resyncBank c l b s)
    | .ref l big mask => (false, addDebt c ((refBanks big mask).map fun b => bankIx l b) 1 s)
    | .mrr l _ => (false, if k = 1 then redoTemp c l i.order s else failFlight c i.order s)
    | .cal => (false, s)
    | .sre _ _ => (false, (if s.chanState c = 6 then s.setChanState c (s.chan c).srFrom else s).modChan c fun x =>
      { x with entry := some (false, i.ck) })
    | .srx => (false, reissueRow c i.cmd s)
    | .mrw _ _ _ => (false, reissueRow c i.cmd s)
  if 3 ≤ k || fault then singleFault Ev.channelFault (channelFault c true) s else s

/-- ALERT_SAMPLED: ALERT_n is low at this ck; `back` is how long ago the command it is attributed to began, 28 or 29 ck, and to 31
in held mode. -/
def execAlertSampled (c back : Nat) (s : State) : Res :=
  present (decide (c < s.channels))
    (match (s.chan c).issued.find? fun i => i.ck + back == s.ck && decide (28 ≤ back) && decide (back ≤ 31) with
      | some i => pump (alerted c i s)
      | none => s)

/-- MISSING_DATA_BEATS: the beats of the oldest read under way do not come. -/
def missingBeats (c : Nat) (s : State) : State :=
  match (s.chan c).flights with
  | [] => s
  | f :: _ =>
    let s := s.bump (0x3800 + stackOf c) 7
    match f.entry.who with
    | .temp layer =>
      let cmd := SdiCmd.mrr layer 0x40
      if (s.chan c).alerts.any fun a => a.1 == cmd then failFlight c f.entry.order s
      else redoTemp c layer f.entry.order (s.modChan c fun x => { x with alerts := x.alerts ++ [(cmd, 1)] })
    | _ => failFlight c f.entry.order s

/-- MISSING_DATA_BEATS. -/
def execMissingDataBeats (c : Nat) (s : State) : Res := present (decide (c < s.channels)) (missingBeats c s)

end Sys2Proof.Machine
end

