-- ==== Sys2Proof/Machine/Moves.lean ====
section
/-!
DEFINITION. Row repair and retirement, spare channels and the journal's copies (R258–R267, R272–R274, R527, R528).
-/
namespace Sys2Proof.Machine

/-! ### Repair depth and the repair log (R258, R262, R263) -/

/-- A row's place in the stores of its channel. -/
def rowKey (layer bank row : Nat) : Nat := 4096 * bankIx layer bank + row

/-- Repair depth of a row, and whether it is unprotected. -/
def Chan.rowDepth (x : Chan) (layer bank row : Nat) : Nat := look 0 (rowKey layer bank row) x.depth % 4
def Chan.bare (x : Chan) (layer bank row : Nat) : Bool := decide (4 ≤ look 0 (rowKey layer bank row) x.depth)

/-- Entries the repair log can hold. -/
def logSize : Nat := 8192

/-- Word 0 of a repair log entry. -/
def logWord (kind depth spare c layer bank row tw trow : Nat) : Nat :=
  kind * 2 ^ 60 + depth * 2 ^ 58 + spare * 2 ^ 55 + c * 2 ^ 46 + layer * 2 ^ 42 + bank * 2 ^ 38 + row * 2 ^ 26 + tw * 2 ^ 23 +
  trow * 2 ^ 11

/-- Enter an action in the repair log; a full log refuses it. -/
def logRepair (word c : Nat) (s : State) : State :=
  if logSize ≤ s.path.repairLog.length then raise Ev.repairExhausted c 0 s
  else
    let s := s.setPath { s.path with repairLog := s.path.repairLog ++ [(word, s.setNs)] }
    s.setOb 0xA020 1 s.path.repairLog.length

/-- A row becomes unprotected (R262). -/
def unprotect (c layer bank row : Nat) (s : State) : State :=
  let x := s.chan c
  let d := x.rowDepth layer bank row
  let s := s.modChan c fun x => { x with depth := put 0 (rowKey layer bank row) (d + 4) x.depth }
  let s := logRepair (logWord 4 d 0 c layer bank row 0 0) c (s.bump 0xA001 0x0A)
  raise Ev.repairExhausted c (logWord 0 0 0 c layer bank row 0 0) s

/-! ### The retirement table (R260) -/

/-- The retirement entry of a row. -/
def retireWord (c layer bank row target trow : Nat) : Nat :=
  2 ^ 63 + c % 72 / 9 * 2 ^ 60 + c % 9 * 2 ^ 56 + layer * 2 ^ 52 + bank * 2 ^ 48 + row * 2 ^ 36 + target % 72 / 9 * 2 ^ 33 +
  layer * 2 ^ 29 + bank * 2 ^ 25 + trow * 2 ^ 13

/-- A place in a stack's table: that of the row if it has one, otherwise a free one. -/
def State.retirePlace (s : State) (st c layer bank row : Nat) : Option Nat :=
  match (s.retirements st).find? fun p => retSource st p.2 == (c, layer, bank, row) with
  | some p => some p.1
  | none => (List.range 2048).find? fun n => !(s.ob (retireIdx st (n / 256)) (n % 256)).testBit 63

/-- Set an entry of a stack's table. -/
def setRetirement (st n v : Nat) (s : State) : State := s.setOb (retireIdx st (n / 256)) (n % 256) v

/-- A row of a spare channel holds a retirement, or is the target of a move under way. -/
def State.rowTaken (s : State) (t layer bank row : Nat) : Bool :=
  let st := stackOf t
  ((s.retirements st).any fun p =>
    retTarget st p.2 == (t, row) && bits 32 29 p.2 == layer && bits 28 25 p.2 == bank) ||
  s.path.chans.any fun p => match p.2.move with
    | some m => m.retire && m.target == some (t, row) && m.layer == layer && m.bank == bank
    | none => false

/-- The row of a spare channel a retirement takes: downward from row 4,095. -/
def State.freeRow (s : State) (t layer bank : Nat) : Option Nat :=
  ((List.range 4096).map fun i => 4095 - i).find? fun r => !s.rowTaken t layer bank r

/-- Where a row is retired to: the spare of its own sheaf while that is in standby, or, displaced, the standby spare of the lowest
other sheaf of the stack that has room (R260, R266). -/
def State.retireTarget (s : State) (c layer bank : Nat) (displaced : Bool) : Option (Nat × Nat) :=
  let st := stackOf c
  let try_ (t : Nat) : Option (Nat × Nat) :=
    if s.chanState t = 4 then (s.freeRow t layer bank).map fun r => (t, r) else none
  if displaced then ((List.range 8).map fun w => 72 * st + 9 * w + 8).findSome? fun t => if t = c then none else try_ t
  else try_ (spareFor c)

/-! ### Row moves (R259) -/

/-- The source row a row of a channel stands for: of a spare, the row retired there. -/
def State.rowOwner (s : State) (c layer bank row : Nat) : Option (Nat × Nat) :=
  let st := stackOf c
  (s.retirements st).find? fun p => retTarget st p.2 == (c, row) && bits 32 29 p.2 == layer && bits 28 25 p.2 == bank

/-- The channel and row a retirement goes to, if there is room for it: a displaced row that finds no other spare goes back to its own
row (R260, R266). -/
def State.retireGoal (s : State) (c layer bank row : Nat) (displaced : Bool) : Option (Nat × Nat) :=
  let target := if displaced || !isSpare c then s.retireTarget c layer bank displaced else none
  let home := match s.rowOwner c layer bank row with | some p => some (retSource (stackOf c) p.2) | none => none
  let place := displaced || (s.retirePlace (stackOf c) c layer bank row).isSome
  match target, home with
  | some t, _ => if place then some t else none
  | none, some (hc, _, _, hrow) => if displaced then some (hc, hrow) else none
  | none, none => none

/-- The next repair of a channel begins, once the read queue has room for its 8 reads (R191): the row is read into the move buffer; one
that cannot be moved is unprotected. (DEDUCED, log 41) -/
def startMove (c : Nat) (s : State) : State :=
  let x := s.chan c
  match x.move, x.moves with
  | none, (layer, bank, row, displaced) :: rest =>
    if !s.stewardUp || !s.slotRuns c || rqSize < x.rq.length + 8 then s
    else
      let s := s.modChan c fun x => { x with moves := rest }
      let used := look 0 (bankIx layer bank) x.spares
      let retire := displaced || decide (2 ≤ x.rowDepth layer bank row) || decide (8 ≤ used)
      if x.bare layer bank row then s
      else if retire && (s.retireGoal c layer bank row displaced).isNone then unprotect c layer bank row s
      else
        let m : Move := { layer := layer, bank := bank, row := row, retire := retire, spare := used
                          target := none, buffer := List.replicate 8 none, stage := 0
                          written := [], displaced := displaced, waiting := [] }
        let s := s.modChan c fun x => { x with move := some m }
        forEach (List.range 8) (fun i s =>
          let a := s.ownerAddr c (lineIndex ⟨c, layer, bank, row, i⟩)
          pushRead (.move i) a 0 none (s.regionRaw a) s) s
  | _, _ => s

/-- The slot under way is a refresh reserve slot whose bank no planned line of the next 62 slots uses (R199, R259). -/
def State.repairSlot (s : State) (c layer bank : Nat) : Bool :=
  (s.slotUse c (s.slotOf c)).1 == 4 &&
  !((s.window c (s.slotOf c) 62).any fun p => match p with
    | some p => p.layer == layer && p.bank % 4 == bank % 4
    | none => false)

/-- A row command of a soft repair may take the row position of the slot under way, whose own commands have been placed (R185, R188). -/
def State.repairRow (s : State) (c : Nat) (cmd : SdiCmd) : Bool :=
  (s.chan c).lastSlot == some (s.slotOf c) && s.rowAllowed c cmd &&
  noHarmRow s.chaff (s.half c) (s.slotOf c) (s.window c (s.slotOf c) 32) (s.chan c).time cmd

/-- RPR may take the column position of the slot under way. -/
def State.repairCol (s : State) (c : Nat) (cmd : SdiCmd) : Bool :=
  let slot := s.slotOf c
  let x := s.chan c
  x.lastSlot == some slot && !(x.issued.any fun i => i.ck == colCk slot) && !x.busyNext && allowed x.time (s.half c) (colCk slot) cmd &&
  noHarmCol s.chaff (s.half c) slot (s.window c (slot + 1) 31) x.time cmd

/-- The next command of a soft repair (R183, R527): PREab of the layer in a refresh reserve slot whose bank no planned line needs, the repair
register, and, once every bank is precharged, RPR; a row the plan opens meanwhile starts it again. (DEDUCED, log 41) -/
def softRepair (c : Nat) (m : Move) (s : State) : State :=
  let slot := s.slotOf c
  let next (k : Nat) (s : State) : State := s.modChan c fun x => { x with move := x.move.map fun m => { m with stage := k } }
  let shut := (List.range 16).all fun b => ((s.chan c).time.row (bankIx m.layer b)).isNone
  if !s.slotRuns c then s
  else if m.stage = 0 then
    if s.repairSlot c m.layer m.bank && s.repairRow c (.preLayer m.layer) then
      next 1 (issueRow c slot false .open_ (.preLayer m.layer) s) else s
  else if !shut then next 0 s
  else if m.stage = 1 then
    let cmd := SdiCmd.mrw m.layer 0x18 m.spare
    if s.repairRow c cmd then next 2 (issueRow c slot false .open_ cmd s) else s
  else
    let cmd := SdiCmd.rpr m.layer m.bank m.row
    if s.repairCol c cmd then
      let s := driveCmd c false cmd (noteCmd c (colCk slot) cmd 0 s)
      let s := s.modChan c fun x => { x with spares := put 0 (bankIx m.layer m.bank) (m.spare + 1) x.spares }
      next 3 (s.bump (chanIdx c) 0x87)
    else s

/-- The move buffer is complete: the target row of a retirement is allocated, a repair takes its next command (R259). -/
def bufferComplete (c : Nat) (s : State) : State :=
  match (s.chan c).move with
  | none => s
  | some m =>
    if m.stage = 3 || m.buffer.any Option.isNone || !s.stewardUp then s
    else if m.retire then
      match s.retireGoal c m.layer m.bank m.row m.displaced with
      | some t => s.modChan c fun x => { x with move := some { m with stage := 3, target := some t } }
      | none => unprotect c m.layer m.bank m.row (s.modChan c fun x => { x with move := none })
    else softRepair c m s

/-- The channel and row a move writes to. -/
def Move.goal (m : Move) (c : Nat) : Nat × Nat := m.target.getD (c, m.row)

/-- Place the writes of a move that have room in the urgent store (R250, R259), while the Steward runs (R26). -/
def placeMove (c : Nat) (s : State) : State :=
  match (s.chan c).move with
  | none => s
  | some m =>
    if m.stage != 3 || !s.stewardUp then s
    else
      let (t, trow) := m.goal c
      forEach ((List.range 8).filter fun i => !m.written.contains i) (fun i s =>
        match (s.chan c).move with
        | none => s
        | some m =>
          if !s.urgentRoom t then s
          else match m.buffer.getD i none with
            | none => s
            | some l =>
              let a := s.ownerAddr c (lineIndex ⟨c, m.layer, m.bank, m.row, i⟩)
              let s := s.modChan c fun x => { x with move := some { m with written := m.written ++ [i] } }
              pushUrgent (.move i) a ⟨t, m.layer, m.bank, trow, i⟩ l.1 l.2 s) s

/-- A write of a move. -/
def Move.isWrite (m : Move) (c : Nat) (e : WrEntry) : Bool :=
  let (t, trow) := m.goal c
  isMove e.who && e.loc.c == t && e.loc.layer == m.layer && e.loc.bank == m.bank && e.loc.row == trow

/-- Every write of a move has been issued and confirmed. -/
def State.moveWritten (s : State) (c : Nat) (m : Move) : Bool :=
  let t := s.chan (m.goal c).1
  m.written.length == 8 && !(t.urgent.any (m.isWrite c)) &&
  (t.unconf.all fun u => !m.isWrite c u.entry || decide (u.issued + confirmSlots ≤ s.slotOf (m.goal c).1))

/-- The tracker entries of a row's lines that failed while healed are freed (rule 3 of R257). -/
def forgetRow (c layer bank row : Nat) (s : State) : State :=
  forEach (List.range 8) (fun i s =>
    match (s.chan c).weakOf (lineIndex ⟨c, layer, bank, row, i⟩) with
    | some (n, w) => if w.failed then setWeak c n none s else s
    | none => s) s

/-- Queued reads and writes of a row that has moved to another channel go with it (R261). (DEDUCED, log 41) -/
def relocate (c layer bank row t trow : Nat) (s : State) : State :=
  let here (l : Loc) : Bool := l.layer == layer && l.bank == bank && l.row == row
  let x := s.chan c
  let rs := (x.rq.filter fun e => here e.loc).map fun e => { e with loc := { e.loc with c := t, row := trow } }
  let ws := (x.wq.filter fun e => here e.loc).map fun e => { e with loc := { e.loc with c := t, row := trow } }
  let s := s.modChan c fun x =>
    { x with rq := x.rq.filter (fun e => !here e.loc), wq := x.wq.filter (fun e => !here e.loc) }
  syncDepth t (syncDepth c (s.modChan t fun y => { y with rq := y.rq ++ rs, wq := y.wq ++ ws }))

/-- The mapping changes: a repair, a retirement, or the move of a row retired already (R259, R260, R266). (DEDUCED, log 41) -/
def finishMove (c : Nat) (s : State) : State :=
  match (s.chan c).move with
  | none => s
  | some m =>
    if m.stage != 3 || !s.stewardUp || !s.moveWritten c m then s
    else
      let (t, trow) := m.goal c
      let st := stackOf c
      let s := s.modChan t fun y => { y with unconf := y.unconf.filter fun u => !m.isWrite c u.entry }
      let s := s.modChan c fun x => { x with move := none }
      let s := forgetRow c m.layer m.bank m.row s
      if !m.retire then
        let d := (s.chan c).rowDepth m.layer m.bank m.row + 1
        let s := s.modChan c fun x => { x with depth := put 0 (rowKey m.layer m.bank m.row) d x.depth }
        let s := logRepair (logWord 1 d m.spare c m.layer m.bank m.row 0 0) c (s.bump 0xA001 8)
        raise Ev.rowRepaired c (logWord 0 d m.spare c m.layer m.bank m.row 0 0) s
      else if m.displaced then
        match s.rowOwner c m.layer m.bank m.row with
        | none => s
        | some (n, v) =>
          let (hc, hl, hb, hrow) := retSource st v
          let s := relocate c m.layer m.bank m.row t trow s
          if t = hc then
            let s := s.setOb (chanIdx hc) 0x88 (s.ob (chanIdx hc) 0x88 - 1)
            unprotect hc hl hb hrow (raise Ev.retirementDisplaced c (logWord 0 0 0 hc hl hb hrow 0 0) (setRetirement st n 0 s))
          else
            let d := (s.chan hc).rowDepth hl hb hrow
            let s := logRepair (logWord 3 d 0 hc hl hb hrow (t % 72 / 9) trow) c (setRetirement st n (retireWord hc hl hb hrow t trow) s)
            raise Ev.rowRetired c (logWord 0 d 0 hc hl hb hrow (t % 72 / 9) trow) s
      else
        match s.retirePlace st c m.layer m.bank m.row with
        | none => unprotect c m.layer m.bank m.row s
        | some n =>
          let d := (s.chan c).rowDepth m.layer m.bank m.row
          let s := setRetirement st n (retireWord c m.layer m.bank m.row t trow) s
          let s := relocate c m.layer m.bank m.row t trow s
          let s := (s.bump 0xA001 9).bump (chanIdx c) 0x88
          let s := logRepair (logWord 3 d 0 c m.layer m.bank m.row (t % 72 / 9) trow) c s
          raise Ev.rowRetired c (logWord 0 d 0 c m.layer m.bank m.row (t % 72 / 9) trow) s

/-- Everything that goes on by itself, the writes of row moves with it. -/
def pumpMoves (s : State) : State := pump (forEach (s.path.chans.map (·.1)) placeMove s)

/-- ROW_MOVE_START. -/
def execRowMoveStart (c : Nat) (s : State) : Res := present (decide (c < s.channels)) (startMove c s)

/-- ROW_MOVE_BUFFER_COMPLETE. -/
def execRowMoveBufferComplete (c : Nat) (s : State) : Res :=
  present (decide (c < s.channels)) (pumpMoves (bufferComplete c s))

/-- ROW_MOVE_CONFIRMED. -/
def execRowMoveConfirmed (c : Nat) (s : State) : Res :=
  present (decide (c < s.channels)) (pumpMoves (finishMove c (pumpMoves s)))

/-! ### Replay of the log at a start (R264) -/

/-- Fields of a log entry. -/
def logKind (w : Nat) : Nat := bits 63 60 w
def logChan (w : Nat) : Nat := bits 54 46 w

/-- One entry of the log as a start replays it: a soft repair is made again, a retirement enters the table. -/
def replayEntry (w : Nat) (s : State) : State :=
  let c := logChan w
  let layer := bits 45 42 w
  let bank := bits 41 38 w
  let row := bits 37 26 w
  let d := bits 59 58 w
  let i := bits 57 55 w
  let mark (d : Nat) (s : State) : State := s.modChan c fun x => { x with depth := put 0 (rowKey layer bank row) d x.depth }
  let st := stackOf c
  match logKind w with
  | 1 =>
    let s := layRpr c layer bank row (layMrw c layer 0x18 i s)
    let s := s.modChan c fun x => { x with spares := alter 0 (bankIx layer bank) (fun k => max k (i + 1)) x.spares }
    ((mark d s).bump (chanIdx c) 0x87).bump (0x3800 + st) 8
  | 2 =>
    let s := s.modChan c fun x => { x with spares := alter 0 (bankIx layer bank) (fun k => max k (i + 1)) x.spares }
    (mark d s).bump (chanIdx c) 0x87
  | 3 =>
    let t := 72 * st + 9 * bits 25 23 w + 8
    let known := (s.retirements st).any fun p => retSource st p.2 == (c, layer, bank, row)
    (match s.retirePlace st c layer bank row with
      | some n =>
        let s := setRetirement st n (retireWord c layer bank row t (bits 22 11 w)) s
        if known then s else s.bump (chanIdx c) 0x88
      | none => s)
  | 4 =>
    (match (s.retirements st).find? fun p => retSource st p.2 == (c, layer, bank, row) with
      | some p => mark (d + 4) (setRetirement st p.1 0 (s.setOb (chanIdx c) 0x88 (s.ob (chanIdx c) 0x88 - 1)))
      | none => mark (d + 4) s)
  | _ => s

/-- The log is replayed, before any traffic: repairs, retirements and unprotected rows stand as it describes. -/
def replayLog (s : State) : State :=
  let s := forEach s.stacks_ (fun st s => s.setOb (0x3800 + st) 8 0) s
  let s := { s with obj := s.obj.filter fun p => !(p.1 % 256 == 0x87 && decide (0x4000 ≤ p.1 / 256) && decide (p.1 / 256 < 0x4120)) }
  forEach (s.path.repairLog.map (·.1)) replayEntry (s.setOb 0xA020 1 s.path.repairLog.length)

/-- Soft repairs logged since the last start are to be made hard, when 0xA000:04 is 1. -/
def planHard (s : State) : State :=
  let n := s.path.repairLog.length
  let due := if s.ob 0xA000 4 = 0 then []
    else (List.range n).filter fun i => decide (s.path.logAtStart ≤ i) && logKind ((s.path.repairLog.getD i (0, 0)).1) == 1
  s.setPath { s.path with hardDue := due, logAtStart := n }

/-- Issue the next hard repair of a layer of a channel, in CONFIG (R528). -/
def startHard (c layer : Nat) (s : State) : State :=
  let mine (i : Nat) : Bool :=
    let w := (s.path.repairLog.getD i (0, 0)).1
    logChan w == c && bits 45 42 w == layer
  if s.power.node != .config || !s.stewardUp || (s.lay c layer).busy.isSome then s
  else match s.path.hardDue.find? mine with
    | none => s
    | some i =>
      let w := (s.path.repairLog.getD i (0, 0)).1
      layRpr c layer (bits 41 38 w) (bits 37 26 w) (layMrw c layer 0x18 (8 + bits 57 55 w) (layPreab c layer false s))

/-- The end of a hard repair: the log entry turns to kind 2, or the soft repair stays in force (R264). -/
def hardDone (c layer : Nat) (ok : Bool) (s : State) : State :=
  match (s.lay c layer).busy with
  | none => s
  | some (bank, row, i) =>
    let match_ (w : Nat) : Bool :=
      logKind w == 1 && logChan w == c && bits 45 42 w == layer && bits 41 38 w == bank && bits 37 26 w == row && bits 57 55 w == i
    let s := layHardDone c layer ok s
    let due := s.path.hardDue.filter fun k => !match_ (s.path.repairLog.getD k (0, 0)).1
    let s := s.setPath { s.path with hardDue := due }
    if ok then
      let turn (p : Nat × Nat) : Nat × Nat := if match_ p.1 then (p.1 + 2 ^ 60, p.2) else p
      let s := s.setPath { s.path with repairLog := s.path.repairLog.map turn }
      startHard c layer (raise Ev.hardRepair c (logWord 0 0 i c layer bank row 0 0) (s.bump (0x3800 + stackOf c) 9))
    else
      startHard c layer (raise Ev.repairExhausted c (logWord 0 0 i c layer bank row 0 0) (s.bump (0x3800 + stackOf c) 0x0A))

/-- HARD_REPAIR_DONE. -/
def execHardRepairDone (c layer : Nat) (verified : Bool) (s : State) : Res :=
  present (decide (c < s.channels) && decide (layer < 16)) (hardDone c layer verified s)

/-! ### The content of a channel as a whole -/

/-- The rows of a channel that spare rows replace: layer, bank, row. -/
def mappedRows (c : Nat) (s : State) : List (Nat × Nat × Nat) :=
  layers16.flatMap fun l =>
    let x := s.lay c l
    (x.soft ++ x.hard).map fun p => (l, p.1 / 4096, p.1 % 4096)

/-- Every line of a channel is copied to another: whole blocks as they stand, and then the rows either of them keeps in spare rows. -/
def copyChannel (src dst : Nat) (s : State) : State :=
  let m := s.dram
  let size := 16 * 16 * 4104 * 8 * 136
  let isOf (c : Nat) (x : Host.Cell) : Bool := x.1 / size == c
  let moved := (m.cells.filter (isOf src)).map fun x => (x.1 % size + dst * size, x.2)
  let below := m.cells.filter fun x => decide (x.1 / size < dst)
  let above := m.cells.filter fun x => decide (dst < x.1 / size)
  let blocks := List.range 512
  let shift (t : Store Nat) : Store Nat := forEach blocks (fun b t => put 0 (blockKey dst b) (look 0 (blockKey src b) t) t) t
  let lines := m.rewritten.filter fun p => !(p.1 / (16 * 16 * 4104 * 8) == dst)
  let again := (m.rewritten.filter fun p => p.1 / (16 * 16 * 4104 * 8) == src).map fun p =>
    (p.1 % (16 * 16 * 4104 * 8) + dst * (16 * 16 * 4104 * 8), p.2)
  let s' := { s with dram := { m with cells := below ++ moved ++ above, fill := shift m.fill, lost := shift m.lost
                                      rewritten := again.foldl (fun t p => put 0 p.1 p.2 t) lines } }
  forEach (mappedRows src s ++ mappedRows dst s) (fun r s' =>
    forEach (List.range 8) (fun i s' =>
      let bytes := readPhys m (s.cellLine src r.1 r.2.1 r.2.2 i)
      { s' with dram := writePhys s'.dram (s.cellLine dst r.1 r.2.1 r.2.2 i) bytes }) s') s'

/-- Write a stored line at its home channel offset in a channel. -/
def putStored (c a : Nat) (l : Nat × Nat) (s : State) : State :=
  let o := adOffset a
  let k := s.cellLine c (ofLayer o) (ofBank o) (ofRow o) (ofLine o)
  { s with dram := writePhys s.dram k (encodeLine o ⟨leBytes 128 l.1, l.2⟩) }

/-! ### Reconstitution (R266) and copy-back (R267) -/

/-- 0xA003:01. -/
def reconstituteHome (c : Nat) : Home := fun _ s =>
  let t := spareFor c
  let free := match s.path.reconst with | some _ => false | none => true
  if isSpare c || s.channels ≤ c || s.chanState c != 2 || s.chanState t != 4 || !free then .denied s
  else
    let s := (s.setPath { s.path with reconst := some ⟨c, t, s.now, false⟩ }).setOb 0xA003 2 1
    let st := stackOf c
    let others := (s.retirements st).filter fun p => (retTarget st p.2).1 == t && (retSource st p.2).1 != c
    let s := forEach others (fun p s =>
      queueMove t (bits 32 29 p.2) (bits 28 25 p.2) (bits 24 13 p.2) true s) s
    .done (s.setOb 0xA003 3 0)

/-- RECONSTITUTE. -/
def execReconstitute (r : Req) (c : Nat) (s : State) : Res :=
  .next (dictWrite r 0xA003 1 (leBytes 2 c) (reconstituteHome (c % 2 ^ 16)) s)

/-- DISPLACING_DONE: no retired row of another channel is left in the spare. -/
def displacingDone (s : State) : State :=
  match s.path.reconst with
  | none => s
  | some b =>
    let x := s.chan b.spare
    if s.ob 0xA003 2 != 1 || x.move.isSome || !x.moves.isEmpty then s
    else
      let s := (s.setOb 0xA003 2 2).setPath { s.path with reconst := some { b with began := s.now } }
      s.setChanState b.spare 3

/-- DISPLACING_DONE. -/
def execDisplacingDone (s : State) : Res := .next (displacingDone s)

/-- The lines of a failed channel that a fill can restore, first source first: cached copies, retired rows held in the spare, and
backing copies (R266). Each is an address with its stored form. -/
def restorable (c : Nat) (s : State) : List (Nat × (Nat × Nat)) :=
  let st := stackOf c
  let homed (a : Nat) : Bool := !farAddr a && adNode a == s.me && homeChan a == c
  let cached := s.cache.ways.filterMap fun p => match p.2 with
    | some w => if w.kind != .mirror && homed (128 * w.line) then some (128 * w.line, s.closeLine (128 * w.line) (w.data, w.info)) else none
    | none => none
  let retired := (s.retirements st).flatMap fun p =>
    let (sc, layer, bank, row) := retSource st p.2
    let (t, trow) := retTarget st p.2
    if sc != c || t != spareFor c then []
    else (List.range 8).filterMap fun i =>
      let a := s.addrOf c (offsetOf row layer bank i)
      (s.storedLine ⟨t, layer, bank, trow, i⟩ a).map fun l => (a, l)
  let bales := (s.far.stored.map (·.1) ++ s.far.bales.map (·.num)).eraseDups
  let backed := s.validRegions.flatMap fun r =>
    if !r.2.backed then []
    else bales.flatMap fun b =>
      if b < r.2.backing % 2 ^ 20 * 128 || (r.2.backing % 2 ^ 20 + r.2.len) * 128 ≤ b then []
      else (List.range 128).filterMap fun i =>
        let off := b * 128 * 128 + i * 128
        let a := granuleAddr false r.2.base + (off - r.2.backing % 2 ^ 20 * 2 ^ 21)
        if !homed a then none
        else
          let got := match s.farLine b i with
            | some l => l
            | none => match s.verifies b with | some x => x.lines[i]? | none => none
          match got with
          | some l => if lineBad l then none else some (a, s.closeLine a l)
          | none => none
  (cached ++ retired ++ backed).foldl (fun acc x => if acc.any fun y => y.1 == x.1 then acc else acc ++ [x]) []

/-- The lines of a failed channel whose copy in a retired row fails its check, no cached copy going before it. -/
def unreadable (c : Nat) (s : State) : List Nat :=
  let st := stackOf c
  (s.retirements st).flatMap fun p =>
    let (sc, layer, bank, row) := retSource st p.2
    let (t, trow) := retTarget st p.2
    if sc != c || t != spareFor c then []
    else (List.range 8).filterMap fun i =>
      let a := s.addrOf c (offsetOf row layer bank i)
      if (s.storedLine ⟨t, layer, bank, trow, i⟩ a).isNone && (s.cached a).isNone then some a else none

/-- A fill source that fails its check ends restored from its backing copy or poisoned, as R248 has it; no notification entry is written
during a fill (R266). -/
def fillFailed (c a : Nat) (restored : Bool) (s : State) : State :=
  let g := (s.regionAt a).map (·.2)
  let secure := s.secureAt a
  let s := if restored || !(g.any (·.backed)) then s else raiseAt Ev.restoreFailed c a secure (s.bump 0xA001 5)
  if restored then raiseAt Ev.lineRestored c a secure (s.bump 0xA001 2)
  else if g.any (·.recomputable) then raiseAt Ev.lineRecompute c a secure ((s.setOb 0xA001 0x0B a).bump 0xA001 3)
  else raiseAt Ev.linePoisoned c a secure ((s.setOb 0xA001 0x0B a).bump 0xA001 4)

/-- The fill has written every line: the restored ones with their data, every other one poisoned. -/
def fillSpare (b : Rebuild) (s : State) : State :=
  let lines := restorable b.c s
  let s := forEach (unreadable b.c s) (fun a s => fillFailed b.spare a (lines.any fun x => x.1 == a) s) s
  let s := forEach (List.range 512) (fun k s =>
    let a := s.addrOf b.c (k * 2 ^ 21)
    fillRows b.spare k (if s.sealedAt a then 2 else 1) s) s
  let s := forEach lines (fun x s => putStored b.spare x.1 x.2 s) s
  let good := lines.filter fun x => !lineBad x.2
  let s := raise Ev.reconstitutionDone b.c (good.length * 2 ^ 32 + (8388608 - good.length)) s
  forEach (s.validRegions.filter fun r => r.2.recomputable && !r.2.far) (fun r s =>
    let mine := (List.range r.2.len).filter fun g =>
      let a := granuleAddr false (r.2.base + g)
      adNode a == s.me && homeChan a == b.c
    let have_ := (good.filter fun x => r.2.covers x.1).length
    if have_ < mine.length * 16384 then signalObject 1 r.2.syncObj 1 r.2.owner r.2.world false s else s) s

/-- The least time a fill takes: one line per slot. -/
def fillTime : Nat := 8388608 * slotT

/-- RECONSTITUTION_DONE. (DEDUCED, log 41) -/
def reconstitutionDone (s : State) : State :=
  match s.path.reconst with
  | none => s
  | some b =>
    if s.ob 0xA003 2 != 2 || !s.elapsed b.began fillTime then s
    else
      let s := fillSpare b s
      let s := s.setPath { s.path with reconst := some { b with ready := true } }
      (s.setOb 0xA003 2 3).setOb 0xA003 3 8388608

/-- RECONSTITUTION_DONE. -/
def execReconstitutionDone (s : State) : Res := .next (serveAll (reconstitutionDone s))

/-- At a tide a reconstituted spare joins: it serves the failed channel's addresses (R266). -/
def joinSpare (b : Rebuild) (s : State) : State :=
  let s := (s.setChanState b.spare 5).setOb (chanIdx b.spare) 2 b.c
  let s := s.setOb (chanIdx b.c) 2 b.spare
  let s := s.setPath { s.path with reconst := none }
  raise Ev.channelRejoined b.spare 0 (s.setOb 0xA003 2 0)

/-- 0xA003:05. -/
def copyBackHome (c : Nat) : Home := fun _ s =>
  let t := spareFor c
  if isSpare c || s.channels ≤ c || s.chanState c != 3 || s.servedBy c != t || s.path.copyBack.isSome then .denied s
  else .done (s.setPath { s.path with copyBack := some ⟨c, t, s.now, false⟩ })

/-- COPY_BACK. -/
def execCopyBack (r : Req) (c : Nat) (s : State) : Res :=
  .next (dictWrite r 0xA003 5 (leBytes 2 c) (copyBackHome (c % 2 ^ 16)) s)

/-- COPY_BACK_DONE: every line has been copied; until the join, writes go to both channels. (DEDUCED, log 41) -/
def copyBackDone (s : State) : State :=
  match s.path.copyBack with
  | none => s
  | some b =>
    if b.ready then s
    else
      let s := copyChannel b.spare b.c s
      raise Ev.copyBackDone b.c 0 (s.setPath { s.path with copyBack := some { b with ready := true } })

/-- COPY_BACK_DONE. -/
def execCopyBackDone (s : State) : Res := .next (copyBackDone s)

/-- At a tide the restored channel serves its addresses again, its lines as the spare last held them, and the spare is in standby;
the rows of the channel that are retired in the spare are there again (R267). -/
def joinBack (b : Rebuild) (s : State) : State :=
  let st := stackOf b.c
  let rows := (s.retirements st).filter fun p => (retSource st p.2).1 == b.c && (retTarget st p.2).1 == b.spare
  let held := rows.flatMap fun p =>
    let (_, layer, bank, row) := retSource st p.2
    (List.range 8).map fun i =>
      (s.cellLine b.spare layer bank (retTarget st p.2).2 i, readPhys s.dram (s.cellLine b.spare layer bank row i))
  let s := copyChannel b.spare b.c s
  let s := forEach held (fun x s => { s with dram := writePhys s.dram x.1 x.2 }) s
  let s := ((s.setChanState b.c 0).setOb (chanIdx b.c) 2 0xFFFF).setChanState b.spare 4
  let s := (s.setOb (chanIdx b.spare) 2 0xFFFF).setPath { s.path with copyBack := none }
  let x := s.chan b.spare
  let rs : List RdEntry := x.rq.map fun e => { e with loc := { e.loc with c := b.c } }
  let ws : List WrEntry := x.wq.map fun e => { e with loc := { e.loc with c := b.c } }
  let s := s.modChan b.c fun y => { y with rq := y.rq ++ rs, wq := y.wq ++ ws }
  let s := s.modChan b.spare fun y => { y with rq := [], wq := [] }
  raise Ev.channelRejoined b.c 0 (syncDepth b.spare (syncDepth b.c s))

/-! ### The journal's copies (R274) -/

/-- JOURNAL_LOST: an entry fails in both copies. -/
def journalLost (s : State) : State := enterHalted Ev.journalLost true (raiseNode Ev.journalLost 0 s)

/-- JOURNAL_COPY_FAULT: an entry fails in copy A (or B), which goes out of service. (DEDUCED, log 41) -/
def journalFault (copyB : Bool) (s : State) : State :=
  if (copyB && !s.path.journalB) || (!copyB && !s.path.journalA) then s
  else if !s.path.journalA || !s.path.journalB then journalLost s
  else singleFault Ev.journalCopyFault (fun s =>
    let s := s.setPath { s.path with journalA := copyB, journalB := !copyB }
    raiseNode Ev.journalCopyFault (b2n copyB) (s.setOb 0xA002 3 (if copyB then 2 else 1))) s

/-- JOURNAL_COPY_FAULT. -/
def execJournalCopyFault (copyB : Bool) (s : State) : Res := .next (journalFault copyB s)

/-- JOURNAL_REBUILD_DONE. -/
def execJournalRebuildDone (s : State) : Res :=
  .next ((s.setPath { s.path with journalA := true, journalB := true }).setOb 0xA002 3 0)

/-- JOURNAL_LOST. -/
def execJournalLost (s : State) : Res := .next (journalLost s)

end Sys2Proof.Machine
end

