-- ==== Sys2Proof/Machine/Training.lean ====
section
/-!
DEFINITION. Training, periodic retraining and margining (R299–R318). The settings stand in 0x4000+c:50 to 63.
-/
namespace Sys2Proof.Machine

/-! ### Settings (R300, R320) -/

/-- Codes of the settings: 0 write leveling, 1 read DQS, 2 read gate, 3 read Vref, 4 write Vref, each of a group; 5 read DQ delay, 6 write
DQ delay, each of a lane; 7 CA delay, of a CA lane; 8 CA Vref. The object and the byte that hold one. -/
def settingPlace (code inst : Nat) : Nat × Nat :=
  if code ≤ 4 then (0x50 + inst, 4 - code)
  else if code ≤ 6 then (0x62, if code = 5 then inst else 144 + inst)
  else (0x63, if code = 7 then inst else 13)

/-- The largest value of a setting. -/
def settingMax (code : Nat) : Nat := if code = 3 || code = 4 || code = 8 then 100 else 127

/-- One byte of a number, and the number with it replaced. -/
def byteOf (v k : Nat) : Nat := v / 2 ^ (8 * k) % 256
def withByte (v k b : Nat) : Nat := v - byteOf v k * 2 ^ (8 * k) + b % 256 * 2 ^ (8 * k)

/-- A setting of a channel. -/
def State.setting (s : State) (c code inst : Nat) : Nat :=
  let p := settingPlace code inst
  byteOf (s.ob (chanIdx c) p.1) p.2
def setSetting (c code inst v : Nat) (s : State) : State :=
  let p := settingPlace code inst
  s.setOb (chanIdx c) p.1 (withByte (s.ob (chanIdx c) p.1) p.2 v)

/-- Settings within their ranges: the word of a group, the delays of the lanes, and the CA settings with the alert sampling delay. -/
def clampBytes (n : Nat) (top : Nat → Nat) (v : Nat) : Nat :=
  (List.range n).foldl (fun a k => a + min (top k) (byteOf v k) * 2 ^ (8 * k)) 0
def clampGroup (w : Nat) : Nat := clampBytes 5 (fun k => settingMax (4 - k)) w
def clampLanes (v : Nat) : Nat := clampBytes 288 (fun _ => 127) v
def clampCa (v : Nat) : Nat := clampBytes 15 (fun k => if k = 13 then 100 else 127) v

/-- Every byte of a number one nearer to that of another. -/
def stepBytes (n cur goal : Nat) : Nat :=
  (List.range n).foldl (fun a k =>
    let v := byteOf cur k
    let g := byteOf goal k
    a + (if v < g then v + 1 else if g < v then v - 1 else v) * 2 ^ (8 * k)) 0

/-- Layers follow the write Vref of a group (R513). -/
def layerVref (c g v : Nat) (s : State) : State := layMrwb c (0x20 + g) v s

/-! ### Width and the spare group (R311, R312) -/

/-- The groups of a mask that are bad among some. -/
def badOf (mask : Nat) (gs : List Nat) : List Nat := gs.filter mask.testBit

/-- What a channel falls back to when the groups of a mask have no working setting: the width and the group the spare carries, or
nothing. -/
def fallback (mask : Nat) : Option (Nat × Option Nat) :=
  let spare := !mask.testBit 17
  let form (gs : List Nat) : Option (Option Nat) := match badOf mask gs with
    | [] => some none
    | [g] => if spare then some (some g) else none
    | _ => none
  match form (List.range 17) with
  | some g => some (0, g)
  | none => match form (List.range 8 ++ [16]) with
    | some g => some (1, g)
    | none => (form ((List.range 8).map (· + 8) ++ [16])).map fun g => (2, g)

/-- A channel takes a width and a permanent use of its spare group; a group without a working setting is marked failed. -/
def takeFallback (c mask width : Nat) (spare : Option Nat) (s : State) : State :=
  let i := chanIdx c
  let old := s.ob i 0x42
  let new := spare.getD 0xFF
  let wasHalf := s.ob i 3
  let s := (s.setOb i 0x43 mask).setOb i 0x42 new
  let s := forEach (List.range 18) (fun g s =>
    s.setOb i (0x50 + g) (s.ob i (0x50 + g) % 2 ^ 40 + b2n (mask.testBit g) * 2 ^ 40)) s
  let s := s.modTr c fun t => { t with width := width, offline := none }
  let s := setLayers c (s.setOb i 3 (if width = 0 then 0 else 1))
  let s := if new != 0xFF && new != old then raise Ev.spareGroupInUse c new s else s
  if width != 0 && wasHalf = 0 then raise Ev.halfWidth c 0 s else s

/-! ### The training record (R315, R316) -/

/-- The record of a channel's settings as they stand. (DEDUCED, log 40) -/
def buildRecord (c seq : Nat) (s : State) : List Byte :=
  let i := chanIdx c
  let t := s.tr c
  let spare := s.ob i 0x42
  let flags := t.width * 64 + (if spare = 0xFF then 31 else 32 + spare)
  let group (g : Nat) : List Byte :=
    [0, 1, 2, 3, 4].flatMap (fun k => leBytes 1 (s.setting c k g)) ++ zeroBytes 3
  let ca := s.ob i 0x63
  let temp := match t.temp with | some v => unsigned 16 v | none => 0x8000
  let body := leBytes 4 0x524E5254 ++ leBytes 2 1 ++ leBytes 2 c ++ leBytes 4 seq ++ leBytes 4 flags ++
    leBytes 8 (s.ob (0x3800 + stackOf c) 1) ++ leBytes 2 temp ++
    leBytes 2 (Config.trainingVersion (s.ob 0x1000 5)).toNat ++ leBytes 4 (s.ob i 0x43) ++
    leBytes 13 (ca % 2 ^ 104) ++ zeroBytes 3 ++ leBytes 1 (byteOf ca 13) ++ leBytes 1 (byteOf ca 14) ++ zeroBytes 14 ++
    (List.range 18).flatMap group ++ leBytes 288 (s.ob i 0x62) ++ zeroBytes 12
  body ++ leBytes 4 (crc32c body)

/-- A copy of a channel's record in NVM. -/
def copyKey (c : Nat) (b : Bool) : Nat := c + 1024 * b2n b
def State.recordCopy (s : State) (c : Nat) (b : Bool) : List Byte := leBytes 512 (look 0 (copyKey c b) s.nvm.training)

/-- A record is valid for a channel. -/
def recordValid (c : Nat) (b : List Byte) (s : State) : Bool :=
  leNat (sliceBytes 0 4 b) == 0x524E5254 && leNat (sliceBytes 4 2 b) == 1 && leNat (sliceBytes 6 2 b) == c &&
  leNat (sliceBytes 0x10 8 b) == s.ob (0x3800 + stackOf c) 1 &&
  leNat (sliceBytes 0x1A 2 b) == (Config.trainingVersion (s.ob 0x1000 5)).toNat &&
  crc32c (b.take 508) == leNat (sliceBytes 508 4 b)

/-- The record used for a channel: of two valid copies the one with the higher sequence number modulo 2^32, otherwise the valid one. -/
def State.record (s : State) (c : Nat) : List Byte :=
  let a := s.recordCopy c false
  let b := s.recordCopy c true
  let seq (x : List Byte) : Nat := leNat (sliceBytes 8 4 x)
  let newer := decide (signed 32 (seq b + 2 ^ 32 - seq a) > 0)
  if recordValid c b s && (newer || !recordValid c a s) then b else a

/-- The settings a record holds: the word of a group, the lane delays, and the CA settings. -/
def recordGroup (b : List Byte) (g : Nat) : Nat := clampGroup (leNat (sliceBytes (0x40 + 8 * g) 5 b).reverse)
def recordLanes (b : List Byte) : Nat := clampLanes (leNat (sliceBytes 0xD0 288 b))
def recordCa (b : List Byte) : Nat := clampCa (leNat (sliceBytes 0x20 13 b ++ sliceBytes 0x30 2 b))

/-- A channel takes settings: the group words, the lane delays and the CA settings; the layers follow. -/
def takeSettings (c : Nat) (group : Nat → Nat) (lanes ca : Nat) (s : State) : State :=
  let i := chanIdx c
  let s := forEach (List.range 18) (fun g s =>
    layerVref c g (group g % 256) (s.setOb i (0x50 + g) (s.ob i (0x50 + g) / 2 ^ 40 * 2 ^ 40 + group g % 2 ^ 40))) s
  layMrwb c 0x12 (byteOf ca 13) ((s.setOb i 0x62 lanes).setOb i 0x63 ca)

/-- A channel has taken every setting of its record, with its width, its spare assignment and its failed groups. -/
def applyRecord (c : Nat) (b : List Byte) (s : State) : State :=
  let flags := leNat (sliceBytes 0x0C 4 b)
  let mask := leNat (sliceBytes 0x1C 4 b) % 2 ^ 18
  let s := takeSettings c (recordGroup b) (recordLanes b) (recordCa b) (s.setOb (chanIdx c) 0x49 (leNat (sliceBytes 8 4 b)))
  let t := leNat (sliceBytes 0x18 2 b)
  let s := s.modTr c fun x => { x with temp := if t = 0x8000 then none else some (signed 16 t) }
  takeFallback c mask (bits 7 6 flags) (if flags.testBit 5 then some (flags % 32) else none) s

/-- A confirmed step of restored training: every setting moves one tap nearer to the record (R303, R305). -/
def restoreStep (c : Nat) (s : State) : State :=
  let i := chanIdx c
  let b := s.record c
  if !recordValid c b s then s
  else
    let s := takeSettings c (fun g => stepBytes 5 (s.ob i (0x50 + g)) (recordGroup b g))
      (stepBytes 288 (s.ob i 0x62) (recordLanes b)) (stepBytes 15 (s.ob i 0x63) (recordCa b)) s
    s.modTr c fun t => { t with stepAt := s.now }

/-- A channel's record is due to be written. -/
def recordDue (c : Nat) (s : State) : State :=
  { s with nvm := { s.nvm with trainDue := if s.nvm.trainDue.contains c then s.nvm.trainDue else s.nvm.trainDue ++ [c] } }

/-- Some setting stands 4 or more taps or steps from the record. -/
def State.settingsMoved (s : State) (c : Nat) : Bool :=
  let old := s.record c
  let new := buildRecord c 0 s
  let far (k : Nat) : Bool := decide (4 ≤ ((old.getD k 0).toNat : Int) - ((new.getD k 0).toNat : Int)) ||
    decide (4 ≤ ((new.getD k 0).toNat : Int) - ((old.getD k 0).toNat : Int))
  ((List.range 0x12).any fun k => far (0x20 + k)) || (List.range (0x1F0 - 0x40)).any fun k => far (0x40 + k)

/-! ### Training at a start (R304–R306, R313, R314) -/

/-- A calibration bad outcome. -/
def calibrationBad (c : Nat) (s : State) : State := raise Ev.calibrationBad c 0 (s.bump (chanIdx c) 0x47)


/-- Once no stack trains in full, the first stack with channels that wait for it takes its turn. (DEDUCED, log 40) -/
def nextStack (s : State) : State :=
  if s.stacks_.any fun st => s.trainingFull st then s
  else
    let waits (st : Nat) : List Nat := (channelsOf st).filter fun c => (s.tr c).timeouts == waitingTurn
    match s.stacks_.find? fun st => !(waits st).isEmpty with
    | some st => forEach (waits st) (fun c s => beginTraining c true (s.modTr c fun t => { t with timeouts := 0 })) s
    | none => s

/-- Training ends in service, or in shadow state when software asked for it. -/
def trained (c source : Nat) (s : State) : State :=
  let i := chanIdx c
  let t := s.tr c
  let us := (s.now - t.began) / (1000 * nsT)
  let s := ((s.setOb i 0x40 3).setOb i 0x41 source).setOb i 0x48 (us % 2 ^ 32)
  let s := if t.asked then s.setChanState c 3 else s
  let temp := if source = 1 then t.temp else s.sheafTemp (sheafOf c)
  let s := s.modTr c fun t => { t with asked := false, timeouts := 0, roundAt := s.now, bad := [], temp := temp }
  let s := if (s.dch c).selfRef.isSome then s else freshRefresh c s
  nextStack (raise Ev.trainingDone c source s)

/-- A channel cannot be trained: it is declared UNREACHABLE (R209, R311). -/
def untrainable (c : Nat) (s : State) : State :=
  let s := s.setOb (chanIdx c) 0x40 4
  nextStack (failChannel c (s.modTr c fun t => { t with asked := false, timeouts := 0 }))

/-- A channel without the groups that it needs, or without its CA lanes: that is written to its record too (R311). -/
def lostFor (c mask : Nat) (s : State) : State := untrainable c (recordDue c (s.setOb (chanIdx c) 0x43 mask))

/-- A full training has found its settings: `words` are the 18 group words, `lanes` the lane delays, `ca` the CA settings, `bad` the
groups without a working setting, those that failed stage 8 in bits 35 to 18; stage 1 may have failed. (DEDUCED, log 40) -/
def fullDone (c : Nat) (words : List Nat) (lanes ca bad : Nat) (caOk : Bool) (s : State) : State :=
  let i := chanIdx c
  if s.ob i 0x40 != 2 || s.elapsed (s.tr c).began (500 * msT) then s
  else
    let mask := (bad ||| bad / 2 ^ 18 ||| (s.tr c).lost) % 2 ^ 18
    let s := forEach ((List.range 18).filter (bad / 2 ^ 18).testBit) (fun _ s => calibrationBad c s) s
    if !caOk then lostFor c mask s
    else match fallback mask with
      | none => lostFor c mask s
      | some (width, spare) =>
        let s := takeSettings c (fun g => clampGroup (words.getD g (s.ob i (0x50 + g)))) (clampLanes lanes) (clampCa ca) s
        trained c 2 (recordDue c (takeFallback c mask width spare s))

/-- A full training has had its 500 ms. -/
def trainingTimeout (c : Nat) (s : State) : State :=
  if s.ob (chanIdx c) 0x40 != 2 || !s.elapsed (s.tr c).began (500 * msT) then s
  else
    let s := calibrationBad c s
    if (s.tr c).timeouts = 0 then beginTraining c true (s.modTr c fun t => { t with timeouts := 1 })
    else untrainable c s

/-- Restored training gives way to full training. -/
def rejectRestore (c : Nat) (s : State) : State := wantFull c (raise Ev.restoreRejected c 0 (calibrationBad c s))

/-- Restored training of a channel ends: `ok` tells whether stage 8 passed. -/
def restoreDone (c : Nat) (ok : Bool) (s : State) : State :=
  if s.ob (chanIdx c) 0x40 != 1 then s
  else
    let b := s.record c
    if !recordValid c b s || !ok then rejectRestore c s else trained c 1 (applyRecord c b s)

/-- FULL_TRAINING_DONE. -/
def execFullTrainingDone (c : Nat) (words : List Nat) (lanes ca bad : Nat) (caOk : Bool) (s : State) : Res :=
  present (decide (c < s.channels)) (serveAll (fullDone c words lanes ca bad caOk s))

/-- TRAINING_TIMEOUT. -/
def execTrainingTimeout (c : Nat) (s : State) : Res := present (decide (c < s.channels)) (serveAll (trainingTimeout c s))

/-- RESTORED_TRAINING_DONE. -/
def execRestoredTrainingDone (c : Nat) (ok : Bool) (s : State) : Res :=
  present (decide (c < s.channels)) (serveAll (restoreDone c ok s))

/-! ### Rounds (R307–R311) -/

/-- The spare group is free to stand in. -/
def State.spareFree (s : State) (c : Nat) : Bool :=
  s.ob (chanIdx c) 0x42 == 0xFF && s.ob (chanIdx c) 3 == 0 && !(s.ob (chanIdx c) 0x43).testBit 17

/-- The groups a round retrains, the spare first when it stands in for none. -/
def State.roundGroups (s : State) (c : Nat) : List Nat :=
  let failed := s.ob (chanIdx c) 0x43
  let width := (s.tr c).width
  let mine := match width with | 0 => List.range 17 | 1 => List.range 8 ++ [16] | _ => (List.range 8).map (· + 8) ++ [16]
  let used := mine.filter fun g => !failed.testBit g
  if failed.testBit 17 then used
  else if s.ob (chanIdx c) 0x42 = 0xFF then 17 :: used else used ++ [17]

/-- The steering is to change at the next calibration reserve slot, if it is to change at all (R308). -/
def wantSteer (c : Nat) (g : Option Nat) (s : State) : State :=
  s.modTr c fun t => { t with steer := if t.offline = g then none else some g }

/-- The next group of a round is to go offline, if it can; with none left, the last carries its own bits again. -/
def groupOffline (c : Nat) (s : State) : State :=
  let s := s.modTr c fun t => { t with steps := [], before := [] }
  match (s.tr c).groups with
  | g :: _ => wantSteer c (if s.spareFree c && g != 17 then some g else none) s
  | [] => wantSteer c none s

/-- The sheaf temperature has drifted by 0x2030:02 or more since the last round began. -/
def State.drifted (s : State) (c : Nat) : Bool :=
  match s.sheafTemp (sheafOf c) with
  | some v => decide (4 * s.ob 0x2030 2 ≤ (v - (s.tr c).roundTemp).natAbs)
  | none => false

/-- A round is due. -/
def State.roundDue (s : State) (c : Nat) : Bool :=
  (s.tr c).late || s.elapsed (s.tr c).roundAt (s.ob 0x2030 1 * msT) || s.drifted c

/-- RETRAIN_ROUND_START: a round begins, or is counted as late while the previous one runs. -/
def roundStart (c : Nat) (s : State) : State :=
  let t := s.tr c
  if s.ob (chanIdx c) 0x40 != 3 || !s.stewardUp || !s.roundDue c then s
  else if t.round then
    if t.late then s else (s.modTr c fun t => { t with late := true }).bump (chanIdx c) 0x46
  else if !s.slotRuns c || t.margin.isSome then s
  else
    let temp := (s.sheafTemp (sheafOf c)).getD t.roundTemp
    let s := s.modTr c fun t =>
      { t with round := true, groups := s.roundGroups c, roundAt := s.now, roundTemp := temp, late := false }
    groupOffline c (s.setOb (chanIdx c) 0x44 s.setNs)

/-- A round ends: its record is written when some setting has moved far enough, at most once in 10 minutes (R316). -/
def roundEnd (c : Nat) (s : State) : State :=
  let s := groupOffline c ((s.modTr c fun t => { t with round := false, groups := [] }).bump (chanIdx c) 0x45)
  let quiet := match (s.tr c).recordAt with | some t => s.elapsed t (600 * secT) | none => true
  if quiet && s.settingsMoved c then recordDue c (s.modTr c fun t => { t with recordAt := some s.now }) else s

/-- The round goes on with the next group. -/
def nextGroup (c : Nat) (s : State) : State :=
  let s := s.modTr c fun t => { t with groups := t.groups.tail }
  if (s.tr c).groups.isEmpty then roundEnd c s else groupOffline c s

/-- Some groups carry a line while the spare group carries `p`. -/
def formsWith (mask p : Nat) (gs : List Nat) : Bool :=
  match badOf mask gs with
  | [] => true
  | [x] => x == p
  | _ => false

/-- What a channel falls back to while it keeps its permanent use of the spare group, and half width once it has it, until the next full
training (R313). -/
def fallbackKept (mask : Nat) (spare : Option Nat) (width : Nat) : Option (Nat × Option Nat) :=
  match spare with
  | none => fallback mask
  | some p =>
    if mask.testBit 17 then fallback mask
    else if width = 0 && formsWith mask p (List.range 17) then some (0, some p)
    else if formsWith mask p (List.range 8 ++ [16]) then some (1, some p)
    else if formsWith mask p ((List.range 8).map (· + 8) ++ [16]) then some (2, some p)
    else none

/-- A group has no working setting: the fallback that applies (R311). -/
def groupLost (c g : Nat) (s : State) : State :=
  let mask := s.ob (chanIdx c) 0x43 ||| 2 ^ g
  match fallbackKept mask (s.spareGroup c) (s.tr c).width with
  | none => lostFor c mask (abandonRound c s)
  | some (width, spare) =>
    let s := takeFallback c mask width spare s
    let s := s.modTr c fun t => { t with groups := t.groups.filter fun k => k == g || (s.roundGroups c).contains k }
    recordDue c s

/-- A round's result of a group is not working: three in a row on a live group leave it without a working setting (R309). -/
def groupBad (c g : Nat) (s : State) : State :=
  let k := look 0 g (s.tr c).bad + 1
  let s := s.modTr c fun t => { t with bad := put 0 g k t.bad }
  if 3 ≤ k then groupLost c g (s.modTr c fun t => { t with bad := put 0 g 0 t.bad }) else s

/-- A group of a round is live: no other carries its bits, and it carries some. -/
def State.liveGroup (s : State) (c g : Nat) : Bool := (s.tr c).offline.isNone && !(g == 17 && s.spareFree c)

/-- The steps that bring a group to new centres, from where it stands: read Vref, write Vref, the 16 delays of its lanes and, from a group
trained alone, its read DQS delay. A live group goes no farther than 8 taps and 4 steps (R308, R309). -/
def State.stepsTo (s : State) (c g rv wv : Nat) (delays : List Nat) : List (Nat × Nat × Nat) :=
  let lanes := (List.range 8).flatMap fun i => [(5, 8 * g + i, delays.getD i 0), (6, 8 * g + i, delays.getD (8 + i) 0)]
  let dqs := match delays[16]? with | some v => [(1, g, v)] | none => []
  let bound (p : Nat × Nat × Nat) : Nat × Nat × Nat :=
    let v := s.setting c p.1 p.2.1
    let d := if p.1 = 3 || p.1 = 4 then 4 else 8
    (p.1, p.2.1, min (settingMax p.1) (if s.liveGroup c g then max (v - d) (min (v + d) p.2.2) else p.2.2))
  (([(3, g, rv), (4, g, wv)] ++ lanes ++ dqs).map bound).filter fun p => s.setting c p.1 p.2.1 != p.2.2

/-- The step under way is written: its setting moves one tap (R303). -/
def writeStep (c : Nat) (s : State) : State :=
  match (s.tr c).steps with
  | [] => s
  | (code, inst, goal) :: _ =>
    let v := s.setting c code inst
    let v' := if v < goal then v + 1 else if goal < v then v - 1 else v
    let s := setSetting c code inst v' s
    let s := if code = 4 then layerVref c inst v' s else s
    s.modTr c fun t => { t with stepAt := s.now }

/-- A group's new centres stand: the round goes on, and the group counts as working. -/
def centresDone (c g : Nat) (s : State) : State := nextGroup c (s.modTr c fun t => { t with bad := put 0 g 0 t.bad })

/-- New centres are applied one tap at a time (R303); with nothing to move the group is done. -/
def applyCentres (c g rv wv : Nat) (delays : List Nat) (s : State) : State :=
  let steps := s.stepsTo c g rv wv delays
  let i := chanIdx c
  if steps.isEmpty then centresDone c g s
  else writeStep c (s.modTr c fun t =>
    { t with steps := steps, before := [(0x50 + g, s.ob i (0x50 + g)), (0x62, s.ob i 0x62)] })

/-- GROUP_RETRAIN_DONE: the sweep of a group ends: 0 working, 1 working after training alone, 2 not working, 3 not working because stage 8
of its training alone failed. (DEDUCED, log 40) -/
def groupDone (c outcome rv wv : Nat) (delays : List Nat) (s : State) : State :=
  let t := s.tr c
  match t.groups with
  | [] => s
  | g :: _ =>
    if !t.round || !t.steps.isEmpty || t.steer.isSome || !s.stewardUp then s
    else if outcome = 0 then applyCentres c g rv wv (delays.take 16) s
    else if t.offline.isSome || (g = 17 && s.spareFree c) then
      if outcome = 1 then applyCentres c g rv wv delays s
      else nextGroup c (groupLost c g (if outcome = 3 then calibrationBad c s else s))
    else nextGroup c (groupBad c g s)

/-- TAP_STEP_CONFIRMED: the step under way of a channel's settings has been confirmed by a passing burst, and the next is written; in restored
training every setting steps at once. (DEDUCED, log 40) -/
def tapConfirmed (c : Nat) (s : State) : State :=
  if s.ob (chanIdx c) 0x40 = 1 then restoreStep c s
  else match (s.tr c).steps with
    | [] => s
    | (code, inst, goal) :: rest =>
      if !s.stewardUp then s
      else
        let left := if s.setting c code inst = goal then rest else (code, inst, goal) :: rest
        let s := s.modTr c fun t => { t with steps := left }
        if left.isEmpty then centresDone c ((s.tr c).groups.headD 0) s else writeStep c s

/-- How long a step may take to be confirmed. -/
def stepLimit : Nat := 50 * 1000 * nsT

/-- STEP_TIMEOUT: a step is not confirmed: of restored training, of a group in full training, or of a round (R310, R314). -/
def stepTimeout (c g : Nat) (s : State) : State :=
  let t := s.tr c
  let i := chanIdx c
  if !s.elapsed t.stepAt stepLimit then s
  else if s.ob i 0x40 = 1 then rejectRestore c s
  else if s.ob i 0x40 = 2 then
    if 18 ≤ g then lostFor c (s.ob i 0x43) (calibrationBad c s)
    else calibrationBad c (s.modTr c fun t => { t with lost := t.lost ||| 2 ^ g, stepAt := s.now })
  else if t.steps.isEmpty || !s.stewardUp then s
  else
    let s := calibrationBad c (forEach t.before (fun p s => s.setOb i p.1 p.2) s)
    match t.groups with
    | h :: _ =>
      let s := layerVref c h (s.setting c 4 h) s
      nextGroup c (groupBad c h (s.modTr c fun t => { t with steps := [] }))
    | [] => s.modTr c fun t => { t with steps := [] }

/-- RETRAIN_ROUND_START. -/
def execRetrainRoundStart (c : Nat) (s : State) : Res := present (decide (c < s.channels)) (roundStart c s)

/-- GROUP_RETRAIN_DONE. -/
def execGroupRetrainDone (c outcome rv wv : Nat) (delays : List Nat) (s : State) : Res :=
  present (decide (c < s.channels)) (groupDone c outcome rv wv delays s)

/-- TAP_STEP_CONFIRMED. -/
def execTapStepConfirmed (c : Nat) (s : State) : Res := present (decide (c < s.channels)) (tapConfirmed c s)

/-- STEP_TIMEOUT. -/
def execStepTimeout (c g : Nat) (s : State) : Res := present (decide (c < s.channels)) (serveAll (stepTimeout c g s))

/-! ### Margining (R317, R318) and a new training on request (R313) -/

/-- Whether a margin request is refused. -/
def State.marginRefused (s : State) (c v : Nat) : Bool :=
  let p := bits 31 28 v
  let g := bits 27 23 v
  let lane := bits 19 16 v
  let ca := p == 4 || p == 5
  let st := s.chanState c
  v / 2 ^ 32 != 0 || bits 22 20 v != 0 || 5 < p || 17 < g || v % 2 ^ 16 < 16 || (ca && g != 0) ||
  !(lane == 15 || decide (lane ≤ if p == 4 then 12 else 7)) ||
  (ca && s.power.node != .config && st != 3) ||
  (!ca && st == 0 && (s.ob (chanIdx c) 0x42 != 0xFF || s.ob (chanIdx c) 3 == 1)) || st == 2 || st == 6

/-- 0x4000+c:4A. -/
def marginHome (c v : Nat) : Home := fun _ s =>
  if s.marginRefused c v then .denied (s.setOb (chanIdx c) 0x4B (2 * 2 ^ 24))
  else if (s.tr c).round || (s.tr c).margin.isSome then .refused St.retry 0 s
  else
    let g := bits 27 23 v
    let st := s.chanState c
    let live := bits 31 28 v < 4 && st == 0 && g != 17
    let s := s.modTr c fun t => { t with margin := some ⟨v, s.now⟩ }
    .done ((if live then wantSteer c (some g) s else s).setOb (chanIdx c) 0x4B (2 ^ 24))

/-- MARGIN_REQUEST. -/
def execMarginRequest (r : Req) (c value : Nat) (s : State) : Res :=
  .next (dictWrite r (chanIdx (c % 4096)) 0x4A (leBytes 8 value) (marginHome (c % 4096) (value % 2 ^ 64)) s)

/-- The setting a margin request sweeps, and the instances it sweeps: one lane of the group, or all of them (R317). -/
def marginCode (v : Nat) : Nat := [5, 6, 3, 4, 7, 8].getD (bits 31 28 v) 8
def marginInsts (v : Nat) : List Nat :=
  let code := marginCode v
  let g := bits 27 23 v
  let lane := bits 19 16 v
  if code = 5 || code = 6 then (if lane = 15 then (List.range 8).map fun i => 8 * g + i else [8 * g + lane])
  else if code = 7 then (if lane = 15 then List.range 13 else [lane])
  else if code = 8 then [0] else [g]

/-- The most steps a sweep can pass below and above a centre: those to the limits of R300. -/
def State.marginRoom (s : State) (c v : Nat) : Nat × Nat :=
  let centres := (marginInsts v).map fun i => s.setting c (marginCode v) i
  (centres.foldl max 0, settingMax (marginCode v) - centres.foldl min (settingMax (marginCode v)))

/-- How long a point of a margin request may take: 50 µs for each 16 bursts (R318). -/
def marginLimit (v : Nat) : Nat := (v % 2 ^ 16 + 15) / 16 * 50 * 1000 * nsT

/-- MARGIN_DONE: the sweep ends: passing steps below and above the centre, the worst lane, bursts in error, and whether it timed
out, which no point does before its time. (DEDUCED, log 40) -/
def marginDone (c low high worst errors : Nat) (late : Bool) (s : State) : State :=
  match (s.tr c).margin with
  | none => s
  | some m =>
    let out := late && s.elapsed m.began (marginLimit m.word)
    let room := s.marginRoom c m.word
    let w := errors % 2 ^ 32 * 2 ^ 32 + (if out then 3 else 0) * 2 ^ 24 + worst % 256 * 2 ^ 16 + min room.2 high * 2 ^ 8 + min room.1 low
    raise Ev.marginDone c 0 (wantSteer c none ((s.modTr c fun t => { t with margin := none }).setOb (chanIdx c) 0x4B w))

/-- MARGIN_DONE. -/
def execMarginDone (c low high worst errors : Nat) (late : Bool) (s : State) : Res :=
  present (decide (c < s.channels)) (marginDone c low high worst errors late s)

/-- 0x4000+c:4C: a channel declared failed is trained in full, once it has left self-refresh (R205, R304, R313). -/
def retrainHome (c : Nat) : Home := fun _ s =>
  if s.chanState c != 2 then .denied s
  else
    let s := (s.modTr c fun t => { t with asked := true, timeouts := 0 }).setOb (chanIdx c) 0x40 0
    .done (if (s.dch c).selfRef.isSome then s else wantFull c s)

/-- RETRAIN_REQUEST. -/
def execRetrainRequest (r : Req) (c : Nat) (s : State) : Res :=
  .next (dictWrite r (chanIdx (c % 4096)) 0x4C [1] (retrainHome (c % 4096)) s)

end Sys2Proof.Machine
end

