-- ==== Sys2Proof/Machine/FarRows.lean ====
section
/-!
DEFINITION. The commands of the far-tier port (R351, R356–R363): bale reads and writes that return, transfers, the bale
ledger, and the port's going down and return.
-/
namespace Sys2Proof.Machine

/-! ### Whole granules -/

/-- Every line of a granule of this node is written with a fill code; a line of a retired row is written where it lives. -/
def fillGranule (a code : Nat) (s : State) : State :=
  let home := homeChan a
  let c := s.servedBy home
  let block := adOffset a / 2 ^ 21
  let s := fillRows c block code s
  if c != home then s
  else
    let rows := ((s.retirements (stackOf c)).map fun p => (retSource (stackOf c) p.2, retTarget (stackOf c) p.2)).filter
      fun p => p.1.1 == c && p.1.2.2.2 / 8 == block
    forEach rows (fun p s =>
      let (_, l, bank, row) := p.1
      forEach (List.range 8) (fun i s =>
        let k := s.cellLine p.2.1 l bank p.2.2 i
        { s with dram := writePhys s.dram k (filledLine (offsetOf row l bank i) code) }) s) s

/-! ### Devices (R351) -/

/-- The port is up once the ledger stands and a device is attached, off otherwise (R51, R363). (DEDUCED, log 49) -/
def openFar (s : State) : State :=
  s.setOb 0x5C00 1 (if s.far.zeroing || s.ob 0x5C00 2 = 0 || s.ledgerBase.isNone then 0 else 1)

/-- 0x5C01+i: a table of devices whose attached capacity would exceed 2 TiB is refused. -/
def deviceHome (i sub v : Nat) : Home := fun _ s =>
  if sub = 1 then .done (s.setOb (0x5C01 + i) 1 v)
  else
    let total := (List.range 8).foldl (fun n j => n + if j = i then dataBytes v else s.ob (0x5C01 + j) 3) 0
    if 2 ^ 41 < total then .denied s
    else
      let s := ((s.setOb (0x5C01 + i) 2 v).setOb (0x5C01 + i) 3 (dataBytes v)).setOb 0x5C00 2 total
      .done (if s.farState = 2 then s else openFar s)

/-! ### The ledger (R363) -/

/-- A reader of a bale finds the port out of service. -/
def dropReader (status : Nat) (r : FarReader) (s : State) : State :=
  match r with
  | .ask id _ => finish id status none s
  | .restore c num _ _ => endRestore c num none s
  | .merge => s
  | .part id _ _ _ => finish id status none s
  | .transfer n => s.setFar { s.far with transfers := s.far.transfers.map fun t => if t.num == n then { t with failed := true } else t }

/-- What the port holds for others ends with a status, and running transfers fail. (DEDUCED, log 49) -/
def emptyPort (status : Nat) (s : State) : State :=
  let s := forEach s.far.bales (fun x s =>
    let s := forEach x.readers (dropReader status) s
    forEach x.waits (fun w s => endFarWrite w.1 w.2 status s) s) s
  let s := forEach s.far.waiting (fun w s => match w with
    | .write w => endFarWrite w.ask w.backing status s
    | .read _ _ r => dropReader status r s) s
  let fail (t : Transfer) : Transfer := if t.running then { t with failed := true } else t
  s.setFar { s.far with bales := [], waiting := [], transfers := s.far.transfers.map fail }

/-- The block begins to write the whole ledger to 0; the port is off until it ends, and nothing it held can be read again. (DEDUCED,
log 49) -/
def startLedgerZero (s : State) : State :=
  let s := emptyPort St.unitOff s
  (s.setFar { s.far with zeroing := true, lost := [] }).setOb 0x5C00 1 0

/-- 0x5C00:05. -/
def baleKeyHome (v : Nat) : Home := fun _ s =>
  if s.ob 0x5C00 5 = v then .done s else .done (startLedgerZero (s.setOb 0x5C00 5 v))

/-- The ledger has been zeroed, and the port may serve traffic. (DEDUCED, log 49) -/
def ledgerZeroed (s : State) : State :=
  if !s.far.zeroing then s
  else
    let s := match s.validRegions.find? fun p => p.2.isLedger s with
      | some p => forEach (List.range p.2.len) (fun g s => fillGranule (granuleAddr p.2.far (p.2.base + g)) 3 s) s
      | none => s
    openFar (s.setFar { s.far with zeroing := false })

/-- LEDGER_ZEROING_DONE. -/
def execLedgerZeroingDone (s : State) : Res := .next (ledgerZeroed s)

/-! ### Transfers (R360–R362) -/

/-- Fields of a transfer's descriptor. -/
def Transfer.word (t : Transfer) (i : Nat) : Nat := t.words.getD i 0
def Transfer.restores (t : Transfer) : Bool := bits 63 62 (t.word 0) == 1
def Transfer.cls (t : Transfer) : Nat := bits 61 58 (t.word 0)
def Transfer.ctx (t : Transfer) : Nat := bits 57 52 (t.word 0)
def Transfer.world (t : Transfer) : Bool := bit 51 (t.word 0)
/-- The in-package address and the bale of the bale under way. -/
def Transfer.inBase (t : Transfer) : Nat := bits 40 14 (t.word 0) * 16384
def Transfer.at_ (t : Transfer) : Nat := t.inBase + 16384 * t.bales
def Transfer.farBase (t : Transfer) : Nat := bits 43 14 (t.word 1) * 16384
def Transfer.bale (t : Transfer) : Nat := baleOf (t.farBase % 2 ^ 41) + t.bales
def Transfer.count (t : Transfer) : Nat := bits 63 40 (t.word 3) + 1
def Transfer.ended (t : Transfer) : Bool := t.failed || decide (t.count ≤ t.bales)

def State.modTransfer (s : State) (n : Nat) (f : Transfer → Transfer) : State :=
  s.setFar { s.far with transfers := s.far.transfers.map fun t => if t.num == n then f t else t }
def State.transfer? (s : State) (n : Nat) : Option Transfer := s.far.transfers.find? fun t => t.num == n

/-- The granules that a range of bytes meets. -/
def granulesOf (base len : Nat) : List Nat :=
  let first := base / 2 ^ 21
  (List.range ((base + len - 1) / 2 ^ 21 - first + 1)).map (first + ·)

/-- The reason a descriptor is refused for, 0 for none (R361). Step 6 of R53 is made on the in-package lines of an eviction; what a bale of
the far tier holds is not known before it is read. (DEDUCED, log 65) -/
def State.transferReason (s : State) (t : Transfer) : Nat :=
  let len := 16384 * t.count
  let dir := bits 63 62 (t.word 0)
  let rsvd := decide (2 ≤ dir) || bits 50 41 (t.word 0) != 0 || bits 13 0 (t.word 0) != 0 || bits 63 44 (t.word 1) != 0 ||
    bits 13 0 (t.word 1) != 0 || bits 29 17 (t.word 2) != 0 || bits 39 17 (t.word 3) != 0
  let far := t.farBase % 2 ^ 41
  let inside := decide (adNode t.inBase = s.me) && decide (t.inBase % 2 ^ 38 + len ≤ s.cfg.nstacks * 2 ^ 36) &&
    decide (t.farBase / 2 ^ 41 = s.me) && decide (far + len ≤ s.ob 0x5C00 2)
  let near := (granulesOf t.inBase len).map fun g => granuleAddr false g
  let away := (granulesOf t.farBase len).map fun g => granuleAddr true g
  let can (op : AccessOp) (l : List Nat) : Bool := l.all fun a => (accessStatus op t.world t.ctx none a s).isNone
  let plain := (List.range (128 * t.count)).all fun i => match s.lineNow (t.inBase + 128 * i) with
    | some l => l.2.testBit 9 == s.sealedAt (t.inBase + 128 * i)
    | none => true
  if rsvd then 1
  else if !inside then 2
  else if t.restores then (if can .read away && can .write near then 0 else 3)
  else if can .read near && plain && can .write away then 0 else 3

/-- 0x5C10:02 follows the queue. -/
def showTransfers (s : State) : State := s.setOb 0x5C10 2 s.far.transfers.length

/-- 0x5C10:01; the port holds 64 descriptors, queued or running (R360, R365). (DEDUCED, log 49) -/
def transferHome (value : List Byte) : Home := fun _ s =>
  let w := leNat value
  let words := (List.range 4).map fun i => w / 2 ^ (64 * i) % 2 ^ 64
  let t : Transfer := ⟨s.far.nextTransfer, words, false, 0, [], 0, 0, false⟩
  let why := s.transferReason t
  let s := s.setOb 0x5C10 4 why
  if why != 0 then .denied s
  else if 64 ≤ s.far.transfers.length then .refused St.retry 0 s
  else .done (showTransfers
    (s.setFar { s.far with transfers := s.far.transfers ++ [t], nextTransfer := t.num + 1 }))

/-- TRANSFER_SUBMIT. -/
def execTransferSubmit (r : Req) (value : List Byte) (s : State) : Res :=
  .next (dictWrite r 0x5C10 1 value (transferHome value) s)

/-- 0x5C10:03 shows a transfer. -/
def showLast (code : Nat) (t : Transfer) (s : State) : State := s.setOb 0x5C10 3 (code * 2 ^ 24 + t.bales % 2 ^ 24)

/-- A spill takes a line that has been read, as it stands. -/
def takeSpilled (n i : Nat) (l : Nat × Nat) (s : State) : State :=
  s.modTransfer n fun t => { t with got := put none i (some l) t.got, waiting := t.waiting - 1 }

/-- A finished request of a transfer: a line read or written. One answered RETRY_LATER is offered again. -/
def endTransferAsk (q : Ask) (s : State) : State :=
  let taken (s : State) : State := retire q.id (s.modAsk q.id fun b => { b with delivered := true })
  match q.result with
  | none => s
  | some (st, data) =>
    if st = St.retry then s.modAsk q.id fun b => { b with stage := .offered, result := none }
    else match q.why with
      | .transferRead n i =>
        taken (takeSpilled n i (if st = St.ok then (data.getD 0, q.info) else (0, poisonInfo)) s)
      | .transferWrite n _ =>
        let s := if st = St.ok then s else s.modAsk q.id fun b => { b with confirmed := true }
        taken (s.modTransfer n fun t => { t with waiting := t.waiting - 1 })
      | _ => s

/-- A transfer's next step for the bale it is at. -/
def stepTransfer (n : Nat) (s : State) : State :=
  match s.transfer? n with
  | none => s
  | some t =>
    if !t.running || t.ended || !s.farUp then s
    else match s.ledgerEntry t.bale with
      | .lost => (noteLost t.bale s).modTransfer n fun t => { t with failed := true }
      | .version v =>
        if t.restores then
          (match t.stage with
            | 0 =>
              if !s.farRoom t.bale || !s.farFirst t.bale then s else
              let s := s.modTransfer n fun t => { t with stage := 1 }
              (match s.bale? t.bale with
                | some x =>
                  if !x.readers.isEmpty then waitBale t.bale (.transfer n) s
                  else if x.full then endTransferRead n (fun i => (look none i x.lines).getD (0, poisonInfo)) s
                  else if v = 0 then endTransferRead n (fun i => (look none i x.lines).getD (0, poisonInfo)) s
                  else waitBale t.bale (.transfer n) s
                | none => if v = 0 then endTransferRead n (fun _ => (0, poisonInfo)) s else waitBale t.bale (.transfer n) s)
            | 1 =>
              if t.got.isEmpty then s
              else
                let s := s.modTransfer n fun t => { t with stage := 2, waiting := 128 }
                forEach (List.range 128) (fun i s =>
                  let l := (look none i t.got).getD (0, poisonInfo)
                  offerInternal 0x20 t.cls t.ctx t.world (t.at_ + 128 * i) (.put l.1 l.2) (.transferWrite n i) s) s
            | _ =>
              if t.waiting = 0 then (count farBank 6 1 s).modTransfer n fun t => { t with bales := t.bales + 1, got := [], stage := 0 } else s)
        else
          (match t.stage with
            | 0 =>
              let s := s.modTransfer n fun t => { t with stage := 1, waiting := 128 }
              forEach (List.range 128) (fun i s =>
                offerInternal 0x20 t.cls t.ctx t.world (t.at_ + 128 * i) .read (.transferRead n i) s) s
            | 1 =>
              if t.waiting != 0 || !s.farCanTake t.bale || !s.farInOrder t.bale || !s.farFirst t.bale then s
              else if v = exhausted then
                (raiseNode Ev.baleVersionExhausted t.bale s).modTransfer n fun t =>
                  { t with bales := t.bales + 1, got := [], stage := 0 }
              else
                let s := (takeBale t.bale s).modBale t.bale fun x => { x with lines := t.got, dirty := true, mergedAt := s.now }
                writeBale t.bale (s.modTransfer n fun t => { t with stage := 2 })
            | _ => s)

/-- Running transfers go on, and what they show follows. -/
def pumpTransfers (s : State) : State :=
  let mine (q : Ask) : Bool := match q.why with | .transferRead _ _ => true | .transferWrite _ _ => true | _ => false
  let s := forEach (s.path.asks.filter fun q => mine q && q.stage == .finished && !q.delivered) endTransferAsk s
  let s := forEach (s.far.transfers.filter (·.running)) (fun t s => stepTransfer t.num s) s
  forEach (s.far.transfers.filter (·.running)) (fun t s => showLast 1 t s) s

/-- Everything that goes on by itself, transfers included. -/
def pumpFar (s : State) : State := pump (pumpTransfers (writeFull (drainFar s)))

/-- The oldest queued transfer starts, once its wait object meets its threshold and fewer than 4 run (R362). `held` is the value
of an object of another node. (DEDUCED, log 49) -/
def startTransfer (held : Nat) (s : State) : State :=
  match s.far.transfers.find? fun t => !t.running with
  | none => s
  | some t =>
    let o := bits 16 0 (t.word 2)
    let v := if syncNode o = s.me then syncValue (s.syncState (syncIndex o)) else held
    let ready := !bit 31 (t.word 2) || decide (bits 63 32 (t.word 2) ≤ v)
    if !s.farUp || !ready || 4 ≤ (s.far.transfers.filter (·.running)).length then s
    else pumpFar (showLast 1 t (s.modTransfer t.num fun t => { t with running := true }))

/-- TRANSFER_START. -/
def execTransferStart (held : Nat) (s : State) : Res := .next (startTransfer held s)

/-- A transfer has ended: it signals its object, and its status is shown. (DEDUCED, log 49) -/
def endTransfer (num : Nat) (s : State) : State :=
  match s.transfer? num with
  | none => s
  | some t =>
    if !t.running || !t.ended then s
    else
      let s := showTransfers (s.setFar { s.far with transfers := s.far.transfers.filter fun t => t.num != num })
      let s := if t.failed then raiseCtx Ev.transferFailed 0xFFFF t.ctx t.bales s else s
      let s := showLast (if t.failed then 2 else 0) t s
      let w := t.word 2
      if bit 30 w then signalObject 0x20 (bits 16 0 (t.word 3)) 1 t.ctx t.world false s else s

/-- TRANSFER_DONE. -/
def execTransferDone (num : Nat) (s : State) : Res := .next (serveAll (endTransfer num (pumpTransfers s)))

/-! ### Bales that come back (R356–R358) -/

/-- COALESCE_AGE_EXPIRY. -/
def execCoalesceAgeExpiry (s : State) : Res := .next (pumpFar (coalesceAged s))

/-- BALE_WRITE_DONE: `ok` when every device write completed NDR. -/
def execBaleWriteDone (bale : Nat) (ok : Bool) (s : State) : Res :=
  .next (pumpFar (if ok then baleWritten bale s else baleStale bale s))

/-- A bale read under way. -/
def State.baleReading (s : State) (b : Nat) : Bool :=
  match s.bale? b with | some x => !x.readers.isEmpty && x.tries != 0 | none => false

/-- A bale read returned what its device does not hold: it fails to verify (R353, R357). -/
def baleAltered (b : Nat) (s : State) : State :=
  let s := count farBank 2 baleDeviceBytes (count farBank 0 1 (s.bump 0x5C00 6))
  doneReaders b (failReader b) (raiseNode Ev.baleAuthFailed b (count farBank 5 1 (s.bump 0x5C00 9)))

/-- BALE_READ_DONE: 0 the bale as its device holds it, 1 a DRS with poison or a completion error, 2 altered data. -/
def execBaleReadDone (bale outcome : Nat) (s : State) : Res :=
  .next (if !s.baleReading bale then s
    else pumpFar (match outcome with | 0 => baleArrived bale s | 1 => baleReadError bale s | _ => baleAltered bale s))

/-- BALE_READ_TIMEOUT: no completion within 100 µs. (DEDUCED, log 49) -/
def execBaleReadTimeout (bale : Nat) (s : State) : Res :=
  let late := match s.bale? bale with | some x => s.elapsed x.readAt (100 * usTicks) | none => false
  .next (if s.baleReading bale && late then pumpFar (baleReadError bale s) else s)

/-! ### The port (R363) -/

/-- The port goes down: bales it has not written, and those of backing writes it has not taken, are left stale; what it holds for others
completes UNREACHABLE, and running transfers fail. (DEDUCED, log 49) -/
def farDown (s : State) : State :=
  if !s.farUp then s
  else
    let s := raiseNode Ev.farPortDown 0 (s.setOb 0x5C00 1 2)
    let stale := (s.far.bales.filter fun x => x.dirty || x.writing).map (·.num)
    let missed := (s.far.waiting.filterMap fun w => match w with
      | .write w => if w.backing then some w.bale else none
      | .read _ _ _ => none).eraseDups
    let s := forEach (stale ++ missed.filter fun b => !stale.contains b) (fun b s =>
      let s := match s.bale? b with
        | some x => forEach x.readers (dropReader St.unreachable) s
        | none => s
      markStale b s) s
    let s := emptyPort St.unreachable s
    pump (s.setFar { s.far with rejoin := false })

/-- FAR_PORT_DOWN. -/
def execFarPortDown (s : State) : Res := .next (farDown s)

/-- 0x5C00:0D: DENIED unless the port is down. -/
def farRejoinHome : Home := fun _ s =>
  if s.farState = 2 then .done ((s.setFar { s.far with rejoin := true }).armRejoin 0x900) else .denied s

/-- FAR_PORT_REJOIN. -/
def execFarPortRejoin (r : Req) (s : State) : Res := .next (dictWrite r 0x5C00 0x0D [1] farRejoinHome s)

/-- At the next tide an armed port returns. -/
def joinFar (f : Nat) (s : State) : State :=
  if !s.far.rejoin || !s.rejoinDue 0x900 f then s
  else
    let s := s.setFar { s.far with rejoin := false }
    if s.farState != 2 then s
    else
      let s := openFar s
      if s.ob 0x5C00 1 = 1 then pumpFar (raiseNode Ev.farPortUp 0 s) else s

end Sys2Proof.Machine
end

