-- ==== Sys2Proof/Machine/Clocks.lean ====
section
/-!
DEFINITION. Clock sources, domains and monitors, the slack monitor, oscillator trimming, clock enables and domain crossings
(R394–R410).
-/
namespace Sys2Proof.Machine

def State.setClk (s : State) (k : Clocks) : State := { s with clk := k }

/-! ### Sources (R397, R398) -/

/-- Sources by the monitor number of R404. -/
abbrev srcRefA : Nat := 1
abbrev srcRefB : Nat := 2
abbrev srcFo : Nat := 3
abbrev srcKfo : Nat := 4
abbrev srcKso : Nat := 5
abbrev srcKeeperPll : Nat := 6
abbrev srcCxl : Nat := 7
def srcSheaf (u : Nat) : Nat := 0x10 + u
def srcHead (h : Nat) : Nat := 0x30 + h

/-- Sheaves of the node. -/
def State.sheaves (s : State) : Nat := 8 * s.cfg.nstacks

/-- A source or monitor of the node. -/
def State.isSource (s : State) (m : Nat) : Bool :=
  (decide (1 ≤ m) && decide (m ≤ 7)) || (decide (0x10 ≤ m) && decide (m < 0x10 + s.sheaves)) ||
  (decide (0x30 ≤ m) && decide (m < 0x34))

def State.source (s : State) (m : Nat) : SourceState := look .off m s.clk.sources
def State.stable (s : State) (m : Nat) : Bool := s.source m == .stable
def State.setSource (s : State) (m : Nat) (x : SourceState) : State :=
  s.setClk { s.clk with sources := put .off m x s.clk.sources }

/-- The time a source takes to become stable, counted from its start: a fixed number of its own nominal cycles, and for a PLL the
4,096 reference cycles its lock is held. -/
def stableTime (m : Nat) : Nat :=
  match m with
  | 1 => 163840 * nsT
  | 2 => 655360 * nsT
  | 3 => 10240 * nsT
  | 4 => 20480 * nsT
  | 5 => 4000000 * nsT
  | 6 => 163840 * nsT
  | 7 => 0
  | _ => 40960 * nsT

/-- When a source that is to become stable began to count: since its start, or since it last restarted after a trip. -/
def SourceState.since : SourceState → Option Nat
  | .counting t => some t
  | .tripped t => some t
  | _ => none

/-! ### Domains (R397, R402) -/

/-- The clock word of a sheaf's domain: divider and source, 0 stopped, 1 FO, 2 sheaf PLL, 3 gated. -/
def State.domain (s : State) (u : Nat) : Nat := s.ob 0xB010 (u + 1)
def setDomain (u src div : Nat) (s : State) : State :=
  (s.setClk { s.clk with stepped := put 0 u s.now s.clk.stepped, waiting := put none u none s.clk.waiting }).setOb 0xB010 (u + 1)
    (256 * div + src)

/-- The channels of a sheaf. -/
def sheafChannels (u : Nat) : List Nat := (List.range 9).map fun k => 9 * u + k

/-- A domain has moved to its fallback. -/
def fellBack (inst : Nat) (s : State) : State := raise Ev.clockFallback inst 0 s

/-- A running domain of a sheaf loses its source and moves to the other one: at once when that is stable, otherwise it is held
gated (R405, R406). The PLL takes over from FO at divider 6. -/
def sheafFallback (u : Nat) (s : State) : State :=
  let src := s.domain u % 256
  if src = 2 then
    if s.stable srcFo then fellBack u (setDomain u 1 1 s)
    else
      let s := setDomain u 3 0 s
      s.setClk { s.clk with waiting := put none u (some s.now) s.clk.waiting }
  else if src = 1 then
    if s.stable (srcSheaf u) then fellBack u (setDomain u 2 6 s)
    else
      let s := setDomain u 3 0 s
      s.setClk { s.clk with waiting := put none u (some s.now) s.clk.waiting }
  else s

/-- The domain number of the Keeper, and its clock source: 0 Keeper PLL, 1 KFO, 2 KSO. -/
abbrev keeperDomain : Nat := 64
def State.keeperSource (s : State) : Nat := s.ob 0xB001 1
def setKeeper (src div : Nat) (s : State) : State :=
  (s.setClk { s.clk with keeperDiv := div, stepped := put 0 keeperDomain s.now s.clk.stepped
                         waiting := put none keeperDomain none s.clk.waiting }).setOb 0xB001 1 src

/-- The Keeper loses its source: KFO, then KSO, then whatever becomes stable first (R397, R406). (DEDUCED, log 42) -/
def keeperFallback (s : State) : State :=
  let src := s.keeperSource
  if src != 1 && s.stable srcKfo then fellBack 3 (setKeeper 1 1 s)
  else if src == 1 && s.stable srcKeeperPll then fellBack 3 (setKeeper 0 5 s)
  else if s.stable srcKso && src != 2 then fellBack 3 (setKeeper 2 1 s)
  else s.setClk { s.clk with waiting := put none keeperDomain (some s.now) s.clk.waiting }

/-- A domain has waited, gated, for a source since a trip. -/
def State.waits (s : State) (d : Nat) : Bool := (look none d s.clk.waiting).isSome

/-! ### A source becomes stable (R398, R399, R405, R406) -/

/-- PLLs referenced to sv_ref_a are enabled; so is the Keeper PLL when sv_ref_b is absent. -/
def enablePlls (s : State) : State :=
  let start (m : Nat) (s : State) : State :=
    match s.source m with
    | .off => s.setSource m (.counting s.now)
    | _ => s
  let s := forEach ((List.range s.sheaves).map srcSheaf ++ (List.range 4).map srcHead) start s
  if s.stable srcRefB then s else start srcKeeperPll s

/-- A sheaf PLL is stable: a gated domain starts on it, and a domain that fell back to FO returns. -/
def sheafPllStable (u : Nat) (s : State) : State :=
  let back := look 0 u s.clk.pllTrip != 0
  let s := s.setClk { s.clk with pllTrip := put 0 u 0 s.clk.pllTrip }
  if s.waits u then
    let s := setDomain u 2 1 s
    if back then s else fellBack u s
  else match s.domain u % 256 with
    | 0 => setDomain u 2 1 s
    | 1 => if back then setDomain u 2 6 s else s
    | _ => s

/-- FO is stable: domains that wait for it, and at a start those that are stopped, take it. -/
def foStable (s : State) : State :=
  forEach (List.range s.sheaves) (fun u s =>
    if s.waits u then fellBack u (setDomain u 1 1 s)
    else if s.domain u % 256 = 0 && !s.power.waking && !s.stable (srcSheaf u) then setDomain u 1 1 s else s) s

/-- What a source does once it is stable. -/
def nowStable (m : Nat) (s : State) : State :=
  match m with
  | 1 => enablePlls s
  | 2 =>
    let s := s.setOb 0xB001 5 1
    (match s.source srcKeeperPll with
      | .off => s.setSource srcKeeperPll (.counting s.now)
      | _ => s)
  | 3 => foStable s
  | 4 =>
    if s.waits keeperDomain then fellBack 3 (setKeeper 1 1 s)
    else if s.power.node = .boot && !s.adapterOn 5 then
      (setKeeper 1 1 s).setOb 0x2020 2 (setBit 5 true (s.ob 0x2020 2))
    else s
  | 5 => if s.waits keeperDomain then fellBack 3 (setKeeper 2 1 s) else s
  | 6 =>
    if s.waits keeperDomain then setKeeper 0 1 s
    else if s.keeperSource = 1 then setKeeper 0 5 s
    else if s.keeperSource = 2 then setKeeper 0 64 s
    else s
  | 7 => s
  | m => if m < 0x30 then sheafPllStable (m - 0x10) s else s

/-- A PLL needs its reference. -/
def State.reference (s : State) (m : Nat) : Bool :=
  if m = 6 then s.stable srcRefB || s.stable srcRefA
  else if 0x10 ≤ m then s.stable srcRefA
  else true

/-- The time for a source on the reference it has: the Keeper PLL counts sv_ref_b, or sv_ref_a in its absence. -/
def State.stableAfter (s : State) (m : Nat) : Nat := if m = 6 && !s.stable srcRefB then 40960 * nsT else stableTime m

/-- SOURCE_STABLE: the source has counted its cycles. (DEDUCED, log 42) -/
def sourceStable (m : Nat) (s : State) : State :=
  let due := match (s.source m).since with | some t => s.elapsed t (s.stableAfter m) | none => false
  if !due || !s.reference m then s else nowStable m (s.setSource m .stable)

def execSourceStable (m : Nat) (s : State) : Res := present (s.isSource m) (serveAll (sourceStable m s))

/-- REF_B_ABSENT: no edge within 2.62 ms of VKEEP good. The Keeper PLL takes sv_ref_a. -/
def refBAbsent (s : State) : State :=
  if !s.elapsed s.power.vkeepAt (2621440 * nsT) || s.stable srcRefB || s.ob 0xB001 5 != 0 then s
  else
    let s := (s.setSource srcRefB .off).setOb 0xB001 5 0
    if s.stable srcRefA && s.source srcKeeperPll == .off then s.setSource srcKeeperPll (.counting s.now) else s

def execRefBAbsent (s : State) : Res := .next (refBAbsent s)

/-- DIVIDER_STEP (R402): every 1 µs a divider steps toward 1. At a start, a domain on FO moves to its PLL at divider 6 once sv_ref_a
has counted 65,536 cycles (R399). Domain 64 is the Keeper's. -/
def dividerStep (d : Nat) (s : State) : State :=
  let due := s.elapsed (look 0 d s.clk.stepped) usTicks
  if d = keeperDomain then
    if due && 1 < s.clk.keeperDiv then
      s.setClk { s.clk with keeperDiv := s.clk.keeperDiv - 1, stepped := put 0 d s.now s.clk.stepped }
    else s
  else
    let w := s.domain d
    if w % 256 = 1 && s.stable (srcSheaf d) && s.elapsed s.clk.refAFrom (655360 * nsT) then setDomain d 2 6 s
    else if due && (w % 256 = 1 || w % 256 = 2) && 1 < w / 256 then setDomain d (w % 256) (w / 256 - 1) s
    else s

def execDividerStep (d : Nat) (s : State) : Res :=
  present (decide (d < s.sheaves) || d == keeperDomain) (serveAll (dividerStep d s))

/-- FALLBACK_TIMEOUT (R406): a fallback is not stable within 4 times its count. Domain 64 is the Keeper's. -/
def State.fallbackLimit (s : State) (d : Nat) : Nat :=
  if d = keeperDomain then (if s.keeperSource = 1 then 16000000 * nsT else 81920 * nsT)
  else if look 0 d s.clk.pllTrip != 0 then 40960 * nsT
  else 655360 * nsT

def fallbackTimeout (d : Nat) (s : State) : State :=
  match look none d s.clk.waiting with
  | none => s
  | some t =>
    if !s.elapsed t (s.fallbackLimit d) then s
    else if s.power.node = .halted then (if d = keeperDomain then setKeeper 2 1 s else s)
    else enterHalted Ev.clockHalt true (raise Ev.clockHalt (if d = keeperDomain then 3 else d) 0 (setKeeper 2 1 s))

def execFallbackTimeout (d : Nat) (s : State) : Res :=
  present (decide (d < s.sheaves) || d == keeperDomain) (serveAll (fallbackTimeout d s))

/-! ### Monitors (R404, R405) -/

/-- The expected count of a monitor's window, as a fraction. -/
def State.expectedCount (s : State) (m : Nat) : Nat × Nat :=
  match m with
  | 1 => (2048, 1)
  | 2 => (8192, 1)
  | 3 => (4096, 1)
  | 4 => (200000, 1)
  | 5 => (200000, 1)
  | 6 => (5120, 1)
  | 7 => (1024 * s.ob 0xB005 1, 100)
  | m => if m < 0x30 then (24576 * (4000 - s.ob 0xB020 (m - 0x10 + 1)), 4000) else (20480, 1)

/-- The partner a monitor counts against. -/
def partnerSource (m : Nat) : Nat :=
  match m with
  | 4 => srcKso
  | 1 => srcKfo
  | 2 => srcKfo
  | 5 => srcKfo
  | 6 => srcKfo
  | _ => srcRefA

/-- A window's count is out of tolerance. -/
def State.countBad (s : State) (m count : Nat) : Bool :=
  let (n, d) := s.expectedCount m
  count == 0 || decide (50 * (count * d) < 49 * n) || decide (51 * n < 50 * (count * d))

/-- What a trip of a source brings (R405). (DEDUCED, log 42) -/
def tripEffect (m : Nat) (s : State) : State :=
  match m with
  | 1 =>
    let drop (m : Nat) (s : State) : State := s.setSource m .off
    let s := forEach ((List.range s.sheaves).map srcSheaf ++ (List.range 4).map srcHead) drop s
    let s := forEach (List.range s.sheaves) (fun u s => if s.domain u % 256 = 2 then sheafFallback u s else s) s
    let s := if s.stable srcRefB then s
      else
        let s := s.setSource srcKeeperPll .off
        if s.keeperSource = 0 then keeperFallback s else s
    enterHalted Ev.clockTrip true (forEach (List.range 4) (fun h s => if (s.port h).live then linkReset h s else s) s)
  | 2 =>
    let s := if s.keeperSource = 0 then keeperFallback s else s
    s.setSource srcKeeperPll (if s.stable srcRefA then .counting s.now else .off)
  | 3 => forEach (List.range s.sheaves) (fun u s => if s.domain u % 256 = 1 then sheafFallback u s else s) s
  | 4 => if s.keeperSource = 1 then keeperFallback s else s
  | 5 => if s.keeperSource = 2 then keeperFallback s else s
  | 6 => if s.keeperSource = 0 then keeperFallback s else s
  | 7 => farDown s
  | m =>
    if m < 0x30 then
      let u := m - 0x10
      if s.domain u % 256 != 2 then s
      else
        let s := s.setClk { s.clk with pllTrip := put 0 u (s.now + 1) s.clk.pllTrip }
        let s := sheafFallback u s
        let ok := s.stable srcFo
        singleFault Ev.clockTrip (forEach (sheafChannels u) (channelFault · ok)) s
    else if (s.port (m - 0x30)).live then linkReset (m - 0x30) s else s

/-- A monitor trips. -/
def clockTrip (m : Nat) (s : State) : State :=
  let s := raise Ev.clockTrip m 0 ((s.setSource m (.tripped s.now)).bump 0xB003 m)
  tripEffect m s

/-- A window ends: the last count is shown, and the monitored clock trips when it is out of tolerance, when the window has not
ended in twice its time, or when a PLL has lost lock. Where KFO and KSO disagree, the one that differs from a stable sv_ref_a by
more than 2% trips (`kfoOff`, `ksoOff`), and KFO when sv_ref_a is not stable. -/
def monitorWindow (m count : Nat) (ended lock kfoOff ksoOff : Bool) (s : State) : State :=
  let armed := s.stable m && s.stable (partnerSource m) && (m != 7 || s.ob 0xB005 1 != 0)
  if !armed then s
  else
    let s := s.setOb 0xB002 m (count % 2 ^ 24)
    let bad := !ended || s.countBad m count || (!lock && (m == 6 || decide (0x10 ≤ m)))
    if !bad then s
    else if m = 4 || m = 5 then
      if !s.stable srcRefA then clockTrip srcKfo s
      else
        let s := if kfoOff then clockTrip srcKfo s else s
        if ksoOff then clockTrip srcKso s else s
    else clockTrip m s

/-- CLOCK_MONITOR_WINDOW. -/
def execClockMonitorWindow (m count : Nat) (ended lock kfoOff ksoOff : Bool) (s : State) : Res :=
  present (s.isSource m) (serveAll (monitorWindow m count ended lock kfoOff ksoOff s))

/-- SHEAF_PLL_RESTART_LIMIT: a tripped sheaf PLL is not stable within 40 ms, and its channels fail (R209). -/
def pllRestartLimit (u : Nat) (s : State) : State :=
  let t := look 0 u s.clk.pllTrip
  if t = 0 || !s.elapsed (t - 1) (40 * msT) then s
  else
    let s := s.setClk { s.clk with pllTrip := put 0 u 0 s.clk.pllTrip }
    forEach (sheafChannels u) (fun c s => if s.chanState c = 1 then failChannel c s else s) s

def execSheafPllRestartLimit (u : Nat) (s : State) : Res :=
  present (decide (u < s.sheaves)) (serveAll (pllRestartLimit u s))

/-! ### Slack (R394–R396) -/

/-- A derate cause is absent at a frame boundary (R84). -/
def endDerate (b : Nat) (s : State) : State :=
  if !s.derated b then s
  else
    let v := setBit b false (s.ob 0x2202 1)
    let s := s.setOb 0x2202 1 v
    if v = 0 then raiseNode Ev.derateCleared 0 s else s

/-- Readings have been 480 ps or less for 1 ms. -/
def State.easy (s : State) : Bool := s.clk.easySince != 0 && s.elapsed (s.clk.easySince - 1) msT

/-- Drive sv_vreq, at most once per 10 µs. -/
def driveVreq (s : State) : State :=
  let cool := match s.junction with | some t => decide (t < 400) | none => false
  let v := if s.ob 0xB000 3 != 0 then 1 else if s.easy && cool && s.ob 0x2202 1 == 0 then 2 else 0
  if v = s.pins.vreq || !(s.pins.vreqAt = 0 || s.elapsed (s.pins.vreqAt - 1) (10 * usTicks)) then s
  else { s with pins := { s.pins with vreq := v, vreqAt := s.now + 1 } }.setOb 0xB000 4 v

/-- Replica i as the slack reading takes it: its last measurement, or 1,000 ps once none has come for 2 µs. -/
def State.replica (s : State) (i : Nat) : Nat :=
  if s.elapsed (look 0 i s.clk.replicaAt) (2 * usTicks) then 1000 else look 0 i s.clk.replicas

/-- One measurement of the 16 replicas, in steps of 5 ps; `none` for a replica that returned nothing. -/
def takeReplicas (counts : List (Option Nat)) (s : State) : State :=
  forEach (List.range 16) (fun i s =>
    match counts.getD i none with
    | some n => s.setClk { s.clk with replicas := put 0 i (min 1000 (5 * n)) s.clk.replicas
                                      replicaAt := put 0 i s.now s.clk.replicaAt }
    | none => s) s

/-- The slack reading and the slack state that follows it. (DEDUCED, log 42) -/
def slackMeasurement (counts : List (Option Nat)) (s : State) : State :=
  if !s.power.vcore || !s.elapsed s.clk.slackAt usTicks then s
  else
    let s := takeReplicas counts (s.setClk { s.clk with slackAt := s.now })
    let reading := ((List.range 16).filter fun i => !s.clk.replicasOut.contains i).foldl (fun m i => max m (s.replica i)) 0
    let s := (s.setOb 0xB000 1 reading).peak 0xB000 2 reading
    let s := s.setClk { s.clk with
      slackHigh := s.clk.slackHigh || decide (600 < reading)
      easySince := if 480 < reading then 0 else if s.clk.easySince = 0 then s.now + 1 else s.clk.easySince }
    let s := if 600 < reading && s.ob 0xB000 3 = 0 then
        raiseNode Ev.slackLow 0 ((s.bump 0xB000 5).setOb 0xB000 3 1)
      else s
    let s := if 750 < reading && s.ob 0xB000 3 = 1 then
        startDerate 1 (raiseNode Ev.slackCritical 0 (s.setOb 0xB000 3 2))
      else s
    driveVreq s

/-- SLACK_MEASUREMENT. -/
def execSlackMeasurement (counts : List (Option Nat)) (s : State) : Res := .next (slackMeasurement counts s)

/-- SLACK_CLEARED: after 64 frames in a row without a reading above 600 ps. -/
def execSlackCleared (s : State) : Res :=
  .next (if s.ob 0xB000 3 = 0 || s.plans.slackFrames < 64 then s
    else driveVreq (raiseNode Ev.slackCleared 0 (endDerate 1 (s.setOb 0xB000 3 0))))

/-- VREQ_LOWER_TIMER. -/
def execVreqLowerTimer (s : State) : Res := .next (driveVreq s)

/-! ### Trimming (R403) -/

/-- The reference a measurement of KSO uses is the one R403 chooses. -/
def State.trimChoice (s : State) (plca : Bool) : Bool := plca == !s.stable srcRefB

/-- One measurement of KSO: `count` of the reference where `expected` stand for no error. -/
def trimMeasurement (plca : Bool) (count expected : Nat) (s : State) : State :=
  if !s.stable srcKso || !s.trimChoice plca || expected = 0 then s
  else
    let err : Int := ((expected : Int) - count) * 1000000 / expected
    let step : Int := if err.natAbs ≤ 500 then 0 else if (0 < err) == Config.trimRises then -1 else 1
    let code := ((s.ob 0xB001 2 : Int) + step).toNat
    let s := s.setOb 0xB001 2 (min 255 code)
    let s := (s.setOb 0xB001 3 (if plca then 2 else 1)).setOb 0xB001 4 (unsigned 32 err)
    s.setClk { s.clk with trimGood := if err.natAbs ≤ 1000 then s.clk.trimGood + 1 else 0, trimAt := s.now, trimStale := false }

/-- KSO_TRIM_MEASUREMENT: against sv_ref_b, or against the beacon spacing of the management bus. -/
def execKsoTrimMeasurement (plca : Bool) (count expected : Nat) (s : State) : Res :=
  .next (trimMeasurement plca count (if plca then expected else 25000) s)

/-- The oscillator is trimmed once three measurements in a row fall within ±0.1%. -/
def State.trimmed (s : State) : Bool := decide (3 ≤ s.clk.trimGood)

/-- OSC_TRIM_STALE: no reference for 10 s. -/
def execOscTrimStale (s : State) : Res :=
  .next (if s.clk.trimStale || s.stable srcRefB || !s.elapsed s.clk.trimAt (10 * secT) then s
    else raiseNode Ev.oscTrimStale 0 (s.setClk { s.clk with trimStale := true }))

/-! ### Clock enables (R407, R408) -/

/-- The domain of a sheaf stops. -/
def gateSheaf (u : Nat) (s : State) : State := setDomain u 3 0 s

/-- A sheaf that is ungated starts from stopped. -/
def ungateSheaf (u : Nat) (s : State) : State :=
  if s.domain u % 256 != 3 || s.waits u then s
  else if s.stable (srcSheaf u) then setDomain u 2 1 s
  else if s.stable srcFo then setDomain u 1 1 s
  else setDomain u 0 0 s

/-- A sheaf whose enable may not be cleared. -/
def State.sheafBusy (s : State) (u : Nat) : Bool :=
  s.power.node != .config || (sheafChannels u).any fun c => s.chanState c == 0 || s.chanState c == 1 || s.chanState c == 5

/-- A write of 0x2020:01 or :02. -/
def enableHome (sub v : Nat) : Home := fun _ s =>
  let old := s.ob 0x2020 sub
  let set := (List.range 32).filter fun i => bit i v && !bit i old
  let clear := (List.range 32).filter fun i => !bit i v && bit i old
  if sub = 1 then
    if set.any fun u => decide (s.sheaves ≤ u) then .refused St.unreachable 0 s
    else if clear.any s.sheafBusy then .denied s
    else .done (forEach set ungateSheaf (forEach clear gateSheaf (s.setOb 0x2020 1 v)))
  else
    let held (k : Nat) : Bool := k == 5 ||
      (decide (k < 4) && ((s.port k).state == .up || (s.port k).state == .keepalive)) || (k == 4 && s.farUp)
    if clear.any held then .denied s
    else
      let s := s.setOb 0x2020 2 v
      let s := forEach clear (fun k s => if k < 4 then s.setPort k { s.port k with state := .down } else s) s
      .done (forEach set (fun k s => if k < 4 && s.power.node = .config then startTraining k s else s) s)

/-- CLOCK_ENABLE_WRITE: subindex 1 or 2. -/
def execClockEnableWrite (r : Req) (sub value : Nat) (s : State) : Res :=
  let sub := if sub = 1 then 1 else 2
  let v := if sub = 1 then value % 2 ^ 32 else value % 256
  .next (dictWrite r 0x2020 sub (leBytes (if sub = 1 then 4 else 1) v) (enableHome sub v) s)

/-! ### Domain crossings (R409) -/

/-- A crossing by a number of its own, and the instance its events carry. -/
def crossingNumber : Crossing → Nat
  | .feed t => t
  | .rt p => 256 + p
  | .sheaf u => 512 + u
  | .headland h => 768 + h
  | .far => 800
def crossingInst : Crossing → Nat
  | .feed t => t
  | .rt p => p
  | .sheaf u => u
  | .headland h => h
  | .far => 0x20

/-- A crossing that the silicon has. -/
def State.hasCrossing (s : State) : Crossing → Bool
  | .feed t => decide (t < 64 * s.cfg.nstacks)
  | .rt p => decide (p < 8)
  | .sheaf u => decide (u < s.sheaves)
  | .headland h => decide (h < 4)
  | .far => true

/-- A request that the live side has taken and not accepted across a crossing. -/
def State.crosses (s : State) (x : Crossing) (q : Ask) : Bool :=
  let onLine := match q.op with | .sync .. => false | _ => true
  q.stage == .offered && q.fwd == 0 && match x with
    | .feed t => q.side.port == .tile t
    | .rt p => q.side.port == .rt p
    | .sheaf u => onLine && !farAddr q.addr && adNode q.addr == s.me && sheafOf (s.place q.addr).c == u
    | .headland h => (match q.side.port with | .headland h' _ => h' == h | _ => false)
    | .far => onLine && farAddr q.addr

/-- CROSSING_RESET: the reset side drops ready. (DEDUCED, log 42) -/
def crossingReset (x : Crossing) (s : State) : State :=
  if s.clk.closed.contains (crossingNumber x) then s
  else
    let s := s.setClk { s.clk with closed := s.clk.closed ++ [(crossingNumber x)] }
    let s := raise Ev.crossingReset (crossingInst x) 0 (s.bump 0xB004 1)
    forEach ((s.path.asks.filter (s.crosses x)).map (·.id)) refuseLater s

def execCrossingReset (x : Crossing) (s : State) : Res := present (s.hasCrossing x) (pump (crossingReset x s))

/-- CROSSING_REOPENED: the exchange is complete, and what was held goes on. -/
def crossingReopened (x : Crossing) (s : State) : State :=
  if !s.clk.closed.contains (crossingNumber x) then s
  else raise Ev.crossingReopened (crossingInst x) 0 (s.setClk { s.clk with closed := s.clk.closed.filter fun n => n != (crossingNumber x) })

def execCrossingReopened (x : Crossing) (s : State) : Res := present (s.hasCrossing x) (pump (crossingReopened x s))

end Sys2Proof.Machine
end

