-- ==== Sys2Proof/Machine/Zeroise.lean ====
section
/-!
DEFINITION. Zeroisation (R387), the owner and key commands as they arrive (R379, R383), and debug unlock (R389).
-/
namespace Sys2Proof.Machine

/-! ### Zeroisation (R387) -/

/-- A descriptor whose range a zeroisation takes. -/
def Region.guardedRange (g : Region) : Bool := g.valid && (g.world || g.sealed_)

/-- A line of a Secure or sealed range. -/
def State.guardedLine (s : State) (a : Nat) : Bool := s.secureAt a || s.sealedAt a

/-- Accepted Secure-world work is in flight. -/
def State.secureWork (s : State) : Bool :=
  s.path.asks.any fun q => q.side.world && q.stage == .accepted && q.fwd == 0

/-- Step 3, once accepted Secure work is done: cache copies of Secure and sealed lines are discarded. -/
def dropGuarded (s : State) : State :=
  let lines := (s.cache.ways.filterMap fun p => p.2.map fun w => w.line * 128).filter s.guardedLine
  forEach lines dropLine s

/-- Step 4: every key slot is erased, named or not, and the ledger is zeroed. KEY_ERASED is raised of an erasure by command only (R390). -/
def eraseKeys (s : State) : State :=
  let full := (s.sec.keys.filter fun p => p.2.kind != .empty).map (·.1)
  let s := forEach full (fun n s => s.setKey n { KeySlot.reset with loads := (s.key n).loads }) s
  startLedgerZero (s.setSec { s.sec with loaded := [] })

/-- The valid bit of a descriptor, in its 256 bits. -/
def validBit : Nat := 63

/-- Step 5: guarded descriptors become invalid at once, port worlds are Normal, and objects that were Secure are RESET. -/
def dropSecure (s : State) : State :=
  let old := s.validRegions.filter fun p => p.2.guardedRange
  let ranges := (old.filter fun p => !p.2.far).map fun p => (granuleAddr false p.2.base, p.2.len)
  let keep (p : Nat × Nat) : Bool := match keyRegion p.1 with
    | some _ => !(decodeRegion p.2).guardedRange
    | none => true
  let s := { s with mgmt := { s.mgmt with pendingTide := s.mgmt.pendingTide.filter keep } }
  let s := forEach old (fun p s =>
    let idx := 0x2120 + p.1 / 256
    s.setOb idx (p.1 % 256) (setBit validBit false (s.ob idx (p.1 % 256)))) s
  let s := forEach (List.range 256) (fun t s => s.setOb 0x2320 t 0) s
  let s := forEach (List.range 8) (fun p s => s.setOb (0x3020 + p) 1 0) s
  let objs := (s.syncs.map (·.1)).filter s.syncSecure
  let s := forEach objs (fun o s => putSync o 0 s) s
  (s.setOb 0x2500 7 16384).setSec { s.sec with poisonRanges := s.sec.poisonRanges ++ ranges, zeroStage := 2 }

/-- Steps 3 to 5 go on once no Secure work is in flight. (DEDUCED, log 50) -/
def zeroAdvance (s : State) : State :=
  if s.sec.zeroStage != 1 || s.secureWork then s else dropSecure (eraseKeys (dropGuarded s))

/-- Secure contexts of the active plan. -/
def State.secureContexts (s : State) : List Nat :=
  match s.plans.active with
  | some p => (List.range 64).filter fun x => p.inUse x && p.ctxWorld x
  | none => []

/-- A zeroisation runs from step 1: steps 1 and 2. (DEDUCED, log 50) -/
def runZero (cause : ZeroCause) (s : State) : State :=
  let s := endSessions (s.setSec { s.sec with zeroing := some cause, lifecycle := .zeroising, zeroStage := 1 })
  let s := forEach s.secureContexts (fenceContext 8) s
  let waiting := (s.path.asks.filter fun q => q.side.world && q.stage == .offered && q.fwd == 0 && !q.internal).map (·.id)
  zeroAdvance (forEach waiting refuseLater s)

/-- A zeroisation begins. -/
def startZero (cause : ZeroCause) (s : State) : State :=
  runZero cause (s.setSec { s.sec with lifecycleAfter := s.sec.lifecycle, poisonRanges := [] })

/-- Blow one epoch fuse. -/
def blowEpoch (s : State) : State := { s with fuses := { s.fuses with epoch := s.fuses.epoch + 1 } }

/-- How a zeroisation ends, as what started it gives (R379, R380, R389). (DEDUCED, log 50) -/
def endZero (cause : ZeroCause) (s : State) : State :=
  let x := s.sec
  let done (l : Lifecycle) (s : State) : State :=
    s.setSec { s.sec with zeroing := none, zeroStage := 0, poisonRanges := [], lifecycle := l, transferEc := [], transferMl := [] }
  match cause with
  | .transfer =>
    let s := blowEpoch s
    let s := writeOwner x.transferEc x.transferMl 0 s.fuses.epoch (s.setOb 0x6020 3 0)
    raiseNode Ev.ownerClaimed 0 (done .owned s)
  | .release =>
    let s := { s with nvm := { s.nvm with owner := .none } }
    raiseNode Ev.ownerReleased 0 (done .unowned s)
  | .zeroise => done x.lifecycleAfter s
  | .absentRecord => raiseNode Ev.identityRecordBad 0 (done .unowned s)
  | .debug i =>
    let s := done x.lifecycleAfter s
    let s := s.setSec { s.sec with debugFlag := true }
    let s := raiseNode Ev.debugUnlocked i s
    if s.wrap.waiting = some i then
      { s with wrap := { s.wrap with instr := i, held := true, waiting := none }, power := { s.power with testUsed := true } }
    else s

/-- ZEROISATION_POISON_DONE: every line of the ranges has been written poisoned. -/
def zeroPoisoned (s : State) : State :=
  let s := zeroAdvance s
  match s.sec.zeroing with
  | some cause =>
    if s.sec.zeroStage != 2 then s
    else
      let granules := s.sec.poisonRanges.flatMap fun p => (List.range p.2).map fun i => p.1 + i * 2 ^ 21
      let s := forEach granules (fun a s => fillGranule a 1 s) s
      endZero cause (raiseNode Ev.zeroised 0 s)
  | none => s

def execZeroisationPoisonDone (s : State) : Res := .next (serveAll (zeroPoisoned s))

/-! ### Owner commands (R379) -/

/-- An owner command at a node; `session` tells of an owner session, `secured` of any secured session, `ordered` that the lead node has
ordered it, which for ZEROISE is how a zeroisation reaches every node of the set whatever started it (R387). (DEDUCED, log 50) -/
def ownerCommand (code : Nat) (session secured ordered : Bool) (s : State) : WResult :=
  if s.sec.zeroing.isSome || s.procs.warden.restart.isSome then .refused St.retry 0 s
  else
    let owned := s.sec.lifecycle == .owned && session
    match code with
    | 1 => claim secured s
    | 2 =>
      if owned && keysStaged s && decide (s.fuses.epoch < 64) then
        if !s.canRecord 4 then .refused St.retry 0 (clearStaged s)
        else
        let s := s.setSec { s.sec with transferEc := s.sec.stagedEc, transferMl := s.sec.stagedMl }
        .done (startZero .transfer (clearStaged s))
      else .denied (clearStaged s)
    | 3 => if owned then .done (startZero .release (clearStaged s)) else .denied (clearStaged s)
    | _ => if owned || (ordered && session) then .done (startZero .zeroise (clearStaged s)) else .denied (clearStaged s)

/-- 0x6020:04. -/
def ownerHome (code : Nat) (session secured : Bool) : Home := fun who s =>
  ownerCommand code session secured (match who with | .order _ => true | .req _ => false) s

/-- CLAIM. -/
def execClaim (r : Req) (s : State) : Res :=
  .next (dictWrite r 0x6020 4 [1] (ownerHome 1 (s.isOwner r) (s.inSession r)) s)
/-- TRANSFER. -/
def execTransferOwner (r : Req) (s : State) : Res :=
  .next (dictWrite r 0x6020 4 [2] (ownerHome 2 (s.isOwner r) (s.inSession r)) s)
/-- RELEASE. -/
def execRelease (r : Req) (s : State) : Res :=
  .next (dictWrite r 0x6020 4 [3] (ownerHome 3 (s.isOwner r) (s.inSession r)) s)
/-- ZEROISE. -/
def execZeroise (r : Req) (s : State) : Res :=
  .next (dictWrite r 0x6020 4 [4] (ownerHome 4 (s.isOwner r) (s.inSession r)) s)

/-! ### Key commands (R383) -/

/-- 0x6030:01. -/
def keyHome (v : Nat) : Home := fun _ s => keyCommand v s.signedPlan s

/-- A key command as it arrives. -/
def keyWrite (r : Req) (op : Nat) (world : Bool) (slot : Nat) (s : State) : Res :=
  let bytes := keyWord op world slot
  .next (dictWrite r 0x6030 1 bytes (keyHome (leNat bytes)) s)

/-- GENERATE_XTS. -/
def execGenerateXts (r : Req) (world : Bool) (slot : Nat) (s : State) : Res := keyWrite r 1 world slot s
/-- GENERATE_GCM. -/
def execGenerateGcm (r : Req) (world : Bool) (slot : Nat) (s : State) : Res := keyWrite r 2 world slot s
/-- IMPORT_VERIFY. -/
def execImportVerify (r : Req) (world : Bool) (slot : Nat) (s : State) : Res := keyWrite r 3 world slot s
/-- ERASE. -/
def execErase (r : Req) (world : Bool) (slot : Nat) (s : State) : Res := keyWrite r 4 world slot s

/-! ### Debug unlock (R389) -/

/-- The wrapper instructions that reach the Warden, the key store, the journal, the cache arrays or the DRAM (R555). -/
def debugCode (i : Nat) : Bool := i == 2 || i == 6 || i == 7 || i == 9 || i == 0x0A || i == 0x0B

/-- Why a debug unlock is refused: the first case of R389 that applies, 0 for none. -/
def State.debugRefusal (s : State) : Nat :=
  if s.fuses.debugDisable then 1
  else if s.sec.lifecycle != .owned then 0
  else if (s.ob 0x6020 3).testBit 3 then 2
  else if s.ob 0x6040 1 = 0 then 3
  else 0

/-- A zeroisation that this node starts runs at every node of a formed set, in the lead node's order, as a ZEROISE (R387). (DEDUCED,
log 50) -/
def zeroSet (cause : ZeroCause) (s : State) : State :=
  if !s.formed then startZero cause s
  else if s.isLead then leadOrder 0x6020 4 [4] true none s.me (fun _ s => .done (startZero cause s)) s
  else sendObject s.hl.set.lead 0x6020 4 0 [4] true (startZero cause s)

/-- A debug-unlock instruction reaches the Warden: refused, or zeroisation runs before it takes effect. (DEDUCED, log 50) -/
def debugUnlock (i : Nat) (s : State) : State :=
  if s.power.node = .off || s.sec.zeroing.isSome then s
  else if s.debugRefusal != 0 then raiseNode Ev.debugRefused s.debugRefusal s
  else zeroSet (.debug i) s

/-- DEBUG_UNLOCK. -/
def execDebugUnlock (code : Nat) (s : State) : Res := .next (if debugCode code then serveAll (debugUnlock code s) else s)

end Sys2Proof.Machine
end

