-- ==== Sys2Proof/Machine/Start.lean ====
section
/-!
DEFINITION. Start-up (R399, R418–R422): the entry to CONFIG, the checker self-test, the blockers of CONFIG, and the entry to
service.
-/
namespace Sys2Proof.Machine

def State.setPower (s : State) (p : Power) : State := { s with power := p }
def State.setUpd (s : State) (u : Update) : State := { s with upd := u }

/-! ### Persisted values (R468, R469) -/

/-- A value goes into the persisted-object record. -/
def Nvm.persist (n : Nvm) (key v : Nat) : Nvm :=
  { n with persisted := put 0 key v n.persisted
           persistedKeys := if n.persistedKeys.contains key then n.persistedKeys else n.persistedKeys ++ [key] }

/-- A value the block itself persists: it is in force at once, and recorded where the NVM takes it (R466, R554). -/
def persistOwn (idx sub v : Nat) (s : State) : State :=
  let s := s.setOb idx sub v
  if s.nvm.usable && !s.reduced then { s with nvm := s.nvm.persist (objKey idx sub) v } else s

/-- Every value of the persisted-object record comes into force. -/
def loadPersisted (s : State) : State :=
  let s := s.setOb 0x9020 1 (leNat s.nvm.shutdown)
  forEach (s.nvm.persistedKeys ++ (s.nvm.persisted.map (·.1)).filter fun k => !s.nvm.persistedKeys.contains k)
    (fun k s => s.setOb (k / 256) (k % 256) (look 0 k s.nvm.persisted)) s

/-- The repair log is read from its records (R263). -/
def loadRepairs (s : State) : State := s.setPath { s.path with repairLog := s.nvm.repairs }

/-! ### Blockers of CONFIG (R420) -/

/-- A channel that is populated has ended its training, or has failed. -/
def State.channelSettled (s : State) (c : Nat) : Bool :=
  s.chanState c == 2 || s.ob (chanIdx c) 0x40 == 3 || s.ob (chanIdx c) 0x40 == 4

/-- A sensor that is not excluded is broken (R294). -/
def State.sensorHolds (s : State) : Bool :=
  (s.stacks_.any fun st => (List.range 144).any fun n => !s.excluded st n && (s.sensor (sensorKey st n)).broken) ||
  (logicNumbers.any fun n => !s.logicExcluded n && (s.sensor (logicKey n)).broken)

/-- Blocker i of R420. -/
def State.blocker (s : State) (i : Nat) : Bool :=
  match i with
  | 0 => !s.power.selfTested || s.power.checkerFailed
  | 1 => !(List.range s.channels).all s.channelSettled
  | 2 => !s.power.selfTested
  | 3 => (!s.nvm.shutdown.isEmpty && !s.heat.cooled) || s.sensorHolds
  | 4 => !s.formed
  | 5 => !s.hl.set.epochReached
  | 6 => s.sec.lifecycle == .secretFault || !s.strapsValid
  | 7 => !s.nvm.trainDue.isEmpty && !s.reduced
  | 8 => s.ob 0x2000 3 == 0 && !s.power.readyAsked
  | 9 => s.power.shadow
  | _ => false

/-- The blockers that stand. -/
def State.blockers (s : State) : Nat := (List.range 10).foldl (fun m i => if s.blocker i then m + 2 ^ i else m) 0

/-- 0x2000:08: until CONFIG is entered every blocker stands, and once it is left none does. -/
def State.blockersShown (s : State) : Nat :=
  match s.power.node with
  | .off | .boot | .recovery => 0x3FF
  | .config => s.blockers
  | _ => 0

/-- Every blocker but those of a set is clear, and no unretained channel has its fill still to come (R431). -/
def State.startClear (s : State) : Bool :=
  s.blockers == 0 && s.power.fill.all fun c => s.chanState c == 2

/-! ### The entry to CONFIG (R372, R407, R418) -/

/-- The Sequencer, the Steward and the Warden run. -/
def startProcs (s : State) : State :=
  { s with procs := { s.procs with sequencer := ⟨true, none⟩, steward := ⟨true, none⟩, warden := ⟨true, none⟩ } }

/-- The Warden derives its keys and reads the owner record; with an absent record below a blown epoch it zeroises (R380), and a
zeroisation that a warm reset cut short runs again from step 1 (R387). A node
whose set has not been powered on keeps the policy copy it holds (R381, R388). -/
def wardenStart (cold : Bool) (s : State) : State :=
  let s := deriveIdentity s
  if s.sec.lifecycle == .secretFault then s
  else if let some cause := s.sec.zeroing then runZero cause s
  else
    let s := s.setSec { s.sec with lifecycle := recordLifecycle s }
    let s := if cold && s.sec.lifecycle == .owned then s.setOb 0x6020 3 s.nvm.owner.policy else s
    if ownerAbsent s && decide (0 < s.fuses.epoch) then startZero .absentRecord s else s

/-- Firmware sets the enables of populated and connected units (R407). -/
def enableUnits (s : State) : State :=
  let ports := (List.range 4).foldl (fun m h => if (neighbour s.setNodes s.me h).isSome then m + 2 ^ h else m) 0
  (s.setOb 0x2020 1 (2 ^ s.sheaves - 1)).setOb 0x2020 2 (ports + 16 + 32)

/-- The node enters CONFIG: `cold` for a start that is not a warm reset. (DEDUCED, log 43) -/
def enterConfig (cold : Bool) (s : State) : State :=
  let s := wardenStart cold (startProcs s)
  let s := setNode .config s
  let s := if cold then enableUnits s else s
  let s := s.setPower { s.power with readyAsked := false, selfTested := false, checkerFailed := false }
  let s := s.setHeat { s.heat with cooled := false, coolFrom := 0 }
  let s := tellExclusions ((s.setOb 0xB040 5 0).setSet { s.hl.set with configAt := s.now })
  let s := if s.strapsValid then s else raiseNode Ev.setStrapInvalid 0 s
  forEach (List.range 4) (fun h s =>
    if (neighbour s.setNodes s.me h).isNone || (s.strapsValid && s.adapterOn h) then startTraining h s else s) (refreshView s)

/-- BOOT ends once an image is there to run, VCORE is good and no warm reset holds it (R414, R418). -/
def bootAdvance (s : State) : State :=
  if s.power.node = .boot && s.upd.selected && s.power.vcore && !s.power.warm && !s.power.setHeld then enterConfig true s else s

/-! ### The checker self-test (R421) -/

/-- A checker has failed: its bit, and the event. -/
def checkerFails (bit_ inst : Nat) (s : State) : State :=
  raise Ev.selfTestFailed inst bit_ (s.setOb 0xB040 5 (s.ob 0xB040 5 ||| 2 ^ bit_))

/-- Blocker [0] stays set. -/
def holdConfig (s : State) : State := s.setPower { s.power with checkerFailed := true }

/-- The controller reads ID and LAYER of every layer of a stack (R535, R536). A stack with a layer absent cannot serve its addresses:
its channels fail. -/
def readIdentity (st : Nat) (s : State) : State :=
  let i := 0x3800 + st
  let die (l : Nat) : LayerDie := s.die st l
  let there := layers16.filter fun l => (die l).present
  let state := if there.length < 16 then 3 else if layers16.all (fun l => (die l).id % 2 ^ 64 == (die 0).id % 2 ^ 64) then 1 else 2
  let revs := layers16.map fun l => if (die l).present then (die l).revision % 16 * 16 + l else 0
  let id := if (die 0).present then (die 0).id % 2 ^ 64 else 0
  let s := (((s.setOb i 1 id).setOb i 2 (id % 65536)).setOb i 3 (id / 65536 % 65536)).setOb i 4 (there.foldl (fun m l => m + 2 ^ l) 0)
  let s := (s.setOb i 5 state).setOb i 0x0D (leNat (revs.flatMap fun r => leBytes 1 r))
  if there.length < 16 then forEach ((List.range 72).map fun k => 72 * st + k) failChannel s else s

/-- Training begins after the self-test, and the repair log is replayed before it ends (R264, R305, R306, R431). -/
def startTrainingAll (s : State) : State :=
  let full := s.ob 0x2030 3 == 1
  let s := if s.power.warm then s else forEach s.stacks_ readIdentity s
  let s := replayLog s
  let s := if s.reduced then s else planHard s
  let s := forEach s.path.hardDue (fun i s =>
    let w := (s.path.repairLog.getD i (0, 0)).1
    startHard (logChan w) (bits 45 42 w) s) s
  let s := forEach ((List.range s.channels).filter fun c => s.chanState c != 2) (fun c s =>
    let s := s.setOb (chanIdx c) 0x40 0
    if full || s.power.fill.contains c then wantFull c s else beginTraining c false s) s
  if full then persistOwn 0x2030 3 0 s else s

/-- The self-test ends: the channels, journal copies, node-level checkers, replicas and slices that failed. (DEDUCED, log 43) -/
def selfTestDone (channels : List Nat) (journalA journalB comparators monitors : Bool) (replicas slices : List Nat) (s : State) :
    State :=
  if s.power.node != .config || s.power.selfTested then s
  else
    let s := forEach (channels.filter fun c => decide (c < s.channels)) (fun c s => failChannel c (checkerFails 0 c s)) s
    let s := if journalA || journalB then checkerFails 1 0xFFFF s else s
    let s := if journalA && journalB then holdConfig s
      else if journalA || journalB then
        (s.setPath { s.path with journalA := !journalA, journalB := !journalB }).setOb 0xA002 3 (if journalB then 2 else 1)
      else s
    let s := if comparators then holdConfig (checkerFails 2 0xFFFF s) else s
    let s := if monitors then holdConfig (checkerFails 3 0xFFFF s) else s
    let out := (List.range 16).filter replicas.contains
    let s := forEach out (fun i s => checkerFails 4 i s) s
    let s := s.setClk { s.clk with replicasOut := out }
    let s := if 2 < out.length then holdConfig s else s
    let s := forEach ((List.range 16).filter slices.contains) (fun x s => sliceFault x (checkerFails 5 x s)) s
    let s := s.setPower { s.power with selfTested := true }
    startTrainingAll (if s.power.warm then s else ladderStep (readAllSensors s))

/-- CHECKER_SELF_TEST_DONE: the units and checkers that failed. -/
def execCheckerSelfTestDone (channels : List Nat) (journalA journalB comparators monitors : Bool) (replicas slices : List Nat)
    (s : State) : Res :=
  .next (selfTestDone channels journalA journalB comparators monitors replicas slices s)

/-! ### Into service (R418, R479) -/

/-- A start ends in READY or RUN: sv_alive rises, the time is recorded and the rollback floor follows the running bundle. (DEDUCED, log 43) -/
def enterService (n : NodeState) (s : State) : State :=
  let s := setNode n s
  let s := s.setOb 0xB040 4 ((s.now - s.power.vkeepAt) / msT % 2 ^ 32)
  let s := if s.ob 0x8000 7 < s.ob 0x8000 0x0A then persistOwn 0x8000 7 (s.ob 0x8000 0x0A) s else s
  let s := s.setPower { s.power with warm := false, shadow := false, rejoin := false, fill := [] }
  let s := closePorts (s.setPath { s.path with meters := [] })
  raiseNode Ev.startComplete 0 s

/-- CONFIG_BLOCKERS_CLEAR: the next frame boundary after the last blocker has gone. A warm reset goes on at a tide (R429). -/
def blockersClear (s : State) : State :=
  if s.power.node = .config && s.startClear && !s.power.warm then enterService .ready s else s

def execConfigBlockersClear (s : State) : Res := .next (serveAll (blockersClear s))

/-! ### The fill of unretained channels (R431) -/

/-- Every line of an unretained channel has been written poisoned. -/
def unretainedFilled (c : Nat) (s : State) : State :=
  if s.power.node != .config || !s.power.fill.contains c || s.ob (chanIdx c) 0x40 != 3 || !s.clockFull c then s
  else
    let s := forEach (List.range 512) (poisonBlock c) s
    let s := s.setPower { s.power with fill := s.power.fill.filter fun x => x != c }
    raise Ev.segmentsLost c 8388608 s

/-- UNRETAINED_POISON_FILL_DONE. -/
def execUnretainedPoisonFillDone (c : Nat) (s : State) : Res := present (decide (c < s.channels)) (unretainedFilled c s)

end Sys2Proof.Machine
end

