-- ==== Sys2Proof/Machine/Update.lean ====
section
/-!
DEFINITION. Firmware update, image selection and recovery mode (chapter 18).
-/
namespace Sys2Proof.Machine

/-! ### The slots (R467) -/

/-- Bytes of a sector and of an erased one. -/
def sectorSize : Nat := 4096
def erasedSector : Nat := 2 ^ (8 * sectorSize) - 1

/-- Byte i of a firmware slot. -/
def slotByte (slot : Store (Option Nat)) (i : Nat) : Byte :=
  BitVec.ofNat 8 ((look none (i / sectorSize) slot).getD erasedSector >>> (8 * (i % sectorSize)))

/-- Bytes of a slot, and as a number. -/
def slotBytes (slot : Store (Option Nat)) (off k : Nat) : List Byte := (List.range k).map fun i => slotByte slot (off + i)
def slotNat (slot : Store (Option Nat)) (off k : Nat) : Nat := leNat (slotBytes slot off k)

/-! ### The bundle (R473–R475) -/

def signatureSize : Nat := 10880
def maxBundle : Nat := 8388608

/-- A component entry: id, offset, length, CRC. -/
structure Component where
  id : Nat
  off : Nat
  len : Nat
  crc : Nat
  deriving DecidableEq, Repr

/-- Entry i of the component table. -/
def componentAt (slot : Store (Option Nat)) (i : Nat) : Component :=
  let o := 0x40 + 16 * i
  ⟨slotNat slot o 4, slotNat slot (o + 4) 4, slotNat slot (o + 8) 4, slotNat slot (o + 12) 4⟩

def components (slot : Store (Option Nat)) : List Component := (List.range 4).map (componentAt slot)

def signedLength (slot : Store (Option Nat)) : Nat := slotNat slot 0x0C 4
def bundleVersion (slot : Store (Option Nat)) : Nat := slotNat slot 0x10 8
def bundleSecurity (slot : Store (Option Nat)) : Nat := slotNat slot 0x18 4

/-- The fields of the header that stand alone (R473). -/
def headerFixed (slot : Store (Option Nat)) : Bool :=
  slotNat slot 0 4 == 0x57465653 && slotNat slot 4 2 == 1 && slotNat slot 6 2 == 0x100 && slotNat slot 0x20 2 == 4 &&
  slotNat slot 0x22 30 == 0 && slotNat slot 0xC0 64 == 0 && slotNat slot 0x80 64 == 0 && bundleSecurity slot != 0

/-- The lengths of the header. -/
def headerLengths (slot : Store (Option Nat)) : Bool :=
  signedLength slot % 16 == 0 && slotNat slot 8 4 == signedLength slot + signatureSize &&
  decide (signedLength slot + signatureSize ≤ maxBundle)

/-- Components lie between the header and the signature block, each id once, and do not overlap (R474). The id's three rsvd bytes
are read with it. -/
def componentsOk (slot : Store (Option Nat)) : Bool :=
  let cs := components slot
  ((List.range 4).all fun i => cs.any fun c => c.id == i) &&
  (cs.all fun c => c.off % 16 == 0 && decide (0x100 ≤ c.off) && decide (c.off + c.len ≤ signedLength slot)) &&
  (cs.all fun a => cs.all fun b => a.id == b.id || decide (a.off + a.len ≤ b.off) || decide (b.off + b.len ≤ a.off))

/-- Check 0x05. -/
def headerOk (slot : Store (Option Nat)) : Bool := headerFixed slot && headerLengths slot && componentsOk slot

/-- The component CRCs of check 0x06. -/
def componentCrcs (slot : Store (Option Nat)) : Bool :=
  (components slot).all fun c => crc32c (slotBytes slot c.off c.len) == c.crc

/-- Check 0x0A. -/
def hardwareOk (slot : Store (Option Nat)) (s : State) : Bool :=
  decide (slotNat slot 0x1C 2 ≤ s.cfg.hardwareVersion) && decide (s.cfg.hardwareVersion ≤ slotNat slot 0x1E 2)

/-- Bytes of the signature block. -/
def sigBytes (slot : Store (Option Nat)) (off k : Nat) : List Byte := slotBytes slot (signedLength slot + off) k

/-- Check 0x07: the vendor keys are those of the fuse, and both vendor signatures are valid. -/
def vendorOk (slot : Store (Option Nat)) (s : State) : Bool :=
  let ec := sigBytes slot 0 97
  let ml := sigBytes slot 0x61 2592
  let m := slotBytes slot 0 (signedLength slot)
  leNat (sigBytes slot 0xA81 15) == 0 && leNat (sigBytes slot 0x1D03 13) == 0 &&
  (Config.sha384 (ec ++ ml)).toNat == s.fuses.vendorRootHash &&
  Config.verifyMessage 0 ec m (sigBytes slot 0xA90 96) && Config.verifyMessage 1 ml m (sigBytes slot 0xAF0 4627)

/-- The node has an owner: the lifecycle once the Warden runs, the record before that. -/
def State.ownedNow (s : State) : Bool :=
  if s.power.node = .boot || s.power.node = .recovery then !ownerAbsent s else s.sec.lifecycle == .owned

/-- The owner countersignature is valid under both owner keys. -/
def ownerSigned2 (slot : Store (Option Nat)) (s : State) : Bool :=
  let m := slotBytes slot 0 (signedLength slot + 0x1D10)
  leNat (sigBytes slot 0x1D11 15) == 0 && leNat (sigBytes slot 0x2A6D 19) == 0 && !ownerAbsent s &&
  Config.verifyMessage 0 s.nvm.owner.keyEc m (sigBytes slot 0x1D20 96) &&
  Config.verifyMessage 2 s.nvm.owner.keyMl m (sigBytes slot 0x1D80 3309)

/-- Check 0x08. -/
def counterOk (slot : Store (Option Nat)) (s : State) : Bool :=
  let there := leNat (sigBytes slot 0x1D10 1)
  let required := s.ownedNow && (s.ob 0x6020 3).testBit 1
  if there = 1 then ownerSigned2 slot s
  else there == 0 && leNat (sigBytes slot 0x1D11 0xD6F) == 0 && !required

/-- Check 0x09. -/
def floorOk (slot : Store (Option Nat)) (s : State) : Bool := decide (s.ob 0x8000 7 ≤ bundleSecurity slot)

/-- Blocks of a length. -/
def blocksOf (len : Nat) : Nat := (len + sectorSize - 1) / sectorSize

/-- Every block of a length is in the block map. -/
def State.blocksThere (s : State) (len : Nat) : Bool := (List.range (blocksOf len)).all fun b => (s.ob 0x8000 5).testBit b

/-- The first check of R476 that a slot's bundle fails, 0 for none. `download` asks for the block map as well, which a start no
longer holds. (DEDUCED, log 45) -/
def bundleReason (slot : Store (Option Nat)) (download : Bool) (s : State) : Nat :=
  if !headerOk slot then 5
  else if (download && !s.blocksThere (signedLength slot + signatureSize)) || !componentCrcs slot then 6
  else if !hardwareOk slot s then 0x0A
  else if !vendorOk slot s then 7
  else if !counterOk slot s then 8
  else if !floorOk slot s then 9
  else 0

/-! ### Update commands (R477, R478, R481) -/

def State.staging (s : State) : Nat := s.ob 0x8000 2
def setStaging (v : Nat) (s : State) : State := s.setOb 0x8000 2 v

/-- The staging image no longer counts as verified. -/
def unverify (s : State) : State := (s.setOb 0x8000 8 0).setOb 0x8000 9 0

/-- A refusal: the reason is recorded where there is one, and the event raised. -/
def updateRefused (reason : Nat) (s : State) : State :=
  raiseNode Ev.updateRefused reason (if reason = 0 then s else s.setOb 0x8000 6 reason)

/-- A refusal of a write. -/
def updateDenied (reason : Nat) (s : State) : WResult := .refused St.denied 9 (updateRefused reason s)

/-- The first condition of R478 that holds, 0 for none. -/
def State.updateBar (s : State) : Nat :=
  if s.ob 0x2204 3 = 1 then 1
  else if s.reduced then 2
  else if s.stacks_.any fun st => decide (3 ≤ s.level st) then 3
  else if s.ownedNow && (s.ob 0x6020 3).testBit 0 && !(s.power.node == .recovery && s.upd.bothFailed) then 4
  else if !s.nvm.usable || s.upd.failed then 0x0B
  else 0

/-- BEGIN. -/
def updateBegin (s : State) : WResult :=
  if s.staging = 3 || s.staging = 6 then updateDenied 0 s
  else if s.updateBar != 0 then updateDenied s.updateBar s
  else .done (setStaging 1 (unverify ((s.setOb 0x8000 5 0).setUpd { s.upd with length := s.ob 0x8000 3 })))

/-- VERIFY. (DEDUCED, log 45) -/
def updateVerify (s : State) : WResult :=
  if s.procs.warden.restart.isSome then .refused St.retry 0 s
  else if s.staging = 2 || s.staging = 5 then .done (setStaging 3 (unverify s))
  else updateDenied 0 s

/-- ACTIVATE: `others` tells whether every other reachable node reads VERIFIED with the same version; where only those nodes know,
it is a free value. (DEDUCED, log 45) -/
def updateActivate (others : Option Bool) (s : State) : WResult :=
  if s.staging != 4 then updateDenied 0 s
  else if s.updateBar != 0 then updateDenied s.updateBar s
  else
    let (ok, s) := match others with | some b => (b, s) | none => (s.freeValue 1 == 1, s.takeFree)
    if !ok then updateDenied 0x0C s
    else .done (raiseNode Ev.updateArmed 0 (setStaging 6 (persistOwn 0x8000 0x0B 1 s)))

/-- DISCARD. -/
def updateDiscard (s : State) : WResult :=
  if s.staging = 3 then updateDenied 0 s
  else .done (setStaging 0 (unverify ((persistOwn 0x8000 0x0B 0 s).setOb 0x8000 5 0)))

/-- 0x8000:04. -/
def updateHome (code : Nat) (others : Option Bool) : Home := fun _ s =>
  match code with
  | 1 => updateBegin s
  | 2 => updateVerify s
  | 3 => updateActivate others s
  | _ => updateDiscard s

/-- UPDATE_BEGIN. -/
def execUpdateBegin (r : Req) (s : State) : Res := .next (dictWrite r 0x8000 4 [1] (updateHome 1 none) s)
/-- UPDATE_VERIFY. -/
def execUpdateVerify (r : Req) (s : State) : Res := .next (dictWrite r 0x8000 4 [2] (updateHome 2 none) s)
/-- UPDATE_ACTIVATE: `others` tells whether every other reachable node reads VERIFIED with the same bundle_version. -/
def execUpdateActivate (r : Req) (others : Bool) (s : State) : Res :=
  .next (dictWrite r 0x8000 4 [3] (updateHome 3 (some others)) s)
/-- UPDATE_DISCARD. -/
def execUpdateDiscard (r : Req) (s : State) : Res := .next (dictWrite r 0x8000 4 [4] (updateHome 4 none) s)

/-! ### Blocks (R480) -/

/-- The place and length of a block. -/
def State.blockOk (s : State) (base len : Nat) : Bool :=
  base % sectorSize == 0 && decide (base < s.upd.length) && len == min sectorSize (s.upd.length - base)

/-- A sector of the staging slot as a block leaves it: the rest of the erased sector reads all ones. -/
def sectorOf (bytes : List Byte) : Nat := leNat (bytes ++ List.replicate (sectorSize - bytes.length) 255)

/-- Every block present completes the download. -/
def blockPlaced (s : State) : State :=
  if s.blocksThere s.upd.length then raiseNode Ev.updateComplete 0 (setStaging 2 s) else setStaging 1 s

/-- A block at a base of 0x8000:01. -/
def blockHome (base : Nat) (bytes : List Byte) : Home := fun _ s =>
  if s.staging = 3 then .refused St.retry 0 s
  else if s.staging = 6 || s.staging = 0 then updateDenied 0 s
  else if s.updateBar != 0 then updateDenied s.updateBar s
  else if !s.blockOk base bytes.length then .denied s
  else
    let b := base / sectorSize
    let s := { s with nvm := { s.nvm with staging := put none b (some (sectorOf bytes)) s.nvm.staging } }
    let s := (unverify s).setOb 0x8000 5 (setBit b true (s.ob 0x8000 5))
    .done (blockPlaced (s.bump 0x1070 6))

/-! ### The end of a verification (R476, R477, R483) -/

/-- A staged bundle has been verified, or refused. In RECOVERY the ROM goes on to copy it. (DEDUCED, log 45) -/
def verificationDone (s : State) : State :=
  if s.staging != 3 || s.procs.warden.restart.isSome then s
  else
    let why := bundleReason s.nvm.staging true s
    if why != 0 then updateRefused why (setStaging 5 s)
    else
      let s := (s.setOb 0x8000 8 (bundleVersion s.nvm.staging)).setOb 0x8000 9 (bundleSecurity s.nvm.staging)
      let s := raiseNode Ev.updateVerified 0 (setStaging 4 s)
      if s.power.node = .recovery then s.setUpd { s.upd with copying := true } else s

/-- VERIFICATION_DONE. -/
def execVerificationDone (s : State) : Res := .next (verificationDone s)

/-! ### Image selection (R482, R483) -/

/-- The active slot is the image to run. -/
def runActive (s : State) : State :=
  let s := (s.setOb 0x1000 5 (bundleVersion s.nvm.activeSlot)).setOb 0x8000 0x0A (bundleSecurity s.nvm.activeSlot)
  bootAdvance (s.setUpd { s.upd with selected := true, copying := false, bothFailed := false })

/-- RECOVERY. -/
def enterRecovery (bothFailed : Bool) (s : State) : State :=
  raiseNode Ev.recoveryMode 0 (setNode .recovery (s.setUpd { s.upd with bothFailed := bothFailed }))

/-- Boot the active slot if it verifies, otherwise what the staging slot allows. -/
def bootActive (s : State) : State :=
  if bundleReason s.nvm.activeSlot false s = 0 then runActive s
  else
    let s := raiseNode Ev.imageInvalid 0 s
    if bundleReason s.nvm.staging false s = 0 then s.setUpd { s.upd with copying := true } else enterRecovery true s

/-- The choice of an image at a power-on or set reset. -/
def selectImage (s : State) : State :=
  if s.pins.recovery then enterRecovery false s
  else if !s.nvm.usable then enterRecovery true (raiseNode Ev.imageInvalid 0 s)
  else if s.ob 0x8000 0x0B != 1 then bootActive s
  else
    let why := bundleReason s.nvm.staging false s
    if why != 0 then bootActive (updateRefused why (setStaging 5 (persistOwn 0x8000 0x0B 0 s)))
    else if s.reduced then bootActive (raiseNode Ev.updateDeferred 0 s)
    else s.setUpd { s.upd with copying := true }

/-- Record copies found invalid at a start: those whose write failed are counted, and each is told (R469). -/
def readCopies (s : State) : State :=
  let bad := s.nvm.areas.foldl (fun n p => if p.2.seq = 0 then n else n + b2n (!p.2.validA) + b2n (!p.2.validB)) 0
  forEach (List.range bad) (fun _ s => raiseNode Ev.nvmRecordBad 0 (s.bump 0x1070 5)) s

/-- The Keeper ROM has read the SFDP of the flash and chooses (R466, R468, R482). (DEDUCED, log 45) -/
def imageSelection (usable : Bool) (density mode : Nat) (s : State) : State :=
  if s.power.node != .boot || s.upd.selected || s.upd.copying || s.power.warm || s.power.setHeld || !s.power.strapped then s
  else
    let s := { s with nvm := { s.nvm with usable := usable } }
    let s := ((s.setOb 0x1070 1 (b2n (!usable))).setOb 0x1070 2 (density % 2 ^ 64)).setOb 0x1070 3 (mode % 4)
    let s := if usable then loadRepairs (loadPersisted (readCopies s)) else raiseNode Ev.nvmAbsent 0 s
    selectImage (setStaging (if s.ob 0x8000 0x0B = 1 then 6 else 0) s)

/-- IMAGE_SELECTION: what the flash's SFDP tables give: whether it is usable, its density in bytes, and the read mode. -/
def execImageSelection (usable : Bool) (density mode : Nat) (s : State) : Res := .next (imageSelection usable density mode s)

/-- The copy to the active slot is complete and verifies: it boots, from RECOVERY too. (DEDUCED, log 45) -/
def slotCopied (s : State) : State :=
  if !s.upd.copying then s
  else
    let n := blocksOf (signedLength s.nvm.staging + signatureSize)
    let s := { s with nvm := { s.nvm with activeSlot := s.nvm.staging } }
    let s := (persistOwn 0x8000 0x0B 0 s).bumpBy 0x1070 6 n
    let s := raiseNode Ev.updateApplied 0 (setStaging 0 ((unverify s).setOb 0x8000 5 0))
    runActive (if s.power.node = .recovery then setNode .boot s else s)

/-- SLOT_COPY_DONE. -/
def execSlotCopyDone (s : State) : Res := .next (slotCopied s)

end Sys2Proof.Machine
end

