-- ==== Sys2Proof/Machine/Power.lean ====
section
/-!
DEFINITION. Power states and resets (chapter 16): power-on and set reset, supplies, warm reset, REST and DEEP, processor restarts,
the straps and reduced mode.
-/
namespace Sys2Proof.Machine

/-! ### Power-on and set reset (R414, R427, R428) -/

/-- What a reset leaves of the layers: the hard repairs and the factory identity (R519, R526, R534). What the cells hold is not
retained (R428). (DESIGN CHOICE, log 4) -/
def coldDram (d : Dram) : Dram :=
  { Dram.reset with
    layers := d.layers.filterMap fun p => if p.2.hard.isEmpty then none else some (p.1, { LayerChan.reset with hard := p.2.hard })
    dies := d.dies.filterMap fun p =>
      let x : LayerDie := { LayerDie.reset with id := p.2.id, revision := p.2.revision, present := p.2.present }
      if x = .reset then none else some (p.1, x) }

/-- What a reset leaves of the NVM: the records. Gathered writes and due training records are gone, copies out of use are tried
again, and a copy of the staging slot under way leaves the active slot unwritten. -/
def coldNvm (copying : Bool) (n : Nvm) : Nvm :=
  { n with gather := [], gatherAt := 0, gatherDue := false, trainDue := []
           areas := n.areas.map fun p => (p.1, { p.2 with failedA := false, failedB := false })
           activeSlot := if copying then [] else n.activeSlot }

/-- The state a power-on or set reset leaves (R428): everything at its reset value but fuses, NVM, the layers' repairs, the policy word of
the owner record (R381), and the Keeper's work that starts again. (DESIGN CHOICE, log 3) -/
def coldState (kind : Nat) (s : State) : State :=
  ({ State.reset with
    now := s.now, cfg := s.cfg, fuses := s.fuses, nvm := coldNvm s.upd.copying s.nvm, free := s.free, out := s.out
    pending := s.pending, dram := coldDram s.dram
    power := { Power.reset with vkeepAt := s.now, resetAt := s.now, resetFrom := s.power.node.code }
    mgmt := { Mgmt.reset with heartbeatAt := s.now }
    clk := { Clocks.reset with sources := [(2, .counting s.now), (4, .counting s.now), (5, .counting s.now)] }
    path := { Path.reset with logAtStart := min s.path.logAtStart s.nvm.repairs.length } } : State).setOb 0xB040 1 kind |>.setOb 0xB001 2 (s.cfg.ksoTrimFuse % 256)
    |>.setOb 0x6020 3 (if ownerAbsent s then 0 else s.nvm.owner.policy)

/-- VKEEP rises to good. -/
def powerOn (s : State) : State := if s.power.node = .off then coldState 1 s else s

/-- POWER_ON_RESET. -/
def execPowerOnReset (s : State) : Res := .next (powerOn s)

/-- VKEEP is lost: OFF, with nothing running. -/
def vkeepLost (s : State) : State :=
  if s.power.node = .off then s
  else
    let c := coldState 1 s
    { c with power := { c.power with node := .off, vkeep := false }
             procs := { c.procs with keeper := ⟨false, none⟩ }, clk := { c.clk with sources := [] } }

/-- VKEEP_LOSS. -/
def execVkeepLoss (s : State) : Res := .next (vkeepLost s)

/-- A set reset: as a power-on reset, with the supplies as they are; the rollback floor has its copy in VKEEP (R479). -/
def setReset (held : Bool) (s : State) : State :=
  if s.power.node = .off then s
  else
    let c := coldState 2 s
    let sources := if s.power.vcore then (1, SourceState.counting s.now) :: (2, .counting s.now) :: [(3, .counting s.now)] else [(2, .counting s.now)]
    let c := { c with
      power := { c.power with vcore := s.power.vcore, vphy := s.power.vphy, setHeld := held }
      pins := { c.pins with setResetN := if held then ⟨0, s.now, true⟩ else c.pins.setResetN }
      wrap := { Wrapper.reset with capture := s.wrap.capture }
      clk := { c.clk with sources := sources ++ [(4, .counting s.now), (5, .counting s.now)], refAFrom := s.now } }
    if s.ob 0x8000 7 = 0 then c else c.setOb 0x8000 7 (s.ob 0x8000 7)

/-- SET_RESET: the taken value of sv_set_reset_n has been 0 for 1 µs. -/
def execSetReset (s : State) : Res := .next (if s.power.setHeld then s else setReset true s)

/-! ### Supplies (R418, R427) -/

/-- VCORE is good: FO and sv_ref_a start to be counted, and BOOT goes on (R399, R418). -/
def vcoreGood (s : State) : State :=
  if s.power.node = .off then s
  else
    let start (m : Nat) (s : State) : State := if s.source m = .off then s.setSource m (.counting s.now) else s
    let s := if s.power.vcore then s else start srcFo (start srcRefA (s.setClk { s.clk with refAFrom := s.now }))
    bootAdvance (s.setPower { s.power with vcore := true, vphy := true })

/-- VCORE_GOOD. -/
def execVcoreGood (s : State) : Res := .next (vcoreGood s)

/-- The channels that hold a dirty line. -/
def State.dirtyChans (s : State) : List Nat := (s.dirtyLines.map fun l => (s.place (l * 128)).c).eraseDups

/-- What goes with VCORE: the clocks of its domains, the cache, the buffers and three of the processors. -/
def coreOff (s : State) : State :=
  let off (m : Nat) : Bool := m == srcRefA || m == srcFo || decide (0x10 ≤ m)
  let s := s.setClk { s.clk with sources := s.clk.sources.filter fun p => !off p.1 }
  let s := forEach (List.range s.sheaves) (fun u s => setDomain u 0 0 s) s
  (stopProcs s).setCache { s.cache with ways := [], reds := [], fills := [] }

/-- VCORE, or VPHY, is lost while VKEEP is held: the guarantee of R272 breaks, and the node goes to HALTED (R273). The code of the
halt's cause is a free value: no event is named for it. A supply that BOOT still waits for is not lost. (DEDUCED, log 44) -/
def supplyLoss (vphy : Bool) (s : State) : State :=
  if s.power.node = .off || (!s.power.vcore && !(vphy && s.power.vphy)) then s
  else
    let dirty := s.dirtyChans
    let s := s.setPower (if vphy then { s.power with vphy := false } else { s.power with vcore := false })
    let s := if vphy then forEach (List.range s.sheaves) (fun u s => setDomain u 0 0 s) s else coreOff s
    if s.power.node = .halted then s
    else forEach dirty markUnretained (enterHalted (s.freeValue 16) false s.takeFree)

/-- SUPPLY_LOSS. -/
def execSupplyLoss (vphy : Bool) (s : State) : Res := .next (supplyLoss vphy s)

/-! ### Straps and reduced mode (R551–R554) -/

/-- The straps are held as they are sampled. (DEDUCED, log 43) -/
def takeStraps (nodeId setSize : Nat) (recovery : Bool) (s : State) : State :=
  { s with pins := { s.pins with nodeId := nodeId % 8, setSize := setSize % 8, recovery := recovery } }

/-- The Keeper starts: KFO is stable. The move out of OFF, or of the state before a set reset, is told (R413, R418). (DEDUCED, log 43) -/
def keeperStarts (s : State) : State :=
  let s := s.setPower { s.power with strapped := true }
  raiseNode Ev.nodeState (256 * s.power.resetFrom + 1) (loadSampler s)

/-- The straps are sampled when KFO becomes stable, and when a set reset is released. (DEDUCED, log 43) -/
def sampleStraps (nodeId setSize : Nat) (recovery : Bool) (s : State) : State :=
  if s.power.node = .off then s
  else if s.power.setHeld then
    let s := takeStraps nodeId setSize recovery s
    let s := { s with pins := { s.pins with setResetN := ⟨1, s.now, true⟩ }
                      wrap := { s.wrap with instr := if s.wrap.held then 0 else s.wrap.instr, held := false, waiting := none } }
    let s := s.setPower { s.power with setHeld := false }
    if s.stable srcKfo then keeperStarts s else s
  else if !s.power.strapped && s.stable srcKfo then keeperStarts (takeStraps nodeId setSize recovery s)
  else s

/-- STRAP_SAMPLE. -/
def execStrapSample (nodeId setSize : Nat) (recovery : Bool) (s : State) : Res := .next (sampleStraps nodeId setSize recovery s)

/-- A change of sv_power_warn is taken: at most one in 10 µs (R551). -/
def takePowerWarn (level : Bool) (s : State) : State :=
  let w := s.pins.powerWarn
  if s.power.node = .off || w.value = b2n level || (w.ever && !s.elapsed w.at_ (10 * usTicks)) then s
  else { s with pins := { s.pins with powerWarn := ⟨b2n level, s.now, true⟩ } }

/-- POWER_WARN_TAKEN. -/
def execPowerWarnTaken (level : Bool) (s : State) : Res := .next (takePowerWarn level s)

/-! ### What a node lets go of (R237, R385, R424, R429) -/

/-- Every request that waits in an offer buffer completes RETRY_LATER (R237, R424). -/
def refuseOffers (s : State) : State :=
  forEach ((s.path.asks.filter fun q => q.stage == .offered && q.fwd == 0 && !q.internal).map (·.id)) refuseLater s

/-- Dirty bales are written back (R356). -/
def writeBales (s : State) : State := forEach ((s.far.bales.filter (·.dirty)).map (·.num)) writeBale s

/-- Objects of chapter 08 that are counters or state: they start again at a node start and a warm reset (R237). -/
def qosCount (key : Nat) : Bool :=
  let i := key / 256
  let j := key % 256
  (i == 0x3000 && decide (6 ≤ j) && decide (j ≤ 0x0D)) || (decide (0x3010 ≤ i) && decide (i ≤ 0x301F) && decide (0x10 ≤ j) && decide (j ≤ 0x16)) ||
  (decide (0x3020 ≤ i) && decide (i ≤ 0x3027) && decide (4 ≤ j) && decide (j ≤ 9)) ||
  (decide (0x3080 ≤ i) && decide (i ≤ 0x30BF) && decide (5 ≤ j) && decide (j ≤ 7))

/-- Quality-of-service state as a node start leaves it (R237). -/
def qosStart (s : State) : State :=
  let s := { s with obj := s.obj.filter fun p => !qosCount p.1 }
  s.setPath { s.path with meters := [], shapers := [], regs := [], wfq := [], chains := [], panics := [], degrade := [] }

/-- Every named slot's keys are reloaded into the engines (R385). -/
def reloadKeys (s : State) : State :=
  s.setSec { s.sec with loaded := (s.sec.keys.map (·.1)).filter fun n => slotNamed n s.signedPlan s }


/-! ### Warm reset (R415, R427, R429, R430) -/

/-- A warm reset from HALTED: sv_thermal_trip falls, the unretained channels are to be trained in full and filled, their layers are
reset, and the node, which its peers have lost, joins the set again (R347, R422, R430, R431). (DEDUCED, log 44) -/
def warmFromHalted (s : State) : State :=
  let fill := s.power.unretained
  let s := { s with pins := { s.pins with trip := false }, heat := { s.heat with tripped := false, tripAt := 0 } }
  let s := forEach s.stacks_ (fun st s => driveHeat st (heatPin (s.level st)) s) s
  let s := forEach fill (fun c s =>
    let s := layReset c s
    let s := if s.chanState c = 6 then s.setChanState c (s.chan c).srFrom else s
    s.modChan c fun x => { x with draining := none, entry := none, time := .reset }) s
  let s := s.setPower { s.power with fill := fill }
  let again (f : Nat × Flow) : Nat × Flow := if f.2.route = 0 then f else (f.1, { f.2 with route := staleRoute })
  let s := { s with hl := { s.hl with flows := s.hl.flows.map again } }
  let s := { s with plans := { s.plans with isolated := false } }
  s.setSet { s.hl.set with state := 0, members := 0, reachable := 0, lost := 0, fenced := 0, returned := 0, links := 0, epochReached := false }

/-- Every stream engine is empty: no stream exists, and every engine reads 0 (R121). -/
def emptyEngines (s : State) : State :=
  let s := s.setFeeds { s.feeds with streams := [], old := [], engineRejoin := [] }
  forEach (List.range (16 * s.cfg.nstacks)) (fun e s => s.setOb (engineIdx e) 1 0) s

/-- A warm reset begins. (DEDUCED, log 44) -/
def beginWarm (s : State) : State :=
  let halted := s.power.node == .halted
  let s := if halted then s else flood 0x0B (leBytes 1 s.me) s
  let s := setNode .boot s
  let s := s.setPower { s.power with
    warm := true, warmAt := s.now, resetAt := s.now, entering := false, waking := false, heldWake := false
    halting := false, reloaded := false, readyAsked := false }
  let s := s.setOb 0x2000 9 0
  let s := if halted then warmFromHalted s else s
  let s := emptyEngines (fenceStreams 8 (fun _ _ => true) s)
  let s := raiseNode Ev.warmReset 0 ((s.setOb 0xB040 1 3).bump 0xB040 2)
  let s := discardSamples (refuseOffers s)
  let s := forEach s.cache.reds breakRed s
  let s := writeBales (writeBackAll (fun _ => true) s)
  let s := qosStart (endSessions s)
  let s := s.setSec { s.sec with loaded := [] }
  let s := forEach (List.range s.channels) (fun c s =>
    if s.chanState c = 2 || s.power.fill.contains c then s else drainChannel c (s.refreshClass c) 0xFFFF s) s
  stopProcs s

/-- A reset that software asks for: a set reset once a held wrapper instruction has taken effect (R556); a node that has no image to
run yet starts its boot again. -/
def warmReset (s : State) : State :=
  if s.power.testUsed then setReset false s
  else if s.power.warm && s.power.node == .boot then s
  else if !s.upd.selected then
    let s := setNode .boot ((s.setOb 0xB040 1 3).bump 0xB040 2)
    raiseNode Ev.warmReset 0 (s.setUpd { s.upd with selected := false, copying := false })
  else beginWarm s

/-- 0x2000:04. -/
def warmHome : Home := fun _ s => .done (warmReset s)

/-- WARM_RESET. -/
def execWarmReset (r : Req) (s : State) : Res := .next (dictWrite r 0x2000 4 [1] warmHome s)

/-- A channel stands in self-refresh, or is not to be waited for. -/
def State.restsNow (s : State) (c : Nat) : Bool :=
  s.chanState c == 2 || s.power.fill.contains c || ((s.dch c).selfRef.isSome && (s.chan c).entry.isNone)

/-- Dirty bales still to be written. -/
def State.balesDirty (s : State) : Bool := s.farUp && s.far.bales.any fun b => b.dirty || b.writing

/-- The Keeper has verified the bundle in a warm reset: the data is at rest, VCORE logic starts afresh, and the node enters CONFIG. The
journal's work goes back to its units; recovery records start from step 1 (R271, R429). Records of closed reductions are dropped, for which
R180 gives no rule. (DESIGN CHOICE, log 34) -/
def warmVerified (s : State) : State :=
  if !s.power.vcore || !s.dirtyLines.isEmpty || s.balesDirty || !((List.range s.channels).all s.restsNow) then s
  else
    let s := s.setCache { s.cache with ways := [], reds := [], closed := [] }
    let s := forEach (s.path.chans.map (·.1)) (fun c s =>
      let r := (s.chan c).replay
      let back (x : Rec) : Rec := if x.heal then x else { x with step := .reread, issued := false, line := none }
      syncDepth c ((s.setChan c { r.1 with recs := r.1.recs.map back }).bumpBy 0xA002 5 r.2)) s
    enterConfig false s

/-- DEEP exit: the processors are reloaded, and every channel is trained again from its record (R425). -/
def deepVerified (s : State) : State :=
  let s := startProcs (s.setPower { s.power with reloaded := true })
  forEach ((List.range s.channels).filter fun c => s.chanState c != 2) (fun c s => beginTraining c false s) s

/-- BUNDLE_VERIFIED. -/
def execBundleVerified (s : State) : Res :=
  .next (if s.power.node = .boot && s.power.warm then warmVerified s
    else if s.power.node = .deep && s.power.waking && !s.power.reloaded then deepVerified s
    else s)

/-- WRITE_BACK_LIMIT_EXPIRY: 1 ms after a warm reset or an entry to HALTED began, a line is still dirty (R180, R431). -/
def writeBackLimit (s : State) : State :=
  if !s.elapsed s.power.warmAt msT || s.dirtyLines.isEmpty then s
  else if s.power.halting then forEach s.dirtyChans markUnretained (haltChannels s)
  else if s.power.warm && s.power.node = .boot then
    let s := s.setPower { s.power with warm := false }
    enterHalted Ev.warmReset true s
  else s

def execWriteBackLimitExpiry (s : State) : Res := .next (writeBackLimit s)

/-- UNRETAINED_CHANNEL_TIMEOUT: 100 µs after the entry to HALTED a channel is not in self-refresh (R431). -/
def execUnretainedChannelTimeout (c : Nat) (s : State) : Res :=
  present (decide (c < s.channels))
    (if s.power.node = .halted && s.elapsed s.power.warmAt (100 * usTicks) && s.chanState c != 2 && (s.dch c).selfRef.isNone then
      markUnretained c s
    else s)

/-! ### State requests, REST and DEEP (R416, R424, R425) -/

/-- The segments that a range of in-package addresses meets: channel and segment. -/
def segmentsOf (base len : Nat) : List (Nat × Nat) :=
  let first := base / 2 ^ 26
  (List.range ((base + len + 2 ^ 26 - 1) / 2 ^ 26 - first)).map fun i =>
    let a := (first + i) * 2 ^ 26
    (homeChan a, bits 29 26 a)

/-- The segment masks retain the node's ledger (R363). -/
def State.ledgerKept (s : State) : Bool :=
  s.validRegions.all fun p => !(p.2.role == 2) || (segmentsOf (p.2.base * 2 ^ 21) (p.2.len * 2 ^ 21)).all fun x =>
    adNode (p.2.base * 2 ^ 21) != s.me || (s.ob (chanIdx x.1) 8).testBit x.2

/-- The plan state is ARMED or STOP_ARMED. -/
def State.tideSet (s : State) : Bool := s.planState == 3 || s.planState == 4

/-- The first reason of R416 but 0x01 that applies to a request, 0 for none. (DEDUCED, log 44) -/
def State.moveRefusal (s : State) (deep : Bool) : Nat :=
  if (match s.plans.active with | some p => p.continuity | none => false) then 2
  else if s.tideSet then 3
  else if deep && !s.ledgerKept then 4
  else if s.staging == 3 || s.upd.copying || s.sec.zeroing.isSome then 5
  else if s.ob 0xA003 2 != 0 then 6
  else 0

/-- The first reason of R416 that applies to a request for REST or DEEP, 0 for none. -/
def State.restRefusal (s : State) (deep : Bool) : Nat := if s.power.node != .ready then 1 else s.moveRefusal deep

/-- A refused request. -/
def stateRefused (reason : Nat) (s : State) : WResult :=
  .denied (raiseNode Ev.stateRequestRefused reason (s.setOb 0x2000 6 reason))

/-- Entry to REST or DEEP begins: the state changes at once, its event comes when entry completes. -/
def beginRest (deep : Bool) (s : State) : State :=
  let n : NodeState := if deep then .deep else .rest
  let s := s.setPower { s.power with resetFrom := s.power.node.code, node := n, entering := true, reloaded := false }
  let s := ((s.setOb 0x2000 1 n.code).setOb 0x2000 2 n.code).setOb 0x2000 9 1
  writeBales (writeBackAll (fun _ => true) (refuseOffers (endSessions (closeSegments s))))

/-- A wake begins: clocks start, and in REST the processors with them. -/
def beginWake (s : State) : State :=
  let s := s.setPower { s.power with waking := true, heldWake := false }
  let start (m : Nat) (s : State) : State := if s.source m = .off then s.setSource m (.counting s.now) else s
  let s := forEach (srcFo :: (List.range s.sheaves).map srcSheaf) start s
  if s.power.node = .rest then startProcs s else s

/-- 0x2000:02. -/
def stateHome (v : Nat) : Home := fun _ s =>
  let s' := s.setOb 0x2000 2 v
  if s.power.warm && !(v == 4 && s.power.node == .config) then .refused St.retry 0 s
  else if v = 4 then
    let why := s.moveRefusal false
    if why != 0 && (s.power.node == .config || s.power.node == .rest || s.power.node == .deep) then stateRefused why s
    else match s.power.node with
    | .config => .done (s'.setPower { s.power with readyAsked := true })
    | .rest => .done (if s.power.entering then s'.setPower { s.power with heldWake := true } else if s.power.waking then s' else beginWake s')
    | .deep => .done (if s.power.entering then s'.setPower { s.power with heldWake := true } else if s.power.waking then s' else beginWake s')
    | _ => stateRefused 1 s
  else if v = 6 || v = 7 then
    match s.restRefusal (v == 7) with
    | 0 => .done (beginRest (v == 7) s)
    | r => stateRefused r s
  else stateRefused 1 s

/-- STATE_REQUEST_READY, _REST and _DEEP. -/
def execStateRequestReady (r : Req) (s : State) : Res := .next (dictWrite r 0x2000 2 [4] (stateHome 4) s)
def execStateRequestRest (r : Req) (s : State) : Res := .next (dictWrite r 0x2000 2 [6] (stateHome 6) s)
def execStateRequestDeep (r : Req) (s : State) : Res := .next (dictWrite r 0x2000 2 [7] (stateHome 7) s)

/-- The journal, the reductions and the cache hold nothing that entry waits for (R424). -/
def State.drained (s : State) : Bool :=
  s.journalUsed == 0 && s.cache.reds.isEmpty && s.dirtyLines.isEmpty && !s.balesDirty

/-- Entry ends: keys cleared, units gated, ports at keepalive rate. -/
def rested (s : State) : State :=
  let deep := s.power.node == .deep
  let s := stopProcs (s.setSec { s.sec with loaded := [] })
  let s := s.setCache { s.cache with ways := [] }
  let s := forEach (List.range 4) (fun h s =>
    if (s.port h).state == .up then s.setPort h { s.port h with state := .keepalive } else s) s
  let s := s.setClk { s.clk with sources := s.clk.sources.filter fun p =>
    !(p.1 == srcFo || (decide (0x10 ≤ p.1) && decide (p.1 < 0x30))) }
  let s := forEach (List.range s.sheaves) (fun u s => setDomain u 0 0 s) s
  let s := if deep then forEach ((List.range s.channels).filter fun c => s.chanState c != 2) (fun c s => s.setOb (chanIdx c) 0x40 0) s
    else s
  let s := (s.setPower { s.power with entering := false }).setOb 0x2000 9 0
  let s := raiseNode Ev.nodeState (256 * s.power.resetFrom + s.power.node.code) s
  if s.power.heldWake then beginWake s else s

/-- REST_ENTRY_DRAINED: entry goes on once nothing is left to drain: first the channels go to self-refresh, then the node rests. (DEDUCED, log 44) -/
def restStep (s : State) : State :=
  if !s.power.entering || !s.drained then s
  else if (List.range s.channels).all s.restsNow then rested s
  else forEach ((List.range s.channels).filter fun c => !s.restsNow c && (s.chan c).draining.isNone) (fun c s =>
    drainChannel c (s.refreshClass c) (if s.power.node = .deep then s.ob (chanIdx c) 8 else 0xFFFF) s)
    (if s.power.node = .deep then setSpareMasks s else s)

def execRestEntryDrained (s : State) : Res := .next (restStep s)

/-- WAKE_EXIT_COMPLETE: every channel is out of self-refresh, with its segments written; the sensors are read and the ladder stands as they
place it (R295); the node is READY at the next frame boundary. -/
def wakeDone (s : State) : State :=
  let out (c : Nat) : Bool := s.chanState c == 2 || ((s.dch c).selfRef.isNone && s.chanState c != 6 && (s.chan c).poisonDue == 0)
  if !s.power.waking || !(List.range s.channels).all out || (s.power.node = .deep && !s.power.reloaded) then s
  else
    let s := forEach (List.range 4) (fun h s =>
      if (s.port h).state == .keepalive then s.setPort h { s.port h with state := .up } else s) s
    let s := reloadKeys (s.setPower { s.power with waking := false, reloaded := false })
    serveAll (closePorts (setNode .ready (ladderStep (readAllSensors s))))

def execWakeExitComplete (s : State) : Res := .next (wakeDone s)

/-! ### Control processors (R24–R26) -/

/-- The internal unit code of a processor (R465). -/
def ProcId.code : ProcId → Nat
  | .sequencer => 0 | .steward => 1 | .warden => 2 | .keeper => 3

/-- A processor, and a change of one. -/
def Procs.get (p : Procs) : ProcId → Proc
  | .sequencer => p.sequencer | .steward => p.steward | .warden => p.warden | .keeper => p.keeper
def Procs.set (p : Procs) (i : ProcId) (x : Proc) : Procs :=
  match i with
  | .sequencer => { p with sequencer := x } | .steward => { p with steward := x }
  | .warden => { p with warden := x } | .keeper => { p with keeper := x }

/-- Some processor restarts. -/
def Procs.anyRestart (p : Procs) : Bool :=
  p.sequencer.restart.isSome || p.steward.restart.isSome || p.warden.restart.isSome || p.keeper.restart.isSome

/-- A processor restarts (R25). A second fault before the first restart has completed halts the node (R26). (DEDUCED, log 56) -/
def restartProc (i : ProcId) (s : State) : State :=
  if !(s.procs.get i).running || s.power.node = .off then s
  else if s.procs.anyRestart then enterHalted Ev.processorRestart true s
  else singleFault Ev.processorRestart (fun s =>
    let s := raise Ev.processorRestart (ProcId.code i) 0 s
    let s := { s with procs := s.procs.set i ⟨true, some s.now⟩ }
    if i = .warden then endSessions s else s) s

/-- PROCESSOR_WATCHDOG_EXPIRY and PROCESSOR_FAULT: the Keeper restarts one of the other three. -/
def execProcessorWatchdogExpiry (p : ProcId) (s : State) : Res := .next (if p = .keeper then s else restartProc p s)
def execProcessorFault (p : ProcId) (s : State) : Res := .next (if p = .keeper then s else restartProc p s)

/-- KEEPER_WATCHDOG_EXPIRY. -/
def execKeeperWatchdogExpiry (s : State) : Res := .next (restartProc .keeper s)

/-- The Keeper logs what it has staged, and counts what it could not hold (R26). (DEDUCED, log 56) -/
def flushStaged (s : State) : State :=
  let staged := s.procs.staged
  let lost := s.procs.stagedLost
  let s := { s with procs := { s.procs with staged := [], stagedLost := 0 } }
  let s := forEach staged logEvent s
  if lost = 0 then s else raiseNode Ev.eventsDropped lost s

/-- A processor has restarted and takes up what waited for it. (DEDUCED, log 56) -/
def procBack (i : ProcId) (s : State) : State :=
  if (s.procs.get i).restart.isNone then s
  else
    let s := { s with procs := s.procs.set i ⟨true, none⟩ }
    match i with
    | .sequencer =>
      let held := s.procs.fences
      forEach held (fun f s => fenceContext f.1 f.2 s) { s with procs := { s.procs with fences := [] } }
    | .keeper => flushStaged s
    | .steward =>
      forEach s.path.hardDue (fun k s => let w := (s.path.repairLog.getD k (0, 0)).1; startHard (logChan w) (bits 45 42 w) s)
        { s with train := s.train.map fun p => (p.1, if p.2.steps.isEmpty then p.2 else { p.2 with stepAt := s.now }) }
    | .warden => s

/-- PROCESSOR_RESTART_DONE. -/
def execProcessorRestartDone (p : ProcId) (s : State) : Res := .next (procBack p s)

/-- RESTART_LIMIT_EXPIRY: a restart has not completed within 50 ms. -/
def execRestartLimitExpiry (p : ProcId) (s : State) : Res :=
  .next (match (s.procs.get p).restart with
    | some t => if s.elapsed t (50 * msT) then enterHalted Ev.processorRestart true s else s
    | none => s)

/-! ### The return of a node (R347, R434) -/

/-- 0x2000:05: a node in shadow state arms its own join and reads the active image (R81); every other member arms what it does for it. -/
def nodeRejoinHome (n : Nat) : Home := fun _ s =>
  if n = s.me then
    if s.power.shadow then
      .done (readImage false ((s.setPower { s.power with rejoin := true, reloaded := false }).armRejoin n))
    else .denied s
  else if s.hl.set.returned.testBit n then
    .done ((s.setPower { s.power with rejoinMask := setBit n true s.power.rejoinMask }).armRejoin n)
  else .denied s

/-- NODE_REJOIN. -/
def execNodeRejoin (r : Req) (node : Nat) (s : State) : Res :=
  .next (dictWrite r 0x2000 5 (leBytes 1 node) (nodeRejoinHome (node % 256)) s)

end Sys2Proof.Machine
end

