-- ==== Sys2Proof/Machine/Frames.lean ====
section
/-!
DEFINITION. Frame boundaries, tides and the frame epoch (R54, R75, R76, R78, R81, R84, R86, R329, R429, R434).
-/
namespace Sys2Proof.Machine

/-! ### Plan-bound settings (R8, R50, R76) -/

/-- A setting comes into force, with what its own chapter attaches to it: the zeroing of a new bale ledger (R354), the anchor of a new
tide interval (R75), the buckets of a meter (R223), the windows of a partition whose budget is set (R225), the credit of a shaper whose
rate or burst is set (R227, R339). (DEDUCED, log 46) The head of a region's notification queue stays where it is when its descriptor names
another base or size: R52 is silent. (DESIGN CHOICE, log 47) -/
def applySetting (key v f : Nat) (s : State) : State :=
  let i := key / 256
  let sub := key % 256
  let old := s.ob i sub
  let s := s.setOb i sub v
  match keyRegion key with
  | some _ =>
    let ledger (w : Nat) : Bool := let g := decodeRegion w; g.valid && g.role == 2
    if old != v && (ledger old || ledger v) then startLedgerZero s else s
  | none =>
    if i = 0x2200 && sub = 2 then s.setPlans { s.plans with anchor := f }
    else if 0x3080 ≤ i && i < 0x30C0 && 1 ≤ sub && sub ≤ 4 then stopWindow (i - 0x3080) s
    else if 0x3010 ≤ i && i < 0x3020 && 4 ≤ sub && sub ≤ 8 then fillMeter (i - 0x3010) s
    else if 0x3010 ≤ i && i < 0x3020 && 9 ≤ sub && sub ≤ 0x0B then setShaper (i - 0x3010) 0 s
    else if 0x5800 ≤ i && i < 0x5804 && 0x10 ≤ sub && sub < 0x20 then
      let h := i - 0x5800
      s.setPort h { s.port h with credit := put 0 (sub - 0x10) 0 (s.port h).credit }
    else s

/-- The settings that wait for a tide come into force, in the order they were accepted (R447). -/
def applyPending (f : Nat) (s : State) : State :=
  let l := s.mgmt.pendingTide
  let s := syncQueues s
  forEach l (fun p s => applySetting p.1 p.2 f s) { s with mgmt := { s.mgmt with pendingTide := [] } }

/-! ### The frame epoch and frame boundaries (R54, R84, R329) -/

/-- FRAME_EPOCH: frame 0 begins. -/
def frameEpoch (s : State) : State :=
  if s.formed && !s.hl.set.epochReached && s.before 0 0 then
    ladderStep ((s.setSet { s.hl.set with epochReached := true }).setPlans { s.plans with begun := true, frame := 0 })
  else s

def execFrameEpoch (s : State) : Res := .next (frameEpoch s)

/-- An armed tide at which the plan switches: committed, and the node carries set traffic (R78). -/
def State.switches (s : State) (f : Nat) : Bool :=
  s.planArmed && s.plans.decision == some true && !s.plans.isolated && s.armedTide == f

/-- A derate cause is absent at a frame boundary: a class that no plan lies below, and no stack at or above T_throttle; a slip takes one slot. Slack
ends as SLACK_CLEARED finds it (R84). -/
def State.causeAbsent (s : State) (b : Nat) : Bool :=
  match b with
  | 0 => match s.running with
    | none => true
    | some p => (List.range s.channels).all fun c => !s.servesData c || decide (s.refreshClass c ≤ p.cls)
  | 2 => !s.stacks_.any fun st => decide (3 ≤ s.level st) || (s.heat.unanswered && decide (2 ≤ s.level st))
  | 3 => true
  | _ => false

/-- FRAME_BOUNDARY: the frame number, the ladder's levels and classes, the derates that end, and the frames of low slack. At a switching tide
the refresh derate is judged by the new plan, in `tideSwitch`. (DEDUCED, log 46) -/
def frameBoundary (s : State) : State :=
  if !s.plans.begun || s.frame ≤ s.plans.frame then s
  else
    let passed := s.frame - s.plans.frame
    let s := if s.ob 0x2202 1 != 0 then s.bumpBy 0x2202 6 passed else s
    let low := if s.clk.slackHigh then 0 else s.plans.slackFrames + passed
    let s := s.setPlans { s.plans with frame := s.frame, slackFrames := low }
    let s := ladderStep (s.setClk { s.clk with slackHigh := false })
    forEach (if s.switches s.frame then [2, 3] else [0, 2, 3]) (fun b s => if s.causeAbsent b then endDerate b s else s) s

def execFrameBoundary (s : State) : Res := .next (frameBoundary s)

/-! ### Joins at a tide (R434) -/

/-- Channels whose rejoin object was written in time: a spare that has been filled, a channel whose data has been copied back, and a
channel that only returns. -/
def joinChannels (f : Nat) (s : State) : State :=
  forEach ((List.range s.channels).filter fun c => (s.chan c).rejoin && s.chanState c == 3 && s.rejoinDue (0x600 + c) f) (fun c s =>
    let s := s.modChan c fun x => { x with rejoin := false }
    let mine (b : Option Rebuild) (who : Rebuild → Nat) : Option Rebuild := b.filter fun b => who b == c && b.ready
    match mine s.path.reconst (·.spare), mine s.path.copyBack (·.c) with
    | some b, _ => joinSpare b s
    | none, some b => joinBack b s
    | none, none =>
      raise Ev.channelRejoined c 0 (s.setChanState c (if c % 9 = 8 then 4 else 0))) s

/-- Slices whose rejoin object was written in time. -/
def joinSlices (f : Nat) (s : State) : State :=
  let out (x : Nat) : Bool := s.sliceState x == 3 || s.sliceState x == 4
  let due (x : Nat) : Bool := !out x || s.rejoinDue (0x500 + x) f
  let l := s.cache.rejoin.filter fun x => out x && due x
  forEach l joinSlice (s.setCache { s.cache with rejoin := s.cache.rejoin.filter fun x => !due x })

/-- Another node joins: it is fenced no longer, and the lead sends it the set-wide values (R34, R347, R448). -/
def joinNode (n : Nat) (s : State) : State :=
  let v := s.hl.set
  let s := s.setPower { s.power with rejoinMask := setBit n false s.power.rejoinMask }
  let s := computeRoutes (s.setSet { v with
    reachable := setBit n true v.reachable, lost := setBit n false v.lost, fenced := setBit n false v.fenced
    returned := setBit n false v.returned })
  let s := raiseNode Ev.nodeRejoined n s
  settleJoined (if s.isLead then sendSetWide n s else s)

/-- Every other node that has returned and whose rejoin was written in time. -/
def joinNodes (f : Nat) (s : State) : State :=
  forEach ((List.range s.setNodes).filter fun n =>
    n != s.me && s.power.rejoinMask.testBit n && s.hl.set.returned.testBit n && s.rejoinDue n f) joinNode s

/-- The blockers of CONFIG are clear but the shadow state itself, and no fill is to come. -/
def State.joinClear (s : State) : Bool :=
  (List.range 10).all (fun i => i == 9 || !s.blocker i) && s.power.fill.all fun c => s.chanState c == 2

/-- The refresh derate as the running plan's class has it (R80, R82, R84). -/
def judgeRefresh (s : State) : State := if s.causeAbsent 0 then endDerate 0 s else startDerate 0 s

/-- The active plan that a returning node has read comes into force, as at a switching tide of its own. -/
def adoptPlan (f : Nat) (s : State) : State :=
  match s.plans.returning with
  | none => ((s.setPlans { s.plans with active := none }).setOb 0x2200 5 0).setOb 0x2204 3 0
  | some p =>
    let held := s.plans.loaded
    let s := switchPlan f (s.setPlans { s.plans with stopping := false, loaded := some p })
    (s.setPlans { s.plans with retiring := none, returning := none, loaded := held }).setOb 0x2200 5 p.id

/-- This node joins its set, once it has read the active image: it takes up the active plan (R81). (DEDUCED, log 46) -/
def joinSelf (f : Nat) (s : State) : State :=
  if s.power.node = .config && s.power.shadow && s.power.rejoin && s.power.reloaded && s.rejoinDue s.me f && s.joinClear then
    let s := adoptPlan f (s.setPlans { s.plans with isolated := false })
    let s := settleJoined (s.setSet { s.hl.set with fenced := setBit s.me false s.hl.set.fenced })
    let s := judgeRefresh (enterService (if s.plans.active.isSome then .run else .ready) (reloadKeys s))
    raiseNode Ev.nodeRejoined s.me s
  else s

/-! ### The tide itself -/

/-- Each window of a port's gate list that falls short at the width the port has come to (R341): admission refused it at that width, so it
was checked at a greater one. (DEDUCED, log 46) -/
def warnShort (h : Nat) (s : State) : State :=
  forEach (List.range 16) (fun l s =>
    forEach (shortWindows (s.gatesOf h) l (s.windowNeed h)) (fun _ s => raise Ev.windowShort h l s) s) s

/-- What counts since the last tide starts again from what is held now. -/
def resetPeaks (s : State) : State :=
  let s := (s.setOb 0x2202 2 0).setOb 0x2202 3 0
  let s := s.setPlans { s.plans with derated := [] }
  let s := forEach (List.range (16 * s.cfg.nstacks)) (fun e s => s.setOb (engineIdx e) 7 (s.feedHeld e true)) s
  let s := forEach (List.range 16) (fun x s => s.setOb (0x2510 + x) 7 (s.stagingOf x)) s
  let s := forEach (List.range s.channels) (fun c s =>
    (s.setOb (chanIdx c) 0x0B (s.chan c).rq.length).setOb (chanIdx c) 0x0C (s.chan c).wq.length) s
  let s := forEach (List.range 8) (fun p s =>
    s.setOb (rtIdx p) 8 (s.path.asks.filter fun q => q.stage == .offered && q.side.port == .rt p).length) s
  let s := forEach (List.range 4) (fun h s => s.setOb (hIdx h) 0x0F (s.port h).replay.length) s
  ((s.setOb 0xA002 2 s.journalUsed).setOb 0x5C00 0x0C s.far.bales.length).setOb 0xB000 2 (s.ob 0xB000 1)

/-- The switch at frame f, and the node state that follows it (R37, R78); a plan below the class in force runs derated from its first
frame (R80). (DEDUCED, log 46) -/
def tideSwitch (f : Nat) (s : State) : State :=
  let s := switchPlan f s
  if s.power.node = .ready || s.power.node = .run then
    let n : NodeState := if s.plans.active.isSome then .run else .ready
    judgeRefresh (if s.power.node = n then s else setNode n s)
  else s

/-- A warm reset ends: the node resumes once every blocker is clear and its active plan, if any, has been read again (R429). (DEDUCED, log 44) -/
def warmResume (s : State) : State :=
  if s.power.warm && s.power.node = .config && s.startClear && (s.plans.active.isNone || s.power.reloaded) then
    judgeRefresh (enterService (if s.plans.active.isSome then .run else .ready) (reloadKeys s))
  else s

/-- TIDE: a tide frame is reached. (DEDUCED, log 46) -/
def tide (s : State) : State :=
  let f := s.frame
  if !s.plans.begun || !s.isTide f || s.plans.tideDone = some f then s
  else
    let s := frameBoundary s
    let s := applyPending f s
    let s := s.setPlans { s.plans with yielded := s.ob 0x2203 1 }
    let s := joinFar f (joinChannels f (joinSlices f (joinPorts f s)))
    let s := joinSelf f (joinNodes f s)
    let s := forEach (List.range 4) warnShort (resetPeaks (resetPools s))
    let s := s.setPath { s.path with tides := s.path.tides + 1 }
    let s := armWindows f (if s.switches f then tideSwitch f s else s)
    serveAll (warmResume (s.setPlans { s.plans with tideDone := some f }))

def execTide (s : State) : Res := .next (tide s)

end Sys2Proof.Machine
end

