-- ==== Sys2Proof/Machine/Homes.lean ====
section
/-!
DEFINITION. What each object's own chapter does with a write that has passed the checks of R444 (step 8): one home operation for
every writable object of the dictionary.
-/
namespace Sys2Proof.Machine

/-- The plans that a setting is held against: active, loaded and armed. -/
def State.plansHeld (s : State) : List Plan := s.plans.active.toList ++ s.plans.loaded.toList

/-- A setting in force at the next tide, or at once in CONFIG (R8), with what its chapter attaches to it. -/
def settingHome (idx sub v : Nat) : Home := fun who s =>
  match findObj idx sub with
  | none => .done s
  | some r =>
    if r.persisted then gatherPersist who idx sub v s
    else if r.acc == .rwlTide && !s.rwlAtOnce r.setWide then .done (pendTide (objKey idx sub) v s)
    else .done (applySetting (objKey idx sub) v 0 s)

/-- A refusal of a quality-of-service object (R239). (DEDUCED, log 13) -/
def qosDenied (s : State) : WResult := .denied (raiseNode Ev.qosWriteRefused 0 s)

/-! ### Region descriptors (R49, R50) -/

/-- The regions that the planned lines and the mask lines of a plan lie in, with the descriptors ahead. -/
def State.regionsUsed (s : State) (p : Plan) : List (Nat × Region) :=
  (p.streams.flatMap fun x =>
    let lines (m : Nat × Gen × Nat) : List (Nat × Region) := ((List.range m.2.2).filterMap fun i => s.regionAt (m.2.1.addrAt i)).eraseDups
    (x.2.1.moves x.2.2).flatMap lines ++ (x.2.1.maskLines x.2.2).filterMap s.regionAt).eraseDups

/-- Reason 0x08 of R49: a change of descriptor r breaks a running or armed plan, or the ledger in use. -/
def State.regionBreaks (s : State) (r v : Nat) : Bool :=
  let new := decodeRegion v
  let now_ := s.regionsApplied
  let after := { now_ with obj := put 0 (objKey (regionIdx r) (regionSub r)) v now_.obj }
  let plans := s.running.toList ++ (if s.planArmed then s.plans.loaded.toList else [])
  let serving := s.power.node == .ready || s.power.node == .run
  let old := s.region r
  let bad (t : State) (k : Nat) (g : Region) : Bool :=
    regionShape k g (t.validRegions.filter fun q => q.1 != k) t == 6 || (g.backed && !t.validRegions.any fun p => p.2.isLedger t)
  (plans.any fun p => (p.deniedStream after).isSome && (p.deniedStream now_).isNone) ||
  (plans.any fun p => (after.regionsUsed p).any fun u => bad after u.1 u.2 && !bad now_ u.1 (now_.region u.1)) ||
  (serving && s.ob 0x5C00 1 == 1 && old.valid && old.isLedger s &&
    !(new.valid && new.isLedger s && new.base == old.base && new.len == old.len && new.far == old.far))

/-- 0x2120+g:n. (DEDUCED, log 47) -/
def regionHome (r v : Nat) (owner : Bool) : Home := fun _ s =>
  let key := objKey (regionIdx r) (regionSub r)
  let new := decodeRegion v
  let pending := match s.mgmt.pendingTide.find? fun p => p.1 == key with | some p => decodeRegion p.2 | none => s.region r
  let old := if pending.guarded then pending else s.region r
  let why := regionReason r old new owner (s.regionBreaks r v) s
  if why != 0 then
    let s := if why = 7 then raiseNode Ev.secureWriteRefused 0 s else s
    .denied (raise Ev.descriptorRefused r why (s.setOb 0x2110 2 why))
  else if s.rwlAtOnce false then .done (applySetting key v 0 s)
  else .done (pendTide key v s)

/-! ### Quality of service (R223, R226, R227) -/

/-- 0x3010+l:04 to :08: the values standing at the next tide must be valid. -/
def meterHome (l sub v : Nat) : Home := fun who s =>
  let at_ (k : Nat) : Nat := if k = sub then v else s.ahead (0x3010 + l) k
  if at_ 4 = 0 || (1 ≤ at_ 5 && at_ 5 ≤ at_ 7 && 128 ≤ at_ 6 && 128 ≤ at_ 8) then settingHome (0x3010 + l) sub v who s
  else qosDenied s

/-- 0x3010+l:09 to :0B. -/
def shaperHome (l sub v : Nat) : Home := fun who s =>
  let at_ (k : Nat) : Nat := if k = sub then v else s.ahead (0x3010 + l) k
  if at_ 9 = 1 && (at_ 0x0A = 0 || at_ 0x0B < 128) then qosDenied s else settingHome (0x3010 + l) sub v who s

/-- The regulator entry of a partition as it will stand at the next tide with a value written. -/
def State.budgetAhead (s : State) (r sub v p : Nat) : Budget :=
  let at_ (k : Nat) : Nat := if p = r && k = sub then v else s.ahead (regIdx p) k
  ⟨at_ 1, at_ 2, at_ 3, at_ 4, 0⟩

/-- An entry is feasible by itself: a disabled one is held unchecked. -/
def Budget.fits (b : Budget) : Bool :=
  !b.flags.testBit 0 || (decide (1 ≤ b.budget) && decide (1 ≤ b.window) && decide (b.window ≤ 1024) && decide (b.burst ≤ b.budget))

/-- 0x3080+r:01 to :04. -/
def budgetHome (r sub v : Nat) : Home := fun who s =>
  let all := (List.range 64).map (s.budgetAhead r sub v)
  if (s.plansHeld.any fun p => p.regulators.isSome) || !all.all Budget.fits ||
      s.shareOf s.plans.active < (all.map Budget.perFrame).sum then qosDenied s
  else settingHome (regIdx r) sub v who s

/-! ### Ports (R123, R339, R341) -/

/-- 0x2320:t: a stream of a plan held names a port of its own world. -/
def portWorldHome (t v : Nat) : Home := fun _ s =>
  if s.plansHeld.any fun p => p.streams.any fun x => x.2.2.port == t && x.2.2.world != (v == 1) then .denied s
  else .done (s.setOb 0x2320 t v)

/-- 0x5800+h:05: every window of a plan held must still take its longest parcel. -/
def guardHome (h v : Nat) : Home := fun who s =>
  let need := (s.setOb (hIdx h) 5 v).windowNeed h
  let short (p : Plan) : Bool := p.gates.any fun g => g.1 == h && (List.range 16).any fun l => !(shortWindows g.2 l need).isEmpty
  if s.plansHeld.any short then .denied s else settingHome (hIdx h) 5 v who s

/-- The rate of a port in MB/s: 256 GB/s for each module in use, 32 GB/s at keepalive rate (R322). -/
def State.portRate (s : State) (h : Nat) : Nat :=
  if (s.port h).state == .keepalive then 32000 else 256000 * (s.port h).modules

/-- 0x5800+h:(10+l): idle slope and high credit. -/
def portShaperHome (h sub v : Nat) : Home := fun who s =>
  let slope := v / 2 ^ 32
  if s.portRate h < slope || v % 2 ^ 32 < 288 then qosDenied s else settingHome (hIdx h) sub v who s

/-! ### Clocks, node and management (R55, R56, R439, R456) -/

/-- 0x2200:04: DENIED where a slot table of the active or the loaded plan does not leave that minimum (R64, R72, R89). -/
def openMinHome (v : Nat) : Home := fun who s =>
  let broken (p : Plan) (t : Nat × List Run) : Bool :=
    let types := (slotsOf t.2).map (·.1)
    (placeFault p.cls p.period p.tail v types).isSome || (admitFault p.cls p.period p.tail v types).isSome
  if s.plansHeld.any fun p => p.tables.any (broken p) then .denied s else settingHome 0x2200 4 v who s

/-- 0x2201:05: 0 or a tide frame (R89). -/
def armFrameHome (v : Nat) : Home := fun who s =>
  if v != 0 && !s.isTide v then .refused St.denied 3 s else settingHome 0x2201 5 v who s

/-- 0xB020:(u + 1): the deepest spread must fit the tail of every plan held. -/
def spreadHome (sub v : Nat) : Home := fun who s =>
  if s.plansHeld.any fun p => decide (p.tail < (1024 * 5 * v + 9999) / 10000) then .denied s else settingHome 0xB020 sub v who s

/-- 0x1010:01: a group address is refused. -/
def macHome (v : Nat) : Home := fun who s => if v.testBit 40 then .denied s else settingHome 0x1010 1 v who s

/-- 0x1080+k: a bit that names an ALARM event is stored as 0. -/
def maskHome (k sub v : Nat) : Home := fun _ s =>
  let alarm (i : Nat) : Bool := severityOf ((k + 1) * 4096 + 64 * (sub - 1) + i) == .alarm
  .done (s.setOb (0x1080 + k) sub ((List.range 64).foldl (fun m i => if alarm i then setBit i false m else m) v))

/-- 0x4000+c:08: the Steward writes the mask of a spare channel. -/
def segmentMaskHome (c v : Nat) : Home := fun _ s =>
  if isSpare c then .denied s else .done (setSpareMasks (s.setOb (chanIdx c) 8 v))

/-! ### The Warden's objects (R26, R379, R381, R383) -/

/-- 0x6020:03: put off while the Warden restarts, or while zeroisation runs. -/
def policyHome (v : Nat) : Home := fun _ s => if keyBusy s || !s.canRecord 4 then .refused St.retry 0 s else .done (writePolicy v s)

/-- 0x6020:01 and :02: an owner key is staged. -/
def ownerKeyHome (sub : Nat) (value : List Byte) : Home := fun _ s =>
  if keyBusy s then .refused St.retry 0 s
  else .done (s.setSec (if sub = 1 then { s.sec with stagedEc := value } else { s.sec with stagedMl := value }))

/-- 0x6030:03: a verification key pair is staged. -/
def verifyStageHome (value : List Byte) : Home := fun _ s =>
  if keyBusy s then .refused St.retry 0 s else .done (s.setSec { s.sec with stagedVerify := value })

/-! ### Counters, snapshots and samples (R490–R492, R496, R499) -/

/-- 0x7000:01: the lead node chooses or checks the time of a snapshot as it orders the write; T = 0 reaches the others as the time
chosen. -/
def snapshotHome (v : Nat) (lead : Bool) : Home := fun _ s =>
  let t := if v = 0 then (s.setNs + 20000 + 999) / 1000 * 1000 else v
  if s.ob 0x7000 3 = 1 then .refused St.retry 0 s
  else if lead && t < s.setNs + 10000 then .denied s
  else .done ((s.setOb 0x7000 1 t).setOb 0x7000 3 1)

/-- b:04. -/
def bankClearHome (b : Nat) : Home := applyHome fun s =>
  match s.banks.find? fun x => x.1 == b with | some x => clearBank b x.2 s | none => s

/-- 0x7000:06. -/
def clearAllHome : Home := applyHome fun s => forEach s.banks (fun x s => clearBank x.1 x.2 s) s

/-- A filter word or range: of a bank, or of the sampler from subindex `first`. -/
def filterHome (idx sub v first : Nat) : Home := fun _ s =>
  let base := if sub = first + 1 then v else s.ob idx (first + 1)
  let limit := if sub = first + 2 then v else s.ob idx (first + 2)
  if sub != first && limit < base then .denied s else .done (s.setOb idx sub v)

/-- 0x7100:01 and :05: the LFSR and the countdown are loaded. -/
def samplerHome (sub v : Nat) : Home := applyHome fun s => loadSampler (s.setOb 0x7100 sub v)

/-- 0x7100:08: records before the one named are freed, in stop mode. -/
def consumedHome (v : Nat) : Home := fun _ s =>
  let held := s.sampler.ring.map (·.seq)
  let next := s.ob 0x7100 6
  if !(held.contains v || v == next) then .denied s
  else
    let s := s.setOb 0x7100 8 v
    if s.sampleControl.testBit 13 then .done s
    else
      let ring := if v = next then [] else s.sampler.ring.dropWhile fun r => r.seq != v
      .done ((s.setOb 0x7100 7 v).setSampler { s.sampler with ring := ring })

/-! ### Every writable object -/

/-- The home operations of the chapters up to 08. -/
def homeLow (owner : Bool) (idx sub : Nat) (value : List Byte) : Option Home :=
  let v := leNat value
  if idx = 0x1010 && sub = 1 then some (macHome v)
  else if idx = 0x1040 && sub = 9 then some (applyHome clearLog)
  else if idx = 0x1040 && sub = 0x0A then some (applyHome clearAlarm)
  else if idx = 0x1041 && sub = 5 then some (applyHome clearMirror)
  else if 0x1080 ≤ idx && idx ≤ 0x108B then some (maskHome (idx - 0x1080) sub v)
  else if idx = 0x2000 && sub = 2 then some (stateHome v)
  else if idx = 0x2000 && sub = 4 then some warmHome
  else if idx = 0x2000 && sub = 5 then some (nodeRejoinHome v)
  else if idx = 0x2020 then some (enableHome sub v)
  else if 0x2120 ≤ idx && idx ≤ 0x2123 then some (regionHome (256 * (idx - 0x2120) + sub) v owner)
  else if idx = 0x2200 && sub = 2 then some (intervalHome v)
  else if idx = 0x2200 && sub = 4 then some (openMinHome v)
  else if idx = 0x2201 && sub = 4 then some (planHome v owner)
  else if idx = 0x2201 && sub = 5 then some (armFrameHome v)
  else if idx = 0x2203 && sub = 2 then some (fenceClearHome v)
  else if idx = 0x2300 && sub = 5 then some (fenceRequestHome v)
  else if idx = 0x2320 then some (portWorldHome sub v)
  else if idx = 0x2322 then some (portRejoinHome sub)
  else if idx = 0x2401 then some (poolResetHome v)
  else if idx = 0x2410 then some (standingHome (sub - 1) value)
  else if 0x2420 ≤ idx && idx ≤ 0x243F && sub = 0x10 then some (unitRejoinHome (idx - 0x2420))
  else if idx = 0x2441 then some (beyondClearHome v)
  else if idx = 0x2500 && sub = 6 then some flushAllHome
  else if 0x2510 ≤ idx && idx ≤ 0x251F && sub = 8 then some (sliceRejoinHome (idx - 0x2510))
  else if 0x2540 ≤ idx && idx ≤ 0x257F then some (syncObjectHome (256 * (idx - 0x2540) + sub) v owner)
  else if 0x3010 ≤ idx && idx ≤ 0x301F && 4 ≤ sub && sub ≤ 8 then some (meterHome (idx - 0x3010) sub v)
  else if 0x3010 ≤ idx && idx ≤ 0x301F && 9 ≤ sub && sub ≤ 0x0B then some (shaperHome (idx - 0x3010) sub v)
  else if 0x3080 ≤ idx && idx ≤ 0x30BF && sub ≤ 4 then some (budgetHome (idx - 0x3080) sub v)
  else none

/-- The home operations of the other chapters; `secured` tells of any secured session. -/
def homeHigh (owner secured : Bool) (idx sub : Nat) (value : List Byte) : Option Home :=
  let v := leNat value
  if 0x4000 ≤ idx && idx < 0x4120 then
    let c := idx - 0x4000
    match sub with
    | 0x08 => some (segmentMaskHome c v)
    | 0x1C => some (channelRejoinHome c)
    | 0x4A => some (marginHome c v)
    | 0x4C => some (retrainHome c)
    | _ => none
  else if 0x5000 ≤ idx && idx < 0x5040 && sub = 8 then some (engineRejoinHome (idx - 0x5000))
  else if 0x5800 ≤ idx && idx < 0x5804 && sub = 5 then some (guardHome (idx - 0x5800) v)
  else if 0x5800 ≤ idx && idx < 0x5804 && 0x10 ≤ sub then some (portShaperHome (idx - 0x5800) sub v)
  else if idx = 0x5C00 && sub = 5 then some (baleKeyHome v)
  else if idx = 0x5C00 && sub = 0x0D then some farRejoinHome
  else if 0x5C01 ≤ idx && idx ≤ 0x5C08 then some (deviceHome (idx - 0x5C01) sub v)
  else if idx = 0x5C10 && sub = 1 then some (transferHome value)
  else if idx = 0x6020 && sub ≤ 2 then some (ownerKeyHome sub value)
  else if idx = 0x6020 && sub = 3 then some (policyHome v)
  else if idx = 0x6020 && sub = 4 then some (ownerHome v owner secured)
  else if idx = 0x6030 && sub = 1 then some (keyHome v)
  else if idx = 0x6030 && sub = 3 then some (verifyStageHome value)
  else if idx = 0x7000 && sub = 1 then some (fun who s => snapshotHome v s.isLead who s)
  else if idx = 0x7000 && sub = 6 then some clearAllHome
  else if idx = 0x7100 && (sub = 1 || sub = 5) then some (samplerHome sub v)
  else if idx = 0x7100 && 2 ≤ sub && sub ≤ 4 then some (filterHome idx sub v 2)
  else if idx = 0x7100 && sub = 8 then some (consumedHome v)
  else if 0x7400 ≤ idx && idx < 0x7700 && sub = 4 then some (bankClearHome idx)
  else if 0x7400 ≤ idx && idx < 0x7700 && sub ≤ 3 then some (filterHome idx sub v 1)
  else if idx = 0x8000 && sub = 1 then some (blockHome (leNat (value.take 4)) (value.drop 4))
  else if idx = 0x8000 && sub = 4 then some (updateHome v none)
  else if 0x9014 ≤ idx && idx ≤ 0x9017 then some (layerExcludeHome (idx - 0x9014) sub v)
  else if idx = 0x9018 && sub = 2 then some (logicExcludeHome v)
  else if idx = 0x9020 && sub = 2 then some shutdownClearHome
  else if idx = 0xA003 && sub = 1 then some (reconstituteHome v)
  else if idx = 0xA003 && sub = 5 then some (copyBackHome v)
  else if idx = 0xB020 then some (spreadHome sub v)
  else none

/-- The home operation of a write: its chapter's own, or the value is stored as its access kind says. -/
def homeOf (owner secured : Bool) (idx sub : Nat) (value : List Byte) : Home :=
  ((homeLow owner idx sub value).orElse fun _ => homeHigh owner secured idx sub value).getD (settingHome idx sub (leNat value))

end Sys2Proof.Machine
end

