-- ==== Sys2Proof/Machine/Counters.lean ====
section
/-!
DEFINITION. The commands of counters, snapshots and sampling (R490–R494, R496, R499), and the slot sums of the Breakwater (R487).
-/
namespace Sys2Proof.Machine

/-- The dictionary index of a bank; an index that holds no object where the operand is no bank's. -/
def bankIdx (b : Nat) : Nat := if 0x7400 ≤ b && b < 0x7700 then b else 0x7700

/-- SNAPSHOT_REQUEST (R492). -/
def execSnapshotRequest (r : Req) (time : Nat) (s : State) : Res :=
  .next (dictWrite r 0x7000 1 (leBytes 8 time) (snapshotHome (time % 2 ^ 64) s.isLead) s)

/-- The members that capture: this node, and the reachable ones, that are not in BOOT or RECOVERY (R494). (DEDUCED, log 20) -/
def State.capturers (s : State) : Nat :=
  (s.others.filter fun n => let c := look 0 n s.hl.set.peerStates; c != 1 && c != 2).foldl (fun m n => m + 2 ^ n)
    (if s.power.node = .recovery || s.power.node = .boot then 0 else 2 ^ s.me)

/-- SNAPSHOT_CAPTURE: set time has reached T, and every counter is copied (R493, R494). A node in BOOT misses it. (DEDUCED, log 48) -/
def snapshotCapture (s : State) : State :=
  if s.ob 0x7000 3 != 1 || s.setNs < s.ob 0x7000 1 || s.power.node = .off then s
  else if s.power.node = .boot then (s.setOb 0x7000 5 s.capturers).setOb 0x7000 3 3
  else
    let s := forEach s.banks (fun x s => forEach (List.range x.2) (fun j s => s.setOb x.1 (0x30 + j) (s.ob x.1 (0x10 + j))) s) s
    let m := s.capturers
    let s := (s.bump 0x7000 2).setOb 0x7000 4 (s.ob 0x7000 1)
    let s := (s.setOb 0x7000 5 m).setOb 0x7000 3 (if m &&& s.hl.set.members = s.hl.set.members then 2 else 3)
    s.setOb 0x7000 7 (if s.hl.set.unsynchronised then 2 ^ s.me else 0)

def execSnapshotCapture (s : State) : Res := .next (snapshotCapture s)

/-- BANK_CLEAR (R491). -/
def execBankClear (r : Req) (bank : Nat) (s : State) : Res :=
  .next (dictWrite r (bankIdx bank) 4 [1] (bankClearHome (bankIdx bank)) s)

/-- CLEAR_ALL (R491). -/
def execClearAll (r : Req) (s : State) : Res := .next (dictWrite r 0x7000 6 [1] clearAllHome s)

/-- BANK_FILTER_WRITE (R490): the filter word (sub 1), or the base (2) or limit (3) of the range. -/
def execBankFilterWrite (r : Req) (bank sub value : Nat) (s : State) : Res :=
  .next (dictWrite r (bankIdx bank) (sub % 4) (leBytes 8 value) (filterHome (bankIdx bank) (sub % 4) (value % 2 ^ 64) 1) s)

/-- SAMPLE_CONTROL_WRITE (R496). -/
def execSampleControlWrite (r : Req) (value : Nat) (s : State) : Res :=
  .next (dictWrite r 0x7100 1 (leBytes 4 value) (samplerHome 1 (value % 2 ^ 32)) s)

/-- LFSR_SEED_WRITE (R496). -/
def execLfsrSeedWrite (r : Req) (value : Nat) (s : State) : Res :=
  .next (dictWrite r 0x7100 5 (leBytes 4 value) (samplerHome 5 (value % 2 ^ 32)) s)

/-- CONSUMED_WRITE (R499). -/
def execConsumedWrite (r : Req) (seq : Nat) (s : State) : Res :=
  .next (dictWrite r 0x7100 8 (leBytes 4 seq) (consumedHome (seq % 2 ^ 32)) s)

/-- The sums of the Breakwater that run with time: once a slot, the journal entries held and the requests in offer buffers (R487). (DEDUCED, log 48) -/
def slotSums (s : State) : State :=
  count breakwaterBank 7 (s.path.asks.filter fun q => q.stage == .offered && q.fwd == 0 && !q.internal).length
    (count breakwaterBank 6 s.journalUsed s)

end Sys2Proof.Machine
end

