-- ==== Sys2Proof/Machine/Peers.lean ====
section
/-!
DEFINITION. Between nodes: set-wide writes as they arrive (R30, R448), the parcels of requests (R334–R337), watches (R178), the loss,
partition and return of nodes (R31, R34, R344–R347), and the choice of the parcel a port sends (R338–R340).
-/
namespace Sys2Proof.Machine

/-! ### Set-wide writes (R9, R30, R31, R448) -/

/-- A piece of a write is being collected. -/
def SetWrite.partOf (w : SetWrite) (from_ order idx sub : Nat) : Bool :=
  w.req.isNone && w.waiting == 0 && !w.applied && w.via == from_ && w.order == order && w.idx == idx && w.sub == sub

/-- This node has applied an order. -/
def SetWrite.doneOrder (w : SetWrite) (order : Nat) : Bool := w.req.isNone && w.waiting == 0 && w.applied && w.order == order

/-- Remember an order as applied, and mark this node's own write that it carries. Orders below `low`, which the lead has completed, are
forgotten. -/
def noteOrder (lead order low idx sub : Nat) (value : List Byte) (s : State) : State :=
  let mark (w : SetWrite) : SetWrite :=
    if w.req.isSome && w.order == 0 && w.idx == idx && w.sub == sub && w.value == value then { w with applied := true } else w
  s.setWrites ((s.mgmt.setWrites.map mark).filter (fun w => !(w.req.isNone && w.waiting == 0 && w.applied && decide (w.order < low))) ++
    [⟨order, idx, sub, value, 0, none, lead, true, (St.ok, 0)⟩])

/-- A member adopts a value the lead holds; a difference is reported (R448). -/
def reconcileSet (idx sub : Nat) (value : List Byte) (s : State) : State :=
  match findObj idx sub with
  | none => s
  | some r =>
    let v := leNat value
    if !r.setWide || v == s.ob idx sub then s
    else
      let s := raise Ev.setwideReconciled idx sub s
      if r.persisted then persistOwn idx sub v s
      else if idx = 0x6020 then writePolicy v s
      else if idx = 0x7100 && (sub = 1 || sub = 5) then loadSampler (s.setOb idx sub v)
      else applySetting (objKey idx sub) v s.plans.anchor s

/-- The home operation of a set-wide write that came in a parcel. An ACTIVATE that the lead has ordered was accepted for every node (R481).
(DEDUCED, log 45) -/
def carriedHome (ordered owner : Bool) (idx sub : Nat) (value : List Byte) : Home := fun who s =>
  if ordered && idx == 0x8000 && sub == 4 then updateHome (leNat value) (some true) who s
  else homeOf owner owner idx sub value who s

/-- A whole set-wide write has arrived: from a member to the lead, which orders it; from the lead as a value to adopt (order 0), or as
an order to apply, once; from a member to a new lead as an order it has applied (R31). -/
def wholeWrite (hdr : Hdr) (idx sub order : Nat) (value : List Byte) (s : State) : State :=
  let home := carriedHome (order != 0) hdr.world idx sub value
  if order = 0 then
    if hdr.tag != 0 then reconcileSet idx sub value s
    else if s.isLead then leadOrder idx sub value hdr.world none hdr.origin home s
    else s
  else if s.isLead then
    if s.mgmt.setWrites.any fun w => w.order == order && w.req.isNone && w.applied then s
    else match home (.order order) (noteOrder s.me order 0 idx sub value s) with
      | .done s => s
      | .refused _ _ s => s
      | .wait s => s
  else if s.mgmt.setWrites.any fun w => w.doneOrder order then complete (.order order) St.ok 0 s
  else settle (.order order) (home (.order order) (noteOrder hdr.origin order hdr.tag idx sub value s))

/-- OBJECT_WRITE: a piece of 248 bytes has another behind it. -/
def objectTaken (hdr : Hdr) (idx sub order : Nat) (value : List Byte) (s : State) : State :=
  let part := s.mgmt.setWrites.find? fun w => w.partOf hdr.origin order idx sub
  let all := (part.map (·.value)).getD [] ++ value
  let rest := s.mgmt.setWrites.filter fun w => !w.partOf hdr.origin order idx sub
  if value.length = 248 then s.setWrites (rest ++ [⟨order, idx, sub, all, 0, none, hdr.origin, false, (St.ok, 0)⟩])
  else wholeWrite hdr idx sub order all (s.setWrites rest)

def execObjectWrite (h : Nat) (hdr : Hdr) (idx sub order : Nat) (value : List Byte) (s : State) : Res :=
  if portOk h then .next (takeParcel h hdr (objectBody idx sub order value) (objectTaken hdr idx sub order value) s)
  else .fault .absentUnit

/-- The lead answers a write this node handed to it; a status that the block never produces is UNREACHABLE, and the path it came by is
reported (R11). (DEDUCED, log 59) -/
def handedBack (h : Nat) (hdr : Hdr) (s : State) : State :=
  let mine (w : SetWrite) : Bool := w.order == 0 && w.req.isSome && 256 * w.idx + w.sub == hdr.line
  match s.mgmt.setWrites.find? mine with
  | none => s
  | some w =>
    let s := s.setWrites (s.mgmt.setWrites.takeWhile (fun x => !mine x) ++ (s.mgmt.setWrites.dropWhile fun x => !mine x).drop 1)
    match w.req with
    | some r =>
      if 8 ≤ hdr.opcode then answer r St.unreachable 0 (malformedParcel h false s) else answer r hdr.opcode hdr.context s
    | none => s

/-- A parcel reports a set-wide write rather than a request. -/
def hdrOfOrder (hdr : Hdr) : Bool := hdr.portKind == 2 && hdr.portIndex == 3 && hdr.tag != 0

/-! ### Requests between nodes (R334, R335) -/

/-- The forward-table entry a parcel belongs to. -/
def State.forwardOf (s : State) (hdr : Hdr) : Option Ask :=
  s.path.asks.find? fun q => q.fwd != 0 && q.owner == hdr.origin && portKindOf q.side.port == hdr.portKind &&
    portIndexOf q.side.port % 256 == hdr.portIndex && q.side.stream == hdr.stream && q.side.seq == hdr.rseq

/-- The entry of another node's request. -/
def State.remoteOf (s : State) (hdr : Hdr) : Option Ask :=
  s.path.asks.find? fun q => match q.side.port with
    | .headland _ g => g.origin == hdr.origin && g.portKind == hdr.portKind && g.portIndex == hdr.portIndex &&
        q.side.stream == hdr.stream && q.side.seq == hdr.rseq
    | _ => false

/-- A REQUEST for this node is offered (R215); one found a duplicate is answered ACCEPT and nothing else (R335), and a
copy of one that is still offered goes. (DEDUCED, log 23) -/
def requestTaken (h : Nat) (hdr : Hdr) (body : List Byte) (s : State) : State :=
  let op := opOf hdr.opcode body
  let side : Side := ⟨.headland h hdr, hdr.stream, hdr.rseq, 0, hdr.cls, hdr.context, hdr.world, 0, hdr.colour, hdr.tag, op.isNone⟩
  let a := 128 * hdr.line
  let q := s.newAsk side a (op.getD .read) .port
  let dup := s.duplicate q
  if s.path.asks.any fun b => b.stage == .offered && b.sameStream q && b.side.seq == q.side.seq then s
  else
    let s := arrive side a (op.getD .read) s
    if dup then
      sendParcel hdr.origin { hdr with kind := 3, dest := hdr.origin, origin := s.me, len := 0, opcode := 0, due := 0, line := 0 } [] s
    else serveAll s

/-- A REQUEST whose payload has no nonzero rsvd bit and the length its operation gives (R324, R325); a rsvd opcode is left to step 1 of
R219, and port kind 3 is rsvd. -/
def requestOk (hdr : Hdr) (body : List Byte) : Bool :=
  hdr.portKind != 3 && (match opOf hdr.opcode body with
    | some op => padBody (opBody op) == body
    | none => hdr.opcode == 0 || decide (7 ≤ hdr.opcode))

/-- A COMPLETION with no nonzero rsvd bit: no data, a line, or a state of 8 bytes (R324). -/
def completionOk (hdr : Hdr) (body : List Byte) : Bool :=
  decide (hdr.opcode < 16) && (body.isEmpty || body.length == 128 || (body.length == 32 && body.drop 8 == zeroBytes 24))

/-- REQUEST: with the offer buffer of its port full it waits at its sender (R215). (DEDUCED, log 54) -/
def execRequestParcel (h : Nat) (hdr : Hdr) (body : List Byte) (s : State) : Res :=
  if portOk h then
    .next (if hdr.dest = s.me && s.offersFull h then s else takeChecked h hdr body (requestOk hdr body) (requestTaken h hdr body) s)
  else .fault .absentUnit

/-- A unit's own request that another node has answered is done with, unless the unit has still to take its line. -/
def answerInternal (id : Nat) (s : State) : State :=
  match s.ask? id with
  | some q => (match q.why with
    | .image _ => s.modAsk id fun b => { b with fwd := 0, delivered := false }
    | .mask _ _ => s.modAsk id fun b => { b with fwd := 0, delivered := false }
    | _ => dropAsk id s)
  | none => s

/-- A completion comes back: one already taken is discarded. A unit's own request is done with at once; a port's waits for its
delivery. RETRY_LATER starts the refusal chain here (R337). A status that the block never produces counts as an effect not applied,
UNREACHABLE, and the path it came by is reported (R11). (DEDUCED, log 59) -/
def completionTaken (h : Nat) (hdr : Hdr) (body : List Byte) (s : State) : State :=
  if hdrOfOrder hdr then handedBack h hdr s
  else
    match s.forwardOf hdr with
    | none => s
    | some q =>
      if q.stage == .finished then s
      else
        let data := if body.isEmpty || 8 ≤ hdr.opcode then none else some (leNat body)
        let st := if 8 ≤ hdr.opcode then St.unreachable else hdr.opcode
        let s := if 8 ≤ hdr.opcode then malformedParcel h false s else s
        if q.internal then serveAll (answerInternal q.id (sendDone q (finish q.id st data s)))
        else
          let later := laterAsks q.id s.path.asks
          let s := finish q.id st data s
          serveAll (if st = St.retry then startChain q later s else s)

/-! ### Loss (R31, R34, R179, R336, R345, R346) -/

/-- The members of a mask that this node can reach over up links between them, itself included: R of R328. (DEDUCED, log 21) -/
def State.component (s : State) (members : Nat) : Nat :=
  let near (c n : Nat) : Bool := (List.range 4).any fun h => match neighbour s.setNodes n h with
    | some k => c.testBit k && linkUp s.setNodes s.hl.set.links n h
    | none => false
  let round (c : Nat) : Nat := (List.range s.setNodes).foldl (fun c n =>
    if members.testBit n && !c.testBit n && near c n then c + 2 ^ n else c) c
  (List.range 8).foldl (fun c _ => round c) (2 ^ s.me)

/-- The members that no up link joins to the members this node can reach: every link to such a node from a reachable member is silent
or down (R345). (DEDUCED, log 21) -/
def State.cutOff (s : State) : List Nat :=
  let r := s.component s.hl.set.reachable
  s.others.filter fun n => !r.testBit n

/-- A report of a set-wide write has come as a DONE: a member has applied an order, a member has told all it had applied, or the new lead
has settled what was pending (R9, R31). -/
def orderReported (hdr : Hdr) (s : State) : State :=
  if hdr.tag != settledTag then settleLead (ackOrder hdr.tag hdr.origin (hdr.opcode % 8) hdr.context s)
  else if s.mgmt.settling && !s.isLead && hdr.origin = s.hl.set.lead then
    answerHanded { s with mgmt := { s.mgmt with settling := false, reported := 0 } }
  else settleLead { s with mgmt := { s.mgmt with reported := setBit hdr.origin true s.mgmt.reported } }

/-- A new lead node, where the lost one was lead (R31). -/
def leadChange (n : Nat) (s : State) : State :=
  if s.hl.set.lead != n then s
  else let lead := lowestNode s.hl.set.reachable; newLead lead (raiseNode Ev.leadChanged lead s)

/-- What a lost node held here: its offered requests go, its accepted ones run on with no one to answer (R179, R336). -/
def dropRemote (n : Nat) (s : State) : State :=
  let mine (q : Ask) : Bool := match q.side.port with | .headland _ g => g.origin == n | _ => false
  let gone := s.path.asks.filter fun q => mine q && q.stage != .accepted
  let s := forEach gone (fun q s => dropAsk q.id s) s
  s.setAsks (s.path.asks.map fun q => if mine q then { q with side := { q.side with port := .unit 1 } } else q)

/-- The ports and flows toward a lost node start afresh when it returns. -/
def clearPeer (n : Nat) (s : State) : State :=
  let s := forEach (List.range 4) (fun h s =>
    if neighbour s.setNodes s.me h = some n then
      s.setPort h { s.port h with replay := [], resend := [], egress := [], waited := [], peerReset := none }
    else s) s
  let from_ (f : Nat × Flow) : Bool := (List.range 16).any fun c => f.1 == flowKey n s.me c
  restartFlows n { s with hl := { s.hl with flows := s.hl.flows.filter fun f => !from_ f } }

/-- Streams that wait for, or are to signal, an object of a lost node have their contexts fenced (R179). -/
def loseTargets (n : Nat) (s : State) : State :=
  let hit (t : Stream) : Option Nat :=
    match t.waiting.filter (fun w => syncNode w.1 == n) with
    | some w => some w.1
    | none => (t.signals.find? fun g => syncNode g.object == n).map (·.object)
  forEach s.allStreams (fun p s => match hit p.2 with | some obj => lostTarget p.1 obj p.2 s | none => s) s

/-- What follows from the loss of one member: it is fenced, its forwarded requests complete UNREACHABLE, what it held here goes, and
set-wide writes no longer wait for it. (DEDUCED, log 21) -/
def loseMember (n : Nat) (s : State) : State :=
  let v := s.hl.set
  let s := s.setSet { v with
    reachable := setBit n false v.reachable, lost := setBit n true v.lost, fenced := setBit n true v.fenced
    returned := setBit n false v.returned, resetting := put 0 n 0 v.resetting }
  let s := { s with power := { s.power with rejoinMask := setBit n false s.power.rejoinMask } }
  let s := raiseNode Ev.nodeLost n (computeRoutes s)
  let s := forEach (s.path.asks.filter fun q => q.fwd != 0 && q.owner == n && q.stage != .finished) (fun q s =>
    let s := finish q.id St.unreachable none s
    if q.internal then dropAsk q.id s else s) s
  clearPeer n (dropRemote n (dropWatcher n (loseTargets n s)))

/-- A node is lost, and with it every member that could be reached through it alone; then the lead and the quorum are settled, against
the members before the loss (R346). -/
def nodeLost (n : Nat) (s : State) : State :=
  let before := s.hl.set.reachable
  if !s.formed || n = s.me || !before.testBit n then s
  else
    let after := s.component (setBit n false before)
    let gone := s.others.filter fun m => !after.testBit m
    let s := forEach gone loseMember s
    let s := breakContinuity 2 (if gone.contains s.hl.set.lead then leadChange s.hl.set.lead s else s)
    let s := if s.isLead then
        settleLead (forEach gone (fun n s => forEach (s.mgmt.setWrites.filter fun w => w.waiting.testBit n) (fun w s => ackOrder w.order n St.ok 0 s) s) s)
      else s
    if quorum before s.hl.set.reachable then serveAll s
    else
      let s := raiseNode Ev.setPartitioned 0 (s.setSet { s.hl.set with
        state := 2, fenced := 2 ^ s.setNodes - 1 - 2 ^ s.me, reachable := 2 ^ s.me })
      enterHalted Ev.setPartitioned true s

/-- This node is the first to find a node lost: it floods LOST. -/
def findLost (n : Nat) (s : State) : State :=
  if !s.formed || n = s.me || !s.hl.set.reachable.testBit n then s
  else
    let mask := s.component (setBit n false s.hl.set.reachable)
    let s := forEach (s.others.filter fun m => m != n) (fun m s => sendControl 3 m (lostBody n mask) s) s
    nodeLost n s

/-- Every node that has been cut off is lost. (DEDUCED, log 21) -/
def checkLoss (s : State) : State := if s.formed then forEach s.cutOff findLost s else s

/-- LOST: a parcel, or this node's own finding. -/
def execLost (via : Option (Nat × Hdr)) (node mask : Nat) (s : State) : Res :=
  match via with
  | some (h, hdr) => if portOk h then .next (takeParcel h hdr (lostBody node mask) (nodeLost node) s) else .fault .absentUnit
  | none => .next (if s.cutOff.contains node then findLost node s else s)

/-! ### Link states (R344, R345) -/

/-- LINK_STATE. -/
def linksTaken (origin links : Nat) (s : State) : State :=
  checkLoss (computeRoutes (s.setSet { s.hl.set with links := mergeLinks s.me origin s.hl.set.links links }))

def execLinkState (h : Nat) (hdr : Hdr) (links : Nat) (s : State) : Res :=
  if portOk h then .next (takeParcel h hdr (wordBody links) (linksTaken hdr.origin links) s) else .fault .absentUnit

/-- LINK_SILENT: nothing has arrived for 2 µs, and neither retraining nor a warm reset of the peer suspends the count. -/
def linkSilent (h : Nat) (s : State) : State :=
  let p := s.port h
  if !p.live || p.silent || p.retraining || p.peerReset.isSome || !s.elapsed p.lastReceived (2 * usTicks) then s
  else checkLoss (setOwnLink h 2 (s.setPort h { p with silent := true }))

def execLinkSilent (h : Nat) (s : State) : Res := if portOk h then .next (linkSilent h s) else .fault .absentUnit

/-- RETRAIN_LIMIT_EXPIRY: a link that was reset is not up in time (R332): its training has not ended. -/
def retrainLimit (h : Nat) (s : State) : State :=
  let p := s.port h
  if p.state != .training || !p.retraining || !p.everUp || !s.elapsed p.trainAt (s.ob (hIdx h) 7 * usTicks) then s
  else
    let s := raise Ev.linkDown h 0 (s.setPort h { p with state := .down, retraining := false })
    checkLoss (setOwnLink h 3 s)

def execRetrainLimitExpiry (h : Nat) (s : State) : Res := if portOk h then .next (retrainLimit h s) else .fault .absentUnit

/-! ### Warm resets and returns (R335, R344, R347, R429) -/

/-- A node says that it resets warm: requests to it wait, and the silent count toward it stops. -/
def peerResets (node : Nat) (s : State) : State :=
  let s := s.setSet { s.hl.set with resetting := put 0 node (s.now + 1) s.hl.set.resetting }
  forEach (List.range 4) (fun h s =>
    if neighbour s.setNodes s.me h = some node then s.setPort h { s.port h with peerReset := some s.now } else s) s

def execWarmResetParcel (h : Nat) (hdr : Hdr) (node : Nat) (s : State) : Res :=
  if portOk h then .next (takeParcel h hdr (leBytes 1 node) (peerResets node) s) else .fault .absentUnit

/-- WARM_RESET_LIMIT_EXPIRY. -/
def warmResetLimit (node : Nat) (s : State) : State :=
  let t := look 0 node s.hl.set.resetting
  if t = 0 || !s.elapsed (t - 1) (s.ob 0x5808 0x0C * msT) then s else findLost node s

def execWarmResetLimitExpiry (node : Nat) (s : State) : Res := .next (warmResetLimit node s)

/-- REJOIN: a node that was lost announces its return; it stays in shadow state (R347). -/
def nodeReturns (node : Nat) (s : State) : State :=
  if !s.formed || node = s.me || s.setNodes ≤ node || s.hl.set.reachable.testBit node then s
  else computeRoutes (s.setSet { s.hl.set with returned := setBit node true s.hl.set.returned, lost := setBit node false s.hl.set.lost })

def execRejoin (h : Nat) (hdr : Hdr) (node : Nat) (s : State) : Res :=
  if portOk h then .next (takeParcel h hdr (leBytes 1 node) (nodeReturns node) s) else .fault .absentUnit

/-- Routes that have changed are settled, and a neighbour whose link is up again has come back. -/
def settleRoutes (h : Nat) (s : State) : State :=
  let s := match neighbour s.setNodes s.me h with
    | some n => if (s.port h).greeted && (s.port h).peerReset.isNone then peerBack n s else s
    | none => s
  forEach ((List.range 8).filter fun n => s.hl.set.rerouted.testBit n && n != s.me && s.canReach n &&
    look 0 n s.hl.set.resetting == 0) reissue s

/-! ### ACCEPT, COMPLETION, DONE and NOTICE (R178, R334) -/

def execCompletionParcel (h : Nat) (hdr : Hdr) (body : List Byte) (s : State) : Res :=
  if portOk h then .next (takeChecked h hdr body (completionOk hdr body) (completionTaken h hdr body) s) else .fault .absentUnit

/-- ACCEPT: the requester's handshake is answered. -/
def acceptTaken (hdr : Hdr) (s : State) : State :=
  match s.forwardOf hdr with
  | some q => if q.fwd = 1 && q.stage != .finished then s.modAsk q.id fun q => { q with fwd := 2 } else s
  | none => s

def execAcceptParcel (h : Nat) (hdr : Hdr) (s : State) : Res :=
  if portOk h then .next (takeParcel h hdr [] (acceptTaken hdr) s) else .fault .absentUnit

/-- DONE: the completion has been delivered at its origin, and the entry here is retired (R269); or a member has applied an order. -/
def doneTaken (hdr : Hdr) (s : State) : State :=
  if hdrOfOrder hdr then orderReported hdr s
  else
    match s.remoteOf hdr with
    | some q =>
      if q.stage != .finished then s
      else
        let s := sampleEnd 0 q.id 0 (q.result.getD (0, none)).1 (s.modAsk q.id fun q => { q with delivered := true })
        serveAll (retire q.id s)
    | none => s

def execDoneParcel (h : Nat) (hdr : Hdr) (s : State) : Res :=
  if portOk h then .next (takeParcel h hdr [] (doneTaken hdr) s) else .fault .absentUnit

/-- NOTICE: a watched object of another node has changed. -/
def noticeTaken (object value : Nat) (s : State) : State :=
  { s with feeds := { s.feeds with streams := s.feeds.streams.map fun p => (p.1, p.2.notice object value) } }

def execNotice (h : Nat) (hdr : Hdr) (object value : Nat) (s : State) : Res :=
  if portOk h then .next (takeParcel h hdr (leBytes 4 object ++ leBytes 8 value ++ zeroBytes 20) (noticeTaken (object % 2 ^ 17) value) s)
  else .fault .absentUnit

/-! ### Gates, shapers and the choice of a parcel (R338–R340) -/

/-- The period of a port's gate list in ticks, and the place of now in it: frame (f − a) mod P (R58, R340). -/
def State.gatePlace (s : State) (h : Nat) : Nat :=
  let total := ((s.gatesOf h).map (·.interval)).sum * slotT
  (s.setTicks - s.epochT + total - s.plans.activeFrom * frameT % max 1 total) % max 1 total

/-- The entries from a place in a gate list on: the ticks left of the entry under way, and what follows it once round. (DEDUCED, log 24) -/
def gatesFrom (place : Nat) (l all : List Gate) : List (Nat × Gate) :=
  match l with
  | [] => all.map fun g => (g.interval * slotT, g)
  | g :: rest =>
    if place < g.interval * slotT then (g.interval * slotT - place, g) :: (rest ++ all).map fun g => (g.interval * slotT, g)
    else gatesFrom (place - g.interval * slotT) rest all

/-- Ticks for which a class's window stays open from now; none when it does not close, 0 when it is closed. -/
def State.openFor (s : State) (h l : Nat) : Option Nat :=
  let gs := s.gatesOf h
  if gs.all fun g => g.mask.testBit l then none
  else some ((((gatesFrom (s.gatePlace h) gs gs).takeWhile fun g => g.2.mask.testBit l).map (·.1)).sum)

/-- The ticks of the entries up to the first gate change that closes any gate; none when nothing closes. -/
def firstClose : List (Nat × Gate) → Option Nat
  | (t, g) :: (u, k) :: l =>
    if (List.range 16).any fun c => g.mask.testBit c && !k.mask.testBit c then some t else (firstClose ((u, k) :: l)).map (t + ·)
  | _ => none

/-- Ticks until the next gate change that closes any gate. -/
def State.closeAfter (s : State) (h : Nat) : Option Nat := let gs := s.gatesOf h; firstClose (gatesFrom (s.gatePlace h) gs gs)

/-- Ticks until the next window of a class that is not open now, or that opens again after the one open now. -/
def State.opensIn (s : State) (h l : Nat) : Option Nat :=
  let gs := s.gatesOf h
  let es := gatesFrom (s.gatePlace h) gs gs
  let rest := es.dropWhile fun g => g.2.mask.testBit l
  let shut := rest.takeWhile fun g => !g.2.mask.testBit l
  if shut.length = rest.length then none else some (((es.take (es.length - rest.length)).map (·.1)).sum + (shut.map (·.1)).sum)

/-- The rate of a port in GB/s: 256 for each module in use, 32 at keepalive rate (R322). -/
def State.portGb (s : State) (h : Nat) : Nat :=
  if (s.port h).state == .keepalive then 32 else 256 * max 1 (s.port h).modules

/-- A parcel's time at a port and the guard band, in 1/12,000 ns (R322, R340). -/
def State.fitNeed (s : State) (h : Nat) (p : Parcel) : Nat :=
  12000 * (32 + 32 * p.hdr.len) / s.portGb h + 12 * s.ob (hIdx h) 5

/-- A parcel fits a span of ticks. -/
def State.fitsIn (s : State) (h : Nat) (p : Parcel) : Option Nat → Bool
  | none => true
  | some t => t != 0 && decide (s.fitNeed h p ≤ 1000 * t)

/-- Idle slope and high credit of a class on a port (R339). -/
def State.slopeOf (s : State) (h l : Nat) : Nat := s.ob (hIdx h) (0x10 + l) / 2 ^ 32
def State.hiOf (s : State) (h l : Nat) : Nat := s.ob (hIdx h) (0x10 + l) % 2 ^ 32

/-- One tick of the credit shapers of a port: a waiting class whose gate is open gains, one with nothing waiting loses what it has
saved. One unit of credit is 1/12,000 of a byte. (DEDUCED, log 24) -/
def tickPort (h : Nat) (s : State) : State :=
  let p := s.port h
  let one (l : Nat) (c : Int) : Int :=
    let waits := p.egress.any fun q => q.hdr.cls == l && q.hdr.kind != 6 && q.hdr.kind ≤ 5
    if !waits then (if 0 < c then 0 else c)
    else if s.openFor h l = some 0 || (p.lastClass = l && s.now < p.creditAt) then c
    else min ((s.hiOf h l : Int) * 12000) (c + s.slopeOf h l)
  let ls := (List.range 16).filter fun l => s.slopeOf h l != 0
  if ls.isEmpty then s
  else s.setPort h { p with credit := ls.foldl (fun m l => put 0 l (one l (look 0 l m)) m) p.credit }

/-- A link parcel (R324). -/
def Parcel.isLink (p : Parcel) : Bool := decide (7 ≤ p.hdr.kind)

/-- The class parcels a port could send next: the first of each class and lane, in the order of R338. -/
def State.classOrder (s : State) (h : Nat) : List Nat :=
  let p := s.port h
  let cl := (List.range 16).filter fun l => p.egress.any fun q => !q.isLink && q.hdr.kind != 6 && q.hdr.cls == l
  let turn (l : Nat) : Nat := (l + 16 - look 0 (s.classRank l) p.turns) % 16
  sortList cl fun a b => decide (s.classRank b < s.classRank a) || (s.classRank a == s.classRank b && decide (turn a ≤ turn b))

/-- The first parcel of a class on each lane, in the order they came. -/
def HPort.heads (p : HPort) (l : Nat) : List Parcel :=
  let c := p.egress.filter fun q => !q.isLink && q.hdr.kind != 6 && q.hdr.cls == l
  c.filter fun q => (c.find? fun r => r.hdr.detour == q.hdr.detour) == some q

/-- The first CONTROL parcel on each lane. -/
def HPort.controls (p : HPort) : List Parcel :=
  let c := p.egress.filter fun q => q.hdr.kind == 6
  c.filter fun q => (c.find? fun r => r.hdr.detour == q.hdr.detour) == some q

/-- The peer's lane has room for a parcel (R331): of the base lane what HOP_ACK has reported, 32 units held for each class and 512
shared; 256 units of the detour lane. What has not been acknowledged counts as held there. (DEDUCED, log 23) -/
def HPort.laneRoom (p : HPort) (q : Parcel) : Bool :=
  let used (f : Hdr → Bool) : Nat := (p.replay.filterMap fun r => if f r.hdr then some (hdrUnits r.hdr) else none).sum
  if q.hdr.detour then decide (used (·.detour) + hdrUnits q.hdr ≤ 256)
  else
    let taken (l : Nat) : Nat := used (fun r => !r.detour && r.cls == l) + if l = q.hdr.cls then hdrUnits q.hdr else 0
    decide (hdrUnits q.hdr ≤ p.room) && decide (((List.range 16).map fun l => taken l - 32).sum ≤ 512)

/-- A sequenced parcel may leave at all: the node is not isolated (R78), the link is up and greeted, the replay buffer has a place, and the peer has room. -/
def State.mayLeave (s : State) (h : Nat) (q : Parcel) : Bool :=
  let p := s.port h
  p.live && p.greeted && !s.plans.isolated && !s.crossingShut (768 + h) && decide (p.replay.length < 512) && p.laneRoom q

/-- A FLOW_RESET of a parcel's flow waits at the port: it goes first (R333). -/
def HPort.resets (p : HPort) (q : Parcel) : Bool := p.egress.any fun r =>
  r.hdr.kind == 6 && r.hdr.opcode == 5 && r.hdr.origin == q.hdr.origin && r.hdr.dest == q.hdr.dest && r.hdr.cls == q.hdr.cls

/-- A class parcel is eligible: its gate is open and it fits, its shaper has credit, and no FLOW_RESET of its flow waits. -/
def State.parcelEligible (s : State) (h : Nat) (q : Parcel) : Bool :=
  s.mayLeave h q && !(s.port h).resets q && s.fitsIn h q (s.openFor h q.hdr.cls) &&
  (s.slopeOf h q.hdr.cls == 0 || decide (0 ≤ look 0 q.hdr.cls (s.port h).credit))

/-- Count a class head that waits for a window, once for each window it waits for (R340). -/
def noteWait (h : Nat) (q : Parcel) (s : State) : State :=
  let p := s.port h
  let l := q.hdr.cls
  let key := 2 * l + b2n q.hdr.detour
  let next := match s.opensIn h l with | some t => s.now + t + 1 | none => 1
  if !s.mayLeave h q || s.fitsIn h q (s.openFor h l) || look 0 key p.waited == next then s
  else
    let c : Cause := ⟨some l, q.hdr.world, q.hdr.portKind, q.hdr.portIndex, q.hdr.origin, some (128 * q.hdr.line)⟩
    countIf (headlandBank h) 5 1 c ((s.bump (hIdx h) 0x0E).setPort h { p with waited := put 0 key next p.waited })

/-- What the port takes (R338): a link parcel, a parcel to be replayed, a CONTROL parcel, a class parcel. -/
inductive Choice where
  | link (p : Parcel)
  | replay (p : Parcel)
  | fresh (p : Parcel)
  deriving DecidableEq, Repr

/-- The first eligible parcel. A refused port carries HELLO and KEEPALIVE alone. -/
def State.choose (s : State) (h : Nat) : Option Choice :=
  let p := s.port h
  let open_ (q : Parcel) : Bool := q.isLink && (p.state != .refused || q.hdr.kind == 8 || q.hdr.kind == 9)
  match p.egress.find? open_ with
  | some q => some (.link q)
  | none =>
    if !(p.live && p.greeted) || s.plans.isolated then none
    else match p.resend with
      | q :: _ => some (.replay q)
      | [] =>
        match p.controls.find? fun q => s.mayLeave h q && s.fitsIn h q (s.closeAfter h) with
        | some q => some (.fresh q)
        | none => (((s.classOrder h).flatMap p.heads).find? (s.parcelEligible h)).map .fresh

/-- Begin a parcel on the link. (DEDUCED, log 24) -/
def launch (h : Nat) (q : Parcel) (s : State) : State :=
  let s := (s.send (.parcel h q)).bump (hIdx h) 8
  let s := if q.hdr.kind = 6 then s else s.bumpBy (hIdx h) (0x30 + q.hdr.cls % 16) (32 + 32 * q.hdr.len)
  s.setPort h { s.port h with lastSent := s.now }

/-- A link parcel as it leaves: TIME is stamped at the flit boundary (R342). -/
def stamped (h : Nat) (q : Parcel) (s : State) : Parcel := if q.hdr.kind = 7 then { q with body := timeBody h s } else q

/-- A list without the first parcel equal to one. -/
def dropFirst (q : Parcel) : List Parcel → List Parcel
  | [] => []
  | r :: l => if r == q then l else r :: dropFirst q l

/-- PARCEL_TRANSMIT. -/
def transmit (h : Nat) (s : State) : State :=
  let s := settleRoutes h s
  let s := forEach ((s.classOrder h).flatMap (s.port h).heads) (noteWait h) s
  let p := s.port h
  match s.choose h with
  | none => s
  | some (.link q) => count (headlandBank h) 6 1 (launch h (stamped h q s) (s.setPort h { p with egress := dropFirst q p.egress }))
  | some (.replay q) =>
    countIf (headlandBank h) 4 1 ⟨some q.hdr.cls, q.hdr.world, q.hdr.portKind, q.hdr.portIndex, q.hdr.origin, some (128 * q.hdr.line)⟩
      (launch h q ((s.setPort h { p with resend := p.resend.drop 1 }).bump (hIdx h) 0x0A))
  | some (.fresh q) =>
    let l := q.hdr.cls
    let sent : Parcel := { q with hdr := { q.hdr with hop := p.txHop } }
    let bytes := 32 + 32 * q.hdr.len
    let busy := (12 * bytes + s.portGb h - 1) / s.portGb h
    let cost : Int := 12000 * (bytes : Int) * ((s.slopeOf h l : Int) - s.portRate h) / max 1 (s.portRate h)
    let credit := if q.hdr.kind = 6 || s.slopeOf h l = 0 then p.credit else put 0 l (look 0 l p.credit + cost) p.credit
    let s := s.setPort h { p with
      egress := dropFirst q p.egress, txHop := (p.txHop + 1) % 65536, replay := p.replay ++ [sent], credit := credit
      room := if q.hdr.detour then p.room else p.room - hdrUnits q.hdr, creditAt := if q.hdr.kind = 6 then p.creditAt else s.now + busy
      lastClass := if q.hdr.kind = 6 then p.lastClass else l, turns := if q.hdr.kind = 6 then p.turns else put 0 (s.classRank l) (l + 1) p.turns
      waited := if q.hdr.kind = 6 then p.waited else put 0 (2 * l + b2n q.hdr.detour) 0 p.waited }
    let s := launch h sent (countParcel 0 h sent.hdr s)
    s.peak (hIdx h) 0x0F (s.port h).replay.length

def execParcelTransmit (h : Nat) (s : State) : Res := if portOk h then .next (transmit h s) else .fault .absentUnit

end Sys2Proof.Machine
end

