-- ==== Sys2Proof/Machine/Wrapper.lean ====
section
/-!
DEFINITION. The IEEE 1500 test wrapper (R555, R556): what an update of the wrapper instruction register loads, and what the
selected register captures.
-/
namespace Sys2Proof.Machine

/-- Where a held instruction may take effect (R556): held in set reset, or in HALTED. -/
def State.wrapHeldOk (s : State) : Bool := s.power.setHeld || s.power.node == .halted

/-- The wrapper with another instruction and captured register. -/
def State.setWrap (s : State) (w : Wrapper) : State := { s with wrap := w }

/-- The wrapper has power: VKEEP is good. -/
def wrapPowered (f : State → State) (s : State) : State := if s.power.node = .off then s else f s

/-- An instruction that is not held: it takes effect at once, and its register captures `capture`. -/
def wrapFree (code capture : Nat) (s : State) : State := s.setWrap ⟨code, false, none, capture⟩

/-- A held instruction takes effect: the node's next reset is a set reset. What its register then captures (results of a
self-test or a loopback, the boundary, a debug port) no rule states: a free value of its width `w`. -/
def wrapHeld (code w : Nat) (s : State) : State :=
  { s.takeFree with wrap := ⟨code, true, none, s.freeValue w⟩, power := { s.power with testUsed := true } }

/-- A held instruction that is no debug unlock; where it may not take effect the register loads WS_BYPASS. (DESIGN CHOICE, log 27) -/
def wrapTest (code w : Nat) (s : State) : State := if s.wrapHeldOk then wrapHeld code w s else wrapFree 0 0 s

/-- A held debug unlock (R389, R556): the register shifts as bypass until zeroisation completes, and loads WS_BYPASS when the
unlock is refused or the Warden is already zeroising. -/
def wrapDebug (code w : Nat) (s : State) : State :=
  if !s.wrapHeldOk || s.sec.zeroing.isSome then wrapFree 0 0 s
  else
    let t := serveAll (debugUnlock code (s.takeFree.setWrap ⟨0, false, some code, s.freeValue w⟩))
    if t.wrap.waiting.isSome && t.sec.zeroing.isNone then t.setWrap ⟨0, false, none, 0⟩ else t

/-- SV_IDCODE: the hardware version over 0x5658. -/
def State.idCode (s : State) : Nat := s.cfg.hardwareVersion % 65536 * 65536 + 0x5658

/-- SV_STATUS: node state, blockers and self-test result. (DESIGN CHOICE, log 27) -/
def State.wrapStatus (s : State) : Nat :=
  s.power.node.code * 2 ^ 56 + s.blockersShown % 1024 * 2 ^ 46 + s.ob 0xB040 5 % 64 * 2 ^ 40

/-- WS_BYPASS: the bypass register. -/
def execWsBypass (s : State) : Res := .next (wrapPowered (wrapFree 0 0) s)

/-- WS_EXTEST: the boundary register drives and captures the port signals. (DESIGN CHOICE, log 27) -/
def execWsExtest (s : State) : Res := .next (wrapPowered (wrapTest 1 1088) s)

/-- WS_INTEST_SCAN. -/
def execWsIntestScan (s : State) : Res := .next (wrapPowered (wrapDebug 2 1088) s)

/-- SV_IDCODE. -/
def execSvIdcode (s : State) : Res := .next (wrapPowered (fun s => wrapFree 3 s.idCode s) s)

/-- SV_STATUS. -/
def execSvStatus (s : State) : Res := .next (wrapPowered (fun s => wrapFree 4 s.wrapStatus s) s)

/-- SV_MBIST_LOGIC: the 32-bit result of the self-test of buffers and queues. -/
def execSvMbistLogic (s : State) : Res := .next (wrapPowered (wrapTest 5 32) s)

/-- SV_MBIST_CACHE: the 32-bit result of the self-test of the cache arrays. -/
def execSvMbistCache (s : State) : Res := .next (wrapPowered (wrapDebug 6 32) s)

/-- SV_MBIST_VKEEP: the 32-bit result of the self-test of journal, object store and key store. -/
def execSvMbistVkeep (s : State) : Res := .next (wrapPowered (wrapDebug 7 32) s)

/-- SV_SDI_LOOP: the 144-bit result of the loopback inside each PHY; no command reaches the layers. -/
def execSvSdiLoop (s : State) : Res := .next (wrapPowered (wrapTest 8 144) s)

/-- SV_DRAM_ACCESS: the 64-bit command register is selected. (DESIGN CHOICE, log 27) -/
def execSvDramAccess (s : State) : Res := .next (wrapPowered (wrapDebug 9 64) s)

/-- SV_PROC_DEBUG: the 64-bit port of the Sequencer, Steward and Keeper is selected. (DESIGN CHOICE, log 27) -/
def execSvProcDebug (s : State) : Res := .next (wrapPowered (wrapDebug 10 64) s)

/-- SV_WARDEN_DEBUG: the 64-bit port of the Warden is selected. (DESIGN CHOICE, log 27) -/
def execSvWardenDebug (s : State) : Res := .next (wrapPowered (wrapDebug 11 64) s)

end Sys2Proof.Machine
end

