-- ==== Sys2Proof/Machine/Records.lean ====
section
/-!
DEFINITION. The NVM record rules (R467–R470): what the end of a record write does, and a copy that fails. Areas are numbered
in the order of R467's table: 0 map, 1 persisted objects, 2 event mirror, 3 shutdown record, 4 owner record, 5 certificates,
6 repair log, 7 training record of channel `index`, 8 active slot, 9 staging slot.
-/
namespace Sys2Proof.Machine

/-- The key under which a record area is held. (DEDUCED, log 28) -/
def areaKey (area index : Nat) : Nat := if area = 7 then 0x100 + index else area

/-- A record area as the Keeper knows it. -/
def State.recordArea (s : State) (area index : Nat) : RecordArea := look .reset (areaKey area index) s.nvm.areas

/-- Change a record area. -/
def State.setRecordArea (s : State) (area index : Nat) (x : RecordArea) : State :=
  { s with nvm := { s.nvm with areas := put .reset (areaKey area index) x s.nvm.areas } }

/-- Sectors of 4 KiB that the write of one copy erases: the whole copy of an area that holds one record of 64 KiB, else one. -/
def copySectors (area : Nat) : Nat := if area = 1 || area = 4 || area = 5 then 16 else 1

/-- Records that reduced mode puts off (R554). -/
def putOff (area : Nat) : Bool := area == 1 || area == 2 || area == 7

/-- The copies that may be written. -/
def RecordArea.usableCopies (x : RecordArea) : Nat := b2n (!x.failedA) + b2n (!x.failedB)

/-- Every usable copy has been written, each under the number after the newer one's (R469). -/
def RecordArea.written (x : RecordArea) : RecordArea :=
  { x with seq := (x.seq + x.usableCopies) % 2 ^ 32, validA := x.validA || !x.failedA, validB := x.validB || !x.failedB }

/-- The gathered writes come into force and complete. -/
def gatherWritten (s : State) : State :=
  let l := s.nvm.gather
  let s := { s with nvm := { s.nvm with gather := [], gatherDue := false } }
  forEach l (fun w s =>
    let s := { (s.setOb w.idx w.sub w.value) with nvm := s.nvm.persist (objKey w.idx w.sub) w.value }
    complete w.who St.ok 0 s) s

/-- The gathered writes cannot be recorded: they complete RETRY_LATER and the stored values stay. -/
def gatherRefused (s : State) : State :=
  let l := s.nvm.gather
  forEach l (fun w s => complete w.who St.retry 0 s) { s with nvm := { s.nvm with gather := [], gatherDue := false } }

/-- A channel's training record is no longer due. -/
def trainSettled (c : Nat) (s : State) : State :=
  { s with nvm := { s.nvm with trainDue := s.nvm.trainDue.filter fun x => x != c } }

/-- One copy of a channel's training record is written. -/
def trainCopy (c : Nat) (b : Bool) (seq : Nat) (s : State) : State :=
  { s with nvm := { s.nvm with training := put 0 (copyKey c b) (leNat (buildRecord c seq s)) s.nvm.training } }

/-- A channel's training record stands in the copies of its area that are in use, written one after the other (R315, R316). -/
def trainWritten (c : Nat) (x : RecordArea) (seq : Nat) (s : State) : State :=
  let s := trainSettled c s
  let s := if x.failedA then s else trainCopy c false (if x.failedB then seq else (seq + 2 ^ 32 - 1) % 2 ^ 32) s
  let s := if x.failedB then s else trainCopy c true seq s
  s.setOb (chanIdx c) 0x49 seq

/-- Neither copy of an area can be written. -/
def recordRefused (area index : Nat) (s : State) : State :=
  if area = 1 then gatherRefused s
  else if area = 7 && s.nvm.trainDue.contains index then raise Ev.recordWriteFailed index 0 (trainSettled index s)
  else s

/-- The record of an area has something to write. -/
def recordDueIn (area index : Nat) (s : State) : Bool :=
  if area = 1 then s.nvm.gatherDue && !s.nvm.gather.isEmpty
  else if area = 7 then s.nvm.trainDue.contains index
  else decide (area < 7)

/-- A record has been written to its usable copies. (DEDUCED, log 28) -/
def areaWritten (area index : Nat) (s : State) : State :=
  if s.power.node = .off || !s.nvm.usable || !recordDueIn area index s then s
  else if putOff area && s.reduced then (if area = 1 then gatherRefused s else s)
  else
    let x := s.recordArea area index
    if x.usableCopies = 0 then recordRefused area index s
    else
      let y := x.written
      let s := (s.setRecordArea area index y).bumpBy 0x1070 6 (copySectors area * x.usableCopies)
      if area = 1 then gatherWritten s
      else if area = 6 then { s with nvm := { s.nvm with repairs := s.path.repairLog } }
      else if area = 7 then trainWritten index x y.seq s
      else s

/-- NVM_RECORD_WRITE: the record write of an area ends. (DEDUCED, log 28) -/
def execNvmRecordWrite (area index : Nat) (s : State) : Res :=
  if area = 7 && !decide (index < s.channels) then .fault .absentUnit else .next (areaWritten area index s)

/-- A copy has failed twice: it is out of use until the next start. The last copy in force keeps what it holds. (DEDUCED, log 28) -/
def copyFailed (area index : Nat) (copyB : Bool) (s : State) : State :=
  let s := (raiseNode Ev.nvmWriteFailed 0 (s.bump 0x1070 4)).setOb 0x1070 1 2
  if area = 9 then s.setUpd { s.upd with failed := true }
  else if area = 8 then
    if s.upd.copying then
      let s := { s with nvm := { s.nvm with activeSlot := [] } }
      enterRecovery true (raiseNode Ev.imageInvalid 0 (s.setUpd { s.upd with copying := false }))
    else s
  else
    let x := s.recordArea area index
    let y : RecordArea :=
      if copyB then { x with failedB := true, validB := x.validB && x.failedA }
      else { x with failedA := true, validA := x.validA && x.failedB }
    let s := s.setRecordArea area index y
    if y.usableCopies = 0 then recordRefused area index s
    else if area = 7 && s.nvm.trainDue.contains index then raise Ev.recordWriteFailed index 0 s
    else s

/-- NVM_WRITE_FAILED. (DEDUCED, log 28) -/
def execNvmWriteFailed (area index : Nat) (copyB : Bool) (s : State) : Res :=
  let x := s.recordArea area index
  if area = 7 && !decide (index < s.channels) then .fault .absentUnit
  else if s.power.node = .off || !s.nvm.usable || (if copyB then x.failedB else x.failedA) || decide (9 < area) then .next s
  else .next (copyFailed area index copyB s)

end Sys2Proof.Machine
end

