-- ==== Sys2Proof/Machine/Reads.lean ====
section
/-!
DEFINITION. Reading an object (R444–R449): the checks, the value in force of every object, and the objects whose value is
computed from other state. Secure fields read 0 outside an owner session (R369).
-/
namespace Sys2Proof.Machine

/-! ### The checks -/

/-- Subindex 0x00 of an index that holds objects is a U8 that gives the highest subindex (R447). -/
def countRow (idx sub : Nat) : Option ObjRow :=
  if sub = 0 && !arrayIndex idx && indexExists idx then
    (objRows.find? fun r => decide (r.lo ≤ idx) && decide (idx ≤ r.hi)).map fun r =>
      { r with slo := 0, shi := 0, ty := .u8, acc := .ro, setWide := false, persisted := false, rng := .any }
  else none

/-- The object an index and subindex name, the counts of R447 included. -/
def readRow (idx sub : Nat) : Option ObjRow := (findObj idx sub).orElse fun _ => countRow idx sub

/-- Write-only objects. -/
def Acc.writeOnly : Acc → Bool
  | .wo | .woOwner | .woOwned => true
  | _ => false

/-- Whether the unit check applies: the count at a subindex belongs to its index as a whole. -/
def rowPresent (r : ObjRow) (idx sub : Nat) (s : State) : Bool :=
  match r.unit with
  | .tile | .unitSub | .unitMon => sub = 0 || unitPresent r idx sub s
  | _ => unitPresent r idx sub s

/-- The first failing one of steps 1 to 5 for a read: status and detail; otherwise the row. -/
def readChecks (idx sub : Nat) (s : State) : (Nat × Nat) ⊕ ObjRow :=
  match readRow idx sub with
  | none => .inl (St.denied, if decide (0xF000 ≤ idx) && !s.sec.debugFlag then 0 else 1)
  | some r =>
    if !rowPresent r idx sub s then .inl (St.unreachable, 0)
    else match readState idx sub s with
      | some st => .inl (st, 8)
      | none =>
        if unitGated r idx sub s then .inl (St.unitOff, 0)
        else if r.acc.writeOnly then .inl (St.denied, 0)
        else .inr r

/-! ### Computed values -/

/-- The code of a port state (0x5800+h:01). -/
def PortState.code : PortState → Nat
  | .down => 0 | .training => 1 | .up => 2 | .keepalive => 3 | .refused => 4 | .unconnected => 5

/-- 0x5000+e:(40 + q): the waiting state and the instruction index are those of the instruction decoded next. (DESIGN CHOICE, log 32) -/
def State.streamStatus (s : State) (n : Nat) : Nat :=
  match s.stream? n with
  | none => 0
  | some t =>
    let code := if t.fenced then 4 else if t.cur.ended && t.runs.isEmpty then 3 else if t.waiting.isSome then 2 else 1
    code * 2 ^ 60 + t.lag % 2 ^ 24 * 2 ^ 24 + (t.desc.first + t.cur.pc) % 4096 * 4096

/-- A set address shown only where R369 lets it be. -/
def State.shownAddress (s : State) (a : Nat) (owner : Bool) : Nat := if s.secureAt a && !owner then 0 else a

/-- A pool's state word (0x2404+g:n). -/
def State.poolWord (s : State) (r : Nat) : Nat :=
  if (s.region r).role = 1 && (s.region r).valid then (s.pool r).2.1 % 65536 * 2 ^ 48 + (s.pool r).1 % 2 ^ 32 else 0

/-- Identity, management and node objects. (DEDUCED, log 29) -/
def readLow (idx sub : Nat) (s : State) : Option Nat :=
  match idx, sub with
  | 0x1000, 1 => some (leNat [0x50, 0x72, 0x65, 0x76, 0x65, 0x69, 0x63, 0x61])
  | 0x1000, 2 => some (leNat [0x53, 0x76, 0x61, 0x6F, 0x6C, 0x20, 0x48, 0x58, 0x38])
  | 0x1000, 3 => some s.cfg.hardwareVersion
  | 0x1000, 4 => some s.cfg.romVersion
  | 0x1000, 6 => some s.cfg.packageSerial
  | 0x1000, 8 => some s.keeperNs
  | 0x1000, 9 => some s.mgmt.pendingTide.length
  | 0x1010, 3 => some (s.me + 1)
  | 0x1010, 0x0E => some s.mgmt.segments.length
  | 0x1020, 4 => some s.mgmt.partner.state
  | 0x1040, 1 => some s.mgmt.log.length
  | 0x1040, 0x0B => some (b2n s.pins.alarm)
  | 0x1041, 1 => some s.nvm.mirror.length
  | 0x2000, 1 => some s.power.node.code
  | 0x2000, 7 => some (b2n s.power.shadow)
  | 0x2000, 8 => some s.blockersShown
  | 0x2100, 1 => some s.setNodes
  | 0x2100, 2 => some s.cfg.nstacks
  | 0x2100, 3 => some s.me
  | 0x2101, 2 => some (sharedBytes (s.ob 0x2101 1))
  | 0x2110, 1 => some s.validRegions.length
  | 0x2200, 1 => some s.plans.frame
  | 0x2200, 7 => some (if s.planArmed then s.armedTide else 0)
  | 0x2200, 3 => some (s.tideFrom (if s.plans.begun then s.plans.frame + 1 else 0))
  | 0x2300, 1 => some (16 * s.cfg.nstacks)
  | 0x2300, 2 => some (b2n s.chaff)
  | 0x2500, 8 => some s.cache.reds.length
  | 0x3000, 0x0E => some (s.shareOf s.plans.active)
  | 0x6000, 1 => some s.sec.lifecycle.code
  | 0x6000, 2 => some s.sec.setTag
  | 0x6000, 3 => some s.fuses.epoch
  | 0x6000, 4 => some (b2n s.sec.identityOk)
  | 0x6000, 5 => some (b2n s.sec.debugFlag)
  | 0x6010, 1 => some s.sec.sessions.length
  | 0x6010, 4 => some s.cfg.enterprise
  | 0xA002, 1 => some s.journalUsed
  | 0xA020, 1 => some s.path.repairLog.length
  | _, _ => none

/-- Set, port and far-tier objects. (DEDUCED, log 29) -/
def readHeadland (idx sub : Nat) (s : State) : Option Nat :=
  if decide (0x5800 ≤ idx) && decide (idx < 0x5804) then
    let h := idx - 0x5800
    let p := s.port h
    if sub = 1 then some (if (neighbour s.setNodes s.me h).isNone then PortState.unconnected.code else if s.adapterOn h then p.state.code else 0)
    else if sub = 2 then some p.modules
    else if sub = 3 then some (if p.greeted then (neighbour s.setNodes s.me h).getD 0xFF else 0xFF)
    else if sub = 4 then some p.refusal
    else if decide (0x20 ≤ sub) && decide (sub < 0x30) then some (unsigned 32 (look 0 (sub - 0x20) p.credit / 12000))
    else none
  else match idx, sub with
    | 0x5808, 1 => some s.hl.set.state
    | 0x5808, 3 => some s.hl.set.reachable
    | 0x5808, 4 => some s.hl.set.lost
    | 0x5808, 5 => some s.hl.set.lead
    | 0x5808, 6 => some (s.hl.set.epoch.getD 0)
    | 0x5808, 9 => some s.forwarded
    | 0x580A, 1 => some s.setNs
    | 0x580A, 2 => some (unsigned 32 s.hl.set.offset)
    | 0x580A, 3 => some (s.timeParent.getD 0xFF)
    | 0x580A, 4 => some (unsigned 32 s.hl.set.rate)
    | 0x5C00, 1 => some (if s.power.node == .rest || s.power.node == .deep || !s.adapterOn 4 then 0 else s.ob 0x5C00 1)
    | 0x5C10, 2 => some s.far.transfers.length
    | 0x5809, n => some (s.route (n - 1))
    | _, _ => none

/-- Objects of families by instance. (DEDUCED, log 29) -/
def readFamily (idx sub : Nat) (s : State) (owner : Bool) : Option Nat :=
  if decide (0x5000 ≤ idx) && decide (idx < 0x5040) && decide (0x40 ≤ sub) then
    let n := 64 * (idx - 0x5000) + sub % 64
    if sub < 0x80 then some (s.streamStatus n)
    else some (match s.stream? n with | some t => t.credits | none => 0)
  else if decide (0x3010 ≤ idx) && decide (idx < 0x3020) && sub = 0x15 && s.shaped (idx - 0x3010) then
    some (unsigned 32 (s.shaperNow (idx - 0x3010) / (byteUnit : Int)))
  else if decide (0x2404 ≤ idx) && decide (idx < 0x2408) then some (s.poolWord (256 * (idx - 0x2404) + sub))
  else if decide (0x4000 ≤ idx) && decide (idx < 0x4120) && decide (0xC0 ≤ sub) then
    some (match look none (sub - 0xC0) (s.chan (idx - 0x4000)).weak with | some w => w.word s.setTicks | none => 0)
  else if decide (0x2540 ≤ idx) && decide (idx < 0x2580) then some (look 0 (256 * (idx - 0x2540) + sub) s.syncs)
  else if idx = 0x6080 then some (slotWord sub s.signedPlan s)
  else if decide (0x9008 ≤ idx) && decide (idx < 0x900C) && sub = 4 then
    some ((look 0 (idx - 0x9008) s.heat.grace - 1 - s.now) / usTicks)
  else if decide (0x9008 ≤ idx) && decide (idx < 0x900C) && sub = 6 then
    let since := look 0 (idx - 0x9008) s.heat.haltedAt
    some ((s.ob idx 6 + (if since = 0 then 0 else (s.now + 1 - since) / usTicks)) % 2 ^ 64)
  else if decide (0x7400 ≤ idx) && decide (idx < 0x7700) && sub = 5 then some (s.stickyMap idx)
  else match idx, sub with
    | 0x2110, 4 => some (s.shownAddress (s.ob 0x2110 4) owner)
    | 0xA001, 0x0B => some (s.shownAddress (s.ob 0xA001 0x0B) owner)
    | 0x2441, 2 => some (s.shownAddress (s.ob 0x2441 2) owner)
    | _, _ => none

/-! ### Selected entries -/

/-- An event log entry as a reader sees it. -/
def LogEntry.shown (e : LogEntry) (owner : Bool) : List Byte := if owner then e.bytes else e.forOthers.bytes

/-- The log entry with a sequence number. -/
def State.logEntry? (s : State) (seq : Nat) : Option LogEntry := s.mgmt.log.find? fun e => e.seq == seq

/-- A sample record as a reader sees it; one not held reads 0 (R499). -/
def State.sampleShown (s : State) (seq : Nat) (owner : Bool) : List Byte :=
  match s.sample? (seq % 2 ^ 32) with | some r => r.shown owner | none => zeroBytes 64

/-- A selected record that has been written and is no longer held (R499). -/
def State.sampleGone? (s : State) (seq : Nat) : Bool :=
  (s.sample? seq).isNone && seq != s.ob 0x7100 6 && decide ((s.ob 0x7100 6 + 2 ^ 32 - seq) % 2 ^ 32 < 2 ^ 31)

/-- Objects that show a selected entry: none for another object, `some none` when the entry no longer exists. (DEDUCED, log 29) -/
def readEntry (idx sub : Nat) (owner : Bool) (s : State) : Option (Option (List Byte)) :=
  let select := s.ob 0x1040 3
  let record := s.ob 0x7100 9
  match idx, sub with
  | 0x1040, 4 => some ((s.logEntry? select).map fun e => e.shown owner)
  | 0x1040, 5 => some ((s.logEntry? select).map fun _ =>
      (List.range 32).flatMap fun i => match s.logEntry? ((select + i) % 2 ^ 32) with
        | some e => e.shown owner
        | none => zeroBytes 32)
  | 0x1041, 3 => some ((s.nvm.mirror.reverse[s.ob 0x1041 2]?).map fun e => e.shown owner)
  | 0x7100, 0x0A => some (if s.sampleGone? record then none else
      some ((List.range 16).flatMap fun i => s.sampleShown (record + i) owner))
  | 0x7100, 0x0F => some (if s.sampleGone? record then none else some (s.sampleShown record owner))
  | 0xA020, 3 => some ((s.path.repairLog[s.ob 0xA020 2]?).map fun e => leBytes 8 e.1 ++ leBytes 8 e.2)
  | 0x6001, 1 => some (some (certChain 0 s))
  | 0x6001, 2 => some (some (certChain 1 s))
  | _, _ => none

/-! ### A read -/

/-- The value of an object as a number. -/
def State.readValue (s : State) (idx sub : Nat) (owner : Bool) : Nat :=
  if (findObj idx sub).isNone then highestSub idx
  else (((readLow idx sub s).orElse fun _ => readHeadland idx sub s).orElse fun _ => readFamily idx sub s owner).getD (s.ob idx sub)

/-- The bytes of an object whose row is `r`; none when a selected entry no longer exists. -/
def State.readBytes (s : State) (r : ObjRow) (idx sub : Nat) (owner : Bool) : Option (List Byte) :=
  match readEntry idx sub owner s with
  | some b => b
  | none => some (leBytes r.ty.sizes.2 (s.readValue idx sub owner))

/-- A Normal-world read of a Secure synchronisation object (R174). -/
def State.syncHidden (s : State) (idx sub : Nat) (owner : Bool) : Bool :=
  decide (0x2540 ≤ idx) && decide (idx < 0x2580) && !owner && s.syncSecure (256 * (idx - 0x2540) + sub)

/-- The outcome of the checks and the read: status and detail, or the bytes. (DEDUCED, log 29) -/
def State.readObject (s : State) (idx sub : Nat) (owner : Bool) : (Nat × Nat) ⊕ List Byte :=
  match readChecks idx sub s with
  | .inl e => .inl e
  | .inr r =>
    if s.syncHidden idx sub owner then .inl (St.denied, 0)
    else match s.readBytes r idx sub owner with
      | some b => .inr b
      | none => .inl (St.denied, 3)

/-- DOMAIN objects, which are read in segments (R449). -/
def ObjTy.isDomain : ObjTy → Bool
  | .domain _ | .domainUpTo _ => true
  | _ => false

/-- READ: a value of more than `limit` bytes does not fit one response. -/
def readRequest (r : Req) (idx sub limit : Nat) (s : State) : State :=
  match s.readObject idx sub (s.isOwner r) with
  | .inl (st, d) => answer r st d s
  | .inr b => if limit < b.length then answer r St.denied 2 s else respond r ⟨St.ok, 0, b, none, false⟩ s

/-- SEG_READ: `count` bytes of a DOMAIN object from an offset, fewer at its end. (DEDUCED, log 30) -/
def segRead (r : Req) (idx sub offset count limit : Nat) (s : State) : State :=
  match s.readObject idx sub (s.isOwner r) with
  | .inl (st, d) => answer r st d s
  | .inr b =>
    let domain := match readRow idx sub with | some x => x.ty.isDomain | none => false
    if !domain || count = 0 || limit < count then answer r St.denied 2 s
    else respond r ⟨St.ok, 0, (b.drop offset).take count, none, decide (offset + count < b.length)⟩ s

end Sys2Proof.Machine
end

