-- ==== Sys2Proof/Machine/Doorbell.lean ====
section
/-!
DEFINITION. Dictionary writes as they arrive (R439, R444, R448, R450), the end of a segmented write, and the request that the SoC
places in the dictionary window (R440, R441, R463, R548).
-/
namespace Sys2Proof.Machine

/-! ### Writes -/

/-- The home operation of a write that a source makes in one request. An object written at offsets takes segmented writes only
(R480). -/
def writeHome (r : Req) (idx sub : Nat) (value : List Byte) (s : State) : Home :=
  if offsetObject idx sub then fun _ s => .denied s else homeOf (s.isOwner r) (s.inSession r) idx sub value

/-- DICTIONARY_WRITE. -/
def execDictionaryWrite (r : Req) (idx sub : Nat) (value : List Byte) (s : State) : Res :=
  .next (dictWrite r idx sub value (writeHome r idx sub value s) s)

/-- REGION_DESCRIPTOR_WRITE: descriptor n. -/
def execRegionDescriptorWrite (r : Req) (n : Nat) (value : List Byte) (s : State) : Res :=
  let n := n % 1024
  .next (dictWrite r (0x2120 + n / 256) (n % 256) value (regionHome n (leNat value) (s.isOwner r)) s)

/-! ### The end of a segmented write (R450, R451, R480) -/

/-- A session ends: every byte is there and the CRC agrees, or it is refused. (DEDUCED, log 30) -/
def segEnd (r : Req) (idx sub crc : Nat) (s : State) : State :=
  match s.segment r.src idx sub with
  | none => answer r St.denied 4 s
  | some g =>
    if g.got.length != g.total then answer r St.denied 4 s
    else
      let s := s.setSegments (dropSegment r.src idx sub s.mgmt.segments)
      if crc32c g.got != crc then
        answer r St.denied 5 (if offsetObject idx sub then raiseNode Ev.updateBlockBad 0 s else s)
      else
        let value := if offsetObject idx sub then leBytes 4 g.base ++ g.got else g.got
        carryOut r idx sub value (homeOf (s.isOwner r) (s.inSession r) idx sub value) s

/-- SEG_END. -/
def execSegEnd (r : Req) (idx sub crc : Nat) (s : State) : Res :=
  .next (takeRequest r (.segEnd idx sub crc) (segEnd r idx sub crc) s)

/-! ### Requests that have waited (R443) -/

/-- What a request that has waited does once it is begun: the action of its kind. -/
def heldAct (r : Req) (i : RequestOp) (s : State) : State :=
  match i with
  | .write idx sub value => carryOut r idx sub value (writeHome r idx sub value s) s
  | .segStart idx sub total base => segStart r idx sub total base s
  | .segData idx sub offset data => segData r idx sub offset data s
  | .segEnd idx sub crc => segEnd r idx sub crc s
  | .segAbort idx sub => segAbort r idx sub s
  | i => spdmHeld r i s

/-- The first request that waits behind its source is carried out once nothing of that source is (R443). (DEDUCED, log 11) -/
def drainWaiting (s : State) : State :=
  match s.mgmt.waiting.find? fun w => !s.srcBusy w.req.src with
  | none => s
  | some w =>
    beginRequest w.req (heldAct w.req w.what) { s with mgmt := { s.mgmt with waiting := s.mgmt.waiting.filter fun x => x != w } }

/-! ### The window (R463, R548) -/

/-- A message of the window that R441 calls malformed, or that the window does not carry. (DEDUCED, log 30) -/
def messageBad (m : List Byte) : Bool :=
  let byte (i : Nat) : Nat := (m.getD i 0).toNat
  decide (m.length < 16) || byte 0 / 16 != 1 || bits 3 3 (byte 0) == 1 || bits 1 0 (byte 0) != 0 || byte 1 == 0 || byte 1 == 8 ||
  byte 1 == 9 || decide (0x0B ≤ byte 1) || byte 4 != 0 || byte 9 != 0 || decide (4080 < leNat (sliceBytes 10 2 m)) ||
  decide (m.length < 16 + leNat (sliceBytes 10 2 m))

/-- The most a window message carries. -/
def windowLimit : Nat := 4080

/-- The Keeper carries out a request of the window by its op (R441); SPDM units are taken by the commands of chapter 14, which
answer them. (DEDUCED, log 30) -/
def windowRequest (m : List Byte) (s : State) : State :=
  let r : Req := ⟨.window, leNat (sliceBytes 2 2 m)⟩
  let idx := leNat (sliceBytes 6 2 m)
  let sub := leNat (sliceBytes 8 1 m)
  let offset := leNat (sliceBytes 12 4 m)
  let data := (m.drop 16).take (leNat (sliceBytes 10 2 m))
  let short (n : Nat) (f : State → State) : State := takeNow r (if data.length = n then f else answer r St.denied 2) s
  match leNat (sliceBytes 1 1 m) with
  | 1 => takeNow r (readRequest r idx sub windowLimit) s
  | 2 => takeNow r (carryOut r idx sub data (writeHome r idx sub data s)) s
  | 3 => short 2 (segRead r idx sub offset (leNat data) windowLimit)
  | 4 => short 8 (segStart r idx sub (leNat (data.take 4)) (leNat (data.drop 4)))
  | 5 => takeNow r (segData r idx sub offset data) s
  | 6 => short 4 (segEnd r idx sub (leNat data))
  | 7 => takeNow r (segAbort r idx sub) s
  | _ => s

/-- The doorbell is rung with a message in REQ_BUF. While the window is busy the message there stays the first one, and the second
request is only noted. (DEDUCED, log 30) -/
def doorbell (m : List Byte) (s : State) : State :=
  let w := s.mgmt.window
  let setW (x : Window) : State := { s with mgmt := { s.mgmt with window := x } }
  if s.power.node = .off then s
  else if w.busy then noteSecond ⟨.window, leNat (sliceBytes 2 2 m)⟩ s
  else if messageBad m then raiseNode Ev.frameMalformed 0 ((setW { w with reqBuf := m }).bump 0x1010 0x0B)
  else if leNat (sliceBytes 1 1 m) = 0x0A then
    let unit := m.drop 16
    if (unit.getD 0 2).toNat < 2 then
      let last := bits 2 2 (m.getD 0 0).toNat == 0
      setW { w with reqBuf := m, busy := last, unit := last }
    else (setW { w with reqBuf := m }).bump 0x1010 0x0B
  else windowRequest m (setW { w with reqBuf := m, busy := true })

/-- DOORBELL: the message of the request buffer. -/
def execDoorbell (message : List Byte) (s : State) : Res := .next (doorbell (message.take 4096) s)

end Sys2Proof.Machine
end

