-- ==== Sys2Proof/Machine/Dispatch.lean ====
section
/-!
DEFINITION. The dispatcher: one arm per command, each a direct call of that command's meaning.
-/
namespace Sys2Proof.Machine

/-- The effect of a command on everything but the queue. -/
def exec (i : Instr) (s : State) : Host.Outcome State Fault Refusal :=
  match i with
  | .powerOnReset => Sys2Proof.Machine.execPowerOnReset s
  | .vkeepLoss => Sys2Proof.Machine.execVkeepLoss s
  | .vcoreGood => Sys2Proof.Machine.execVcoreGood s
  | .supplyLoss vphy => Sys2Proof.Machine.execSupplyLoss vphy s
  | .setReset => Sys2Proof.Machine.execSetReset s
  | .warmReset r => Sys2Proof.Machine.execWarmReset r s
  | .stateRequestReady r => Sys2Proof.Machine.execStateRequestReady r s
  | .stateRequestRest r => Sys2Proof.Machine.execStateRequestRest r s
  | .stateRequestDeep r => Sys2Proof.Machine.execStateRequestDeep r s
  | .configBlockersClear => Sys2Proof.Machine.execConfigBlockersClear s
  | .restEntryDrained => Sys2Proof.Machine.execRestEntryDrained s
  | .wakeExitComplete => Sys2Proof.Machine.execWakeExitComplete s
  | .unretainedChannelTimeout c => Sys2Proof.Machine.execUnretainedChannelTimeout c s
  | .unretainedPoisonFillDone c => Sys2Proof.Machine.execUnretainedPoisonFillDone c s
  | .checkerSelfTestDone channels journalA journalB comparators monitors replicas slices => Sys2Proof.Machine.execCheckerSelfTestDone channels journalA journalB comparators monitors replicas slices s
  | .nodeRejoin r node => Sys2Proof.Machine.execNodeRejoin r node s
  | .processorWatchdogExpiry p => Sys2Proof.Machine.execProcessorWatchdogExpiry p s
  | .processorFault p => Sys2Proof.Machine.execProcessorFault p s
  | .keeperWatchdogExpiry => Sys2Proof.Machine.execKeeperWatchdogExpiry s
  | .processorRestartDone p => Sys2Proof.Machine.execProcessorRestartDone p s
  | .restartLimitExpiry p => Sys2Proof.Machine.execRestartLimitExpiry p s
  | .dictionaryWrite r idx sub value => Sys2Proof.Machine.execDictionaryWrite r idx sub value s
  | .regionDescriptorWrite r n value => Sys2Proof.Machine.execRegionDescriptorWrite r n value s
  | .planLoad r => Sys2Proof.Machine.execPlanLoad r s
  | .planArm r => Sys2Proof.Machine.execPlanArm r s
  | .planStop r => Sys2Proof.Machine.execPlanStop r s
  | .planDiscard r => Sys2Proof.Machine.execPlanDiscard r s
  | .planDisarm r => Sys2Proof.Machine.execPlanDisarm r s
  | .planImageChecked reason place detail rejoin id crc => Sys2Proof.Machine.execPlanImageChecked reason place detail rejoin id crc s
  | .planLoadTimeout => Sys2Proof.Machine.execPlanLoadTimeout s
  | .frameBoundary => Sys2Proof.Machine.execFrameBoundary s
  | .tide => Sys2Proof.Machine.execTide s
  | .tidePreparePoint => Sys2Proof.Machine.execTidePreparePoint s
  | .commitPoint => Sys2Proof.Machine.execCommitPoint s
  | .tideDecisionMissing => Sys2Proof.Machine.execTideDecisionMissing s
  | .tideSwitchRetired => Sys2Proof.Machine.execTideSwitchRetired s
  | .tideIntervalWrite r value => Sys2Proof.Machine.execTideIntervalWrite r value s
  | .fenceClear r mask => Sys2Proof.Machine.execFenceClear r mask s
  | .channelSlot c fault => Sys2Proof.Machine.execChannelSlot c fault s
  | .streamEnd n => Sys2Proof.Machine.execStreamEnd n s
  | .streamSeta n => Sys2Proof.Machine.execStreamSeta n s
  | .streamSetd n => Sys2Proof.Machine.execStreamSetd n s
  | .streamMove n => Sys2Proof.Machine.execStreamMove n s
  | .streamSkip n => Sys2Proof.Machine.execStreamSkip n s
  | .streamMask n => Sys2Proof.Machine.execStreamMask n s
  | .streamWait n => Sys2Proof.Machine.execStreamWait n s
  | .streamSignal n => Sys2Proof.Machine.execStreamSignal n s
  | .streamRepeat n => Sys2Proof.Machine.execStreamRepeat n s
  | .streamFmt n => Sys2Proof.Machine.execStreamFmt n s
  | .maskReadDone n => Sys2Proof.Machine.execMaskReadDone n s
  | .waitSatisfied n => Sys2Proof.Machine.execWaitSatisfied n s
  | .drainBeat t n h0 h1 => Sys2Proof.Machine.execDrainBeat t n h0 h1 s
  | .feedCreditReturn t n amount => Sys2Proof.Machine.execFeedCreditReturn t n amount s
  | .landedBeat t n => Sys2Proof.Machine.execLandedBeat t n s
  | .upBeatDiscarded port => Sys2Proof.Machine.execUpBeatDiscarded port s
  | .feedPortTimeout t beat => Sys2Proof.Machine.execFeedPortTimeout t beat s
  | .portReadyWithdrawn port => Sys2Proof.Machine.execPortReadyWithdrawn port s
  | .portReadyAsserted port => Sys2Proof.Machine.execPortReadyAsserted port s
  | .stallTimeout n => Sys2Proof.Machine.execStallTimeout n s
  | .fenceRequest r mask => Sys2Proof.Machine.execFenceRequest r mask s
  | .engineFault e => Sys2Proof.Machine.execEngineFault e s
  | .portRejoin r t => Sys2Proof.Machine.execPortRejoin r t s
  | .engineRejoin r e => Sys2Proof.Machine.execEngineRejoin r e s
  | .drainLineNarrowed n => Sys2Proof.Machine.execDrainLineNarrowed n s
  | .escapeReadDone => Sys2Proof.Machine.execEscapeReadDone s
  | .poolReset r d => Sys2Proof.Machine.execPoolReset r d s
  | .beyondBoundClear r d => Sys2Proof.Machine.execBeyondBoundClear r d s
  | .standingEntryWrite r x value => Sys2Proof.Machine.execStandingEntryWrite r x value s
  | .formatUnitFault u => Sys2Proof.Machine.execFormatUnitFault u s
  | .unitRejoin r u => Sys2Proof.Machine.execUnitRejoin r u s
  | .openRead q a => Sys2Proof.Machine.execOpenRead q a s
  | .openWrite q a mask data => Sys2Proof.Machine.execOpenWrite q a mask data s
  | .openWiden q a x j => Sys2Proof.Machine.execOpenWiden q a x j s
  | .atomicSwap q a offset wide fetch x => Sys2Proof.Machine.execAtomicSwap q a offset wide fetch x s
  | .atomicCas q a offset wide fetch x y => Sys2Proof.Machine.execAtomicCas q a offset wide fetch x y s
  | .atomicAdd q a offset wide fetch x => Sys2Proof.Machine.execAtomicAdd q a offset wide fetch x s
  | .atomicAnd q a offset wide fetch x => Sys2Proof.Machine.execAtomicAnd q a offset wide fetch x s
  | .atomicOr q a offset wide fetch x => Sys2Proof.Machine.execAtomicOr q a offset wide fetch x s
  | .atomicXor q a offset wide fetch x => Sys2Proof.Machine.execAtomicXor q a offset wide fetch x s
  | .atomicSmin q a offset wide fetch x => Sys2Proof.Machine.execAtomicSmin q a offset wide fetch x s
  | .atomicSmax q a offset wide fetch x => Sys2Proof.Machine.execAtomicSmax q a offset wide fetch x s
  | .atomicUmin q a offset wide fetch x => Sys2Proof.Machine.execAtomicUmin q a offset wide fetch x s
  | .atomicUmax q a offset wide fetch x => Sys2Proof.Machine.execAtomicUmax q a offset wide fetch x s
  | .atomicFadd q a offset wide fetch x => Sys2Proof.Machine.execAtomicFadd q a offset wide fetch x s
  | .atomicFmin q a offset wide fetch x => Sys2Proof.Machine.execAtomicFmin q a offset wide fetch x s
  | .atomicFmax q a offset wide fetch x => Sys2Proof.Machine.execAtomicFmax q a offset wide fetch x s
  | .atomicIncwrap q a offset wide fetch x => Sys2Proof.Machine.execAtomicIncwrap q a offset wide fetch x s
  | .atomicRead q a offset wide => Sys2Proof.Machine.execAtomicRead q a offset wide s
  | .atomicFlush q a offset wide => Sys2Proof.Machine.execAtomicFlush q a offset wide s
  | .reduce q a w data => Sys2Proof.Machine.execReduce q a w data s
  | .contributionApply a => Sys2Proof.Machine.execContributionApply a s
  | .reduceTimeout => Sys2Proof.Machine.execReduceTimeout s
  | .closedRecordExpiry => Sys2Proof.Machine.execClosedRecordExpiry s
  | .syncRead q obj => Sys2Proof.Machine.execSyncRead q obj s
  | .syncSet q obj value => Sys2Proof.Machine.execSyncSet q obj value s
  | .syncAdd q obj addend => Sys2Proof.Machine.execSyncAdd q obj addend s
  | .syncSignal q obj addend => Sys2Proof.Machine.execSyncSignal q obj addend s
  | .syncWait q obj threshold => Sys2Proof.Machine.execSyncWait q obj threshold s
  | .syncReset q obj => Sys2Proof.Machine.execSyncReset q obj s
  | .syncWaitTimeout => Sys2Proof.Machine.execSyncWaitTimeout s
  | .syncObjectWrite r o value => Sys2Proof.Machine.execSyncObjectWrite r o value s
  | .cacheMissFill => Sys2Proof.Machine.execCacheMissFill s
  | .writebackAgeExpiry => Sys2Proof.Machine.execWritebackAgeExpiry s
  | .flushAll r => Sys2Proof.Machine.execFlushAll r s
  | .writeBackAccepted x => Sys2Proof.Machine.execWriteBackAccepted x s
  | .sliceFault x => Sys2Proof.Machine.execSliceFault x s
  | .sliceTakenOver x repaired => Sys2Proof.Machine.execSliceTakenOver x repaired s
  | .sliceRejoin r x => Sys2Proof.Machine.execSliceRejoin r x s
  | .refreshIntervalTick c bank => Sys2Proof.Machine.execRefreshIntervalTick c bank s
  | .refreshClassChange u => Sys2Proof.Machine.execRefreshClassChange u s
  | .selfRefreshEntry c => Sys2Proof.Machine.execSelfRefreshEntry c s
  | .selfRefreshExit c => Sys2Proof.Machine.execSelfRefreshExit c s
  | .deepSegmentPoisonDone c => Sys2Proof.Machine.execDeepSegmentPoisonDone c s
  | .channelFault c placed => Sys2Proof.Machine.execChannelFault c placed s
  | .channelRecovered c ok => Sys2Proof.Machine.execChannelRecovered c ok s
  | .channelRecoveryTimeout c => Sys2Proof.Machine.execChannelRecoveryTimeout c s
  | .channelRejoin r c => Sys2Proof.Machine.execChannelRejoin r c s
  | .fillReadReturn c => Sys2Proof.Machine.execFillReadReturn c s
  | .readReturn c => Sys2Proof.Machine.execReadReturn c s
  | .writeConfirm c => Sys2Proof.Machine.execWriteConfirm c s
  | .alertSampled c back => Sys2Proof.Machine.execAlertSampled c back s
  | .missingDataBeats c => Sys2Proof.Machine.execMissingDataBeats c s
  | .offerHoldExpiry => Sys2Proof.Machine.execOfferHoldExpiry s
  | .queueEntryGrant c write => Sys2Proof.Machine.execQueueEntryGrant c write s
  | .completionDelivery port => Sys2Proof.Machine.execCompletionDelivery port s
  | .regulatorWindowStart n => Sys2Proof.Machine.execRegulatorWindowStart n s
  | .panicInputTaken p level => Sys2Proof.Machine.execPanicInputTaken p level s
  | .panicStuck p => Sys2Proof.Machine.execPanicStuck p s
  | .panicReleased p => Sys2Proof.Machine.execPanicReleased p s
  | .degradeStepEnd n => Sys2Proof.Machine.execDegradeStepEnd n s
  | .qosStateFault kind n => Sys2Proof.Machine.execQosStateFault kind n s
  | .recoveryRecordFreed c => Sys2Proof.Machine.execRecoveryRecordFreed c s
  | .rereadReturn c => Sys2Proof.Machine.execRereadReturn c s
  | .restoreReadDone c => Sys2Proof.Machine.execRestoreReadDone c s
  | .gleanerSlow c => Sys2Proof.Machine.execGleanerSlow c s
  | .trackerAgeExpiry c => Sys2Proof.Machine.execTrackerAgeExpiry c s
  | .healWriteConfirmed c => Sys2Proof.Machine.execHealWriteConfirmed c s
  | .rowMoveStart c => Sys2Proof.Machine.execRowMoveStart c s
  | .rowMoveBufferComplete c => Sys2Proof.Machine.execRowMoveBufferComplete c s
  | .rowMoveConfirmed c => Sys2Proof.Machine.execRowMoveConfirmed c s
  | .reconstitute r c => Sys2Proof.Machine.execReconstitute r c s
  | .displacingDone => Sys2Proof.Machine.execDisplacingDone s
  | .reconstitutionDone => Sys2Proof.Machine.execReconstitutionDone s
  | .copyBack r c => Sys2Proof.Machine.execCopyBack r c s
  | .copyBackDone => Sys2Proof.Machine.execCopyBackDone s
  | .journalCopyFault copyB => Sys2Proof.Machine.execJournalCopyFault copyB s
  | .journalRebuildDone => Sys2Proof.Machine.execJournalRebuildDone s
  | .journalLost => Sys2Proof.Machine.execJournalLost s
  | .logicSensorRead readings => Sys2Proof.Machine.execLogicSensorRead readings s
  | .sensorNoReading st n => Sys2Proof.Machine.execSensorNoReading st n s
  | .sensorExclude r logic st part mask => Sys2Proof.Machine.execSensorExclude r logic st part mask s
  | .hardwareComparator => Sys2Proof.Machine.execHardwareComparator s
  | .throttleAckToggle => Sys2Proof.Machine.execThrottleAckToggle s
  | .throttleAckMissing => Sys2Proof.Machine.execThrottleAckMissing s
  | .graceExpired st => Sys2Proof.Machine.execGraceExpired st s
  | .graceRearm st => Sys2Proof.Machine.execGraceRearm st s
  | .haltedSensorCheck st => Sys2Proof.Machine.execHaltedSensorCheck st s
  | .trafficResumed st => Sys2Proof.Machine.execTrafficResumed st s
  | .shutdownRecordWritten => Sys2Proof.Machine.execShutdownRecordWritten s
  | .cooledRestart => Sys2Proof.Machine.execCooledRestart s
  | .shutdownClear r => Sys2Proof.Machine.execShutdownClear r s
  | .thermalFlagAlert c layer => Sys2Proof.Machine.execThermalFlagAlert c layer s
  | .fullTrainingDone c words lanes ca bad caOk => Sys2Proof.Machine.execFullTrainingDone c words lanes ca bad caOk s
  | .trainingTimeout c => Sys2Proof.Machine.execTrainingTimeout c s
  | .restoredTrainingDone c ok => Sys2Proof.Machine.execRestoredTrainingDone c ok s
  | .tapStepConfirmed c => Sys2Proof.Machine.execTapStepConfirmed c s
  | .stepTimeout c g => Sys2Proof.Machine.execStepTimeout c g s
  | .retrainRoundStart c => Sys2Proof.Machine.execRetrainRoundStart c s
  | .groupRetrainDone c outcome rv wv delays => Sys2Proof.Machine.execGroupRetrainDone c outcome rv wv delays s
  | .marginRequest r c value => Sys2Proof.Machine.execMarginRequest r c value s
  | .marginDone c low high worst errors late => Sys2Proof.Machine.execMarginDone c low high worst errors late s
  | .retrainRequest r c => Sys2Proof.Machine.execRetrainRequest r c s
  | .hello h node setNodes nstacks version nextHop setTag bundle => Sys2Proof.Machine.execHello h node setNodes nstacks version nextHop setTag bundle s
  | .joinTimeout h => Sys2Proof.Machine.execJoinTimeout h s
  | .formationTimeout => Sys2Proof.Machine.execFormationTimeout s
  | .member h hdr node mask links => Sys2Proof.Machine.execMember h hdr node mask links s
  | .formed h hdr lead mask time epoch => Sys2Proof.Machine.execFormed h hdr lead mask time epoch s
  | .frameEpoch => Sys2Proof.Machine.execFrameEpoch s
  | .lost via node mask => Sys2Proof.Machine.execLost via node mask s
  | .linkState h hdr links => Sys2Proof.Machine.execLinkState h hdr links s
  | .flowReset h hdr base => Sys2Proof.Machine.execFlowReset h hdr base s
  | .prepare h hdr frame plan => Sys2Proof.Machine.execPrepare h hdr frame plan s
  | .vote h hdr frame vote => Sys2Proof.Machine.execVote h hdr frame vote s
  | .commitTide h hdr frame => Sys2Proof.Machine.execCommitTide h hdr frame s
  | .deferTide h hdr frame => Sys2Proof.Machine.execDeferTide h hdr frame s
  | .objectWrite h hdr idx sub order value => Sys2Proof.Machine.execObjectWrite h hdr idx sub order value s
  | .warmResetParcel h hdr node => Sys2Proof.Machine.execWarmResetParcel h hdr node s
  | .rejoin h hdr node => Sys2Proof.Machine.execRejoin h hdr node s
  | .requestParcel h hdr body => Sys2Proof.Machine.execRequestParcel h hdr body s
  | .completionParcel h hdr body => Sys2Proof.Machine.execCompletionParcel h hdr body s
  | .acceptParcel h hdr => Sys2Proof.Machine.execAcceptParcel h hdr s
  | .doneParcel h hdr => Sys2Proof.Machine.execDoneParcel h hdr s
  | .notice h hdr object value => Sys2Proof.Machine.execNotice h hdr object value s
  | .timeParcel h tx echo echoRx rx => Sys2Proof.Machine.execTimeParcel h tx echo echoRx rx s
  | .keepalive h => Sys2Proof.Machine.execKeepalive h s
  | .hopAck h hop room => Sys2Proof.Machine.execHopAck h hop room s
  | .parcelMalformed h sequenced => Sys2Proof.Machine.execParcelMalformed h sequenced s
  | .parcelTransmit h => Sys2Proof.Machine.execParcelTransmit h s
  | .keepaliveSendTimer h => Sys2Proof.Machine.execKeepaliveSendTimer h s
  | .hopAckSendTimer h => Sys2Proof.Machine.execHopAckSendTimer h s
  | .timeSendTimer h => Sys2Proof.Machine.execTimeSendTimer h s
  | .linkSilent h => Sys2Proof.Machine.execLinkSilent h s
  | .linkReset h => Sys2Proof.Machine.execLinkReset h s
  | .retrainLimitExpiry h => Sys2Proof.Machine.execRetrainLimitExpiry h s
  | .warmResetLimitExpiry node => Sys2Proof.Machine.execWarmResetLimitExpiry node s
  | .timeOffset => Sys2Proof.Machine.execTimeOffset s
  | .timeUnsynchronised => Sys2Proof.Machine.execTimeUnsynchronised s
  | .coalesceAgeExpiry => Sys2Proof.Machine.execCoalesceAgeExpiry s
  | .baleWriteDone bale ok => Sys2Proof.Machine.execBaleWriteDone bale ok s
  | .baleReadDone bale outcome => Sys2Proof.Machine.execBaleReadDone bale outcome s
  | .baleReadTimeout bale => Sys2Proof.Machine.execBaleReadTimeout bale s
  | .transferSubmit r value => Sys2Proof.Machine.execTransferSubmit r value s
  | .transferStart held => Sys2Proof.Machine.execTransferStart held s
  | .transferDone num => Sys2Proof.Machine.execTransferDone num s
  | .ledgerZeroingDone => Sys2Proof.Machine.execLedgerZeroingDone s
  | .farPortDown => Sys2Proof.Machine.execFarPortDown s
  | .farPortRejoin r => Sys2Proof.Machine.execFarPortRejoin r s
  | .generateXts r world slot => Sys2Proof.Machine.execGenerateXts r world slot s
  | .generateGcm r world slot => Sys2Proof.Machine.execGenerateGcm r world slot s
  | .importVerify r world slot => Sys2Proof.Machine.execImportVerify r world slot s
  | .erase r world slot => Sys2Proof.Machine.execErase r world slot s
  | .claim r => Sys2Proof.Machine.execClaim r s
  | .transferOwner r => Sys2Proof.Machine.execTransferOwner r s
  | .release r => Sys2Proof.Machine.execRelease r s
  | .zeroise r => Sys2Proof.Machine.execZeroise r s
  | .zeroisationPoisonDone => Sys2Proof.Machine.execZeroisationPoisonDone s
  | .getVersion r => Sys2Proof.Machine.execGetVersion r s
  | .getCapabilities r => Sys2Proof.Machine.execGetCapabilities r s
  | .negotiateAlgorithms r ecdsa mlDsa sha384 secp384 gcm => Sys2Proof.Machine.execNegotiateAlgorithms r ecdsa mlDsa sha384 secp384 gcm s
  | .getDigests r => Sys2Proof.Machine.execGetDigests r s
  | .getCertificate r slot offset length => Sys2Proof.Machine.execGetCertificate r slot offset length s
  | .challenge r slot nonce => Sys2Proof.Machine.execChallenge r slot nonce s
  | .getMeasurements r index nonce sign => Sys2Proof.Machine.execGetMeasurements r index nonce sign s
  | .keyExchange r slot mutAuth => Sys2Proof.Machine.execKeyExchange r slot mutAuth s
  | .finish r id ml signature => Sys2Proof.Machine.execFinish r id ml signature s
  | .heartbeat r id => Sys2Proof.Machine.execHeartbeat r id s
  | .keyUpdate r id => Sys2Proof.Machine.execKeyUpdate r id s
  | .endSession r id => Sys2Proof.Machine.execEndSession r id s
  | .respondIfReady r => Sys2Proof.Machine.execRespondIfReady r s
  | .chunkSend r seq last data => Sys2Proof.Machine.execChunkSend r seq last data s
  | .chunkGet r seq => Sys2Proof.Machine.execChunkGet r seq s
  | .spdmUnsupportedRequest r => Sys2Proof.Machine.execSpdmUnsupportedRequest r s
  | .sessionIdleTimeout id => Sys2Proof.Machine.execSessionIdleTimeout id s
  | .debugUnlock code => Sys2Proof.Machine.execDebugUnlock code s
  | .slackMeasurement counts => Sys2Proof.Machine.execSlackMeasurement counts s
  | .slackCleared => Sys2Proof.Machine.execSlackCleared s
  | .vreqLowerTimer => Sys2Proof.Machine.execVreqLowerTimer s
  | .clockMonitorWindow m count ended lock kfoOff ksoOff => Sys2Proof.Machine.execClockMonitorWindow m count ended lock kfoOff ksoOff s
  | .sourceStable m => Sys2Proof.Machine.execSourceStable m s
  | .fallbackTimeout d => Sys2Proof.Machine.execFallbackTimeout d s
  | .dividerStep d => Sys2Proof.Machine.execDividerStep d s
  | .refBAbsent => Sys2Proof.Machine.execRefBAbsent s
  | .ksoTrimMeasurement plca count expected => Sys2Proof.Machine.execKsoTrimMeasurement plca count expected s
  | .oscTrimStale => Sys2Proof.Machine.execOscTrimStale s
  | .clockEnableWrite r sub value => Sys2Proof.Machine.execClockEnableWrite r sub value s
  | .crossingReset x => Sys2Proof.Machine.execCrossingReset x s
  | .crossingReopened x => Sys2Proof.Machine.execCrossingReopened x s
  | .segStart r idx sub total base => Sys2Proof.Machine.execSegStart r idx sub total base s
  | .segData r idx sub offset data => Sys2Proof.Machine.execSegData r idx sub offset data s
  | .segEnd r idx sub crc => Sys2Proof.Machine.execSegEnd r idx sub crc s
  | .segAbort r idx sub => Sys2Proof.Machine.execSegAbort r idx sub s
  | .sessionDropped src idx sub => Sys2Proof.Machine.execSessionDropped src idx sub s
  | .frameMalformed => Sys2Proof.Machine.execFrameMalformed s
  | .receiveBufferFull => Sys2Proof.Machine.execReceiveBufferFull s
  | .notifyResponse n seq => Sys2Proof.Machine.execNotifyResponse n seq s
  | .notifyRetryTimer n => Sys2Proof.Machine.execNotifyRetryTimer n s
  | .heartbeatTimer => Sys2Proof.Machine.execHeartbeatTimer s
  | .partnerHeartbeat address node state period => Sys2Proof.Machine.execPartnerHeartbeat address node state period s
  | .partnerLost => Sys2Proof.Machine.execPartnerLost s
  | .plcaStatusChange active => Sys2Proof.Machine.execPlcaStatusChange active s
  | .doorbell message => Sys2Proof.Machine.execDoorbell message s
  | .rspAck => Sys2Proof.Machine.execRspAck s
  | .ringPop => Sys2Proof.Machine.execRingPop s
  | .alarmClear r => Sys2Proof.Machine.execAlarmClear r s
  | .logClear r => Sys2Proof.Machine.execLogClear r s
  | .mirrorClear r => Sys2Proof.Machine.execMirrorClear r s
  | .nvmRecordWrite area index => Sys2Proof.Machine.execNvmRecordWrite area index s
  | .nvmWriteFailed area index copyB => Sys2Proof.Machine.execNvmWriteFailed area index copyB s
  | .persistGatherTimer => Sys2Proof.Machine.execPersistGatherTimer s
  | .updateBegin r => Sys2Proof.Machine.execUpdateBegin r s
  | .updateVerify r => Sys2Proof.Machine.execUpdateVerify r s
  | .updateActivate r others => Sys2Proof.Machine.execUpdateActivate r others s
  | .updateDiscard r => Sys2Proof.Machine.execUpdateDiscard r s
  | .verificationDone => Sys2Proof.Machine.execVerificationDone s
  | .imageSelection usable density mode => Sys2Proof.Machine.execImageSelection usable density mode s
  | .slotCopyDone => Sys2Proof.Machine.execSlotCopyDone s
  | .snapshotRequest r time => Sys2Proof.Machine.execSnapshotRequest r time s
  | .snapshotCapture => Sys2Proof.Machine.execSnapshotCapture s
  | .bankClear r bank => Sys2Proof.Machine.execBankClear r bank s
  | .clearAll r => Sys2Proof.Machine.execClearAll r s
  | .bankFilterWrite r bank sub value => Sys2Proof.Machine.execBankFilterWrite r bank sub value s
  | .sampleControlWrite r value => Sys2Proof.Machine.execSampleControlWrite r value s
  | .lfsrSeedWrite r value => Sys2Proof.Machine.execLfsrSeedWrite r value s
  | .consumedWrite r seq => Sys2Proof.Machine.execConsumedWrite r seq s
  | .layerAct c layer bank row => Sys2Proof.Machine.execLayerAct c layer bank row s
  | .layerPre c layer bank => Sys2Proof.Machine.execLayerPre c layer bank s
  | .layerPreab c layer all => Sys2Proof.Machine.execLayerPreab c layer all s
  | .layerMrwb c addr data => Sys2Proof.Machine.execLayerMrwb c addr data s
  | .layerMrw c layer addr data => Sys2Proof.Machine.execLayerMrw c layer addr data s
  | .layerSre c cls mask => Sys2Proof.Machine.execLayerSre c cls mask s
  | .layerSrx c => Sys2Proof.Machine.execLayerSrx c s
  | .layerRpr c layer bank row => Sys2Proof.Machine.execLayerRpr c layer bank row s
  | .hardRepairDone c layer verified => Sys2Proof.Machine.execHardRepairDone c layer verified s
  | .layerRd c layer bank line autoPre => Sys2Proof.Machine.execLayerRd c layer bank line autoPre s
  | .layerRdc c layer bank line autoPre => Sys2Proof.Machine.execLayerRdc c layer bank line autoPre s
  | .layerWr c layer bank line autoPre preamble burst => Sys2Proof.Machine.execLayerWr c layer bank line autoPre preamble burst s
  | .layerMrr c layer addr => Sys2Proof.Machine.execLayerMrr c layer addr s
  | .layerRefpb c layer bank mask => Sys2Proof.Machine.execLayerRefpb c layer bank mask s
  | .layerRdp c layer => Sys2Proof.Machine.execLayerRdp c layer s
  | .layerWrp c layer all preamble burst => Sys2Proof.Machine.execLayerWrp c layer all preamble burst s
  | .layerErrclr c layer all => Sys2Proof.Machine.execLayerErrclr c layer all s
  | .layerPreset c layer all => Sys2Proof.Machine.execLayerPreset c layer all s
  | .layerLbw c layer preamble burst => Sys2Proof.Machine.execLayerLbw c layer preamble burst s
  | .layerLbr c layer => Sys2Proof.Machine.execLayerLbr c layer s
  | .commandParityError c => Sys2Proof.Machine.execCommandParityError c s
  | .resetPattern c => Sys2Proof.Machine.execResetPattern c s
  | .caCaptureExit c layer => Sys2Proof.Machine.execCaCaptureExit c layer s
  | .layerSensorConversion st layer sensor code => Sys2Proof.Machine.execLayerSensorConversion st layer sensor code s
  | .powerWarnTaken level => Sys2Proof.Machine.execPowerWarnTaken level s
  | .strapSample nodeId setSize recovery => Sys2Proof.Machine.execStrapSample nodeId setSize recovery s
  | .wsBypass => Sys2Proof.Machine.execWsBypass s
  | .wsExtest => Sys2Proof.Machine.execWsExtest s
  | .wsIntestScan => Sys2Proof.Machine.execWsIntestScan s
  | .svIdcode => Sys2Proof.Machine.execSvIdcode s
  | .svStatus => Sys2Proof.Machine.execSvStatus s
  | .svMbistLogic => Sys2Proof.Machine.execSvMbistLogic s
  | .svMbistCache => Sys2Proof.Machine.execSvMbistCache s
  | .svMbistVkeep => Sys2Proof.Machine.execSvMbistVkeep s
  | .svSdiLoop => Sys2Proof.Machine.execSvSdiLoop s
  | .svDramAccess => Sys2Proof.Machine.execSvDramAccess s
  | .svProcDebug => Sys2Proof.Machine.execSvProcDebug s
  | .svWardenDebug => Sys2Proof.Machine.execSvWardenDebug s
  | .linkTrainingDone h modules => Sys2Proof.Machine.execLinkTrainingDone h modules s
  | .bundleVerified => Sys2Proof.Machine.execBundleVerified s
  | .writeBackLimitExpiry => Sys2Proof.Machine.execWriteBackLimitExpiry s
  | .sheafPllRestartLimit u => Sys2Proof.Machine.execSheafPllRestartLimit u s

end Sys2Proof.Machine
end

