-- ==== Sys2Proof/Machine/Idle.lean ====
section
/-!
DEFINITION. What happens at a tick of 1/12 ns while no command waits: time passes, the credit shapers of the Headland ports run (R339),
the counters that add an occupancy in every slot are brought up (R487), a thermal trip goes on (R291), and a dictionary write that waits behind its source is
begun (R443).
-/
namespace Sys2Proof.Machine

/-- A copy of the journal that is out of service is being rebuilt from the good one (R274). (DESIGN CHOICE, log 1) -/
def rebuildJournal (s : State) : State :=
  if (s.ob 0xA002 3 = 1 || s.ob 0xA002 3 = 2) && (s.power.node = .ready || s.power.node = .run) then s.setOb 0xA002 3 3 else s

/-- One tick. (DESIGN CHOICE, log 1) -/
def tick (s : State) : State :=
  let t := { s with now := s.now + 1 }
  let t := forEach (List.range 4) tickPort t
  let t := if t.setTicks / slotT = s.setTicks / slotT then t else slotSums t
  drainWaiting (rebuildJournal (tripStep t))

end Sys2Proof.Machine
end

