-- ==== Sys2Proof/Safety.lean ====
section
/-!
DEFINITION. What a good state of a node is: the invariant that every step keeps, and the other terms the statements use.
-/
namespace Sys2Proof.Machine

/-- The canonical form of a sparse store whose unlisted key `k` reads as `d k`: keys strictly rising, nothing listed that reads as an
unlisted key would. Two stores in this form that read alike are equal. -/
def Canonical {V : Type} (d : Nat → V) (m : Store V) : Prop :=
  m.Pairwise (fun p q => p.1 < q.1) ∧ ∀ p ∈ m, p.2 ≠ d p.1

/-- The blocks that were filled whole, and with what: in canonical form, and no block of a spare row among them, for those have odd keys
and are never filled (R530). -/
def Fills (t : Store Nat) : Prop := Canonical (fun _ => 0) t ∧ ∀ p ∈ t, p.1 % 2 = 0

/-- The invariant of a node. -/
structure State.Inv (s : State) : Prop where
  /-- The silicon has 1 to 4 stacks (R540). -/
  stackCount : 1 ≤ s.cfg.nstacks ∧ s.cfg.nstacks ≤ 4
  /-- The object store is in its canonical form. -/
  objects : Canonical objDefault s.obj
  /-- So are the synchronisation objects, 0 where none is listed (R174). -/
  syncs : Canonical (fun _ => 0) s.syncs
  /-- So are the blocks filled whole. -/
  fills : Fills s.dram.fill
  /-- So are the cells of the stacks, over what an unlisted cell reads as. -/
  cells : Canonical (cellDefault s.dram.fill) s.dram.cells
  /-- The event log holds at most 1,024 entries (R455). -/
  log : s.mgmt.log.length ≤ 1024
  /-- The NVM mirror holds at most 256 entries (R459). -/
  mirror : s.nvm.mirror.length ≤ 256
  /-- The window's ring holds at most 64 entries (R464). -/
  ring : s.mgmt.window.ring.length ≤ 64
  /-- Transactions are remembered of at most 16 sources (R443). -/
  sources : s.mgmt.sources.length ≤ 16
  /-- At most 64 events are held while the Keeper restarts (R26). -/
  staged : s.procs.staged.length ≤ 64
  /-- At most four secured sessions are open (R377). -/
  sessions : s.sec.sessions.length ≤ 4
  /-- The sample ring holds at most 4,096 records (R499). -/
  samples : s.sampler.ring.length ≤ 4096

/-- A step from `a` to `s` keeps what no command may change: what silicon fixes, the queue of the commands that wait, the order of time,
what has been sent, and the invariant. -/
structure Keeps (a s : State) : Prop where
  /-- What silicon, ROM and fuses fix stays (R15, R540). -/
  cfg : s.cfg = a.cfg
  /-- A meaning does not touch the queue. -/
  pending : s.pending = a.pending
  /-- Time does not run back. -/
  now : a.now ≤ s.now
  /-- What has been sent stays sent. -/
  out : a.out <+: s.out
  /-- The invariant is kept. -/
  inv : a.Inv → s.Inv

/-- The objects that reporting an event or answering a request may change: frame counters, the event log, the mirror, the notifications
and the window (R439, R454 to R459, R464). -/
def logObject (idx : Nat) : Bool := idx == 0x1010 || idx == 0x1040 || idx == 0x1041 || idx == 0x1050 || idx == 0x1060

/-- What reporting events and answering requests may change, and nothing else: counters of the management objects, the management
state, the event mirror, the events staged for the Keeper, the alarm pin, and what the node has sent. -/
structure ReportsOnly (s t : State) : Prop where
  /-- Every other part of the state is as it was. -/
  parts : t = { s with
    obj := t.obj, mgmt := t.mgmt, nvm := { s.nvm with mirror := t.nvm.mirror }
    procs := { s.procs with staged := t.procs.staged, stagedLost := t.procs.stagedLost }
    pins := { s.pins with alarm := t.pins.alarm }, out := t.out }
  /-- Every other object reads as it did. -/
  objects : ∀ idx sub, sub < 256 → logObject idx = false → t.ob idx sub = s.ob idx sub
  /-- What has been sent stays sent. -/
  sent : s.out <+: t.out

/-! ### What the statements about commands are made of -/

/-- The command completes: it answers a next state, which is as `post` says. -/
def Gives (c : Instr) (s : State) (post : State → Prop) : Prop := ∃ t, exec c s = .next t ∧ post t

/-- An open request as it arrives at its port (R215). -/
def State.req (s : State) (side : Side) (a : Nat) (op : Op) : Ask := { s.newAsk side a op .port with due := s.dueOf side }

/-- An open request of this node's own ports, come while no other is under way and nothing waits for the far tier, passes what R215 to R231
ask of it: its port may send it, no refusal chain holds it back, the node runs and serves its line, its class is not over its limit and has
credit, and the journal has room. Its own operation is next. -/
def State.admits (s : State) (k : Ask) : Bool :=
  let t := endChain k s
  (match k.side.port with | .tile _ => true | .rt _ => true | _ => false) &&
  (s.power.node == .ready || s.power.node == .run) && s.path.asks.isEmpty && s.far.waiting.isEmpty &&
  !portDenied k t && !t.chained k && k.owner == s.me &&
  match step5 k (addAsk k (settleShaper k.side.cls t)) with
  | (.pass, v) => (v.widenRefusal k).isNone && !v.sliceHeld k && (meterAsk k v).1 != 2 && (meterAsk k v).2.hasCredit k && v.entryFree k
  | _ => false

/-- A request is over with a status and its data. -/
def State.ends (t : State) (id : Nat) (r : Nat × Option Nat) : Prop :=
  ∃ q, t.ask? id = some q ∧ q.stage = .finished ∧ q.result = some r

/-- A request is accepted and not yet over. -/
def State.accepts (t : State) (id : Nat) : Prop := ∃ q, t.ask? id = some q ∧ q.stage = .accepted ∧ q.journal = true

/-- Nothing but requests waits that the end of a command would let go on: no far-tier operation, halt, transfer, bale to write, or recovery. -/
def State.still (s : State) : Bool :=
  s.far.waiting.isEmpty && !s.power.halting && s.far.transfers.all (fun t => !t.running) && s.far.bales.all (fun x => !x.dirty) &&
  s.path.chans.all fun p => p.2.recWait.isEmpty && p.2.recs.all fun r => r.step != .write

/-- A request reaches the Keeper and is begun at once (R443, R463): the Keeper runs, the window it may come through is free for it, nothing
of its source is still carried out or waits, and it is no repeat. -/
def State.begins (s : State) (r : Req) : Bool :=
  s.reaches r && s.procs.keeper.restart.isNone && !s.windowHeld r && !s.srcBusy r.src &&
    !(s.mgmt.waiting.any fun w => w.req.src == r.src) && (s.findTxn r).isNone

/-- The state in which a request that is begun is carried out: its frame counted, its transaction remembered (R439, R443). -/
def State.begun (s : State) (r : Req) : State :=
  let t := countFrame r s
  { t with mgmt := { t.mgmt with sources := recordTxn r.src r.txn none t.mgmt.sources } }

/-- A dictionary write that is begun and passes every check of R444, to an object of the given set-wide mark. -/
def State.checks (s : State) (r : Req) (idx sub : Nat) (value : List Byte) (setWide : Bool) : Bool :=
  s.begins r && (writeChecks r idx sub (s.begun r)).isNone &&
    match findObj idx sub with
    | some o => (valueChecks o idx sub value (s.begun r)).isNone && o.setWide == setWide
    | none => false

/-- A dictionary write that is carried out at this node alone. -/
def State.applies (s : State) (r : Req) (idx sub : Nat) (value : List Byte) : Bool := s.checks r idx sub value false

/-- A dictionary write to a set-wide object that is ordered and applied at once: this node leads a formed set, and no other node has to
apply it (R9, R30). -/
def State.orders (s : State) (r : Req) (idx sub : Nat) (value : List Byte) : Bool :=
  let t := s.begun r
  s.checks r idx sub value true && t.formed && t.isLead && t.others.isEmpty && t.hl.set.reachable ||| 2 ^ t.me == 2 ^ t.me &&
    t.mgmt.nextOrder != 0 && t.mgmt.setWrites.all (fun w => w.order != t.mgmt.nextOrder) &&
    !(idx == 0x8000 && (t.power.node == .boot || t.power.node == .recovery))

/-- The state in which the lead applies such a write: its order number is taken (R30). -/
def State.ordered (s : State) (r : Req) : State :=
  let t := s.begun r
  { t with mgmt := { t.mgmt with nextOrder := t.mgmt.nextOrder + 1 } }

/-- A sequenced parcel that port h takes for this node: the node is not isolated, the port carries parcels and has been greeted, the parcel
is well formed and the next of its hop and of its flow, and this node is its destination (R78, R325, R331, R333). -/
def State.takes (s : State) (h : Nat) (hdr : Hdr) : Bool :=
  let p := s.port h
  decide (h < 4) && !s.plans.isolated && p.live && p.greeted && !p.silent && decide (hdr.len ≤ 8) && hdr.free == 0 && hdr.hop == p.rxHop && hdr.dest == s.me &&
    hdr.e2e == (s.flow (flowKey hdr.origin s.me hdr.cls)).rx

/-- The state once such a parcel has been counted on its port (R331). -/
def State.arrived (s : State) (h : Nat) (hdr : Hdr) : State :=
  let p := s.port h
  countParcel 2 h hdr ((s.setPort h { p with
    lastReceived := s.now, silent := false, rxHop := (p.rxHop + 1) % 65536, unacked := p.unacked + 1, malformed := 0 }).bump (hIdx h) 9)

/-- The state in which its content is acted on: its flow expects the next number (R333), and its origin is back if it was in a warm reset
(R344). -/
def State.taken (s : State) (h : Nat) (hdr : Hdr) : State :=
  let t := s.arrived h hdr
  let k := flowKey hdr.origin s.me hdr.cls
  peerBack hdr.origin (t.setFlow k { t.flow k with rx := ((t.flow k).rx + 1) % 65536 })

/-- The end of taking a parcel: HOP_ACK is due once 64 parcels have been taken (R331). -/
def ackDue (h : Nat) (s : State) : State := if 64 ≤ (s.port h).unacked then sendHopAck h s else s

/-! ### What a command may write -/

/-- The parts of a node's state: its fields. -/
inductive Part where
  /-- Time. -/
  | now
  /-- What silicon, ROM and fuses fix. -/
  | cfg
  /-- Power, resets and the node state. -/
  | power
  /-- The management processors. -/
  | procs
  /-- Pins. -/
  | pins
  /-- The test wrapper and debug. -/
  | wrap
  /-- The management objects. -/
  | obj
  /-- The management link. -/
  | mgmt
  /-- The headland ports and the set. -/
  | hl
  /-- The layers of the stacks. -/
  | dram
  /-- Keys, owners and sessions. -/
  | sec
  /-- Fuses. -/
  | fuses
  /-- Non-volatile memory. -/
  | nvm
  /-- The counter the free values are drawn by. -/
  | free
  /-- What the node has sent. -/
  | out
  /-- The commands that wait. -/
  | pending
  /-- Plans and tides. -/
  | plans
  /-- Streams and ports of the feed. -/
  | feeds
  /-- The open path and the channels. -/
  | path
  /-- The shared cache. -/
  | cache
  /-- The far-tier port. -/
  | far
  /-- Synchronisation objects. -/
  | syncs
  /-- Heat. -/
  | heat
  /-- Training. -/
  | train
  /-- Clocks. -/
  | clk
  /-- Updates. -/
  | upd
  /-- The sampler. -/
  | sampler
  deriving DecidableEq, Repr

/-- A part is as it was. -/
def Part.same : Part → State → State → Prop
  | .now, s, t => t.now = s.now
  | .cfg, s, t => t.cfg = s.cfg
  | .power, s, t => t.power = s.power
  | .procs, s, t => t.procs = s.procs
  | .pins, s, t => t.pins = s.pins
  | .wrap, s, t => t.wrap = s.wrap
  | .obj, s, t => t.obj = s.obj
  | .mgmt, s, t => t.mgmt = s.mgmt
  | .hl, s, t => t.hl = s.hl
  | .dram, s, t => t.dram = s.dram
  | .sec, s, t => t.sec = s.sec
  | .fuses, s, t => t.fuses = s.fuses
  | .nvm, s, t => t.nvm = s.nvm
  | .free, s, t => t.free = s.free
  | .out, s, t => t.out = s.out
  | .pending, s, t => t.pending = s.pending
  | .plans, s, t => t.plans = s.plans
  | .feeds, s, t => t.feeds = s.feeds
  | .path, s, t => t.path = s.path
  | .cache, s, t => t.cache = s.cache
  | .far, s, t => t.far = s.far
  | .syncs, s, t => t.syncs = s.syncs
  | .heat, s, t => t.heat = s.heat
  | .train, s, t => t.train = s.train
  | .clk, s, t => t.clk = s.clk
  | .upd, s, t => t.upd = s.upd
  | .sampler, s, t => t.sampler = s.sampler

/-- What raising an event may write (R454 to R459, R464). -/
def reports : List Part := [.procs, .pins, .obj, .mgmt, .nvm, .out]
/-- What answering a request may write: another node's request is answered over the headlands. -/
def answers : List Part := .hl :: reports
/-- What serving the open requests may write (chapter 8). -/
def serves : List Part := [.feeds, .path, .cache, .far, .syncs, .sampler] ++ answers

/-- The parts a command may write; every other part is as it was. -/
def writes : Instr → List Part
  | .streamMask _ | .escapeReadDone | .openRead _ _ | .openWrite _ _ _ _ | .openWiden _ _ _ _ | .atomicSwap _ _ _ _ _ _
  | .atomicCas _ _ _ _ _ _ _ | .atomicAdd _ _ _ _ _ _ | .atomicAnd _ _ _ _ _ _ | .atomicOr _ _ _ _ _ _ | .atomicXor _ _ _ _ _ _
  | .atomicSmin _ _ _ _ _ _ | .atomicSmax _ _ _ _ _ _ | .atomicUmin _ _ _ _ _ _ | .atomicUmax _ _ _ _ _ _ | .atomicFadd _ _ _ _ _ _
  | .atomicFmin _ _ _ _ _ _ | .atomicFmax _ _ _ _ _ _ | .atomicIncwrap _ _ _ _ _ _ | .atomicRead _ _ _ _ | .atomicFlush _ _ _ _
  | .reduce _ _ _ _ | .contributionApply _ | .reduceTimeout | .syncRead _ _ | .syncSet _ _ _ | .syncAdd _ _ _ | .syncSignal _ _ _
  | .syncWait _ _ _ | .syncReset _ _ | .syncWaitTimeout | .cacheMissFill | .writeBackAccepted _ | .sliceTakenOver _ _ | .offerHoldExpiry
  | .queueEntryGrant _ _ | .requestParcel _ _ _ | .completionParcel _ _ _ | .doneParcel _ _ | .transferDone _ => serves
  | .getVersion _ | .getCapabilities _ | .negotiateAlgorithms _ _ _ _ _ _ | .getDigests _ | .getCertificate _ _ _ _ | .challenge _ _ _
  | .getMeasurements _ _ _ _ | .heartbeat _ _ | .keyUpdate _ _ | .respondIfReady _ | .chunkSend _ _ _ _ | .chunkGet _ _
  | .segData _ _ _ _ _ | .segAbort _ _ _ => [.obj, .mgmt, .sec, .out]
  | .layerAct _ _ _ _ | .layerPre _ _ _ | .layerMrwb _ _ _ | .layerMrw _ _ _ _ | .layerSre _ _ _ | .layerRpr _ _ _ _ | .layerRdc _ _ _ _ _
  | .layerWr _ _ _ _ _ _ _ | .layerMrr _ _ _ | .layerRefpb _ _ _ _ | .layerWrp _ _ _ _ _ | .layerLbw _ _ _ _ | .commandParityError _
    => [.obj, .dram]
  | .hello _ _ _ _ _ _ _ _ | .joinTimeout _ | .formationTimeout | .member _ _ _ _ _ | .flowReset _ _ _ | .warmResetParcel _ _ _
  | .rejoin _ _ _ | .keepalive _ | .hopAck _ _ _ | .parcelMalformed _ _ | .linkReset _ | .timeUnsynchronised | .linkTrainingDone _ _
    => answers
  | .configBlockersClear | .writeConfirm _ | .recoveryRecordFreed _ | .rereadReturn _ | .restoreReadDone _ | .healWriteConfirmed _
  | .rowMoveConfirmed _ | .coalesceAgeExpiry | .baleWriteDone _ _ | .baleReadDone _ _ | .baleReadTimeout _ | .transferStart _
  | .farPortDown => [.power] ++ serves
  | .beyondBoundClear _ _ | .standingEntryWrite _ _ _ | .sensorExclude _ _ _ _ _ | .shutdownClear _ | .alarmClear _ | .logClear _
  | .mirrorClear _ | .snapshotRequest _ _ | .bankClear _ _ | .clearAll _ | .bankFilterWrite _ _ _ _ => [.sec] ++ answers
  | .panicStuck _ | .panicReleased _ | .degradeStepEnd _ | .timeOffset | .slackCleared | .sessionDropped _ _ _ | .frameMalformed
  | .notifyRetryTimer _ | .partnerLost | .plcaStatusChange _ => reports
  | .processorRestartDone _ | .streamWait _ | .streamSignal _ | .drainBeat _ _ _ _ | .feedCreditReturn _ _ _ | .landedBeat _ _
  | .feedPortTimeout _ _ | .portReadyWithdrawn _ | .stallTimeout _ | .drainLineNarrowed _
    => [.feeds, .path, .cache, .syncs, .sampler] ++ answers
  | .layerPreab _ _ _ | .layerSrx _ | .layerRdp _ _ | .layerErrclr _ _ _ | .layerPreset _ _ _ | .layerLbr _ _ | .resetPattern _
  | .caCaptureExit _ _ | .layerSensorConversion _ _ _ _ => [.dram]
  | .planImageChecked _ _ _ _ _ _ | .engineFault _ | .formatUnitFault _ | .sliceFault _ | .lost _ _ _ | .linkState _ _ _ | .linkSilent _
  | .retrainLimitExpiry _ | .warmResetLimitExpiry _ => [.power, .plans] ++ serves
  | .streamEnd _ | .streamSeta _ | .streamSetd _ | .streamMove _ | .streamSkip _ | .streamRepeat _ | .streamFmt _ => [.feeds]
  | .keyExchange _ _ _ | .finish _ _ _ _ | .endSession _ _ | .spdmUnsupportedRequest _ | .sessionIdleTimeout _ | .segStart _ _ _ _ _
    => [.sec] ++ reports
  | .commitPoint | .prepare _ _ _ _ | .vote _ _ _ _ | .commitTide _ _ _ | .deferTide _ _ _ | .partnerHeartbeat _ _ _ _
    => [.plans] ++ answers
  | .refreshIntervalTick _ _ | .regulatorWindowStart _ | .panicInputTaken _ _ | .trackerAgeExpiry _ | .displacingDone
  | .journalRebuildDone => [.obj, .path]
  | .logicSensorRead _ | .sensorNoReading _ _ | .throttleAckMissing | .graceExpired _ | .cooledRestart | .thermalFlagAlert _ _
    => [.heat] ++ reports
  | .wsIntestScan | .svMbistCache | .svMbistVkeep | .svDramAccess | .svProcDebug | .svWardenDebug => [.wrap, .sec, .free] ++ serves
  | .planLoad _ | .planArm _ | .planStop _ | .planDiscard _ | .planDisarm _ => [.sec, .plans] ++ serves
  | .upBeatDiscarded _ | .graceRearm _ | .receiveBufferFull | .snapshotCapture => [.obj]
  | .generateXts _ _ _ | .generateGcm _ _ _ | .importVerify _ _ _ | .erase _ _ _ => [.sec, .free] ++ answers
  | .refreshClassChange _ | .qosStateFault _ _ | .gleanerSlow _ | .rowMoveStart _ => [.path] ++ reports
  | .updateBegin _ | .updateVerify _ | .updateActivate _ _ | .updateDiscard _ => [.sec, .free, .upd] ++ answers
  | .restartLimitExpiry _ | .journalCopyFault _ | .journalLost | .writeBackLimitExpiry
    => [.power, .plans, .path, .cache, .sampler] ++ answers
  | .selfRefreshExit _ | .channelRecovered _ _ | .channelRecoveryTimeout _ | .reconstitutionDone => [.dram] ++ serves
  | .claim _ | .transferOwner _ | .release _ | .zeroise _ => [.sec, .fuses] ++ serves
  | .fullTrainingDone _ _ _ _ _ _ | .trainingTimeout _ | .restoredTrainingDone _ _ | .stepTimeout _ _ => [.dram, .train] ++ serves
  | .dictionaryWrite _ _ _ _ | .objectWrite _ _ _ _ _ _ | .segEnd _ _ _ _ | .doorbell _
    => [.power, .wrap, .dram, .sec, .fuses, .free, .plans, .heat, .train, .clk, .upd] ++ serves
  | .wsBypass | .svIdcode | .svStatus => [.wrap]
  | .keepaliveSendTimer _ | .hopAckSendTimer _ | .timeSendTimer _ => [.hl]
  | .wsExtest | .svMbistLogic | .svSdiLoop => [.power, .wrap, .free]
  | .notifyResponse _ _ | .heartbeatTimer | .rspAck => [.obj, .mgmt, .out]
  | .portRejoin _ _ | .engineRejoin _ _ | .unitRejoin _ _ => [.sec, .plans, .feeds] ++ answers
  | .deepSegmentPoisonDone _ | .copyBackDone | .hardRepairDone _ _ _ => [.dram, .path] ++ reports
  | .sampleControlWrite _ _ | .lfsrSeedWrite _ _ | .consumedWrite _ _ => [.sec, .sampler] ++ answers
  | .processorWatchdogExpiry _ | .processorFault _ | .keeperWatchdogExpiry => [.power, .sec, .plans, .path, .cache, .sampler] ++ answers
  | .stateRequestReady _ | .stateRequestRest _ | .stateRequestDeep _ => [.power, .sec, .path, .cache, .far, .clk, .sampler] ++ answers
  | .powerOnReset | .vkeepLoss | .setReset
    => [.power, .procs, .pins, .wrap, .obj, .mgmt, .hl, .dram, .sec, .nvm, .plans, .feeds, .path, .cache, .far, .syncs, .heat, .train, .clk, .upd, .sampler]
  | .tideIntervalWrite _ _ | .fenceClear _ _ => [.sec, .plans] ++ answers
  | .reconstitute _ _ | .copyBack _ _ => [.sec, .path] ++ answers
  | .refBAbsent | .ksoTrimMeasurement _ _ _ => [.obj, .clk]
  | .slackMeasurement _ | .oscTrimStale => [.clk] ++ reports
  | .fenceRequest _ _ | .syncObjectWrite _ _ _ => [.sec, .feeds, .path, .cache, .syncs, .sampler] ++ answers
  | .fillReadReturn _ | .readReturn _ => [.power, .heat] ++ serves
  | .sourceStable _ | .dividerStep _ => [.clk] ++ serves
  | .crossingReset _ | .crossingReopened _ => [.power, .clk] ++ serves
  | .imageSelection _ _ _ | .slotCopyDone => [.power, .sec, .upd] ++ serves
  | .powerWarnTaken _ => [.pins]
  | .unretainedChannelTimeout _ => [.power, .obj]
  | .vreqLowerTimer => [.pins, .obj]
  | .ringPop => [.mgmt]
  | .persistGatherTimer => [.nvm]
  | .layerRd _ _ _ _ _ => [.obj, .dram, .free]
  | .parcelTransmit _ => [.obj, .hl, .out]
  | .unretainedPoisonFillDone _ => [.power, .dram] ++ reports
  | .timeParcel _ _ _ _ _ => [.free] ++ answers
  | .frameEpoch => [.hl, .plans]
  | .tidePreparePoint => [.obj, .hl, .plans]
  | .tideDecisionMissing => [.plans] ++ reports
  | .formed _ _ _ _ _ _ => [.power, .plans] ++ answers
  | .portReadyAsserted _ => [.obj, .feeds]
  | .notice _ _ _ _ => [.feeds] ++ answers
  | .poolReset _ _ => [.sec, .feeds] ++ answers
  | .tideSwitchRetired => [.plans, .feeds] ++ reports
  | .acceptParcel _ _ => [.path] ++ answers
  | .channelRejoin _ _ => [.sec, .plans, .path] ++ answers
  | .maskReadDone _ => [.feeds, .path]
  | .closedRecordExpiry => [.cache]
  | .sliceRejoin _ _ => [.sec, .plans, .cache] ++ answers
  | .waitSatisfied _ => [.feeds, .cache]
  | .ledgerZeroingDone => [.obj, .dram, .far]
  | .transferSubmit _ _ => [.sec, .far] ++ answers
  | .farPortRejoin _ => [.sec, .plans, .far] ++ answers
  | .throttleAckToggle => [.pins, .obj, .heat]
  | .shutdownRecordWritten => [.obj, .nvm, .heat]
  | .missingDataBeats _ => [.obj, .path, .heat]
  | .haltedSensorCheck _ => [.dram, .path, .heat] ++ reports
  | .retrainRoundStart _ => [.obj, .dram, .train]
  | .tapStepConfirmed _ => [.obj, .dram, .nvm, .train]
  | .nvmRecordWrite _ _ => [.train] ++ answers
  | .marginDone _ _ _ _ _ _ => [.dram, .train] ++ reports
  | .marginRequest _ _ _ => [.dram, .sec, .train] ++ answers
  | .selfRefreshEntry _ => [.dram, .path, .train] ++ reports
  | .retrainRequest _ _ => [.dram, .sec, .path, .train] ++ answers
  | .clockEnableWrite _ _ _ => [.sec, .clk] ++ answers
  | .restEntryDrained => [.power, .sec, .path, .cache, .clk] ++ answers
  | .frameBoundary => [.plans, .heat, .clk] ++ reports
  | .verificationDone => [.upd] ++ reports
  | .nvmWriteFailed _ _ _ => [.power, .upd] ++ answers
  | .strapSample _ _ _ => [.power, .wrap, .sampler] ++ reports
  | .completionDelivery _ => [.path, .sampler] ++ answers
  | .planLoadTimeout => [.plans, .path, .sampler] ++ reports
  | .writebackAgeExpiry => [.path, .cache, .sampler] ++ answers
  | .flushAll _ => [.sec, .path, .cache, .sampler] ++ answers
  | .regionDescriptorWrite _ _ _ => [.sec, .plans, .path, .far, .sampler] ++ answers
  | .rowMoveBufferComplete _ => [.power, .dram] ++ serves
  | .debugUnlock _ => [.sec] ++ serves
  | .zeroisationPoisonDone => [.power, .wrap, .dram, .sec, .fuses] ++ serves
  | .nodeRejoin _ _ => [.power, .sec, .plans] ++ serves
  | .trafficResumed _ => [.heat] ++ serves
  | .wakeExitComplete => [.power, .dram, .sec, .heat] ++ serves
  | .hardwareComparator => [.power, .plans, .heat] ++ serves
  | .channelSlot _ _ => [.dram, .free, .plans, .heat] ++ serves
  | .groupRetrainDone _ _ _ _ _ => [.dram, .feeds, .path, .cache, .syncs, .train, .sampler] ++ answers
  | .bundleVerified => [.power, .sec, .train] ++ serves
  | .channelFault _ _ => [.power, .dram, .plans, .train] ++ serves
  | .alertSampled _ _ => [.power, .dram, .plans, .heat, .train] ++ serves
  | .supplyLoss _ => [.power, .free, .plans, .path, .cache, .clk, .sampler] ++ answers
  | .sheafPllRestartLimit _ => [.dram, .clk] ++ serves
  | .vcoreGood => [.power, .sec, .clk] ++ serves
  | .fallbackTimeout _ => [.power, .plans, .clk] ++ serves
  | .tide => [.power, .dram, .sec, .plans, .heat, .clk] ++ serves
  | .clockMonitorWindow _ _ _ _ _ _ => [.power, .dram, .plans, .train, .clk] ++ serves
  | .checkerSelfTestDone _ _ _ _ _ _ _ => [.power, .dram, .feeds, .path, .cache, .syncs, .heat, .train, .clk, .sampler] ++ answers
  | .warmReset _ => [.power, .wrap, .dram, .sec, .plans, .heat, .train, .clk, .upd] ++ serves

end Sys2Proof.Machine
end

