-- ==== Sys2Proof/Certificates/Slice0/Obligations.lean ====
section
/-!
DEFINITION. The statements about the block, chapter by chapter: what each command does where it completes, what it leaves, and what every
step keeps. A statement that says a value or a behaviour is the model's choice names the log entry.
-/
open Sys2Proof Sys2Proof.Machine

/-! ### The block -/

/-- A step carries out the command at the front of the queue, with the queue's rest (log 1 for an empty queue). -/
def Obligations.StepRunsTheFrontCommand : Prop :=
  ∀ (s : State) (c : Instr) (rest : List Instr), s.pending = c :: rest → step s = exec c { s with pending := rest }

/-! ### The DRAM layers (chapter 20) -/

/-- R510, R520 to R523, R525: the row commands. ACT opens the row of a precharged bank; PRE, and PREab of one layer, precharge; REFpb
refreshes two rows of each selected bank, its counters modulo 4,096; all of them draw a protocol alert from a bank that is not ready, and
a layer that takes no command is left alone. Nothing but the layer, and the alert, changes. -/
def Obligations.RowCommands : Prop :=
  ∀ (s : State) (c l b r m : Nat), s.chanOk c = true → l < 16 → b < 16 → r < 4096 → m < 16 →
    (s.layOn c l = false → exec (.layerAct c l b r) s = .next s ∧ exec (.layerPre c l b) s = .next s ∧
      exec (.layerPreab c l false) s = .next s ∧ exec (.layerRefpb c l (b % 4) m) s = .next s) ∧
    (s.layOn c l = true →
      ((s.lay c l).openRow b = none → (s.lay c l).inRepair b = false →
        exec (.layerAct c l b r) s = .next (s.setLay c l ((s.lay c l).setOpen b (some r)))) ∧
      (((s.lay c l).openRow b).isSome ∨ (s.lay c l).inRepair b = true →
        exec (.layerAct c l b r) s = .next (protoAlert c l s)) ∧
      ((s.lay c l).inRepair b = false → exec (.layerPre c l b) s = .next (s.setLay c l ((s.lay c l).setOpen b none))) ∧
      ((s.lay c l).inRepair b = true → exec (.layerPre c l b) s = .next (protoAlert c l s)) ∧
      exec (.layerPreab c l false) s = .next (s.setLay c l { s.lay c l with open_ := [] }) ∧
      exec (.layerPreab c 0 true) s = .next (forEach layers16 (fun k s' => layPreLayer c k s') s) ∧
      (l ≠ 0 → exec (.layerPreab c l true) s = .next (protoAlert c l s)) ∧
      ((∀ k ∈ refBanks (b % 4) m, (s.lay c l).openRow k = none ∧ (s.lay c l).inRepair k = false) →
        exec (.layerRefpb c l (b % 4) m) s = .next (s.setLay c l { s.lay c l with
          refRow := forEach (refBanks (b % 4) m) (fun k => alter 0 k fun n => (n + 2) % 4096) (s.lay c l).refRow })) ∧
      ((∃ k ∈ refBanks (b % 4) m, ((s.lay c l).openRow k).isSome ∨ (s.lay c l).inRepair k = true) →
        exec (.layerRefpb c l (b % 4) m) s = .next (protoAlert c l s)))

/-- R510, R511, R508, R521: the column commands on an open row. RD drives the line's 136 bytes, a free value where their content is
undefined, and RDC the chaff pattern, on the lanes in use; WR writes the line from the lanes, and draws one alert with nothing written
when the write preamble is missing. Auto-precharge then closes the bank. On a bank without an open row each draws a protocol alert. -/
def Obligations.ColumnCommands : Prop :=
  ∀ (s : State) (c l b k : Nat) (ap : Bool) (burst : Nat), s.chanOk c = true → l < 16 → b < 16 → k < 8 →
    (s.layOn c l = false → exec (.layerRd c l b k ap) s = .next s ∧ exec (.layerRdc c l b k ap) s = .next s ∧
      exec (.layerWr c l b k ap true burst) s = .next s) ∧
    (s.layOn c l = true → s.rowOf c l b = none →
      exec (.layerRd c l b k ap) s = .next (protoAlert c l s) ∧ exec (.layerRdc c l b k ap) s = .next (protoAlert c l s) ∧
      exec (.layerWr c l b k ap true burst) s = .next (protoAlert c l s)) ∧
    (∀ row, s.layOn c l = true → s.rowOf c l b = some row →
      exec (.layerRdc c l b k ap) s = .next (autoPre c l b ap
        (driveBurst c l (s.lay c l).beats true (fun beat _ => if beat % 2 = 0 then 0xAA else 0x55) (s.lay c l).inWidth s)) ∧
      exec (.layerWr c l b k ap false burst) s = .next (alertOn c s) ∧
      exec (.layerWr c l b k ap true burst) s = .next (autoPre c l b ap
        { s with dram := writePhys s.dram (s.cellLine c l b row k) ((s.lay c l).takeBurst burst) }) ∧
      (undefinedLine s.dram (s.cellLine c l b row k) = false →
        exec (.layerRd c l b k ap) s = .next (autoPre c l b ap
          (driveBurst c l (s.lay c l).beats true
            (fun beat g => match (s.lay c l).byteAt g beat with
              | some n => ((readPhys s.dram (s.cellLine c l b row k)).getD n 0).toNat
              | none => 0)
            (s.lay c l).inWidth s))) ∧
      (undefinedLine s.dram (s.cellLine c l b row k) = true →
        exec (.layerRd c l b k ap) s = .next (autoPre c l b ap
          (driveBurst c l (s.lay c l).beats true
            (fun beat g => match (s.lay c l).byteAt g beat with
              | some n => ((leBytes 136 (s.freeValue 1088)).getD n 0).toNat
              | none => 0)
            (s.lay c l).inWidth s.takeFree))))

/-- R513, R516, R519: MRW writes a value that the register may hold: the pattern and seed registers load the generators, CAPTURE [0] enters
capture mode, and FLAG_TEMP holds for the layer in every channel. Any other write draws a protocol alert. MRWB does the same in every
layer. -/
def Obligations.RegisterWrites : Prop :=
  ∀ (s : State) (c l a v : Nat), s.chanOk c = true → l < 16 → a < 256 → v < 256 → s.layOn c l = true →
    (regWritable a v = false → exec (.layerMrw c l a v) s = .next (protoAlert c l s) ∧
      exec (.layerMrwb c a v) s =
        .next (alertOn c (forEach (layers16.filter fun k => s.layOn c k) (markAlert c) s))) ∧
    (regWritable a v = true → exec (.layerMrwb c a v) s = .next (forEach layers16 (fun k => layRegWrite c k a v) s)) ∧
    (regWritable a v = true → (a < 0x13 ∨ 0x17 < a ∨ (a = 0x17 ∧ v.testBit 0 = false)) → exec (.layerMrw c l a v) s =
      .next (s.setLay c l { s.lay c l with regs := put (regReset a) a v (s.lay c l).regs })) ∧
    (regWritable a v = true → (a = 0x14 ∨ a = 0x15 ∨ a = 0x16) → exec (.layerMrw c l a v) s =
      .next (s.setLay c l ({ s.lay c l with regs := put (regReset a) a v (s.lay c l).regs } : LayerChan).loadGens)) ∧
    (regWritable a v = true → a = 0x17 → v.testBit 0 = true → exec (.layerMrw c l a v) s =
      .next (s.setLay c l { s.lay c l with regs := put (regReset a) a v (s.lay c l).regs, capturing := true })) ∧
    (regWritable a v = true → a = 0x13 → exec (.layerMrw c l a v) s =
      .next (((s.setLay c l { s.lay c l with regs := put (regReset a) a v (s.lay c l).regs }).setDie (stackOf c) l
        ({ s.die (stackOf c) l with flagTemp := v } : LayerDie).refreshFlag).setOb (0x3800 + stackOf c) 0x0C v))

/-- R515, R517, R518: register readout and calibration. MRR drives eight register bytes on the check group's lanes and clears what a
readout clears. RDP drives one burst of the pattern, WRP compares one with it, ERRCLR clears ERRORS, PRESET loads the generators, LBW
captures a burst and LBR drives it back. -/
def Obligations.ReadoutAndCalibration : Prop :=
  ∀ (s : State) (c l a burst : Nat), s.chanOk c = true → l < 16 → a < 256 → s.layOn c l = true →
    (a % 8 ≠ 0 → exec (.layerMrr c l a) s = .next (protoAlert c l s)) ∧
    (a % 8 = 0 → exec (.layerMrr c l a) s = .next (clearOnRead c l a
      (driveBurst c l 8 false (fun b _ => ((List.range 8).map fun i => layReg c l (a + i) s).getD b 0) (fun g => g == 16) s))) ∧
    ((s.lay c l).reg 0x14 % 4 = 3 → exec (.layerRdp c l) s = .next (s.setDch c { s.dch c with bus := 0, driven := 0 })) ∧
    ((s.lay c l).reg 0x14 % 4 ≠ 3 → Gives (.layerRdp c l) s fun t =>
      ∃ bus, t = (s.setLay c l (forEach (List.range 18) (fun g x => x.stepGroup g 8) (s.lay c l))).setDch c
          { s.dch c with bus := bus, driven := 2 ^ 144 - 1 } ∧
        ∀ b g, b < 8 → g < 18 → some (laneByte bus b g) = (s.lay c l).patternByte g b) ∧
    (∀ all, exec (.layerWrp c l all false burst) s = .next (alertOn c s) ∧
      exec (.layerWrp c l all true burst) s = .next (forEach (calLayers c l all s) (fun k s' => s'.setLay c k
        (forEach (List.range 18) (fun g x => x.stepGroup g 8)
          { s'.lay c k with errors := (s'.lay c k).errors ||| (s'.lay c k).mismatch burst })) s) ∧
      exec (.layerErrclr c l all) s = .next (forEach (calLayers c l all s) (fun k s' => s'.setLay c k { s'.lay c k with errors := 0 }) s) ∧
      exec (.layerPreset c l all) s = .next (forEach (calLayers c l all s) (fun k s' => s'.setLay c k (s'.lay c k).loadGens) s)) ∧
    (calLayers c l false s = [l] ∧ calLayers c l true s = layers16.filter fun k => s.layOn c k) ∧
    exec (.layerLbw c l true burst) s = .next (s.setLay c l { s.lay c l with loop := burst % 2 ^ 1152 }) ∧
    exec (.layerLbw c l false burst) s = .next (alertOn c s) ∧
    exec (.layerLbr c l) s = .next (s.setDch c { s.dch c with bus := (s.lay c l).loop, driven := 2 ^ 144 - 1 })

/-- R530 to R532, R520, R534, R519: the modes of a layer. SRE with every bank precharged enters self-refresh, and draws an alert with a bank
open; SRX ends it, and what was not retained is lost; a command that fails parity is ignored, and every layer that finds it counts it and sets
its status bit, with the channel's alert; the reset pattern ends self-refresh and keeps the cells; capture mode ends with CAPTURE cleared. (What a
reset pattern in self-refresh leaves of the segments not retained is the model's reading, log 51.) -/
def Obligations.LayerModes : Prop :=
  ∀ (s : State) (c l cls mask : Nat), s.chanOk c = true → l < 16 →
    -- SRE with every bank precharged; with an open bank, or class 3, it draws an alert
    ((∃ k ∈ layers16, s.layOn c k = true) → cls < 3 → mask < 65536 →
      (∀ k ∈ layers16, s.layOn c k = true → (s.lay c k).idle = true) → Gives (.layerSre c cls mask) s fun t =>
        t = (forEach layers16 (fun k s' => s'.setLay c k { s'.lay c k with srSince := s.now }) s).setDch c
          { s.dch c with selfRef := some (cls, mask) }) ∧
    ((∃ k ∈ layers16, s.layOn c k = true ∧ (s.lay c k).idle = false) → cls < 3 → Gives (.layerSre c cls mask) s fun t =>
        t = alertOn c (forEach (layers16.filter fun k => s.layOn c k && !(s.lay c k).idle) (markAlert c) s)) ∧
    -- SRX ends it, and what was not retained is lost
    (∀ cl m, (s.dch c).selfRef = some (cl, m) → Gives (.layerSrx c) s fun t =>
        let u := forEach layers16 (fun k s' => s'.setLay c k { s'.lay c k with srSince := 0 }) (forEach layers16 (fun k => srAdvance c k) s)
        t = (loseContent c m u).setDch c { (loseContent c m u).dch c with selfRef := none }) ∧
    ((s.dch c).selfRef = none → exec (.layerSrx c) s = .next s) ∧
    -- a command that fails parity is ignored, counted by every layer and alerted
    ((∃ k ∈ layers16, s.layOn c k = true) → exec (.commandParityError c) s = .next (alertOn c
      (forEach (layers16.filter fun k => s.layOn c k) (fun k s' => s'.setLay c k { s'.lay c k with
        parityErr := true, parityCount := min 255 ((s'.lay c k).parityCount + 1) }) s))) ∧
    -- the reset pattern ends self-refresh and touches nothing but the DRAM
    (Gives (.resetPattern c) s fun t => ∃ u : Dram,
      t = ({ s with dram := u } : State).setDch c { ({ s with dram := u } : State).dch c with selfRef := none } ∧
      u.cells = s.dram.cells ∧ u.fill = s.dram.fill ∧
      ((s.dch c).selfRef = none → u.lost = s.dram.lost ∧ u.rewritten = s.dram.rewritten)) ∧
    -- capture mode ends with CAPTURE cleared
    ((s.lay c l).capturing = true → exec (.caCaptureExit c l) s =
      .next (s.setLay c l { s.lay c l with capturing := false, regs := put 0 0x17 0 (s.lay c l).regs })) ∧
    ((s.lay c l).capturing = false → exec (.caCaptureExit c l) s = .next s)

/-- R527, R528: RPR with every bank of the layer precharged soft-maps the row, or starts a hard repair of the bank; otherwise it draws a
protocol alert. The end of a hard repair fuses the mapping, or sets STATUS [1]; a spare row to which the row was not mapped before is
undefined until written. -/
def Obligations.RowRepair : Prop :=
  ∀ (s : State) (c l b r : Nat), s.chanOk c = true → l < 16 → b < 16 → r < 4096 →
    (s.layOn c l = true → (s.lay c l).idle = true → (s.lay c l).inRepair b = false →
      ((s.lay c l).reg 0x18).testBit 3 = false →
        exec (.layerRpr c l b r) s = .next (softMap c l b r ((s.lay c l).reg 0x18 % 8) s) ∧
        (look 0 (4096 * b + r) (s.lay c l).soft = (s.lay c l).reg 0x18 % 8 + 1 → exec (.layerRpr c l b r) s = .next s) ∧
        (look 0 (4096 * b + r) (s.lay c l).soft ≠ (s.lay c l).reg 0x18 % 8 + 1 → Gives (.layerRpr c l b r) s fun t =>
          undefinedLine t.dram (physLine c l b (4096 + (s.lay c l).reg 0x18 % 8) 0) = true)) ∧
    (s.layOn c l = true → (s.lay c l).idle = true → (s.lay c l).inRepair b = false →
      ((s.lay c l).reg 0x18).testBit 3 = true → exec (.layerRpr c l b r) s =
        .next (s.setLay c l { s.lay c l with busy := some (b, r, (s.lay c l).reg 0x18 % 8) })) ∧
    (s.layOn c l = true → ((s.lay c l).idle = false ∨ (s.lay c l).inRepair b = true) →
      exec (.layerRpr c l b r) s = .next (protoAlert c l s)) ∧
    -- tHPR has passed: what the layer records of it, and what the controller counts and raises
    (∀ ok, (s.lay c l).busy = none → exec (.hardRepairDone c l ok) s = .next s) ∧
    (∀ ok i, (s.lay c l).busy = some (b, r, i) → Canonical objDefault s.obj → Gives (.hardRepairDone c l ok) s fun t => ∃ u,
      t = startHard c l u ∧ u.dram = (layHardDone c l ok s).dram ∧
      u.ob (0x3800 + stackOf c) (if ok then 9 else 0x0A) =
        (s.ob (0x3800 + stackOf c) (if ok then 9 else 0x0A) + 1) % 2 ^ objWidth (objKey (0x3800 + stackOf c) (if ok then 9 else 0x0A))) ∧
    (∀ i, (s.lay c l).busy = some (b, r, i) →
      (let key := 4096 * b + r
       let u := s.setLay c l { s.lay c l with busy := none, hardFailed := false, hard := put 0 key (i + 1) (s.lay c l).hard }
       ((look 0 key (s.lay c l).soft = i + 1 ∨ look 0 key (s.lay c l).hard = i + 1) → layHardDone c l true s = u) ∧
       (look 0 key (s.lay c l).soft ≠ i + 1 → look 0 key (s.lay c l).hard ≠ i + 1 →
         layHardDone c l true s = { u with dram := loseSpare c l b (4096 + i) u.dram })) ∧
      layHardDone c l false s = s.setLay c l { s.lay c l with busy := none, hardFailed := true })

/-- R505, R516, R531, R533: a conversion that lies within −64 °C to 191.75 °C is the sensor's reading, any other leaves it invalid; the
thermal flag and the refresh class follow the hottest sensor, and a change of that class brings the refresh counters up first. -/
def Obligations.SensorConversion : Prop :=
  ∀ (s : State) (st l i code : Nat), st < s.cfg.nstacks → l < 16 → i < 9 → code < 65536 →
    Gives (.layerSensorConversion st l i code) s fun t =>
      let stored := if -256 ≤ signed 16 code ∧ signed 16 code ≤ 767 then code else 0x8000
      let d := ({ s.die st l with readings := put 0x8000 i stored (s.die st l).readings } : LayerDie).refreshFlag
      t = (if d.tempClass = (s.die st l).tempClass then s
        else forEach (List.range 72) (fun k => srAdvance (72 * st + k) l) s).setDie st l d

/-- What a layer takes from a burst that a controller drove for a line is that line, at full and half width and with any group steered to
the spare (R308, R507, R508). -/
def Obligations.BurstRoundTrip : Prop :=
  ∀ (x : LayerChan) (line : List Byte), x.width ≤ 2 → line.length = 136 → x.takeBurst (x.makeBurst line) = line

/-- A line written by WR and then read back: the cells of that line hold the bytes taken from the lanes, every other cell reads as it did,
and the line's content is defined from then on (R510, R530). -/
def Obligations.WriteThenRead : Prop :=
  ∀ (s t : State) (c l b k row burst : Nat), s.chanOk c = true → l < 16 → b < 16 → k < 8 → s.layOn c l = true →
    s.rowOf c l b = some row → Canonical (cellDefault s.dram.fill) s.dram.cells →
    exec (.layerWr c l b k false true burst) s = .next t →
    readPhys t.dram (s.cellLine c l b row k) = (s.lay c l).takeBurst burst ∧
    (∀ addr, addr / 136 ≠ s.cellLine c l b row k → readCell t.dram addr = readCell s.dram addr) ∧
    undefinedLine t.dram (s.cellLine c l b row k) = false ∧
    Canonical (cellDefault t.dram.fill) t.dram.cells ∧
    t = { s with dram := { s.dram with cells := t.dram.cells, rewritten := t.dram.rewritten } }

/-! ### Power, resets and node states (chapter 16) -/

/-- R414, R427, R428: VKEEP that becomes good moves OFF to BOOT, a loss of it any state to OFF, and a set reset any other to BOOT, held
while its input stays 0. Each leaves fuses, NVM records and what silicon fixes, and every object at its default but the kind of the last
reset, the KSO trim, the policy word of the owner record and, over a set reset, the rollback floor. -/
def Obligations.ColdResets : Prop :=
  ∀ s : State,
    let cleared (t : State) : Prop := t.cfg = s.cfg ∧ t.fuses = s.fuses ∧ t.nvm = coldNvm s.upd.copying s.nvm ∧ t.dram = coldDram s.dram ∧
      t.syncs = [] ∧ t.cache = .reset ∧ t.sec = .reset ∧ t.hl = .reset ∧ t.plans = .reset ∧ t.feeds = .reset ∧ t.far = .reset ∧
      t.path.asks = [] ∧ t.out = s.out ∧ t.pending = s.pending ∧ t.now = s.now
    (s.power.node = .off → Gives .powerOnReset s fun t => t.power.node = .boot ∧ cleared t ∧ t.ob 0xB040 1 = 1 ∧
      ∀ idx sub, sub < 256 → idx ≠ 0xB040 → idx ≠ 0xB001 → idx ≠ 0x6020 → t.ob idx sub = objDefault (objKey idx sub)) ∧
    (s.power.node ≠ .off → exec .powerOnReset s = .next s) ∧
    (s.power.node ≠ .off → Gives .vkeepLoss s fun t => t.power.node = .off ∧ t.power.vkeep = false ∧ cleared t ∧
      t.procs.keeper.running = false) ∧
    (s.power.node = .off → exec .vkeepLoss s = .next s) ∧
    (s.power.node ≠ .off → s.power.setHeld = false → Gives .setReset s fun t => t.power.node = .boot ∧ t.power.setHeld = true ∧
      t.power.vcore = s.power.vcore ∧ t.power.vphy = s.power.vphy ∧ cleared t ∧ t.ob 0xB040 1 = 2 ∧ t.ob 0x8000 7 = s.ob 0x8000 7 ∧
      ∀ idx sub, sub < 256 → idx ≠ 0xB040 → idx ≠ 0xB001 → idx ≠ 0x6020 → idx ≠ 0x8000 → t.ob idx sub = objDefault (objKey idx sub)) ∧
    (s.power.setHeld = true → exec .setReset s = .next s)

/-- R418, R542, R551, R552, R554: VCORE that becomes good starts FO and sv_ref_a, and BOOT goes on to CONFIG when an image is there to run;
a loss of VCORE or VPHY while VKEEP is held leads to HALTED; the straps are held as sampled when KFO becomes stable; a change of
sv_power_warn is taken, at most one in 10 µs. -/
def Obligations.SuppliesAndStraps : Prop :=
  ∀ (s : State) (n z : Nat) (rec level : Bool), s.power.node ≠ .off →
    (Gives .vcoreGood s fun t => t.power.vcore = true ∧ t.power.vphy = true) ∧
    (s.power.node = .boot → s.upd.selected = true → s.power.warm = false → s.power.setHeld = false →
      Gives .vcoreGood s fun t => t.power.node = .config ∧ t.power.selfTested = false ∧ t.procs.sequencer = ⟨true, none⟩ ∧
        t.procs.steward = ⟨true, none⟩ ∧ t.procs.warden = ⟨true, none⟩) ∧
    (s.power.vcore = true → s.power.node ≠ .halted → Gives (.supplyLoss false) s fun t =>
      t.power.node = .halted ∧ t.power.vcore = false ∧ t.cache.ways = [] ∧ t.procs.sequencer.running = false) ∧
    (s.power.vphy = true → s.power.node ≠ .halted → Gives (.supplyLoss true) s fun t =>
      t.power.node = .halted ∧ t.power.vphy = false) ∧
    (s.power.setHeld = false → s.power.strapped = false → s.stable srcKfo = true → Gives (.strapSample n z rec) s fun t =>
      t.pins.nodeId = n % 8 ∧ t.pins.setSize = z % 8 ∧ t.pins.recovery = rec ∧ t.power.strapped = true) ∧
    (s.power.setHeld = true → Gives (.strapSample n z rec) s fun t =>
      t.pins.nodeId = n % 8 ∧ t.pins.setSize = z % 8 ∧ t.pins.recovery = rec ∧ t.power.setHeld = false ∧ t.wrap.held = false) ∧
    (s.power.setHeld = false → s.power.strapped = true → exec (.strapSample n z rec) s = .next s) ∧
    (s.pins.powerWarn.value ≠ b2n level → (s.pins.powerWarn.ever = false ∨ s.elapsed s.pins.powerWarn.at_ (10 * usTicks) = true) →
      exec (.powerWarnTaken level) s = .next { s with pins := { s.pins with powerWarn := ⟨b2n level, s.now, true⟩ } }) ∧
    ((s.pins.powerWarn.value = b2n level ∨ (s.pins.powerWarn.ever = true ∧ s.elapsed s.pins.powerWarn.at_ (10 * usTicks) = false)) →
      exec (.powerWarnTaken level) s = .next s)

/-- R415, R416, R424, R425, R429: a warm reset stops the processors and goes to BOOT; a request for READY ends the wait in CONFIG, or wakes
the node; one for REST or DEEP from READY, with no reason of R416 against it, enters that state at once. -/
def Obligations.StateRequests : Prop :=
  ∀ (s : State) (r : Req),
    (s.applies r 0x2000 4 [1] = true → s.power.testUsed = false → (s.power.warm = false ∨ s.power.node ≠ .boot) →
      s.upd.selected = true → Gives (.warmReset r) s fun t => t.power.node = .boot ∧ t.power.warm = true ∧ t.power.warmAt = s.now ∧
        t.procs.sequencer.running = false ∧ t.procs.steward.running = false ∧ t.procs.warden.running = false ∧ t.sec.loaded = []) ∧
    (s.applies r 0x2000 2 [4] = true → s.power.warm = false → (s.begun r).moveRefusal false = 0 →
      (s.power.node = .config → Gives (.stateRequestReady r) s fun t => t.power = { s.power with readyAsked := true }) ∧
      ((s.power.node = .rest ∨ s.power.node = .deep) → s.power.entering = true → Gives (.stateRequestReady r) s fun t =>
        t.power = { s.power with heldWake := true }) ∧
      ((s.power.node = .rest ∨ s.power.node = .deep) → s.power.entering = false → s.power.waking = false →
        Gives (.stateRequestReady r) s fun t => t.power = { s.power with waking := true, heldWake := false } ∧
          t.procs.sequencer.running = (s.power.node = .rest || s.procs.sequencer.running))) ∧
    (s.applies r 0x2000 2 [4] = true → s.power.warm = false → (s.begun r).moveRefusal false ≠ 0 →
      (s.power.node = .config ∨ s.power.node = .rest ∨ s.power.node = .deep) → Gives (.stateRequestReady r) s fun t =>
        t.power = s.power ∧ t.ob 0x2000 6 = (s.begun r).moveRefusal false) ∧
    (s.applies r 0x2000 2 [6] = true → s.power.warm = false → (s.begun r).restRefusal false = 0 →
      Gives (.stateRequestRest r) s fun t => t.power = { s.power with
        resetFrom := s.power.node.code, node := .rest, entering := true, reloaded := false }) ∧
    (s.applies r 0x2000 2 [7] = true → s.power.warm = false → (s.begun r).restRefusal true = 0 →
      Gives (.stateRequestDeep r) s fun t => t.power = { s.power with
        resetFrom := s.power.node.code, node := .deep, entering := true, reloaded := false })

/-- R418, R420, R421, R424, R425, R431, R434: the way into service and out of it. CONFIG ends in READY once every blocker is clear; entry to
REST or DEEP ends once everything is drained and every channel is in self-refresh; a wake ends in READY; the checker self-test starts the
training of every channel; a node in shadow state arms its own join. -/
def Obligations.IntoAndOutOfService : Prop :=
  ∀ (s : State) (r : Req) (c : Nat),
    (s.power.node = .config → s.startClear = true → s.power.warm = false → Gives .configBlockersClear s fun t =>
      t.power.node = .ready ∧ t.power.shadow = false ∧ t.power.fill = []) ∧
    (s.power.entering = true → s.drained = true → ((List.range s.channels).all s.restsNow) = true → s.power.heldWake = false →
      Gives .restEntryDrained s fun t => t.power.entering = false ∧ t.power.node = s.power.node ∧ t.sec.loaded = [] ∧ t.cache.ways = [] ∧
        t.procs.sequencer.running = false ∧ t.procs.steward.running = false ∧ t.procs.warden.running = false) ∧
    (s.power.entering = true → s.drained = true → s.power.heldWake = true → ((List.range s.channels).all s.restsNow) = true →
      Gives .restEntryDrained s fun t => t.power.entering = false ∧ t.power.waking = true) ∧
    (s.power.entering = true → s.drained = true → c < s.channels → s.restsNow c = false → (s.chan c).draining = none →
      (s.dch c).selfRef = none → s.power.node = .rest →
      Gives .restEntryDrained s fun t => (t.chan c).draining = some (s.refreshClass c, 0xFFFF)) ∧
    (s.power.waking = true → s.power.node = .rest → (∀ k < s.channels, s.chanState k = 2 ∨
        ((s.dch k).selfRef = none ∧ s.chanState k ≠ 6 ∧ (s.chan k).poisonDue = 0)) → Gives .wakeExitComplete s fun t =>
      t.power.node = .ready ∧ t.power.waking = false ∧
        t.sec.loaded = (s.sec.keys.map (·.1)).filter fun n => slotNamed n s.signedPlan s) ∧
    (c < s.channels → s.power.node = .halted → s.elapsed s.power.warmAt (100 * usTicks) = true → s.chanState c ≠ 2 →
      (s.dch c).selfRef = none → c ∉ s.power.unretained → exec (.unretainedChannelTimeout c) s =
        .next (({ s with power := { s.power with unretained := s.power.unretained ++ [c] } } : State).setOb 0xB040 6
          (s.power.unretained.length + 1))) ∧
    (c < s.channels → s.power.node = .config → c ∈ s.power.fill → s.ob (chanIdx c) 0x40 = 3 → s.clockFull c = true →
      Gives (.unretainedPoisonFillDone c) s fun t => t.dram = (forEach (List.range 512) (poisonBlock c) s).dram ∧
        t.power.fill = s.power.fill.filter (fun x => x != c)) ∧
    (∀ a b d m reps xs, s.power.node = .config → s.power.selfTested = false → Gives (.checkerSelfTestDone [] a b d m reps xs) s fun t =>
      t.power.selfTested = true ∧ ((a = true ∧ b = true) ∨ d = true ∨ m = true → t.power.checkerFailed = true) ∧
      t.clk.replicasOut = (List.range 16).filter reps.contains) ∧
    (s.orders r 0x2000 5 (leBytes 1 s.me) = true → s.me < 8 → s.power.shadow = true → Gives (.nodeRejoin r s.me) s fun t =>
      t.power = { s.power with rejoin := true, reloaded := false }) ∧
    (s.power.node = .deep → s.power.waking = true → s.power.reloaded = false → Gives .bundleVerified s fun t =>
      t.power = { s.power with reloaded := true } ∧ t.procs.sequencer = ⟨true, none⟩) ∧
    (s.power.node = .boot → s.power.warm = true → s.power.vcore = true → s.dirtyLines = [] → s.balesDirty = false →
      ((List.range s.channels).all s.restsNow) = true → Gives .bundleVerified s fun t =>
        t.power.node = .config ∧ t.procs.sequencer = ⟨true, none⟩) ∧
    (s.elapsed s.power.warmAt msT = true → s.dirtyLines ≠ [] → s.power.halting = false → s.power.warm = true → s.power.node = .boot →
      Gives .writeBackLimitExpiry s fun t => t.power.node = .halted ∧ t.power.warm = false) ∧
    (s.elapsed s.power.warmAt msT = true → s.dirtyLines ≠ [] → s.power.halting = true → Gives .writeBackLimitExpiry s fun t =>
      t.power.halting = false ∧ ∀ k ∈ s.dirtyChans, k ∈ t.power.unretained)

/-- R25, R26: the Keeper restarts a processor that runs, and a hardware watchdog the Keeper; a fault of a second one before that restart has
completed, or a restart of 50 ms, halts the node; a restart that completes lets the processor run, the Sequencer then fencing what waited
for it and the Keeper logging what it had staged. -/
def Obligations.ProcessorRestarts : Prop :=
  ∀ (s : State) (p : ProcId), s.power.node ≠ .off →
    (p ≠ .keeper → (s.procs.get p).running = true → s.procs.anyRestart = true → s.power.node ≠ .halted →
      (Gives (.processorFault p) s fun t => t.power.node = .halted) ∧
      (Gives (.processorWatchdogExpiry p) s fun t => t.power.node = .halted)) ∧
    ((s.procs.get p).running = false → p ≠ .keeper → exec (.processorFault p) s = .next s ∧ exec (.processorWatchdogExpiry p) s = .next s) ∧
    (p ≠ .keeper → (s.procs.get p).running = true → s.procs.anyRestart = false →
      (Gives (.processorFault p) s fun t => t.procs.get p = ⟨true, some s.now⟩) ∧
      (Gives (.processorWatchdogExpiry p) s fun t => t.procs.get p = ⟨true, some s.now⟩)) ∧
    (s.procs.keeper.running = true → s.procs.anyRestart = false → Gives .keeperWatchdogExpiry s fun t =>
      t.procs.keeper = ⟨true, some s.now⟩) ∧
    ((s.procs.get p).restart.isSome = true → Gives (.processorRestartDone p) s fun t => t.procs.get p = ⟨true, none⟩ ∧
      (p = .sequencer → t.procs.fences = []) ∧ (p = .keeper → t.procs.staged = [] ∧ t.procs.stagedLost = 0)) ∧
    ((s.procs.get p).restart = none → exec (.processorRestartDone p) s = .next s) ∧
    (∀ since, (s.procs.get p).restart = some since → s.elapsed since (50 * msT) = true → s.power.node ≠ .halted →
      Gives (.restartLimitExpiry p) s fun t => t.power.node = .halted)

/-! ### The test wrapper (R555, R556) -/

/-- R555, R556: with VKEEP good, WS_BYPASS, SV_IDCODE and SV_STATUS take effect at once and capture their register; the held instructions
that unlock nothing take effect in set reset or in HALTED, where what they capture is a free value and the next reset is a set reset, and
load WS_BYPASS anywhere else. In OFF none does anything. -/
def Obligations.WrapperInstructions : Prop :=
  ∀ s : State,
    (s.power.node = .off → ∀ c ∈ [Instr.wsBypass, .svIdcode, .svStatus, .wsExtest, .svMbistLogic, .svSdiLoop, .wsIntestScan, .svMbistCache,
      .svMbistVkeep, .svDramAccess, .svProcDebug, .svWardenDebug], exec c s = .next s) ∧
    (s.power.node ≠ .off →
      exec .wsBypass s = .next { s with wrap := ⟨0, false, none, 0⟩ } ∧
      exec .svIdcode s = .next { s with wrap := ⟨3, false, none, s.cfg.hardwareVersion % 65536 * 65536 + 0x5658⟩ } ∧
      exec .svStatus s = .next { s with wrap :=
        ⟨4, false, none, s.power.node.code * 2 ^ 56 + s.blockersShown % 1024 * 2 ^ 46 + s.ob 0xB040 5 % 64 * 2 ^ 40⟩ } ∧
      (∀ c n w, (c, n, w) ∈ [(Instr.wsExtest, 1, 1088), (.svMbistLogic, 5, 32), (.svSdiLoop, 8, 144)] →
        ((s.power.setHeld = true ∨ s.power.node = .halted) → exec c s = .next { s with
          wrap := ⟨n, true, none, s.freeValue w⟩, power := { s.power with testUsed := true }, free := s.free + 1 }) ∧
        (s.power.setHeld = false → s.power.node ≠ .halted → exec c s = .next { s with wrap := ⟨0, false, none, 0⟩ })))

/-- R389, R556: a held debug unlock taken in HALTED or in set reset, with no reason of R389 against it, starts zeroisation,
which fences every stream, and its instruction waits for the end of it; one that may not take effect, or is refused, loads WS_BYPASS. -/
def Obligations.DebugInstructions : Prop :=
  ∀ (s : State) (c : Instr) (n w : Nat), s.power.node ≠ .off →
    (c, n, w) ∈ [(Instr.wsIntestScan, 2, 1088), (.svMbistCache, 6, 32), (.svMbistVkeep, 7, 32), (.svDramAccess, 9, 64),
      (.svProcDebug, 10, 64), (.svWardenDebug, 11, 64)] →
    (s.wrapHeldOk = false ∨ s.sec.zeroing.isSome = true → exec c s = .next { s with wrap := ⟨0, false, none, 0⟩ }) ∧
    (s.wrapHeldOk = true → s.sec.zeroing = none → s.debugRefusal ≠ 0 → Gives c s fun t =>
      t.wrap = ⟨0, false, none, 0⟩ ∧ t.sec.zeroing = none ∧ t.free = s.free + 1) ∧
    (s.wrapHeldOk = true → s.sec.zeroing = none → s.debugRefusal = 0 → Gives c s fun t =>
      t.sec.zeroing.isSome = true ∧ t.wrap = ⟨0, false, some n, s.freeValue w⟩ ∧ t.free = s.free + 1)

/-! ### Keys, owners and attestation (chapter 14) -/

/-- R382, R383, R387: the key commands from an owner session. GENERATE_XTS and GENERATE_GCM fill an empty slot with keys that are free
values, the two XTS keys different; IMPORT_VERIFY fills it with the staged pair, which is cleared; ERASE empties a slot that is not
named. A slot that is not empty, or an erased one that is named, is denied with the command's code in 0x6030:02. -/
def Obligations.KeyCommands : Prop :=
  ∀ (s : State) (r : Req) (world : Bool) (n : Nat), n < 256 → keyBusy s = false →
    (s.applies r 0x6030 1 (keyWord 1 world n) = true → (s.key n).kind = .empty → Gives (.generateXts r world n) s fun t =>
      (t.key n).kind = .xts ∧ (t.key n).world = world ∧ (t.key n).key ≠ (t.key n).key2 ∧
      (t.key n).key = s.freeValue 256 ∧ (t.key n).loads = ((s.key n).loads + 1) % 65536 ∧ n ∈ t.sec.loaded ∧ t.free = s.free + 3) ∧
    (s.applies r 0x6030 1 (keyWord 2 world n) = true → (s.key n).kind = .empty → Gives (.generateGcm r world n) s fun t =>
      t.key n = { kind := .gcm, world := world, loads := ((s.key n).loads + 1) % 65536, fingerprint := 0, key := s.freeValue 256, key2 := 0 } ∧
      n ∈ t.sec.loaded ∧ t.free = s.free + 1) ∧
    (s.applies r 0x6030 1 (keyWord 3 world n) = true → (s.key n).kind = .empty → s.sec.stagedVerify ≠ [] →
      Gives (.importVerify r world n) s fun t => t.sec.stagedVerify = [] ∧
        if Config.validPublicKey false (s.sec.stagedVerify.take 97) = true ∧ Config.validPublicKey true (s.sec.stagedVerify.drop 97) = true
        then (t.key n).kind = .verify ∧ (t.key n).world = world ∧ (t.key n).key = leNat (s.sec.stagedVerify.take 97) ∧
          (t.key n).key2 = leNat (s.sec.stagedVerify.drop 97) ∧ n ∈ t.sec.loaded
        else t.ob 0x6030 2 = 3 ∧ t.sec.keys = s.sec.keys) ∧
    (s.applies r 0x6030 1 (keyWord 4 world n) = true → slotNamed n s.signedPlan (s.begun r) = false → Gives (.erase r world n) s fun t =>
      t.sec.keys = put .reset n { KeySlot.reset with loads := (s.key n).loads } s.sec.keys ∧ n ∉ t.sec.loaded) ∧
    (s.applies r 0x6030 1 (keyWord 1 world n) = true → (s.key n).kind ≠ .empty → Gives (.generateXts r world n) s fun t =>
      t.ob 0x6030 2 = 1 ∧ t.sec = (s.begun r).sec) ∧
    (s.applies r 0x6030 1 (keyWord 4 world n) = true → slotNamed n s.signedPlan (s.begun r) = true → Gives (.erase r world n) s fun t =>
      t.ob 0x6030 2 = 4 ∧ t.sec = (s.begun r).sec)

/-- R379, R387: the owner commands. CLAIM in CONFIG, from a secured session with both keys staged, blows an epoch fuse, writes the record
and makes the node OWNED; TRANSFER, RELEASE and ZEROISE from an owner session begin a zeroisation, which keeps its cause. -/
def Obligations.OwnerCommands : Prop :=
  ∀ (s : State) (r : Req), s.sec.zeroing = none → s.procs.warden.restart = none →
    (s.orders r 0x6020 4 [1] = true → s.sec.lifecycle = .unowned → s.power.node = .config → s.inSession r = true → keysStaged s = true →
      s.fuses.epoch < 64 → s.canRecord 4 = true → Gives (.claim r) s fun t => t.fuses = { s.fuses with epoch := s.fuses.epoch + 1 } ∧ t.sec.lifecycle = .owned ∧
        t.nvm.owner = ⟨true, s.sec.stagedEc, s.sec.stagedMl, s.ob 0x6020 3, s.fuses.epoch + 1, true⟩ ∧ t.sec.stagedEc = [] ∧
        t.sec.stagedMl = []) ∧
    (s.sec.lifecycle = .owned → s.isOwner r = true →
      (s.orders r 0x6020 4 [2] = true → keysStaged s = true → s.fuses.epoch < 64 → s.canRecord 4 = true → Gives (.transferOwner r) s fun t =>
        t.sec.zeroing = some .transfer ∧ t.sec.transferEc = s.sec.stagedEc ∧ t.sec.transferMl = s.sec.stagedMl ∧
        t.sec.lifecycle = .zeroising ∧ t.fuses = s.fuses) ∧
      (s.orders r 0x6020 4 [3] = true → Gives (.release r) s fun t => t.sec.zeroing = some .release ∧ t.sec.lifecycle = .zeroising) ∧
      (s.orders r 0x6020 4 [4] = true → Gives (.zeroise r) s fun t => t.sec.zeroing = some .zeroise ∧ t.sec.lifecycle = .zeroising ∧
        t.sec.lifecycleAfter = .owned))

/-- R387, R389: a zeroisation that ends has run its poison fill; it erased every key slot, and its cause gives what follows: the new
record, none, the lifecycle as it was, or the debug flag. A debug unlock that no reason of R389 is against begins one. -/
def Obligations.Zeroisation : Prop :=
  ∀ (s : State) (i : Nat),
    (debugCode i = true → s.power.node ≠ .off → s.sec.zeroing = none → s.debugRefusal = 0 → Gives (.debugUnlock i) s fun t =>
      t.sec.zeroing = some (.debug i) ∧ t.sec.lifecycle = .zeroising ∧ t.sec.lifecycleAfter = s.sec.lifecycle) ∧
    (debugCode i = true → s.power.node ≠ .off → s.sec.zeroing = none → s.debugRefusal ≠ 0 → Gives (.debugUnlock i) s fun t =>
      t.sec = s.sec) ∧
    (∀ cause, s.sec.zeroing = some cause → s.sec.zeroStage = 2 → Gives .zeroisationPoisonDone s fun t =>
      t.sec.zeroing = none ∧ t.sec.zeroStage = 0 ∧ t.sec.poisonRanges = [] ∧ t.sec.keys = s.sec.keys ∧
      (cause = .zeroise → t.sec.lifecycle = s.sec.lifecycleAfter) ∧
      (cause = .release → t.sec.lifecycle = .unowned ∧ t.nvm.owner = .none) ∧
      (cause = .transfer → t.sec.lifecycle = .owned ∧ t.fuses.epoch = s.fuses.epoch + 1 ∧ t.nvm.owner.keyEc = s.sec.transferEc ∧
        t.nvm.owner.keyMl = s.sec.transferMl ∧ t.nvm.owner.epoch = s.fuses.epoch + 1) ∧
      (cause = .absentRecord → t.sec.lifecycle = .unowned) ∧
      (∀ k, cause = .debug k → t.sec.debugFlag = true ∧ t.sec.lifecycle = s.sec.lifecycleAfter)) ∧
    (∀ cause, s.sec.zeroing = some cause → s.sec.zeroStage = 1 → s.secureWork = false → Canonical (fun _ => KeySlot.reset) s.sec.keys →
      Gives .zeroisationPoisonDone s fun t => t.sec.zeroing = none ∧ t.sec.loaded = [] ∧ ∀ n, (t.key n).kind = .empty)

/-- R374 to R376: the SPDM responder's requests outside a session, in CONFIG, READY and RUN: version, capabilities, algorithms, digests,
certificates, challenges, measurements, chunks and deferred responses, each after what must come before it. (Error codes and order:
log 26.) -/
def Obligations.AttestationRequests : Prop :=
  ∀ (s : State) (r : Req) (x n : Nat) (data : List Byte), s.begins r = true → spdmBusy s = false →
    let b := s.begun r
    let c := s.spdmOf r.src
    exec (.getVersion r) s = .next (spdmReply r (.version 1 3) (b.setSpdm { c with stage := 1, ml := false })) ∧
    (1 ≤ c.stage → exec (.getCapabilities r) s =
      .next (spdmReply r (.capabilities spdmCapabilities 4096 65536) (b.setSpdm { c with stage := 2 }))) ∧
    (2 ≤ c.stage → ∀ e m k g, (e = true ∨ m = true) → exec (.negotiateAlgorithms r e m true k g) s =
      .next (spdmReply r (.algorithms e m true k g) (b.setSpdm { c with stage := 3, ml := m && !e }))) ∧
    (3 ≤ c.stage →
      exec (.getDigests r) s =
        .next (spdmReply r (.digests (Config.sha384 (certChain 0 s)).toNat (Config.sha384 (certChain 1 s)).toNat) b) ∧
      (x ≤ 1 → s.sec.identityOk = true → exec (.getCertificate r x n 4096) s = .next (spdmReply r
        (.certificate (((certChain x s).drop n).take 4096) (((certChain x s).drop n).length - 4096)) b)) ∧
      (x ≤ 1 → s.sec.identityOk = false → exec (.getCertificate r x n 4096) s = .next (spdmError r .unspecified b)) ∧
      (x ≤ 1 → exec (.challenge r x n) s =
        .next (spdmReply r (.challengeAuth x (Config.sign (s.sec.aliasKey + x) n).toNat) b)) ∧
      (1 ≤ x → x ≤ 6 → exec (.getMeasurements r x n true) s = .next (spdmReply r
        (.measurements [(x, measurement x s)] (some (Config.sign s.sec.aliasKey n).toNat)) b)) ∧
      exec (.getMeasurements r 0xFF n false) s = .next (spdmReply r
        (.measurements ([1, 2, 3, 4, 5, 6].map fun i => (i, measurement i s)) none) b)) ∧
    (∀ m, c.deferred = some m → exec (.respondIfReady r) s = .next (spdmReply r m (b.setSpdm { c with deferred := none }))) ∧
    (data.length ≤ 65536 → exec (.chunkSend r 0 false data) s =
      .next (spdmReply r (.chunkSendAck 0) (b.setSpdm { c with chunks := data, chunkSeq := 1 }))) ∧
    (c.large ≠ [] → exec (.chunkGet r c.largeSeq) s = .next (spdmReply r
      (.chunkResponse c.largeSeq (c.large.take 4096) (c.large.drop 4096).isEmpty)
      (b.setSpdm { c with large := c.large.drop 4096, largeSeq := c.largeSeq + 1 }))) ∧
    exec (.spdmUnsupportedRequest r) s =
      .next (spdmError r .unsupportedRequest (raiseNode Ev.spdmError 0 (b.bump 0x6010 3)))

/-- R377, R378: sessions. KEY_EXCHANGE opens one while fewer than four are open; FINISH completes it, as an owner session when mutual
authentication was asked for and the signature verifies, and ends it when it does not; HEARTBEAT, KEY_UPDATE and END_SESSION act on it;
one that has been silent for the idle timeout ends. A request over a session moves the moment it was last heard (R377). -/
def Obligations.SecuredSessions : Prop :=
  ∀ (s : State) (r : Req) (id n : Nat) (auth ml : Bool) (sig : List Byte),
    (s.begins r = true → spdmBusy s = false →
      (3 ≤ (s.spdmOf r.src).stage → s.sec.sessions.length < 4 → n ≤ 1 → s.sec.zeroing = none → Gives (.keyExchange r n auth) s fun t =>
        t.sec.sessions = (s.begun r).sec.sessions ++ [⟨s.sec.nextSession, r.src, auth, false, false, s.now, 0⟩] ∧
        t.sec.nextSession = s.sec.nextSession + 1) ∧
      (3 ≤ (s.spdmOf r.src).stage → 4 ≤ s.sec.sessions.length →
        exec (.keyExchange r n auth) s = .next (spdmError r .sessionLimitExceeded (s.begun r))) ∧
      (∀ x, s.sec.sessions.find? (fun y => y.id == id) = some x →
        let heard (f : Session → Session) := (s.begun r).sec.sessions.map fun y => if y.id = id then f { y with last := s.now } else y
        (x.finished = false → x.mutAuth = false → Gives (.finish r id ml sig) s fun t =>
          t.sec.sessions = heard fun y => { y with finished := true }) ∧
        (x.finished = false → x.mutAuth = true → Gives (.finish r id ml sig) s fun t =>
          t.sec.sessions = if ownerSigned id ml sig s = true then heard fun y => { y with finished := true, owner := true }
            else (s.begun r).sec.sessions.filter fun y => y.id != id) ∧
        (Gives (.heartbeat r id) s fun t => t.sec.sessions = heard fun y => y) ∧
        (Gives (.keyUpdate r id) s fun t => t.sec.sessions = heard fun y => { y with keyGen := y.keyGen + 1 }) ∧
        (Gives (.endSession r id) s fun t => t.sec.sessions = (s.begun r).sec.sessions.filter fun y => y.id != id)) ∧
      (s.sec.sessions.find? (fun y => y.id == id) = none →
        exec (.heartbeat r id) s = .next (spdmError r .invalidSession (s.begun r)))) ∧
    (∀ x, s.sec.sessions.find? (fun y => y.id == id) = some x →
      (s.elapsed x.last (s.ob 0x6010 2 * secT) = true → Gives (.sessionIdleTimeout id) s fun t =>
        t.sec.sessions = s.sec.sessions.filter fun y => y.id != id) ∧
      (s.elapsed x.last (s.ob 0x6010 2 * secT) = false → exec (.sessionIdleTimeout id) s = .next s))

/-- The key store stays in its canonical form over every step, so that a slot that is erased reads as an empty one. -/
def Obligations.KeyStoreStaysCanonical : Prop :=
  ∀ s t : State, Canonical (fun _ => KeySlot.reset) s.sec.keys → step s = .next t → Canonical (fun _ => KeySlot.reset) t.sec.keys

/-! ### The management link (chapter 17) -/

/-- R8, R439, R443, R444: a dictionary write that is begun and passes every check is carried out by its object's home operation, and
answered with what that settles: OK and detail 0 when it is applied, its refusal's status and detail otherwise. One that fails a check of
R444 is answered with that check's status. A write, a segmented operation or an SPDM request behind a request of its source still carried
out waits while fewer than 8 wait, and is dropped and counted when 8 do. One that comes through the window while that carries another is only
noted (R463); one that does not reach the Keeper changes nothing. -/
def Obligations.DictionaryWrites : Prop :=
  ∀ (s : State) (r : Req) (idx sub : Nat) (value : List Byte),
    (∀ home : Home, s.applies r idx sub value = true →
      dictWrite r idx sub value home s = settle (.req r) (home (.req r) (s.begun r))) ∧
    (s.applies r idx sub value = true → offsetObject idx sub = false → exec (.dictionaryWrite r idx sub value) s =
      .next (settle (.req r) (homeOf (s.isOwner r) (s.inSession r) idx sub value (.req r) (s.begun r)))) ∧
    (∀ st d u, s.begins r = true → writeChecks r idx sub (s.begun r) = some (st, d, u) → exec (.dictionaryWrite r idx sub value) s =
      .next (answer r st d (qosRefusal idx sub st u))) ∧
    (s.reaches r = true → s.procs.keeper.restart = none → s.windowHeld r = false → s.findTxn r = none → s.srcBusy r.src = true →
      (s.mgmt.waiting.length < 8 →
        (Gives (.dictionaryWrite r idx sub value) s fun t => t.mgmt.waiting = s.mgmt.waiting ++ [⟨r, .write idx sub value⟩] ∧
          t.mgmt.sources = s.mgmt.sources ∧ t.out = s.out) ∧
        (Gives (.segAbort r idx sub) s fun t => t.mgmt.waiting = s.mgmt.waiting ++ [⟨r, .segAbort idx sub⟩] ∧ t.out = s.out) ∧
        (Gives (.getVersion r) s fun t => t.mgmt.waiting = s.mgmt.waiting ++ [⟨r, .getVersion⟩] ∧ t.out = s.out)) ∧
      (8 ≤ s.mgmt.waiting.length → exec (.dictionaryWrite r idx sub value) s = .next (s.bump 0x1010 0x0C) ∧
        exec (.getVersion r) s = .next (s.bump 0x1010 0x0C))) ∧
    (s.reaches r = true → s.windowHeld r = true → exec (.dictionaryWrite r idx sub value) s = .next (noteSecond r s)) ∧
    (s.reaches r = false → exec (.dictionaryWrite r idx sub value) s = .next s)

/-- R443: a request whose transaction is remembered with its answer is answered again with that answer and not carried out; one whose
original is still carried out is answered RETRY_LATER with detail 0x6, and any while the Keeper restarts RETRY_LATER with detail 0x7. (A
request through the window while that carries another is none of these: R463.) -/
def Obligations.RepeatedRequests : Prop :=
  ∀ (s : State) (r : Req) (idx sub total base : Nat) (value : List Byte), s.reaches r = true → s.windowHeld r = false →
    (s.procs.keeper.restart = none →
      (∀ n a, s.findTxn r = some ⟨n, some a⟩ →
        exec (.dictionaryWrite r idx sub value) s = .next (sendResponse r a (countFrame r s)) ∧
        exec (.segStart r idx sub total base) s = .next (sendResponse r a (countFrame r s)) ∧
        exec (.getVersion r) s = .next (sendResponse r a (countFrame r s))) ∧
      (∀ n, s.findTxn r = some ⟨n, none⟩ → exec (.dictionaryWrite r idx sub value) s =
        .next (sendResponse r ⟨St.retry, 6, [], none, false⟩ (countFrame r s)))) ∧
    (s.procs.keeper.restart.isSome = true → exec (.dictionaryWrite r idx sub value) s =
      .next (sendResponse r ⟨St.retry, 7, [], none, false⟩ (countFrame r s)))

/-- R438, R439, R441, R452, R453: the link's own events. A heartbeat is sent and counted once its period has passed; a partner heard is
recorded, and a member's state known; a partner silent for three of its periods plus 15 ms is lost; PLCA status, malformed frames and
frames that find the receive buffer full are counted. -/
def Obligations.LinkEvents : Prop :=
  ∀ (s : State) (a n st p : Nat), s.Inv →
    (s.keeperUp = true → s.elapsed s.mgmt.heartbeatAt (s.ob 0x1020 1 * msT) = true → Gives .heartbeatTimer s fun t =>
      t.out = s.out ++ [.heartbeat (s.ob 0x1020 2) (heartbeatBody ((s.ob 0x1020 6 + 1) % 2 ^ objWidth (objKey 0x1020 6)) s)] ∧
      t.mgmt.heartbeatAt = s.now ∧ t.mgmt.sinceBeat = none) ∧
    (s.elapsed s.mgmt.heartbeatAt (s.ob 0x1020 1 * msT) = false → exec .heartbeatTimer s = .next s) ∧
    (s.keeperUp = true → Gives (.partnerHeartbeat a 0xFF st p) s fun t =>
      t.mgmt.partner = ⟨1, s.now, p⟩ ∧ t.ob 0x1020 3 = a) ∧
    (s.keeperUp = true → n < 8 → Gives (.partnerHeartbeat a n st p) s fun t =>
      t.hl.set.peerStates = put 0 n st s.hl.set.peerStates ∧
      t.hl.set.resting = setBit n (st == 6 || st == 7) s.hl.set.resting) ∧
    (s.keeperUp = false → exec (.partnerHeartbeat a n st p) s = .next s) ∧
    (s.mgmt.partner.state = 1 → s.elapsed s.mgmt.partner.last ((3 * s.mgmt.partner.period + 15) * msT) = true →
      Gives .partnerLost s fun t => t.mgmt.partner = { s.mgmt.partner with state := 2 } ∧
        t.ob 0x1020 5 = (s.ob 0x1020 5 + 1) % 2 ^ objWidth (objKey 0x1020 5)) ∧
    (s.mgmt.partner.state ≠ 1 → exec .partnerLost s = .next s) ∧
    (∀ b, exec (.plcaStatusChange b) s = .next
      (if s.ob 0x1010 8 = 1 ∧ b = false then raiseNode Ev.plcaInactive 0 ((s.setOb 0x1010 8 0).bump 0x1010 0x0D)
        else s.setOb 0x1010 8 (b2n b))) ∧
    exec .frameMalformed s = .next (raiseNode Ev.frameMalformed 0 (s.bump 0x1010 0x0B)) ∧
    exec .receiveBufferFull s = .next (s.bump 0x1010 0x0C)

/-- R457: a subscriber's answer ends the outstanding notification of its queue and sends the next one that waits; an ALARM that one has
answered is over for all. An unanswered one is sent again after the notify retry, below ALARM at most three times in all. -/
def Obligations.Notifications : Prop :=
  ∀ (s : State) (n : Nat) (e : LogEntry), (s.notifyQ n).outstanding = some e →
    (s.keeperUp = true → e.sev < 3 → Gives (.notifyResponse n e.seq) s fun t =>
      (∀ x w, (s.notifyQ n).waiting = x :: w → t.notifyQ n = ⟨some x, 1, s.now, w⟩ ∧ t.out = s.out ++ [.notify (s.notifyDest n) x.forOthers]) ∧
      ((s.notifyQ n).waiting = [] → t.out = s.out ∧ t.mgmt.notify = put .reset n .reset s.mgmt.notify)) ∧
    (s.keeperUp = true → 3 ≤ e.sev → Gives (.notifyResponse n e.seq) s fun t => e.seq ∈ t.mgmt.alarmsAnswered) ∧
    (∀ q, q ≠ e.seq → exec (.notifyResponse n q) s = .next s) ∧
    (s.keeperUp = true → s.elapsed (s.notifyQ n).sentAt (s.ob 0x1050 5 * msT) = true → e.sev < 3 →
      ((s.notifyQ n).tries < 3 → Gives (.notifyRetryTimer n) s fun t => t.out = s.out ++ [.notify (s.notifyDest n) e.forOthers] ∧
        t.notifyQ n = { s.notifyQ n with tries := (s.notifyQ n).tries + 1, sentAt := s.now }) ∧
      (3 ≤ (s.notifyQ n).tries → exec (.notifyRetryTimer n) s =
        .next (raiseNode Ev.notifyUnacked 0 (notifyNext n (s.bump 0x1050 6))))) ∧
    (s.elapsed (s.notifyQ n).sentAt (s.ob 0x1050 5 * msT) = false → exec (.notifyRetryTimer n) s = .next s)

/-- R450: segmented writes. A session opens while fewer than four others are open, takes its bytes without gap, applies the whole value
when it is complete and its CRC agrees, and closes without effect when it is aborted or has been silent for 1 s. -/
def Obligations.SegmentedWrites : Prop :=
  ∀ (s : State) (r : Req) (idx sub total off crc : Nat) (data : List Byte) (o : ObjRow) (g : Segment), s.begins r = true →
    (writeChecks r idx sub (s.begun r) = none → findObj idx sub = some o → total ≤ o.ty.sizes.2 →
      (dropSegment r.src idx sub s.mgmt.segments).length < 4 → Gives (.segStart r idx sub total 0) s fun t =>
        t.mgmt.segments = dropSegment r.src idx sub s.mgmt.segments ++ [⟨r.src, idx, sub, 0, total, [], s.now⟩]) ∧
    (s.segment r.src idx sub = some g →
      (off = g.got.length → g.got.length + data.length ≤ g.total → Gives (.segData r idx sub off data) s fun t =>
        t.mgmt.segments = dropSegment r.src idx sub s.mgmt.segments ++ [{ g with got := g.got ++ data, last := s.now }]) ∧
      (off ≠ g.got.length → exec (.segData r idx sub off data) s = .next (answer r St.denied 4 (s.begun r))) ∧
      (Gives (.segAbort r idx sub) s fun t => t.mgmt.segments = dropSegment r.src idx sub s.mgmt.segments) ∧
      (g.got.length = g.total → crc32c g.got = crc → offsetObject idx sub = false → exec (.segEnd r idx sub crc) s =
        .next (carryOut r idx sub g.got (homeOf (s.isOwner r) (s.inSession r) idx sub g.got)
          ((s.begun r).setSegments (dropSegment r.src idx sub s.mgmt.segments)))) ∧
      (g.got.length ≠ g.total → exec (.segEnd r idx sub crc) s = .next (answer r St.denied 4 (s.begun r)))) ∧
    (∀ src, s.segment src idx sub = some g →
      (s.elapsed g.last secT = true → Gives (.sessionDropped src idx sub) s fun t =>
        t.mgmt.segments = dropSegment src idx sub s.mgmt.segments) ∧
      (s.elapsed g.last secT = false → exec (.sessionDropped src idx sub) s = .next s))

/-- R455, R458, R459, R463, R464, R548: the log, the mirror, the alarm and the window's registers. -/
def Obligations.LogAlarmAndWindow : Prop :=
  ∀ (s : State) (r : Req) (m : List Byte),
    (s.applies r 0x1040 0x0A [1] = true → exec (.alarmClear r) s =
      .next (answer r St.ok 0 { s.begun r with pins := { s.pins with alarm := false } })) ∧
    (s.applies r 0x1040 9 [1] = true → exec (.logClear r) s =
      .next (answer r St.ok 0 { s.begun r with mgmt := { (s.begun r).mgmt with log := [] } })) ∧
    (s.applies r 0x1041 5 [1] = true → exec (.mirrorClear r) s =
      .next (answer r St.ok 0 { s.begun r with nvm := { s.nvm with mirror := [] } })) ∧
    (s.mgmt.window.ready = true → s.mgmt.window.second = none → exec .rspAck s = .next { s with mgmt := { s.mgmt with
      window := { s.mgmt.window with busy := false, unit := false, ready := false, rspBuf := [] } } }) ∧
    (s.mgmt.window.ready = false → exec .rspAck s = .next s) ∧
    (∀ e l, s.mgmt.window.ring = e :: l → exec .ringPop s = .next { s with mgmt := { s.mgmt with
      window := { s.mgmt.window with ring := l, oldest := (s.mgmt.window.oldest + 1) % 64 } } }) ∧
    (s.mgmt.window.ring = [] → exec .ringPop s = .next s) ∧
    (s.power.node ≠ .off → m.length ≤ 4096 →
      (s.mgmt.window.busy = true → exec (.doorbell m) s = .next (({ s with mgmt := { s.mgmt with window := { s.mgmt.window with
        second := some ⟨.window, leNat (sliceBytes 2 2 m)⟩ } } } : State).bump 0x1060 1)) ∧
      (s.mgmt.window.busy = false → messageBad m = false → leNat (sliceBytes 1 1 m) ≠ 0x0A → exec (.doorbell m) s =
        .next (windowRequest m { s with mgmt := { s.mgmt with window := { s.mgmt.window with reqBuf := m, busy := true } } })) ∧
      (s.mgmt.window.busy = false → messageBad m = true → exec (.doorbell m) s = .next (raiseNode Ev.frameMalformed 0
        (({ s with mgmt := { s.mgmt with window := { s.mgmt.window with reqBuf := m } } } : State).bump 0x1010 0x0B)))) ∧
    (s.nvm.gather ≠ [] → s.elapsed s.nvm.gatherAt secT = true → exec .persistGatherTimer s =
      .next { s with nvm := { s.nvm with gatherDue := true } }) ∧
    ((s.nvm.gather = [] ∨ s.elapsed s.nvm.gatherAt secT = false) → exec .persistGatherTimer s = .next s)

/-! ### Records, firmware and counters (chapters 17 to 19) -/

/-- R469, R470, R554: the end of a record write. A usable copy of an area counts as written under the next numbers, gathered persisted
writes come into force with it, the repair log's area then holds the log, and a training record's area is no longer due; a copy that fails twice is taken out of use, counted and
raised; an area of a channel the silicon does not hold stops. -/
def Obligations.RecordWrites : Prop :=
  ∀ (s : State) (area i : Nat) (b : Bool), s.Inv → s.power.node ≠ .off → s.nvm.usable = true →
    (area < 7 → area ≠ 1 → (area = 2 → s.reduced = false) → (s.recordArea area i).usableCopies ≠ 0 →
      Gives (.nvmRecordWrite area i) s fun t => t.recordArea area i = (s.recordArea area i).written ∧
        t = { s with obj := t.obj, nvm := { s.nvm with
          areas := t.nvm.areas, repairs := if area = 6 then s.path.repairLog else s.nvm.repairs } } ∧
        t.ob 0x1070 6 = (s.ob 0x1070 6 + copySectors area * (s.recordArea area i).usableCopies) % 2 ^ objWidth (objKey 0x1070 6)) ∧
    (∀ idx sub x r, s.reduced = false → (s.recordArea 1 i).usableCopies ≠ 0 → s.nvm.gatherDue = true →
      s.nvm.gather = [⟨idx, sub, x, .req r⟩] → Gives (.nvmRecordWrite 1 i) s fun t => t.nvm.gather = [] ∧ t.nvm.gatherDue = false ∧
        t.nvm.persisted = put 0 (objKey idx sub) x s.nvm.persisted ∧ ∃ u, t = answer r St.ok 0 u ∧ u.ob idx sub = x) ∧
    (s.reduced = true → s.nvm.gatherDue = true → s.nvm.gather ≠ [] → Gives (.nvmRecordWrite 1 i) s fun t =>
      t.nvm.gather = [] ∧ t.nvm.persisted = s.nvm.persisted) ∧
    (i < s.channels → s.reduced = false → i ∈ s.nvm.trainDue → (s.recordArea 7 i).usableCopies ≠ 0 →
      Gives (.nvmRecordWrite 7 i) s fun t => i ∉ t.nvm.trainDue) ∧
    (¬ i < s.channels → exec (.nvmRecordWrite 7 i) s = .fault .absentUnit ∧ exec (.nvmWriteFailed 7 i b) s = .fault .absentUnit) ∧
    (area < 7 → area ≠ 1 → (if b then (s.recordArea area i).failedB else (s.recordArea area i).failedA) = false →
      Gives (.nvmWriteFailed area i b) s fun t =>
        (b = true → (t.recordArea area i).failedB = true) ∧ (b = false → (t.recordArea area i).failedA = true) ∧
        t.ob 0x1070 4 = (s.ob 0x1070 4 + 1) % 2 ^ objWidth (objKey 0x1070 4) ∧ t.ob 0x1070 1 = 2) ∧
    ((if b then (s.recordArea 9 i).failedB else (s.recordArea 9 i).failedA) = false → Gives (.nvmWriteFailed 9 i b) s fun t =>
      t.upd = { s.upd with failed := true }) ∧
    ((if b then (s.recordArea 8 i).failedB else (s.recordArea 8 i).failedA) = false → s.upd.copying = true →
      Gives (.nvmWriteFailed 8 i b) s fun t => t.power.node = .recovery ∧ t.nvm.activeSlot = [] ∧ t.upd.copying = false)

/-- R477, R478, R481: the update commands, carried out by the lead of a set that has no other node to wait for: BEGIN takes the length and
clears the block map, VERIFY starts the verification of a whole or refused image, ACTIVATE arms a verified one, DISCARD clears block map
and armed mark. -/
def Obligations.UpdateCommands : Prop :=
  ∀ (s : State) (r : Req), s.Inv →
    (s.orders r 0x8000 4 [1] = true → s.staging ≠ 3 → s.staging ≠ 6 → s.updateBar = 0 → Gives (.updateBegin r) s fun t =>
      t.staging = 1 ∧ t.ob 0x8000 5 = 0 ∧ t.ob 0x8000 8 = 0 ∧ t.ob 0x8000 9 = 0 ∧ t.upd = { s.upd with length := s.ob 0x8000 3 }) ∧
    (s.orders r 0x8000 4 [2] = true → s.procs.warden.restart = none → (s.staging = 2 ∨ s.staging = 5) → Gives (.updateVerify r) s fun t =>
      t.staging = 3 ∧ t.ob 0x8000 8 = 0 ∧ t.ob 0x8000 9 = 0) ∧
    (s.orders r 0x8000 4 [3] = true → s.staging = 4 → s.updateBar = 0 → Gives (.updateActivate r true) s fun t =>
      t.staging = 6 ∧ t.ob 0x8000 0x0B = 1) ∧
    (s.orders r 0x8000 4 [4] = true → s.staging ≠ 3 → Gives (.updateDiscard r) s fun t =>
      t.staging = 0 ∧ t.ob 0x8000 5 = 0 ∧ t.ob 0x8000 0x0B = 0)

/-- R476, R482: verification ends in VERIFIED or in REFUSED with the first check that failed; at a start the ROM boots the active slot,
copies an armed staging slot or enters RECOVERY; a copy that is complete is the active slot, and boots. -/
def Obligations.ImagesAndVerification : Prop :=
  ∀ (s : State) (usable : Bool) (d m : Nat), s.Inv →
    (s.staging = 3 → s.procs.warden.restart = none →
      Gives .verificationDone s fun t => if bundleReason s.nvm.staging true s = 0
        then t.staging = 4 ∧ t.ob 0x8000 8 = bundleVersion s.nvm.staging ∧ t.ob 0x8000 9 = bundleSecurity s.nvm.staging
        else t.staging = 5 ∧ t.ob 0x8000 6 = bundleReason s.nvm.staging true s) ∧
    (s.staging ≠ 3 → exec .verificationDone s = .next s) ∧
    (s.power.node = .boot → s.upd.selected = false → s.upd.copying = false → s.power.warm = false → s.power.setHeld = false →
      s.power.strapped = true →
      (s.pins.recovery = true → Gives (.imageSelection usable d m) s fun t => t.power.node = .recovery ∧ t.nvm.usable = usable) ∧
      (s.pins.recovery = false → Gives (.imageSelection false d m) s fun t => t.power.node = .recovery ∧ t.upd.bothFailed = true) ∧
      (s.pins.recovery = false → s.nvm.persisted = [] → s.nvm.persistedKeys = [] → s.nvm.areas = [] → s.ob 0x8000 0x0B = 0 →
        s.power.vcore = false → Gives (.imageSelection true d m) s fun t => t.nvm.usable = true ∧
          if bundleReason s.nvm.activeSlot false s = 0 then t.upd.selected = true ∧ t.power.node = .boot
          else if bundleReason s.nvm.staging false s = 0 then t.upd.copying = true ∧ t.power.node = .boot
          else t.power.node = .recovery ∧ t.upd.bothFailed = true)) ∧
    (s.upd.copying = true → s.power.vcore = false → Gives .slotCopyDone s fun t => t.nvm.activeSlot = s.nvm.staging ∧
      t.upd.selected = true ∧ t.upd.copying = false ∧ (s.power.node = .recovery → t.power.node = .boot)) ∧
    (s.upd.copying = false → exec .slotCopyDone s = .next s)

/-- R490 to R494, R496, R499: snapshots, clears, filters and the sampler. -/
def Obligations.CountersAndSampler : Prop :=
  ∀ (s : State) (r : Req) (v b n : Nat), s.Inv →
    (s.orders r 0x7000 1 (leBytes 8 v) = true → 0 < v → v < 2 ^ 64 → s.ob 0x7000 3 ≠ 1 → s.setNs + 10000 ≤ v →
      Gives (.snapshotRequest r v) s fun t => t.ob 0x7000 1 = v ∧ t.ob 0x7000 3 = 1) ∧
    (s.ob 0x7000 3 = 1 → s.ob 0x7000 1 ≤ s.setNs → s.power.node ≠ .off → s.power.node ≠ .boot → Gives .snapshotCapture s fun t =>
      (∀ k c, (k, c) ∈ s.banks → ∀ j < c, t.ob k (0x30 + j) = s.ob k (0x10 + j)) ∧ t.ob 0x7000 4 = s.ob 0x7000 1 ∧
      t.ob 0x7000 5 = s.capturers ∧ t.ob 0x7000 3 ≠ 1) ∧
    (s.ob 0x7000 3 ≠ 1 → exec .snapshotCapture s = .next s) ∧
    ((b, n) ∈ s.banks → s.applies r b 4 [1] = true → Gives (.bankClear r b) s fun t =>
      (∀ j < n, t.ob b (0x10 + j) = 0) ∧ ∀ k sub, k ≠ b → sub < 256 → 0x7000 ≤ k → t.ob k sub = s.ob k sub) ∧
    (s.orders r 0x7000 6 [1] = true → Gives (.clearAll r) s fun t =>
      ∀ k c, (k, c) ∈ s.banks → ∀ j < c, t.ob k (0x10 + j) = 0) ∧
    ((b, n) ∈ s.banks → s.applies r b 1 (leBytes 8 v) = true → v < 2 ^ 64 → Gives (.bankFilterWrite r b 1 v) s fun t => t.ob b 1 = v) ∧
    ((b, n) ∈ s.banks → s.applies r b 2 (leBytes 8 v) = true → v < 2 ^ 64 → v ≤ s.ob b 3 → Gives (.bankFilterWrite r b 2 v) s fun t =>
      t.ob b 2 = v) ∧
    (s.orders r 0x7100 1 (leBytes 4 v) = true → v < 2 ^ 32 → Gives (.sampleControlWrite r v) s fun t => t.ob 0x7100 1 = v ∧
      t.sampler.countdown = t.sampler.interval ∧ t.sampler.ring = s.sampler.ring) ∧
    (s.orders r 0x7100 5 (leBytes 4 v) = true → v < 2 ^ 32 → bits 9 5 (s.ob 0x7100 1) = 0 → Gives (.lfsrSeedWrite r v) s fun t =>
      t.ob 0x7100 5 = v ∧ t.sampler.lfsr = (let w := (v ^^^ (s.me * 2 ^ 24)) % 2 ^ 32; if w = 0 then 1 else w)) ∧
    (s.applies r 0x7100 8 (leBytes 4 v) = true → v < 2 ^ 32 → v ∈ s.sampler.ring.map (·.seq) → s.ob 0x7100 6 ≠ v →
      s.sampleControl.testBit 13 = false → Gives (.consumedWrite r v) s fun t => t.ob 0x7100 8 = v ∧ t.ob 0x7100 7 = v ∧
        t.sampler.ring = s.sampler.ring.dropWhile fun x => x.seq != v)

/-! ### Plans, tides and frames (chapters 4 and 5) -/

/-- R70, R71, R73, R77: the plan commands, carried out by the lead of a set that has no other node to wait for, and the end of a LOAD.
LOAD discards the loaded plan and begins to read the image with requests of the Sequencer; ARM and STOP take the tide frame asked for; DISCARD empties the plan;
DISARM before the commit point goes back to the state held before. The check ends LOADED with the plan's identifier, or REFUSED with its
reason, place and detail, this node's own or another's; it waits for the image's lines; a check that takes more than 2 s is refused. A node that comes back while the set runs no
plan has none to compare (R81; the model's reading, log 46). -/
def Obligations.PlanCommands : Prop :=
  ∀ (s : State) (r : Req), s.Inv →
    (s.procs.sequencer.restart = none →
      (s.orders r 0x2201 4 [1] = true → commandNode 1 s = true → (s.planState = 0 ∨ s.planState = 2 ∨ s.planState = 5) →
        Gives (.planLoad r) s fun t => t.planState = 1 ∧ t.ob 0x2201 6 = 0 ∧
          t.plans = { s.plans with loaded := none, loading := some (s.now, s.isOwner r) }) ∧
      (∀ f p, s.orders r 0x2201 4 [2] = true → (s.power.node = .ready ∨ s.power.node = .run) → s.planState = 2 → s.target = some f →
        s.plans.loaded = some p → s.inheritOk p = true → Gives (.planArm r) s fun t =>
          t.planState = 3 ∧ t.ob 0x2200 7 = f ∧ t.ob 0x2200 8 = 0 ∧ t.plans = { s.plans with
            stopping := false, armedFrom := 2, prepared := false, votes := [], decision := none }) ∧
      (∀ f, s.orders r 0x2201 4 [3] = true → s.power.node = .run → (s.planState = 0 ∨ s.planState = 2 ∨ s.planState = 5) →
        s.plans.active.isSome → s.target = some f → Gives (.planStop r) s fun t =>
          t.planState = 4 ∧ t.ob 0x2200 7 = f ∧ t.ob 0x2200 8 = 0 ∧ t.plans = { s.plans with
            stopping := true, armedFrom := s.planState, prepared := false, votes := [], decision := none })) ∧
    (s.orders r 0x2201 4 [4] = true → (s.planState = 2 ∨ s.planState = 5) → Gives (.planDiscard r) s fun t =>
      t.planState = 0 ∧ t.ob 0x2201 6 = 0 ∧ t.plans = { s.plans with loaded := none }) ∧
    (s.orders r 0x2201 4 [5] = true → (s.planState = 3 ∨ s.planState = 4) → s.pastCommit = false → Gives (.planDisarm r) s fun t =>
      t.planState = s.plans.armedFrom ∧ t.ob 0x2200 7 = 0 ∧
      t.plans = { s.plans with stopping := false, prepared := false, votes := [], decision := none }) ∧
    (∀ reason place detail id crc at_ session, s.plans.loading = some (at_, session) → s.planState = 1 →
      (∀ b, reason = 0 → s.ownFault session = some (none, b) → Gives (.planImageChecked reason place detail false id crc) s fun t =>
        t.planState = 2 ∧ t.ob 0x2201 6 = (decodePlan s.me b).id ∧
          t.plans = { s.plans with loaded := some (decodePlan s.me b), loading := none }) ∧
      (∀ f b, s.ownFault session = some (some f, b) → Gives (.planImageChecked reason place detail false id crc) s fun t =>
        t.planState = 5 ∧ t.ob 0x2201 7 = f.reason ∧ t.ob 0x2201 8 = f.at_ ∧ t.ob 0x2201 9 = f.detail ∧
          t.plans = { s.plans with loaded := none, loading := none }) ∧
      (∀ o, reason ≠ 0 → o = s.ownFault session → (o = none ∨ ∃ b, o = some (none, b)) →
        Gives (.planImageChecked reason place detail false id crc) s fun t =>
          t.planState = 5 ∧ t.ob 0x2201 7 = reason ∧ t.ob 0x2201 8 = place ∧ t.ob 0x2201 9 = detail ∧
            t.plans = { s.plans with loaded := none, loading := none }) ∧
      (reason = 0 → s.ownFault session = none → exec (.planImageChecked reason place detail false id crc) s = .next s)) ∧
    (∀ reason place detail id crc, s.plans.loading = none →
      exec (.planImageChecked reason place detail false id crc) s = .next s ∧ exec .planLoadTimeout s = .next s) ∧
    -- a node that comes back: nothing to compare while the set runs no plan
    (∀ reason place detail crc, s.mustReread = true → Gives (.planImageChecked reason place detail true 0 crc) s fun t =>
      t.power = { s.power with reloaded := true } ∧ t.plans = { s.plans with returning := none }) ∧
    (∀ at_ session, s.plans.loading = some (at_, session) → s.planState = 1 → s.elapsed at_ (2 * secT) = true →
      Gives .planLoadTimeout s fun t => t.planState = 5 ∧ t.ob 0x2201 7 = 1 ∧
        t.plans = { s.plans with loaded := none, loading := none })

/-- R78, R79: how an armed tide that has not switched is decided. Eight frames before it the lead prepares, and votes; a node answers PREPARE with its vote, and
the lead keeps the last vote of each; at the commit point the lead floods COMMIT when every reachable node is ready and DEFER otherwise;
a member does as it is told; a node without a decision one frame before the tide is isolated and no longer armed. -/
def Obligations.TideVotes : Prop :=
  ∀ (s : State), s.Inv →
    (s.isLead = true → s.tideAhead = true → s.plans.decision = none →
      (∀ id, s.plans.prepared = false → s.before s.armedTide 8 = true →
        id = (if s.planState = 4 then 0 else (s.plans.loaded.map (·.id)).getD 0) →
        exec .tidePreparePoint s = .next (flood 6 (leBytes 8 s.armedTide ++ leBytes 8 id)
          (s.setPlans { s.plans with prepared := true, votes := [(s.me, s.vote id)] }))) ∧
      (s.plans.prepared = true → s.before s.armedTide 4 = true →
        (s.allReady = true → Gives .commitPoint s fun t => t.plans = { s.plans with decision := some true }) ∧
        (s.allReady = false → exec .commitPoint s =
          .next (deferTide (raiseNode Ev.tideDeferred 0 (flood 9 (leBytes 8 s.armedTide) s)))))) ∧
    (s.isLead = false → exec .tidePreparePoint s = .next s ∧ exec .commitPoint s = .next s) ∧
    (s.tideAhead = true → s.plans.decision = none → s.before s.armedTide 1 = true → Gives .tideDecisionMissing s fun t =>
      t.planState = s.plans.armedFrom ∧ t.ob 0x2200 7 = 0 ∧ t.plans = { s.plans with
        stopping := false, prepared := false, votes := [], decision := none, isolated := true }) ∧
    (s.plans.decision ≠ none ∨ s.tideAhead = false → exec .tideDecisionMissing s = .next s ∧ exec .tidePreparePoint s = .next s ∧
      exec .commitPoint s = .next s) ∧
    (∀ h hdr frame plan v u, s.takes h hdr = true → u = s.taken h hdr → frame < 2 ^ 64 → plan < 2 ^ 64 →
      (u.planArmed = true → exec (.prepare h hdr frame plan) s = .next (ackDue h (
        let w := (u.setOb 0x2200 7 frame).setPlans { u.plans with decision := none }
        sendControl 7 w.hl.set.lead (leBytes 8 frame ++ leBytes 1 (if w.vote plan then 1 else 2) ++ zeroBytes 7) w))) ∧
      (u.planArmed = false → exec (.prepare h hdr frame plan) s = .next (ackDue h (
        sendControl 7 u.hl.set.lead (leBytes 8 frame ++ leBytes 1 2 ++ zeroBytes 7) u))) ∧
      (u.isLead = true → u.plans.prepared = true → u.armedTide = frame → v < 256 → exec (.vote h hdr frame v) s = .next (ackDue h (
        u.setPlans { u.plans with votes := u.plans.votes.filter (fun x => x.1 != hdr.origin) ++ [(hdr.origin, v == 1)] }))) ∧
      (u.planArmed = true → u.armedTide = frame →
        exec (.commitTide h hdr frame) s = .next (ackDue h (u.setPlans { u.plans with decision := some true })) ∧
        (u.ob 0x2200 8 + 1 < 16 → exec (.deferTide h hdr frame) s = .next (ackDue h (
          ((u.setOb 0x2200 8 (u.ob 0x2200 8 + 1)).setOb 0x2200 7 (u.tideFrom (frame + 1))).setPlans
            { u.plans with prepared := false, votes := [], decision := none }))) ∧
        (16 ≤ u.ob 0x2200 8 + 1 → exec (.deferTide h hdr frame) s = .next (ackDue h (
          raiseNode Ev.armFailed (u.ob 0x2200 8 + 1) (unarm (u.setOb 0x2200 8 (u.ob 0x2200 8 + 1))))))) ∧
      (u.planArmed = false → exec (.commitTide h hdr frame) s = .next (ackDue h u) ∧
        exec (.deferTide h hdr frame) s = .next (ackDue h u)))

/-- R54, R75, R76, R78, R84, R86: frame 0 begins at the epoch, and the ladder acts; a frame boundary takes the new frame number, and restarts the low-slack
count where slack was high; a tide is carried out once, without touching the plans when none is decided; the switch makes the loaded
plan, or none, the active one from the tide's frame on; one frame later the old streams that owe nothing go and the plan state follows; the interval and
the fences to clear are objects of their own. -/
def Obligations.TidesAndFrames : Prop :=
  ∀ (s : State) (r : Req) (v : Nat), s.Inv →
    (s.formed = true → s.hl.set.epochReached = false → s.before 0 0 = true → exec .frameEpoch s = .next (ladderStep
      { s with hl := { s.hl with set := { s.hl.set with epochReached := true } }
               plans := { s.plans with begun := true, frame := 0 } })) ∧
    ((s.formed = false ∨ s.hl.set.epochReached = true) → exec .frameEpoch s = .next s) ∧
    (s.plans.begun = true → s.plans.frame < s.frame → Gives .frameBoundary s fun t =>
      t.plans = { s.plans with
        frame := s.frame, slackFrames := if s.clk.slackHigh then 0 else s.plans.slackFrames + (s.frame - s.plans.frame) } ∧
      t.clk = { s.clk with slackHigh := false }) ∧
    ((s.plans.begun = false ∨ s.frame ≤ s.plans.frame) → exec .frameBoundary s = .next s) ∧
    (s.plans.begun = true → s.isTide s.frame = true → s.plans.tideDone ≠ some s.frame → s.plans.decision = none → s.power.node = .run →
      Gives .tide s fun t => t.power.node = .run ∧ t.plans = { s.plans with
        frame := max s.frame s.plans.frame, slackFrames := t.plans.slackFrames, anchor := t.plans.anchor, derated := []
        yielded := t.plans.yielded, tideDone := some s.frame }) ∧
    ((s.plans.begun = false ∨ s.isTide s.frame = false ∨ s.plans.tideDone = some s.frame) → exec .tide s = .next s) ∧
    (∀ f, (switchPlan f s).plans.active = (if s.plans.stopping then none else s.plans.loaded) ∧ (switchPlan f s).plans.activeFrom = f ∧
      (switchPlan f s).plans.decision = none ∧ (switchPlan f s).plans.votes = [] ∧
      (switchPlan f s).plans.loaded = (if s.plans.stopping then s.plans.loaded else none)) ∧
    (∀ f id, s.plans.retiring = some (f, id) → s.before (f + 1) 0 = true → Gives .tideSwitchRetired s fun t =>
      t.feeds = { s.feeds with old := s.feeds.old.filter fun p => p.2.pending } ∧
      t.plans = { s.plans with retiring := none, stopping := false } ∧
      t.ob 0x2200 5 = id ∧ t.ob 0x2200 7 = 0 ∧
      t.planState = if s.planState = 4 then (if s.plans.loaded.isSome then 2 else 0) else if s.planState = 3 then 0 else s.planState) ∧
    (s.plans.retiring = none → exec .tideSwitchRetired s = .next s) ∧
    (s.orders r 0x2200 2 (leBytes 4 v) = true → v < 2 ^ 32 → (∀ p ∈ s.periods, v % p = 0) → s.rwlAtOnce true = true →
      Gives (.tideIntervalWrite r v) s fun t => t.ob 0x2200 2 = v ∧ t.plans = { s.plans with
        anchor := if s.before 0 0 then (s.setTicks - s.epochT + frameT - 1) / frameT else 0 }) ∧
    (s.orders r 0x2203 2 (leBytes 8 v) = true → v < 2 ^ 64 → Gives (.fenceClear r v) s fun t =>
      t.plans = { s.plans with clears := s.plans.clears ||| v })

/-! ### Links and the set (chapter 13) -/

/-- R178, R325, R326, R330, R331, R333 to R335, R347, R448: a sequenced parcel that is taken is acted on in the state that has counted it;
one not for this node is relayed, one with a field that is rsvd is malformed, and one that repeats an earlier one, of its hop or of its flow, is counted and left; an isolated node takes none, and no request is taken
while its port's offer buffer is full (R78, R215). What each kind does
follows: the set's view, the writes in the set's order, requests of other nodes and the answers to this node's own. -/
def Obligations.SequencedParcels : Prop :=
  ∀ (s : State) (h : Nat) (hdr : Hdr) (u : State), u = s.taken h hdr →
    (s.takes h hdr = true → ∀ body deliver, takeParcel h hdr body deliver s = ackDue h (deliver u)) ∧
    (s.plans.isolated = true → ∀ body deliver, takeParcel h hdr body deliver s = s) ∧
    (h < 4 → s.plans.isolated = false → (s.port h).live = true → (s.port h).greeted = true → (s.port h).silent = false →
      (8 < hdr.len ∨ hdr.free ≠ 0) → ∀ body deliver, takeParcel h hdr body deliver s = malformedParcel h true (s.setPort h { s.port h with lastReceived := s.now })) ∧
    (h < 4 → s.plans.isolated = false → (s.port h).live = true → (s.port h).greeted = true → (s.port h).silent = false → hdr.len ≤ 8 →
      hdr.free = 0 → ∀ body deliver,
      (hdr.hop = (s.port h).rxHop → hdr.dest ≠ s.me →
        takeParcel h hdr body deliver s = ackDue h (relay h ⟨hdr, body⟩ (s.arrived h hdr))) ∧
      (hdr.hop = (s.port h).rxHop → hdr.dest = s.me →
        hdr.e2e ≠ (s.flow (flowKey hdr.origin s.me hdr.cls)).rx →
        seqBefore hdr.e2e (s.flow (flowKey hdr.origin s.me hdr.cls)).rx = true →
        takeParcel h hdr body deliver s = ackDue h ((s.arrived h hdr).bump 0x5808 0x0A)) ∧
      (hdr.hop ≠ (s.port h).rxHop → seqBefore hdr.hop (s.port h).rxHop = true → takeParcel h hdr body deliver s =
        (s.setPort h { s.port h with lastReceived := s.now }).bump (hIdx h) 0x0B)) ∧
    (s.takes h hdr = true →
      (∀ node mask links v, u.formed = false → mergeLinks s.me node u.hl.set.links links ≠ u.hl.set.links →
        v = refreshView (u.setSet { u.hl.set with links := mergeLinks s.me node u.hl.set.links links }) →
        exec (.member h hdr node mask links) s = .next (ackDue h (tryForm false (flood 1 (memberBody v) v)))) ∧
      (∀ node mask links, u.formed = false → mergeLinks s.me node u.hl.set.links links = u.hl.set.links →
        exec (.member h hdr node mask links) s = .next (ackDue h (tryForm false u))) ∧
      (∀ lead mask time epoch, u.formed = false → mask.testBit s.me = true → Gives (.formed h hdr lead mask time epoch) s fun t =>
        t.hl.set = { u.hl.set with
          state := 1, lead := lead, reachable := mask, members := 2 ^ s.setNodes - 1, epoch := some epoch
          lost := 2 ^ s.setNodes - 1 - ((2 ^ s.setNodes - 1) &&& mask), fenced := 2 ^ s.setNodes - 1 - ((2 ^ s.setNodes - 1) &&& mask)
          timeBase := time * nsT, timeAt := s.now, rate := 0, timeSet := true, offset := 0, beyond5 := none, beyond10 := none
          within5 := some s.now, routes := t.hl.set.routes, rerouted := t.hl.set.rerouted, ways := t.hl.set.ways }) ∧
      (∀ node mask, exec (.lost (some (h, hdr)) node mask) s = .next (ackDue h (nodeLost node u))) ∧
      (∀ base, exec (.flowReset h hdr base) s = .next (ackDue h (
        let v := peerBack hdr.origin (s.arrived h hdr)
        v.setFlow (flowKey hdr.origin s.me hdr.cls) { v.flow (flowKey hdr.origin s.me hdr.cls) with rx := base % 65536 }))) ∧
      (∀ links, u.formed = false → Gives (.linkState h hdr links) s fun t => t.hl.set = { u.hl.set with
        links := mergeLinks s.me hdr.origin u.hl.set.links links, routes := t.hl.set.routes, rerouted := t.hl.set.rerouted, ways := t.hl.set.ways }) ∧
      (∀ idx sub order value, value.length = 248 → Gives (.objectWrite h hdr idx sub order value) s fun t =>
        t = ackDue h (u.setWrites (u.mgmt.setWrites.filter (fun w => !w.partOf hdr.origin order idx sub) ++
          [⟨order, idx, sub, ((u.mgmt.setWrites.find? fun w => w.partOf hdr.origin order idx sub).map (·.value)).getD [] ++ value, 0, none,
            hdr.origin, false, (St.ok, 0)⟩]))) ∧
      (∀ idx sub order value, value.length < 248 → 0 < order → u.isLead = false → u.mgmt.setWrites = [] →
        exec (.objectWrite h hdr idx sub order value) s = .next (ackDue h (settle (.order order)
          (carriedHome true hdr.world idx sub value (.order order) (noteOrder hdr.origin order hdr.tag idx sub value u))))) ∧
      (∀ node, Gives (.warmResetParcel h hdr node) s fun t =>
        t.hl.set = { u.hl.set with resetting := put 0 node (s.now + 1) u.hl.set.resetting }) ∧
      (∀ node, u.formed = true → node ≠ s.me → node < s.setNodes → u.hl.set.reachable.testBit node = false →
        Gives (.rejoin h hdr node) s fun t => t.hl.set = { u.hl.set with
          returned := setBit node true u.hl.set.returned, lost := setBit node false u.hl.set.lost
          routes := t.hl.set.routes, rerouted := t.hl.set.rerouted, ways := t.hl.set.ways }) ∧
      (∀ body, s.offersFull h = false → requestOk hdr body = false →
        exec (.requestParcel h hdr body) s = .next (malformedParcel h true (s.setPort h { s.port h with lastReceived := s.now }))) ∧
      (∀ body op side, opOf hdr.opcode body = some op → requestOk hdr body = true →
        side = ⟨.headland h hdr, hdr.stream, hdr.rseq, 0, hdr.cls, hdr.context, hdr.world, 0, hdr.colour, hdr.tag, false⟩ →
        s.offersFull h = false → u.duplicate (u.newAsk side (128 * hdr.line) op .port) = false →
        (u.path.asks.any fun b => b.stage == .offered && b.sameStream (u.newAsk side (128 * hdr.line) op .port) && b.side.seq == hdr.rseq)
          = false →
        exec (.requestParcel h hdr body) s = .next (ackDue h (serveAll (arrive side (128 * hdr.line) op u)))) ∧
      (∀ body op side, opOf hdr.opcode body = some op → requestOk hdr body = true →
        side = ⟨.headland h hdr, hdr.stream, hdr.rseq, 0, hdr.cls, hdr.context, hdr.world, 0, hdr.colour, hdr.tag, false⟩ →
        s.offersFull h = false → u.duplicate (u.newAsk side (128 * hdr.line) op .port) = true →
        (u.path.asks.any fun b => b.stage == .offered && b.sameStream (u.newAsk side (128 * hdr.line) op .port) && b.side.seq == hdr.rseq)
          = false →
        exec (.requestParcel h hdr body) s = .next (ackDue h (sendParcel hdr.origin
          { hdr with kind := 3, dest := hdr.origin, origin := s.me, len := 0, opcode := 0, due := 0, line := 0 } []
            (arrive side (128 * hdr.line) op u)))) ∧
      (∀ body, s.offersFull h = true → exec (.requestParcel h hdr body) s = .next s) ∧
      (∀ body, hdrOfOrder hdr = true → completionOk hdr body = true →
        exec (.completionParcel h hdr body) s = .next (ackDue h (handedBack h hdr u))) ∧
      (hdrOfOrder hdr = false → ∀ body, completionOk hdr body = true → (∀ q, u.forwardOf hdr = some q → q.stage ≠ .finished →
          q.internal = false → 8 ≤ hdr.opcode → exec (.completionParcel h hdr body) s =
            .next (ackDue h (serveAll (finish q.id St.unreachable none (malformedParcel h false u))))) ∧
        (∀ q, u.forwardOf hdr = some q → q.stage ≠ .finished →
          q.internal = false → hdr.opcode < 8 → hdr.opcode ≠ St.retry → exec (.completionParcel h hdr body) s =
            .next (ackDue h (serveAll (finish q.id hdr.opcode (if body.isEmpty then none else some (leNat body)) u)))) ∧
        (u.forwardOf hdr = none → exec (.completionParcel h hdr body) s = .next (ackDue h u))) ∧
      (∀ q, u.forwardOf hdr = some q → q.fwd = 1 → q.stage ≠ .finished →
        exec (.acceptParcel h hdr) s = .next (ackDue h (u.modAsk q.id fun q => { q with fwd := 2 }))) ∧
      (u.forwardOf hdr = none → exec (.acceptParcel h hdr) s = .next (ackDue h u)) ∧
      (hdrOfOrder hdr = true → exec (.doneParcel h hdr) s = .next (ackDue h (orderReported hdr u))) ∧
      (∀ q, hdrOfOrder hdr = false → u.remoteOf hdr = some q → q.stage = .finished → exec (.doneParcel h hdr) s =
        .next (ackDue h (serveAll (retire q.id (sampleEnd 0 q.id 0 (q.result.getD (0, none)).1
          (u.modAsk q.id fun q => { q with delivered := true })))))) ∧
      (∀ object value, exec (.notice h hdr object value) s = .next (ackDue h { u with feeds := { u.feeds with
        streams := u.feeds.streams.map fun p => (p.1, p.2.notice (object % 2 ^ 17) value) } }))) ∧
    -- the header's four words hold every field (R323)
    (∀ (p : Hdr) (a b c d : Nat), p.kind < 2 ^ 4 → p.cls < 2 ^ 4 → p.dest < 2 ^ 3 → p.origin < 2 ^ 3 → p.len < 2 ^ 4 → p.e2e < 2 ^ 16 →
      p.hop < 2 ^ 16 → p.colour < 2 ^ 2 → p.opcode < 2 ^ 6 → p.context < 2 ^ 6 → p.stream < 2 ^ 12 → p.rseq < 2 ^ 16 → p.portKind < 2 ^ 2 →
      p.portIndex < 2 ^ 8 → p.free < 2 ^ 14 → p.tag < 2 ^ 32 → p.due < 2 ^ 32 → p.line < 2 ^ 46 → hdrWords p = [a, b, c, d] →
      hdrOfWords a b c d = p)

/-- R322, R325 to R327, R329, R332: a port comes up. Training with at least one module sends HELLO; with none, or past the join timeout, a
link that has never been up is refused with reason 0x01. A HELLO that passes brings the port up, replaying from the peer's next hop; one
that fails refuses it with the first reason. A reset sends the port back to training, and three malformed sequenced parcels in a row take
it down. The lowest reachable node with quorum forms the set when the formation timeout has passed. A port that does not exist stops. -/
def Obligations.PortsAndFormation : Prop :=
  ∀ (s : State) (h : Nat), s.Inv → h < 4 →
    (∀ node k st ver hop tag bundle, (s.port h).state ≠ .unconnected → (s.port h).state ≠ .down →
      (helloReason h node k st ver tag bundle s = 0 → Gives (.hello h node k st ver hop tag bundle) s fun t =>
        (t.port h).state = (if s.power.node = .rest ∨ s.power.node = .deep then .keepalive else .up) ∧ (t.port h).refusal = 0 ∧
        (t.port h).greeted = true ∧ (t.port h).everUp = true ∧
        (t.port h).replay = (s.port h).replay.filter (fun q => !seqBefore q.hdr.hop hop) ∧ (t.port h).resend = (t.port h).replay) ∧
      (helloReason h node k st ver tag bundle s ≠ 0 → Gives (.hello h node k st ver hop tag bundle) s fun t =>
        (t.port h).state = .refused ∧ (t.port h).refusal = helloReason h node k st ver tag bundle s ∧ (t.port h).greeted = false)) ∧
    (∀ m, (neighbour s.setNodes s.me h).isSome → (s.port h).state ≠ .unconnected →
      (0 < m → Gives (.linkTrainingDone h m) s fun t => (t.port h).modules = min m 4 ∧ (t.port h).retraining = false ∧
        ∃ body, (t.port h).egress = (s.port h).egress ++ [⟨{ Hdr.zero with kind := 9, origin := s.me, len := 1 }, body⟩]) ∧
      ((s.port h).everUp = false → Gives (.linkTrainingDone h 0) s fun t => (t.port h).state = .refused ∧ (t.port h).refusal = 1) ∧
      ((s.port h).everUp = true → exec (.linkTrainingDone h 0) s = .next s)) ∧
    ((s.port h).state = .training → (s.port h).retraining = true → (s.port h).everUp = false →
      s.elapsed s.hl.set.configAt (s.ob 0x5808 8 * msT) = true → Gives (.joinTimeout h) s fun t => (t.port h).state = .refused ∧ (t.port h).refusal = 1) ∧
    ((s.port h).state ≠ .training ∨ (s.port h).retraining = false → exec (.joinTimeout h) s = .next s) ∧
    ((s.port h).state ≠ .unconnected → Gives (.linkReset h) s fun t =>
      t.port h = { s.port h with state := .training, trainAt := s.now, retraining := true, greeted := false } ∧
      t.ob (hIdx h) 0x0C = (s.ob (hIdx h) 0x0C + 1) % 2 ^ objWidth (objKey (hIdx h) 0x0C) ∧ Output.sideband h 0 ∈ t.out) ∧
    (exec (.parcelMalformed h false) s = .next (raise Ev.parcelMalformed h 0 (s.bump (hIdx h) 0x0D))) ∧
    ((s.port h).malformed = 2 → Gives (.parcelMalformed h true) s fun t => (t.port h).state = .down ∧ (t.port h).malformed = 3) ∧
    ((s.port h).malformed < 2 → (s.port h).state ≠ .unconnected → Gives (.parcelMalformed h true) s fun t =>
      (t.port h).state = .training ∧ (t.port h).malformed = (s.port h).malformed + 1) ∧
    (s.elapsed s.hl.set.configAt (s.ob 0x5808 2 * msT) = true → s.formed = false → s.strapsValid = true → s.power.node = .config →
      s.hl.set.reachable ≠ 0 → lowestNode s.hl.set.reachable = s.me → quorum (2 ^ s.setNodes - 1) s.hl.set.reachable = true →
      Gives .formationTimeout s fun t => t.hl.set.state = 1 ∧ t.hl.set.lead = s.me ∧ t.hl.set.reachable = s.hl.set.reachable ∧
        t.hl.set.epoch = some (epochAfter s.keeperNs)) ∧
    (s.elapsed s.hl.set.configAt (s.ob 0x5808 2 * msT) = false → exec .formationTimeout s = .next s) ∧
    (∀ g, 4 ≤ g → exec (.linkReset g) s = .fault .absentUnit ∧ exec (.keepalive g) s = .fault .absentUnit ∧
      exec (.parcelTransmit g) s = .fault .absentUnit ∧ exec (.linkSilent g) s = .fault .absentUnit)

/-- R324, R331, R332, R335, R338, R342 to R346: link timers, set time, and what a port sends. KEEPALIVE after 500 ns, HOP_ACK after 100 ns,
TIME every 10 us, by an up link; what arrives restarts the silent count, HOP_ACK empties the replay buffer; a TIME parcel of the parent
steps set time, and the lead, which keeps it, is synchronised again after 1 ms within bounds; a link silent for 2 us, a reset link not up
in time and a warm reset that lasts too long are settled; of the parcels that wait the first of the order is begun. -/
def Obligations.LinkTimers : Prop :=
  ∀ (s : State) (h : Nat), h < 4 → (s.port h).silent = false →
    (exec (.keepalive h) s = .next (s.setPort h { s.port h with lastReceived := s.now })) ∧
    (∀ hop room, (s.port h).live = true → exec (.hopAck h hop room) s = .next (s.setPort h { s.port h with
      lastReceived := s.now, replay := (s.port h).replay.filter (fun q => q.hdr.hop != hop && !seqBefore q.hdr.hop hop)
      resend := (s.port h).resend.filter (fun q => q.hdr.hop != hop && !seqBefore q.hdr.hop hop), room := 8 * room })) ∧
    ((s.port h).live = true →
      (s.elapsed (s.port h).lastSent (500 * nsT) = true → exec (.keepaliveSendTimer h) s = .next (sendLink h 8 Hdr.zero [] s)) ∧
      (s.elapsed (s.port h).ackAt (100 * nsT) = true → exec (.hopAckSendTimer h) s = .next (sendHopAck h s)) ∧
      (s.elapsed (s.port h).timeSent (10000 * nsT) = true → exec (.timeSendTimer h) s = .next (sendLink h 7 Hdr.zero
        (leBytes 8 s.setEighths ++ leBytes 8 (s.port h).peerTx ++ leBytes 8 (s.port h).peerRx ++ zeroBytes 8)
        (s.setPort h { s.port h with timeSent := s.now }))) ∧
      (s.elapsed (s.port h).lastSent (500 * nsT) = false → exec (.keepaliveSendTimer h) s = .next s) ∧
      (s.elapsed (s.port h).ackAt (100 * nsT) = false → exec (.hopAckSendTimer h) s = .next s) ∧
      (s.elapsed (s.port h).timeSent (10000 * nsT) = false → exec (.timeSendTimer h) s = .next s) ∧
      (∀ tx echo echoRx rx, (s.isLead = true → exec (.timeParcel h tx echo echoRx rx) s = .next (
          let u := s.setPort h { s.port h with lastReceived := s.now, peerTx := tx, peerRx := rx }
          u.setSet { u.hl.set with unsynchronised :=
            s.hl.set.unsynchronised && !(s.hl.set.within5.elim false fun a => s.elapsed a msT) })) ∧
        (s.isLead = false → s.timeParent ≠ some h → exec (.timeParcel h tx echo echoRx rx) s =
          .next (s.setPort h { s.port h with lastReceived := s.now, peerTx := tx, peerRx := rx })) ∧
        (s.timeParent = some h → Gives (.timeParcel h tx echo echoRx rx) s fun t =>
          t.hl.set.timeBase = s.setTicks ∧ t.hl.set.timeAt = s.now ∧
          t.hl.set.offset = timeOffsetPs tx echo echoRx rx (signed 16 (s.ob (hIdx h) 6)) ∧
          t.hl.set.rate = s.rateFor t.hl.set.offset ∧ t.obj = s.obj ∧ t.out = s.out)) ∧
      ((s.port h).retraining = false → (s.port h).peerReset = none → s.elapsed (s.port h).lastReceived (2 * usTicks) = true →
        exec (.linkSilent h) s = .next (checkLoss (setOwnLink h 2 (s.setPort h { s.port h with silent := true })))) ∧
      (s.elapsed (s.port h).lastReceived (2 * usTicks) = false → exec (.linkSilent h) s = .next s)) ∧
    ((s.port h).state = .training → (s.port h).retraining = true → (s.port h).everUp = true →
      s.elapsed (s.port h).trainAt (s.ob (hIdx h) 7 * usTicks) = true →
      exec (.retrainLimitExpiry h) s = .next (checkLoss (setOwnLink h 3 (raise Ev.linkDown h 0
        (s.setPort h { s.port h with state := .down, retraining := false }))))) ∧
    ((s.port h).state ≠ .training ∨ (s.port h).retraining = false → exec (.retrainLimitExpiry h) s = .next s) ∧
    (∀ n mask, (n ∈ s.cutOff → exec (.lost none n mask) s = .next (findLost n s)) ∧ (n ∉ s.cutOff → exec (.lost none n mask) s = .next s)) ∧
    (∀ n, s.formed = true → n ≠ s.me → s.hl.set.reachable.testBit n = true → findLost n s = nodeLost n
      (forEach (s.others.filter fun m => m != n) (fun m t => sendControl 3 m
        (lostBody n (s.component (setBit n false s.hl.set.reachable))) t) s)) ∧
    (∀ n, look 0 n s.hl.set.resetting = 0 → exec (.warmResetLimitExpiry n) s = .next s) ∧
    (∀ n, look 0 n s.hl.set.resetting ≠ 0 → s.elapsed (look 0 n s.hl.set.resetting - 1) (s.ob 0x5808 0x0C * msT) = true →
      exec (.warmResetLimitExpiry n) s = .next (findLost n s)) ∧
    (∀ a, s.hl.set.beyond5 = some a → s.elapsed a (100 * usTicks) = true →
      exec .timeOffset s = .next (raiseNode Ev.timeOffset 0 s)) ∧
    (s.hl.set.beyond5 = none → exec .timeOffset s = .next s) ∧
    (∀ a, s.hl.set.beyond10 = some a → s.elapsed a msT = true → Gives .timeUnsynchronised s fun t =>
      t.hl = { s.hl with set := { s.hl.set with unsynchronised := true } }) ∧
    (s.hl.set.beyond10 = none → exec .timeUnsynchronised s = .next s) ∧
    (∀ u, u = forEach (((settleRoutes h s).classOrder h).flatMap ((settleRoutes h s).port h).heads) (noteWait h) (settleRoutes h s) →
      (u.choose h = none → exec (.parcelTransmit h) s = .next u) ∧
      (∀ q, u.choose h = some (.link q) → (u.port h).state ≠ .down → Gives (.parcelTransmit h) s fun t =>
        t.out = u.out ++ [.parcel h (stamped h q u)] ∧
        t.hl = (u.setPort h { u.port h with egress := dropFirst q (u.port h).egress, lastSent := s.now }).hl) ∧
      (∀ q, u.choose h = some (.fresh q) → Gives (.parcelTransmit h) s fun t =>
        t.out = u.out ++ [.parcel h { q with hdr := { q.hdr with hop := (u.port h).txHop } }] ∧
        (t.port h).txHop = ((u.port h).txHop + 1) % 65536 ∧
        (t.port h).replay = (u.port h).replay ++ [{ q with hdr := { q.hdr with hop := (u.port h).txHop } }] ∧
        (t.port h).egress = dropFirst q (u.port h).egress))

/-! ### Streams, slots and refresh (chapters 6, 7 and 9) -/

/-- R94 to R97, R177, R187, R523: what one instruction does to a stream that may decode it: the generators, the items a MOVE or SKIP yields, the
jump of REPEAT, the format, the mask read, the watch of a WAIT whose object the stream's world may see and the pending SIGNAL; nothing else of the node changes where the instruction
only decodes. Another opcode, or a stream that may not decode, decodes nothing. A slot of the channel is carried out once; on a channel that does not run, a stream's own slot only passes, and counts;
a row position that an entry to self-refresh holds carries no other command, and PREab of a tide switch goes first. -/
def Obligations.SlotsAndDecoding : Prop :=
  ∀ (s : State) (n w : Nat) (t : Stream), engineOf n < 16 * s.cfg.nstacks → s.stream? n = some t → w = s.instrOf n t →
    (t.mayDecode = true →
      (insOp w = 0 → exec (.streamEnd n) s = .next (s.modStream n fun _ => { t with cur := { t.cur with ended := true } })) ∧
      (insOp w = 1 → exec (.streamSeta n) s = .next (s.modStream n fun _ => { t with
        cur := (t.cur.modGen (insGen w) fun g => { g with base := bits 52 0 w, p := 0 }).next })) ∧
      (insOp w = 2 → exec (.streamSetd n) s = .next (s.modStream n fun _ => { t with cur := (t.cur.modGen (insGen w) fun g =>
        { g with counts := g.counts.set (bits 109 108 w) (bits 95 80 w + 1)
                 strides := g.strides.set (bits 109 108 w) (signed 32 (bits 63 32 w)), p := 0 }).next })) ∧
      (insOp w = 3 → (w.testBit 111 = false ∨ t.cur.mask = 0) → exec (.streamMove n) s = .next (s.modStream n fun _ => { t with
        cur := (t.cur.modGen (insGen w) fun g => g.advance (bits 23 0 w + 1)).next
        runs := t.runs ++ [⟨false, bits 23 0 w + 1, t.cur.gens.getD (insGen w) .reset, 0, t.cur.maskRows, 0, t.cur.fmt, t.cur.pc, 0⟩]
        decoded := t.decoded + (bits 23 0 w + 1) })) ∧
      (insOp w = 3 → w.testBit 111 = true → t.cur.mask ≠ 0 → exec (.streamMove n) s = .next (s.modStream n fun _ => { t with
        cur := ({ t.cur with maskItems := t.cur.maskItems + (bits 23 0 w + 1) }.modGen (insGen w) fun g => g.advance (bits 23 0 w + 1)).next
        runs := t.runs ++ [⟨false, bits 23 0 w + 1, t.cur.gens.getD (insGen w) .reset, t.cur.mask, t.cur.maskRows, t.cur.maskItems,
          t.cur.fmt, t.cur.pc, 0⟩]
        decoded := t.decoded + (bits 23 0 w + 1) })) ∧
      (insOp w = 4 → exec (.streamSkip n) s = .next (s.modStream n fun _ => { t with
        cur := t.cur.next, runs := t.runs ++ [⟨true, bits 23 0 w + 1, .reset, 0, 0, 0, none, t.cur.pc, 0⟩] })) ∧
      (∀ t', insOp w = 5 →
        t' = { t with cur := { t.cur with mask := t.cur.mask + 1, maskRows := bits 95 80 w + 1, maskItems := 0 }.next } →
        exec (.streamMask n) s = .next (let u := s.modStream n fun _ =>
            { t' with masks := t'.keepMasks ++ [⟨t'.cur.mask, lineOf (bits 52 0 w), none, false⟩] }
          offerChecked (u.unitAsk (engineUnit n) 0 t.desc.context t.desc.world (lineOf (bits 52 0 w)) .read (.mask n t'.cur.mask)) u)) ∧
      (insOp w = 6 → syncNode (insObject w) = s.me → (s.syncSecure (syncIndex (insObject w)) = false ∨ t.desc.world = true) →
        Gives (.streamWait n) s fun u =>
        u.feeds = (s.modStream n fun _ => { t with cur := t.cur.next, waiting := some (insObject w, bits 31 0 w)
                                                   watched := some (syncValue (s.syncState (syncIndex (insObject w)))) }).feeds ∧
        u.cache.watches = s.cache.watches.filter (fun x => x != (syncIndex (insObject w), n)) ++ [(syncIndex (insObject w), n)] ∧
        u.obj = s.obj ∧ u.syncs = s.syncs) ∧
      (insOp w = 7 → (syncNode (insObject w) = s.me ∨ s.canReach (syncNode (insObject w)) = true) →
        exec (.streamSignal n) s = .next (let u := fire false n (s.modStream n fun _ => { t with
            cur := t.cur.next, signals := t.signals ++ [⟨insObject w, bits 31 0 w, t.decoded, false⟩] })
          if t.desc.drain then u else lateFence n u)) ∧
      (insOp w = 8 → exec (.streamRepeat n) s = .next (s.modStream n fun _ => { t with
        cur := t.cur.jump (bits 111 96 w) (bits 15 0 w) })) ∧
      (insOp w = 9 → exec (.streamFmt n) s = .next (s.modStream n fun _ => { t with
        cur := { t.cur with fmt := if w.testBit 104 then some (bits 103 96 w) else none }.next }))) ∧
    ((t.mayDecode = false ∨ insOp w ≠ 3) → exec (.streamMove n) s = .next s) ∧
    (∀ c fault, c < s.channels →
      (s.slotRuns c = false → (∀ k, (s.chan c).lastSlot = some k → k < s.slotOf c) → exec (.channelSlot c fault) s =
        .next (passSlot c (s.slotOf c) (s.modChan c fun x => { x with lastSlot := some (s.slotOf c) }))) ∧
      (((endOwnSlot n s).stream? n).map (·.sigma) = some (t.sigma + 1)) ∧
      (∀ k, (s.chan c).lastSlot = some k → s.slotOf c ≤ k → exec (.channelSlot c fault) s = .next s) ∧
      (s.slotRuns c = true → (s.chan c).lastSlot = none → Gives (.channelSlot c fault) s fun u => (u.chan c).lastSlot = some (s.slotOf c)) ∧
      (∀ k bad l, (s.chan c).rowFree k = false → rowPosition c k bad l s = s) ∧
      (∀ k bad l, (s.chan c).rowFree k = true → (s.chan c).again = [] → (s.chan c).preabDue = true →
        allowed (s.chan c).time (s.half c) (rowCk k) .preAll = true → rowPosition c k bad l s =
          issueRow c k bad .planned .preAll (s.modChan c fun x => { x with preabDue := false }))) ∧
    (∀ c fault, s.channels ≤ c → exec (.channelSlot c fault) s = .fault .absentUnit) ∧
    (∀ k, 16 * s.cfg.nstacks ≤ engineOf k → exec (.streamMove k) s = .fault .absentUnit)

/-- R96, R99, R101, R102, R105, R106, R109, R110, R117, R120, R121, R144, R146, R147, R149, R151, R177: what comes back to the streams. A
mask line read OK becomes the mask; a WAIT whose object has reached its threshold ends; credits and drain beats are taken within what the
stream has granted, and fence its context beyond it; LANDED beats move the stream on; a beat of no stream is discarded and counted; a port
that is late goes down and fences its contexts; requests to fence, clear, reset and rejoin do so. -/
def Obligations.FeedAndDrain : Prop :=
  ∀ (s : State) (t n : Nat) (x : Stream) (r : Req), s.Inv → engineOf n < 16 * s.cfg.nstacks → t < 64 * s.cfg.nstacks →
    s.stream? n = some x →
    (∀ obj thr v, x.waiting = some (obj, thr) → x.watched = some v →
      (thr ≤ v → exec (.waitSatisfied n) s = .next { (s.modStream n fun x => { x with waiting := none, watched := none }) with
        cache := { s.cache with watches := s.cache.watches.filter fun w =>
          !(w.2 == n && syncNode obj == s.me && w.1 == syncIndex obj) } }) ∧
      (v < thr → exec (.waitSatisfied n) s = .next s)) ∧
    (∀ q num d, (s.path.asks.filter fun q => q.stage == .finished && (match q.why with | .mask k _ => k == n | _ => false)) = [q] →
      q.why = .mask n num → q.result = some (0, some d) → Gives (.maskReadDone n) s fun u =>
        u.feeds = (s.modStream n fun x => { x with masks := x.masks.map fun m => if m.num == num && !m.late then { m with line := some d }
          else m }).feeds) ∧
    (s.portState t = 0 → x.fenced = false →
      (∀ h0 h1, s.serves t n true = true → (h0.toList ++ h1.toList).length ≤ x.credits →
        exec (.drainBeat t n h0 h1) s = .next (s.modStream n fun x => { x with
          credits := x.credits - (h0.toList ++ h1.toList).length
          collected := x.collected ++ (h0.toList ++ h1.toList).map fun d => (d % 2 ^ 1024, s.now) })) ∧
      (∀ h0 h1, s.serves t n true = true → x.credits < (h0.toList ++ h1.toList).length →
        exec (.drainBeat t n h0 h1) s = .next (fenceContext 4 x.desc.context (raiseCtx Ev.drainOverrun (engineOf n) x.desc.context n s))) ∧
      (∀ a, s.serves t n false = true → a < 65536 → x.credits + a ≤ ringSize x.desc → exec (.feedCreditReturn t n a) s =
        .next (s.modStream n fun x => { x with credits := x.credits + a })) ∧
      (∀ h0 h1 a, s.serves t n true = false → s.serves t n false = false →
        exec (.drainBeat t n h0 h1) s = .next (discardBeat t s) ∧ exec (.feedCreditReturn t n a) s = .next (discardBeat t s)) ∧
      (s.oldStream? n = none → s.serves t n false = true → exec (.landedBeat t n) s =
        .next (fire false n (s.modStream n Stream.land)))) ∧
    (exec (.upBeatDiscarded (.tile t)) s = .next (discardBeat t s)) ∧
    (∀ p, p < 8 → exec (.upBeatDiscarded (.rt p)) s = .next (s.bump (rtIdx p) 9)) ∧
    (s.portState t = 0 → exec (.feedPortTimeout t true) s =
      .next (fenceStreams 3 (fun _ y => y.desc.port == t) (raise Ev.feedPortDown t 0
        ((setPortState t 1 s).setFeeds { s.feeds with rejoin := s.feeds.rejoin.filter fun y => y != t })))) ∧
    (s.landedLate t = false → exec (.feedPortTimeout t false) s = .next s) ∧
    (∀ p, p < 8 →
      exec (.portReadyWithdrawn (.rt p)) s = .next (s.setFeeds { s.feeds with
        ready := s.feeds.ready.filter (fun y => y != 256 + p) ++ [256 + p] }) ∧
      exec (.portReadyAsserted (.rt p)) s = .next (s.setFeeds { s.feeds with ready := s.feeds.ready.filter fun y => y != 256 + p })) ∧
    (Gives (.portReadyAsserted (.tile t)) s fun u => t ∈ u.feeds.ready ∧ (s.portState t = 1 → u.portState t = 2)) ∧
    (s.portState t ≠ 0 → s.portState t ≠ 2 → exec (.portReadyWithdrawn (.tile t)) s = .next (s.setFeeds { s.feeds with
      ready := s.feeds.ready.filter fun y => y != t })) ∧
    ((s.portState t = 0 ∨ s.portState t = 2) → exec (.portReadyWithdrawn (.tile t)) s = .next (portDown t (s.setFeeds { s.feeds with
      ready := s.feeds.ready.filter fun y => y != t }))) ∧
    (x.lag ≠ 0 → x.fenced = false → s.halted (engineOf n / 16) = false → s.elapsed x.lastIssue (s.ob 0x2300 3 * 1000 * nsT) = true →
      exec (.stallTimeout n) s = .next (fenceContext 2 x.desc.context (raiseCtx Ev.streamStall (engineOf n) x.desc.context n s))) ∧
    (x.lag = 0 → exec (.stallTimeout n) s = .next s) ∧
    (∀ cause ctx, s.fenced ctx = false → s.procs.sequencer.restart = none → ctx < 64 → (fenceContext cause ctx s).fenced ctx = true) ∧
    (∀ m, m < 2 ^ 64 → s.applies r 0x2300 5 (leBytes 8 m) = true → exec (.fenceRequest r m) s =
      .next (answer r St.ok 0 (forEach ((List.range 64).filter fun c => m.testBit c) (fenceContext 1) (s.begun r)))) ∧
    (t < 256 → s.portState t = 2 → s.applies r 0x2322 t [1] = true → Gives (.portRejoin r t) s fun u =>
      u.feeds = { s.feeds with rejoin := s.feeds.rejoin.filter (fun y => y != t) ++ [t] } ∧
      u.plans = { s.plans with rejoinAt := put 0 (0x100 + t) (s.setTicks + 1) s.plans.rejoinAt }) ∧
    (∀ e, e < 64 → s.ob (engineIdx e) 1 = 3 → s.applies r (engineIdx e) 8 [1] = true → Gives (.engineRejoin r e) s fun u =>
      u.feeds = { s.feeds with engineRejoin := s.feeds.engineRejoin.filter (fun y => y != e) ++ [e] } ∧
      u.plans = { s.plans with rejoinAt := put 0 (0x300 + e) (s.setTicks + 1) s.plans.rejoinAt }) ∧
    (∀ k, k < 32 → s.unitState k = 2 → s.applies r (unitIdx k) 0x10 [1] = true → Gives (.unitRejoin r k) s fun u =>
      u.feeds = { s.feeds with unitRejoin := s.feeds.unitRejoin.filter (fun y => y != k) ++ [k] } ∧
      u.plans = { s.plans with rejoinAt := put 0 (0x400 + k) (s.setTicks + 1) s.plans.rejoinAt }) ∧
    (∀ i d ts, x.desc.drain = true → x.fenced = false → x.collected = (d, ts) :: x.collected.drop 1 →
      x.lineItem (x.issued + (x.drain.filter fun y => y.ask.isNone).length) = some i → i.fmt = none →
      (∀ p ∈ s.feeds.streams, p.1 ≠ n → s.narrowDue p.1 = none) →
      exec (.drainLineNarrowed n) s = .next (s.modStream n fun y => { y with collected := y.collected.drop 1, drain := y.drain ++
        [⟨x.issued + (x.drain.filter fun y => y.ask.isNone).length, i.addr, 1, d, s.writeInfo i.addr, [], [], none, none⟩] })) ∧
    (exec .escapeReadDone s = .next (serveAll (endEscapes s))) ∧
    (∀ q rs, rs = s.escapeReads (fun p => match p with | .escapeRead a i => if a = q.id then some i else none | _ => none) →
      ((rs = [] ∨ ∃ p ∈ rs, p.stage ≠ .finished) → escapeAsk q s = s) ∧
      (∀ es e j p ls k m, s.far.waiting = [] → s.path.asks = q :: es → q.stage = .accepted → q.op = .widen e j → q.side.port = .tile p →
        (∀ r ∈ es, (∃ i, r.why = .escapeRead q.id i) ∧ r.op = .read ∧ r.id ≠ q.id) → es ≠ [] → (∀ r ∈ rs, r.stage = .finished) →
        s.widenEscape (decodeEntry q.entry) q.addr (q.applied.getD 0, q.info) (rs.map Ask.gotLine) = .lines ls k m →
        Gives .escapeReadDone s fun u => u.ends q.id (St.ok, some (ls.getD j 0)))) ∧
    (∀ g, g < 2 ^ 16 → s.applies r 0x2401 1 (leBytes 2 g) = true → (s.region g).valid = true → (s.region g).role = 1 →
      Gives (.poolReset r g) s fun u => u.feeds = { s.feeds with
        poolResets := s.feeds.poolResets.filter (fun y => y != g) ++ [g] }) ∧
    (∀ g, g < 2 ^ 16 → s.applies r 0x2441 1 (leBytes 2 g) = true → (s.ob 0x2440 (g / 64 + 1)).testBit (g % 64) = true →
      Gives (.beyondBoundClear r g) s fun u => u.ob 0x2440 (g / 64 + 1) = setBit (g % 64) false (s.ob 0x2440 (g / 64 + 1)) ∧
        u.ob 0x2400 4 = s.ob 0x2400 4 - 1) ∧
    (∀ k value, k < 64 → s.orders r 0x2410 (k + 1) value = true → entryCheck (decodeEntry (leNat value)) = 0 →
      Gives (.standingEntryWrite r k value) s fun u => u.ob 0x2410 (k + 1) = leNat value ∧ u.feeds = s.feeds)

/-- R120, R151, R198 to R203, R205, R206, R208 to R212, R272, R273: refresh, self-refresh and faults. A bank's debt rises at its phase; a
sheaf takes the class its temperature calls for; a channel enters self-refresh when it is drained and settled, by PREab, its mode
register writes, SRE and the stop of its clock, and leaves it when wanted, by SRX and tXS; a faulted engine, unit, slice or channel is settled by its own rule, and a second fault while one is being recovered halts the node. -/
def Obligations.RefreshAndFaults : Prop :=
  ∀ (s : State) (c : Nat), s.Inv → c < s.channels →
    (∀ j, s.refreshes c = true → j < 256 → riseDue (s.chan c).origin (s.refreshClass c) j (look 0 j (s.chan c).rises) s.now = true →
      (s.chan c).debtOf j < 32 → exec (.refreshIntervalTick c j) s = .next (addDebt c [j] 1 (s.modChan c fun x =>
        { x with rises := put 0 j (look 0 j (s.chan c).rises + 1) x.rises }))) ∧
    (∀ j, s.refreshes c = false → exec (.refreshIntervalTick c j) s = .next s) ∧
    (∀ u, u < 8 * s.cfg.nstacks → s.stewardUp = true → look 0 u s.heat.classDue ≠ s.refreshClass (9 * u) → s.running = none →
      exec (.refreshClassChange u) s = .next (raise Ev.refreshClass u (256 * s.refreshClass (9 * u) + look 0 u s.heat.classDue)
        (forEach (List.range 9) (fun k => takeClass (look 0 u s.heat.classDue) (9 * u + k)) s))) ∧
    (∀ new d, (takeClass new c s).refreshClass c = new ∧
      (s.refreshClass c < new → 0 < d → rescale (s.refreshClass c) new d = d * (2 : Int) ^ (new - s.refreshClass c))) ∧
    (∀ cls mask, (s.chan c).draining = some (cls, mask) → s.chanState c = 0 →
      s.backsWaiting c = false →
      ((s.chan c).entry = none → s.rowAllowed c .preAll = true →
        (s.haltEntry c = true ∨ (s.settling c = true ∧ (s.chan c).unconf = [] ∧ ∀ p ∈ (s.chan c).debt, p.2 ≤ 0)) →
        exec (.selfRefreshEntry c) s = .next (entryPreab c s)) ∧
      (∀ k cmd rest, (s.chan c).entry = some (false, k) → (s.chan c).again = cmd :: rest →
        (s.rowAllowed c cmd = true → exec (.selfRefreshEntry c) s = .next (entryMode c cmd s)) ∧
        (s.rowAllowed c cmd = false → exec (.selfRefreshEntry c) s = .next s)) ∧
      (∀ k, (s.chan c).entry = some (false, k) → (s.chan c).again = [] → s.rowAllowed c (.sre (s.sreClass c cls) mask) = true →
        exec (.selfRefreshEntry c) s = .next (entrySre c (s.sreClass c cls) mask s)) ∧
      (∀ k, (s.chan c).entry = some (true, k) → k + 8 ≤ rowCk (s.slotOf c) →
        exec (.selfRefreshEntry c) s = .next (enterSelfRefresh c s)) ∧
      ((entryPreab c s).chan c).entry = some (false, rowCk (s.slotOf c)) ∧
      ((entrySre c cls mask s).chan c).entry = some (true, rowCk (s.slotOf c)) ∧ (enterSelfRefresh c s).chanState c = 6) ∧
    ((s.chan c).draining = none → exec (.selfRefreshEntry c) s = .next s) ∧
    (s.chanState c = 6 → s.ob (chanIdx c) 0x40 = 3 →
      ((s.dch c).selfRef.isSome → s.srxAllowed c = true → s.exitWanted c = true →
        exec (.selfRefreshExit c) s = .next (serveAll (exitSrx c s))) ∧
      ((s.dch c).selfRef = none → within (rowCk (s.slotOf c)) 240 (s.chan c).time.srx = false → exec (.selfRefreshExit c) s =
        .next (serveAll (raise Ev.selfRefreshExit c 0 ((leaveSelfRefresh c s).setChanState c (s.chan c).srFrom))))) ∧
    ((s.chan c).poisonDue = 0 → exec (.deepSegmentPoisonDone c) s = .next s) ∧
    ((s.chan c).poisonDue ≠ 0 → (s.dch c).selfRef = none → Gives (.deepSegmentPoisonDone c) s fun t => (t.chan c).poisonDue = 0) ∧
    (s.recovering = false →
      (∀ e, e < 16 * s.cfg.nstacks → exec (.engineFault e) s = .next (serveAll (engineFault e (s.setOb 0xB040 1 4)))) ∧
      (∀ u, u < 8 * s.cfg.nstacks → exec (.formatUnitFault u) s = .next (serveAll (unitFault u (s.setOb 0xB040 1 4)))) ∧
      (∀ x, x < 16 → exec (.sliceFault x) s = .next (serveAll (sliceFault x (s.setOb 0xB040 1 4)))) ∧
      (∀ b, exec (.channelFault c b) s = .next (serveAll (channelFault c b (s.setOb 0xB040 1 4))))) ∧
    (∀ e, (engineFault e s).ob (engineIdx e) 1 = 3 ∧ (unitFault e s).unitState e = 2) ∧
    (s.recovering = true → s.power.node = .run → ∀ e, e < 16 * s.cfg.nstacks → exec (.engineFault e) s =
      .next (serveAll (enterHalted Ev.engineFault true (engineFault e (s.setOb 0xB040 1 4))))) ∧
    (s.chanState c = 1 →
      exec (.channelRecovered c false) s = .next (serveAll (failChannel c s)) ∧
      (s.ob (chanIdx c) 0x40 = 3 → (s.dch c).selfRef.isSome → s.srxAllowed c = true →
        exec (.channelRecovered c true) s = .next (serveAll (exitSrx c s))) ∧
      (∀ v u, s.ob (chanIdx c) 0x40 = 3 → (s.dch c).selfRef = none → within (rowCk (s.slotOf c)) 240 (s.chan c).time.srx = false →
        v = raise Ev.selfRefreshExit c 0 (leaveSelfRefresh c s) →
        u = raise Ev.channelRecovered c 0 (syncDepth c (((v.setChan c (v.chan c).replay.1).bumpBy 0xA002 5 (v.chan c).replay.2).setChanState
          c (v.chan c).replay.1.srFrom)) → exec (.channelRecovered c true) s = .next (serveAll
            (if u.haltEntry c then drainChannel c 2 0xFFFF u else u))) ∧
      (s.elapsed (s.chan c).faultAt recoveryLimit = true → exec (.channelRecoveryTimeout c) s = .next (serveAll (failChannel c s)))) ∧
    (s.chanState c ≠ 1 → exec (.channelRecovered c true) s = .next (serveAll s) ∧ exec (.channelRecoveryTimeout c) s = .next s) ∧
    (∀ (r : Req), s.applies r (chanIdx c) 0x1C [1] = true → s.chanState c = 3 → s.path.copyBack = none → s.path.reconst = none →
      (isSpare c = true ∨ s.servedBy c = c) → Gives (.channelRejoin r c) s fun t => (t.chan c).rejoin = true ∧
        t.plans = { s.plans with rejoinAt := put 0 (0x600 + c) (s.setTicks + 1) s.plans.rejoinAt }) ∧
    -- the same commands where no request is under way
    (s.path.asks = [] → s.far.waiting = [] →
      (s.recovering = false →
        (∀ e, e < 16 * s.cfg.nstacks → Gives (.engineFault e) s fun t => t.ob (engineIdx e) 1 = 3) ∧
        (∀ u, u < 8 * s.cfg.nstacks → Gives (.formatUnitFault u) s fun t => t.unitState u = 2) ∧
        (s.chanState c = 0 → ∀ b, Gives (.channelFault c b) s fun t => t.chanState c = (if b then 1 else 2))) ∧
      (s.chanState c = 1 → Gives (.channelRecovered c false) s fun t => t.chanState c = 2) ∧
      (s.chanState c = 1 → s.elapsed (s.chan c).faultAt recoveryLimit = true →
        Gives (.channelRecoveryTimeout c) s fun t => t.chanState c = 2) ∧
      (s.chanState c = 6 → s.ob (chanIdx c) 0x40 = 3 → (s.dch c).selfRef = none →
        within (rowCk (s.slotOf c)) 240 (s.chan c).time.srx = false → Gives (.selfRefreshExit c) s fun t => t.chanState c = (s.chan c).srFrom))

/-! ### Open requests, the cache and quality of service (chapters 6 and 8) -/

/-- R163 to R165, R168, R175, R215 to R219, R270: every request command offers its own request at its port: the line, a reserved low address
bit refused as DENIED, and its operation, with the function codes of R164 and the operation codes of R175. One that is admitted completes as
far as it can at once: a read or a WIDEN with the cached line (R155), a write on a dirty copy by changing it (R158), and any of the three
without a copy stays offered until a queue entry is free for it (R232). A request that arrives while the
node is off or halted is left, a repeated one is counted and reported, one past the offer buffer stays with its sender, one its port may not
send is DENIED, one for another node is forwarded, and any other is offered here. A port that is absent stops. -/
def Obligations.OpenRequests : Prop :=
  ∀ (s : State) (q r : Side) (a l : Nat), r = { q with rsvd := q.rsvd || a % 128 != 0 } → l = a % 2 ^ 53 / 128 * 128 →
    (portPresent q.port s = true →
      exec (.openRead q a) s = .next (arrive r l .read s) ∧
      (∀ m d, exec (.openWrite q a m d) s = .next (arrive r l (.write (m % 2 ^ 128) (d % 2 ^ 1024)) s)) ∧
      (∀ x j, exec (.openWiden q a x j) s = .next (arrive r l (.widen (x % 64) (j % 8)) s)) ∧
      (∀ o w f x y, o < 128 → x < 2 ^ 64 → y < 2 ^ 64 →
        exec (.atomicSwap q a o w f x) s = .next (arrive r l (.atomic 0 o w f x 0) s) ∧
        exec (.atomicCas q a o w f x y) s = .next (arrive r l (.atomic 1 o w f x y) s) ∧
        exec (.atomicAdd q a o w f x) s = .next (arrive r l (.atomic 2 o w f x 0) s) ∧
        exec (.atomicAnd q a o w f x) s = .next (arrive r l (.atomic 3 o w f x 0) s) ∧
        exec (.atomicOr q a o w f x) s = .next (arrive r l (.atomic 4 o w f x 0) s) ∧
        exec (.atomicXor q a o w f x) s = .next (arrive r l (.atomic 5 o w f x 0) s) ∧
        exec (.atomicSmin q a o w f x) s = .next (arrive r l (.atomic 6 o w f x 0) s) ∧
        exec (.atomicSmax q a o w f x) s = .next (arrive r l (.atomic 7 o w f x 0) s) ∧
        exec (.atomicUmin q a o w f x) s = .next (arrive r l (.atomic 8 o w f x 0) s) ∧
        exec (.atomicUmax q a o w f x) s = .next (arrive r l (.atomic 9 o w f x 0) s) ∧
        exec (.atomicFadd q a o w f x) s = .next (arrive r l (.atomic 10 o w f x 0) s) ∧
        exec (.atomicFmin q a o w f x) s = .next (arrive r l (.atomic 11 o w f x 0) s) ∧
        exec (.atomicFmax q a o w f x) s = .next (arrive r l (.atomic 12 o w f x 0) s) ∧
        exec (.atomicIncwrap q a o w f x) s = .next (arrive r l (.atomic 13 o w f x 0) s) ∧
        exec (.atomicRead q a o w) s = .next (arrive r l (.atomic 14 o w true 0 0) s) ∧
        exec (.atomicFlush q a o w) s = .next (arrive r l (.atomic 15 o w false 0 0) s)) ∧
      (∀ w d, w.function < 4 → w.type < 4 → w.tag < 256 → w.index < 4096 → w.count < 4096 → w.object < 2 ^ 17 → d < 2 ^ 1024 →
        exec (.reduce q a w d) s = .next (arrive r l (.reduce w d) s)) ∧
      (∀ o v, o < 2 ^ 17 → v < 2 ^ 32 →
        exec (.syncRead q o) s = .next (arrive q 0 (.sync 0 o 0) s) ∧ exec (.syncSet q o v) s = .next (arrive q 0 (.sync 1 o v) s) ∧
        exec (.syncAdd q o v) s = .next (arrive q 0 (.sync 2 o v) s) ∧ exec (.syncSignal q o v) s = .next (arrive q 0 (.sync 3 o v) s) ∧
        exec (.syncWait q o v) s = .next (arrive q 0 (.sync 4 o v) s) ∧ exec (.syncReset q o) s = .next (arrive q 0 (.sync 5 o 0) s))) ∧
    (portPresent q.port s = false → exec (.openRead q a) s = .fault .absentUnit ∧ ∀ o v, exec (.syncAdd q o v) s = .fault .absentUnit) ∧
    (∀ op k, k = { s.newAsk q l op .port with due := s.dueOf q } →
      ((s.power.node = .off ∨ s.power.node = .halted) → arrive q l op s = s) ∧
      (s.power.node ≠ .off → s.power.node ≠ .halted →
        (s.duplicate k = true → arrive q l op s = raiseNode Ev.requestDuplicate 0 (count breakwaterBank 8 1 (s.bump 0xA002 4))) ∧
        (s.duplicate k = false → offerSize q.port ≤ s.offersOf k → arrive q l op s = s) ∧
        (s.duplicate k = false → s.offersOf k < offerSize q.port → ∀ t, q.port = .tile t →
          (portDenied k (endChain k s) = true → arrive q l op s = denyAsk k.id (addAsk k (endChain k s))) ∧
          (portDenied k (endChain k s) = false → (endChain k s).chained k = true →
            arrive q l op s = finish k.id St.retry none (addAsk k (endChain k s))) ∧
          (portDenied k (endChain k s) = false → (endChain k s).chained k = false → k.owner ≠ s.me →
            arrive q l op s = chainForward k (forwardAsk ((endChain k s).syncClass k) (endChain k s))) ∧
          (portDenied k (endChain k s) = false → (endChain k s).chained k = false → k.owner = s.me →
            arrive q l op s = offerAsk k (endChain k s))))) ∧
    -- what completes at once, and what stays offered
    (∀ (i : Instr) op k x y, (i, op) ∈ [(Instr.openRead q a, Op.read), (.openWiden q a x y, .widen (x % 64) (y % 8)),
        (.openWrite q a x y, .write (x % 2 ^ 128) (y % 2 ^ 1024))] → k = s.req r l op → s.admits k = true → farAddr l = false →
        s.redOn l = none → s.cached l = none → Gives i s fun t => ∃ b, t.ask? k.id = some b ∧
        b.stage = .offered ∧ b.op = op ∧ b.addr = l ∧ b.side = r) ∧
    (∀ k n w, k = s.req r l .read → s.admits k = true → farAddr l = false → s.redOn l = none → s.cached l = some (n, w) →
      w.info.testBit 11 = false → w.info.testBit 9 = { k with region := s.regionRaw l }.sealed →
      Gives (.openRead q a) s fun t => t.ends k.id (St.ok, some w.data)) ∧
    (∀ k n w x j ls m, k = s.req r l (.widen (x % 64) (j % 8)) → s.admits k = true → farAddr l = false → s.redOn l = none →
      s.cached l = some (n, w) → w.info.testBit 9 = { k with region := s.regionRaw l }.sealed →
      s.widen (decodeEntry (s.standing (x % 64))) l (w.data, w.info) = .lines ls m →
      Gives (.openWiden q a x j) s fun t => t.ends k.id (St.ok, some (ls.getD (j % 8) 0))) ∧
    (∀ k n w m d, k = s.req r l (.write (m % 2 ^ 128) (d % 2 ^ 1024)) → s.admits k = true → farAddr l = false → s.redOn l = none →
      s.cached l = some (n, w) → w.kind = .dirty → Gives (.openWrite q a m d) s fun t =>
      t.ends k.id (St.ok, none) ∧ (t.way n).map CWay.data = some (mergeData (m % 2 ^ 128) (d % 2 ^ 1024) w.data))

/-- R163, R164, R168, R170, R175: the results. An atomic replaces its field by the function's value and leaves the rest of the line; the
functions are those of R164 on 32 or 64 bits, signed where they say so; integer reductions add modulo 2^32 and compare as signed numbers;
a synchronisation object saturates on addition and keeps its flags. An atomic that is admitted and finds its line in the cache is applied at
once and answers the old value where it is asked for (R159, R160, R163); without a copy it is accepted and waits for its fill; a FLUSH of a
line that is not dirty is over at once (R164). -/
def Obligations.OperationResults : Prop :=
  (∀ w m a b, (w = 32 ∨ w = 64) → m < 2 ^ w → a < 2 ^ w → b < 2 ^ w →
    atomicFn 0 w m a b = a ∧
    atomicFn 1 w m a b = (if m = a then b else m) ∧
    atomicFn 2 w m a b = (BitVec.ofNat w m + BitVec.ofNat w a).toNat ∧
    atomicFn 3 w m a b = (BitVec.ofNat w m &&& BitVec.ofNat w a).toNat ∧
    atomicFn 4 w m a b = (BitVec.ofNat w m ||| BitVec.ofNat w a).toNat ∧
    atomicFn 5 w m a b = (BitVec.ofNat w m ^^^ BitVec.ofNat w a).toNat ∧
    (BitVec.ofNat w (atomicFn 6 w m a b)).toInt = min (BitVec.ofNat w m).toInt (BitVec.ofNat w a).toInt ∧
    (BitVec.ofNat w (atomicFn 7 w m a b)).toInt = max (BitVec.ofNat w m).toInt (BitVec.ofNat w a).toInt ∧
    atomicFn 8 w m a b = min m a ∧ atomicFn 9 w m a b = max m a ∧
    atomicFn 13 w m a b = (if a ≤ m then 0 else m + 1) ∧ atomicFn 14 w m a b = m) ∧
  (∀ d o w v, v < 2 ^ w → fieldAt (withField d o w v) o w = v ∧
    ∀ p n, 8 * p + n ≤ 8 * o ∨ 8 * o + w ≤ 8 * p → fieldAt (withField d o w v) p n = fieldAt d p n) ∧
  (∀ (w : RedWord) acc c, w.type = 3 → acc < 2 ^ 32 → c < 2 ^ 32 →
    (w.function = 0 → combine w acc c = (BitVec.ofNat 32 acc + BitVec.ofNat 32 c).toNat) ∧
    (w.function = 1 → (BitVec.ofNat 32 (combine w acc c)).toInt = max (BitVec.ofNat 32 acc).toInt (BitVec.ofNat 32 c).toInt) ∧
    (w.function = 2 → (BitVec.ofNat 32 (combine w acc c)).toInt = min (BitVec.ofNat 32 acc).toInt (BitVec.ofNat 32 c).toInt) ∧
    combine w (redIdentity w) c = c ∨ 2 < w.function) ∧
  (∀ v n, n < 2 ^ 32 → syncValue (addSync v n) = min (syncValue v + n) (2 ^ 32 - 1) ∧
    (2 ^ 32 ≤ syncValue v + n → (addSync v n).testBit 32 = true) ∧ (addSync v n).testBit 33 = v.testBit 33) ∧
  (∀ (s : State) (q r : Side) (a l o : Nat) (wd f : Bool) (x y : Nat), r = { q with rsvd := q.rsvd || a % 128 != 0 } →
    l = a % 2 ^ 53 / 128 * 128 → o < 128 → x < 2 ^ 64 → y < 2 ^ 64 → portPresent q.port s = true → s.redOn l = none →
    s.sliceState (sliceOf l) ≠ 1 → s.sliceState (sliceOf l) ≠ 4 →
    (∀ (i : Instr) g fe u v k, (i, g, fe, u, v) ∈ [(Instr.atomicSwap q a o wd f x, 0, f, x, 0), (.atomicCas q a o wd f x y, 1, f, x, y),
        (.atomicAdd q a o wd f x, 2, f, x, 0), (.atomicAnd q a o wd f x, 3, f, x, 0), (.atomicOr q a o wd f x, 4, f, x, 0),
        (.atomicXor q a o wd f x, 5, f, x, 0), (.atomicSmin q a o wd f x, 6, f, x, 0), (.atomicSmax q a o wd f x, 7, f, x, 0),
        (.atomicUmin q a o wd f x, 8, f, x, 0), (.atomicUmax q a o wd f x, 9, f, x, 0), (.atomicFadd q a o wd f x, 10, f, x, 0),
        (.atomicFmin q a o wd f x, 11, f, x, 0), (.atomicFmax q a o wd f x, 12, f, x, 0), (.atomicIncwrap q a o wd f x, 13, f, x, 0)] →
      k = s.req r l (.atomic g o wd fe u v) → s.admits k = true → atomicDenied g o wd l = false →
      (s.cached l = none → Gives i s fun t => t.accepts k.id) ∧
      (∀ n w, s.mirrored (sliceOf l) = true → s.cached l = some (n, w) → w.info.testBit 11 = false → s.dirtyLimit l w = none →
        Gives i s fun t => t.ends k.id (St.ok, if fe then some (fieldAt w.data o (if wd then 64 else 32)) else none) ∧
          (t.way n).map CWay.data = some (withField w.data o (if wd then 64 else 32)
            (atomicFn g (if wd then 64 else 32) (fieldAt w.data o (if wd then 64 else 32)) u v)))) ∧
    (∀ k, k = s.req r l (.atomic 14 o wd true 0 0) → s.admits k = true → atomicDenied 14 o wd l = false →
      (s.cached l = none → Gives (.atomicRead q a o wd) s fun t => t.accepts k.id) ∧
      (∀ n w, s.cached l = some (n, w) → w.info.testBit 11 = false → Gives (.atomicRead q a o wd) s fun t =>
        t.ends k.id (St.ok, some (fieldAt w.data o (if wd then 64 else 32))) ∧ (t.way n).map CWay.data = some w.data)) ∧
    (∀ k, k = s.req r l (.atomic 15 o wd false 0 0) → s.admits k = true → atomicDenied 15 o wd l = false →
      (∀ n w, s.cached l = some (n, w) → w.kind ≠ .dirty) → Gives (.atomicFlush q a o wd) s fun t => t.ends k.id (St.ok, none)))

/-- R169 to R179: reductions and synchronisation objects as time and software move them: contributions are applied in their turn, one that has
waited too long breaks its reduction, closed records go after the timeout; each operation changes its object as R175 says and only that
object; a wait past its timeout completes with the object's state; a write through the dictionary sets the object. An admitted contribution
is accepted and staged, and an admitted operation on an object is done at once, but for a WAIT whose threshold is not reached (R169, R175). -/
def Obligations.ReductionsAndSync : Prop :=
  ∀ (s : State) (a : Nat) (r : Req),
    (s.redOn a = none → exec (.contributionApply a) s = .next (serveAll s)) ∧
    (∀ d e t, s.redOn a = some d → d.closing = false → applyAll (d.staged.length + 1) d s = (e, t) →
      (e.next ≠ redK e.word → exec (.contributionApply a) s = .next (serveAll (t.modRed a fun _ => e))) ∧
      (e.next = redK e.word → exec (.contributionApply a) s = .next (serveAll (beginClose e (t.modRed a fun _ => e))))) ∧
    (∀ d c acc, d.acc = some acc → (d.staged.find? fun x => x.1 == d.next) = some c → ∃ t, applyNext d s = some ({ d with
      acc := some ((acc.zip (lineElems d.word.type c.2.2)).map fun p => combine d.word p.1 p.2), next := d.next + 1
      staged := d.staged.filter fun x => x.1 != c.1, lastApplied := s.now }, t)) ∧
    (∀ d, s.cache.reds.filter s.redExpired = [d] → exec .reduceTimeout s = .next (serveAll (breakRed d s))) ∧
    (s.cache.reds.filter s.redExpired = [] → exec .reduceTimeout s = .next (serveAll s)) ∧
    (exec .closedRecordExpiry s = .next { s with cache := { s.cache with
      closed := s.cache.closed.filter fun d => !s.elapsed d.at_ s.reduceTimeout } }) ∧
    (∀ (q : Ask) o x,
      (syncApply q 0 o x s).syncs = s.syncs ∧ (syncApply q 1 o x s).syncs = put 0 o x s.syncs ∧
      (syncApply q 2 o x s).syncs = put 0 o (addSync (s.syncState o) x) s.syncs ∧
      (syncApply q 3 o x s).syncs = put 0 o (addSync (s.syncState o) x) s.syncs ∧
      (syncApply q 4 o x s).syncs = s.syncs ∧ (syncApply q 5 o x s).syncs = put 0 o 0 s.syncs) ∧
    (∀ w, s.cache.waiters = [w] → (∀ q, s.ask? w.2.2 = some q → s.elapsed q.arrived (q.rule * 1000 * nsT) = true →
        exec .syncWaitTimeout s = .next (serveAll (finish w.2.2 St.ok (some (s.syncState w.1))
          { s with cache := { s.cache with waiters := [] } }))) ∧
      (∀ q, s.ask? w.2.2 = some q → s.elapsed q.arrived (q.rule * 1000 * nsT) = false →
        exec .syncWaitTimeout s = .next (serveAll s))) ∧
    (∀ o v, o < 16384 → v < 2 ^ 32 → s.applies r (0x2540 + o / 256) (o % 256) (leBytes 8 v) = true →
      (s.syncSecure o = false ∨ s.isOwner r = true) → Gives (.syncObjectWrite r o v) s fun t => t.syncs = put 0 o v s.syncs) ∧
    (∀ (q u : Side) l k w d, u = { q with rsvd := q.rsvd || a % 128 != 0 } → l = a % 2 ^ 53 / 128 * 128 → portPresent q.port s = true →
      w.function < 4 → w.type < 4 → w.tag < 256 → w.index < 4096 → w.count < 4096 → w.object < 2 ^ 17 → d < 2 ^ 1024 →
      k = s.req u l (.reduce w d) → s.admits k = true → redDenied w l = false → s.sliceState (sliceOf l) ≠ 1 → s.sliceState (sliceOf l) ≠ 4 →
      s.redDecide l w = .take true → (∀ n v, s.cached l = some (n, v) → v.info.testBit 11 = false) →
      Gives (.reduce q a w d) s fun t => t.accepts k.id ∧
        ∃ e, t.redOn l = some e ∧ e.word = w ∧ e.next = 0 ∧ e.staged = [(w.index, k.id, d)] ∧ e.closing = false) ∧
    (∀ (q : Side) o x i, o < 2 ^ 17 → x < 2 ^ 32 → i = syncIndex o → portPresent q.port s = true → s.cache.waiters = [] →
      (s.syncSecure i = false ∨ q.world = true) → s.sliceState (syncSlice i) ≠ 1 →
      (∀ k, k = s.req q 0 (.sync 0 o 0) → s.admits k = true → Gives (.syncRead q o) s fun t =>
        t.ends k.id (St.ok, some (s.syncState i)) ∧ t.syncs = s.syncs) ∧
      (∀ k, k = s.req q 0 (.sync 1 o x) → s.admits k = true → Gives (.syncSet q o x) s fun t =>
        t.ends k.id (St.ok, none) ∧ t.syncs = put 0 i x s.syncs) ∧
      (∀ k, k = s.req q 0 (.sync 2 o x) → s.admits k = true → Gives (.syncAdd q o x) s fun t =>
        t.ends k.id (St.ok, some (s.syncState i)) ∧ t.syncs = put 0 i (addSync (s.syncState i) x) s.syncs) ∧
      (∀ k, k = s.req q 0 (.sync 3 o x) → s.admits k = true → Gives (.syncSignal q o x) s fun t =>
        t.ends k.id (St.ok, none) ∧ t.syncs = put 0 i (addSync (s.syncState i) x) s.syncs) ∧
      (∀ k, k = s.req q 0 (.sync 4 o x) → s.admits k = true →
        (x ≤ syncValue (s.syncState i) → Gives (.syncWait q o x) s fun t => t.ends k.id (St.ok, some (s.syncState i + 2 ^ 34))) ∧
        (syncValue (s.syncState i) < x → Gives (.syncWait q o x) s fun t => t.accepts k.id ∧ t.cache.waiters = [(i, x, k.id)])) ∧
      (∀ k, k = s.req q 0 (.sync 5 o 0) → s.admits k = true → Gives (.syncReset q o) s fun t =>
        t.ends k.id (St.ok, none) ∧ t.syncs = put 0 i 0 s.syncs)) ∧
    -- the same commands where nothing else is under way
    (∀ q d acc p x, s.still = true → s.path.asks = [q] → q.side.port = .tile p → q.stage = .accepted → s.redOn a = some d →
      d.closing = false → d.acc = some acc → d.staged = [(d.next, q.id, x)] → d.next + 1 ≠ redK d.word →
      Gives (.contributionApply a) s fun t => t.ends q.id (St.ok, none) ∧ t.redOn a = some { d with
        acc := some ((acc.zip (lineElems d.word.type x)).map fun p => combine d.word p.1 p.2), next := d.next + 1, staged := []
        lastApplied := s.now }) ∧
    (∀ d, s.still = true → s.path.asks = [] → s.cache.reds = [d] → s.redExpired d = true → d.staged = [] → d.readers = [] →
      Gives .reduceTimeout s fun t => t.redOn d.addr = none ∧ (⟨d.addr, d.word.tag, true, s.now⟩ : RedDone) ∈ t.cache.closed) ∧
    (∀ q p o x, s.still = true → s.path.asks = [q] → q.side.port = .tile p → q.stage = .accepted → s.cache.waiters = [(o, x, q.id)] →
      s.elapsed q.arrived (q.rule * 1000 * nsT) = true → Gives .syncWaitTimeout s fun t =>
        t.ends q.id (St.ok, some (s.syncState o)) ∧ t.cache.waiters = [])

/-- R157 to R162, R434: fills, write-backs and slices. A fill that finds its request gone is dropped, one that is poisoned completes it
POISONED; dirty lines past their age, and all of them on a flush, are written back, and a flush with none is done at once; a write-back that
its channel has accepted leaves its line clean, and the writes that waited to allocate try again; a faulted slice is taken over by its partner, and rejoins when asked in shadow state. -/
def Obligations.CacheAndSlices : Prop :=
  ∀ (s : State) (x : Nat) (r : Req), x < 16 →
    (s.cache.fills = [] → exec .cacheMissFill s = .next (serveAll s)) ∧
    (∀ id line rest, s.cache.fills = (id, line) :: rest →
      (s.ask? id = none → exec .cacheMissFill s = .next (serveAll { s with cache := { s.cache with fills := rest } })) ∧
      (∀ q, s.ask? id = some q → line = none → q.op = .read →
        exec .cacheMissFill s = .next (serveAll (finish id St.poisoned none { s with cache := { s.cache with fills := rest } }))) ∧
      (∀ q l, s.ask? id = some q → line = some l → q.op = .read → (rulePolicy q.rule = 0 ∨ l.2.testBit 11 = true) →
        exec .cacheMissFill s = .next (serveAll (finishRead id l { s with cache := { s.cache with fills := rest } })))) ∧
    (exec .writebackAgeExpiry s = .next (writeBackAll (fun w => s.elapsed w.modified (s.ob 0x2500 5 * 1000 * nsT)) s)) ∧
    (s.dirtyLines = [] → exec .writebackAgeExpiry s = .next s) ∧
    (s.applies r 0x2500 6 [1] = true → s.dirtyLines = [] → exec (.flushAll r) s = .next (answer r St.ok 0 (s.begun r))) ∧
    (s.applies r 0x2500 6 [1] = true → s.dirtyLines ≠ [] → Gives (.flushAll r) s fun t =>
      t.cache.flushAll = s.cache.flushAll ++ [(.req r, s.dirtyLines)]) ∧
    (s.endedBack x = none → exec (.writeBackAccepted x) s = .next (serveAll (retryAllocs s))) ∧
    (∀ q d i o, s.endedBack x = some q → q.op = .put d i → q.result = some (0, o) → exec (.writeBackAccepted x) s =
      .next (serveAll (retryAllocs (endClose q.addr d (writtenBack (q.addr / 128) d
        (retire q.id (s.modAsk q.id fun b => { b with delivered := true }))))))) ∧
    (s.sliceState x = 0 → s.sliceState (partnerOf x) = 0 →
      sliceFault x s = refuseHeld x (setSlice x 1 (clearArray x (raise Ev.sliceFault x 0 s)))) ∧
    (s.sliceState x ≠ 0 → s.sliceState x ≠ 3 → sliceFault x s = s) ∧
    (∀ b, s.sliceState x ≠ 1 → exec (.sliceTakenOver x b) s = .next (serveAll s)) ∧
    (∀ b t, s.sliceState x = 1 → t = raise Ev.sliceTakenOver x 0 (setSlice x (if b then 3 else 2) s) → s.arrayOf (partnerOf x) = [] →
      t.sliceState x = (if b then 3 else 2) ∧ exec (.sliceTakenOver x b) s = .next (serveAll
        (writeBackAll (fun w => sliceOf (128 * w.line) == x || sliceOf (128 * w.line) == partnerOf x) t))) ∧
    (s.applies r (0x2510 + x) 8 [1] = true → (s.sliceState x = 3 ∨ s.sliceState x = 4) → Gives (.sliceRejoin r x) s fun t =>
      t.cache = { s.cache with rejoin := (s.cache.rejoin.filter fun z => z != x) ++ [x] } ∧
      t.plans = { s.plans with rejoinAt := put 0 (0x500 + x) (s.setTicks + 1) s.plans.rejoinAt }) ∧
    -- the same commands where nothing else is under way
    (s.far.waiting = [] →
      (∀ q p l rest, s.path.asks = [q] → q.side.port = .tile p → q.stage = .accepted → q.op = .read → s.cache.fills = (q.id, some l) :: rest →
        rulePolicy q.rule = 0 → l.2.testBit 11 = false → l.2.testBit 9 = q.sealed →
        Gives .cacheMissFill s fun t => t.ends q.id (St.ok, some l.1) ∧ t.cache.fills = rest) ∧
      (∀ k w a, s.path.asks = [] → s.cache.ways = [(k, some w)] → w.kind = .dirty → w.writing = false → a = 128 * w.line →
        s.cached a = some (k, w) → adNode a = s.me → unmapped a s = false → s.reachable a = true →
        s.elapsed w.modified (s.ob 0x2500 5 * 1000 * nsT) = true → Gives .writebackAgeExpiry s fun t =>
          t.way k = some { w with writing := true } ∧
          ∃ q, t.path.asks = [q] ∧ q.addr = a ∧ q.op = .put w.data (s.writeInfo a) ∧ q.why = .writeBack w.line ∧ q.stage = .offered) ∧
      (∀ q d i o k w, s.path.asks = [q] → s.endedBack x = some q → q.op = .put d i → q.result = some (0, o) → s.cache.reds = [] →
        s.cache.allocs = [] → s.cached q.addr = some (k, w) → w.data = d → Gives (.writeBackAccepted x) s fun t =>
          (t.way k).map CWay.kind = some .clean) ∧
      (s.path.asks = [] → s.sliceState x = 1 → s.cache.ways = [] → ∀ b, Gives (.sliceTakenOver x b) s fun t =>
        t.sliceState x = (if b then 3 else 2)) ∧
      (s.path.asks = [] → s.recovering = false → s.sliceState x = 0 → s.sliceState (partnerOf x) = 0 → Gives (.sliceFault x) s fun t =>
        t.sliceState x = 1))

/-- R220, R225, R228 to R230, R232 to R235, R237, R238, R269: what the open path does in time. Offers past their hold complete RETRY_LATER, unless
an entry is free for them; a free entry goes to the request chosen, the reserve of entries to tiers A and B alone; a completion is delivered in order with its status; a partition's window restarts with its budget and its
carry; the panic input, stuck and released levels, a degradation step that ends, and state that failed its check, are settled and reported. -/
def Obligations.QualityOfService : Prop :=
  ∀ (s : State) (p c n : Nat), s.Inv → p < 8 → c < s.channels →
    (s.path.asks.filter s.holdOver = [] → exec .offerHoldExpiry s = .next (serveAll (serveAll s))) ∧
    (∀ q t, s.path.asks.filter s.holdOver = [q] →
      t = (if farAddr q.addr = true then serveAll s else grantAll (s.queueOf q).1 (s.queueOf q).2 (serveAll s)) →
      ((∀ b, t.ask? q.id = some b → b.stage = .offered → exec .offerHoldExpiry s = .next (serveAll (expireAsk b t))) ∧
        ((∀ b, t.ask? q.id = some b → b.stage ≠ .offered) → exec .offerHoldExpiry s = .next (serveAll t)))) ∧
    (∀ w, s.chosen c w = none → exec (.queueEntryGrant c w) s = .next (syncWfq c w s)) ∧
    (∀ w q u t, s.chosen c w = some q → u = syncWfq c w s → t = grantEntry q w u →
      (t.freeEntries c w < u.freeEntries c w → exec (.queueEntryGrant c w) s = .next (serveAll (syncWfq c w
        (t.setWfq c w ((t.wfqOf c w).granted q.side.cls ((t.eligibles c w).any fun b => b.side.cls == q.side.cls) (t.cost q.side.cls)))))) ∧
      (u.freeEntries c w ≤ t.freeEntries c w → exec (.queueEntryGrant c w) s = .next (serveAll (syncWfq c w t)))) ∧
    (∀ w q, q ∈ s.candidates c w → 0 < s.freeEntries c w ∧ s.eligible c w q = true ∧
      (q.tier ≤ 1 ∨ s.ob 0x3000 (if w then 3 else 2) < s.freeEntries c w)) ∧
    (∀ w, s.channels ≤ n → exec (.queueEntryGrant n w) s = .fault .absentUnit) ∧
    (∀ port q st d, portPresent port s = true → s.portTakes port = true → s.deliverable port = some q → q.result = some (st, d) → q.due = 0 →
      Gives (.completionDelivery port) s fun t => t.out = s.out ++ [.completion port q.side.stream q.side.seq
        (match port with | .tile _ => q.side.core | _ => 0) st d]) ∧
    (∀ port, portPresent port s = true → s.portTakes port = false → exec (.completionDelivery port) s = .next s) ∧
    (n < 64 → s.windowDue n = true → Gives (.regulatorWindowStart n) s fun t => t.ob (regIdx n) 5 = 0 ∧
      t.ob (regIdx n) 6 = s.ob (regIdx n) 1 + (if (s.regWindow n).running
        then min (s.ob (regIdx n) 4) (s.ob (regIdx n) 1 - s.ob (regIdx n) 5) else 0) ∧
      t.path.regs = put ⟨0, false, false⟩ n
        ⟨if (s.regWindow n).running then (s.regWindow n).start + s.ob (regIdx n) 2 else (s.regWindow n).start, true, false⟩ s.path.regs) ∧
    (n < 64 → s.windowDue n = false → exec (.regulatorWindowStart n) s = .next s) ∧
    (∀ l, l < 4 → s.ob (rtIdx p) 4 ≠ 2 → s.panicFree (s.panicState p) = true → (l ≠ s.ob (rtIdx p) 3 ∨ l ≠ (s.panicState p).level) →
      Gives (.panicInputTaken p l) s fun t =>
      t.ob (rtIdx p) 3 = l ∧ t.ob (rtIdx p) 4 = (if l = 0 then 0 else 1) ∧ t.out = s.out) ∧
    (∀ l, s.panicFree (s.panicState p) = false → exec (.panicInputTaken p l) s = .next s) ∧
    (∀ l, l < 4 → s.ob (rtIdx p) 4 = 2 → s.panicFree (s.panicState p) = true → Gives (.panicInputTaken p l) s fun t => t.ob (rtIdx p) 3 = l ∧ t.ob (rtIdx p) 4 = 2) ∧
    (s.ob (rtIdx p) 4 ≠ 2 → s.panicIn p ≠ 0 → s.elapsed (s.panicState p).since (s.ob 0x3000 4 * 1000 * nsT) = true →
      Gives (.panicStuck p) s fun t => t.ob (rtIdx p) 4 = 2 ∧ t.panicIn p = 0) ∧
    (s.panicIn p = 0 → exec (.panicStuck p) s = .next s) ∧
    (s.ob (rtIdx p) 4 = 2 → s.ob (rtIdx p) 3 = 0 → s.elapsed (s.panicState p).zeroSince (1000 * nsT) = true →
      Gives (.panicReleased p) s fun t => t.ob (rtIdx p) 4 = 0) ∧
    (s.ob (rtIdx p) 4 ≠ 2 → exec (.panicReleased p) s = .next s) ∧
    (1 ≤ n → n ≤ 5 → (s.ob 0x3000 6).testBit (n - 1) = true → look 0 n s.path.degrade + 64 ≤ s.frame →
      Gives (.degradeStepEnd n) s fun t => t.ob 0x3000 6 = setBit (n - 1) false (s.ob 0x3000 6)) ∧
    (1 ≤ n → n ≤ 5 → (s.ob 0x3000 6).testBit (n - 1) = false → exec (.degradeStepEnd n) s = .next s) ∧
    ((n = 0 ∨ 5 < n) → exec (.degradeStepEnd n) s = .fault .absentUnit) ∧
    (∀ k, k < 4 → Gives (.qosStateFault k n) s fun t => t.ob 0x3000 0x0D = (s.ob 0x3000 0x0D + 1) % 2 ^ objWidth (objKey 0x3000 0x0D) ∧
      (k = 0 → t.path.meters = s.path.meters.filter fun m => m.1 != n) ∧ (k = 3 → t.path.wfq = put Wfq.reset n .reset s.path.wfq)) ∧
    -- a single request of a tile: its entry, and the end of its hold
    (∀ q t, s.far.waiting = [] → s.path.asks = [q] → q.side.port = .tile t → q.stage = .offered → s.redOn q.addr = none →
      s.cached q.addr = none →
      (s.chosen c false = some q → q.op = .read → q.tides = s.path.tides → s.entryFree q = true → Gives (.queueEntryGrant c false) s fun u =>
        u.accepts q.id ∧ ∃ e, (u.chan c).rq = (s.chan c).rq ++ [e] ∧ e.who = .ask q.id ∧ e.addr = lineOf q.addr) ∧
      (∀ m d, s.chosen c true = some q → q.op = .write m d → q.tides = s.path.tides → s.entryFree q = true →
        Gives (.queueEntryGrant c true) s fun u => (u.ask? q.id).map (·.journal) = some true ∧
          ∃ e ∈ (u.chan c).wq, e.who = .ask q.id ∧ e.addr = lineOf q.addr ∧ e.mask = m) ∧
      (s.holdOver q = true → q.op = .read → farAddr q.addr = false → s.candidates (s.place q.addr).c false = [] →
        Gives .offerHoldExpiry s fun u => u.ends q.id (St.retry, none)))

/-! ### What comes back, repair and recovery (chapters 7, 9 and 20) -/

/-- R246 to R250, R254 to R257, R265, R523, R524: what comes back to a channel. The oldest due read of the kind is taken from flight: a line that
passes its check reaches its reader, any other begins recovery; a re-read settles its record; a confirmed write may be retired, and a confirmed
heal is reported; an alert is acted on as its command asks, and read beats that stay away fail their read; aged tracker entries are freed. -/
def Obligations.ReadsAndWritesReturn : Prop :=
  ∀ (s : State) (c : Nat), c < s.channels →
    (∀ f, s.flightDue c (fun w => !isFill w && !isReread w) = some f → ∀ id, f.entry.who = .ask id →
      (∀ l, f.line = some l → exec (.readReturn c) s =
        .next (pump (deliverLine c f.entry.addr (.ask id) f.queued l (dropFlight c f s)))) ∧
      (f.line = none → exec (.readReturn c) s = .next (pump (failedRead c f (dropFlight c f s))))) ∧
    (∀ f k bs, s.flightDue c (fun w => !isFill w && !isReread w) = some f → f.entry.who = .temp k → f.bytes = some bs →
      exec (.readReturn c) s = .next (pump (tempBlock (sheafOf c) k bs (dropFlight c f s)))) ∧
    (s.flightDue c (fun w => !isFill w && !isReread w) = none → exec (.readReturn c) s = .next s) ∧
    (∀ f, s.flightDue c isFill = some f → ∀ wid, f.entry.who = .fill wid →
      (∀ l, f.line = some l → exec (.fillReadReturn c) s =
        .next (pump (deliverLine c f.entry.addr (.fill wid) f.queued l (dropFlight c f s)))) ∧
      (f.line = none → exec (.fillReadReturn c) s = .next (pump (failedRead c f (dropFlight c f s))))) ∧
    (∀ f, s.flightDue c isReread = some f → ∀ num r, f.entry.who = .reread num → ((dropFlight c f s).chan c).rec? num = some r →
      (∀ l, f.line = some l → exec (.rereadReturn c) s = .next (pump (rereadPassed c r l (dropFlight c f s)))) ∧
      (f.line = none → exec (.rereadReturn c) s = .next (pump (rereadFailed c r (dropFlight c f s))))) ∧
    (s.flightDue c isReread = none → exec (.rereadReturn c) s = .next s) ∧
    (∀ w, (s.chanState c = 1 ∨ s.chanState c = 2) → s.flightDue c w = none) ∧
    (exec (.recoveryRecordFreed c) s = .next (pump (takeWaiting c (placeRecovery c s)))) ∧
    (∀ x, (s.far.restored.find? fun x => x.c == c) = some x → exec (.restoreReadDone c) s =
      .next (pump (restoreEnded x (s.setFar { s.far with restored := s.far.restored.erase x })))) ∧
    ((∀ x ∈ s.far.restored, x.c ≠ c) → exec (.restoreReadDone c) s = .next s) ∧
    (∀ u id q, (∀ p ∈ s.path.chans, p.2.move = none) → s.confirmable c (fun w => !isHeal w) = some u → u.entry.who = .ask id →
      s.ask? id = some q → q.isDrain = false → exec (.writeConfirm c) s = .next (pump (retire id
        ((s.modChan c fun x => { x with unconf := x.unconf.erase u }).modAsk id fun q => { q with confirmed := true })))) ∧
    ((∀ p ∈ s.path.chans, p.2.move = none) → s.confirmable c (fun w => !isHeal w) = none → exec (.writeConfirm c) s = .next s) ∧
    (∀ u, s.confirmable c isHeal = some u → exec (.healWriteConfirmed c) s = .next (pump (healConfirmed c u s))) ∧
    (s.confirmable c isHeal = none → exec (.healWriteConfirmed c) s = .next s) ∧
    (∀ back i, 28 ≤ back → back ≤ 31 → ((s.chan c).issued.find? fun i => i.ck + back == s.ck) = some i →
      exec (.alertSampled c back) s = .next (pump (alerted c i s))) ∧
    (∀ back, (back < 28 ∨ 31 < back) → exec (.alertSampled c back) s = .next s) ∧
    (∀ f rest, (s.chan c).flights = f :: rest → (∀ k, f.entry.who ≠ .temp k) →
      exec (.missingDataBeats c) s = .next (failFlight c f.entry.order (s.bump (0x3800 + stackOf c) 7))) ∧
    ((s.chan c).flights = [] → exec (.missingDataBeats c) s = .next s) ∧
    ((s.chan c).weak = [] → exec (.trackerAgeExpiry c) s = .next s) ∧
    (∀ n w, n < 64 → (s.chan c).weak = [(n, some w)] → 1440 ≤ w.age s.setTicks → Gives (.trackerAgeExpiry c) s fun t =>
      (t.chan c).weak = []) ∧
    ((s.chan c).lapSlow = false → (s.gleanNext c).isSome → s.elapsed (s.chan c).lapStart (s.ob 0xA000 2 * msT) = true →
      exec (.gleanerSlow c) s = .next (raise Ev.gleanerSlow c 0 (s.modChan c fun x => { x with lapSlow := true }))) ∧
    ((s.chan c).lapSlow = true → exec (.gleanerSlow c) s = .next s) ∧
    -- the same commands where at most one request of a tile is under way, and no row moves
    (s.still = true → (∀ p ∈ s.path.chans, p.2.move = none) →
      (∀ q p f l, s.path.asks = [q] → q.side.port = .tile p → q.stage = .accepted → q.op = .read →
        s.flightDue c (fun w => !isFill w && !isReread w) = some f → f.entry.who = .ask q.id → f.line = some l → lineBad l = false →
        l.2.testBit 9 = q.sealed → Gives (.readReturn c) s fun t => (t.chan c).flights = (s.chan c).flights.erase f ∧
          (s.cacheable q = true → (q.id, some (s.openAsk q l)) ∈ t.cache.fills) ∧
          (s.cacheable q = false → q.uncached = false → t.ends q.id (St.ok, some (s.openAsk q l).1))) ∧
      (s.path.asks = [] →
        (∀ f wid w l, s.flightDue c isFill = some f → f.entry.who = .fill wid → f.line = some l → lineBad l = false →
          (s.chan c).wq.find? (fun w => w.wid == wid) = some w → Gives (.fillReadReturn c) s fun t =>
            (t.chan c).flights = (s.chan c).flights.erase f ∧ ∃ v ∈ (t.chan c).wq, v.wid = wid ∧ v.mask = fullMask ∧ v.partial_ = false) ∧
        (∀ f num r l, s.flightDue c isReread = some f → f.entry.who = .reread num → (s.chan c).rec? num = some r → f.line = some l →
          Gives (.rereadReturn c) s fun t => (t.chan c).flights = (s.chan c).flights.erase f ∧
            t.ob 0xA001 1 = (s.ob 0xA001 1 + 1) % 2 ^ objWidth (objKey 0xA001 1)) ∧
        (∀ u, s.confirmable c isHeal = some u → Gives (.healWriteConfirmed c) s fun t =>
          (t.chan c).unconf = (s.chan c).unconf.erase u ∧ t.ob 0xA001 7 = (s.ob 0xA001 7 + 1) % 2 ^ objWidth (objKey 0xA001 7)) ∧
        (∀ l b n g i back, 28 ≤ back → back ≤ 31 → ((s.chan c).issued.find? fun i => i.ck + back == s.ck) = some i → i.cmd = .rd l b n g →
          (s.chan c).alerts = [] → Gives (.alertSampled c back) s fun t => (t.chan c).alerts = [(i.cmd, 1)] ∧
            (t.chan c).issued = (s.chan c).issued.erase i) ∧
        (∀ x r l, s.far.restored = [x] → x.c = c → x.line = some l → lineBad l = false → (s.chan c).rec? x.num = some r → r.readers = [] →
          Gives (.restoreReadDone c) s fun t => t.far.restored = [] ∧ t.ob 0xA001 2 = (s.ob 0xA001 2 + 1) % 2 ^ objWidth (objKey 0xA001 2))) ∧
      (∀ q p u, s.path.asks = [q] → q.side.port = .tile p → q.delivered = false → q.stage = .finished →
        s.confirmable c (fun w => !isHeal w) = some u → u.entry.who = .ask q.id → Gives (.writeConfirm c) s fun t =>
          (t.chan c).unconf = (s.chan c).unconf.erase u ∧ (t.ask? q.id).map Ask.confirmed = some true)) ∧
    (∀ x r l, s.path.chans = [(c, x)] → x.move = none → x.recWait = [] → x.recs = [r] → r.loc.c = c → r.step = .write → r.line = some l → r.heal = false →
      r.superseded = false → s.urgentRoom c = true → s.far.waiting = [] → s.power.halting = false → s.path.asks = [] →
      Gives (.recoveryRecordFreed c) s fun t => (t.chan c).recs = [] ∧ ∃ e ∈ (t.chan c).urgent, e.addr = lineOf r.addr ∧ e.data = l.1 ∧ e.info = l.2)

/-- R258 to R263, R266, R267, R272, R274: row moves, spares and the journal. A queued repair reads its row into the move buffer once the channel
can; a full buffer goes on to its writes, and a soft repair whose writes are confirmed maps its row and is counted; RECONSTITUTE and COPY_BACK begin where they may and
end in a spare or channel ready to join; one faulty copy of the journal goes out of service, a fault of the other halts the node, and a rebuild
puts both back. -/
def Obligations.RepairAndRecovery : Prop :=
  ∀ (s : State) (c : Nat) (r : Req), s.Inv → c < s.channels →
    ((s.chan c).moves = [] → exec (.rowMoveStart c) s = .next s) ∧
    (∀ layer bank row rest, (s.chan c).move = none → (s.chan c).moves = (layer, bank, row, false) :: rest → s.stewardUp = true →
      s.slotRuns c = true → (s.chan c).bare layer bank row = false → (s.chan c).rowDepth layer bank row < 2 →
      look 0 (bankIx layer bank) (s.chan c).spares < 8 → (s.chan c).rq.length + 8 ≤ rqSize → Gives (.rowMoveStart c) s fun t =>
        (t.chan c).moves = rest ∧
        (t.chan c).move = some { layer := layer, bank := bank, row := row, retire := false
                                 spare := look 0 (bankIx layer bank) (s.chan c).spares, target := none
                                 buffer := List.replicate 8 none, stage := 0, written := [], displaced := false, waiting := [] }) ∧
    (rqSize < (s.chan c).rq.length + 8 → (s.chan c).move = none → exec (.rowMoveStart c) s = .next s) ∧
    ((s.chan c).move = none → exec (.rowMoveBufferComplete c) s = .next (pumpMoves s) ∧ finishMove c s = s) ∧
    -- what waits is placed, and a move whose last write is confirmed is over
    (exec (.rowMoveConfirmed c) s = .next (pumpMoves (finishMove c (pumpMoves s)))) ∧
    (∀ m, (s.chan c).move = some m → m.stage ≠ 3 → (m.buffer.any Option.isNone) = false → s.stewardUp = true →
      (∀ t, m.retire = true → s.retireGoal c m.layer m.bank m.row m.displaced = some t → exec (.rowMoveBufferComplete c) s =
        .next (pumpMoves (s.modChan c fun x => { x with move := some { m with stage := 3, target := some t } }))) ∧
      (m.retire = true → s.retireGoal c m.layer m.bank m.row m.displaced = none → exec (.rowMoveBufferComplete c) s =
        .next (pumpMoves (unprotect c m.layer m.bank m.row (s.modChan c fun x => { x with move := none })))) ∧
      (m.retire = false → exec (.rowMoveBufferComplete c) s = .next (pumpMoves (softRepair c m s))) ∧
      -- the commands of a soft repair: PREab of the layer, the repair register, RPR
      (s.slotRuns c = true → m.stage = 0 → s.repairSlot c m.layer m.bank = true → s.repairRow c (.preLayer m.layer) = true →
        ((softRepair c m s).chan c).move = some { m with stage := 1 }) ∧
      (s.slotRuns c = true → (∀ b, b < 16 → (s.chan c).time.row (bankIx m.layer b) = none) →
        (m.stage = 1 → s.repairRow c (.mrw m.layer 0x18 m.spare) = true → ((softRepair c m s).chan c).move = some { m with stage := 2 }) ∧
        (m.stage = 2 → s.repairCol c (.rpr m.layer m.bank m.row) = true → ((softRepair c m s).chan c).move = some { m with stage := 3 } ∧
          look 0 (bankIx m.layer m.bank) ((softRepair c m s).chan c).spares = m.spare + 1)) ∧
      (s.slotRuns c = false → softRepair c m s = s)) ∧
    (∀ m, (s.chan c).move = some m → m.stage = 3 → s.stewardUp = true → s.moveWritten c m = true → m.retire = false → m.target = none →
      (s.chan c).weak = [] → ((finishMove c s).chan c).move = none ∧
        ((finishMove c s).chan c).depth =
          put 0 (rowKey m.layer m.bank m.row) ((s.chan c).rowDepth m.layer m.bank m.row + 1) (s.chan c).depth ∧
        (finishMove c s).ob 0xA001 8 = (s.ob 0xA001 8 + 1) % 2 ^ objWidth (objKey 0xA001 8)) ∧
    (s.applies r 0xA003 1 (leBytes 2 c) = true → isSpare c = false → s.chanState c = 2 → s.chanState (spareFor c) = 4 →
      s.path.reconst = none → Gives (.reconstitute r c) s fun t => t.path.reconst = some ⟨c, spareFor c, s.now, false⟩ ∧
        t.ob 0xA003 2 = 1 ∧ t.ob 0xA003 3 = 0) ∧
    (∀ b, s.path.reconst = some b → b.spare < s.channels → s.ob 0xA003 2 = 1 → (s.chan b.spare).move = none → (s.chan b.spare).moves = [] →
      Gives .displacingDone s fun t => t.ob 0xA003 2 = 2 ∧ t.path.reconst = some { b with began := s.now } ∧ t.chanState b.spare = 3) ∧
    (s.path.reconst = none → exec .displacingDone s = .next s ∧ exec .reconstitutionDone s = .next (serveAll s)) ∧
    (∀ b, s.path.reconst = some b → s.ob 0xA003 2 = 2 → s.elapsed b.began fillTime = true → exec .reconstitutionDone s =
      .next (serveAll ((((fillSpare b s).setPath { (fillSpare b s).path with reconst := some { b with ready := true } }).setOb 0xA003 2 3).setOb
        0xA003 3 8388608))) ∧
    (∀ b, b.c < s.channels → b.spare < s.channels → b.c ≠ b.spare →
      (joinSpare b s).chanState b.spare = 5 ∧ (joinSpare b s).path.reconst = none ∧ (joinSpare b s).ob 0xA003 2 = 0) ∧
    (s.applies r 0xA003 5 (leBytes 2 c) = true → isSpare c = false → s.chanState c = 3 → s.servedBy c = spareFor c → s.path.copyBack = none →
      Gives (.copyBack r c) s fun t => t.path = { s.path with copyBack := some ⟨c, spareFor c, s.now, false⟩ } ∧ t.dram = s.dram) ∧
    (∀ b, s.path.copyBack = some b → b.ready = false → Gives .copyBackDone s fun t =>
      t.dram = (copyChannel b.spare b.c s).dram ∧ t.path = { s.path with copyBack := some { b with ready := true } }) ∧
    (s.path.copyBack = none → exec .copyBackDone s = .next s) ∧
    (s.path.journalA = true → s.path.journalB = true → s.recovering = false → ∀ b, Gives (.journalCopyFault b) s fun t =>
      t.path = { s.path with journalA := b, journalB := !b } ∧ t.ob 0xA002 3 = (if b then 2 else 1)) ∧
    (s.path.journalA = true → s.path.journalB = false →
      exec (.journalCopyFault false) s = .next (journalLost s) ∧ exec (.journalCopyFault true) s = .next s) ∧
    (Gives .journalRebuildDone s fun t => t.path = { s.path with journalA := true, journalB := true } ∧ t.ob 0xA002 3 = 0) ∧
    (s.power.node = .run → Gives .journalLost s fun t => t.power.node = .halted ∧ t.ob 0xB040 3 = Ev.journalLost) ∧
    -- the same commands where no request is under way
    (s.still = true → s.path.asks = [] → (∀ p ∈ s.path.chans, p.1 = c) →
      (∀ m, (s.chan c).move = some m → m.stage ≠ 3 → (m.buffer.any Option.isNone) = false → s.stewardUp = true → m.retire = true → ∀ t,
        s.retireGoal c m.layer m.bank m.row m.displaced = some t → Gives (.rowMoveBufferComplete c) s fun u =>
          ∃ v, (u.chan c).move = some v ∧ v.stage = 3 ∧ v.target = some t ∧ v.row = m.row) ∧
      (∀ m, (s.chan c).move = some m → m.stage = 3 → s.stewardUp = true → s.moveWritten c m = true → m.retire = false → m.target = none →
        (∀ i, i < 8 → i ∈ m.written) → (s.chan c).weak = [] → Gives (.rowMoveConfirmed c) s fun t => (t.chan c).move = none ∧
          (t.chan c).depth = put 0 (rowKey m.layer m.bank m.row) ((s.chan c).rowDepth m.layer m.bank m.row + 1) (s.chan c).depth)) ∧
    (∀ b, s.path.asks = [] → s.far.waiting = [] → s.path.reconst = some b → s.ob 0xA003 2 = 2 → s.elapsed b.began fillTime = true →
      Gives .reconstitutionDone s fun t => t.ob 0xA003 2 = 3 ∧ t.ob 0xA003 3 = 8388608 ∧ t.path.reconst = some { b with ready := true })

/-! ### Heat (chapter 10) -/

/-- R278 to R282, R289, R295: readings and what they bring. A logic-side reading within the range is the sensor's value from then on, and one
outside it breaks the sensor; a sensor without a reading for too long is broken; masks are refused beyond their limits, and otherwise
gathered for NVM; the comparators halt a stack at 105 °C and trip at 110 °C; a halted stack's spare channels go on reading; the flag of a
layer in self-refresh is a reading of 110 °C, and in REST and DEEP it trips. -/
def Obligations.ThermalReadings : Prop :=
  ∀ (s : State) (st n m c layer : Nat) (codes : List Nat) (r : Req), s.Inv → st < s.cfg.nstacks → n < 144 → m < 16 → c < s.channels →
    (s.comparing = false → exec (.logicSensorRead codes) s = .next s) ∧
    ((s.sensor (logicKey 0)).at_ ≠ 0 → s.elapsed (s.sensor (logicKey 0)).at_ (10 * usTicks) = false →
      exec (.logicSensorRead codes) s = .next s) ∧
    (∀ code, s.comparing = true → (s.sensor (logicKey 0)).at_ = 0 → codes.length = 16 → codes[m]? = some code →
      code < 2 ^ 16 → code ≠ 0x8000 → Gives (.logicSensorRead codes) s fun t =>
        ((-160 ≤ signed 16 code ∧ signed 16 code ≤ 511) → (t.sensor (logicKey m)).value = signed 16 code ∧
          (t.sensor (logicKey m)).has = true ∧ (t.sensor (logicKey m)).at_ = s.now) ∧
        ((signed 16 code < -160 ∨ 511 < signed 16 code) → (t.sensor (logicKey m)).broken = true)) ∧
    (s.comparing = true → s.power.node ≠ .halted →
      (s.elapsed (max (s.sensor (sensorKey st n)).at_ s.power.resetAt) (s.readLimit st) = true →
        Gives (.sensorNoReading st n) s fun t => (t.sensor (sensorKey st n)).broken = true) ∧
      (s.elapsed (max (s.sensor (sensorKey st n)).at_ s.power.resetAt) (s.readLimit st) = false →
        exec (.sensorNoReading st n) s = .next s) ∧
      (s.elapsed (max (s.sensor (logicKey m)).at_ s.power.resetAt) (s.readLimit 255) = true →
        Gives (.sensorNoReading 255 m) s fun t => (t.sensor (logicKey m)).broken = true)) ∧
    (exec (.sensorNoReading 4 n) s = .fault .absentUnit ∧ exec (.sensorNoReading st 144) s = .fault .absentUnit) ∧
    (∀ mask, mask < 2 ^ 16 → s.applies r 0x9018 2 (leBytes 2 mask) = true →
      (4 < (logicNumbers.filter mask.testBit).length → exec (.sensorExclude r true st n mask) s = .next (answer r St.denied 9 (s.begun r))) ∧
      ((logicNumbers.filter mask.testBit).length ≤ 4 → s.reduced = false → s.nvm.usable = true →
        Gives (.sensorExclude r true st n mask) s fun t => t.nvm.gather = s.nvm.gather ++ [⟨0x9018, 2, mask, .req r⟩])) ∧
    (∀ mask part, mask < 2 ^ 64 → part < 3 → s.applies r (0x9014 + st) (part + 1) (leBytes 8 mask) = true →
      let after (k : Nat) : Bool := (if k / 64 = part then mask else s.comingValue (0x9014 + st) (k / 64 + 1)).testBit (k % 64)
      (excludeDepends after = true ∨ 16 < ((List.range 144).filter after).length →
        exec (.sensorExclude r false st part mask) s = .next (answer r St.denied 9 (s.begun r))) ∧
      (excludeDepends after = false → ((List.range 144).filter after).length ≤ 16 → s.reduced = false → s.nvm.usable = true →
        Gives (.sensorExclude r false st part mask) s fun t =>
          t.nvm.gather = s.nvm.gather ++ [⟨0x9014 + st, part + 1, mask, .req r⟩])) ∧
    (∀ x, s.comparing = true → s.tripCause = some x → s.heat.tripped = false →
      exec .hardwareComparator s = .next (serveAll (trip x s)) ∧ (trip x s).pins.trip = true ∧ (trip x s).heat.tripped = true ∧
      (trip x s).heat.recordDue = true) ∧
    (s.comparing = true → s.tripCause = none → (∀ u t, u < s.cfg.nstacks → s.level u < 4 → s.stackTemp u = some t → t < 420) →
      (s.plans.begun = true → exec .hardwareComparator s = .next (serveAll (tripStep s))) ∧
      (s.plans.begun = false → s.heat.tripAt = 0 → s.power.node ≠ .halted → exec .hardwareComparator s = .next (serveAll (ladderStep s)))) ∧
    (∀ t, s.comparing = true → s.plans.begun = true → s.tripCause = none → s.level st < 4 → s.stackTemp st = some t → 420 ≤ t →
      exec .hardwareComparator s = .next (serveAll (tripStep (comparators s))) ∧ (comparators s).level st = 4 ∧
      (∀ k, k < 72 → s.chanState (72 * st + k) ≠ 2 → (s.dch (72 * st + k)).selfRef = none →
        ((comparators s).chan (72 * st + k)).draining = some (2, 0xFFFF))) ∧
    (s.heat.tripAt ≠ 0 → s.elapsed (s.heat.tripAt - 1) (2 * usTicks) = true →
      tripStep s = enterHalted Ev.thermalTrip false { s with heat := { s.heat with tripAt := 0 } }) ∧
    (s.halted st = false → exec (.haltedSensorCheck st) s = .next s) ∧
    (s.halted st = true → s.stewardUp = true →
      (s.elapsed (look 0 st s.heat.checkedAt) msT = true → exec (.haltedSensorCheck st) s = .next
        (forEach (List.range 8) (fun w t => readHalted (8 * st + w) true t)
          { s with heat := { s.heat with checkedAt := put 0 st s.now s.heat.checkedAt } })) ∧
      (s.elapsed (look 0 st s.heat.checkedAt) msT = false → exec (.haltedSensorCheck st) s = .next
        (forEach (List.range 8) (fun w t => readHalted (8 * st + w) false t) s))) ∧
    (∀ u, let k := 9 * u + 8
      (s.chanState k ≠ 6 → ∀ due, readHalted u due s = s) ∧
      (s.chanState k = 6 → (s.dch k).selfRef.isSome = true → readHalted u false s = s ∧
        (s.srxAllowed k = true → readHalted u true s = exitSrx k s)) ∧
      (s.chanState k = 6 → (s.dch k).selfRef = none → (s.chan k).draining = none →
        within (rowCk (s.slotOf k)) 240 (s.chan k).time.srx = false → ∀ due, readHalted u due s =
          drainChannel k 2 0xFFFF (readSheaf u k (raise Ev.selfRefreshExit k 0 s)))) ∧
    ((s.dch c).selfRef = none → exec (.thermalFlagAlert c layer) s = .next s) ∧
    ((isSpare c = true ∧ (s.dch c).selfRef.isSome = true ∧ (s.die (stackOf c) layer).flag = true ∧ layer < 16 ∧
        layer % 8 = sheafOf c % 8) →
      ((s.power.node = .rest ∨ s.power.node = .deep) → exec (.thermalFlagAlert c layer) s =
        .next (trip ⟨1, stackOf c, 9 * layer + 8, 440⟩ (s.bump (0x3800 + stackOf c) 0x0B))) ∧
      (s.power.node = .run → s.halted (stackOf c) = true → Gives (.thermalFlagAlert c layer) s fun t =>
        (t.sensor (sensorKey (stackOf c) (9 * layer + 8))).value = 440 ∧ (t.sensor (sensorKey (stackOf c) (9 * layer + 8))).at_ = s.now))

/-- R281, R283 to R285, R287, R290, R293, R294: the ladder, the handshake, grace, and what a trip leaves. A level is entered at its threshold
and left 3 °C below it; a rise of sv_heat_throttle is a request that one toggle acknowledges, at most one in 10 µs; a request unanswered for 100 µs ends grace and
derates; grace ends at its time and is armed again after 100 ms cool; a halted stack below 102 °C resumes at a frame boundary; the record of a trip is written
once NVM can take it, begins a cooled restart, and is cleared by its owner. -/
def Obligations.ThrottleGraceAndRecord : Prop :=
  ∀ (s : State) (st : Nat) (r : Req), s.Inv → st < s.cfg.nstacks →
    (∀ cur t, (440 ≤ t → levelFor cur t = 5) ∧ (t < 328 → levelFor cur t = 0) ∧
      (340 ≤ t → t < 368 → levelFor cur t = 1) ∧ (400 ≤ t → t < 408 → levelFor cur t = 3) ∧
      (420 ≤ t → t < 428 → levelFor cur t = 4) ∧ (408 ≤ t → t < 420 → levelFor cur t = if 4 ≤ cur then 4 else 3)) ∧
    (∀ new, 2 ≤ new → new ≤ 4 → new ≠ s.level st → (takeLevel st new s).level st = new ∧
      look 0 st (takeLevel st new s).pins.heat = new - 1 ∧
      (takeLevel st new s).heat.requests = if look 0 st s.pins.heat < new - 1 then s.heat.requests ++ [s.now] else s.heat.requests) ∧
    ((s.pins.throttleAck.ever = false ∨ s.elapsed s.pins.throttleAck.at_ (10 * usTicks) = true) →
      s.heat.requests = [] → s.heat.unanswered = false → exec .throttleAckToggle s = .next
      (({ s with pins := { s.pins with throttleAck := ⟨1 - s.pins.throttleAck.value % 2, s.now, true⟩ } } : State).bump 0x9021 2)) ∧
    ((s.pins.throttleAck.ever = false ∨ s.elapsed s.pins.throttleAck.at_ (10 * usTicks) = true) →
      (s.heat.requests ≠ [] ∨ s.heat.unanswered = true) → exec .throttleAckToggle s = .next { s with
      pins := { s.pins with throttleAck := ⟨1 - s.pins.throttleAck.value % 2, s.now, true⟩ }
      heat := { s.heat with requests := [], unanswered := false } }) ∧
    (s.pins.throttleAck.ever = true → s.elapsed s.pins.throttleAck.at_ (10 * usTicks) = false → exec .throttleAckToggle s = .next s) ∧
    ((∀ t ∈ s.heat.requests, s.elapsed t (100 * usTicks) = false) → exec .throttleAckMissing s = .next s) ∧
    (∀ t, t ∈ s.heat.requests → s.elapsed t (100 * usTicks) = true → Gives .throttleAckMissing s fun u =>
      u.heat.unanswered = true ∧ u.heat.requests = s.heat.requests.filter (fun t => !s.elapsed t (100 * usTicks)) ∧
      (2 ≤ s.level st → u.ob (stackIdx st) 4 = 0 ∧ u.derated 2 = true)) ∧
    (look 0 st s.heat.grace ≠ 0 → look 0 st s.heat.grace ≤ s.now + 1 →
      exec (.graceExpired st) s = .next (raise Ev.graceExpired st 0 (endGrace st s))) ∧
    (s.now + 1 < look 0 st s.heat.grace ∨ look 0 st s.heat.grace = 0 → exec (.graceExpired st) s = .next s) ∧
    (s.ob (stackIdx st) 5 = 0 → look 0 st s.heat.coolSince ≠ 0 →
      (s.elapsed (look 0 st s.heat.coolSince - 1) (100 * msT) = true → exec (.graceRearm st) s = .next (s.setOb (stackIdx st) 5 1)) ∧
      (s.elapsed (look 0 st s.heat.coolSince - 1) (100 * msT) = false → exec (.graceRearm st) s = .next s)) ∧
    (∀ t, s.stackTemp st = some t → s.level st = 4 → s.stewardUp = true → s.heat.tripped = false → s.power.node ≠ .halted →
      (s.atBoundary = false → exec (.trafficResumed st) s = .next (serveAll s)) ∧
      (s.atBoundary = true → t < 408 → exec (.trafficResumed st) s = .next (serveAll (resumeTraffic st s)) ∧
        (resumeTraffic st s).level st = min 3 (levelFor 3 t)) ∧
      (408 ≤ t → exec (.trafficResumed st) s = .next (serveAll s))) ∧
    (s.heat.recordDue = true → s.canRecord 3 = true → Gives .shutdownRecordWritten s fun t =>
      t.nvm.shutdown = s.heat.trip ∧ t.ob 0x9020 3 = (s.ob 0x9020 3 + 1) % 2 ^ 32 ∧ t.ob 0x9020 1 = leNat s.heat.trip ∧
      t.heat = { s.heat with recordDue := false } ∧ t.power = s.power) ∧
    (s.heat.recordDue = false ∨ s.canRecord 3 = false → exec .shutdownRecordWritten s = .next s) ∧
    (s.power.node = .config → s.nvm.shutdown ≠ [] → s.heat.cooled = false → s.heat.coolFrom ≠ 0 →
      (s.elapsed (s.heat.coolFrom - 1) secT = true → exec .cooledRestart s =
        .next (raiseNode Ev.cooledRestart 0 { s with heat := { s.heat with cooled := true } })) ∧
      (s.elapsed (s.heat.coolFrom - 1) secT = false → exec .cooledRestart s = .next s)) ∧
    (s.power.node ≠ .config → exec .cooledRestart s = .next s) ∧
    (s.applies r 0x9020 2 [1] = true → exec (.shutdownClear r) s = .next
      (answer r St.ok 0 (({ s.begun r with nvm := { s.nvm with shutdown := [] } } : State).setOb 0x9020 1 0))) ∧
    (∀ u, s.cfg.nstacks ≤ u → exec (.graceExpired u) s = .fault .absentUnit ∧ exec (.trafficResumed u) s = .fault .absentUnit)

/-! ### Training (chapter 11) -/

/-- R303 to R306, R310, R311, R313, R314: training of a channel. It ends in service when its settings are found in 500 ms, and the channel is
UNREACHABLE when none work or its second attempt times out; restored training ends in service on a valid record, and gives way to full
training otherwise; a channel declared failed is trained again on request. -/
def Obligations.TrainingAtStart : Prop :=
  ∀ (s : State) (c : Nat) (words : List Nat) (lanes ca bad : Nat) (r : Req), s.Inv → c < s.channels →
    (s.ob (chanIdx c) 0x40 = 2 → (s.tr c).began ≠ 0 →
      (s.elapsed (s.tr c).began (500 * msT) = false → ∀ mask u, mask = (bad ||| bad / 2 ^ 18 ||| (s.tr c).lost) % 2 ^ 18 →
        u = forEach ((List.range 18).filter fun g => (bad / 2 ^ 18).testBit g) (fun _ => calibrationBad c) s →
        (∀ width spare, fallback mask = some (width, spare) →
          ∃ t, exec (.fullTrainingDone c words lanes ca bad true) s = .next (serveAll t) ∧ t.ob (chanIdx c) 0x40 = 3 ∧
            t.ob (chanIdx c) 0x41 = 2 ∧ t.ob (chanIdx c) 0x43 = mask ∧
            t.ob (chanIdx c) 0x42 = spare.getD 0xFF ∧ t.ob (chanIdx c) 3 = (if width = 0 then 0 else 1) ∧
            t.ob (chanIdx c) 0x62 = clampLanes lanes ∧ t.ob (chanIdx c) 0x63 = clampCa ca ∧ c ∈ t.nvm.trainDue) ∧
        (fallback mask = none → exec (.fullTrainingDone c words lanes ca bad true) s = .next (serveAll (lostFor c mask u))) ∧
        exec (.fullTrainingDone c words lanes ca bad false) s = .next (serveAll (lostFor c mask u)) ∧
        exec (.trainingTimeout c) s = .next (serveAll s)) ∧
      (s.elapsed (s.tr c).began (500 * msT) = true →
        exec (.fullTrainingDone c words lanes ca bad true) s = .next (serveAll s) ∧
        ((s.tr c).timeouts = 0 → exec (.trainingTimeout c) s =
          .next (serveAll (beginTraining c true ((calibrationBad c s).modTr c fun t => { t with timeouts := 1 })))) ∧
        ((s.tr c).timeouts ≠ 0 → exec (.trainingTimeout c) s = .next (serveAll (untrainable c (calibrationBad c s))))) ∧
      (untrainable c s).ob (chanIdx c) 0x40 = 4 ∧ (untrainable c s).chanState c = 2 ∧ (∀ m, c ∈ (lostFor c m s).nvm.trainDue)) ∧
    (s.ob (chanIdx c) 0x40 ≠ 2 → exec (.fullTrainingDone c words lanes ca bad true) s = .next (serveAll s) ∧
      exec (.trainingTimeout c) s = .next (serveAll s)) ∧
    (fallback 0 = some (0, none) ∧ (∀ g, g < 17 → fallback (2 ^ g) = some (0, some g)) ∧ fallback (2 ^ 17) = some (0, none) ∧
      fallback (2 ^ 8 + 2 ^ 9) = some (1, none) ∧ fallback (2 ^ 0 + 2 ^ 1) = some (2, none) ∧ fallback (2 ^ 18 - 1) = none) ∧
    (s.ob (chanIdx c) 0x40 = 1 →
      (recordValid c (s.record c) s = true → exec (.restoredTrainingDone c true) s =
        .next (serveAll (trained c 1 (applyRecord c (s.record c) s)))) ∧
      (recordValid c (s.record c) s = false → exec (.restoredTrainingDone c true) s =
        .next (serveAll (wantFull c (raise Ev.restoreRejected c 0 (calibrationBad c s))))) ∧
      exec (.restoredTrainingDone c false) s =
        .next (serveAll (wantFull c (raise Ev.restoreRejected c 0 (calibrationBad c s))))) ∧
    (s.ob (chanIdx c) 0x40 ≠ 1 → ∀ ok, exec (.restoredTrainingDone c ok) s = .next (serveAll s)) ∧
    ((∀ st, st < s.cfg.nstacks → st ≠ stackOf c → s.trainingFull st = false) → (wantFull c s).ob (chanIdx c) 0x40 = 2) ∧
    (∀ st, st < s.cfg.nstacks → st ≠ stackOf c → s.trainingFull st = true →
      ((wantFull c s).tr c).timeouts = waitingTurn ∧ (wantFull c s).ob (chanIdx c) 0x40 = 0) ∧
    (∀ g, s.elapsed (s.tr c).stepAt (50 * usTicks) = true →
      (s.ob (chanIdx c) 0x40 = 1 → exec (.stepTimeout c g) s =
        .next (serveAll (wantFull c (raise Ev.restoreRejected c 0 (calibrationBad c s))))) ∧
      (s.ob (chanIdx c) 0x40 = 2 → g < 18 → exec (.stepTimeout c g) s =
        .next (serveAll (calibrationBad c (s.modTr c fun t => { t with lost := t.lost ||| 2 ^ g, stepAt := s.now })))) ∧
      (s.ob (chanIdx c) 0x40 = 2 → 18 ≤ g → exec (.stepTimeout c g) s =
        .next (serveAll (lostFor c (s.ob (chanIdx c) 0x43) (calibrationBad c s)))) ∧
      (s.ob (chanIdx c) 0x40 = 3 → (s.tr c).steps ≠ [] → s.stewardUp = true → ∀ h rest, (s.tr c).groups = h :: rest → ∃ t u,
        exec (.stepTimeout c g) s = .next (serveAll t) ∧ t = nextGroup c (groupBad c h u) ∧
        (∀ g' v w, (s.tr c).before = [(0x50 + g', v), (0x62, w)] → g' < 18 → u.ob (chanIdx c) (0x50 + g') = v ∧ u.ob (chanIdx c) 0x62 = w))) ∧
    (∀ g, s.elapsed (s.tr c).stepAt (50 * usTicks) = false → exec (.stepTimeout c g) s = .next (serveAll s)) ∧
    (s.applies r (chanIdx c) 0x4C [1] = true →
      (s.chanState c = 2 → (s.dch c).selfRef = none → (∀ st, st < s.cfg.nstacks → st ≠ stackOf c → s.trainingFull st = false) →
        Gives (.retrainRequest r c) s fun t => t.ob (chanIdx c) 0x40 = 2 ∧ (t.tr c).asked = true ∧ (t.tr c).began = s.now ∧
          t.chanState c = 2) ∧
      (s.chanState c = 2 → (s.dch c).selfRef.isSome = true → Gives (.retrainRequest r c) s fun t =>
        t.ob (chanIdx c) 0x40 = 0 ∧ (t.tr c).asked = true ∧ t.chanState c = 2) ∧
      (s.chanState c ≠ 2 → exec (.retrainRequest r c) s = .next (answer r St.denied 9 (s.begun r))))

/-- R303, R307 to R311, R317, R318: rounds and margins. A round begins when it is due and retrains the groups in turn; each new centre is
approached one tap at a time, each tap confirmed before the next is written; a group without a working setting is dealt with as R311 says, a live one
only after three rounds; a margin request is refused or begins a sweep, whose result stands in 0x4000+c:4B. -/
def Obligations.RetrainingAndMargins : Prop :=
  ∀ (s : State) (c : Nat) (r : Req), s.Inv → c < s.channels →
    (s.ob (chanIdx c) 0x40 = 3 → s.stewardUp = true → s.roundDue c = true →
      ((s.tr c).round = false → s.slotRuns c = true → (s.tr c).margin = none → ∃ t,
        exec (.retrainRoundStart c) s = .next (groupOffline c t) ∧ t.ob (chanIdx c) 0x44 = s.setNs ∧ (t.tr c).round = true ∧
          (t.tr c).groups = s.roundGroups c ∧ (t.tr c).roundAt = s.now) ∧
      ((s.tr c).round = true → (s.tr c).late = false → exec (.retrainRoundStart c) s =
        .next ((s.modTr c fun t => { t with late := true }).bump (chanIdx c) 0x46)) ∧
      ((s.tr c).round = true → (s.tr c).late = true → exec (.retrainRoundStart c) s = .next s)) ∧
    (s.roundDue c = false → exec (.retrainRoundStart c) s = .next s) ∧
    (s.ob (chanIdx c) 0x40 = 1 → exec (.tapStepConfirmed c) s = .next (restoreStep c s)) ∧
    (∀ code inst goal rest, (s.tr c).steps = (code, inst, goal) :: rest → s.ob (chanIdx c) 0x40 ≠ 1 → s.stewardUp = true →
      (s.setting c code inst ≠ goal → exec (.tapStepConfirmed c) s =
        .next (writeStep c (s.modTr c fun t => { t with steps := (code, inst, goal) :: rest }))) ∧
      (s.setting c code inst = goal → rest ≠ [] → exec (.tapStepConfirmed c) s =
        .next (writeStep c (s.modTr c fun t => { t with steps := rest }))) ∧
      (s.setting c code inst = goal → rest = [] → exec (.tapStepConfirmed c) s =
        .next (centresDone c ((s.tr c).groups.headD 0) (s.modTr c fun t => { t with steps := [] })))) ∧
    -- a step moves its setting one tap, when it is written
    (∀ code inst goal rest v, (s.tr c).steps = (code, inst, goal) :: rest →
      (v = s.setting c code inst + 1 ∧ s.setting c code inst < goal ∨ v + 1 = s.setting c code inst ∧ goal < s.setting c code inst) →
      (code ≠ 4 → writeStep c s = (setSetting c code inst v s).modTr c fun t => { t with stepAt := s.now }) ∧
      (code = 4 → writeStep c s = (layerVref c inst v (setSetting c 4 inst v s)).modTr c fun t => { t with stepAt := s.now })) ∧
    (s.ob (chanIdx c) 0x40 ≠ 1 → ((s.tr c).steps = [] ∨ s.stewardUp = false) → exec (.tapStepConfirmed c) s = .next s) ∧
    (∀ code inst v, code ≤ 4 → inst < 18 → v < 256 → (setSetting c code inst v s).setting c code inst = v) ∧
    (∀ g rest rv wv delays, (s.tr c).groups = g :: rest → (s.tr c).round = true → (s.tr c).steps = [] → s.stewardUp = true →
      (s.tr c).steer = none → exec (.groupRetrainDone c 0 rv wv delays) s = .next (applyCentres c g rv wv (delays.take 16) s) ∧
      (s.stepsTo c g rv wv delays ≠ [] → ((applyCentres c g rv wv delays s).tr c).steps = s.stepsTo c g rv wv delays ∧
        ((applyCentres c g rv wv delays s).tr c).stepAt = s.now) ∧
      ((s.tr c).offline = none → g ≠ 17 → exec (.groupRetrainDone c 2 rv wv delays) s = .next (nextGroup c (groupBad c g s)) ∧
        (look 0 g (s.tr c).bad < 2 → groupBad c g s = s.modTr c fun t => { t with bad := put 0 g (look 0 g t.bad + 1) t.bad }) ∧
        (2 ≤ look 0 g (s.tr c).bad → groupBad c g s = groupLost c g
          ((s.modTr c fun t => { t with bad := put 0 g (look 0 g (s.tr c).bad + 1) t.bad }).modTr c fun t => { t with bad := put 0 g 0 t.bad }))) ∧
      ((s.tr c).offline.isSome = true → exec (.groupRetrainDone c 1 rv wv delays) s = .next (applyCentres c g rv wv delays s) ∧
        exec (.groupRetrainDone c 2 rv wv delays) s = .next (nextGroup c (groupLost c g s)) ∧
        exec (.groupRetrainDone c 3 rv wv delays) s = .next (nextGroup c (groupLost c g (calibrationBad c s))))) ∧
    ((s.tr c).steer.isSome = true → ∀ o rv wv delays, exec (.groupRetrainDone c o rv wv delays) s = .next s) ∧
    ((s.tr c).round = false → ∀ o rv wv delays, exec (.groupRetrainDone c o rv wv delays) s = .next s) ∧
    (∀ v, v < 2 ^ 64 → s.applies r (chanIdx c) 0x4A (leBytes 8 v) = true →
      (s.marginRefused c v = true → exec (.marginRequest r c v) s =
        .next (answer r St.denied 9 ((s.begun r).setOb (chanIdx c) 0x4B (2 * 2 ^ 24)))) ∧
      (s.marginRefused c v = false → (s.tr c).round = false → (s.tr c).margin = none → Gives (.marginRequest r c v) s fun t =>
        (t.tr c).margin = some ⟨v, s.now⟩ ∧ t.ob (chanIdx c) 0x4B = 2 ^ 24) ∧
      (s.marginRefused c v = false → (s.tr c).round = true → exec (.marginRequest r c v) s = .next (answer r St.retry 0 (s.begun r)))) ∧
    (∀ v, (s.marginRefused c v = false → v % 2 ^ 16 ≥ 16 ∧ v < 2 ^ 32 ∧ bits 31 28 v ≤ 5 ∧ bits 27 23 v ≤ 17 ∧ s.chanState c ≠ 2 ∧
      s.chanState c ≠ 6)) ∧
    (∀ m low high worst errors late, (s.tr c).margin = some m → exec (.marginDone c low high worst errors late) s =
      .next (raise Ev.marginDone c 0 (wantSteer c none ((s.modTr c fun t => { t with margin := none }).setOb (chanIdx c) 0x4B
        (errors % 2 ^ 32 * 2 ^ 32 + (if late && s.elapsed m.began (marginLimit m.word) then 3 else 0) * 2 ^ 24 + worst % 256 * 2 ^ 16 +
          min (s.marginRoom c m.word).2 high * 2 ^ 8 + min (s.marginRoom c m.word).1 low))))) ∧
    (∀ low high worst errors late, (s.tr c).margin = none → exec (.marginDone c low high worst errors late) s = .next s) ∧
    (∀ d, s.channels ≤ d → exec (.tapStepConfirmed d) s = .fault .absentUnit ∧ exec (.retrainRoundStart d) s = .fault .absentUnit)

/-! ### The far tier (chapter 13), address regions (chapter 3), clocks and crossings (chapter 15) -/

/-- R356 to R358, R360 to R363: the far-tier port. A dirty bale past its coalesce age is written under the next version of its ledger entry,
and one that is written is stored and clean; a failed write leaves the bale stale and out of the buffer; a read with an error is issued once
more, and a failed one completes its readers POISONED but for lines that the buffer holds; transfers are checked, queued, started four at once in order, and end with their
status shown; the ledger is zeroed before the port serves; the port goes down, and a rejoin of it is asked for. -/
def Obligations.FarTierPort : Prop :=
  ∀ (s : State) (b num held : Nat) (r : Req) (value : List Byte), s.Inv →
    ((∀ x ∈ s.far.bales, x.dirty = false ∨ s.elapsed x.mergedAt (s.ob 0x5C00 4 * nsT) = false) → exec .coalesceAgeExpiry s = .next (pumpFar s)) ∧
    (∀ x, s.far.bales = [x] → x.dirty = true → s.elapsed x.mergedAt (s.ob 0x5C00 4 * nsT) = true →
      exec .coalesceAgeExpiry s = .next (pumpFar (writeBale x.num s)) ∧
      (∀ v a, x.writing = false → s.farUp = true → FarReader.merge ∉ x.readers → s.ledgerEntry x.num = .version v → v ≠ 0xFFFFFFFF →
        x.full = true → s.ledgerLine x.num = some a → (s.chan (s.place a).c).wq.length < wqSize →
        writeBale x.num s = ((advanceLedger x.num v s).modBale x.num fun y => { y with writing := true }).send
          (.bale true (s.deviceOf x.num).1 (s.deviceOf x.num).2))) ∧
    (∀ x v, s.bale? b = some x → s.ledgerEntry b = .version v → x.writing = true → ∃ t,
      exec (.baleWriteDone b true) s = .next (pumpFar t) ∧
      look none b t.far.stored = some ⟨v, (List.range 128).map fun i => (look none i x.lines).getD (0, poisonInfo)⟩ ∧
      t.bale? b = some { x with dirty := false, writing := false, waits := [] } ∧
      t.ob 0x5C00 7 = (s.ob 0x5C00 7 + 1) % 2 ^ objWidth (objKey 0x5C00 7)) ∧
    (∀ x, s.bale? b = some x → x.writing = true → ∃ t, exec (.baleWriteDone b false) s = .next (pumpFar t) ∧ t.bale? b = none ∧
      t.far.stored = s.far.stored ∧ t.ob 0x5C00 0x0A = (s.ob 0x5C00 0x0A + 1) % 2 ^ objWidth (objKey 0x5C00 0x0A)) ∧
    (s.bale? b = none → ∀ ok, exec (.baleWriteDone b ok) s = .next (pumpFar s)) ∧
    (s.baleReading b = false → ∀ o, exec (.baleReadDone b o) s = .next s ∧ exec (.baleReadTimeout b) s = .next s) ∧
    (∀ x, s.baleReading b = true → s.bale? b = some x →
      (x.tries = 1 → exec (.baleReadDone b 1) s = .next (pumpFar (((s.modBale b fun y =>
        { y with tries := y.tries + 1, readAt := s.now }).send (.bale false (s.deviceOf b).1 (s.deviceOf b).2))))) ∧
      (x.tries ≠ 1 → exec (.baleReadDone b 1) s = .next (pumpFar (doneReaders b (failReader b)
        (raiseNode Ev.baleReadFailed b (count farBank 5 1 (s.bump 0x5C00 8)))))) ∧
      (∀ t z, t = count farBank 2 baleDeviceBytes (count farBank 0 1 (s.bump 0x5C00 6)) → t.verifies b = some z →
        exec (.baleReadDone b 0) s = .next (pumpFar (doneReaders b (serveReader b)
          (fillMissing b (fun i => z.lines.getD i (0, poisonInfo)) t)))) ∧
      (∃ t, exec (.baleReadDone b 2) s = .next (pumpFar (doneReaders b (failReader b) (raiseNode Ev.baleAuthFailed b t))) ∧
        t.ob 0x5C00 9 = (s.ob 0x5C00 9 + 1) % 2 ^ objWidth (objKey 0x5C00 9)) ∧
      (s.elapsed x.readAt (100 * usTicks) = true → exec (.baleReadTimeout b) s = exec (.baleReadDone b 1) s) ∧
      (s.elapsed x.readAt (100 * usTicks) = false → exec (.baleReadTimeout b) s = .next s)) ∧
    (∀ id line, (∀ x l, s.bale? b = some x → look none line x.lines = some l → l.2.testBit 11 = true) →
      failReader b (.ask id line) s = finish id St.poisoned none s) ∧
    (∀ t, t = (⟨s.far.nextTransfer, (List.range 4).map fun i => leNat value / 2 ^ (64 * i) % 2 ^ 64, false, 0, [], 0, 0, false⟩ : Transfer) →
      s.applies r 0x5C10 1 value = true →
      ((s.begun r).transferReason t = 0 → s.far.transfers.length < 64 →
        Gives (.transferSubmit r value) s fun u => u.far.transfers = s.far.transfers ++ [t] ∧ u.ob 0x5C10 4 = 0 ∧
          u.ob 0x5C10 2 = s.far.transfers.length + 1 ∧ u.far.bales = s.far.bales) ∧
      ((s.begun r).transferReason t = 0 → 64 ≤ s.far.transfers.length →
        exec (.transferSubmit r value) s = .next (answer r St.retry 0 ((s.begun r).setOb 0x5C10 4 0))) ∧
      ((s.begun r).transferReason t ≠ 0 → exec (.transferSubmit r value) s =
        .next (answer r St.denied 9 ((s.begun r).setOb 0x5C10 4 ((s.begun r).transferReason t))))) ∧
    ((∀ t ∈ s.far.transfers, t.running = true) → exec (.transferStart held) s = .next s) ∧
    (∀ t, s.far.transfers.find? (fun x => !x.running) = some t →
      (s.farUp = true → bit 31 (t.word 2) = false → (s.far.transfers.filter (·.running)).length < 4 →
        exec (.transferStart held) s = .next (pumpFar (showLast 1 t (s.modTransfer t.num fun x => { x with running := true })))) ∧
      (bit 31 (t.word 2) = true → syncNode (bits 16 0 (t.word 2)) ≠ s.me → held < bits 63 32 (t.word 2) →
        exec (.transferStart held) s = .next s) ∧
      (4 ≤ (s.far.transfers.filter (·.running)).length → exec (.transferStart held) s = .next s)) ∧
    (exec (.transferDone num) s = .next (serveAll (endTransfer num (pumpTransfers s)))) ∧
    (∀ t, s.transfer? num = some t → t.running = true → t.ended = true → bit 30 (t.word 2) = false →
      (t.failed = false → (endTransfer num s).ob 0x5C10 3 = t.bales % 2 ^ 24) ∧
      (t.failed = true → (endTransfer num s).ob 0x5C10 3 = 2 * 2 ^ 24 + t.bales % 2 ^ 24) ∧
      (endTransfer num s).far.transfers = s.far.transfers.filter fun x => x.num != num) ∧
    (s.far.zeroing = false → exec .ledgerZeroingDone s = .next s) ∧
    (s.far.zeroing = true → Gives .ledgerZeroingDone s fun t => t.far = { s.far with zeroing := false } ∧
      (s.ob 0x5C00 2 = 0 ∨ s.ledgerBase = none → t.farState = 0) ∧ (s.ob 0x5C00 2 ≠ 0 → s.ledgerBase.isSome = true → t.farState = 1)) ∧
    (s.farUp = false → exec .farPortDown s = .next s) ∧
    (s.farUp = true → ∃ t, exec .farPortDown s = .next (pump t) ∧ t.farState = 2 ∧ t.far.bales = [] ∧ t.far.waiting = [] ∧
      t.far.rejoin = false ∧ (∀ x ∈ t.far.transfers, x.running = true → x.failed = true)) ∧
    (s.applies r 0x5C00 0x0D [1] = true →
      (s.farState = 2 → Gives (.farPortRejoin r) s fun t => t.far = { s.far with rejoin := true } ∧
        t.plans = { s.plans with rejoinAt := put 0 0x900 (s.setTicks + 1) s.plans.rejoinAt }) ∧
      (s.farState ≠ 2 → exec (.farPortRejoin r) s = .next (answer r St.denied 9 (s.begun r)))) ∧
    -- the same commands where nothing else is under way
    (s.far.waiting = [] → s.power.halting = false → (∀ p ∈ s.path.chans, p.2.recWait = [] ∧ p.2.recs = []) →
      (∀ x v a, s.path.asks = [] → s.far.transfers = [] → s.far.bales = [x] → x.dirty = true → x.writing = false → x.full = true →
        x.readers = [] → s.farUp = true → s.elapsed x.mergedAt (s.ob 0x5C00 4 * nsT) = true → s.ledgerEntry x.num = .version v →
        v ≠ 0xFFFFFFFF → s.ledgerLine x.num = some a → (s.chan (s.place a).c).wq.length < wqSize → Gives .coalesceAgeExpiry s fun t =>
          t.far.bales = [{ x with writing := true }] ∧ Output.bale true (s.deviceOf x.num).1 (s.deviceOf x.num).2 ∈ t.out) ∧
      (∀ x q p k, s.path.asks = [q] → q.side.port = .tile p → q.stage = .accepted → s.far.transfers = [] → s.far.bales = [x] → x.num = b →
        x.dirty = false → s.baleReading b = true → x.readers = [.ask q.id k] → x.tries ≠ 1 → look none k x.lines = none →
        Gives (.baleReadDone b 1) s fun t => t.ends q.id (St.poisoned, none)) ∧
      (∀ t, s.path.asks = [] → s.far.bales = [] → s.far.transfers = [t] → t.running = false → s.farUp = true → bit 31 (t.word 2) = false →
        Gives (.transferStart held) s fun u => ∃ v, u.far.transfers = [v] ∧ v.num = t.num ∧ v.words = t.words ∧ v.running = true) ∧
      (∀ t, s.path.asks = [] → s.far.bales = [] → s.far.transfers = [t] → t.num = num → t.running = true → t.ended = true →
        bit 30 (t.word 2) = false → Gives (.transferDone num) s fun u => u.far.transfers = [] ∧
          u.ob 0x5C10 3 = (if t.failed then 2 * 2 ^ 24 else 0) + t.bales % 2 ^ 24))

/-- R49, R50: a region descriptor. One that breaks a rule is denied, its reason in 0x2110:02; in CONFIG one that breaks none is in force at
once, and otherwise it takes effect at the next tide, the last one written to a descriptor holding. -/
def Obligations.RegionDescriptors : Prop :=
  ∀ (s : State) (r : Req) (n why : Nat) (value : List Byte) (t : State) (p : Region), s.Inv → n < 1024 →
    s.applies r (regionIdx n) (regionSub n) value = true → t = s.begun r →
    p = (match t.mgmt.pendingTide.find? fun x => x.1 == objKey (regionIdx n) (regionSub n) with
      | some x => decodeRegion x.2 | none => t.region n) →
    why = regionReason n (if p.guarded then p else t.region n) (decodeRegion (leNat value)) (s.isOwner r) (t.regionBreaks n (leNat value)) t →
    (why ≠ 0 → why ≠ 7 → exec (.regionDescriptorWrite r n value) s =
      .next (answer r St.denied 9 (raise Ev.descriptorRefused n why (t.setOb 0x2110 2 why)))) ∧
    (why = 7 → Gives (.regionDescriptorWrite r n value) s fun u => u.ob 0x2110 2 = 7 ∧ u.region n = s.region n ∧
      u.mgmt.pendingTide = s.mgmt.pendingTide) ∧
    (why = 0 → s.power.node = .config → Gives (.regionDescriptorWrite r n value) s fun u => u.ob (regionIdx n) (regionSub n) = leNat value ∧
      u.region n = decodeRegion (leNat value) ∧ u.mgmt.pendingTide = s.mgmt.pendingTide) ∧
    (why = 0 → s.power.node ≠ .config → Gives (.regionDescriptorWrite r n value) s fun u => u.region n = s.region n ∧
      u.mgmt.pendingTide = s.mgmt.pendingTide.filter (fun x => x.1 != objKey (regionIdx n) (regionSub n)) ++
        [(objKey (regionIdx n) (regionSub n), leNat value)])

/-- R397, R398, R402 to R406: clock sources, domains and monitors. A source is stable once it has counted its cycles with its reference; a
divider steps towards 1 every 1 µs, and a domain on FO moves to its PLL at divider 6; a fallback that is not stable in time halts the node; a
monitored clock out of tolerance trips; a sheaf PLL that is not back in 40 ms fails its channels; KSO is trimmed by at most one step a
measurement, and raises OSC_TRIM_STALE after 10 s without a reference. -/
def Obligations.ClockSourcesAndDomains : Prop :=
  ∀ (s : State) (m u count expected : Nat) (lock off1 off2 : Bool), s.Inv → s.isSource m = true → u < s.sheaves →
    (∀ t, (s.source m).since = some t → s.elapsed t (s.stableAfter m) = true → s.reference m = true →
      exec (.sourceStable m) s = .next (serveAll (nowStable m (s.setSource m .stable)))) ∧
    (∀ t, (s.source m).since = some t → s.elapsed t (s.stableAfter m) = false → exec (.sourceStable m) s = .next (serveAll s)) ∧
    ((s.source m).since = none → exec (.sourceStable m) s = .next (serveAll s)) ∧
    (s.domain u % 256 = 0 → s.waits u = false → (nowStable (srcSheaf u) s).domain u = 256 + 2) ∧
    (stableTime srcRefA = 163840 * nsT ∧ stableTime (srcSheaf 0) = 40960 * nsT) ∧
    (s.stable srcRefB = true → exec .refBAbsent s = .next s) ∧
    (s.elapsed s.power.vkeepAt (2621440 * nsT) = true → s.stable srcRefB = false → s.ob 0xB001 5 = 0 → Gives .refBAbsent s fun t =>
      t.ob 0xB001 5 = 0 ∧ (s.stable srcRefA = true → s.source srcKeeperPll = .off → t.source srcKeeperPll = .counting s.now)) ∧
    (s.domain u % 256 = 1 → s.stable (srcSheaf u) = true → s.elapsed s.clk.refAFrom (655360 * nsT) = true →
      exec (.dividerStep u) s = .next (serveAll (setDomain u 2 6 s))) ∧
    (∀ src div, (src = 1 ∧ s.stable (srcSheaf u) = false ∨ src = 2) → s.domain u = 256 * (div + 2) + src →
      (s.elapsed (look 0 u s.clk.stepped) usTicks = true → exec (.dividerStep u) s = .next (serveAll (setDomain u src (div + 1) s)) ∧
        (setDomain u src (div + 1) s).domain u = 256 * (div + 1) + src) ∧
      (s.elapsed (look 0 u s.clk.stepped) usTicks = false → exec (.dividerStep u) s = .next (serveAll s))) ∧
    (s.domain u = 256 + 2 → exec (.dividerStep u) s = .next (serveAll s)) ∧
    (1 < s.clk.keeperDiv → s.elapsed (look 0 64 s.clk.stepped) usTicks = true → exec (.dividerStep 64) s = .next (serveAll
      { s with clk := { s.clk with keeperDiv := s.clk.keeperDiv - 1, stepped := put 0 64 s.now s.clk.stepped } })) ∧
    (look none u s.clk.waiting = none → exec (.fallbackTimeout u) s = .next (serveAll s)) ∧
    (∀ t, look none u s.clk.waiting = some t →
      (s.elapsed t (s.fallbackLimit u) = true → s.power.node ≠ .halted → exec (.fallbackTimeout u) s =
        .next (serveAll (enterHalted Ev.clockHalt true (raise Ev.clockHalt u 0 (setKeeper 2 1 s))))) ∧
      (s.power.node = .halted → exec (.fallbackTimeout u) s = .next (serveAll s)) ∧
      (s.elapsed t (s.fallbackLimit u) = false → exec (.fallbackTimeout u) s = .next (serveAll s))) ∧
    (s.stable m = false → exec (.clockMonitorWindow m count true lock off1 off2) s = .next (serveAll s)) ∧
    (s.stable m = true → s.stable (partnerSource m) = true → m ≠ 7 →
      (s.countBad m count = false → exec (.clockMonitorWindow m count true true off1 off2) s =
        .next (serveAll (s.setOb 0xB002 m (count % 2 ^ 24)))) ∧
      (m ≠ 4 → m ≠ 5 → (s.countBad m count = true → exec (.clockMonitorWindow m count true lock off1 off2) s =
          .next (serveAll (clockTrip m (s.setOb 0xB002 m (count % 2 ^ 24))))) ∧
        exec (.clockMonitorWindow m count false lock off1 off2) s = .next (serveAll (clockTrip m (s.setOb 0xB002 m (count % 2 ^ 24))))) ∧
      (m = 4 ∨ m = 5 → s.stable srcRefA = false → s.countBad m count = true → exec (.clockMonitorWindow m count true lock off1 off2) s =
        .next (serveAll (clockTrip srcKfo (s.setOb 0xB002 m (count % 2 ^ 24)))))) ∧
    (clockTrip m s = tripEffect m (raise Ev.clockTrip m 0 ((s.setSource m (.tripped s.now)).bump 0xB003 m))) ∧
    (s.countBad srcFo count = (decide (count < 4015) || decide (4177 < count))) ∧
    (look 0 u s.clk.pllTrip = 0 → exec (.sheafPllRestartLimit u) s = .next (serveAll s)) ∧
    (look 0 u s.clk.pllTrip ≠ 0 → s.elapsed (look 0 u s.clk.pllTrip - 1) (40 * msT) = true → ∃ t,
      exec (.sheafPllRestartLimit u) s = .next (serveAll t) ∧
      (∀ k, k < 9 → s.chanState (9 * u + k) = 1 → t.chanState (9 * u + k) = 2) ∧
      (∀ k, k < 9 → s.chanState (9 * u + k) ≠ 1 → t.chanState (9 * u + k) = s.chanState (9 * u + k))) ∧
    (∀ plca want err, want = (if plca then expected else 25000) → want ≠ 0 → err = ((want : Int) - count) * 1000000 / want →
      s.stable srcKso = true → s.trimChoice plca = true → s.ob 0xB001 2 ≤ 255 → Gives (.ksoTrimMeasurement plca count expected) s fun t =>
        t.ob 0xB001 4 = unsigned 32 err ∧ t.ob 0xB001 3 = (if plca then 2 else 1) ∧ t.clk.trimAt = s.now ∧ t.clk.trimStale = false ∧
        (err.natAbs ≤ 500 → t.ob 0xB001 2 = s.ob 0xB001 2) ∧
        (t.ob 0xB001 2 ≤ s.ob 0xB001 2 + 1 ∧ s.ob 0xB001 2 ≤ t.ob 0xB001 2 + 1 ∧ t.ob 0xB001 2 ≤ 255) ∧
        t.clk.trimGood = (if err.natAbs ≤ 1000 then s.clk.trimGood + 1 else 0)) ∧
    (s.stable srcKso = false → ∀ plca, exec (.ksoTrimMeasurement plca count expected) s = .next s) ∧
    (s.clk.trimStale = false → s.stable srcRefB = false →
      (s.elapsed s.clk.trimAt (10 * secT) = true → exec .oscTrimStale s =
        .next (raiseNode Ev.oscTrimStale 0 { s with clk := { s.clk with trimStale := true } })) ∧
      (s.elapsed s.clk.trimAt (10 * secT) = false → exec .oscTrimStale s = .next s)) ∧
    (exec (.sourceStable 8) s = .fault .absentUnit ∧ exec (.sourceStable 0) s = .fault .absentUnit)

/-- R394 to R396, R408, R409: slack, clock enables and crossings. The slack reading is the largest of the 16
measurements in steps of 5 ps, a replica that returned none for 2 µs reading as 1,000 ps; above 600 ps the slack state is
low, above 750 ps critical, and it clears after 64 frames; sv_vreq follows it at most once in 10 µs, asks for more while slack is short, and
for less while it has been easy, the junctions are cool and no derate stands; an enable is written where nothing it
stops is busy; a crossing that one side resets is closed until it is reopened, and counted. -/
def Obligations.SlackEnablesAndCrossings : Prop :=
  ∀ (s : State) (r : Req) (v : Nat) (x : Crossing), s.Inv → s.hasCrossing x = true →
    (s.power.vcore = false → ∀ counts, exec (.slackMeasurement counts) s = .next s) ∧
    (s.elapsed s.clk.slackAt usTicks = false → ∀ counts, exec (.slackMeasurement counts) s = .next s) ∧
    (s.power.vcore = true → s.elapsed s.clk.slackAt usTicks = true → s.clk.replicasOut = [] → Canonical (fun _ => 0) s.clk.replicas →
      Canonical (fun _ => 0) s.clk.replicaAt → (∀ i, look 0 i s.clk.replicas ≤ 1000) → ∀ counts reading,
      reading = ((List.range 16).map fun i => match counts.getD i none with
        | some n => min 1000 (5 * n)
        | none => if s.elapsed (look 0 i s.clk.replicaAt) (2 * usTicks) then 1000 else look 0 i s.clk.replicas).foldl max 0 →
      Gives (.slackMeasurement counts) s fun t =>
        t.ob 0xB000 1 = reading ∧ t.clk.slackAt = s.now ∧
        (∀ i n, i < 16 → counts.getD i none = some n → look 0 i t.clk.replicas = min 1000 (5 * n) ∧ look 0 i t.clk.replicaAt = s.now) ∧
        (∀ i, counts.getD i none = none → look 0 i t.clk.replicas = look 0 i s.clk.replicas ∧
          look 0 i t.clk.replicaAt = look 0 i s.clk.replicaAt) ∧
        (∀ i, look 0 i t.clk.replicas ≤ 1000) ∧
        t.ob 0xB000 3 = (if 750 < reading then (if s.ob 0xB000 3 < 2 then 2 else s.ob 0xB000 3)
          else if 600 < reading then (if s.ob 0xB000 3 = 0 then 1 else s.ob 0xB000 3) else s.ob 0xB000 3) ∧
        (480 < reading → t.clk.easySince = 0)) ∧
    (s.ob 0xB000 3 = 0 ∨ s.plans.slackFrames < 64 → exec .slackCleared s = .next s) ∧
    (s.ob 0xB000 3 ≠ 0 → 64 ≤ s.plans.slackFrames → Gives .slackCleared s fun t => t.ob 0xB000 3 = 0 ∧ t.derated 1 = false) ∧
    (exec .vreqLowerTimer s = .next (driveVreq s)) ∧
    (∀ j, s.ob 0xB000 3 = 0 → s.easy = true → s.junction = some j → j < 400 → s.ob 0x2202 1 = 0 → s.pins.vreq ≠ 2 →
      (s.pins.vreqAt = 0 ∨ s.elapsed (s.pins.vreqAt - 1) (10 * usTicks) = true) → exec .vreqLowerTimer s =
        .next (({ s with pins := { s.pins with vreq := 2, vreqAt := s.now + 1 } } : State).setOb 0xB000 4 2)) ∧
    (s.ob 0xB000 3 = 0 → (s.easy = false ∨ s.ob 0x2202 1 ≠ 0) → s.pins.vreq ≠ 0 →
      (s.pins.vreqAt = 0 ∨ s.elapsed (s.pins.vreqAt - 1) (10 * usTicks) = true) → exec .vreqLowerTimer s =
        .next (({ s with pins := { s.pins with vreq := 0, vreqAt := s.now + 1 } } : State).setOb 0xB000 4 0)) ∧
    (s.ob 0xB000 3 ≠ 0 →
      (s.pins.vreq ≠ 1 → (s.pins.vreqAt = 0 ∨ s.elapsed (s.pins.vreqAt - 1) (10 * usTicks) = true) → exec .vreqLowerTimer s =
        .next (({ s with pins := { s.pins with vreq := 1, vreqAt := s.now + 1 } } : State).setOb 0xB000 4 1)) ∧
      (s.pins.vreq = 1 → exec .vreqLowerTimer s = .next s) ∧
      (s.pins.vreqAt ≠ 0 → s.elapsed (s.pins.vreqAt - 1) (10 * usTicks) = false → exec .vreqLowerTimer s = .next s)) ∧
    (s.applies r 0x2020 1 (leBytes 4 v) = true → v < 2 ^ 32 →
      (∀ i, i < 32 → bit i v = true → bit i (s.ob 0x2020 1) = false → s.sheaves ≤ i → exec (.clockEnableWrite r 1 v) s =
        .next (answer r St.unreachable 0 (s.begun r))) ∧
      ((∀ i, i < 32 → bit i v = true → bit i (s.ob 0x2020 1) = false → i < s.sheaves) →
        ((∀ i, i < 32 → bit i v = false → bit i (s.ob 0x2020 1) = true → s.sheafBusy i = false) →
          Gives (.clockEnableWrite r 1 v) s fun t => t.ob 0x2020 1 = v ∧
            (∀ i, i < 32 → bit i v = false → bit i (s.ob 0x2020 1) = true → t.domain i = 3) ∧
            (∀ i, i < 32 → bit i v = bit i (s.ob 0x2020 1) → t.domain i = s.domain i)) ∧
        (∀ i, i < 32 → bit i v = false → bit i (s.ob 0x2020 1) = true → s.sheafBusy i = true → exec (.clockEnableWrite r 1 v) s =
          .next (answer r St.denied 9 (s.begun r))))) ∧
    (s.applies r 0x2020 2 (leBytes 1 v) = true → v < 256 →
      (bit 5 (s.ob 0x2020 2) = true → bit 5 v = false → exec (.clockEnableWrite r 2 v) s = .next (answer r St.denied 9 (s.begun r))) ∧
      ((∀ k, k < 32 → bit k (s.ob 0x2020 2) = true → bit k v = false →
          k ≠ 5 ∧ (k < 4 → (s.port k).state ≠ .up ∧ (s.port k).state ≠ .keepalive) ∧ (k = 4 → s.farUp = false)) →
        Gives (.clockEnableWrite r 2 v) s fun t => t.ob 0x2020 2 = v)) ∧
    (crossingNumber x ∉ s.clk.closed →
      (∃ t, exec (.crossingReset x) s = .next (pump t) ∧ t.clk = { s.clk with closed := s.clk.closed ++ [crossingNumber x] } ∧
        t.ob 0xB004 1 = (s.ob 0xB004 1 + 1) % 2 ^ objWidth (objKey 0xB004 1)) ∧
      exec (.crossingReopened x) s = .next (pump s)) ∧
    (crossingNumber x ∈ s.clk.closed → exec (.crossingReset x) s = .next (pump s) ∧
      exec (.crossingReopened x) s = .next (pump (raise Ev.crossingReopened (crossingInst x) 0
        { s with clk := { s.clk with closed := s.clk.closed.filter fun n => n != crossingNumber x } }))) ∧
    (∀ p, 8 ≤ p → exec (.crossingReset (.rt p)) s = .fault .absentUnit) ∧
    (∀ h, 4 ≤ h → exec (.crossingReopened (.headland h)) s = .fault .absentUnit)

/-! ### The whole block -/

/-- Every step keeps what no command may change: whatever the state, a step that goes on leaves what silicon fixes as it was, takes at most
the front command from the queue, does not turn time back, keeps what has been sent in the order it was sent, and keeps the invariant: the
object store, the synchronisation objects, the filled blocks and the cells in canonical form, and the log, the mirror, the window's ring, the
remembered sources, the staged events, the sessions and the sample ring within their bounds (R174, R377, R443, R455, R459, R464, R499). -/
def Obligations.StepKeepsInvariant : Prop :=
  ∀ s t : State, s.Inv → step s = .next t →
    t.Inv ∧ t.cfg = s.cfg ∧ t.pending = s.pending.drop 1 ∧ s.now ≤ t.now ∧ s.out <+: t.out

/-- R296, R428 and the model's own choices (logs 1 and 3): the state after reset has the invariant, an empty queue and nothing sent; the node is in
BOOT; every stack is at level 0 with grace armed and its channels at class 1x, no sensor is broken, key slots are empty, descriptors and
synchronisation objects 0, every object at its default. On an empty queue a step lets one tick pass (DESIGN CHOICE, log 1): time goes on by
one, and with no write waiting and no trip under way only object counters and the Headland shapers follow it. -/
def Obligations.ResetAndIdle : Prop :=
  State.reset.Inv ∧ State.reset.pending = [] ∧ State.reset.out = [] ∧ State.reset.power.node = .boot ∧
  (∀ st, st < 4 → State.reset.level st = 0 ∧ look 0 st State.reset.pins.heat = 0 ∧ State.reset.ob (stackIdx st) 5 = 1) ∧
  (∀ c, c < 288 → State.reset.refreshClass c = 0) ∧ (∀ k, (State.reset.sensor k).broken = false) ∧
  (∀ n, (State.reset.key n).kind = .empty) ∧ (∀ n, n < 1024 → State.reset.region n = decodeRegion 0) ∧ State.reset.syncs = [] ∧ State.reset.path.asks = [] ∧
  (∀ idx sub, State.reset.ob idx sub = objDefault (objKey idx sub)) ∧
  ∀ s : State, s.pending = [] → ∃ t, step s = .next t ∧ t.now = s.now + 1 ∧ t.pending = [] ∧ t.cfg = s.cfg ∧
    (s.mgmt.waiting = [] → s.heat.tripAt = 0 → t = { s with now := s.now + 1, obj := t.obj, hl := t.hl })

/-- The frame of every command: a command that answers a next state leaves every part of the state it may not write as it was. Which parts
that are, `writes` says command by command: no command writes time, the silicon's configuration or the queue; a layer command writes the
layers and its alert count alone; what only decodes a stream writes the streams alone. -/
def Obligations.FrameOfEveryCommand : Prop :=
  (∀ (i : Instr) (s t : State) (p : Part), exec i s = .next t → p ∉ writes i → p.same s t) ∧
  (∀ i : Instr, Part.now ∉ writes i ∧ Part.cfg ∉ writes i ∧ Part.pending ∉ writes i)
end

