-- ==== Sys2Proof/Laws/Keeps.lean ====
section
/-!
SUPPORT. The canonical form of sparse stores, and the rules by which `Keeps` is shown of a meaning, part by part.
-/
namespace Sys2Proof.Machine

/-! ### Sparse stores -/

theorem Canonical.tail {V : Type} {d : Nat → V} {p : Nat × V} {m : Store V} (h : Canonical d (p :: m)) : Canonical d m :=
  ⟨(List.pairwise_cons.mp h.1).2, fun q hq => h.2 q (List.mem_cons_of_mem _ hq)⟩

theorem Canonical.filter {V : Type} {d : Nat → V} {m : Store V} (f : Nat × V → Bool) (h : Canonical d m) :
    Canonical d (m.filter f) :=
  ⟨h.1.filter f, fun q hq => h.2 q (List.mem_filter.mp hq).1⟩

/-- What is listed after a `put`: the new pair, or what was listed. -/
theorem mem_put {V : Type} [DecidableEq V] {d v : V} {k : Nat} {m : Store V} {p : Nat × V} (h : p ∈ put d k v m) :
    (p = (k, v) ∧ v ≠ d) ∨ p ∈ m := by
  induction m with
  | nil => unfold put at h; split at h <;> simp_all
  | cons q m ih =>
    obtain ⟨i, w⟩ := q
    unfold put at h
    split at h
    · rcases List.mem_cons.mp h with rfl | h
      · simp
      · rcases ih h with h | h <;> simp [h]
    · split at h <;> split at h <;> simp_all; tauto

theorem Canonical.put {V : Type} [DecidableEq V] {d : Nat → V} {k : Nat} {v : V} {m : Store V} (h : Canonical d m) :
    Canonical d (put (d k) k v m) := by
  refine ⟨?_, fun p hp => ?_⟩
  · induction m with
    | nil => unfold Machine.put; split <;> simp
    | cons q m ih =>
      obtain ⟨i, w⟩ := q
      have hq := List.pairwise_cons.mp h.1
      unfold Machine.put
      split
      · refine List.pairwise_cons.mpr ⟨fun p hp => ?_, ih h.tail⟩
        rcases mem_put hp with ⟨rfl, -⟩ | hp
        · assumption
        · exact hq.1 p hp
      · split <;> split
        · exact hq.2
        · rename_i hk _
          subst hk
          exact List.pairwise_cons.mpr ⟨fun p hp => hq.1 p hp, hq.2⟩
        · exact h.1
        · refine List.pairwise_cons.mpr ⟨fun p hp => ?_, h.1⟩
          rcases List.mem_cons.mp hp with rfl | hp
          · show k < i
            omega
          · have hi : i < p.1 := hq.1 p hp
            show k < p.1
            omega
  · rcases mem_put hp with ⟨rfl, hv⟩ | hp
    · exact hv
    · exact h.2 p hp

/-- A read of another key does not see a `put`. -/
theorem look_put_ne {V : Type} [DecidableEq V] {d e v : V} {k j : Nat} (m : Store V) (h : j ≠ k) :
    look e j (put d k v m) = look e j m := by
  induction m with
  | nil => unfold put; split <;> simp [look, Ne.symm h]
  | cons q m ih =>
    obtain ⟨i, w⟩ := q
    unfold put
    split
    · simp [look, ih]
    · split <;> split <;> simp_all [look, Ne.symm h]

/-- A read of the key that was put, in a store whose keys rise. -/
theorem look_put_eq {V : Type} [DecidableEq V] {d v : V} {k : Nat} {m : Store V} (h : m.Pairwise fun p q => p.1 < q.1) :
    look d k (put d k v m) = v := by
  have none_left : ∀ l : Store V, (∀ p ∈ l, k < p.1) → look d k l = d := by
    intro l hl
    induction l with
    | nil => rfl
    | cons q l ih =>
      have := hl q (by simp)
      have hne : q.1 ≠ k := by omega
      obtain ⟨i, w⟩ := q
      simp only [look, if_neg hne]
      exact ih fun p hp => hl p (List.mem_cons_of_mem _ hp)
  induction m with
  | nil => unfold put; split <;> simp_all [look]
  | cons q m ih =>
    obtain ⟨i, w⟩ := q
    have hq := List.pairwise_cons.mp h
    unfold put
    split
    · rename_i hik
      have : i ≠ k := by omega
      simp [look, this, ih hq.2]
    · split
      · rename_i hik
        subst hik
        split
        · rename_i hv
          rw [hv]
          exact none_left m hq.1
        · simp [look]
      · split
        · rename_i hv
          rw [hv]
          refine none_left _ fun p hp => ?_
          rcases List.mem_cons.mp hp with rfl | hp
          · show k < i
            omega
          · have : i < p.1 := hq.1 p hp
            omega
        · simp [look]

theorem pushLast_length {V : Type} (k : Nat) (x : V) (l : List V) : (pushLast k x l).length ≤ k := by
  simp only [pushLast, List.length_drop]
  omega

/-! ### `Keeps`, and its forms for what a meaning may answer -/

/-- The parts of a state that `Keeps` speaks of are the same. -/
structure SameParts (x y : State) : Prop where
  cfg : y.cfg = x.cfg
  pending : y.pending = x.pending
  now : y.now = x.now
  out : y.out = x.out
  obj : y.obj = x.obj
  syncs : y.syncs = x.syncs
  cells : y.dram.cells = x.dram.cells
  fill : y.dram.fill = x.dram.fill
  log : y.mgmt.log = x.mgmt.log
  mirror : y.nvm.mirror = x.nvm.mirror
  ring : y.mgmt.window.ring = x.mgmt.window.ring
  sources : y.mgmt.sources = x.mgmt.sources
  staged : y.procs.staged = x.procs.staged
  sessions : y.sec.sessions = x.sec.sessions
  samples : y.sampler.ring = x.sampler.ring

/-- The parts of the invariant, each kept. -/
structure KeptParts (x y : State) : Prop where
  cfg : y.cfg = x.cfg
  objects : Canonical objDefault x.obj → Canonical objDefault y.obj
  syncs : Canonical (fun _ => 0) x.syncs → Canonical (fun _ => 0) y.syncs
  fills : Fills x.dram.fill → Fills y.dram.fill
  cells : Fills x.dram.fill → Canonical (cellDefault x.dram.fill) x.dram.cells → Canonical (cellDefault y.dram.fill) y.dram.cells
  log : x.mgmt.log.length ≤ 1024 → y.mgmt.log.length ≤ 1024
  mirror : x.nvm.mirror.length ≤ 256 → y.nvm.mirror.length ≤ 256
  ring : x.mgmt.window.ring.length ≤ 64 → y.mgmt.window.ring.length ≤ 64
  sources : x.mgmt.sources.length ≤ 16 → y.mgmt.sources.length ≤ 16
  staged : x.procs.staged.length ≤ 64 → y.procs.staged.length ≤ 64
  sessions : x.sec.sessions.length ≤ 4 → y.sec.sessions.length ≤ 4
  samples : x.sampler.ring.length ≤ 4096 → y.sampler.ring.length ≤ 4096

theorem KeptParts.inv {x y : State} (k : KeptParts x y) (h : x.Inv) : y.Inv where
  stackCount := k.cfg ▸ h.stackCount
  objects := k.objects h.objects
  syncs := k.syncs h.syncs
  fills := k.fills h.fills
  cells := k.cells h.fills h.cells
  log := k.log h.log
  mirror := k.mirror h.mirror
  ring := k.ring h.ring
  sources := k.sources h.sources
  staged := k.staged h.staged
  sessions := k.sessions h.sessions
  samples := k.samples h.samples

theorem Keeps.refl (s : State) : Keeps s s := ⟨rfl, rfl, le_rfl, List.prefix_refl _, id⟩

theorem Keeps.trans {a s t : State} (h : Keeps a s) (k : Keeps s t) : Keeps a t :=
  ⟨k.cfg.trans h.cfg, k.pending.trans h.pending, h.now.trans k.now, h.out.trans k.out, k.inv ∘ h.inv⟩

/-- One change that keeps every part. -/
theorem Keeps.change {a x y : State} (h : Keeps a x) (hp : y.pending = x.pending) (hn : x.now ≤ y.now) (ho : x.out <+: y.out)
    (k : KeptParts x y) : Keeps a y :=
  h.trans ⟨k.cfg, hp, hn, ho, k.inv⟩

/-- One change that leaves every part as it is. -/
theorem Keeps.same {a x y : State} (h : Keeps a x) (k : SameParts x y) : Keeps a y :=
  h.change k.pending k.now.ge (k.out ▸ List.prefix_refl _)
    ⟨k.cfg, fun c => k.obj ▸ c, fun c => k.syncs ▸ c, fun c => by rw [k.fill]; exact c, fun _ c => by rw [k.fill, k.cells]; exact c, fun c => k.log ▸ c,
      fun c => k.mirror ▸ c, fun c => k.ring ▸ c, fun c => k.sources ▸ c, fun c => k.staged ▸ c, fun c => k.sessions ▸ c,
      fun c => k.samples ▸ c⟩

/-- The state beside an answer is kept. -/
abbrev KeepsS (a : State) {α : Type} (p : α × State) : Prop := Keeps a p.2
/-- The state before an answer is kept. -/
abbrev KeepsF (a : State) {α : Type} (p : State × α) : Prop := Keeps a p.1
/-- The state is kept where there is one. -/
abbrev KeepsO (a : State) (o : Option State) : Prop := ∀ t, o = some t → Keeps a t
/-- The state beside an answer is kept where there is one. -/
abbrev KeepsOS (a : State) {α : Type} (o : Option (α × State)) : Prop := ∀ x t, o = some (x, t) → Keeps a t
/-- The state a home operation answers is kept. -/
def KeepsW (a : State) : WResult → Prop
  | .done s => Keeps a s
  | .refused _ _ s => Keeps a s
  | .wait s => Keeps a s
/-- The next state of a meaning, where it answers one, is kept. -/
def KeepsR (a : State) : Res → Prop
  | .next s => Keeps a s
  | .fault _ => True
  | .refused _ => True
/-- A home operation keeps the state it is given. -/
abbrev KeepsH (a : State) (f : Home) : Prop := ∀ w s, Keeps a s → KeepsW a (f w s)

theorem keeps_ite {a x y : State} {c : Prop} [Decidable c] (h : c → Keeps a x) (k : ¬c → Keeps a y) : Keeps a (if c then x else y) := by
  split
  · exact h ‹_›
  · exact k ‹_›
theorem keepsS_ite {a : State} {α : Type} {x y : α × State} {c : Prop} [Decidable c] (h : c → KeepsS a x) (k : ¬c → KeepsS a y) :
    KeepsS a (if c then x else y) := by
  split
  · exact h ‹_›
  · exact k ‹_›
theorem keepsF_ite {a : State} {α : Type} {x y : State × α} {c : Prop} [Decidable c] (h : c → KeepsF a x) (k : ¬c → KeepsF a y) :
    KeepsF a (if c then x else y) := by
  split
  · exact h ‹_›
  · exact k ‹_›
theorem keepsW_ite {a : State} {x y : WResult} {c : Prop} [Decidable c] (h : c → KeepsW a x) (k : ¬c → KeepsW a y) :
    KeepsW a (if c then x else y) := by
  split
  · exact h ‹_›
  · exact k ‹_›
theorem keepsR_ite {a : State} {x y : Res} {c : Prop} [Decidable c] (h : c → KeepsR a x) (k : ¬c → KeepsR a y) :
    KeepsR a (if c then x else y) := by
  split
  · exact h ‹_›
  · exact k ‹_›
theorem keepsO_ite {a : State} {x y : Option State} {c : Prop} [Decidable c] (h : c → KeepsO a x) (k : ¬c → KeepsO a y) :
    KeepsO a (if c then x else y) := by
  split
  · exact h ‹_›
  · exact k ‹_›
theorem keepsOS_ite {a : State} {α : Type} {x y : Option (α × State)} {c : Prop} [Decidable c] (h : c → KeepsOS a x)
    (k : ¬c → KeepsOS a y) : KeepsOS a (if c then x else y) := by
  split
  · exact h ‹_›
  · exact k ‹_›

theorem keepsS_of_eq {a t : State} {α : Type} {p : α × State} {x : α} (e : p = (x, t)) (h : KeepsS a p) : Keeps a t := by
  subst e; exact h
theorem keepsF_of_eq {a t : State} {α : Type} {p : State × α} {x : α} (e : p = (t, x)) (h : KeepsF a p) : Keeps a t := by
  subst e; exact h
theorem keepsO_of_eq {a t : State} {o : Option State} (e : o = some t) (h : KeepsO a o) : Keeps a t := h t e
theorem keepsOS_of_eq {a t : State} {α : Type} {o : Option (α × State)} {x : α} (e : o = some (x, t)) (h : KeepsOS a o) :
    Keeps a t := h x t e
theorem keepsW_of_done {a t : State} {w : WResult} (e : w = .done t) (h : KeepsW a w) : Keeps a t := by
  subst e; exact h
theorem keepsW_of_refused {a t : State} {w : WResult} {x y : Nat} (e : w = .refused x y t) (h : KeepsW a w) : Keeps a t := by
  subst e; exact h
theorem keepsW_of_wait {a t : State} {w : WResult} (e : w = .wait t) (h : KeepsW a w) : Keeps a t := by
  subst e; exact h
theorem keepsS_mk {a t : State} {α : Type} {x : α} (h : Keeps a t) : KeepsS a (x, t) := h
theorem keepsF_mk {a t : State} {α : Type} {x : α} (h : Keeps a t) : KeepsF a (t, x) := h
theorem keepsO_some {a t : State} (h : Keeps a t) : KeepsO a (some t) := fun _ e => Option.some.inj e ▸ h
theorem keepsO_none {a : State} : KeepsO a none := fun _ e => nomatch e
theorem keepsOS_none {a : State} {α : Type} : KeepsOS a (none : Option (α × State)) := fun _ _ e => nomatch e
theorem keepsOS_some {a t : State} {α : Type} {x : α} (h : Keeps a t) : KeepsOS a (some (x, t)) := fun _ _ e => by
  cases e; exact h
theorem keepsW_done {a t : State} (h : Keeps a t) : KeepsW a (.done t) := h
theorem keepsW_refused {a t : State} {x y : Nat} (h : Keeps a t) : KeepsW a (.refused x y t) := h
theorem keepsW_wait {a t : State} (h : Keeps a t) : KeepsW a (.wait t) := h
theorem keepsR_next {a t : State} (h : Keeps a t) : KeepsR a (.next t) := h
theorem keepsR_fault {a : State} {x : Fault} : KeepsR a (.fault x) := trivial

theorem forEach_keeps {a s : State} {α : Type} (l : List α) (f : α → State → State) (hf : ∀ x s, Keeps a s → Keeps a (f x s))
    (h : Keeps a s) : Keeps a (forEach l f s) := by
  unfold forEach
  induction l generalizing s with
  | nil => exact h
  | cons x l ih => exact ih (hf x s h)

theorem foldl_keeps {a s : State} {α : Type} (l : List α) (f : State → α → State) (hf : ∀ s x, Keeps a s → Keeps a (f s x))
    (h : Keeps a s) : Keeps a (l.foldl f s) := by
  induction l generalizing s with
  | nil => exact h
  | cons x l ih => exact ih (hf s x h)

theorem foldl_keepsS {a : State} {α β : Type} {p : β × State} (l : List α) (f : β × State → α → β × State)
    (hf : ∀ p x, KeepsS a p → KeepsS a (f p x)) (h : KeepsS a p) : KeepsS a (l.foldl f p) := by
  induction l generalizing p with
  | nil => exact h
  | cons x l ih => exact ih (hf p x h)

theorem foldl_keepsF {a : State} {α β : Type} {p : State × β} (l : List α) (f : State × β → α → State × β)
    (hf : ∀ p x, KeepsF a p → KeepsF a (f p x)) (h : KeepsF a p) : KeepsF a (l.foldl f p) := by
  induction l generalizing p with
  | nil => exact h
  | cons x l ih => exact ih (hf p x h)

end Sys2Proof.Machine
end

