-- ==== Sys2Proof/Laws/State.lean ====
section
/-!
SUPPORT. The small lemmas of the state's updates: which fields each update leaves alone, true by `rfl`, one lemma per field per
update; and what each update writes.
-/
namespace Sys2Proof.Machine

/-! ### `takeFree` writes free only -/
section
variable (s : State)
@[simp] theorem State.takeFree_now : (s.takeFree).now = s.now := rfl
@[simp] theorem State.takeFree_cfg : (s.takeFree).cfg = s.cfg := rfl
@[simp] theorem State.takeFree_power : (s.takeFree).power = s.power := rfl
@[simp] theorem State.takeFree_procs : (s.takeFree).procs = s.procs := rfl
@[simp] theorem State.takeFree_pins : (s.takeFree).pins = s.pins := rfl
@[simp] theorem State.takeFree_wrap : (s.takeFree).wrap = s.wrap := rfl
@[simp] theorem State.takeFree_obj : (s.takeFree).obj = s.obj := rfl
@[simp] theorem State.takeFree_mgmt : (s.takeFree).mgmt = s.mgmt := rfl
@[simp] theorem State.takeFree_hl : (s.takeFree).hl = s.hl := rfl
@[simp] theorem State.takeFree_dram : (s.takeFree).dram = s.dram := rfl
@[simp] theorem State.takeFree_sec : (s.takeFree).sec = s.sec := rfl
@[simp] theorem State.takeFree_fuses : (s.takeFree).fuses = s.fuses := rfl
@[simp] theorem State.takeFree_nvm : (s.takeFree).nvm = s.nvm := rfl
@[simp] theorem State.takeFree_out : (s.takeFree).out = s.out := rfl
@[simp] theorem State.takeFree_pending : (s.takeFree).pending = s.pending := rfl
@[simp] theorem State.takeFree_plans : (s.takeFree).plans = s.plans := rfl
@[simp] theorem State.takeFree_feeds : (s.takeFree).feeds = s.feeds := rfl
@[simp] theorem State.takeFree_path : (s.takeFree).path = s.path := rfl
@[simp] theorem State.takeFree_cache : (s.takeFree).cache = s.cache := rfl
@[simp] theorem State.takeFree_far : (s.takeFree).far = s.far := rfl
@[simp] theorem State.takeFree_syncs : (s.takeFree).syncs = s.syncs := rfl
@[simp] theorem State.takeFree_heat : (s.takeFree).heat = s.heat := rfl
@[simp] theorem State.takeFree_train : (s.takeFree).train = s.train := rfl
@[simp] theorem State.takeFree_clk : (s.takeFree).clk = s.clk := rfl
@[simp] theorem State.takeFree_upd : (s.takeFree).upd = s.upd := rfl
@[simp] theorem State.takeFree_sampler : (s.takeFree).sampler = s.sampler := rfl
end

/-! ### `setOb` writes obj only -/
section
variable (s : State) (idx sub v : Nat)
@[simp] theorem State.setOb_now : (s.setOb idx sub v).now = s.now := rfl
@[simp] theorem State.setOb_cfg : (s.setOb idx sub v).cfg = s.cfg := rfl
@[simp] theorem State.setOb_power : (s.setOb idx sub v).power = s.power := rfl
@[simp] theorem State.setOb_procs : (s.setOb idx sub v).procs = s.procs := rfl
@[simp] theorem State.setOb_pins : (s.setOb idx sub v).pins = s.pins := rfl
@[simp] theorem State.setOb_wrap : (s.setOb idx sub v).wrap = s.wrap := rfl
@[simp] theorem State.setOb_mgmt : (s.setOb idx sub v).mgmt = s.mgmt := rfl
@[simp] theorem State.setOb_hl : (s.setOb idx sub v).hl = s.hl := rfl
@[simp] theorem State.setOb_dram : (s.setOb idx sub v).dram = s.dram := rfl
@[simp] theorem State.setOb_sec : (s.setOb idx sub v).sec = s.sec := rfl
@[simp] theorem State.setOb_fuses : (s.setOb idx sub v).fuses = s.fuses := rfl
@[simp] theorem State.setOb_nvm : (s.setOb idx sub v).nvm = s.nvm := rfl
@[simp] theorem State.setOb_free : (s.setOb idx sub v).free = s.free := rfl
@[simp] theorem State.setOb_out : (s.setOb idx sub v).out = s.out := rfl
@[simp] theorem State.setOb_pending : (s.setOb idx sub v).pending = s.pending := rfl
@[simp] theorem State.setOb_plans : (s.setOb idx sub v).plans = s.plans := rfl
@[simp] theorem State.setOb_feeds : (s.setOb idx sub v).feeds = s.feeds := rfl
@[simp] theorem State.setOb_path : (s.setOb idx sub v).path = s.path := rfl
@[simp] theorem State.setOb_cache : (s.setOb idx sub v).cache = s.cache := rfl
@[simp] theorem State.setOb_far : (s.setOb idx sub v).far = s.far := rfl
@[simp] theorem State.setOb_syncs : (s.setOb idx sub v).syncs = s.syncs := rfl
@[simp] theorem State.setOb_heat : (s.setOb idx sub v).heat = s.heat := rfl
@[simp] theorem State.setOb_train : (s.setOb idx sub v).train = s.train := rfl
@[simp] theorem State.setOb_clk : (s.setOb idx sub v).clk = s.clk := rfl
@[simp] theorem State.setOb_upd : (s.setOb idx sub v).upd = s.upd := rfl
@[simp] theorem State.setOb_sampler : (s.setOb idx sub v).sampler = s.sampler := rfl
end

/-! ### `bumpBy` writes obj only -/
section
variable (s : State) (idx sub n : Nat)
@[simp] theorem State.bumpBy_now : (s.bumpBy idx sub n).now = s.now := rfl
@[simp] theorem State.bumpBy_cfg : (s.bumpBy idx sub n).cfg = s.cfg := rfl
@[simp] theorem State.bumpBy_power : (s.bumpBy idx sub n).power = s.power := rfl
@[simp] theorem State.bumpBy_procs : (s.bumpBy idx sub n).procs = s.procs := rfl
@[simp] theorem State.bumpBy_pins : (s.bumpBy idx sub n).pins = s.pins := rfl
@[simp] theorem State.bumpBy_wrap : (s.bumpBy idx sub n).wrap = s.wrap := rfl
@[simp] theorem State.bumpBy_mgmt : (s.bumpBy idx sub n).mgmt = s.mgmt := rfl
@[simp] theorem State.bumpBy_hl : (s.bumpBy idx sub n).hl = s.hl := rfl
@[simp] theorem State.bumpBy_dram : (s.bumpBy idx sub n).dram = s.dram := rfl
@[simp] theorem State.bumpBy_sec : (s.bumpBy idx sub n).sec = s.sec := rfl
@[simp] theorem State.bumpBy_fuses : (s.bumpBy idx sub n).fuses = s.fuses := rfl
@[simp] theorem State.bumpBy_nvm : (s.bumpBy idx sub n).nvm = s.nvm := rfl
@[simp] theorem State.bumpBy_free : (s.bumpBy idx sub n).free = s.free := rfl
@[simp] theorem State.bumpBy_out : (s.bumpBy idx sub n).out = s.out := rfl
@[simp] theorem State.bumpBy_pending : (s.bumpBy idx sub n).pending = s.pending := rfl
@[simp] theorem State.bumpBy_plans : (s.bumpBy idx sub n).plans = s.plans := rfl
@[simp] theorem State.bumpBy_feeds : (s.bumpBy idx sub n).feeds = s.feeds := rfl
@[simp] theorem State.bumpBy_path : (s.bumpBy idx sub n).path = s.path := rfl
@[simp] theorem State.bumpBy_cache : (s.bumpBy idx sub n).cache = s.cache := rfl
@[simp] theorem State.bumpBy_far : (s.bumpBy idx sub n).far = s.far := rfl
@[simp] theorem State.bumpBy_syncs : (s.bumpBy idx sub n).syncs = s.syncs := rfl
@[simp] theorem State.bumpBy_heat : (s.bumpBy idx sub n).heat = s.heat := rfl
@[simp] theorem State.bumpBy_train : (s.bumpBy idx sub n).train = s.train := rfl
@[simp] theorem State.bumpBy_clk : (s.bumpBy idx sub n).clk = s.clk := rfl
@[simp] theorem State.bumpBy_upd : (s.bumpBy idx sub n).upd = s.upd := rfl
@[simp] theorem State.bumpBy_sampler : (s.bumpBy idx sub n).sampler = s.sampler := rfl
end

/-! ### `bump` writes obj only -/
section
variable (s : State) (idx sub : Nat)
@[simp] theorem State.bump_now : (s.bump idx sub).now = s.now := rfl
@[simp] theorem State.bump_cfg : (s.bump idx sub).cfg = s.cfg := rfl
@[simp] theorem State.bump_power : (s.bump idx sub).power = s.power := rfl
@[simp] theorem State.bump_procs : (s.bump idx sub).procs = s.procs := rfl
@[simp] theorem State.bump_pins : (s.bump idx sub).pins = s.pins := rfl
@[simp] theorem State.bump_wrap : (s.bump idx sub).wrap = s.wrap := rfl
@[simp] theorem State.bump_mgmt : (s.bump idx sub).mgmt = s.mgmt := rfl
@[simp] theorem State.bump_hl : (s.bump idx sub).hl = s.hl := rfl
@[simp] theorem State.bump_dram : (s.bump idx sub).dram = s.dram := rfl
@[simp] theorem State.bump_sec : (s.bump idx sub).sec = s.sec := rfl
@[simp] theorem State.bump_fuses : (s.bump idx sub).fuses = s.fuses := rfl
@[simp] theorem State.bump_nvm : (s.bump idx sub).nvm = s.nvm := rfl
@[simp] theorem State.bump_free : (s.bump idx sub).free = s.free := rfl
@[simp] theorem State.bump_out : (s.bump idx sub).out = s.out := rfl
@[simp] theorem State.bump_pending : (s.bump idx sub).pending = s.pending := rfl
@[simp] theorem State.bump_plans : (s.bump idx sub).plans = s.plans := rfl
@[simp] theorem State.bump_feeds : (s.bump idx sub).feeds = s.feeds := rfl
@[simp] theorem State.bump_path : (s.bump idx sub).path = s.path := rfl
@[simp] theorem State.bump_cache : (s.bump idx sub).cache = s.cache := rfl
@[simp] theorem State.bump_far : (s.bump idx sub).far = s.far := rfl
@[simp] theorem State.bump_syncs : (s.bump idx sub).syncs = s.syncs := rfl
@[simp] theorem State.bump_heat : (s.bump idx sub).heat = s.heat := rfl
@[simp] theorem State.bump_train : (s.bump idx sub).train = s.train := rfl
@[simp] theorem State.bump_clk : (s.bump idx sub).clk = s.clk := rfl
@[simp] theorem State.bump_upd : (s.bump idx sub).upd = s.upd := rfl
@[simp] theorem State.bump_sampler : (s.bump idx sub).sampler = s.sampler := rfl
end

/-! ### `send` writes out only -/
section
variable (s : State) (o : Output)
@[simp] theorem State.send_now : (s.send o).now = s.now := rfl
@[simp] theorem State.send_cfg : (s.send o).cfg = s.cfg := rfl
@[simp] theorem State.send_power : (s.send o).power = s.power := rfl
@[simp] theorem State.send_procs : (s.send o).procs = s.procs := rfl
@[simp] theorem State.send_pins : (s.send o).pins = s.pins := rfl
@[simp] theorem State.send_wrap : (s.send o).wrap = s.wrap := rfl
@[simp] theorem State.send_obj : (s.send o).obj = s.obj := rfl
@[simp] theorem State.send_mgmt : (s.send o).mgmt = s.mgmt := rfl
@[simp] theorem State.send_hl : (s.send o).hl = s.hl := rfl
@[simp] theorem State.send_dram : (s.send o).dram = s.dram := rfl
@[simp] theorem State.send_sec : (s.send o).sec = s.sec := rfl
@[simp] theorem State.send_fuses : (s.send o).fuses = s.fuses := rfl
@[simp] theorem State.send_nvm : (s.send o).nvm = s.nvm := rfl
@[simp] theorem State.send_free : (s.send o).free = s.free := rfl
@[simp] theorem State.send_pending : (s.send o).pending = s.pending := rfl
@[simp] theorem State.send_plans : (s.send o).plans = s.plans := rfl
@[simp] theorem State.send_feeds : (s.send o).feeds = s.feeds := rfl
@[simp] theorem State.send_path : (s.send o).path = s.path := rfl
@[simp] theorem State.send_cache : (s.send o).cache = s.cache := rfl
@[simp] theorem State.send_far : (s.send o).far = s.far := rfl
@[simp] theorem State.send_syncs : (s.send o).syncs = s.syncs := rfl
@[simp] theorem State.send_heat : (s.send o).heat = s.heat := rfl
@[simp] theorem State.send_train : (s.send o).train = s.train := rfl
@[simp] theorem State.send_clk : (s.send o).clk = s.clk := rfl
@[simp] theorem State.send_upd : (s.send o).upd = s.upd := rfl
@[simp] theorem State.send_sampler : (s.send o).sampler = s.sampler := rfl
end

/-! ### `setPath` writes path only -/
section
variable (s : State) (p : Path)
@[simp] theorem State.setPath_now : (s.setPath p).now = s.now := rfl
@[simp] theorem State.setPath_cfg : (s.setPath p).cfg = s.cfg := rfl
@[simp] theorem State.setPath_power : (s.setPath p).power = s.power := rfl
@[simp] theorem State.setPath_procs : (s.setPath p).procs = s.procs := rfl
@[simp] theorem State.setPath_pins : (s.setPath p).pins = s.pins := rfl
@[simp] theorem State.setPath_wrap : (s.setPath p).wrap = s.wrap := rfl
@[simp] theorem State.setPath_obj : (s.setPath p).obj = s.obj := rfl
@[simp] theorem State.setPath_mgmt : (s.setPath p).mgmt = s.mgmt := rfl
@[simp] theorem State.setPath_hl : (s.setPath p).hl = s.hl := rfl
@[simp] theorem State.setPath_dram : (s.setPath p).dram = s.dram := rfl
@[simp] theorem State.setPath_sec : (s.setPath p).sec = s.sec := rfl
@[simp] theorem State.setPath_fuses : (s.setPath p).fuses = s.fuses := rfl
@[simp] theorem State.setPath_nvm : (s.setPath p).nvm = s.nvm := rfl
@[simp] theorem State.setPath_free : (s.setPath p).free = s.free := rfl
@[simp] theorem State.setPath_out : (s.setPath p).out = s.out := rfl
@[simp] theorem State.setPath_pending : (s.setPath p).pending = s.pending := rfl
@[simp] theorem State.setPath_plans : (s.setPath p).plans = s.plans := rfl
@[simp] theorem State.setPath_feeds : (s.setPath p).feeds = s.feeds := rfl
@[simp] theorem State.setPath_cache : (s.setPath p).cache = s.cache := rfl
@[simp] theorem State.setPath_far : (s.setPath p).far = s.far := rfl
@[simp] theorem State.setPath_syncs : (s.setPath p).syncs = s.syncs := rfl
@[simp] theorem State.setPath_heat : (s.setPath p).heat = s.heat := rfl
@[simp] theorem State.setPath_train : (s.setPath p).train = s.train := rfl
@[simp] theorem State.setPath_clk : (s.setPath p).clk = s.clk := rfl
@[simp] theorem State.setPath_upd : (s.setPath p).upd = s.upd := rfl
@[simp] theorem State.setPath_sampler : (s.setPath p).sampler = s.sampler := rfl
end

/-! ### `setChan` writes path only -/
section
variable (s : State) (c : Nat) (x : Chan)
@[simp] theorem State.setChan_now : (s.setChan c x).now = s.now := rfl
@[simp] theorem State.setChan_cfg : (s.setChan c x).cfg = s.cfg := rfl
@[simp] theorem State.setChan_power : (s.setChan c x).power = s.power := rfl
@[simp] theorem State.setChan_procs : (s.setChan c x).procs = s.procs := rfl
@[simp] theorem State.setChan_pins : (s.setChan c x).pins = s.pins := rfl
@[simp] theorem State.setChan_wrap : (s.setChan c x).wrap = s.wrap := rfl
@[simp] theorem State.setChan_obj : (s.setChan c x).obj = s.obj := rfl
@[simp] theorem State.setChan_mgmt : (s.setChan c x).mgmt = s.mgmt := rfl
@[simp] theorem State.setChan_hl : (s.setChan c x).hl = s.hl := rfl
@[simp] theorem State.setChan_dram : (s.setChan c x).dram = s.dram := rfl
@[simp] theorem State.setChan_sec : (s.setChan c x).sec = s.sec := rfl
@[simp] theorem State.setChan_fuses : (s.setChan c x).fuses = s.fuses := rfl
@[simp] theorem State.setChan_nvm : (s.setChan c x).nvm = s.nvm := rfl
@[simp] theorem State.setChan_free : (s.setChan c x).free = s.free := rfl
@[simp] theorem State.setChan_out : (s.setChan c x).out = s.out := rfl
@[simp] theorem State.setChan_pending : (s.setChan c x).pending = s.pending := rfl
@[simp] theorem State.setChan_plans : (s.setChan c x).plans = s.plans := rfl
@[simp] theorem State.setChan_feeds : (s.setChan c x).feeds = s.feeds := rfl
@[simp] theorem State.setChan_cache : (s.setChan c x).cache = s.cache := rfl
@[simp] theorem State.setChan_far : (s.setChan c x).far = s.far := rfl
@[simp] theorem State.setChan_syncs : (s.setChan c x).syncs = s.syncs := rfl
@[simp] theorem State.setChan_heat : (s.setChan c x).heat = s.heat := rfl
@[simp] theorem State.setChan_train : (s.setChan c x).train = s.train := rfl
@[simp] theorem State.setChan_clk : (s.setChan c x).clk = s.clk := rfl
@[simp] theorem State.setChan_upd : (s.setChan c x).upd = s.upd := rfl
@[simp] theorem State.setChan_sampler : (s.setChan c x).sampler = s.sampler := rfl
end

/-! ### `modChan` writes path only -/
section
variable (s : State) (c : Nat) (f : Chan → Chan)
@[simp] theorem State.modChan_now : (s.modChan c f).now = s.now := rfl
@[simp] theorem State.modChan_cfg : (s.modChan c f).cfg = s.cfg := rfl
@[simp] theorem State.modChan_power : (s.modChan c f).power = s.power := rfl
@[simp] theorem State.modChan_procs : (s.modChan c f).procs = s.procs := rfl
@[simp] theorem State.modChan_pins : (s.modChan c f).pins = s.pins := rfl
@[simp] theorem State.modChan_wrap : (s.modChan c f).wrap = s.wrap := rfl
@[simp] theorem State.modChan_obj : (s.modChan c f).obj = s.obj := rfl
@[simp] theorem State.modChan_mgmt : (s.modChan c f).mgmt = s.mgmt := rfl
@[simp] theorem State.modChan_hl : (s.modChan c f).hl = s.hl := rfl
@[simp] theorem State.modChan_dram : (s.modChan c f).dram = s.dram := rfl
@[simp] theorem State.modChan_sec : (s.modChan c f).sec = s.sec := rfl
@[simp] theorem State.modChan_fuses : (s.modChan c f).fuses = s.fuses := rfl
@[simp] theorem State.modChan_nvm : (s.modChan c f).nvm = s.nvm := rfl
@[simp] theorem State.modChan_free : (s.modChan c f).free = s.free := rfl
@[simp] theorem State.modChan_out : (s.modChan c f).out = s.out := rfl
@[simp] theorem State.modChan_pending : (s.modChan c f).pending = s.pending := rfl
@[simp] theorem State.modChan_plans : (s.modChan c f).plans = s.plans := rfl
@[simp] theorem State.modChan_feeds : (s.modChan c f).feeds = s.feeds := rfl
@[simp] theorem State.modChan_cache : (s.modChan c f).cache = s.cache := rfl
@[simp] theorem State.modChan_far : (s.modChan c f).far = s.far := rfl
@[simp] theorem State.modChan_syncs : (s.modChan c f).syncs = s.syncs := rfl
@[simp] theorem State.modChan_heat : (s.modChan c f).heat = s.heat := rfl
@[simp] theorem State.modChan_train : (s.modChan c f).train = s.train := rfl
@[simp] theorem State.modChan_clk : (s.modChan c f).clk = s.clk := rfl
@[simp] theorem State.modChan_upd : (s.modChan c f).upd = s.upd := rfl
@[simp] theorem State.modChan_sampler : (s.modChan c f).sampler = s.sampler := rfl
end

/-! ### `setChanState` writes obj only -/
section
variable (s : State) (c v : Nat)
@[simp] theorem State.setChanState_now : (s.setChanState c v).now = s.now := rfl
@[simp] theorem State.setChanState_cfg : (s.setChanState c v).cfg = s.cfg := rfl
@[simp] theorem State.setChanState_power : (s.setChanState c v).power = s.power := rfl
@[simp] theorem State.setChanState_procs : (s.setChanState c v).procs = s.procs := rfl
@[simp] theorem State.setChanState_pins : (s.setChanState c v).pins = s.pins := rfl
@[simp] theorem State.setChanState_wrap : (s.setChanState c v).wrap = s.wrap := rfl
@[simp] theorem State.setChanState_mgmt : (s.setChanState c v).mgmt = s.mgmt := rfl
@[simp] theorem State.setChanState_hl : (s.setChanState c v).hl = s.hl := rfl
@[simp] theorem State.setChanState_dram : (s.setChanState c v).dram = s.dram := rfl
@[simp] theorem State.setChanState_sec : (s.setChanState c v).sec = s.sec := rfl
@[simp] theorem State.setChanState_fuses : (s.setChanState c v).fuses = s.fuses := rfl
@[simp] theorem State.setChanState_nvm : (s.setChanState c v).nvm = s.nvm := rfl
@[simp] theorem State.setChanState_free : (s.setChanState c v).free = s.free := rfl
@[simp] theorem State.setChanState_out : (s.setChanState c v).out = s.out := rfl
@[simp] theorem State.setChanState_pending : (s.setChanState c v).pending = s.pending := rfl
@[simp] theorem State.setChanState_plans : (s.setChanState c v).plans = s.plans := rfl
@[simp] theorem State.setChanState_feeds : (s.setChanState c v).feeds = s.feeds := rfl
@[simp] theorem State.setChanState_path : (s.setChanState c v).path = s.path := rfl
@[simp] theorem State.setChanState_cache : (s.setChanState c v).cache = s.cache := rfl
@[simp] theorem State.setChanState_far : (s.setChanState c v).far = s.far := rfl
@[simp] theorem State.setChanState_syncs : (s.setChanState c v).syncs = s.syncs := rfl
@[simp] theorem State.setChanState_heat : (s.setChanState c v).heat = s.heat := rfl
@[simp] theorem State.setChanState_train : (s.setChanState c v).train = s.train := rfl
@[simp] theorem State.setChanState_clk : (s.setChanState c v).clk = s.clk := rfl
@[simp] theorem State.setChanState_upd : (s.setChanState c v).upd = s.upd := rfl
@[simp] theorem State.setChanState_sampler : (s.setChanState c v).sampler = s.sampler := rfl
end

/-! ### `takeOrder` writes path only -/
section
variable (s : State)
@[simp] theorem State.takeOrder_now : (s.takeOrder).now = s.now := rfl
@[simp] theorem State.takeOrder_cfg : (s.takeOrder).cfg = s.cfg := rfl
@[simp] theorem State.takeOrder_power : (s.takeOrder).power = s.power := rfl
@[simp] theorem State.takeOrder_procs : (s.takeOrder).procs = s.procs := rfl
@[simp] theorem State.takeOrder_pins : (s.takeOrder).pins = s.pins := rfl
@[simp] theorem State.takeOrder_wrap : (s.takeOrder).wrap = s.wrap := rfl
@[simp] theorem State.takeOrder_obj : (s.takeOrder).obj = s.obj := rfl
@[simp] theorem State.takeOrder_mgmt : (s.takeOrder).mgmt = s.mgmt := rfl
@[simp] theorem State.takeOrder_hl : (s.takeOrder).hl = s.hl := rfl
@[simp] theorem State.takeOrder_dram : (s.takeOrder).dram = s.dram := rfl
@[simp] theorem State.takeOrder_sec : (s.takeOrder).sec = s.sec := rfl
@[simp] theorem State.takeOrder_fuses : (s.takeOrder).fuses = s.fuses := rfl
@[simp] theorem State.takeOrder_nvm : (s.takeOrder).nvm = s.nvm := rfl
@[simp] theorem State.takeOrder_free : (s.takeOrder).free = s.free := rfl
@[simp] theorem State.takeOrder_out : (s.takeOrder).out = s.out := rfl
@[simp] theorem State.takeOrder_pending : (s.takeOrder).pending = s.pending := rfl
@[simp] theorem State.takeOrder_plans : (s.takeOrder).plans = s.plans := rfl
@[simp] theorem State.takeOrder_feeds : (s.takeOrder).feeds = s.feeds := rfl
@[simp] theorem State.takeOrder_cache : (s.takeOrder).cache = s.cache := rfl
@[simp] theorem State.takeOrder_far : (s.takeOrder).far = s.far := rfl
@[simp] theorem State.takeOrder_syncs : (s.takeOrder).syncs = s.syncs := rfl
@[simp] theorem State.takeOrder_heat : (s.takeOrder).heat = s.heat := rfl
@[simp] theorem State.takeOrder_train : (s.takeOrder).train = s.train := rfl
@[simp] theorem State.takeOrder_clk : (s.takeOrder).clk = s.clk := rfl
@[simp] theorem State.takeOrder_upd : (s.takeOrder).upd = s.upd := rfl
@[simp] theorem State.takeOrder_sampler : (s.takeOrder).sampler = s.sampler := rfl
end

/-! ### `setAsks` writes path only -/
section
variable (s : State) (l : List Ask)
@[simp] theorem State.setAsks_now : (s.setAsks l).now = s.now := rfl
@[simp] theorem State.setAsks_cfg : (s.setAsks l).cfg = s.cfg := rfl
@[simp] theorem State.setAsks_power : (s.setAsks l).power = s.power := rfl
@[simp] theorem State.setAsks_procs : (s.setAsks l).procs = s.procs := rfl
@[simp] theorem State.setAsks_pins : (s.setAsks l).pins = s.pins := rfl
@[simp] theorem State.setAsks_wrap : (s.setAsks l).wrap = s.wrap := rfl
@[simp] theorem State.setAsks_obj : (s.setAsks l).obj = s.obj := rfl
@[simp] theorem State.setAsks_mgmt : (s.setAsks l).mgmt = s.mgmt := rfl
@[simp] theorem State.setAsks_hl : (s.setAsks l).hl = s.hl := rfl
@[simp] theorem State.setAsks_dram : (s.setAsks l).dram = s.dram := rfl
@[simp] theorem State.setAsks_sec : (s.setAsks l).sec = s.sec := rfl
@[simp] theorem State.setAsks_fuses : (s.setAsks l).fuses = s.fuses := rfl
@[simp] theorem State.setAsks_nvm : (s.setAsks l).nvm = s.nvm := rfl
@[simp] theorem State.setAsks_free : (s.setAsks l).free = s.free := rfl
@[simp] theorem State.setAsks_out : (s.setAsks l).out = s.out := rfl
@[simp] theorem State.setAsks_pending : (s.setAsks l).pending = s.pending := rfl
@[simp] theorem State.setAsks_plans : (s.setAsks l).plans = s.plans := rfl
@[simp] theorem State.setAsks_feeds : (s.setAsks l).feeds = s.feeds := rfl
@[simp] theorem State.setAsks_cache : (s.setAsks l).cache = s.cache := rfl
@[simp] theorem State.setAsks_far : (s.setAsks l).far = s.far := rfl
@[simp] theorem State.setAsks_syncs : (s.setAsks l).syncs = s.syncs := rfl
@[simp] theorem State.setAsks_heat : (s.setAsks l).heat = s.heat := rfl
@[simp] theorem State.setAsks_train : (s.setAsks l).train = s.train := rfl
@[simp] theorem State.setAsks_clk : (s.setAsks l).clk = s.clk := rfl
@[simp] theorem State.setAsks_upd : (s.setAsks l).upd = s.upd := rfl
@[simp] theorem State.setAsks_sampler : (s.setAsks l).sampler = s.sampler := rfl
end

/-! ### `modAsk` writes path only -/
section
variable (s : State) (id : Nat) (f : Ask → Ask)
@[simp] theorem State.modAsk_now : (s.modAsk id f).now = s.now := rfl
@[simp] theorem State.modAsk_cfg : (s.modAsk id f).cfg = s.cfg := rfl
@[simp] theorem State.modAsk_power : (s.modAsk id f).power = s.power := rfl
@[simp] theorem State.modAsk_procs : (s.modAsk id f).procs = s.procs := rfl
@[simp] theorem State.modAsk_pins : (s.modAsk id f).pins = s.pins := rfl
@[simp] theorem State.modAsk_wrap : (s.modAsk id f).wrap = s.wrap := rfl
@[simp] theorem State.modAsk_obj : (s.modAsk id f).obj = s.obj := rfl
@[simp] theorem State.modAsk_mgmt : (s.modAsk id f).mgmt = s.mgmt := rfl
@[simp] theorem State.modAsk_hl : (s.modAsk id f).hl = s.hl := rfl
@[simp] theorem State.modAsk_dram : (s.modAsk id f).dram = s.dram := rfl
@[simp] theorem State.modAsk_sec : (s.modAsk id f).sec = s.sec := rfl
@[simp] theorem State.modAsk_fuses : (s.modAsk id f).fuses = s.fuses := rfl
@[simp] theorem State.modAsk_nvm : (s.modAsk id f).nvm = s.nvm := rfl
@[simp] theorem State.modAsk_free : (s.modAsk id f).free = s.free := rfl
@[simp] theorem State.modAsk_out : (s.modAsk id f).out = s.out := rfl
@[simp] theorem State.modAsk_pending : (s.modAsk id f).pending = s.pending := rfl
@[simp] theorem State.modAsk_plans : (s.modAsk id f).plans = s.plans := rfl
@[simp] theorem State.modAsk_feeds : (s.modAsk id f).feeds = s.feeds := rfl
@[simp] theorem State.modAsk_cache : (s.modAsk id f).cache = s.cache := rfl
@[simp] theorem State.modAsk_far : (s.modAsk id f).far = s.far := rfl
@[simp] theorem State.modAsk_syncs : (s.modAsk id f).syncs = s.syncs := rfl
@[simp] theorem State.modAsk_heat : (s.modAsk id f).heat = s.heat := rfl
@[simp] theorem State.modAsk_train : (s.modAsk id f).train = s.train := rfl
@[simp] theorem State.modAsk_clk : (s.modAsk id f).clk = s.clk := rfl
@[simp] theorem State.modAsk_upd : (s.modAsk id f).upd = s.upd := rfl
@[simp] theorem State.modAsk_sampler : (s.modAsk id f).sampler = s.sampler := rfl
end

/-! ### `setCache` writes cache only -/
section
variable (s : State) (c : Cache)
@[simp] theorem State.setCache_now : (s.setCache c).now = s.now := rfl
@[simp] theorem State.setCache_cfg : (s.setCache c).cfg = s.cfg := rfl
@[simp] theorem State.setCache_power : (s.setCache c).power = s.power := rfl
@[simp] theorem State.setCache_procs : (s.setCache c).procs = s.procs := rfl
@[simp] theorem State.setCache_pins : (s.setCache c).pins = s.pins := rfl
@[simp] theorem State.setCache_wrap : (s.setCache c).wrap = s.wrap := rfl
@[simp] theorem State.setCache_obj : (s.setCache c).obj = s.obj := rfl
@[simp] theorem State.setCache_mgmt : (s.setCache c).mgmt = s.mgmt := rfl
@[simp] theorem State.setCache_hl : (s.setCache c).hl = s.hl := rfl
@[simp] theorem State.setCache_dram : (s.setCache c).dram = s.dram := rfl
@[simp] theorem State.setCache_sec : (s.setCache c).sec = s.sec := rfl
@[simp] theorem State.setCache_fuses : (s.setCache c).fuses = s.fuses := rfl
@[simp] theorem State.setCache_nvm : (s.setCache c).nvm = s.nvm := rfl
@[simp] theorem State.setCache_free : (s.setCache c).free = s.free := rfl
@[simp] theorem State.setCache_out : (s.setCache c).out = s.out := rfl
@[simp] theorem State.setCache_pending : (s.setCache c).pending = s.pending := rfl
@[simp] theorem State.setCache_plans : (s.setCache c).plans = s.plans := rfl
@[simp] theorem State.setCache_feeds : (s.setCache c).feeds = s.feeds := rfl
@[simp] theorem State.setCache_path : (s.setCache c).path = s.path := rfl
@[simp] theorem State.setCache_far : (s.setCache c).far = s.far := rfl
@[simp] theorem State.setCache_syncs : (s.setCache c).syncs = s.syncs := rfl
@[simp] theorem State.setCache_heat : (s.setCache c).heat = s.heat := rfl
@[simp] theorem State.setCache_train : (s.setCache c).train = s.train := rfl
@[simp] theorem State.setCache_clk : (s.setCache c).clk = s.clk := rfl
@[simp] theorem State.setCache_upd : (s.setCache c).upd = s.upd := rfl
@[simp] theorem State.setCache_sampler : (s.setCache c).sampler = s.sampler := rfl
end

/-! ### `setWay` writes cache only -/
section
variable (s : State) (k : Nat) (w : Option CWay)
@[simp] theorem State.setWay_now : (s.setWay k w).now = s.now := rfl
@[simp] theorem State.setWay_cfg : (s.setWay k w).cfg = s.cfg := rfl
@[simp] theorem State.setWay_power : (s.setWay k w).power = s.power := rfl
@[simp] theorem State.setWay_procs : (s.setWay k w).procs = s.procs := rfl
@[simp] theorem State.setWay_pins : (s.setWay k w).pins = s.pins := rfl
@[simp] theorem State.setWay_wrap : (s.setWay k w).wrap = s.wrap := rfl
@[simp] theorem State.setWay_obj : (s.setWay k w).obj = s.obj := rfl
@[simp] theorem State.setWay_mgmt : (s.setWay k w).mgmt = s.mgmt := rfl
@[simp] theorem State.setWay_hl : (s.setWay k w).hl = s.hl := rfl
@[simp] theorem State.setWay_dram : (s.setWay k w).dram = s.dram := rfl
@[simp] theorem State.setWay_sec : (s.setWay k w).sec = s.sec := rfl
@[simp] theorem State.setWay_fuses : (s.setWay k w).fuses = s.fuses := rfl
@[simp] theorem State.setWay_nvm : (s.setWay k w).nvm = s.nvm := rfl
@[simp] theorem State.setWay_free : (s.setWay k w).free = s.free := rfl
@[simp] theorem State.setWay_out : (s.setWay k w).out = s.out := rfl
@[simp] theorem State.setWay_pending : (s.setWay k w).pending = s.pending := rfl
@[simp] theorem State.setWay_plans : (s.setWay k w).plans = s.plans := rfl
@[simp] theorem State.setWay_feeds : (s.setWay k w).feeds = s.feeds := rfl
@[simp] theorem State.setWay_path : (s.setWay k w).path = s.path := rfl
@[simp] theorem State.setWay_far : (s.setWay k w).far = s.far := rfl
@[simp] theorem State.setWay_syncs : (s.setWay k w).syncs = s.syncs := rfl
@[simp] theorem State.setWay_heat : (s.setWay k w).heat = s.heat := rfl
@[simp] theorem State.setWay_train : (s.setWay k w).train = s.train := rfl
@[simp] theorem State.setWay_clk : (s.setWay k w).clk = s.clk := rfl
@[simp] theorem State.setWay_upd : (s.setWay k w).upd = s.upd := rfl
@[simp] theorem State.setWay_sampler : (s.setWay k w).sampler = s.sampler := rfl
end

/-! ### `setReds` writes obj, cache only -/
section
variable (s : State) (l : List Red)
@[simp] theorem State.setReds_now : (s.setReds l).now = s.now := rfl
@[simp] theorem State.setReds_cfg : (s.setReds l).cfg = s.cfg := rfl
@[simp] theorem State.setReds_power : (s.setReds l).power = s.power := rfl
@[simp] theorem State.setReds_procs : (s.setReds l).procs = s.procs := rfl
@[simp] theorem State.setReds_pins : (s.setReds l).pins = s.pins := rfl
@[simp] theorem State.setReds_wrap : (s.setReds l).wrap = s.wrap := rfl
@[simp] theorem State.setReds_mgmt : (s.setReds l).mgmt = s.mgmt := rfl
@[simp] theorem State.setReds_hl : (s.setReds l).hl = s.hl := rfl
@[simp] theorem State.setReds_dram : (s.setReds l).dram = s.dram := rfl
@[simp] theorem State.setReds_sec : (s.setReds l).sec = s.sec := rfl
@[simp] theorem State.setReds_fuses : (s.setReds l).fuses = s.fuses := rfl
@[simp] theorem State.setReds_nvm : (s.setReds l).nvm = s.nvm := rfl
@[simp] theorem State.setReds_free : (s.setReds l).free = s.free := rfl
@[simp] theorem State.setReds_out : (s.setReds l).out = s.out := rfl
@[simp] theorem State.setReds_pending : (s.setReds l).pending = s.pending := rfl
@[simp] theorem State.setReds_plans : (s.setReds l).plans = s.plans := rfl
@[simp] theorem State.setReds_feeds : (s.setReds l).feeds = s.feeds := rfl
@[simp] theorem State.setReds_path : (s.setReds l).path = s.path := rfl
@[simp] theorem State.setReds_far : (s.setReds l).far = s.far := rfl
@[simp] theorem State.setReds_syncs : (s.setReds l).syncs = s.syncs := rfl
@[simp] theorem State.setReds_heat : (s.setReds l).heat = s.heat := rfl
@[simp] theorem State.setReds_train : (s.setReds l).train = s.train := rfl
@[simp] theorem State.setReds_clk : (s.setReds l).clk = s.clk := rfl
@[simp] theorem State.setReds_upd : (s.setReds l).upd = s.upd := rfl
@[simp] theorem State.setReds_sampler : (s.setReds l).sampler = s.sampler := rfl
end

/-! ### `modRed` writes obj, cache only -/
section
variable (s : State) (a : Nat) (f : Red → Red)
@[simp] theorem State.modRed_now : (s.modRed a f).now = s.now := rfl
@[simp] theorem State.modRed_cfg : (s.modRed a f).cfg = s.cfg := rfl
@[simp] theorem State.modRed_power : (s.modRed a f).power = s.power := rfl
@[simp] theorem State.modRed_procs : (s.modRed a f).procs = s.procs := rfl
@[simp] theorem State.modRed_pins : (s.modRed a f).pins = s.pins := rfl
@[simp] theorem State.modRed_wrap : (s.modRed a f).wrap = s.wrap := rfl
@[simp] theorem State.modRed_mgmt : (s.modRed a f).mgmt = s.mgmt := rfl
@[simp] theorem State.modRed_hl : (s.modRed a f).hl = s.hl := rfl
@[simp] theorem State.modRed_dram : (s.modRed a f).dram = s.dram := rfl
@[simp] theorem State.modRed_sec : (s.modRed a f).sec = s.sec := rfl
@[simp] theorem State.modRed_fuses : (s.modRed a f).fuses = s.fuses := rfl
@[simp] theorem State.modRed_nvm : (s.modRed a f).nvm = s.nvm := rfl
@[simp] theorem State.modRed_free : (s.modRed a f).free = s.free := rfl
@[simp] theorem State.modRed_out : (s.modRed a f).out = s.out := rfl
@[simp] theorem State.modRed_pending : (s.modRed a f).pending = s.pending := rfl
@[simp] theorem State.modRed_plans : (s.modRed a f).plans = s.plans := rfl
@[simp] theorem State.modRed_feeds : (s.modRed a f).feeds = s.feeds := rfl
@[simp] theorem State.modRed_path : (s.modRed a f).path = s.path := rfl
@[simp] theorem State.modRed_far : (s.modRed a f).far = s.far := rfl
@[simp] theorem State.modRed_syncs : (s.modRed a f).syncs = s.syncs := rfl
@[simp] theorem State.modRed_heat : (s.modRed a f).heat = s.heat := rfl
@[simp] theorem State.modRed_train : (s.modRed a f).train = s.train := rfl
@[simp] theorem State.modRed_clk : (s.modRed a f).clk = s.clk := rfl
@[simp] theorem State.modRed_upd : (s.modRed a f).upd = s.upd := rfl
@[simp] theorem State.modRed_sampler : (s.modRed a f).sampler = s.sampler := rfl
end

/-! ### `setClk` writes clk only -/
section
variable (s : State) (k : Clocks)
@[simp] theorem State.setClk_now : (s.setClk k).now = s.now := rfl
@[simp] theorem State.setClk_cfg : (s.setClk k).cfg = s.cfg := rfl
@[simp] theorem State.setClk_power : (s.setClk k).power = s.power := rfl
@[simp] theorem State.setClk_procs : (s.setClk k).procs = s.procs := rfl
@[simp] theorem State.setClk_pins : (s.setClk k).pins = s.pins := rfl
@[simp] theorem State.setClk_wrap : (s.setClk k).wrap = s.wrap := rfl
@[simp] theorem State.setClk_obj : (s.setClk k).obj = s.obj := rfl
@[simp] theorem State.setClk_mgmt : (s.setClk k).mgmt = s.mgmt := rfl
@[simp] theorem State.setClk_hl : (s.setClk k).hl = s.hl := rfl
@[simp] theorem State.setClk_dram : (s.setClk k).dram = s.dram := rfl
@[simp] theorem State.setClk_sec : (s.setClk k).sec = s.sec := rfl
@[simp] theorem State.setClk_fuses : (s.setClk k).fuses = s.fuses := rfl
@[simp] theorem State.setClk_nvm : (s.setClk k).nvm = s.nvm := rfl
@[simp] theorem State.setClk_free : (s.setClk k).free = s.free := rfl
@[simp] theorem State.setClk_out : (s.setClk k).out = s.out := rfl
@[simp] theorem State.setClk_pending : (s.setClk k).pending = s.pending := rfl
@[simp] theorem State.setClk_plans : (s.setClk k).plans = s.plans := rfl
@[simp] theorem State.setClk_feeds : (s.setClk k).feeds = s.feeds := rfl
@[simp] theorem State.setClk_path : (s.setClk k).path = s.path := rfl
@[simp] theorem State.setClk_cache : (s.setClk k).cache = s.cache := rfl
@[simp] theorem State.setClk_far : (s.setClk k).far = s.far := rfl
@[simp] theorem State.setClk_syncs : (s.setClk k).syncs = s.syncs := rfl
@[simp] theorem State.setClk_heat : (s.setClk k).heat = s.heat := rfl
@[simp] theorem State.setClk_train : (s.setClk k).train = s.train := rfl
@[simp] theorem State.setClk_upd : (s.setClk k).upd = s.upd := rfl
@[simp] theorem State.setClk_sampler : (s.setClk k).sampler = s.sampler := rfl
end

/-! ### `setSource` writes clk only -/
section
variable (s : State) (m : Nat) (x : SourceState)
@[simp] theorem State.setSource_now : (s.setSource m x).now = s.now := rfl
@[simp] theorem State.setSource_cfg : (s.setSource m x).cfg = s.cfg := rfl
@[simp] theorem State.setSource_power : (s.setSource m x).power = s.power := rfl
@[simp] theorem State.setSource_procs : (s.setSource m x).procs = s.procs := rfl
@[simp] theorem State.setSource_pins : (s.setSource m x).pins = s.pins := rfl
@[simp] theorem State.setSource_wrap : (s.setSource m x).wrap = s.wrap := rfl
@[simp] theorem State.setSource_obj : (s.setSource m x).obj = s.obj := rfl
@[simp] theorem State.setSource_mgmt : (s.setSource m x).mgmt = s.mgmt := rfl
@[simp] theorem State.setSource_hl : (s.setSource m x).hl = s.hl := rfl
@[simp] theorem State.setSource_dram : (s.setSource m x).dram = s.dram := rfl
@[simp] theorem State.setSource_sec : (s.setSource m x).sec = s.sec := rfl
@[simp] theorem State.setSource_fuses : (s.setSource m x).fuses = s.fuses := rfl
@[simp] theorem State.setSource_nvm : (s.setSource m x).nvm = s.nvm := rfl
@[simp] theorem State.setSource_free : (s.setSource m x).free = s.free := rfl
@[simp] theorem State.setSource_out : (s.setSource m x).out = s.out := rfl
@[simp] theorem State.setSource_pending : (s.setSource m x).pending = s.pending := rfl
@[simp] theorem State.setSource_plans : (s.setSource m x).plans = s.plans := rfl
@[simp] theorem State.setSource_feeds : (s.setSource m x).feeds = s.feeds := rfl
@[simp] theorem State.setSource_path : (s.setSource m x).path = s.path := rfl
@[simp] theorem State.setSource_cache : (s.setSource m x).cache = s.cache := rfl
@[simp] theorem State.setSource_far : (s.setSource m x).far = s.far := rfl
@[simp] theorem State.setSource_syncs : (s.setSource m x).syncs = s.syncs := rfl
@[simp] theorem State.setSource_heat : (s.setSource m x).heat = s.heat := rfl
@[simp] theorem State.setSource_train : (s.setSource m x).train = s.train := rfl
@[simp] theorem State.setSource_upd : (s.setSource m x).upd = s.upd := rfl
@[simp] theorem State.setSource_sampler : (s.setSource m x).sampler = s.sampler := rfl
end

/-! ### `setFeeds` writes feeds only -/
section
variable (s : State) (f : Feeds)
@[simp] theorem State.setFeeds_now : (s.setFeeds f).now = s.now := rfl
@[simp] theorem State.setFeeds_cfg : (s.setFeeds f).cfg = s.cfg := rfl
@[simp] theorem State.setFeeds_power : (s.setFeeds f).power = s.power := rfl
@[simp] theorem State.setFeeds_procs : (s.setFeeds f).procs = s.procs := rfl
@[simp] theorem State.setFeeds_pins : (s.setFeeds f).pins = s.pins := rfl
@[simp] theorem State.setFeeds_wrap : (s.setFeeds f).wrap = s.wrap := rfl
@[simp] theorem State.setFeeds_obj : (s.setFeeds f).obj = s.obj := rfl
@[simp] theorem State.setFeeds_mgmt : (s.setFeeds f).mgmt = s.mgmt := rfl
@[simp] theorem State.setFeeds_hl : (s.setFeeds f).hl = s.hl := rfl
@[simp] theorem State.setFeeds_dram : (s.setFeeds f).dram = s.dram := rfl
@[simp] theorem State.setFeeds_sec : (s.setFeeds f).sec = s.sec := rfl
@[simp] theorem State.setFeeds_fuses : (s.setFeeds f).fuses = s.fuses := rfl
@[simp] theorem State.setFeeds_nvm : (s.setFeeds f).nvm = s.nvm := rfl
@[simp] theorem State.setFeeds_free : (s.setFeeds f).free = s.free := rfl
@[simp] theorem State.setFeeds_out : (s.setFeeds f).out = s.out := rfl
@[simp] theorem State.setFeeds_pending : (s.setFeeds f).pending = s.pending := rfl
@[simp] theorem State.setFeeds_plans : (s.setFeeds f).plans = s.plans := rfl
@[simp] theorem State.setFeeds_path : (s.setFeeds f).path = s.path := rfl
@[simp] theorem State.setFeeds_cache : (s.setFeeds f).cache = s.cache := rfl
@[simp] theorem State.setFeeds_far : (s.setFeeds f).far = s.far := rfl
@[simp] theorem State.setFeeds_syncs : (s.setFeeds f).syncs = s.syncs := rfl
@[simp] theorem State.setFeeds_heat : (s.setFeeds f).heat = s.heat := rfl
@[simp] theorem State.setFeeds_train : (s.setFeeds f).train = s.train := rfl
@[simp] theorem State.setFeeds_clk : (s.setFeeds f).clk = s.clk := rfl
@[simp] theorem State.setFeeds_upd : (s.setFeeds f).upd = s.upd := rfl
@[simp] theorem State.setFeeds_sampler : (s.setFeeds f).sampler = s.sampler := rfl
end

/-! ### `setPool` writes feeds only -/
section
variable (s : State) (r : Nat) (p : Nat × Nat × Nat × Nat)
@[simp] theorem State.setPool_now : (s.setPool r p).now = s.now := rfl
@[simp] theorem State.setPool_cfg : (s.setPool r p).cfg = s.cfg := rfl
@[simp] theorem State.setPool_power : (s.setPool r p).power = s.power := rfl
@[simp] theorem State.setPool_procs : (s.setPool r p).procs = s.procs := rfl
@[simp] theorem State.setPool_pins : (s.setPool r p).pins = s.pins := rfl
@[simp] theorem State.setPool_wrap : (s.setPool r p).wrap = s.wrap := rfl
@[simp] theorem State.setPool_obj : (s.setPool r p).obj = s.obj := rfl
@[simp] theorem State.setPool_mgmt : (s.setPool r p).mgmt = s.mgmt := rfl
@[simp] theorem State.setPool_hl : (s.setPool r p).hl = s.hl := rfl
@[simp] theorem State.setPool_dram : (s.setPool r p).dram = s.dram := rfl
@[simp] theorem State.setPool_sec : (s.setPool r p).sec = s.sec := rfl
@[simp] theorem State.setPool_fuses : (s.setPool r p).fuses = s.fuses := rfl
@[simp] theorem State.setPool_nvm : (s.setPool r p).nvm = s.nvm := rfl
@[simp] theorem State.setPool_free : (s.setPool r p).free = s.free := rfl
@[simp] theorem State.setPool_out : (s.setPool r p).out = s.out := rfl
@[simp] theorem State.setPool_pending : (s.setPool r p).pending = s.pending := rfl
@[simp] theorem State.setPool_plans : (s.setPool r p).plans = s.plans := rfl
@[simp] theorem State.setPool_path : (s.setPool r p).path = s.path := rfl
@[simp] theorem State.setPool_cache : (s.setPool r p).cache = s.cache := rfl
@[simp] theorem State.setPool_far : (s.setPool r p).far = s.far := rfl
@[simp] theorem State.setPool_syncs : (s.setPool r p).syncs = s.syncs := rfl
@[simp] theorem State.setPool_heat : (s.setPool r p).heat = s.heat := rfl
@[simp] theorem State.setPool_train : (s.setPool r p).train = s.train := rfl
@[simp] theorem State.setPool_clk : (s.setPool r p).clk = s.clk := rfl
@[simp] theorem State.setPool_upd : (s.setPool r p).upd = s.upd := rfl
@[simp] theorem State.setPool_sampler : (s.setPool r p).sampler = s.sampler := rfl
end

/-! ### `modStream` writes feeds only -/
section
variable (s : State) (n : Nat) (f : Stream → Stream)
@[simp] theorem State.modStream_now : (s.modStream n f).now = s.now := rfl
@[simp] theorem State.modStream_cfg : (s.modStream n f).cfg = s.cfg := rfl
@[simp] theorem State.modStream_power : (s.modStream n f).power = s.power := rfl
@[simp] theorem State.modStream_procs : (s.modStream n f).procs = s.procs := rfl
@[simp] theorem State.modStream_pins : (s.modStream n f).pins = s.pins := rfl
@[simp] theorem State.modStream_wrap : (s.modStream n f).wrap = s.wrap := rfl
@[simp] theorem State.modStream_obj : (s.modStream n f).obj = s.obj := rfl
@[simp] theorem State.modStream_mgmt : (s.modStream n f).mgmt = s.mgmt := rfl
@[simp] theorem State.modStream_hl : (s.modStream n f).hl = s.hl := rfl
@[simp] theorem State.modStream_dram : (s.modStream n f).dram = s.dram := rfl
@[simp] theorem State.modStream_sec : (s.modStream n f).sec = s.sec := rfl
@[simp] theorem State.modStream_fuses : (s.modStream n f).fuses = s.fuses := rfl
@[simp] theorem State.modStream_nvm : (s.modStream n f).nvm = s.nvm := rfl
@[simp] theorem State.modStream_free : (s.modStream n f).free = s.free := rfl
@[simp] theorem State.modStream_out : (s.modStream n f).out = s.out := rfl
@[simp] theorem State.modStream_pending : (s.modStream n f).pending = s.pending := rfl
@[simp] theorem State.modStream_plans : (s.modStream n f).plans = s.plans := rfl
@[simp] theorem State.modStream_path : (s.modStream n f).path = s.path := rfl
@[simp] theorem State.modStream_cache : (s.modStream n f).cache = s.cache := rfl
@[simp] theorem State.modStream_far : (s.modStream n f).far = s.far := rfl
@[simp] theorem State.modStream_syncs : (s.modStream n f).syncs = s.syncs := rfl
@[simp] theorem State.modStream_heat : (s.modStream n f).heat = s.heat := rfl
@[simp] theorem State.modStream_train : (s.modStream n f).train = s.train := rfl
@[simp] theorem State.modStream_clk : (s.modStream n f).clk = s.clk := rfl
@[simp] theorem State.modStream_upd : (s.modStream n f).upd = s.upd := rfl
@[simp] theorem State.modStream_sampler : (s.modStream n f).sampler = s.sampler := rfl
end

/-! ### `modOld` writes feeds only -/
section
variable (s : State) (n : Nat) (f : Stream → Stream)
@[simp] theorem State.modOld_now : (s.modOld n f).now = s.now := rfl
@[simp] theorem State.modOld_cfg : (s.modOld n f).cfg = s.cfg := rfl
@[simp] theorem State.modOld_power : (s.modOld n f).power = s.power := rfl
@[simp] theorem State.modOld_procs : (s.modOld n f).procs = s.procs := rfl
@[simp] theorem State.modOld_pins : (s.modOld n f).pins = s.pins := rfl
@[simp] theorem State.modOld_wrap : (s.modOld n f).wrap = s.wrap := rfl
@[simp] theorem State.modOld_obj : (s.modOld n f).obj = s.obj := rfl
@[simp] theorem State.modOld_mgmt : (s.modOld n f).mgmt = s.mgmt := rfl
@[simp] theorem State.modOld_hl : (s.modOld n f).hl = s.hl := rfl
@[simp] theorem State.modOld_dram : (s.modOld n f).dram = s.dram := rfl
@[simp] theorem State.modOld_sec : (s.modOld n f).sec = s.sec := rfl
@[simp] theorem State.modOld_fuses : (s.modOld n f).fuses = s.fuses := rfl
@[simp] theorem State.modOld_nvm : (s.modOld n f).nvm = s.nvm := rfl
@[simp] theorem State.modOld_free : (s.modOld n f).free = s.free := rfl
@[simp] theorem State.modOld_out : (s.modOld n f).out = s.out := rfl
@[simp] theorem State.modOld_pending : (s.modOld n f).pending = s.pending := rfl
@[simp] theorem State.modOld_plans : (s.modOld n f).plans = s.plans := rfl
@[simp] theorem State.modOld_path : (s.modOld n f).path = s.path := rfl
@[simp] theorem State.modOld_cache : (s.modOld n f).cache = s.cache := rfl
@[simp] theorem State.modOld_far : (s.modOld n f).far = s.far := rfl
@[simp] theorem State.modOld_syncs : (s.modOld n f).syncs = s.syncs := rfl
@[simp] theorem State.modOld_heat : (s.modOld n f).heat = s.heat := rfl
@[simp] theorem State.modOld_train : (s.modOld n f).train = s.train := rfl
@[simp] theorem State.modOld_clk : (s.modOld n f).clk = s.clk := rfl
@[simp] theorem State.modOld_upd : (s.modOld n f).upd = s.upd := rfl
@[simp] theorem State.modOld_sampler : (s.modOld n f).sampler = s.sampler := rfl
end

/-! ### `modFeed` writes feeds only -/
section
variable (s : State) (n num : Nat) (f : FeedLine → FeedLine)
@[simp] theorem State.modFeed_now : (s.modFeed n num f).now = s.now := rfl
@[simp] theorem State.modFeed_cfg : (s.modFeed n num f).cfg = s.cfg := rfl
@[simp] theorem State.modFeed_power : (s.modFeed n num f).power = s.power := rfl
@[simp] theorem State.modFeed_procs : (s.modFeed n num f).procs = s.procs := rfl
@[simp] theorem State.modFeed_pins : (s.modFeed n num f).pins = s.pins := rfl
@[simp] theorem State.modFeed_wrap : (s.modFeed n num f).wrap = s.wrap := rfl
@[simp] theorem State.modFeed_obj : (s.modFeed n num f).obj = s.obj := rfl
@[simp] theorem State.modFeed_mgmt : (s.modFeed n num f).mgmt = s.mgmt := rfl
@[simp] theorem State.modFeed_hl : (s.modFeed n num f).hl = s.hl := rfl
@[simp] theorem State.modFeed_dram : (s.modFeed n num f).dram = s.dram := rfl
@[simp] theorem State.modFeed_sec : (s.modFeed n num f).sec = s.sec := rfl
@[simp] theorem State.modFeed_fuses : (s.modFeed n num f).fuses = s.fuses := rfl
@[simp] theorem State.modFeed_nvm : (s.modFeed n num f).nvm = s.nvm := rfl
@[simp] theorem State.modFeed_free : (s.modFeed n num f).free = s.free := rfl
@[simp] theorem State.modFeed_out : (s.modFeed n num f).out = s.out := rfl
@[simp] theorem State.modFeed_pending : (s.modFeed n num f).pending = s.pending := rfl
@[simp] theorem State.modFeed_plans : (s.modFeed n num f).plans = s.plans := rfl
@[simp] theorem State.modFeed_path : (s.modFeed n num f).path = s.path := rfl
@[simp] theorem State.modFeed_cache : (s.modFeed n num f).cache = s.cache := rfl
@[simp] theorem State.modFeed_far : (s.modFeed n num f).far = s.far := rfl
@[simp] theorem State.modFeed_syncs : (s.modFeed n num f).syncs = s.syncs := rfl
@[simp] theorem State.modFeed_heat : (s.modFeed n num f).heat = s.heat := rfl
@[simp] theorem State.modFeed_train : (s.modFeed n num f).train = s.train := rfl
@[simp] theorem State.modFeed_clk : (s.modFeed n num f).clk = s.clk := rfl
@[simp] theorem State.modFeed_upd : (s.modFeed n num f).upd = s.upd := rfl
@[simp] theorem State.modFeed_sampler : (s.modFeed n num f).sampler = s.sampler := rfl
end

/-! ### `setSampler` writes sampler only -/
section
variable (s : State) (x : Sampler)
@[simp] theorem State.setSampler_now : (s.setSampler x).now = s.now := rfl
@[simp] theorem State.setSampler_cfg : (s.setSampler x).cfg = s.cfg := rfl
@[simp] theorem State.setSampler_power : (s.setSampler x).power = s.power := rfl
@[simp] theorem State.setSampler_procs : (s.setSampler x).procs = s.procs := rfl
@[simp] theorem State.setSampler_pins : (s.setSampler x).pins = s.pins := rfl
@[simp] theorem State.setSampler_wrap : (s.setSampler x).wrap = s.wrap := rfl
@[simp] theorem State.setSampler_obj : (s.setSampler x).obj = s.obj := rfl
@[simp] theorem State.setSampler_mgmt : (s.setSampler x).mgmt = s.mgmt := rfl
@[simp] theorem State.setSampler_hl : (s.setSampler x).hl = s.hl := rfl
@[simp] theorem State.setSampler_dram : (s.setSampler x).dram = s.dram := rfl
@[simp] theorem State.setSampler_sec : (s.setSampler x).sec = s.sec := rfl
@[simp] theorem State.setSampler_fuses : (s.setSampler x).fuses = s.fuses := rfl
@[simp] theorem State.setSampler_nvm : (s.setSampler x).nvm = s.nvm := rfl
@[simp] theorem State.setSampler_free : (s.setSampler x).free = s.free := rfl
@[simp] theorem State.setSampler_out : (s.setSampler x).out = s.out := rfl
@[simp] theorem State.setSampler_pending : (s.setSampler x).pending = s.pending := rfl
@[simp] theorem State.setSampler_plans : (s.setSampler x).plans = s.plans := rfl
@[simp] theorem State.setSampler_feeds : (s.setSampler x).feeds = s.feeds := rfl
@[simp] theorem State.setSampler_path : (s.setSampler x).path = s.path := rfl
@[simp] theorem State.setSampler_cache : (s.setSampler x).cache = s.cache := rfl
@[simp] theorem State.setSampler_far : (s.setSampler x).far = s.far := rfl
@[simp] theorem State.setSampler_syncs : (s.setSampler x).syncs = s.syncs := rfl
@[simp] theorem State.setSampler_heat : (s.setSampler x).heat = s.heat := rfl
@[simp] theorem State.setSampler_train : (s.setSampler x).train = s.train := rfl
@[simp] theorem State.setSampler_clk : (s.setSampler x).clk = s.clk := rfl
@[simp] theorem State.setSampler_upd : (s.setSampler x).upd = s.upd := rfl
end

/-! ### `setWrites` writes mgmt only -/
section
variable (s : State) (l : List SetWrite)
@[simp] theorem State.setWrites_now : (s.setWrites l).now = s.now := rfl
@[simp] theorem State.setWrites_cfg : (s.setWrites l).cfg = s.cfg := rfl
@[simp] theorem State.setWrites_power : (s.setWrites l).power = s.power := rfl
@[simp] theorem State.setWrites_procs : (s.setWrites l).procs = s.procs := rfl
@[simp] theorem State.setWrites_pins : (s.setWrites l).pins = s.pins := rfl
@[simp] theorem State.setWrites_wrap : (s.setWrites l).wrap = s.wrap := rfl
@[simp] theorem State.setWrites_obj : (s.setWrites l).obj = s.obj := rfl
@[simp] theorem State.setWrites_hl : (s.setWrites l).hl = s.hl := rfl
@[simp] theorem State.setWrites_dram : (s.setWrites l).dram = s.dram := rfl
@[simp] theorem State.setWrites_sec : (s.setWrites l).sec = s.sec := rfl
@[simp] theorem State.setWrites_fuses : (s.setWrites l).fuses = s.fuses := rfl
@[simp] theorem State.setWrites_nvm : (s.setWrites l).nvm = s.nvm := rfl
@[simp] theorem State.setWrites_free : (s.setWrites l).free = s.free := rfl
@[simp] theorem State.setWrites_out : (s.setWrites l).out = s.out := rfl
@[simp] theorem State.setWrites_pending : (s.setWrites l).pending = s.pending := rfl
@[simp] theorem State.setWrites_plans : (s.setWrites l).plans = s.plans := rfl
@[simp] theorem State.setWrites_feeds : (s.setWrites l).feeds = s.feeds := rfl
@[simp] theorem State.setWrites_path : (s.setWrites l).path = s.path := rfl
@[simp] theorem State.setWrites_cache : (s.setWrites l).cache = s.cache := rfl
@[simp] theorem State.setWrites_far : (s.setWrites l).far = s.far := rfl
@[simp] theorem State.setWrites_syncs : (s.setWrites l).syncs = s.syncs := rfl
@[simp] theorem State.setWrites_heat : (s.setWrites l).heat = s.heat := rfl
@[simp] theorem State.setWrites_train : (s.setWrites l).train = s.train := rfl
@[simp] theorem State.setWrites_clk : (s.setWrites l).clk = s.clk := rfl
@[simp] theorem State.setWrites_upd : (s.setWrites l).upd = s.upd := rfl
@[simp] theorem State.setWrites_sampler : (s.setWrites l).sampler = s.sampler := rfl
end

/-! ### `setSegments` writes mgmt only -/
section
variable (s : State) (l : List Segment)
@[simp] theorem State.setSegments_now : (s.setSegments l).now = s.now := rfl
@[simp] theorem State.setSegments_cfg : (s.setSegments l).cfg = s.cfg := rfl
@[simp] theorem State.setSegments_power : (s.setSegments l).power = s.power := rfl
@[simp] theorem State.setSegments_procs : (s.setSegments l).procs = s.procs := rfl
@[simp] theorem State.setSegments_pins : (s.setSegments l).pins = s.pins := rfl
@[simp] theorem State.setSegments_wrap : (s.setSegments l).wrap = s.wrap := rfl
@[simp] theorem State.setSegments_obj : (s.setSegments l).obj = s.obj := rfl
@[simp] theorem State.setSegments_hl : (s.setSegments l).hl = s.hl := rfl
@[simp] theorem State.setSegments_dram : (s.setSegments l).dram = s.dram := rfl
@[simp] theorem State.setSegments_sec : (s.setSegments l).sec = s.sec := rfl
@[simp] theorem State.setSegments_fuses : (s.setSegments l).fuses = s.fuses := rfl
@[simp] theorem State.setSegments_nvm : (s.setSegments l).nvm = s.nvm := rfl
@[simp] theorem State.setSegments_free : (s.setSegments l).free = s.free := rfl
@[simp] theorem State.setSegments_out : (s.setSegments l).out = s.out := rfl
@[simp] theorem State.setSegments_pending : (s.setSegments l).pending = s.pending := rfl
@[simp] theorem State.setSegments_plans : (s.setSegments l).plans = s.plans := rfl
@[simp] theorem State.setSegments_feeds : (s.setSegments l).feeds = s.feeds := rfl
@[simp] theorem State.setSegments_path : (s.setSegments l).path = s.path := rfl
@[simp] theorem State.setSegments_cache : (s.setSegments l).cache = s.cache := rfl
@[simp] theorem State.setSegments_far : (s.setSegments l).far = s.far := rfl
@[simp] theorem State.setSegments_syncs : (s.setSegments l).syncs = s.syncs := rfl
@[simp] theorem State.setSegments_heat : (s.setSegments l).heat = s.heat := rfl
@[simp] theorem State.setSegments_train : (s.setSegments l).train = s.train := rfl
@[simp] theorem State.setSegments_clk : (s.setSegments l).clk = s.clk := rfl
@[simp] theorem State.setSegments_upd : (s.setSegments l).upd = s.upd := rfl
@[simp] theorem State.setSegments_sampler : (s.setSegments l).sampler = s.sampler := rfl
end

/-! ### `setNotifyQ` writes mgmt only -/
section
variable (s : State) (n : Nat) (q : NotifyQueue)
@[simp] theorem State.setNotifyQ_now : (s.setNotifyQ n q).now = s.now := rfl
@[simp] theorem State.setNotifyQ_cfg : (s.setNotifyQ n q).cfg = s.cfg := rfl
@[simp] theorem State.setNotifyQ_power : (s.setNotifyQ n q).power = s.power := rfl
@[simp] theorem State.setNotifyQ_procs : (s.setNotifyQ n q).procs = s.procs := rfl
@[simp] theorem State.setNotifyQ_pins : (s.setNotifyQ n q).pins = s.pins := rfl
@[simp] theorem State.setNotifyQ_wrap : (s.setNotifyQ n q).wrap = s.wrap := rfl
@[simp] theorem State.setNotifyQ_obj : (s.setNotifyQ n q).obj = s.obj := rfl
@[simp] theorem State.setNotifyQ_hl : (s.setNotifyQ n q).hl = s.hl := rfl
@[simp] theorem State.setNotifyQ_dram : (s.setNotifyQ n q).dram = s.dram := rfl
@[simp] theorem State.setNotifyQ_sec : (s.setNotifyQ n q).sec = s.sec := rfl
@[simp] theorem State.setNotifyQ_fuses : (s.setNotifyQ n q).fuses = s.fuses := rfl
@[simp] theorem State.setNotifyQ_nvm : (s.setNotifyQ n q).nvm = s.nvm := rfl
@[simp] theorem State.setNotifyQ_free : (s.setNotifyQ n q).free = s.free := rfl
@[simp] theorem State.setNotifyQ_out : (s.setNotifyQ n q).out = s.out := rfl
@[simp] theorem State.setNotifyQ_pending : (s.setNotifyQ n q).pending = s.pending := rfl
@[simp] theorem State.setNotifyQ_plans : (s.setNotifyQ n q).plans = s.plans := rfl
@[simp] theorem State.setNotifyQ_feeds : (s.setNotifyQ n q).feeds = s.feeds := rfl
@[simp] theorem State.setNotifyQ_path : (s.setNotifyQ n q).path = s.path := rfl
@[simp] theorem State.setNotifyQ_cache : (s.setNotifyQ n q).cache = s.cache := rfl
@[simp] theorem State.setNotifyQ_far : (s.setNotifyQ n q).far = s.far := rfl
@[simp] theorem State.setNotifyQ_syncs : (s.setNotifyQ n q).syncs = s.syncs := rfl
@[simp] theorem State.setNotifyQ_heat : (s.setNotifyQ n q).heat = s.heat := rfl
@[simp] theorem State.setNotifyQ_train : (s.setNotifyQ n q).train = s.train := rfl
@[simp] theorem State.setNotifyQ_clk : (s.setNotifyQ n q).clk = s.clk := rfl
@[simp] theorem State.setNotifyQ_upd : (s.setNotifyQ n q).upd = s.upd := rfl
@[simp] theorem State.setNotifyQ_sampler : (s.setNotifyQ n q).sampler = s.sampler := rfl
end

/-! ### `setFar` writes far only -/
section
variable (s : State) (f : Far)
@[simp] theorem State.setFar_now : (s.setFar f).now = s.now := rfl
@[simp] theorem State.setFar_cfg : (s.setFar f).cfg = s.cfg := rfl
@[simp] theorem State.setFar_power : (s.setFar f).power = s.power := rfl
@[simp] theorem State.setFar_procs : (s.setFar f).procs = s.procs := rfl
@[simp] theorem State.setFar_pins : (s.setFar f).pins = s.pins := rfl
@[simp] theorem State.setFar_wrap : (s.setFar f).wrap = s.wrap := rfl
@[simp] theorem State.setFar_obj : (s.setFar f).obj = s.obj := rfl
@[simp] theorem State.setFar_mgmt : (s.setFar f).mgmt = s.mgmt := rfl
@[simp] theorem State.setFar_hl : (s.setFar f).hl = s.hl := rfl
@[simp] theorem State.setFar_dram : (s.setFar f).dram = s.dram := rfl
@[simp] theorem State.setFar_sec : (s.setFar f).sec = s.sec := rfl
@[simp] theorem State.setFar_fuses : (s.setFar f).fuses = s.fuses := rfl
@[simp] theorem State.setFar_nvm : (s.setFar f).nvm = s.nvm := rfl
@[simp] theorem State.setFar_free : (s.setFar f).free = s.free := rfl
@[simp] theorem State.setFar_out : (s.setFar f).out = s.out := rfl
@[simp] theorem State.setFar_pending : (s.setFar f).pending = s.pending := rfl
@[simp] theorem State.setFar_plans : (s.setFar f).plans = s.plans := rfl
@[simp] theorem State.setFar_feeds : (s.setFar f).feeds = s.feeds := rfl
@[simp] theorem State.setFar_path : (s.setFar f).path = s.path := rfl
@[simp] theorem State.setFar_cache : (s.setFar f).cache = s.cache := rfl
@[simp] theorem State.setFar_syncs : (s.setFar f).syncs = s.syncs := rfl
@[simp] theorem State.setFar_heat : (s.setFar f).heat = s.heat := rfl
@[simp] theorem State.setFar_train : (s.setFar f).train = s.train := rfl
@[simp] theorem State.setFar_clk : (s.setFar f).clk = s.clk := rfl
@[simp] theorem State.setFar_upd : (s.setFar f).upd = s.upd := rfl
@[simp] theorem State.setFar_sampler : (s.setFar f).sampler = s.sampler := rfl
end

/-! ### `modBale` writes far only -/
section
variable (s : State) (b : Nat) (f : Bale → Bale)
@[simp] theorem State.modBale_now : (s.modBale b f).now = s.now := rfl
@[simp] theorem State.modBale_cfg : (s.modBale b f).cfg = s.cfg := rfl
@[simp] theorem State.modBale_power : (s.modBale b f).power = s.power := rfl
@[simp] theorem State.modBale_procs : (s.modBale b f).procs = s.procs := rfl
@[simp] theorem State.modBale_pins : (s.modBale b f).pins = s.pins := rfl
@[simp] theorem State.modBale_wrap : (s.modBale b f).wrap = s.wrap := rfl
@[simp] theorem State.modBale_obj : (s.modBale b f).obj = s.obj := rfl
@[simp] theorem State.modBale_mgmt : (s.modBale b f).mgmt = s.mgmt := rfl
@[simp] theorem State.modBale_hl : (s.modBale b f).hl = s.hl := rfl
@[simp] theorem State.modBale_dram : (s.modBale b f).dram = s.dram := rfl
@[simp] theorem State.modBale_sec : (s.modBale b f).sec = s.sec := rfl
@[simp] theorem State.modBale_fuses : (s.modBale b f).fuses = s.fuses := rfl
@[simp] theorem State.modBale_nvm : (s.modBale b f).nvm = s.nvm := rfl
@[simp] theorem State.modBale_free : (s.modBale b f).free = s.free := rfl
@[simp] theorem State.modBale_out : (s.modBale b f).out = s.out := rfl
@[simp] theorem State.modBale_pending : (s.modBale b f).pending = s.pending := rfl
@[simp] theorem State.modBale_plans : (s.modBale b f).plans = s.plans := rfl
@[simp] theorem State.modBale_feeds : (s.modBale b f).feeds = s.feeds := rfl
@[simp] theorem State.modBale_path : (s.modBale b f).path = s.path := rfl
@[simp] theorem State.modBale_cache : (s.modBale b f).cache = s.cache := rfl
@[simp] theorem State.modBale_syncs : (s.modBale b f).syncs = s.syncs := rfl
@[simp] theorem State.modBale_heat : (s.modBale b f).heat = s.heat := rfl
@[simp] theorem State.modBale_train : (s.modBale b f).train = s.train := rfl
@[simp] theorem State.modBale_clk : (s.modBale b f).clk = s.clk := rfl
@[simp] theorem State.modBale_upd : (s.modBale b f).upd = s.upd := rfl
@[simp] theorem State.modBale_sampler : (s.modBale b f).sampler = s.sampler := rfl
end

/-! ### `modTransfer` writes far only -/
section
variable (s : State) (n : Nat) (f : Transfer → Transfer)
@[simp] theorem State.modTransfer_now : (s.modTransfer n f).now = s.now := rfl
@[simp] theorem State.modTransfer_cfg : (s.modTransfer n f).cfg = s.cfg := rfl
@[simp] theorem State.modTransfer_power : (s.modTransfer n f).power = s.power := rfl
@[simp] theorem State.modTransfer_procs : (s.modTransfer n f).procs = s.procs := rfl
@[simp] theorem State.modTransfer_pins : (s.modTransfer n f).pins = s.pins := rfl
@[simp] theorem State.modTransfer_wrap : (s.modTransfer n f).wrap = s.wrap := rfl
@[simp] theorem State.modTransfer_obj : (s.modTransfer n f).obj = s.obj := rfl
@[simp] theorem State.modTransfer_mgmt : (s.modTransfer n f).mgmt = s.mgmt := rfl
@[simp] theorem State.modTransfer_hl : (s.modTransfer n f).hl = s.hl := rfl
@[simp] theorem State.modTransfer_dram : (s.modTransfer n f).dram = s.dram := rfl
@[simp] theorem State.modTransfer_sec : (s.modTransfer n f).sec = s.sec := rfl
@[simp] theorem State.modTransfer_fuses : (s.modTransfer n f).fuses = s.fuses := rfl
@[simp] theorem State.modTransfer_nvm : (s.modTransfer n f).nvm = s.nvm := rfl
@[simp] theorem State.modTransfer_free : (s.modTransfer n f).free = s.free := rfl
@[simp] theorem State.modTransfer_out : (s.modTransfer n f).out = s.out := rfl
@[simp] theorem State.modTransfer_pending : (s.modTransfer n f).pending = s.pending := rfl
@[simp] theorem State.modTransfer_plans : (s.modTransfer n f).plans = s.plans := rfl
@[simp] theorem State.modTransfer_feeds : (s.modTransfer n f).feeds = s.feeds := rfl
@[simp] theorem State.modTransfer_path : (s.modTransfer n f).path = s.path := rfl
@[simp] theorem State.modTransfer_cache : (s.modTransfer n f).cache = s.cache := rfl
@[simp] theorem State.modTransfer_syncs : (s.modTransfer n f).syncs = s.syncs := rfl
@[simp] theorem State.modTransfer_heat : (s.modTransfer n f).heat = s.heat := rfl
@[simp] theorem State.modTransfer_train : (s.modTransfer n f).train = s.train := rfl
@[simp] theorem State.modTransfer_clk : (s.modTransfer n f).clk = s.clk := rfl
@[simp] theorem State.modTransfer_upd : (s.modTransfer n f).upd = s.upd := rfl
@[simp] theorem State.modTransfer_sampler : (s.modTransfer n f).sampler = s.sampler := rfl
end

/-! ### `setHeat` writes heat only -/
section
variable (s : State) (h : Heat)
@[simp] theorem State.setHeat_now : (s.setHeat h).now = s.now := rfl
@[simp] theorem State.setHeat_cfg : (s.setHeat h).cfg = s.cfg := rfl
@[simp] theorem State.setHeat_power : (s.setHeat h).power = s.power := rfl
@[simp] theorem State.setHeat_procs : (s.setHeat h).procs = s.procs := rfl
@[simp] theorem State.setHeat_pins : (s.setHeat h).pins = s.pins := rfl
@[simp] theorem State.setHeat_wrap : (s.setHeat h).wrap = s.wrap := rfl
@[simp] theorem State.setHeat_obj : (s.setHeat h).obj = s.obj := rfl
@[simp] theorem State.setHeat_mgmt : (s.setHeat h).mgmt = s.mgmt := rfl
@[simp] theorem State.setHeat_hl : (s.setHeat h).hl = s.hl := rfl
@[simp] theorem State.setHeat_dram : (s.setHeat h).dram = s.dram := rfl
@[simp] theorem State.setHeat_sec : (s.setHeat h).sec = s.sec := rfl
@[simp] theorem State.setHeat_fuses : (s.setHeat h).fuses = s.fuses := rfl
@[simp] theorem State.setHeat_nvm : (s.setHeat h).nvm = s.nvm := rfl
@[simp] theorem State.setHeat_free : (s.setHeat h).free = s.free := rfl
@[simp] theorem State.setHeat_out : (s.setHeat h).out = s.out := rfl
@[simp] theorem State.setHeat_pending : (s.setHeat h).pending = s.pending := rfl
@[simp] theorem State.setHeat_plans : (s.setHeat h).plans = s.plans := rfl
@[simp] theorem State.setHeat_feeds : (s.setHeat h).feeds = s.feeds := rfl
@[simp] theorem State.setHeat_path : (s.setHeat h).path = s.path := rfl
@[simp] theorem State.setHeat_cache : (s.setHeat h).cache = s.cache := rfl
@[simp] theorem State.setHeat_far : (s.setHeat h).far = s.far := rfl
@[simp] theorem State.setHeat_syncs : (s.setHeat h).syncs = s.syncs := rfl
@[simp] theorem State.setHeat_train : (s.setHeat h).train = s.train := rfl
@[simp] theorem State.setHeat_clk : (s.setHeat h).clk = s.clk := rfl
@[simp] theorem State.setHeat_upd : (s.setHeat h).upd = s.upd := rfl
@[simp] theorem State.setHeat_sampler : (s.setHeat h).sampler = s.sampler := rfl
end

/-! ### `setSensor` writes heat only -/
section
variable (s : State) (k : Nat) (x : Sensor)
@[simp] theorem State.setSensor_now : (s.setSensor k x).now = s.now := rfl
@[simp] theorem State.setSensor_cfg : (s.setSensor k x).cfg = s.cfg := rfl
@[simp] theorem State.setSensor_power : (s.setSensor k x).power = s.power := rfl
@[simp] theorem State.setSensor_procs : (s.setSensor k x).procs = s.procs := rfl
@[simp] theorem State.setSensor_pins : (s.setSensor k x).pins = s.pins := rfl
@[simp] theorem State.setSensor_wrap : (s.setSensor k x).wrap = s.wrap := rfl
@[simp] theorem State.setSensor_obj : (s.setSensor k x).obj = s.obj := rfl
@[simp] theorem State.setSensor_mgmt : (s.setSensor k x).mgmt = s.mgmt := rfl
@[simp] theorem State.setSensor_hl : (s.setSensor k x).hl = s.hl := rfl
@[simp] theorem State.setSensor_dram : (s.setSensor k x).dram = s.dram := rfl
@[simp] theorem State.setSensor_sec : (s.setSensor k x).sec = s.sec := rfl
@[simp] theorem State.setSensor_fuses : (s.setSensor k x).fuses = s.fuses := rfl
@[simp] theorem State.setSensor_nvm : (s.setSensor k x).nvm = s.nvm := rfl
@[simp] theorem State.setSensor_free : (s.setSensor k x).free = s.free := rfl
@[simp] theorem State.setSensor_out : (s.setSensor k x).out = s.out := rfl
@[simp] theorem State.setSensor_pending : (s.setSensor k x).pending = s.pending := rfl
@[simp] theorem State.setSensor_plans : (s.setSensor k x).plans = s.plans := rfl
@[simp] theorem State.setSensor_feeds : (s.setSensor k x).feeds = s.feeds := rfl
@[simp] theorem State.setSensor_path : (s.setSensor k x).path = s.path := rfl
@[simp] theorem State.setSensor_cache : (s.setSensor k x).cache = s.cache := rfl
@[simp] theorem State.setSensor_far : (s.setSensor k x).far = s.far := rfl
@[simp] theorem State.setSensor_syncs : (s.setSensor k x).syncs = s.syncs := rfl
@[simp] theorem State.setSensor_train : (s.setSensor k x).train = s.train := rfl
@[simp] theorem State.setSensor_clk : (s.setSensor k x).clk = s.clk := rfl
@[simp] theorem State.setSensor_upd : (s.setSensor k x).upd = s.upd := rfl
@[simp] theorem State.setSensor_sampler : (s.setSensor k x).sampler = s.sampler := rfl
end

/-! ### `setPort` writes hl only -/
section
variable (s : State) (h : Nat) (p : HPort)
@[simp] theorem State.setPort_now : (s.setPort h p).now = s.now := rfl
@[simp] theorem State.setPort_cfg : (s.setPort h p).cfg = s.cfg := rfl
@[simp] theorem State.setPort_power : (s.setPort h p).power = s.power := rfl
@[simp] theorem State.setPort_procs : (s.setPort h p).procs = s.procs := rfl
@[simp] theorem State.setPort_pins : (s.setPort h p).pins = s.pins := rfl
@[simp] theorem State.setPort_wrap : (s.setPort h p).wrap = s.wrap := rfl
@[simp] theorem State.setPort_obj : (s.setPort h p).obj = s.obj := rfl
@[simp] theorem State.setPort_mgmt : (s.setPort h p).mgmt = s.mgmt := rfl
@[simp] theorem State.setPort_dram : (s.setPort h p).dram = s.dram := rfl
@[simp] theorem State.setPort_sec : (s.setPort h p).sec = s.sec := rfl
@[simp] theorem State.setPort_fuses : (s.setPort h p).fuses = s.fuses := rfl
@[simp] theorem State.setPort_nvm : (s.setPort h p).nvm = s.nvm := rfl
@[simp] theorem State.setPort_free : (s.setPort h p).free = s.free := rfl
@[simp] theorem State.setPort_out : (s.setPort h p).out = s.out := rfl
@[simp] theorem State.setPort_pending : (s.setPort h p).pending = s.pending := rfl
@[simp] theorem State.setPort_plans : (s.setPort h p).plans = s.plans := rfl
@[simp] theorem State.setPort_feeds : (s.setPort h p).feeds = s.feeds := rfl
@[simp] theorem State.setPort_path : (s.setPort h p).path = s.path := rfl
@[simp] theorem State.setPort_cache : (s.setPort h p).cache = s.cache := rfl
@[simp] theorem State.setPort_far : (s.setPort h p).far = s.far := rfl
@[simp] theorem State.setPort_syncs : (s.setPort h p).syncs = s.syncs := rfl
@[simp] theorem State.setPort_heat : (s.setPort h p).heat = s.heat := rfl
@[simp] theorem State.setPort_train : (s.setPort h p).train = s.train := rfl
@[simp] theorem State.setPort_clk : (s.setPort h p).clk = s.clk := rfl
@[simp] theorem State.setPort_upd : (s.setPort h p).upd = s.upd := rfl
@[simp] theorem State.setPort_sampler : (s.setPort h p).sampler = s.sampler := rfl
end

/-! ### `setSet` writes hl only -/
section
variable (s : State) (v : SetView)
@[simp] theorem State.setSet_now : (s.setSet v).now = s.now := rfl
@[simp] theorem State.setSet_cfg : (s.setSet v).cfg = s.cfg := rfl
@[simp] theorem State.setSet_power : (s.setSet v).power = s.power := rfl
@[simp] theorem State.setSet_procs : (s.setSet v).procs = s.procs := rfl
@[simp] theorem State.setSet_pins : (s.setSet v).pins = s.pins := rfl
@[simp] theorem State.setSet_wrap : (s.setSet v).wrap = s.wrap := rfl
@[simp] theorem State.setSet_obj : (s.setSet v).obj = s.obj := rfl
@[simp] theorem State.setSet_mgmt : (s.setSet v).mgmt = s.mgmt := rfl
@[simp] theorem State.setSet_dram : (s.setSet v).dram = s.dram := rfl
@[simp] theorem State.setSet_sec : (s.setSet v).sec = s.sec := rfl
@[simp] theorem State.setSet_fuses : (s.setSet v).fuses = s.fuses := rfl
@[simp] theorem State.setSet_nvm : (s.setSet v).nvm = s.nvm := rfl
@[simp] theorem State.setSet_free : (s.setSet v).free = s.free := rfl
@[simp] theorem State.setSet_out : (s.setSet v).out = s.out := rfl
@[simp] theorem State.setSet_pending : (s.setSet v).pending = s.pending := rfl
@[simp] theorem State.setSet_plans : (s.setSet v).plans = s.plans := rfl
@[simp] theorem State.setSet_feeds : (s.setSet v).feeds = s.feeds := rfl
@[simp] theorem State.setSet_path : (s.setSet v).path = s.path := rfl
@[simp] theorem State.setSet_cache : (s.setSet v).cache = s.cache := rfl
@[simp] theorem State.setSet_far : (s.setSet v).far = s.far := rfl
@[simp] theorem State.setSet_syncs : (s.setSet v).syncs = s.syncs := rfl
@[simp] theorem State.setSet_heat : (s.setSet v).heat = s.heat := rfl
@[simp] theorem State.setSet_train : (s.setSet v).train = s.train := rfl
@[simp] theorem State.setSet_clk : (s.setSet v).clk = s.clk := rfl
@[simp] theorem State.setSet_upd : (s.setSet v).upd = s.upd := rfl
@[simp] theorem State.setSet_sampler : (s.setSet v).sampler = s.sampler := rfl
end

/-! ### `setFlow` writes hl only -/
section
variable (s : State) (k : Nat) (f : Flow)
@[simp] theorem State.setFlow_now : (s.setFlow k f).now = s.now := rfl
@[simp] theorem State.setFlow_cfg : (s.setFlow k f).cfg = s.cfg := rfl
@[simp] theorem State.setFlow_power : (s.setFlow k f).power = s.power := rfl
@[simp] theorem State.setFlow_procs : (s.setFlow k f).procs = s.procs := rfl
@[simp] theorem State.setFlow_pins : (s.setFlow k f).pins = s.pins := rfl
@[simp] theorem State.setFlow_wrap : (s.setFlow k f).wrap = s.wrap := rfl
@[simp] theorem State.setFlow_obj : (s.setFlow k f).obj = s.obj := rfl
@[simp] theorem State.setFlow_mgmt : (s.setFlow k f).mgmt = s.mgmt := rfl
@[simp] theorem State.setFlow_dram : (s.setFlow k f).dram = s.dram := rfl
@[simp] theorem State.setFlow_sec : (s.setFlow k f).sec = s.sec := rfl
@[simp] theorem State.setFlow_fuses : (s.setFlow k f).fuses = s.fuses := rfl
@[simp] theorem State.setFlow_nvm : (s.setFlow k f).nvm = s.nvm := rfl
@[simp] theorem State.setFlow_free : (s.setFlow k f).free = s.free := rfl
@[simp] theorem State.setFlow_out : (s.setFlow k f).out = s.out := rfl
@[simp] theorem State.setFlow_pending : (s.setFlow k f).pending = s.pending := rfl
@[simp] theorem State.setFlow_plans : (s.setFlow k f).plans = s.plans := rfl
@[simp] theorem State.setFlow_feeds : (s.setFlow k f).feeds = s.feeds := rfl
@[simp] theorem State.setFlow_path : (s.setFlow k f).path = s.path := rfl
@[simp] theorem State.setFlow_cache : (s.setFlow k f).cache = s.cache := rfl
@[simp] theorem State.setFlow_far : (s.setFlow k f).far = s.far := rfl
@[simp] theorem State.setFlow_syncs : (s.setFlow k f).syncs = s.syncs := rfl
@[simp] theorem State.setFlow_heat : (s.setFlow k f).heat = s.heat := rfl
@[simp] theorem State.setFlow_train : (s.setFlow k f).train = s.train := rfl
@[simp] theorem State.setFlow_clk : (s.setFlow k f).clk = s.clk := rfl
@[simp] theorem State.setFlow_upd : (s.setFlow k f).upd = s.upd := rfl
@[simp] theorem State.setFlow_sampler : (s.setFlow k f).sampler = s.sampler := rfl
end

/-! ### `setLay` writes dram only -/
section
variable (s : State) (c l : Nat) (x : LayerChan)
@[simp] theorem State.setLay_now : (s.setLay c l x).now = s.now := rfl
@[simp] theorem State.setLay_cfg : (s.setLay c l x).cfg = s.cfg := rfl
@[simp] theorem State.setLay_power : (s.setLay c l x).power = s.power := rfl
@[simp] theorem State.setLay_procs : (s.setLay c l x).procs = s.procs := rfl
@[simp] theorem State.setLay_pins : (s.setLay c l x).pins = s.pins := rfl
@[simp] theorem State.setLay_wrap : (s.setLay c l x).wrap = s.wrap := rfl
@[simp] theorem State.setLay_obj : (s.setLay c l x).obj = s.obj := rfl
@[simp] theorem State.setLay_mgmt : (s.setLay c l x).mgmt = s.mgmt := rfl
@[simp] theorem State.setLay_hl : (s.setLay c l x).hl = s.hl := rfl
@[simp] theorem State.setLay_sec : (s.setLay c l x).sec = s.sec := rfl
@[simp] theorem State.setLay_fuses : (s.setLay c l x).fuses = s.fuses := rfl
@[simp] theorem State.setLay_nvm : (s.setLay c l x).nvm = s.nvm := rfl
@[simp] theorem State.setLay_free : (s.setLay c l x).free = s.free := rfl
@[simp] theorem State.setLay_out : (s.setLay c l x).out = s.out := rfl
@[simp] theorem State.setLay_pending : (s.setLay c l x).pending = s.pending := rfl
@[simp] theorem State.setLay_plans : (s.setLay c l x).plans = s.plans := rfl
@[simp] theorem State.setLay_feeds : (s.setLay c l x).feeds = s.feeds := rfl
@[simp] theorem State.setLay_path : (s.setLay c l x).path = s.path := rfl
@[simp] theorem State.setLay_cache : (s.setLay c l x).cache = s.cache := rfl
@[simp] theorem State.setLay_far : (s.setLay c l x).far = s.far := rfl
@[simp] theorem State.setLay_syncs : (s.setLay c l x).syncs = s.syncs := rfl
@[simp] theorem State.setLay_heat : (s.setLay c l x).heat = s.heat := rfl
@[simp] theorem State.setLay_train : (s.setLay c l x).train = s.train := rfl
@[simp] theorem State.setLay_clk : (s.setLay c l x).clk = s.clk := rfl
@[simp] theorem State.setLay_upd : (s.setLay c l x).upd = s.upd := rfl
@[simp] theorem State.setLay_sampler : (s.setLay c l x).sampler = s.sampler := rfl
end

/-! ### `setDch` writes dram only -/
section
variable (s : State) (c : Nat) (x : DramChan)
@[simp] theorem State.setDch_now : (s.setDch c x).now = s.now := rfl
@[simp] theorem State.setDch_cfg : (s.setDch c x).cfg = s.cfg := rfl
@[simp] theorem State.setDch_power : (s.setDch c x).power = s.power := rfl
@[simp] theorem State.setDch_procs : (s.setDch c x).procs = s.procs := rfl
@[simp] theorem State.setDch_pins : (s.setDch c x).pins = s.pins := rfl
@[simp] theorem State.setDch_wrap : (s.setDch c x).wrap = s.wrap := rfl
@[simp] theorem State.setDch_obj : (s.setDch c x).obj = s.obj := rfl
@[simp] theorem State.setDch_mgmt : (s.setDch c x).mgmt = s.mgmt := rfl
@[simp] theorem State.setDch_hl : (s.setDch c x).hl = s.hl := rfl
@[simp] theorem State.setDch_sec : (s.setDch c x).sec = s.sec := rfl
@[simp] theorem State.setDch_fuses : (s.setDch c x).fuses = s.fuses := rfl
@[simp] theorem State.setDch_nvm : (s.setDch c x).nvm = s.nvm := rfl
@[simp] theorem State.setDch_free : (s.setDch c x).free = s.free := rfl
@[simp] theorem State.setDch_out : (s.setDch c x).out = s.out := rfl
@[simp] theorem State.setDch_pending : (s.setDch c x).pending = s.pending := rfl
@[simp] theorem State.setDch_plans : (s.setDch c x).plans = s.plans := rfl
@[simp] theorem State.setDch_feeds : (s.setDch c x).feeds = s.feeds := rfl
@[simp] theorem State.setDch_path : (s.setDch c x).path = s.path := rfl
@[simp] theorem State.setDch_cache : (s.setDch c x).cache = s.cache := rfl
@[simp] theorem State.setDch_far : (s.setDch c x).far = s.far := rfl
@[simp] theorem State.setDch_syncs : (s.setDch c x).syncs = s.syncs := rfl
@[simp] theorem State.setDch_heat : (s.setDch c x).heat = s.heat := rfl
@[simp] theorem State.setDch_train : (s.setDch c x).train = s.train := rfl
@[simp] theorem State.setDch_clk : (s.setDch c x).clk = s.clk := rfl
@[simp] theorem State.setDch_upd : (s.setDch c x).upd = s.upd := rfl
@[simp] theorem State.setDch_sampler : (s.setDch c x).sampler = s.sampler := rfl
end

/-! ### `setDie` writes dram only -/
section
variable (s : State) (st l : Nat) (x : LayerDie)
@[simp] theorem State.setDie_now : (s.setDie st l x).now = s.now := rfl
@[simp] theorem State.setDie_cfg : (s.setDie st l x).cfg = s.cfg := rfl
@[simp] theorem State.setDie_power : (s.setDie st l x).power = s.power := rfl
@[simp] theorem State.setDie_procs : (s.setDie st l x).procs = s.procs := rfl
@[simp] theorem State.setDie_pins : (s.setDie st l x).pins = s.pins := rfl
@[simp] theorem State.setDie_wrap : (s.setDie st l x).wrap = s.wrap := rfl
@[simp] theorem State.setDie_obj : (s.setDie st l x).obj = s.obj := rfl
@[simp] theorem State.setDie_mgmt : (s.setDie st l x).mgmt = s.mgmt := rfl
@[simp] theorem State.setDie_hl : (s.setDie st l x).hl = s.hl := rfl
@[simp] theorem State.setDie_sec : (s.setDie st l x).sec = s.sec := rfl
@[simp] theorem State.setDie_fuses : (s.setDie st l x).fuses = s.fuses := rfl
@[simp] theorem State.setDie_nvm : (s.setDie st l x).nvm = s.nvm := rfl
@[simp] theorem State.setDie_free : (s.setDie st l x).free = s.free := rfl
@[simp] theorem State.setDie_out : (s.setDie st l x).out = s.out := rfl
@[simp] theorem State.setDie_pending : (s.setDie st l x).pending = s.pending := rfl
@[simp] theorem State.setDie_plans : (s.setDie st l x).plans = s.plans := rfl
@[simp] theorem State.setDie_feeds : (s.setDie st l x).feeds = s.feeds := rfl
@[simp] theorem State.setDie_path : (s.setDie st l x).path = s.path := rfl
@[simp] theorem State.setDie_cache : (s.setDie st l x).cache = s.cache := rfl
@[simp] theorem State.setDie_far : (s.setDie st l x).far = s.far := rfl
@[simp] theorem State.setDie_syncs : (s.setDie st l x).syncs = s.syncs := rfl
@[simp] theorem State.setDie_heat : (s.setDie st l x).heat = s.heat := rfl
@[simp] theorem State.setDie_train : (s.setDie st l x).train = s.train := rfl
@[simp] theorem State.setDie_clk : (s.setDie st l x).clk = s.clk := rfl
@[simp] theorem State.setDie_upd : (s.setDie st l x).upd = s.upd := rfl
@[simp] theorem State.setDie_sampler : (s.setDie st l x).sampler = s.sampler := rfl
end

/-! ### `setPanic` writes path only -/
section
variable (s : State) (p : Nat) (x : PanicState)
@[simp] theorem State.setPanic_now : (s.setPanic p x).now = s.now := rfl
@[simp] theorem State.setPanic_cfg : (s.setPanic p x).cfg = s.cfg := rfl
@[simp] theorem State.setPanic_power : (s.setPanic p x).power = s.power := rfl
@[simp] theorem State.setPanic_procs : (s.setPanic p x).procs = s.procs := rfl
@[simp] theorem State.setPanic_pins : (s.setPanic p x).pins = s.pins := rfl
@[simp] theorem State.setPanic_wrap : (s.setPanic p x).wrap = s.wrap := rfl
@[simp] theorem State.setPanic_obj : (s.setPanic p x).obj = s.obj := rfl
@[simp] theorem State.setPanic_mgmt : (s.setPanic p x).mgmt = s.mgmt := rfl
@[simp] theorem State.setPanic_hl : (s.setPanic p x).hl = s.hl := rfl
@[simp] theorem State.setPanic_dram : (s.setPanic p x).dram = s.dram := rfl
@[simp] theorem State.setPanic_sec : (s.setPanic p x).sec = s.sec := rfl
@[simp] theorem State.setPanic_fuses : (s.setPanic p x).fuses = s.fuses := rfl
@[simp] theorem State.setPanic_nvm : (s.setPanic p x).nvm = s.nvm := rfl
@[simp] theorem State.setPanic_free : (s.setPanic p x).free = s.free := rfl
@[simp] theorem State.setPanic_out : (s.setPanic p x).out = s.out := rfl
@[simp] theorem State.setPanic_pending : (s.setPanic p x).pending = s.pending := rfl
@[simp] theorem State.setPanic_plans : (s.setPanic p x).plans = s.plans := rfl
@[simp] theorem State.setPanic_feeds : (s.setPanic p x).feeds = s.feeds := rfl
@[simp] theorem State.setPanic_cache : (s.setPanic p x).cache = s.cache := rfl
@[simp] theorem State.setPanic_far : (s.setPanic p x).far = s.far := rfl
@[simp] theorem State.setPanic_syncs : (s.setPanic p x).syncs = s.syncs := rfl
@[simp] theorem State.setPanic_heat : (s.setPanic p x).heat = s.heat := rfl
@[simp] theorem State.setPanic_train : (s.setPanic p x).train = s.train := rfl
@[simp] theorem State.setPanic_clk : (s.setPanic p x).clk = s.clk := rfl
@[simp] theorem State.setPanic_upd : (s.setPanic p x).upd = s.upd := rfl
@[simp] theorem State.setPanic_sampler : (s.setPanic p x).sampler = s.sampler := rfl
end

/-! ### `setMeter` writes path only -/
section
variable (s : State) (l : Nat) (m : Meter)
@[simp] theorem State.setMeter_now : (s.setMeter l m).now = s.now := rfl
@[simp] theorem State.setMeter_cfg : (s.setMeter l m).cfg = s.cfg := rfl
@[simp] theorem State.setMeter_power : (s.setMeter l m).power = s.power := rfl
@[simp] theorem State.setMeter_procs : (s.setMeter l m).procs = s.procs := rfl
@[simp] theorem State.setMeter_pins : (s.setMeter l m).pins = s.pins := rfl
@[simp] theorem State.setMeter_wrap : (s.setMeter l m).wrap = s.wrap := rfl
@[simp] theorem State.setMeter_obj : (s.setMeter l m).obj = s.obj := rfl
@[simp] theorem State.setMeter_mgmt : (s.setMeter l m).mgmt = s.mgmt := rfl
@[simp] theorem State.setMeter_hl : (s.setMeter l m).hl = s.hl := rfl
@[simp] theorem State.setMeter_dram : (s.setMeter l m).dram = s.dram := rfl
@[simp] theorem State.setMeter_sec : (s.setMeter l m).sec = s.sec := rfl
@[simp] theorem State.setMeter_fuses : (s.setMeter l m).fuses = s.fuses := rfl
@[simp] theorem State.setMeter_nvm : (s.setMeter l m).nvm = s.nvm := rfl
@[simp] theorem State.setMeter_free : (s.setMeter l m).free = s.free := rfl
@[simp] theorem State.setMeter_out : (s.setMeter l m).out = s.out := rfl
@[simp] theorem State.setMeter_pending : (s.setMeter l m).pending = s.pending := rfl
@[simp] theorem State.setMeter_plans : (s.setMeter l m).plans = s.plans := rfl
@[simp] theorem State.setMeter_feeds : (s.setMeter l m).feeds = s.feeds := rfl
@[simp] theorem State.setMeter_cache : (s.setMeter l m).cache = s.cache := rfl
@[simp] theorem State.setMeter_far : (s.setMeter l m).far = s.far := rfl
@[simp] theorem State.setMeter_syncs : (s.setMeter l m).syncs = s.syncs := rfl
@[simp] theorem State.setMeter_heat : (s.setMeter l m).heat = s.heat := rfl
@[simp] theorem State.setMeter_train : (s.setMeter l m).train = s.train := rfl
@[simp] theorem State.setMeter_clk : (s.setMeter l m).clk = s.clk := rfl
@[simp] theorem State.setMeter_upd : (s.setMeter l m).upd = s.upd := rfl
@[simp] theorem State.setMeter_sampler : (s.setMeter l m).sampler = s.sampler := rfl
end

/-! ### `setWfq` writes path only -/
section
variable (s : State) (c : Nat) (write : Bool) (w : Wfq)
@[simp] theorem State.setWfq_now : (s.setWfq c write w).now = s.now := rfl
@[simp] theorem State.setWfq_cfg : (s.setWfq c write w).cfg = s.cfg := rfl
@[simp] theorem State.setWfq_power : (s.setWfq c write w).power = s.power := rfl
@[simp] theorem State.setWfq_procs : (s.setWfq c write w).procs = s.procs := rfl
@[simp] theorem State.setWfq_pins : (s.setWfq c write w).pins = s.pins := rfl
@[simp] theorem State.setWfq_wrap : (s.setWfq c write w).wrap = s.wrap := rfl
@[simp] theorem State.setWfq_obj : (s.setWfq c write w).obj = s.obj := rfl
@[simp] theorem State.setWfq_mgmt : (s.setWfq c write w).mgmt = s.mgmt := rfl
@[simp] theorem State.setWfq_hl : (s.setWfq c write w).hl = s.hl := rfl
@[simp] theorem State.setWfq_dram : (s.setWfq c write w).dram = s.dram := rfl
@[simp] theorem State.setWfq_sec : (s.setWfq c write w).sec = s.sec := rfl
@[simp] theorem State.setWfq_fuses : (s.setWfq c write w).fuses = s.fuses := rfl
@[simp] theorem State.setWfq_nvm : (s.setWfq c write w).nvm = s.nvm := rfl
@[simp] theorem State.setWfq_free : (s.setWfq c write w).free = s.free := rfl
@[simp] theorem State.setWfq_out : (s.setWfq c write w).out = s.out := rfl
@[simp] theorem State.setWfq_pending : (s.setWfq c write w).pending = s.pending := rfl
@[simp] theorem State.setWfq_plans : (s.setWfq c write w).plans = s.plans := rfl
@[simp] theorem State.setWfq_feeds : (s.setWfq c write w).feeds = s.feeds := rfl
@[simp] theorem State.setWfq_cache : (s.setWfq c write w).cache = s.cache := rfl
@[simp] theorem State.setWfq_far : (s.setWfq c write w).far = s.far := rfl
@[simp] theorem State.setWfq_syncs : (s.setWfq c write w).syncs = s.syncs := rfl
@[simp] theorem State.setWfq_heat : (s.setWfq c write w).heat = s.heat := rfl
@[simp] theorem State.setWfq_train : (s.setWfq c write w).train = s.train := rfl
@[simp] theorem State.setWfq_clk : (s.setWfq c write w).clk = s.clk := rfl
@[simp] theorem State.setWfq_upd : (s.setWfq c write w).upd = s.upd := rfl
@[simp] theorem State.setWfq_sampler : (s.setWfq c write w).sampler = s.sampler := rfl
end

/-! ### `setRecordArea` writes nvm only -/
section
variable (s : State) (area index : Nat) (x : RecordArea)
@[simp] theorem State.setRecordArea_now : (s.setRecordArea area index x).now = s.now := rfl
@[simp] theorem State.setRecordArea_cfg : (s.setRecordArea area index x).cfg = s.cfg := rfl
@[simp] theorem State.setRecordArea_power : (s.setRecordArea area index x).power = s.power := rfl
@[simp] theorem State.setRecordArea_procs : (s.setRecordArea area index x).procs = s.procs := rfl
@[simp] theorem State.setRecordArea_pins : (s.setRecordArea area index x).pins = s.pins := rfl
@[simp] theorem State.setRecordArea_wrap : (s.setRecordArea area index x).wrap = s.wrap := rfl
@[simp] theorem State.setRecordArea_obj : (s.setRecordArea area index x).obj = s.obj := rfl
@[simp] theorem State.setRecordArea_mgmt : (s.setRecordArea area index x).mgmt = s.mgmt := rfl
@[simp] theorem State.setRecordArea_hl : (s.setRecordArea area index x).hl = s.hl := rfl
@[simp] theorem State.setRecordArea_dram : (s.setRecordArea area index x).dram = s.dram := rfl
@[simp] theorem State.setRecordArea_sec : (s.setRecordArea area index x).sec = s.sec := rfl
@[simp] theorem State.setRecordArea_fuses : (s.setRecordArea area index x).fuses = s.fuses := rfl
@[simp] theorem State.setRecordArea_free : (s.setRecordArea area index x).free = s.free := rfl
@[simp] theorem State.setRecordArea_out : (s.setRecordArea area index x).out = s.out := rfl
@[simp] theorem State.setRecordArea_pending : (s.setRecordArea area index x).pending = s.pending := rfl
@[simp] theorem State.setRecordArea_plans : (s.setRecordArea area index x).plans = s.plans := rfl
@[simp] theorem State.setRecordArea_feeds : (s.setRecordArea area index x).feeds = s.feeds := rfl
@[simp] theorem State.setRecordArea_path : (s.setRecordArea area index x).path = s.path := rfl
@[simp] theorem State.setRecordArea_cache : (s.setRecordArea area index x).cache = s.cache := rfl
@[simp] theorem State.setRecordArea_far : (s.setRecordArea area index x).far = s.far := rfl
@[simp] theorem State.setRecordArea_syncs : (s.setRecordArea area index x).syncs = s.syncs := rfl
@[simp] theorem State.setRecordArea_heat : (s.setRecordArea area index x).heat = s.heat := rfl
@[simp] theorem State.setRecordArea_train : (s.setRecordArea area index x).train = s.train := rfl
@[simp] theorem State.setRecordArea_clk : (s.setRecordArea area index x).clk = s.clk := rfl
@[simp] theorem State.setRecordArea_upd : (s.setRecordArea area index x).upd = s.upd := rfl
@[simp] theorem State.setRecordArea_sampler : (s.setRecordArea area index x).sampler = s.sampler := rfl
end

/-! ### `setSec` writes sec only -/
section
variable (s : State) (x : Security)
@[simp] theorem State.setSec_now : (s.setSec x).now = s.now := rfl
@[simp] theorem State.setSec_cfg : (s.setSec x).cfg = s.cfg := rfl
@[simp] theorem State.setSec_power : (s.setSec x).power = s.power := rfl
@[simp] theorem State.setSec_procs : (s.setSec x).procs = s.procs := rfl
@[simp] theorem State.setSec_pins : (s.setSec x).pins = s.pins := rfl
@[simp] theorem State.setSec_wrap : (s.setSec x).wrap = s.wrap := rfl
@[simp] theorem State.setSec_obj : (s.setSec x).obj = s.obj := rfl
@[simp] theorem State.setSec_mgmt : (s.setSec x).mgmt = s.mgmt := rfl
@[simp] theorem State.setSec_hl : (s.setSec x).hl = s.hl := rfl
@[simp] theorem State.setSec_dram : (s.setSec x).dram = s.dram := rfl
@[simp] theorem State.setSec_fuses : (s.setSec x).fuses = s.fuses := rfl
@[simp] theorem State.setSec_nvm : (s.setSec x).nvm = s.nvm := rfl
@[simp] theorem State.setSec_free : (s.setSec x).free = s.free := rfl
@[simp] theorem State.setSec_out : (s.setSec x).out = s.out := rfl
@[simp] theorem State.setSec_pending : (s.setSec x).pending = s.pending := rfl
@[simp] theorem State.setSec_plans : (s.setSec x).plans = s.plans := rfl
@[simp] theorem State.setSec_feeds : (s.setSec x).feeds = s.feeds := rfl
@[simp] theorem State.setSec_path : (s.setSec x).path = s.path := rfl
@[simp] theorem State.setSec_cache : (s.setSec x).cache = s.cache := rfl
@[simp] theorem State.setSec_far : (s.setSec x).far = s.far := rfl
@[simp] theorem State.setSec_syncs : (s.setSec x).syncs = s.syncs := rfl
@[simp] theorem State.setSec_heat : (s.setSec x).heat = s.heat := rfl
@[simp] theorem State.setSec_train : (s.setSec x).train = s.train := rfl
@[simp] theorem State.setSec_clk : (s.setSec x).clk = s.clk := rfl
@[simp] theorem State.setSec_upd : (s.setSec x).upd = s.upd := rfl
@[simp] theorem State.setSec_sampler : (s.setSec x).sampler = s.sampler := rfl
end

/-! ### `setSpdm` writes sec only -/
section
variable (s : State) (c : Spdm)
@[simp] theorem State.setSpdm_now : (s.setSpdm c).now = s.now := rfl
@[simp] theorem State.setSpdm_cfg : (s.setSpdm c).cfg = s.cfg := rfl
@[simp] theorem State.setSpdm_power : (s.setSpdm c).power = s.power := rfl
@[simp] theorem State.setSpdm_procs : (s.setSpdm c).procs = s.procs := rfl
@[simp] theorem State.setSpdm_pins : (s.setSpdm c).pins = s.pins := rfl
@[simp] theorem State.setSpdm_wrap : (s.setSpdm c).wrap = s.wrap := rfl
@[simp] theorem State.setSpdm_obj : (s.setSpdm c).obj = s.obj := rfl
@[simp] theorem State.setSpdm_mgmt : (s.setSpdm c).mgmt = s.mgmt := rfl
@[simp] theorem State.setSpdm_hl : (s.setSpdm c).hl = s.hl := rfl
@[simp] theorem State.setSpdm_dram : (s.setSpdm c).dram = s.dram := rfl
@[simp] theorem State.setSpdm_fuses : (s.setSpdm c).fuses = s.fuses := rfl
@[simp] theorem State.setSpdm_nvm : (s.setSpdm c).nvm = s.nvm := rfl
@[simp] theorem State.setSpdm_free : (s.setSpdm c).free = s.free := rfl
@[simp] theorem State.setSpdm_out : (s.setSpdm c).out = s.out := rfl
@[simp] theorem State.setSpdm_pending : (s.setSpdm c).pending = s.pending := rfl
@[simp] theorem State.setSpdm_plans : (s.setSpdm c).plans = s.plans := rfl
@[simp] theorem State.setSpdm_feeds : (s.setSpdm c).feeds = s.feeds := rfl
@[simp] theorem State.setSpdm_path : (s.setSpdm c).path = s.path := rfl
@[simp] theorem State.setSpdm_cache : (s.setSpdm c).cache = s.cache := rfl
@[simp] theorem State.setSpdm_far : (s.setSpdm c).far = s.far := rfl
@[simp] theorem State.setSpdm_syncs : (s.setSpdm c).syncs = s.syncs := rfl
@[simp] theorem State.setSpdm_heat : (s.setSpdm c).heat = s.heat := rfl
@[simp] theorem State.setSpdm_train : (s.setSpdm c).train = s.train := rfl
@[simp] theorem State.setSpdm_clk : (s.setSpdm c).clk = s.clk := rfl
@[simp] theorem State.setSpdm_upd : (s.setSpdm c).upd = s.upd := rfl
@[simp] theorem State.setSpdm_sampler : (s.setSpdm c).sampler = s.sampler := rfl
end

/-! ### `setKey` writes sec only -/
section
variable (s : State) (n : Nat) (k : KeySlot)
@[simp] theorem State.setKey_now : (s.setKey n k).now = s.now := rfl
@[simp] theorem State.setKey_cfg : (s.setKey n k).cfg = s.cfg := rfl
@[simp] theorem State.setKey_power : (s.setKey n k).power = s.power := rfl
@[simp] theorem State.setKey_procs : (s.setKey n k).procs = s.procs := rfl
@[simp] theorem State.setKey_pins : (s.setKey n k).pins = s.pins := rfl
@[simp] theorem State.setKey_wrap : (s.setKey n k).wrap = s.wrap := rfl
@[simp] theorem State.setKey_obj : (s.setKey n k).obj = s.obj := rfl
@[simp] theorem State.setKey_mgmt : (s.setKey n k).mgmt = s.mgmt := rfl
@[simp] theorem State.setKey_hl : (s.setKey n k).hl = s.hl := rfl
@[simp] theorem State.setKey_dram : (s.setKey n k).dram = s.dram := rfl
@[simp] theorem State.setKey_fuses : (s.setKey n k).fuses = s.fuses := rfl
@[simp] theorem State.setKey_nvm : (s.setKey n k).nvm = s.nvm := rfl
@[simp] theorem State.setKey_free : (s.setKey n k).free = s.free := rfl
@[simp] theorem State.setKey_out : (s.setKey n k).out = s.out := rfl
@[simp] theorem State.setKey_pending : (s.setKey n k).pending = s.pending := rfl
@[simp] theorem State.setKey_plans : (s.setKey n k).plans = s.plans := rfl
@[simp] theorem State.setKey_feeds : (s.setKey n k).feeds = s.feeds := rfl
@[simp] theorem State.setKey_path : (s.setKey n k).path = s.path := rfl
@[simp] theorem State.setKey_cache : (s.setKey n k).cache = s.cache := rfl
@[simp] theorem State.setKey_far : (s.setKey n k).far = s.far := rfl
@[simp] theorem State.setKey_syncs : (s.setKey n k).syncs = s.syncs := rfl
@[simp] theorem State.setKey_heat : (s.setKey n k).heat = s.heat := rfl
@[simp] theorem State.setKey_train : (s.setKey n k).train = s.train := rfl
@[simp] theorem State.setKey_clk : (s.setKey n k).clk = s.clk := rfl
@[simp] theorem State.setKey_upd : (s.setKey n k).upd = s.upd := rfl
@[simp] theorem State.setKey_sampler : (s.setKey n k).sampler = s.sampler := rfl
end

/-! ### `setPower` writes power only -/
section
variable (s : State) (p : Power)
@[simp] theorem State.setPower_now : (s.setPower p).now = s.now := rfl
@[simp] theorem State.setPower_cfg : (s.setPower p).cfg = s.cfg := rfl
@[simp] theorem State.setPower_procs : (s.setPower p).procs = s.procs := rfl
@[simp] theorem State.setPower_pins : (s.setPower p).pins = s.pins := rfl
@[simp] theorem State.setPower_wrap : (s.setPower p).wrap = s.wrap := rfl
@[simp] theorem State.setPower_obj : (s.setPower p).obj = s.obj := rfl
@[simp] theorem State.setPower_mgmt : (s.setPower p).mgmt = s.mgmt := rfl
@[simp] theorem State.setPower_hl : (s.setPower p).hl = s.hl := rfl
@[simp] theorem State.setPower_dram : (s.setPower p).dram = s.dram := rfl
@[simp] theorem State.setPower_sec : (s.setPower p).sec = s.sec := rfl
@[simp] theorem State.setPower_fuses : (s.setPower p).fuses = s.fuses := rfl
@[simp] theorem State.setPower_nvm : (s.setPower p).nvm = s.nvm := rfl
@[simp] theorem State.setPower_free : (s.setPower p).free = s.free := rfl
@[simp] theorem State.setPower_out : (s.setPower p).out = s.out := rfl
@[simp] theorem State.setPower_pending : (s.setPower p).pending = s.pending := rfl
@[simp] theorem State.setPower_plans : (s.setPower p).plans = s.plans := rfl
@[simp] theorem State.setPower_feeds : (s.setPower p).feeds = s.feeds := rfl
@[simp] theorem State.setPower_path : (s.setPower p).path = s.path := rfl
@[simp] theorem State.setPower_cache : (s.setPower p).cache = s.cache := rfl
@[simp] theorem State.setPower_far : (s.setPower p).far = s.far := rfl
@[simp] theorem State.setPower_syncs : (s.setPower p).syncs = s.syncs := rfl
@[simp] theorem State.setPower_heat : (s.setPower p).heat = s.heat := rfl
@[simp] theorem State.setPower_train : (s.setPower p).train = s.train := rfl
@[simp] theorem State.setPower_clk : (s.setPower p).clk = s.clk := rfl
@[simp] theorem State.setPower_upd : (s.setPower p).upd = s.upd := rfl
@[simp] theorem State.setPower_sampler : (s.setPower p).sampler = s.sampler := rfl
end

/-! ### `setUpd` writes upd only -/
section
variable (s : State) (u : Update)
@[simp] theorem State.setUpd_now : (s.setUpd u).now = s.now := rfl
@[simp] theorem State.setUpd_cfg : (s.setUpd u).cfg = s.cfg := rfl
@[simp] theorem State.setUpd_power : (s.setUpd u).power = s.power := rfl
@[simp] theorem State.setUpd_procs : (s.setUpd u).procs = s.procs := rfl
@[simp] theorem State.setUpd_pins : (s.setUpd u).pins = s.pins := rfl
@[simp] theorem State.setUpd_wrap : (s.setUpd u).wrap = s.wrap := rfl
@[simp] theorem State.setUpd_obj : (s.setUpd u).obj = s.obj := rfl
@[simp] theorem State.setUpd_mgmt : (s.setUpd u).mgmt = s.mgmt := rfl
@[simp] theorem State.setUpd_hl : (s.setUpd u).hl = s.hl := rfl
@[simp] theorem State.setUpd_dram : (s.setUpd u).dram = s.dram := rfl
@[simp] theorem State.setUpd_sec : (s.setUpd u).sec = s.sec := rfl
@[simp] theorem State.setUpd_fuses : (s.setUpd u).fuses = s.fuses := rfl
@[simp] theorem State.setUpd_nvm : (s.setUpd u).nvm = s.nvm := rfl
@[simp] theorem State.setUpd_free : (s.setUpd u).free = s.free := rfl
@[simp] theorem State.setUpd_out : (s.setUpd u).out = s.out := rfl
@[simp] theorem State.setUpd_pending : (s.setUpd u).pending = s.pending := rfl
@[simp] theorem State.setUpd_plans : (s.setUpd u).plans = s.plans := rfl
@[simp] theorem State.setUpd_feeds : (s.setUpd u).feeds = s.feeds := rfl
@[simp] theorem State.setUpd_path : (s.setUpd u).path = s.path := rfl
@[simp] theorem State.setUpd_cache : (s.setUpd u).cache = s.cache := rfl
@[simp] theorem State.setUpd_far : (s.setUpd u).far = s.far := rfl
@[simp] theorem State.setUpd_syncs : (s.setUpd u).syncs = s.syncs := rfl
@[simp] theorem State.setUpd_heat : (s.setUpd u).heat = s.heat := rfl
@[simp] theorem State.setUpd_train : (s.setUpd u).train = s.train := rfl
@[simp] theorem State.setUpd_clk : (s.setUpd u).clk = s.clk := rfl
@[simp] theorem State.setUpd_sampler : (s.setUpd u).sampler = s.sampler := rfl
end

/-! ### `setPlans` writes plans only -/
section
variable (s : State) (p : Plans)
@[simp] theorem State.setPlans_now : (s.setPlans p).now = s.now := rfl
@[simp] theorem State.setPlans_cfg : (s.setPlans p).cfg = s.cfg := rfl
@[simp] theorem State.setPlans_power : (s.setPlans p).power = s.power := rfl
@[simp] theorem State.setPlans_procs : (s.setPlans p).procs = s.procs := rfl
@[simp] theorem State.setPlans_pins : (s.setPlans p).pins = s.pins := rfl
@[simp] theorem State.setPlans_wrap : (s.setPlans p).wrap = s.wrap := rfl
@[simp] theorem State.setPlans_obj : (s.setPlans p).obj = s.obj := rfl
@[simp] theorem State.setPlans_mgmt : (s.setPlans p).mgmt = s.mgmt := rfl
@[simp] theorem State.setPlans_hl : (s.setPlans p).hl = s.hl := rfl
@[simp] theorem State.setPlans_dram : (s.setPlans p).dram = s.dram := rfl
@[simp] theorem State.setPlans_sec : (s.setPlans p).sec = s.sec := rfl
@[simp] theorem State.setPlans_fuses : (s.setPlans p).fuses = s.fuses := rfl
@[simp] theorem State.setPlans_nvm : (s.setPlans p).nvm = s.nvm := rfl
@[simp] theorem State.setPlans_free : (s.setPlans p).free = s.free := rfl
@[simp] theorem State.setPlans_out : (s.setPlans p).out = s.out := rfl
@[simp] theorem State.setPlans_pending : (s.setPlans p).pending = s.pending := rfl
@[simp] theorem State.setPlans_feeds : (s.setPlans p).feeds = s.feeds := rfl
@[simp] theorem State.setPlans_path : (s.setPlans p).path = s.path := rfl
@[simp] theorem State.setPlans_cache : (s.setPlans p).cache = s.cache := rfl
@[simp] theorem State.setPlans_far : (s.setPlans p).far = s.far := rfl
@[simp] theorem State.setPlans_syncs : (s.setPlans p).syncs = s.syncs := rfl
@[simp] theorem State.setPlans_heat : (s.setPlans p).heat = s.heat := rfl
@[simp] theorem State.setPlans_train : (s.setPlans p).train = s.train := rfl
@[simp] theorem State.setPlans_clk : (s.setPlans p).clk = s.clk := rfl
@[simp] theorem State.setPlans_upd : (s.setPlans p).upd = s.upd := rfl
@[simp] theorem State.setPlans_sampler : (s.setPlans p).sampler = s.sampler := rfl
end

/-! ### `armRejoin` writes plans only -/
section
variable (s : State) (k : Nat)
@[simp] theorem State.armRejoin_now : (s.armRejoin k).now = s.now := rfl
@[simp] theorem State.armRejoin_cfg : (s.armRejoin k).cfg = s.cfg := rfl
@[simp] theorem State.armRejoin_power : (s.armRejoin k).power = s.power := rfl
@[simp] theorem State.armRejoin_procs : (s.armRejoin k).procs = s.procs := rfl
@[simp] theorem State.armRejoin_pins : (s.armRejoin k).pins = s.pins := rfl
@[simp] theorem State.armRejoin_wrap : (s.armRejoin k).wrap = s.wrap := rfl
@[simp] theorem State.armRejoin_obj : (s.armRejoin k).obj = s.obj := rfl
@[simp] theorem State.armRejoin_mgmt : (s.armRejoin k).mgmt = s.mgmt := rfl
@[simp] theorem State.armRejoin_hl : (s.armRejoin k).hl = s.hl := rfl
@[simp] theorem State.armRejoin_dram : (s.armRejoin k).dram = s.dram := rfl
@[simp] theorem State.armRejoin_sec : (s.armRejoin k).sec = s.sec := rfl
@[simp] theorem State.armRejoin_fuses : (s.armRejoin k).fuses = s.fuses := rfl
@[simp] theorem State.armRejoin_nvm : (s.armRejoin k).nvm = s.nvm := rfl
@[simp] theorem State.armRejoin_free : (s.armRejoin k).free = s.free := rfl
@[simp] theorem State.armRejoin_out : (s.armRejoin k).out = s.out := rfl
@[simp] theorem State.armRejoin_pending : (s.armRejoin k).pending = s.pending := rfl
@[simp] theorem State.armRejoin_feeds : (s.armRejoin k).feeds = s.feeds := rfl
@[simp] theorem State.armRejoin_path : (s.armRejoin k).path = s.path := rfl
@[simp] theorem State.armRejoin_cache : (s.armRejoin k).cache = s.cache := rfl
@[simp] theorem State.armRejoin_far : (s.armRejoin k).far = s.far := rfl
@[simp] theorem State.armRejoin_syncs : (s.armRejoin k).syncs = s.syncs := rfl
@[simp] theorem State.armRejoin_heat : (s.armRejoin k).heat = s.heat := rfl
@[simp] theorem State.armRejoin_train : (s.armRejoin k).train = s.train := rfl
@[simp] theorem State.armRejoin_clk : (s.armRejoin k).clk = s.clk := rfl
@[simp] theorem State.armRejoin_upd : (s.armRejoin k).upd = s.upd := rfl
@[simp] theorem State.armRejoin_sampler : (s.armRejoin k).sampler = s.sampler := rfl
end

/-! ### `modTr` writes train only -/
section
variable (s : State) (c : Nat) (f : Train → Train)
@[simp] theorem State.modTr_now : (s.modTr c f).now = s.now := rfl
@[simp] theorem State.modTr_cfg : (s.modTr c f).cfg = s.cfg := rfl
@[simp] theorem State.modTr_power : (s.modTr c f).power = s.power := rfl
@[simp] theorem State.modTr_procs : (s.modTr c f).procs = s.procs := rfl
@[simp] theorem State.modTr_pins : (s.modTr c f).pins = s.pins := rfl
@[simp] theorem State.modTr_wrap : (s.modTr c f).wrap = s.wrap := rfl
@[simp] theorem State.modTr_obj : (s.modTr c f).obj = s.obj := rfl
@[simp] theorem State.modTr_mgmt : (s.modTr c f).mgmt = s.mgmt := rfl
@[simp] theorem State.modTr_hl : (s.modTr c f).hl = s.hl := rfl
@[simp] theorem State.modTr_dram : (s.modTr c f).dram = s.dram := rfl
@[simp] theorem State.modTr_sec : (s.modTr c f).sec = s.sec := rfl
@[simp] theorem State.modTr_fuses : (s.modTr c f).fuses = s.fuses := rfl
@[simp] theorem State.modTr_nvm : (s.modTr c f).nvm = s.nvm := rfl
@[simp] theorem State.modTr_free : (s.modTr c f).free = s.free := rfl
@[simp] theorem State.modTr_out : (s.modTr c f).out = s.out := rfl
@[simp] theorem State.modTr_pending : (s.modTr c f).pending = s.pending := rfl
@[simp] theorem State.modTr_plans : (s.modTr c f).plans = s.plans := rfl
@[simp] theorem State.modTr_feeds : (s.modTr c f).feeds = s.feeds := rfl
@[simp] theorem State.modTr_path : (s.modTr c f).path = s.path := rfl
@[simp] theorem State.modTr_cache : (s.modTr c f).cache = s.cache := rfl
@[simp] theorem State.modTr_far : (s.modTr c f).far = s.far := rfl
@[simp] theorem State.modTr_syncs : (s.modTr c f).syncs = s.syncs := rfl
@[simp] theorem State.modTr_heat : (s.modTr c f).heat = s.heat := rfl
@[simp] theorem State.modTr_clk : (s.modTr c f).clk = s.clk := rfl
@[simp] theorem State.modTr_upd : (s.modTr c f).upd = s.upd := rfl
@[simp] theorem State.modTr_sampler : (s.modTr c f).sampler = s.sampler := rfl
end

/-! ### `setWrap` writes wrap only -/
section
variable (s : State) (w : Wrapper)
@[simp] theorem State.setWrap_now : (s.setWrap w).now = s.now := rfl
@[simp] theorem State.setWrap_cfg : (s.setWrap w).cfg = s.cfg := rfl
@[simp] theorem State.setWrap_power : (s.setWrap w).power = s.power := rfl
@[simp] theorem State.setWrap_procs : (s.setWrap w).procs = s.procs := rfl
@[simp] theorem State.setWrap_pins : (s.setWrap w).pins = s.pins := rfl
@[simp] theorem State.setWrap_obj : (s.setWrap w).obj = s.obj := rfl
@[simp] theorem State.setWrap_mgmt : (s.setWrap w).mgmt = s.mgmt := rfl
@[simp] theorem State.setWrap_hl : (s.setWrap w).hl = s.hl := rfl
@[simp] theorem State.setWrap_dram : (s.setWrap w).dram = s.dram := rfl
@[simp] theorem State.setWrap_sec : (s.setWrap w).sec = s.sec := rfl
@[simp] theorem State.setWrap_fuses : (s.setWrap w).fuses = s.fuses := rfl
@[simp] theorem State.setWrap_nvm : (s.setWrap w).nvm = s.nvm := rfl
@[simp] theorem State.setWrap_free : (s.setWrap w).free = s.free := rfl
@[simp] theorem State.setWrap_out : (s.setWrap w).out = s.out := rfl
@[simp] theorem State.setWrap_pending : (s.setWrap w).pending = s.pending := rfl
@[simp] theorem State.setWrap_plans : (s.setWrap w).plans = s.plans := rfl
@[simp] theorem State.setWrap_feeds : (s.setWrap w).feeds = s.feeds := rfl
@[simp] theorem State.setWrap_path : (s.setWrap w).path = s.path := rfl
@[simp] theorem State.setWrap_cache : (s.setWrap w).cache = s.cache := rfl
@[simp] theorem State.setWrap_far : (s.setWrap w).far = s.far := rfl
@[simp] theorem State.setWrap_syncs : (s.setWrap w).syncs = s.syncs := rfl
@[simp] theorem State.setWrap_heat : (s.setWrap w).heat = s.heat := rfl
@[simp] theorem State.setWrap_train : (s.setWrap w).train = s.train := rfl
@[simp] theorem State.setWrap_clk : (s.setWrap w).clk = s.clk := rfl
@[simp] theorem State.setWrap_upd : (s.setWrap w).upd = s.upd := rfl
@[simp] theorem State.setWrap_sampler : (s.setWrap w).sampler = s.sampler := rfl
end

/-! ### What an update writes -/
section
variable (s : State)
@[simp] theorem State.takeFree_free : s.takeFree.free = s.free + 1 := rfl
@[simp] theorem State.send_out (o : Output) : (s.send o).out = s.out ++ [o] := rfl
@[simp] theorem State.setPath_path (p : Path) : (s.setPath p).path = p := rfl
@[simp] theorem State.setAsks_path (l : List Ask) : (s.setAsks l).path = { s.path with asks := l } := rfl
@[simp] theorem State.setCache_cache (c : Cache) : (s.setCache c).cache = c := rfl
@[simp] theorem State.setClk_clk (k : Clocks) : (s.setClk k).clk = k := rfl
@[simp] theorem State.setFeeds_feeds (f : Feeds) : (s.setFeeds f).feeds = f := rfl
@[simp] theorem State.setSampler_sampler (x : Sampler) : (s.setSampler x).sampler = x := rfl
@[simp] theorem State.setWrites_mgmt (l : List SetWrite) : (s.setWrites l).mgmt = { s.mgmt with setWrites := l } := rfl
@[simp] theorem State.setSegments_mgmt (l : List Segment) : (s.setSegments l).mgmt = { s.mgmt with segments := l } := rfl
@[simp] theorem State.setFar_far (f : Far) : (s.setFar f).far = f := rfl
@[simp] theorem State.setHeat_heat (h : Heat) : (s.setHeat h).heat = h := rfl
@[simp] theorem State.setSet_hl (v : SetView) : (s.setSet v).hl = { s.hl with set := v } := rfl
@[simp] theorem State.setSec_sec (x : Security) : (s.setSec x).sec = x := rfl
@[simp] theorem State.setPower_power (p : Power) : (s.setPower p).power = p := rfl
@[simp] theorem State.setUpd_upd (u : Update) : (s.setUpd u).upd = u := rfl
@[simp] theorem State.setPlans_plans (p : Plans) : (s.setPlans p).plans = p := rfl
@[simp] theorem State.setWrap_wrap (w : Wrapper) : (s.setWrap w).wrap = w := rfl
end

end Sys2Proof.Machine
end

