-- ==== Sys2Proof/Laws/Ops.lean ====
section
/-!
SUPPORT. What the shared operations can do, said once: object values are a store, and raising an event or answering a request reports
and does nothing else. Later proofs cite these lemmas and unfold none of the operations.
-/
namespace Sys2Proof.Machine

/-! ### Object values -/

theorem objKey_inj {i j a b : Nat} (ha : a < 256) (hb : b < 256) (h : objKey i a = objKey j b) : i = j ∧ a = b := by
  unfold objKey at h; omega

/-- A read of another object does not see a write. -/
theorem State.ob_setOb_ne (s : State) {i a j b v : Nat} (h : objKey j b ≠ objKey i a) : (s.setOb i a v).ob j b = s.ob j b :=
  look_put_ne _ h

/-- A read of an object after its write, in a state whose objects are in canonical form. -/
theorem State.ob_setOb_eq {s : State} (c : Canonical objDefault s.obj) (i a v : Nat) : (s.setOb i a v).ob i a = v :=
  look_put_eq c.1

theorem State.setOb_canonical {s : State} (c : Canonical objDefault s.obj) (i a v : Nat) :
    Canonical objDefault (s.setOb i a v).obj := c.put

/-! ### Reports -/

theorem ReportsOnly.refl (s : State) : ReportsOnly s s := ⟨rfl, fun _ _ _ _ => rfl, List.prefix_refl _⟩

theorem ReportsOnly.trans {s t u : State} (h : ReportsOnly s t) (k : ReportsOnly t u) : ReportsOnly s u where
  parts := by rw [k.parts, h.parts]
  objects i a ha hi := (k.objects i a ha hi).trans (h.objects i a ha hi)
  sent := h.sent.trans k.sent

section
variable {s t : State} (h : ReportsOnly s t)
include h
theorem ReportsOnly.now : t.now = s.now := by rw [h.parts]
theorem ReportsOnly.cfg : t.cfg = s.cfg := by rw [h.parts]
theorem ReportsOnly.power : t.power = s.power := by rw [h.parts]
theorem ReportsOnly.wrap : t.wrap = s.wrap := by rw [h.parts]
theorem ReportsOnly.hl : t.hl = s.hl := by rw [h.parts]
theorem ReportsOnly.dram : t.dram = s.dram := by rw [h.parts]
theorem ReportsOnly.sec : t.sec = s.sec := by rw [h.parts]
theorem ReportsOnly.fuses : t.fuses = s.fuses := by rw [h.parts]
theorem ReportsOnly.free : t.free = s.free := by rw [h.parts]
theorem ReportsOnly.pending : t.pending = s.pending := by rw [h.parts]
theorem ReportsOnly.plans : t.plans = s.plans := by rw [h.parts]
theorem ReportsOnly.feeds : t.feeds = s.feeds := by rw [h.parts]
theorem ReportsOnly.path : t.path = s.path := by rw [h.parts]
theorem ReportsOnly.cache : t.cache = s.cache := by rw [h.parts]
theorem ReportsOnly.far : t.far = s.far := by rw [h.parts]
theorem ReportsOnly.syncs : t.syncs = s.syncs := by rw [h.parts]
theorem ReportsOnly.heat : t.heat = s.heat := by rw [h.parts]
theorem ReportsOnly.train : t.train = s.train := by rw [h.parts]
theorem ReportsOnly.clk : t.clk = s.clk := by rw [h.parts]
theorem ReportsOnly.upd : t.upd = s.upd := by rw [h.parts]
theorem ReportsOnly.sampler : t.sampler = s.sampler := by rw [h.parts]
end

/-- A counter of the management objects is a report. -/
theorem bumpBy_reports (s : State) {i a : Nat} (n : Nat) (hi : logObject i = true) (ha : a < 256) :
    ReportsOnly s (s.bumpBy i a n) where
  parts := rfl
  objects j b hb hj := State.ob_setOb_ne _ fun e => by
    obtain ⟨rfl, -⟩ := objKey_inj hb ha e
    simp_all
  sent := List.prefix_refl _

theorem bump_reports (s : State) {i a : Nat} (hi : logObject i = true) (ha : a < 256) : ReportsOnly s (s.bump i a) :=
  bumpBy_reports s 1 hi ha

theorem send_reports (s : State) (o : Output) : ReportsOnly s (s.send o) := ⟨rfl, fun _ _ _ _ => rfl, List.prefix_append _ _⟩

/-- A change of management state is a report. -/
theorem mgmt_reports (s : State) (m : Mgmt) : ReportsOnly s { s with mgmt := m } := ⟨rfl, fun _ _ _ _ => rfl, List.prefix_refl _⟩

theorem forEach_reports {α : Type} (l : List α) (f : α → State → State) (hf : ∀ x s, ReportsOnly s (f x s)) (s : State) :
    ReportsOnly s (forEach l f s) := by
  unfold forEach
  induction l generalizing s with
  | nil => exact .refl s
  | cons x l ih => exact (hf x s).trans (ih (f x s))

theorem ringPlace_reports (e : LogEntry) (s : State) : ReportsOnly s (ringPlace e s) := by
  unfold ringPlace
  dsimp only
  split
  · exact mgmt_reports s _
  · split
    · exact bump_reports s rfl (by decide)
    · split
      · exact (mgmt_reports s _).trans (bump_reports _ rfl (by decide))
      · exact bump_reports s rfl (by decide)

theorem sendNotify_reports (n : Nat) (e : LogEntry) (s : State) : ReportsOnly s (sendNotify n e s) :=
  (send_reports s _).trans (bump_reports _ rfl (by decide))

theorem notifyQueue_reports (n : Nat) (e : LogEntry) (s : State) : ReportsOnly s (notifyQueue n e s) := by
  unfold notifyQueue
  dsimp only
  split
  · exact (mgmt_reports s _).trans (sendNotify_reports _ _ _)
  · split
    · exact mgmt_reports s _
    · split
      · exact (mgmt_reports s _).trans (bump_reports _ rfl (by decide))
      · exact mgmt_reports s _

theorem notifyAll_reports (e : LogEntry) (s : State) : ReportsOnly s (notifyAll e s) := by
  unfold notifyAll
  dsimp only
  split
  · exact notifyQueue_reports _ _ _
  · exact forEach_reports _ _ (fun _ _ => notifyQueue_reports _ _ _) _

theorem ite_reports {s x y : State} {c : Prop} [Decidable c] (hx : ReportsOnly s x) (hy : ReportsOnly s y) :
    ReportsOnly s (if c then x else y) := by
  split <;> assumption

/-- Writing a log entry with all that goes with it is a report (R455, R457 to R459, R464). -/
theorem logEntry_reports (e : LogEntry) (s : State) : ReportsOnly s (logEntry e s) := by
  have mirror (x : State) (m : List LogEntry) (g : Mgmt) :
      ReportsOnly x { x with nvm := { x.nvm with mirror := m }, mgmt := g } := ⟨rfl, fun _ _ _ _ => rfl, List.prefix_refl _⟩
  have alarm (x : State) : ReportsOnly x { x with pins := { x.pins with alarm := true } } :=
    ⟨rfl, fun _ _ _ _ => rfl, List.prefix_refl _⟩
  have step {x y z : State} {c : Prop} [Decidable c] (h : ReportsOnly x y) (k : ReportsOnly y z) :
      ReportsOnly x (if c then z else y) := ite_reports (h.trans k) h
  have step' {x y z : State} {c : Prop} [Decidable c] (h : ReportsOnly x y) (k : ReportsOnly y z) :
      ReportsOnly x (if c then y else z) := ite_reports h (h.trans k)
  unfold logEntry
  exact step (step ((step (step (step' (bump_reports s rfl (by decide)) (bump_reports _ rfl (by decide)))
    (bump_reports _ rfl (by decide))) (mirror _ _ _)).trans ((mgmt_reports _ _).trans (notifyAll_reports _ _)))
    (ringPlace_reports _ _)) (alarm _)

theorem logEvent_reports (e : Event) (s : State) : ReportsOnly s (logEvent e s) := by
  unfold logEvent
  split
  · exact bump_reports s rfl (by decide)
  · dsimp only
    split
    · exact logEntry_reports _ _
    · split
      · split
        · exact mgmt_reports s _
        · exact (mgmt_reports s _).trans (logEntry_reports _ _)
      · exact (mgmt_reports s _).trans (logEntry_reports _ _)

/-- Raising an event is a report (R26, R454). -/
theorem raiseEvent_reports (e : Event) (s : State) : ReportsOnly s (raiseEvent e s) := by
  have staged (x : State) (l : List Event) : ReportsOnly x { x with procs := { x.procs with staged := l } } :=
    ⟨rfl, fun _ _ _ _ => rfl, List.prefix_refl _⟩
  have lost (x : State) (n : Nat) : ReportsOnly x { x with procs := { x.procs with stagedLost := n } } :=
    ⟨rfl, fun _ _ _ _ => rfl, List.prefix_refl _⟩
  unfold raiseEvent
  split
  · exact .refl s
  · split
    · split
      · exact staged s _
      · exact (lost s _).trans (bump_reports _ rfl (by decide))
    · exact logEvent_reports e s

theorem raise_reports (code inst detail : Nat) (s : State) : ReportsOnly s (raise code inst detail s) := raiseEvent_reports _ s
theorem raiseNode_reports (code detail : Nat) (s : State) : ReportsOnly s (raiseNode code detail s) := raiseEvent_reports _ s
theorem raiseCtx_reports (code inst ctx detail : Nat) (s : State) : ReportsOnly s (raiseCtx code inst ctx detail s) :=
  raiseEvent_reports _ s
theorem raiseAt_reports (code inst detail : Nat) (secure : Bool) (s : State) :
    ReportsOnly s (raiseAt code inst detail secure s) := raiseEvent_reports _ s

/-! ### Answers -/

theorem sendResponse_reports (r : Req) (a : Answer) (s : State) : ReportsOnly s (sendResponse r a s) := by
  unfold sendResponse
  split
  · exact (mgmt_reports s _).trans (send_reports _ _)
  · exact (send_reports s _).trans (bump_reports _ rfl (by decide))
  · exact send_reports s _

/-- An answer is a report (R441, R443). -/
theorem respond_reports (r : Req) (a : Answer) (s : State) : ReportsOnly s (respond r a s) :=
  (mgmt_reports s _).trans (sendResponse_reports r a _)

theorem answer_reports (r : Req) (status detail : Nat) (s : State) : ReportsOnly s (answer r status detail s) :=
  respond_reports r _ s

/-- Hearing from a session moves the moment it was last heard, and nothing else (R377). -/
theorem heardFrom_parts (r : Req) (s : State) :
    heardFrom r s = { s with sec := { s.sec with sessions := (heardFrom r s).sec.sessions } } := by
  unfold heardFrom; split <;> rfl

/-- Counting a frame is a report beyond hearing from its session (R377, R439). -/
theorem countFrame_reports (r : Req) (s : State) : ReportsOnly (heardFrom r s) (countFrame r s) := by
  unfold countFrame
  dsimp only
  split
  · exact bump_reports _ rfl (by decide)
  · exact (mgmt_reports _ _).trans (bump_reports _ rfl (by decide))
  · exact .refl _

/-- An answer is sent: it is the last thing the node has sent. -/
theorem respond_out (r : Req) (a : Answer) (s : State) : (respond r a s).out = s.out ++ [.response r a] := by
  unfold respond sendResponse
  split <;> rfl

theorem answer_out (r : Req) (status detail : Nat) (s : State) :
    (answer r status detail s).out = s.out ++ [.response r ⟨status, detail, [], none, false⟩] := respond_out _ _ _

/-! ### Events raised and answers sent leave the parts that are no reports as they are -/
section
variable (s : State)
@[simp] theorem raiseEvent_now (e : Event) : (raiseEvent e s).now = s.now := (raiseEvent_reports e s).now
@[simp] theorem raiseEvent_cfg (e : Event) : (raiseEvent e s).cfg = s.cfg := (raiseEvent_reports e s).cfg
@[simp] theorem raiseEvent_power (e : Event) : (raiseEvent e s).power = s.power := (raiseEvent_reports e s).power
@[simp] theorem raiseEvent_wrap (e : Event) : (raiseEvent e s).wrap = s.wrap := (raiseEvent_reports e s).wrap
@[simp] theorem raiseEvent_hl (e : Event) : (raiseEvent e s).hl = s.hl := (raiseEvent_reports e s).hl
@[simp] theorem raiseEvent_dram (e : Event) : (raiseEvent e s).dram = s.dram := (raiseEvent_reports e s).dram
@[simp] theorem raiseEvent_sec (e : Event) : (raiseEvent e s).sec = s.sec := (raiseEvent_reports e s).sec
@[simp] theorem raiseEvent_fuses (e : Event) : (raiseEvent e s).fuses = s.fuses := (raiseEvent_reports e s).fuses
@[simp] theorem raiseEvent_free (e : Event) : (raiseEvent e s).free = s.free := (raiseEvent_reports e s).free
@[simp] theorem raiseEvent_pending (e : Event) : (raiseEvent e s).pending = s.pending := (raiseEvent_reports e s).pending
@[simp] theorem raiseEvent_plans (e : Event) : (raiseEvent e s).plans = s.plans := (raiseEvent_reports e s).plans
@[simp] theorem raiseEvent_feeds (e : Event) : (raiseEvent e s).feeds = s.feeds := (raiseEvent_reports e s).feeds
@[simp] theorem raiseEvent_path (e : Event) : (raiseEvent e s).path = s.path := (raiseEvent_reports e s).path
@[simp] theorem raiseEvent_cache (e : Event) : (raiseEvent e s).cache = s.cache := (raiseEvent_reports e s).cache
@[simp] theorem raiseEvent_far (e : Event) : (raiseEvent e s).far = s.far := (raiseEvent_reports e s).far
@[simp] theorem raiseEvent_syncs (e : Event) : (raiseEvent e s).syncs = s.syncs := (raiseEvent_reports e s).syncs
@[simp] theorem raiseEvent_heat (e : Event) : (raiseEvent e s).heat = s.heat := (raiseEvent_reports e s).heat
@[simp] theorem raiseEvent_train (e : Event) : (raiseEvent e s).train = s.train := (raiseEvent_reports e s).train
@[simp] theorem raiseEvent_clk (e : Event) : (raiseEvent e s).clk = s.clk := (raiseEvent_reports e s).clk
@[simp] theorem raiseEvent_upd (e : Event) : (raiseEvent e s).upd = s.upd := (raiseEvent_reports e s).upd
@[simp] theorem raiseEvent_sampler (e : Event) : (raiseEvent e s).sampler = s.sampler := (raiseEvent_reports e s).sampler
@[simp] theorem raise_now (code inst detail : Nat) : (raise code inst detail s).now = s.now := (raise_reports code inst detail s).now
@[simp] theorem raise_cfg (code inst detail : Nat) : (raise code inst detail s).cfg = s.cfg := (raise_reports code inst detail s).cfg
@[simp] theorem raise_power (code inst detail : Nat) : (raise code inst detail s).power = s.power := (raise_reports code inst detail s).power
@[simp] theorem raise_wrap (code inst detail : Nat) : (raise code inst detail s).wrap = s.wrap := (raise_reports code inst detail s).wrap
@[simp] theorem raise_hl (code inst detail : Nat) : (raise code inst detail s).hl = s.hl := (raise_reports code inst detail s).hl
@[simp] theorem raise_dram (code inst detail : Nat) : (raise code inst detail s).dram = s.dram := (raise_reports code inst detail s).dram
@[simp] theorem raise_sec (code inst detail : Nat) : (raise code inst detail s).sec = s.sec := (raise_reports code inst detail s).sec
@[simp] theorem raise_fuses (code inst detail : Nat) : (raise code inst detail s).fuses = s.fuses := (raise_reports code inst detail s).fuses
@[simp] theorem raise_free (code inst detail : Nat) : (raise code inst detail s).free = s.free := (raise_reports code inst detail s).free
@[simp] theorem raise_pending (code inst detail : Nat) : (raise code inst detail s).pending = s.pending := (raise_reports code inst detail s).pending
@[simp] theorem raise_plans (code inst detail : Nat) : (raise code inst detail s).plans = s.plans := (raise_reports code inst detail s).plans
@[simp] theorem raise_feeds (code inst detail : Nat) : (raise code inst detail s).feeds = s.feeds := (raise_reports code inst detail s).feeds
@[simp] theorem raise_path (code inst detail : Nat) : (raise code inst detail s).path = s.path := (raise_reports code inst detail s).path
@[simp] theorem raise_cache (code inst detail : Nat) : (raise code inst detail s).cache = s.cache := (raise_reports code inst detail s).cache
@[simp] theorem raise_far (code inst detail : Nat) : (raise code inst detail s).far = s.far := (raise_reports code inst detail s).far
@[simp] theorem raise_syncs (code inst detail : Nat) : (raise code inst detail s).syncs = s.syncs := (raise_reports code inst detail s).syncs
@[simp] theorem raise_heat (code inst detail : Nat) : (raise code inst detail s).heat = s.heat := (raise_reports code inst detail s).heat
@[simp] theorem raise_train (code inst detail : Nat) : (raise code inst detail s).train = s.train := (raise_reports code inst detail s).train
@[simp] theorem raise_clk (code inst detail : Nat) : (raise code inst detail s).clk = s.clk := (raise_reports code inst detail s).clk
@[simp] theorem raise_upd (code inst detail : Nat) : (raise code inst detail s).upd = s.upd := (raise_reports code inst detail s).upd
@[simp] theorem raise_sampler (code inst detail : Nat) : (raise code inst detail s).sampler = s.sampler := (raise_reports code inst detail s).sampler
@[simp] theorem raiseNode_now (code detail : Nat) : (raiseNode code detail s).now = s.now := (raiseNode_reports code detail s).now
@[simp] theorem raiseNode_cfg (code detail : Nat) : (raiseNode code detail s).cfg = s.cfg := (raiseNode_reports code detail s).cfg
@[simp] theorem raiseNode_power (code detail : Nat) : (raiseNode code detail s).power = s.power := (raiseNode_reports code detail s).power
@[simp] theorem raiseNode_wrap (code detail : Nat) : (raiseNode code detail s).wrap = s.wrap := (raiseNode_reports code detail s).wrap
@[simp] theorem raiseNode_hl (code detail : Nat) : (raiseNode code detail s).hl = s.hl := (raiseNode_reports code detail s).hl
@[simp] theorem raiseNode_dram (code detail : Nat) : (raiseNode code detail s).dram = s.dram := (raiseNode_reports code detail s).dram
@[simp] theorem raiseNode_sec (code detail : Nat) : (raiseNode code detail s).sec = s.sec := (raiseNode_reports code detail s).sec
@[simp] theorem raiseNode_fuses (code detail : Nat) : (raiseNode code detail s).fuses = s.fuses := (raiseNode_reports code detail s).fuses
@[simp] theorem raiseNode_free (code detail : Nat) : (raiseNode code detail s).free = s.free := (raiseNode_reports code detail s).free
@[simp] theorem raiseNode_pending (code detail : Nat) : (raiseNode code detail s).pending = s.pending := (raiseNode_reports code detail s).pending
@[simp] theorem raiseNode_plans (code detail : Nat) : (raiseNode code detail s).plans = s.plans := (raiseNode_reports code detail s).plans
@[simp] theorem raiseNode_feeds (code detail : Nat) : (raiseNode code detail s).feeds = s.feeds := (raiseNode_reports code detail s).feeds
@[simp] theorem raiseNode_path (code detail : Nat) : (raiseNode code detail s).path = s.path := (raiseNode_reports code detail s).path
@[simp] theorem raiseNode_cache (code detail : Nat) : (raiseNode code detail s).cache = s.cache := (raiseNode_reports code detail s).cache
@[simp] theorem raiseNode_far (code detail : Nat) : (raiseNode code detail s).far = s.far := (raiseNode_reports code detail s).far
@[simp] theorem raiseNode_syncs (code detail : Nat) : (raiseNode code detail s).syncs = s.syncs := (raiseNode_reports code detail s).syncs
@[simp] theorem raiseNode_heat (code detail : Nat) : (raiseNode code detail s).heat = s.heat := (raiseNode_reports code detail s).heat
@[simp] theorem raiseNode_train (code detail : Nat) : (raiseNode code detail s).train = s.train := (raiseNode_reports code detail s).train
@[simp] theorem raiseNode_clk (code detail : Nat) : (raiseNode code detail s).clk = s.clk := (raiseNode_reports code detail s).clk
@[simp] theorem raiseNode_upd (code detail : Nat) : (raiseNode code detail s).upd = s.upd := (raiseNode_reports code detail s).upd
@[simp] theorem raiseNode_sampler (code detail : Nat) : (raiseNode code detail s).sampler = s.sampler := (raiseNode_reports code detail s).sampler
@[simp] theorem raiseCtx_now (code inst ctx detail : Nat) : (raiseCtx code inst ctx detail s).now = s.now := (raiseCtx_reports code inst ctx detail s).now
@[simp] theorem raiseCtx_cfg (code inst ctx detail : Nat) : (raiseCtx code inst ctx detail s).cfg = s.cfg := (raiseCtx_reports code inst ctx detail s).cfg
@[simp] theorem raiseCtx_power (code inst ctx detail : Nat) : (raiseCtx code inst ctx detail s).power = s.power := (raiseCtx_reports code inst ctx detail s).power
@[simp] theorem raiseCtx_wrap (code inst ctx detail : Nat) : (raiseCtx code inst ctx detail s).wrap = s.wrap := (raiseCtx_reports code inst ctx detail s).wrap
@[simp] theorem raiseCtx_hl (code inst ctx detail : Nat) : (raiseCtx code inst ctx detail s).hl = s.hl := (raiseCtx_reports code inst ctx detail s).hl
@[simp] theorem raiseCtx_dram (code inst ctx detail : Nat) : (raiseCtx code inst ctx detail s).dram = s.dram := (raiseCtx_reports code inst ctx detail s).dram
@[simp] theorem raiseCtx_sec (code inst ctx detail : Nat) : (raiseCtx code inst ctx detail s).sec = s.sec := (raiseCtx_reports code inst ctx detail s).sec
@[simp] theorem raiseCtx_fuses (code inst ctx detail : Nat) : (raiseCtx code inst ctx detail s).fuses = s.fuses := (raiseCtx_reports code inst ctx detail s).fuses
@[simp] theorem raiseCtx_free (code inst ctx detail : Nat) : (raiseCtx code inst ctx detail s).free = s.free := (raiseCtx_reports code inst ctx detail s).free
@[simp] theorem raiseCtx_pending (code inst ctx detail : Nat) : (raiseCtx code inst ctx detail s).pending = s.pending := (raiseCtx_reports code inst ctx detail s).pending
@[simp] theorem raiseCtx_plans (code inst ctx detail : Nat) : (raiseCtx code inst ctx detail s).plans = s.plans := (raiseCtx_reports code inst ctx detail s).plans
@[simp] theorem raiseCtx_feeds (code inst ctx detail : Nat) : (raiseCtx code inst ctx detail s).feeds = s.feeds := (raiseCtx_reports code inst ctx detail s).feeds
@[simp] theorem raiseCtx_path (code inst ctx detail : Nat) : (raiseCtx code inst ctx detail s).path = s.path := (raiseCtx_reports code inst ctx detail s).path
@[simp] theorem raiseCtx_cache (code inst ctx detail : Nat) : (raiseCtx code inst ctx detail s).cache = s.cache := (raiseCtx_reports code inst ctx detail s).cache
@[simp] theorem raiseCtx_far (code inst ctx detail : Nat) : (raiseCtx code inst ctx detail s).far = s.far := (raiseCtx_reports code inst ctx detail s).far
@[simp] theorem raiseCtx_syncs (code inst ctx detail : Nat) : (raiseCtx code inst ctx detail s).syncs = s.syncs := (raiseCtx_reports code inst ctx detail s).syncs
@[simp] theorem raiseCtx_heat (code inst ctx detail : Nat) : (raiseCtx code inst ctx detail s).heat = s.heat := (raiseCtx_reports code inst ctx detail s).heat
@[simp] theorem raiseCtx_train (code inst ctx detail : Nat) : (raiseCtx code inst ctx detail s).train = s.train := (raiseCtx_reports code inst ctx detail s).train
@[simp] theorem raiseCtx_clk (code inst ctx detail : Nat) : (raiseCtx code inst ctx detail s).clk = s.clk := (raiseCtx_reports code inst ctx detail s).clk
@[simp] theorem raiseCtx_upd (code inst ctx detail : Nat) : (raiseCtx code inst ctx detail s).upd = s.upd := (raiseCtx_reports code inst ctx detail s).upd
@[simp] theorem raiseCtx_sampler (code inst ctx detail : Nat) : (raiseCtx code inst ctx detail s).sampler = s.sampler := (raiseCtx_reports code inst ctx detail s).sampler
@[simp] theorem raiseAt_now (code inst detail : Nat) (secure : Bool) : (raiseAt code inst detail secure s).now = s.now := (raiseAt_reports code inst detail secure s).now
@[simp] theorem raiseAt_cfg (code inst detail : Nat) (secure : Bool) : (raiseAt code inst detail secure s).cfg = s.cfg := (raiseAt_reports code inst detail secure s).cfg
@[simp] theorem raiseAt_power (code inst detail : Nat) (secure : Bool) : (raiseAt code inst detail secure s).power = s.power := (raiseAt_reports code inst detail secure s).power
@[simp] theorem raiseAt_wrap (code inst detail : Nat) (secure : Bool) : (raiseAt code inst detail secure s).wrap = s.wrap := (raiseAt_reports code inst detail secure s).wrap
@[simp] theorem raiseAt_hl (code inst detail : Nat) (secure : Bool) : (raiseAt code inst detail secure s).hl = s.hl := (raiseAt_reports code inst detail secure s).hl
@[simp] theorem raiseAt_dram (code inst detail : Nat) (secure : Bool) : (raiseAt code inst detail secure s).dram = s.dram := (raiseAt_reports code inst detail secure s).dram
@[simp] theorem raiseAt_sec (code inst detail : Nat) (secure : Bool) : (raiseAt code inst detail secure s).sec = s.sec := (raiseAt_reports code inst detail secure s).sec
@[simp] theorem raiseAt_fuses (code inst detail : Nat) (secure : Bool) : (raiseAt code inst detail secure s).fuses = s.fuses := (raiseAt_reports code inst detail secure s).fuses
@[simp] theorem raiseAt_free (code inst detail : Nat) (secure : Bool) : (raiseAt code inst detail secure s).free = s.free := (raiseAt_reports code inst detail secure s).free
@[simp] theorem raiseAt_pending (code inst detail : Nat) (secure : Bool) : (raiseAt code inst detail secure s).pending = s.pending := (raiseAt_reports code inst detail secure s).pending
@[simp] theorem raiseAt_plans (code inst detail : Nat) (secure : Bool) : (raiseAt code inst detail secure s).plans = s.plans := (raiseAt_reports code inst detail secure s).plans
@[simp] theorem raiseAt_feeds (code inst detail : Nat) (secure : Bool) : (raiseAt code inst detail secure s).feeds = s.feeds := (raiseAt_reports code inst detail secure s).feeds
@[simp] theorem raiseAt_path (code inst detail : Nat) (secure : Bool) : (raiseAt code inst detail secure s).path = s.path := (raiseAt_reports code inst detail secure s).path
@[simp] theorem raiseAt_cache (code inst detail : Nat) (secure : Bool) : (raiseAt code inst detail secure s).cache = s.cache := (raiseAt_reports code inst detail secure s).cache
@[simp] theorem raiseAt_far (code inst detail : Nat) (secure : Bool) : (raiseAt code inst detail secure s).far = s.far := (raiseAt_reports code inst detail secure s).far
@[simp] theorem raiseAt_syncs (code inst detail : Nat) (secure : Bool) : (raiseAt code inst detail secure s).syncs = s.syncs := (raiseAt_reports code inst detail secure s).syncs
@[simp] theorem raiseAt_heat (code inst detail : Nat) (secure : Bool) : (raiseAt code inst detail secure s).heat = s.heat := (raiseAt_reports code inst detail secure s).heat
@[simp] theorem raiseAt_train (code inst detail : Nat) (secure : Bool) : (raiseAt code inst detail secure s).train = s.train := (raiseAt_reports code inst detail secure s).train
@[simp] theorem raiseAt_clk (code inst detail : Nat) (secure : Bool) : (raiseAt code inst detail secure s).clk = s.clk := (raiseAt_reports code inst detail secure s).clk
@[simp] theorem raiseAt_upd (code inst detail : Nat) (secure : Bool) : (raiseAt code inst detail secure s).upd = s.upd := (raiseAt_reports code inst detail secure s).upd
@[simp] theorem raiseAt_sampler (code inst detail : Nat) (secure : Bool) : (raiseAt code inst detail secure s).sampler = s.sampler := (raiseAt_reports code inst detail secure s).sampler
@[simp] theorem respond_now (r : Req) (a : Answer) : (respond r a s).now = s.now := (respond_reports r a s).now
@[simp] theorem respond_cfg (r : Req) (a : Answer) : (respond r a s).cfg = s.cfg := (respond_reports r a s).cfg
@[simp] theorem respond_power (r : Req) (a : Answer) : (respond r a s).power = s.power := (respond_reports r a s).power
@[simp] theorem respond_wrap (r : Req) (a : Answer) : (respond r a s).wrap = s.wrap := (respond_reports r a s).wrap
@[simp] theorem respond_hl (r : Req) (a : Answer) : (respond r a s).hl = s.hl := (respond_reports r a s).hl
@[simp] theorem respond_dram (r : Req) (a : Answer) : (respond r a s).dram = s.dram := (respond_reports r a s).dram
@[simp] theorem respond_sec (r : Req) (a : Answer) : (respond r a s).sec = s.sec := (respond_reports r a s).sec
@[simp] theorem respond_fuses (r : Req) (a : Answer) : (respond r a s).fuses = s.fuses := (respond_reports r a s).fuses
@[simp] theorem respond_free (r : Req) (a : Answer) : (respond r a s).free = s.free := (respond_reports r a s).free
@[simp] theorem respond_pending (r : Req) (a : Answer) : (respond r a s).pending = s.pending := (respond_reports r a s).pending
@[simp] theorem respond_plans (r : Req) (a : Answer) : (respond r a s).plans = s.plans := (respond_reports r a s).plans
@[simp] theorem respond_feeds (r : Req) (a : Answer) : (respond r a s).feeds = s.feeds := (respond_reports r a s).feeds
@[simp] theorem respond_path (r : Req) (a : Answer) : (respond r a s).path = s.path := (respond_reports r a s).path
@[simp] theorem respond_cache (r : Req) (a : Answer) : (respond r a s).cache = s.cache := (respond_reports r a s).cache
@[simp] theorem respond_far (r : Req) (a : Answer) : (respond r a s).far = s.far := (respond_reports r a s).far
@[simp] theorem respond_syncs (r : Req) (a : Answer) : (respond r a s).syncs = s.syncs := (respond_reports r a s).syncs
@[simp] theorem respond_heat (r : Req) (a : Answer) : (respond r a s).heat = s.heat := (respond_reports r a s).heat
@[simp] theorem respond_train (r : Req) (a : Answer) : (respond r a s).train = s.train := (respond_reports r a s).train
@[simp] theorem respond_clk (r : Req) (a : Answer) : (respond r a s).clk = s.clk := (respond_reports r a s).clk
@[simp] theorem respond_upd (r : Req) (a : Answer) : (respond r a s).upd = s.upd := (respond_reports r a s).upd
@[simp] theorem respond_sampler (r : Req) (a : Answer) : (respond r a s).sampler = s.sampler := (respond_reports r a s).sampler
@[simp] theorem answer_now (r : Req) (status detail : Nat) : (answer r status detail s).now = s.now := (answer_reports r status detail s).now
@[simp] theorem answer_cfg (r : Req) (status detail : Nat) : (answer r status detail s).cfg = s.cfg := (answer_reports r status detail s).cfg
@[simp] theorem answer_power (r : Req) (status detail : Nat) : (answer r status detail s).power = s.power := (answer_reports r status detail s).power
@[simp] theorem answer_wrap (r : Req) (status detail : Nat) : (answer r status detail s).wrap = s.wrap := (answer_reports r status detail s).wrap
@[simp] theorem answer_hl (r : Req) (status detail : Nat) : (answer r status detail s).hl = s.hl := (answer_reports r status detail s).hl
@[simp] theorem answer_dram (r : Req) (status detail : Nat) : (answer r status detail s).dram = s.dram := (answer_reports r status detail s).dram
@[simp] theorem answer_sec (r : Req) (status detail : Nat) : (answer r status detail s).sec = s.sec := (answer_reports r status detail s).sec
@[simp] theorem answer_fuses (r : Req) (status detail : Nat) : (answer r status detail s).fuses = s.fuses := (answer_reports r status detail s).fuses
@[simp] theorem answer_free (r : Req) (status detail : Nat) : (answer r status detail s).free = s.free := (answer_reports r status detail s).free
@[simp] theorem answer_pending (r : Req) (status detail : Nat) : (answer r status detail s).pending = s.pending := (answer_reports r status detail s).pending
@[simp] theorem answer_plans (r : Req) (status detail : Nat) : (answer r status detail s).plans = s.plans := (answer_reports r status detail s).plans
@[simp] theorem answer_feeds (r : Req) (status detail : Nat) : (answer r status detail s).feeds = s.feeds := (answer_reports r status detail s).feeds
@[simp] theorem answer_path (r : Req) (status detail : Nat) : (answer r status detail s).path = s.path := (answer_reports r status detail s).path
@[simp] theorem answer_cache (r : Req) (status detail : Nat) : (answer r status detail s).cache = s.cache := (answer_reports r status detail s).cache
@[simp] theorem answer_far (r : Req) (status detail : Nat) : (answer r status detail s).far = s.far := (answer_reports r status detail s).far
@[simp] theorem answer_syncs (r : Req) (status detail : Nat) : (answer r status detail s).syncs = s.syncs := (answer_reports r status detail s).syncs
@[simp] theorem answer_heat (r : Req) (status detail : Nat) : (answer r status detail s).heat = s.heat := (answer_reports r status detail s).heat
@[simp] theorem answer_train (r : Req) (status detail : Nat) : (answer r status detail s).train = s.train := (answer_reports r status detail s).train
@[simp] theorem answer_clk (r : Req) (status detail : Nat) : (answer r status detail s).clk = s.clk := (answer_reports r status detail s).clk
@[simp] theorem answer_upd (r : Req) (status detail : Nat) : (answer r status detail s).upd = s.upd := (answer_reports r status detail s).upd
@[simp] theorem answer_sampler (r : Req) (status detail : Nat) : (answer r status detail s).sampler = s.sampler := (answer_reports r status detail s).sampler
@[simp] theorem countFrame_now (r : Req) : (countFrame r s).now = s.now :=
  (countFrame_reports r s).now.trans (by rw [heardFrom_parts])
@[simp] theorem countFrame_cfg (r : Req) : (countFrame r s).cfg = s.cfg :=
  (countFrame_reports r s).cfg.trans (by rw [heardFrom_parts])
@[simp] theorem countFrame_power (r : Req) : (countFrame r s).power = s.power :=
  (countFrame_reports r s).power.trans (by rw [heardFrom_parts])
@[simp] theorem countFrame_wrap (r : Req) : (countFrame r s).wrap = s.wrap :=
  (countFrame_reports r s).wrap.trans (by rw [heardFrom_parts])
@[simp] theorem countFrame_hl (r : Req) : (countFrame r s).hl = s.hl :=
  (countFrame_reports r s).hl.trans (by rw [heardFrom_parts])
@[simp] theorem countFrame_dram (r : Req) : (countFrame r s).dram = s.dram :=
  (countFrame_reports r s).dram.trans (by rw [heardFrom_parts])
@[simp] theorem countFrame_sec (r : Req) : (countFrame r s).sec = (heardFrom r s).sec := (countFrame_reports r s).sec
@[simp] theorem countFrame_fuses (r : Req) : (countFrame r s).fuses = s.fuses :=
  (countFrame_reports r s).fuses.trans (by rw [heardFrom_parts])
@[simp] theorem countFrame_free (r : Req) : (countFrame r s).free = s.free :=
  (countFrame_reports r s).free.trans (by rw [heardFrom_parts])
@[simp] theorem countFrame_pending (r : Req) : (countFrame r s).pending = s.pending :=
  (countFrame_reports r s).pending.trans (by rw [heardFrom_parts])
@[simp] theorem countFrame_plans (r : Req) : (countFrame r s).plans = s.plans :=
  (countFrame_reports r s).plans.trans (by rw [heardFrom_parts])
@[simp] theorem countFrame_feeds (r : Req) : (countFrame r s).feeds = s.feeds :=
  (countFrame_reports r s).feeds.trans (by rw [heardFrom_parts])
@[simp] theorem countFrame_path (r : Req) : (countFrame r s).path = s.path :=
  (countFrame_reports r s).path.trans (by rw [heardFrom_parts])
@[simp] theorem countFrame_cache (r : Req) : (countFrame r s).cache = s.cache :=
  (countFrame_reports r s).cache.trans (by rw [heardFrom_parts])
@[simp] theorem countFrame_far (r : Req) : (countFrame r s).far = s.far :=
  (countFrame_reports r s).far.trans (by rw [heardFrom_parts])
@[simp] theorem countFrame_syncs (r : Req) : (countFrame r s).syncs = s.syncs :=
  (countFrame_reports r s).syncs.trans (by rw [heardFrom_parts])
@[simp] theorem countFrame_heat (r : Req) : (countFrame r s).heat = s.heat :=
  (countFrame_reports r s).heat.trans (by rw [heardFrom_parts])
@[simp] theorem countFrame_train (r : Req) : (countFrame r s).train = s.train :=
  (countFrame_reports r s).train.trans (by rw [heardFrom_parts])
@[simp] theorem countFrame_clk (r : Req) : (countFrame r s).clk = s.clk :=
  (countFrame_reports r s).clk.trans (by rw [heardFrom_parts])
@[simp] theorem countFrame_upd (r : Req) : (countFrame r s).upd = s.upd :=
  (countFrame_reports r s).upd.trans (by rw [heardFrom_parts])
@[simp] theorem countFrame_sampler (r : Req) : (countFrame r s).sampler = s.sampler :=
  (countFrame_reports r s).sampler.trans (by rw [heardFrom_parts])
end

end Sys2Proof.Machine
end

