-- ==== Sys2Proof/Laws/Dict.lean ====
section
/-!
SUPPORT. Requests and dictionary writes that are begun: what carrying them out comes to (R443, R444).
-/
namespace Sys2Proof.Machine

theorem countFrame_sources (r : Req) (s : State) : (countFrame r s).mgmt.sources = s.mgmt.sources := by
  unfold countFrame; rw [heardFrom_parts]; dsimp only; split <;> rfl
theorem countFrame_procs' (r : Req) (s : State) : (countFrame r s).procs = s.procs := by
  unfold countFrame; rw [heardFrom_parts]; dsimp only; split <;> rfl

/-- A request that is begun is carried out in the state `begun`. -/
theorem takeRequest_begins {s : State} {r : Req} (h : s.begins r = true) (i : RequestOp) (act : State → State) :
    takeRequest r i act s = act (s.begun r) := by
  simp only [State.begins, Bool.and_eq_true, Bool.not_eq_true'] at h
  obtain ⟨⟨⟨⟨⟨h1, h2⟩, h3⟩, h4⟩, h5⟩, h6⟩ := h
  have h7 : (countFrame r s).findTxn r = none := by simpa [State.findTxn, countFrame_sources] using h6
  have h2 : (countFrame r s).procs.keeper.restart.isSome = false := by rw [countFrame_procs']; simpa using h2
  simp only [takeRequest, State.behind, h1, h3, h4, h5, takeNow, if_true, beginRequest, h2, h7, Bool.not_true, Bool.or_self,
    Bool.false_and, Bool.false_eq_true, if_false]
  rfl

/-- A write that is begun is carried out in the state `begun`. -/
theorem dictWrite_begins {s : State} {r : Req} (h : s.begins r = true) (idx sub : Nat) (value : List Byte) (home : Home) :
    dictWrite r idx sub value home s = carryOut r idx sub value home (s.begun r) := takeRequest_begins h _ _

/-- A write that applies at this node alone: the home operation's answer is settled. -/
theorem dictWrite_applies {s : State} {r : Req} {idx sub : Nat} {value : List Byte} (h : s.applies r idx sub value = true)
    (home : Home) : dictWrite r idx sub value home s = settle (.req r) (home (.req r) (s.begun r)) := by
  simp only [State.applies, State.checks, Bool.and_eq_true] at h
  obtain ⟨⟨h1, h2⟩, h3⟩ := h
  rw [dictWrite_begins h1]
  have h2 : writeChecks r idx sub (s.begun r) = none := by simpa using h2
  unfold carryOut
  rw [h2]
  cases e : findObj idx sub with
  | none => simp [e] at h3
  | some o =>
    simp only [e, Bool.and_eq_true, beq_iff_eq, Option.isNone_iff_eq_none] at h3
    simp [h3.1, orderedWrite, h3.2]

/-- A write that the lead orders and applies at once. -/
theorem dictWrite_orders {s u : State} {r : Req} {idx sub : Nat} {value : List Byte} (h : s.orders r idx sub value = true)
    {home : Home} (d : home (.order (s.begun r).mgmt.nextOrder) (s.ordered r) = .done u)
    (w : u.mgmt.setWrites = (s.begun r).mgmt.setWrites) : dictWrite r idx sub value home s = answer r St.ok 0 u := by
  simp only [State.orders, Bool.and_eq_true, Bool.not_eq_true', bne_iff_ne, ne_eq] at h
  obtain ⟨⟨⟨⟨⟨⟨⟨h1, hf⟩, hl⟩, ho⟩, hr⟩, hn⟩, hw⟩, hu⟩ := h
  simp only [State.checks, Bool.and_eq_true] at h1
  obtain ⟨⟨h1, h2⟩, h3⟩ := h1
  rw [dictWrite_begins h1]
  have h2 : writeChecks r idx sub (s.begun r) = none := by simpa using h2
  unfold carryOut
  rw [h2]
  cases e : findObj idx sub with
  | none => simp [e] at h3
  | some o =>
    simp only [e, Bool.and_eq_true, beq_iff_eq, Option.isNone_iff_eq_none] at h3
    simp only [h3.1, orderedWrite, h3.2, hf, hl, Bool.not_true, Bool.false_or, Bool.false_eq_true, if_false, if_true]
    have ho : (s.begun r).others = [] := by simpa using ho
    have hr : (s.begun r).hl.set.reachable ||| 2 ^ (s.begun r).me = 2 ^ (s.begun r).me := by simpa using hr
    have hb : setBit (s.begun r).me false (2 ^ (s.begun r).me) = 0 := by simp [setBit]
    have hw : ∀ x ∈ u.mgmt.setWrites, x.order ≠ (s.begun r).mgmt.nextOrder := by
      rw [w]; intro x hx; simpa using List.all_eq_true.mp hw x hx
    have d' : home (.order (s.begun r).mgmt.nextOrder)
        { s.begun r with mgmt := { (s.begun r).mgmt with nextOrder := (s.begun r).mgmt.nextOrder + 1 } } = .done u := d
    have ho' : ({ s.begun r with mgmt := { (s.begun r).mgmt with nextOrder := (s.begun r).mgmt.nextOrder + 1 } } : State).others = [] := ho
    have hf1 : u.mgmt.setWrites.find? (fun x => x.order == (s.begun r).mgmt.nextOrder && (s.begun r).mgmt.nextOrder != 0 && x.waiting != 0) =
        none := by
      rw [List.find?_eq_none]; intro x hx; simp [hw x hx]
    have hf2 : u.mgmt.setWrites.filter (fun x => x.order != (s.begun r).mgmt.nextOrder) = u.mgmt.setWrites := by
      rw [List.filter_eq_self]; intro x hx; simpa using hw x hx
    simp only [leadOrder, d', ho', forEach, List.foldl_nil, ackOrder, State.setWrites, List.find?_append, hf1, Option.none_or]
    simp [hn, List.filter_append, hf2, finishOrder, State.me] at hr hb ⊢
    simp [hr, hb]
    intro hi hq
    subst hi
    rcases hq with hq | hq <;> simp [hq] at hu

end Sys2Proof.Machine
end

