-- ==== Sys2Proof/Laws/Frame.lean ====
section
/-!
SUPPORT. Frames: which parts of the state an operation leaves alone. `Fr w a s` says that `s` agrees with `a` on every part whose bit of
`w` is 0 (the parts numbered in the order of the fields of `State`). The files FrameOps, FrameUnits, FrameHomes and FrameExec hold one lemma
per operation: `f_fr` says of `f` that, from a state in a frame that takes in the parts `f` may write, it answers a state in that frame.
-/
namespace Sys2Proof.Machine

/-- `s` agrees with `a` on every part whose bit of `w` is 0. -/
structure Fr (w : Nat) (a s : State) : Prop where
  now : w.testBit 0 = false → s.now = a.now
  cfg : w.testBit 1 = false → s.cfg = a.cfg
  power : w.testBit 2 = false → s.power = a.power
  procs : w.testBit 3 = false → s.procs = a.procs
  pins : w.testBit 4 = false → s.pins = a.pins
  wrap : w.testBit 5 = false → s.wrap = a.wrap
  obj : w.testBit 6 = false → s.obj = a.obj
  mgmt : w.testBit 7 = false → s.mgmt = a.mgmt
  hl : w.testBit 8 = false → s.hl = a.hl
  dram : w.testBit 9 = false → s.dram = a.dram
  sec : w.testBit 10 = false → s.sec = a.sec
  fuses : w.testBit 11 = false → s.fuses = a.fuses
  nvm : w.testBit 12 = false → s.nvm = a.nvm
  free : w.testBit 13 = false → s.free = a.free
  out : w.testBit 14 = false → s.out = a.out
  pending : w.testBit 15 = false → s.pending = a.pending
  plans : w.testBit 16 = false → s.plans = a.plans
  feeds : w.testBit 17 = false → s.feeds = a.feeds
  path : w.testBit 18 = false → s.path = a.path
  cache : w.testBit 19 = false → s.cache = a.cache
  far : w.testBit 20 = false → s.far = a.far
  syncs : w.testBit 21 = false → s.syncs = a.syncs
  heat : w.testBit 22 = false → s.heat = a.heat
  train : w.testBit 23 = false → s.train = a.train
  clk : w.testBit 24 = false → s.clk = a.clk
  upd : w.testBit 25 = false → s.upd = a.upd
  sampler : w.testBit 26 = false → s.sampler = a.sampler

theorem Fr.refl (w : Nat) (s : State) : Fr w s s :=
  ⟨fun _ => rfl, fun _ => rfl, fun _ => rfl, fun _ => rfl, fun _ => rfl, fun _ => rfl, fun _ => rfl, fun _ => rfl, fun _ => rfl, fun _ => rfl, fun _ => rfl, fun _ => rfl, fun _ => rfl, fun _ => rfl, fun _ => rfl, fun _ => rfl, fun _ => rfl, fun _ => rfl, fun _ => rfl, fun _ => rfl, fun _ => rfl, fun _ => rfl, fun _ => rfl, fun _ => rfl, fun _ => rfl, fun _ => rfl, fun _ => rfl⟩

theorem Fr.trans {w : Nat} {a s t : State} (h : Fr w a s) (k : Fr w s t) : Fr w a t :=
  ⟨fun z => (k.now z).trans (h.now z),
    fun z => (k.cfg z).trans (h.cfg z),
    fun z => (k.power z).trans (h.power z),
    fun z => (k.procs z).trans (h.procs z),
    fun z => (k.pins z).trans (h.pins z),
    fun z => (k.wrap z).trans (h.wrap z),
    fun z => (k.obj z).trans (h.obj z),
    fun z => (k.mgmt z).trans (h.mgmt z),
    fun z => (k.hl z).trans (h.hl z),
    fun z => (k.dram z).trans (h.dram z),
    fun z => (k.sec z).trans (h.sec z),
    fun z => (k.fuses z).trans (h.fuses z),
    fun z => (k.nvm z).trans (h.nvm z),
    fun z => (k.free z).trans (h.free z),
    fun z => (k.out z).trans (h.out z),
    fun z => (k.pending z).trans (h.pending z),
    fun z => (k.plans z).trans (h.plans z),
    fun z => (k.feeds z).trans (h.feeds z),
    fun z => (k.path z).trans (h.path z),
    fun z => (k.cache z).trans (h.cache z),
    fun z => (k.far z).trans (h.far z),
    fun z => (k.syncs z).trans (h.syncs z),
    fun z => (k.heat z).trans (h.heat z),
    fun z => (k.train z).trans (h.train z),
    fun z => (k.clk z).trans (h.clk z),
    fun z => (k.upd z).trans (h.upd z),
    fun z => (k.sampler z).trans (h.sampler z)⟩

theorem Fr.mono {v w : Nat} {a s : State} (h : Fr v a s) (k : w ||| v = w) : Fr w a s := by
  have sub (i : Nat) (z : w.testBit i = false) : v.testBit i = false := by
    rw [← k, Nat.testBit_or, Bool.or_eq_false_iff] at z
    exact z.2
  exact ⟨fun z => h.now (sub _ z),
    fun z => h.cfg (sub _ z),
    fun z => h.power (sub _ z),
    fun z => h.procs (sub _ z),
    fun z => h.pins (sub _ z),
    fun z => h.wrap (sub _ z),
    fun z => h.obj (sub _ z),
    fun z => h.mgmt (sub _ z),
    fun z => h.hl (sub _ z),
    fun z => h.dram (sub _ z),
    fun z => h.sec (sub _ z),
    fun z => h.fuses (sub _ z),
    fun z => h.nvm (sub _ z),
    fun z => h.free (sub _ z),
    fun z => h.out (sub _ z),
    fun z => h.pending (sub _ z),
    fun z => h.plans (sub _ z),
    fun z => h.feeds (sub _ z),
    fun z => h.path (sub _ z),
    fun z => h.cache (sub _ z),
    fun z => h.far (sub _ z),
    fun z => h.syncs (sub _ z),
    fun z => h.heat (sub _ z),
    fun z => h.train (sub _ z),
    fun z => h.clk (sub _ z),
    fun z => h.upd (sub _ z),
    fun z => h.sampler (sub _ z)⟩

/-- The frame of what comes before, and that of an operation that writes no more. -/
theorem Fr.via {v w : Nat} {a s t : State} (h : Fr w a s) (k : Fr v s t) (z : w ||| v = w) : Fr w a t := h.trans (k.mono z)

/-- A state put together from parts, those outside `w` taken from states in the frame. -/
theorem Fr.parts {w : Nat} {a : State} {x0 : _} {x1 : _} {x2 : _} {x3 : _} {x4 : _} {x5 : _} {x6 : _} {x7 : _} {x8 : _} {x9 : _} {x10 : _} {x11 : _} {x12 : _} {x13 : _} {x14 : _} {x15 : _} {x16 : _} {x17 : _} {x18 : _} {x19 : _} {x20 : _} {x21 : _} {x22 : _} {x23 : _} {x24 : _} {x25 : _} {x26 : _}
    (h0 : w.testBit 0 = true ∨ x0 = a.now)
    (h1 : w.testBit 1 = true ∨ x1 = a.cfg)
    (h2 : w.testBit 2 = true ∨ x2 = a.power)
    (h3 : w.testBit 3 = true ∨ x3 = a.procs)
    (h4 : w.testBit 4 = true ∨ x4 = a.pins)
    (h5 : w.testBit 5 = true ∨ x5 = a.wrap)
    (h6 : w.testBit 6 = true ∨ x6 = a.obj)
    (h7 : w.testBit 7 = true ∨ x7 = a.mgmt)
    (h8 : w.testBit 8 = true ∨ x8 = a.hl)
    (h9 : w.testBit 9 = true ∨ x9 = a.dram)
    (h10 : w.testBit 10 = true ∨ x10 = a.sec)
    (h11 : w.testBit 11 = true ∨ x11 = a.fuses)
    (h12 : w.testBit 12 = true ∨ x12 = a.nvm)
    (h13 : w.testBit 13 = true ∨ x13 = a.free)
    (h14 : w.testBit 14 = true ∨ x14 = a.out)
    (h15 : w.testBit 15 = true ∨ x15 = a.pending)
    (h16 : w.testBit 16 = true ∨ x16 = a.plans)
    (h17 : w.testBit 17 = true ∨ x17 = a.feeds)
    (h18 : w.testBit 18 = true ∨ x18 = a.path)
    (h19 : w.testBit 19 = true ∨ x19 = a.cache)
    (h20 : w.testBit 20 = true ∨ x20 = a.far)
    (h21 : w.testBit 21 = true ∨ x21 = a.syncs)
    (h22 : w.testBit 22 = true ∨ x22 = a.heat)
    (h23 : w.testBit 23 = true ∨ x23 = a.train)
    (h24 : w.testBit 24 = true ∨ x24 = a.clk)
    (h25 : w.testBit 25 = true ∨ x25 = a.upd)
    (h26 : w.testBit 26 = true ∨ x26 = a.sampler) :
    Fr w a (State.mk x0 x1 x2 x3 x4 x5 x6 x7 x8 x9 x10 x11 x12 x13 x14 x15 x16 x17 x18 x19 x20 x21 x22 x23 x24 x25 x26) :=
  ⟨fun z => h0.resolve_left (by simp [z]),
    fun z => h1.resolve_left (by simp [z]),
    fun z => h2.resolve_left (by simp [z]),
    fun z => h3.resolve_left (by simp [z]),
    fun z => h4.resolve_left (by simp [z]),
    fun z => h5.resolve_left (by simp [z]),
    fun z => h6.resolve_left (by simp [z]),
    fun z => h7.resolve_left (by simp [z]),
    fun z => h8.resolve_left (by simp [z]),
    fun z => h9.resolve_left (by simp [z]),
    fun z => h10.resolve_left (by simp [z]),
    fun z => h11.resolve_left (by simp [z]),
    fun z => h12.resolve_left (by simp [z]),
    fun z => h13.resolve_left (by simp [z]),
    fun z => h14.resolve_left (by simp [z]),
    fun z => h15.resolve_left (by simp [z]),
    fun z => h16.resolve_left (by simp [z]),
    fun z => h17.resolve_left (by simp [z]),
    fun z => h18.resolve_left (by simp [z]),
    fun z => h19.resolve_left (by simp [z]),
    fun z => h20.resolve_left (by simp [z]),
    fun z => h21.resolve_left (by simp [z]),
    fun z => h22.resolve_left (by simp [z]),
    fun z => h23.resolve_left (by simp [z]),
    fun z => h24.resolve_left (by simp [z]),
    fun z => h25.resolve_left (by simp [z]),
    fun z => h26.resolve_left (by simp [z])⟩

/-! ### Frames of what an operation may answer -/

theorem Fr.ite {w : Nat} {a x y : State} {c : Prop} [Decidable c] (h : Fr w a x) (k : Fr w a y) : Fr w a (if c then x else y) := by
  split <;> assumption
theorem Fr.set_now {w : Nat} {a s : State} {x0 : _} (h : Fr w a s) (h0 : w.testBit 0 = true := by decide) :
    Fr w a { s with now := x0 } :=
  ⟨by simp [h0], h.cfg, h.power, h.procs, h.pins, h.wrap, h.obj, h.mgmt, h.hl, h.dram, h.sec, h.fuses, h.nvm, h.free, h.out, h.pending, h.plans, h.feeds, h.path, h.cache, h.far, h.syncs, h.heat, h.train, h.clk, h.upd, h.sampler⟩
theorem Fr.set_cfg {w : Nat} {a s : State} {x1 : _} (h : Fr w a s) (h1 : w.testBit 1 = true := by decide) :
    Fr w a { s with cfg := x1 } :=
  ⟨h.now, by simp [h1], h.power, h.procs, h.pins, h.wrap, h.obj, h.mgmt, h.hl, h.dram, h.sec, h.fuses, h.nvm, h.free, h.out, h.pending, h.plans, h.feeds, h.path, h.cache, h.far, h.syncs, h.heat, h.train, h.clk, h.upd, h.sampler⟩
theorem Fr.set_power {w : Nat} {a s : State} {x2 : _} (h : Fr w a s) (h2 : w.testBit 2 = true := by decide) :
    Fr w a { s with power := x2 } :=
  ⟨h.now, h.cfg, by simp [h2], h.procs, h.pins, h.wrap, h.obj, h.mgmt, h.hl, h.dram, h.sec, h.fuses, h.nvm, h.free, h.out, h.pending, h.plans, h.feeds, h.path, h.cache, h.far, h.syncs, h.heat, h.train, h.clk, h.upd, h.sampler⟩
theorem Fr.set_procs {w : Nat} {a s : State} {x3 : _} (h : Fr w a s) (h3 : w.testBit 3 = true := by decide) :
    Fr w a { s with procs := x3 } :=
  ⟨h.now, h.cfg, h.power, by simp [h3], h.pins, h.wrap, h.obj, h.mgmt, h.hl, h.dram, h.sec, h.fuses, h.nvm, h.free, h.out, h.pending, h.plans, h.feeds, h.path, h.cache, h.far, h.syncs, h.heat, h.train, h.clk, h.upd, h.sampler⟩
theorem Fr.set_pins {w : Nat} {a s : State} {x4 : _} (h : Fr w a s) (h4 : w.testBit 4 = true := by decide) :
    Fr w a { s with pins := x4 } :=
  ⟨h.now, h.cfg, h.power, h.procs, by simp [h4], h.wrap, h.obj, h.mgmt, h.hl, h.dram, h.sec, h.fuses, h.nvm, h.free, h.out, h.pending, h.plans, h.feeds, h.path, h.cache, h.far, h.syncs, h.heat, h.train, h.clk, h.upd, h.sampler⟩
theorem Fr.set_wrap {w : Nat} {a s : State} {x5 : _} (h : Fr w a s) (h5 : w.testBit 5 = true := by decide) :
    Fr w a { s with wrap := x5 } :=
  ⟨h.now, h.cfg, h.power, h.procs, h.pins, by simp [h5], h.obj, h.mgmt, h.hl, h.dram, h.sec, h.fuses, h.nvm, h.free, h.out, h.pending, h.plans, h.feeds, h.path, h.cache, h.far, h.syncs, h.heat, h.train, h.clk, h.upd, h.sampler⟩
theorem Fr.set_obj {w : Nat} {a s : State} {x6 : _} (h : Fr w a s) (h6 : w.testBit 6 = true := by decide) :
    Fr w a { s with obj := x6 } :=
  ⟨h.now, h.cfg, h.power, h.procs, h.pins, h.wrap, by simp [h6], h.mgmt, h.hl, h.dram, h.sec, h.fuses, h.nvm, h.free, h.out, h.pending, h.plans, h.feeds, h.path, h.cache, h.far, h.syncs, h.heat, h.train, h.clk, h.upd, h.sampler⟩
theorem Fr.set_mgmt {w : Nat} {a s : State} {x7 : _} (h : Fr w a s) (h7 : w.testBit 7 = true := by decide) :
    Fr w a { s with mgmt := x7 } :=
  ⟨h.now, h.cfg, h.power, h.procs, h.pins, h.wrap, h.obj, by simp [h7], h.hl, h.dram, h.sec, h.fuses, h.nvm, h.free, h.out, h.pending, h.plans, h.feeds, h.path, h.cache, h.far, h.syncs, h.heat, h.train, h.clk, h.upd, h.sampler⟩
theorem Fr.set_hl {w : Nat} {a s : State} {x8 : _} (h : Fr w a s) (h8 : w.testBit 8 = true := by decide) :
    Fr w a { s with hl := x8 } :=
  ⟨h.now, h.cfg, h.power, h.procs, h.pins, h.wrap, h.obj, h.mgmt, by simp [h8], h.dram, h.sec, h.fuses, h.nvm, h.free, h.out, h.pending, h.plans, h.feeds, h.path, h.cache, h.far, h.syncs, h.heat, h.train, h.clk, h.upd, h.sampler⟩
theorem Fr.set_dram {w : Nat} {a s : State} {x9 : _} (h : Fr w a s) (h9 : w.testBit 9 = true := by decide) :
    Fr w a { s with dram := x9 } :=
  ⟨h.now, h.cfg, h.power, h.procs, h.pins, h.wrap, h.obj, h.mgmt, h.hl, by simp [h9], h.sec, h.fuses, h.nvm, h.free, h.out, h.pending, h.plans, h.feeds, h.path, h.cache, h.far, h.syncs, h.heat, h.train, h.clk, h.upd, h.sampler⟩
theorem Fr.set_sec {w : Nat} {a s : State} {x10 : _} (h : Fr w a s) (h10 : w.testBit 10 = true := by decide) :
    Fr w a { s with sec := x10 } :=
  ⟨h.now, h.cfg, h.power, h.procs, h.pins, h.wrap, h.obj, h.mgmt, h.hl, h.dram, by simp [h10], h.fuses, h.nvm, h.free, h.out, h.pending, h.plans, h.feeds, h.path, h.cache, h.far, h.syncs, h.heat, h.train, h.clk, h.upd, h.sampler⟩
theorem Fr.set_fuses {w : Nat} {a s : State} {x11 : _} (h : Fr w a s) (h11 : w.testBit 11 = true := by decide) :
    Fr w a { s with fuses := x11 } :=
  ⟨h.now, h.cfg, h.power, h.procs, h.pins, h.wrap, h.obj, h.mgmt, h.hl, h.dram, h.sec, by simp [h11], h.nvm, h.free, h.out, h.pending, h.plans, h.feeds, h.path, h.cache, h.far, h.syncs, h.heat, h.train, h.clk, h.upd, h.sampler⟩
theorem Fr.set_nvm {w : Nat} {a s : State} {x12 : _} (h : Fr w a s) (h12 : w.testBit 12 = true := by decide) :
    Fr w a { s with nvm := x12 } :=
  ⟨h.now, h.cfg, h.power, h.procs, h.pins, h.wrap, h.obj, h.mgmt, h.hl, h.dram, h.sec, h.fuses, by simp [h12], h.free, h.out, h.pending, h.plans, h.feeds, h.path, h.cache, h.far, h.syncs, h.heat, h.train, h.clk, h.upd, h.sampler⟩
theorem Fr.set_free {w : Nat} {a s : State} {x13 : _} (h : Fr w a s) (h13 : w.testBit 13 = true := by decide) :
    Fr w a { s with free := x13 } :=
  ⟨h.now, h.cfg, h.power, h.procs, h.pins, h.wrap, h.obj, h.mgmt, h.hl, h.dram, h.sec, h.fuses, h.nvm, by simp [h13], h.out, h.pending, h.plans, h.feeds, h.path, h.cache, h.far, h.syncs, h.heat, h.train, h.clk, h.upd, h.sampler⟩
theorem Fr.set_out {w : Nat} {a s : State} {x14 : _} (h : Fr w a s) (h14 : w.testBit 14 = true := by decide) :
    Fr w a { s with out := x14 } :=
  ⟨h.now, h.cfg, h.power, h.procs, h.pins, h.wrap, h.obj, h.mgmt, h.hl, h.dram, h.sec, h.fuses, h.nvm, h.free, by simp [h14], h.pending, h.plans, h.feeds, h.path, h.cache, h.far, h.syncs, h.heat, h.train, h.clk, h.upd, h.sampler⟩
theorem Fr.set_pending {w : Nat} {a s : State} {x15 : _} (h : Fr w a s) (h15 : w.testBit 15 = true := by decide) :
    Fr w a { s with pending := x15 } :=
  ⟨h.now, h.cfg, h.power, h.procs, h.pins, h.wrap, h.obj, h.mgmt, h.hl, h.dram, h.sec, h.fuses, h.nvm, h.free, h.out, by simp [h15], h.plans, h.feeds, h.path, h.cache, h.far, h.syncs, h.heat, h.train, h.clk, h.upd, h.sampler⟩
theorem Fr.set_plans {w : Nat} {a s : State} {x16 : _} (h : Fr w a s) (h16 : w.testBit 16 = true := by decide) :
    Fr w a { s with plans := x16 } :=
  ⟨h.now, h.cfg, h.power, h.procs, h.pins, h.wrap, h.obj, h.mgmt, h.hl, h.dram, h.sec, h.fuses, h.nvm, h.free, h.out, h.pending, by simp [h16], h.feeds, h.path, h.cache, h.far, h.syncs, h.heat, h.train, h.clk, h.upd, h.sampler⟩
theorem Fr.set_feeds {w : Nat} {a s : State} {x17 : _} (h : Fr w a s) (h17 : w.testBit 17 = true := by decide) :
    Fr w a { s with feeds := x17 } :=
  ⟨h.now, h.cfg, h.power, h.procs, h.pins, h.wrap, h.obj, h.mgmt, h.hl, h.dram, h.sec, h.fuses, h.nvm, h.free, h.out, h.pending, h.plans, by simp [h17], h.path, h.cache, h.far, h.syncs, h.heat, h.train, h.clk, h.upd, h.sampler⟩
theorem Fr.set_path {w : Nat} {a s : State} {x18 : _} (h : Fr w a s) (h18 : w.testBit 18 = true := by decide) :
    Fr w a { s with path := x18 } :=
  ⟨h.now, h.cfg, h.power, h.procs, h.pins, h.wrap, h.obj, h.mgmt, h.hl, h.dram, h.sec, h.fuses, h.nvm, h.free, h.out, h.pending, h.plans, h.feeds, by simp [h18], h.cache, h.far, h.syncs, h.heat, h.train, h.clk, h.upd, h.sampler⟩
theorem Fr.set_cache {w : Nat} {a s : State} {x19 : _} (h : Fr w a s) (h19 : w.testBit 19 = true := by decide) :
    Fr w a { s with cache := x19 } :=
  ⟨h.now, h.cfg, h.power, h.procs, h.pins, h.wrap, h.obj, h.mgmt, h.hl, h.dram, h.sec, h.fuses, h.nvm, h.free, h.out, h.pending, h.plans, h.feeds, h.path, by simp [h19], h.far, h.syncs, h.heat, h.train, h.clk, h.upd, h.sampler⟩
theorem Fr.set_far {w : Nat} {a s : State} {x20 : _} (h : Fr w a s) (h20 : w.testBit 20 = true := by decide) :
    Fr w a { s with far := x20 } :=
  ⟨h.now, h.cfg, h.power, h.procs, h.pins, h.wrap, h.obj, h.mgmt, h.hl, h.dram, h.sec, h.fuses, h.nvm, h.free, h.out, h.pending, h.plans, h.feeds, h.path, h.cache, by simp [h20], h.syncs, h.heat, h.train, h.clk, h.upd, h.sampler⟩
theorem Fr.set_syncs {w : Nat} {a s : State} {x21 : _} (h : Fr w a s) (h21 : w.testBit 21 = true := by decide) :
    Fr w a { s with syncs := x21 } :=
  ⟨h.now, h.cfg, h.power, h.procs, h.pins, h.wrap, h.obj, h.mgmt, h.hl, h.dram, h.sec, h.fuses, h.nvm, h.free, h.out, h.pending, h.plans, h.feeds, h.path, h.cache, h.far, by simp [h21], h.heat, h.train, h.clk, h.upd, h.sampler⟩
theorem Fr.set_heat {w : Nat} {a s : State} {x22 : _} (h : Fr w a s) (h22 : w.testBit 22 = true := by decide) :
    Fr w a { s with heat := x22 } :=
  ⟨h.now, h.cfg, h.power, h.procs, h.pins, h.wrap, h.obj, h.mgmt, h.hl, h.dram, h.sec, h.fuses, h.nvm, h.free, h.out, h.pending, h.plans, h.feeds, h.path, h.cache, h.far, h.syncs, by simp [h22], h.train, h.clk, h.upd, h.sampler⟩
theorem Fr.set_train {w : Nat} {a s : State} {x23 : _} (h : Fr w a s) (h23 : w.testBit 23 = true := by decide) :
    Fr w a { s with train := x23 } :=
  ⟨h.now, h.cfg, h.power, h.procs, h.pins, h.wrap, h.obj, h.mgmt, h.hl, h.dram, h.sec, h.fuses, h.nvm, h.free, h.out, h.pending, h.plans, h.feeds, h.path, h.cache, h.far, h.syncs, h.heat, by simp [h23], h.clk, h.upd, h.sampler⟩
theorem Fr.set_clk {w : Nat} {a s : State} {x24 : _} (h : Fr w a s) (h24 : w.testBit 24 = true := by decide) :
    Fr w a { s with clk := x24 } :=
  ⟨h.now, h.cfg, h.power, h.procs, h.pins, h.wrap, h.obj, h.mgmt, h.hl, h.dram, h.sec, h.fuses, h.nvm, h.free, h.out, h.pending, h.plans, h.feeds, h.path, h.cache, h.far, h.syncs, h.heat, h.train, by simp [h24], h.upd, h.sampler⟩
theorem Fr.set_upd {w : Nat} {a s : State} {x25 : _} (h : Fr w a s) (h25 : w.testBit 25 = true := by decide) :
    Fr w a { s with upd := x25 } :=
  ⟨h.now, h.cfg, h.power, h.procs, h.pins, h.wrap, h.obj, h.mgmt, h.hl, h.dram, h.sec, h.fuses, h.nvm, h.free, h.out, h.pending, h.plans, h.feeds, h.path, h.cache, h.far, h.syncs, h.heat, h.train, h.clk, by simp [h25], h.sampler⟩
theorem Fr.set_sampler {w : Nat} {a s : State} {x26 : _} (h : Fr w a s) (h26 : w.testBit 26 = true := by decide) :
    Fr w a { s with sampler := x26 } :=
  ⟨h.now, h.cfg, h.power, h.procs, h.pins, h.wrap, h.obj, h.mgmt, h.hl, h.dram, h.sec, h.fuses, h.nvm, h.free, h.out, h.pending, h.plans, h.feeds, h.path, h.cache, h.far, h.syncs, h.heat, h.train, h.clk, h.upd, by simp [h26]⟩
theorem Fr.set_hl_plans {w : Nat} {a s : State} {x8 : _} {x16 : _} (h : Fr w a s) (h8 : w.testBit 8 = true := by decide) (h16 : w.testBit 16 = true := by decide) :
    Fr w a { s with hl := x8, plans := x16 } :=
  ⟨h.now, h.cfg, h.power, h.procs, h.pins, h.wrap, h.obj, h.mgmt, by simp [h8], h.dram, h.sec, h.fuses, h.nvm, h.free, h.out, h.pending, by simp [h16], h.feeds, h.path, h.cache, h.far, h.syncs, h.heat, h.train, h.clk, h.upd, h.sampler⟩
theorem Fr.set_pins_plans_heat {w : Nat} {a s : State} {x4 : _} {x16 : _} {x22 : _} (h : Fr w a s) (h4 : w.testBit 4 = true := by decide) (h16 : w.testBit 16 = true := by decide) (h22 : w.testBit 22 = true := by decide) :
    Fr w a { s with pins := x4, plans := x16, heat := x22 } :=
  ⟨h.now, h.cfg, h.power, h.procs, by simp [h4], h.wrap, h.obj, h.mgmt, h.hl, h.dram, h.sec, h.fuses, h.nvm, h.free, h.out, h.pending, by simp [h16], h.feeds, h.path, h.cache, h.far, h.syncs, by simp [h22], h.train, h.clk, h.upd, h.sampler⟩
theorem Fr.set_procs_train {w : Nat} {a s : State} {x3 : _} {x23 : _} (h : Fr w a s) (h3 : w.testBit 3 = true := by decide) (h23 : w.testBit 23 = true := by decide) :
    Fr w a { s with procs := x3, train := x23 } :=
  ⟨h.now, h.cfg, h.power, by simp [h3], h.pins, h.wrap, h.obj, h.mgmt, h.hl, h.dram, h.sec, h.fuses, h.nvm, h.free, h.out, h.pending, h.plans, h.feeds, h.path, h.cache, h.far, h.syncs, h.heat, by simp [h23], h.clk, h.upd, h.sampler⟩
theorem Fr.set_power_wrap {w : Nat} {a s : State} {x2 : _} {x5 : _} (h : Fr w a s) (h2 : w.testBit 2 = true := by decide) (h5 : w.testBit 5 = true := by decide) :
    Fr w a { s with power := x2, wrap := x5 } :=
  ⟨h.now, h.cfg, by simp [h2], h.procs, h.pins, by simp [h5], h.obj, h.mgmt, h.hl, h.dram, h.sec, h.fuses, h.nvm, h.free, h.out, h.pending, h.plans, h.feeds, h.path, h.cache, h.far, h.syncs, h.heat, h.train, h.clk, h.upd, h.sampler⟩
theorem Fr.set_power_plans {w : Nat} {a s : State} {x2 : _} {x16 : _} (h : Fr w a s) (h2 : w.testBit 2 = true := by decide) (h16 : w.testBit 16 = true := by decide) :
    Fr w a { s with power := x2, plans := x16 } :=
  ⟨h.now, h.cfg, by simp [h2], h.procs, h.pins, h.wrap, h.obj, h.mgmt, h.hl, h.dram, h.sec, h.fuses, h.nvm, h.free, h.out, h.pending, by simp [h16], h.feeds, h.path, h.cache, h.far, h.syncs, h.heat, h.train, h.clk, h.upd, h.sampler⟩
theorem Fr.set_pins_wrap {w : Nat} {a s : State} {x4 : _} {x5 : _} (h : Fr w a s) (h4 : w.testBit 4 = true := by decide) (h5 : w.testBit 5 = true := by decide) :
    Fr w a { s with pins := x4, wrap := x5 } :=
  ⟨h.now, h.cfg, h.power, h.procs, by simp [h4], by simp [h5], h.obj, h.mgmt, h.hl, h.dram, h.sec, h.fuses, h.nvm, h.free, h.out, h.pending, h.plans, h.feeds, h.path, h.cache, h.far, h.syncs, h.heat, h.train, h.clk, h.upd, h.sampler⟩
theorem Fr.set_pins_heat {w : Nat} {a s : State} {x4 : _} {x22 : _} (h : Fr w a s) (h4 : w.testBit 4 = true := by decide) (h22 : w.testBit 22 = true := by decide) :
    Fr w a { s with pins := x4, heat := x22 } :=
  ⟨h.now, h.cfg, h.power, h.procs, by simp [h4], h.wrap, h.obj, h.mgmt, h.hl, h.dram, h.sec, h.fuses, h.nvm, h.free, h.out, h.pending, h.plans, h.feeds, h.path, h.cache, h.far, h.syncs, by simp [h22], h.train, h.clk, h.upd, h.sampler⟩
theorem Fr.set_mgmt_nvm {w : Nat} {a s : State} {x7 : _} {x12 : _} (h : Fr w a s) (h7 : w.testBit 7 = true := by decide) (h12 : w.testBit 12 = true := by decide) :
    Fr w a { s with mgmt := x7, nvm := x12 } :=
  ⟨h.now, h.cfg, h.power, h.procs, h.pins, h.wrap, h.obj, by simp [h7], h.hl, h.dram, h.sec, h.fuses, by simp [h12], h.free, h.out, h.pending, h.plans, h.feeds, h.path, h.cache, h.far, h.syncs, h.heat, h.train, h.clk, h.upd, h.sampler⟩
theorem Fr.set_power_procs_clk {w : Nat} {a s : State} {x2 : _} {x3 : _} {x24 : _} (h : Fr w a s) (h2 : w.testBit 2 = true := by decide) (h3 : w.testBit 3 = true := by decide) (h24 : w.testBit 24 = true := by decide) :
    Fr w a { s with power := x2, procs := x3, clk := x24 } :=
  ⟨h.now, h.cfg, by simp [h2], by simp [h3], h.pins, h.wrap, h.obj, h.mgmt, h.hl, h.dram, h.sec, h.fuses, h.nvm, h.free, h.out, h.pending, h.plans, h.feeds, h.path, h.cache, h.far, h.syncs, h.heat, h.train, by simp [h24], h.upd, h.sampler⟩
theorem Fr.set_power_pins_wrap_clk {w : Nat} {a s : State} {x2 : _} {x4 : _} {x5 : _} {x24 : _} (h : Fr w a s) (h2 : w.testBit 2 = true := by decide) (h4 : w.testBit 4 = true := by decide) (h5 : w.testBit 5 = true := by decide) (h24 : w.testBit 24 = true := by decide) :
    Fr w a { s with power := x2, pins := x4, wrap := x5, clk := x24 } :=
  ⟨h.now, h.cfg, by simp [h2], h.procs, by simp [h4], by simp [h5], h.obj, h.mgmt, h.hl, h.dram, h.sec, h.fuses, h.nvm, h.free, h.out, h.pending, h.plans, h.feeds, h.path, h.cache, h.far, h.syncs, h.heat, h.train, by simp [h24], h.upd, h.sampler⟩
theorem Fr.set_power_mgmt_dram_nvm_path_clk {w : Nat} {a s : State} {x2 : _} {x7 : _} {x9 : _} {x12 : _} {x18 : _} {x24 : _} (h : Fr w a s) (h2 : w.testBit 2 = true := by decide) (h7 : w.testBit 7 = true := by decide) (h9 : w.testBit 9 = true := by decide) (h12 : w.testBit 12 = true := by decide) (h18 : w.testBit 18 = true := by decide) (h24 : w.testBit 24 = true := by decide) :
    Fr w a { s with power := x2, mgmt := x7, dram := x9, nvm := x12, path := x18, clk := x24 } :=
  ⟨h.now, h.cfg, by simp [h2], h.procs, h.pins, h.wrap, h.obj, by simp [h7], h.hl, by simp [h9], h.sec, h.fuses, by simp [h12], h.free, h.out, h.pending, h.plans, h.feeds, by simp [h18], h.cache, h.far, h.syncs, h.heat, h.train, by simp [h24], h.upd, h.sampler⟩

theorem Fr.set_cache_syncs {w : Nat} {a s : State} {x19 : _} {x21 : _} (h : Fr w a s) (h19 : w.testBit 19 = true := by decide) (h21 : w.testBit 21 = true := by decide) :
    Fr w a { s with cache := x19, syncs := x21 } :=
  ⟨h.now, h.cfg, h.power, h.procs, h.pins, h.wrap, h.obj, h.mgmt, h.hl, h.dram, h.sec, h.fuses, h.nvm, h.free, h.out, h.pending, h.plans, h.feeds, h.path, by simp [h19], h.far, by simp [h21], h.heat, h.train, h.clk, h.upd, h.sampler⟩
theorem Fr.set_pins_hl_heat {w : Nat} {a s : State} {x4 : _} {x8 : _} {x22 : _} (h : Fr w a s) (h4 : w.testBit 4 = true := by decide) (h8 : w.testBit 8 = true := by decide) (h22 : w.testBit 22 = true := by decide) :
    Fr w a { s with pins := x4, hl := x8, heat := x22 } :=
  ⟨h.now, h.cfg, h.power, h.procs, by simp [h4], h.wrap, h.obj, h.mgmt, by simp [h8], h.dram, h.sec, h.fuses, h.nvm, h.free, h.out, h.pending, h.plans, h.feeds, h.path, h.cache, h.far, h.syncs, by simp [h22], h.train, h.clk, h.upd, h.sampler⟩
theorem Fr.set_pins_mgmt {w : Nat} {a s : State} {x4 : _} {x7 : _} (h : Fr w a s) (h4 : w.testBit 4 = true := by decide) (h7 : w.testBit 7 = true := by decide) :
    Fr w a { s with pins := x4, mgmt := x7 } :=
  ⟨h.now, h.cfg, h.power, h.procs, by simp [h4], h.wrap, h.obj, by simp [h7], h.hl, h.dram, h.sec, h.fuses, h.nvm, h.free, h.out, h.pending, h.plans, h.feeds, h.path, h.cache, h.far, h.syncs, h.heat, h.train, h.clk, h.upd, h.sampler⟩
theorem Fr.set_pins_mgmt_nvm {w : Nat} {a s : State} {x4 : _} {x7 : _} {x12 : _} (h : Fr w a s) (h4 : w.testBit 4 = true := by decide) (h7 : w.testBit 7 = true := by decide) (h12 : w.testBit 12 = true := by decide) :
    Fr w a { s with pins := x4, mgmt := x7, nvm := x12 } :=
  ⟨h.now, h.cfg, h.power, h.procs, by simp [h4], h.wrap, h.obj, by simp [h7], h.hl, h.dram, h.sec, h.fuses, by simp [h12], h.free, h.out, h.pending, h.plans, h.feeds, h.path, h.cache, h.far, h.syncs, h.heat, h.train, h.clk, h.upd, h.sampler⟩
theorem Fr.set_power_wrap_nvm {w : Nat} {a s : State} {x2 : _} {x5 : _} {x12 : _} (h : Fr w a s) (h2 : w.testBit 2 = true := by decide) (h5 : w.testBit 5 = true := by decide) (h12 : w.testBit 12 = true := by decide) :
    Fr w a { s with power := x2, wrap := x5, nvm := x12 } :=
  ⟨h.now, h.cfg, by simp [h2], h.procs, h.pins, by simp [h5], h.obj, h.mgmt, h.hl, h.dram, h.sec, h.fuses, by simp [h12], h.free, h.out, h.pending, h.plans, h.feeds, h.path, h.cache, h.far, h.syncs, h.heat, h.train, h.clk, h.upd, h.sampler⟩
theorem Fr.set_procs_cache {w : Nat} {a s : State} {x3 : _} {x19 : _} (h : Fr w a s) (h3 : w.testBit 3 = true := by decide) (h19 : w.testBit 19 = true := by decide) :
    Fr w a { s with procs := x3, cache := x19 } :=
  ⟨h.now, h.cfg, h.power, by simp [h3], h.pins, h.wrap, h.obj, h.mgmt, h.hl, h.dram, h.sec, h.fuses, h.nvm, h.free, h.out, h.pending, h.plans, h.feeds, h.path, by simp [h19], h.far, h.syncs, h.heat, h.train, h.clk, h.upd, h.sampler⟩
theorem forEach_fr {w : Nat} {a : State} {α : Type} {l : List α} {f : α → State → State} {s : State} (h : Fr w a s)
    (k : ∀ x s, Fr w s (f x s)) : Fr w a (forEach l f s) := by
  unfold forEach
  induction l generalizing s with
  | nil => exact h
  | cons x l ih => exact ih (h.trans (k x s))

theorem foldl_fr {w : Nat} {a : State} {α : Type} {l : List α} {f : State → α → State} {s : State} (h : Fr w a s)
    (k : ∀ s x, Fr w s (f s x)) : Fr w a (l.foldl f s) := by
  induction l generalizing s with
  | nil => exact h
  | cons x l ih => exact ih (h.trans (k s x))

theorem foldl_frS {w : Nat} {a : State} {α β : Type} {l : List α} {f : β × State → α → β × State} {p : β × State} (h : Fr w a p.2)
    (k : ∀ p x, Fr w p.2 (f p x).2) : Fr w a (l.foldl f p).2 := by
  induction l generalizing p with
  | nil => exact h
  | cons x l ih => exact ih (h.trans (k p x))

theorem foldl_frF {w : Nat} {a : State} {α β : Type} {l : List α} {f : State × β → α → State × β} {p : State × β} (h : Fr w a p.1)
    (k : ∀ p x, Fr w p.1 (f p x).1) : Fr w a (l.foldl f p).1 := by
  induction l generalizing p with
  | nil => exact h
  | cons x l ih => exact ih (h.trans (k p x))

theorem fr_snd {w : Nat} {a t : State} {α : Type} {p : α × State} {x : α} (e : p = (x, t)) (h : Fr w a p.2) : Fr w a t := by
  subst e; exact h
theorem fr_fst {w : Nat} {a t : State} {α : Type} {p : State × α} {x : α} (e : p = (t, x)) (h : Fr w a p.1) : Fr w a t := by
  subst e; exact h

/-- The state an operation answers, if it answers one. -/
def FrO (w : Nat) (a : State) (o : Option State) : Prop := ∀ t, o = some t → Fr w a t
/-- The state an operation answers beside a value, if it answers any. -/
def FrOS (w : Nat) (a : State) {α : Type} (o : Option (α × State)) : Prop := ∀ p, o = some p → Fr w a p.2
/-- The state a home operation answers. -/
def FrW (w : Nat) (a : State) : WResult → Prop
  | .done t => Fr w a t
  | .refused _ _ t => Fr w a t
  | .wait t => Fr w a t
/-- The next state of a meaning, if it answers one. -/
def FrR (w : Nat) (a : State) : Res → Prop
  | .next t => Fr w a t
  | .fault _ => True
  | .refused _ => True

theorem frO_none {w : Nat} {a : State} : FrO w a none := fun _ e => nomatch e
theorem frO_some {w : Nat} {a t : State} (h : Fr w a t) : FrO w a (some t) := fun _ e => Option.some.inj e ▸ h
theorem frOS_none {w : Nat} {a : State} {α : Type} : FrOS w a (none : Option (α × State)) := fun _ e => nomatch e
theorem frOS_some {w : Nat} {a : State} {α : Type} {p : α × State} (h : Fr w a p.2) : FrOS w a (some p) :=
  fun _ e => Option.some.inj e ▸ h
theorem FrO.via {v w : Nat} {a s : State} {o : Option State} (h : Fr w a s) (k : FrO v s o) (z : w ||| v = w) : FrO w a o :=
  fun t e => h.via (k t e) z
theorem FrOS.via {v w : Nat} {a s : State} {α : Type} {o : Option (α × State)} (h : Fr w a s) (k : FrOS v s o) (z : w ||| v = w) :
    FrOS w a o := fun p e => h.via (k p e) z
theorem FrO.of_eq {w : Nat} {a t : State} {o : Option State} (h : FrO w a o) (e : o = some t) : Fr w a t := h t e
theorem FrOS.of_eq {w : Nat} {a t : State} {α : Type} {o : Option (α × State)} {x : α} (h : FrOS w a o) (e : o = some (x, t)) :
    Fr w a t := h _ e
theorem FrW.mono {v w : Nat} {a : State} {r : WResult} (h : FrW v a r) (k : w ||| v = w) : FrW w a r := by
  cases r <;> exact Fr.mono h k
theorem FrW.via {v w : Nat} {a s : State} {r : WResult} (h : Fr w a s) (k : FrW v s r) (z : w ||| v = w) : FrW w a r := by
  cases r <;> exact Fr.via h k z
theorem FrW.of_done {w : Nat} {a t : State} {r : WResult} (h : FrW w a r) (e : r = .done t) : Fr w a t := by subst e; exact h
theorem FrW.of_refused {w : Nat} {a t : State} {r : WResult} {x y : Nat} (h : FrW w a r) (e : r = .refused x y t) : Fr w a t := by
  subst e; exact h
theorem FrW.of_wait {w : Nat} {a t : State} {r : WResult} (h : FrW w a r) (e : r = .wait t) : Fr w a t := by subst e; exact h
theorem frW_done {w : Nat} {a t : State} (h : Fr w a t) : FrW w a (.done t) := h
theorem frW_refused {w : Nat} {a t : State} {x y : Nat} (h : Fr w a t) : FrW w a (.refused x y t) := h
theorem frW_wait {w : Nat} {a t : State} (h : Fr w a t) : FrW w a (.wait t) := h
theorem frW_denied {w : Nat} {a t : State} (h : Fr w a t) : FrW w a (WResult.denied t) := h
theorem frR_fault {w : Nat} {a : State} {f : Fault} : FrR w a (.fault f) := trivial
theorem frR_next {w : Nat} {a t : State} (h : Fr w a t) : FrR w a (.next t) := h
theorem FrR.via {v w : Nat} {a s : State} {r : Res} (h : Fr w a s) (k : FrR v s r) (z : w ||| v = w) : FrR w a r := by
  cases r <;> first | exact Fr.via h k z | trivial
theorem present_fr {w : Nat} {a t : State} {p : Bool} (h : Fr w a t) : FrR w a (present p t) := by
  cases p
  · trivial
  · exact h

theorem sub_of {w v x : Nat} (h : w ||| v = w) (k : v ||| x = v) : w ||| x = w := by
  rw [← h, Nat.or_assoc, k]
theorem bit_of {w v i : Nat} (h : w ||| v = w) (k : v.testBit i = true) : w.testBit i = true := by
  rw [← h, Nat.testBit_or, k, Bool.or_true]
theorem FrW.trans {w : Nat} {a s : State} {r : WResult} (h : Fr w a s) (k : FrW w s r) : FrW w a r := by
  cases r <;> exact Fr.trans h k
theorem FrR.trans {w : Nat} {a s : State} {r : Res} (h : Fr w a s) (k : FrR w s r) : FrR w a r := by
  cases r <;> first | exact Fr.trans h k | trivial
theorem applyHome_fr {w : Nat} {a s : State} {f : State → State} {who : Completer} (h : Fr w a s) (k : ∀ s, Fr w s (f s)) :
    FrW w a (applyHome f who s) := Fr.trans h (k s)
theorem wrapPowered_fr {w : Nat} {a s : State} {f : State → State} (h : Fr w a s) (k : ∀ s, Fr w s (f s)) :
    Fr w a (wrapPowered f s) := by
  unfold wrapPowered
  split
  · exact h
  · exact h.trans (k s)
theorem FrO.getD {w : Nat} {a s : State} {o : Option State} (h : FrO w a o) (k : Fr w a s) : Fr w a (o.getD s) := by
  cases o with
  | none => exact k
  | some t => exact h t rfl

theorem orElse_fr {w : Nat} {a : State} {next : State → State} {r : Bool × State} (h : Fr w a r.2) (k : ∀ s, Fr w s (next s)) :
    Fr w a (orElse next r) := by
  unfold orElse
  split
  · exact h
  · exact h.trans (k _)

end Sys2Proof.Machine
end

