-- ==== Sys2Proof/Laws/FrameOps.lean ====
section
/-!
SUPPORT. Frames of the shared operations: one lemma per operation, its number the parts it may write (see Frame).
-/
namespace Sys2Proof.Machine

set_option Elab.async false
set_option linter.unusedTactic false
set_option linter.unreachableTactic false

theorem State.armRejoin_fr {μ : ℕ} {α : State} {s : State} {k : ℕ} (hyp : Fr μ α s) (within : μ ||| 65536 = μ := by decide) :
    Fr μ α (State.armRejoin s k) := by
  refine Fr.via hyp ?_ within; unfold State.armRejoin; try dsimp only
  repeat' (first | (with_reducible first | exact Fr.refl _ _ | assumption | refine Fr.ite ?_ ?_) | split | with_reducible refine Fr.set_plans ?_)

theorem State.setOb_fr {μ : ℕ} {α : State} {s : State} {idx : ℕ} {sub : ℕ} {v : ℕ} (hyp : Fr μ α s) (within : μ ||| 64 = μ := by decide) :
    Fr μ α (State.setOb s idx sub v) := by
  refine Fr.via hyp ?_ within; unfold State.setOb; try dsimp only
  repeat' (first | (with_reducible first | exact Fr.refl _ _ | assumption | refine Fr.ite ?_ ?_) | split | with_reducible refine Fr.set_obj ?_)

theorem State.bumpBy_fr {μ : ℕ} {α : State} {s : State} {idx : ℕ} {sub : ℕ} {n : ℕ} (hyp : Fr μ α s) (within : μ ||| 64 = μ := by decide) :
    Fr μ α (State.bumpBy s idx sub n) := by
  refine Fr.via hyp ?_ within; unfold State.bumpBy; try dsimp only
  repeat' (first | (with_reducible first | exact Fr.refl _ _ | assumption | refine Fr.ite ?_ ?_ | refine State.setOb_fr ?_) | split)

theorem State.bump_fr {μ : ℕ} {α : State} {s : State} {idx : ℕ} {sub : ℕ} (hyp : Fr μ α s) (within : μ ||| 64 = μ := by decide) :
    Fr μ α (State.bump s idx sub) := by
  refine Fr.via hyp ?_ within; unfold State.bump; try dsimp only
  repeat' (first | (with_reducible first | exact Fr.refl _ _ | assumption | refine Fr.ite ?_ ?_ | refine State.bumpBy_fr ?_) | split)

theorem State.setPath_fr {μ : ℕ} {α : State} {s : State} {p : Path} (hyp : Fr μ α s) (within : μ ||| 262144 = μ := by decide) :
    Fr μ α (State.setPath s p) := by
  refine Fr.via hyp ?_ within; unfold State.setPath; try dsimp only
  repeat' (first | (with_reducible first | exact Fr.refl _ _ | assumption | refine Fr.ite ?_ ?_) | split | with_reducible refine Fr.set_path ?_)

theorem State.setAsks_fr {μ : ℕ} {α : State} {s : State} {l : List Ask} (hyp : Fr μ α s) (within : μ ||| 262144 = μ := by decide) :
    Fr μ α (State.setAsks s l) := by
  refine Fr.via hyp ?_ within; unfold State.setAsks; try dsimp only
  repeat' (first | (with_reducible first | exact Fr.refl _ _ | assumption | refine Fr.ite ?_ ?_ | refine State.setPath_fr ?_) | split)

theorem State.modAsk_fr {μ : ℕ} {α : State} {s : State} {id : ℕ} {f : Ask → Ask} (hyp : Fr μ α s) (within : μ ||| 262144 = μ := by decide) :
    Fr μ α (State.modAsk s id f) := by
  refine Fr.via hyp ?_ within; unfold State.modAsk; try dsimp only
  repeat' (first | (with_reducible first | exact Fr.refl _ _ | assumption | refine Fr.ite ?_ ?_ | refine State.setAsks_fr ?_) | split)

theorem State.setFar_fr {μ : ℕ} {α : State} {s : State} {f : Far} (hyp : Fr μ α s) (within : μ ||| 1048576 = μ := by decide) :
    Fr μ α (State.setFar s f) := by
  refine Fr.via hyp ?_ within; unfold State.setFar; try dsimp only
  repeat' (first | (with_reducible first | exact Fr.refl _ _ | assumption | refine Fr.ite ?_ ?_) | split | with_reducible refine Fr.set_far ?_)

theorem State.modBale_fr {μ : ℕ} {α : State} {s : State} {b : ℕ} {f : Bale → Bale} (hyp : Fr μ α s) (within : μ ||| 1048576 = μ := by decide) :
    Fr μ α (State.modBale s b f) := by
  refine Fr.via hyp ?_ within; unfold State.modBale; try dsimp only
  repeat' (first | (with_reducible first | exact Fr.refl _ _ | assumption | refine Fr.ite ?_ ?_ | refine State.setFar_fr ?_) | split)

theorem State.setChan_fr {μ : ℕ} {α : State} {s : State} {c : ℕ} {x : Chan} (hyp : Fr μ α s) (within : μ ||| 262144 = μ := by decide) :
    Fr μ α (State.setChan s c x) := by
  refine Fr.via hyp ?_ within; unfold State.setChan; try dsimp only
  repeat' (first | (with_reducible first | exact Fr.refl _ _ | assumption | refine Fr.ite ?_ ?_ | refine State.setPath_fr ?_) | split)

theorem State.modChan_fr {μ : ℕ} {α : State} {s : State} {c : ℕ} {f : Chan → Chan} (hyp : Fr μ α s) (within : μ ||| 262144 = μ := by decide) :
    Fr μ α (State.modChan s c f) := by
  refine Fr.via hyp ?_ within; unfold State.modChan; try dsimp only
  repeat' (first | (with_reducible first | exact Fr.refl _ _ | assumption | refine Fr.ite ?_ ?_ | refine State.setChan_fr ?_) | split)

theorem State.setFeeds_fr {μ : ℕ} {α : State} {s : State} {f : Feeds} (hyp : Fr μ α s) (within : μ ||| 131072 = μ := by decide) :
    Fr μ α (State.setFeeds s f) := by
  refine Fr.via hyp ?_ within; unfold State.setFeeds; try dsimp only
  repeat' (first | (with_reducible first | exact Fr.refl _ _ | assumption | refine Fr.ite ?_ ?_) | split | with_reducible refine Fr.set_feeds ?_)

theorem State.modStream_fr {μ : ℕ} {α : State} {s : State} {n : ℕ} {f : Stream → Stream} (hyp : Fr μ α s) (within : μ ||| 131072 = μ := by decide) :
    Fr μ α (State.modStream s n f) := by
  refine Fr.via hyp ?_ within; unfold State.modStream; try dsimp only
  repeat' (first | (with_reducible first | exact Fr.refl _ _ | assumption | refine Fr.ite ?_ ?_ | refine State.setFeeds_fr ?_) | split)

theorem State.modOld_fr {μ : ℕ} {α : State} {s : State} {n : ℕ} {f : Stream → Stream} (hyp : Fr μ α s) (within : μ ||| 131072 = μ := by decide) :
    Fr μ α (State.modOld s n f) := by
  refine Fr.via hyp ?_ within; unfold State.modOld; try dsimp only
  repeat' (first | (with_reducible first | exact Fr.refl _ _ | assumption | refine Fr.ite ?_ ?_ | refine State.setFeeds_fr ?_) | split)

theorem State.modFeed_fr {μ : ℕ} {α : State} {s : State} {n : ℕ} {num : ℕ} {f : FeedLine → FeedLine} (hyp : Fr μ α s) (within : μ ||| 131072 = μ := by decide) :
    Fr μ α (State.modFeed s n num f) := by
  refine Fr.via hyp ?_ within; unfold State.modFeed; try dsimp only
  repeat' (first | (with_reducible first | exact Fr.refl _ _ | assumption | refine Fr.ite ?_ ?_ | refine State.modStream_fr ?_ | refine State.modOld_fr ?_) | split)

theorem State.setCache_fr {μ : ℕ} {α : State} {s : State} {c : Cache} (hyp : Fr μ α s) (within : μ ||| 524288 = μ := by decide) :
    Fr μ α (State.setCache s c) := by
  refine Fr.via hyp ?_ within; unfold State.setCache; try dsimp only
  repeat' (first | (with_reducible first | exact Fr.refl _ _ | assumption | refine Fr.ite ?_ ?_) | split | with_reducible refine Fr.set_cache ?_)

theorem State.setReds_fr {μ : ℕ} {α : State} {s : State} {l : List Red} (hyp : Fr μ α s) (within : μ ||| 524352 = μ := by decide) :
    Fr μ α (State.setReds s l) := by
  refine Fr.via hyp ?_ within; unfold State.setReds; try dsimp only
  repeat' (first | (with_reducible first | exact Fr.refl _ _ | assumption | refine Fr.ite ?_ ?_ | refine State.setCache_fr ?_ | refine State.setOb_fr ?_) | split)

theorem State.modRed_fr {μ : ℕ} {α : State} {s : State} {a : ℕ} {f : Red → Red} (hyp : Fr μ α s) (within : μ ||| 524352 = μ := by decide) :
    Fr μ α (State.modRed s a f) := by
  refine Fr.via hyp ?_ within; unfold State.modRed; try dsimp only
  repeat' (first | (with_reducible first | exact Fr.refl _ _ | assumption | refine Fr.ite ?_ ?_ | refine State.setReds_fr ?_) | split)

theorem State.modTr_fr {μ : ℕ} {α : State} {s : State} {c : ℕ} {f : Train → Train} (hyp : Fr μ α s) (within : μ ||| 8388608 = μ := by decide) :
    Fr μ α (State.modTr s c f) := by
  refine Fr.via hyp ?_ within; unfold State.modTr; try dsimp only
  repeat' (first | (with_reducible first | exact Fr.refl _ _ | assumption | refine Fr.ite ?_ ?_) | split | with_reducible refine Fr.set_train ?_)

theorem State.modTransfer_fr {μ : ℕ} {α : State} {s : State} {n : ℕ} {f : Transfer → Transfer} (hyp : Fr μ α s) (within : μ ||| 1048576 = μ := by decide) :
    Fr μ α (State.modTransfer s n f) := by
  refine Fr.via hyp ?_ within; unfold State.modTransfer; try dsimp only
  repeat' (first | (with_reducible first | exact Fr.refl _ _ | assumption | refine Fr.ite ?_ ?_ | refine State.setFar_fr ?_) | split)

theorem State.peak_fr {μ : ℕ} {α : State} {s : State} {idx : ℕ} {sub : ℕ} {v : ℕ} (hyp : Fr μ α s) (within : μ ||| 64 = μ := by decide) :
    Fr μ α (State.peak s idx sub v) := by
  refine Fr.via hyp ?_ within; unfold State.peak; try dsimp only
  repeat' (first | (with_reducible first | exact Fr.refl _ _ | assumption | refine Fr.ite ?_ ?_ | refine State.setOb_fr ?_) | split)

theorem State.regionsApplied_fr {μ : ℕ} {α : State} {s : State} (hyp : Fr μ α s) (within : μ ||| 64 = μ := by decide) :
    Fr μ α (State.regionsApplied s) := by
  refine Fr.via hyp ?_ within; unfold State.regionsApplied; try dsimp only
  repeat' (first | (with_reducible first | exact Fr.refl _ _ | assumption | refine Fr.ite ?_ ?_ | refine foldl_fr ?_ (fun _ _ => ?_) | refine foldl_frS ?_ (fun _ _ => ?_) | refine foldl_frF ?_ (fun _ _ => ?_)) | split | with_reducible refine Fr.set_obj ?_)

theorem State.send_fr {μ : ℕ} {α : State} {s : State} {o : Output} (hyp : Fr μ α s) (within : μ ||| 16384 = μ := by decide) :
    Fr μ α (State.send s o) := by
  refine Fr.via hyp ?_ within; unfold State.send; try dsimp only
  repeat' (first | (with_reducible first | exact Fr.refl _ _ | assumption | refine Fr.ite ?_ ?_) | split | with_reducible refine Fr.set_out ?_)

theorem State.setChanState_fr {μ : ℕ} {α : State} {s : State} {c : ℕ} {v : ℕ} (hyp : Fr μ α s) (within : μ ||| 64 = μ := by decide) :
    Fr μ α (State.setChanState s c v) := by
  refine Fr.via hyp ?_ within; unfold State.setChanState; try dsimp only
  repeat' (first | (with_reducible first | exact Fr.refl _ _ | assumption | refine Fr.ite ?_ ?_ | refine State.setOb_fr ?_) | split)

theorem State.setClk_fr {μ : ℕ} {α : State} {s : State} {k : Clocks} (hyp : Fr μ α s) (within : μ ||| 16777216 = μ := by decide) :
    Fr μ α (State.setClk s k) := by
  refine Fr.via hyp ?_ within; unfold State.setClk; try dsimp only
  repeat' (first | (with_reducible first | exact Fr.refl _ _ | assumption | refine Fr.ite ?_ ?_) | split | with_reducible refine Fr.set_clk ?_)

theorem State.setDch_fr {μ : ℕ} {α : State} {s : State} {c : ℕ} {x : DramChan} (hyp : Fr μ α s) (within : μ ||| 512 = μ := by decide) :
    Fr μ α (State.setDch s c x) := by
  refine Fr.via hyp ?_ within; unfold State.setDch; try dsimp only
  repeat' (first | (with_reducible first | exact Fr.refl _ _ | assumption | refine Fr.ite ?_ ?_) | split | with_reducible refine Fr.set_dram ?_)

theorem State.setDie_fr {μ : ℕ} {α : State} {s : State} {st : ℕ} {l : ℕ} {x : LayerDie} (hyp : Fr μ α s) (within : μ ||| 512 = μ := by decide) :
    Fr μ α (State.setDie s st l x) := by
  refine Fr.via hyp ?_ within; unfold State.setDie; try dsimp only
  repeat' (first | (with_reducible first | exact Fr.refl _ _ | assumption | refine Fr.ite ?_ ?_) | split | with_reducible refine Fr.set_dram ?_)

theorem State.setFlow_fr {μ : ℕ} {α : State} {s : State} {k : ℕ} {f : Flow} (hyp : Fr μ α s) (within : μ ||| 256 = μ := by decide) :
    Fr μ α (State.setFlow s k f) := by
  refine Fr.via hyp ?_ within; unfold State.setFlow; try dsimp only
  repeat' (first | (with_reducible first | exact Fr.refl _ _ | assumption | refine Fr.ite ?_ ?_) | split | with_reducible refine Fr.set_hl ?_)

theorem State.setHeat_fr {μ : ℕ} {α : State} {s : State} {h : Heat} (hyp : Fr μ α s) (within : μ ||| 4194304 = μ := by decide) :
    Fr μ α (State.setHeat s h) := by
  refine Fr.via hyp ?_ within; unfold State.setHeat; try dsimp only
  repeat' (first | (with_reducible first | exact Fr.refl _ _ | assumption | refine Fr.ite ?_ ?_) | split | with_reducible refine Fr.set_heat ?_)

theorem State.setSec_fr {μ : ℕ} {α : State} {s : State} {x : Security} (hyp : Fr μ α s) (within : μ ||| 1024 = μ := by decide) :
    Fr μ α (State.setSec s x) := by
  refine Fr.via hyp ?_ within; unfold State.setSec; try dsimp only
  repeat' (first | (with_reducible first | exact Fr.refl _ _ | assumption | refine Fr.ite ?_ ?_) | split | with_reducible refine Fr.set_sec ?_)

theorem State.setKey_fr {μ : ℕ} {α : State} {s : State} {n : ℕ} {k : KeySlot} (hyp : Fr μ α s) (within : μ ||| 1024 = μ := by decide) :
    Fr μ α (State.setKey s n k) := by
  refine Fr.via hyp ?_ within; unfold State.setKey; try dsimp only
  repeat' (first | (with_reducible first | exact Fr.refl _ _ | assumption | refine Fr.ite ?_ ?_ | refine State.setSec_fr ?_) | split)

theorem State.setLay_fr {μ : ℕ} {α : State} {s : State} {c : ℕ} {l : ℕ} {x : LayerChan} (hyp : Fr μ α s) (within : μ ||| 512 = μ := by decide) :
    Fr μ α (State.setLay s c l x) := by
  refine Fr.via hyp ?_ within; unfold State.setLay; try dsimp only
  repeat' (first | (with_reducible first | exact Fr.refl _ _ | assumption | refine Fr.ite ?_ ?_) | split | with_reducible refine Fr.set_dram ?_)

theorem State.setMeter_fr {μ : ℕ} {α : State} {s : State} {l : ℕ} {m : Meter} (hyp : Fr μ α s) (within : μ ||| 262144 = μ := by decide) :
    Fr μ α (State.setMeter s l m) := by
  refine Fr.via hyp ?_ within; unfold State.setMeter; try dsimp only
  repeat' (first | (with_reducible first | exact Fr.refl _ _ | assumption | refine Fr.ite ?_ ?_ | refine State.setPath_fr ?_) | split)

theorem State.setNotifyQ_fr {μ : ℕ} {α : State} {s : State} {n : ℕ} {q : NotifyQueue} (hyp : Fr μ α s) (within : μ ||| 128 = μ := by decide) :
    Fr μ α (State.setNotifyQ s n q) := by
  refine Fr.via hyp ?_ within; unfold State.setNotifyQ; try dsimp only
  repeat' (first | (with_reducible first | exact Fr.refl _ _ | assumption | refine Fr.ite ?_ ?_) | split | with_reducible refine Fr.set_mgmt ?_)

theorem State.setPanic_fr {μ : ℕ} {α : State} {s : State} {p : ℕ} {x : PanicState} (hyp : Fr μ α s) (within : μ ||| 262144 = μ := by decide) :
    Fr μ α (State.setPanic s p x) := by
  refine Fr.via hyp ?_ within; unfold State.setPanic; try dsimp only
  repeat' (first | (with_reducible first | exact Fr.refl _ _ | assumption | refine Fr.ite ?_ ?_ | refine State.setPath_fr ?_) | split)

theorem State.setPlans_fr {μ : ℕ} {α : State} {s : State} {p : Plans} (hyp : Fr μ α s) (within : μ ||| 65536 = μ := by decide) :
    Fr μ α (State.setPlans s p) := by
  refine Fr.via hyp ?_ within; unfold State.setPlans; try dsimp only
  repeat' (first | (with_reducible first | exact Fr.refl _ _ | assumption | refine Fr.ite ?_ ?_) | split | with_reducible refine Fr.set_plans ?_)

theorem State.setPool_fr {μ : ℕ} {α : State} {s : State} {r : ℕ} {p : ℕ × ℕ × ℕ × ℕ} (hyp : Fr μ α s) (within : μ ||| 131072 = μ := by decide) :
    Fr μ α (State.setPool s r p) := by
  refine Fr.via hyp ?_ within; unfold State.setPool; try dsimp only
  repeat' (first | (with_reducible first | exact Fr.refl _ _ | assumption | refine Fr.ite ?_ ?_ | refine State.setFeeds_fr ?_) | split)

theorem State.setPort_fr {μ : ℕ} {α : State} {s : State} {h : ℕ} {p : HPort} (hyp : Fr μ α s) (within : μ ||| 256 = μ := by decide) :
    Fr μ α (State.setPort s h p) := by
  refine Fr.via hyp ?_ within; unfold State.setPort; try dsimp only
  repeat' (first | (with_reducible first | exact Fr.refl _ _ | assumption | refine Fr.ite ?_ ?_) | split | with_reducible refine Fr.set_hl ?_)

theorem State.setPower_fr {μ : ℕ} {α : State} {s : State} {p : Power} (hyp : Fr μ α s) (within : μ ||| 4 = μ := by decide) :
    Fr μ α (State.setPower s p) := by
  refine Fr.via hyp ?_ within; unfold State.setPower; try dsimp only
  repeat' (first | (with_reducible first | exact Fr.refl _ _ | assumption | refine Fr.ite ?_ ?_) | split | with_reducible refine Fr.set_power ?_)

theorem State.setRecordArea_fr {μ : ℕ} {α : State} {s : State} {area : ℕ} {index : ℕ} {x : RecordArea} (hyp : Fr μ α s) (within : μ ||| 4096 = μ := by decide) :
    Fr μ α (State.setRecordArea s area index x) := by
  refine Fr.via hyp ?_ within; unfold State.setRecordArea; try dsimp only
  repeat' (first | (with_reducible first | exact Fr.refl _ _ | assumption | refine Fr.ite ?_ ?_) | split | with_reducible refine Fr.set_nvm ?_)

theorem State.setRegWindow_fr {μ : ℕ} {α : State} {s : State} {r : ℕ} {w : RegWindow} (hyp : Fr μ α s) (within : μ ||| 262144 = μ := by decide) :
    Fr μ α (State.setRegWindow s r w) := by
  refine Fr.via hyp ?_ within; unfold State.setRegWindow; try dsimp only
  repeat' (first | (with_reducible first | exact Fr.refl _ _ | assumption | refine Fr.ite ?_ ?_ | refine State.setPath_fr ?_) | split)

theorem State.setSampler_fr {μ : ℕ} {α : State} {s : State} {x : Sampler} (hyp : Fr μ α s) (within : μ ||| 67108864 = μ := by decide) :
    Fr μ α (State.setSampler s x) := by
  refine Fr.via hyp ?_ within; unfold State.setSampler; try dsimp only
  repeat' (first | (with_reducible first | exact Fr.refl _ _ | assumption | refine Fr.ite ?_ ?_) | split | with_reducible refine Fr.set_sampler ?_)

theorem State.setSegments_fr {μ : ℕ} {α : State} {s : State} {l : List Segment} (hyp : Fr μ α s) (within : μ ||| 128 = μ := by decide) :
    Fr μ α (State.setSegments s l) := by
  refine Fr.via hyp ?_ within; unfold State.setSegments; try dsimp only
  repeat' (first | (with_reducible first | exact Fr.refl _ _ | assumption | refine Fr.ite ?_ ?_) | split | with_reducible refine Fr.set_mgmt ?_)

theorem State.setSensor_fr {μ : ℕ} {α : State} {s : State} {k : ℕ} {x : Sensor} (hyp : Fr μ α s) (within : μ ||| 4194304 = μ := by decide) :
    Fr μ α (State.setSensor s k x) := by
  refine Fr.via hyp ?_ within; unfold State.setSensor; try dsimp only
  repeat' (first | (with_reducible first | exact Fr.refl _ _ | assumption | refine Fr.ite ?_ ?_ | refine State.setHeat_fr ?_) | split)

theorem State.setSet_fr {μ : ℕ} {α : State} {s : State} {v : SetView} (hyp : Fr μ α s) (within : μ ||| 256 = μ := by decide) :
    Fr μ α (State.setSet s v) := by
  refine Fr.via hyp ?_ within; unfold State.setSet; try dsimp only
  repeat' (first | (with_reducible first | exact Fr.refl _ _ | assumption | refine Fr.ite ?_ ?_) | split | with_reducible refine Fr.set_hl ?_)

theorem State.setSource_fr {μ : ℕ} {α : State} {s : State} {m : ℕ} {x : SourceState} (hyp : Fr μ α s) (within : μ ||| 16777216 = μ := by decide) :
    Fr μ α (State.setSource s m x) := by
  refine Fr.via hyp ?_ within; unfold State.setSource; try dsimp only
  repeat' (first | (with_reducible first | exact Fr.refl _ _ | assumption | refine Fr.ite ?_ ?_ | refine State.setClk_fr ?_) | split)

theorem State.setSpdm_fr {μ : ℕ} {α : State} {s : State} {c : Spdm} (hyp : Fr μ α s) (within : μ ||| 1024 = μ := by decide) :
    Fr μ α (State.setSpdm s c) := by
  refine Fr.via hyp ?_ within; unfold State.setSpdm; try dsimp only
  repeat' (first | (with_reducible first | exact Fr.refl _ _ | assumption | refine Fr.ite ?_ ?_ | refine State.setSec_fr ?_) | split)

theorem State.setUpd_fr {μ : ℕ} {α : State} {s : State} {u : Update} (hyp : Fr μ α s) (within : μ ||| 33554432 = μ := by decide) :
    Fr μ α (State.setUpd s u) := by
  refine Fr.via hyp ?_ within; unfold State.setUpd; try dsimp only
  repeat' (first | (with_reducible first | exact Fr.refl _ _ | assumption | refine Fr.ite ?_ ?_) | split | with_reducible refine Fr.set_upd ?_)

theorem State.setWay_fr {μ : ℕ} {α : State} {s : State} {k : ℕ} {w : Option CWay} (hyp : Fr μ α s) (within : μ ||| 524288 = μ := by decide) :
    Fr μ α (State.setWay s k w) := by
  refine Fr.via hyp ?_ within; unfold State.setWay; try dsimp only
  repeat' (first | (with_reducible first | exact Fr.refl _ _ | assumption | refine Fr.ite ?_ ?_ | refine State.setCache_fr ?_) | split)

theorem State.setWfq_fr {μ : ℕ} {α : State} {s : State} {c : ℕ} {write : Bool} {w : Wfq} (hyp : Fr μ α s) (within : μ ||| 262144 = μ := by decide) :
    Fr μ α (State.setWfq s c write w) := by
  refine Fr.via hyp ?_ within; unfold State.setWfq; try dsimp only
  repeat' (first | (with_reducible first | exact Fr.refl _ _ | assumption | refine Fr.ite ?_ ?_ | refine State.setPath_fr ?_) | split)

theorem State.setWrap_fr {μ : ℕ} {α : State} {s : State} {w : Wrapper} (hyp : Fr μ α s) (within : μ ||| 32 = μ := by decide) :
    Fr μ α (State.setWrap s w) := by
  refine Fr.via hyp ?_ within; unfold State.setWrap; try dsimp only
  repeat' (first | (with_reducible first | exact Fr.refl _ _ | assumption | refine Fr.ite ?_ ?_) | split | with_reducible refine Fr.set_wrap ?_)

theorem State.setWrites_fr {μ : ℕ} {α : State} {s : State} {l : List SetWrite} (hyp : Fr μ α s) (within : μ ||| 128 = μ := by decide) :
    Fr μ α (State.setWrites s l) := by
  refine Fr.via hyp ?_ within; unfold State.setWrites; try dsimp only
  repeat' (first | (with_reducible first | exact Fr.refl _ _ | assumption | refine Fr.ite ?_ ?_) | split | with_reducible refine Fr.set_mgmt ?_)

theorem State.takeFree_fr {μ : ℕ} {α : State} {s : State} (hyp : Fr μ α s) (within : μ ||| 8192 = μ := by decide) :
    Fr μ α (State.takeFree s) := by
  refine Fr.via hyp ?_ within; unfold State.takeFree; try dsimp only
  repeat' (first | (with_reducible first | exact Fr.refl _ _ | assumption | refine Fr.ite ?_ ?_) | split | with_reducible refine Fr.set_free ?_)

theorem State.takeOrder_fr {μ : ℕ} {α : State} {s : State} (hyp : Fr μ α s) (within : μ ||| 262144 = μ := by decide) :
    Fr μ α (State.takeOrder s) := by
  refine Fr.via hyp ?_ within; unfold State.takeOrder; try dsimp only
  repeat' (first | (with_reducible first | exact Fr.refl _ _ | assumption | refine Fr.ite ?_ ?_ | refine State.setPath_fr ?_) | split)

theorem State.withCommand_fr {μ : ℕ} {α : State} {s : State} {c : Instr} (hyp : Fr μ α s) (within : μ ||| 32768 = μ := by decide) :
    Fr μ α (State.withCommand s c) := by
  refine Fr.via hyp ?_ within; unfold State.withCommand; try dsimp only
  repeat' (first | (with_reducible first | exact Fr.refl _ _ | assumption | refine Fr.ite ?_ ?_) | split | with_reducible refine Fr.set_pending ?_)

theorem State.withFetchWord_fr {μ : ℕ} {α : State} {s : State} {nbits : ℕ} {w : ℕ} (hyp : Fr μ α s) (within : μ ||| 32768 = μ := by decide) :
    Fr μ α (State.withFetchWord s nbits w) := by
  refine Fr.via hyp ?_ within; unfold State.withFetchWord; try dsimp only
  repeat' (first | (with_reducible first | exact Fr.refl _ _ | assumption | refine Fr.ite ?_ ?_ | refine State.withCommand_fr ?_) | split)

theorem sampleGone_fr {μ : ℕ} {α : State} {kind : ℕ} {id : ℕ} {num : ℕ} {s : State} (hyp : Fr μ α s) (within : μ ||| 67108864 = μ := by decide) :
    Fr μ α (sampleGone kind id num s) := by
  refine Fr.via hyp ?_ within; unfold sampleGone; try dsimp only
  repeat' (first | (with_reducible first | exact Fr.refl _ _ | assumption | refine Fr.ite ?_ ?_ | refine State.setSampler_fr ?_) | split)

theorem dropAsk_fr {μ : ℕ} {α : State} {id : ℕ} {s : State} (hyp : Fr μ α s) (within : μ ||| 67371008 = μ := by decide) :
    Fr μ α (dropAsk id s) := by
  refine Fr.via hyp ?_ within; unfold dropAsk; try dsimp only
  repeat' (first | (with_reducible first | exact Fr.refl _ _ | assumption | refine Fr.ite ?_ ?_ | refine State.setAsks_fr ?_ | refine sampleGone_fr ?_) | split)

theorem abandonReads_fr {μ : ℕ} {α : State} {f : Purpose → Bool} {s : State} (hyp : Fr μ α s) (within : μ ||| 67371008 = μ := by decide) :
    Fr μ α (abandonReads f s) := by
  refine Fr.via hyp ?_ within; unfold abandonReads; try dsimp only
  repeat' (first | (with_reducible first | exact Fr.refl _ _ | assumption | refine Fr.ite ?_ ?_ | refine dropAsk_fr ?_ | refine State.modAsk_fr ?_ | refine forEach_fr ?_ (fun _ _ => ?_)) | split)

theorem dropRound_fr {μ : ℕ} {α : State} {c : ℕ} {s : State} (hyp : Fr μ α s) (within : μ ||| 8388672 = μ := by decide) :
    Fr μ α (dropRound c s) := by
  refine Fr.via hyp ?_ within; unfold dropRound; try dsimp only
  repeat' (first | (with_reducible first | exact Fr.refl _ _ | assumption | refine Fr.ite ?_ ?_ | refine State.modTr_fr ?_ | refine State.setOb_fr ?_ | refine forEach_fr ?_ (fun _ _ => ?_)) | split)

theorem markAlert_fr {μ : ℕ} {α : State} {c : ℕ} {l : ℕ} {s : State} (hyp : Fr μ α s) (within : μ ||| 512 = μ := by decide) :
    Fr μ α (markAlert c l s) := by
  refine Fr.via hyp ?_ within; unfold markAlert; try dsimp only
  repeat' (first | (with_reducible first | exact Fr.refl _ _ | assumption | refine Fr.ite ?_ ?_ | refine State.setLay_fr ?_) | split)

theorem alertOn_fr {μ : ℕ} {α : State} {c : ℕ} {s : State} (hyp : Fr μ α s) (within : μ ||| 576 = μ := by decide) :
    Fr μ α (alertOn c s) := by
  refine Fr.via hyp ?_ within; unfold alertOn; try dsimp only
  repeat' (first | (with_reducible first | exact Fr.refl _ _ | assumption | refine Fr.ite ?_ ?_ | refine State.setDch_fr ?_ | refine State.bump_fr ?_) | split)

theorem layRegWrite_fr {μ : ℕ} {α : State} {c : ℕ} {l : ℕ} {a : ℕ} {v : ℕ} {s : State} (hyp : Fr μ α s) (within : μ ||| 576 = μ := by decide) :
    Fr μ α (layRegWrite c l a v s) := by
  refine Fr.via hyp ?_ within; unfold layRegWrite; try dsimp only
  repeat' (first | (with_reducible first | exact Fr.refl _ _ | assumption | refine Fr.ite ?_ ?_ | refine State.setOb_fr ?_ | refine State.setDie_fr ?_ | refine State.setLay_fr ?_) | split)

theorem layMrwb_fr {μ : ℕ} {α : State} {c : ℕ} {a : ℕ} {v : ℕ} {s : State} (hyp : Fr μ α s) (within : μ ||| 576 = μ := by decide) :
    Fr μ α (layMrwb c a v s) := by
  refine Fr.via hyp ?_ within; unfold layMrwb; try dsimp only
  repeat' (first | (with_reducible first | exact Fr.refl _ _ | assumption | refine Fr.ite ?_ ?_ | refine markAlert_fr ?_ | refine alertOn_fr ?_ | refine layRegWrite_fr ?_ | refine forEach_fr ?_ (fun _ _ => ?_)) | split)

theorem layModes_fr {μ : ℕ} {α : State} {c : ℕ} {l : List (ℕ × ℕ)} {s : State} (hyp : Fr μ α s) (within : μ ||| 576 = μ := by decide) :
    Fr μ α (layModes c l s) := by
  refine Fr.via hyp ?_ within; unfold layModes; try dsimp only
  repeat' (first | (with_reducible first | exact Fr.refl _ _ | assumption | refine Fr.ite ?_ ?_ | refine layMrwb_fr ?_ | refine forEach_fr ?_ (fun _ _ => ?_)) | split)

theorem abandonRound_fr {μ : ℕ} {α : State} {c : ℕ} {s : State} (hyp : Fr μ α s) (within : μ ||| 8389184 = μ := by decide) :
    Fr μ α (abandonRound c s) := by
  refine Fr.via hyp ?_ within; unfold abandonRound; try dsimp only
  repeat' (first | (with_reducible first | exact Fr.refl _ _ | assumption | refine Fr.ite ?_ ?_ | refine dropRound_fr ?_ | refine layModes_fr ?_) | split)

theorem enqueue_fr {μ : ℕ} {α : State} {h : ℕ} {p : Parcel} {s : State} (hyp : Fr μ α s) (within : μ ||| 256 = μ := by decide) :
    Fr μ α (enqueue h p s) := by
  refine Fr.via hyp ?_ within; unfold enqueue; try dsimp only
  repeat' (first | (with_reducible first | exact Fr.refl _ _ | assumption | refine Fr.ite ?_ ?_ | refine State.setPort_fr ?_) | split)

theorem sendParcel_fr {μ : ℕ} {α : State} {d : ℕ} {hdr : Hdr} {body : List Byte} {s : State} (hyp : Fr μ α s) (within : μ ||| 256 = μ := by decide) :
    Fr μ α (sendParcel d hdr body s) := by
  refine Fr.via hyp ?_ within; unfold sendParcel; try dsimp only
  repeat' (first | (with_reducible first | exact Fr.refl _ _ | assumption | refine Fr.ite ?_ ?_ | refine State.setFlow_fr ?_ | refine enqueue_fr ?_) | split)

theorem sendCompletion_fr {μ : ℕ} {α : State} {a : Ask} {status : ℕ} {data : Option ℕ} {s : State} (hyp : Fr μ α s) (within : μ ||| 256 = μ := by decide) :
    Fr μ α (sendCompletion a status data s) := by
  refine Fr.via hyp ?_ within; unfold sendCompletion; try dsimp only
  repeat' (first | (with_reducible first | exact Fr.refl _ _ | assumption | refine Fr.ite ?_ ?_ | refine sendParcel_fr ?_) | split)

theorem writeSample_fr {μ : ℕ} {α : State} {b : Building} {status : ℕ} {s : State} (hyp : Fr μ α s) (within : μ ||| 67108928 = μ := by decide) :
    Fr μ α (writeSample b status s) := by
  refine Fr.via hyp ?_ within; unfold writeSample; try dsimp only
  repeat' (first | (with_reducible first | exact Fr.refl _ _ | assumption | refine Fr.ite ?_ ?_ | refine State.setSampler_fr ?_ | refine State.setOb_fr ?_ | refine State.bump_fr ?_) | split)

theorem sampleEnd_fr {μ : ℕ} {α : State} {kind : ℕ} {id : ℕ} {num : ℕ} {status : ℕ} {s : State} (hyp : Fr μ α s) (within : μ ||| 67108928 = μ := by decide) :
    Fr μ α (sampleEnd kind id num status s) := by
  refine Fr.via hyp ?_ within; unfold sampleEnd; try dsimp only
  repeat' (first | (with_reducible first | exact Fr.refl _ _ | assumption | refine Fr.ite ?_ ?_ | refine writeSample_fr ?_ | refine State.setSampler_fr ?_) | split)

theorem modBuilding_fr {μ : ℕ} {α : State} {kind : ℕ} {id : ℕ} {num : ℕ} {f : Building → Building} {s : State} (hyp : Fr μ α s) (within : μ ||| 67108864 = μ := by decide) :
    Fr μ α (modBuilding kind id num f s) := by
  refine Fr.via hyp ?_ within; unfold modBuilding; try dsimp only
  repeat' (first | (with_reducible first | exact Fr.refl _ _ | assumption | refine Fr.ite ?_ ?_ | refine State.setSampler_fr ?_) | split)

theorem sampleEffect_fr {μ : ℕ} {α : State} {id : ℕ} {s : State} (hyp : Fr μ α s) (within : μ ||| 67108864 = μ := by decide) :
    Fr μ α (sampleEffect id s) := by
  refine Fr.via hyp ?_ within; unfold sampleEffect; try dsimp only
  repeat' (first | (with_reducible first | exact Fr.refl _ _ | assumption | refine Fr.ite ?_ ?_ | refine modBuilding_fr ?_) | split)

theorem count_fr {μ : ℕ} {α : State} {b : ℕ} {j : ℕ} {n : ℕ} {s : State} (hyp : Fr μ α s) (within : μ ||| 64 = μ := by decide) :
    Fr μ α (count b j n s) := by
  refine Fr.via hyp ?_ within; unfold count; try dsimp only
  repeat' (first | (with_reducible first | exact Fr.refl _ _ | assumption | refine Fr.ite ?_ ?_ | refine State.setOb_fr ?_) | split)

theorem countIf_fr {μ : ℕ} {α : State} {b : ℕ} {j : ℕ} {n : ℕ} {c : Cause} {s : State} (hyp : Fr μ α s) (within : μ ||| 64 = μ := by decide) :
    Fr μ α (countIf b j n c s) := by
  refine Fr.via hyp ?_ within; unfold countIf; try dsimp only
  repeat' (first | (with_reducible first | exact Fr.refl _ _ | assumption | refine Fr.ite ?_ ?_ | refine count_fr ?_) | split)

theorem countDecision_fr {μ : ℕ} {α : State} {a : Ask} {status : ℕ} {s : State} (hyp : Fr μ α s) (within : μ ||| 64 = μ := by decide) :
    Fr μ α (countDecision a status s) := by
  refine Fr.via hyp ?_ within; unfold countDecision; try dsimp only
  repeat' (first | (with_reducible first | exact Fr.refl _ _ | assumption | refine Fr.ite ?_ ?_ | refine countIf_fr ?_) | split)

theorem finish_fr {μ : ℕ} {α : State} {id : ℕ} {status : ℕ} {data : Option ℕ} {s : State} (hyp : Fr μ α s) (within : μ ||| 67371328 = μ := by decide) :
    Fr μ α (finish id status data s) := by
  refine Fr.via hyp ?_ within; unfold finish; try dsimp only
  repeat' (first | (with_reducible first | exact Fr.refl _ _ | assumption | refine Fr.ite ?_ ?_ | refine State.setAsks_fr ?_ | refine sendCompletion_fr ?_ | refine sampleEnd_fr ?_ | refine sampleEffect_fr ?_ | refine State.modAsk_fr ?_ | refine countDecision_fr ?_) | split)

theorem retire_fr {μ : ℕ} {α : State} {id : ℕ} {s : State} (hyp : Fr μ α s) (within : μ ||| 262144 = μ := by decide) :
    Fr μ α (retire id s) := by
  refine Fr.via hyp ?_ within; unfold retire; try dsimp only
  repeat' (first | (with_reducible first | exact Fr.refl _ _ | assumption | refine Fr.ite ?_ ?_ | refine State.setAsks_fr ?_) | split)

theorem syncDepth_fr {μ : ℕ} {α : State} {c : ℕ} {s : State} (hyp : Fr μ α s) (within : μ ||| 64 = μ := by decide) :
    Fr μ α (syncDepth c s) := by
  refine Fr.via hyp ?_ within; unfold syncDepth; try dsimp only
  repeat' (first | (with_reducible first | exact Fr.refl _ _ | assumption | refine Fr.ite ?_ ?_ | refine State.peak_fr ?_ | refine State.setOb_fr ?_) | split)

theorem abortAsks_fr {μ : ℕ} {α : State} {ctx : ℕ} {s : State} (hyp : Fr μ α s) (within : μ ||| 67895616 = μ := by decide) :
    Fr μ α (abortAsks ctx s) := by
  refine Fr.via hyp ?_ within; unfold abortAsks; try dsimp only
  repeat' (first | (with_reducible first | exact Fr.refl _ _ | assumption | refine Fr.ite ?_ ?_ | refine State.modAsk_fr ?_ | refine finish_fr ?_ | refine retire_fr ?_ | refine abandonReads_fr ?_ | refine State.setCache_fr ?_ | refine State.modChan_fr ?_ | refine syncDepth_fr ?_ | refine forEach_fr ?_ (fun _ _ => ?_)) | split)

theorem touch_fr {μ : ℕ} {α : State} {k : ℕ} {s : State} (hyp : Fr μ α s) (within : μ ||| 524288 = μ := by decide) :
    Fr μ α (touch k s) := by
  refine Fr.via hyp ?_ within; unfold touch; try dsimp only
  repeat' (first | (with_reducible first | exact Fr.refl _ _ | assumption | refine Fr.ite ?_ ?_ | refine State.setCache_fr ?_ | refine State.setWay_fr ?_) | split)

theorem mirrorLine_fr {μ : ℕ} {α : State} {a : ℕ} {w : CWay} {s : State} (hyp : Fr μ α s) (within : μ ||| 524288 = μ := by decide) :
    Fr μ α (mirrorLine a w s) := by
  refine Fr.via hyp ?_ within; unfold mirrorLine; try dsimp only
  repeat' (first | (with_reducible first | exact Fr.refl _ _ | assumption | refine Fr.ite ?_ ?_ | refine State.setWay_fr ?_) | split)

theorem sampleFlag_fr {μ : ℕ} {α : State} {kind : ℕ} {id : ℕ} {num : ℕ} {flag : ℕ} {s : State} (hyp : Fr μ α s) (within : μ ||| 67108864 = μ := by decide) :
    Fr μ α (sampleFlag kind id num flag s) := by
  refine Fr.via hyp ?_ within; unfold sampleFlag; try dsimp only
  repeat' (first | (with_reducible first | exact Fr.refl _ _ | assumption | refine Fr.ite ?_ ?_ | refine modBuilding_fr ?_) | split)

theorem countHit_fr {μ : ℕ} {α : State} {q : Ask} {sub : ℕ} {s : State} (hyp : Fr μ α s) (within : μ ||| 67108928 = μ := by decide) :
    Fr μ α (countHit q sub s) := by
  refine Fr.via hyp ?_ within; unfold countHit; try dsimp only
  repeat' (first | (with_reducible first | exact Fr.refl _ _ | assumption | refine Fr.ite ?_ ?_ | refine countIf_fr ?_ | refine sampleFlag_fr ?_ | refine State.bump_fr ?_) | split)

theorem applyAsk_fr {μ : ℕ} {α : State} {id : ℕ} {value : ℕ} {data : Option ℕ} {s : State} (hyp : Fr μ α s) (within : μ ||| 67371328 = μ := by decide) :
    Fr μ α (applyAsk id value data s) := by
  refine Fr.via hyp ?_ within; unfold applyAsk; try dsimp only
  repeat' (first | (with_reducible first | exact Fr.refl _ _ | assumption | refine Fr.ite ?_ ?_ | refine State.modAsk_fr ?_ | refine finish_fr ?_) | split)

theorem absorbWrite_fr {μ : ℕ} {α : State} {q : Ask} {mask : ℕ} {data : ℕ} {k : ℕ} {w : CWay} {s : State} (hyp : Fr μ α s) (within : μ ||| 67895616 = μ := by decide) :
    Fr μ α (absorbWrite q mask data k w s) := by
  refine Fr.via hyp ?_ within; unfold absorbWrite; try dsimp only
  repeat' (first | (with_reducible first | exact Fr.refl _ _ | assumption | refine Fr.ite ?_ ?_ | refine State.setWay_fr ?_ | refine touch_fr ?_ | refine mirrorLine_fr ?_ | refine countHit_fr ?_ | refine applyAsk_fr ?_) | split)

theorem sendAccept_fr {μ : ℕ} {α : State} {a : Ask} {s : State} (hyp : Fr μ α s) (within : μ ||| 256 = μ := by decide) :
    Fr μ α (sendAccept a s) := by
  refine Fr.via hyp ?_ within; unfold sendAccept; try dsimp only
  repeat' (first | (with_reducible first | exact Fr.refl _ _ | assumption | refine Fr.ite ?_ ?_ | refine sendParcel_fr ?_) | split)

theorem candidate_fr {μ : ℕ} {α : State} {population : ℕ} {c : Cause} {mk : State → Building} {s : State} (hyp : Fr μ α s) (within : μ ||| 67108928 = μ := by decide) :
    Fr μ α (candidate population c mk s) := by
  refine Fr.via hyp ?_ within; unfold candidate; try dsimp only
  repeat' (first | (with_reducible first | exact Fr.refl _ _ | assumption | refine Fr.ite ?_ ?_ | refine State.setSampler_fr ?_ | refine State.setOb_fr ?_) | split)

theorem acceptAsk_fr {μ : ℕ} {α : State} {id : ℕ} {confirmed : Bool} {s : State} (hyp : Fr μ α s) (within : μ ||| 67371328 = μ := by decide) :
    Fr μ α (acceptAsk id confirmed s) := by
  refine Fr.via hyp ?_ within; unfold acceptAsk; try dsimp only
  repeat' (first | (with_reducible first | exact Fr.refl _ _ | assumption | refine Fr.ite ?_ ?_ | refine sendAccept_fr ?_ | refine countIf_fr ?_ | refine candidate_fr ?_ | refine State.peak_fr ?_ | refine State.modAsk_fr ?_) | split)

theorem startChain_fr {μ : ℕ} {α : State} {a : Ask} {later : List Ask} {s : State} (hyp : Fr μ α s) (within : μ ||| 67371328 = μ := by decide) :
    Fr μ α (startChain a later s) := by
  refine Fr.via hyp ?_ within; unfold startChain; try dsimp only
  repeat' (first | (with_reducible first | exact Fr.refl _ _ | assumption | refine Fr.ite ?_ ?_ | refine finish_fr ?_ | refine State.setPath_fr ?_ | refine forEach_fr ?_ (fun _ _ => ?_)) | split)

theorem refuseLater_fr {μ : ℕ} {α : State} {id : ℕ} {s : State} (hyp : Fr μ α s) (within : μ ||| 67371328 = μ := by decide) :
    Fr μ α (refuseLater id s) := by
  refine Fr.via hyp ?_ within; unfold refuseLater; try dsimp only
  repeat' (first | (with_reducible first | exact Fr.refl _ _ | assumption | refine Fr.ite ?_ ?_ | refine finish_fr ?_ | refine startChain_fr ?_) | split)

theorem acceptOr_fr {μ : ℕ} {α : State} {id : ℕ} {confirmed : Bool} {f : State → State} {s : State} (hyp : Fr μ α s) (hf_f : ∀  y, Fr μ y (f  y)) (within : μ ||| 67371328 = μ := by decide) :
    Fr μ α (acceptOr id confirmed f s) := by
  unfold acceptOr; try dsimp only
  repeat' (first | (with_reducible first | exact Fr.refl _ _ | assumption | refine Fr.ite ?_ ?_ | refine Fr.trans ?_ (hf_f _ ) | refine acceptAsk_fr ?_ (within := sub_of within (by decide)) | refine refuseLater_fr ?_ (within := sub_of within (by decide))) | split)

theorem acceptTaken_fr {μ : ℕ} {α : State} {hdr : Hdr} {s : State} (hyp : Fr μ α s) (within : μ ||| 262144 = μ := by decide) :
    Fr μ α (acceptTaken hdr s) := by
  refine Fr.via hyp ?_ within; unfold acceptTaken; try dsimp only
  repeat' (first | (with_reducible first | exact Fr.refl _ _ | assumption | refine Fr.ite ?_ ?_ | refine State.modAsk_fr ?_) | split)

theorem ringPlace_fr {μ : ℕ} {α : State} {e : LogEntry} {s : State} (hyp : Fr μ α s) (within : μ ||| 192 = μ := by decide) :
    Fr μ α (ringPlace e s) := by
  refine Fr.via hyp ?_ within; unfold ringPlace; try dsimp only
  repeat' (first | (with_reducible first | exact Fr.refl _ _ | assumption | refine Fr.ite ?_ ?_ | refine State.bump_fr ?_) | split | with_reducible refine Fr.set_mgmt ?_)

theorem sendNotify_fr {μ : ℕ} {α : State} {n : ℕ} {e : LogEntry} {s : State} (hyp : Fr μ α s) (within : μ ||| 16448 = μ := by decide) :
    Fr μ α (sendNotify n e s) := by
  refine Fr.via hyp ?_ within; unfold sendNotify; try dsimp only
  repeat' (first | (with_reducible first | exact Fr.refl _ _ | assumption | refine Fr.ite ?_ ?_ | refine State.send_fr ?_ | refine State.bump_fr ?_) | split)

theorem notifyQueue_fr {μ : ℕ} {α : State} {n : ℕ} {e : LogEntry} {s : State} (hyp : Fr μ α s) (within : μ ||| 16576 = μ := by decide) :
    Fr μ α (notifyQueue n e s) := by
  refine Fr.via hyp ?_ within; unfold notifyQueue; try dsimp only
  repeat' (first | (with_reducible first | exact Fr.refl _ _ | assumption | refine Fr.ite ?_ ?_ | refine State.bump_fr ?_ | refine sendNotify_fr ?_) | split | with_reducible refine Fr.set_mgmt ?_)

theorem notifyAll_fr {μ : ℕ} {α : State} {e : LogEntry} {s : State} (hyp : Fr μ α s) (within : μ ||| 16576 = μ := by decide) :
    Fr μ α (notifyAll e s) := by
  refine Fr.via hyp ?_ within; unfold notifyAll; try dsimp only
  repeat' (first | (with_reducible first | exact Fr.refl _ _ | assumption | refine Fr.ite ?_ ?_ | refine notifyQueue_fr ?_ | refine forEach_fr ?_ (fun _ _ => ?_)) | split)

theorem logEntry_fr {μ : ℕ} {α : State} {e : LogEntry} {s : State} (hyp : Fr μ α s) (within : μ ||| 20688 = μ := by decide) :
    Fr μ α (logEntry e s) := by
  refine Fr.via hyp ?_ within; unfold logEntry; try dsimp only
  repeat' (first | (with_reducible first | exact Fr.refl _ _ | assumption | refine Fr.ite ?_ ?_ | refine ringPlace_fr ?_ | refine notifyAll_fr ?_ | refine State.bump_fr ?_) | split | with_reducible refine Fr.set_pins_mgmt_nvm ?_ | with_reducible refine Fr.set_mgmt_nvm ?_ | with_reducible refine Fr.set_pins_mgmt ?_ | with_reducible refine Fr.set_pins ?_ | with_reducible refine Fr.set_mgmt ?_)

theorem logEvent_fr {μ : ℕ} {α : State} {e : Event} {s : State} (hyp : Fr μ α s) (within : μ ||| 20688 = μ := by decide) :
    Fr μ α (logEvent e s) := by
  refine Fr.via hyp ?_ within; unfold logEvent; try dsimp only
  repeat' (first | (with_reducible first | exact Fr.refl _ _ | assumption | refine Fr.ite ?_ ?_ | refine logEntry_fr ?_ | refine State.bump_fr ?_) | split | with_reducible refine Fr.set_mgmt ?_)

theorem raiseEvent_fr {μ : ℕ} {α : State} {e : Event} {s : State} (hyp : Fr μ α s) (within : μ ||| 20696 = μ := by decide) :
    Fr μ α (raiseEvent e s) := by
  refine Fr.via hyp ?_ within; unfold raiseEvent; try dsimp only
  repeat' (first | (with_reducible first | exact Fr.refl _ _ | assumption | refine Fr.ite ?_ ?_ | refine logEvent_fr ?_ | refine State.bump_fr ?_) | split | with_reducible refine Fr.set_procs ?_)

theorem raiseAt_fr {μ : ℕ} {α : State} {code : ℕ} {inst : ℕ} {detail : ℕ} {secure : Bool} {s : State} (hyp : Fr μ α s) (within : μ ||| 20696 = μ := by decide) :
    Fr μ α (raiseAt code inst detail secure s) := by
  refine Fr.via hyp ?_ within; unfold raiseAt; try dsimp only
  repeat' (first | (with_reducible first | exact Fr.refl _ _ | assumption | refine Fr.ite ?_ ?_ | refine raiseEvent_fr ?_) | split)

theorem countAccess_fr {μ : ℕ} {α : State} {status : ℕ} {a : ℕ} {s : State} (hyp : Fr μ α s) (within : μ ||| 20696 = μ := by decide) :
    Fr μ α (countAccess status a s) := by
  refine Fr.via hyp ?_ within; unfold countAccess; try dsimp only
  repeat' (first | (with_reducible first | exact Fr.refl _ _ | assumption | refine Fr.ite ?_ ?_ | refine State.bump_fr ?_ | refine State.setOb_fr ?_ | refine raiseAt_fr ?_) | split)

theorem accessCheck_fr {μ : ℕ} {α : State} {op : AccessOp} {world : Bool} {ctx : ℕ} {core : Option CoreId} {a : ℕ} {s : State} (hyp : Fr μ α s) (within : μ ||| 20696 = μ := by decide) :
    Fr μ α (accessCheck op world ctx core a s).2 := by
  refine Fr.via hyp ?_ within; unfold accessCheck; try dsimp only
  repeat' (first | (with_reducible first | exact Fr.refl _ _ | assumption | refine Fr.ite ?_ ?_ | refine countAccess_fr ?_) | split)

theorem endGrace_fr {μ : ℕ} {α : State} {st : ℕ} {s : State} (hyp : Fr μ α s) (within : μ ||| 4194368 = μ := by decide) :
    Fr μ α (endGrace st s) := by
  refine Fr.via hyp ?_ within; unfold endGrace; try dsimp only
  repeat' (first | (with_reducible first | exact Fr.refl _ _ | assumption | refine Fr.ite ?_ ?_ | refine State.setHeat_fr ?_ | refine State.setOb_fr ?_) | split)

theorem raise_fr {μ : ℕ} {α : State} {code : ℕ} {inst : ℕ} {detail : ℕ} {s : State} (hyp : Fr μ α s) (within : μ ||| 20696 = μ := by decide) :
    Fr μ α (raise code inst detail s) := by
  refine Fr.via hyp ?_ within; unfold raise; try dsimp only
  repeat' (first | (with_reducible first | exact Fr.refl _ _ | assumption | refine Fr.ite ?_ ?_ | refine raiseEvent_fr ?_) | split)

theorem raiseNode_fr {μ : ℕ} {α : State} {code : ℕ} {detail : ℕ} {s : State} (hyp : Fr μ α s) (within : μ ||| 20696 = μ := by decide) :
    Fr μ α (raiseNode code detail s) := by
  refine Fr.via hyp ?_ within; unfold raiseNode; try dsimp only
  repeat' (first | (with_reducible first | exact Fr.refl _ _ | assumption | refine Fr.ite ?_ ?_ | refine raise_fr ?_) | split)

theorem startDerate_fr {μ : ℕ} {α : State} {b : ℕ} {s : State} (hyp : Fr μ α s) (within : μ ||| 20696 = μ := by decide) :
    Fr μ α (startDerate b s) := by
  refine Fr.via hyp ?_ within; unfold startDerate; try dsimp only
  repeat' (first | (with_reducible first | exact Fr.refl _ _ | assumption | refine Fr.ite ?_ ?_ | refine State.setOb_fr ?_ | refine raiseNode_fr ?_) | split)

theorem ackMissing_fr {μ : ℕ} {α : State} {s : State} (hyp : Fr μ α s) (within : μ ||| 4215000 = μ := by decide) :
    Fr μ α (ackMissing s) := by
  refine Fr.via hyp ?_ within; unfold ackMissing; try dsimp only
  repeat' (first | (with_reducible first | exact Fr.refl _ _ | assumption | refine Fr.ite ?_ ?_ | refine endGrace_fr ?_ | refine startDerate_fr ?_ | refine State.bumpBy_fr ?_ | refine raiseNode_fr ?_ | refine State.setHeat_fr ?_ | refine forEach_fr ?_ (fun _ _ => ?_)) | split)

theorem sendResponse_fr {μ : ℕ} {α : State} {r : Req} {a : Answer} {s : State} (hyp : Fr μ α s) (within : μ ||| 16576 = μ := by decide) :
    Fr μ α (sendResponse r a s) := by
  refine Fr.via hyp ?_ within; unfold sendResponse; try dsimp only
  repeat' (first | (with_reducible first | exact Fr.refl _ _ | assumption | refine Fr.ite ?_ ?_ | refine State.send_fr ?_ | refine State.bump_fr ?_) | split | with_reducible refine Fr.set_mgmt ?_)

theorem respond_fr {μ : ℕ} {α : State} {r : Req} {a : Answer} {s : State} (hyp : Fr μ α s) (within : μ ||| 16576 = μ := by decide) :
    Fr μ α (respond r a s) := by
  refine Fr.via hyp ?_ within; unfold respond; try dsimp only
  repeat' (first | (with_reducible first | exact Fr.refl _ _ | assumption | refine Fr.ite ?_ ?_ | refine sendResponse_fr ?_) | split | with_reducible refine Fr.set_mgmt ?_)

theorem answer_fr {μ : ℕ} {α : State} {r : Req} {status : ℕ} {detail : ℕ} {s : State} (hyp : Fr μ α s) (within : μ ||| 16576 = μ := by decide) :
    Fr μ α (answer r status detail s) := by
  refine Fr.via hyp ?_ within; unfold answer; try dsimp only
  repeat' (first | (with_reducible first | exact Fr.refl _ _ | assumption | refine Fr.ite ?_ ?_ | refine respond_fr ?_) | split)

theorem finishOrder_fr {μ : ℕ} {α : State} {w : SetWrite} {status : ℕ} {detail : ℕ} {s : State} (hyp : Fr μ α s) (within : μ ||| 16832 = μ := by decide) :
    Fr μ α (finishOrder w status detail s) := by
  refine Fr.via hyp ?_ within; unfold finishOrder; try dsimp only
  repeat' (first | (with_reducible first | exact Fr.refl _ _ | assumption | refine Fr.ite ?_ ?_ | refine sendParcel_fr ?_ | refine answer_fr ?_) | split)

theorem ackOrder_fr {μ : ℕ} {α : State} {order : ℕ} {n : ℕ} {status : ℕ} {detail : ℕ} {s : State} (hyp : Fr μ α s) (within : μ ||| 16832 = μ := by decide) :
    Fr μ α (ackOrder order n status detail s) := by
  refine Fr.via hyp ?_ within; unfold ackOrder; try dsimp only
  repeat' (first | (with_reducible first | exact Fr.refl _ _ | assumption | refine Fr.ite ?_ ?_ | refine State.setWrites_fr ?_ | refine finishOrder_fr ?_) | split)

theorem ackToggle_fr {μ : ℕ} {α : State} {s : State} (hyp : Fr μ α s) (within : μ ||| 4194384 = μ := by decide) :
    Fr μ α (ackToggle s) := by
  refine Fr.via hyp ?_ within; unfold ackToggle; try dsimp only
  repeat' (first | (with_reducible first | exact Fr.refl _ _ | assumption | refine Fr.ite ?_ ?_ | refine State.setHeat_fr ?_ | refine State.bump_fr ?_) | split | with_reducible refine Fr.set_pins ?_)

theorem addAsk_fr {μ : ℕ} {α : State} {a : Ask} {s : State} (hyp : Fr μ α s) (within : μ ||| 262144 = μ := by decide) :
    Fr μ α (addAsk a s) := by
  refine Fr.via hyp ?_ within; unfold addAsk; try dsimp only
  repeat' (first | (with_reducible first | exact Fr.refl _ _ | assumption | refine Fr.ite ?_ ?_ | refine State.setPath_fr ?_) | split)

theorem showDebt_fr {μ : ℕ} {α : State} {c : ℕ} {s : State} (hyp : Fr μ α s) (within : μ ||| 64 = μ := by decide) :
    Fr μ α (showDebt c s) := by
  refine Fr.via hyp ?_ within; unfold showDebt; try dsimp only
  repeat' (first | (with_reducible first | exact Fr.refl _ _ | assumption | refine Fr.ite ?_ ?_ | refine State.setOb_fr ?_ | refine foldl_fr ?_ (fun _ _ => ?_) | refine foldl_frS ?_ (fun _ _ => ?_) | refine foldl_frF ?_ (fun _ _ => ?_)) | split)

theorem addDebt_fr {μ : ℕ} {α : State} {c : ℕ} {banks : List ℕ} {d : ℤ} {s : State} (hyp : Fr μ α s) (within : μ ||| 262208 = μ := by decide) :
    Fr μ α (addDebt c banks d s) := by
  refine Fr.via hyp ?_ within; unfold addDebt; try dsimp only
  repeat' (first | (with_reducible first | exact Fr.refl _ _ | assumption | refine Fr.ite ?_ ?_ | refine State.modChan_fr ?_ | refine showDebt_fr ?_ | refine forEach_fr ?_ (fun _ _ => ?_)) | split)

theorem addFill_fr {μ : ℕ} {α : State} {id : ℕ} {l : Option (ℕ × ℕ)} {s : State} (hyp : Fr μ α s) (within : μ ||| 524288 = μ := by decide) :
    Fr μ α (addFill id l s) := by
  refine Fr.via hyp ?_ within; unfold addFill; try dsimp only
  repeat' (first | (with_reducible first | exact Fr.refl _ _ | assumption | refine Fr.ite ?_ ?_ | refine State.setCache_fr ?_) | split)

theorem stopWindow_fr {μ : ℕ} {α : State} {r : ℕ} {s : State} (hyp : Fr μ α s) (within : μ ||| 262144 = μ := by decide) :
    Fr μ α (stopWindow r s) := by
  refine Fr.via hyp ?_ within; unfold stopWindow; try dsimp only
  repeat' (first | (with_reducible first | exact Fr.refl _ _ | assumption | refine Fr.ite ?_ ?_ | refine State.setRegWindow_fr ?_) | split)

theorem setBudgets_fr {μ : ℕ} {α : State} {bs : List Budget} {s : State} (hyp : Fr μ α s) (within : μ ||| 262208 = μ := by decide) :
    Fr μ α (setBudgets bs s) := by
  refine Fr.via hyp ?_ within; unfold setBudgets; try dsimp only
  repeat' (first | (with_reducible first | exact Fr.refl _ _ | assumption | refine Fr.ite ?_ ?_ | refine State.setOb_fr ?_ | refine stopWindow_fr ?_ | refine forEach_fr ?_ (fun _ _ => ?_)) | split)

theorem setEngines_fr {μ : ℕ} {α : State} {s : State} (hyp : Fr μ α s) (within : μ ||| 64 = μ := by decide) :
    Fr μ α (setEngines s) := by
  refine Fr.via hyp ?_ within; unfold setEngines; try dsimp only
  repeat' (first | (with_reducible first | exact Fr.refl _ _ | assumption | refine Fr.ite ?_ ?_ | refine State.setOb_fr ?_ | refine forEach_fr ?_ (fun _ _ => ?_)) | split)

theorem startStreams_fr {μ : ℕ} {α : State} {p : Plan} {s : State} (hyp : Fr μ α s) (within : μ ||| 147456 = μ := by decide) :
    Fr μ α (startStreams p s) := by
  refine Fr.via hyp ?_ within; unfold startStreams; try dsimp only
  repeat' (first | (with_reducible first | exact Fr.refl _ _ | assumption | refine Fr.ite ?_ ?_ | refine State.send_fr ?_ | refine State.setFeeds_fr ?_ | refine forEach_fr ?_ (fun _ _ => ?_)) | split)

theorem joinEngines_fr {μ : ℕ} {α : State} {f : ℕ} {s : State} (hyp : Fr μ α s) (within : μ ||| 151768 = μ := by decide) :
    Fr μ α (joinEngines f s) := by
  refine Fr.via hyp ?_ within; unfold joinEngines; try dsimp only
  repeat' (first | (with_reducible first | exact Fr.refl _ _ | assumption | refine Fr.ite ?_ ?_ | refine State.setOb_fr ?_ | refine raise_fr ?_ | refine State.setFeeds_fr ?_ | refine forEach_fr ?_ (fun _ _ => ?_)) | split)

theorem dropEscapes_fr {μ : ℕ} {α : State} {t : Stream} {s : State} (hyp : Fr μ α s) (within : μ ||| 131072 = μ := by decide) :
    Fr μ α (dropEscapes t s) := by
  refine Fr.via hyp ?_ within; unfold dropEscapes; try dsimp only
  repeat' (first | (with_reducible first | exact Fr.refl _ _ | assumption | refine Fr.ite ?_ ?_ | refine State.setFeeds_fr ?_ | refine forEach_fr ?_ (fun _ _ => ?_)) | split)

theorem retireStreams_fr {μ : ℕ} {α : State} {s : State} (hyp : Fr μ α s) (within : μ ||| 68026368 = μ := by decide) :
    Fr μ α (retireStreams s) := by
  refine Fr.via hyp ?_ within; unfold retireStreams; try dsimp only
  repeat' (first | (with_reducible first | exact Fr.refl _ _ | assumption | refine Fr.ite ?_ ?_ | refine abandonReads_fr ?_ | refine State.setFeeds_fr ?_ | refine dropEscapes_fr ?_ | refine forEach_fr ?_ (fun _ _ => ?_)) | split | with_reducible refine Fr.set_cache ?_)

theorem clearFences_fr {μ : ℕ} {α : State} {p : Option Plan} {s : State} (hyp : Fr μ α s) (within : μ ||| 65600 = μ := by decide) :
    Fr μ α (clearFences p s) := by
  refine Fr.via hyp ?_ within; unfold clearFences; try dsimp only
  repeat' (first | (with_reducible first | exact Fr.refl _ _ | assumption | refine Fr.ite ?_ ?_ | refine State.setPlans_fr ?_ | refine State.setOb_fr ?_ | refine foldl_fr ?_ (fun _ _ => ?_) | refine foldl_frS ?_ (fun _ _ => ?_) | refine foldl_frF ?_ (fun _ _ => ?_)) | split)

theorem switchPlan_fr {μ : ℕ} {α : State} {f : ℕ} {s : State} (hyp : Fr μ α s) (within : μ ||| 68112600 = μ := by decide) :
    Fr μ α (switchPlan f s) := by
  refine Fr.via hyp ?_ within; unfold switchPlan; try dsimp only
  repeat' (first | (with_reducible first | exact Fr.refl _ _ | assumption | refine Fr.ite ?_ ?_ | refine State.modChan_fr ?_ | refine State.setOb_fr ?_ | refine setBudgets_fr ?_ | refine setEngines_fr ?_ | refine startStreams_fr ?_ | refine State.setPlans_fr ?_ | refine joinEngines_fr ?_ | refine retireStreams_fr ?_ | refine clearFences_fr ?_ | refine forEach_fr ?_ (fun _ _ => ?_)) | split)

theorem adoptPlan_fr {μ : ℕ} {α : State} {f : ℕ} {s : State} (hyp : Fr μ α s) (within : μ ||| 68112600 = μ := by decide) :
    Fr μ α (adoptPlan f s) := by
  refine Fr.via hyp ?_ within; unfold adoptPlan; try dsimp only
  repeat' (first | (with_reducible first | exact Fr.refl _ _ | assumption | refine Fr.ite ?_ ?_ | refine State.setPlans_fr ?_ | refine State.setOb_fr ?_ | refine switchPlan_fr ?_) | split)

theorem advance_fr {μ : ℕ} {α : State} {n : ℕ} {t : Stream} {s : State} (hyp : Fr μ α s) (within : μ ||| 131072 = μ := by decide) :
    Fr μ α (advance n t s) := by
  refine Fr.via hyp ?_ within; unfold advance; try dsimp only
  repeat' (first | (with_reducible first | exact Fr.refl _ _ | assumption | refine Fr.ite ?_ ?_ | refine State.modStream_fr ?_) | split)

theorem pushWrite_fr {μ : ℕ} {α : State} {who : Writer} {a : ℕ} {mask : ℕ} {data : ℕ} {info : ℕ} {region : Option (ℕ × ℕ)} {s : State} (hyp : Fr μ α s) (within : μ ||| 262208 = μ := by decide) :
    Fr μ α (pushWrite who a mask data info region s) := by
  refine Fr.via hyp ?_ within; unfold pushWrite; try dsimp only
  repeat' (first | (with_reducible first | exact Fr.refl _ _ | assumption | refine Fr.ite ?_ ?_ | refine State.bump_fr ?_ | refine syncDepth_fr ?_ | refine State.modChan_fr ?_ | refine State.takeOrder_fr ?_) | split)

theorem advanceLedger_fr {μ : ℕ} {α : State} {b : ℕ} {v : ℕ} {s : State} (hyp : Fr μ α s) (within : μ ||| 262208 = μ := by decide) :
    Fr μ α (advanceLedger b v s) := by
  refine Fr.via hyp ?_ within; unfold advanceLedger; try dsimp only
  repeat' (first | (with_reducible first | exact Fr.refl _ _ | assumption | refine Fr.ite ?_ ?_ | refine pushWrite_fr ?_) | split)

theorem showSensor_fr {μ : ℕ} {α : State} {st : ℕ} {n : ℕ} {s : State} (hyp : Fr μ α s) (within : μ ||| 64 = μ := by decide) :
    Fr μ α (showSensor st n s) := by
  refine Fr.via hyp ?_ within; unfold showSensor; try dsimp only
  repeat' (first | (with_reducible first | exact Fr.refl _ _ | assumption | refine Fr.ite ?_ ?_ | refine State.setOb_fr ?_) | split)

theorem showStack_fr {μ : ℕ} {α : State} {st : ℕ} {s : State} (hyp : Fr μ α s) (within : μ ||| 64 = μ := by decide) :
    Fr μ α (showStack st s) := by
  refine Fr.via hyp ?_ within; unfold showStack; try dsimp only
  repeat' (first | (with_reducible first | exact Fr.refl _ _ | assumption | refine Fr.ite ?_ ?_ | refine State.setOb_fr ?_ | refine showSensor_fr ?_ | refine forEach_fr ?_ (fun _ _ => ?_)) | split)

theorem afterReadings_fr {μ : ℕ} {α : State} {st : ℕ} {s : State} (hyp : Fr μ α s) (within : μ ||| 4194368 = μ := by decide) :
    Fr μ α (afterReadings st s) := by
  refine Fr.via hyp ?_ within; unfold afterReadings; try dsimp only
  repeat' (first | (with_reducible first | exact Fr.refl _ _ | assumption | refine Fr.ite ?_ ?_ | refine State.setHeat_fr ?_ | refine showStack_fr ?_) | split)

theorem ageReads_fr {μ : ℕ} {α : State} {c : ℕ} {slot : ℕ} {s : State} (hyp : Fr μ α s) (within : μ ||| 282840 = μ := by decide) :
    Fr μ α (ageReads c slot s) := by
  refine Fr.via hyp ?_ within; unfold ageReads; try dsimp only
  repeat' (first | (with_reducible first | exact Fr.refl _ _ | assumption | refine Fr.ite ?_ ?_ | refine State.modChan_fr ?_ | refine State.bumpBy_fr ?_ | refine countIf_fr ?_ | refine State.bump_fr ?_ | refine raise_fr ?_ | refine forEach_fr ?_ (fun _ _ => ?_)) | split)

theorem setWeak_fr {μ : ℕ} {α : State} {c : ℕ} {n : ℕ} {w : Option Weak} {s : State} (hyp : Fr μ α s) (within : μ ||| 262208 = μ := by decide) :
    Fr μ α (setWeak c n w s) := by
  refine Fr.via hyp ?_ within; unfold setWeak; try dsimp only
  repeat' (first | (with_reducible first | exact Fr.refl _ _ | assumption | refine Fr.ite ?_ ?_ | refine State.setOb_fr ?_ | refine State.modChan_fr ?_) | split)

theorem ageWeak_fr {μ : ℕ} {α : State} {c : ℕ} {s : State} (hyp : Fr μ α s) (within : μ ||| 262208 = μ := by decide) :
    Fr μ α (ageWeak c s) := by
  refine Fr.via hyp ?_ within; unfold ageWeak; try dsimp only
  repeat' (first | (with_reducible first | exact Fr.refl _ _ | assumption | refine Fr.ite ?_ ?_ | refine setWeak_fr ?_ | refine forEach_fr ?_ (fun _ _ => ?_)) | split)

theorem beginTraining_fr {μ : ℕ} {α : State} {c : ℕ} {full : Bool} {s : State} (hyp : Fr μ α s) (within : μ ||| 8388672 = μ := by decide) :
    Fr μ α (beginTraining c full s) := by
  refine Fr.via hyp ?_ within; unfold beginTraining; try dsimp only
  repeat' (first | (with_reducible first | exact Fr.refl _ _ | assumption | refine Fr.ite ?_ ?_ | refine State.modTr_fr ?_ | refine State.setOb_fr ?_) | split)

theorem protoAlert_fr {μ : ℕ} {α : State} {c : ℕ} {l : ℕ} {s : State} (hyp : Fr μ α s) (within : μ ||| 576 = μ := by decide) :
    Fr μ α (protoAlert c l s) := by
  refine Fr.via hyp ?_ within; unfold protoAlert; try dsimp only
  repeat' (first | (with_reducible first | exact Fr.refl _ _ | assumption | refine Fr.ite ?_ ?_ | refine markAlert_fr ?_ | refine alertOn_fr ?_) | split)

theorem layPreLayer_fr {μ : ℕ} {α : State} {c : ℕ} {l : ℕ} {s : State} (hyp : Fr μ α s) (within : μ ||| 512 = μ := by decide) :
    Fr μ α (layPreLayer c l s) := by
  refine Fr.via hyp ?_ within; unfold layPreLayer; try dsimp only
  repeat' (first | (with_reducible first | exact Fr.refl _ _ | assumption | refine Fr.ite ?_ ?_ | refine State.setLay_fr ?_) | split)

theorem layPreab_fr {μ : ℕ} {α : State} {c : ℕ} {l : ℕ} {all : Bool} {s : State} (hyp : Fr μ α s) (within : μ ||| 576 = μ := by decide) :
    Fr μ α (layPreab c l all s) := by
  refine Fr.via hyp ?_ within; unfold layPreab; try dsimp only
  repeat' (first | (with_reducible first | exact Fr.refl _ _ | assumption | refine Fr.ite ?_ ?_ | refine protoAlert_fr ?_ | refine layPreLayer_fr ?_ | refine forEach_fr ?_ (fun _ _ => ?_)) | split)

theorem laySre_fr {μ : ℕ} {α : State} {c : ℕ} {cls : ℕ} {mask : ℕ} {s : State} (hyp : Fr μ α s) (within : μ ||| 576 = μ := by decide) :
    Fr μ α (laySre c cls mask s) := by
  refine Fr.via hyp ?_ within; unfold laySre; try dsimp only
  repeat' (first | (with_reducible first | exact Fr.refl _ _ | assumption | refine Fr.ite ?_ ?_ | refine State.setDch_fr ?_ | refine State.setLay_fr ?_ | refine markAlert_fr ?_ | refine alertOn_fr ?_ | refine forEach_fr ?_ (fun _ _ => ?_)) | split)

theorem reissue_fr {μ : ℕ} {α : State} {n : ℕ} {s : State} (hyp : Fr μ α s) (within : μ ||| 320 = μ := by decide) :
    Fr μ α (reissue n s) := by
  refine Fr.via hyp ?_ within; unfold reissue; try dsimp only
  repeat' (first | (with_reducible first | exact Fr.refl _ _ | assumption | refine Fr.ite ?_ ?_ | refine sendCompletion_fr ?_ | refine State.bump_fr ?_ | refine sendParcel_fr ?_ | refine State.setSet_fr ?_ | refine forEach_fr ?_ (fun _ _ => ?_)) | split)

theorem forwardAsk_fr {μ : ℕ} {α : State} {a : Ask} {s : State} (hyp : Fr μ α s) (within : μ ||| 67391960 = μ := by decide) :
    Fr μ α (forwardAsk a s) := by
  refine Fr.via hyp ?_ within; unfold forwardAsk; try dsimp only
  repeat' (first | (with_reducible first | exact Fr.refl _ _ | assumption | refine Fr.ite ?_ ?_ | refine addAsk_fr ?_ | refine sendParcel_fr ?_ | refine finish_fr ?_ | refine countAccess_fr ?_ | refine reissue_fr ?_) | split)

theorem sendNotice_fr {μ : ℕ} {α : State} {node : ℕ} {obj : ℕ} {v : ℕ} {s : State} (hyp : Fr μ α s) (within : μ ||| 256 = μ := by decide) :
    Fr μ α (sendNotice node obj v s) := by
  refine Fr.via hyp ?_ within; unfold sendNotice; try dsimp only
  repeat' (first | (with_reducible first | exact Fr.refl _ _ | assumption | refine Fr.ite ?_ ?_ | refine sendParcel_fr ?_) | split)

theorem tellWatcher_fr {μ : ℕ} {α : State} {o : ℕ} {v : ℕ} {w : ℕ} {s : State} (hyp : Fr μ α s) (within : μ ||| 131328 = μ := by decide) :
    Fr μ α (tellWatcher o v w s) := by
  refine Fr.via hyp ?_ within; unfold tellWatcher; try dsimp only
  repeat' (first | (with_reducible first | exact Fr.refl _ _ | assumption | refine Fr.ite ?_ ?_ | refine sendNotice_fr ?_) | split | with_reducible refine Fr.set_feeds ?_)

theorem putSync_fr {μ : ℕ} {α : State} {o : ℕ} {v : ℕ} {s : State} (hyp : Fr μ α s) (within : μ ||| 70123840 = μ := by decide) :
    Fr μ α (putSync o v s) := by
  refine Fr.via hyp ?_ within; unfold putSync; try dsimp only
  repeat' (first | (with_reducible first | exact Fr.refl _ _ | assumption | refine Fr.ite ?_ ?_ | refine tellWatcher_fr ?_ | refine finish_fr ?_ | refine forEach_fr ?_ (fun _ _ => ?_)) | split | with_reducible refine Fr.set_cache_syncs ?_ | with_reducible refine Fr.set_cache ?_ | with_reducible refine Fr.set_syncs ?_)

theorem bumpSync_fr {μ : ℕ} {α : State} {o : ℕ} {n : ℕ} {broken : Bool} {s : State} (hyp : Fr μ α s) (within : μ ||| 70144472 = μ := by decide) :
    Fr μ α (bumpSync o n broken s) := by
  refine Fr.via hyp ?_ within; unfold bumpSync; try dsimp only
  repeat' (first | (with_reducible first | exact Fr.refl _ _ | assumption | refine Fr.ite ?_ ?_ | refine putSync_fr ?_ | refine raiseNode_fr ?_) | split)

theorem signalObject_fr {μ : ℕ} {α : State} {unit : ℕ} {obj : ℕ} {addend : ℕ} {ctx : ℕ} {world : Bool} {broken : Bool} {s : State} (hyp : Fr μ α s) (within : μ ||| 70144472 = μ := by decide) :
    Fr μ α (signalObject unit obj addend ctx world broken s) := by
  refine Fr.via hyp ?_ within; unfold signalObject; try dsimp only
  repeat' (first | (with_reducible first | exact Fr.refl _ _ | assumption | refine Fr.ite ?_ ?_ | refine forwardAsk_fr ?_ | refine bumpSync_fr ?_) | split)

theorem redSignal_fr {μ : ℕ} {α : State} {r : Red} {broken : Bool} {s : State} (hyp : Fr μ α s) (within : μ ||| 70144472 = μ := by decide) :
    Fr μ α (redSignal r broken s) := by
  refine Fr.via hyp ?_ within; unfold redSignal; try dsimp only
  repeat' (first | (with_reducible first | exact Fr.refl _ _ | assumption | refine Fr.ite ?_ ?_ | refine signalObject_fr ?_) | split)

theorem closeRecord_fr {μ : ℕ} {α : State} {r : Red} {broken : Bool} {s : State} (hyp : Fr μ α s) (within : μ ||| 524288 = μ := by decide) :
    Fr μ α (closeRecord r broken s) := by
  refine Fr.via hyp ?_ within; unfold closeRecord; try dsimp only
  repeat' (first | (with_reducible first | exact Fr.refl _ _ | assumption | refine Fr.ite ?_ ?_ | refine State.setCache_fr ?_) | split)

theorem syncDirty_fr {μ : ℕ} {α : State} {a : ℕ} {s : State} (hyp : Fr μ α s) (within : μ ||| 64 = μ := by decide) :
    Fr μ α (syncDirty a s) := by
  refine Fr.via hyp ?_ within; unfold syncDirty; try dsimp only
  repeat' (first | (with_reducible first | exact Fr.refl _ _ | assumption | refine Fr.ite ?_ ?_ | refine State.setOb_fr ?_) | split)

theorem dropLine_fr {μ : ℕ} {α : State} {a : ℕ} {s : State} (hyp : Fr μ α s) (within : μ ||| 524352 = μ := by decide) :
    Fr μ α (dropLine a s) := by
  refine Fr.via hyp ?_ within; unfold dropLine; try dsimp only
  repeat' (first | (with_reducible first | exact Fr.refl _ _ | assumption | refine Fr.ite ?_ ?_ | refine syncDirty_fr ?_ | refine State.setWay_fr ?_) | split)

theorem offerInternal_fr {μ : ℕ} {α : State} {code : ℕ} {cls : ℕ} {ctx : ℕ} {world : Bool} {a : ℕ} {op : Op} {why : Purpose} {s : State} (hyp : Fr μ α s) (within : μ ||| 67391960 = μ := by decide) :
    Fr μ α (offerInternal code cls ctx world a op why s) := by
  refine Fr.via hyp ?_ within; unfold offerInternal; try dsimp only
  repeat' (first | (with_reducible first | exact Fr.refl _ _ | assumption | refine Fr.ite ?_ ?_ | refine addAsk_fr ?_ | refine finish_fr ?_ | refine countAccess_fr ?_ | refine forwardAsk_fr ?_) | split)

theorem poisonWrite_fr {μ : ℕ} {α : State} {a : ℕ} {s : State} (hyp : Fr μ α s) (within : μ ||| 67391960 = μ := by decide) :
    Fr μ α (poisonWrite a s) := by
  refine Fr.via hyp ?_ within; unfold poisonWrite; try dsimp only
  repeat' (first | (with_reducible first | exact Fr.refl _ _ | assumption | refine Fr.ite ?_ ?_ | refine offerInternal_fr ?_) | split)

theorem breakRed_fr {μ : ℕ} {α : State} {r : Red} {s : State} (hyp : Fr μ α s) (within : μ ||| 70144472 = μ := by decide) :
    Fr μ α (breakRed r s) := by
  refine Fr.via hyp ?_ within; unfold breakRed; try dsimp only
  repeat' (first | (with_reducible first | exact Fr.refl _ _ | assumption | refine Fr.ite ?_ ?_ | refine State.bump_fr ?_ | refine raiseAt_fr ?_ | refine redSignal_fr ?_ | refine closeRecord_fr ?_ | refine finish_fr ?_ | refine dropLine_fr ?_ | refine poisonWrite_fr ?_ | refine State.setReds_fr ?_ | refine forEach_fr ?_ (fun _ _ => ?_)) | split)

theorem fenceReds_fr {μ : ℕ} {α : State} {ctx : ℕ} {s : State} (hyp : Fr μ α s) (within : μ ||| 70144472 = μ := by decide) :
    Fr μ α (fenceReds ctx s) := by
  refine Fr.via hyp ?_ within; unfold fenceReds; try dsimp only
  repeat' (first | (with_reducible first | exact Fr.refl _ _ | assumption | refine Fr.ite ?_ ?_ | refine breakRed_fr ?_ | refine finish_fr ?_ | refine forEach_fr ?_ (fun _ _ => ?_)) | split)

theorem raiseCtx_fr {μ : ℕ} {α : State} {code : ℕ} {inst : ℕ} {ctx : ℕ} {detail : ℕ} {s : State} (hyp : Fr μ α s) (within : μ ||| 20696 = μ := by decide) :
    Fr μ α (raiseCtx code inst ctx detail s) := by
  refine Fr.via hyp ?_ within; unfold raiseCtx; try dsimp only
  repeat' (first | (with_reducible first | exact Fr.refl _ _ | assumption | refine Fr.ite ?_ ?_ | refine raiseEvent_fr ?_) | split)

theorem fenceContext_fr {μ : ℕ} {α : State} {cause : ℕ} {ctx : ℕ} {s : State} (hyp : Fr μ α s) (within : μ ||| 70144472 = μ := by decide) :
    Fr μ α (fenceContext cause ctx s) := by
  refine Fr.via hyp ?_ within; unfold fenceContext; try dsimp only
  repeat' (first | (with_reducible first | exact Fr.refl _ _ | assumption | refine Fr.ite ?_ ?_ | refine fenceReds_fr ?_ | refine abortAsks_fr ?_ | refine State.setFeeds_fr ?_ | refine dropEscapes_fr ?_ | refine State.send_fr ?_ | refine raiseCtx_fr ?_ | refine State.setOb_fr ?_ | refine State.bump_fr ?_ | refine forEach_fr ?_ (fun _ _ => ?_)) | split | with_reducible refine Fr.set_procs_cache ?_ | with_reducible refine Fr.set_cache ?_ | with_reducible refine Fr.set_procs ?_)

theorem fenceStreams_fr {μ : ℕ} {α : State} {cause : ℕ} {want : ℕ → Stream → Bool} {s : State} (hyp : Fr μ α s) (within : μ ||| 70144472 = μ := by decide) :
    Fr μ α (fenceStreams cause want s) := by
  refine Fr.via hyp ?_ within; unfold fenceStreams; try dsimp only
  repeat' (first | (with_reducible first | exact Fr.refl _ _ | assumption | refine Fr.ite ?_ ?_ | refine fenceContext_fr ?_ | refine forEach_fr ?_ (fun _ _ => ?_)) | split)

theorem feedRefused_fr {μ : ℕ} {α : State} {n : ℕ} {num : ℕ} {s : State} (hyp : Fr μ α s) (within : μ ||| 70144472 = μ := by decide) :
    Fr μ α (feedRefused n num s) := by
  refine Fr.via hyp ?_ within; unfold feedRefused; try dsimp only
  repeat' (first | (with_reducible first | exact Fr.refl _ _ | assumption | refine Fr.ite ?_ ?_ | refine fenceContext_fr ?_) | split)

theorem loseContent_fr {μ : ℕ} {α : State} {c : ℕ} {mask : ℕ} {s : State} (hyp : Fr μ α s) (within : μ ||| 512 = μ := by decide) :
    Fr μ α (loseContent c mask s) := by
  refine Fr.via hyp ?_ within; unfold loseContent; try dsimp only
  repeat' (first | (with_reducible first | exact Fr.refl _ _ | assumption | refine Fr.ite ?_ ?_ | refine forEach_fr ?_ (fun _ _ => ?_)) | split | with_reducible refine Fr.set_dram ?_)

theorem failChannel_fr {μ : ℕ} {α : State} {c : ℕ} {s : State} (hyp : Fr μ α s) (within : μ ||| 70144984 = μ := by decide) :
    Fr μ α (failChannel c s) := by
  refine Fr.via hyp ?_ within; unfold failChannel; try dsimp only
  repeat' (first | (with_reducible first | exact Fr.refl _ _ | assumption | refine Fr.ite ?_ ?_ | refine fenceStreams_fr ?_ | refine syncDepth_fr ?_ | refine State.modAsk_fr ?_ | refine retire_fr ?_ | refine finish_fr ?_ | refine State.setPath_fr ?_ | refine feedRefused_fr ?_ | refine State.setChan_fr ?_ | refine loseContent_fr ?_ | refine State.setChanState_fr ?_ | refine raise_fr ?_ | refine forEach_fr ?_ (fun _ _ => ?_)) | split)

theorem channelFault_fr {μ : ℕ} {α : State} {c : ℕ} {placed : Bool} {s : State} (hyp : Fr μ α s) (within : μ ||| 78533592 = μ := by decide) :
    Fr μ α (channelFault c placed s) := by
  refine Fr.via hyp ?_ within; unfold channelFault; try dsimp only
  repeat' (first | (with_reducible first | exact Fr.refl _ _ | assumption | refine Fr.ite ?_ ?_ | refine State.setChanState_fr ?_ | refine beginTraining_fr ?_ | refine State.modChan_fr ?_ | refine abandonRound_fr ?_ | refine layPreab_fr ?_ | refine laySre_fr ?_ | refine raise_fr ?_ | refine fenceStreams_fr ?_ | refine failChannel_fr ?_) | split)

theorem markUnretained_fr {μ : ℕ} {α : State} {c : ℕ} {s : State} (hyp : Fr μ α s) (within : μ ||| 68 = μ := by decide) :
    Fr μ α (markUnretained c s) := by
  refine Fr.via hyp ?_ within; unfold markUnretained; try dsimp only
  repeat' (first | (with_reducible first | exact Fr.refl _ _ | assumption | refine Fr.ite ?_ ?_ | refine State.setOb_fr ?_) | split | with_reducible refine Fr.set_power ?_)

theorem drainChannel_fr {μ : ℕ} {α : State} {c : ℕ} {cls : ℕ} {mask : ℕ} {s : State} (hyp : Fr μ α s) (within : μ ||| 262144 = μ := by decide) :
    Fr μ α (drainChannel c cls mask s) := by
  refine Fr.via hyp ?_ within; unfold drainChannel; try dsimp only
  repeat' (first | (with_reducible first | exact Fr.refl _ _ | assumption | refine Fr.ite ?_ ?_ | refine State.modChan_fr ?_) | split)

theorem dropUnknown_fr {μ : ℕ} {α : State} {s : State} (hyp : Fr μ α s) (within : μ ||| 262208 = μ := by decide) :
    Fr μ α (dropUnknown s) := by
  refine Fr.via hyp ?_ within; unfold dropUnknown; try dsimp only
  repeat' (first | (with_reducible first | exact Fr.refl _ _ | assumption | refine Fr.ite ?_ ?_ | refine State.modChan_fr ?_ | refine State.bumpBy_fr ?_ | refine forEach_fr ?_ (fun _ _ => ?_)) | split)

theorem journalHalt_fr {μ : ℕ} {α : State} {s : State} (hyp : Fr μ α s) (within : μ ||| 67371328 = μ := by decide) :
    Fr μ α (journalHalt s) := by
  refine Fr.via hyp ?_ within; unfold journalHalt; try dsimp only
  repeat' (first | (with_reducible first | exact Fr.refl _ _ | assumption | refine Fr.ite ?_ ?_ | refine finish_fr ?_ | refine State.setAsks_fr ?_ | refine dropUnknown_fr ?_ | refine State.bumpBy_fr ?_ | refine forEach_fr ?_ (fun _ _ => ?_)) | split)

theorem stopPorts_fr {μ : ℕ} {α : State} {s : State} (hyp : Fr μ α s) (within : μ ||| 16640 = μ := by decide) :
    Fr μ α (stopPorts s) := by
  refine Fr.via hyp ?_ within; unfold stopPorts; try dsimp only
  repeat' (first | (with_reducible first | exact Fr.refl _ _ | assumption | refine Fr.ite ?_ ?_ | refine State.setPort_fr ?_ | refine State.send_fr ?_ | refine forEach_fr ?_ (fun _ _ => ?_)) | split)

theorem haltChannels_fr {μ : ℕ} {α : State} {s : State} (hyp : Fr μ α s) (within : μ ||| 67387716 = μ := by decide) :
    Fr μ α (haltChannels s) := by
  refine Fr.via hyp ?_ within; unfold haltChannels; try dsimp only
  repeat' (first | (with_reducible first | exact Fr.refl _ _ | assumption | refine Fr.ite ?_ ?_ | refine markUnretained_fr ?_ | refine drainChannel_fr ?_ | refine journalHalt_fr ?_ | refine stopPorts_fr ?_ | refine forEach_fr ?_ (fun _ _ => ?_)) | split | with_reducible refine Fr.set_power ?_)

theorem startWriteBack_fr {μ : ℕ} {α : State} {line : ℕ} {s : State} (hyp : Fr μ α s) (within : μ ||| 67916248 = μ := by decide) :
    Fr μ α (startWriteBack line s) := by
  refine Fr.via hyp ?_ within; unfold startWriteBack; try dsimp only
  repeat' (first | (with_reducible first | exact Fr.refl _ _ | assumption | refine Fr.ite ?_ ?_ | refine offerInternal_fr ?_ | refine State.setWay_fr ?_ | refine count_fr ?_) | split)

theorem writeBackAll_fr {μ : ℕ} {α : State} {f : CWay → Bool} {s : State} (hyp : Fr μ α s) (within : μ ||| 67916248 = μ := by decide) :
    Fr μ α (writeBackAll f s) := by
  refine Fr.via hyp ?_ within; unfold writeBackAll; try dsimp only
  repeat' (first | (with_reducible first | exact Fr.refl _ _ | assumption | refine Fr.ite ?_ ?_ | refine startWriteBack_fr ?_ | refine forEach_fr ?_ (fun _ _ => ?_)) | split)

theorem stopProcs_fr {μ : ℕ} {α : State} {s : State} (hyp : Fr μ α s) (within : μ ||| 8 = μ := by decide) :
    Fr μ α (stopProcs s) := by
  refine Fr.via hyp ?_ within; unfold stopProcs; try dsimp only
  repeat' (first | (with_reducible first | exact Fr.refl _ _ | assumption | refine Fr.ite ?_ ?_) | split | with_reducible refine Fr.set_procs ?_)

theorem breakContinuity_fr {μ : ℕ} {α : State} {cause : ℕ} {s : State} (hyp : Fr μ α s) (within : μ ||| 86232 = μ := by decide) :
    Fr μ α (breakContinuity cause s) := by
  refine Fr.via hyp ?_ within; unfold breakContinuity; try dsimp only
  repeat' (first | (with_reducible first | exact Fr.refl _ _ | assumption | refine Fr.ite ?_ ?_ | refine State.setPlans_fr ?_ | refine raiseNode_fr ?_) | split)

theorem closeSegments_fr {μ : ℕ} {α : State} {s : State} (hyp : Fr μ α s) (within : μ ||| 128 = μ := by decide) :
    Fr μ α (closeSegments s) := by
  refine Fr.via hyp ?_ within; unfold closeSegments; try dsimp only
  repeat' (first | (with_reducible first | exact Fr.refl _ _ | assumption | refine Fr.ite ?_ ?_ | refine State.setSegments_fr ?_) | split)

theorem setNode_fr {μ : ℕ} {α : State} {n : NodeState} {s : State} (hyp : Fr μ α s) (within : μ ||| 20700 = μ := by decide) :
    Fr μ α (setNode n s) := by
  refine Fr.via hyp ?_ within; unfold setNode; try dsimp only
  repeat' (first | (with_reducible first | exact Fr.refl _ _ | assumption | refine Fr.ite ?_ ?_ | refine State.setOb_fr ?_ | refine closeSegments_fr ?_ | refine raiseNode_fr ?_) | split | with_reducible refine Fr.set_power ?_)

theorem enterHalted_fr {μ : ℕ} {α : State} {code : ℕ} {back : Bool} {s : State} (hyp : Fr μ α s) (within : μ ||| 67981788 = μ := by decide) :
    Fr μ α (enterHalted code back s) := by
  refine Fr.via hyp ?_ within; unfold enterHalted; try dsimp only
  repeat' (first | (with_reducible first | exact Fr.refl _ _ | assumption | refine Fr.ite ?_ ?_ | refine haltChannels_fr ?_ | refine writeBackAll_fr ?_ | refine State.setOb_fr ?_ | refine stopProcs_fr ?_ | refine raiseNode_fr ?_ | refine breakContinuity_fr ?_ | refine setNode_fr ?_) | split | with_reducible refine Fr.set_power ?_)

theorem singleFault_fr {μ : ℕ} {α : State} {code : ℕ} {f : State → State} {s : State} (hyp : Fr μ α s) (hf_f : ∀  y, Fr μ y (f  y)) (within : μ ||| 67981788 = μ := by decide) :
    Fr μ α (singleFault code f s) := by
  unfold singleFault; try dsimp only
  repeat' (first | (with_reducible first | exact Fr.refl _ _ | assumption | refine Fr.ite ?_ ?_ | refine Fr.trans ?_ (hf_f _ ) | refine enterHalted_fr ?_ (within := sub_of within (by decide)) | refine State.setOb_fr ?_ (within := sub_of within (by decide))) | split)

theorem reissueRow_fr {μ : ℕ} {α : State} {c : ℕ} {cmd : SdiCmd} {s : State} (hyp : Fr μ α s) (within : μ ||| 262144 = μ := by decide) :
    Fr μ α (reissueRow c cmd s) := by
  refine Fr.via hyp ?_ within; unfold reissueRow; try dsimp only
  repeat' (first | (with_reducible first | exact Fr.refl _ _ | assumption | refine Fr.ite ?_ ?_ | refine State.modChan_fr ?_) | split)

theorem failFlight_fr {μ : ℕ} {α : State} {c : ℕ} {order : ℕ} {s : State} (hyp : Fr μ α s) (within : μ ||| 262144 = μ := by decide) :
    Fr μ α (failFlight c order s) := by
  refine Fr.via hyp ?_ within; unfold failFlight; try dsimp only
  repeat' (first | (with_reducible first | exact Fr.refl _ _ | assumption | refine Fr.ite ?_ ?_ | refine State.modChan_fr ?_) | split)

theorem redoTemp_fr {μ : ℕ} {α : State} {c : ℕ} {layer : ℕ} {order : ℕ} {s : State} (hyp : Fr μ α s) (within : μ ||| 4456448 = μ := by decide) :
    Fr μ α (redoTemp c layer order s) := by
  refine Fr.via hyp ?_ within; unfold redoTemp; try dsimp only
  repeat' (first | (with_reducible first | exact Fr.refl _ _ | assumption | refine Fr.ite ?_ ?_ | refine State.setHeat_fr ?_ | refine State.modChan_fr ?_) | split)

theorem resyncBank_fr {μ : ℕ} {α : State} {c : ℕ} {l : ℕ} {b : ℕ} {s : State} (hyp : Fr μ α s) (within : μ ||| 262144 = μ := by decide) :
    Fr μ α (resyncBank c l b s) := by
  refine Fr.via hyp ?_ within; unfold resyncBank; try dsimp only
  repeat' (first | (with_reducible first | exact Fr.refl _ _ | assumption | refine Fr.ite ?_ ?_ | refine State.modChan_fr ?_) | split)

theorem reissueWrite_fr {μ : ℕ} {α : State} {c : ℕ} {order : ℕ} {s : State} (hyp : Fr μ α s) (within : μ ||| 67371072 = μ := by decide) :
    Fr μ α (reissueWrite c order s).2 := by
  refine Fr.via hyp ?_ within; unfold reissueWrite; try dsimp only
  repeat' (first | (with_reducible first | exact Fr.refl _ _ | assumption | refine Fr.ite ?_ ?_ | refine syncDepth_fr ?_ | refine State.modChan_fr ?_ | refine sampleFlag_fr ?_ | refine State.bump_fr ?_ | refine forEach_fr ?_ (fun _ _ => ?_)) | split)

theorem alerted_fr {μ : ℕ} {α : State} {c : ℕ} {i : Issued} {s : State} (hyp : Fr μ α s) (within : μ ||| 82793436 = μ := by decide) :
    Fr μ α (alerted c i s) := by
  refine Fr.via hyp ?_ within; unfold alerted; try dsimp only
  repeat' (first | (with_reducible first | exact Fr.refl _ _ | assumption | refine Fr.ite ?_ ?_ | refine channelFault_fr ?_ | refine singleFault_fr ?_ (fun _ => ?_) | refine reissueRow_fr ?_ | refine State.setChanState_fr ?_ | refine State.modChan_fr ?_ | refine failFlight_fr ?_ | refine redoTemp_fr ?_ | refine addDebt_fr ?_ | refine resyncBank_fr ?_ | refine reissueWrite_fr ?_ | refine fr_snd (by assumption) (reissueWrite_fr ?_) | refine forEach_fr ?_ (fun _ _ => ?_)) | split)

theorem allocSlot_fr {μ : ℕ} {α : State} {r : ℕ} {g : Region} {s : State} (hyp : Fr μ α s) (within : μ ||| 151768 = μ := by decide) :
    Fr μ α (allocSlot r g s).2 := by
  refine Fr.via hyp ?_ within; unfold allocSlot; try dsimp only
  repeat' (first | (with_reducible first | exact Fr.refl _ _ | assumption | refine Fr.ite ?_ ?_ | refine raiseNode_fr ?_ | refine State.setPool_fr ?_) | split)

theorem installAt_fr {μ : ℕ} {α : State} {k : ℕ} {a : ℕ} {data : ℕ} {info : ℕ} {s : State} (hyp : Fr μ α s) (within : μ ||| 524288 = μ := by decide) :
    Fr μ α (installAt k a data info s) := by
  refine Fr.via hyp ?_ within; unfold installAt; try dsimp only
  repeat' (first | (with_reducible first | exact Fr.refl _ _ | assumption | refine Fr.ite ?_ ?_ | refine State.setWay_fr ?_ | refine touch_fr ?_) | split)

theorem tryInstall_fr {μ : ℕ} {α : State} {a : ℕ} {mask : ℕ} {data : ℕ} {info : ℕ} {s : State} (hyp : Fr μ α s) (within : μ ||| 67916248 = μ := by decide) :
    Fr μ α (tryInstall a mask data info s).2 := by
  refine Fr.via hyp ?_ within; unfold tryInstall; try dsimp only
  repeat' (first | (with_reducible first | exact Fr.refl _ _ | assumption | refine Fr.ite ?_ ?_ | refine startWriteBack_fr ?_ | refine installAt_fr ?_ | refine State.setWay_fr ?_) | split)

theorem allocWrite_fr {μ : ℕ} {α : State} {a : ℕ} {mask : ℕ} {data : ℕ} {info : ℕ} {s : State} (hyp : Fr μ α s) (within : μ ||| 67916248 = μ := by decide) :
    Fr μ α (allocWrite a mask data info s) := by
  refine Fr.via hyp ?_ within; unfold allocWrite; try dsimp only
  repeat' (first | (with_reducible first | exact Fr.refl _ _ | assumption | refine Fr.ite ?_ ?_ | refine State.setCache_fr ?_ | refine tryInstall_fr ?_ | refine fr_snd (by assumption) (tryInstall_fr ?_)) | split)

theorem answerHanded_fr {μ : ℕ} {α : State} {s : State} (hyp : Fr μ α s) (within : μ ||| 16576 = μ := by decide) :
    Fr μ α (answerHanded s) := by
  refine Fr.via hyp ?_ within; unfold answerHanded; try dsimp only
  repeat' (first | (with_reducible first | exact Fr.refl _ _ | assumption | refine Fr.ite ?_ ?_ | refine State.setWrites_fr ?_ | refine answer_fr ?_ | refine forEach_fr ?_ (fun _ _ => ?_)) | split)

theorem answerInternal_fr {μ : ℕ} {α : State} {id : ℕ} {s : State} (hyp : Fr μ α s) (within : μ ||| 67371008 = μ := by decide) :
    Fr μ α (answerInternal id s) := by
  refine Fr.via hyp ?_ within; unfold answerInternal; try dsimp only
  repeat' (first | (with_reducible first | exact Fr.refl _ _ | assumption | refine Fr.ite ?_ ?_ | refine dropAsk_fr ?_ | refine State.modAsk_fr ?_) | split)

theorem applyNext_fr {μ : ℕ} {α : State} {r : Red} {s : State} (hyp : Fr μ α s) (within : μ ||| 67371328 = μ := by decide) :
    FrOS μ α (applyNext r s) := by
  refine FrOS.via hyp ?_ within; unfold applyNext; try dsimp only
  repeat' (first | (with_reducible first | exact Fr.refl _ _ | assumption | exact frOS_none | refine frOS_some ?_ | refine Fr.ite ?_ ?_ | refine applyAsk_fr ?_ | refine State.bump_fr ?_ | refine countIf_fr ?_) | split)

theorem applyAll_fr {μ : ℕ} {α : State} {k : ℕ} {r : Red} {s : State} (hyp : Fr μ α s) (within : μ ||| 67371328 = μ := by decide) :
    Fr μ α (applyAll k r s).2 := by
  induction k generalizing r s with
  | zero => exact hyp
  | succ k ih =>
    unfold applyAll
    split
    · exact ih (FrOS.of_eq (applyNext_fr hyp (within := sub_of within (by decide))) (by assumption))
    · exact hyp

theorem applyAtomic_fr {μ : ℕ} {α : State} {q : Ask} {k : ℕ} {w : CWay} {f : ℕ} {offset : ℕ} {wide : Bool} {fetch : Bool} {a : ℕ} {b : ℕ} {s : State} (hyp : Fr μ α s) (within : μ ||| 67916248 = μ := by decide) :
    Fr μ α (applyAtomic q k w f offset wide fetch a b s) := by
  refine Fr.via hyp ?_ within; unfold applyAtomic; try dsimp only
  repeat' (first | (with_reducible first | exact Fr.refl _ _ | assumption | refine Fr.ite ?_ ?_ | refine State.modAsk_fr ?_ | refine startWriteBack_fr ?_ | refine applyAsk_fr ?_ | refine syncDirty_fr ?_ | refine State.setWay_fr ?_ | refine touch_fr ?_ | refine mirrorLine_fr ?_ | refine State.bump_fr ?_ | refine countIf_fr ?_) | split)

theorem layerVref_fr {μ : ℕ} {α : State} {c : ℕ} {g : ℕ} {v : ℕ} {s : State} (hyp : Fr μ α s) (within : μ ||| 576 = μ := by decide) :
    Fr μ α (layerVref c g v s) := by
  refine Fr.via hyp ?_ within; unfold layerVref; try dsimp only
  repeat' (first | (with_reducible first | exact Fr.refl _ _ | assumption | refine Fr.ite ?_ ?_ | refine layMrwb_fr ?_) | split)

theorem setSetting_fr {μ : ℕ} {α : State} {c : ℕ} {code : ℕ} {inst : ℕ} {v : ℕ} {s : State} (hyp : Fr μ α s) (within : μ ||| 64 = μ := by decide) :
    Fr μ α (setSetting c code inst v s) := by
  refine Fr.via hyp ?_ within; unfold setSetting; try dsimp only
  repeat' (first | (with_reducible first | exact Fr.refl _ _ | assumption | refine Fr.ite ?_ ?_ | refine State.setOb_fr ?_) | split)

theorem writeStep_fr {μ : ℕ} {α : State} {c : ℕ} {s : State} (hyp : Fr μ α s) (within : μ ||| 8389184 = μ := by decide) :
    Fr μ α (writeStep c s) := by
  refine Fr.via hyp ?_ within; unfold writeStep; try dsimp only
  repeat' (first | (with_reducible first | exact Fr.refl _ _ | assumption | refine Fr.ite ?_ ?_ | refine State.modTr_fr ?_ | refine layerVref_fr ?_ | refine setSetting_fr ?_) | split)

theorem wantSteer_fr {μ : ℕ} {α : State} {c : ℕ} {g : Option ℕ} {s : State} (hyp : Fr μ α s) (within : μ ||| 8388608 = μ := by decide) :
    Fr μ α (wantSteer c g s) := by
  refine Fr.via hyp ?_ within; unfold wantSteer; try dsimp only
  repeat' (first | (with_reducible first | exact Fr.refl _ _ | assumption | refine Fr.ite ?_ ?_ | refine State.modTr_fr ?_) | split)

theorem groupOffline_fr {μ : ℕ} {α : State} {c : ℕ} {s : State} (hyp : Fr μ α s) (within : μ ||| 8388608 = μ := by decide) :
    Fr μ α (groupOffline c s) := by
  refine Fr.via hyp ?_ within; unfold groupOffline; try dsimp only
  repeat' (first | (with_reducible first | exact Fr.refl _ _ | assumption | refine Fr.ite ?_ ?_ | refine wantSteer_fr ?_ | refine State.modTr_fr ?_) | split)

theorem recordDue_fr {μ : ℕ} {α : State} {c : ℕ} {s : State} (hyp : Fr μ α s) (within : μ ||| 4096 = μ := by decide) :
    Fr μ α (recordDue c s) := by
  refine Fr.via hyp ?_ within; unfold recordDue; try dsimp only
  repeat' (first | (with_reducible first | exact Fr.refl _ _ | assumption | refine Fr.ite ?_ ?_) | split | with_reducible refine Fr.set_nvm ?_)

theorem roundEnd_fr {μ : ℕ} {α : State} {c : ℕ} {s : State} (hyp : Fr μ α s) (within : μ ||| 8392768 = μ := by decide) :
    Fr μ α (roundEnd c s) := by
  refine Fr.via hyp ?_ within; unfold roundEnd; try dsimp only
  repeat' (first | (with_reducible first | exact Fr.refl _ _ | assumption | refine Fr.ite ?_ ?_ | refine State.modTr_fr ?_ | refine recordDue_fr ?_ | refine State.bump_fr ?_ | refine groupOffline_fr ?_) | split)

theorem nextGroup_fr {μ : ℕ} {α : State} {c : ℕ} {s : State} (hyp : Fr μ α s) (within : μ ||| 8392768 = μ := by decide) :
    Fr μ α (nextGroup c s) := by
  refine Fr.via hyp ?_ within; unfold nextGroup; try dsimp only
  repeat' (first | (with_reducible first | exact Fr.refl _ _ | assumption | refine Fr.ite ?_ ?_ | refine groupOffline_fr ?_ | refine roundEnd_fr ?_ | refine State.modTr_fr ?_) | split)

theorem centresDone_fr {μ : ℕ} {α : State} {c : ℕ} {g : ℕ} {s : State} (hyp : Fr μ α s) (within : μ ||| 8392768 = μ := by decide) :
    Fr μ α (centresDone c g s) := by
  refine Fr.via hyp ?_ within; unfold centresDone; try dsimp only
  repeat' (first | (with_reducible first | exact Fr.refl _ _ | assumption | refine Fr.ite ?_ ?_ | refine State.modTr_fr ?_ | refine nextGroup_fr ?_) | split)

theorem applyCentres_fr {μ : ℕ} {α : State} {c : ℕ} {g : ℕ} {rv : ℕ} {wv : ℕ} {delays : List ℕ} {s : State} (hyp : Fr μ α s) (within : μ ||| 8393280 = μ := by decide) :
    Fr μ α (applyCentres c g rv wv delays s) := by
  refine Fr.via hyp ?_ within; unfold applyCentres; try dsimp only
  repeat' (first | (with_reducible first | exact Fr.refl _ _ | assumption | refine Fr.ite ?_ ?_ | refine State.modTr_fr ?_ | refine writeStep_fr ?_ | refine centresDone_fr ?_) | split)

theorem setShaper_fr {μ : ℕ} {α : State} {l : ℕ} {c : ℤ} {s : State} (hyp : Fr μ α s) (within : μ ||| 262208 = μ := by decide) :
    Fr μ α (setShaper l c s) := by
  refine Fr.via hyp ?_ within; unfold setShaper; try dsimp only
  repeat' (first | (with_reducible first | exact Fr.refl _ _ | assumption | refine Fr.ite ?_ ?_ | refine State.setPath_fr ?_ | refine State.setOb_fr ?_) | split)

theorem fillMeter_fr {μ : ℕ} {α : State} {l : ℕ} {s : State} (hyp : Fr μ α s) (within : μ ||| 262144 = μ := by decide) :
    Fr μ α (fillMeter l s) := by
  refine Fr.via hyp ?_ within; unfold fillMeter; try dsimp only
  repeat' (first | (with_reducible first | exact Fr.refl _ _ | assumption | refine Fr.ite ?_ ?_ | refine State.setPath_fr ?_) | split)

theorem endRestore_fr {μ : ℕ} {α : State} {c : ℕ} {num : ℕ} {line : Option (ℕ × ℕ)} {s : State} (hyp : Fr μ α s) (within : μ ||| 1048576 = μ := by decide) :
    Fr μ α (endRestore c num line s) := by
  refine Fr.via hyp ?_ within; unfold endRestore; try dsimp only
  repeat' (first | (with_reducible first | exact Fr.refl _ _ | assumption | refine Fr.ite ?_ ?_ | refine State.setFar_fr ?_) | split)

theorem dropReader_fr {μ : ℕ} {α : State} {status : ℕ} {r : FarReader} {s : State} (hyp : Fr μ α s) (within : μ ||| 68419904 = μ := by decide) :
    Fr μ α (dropReader status r s) := by
  refine Fr.via hyp ?_ within; unfold dropReader; try dsimp only
  repeat' (first | (with_reducible first | exact Fr.refl _ _ | assumption | refine Fr.ite ?_ ?_ | refine State.setFar_fr ?_ | refine finish_fr ?_ | refine endRestore_fr ?_) | split)

theorem backingDone_fr {μ : ℕ} {α : State} {id : ℕ} {s : State} (hyp : Fr μ α s) (within : μ ||| 67371328 = μ := by decide) :
    Fr μ α (backingDone id s) := by
  refine Fr.via hyp ?_ within; unfold backingDone; try dsimp only
  repeat' (first | (with_reducible first | exact Fr.refl _ _ | assumption | refine Fr.ite ?_ ?_ | refine finish_fr ?_ | refine State.modAsk_fr ?_) | split)

theorem endFarWrite_fr {μ : ℕ} {α : State} {id : ℕ} {backing : Bool} {status : ℕ} {s : State} (hyp : Fr μ α s) (within : μ ||| 67371328 = μ := by decide) :
    Fr μ α (endFarWrite id backing status s) := by
  refine Fr.via hyp ?_ within; unfold endFarWrite; try dsimp only
  repeat' (first | (with_reducible first | exact Fr.refl _ _ | assumption | refine Fr.ite ?_ ?_ | refine finish_fr ?_ | refine backingDone_fr ?_) | split)

theorem emptyPort_fr {μ : ℕ} {α : State} {status : ℕ} {s : State} (hyp : Fr μ α s) (within : μ ||| 68419904 = μ := by decide) :
    Fr μ α (emptyPort status s) := by
  refine Fr.via hyp ?_ within; unfold emptyPort; try dsimp only
  repeat' (first | (with_reducible first | exact Fr.refl _ _ | assumption | refine Fr.ite ?_ ?_ | refine State.setFar_fr ?_ | refine dropReader_fr ?_ | refine endFarWrite_fr ?_ | refine forEach_fr ?_ (fun _ _ => ?_)) | split)

theorem startLedgerZero_fr {μ : ℕ} {α : State} {s : State} (hyp : Fr μ α s) (within : μ ||| 68419904 = μ := by decide) :
    Fr μ α (startLedgerZero s) := by
  refine Fr.via hyp ?_ within; unfold startLedgerZero; try dsimp only
  repeat' (first | (with_reducible first | exact Fr.refl _ _ | assumption | refine Fr.ite ?_ ?_ | refine State.setFar_fr ?_ | refine State.setOb_fr ?_ | refine emptyPort_fr ?_) | split)

theorem applySetting_fr {μ : ℕ} {α : State} {key : ℕ} {v : ℕ} {f : ℕ} {s : State} (hyp : Fr μ α s) (within : μ ||| 68485440 = μ := by decide) :
    Fr μ α (applySetting key v f s) := by
  refine Fr.via hyp ?_ within; unfold applySetting; try dsimp only
  repeat' (first | (with_reducible first | exact Fr.refl _ _ | assumption | refine Fr.ite ?_ ?_ | refine State.setPort_fr ?_ | refine setShaper_fr ?_ | refine fillMeter_fr ?_ | refine stopWindow_fr ?_ | refine State.setPlans_fr ?_ | refine startLedgerZero_fr ?_ | refine State.setOb_fr ?_) | split)

theorem syncWfq_fr {μ : ℕ} {α : State} {c : ℕ} {write : Bool} {s : State} (hyp : Fr μ α s) (within : μ ||| 262144 = μ := by decide) :
    Fr μ α (syncWfq c write s) := by
  refine Fr.via hyp ?_ within; unfold syncWfq; try dsimp only
  repeat' (first | (with_reducible first | exact Fr.refl _ _ | assumption | refine Fr.ite ?_ ?_ | refine State.setWfq_fr ?_) | split)

theorem syncQueues_fr {μ : ℕ} {α : State} {s : State} (hyp : Fr μ α s) (within : μ ||| 262144 = μ := by decide) :
    Fr μ α (syncQueues s) := by
  refine Fr.via hyp ?_ within; unfold syncQueues; try dsimp only
  repeat' (first | (with_reducible first | exact Fr.refl _ _ | assumption | refine Fr.ite ?_ ?_ | refine syncWfq_fr ?_ | refine forEach_fr ?_ (fun _ _ => ?_)) | split)

theorem applyPending_fr {μ : ℕ} {α : State} {f : ℕ} {s : State} (hyp : Fr μ α s) (within : μ ||| 68485568 = μ := by decide) :
    Fr μ α (applyPending f s) := by
  refine Fr.via hyp ?_ within; unfold applyPending; try dsimp only
  repeat' (first | (with_reducible first | exact Fr.refl _ _ | assumption | refine Fr.ite ?_ ?_ | refine applySetting_fr ?_ | refine syncQueues_fr ?_ | refine forEach_fr ?_ (fun _ _ => ?_)) | split | with_reducible refine Fr.set_mgmt ?_)

theorem setLayers_fr {μ : ℕ} {α : State} {c : ℕ} {s : State} (hyp : Fr μ α s) (within : μ ||| 576 = μ := by decide) :
    Fr μ α (setLayers c s) := by
  refine Fr.via hyp ?_ within; unfold setLayers; try dsimp only
  repeat' (first | (with_reducible first | exact Fr.refl _ _ | assumption | refine Fr.ite ?_ ?_ | refine layModes_fr ?_) | split)

theorem takeFallback_fr {μ : ℕ} {α : State} {c : ℕ} {mask : ℕ} {width : ℕ} {spare : Option ℕ} {s : State} (hyp : Fr μ α s) (within : μ ||| 8409816 = μ := by decide) :
    Fr μ α (takeFallback c mask width spare s) := by
  refine Fr.via hyp ?_ within; unfold takeFallback; try dsimp only
  repeat' (first | (with_reducible first | exact Fr.refl _ _ | assumption | refine Fr.ite ?_ ?_ | refine raise_fr ?_ | refine State.setOb_fr ?_ | refine setLayers_fr ?_ | refine State.modTr_fr ?_ | refine forEach_fr ?_ (fun _ _ => ?_)) | split)

theorem takeSettings_fr {μ : ℕ} {α : State} {c : ℕ} {group : ℕ → ℕ} {lanes : ℕ} {ca : ℕ} {s : State} (hyp : Fr μ α s) (within : μ ||| 576 = μ := by decide) :
    Fr μ α (takeSettings c group lanes ca s) := by
  refine Fr.via hyp ?_ within; unfold takeSettings; try dsimp only
  repeat' (first | (with_reducible first | exact Fr.refl _ _ | assumption | refine Fr.ite ?_ ?_ | refine State.setOb_fr ?_ | refine layMrwb_fr ?_ | refine layerVref_fr ?_ | refine forEach_fr ?_ (fun _ _ => ?_)) | split)

theorem applyRecord_fr {μ : ℕ} {α : State} {c : ℕ} {b : List Byte} {s : State} (hyp : Fr μ α s) (within : μ ||| 8409816 = μ := by decide) :
    Fr μ α (applyRecord c b s) := by
  refine Fr.via hyp ?_ within; unfold applyRecord; try dsimp only
  repeat' (first | (with_reducible first | exact Fr.refl _ _ | assumption | refine Fr.ite ?_ ?_ | refine takeFallback_fr ?_ | refine State.modTr_fr ?_ | refine State.setOb_fr ?_ | refine takeSettings_fr ?_) | split)

theorem trainCopy_fr {μ : ℕ} {α : State} {c : ℕ} {b : Bool} {seq : ℕ} {s : State} (hyp : Fr μ α s) (within : μ ||| 4096 = μ := by decide) :
    Fr μ α (trainCopy c b seq s) := by
  refine Fr.via hyp ?_ within; unfold trainCopy; try dsimp only
  repeat' (first | (with_reducible first | exact Fr.refl _ _ | assumption | refine Fr.ite ?_ ?_) | split | with_reducible refine Fr.set_nvm ?_)

theorem trainSettled_fr {μ : ℕ} {α : State} {c : ℕ} {s : State} (hyp : Fr μ α s) (within : μ ||| 4096 = μ := by decide) :
    Fr μ α (trainSettled c s) := by
  refine Fr.via hyp ?_ within; unfold trainSettled; try dsimp only
  repeat' (first | (with_reducible first | exact Fr.refl _ _ | assumption | refine Fr.ite ?_ ?_) | split | with_reducible refine Fr.set_nvm ?_)

theorem trainWritten_fr {μ : ℕ} {α : State} {c : ℕ} {x : RecordArea} {seq : ℕ} {s : State} (hyp : Fr μ α s) (within : μ ||| 4160 = μ := by decide) :
    Fr μ α (trainWritten c x seq s) := by
  refine Fr.via hyp ?_ within; unfold trainWritten; try dsimp only
  repeat' (first | (with_reducible first | exact Fr.refl _ _ | assumption | refine Fr.ite ?_ ?_ | refine State.setOb_fr ?_ | refine trainCopy_fr ?_ | refine trainSettled_fr ?_) | split)

theorem forgetOrder_fr {μ : ℕ} {α : State} {n : ℕ} {s : State} (hyp : Fr μ α s) (within : μ ||| 128 = μ := by decide) :
    Fr μ α (forgetOrder n s) := by
  refine Fr.via hyp ?_ within; unfold forgetOrder; try dsimp only
  repeat' (first | (with_reducible first | exact Fr.refl _ _ | assumption | refine Fr.ite ?_ ?_ | refine State.setWrites_fr ?_) | split)

theorem complete_fr {μ : ℕ} {α : State} {who : Completer} {status : ℕ} {detail : ℕ} {s : State} (hyp : Fr μ α s) (within : μ ||| 16832 = μ := by decide) :
    Fr μ α (complete who status detail s) := by
  refine Fr.via hyp ?_ within; unfold complete; try dsimp only
  repeat' (first | (with_reducible first | exact Fr.refl _ _ | assumption | refine Fr.ite ?_ ?_ | refine forgetOrder_fr ?_ | refine sendParcel_fr ?_ | refine ackOrder_fr ?_ | refine answer_fr ?_) | split)

theorem gatherWritten_fr {μ : ℕ} {α : State} {s : State} (hyp : Fr μ α s) (within : μ ||| 20928 = μ := by decide) :
    Fr μ α (gatherWritten s) := by
  refine Fr.via hyp ?_ within; unfold gatherWritten; try dsimp only
  repeat' (first | (with_reducible first | exact Fr.refl _ _ | assumption | refine Fr.ite ?_ ?_ | refine complete_fr ?_ | refine State.setOb_fr ?_ | refine forEach_fr ?_ (fun _ _ => ?_)) | split | with_reducible refine Fr.set_nvm ?_)

theorem gatherRefused_fr {μ : ℕ} {α : State} {s : State} (hyp : Fr μ α s) (within : μ ||| 20928 = μ := by decide) :
    Fr μ α (gatherRefused s) := by
  refine Fr.via hyp ?_ within; unfold gatherRefused; try dsimp only
  repeat' (first | (with_reducible first | exact Fr.refl _ _ | assumption | refine Fr.ite ?_ ?_ | refine complete_fr ?_ | refine forEach_fr ?_ (fun _ _ => ?_)) | split | with_reducible refine Fr.set_nvm ?_)

theorem recordRefused_fr {μ : ℕ} {α : State} {area : ℕ} {index : ℕ} {s : State} (hyp : Fr μ α s) (within : μ ||| 20952 = μ := by decide) :
    Fr μ α (recordRefused area index s) := by
  refine Fr.via hyp ?_ within; unfold recordRefused; try dsimp only
  repeat' (first | (with_reducible first | exact Fr.refl _ _ | assumption | refine Fr.ite ?_ ?_ | refine trainSettled_fr ?_ | refine raise_fr ?_ | refine gatherRefused_fr ?_) | split)

theorem areaWritten_fr {μ : ℕ} {α : State} {area : ℕ} {index : ℕ} {s : State} (hyp : Fr μ α s) (within : μ ||| 20952 = μ := by decide) :
    Fr μ α (areaWritten area index s) := by
  refine Fr.via hyp ?_ within; unfold areaWritten; try dsimp only
  repeat' (first | (with_reducible first | exact Fr.refl _ _ | assumption | refine Fr.ite ?_ ?_ | refine trainWritten_fr ?_ | refine gatherWritten_fr ?_ | refine State.setRecordArea_fr ?_ | refine State.bumpBy_fr ?_ | refine recordRefused_fr ?_ | refine gatherRefused_fr ?_) | split | with_reducible refine Fr.set_nvm ?_)

theorem pendTide_fr {μ : ℕ} {α : State} {key : ℕ} {v : ℕ} {s : State} (hyp : Fr μ α s) (within : μ ||| 128 = μ := by decide) :
    Fr μ α (pendTide key v s) := by
  refine Fr.via hyp ?_ within; unfold pendTide; try dsimp only
  repeat' (first | (with_reducible first | exact Fr.refl _ _ | assumption | refine Fr.ite ?_ ?_) | split | with_reducible refine Fr.set_mgmt ?_)

theorem gatherPersist_fr {μ : ℕ} {α : State} {who : Completer} {idx : ℕ} {sub : ℕ} {v : ℕ} {s : State} (hyp : Fr μ α s) (within : μ ||| 4096 = μ := by decide) :
    FrW μ α (gatherPersist who idx sub v s) := by
  refine FrW.via hyp ?_ within; unfold gatherPersist; try dsimp only
  repeat' (first | (with_reducible first | exact Fr.refl _ _ | assumption | refine frW_done ?_ | refine frW_refused ?_ | refine frW_wait ?_ | refine frW_denied ?_ | refine Fr.ite ?_ ?_) | split | with_reducible refine Fr.set_nvm ?_)

theorem settingHome_fr {μ : ℕ} {α : State} {idx : ℕ} {sub : ℕ} {v : ℕ} {who : Completer} {s0 : State} (hyp : Fr μ α s0) (within : μ ||| 68489664 = μ := by decide) :
    FrW μ α (settingHome idx sub v who s0) := by
  refine FrW.via hyp ?_ within; unfold settingHome; try dsimp only [applyHome]
  repeat' (first | (with_reducible first | exact Fr.refl _ _ | assumption | refine frW_done ?_ | refine frW_refused ?_ | refine frW_wait ?_ | refine frW_denied ?_ | refine Fr.ite ?_ ?_ | refine applySetting_fr ?_ | refine pendTide_fr ?_ | refine gatherPersist_fr ?_ | refine FrW.of_done (gatherPersist_fr ?_) (by assumption) | refine FrW.of_refused (gatherPersist_fr ?_) (by assumption) | refine FrW.of_wait (gatherPersist_fr ?_) (by assumption)) | split)

theorem armFrameHome_fr {μ : ℕ} {α : State} {v : ℕ} {who : Completer} {s0 : State} (hyp : Fr μ α s0) (within : μ ||| 68489664 = μ := by decide) :
    FrW μ α (armFrameHome v who s0) := by
  refine FrW.via hyp ?_ within; unfold armFrameHome; try dsimp only [applyHome]
  repeat' (first | (with_reducible first | exact Fr.refl _ _ | assumption | refine frW_done ?_ | refine frW_refused ?_ | refine frW_wait ?_ | refine frW_denied ?_ | refine Fr.ite ?_ ?_ | refine settingHome_fr ?_ | refine FrW.of_done (settingHome_fr ?_) (by assumption) | refine FrW.of_refused (settingHome_fr ?_) (by assumption) | refine FrW.of_wait (settingHome_fr ?_) (by assumption)) | split)

theorem setPlanState_fr {μ : ℕ} {α : State} {v : ℕ} {s : State} (hyp : Fr μ α s) (within : μ ||| 64 = μ := by decide) :
    Fr μ α (setPlanState v s) := by
  refine Fr.via hyp ?_ within; unfold setPlanState; try dsimp only
  repeat' (first | (with_reducible first | exact Fr.refl _ _ | assumption | refine Fr.ite ?_ ?_ | refine State.setOb_fr ?_) | split)

theorem armPlan_fr {μ : ℕ} {α : State} {stop : Bool} {f : ℕ} {s : State} (hyp : Fr μ α s) (within : μ ||| 65600 = μ := by decide) :
    Fr μ α (armPlan stop f s) := by
  refine Fr.via hyp ?_ within; unfold armPlan; try dsimp only
  repeat' (first | (with_reducible first | exact Fr.refl _ _ | assumption | refine Fr.ite ?_ ?_ | refine State.setOb_fr ?_ | refine setPlanState_fr ?_ | refine State.setPlans_fr ?_) | split)

theorem armWindows_fr {μ : ℕ} {α : State} {f : ℕ} {s : State} (hyp : Fr μ α s) (within : μ ||| 262144 = μ := by decide) :
    Fr μ α (armWindows f s) := by
  refine Fr.via hyp ?_ within; unfold armWindows; try dsimp only
  repeat' (first | (with_reducible first | exact Fr.refl _ _ | assumption | refine Fr.ite ?_ ?_ | refine State.setRegWindow_fr ?_ | refine forEach_fr ?_ (fun _ _ => ?_)) | split)

theorem issueBaleRead_fr {μ : ℕ} {α : State} {b : ℕ} {s : State} (hyp : Fr μ α s) (within : μ ||| 1064960 = μ := by decide) :
    Fr μ α (issueBaleRead b s) := by
  refine Fr.via hyp ?_ within; unfold issueBaleRead; try dsimp only
  repeat' (first | (with_reducible first | exact Fr.refl _ _ | assumption | refine Fr.ite ?_ ?_ | refine State.modBale_fr ?_ | refine State.send_fr ?_) | split)

theorem useBale_fr {μ : ℕ} {α : State} {b : ℕ} {s : State} (hyp : Fr μ α s) (within : μ ||| 1048576 = μ := by decide) :
    Fr μ α (useBale b s) := by
  refine Fr.via hyp ?_ within; unfold useBale; try dsimp only
  repeat' (first | (with_reducible first | exact Fr.refl _ _ | assumption | refine Fr.ite ?_ ?_ | refine State.modBale_fr ?_ | refine State.setFar_fr ?_) | split)

theorem takeBale_fr {μ : ℕ} {α : State} {b : ℕ} {s : State} (hyp : Fr μ α s) (within : μ ||| 1048640 = μ := by decide) :
    Fr μ α (takeBale b s) := by
  refine Fr.via hyp ?_ within; unfold takeBale; try dsimp only
  repeat' (first | (with_reducible first | exact Fr.refl _ _ | assumption | refine Fr.ite ?_ ?_ | refine State.peak_fr ?_ | refine State.setFar_fr ?_ | refine useBale_fr ?_ | refine foldl_fr ?_ (fun _ _ => ?_) | refine foldl_frS ?_ (fun _ _ => ?_) | refine foldl_frF ?_ (fun _ _ => ?_)) | split)

theorem waitBale_fr {μ : ℕ} {α : State} {b : ℕ} {r : FarReader} {s : State} (hyp : Fr μ α s) (within : μ ||| 1065024 = μ := by decide) :
    Fr μ α (waitBale b r s) := by
  refine Fr.via hyp ?_ within; unfold waitBale; try dsimp only
  repeat' (first | (with_reducible first | exact Fr.refl _ _ | assumption | refine Fr.ite ?_ ?_ | refine issueBaleRead_fr ?_ | refine State.modBale_fr ?_ | refine takeBale_fr ?_) | split)

theorem endFarRead_fr {μ : ℕ} {α : State} {id : ℕ} {line : Option (ℕ × ℕ)} {s : State} (hyp : Fr μ α s) (within : μ ||| 67391960 = μ := by decide) :
    Fr μ α (endFarRead id line s) := by
  refine Fr.via hyp ?_ within; unfold endFarRead; try dsimp only
  repeat' (first | (with_reducible first | exact Fr.refl _ _ | assumption | refine Fr.ite ?_ ?_ | refine finish_fr ?_ | refine countAccess_fr ?_) | split)

theorem noteLost_fr {μ : ℕ} {α : State} {b : ℕ} {s : State} (hyp : Fr μ α s) (within : μ ||| 1069272 = μ := by decide) :
    Fr μ α (noteLost b s) := by
  refine Fr.via hyp ?_ within; unfold noteLost; try dsimp only
  repeat' (first | (with_reducible first | exact Fr.refl _ _ | assumption | refine Fr.ite ?_ ?_ | refine State.setFar_fr ?_ | refine raiseNode_fr ?_) | split)

theorem endTransferRead_fr {μ : ℕ} {α : State} {num : ℕ} {line : ℕ → ℕ × ℕ} {s : State} (hyp : Fr μ α s) (within : μ ||| 1048576 = μ := by decide) :
    Fr μ α (endTransferRead num line s) := by
  refine Fr.via hyp ?_ within; unfold endTransferRead; try dsimp only
  repeat' (first | (with_reducible first | exact Fr.refl _ _ | assumption | refine Fr.ite ?_ ?_ | refine State.setFar_fr ?_ | refine foldl_fr ?_ (fun _ _ => ?_) | refine foldl_frS ?_ (fun _ _ => ?_) | refine foldl_frF ?_ (fun _ _ => ?_)) | split)

theorem fillMissing_fr {μ : ℕ} {α : State} {b : ℕ} {f : ℕ → ℕ × ℕ} {s : State} (hyp : Fr μ α s) (within : μ ||| 1048576 = μ := by decide) :
    Fr μ α (fillMissing b f s) := by
  refine Fr.via hyp ?_ within; unfold fillMissing; try dsimp only
  repeat' (first | (with_reducible first | exact Fr.refl _ _ | assumption | refine Fr.ite ?_ ?_ | refine State.modBale_fr ?_ | refine foldl_fr ?_ (fun _ _ => ?_) | refine foldl_frS ?_ (fun _ _ => ?_) | refine foldl_frF ?_ (fun _ _ => ?_)) | split)

theorem issueBaleWrite_fr {μ : ℕ} {α : State} {b : ℕ} {v : ℕ} {s : State} (hyp : Fr μ α s) (within : μ ||| 1327168 = μ := by decide) :
    Fr μ α (issueBaleWrite b v s) := by
  refine Fr.via hyp ?_ within; unfold issueBaleWrite; try dsimp only
  repeat' (first | (with_reducible first | exact Fr.refl _ _ | assumption | refine Fr.ite ?_ ?_ | refine advanceLedger_fr ?_ | refine State.modBale_fr ?_ | refine State.send_fr ?_) | split)

theorem denyBale_fr {μ : ℕ} {α : State} {b : ℕ} {s : State} (hyp : Fr μ α s) (within : μ ||| 68440536 = μ := by decide) :
    Fr μ α (denyBale b s) := by
  refine Fr.via hyp ?_ within; unfold denyBale; try dsimp only
  repeat' (first | (with_reducible first | exact Fr.refl _ _ | assumption | refine Fr.ite ?_ ?_ | refine endFarWrite_fr ?_ | refine noteLost_fr ?_ | refine State.setFar_fr ?_ | refine forEach_fr ?_ (fun _ _ => ?_)) | split)

theorem writeBale_fr {μ : ℕ} {α : State} {b : ℕ} {s : State} (hyp : Fr μ α s) (within : μ ||| 68440536 = μ := by decide) :
    Fr μ α (writeBale b s) := by
  refine Fr.via hyp ?_ within; unfold writeBale; try dsimp only
  repeat' (first | (with_reducible first | exact Fr.refl _ _ | assumption | refine Fr.ite ?_ ?_ | refine waitBale_fr ?_ | refine fillMissing_fr ?_ | refine issueBaleWrite_fr ?_ | refine denyBale_fr ?_) | split)

theorem mergeBale_fr {μ : ℕ} {α : State} {w : FarWrite} {l : ℕ × ℕ} {s : State} (hyp : Fr μ α s) (within : μ ||| 68440536 = μ := by decide) :
    Fr μ α (mergeBale w l s) := by
  refine Fr.via hyp ?_ within; unfold mergeBale; try dsimp only
  repeat' (first | (with_reducible first | exact Fr.refl _ _ | assumption | refine Fr.ite ?_ ?_ | refine writeBale_fr ?_ | refine State.modBale_fr ?_) | split)

theorem serveReader_fr {μ : ℕ} {α : State} {b : ℕ} {r : FarReader} {s : State} (hyp : Fr μ α s) (within : μ ||| 68440536 = μ := by decide) :
    Fr μ α (serveReader b r s) := by
  refine Fr.via hyp ?_ within; unfold serveReader; try dsimp only
  repeat' (first | (with_reducible first | exact Fr.refl _ _ | assumption | refine Fr.ite ?_ ?_ | refine endTransferRead_fr ?_ | refine finish_fr ?_ | refine mergeBale_fr ?_ | refine endRestore_fr ?_ | refine endFarRead_fr ?_) | split)

theorem failReader_fr {μ : ℕ} {α : State} {b : ℕ} {r : FarReader} {s : State} (hyp : Fr μ α s) (within : μ ||| 68440536 = μ := by decide) :
    Fr μ α (failReader b r s) := by
  refine Fr.via hyp ?_ within; unfold failReader; try dsimp only
  repeat' (first | (with_reducible first | exact Fr.refl _ _ | assumption | refine Fr.ite ?_ ?_ | refine endTransferRead_fr ?_ | refine finish_fr ?_ | refine serveReader_fr ?_ | refine fillMissing_fr ?_ | refine raiseNode_fr ?_ | refine endRestore_fr ?_) | split)

theorem takeFarRead_fr {μ : ℕ} {α : State} {b : ℕ} {line : ℕ} {r : FarReader} {s : State} (hyp : Fr μ α s) (within : μ ||| 68440536 = μ := by decide) :
    Fr μ α (takeFarRead b line r s) := by
  refine Fr.via hyp ?_ within; unfold takeFarRead; try dsimp only
  repeat' (first | (with_reducible first | exact Fr.refl _ _ | assumption | refine Fr.ite ?_ ?_ | refine waitBale_fr ?_ | refine useBale_fr ?_ | refine endRestore_fr ?_ | refine endFarRead_fr ?_ | refine noteLost_fr ?_ | refine failReader_fr ?_) | split)

theorem takeFarWrite_fr {μ : ℕ} {α : State} {w : FarWrite} {s : State} (hyp : Fr μ α s) (within : μ ||| 68440536 = μ := by decide) :
    Fr μ α (takeFarWrite w s) := by
  refine Fr.via hyp ?_ within; unfold takeFarWrite; try dsimp only
  repeat' (first | (with_reducible first | exact Fr.refl _ _ | assumption | refine Fr.ite ?_ ?_ | refine waitBale_fr ?_ | refine endFarWrite_fr ?_ | refine mergeBale_fr ?_ | refine takeBale_fr ?_ | refine raiseNode_fr ?_ | refine noteLost_fr ?_) | split)

theorem takeFarOp_fr {μ : ℕ} {α : State} {a : FarOp} {a_ : State} (hyp : Fr μ α a_) (within : μ ||| 68440536 = μ := by decide) :
    Fr μ α (takeFarOp a a_) := by
  refine Fr.via hyp ?_ within; unfold takeFarOp; try dsimp only
  repeat' (first | (with_reducible first | exact Fr.refl _ _ | assumption | refine Fr.ite ?_ ?_ | refine takeFarRead_fr ?_ | refine takeFarWrite_fr ?_) | split)

theorem evictBale_fr {μ : ℕ} {α : State} {s : State} (hyp : Fr μ α s) (within : μ ||| 68440536 = μ := by decide) :
    Fr μ α (evictBale s) := by
  refine Fr.via hyp ?_ within; unfold evictBale; try dsimp only
  repeat' (first | (with_reducible first | exact Fr.refl _ _ | assumption | refine Fr.ite ?_ ?_ | refine writeBale_fr ?_ | refine foldl_fr ?_ (fun _ _ => ?_) | refine foldl_frS ?_ (fun _ _ => ?_) | refine foldl_frF ?_ (fun _ _ => ?_)) | split)

theorem drainFar_fr {μ : ℕ} {α : State} {s : State} (hyp : Fr μ α s) (within : μ ||| 68440536 = μ := by decide) :
    Fr μ α (drainFar s) := by
  refine Fr.via hyp ?_ within; unfold drainFar; try dsimp only
  repeat' (first | (with_reducible first | exact Fr.refl _ _ | assumption | refine Fr.ite ?_ ?_ | refine State.setFar_fr ?_ | refine takeFarOp_fr ?_ | refine evictBale_fr ?_ | refine forEach_fr ?_ (fun _ _ => ?_)) | split)

theorem noteEntry_fr {μ : ℕ} {α : State} {q : Ask} {s : State} (hyp : Fr μ α s) (within : μ ||| 262144 = μ := by decide) :
    Fr μ α (noteEntry q s) := by
  refine Fr.via hyp ?_ within; unfold noteEntry; try dsimp only
  repeat' (first | (with_reducible first | exact Fr.refl _ _ | assumption | refine Fr.ite ?_ ?_ | refine State.modAsk_fr ?_) | split)

theorem readEscape_fr {μ : ℕ} {α : State} {u : ℕ} {slot : ℕ} {l : ℕ} {ctx : ℕ} {world : Bool} {why : ℕ → Purpose} {s : State} (hyp : Fr μ α s) (within : μ ||| 67391960 = μ := by decide) :
    Fr μ α (readEscape u slot l ctx world why s) := by
  refine Fr.via hyp ?_ within; unfold readEscape; try dsimp only
  repeat' (first | (with_reducible first | exact Fr.refl _ _ | assumption | refine Fr.ite ?_ ?_ | refine offerInternal_fr ?_ | refine forEach_fr ?_ (fun _ _ => ?_)) | split)

theorem countWiden_fr {μ : ℕ} {α : State} {u : ℕ} {a : ℕ} {cs : Cause} {w : Widened} {s : State} (hyp : Fr μ α s) (within : μ ||| 20696 = μ := by decide) :
    Fr μ α (countWiden u a cs w s) := by
  refine Fr.via hyp ?_ within; unfold countWiden; try dsimp only
  repeat' (first | (with_reducible first | exact Fr.refl _ _ | assumption | refine Fr.ite ?_ ?_ | refine State.bump_fr ?_ | refine State.bumpBy_fr ?_ | refine countIf_fr ?_ | refine raiseAt_fr ?_) | split)

theorem finishWiden_fr {μ : ℕ} {α : State} {q : Ask} {j : ℕ} {l : ℕ × ℕ} {s : State} (hyp : Fr μ α s) (within : μ ||| 67391960 = μ := by decide) :
    Fr μ α (finishWiden q j l s) := by
  refine Fr.via hyp ?_ within; unfold finishWiden; try dsimp only
  repeat' (first | (with_reducible first | exact Fr.refl _ _ | assumption | refine Fr.ite ?_ ?_ | refine State.modAsk_fr ?_ | refine readEscape_fr ?_ | refine finish_fr ?_ | refine countWiden_fr ?_) | split)

theorem finishRead_fr {μ : ℕ} {α : State} {id : ℕ} {l : ℕ × ℕ} {s : State} (hyp : Fr μ α s) (within : μ ||| 67391960 = μ := by decide) :
    Fr μ α (finishRead id l s) := by
  refine Fr.via hyp ?_ within; unfold finishRead; try dsimp only
  repeat' (first | (with_reducible first | exact Fr.refl _ _ | assumption | refine Fr.ite ?_ ?_ | refine finish_fr ?_ | refine finishWiden_fr ?_ | refine State.modAsk_fr ?_ | refine State.bump_fr ?_ | refine countAccess_fr ?_) | split)

theorem countGrant_fr {μ : ℕ} {α : State} {q : Ask} {credit : ℤ} {s : State} (hyp : Fr μ α s) (within : μ ||| 262208 = μ := by decide) :
    Fr μ α (countGrant q credit s) := by
  refine Fr.via hyp ?_ within; unfold countGrant; try dsimp only
  repeat' (first | (with_reducible first | exact Fr.refl _ _ | assumption | refine Fr.ite ?_ ?_ | refine State.setOb_fr ?_ | refine setShaper_fr ?_ | refine State.bump_fr ?_) | split)

theorem denyAsk_fr {μ : ℕ} {α : State} {id : ℕ} {s : State} (hyp : Fr μ α s) (within : μ ||| 67391960 = μ := by decide) :
    Fr μ α (denyAsk id s) := by
  refine Fr.via hyp ?_ within; unfold denyAsk; try dsimp only
  repeat' (first | (with_reducible first | exact Fr.refl _ _ | assumption | refine Fr.ite ?_ ?_ | refine State.bump_fr ?_ | refine raiseAt_fr ?_ | refine finish_fr ?_) | split)

theorem stepAccess_fr {μ : ℕ} {α : State} {q : Ask} {s : State} (hyp : Fr μ α s) (within : μ ||| 20696 = μ := by decide) :
    Fr μ α (stepAccess q s).2 := by
  refine Fr.via hyp ?_ within; unfold stepAccess; try dsimp only
  repeat' (first | (with_reducible first | exact Fr.refl _ _ | assumption | refine Fr.ite ?_ ?_ | refine countAccess_fr ?_ | refine raiseNode_fr ?_ | refine accessCheck_fr ?_ | refine fr_snd (by assumption) (accessCheck_fr ?_)) | split)

theorem step5_fr {μ : ℕ} {α : State} {q : Ask} {s : State} (hyp : Fr μ α s) (within : μ ||| 20696 = μ := by decide) :
    Fr μ α (step5 q s).2 := by
  refine Fr.via hyp ?_ within; unfold step5; try dsimp only
  repeat' (first | (with_reducible first | exact Fr.refl _ _ | assumption | refine Fr.ite ?_ ?_ | refine stepAccess_fr ?_ | refine fr_snd (by assumption) (stepAccess_fr ?_)) | split)

theorem recheck_fr {μ : ℕ} {α : State} {q : Ask} {s : State} (hyp : Fr μ α s) (within : μ ||| 67391960 = μ := by decide) :
    Fr μ α (recheck q s).2 := by
  refine Fr.via hyp ?_ within; unfold recheck; try dsimp only
  repeat' (first | (with_reducible first | exact Fr.refl _ _ | assumption | refine Fr.ite ?_ ?_ | refine dropAsk_fr ?_ | refine finish_fr ?_ | refine denyAsk_fr ?_ | refine refuseLater_fr ?_ | refine step5_fr ?_ | refine fr_snd (by assumption) (step5_fr ?_)) | split)

theorem grant_fr {μ : ℕ} {α : State} {q : Ask} {confirmed : Bool} {f : State → State} {s : State} (hyp : Fr μ α s) (hf_f : ∀  y, Fr μ y (f  y)) (within : μ ||| 67391960 = μ := by decide) :
    Fr μ α (grant q confirmed f s) := by
  unfold grant; try dsimp only
  repeat' (first | (with_reducible first | exact Fr.refl _ _ | assumption | refine Fr.ite ?_ ?_ | refine Fr.trans ?_ (hf_f _ ) | refine countGrant_fr ?_ (within := sub_of within (by decide)) | refine acceptAsk_fr ?_ (within := sub_of within (by decide)) | refine refuseLater_fr ?_ (within := sub_of within (by decide)) | refine finish_fr ?_ (within := sub_of within (by decide)) | refine denyAsk_fr ?_ (within := sub_of within (by decide)) | refine recheck_fr ?_ (within := sub_of within (by decide)) | refine fr_snd (by assumption) (recheck_fr ?_ (within := sub_of within (by decide)))) | split)

theorem serveHit_fr {μ : ℕ} {α : State} {id : ℕ} {s : State} (hyp : Fr μ α s) (within : μ ||| 67916248 = μ := by decide) :
    Fr μ α (serveHit id s) := by
  refine Fr.via hyp ?_ within; unfold serveHit; try dsimp only
  repeat' (first | (with_reducible first | exact Fr.refl _ _ | assumption | refine Fr.ite ?_ ?_ | refine noteEntry_fr ?_ | refine countHit_fr ?_ | refine touch_fr ?_ | refine finishRead_fr ?_ | refine grant_fr ?_ (fun _ => ?_) | refine State.modRed_fr ?_) | split)

theorem queueFar_fr {μ : ℕ} {α : State} {w : FarOp} {s : State} (hyp : Fr μ α s) (within : μ ||| 1048576 = μ := by decide) :
    Fr μ α (queueFar w s) := by
  refine Fr.via hyp ?_ within; unfold queueFar; try dsimp only
  repeat' (first | (with_reducible first | exact Fr.refl _ _ | assumption | refine Fr.ite ?_ ?_ | refine State.setFar_fr ?_) | split)

theorem farWrite_fr {μ : ℕ} {α : State} {w : FarWrite} {s : State} (hyp : Fr μ α s) (within : μ ||| 68440536 = μ := by decide) :
    Fr μ α (farWrite w s) := by
  refine Fr.via hyp ?_ within; unfold farWrite; try dsimp only
  repeat' (first | (with_reducible first | exact Fr.refl _ _ | assumption | refine Fr.ite ?_ ?_ | refine queueFar_fr ?_ | refine takeFarWrite_fr ?_ | refine finish_fr ?_) | split)

theorem farRead_fr {μ : ℕ} {α : State} {b : ℕ} {line : ℕ} {r : FarReader} {s : State} (hyp : Fr μ α s) (within : μ ||| 68440536 = μ := by decide) :
    Fr μ α (farRead b line r s) := by
  refine Fr.via hyp ?_ within; unfold farRead; try dsimp only
  repeat' (first | (with_reducible first | exact Fr.refl _ _ | assumption | refine Fr.ite ?_ ?_ | refine queueFar_fr ?_ | refine takeFarRead_fr ?_ | refine failReader_fr ?_ | refine finish_fr ?_ | refine count_fr ?_) | split)

theorem serveFar_fr {μ : ℕ} {α : State} {id : ℕ} {s : State} (hyp : Fr μ α s) (within : μ ||| 68440536 = μ := by decide) :
    Fr μ α (serveFar id s) := by
  refine Fr.via hyp ?_ within; unfold serveFar; try dsimp only
  repeat' (first | (with_reducible first | exact Fr.refl _ _ | assumption | refine Fr.ite ?_ ?_ | refine farWrite_fr ?_ | refine grant_fr ?_ (fun _ => ?_) | refine farRead_fr ?_) | split)

theorem serveAbsorb_fr {μ : ℕ} {α : State} {id : ℕ} {mask : ℕ} {data : ℕ} {s : State} (hyp : Fr μ α s) (within : μ ||| 67916248 = μ := by decide) :
    Fr μ α (serveAbsorb id mask data s) := by
  refine Fr.via hyp ?_ within; unfold serveAbsorb; try dsimp only
  repeat' (first | (with_reducible first | exact Fr.refl _ _ | assumption | refine Fr.ite ?_ ?_ | refine absorbWrite_fr ?_ | refine grant_fr ?_ (fun _ => ?_) | refine refuseLater_fr ?_) | split)

theorem breakPoisoned_fr {μ : ℕ} {α : State} {a : ℕ} {s : State} (hyp : Fr μ α s) (within : μ ||| 70144472 = μ := by decide) :
    Fr μ α (breakPoisoned a s) := by
  refine Fr.via hyp ?_ within; unfold breakPoisoned; try dsimp only
  repeat' (first | (with_reducible first | exact Fr.refl _ _ | assumption | refine Fr.ite ?_ ?_ | refine breakRed_fr ?_) | split)

theorem openRed_fr {μ : ℕ} {α : State} {a : ℕ} {w : RedWord} {s : State} (hyp : Fr μ α s) (within : μ ||| 524352 = μ := by decide) :
    Fr μ α (openRed a w s) := by
  refine Fr.via hyp ?_ within; unfold openRed; try dsimp only
  repeat' (first | (with_reducible first | exact Fr.refl _ _ | assumption | refine Fr.ite ?_ ?_ | refine State.setReds_fr ?_) | split)

theorem openRefused_fr {μ : ℕ} {α : State} {a : ℕ} {w : RedWord} {s : State} (hyp : Fr μ α s) (within : μ ||| 70144472 = μ := by decide) :
    Fr μ α (openRefused a w s) := by
  refine Fr.via hyp ?_ within; unfold openRefused; try dsimp only
  repeat' (first | (with_reducible first | exact Fr.refl _ _ | assumption | refine Fr.ite ?_ ?_ | refine offerInternal_fr ?_ | refine openRed_fr ?_ | refine breakPoisoned_fr ?_) | split)

theorem sliceLater_fr {μ : ℕ} {α : State} {x : ℕ} {id : ℕ} {s : State} (hyp : Fr μ α s) (within : μ ||| 67371328 = μ := by decide) :
    Fr μ α (sliceLater x id s) := by
  refine Fr.via hyp ?_ within; unfold sliceLater; try dsimp only
  repeat' (first | (with_reducible first | exact Fr.refl _ _ | assumption | refine Fr.ite ?_ ?_ | refine countIf_fr ?_ | refine refuseLater_fr ?_) | split)

theorem serveReduce_fr {μ : ℕ} {α : State} {id : ℕ} {s : State} (hyp : Fr μ α s) (within : μ ||| 70144472 = μ := by decide) :
    Fr μ α (serveReduce id s) := by
  refine Fr.via hyp ?_ within; unfold serveReduce; try dsimp only
  repeat' (first | (with_reducible first | exact Fr.refl _ _ | assumption | refine Fr.ite ?_ ?_ | refine countIf_fr ?_ | refine acceptAsk_fr ?_ | refine State.peak_fr ?_ | refine breakPoisoned_fr ?_ | refine State.modRed_fr ?_ | refine openRed_fr ?_ | refine refuseLater_fr ?_ | refine openRefused_fr ?_ | refine sliceLater_fr ?_ | refine denyAsk_fr ?_ | refine finish_fr ?_ | refine acceptOr_fr ?_ (fun _ => ?_)) | split)

theorem serveSliced_fr {μ : ℕ} {α : State} {q : Ask} {f : State → State} {s : State} (hyp : Fr μ α s) (hf_f : ∀  y, Fr μ y (f  y)) (within : μ ||| 67391960 = μ := by decide) :
    Fr μ α (serveSliced q f s) := by
  unfold serveSliced; try dsimp only
  repeat' (first | (with_reducible first | exact Fr.refl _ _ | assumption | refine Fr.ite ?_ ?_ | refine Fr.trans ?_ (hf_f _ ) | refine countGrant_fr ?_ (within := sub_of within (by decide)) | refine recheck_fr ?_ (within := sub_of within (by decide)) | refine fr_snd (by assumption) (recheck_fr ?_ (within := sub_of within (by decide)))) | split)

theorem serveFlush_fr {μ : ℕ} {α : State} {q : Ask} {s : State} (hyp : Fr μ α s) (within : μ ||| 67916248 = μ := by decide) :
    Fr μ α (serveFlush q s) := by
  refine Fr.via hyp ?_ within; unfold serveFlush; try dsimp only
  repeat' (first | (with_reducible first | exact Fr.refl _ _ | assumption | refine Fr.ite ?_ ?_ | refine applyAsk_fr ?_ | refine State.setCache_fr ?_ | refine startWriteBack_fr ?_) | split)

theorem tryAtomic_fr {μ : ℕ} {α : State} {q : Ask} {f : ℕ} {offset : ℕ} {wide : Bool} {fetch : Bool} {a : ℕ} {b : ℕ} {s : State} (hyp : Fr μ α s) (within : μ ||| 67916248 = μ := by decide) :
    Fr μ α (tryAtomic q f offset wide fetch a b s) := by
  refine Fr.via hyp ?_ within; unfold tryAtomic; try dsimp only
  repeat' (first | (with_reducible first | exact Fr.refl _ _ | assumption | refine Fr.ite ?_ ?_ | refine applyAtomic_fr ?_ | refine startWriteBack_fr ?_ | refine finish_fr ?_ | refine serveFlush_fr ?_) | split)

theorem serveAtomic_fr {μ : ℕ} {α : State} {id : ℕ} {s : State} (hyp : Fr μ α s) (within : μ ||| 67916248 = μ := by decide) :
    Fr μ α (serveAtomic id s) := by
  refine Fr.via hyp ?_ within; unfold serveAtomic; try dsimp only
  repeat' (first | (with_reducible first | exact Fr.refl _ _ | assumption | refine Fr.ite ?_ ?_ | refine tryAtomic_fr ?_ | refine acceptOr_fr ?_ (fun _ => ?_) | refine sliceLater_fr ?_ | refine finish_fr ?_ | refine denyAsk_fr ?_) | split)

theorem syncApply_fr {μ : ℕ} {α : State} {a : Ask} {op : ℕ} {o : ℕ} {operand : ℕ} {s : State} (hyp : Fr μ α s) (within : μ ||| 70144472 = μ := by decide) :
    Fr μ α (syncApply a op o operand s) := by
  refine Fr.via hyp ?_ within; unfold syncApply; try dsimp only
  repeat' (first | (with_reducible first | exact Fr.refl _ _ | assumption | refine Fr.ite ?_ ?_ | refine applyAsk_fr ?_ | refine putSync_fr ?_ | refine sendNotice_fr ?_ | refine bumpSync_fr ?_) | split | with_reducible refine Fr.set_cache ?_)

theorem serveSync_fr {μ : ℕ} {α : State} {id : ℕ} {s : State} (hyp : Fr μ α s) (within : μ ||| 70144472 = μ := by decide) :
    Fr μ α (serveSync id s) := by
  refine Fr.via hyp ?_ within; unfold serveSync; try dsimp only
  repeat' (first | (with_reducible first | exact Fr.refl _ _ | assumption | refine Fr.ite ?_ ?_ | refine countIf_fr ?_ | refine syncApply_fr ?_ | refine acceptOr_fr ?_ (fun _ => ?_) | refine sliceLater_fr ?_ | refine denyAsk_fr ?_) | split)

theorem serveAsk_fr {μ : ℕ} {α : State} {id : ℕ} {s : State} (hyp : Fr μ α s) (within : μ ||| 71193048 = μ := by decide) :
    Fr μ α (serveAsk id s) := by
  refine Fr.via hyp ?_ within; unfold serveAsk; try dsimp only
  repeat' (first | (with_reducible first | exact Fr.refl _ _ | assumption | refine Fr.ite ?_ ?_ | refine serveHit_fr ?_ | refine serveFar_fr ?_ | refine serveAbsorb_fr ?_ | refine serveReduce_fr ?_ | refine serveSliced_fr ?_ (fun _ => ?_) | refine serveAtomic_fr ?_ | refine serveSync_fr ?_) | split)

theorem serveAll_fr {μ : ℕ} {α : State} {s : State} (hyp : Fr μ α s) (within : μ ||| 71193048 = μ := by decide) :
    Fr μ α (serveAll s) := by
  refine Fr.via hyp ?_ within; unfold serveAll; try dsimp only
  repeat' (first | (with_reducible first | exact Fr.refl _ _ | assumption | refine Fr.ite ?_ ?_ | refine drainFar_fr ?_ | refine serveAsk_fr ?_ | refine forEach_fr ?_ (fun _ _ => ?_)) | split)

theorem meterAsk_fr {μ : ℕ} {α : State} {q : Ask} {s : State} (hyp : Fr μ α s) (within : μ ||| 262208 = μ := by decide) :
    Fr μ α (meterAsk q s).2 := by
  refine Fr.via hyp ?_ within; unfold meterAsk; try dsimp only
  repeat' (first | (with_reducible first | exact Fr.refl _ _ | assumption | refine Fr.ite ?_ ?_ | refine State.setMeter_fr ?_ | refine State.bump_fr ?_) | split)

theorem settleShaper_fr {μ : ℕ} {α : State} {l : ℕ} {s : State} (hyp : Fr μ α s) (within : μ ||| 262208 = μ := by decide) :
    Fr μ α (settleShaper l s) := by
  refine Fr.via hyp ?_ within; unfold settleShaper; try dsimp only
  repeat' (first | (with_reducible first | exact Fr.refl _ _ | assumption | refine Fr.ite ?_ ?_ | refine setShaper_fr ?_) | split)

theorem offerAsk_fr {μ : ℕ} {α : State} {q : Ask} {s : State} (hyp : Fr μ α s) (within : μ ||| 71193048 = μ := by decide) :
    Fr μ α (offerAsk q s) := by
  refine Fr.via hyp ?_ within; unfold offerAsk; try dsimp only
  repeat' (first | (with_reducible first | exact Fr.refl _ _ | assumption | refine Fr.ite ?_ ?_ | refine serveAll_fr ?_ | refine State.peak_fr ?_ | refine State.modAsk_fr ?_ | refine State.bump_fr ?_ | refine raiseNode_fr ?_ | refine refuseLater_fr ?_ | refine meterAsk_fr ?_ | refine fr_snd (by assumption) (meterAsk_fr ?_) | refine sliceLater_fr ?_ | refine dropAsk_fr ?_ | refine step5_fr ?_ | refine fr_snd (by assumption) (step5_fr ?_) | refine settleShaper_fr ?_ | refine addAsk_fr ?_ | refine finish_fr ?_ | refine denyAsk_fr ?_) | split)

theorem chainForward_fr {μ : ℕ} {α : State} {q : Ask} {s : State} (hyp : Fr μ α s) (within : μ ||| 67371328 = μ := by decide) :
    Fr μ α (chainForward q s) := by
  refine Fr.via hyp ?_ within; unfold chainForward; try dsimp only
  repeat' (first | (with_reducible first | exact Fr.refl _ _ | assumption | refine Fr.ite ?_ ?_ | refine startChain_fr ?_) | split)

theorem endChain_fr {μ : ℕ} {α : State} {a : Ask} {s : State} (hyp : Fr μ α s) (within : μ ||| 262144 = μ := by decide) :
    Fr μ α (endChain a s) := by
  refine Fr.via hyp ?_ within; unfold endChain; try dsimp only
  repeat' (first | (with_reducible first | exact Fr.refl _ _ | assumption | refine Fr.ite ?_ ?_ | refine State.setPath_fr ?_) | split)

theorem arrive_fr {μ : ℕ} {α : State} {side : Side} {a : ℕ} {op : Op} {s : State} (hyp : Fr μ α s) (within : μ ||| 71193048 = μ := by decide) :
    Fr μ α (arrive side a op s) := by
  refine Fr.via hyp ?_ within; unfold arrive; try dsimp only
  repeat' (first | (with_reducible first | exact Fr.refl _ _ | assumption | refine Fr.ite ?_ ?_ | refine offerAsk_fr ?_ | refine forwardAsk_fr ?_ | refine chainForward_fr ?_ | refine addAsk_fr ?_ | refine finish_fr ?_ | refine denyAsk_fr ?_ | refine endChain_fr ?_ | refine State.bump_fr ?_ | refine count_fr ?_ | refine raiseNode_fr ?_) | split)

theorem lineRequest_fr {μ : ℕ} {α : State} {q : Side} {a : ℕ} {op : Op} {s : State} (hyp : Fr μ α s) (within : μ ||| 71193048 = μ := by decide) :
    FrR μ α (lineRequest q a op s) := by
  refine FrR.via hyp ?_ within; unfold lineRequest; try dsimp only
  repeat' (first | (with_reducible first | exact Fr.refl _ _ | assumption | refine frR_next ?_ | exact frR_fault | refine present_fr ?_ | refine Fr.ite ?_ ?_ | refine arrive_fr ?_) | split)

theorem atomicRequest_fr {μ : ℕ} {α : State} {f : ℕ} {q : Side} {a : ℕ} {offset : ℕ} {wide : Bool} {fetch : Bool} {x : ℕ} {y : ℕ} {s : State} (hyp : Fr μ α s) (within : μ ||| 71193048 = μ := by decide) :
    FrR μ α (atomicRequest f q a offset wide fetch x y s) := by
  refine FrR.via hyp ?_ within; unfold atomicRequest; try dsimp only
  repeat' (first | (with_reducible first | exact Fr.refl _ _ | assumption | refine frR_next ?_ | exact frR_fault | refine present_fr ?_ | refine Fr.ite ?_ ?_ | refine lineRequest_fr ?_) | split)

theorem autoPre_fr {μ : ℕ} {α : State} {c : ℕ} {l : ℕ} {bank : ℕ} {ap : Bool} {s : State} (hyp : Fr μ α s) (within : μ ||| 512 = μ := by decide) :
    Fr μ α (autoPre c l bank ap s) := by
  refine Fr.via hyp ?_ within; unfold autoPre; try dsimp only
  repeat' (first | (with_reducible first | exact Fr.refl _ _ | assumption | refine Fr.ite ?_ ?_ | refine State.setLay_fr ?_) | split)

theorem backingWrite_fr {μ : ℕ} {α : State} {id : ℕ} {a : ℕ} {data : ℕ} {info : ℕ} {s : State} (hyp : Fr μ α s) (within : μ ||| 68440536 = μ := by decide) :
    Fr μ α (backingWrite id a data info s) := by
  refine Fr.via hyp ?_ within; unfold backingWrite; try dsimp only
  repeat' (first | (with_reducible first | exact Fr.refl _ _ | assumption | refine Fr.ite ?_ ?_ | refine farWrite_fr ?_ | refine countAccess_fr ?_ | refine backingDone_fr ?_) | split)

theorem doneReaders_fr {μ : ℕ} {α : State} {b : ℕ} {each : FarReader → State → State} {s : State} (hyp : Fr μ α s) (hf_each : ∀ y0 y, Fr μ y (each y0 y)) (within : μ ||| 68440536 = μ := by decide) :
    Fr μ α (doneReaders b each s) := by
  unfold doneReaders; try dsimp only
  repeat' (first | (with_reducible first | exact Fr.refl _ _ | assumption | refine Fr.ite ?_ ?_ | refine Fr.trans ?_ (hf_each _ _ ) | refine writeBale_fr ?_ (within := sub_of within (by decide)) | refine State.modBale_fr ?_ (within := sub_of within (by decide)) | refine forEach_fr ?_ (fun _ _ => ?_)) | split)

theorem baleAltered_fr {μ : ℕ} {α : State} {b : ℕ} {s : State} (hyp : Fr μ α s) (within : μ ||| 68440536 = μ := by decide) :
    Fr μ α (baleAltered b s) := by
  refine Fr.via hyp ?_ within; unfold baleAltered; try dsimp only
  repeat' (first | (with_reducible first | exact Fr.refl _ _ | assumption | refine Fr.ite ?_ ?_ | refine State.bump_fr ?_ | refine count_fr ?_ | refine raiseNode_fr ?_ | refine failReader_fr ?_ | refine doneReaders_fr ?_ (fun _ _ => ?_)) | split)

theorem baleArrived_fr {μ : ℕ} {α : State} {b : ℕ} {s : State} (hyp : Fr μ α s) (within : μ ||| 68440536 = μ := by decide) :
    Fr μ α (baleArrived b s) := by
  refine Fr.via hyp ?_ within; unfold baleArrived; try dsimp only
  repeat' (first | (with_reducible first | exact Fr.refl _ _ | assumption | refine Fr.ite ?_ ?_ | refine State.bump_fr ?_ | refine count_fr ?_ | refine raiseNode_fr ?_ | refine failReader_fr ?_ | refine doneReaders_fr ?_ (fun _ _ => ?_) | refine fillMissing_fr ?_ | refine serveReader_fr ?_) | split)

theorem baleKeyHome_fr {μ : ℕ} {α : State} {v : ℕ} {who : Completer} {s0 : State} (hyp : Fr μ α s0) (within : μ ||| 68419904 = μ := by decide) :
    FrW μ α (baleKeyHome v who s0) := by
  refine FrW.via hyp ?_ within; unfold baleKeyHome; try dsimp only [applyHome]
  repeat' (first | (with_reducible first | exact Fr.refl _ _ | assumption | refine frW_done ?_ | refine frW_refused ?_ | refine frW_wait ?_ | refine frW_denied ?_ | refine Fr.ite ?_ ?_ | refine State.setOb_fr ?_ | refine startLedgerZero_fr ?_) | split)

theorem baleReadError_fr {μ : ℕ} {α : State} {b : ℕ} {s : State} (hyp : Fr μ α s) (within : μ ||| 68440536 = μ := by decide) :
    Fr μ α (baleReadError b s) := by
  refine Fr.via hyp ?_ within; unfold baleReadError; try dsimp only
  repeat' (first | (with_reducible first | exact Fr.refl _ _ | assumption | refine Fr.ite ?_ ?_ | refine State.bump_fr ?_ | refine count_fr ?_ | refine raiseNode_fr ?_ | refine failReader_fr ?_ | refine doneReaders_fr ?_ (fun _ _ => ?_) | refine issueBaleRead_fr ?_) | split)

theorem transferStep_fr {μ : ℕ} {α : State} {b : ℕ} {s : State} (hyp : Fr μ α s) (within : μ ||| 1048640 = μ := by decide) :
    Fr μ α (transferStep b s) := by
  refine Fr.via hyp ?_ within; unfold transferStep; try dsimp only
  repeat' (first | (with_reducible first | exact Fr.refl _ _ | assumption | refine Fr.ite ?_ ?_ | refine State.setFar_fr ?_ | refine count_fr ?_) | split)

end Sys2Proof.Machine
end

