-- ==== Sys2Proof/Laws/FrameUnits.lean ====
section
/-!
SUPPORT. Frames of the operations of the units: one lemma per operation (see Frame).
-/
namespace Sys2Proof.Machine

set_option Elab.async false
set_option linter.unusedTactic false
set_option linter.unreachableTactic false

theorem baleStale_fr {μ : ℕ} {α : State} {b : ℕ} {s : State} (hyp : Fr μ α s) (within : μ ||| 68440536 = μ := by decide) :
    Fr μ α (baleStale b s) := by
  refine Fr.via hyp ?_ within; unfold baleStale; try dsimp only
  repeat' (first | (with_reducible first | exact Fr.refl _ _ | assumption | refine Fr.ite ?_ ?_ | refine endFarWrite_fr ?_ | refine transferStep_fr ?_ | refine raiseNode_fr ?_ | refine State.bump_fr ?_ | refine State.setFar_fr ?_ | refine forEach_fr ?_ (fun _ _ => ?_)) | split)

theorem baleWritten_fr {μ : ℕ} {α : State} {b : ℕ} {s : State} (hyp : Fr μ α s) (within : μ ||| 68440536 = μ := by decide) :
    Fr μ α (baleWritten b s) := by
  refine Fr.via hyp ?_ within; unfold baleWritten; try dsimp only
  repeat' (first | (with_reducible first | exact Fr.refl _ _ | assumption | refine Fr.ite ?_ ?_ | refine denyBale_fr ?_ | refine endFarWrite_fr ?_ | refine transferStep_fr ?_ | refine State.bump_fr ?_ | refine count_fr ?_ | refine State.modBale_fr ?_ | refine State.setFar_fr ?_ | refine forEach_fr ?_ (fun _ _ => ?_)) | split)

theorem clearBank_fr {μ : ℕ} {α : State} {b : ℕ} {n : ℕ} {s : State} (hyp : Fr μ α s) (within : μ ||| 64 = μ := by decide) :
    Fr μ α (clearBank b n s) := by
  refine Fr.via hyp ?_ within; unfold clearBank; try dsimp only
  repeat' (first | (with_reducible first | exact Fr.refl _ _ | assumption | refine Fr.ite ?_ ?_ | refine State.setOb_fr ?_ | refine forEach_fr ?_ (fun _ _ => ?_)) | split)

theorem bankClearHome_fr {μ : ℕ} {α : State} {b : ℕ} {who : Completer} {s0 : State} (hyp : Fr μ α s0) (within : μ ||| 64 = μ := by decide) :
    FrW μ α (bankClearHome b who s0) := by
  refine FrW.via hyp ?_ within; unfold bankClearHome; try dsimp only [applyHome]
  repeat' (first | (with_reducible first | exact Fr.refl _ _ | assumption | refine frW_done ?_ | refine frW_refused ?_ | refine frW_wait ?_ | refine frW_denied ?_ | refine Fr.ite ?_ ?_ | refine clearBank_fr ?_ | refine applyHome_fr ?_ (fun _ => ?_)) | split)

theorem lineClean_fr {μ : ℕ} {α : State} {line : ℕ} {s : State} (hyp : Fr μ α s) (within : μ ||| 67912128 = μ := by decide) :
    Fr μ α (lineClean line s) := by
  refine Fr.via hyp ?_ within; unfold lineClean; try dsimp only
  repeat' (first | (with_reducible first | exact Fr.refl _ _ | assumption | refine Fr.ite ?_ ?_ | refine complete_fr ?_ | refine State.setCache_fr ?_ | refine finish_fr ?_ | refine applyAsk_fr ?_ | refine forEach_fr ?_ (fun _ _ => ?_)) | split)

theorem cleanLine_fr {μ : ℕ} {α : State} {a : ℕ} {s : State} (hyp : Fr μ α s) (within : μ ||| 67912128 = μ := by decide) :
    Fr μ α (cleanLine a s) := by
  refine Fr.via hyp ?_ within; unfold cleanLine; try dsimp only
  repeat' (first | (with_reducible first | exact Fr.refl _ _ | assumption | refine Fr.ite ?_ ?_ | refine syncDirty_fr ?_ | refine lineClean_fr ?_ | refine State.setWay_fr ?_) | split)

theorem replaceCopy_fr {μ : ℕ} {α : State} {a : ℕ} {data : ℕ} {info : ℕ} {s : State} (hyp : Fr μ α s) (within : μ ||| 67912128 = μ := by decide) :
    Fr μ α (replaceCopy a data info s) := by
  refine Fr.via hyp ?_ within; unfold replaceCopy; try dsimp only
  repeat' (first | (with_reducible first | exact Fr.refl _ _ | assumption | refine Fr.ite ?_ ?_ | refine State.setWay_fr ?_ | refine syncDirty_fr ?_ | refine cleanLine_fr ?_ | refine State.setAsks_fr ?_) | split)

theorem beginClose_fr {μ : ℕ} {α : State} {r : Red} {s : State} (hyp : Fr μ α s) (within : μ ||| 67916248 = μ := by decide) :
    Fr μ α (beginClose r s) := by
  refine Fr.via hyp ?_ within; unfold beginClose; try dsimp only
  repeat' (first | (with_reducible first | exact Fr.refl _ _ | assumption | refine Fr.ite ?_ ?_ | refine offerInternal_fr ?_ | refine State.modRed_fr ?_ | refine finishRead_fr ?_ | refine tryInstall_fr ?_ | refine fr_snd (by assumption) (tryInstall_fr ?_) | refine replaceCopy_fr ?_ | refine forEach_fr ?_ (fun _ _ => ?_)) | split)

theorem beginRequest_fr {μ : ℕ} {α : State} {req : Req} {act : State → State} {s : State} (hyp : Fr μ α s) (hf_act : ∀  y, Fr μ y (act  y)) (within : μ ||| 16576 = μ := by decide) :
    Fr μ α (beginRequest req act s) := by
  unfold beginRequest; try dsimp only
  repeat' (first | (with_reducible first | exact Fr.refl _ _ | assumption | refine Fr.ite ?_ ?_ | refine Fr.trans ?_ (hf_act _ ) | refine sendResponse_fr ?_ (within := sub_of within (by decide))) | split | with_reducible refine Fr.set_mgmt ?_ (h7 := bit_of within (by decide)))

theorem endSession_fr {μ : ℕ} {α : State} {id : ℕ} {s : State} (hyp : Fr μ α s) (within : μ ||| 21720 = μ := by decide) :
    Fr μ α (endSession id s) := by
  refine Fr.via hyp ?_ within; unfold endSession; try dsimp only
  repeat' (first | (with_reducible first | exact Fr.refl _ _ | assumption | refine Fr.ite ?_ ?_ | refine State.setSec_fr ?_ | refine raiseNode_fr ?_) | split)

theorem endSessions_fr {μ : ℕ} {α : State} {s : State} (hyp : Fr μ α s) (within : μ ||| 21720 = μ := by decide) :
    Fr μ α (endSessions s) := by
  refine Fr.via hyp ?_ within; unfold endSessions; try dsimp only
  repeat' (first | (with_reducible first | exact Fr.refl _ _ | assumption | refine Fr.ite ?_ ?_ | refine endSession_fr ?_ | refine forEach_fr ?_ (fun _ _ => ?_)) | split)

theorem refuseOffers_fr {μ : ℕ} {α : State} {s : State} (hyp : Fr μ α s) (within : μ ||| 67371328 = μ := by decide) :
    Fr μ α (refuseOffers s) := by
  refine Fr.via hyp ?_ within; unfold refuseOffers; try dsimp only
  repeat' (first | (with_reducible first | exact Fr.refl _ _ | assumption | refine Fr.ite ?_ ?_ | refine refuseLater_fr ?_ | refine forEach_fr ?_ (fun _ _ => ?_)) | split)

theorem writeBales_fr {μ : ℕ} {α : State} {s : State} (hyp : Fr μ α s) (within : μ ||| 68440536 = μ := by decide) :
    Fr μ α (writeBales s) := by
  refine Fr.via hyp ?_ within; unfold writeBales; try dsimp only
  repeat' (first | (with_reducible first | exact Fr.refl _ _ | assumption | refine Fr.ite ?_ ?_ | refine writeBale_fr ?_ | refine forEach_fr ?_ (fun _ _ => ?_)) | split)

theorem beginRest_fr {μ : ℕ} {α : State} {deep : Bool} {s : State} (hyp : Fr μ α s) (within : μ ||| 68965852 = μ := by decide) :
    Fr μ α (beginRest deep s) := by
  refine Fr.via hyp ?_ within; unfold beginRest; try dsimp only
  repeat' (first | (with_reducible first | exact Fr.refl _ _ | assumption | refine Fr.ite ?_ ?_ | refine closeSegments_fr ?_ | refine endSessions_fr ?_ | refine refuseOffers_fr ?_ | refine writeBackAll_fr ?_ | refine writeBales_fr ?_ | refine State.setOb_fr ?_ | refine State.setPower_fr ?_) | split)

theorem startProcs_fr {μ : ℕ} {α : State} {s : State} (hyp : Fr μ α s) (within : μ ||| 8 = μ := by decide) :
    Fr μ α (startProcs s) := by
  refine Fr.via hyp ?_ within; unfold startProcs; try dsimp only
  repeat' (first | (with_reducible first | exact Fr.refl _ _ | assumption | refine Fr.ite ?_ ?_) | split | with_reducible refine Fr.set_procs ?_)

theorem beginWake_fr {μ : ℕ} {α : State} {s : State} (hyp : Fr μ α s) (within : μ ||| 16777228 = μ := by decide) :
    Fr μ α (beginWake s) := by
  refine Fr.via hyp ?_ within; unfold beginWake; try dsimp only
  repeat' (first | (with_reducible first | exact Fr.refl _ _ | assumption | refine Fr.ite ?_ ?_ | refine startProcs_fr ?_ | refine State.setSource_fr ?_ | refine State.setPower_fr ?_ | refine forEach_fr ?_ (fun _ _ => ?_)) | split)

theorem qosStart_fr {μ : ℕ} {α : State} {s : State} (hyp : Fr μ α s) (within : μ ||| 262208 = μ := by decide) :
    Fr μ α (qosStart s) := by
  refine Fr.via hyp ?_ within; unfold qosStart; try dsimp only
  repeat' (first | (with_reducible first | exact Fr.refl _ _ | assumption | refine Fr.ite ?_ ?_ | refine State.setPath_fr ?_) | split | with_reducible refine Fr.set_obj ?_)

theorem discardSamples_fr {μ : ℕ} {α : State} {s : State} (hyp : Fr μ α s) (within : μ ||| 67108928 = μ := by decide) :
    Fr μ α (discardSamples s) := by
  refine Fr.via hyp ?_ within; unfold discardSamples; try dsimp only
  repeat' (first | (with_reducible first | exact Fr.refl _ _ | assumption | refine Fr.ite ?_ ?_ | refine State.bumpBy_fr ?_ | refine State.setSampler_fr ?_) | split)

theorem emptyEngines_fr {μ : ℕ} {α : State} {s : State} (hyp : Fr μ α s) (within : μ ||| 131136 = μ := by decide) :
    Fr μ α (emptyEngines s) := by
  refine Fr.via hyp ?_ within; unfold emptyEngines; try dsimp only
  repeat' (first | (with_reducible first | exact Fr.refl _ _ | assumption | refine Fr.ite ?_ ?_ | refine State.setOb_fr ?_ | refine State.setFeeds_fr ?_ | refine forEach_fr ?_ (fun _ _ => ?_)) | split)

theorem layResetOne_fr {μ : ℕ} {α : State} {c : ℕ} {l : ℕ} {s : State} (hyp : Fr μ α s) (within : μ ||| 512 = μ := by decide) :
    Fr μ α (layResetOne c l s) := by
  refine Fr.via hyp ?_ within; unfold layResetOne; try dsimp only
  repeat' (first | (with_reducible first | exact Fr.refl _ _ | assumption | refine Fr.ite ?_ ?_ | refine State.setDie_fr ?_ | refine State.setLay_fr ?_) | split)

theorem srAdvance_fr {μ : ℕ} {α : State} {c : ℕ} {l : ℕ} {s : State} (hyp : Fr μ α s) (within : μ ||| 512 = μ := by decide) :
    Fr μ α (srAdvance c l s) := by
  refine Fr.via hyp ?_ within; unfold srAdvance; try dsimp only
  repeat' (first | (with_reducible first | exact Fr.refl _ _ | assumption | refine Fr.ite ?_ ?_ | refine State.setLay_fr ?_ | refine forEach_fr ?_ (fun _ _ => ?_)) | split)

theorem layReset_fr {μ : ℕ} {α : State} {c : ℕ} {s : State} (hyp : Fr μ α s) (within : μ ||| 512 = μ := by decide) :
    Fr μ α (layReset c s) := by
  refine Fr.via hyp ?_ within; unfold layReset; try dsimp only
  repeat' (first | (with_reducible first | exact Fr.refl _ _ | assumption | refine Fr.ite ?_ ?_ | refine layResetOne_fr ?_ | refine State.setDch_fr ?_ | refine loseContent_fr ?_ | refine srAdvance_fr ?_ | refine forEach_fr ?_ (fun _ _ => ?_)) | split)

theorem driveHeat_fr {μ : ℕ} {α : State} {st : ℕ} {v : ℕ} {s : State} (hyp : Fr μ α s) (within : μ ||| 4194320 = μ := by decide) :
    Fr μ α (driveHeat st v s) := by
  refine Fr.via hyp ?_ within; unfold driveHeat; try dsimp only
  repeat' (first | (with_reducible first | exact Fr.refl _ _ | assumption | refine Fr.ite ?_ ?_ | refine State.setHeat_fr ?_) | split | with_reducible refine Fr.set_pins ?_)

theorem warmFromHalted_fr {μ : ℕ} {α : State} {s : State} (hyp : Fr μ α s) (within : μ ||| 4522836 = μ := by decide) :
    Fr μ α (warmFromHalted s) := by
  refine Fr.via hyp ?_ within; unfold warmFromHalted; try dsimp only
  repeat' (first | (with_reducible first | exact Fr.refl _ _ | assumption | refine Fr.ite ?_ ?_ | refine State.setSet_fr ?_ | refine State.setPower_fr ?_ | refine State.modChan_fr ?_ | refine State.setChanState_fr ?_ | refine layReset_fr ?_ | refine driveHeat_fr ?_ | refine forEach_fr ?_ (fun _ _ => ?_)) | split | with_reducible refine Fr.set_pins_plans_heat ?_ | with_reducible refine Fr.set_pins_hl_heat ?_ | with_reducible refine Fr.set_pins_heat ?_ | with_reducible refine Fr.set_hl_plans ?_ | with_reducible refine Fr.set_hl ?_ | with_reducible refine Fr.set_plans ?_)

theorem sendControl_fr {μ : ℕ} {α : State} {sub : ℕ} {d : ℕ} {body : List Byte} {s : State} (hyp : Fr μ α s) (within : μ ||| 256 = μ := by decide) :
    Fr μ α (sendControl sub d body s) := by
  refine Fr.via hyp ?_ within; unfold sendControl; try dsimp only
  repeat' (first | (with_reducible first | exact Fr.refl _ _ | assumption | refine Fr.ite ?_ ?_ | refine sendParcel_fr ?_) | split)

theorem flood_fr {μ : ℕ} {α : State} {sub : ℕ} {body : List Byte} {s : State} (hyp : Fr μ α s) (within : μ ||| 256 = μ := by decide) :
    Fr μ α (flood sub body s) := by
  refine Fr.via hyp ?_ within; unfold flood; try dsimp only
  repeat' (first | (with_reducible first | exact Fr.refl _ _ | assumption | refine Fr.ite ?_ ?_ | refine sendControl_fr ?_ | refine forEach_fr ?_ (fun _ _ => ?_)) | split)

theorem beginWarm_fr {μ : ℕ} {α : State} {s : State} (hyp : Fr μ α s) (within : μ ||| 75454428 = μ := by decide) :
    Fr μ α (beginWarm s) := by
  refine Fr.via hyp ?_ within; unfold beginWarm; try dsimp only
  repeat' (first | (with_reducible first | exact Fr.refl _ _ | assumption | refine Fr.ite ?_ ?_ | refine stopProcs_fr ?_ | refine drainChannel_fr ?_ | refine State.setSec_fr ?_ | refine endSessions_fr ?_ | refine qosStart_fr ?_ | refine writeBackAll_fr ?_ | refine writeBales_fr ?_ | refine breakRed_fr ?_ | refine refuseOffers_fr ?_ | refine discardSamples_fr ?_ | refine State.setOb_fr ?_ | refine State.bump_fr ?_ | refine raiseNode_fr ?_ | refine fenceStreams_fr ?_ | refine emptyEngines_fr ?_ | refine warmFromHalted_fr ?_ | refine State.setPower_fr ?_ | refine setNode_fr ?_ | refine flood_fr ?_ | refine forEach_fr ?_ (fun _ _ => ?_)) | split)

theorem degrade_fr {μ : ℕ} {α : State} {n : ℕ} {s : State} (hyp : Fr μ α s) (within : μ ||| 282840 = μ := by decide) :
    Fr μ α (degrade n s) := by
  refine Fr.via hyp ?_ within; unfold degrade; try dsimp only
  repeat' (first | (with_reducible first | exact Fr.refl _ _ | assumption | refine Fr.ite ?_ ?_ | refine State.setOb_fr ?_ | refine raiseNode_fr ?_ | refine State.setPath_fr ?_ | refine State.bump_fr ?_) | split)

theorem markDerated_fr {μ : ℕ} {α : State} {c : ℕ} {s : State} (hyp : Fr μ α s) (within : μ ||| 65600 = μ := by decide) :
    Fr μ α (markDerated c s) := by
  refine Fr.via hyp ?_ within; unfold markDerated; try dsimp only
  repeat' (first | (with_reducible first | exact Fr.refl _ _ | assumption | refine Fr.ite ?_ ?_ | refine State.setPlans_fr ?_ | refine State.setOb_fr ?_) | split)

theorem countTaken_fr {μ : ℕ} {α : State} {c : ℕ} {k : ℕ} {s : State} (hyp : Fr μ α s) (within : μ ||| 65600 = μ := by decide) :
    Fr μ α (countTaken c k s) := by
  refine Fr.via hyp ?_ within; unfold countTaken; try dsimp only
  repeat' (first | (with_reducible first | exact Fr.refl _ _ | assumption | refine Fr.ite ?_ ?_ | refine State.peak_fr ?_ | refine State.setOb_fr ?_ | refine State.setPlans_fr ?_) | split)

theorem plannedTaken_fr {μ : ℕ} {α : State} {p : Plan} {ctx : ℕ} {s : State} (hyp : Fr μ α s) (within : μ ||| 348376 = μ := by decide) :
    Fr μ α (plannedTaken p ctx s) := by
  refine Fr.via hyp ?_ within; unfold plannedTaken; try dsimp only
  repeat' (first | (with_reducible first | exact Fr.refl _ _ | assumption | refine Fr.ite ?_ ?_ | refine breakContinuity_fr ?_ | refine degrade_fr ?_) | split)

theorem takeSlots_fr {μ : ℕ} {α : State} {c : ℕ} {cause : ℕ} {l : List ℕ} {s : State} (hyp : Fr μ α s) (within : μ ||| 65536 = μ := by decide) :
    Fr μ α (takeSlots c cause l s) := by
  refine Fr.via hyp ?_ within; unfold takeSlots; try dsimp only
  repeat' (first | (with_reducible first | exact Fr.refl _ _ | assumption | refine Fr.ite ?_ ?_ | refine State.setPlans_fr ?_) | split)

theorem takeWindow_fr {μ : ℕ} {α : State} {c : ℕ} {first : ℕ} {p : Plan} {s : State} (hyp : Fr μ α s) (within : μ ||| 348376 = μ := by decide) :
    Fr μ α (takeWindow c first p s) := by
  refine Fr.via hyp ?_ within; unfold takeWindow; try dsimp only
  repeat' (first | (with_reducible first | exact Fr.refl _ _ | assumption | refine Fr.ite ?_ ?_ | refine State.setPlans_fr ?_ | refine degrade_fr ?_ | refine markDerated_fr ?_ | refine countTaken_fr ?_ | refine plannedTaken_fr ?_ | refine takeSlots_fr ?_ | refine forEach_fr ?_ (fun _ _ => ?_)) | split)

theorem beginWindow_fr {μ : ℕ} {α : State} {c : ℕ} {slot : ℕ} {s : State} (hyp : Fr μ α s) (within : μ ||| 348376 = μ := by decide) :
    Fr μ α (beginWindow c slot s) := by
  refine Fr.via hyp ?_ within; unfold beginWindow; try dsimp only
  repeat' (first | (with_reducible first | exact Fr.refl _ _ | assumption | refine Fr.ite ?_ ?_ | refine takeWindow_fr ?_ | refine State.setPlans_fr ?_) | split)

theorem beyondClearHome_fr {μ : ℕ} {α : State} {r : ℕ} {who : Completer} {s0 : State} (hyp : Fr μ α s0) (within : μ ||| 64 = μ := by decide) :
    FrW μ α (beyondClearHome r who s0) := by
  refine FrW.via hyp ?_ within; unfold beyondClearHome; try dsimp only [applyHome]
  repeat' (first | (with_reducible first | exact Fr.refl _ _ | assumption | refine frW_done ?_ | refine frW_refused ?_ | refine frW_wait ?_ | refine frW_denied ?_ | refine Fr.ite ?_ ?_ | refine State.setOb_fr ?_ | refine applyHome_fr ?_ (fun _ => ?_)) | split)

theorem setStaging_fr {μ : ℕ} {α : State} {v : ℕ} {s : State} (hyp : Fr μ α s) (within : μ ||| 64 = μ := by decide) :
    Fr μ α (setStaging v s) := by
  refine Fr.via hyp ?_ within; unfold setStaging; try dsimp only
  repeat' (first | (with_reducible first | exact Fr.refl _ _ | assumption | refine Fr.ite ?_ ?_ | refine State.setOb_fr ?_) | split)

theorem blockPlaced_fr {μ : ℕ} {α : State} {s : State} (hyp : Fr μ α s) (within : μ ||| 20696 = μ := by decide) :
    Fr μ α (blockPlaced s) := by
  refine Fr.via hyp ?_ within; unfold blockPlaced; try dsimp only
  repeat' (first | (with_reducible first | exact Fr.refl _ _ | assumption | refine Fr.ite ?_ ?_ | refine setStaging_fr ?_ | refine raiseNode_fr ?_) | split)

theorem unverify_fr {μ : ℕ} {α : State} {s : State} (hyp : Fr μ α s) (within : μ ||| 64 = μ := by decide) :
    Fr μ α (unverify s) := by
  refine Fr.via hyp ?_ within; unfold unverify; try dsimp only
  repeat' (first | (with_reducible first | exact Fr.refl _ _ | assumption | refine Fr.ite ?_ ?_ | refine State.setOb_fr ?_) | split)

theorem updateRefused_fr {μ : ℕ} {α : State} {reason : ℕ} {s : State} (hyp : Fr μ α s) (within : μ ||| 20696 = μ := by decide) :
    Fr μ α (updateRefused reason s) := by
  refine Fr.via hyp ?_ within; unfold updateRefused; try dsimp only
  repeat' (first | (with_reducible first | exact Fr.refl _ _ | assumption | refine Fr.ite ?_ ?_ | refine State.setOb_fr ?_ | refine raiseNode_fr ?_) | split)

theorem updateDenied_fr {μ : ℕ} {α : State} {reason : ℕ} {s : State} (hyp : Fr μ α s) (within : μ ||| 20696 = μ := by decide) :
    FrW μ α (updateDenied reason s) := by
  refine FrW.via hyp ?_ within; unfold updateDenied; try dsimp only
  repeat' (first | (with_reducible first | exact Fr.refl _ _ | assumption | refine frW_done ?_ | refine frW_refused ?_ | refine frW_wait ?_ | refine frW_denied ?_ | refine Fr.ite ?_ ?_ | refine updateRefused_fr ?_) | split)

theorem blockHome_fr {μ : ℕ} {α : State} {base : ℕ} {bytes : List Byte} {who : Completer} {s0 : State} (hyp : Fr μ α s0) (within : μ ||| 20696 = μ := by decide) :
    FrW μ α (blockHome base bytes who s0) := by
  refine FrW.via hyp ?_ within; unfold blockHome; try dsimp only [applyHome]
  repeat' (first | (with_reducible first | exact Fr.refl _ _ | assumption | refine frW_done ?_ | refine frW_refused ?_ | refine frW_wait ?_ | refine frW_denied ?_ | refine Fr.ite ?_ ?_ | refine State.bump_fr ?_ | refine blockPlaced_fr ?_ | refine unverify_fr ?_ | refine State.setOb_fr ?_ | refine updateDenied_fr ?_ | refine FrW.of_done (updateDenied_fr ?_) (by assumption) | refine FrW.of_refused (updateDenied_fr ?_) (by assumption) | refine FrW.of_wait (updateDenied_fr ?_) (by assumption)) | split | with_reducible refine Fr.set_nvm ?_)

theorem setPortState_fr {μ : ℕ} {α : State} {t : ℕ} {v : ℕ} {s : State} (hyp : Fr μ α s) (within : μ ||| 64 = μ := by decide) :
    Fr μ α (setPortState t v s) := by
  refine Fr.via hyp ?_ within; unfold setPortState; try dsimp only
  repeat' (first | (with_reducible first | exact Fr.refl _ _ | assumption | refine Fr.ite ?_ ?_ | refine State.setOb_fr ?_) | split)

theorem closePorts_fr {μ : ℕ} {α : State} {s : State} (hyp : Fr μ α s) (within : μ ||| 64 = μ := by decide) :
    Fr μ α (closePorts s) := by
  refine Fr.via hyp ?_ within; unfold closePorts; try dsimp only
  repeat' (first | (with_reducible first | exact Fr.refl _ _ | assumption | refine Fr.ite ?_ ?_ | refine setPortState_fr ?_ | refine forEach_fr ?_ (fun _ _ => ?_)) | split)

theorem persistOwn_fr {μ : ℕ} {α : State} {idx : ℕ} {sub : ℕ} {v : ℕ} {s : State} (hyp : Fr μ α s) (within : μ ||| 4160 = μ := by decide) :
    Fr μ α (persistOwn idx sub v s) := by
  refine Fr.via hyp ?_ within; unfold persistOwn; try dsimp only
  repeat' (first | (with_reducible first | exact Fr.refl _ _ | assumption | refine Fr.ite ?_ ?_ | refine State.setOb_fr ?_) | split | with_reducible refine Fr.set_nvm ?_)

theorem enterService_fr {μ : ℕ} {α : State} {n : NodeState} {s : State} (hyp : Fr μ α s) (within : μ ||| 282844 = μ := by decide) :
    Fr μ α (enterService n s) := by
  refine Fr.via hyp ?_ within; unfold enterService; try dsimp only
  repeat' (first | (with_reducible first | exact Fr.refl _ _ | assumption | refine Fr.ite ?_ ?_ | refine raiseNode_fr ?_ | refine State.setPath_fr ?_ | refine closePorts_fr ?_ | refine State.setPower_fr ?_ | refine persistOwn_fr ?_ | refine State.setOb_fr ?_ | refine setNode_fr ?_) | split)

theorem blockersClear_fr {μ : ℕ} {α : State} {s : State} (hyp : Fr μ α s) (within : μ ||| 282844 = μ := by decide) :
    Fr μ α (blockersClear s) := by
  refine Fr.via hyp ?_ within; unfold blockersClear; try dsimp only
  repeat' (first | (with_reducible first | exact Fr.refl _ _ | assumption | refine Fr.ite ?_ ?_ | refine enterService_fr ?_) | split)

theorem blowEpoch_fr {μ : ℕ} {α : State} {s : State} (hyp : Fr μ α s) (within : μ ||| 2048 = μ := by decide) :
    Fr μ α (blowEpoch s) := by
  refine Fr.via hyp ?_ within; unfold blowEpoch; try dsimp only
  repeat' (first | (with_reducible first | exact Fr.refl _ _ | assumption | refine Fr.ite ?_ ?_) | split | with_reducible refine Fr.set_fuses ?_)

theorem enterRecovery_fr {μ : ℕ} {α : State} {bothFailed : Bool} {s : State} (hyp : Fr μ α s) (within : μ ||| 33575132 = μ := by decide) :
    Fr μ α (enterRecovery bothFailed s) := by
  refine Fr.via hyp ?_ within; unfold enterRecovery; try dsimp only
  repeat' (first | (with_reducible first | exact Fr.refl _ _ | assumption | refine Fr.ite ?_ ?_ | refine State.setUpd_fr ?_ | refine setNode_fr ?_ | refine raiseNode_fr ?_) | split)

theorem restartFlows_fr {μ : ℕ} {α : State} {d : ℕ} {s : State} (hyp : Fr μ α s) (within : μ ||| 256 = μ := by decide) :
    Fr μ α (restartFlows d s) := by
  refine Fr.via hyp ?_ within; unfold restartFlows; try dsimp only
  repeat' (first | (with_reducible first | exact Fr.refl _ _ | assumption | refine Fr.ite ?_ ?_ | refine State.setSet_fr ?_) | split | with_reducible refine Fr.set_hl ?_)

theorem computeRoutes_fr {μ : ℕ} {α : State} {s : State} (hyp : Fr μ α s) (within : μ ||| 20952 = μ := by decide) :
    Fr μ α (computeRoutes s) := by
  refine Fr.via hyp ?_ within; unfold computeRoutes; try dsimp only
  repeat' (first | (with_reducible first | exact Fr.refl _ _ | assumption | refine Fr.ite ?_ ?_ | refine State.setSet_fr ?_ | refine restartFlows_fr ?_ | refine raiseNode_fr ?_ | refine forEach_fr ?_ (fun _ _ => ?_)) | split)

theorem refreshView_fr {μ : ℕ} {α : State} {s : State} (hyp : Fr μ α s) (within : μ ||| 20952 = μ := by decide) :
    Fr μ α (refreshView s) := by
  refine Fr.via hyp ?_ within; unfold refreshView; try dsimp only
  repeat' (first | (with_reducible first | exact Fr.refl _ _ | assumption | refine Fr.ite ?_ ?_ | refine State.setSet_fr ?_ | refine computeRoutes_fr ?_ | refine foldl_fr ?_ (fun _ _ => ?_) | refine foldl_frS ?_ (fun _ _ => ?_) | refine foldl_frF ?_ (fun _ _ => ?_)) | split)

theorem startTraining_fr {μ : ℕ} {α : State} {h : ℕ} {s : State} (hyp : Fr μ α s) (within : μ ||| 256 = μ := by decide) :
    Fr μ α (startTraining h s) := by
  refine Fr.via hyp ?_ within; unfold startTraining; try dsimp only
  repeat' (first | (with_reducible first | exact Fr.refl _ _ | assumption | refine Fr.ite ?_ ?_ | refine State.setPort_fr ?_) | split)

theorem tellExclusions_fr {μ : ℕ} {α : State} {s : State} (hyp : Fr μ α s) (within : μ ||| 20696 = μ := by decide) :
    Fr μ α (tellExclusions s) := by
  refine Fr.via hyp ?_ within; unfold tellExclusions; try dsimp only
  repeat' (first | (with_reducible first | exact Fr.refl _ _ | assumption | refine Fr.ite ?_ ?_ | refine raise_fr ?_ | refine forEach_fr ?_ (fun _ _ => ?_)) | split)

theorem enableUnits_fr {μ : ℕ} {α : State} {s : State} (hyp : Fr μ α s) (within : μ ||| 64 = μ := by decide) :
    Fr μ α (enableUnits s) := by
  refine Fr.via hyp ?_ within; unfold enableUnits; try dsimp only
  repeat' (first | (with_reducible first | exact Fr.refl _ _ | assumption | refine Fr.ite ?_ ?_ | refine State.setOb_fr ?_ | refine foldl_fr ?_ (fun _ _ => ?_) | refine foldl_frS ?_ (fun _ _ => ?_) | refine foldl_frF ?_ (fun _ _ => ?_)) | split)

theorem dropGuarded_fr {μ : ℕ} {α : State} {s : State} (hyp : Fr μ α s) (within : μ ||| 524352 = μ := by decide) :
    Fr μ α (dropGuarded s) := by
  refine Fr.via hyp ?_ within; unfold dropGuarded; try dsimp only
  repeat' (first | (with_reducible first | exact Fr.refl _ _ | assumption | refine Fr.ite ?_ ?_ | refine dropLine_fr ?_ | refine forEach_fr ?_ (fun _ _ => ?_)) | split)

theorem eraseKeys_fr {μ : ℕ} {α : State} {s : State} (hyp : Fr μ α s) (within : μ ||| 68420928 = μ := by decide) :
    Fr μ α (eraseKeys s) := by
  refine Fr.via hyp ?_ within; unfold eraseKeys; try dsimp only
  repeat' (first | (with_reducible first | exact Fr.refl _ _ | assumption | refine Fr.ite ?_ ?_ | refine State.setSec_fr ?_ | refine startLedgerZero_fr ?_ | refine State.setKey_fr ?_ | refine forEach_fr ?_ (fun _ _ => ?_)) | split)

theorem dropSecure_fr {μ : ℕ} {α : State} {s : State} (hyp : Fr μ α s) (within : μ ||| 70124992 = μ := by decide) :
    Fr μ α (dropSecure s) := by
  refine Fr.via hyp ?_ within; unfold dropSecure; try dsimp only
  repeat' (first | (with_reducible first | exact Fr.refl _ _ | assumption | refine Fr.ite ?_ ?_ | refine State.setOb_fr ?_ | refine State.setSec_fr ?_ | refine putSync_fr ?_ | refine forEach_fr ?_ (fun _ _ => ?_)) | split | with_reducible refine Fr.set_mgmt ?_)

theorem zeroAdvance_fr {μ : ℕ} {α : State} {s : State} (hyp : Fr μ α s) (within : μ ||| 71173568 = μ := by decide) :
    Fr μ α (zeroAdvance s) := by
  refine Fr.via hyp ?_ within; unfold zeroAdvance; try dsimp only
  repeat' (first | (with_reducible first | exact Fr.refl _ _ | assumption | refine Fr.ite ?_ ?_ | refine dropGuarded_fr ?_ | refine eraseKeys_fr ?_ | refine dropSecure_fr ?_) | split)

theorem runZero_fr {μ : ℕ} {α : State} {cause : ZeroCause} {s : State} (hyp : Fr μ α s) (within : μ ||| 71194072 = μ := by decide) :
    Fr μ α (runZero cause s) := by
  refine Fr.via hyp ?_ within; unfold runZero; try dsimp only
  repeat' (first | (with_reducible first | exact Fr.refl _ _ | assumption | refine Fr.ite ?_ ?_ | refine refuseLater_fr ?_ | refine zeroAdvance_fr ?_ | refine fenceContext_fr ?_ | refine State.setSec_fr ?_ | refine endSessions_fr ?_ | refine forEach_fr ?_ (fun _ _ => ?_)) | split)

theorem startZero_fr {μ : ℕ} {α : State} {cause : ZeroCause} {s : State} (hyp : Fr μ α s) (within : μ ||| 71194072 = μ := by decide) :
    Fr μ α (startZero cause s) := by
  refine Fr.via hyp ?_ within; unfold startZero; try dsimp only
  repeat' (first | (with_reducible first | exact Fr.refl _ _ | assumption | refine Fr.ite ?_ ?_ | refine State.setSec_fr ?_ | refine runZero_fr ?_) | split)

theorem deriveIdentity_fr {μ : ℕ} {α : State} {s : State} (hyp : Fr μ α s) (within : μ ||| 21720 = μ := by decide) :
    Fr μ α (deriveIdentity s) := by
  refine Fr.via hyp ?_ within; unfold deriveIdentity; try dsimp only
  repeat' (first | (with_reducible first | exact Fr.refl _ _ | assumption | refine Fr.ite ?_ ?_ | refine raiseNode_fr ?_ | refine State.setSec_fr ?_ | refine State.setOb_fr ?_) | split)

theorem wardenStart_fr {μ : ℕ} {α : State} {cold : Bool} {s : State} (hyp : Fr μ α s) (within : μ ||| 71194072 = μ := by decide) :
    Fr μ α (wardenStart cold s) := by
  refine Fr.via hyp ?_ within; unfold wardenStart; try dsimp only
  repeat' (first | (with_reducible first | exact Fr.refl _ _ | assumption | refine Fr.ite ?_ ?_ | refine startZero_fr ?_ | refine State.setOb_fr ?_ | refine State.setSec_fr ?_ | refine runZero_fr ?_ | refine deriveIdentity_fr ?_) | split)

theorem enterConfig_fr {μ : ℕ} {α : State} {cold : Bool} {s : State} (hyp : Fr μ α s) (within : μ ||| 75388380 = μ := by decide) :
    Fr μ α (enterConfig cold s) := by
  refine Fr.via hyp ?_ within; unfold enterConfig; try dsimp only
  repeat' (first | (with_reducible first | exact Fr.refl _ _ | assumption | refine Fr.ite ?_ ?_ | refine refreshView_fr ?_ | refine startTraining_fr ?_ | refine raiseNode_fr ?_ | refine State.setOb_fr ?_ | refine State.setSet_fr ?_ | refine tellExclusions_fr ?_ | refine State.setHeat_fr ?_ | refine State.setPower_fr ?_ | refine enableUnits_fr ?_ | refine setNode_fr ?_ | refine startProcs_fr ?_ | refine wardenStart_fr ?_ | refine forEach_fr ?_ (fun _ _ => ?_)) | split)

theorem bootAdvance_fr {μ : ℕ} {α : State} {s : State} (hyp : Fr μ α s) (within : μ ||| 75388380 = μ := by decide) :
    Fr μ α (bootAdvance s) := by
  refine Fr.via hyp ?_ within; unfold bootAdvance; try dsimp only
  repeat' (first | (with_reducible first | exact Fr.refl _ _ | assumption | refine Fr.ite ?_ ?_ | refine enterConfig_fr ?_) | split)

theorem runActive_fr {μ : ℕ} {α : State} {s : State} (hyp : Fr μ α s) (within : μ ||| 108942812 = μ := by decide) :
    Fr μ α (runActive s) := by
  refine Fr.via hyp ?_ within; unfold runActive; try dsimp only
  repeat' (first | (with_reducible first | exact Fr.refl _ _ | assumption | refine Fr.ite ?_ ?_ | refine State.setUpd_fr ?_ | refine bootAdvance_fr ?_ | refine State.setOb_fr ?_) | split)

theorem bootActive_fr {μ : ℕ} {α : State} {s : State} (hyp : Fr μ α s) (within : μ ||| 108942812 = μ := by decide) :
    Fr μ α (bootActive s) := by
  refine Fr.via hyp ?_ within; unfold bootActive; try dsimp only
  repeat' (first | (with_reducible first | exact Fr.refl _ _ | assumption | refine Fr.ite ?_ ?_ | refine enterRecovery_fr ?_ | refine State.setUpd_fr ?_ | refine raiseNode_fr ?_ | refine runActive_fr ?_) | split)

theorem breakSensor_fr {μ : ℕ} {α : State} {k : ℕ} {s : State} (hyp : Fr μ α s) (within : μ ||| 4215000 = μ := by decide) :
    Fr μ α (breakSensor k s) := by
  refine Fr.via hyp ?_ within; unfold breakSensor; try dsimp only
  repeat' (first | (with_reducible first | exact Fr.refl _ _ | assumption | refine Fr.ite ?_ ?_ | refine raise_fr ?_ | refine State.setSensor_fr ?_) | split)

theorem qosDenied_fr {μ : ℕ} {α : State} {s : State} (hyp : Fr μ α s) (within : μ ||| 20696 = μ := by decide) :
    FrW μ α (qosDenied s) := by
  refine FrW.via hyp ?_ within; unfold qosDenied; try dsimp only
  repeat' (first | (with_reducible first | exact Fr.refl _ _ | assumption | refine frW_done ?_ | refine frW_refused ?_ | refine frW_wait ?_ | refine frW_denied ?_ | refine Fr.ite ?_ ?_ | refine raiseNode_fr ?_) | split)

theorem budgetHome_fr {μ : ℕ} {α : State} {r : ℕ} {sub : ℕ} {v : ℕ} {who : Completer} {s0 : State} (hyp : Fr μ α s0) (within : μ ||| 68506072 = μ := by decide) :
    FrW μ α (budgetHome r sub v who s0) := by
  refine FrW.via hyp ?_ within; unfold budgetHome; try dsimp only [applyHome]
  repeat' (first | (with_reducible first | exact Fr.refl _ _ | assumption | refine frW_done ?_ | refine frW_refused ?_ | refine frW_wait ?_ | refine frW_denied ?_ | refine Fr.ite ?_ ?_ | refine settingHome_fr ?_ | refine FrW.of_done (settingHome_fr ?_) (by assumption) | refine FrW.of_refused (settingHome_fr ?_) (by assumption) | refine FrW.of_wait (settingHome_fr ?_) (by assumption) | refine qosDenied_fr ?_ | refine FrW.of_done (qosDenied_fr ?_) (by assumption) | refine FrW.of_refused (qosDenied_fr ?_) (by assumption) | refine FrW.of_wait (qosDenied_fr ?_) (by assumption)) | split)

theorem noteCmd_fr {μ : ℕ} {α : State} {c : ℕ} {ck : ℕ} {cmd : SdiCmd} {order : ℕ} {s : State} (hyp : Fr μ α s) (within : μ ||| 262144 = μ := by decide) :
    Fr μ α (noteCmd c ck cmd order s) := by
  refine Fr.via hyp ?_ within; unfold noteCmd; try dsimp only
  repeat' (first | (with_reducible first | exact Fr.refl _ _ | assumption | refine Fr.ite ?_ ?_ | refine State.modChan_fr ?_) | split)

theorem layMrw_fr {μ : ℕ} {α : State} {c : ℕ} {l : ℕ} {a : ℕ} {v : ℕ} {s : State} (hyp : Fr μ α s) (within : μ ||| 576 = μ := by decide) :
    Fr μ α (layMrw c l a v s) := by
  refine Fr.via hyp ?_ within; unfold layMrw; try dsimp only
  repeat' (first | (with_reducible first | exact Fr.refl _ _ | assumption | refine Fr.ite ?_ ?_ | refine protoAlert_fr ?_ | refine layRegWrite_fr ?_) | split)

theorem laySrx_fr {μ : ℕ} {α : State} {c : ℕ} {s : State} (hyp : Fr μ α s) (within : μ ||| 512 = μ := by decide) :
    Fr μ α (laySrx c s) := by
  refine Fr.via hyp ?_ within; unfold laySrx; try dsimp only
  repeat' (first | (with_reducible first | exact Fr.refl _ _ | assumption | refine Fr.ite ?_ ?_ | refine loseContent_fr ?_ | refine State.setDch_fr ?_ | refine State.setLay_fr ?_ | refine srAdvance_fr ?_ | refine forEach_fr ?_ (fun _ _ => ?_)) | split)

theorem layRefpb_fr {μ : ℕ} {α : State} {c : ℕ} {l : ℕ} {big : ℕ} {mask : ℕ} {s : State} (hyp : Fr μ α s) (within : μ ||| 576 = μ := by decide) :
    Fr μ α (layRefpb c l big mask s) := by
  refine Fr.via hyp ?_ within; unfold layRefpb; try dsimp only
  repeat' (first | (with_reducible first | exact Fr.refl _ _ | assumption | refine Fr.ite ?_ ?_ | refine State.setLay_fr ?_ | refine protoAlert_fr ?_ | refine forEach_fr ?_ (fun _ _ => ?_)) | split)

theorem softMap_fr {μ : ℕ} {α : State} {c : ℕ} {l : ℕ} {bank : ℕ} {row : ℕ} {i : ℕ} {s : State} (hyp : Fr μ α s) (within : μ ||| 512 = μ := by decide) :
    Fr μ α (softMap c l bank row i s) := by
  refine Fr.via hyp ?_ within; unfold softMap; try dsimp only
  repeat' (first | (with_reducible first | exact Fr.refl _ _ | assumption | refine Fr.ite ?_ ?_ | refine State.setLay_fr ?_) | split | with_reducible refine Fr.set_dram ?_)

theorem layRpr_fr {μ : ℕ} {α : State} {c : ℕ} {l : ℕ} {bank : ℕ} {row : ℕ} {s : State} (hyp : Fr μ α s) (within : μ ||| 576 = μ := by decide) :
    Fr μ α (layRpr c l bank row s) := by
  refine Fr.via hyp ?_ within; unfold layRpr; try dsimp only
  repeat' (first | (with_reducible first | exact Fr.refl _ _ | assumption | refine Fr.ite ?_ ?_ | refine softMap_fr ?_ | refine State.setLay_fr ?_ | refine protoAlert_fr ?_) | split)

theorem layPre_fr {μ : ℕ} {α : State} {c : ℕ} {l : ℕ} {bank : ℕ} {s : State} (hyp : Fr μ α s) (within : μ ||| 576 = μ := by decide) :
    Fr μ α (layPre c l bank s) := by
  refine Fr.via hyp ?_ within; unfold layPre; try dsimp only
  repeat' (first | (with_reducible first | exact Fr.refl _ _ | assumption | refine Fr.ite ?_ ?_ | refine State.setLay_fr ?_ | refine protoAlert_fr ?_) | split)

theorem layAct_fr {μ : ℕ} {α : State} {c : ℕ} {l : ℕ} {bank : ℕ} {row : ℕ} {s : State} (hyp : Fr μ α s) (within : μ ||| 576 = μ := by decide) :
    Fr μ α (layAct c l bank row s) := by
  refine Fr.via hyp ?_ within; unfold layAct; try dsimp only
  repeat' (first | (with_reducible first | exact Fr.refl _ _ | assumption | refine Fr.ite ?_ ?_ | refine State.setLay_fr ?_ | refine protoAlert_fr ?_) | split)

theorem layParity_fr {μ : ℕ} {α : State} {c : ℕ} {s : State} (hyp : Fr μ α s) (within : μ ||| 576 = μ := by decide) :
    Fr μ α (layParity c s) := by
  refine Fr.via hyp ?_ within; unfold layParity; try dsimp only
  repeat' (first | (with_reducible first | exact Fr.refl _ _ | assumption | refine Fr.ite ?_ ?_ | refine State.setLay_fr ?_ | refine alertOn_fr ?_ | refine forEach_fr ?_ (fun _ _ => ?_)) | split)

theorem driveCmd_fr {μ : ℕ} {α : State} {c : ℕ} {bad : Bool} {cmd : SdiCmd} {s : State} (hyp : Fr μ α s) (within : μ ||| 576 = μ := by decide) :
    Fr μ α (driveCmd c bad cmd s) := by
  refine Fr.via hyp ?_ within; unfold driveCmd; try dsimp only
  repeat' (first | (with_reducible first | exact Fr.refl _ _ | assumption | refine Fr.ite ?_ ?_ | refine layMrw_fr ?_ | refine layMrwb_fr ?_ | refine laySrx_fr ?_ | refine laySre_fr ?_ | refine layRefpb_fr ?_ | refine layRpr_fr ?_ | refine layPreab_fr ?_ | refine layPre_fr ?_ | refine layAct_fr ?_ | refine layParity_fr ?_) | split)

theorem issueRow_fr {μ : ℕ} {α : State} {c : ℕ} {slot : ℕ} {bad : Bool} {kind : RowKind} {cmd : SdiCmd} {s : State} (hyp : Fr μ α s) (within : μ ||| 262720 = μ := by decide) :
    Fr μ α (issueRow c slot bad kind cmd s) := by
  refine Fr.via hyp ?_ within; unfold issueRow; try dsimp only
  repeat' (first | (with_reducible first | exact Fr.refl _ _ | assumption | refine Fr.ite ?_ ?_ | refine driveCmd_fr ?_ | refine State.modChan_fr ?_ | refine State.bump_fr ?_ | refine count_fr ?_ | refine noteCmd_fr ?_) | split)

theorem softRepair_fr {μ : ℕ} {α : State} {c : ℕ} {m : Move} {s : State} (hyp : Fr μ α s) (within : μ ||| 262720 = μ := by decide) :
    Fr μ α (softRepair c m s) := by
  refine Fr.via hyp ?_ within; unfold softRepair; try dsimp only
  repeat' (first | (with_reducible first | exact Fr.refl _ _ | assumption | refine Fr.ite ?_ ?_ | refine State.bump_fr ?_ | refine State.modChan_fr ?_ | refine noteCmd_fr ?_ | refine driveCmd_fr ?_ | refine issueRow_fr ?_) | split)

theorem logRepair_fr {μ : ℕ} {α : State} {word : ℕ} {c : ℕ} {s : State} (hyp : Fr μ α s) (within : μ ||| 282840 = μ := by decide) :
    Fr μ α (logRepair word c s) := by
  refine Fr.via hyp ?_ within; unfold logRepair; try dsimp only
  repeat' (first | (with_reducible first | exact Fr.refl _ _ | assumption | refine Fr.ite ?_ ?_ | refine State.setOb_fr ?_ | refine State.setPath_fr ?_ | refine raise_fr ?_) | split)

theorem unprotect_fr {μ : ℕ} {α : State} {c : ℕ} {layer : ℕ} {bank : ℕ} {row : ℕ} {s : State} (hyp : Fr μ α s) (within : μ ||| 282840 = μ := by decide) :
    Fr μ α (unprotect c layer bank row s) := by
  refine Fr.via hyp ?_ within; unfold unprotect; try dsimp only
  repeat' (first | (with_reducible first | exact Fr.refl _ _ | assumption | refine Fr.ite ?_ ?_ | refine raise_fr ?_ | refine State.bump_fr ?_ | refine logRepair_fr ?_ | refine State.modChan_fr ?_) | split)

theorem bufferComplete_fr {μ : ℕ} {α : State} {c : ℕ} {s : State} (hyp : Fr μ α s) (within : μ ||| 283352 = μ := by decide) :
    Fr μ α (bufferComplete c s) := by
  refine Fr.via hyp ?_ within; unfold bufferComplete; try dsimp only
  repeat' (first | (with_reducible first | exact Fr.refl _ _ | assumption | refine Fr.ite ?_ ?_ | refine softRepair_fr ?_ | refine State.modChan_fr ?_ | refine unprotect_fr ?_) | split)

theorem withheldMany_fr {μ : ℕ} {α : State} {c : ℕ} {n : ℕ} {s : State} (hyp : Fr μ α s) (within : μ ||| 64 = μ := by decide) :
    Fr μ α (withheldMany c n s) := by
  refine Fr.via hyp ?_ within; unfold withheldMany; try dsimp only
  repeat' (first | (with_reducible first | exact Fr.refl _ _ | assumption | refine Fr.ite ?_ ?_ | refine State.bumpBy_fr ?_) | split)

theorem withheld_fr {μ : ℕ} {α : State} {c : ℕ} {s : State} (hyp : Fr μ α s) (within : μ ||| 64 = μ := by decide) :
    Fr μ α (withheld c s) := by
  refine Fr.via hyp ?_ within; unfold withheld; try dsimp only
  repeat' (first | (with_reducible first | exact Fr.refl _ _ | assumption | refine Fr.ite ?_ ?_ | refine withheldMany_fr ?_) | split)

theorem calSlot_fr {μ : ℕ} {α : State} {c : ℕ} {slot : ℕ} {after : List (Option PLine)} {s : State} (hyp : Fr μ α s) (within : μ ||| 262208 = μ := by decide) :
    Fr μ α (calSlot c slot after s) := by
  refine Fr.via hyp ?_ within; unfold calSlot; try dsimp only
  repeat' (first | (with_reducible first | exact Fr.refl _ _ | assumption | refine Fr.ite ?_ ?_ | refine withheld_fr ?_ | refine noteCmd_fr ?_) | split)

theorem calibrationBad_fr {μ : ℕ} {α : State} {c : ℕ} {s : State} (hyp : Fr μ α s) (within : μ ||| 20696 = μ := by decide) :
    Fr μ α (calibrationBad c s) := by
  refine Fr.via hyp ?_ within; unfold calibrationBad; try dsimp only
  repeat' (first | (with_reducible first | exact Fr.refl _ _ | assumption | refine Fr.ite ?_ ?_ | refine State.bump_fr ?_ | refine raise_fr ?_) | split)

theorem shaperHome_fr {μ : ℕ} {α : State} {l : ℕ} {sub : ℕ} {v : ℕ} {who : Completer} {s0 : State} (hyp : Fr μ α s0) (within : μ ||| 68506072 = μ := by decide) :
    FrW μ α (shaperHome l sub v who s0) := by
  refine FrW.via hyp ?_ within; unfold shaperHome; try dsimp only [applyHome]
  repeat' (first | (with_reducible first | exact Fr.refl _ _ | assumption | refine frW_done ?_ | refine frW_refused ?_ | refine frW_wait ?_ | refine frW_denied ?_ | refine Fr.ite ?_ ?_ | refine settingHome_fr ?_ | refine FrW.of_done (settingHome_fr ?_) (by assumption) | refine FrW.of_refused (settingHome_fr ?_) (by assumption) | refine FrW.of_wait (settingHome_fr ?_) (by assumption) | refine qosDenied_fr ?_ | refine FrW.of_done (qosDenied_fr ?_) (by assumption) | refine FrW.of_refused (qosDenied_fr ?_) (by assumption) | refine FrW.of_wait (qosDenied_fr ?_) (by assumption)) | split)

theorem meterHome_fr {μ : ℕ} {α : State} {l : ℕ} {sub : ℕ} {v : ℕ} {who : Completer} {s0 : State} (hyp : Fr μ α s0) (within : μ ||| 68506072 = μ := by decide) :
    FrW μ α (meterHome l sub v who s0) := by
  refine FrW.via hyp ?_ within; unfold meterHome; try dsimp only [applyHome]
  repeat' (first | (with_reducible first | exact Fr.refl _ _ | assumption | refine frW_done ?_ | refine frW_refused ?_ | refine frW_wait ?_ | refine frW_denied ?_ | refine Fr.ite ?_ ?_ | refine qosDenied_fr ?_ | refine FrW.of_done (qosDenied_fr ?_) (by assumption) | refine FrW.of_refused (qosDenied_fr ?_) (by assumption) | refine FrW.of_wait (qosDenied_fr ?_) (by assumption) | refine settingHome_fr ?_ | refine FrW.of_done (settingHome_fr ?_) (by assumption) | refine FrW.of_refused (settingHome_fr ?_) (by assumption) | refine FrW.of_wait (settingHome_fr ?_) (by assumption)) | split)

theorem syncObjectHome_fr {μ : ℕ} {α : State} {o : ℕ} {value : ℕ} {owner : Bool} {who : Completer} {s0 : State} (hyp : Fr μ α s0) (within : μ ||| 70144472 = μ := by decide) :
    FrW μ α (syncObjectHome o value owner who s0) := by
  refine FrW.via hyp ?_ within; unfold syncObjectHome; try dsimp only [applyHome]
  repeat' (first | (with_reducible first | exact Fr.refl _ _ | assumption | refine frW_done ?_ | refine frW_refused ?_ | refine frW_wait ?_ | refine frW_denied ?_ | refine Fr.ite ?_ ?_ | refine putSync_fr ?_ | refine raiseNode_fr ?_) | split)

theorem sliceRejoinHome_fr {μ : ℕ} {α : State} {x : ℕ} {who : Completer} {s0 : State} (hyp : Fr μ α s0) (within : μ ||| 589824 = μ := by decide) :
    FrW μ α (sliceRejoinHome x who s0) := by
  refine FrW.via hyp ?_ within; unfold sliceRejoinHome; try dsimp only [applyHome]
  repeat' (first | (with_reducible first | exact Fr.refl _ _ | assumption | refine frW_done ?_ | refine frW_refused ?_ | refine frW_wait ?_ | refine frW_denied ?_ | refine Fr.ite ?_ ?_ | refine State.setCache_fr ?_ | refine State.armRejoin_fr ?_) | split)

theorem flushAllHome_fr {μ : ℕ} {α : State} {who : Completer} {s0 : State} (hyp : Fr μ α s0) (within : μ ||| 67916248 = μ := by decide) :
    FrW μ α (flushAllHome who s0) := by
  refine FrW.via hyp ?_ within; unfold flushAllHome; try dsimp only [applyHome]
  repeat' (first | (with_reducible first | exact Fr.refl _ _ | assumption | refine frW_done ?_ | refine frW_refused ?_ | refine frW_wait ?_ | refine frW_denied ?_ | refine Fr.ite ?_ ?_ | refine State.setCache_fr ?_ | refine writeBackAll_fr ?_) | split)

theorem unitRejoinHome_fr {μ : ℕ} {α : State} {u : ℕ} {who : Completer} {s0 : State} (hyp : Fr μ α s0) (within : μ ||| 196608 = μ := by decide) :
    FrW μ α (unitRejoinHome u who s0) := by
  refine FrW.via hyp ?_ within; unfold unitRejoinHome; try dsimp only [applyHome]
  repeat' (first | (with_reducible first | exact Fr.refl _ _ | assumption | refine frW_done ?_ | refine frW_refused ?_ | refine frW_wait ?_ | refine frW_denied ?_ | refine Fr.ite ?_ ?_ | refine State.setFeeds_fr ?_ | refine State.armRejoin_fr ?_) | split)

theorem recordCheck_fr {μ : ℕ} {α : State} {x : ℕ} {code : ℕ} {s : State} (hyp : Fr μ α s) (within : μ ||| 64 = μ := by decide) :
    Fr μ α (recordCheck x code s) := by
  refine Fr.via hyp ?_ within; unfold recordCheck; try dsimp only
  repeat' (first | (with_reducible first | exact Fr.refl _ _ | assumption | refine Fr.ite ?_ ?_ | refine State.setOb_fr ?_) | split)

theorem standingHome_fr {μ : ℕ} {α : State} {x : ℕ} {value : List Byte} {who : Completer} {s0 : State} (hyp : Fr μ α s0) (within : μ ||| 20696 = μ := by decide) :
    FrW μ α (standingHome x value who s0) := by
  refine FrW.via hyp ?_ within; unfold standingHome; try dsimp only [applyHome]
  repeat' (first | (with_reducible first | exact Fr.refl _ _ | assumption | refine frW_done ?_ | refine frW_refused ?_ | refine frW_wait ?_ | refine frW_denied ?_ | refine Fr.ite ?_ ?_ | refine recordCheck_fr ?_ | refine raiseNode_fr ?_ | refine State.setOb_fr ?_) | split)

theorem poolResetHome_fr {μ : ℕ} {α : State} {r : ℕ} {who : Completer} {s0 : State} (hyp : Fr μ α s0) (within : μ ||| 131072 = μ := by decide) :
    FrW μ α (poolResetHome r who s0) := by
  refine FrW.via hyp ?_ within; unfold poolResetHome; try dsimp only [applyHome]
  repeat' (first | (with_reducible first | exact Fr.refl _ _ | assumption | refine frW_done ?_ | refine frW_refused ?_ | refine frW_wait ?_ | refine frW_denied ?_ | refine Fr.ite ?_ ?_ | refine State.setFeeds_fr ?_) | split)

theorem portRejoinHome_fr {μ : ℕ} {α : State} {t : ℕ} {who : Completer} {s0 : State} (hyp : Fr μ α s0) (within : μ ||| 196608 = μ := by decide) :
    FrW μ α (portRejoinHome t who s0) := by
  refine FrW.via hyp ?_ within; unfold portRejoinHome; try dsimp only [applyHome]
  repeat' (first | (with_reducible first | exact Fr.refl _ _ | assumption | refine frW_done ?_ | refine frW_refused ?_ | refine frW_wait ?_ | refine frW_denied ?_ | refine Fr.ite ?_ ?_ | refine State.setFeeds_fr ?_ | refine State.armRejoin_fr ?_) | split)

theorem portWorldHome_fr {μ : ℕ} {α : State} {t : ℕ} {v : ℕ} {who : Completer} {s0 : State} (hyp : Fr μ α s0) (within : μ ||| 64 = μ := by decide) :
    FrW μ α (portWorldHome t v who s0) := by
  refine FrW.via hyp ?_ within; unfold portWorldHome; try dsimp only [applyHome]
  repeat' (first | (with_reducible first | exact Fr.refl _ _ | assumption | refine frW_done ?_ | refine frW_refused ?_ | refine frW_wait ?_ | refine frW_denied ?_ | refine Fr.ite ?_ ?_ | refine State.setOb_fr ?_) | split)

theorem fenceRequestHome_fr {μ : ℕ} {α : State} {mask : ℕ} {who : Completer} {s0 : State} (hyp : Fr μ α s0) (within : μ ||| 70144472 = μ := by decide) :
    FrW μ α (fenceRequestHome mask who s0) := by
  refine FrW.via hyp ?_ within; unfold fenceRequestHome; try dsimp only [applyHome]
  repeat' (first | (with_reducible first | exact Fr.refl _ _ | assumption | refine frW_done ?_ | refine frW_refused ?_ | refine frW_wait ?_ | refine frW_denied ?_ | refine Fr.ite ?_ ?_ | refine fenceContext_fr ?_ | refine applyHome_fr ?_ (fun _ => ?_) | refine forEach_fr ?_ (fun _ _ => ?_)) | split)

theorem fenceClearHome_fr {μ : ℕ} {α : State} {mask : ℕ} {who : Completer} {s0 : State} (hyp : Fr μ α s0) (within : μ ||| 65536 = μ := by decide) :
    FrW μ α (fenceClearHome mask who s0) := by
  refine FrW.via hyp ?_ within; unfold fenceClearHome; try dsimp only [applyHome]
  repeat' (first | (with_reducible first | exact Fr.refl _ _ | assumption | refine frW_done ?_ | refine frW_refused ?_ | refine frW_wait ?_ | refine frW_denied ?_ | refine Fr.ite ?_ ?_ | refine State.setPlans_fr ?_ | refine applyHome_fr ?_ (fun _ => ?_)) | split)

theorem unarm_fr {μ : ℕ} {α : State} {s : State} (hyp : Fr μ α s) (within : μ ||| 65600 = μ := by decide) :
    Fr μ α (unarm s) := by
  refine Fr.via hyp ?_ within; unfold unarm; try dsimp only
  repeat' (first | (with_reducible first | exact Fr.refl _ _ | assumption | refine Fr.ite ?_ ?_ | refine State.setPlans_fr ?_ | refine State.setOb_fr ?_ | refine setPlanState_fr ?_) | split)

theorem offerChecked_fr {μ : ℕ} {α : State} {q : Ask} {s : State} (hyp : Fr μ α s) (within : μ ||| 71193048 = μ := by decide) :
    Fr μ α (offerChecked q s) := by
  refine Fr.via hyp ?_ within; unfold offerChecked; try dsimp only
  repeat' (first | (with_reducible first | exact Fr.refl _ _ | assumption | refine Fr.ite ?_ ?_ | refine addAsk_fr ?_ | refine finish_fr ?_ | refine serveAll_fr ?_ | refine step5_fr ?_ | refine fr_snd (by assumption) (step5_fr ?_) | refine forwardAsk_fr ?_) | split)

theorem dropImage_fr {μ : ℕ} {α : State} {s : State} (hyp : Fr μ α s) (within : μ ||| 67371008 = μ := by decide) :
    Fr μ α (dropImage s) := by
  refine Fr.via hyp ?_ within; unfold dropImage; try dsimp only
  repeat' (first | (with_reducible first | exact Fr.refl _ _ | assumption | refine Fr.ite ?_ ?_ | refine abandonReads_fr ?_) | split)

theorem readImage_fr {μ : ℕ} {α : State} {world : Bool} {s : State} (hyp : Fr μ α s) (within : μ ||| 71193048 = μ := by decide) :
    Fr μ α (readImage world s) := by
  refine Fr.via hyp ?_ within; unfold readImage; try dsimp only
  repeat' (first | (with_reducible first | exact Fr.refl _ _ | assumption | refine Fr.ite ?_ ?_ | refine offerChecked_fr ?_ | refine dropImage_fr ?_ | refine forEach_fr ?_ (fun _ _ => ?_)) | split)

theorem loadPlan_fr {μ : ℕ} {α : State} {session : Bool} {s : State} (hyp : Fr μ α s) (within : μ ||| 71258584 = μ := by decide) :
    Fr μ α (loadPlan session s) := by
  refine Fr.via hyp ?_ within; unfold loadPlan; try dsimp only
  repeat' (first | (with_reducible first | exact Fr.refl _ _ | assumption | refine Fr.ite ?_ ?_ | refine State.setPlans_fr ?_ | refine State.setOb_fr ?_ | refine setPlanState_fr ?_ | refine readImage_fr ?_) | split)

theorem planCommand_fr {μ : ℕ} {α : State} {code : ℕ} {session : Bool} {who : Completer} {s0 : State} (hyp : Fr μ α s0) (within : μ ||| 71258584 = μ := by decide) :
    FrW μ α (planCommand code session who s0) := by
  refine FrW.via hyp ?_ within; unfold planCommand; try dsimp only [applyHome]
  repeat' (first | (with_reducible first | exact Fr.refl _ _ | assumption | refine frW_done ?_ | refine frW_refused ?_ | refine frW_wait ?_ | refine frW_denied ?_ | refine Fr.ite ?_ ?_ | refine unarm_fr ?_ | refine State.setPlans_fr ?_ | refine State.setOb_fr ?_ | refine setPlanState_fr ?_ | refine armPlan_fr ?_ | refine loadPlan_fr ?_) | split)

theorem planHome_fr {μ : ℕ} {α : State} {value : ℕ} {session : Bool} {who : Completer} {s0 : State} (hyp : Fr μ α s0) (within : μ ||| 71258584 = μ := by decide) :
    FrW μ α (planHome value session who s0) := by
  refine FrW.via hyp ?_ within; unfold planHome; try dsimp only [applyHome]
  repeat' (first | (with_reducible first | exact Fr.refl _ _ | assumption | refine frW_done ?_ | refine frW_refused ?_ | refine frW_wait ?_ | refine frW_denied ?_ | refine Fr.ite ?_ ?_ | refine planCommand_fr ?_ | refine FrW.of_done (planCommand_fr ?_) (by assumption) | refine FrW.of_refused (planCommand_fr ?_) (by assumption) | refine FrW.of_wait (planCommand_fr ?_) (by assumption)) | split)

theorem openMinHome_fr {μ : ℕ} {α : State} {v : ℕ} {who : Completer} {s0 : State} (hyp : Fr μ α s0) (within : μ ||| 68489664 = μ := by decide) :
    FrW μ α (openMinHome v who s0) := by
  refine FrW.via hyp ?_ within; unfold openMinHome; try dsimp only [applyHome]
  repeat' (first | (with_reducible first | exact Fr.refl _ _ | assumption | refine frW_done ?_ | refine frW_refused ?_ | refine frW_wait ?_ | refine frW_denied ?_ | refine Fr.ite ?_ ?_ | refine settingHome_fr ?_ | refine FrW.of_done (settingHome_fr ?_) (by assumption) | refine FrW.of_refused (settingHome_fr ?_) (by assumption) | refine FrW.of_wait (settingHome_fr ?_) (by assumption)) | split)

theorem intervalHome_fr {μ : ℕ} {α : State} {v : ℕ} {who : Completer} {s0 : State} (hyp : Fr μ α s0) (within : μ ||| 65728 = μ := by decide) :
    FrW μ α (intervalHome v who s0) := by
  refine FrW.via hyp ?_ within; unfold intervalHome; try dsimp only [applyHome]
  repeat' (first | (with_reducible first | exact Fr.refl _ _ | assumption | refine frW_done ?_ | refine frW_refused ?_ | refine frW_wait ?_ | refine frW_denied ?_ | refine Fr.ite ?_ ?_ | refine pendTide_fr ?_ | refine State.setOb_fr ?_ | refine State.setPlans_fr ?_) | split)

theorem regionHome_fr {μ : ℕ} {α : State} {r : ℕ} {v : ℕ} {owner : Bool} {who : Completer} {s0 : State} (hyp : Fr μ α s0) (within : μ ||| 68506072 = μ := by decide) :
    FrW μ α (regionHome r v owner who s0) := by
  refine FrW.via hyp ?_ within; unfold regionHome; try dsimp only [applyHome]
  repeat' (first | (with_reducible first | exact Fr.refl _ _ | assumption | refine frW_done ?_ | refine frW_refused ?_ | refine frW_wait ?_ | refine frW_denied ?_ | refine Fr.ite ?_ ?_ | refine pendTide_fr ?_ | refine applySetting_fr ?_ | refine State.setOb_fr ?_ | refine raise_fr ?_ | refine raiseNode_fr ?_) | split)

theorem setDomain_fr {μ : ℕ} {α : State} {u : ℕ} {src : ℕ} {div : ℕ} {s : State} (hyp : Fr μ α s) (within : μ ||| 16777280 = μ := by decide) :
    Fr μ α (setDomain u src div s) := by
  refine Fr.via hyp ?_ within; unfold setDomain; try dsimp only
  repeat' (first | (with_reducible first | exact Fr.refl _ _ | assumption | refine Fr.ite ?_ ?_ | refine State.setClk_fr ?_ | refine State.setOb_fr ?_) | split)

theorem gateSheaf_fr {μ : ℕ} {α : State} {u : ℕ} {s : State} (hyp : Fr μ α s) (within : μ ||| 16777280 = μ := by decide) :
    Fr μ α (gateSheaf u s) := by
  refine Fr.via hyp ?_ within; unfold gateSheaf; try dsimp only
  repeat' (first | (with_reducible first | exact Fr.refl _ _ | assumption | refine Fr.ite ?_ ?_ | refine setDomain_fr ?_) | split)

theorem ungateSheaf_fr {μ : ℕ} {α : State} {u : ℕ} {s : State} (hyp : Fr μ α s) (within : μ ||| 16777280 = μ := by decide) :
    Fr μ α (ungateSheaf u s) := by
  refine Fr.via hyp ?_ within; unfold ungateSheaf; try dsimp only
  repeat' (first | (with_reducible first | exact Fr.refl _ _ | assumption | refine Fr.ite ?_ ?_ | refine setDomain_fr ?_) | split)

theorem enableHome_fr {μ : ℕ} {α : State} {sub : ℕ} {v : ℕ} {who : Completer} {s0 : State} (hyp : Fr μ α s0) (within : μ ||| 16777536 = μ := by decide) :
    FrW μ α (enableHome sub v who s0) := by
  refine FrW.via hyp ?_ within; unfold enableHome; try dsimp only [applyHome]
  repeat' (first | (with_reducible first | exact Fr.refl _ _ | assumption | refine frW_done ?_ | refine frW_refused ?_ | refine frW_wait ?_ | refine frW_denied ?_ | refine Fr.ite ?_ ?_ | refine startTraining_fr ?_ | refine State.setPort_fr ?_ | refine State.setOb_fr ?_ | refine gateSheaf_fr ?_ | refine ungateSheaf_fr ?_ | refine forEach_fr ?_ (fun _ _ => ?_)) | split)

theorem nodeRejoinHome_fr {μ : ℕ} {α : State} {n : ℕ} {who : Completer} {s0 : State} (hyp : Fr μ α s0) (within : μ ||| 71258588 = μ := by decide) :
    FrW μ α (nodeRejoinHome n who s0) := by
  refine FrW.via hyp ?_ within; unfold nodeRejoinHome; try dsimp only [applyHome]
  repeat' (first | (with_reducible first | exact Fr.refl _ _ | assumption | refine frW_done ?_ | refine frW_refused ?_ | refine frW_wait ?_ | refine frW_denied ?_ | refine Fr.ite ?_ ?_ | refine State.setPower_fr ?_ | refine State.armRejoin_fr ?_ | refine readImage_fr ?_) | split)

theorem coldState_fr {μ : ℕ} {α : State} {kind : ℕ} {s : State} (hyp : Fr μ α s) (within : μ ||| 134158332 = μ := by decide) :
    Fr μ α (coldState kind s) := by
  refine Fr.via hyp ?_ within
  unfold coldState
  refine State.setOb_fr (State.setOb_fr ?_)
  constructor <;> first | exact fun _ => rfl | exact fun h => absurd h (by decide)

theorem setReset_fr {μ : ℕ} {α : State} {held : Bool} {s : State} (hyp : Fr μ α s) (within : μ ||| 134158332 = μ := by decide) :
    Fr μ α (setReset held s) := by
  refine Fr.via hyp ?_ within; unfold setReset; try dsimp only
  repeat' (first | (with_reducible first | exact Fr.refl _ _ | assumption | refine Fr.ite ?_ ?_ | refine State.setOb_fr ?_ | refine coldState_fr ?_) | split | with_reducible refine Fr.set_power_pins_wrap_clk ?_)

theorem warmReset_fr {μ : ℕ} {α : State} {s : State} (hyp : Fr μ α s) (within : μ ||| 134174716 = μ := by decide) :
    Fr μ α (warmReset s) := by
  refine Fr.via hyp ?_ within; unfold warmReset; try dsimp only
  repeat' (first | (with_reducible first | exact Fr.refl _ _ | assumption | refine Fr.ite ?_ ?_ | refine beginWarm_fr ?_ | refine State.setUpd_fr ?_ | refine raiseNode_fr ?_ | refine State.setOb_fr ?_ | refine State.bump_fr ?_ | refine setNode_fr ?_ | refine setReset_fr ?_) | split)

theorem warmHome_fr {μ : ℕ} {α : State} {who : Completer} {s0 : State} (hyp : Fr μ α s0) (within : μ ||| 134174716 = μ := by decide) :
    FrW μ α (warmHome who s0) := by
  refine FrW.via hyp ?_ within; unfold warmHome; try dsimp only [applyHome]
  repeat' (first | (with_reducible first | exact Fr.refl _ _ | assumption | refine frW_done ?_ | refine frW_refused ?_ | refine frW_wait ?_ | refine frW_denied ?_ | refine Fr.ite ?_ ?_ | refine warmReset_fr ?_) | split)

theorem stateRefused_fr {μ : ℕ} {α : State} {reason : ℕ} {s : State} (hyp : Fr μ α s) (within : μ ||| 20696 = μ := by decide) :
    FrW μ α (stateRefused reason s) := by
  refine FrW.via hyp ?_ within; unfold stateRefused; try dsimp only
  repeat' (first | (with_reducible first | exact Fr.refl _ _ | assumption | refine frW_done ?_ | refine frW_refused ?_ | refine frW_wait ?_ | refine frW_denied ?_ | refine Fr.ite ?_ ?_ | refine State.setOb_fr ?_ | refine raiseNode_fr ?_) | split)

theorem stateHome_fr {μ : ℕ} {α : State} {v : ℕ} {who : Completer} {s0 : State} (hyp : Fr μ α s0) (within : μ ||| 85743068 = μ := by decide) :
    FrW μ α (stateHome v who s0) := by
  refine FrW.via hyp ?_ within; unfold stateHome; try dsimp only [applyHome]
  repeat' (first | (with_reducible first | exact Fr.refl _ _ | assumption | refine frW_done ?_ | refine frW_refused ?_ | refine frW_wait ?_ | refine frW_denied ?_ | refine Fr.ite ?_ ?_ | refine stateRefused_fr ?_ | refine FrW.of_done (stateRefused_fr ?_) (by assumption) | refine FrW.of_refused (stateRefused_fr ?_) (by assumption) | refine FrW.of_wait (stateRefused_fr ?_) (by assumption) | refine beginRest_fr ?_ | refine beginWake_fr ?_ | refine State.setPower_fr ?_ | refine State.setOb_fr ?_) | split)

theorem maskHome_fr {μ : ℕ} {α : State} {k : ℕ} {sub : ℕ} {v : ℕ} {who : Completer} {s0 : State} (hyp : Fr μ α s0) (within : μ ||| 64 = μ := by decide) :
    FrW μ α (maskHome k sub v who s0) := by
  refine FrW.via hyp ?_ within; unfold maskHome; try dsimp only [applyHome]
  repeat' (first | (with_reducible first | exact Fr.refl _ _ | assumption | refine frW_done ?_ | refine frW_refused ?_ | refine frW_wait ?_ | refine frW_denied ?_ | refine Fr.ite ?_ ?_ | refine State.setOb_fr ?_ | refine foldl_fr ?_ (fun _ _ => ?_) | refine foldl_frS ?_ (fun _ _ => ?_) | refine foldl_frF ?_ (fun _ _ => ?_)) | split)

theorem clearMirror_fr {μ : ℕ} {α : State} {s : State} (hyp : Fr μ α s) (within : μ ||| 4096 = μ := by decide) :
    Fr μ α (clearMirror s) := by
  refine Fr.via hyp ?_ within; unfold clearMirror; try dsimp only
  repeat' (first | (with_reducible first | exact Fr.refl _ _ | assumption | refine Fr.ite ?_ ?_) | split | with_reducible refine Fr.set_nvm ?_)

theorem clearAlarm_fr {μ : ℕ} {α : State} {s : State} (hyp : Fr μ α s) (within : μ ||| 16 = μ := by decide) :
    Fr μ α (clearAlarm s) := by
  refine Fr.via hyp ?_ within; unfold clearAlarm; try dsimp only
  repeat' (first | (with_reducible first | exact Fr.refl _ _ | assumption | refine Fr.ite ?_ ?_) | split | with_reducible refine Fr.set_pins ?_)

theorem clearLog_fr {μ : ℕ} {α : State} {s : State} (hyp : Fr μ α s) (within : μ ||| 128 = μ := by decide) :
    Fr μ α (clearLog s) := by
  refine Fr.via hyp ?_ within; unfold clearLog; try dsimp only
  repeat' (first | (with_reducible first | exact Fr.refl _ _ | assumption | refine Fr.ite ?_ ?_) | split | with_reducible refine Fr.set_mgmt ?_)

theorem macHome_fr {μ : ℕ} {α : State} {v : ℕ} {who : Completer} {s0 : State} (hyp : Fr μ α s0) (within : μ ||| 68489664 = μ := by decide) :
    FrW μ α (macHome v who s0) := by
  refine FrW.via hyp ?_ within; unfold macHome; try dsimp only [applyHome]
  repeat' (first | (with_reducible first | exact Fr.refl _ _ | assumption | refine frW_done ?_ | refine frW_refused ?_ | refine frW_wait ?_ | refine frW_denied ?_ | refine Fr.ite ?_ ?_ | refine settingHome_fr ?_ | refine FrW.of_done (settingHome_fr ?_) (by assumption) | refine FrW.of_refused (settingHome_fr ?_) (by assumption) | refine FrW.of_wait (settingHome_fr ?_) (by assumption)) | split)

theorem spreadHome_fr {μ : ℕ} {α : State} {sub : ℕ} {v : ℕ} {who : Completer} {s0 : State} (hyp : Fr μ α s0) (within : μ ||| 68489664 = μ := by decide) :
    FrW μ α (spreadHome sub v who s0) := by
  refine FrW.via hyp ?_ within; unfold spreadHome; try dsimp only [applyHome]
  repeat' (first | (with_reducible first | exact Fr.refl _ _ | assumption | refine frW_done ?_ | refine frW_refused ?_ | refine frW_wait ?_ | refine frW_denied ?_ | refine Fr.ite ?_ ?_ | refine settingHome_fr ?_ | refine FrW.of_done (settingHome_fr ?_) (by assumption) | refine FrW.of_refused (settingHome_fr ?_) (by assumption) | refine FrW.of_wait (settingHome_fr ?_) (by assumption)) | split)

theorem copyBackHome_fr {μ : ℕ} {α : State} {c : ℕ} {who : Completer} {s0 : State} (hyp : Fr μ α s0) (within : μ ||| 262144 = μ := by decide) :
    FrW μ α (copyBackHome c who s0) := by
  refine FrW.via hyp ?_ within; unfold copyBackHome; try dsimp only [applyHome]
  repeat' (first | (with_reducible first | exact Fr.refl _ _ | assumption | refine frW_done ?_ | refine frW_refused ?_ | refine frW_wait ?_ | refine frW_denied ?_ | refine Fr.ite ?_ ?_ | refine State.setPath_fr ?_) | split)

theorem queueMove_fr {μ : ℕ} {α : State} {c : ℕ} {layer : ℕ} {bank : ℕ} {row : ℕ} {displaced : Bool} {s : State} (hyp : Fr μ α s) (within : μ ||| 262144 = μ := by decide) :
    Fr μ α (queueMove c layer bank row displaced s) := by
  refine Fr.via hyp ?_ within; unfold queueMove; try dsimp only
  repeat' (first | (with_reducible first | exact Fr.refl _ _ | assumption | refine Fr.ite ?_ ?_ | refine State.modChan_fr ?_) | split)

theorem reconstituteHome_fr {μ : ℕ} {α : State} {c : ℕ} {who : Completer} {s0 : State} (hyp : Fr μ α s0) (within : μ ||| 262208 = μ := by decide) :
    FrW μ α (reconstituteHome c who s0) := by
  refine FrW.via hyp ?_ within; unfold reconstituteHome; try dsimp only [applyHome]
  repeat' (first | (with_reducible first | exact Fr.refl _ _ | assumption | refine frW_done ?_ | refine frW_refused ?_ | refine frW_wait ?_ | refine frW_denied ?_ | refine Fr.ite ?_ ?_ | refine State.setOb_fr ?_ | refine queueMove_fr ?_ | refine State.setPath_fr ?_ | refine forEach_fr ?_ (fun _ _ => ?_)) | split)

theorem shutdownClearHome_fr {μ : ℕ} {α : State} {who : Completer} {s0 : State} (hyp : Fr μ α s0) (within : μ ||| 4160 = μ := by decide) :
    FrW μ α (shutdownClearHome who s0) := by
  refine FrW.via hyp ?_ within; unfold shutdownClearHome; try dsimp only [applyHome]
  repeat' (first | (with_reducible first | exact Fr.refl _ _ | assumption | refine frW_done ?_ | refine frW_refused ?_ | refine frW_wait ?_ | refine frW_denied ?_ | refine Fr.ite ?_ ?_ | refine State.setOb_fr ?_) | split | with_reducible refine Fr.set_nvm ?_)

theorem logicExcludeHome_fr {μ : ℕ} {α : State} {v : ℕ} {who : Completer} {s0 : State} (hyp : Fr μ α s0) (within : μ ||| 4096 = μ := by decide) :
    FrW μ α (logicExcludeHome v who s0) := by
  refine FrW.via hyp ?_ within; unfold logicExcludeHome; try dsimp only [applyHome]
  repeat' (first | (with_reducible first | exact Fr.refl _ _ | assumption | refine frW_done ?_ | refine frW_refused ?_ | refine frW_wait ?_ | refine frW_denied ?_ | refine Fr.ite ?_ ?_ | refine gatherPersist_fr ?_ | refine FrW.of_done (gatherPersist_fr ?_) (by assumption) | refine FrW.of_refused (gatherPersist_fr ?_) (by assumption) | refine FrW.of_wait (gatherPersist_fr ?_) (by assumption)) | split)

theorem layerExcludeHome_fr {μ : ℕ} {α : State} {st : ℕ} {sub : ℕ} {v : ℕ} {who : Completer} {s0 : State} (hyp : Fr μ α s0) (within : μ ||| 4096 = μ := by decide) :
    FrW μ α (layerExcludeHome st sub v who s0) := by
  refine FrW.via hyp ?_ within; unfold layerExcludeHome; try dsimp only [applyHome]
  repeat' (first | (with_reducible first | exact Fr.refl _ _ | assumption | refine frW_done ?_ | refine frW_refused ?_ | refine frW_wait ?_ | refine frW_denied ?_ | refine Fr.ite ?_ ?_ | refine gatherPersist_fr ?_ | refine FrW.of_done (gatherPersist_fr ?_) (by assumption) | refine FrW.of_refused (gatherPersist_fr ?_) (by assumption) | refine FrW.of_wait (gatherPersist_fr ?_) (by assumption)) | split)

theorem updateDiscard_fr {μ : ℕ} {α : State} {s : State} (hyp : Fr μ α s) (within : μ ||| 20696 = μ := by decide) :
    FrW μ α (updateDiscard s) := by
  refine FrW.via hyp ?_ within; unfold updateDiscard; try dsimp only
  repeat' (first | (with_reducible first | exact Fr.refl _ _ | assumption | refine frW_done ?_ | refine frW_refused ?_ | refine frW_wait ?_ | refine frW_denied ?_ | refine Fr.ite ?_ ?_ | refine persistOwn_fr ?_ | refine State.setOb_fr ?_ | refine unverify_fr ?_ | refine setStaging_fr ?_ | refine updateDenied_fr ?_ | refine FrW.of_done (updateDenied_fr ?_) (by assumption) | refine FrW.of_refused (updateDenied_fr ?_) (by assumption) | refine FrW.of_wait (updateDenied_fr ?_) (by assumption)) | split)

theorem updateActivate_fr {μ : ℕ} {α : State} {others : Option Bool} {s : State} (hyp : Fr μ α s) (within : μ ||| 28888 = μ := by decide) :
    FrW μ α (updateActivate others s) := by
  refine FrW.via hyp ?_ within; unfold updateActivate; try dsimp only
  repeat' (first | (with_reducible first | exact Fr.refl _ _ | assumption | refine frW_done ?_ | refine frW_refused ?_ | refine frW_wait ?_ | refine frW_denied ?_ | refine Fr.ite ?_ ?_ | refine persistOwn_fr ?_ | refine setStaging_fr ?_ | refine raiseNode_fr ?_ | refine updateDenied_fr ?_ | refine FrW.of_done (updateDenied_fr ?_) (by assumption) | refine FrW.of_refused (updateDenied_fr ?_) (by assumption) | refine FrW.of_wait (updateDenied_fr ?_) (by assumption) | refine State.takeFree_fr ?_) | split)

theorem updateVerify_fr {μ : ℕ} {α : State} {s : State} (hyp : Fr μ α s) (within : μ ||| 20696 = μ := by decide) :
    FrW μ α (updateVerify s) := by
  refine FrW.via hyp ?_ within; unfold updateVerify; try dsimp only
  repeat' (first | (with_reducible first | exact Fr.refl _ _ | assumption | refine frW_done ?_ | refine frW_refused ?_ | refine frW_wait ?_ | refine frW_denied ?_ | refine Fr.ite ?_ ?_ | refine updateDenied_fr ?_ | refine FrW.of_done (updateDenied_fr ?_) (by assumption) | refine FrW.of_refused (updateDenied_fr ?_) (by assumption) | refine FrW.of_wait (updateDenied_fr ?_) (by assumption) | refine unverify_fr ?_ | refine setStaging_fr ?_) | split)

theorem updateBegin_fr {μ : ℕ} {α : State} {s : State} (hyp : Fr μ α s) (within : μ ||| 33575128 = μ := by decide) :
    FrW μ α (updateBegin s) := by
  refine FrW.via hyp ?_ within; unfold updateBegin; try dsimp only
  repeat' (first | (with_reducible first | exact Fr.refl _ _ | assumption | refine frW_done ?_ | refine frW_refused ?_ | refine frW_wait ?_ | refine frW_denied ?_ | refine Fr.ite ?_ ?_ | refine State.setOb_fr ?_ | refine State.setUpd_fr ?_ | refine unverify_fr ?_ | refine setStaging_fr ?_ | refine updateDenied_fr ?_ | refine FrW.of_done (updateDenied_fr ?_) (by assumption) | refine FrW.of_refused (updateDenied_fr ?_) (by assumption) | refine FrW.of_wait (updateDenied_fr ?_) (by assumption)) | split)

theorem updateHome_fr {μ : ℕ} {α : State} {code : ℕ} {others : Option Bool} {who : Completer} {s0 : State} (hyp : Fr μ α s0) (within : μ ||| 33583320 = μ := by decide) :
    FrW μ α (updateHome code others who s0) := by
  refine FrW.via hyp ?_ within; unfold updateHome; try dsimp only [applyHome]
  repeat' (first | (with_reducible first | exact Fr.refl _ _ | assumption | refine frW_done ?_ | refine frW_refused ?_ | refine frW_wait ?_ | refine frW_denied ?_ | refine Fr.ite ?_ ?_ | refine updateDiscard_fr ?_ | refine FrW.of_done (updateDiscard_fr ?_) (by assumption) | refine FrW.of_refused (updateDiscard_fr ?_) (by assumption) | refine FrW.of_wait (updateDiscard_fr ?_) (by assumption) | refine updateActivate_fr ?_ | refine FrW.of_done (updateActivate_fr ?_) (by assumption) | refine FrW.of_refused (updateActivate_fr ?_) (by assumption) | refine FrW.of_wait (updateActivate_fr ?_) (by assumption) | refine updateVerify_fr ?_ | refine FrW.of_done (updateVerify_fr ?_) (by assumption) | refine FrW.of_refused (updateVerify_fr ?_) (by assumption) | refine FrW.of_wait (updateVerify_fr ?_) (by assumption) | refine updateBegin_fr ?_ | refine FrW.of_done (updateBegin_fr ?_) (by assumption) | refine FrW.of_refused (updateBegin_fr ?_) (by assumption) | refine FrW.of_wait (updateBegin_fr ?_) (by assumption)) | split)

theorem filterHome_fr {μ : ℕ} {α : State} {idx : ℕ} {sub : ℕ} {v : ℕ} {first : ℕ} {who : Completer} {s0 : State} (hyp : Fr μ α s0) (within : μ ||| 64 = μ := by decide) :
    FrW μ α (filterHome idx sub v first who s0) := by
  refine FrW.via hyp ?_ within; unfold filterHome; try dsimp only [applyHome]
  repeat' (first | (with_reducible first | exact Fr.refl _ _ | assumption | refine frW_done ?_ | refine frW_refused ?_ | refine frW_wait ?_ | refine frW_denied ?_ | refine Fr.ite ?_ ?_ | refine State.setOb_fr ?_) | split)

theorem consumedHome_fr {μ : ℕ} {α : State} {v : ℕ} {who : Completer} {s0 : State} (hyp : Fr μ α s0) (within : μ ||| 67108928 = μ := by decide) :
    FrW μ α (consumedHome v who s0) := by
  refine FrW.via hyp ?_ within; unfold consumedHome; try dsimp only [applyHome]
  repeat' (first | (with_reducible first | exact Fr.refl _ _ | assumption | refine frW_done ?_ | refine frW_refused ?_ | refine frW_wait ?_ | refine frW_denied ?_ | refine Fr.ite ?_ ?_ | refine State.setOb_fr ?_ | refine State.setSampler_fr ?_) | split)

theorem loadSampler_fr {μ : ℕ} {α : State} {s : State} (hyp : Fr μ α s) (within : μ ||| 67108864 = μ := by decide) :
    Fr μ α (loadSampler s) := by
  refine Fr.via hyp ?_ within; unfold loadSampler; try dsimp only
  repeat' (first | (with_reducible first | exact Fr.refl _ _ | assumption | refine Fr.ite ?_ ?_ | refine State.setSampler_fr ?_) | split)

theorem samplerHome_fr {μ : ℕ} {α : State} {sub : ℕ} {v : ℕ} {who : Completer} {s0 : State} (hyp : Fr μ α s0) (within : μ ||| 67108928 = μ := by decide) :
    FrW μ α (samplerHome sub v who s0) := by
  refine FrW.via hyp ?_ within; unfold samplerHome; try dsimp only [applyHome]
  repeat' (first | (with_reducible first | exact Fr.refl _ _ | assumption | refine frW_done ?_ | refine frW_refused ?_ | refine frW_wait ?_ | refine frW_denied ?_ | refine Fr.ite ?_ ?_ | refine State.setOb_fr ?_ | refine loadSampler_fr ?_ | refine applyHome_fr ?_ (fun _ => ?_)) | split)

theorem clearAllHome_fr {μ : ℕ} {α : State} {who : Completer} {s0 : State} (hyp : Fr μ α s0) (within : μ ||| 64 = μ := by decide) :
    FrW μ α (clearAllHome who s0) := by
  refine FrW.via hyp ?_ within; unfold clearAllHome; try dsimp only [applyHome]
  repeat' (first | (with_reducible first | exact Fr.refl _ _ | assumption | refine frW_done ?_ | refine frW_refused ?_ | refine frW_wait ?_ | refine frW_denied ?_ | refine Fr.ite ?_ ?_ | refine clearBank_fr ?_ | refine applyHome_fr ?_ (fun _ => ?_) | refine forEach_fr ?_ (fun _ _ => ?_)) | split)

theorem snapshotHome_fr {μ : ℕ} {α : State} {v : ℕ} {lead : Bool} {who : Completer} {s0 : State} (hyp : Fr μ α s0) (within : μ ||| 64 = μ := by decide) :
    FrW μ α (snapshotHome v lead who s0) := by
  refine FrW.via hyp ?_ within; unfold snapshotHome; try dsimp only [applyHome]
  repeat' (first | (with_reducible first | exact Fr.refl _ _ | assumption | refine frW_done ?_ | refine frW_refused ?_ | refine frW_wait ?_ | refine frW_denied ?_ | refine Fr.ite ?_ ?_ | refine State.setOb_fr ?_) | split)

theorem verifyStageHome_fr {μ : ℕ} {α : State} {value : List Byte} {who : Completer} {s0 : State} (hyp : Fr μ α s0) (within : μ ||| 1024 = μ := by decide) :
    FrW μ α (verifyStageHome value who s0) := by
  refine FrW.via hyp ?_ within; unfold verifyStageHome; try dsimp only [applyHome]
  repeat' (first | (with_reducible first | exact Fr.refl _ _ | assumption | refine frW_done ?_ | refine frW_refused ?_ | refine frW_wait ?_ | refine frW_denied ?_ | refine Fr.ite ?_ ?_ | refine State.setSec_fr ?_) | split)

theorem keyDenied_fr {μ : ℕ} {α : State} {code : ℕ} {s : State} (hyp : Fr μ α s) (within : μ ||| 64 = μ := by decide) :
    FrW μ α (keyDenied code s) := by
  refine FrW.via hyp ?_ within; unfold keyDenied; try dsimp only
  repeat' (first | (with_reducible first | exact Fr.refl _ _ | assumption | refine frW_done ?_ | refine frW_refused ?_ | refine frW_wait ?_ | refine frW_denied ?_ | refine Fr.ite ?_ ?_ | refine State.setOb_fr ?_) | split)

theorem eraseKey_fr {μ : ℕ} {α : State} {n : ℕ} {plans : Bool} {s : State} (hyp : Fr μ α s) (within : μ ||| 21720 = μ := by decide) :
    FrW μ α (eraseKey n plans s) := by
  refine FrW.via hyp ?_ within; unfold eraseKey; try dsimp only
  repeat' (first | (with_reducible first | exact Fr.refl _ _ | assumption | refine frW_done ?_ | refine frW_refused ?_ | refine frW_wait ?_ | refine frW_denied ?_ | refine Fr.ite ?_ ?_ | refine State.setKey_fr ?_ | refine State.setOb_fr ?_ | refine raiseNode_fr ?_ | refine keyDenied_fr ?_ | refine FrW.of_done (keyDenied_fr ?_) (by assumption) | refine FrW.of_refused (keyDenied_fr ?_) (by assumption) | refine FrW.of_wait (keyDenied_fr ?_) (by assumption)) | split)

theorem loadKey_fr {μ : ℕ} {α : State} {code : ℕ} {n : ℕ} {kind : KeyKind} {world : Bool} {fp : ℕ} {k1 : ℕ} {k2 : ℕ} {s : State} (hyp : Fr μ α s) (within : μ ||| 21720 = μ := by decide) :
    FrW μ α (loadKey code n kind world fp k1 k2 s) := by
  refine FrW.via hyp ?_ within; unfold loadKey; try dsimp only
  repeat' (first | (with_reducible first | exact Fr.refl _ _ | assumption | refine frW_done ?_ | refine frW_refused ?_ | refine frW_wait ?_ | refine frW_denied ?_ | refine Fr.ite ?_ ?_ | refine State.setKey_fr ?_ | refine State.setOb_fr ?_ | refine raiseNode_fr ?_ | refine keyDenied_fr ?_ | refine FrW.of_done (keyDenied_fr ?_) (by assumption) | refine FrW.of_refused (keyDenied_fr ?_) (by assumption) | refine FrW.of_wait (keyDenied_fr ?_) (by assumption)) | split)

theorem importVerify_fr {μ : ℕ} {α : State} {n : ℕ} {world : Bool} {s : State} (hyp : Fr μ α s) (within : μ ||| 21720 = μ := by decide) :
    FrW μ α (importVerify n world s) := by
  refine FrW.via hyp ?_ within; unfold importVerify; try dsimp only
  repeat' (first | (with_reducible first | exact Fr.refl _ _ | assumption | refine frW_done ?_ | refine frW_refused ?_ | refine frW_wait ?_ | refine frW_denied ?_ | refine Fr.ite ?_ ?_ | refine loadKey_fr ?_ | refine FrW.of_done (loadKey_fr ?_) (by assumption) | refine FrW.of_refused (loadKey_fr ?_) (by assumption) | refine FrW.of_wait (loadKey_fr ?_) (by assumption) | refine keyDenied_fr ?_ | refine FrW.of_done (keyDenied_fr ?_) (by assumption) | refine FrW.of_refused (keyDenied_fr ?_) (by assumption) | refine FrW.of_wait (keyDenied_fr ?_) (by assumption) | refine State.setSec_fr ?_) | split)

theorem generateGcm_fr {μ : ℕ} {α : State} {n : ℕ} {world : Bool} {s : State} (hyp : Fr μ α s) (within : μ ||| 29912 = μ := by decide) :
    FrW μ α (generateGcm n world s) := by
  refine FrW.via hyp ?_ within; unfold generateGcm; try dsimp only
  repeat' (first | (with_reducible first | exact Fr.refl _ _ | assumption | refine frW_done ?_ | refine frW_refused ?_ | refine frW_wait ?_ | refine frW_denied ?_ | refine Fr.ite ?_ ?_ | refine State.takeFree_fr ?_ | refine loadKey_fr ?_ | refine FrW.of_done (loadKey_fr ?_) (by assumption) | refine FrW.of_refused (loadKey_fr ?_) (by assumption) | refine FrW.of_wait (loadKey_fr ?_) (by assumption)) | split)

theorem generateXts_fr {μ : ℕ} {α : State} {n : ℕ} {world : Bool} {s : State} (hyp : Fr μ α s) (within : μ ||| 29912 = μ := by decide) :
    FrW μ α (generateXts n world s) := by
  refine FrW.via hyp ?_ within; unfold generateXts; try dsimp only
  repeat' (first | (with_reducible first | exact Fr.refl _ _ | assumption | refine frW_done ?_ | refine frW_refused ?_ | refine frW_wait ?_ | refine frW_denied ?_ | refine Fr.ite ?_ ?_ | refine State.takeFree_fr ?_ | refine loadKey_fr ?_ | refine FrW.of_done (loadKey_fr ?_) (by assumption) | refine FrW.of_refused (loadKey_fr ?_) (by assumption) | refine FrW.of_wait (loadKey_fr ?_) (by assumption)) | split)

theorem keyCommand_fr {μ : ℕ} {α : State} {v : ℕ} {plans : Bool} {s : State} (hyp : Fr μ α s) (within : μ ||| 29912 = μ := by decide) :
    FrW μ α (keyCommand v plans s) := by
  refine FrW.via hyp ?_ within; unfold keyCommand; try dsimp only
  repeat' (first | (with_reducible first | exact Fr.refl _ _ | assumption | refine frW_done ?_ | refine frW_refused ?_ | refine frW_wait ?_ | refine frW_denied ?_ | refine Fr.ite ?_ ?_ | refine eraseKey_fr ?_ | refine FrW.of_done (eraseKey_fr ?_) (by assumption) | refine FrW.of_refused (eraseKey_fr ?_) (by assumption) | refine FrW.of_wait (eraseKey_fr ?_) (by assumption) | refine importVerify_fr ?_ | refine FrW.of_done (importVerify_fr ?_) (by assumption) | refine FrW.of_refused (importVerify_fr ?_) (by assumption) | refine FrW.of_wait (importVerify_fr ?_) (by assumption) | refine generateGcm_fr ?_ | refine FrW.of_done (generateGcm_fr ?_) (by assumption) | refine FrW.of_refused (generateGcm_fr ?_) (by assumption) | refine FrW.of_wait (generateGcm_fr ?_) (by assumption) | refine generateXts_fr ?_ | refine FrW.of_done (generateXts_fr ?_) (by assumption) | refine FrW.of_refused (generateXts_fr ?_) (by assumption) | refine FrW.of_wait (generateXts_fr ?_) (by assumption) | refine keyDenied_fr ?_ | refine FrW.of_done (keyDenied_fr ?_) (by assumption) | refine FrW.of_refused (keyDenied_fr ?_) (by assumption) | refine FrW.of_wait (keyDenied_fr ?_) (by assumption) | refine State.setSec_fr ?_) | split)

theorem keyHome_fr {μ : ℕ} {α : State} {v : ℕ} {who : Completer} {s0 : State} (hyp : Fr μ α s0) (within : μ ||| 29912 = μ := by decide) :
    FrW μ α (keyHome v who s0) := by
  refine FrW.via hyp ?_ within; unfold keyHome; try dsimp only [applyHome]
  repeat' (first | (with_reducible first | exact Fr.refl _ _ | assumption | refine frW_done ?_ | refine frW_refused ?_ | refine frW_wait ?_ | refine frW_denied ?_ | refine Fr.ite ?_ ?_ | refine keyCommand_fr ?_ | refine FrW.of_done (keyCommand_fr ?_) (by assumption) | refine FrW.of_refused (keyCommand_fr ?_) (by assumption) | refine FrW.of_wait (keyCommand_fr ?_) (by assumption)) | split)

theorem clearStaged_fr {μ : ℕ} {α : State} {s : State} (hyp : Fr μ α s) (within : μ ||| 1024 = μ := by decide) :
    Fr μ α (clearStaged s) := by
  refine Fr.via hyp ?_ within; unfold clearStaged; try dsimp only
  repeat' (first | (with_reducible first | exact Fr.refl _ _ | assumption | refine Fr.ite ?_ ?_ | refine State.setSec_fr ?_) | split)

theorem writeOwner_fr {μ : ℕ} {α : State} {ec : List Byte} {ml : List Byte} {policy : ℕ} {epoch : ℕ} {s : State} (hyp : Fr μ α s) (within : μ ||| 4096 = μ := by decide) :
    Fr μ α (writeOwner ec ml policy epoch s) := by
  refine Fr.via hyp ?_ within; unfold writeOwner; try dsimp only
  repeat' (first | (with_reducible first | exact Fr.refl _ _ | assumption | refine Fr.ite ?_ ?_) | split | with_reducible refine Fr.set_nvm ?_)

theorem claim_fr {μ : ℕ} {α : State} {inSession : Bool} {s : State} (hyp : Fr μ α s) (within : μ ||| 23768 = μ := by decide) :
    FrW μ α (claim inSession s) := by
  refine FrW.via hyp ?_ within; unfold claim; try dsimp only
  repeat' (first | (with_reducible first | exact Fr.refl _ _ | assumption | refine frW_done ?_ | refine frW_refused ?_ | refine frW_wait ?_ | refine frW_denied ?_ | refine Fr.ite ?_ ?_ | refine clearStaged_fr ?_ | refine State.setSec_fr ?_ | refine raiseNode_fr ?_ | refine writeOwner_fr ?_) | split | with_reducible refine Fr.set_fuses ?_)

theorem ownerCommand_fr {μ : ℕ} {α : State} {code : ℕ} {session : Bool} {secured : Bool} {ordered : Bool} {s : State} (hyp : Fr μ α s) (within : μ ||| 71196120 = μ := by decide) :
    FrW μ α (ownerCommand code session secured ordered s) := by
  refine FrW.via hyp ?_ within; unfold ownerCommand; try dsimp only
  repeat' (first | (with_reducible first | exact Fr.refl _ _ | assumption | refine frW_done ?_ | refine frW_refused ?_ | refine frW_wait ?_ | refine frW_denied ?_ | refine Fr.ite ?_ ?_ | refine clearStaged_fr ?_ | refine startZero_fr ?_ | refine State.setSec_fr ?_ | refine claim_fr ?_ | refine FrW.of_done (claim_fr ?_) (by assumption) | refine FrW.of_refused (claim_fr ?_) (by assumption) | refine FrW.of_wait (claim_fr ?_) (by assumption)) | split)

theorem ownerHome_fr {μ : ℕ} {α : State} {code : ℕ} {session : Bool} {secured : Bool} {who : Completer} {s0 : State} (hyp : Fr μ α s0) (within : μ ||| 71196120 = μ := by decide) :
    FrW μ α (ownerHome code session secured who s0) := by
  refine FrW.via hyp ?_ within; unfold ownerHome; try dsimp only [applyHome]
  repeat' (first | (with_reducible first | exact Fr.refl _ _ | assumption | refine frW_done ?_ | refine frW_refused ?_ | refine frW_wait ?_ | refine frW_denied ?_ | refine Fr.ite ?_ ?_ | refine ownerCommand_fr ?_ | refine FrW.of_done (ownerCommand_fr ?_) (by assumption) | refine FrW.of_refused (ownerCommand_fr ?_) (by assumption) | refine FrW.of_wait (ownerCommand_fr ?_) (by assumption)) | split)

theorem writePolicy_fr {μ : ℕ} {α : State} {v : ℕ} {s : State} (hyp : Fr μ α s) (within : μ ||| 4160 = μ := by decide) :
    Fr μ α (writePolicy v s) := by
  refine Fr.via hyp ?_ within; unfold writePolicy; try dsimp only
  repeat' (first | (with_reducible first | exact Fr.refl _ _ | assumption | refine Fr.ite ?_ ?_ | refine State.setOb_fr ?_) | split | with_reducible refine Fr.set_nvm ?_)

theorem policyHome_fr {μ : ℕ} {α : State} {v : ℕ} {who : Completer} {s0 : State} (hyp : Fr μ α s0) (within : μ ||| 4160 = μ := by decide) :
    FrW μ α (policyHome v who s0) := by
  refine FrW.via hyp ?_ within; unfold policyHome; try dsimp only [applyHome]
  repeat' (first | (with_reducible first | exact Fr.refl _ _ | assumption | refine frW_done ?_ | refine frW_refused ?_ | refine frW_wait ?_ | refine frW_denied ?_ | refine Fr.ite ?_ ?_ | refine writePolicy_fr ?_) | split)

theorem ownerKeyHome_fr {μ : ℕ} {α : State} {sub : ℕ} {value : List Byte} {who : Completer} {s0 : State} (hyp : Fr μ α s0) (within : μ ||| 1024 = μ := by decide) :
    FrW μ α (ownerKeyHome sub value who s0) := by
  refine FrW.via hyp ?_ within; unfold ownerKeyHome; try dsimp only [applyHome]
  repeat' (first | (with_reducible first | exact Fr.refl _ _ | assumption | refine frW_done ?_ | refine frW_refused ?_ | refine frW_wait ?_ | refine frW_denied ?_ | refine Fr.ite ?_ ?_ | refine State.setSec_fr ?_) | split)

theorem showTransfers_fr {μ : ℕ} {α : State} {s : State} (hyp : Fr μ α s) (within : μ ||| 64 = μ := by decide) :
    Fr μ α (showTransfers s) := by
  refine Fr.via hyp ?_ within; unfold showTransfers; try dsimp only
  repeat' (first | (with_reducible first | exact Fr.refl _ _ | assumption | refine Fr.ite ?_ ?_ | refine State.setOb_fr ?_) | split)

theorem transferHome_fr {μ : ℕ} {α : State} {value : List Byte} {who : Completer} {s0 : State} (hyp : Fr μ α s0) (within : μ ||| 1048640 = μ := by decide) :
    FrW μ α (transferHome value who s0) := by
  refine FrW.via hyp ?_ within; unfold transferHome; try dsimp only [applyHome]
  repeat' (first | (with_reducible first | exact Fr.refl _ _ | assumption | refine frW_done ?_ | refine frW_refused ?_ | refine frW_wait ?_ | refine frW_denied ?_ | refine Fr.ite ?_ ?_ | refine State.setFar_fr ?_ | refine showTransfers_fr ?_ | refine State.setOb_fr ?_) | split)

theorem openFar_fr {μ : ℕ} {α : State} {s : State} (hyp : Fr μ α s) (within : μ ||| 64 = μ := by decide) :
    Fr μ α (openFar s) := by
  refine Fr.via hyp ?_ within; unfold openFar; try dsimp only
  repeat' (first | (with_reducible first | exact Fr.refl _ _ | assumption | refine Fr.ite ?_ ?_ | refine State.setOb_fr ?_) | split)

theorem deviceHome_fr {μ : ℕ} {α : State} {i : ℕ} {sub : ℕ} {v : ℕ} {who : Completer} {s0 : State} (hyp : Fr μ α s0) (within : μ ||| 64 = μ := by decide) :
    FrW μ α (deviceHome i sub v who s0) := by
  refine FrW.via hyp ?_ within; unfold deviceHome; try dsimp only [applyHome]
  repeat' (first | (with_reducible first | exact Fr.refl _ _ | assumption | refine frW_done ?_ | refine frW_refused ?_ | refine frW_wait ?_ | refine frW_denied ?_ | refine Fr.ite ?_ ?_ | refine openFar_fr ?_ | refine State.setOb_fr ?_ | refine foldl_fr ?_ (fun _ _ => ?_) | refine foldl_frS ?_ (fun _ _ => ?_) | refine foldl_frF ?_ (fun _ _ => ?_)) | split)

theorem farRejoinHome_fr {μ : ℕ} {α : State} {who : Completer} {s0 : State} (hyp : Fr μ α s0) (within : μ ||| 1114112 = μ := by decide) :
    FrW μ α (farRejoinHome who s0) := by
  refine FrW.via hyp ?_ within; unfold farRejoinHome; try dsimp only [applyHome]
  repeat' (first | (with_reducible first | exact Fr.refl _ _ | assumption | refine frW_done ?_ | refine frW_refused ?_ | refine frW_wait ?_ | refine frW_denied ?_ | refine Fr.ite ?_ ?_ | refine State.setFar_fr ?_ | refine State.armRejoin_fr ?_) | split)

theorem portShaperHome_fr {μ : ℕ} {α : State} {h : ℕ} {sub : ℕ} {v : ℕ} {who : Completer} {s0 : State} (hyp : Fr μ α s0) (within : μ ||| 68506072 = μ := by decide) :
    FrW μ α (portShaperHome h sub v who s0) := by
  refine FrW.via hyp ?_ within; unfold portShaperHome; try dsimp only [applyHome]
  repeat' (first | (with_reducible first | exact Fr.refl _ _ | assumption | refine frW_done ?_ | refine frW_refused ?_ | refine frW_wait ?_ | refine frW_denied ?_ | refine Fr.ite ?_ ?_ | refine settingHome_fr ?_ | refine FrW.of_done (settingHome_fr ?_) (by assumption) | refine FrW.of_refused (settingHome_fr ?_) (by assumption) | refine FrW.of_wait (settingHome_fr ?_) (by assumption) | refine qosDenied_fr ?_ | refine FrW.of_done (qosDenied_fr ?_) (by assumption) | refine FrW.of_refused (qosDenied_fr ?_) (by assumption) | refine FrW.of_wait (qosDenied_fr ?_) (by assumption)) | split)

theorem guardHome_fr {μ : ℕ} {α : State} {h : ℕ} {v : ℕ} {who : Completer} {s0 : State} (hyp : Fr μ α s0) (within : μ ||| 68489664 = μ := by decide) :
    FrW μ α (guardHome h v who s0) := by
  refine FrW.via hyp ?_ within; unfold guardHome; try dsimp only [applyHome]
  repeat' (first | (with_reducible first | exact Fr.refl _ _ | assumption | refine frW_done ?_ | refine frW_refused ?_ | refine frW_wait ?_ | refine frW_denied ?_ | refine Fr.ite ?_ ?_ | refine settingHome_fr ?_ | refine FrW.of_done (settingHome_fr ?_) (by assumption) | refine FrW.of_refused (settingHome_fr ?_) (by assumption) | refine FrW.of_wait (settingHome_fr ?_) (by assumption) | refine State.setOb_fr ?_) | split)

theorem engineRejoinHome_fr {μ : ℕ} {α : State} {e : ℕ} {who : Completer} {s0 : State} (hyp : Fr μ α s0) (within : μ ||| 196608 = μ := by decide) :
    FrW μ α (engineRejoinHome e who s0) := by
  refine FrW.via hyp ?_ within; unfold engineRejoinHome; try dsimp only [applyHome]
  repeat' (first | (with_reducible first | exact Fr.refl _ _ | assumption | refine frW_done ?_ | refine frW_refused ?_ | refine frW_wait ?_ | refine frW_denied ?_ | refine Fr.ite ?_ ?_ | refine State.setFeeds_fr ?_ | refine State.armRejoin_fr ?_) | split)

theorem wantFull_fr {μ : ℕ} {α : State} {c : ℕ} {s : State} (hyp : Fr μ α s) (within : μ ||| 8388672 = μ := by decide) :
    Fr μ α (wantFull c s) := by
  refine Fr.via hyp ?_ within; unfold wantFull; try dsimp only
  repeat' (first | (with_reducible first | exact Fr.refl _ _ | assumption | refine Fr.ite ?_ ?_ | refine beginTraining_fr ?_ | refine State.setOb_fr ?_ | refine State.modTr_fr ?_) | split)

theorem retrainHome_fr {μ : ℕ} {α : State} {c : ℕ} {who : Completer} {s0 : State} (hyp : Fr μ α s0) (within : μ ||| 8388672 = μ := by decide) :
    FrW μ α (retrainHome c who s0) := by
  refine FrW.via hyp ?_ within; unfold retrainHome; try dsimp only [applyHome]
  repeat' (first | (with_reducible first | exact Fr.refl _ _ | assumption | refine frW_done ?_ | refine frW_refused ?_ | refine frW_wait ?_ | refine frW_denied ?_ | refine Fr.ite ?_ ?_ | refine wantFull_fr ?_ | refine State.modTr_fr ?_ | refine State.setOb_fr ?_) | split)

theorem marginHome_fr {μ : ℕ} {α : State} {c : ℕ} {v : ℕ} {who : Completer} {s0 : State} (hyp : Fr μ α s0) (within : μ ||| 8388672 = μ := by decide) :
    FrW μ α (marginHome c v who s0) := by
  refine FrW.via hyp ?_ within; unfold marginHome; try dsimp only [applyHome]
  repeat' (first | (with_reducible first | exact Fr.refl _ _ | assumption | refine frW_done ?_ | refine frW_refused ?_ | refine frW_wait ?_ | refine frW_denied ?_ | refine Fr.ite ?_ ?_ | refine wantSteer_fr ?_ | refine State.setOb_fr ?_ | refine State.modTr_fr ?_) | split)

theorem channelRejoinHome_fr {μ : ℕ} {α : State} {c : ℕ} {who : Completer} {s0 : State} (hyp : Fr μ α s0) (within : μ ||| 327680 = μ := by decide) :
    FrW μ α (channelRejoinHome c who s0) := by
  refine FrW.via hyp ?_ within; unfold channelRejoinHome; try dsimp only [applyHome]
  repeat' (first | (with_reducible first | exact Fr.refl _ _ | assumption | refine frW_done ?_ | refine frW_refused ?_ | refine frW_wait ?_ | refine frW_denied ?_ | refine Fr.ite ?_ ?_ | refine State.modChan_fr ?_ | refine State.armRejoin_fr ?_) | split)

theorem setSpareMasks_fr {μ : ℕ} {α : State} {s : State} (hyp : Fr μ α s) (within : μ ||| 64 = μ := by decide) :
    Fr μ α (setSpareMasks s) := by
  refine Fr.via hyp ?_ within; unfold setSpareMasks; try dsimp only
  repeat' (first | (with_reducible first | exact Fr.refl _ _ | assumption | refine Fr.ite ?_ ?_ | refine State.setOb_fr ?_ | refine forEach_fr ?_ (fun _ _ => ?_)) | split)

theorem segmentMaskHome_fr {μ : ℕ} {α : State} {c : ℕ} {v : ℕ} {who : Completer} {s0 : State} (hyp : Fr μ α s0) (within : μ ||| 64 = μ := by decide) :
    FrW μ α (segmentMaskHome c v who s0) := by
  refine FrW.via hyp ?_ within; unfold segmentMaskHome; try dsimp only [applyHome]
  repeat' (first | (with_reducible first | exact Fr.refl _ _ | assumption | refine frW_done ?_ | refine frW_refused ?_ | refine frW_wait ?_ | refine frW_denied ?_ | refine Fr.ite ?_ ?_ | refine State.setOb_fr ?_ | refine setSpareMasks_fr ?_) | split)

/-- The frame of a home operation that is chosen by the object. -/
def FrHO (μ : ℕ) (o : Option Home) : Prop := ∀ h, o = some h → ∀ who s, FrW μ s (h who s)
theorem frHO_none {μ : ℕ} : FrHO μ none := fun _ e => nomatch e
theorem frHO_some {μ : ℕ} {h : Home} (k : ∀ who s, FrW μ s (h who s)) : FrHO μ (some h) := fun _ e => Option.some.inj e ▸ k
theorem FrHO.ite {μ : ℕ} {c : Prop} [Decidable c] {x y : Option Home} (h : FrHO μ x) (k : FrHO μ y) : FrHO μ (if c then x else y) := by
  split <;> assumption
theorem homeLow_fr {μ : ℕ} {owner : Bool} {idx sub : ℕ} {value : List Byte} (within : μ ||| 134184956 = μ := by decide) :
    FrHO μ (homeLow owner idx sub value) := by
  unfold homeLow
  dsimp only
  repeat' (first | exact frHO_none | refine FrHO.ite ?_ ?_ | (refine frHO_some fun _ _ => ?_; with_reducible first | exact budgetHome_fr (Fr.refl _ _) (within := sub_of within (by decide)) | exact shaperHome_fr (Fr.refl _ _) (within := sub_of within (by decide)) | exact meterHome_fr (Fr.refl _ _) (within := sub_of within (by decide)) | exact syncObjectHome_fr (Fr.refl _ _) (within := sub_of within (by decide)) | exact sliceRejoinHome_fr (Fr.refl _ _) (within := sub_of within (by decide)) | exact flushAllHome_fr (Fr.refl _ _) (within := sub_of within (by decide)) | exact beyondClearHome_fr (Fr.refl _ _) (within := sub_of within (by decide)) | exact unitRejoinHome_fr (Fr.refl _ _) (within := sub_of within (by decide)) | exact standingHome_fr (Fr.refl _ _) (within := sub_of within (by decide)) | exact poolResetHome_fr (Fr.refl _ _) (within := sub_of within (by decide)) | exact portRejoinHome_fr (Fr.refl _ _) (within := sub_of within (by decide)) | exact portWorldHome_fr (Fr.refl _ _) (within := sub_of within (by decide)) | exact fenceRequestHome_fr (Fr.refl _ _) (within := sub_of within (by decide)) | exact fenceClearHome_fr (Fr.refl _ _) (within := sub_of within (by decide)) | exact armFrameHome_fr (Fr.refl _ _) (within := sub_of within (by decide)) | exact planHome_fr (Fr.refl _ _) (within := sub_of within (by decide)) | exact openMinHome_fr (Fr.refl _ _) (within := sub_of within (by decide)) | exact intervalHome_fr (Fr.refl _ _) (within := sub_of within (by decide)) | exact regionHome_fr (Fr.refl _ _) (within := sub_of within (by decide)) | exact enableHome_fr (Fr.refl _ _) (within := sub_of within (by decide)) | exact nodeRejoinHome_fr (Fr.refl _ _) (within := sub_of within (by decide)) | exact warmHome_fr (Fr.refl _ _) (within := sub_of within (by decide)) | exact stateHome_fr (Fr.refl _ _) (within := sub_of within (by decide)) | exact maskHome_fr (Fr.refl _ _) (within := sub_of within (by decide)) | exact macHome_fr (Fr.refl _ _) (within := sub_of within (by decide)) | exact applyHome_fr (Fr.refl _ _) (fun _ => clearMirror_fr (Fr.refl _ _) (within := sub_of within (by decide))) | exact applyHome_fr (Fr.refl _ _) (fun _ => clearAlarm_fr (Fr.refl _ _) (within := sub_of within (by decide))) | exact applyHome_fr (Fr.refl _ _) (fun _ => clearLog_fr (Fr.refl _ _) (within := sub_of within (by decide)))))

theorem homeHigh_fr {μ : ℕ} {owner secured : Bool} {idx sub : ℕ} {value : List Byte} (within : μ ||| 134184956 = μ := by decide) :
    FrHO μ (homeHigh owner secured idx sub value) := by
  unfold homeHigh
  dsimp only
  repeat' (first | exact frHO_none | refine FrHO.ite ?_ ?_ | (refine frHO_some fun _ _ => ?_; with_reducible first | exact spreadHome_fr (Fr.refl _ _) (within := sub_of within (by decide)) | exact copyBackHome_fr (Fr.refl _ _) (within := sub_of within (by decide)) | exact reconstituteHome_fr (Fr.refl _ _) (within := sub_of within (by decide)) | exact shutdownClearHome_fr (Fr.refl _ _) (within := sub_of within (by decide)) | exact logicExcludeHome_fr (Fr.refl _ _) (within := sub_of within (by decide)) | exact layerExcludeHome_fr (Fr.refl _ _) (within := sub_of within (by decide)) | exact updateHome_fr (Fr.refl _ _) (within := sub_of within (by decide)) | exact blockHome_fr (Fr.refl _ _) (within := sub_of within (by decide)) | exact filterHome_fr (Fr.refl _ _) (within := sub_of within (by decide)) | exact bankClearHome_fr (Fr.refl _ _) (within := sub_of within (by decide)) | exact consumedHome_fr (Fr.refl _ _) (within := sub_of within (by decide)) | exact samplerHome_fr (Fr.refl _ _) (within := sub_of within (by decide)) | exact clearAllHome_fr (Fr.refl _ _) (within := sub_of within (by decide)) | exact snapshotHome_fr (Fr.refl _ _) (within := sub_of within (by decide)) | exact verifyStageHome_fr (Fr.refl _ _) (within := sub_of within (by decide)) | exact keyHome_fr (Fr.refl _ _) (within := sub_of within (by decide)) | exact ownerHome_fr (Fr.refl _ _) (within := sub_of within (by decide)) | exact policyHome_fr (Fr.refl _ _) (within := sub_of within (by decide)) | exact ownerKeyHome_fr (Fr.refl _ _) (within := sub_of within (by decide)) | exact transferHome_fr (Fr.refl _ _) (within := sub_of within (by decide)) | exact deviceHome_fr (Fr.refl _ _) (within := sub_of within (by decide)) | exact farRejoinHome_fr (Fr.refl _ _) (within := sub_of within (by decide)) | exact baleKeyHome_fr (Fr.refl _ _) (within := sub_of within (by decide)) | exact portShaperHome_fr (Fr.refl _ _) (within := sub_of within (by decide)) | exact guardHome_fr (Fr.refl _ _) (within := sub_of within (by decide)) | exact engineRejoinHome_fr (Fr.refl _ _) (within := sub_of within (by decide)) | exact retrainHome_fr (Fr.refl _ _) (within := sub_of within (by decide)) | exact marginHome_fr (Fr.refl _ _) (within := sub_of within (by decide)) | exact channelRejoinHome_fr (Fr.refl _ _) (within := sub_of within (by decide)) | exact segmentMaskHome_fr (Fr.refl _ _) (within := sub_of within (by decide))) | split)

theorem homeOf_fr {μ : ℕ} {α : State} {owner secured : Bool} {idx sub : ℕ} {value : List Byte} {who : Completer} {s : State}
    (hyp : Fr μ α s) (within : μ ||| 134184956 = μ := by decide) : FrW μ α (homeOf owner secured idx sub value who s) := by
  refine FrW.trans hyp ?_
  unfold homeOf
  cases e : homeLow owner idx sub value with
  | some h => exact homeLow_fr within _ e who s
  | none =>
    cases e' : homeHigh owner secured idx sub value with
    | some h => simpa [e'] using homeHigh_fr within _ e' who s
    | none => simpa [e'] using settingHome_fr (Fr.refl μ s) (within := sub_of within (by decide))

theorem carriedHome_fr {μ : ℕ} {α : State} {ordered : Bool} {owner : Bool} {idx : ℕ} {sub : ℕ} {value : List Byte} {who : Completer} {s0 : State} (hyp : Fr μ α s0) (within : μ ||| 134184956 = μ := by decide) :
    FrW μ α (carriedHome ordered owner idx sub value who s0) := by
  refine FrW.via hyp ?_ within; unfold carriedHome; try dsimp only [applyHome]
  repeat' (first | (with_reducible first | exact Fr.refl _ _ | assumption | refine frW_done ?_ | refine frW_refused ?_ | refine frW_wait ?_ | refine frW_denied ?_ | refine Fr.ite ?_ ?_ | refine homeOf_fr ?_ | refine FrW.of_done (homeOf_fr ?_) (by assumption) | refine FrW.of_refused (homeOf_fr ?_) (by assumption) | refine FrW.of_wait (homeOf_fr ?_) (by assumption) | refine updateHome_fr ?_ | refine FrW.of_done (updateHome_fr ?_) (by assumption) | refine FrW.of_refused (updateHome_fr ?_) (by assumption) | refine FrW.of_wait (updateHome_fr ?_) (by assumption)) | split)

theorem sendObject_fr {μ : ℕ} {α : State} {d : ℕ} {idx : ℕ} {sub : ℕ} {order : ℕ} {value : List Byte} {owner : Bool} {s : State} (hyp : Fr μ α s) (within : μ ||| 256 = μ := by decide) :
    Fr μ α (sendObject d idx sub order value owner s) := by
  refine Fr.via hyp ?_ within; unfold sendObject; try dsimp only
  repeat' (first | (with_reducible first | exact Fr.refl _ _ | assumption | refine Fr.ite ?_ ?_ | refine sendParcel_fr ?_ | refine forEach_fr ?_ (fun _ _ => ?_)) | split)

theorem leadOrder_fr {μ : ℕ} {α : State} {idx : ℕ} {sub : ℕ} {value : List Byte} {owner : Bool} {req : Option Req} {via : ℕ} {home : Home} {s : State} (hyp : Fr μ α s) (hf_home : ∀ y0 y, FrW μ y (home y0 y)) (within : μ ||| 16832 = μ := by decide) :
    Fr μ α (leadOrder idx sub value owner req via home s) := by
  unfold leadOrder; try dsimp only
  repeat' (first | (with_reducible first | exact Fr.refl _ _ | assumption | refine Fr.ite ?_ ?_ | refine FrW.trans ?_ (hf_home _ _) | refine Fr.trans ?_ (FrW.of_done (hf_home _ _) (by assumption)) | refine Fr.trans ?_ (FrW.of_refused (hf_home _ _) (by assumption)) | refine Fr.trans ?_ (FrW.of_wait (hf_home _ _) (by assumption)) | refine State.setWrites_fr ?_ (within := sub_of within (by decide)) | refine sendObject_fr ?_ (within := sub_of within (by decide)) | refine ackOrder_fr ?_ (within := sub_of within (by decide)) | refine finishOrder_fr ?_ (within := sub_of within (by decide)) | refine forEach_fr ?_ (fun _ _ => ?_)) | split | with_reducible refine Fr.set_mgmt ?_ (h7 := bit_of within (by decide)))

theorem settle_fr {μ : ℕ} {α : State} {who : Completer} {r : WResult} (hyp : FrW μ α r) (within : μ ||| 16832 = μ := by decide) :
    Fr μ α (settle who r) := by
  unfold settle
  split
  · exact complete_fr hyp (within := within)
  · exact complete_fr hyp (within := within)
  · exact hyp

theorem orderedWrite_fr {μ : ℕ} {α : State} {req : Req} {setWide : Bool} {persisted : Bool} {idx : ℕ} {sub : ℕ} {value : List Byte} {home : Home} {s : State} (hyp : Fr μ α s) (hf_home : ∀ y0 y, FrW μ y (home y0 y)) (within : μ ||| 16832 = μ := by decide) :
    Fr μ α (orderedWrite req setWide persisted idx sub value home s) := by
  unfold orderedWrite; try dsimp only
  repeat' (first | (with_reducible first | exact Fr.refl _ _ | assumption | refine Fr.ite ?_ ?_ | refine FrW.trans ?_ (hf_home _ _) | refine Fr.trans ?_ (FrW.of_done (hf_home _ _) (by assumption)) | refine Fr.trans ?_ (FrW.of_refused (hf_home _ _) (by assumption)) | refine Fr.trans ?_ (FrW.of_wait (hf_home _ _) (by assumption)) | refine answer_fr ?_ (within := sub_of within (by decide)) | refine State.setWrites_fr ?_ (within := sub_of within (by decide)) | refine sendObject_fr ?_ (within := sub_of within (by decide)) | refine leadOrder_fr ?_ (fun _ _ => ?_) (within := sub_of within (by decide)) | refine settle_fr ?_ (within := sub_of within (by decide)) | refine settle_fr ?_) | split)

theorem qosRefusal_fr {μ : ℕ} {α : State} {idx : ℕ} {sub : ℕ} {st : ℕ} {s : State} (hyp : Fr μ α s) (within : μ ||| 20696 = μ := by decide) :
    Fr μ α (qosRefusal idx sub st s) := by
  refine Fr.via hyp ?_ within; unfold qosRefusal; try dsimp only
  repeat' (first | (with_reducible first | exact Fr.refl _ _ | assumption | refine Fr.ite ?_ ?_ | refine raiseNode_fr ?_) | split)

theorem writeChecks_fr {μ : ℕ} {α : State} {req : Req} {idx sub : ℕ} {s : State} (hyp : Fr μ α s)
    (within : μ ||| 20696 = μ := by decide) : ∀ st d t, writeChecks req idx sub s = some (st, d, t) → Fr μ α t := by
  intro st d t e
  unfold writeChecks at e
  split at e
  · cases e; exact hyp
  · split at e
    · cases e; exact hyp
    · split at e
      · cases e; exact hyp
      · split at e
        · cases e; exact hyp
        · split at e
          · cases e
          · cases e
            split
            · exact raiseNode_fr hyp (within := within)
            · exact hyp

theorem carryOut_fr {μ : ℕ} {α : State} {req : Req} {idx : ℕ} {sub : ℕ} {value : List Byte} {home : Home} {s : State} (hyp : Fr μ α s) (hf_home : ∀ y0 y, FrW μ y (home y0 y)) (within : μ ||| 20952 = μ := by decide) :
    Fr μ α (carryOut req idx sub value home s) := by
  unfold carryOut; try dsimp only
  repeat' (first | (with_reducible first | exact Fr.refl _ _ | assumption | refine Fr.ite ?_ ?_ | refine FrW.trans ?_ (hf_home _ _) | refine Fr.trans ?_ (FrW.of_done (hf_home _ _) (by assumption)) | refine Fr.trans ?_ (FrW.of_refused (hf_home _ _) (by assumption)) | refine Fr.trans ?_ (FrW.of_wait (hf_home _ _) (by assumption)) | refine orderedWrite_fr ?_ (fun _ _ => ?_) (within := sub_of within (by decide)) | refine qosRefusal_fr ?_ (within := sub_of within (by decide)) | refine answer_fr ?_ (within := sub_of within (by decide)) | refine writeChecks_fr ?_ (sub_of within (by decide)) _ _ _ (by assumption) | refine writeChecks_fr ?_ (by decide) _ _ _ (by assumption)) | split)

theorem spdmReply_fr {μ : ℕ} {α : State} {r : Req} {m : SpdmReply} {s : State} (hyp : Fr μ α s) (within : μ ||| 16576 = μ := by decide) :
    Fr μ α (spdmReply r m s) := by
  refine Fr.via hyp ?_ within; unfold spdmReply; try dsimp only
  repeat' (first | (with_reducible first | exact Fr.refl _ _ | assumption | refine Fr.ite ?_ ?_ | refine respond_fr ?_) | split)

theorem spdmError_fr {μ : ℕ} {α : State} {r : Req} {e : SpdmError} {s : State} (hyp : Fr μ α s) (within : μ ||| 16576 = μ := by decide) :
    Fr μ α (spdmError r e s) := by
  refine Fr.via hyp ?_ within; unfold spdmError; try dsimp only
  repeat' (first | (with_reducible first | exact Fr.refl _ _ | assumption | refine Fr.ite ?_ ?_ | refine spdmReply_fr ?_) | split)

theorem negotiated_fr {μ : ℕ} {α : State} {r : Req} {f : State → State} {s : State} (hyp : Fr μ α s) (hf_f : ∀  y, Fr μ y (f  y)) (within : μ ||| 16576 = μ := by decide) :
    Fr μ α (negotiated r f s) := by
  unfold negotiated; try dsimp only
  repeat' (first | (with_reducible first | exact Fr.refl _ _ | assumption | refine Fr.ite ?_ ?_ | refine Fr.trans ?_ (hf_f _ ) | refine spdmError_fr ?_ (within := sub_of within (by decide))) | split)

theorem challengeAct_fr {μ : ℕ} {α : State} {r : Req} {slot : ℕ} {nonce : ℕ} {a : State} (hyp : Fr μ α a) (within : μ ||| 16576 = μ := by decide) :
    Fr μ α (challengeAct r slot nonce a) := by
  refine Fr.via hyp ?_ within; unfold challengeAct; try dsimp only
  repeat' (first | (with_reducible first | exact Fr.refl _ _ | assumption | refine Fr.ite ?_ ?_ | refine spdmReply_fr ?_ | refine spdmError_fr ?_ | refine negotiated_fr ?_ (fun _ => ?_)) | split)

theorem freshRefresh_fr {μ : ℕ} {α : State} {c : ℕ} {s : State} (hyp : Fr μ α s) (within : μ ||| 262208 = μ := by decide) :
    Fr μ α (freshRefresh c s) := by
  refine Fr.via hyp ?_ within; unfold freshRefresh; try dsimp only
  repeat' (first | (with_reducible first | exact Fr.refl _ _ | assumption | refine Fr.ite ?_ ?_ | refine State.modChan_fr ?_ | refine showDebt_fr ?_) | split)

theorem leaveSelfRefresh_fr {μ : ℕ} {α : State} {c : ℕ} {s : State} (hyp : Fr μ α s) (within : μ ||| 262720 = μ := by decide) :
    Fr μ α (leaveSelfRefresh c s) := by
  refine Fr.via hyp ?_ within; unfold leaveSelfRefresh; try dsimp only
  repeat' (first | (with_reducible first | exact Fr.refl _ _ | assumption | refine Fr.ite ?_ ?_ | refine layModes_fr ?_ | refine freshRefresh_fr ?_) | split)

theorem resumeChannel_fr {μ : ℕ} {α : State} {c : ℕ} {s : State} (hyp : Fr μ α s) (within : μ ||| 283352 = μ := by decide) :
    Fr μ α (resumeChannel c s) := by
  refine Fr.via hyp ?_ within; unfold resumeChannel; try dsimp only
  repeat' (first | (with_reducible first | exact Fr.refl _ _ | assumption | refine Fr.ite ?_ ?_ | refine drainChannel_fr ?_ | refine raise_fr ?_ | refine State.setChanState_fr ?_ | refine syncDepth_fr ?_ | refine State.setChan_fr ?_ | refine State.bumpBy_fr ?_ | refine leaveSelfRefresh_fr ?_) | split)

theorem exitSrx_fr {μ : ℕ} {α : State} {c : ℕ} {s : State} (hyp : Fr μ α s) (within : μ ||| 262656 = μ := by decide) :
    Fr μ α (exitSrx c s) := by
  refine Fr.via hyp ?_ within; unfold exitSrx; try dsimp only
  repeat' (first | (with_reducible first | exact Fr.refl _ _ | assumption | refine Fr.ite ?_ ?_ | refine noteCmd_fr ?_ | refine laySrx_fr ?_ | refine State.modChan_fr ?_) | split)

theorem channelRecovered_fr {μ : ℕ} {α : State} {c : ℕ} {ok : Bool} {s : State} (hyp : Fr μ α s) (within : μ ||| 70144984 = μ := by decide) :
    Fr μ α (channelRecovered c ok s) := by
  refine Fr.via hyp ?_ within; unfold channelRecovered; try dsimp only
  repeat' (first | (with_reducible first | exact Fr.refl _ _ | assumption | refine Fr.ite ?_ ?_ | refine resumeChannel_fr ?_ | refine exitSrx_fr ?_ | refine failChannel_fr ?_) | split)

theorem endLap_fr {μ : ℕ} {α : State} {c : ℕ} {s : State} (hyp : Fr μ α s) (within : μ ||| 282840 = μ := by decide) :
    Fr μ α (endLap c s) := by
  refine Fr.via hyp ?_ within; unfold endLap; try dsimp only
  repeat' (first | (with_reducible first | exact Fr.refl _ _ | assumption | refine Fr.ite ?_ ?_ | refine State.modChan_fr ?_ | refine State.bump_fr ?_ | refine raise_fr ?_ | refine State.setOb_fr ?_) | split)

theorem gleanPast_fr {μ : ℕ} {α : State} {c : ℕ} {k : ℕ} {s : State} (hyp : Fr μ α s) (within : μ ||| 282840 = μ := by decide) :
    Fr μ α (gleanPast c k s) := by
  refine Fr.via hyp ?_ within; unfold gleanPast; try dsimp only
  repeat' (first | (with_reducible first | exact Fr.refl _ _ | assumption | refine Fr.ite ?_ ?_ | refine endLap_fr ?_ | refine State.setOb_fr ?_) | split)

theorem driveBurst_fr {μ : ℕ} {α : State} {c : ℕ} {l : ℕ} {beats : ℕ} {pattern : Bool} {src : ℕ → ℕ → ℕ} {used : ℕ → Bool} {s : State} (hyp : Fr μ α s) (within : μ ||| 512 = μ := by decide) :
    Fr μ α (driveBurst c l beats pattern src used s) := by
  refine Fr.via hyp ?_ within; unfold driveBurst; try dsimp only
  repeat' (first | (with_reducible first | exact Fr.refl _ _ | assumption | refine Fr.ite ?_ ?_ | refine State.setLay_fr ?_ | refine State.setDch_fr ?_ | refine foldl_fr ?_ (fun _ _ => ?_) | refine foldl_frS ?_ (fun _ _ => ?_) | refine foldl_frF ?_ (fun _ _ => ?_)) | split)

theorem lineBytes_fr {μ : ℕ} {α : State} {c : ℕ} {l : ℕ} {bank : ℕ} {row : ℕ} {line : ℕ} {s : State} (hyp : Fr μ α s) (within : μ ||| 8192 = μ := by decide) :
    Fr μ α (lineBytes c l bank row line s).2 := by
  refine Fr.via hyp ?_ within; unfold lineBytes; try dsimp only
  repeat' (first | (with_reducible first | exact Fr.refl _ _ | assumption | refine Fr.ite ?_ ?_ | refine State.takeFree_fr ?_) | split)

theorem layRd_fr {μ : ℕ} {α : State} {c : ℕ} {l : ℕ} {bank : ℕ} {line : ℕ} {ap : Bool} {s : State} (hyp : Fr μ α s) (within : μ ||| 8768 = μ := by decide) :
    Fr μ α (layRd c l bank line ap s).2 := by
  refine Fr.via hyp ?_ within; unfold layRd; try dsimp only
  repeat' (first | (with_reducible first | exact Fr.refl _ _ | assumption | refine Fr.ite ?_ ?_ | refine autoPre_fr ?_ | refine driveBurst_fr ?_ | refine lineBytes_fr ?_ | refine fr_snd (by assumption) (lineBytes_fr ?_) | refine protoAlert_fr ?_) | split)

theorem countTurn_fr {μ : ℕ} {α : State} {c : ℕ} {l : ℕ} {wr : Bool} {s : State} (hyp : Fr μ α s) (within : μ ||| 262208 = μ := by decide) :
    Fr μ α (countTurn c l wr s) := by
  refine Fr.via hyp ?_ within; unfold countTurn; try dsimp only
  repeat' (first | (with_reducible first | exact Fr.refl _ _ | assumption | refine Fr.ite ?_ ?_ | refine State.modChan_fr ?_ | refine State.bump_fr ?_ | refine count_fr ?_) | split)

theorem countData_fr {μ : ℕ} {α : State} {c : ℕ} {slot : ℕ} {l : ℕ} {wr : Bool} {planned : Bool} {s : State} (hyp : Fr μ α s) (within : μ ||| 262208 = μ := by decide) :
    Fr μ α (countData c slot l wr planned s) := by
  refine Fr.via hyp ?_ within; unfold countData; try dsimp only
  repeat' (first | (with_reducible first | exact Fr.refl _ _ | assumption | refine Fr.ite ?_ ?_ | refine State.modChan_fr ?_ | refine State.bump_fr ?_ | refine countTurn_fr ?_) | split)

theorem usedRow_fr {μ : ℕ} {α : State} {c : ℕ} {l : ℕ} {b : ℕ} {s : State} (hyp : Fr μ α s) (within : μ ||| 262144 = μ := by decide) :
    Fr μ α (usedRow c l b s) := by
  refine Fr.via hyp ?_ within; unfold usedRow; try dsimp only
  repeat' (first | (with_reducible first | exact Fr.refl _ _ | assumption | refine Fr.ite ?_ ?_ | refine State.modChan_fr ?_) | split)

theorem sampleCmd_fr {μ : ℕ} {α : State} {kind : ℕ} {id : ℕ} {num : ℕ} {s : State} (hyp : Fr μ α s) (within : μ ||| 67108864 = μ := by decide) :
    Fr μ α (sampleCmd kind id num s) := by
  refine Fr.via hyp ?_ within; unfold sampleCmd; try dsimp only
  repeat' (first | (with_reducible first | exact Fr.refl _ _ | assumption | refine Fr.ite ?_ ?_ | refine modBuilding_fr ?_) | split)

theorem countRead_fr {μ : ℕ} {α : State} {c : ℕ} {planned : Bool} {e : RdEntry} {s : State} (hyp : Fr μ α s) (within : μ ||| 67108928 = μ := by decide) :
    Fr μ α (countRead c planned e s) := by
  refine Fr.via hyp ?_ within; unfold countRead; try dsimp only
  repeat' (first | (with_reducible first | exact Fr.refl _ _ | assumption | refine Fr.ite ?_ ?_ | refine sampleCmd_fr ?_ | refine countIf_fr ?_ | refine count_fr ?_) | split)

theorem issueRead_fr {μ : ℕ} {α : State} {c : ℕ} {slot : ℕ} {bad : Bool} {ap : Bool} {planned : Bool} {e : RdEntry} {over_ : List WrEntry} {s : State} (hyp : Fr μ α s) (within : μ ||| 67379776 = μ := by decide) :
    Fr μ α (issueRead c slot bad ap planned e over_ s) := by
  refine Fr.via hyp ?_ within; unfold issueRead; try dsimp only
  repeat' (first | (with_reducible first | exact Fr.refl _ _ | assumption | refine Fr.ite ?_ ?_ | refine State.modChan_fr ?_ | refine layRd_fr ?_ | refine fr_snd (by assumption) (layRd_fr ?_) | refine layParity_fr ?_ | refine countData_fr ?_ | refine usedRow_fr ?_ | refine countRead_fr ?_ | refine noteCmd_fr ?_) | split)

theorem gleanSlot_fr {μ : ℕ} {α : State} {c : ℕ} {slot : ℕ} {bad : Bool} {after : List (Option PLine)} {s : State} (hyp : Fr μ α s) (within : μ ||| 67400408 = μ := by decide) :
    Fr μ α (gleanSlot c slot bad after s) := by
  refine Fr.via hyp ?_ within; unfold gleanSlot; try dsimp only
  repeat' (first | (with_reducible first | exact Fr.refl _ _ | assumption | refine Fr.ite ?_ ?_ | refine State.takeOrder_fr ?_ | refine gleanPast_fr ?_ | refine issueRead_fr ?_ | refine State.bump_fr ?_ | refine withheld_fr ?_) | split)

theorem layWr_fr {μ : ℕ} {α : State} {c : ℕ} {l : ℕ} {bank : ℕ} {line : ℕ} {ap : Bool} {preamble : Bool} {burst : ℕ} {s : State} (hyp : Fr μ α s) (within : μ ||| 576 = μ := by decide) :
    Fr μ α (layWr c l bank line ap preamble burst s).2 := by
  refine Fr.via hyp ?_ within; unfold layWr; try dsimp only
  repeat' (first | (with_reducible first | exact Fr.refl _ _ | assumption | refine Fr.ite ?_ ?_ | refine autoPre_fr ?_ | refine alertOn_fr ?_ | refine protoAlert_fr ?_) | split | with_reducible refine Fr.set_dram ?_)

theorem countWrite_fr {μ : ℕ} {α : State} {c : ℕ} {planned : Bool} {e : WrEntry} {s : State} (hyp : Fr μ α s) (within : μ ||| 67108928 = μ := by decide) :
    Fr μ α (countWrite c planned e s) := by
  refine Fr.via hyp ?_ within; unfold countWrite; try dsimp only
  repeat' (first | (with_reducible first | exact Fr.refl _ _ | assumption | refine Fr.ite ?_ ?_ | refine sampleCmd_fr ?_ | refine countIf_fr ?_) | split)

theorem issueWrite_fr {μ : ℕ} {α : State} {c : ℕ} {slot : ℕ} {bad : Bool} {preamble : Bool} {ap : Bool} {planned : Bool} {e : WrEntry} {s : State} (hyp : Fr μ α s) (within : μ ||| 67371584 = μ := by decide) :
    Fr μ α (issueWrite c slot bad preamble ap planned e s) := by
  refine Fr.via hyp ?_ within; unfold issueWrite; try dsimp only
  repeat' (first | (with_reducible first | exact Fr.refl _ _ | assumption | refine Fr.ite ?_ ?_ | refine layWr_fr ?_ | refine fr_snd (by assumption) (layWr_fr ?_) | refine layParity_fr ?_ | refine State.modChan_fr ?_ | refine countData_fr ?_ | refine usedRow_fr ?_ | refine countWrite_fr ?_ | refine noteCmd_fr ?_) | split)

theorem issuePick_fr {μ : ℕ} {α : State} {c : ℕ} {slot : ℕ} {bad : Bool} {preamble : Bool} {p : Pick} {s : State} (hyp : Fr μ α s) (within : μ ||| 67379776 = μ := by decide) :
    Fr μ α (issuePick c slot bad preamble p s) := by
  refine Fr.via hyp ?_ within; unfold issuePick; try dsimp only
  repeat' (first | (with_reducible first | exact Fr.refl _ _ | assumption | refine Fr.ite ?_ ?_ | refine issueWrite_fr ?_ | refine syncDepth_fr ?_ | refine State.modChan_fr ?_ | refine issueRead_fr ?_) | split)

theorem openSlot_fr {μ : ℕ} {α : State} {c : ℕ} {slot : ℕ} {bad : Bool} {preamble : Bool} {after : List (Option PLine)} {s : State} (hyp : Fr μ α s) (within : μ ||| 67379776 = μ := by decide) :
    Fr μ α (openSlot c slot bad preamble after s).2 := by
  refine Fr.via hyp ?_ within; unfold openSlot; try dsimp only
  repeat' (first | (with_reducible first | exact Fr.refl _ _ | assumption | refine Fr.ite ?_ ?_ | refine issuePick_fr ?_ | refine withheldMany_fr ?_) | split)

theorem settleLag_fr {μ : ℕ} {α : State} {n : ℕ} {s : State} (hyp : Fr μ α s) (within : μ ||| 131072 = μ := by decide) :
    Fr μ α (settleLag n s) := by
  refine Fr.via hyp ?_ within; unfold settleLag; try dsimp only
  repeat' (first | (with_reducible first | exact Fr.refl _ _ | assumption | refine Fr.ite ?_ ?_ | refine State.modStream_fr ?_) | split)

theorem slip_fr {μ : ℕ} {α : State} {c : ℕ} {n : ℕ} {s : State} (hyp : Fr μ α s) (within : μ ||| 348376 = μ := by decide) :
    Fr μ α (slip c n s) := by
  refine Fr.via hyp ?_ within; unfold slip; try dsimp only
  repeat' (first | (with_reducible first | exact Fr.refl _ _ | assumption | refine Fr.ite ?_ ?_ | refine breakContinuity_fr ?_ | refine countTaken_fr ?_ | refine State.bump_fr ?_ | refine raise_fr ?_ | refine degrade_fr ?_ | refine startDerate_fr ?_) | split)

theorem moveRead_fr {μ : ℕ} {α : State} {c : ℕ} {e : RdEntry} {over_ : List WrEntry} {slot : ℕ} {s : State} (hyp : Fr μ α s) (within : μ ||| 262144 = μ := by decide) :
    Fr μ α (moveRead c e over_ slot s) := by
  refine Fr.via hyp ?_ within; unfold moveRead; try dsimp only
  repeat' (first | (with_reducible first | exact Fr.refl _ _ | assumption | refine Fr.ite ?_ ?_ | refine State.modChan_fr ?_) | split)

theorem sweepOld_fr {μ : ℕ} {α : State} {s : State} (hyp : Fr μ α s) (within : μ ||| 131072 = μ := by decide) :
    Fr μ α (sweepOld s) := by
  refine Fr.via hyp ?_ within; unfold sweepOld; try dsimp only
  repeat' (first | (with_reducible first | exact Fr.refl _ _ | assumption | refine Fr.ite ?_ ?_ | refine State.setFeeds_fr ?_) | split)

theorem sendBeats_fr {μ : ℕ} {α : State} {n : ℕ} {d : StreamDesc} {p f : Bool} {l : List (Nat × Option Nat × Option Nat)} {s : State} (hyp : Fr μ α s)
    (within : μ ||| 16384 = μ := by decide) : Fr μ α (sendBeats n d p f l s) := by
  induction l generalizing s with
  | nil => exact hyp
  | cons b l ih =>
    unfold sendBeats
    split
    · exact hyp
    · rename_i h; cases h; exact State.send_fr hyp (within := within)
    · rename_i h; cases h; exact ih (State.send_fr hyp (within := within))

theorem fr_ite3 {β γ : Type} {c : Prop} [Decidable c] {w : ℕ} {a : State} {x y : β × State × γ} (h : Fr w a x.2.1) (k : Fr w a y.2.1) :
    Fr w a (if c then x else y).2.1 := by split <;> assumption
theorem pumpFeed_fr {μ : ℕ} {α : State} {n k : ℕ} {t : Stream} {s : State} (hyp : Fr μ α s) (within : μ ||| 67129560 = μ := by decide) :
    Fr μ α (pumpFeed n k t s).2.1 := by
  induction k generalizing t s with
  | zero => exact hyp
  | succ k ih =>
    unfold pumpFeed
    split
    · exact hyp
    · split
      · exact hyp
      · dsimp only
        refine fr_ite3 ?_ (ih ?_) <;> (try dsimp only) <;>
          repeat' (first | (with_reducible first | assumption | refine Fr.ite ?_ ?_ | refine sampleEnd_fr ?_ (within := sub_of within (by decide)) | refine raiseCtx_fr ?_ (within := sub_of within (by decide)) | refine sendBeats_fr ?_ (within := sub_of within (by decide)) | refine countIf_fr ?_ (within := sub_of within (by decide)) | refine State.bump_fr ?_ (within := sub_of within (by decide)) | refine State.bumpBy_fr ?_ (within := sub_of within (by decide)) | refine State.send_fr ?_ (within := sub_of within (by decide))) | split)

theorem feedList_fr {μ : ℕ} {α : State} {old : Bool} {n : ℕ} {s : State} (hyp : Fr μ α s) (within : μ ||| 70144472 = μ := by decide) :
    Fr μ α (feedList old n s) := by
  refine Fr.via hyp ?_ within; unfold feedList
  split
  · exact Fr.refl _ _
  · rename_i t _
    have h := pumpFeed_fr (n := n) (k := t.feed.length) (t := t) (Fr.refl 70144472 s)
    dsimp only
    repeat' (first | (with_reducible first | exact h | refine Fr.ite ?_ ?_ | refine fenceContext_fr ?_ | refine State.modOld_fr ?_ | refine State.modStream_fr ?_) | split)

theorem feedOut_fr {μ : ℕ} {α : State} {n : ℕ} {s : State} (hyp : Fr μ α s) (within : μ ||| 70144472 = μ := by decide) :
    Fr μ α (feedOut n s) := by
  refine Fr.via hyp ?_ within; unfold feedOut; try dsimp only
  repeat' (first | (with_reducible first | exact Fr.refl _ _ | assumption | refine Fr.ite ?_ ?_ | refine sweepOld_fr ?_ | refine feedList_fr ?_) | split)

theorem feedArrive_fr {μ : ℕ} {α : State} {n : ℕ} {num : ℕ} {ls : List ℕ} {poison : Bool} {s : State} (hyp : Fr μ α s) (within : μ ||| 70144472 = μ := by decide) :
    Fr μ α (feedArrive n num ls poison s) := by
  refine Fr.via hyp ?_ within; unfold feedArrive; try dsimp only
  repeat' (first | (with_reducible first | exact Fr.refl _ _ | assumption | refine Fr.ite ?_ ?_ | refine State.peak_fr ?_ | refine feedOut_fr ?_ | refine State.modFeed_fr ?_) | split)

theorem feedLine_fr {μ : ℕ} {α : State} {n : ℕ} {num : ℕ} {l : ℕ × ℕ} {s : State} (hyp : Fr μ α s) (within : μ ||| 70144472 = μ := by decide) :
    Fr μ α (feedLine n num l s) := by
  refine Fr.via hyp ?_ within; unfold feedLine; try dsimp only
  repeat' (first | (with_reducible first | exact Fr.refl _ _ | assumption | refine Fr.ite ?_ ?_ | refine feedArrive_fr ?_ | refine State.modFeed_fr ?_ | refine readEscape_fr ?_ | refine countWiden_fr ?_ | refine feedRefused_fr ?_ | refine State.bump_fr ?_ | refine countAccess_fr ?_) | split)

theorem layRdc_fr {μ : ℕ} {α : State} {c : ℕ} {l : ℕ} {bank : ℕ} {ap : Bool} {s : State} (hyp : Fr μ α s) (within : μ ||| 576 = μ := by decide) :
    Fr μ α (layRdc c l bank ap s) := by
  refine Fr.via hyp ?_ within; unfold layRdc; try dsimp only
  repeat' (first | (with_reducible first | exact Fr.refl _ _ | assumption | refine Fr.ite ?_ ?_ | refine autoPre_fr ?_ | refine driveBurst_fr ?_ | refine protoAlert_fr ?_) | split)

theorem issueChaff_fr {μ : ℕ} {α : State} {c : ℕ} {slot : ℕ} {bad : Bool} {ap : Bool} {l : ℕ} {b : ℕ} {line : ℕ} {s : State} (hyp : Fr μ α s) (within : μ ||| 262720 = μ := by decide) :
    Fr μ α (issueChaff c slot bad ap l b line s) := by
  refine Fr.via hyp ?_ within; unfold issueChaff; try dsimp only
  repeat' (first | (with_reducible first | exact Fr.refl _ _ | assumption | refine Fr.ite ?_ ?_ | refine layRdc_fr ?_ | refine layParity_fr ?_ | refine countTurn_fr ?_ | refine count_fr ?_ | refine noteCmd_fr ?_) | split)

theorem issueFeed_fr {μ : ℕ} {α : State} {c : ℕ} {slot : ℕ} {bad : Bool} {d : Due} {nw : ℕ} {cmd : Option SdiCmd} {t : Stream} {s : State} (hyp : Fr μ α s) (within : μ ||| 70153176 = μ := by decide) :
    Fr μ α (issueFeed c slot bad d nw cmd t s) := by
  refine Fr.via hyp ?_ within; unfold issueFeed; try dsimp only
  repeat' (first | (with_reducible first | exact Fr.refl _ _ | assumption | refine Fr.ite ?_ ?_ | refine issueRead_fr ?_ | refine State.takeOrder_fr ?_ | refine moveRead_fr ?_ | refine State.bump_fr ?_ | refine sampleFlag_fr ?_ | refine feedArrive_fr ?_ | refine feedLine_fr ?_ | refine State.setPath_fr ?_ | refine candidate_fr ?_ | refine advance_fr ?_ | refine feedOut_fr ?_ | refine issueChaff_fr ?_ | refine countIf_fr ?_) | split)

theorem homeEffect_fr {μ : ℕ} {α : State} {id : ℕ} {status : ℕ} {s : State} (hyp : Fr μ α s) (within : μ ||| 67371328 = μ := by decide) :
    Fr μ α (homeEffect id status s) := by
  refine Fr.via hyp ?_ within; unfold homeEffect; try dsimp only
  repeat' (first | (with_reducible first | exact Fr.refl _ _ | assumption | refine Fr.ite ?_ ?_ | refine State.modAsk_fr ?_ | refine finish_fr ?_) | split)

theorem wholePlaced_fr {μ : ℕ} {α : State} {id : ℕ} {a : ℕ} {data : ℕ} {info : ℕ} {s : State} (hyp : Fr μ α s) (within : μ ||| 68440536 = μ := by decide) :
    Fr μ α (wholePlaced id a data info s) := by
  refine Fr.via hyp ?_ within; unfold wholePlaced; try dsimp only
  repeat' (first | (with_reducible first | exact Fr.refl _ _ | assumption | refine Fr.ite ?_ ?_ | refine homeEffect_fr ?_ | refine State.modAsk_fr ?_ | refine backingWrite_fr ?_) | split)

theorem fireSignals_fr {μ : ℕ} {α : State} {n : ℕ} {t : Stream} {s : State} (hyp : Fr μ α s) (within : μ ||| 70144472 = μ := by decide) :
    Fr μ α (fireSignals n t s).2 := by
  refine Fr.via hyp ?_ within; unfold fireSignals; try dsimp only
  repeat' (first | (with_reducible first | exact Fr.refl _ _ | assumption | refine Fr.ite ?_ ?_ | refine signalObject_fr ?_ | refine forEach_fr ?_ (fun _ _ => ?_)) | split)

theorem fire_fr {μ : ℕ} {α : State} {old : Bool} {n : ℕ} {s : State} (hyp : Fr μ α s) (within : μ ||| 70144472 = μ := by decide) :
    Fr μ α (fire old n s) := by
  refine Fr.via hyp ?_ within; unfold fire; try dsimp only
  repeat' (first | (with_reducible first | exact Fr.refl _ _ | assumption | refine Fr.ite ?_ ?_ | refine State.modStream_fr ?_ | refine State.modOld_fr ?_ | refine fireSignals_fr ?_ | refine fr_snd (by assumption) (fireSignals_fr ?_)) | split)

theorem settleDrain_fr {μ : ℕ} {α : State} {old : Bool} {n : ℕ} {s : State} (hyp : Fr μ α s) (within : μ ||| 70144472 = μ := by decide) :
    Fr μ α (settleDrain old n s) := by
  refine Fr.via hyp ?_ within; unfold settleDrain; try dsimp only
  repeat' (first | (with_reducible first | exact Fr.refl _ _ | assumption | refine Fr.ite ?_ ?_ | refine State.modStream_fr ?_ | refine State.modOld_fr ?_ | refine fire_fr ?_ | refine sweepOld_fr ?_) | split)

theorem writeMove_fr {μ : ℕ} {α : State} {l : Loc} {data : ℕ} {info : ℕ} {s : State} (hyp : Fr μ α s) (within : μ ||| 262144 = μ := by decide) :
    Fr μ α (writeMove l data info s) := by
  refine Fr.via hyp ?_ within; unfold writeMove; try dsimp only
  repeat' (first | (with_reducible first | exact Fr.refl _ _ | assumption | refine Fr.ite ?_ ?_ | refine State.modChan_fr ?_) | split)

theorem healedNow_fr {μ : ℕ} {α : State} {c : ℕ} {line : ℕ} {s : State} (hyp : Fr μ α s) (within : μ ||| 262208 = μ := by decide) :
    Fr μ α (healedNow c line s) := by
  refine Fr.via hyp ?_ within; unfold healedNow; try dsimp only
  repeat' (first | (with_reducible first | exact Fr.refl _ _ | assumption | refine Fr.ite ?_ ?_ | refine setWeak_fr ?_) | split)

theorem countHealed_fr {μ : ℕ} {α : State} {w : WrEntry} {s : State} (hyp : Fr μ α s) (within : μ ||| 262208 = μ := by decide) :
    Fr μ α (countHealed w s) := by
  refine Fr.via hyp ?_ within; unfold countHealed; try dsimp only
  repeat' (first | (with_reducible first | exact Fr.refl _ _ | assumption | refine Fr.ite ?_ ?_ | refine healedNow_fr ?_) | split)

theorem supersedeWrites_fr {μ : ℕ} {α : State} {c : ℕ} {a : ℕ} {s : State} (hyp : Fr μ α s) (within : μ ||| 67371328 = μ := by decide) :
    Fr μ α (supersedeWrites c a s) := by
  refine Fr.via hyp ?_ within; unfold supersedeWrites; try dsimp only
  repeat' (first | (with_reducible first | exact Fr.refl _ _ | assumption | refine Fr.ite ?_ ?_ | refine homeEffect_fr ?_ | refine State.modAsk_fr ?_ | refine retire_fr ?_ | refine State.bump_fr ?_ | refine syncDepth_fr ?_ | refine countHealed_fr ?_ | refine State.modChan_fr ?_ | refine forEach_fr ?_ (fun _ _ => ?_)) | split)

theorem planOverRed_fr {μ : ℕ} {α : State} {a : ℕ} {s : State} (hyp : Fr μ α s) (within : μ ||| 20696 = μ := by decide) :
    Fr μ α (planOverRed a s) := by
  refine Fr.via hyp ?_ within; unfold planOverRed; try dsimp only
  repeat' (first | (with_reducible first | exact Fr.refl _ _ | assumption | refine Fr.ite ?_ ?_ | refine State.bump_fr ?_ | refine raiseAt_fr ?_) | split)

theorem issueDrain_fr {μ : ℕ} {α : State} {c : ℕ} {slot : ℕ} {bad : Bool} {preamble : Bool} {d : Due} {x : DrainLine} {cmd : Option SdiCmd} {t : Stream} {s : State} (hyp : Fr μ α s) (within : μ ||| 71193560 = μ := by decide) :
    Fr μ α (issueDrain c slot bad preamble d x cmd t s) := by
  refine Fr.via hyp ?_ within; unfold issueDrain; try dsimp only
  repeat' (first | (with_reducible first | exact Fr.refl _ _ | assumption | refine Fr.ite ?_ ?_ | refine wholePlaced_fr ?_ | refine settleDrain_fr ?_ | refine issueWrite_fr ?_ | refine State.takeOrder_fr ?_ | refine writeMove_fr ?_ | refine State.modAsk_fr ?_ | refine pushWrite_fr ?_ | refine State.modChan_fr ?_ | refine replaceCopy_fr ?_ | refine supersedeWrites_fr ?_ | refine planOverRed_fr ?_ | refine State.setFeeds_fr ?_ | refine candidate_fr ?_ | refine State.bump_fr ?_ | refine countIf_fr ?_ | refine State.send_fr ?_ | refine advance_fr ?_ | refine State.peak_fr ?_ | refine addAsk_fr ?_) | split)

theorem lateMask_fr {μ : ℕ} {α : State} {n : ℕ} {i : LineItem} {s : State} (hyp : Fr μ α s) (within : μ ||| 151768 = μ := by decide) :
    Fr μ α (lateMask n i s) := by
  refine Fr.via hyp ?_ within; unfold lateMask; try dsimp only
  repeat' (first | (with_reducible first | exact Fr.refl _ _ | assumption | refine Fr.ite ?_ ?_ | refine raiseCtx_fr ?_ | refine State.modStream_fr ?_) | split)

theorem plannedSlot_fr {μ : ℕ} {α : State} {c : ℕ} {slot : ℕ} {bad : Bool} {preamble : Bool} {own : Bool} {n : ℕ} {w : List (Option PLine)} {s : State} (hyp : Fr μ α s) (within : μ ||| 71267288 = μ := by decide) :
    Fr μ α (plannedSlot c slot bad preamble own n w s).2 := by
  refine Fr.via hyp ?_ within; unfold plannedSlot; try dsimp only
  repeat' (first | (with_reducible first | exact Fr.refl _ _ | assumption | refine Fr.ite ?_ ?_ | refine slip_fr ?_ | refine issueFeed_fr ?_ | refine issueDrain_fr ?_ | refine countIf_fr ?_ | refine State.modStream_fr ?_ | refine lateMask_fr ?_) | split)

theorem lateLine_fr {μ : ℕ} {α : State} {c : ℕ} {slot : ℕ} {bad : Bool} {preamble : Bool} {w : List (Option PLine)} {after : List (Option PLine)} {s : State} (hyp : Fr μ α s) (within : μ ||| 71267288 = μ := by decide) :
    Fr μ α (lateLine c slot bad preamble w after s).2 := by
  refine Fr.via hyp ?_ within; unfold lateLine; try dsimp only
  repeat' (first | (with_reducible first | exact Fr.refl _ _ | assumption | refine Fr.ite ?_ ?_ | refine settleLag_fr ?_ | refine plannedSlot_fr ?_ | refine fr_snd (by assumption) (plannedSlot_fr ?_)) | split)

theorem freeSlot_fr {μ : ℕ} {α : State} {c : ℕ} {slot : ℕ} {bad : Bool} {preamble : Bool} {w : List (Option PLine)} {after : List (Option PLine)} {s : State} (hyp : Fr μ α s) (within : μ ||| 71267288 = μ := by decide) :
    Fr μ α (freeSlot c slot bad preamble w after s) := by
  refine Fr.via hyp ?_ within; unfold freeSlot; try dsimp only
  repeat' (first | (with_reducible first | exact Fr.refl _ _ | assumption | refine Fr.ite ?_ ?_ | refine gleanSlot_fr ?_ | refine openSlot_fr ?_ | refine fr_snd (by assumption) (openSlot_fr ?_) | refine lateLine_fr ?_ | refine fr_snd (by assumption) (lateLine_fr ?_)) | split)

theorem countOwn_fr {μ : ℕ} {α : State} {n : ℕ} {s : State} (hyp : Fr μ α s) (within : μ ||| 64 = μ := by decide) :
    Fr μ α (countOwn n s) := by
  refine Fr.via hyp ?_ within; unfold countOwn; try dsimp only
  repeat' (first | (with_reducible first | exact Fr.refl _ _ | assumption | refine Fr.ite ?_ ?_ | refine countIf_fr ?_) | split)

theorem clearOnRead_fr {μ : ℕ} {α : State} {c : ℕ} {l : ℕ} {a : ℕ} {s : State} (hyp : Fr μ α s) (within : μ ||| 512 = μ := by decide) :
    Fr μ α (clearOnRead c l a s) := by
  refine Fr.via hyp ?_ within; unfold clearOnRead; try dsimp only
  repeat' (first | (with_reducible first | exact Fr.refl _ _ | assumption | refine Fr.ite ?_ ?_ | refine State.setLay_fr ?_) | split)

theorem layMrr_fr {μ : ℕ} {α : State} {c : ℕ} {l : ℕ} {a : ℕ} {s : State} (hyp : Fr μ α s) (within : μ ||| 576 = μ := by decide) :
    Fr μ α (layMrr c l a s).2 := by
  refine Fr.via hyp ?_ within; unfold layMrr; try dsimp only
  repeat' (first | (with_reducible first | exact Fr.refl _ _ | assumption | refine Fr.ite ?_ ?_ | refine clearOnRead_fr ?_ | refine driveBurst_fr ?_ | refine protoAlert_fr ?_) | split)

theorem issueTemp_fr {μ : ℕ} {α : State} {c : ℕ} {slot : ℕ} {layer : ℕ} {bad : Bool} {s : State} (hyp : Fr μ α s) (within : μ ||| 262720 = μ := by decide) :
    Fr μ α (issueTemp c slot layer bad s) := by
  refine Fr.via hyp ?_ within; unfold issueTemp; try dsimp only
  repeat' (first | (with_reducible first | exact Fr.refl _ _ | assumption | refine Fr.ite ?_ ?_ | refine State.modChan_fr ?_ | refine State.takeOrder_fr ?_ | refine layMrr_fr ?_ | refine fr_snd (by assumption) (layMrr_fr ?_) | refine layParity_fr ?_ | refine noteCmd_fr ?_) | split)

theorem readTemp_fr {μ : ℕ} {α : State} {c : ℕ} {slot : ℕ} {bad : Bool} {after : List (Option PLine)} {s : State} (hyp : Fr μ α s) (within : μ ||| 4457024 = μ := by decide) :
    Fr μ α (readTemp c slot bad after s).2 := by
  refine Fr.via hyp ?_ within; unfold readTemp; try dsimp only
  repeat' (first | (with_reducible first | exact Fr.refl _ _ | assumption | refine Fr.ite ?_ ?_ | refine issueTemp_fr ?_ | refine withheld_fr ?_) | split | with_reducible refine Fr.set_heat ?_)

theorem issueRef_fr {μ : ℕ} {α : State} {c : ℕ} {slot : ℕ} {bad : Bool} {l : ℕ} {big : ℕ} {mask : ℕ} {s : State} (hyp : Fr μ α s) (within : μ ||| 262720 = μ := by decide) :
    Fr μ α (issueRef c slot bad l big mask s) := by
  refine Fr.via hyp ?_ within; unfold issueRef; try dsimp only
  repeat' (first | (with_reducible first | exact Fr.refl _ _ | assumption | refine Fr.ite ?_ ?_ | refine State.bumpBy_fr ?_ | refine count_fr ?_ | refine driveCmd_fr ?_ | refine State.modChan_fr ?_ | refine addDebt_fr ?_ | refine noteCmd_fr ?_) | split)

theorem reserveRefresh_fr {μ : ℕ} {α : State} {c : ℕ} {slot : ℕ} {bad : Bool} {after : List (Option PLine)} {s : State} (hyp : Fr μ α s) (within : μ ||| 4457024 = μ := by decide) :
    Fr μ α (reserveRefresh c slot bad after s).2 := by
  refine Fr.via hyp ?_ within; unfold reserveRefresh; try dsimp only
  repeat' (first | (with_reducible first | exact Fr.refl _ _ | assumption | refine Fr.ite ?_ ?_ | refine issueRef_fr ?_ | refine readTemp_fr ?_ | refine fr_snd (by assumption) (readTemp_fr ?_) | refine withheld_fr ?_) | split)

theorem takenSlot_fr {μ : ℕ} {α : State} {n : ℕ} {s : State} (hyp : Fr μ α s) (within : μ ||| 131072 = μ := by decide) :
    Fr μ α (takenSlot n s) := by
  refine Fr.via hyp ?_ within; unfold takenSlot; try dsimp only
  repeat' (first | (with_reducible first | exact Fr.refl _ _ | assumption | refine Fr.ite ?_ ?_ | refine State.modStream_fr ?_) | split)

theorem urgentRefresh_fr {μ : ℕ} {α : State} {c : ℕ} {slot : ℕ} {bad : Bool} {s : State} (hyp : Fr μ α s) (within : μ ||| 283352 = μ := by decide) :
    FrO μ α (urgentRefresh c slot bad s) := by
  refine FrO.via hyp ?_ within; unfold urgentRefresh; try dsimp only
  repeat' (first | (with_reducible first | exact Fr.refl _ _ | assumption | exact frO_none | refine frO_some ?_ | refine Fr.ite ?_ ?_ | refine State.bump_fr ?_ | refine count_fr ?_ | refine raise_fr ?_ | refine issueRef_fr ?_ | refine foldl_fr ?_ (fun _ _ => ?_) | refine foldl_frS ?_ (fun _ _ => ?_) | refine foldl_frF ?_ (fun _ _ => ?_)) | split)

theorem endOwnSlot_fr {μ : ℕ} {α : State} {n : ℕ} {s : State} (hyp : Fr μ α s) (within : μ ||| 131136 = μ := by decide) :
    Fr μ α (endOwnSlot n s) := by
  refine Fr.via hyp ?_ within; unfold endOwnSlot; try dsimp only
  repeat' (first | (with_reducible first | exact Fr.refl _ _ | assumption | refine Fr.ite ?_ ?_ | refine State.setOb_fr ?_ | refine State.modStream_fr ?_ | refine foldl_fr ?_ (fun _ _ => ?_) | refine foldl_frS ?_ (fun _ _ => ?_) | refine foldl_frF ?_ (fun _ _ => ?_)) | split)

theorem colPosition_fr {μ : ℕ} {α : State} {c : ℕ} {slot : ℕ} {bad : Bool} {preamble : Bool} {w : List (Option PLine)} {after : List (Option PLine)} {s : State} (hyp : Fr μ α s) (within : μ ||| 75461592 = μ := by decide) :
    Fr μ α (colPosition c slot bad preamble w after s) := by
  refine Fr.via hyp ?_ within; unfold colPosition; try dsimp only
  repeat' (first | (with_reducible first | exact Fr.refl _ _ | assumption | refine Fr.ite ?_ ?_ | refine freeSlot_fr ?_ | refine countIf_fr ?_ | refine plannedSlot_fr ?_ | refine fr_snd (by assumption) (plannedSlot_fr ?_) | refine countOwn_fr ?_ | refine readTemp_fr ?_ | refine fr_snd (by assumption) (readTemp_fr ?_) | refine gleanSlot_fr ?_ | refine orElse_fr ?_ (fun _ => ?_) | refine calSlot_fr ?_ | refine reserveRefresh_fr ?_ | refine fr_snd (by assumption) (reserveRefresh_fr ?_) | refine takenSlot_fr ?_ | refine State.modChan_fr ?_ | refine slip_fr ?_ | refine FrO.of_eq (urgentRefresh_fr ?_) (by assumption) | refine urgentRefresh_fr ?_ | refine FrO.getD (urgentRefresh_fr ?_) ?_ | refine endOwnSlot_fr ?_) | split)

theorem takeSteer_fr {μ : ℕ} {α : State} {c : ℕ} {s : State} (hyp : Fr μ α s) (within : μ ||| 8388608 = μ := by decide) :
    Fr μ α (takeSteer c s) := by
  refine Fr.via hyp ?_ within; unfold takeSteer; try dsimp only
  repeat' (first | (with_reducible first | exact Fr.refl _ _ | assumption | refine Fr.ite ?_ ?_ | refine State.modTr_fr ?_) | split)

theorem rowPosition_fr {μ : ℕ} {α : State} {c : ℕ} {slot : ℕ} {bad : Bool} {w : List (Option PLine)} {s : State} (hyp : Fr μ α s) (within : μ ||| 8651328 = μ := by decide) :
    Fr μ α (rowPosition c slot bad w s) := by
  refine Fr.via hyp ?_ within; unfold rowPosition; try dsimp only
  repeat' (first | (with_reducible first | exact Fr.refl _ _ | assumption | refine Fr.ite ?_ ?_ | refine withheld_fr ?_ | refine issueRow_fr ?_ | refine withheldMany_fr ?_ | refine takeSteer_fr ?_ | refine State.modChan_fr ?_) | split)

theorem pushRead_fr {μ : ℕ} {α : State} {who : Reader} {a : ℕ} {rank : ℕ} {port : Option ℕ} {region : Option (ℕ × ℕ)} {s : State} (hyp : Fr μ α s) (within : μ ||| 262208 = μ := by decide) :
    Fr μ α (pushRead who a rank port region s) := by
  refine Fr.via hyp ?_ within; unfold pushRead; try dsimp only
  repeat' (first | (with_reducible first | exact Fr.refl _ _ | assumption | refine Fr.ite ?_ ?_ | refine State.modChan_fr ?_ | refine State.takeOrder_fr ?_ | refine syncDepth_fr ?_) | split)

theorem prefetch_fr {μ : ℕ} {α : State} {c : ℕ} {slot : ℕ} {s : State} (hyp : Fr μ α s) (within : μ ||| 262208 = μ := by decide) :
    Fr μ α (prefetch c slot s) := by
  refine Fr.via hyp ?_ within; unfold prefetch; try dsimp only
  repeat' (first | (with_reducible first | exact Fr.refl _ _ | assumption | refine Fr.ite ?_ ?_ | refine pushRead_fr ?_ | refine State.setPath_fr ?_ | refine foldl_fr ?_ (fun _ _ => ?_) | refine foldl_frS ?_ (fun _ _ => ?_) | refine foldl_frF ?_ (fun _ _ => ?_)) | split)

theorem nextMode_fr {μ : ℕ} {α : State} {c : ℕ} {slot : ℕ} {s : State} (hyp : Fr μ α s) (within : μ ||| 262208 = μ := by decide) :
    Fr μ α (nextMode c slot s) := by
  refine Fr.via hyp ?_ within; unfold nextMode; try dsimp only
  repeat' (first | (with_reducible first | exact Fr.refl _ _ | assumption | refine Fr.ite ?_ ?_ | refine State.bump_fr ?_ | refine State.modChan_fr ?_) | split)

theorem serveMove_fr {μ : ℕ} {α : State} {c : ℕ} {slot : ℕ} {s : State} (hyp : Fr μ α s) (within : μ ||| 262208 = μ := by decide) :
    Fr μ α (serveMove c slot s) := by
  refine Fr.via hyp ?_ within; unfold serveMove; try dsimp only
  repeat' (first | (with_reducible first | exact Fr.refl _ _ | assumption | refine Fr.ite ?_ ?_ | refine syncDepth_fr ?_ | refine State.modChan_fr ?_ | refine moveRead_fr ?_ | refine State.modAsk_fr ?_ | refine retire_fr ?_ | refine writeMove_fr ?_ | refine countHealed_fr ?_ | refine forEach_fr ?_ (fun _ _ => ?_)) | split)

theorem passSlot_fr {μ : ℕ} {α : State} {c : ℕ} {slot : ℕ} {s : State} (hyp : Fr μ α s) (within : μ ||| 131136 = μ := by decide) :
    Fr μ α (passSlot c slot s) := by
  refine Fr.via hyp ?_ within; unfold passSlot; try dsimp only
  repeat' (first | (with_reducible first | exact Fr.refl _ _ | assumption | refine Fr.ite ?_ ?_ | refine takenSlot_fr ?_ | refine endOwnSlot_fr ?_) | split)

theorem channelSlot_fr {μ : ℕ} {α : State} {c : ℕ} {fault : ℕ} {s : State} (hyp : Fr μ α s) (within : μ ||| 83850200 = μ := by decide) :
    Fr μ α (channelSlot c fault s) := by
  refine Fr.via hyp ?_ within; unfold channelSlot; try dsimp only
  repeat' (first | (with_reducible first | exact Fr.refl _ _ | assumption | refine Fr.ite ?_ ?_ | refine count_fr ?_ | refine colPosition_fr ?_ | refine rowPosition_fr ?_ | refine prefetch_fr ?_ | refine ageReads_fr ?_ | refine nextMode_fr ?_ | refine serveMove_fr ?_ | refine beginWindow_fr ?_ | refine State.modChan_fr ?_ | refine passSlot_fr ?_) | split)

theorem endSettle_fr {μ : ℕ} {α : State} {s : State} (hyp : Fr μ α s) (within : μ ||| 16832 = μ := by decide) :
    Fr μ α (endSettle s) := by
  refine Fr.via hyp ?_ within; unfold endSettle; try dsimp only
  repeat' (first | (with_reducible first | exact Fr.refl _ _ | assumption | refine Fr.ite ?_ ?_ | refine sendParcel_fr ?_ | refine answerHanded_fr ?_ | refine forEach_fr ?_ (fun _ _ => ?_)) | split | with_reducible refine Fr.set_mgmt ?_)

theorem settleLead_fr {μ : ℕ} {α : State} {s : State} (hyp : Fr μ α s) (within : μ ||| 16832 = μ := by decide) :
    Fr μ α (settleLead s) := by
  refine Fr.via hyp ?_ within; unfold settleLead; try dsimp only
  repeat' (first | (with_reducible first | exact Fr.refl _ _ | assumption | refine Fr.ite ?_ ?_ | refine sendObject_fr ?_ | refine State.setWrites_fr ?_ | refine endSettle_fr ?_ | refine forEach_fr ?_ (fun _ _ => ?_) | refine foldl_fr ?_ (fun _ _ => ?_) | refine foldl_frS ?_ (fun _ _ => ?_) | refine foldl_frF ?_ (fun _ _ => ?_)) | split | with_reducible refine Fr.set_mgmt ?_)

theorem leadLost_fr {μ : ℕ} {α : State} {s : State} (hyp : Fr μ α s) (within : μ ||| 16832 = μ := by decide) :
    Fr μ α (leadLost s) := by
  refine Fr.via hyp ?_ within; unfold leadLost; try dsimp only
  repeat' (first | (with_reducible first | exact Fr.refl _ _ | assumption | refine Fr.ite ?_ ?_ | refine sendParcel_fr ?_ | refine sendObject_fr ?_ | refine settleLead_fr ?_ | refine State.setWrites_fr ?_ | refine forEach_fr ?_ (fun _ _ => ?_) | refine foldl_fr ?_ (fun _ _ => ?_) | refine foldl_frS ?_ (fun _ _ => ?_) | refine foldl_frF ?_ (fun _ _ => ?_)) | split | with_reducible refine Fr.set_mgmt ?_)

theorem newLead_fr {μ : ℕ} {α : State} {lead : ℕ} {s : State} (hyp : Fr μ α s) (within : μ ||| 16832 = μ := by decide) :
    Fr μ α (newLead lead s) := by
  refine Fr.via hyp ?_ within; unfold newLead; try dsimp only
  repeat' (first | (with_reducible first | exact Fr.refl _ _ | assumption | refine Fr.ite ?_ ?_ | refine State.setSet_fr ?_ | refine leadLost_fr ?_) | split)

theorem leadChange_fr {μ : ℕ} {α : State} {n : ℕ} {s : State} (hyp : Fr μ α s) (within : μ ||| 20952 = μ := by decide) :
    Fr μ α (leadChange n s) := by
  refine Fr.via hyp ?_ within; unfold leadChange; try dsimp only
  repeat' (first | (with_reducible first | exact Fr.refl _ _ | assumption | refine Fr.ite ?_ ?_ | refine raiseNode_fr ?_ | refine newLead_fr ?_) | split)

theorem lostTarget_fr {μ : ℕ} {α : State} {n : ℕ} {obj : ℕ} {t : Stream} {s : State} (hyp : Fr μ α s) (within : μ ||| 70144472 = μ := by decide) :
    Fr μ α (lostTarget n obj t s) := by
  refine Fr.via hyp ?_ within; unfold lostTarget; try dsimp only
  repeat' (first | (with_reducible first | exact Fr.refl _ _ | assumption | refine Fr.ite ?_ ?_ | refine raiseCtx_fr ?_ | refine fenceContext_fr ?_) | split)

theorem loseTargets_fr {μ : ℕ} {α : State} {n : ℕ} {s : State} (hyp : Fr μ α s) (within : μ ||| 70144472 = μ := by decide) :
    Fr μ α (loseTargets n s) := by
  refine Fr.via hyp ?_ within; unfold loseTargets; try dsimp only
  repeat' (first | (with_reducible first | exact Fr.refl _ _ | assumption | refine Fr.ite ?_ ?_ | refine lostTarget_fr ?_ | refine forEach_fr ?_ (fun _ _ => ?_)) | split)

theorem dropWatcher_fr {μ : ℕ} {α : State} {node : ℕ} {s : State} (hyp : Fr μ α s) (within : μ ||| 67895616 = μ := by decide) :
    Fr μ α (dropWatcher node s) := by
  refine Fr.via hyp ?_ within; unfold dropWatcher; try dsimp only
  repeat' (first | (with_reducible first | exact Fr.refl _ _ | assumption | refine Fr.ite ?_ ?_ | refine finish_fr ?_ | refine forEach_fr ?_ (fun _ _ => ?_)) | split | with_reducible refine Fr.set_cache ?_)

theorem dropRemote_fr {μ : ℕ} {α : State} {n : ℕ} {s : State} (hyp : Fr μ α s) (within : μ ||| 67371008 = μ := by decide) :
    Fr μ α (dropRemote n s) := by
  refine Fr.via hyp ?_ within; unfold dropRemote; try dsimp only
  repeat' (first | (with_reducible first | exact Fr.refl _ _ | assumption | refine Fr.ite ?_ ?_ | refine State.setAsks_fr ?_ | refine dropAsk_fr ?_ | refine forEach_fr ?_ (fun _ _ => ?_)) | split)

theorem clearPeer_fr {μ : ℕ} {α : State} {n : ℕ} {s : State} (hyp : Fr μ α s) (within : μ ||| 256 = μ := by decide) :
    Fr μ α (clearPeer n s) := by
  refine Fr.via hyp ?_ within; unfold clearPeer; try dsimp only
  repeat' (first | (with_reducible first | exact Fr.refl _ _ | assumption | refine Fr.ite ?_ ?_ | refine restartFlows_fr ?_ | refine State.setPort_fr ?_ | refine forEach_fr ?_ (fun _ _ => ?_)) | split | with_reducible refine Fr.set_hl ?_)

theorem loseMember_fr {μ : ℕ} {α : State} {n : ℕ} {s : State} (hyp : Fr μ α s) (within : μ ||| 70144476 = μ := by decide) :
    Fr μ α (loseMember n s) := by
  refine Fr.via hyp ?_ within; unfold loseMember; try dsimp only
  repeat' (first | (with_reducible first | exact Fr.refl _ _ | assumption | refine Fr.ite ?_ ?_ | refine loseTargets_fr ?_ | refine dropWatcher_fr ?_ | refine dropRemote_fr ?_ | refine clearPeer_fr ?_ | refine dropAsk_fr ?_ | refine finish_fr ?_ | refine computeRoutes_fr ?_ | refine raiseNode_fr ?_ | refine State.setSet_fr ?_ | refine forEach_fr ?_ (fun _ _ => ?_)) | split | with_reducible refine Fr.set_power ?_)

theorem nodeLost_fr {μ : ℕ} {α : State} {n : ℕ} {s : State} (hyp : Fr μ α s) (within : μ ||| 71258588 = μ := by decide) :
    Fr μ α (nodeLost n s) := by
  refine Fr.via hyp ?_ within; unfold nodeLost; try dsimp only
  repeat' (first | (with_reducible first | exact Fr.refl _ _ | assumption | refine Fr.ite ?_ ?_ | refine enterHalted_fr ?_ | refine State.setSet_fr ?_ | refine raiseNode_fr ?_ | refine serveAll_fr ?_ | refine ackOrder_fr ?_ | refine settleLead_fr ?_ | refine leadChange_fr ?_ | refine breakContinuity_fr ?_ | refine loseMember_fr ?_ | refine forEach_fr ?_ (fun _ _ => ?_)) | split)

theorem findLost_fr {μ : ℕ} {α : State} {n : ℕ} {s : State} (hyp : Fr μ α s) (within : μ ||| 71258588 = μ := by decide) :
    Fr μ α (findLost n s) := by
  refine Fr.via hyp ?_ within; unfold findLost; try dsimp only
  repeat' (first | (with_reducible first | exact Fr.refl _ _ | assumption | refine Fr.ite ?_ ?_ | refine nodeLost_fr ?_ | refine sendControl_fr ?_ | refine forEach_fr ?_ (fun _ _ => ?_)) | split)

theorem checkLoss_fr {μ : ℕ} {α : State} {s : State} (hyp : Fr μ α s) (within : μ ||| 71258588 = μ := by decide) :
    Fr μ α (checkLoss s) := by
  refine Fr.via hyp ?_ within; unfold checkLoss; try dsimp only
  repeat' (first | (with_reducible first | exact Fr.refl _ _ | assumption | refine Fr.ite ?_ ?_ | refine findLost_fr ?_ | refine forEach_fr ?_ (fun _ _ => ?_)) | split)

theorem checkerFails_fr {μ : ℕ} {α : State} {bit_ : ℕ} {inst : ℕ} {s : State} (hyp : Fr μ α s) (within : μ ||| 20696 = μ := by decide) :
    Fr μ α (checkerFails bit_ inst s) := by
  refine Fr.via hyp ?_ within; unfold checkerFails; try dsimp only
  repeat' (first | (with_reducible first | exact Fr.refl _ _ | assumption | refine Fr.ite ?_ ?_ | refine State.setOb_fr ?_ | refine raise_fr ?_) | split)

theorem chunkGetAct_fr {μ : ℕ} {α : State} {r : Req} {seq : ℕ} {a : State} (hyp : Fr μ α a) (within : μ ||| 17600 = μ := by decide) :
    Fr μ α (chunkGetAct r seq a) := by
  refine Fr.via hyp ?_ within; unfold chunkGetAct; try dsimp only
  repeat' (first | (with_reducible first | exact Fr.refl _ _ | assumption | refine Fr.ite ?_ ?_ | refine State.setSpdm_fr ?_ | refine spdmReply_fr ?_ | refine spdmError_fr ?_) | split)

theorem chunkSendAct_fr {μ : ℕ} {α : State} {r : Req} {seq : ℕ} {last : Bool} {data : List Byte} {a : State} (hyp : Fr μ α a) (within : μ ||| 17600 = μ := by decide) :
    Fr μ α (chunkSendAct r seq last data a) := by
  refine Fr.via hyp ?_ within; unfold chunkSendAct; try dsimp only
  repeat' (first | (with_reducible first | exact Fr.refl _ _ | assumption | refine Fr.ite ?_ ?_ | refine State.setSpdm_fr ?_ | refine spdmReply_fr ?_ | refine spdmError_fr ?_) | split)

theorem takeClass_fr {μ : ℕ} {α : State} {new : ℕ} {c : ℕ} {s : State} (hyp : Fr μ α s) (within : μ ||| 262208 = μ := by decide) :
    Fr μ α (takeClass new c s) := by
  refine Fr.via hyp ?_ within; unfold takeClass; try dsimp only
  repeat' (first | (with_reducible first | exact Fr.refl _ _ | assumption | refine Fr.ite ?_ ?_ | refine State.modChan_fr ?_ | refine showDebt_fr ?_ | refine State.setOb_fr ?_ | refine forEach_fr ?_ (fun _ _ => ?_)) | split)

theorem classChange_fr {μ : ℕ} {α : State} {u : ℕ} {s : State} (hyp : Fr μ α s) (within : μ ||| 282840 = μ := by decide) :
    Fr μ α (classChange u s) := by
  refine Fr.via hyp ?_ within; unfold classChange; try dsimp only
  repeat' (first | (with_reducible first | exact Fr.refl _ _ | assumption | refine Fr.ite ?_ ?_ | refine startDerate_fr ?_ | refine raise_fr ?_ | refine takeClass_fr ?_ | refine forEach_fr ?_ (fun _ _ => ?_)) | split)

theorem clearArray_fr {μ : ℕ} {α : State} {p : ℕ} {s : State} (hyp : Fr μ α s) (within : μ ||| 524288 = μ := by decide) :
    Fr μ α (clearArray p s) := by
  refine Fr.via hyp ?_ within; unfold clearArray; try dsimp only
  repeat' (first | (with_reducible first | exact Fr.refl _ _ | assumption | refine Fr.ite ?_ ?_ | refine State.setCache_fr ?_) | split)

theorem linkReset_fr {μ : ℕ} {α : State} {h : ℕ} {s : State} (hyp : Fr μ α s) (within : μ ||| 20952 = μ := by decide) :
    Fr μ α (linkReset h s) := by
  refine Fr.via hyp ?_ within; unfold linkReset; try dsimp only
  repeat' (first | (with_reducible first | exact Fr.refl _ _ | assumption | refine Fr.ite ?_ ?_ | refine State.bump_fr ?_ | refine raise_fr ?_ | refine State.send_fr ?_ | refine State.setPort_fr ?_) | split)

theorem fellBack_fr {μ : ℕ} {α : State} {inst : ℕ} {s : State} (hyp : Fr μ α s) (within : μ ||| 20696 = μ := by decide) :
    Fr μ α (fellBack inst s) := by
  refine Fr.via hyp ?_ within; unfold fellBack; try dsimp only
  repeat' (first | (with_reducible first | exact Fr.refl _ _ | assumption | refine Fr.ite ?_ ?_ | refine raise_fr ?_) | split)

theorem sheafFallback_fr {μ : ℕ} {α : State} {u : ℕ} {s : State} (hyp : Fr μ α s) (within : μ ||| 16797912 = μ := by decide) :
    Fr μ α (sheafFallback u s) := by
  refine Fr.via hyp ?_ within; unfold sheafFallback; try dsimp only
  repeat' (first | (with_reducible first | exact Fr.refl _ _ | assumption | refine Fr.ite ?_ ?_ | refine State.setClk_fr ?_ | refine setDomain_fr ?_ | refine fellBack_fr ?_) | split)

end Sys2Proof.Machine
end

