-- ==== Sys2Proof/Laws/FrameHomes.lean ====
section
/-!
SUPPORT. Frames of the home operations of dictionary writes and of what rests on them: one lemma per operation (see Frame).
-/
namespace Sys2Proof.Machine

set_option Elab.async false
set_option linter.unusedTactic false
set_option linter.unreachableTactic false

theorem noteEscapes_fr {μ : ℕ} {α : State} {s : State} (hyp : Fr μ α s) (within : μ ||| 131072 = μ := by decide) :
    Fr μ α (noteEscapes s) := by
  refine Fr.via hyp ?_ within; unfold noteEscapes; try dsimp only
  repeat' (first | (with_reducible first | exact Fr.refl _ _ | assumption | refine Fr.ite ?_ ?_ | refine State.setFeeds_fr ?_) | split)

theorem redFill_fr {μ : ℕ} {α : State} {a : ℕ} {line : Option (ℕ × ℕ)} {s : State} (hyp : Fr μ α s) (within : μ ||| 70144472 = μ := by decide) :
    Fr μ α (redFill a line s) := by
  refine Fr.via hyp ?_ within; unfold redFill; try dsimp only
  repeat' (first | (with_reducible first | exact Fr.refl _ _ | assumption | refine Fr.ite ?_ ?_ | refine breakRed_fr ?_ | refine State.modRed_fr ?_) | split)

theorem endInternal_fr {μ : ℕ} {α : State} {q : Ask} {s : State} (hyp : Fr μ α s) (within : μ ||| 70144472 = μ := by decide) :
    Fr μ α (endInternal q s) := by
  refine Fr.via hyp ?_ within; unfold endInternal; try dsimp only
  repeat' (first | (with_reducible first | exact Fr.refl _ _ | assumption | refine Fr.ite ?_ ?_ | refine State.modAsk_fr ?_ | refine redFill_fr ?_ | refine signalObject_fr ?_ | refine settleDrain_fr ?_ | refine fenceContext_fr ?_ | refine retire_fr ?_) | split)

theorem endInternals_fr {μ : ℕ} {α : State} {s : State} (hyp : Fr μ α s) (within : μ ||| 70144472 = μ := by decide) :
    Fr μ α (endInternals s) := by
  refine Fr.via hyp ?_ within; unfold endInternals; try dsimp only
  repeat' (first | (with_reducible first | exact Fr.refl _ _ | assumption | refine Fr.ite ?_ ?_ | refine finish_fr ?_ | refine endInternal_fr ?_ | refine forEach_fr ?_ (fun _ _ => ?_)) | split)

theorem haltStep_fr {μ : ℕ} {α : State} {s : State} (hyp : Fr μ α s) (within : μ ||| 67387716 = μ := by decide) :
    Fr μ α (haltStep s) := by
  refine Fr.via hyp ?_ within; unfold haltStep; try dsimp only
  repeat' (first | (with_reducible first | exact Fr.refl _ _ | assumption | refine Fr.ite ?_ ?_ | refine haltChannels_fr ?_) | split)

theorem pushUrgent_fr {μ : ℕ} {α : State} {who : Writer} {a : ℕ} {loc : Loc} {data : ℕ} {info : ℕ} {s : State} (hyp : Fr μ α s) (within : μ ||| 262144 = μ := by decide) :
    Fr μ α (pushUrgent who a loc data info s) := by
  refine Fr.via hyp ?_ within; unfold pushUrgent; try dsimp only
  repeat' (first | (with_reducible first | exact Fr.refl _ _ | assumption | refine Fr.ite ?_ ?_ | refine State.modChan_fr ?_ | refine State.takeOrder_fr ?_) | split)

theorem freeRec_fr {μ : ℕ} {α : State} {c : ℕ} {num : ℕ} {s : State} (hyp : Fr μ α s) (within : μ ||| 262144 = μ := by decide) :
    Fr μ α (freeRec c num s) := by
  refine Fr.via hyp ?_ within; unfold freeRec; try dsimp only
  repeat' (first | (with_reducible first | exact Fr.refl _ _ | assumption | refine Fr.ite ?_ ?_ | refine State.modChan_fr ?_) | split)

theorem placeRecovery_fr {μ : ℕ} {α : State} {c : ℕ} {s : State} (hyp : Fr μ α s) (within : μ ||| 262208 = μ := by decide) :
    Fr μ α (placeRecovery c s) := by
  refine Fr.via hyp ?_ within; unfold placeRecovery; try dsimp only
  repeat' (first | (with_reducible first | exact Fr.refl _ _ | assumption | refine Fr.ite ?_ ?_ | refine pushUrgent_fr ?_ | refine freeRec_fr ?_ | refine healedNow_fr ?_ | refine forEach_fr ?_ (fun _ _ => ?_)) | split)

theorem modRec_fr {μ : ℕ} {α : State} {c : ℕ} {num : ℕ} {f : Rec → Rec} {s : State} (hyp : Fr μ α s) (within : μ ||| 262144 = μ := by decide) :
    Fr μ α (modRec c num f s) := by
  refine Fr.via hyp ?_ within; unfold modRec; try dsimp only
  repeat' (first | (with_reducible first | exact Fr.refl _ _ | assumption | refine Fr.ite ?_ ?_ | refine State.modChan_fr ?_) | split)

theorem retArrived_fr {μ : ℕ} {α : State} {n : ℕ} {num : ℕ} {l : Option (ℕ × ℕ)} {s : State} (hyp : Fr μ α s) (within : μ ||| 262144 = μ := by decide) :
    Fr μ α (retArrived n num l s) := by
  refine Fr.via hyp ?_ within; unfold retArrived; try dsimp only
  repeat' (first | (with_reducible first | exact Fr.refl _ _ | assumption | refine Fr.ite ?_ ?_ | refine State.setPath_fr ?_) | split)

theorem moveArrived_fr {μ : ℕ} {α : State} {c : ℕ} {i : ℕ} {l : ℕ × ℕ} {s : State} (hyp : Fr μ α s) (within : μ ||| 262144 = μ := by decide) :
    Fr μ α (moveArrived c i l s) := by
  refine Fr.via hyp ?_ within; unfold moveArrived; try dsimp only
  repeat' (first | (with_reducible first | exact Fr.refl _ _ | assumption | refine Fr.ite ?_ ?_ | refine State.modChan_fr ?_) | split)

theorem sampleData_fr {μ : ℕ} {α : State} {kind : ℕ} {id : ℕ} {num : ℕ} {s : State} (hyp : Fr μ α s) (within : μ ||| 67108864 = μ := by decide) :
    Fr μ α (sampleData kind id num s) := by
  refine Fr.via hyp ?_ within; unfold sampleData; try dsimp only
  repeat' (first | (with_reducible first | exact Fr.refl _ _ | assumption | refine Fr.ite ?_ ?_ | refine modBuilding_fr ?_) | split)

theorem mergeFill_fr {μ : ℕ} {α : State} {c : ℕ} {wid : ℕ} {l : ℕ × ℕ} {s : State} (hyp : Fr μ α s) (within : μ ||| 68964824 = μ := by decide) :
    Fr μ α (mergeFill c wid l s) := by
  refine Fr.via hyp ?_ within; unfold mergeFill; try dsimp only
  repeat' (first | (with_reducible first | exact Fr.refl _ _ | assumption | refine Fr.ite ?_ ?_ | refine wholePlaced_fr ?_ | refine allocWrite_fr ?_ | refine State.modChan_fr ?_ | refine State.modAsk_fr ?_ | refine finish_fr ?_ | refine retire_fr ?_ | refine State.bump_fr ?_ | refine raiseAt_fr ?_ | refine syncDepth_fr ?_) | split)

theorem deliverAsk_fr {μ : ℕ} {α : State} {id : ℕ} {l : ℕ × ℕ} {s : State} (hyp : Fr μ α s) (within : μ ||| 67916248 = μ := by decide) :
    Fr μ α (deliverAsk id l s) := by
  refine Fr.via hyp ?_ within; unfold deliverAsk; try dsimp only
  repeat' (first | (with_reducible first | exact Fr.refl _ _ | assumption | refine Fr.ite ?_ ?_ | refine finishRead_fr ?_ | refine addFill_fr ?_ | refine State.bump_fr ?_) | split)

theorem deliverLine_fr {μ : ℕ} {α : State} {c : ℕ} {a : ℕ} {who : Reader} {over_ : List WrEntry} {l : ℕ × ℕ} {s : State} (hyp : Fr μ α s) (within : μ ||| 71193048 = μ := by decide) :
    Fr μ α (deliverLine c a who over_ l s) := by
  refine Fr.via hyp ?_ within; unfold deliverLine; try dsimp only
  repeat' (first | (with_reducible first | exact Fr.refl _ _ | assumption | refine Fr.ite ?_ ?_ | refine retArrived_fr ?_ | refine moveArrived_fr ?_ | refine feedLine_fr ?_ | refine sampleData_fr ?_ | refine mergeFill_fr ?_ | refine deliverAsk_fr ?_ | refine State.bump_fr ?_ | refine foldl_fr ?_ (fun _ _ => ?_) | refine foldl_frS ?_ (fun _ _ => ?_) | refine foldl_frF ?_ (fun _ _ => ?_)) | split)

theorem joinRec_fr {μ : ℕ} {α : State} {c : ℕ} {who : Reader} {f : Flight} {s : State} (hyp : Fr μ α s) (within : μ ||| 71193048 = μ := by decide) :
    Fr μ α (joinRec c who f s) := by
  refine Fr.via hyp ?_ within; unfold joinRec; try dsimp only
  repeat' (first | (with_reducible first | exact Fr.refl _ _ | assumption | refine Fr.ite ?_ ?_ | refine State.modChan_fr ?_ | refine State.takeOrder_fr ?_ | refine modRec_fr ?_ | refine deliverLine_fr ?_) | split)

theorem takeWaiting_fr {μ : ℕ} {α : State} {c : ℕ} {s : State} (hyp : Fr μ α s) (within : μ ||| 71193048 = μ := by decide) :
    Fr μ α (takeWaiting c s) := by
  refine Fr.via hyp ?_ within; unfold takeWaiting; try dsimp only
  repeat' (first | (with_reducible first | exact Fr.refl _ _ | assumption | refine Fr.ite ?_ ?_ | refine State.modChan_fr ?_ | refine joinRec_fr ?_ | refine forEach_fr ?_ (fun _ _ => ?_)) | split)

theorem pump_fr {μ : ℕ} {α : State} {s : State} (hyp : Fr μ α s) (within : μ ||| 71193052 = μ := by decide) :
    Fr μ α (pump s) := by
  refine Fr.via hyp ?_ within; unfold pump; try dsimp only
  repeat' (first | (with_reducible first | exact Fr.refl _ _ | assumption | refine Fr.ite ?_ ?_ | refine noteEscapes_fr ?_ | refine serveAll_fr ?_ | refine endInternals_fr ?_ | refine haltStep_fr ?_ | refine placeRecovery_fr ?_ | refine takeWaiting_fr ?_ | refine forEach_fr ?_ (fun _ _ => ?_)) | split)

theorem markStale_fr {μ : ℕ} {α : State} {b : ℕ} {s : State} (hyp : Fr μ α s) (within : μ ||| 68440536 = μ := by decide) :
    Fr μ α (markStale b s) := by
  refine Fr.via hyp ?_ within; unfold markStale; try dsimp only
  repeat' (first | (with_reducible first | exact Fr.refl _ _ | assumption | refine Fr.ite ?_ ?_ | refine denyBale_fr ?_ | refine advanceLedger_fr ?_ | refine State.bump_fr ?_ | refine raiseNode_fr ?_ | refine State.modBale_fr ?_ | refine baleStale_fr ?_) | split)

theorem farDown_fr {μ : ℕ} {α : State} {s : State} (hyp : Fr μ α s) (within : μ ||| 71193052 = μ := by decide) :
    Fr μ α (farDown s) := by
  refine Fr.via hyp ?_ within; unfold farDown; try dsimp only
  repeat' (first | (with_reducible first | exact Fr.refl _ _ | assumption | refine Fr.ite ?_ ?_ | refine State.setFar_fr ?_ | refine pump_fr ?_ | refine emptyPort_fr ?_ | refine markStale_fr ?_ | refine dropReader_fr ?_ | refine State.setOb_fr ?_ | refine raiseNode_fr ?_ | refine forEach_fr ?_ (fun _ _ => ?_)) | split)

theorem setKeeper_fr {μ : ℕ} {α : State} {src : ℕ} {div : ℕ} {s : State} (hyp : Fr μ α s) (within : μ ||| 16777280 = μ := by decide) :
    Fr μ α (setKeeper src div s) := by
  refine Fr.via hyp ?_ within; unfold setKeeper; try dsimp only
  repeat' (first | (with_reducible first | exact Fr.refl _ _ | assumption | refine Fr.ite ?_ ?_ | refine State.setClk_fr ?_ | refine State.setOb_fr ?_) | split)

theorem keeperFallback_fr {μ : ℕ} {α : State} {s : State} (hyp : Fr μ α s) (within : μ ||| 16797912 = μ := by decide) :
    Fr μ α (keeperFallback s) := by
  refine Fr.via hyp ?_ within; unfold keeperFallback; try dsimp only
  repeat' (first | (with_reducible first | exact Fr.refl _ _ | assumption | refine Fr.ite ?_ ?_ | refine State.setClk_fr ?_ | refine setKeeper_fr ?_ | refine fellBack_fr ?_) | split)

theorem tripEffect_fr {μ : ℕ} {α : State} {m : ℕ} {s : State} (hyp : Fr μ α s) (within : μ ||| 96424924 = μ := by decide) :
    Fr μ α (tripEffect m s) := by
  refine Fr.via hyp ?_ within; unfold tripEffect; try dsimp only
  repeat' (first | (with_reducible first | exact Fr.refl _ _ | assumption | refine Fr.ite ?_ ?_ | refine linkReset_fr ?_ | refine channelFault_fr ?_ | refine singleFault_fr ?_ (fun _ => ?_) | refine sheafFallback_fr ?_ | refine State.setClk_fr ?_ | refine farDown_fr ?_ | refine keeperFallback_fr ?_ | refine State.setSource_fr ?_ | refine enterHalted_fr ?_ | refine forEach_fr ?_ (fun _ _ => ?_)) | split)

theorem clockTrip_fr {μ : ℕ} {α : State} {m : ℕ} {s : State} (hyp : Fr μ α s) (within : μ ||| 96424924 = μ := by decide) :
    Fr μ α (clockTrip m s) := by
  refine Fr.via hyp ?_ within; unfold clockTrip; try dsimp only
  repeat' (first | (with_reducible first | exact Fr.refl _ _ | assumption | refine Fr.ite ?_ ?_ | refine tripEffect_fr ?_ | refine State.setSource_fr ?_ | refine State.bump_fr ?_ | refine raise_fr ?_) | split)

theorem coalesceAged_fr {μ : ℕ} {α : State} {s : State} (hyp : Fr μ α s) (within : μ ||| 68440536 = μ := by decide) :
    Fr μ α (coalesceAged s) := by
  refine Fr.via hyp ?_ within; unfold coalesceAged; try dsimp only
  repeat' (first | (with_reducible first | exact Fr.refl _ _ | assumption | refine Fr.ite ?_ ?_ | refine writeBale_fr ?_ | refine forEach_fr ?_ (fun _ _ => ?_)) | split)

theorem deferTide_fr {μ : ℕ} {α : State} {s : State} (hyp : Fr μ α s) (within : μ ||| 86232 = μ := by decide) :
    Fr μ α (deferTide s) := by
  refine Fr.via hyp ?_ within; unfold deferTide; try dsimp only
  repeat' (first | (with_reducible first | exact Fr.refl _ _ | assumption | refine Fr.ite ?_ ?_ | refine State.setOb_fr ?_ | refine State.setPlans_fr ?_ | refine raiseNode_fr ?_ | refine unarm_fr ?_) | split)

theorem commitTide_fr {μ : ℕ} {α : State} {s : State} (hyp : Fr μ α s) (within : μ ||| 65536 = μ := by decide) :
    Fr μ α (commitTide s) := by
  refine Fr.via hyp ?_ within; unfold commitTide; try dsimp only
  repeat' (first | (with_reducible first | exact Fr.refl _ _ | assumption | refine Fr.ite ?_ ?_ | refine State.setPlans_fr ?_) | split)

theorem commitPoint_fr {μ : ℕ} {α : State} {s : State} (hyp : Fr μ α s) (within : μ ||| 86488 = μ := by decide) :
    Fr μ α (commitPoint s) := by
  refine Fr.via hyp ?_ within; unfold commitPoint; try dsimp only
  repeat' (first | (with_reducible first | exact Fr.refl _ _ | assumption | refine Fr.ite ?_ ?_ | refine flood_fr ?_ | refine raiseNode_fr ?_ | refine deferTide_fr ?_ | refine commitTide_fr ?_) | split)

theorem startGrace_fr {μ : ℕ} {α : State} {st : ℕ} {s : State} (hyp : Fr μ α s) (within : μ ||| 4194368 = μ := by decide) :
    Fr μ α (startGrace st s) := by
  refine Fr.via hyp ?_ within; unfold startGrace; try dsimp only
  repeat' (first | (with_reducible first | exact Fr.refl _ _ | assumption | refine Fr.ite ?_ ?_ | refine State.setHeat_fr ?_ | refine State.setOb_fr ?_) | split)

theorem takeLevel_fr {μ : ℕ} {α : State} {st : ℕ} {new : ℕ} {s : State} (hyp : Fr μ α s) (within : μ ||| 4215000 = μ := by decide) :
    Fr μ α (takeLevel st new s) := by
  refine Fr.via hyp ?_ within; unfold takeLevel; try dsimp only
  repeat' (first | (with_reducible first | exact Fr.refl _ _ | assumption | refine Fr.ite ?_ ?_ | refine endGrace_fr ?_ | refine startGrace_fr ?_ | refine startDerate_fr ?_ | refine raise_fr ?_ | refine State.setOb_fr ?_ | refine driveHeat_fr ?_) | split)

theorem emergency_fr {μ : ℕ} {α : State} {st : ℕ} {s : State} (hyp : Fr μ α s) (within : μ ||| 4542680 = μ := by decide) :
    Fr μ α (emergency st s) := by
  refine Fr.via hyp ?_ within; unfold emergency; try dsimp only
  repeat' (first | (with_reducible first | exact Fr.refl _ _ | assumption | refine Fr.ite ?_ ?_ | refine drainChannel_fr ?_ | refine breakContinuity_fr ?_ | refine State.setHeat_fr ?_ | refine takeLevel_fr ?_ | refine forEach_fr ?_ (fun _ _ => ?_)) | split)

theorem levelFive_fr {μ : ℕ} {α : State} {st : ℕ} {n : ℕ} {s : State} (hyp : Fr μ α s) (within : μ ||| 4215000 = μ := by decide) :
    Fr μ α (levelFive st n s) := by
  refine Fr.via hyp ?_ within; unfold levelFive; try dsimp only
  repeat' (first | (with_reducible first | exact Fr.refl _ _ | assumption | refine Fr.ite ?_ ?_ | refine State.setOb_fr ?_ | refine endGrace_fr ?_ | refine raise_fr ?_) | split)

theorem reachTrip_fr {μ : ℕ} {α : State} {s : State} (hyp : Fr μ α s) (within : μ ||| 4215000 = μ := by decide) :
    Fr μ α (reachTrip s) := by
  refine Fr.via hyp ?_ within; unfold reachTrip; try dsimp only
  repeat' (first | (with_reducible first | exact Fr.refl _ _ | assumption | refine Fr.ite ?_ ?_ | refine levelFive_fr ?_ | refine forEach_fr ?_ (fun _ _ => ?_)) | split)

theorem trip_fr {μ : ℕ} {α : State} {x : TripCause} {s : State} (hyp : Fr μ α s) (within : μ ||| 4215000 = μ := by decide) :
    Fr μ α (trip x s) := by
  refine Fr.via hyp ?_ within; unfold trip; try dsimp only
  repeat' (first | (with_reducible first | exact Fr.refl _ _ | assumption | refine Fr.ite ?_ ?_ | refine driveHeat_fr ?_ | refine State.setHeat_fr ?_ | refine raise_fr ?_ | refine levelFive_fr ?_ | refine reachTrip_fr ?_ | refine forEach_fr ?_ (fun _ _ => ?_)) | split | with_reducible refine Fr.set_pins ?_)

theorem comparators_fr {μ : ℕ} {α : State} {s : State} (hyp : Fr μ α s) (within : μ ||| 4542680 = μ := by decide) :
    Fr μ α (comparators s) := by
  refine Fr.via hyp ?_ within; unfold comparators; try dsimp only
  repeat' (first | (with_reducible first | exact Fr.refl _ _ | assumption | refine Fr.ite ?_ ?_ | refine emergency_fr ?_ | refine trip_fr ?_ | refine forEach_fr ?_ (fun _ _ => ?_)) | split)

theorem sendDone_fr {μ : ℕ} {α : State} {q : Ask} {s : State} (hyp : Fr μ α s) (within : μ ||| 256 = μ := by decide) :
    Fr μ α (sendDone q s) := by
  refine Fr.via hyp ?_ within; unfold sendDone; try dsimp only
  repeat' (first | (with_reducible first | exact Fr.refl _ _ | assumption | refine Fr.ite ?_ ?_ | refine sendParcel_fr ?_) | split)

theorem setOwnLink_fr {μ : ℕ} {α : State} {h : ℕ} {code : ℕ} {s : State} (hyp : Fr μ α s) (within : μ ||| 20952 = μ := by decide) :
    Fr μ α (setOwnLink h code s) := by
  refine Fr.via hyp ?_ within; unfold setOwnLink; try dsimp only
  repeat' (first | (with_reducible first | exact Fr.refl _ _ | assumption | refine Fr.ite ?_ ?_ | refine flood_fr ?_ | refine State.setSet_fr ?_ | refine refreshView_fr ?_) | split)

theorem malformedParcel_fr {μ : ℕ} {α : State} {h : ℕ} {sequenced : Bool} {s : State} (hyp : Fr μ α s) (within : μ ||| 20952 = μ := by decide) :
    Fr μ α (malformedParcel h sequenced s) := by
  refine Fr.via hyp ?_ within; unfold malformedParcel; try dsimp only
  repeat' (first | (with_reducible first | exact Fr.refl _ _ | assumption | refine Fr.ite ?_ ?_ | refine State.setPort_fr ?_ | refine linkReset_fr ?_ | refine setOwnLink_fr ?_ | refine State.bump_fr ?_ | refine raise_fr ?_) | split)

theorem handedBack_fr {μ : ℕ} {α : State} {h : ℕ} {hdr : Hdr} {s : State} (hyp : Fr μ α s) (within : μ ||| 20952 = μ := by decide) :
    Fr μ α (handedBack h hdr s) := by
  refine Fr.via hyp ?_ within; unfold handedBack; try dsimp only
  repeat' (first | (with_reducible first | exact Fr.refl _ _ | assumption | refine Fr.ite ?_ ?_ | refine answer_fr ?_ | refine malformedParcel_fr ?_ | refine State.setWrites_fr ?_) | split)

theorem completionTaken_fr {μ : ℕ} {α : State} {h : ℕ} {hdr : Hdr} {body : List Byte} {s : State} (hyp : Fr μ α s) (within : μ ||| 71193048 = μ := by decide) :
    Fr μ α (completionTaken h hdr body s) := by
  refine Fr.via hyp ?_ within; unfold completionTaken; try dsimp only
  repeat' (first | (with_reducible first | exact Fr.refl _ _ | assumption | refine Fr.ite ?_ ?_ | refine startChain_fr ?_ | refine serveAll_fr ?_ | refine finish_fr ?_ | refine sendDone_fr ?_ | refine answerInternal_fr ?_ | refine malformedParcel_fr ?_ | refine handedBack_fr ?_) | split)

theorem confirmWrite_fr {μ : ℕ} {α : State} {c : ℕ} {u : Unconf} {s : State} (hyp : Fr μ α s) (within : μ ||| 67371072 = μ := by decide) :
    Fr μ α (confirmWrite c u s) := by
  refine Fr.via hyp ?_ within; unfold confirmWrite; try dsimp only
  repeat' (first | (with_reducible first | exact Fr.refl _ _ | assumption | refine Fr.ite ?_ ?_ | refine State.modAsk_fr ?_ | refine retire_fr ?_ | refine sampleData_fr ?_ | refine sampleEnd_fr ?_ | refine State.modChan_fr ?_) | split)

theorem contribute_fr {μ : ℕ} {α : State} {a : ℕ} {s : State} (hyp : Fr μ α s) (within : μ ||| 67916248 = μ := by decide) :
    Fr μ α (contribute a s) := by
  refine Fr.via hyp ?_ within; unfold contribute; try dsimp only
  repeat' (first | (with_reducible first | exact Fr.refl _ _ | assumption | refine Fr.ite ?_ ?_ | refine beginClose_fr ?_ | refine State.modRed_fr ?_ | refine applyAll_fr ?_ | refine fr_snd (by assumption) (applyAll_fr ?_)) | split)

theorem cooledRestart_fr {μ : ℕ} {α : State} {s : State} (hyp : Fr μ α s) (within : μ ||| 4215000 = μ := by decide) :
    Fr μ α (cooledRestart s) := by
  refine Fr.via hyp ?_ within; unfold cooledRestart; try dsimp only
  repeat' (first | (with_reducible first | exact Fr.refl _ _ | assumption | refine Fr.ite ?_ ?_ | refine State.setHeat_fr ?_ | refine raiseNode_fr ?_) | split)

theorem copyChannel_fr {μ : ℕ} {α : State} {src : ℕ} {dst : ℕ} {s : State} (hyp : Fr μ α s) (within : μ ||| 512 = μ := by decide) :
    Fr μ α (copyChannel src dst s) := by
  refine Fr.via hyp ?_ within; unfold copyChannel; try dsimp only
  repeat' (first | (with_reducible first | exact Fr.refl _ _ | assumption | refine Fr.ite ?_ ?_ | refine forEach_fr ?_ (fun _ _ => ?_) | refine foldl_fr ?_ (fun _ _ => ?_) | refine foldl_frS ?_ (fun _ _ => ?_) | refine foldl_frF ?_ (fun _ _ => ?_)) | split | with_reducible refine Fr.set_dram ?_)

theorem copyBackDone_fr {μ : ℕ} {α : State} {s : State} (hyp : Fr μ α s) (within : μ ||| 283352 = μ := by decide) :
    Fr μ α (copyBackDone s) := by
  refine Fr.via hyp ?_ within; unfold copyBackDone; try dsimp only
  repeat' (first | (with_reducible first | exact Fr.refl _ _ | assumption | refine Fr.ite ?_ ?_ | refine State.setPath_fr ?_ | refine raise_fr ?_ | refine copyChannel_fr ?_) | split)

theorem copyFailed_fr {μ : ℕ} {α : State} {area : ℕ} {index : ℕ} {copyB : Bool} {s : State} (hyp : Fr μ α s) (within : μ ||| 33575388 = μ := by decide) :
    Fr μ α (copyFailed area index copyB s) := by
  refine Fr.via hyp ?_ within; unfold copyFailed; try dsimp only
  repeat' (first | (with_reducible first | exact Fr.refl _ _ | assumption | refine Fr.ite ?_ ?_ | refine raise_fr ?_ | refine recordRefused_fr ?_ | refine State.setRecordArea_fr ?_ | refine State.setUpd_fr ?_ | refine raiseNode_fr ?_ | refine enterRecovery_fr ?_ | refine State.bump_fr ?_ | refine State.setOb_fr ?_) | split | with_reducible refine Fr.set_nvm ?_)

theorem coreOff_fr {μ : ℕ} {α : State} {s : State} (hyp : Fr μ α s) (within : μ ||| 17301576 = μ := by decide) :
    Fr μ α (coreOff s) := by
  refine Fr.via hyp ?_ within; unfold coreOff; try dsimp only
  repeat' (first | (with_reducible first | exact Fr.refl _ _ | assumption | refine Fr.ite ?_ ?_ | refine stopProcs_fr ?_ | refine State.setCache_fr ?_ | refine setDomain_fr ?_ | refine State.setClk_fr ?_ | refine forEach_fr ?_ (fun _ _ => ?_)) | split)

theorem countEscape_fr {μ : ℕ} {α : State} {u : ℕ} {a : ℕ} {cs : Cause} {e : Escaped} {s : State} (hyp : Fr μ α s) (within : μ ||| 20696 = μ := by decide) :
    Fr μ α (countEscape u a cs e s) := by
  refine Fr.via hyp ?_ within; unfold countEscape; try dsimp only
  repeat' (first | (with_reducible first | exact Fr.refl _ _ | assumption | refine Fr.ite ?_ ?_ | refine raiseAt_fr ?_ | refine countIf_fr ?_ | refine State.bump_fr ?_ | refine State.bumpBy_fr ?_) | split)

theorem heardFrom_fr {μ : ℕ} {α : State} {req : Req} {s : State} (hyp : Fr μ α s) (within : μ ||| 1024 = μ := by decide) :
    Fr μ α (heardFrom req s) := by
  refine Fr.via hyp ?_ within; unfold heardFrom; try dsimp only
  repeat' (first | (with_reducible first | exact Fr.refl _ _ | assumption | refine Fr.ite ?_ ?_) | split | with_reducible refine Fr.set_sec ?_)

theorem countFrame_fr {μ : ℕ} {α : State} {req : Req} {s : State} (hyp : Fr μ α s) (within : μ ||| 1216 = μ := by decide) :
    Fr μ α (countFrame req s) := by
  refine Fr.via hyp ?_ within; unfold countFrame; try dsimp only
  repeat' (first | (with_reducible first | exact Fr.refl _ _ | assumption | refine Fr.ite ?_ ?_ | refine State.bump_fr ?_ | refine heardFrom_fr ?_) | split | with_reducible refine Fr.set_mgmt ?_)

theorem countParcel_fr {μ : ℕ} {α : State} {j : ℕ} {h : ℕ} {hdr : Hdr} {s : State} (hyp : Fr μ α s) (within : μ ||| 64 = μ := by decide) :
    Fr μ α (countParcel j h hdr s) := by
  refine Fr.via hyp ?_ within; unfold countParcel; try dsimp only
  repeat' (first | (with_reducible first | exact Fr.refl _ _ | assumption | refine Fr.ite ?_ ?_ | refine countIf_fr ?_) | split)

theorem countScales_fr {μ : ℕ} {α : State} {u : ℕ} {a : ℕ} {cs : Cause} {st : NarrowStats} {s : State} (hyp : Fr μ α s) (within : μ ||| 20696 = μ := by decide) :
    Fr μ α (countScales u a cs st s) := by
  refine Fr.via hyp ?_ within; unfold countScales; try dsimp only
  repeat' (first | (with_reducible first | exact Fr.refl _ _ | assumption | refine Fr.ite ?_ ?_ | refine raise_fr ?_ | refine State.bumpBy_fr ?_ | refine countIf_fr ?_) | split)

theorem overrun_fr {μ : ℕ} {α : State} {n : ℕ} {t : Stream} {s : State} (hyp : Fr μ α s) (within : μ ||| 70144472 = μ := by decide) :
    Fr μ α (overrun n t s) := by
  refine Fr.via hyp ?_ within; unfold overrun; try dsimp only
  repeat' (first | (with_reducible first | exact Fr.refl _ _ | assumption | refine Fr.ite ?_ ?_ | refine raiseCtx_fr ?_ | refine fenceContext_fr ?_) | split)

theorem discardBeat_fr {μ : ℕ} {α : State} {t : ℕ} {s : State} (hyp : Fr μ α s) (within : μ ||| 64 = μ := by decide) :
    Fr μ α (discardBeat t s) := by
  refine Fr.via hyp ?_ within; unfold discardBeat; try dsimp only
  repeat' (first | (with_reducible first | exact Fr.refl _ _ | assumption | refine Fr.ite ?_ ?_ | refine State.setOb_fr ?_) | split)

theorem creditBeat_fr {μ : ℕ} {α : State} {t : ℕ} {n : ℕ} {amount : ℕ} {s : State} (hyp : Fr μ α s) (within : μ ||| 70144472 = μ := by decide) :
    Fr μ α (creditBeat t n amount s) := by
  refine Fr.via hyp ?_ within; unfold creditBeat; try dsimp only
  repeat' (first | (with_reducible first | exact Fr.refl _ _ | assumption | refine Fr.ite ?_ ?_ | refine State.modStream_fr ?_ | refine overrun_fr ?_ | refine discardBeat_fr ?_) | split)

theorem crossingReopened_fr {μ : ℕ} {α : State} {x : Crossing} {s : State} (hyp : Fr μ α s) (within : μ ||| 16797912 = μ := by decide) :
    Fr μ α (crossingReopened x s) := by
  refine Fr.via hyp ?_ within; unfold crossingReopened; try dsimp only
  repeat' (first | (with_reducible first | exact Fr.refl _ _ | assumption | refine Fr.ite ?_ ?_ | refine State.setClk_fr ?_ | refine raise_fr ?_) | split)

theorem crossingReset_fr {μ : ℕ} {α : State} {x : Crossing} {s : State} (hyp : Fr μ α s) (within : μ ||| 84169176 = μ := by decide) :
    Fr μ α (crossingReset x s) := by
  refine Fr.via hyp ?_ within; unfold crossingReset; try dsimp only
  repeat' (first | (with_reducible first | exact Fr.refl _ _ | assumption | refine Fr.ite ?_ ?_ | refine refuseLater_fr ?_ | refine State.bump_fr ?_ | refine raise_fr ?_ | refine State.setClk_fr ?_ | refine forEach_fr ?_ (fun _ _ => ?_)) | split)

theorem debtRise_fr {μ : ℕ} {α : State} {c : ℕ} {j : ℕ} {s : State} (hyp : Fr μ α s) (within : μ ||| 262208 = μ := by decide) :
    Fr μ α (debtRise c j s) := by
  refine Fr.via hyp ?_ within; unfold debtRise; try dsimp only
  repeat' (first | (with_reducible first | exact Fr.refl _ _ | assumption | refine Fr.ite ?_ ?_ | refine addDebt_fr ?_ | refine State.modChan_fr ?_) | split)

theorem zeroSet_fr {μ : ℕ} {α : State} {cause : ZeroCause} {s : State} (hyp : Fr μ α s) (within : μ ||| 71194072 = μ := by decide) :
    Fr μ α (zeroSet cause s) := by
  refine Fr.via hyp ?_ within; unfold zeroSet; try dsimp only
  repeat' (first | (with_reducible first | exact Fr.refl _ _ | assumption | refine frW_done ?_ | refine Fr.ite ?_ ?_ | refine startZero_fr ?_ | refine sendObject_fr ?_ | refine leadOrder_fr ?_ (fun _ _ => ?_)) | split)

theorem debugUnlock_fr {μ : ℕ} {α : State} {i : ℕ} {s : State} (hyp : Fr μ α s) (within : μ ||| 71194072 = μ := by decide) :
    Fr μ α (debugUnlock i s) := by
  refine Fr.via hyp ?_ within; unfold debugUnlock; try dsimp only
  repeat' (first | (with_reducible first | exact Fr.refl _ _ | assumption | refine Fr.ite ?_ ?_ | refine zeroSet_fr ?_ | refine raiseNode_fr ?_) | split)

theorem decisionMissing_fr {μ : ℕ} {α : State} {s : State} (hyp : Fr μ α s) (within : μ ||| 86232 = μ := by decide) :
    Fr μ α (decisionMissing s) := by
  refine Fr.via hyp ?_ within; unfold decisionMissing; try dsimp only
  repeat' (first | (with_reducible first | exact Fr.refl _ _ | assumption | refine Fr.ite ?_ ?_ | refine State.setPlans_fr ?_ | refine unarm_fr ?_ | refine raiseNode_fr ?_) | split)

theorem decodeOne_fr {μ : ℕ} {α : State} {op : ℕ} {n : ℕ} {act : ℕ → Stream → State → State} {s : State} (hyp : Fr μ α s) (hf_act : ∀ y0 y1 y, Fr μ y (act y0 y1 y)) (within : μ ||| 131072 = μ := by decide) :
    Fr μ α (decodeOne op n act s) := by
  unfold decodeOne; try dsimp only
  repeat' (first | (with_reducible first | exact Fr.refl _ _ | assumption | refine Fr.ite ?_ ?_ | refine Fr.trans ?_ (hf_act _ _ _ ) | refine State.modStream_fr ?_ (within := sub_of within (by decide))) | split)

theorem decodeCmd_fr {μ : ℕ} {α : State} {op : ℕ} {n : ℕ} {act : ℕ → Stream → State → State} {s : State} (hyp : Fr μ α s) (hf_act : ∀ y0 y1 y, Fr μ y (act y0 y1 y)) (within : μ ||| 131072 = μ := by decide) :
    FrR μ α (decodeCmd op n act s) := by
  unfold decodeCmd; try dsimp only
  repeat' (first | (with_reducible first | exact Fr.refl _ _ | assumption | refine frR_next ?_ | exact frR_fault | refine present_fr ?_ | refine Fr.ite ?_ ?_ | refine Fr.trans ?_ (hf_act _ _ _ ) | refine decodeOne_fr ?_ (fun _ _ _ => ?_) (within := sub_of within (by decide))) | split)

theorem fillRows_fr {μ : ℕ} {α : State} {c : ℕ} {block : ℕ} {code : ℕ} {s : State} (hyp : Fr μ α s) (within : μ ||| 512 = μ := by decide) :
    Fr μ α (fillRows c block code s) := by
  refine Fr.via hyp ?_ within; unfold fillRows; try dsimp only
  repeat' (first | (with_reducible first | exact Fr.refl _ _ | assumption | refine Fr.ite ?_ ?_ | refine forEach_fr ?_ (fun _ _ => ?_)) | split | with_reducible refine Fr.set_dram ?_)

theorem poisonBlock_fr {μ : ℕ} {α : State} {c : ℕ} {block : ℕ} {s : State} (hyp : Fr μ α s) (within : μ ||| 512 = μ := by decide) :
    Fr μ α (poisonBlock c block s) := by
  refine Fr.via hyp ?_ within; unfold poisonBlock; try dsimp only
  repeat' (first | (with_reducible first | exact Fr.refl _ _ | assumption | refine Fr.ite ?_ ?_ | refine fillRows_fr ?_) | split)

theorem deepPoison_fr {μ : ℕ} {α : State} {c : ℕ} {s : State} (hyp : Fr μ α s) (within : μ ||| 283352 = μ := by decide) :
    Fr μ α (deepPoison c s) := by
  refine Fr.via hyp ?_ within; unfold deepPoison; try dsimp only
  repeat' (first | (with_reducible first | exact Fr.refl _ _ | assumption | refine Fr.ite ?_ ?_ | refine raise_fr ?_ | refine State.modChan_fr ?_ | refine poisonBlock_fr ?_ | refine forEach_fr ?_ (fun _ _ => ?_)) | split)

theorem deepVerified_fr {μ : ℕ} {α : State} {s : State} (hyp : Fr μ α s) (within : μ ||| 8388684 = μ := by decide) :
    Fr μ α (deepVerified s) := by
  refine Fr.via hyp ?_ within; unfold deepVerified; try dsimp only
  repeat' (first | (with_reducible first | exact Fr.refl _ _ | assumption | refine Fr.ite ?_ ?_ | refine beginTraining_fr ?_ | refine State.setPower_fr ?_ | refine startProcs_fr ?_ | refine forEach_fr ?_ (fun _ _ => ?_)) | split)

theorem lateStatus_fr {μ : ℕ} {α : State} {q : Ask} {st : ℕ} {s : State} (hyp : Fr μ α s) (within : μ ||| 20696 = μ := by decide) :
    Fr μ α (lateStatus q st s).2 := by
  refine Fr.via hyp ?_ within; unfold lateStatus; try dsimp only
  repeat' (first | (with_reducible first | exact Fr.refl _ _ | assumption | refine Fr.ite ?_ ?_ | refine State.bump_fr ?_ | refine countIf_fr ?_ | refine raiseNode_fr ?_) | split)

theorem deliver_fr {μ : ℕ} {α : State} {port : Port} {s : State} (hyp : Fr μ α s) (within : μ ||| 67391960 = μ := by decide) :
    Fr μ α (deliver port s) := by
  refine Fr.via hyp ?_ within; unfold deliver; try dsimp only
  repeat' (first | (with_reducible first | exact Fr.refl _ _ | assumption | refine Fr.ite ?_ ?_ | refine dropAsk_fr ?_ | refine retire_fr ?_ | refine sendDone_fr ?_ | refine State.modAsk_fr ?_ | refine sampleEnd_fr ?_ | refine State.send_fr ?_ | refine lateStatus_fr ?_ | refine fr_snd (by assumption) (lateStatus_fr ?_)) | split)

theorem deliverRec_fr {μ : ℕ} {α : State} {r : Rec} {l : ℕ × ℕ} {s : State} (hyp : Fr μ α s) (within : μ ||| 71193048 = μ := by decide) :
    Fr μ α (deliverRec r l s) := by
  refine Fr.via hyp ?_ within; unfold deliverRec; try dsimp only
  repeat' (first | (with_reducible first | exact Fr.refl _ _ | assumption | refine Fr.ite ?_ ?_ | refine deliverLine_fr ?_ | refine forEach_fr ?_ (fun _ _ => ?_)) | split)

theorem takeNow_fr {μ : ℕ} {α : State} {req : Req} {act : State → State} {s : State} (hyp : Fr μ α s) (hf_act : ∀  y, Fr μ y (act  y)) (within : μ ||| 17600 = μ := by decide) :
    Fr μ α (takeNow req act s) := by
  unfold takeNow; try dsimp only
  repeat' (first | (with_reducible first | exact Fr.refl _ _ | assumption | refine Fr.ite ?_ ?_ | refine Fr.trans ?_ (hf_act _ ) | refine countFrame_fr ?_ (within := sub_of within (by decide)) | refine beginRequest_fr ?_ (fun _ => ?_) (within := sub_of within (by decide))) | split)

theorem noteSecond_fr {μ : ℕ} {α : State} {req : Req} {s : State} (hyp : Fr μ α s) (within : μ ||| 192 = μ := by decide) :
    Fr μ α (noteSecond req s) := by
  refine Fr.via hyp ?_ within; unfold noteSecond; try dsimp only
  repeat' (first | (with_reducible first | exact Fr.refl _ _ | assumption | refine Fr.ite ?_ ?_ | refine State.bump_fr ?_) | split | with_reducible refine Fr.set_mgmt ?_)

theorem takeRequest_fr {μ : ℕ} {α : State} {req : Req} {i : RequestOp} {act : State → State} {s : State} (hyp : Fr μ α s) (hf_act : ∀  y, Fr μ y (act  y)) (within : μ ||| 17600 = μ := by decide) :
    Fr μ α (takeRequest req i act s) := by
  unfold takeRequest; try dsimp only
  repeat' (first | (with_reducible first | exact Fr.refl _ _ | assumption | refine Fr.ite ?_ ?_ | refine Fr.trans ?_ (hf_act _ ) | refine takeNow_fr ?_ (fun _ => ?_) (within := sub_of within (by decide)) | refine State.bump_fr ?_ (within := sub_of within (by decide)) | refine countFrame_fr ?_ (within := sub_of within (by decide)) | refine noteSecond_fr ?_ (within := sub_of within (by decide))) | split | with_reducible refine Fr.set_mgmt ?_ (h7 := bit_of within (by decide)))

theorem dictWrite_fr {μ : ℕ} {α : State} {req : Req} {idx : ℕ} {sub : ℕ} {value : List Byte} {home : Home} {s : State} (hyp : Fr μ α s) (hf_home : ∀ y0 y, FrW μ y (home y0 y)) (within : μ ||| 21976 = μ := by decide) :
    Fr μ α (dictWrite req idx sub value home s) := by
  unfold dictWrite; try dsimp only
  repeat' (first | (with_reducible first | exact Fr.refl _ _ | assumption | refine Fr.ite ?_ ?_ | refine FrW.trans ?_ (hf_home _ _) | refine Fr.trans ?_ (FrW.of_done (hf_home _ _) (by assumption)) | refine Fr.trans ?_ (FrW.of_refused (hf_home _ _) (by assumption)) | refine Fr.trans ?_ (FrW.of_wait (hf_home _ _) (by assumption)) | refine carryOut_fr ?_ (fun _ _ => ?_) (within := sub_of within (by decide)) | refine takeRequest_fr ?_ (fun _ => ?_) (within := sub_of within (by decide))) | split)

theorem displacingDone_fr {μ : ℕ} {α : State} {s : State} (hyp : Fr μ α s) (within : μ ||| 262208 = μ := by decide) :
    Fr μ α (displacingDone s) := by
  refine Fr.via hyp ?_ within; unfold displacingDone; try dsimp only
  repeat' (first | (with_reducible first | exact Fr.refl _ _ | assumption | refine Fr.ite ?_ ?_ | refine State.setChanState_fr ?_ | refine State.setOb_fr ?_ | refine State.setPath_fr ?_) | split)

theorem dividerStep_fr {μ : ℕ} {α : State} {d : ℕ} {s : State} (hyp : Fr μ α s) (within : μ ||| 16777280 = μ := by decide) :
    Fr μ α (dividerStep d s) := by
  refine Fr.via hyp ?_ within; unfold dividerStep; try dsimp only
  repeat' (first | (with_reducible first | exact Fr.refl _ _ | assumption | refine Fr.ite ?_ ?_ | refine setDomain_fr ?_ | refine State.setClk_fr ?_) | split)

theorem orderReported_fr {μ : ℕ} {α : State} {hdr : Hdr} {s : State} (hyp : Fr μ α s) (within : μ ||| 16832 = μ := by decide) :
    Fr μ α (orderReported hdr s) := by
  refine Fr.via hyp ?_ within; unfold orderReported; try dsimp only
  repeat' (first | (with_reducible first | exact Fr.refl _ _ | assumption | refine Fr.ite ?_ ?_ | refine settleLead_fr ?_ | refine answerHanded_fr ?_ | refine ackOrder_fr ?_) | split | with_reducible refine Fr.set_mgmt ?_)

theorem doneTaken_fr {μ : ℕ} {α : State} {hdr : Hdr} {s : State} (hyp : Fr μ α s) (within : μ ||| 71193048 = μ := by decide) :
    Fr μ α (doneTaken hdr s) := by
  refine Fr.via hyp ?_ within; unfold doneTaken; try dsimp only
  repeat' (first | (with_reducible first | exact Fr.refl _ _ | assumption | refine Fr.ite ?_ ?_ | refine retire_fr ?_ | refine serveAll_fr ?_ | refine State.modAsk_fr ?_ | refine sampleEnd_fr ?_ | refine orderReported_fr ?_) | split)

theorem segAbort_fr {μ : ℕ} {α : State} {r : Req} {idx : ℕ} {sub : ℕ} {s : State} (hyp : Fr μ α s) (within : μ ||| 16576 = μ := by decide) :
    Fr μ α (segAbort r idx sub s) := by
  refine Fr.via hyp ?_ within; unfold segAbort; try dsimp only
  repeat' (first | (with_reducible first | exact Fr.refl _ _ | assumption | refine Fr.ite ?_ ?_ | refine State.setSegments_fr ?_ | refine answer_fr ?_) | split)

theorem segEnd_fr {μ : ℕ} {α : State} {r : Req} {idx : ℕ} {sub : ℕ} {crc : ℕ} {s : State} (hyp : Fr μ α s) (within : μ ||| 134184956 = μ := by decide) :
    Fr μ α (segEnd r idx sub crc s) := by
  refine Fr.via hyp ?_ within; unfold segEnd; try dsimp only
  repeat' (first | (with_reducible first | exact Fr.refl _ _ | assumption | refine Fr.ite ?_ ?_ | refine homeOf_fr ?_ | refine FrW.of_done (homeOf_fr ?_) (by assumption) | refine FrW.of_refused (homeOf_fr ?_) (by assumption) | refine FrW.of_wait (homeOf_fr ?_) (by assumption) | refine carryOut_fr ?_ (fun _ _ => ?_) | refine raiseNode_fr ?_ | refine answer_fr ?_ | refine State.setSegments_fr ?_) | split)

theorem segData_fr {μ : ℕ} {α : State} {r : Req} {idx : ℕ} {sub : ℕ} {offset : ℕ} {data : List Byte} {s : State} (hyp : Fr μ α s) (within : μ ||| 16576 = μ := by decide) :
    Fr μ α (segData r idx sub offset data s) := by
  refine Fr.via hyp ?_ within; unfold segData; try dsimp only
  repeat' (first | (with_reducible first | exact Fr.refl _ _ | assumption | refine Fr.ite ?_ ?_ | refine State.setSegments_fr ?_ | refine answer_fr ?_) | split)

theorem segStart_fr {μ : ℕ} {α : State} {r : Req} {idx : ℕ} {sub : ℕ} {total : ℕ} {base : ℕ} {s : State} (hyp : Fr μ α s) (within : μ ||| 20696 = μ := by decide) :
    Fr μ α (segStart r idx sub total base s) := by
  refine Fr.via hyp ?_ within; unfold segStart; try dsimp only
  repeat' (first | (with_reducible first | exact Fr.refl _ _ | assumption | refine Fr.ite ?_ ?_ | refine State.setSegments_fr ?_ | refine answer_fr ?_ | refine writeChecks_fr ?_ (sub_of within (by decide)) _ _ _ (by assumption) | refine writeChecks_fr ?_ (by decide) _ _ _ (by assumption)) | split)

theorem segRead_fr {μ : ℕ} {α : State} {r : Req} {idx : ℕ} {sub : ℕ} {offset : ℕ} {count : ℕ} {limit : ℕ} {s : State} (hyp : Fr μ α s) (within : μ ||| 16576 = μ := by decide) :
    Fr μ α (segRead r idx sub offset count limit s) := by
  refine Fr.via hyp ?_ within; unfold segRead; try dsimp only
  repeat' (first | (with_reducible first | exact Fr.refl _ _ | assumption | refine Fr.ite ?_ ?_ | refine respond_fr ?_ | refine answer_fr ?_) | split)

theorem writeHome_fr {μ : ℕ} {α : State} {r : Req} {idx : ℕ} {sub : ℕ} {value : List Byte} {s : State} {who : Completer} {s0 : State} (hyp : Fr μ α s0) (within : μ ||| 134184956 = μ := by decide) :
    FrW μ α (writeHome r idx sub value s who s0) := by
  refine FrW.via hyp ?_ within; unfold writeHome; try dsimp only [applyHome]
  repeat' (first | (with_reducible first | exact Fr.refl _ _ | assumption | refine frW_done ?_ | refine frW_refused ?_ | refine frW_wait ?_ | refine frW_denied ?_ | refine Fr.ite ?_ ?_ | refine homeOf_fr ?_ | refine FrW.of_done (homeOf_fr ?_) (by assumption) | refine FrW.of_refused (homeOf_fr ?_) (by assumption) | refine FrW.of_wait (homeOf_fr ?_) (by assumption)) | split)

theorem readRequest_fr {μ : ℕ} {α : State} {r : Req} {idx : ℕ} {sub : ℕ} {limit : ℕ} {s : State} (hyp : Fr μ α s) (within : μ ||| 16576 = μ := by decide) :
    Fr μ α (readRequest r idx sub limit s) := by
  refine Fr.via hyp ?_ within; unfold readRequest; try dsimp only
  repeat' (first | (with_reducible first | exact Fr.refl _ _ | assumption | refine Fr.ite ?_ ?_ | refine respond_fr ?_ | refine answer_fr ?_) | split)

theorem windowRequest_fr {μ : ℕ} {α : State} {m : List Byte} {s : State} (hyp : Fr μ α s) (within : μ ||| 134184956 = μ := by decide) :
    Fr μ α (windowRequest m s) := by
  refine Fr.via hyp ?_ within; unfold windowRequest; try dsimp only
  repeat' (first | (with_reducible first | exact Fr.refl _ _ | assumption | refine Fr.ite ?_ ?_ | refine segAbort_fr ?_ | refine takeNow_fr ?_ (fun _ => ?_) | refine segEnd_fr ?_ | refine segData_fr ?_ | refine segStart_fr ?_ | refine segRead_fr ?_ | refine writeHome_fr ?_ | refine FrW.of_done (writeHome_fr ?_) (by assumption) | refine FrW.of_refused (writeHome_fr ?_) (by assumption) | refine FrW.of_wait (writeHome_fr ?_) (by assumption) | refine carryOut_fr ?_ (fun _ _ => ?_) | refine readRequest_fr ?_ | refine answer_fr ?_) | split)

theorem doorbell_fr {μ : ℕ} {α : State} {m : List Byte} {s : State} (hyp : Fr μ α s) (within : μ ||| 134184956 = μ := by decide) :
    Fr μ α (doorbell m s) := by
  refine Fr.via hyp ?_ within; unfold doorbell; try dsimp only
  repeat' (first | (with_reducible first | exact Fr.refl _ _ | assumption | refine Fr.ite ?_ ?_ | refine windowRequest_fr ?_ | refine State.bump_fr ?_ | refine raiseNode_fr ?_ | refine noteSecond_fr ?_) | split | with_reducible refine Fr.set_mgmt ?_)

theorem drainBeat_fr {μ : ℕ} {α : State} {t : ℕ} {n : ℕ} {halves : List ℕ} {s : State} (hyp : Fr μ α s) (within : μ ||| 70144472 = μ := by decide) :
    Fr μ α (drainBeat t n halves s) := by
  refine Fr.via hyp ?_ within; unfold drainBeat; try dsimp only
  repeat' (first | (with_reducible first | exact Fr.refl _ _ | assumption | refine Fr.ite ?_ ?_ | refine State.modStream_fr ?_ | refine overrun_fr ?_ | refine discardBeat_fr ?_) | split)

theorem spdmUnsupportedRequestAct_fr {μ : ℕ} {α : State} {r : Req} {a : State} (hyp : Fr μ α a) (within : μ ||| 20696 = μ := by decide) :
    Fr μ α (spdmUnsupportedRequestAct r a) := by
  refine Fr.via hyp ?_ within; unfold spdmUnsupportedRequestAct; try dsimp only
  repeat' (first | (with_reducible first | exact Fr.refl _ _ | assumption | refine Fr.ite ?_ ?_ | refine State.bump_fr ?_ | refine raiseNode_fr ?_ | refine spdmError_fr ?_) | split)

theorem spdmBegin_fr {μ : ℕ} {α : State} {r : Req} {f : State → State} {s : State} (hyp : Fr μ α s) (hf_f : ∀  y, Fr μ y (f  y)) (within : μ ||| 16576 = μ := by decide) :
    Fr μ α (spdmBegin r f s) := by
  unfold spdmBegin; try dsimp only
  repeat' (first | (with_reducible first | exact Fr.refl _ _ | assumption | refine Fr.ite ?_ ?_ | refine Fr.trans ?_ (hf_f _ ) | refine spdmError_fr ?_ (within := sub_of within (by decide))) | split)

theorem respondIfReadyAct_fr {μ : ℕ} {α : State} {r : Req} {a : State} (hyp : Fr μ α a) (within : μ ||| 17600 = μ := by decide) :
    Fr μ α (respondIfReadyAct r a) := by
  refine Fr.via hyp ?_ within; unfold respondIfReadyAct; try dsimp only
  repeat' (first | (with_reducible first | exact Fr.refl _ _ | assumption | refine Fr.ite ?_ ?_ | refine spdmError_fr ?_ | refine State.setSpdm_fr ?_ | refine spdmReply_fr ?_) | split)

theorem updSession_fr {μ : ℕ} {α : State} {id : ℕ} {f : Session → Session} {s : State} (hyp : Fr μ α s) (within : μ ||| 1024 = μ := by decide) :
    Fr μ α (updSession id f s) := by
  refine Fr.via hyp ?_ within; unfold updSession; try dsimp only
  repeat' (first | (with_reducible first | exact Fr.refl _ _ | assumption | refine Fr.ite ?_ ?_ | refine State.setSec_fr ?_) | split)

theorem withSession_fr {μ : ℕ} {α : State} {r : Req} {id : ℕ} {f : Session → State → State} {s : State} (hyp : Fr μ α s) (hf_f : ∀ y0 y, Fr μ y (f y0 y)) (within : μ ||| 17600 = μ := by decide) :
    Fr μ α (withSession r id f s) := by
  unfold withSession; try dsimp only
  repeat' (first | (with_reducible first | exact Fr.refl _ _ | assumption | refine Fr.ite ?_ ?_ | refine Fr.trans ?_ (hf_f _ _ ) | refine spdmError_fr ?_ (within := sub_of within (by decide)) | refine updSession_fr ?_ (within := sub_of within (by decide))) | split)

theorem endSessionAct_fr {μ : ℕ} {α : State} {r : Req} {id : ℕ} {a : State} (hyp : Fr μ α a) (within : μ ||| 21720 = μ := by decide) :
    Fr μ α (endSessionAct r id a) := by
  refine Fr.via hyp ?_ within; unfold endSessionAct; try dsimp only
  repeat' (first | (with_reducible first | exact Fr.refl _ _ | assumption | refine Fr.ite ?_ ?_ | refine spdmReply_fr ?_ | refine endSession_fr ?_ | refine withSession_fr ?_ (fun _ _ => ?_)) | split)

theorem keyUpdateAct_fr {μ : ℕ} {α : State} {r : Req} {id : ℕ} {a : State} (hyp : Fr μ α a) (within : μ ||| 17600 = μ := by decide) :
    Fr μ α (keyUpdateAct r id a) := by
  refine Fr.via hyp ?_ within; unfold keyUpdateAct; try dsimp only
  repeat' (first | (with_reducible first | exact Fr.refl _ _ | assumption | refine Fr.ite ?_ ?_ | refine updSession_fr ?_ | refine spdmReply_fr ?_ | refine withSession_fr ?_ (fun _ _ => ?_)) | split)

theorem heartbeatAct_fr {μ : ℕ} {α : State} {r : Req} {id : ℕ} {a : State} (hyp : Fr μ α a) (within : μ ||| 17600 = μ := by decide) :
    Fr μ α (heartbeatAct r id a) := by
  refine Fr.via hyp ?_ within; unfold heartbeatAct; try dsimp only
  repeat' (first | (with_reducible first | exact Fr.refl _ _ | assumption | refine Fr.ite ?_ ?_ | refine spdmReply_fr ?_ | refine withSession_fr ?_ (fun _ _ => ?_)) | split)

theorem finishAct_fr {μ : ℕ} {α : State} {r : Req} {id : ℕ} {ml : Bool} {signature : List Byte} {a : State} (hyp : Fr μ α a) (within : μ ||| 21720 = μ := by decide) :
    Fr μ α (finishAct r id ml signature a) := by
  refine Fr.via hyp ?_ within; unfold finishAct; try dsimp only
  repeat' (first | (with_reducible first | exact Fr.refl _ _ | assumption | refine Fr.ite ?_ ?_ | refine endSession_fr ?_ | refine State.bump_fr ?_ | refine raiseNode_fr ?_ | refine spdmError_fr ?_ | refine updSession_fr ?_ | refine spdmReply_fr ?_ | refine withSession_fr ?_ (fun _ _ => ?_)) | split)

theorem keyExchangeAct_fr {μ : ℕ} {α : State} {r : Req} {slot : ℕ} {mutAuth : Bool} {a : State} (hyp : Fr μ α a) (within : μ ||| 21720 = μ := by decide) :
    Fr μ α (keyExchangeAct r slot mutAuth a) := by
  refine Fr.via hyp ?_ within; unfold keyExchangeAct; try dsimp only
  repeat' (first | (with_reducible first | exact Fr.refl _ _ | assumption | refine Fr.ite ?_ ?_ | refine raiseNode_fr ?_ | refine spdmReply_fr ?_ | refine State.setSec_fr ?_ | refine spdmError_fr ?_ | refine negotiated_fr ?_ (fun _ => ?_)) | split)

theorem getMeasurementsAct_fr {μ : ℕ} {α : State} {r : Req} {index : ℕ} {nonce : ℕ} {sign : Bool} {a : State} (hyp : Fr μ α a) (within : μ ||| 16576 = μ := by decide) :
    Fr μ α (getMeasurementsAct r index nonce sign a) := by
  refine Fr.via hyp ?_ within; unfold getMeasurementsAct; try dsimp only
  repeat' (first | (with_reducible first | exact Fr.refl _ _ | assumption | refine Fr.ite ?_ ?_ | refine spdmReply_fr ?_ | refine spdmError_fr ?_ | refine negotiated_fr ?_ (fun _ => ?_)) | split)

theorem getCertificateAct_fr {μ : ℕ} {α : State} {r : Req} {slot : ℕ} {offset : ℕ} {length : ℕ} {a : State} (hyp : Fr μ α a) (within : μ ||| 16576 = μ := by decide) :
    Fr μ α (getCertificateAct r slot offset length a) := by
  refine Fr.via hyp ?_ within; unfold getCertificateAct; try dsimp only
  repeat' (first | (with_reducible first | exact Fr.refl _ _ | assumption | refine Fr.ite ?_ ?_ | refine spdmReply_fr ?_ | refine spdmError_fr ?_ | refine negotiated_fr ?_ (fun _ => ?_)) | split)

theorem getDigestsAct_fr {μ : ℕ} {α : State} {r : Req} {a : State} (hyp : Fr μ α a) (within : μ ||| 16576 = μ := by decide) :
    Fr μ α (getDigestsAct r a) := by
  refine Fr.via hyp ?_ within; unfold getDigestsAct; try dsimp only
  repeat' (first | (with_reducible first | exact Fr.refl _ _ | assumption | refine Fr.ite ?_ ?_ | refine spdmReply_fr ?_ | refine negotiated_fr ?_ (fun _ => ?_)) | split)

theorem negotiateAlgorithmsAct_fr {μ : ℕ} {α : State} {r : Req} {ecdsa : Bool} {mlDsa : Bool} {sha384 : Bool} {secp384 : Bool} {gcm : Bool} {a : State} (hyp : Fr μ α a) (within : μ ||| 17600 = μ := by decide) :
    Fr μ α (negotiateAlgorithmsAct r ecdsa mlDsa sha384 secp384 gcm a) := by
  refine Fr.via hyp ?_ within; unfold negotiateAlgorithmsAct; try dsimp only
  repeat' (first | (with_reducible first | exact Fr.refl _ _ | assumption | refine Fr.ite ?_ ?_ | refine State.setSpdm_fr ?_ | refine spdmReply_fr ?_ | refine spdmError_fr ?_) | split)

theorem getCapabilitiesAct_fr {μ : ℕ} {α : State} {r : Req} {a : State} (hyp : Fr μ α a) (within : μ ||| 17600 = μ := by decide) :
    Fr μ α (getCapabilitiesAct r a) := by
  refine Fr.via hyp ?_ within; unfold getCapabilitiesAct; try dsimp only
  repeat' (first | (with_reducible first | exact Fr.refl _ _ | assumption | refine Fr.ite ?_ ?_ | refine State.setSpdm_fr ?_ | refine spdmReply_fr ?_ | refine spdmError_fr ?_) | split)

theorem getVersionAct_fr {μ : ℕ} {α : State} {r : Req} {a : State} (hyp : Fr μ α a) (within : μ ||| 17600 = μ := by decide) :
    Fr μ α (getVersionAct r a) := by
  refine Fr.via hyp ?_ within; unfold getVersionAct; try dsimp only
  repeat' (first | (with_reducible first | exact Fr.refl _ _ | assumption | refine Fr.ite ?_ ?_ | refine State.setSpdm_fr ?_ | refine spdmReply_fr ?_) | split)

theorem spdmHeld_fr {μ : ℕ} {α : State} {r : Req} {i : RequestOp} {s : State} (hyp : Fr μ α s) (within : μ ||| 21720 = μ := by decide) :
    Fr μ α (spdmHeld r i s) := by
  refine Fr.via hyp ?_ within; unfold spdmHeld; try dsimp only
  repeat' (first | (with_reducible first | exact Fr.refl _ _ | assumption | refine Fr.ite ?_ ?_ | refine spdmUnsupportedRequestAct_fr ?_ | refine spdmBegin_fr ?_ (fun _ => ?_) | refine chunkGetAct_fr ?_ | refine chunkSendAct_fr ?_ | refine respondIfReadyAct_fr ?_ | refine endSessionAct_fr ?_ | refine keyUpdateAct_fr ?_ | refine heartbeatAct_fr ?_ | refine finishAct_fr ?_ | refine keyExchangeAct_fr ?_ | refine getMeasurementsAct_fr ?_ | refine challengeAct_fr ?_ | refine getCertificateAct_fr ?_ | refine getDigestsAct_fr ?_ | refine negotiateAlgorithmsAct_fr ?_ | refine getCapabilitiesAct_fr ?_ | refine getVersionAct_fr ?_) | split)

theorem heldAct_fr {μ : ℕ} {α : State} {r : Req} {i : RequestOp} {s : State} (hyp : Fr μ α s) (within : μ ||| 134184956 = μ := by decide) :
    Fr μ α (heldAct r i s) := by
  refine Fr.via hyp ?_ within; unfold heldAct; try dsimp only
  repeat' (first | (with_reducible first | exact Fr.refl _ _ | assumption | refine Fr.ite ?_ ?_ | refine spdmHeld_fr ?_ | refine segAbort_fr ?_ | refine segEnd_fr ?_ | refine segData_fr ?_ | refine segStart_fr ?_ | refine writeHome_fr ?_ | refine FrW.of_done (writeHome_fr ?_) (by assumption) | refine FrW.of_refused (writeHome_fr ?_) (by assumption) | refine FrW.of_wait (writeHome_fr ?_) (by assumption) | refine carryOut_fr ?_ (fun _ _ => ?_)) | split)

theorem drainWaiting_fr {μ : ℕ} {α : State} {s : State} (hyp : Fr μ α s) (within : μ ||| 134184956 = μ := by decide) :
    Fr μ α (drainWaiting s) := by
  refine Fr.via hyp ?_ within; unfold drainWaiting; try dsimp only
  repeat' (first | (with_reducible first | exact Fr.refl _ _ | assumption | refine Fr.ite ?_ ?_ | refine heldAct_fr ?_ | refine beginRequest_fr ?_ (fun _ => ?_)) | split | with_reducible refine Fr.set_mgmt ?_)

theorem driveVreq_fr {μ : ℕ} {α : State} {s : State} (hyp : Fr μ α s) (within : μ ||| 80 = μ := by decide) :
    Fr μ α (driveVreq s) := by
  refine Fr.via hyp ?_ within; unfold driveVreq; try dsimp only
  repeat' (first | (with_reducible first | exact Fr.refl _ _ | assumption | refine Fr.ite ?_ ?_ | refine State.setOb_fr ?_) | split | with_reducible refine Fr.set_pins ?_)

theorem dropFlight_fr {μ : ℕ} {α : State} {c : ℕ} {f : Flight} {s : State} (hyp : Fr μ α s) (within : μ ||| 262144 = μ := by decide) :
    Fr μ α (dropFlight c f s) := by
  refine Fr.via hyp ?_ within; unfold dropFlight; try dsimp only
  repeat' (first | (with_reducible first | exact Fr.refl _ _ | assumption | refine Fr.ite ?_ ?_ | refine State.modChan_fr ?_) | split)

theorem takeInternal_fr {μ : ℕ} {α : State} {q : Ask} {s : State} (hyp : Fr μ α s) (within : μ ||| 262144 = μ := by decide) :
    Fr μ α (takeInternal q s) := by
  refine Fr.via hyp ?_ within; unfold takeInternal; try dsimp only
  repeat' (first | (with_reducible first | exact Fr.refl _ _ | assumption | refine Fr.ite ?_ ?_ | refine State.modAsk_fr ?_ | refine retire_fr ?_) | split)

theorem dropReads_fr {μ : ℕ} {α : State} {l : List Ask} {s : State} (hyp : Fr μ α s) (within : μ ||| 262144 = μ := by decide) :
    Fr μ α (dropReads l s) := by
  refine Fr.via hyp ?_ within; unfold dropReads; try dsimp only
  repeat' (first | (with_reducible first | exact Fr.refl _ _ | assumption | refine Fr.ite ?_ ?_ | refine takeInternal_fr ?_ | refine forEach_fr ?_ (fun _ _ => ?_)) | split)

theorem enablePlls_fr {μ : ℕ} {α : State} {s : State} (hyp : Fr μ α s) (within : μ ||| 16777216 = μ := by decide) :
    Fr μ α (enablePlls s) := by
  refine Fr.via hyp ?_ within; unfold enablePlls; try dsimp only
  repeat' (first | (with_reducible first | exact Fr.refl _ _ | assumption | refine Fr.ite ?_ ?_ | refine State.setSource_fr ?_ | refine forEach_fr ?_ (fun _ _ => ?_)) | split)

theorem endClose_fr {μ : ℕ} {α : State} {a : ℕ} {data : ℕ} {s : State} (hyp : Fr μ α s) (within : μ ||| 70144472 = μ := by decide) :
    Fr μ α (endClose a data s) := by
  refine Fr.via hyp ?_ within; unfold endClose; try dsimp only
  repeat' (first | (with_reducible first | exact Fr.refl _ _ | assumption | refine Fr.ite ?_ ?_ | refine State.setReds_fr ?_ | refine closeRecord_fr ?_ | refine redSignal_fr ?_) | split)

theorem endDerate_fr {μ : ℕ} {α : State} {b : ℕ} {s : State} (hyp : Fr μ α s) (within : μ ||| 20696 = μ := by decide) :
    Fr μ α (endDerate b s) := by
  refine Fr.via hyp ?_ within; unfold endDerate; try dsimp only
  repeat' (first | (with_reducible first | exact Fr.refl _ _ | assumption | refine Fr.ite ?_ ?_ | refine raiseNode_fr ?_ | refine State.setOb_fr ?_) | split)

theorem escapeFeed_fr {μ : ℕ} {α : State} {n : ℕ} {num : ℕ} {s : State} (hyp : Fr μ α s) (within : μ ||| 70144472 = μ := by decide) :
    Fr μ α (escapeFeed n num s) := by
  refine Fr.via hyp ?_ within; unfold escapeFeed; try dsimp only
  repeat' (first | (with_reducible first | exact Fr.refl _ _ | assumption | refine Fr.ite ?_ ?_ | refine feedArrive_fr ?_ | refine countEscape_fr ?_ | refine dropReads_fr ?_) | split)

theorem escapeAsk_fr {μ : ℕ} {α : State} {q : Ask} {s : State} (hyp : Fr μ α s) (within : μ ||| 67391960 = μ := by decide) :
    Fr μ α (escapeAsk q s) := by
  refine Fr.via hyp ?_ within; unfold escapeAsk; try dsimp only
  repeat' (first | (with_reducible first | exact Fr.refl _ _ | assumption | refine Fr.ite ?_ ?_ | refine finish_fr ?_ | refine countEscape_fr ?_ | refine dropReads_fr ?_) | split)

theorem endEscapes_fr {μ : ℕ} {α : State} {s : State} (hyp : Fr μ α s) (within : μ ||| 70144472 = μ := by decide) :
    Fr μ α (endEscapes s) := by
  refine Fr.via hyp ?_ within; unfold endEscapes; try dsimp only
  repeat' (first | (with_reducible first | exact Fr.refl _ _ | assumption | refine Fr.ite ?_ ?_ | refine escapeFeed_fr ?_ | refine escapeAsk_fr ?_ | refine forEach_fr ?_ (fun _ _ => ?_)) | split)

theorem showLast_fr {μ : ℕ} {α : State} {code : ℕ} {t : Transfer} {s : State} (hyp : Fr μ α s) (within : μ ||| 64 = μ := by decide) :
    Fr μ α (showLast code t s) := by
  refine Fr.via hyp ?_ within; unfold showLast; try dsimp only
  repeat' (first | (with_reducible first | exact Fr.refl _ _ | assumption | refine Fr.ite ?_ ?_ | refine State.setOb_fr ?_) | split)

theorem endTransfer_fr {μ : ℕ} {α : State} {num : ℕ} {s : State} (hyp : Fr μ α s) (within : μ ||| 71193048 = μ := by decide) :
    Fr μ α (endTransfer num s) := by
  refine Fr.via hyp ?_ within; unfold endTransfer; try dsimp only
  repeat' (first | (with_reducible first | exact Fr.refl _ _ | assumption | refine Fr.ite ?_ ?_ | refine signalObject_fr ?_ | refine showLast_fr ?_ | refine raiseCtx_fr ?_ | refine State.setFar_fr ?_ | refine showTransfers_fr ?_) | split)

theorem takeSpilled_fr {μ : ℕ} {α : State} {n : ℕ} {i : ℕ} {l : ℕ × ℕ} {s : State} (hyp : Fr μ α s) (within : μ ||| 1048576 = μ := by decide) :
    Fr μ α (takeSpilled n i l s) := by
  refine Fr.via hyp ?_ within; unfold takeSpilled; try dsimp only
  repeat' (first | (with_reducible first | exact Fr.refl _ _ | assumption | refine Fr.ite ?_ ?_ | refine State.modTransfer_fr ?_) | split)

theorem endTransferAsk_fr {μ : ℕ} {α : State} {q : Ask} {s : State} (hyp : Fr μ α s) (within : μ ||| 1310720 = μ := by decide) :
    Fr μ α (endTransferAsk q s) := by
  refine Fr.via hyp ?_ within; unfold endTransferAsk; try dsimp only
  repeat' (first | (with_reducible first | exact Fr.refl _ _ | assumption | refine Fr.ite ?_ ?_ | refine State.modTransfer_fr ?_ | refine State.modAsk_fr ?_ | refine takeSpilled_fr ?_ | refine retire_fr ?_) | split)

theorem endZero_fr {μ : ℕ} {α : State} {cause : ZeroCause} {s : State} (hyp : Fr μ α s) (within : μ ||| 23804 = μ := by decide) :
    Fr μ α (endZero cause s) := by
  refine Fr.via hyp ?_ within; unfold endZero; try dsimp only
  repeat' (first | (with_reducible first | exact Fr.refl _ _ | assumption | refine Fr.ite ?_ ?_ | refine raiseNode_fr ?_ | refine State.setSec_fr ?_ | refine State.setOb_fr ?_ | refine writeOwner_fr ?_ | refine blowEpoch_fr ?_) | split | with_reducible refine Fr.set_power_wrap_nvm ?_ | with_reducible refine Fr.set_power_wrap ?_ | with_reducible refine Fr.set_nvm ?_)

theorem engineFault_fr {μ : ℕ} {α : State} {e : ℕ} {s : State} (hyp : Fr μ α s) (within : μ ||| 70144472 = μ := by decide) :
    Fr μ α (engineFault e s) := by
  refine Fr.via hyp ?_ within; unfold engineFault; try dsimp only
  repeat' (first | (with_reducible first | exact Fr.refl _ _ | assumption | refine Fr.ite ?_ ?_ | refine State.setOb_fr ?_ | refine State.setFeeds_fr ?_ | refine fenceStreams_fr ?_ | refine raise_fr ?_) | split)

theorem enterSelfRefresh_fr {μ : ℕ} {α : State} {c : ℕ} {s : State} (hyp : Fr μ α s) (within : μ ||| 282840 = μ := by decide) :
    Fr μ α (enterSelfRefresh c s) := by
  refine Fr.via hyp ?_ within; unfold enterSelfRefresh; try dsimp only
  repeat' (first | (with_reducible first | exact Fr.refl _ _ | assumption | refine Fr.ite ?_ ?_ | refine State.setChanState_fr ?_ | refine raise_fr ?_ | refine State.modChan_fr ?_) | split)

theorem lateFence_fr {μ : ℕ} {α : State} {n : ℕ} {s : State} (hyp : Fr μ α s) (within : μ ||| 147456 = μ := by decide) :
    Fr μ α (lateFence n s) := by
  refine Fr.via hyp ?_ within; unfold lateFence; try dsimp only
  repeat' (first | (with_reducible first | exact Fr.refl _ _ | assumption | refine Fr.ite ?_ ?_ | refine State.modStream_fr ?_ | refine State.send_fr ?_) | split)

theorem enterSignal_fr {μ : ℕ} {α : State} {n : ℕ} {w : ℕ} {t : Stream} {s : State} (hyp : Fr μ α s) (within : μ ||| 70144472 = μ := by decide) :
    Fr μ α (enterSignal n w t s) := by
  refine Fr.via hyp ?_ within; unfold enterSignal; try dsimp only
  repeat' (first | (with_reducible first | exact Fr.refl _ _ | assumption | refine Fr.ite ?_ ?_ | refine lateFence_fr ?_ | refine fire_fr ?_ | refine State.modStream_fr ?_ | refine lostTarget_fr ?_) | split)

theorem entryMode_fr {μ : ℕ} {α : State} {c : ℕ} {cmd : SdiCmd} {s : State} (hyp : Fr μ α s) (within : μ ||| 262720 = μ := by decide) :
    Fr μ α (entryMode c cmd s) := by
  refine Fr.via hyp ?_ within; unfold entryMode; try dsimp only
  repeat' (first | (with_reducible first | exact Fr.refl _ _ | assumption | refine Fr.ite ?_ ?_ | refine State.modChan_fr ?_ | refine issueRow_fr ?_) | split)

theorem entryPreab_fr {μ : ℕ} {α : State} {c : ℕ} {s : State} (hyp : Fr μ α s) (within : μ ||| 8651328 = μ := by decide) :
    Fr μ α (entryPreab c s) := by
  refine Fr.via hyp ?_ within; unfold entryPreab; try dsimp only
  repeat' (first | (with_reducible first | exact Fr.refl _ _ | assumption | refine Fr.ite ?_ ?_ | refine State.modChan_fr ?_ | refine dropRound_fr ?_ | refine issueRow_fr ?_) | split)

theorem entrySre_fr {μ : ℕ} {α : State} {c : ℕ} {cls : ℕ} {mask : ℕ} {s : State} (hyp : Fr μ α s) (within : μ ||| 262720 = μ := by decide) :
    Fr μ α (entrySre c cls mask s) := by
  refine Fr.via hyp ?_ within; unfold entrySre; try dsimp only
  repeat' (first | (with_reducible first | exact Fr.refl _ _ | assumption | refine Fr.ite ?_ ?_ | refine State.modChan_fr ?_ | refine issueRow_fr ?_) | split)

theorem relay_fr {μ : ℕ} {α : State} {h : ℕ} {p : Parcel} {s : State} (hyp : Fr μ α s) (within : μ ||| 256 = μ := by decide) :
    Fr μ α (relay h p s) := by
  refine Fr.via hyp ?_ within; unfold relay; try dsimp only
  repeat' (first | (with_reducible first | exact Fr.refl _ _ | assumption | refine Fr.ite ?_ ?_ | refine State.setPort_fr ?_ | refine enqueue_fr ?_) | split)

theorem peerBack_fr {μ : ℕ} {α : State} {n : ℕ} {s : State} (hyp : Fr μ α s) (within : μ ||| 256 = μ := by decide) :
    Fr μ α (peerBack n s) := by
  refine Fr.via hyp ?_ within; unfold peerBack; try dsimp only
  repeat' (first | (with_reducible first | exact Fr.refl _ _ | assumption | refine Fr.ite ?_ ?_ | refine restartFlows_fr ?_ | refine State.setSet_fr ?_ | refine forEach_fr ?_ (fun _ _ => ?_)) | split)

theorem flowCheck_fr {μ : ℕ} {α : State} {hdr : Hdr} {deliver : State → State} {s : State} (hyp : Fr μ α s) (hf_deliver : ∀  y, Fr μ y (deliver  y)) (within : μ ||| 320 = μ := by decide) :
    Fr μ α (flowCheck hdr deliver s) := by
  unfold flowCheck; try dsimp only
  repeat' (first | (with_reducible first | exact Fr.refl _ _ | assumption | refine Fr.ite ?_ ?_ | refine Fr.trans ?_ (hf_deliver _ ) | refine State.bump_fr ?_ (within := sub_of within (by decide)) | refine State.setFlow_fr ?_ (within := sub_of within (by decide))) | split)

theorem sendLink_fr {μ : ℕ} {α : State} {h : ℕ} {kind : ℕ} {hdr : Hdr} {body : List Byte} {s : State} (hyp : Fr μ α s) (within : μ ||| 256 = μ := by decide) :
    Fr μ α (sendLink h kind hdr body s) := by
  refine Fr.via hyp ?_ within; unfold sendLink; try dsimp only
  repeat' (first | (with_reducible first | exact Fr.refl _ _ | assumption | refine Fr.ite ?_ ?_ | refine enqueue_fr ?_) | split)

theorem sendHopAck_fr {μ : ℕ} {α : State} {h : ℕ} {s : State} (hyp : Fr μ α s) (within : μ ||| 256 = μ := by decide) :
    Fr μ α (sendHopAck h s) := by
  refine Fr.via hyp ?_ within; unfold sendHopAck; try dsimp only
  repeat' (first | (with_reducible first | exact Fr.refl _ _ | assumption | refine Fr.ite ?_ ?_ | refine State.setPort_fr ?_ | refine sendLink_fr ?_) | split)

theorem heard_fr {μ : ℕ} {α : State} {h : ℕ} {s : State} (hyp : Fr μ α s) (within : μ ||| 20952 = μ := by decide) :
    Fr μ α (heard h s) := by
  refine Fr.via hyp ?_ within; unfold heard; try dsimp only
  repeat' (first | (with_reducible first | exact Fr.refl _ _ | assumption | refine Fr.ite ?_ ?_ | refine setOwnLink_fr ?_ | refine State.setPort_fr ?_) | split)

theorem hopCheck_fr {μ : ℕ} {α : State} {h : ℕ} {hdr : Hdr} {ok : Bool} {act : State → State} {s : State} (hyp : Fr μ α s) (hf_act : ∀  y, Fr μ y (act  y)) (within : μ ||| 20952 = μ := by decide) :
    Fr μ α (hopCheck h hdr ok act s) := by
  unfold hopCheck; try dsimp only
  repeat' (first | (with_reducible first | exact Fr.refl _ _ | assumption | refine Fr.ite ?_ ?_ | refine Fr.trans ?_ (hf_act _ ) | refine linkReset_fr ?_ (within := sub_of within (by decide)) | refine State.bump_fr ?_ (within := sub_of within (by decide)) | refine sendHopAck_fr ?_ (within := sub_of within (by decide)) | refine countParcel_fr ?_ (within := sub_of within (by decide)) | refine State.setPort_fr ?_ (within := sub_of within (by decide)) | refine malformedParcel_fr ?_ (within := sub_of within (by decide)) | refine heard_fr ?_ (within := sub_of within (by decide))) | split)

theorem takeChecked_fr {μ : ℕ} {α : State} {h : ℕ} {hdr : Hdr} {body : List Byte} {ok : Bool} {deliver : State → State} {s : State} (hyp : Fr μ α s) (hf_deliver : ∀  y, Fr μ y (deliver  y)) (within : μ ||| 20952 = μ := by decide) :
    Fr μ α (takeChecked h hdr body ok deliver s) := by
  unfold takeChecked; try dsimp only
  repeat' (first | (with_reducible first | exact Fr.refl _ _ | assumption | refine Fr.ite ?_ ?_ | refine Fr.trans ?_ (hf_deliver _ ) | refine relay_fr ?_ (within := sub_of within (by decide)) | refine peerBack_fr ?_ (within := sub_of within (by decide)) | refine flowCheck_fr ?_ (fun _ => ?_) (within := sub_of within (by decide)) | refine hopCheck_fr ?_ (fun _ => ?_) (within := sub_of within (by decide))) | split)

theorem takeParcel_fr {μ : ℕ} {α : State} {h : ℕ} {hdr : Hdr} {body : List Byte} {deliver : State → State} {s : State} (hyp : Fr μ α s) (hf_deliver : ∀  y, Fr μ y (deliver  y)) (within : μ ||| 20952 = μ := by decide) :
    Fr μ α (takeParcel h hdr body deliver s) := by
  unfold takeParcel; try dsimp only
  repeat' (first | (with_reducible first | exact Fr.refl _ _ | assumption | refine Fr.ite ?_ ?_ | refine Fr.trans ?_ (hf_deliver _ ) | refine takeChecked_fr ?_ (fun _ => ?_) (within := sub_of within (by decide))) | split)

theorem writeFull_fr {μ : ℕ} {α : State} {s : State} (hyp : Fr μ α s) (within : μ ||| 68440536 = μ := by decide) :
    Fr μ α (writeFull s) := by
  refine Fr.via hyp ?_ within; unfold writeFull; try dsimp only
  repeat' (first | (with_reducible first | exact Fr.refl _ _ | assumption | refine Fr.ite ?_ ?_ | refine writeBale_fr ?_ | refine forEach_fr ?_ (fun _ _ => ?_)) | split)

theorem stepTransfer_fr {μ : ℕ} {α : State} {n : ℕ} {s : State} (hyp : Fr μ α s) (within : μ ||| 68440536 = μ := by decide) :
    Fr μ α (stepTransfer n s) := by
  refine Fr.via hyp ?_ within; unfold stepTransfer; try dsimp only
  repeat' (first | (with_reducible first | exact Fr.refl _ _ | assumption | refine Fr.ite ?_ ?_ | refine State.modTransfer_fr ?_ | refine writeBale_fr ?_ | refine takeBale_fr ?_ | refine State.modBale_fr ?_ | refine raiseNode_fr ?_ | refine offerInternal_fr ?_ | refine count_fr ?_ | refine waitBale_fr ?_ | refine endTransferRead_fr ?_ | refine noteLost_fr ?_ | refine forEach_fr ?_ (fun _ _ => ?_)) | split)

theorem pumpTransfers_fr {μ : ℕ} {α : State} {s : State} (hyp : Fr μ α s) (within : μ ||| 68440536 = μ := by decide) :
    Fr μ α (pumpTransfers s) := by
  refine Fr.via hyp ?_ within; unfold pumpTransfers; try dsimp only
  repeat' (first | (with_reducible first | exact Fr.refl _ _ | assumption | refine Fr.ite ?_ ?_ | refine showLast_fr ?_ | refine stepTransfer_fr ?_ | refine endTransferAsk_fr ?_ | refine forEach_fr ?_ (fun _ _ => ?_)) | split)

theorem pumpFar_fr {μ : ℕ} {α : State} {s : State} (hyp : Fr μ α s) (within : μ ||| 71193052 = μ := by decide) :
    Fr μ α (pumpFar s) := by
  refine Fr.via hyp ?_ within; unfold pumpFar; try dsimp only
  repeat' (first | (with_reducible first | exact Fr.refl _ _ | assumption | refine Fr.ite ?_ ?_ | refine drainFar_fr ?_ | refine writeFull_fr ?_ | refine pumpTransfers_fr ?_ | refine pump_fr ?_) | split)

theorem warmVerified_fr {μ : ℕ} {α : State} {s : State} (hyp : Fr μ α s) (within : μ ||| 75388380 = μ := by decide) :
    Fr μ α (warmVerified s) := by
  refine Fr.via hyp ?_ within; unfold warmVerified; try dsimp only
  repeat' (first | (with_reducible first | exact Fr.refl _ _ | assumption | refine Fr.ite ?_ ?_ | refine enterConfig_fr ?_ | refine State.setChan_fr ?_ | refine State.bumpBy_fr ?_ | refine syncDepth_fr ?_ | refine State.setCache_fr ?_ | refine forEach_fr ?_ (fun _ _ => ?_)) | split)

theorem layCaptureExit_fr {μ : ℕ} {α : State} {c : ℕ} {l : ℕ} {s : State} (hyp : Fr μ α s) (within : μ ||| 512 = μ := by decide) :
    Fr μ α (layCaptureExit c l s) := by
  refine Fr.via hyp ?_ within; unfold layCaptureExit; try dsimp only
  repeat' (first | (with_reducible first | exact Fr.refl _ _ | assumption | refine Fr.ite ?_ ?_ | refine State.setLay_fr ?_) | split)

theorem missFill_fr {μ : ℕ} {α : State} {s : State} (hyp : Fr μ α s) (within : μ ||| 70144472 = μ := by decide) :
    Fr μ α (missFill s) := by
  refine Fr.via hyp ?_ within; unfold missFill; try dsimp only
  repeat' (first | (with_reducible first | exact Fr.refl _ _ | assumption | refine Fr.ite ?_ ?_ | refine finishRead_fr ?_ | refine tryInstall_fr ?_ | refine fr_snd (by assumption) (tryInstall_fr ?_) | refine State.modAsk_fr ?_ | refine redFill_fr ?_ | refine finish_fr ?_ | refine State.setCache_fr ?_) | split)

theorem spdmTake_fr {μ : ℕ} {α : State} {r : Req} {i : RequestOp} {f : State → State} {s : State} (hyp : Fr μ α s) (hf_f : ∀  y, Fr μ y (f  y)) (within : μ ||| 17600 = μ := by decide) :
    FrR μ α (spdmTake r i f s) := by
  unfold spdmTake; try dsimp only
  repeat' (first | (with_reducible first | exact Fr.refl _ _ | assumption | refine frR_next ?_ | exact frR_fault | refine present_fr ?_ | refine Fr.ite ?_ ?_ | refine Fr.trans ?_ (hf_f _ ) | refine spdmBegin_fr ?_ (fun _ => ?_) (within := sub_of within (by decide)) | refine takeRequest_fr ?_ (fun _ => ?_) (within := sub_of within (by decide))) | split)

theorem noReading_fr {μ : ℕ} {α : State} {k : ℕ} {s : State} (hyp : Fr μ α s) (within : μ ||| 4194304 = μ := by decide) :
    Fr μ α (noReading k s) := by
  refine Fr.via hyp ?_ within; unfold noReading; try dsimp only
  repeat' (first | (with_reducible first | exact Fr.refl _ _ | assumption | refine Fr.ite ?_ ?_ | refine State.setSensor_fr ?_) | split)

theorem tempFailed_fr {μ : ℕ} {α : State} {u : ℕ} {layer : ℕ} {s : State} (hyp : Fr μ α s) (within : μ ||| 4194304 = μ := by decide) :
    Fr μ α (tempFailed u layer s) := by
  refine Fr.via hyp ?_ within; unfold tempFailed; try dsimp only
  repeat' (first | (with_reducible first | exact Fr.refl _ _ | assumption | refine Fr.ite ?_ ?_ | refine noReading_fr ?_) | split)

theorem noteCool_fr {μ : ℕ} {α : State} {s : State} (hyp : Fr μ α s) (within : μ ||| 4194304 = μ := by decide) :
    Fr μ α (noteCool s) := by
  refine Fr.via hyp ?_ within; unfold noteCool; try dsimp only
  repeat' (first | (with_reducible first | exact Fr.refl _ _ | assumption | refine Fr.ite ?_ ?_ | refine State.setHeat_fr ?_) | split)

theorem takeReading_fr {μ : ℕ} {α : State} {k : ℕ} {v : ℤ} {s : State} (hyp : Fr μ α s) (within : μ ||| 4215000 = μ := by decide) :
    Fr μ α (takeReading k v s) := by
  refine Fr.via hyp ?_ within; unfold takeReading; try dsimp only
  repeat' (first | (with_reducible first | exact Fr.refl _ _ | assumption | refine Fr.ite ?_ ?_ | refine breakSensor_fr ?_ | refine State.setSensor_fr ?_) | split)

theorem takeCode_fr {μ : ℕ} {α : State} {st : ℕ} {n : ℕ} {code : ℕ} {s : State} (hyp : Fr μ α s) (within : μ ||| 4215000 = μ := by decide) :
    Fr μ α (takeCode st n code s) := by
  refine Fr.via hyp ?_ within; unfold takeCode; try dsimp only
  repeat' (first | (with_reducible first | exact Fr.refl _ _ | assumption | refine Fr.ite ?_ ?_ | refine takeReading_fr ?_ | refine noReading_fr ?_ | refine showSensor_fr ?_) | split)

theorem tempBlock_fr {μ : ℕ} {α : State} {u : ℕ} {layer : ℕ} {bytes : List Byte} {s : State} (hyp : Fr μ α s) (within : μ ||| 4215000 = μ := by decide) :
    Fr μ α (tempBlock u layer bytes s) := by
  refine Fr.via hyp ?_ within; unfold tempBlock; try dsimp only
  repeat' (first | (with_reducible first | exact Fr.refl _ _ | assumption | refine Fr.ite ?_ ?_ | refine afterReadings_fr ?_ | refine noteCool_fr ?_ | refine takeCode_fr ?_) | split)

theorem readSheaf_fr {μ : ℕ} {α : State} {u : ℕ} {c : ℕ} {s : State} (hyp : Fr μ α s) (within : μ ||| 4215512 = μ := by decide) :
    Fr μ α (readSheaf u c s) := by
  refine Fr.via hyp ?_ within; unfold readSheaf; try dsimp only
  repeat' (first | (with_reducible first | exact Fr.refl _ _ | assumption | refine Fr.ite ?_ ?_ | refine tempFailed_fr ?_ | refine tempBlock_fr ?_ | refine layMrr_fr ?_ | refine fr_snd (by assumption) (layMrr_fr ?_) | refine forEach_fr ?_ (fun _ _ => ?_)) | split)

theorem readAllSensors_fr {μ : ℕ} {α : State} {s : State} (hyp : Fr μ α s) (within : μ ||| 4215512 = μ := by decide) :
    Fr μ α (readAllSensors s) := by
  refine Fr.via hyp ?_ within; unfold readAllSensors; try dsimp only
  repeat' (first | (with_reducible first | exact Fr.refl _ _ | assumption | refine Fr.ite ?_ ?_ | refine readSheaf_fr ?_ | refine forEach_fr ?_ (fun _ _ => ?_)) | split)

theorem ladderStep_fr {μ : ℕ} {α : State} {s : State} (hyp : Fr μ α s) (within : μ ||| 4215000 = μ := by decide) :
    Fr μ α (ladderStep s) := by
  refine Fr.via hyp ?_ within; unfold ladderStep; try dsimp only
  repeat' (first | (with_reducible first | exact Fr.refl _ _ | assumption | refine Fr.ite ?_ ?_ | refine raise_fr ?_ | refine State.setHeat_fr ?_ | refine takeLevel_fr ?_ | refine forEach_fr ?_ (fun _ _ => ?_)) | split)

theorem startHard_fr {μ : ℕ} {α : State} {c : ℕ} {layer : ℕ} {s : State} (hyp : Fr μ α s) (within : μ ||| 576 = μ := by decide) :
    Fr μ α (startHard c layer s) := by
  refine Fr.via hyp ?_ within; unfold startHard; try dsimp only
  repeat' (first | (with_reducible first | exact Fr.refl _ _ | assumption | refine Fr.ite ?_ ?_ | refine layPreab_fr ?_ | refine layMrw_fr ?_ | refine layRpr_fr ?_) | split)

theorem planHard_fr {μ : ℕ} {α : State} {s : State} (hyp : Fr μ α s) (within : μ ||| 262144 = μ := by decide) :
    Fr μ α (planHard s) := by
  refine Fr.via hyp ?_ within; unfold planHard; try dsimp only
  repeat' (first | (with_reducible first | exact Fr.refl _ _ | assumption | refine Fr.ite ?_ ?_ | refine State.setPath_fr ?_) | split)

theorem setRetirement_fr {μ : ℕ} {α : State} {st : ℕ} {n : ℕ} {v : ℕ} {s : State} (hyp : Fr μ α s) (within : μ ||| 64 = μ := by decide) :
    Fr μ α (setRetirement st n v s) := by
  refine Fr.via hyp ?_ within; unfold setRetirement; try dsimp only
  repeat' (first | (with_reducible first | exact Fr.refl _ _ | assumption | refine Fr.ite ?_ ?_ | refine State.setOb_fr ?_) | split)

theorem replayEntry_fr {μ : ℕ} {α : State} {w : ℕ} {s : State} (hyp : Fr μ α s) (within : μ ||| 262720 = μ := by decide) :
    Fr μ α (replayEntry w s) := by
  refine Fr.via hyp ?_ within; unfold replayEntry; try dsimp only
  repeat' (first | (with_reducible first | exact Fr.refl _ _ | assumption | refine Fr.ite ?_ ?_ | refine State.setOb_fr ?_ | refine setRetirement_fr ?_ | refine State.bump_fr ?_ | refine State.modChan_fr ?_ | refine layMrw_fr ?_ | refine layRpr_fr ?_) | split)

theorem replayLog_fr {μ : ℕ} {α : State} {s : State} (hyp : Fr μ α s) (within : μ ||| 262720 = μ := by decide) :
    Fr μ α (replayLog s) := by
  refine Fr.via hyp ?_ within; unfold replayLog; try dsimp only
  repeat' (first | (with_reducible first | exact Fr.refl _ _ | assumption | refine Fr.ite ?_ ?_ | refine State.setOb_fr ?_ | refine replayEntry_fr ?_ | refine forEach_fr ?_ (fun _ _ => ?_)) | split | with_reducible refine Fr.set_obj ?_)

theorem readIdentity_fr {μ : ℕ} {α : State} {st : ℕ} {s : State} (hyp : Fr μ α s) (within : μ ||| 70144984 = μ := by decide) :
    Fr μ α (readIdentity st s) := by
  refine Fr.via hyp ?_ within; unfold readIdentity; try dsimp only
  repeat' (first | (with_reducible first | exact Fr.refl _ _ | assumption | refine Fr.ite ?_ ?_ | refine failChannel_fr ?_ | refine State.setOb_fr ?_ | refine forEach_fr ?_ (fun _ _ => ?_) | refine foldl_fr ?_ (fun _ _ => ?_) | refine foldl_frS ?_ (fun _ _ => ?_) | refine foldl_frF ?_ (fun _ _ => ?_)) | split)

theorem startTrainingAll_fr {μ : ℕ} {α : State} {s : State} (hyp : Fr μ α s) (within : μ ||| 78533592 = μ := by decide) :
    Fr μ α (startTrainingAll s) := by
  refine Fr.via hyp ?_ within; unfold startTrainingAll; try dsimp only
  repeat' (first | (with_reducible first | exact Fr.refl _ _ | assumption | refine Fr.ite ?_ ?_ | refine persistOwn_fr ?_ | refine beginTraining_fr ?_ | refine wantFull_fr ?_ | refine State.setOb_fr ?_ | refine startHard_fr ?_ | refine planHard_fr ?_ | refine replayLog_fr ?_ | refine readIdentity_fr ?_ | refine forEach_fr ?_ (fun _ _ => ?_)) | split)

theorem setSlice_fr {μ : ℕ} {α : State} {x : ℕ} {v : ℕ} {s : State} (hyp : Fr μ α s) (within : μ ||| 64 = μ := by decide) :
    Fr μ α (setSlice x v s) := by
  refine Fr.via hyp ?_ within; unfold setSlice; try dsimp only
  repeat' (first | (with_reducible first | exact Fr.refl _ _ | assumption | refine Fr.ite ?_ ?_ | refine State.setOb_fr ?_) | split)

theorem pairOut_fr {μ : ℕ} {α : State} {x : ℕ} {s : State} (hyp : Fr μ α s) (within : μ ||| 70144472 = μ := by decide) :
    Fr μ α (pairOut x s) := by
  refine Fr.via hyp ?_ within; unfold pairOut; try dsimp only
  repeat' (first | (with_reducible first | exact Fr.refl _ _ | assumption | refine Fr.ite ?_ ?_ | refine finish_fr ?_ | refine breakRed_fr ?_ | refine poisonWrite_fr ?_ | refine syncDirty_fr ?_ | refine State.setCache_fr ?_ | refine raise_fr ?_ | refine setSlice_fr ?_ | refine clearArray_fr ?_ | refine forEach_fr ?_ (fun _ _ => ?_)) | split)

theorem refuseHeld_fr {μ : ℕ} {α : State} {x : ℕ} {s : State} (hyp : Fr μ α s) (within : μ ||| 67371328 = μ := by decide) :
    Fr μ α (refuseHeld x s) := by
  refine Fr.via hyp ?_ within; unfold refuseHeld; try dsimp only
  repeat' (first | (with_reducible first | exact Fr.refl _ _ | assumption | refine Fr.ite ?_ ?_ | refine sliceLater_fr ?_ | refine forEach_fr ?_ (fun _ _ => ?_)) | split)

theorem sliceFault_fr {μ : ℕ} {α : State} {x : ℕ} {s : State} (hyp : Fr μ α s) (within : μ ||| 70144472 = μ := by decide) :
    Fr μ α (sliceFault x s) := by
  refine Fr.via hyp ?_ within; unfold sliceFault; try dsimp only
  repeat' (first | (with_reducible first | exact Fr.refl _ _ | assumption | refine Fr.ite ?_ ?_ | refine State.setCache_fr ?_ | refine raise_fr ?_ | refine setSlice_fr ?_ | refine pairOut_fr ?_ | refine clearArray_fr ?_ | refine refuseHeld_fr ?_) | split)

theorem holdConfig_fr {μ : ℕ} {α : State} {s : State} (hyp : Fr μ α s) (within : μ ||| 4 = μ := by decide) :
    Fr μ α (holdConfig s) := by
  refine Fr.via hyp ?_ within; unfold holdConfig; try dsimp only
  repeat' (first | (with_reducible first | exact Fr.refl _ _ | assumption | refine Fr.ite ?_ ?_ | refine State.setPower_fr ?_) | split)

theorem selfTestDone_fr {μ : ℕ} {α : State} {channels : List ℕ} {journalA : Bool} {journalB : Bool} {comparators : Bool} {monitors : Bool} {replicas : List ℕ} {slices : List ℕ} {s : State} (hyp : Fr μ α s) (within : μ ||| 99505116 = μ := by decide) :
    Fr μ α (selfTestDone channels journalA journalB comparators monitors replicas slices s) := by
  refine Fr.via hyp ?_ within; unfold selfTestDone; try dsimp only
  repeat' (first | (with_reducible first | exact Fr.refl _ _ | assumption | refine Fr.ite ?_ ?_ | refine readAllSensors_fr ?_ | refine ladderStep_fr ?_ | refine startTrainingAll_fr ?_ | refine State.setPower_fr ?_ | refine checkerFails_fr ?_ | refine sliceFault_fr ?_ | refine holdConfig_fr ?_ | refine State.setClk_fr ?_ | refine State.setPath_fr ?_ | refine State.setOb_fr ?_ | refine failChannel_fr ?_ | refine forEach_fr ?_ (fun _ _ => ?_)) | split)

theorem monitorWindow_fr {μ : ℕ} {α : State} {m : ℕ} {count : ℕ} {ended : Bool} {lock : Bool} {kfoOff : Bool} {ksoOff : Bool} {s : State} (hyp : Fr μ α s) (within : μ ||| 96424924 = μ := by decide) :
    Fr μ α (monitorWindow m count ended lock kfoOff ksoOff s) := by
  refine Fr.via hyp ?_ within; unfold monitorWindow; try dsimp only
  repeat' (first | (with_reducible first | exact Fr.refl _ _ | assumption | refine Fr.ite ?_ ?_ | refine clockTrip_fr ?_ | refine State.setOb_fr ?_) | split)

theorem expireRecords_fr {μ : ℕ} {α : State} {s : State} (hyp : Fr μ α s) (within : μ ||| 524288 = μ := by decide) :
    Fr μ α (expireRecords s) := by
  refine Fr.via hyp ?_ within; unfold expireRecords; try dsimp only
  repeat' (first | (with_reducible first | exact Fr.refl _ _ | assumption | refine Fr.ite ?_ ?_ | refine State.setCache_fr ?_) | split)

theorem writeEscapes_fr {μ : ℕ} {α : State} {n : ℕ} {num : ℕ} {t : Stream} {ws : List (ℕ × ℕ × ℕ)} {s : State} (hyp : Fr μ α s) (within : μ ||| 67391960 = μ := by decide) :
    Fr μ α (writeEscapes n num t ws s).2 := by
  refine Fr.via hyp ?_ within; unfold writeEscapes; try dsimp only
  repeat' (first | (with_reducible first | exact Fr.refl _ _ | assumption | refine Fr.ite ?_ ?_ | refine offerInternal_fr ?_ | refine forEach_fr ?_ (fun _ _ => ?_)) | split)

theorem flagBeyond_fr {μ : ℕ} {α : State} {u : ℕ} {a : ℕ} {s : State} (hyp : Fr μ α s) (within : μ ||| 20696 = μ := by decide) :
    Fr μ α (flagBeyond u a s) := by
  refine Fr.via hyp ?_ within; unfold flagBeyond; try dsimp only
  repeat' (first | (with_reducible first | exact Fr.refl _ _ | assumption | refine Fr.ite ?_ ?_ | refine raiseAt_fr ?_ | refine State.setOb_fr ?_) | split)

theorem narrow_fr {μ : ℕ} {α : State} {u : ℕ} {cs : Cause} {x : FormatEntry} {a : ℕ} {feeds : List ℕ} {s : State} (hyp : Fr μ α s) (within : μ ||| 151768 = μ := by decide) :
    Fr μ α (narrow u cs x a feeds s).2 := by
  refine Fr.via hyp ?_ within; unfold narrow; try dsimp only
  repeat' (first | (with_reducible first | exact Fr.refl _ _ | assumption | refine Fr.ite ?_ ?_ | refine flagBeyond_fr ?_ | refine raiseAt_fr ?_ | refine State.bump_fr ?_ | refine countIf_fr ?_ | refine countScales_fr ?_ | refine allocSlot_fr ?_ | refine fr_snd (by assumption) (allocSlot_fr ?_) | refine raise_fr ?_ | refine State.bumpBy_fr ?_ | refine foldl_fr ?_ (fun _ _ => ?_) | refine foldl_frS ?_ (fun _ _ => ?_) | refine foldl_frF ?_ (fun _ _ => ?_)) | split)

theorem narrowItem_fr {μ : ℕ} {α : State} {n : ℕ} {num : ℕ} {t : Stream} {i : LineItem} {feeds : List ℕ} {s : State} (hyp : Fr μ α s) (within : μ ||| 67523032 = μ := by decide) :
    Fr μ α (narrowItem n num t i feeds s).2 := by
  refine Fr.via hyp ?_ within; unfold narrowItem; try dsimp only
  repeat' (first | (with_reducible first | exact Fr.refl _ _ | assumption | refine Fr.ite ?_ ?_ | refine State.setFeeds_fr ?_ | refine writeEscapes_fr ?_ | refine fr_snd (by assumption) (writeEscapes_fr ?_) | refine narrow_fr ?_ | refine fr_snd (by assumption) (narrow_fr ?_)) | split)

theorem narrowOne_fr {μ : ℕ} {α : State} {n : ℕ} {s : State} (hyp : Fr μ α s) (within : μ ||| 70144472 = μ := by decide) :
    Fr μ α (narrowOne n s) := by
  refine Fr.via hyp ?_ within; unfold narrowOne; try dsimp only
  repeat' (first | (with_reducible first | exact Fr.refl _ _ | assumption | refine Fr.ite ?_ ?_ | refine State.modStream_fr ?_ | refine narrowItem_fr ?_ | refine fr_snd (by assumption) (narrowItem_fr ?_) | refine fenceContext_fr ?_) | split)

theorem narrowBefore_fr {μ : ℕ} {α : State} {o : ℕ × ℕ} {k : ℕ} {s : State} (hyp : Fr μ α s) (within : μ ||| 70144472 = μ := by decide) :
    Fr μ α (narrowBefore o k s) := by
  induction k generalizing s with
  | zero => exact hyp
  | succ k ih =>
    unfold narrowBefore
    dsimp only
    split
    · exact ih (narrowOne_fr hyp (within := sub_of within (by decide)))
    · exact hyp

theorem narrowNext_fr {μ : ℕ} {α : State} {n : ℕ} {s : State} (hyp : Fr μ α s) (within : μ ||| 70144472 = μ := by decide) :
    Fr μ α (narrowNext n s) := by
  refine Fr.via hyp ?_ within; unfold narrowNext; try dsimp only
  repeat' (first | (with_reducible first | exact Fr.refl _ _ | assumption | refine Fr.ite ?_ ?_ | refine narrowBefore_fr ?_ | refine narrowOne_fr ?_) | split)

theorem keyWrite_fr {μ : ℕ} {α : State} {r : Req} {op : ℕ} {world : Bool} {slot : ℕ} {s : State} (hyp : Fr μ α s) (within : μ ||| 30168 = μ := by decide) :
    FrR μ α (keyWrite r op world slot s) := by
  refine FrR.via hyp ?_ within; unfold keyWrite; try dsimp only
  repeat' (first | (with_reducible first | exact Fr.refl _ _ | assumption | refine frR_next ?_ | exact frR_fault | refine present_fr ?_ | refine Fr.ite ?_ ?_ | refine keyHome_fr ?_ | refine FrW.of_done (keyHome_fr ?_) (by assumption) | refine FrW.of_refused (keyHome_fr ?_) (by assumption) | refine FrW.of_wait (keyHome_fr ?_) (by assumption) | refine dictWrite_fr ?_ (fun _ _ => ?_)) | split)

theorem fallbackTimeout_fr {μ : ℕ} {α : State} {d : ℕ} {s : State} (hyp : Fr μ α s) (within : μ ||| 84759004 = μ := by decide) :
    Fr μ α (fallbackTimeout d s) := by
  refine Fr.via hyp ?_ within; unfold fallbackTimeout; try dsimp only
  repeat' (first | (with_reducible first | exact Fr.refl _ _ | assumption | refine Fr.ite ?_ ?_ | refine setKeeper_fr ?_ | refine raise_fr ?_ | refine enterHalted_fr ?_) | split)

theorem portDown_fr {μ : ℕ} {α : State} {t : ℕ} {s : State} (hyp : Fr μ α s) (within : μ ||| 70144472 = μ := by decide) :
    Fr μ α (portDown t s) := by
  refine Fr.via hyp ?_ within; unfold portDown; try dsimp only
  repeat' (first | (with_reducible first | exact Fr.refl _ _ | assumption | refine Fr.ite ?_ ?_ | refine raise_fr ?_ | refine fenceStreams_fr ?_ | refine setPortState_fr ?_ | refine State.setFeeds_fr ?_) | split)

theorem healedFails_fr {μ : ℕ} {α : State} {c : ℕ} {l : Loc} {s : State} (hyp : Fr μ α s) (within : μ ||| 262208 = μ := by decide) :
    Fr μ α (healedFails c l s) := by
  refine Fr.via hyp ?_ within; unfold healedFails; try dsimp only
  repeat' (first | (with_reducible first | exact Fr.refl _ _ | assumption | refine Fr.ite ?_ ?_ | refine setWeak_fr ?_ | refine queueMove_fr ?_) | split)

theorem failedRead_fr {μ : ℕ} {α : State} {c : ℕ} {f : Flight} {s : State} (hyp : Fr μ α s) (within : μ ||| 71193048 = μ := by decide) :
    Fr μ α (failedRead c f s) := by
  refine Fr.via hyp ?_ within; unfold failedRead; try dsimp only
  repeat' (first | (with_reducible first | exact Fr.refl _ _ | assumption | refine Fr.ite ?_ ?_ | refine State.bump_fr ?_ | refine joinRec_fr ?_ | refine deliverLine_fr ?_ | refine sampleFlag_fr ?_ | refine healedFails_fr ?_ | refine countIf_fr ?_) | split)

theorem readBack_fr {μ : ℕ} {α : State} {c : ℕ} {f : Flight} {s : State} (hyp : Fr μ α s) (within : μ ||| 75387352 = μ := by decide) :
    Fr μ α (readBack c f s) := by
  refine Fr.via hyp ?_ within; unfold readBack; try dsimp only
  repeat' (first | (with_reducible first | exact Fr.refl _ _ | assumption | refine Fr.ite ?_ ?_ | refine failedRead_fr ?_ | refine deliverLine_fr ?_ | refine tempFailed_fr ?_ | refine tempBlock_fr ?_ | refine dropFlight_fr ?_) | split)

theorem flowReset_fr {μ : ℕ} {α : State} {h : ℕ} {hdr : Hdr} {base : ℕ} {s : State} (hyp : Fr μ α s) (within : μ ||| 20952 = μ := by decide) :
    Fr μ α (flowReset h hdr base s) := by
  refine Fr.via hyp ?_ within; unfold flowReset; try dsimp only
  repeat' (first | (with_reducible first | exact Fr.refl _ _ | assumption | refine Fr.ite ?_ ?_ | refine relay_fr ?_ | refine State.setFlow_fr ?_ | refine peerBack_fr ?_ | refine hopCheck_fr ?_ (fun _ => ?_)) | split)

theorem unitFault_fr {μ : ℕ} {α : State} {u : ℕ} {s : State} (hyp : Fr μ α s) (within : μ ||| 70144472 = μ := by decide) :
    Fr μ α (unitFault u s) := by
  refine Fr.via hyp ?_ within; unfold unitFault; try dsimp only
  repeat' (first | (with_reducible first | exact Fr.refl _ _ | assumption | refine Fr.ite ?_ ?_ | refine State.setFeeds_fr ?_ | refine State.setOb_fr ?_ | refine finish_fr ?_ | refine abandonReads_fr ?_ | refine fenceStreams_fr ?_ | refine raise_fr ?_ | refine forEach_fr ?_ (fun _ _ => ?_)) | split)

theorem sendSetWide_fr {μ : ℕ} {α : State} {n : ℕ} {s : State} (hyp : Fr μ α s) (within : μ ||| 256 = μ := by decide) :
    Fr μ α (sendSetWide n s) := by
  refine Fr.via hyp ?_ within; unfold sendSetWide; try dsimp only
  repeat' (first | (with_reducible first | exact Fr.refl _ _ | assumption | refine Fr.ite ?_ ?_ | refine sendParcel_fr ?_ | refine forEach_fr ?_ (fun _ _ => ?_)) | split)

theorem formSet_fr {μ : ℕ} {α : State} {lead : ℕ} {mask : ℕ} {time : ℕ} {epoch : ℕ} {s : State} (hyp : Fr μ α s) (within : μ ||| 20952 = μ := by decide) :
    Fr μ α (formSet lead mask time epoch s) := by
  refine Fr.via hyp ?_ within; unfold formSet; try dsimp only
  repeat' (first | (with_reducible first | exact Fr.refl _ _ | assumption | refine Fr.ite ?_ ?_ | refine raiseNode_fr ?_ | refine computeRoutes_fr ?_ | refine State.setSet_fr ?_ | refine forEach_fr ?_ (fun _ _ => ?_)) | split)

theorem tryForm_fr {μ : ℕ} {α : State} {timeout : Bool} {s : State} (hyp : Fr μ α s) (within : μ ||| 20952 = μ := by decide) :
    Fr μ α (tryForm timeout s) := by
  refine Fr.via hyp ?_ within; unfold tryForm; try dsimp only
  repeat' (first | (with_reducible first | exact Fr.refl _ _ | assumption | refine Fr.ite ?_ ?_ | refine sendSetWide_fr ?_ | refine flood_fr ?_ | refine formSet_fr ?_ | refine forEach_fr ?_ (fun _ _ => ?_)) | split)

theorem joinFormed_fr {μ : ℕ} {α : State} {lead : ℕ} {mask : ℕ} {time : ℕ} {epoch : ℕ} {s : State} (hyp : Fr μ α s) (within : μ ||| 86492 = μ := by decide) :
    Fr μ α (joinFormed lead mask time epoch s) := by
  refine Fr.via hyp ?_ within; unfold joinFormed; try dsimp only
  repeat' (first | (with_reducible first | exact Fr.refl _ _ | assumption | refine Fr.ite ?_ ?_ | refine raiseNode_fr ?_ | refine flood_fr ?_ | refine computeRoutes_fr ?_ | refine State.setWrites_fr ?_ | refine State.setSet_fr ?_) | split | with_reducible refine Fr.set_power_plans ?_)

theorem frameBoundary_fr {μ : ℕ} {α : State} {s : State} (hyp : Fr μ α s) (within : μ ||| 21057752 = μ := by decide) :
    Fr μ α (frameBoundary s) := by
  refine Fr.via hyp ?_ within; unfold frameBoundary; try dsimp only
  repeat' (first | (with_reducible first | exact Fr.refl _ _ | assumption | refine Fr.ite ?_ ?_ | refine endDerate_fr ?_ | refine State.setClk_fr ?_ | refine ladderStep_fr ?_ | refine State.setPlans_fr ?_ | refine State.bumpBy_fr ?_ | refine forEach_fr ?_ (fun _ _ => ?_)) | split)

theorem frameEpoch_fr {μ : ℕ} {α : State} {s : State} (hyp : Fr μ α s) (within : μ ||| 4280792 = μ := by decide) :
    Fr μ α (frameEpoch s) := by
  refine Fr.via hyp ?_ within; unfold frameEpoch; try dsimp only
  repeat' (first | (with_reducible first | exact Fr.refl _ _ | assumption | refine Fr.ite ?_ ?_ | refine State.setSet_fr ?_ | refine State.setPlans_fr ?_ | refine ladderStep_fr ?_) | split)

theorem nextStack_fr {μ : ℕ} {α : State} {s : State} (hyp : Fr μ α s) (within : μ ||| 8388672 = μ := by decide) :
    Fr μ α (nextStack s) := by
  refine Fr.via hyp ?_ within; unfold nextStack; try dsimp only
  repeat' (first | (with_reducible first | exact Fr.refl _ _ | assumption | refine Fr.ite ?_ ?_ | refine State.modTr_fr ?_ | refine beginTraining_fr ?_ | refine forEach_fr ?_ (fun _ _ => ?_)) | split)

theorem trained_fr {μ : ℕ} {α : State} {c : ℕ} {source : ℕ} {s : State} (hyp : Fr μ α s) (within : μ ||| 8671448 = μ := by decide) :
    Fr μ α (trained c source s) := by
  refine Fr.via hyp ?_ within; unfold trained; try dsimp only
  repeat' (first | (with_reducible first | exact Fr.refl _ _ | assumption | refine Fr.ite ?_ ?_ | refine raise_fr ?_ | refine nextStack_fr ?_ | refine freshRefresh_fr ?_ | refine State.modTr_fr ?_ | refine State.setChanState_fr ?_ | refine State.setOb_fr ?_) | split)

theorem untrainable_fr {μ : ℕ} {α : State} {c : ℕ} {s : State} (hyp : Fr μ α s) (within : μ ||| 78533592 = μ := by decide) :
    Fr μ α (untrainable c s) := by
  refine Fr.via hyp ?_ within; unfold untrainable; try dsimp only
  repeat' (first | (with_reducible first | exact Fr.refl _ _ | assumption | refine Fr.ite ?_ ?_ | refine State.modTr_fr ?_ | refine failChannel_fr ?_ | refine nextStack_fr ?_ | refine State.setOb_fr ?_) | split)

theorem lostFor_fr {μ : ℕ} {α : State} {c : ℕ} {mask : ℕ} {s : State} (hyp : Fr μ α s) (within : μ ||| 78533592 = μ := by decide) :
    Fr μ α (lostFor c mask s) := by
  refine Fr.via hyp ?_ within; unfold lostFor; try dsimp only
  repeat' (first | (with_reducible first | exact Fr.refl _ _ | assumption | refine Fr.ite ?_ ?_ | refine State.setOb_fr ?_ | refine recordDue_fr ?_ | refine untrainable_fr ?_) | split)

theorem fullDone_fr {μ : ℕ} {α : State} {c : ℕ} {words : List ℕ} {lanes : ℕ} {ca : ℕ} {bad : ℕ} {caOk : Bool} {s : State} (hyp : Fr μ α s) (within : μ ||| 78533592 = μ := by decide) :
    Fr μ α (fullDone c words lanes ca bad caOk s) := by
  refine Fr.via hyp ?_ within; unfold fullDone; try dsimp only
  repeat' (first | (with_reducible first | exact Fr.refl _ _ | assumption | refine Fr.ite ?_ ?_ | refine takeFallback_fr ?_ | refine recordDue_fr ?_ | refine trained_fr ?_ | refine takeSettings_fr ?_ | refine lostFor_fr ?_ | refine calibrationBad_fr ?_ | refine forEach_fr ?_ (fun _ _ => ?_)) | split)

theorem graceOver_fr {μ : ℕ} {α : State} {st : ℕ} {s : State} (hyp : Fr μ α s) (within : μ ||| 4215000 = μ := by decide) :
    Fr μ α (graceOver st s) := by
  refine Fr.via hyp ?_ within; unfold graceOver; try dsimp only
  repeat' (first | (with_reducible first | exact Fr.refl _ _ | assumption | refine Fr.ite ?_ ?_ | refine endGrace_fr ?_ | refine raise_fr ?_) | split)

theorem rearmGrace_fr {μ : ℕ} {α : State} {st : ℕ} {s : State} (hyp : Fr μ α s) (within : μ ||| 64 = μ := by decide) :
    Fr μ α (rearmGrace st s) := by
  refine Fr.via hyp ?_ within; unfold rearmGrace; try dsimp only
  repeat' (first | (with_reducible first | exact Fr.refl _ _ | assumption | refine Fr.ite ?_ ?_ | refine State.setOb_fr ?_) | split)

theorem groupLost_fr {μ : ℕ} {α : State} {c : ℕ} {g : ℕ} {s : State} (hyp : Fr μ α s) (within : μ ||| 78533592 = μ := by decide) :
    Fr μ α (groupLost c g s) := by
  refine Fr.via hyp ?_ within; unfold groupLost; try dsimp only
  repeat' (first | (with_reducible first | exact Fr.refl _ _ | assumption | refine Fr.ite ?_ ?_ | refine recordDue_fr ?_ | refine State.modTr_fr ?_ | refine takeFallback_fr ?_ | refine abandonRound_fr ?_ | refine lostFor_fr ?_) | split)

theorem groupBad_fr {μ : ℕ} {α : State} {c : ℕ} {g : ℕ} {s : State} (hyp : Fr μ α s) (within : μ ||| 78533592 = μ := by decide) :
    Fr μ α (groupBad c g s) := by
  refine Fr.via hyp ?_ within; unfold groupBad; try dsimp only
  repeat' (first | (with_reducible first | exact Fr.refl _ _ | assumption | refine Fr.ite ?_ ?_ | refine State.modTr_fr ?_ | refine groupLost_fr ?_) | split)

theorem groupDone_fr {μ : ℕ} {α : State} {c : ℕ} {outcome : ℕ} {rv : ℕ} {wv : ℕ} {delays : List ℕ} {s : State} (hyp : Fr μ α s) (within : μ ||| 78533592 = μ := by decide) :
    Fr μ α (groupDone c outcome rv wv delays s) := by
  refine Fr.via hyp ?_ within; unfold groupDone; try dsimp only
  repeat' (first | (with_reducible first | exact Fr.refl _ _ | assumption | refine Fr.ite ?_ ?_ | refine groupBad_fr ?_ | refine nextGroup_fr ?_ | refine calibrationBad_fr ?_ | refine groupLost_fr ?_ | refine applyCentres_fr ?_) | split)

theorem readHalted_fr {μ : ℕ} {α : State} {u : ℕ} {due : Bool} {s : State} (hyp : Fr μ α s) (within : μ ||| 4477656 = μ := by decide) :
    Fr μ α (readHalted u due s) := by
  refine Fr.via hyp ?_ within; unfold readHalted; try dsimp only
  repeat' (first | (with_reducible first | exact Fr.refl _ _ | assumption | refine Fr.ite ?_ ?_ | refine raise_fr ?_ | refine readSheaf_fr ?_ | refine drainChannel_fr ?_ | refine exitSrx_fr ?_) | split)

theorem haltedCheck_fr {μ : ℕ} {α : State} {st : ℕ} {s : State} (hyp : Fr μ α s) (within : μ ||| 4477656 = μ := by decide) :
    Fr μ α (haltedCheck st s) := by
  refine Fr.via hyp ?_ within; unfold haltedCheck; try dsimp only
  repeat' (first | (with_reducible first | exact Fr.refl _ _ | assumption | refine Fr.ite ?_ ?_ | refine readHalted_fr ?_ | refine State.setHeat_fr ?_ | refine forEach_fr ?_ (fun _ _ => ?_)) | split)

theorem layHardDone_fr {μ : ℕ} {α : State} {c : ℕ} {l : ℕ} {ok : Bool} {s : State} (hyp : Fr μ α s) (within : μ ||| 512 = μ := by decide) :
    Fr μ α (layHardDone c l ok s) := by
  refine Fr.via hyp ?_ within; unfold layHardDone; try dsimp only
  repeat' (first | (with_reducible first | exact Fr.refl _ _ | assumption | refine Fr.ite ?_ ?_ | refine State.setLay_fr ?_) | split | with_reducible refine Fr.set_dram ?_)

theorem hardDone_fr {μ : ℕ} {α : State} {c : ℕ} {layer : ℕ} {ok : Bool} {s : State} (hyp : Fr μ α s) (within : μ ||| 283352 = μ := by decide) :
    Fr μ α (hardDone c layer ok s) := by
  refine Fr.via hyp ?_ within; unfold hardDone; try dsimp only
  repeat' (first | (with_reducible first | exact Fr.refl _ _ | assumption | refine Fr.ite ?_ ?_ | refine State.bump_fr ?_ | refine raise_fr ?_ | refine startHard_fr ?_ | refine State.setPath_fr ?_ | refine layHardDone_fr ?_) | split)

theorem tripStep_fr {μ : ℕ} {α : State} {s : State} (hyp : Fr μ α s) (within : μ ||| 72176092 = μ := by decide) :
    Fr μ α (tripStep s) := by
  refine Fr.via hyp ?_ within; unfold tripStep; try dsimp only
  repeat' (first | (with_reducible first | exact Fr.refl _ _ | assumption | refine Fr.ite ?_ ?_ | refine drainChannel_fr ?_ | refine State.setHeat_fr ?_ | refine enterHalted_fr ?_ | refine forEach_fr ?_ (fun _ _ => ?_)) | split)

theorem healConfirmed_fr {μ : ℕ} {α : State} {c : ℕ} {u : Unconf} {s : State} (hyp : Fr μ α s) (within : μ ||| 67391704 = μ := by decide) :
    Fr μ α (healConfirmed c u s) := by
  refine Fr.via hyp ?_ within; unfold healConfirmed; try dsimp only
  repeat' (first | (with_reducible first | exact Fr.refl _ _ | assumption | refine Fr.ite ?_ ?_ | refine State.bump_fr ?_ | refine raiseAt_fr ?_ | refine confirmWrite_fr ?_ | refine healedNow_fr ?_) | split)

theorem linkSeen_fr {μ : ℕ} {α : State} {h : ℕ} {s : State} (hyp : Fr μ α s) (within : μ ||| 20952 = μ := by decide) :
    Fr μ α (linkSeen h s) := by
  refine Fr.via hyp ?_ within; unfold linkSeen; try dsimp only
  repeat' (first | (with_reducible first | exact Fr.refl _ _ | assumption | refine Fr.ite ?_ ?_ | refine State.setSet_fr ?_ | refine refreshView_fr ?_) | split)

theorem refusePort_fr {μ : ℕ} {α : State} {h : ℕ} {reason : ℕ} {s : State} (hyp : Fr μ α s) (within : μ ||| 20952 = μ := by decide) :
    Fr μ α (refusePort h reason s) := by
  refine Fr.via hyp ?_ within; unfold refusePort; try dsimp only
  repeat' (first | (with_reducible first | exact Fr.refl _ _ | assumption | refine Fr.ite ?_ ?_ | refine raise_fr ?_ | refine setOwnLink_fr ?_ | refine State.setPort_fr ?_) | split)

theorem helloTaken_fr {μ : ℕ} {α : State} {h : ℕ} {node : ℕ} {setNodes : ℕ} {nstacks : ℕ} {version : ℕ} {nextHop : ℕ} {setTag : ℕ} {bundle : ℕ} {s : State} (hyp : Fr μ α s) (within : μ ||| 20952 = μ := by decide) :
    Fr μ α (helloTaken h node setNodes nstacks version nextHop setTag bundle s) := by
  refine Fr.via hyp ?_ within; unfold helloTaken; try dsimp only
  repeat' (first | (with_reducible first | exact Fr.refl _ _ | assumption | refine Fr.ite ?_ ?_ | refine flood_fr ?_ | refine tryForm_fr ?_ | refine linkSeen_fr ?_ | refine setOwnLink_fr ?_ | refine State.setPort_fr ?_ | refine refusePort_fr ?_) | split)

theorem selectImage_fr {μ : ℕ} {α : State} {s : State} (hyp : Fr μ α s) (within : μ ||| 108942812 = μ := by decide) :
    Fr μ α (selectImage s) := by
  refine Fr.via hyp ?_ within; unfold selectImage; try dsimp only
  repeat' (first | (with_reducible first | exact Fr.refl _ _ | assumption | refine Fr.ite ?_ ?_ | refine State.setUpd_fr ?_ | refine raiseNode_fr ?_ | refine bootActive_fr ?_ | refine persistOwn_fr ?_ | refine setStaging_fr ?_ | refine updateRefused_fr ?_ | refine enterRecovery_fr ?_) | split)

theorem readCopies_fr {μ : ℕ} {α : State} {s : State} (hyp : Fr μ α s) (within : μ ||| 20696 = μ := by decide) :
    Fr μ α (readCopies s) := by
  refine Fr.via hyp ?_ within; unfold readCopies; try dsimp only
  repeat' (first | (with_reducible first | exact Fr.refl _ _ | assumption | refine Fr.ite ?_ ?_ | refine State.bump_fr ?_ | refine raiseNode_fr ?_ | refine forEach_fr ?_ (fun _ _ => ?_) | refine foldl_fr ?_ (fun _ _ => ?_) | refine foldl_frS ?_ (fun _ _ => ?_) | refine foldl_frF ?_ (fun _ _ => ?_)) | split)

theorem loadPersisted_fr {μ : ℕ} {α : State} {s : State} (hyp : Fr μ α s) (within : μ ||| 64 = μ := by decide) :
    Fr μ α (loadPersisted s) := by
  refine Fr.via hyp ?_ within; unfold loadPersisted; try dsimp only
  repeat' (first | (with_reducible first | exact Fr.refl _ _ | assumption | refine Fr.ite ?_ ?_ | refine State.setOb_fr ?_ | refine forEach_fr ?_ (fun _ _ => ?_)) | split)

theorem loadRepairs_fr {μ : ℕ} {α : State} {s : State} (hyp : Fr μ α s) (within : μ ||| 262144 = μ := by decide) :
    Fr μ α (loadRepairs s) := by
  refine Fr.via hyp ?_ within; unfold loadRepairs; try dsimp only
  repeat' (first | (with_reducible first | exact Fr.refl _ _ | assumption | refine Fr.ite ?_ ?_ | refine State.setPath_fr ?_) | split)

theorem imageSelection_fr {μ : ℕ} {α : State} {usable : Bool} {density : ℕ} {mode : ℕ} {s : State} (hyp : Fr μ α s) (within : μ ||| 108942812 = μ := by decide) :
    Fr μ α (imageSelection usable density mode s) := by
  refine Fr.via hyp ?_ within; unfold imageSelection; try dsimp only
  repeat' (first | (with_reducible first | exact Fr.refl _ _ | assumption | refine Fr.ite ?_ ?_ | refine setStaging_fr ?_ | refine selectImage_fr ?_ | refine raiseNode_fr ?_ | refine readCopies_fr ?_ | refine loadPersisted_fr ?_ | refine loadRepairs_fr ?_ | refine State.setOb_fr ?_) | split | with_reducible refine Fr.set_nvm ?_)

theorem joinTimeout_fr {μ : ℕ} {α : State} {h : ℕ} {s : State} (hyp : Fr μ α s) (within : μ ||| 20952 = μ := by decide) :
    Fr μ α (joinTimeout h s) := by
  refine Fr.via hyp ?_ within; unfold joinTimeout; try dsimp only
  repeat' (first | (with_reducible first | exact Fr.refl _ _ | assumption | refine Fr.ite ?_ ?_ | refine refusePort_fr ?_) | split)

theorem journalLost_fr {μ : ℕ} {α : State} {s : State} (hyp : Fr μ α s) (within : μ ||| 67981788 = μ := by decide) :
    Fr μ α (journalLost s) := by
  refine Fr.via hyp ?_ within; unfold journalLost; try dsimp only
  repeat' (first | (with_reducible first | exact Fr.refl _ _ | assumption | refine Fr.ite ?_ ?_ | refine raiseNode_fr ?_ | refine enterHalted_fr ?_) | split)

theorem journalFault_fr {μ : ℕ} {α : State} {copyB : Bool} {s : State} (hyp : Fr μ α s) (within : μ ||| 67981788 = μ := by decide) :
    Fr μ α (journalFault copyB s) := by
  refine Fr.via hyp ?_ within; unfold journalFault; try dsimp only
  repeat' (first | (with_reducible first | exact Fr.refl _ _ | assumption | refine Fr.ite ?_ ?_ | refine State.setOb_fr ?_ | refine raiseNode_fr ?_ | refine State.setPath_fr ?_ | refine singleFault_fr ?_ (fun _ => ?_) | refine journalLost_fr ?_) | split)

theorem restartProc_fr {μ : ℕ} {α : State} {i : ProcId} {s : State} (hyp : Fr μ α s) (within : μ ||| 67982812 = μ := by decide) :
    Fr μ α (restartProc i s) := by
  refine Fr.via hyp ?_ within; unfold restartProc; try dsimp only
  repeat' (first | (with_reducible first | exact Fr.refl _ _ | assumption | refine Fr.ite ?_ ?_ | refine endSessions_fr ?_ | refine raise_fr ?_ | refine singleFault_fr ?_ (fun _ => ?_) | refine enterHalted_fr ?_) | split | with_reducible refine Fr.set_procs ?_)

theorem trimMeasurement_fr {μ : ℕ} {α : State} {plca : Bool} {count : ℕ} {expected : ℕ} {s : State} (hyp : Fr μ α s) (within : μ ||| 16777280 = μ := by decide) :
    Fr μ α (trimMeasurement plca count expected s) := by
  refine Fr.via hyp ?_ within; unfold trimMeasurement; try dsimp only
  repeat' (first | (with_reducible first | exact Fr.refl _ _ | assumption | refine Fr.ite ?_ ?_ | refine State.setClk_fr ?_ | refine State.setOb_fr ?_) | split)

theorem landedBeat_fr {μ : ℕ} {α : State} {t : ℕ} {n : ℕ} {s : State} (hyp : Fr μ α s) (within : μ ||| 70144472 = μ := by decide) :
    Fr μ α (landedBeat t n s) := by
  refine Fr.via hyp ?_ within; unfold landedBeat; try dsimp only
  repeat' (first | (with_reducible first | exact Fr.refl _ _ | assumption | refine Fr.ite ?_ ?_ | refine discardBeat_fr ?_ | refine State.modStream_fr ?_ | refine fire_fr ?_ | refine State.modOld_fr ?_ | refine sweepOld_fr ?_) | split)

theorem layErrclr_fr {μ : ℕ} {α : State} {c : ℕ} {l : ℕ} {all : Bool} {s : State} (hyp : Fr μ α s) (within : μ ||| 512 = μ := by decide) :
    Fr μ α (layErrclr c l all s) := by
  refine Fr.via hyp ?_ within; unfold layErrclr; try dsimp only
  repeat' (first | (with_reducible first | exact Fr.refl _ _ | assumption | refine Fr.ite ?_ ?_ | refine State.setLay_fr ?_ | refine forEach_fr ?_ (fun _ _ => ?_)) | split)

theorem layLbr_fr {μ : ℕ} {α : State} {c : ℕ} {l : ℕ} {s : State} (hyp : Fr μ α s) (within : μ ||| 512 = μ := by decide) :
    Fr μ α (layLbr c l s) := by
  refine Fr.via hyp ?_ within; unfold layLbr; try dsimp only
  repeat' (first | (with_reducible first | exact Fr.refl _ _ | assumption | refine Fr.ite ?_ ?_ | refine State.setDch_fr ?_) | split)

theorem layLbw_fr {μ : ℕ} {α : State} {c : ℕ} {l : ℕ} {preamble : Bool} {burst : ℕ} {s : State} (hyp : Fr μ α s) (within : μ ||| 576 = μ := by decide) :
    Fr μ α (layLbw c l preamble burst s) := by
  refine Fr.via hyp ?_ within; unfold layLbw; try dsimp only
  repeat' (first | (with_reducible first | exact Fr.refl _ _ | assumption | refine Fr.ite ?_ ?_ | refine State.setLay_fr ?_ | refine alertOn_fr ?_) | split)

theorem layPreset_fr {μ : ℕ} {α : State} {c : ℕ} {l : ℕ} {all : Bool} {s : State} (hyp : Fr μ α s) (within : μ ||| 512 = μ := by decide) :
    Fr μ α (layPreset c l all s) := by
  refine Fr.via hyp ?_ within; unfold layPreset; try dsimp only
  repeat' (first | (with_reducible first | exact Fr.refl _ _ | assumption | refine Fr.ite ?_ ?_ | refine State.setLay_fr ?_ | refine forEach_fr ?_ (fun _ _ => ?_)) | split)

theorem layRdp_fr {μ : ℕ} {α : State} {c : ℕ} {l : ℕ} {s : State} (hyp : Fr μ α s) (within : μ ||| 512 = μ := by decide) :
    Fr μ α (layRdp c l s) := by
  refine Fr.via hyp ?_ within; unfold layRdp; try dsimp only
  repeat' (first | (with_reducible first | exact Fr.refl _ _ | assumption | refine Fr.ite ?_ ?_ | refine State.setLay_fr ?_ | refine State.setDch_fr ?_ | refine forEach_fr ?_ (fun _ _ => ?_) | refine foldl_fr ?_ (fun _ _ => ?_) | refine foldl_frS ?_ (fun _ _ => ?_) | refine foldl_frF ?_ (fun _ _ => ?_)) | split)

theorem laySensor_fr {μ : ℕ} {α : State} {st : ℕ} {l : ℕ} {i : ℕ} {code : ℕ} {s : State} (hyp : Fr μ α s) (within : μ ||| 512 = μ := by decide) :
    Fr μ α (laySensor st l i code s) := by
  refine Fr.via hyp ?_ within; unfold laySensor; try dsimp only
  repeat' (first | (with_reducible first | exact Fr.refl _ _ | assumption | refine Fr.ite ?_ ?_ | refine State.setDie_fr ?_ | refine srAdvance_fr ?_ | refine forEach_fr ?_ (fun _ _ => ?_)) | split)

theorem layWrpOne_fr {μ : ℕ} {α : State} {c : ℕ} {burst : ℕ} {l : ℕ} {s : State} (hyp : Fr μ α s) (within : μ ||| 512 = μ := by decide) :
    Fr μ α (layWrpOne c burst l s) := by
  refine Fr.via hyp ?_ within; unfold layWrpOne; try dsimp only
  repeat' (first | (with_reducible first | exact Fr.refl _ _ | assumption | refine Fr.ite ?_ ?_ | refine State.setLay_fr ?_ | refine forEach_fr ?_ (fun _ _ => ?_)) | split)

theorem layWrp_fr {μ : ℕ} {α : State} {c : ℕ} {l : ℕ} {all : Bool} {preamble : Bool} {burst : ℕ} {s : State} (hyp : Fr μ α s) (within : μ ||| 576 = μ := by decide) :
    Fr μ α (layWrp c l all preamble burst s) := by
  refine Fr.via hyp ?_ within; unfold layWrp; try dsimp only
  repeat' (first | (with_reducible first | exact Fr.refl _ _ | assumption | refine Fr.ite ?_ ?_ | refine layWrpOne_fr ?_ | refine alertOn_fr ?_ | refine forEach_fr ?_ (fun _ _ => ?_)) | split)

theorem fillGranule_fr {μ : ℕ} {α : State} {a : ℕ} {code : ℕ} {s : State} (hyp : Fr μ α s) (within : μ ||| 512 = μ := by decide) :
    Fr μ α (fillGranule a code s) := by
  refine Fr.via hyp ?_ within; unfold fillGranule; try dsimp only
  repeat' (first | (with_reducible first | exact Fr.refl _ _ | assumption | refine Fr.ite ?_ ?_ | refine fillRows_fr ?_ | refine forEach_fr ?_ (fun _ _ => ?_)) | split | with_reducible refine Fr.set_dram ?_)

theorem ledgerZeroed_fr {μ : ℕ} {α : State} {s : State} (hyp : Fr μ α s) (within : μ ||| 1049152 = μ := by decide) :
    Fr μ α (ledgerZeroed s) := by
  refine Fr.via hyp ?_ within; unfold ledgerZeroed; try dsimp only
  repeat' (first | (with_reducible first | exact Fr.refl _ _ | assumption | refine Fr.ite ?_ ?_ | refine State.setFar_fr ?_ | refine openFar_fr ?_ | refine fillGranule_fr ?_ | refine forEach_fr ?_ (fun _ _ => ?_)) | split)

theorem linkSilent_fr {μ : ℕ} {α : State} {h : ℕ} {s : State} (hyp : Fr μ α s) (within : μ ||| 71258588 = μ := by decide) :
    Fr μ α (linkSilent h s) := by
  refine Fr.via hyp ?_ within; unfold linkSilent; try dsimp only
  repeat' (first | (with_reducible first | exact Fr.refl _ _ | assumption | refine Fr.ite ?_ ?_ | refine State.setPort_fr ?_ | refine setOwnLink_fr ?_ | refine checkLoss_fr ?_) | split)

theorem linksTaken_fr {μ : ℕ} {α : State} {origin : ℕ} {links : ℕ} {s : State} (hyp : Fr μ α s) (within : μ ||| 71258588 = μ := by decide) :
    Fr μ α (linksTaken origin links s) := by
  refine Fr.via hyp ?_ within; unfold linksTaken; try dsimp only
  repeat' (first | (with_reducible first | exact Fr.refl _ _ | assumption | refine Fr.ite ?_ ?_ | refine State.setSet_fr ?_ | refine computeRoutes_fr ?_ | refine checkLoss_fr ?_) | split)

theorem raiseShort_fr {μ : ℕ} {α : State} {h : ℕ} {before : ℕ} {s : State} (hyp : Fr μ α s) (within : μ ||| 20696 = μ := by decide) :
    Fr μ α (raiseShort h before s) := by
  refine Fr.via hyp ?_ within; unfold raiseShort; try dsimp only
  repeat' (first | (with_reducible first | exact Fr.refl _ _ | assumption | refine Fr.ite ?_ ?_ | refine raise_fr ?_ | refine forEach_fr ?_ (fun _ _ => ?_)) | split)

theorem trainingDone_fr {μ : ℕ} {α : State} {h : ℕ} {modules : ℕ} {s : State} (hyp : Fr μ α s) (within : μ ||| 20952 = μ := by decide) :
    Fr μ α (trainingDone h modules s) := by
  refine Fr.via hyp ?_ within; unfold trainingDone; try dsimp only
  repeat' (first | (with_reducible first | exact Fr.refl _ _ | assumption | refine Fr.ite ?_ ?_ | refine State.send_fr ?_ | refine sendLink_fr ?_ | refine raise_fr ?_ | refine raiseShort_fr ?_ | refine State.setPort_fr ?_ | refine refusePort_fr ?_) | split)

theorem showLogic_fr {μ : ℕ} {α : State} {s : State} (hyp : Fr μ α s) (within : μ ||| 64 = μ := by decide) :
    Fr μ α (showLogic s) := by
  refine Fr.via hyp ?_ within; unfold showLogic; try dsimp only
  repeat' (first | (with_reducible first | exact Fr.refl _ _ | assumption | refine Fr.ite ?_ ?_ | refine State.setOb_fr ?_ | refine foldl_fr ?_ (fun _ _ => ?_) | refine foldl_frS ?_ (fun _ _ => ?_) | refine foldl_frF ?_ (fun _ _ => ?_)) | split)

theorem readLogic_fr {μ : ℕ} {α : State} {codes : List ℕ} {s : State} (hyp : Fr μ α s) (within : μ ||| 4215000 = μ := by decide) :
    Fr μ α (readLogic codes s) := by
  refine Fr.via hyp ?_ within; unfold readLogic; try dsimp only
  repeat' (first | (with_reducible first | exact Fr.refl _ _ | assumption | refine Fr.ite ?_ ?_ | refine State.setHeat_fr ?_ | refine raiseNode_fr ?_ | refine showLogic_fr ?_ | refine noteCool_fr ?_ | refine takeReading_fr ?_ | refine noReading_fr ?_ | refine forEach_fr ?_ (fun _ _ => ?_)) | split)

theorem marginDone_fr {μ : ℕ} {α : State} {c : ℕ} {low : ℕ} {high : ℕ} {worst : ℕ} {errors : ℕ} {late : Bool} {s : State} (hyp : Fr μ α s) (within : μ ||| 8409304 = μ := by decide) :
    Fr μ α (marginDone c low high worst errors late s) := by
  refine Fr.via hyp ?_ within; unfold marginDone; try dsimp only
  repeat' (first | (with_reducible first | exact Fr.refl _ _ | assumption | refine Fr.ite ?_ ?_ | refine State.modTr_fr ?_ | refine State.setOb_fr ?_ | refine wantSteer_fr ?_ | refine raise_fr ?_) | split)

theorem takeMasks_fr {μ : ℕ} {α : State} {n : ℕ} {s : State} (hyp : Fr μ α s) (within : μ ||| 393216 = μ := by decide) :
    Fr μ α (takeMasks n s) := by
  refine Fr.via hyp ?_ within; unfold takeMasks; try dsimp only
  repeat' (first | (with_reducible first | exact Fr.refl _ _ | assumption | refine Fr.ite ?_ ?_ | refine State.modStream_fr ?_ | refine takeInternal_fr ?_ | refine forEach_fr ?_ (fun _ _ => ?_)) | split)

theorem tellReturning_fr {μ : ℕ} {α : State} {node : ℕ} {s : State} (hyp : Fr μ α s) (within : μ ||| 20952 = μ := by decide) :
    Fr μ α (tellReturning node s) := by
  refine Fr.via hyp ?_ within; unfold tellReturning; try dsimp only
  repeat' (first | (with_reducible first | exact Fr.refl _ _ | assumption | refine Fr.ite ?_ ?_ | refine sendControl_fr ?_ | refine State.setSet_fr ?_ | refine computeRoutes_fr ?_) | split)

theorem missingBeats_fr {μ : ℕ} {α : State} {c : ℕ} {s : State} (hyp : Fr μ α s) (within : μ ||| 4456512 = μ := by decide) :
    Fr μ α (missingBeats c s) := by
  refine Fr.via hyp ?_ within; unfold missingBeats; try dsimp only
  repeat' (first | (with_reducible first | exact Fr.refl _ _ | assumption | refine Fr.ite ?_ ?_ | refine failFlight_fr ?_ | refine State.modChan_fr ?_ | refine redoTemp_fr ?_ | refine State.bump_fr ?_) | split)

theorem noticeTaken_fr {μ : ℕ} {α : State} {object : ℕ} {value : ℕ} {s : State} (hyp : Fr μ α s) (within : μ ||| 131072 = μ := by decide) :
    Fr μ α (noticeTaken object value s) := by
  refine Fr.via hyp ?_ within; unfold noticeTaken; try dsimp only
  repeat' (first | (with_reducible first | exact Fr.refl _ _ | assumption | refine Fr.ite ?_ ?_) | split | with_reducible refine Fr.set_feeds ?_)

theorem notifyNext_fr {μ : ℕ} {α : State} {n : ℕ} {s : State} (hyp : Fr μ α s) (within : μ ||| 16576 = μ := by decide) :
    Fr μ α (notifyNext n s) := by
  refine Fr.via hyp ?_ within; unfold notifyNext; try dsimp only
  repeat' (first | (with_reducible first | exact Fr.refl _ _ | assumption | refine Fr.ite ?_ ?_ | refine State.setNotifyQ_fr ?_ | refine sendNotify_fr ?_) | split)

theorem noteOrder_fr {μ : ℕ} {α : State} {lead : ℕ} {order : ℕ} {low : ℕ} {idx : ℕ} {sub : ℕ} {value : List Byte} {s : State} (hyp : Fr μ α s) (within : μ ||| 128 = μ := by decide) :
    Fr μ α (noteOrder lead order low idx sub value s) := by
  refine Fr.via hyp ?_ within; unfold noteOrder; try dsimp only
  repeat' (first | (with_reducible first | exact Fr.refl _ _ | assumption | refine Fr.ite ?_ ?_ | refine State.setWrites_fr ?_) | split)

theorem reconcileSet_fr {μ : ℕ} {α : State} {idx : ℕ} {sub : ℕ} {value : List Byte} {s : State} (hyp : Fr μ α s) (within : μ ||| 68506072 = μ := by decide) :
    Fr μ α (reconcileSet idx sub value s) := by
  refine Fr.via hyp ?_ within; unfold reconcileSet; try dsimp only
  repeat' (first | (with_reducible first | exact Fr.refl _ _ | assumption | refine Fr.ite ?_ ?_ | refine applySetting_fr ?_ | refine State.setOb_fr ?_ | refine loadSampler_fr ?_ | refine writePolicy_fr ?_ | refine persistOwn_fr ?_ | refine raise_fr ?_) | split)

theorem wholeWrite_fr {μ : ℕ} {α : State} {hdr : Hdr} {idx : ℕ} {sub : ℕ} {order : ℕ} {value : List Byte} {s : State} (hyp : Fr μ α s) (within : μ ||| 134184956 = μ := by decide) :
    Fr μ α (wholeWrite hdr idx sub order value s) := by
  refine Fr.via hyp ?_ within; unfold wholeWrite; try dsimp only
  repeat' (first | (with_reducible first | exact Fr.refl _ _ | assumption | refine Fr.ite ?_ ?_ | refine noteOrder_fr ?_ | refine settle_fr ?_ (within := sub_of within (by decide)) | refine settle_fr ?_ | refine complete_fr ?_ | refine leadOrder_fr ?_ (fun _ _ => ?_) | refine reconcileSet_fr ?_ | refine carriedHome_fr ?_ | refine FrW.of_done (carriedHome_fr ?_) (by assumption) | refine FrW.of_refused (carriedHome_fr ?_) (by assumption) | refine FrW.of_wait (carriedHome_fr ?_) (by assumption)) | split)

theorem objectTaken_fr {μ : ℕ} {α : State} {hdr : Hdr} {idx : ℕ} {sub : ℕ} {order : ℕ} {value : List Byte} {s : State} (hyp : Fr μ α s) (within : μ ||| 134184956 = μ := by decide) :
    Fr μ α (objectTaken hdr idx sub order value s) := by
  refine Fr.via hyp ?_ within; unfold objectTaken; try dsimp only
  repeat' (first | (with_reducible first | exact Fr.refl _ _ | assumption | refine Fr.ite ?_ ?_ | refine State.setWrites_fr ?_ | refine wholeWrite_fr ?_) | split)

theorem expireAsk_fr {μ : ℕ} {α : State} {q : Ask} {s : State} (hyp : Fr μ α s) (within : μ ||| 67391960 = μ := by decide) :
    Fr μ α (expireAsk q s) := by
  refine Fr.via hyp ?_ within; unfold expireAsk; try dsimp only
  repeat' (first | (with_reducible first | exact Fr.refl _ _ | assumption | refine Fr.ite ?_ ?_ | refine refuseLater_fr ?_ | refine syncQueues_fr ?_ | refine raise_fr ?_ | refine State.bump_fr ?_ | refine raiseNode_fr ?_ | refine degrade_fr ?_) | split)

theorem placeRead_fr {μ : ℕ} {α : State} {q : Ask} {s : State} (hyp : Fr μ α s) (within : μ ||| 67371072 = μ := by decide) :
    Fr μ α (placeRead q s) := by
  refine Fr.via hyp ?_ within; unfold placeRead; try dsimp only
  repeat' (first | (with_reducible first | exact Fr.refl _ _ | assumption | refine Fr.ite ?_ ?_ | refine noteEntry_fr ?_ | refine countHit_fr ?_ | refine pushRead_fr ?_) | split)

theorem writeThroughCache_fr {μ : ℕ} {α : State} {q : Ask} {mask : ℕ} {data : ℕ} {info : ℕ} {s : State} (hyp : Fr μ α s) (within : μ ||| 67916248 = μ := by decide) :
    Fr μ α (writeThroughCache q mask data info s) := by
  refine Fr.via hyp ?_ within; unfold writeThroughCache; try dsimp only
  repeat' (first | (with_reducible first | exact Fr.refl _ _ | assumption | refine Fr.ite ?_ ?_ | refine allocWrite_fr ?_ | refine countHit_fr ?_ | refine State.setWay_fr ?_ | refine countIf_fr ?_) | split)

theorem placeWrite_fr {μ : ℕ} {α : State} {q : Ask} {s : State} (hyp : Fr μ α s) (within : μ ||| 68964824 = μ := by decide) :
    Fr μ α (placeWrite q s) := by
  refine Fr.via hyp ?_ within; unfold placeWrite; try dsimp only
  repeat' (first | (with_reducible first | exact Fr.refl _ _ | assumption | refine Fr.ite ?_ ?_ | refine pushWrite_fr ?_ | refine wholePlaced_fr ?_ | refine State.modAsk_fr ?_ | refine writeThroughCache_fr ?_ | refine absorbWrite_fr ?_) | split)

theorem grantEntry_fr {μ : ℕ} {α : State} {q : Ask} {write : Bool} {s : State} (hyp : Fr μ α s) (within : μ ||| 68964824 = μ := by decide) :
    Fr μ α (grantEntry q write s) := by
  refine Fr.via hyp ?_ within; unfold grantEntry; try dsimp only
  repeat' (first | (with_reducible first | exact Fr.refl _ _ | assumption | refine Fr.ite ?_ ?_ | refine placeRead_fr ?_ | refine grant_fr ?_ (fun _ => ?_) | refine placeWrite_fr ?_ | refine serveHit_fr ?_ | refine refuseLater_fr ?_ | refine State.modAsk_fr ?_) | split)

theorem grantOne_fr {μ : ℕ} {α : State} {c : ℕ} {write : Bool} {s : State} (hyp : Fr μ α s) (within : μ ||| 71193048 = μ := by decide) :
    Fr μ α (grantOne c write s) := by
  refine Fr.via hyp ?_ within; unfold grantOne; try dsimp only
  repeat' (first | (with_reducible first | exact Fr.refl _ _ | assumption | refine Fr.ite ?_ ?_ | refine syncWfq_fr ?_ | refine serveAll_fr ?_ | refine State.setWfq_fr ?_ | refine grantEntry_fr ?_) | split)

theorem grantAll_fr {μ : ℕ} {α : State} {c : ℕ} {write : Bool} {s : State} (hyp : Fr μ α s) (within : μ ||| 71193048 = μ := by decide) :
    Fr μ α (grantAll c write s) := by
  refine Fr.via hyp ?_ within; unfold grantAll; try dsimp only
  repeat' (first | (with_reducible first | exact Fr.refl _ _ | assumption | refine Fr.ite ?_ ?_ | refine grantOne_fr ?_ | refine forEach_fr ?_ (fun _ _ => ?_)) | split)

theorem expireHolds_fr {μ : ℕ} {α : State} {s : State} (hyp : Fr μ α s) (within : μ ||| 71193048 = μ := by decide) :
    Fr μ α (expireHolds s) := by
  refine Fr.via hyp ?_ within; unfold expireHolds; try dsimp only
  repeat' (first | (with_reducible first | exact Fr.refl _ _ | assumption | refine Fr.ite ?_ ?_ | refine expireAsk_fr ?_ | refine serveAll_fr ?_ | refine grantAll_fr ?_ | refine forEach_fr ?_ (fun _ _ => ?_)) | split)

theorem takePanic_fr {μ : ℕ} {α : State} {p : ℕ} {level : ℕ} {s : State} (hyp : Fr μ α s) (within : μ ||| 262208 = μ := by decide) :
    Fr μ α (takePanic p level s) := by
  refine Fr.via hyp ?_ within; unfold takePanic; try dsimp only
  repeat' (first | (with_reducible first | exact Fr.refl _ _ | assumption | refine Fr.ite ?_ ?_ | refine State.bump_fr ?_ | refine State.setOb_fr ?_ | refine State.setPanic_fr ?_) | split)

theorem launch_fr {μ : ℕ} {α : State} {h : ℕ} {q : Parcel} {s : State} (hyp : Fr μ α s) (within : μ ||| 16704 = μ := by decide) :
    Fr μ α (launch h q s) := by
  refine Fr.via hyp ?_ within; unfold launch; try dsimp only
  repeat' (first | (with_reducible first | exact Fr.refl _ _ | assumption | refine Fr.ite ?_ ?_ | refine State.setPort_fr ?_ | refine State.bumpBy_fr ?_ | refine State.send_fr ?_ | refine State.bump_fr ?_) | split)

theorem noteWait_fr {μ : ℕ} {α : State} {h : ℕ} {q : Parcel} {s : State} (hyp : Fr μ α s) (within : μ ||| 320 = μ := by decide) :
    Fr μ α (noteWait h q s) := by
  refine Fr.via hyp ?_ within; unfold noteWait; try dsimp only
  repeat' (first | (with_reducible first | exact Fr.refl _ _ | assumption | refine Fr.ite ?_ ?_ | refine State.bump_fr ?_ | refine State.setPort_fr ?_ | refine countIf_fr ?_) | split)

theorem settleRoutes_fr {μ : ℕ} {α : State} {h : ℕ} {s : State} (hyp : Fr μ α s) (within : μ ||| 320 = μ := by decide) :
    Fr μ α (settleRoutes h s) := by
  refine Fr.via hyp ?_ within; unfold settleRoutes; try dsimp only
  repeat' (first | (with_reducible first | exact Fr.refl _ _ | assumption | refine Fr.ite ?_ ?_ | refine reissue_fr ?_ | refine peerBack_fr ?_ | refine forEach_fr ?_ (fun _ _ => ?_)) | split)

theorem transmit_fr {μ : ℕ} {α : State} {h : ℕ} {s : State} (hyp : Fr μ α s) (within : μ ||| 16704 = μ := by decide) :
    Fr μ α (transmit h s) := by
  refine Fr.via hyp ?_ within; unfold transmit; try dsimp only
  repeat' (first | (with_reducible first | exact Fr.refl _ _ | assumption | refine Fr.ite ?_ ?_ | refine State.peak_fr ?_ | refine countParcel_fr ?_ | refine launch_fr ?_ | refine State.setPort_fr ?_ | refine State.bump_fr ?_ | refine countIf_fr ?_ | refine count_fr ?_ | refine noteWait_fr ?_ | refine settleRoutes_fr ?_ | refine forEach_fr ?_ (fun _ _ => ?_)) | split)

theorem memberHeard_fr {μ : ℕ} {α : State} {node : ℕ} {state : ℕ} {s : State} (hyp : Fr μ α s) (within : μ ||| 86488 = μ := by decide) :
    Fr μ α (memberHeard node state s) := by
  refine Fr.via hyp ?_ within; unfold memberHeard; try dsimp only
  repeat' (first | (with_reducible first | exact Fr.refl _ _ | assumption | refine Fr.ite ?_ ?_ | refine computeRoutes_fr ?_ | refine breakContinuity_fr ?_ | refine State.setSet_fr ?_) | split)

theorem partnerHeard_fr {μ : ℕ} {α : State} {address : ℕ} {period : ℕ} {s : State} (hyp : Fr μ α s) (within : μ ||| 20696 = μ := by decide) :
    Fr μ α (partnerHeard address period s) := by
  refine Fr.via hyp ?_ within; unfold partnerHeard; try dsimp only
  repeat' (first | (with_reducible first | exact Fr.refl _ _ | assumption | refine Fr.ite ?_ ?_ | refine raiseNode_fr ?_ | refine State.setOb_fr ?_) | split | with_reducible refine Fr.set_mgmt ?_)

theorem refusePlan_fr {μ : ℕ} {α : State} {f : PlanFault} {s : State} (hyp : Fr μ α s) (within : μ ||| 67457240 = μ := by decide) :
    Fr μ α (refusePlan f s) := by
  refine Fr.via hyp ?_ within; unfold refusePlan; try dsimp only
  repeat' (first | (with_reducible first | exact Fr.refl _ _ | assumption | refine Fr.ite ?_ ?_ | refine raiseNode_fr ?_ | refine setPlanState_fr ?_ | refine State.setOb_fr ?_ | refine State.setPlans_fr ?_ | refine dropImage_fr ?_) | split)

theorem noteFormatFault_fr {μ : ℕ} {α : State} {img : List Byte} {f : PlanFault} {s : State} (hyp : Fr μ α s) (within : μ ||| 64 = μ := by decide) :
    Fr μ α (noteFormatFault img f s) := by
  refine Fr.via hyp ?_ within; unfold noteFormatFault; try dsimp only
  repeat' (first | (with_reducible first | exact Fr.refl _ _ | assumption | refine Fr.ite ?_ ?_ | refine recordCheck_fr ?_) | split)

theorem imageChecked_fr {μ : ℕ} {α : State} {other : Option PlanFault} {s : State} (hyp : Fr μ α s) (within : μ ||| 67457240 = μ := by decide) :
    Fr μ α (imageChecked other s) := by
  refine Fr.via hyp ?_ within; unfold imageChecked; try dsimp only
  repeat' (first | (with_reducible first | exact Fr.refl _ _ | assumption | refine Fr.ite ?_ ?_ | refine setPlanState_fr ?_ | refine State.setOb_fr ?_ | refine raiseNode_fr ?_ | refine State.setPlans_fr ?_ | refine dropImage_fr ?_ | refine refusePlan_fr ?_ | refine noteFormatFault_fr ?_) | split)

theorem rejoinChecked.bad_fr {μ : ℕ} {α : State} {s : State} (hyp : Fr μ α s) (within : μ ||| 67371076 = μ := by decide) :
    Fr μ α (rejoinChecked.bad s) := by
  refine Fr.via hyp ?_ within; unfold rejoinChecked.bad; try dsimp only
  repeat' (first | (with_reducible first | exact Fr.refl _ _ | assumption | refine Fr.ite ?_ ?_ | refine State.setOb_fr ?_ | refine dropImage_fr ?_) | split | with_reducible refine Fr.set_power ?_)

theorem rejoinChecked.passed_fr {μ : ℕ} {α : State} {p : Option Plan} {s : State} (hyp : Fr μ α s) (within : μ ||| 67436548 = μ := by decide) :
    Fr μ α (rejoinChecked.passed p s) := by
  refine Fr.via hyp ?_ within; unfold rejoinChecked.passed; try dsimp only
  repeat' (first | (with_reducible first | exact Fr.refl _ _ | assumption | refine Fr.ite ?_ ?_ | refine dropImage_fr ?_) | split | with_reducible refine Fr.set_power_plans ?_)

theorem rejoinChecked_fr {μ : ℕ} {α : State} {id : ℕ} {crc : ℕ} {s : State} (hyp : Fr μ α s) (within : μ ||| 71258588 = μ := by decide) :
    Fr μ α (rejoinChecked id crc s) := by
  refine Fr.via hyp ?_ within; unfold rejoinChecked; try dsimp only
  repeat' (first | (with_reducible first | exact Fr.refl _ _ | assumption | refine Fr.ite ?_ ?_ | refine readImage_fr ?_ | refine rejoinChecked.bad_fr ?_ | refine rejoinChecked.passed_fr ?_) | split)

theorem portReady_fr {μ : ℕ} {α : State} {t : ℕ} {s : State} (hyp : Fr μ α s) (within : μ ||| 131136 = μ := by decide) :
    Fr μ α (portReady t s) := by
  refine Fr.via hyp ?_ within; unfold portReady; try dsimp only
  repeat' (first | (with_reducible first | exact Fr.refl _ _ | assumption | refine Fr.ite ?_ ?_ | refine setPortState_fr ?_ | refine State.setFeeds_fr ?_) | split)

theorem powerOn_fr {μ : ℕ} {α : State} {s : State} (hyp : Fr μ α s) (within : μ ||| 134158332 = μ := by decide) :
    Fr μ α (powerOn s) := by
  refine Fr.via hyp ?_ within; unfold powerOn; try dsimp only
  repeat' (first | (with_reducible first | exact Fr.refl _ _ | assumption | refine Fr.ite ?_ ?_ | refine coldState_fr ?_) | split)

theorem takePowerWarn_fr {μ : ℕ} {α : State} {level : Bool} {s : State} (hyp : Fr μ α s) (within : μ ||| 16 = μ := by decide) :
    Fr μ α (takePowerWarn level s) := by
  refine Fr.via hyp ?_ within; unfold takePowerWarn; try dsimp only
  repeat' (first | (with_reducible first | exact Fr.refl _ _ | assumption | refine Fr.ite ?_ ?_) | split | with_reducible refine Fr.set_pins ?_)

theorem takePrepare_fr {μ : ℕ} {α : State} {f : ℕ} {plan : ℕ} {s : State} (hyp : Fr μ α s) (within : μ ||| 65856 = μ := by decide) :
    Fr μ α (takePrepare f plan s) := by
  refine Fr.via hyp ?_ within; unfold takePrepare; try dsimp only
  repeat' (first | (with_reducible first | exact Fr.refl _ _ | assumption | refine Fr.ite ?_ ?_ | refine sendControl_fr ?_ | refine State.setOb_fr ?_ | refine State.setPlans_fr ?_) | split)

theorem flushStaged_fr {μ : ℕ} {α : State} {s : State} (hyp : Fr μ α s) (within : μ ||| 20696 = μ := by decide) :
    Fr μ α (flushStaged s) := by
  refine Fr.via hyp ?_ within; unfold flushStaged; try dsimp only
  repeat' (first | (with_reducible first | exact Fr.refl _ _ | assumption | refine Fr.ite ?_ ?_ | refine raiseNode_fr ?_ | refine logEvent_fr ?_ | refine forEach_fr ?_ (fun _ _ => ?_)) | split | with_reducible refine Fr.set_procs ?_)

theorem procBack_fr {μ : ℕ} {α : State} {i : ProcId} {s : State} (hyp : Fr μ α s) (within : μ ||| 78533592 = μ := by decide) :
    Fr μ α (procBack i s) := by
  refine Fr.via hyp ?_ within; unfold procBack; try dsimp only
  repeat' (first | (with_reducible first | exact Fr.refl _ _ | assumption | refine Fr.ite ?_ ?_ | refine startHard_fr ?_ | refine flushStaged_fr ?_ | refine fenceContext_fr ?_ | refine forEach_fr ?_ (fun _ _ => ?_)) | split | with_reducible refine Fr.set_procs_train ?_ | with_reducible refine Fr.set_train ?_ | with_reducible refine Fr.set_procs ?_)

theorem resetQos_fr {μ : ℕ} {α : State} {kind : ℕ} {n : ℕ} {s : State} (hyp : Fr μ α s) (within : μ ||| 262208 = μ := by decide) :
    Fr μ α (resetQos kind n s) := by
  refine Fr.via hyp ?_ within; unfold resetQos; try dsimp only
  repeat' (first | (with_reducible first | exact Fr.refl _ _ | assumption | refine Fr.ite ?_ ?_ | refine State.setPath_fr ?_ | refine State.setOb_fr ?_ | refine stopWindow_fr ?_ | refine setShaper_fr ?_ | refine fillMeter_fr ?_) | split)

theorem putStored_fr {μ : ℕ} {α : State} {c : ℕ} {a : ℕ} {l : ℕ × ℕ} {s : State} (hyp : Fr μ α s) (within : μ ||| 512 = μ := by decide) :
    Fr μ α (putStored c a l s) := by
  refine Fr.via hyp ?_ within; unfold putStored; try dsimp only
  repeat' (first | (with_reducible first | exact Fr.refl _ _ | assumption | refine Fr.ite ?_ ?_) | split | with_reducible refine Fr.set_dram ?_)

theorem fillFailed_fr {μ : ℕ} {α : State} {c : ℕ} {a : ℕ} {restored : Bool} {s : State} (hyp : Fr μ α s) (within : μ ||| 20696 = μ := by decide) :
    Fr μ α (fillFailed c a restored s) := by
  refine Fr.via hyp ?_ within; unfold fillFailed; try dsimp only
  repeat' (first | (with_reducible first | exact Fr.refl _ _ | assumption | refine Fr.ite ?_ ?_ | refine State.setOb_fr ?_ | refine State.bump_fr ?_ | refine raiseAt_fr ?_) | split)

theorem fillSpare_fr {μ : ℕ} {α : State} {b : Rebuild} {s : State} (hyp : Fr μ α s) (within : μ ||| 70144984 = μ := by decide) :
    Fr μ α (fillSpare b s) := by
  refine Fr.via hyp ?_ within; unfold fillSpare; try dsimp only
  repeat' (first | (with_reducible first | exact Fr.refl _ _ | assumption | refine Fr.ite ?_ ?_ | refine signalObject_fr ?_ | refine raise_fr ?_ | refine putStored_fr ?_ | refine fillRows_fr ?_ | refine fillFailed_fr ?_ | refine forEach_fr ?_ (fun _ _ => ?_)) | split)

theorem reconstitutionDone_fr {μ : ℕ} {α : State} {s : State} (hyp : Fr μ α s) (within : μ ||| 70144984 = μ := by decide) :
    Fr μ α (reconstitutionDone s) := by
  refine Fr.via hyp ?_ within; unfold reconstitutionDone; try dsimp only
  repeat' (first | (with_reducible first | exact Fr.refl _ _ | assumption | refine Fr.ite ?_ ?_ | refine State.setOb_fr ?_ | refine State.setPath_fr ?_ | refine fillSpare_fr ?_) | split)

theorem reduceTimeouts_fr {μ : ℕ} {α : State} {s : State} (hyp : Fr μ α s) (within : μ ||| 70144472 = μ := by decide) :
    Fr μ α (reduceTimeouts s) := by
  refine Fr.via hyp ?_ within; unfold reduceTimeouts; try dsimp only
  repeat' (first | (with_reducible first | exact Fr.refl _ _ | assumption | refine Fr.ite ?_ ?_ | refine breakRed_fr ?_ | refine forEach_fr ?_ (fun _ _ => ?_)) | split)

theorem refBAbsent_fr {μ : ℕ} {α : State} {s : State} (hyp : Fr μ α s) (within : μ ||| 16777280 = μ := by decide) :
    Fr μ α (refBAbsent s) := by
  refine Fr.via hyp ?_ within; unfold refBAbsent; try dsimp only
  repeat' (first | (with_reducible first | exact Fr.refl _ _ | assumption | refine Fr.ite ?_ ?_ | refine State.setSource_fr ?_ | refine State.setOb_fr ?_) | split)

theorem startWindow_fr {μ : ℕ} {α : State} {r : ℕ} {first : Bool} {s : State} (hyp : Fr μ α s) (within : μ ||| 262208 = μ := by decide) :
    Fr μ α (startWindow r first s) := by
  refine Fr.via hyp ?_ within; unfold startWindow; try dsimp only
  repeat' (first | (with_reducible first | exact Fr.refl _ _ | assumption | refine Fr.ite ?_ ?_ | refine State.setRegWindow_fr ?_ | refine State.setOb_fr ?_) | split)

theorem nodeReturns_fr {μ : ℕ} {α : State} {node : ℕ} {s : State} (hyp : Fr μ α s) (within : μ ||| 20952 = μ := by decide) :
    Fr μ α (nodeReturns node s) := by
  refine Fr.via hyp ?_ within; unfold nodeReturns; try dsimp only
  repeat' (first | (with_reducible first | exact Fr.refl _ _ | assumption | refine Fr.ite ?_ ?_ | refine State.setSet_fr ?_ | refine computeRoutes_fr ?_) | split)

theorem requestTaken_fr {μ : ℕ} {α : State} {h : ℕ} {hdr : Hdr} {body : List Byte} {s : State} (hyp : Fr μ α s) (within : μ ||| 71193048 = μ := by decide) :
    Fr μ α (requestTaken h hdr body s) := by
  refine Fr.via hyp ?_ within; unfold requestTaken; try dsimp only
  repeat' (first | (with_reducible first | exact Fr.refl _ _ | assumption | refine Fr.ite ?_ ?_ | refine serveAll_fr ?_ | refine sendParcel_fr ?_ | refine arrive_fr ?_) | split)

theorem toWrite_fr {μ : ℕ} {α : State} {c : ℕ} {num : ℕ} {l : ℕ × ℕ} {heal : Bool} {s : State} (hyp : Fr μ α s) (within : μ ||| 262144 = μ := by decide) :
    Fr μ α (toWrite c num l heal s) := by
  refine Fr.via hyp ?_ within; unfold toWrite; try dsimp only
  repeat' (first | (with_reducible first | exact Fr.refl _ _ | assumption | refine Fr.ite ?_ ?_ | refine modRec_fr ?_) | split)

theorem takeWeak_fr {μ : ℕ} {α : State} {c : ℕ} {w : Weak} {s : State} (hyp : Fr μ α s) (within : μ ||| 282840 = μ := by decide) :
    Fr μ α (takeWeak c w s) := by
  refine Fr.via hyp ?_ within; unfold takeWeak; try dsimp only
  repeat' (first | (with_reducible first | exact Fr.refl _ _ | assumption | refine Fr.ite ?_ ?_ | refine State.bump_fr ?_ | refine raise_fr ?_ | refine setWeak_fr ?_) | split)

theorem trackRewritten_fr {μ : ℕ} {α : State} {c : ℕ} {line : ℕ} {s : State} (hyp : Fr μ α s) (within : μ ||| 282840 = μ := by decide) :
    Fr μ α (trackRewritten c line s) := by
  refine Fr.via hyp ?_ within; unfold trackRewritten; try dsimp only
  repeat' (first | (with_reducible first | exact Fr.refl _ _ | assumption | refine Fr.ite ?_ ?_ | refine healedNow_fr ?_ | refine takeWeak_fr ?_) | split)

theorem notifyLine_fr {μ : ℕ} {α : State} {r : ℕ} {g : Region} {a : ℕ} {cause : ℕ} {s : State} (hyp : Fr μ α s) (within : μ ||| 70144472 = μ := by decide) :
    Fr μ α (notifyLine r g a cause s) := by
  refine Fr.via hyp ?_ within; unfold notifyLine; try dsimp only
  repeat' (first | (with_reducible first | exact Fr.refl _ _ | assumption | refine Fr.ite ?_ ?_ | refine offerInternal_fr ?_ | refine State.setOb_fr ?_ | refine signalObject_fr ?_ | refine State.bump_fr ?_ | refine raise_fr ?_) | split)

theorem poisonRec_fr {μ : ℕ} {α : State} {c : ℕ} {r : Rec} {cause : ℕ} {s : State} (hyp : Fr μ α s) (within : μ ||| 71193048 = μ := by decide) :
    Fr μ α (poisonRec c r cause s) := by
  refine Fr.via hyp ?_ within; unfold poisonRec; try dsimp only
  repeat' (first | (with_reducible first | exact Fr.refl _ _ | assumption | refine Fr.ite ?_ ?_ | refine toWrite_fr ?_ | refine deliverRec_fr ?_ | refine trackRewritten_fr ?_ | refine notifyLine_fr ?_ | refine raiseEvent_fr ?_ | refine State.bump_fr ?_ | refine raiseAt_fr ?_ | refine State.setOb_fr ?_) | split)

theorem rereadFailed_fr {μ : ℕ} {α : State} {c : ℕ} {r : Rec} {s : State} (hyp : Fr μ α s) (within : μ ||| 71193048 = μ := by decide) :
    Fr μ α (rereadFailed c r s) := by
  refine Fr.via hyp ?_ within; unfold rereadFailed; try dsimp only
  repeat' (first | (with_reducible first | exact Fr.refl _ _ | assumption | refine Fr.ite ?_ ?_ | refine poisonRec_fr ?_ | refine farRead_fr ?_ | refine countAccess_fr ?_ | refine endRestore_fr ?_ | refine modRec_fr ?_) | split)

theorem trackOk_fr {μ : ℕ} {α : State} {c : ℕ} {line : ℕ} {s : State} (hyp : Fr μ α s) (within : μ ||| 282840 = μ := by decide) :
    Fr μ α (trackOk c line s).2 := by
  refine Fr.via hyp ?_ within; unfold trackOk; try dsimp only
  repeat' (first | (with_reducible first | exact Fr.refl _ _ | assumption | refine Fr.ite ?_ ?_ | refine setWeak_fr ?_ | refine takeWeak_fr ?_) | split)

theorem rereadPassed_fr {μ : ℕ} {α : State} {c : ℕ} {r : Rec} {l : ℕ × ℕ} {s : State} (hyp : Fr μ α s) (within : μ ||| 71193048 = μ := by decide) :
    Fr μ α (rereadPassed c r l s) := by
  refine Fr.via hyp ?_ within; unfold rereadPassed; try dsimp only
  repeat' (first | (with_reducible first | exact Fr.refl _ _ | assumption | refine Fr.ite ?_ ?_ | refine freeRec_fr ?_ | refine toWrite_fr ?_ | refine deliverRec_fr ?_ | refine trackOk_fr ?_ | refine fr_snd (by assumption) (trackOk_fr ?_) | refine State.bump_fr ?_ | refine raiseAt_fr ?_) | split)

theorem rereadBack_fr {μ : ℕ} {α : State} {c : ℕ} {f : Flight} {s : State} (hyp : Fr μ α s) (within : μ ||| 71193048 = μ := by decide) :
    Fr μ α (rereadBack c f s) := by
  refine Fr.via hyp ?_ within; unfold rereadBack; try dsimp only
  repeat' (first | (with_reducible first | exact Fr.refl _ _ | assumption | refine Fr.ite ?_ ?_ | refine rereadFailed_fr ?_ | refine rereadPassed_fr ?_ | refine dropFlight_fr ?_) | split)

theorem rested_fr {μ : ℕ} {α : State} {s : State} (hyp : Fr μ α s) (within : μ ||| 17323484 = μ := by decide) :
    Fr μ α (rested s) := by
  refine Fr.via hyp ?_ within; unfold rested; try dsimp only
  repeat' (first | (with_reducible first | exact Fr.refl _ _ | assumption | refine Fr.ite ?_ ?_ | refine beginWake_fr ?_ | refine raiseNode_fr ?_ | refine State.setPower_fr ?_ | refine State.setOb_fr ?_ | refine setDomain_fr ?_ | refine State.setClk_fr ?_ | refine State.setPort_fr ?_ | refine State.setCache_fr ?_ | refine State.setSec_fr ?_ | refine stopProcs_fr ?_ | refine forEach_fr ?_ (fun _ _ => ?_)) | split)

theorem restStep_fr {μ : ℕ} {α : State} {s : State} (hyp : Fr μ α s) (within : μ ||| 17585628 = μ := by decide) :
    Fr μ α (restStep s) := by
  refine Fr.via hyp ?_ within; unfold restStep; try dsimp only
  repeat' (first | (with_reducible first | exact Fr.refl _ _ | assumption | refine Fr.ite ?_ ?_ | refine setSpareMasks_fr ?_ | refine drainChannel_fr ?_ | refine rested_fr ?_ | refine forEach_fr ?_ (fun _ _ => ?_)) | split)

theorem restoreEnded_fr {μ : ℕ} {α : State} {x : Restored} {s : State} (hyp : Fr μ α s) (within : μ ||| 71193048 = μ := by decide) :
    Fr μ α (restoreEnded x s) := by
  refine Fr.via hyp ?_ within; unfold restoreEnded; try dsimp only
  repeat' (first | (with_reducible first | exact Fr.refl _ _ | assumption | refine Fr.ite ?_ ?_ | refine State.bump_fr ?_ | refine raiseAt_fr ?_ | refine poisonRec_fr ?_ | refine toWrite_fr ?_ | refine deliverRec_fr ?_ | refine trackRewritten_fr ?_) | split)

theorem rejectRestore_fr {μ : ℕ} {α : State} {c : ℕ} {s : State} (hyp : Fr μ α s) (within : μ ||| 8409304 = μ := by decide) :
    Fr μ α (rejectRestore c s) := by
  refine Fr.via hyp ?_ within; unfold rejectRestore; try dsimp only
  repeat' (first | (with_reducible first | exact Fr.refl _ _ | assumption | refine Fr.ite ?_ ?_ | refine calibrationBad_fr ?_ | refine raise_fr ?_ | refine wantFull_fr ?_) | split)

theorem restoreDone_fr {μ : ℕ} {α : State} {c : ℕ} {ok : Bool} {s : State} (hyp : Fr μ α s) (within : μ ||| 8671960 = μ := by decide) :
    Fr μ α (restoreDone c ok s) := by
  refine Fr.via hyp ?_ within; unfold restoreDone; try dsimp only
  repeat' (first | (with_reducible first | exact Fr.refl _ _ | assumption | refine Fr.ite ?_ ?_ | refine applyRecord_fr ?_ | refine trained_fr ?_ | refine rejectRestore_fr ?_) | split)

theorem retrainLimit_fr {μ : ℕ} {α : State} {h : ℕ} {s : State} (hyp : Fr μ α s) (within : μ ||| 71258588 = μ := by decide) :
    Fr μ α (retrainLimit h s) := by
  refine Fr.via hyp ?_ within; unfold retrainLimit; try dsimp only
  repeat' (first | (with_reducible first | exact Fr.refl _ _ | assumption | refine Fr.ite ?_ ?_ | refine setOwnLink_fr ?_ | refine checkLoss_fr ?_ | refine State.setPort_fr ?_ | refine raise_fr ?_) | split)

theorem roundStart_fr {μ : ℕ} {α : State} {c : ℕ} {s : State} (hyp : Fr μ α s) (within : μ ||| 8388672 = μ := by decide) :
    Fr μ α (roundStart c s) := by
  refine Fr.via hyp ?_ within; unfold roundStart; try dsimp only
  repeat' (first | (with_reducible first | exact Fr.refl _ _ | assumption | refine Fr.ite ?_ ?_ | refine State.setOb_fr ?_ | refine groupOffline_fr ?_ | refine State.modTr_fr ?_ | refine State.bump_fr ?_) | split)

theorem placeMove_fr {μ : ℕ} {α : State} {c : ℕ} {s : State} (hyp : Fr μ α s) (within : μ ||| 262144 = μ := by decide) :
    Fr μ α (placeMove c s) := by
  refine Fr.via hyp ?_ within; unfold placeMove; try dsimp only
  repeat' (first | (with_reducible first | exact Fr.refl _ _ | assumption | refine Fr.ite ?_ ?_ | refine pushUrgent_fr ?_ | refine State.modChan_fr ?_ | refine forEach_fr ?_ (fun _ _ => ?_)) | split)

theorem pumpMoves_fr {μ : ℕ} {α : State} {s : State} (hyp : Fr μ α s) (within : μ ||| 71193052 = μ := by decide) :
    Fr μ α (pumpMoves s) := by
  refine Fr.via hyp ?_ within; unfold pumpMoves; try dsimp only
  repeat' (first | (with_reducible first | exact Fr.refl _ _ | assumption | refine Fr.ite ?_ ?_ | refine placeMove_fr ?_ | refine pump_fr ?_ | refine forEach_fr ?_ (fun _ _ => ?_)) | split)

theorem relocate_fr {μ : ℕ} {α : State} {c : ℕ} {layer : ℕ} {bank : ℕ} {row : ℕ} {t : ℕ} {trow : ℕ} {s : State} (hyp : Fr μ α s) (within : μ ||| 262208 = μ := by decide) :
    Fr μ α (relocate c layer bank row t trow s) := by
  refine Fr.via hyp ?_ within; unfold relocate; try dsimp only
  repeat' (first | (with_reducible first | exact Fr.refl _ _ | assumption | refine Fr.ite ?_ ?_ | refine State.modChan_fr ?_ | refine syncDepth_fr ?_) | split)

theorem forgetRow_fr {μ : ℕ} {α : State} {c : ℕ} {layer : ℕ} {bank : ℕ} {row : ℕ} {s : State} (hyp : Fr μ α s) (within : μ ||| 262208 = μ := by decide) :
    Fr μ α (forgetRow c layer bank row s) := by
  refine Fr.via hyp ?_ within; unfold forgetRow; try dsimp only
  repeat' (first | (with_reducible first | exact Fr.refl _ _ | assumption | refine Fr.ite ?_ ?_ | refine setWeak_fr ?_ | refine forEach_fr ?_ (fun _ _ => ?_)) | split)

theorem finishMove_fr {μ : ℕ} {α : State} {c : ℕ} {s : State} (hyp : Fr μ α s) (within : μ ||| 282840 = μ := by decide) :
    Fr μ α (finishMove c s) := by
  refine Fr.via hyp ?_ within; unfold finishMove; try dsimp only
  repeat' (first | (with_reducible first | exact Fr.refl _ _ | assumption | refine Fr.ite ?_ ?_ | refine raise_fr ?_ | refine logRepair_fr ?_ | refine State.bump_fr ?_ | refine relocate_fr ?_ | refine setRetirement_fr ?_ | refine unprotect_fr ?_ | refine State.setOb_fr ?_ | refine State.modChan_fr ?_ | refine forgetRow_fr ?_) | split)

theorem startMove_fr {μ : ℕ} {α : State} {c : ℕ} {s : State} (hyp : Fr μ α s) (within : μ ||| 282840 = μ := by decide) :
    Fr μ α (startMove c s) := by
  refine Fr.via hyp ?_ within; unfold startMove; try dsimp only
  repeat' (first | (with_reducible first | exact Fr.refl _ _ | assumption | refine Fr.ite ?_ ?_ | refine pushRead_fr ?_ | refine State.modChan_fr ?_ | refine unprotect_fr ?_ | refine forEach_fr ?_ (fun _ _ => ?_)) | split)

theorem selfRefreshEntry_fr {μ : ℕ} {α : State} {c : ℕ} {s : State} (hyp : Fr μ α s) (within : μ ||| 8671960 = μ := by decide) :
    Fr μ α (selfRefreshEntry c s) := by
  refine Fr.via hyp ?_ within; unfold selfRefreshEntry; try dsimp only
  repeat' (first | (with_reducible first | exact Fr.refl _ _ | assumption | refine Fr.ite ?_ ?_ | refine entryPreab_fr ?_ | refine entrySre_fr ?_ | refine entryMode_fr ?_ | refine enterSelfRefresh_fr ?_) | split)

theorem selfRefreshExit_fr {μ : ℕ} {α : State} {c : ℕ} {s : State} (hyp : Fr μ α s) (within : μ ||| 8671960 = μ := by decide) :
    Fr μ α (selfRefreshExit c s) := by
  refine Fr.via hyp ?_ within; unfold selfRefreshExit; try dsimp only
  repeat' (first | (with_reducible first | exact Fr.refl _ _ | assumption | refine Fr.ite ?_ ?_ | refine leaveSelfRefresh_fr ?_ | refine State.setChanState_fr ?_ | refine raise_fr ?_ | refine exitSrx_fr ?_ | refine wantFull_fr ?_) | split)

theorem silentSensor_fr {μ : ℕ} {α : State} {st : ℕ} {n : ℕ} {s : State} (hyp : Fr μ α s) (within : μ ||| 4215000 = μ := by decide) :
    Fr μ α (silentSensor st n s) := by
  refine Fr.via hyp ?_ within; unfold silentSensor; try dsimp only
  repeat' (first | (with_reducible first | exact Fr.refl _ _ | assumption | refine Fr.ite ?_ ?_ | refine showSensor_fr ?_ | refine afterReadings_fr ?_ | refine showLogic_fr ?_ | refine noteCool_fr ?_ | refine breakSensor_fr ?_) | split)

theorem pllRestartLimit_fr {μ : ℕ} {α : State} {u : ℕ} {s : State} (hyp : Fr μ α s) (within : μ ||| 86922200 = μ := by decide) :
    Fr μ α (pllRestartLimit u s) := by
  refine Fr.via hyp ?_ within; unfold pllRestartLimit; try dsimp only
  repeat' (first | (with_reducible first | exact Fr.refl _ _ | assumption | refine Fr.ite ?_ ?_ | refine failChannel_fr ?_ | refine State.setClk_fr ?_ | refine forEach_fr ?_ (fun _ _ => ?_)) | split)

theorem recordWritten_fr {μ : ℕ} {α : State} {s : State} (hyp : Fr μ α s) (within : μ ||| 4198464 = μ := by decide) :
    Fr μ α (recordWritten s) := by
  refine Fr.via hyp ?_ within; unfold recordWritten; try dsimp only
  repeat' (first | (with_reducible first | exact Fr.refl _ _ | assumption | refine Fr.ite ?_ ?_ | refine State.setHeat_fr ?_ | refine State.setOb_fr ?_) | split | with_reducible refine Fr.set_nvm ?_)

theorem takeReplicas_fr {μ : ℕ} {α : State} {counts : List (Option ℕ)} {s : State} (hyp : Fr μ α s) (within : μ ||| 16777216 = μ := by decide) :
    Fr μ α (takeReplicas counts s) := by
  refine Fr.via hyp ?_ within; unfold takeReplicas; try dsimp only
  repeat' (first | (with_reducible first | exact Fr.refl _ _ | assumption | refine Fr.ite ?_ ?_ | refine State.setClk_fr ?_ | refine forEach_fr ?_ (fun _ _ => ?_)) | split)

theorem slackMeasurement_fr {μ : ℕ} {α : State} {counts : List (Option ℕ)} {s : State} (hyp : Fr μ α s) (within : μ ||| 16797912 = μ := by decide) :
    Fr μ α (slackMeasurement counts s) := by
  refine Fr.via hyp ?_ within; unfold slackMeasurement; try dsimp only
  repeat' (first | (with_reducible first | exact Fr.refl _ _ | assumption | refine Fr.ite ?_ ?_ | refine driveVreq_fr ?_ | refine State.setOb_fr ?_ | refine raiseNode_fr ?_ | refine startDerate_fr ?_ | refine State.bump_fr ?_ | refine State.setClk_fr ?_ | refine State.peak_fr ?_ | refine takeReplicas_fr ?_ | refine foldl_fr ?_ (fun _ _ => ?_) | refine foldl_frS ?_ (fun _ _ => ?_) | refine foldl_frF ?_ (fun _ _ => ?_)) | split)

theorem sliceTaken_fr {μ : ℕ} {α : State} {x : ℕ} {repaired : Bool} {s : State} (hyp : Fr μ α s) (within : μ ||| 67916248 = μ := by decide) :
    Fr μ α (sliceTaken x repaired s) := by
  refine Fr.via hyp ?_ within; unfold sliceTaken; try dsimp only
  repeat' (first | (with_reducible first | exact Fr.refl _ _ | assumption | refine Fr.ite ?_ ?_ | refine writeBackAll_fr ?_ | refine State.setWay_fr ?_ | refine setSlice_fr ?_ | refine raise_fr ?_ | refine forEach_fr ?_ (fun _ _ => ?_)) | split)

theorem slotCopied_fr {μ : ℕ} {α : State} {s : State} (hyp : Fr μ α s) (within : μ ||| 108942812 = μ := by decide) :
    Fr μ α (slotCopied s) := by
  refine Fr.via hyp ?_ within; unfold slotCopied; try dsimp only
  repeat' (first | (with_reducible first | exact Fr.refl _ _ | assumption | refine Fr.ite ?_ ?_ | refine setNode_fr ?_ | refine runActive_fr ?_ | refine unverify_fr ?_ | refine State.setOb_fr ?_ | refine setStaging_fr ?_ | refine raiseNode_fr ?_ | refine persistOwn_fr ?_ | refine State.bumpBy_fr ?_) | split | with_reducible refine Fr.set_nvm ?_)

theorem snapshotCapture_fr {μ : ℕ} {α : State} {s : State} (hyp : Fr μ α s) (within : μ ||| 64 = μ := by decide) :
    Fr μ α (snapshotCapture s) := by
  refine Fr.via hyp ?_ within; unfold snapshotCapture; try dsimp only
  repeat' (first | (with_reducible first | exact Fr.refl _ _ | assumption | refine Fr.ite ?_ ?_ | refine State.setOb_fr ?_ | refine State.bump_fr ?_ | refine forEach_fr ?_ (fun _ _ => ?_)) | split)

theorem sheafPllStable_fr {μ : ℕ} {α : State} {u : ℕ} {s : State} (hyp : Fr μ α s) (within : μ ||| 16797912 = μ := by decide) :
    Fr μ α (sheafPllStable u s) := by
  refine Fr.via hyp ?_ within; unfold sheafPllStable; try dsimp only
  repeat' (first | (with_reducible first | exact Fr.refl _ _ | assumption | refine Fr.ite ?_ ?_ | refine setDomain_fr ?_ | refine fellBack_fr ?_ | refine State.setClk_fr ?_) | split)

theorem foStable_fr {μ : ℕ} {α : State} {s : State} (hyp : Fr μ α s) (within : μ ||| 16797912 = μ := by decide) :
    Fr μ α (foStable s) := by
  refine Fr.via hyp ?_ within; unfold foStable; try dsimp only
  repeat' (first | (with_reducible first | exact Fr.refl _ _ | assumption | refine Fr.ite ?_ ?_ | refine setDomain_fr ?_ | refine fellBack_fr ?_ | refine forEach_fr ?_ (fun _ _ => ?_)) | split)

theorem nowStable_fr {μ : ℕ} {α : State} {m : ℕ} {s : State} (hyp : Fr μ α s) (within : μ ||| 16797912 = μ := by decide) :
    Fr μ α (nowStable m s) := by
  refine Fr.via hyp ?_ within; unfold nowStable; try dsimp only
  repeat' (first | (with_reducible first | exact Fr.refl _ _ | assumption | refine Fr.ite ?_ ?_ | refine sheafPllStable_fr ?_ | refine setKeeper_fr ?_ | refine fellBack_fr ?_ | refine State.setOb_fr ?_ | refine foStable_fr ?_ | refine State.setSource_fr ?_ | refine enablePlls_fr ?_) | split)

theorem sourceStable_fr {μ : ℕ} {α : State} {m : ℕ} {s : State} (hyp : Fr μ α s) (within : μ ||| 16797912 = μ := by decide) :
    Fr μ α (sourceStable m s) := by
  refine Fr.via hyp ?_ within; unfold sourceStable; try dsimp only
  repeat' (first | (with_reducible first | exact Fr.refl _ _ | assumption | refine Fr.ite ?_ ?_ | refine State.setSource_fr ?_ | refine nowStable_fr ?_) | split)

theorem stall_fr {μ : ℕ} {α : State} {n : ℕ} {s : State} (hyp : Fr μ α s) (within : μ ||| 70144472 = μ := by decide) :
    Fr μ α (stall n s) := by
  refine Fr.via hyp ?_ within; unfold stall; try dsimp only
  repeat' (first | (with_reducible first | exact Fr.refl _ _ | assumption | refine Fr.ite ?_ ?_ | refine raiseCtx_fr ?_ | refine fenceContext_fr ?_) | split)

theorem stepTimeout_fr {μ : ℕ} {α : State} {c : ℕ} {g : ℕ} {s : State} (hyp : Fr μ α s) (within : μ ||| 78533592 = μ := by decide) :
    Fr μ α (stepTimeout c g s) := by
  refine Fr.via hyp ?_ within; unfold stepTimeout; try dsimp only
  repeat' (first | (with_reducible first | exact Fr.refl _ _ | assumption | refine Fr.ite ?_ ?_ | refine State.modTr_fr ?_ | refine groupBad_fr ?_ | refine nextGroup_fr ?_ | refine layerVref_fr ?_ | refine State.setOb_fr ?_ | refine calibrationBad_fr ?_ | refine lostFor_fr ?_ | refine rejectRestore_fr ?_ | refine forEach_fr ?_ (fun _ _ => ?_)) | split)

theorem takeStraps_fr {μ : ℕ} {α : State} {nodeId : ℕ} {setSize : ℕ} {recovery : Bool} {s : State} (hyp : Fr μ α s) (within : μ ||| 16 = μ := by decide) :
    Fr μ α (takeStraps nodeId setSize recovery s) := by
  refine Fr.via hyp ?_ within; unfold takeStraps; try dsimp only
  repeat' (first | (with_reducible first | exact Fr.refl _ _ | assumption | refine Fr.ite ?_ ?_) | split | with_reducible refine Fr.set_pins ?_)

theorem keeperStarts_fr {μ : ℕ} {α : State} {s : State} (hyp : Fr μ α s) (within : μ ||| 67129564 = μ := by decide) :
    Fr μ α (keeperStarts s) := by
  refine Fr.via hyp ?_ within; unfold keeperStarts; try dsimp only
  repeat' (first | (with_reducible first | exact Fr.refl _ _ | assumption | refine Fr.ite ?_ ?_ | refine loadSampler_fr ?_ | refine raiseNode_fr ?_ | refine State.setPower_fr ?_) | split)

theorem sampleStraps_fr {μ : ℕ} {α : State} {nodeId : ℕ} {setSize : ℕ} {recovery : Bool} {s : State} (hyp : Fr μ α s) (within : μ ||| 67129596 = μ := by decide) :
    Fr μ α (sampleStraps nodeId setSize recovery s) := by
  refine Fr.via hyp ?_ within; unfold sampleStraps; try dsimp only
  repeat' (first | (with_reducible first | exact Fr.refl _ _ | assumption | refine Fr.ite ?_ ?_ | refine takeStraps_fr ?_ | refine keeperStarts_fr ?_ | refine State.setPower_fr ?_) | split | with_reducible refine Fr.set_pins_wrap ?_)

theorem readMask_fr {μ : ℕ} {α : State} {n : ℕ} {w : ℕ} {t : Stream} {s : State} (hyp : Fr μ α s) (within : μ ||| 71193048 = μ := by decide) :
    Fr μ α (readMask n w t s) := by
  refine Fr.via hyp ?_ within; unfold readMask; try dsimp only
  repeat' (first | (with_reducible first | exact Fr.refl _ _ | assumption | refine Fr.ite ?_ ?_ | refine offerChecked_fr ?_ | refine State.modStream_fr ?_) | split)

theorem registerWatch_fr {μ : ℕ} {α : State} {n : ℕ} {obj : ℕ} {t : Stream} {s : State} (hyp : Fr μ α s) (within : μ ||| 70144472 = μ := by decide) :
    Fr μ α (registerWatch n obj t s) := by
  refine Fr.via hyp ?_ within; unfold registerWatch; try dsimp only
  repeat' (first | (with_reducible first | exact Fr.refl _ _ | assumption | refine Fr.ite ?_ ?_ | refine forwardAsk_fr ?_ | refine lostTarget_fr ?_ | refine State.modStream_fr ?_ | refine State.setCache_fr ?_) | split)

theorem supplyLoss_fr {μ : ℕ} {α : State} {vphy : Bool} {s : State} (hyp : Fr μ α s) (within : μ ||| 84767196 = μ := by decide) :
    Fr μ α (supplyLoss vphy s) := by
  refine Fr.via hyp ?_ within; unfold supplyLoss; try dsimp only
  repeat' (first | (with_reducible first | exact Fr.refl _ _ | assumption | refine Fr.ite ?_ ?_ | refine State.takeFree_fr ?_ | refine enterHalted_fr ?_ | refine markUnretained_fr ?_ | refine coreOff_fr ?_ | refine setDomain_fr ?_ | refine State.setPower_fr ?_ | refine forEach_fr ?_ (fun _ _ => ?_)) | split)

theorem wrapFree_fr {μ : ℕ} {α : State} {code : ℕ} {capture : ℕ} {s : State} (hyp : Fr μ α s) (within : μ ||| 32 = μ := by decide) :
    Fr μ α (wrapFree code capture s) := by
  refine Fr.via hyp ?_ within; unfold wrapFree; try dsimp only
  repeat' (first | (with_reducible first | exact Fr.refl _ _ | assumption | refine Fr.ite ?_ ?_ | refine State.setWrap_fr ?_) | split)

theorem wrapDebug_fr {μ : ℕ} {α : State} {code : ℕ} {w : ℕ} {s : State} (hyp : Fr μ α s) (within : μ ||| 71202296 = μ := by decide) :
    Fr μ α (wrapDebug code w s) := by
  refine Fr.via hyp ?_ within; unfold wrapDebug; try dsimp only
  repeat' (first | (with_reducible first | exact Fr.refl _ _ | assumption | refine Fr.ite ?_ ?_ | refine State.setWrap_fr ?_ | refine State.takeFree_fr ?_ | refine debugUnlock_fr ?_ | refine serveAll_fr ?_ | refine wrapFree_fr ?_) | split)

theorem wrapHeld_fr {μ : ℕ} {α : State} {code : ℕ} {w : ℕ} {s : State} (hyp : Fr μ α s) (within : μ ||| 8228 = μ := by decide) :
    Fr μ α (wrapHeld code w s) := by
  refine Fr.via hyp ?_ within; unfold wrapHeld; try dsimp only
  repeat' (first | (with_reducible first | exact Fr.refl _ _ | assumption | refine Fr.ite ?_ ?_ | refine State.takeFree_fr ?_) | split | with_reducible refine Fr.set_power_wrap ?_)

theorem wrapTest_fr {μ : ℕ} {α : State} {code : ℕ} {w : ℕ} {s : State} (hyp : Fr μ α s) (within : μ ||| 8228 = μ := by decide) :
    Fr μ α (wrapTest code w s) := by
  refine Fr.via hyp ?_ within; unfold wrapTest; try dsimp only
  repeat' (first | (with_reducible first | exact Fr.refl _ _ | assumption | refine Fr.ite ?_ ?_ | refine wrapFree_fr ?_ | refine wrapHeld_fr ?_) | split)

theorem syncRequest_fr {μ : ℕ} {α : State} {op : ℕ} {q : Side} {obj : ℕ} {operand : ℕ} {s : State} (hyp : Fr μ α s) (within : μ ||| 71193048 = μ := by decide) :
    FrR μ α (syncRequest op q obj operand s) := by
  refine FrR.via hyp ?_ within; unfold syncRequest; try dsimp only
  repeat' (first | (with_reducible first | exact Fr.refl _ _ | assumption | refine frR_next ?_ | exact frR_fault | refine present_fr ?_ | refine Fr.ite ?_ ?_ | refine arrive_fr ?_) | split)

theorem syncTimeouts_fr {μ : ℕ} {α : State} {s : State} (hyp : Fr μ α s) (within : μ ||| 67895616 = μ := by decide) :
    Fr μ α (syncTimeouts s) := by
  refine Fr.via hyp ?_ within; unfold syncTimeouts; try dsimp only
  repeat' (first | (with_reducible first | exact Fr.refl _ _ | assumption | refine Fr.ite ?_ ?_ | refine finish_fr ?_ | refine forEach_fr ?_ (fun _ _ => ?_)) | split | with_reducible refine Fr.set_cache ?_)

theorem restoreStep_fr {μ : ℕ} {α : State} {c : ℕ} {s : State} (hyp : Fr μ α s) (within : μ ||| 8389184 = μ := by decide) :
    Fr μ α (restoreStep c s) := by
  refine Fr.via hyp ?_ within; unfold restoreStep; try dsimp only
  repeat' (first | (with_reducible first | exact Fr.refl _ _ | assumption | refine Fr.ite ?_ ?_ | refine State.modTr_fr ?_ | refine takeSettings_fr ?_) | split)

theorem tapConfirmed_fr {μ : ℕ} {α : State} {c : ℕ} {s : State} (hyp : Fr μ α s) (within : μ ||| 8393280 = μ := by decide) :
    Fr μ α (tapConfirmed c s) := by
  refine Fr.via hyp ?_ within; unfold tapConfirmed; try dsimp only
  repeat' (first | (with_reducible first | exact Fr.refl _ _ | assumption | refine Fr.ite ?_ ?_ | refine writeStep_fr ?_ | refine centresDone_fr ?_ | refine State.modTr_fr ?_ | refine restoreStep_fr ?_) | split)

theorem flagAlert_fr {μ : ℕ} {α : State} {c : ℕ} {layer : ℕ} {s : State} (hyp : Fr μ α s) (within : μ ||| 4215000 = μ := by decide) :
    Fr μ α (flagAlert c layer s) := by
  refine Fr.via hyp ?_ within; unfold flagAlert; try dsimp only
  repeat' (first | (with_reducible first | exact Fr.refl _ _ | assumption | refine Fr.ite ?_ ?_ | refine takeReading_fr ?_ | refine showSensor_fr ?_ | refine afterReadings_fr ?_ | refine trip_fr ?_ | refine State.bump_fr ?_) | split)

theorem reloadKeys_fr {μ : ℕ} {α : State} {s : State} (hyp : Fr μ α s) (within : μ ||| 1024 = μ := by decide) :
    Fr μ α (reloadKeys s) := by
  refine Fr.via hyp ?_ within; unfold reloadKeys; try dsimp only
  repeat' (first | (with_reducible first | exact Fr.refl _ _ | assumption | refine Fr.ite ?_ ?_ | refine State.setSec_fr ?_) | split)

theorem judgeRefresh_fr {μ : ℕ} {α : State} {s : State} (hyp : Fr μ α s) (within : μ ||| 20696 = μ := by decide) :
    Fr μ α (judgeRefresh s) := by
  refine Fr.via hyp ?_ within; unfold judgeRefresh; try dsimp only
  repeat' (first | (with_reducible first | exact Fr.refl _ _ | assumption | refine Fr.ite ?_ ?_ | refine startDerate_fr ?_ | refine endDerate_fr ?_) | split)

theorem warmResume_fr {μ : ℕ} {α : State} {s : State} (hyp : Fr μ α s) (within : μ ||| 283868 = μ := by decide) :
    Fr μ α (warmResume s) := by
  refine Fr.via hyp ?_ within; unfold warmResume; try dsimp only
  repeat' (first | (with_reducible first | exact Fr.refl _ _ | assumption | refine Fr.ite ?_ ?_ | refine reloadKeys_fr ?_ | refine enterService_fr ?_ | refine judgeRefresh_fr ?_) | split)

theorem tideSwitch_fr {μ : ℕ} {α : State} {f : ℕ} {s : State} (hyp : Fr μ α s) (within : μ ||| 68112604 = μ := by decide) :
    Fr μ α (tideSwitch f s) := by
  refine Fr.via hyp ?_ within; unfold tideSwitch; try dsimp only
  repeat' (first | (with_reducible first | exact Fr.refl _ _ | assumption | refine Fr.ite ?_ ?_ | refine setNode_fr ?_ | refine judgeRefresh_fr ?_ | refine switchPlan_fr ?_) | split)

theorem resetPools_fr {μ : ℕ} {α : State} {s : State} (hyp : Fr μ α s) (within : μ ||| 151768 = μ := by decide) :
    Fr μ α (resetPools s) := by
  refine Fr.via hyp ?_ within; unfold resetPools; try dsimp only
  repeat' (first | (with_reducible first | exact Fr.refl _ _ | assumption | refine Fr.ite ?_ ?_ | refine State.setPool_fr ?_ | refine raise_fr ?_ | refine State.setFeeds_fr ?_ | refine forEach_fr ?_ (fun _ _ => ?_)) | split)

theorem resetPeaks_fr {μ : ℕ} {α : State} {s : State} (hyp : Fr μ α s) (within : μ ||| 65600 = μ := by decide) :
    Fr μ α (resetPeaks s) := by
  refine Fr.via hyp ?_ within; unfold resetPeaks; try dsimp only
  repeat' (first | (with_reducible first | exact Fr.refl _ _ | assumption | refine Fr.ite ?_ ?_ | refine State.setOb_fr ?_ | refine State.setPlans_fr ?_ | refine forEach_fr ?_ (fun _ _ => ?_)) | split)

theorem warnShort_fr {μ : ℕ} {α : State} {h : ℕ} {s : State} (hyp : Fr μ α s) (within : μ ||| 20696 = μ := by decide) :
    Fr μ α (warnShort h s) := by
  refine Fr.via hyp ?_ within; unfold warnShort; try dsimp only
  repeat' (first | (with_reducible first | exact Fr.refl _ _ | assumption | refine Fr.ite ?_ ?_ | refine raise_fr ?_ | refine forEach_fr ?_ (fun _ _ => ?_)) | split)

theorem settleJoined_fr {μ : ℕ} {α : State} {s : State} (hyp : Fr μ α s) (within : μ ||| 16832 = μ := by decide) :
    Fr μ α (settleJoined s) := by
  refine Fr.via hyp ?_ within; unfold settleJoined; try dsimp only
  repeat' (first | (with_reducible first | exact Fr.refl _ _ | assumption | refine Fr.ite ?_ ?_ | refine newLead_fr ?_) | split)

theorem joinNode_fr {μ : ℕ} {α : State} {n : ℕ} {s : State} (hyp : Fr μ α s) (within : μ ||| 20956 = μ := by decide) :
    Fr μ α (joinNode n s) := by
  refine Fr.via hyp ?_ within; unfold joinNode; try dsimp only
  repeat' (first | (with_reducible first | exact Fr.refl _ _ | assumption | refine Fr.ite ?_ ?_ | refine sendSetWide_fr ?_ | refine settleJoined_fr ?_ | refine raiseNode_fr ?_ | refine State.setSet_fr ?_ | refine computeRoutes_fr ?_ | refine State.setPower_fr ?_) | split)

theorem joinNodes_fr {μ : ℕ} {α : State} {f : ℕ} {s : State} (hyp : Fr μ α s) (within : μ ||| 20956 = μ := by decide) :
    Fr μ α (joinNodes f s) := by
  refine Fr.via hyp ?_ within; unfold joinNodes; try dsimp only
  repeat' (first | (with_reducible first | exact Fr.refl _ _ | assumption | refine Fr.ite ?_ ?_ | refine joinNode_fr ?_ | refine forEach_fr ?_ (fun _ _ => ?_)) | split)

theorem joinSelf_fr {μ : ℕ} {α : State} {f : ℕ} {s : State} (hyp : Fr μ α s) (within : μ ||| 68113884 = μ := by decide) :
    Fr μ α (joinSelf f s) := by
  refine Fr.via hyp ?_ within; unfold joinSelf; try dsimp only
  repeat' (first | (with_reducible first | exact Fr.refl _ _ | assumption | refine Fr.ite ?_ ?_ | refine raiseNode_fr ?_ | refine reloadKeys_fr ?_ | refine enterService_fr ?_ | refine judgeRefresh_fr ?_ | refine State.setSet_fr ?_ | refine settleJoined_fr ?_ | refine State.setPlans_fr ?_ | refine adoptPlan_fr ?_) | split)

theorem joinPorts_fr {μ : ℕ} {α : State} {f : ℕ} {s : State} (hyp : Fr μ α s) (within : μ ||| 151768 = μ := by decide) :
    Fr μ α (joinPorts f s) := by
  refine Fr.via hyp ?_ within; unfold joinPorts; try dsimp only
  repeat' (first | (with_reducible first | exact Fr.refl _ _ | assumption | refine Fr.ite ?_ ?_ | refine State.setFeeds_fr ?_ | refine setPortState_fr ?_ | refine raise_fr ?_ | refine forEach_fr ?_ (fun _ _ => ?_)) | split)

theorem joinSlice_fr {μ : ℕ} {α : State} {x : ℕ} {s : State} (hyp : Fr μ α s) (within : μ ||| 544984 = μ := by decide) :
    Fr μ α (joinSlice x s) := by
  refine Fr.via hyp ?_ within; unfold joinSlice; try dsimp only
  repeat' (first | (with_reducible first | exact Fr.refl _ _ | assumption | refine Fr.ite ?_ ?_ | refine State.setWay_fr ?_ | refine setSlice_fr ?_ | refine raise_fr ?_ | refine forEach_fr ?_ (fun _ _ => ?_)) | split)

theorem joinSlices_fr {μ : ℕ} {α : State} {f : ℕ} {s : State} (hyp : Fr μ α s) (within : μ ||| 544984 = μ := by decide) :
    Fr μ α (joinSlices f s) := by
  refine Fr.via hyp ?_ within; unfold joinSlices; try dsimp only
  repeat' (first | (with_reducible first | exact Fr.refl _ _ | assumption | refine Fr.ite ?_ ?_ | refine State.setCache_fr ?_ | refine joinSlice_fr ?_ | refine forEach_fr ?_ (fun _ _ => ?_)) | split)

theorem joinBack_fr {μ : ℕ} {α : State} {b : Rebuild} {s : State} (hyp : Fr μ α s) (within : μ ||| 283352 = μ := by decide) :
    Fr μ α (joinBack b s) := by
  refine Fr.via hyp ?_ within; unfold joinBack; try dsimp only
  repeat' (first | (with_reducible first | exact Fr.refl _ _ | assumption | refine Fr.ite ?_ ?_ | refine syncDepth_fr ?_ | refine raise_fr ?_ | refine State.modChan_fr ?_ | refine State.setOb_fr ?_ | refine State.setPath_fr ?_ | refine State.setChanState_fr ?_ | refine copyChannel_fr ?_ | refine forEach_fr ?_ (fun _ _ => ?_)) | split | with_reducible refine Fr.set_dram ?_)

theorem joinSpare_fr {μ : ℕ} {α : State} {b : Rebuild} {s : State} (hyp : Fr μ α s) (within : μ ||| 282840 = μ := by decide) :
    Fr μ α (joinSpare b s) := by
  refine Fr.via hyp ?_ within; unfold joinSpare; try dsimp only
  repeat' (first | (with_reducible first | exact Fr.refl _ _ | assumption | refine Fr.ite ?_ ?_ | refine State.setOb_fr ?_ | refine raise_fr ?_ | refine State.setPath_fr ?_ | refine State.setChanState_fr ?_) | split)

theorem joinChannels_fr {μ : ℕ} {α : State} {f : ℕ} {s : State} (hyp : Fr μ α s) (within : μ ||| 283352 = μ := by decide) :
    Fr μ α (joinChannels f s) := by
  refine Fr.via hyp ?_ within; unfold joinChannels; try dsimp only
  repeat' (first | (with_reducible first | exact Fr.refl _ _ | assumption | refine Fr.ite ?_ ?_ | refine State.setChanState_fr ?_ | refine raise_fr ?_ | refine joinBack_fr ?_ | refine joinSpare_fr ?_ | refine State.modChan_fr ?_ | refine forEach_fr ?_ (fun _ _ => ?_)) | split)

theorem joinFar_fr {μ : ℕ} {α : State} {f : ℕ} {s : State} (hyp : Fr μ α s) (within : μ ||| 71193052 = μ := by decide) :
    Fr μ α (joinFar f s) := by
  refine Fr.via hyp ?_ within; unfold joinFar; try dsimp only
  repeat' (first | (with_reducible first | exact Fr.refl _ _ | assumption | refine Fr.ite ?_ ?_ | refine raiseNode_fr ?_ | refine pumpFar_fr ?_ | refine openFar_fr ?_ | refine State.setFar_fr ?_) | split)

theorem tide_fr {μ : ℕ} {α : State} {s : State} (hyp : Fr μ α s) (within : μ ||| 92231644 = μ := by decide) :
    Fr μ α (tide s) := by
  refine Fr.via hyp ?_ within; unfold tide; try dsimp only
  repeat' (first | (with_reducible first | exact Fr.refl _ _ | assumption | refine Fr.ite ?_ ?_ | refine State.setPlans_fr ?_ | refine warmResume_fr ?_ | refine serveAll_fr ?_ | refine tideSwitch_fr ?_ | refine armWindows_fr ?_ | refine State.setPath_fr ?_ | refine resetPools_fr ?_ | refine resetPeaks_fr ?_ | refine warnShort_fr ?_ | refine joinNodes_fr ?_ | refine joinSelf_fr ?_ | refine joinPorts_fr ?_ | refine joinSlices_fr ?_ | refine joinChannels_fr ?_ | refine joinFar_fr ?_ | refine applyPending_fr ?_ | refine frameBoundary_fr ?_ | refine forEach_fr ?_ (fun _ _ => ?_)) | split)

theorem prepareTide_fr {μ : ℕ} {α : State} {s : State} (hyp : Fr μ α s) (within : μ ||| 65856 = μ := by decide) :
    Fr μ α (prepareTide s) := by
  refine Fr.via hyp ?_ within; unfold prepareTide; try dsimp only
  repeat' (first | (with_reducible first | exact Fr.refl _ _ | assumption | refine Fr.ite ?_ ?_ | refine flood_fr ?_ | refine State.setPlans_fr ?_) | split)

theorem retireSwitch_fr {μ : ℕ} {α : State} {s : State} (hyp : Fr μ α s) (within : μ ||| 217304 = μ := by decide) :
    Fr μ α (retireSwitch s) := by
  refine Fr.via hyp ?_ within; unfold retireSwitch; try dsimp only
  repeat' (first | (with_reducible first | exact Fr.refl _ _ | assumption | refine Fr.ite ?_ ?_ | refine State.setOb_fr ?_ | refine raiseNode_fr ?_ | refine setPlanState_fr ?_ | refine State.setPlans_fr ?_ | refine sweepOld_fr ?_) | split)

theorem timeTaken_fr {μ : ℕ} {α : State} {h : ℕ} {tx : ℕ} {echo : ℕ} {echoRx : ℕ} {rx : ℕ} {s : State} (hyp : Fr μ α s) (within : μ ||| 29144 = μ := by decide) :
    Fr μ α (timeTaken h tx echo echoRx rx s) := by
  refine Fr.via hyp ?_ within; unfold timeTaken; try dsimp only
  repeat' (first | (with_reducible first | exact Fr.refl _ _ | assumption | refine Fr.ite ?_ ?_ | refine State.setSet_fr ?_ | refine State.takeFree_fr ?_ | refine State.setPort_fr ?_ | refine heard_fr ?_) | split)

theorem restartStall_fr {μ : ℕ} {α : State} {st : ℕ} {s : State} (hyp : Fr μ α s) (within : μ ||| 131072 = μ := by decide) :
    Fr μ α (restartStall st s) := by
  refine Fr.via hyp ?_ within; unfold restartStall; try dsimp only
  repeat' (first | (with_reducible first | exact Fr.refl _ _ | assumption | refine Fr.ite ?_ ?_ | refine State.setFeeds_fr ?_) | split)

theorem resumeTraffic_fr {μ : ℕ} {α : State} {st : ℕ} {s : State} (hyp : Fr μ α s) (within : μ ||| 4608216 = μ := by decide) :
    Fr μ α (resumeTraffic st s) := by
  refine Fr.via hyp ?_ within; unfold resumeTraffic; try dsimp only
  repeat' (first | (with_reducible first | exact Fr.refl _ _ | assumption | refine Fr.ite ?_ ?_ | refine raise_fr ?_ | refine restartStall_fr ?_ | refine State.modChan_fr ?_ | refine State.setHeat_fr ?_ | refine State.bumpBy_fr ?_ | refine takeLevel_fr ?_ | refine forEach_fr ?_ (fun _ _ => ?_)) | split)

theorem trainingTimeout_fr {μ : ℕ} {α : State} {c : ℕ} {s : State} (hyp : Fr μ α s) (within : μ ||| 78533592 = μ := by decide) :
    Fr μ α (trainingTimeout c s) := by
  refine Fr.via hyp ?_ within; unfold trainingTimeout; try dsimp only
  repeat' (first | (with_reducible first | exact Fr.refl _ _ | assumption | refine Fr.ite ?_ ?_ | refine untrainable_fr ?_ | refine State.modTr_fr ?_ | refine beginTraining_fr ?_ | refine calibrationBad_fr ?_) | split)

theorem startTransfer_fr {μ : ℕ} {α : State} {held : ℕ} {s : State} (hyp : Fr μ α s) (within : μ ||| 71193052 = μ := by decide) :
    Fr μ α (startTransfer held s) := by
  refine Fr.via hyp ?_ within; unfold startTransfer; try dsimp only
  repeat' (first | (with_reducible first | exact Fr.refl _ _ | assumption | refine Fr.ite ?_ ?_ | refine State.modTransfer_fr ?_ | refine showLast_fr ?_ | refine pumpFar_fr ?_) | split)

theorem unretainedFilled_fr {μ : ℕ} {α : State} {c : ℕ} {s : State} (hyp : Fr μ α s) (within : μ ||| 21212 = μ := by decide) :
    Fr μ α (unretainedFilled c s) := by
  refine Fr.via hyp ?_ within; unfold unretainedFilled; try dsimp only
  repeat' (first | (with_reducible first | exact Fr.refl _ _ | assumption | refine Fr.ite ?_ ?_ | refine raise_fr ?_ | refine State.setPower_fr ?_ | refine poisonBlock_fr ?_ | refine forEach_fr ?_ (fun _ _ => ?_)) | split)

theorem vcoreGood_fr {μ : ℕ} {α : State} {s : State} (hyp : Fr μ α s) (within : μ ||| 92165596 = μ := by decide) :
    Fr μ α (vcoreGood s) := by
  refine Fr.via hyp ?_ within; unfold vcoreGood; try dsimp only
  repeat' (first | (with_reducible first | exact Fr.refl _ _ | assumption | refine Fr.ite ?_ ?_ | refine State.setPower_fr ?_ | refine bootAdvance_fr ?_ | refine State.setClk_fr ?_ | refine State.setSource_fr ?_) | split)

theorem verificationDone_fr {μ : ℕ} {α : State} {s : State} (hyp : Fr μ α s) (within : μ ||| 33575128 = μ := by decide) :
    Fr μ α (verificationDone s) := by
  refine Fr.via hyp ?_ within; unfold verificationDone; try dsimp only
  repeat' (first | (with_reducible first | exact Fr.refl _ _ | assumption | refine Fr.ite ?_ ?_ | refine State.setUpd_fr ?_ | refine setStaging_fr ?_ | refine raiseNode_fr ?_ | refine State.setOb_fr ?_ | refine updateRefused_fr ?_) | split)

theorem vkeepLost_fr {μ : ℕ} {α : State} {s : State} (hyp : Fr μ α s) (within : μ ||| 134158332 = μ := by decide) :
    Fr μ α (vkeepLost s) := by
  refine Fr.via hyp ?_ within; unfold vkeepLost; try dsimp only
  repeat' (first | (with_reducible first | exact Fr.refl _ _ | assumption | refine Fr.ite ?_ ?_ | refine coldState_fr ?_) | split | with_reducible refine Fr.set_power_procs_clk ?_)

theorem takeVote_fr {μ : ℕ} {α : State} {node : ℕ} {ready : Bool} {f : ℕ} {s : State} (hyp : Fr μ α s) (within : μ ||| 65536 = μ := by decide) :
    Fr μ α (takeVote node ready f s) := by
  refine Fr.via hyp ?_ within; unfold takeVote; try dsimp only
  repeat' (first | (with_reducible first | exact Fr.refl _ _ | assumption | refine Fr.ite ?_ ?_ | refine State.setPlans_fr ?_) | split)

theorem passWait_fr {μ : ℕ} {α : State} {n : ℕ} {s : State} (hyp : Fr μ α s) (within : μ ||| 655360 = μ := by decide) :
    Fr μ α (passWait n s) := by
  refine Fr.via hyp ?_ within; unfold passWait; try dsimp only
  repeat' (first | (with_reducible first | exact Fr.refl _ _ | assumption | refine Fr.ite ?_ ?_ | refine State.setCache_fr ?_ | refine State.modStream_fr ?_) | split)

theorem wakeDone_fr {μ : ℕ} {α : State} {s : State} (hyp : Fr μ α s) (within : μ ||| 75388892 = μ := by decide) :
    Fr μ α (wakeDone s) := by
  refine Fr.via hyp ?_ within; unfold wakeDone; try dsimp only
  repeat' (first | (with_reducible first | exact Fr.refl _ _ | assumption | refine Fr.ite ?_ ?_ | refine readAllSensors_fr ?_ | refine ladderStep_fr ?_ | refine setNode_fr ?_ | refine closePorts_fr ?_ | refine serveAll_fr ?_ | refine State.setPower_fr ?_ | refine reloadKeys_fr ?_ | refine State.setPort_fr ?_ | refine forEach_fr ?_ (fun _ _ => ?_)) | split)

theorem warmResetLimit_fr {μ : ℕ} {α : State} {node : ℕ} {s : State} (hyp : Fr μ α s) (within : μ ||| 71258588 = μ := by decide) :
    Fr μ α (warmResetLimit node s) := by
  refine Fr.via hyp ?_ within; unfold warmResetLimit; try dsimp only
  repeat' (first | (with_reducible first | exact Fr.refl _ _ | assumption | refine Fr.ite ?_ ?_ | refine findLost_fr ?_) | split)

theorem peerResets_fr {μ : ℕ} {α : State} {node : ℕ} {s : State} (hyp : Fr μ α s) (within : μ ||| 256 = μ := by decide) :
    Fr μ α (peerResets node s) := by
  refine Fr.via hyp ?_ within; unfold peerResets; try dsimp only
  repeat' (first | (with_reducible first | exact Fr.refl _ _ | assumption | refine Fr.ite ?_ ?_ | refine State.setPort_fr ?_ | refine State.setSet_fr ?_ | refine forEach_fr ?_ (fun _ _ => ?_)) | split)

theorem writtenBack_fr {μ : ℕ} {α : State} {line : ℕ} {data : ℕ} {s : State} (hyp : Fr μ α s) (within : μ ||| 67912128 = μ := by decide) :
    Fr μ α (writtenBack line data s) := by
  refine Fr.via hyp ?_ within; unfold writtenBack; try dsimp only
  repeat' (first | (with_reducible first | exact Fr.refl _ _ | assumption | refine Fr.ite ?_ ?_ | refine lineClean_fr ?_ | refine State.setWay_fr ?_ | refine cleanLine_fr ?_) | split)

theorem takeWriteBack_fr {μ : ℕ} {α : State} {x : ℕ} {s : State} (hyp : Fr μ α s) (within : μ ||| 70144472 = μ := by decide) :
    Fr μ α (takeWriteBack x s) := by
  refine Fr.via hyp ?_ within; unfold takeWriteBack; try dsimp only
  repeat' (first | (with_reducible first | exact Fr.refl _ _ | assumption | refine Fr.ite ?_ ?_ | refine State.setWay_fr ?_ | refine writtenBack_fr ?_ | refine endClose_fr ?_ | refine State.modAsk_fr ?_ | refine retire_fr ?_) | split)

theorem retryAllocs_fr {μ : ℕ} {α : State} {s : State} (hyp : Fr μ α s) (within : μ ||| 67916248 = μ := by decide) :
    Fr μ α (retryAllocs s) := by
  refine Fr.via hyp ?_ within; unfold retryAllocs; try dsimp only
  repeat' (first | (with_reducible first | exact Fr.refl _ _ | assumption | refine Fr.ite ?_ ?_ | refine State.setCache_fr ?_ | refine allocWrite_fr ?_ | refine forEach_fr ?_ (fun _ _ => ?_)) | split)

theorem writeBackLimit_fr {μ : ℕ} {α : State} {s : State} (hyp : Fr μ α s) (within : μ ||| 67981788 = μ := by decide) :
    Fr μ α (writeBackLimit s) := by
  refine Fr.via hyp ?_ within; unfold writeBackLimit; try dsimp only
  repeat' (first | (with_reducible first | exact Fr.refl _ _ | assumption | refine Fr.ite ?_ ?_ | refine enterHalted_fr ?_ | refine State.setPower_fr ?_ | refine haltChannels_fr ?_ | refine markUnretained_fr ?_ | refine forEach_fr ?_ (fun _ _ => ?_)) | split)

theorem zeroPoisoned_fr {μ : ℕ} {α : State} {s : State} (hyp : Fr μ α s) (within : μ ||| 71196668 = μ := by decide) :
    Fr μ α (zeroPoisoned s) := by
  refine Fr.via hyp ?_ within; unfold zeroPoisoned; try dsimp only
  repeat' (first | (with_reducible first | exact Fr.refl _ _ | assumption | refine Fr.ite ?_ ?_ | refine raiseNode_fr ?_ | refine endZero_fr ?_ | refine fillGranule_fr ?_ | refine zeroAdvance_fr ?_ | refine forEach_fr ?_ (fun _ _ => ?_)) | split)

theorem rebuildJournal_fr {μ : ℕ} {α : State} {s : State} (hyp : Fr μ α s) (within : μ ||| 64 = μ := by decide) :
    Fr μ α (rebuildJournal s) := by
  refine Fr.via hyp ?_ within; unfold rebuildJournal; try dsimp only
  repeat' (first | (with_reducible first | exact Fr.refl _ _ | assumption | refine Fr.ite ?_ ?_ | refine State.setOb_fr ?_) | split)

theorem slotSums_fr {μ : ℕ} {α : State} {s : State} (hyp : Fr μ α s) (within : μ ||| 64 = μ := by decide) :
    Fr μ α (slotSums s) := by
  refine Fr.via hyp ?_ within; unfold slotSums; try dsimp only
  repeat' (first | (with_reducible first | exact Fr.refl _ _ | assumption | refine Fr.ite ?_ ?_ | refine count_fr ?_) | split)

theorem storeValue_fr {μ : ℕ} {α : State} {r : ObjRow} {idx : ℕ} {sub : ℕ} {v : ℕ} {who : Completer} {s0 : State} (hyp : Fr μ α s0) (within : μ ||| 4288 = μ := by decide) :
    FrW μ α (storeValue r idx sub v who s0) := by
  refine FrW.via hyp ?_ within; unfold storeValue; try dsimp only [applyHome]
  repeat' (first | (with_reducible first | exact Fr.refl _ _ | assumption | refine frW_done ?_ | refine frW_refused ?_ | refine frW_wait ?_ | refine frW_denied ?_ | refine Fr.ite ?_ ?_ | refine State.setOb_fr ?_ | refine pendTide_fr ?_ | refine gatherPersist_fr ?_ | refine FrW.of_done (gatherPersist_fr ?_) (by assumption) | refine FrW.of_refused (gatherPersist_fr ?_) (by assumption) | refine FrW.of_wait (gatherPersist_fr ?_) (by assumption)) | split)

theorem storeHome_fr {μ : ℕ} {α : State} {idx : ℕ} {sub : ℕ} {value : List Byte} {who : Completer} {s0 : State} (hyp : Fr μ α s0) (within : μ ||| 4288 = μ := by decide) :
    FrW μ α (storeHome idx sub value who s0) := by
  refine FrW.via hyp ?_ within; unfold storeHome; try dsimp only [applyHome]
  repeat' (first | (with_reducible first | exact Fr.refl _ _ | assumption | refine frW_done ?_ | refine frW_refused ?_ | refine frW_wait ?_ | refine frW_denied ?_ | refine Fr.ite ?_ ?_ | refine storeValue_fr ?_ | refine FrW.of_done (storeValue_fr ?_) (by assumption) | refine FrW.of_refused (storeValue_fr ?_) (by assumption) | refine FrW.of_wait (storeValue_fr ?_) (by assumption)) | split)

theorem tickPort_fr {μ : ℕ} {α : State} {h : ℕ} {s : State} (hyp : Fr μ α s) (within : μ ||| 256 = μ := by decide) :
    Fr μ α (tickPort h s) := by
  refine Fr.via hyp ?_ within; unfold tickPort; try dsimp only
  repeat' (first | (with_reducible first | exact Fr.refl _ _ | assumption | refine Fr.ite ?_ ?_ | refine State.setPort_fr ?_ | refine foldl_fr ?_ (fun _ _ => ?_) | refine foldl_frS ?_ (fun _ _ => ?_) | refine foldl_frF ?_ (fun _ _ => ?_)) | split)

theorem tick_fr {μ : ℕ} {α : State} {s : State} (hyp : Fr μ α s) (within : μ ||| 134184957 = μ := by decide) :
    Fr μ α (tick s) := by
  refine Fr.via hyp ?_ within; unfold tick; try dsimp only
  repeat' (first | (with_reducible first | exact Fr.refl _ _ | assumption | refine Fr.ite ?_ ?_ | refine tripStep_fr ?_ | refine rebuildJournal_fr ?_ | refine drainWaiting_fr ?_ | refine slotSums_fr ?_ | refine tickPort_fr ?_ | refine forEach_fr ?_ (fun _ _ => ?_)) | split | with_reducible refine Fr.set_now ?_)

end Sys2Proof.Machine
end

