-- ==== Sys2Proof/Laws/FrameExec.lean ====
section
/-!
SUPPORT. Frames of the meanings: one lemma per command (see Frame).
-/
namespace Sys2Proof.Machine

set_option Elab.async false
set_option linter.unusedTactic false
set_option linter.unreachableTactic false

theorem execAcceptParcel_fr {μ : ℕ} {α : State} {h : ℕ} {hdr : Hdr} {s : State} (hyp : Fr μ α s) (within : μ ||| 283096 = μ := by decide) :
    FrR μ α (execAcceptParcel h hdr s) := by
  refine FrR.via hyp ?_ within; unfold execAcceptParcel; try dsimp only
  repeat' (first | (with_reducible first | exact Fr.refl _ _ | assumption | refine frR_next ?_ | exact frR_fault | refine present_fr ?_ | refine Fr.ite ?_ ?_ | refine acceptTaken_fr ?_ | refine takeParcel_fr ?_ (fun _ => ?_)) | split)

theorem execAlarmClear_fr {μ : ℕ} {α : State} {r : Req} {s : State} (hyp : Fr μ α s) (within : μ ||| 21976 = μ := by decide) :
    FrR μ α (execAlarmClear r s) := by
  refine FrR.via hyp ?_ within; unfold execAlarmClear; try dsimp only
  repeat' (first | (with_reducible first | exact Fr.refl _ _ | assumption | refine frR_next ?_ | exact frR_fault | refine present_fr ?_ | refine Fr.ite ?_ ?_ | refine clearAlarm_fr ?_ | refine applyHome_fr ?_ (fun _ => ?_) | refine dictWrite_fr ?_ (fun _ _ => ?_)) | split)

theorem execAlertSampled_fr {μ : ℕ} {α : State} {c : ℕ} {back : ℕ} {s : State} (hyp : Fr μ α s) (within : μ ||| 83842012 = μ := by decide) :
    FrR μ α (execAlertSampled c back s) := by
  refine FrR.via hyp ?_ within; unfold execAlertSampled; try dsimp only
  repeat' (first | (with_reducible first | exact Fr.refl _ _ | assumption | refine frR_next ?_ | exact frR_fault | refine present_fr ?_ | refine Fr.ite ?_ ?_ | refine alerted_fr ?_ | refine pump_fr ?_) | split)

theorem execAtomicAdd_fr {μ : ℕ} {α : State} {q : Side} {a : ℕ} {offset : ℕ} {wide : Bool} {fetch : Bool} {x : ℕ} {s : State} (hyp : Fr μ α s) (within : μ ||| 71193048 = μ := by decide) :
    FrR μ α (execAtomicAdd q a offset wide fetch x s) := by
  refine FrR.via hyp ?_ within; unfold execAtomicAdd; try dsimp only
  repeat' (first | (with_reducible first | exact Fr.refl _ _ | assumption | refine frR_next ?_ | exact frR_fault | refine present_fr ?_ | refine Fr.ite ?_ ?_ | refine atomicRequest_fr ?_) | split)

theorem execAtomicAnd_fr {μ : ℕ} {α : State} {q : Side} {a : ℕ} {offset : ℕ} {wide : Bool} {fetch : Bool} {x : ℕ} {s : State} (hyp : Fr μ α s) (within : μ ||| 71193048 = μ := by decide) :
    FrR μ α (execAtomicAnd q a offset wide fetch x s) := by
  refine FrR.via hyp ?_ within; unfold execAtomicAnd; try dsimp only
  repeat' (first | (with_reducible first | exact Fr.refl _ _ | assumption | refine frR_next ?_ | exact frR_fault | refine present_fr ?_ | refine Fr.ite ?_ ?_ | refine atomicRequest_fr ?_) | split)

theorem execAtomicCas_fr {μ : ℕ} {α : State} {q : Side} {a : ℕ} {offset : ℕ} {wide : Bool} {fetch : Bool} {x : ℕ} {y : ℕ} {s : State} (hyp : Fr μ α s) (within : μ ||| 71193048 = μ := by decide) :
    FrR μ α (execAtomicCas q a offset wide fetch x y s) := by
  refine FrR.via hyp ?_ within; unfold execAtomicCas; try dsimp only
  repeat' (first | (with_reducible first | exact Fr.refl _ _ | assumption | refine frR_next ?_ | exact frR_fault | refine present_fr ?_ | refine Fr.ite ?_ ?_ | refine atomicRequest_fr ?_) | split)

theorem execAtomicFadd_fr {μ : ℕ} {α : State} {q : Side} {a : ℕ} {offset : ℕ} {wide : Bool} {fetch : Bool} {x : ℕ} {s : State} (hyp : Fr μ α s) (within : μ ||| 71193048 = μ := by decide) :
    FrR μ α (execAtomicFadd q a offset wide fetch x s) := by
  refine FrR.via hyp ?_ within; unfold execAtomicFadd; try dsimp only
  repeat' (first | (with_reducible first | exact Fr.refl _ _ | assumption | refine frR_next ?_ | exact frR_fault | refine present_fr ?_ | refine Fr.ite ?_ ?_ | refine atomicRequest_fr ?_) | split)

theorem execAtomicFlush_fr {μ : ℕ} {α : State} {q : Side} {a : ℕ} {offset : ℕ} {wide : Bool} {s : State} (hyp : Fr μ α s) (within : μ ||| 71193048 = μ := by decide) :
    FrR μ α (execAtomicFlush q a offset wide s) := by
  refine FrR.via hyp ?_ within; unfold execAtomicFlush; try dsimp only
  repeat' (first | (with_reducible first | exact Fr.refl _ _ | assumption | refine frR_next ?_ | exact frR_fault | refine present_fr ?_ | refine Fr.ite ?_ ?_ | refine atomicRequest_fr ?_) | split)

theorem execAtomicFmax_fr {μ : ℕ} {α : State} {q : Side} {a : ℕ} {offset : ℕ} {wide : Bool} {fetch : Bool} {x : ℕ} {s : State} (hyp : Fr μ α s) (within : μ ||| 71193048 = μ := by decide) :
    FrR μ α (execAtomicFmax q a offset wide fetch x s) := by
  refine FrR.via hyp ?_ within; unfold execAtomicFmax; try dsimp only
  repeat' (first | (with_reducible first | exact Fr.refl _ _ | assumption | refine frR_next ?_ | exact frR_fault | refine present_fr ?_ | refine Fr.ite ?_ ?_ | refine atomicRequest_fr ?_) | split)

theorem execAtomicFmin_fr {μ : ℕ} {α : State} {q : Side} {a : ℕ} {offset : ℕ} {wide : Bool} {fetch : Bool} {x : ℕ} {s : State} (hyp : Fr μ α s) (within : μ ||| 71193048 = μ := by decide) :
    FrR μ α (execAtomicFmin q a offset wide fetch x s) := by
  refine FrR.via hyp ?_ within; unfold execAtomicFmin; try dsimp only
  repeat' (first | (with_reducible first | exact Fr.refl _ _ | assumption | refine frR_next ?_ | exact frR_fault | refine present_fr ?_ | refine Fr.ite ?_ ?_ | refine atomicRequest_fr ?_) | split)

theorem execAtomicIncwrap_fr {μ : ℕ} {α : State} {q : Side} {a : ℕ} {offset : ℕ} {wide : Bool} {fetch : Bool} {x : ℕ} {s : State} (hyp : Fr μ α s) (within : μ ||| 71193048 = μ := by decide) :
    FrR μ α (execAtomicIncwrap q a offset wide fetch x s) := by
  refine FrR.via hyp ?_ within; unfold execAtomicIncwrap; try dsimp only
  repeat' (first | (with_reducible first | exact Fr.refl _ _ | assumption | refine frR_next ?_ | exact frR_fault | refine present_fr ?_ | refine Fr.ite ?_ ?_ | refine atomicRequest_fr ?_) | split)

theorem execAtomicOr_fr {μ : ℕ} {α : State} {q : Side} {a : ℕ} {offset : ℕ} {wide : Bool} {fetch : Bool} {x : ℕ} {s : State} (hyp : Fr μ α s) (within : μ ||| 71193048 = μ := by decide) :
    FrR μ α (execAtomicOr q a offset wide fetch x s) := by
  refine FrR.via hyp ?_ within; unfold execAtomicOr; try dsimp only
  repeat' (first | (with_reducible first | exact Fr.refl _ _ | assumption | refine frR_next ?_ | exact frR_fault | refine present_fr ?_ | refine Fr.ite ?_ ?_ | refine atomicRequest_fr ?_) | split)

theorem execAtomicRead_fr {μ : ℕ} {α : State} {q : Side} {a : ℕ} {offset : ℕ} {wide : Bool} {s : State} (hyp : Fr μ α s) (within : μ ||| 71193048 = μ := by decide) :
    FrR μ α (execAtomicRead q a offset wide s) := by
  refine FrR.via hyp ?_ within; unfold execAtomicRead; try dsimp only
  repeat' (first | (with_reducible first | exact Fr.refl _ _ | assumption | refine frR_next ?_ | exact frR_fault | refine present_fr ?_ | refine Fr.ite ?_ ?_ | refine atomicRequest_fr ?_) | split)

theorem execAtomicSmax_fr {μ : ℕ} {α : State} {q : Side} {a : ℕ} {offset : ℕ} {wide : Bool} {fetch : Bool} {x : ℕ} {s : State} (hyp : Fr μ α s) (within : μ ||| 71193048 = μ := by decide) :
    FrR μ α (execAtomicSmax q a offset wide fetch x s) := by
  refine FrR.via hyp ?_ within; unfold execAtomicSmax; try dsimp only
  repeat' (first | (with_reducible first | exact Fr.refl _ _ | assumption | refine frR_next ?_ | exact frR_fault | refine present_fr ?_ | refine Fr.ite ?_ ?_ | refine atomicRequest_fr ?_) | split)

theorem execAtomicSmin_fr {μ : ℕ} {α : State} {q : Side} {a : ℕ} {offset : ℕ} {wide : Bool} {fetch : Bool} {x : ℕ} {s : State} (hyp : Fr μ α s) (within : μ ||| 71193048 = μ := by decide) :
    FrR μ α (execAtomicSmin q a offset wide fetch x s) := by
  refine FrR.via hyp ?_ within; unfold execAtomicSmin; try dsimp only
  repeat' (first | (with_reducible first | exact Fr.refl _ _ | assumption | refine frR_next ?_ | exact frR_fault | refine present_fr ?_ | refine Fr.ite ?_ ?_ | refine atomicRequest_fr ?_) | split)

theorem execAtomicSwap_fr {μ : ℕ} {α : State} {q : Side} {a : ℕ} {offset : ℕ} {wide : Bool} {fetch : Bool} {x : ℕ} {s : State} (hyp : Fr μ α s) (within : μ ||| 71193048 = μ := by decide) :
    FrR μ α (execAtomicSwap q a offset wide fetch x s) := by
  refine FrR.via hyp ?_ within; unfold execAtomicSwap; try dsimp only
  repeat' (first | (with_reducible first | exact Fr.refl _ _ | assumption | refine frR_next ?_ | exact frR_fault | refine present_fr ?_ | refine Fr.ite ?_ ?_ | refine atomicRequest_fr ?_) | split)

theorem execAtomicUmax_fr {μ : ℕ} {α : State} {q : Side} {a : ℕ} {offset : ℕ} {wide : Bool} {fetch : Bool} {x : ℕ} {s : State} (hyp : Fr μ α s) (within : μ ||| 71193048 = μ := by decide) :
    FrR μ α (execAtomicUmax q a offset wide fetch x s) := by
  refine FrR.via hyp ?_ within; unfold execAtomicUmax; try dsimp only
  repeat' (first | (with_reducible first | exact Fr.refl _ _ | assumption | refine frR_next ?_ | exact frR_fault | refine present_fr ?_ | refine Fr.ite ?_ ?_ | refine atomicRequest_fr ?_) | split)

theorem execAtomicUmin_fr {μ : ℕ} {α : State} {q : Side} {a : ℕ} {offset : ℕ} {wide : Bool} {fetch : Bool} {x : ℕ} {s : State} (hyp : Fr μ α s) (within : μ ||| 71193048 = μ := by decide) :
    FrR μ α (execAtomicUmin q a offset wide fetch x s) := by
  refine FrR.via hyp ?_ within; unfold execAtomicUmin; try dsimp only
  repeat' (first | (with_reducible first | exact Fr.refl _ _ | assumption | refine frR_next ?_ | exact frR_fault | refine present_fr ?_ | refine Fr.ite ?_ ?_ | refine atomicRequest_fr ?_) | split)

theorem execAtomicXor_fr {μ : ℕ} {α : State} {q : Side} {a : ℕ} {offset : ℕ} {wide : Bool} {fetch : Bool} {x : ℕ} {s : State} (hyp : Fr μ α s) (within : μ ||| 71193048 = μ := by decide) :
    FrR μ α (execAtomicXor q a offset wide fetch x s) := by
  refine FrR.via hyp ?_ within; unfold execAtomicXor; try dsimp only
  repeat' (first | (with_reducible first | exact Fr.refl _ _ | assumption | refine frR_next ?_ | exact frR_fault | refine present_fr ?_ | refine Fr.ite ?_ ?_ | refine atomicRequest_fr ?_) | split)

theorem execBaleReadDone_fr {μ : ℕ} {α : State} {bale : ℕ} {outcome : ℕ} {s : State} (hyp : Fr μ α s) (within : μ ||| 71193052 = μ := by decide) :
    FrR μ α (execBaleReadDone bale outcome s) := by
  refine FrR.via hyp ?_ within; unfold execBaleReadDone; try dsimp only
  repeat' (first | (with_reducible first | exact Fr.refl _ _ | assumption | refine frR_next ?_ | exact frR_fault | refine present_fr ?_ | refine Fr.ite ?_ ?_ | refine baleAltered_fr ?_ | refine baleReadError_fr ?_ | refine baleArrived_fr ?_ | refine pumpFar_fr ?_) | split)

theorem execBaleReadTimeout_fr {μ : ℕ} {α : State} {bale : ℕ} {s : State} (hyp : Fr μ α s) (within : μ ||| 71193052 = μ := by decide) :
    FrR μ α (execBaleReadTimeout bale s) := by
  refine FrR.via hyp ?_ within; unfold execBaleReadTimeout; try dsimp only
  repeat' (first | (with_reducible first | exact Fr.refl _ _ | assumption | refine frR_next ?_ | exact frR_fault | refine present_fr ?_ | refine Fr.ite ?_ ?_ | refine baleReadError_fr ?_ | refine pumpFar_fr ?_) | split)

theorem execBaleWriteDone_fr {μ : ℕ} {α : State} {bale : ℕ} {ok : Bool} {s : State} (hyp : Fr μ α s) (within : μ ||| 71193052 = μ := by decide) :
    FrR μ α (execBaleWriteDone bale ok s) := by
  refine FrR.via hyp ?_ within; unfold execBaleWriteDone; try dsimp only
  repeat' (first | (with_reducible first | exact Fr.refl _ _ | assumption | refine frR_next ?_ | exact frR_fault | refine present_fr ?_ | refine Fr.ite ?_ ?_ | refine baleStale_fr ?_ | refine baleWritten_fr ?_ | refine pumpFar_fr ?_) | split)

theorem execBankClear_fr {μ : ℕ} {α : State} {r : Req} {bank : ℕ} {s : State} (hyp : Fr μ α s) (within : μ ||| 21976 = μ := by decide) :
    FrR μ α (execBankClear r bank s) := by
  refine FrR.via hyp ?_ within; unfold execBankClear; try dsimp only
  repeat' (first | (with_reducible first | exact Fr.refl _ _ | assumption | refine frR_next ?_ | exact frR_fault | refine present_fr ?_ | refine Fr.ite ?_ ?_ | refine bankClearHome_fr ?_ | refine FrW.of_done (bankClearHome_fr ?_) (by assumption) | refine FrW.of_refused (bankClearHome_fr ?_) (by assumption) | refine FrW.of_wait (bankClearHome_fr ?_) (by assumption) | refine dictWrite_fr ?_ (fun _ _ => ?_)) | split)

theorem execBankFilterWrite_fr {μ : ℕ} {α : State} {r : Req} {bank : ℕ} {sub : ℕ} {value : ℕ} {s : State} (hyp : Fr μ α s) (within : μ ||| 21976 = μ := by decide) :
    FrR μ α (execBankFilterWrite r bank sub value s) := by
  refine FrR.via hyp ?_ within; unfold execBankFilterWrite; try dsimp only
  repeat' (first | (with_reducible first | exact Fr.refl _ _ | assumption | refine frR_next ?_ | exact frR_fault | refine present_fr ?_ | refine Fr.ite ?_ ?_ | refine filterHome_fr ?_ | refine FrW.of_done (filterHome_fr ?_) (by assumption) | refine FrW.of_refused (filterHome_fr ?_) (by assumption) | refine FrW.of_wait (filterHome_fr ?_) (by assumption) | refine dictWrite_fr ?_ (fun _ _ => ?_)) | split)

theorem execBeyondBoundClear_fr {μ : ℕ} {α : State} {r : Req} {d : ℕ} {s : State} (hyp : Fr μ α s) (within : μ ||| 21976 = μ := by decide) :
    FrR μ α (execBeyondBoundClear r d s) := by
  refine FrR.via hyp ?_ within; unfold execBeyondBoundClear; try dsimp only
  repeat' (first | (with_reducible first | exact Fr.refl _ _ | assumption | refine frR_next ?_ | exact frR_fault | refine present_fr ?_ | refine Fr.ite ?_ ?_ | refine beyondClearHome_fr ?_ | refine FrW.of_done (beyondClearHome_fr ?_) (by assumption) | refine FrW.of_refused (beyondClearHome_fr ?_) (by assumption) | refine FrW.of_wait (beyondClearHome_fr ?_) (by assumption) | refine dictWrite_fr ?_ (fun _ _ => ?_)) | split)

theorem execBundleVerified_fr {μ : ℕ} {α : State} {s : State} (hyp : Fr μ α s) (within : μ ||| 83776988 = μ := by decide) :
    FrR μ α (execBundleVerified s) := by
  refine FrR.via hyp ?_ within; unfold execBundleVerified; try dsimp only
  repeat' (first | (with_reducible first | exact Fr.refl _ _ | assumption | refine frR_next ?_ | exact frR_fault | refine present_fr ?_ | refine Fr.ite ?_ ?_ | refine deepVerified_fr ?_ | refine warmVerified_fr ?_) | split)

theorem execCaCaptureExit_fr {μ : ℕ} {α : State} {c : ℕ} {layer : ℕ} {s : State} (hyp : Fr μ α s) (within : μ ||| 512 = μ := by decide) :
    FrR μ α (execCaCaptureExit c layer s) := by
  refine FrR.via hyp ?_ within; unfold execCaCaptureExit; try dsimp only
  repeat' (first | (with_reducible first | exact Fr.refl _ _ | assumption | refine frR_next ?_ | exact frR_fault | refine present_fr ?_ | refine Fr.ite ?_ ?_ | refine layCaptureExit_fr ?_) | split)

theorem execCacheMissFill_fr {μ : ℕ} {α : State} {s : State} (hyp : Fr μ α s) (within : μ ||| 71193048 = μ := by decide) :
    FrR μ α (execCacheMissFill s) := by
  refine FrR.via hyp ?_ within; unfold execCacheMissFill; try dsimp only
  repeat' (first | (with_reducible first | exact Fr.refl _ _ | assumption | refine frR_next ?_ | exact frR_fault | refine present_fr ?_ | refine Fr.ite ?_ ?_ | refine missFill_fr ?_ | refine serveAll_fr ?_) | split)

theorem execChallenge_fr {μ : ℕ} {α : State} {r : Req} {slot : ℕ} {nonce : ℕ} {s : State} (hyp : Fr μ α s) (within : μ ||| 17600 = μ := by decide) :
    FrR μ α (execChallenge r slot nonce s) := by
  refine FrR.via hyp ?_ within; unfold execChallenge; try dsimp only
  repeat' (first | (with_reducible first | exact Fr.refl _ _ | assumption | refine frR_next ?_ | exact frR_fault | refine present_fr ?_ | refine Fr.ite ?_ ?_ | refine challengeAct_fr ?_ | refine spdmTake_fr ?_ (fun _ => ?_)) | split)

theorem execChannelFault_fr {μ : ℕ} {α : State} {c : ℕ} {placed : Bool} {s : State} (hyp : Fr μ α s) (within : μ ||| 79647708 = μ := by decide) :
    FrR μ α (execChannelFault c placed s) := by
  refine FrR.via hyp ?_ within; unfold execChannelFault; try dsimp only
  repeat' (first | (with_reducible first | exact Fr.refl _ _ | assumption | refine frR_next ?_ | exact frR_fault | refine present_fr ?_ | refine Fr.ite ?_ ?_ | refine channelFault_fr ?_ | refine singleFault_fr ?_ (fun _ => ?_) | refine serveAll_fr ?_) | split)

theorem execChannelRecovered_fr {μ : ℕ} {α : State} {c : ℕ} {ok : Bool} {s : State} (hyp : Fr μ α s) (within : μ ||| 71193560 = μ := by decide) :
    FrR μ α (execChannelRecovered c ok s) := by
  refine FrR.via hyp ?_ within; unfold execChannelRecovered; try dsimp only
  repeat' (first | (with_reducible first | exact Fr.refl _ _ | assumption | refine frR_next ?_ | exact frR_fault | refine present_fr ?_ | refine Fr.ite ?_ ?_ | refine channelRecovered_fr ?_ | refine serveAll_fr ?_) | split)

theorem execChannelRecoveryTimeout_fr {μ : ℕ} {α : State} {c : ℕ} {s : State} (hyp : Fr μ α s) (within : μ ||| 71193560 = μ := by decide) :
    FrR μ α (execChannelRecoveryTimeout c s) := by
  refine FrR.via hyp ?_ within; unfold execChannelRecoveryTimeout; try dsimp only
  repeat' (first | (with_reducible first | exact Fr.refl _ _ | assumption | refine frR_next ?_ | exact frR_fault | refine present_fr ?_ | refine Fr.ite ?_ ?_ | refine failChannel_fr ?_ | refine serveAll_fr ?_) | split)

theorem execChannelRejoin_fr {μ : ℕ} {α : State} {r : Req} {c : ℕ} {s : State} (hyp : Fr μ α s) (within : μ ||| 349656 = μ := by decide) :
    FrR μ α (execChannelRejoin r c s) := by
  refine FrR.via hyp ?_ within; unfold execChannelRejoin; try dsimp only
  repeat' (first | (with_reducible first | exact Fr.refl _ _ | assumption | refine frR_next ?_ | exact frR_fault | refine present_fr ?_ | refine Fr.ite ?_ ?_ | refine channelRejoinHome_fr ?_ | refine FrW.of_done (channelRejoinHome_fr ?_) (by assumption) | refine FrW.of_refused (channelRejoinHome_fr ?_) (by assumption) | refine FrW.of_wait (channelRejoinHome_fr ?_) (by assumption) | refine dictWrite_fr ?_ (fun _ _ => ?_)) | split)

theorem execChannelSlot_fr {μ : ℕ} {α : State} {c : ℕ} {fault : ℕ} {s : State} (hyp : Fr μ α s) (within : μ ||| 83850200 = μ := by decide) :
    FrR μ α (execChannelSlot c fault s) := by
  refine FrR.via hyp ?_ within; unfold execChannelSlot; try dsimp only
  repeat' (first | (with_reducible first | exact Fr.refl _ _ | assumption | refine frR_next ?_ | exact frR_fault | refine present_fr ?_ | refine Fr.ite ?_ ?_ | refine channelSlot_fr ?_) | split)

theorem execCheckerSelfTestDone_fr {μ : ℕ} {α : State} {channels : List ℕ} {journalA : Bool} {journalB : Bool} {comparators : Bool} {monitors : Bool} {replicas : List ℕ} {slices : List ℕ} {s : State} (hyp : Fr μ α s) (within : μ ||| 99505116 = μ := by decide) :
    FrR μ α (execCheckerSelfTestDone channels journalA journalB comparators monitors replicas slices s) := by
  refine FrR.via hyp ?_ within; unfold execCheckerSelfTestDone; try dsimp only
  repeat' (first | (with_reducible first | exact Fr.refl _ _ | assumption | refine frR_next ?_ | exact frR_fault | refine present_fr ?_ | refine Fr.ite ?_ ?_ | refine selfTestDone_fr ?_) | split)

theorem execChunkGet_fr {μ : ℕ} {α : State} {r : Req} {seq : ℕ} {s : State} (hyp : Fr μ α s) (within : μ ||| 17600 = μ := by decide) :
    FrR μ α (execChunkGet r seq s) := by
  refine FrR.via hyp ?_ within; unfold execChunkGet; try dsimp only
  repeat' (first | (with_reducible first | exact Fr.refl _ _ | assumption | refine frR_next ?_ | exact frR_fault | refine present_fr ?_ | refine Fr.ite ?_ ?_ | refine chunkGetAct_fr ?_ | refine spdmTake_fr ?_ (fun _ => ?_)) | split)

theorem execChunkSend_fr {μ : ℕ} {α : State} {r : Req} {seq : ℕ} {last : Bool} {data : List Byte} {s : State} (hyp : Fr μ α s) (within : μ ||| 17600 = μ := by decide) :
    FrR μ α (execChunkSend r seq last data s) := by
  refine FrR.via hyp ?_ within; unfold execChunkSend; try dsimp only
  repeat' (first | (with_reducible first | exact Fr.refl _ _ | assumption | refine frR_next ?_ | exact frR_fault | refine present_fr ?_ | refine Fr.ite ?_ ?_ | refine chunkSendAct_fr ?_ | refine spdmTake_fr ?_ (fun _ => ?_)) | split)

theorem execClaim_fr {μ : ℕ} {α : State} {r : Req} {s : State} (hyp : Fr μ α s) (within : μ ||| 71196120 = μ := by decide) :
    FrR μ α (execClaim r s) := by
  refine FrR.via hyp ?_ within; unfold execClaim; try dsimp only
  repeat' (first | (with_reducible first | exact Fr.refl _ _ | assumption | refine frR_next ?_ | exact frR_fault | refine present_fr ?_ | refine Fr.ite ?_ ?_ | refine ownerHome_fr ?_ | refine FrW.of_done (ownerHome_fr ?_) (by assumption) | refine FrW.of_refused (ownerHome_fr ?_) (by assumption) | refine FrW.of_wait (ownerHome_fr ?_) (by assumption) | refine dictWrite_fr ?_ (fun _ _ => ?_)) | split)

theorem execClearAll_fr {μ : ℕ} {α : State} {r : Req} {s : State} (hyp : Fr μ α s) (within : μ ||| 21976 = μ := by decide) :
    FrR μ α (execClearAll r s) := by
  refine FrR.via hyp ?_ within; unfold execClearAll; try dsimp only
  repeat' (first | (with_reducible first | exact Fr.refl _ _ | assumption | refine frR_next ?_ | exact frR_fault | refine present_fr ?_ | refine Fr.ite ?_ ?_ | refine clearAllHome_fr ?_ | refine FrW.of_done (clearAllHome_fr ?_) (by assumption) | refine FrW.of_refused (clearAllHome_fr ?_) (by assumption) | refine FrW.of_wait (clearAllHome_fr ?_) (by assumption) | refine dictWrite_fr ?_ (fun _ _ => ?_)) | split)

theorem execClockEnableWrite_fr {μ : ℕ} {α : State} {r : Req} {sub : ℕ} {value : ℕ} {s : State} (hyp : Fr μ α s) (within : μ ||| 16799192 = μ := by decide) :
    FrR μ α (execClockEnableWrite r sub value s) := by
  refine FrR.via hyp ?_ within; unfold execClockEnableWrite; try dsimp only
  repeat' (first | (with_reducible first | exact Fr.refl _ _ | assumption | refine frR_next ?_ | exact frR_fault | refine present_fr ?_ | refine Fr.ite ?_ ?_ | refine enableHome_fr ?_ | refine FrW.of_done (enableHome_fr ?_) (by assumption) | refine FrW.of_refused (enableHome_fr ?_) (by assumption) | refine FrW.of_wait (enableHome_fr ?_) (by assumption) | refine dictWrite_fr ?_ (fun _ _ => ?_)) | split)

theorem execClockMonitorWindow_fr {μ : ℕ} {α : State} {m : ℕ} {count : ℕ} {ended : Bool} {lock : Bool} {kfoOff : Bool} {ksoOff : Bool} {s : State} (hyp : Fr μ α s) (within : μ ||| 96424924 = μ := by decide) :
    FrR μ α (execClockMonitorWindow m count ended lock kfoOff ksoOff s) := by
  refine FrR.via hyp ?_ within; unfold execClockMonitorWindow; try dsimp only
  repeat' (first | (with_reducible first | exact Fr.refl _ _ | assumption | refine frR_next ?_ | exact frR_fault | refine present_fr ?_ | refine Fr.ite ?_ ?_ | refine monitorWindow_fr ?_ | refine serveAll_fr ?_) | split)

theorem execClosedRecordExpiry_fr {μ : ℕ} {α : State} {s : State} (hyp : Fr μ α s) (within : μ ||| 524288 = μ := by decide) :
    FrR μ α (execClosedRecordExpiry s) := by
  refine FrR.via hyp ?_ within; unfold execClosedRecordExpiry; try dsimp only
  repeat' (first | (with_reducible first | exact Fr.refl _ _ | assumption | refine frR_next ?_ | exact frR_fault | refine present_fr ?_ | refine Fr.ite ?_ ?_ | refine expireRecords_fr ?_) | split)

theorem execCoalesceAgeExpiry_fr {μ : ℕ} {α : State} {s : State} (hyp : Fr μ α s) (within : μ ||| 71193052 = μ := by decide) :
    FrR μ α (execCoalesceAgeExpiry s) := by
  refine FrR.via hyp ?_ within; unfold execCoalesceAgeExpiry; try dsimp only
  repeat' (first | (with_reducible first | exact Fr.refl _ _ | assumption | refine frR_next ?_ | exact frR_fault | refine present_fr ?_ | refine Fr.ite ?_ ?_ | refine coalesceAged_fr ?_ | refine pumpFar_fr ?_) | split)

theorem execCommandParityError_fr {μ : ℕ} {α : State} {c : ℕ} {s : State} (hyp : Fr μ α s) (within : μ ||| 576 = μ := by decide) :
    FrR μ α (execCommandParityError c s) := by
  refine FrR.via hyp ?_ within; unfold execCommandParityError; try dsimp only
  repeat' (first | (with_reducible first | exact Fr.refl _ _ | assumption | refine frR_next ?_ | exact frR_fault | refine present_fr ?_ | refine Fr.ite ?_ ?_ | refine layParity_fr ?_) | split)

theorem execCommitPoint_fr {μ : ℕ} {α : State} {s : State} (hyp : Fr μ α s) (within : μ ||| 86488 = μ := by decide) :
    FrR μ α (execCommitPoint s) := by
  refine FrR.via hyp ?_ within; unfold execCommitPoint; try dsimp only
  repeat' (first | (with_reducible first | exact Fr.refl _ _ | assumption | refine frR_next ?_ | exact frR_fault | refine present_fr ?_ | refine Fr.ite ?_ ?_ | refine commitPoint_fr ?_) | split)

theorem execCommitTide_fr {μ : ℕ} {α : State} {h : ℕ} {hdr : Hdr} {frame : ℕ} {s : State} (hyp : Fr μ α s) (within : μ ||| 86488 = μ := by decide) :
    FrR μ α (execCommitTide h hdr frame s) := by
  refine FrR.via hyp ?_ within; unfold execCommitTide; try dsimp only
  repeat' (first | (with_reducible first | exact Fr.refl _ _ | assumption | refine frR_next ?_ | exact frR_fault | refine present_fr ?_ | refine Fr.ite ?_ ?_ | refine commitTide_fr ?_ | refine takeParcel_fr ?_ (fun _ => ?_)) | split)

theorem execCompletionDelivery_fr {μ : ℕ} {α : State} {port : Port} {s : State} (hyp : Fr μ α s) (within : μ ||| 67391960 = μ := by decide) :
    FrR μ α (execCompletionDelivery port s) := by
  refine FrR.via hyp ?_ within; unfold execCompletionDelivery; try dsimp only
  repeat' (first | (with_reducible first | exact Fr.refl _ _ | assumption | refine frR_next ?_ | exact frR_fault | refine present_fr ?_ | refine Fr.ite ?_ ?_ | refine deliver_fr ?_) | split)

theorem execCompletionParcel_fr {μ : ℕ} {α : State} {h : ℕ} {hdr : Hdr} {body : List Byte} {s : State} (hyp : Fr μ α s) (within : μ ||| 71193048 = μ := by decide) :
    FrR μ α (execCompletionParcel h hdr body s) := by
  refine FrR.via hyp ?_ within; unfold execCompletionParcel; try dsimp only
  repeat' (first | (with_reducible first | exact Fr.refl _ _ | assumption | refine frR_next ?_ | exact frR_fault | refine present_fr ?_ | refine Fr.ite ?_ ?_ | refine completionTaken_fr ?_ | refine takeChecked_fr ?_ (fun _ => ?_)) | split)

theorem execConfigBlockersClear_fr {μ : ℕ} {α : State} {s : State} (hyp : Fr μ α s) (within : μ ||| 71193052 = μ := by decide) :
    FrR μ α (execConfigBlockersClear s) := by
  refine FrR.via hyp ?_ within; unfold execConfigBlockersClear; try dsimp only
  repeat' (first | (with_reducible first | exact Fr.refl _ _ | assumption | refine frR_next ?_ | exact frR_fault | refine present_fr ?_ | refine Fr.ite ?_ ?_ | refine blockersClear_fr ?_ | refine serveAll_fr ?_) | split)

theorem execConsumedWrite_fr {μ : ℕ} {α : State} {r : Req} {seq : ℕ} {s : State} (hyp : Fr μ α s) (within : μ ||| 67130840 = μ := by decide) :
    FrR μ α (execConsumedWrite r seq s) := by
  refine FrR.via hyp ?_ within; unfold execConsumedWrite; try dsimp only
  repeat' (first | (with_reducible first | exact Fr.refl _ _ | assumption | refine frR_next ?_ | exact frR_fault | refine present_fr ?_ | refine Fr.ite ?_ ?_ | refine consumedHome_fr ?_ | refine FrW.of_done (consumedHome_fr ?_) (by assumption) | refine FrW.of_refused (consumedHome_fr ?_) (by assumption) | refine FrW.of_wait (consumedHome_fr ?_) (by assumption) | refine dictWrite_fr ?_ (fun _ _ => ?_)) | split)

theorem execContributionApply_fr {μ : ℕ} {α : State} {a : ℕ} {s : State} (hyp : Fr μ α s) (within : μ ||| 71193048 = μ := by decide) :
    FrR μ α (execContributionApply a s) := by
  refine FrR.via hyp ?_ within; unfold execContributionApply; try dsimp only
  repeat' (first | (with_reducible first | exact Fr.refl _ _ | assumption | refine frR_next ?_ | exact frR_fault | refine present_fr ?_ | refine Fr.ite ?_ ?_ | refine contribute_fr ?_ | refine serveAll_fr ?_) | split)

theorem execCooledRestart_fr {μ : ℕ} {α : State} {s : State} (hyp : Fr μ α s) (within : μ ||| 4215000 = μ := by decide) :
    FrR μ α (execCooledRestart s) := by
  refine FrR.via hyp ?_ within; unfold execCooledRestart; try dsimp only
  repeat' (first | (with_reducible first | exact Fr.refl _ _ | assumption | refine frR_next ?_ | exact frR_fault | refine present_fr ?_ | refine Fr.ite ?_ ?_ | refine cooledRestart_fr ?_) | split)

theorem execCopyBack_fr {μ : ℕ} {α : State} {r : Req} {c : ℕ} {s : State} (hyp : Fr μ α s) (within : μ ||| 284120 = μ := by decide) :
    FrR μ α (execCopyBack r c s) := by
  refine FrR.via hyp ?_ within; unfold execCopyBack; try dsimp only
  repeat' (first | (with_reducible first | exact Fr.refl _ _ | assumption | refine frR_next ?_ | exact frR_fault | refine present_fr ?_ | refine Fr.ite ?_ ?_ | refine copyBackHome_fr ?_ | refine FrW.of_done (copyBackHome_fr ?_) (by assumption) | refine FrW.of_refused (copyBackHome_fr ?_) (by assumption) | refine FrW.of_wait (copyBackHome_fr ?_) (by assumption) | refine dictWrite_fr ?_ (fun _ _ => ?_)) | split)

theorem execCopyBackDone_fr {μ : ℕ} {α : State} {s : State} (hyp : Fr μ α s) (within : μ ||| 283352 = μ := by decide) :
    FrR μ α (execCopyBackDone s) := by
  refine FrR.via hyp ?_ within; unfold execCopyBackDone; try dsimp only
  repeat' (first | (with_reducible first | exact Fr.refl _ _ | assumption | refine frR_next ?_ | exact frR_fault | refine present_fr ?_ | refine Fr.ite ?_ ?_ | refine copyBackDone_fr ?_) | split)

theorem execCrossingReopened_fr {μ : ℕ} {α : State} {x : Crossing} {s : State} (hyp : Fr μ α s) (within : μ ||| 87970268 = μ := by decide) :
    FrR μ α (execCrossingReopened x s) := by
  refine FrR.via hyp ?_ within; unfold execCrossingReopened; try dsimp only
  repeat' (first | (with_reducible first | exact Fr.refl _ _ | assumption | refine frR_next ?_ | exact frR_fault | refine present_fr ?_ | refine Fr.ite ?_ ?_ | refine crossingReopened_fr ?_ | refine pump_fr ?_) | split)

theorem execCrossingReset_fr {μ : ℕ} {α : State} {x : Crossing} {s : State} (hyp : Fr μ α s) (within : μ ||| 87970268 = μ := by decide) :
    FrR μ α (execCrossingReset x s) := by
  refine FrR.via hyp ?_ within; unfold execCrossingReset; try dsimp only
  repeat' (first | (with_reducible first | exact Fr.refl _ _ | assumption | refine frR_next ?_ | exact frR_fault | refine present_fr ?_ | refine Fr.ite ?_ ?_ | refine crossingReset_fr ?_ | refine pump_fr ?_) | split)

theorem execDebugUnlock_fr {μ : ℕ} {α : State} {code : ℕ} {s : State} (hyp : Fr μ α s) (within : μ ||| 71194072 = μ := by decide) :
    FrR μ α (execDebugUnlock code s) := by
  refine FrR.via hyp ?_ within; unfold execDebugUnlock; try dsimp only
  repeat' (first | (with_reducible first | exact Fr.refl _ _ | assumption | refine frR_next ?_ | exact frR_fault | refine present_fr ?_ | refine Fr.ite ?_ ?_ | refine debugUnlock_fr ?_ | refine serveAll_fr ?_) | split)

theorem execDeepSegmentPoisonDone_fr {μ : ℕ} {α : State} {c : ℕ} {s : State} (hyp : Fr μ α s) (within : μ ||| 283352 = μ := by decide) :
    FrR μ α (execDeepSegmentPoisonDone c s) := by
  refine FrR.via hyp ?_ within; unfold execDeepSegmentPoisonDone; try dsimp only
  repeat' (first | (with_reducible first | exact Fr.refl _ _ | assumption | refine frR_next ?_ | exact frR_fault | refine present_fr ?_ | refine Fr.ite ?_ ?_ | refine deepPoison_fr ?_) | split)

theorem execDeferTide_fr {μ : ℕ} {α : State} {h : ℕ} {hdr : Hdr} {frame : ℕ} {s : State} (hyp : Fr μ α s) (within : μ ||| 86488 = μ := by decide) :
    FrR μ α (execDeferTide h hdr frame s) := by
  refine FrR.via hyp ?_ within; unfold execDeferTide; try dsimp only
  repeat' (first | (with_reducible first | exact Fr.refl _ _ | assumption | refine frR_next ?_ | exact frR_fault | refine present_fr ?_ | refine Fr.ite ?_ ?_ | refine deferTide_fr ?_ | refine takeParcel_fr ?_ (fun _ => ?_)) | split)

theorem execDegradeStepEnd_fr {μ : ℕ} {α : State} {n : ℕ} {s : State} (hyp : Fr μ α s) (within : μ ||| 20696 = μ := by decide) :
    FrR μ α (execDegradeStepEnd n s) := by
  refine FrR.via hyp ?_ within; unfold execDegradeStepEnd; try dsimp only
  repeat' (first | (with_reducible first | exact Fr.refl _ _ | assumption | refine frR_next ?_ | exact frR_fault | refine present_fr ?_ | refine Fr.ite ?_ ?_ | refine raiseNode_fr ?_ | refine State.setOb_fr ?_) | split)

theorem execDictionaryWrite_fr {μ : ℕ} {α : State} {r : Req} {idx : ℕ} {sub : ℕ} {value : List Byte} {s : State} (hyp : Fr μ α s) (within : μ ||| 134184956 = μ := by decide) :
    FrR μ α (execDictionaryWrite r idx sub value s) := by
  refine FrR.via hyp ?_ within; unfold execDictionaryWrite; try dsimp only
  repeat' (first | (with_reducible first | exact Fr.refl _ _ | assumption | refine frR_next ?_ | exact frR_fault | refine present_fr ?_ | refine Fr.ite ?_ ?_ | refine writeHome_fr ?_ | refine FrW.of_done (writeHome_fr ?_) (by assumption) | refine FrW.of_refused (writeHome_fr ?_) (by assumption) | refine FrW.of_wait (writeHome_fr ?_) (by assumption) | refine dictWrite_fr ?_ (fun _ _ => ?_)) | split)

theorem execDisplacingDone_fr {μ : ℕ} {α : State} {s : State} (hyp : Fr μ α s) (within : μ ||| 262208 = μ := by decide) :
    FrR μ α (execDisplacingDone s) := by
  refine FrR.via hyp ?_ within; unfold execDisplacingDone; try dsimp only
  repeat' (first | (with_reducible first | exact Fr.refl _ _ | assumption | refine frR_next ?_ | exact frR_fault | refine present_fr ?_ | refine Fr.ite ?_ ?_ | refine displacingDone_fr ?_) | split)

theorem execDividerStep_fr {μ : ℕ} {α : State} {d : ℕ} {s : State} (hyp : Fr μ α s) (within : μ ||| 87970264 = μ := by decide) :
    FrR μ α (execDividerStep d s) := by
  refine FrR.via hyp ?_ within; unfold execDividerStep; try dsimp only
  repeat' (first | (with_reducible first | exact Fr.refl _ _ | assumption | refine frR_next ?_ | exact frR_fault | refine present_fr ?_ | refine Fr.ite ?_ ?_ | refine dividerStep_fr ?_ | refine serveAll_fr ?_) | split)

theorem execDoneParcel_fr {μ : ℕ} {α : State} {h : ℕ} {hdr : Hdr} {s : State} (hyp : Fr μ α s) (within : μ ||| 71193048 = μ := by decide) :
    FrR μ α (execDoneParcel h hdr s) := by
  refine FrR.via hyp ?_ within; unfold execDoneParcel; try dsimp only
  repeat' (first | (with_reducible first | exact Fr.refl _ _ | assumption | refine frR_next ?_ | exact frR_fault | refine present_fr ?_ | refine Fr.ite ?_ ?_ | refine doneTaken_fr ?_ | refine takeParcel_fr ?_ (fun _ => ?_)) | split)

theorem execDoorbell_fr {μ : ℕ} {α : State} {message : List Byte} {s : State} (hyp : Fr μ α s) (within : μ ||| 134184956 = μ := by decide) :
    FrR μ α (execDoorbell message s) := by
  refine FrR.via hyp ?_ within; unfold execDoorbell; try dsimp only
  repeat' (first | (with_reducible first | exact Fr.refl _ _ | assumption | refine frR_next ?_ | exact frR_fault | refine present_fr ?_ | refine Fr.ite ?_ ?_ | refine doorbell_fr ?_) | split)

theorem execDrainBeat_fr {μ : ℕ} {α : State} {t : ℕ} {n : ℕ} {h0 : Option ℕ} {h1 : Option ℕ} {s : State} (hyp : Fr μ α s) (within : μ ||| 70144472 = μ := by decide) :
    FrR μ α (execDrainBeat t n h0 h1 s) := by
  refine FrR.via hyp ?_ within; unfold execDrainBeat; try dsimp only
  repeat' (first | (with_reducible first | exact Fr.refl _ _ | assumption | refine frR_next ?_ | exact frR_fault | refine present_fr ?_ | refine Fr.ite ?_ ?_ | refine drainBeat_fr ?_) | split)

theorem execDrainLineNarrowed_fr {μ : ℕ} {α : State} {n : ℕ} {s : State} (hyp : Fr μ α s) (within : μ ||| 70144472 = μ := by decide) :
    FrR μ α (execDrainLineNarrowed n s) := by
  refine FrR.via hyp ?_ within; unfold execDrainLineNarrowed; try dsimp only
  repeat' (first | (with_reducible first | exact Fr.refl _ _ | assumption | refine frR_next ?_ | exact frR_fault | refine present_fr ?_ | refine Fr.ite ?_ ?_ | refine narrowNext_fr ?_) | split)

theorem execEndSession_fr {μ : ℕ} {α : State} {r : Req} {id : ℕ} {s : State} (hyp : Fr μ α s) (within : μ ||| 21720 = μ := by decide) :
    FrR μ α (execEndSession r id s) := by
  refine FrR.via hyp ?_ within; unfold execEndSession; try dsimp only
  repeat' (first | (with_reducible first | exact Fr.refl _ _ | assumption | refine frR_next ?_ | exact frR_fault | refine present_fr ?_ | refine Fr.ite ?_ ?_ | refine endSessionAct_fr ?_ | refine spdmTake_fr ?_ (fun _ => ?_)) | split)

theorem execEngineFault_fr {μ : ℕ} {α : State} {e : ℕ} {s : State} (hyp : Fr μ α s) (within : μ ||| 71258588 = μ := by decide) :
    FrR μ α (execEngineFault e s) := by
  refine FrR.via hyp ?_ within; unfold execEngineFault; try dsimp only
  repeat' (first | (with_reducible first | exact Fr.refl _ _ | assumption | refine frR_next ?_ | exact frR_fault | refine present_fr ?_ | refine Fr.ite ?_ ?_ | refine engineFault_fr ?_ | refine singleFault_fr ?_ (fun _ => ?_) | refine serveAll_fr ?_) | split)

theorem execEngineRejoin_fr {μ : ℕ} {α : State} {r : Req} {e : ℕ} {s : State} (hyp : Fr μ α s) (within : μ ||| 218584 = μ := by decide) :
    FrR μ α (execEngineRejoin r e s) := by
  refine FrR.via hyp ?_ within; unfold execEngineRejoin; try dsimp only
  repeat' (first | (with_reducible first | exact Fr.refl _ _ | assumption | refine frR_next ?_ | exact frR_fault | refine present_fr ?_ | refine Fr.ite ?_ ?_ | refine engineRejoinHome_fr ?_ | refine FrW.of_done (engineRejoinHome_fr ?_) (by assumption) | refine FrW.of_refused (engineRejoinHome_fr ?_) (by assumption) | refine FrW.of_wait (engineRejoinHome_fr ?_) (by assumption) | refine dictWrite_fr ?_ (fun _ _ => ?_)) | split)

theorem execErase_fr {μ : ℕ} {α : State} {r : Req} {world : Bool} {slot : ℕ} {s : State} (hyp : Fr μ α s) (within : μ ||| 30168 = μ := by decide) :
    FrR μ α (execErase r world slot s) := by
  refine FrR.via hyp ?_ within; unfold execErase; try dsimp only
  repeat' (first | (with_reducible first | exact Fr.refl _ _ | assumption | refine frR_next ?_ | exact frR_fault | refine present_fr ?_ | refine Fr.ite ?_ ?_ | refine keyWrite_fr ?_) | split)

theorem execEscapeReadDone_fr {μ : ℕ} {α : State} {s : State} (hyp : Fr μ α s) (within : μ ||| 71193048 = μ := by decide) :
    FrR μ α (execEscapeReadDone s) := by
  refine FrR.via hyp ?_ within; unfold execEscapeReadDone; try dsimp only
  repeat' (first | (with_reducible first | exact Fr.refl _ _ | assumption | refine frR_next ?_ | exact frR_fault | refine present_fr ?_ | refine Fr.ite ?_ ?_ | refine endEscapes_fr ?_ | refine serveAll_fr ?_) | split)

theorem execFallbackTimeout_fr {μ : ℕ} {α : State} {d : ℕ} {s : State} (hyp : Fr μ α s) (within : μ ||| 88035804 = μ := by decide) :
    FrR μ α (execFallbackTimeout d s) := by
  refine FrR.via hyp ?_ within; unfold execFallbackTimeout; try dsimp only
  repeat' (first | (with_reducible first | exact Fr.refl _ _ | assumption | refine frR_next ?_ | exact frR_fault | refine present_fr ?_ | refine Fr.ite ?_ ?_ | refine fallbackTimeout_fr ?_ | refine serveAll_fr ?_) | split)

theorem execFarPortDown_fr {μ : ℕ} {α : State} {s : State} (hyp : Fr μ α s) (within : μ ||| 71193052 = μ := by decide) :
    FrR μ α (execFarPortDown s) := by
  refine FrR.via hyp ?_ within; unfold execFarPortDown; try dsimp only
  repeat' (first | (with_reducible first | exact Fr.refl _ _ | assumption | refine frR_next ?_ | exact frR_fault | refine present_fr ?_ | refine Fr.ite ?_ ?_ | refine farDown_fr ?_) | split)

theorem execFarPortRejoin_fr {μ : ℕ} {α : State} {r : Req} {s : State} (hyp : Fr μ α s) (within : μ ||| 1136088 = μ := by decide) :
    FrR μ α (execFarPortRejoin r s) := by
  refine FrR.via hyp ?_ within; unfold execFarPortRejoin; try dsimp only
  repeat' (first | (with_reducible first | exact Fr.refl _ _ | assumption | refine frR_next ?_ | exact frR_fault | refine present_fr ?_ | refine Fr.ite ?_ ?_ | refine farRejoinHome_fr ?_ | refine FrW.of_done (farRejoinHome_fr ?_) (by assumption) | refine FrW.of_refused (farRejoinHome_fr ?_) (by assumption) | refine FrW.of_wait (farRejoinHome_fr ?_) (by assumption) | refine dictWrite_fr ?_ (fun _ _ => ?_)) | split)

theorem execFeedCreditReturn_fr {μ : ℕ} {α : State} {t : ℕ} {n : ℕ} {amount : ℕ} {s : State} (hyp : Fr μ α s) (within : μ ||| 70144472 = μ := by decide) :
    FrR μ α (execFeedCreditReturn t n amount s) := by
  refine FrR.via hyp ?_ within; unfold execFeedCreditReturn; try dsimp only
  repeat' (first | (with_reducible first | exact Fr.refl _ _ | assumption | refine frR_next ?_ | exact frR_fault | refine present_fr ?_ | refine Fr.ite ?_ ?_ | refine creditBeat_fr ?_) | split)

theorem execFeedPortTimeout_fr {μ : ℕ} {α : State} {t : ℕ} {beat : Bool} {s : State} (hyp : Fr μ α s) (within : μ ||| 70144472 = μ := by decide) :
    FrR μ α (execFeedPortTimeout t beat s) := by
  refine FrR.via hyp ?_ within; unfold execFeedPortTimeout; try dsimp only
  repeat' (first | (with_reducible first | exact Fr.refl _ _ | assumption | refine frR_next ?_ | exact frR_fault | refine present_fr ?_ | refine Fr.ite ?_ ?_ | refine portDown_fr ?_) | split)

theorem execFenceClear_fr {μ : ℕ} {α : State} {r : Req} {mask : ℕ} {s : State} (hyp : Fr μ α s) (within : μ ||| 87512 = μ := by decide) :
    FrR μ α (execFenceClear r mask s) := by
  refine FrR.via hyp ?_ within; unfold execFenceClear; try dsimp only
  repeat' (first | (with_reducible first | exact Fr.refl _ _ | assumption | refine frR_next ?_ | exact frR_fault | refine present_fr ?_ | refine Fr.ite ?_ ?_ | refine fenceClearHome_fr ?_ | refine FrW.of_done (fenceClearHome_fr ?_) (by assumption) | refine FrW.of_refused (fenceClearHome_fr ?_) (by assumption) | refine FrW.of_wait (fenceClearHome_fr ?_) (by assumption) | refine dictWrite_fr ?_ (fun _ _ => ?_)) | split)

theorem execFenceRequest_fr {μ : ℕ} {α : State} {r : Req} {mask : ℕ} {s : State} (hyp : Fr μ α s) (within : μ ||| 70145496 = μ := by decide) :
    FrR μ α (execFenceRequest r mask s) := by
  refine FrR.via hyp ?_ within; unfold execFenceRequest; try dsimp only
  repeat' (first | (with_reducible first | exact Fr.refl _ _ | assumption | refine frR_next ?_ | exact frR_fault | refine present_fr ?_ | refine Fr.ite ?_ ?_ | refine fenceRequestHome_fr ?_ | refine FrW.of_done (fenceRequestHome_fr ?_) (by assumption) | refine FrW.of_refused (fenceRequestHome_fr ?_) (by assumption) | refine FrW.of_wait (fenceRequestHome_fr ?_) (by assumption) | refine dictWrite_fr ?_ (fun _ _ => ?_)) | split)

theorem execFillReadReturn_fr {μ : ℕ} {α : State} {c : ℕ} {s : State} (hyp : Fr μ α s) (within : μ ||| 75387356 = μ := by decide) :
    FrR μ α (execFillReadReturn c s) := by
  refine FrR.via hyp ?_ within; unfold execFillReadReturn; try dsimp only
  repeat' (first | (with_reducible first | exact Fr.refl _ _ | assumption | refine frR_next ?_ | exact frR_fault | refine present_fr ?_ | refine Fr.ite ?_ ?_ | refine readBack_fr ?_ | refine pump_fr ?_) | split)

theorem execFinish_fr {μ : ℕ} {α : State} {r : Req} {id : ℕ} {ml : Bool} {signature : List Byte} {s : State} (hyp : Fr μ α s) (within : μ ||| 21720 = μ := by decide) :
    FrR μ α (execFinish r id ml signature s) := by
  refine FrR.via hyp ?_ within; unfold execFinish; try dsimp only
  repeat' (first | (with_reducible first | exact Fr.refl _ _ | assumption | refine frR_next ?_ | exact frR_fault | refine present_fr ?_ | refine Fr.ite ?_ ?_ | refine finishAct_fr ?_ | refine spdmTake_fr ?_ (fun _ => ?_)) | split)

theorem execFlowReset_fr {μ : ℕ} {α : State} {h : ℕ} {hdr : Hdr} {base : ℕ} {s : State} (hyp : Fr μ α s) (within : μ ||| 20952 = μ := by decide) :
    FrR μ α (execFlowReset h hdr base s) := by
  refine FrR.via hyp ?_ within; unfold execFlowReset; try dsimp only
  repeat' (first | (with_reducible first | exact Fr.refl _ _ | assumption | refine frR_next ?_ | exact frR_fault | refine present_fr ?_ | refine Fr.ite ?_ ?_ | refine flowReset_fr ?_) | split)

theorem execFlushAll_fr {μ : ℕ} {α : State} {r : Req} {s : State} (hyp : Fr μ α s) (within : μ ||| 67917272 = μ := by decide) :
    FrR μ α (execFlushAll r s) := by
  refine FrR.via hyp ?_ within; unfold execFlushAll; try dsimp only
  repeat' (first | (with_reducible first | exact Fr.refl _ _ | assumption | refine frR_next ?_ | exact frR_fault | refine present_fr ?_ | refine Fr.ite ?_ ?_ | refine flushAllHome_fr ?_ | refine FrW.of_done (flushAllHome_fr ?_) (by assumption) | refine FrW.of_refused (flushAllHome_fr ?_) (by assumption) | refine FrW.of_wait (flushAllHome_fr ?_) (by assumption) | refine dictWrite_fr ?_ (fun _ _ => ?_)) | split)

theorem execFormatUnitFault_fr {μ : ℕ} {α : State} {u : ℕ} {s : State} (hyp : Fr μ α s) (within : μ ||| 71258588 = μ := by decide) :
    FrR μ α (execFormatUnitFault u s) := by
  refine FrR.via hyp ?_ within; unfold execFormatUnitFault; try dsimp only
  repeat' (first | (with_reducible first | exact Fr.refl _ _ | assumption | refine frR_next ?_ | exact frR_fault | refine present_fr ?_ | refine Fr.ite ?_ ?_ | refine unitFault_fr ?_ | refine singleFault_fr ?_ (fun _ => ?_) | refine serveAll_fr ?_) | split)

theorem execFormationTimeout_fr {μ : ℕ} {α : State} {s : State} (hyp : Fr μ α s) (within : μ ||| 20952 = μ := by decide) :
    FrR μ α (execFormationTimeout s) := by
  refine FrR.via hyp ?_ within; unfold execFormationTimeout; try dsimp only
  repeat' (first | (with_reducible first | exact Fr.refl _ _ | assumption | refine frR_next ?_ | exact frR_fault | refine present_fr ?_ | refine Fr.ite ?_ ?_ | refine tryForm_fr ?_) | split)

theorem execFormed_fr {μ : ℕ} {α : State} {h : ℕ} {hdr : Hdr} {lead : ℕ} {mask : ℕ} {time : ℕ} {epoch : ℕ} {s : State} (hyp : Fr μ α s) (within : μ ||| 86492 = μ := by decide) :
    FrR μ α (execFormed h hdr lead mask time epoch s) := by
  refine FrR.via hyp ?_ within; unfold execFormed; try dsimp only
  repeat' (first | (with_reducible first | exact Fr.refl _ _ | assumption | refine frR_next ?_ | exact frR_fault | refine present_fr ?_ | refine Fr.ite ?_ ?_ | refine joinFormed_fr ?_ | refine formSet_fr ?_ | refine takeParcel_fr ?_ (fun _ => ?_)) | split)

theorem execFrameBoundary_fr {μ : ℕ} {α : State} {s : State} (hyp : Fr μ α s) (within : μ ||| 21057752 = μ := by decide) :
    FrR μ α (execFrameBoundary s) := by
  refine FrR.via hyp ?_ within; unfold execFrameBoundary; try dsimp only
  repeat' (first | (with_reducible first | exact Fr.refl _ _ | assumption | refine frR_next ?_ | exact frR_fault | refine present_fr ?_ | refine Fr.ite ?_ ?_ | refine frameBoundary_fr ?_) | split)

theorem execFrameEpoch_fr {μ : ℕ} {α : State} {s : State} (hyp : Fr μ α s) (within : μ ||| 4280792 = μ := by decide) :
    FrR μ α (execFrameEpoch s) := by
  refine FrR.via hyp ?_ within; unfold execFrameEpoch; try dsimp only
  repeat' (first | (with_reducible first | exact Fr.refl _ _ | assumption | refine frR_next ?_ | exact frR_fault | refine present_fr ?_ | refine Fr.ite ?_ ?_ | refine frameEpoch_fr ?_) | split)

theorem execFrameMalformed_fr {μ : ℕ} {α : State} {s : State} (hyp : Fr μ α s) (within : μ ||| 20696 = μ := by decide) :
    FrR μ α (execFrameMalformed s) := by
  refine FrR.via hyp ?_ within; unfold execFrameMalformed; try dsimp only
  repeat' (first | (with_reducible first | exact Fr.refl _ _ | assumption | refine frR_next ?_ | exact frR_fault | refine present_fr ?_ | refine Fr.ite ?_ ?_ | refine State.bump_fr ?_ | refine raiseNode_fr ?_) | split)

theorem execFullTrainingDone_fr {μ : ℕ} {α : State} {c : ℕ} {words : List ℕ} {lanes : ℕ} {ca : ℕ} {bad : ℕ} {caOk : Bool} {s : State} (hyp : Fr μ α s) (within : μ ||| 79582168 = μ := by decide) :
    FrR μ α (execFullTrainingDone c words lanes ca bad caOk s) := by
  refine FrR.via hyp ?_ within; unfold execFullTrainingDone; try dsimp only
  repeat' (first | (with_reducible first | exact Fr.refl _ _ | assumption | refine frR_next ?_ | exact frR_fault | refine present_fr ?_ | refine Fr.ite ?_ ?_ | refine fullDone_fr ?_ | refine serveAll_fr ?_) | split)

theorem execGenerateGcm_fr {μ : ℕ} {α : State} {r : Req} {world : Bool} {slot : ℕ} {s : State} (hyp : Fr μ α s) (within : μ ||| 30168 = μ := by decide) :
    FrR μ α (execGenerateGcm r world slot s) := by
  refine FrR.via hyp ?_ within; unfold execGenerateGcm; try dsimp only
  repeat' (first | (with_reducible first | exact Fr.refl _ _ | assumption | refine frR_next ?_ | exact frR_fault | refine present_fr ?_ | refine Fr.ite ?_ ?_ | refine keyWrite_fr ?_) | split)

theorem execGenerateXts_fr {μ : ℕ} {α : State} {r : Req} {world : Bool} {slot : ℕ} {s : State} (hyp : Fr μ α s) (within : μ ||| 30168 = μ := by decide) :
    FrR μ α (execGenerateXts r world slot s) := by
  refine FrR.via hyp ?_ within; unfold execGenerateXts; try dsimp only
  repeat' (first | (with_reducible first | exact Fr.refl _ _ | assumption | refine frR_next ?_ | exact frR_fault | refine present_fr ?_ | refine Fr.ite ?_ ?_ | refine keyWrite_fr ?_) | split)

theorem execGetCapabilities_fr {μ : ℕ} {α : State} {r : Req} {s : State} (hyp : Fr μ α s) (within : μ ||| 17600 = μ := by decide) :
    FrR μ α (execGetCapabilities r s) := by
  refine FrR.via hyp ?_ within; unfold execGetCapabilities; try dsimp only
  repeat' (first | (with_reducible first | exact Fr.refl _ _ | assumption | refine frR_next ?_ | exact frR_fault | refine present_fr ?_ | refine Fr.ite ?_ ?_ | refine getCapabilitiesAct_fr ?_ | refine spdmTake_fr ?_ (fun _ => ?_)) | split)

theorem execGetCertificate_fr {μ : ℕ} {α : State} {r : Req} {slot : ℕ} {offset : ℕ} {length : ℕ} {s : State} (hyp : Fr μ α s) (within : μ ||| 17600 = μ := by decide) :
    FrR μ α (execGetCertificate r slot offset length s) := by
  refine FrR.via hyp ?_ within; unfold execGetCertificate; try dsimp only
  repeat' (first | (with_reducible first | exact Fr.refl _ _ | assumption | refine frR_next ?_ | exact frR_fault | refine present_fr ?_ | refine Fr.ite ?_ ?_ | refine getCertificateAct_fr ?_ | refine spdmTake_fr ?_ (fun _ => ?_)) | split)

theorem execGetDigests_fr {μ : ℕ} {α : State} {r : Req} {s : State} (hyp : Fr μ α s) (within : μ ||| 17600 = μ := by decide) :
    FrR μ α (execGetDigests r s) := by
  refine FrR.via hyp ?_ within; unfold execGetDigests; try dsimp only
  repeat' (first | (with_reducible first | exact Fr.refl _ _ | assumption | refine frR_next ?_ | exact frR_fault | refine present_fr ?_ | refine Fr.ite ?_ ?_ | refine getDigestsAct_fr ?_ | refine spdmTake_fr ?_ (fun _ => ?_)) | split)

theorem execGetMeasurements_fr {μ : ℕ} {α : State} {r : Req} {index : ℕ} {nonce : ℕ} {sign : Bool} {s : State} (hyp : Fr μ α s) (within : μ ||| 17600 = μ := by decide) :
    FrR μ α (execGetMeasurements r index nonce sign s) := by
  refine FrR.via hyp ?_ within; unfold execGetMeasurements; try dsimp only
  repeat' (first | (with_reducible first | exact Fr.refl _ _ | assumption | refine frR_next ?_ | exact frR_fault | refine present_fr ?_ | refine Fr.ite ?_ ?_ | refine getMeasurementsAct_fr ?_ | refine spdmTake_fr ?_ (fun _ => ?_)) | split)

theorem execGetVersion_fr {μ : ℕ} {α : State} {r : Req} {s : State} (hyp : Fr μ α s) (within : μ ||| 17600 = μ := by decide) :
    FrR μ α (execGetVersion r s) := by
  refine FrR.via hyp ?_ within; unfold execGetVersion; try dsimp only
  repeat' (first | (with_reducible first | exact Fr.refl _ _ | assumption | refine frR_next ?_ | exact frR_fault | refine present_fr ?_ | refine Fr.ite ?_ ?_ | refine getVersionAct_fr ?_ | refine spdmTake_fr ?_ (fun _ => ?_)) | split)

theorem execGleanerSlow_fr {μ : ℕ} {α : State} {c : ℕ} {s : State} (hyp : Fr μ α s) (within : μ ||| 282840 = μ := by decide) :
    FrR μ α (execGleanerSlow c s) := by
  refine FrR.via hyp ?_ within; unfold execGleanerSlow; try dsimp only
  repeat' (first | (with_reducible first | exact Fr.refl _ _ | assumption | refine frR_next ?_ | exact frR_fault | refine present_fr ?_ | refine Fr.ite ?_ ?_ | refine State.modChan_fr ?_ | refine raise_fr ?_) | split)

theorem execGraceExpired_fr {μ : ℕ} {α : State} {st : ℕ} {s : State} (hyp : Fr μ α s) (within : μ ||| 4215000 = μ := by decide) :
    FrR μ α (execGraceExpired st s) := by
  refine FrR.via hyp ?_ within; unfold execGraceExpired; try dsimp only
  repeat' (first | (with_reducible first | exact Fr.refl _ _ | assumption | refine frR_next ?_ | exact frR_fault | refine present_fr ?_ | refine Fr.ite ?_ ?_ | refine graceOver_fr ?_) | split)

theorem execGraceRearm_fr {μ : ℕ} {α : State} {st : ℕ} {s : State} (hyp : Fr μ α s) (within : μ ||| 64 = μ := by decide) :
    FrR μ α (execGraceRearm st s) := by
  refine FrR.via hyp ?_ within; unfold execGraceRearm; try dsimp only
  repeat' (first | (with_reducible first | exact Fr.refl _ _ | assumption | refine frR_next ?_ | exact frR_fault | refine present_fr ?_ | refine Fr.ite ?_ ?_ | refine rearmGrace_fr ?_) | split)

theorem execGroupRetrainDone_fr {μ : ℕ} {α : State} {c : ℕ} {outcome : ℕ} {rv : ℕ} {wv : ℕ} {delays : List ℕ} {s : State} (hyp : Fr μ α s) (within : μ ||| 78533592 = μ := by decide) :
    FrR μ α (execGroupRetrainDone c outcome rv wv delays s) := by
  refine FrR.via hyp ?_ within; unfold execGroupRetrainDone; try dsimp only
  repeat' (first | (with_reducible first | exact Fr.refl _ _ | assumption | refine frR_next ?_ | exact frR_fault | refine present_fr ?_ | refine Fr.ite ?_ ?_ | refine groupDone_fr ?_) | split)

theorem execHaltedSensorCheck_fr {μ : ℕ} {α : State} {st : ℕ} {s : State} (hyp : Fr μ α s) (within : μ ||| 4477656 = μ := by decide) :
    FrR μ α (execHaltedSensorCheck st s) := by
  refine FrR.via hyp ?_ within; unfold execHaltedSensorCheck; try dsimp only
  repeat' (first | (with_reducible first | exact Fr.refl _ _ | assumption | refine frR_next ?_ | exact frR_fault | refine present_fr ?_ | refine Fr.ite ?_ ?_ | refine haltedCheck_fr ?_) | split)

theorem execHardRepairDone_fr {μ : ℕ} {α : State} {c : ℕ} {layer : ℕ} {verified : Bool} {s : State} (hyp : Fr μ α s) (within : μ ||| 283352 = μ := by decide) :
    FrR μ α (execHardRepairDone c layer verified s) := by
  refine FrR.via hyp ?_ within; unfold execHardRepairDone; try dsimp only
  repeat' (first | (with_reducible first | exact Fr.refl _ _ | assumption | refine frR_next ?_ | exact frR_fault | refine present_fr ?_ | refine Fr.ite ?_ ?_ | refine hardDone_fr ?_) | split)

theorem execHardwareComparator_fr {μ : ℕ} {α : State} {s : State} (hyp : Fr μ α s) (within : μ ||| 75452892 = μ := by decide) :
    FrR μ α (execHardwareComparator s) := by
  refine FrR.via hyp ?_ within; unfold execHardwareComparator; try dsimp only
  repeat' (first | (with_reducible first | exact Fr.refl _ _ | assumption | refine frR_next ?_ | exact frR_fault | refine present_fr ?_ | refine Fr.ite ?_ ?_ | refine ladderStep_fr ?_ | refine serveAll_fr ?_ | refine comparators_fr ?_ | refine tripStep_fr ?_) | split)

theorem execHealWriteConfirmed_fr {μ : ℕ} {α : State} {c : ℕ} {s : State} (hyp : Fr μ α s) (within : μ ||| 71193052 = μ := by decide) :
    FrR μ α (execHealWriteConfirmed c s) := by
  refine FrR.via hyp ?_ within; unfold execHealWriteConfirmed; try dsimp only
  repeat' (first | (with_reducible first | exact Fr.refl _ _ | assumption | refine frR_next ?_ | exact frR_fault | refine present_fr ?_ | refine Fr.ite ?_ ?_ | refine healConfirmed_fr ?_ | refine pump_fr ?_) | split)

theorem execHeartbeat_fr {μ : ℕ} {α : State} {r : Req} {id : ℕ} {s : State} (hyp : Fr μ α s) (within : μ ||| 17600 = μ := by decide) :
    FrR μ α (execHeartbeat r id s) := by
  refine FrR.via hyp ?_ within; unfold execHeartbeat; try dsimp only
  repeat' (first | (with_reducible first | exact Fr.refl _ _ | assumption | refine frR_next ?_ | exact frR_fault | refine present_fr ?_ | refine Fr.ite ?_ ?_ | refine heartbeatAct_fr ?_ | refine spdmTake_fr ?_ (fun _ => ?_)) | split)

theorem execHeartbeatTimer_fr {μ : ℕ} {α : State} {s : State} (hyp : Fr μ α s) (within : μ ||| 16576 = μ := by decide) :
    FrR μ α (execHeartbeatTimer s) := by
  refine FrR.via hyp ?_ within; unfold execHeartbeatTimer; try dsimp only
  repeat' (first | (with_reducible first | exact Fr.refl _ _ | assumption | refine frR_next ?_ | exact frR_fault | refine present_fr ?_ | refine Fr.ite ?_ ?_ | refine State.bump_fr ?_ | refine State.send_fr ?_) | split | with_reducible refine Fr.set_mgmt ?_)

theorem execHello_fr {μ : ℕ} {α : State} {h : ℕ} {node : ℕ} {setNodes : ℕ} {nstacks : ℕ} {version : ℕ} {nextHop : ℕ} {setTag : ℕ} {bundle : ℕ} {s : State} (hyp : Fr μ α s) (within : μ ||| 20952 = μ := by decide) :
    FrR μ α (execHello h node setNodes nstacks version nextHop setTag bundle s) := by
  refine FrR.via hyp ?_ within; unfold execHello; try dsimp only
  repeat' (first | (with_reducible first | exact Fr.refl _ _ | assumption | refine frR_next ?_ | exact frR_fault | refine present_fr ?_ | refine Fr.ite ?_ ?_ | refine helloTaken_fr ?_) | split)

theorem execHopAck_fr {μ : ℕ} {α : State} {h : ℕ} {hop : ℕ} {room : ℕ} {s : State} (hyp : Fr μ α s) (within : μ ||| 20952 = μ := by decide) :
    FrR μ α (execHopAck h hop room s) := by
  refine FrR.via hyp ?_ within; unfold execHopAck; try dsimp only
  repeat' (first | (with_reducible first | exact Fr.refl _ _ | assumption | refine frR_next ?_ | exact frR_fault | refine present_fr ?_ | refine Fr.ite ?_ ?_ | refine State.setPort_fr ?_ | refine heard_fr ?_) | split)

theorem execHopAckSendTimer_fr {μ : ℕ} {α : State} {h : ℕ} {s : State} (hyp : Fr μ α s) (within : μ ||| 256 = μ := by decide) :
    FrR μ α (execHopAckSendTimer h s) := by
  refine FrR.via hyp ?_ within; unfold execHopAckSendTimer; try dsimp only
  repeat' (first | (with_reducible first | exact Fr.refl _ _ | assumption | refine frR_next ?_ | exact frR_fault | refine present_fr ?_ | refine Fr.ite ?_ ?_ | refine sendHopAck_fr ?_) | split)

theorem execImageSelection_fr {μ : ℕ} {α : State} {usable : Bool} {density : ℕ} {mode : ℕ} {s : State} (hyp : Fr μ α s) (within : μ ||| 108942812 = μ := by decide) :
    FrR μ α (execImageSelection usable density mode s) := by
  refine FrR.via hyp ?_ within; unfold execImageSelection; try dsimp only
  repeat' (first | (with_reducible first | exact Fr.refl _ _ | assumption | refine frR_next ?_ | exact frR_fault | refine present_fr ?_ | refine Fr.ite ?_ ?_ | refine imageSelection_fr ?_) | split)

theorem execImportVerify_fr {μ : ℕ} {α : State} {r : Req} {world : Bool} {slot : ℕ} {s : State} (hyp : Fr μ α s) (within : μ ||| 30168 = μ := by decide) :
    FrR μ α (execImportVerify r world slot s) := by
  refine FrR.via hyp ?_ within; unfold execImportVerify; try dsimp only
  repeat' (first | (with_reducible first | exact Fr.refl _ _ | assumption | refine frR_next ?_ | exact frR_fault | refine present_fr ?_ | refine Fr.ite ?_ ?_ | refine keyWrite_fr ?_) | split)

theorem execJoinTimeout_fr {μ : ℕ} {α : State} {h : ℕ} {s : State} (hyp : Fr μ α s) (within : μ ||| 20952 = μ := by decide) :
    FrR μ α (execJoinTimeout h s) := by
  refine FrR.via hyp ?_ within; unfold execJoinTimeout; try dsimp only
  repeat' (first | (with_reducible first | exact Fr.refl _ _ | assumption | refine frR_next ?_ | exact frR_fault | refine present_fr ?_ | refine Fr.ite ?_ ?_ | refine joinTimeout_fr ?_) | split)

theorem execJournalCopyFault_fr {μ : ℕ} {α : State} {copyB : Bool} {s : State} (hyp : Fr μ α s) (within : μ ||| 67981788 = μ := by decide) :
    FrR μ α (execJournalCopyFault copyB s) := by
  refine FrR.via hyp ?_ within; unfold execJournalCopyFault; try dsimp only
  repeat' (first | (with_reducible first | exact Fr.refl _ _ | assumption | refine frR_next ?_ | exact frR_fault | refine present_fr ?_ | refine Fr.ite ?_ ?_ | refine journalFault_fr ?_) | split)

theorem execJournalLost_fr {μ : ℕ} {α : State} {s : State} (hyp : Fr μ α s) (within : μ ||| 67981788 = μ := by decide) :
    FrR μ α (execJournalLost s) := by
  refine FrR.via hyp ?_ within; unfold execJournalLost; try dsimp only
  repeat' (first | (with_reducible first | exact Fr.refl _ _ | assumption | refine frR_next ?_ | exact frR_fault | refine present_fr ?_ | refine Fr.ite ?_ ?_ | refine journalLost_fr ?_) | split)

theorem execJournalRebuildDone_fr {μ : ℕ} {α : State} {s : State} (hyp : Fr μ α s) (within : μ ||| 262208 = μ := by decide) :
    FrR μ α (execJournalRebuildDone s) := by
  refine FrR.via hyp ?_ within; unfold execJournalRebuildDone; try dsimp only
  repeat' (first | (with_reducible first | exact Fr.refl _ _ | assumption | refine frR_next ?_ | exact frR_fault | refine present_fr ?_ | refine Fr.ite ?_ ?_ | refine State.setPath_fr ?_ | refine State.setOb_fr ?_) | split)

theorem execKeepalive_fr {μ : ℕ} {α : State} {h : ℕ} {s : State} (hyp : Fr μ α s) (within : μ ||| 20952 = μ := by decide) :
    FrR μ α (execKeepalive h s) := by
  refine FrR.via hyp ?_ within; unfold execKeepalive; try dsimp only
  repeat' (first | (with_reducible first | exact Fr.refl _ _ | assumption | refine frR_next ?_ | exact frR_fault | refine present_fr ?_ | refine Fr.ite ?_ ?_ | refine heard_fr ?_) | split)

theorem execKeepaliveSendTimer_fr {μ : ℕ} {α : State} {h : ℕ} {s : State} (hyp : Fr μ α s) (within : μ ||| 256 = μ := by decide) :
    FrR μ α (execKeepaliveSendTimer h s) := by
  refine FrR.via hyp ?_ within; unfold execKeepaliveSendTimer; try dsimp only
  repeat' (first | (with_reducible first | exact Fr.refl _ _ | assumption | refine frR_next ?_ | exact frR_fault | refine present_fr ?_ | refine Fr.ite ?_ ?_ | refine sendLink_fr ?_) | split)

theorem execKeeperWatchdogExpiry_fr {μ : ℕ} {α : State} {s : State} (hyp : Fr μ α s) (within : μ ||| 67982812 = μ := by decide) :
    FrR μ α (execKeeperWatchdogExpiry s) := by
  refine FrR.via hyp ?_ within; unfold execKeeperWatchdogExpiry; try dsimp only
  repeat' (first | (with_reducible first | exact Fr.refl _ _ | assumption | refine frR_next ?_ | exact frR_fault | refine present_fr ?_ | refine Fr.ite ?_ ?_ | refine restartProc_fr ?_) | split)

theorem execKeyExchange_fr {μ : ℕ} {α : State} {r : Req} {slot : ℕ} {mutAuth : Bool} {s : State} (hyp : Fr μ α s) (within : μ ||| 21720 = μ := by decide) :
    FrR μ α (execKeyExchange r slot mutAuth s) := by
  refine FrR.via hyp ?_ within; unfold execKeyExchange; try dsimp only
  repeat' (first | (with_reducible first | exact Fr.refl _ _ | assumption | refine frR_next ?_ | exact frR_fault | refine present_fr ?_ | refine Fr.ite ?_ ?_ | refine keyExchangeAct_fr ?_ | refine spdmTake_fr ?_ (fun _ => ?_)) | split)

theorem execKeyUpdate_fr {μ : ℕ} {α : State} {r : Req} {id : ℕ} {s : State} (hyp : Fr μ α s) (within : μ ||| 17600 = μ := by decide) :
    FrR μ α (execKeyUpdate r id s) := by
  refine FrR.via hyp ?_ within; unfold execKeyUpdate; try dsimp only
  repeat' (first | (with_reducible first | exact Fr.refl _ _ | assumption | refine frR_next ?_ | exact frR_fault | refine present_fr ?_ | refine Fr.ite ?_ ?_ | refine keyUpdateAct_fr ?_ | refine spdmTake_fr ?_ (fun _ => ?_)) | split)

theorem execKsoTrimMeasurement_fr {μ : ℕ} {α : State} {plca : Bool} {count : ℕ} {expected : ℕ} {s : State} (hyp : Fr μ α s) (within : μ ||| 16777280 = μ := by decide) :
    FrR μ α (execKsoTrimMeasurement plca count expected s) := by
  refine FrR.via hyp ?_ within; unfold execKsoTrimMeasurement; try dsimp only
  repeat' (first | (with_reducible first | exact Fr.refl _ _ | assumption | refine frR_next ?_ | exact frR_fault | refine present_fr ?_ | refine Fr.ite ?_ ?_ | refine trimMeasurement_fr ?_) | split)

theorem execLandedBeat_fr {μ : ℕ} {α : State} {t : ℕ} {n : ℕ} {s : State} (hyp : Fr μ α s) (within : μ ||| 70144472 = μ := by decide) :
    FrR μ α (execLandedBeat t n s) := by
  refine FrR.via hyp ?_ within; unfold execLandedBeat; try dsimp only
  repeat' (first | (with_reducible first | exact Fr.refl _ _ | assumption | refine frR_next ?_ | exact frR_fault | refine present_fr ?_ | refine Fr.ite ?_ ?_ | refine landedBeat_fr ?_) | split)

theorem execLayerAct_fr {μ : ℕ} {α : State} {c : ℕ} {layer : ℕ} {bank : ℕ} {row : ℕ} {s : State} (hyp : Fr μ α s) (within : μ ||| 576 = μ := by decide) :
    FrR μ α (execLayerAct c layer bank row s) := by
  refine FrR.via hyp ?_ within; unfold execLayerAct; try dsimp only
  repeat' (first | (with_reducible first | exact Fr.refl _ _ | assumption | refine frR_next ?_ | exact frR_fault | refine present_fr ?_ | refine Fr.ite ?_ ?_ | refine layAct_fr ?_) | split)

theorem execLayerErrclr_fr {μ : ℕ} {α : State} {c : ℕ} {layer : ℕ} {all : Bool} {s : State} (hyp : Fr μ α s) (within : μ ||| 512 = μ := by decide) :
    FrR μ α (execLayerErrclr c layer all s) := by
  refine FrR.via hyp ?_ within; unfold execLayerErrclr; try dsimp only
  repeat' (first | (with_reducible first | exact Fr.refl _ _ | assumption | refine frR_next ?_ | exact frR_fault | refine present_fr ?_ | refine Fr.ite ?_ ?_ | refine layErrclr_fr ?_) | split)

theorem execLayerLbr_fr {μ : ℕ} {α : State} {c : ℕ} {layer : ℕ} {s : State} (hyp : Fr μ α s) (within : μ ||| 512 = μ := by decide) :
    FrR μ α (execLayerLbr c layer s) := by
  refine FrR.via hyp ?_ within; unfold execLayerLbr; try dsimp only
  repeat' (first | (with_reducible first | exact Fr.refl _ _ | assumption | refine frR_next ?_ | exact frR_fault | refine present_fr ?_ | refine Fr.ite ?_ ?_ | refine layLbr_fr ?_) | split)

theorem execLayerLbw_fr {μ : ℕ} {α : State} {c : ℕ} {layer : ℕ} {preamble : Bool} {burst : ℕ} {s : State} (hyp : Fr μ α s) (within : μ ||| 576 = μ := by decide) :
    FrR μ α (execLayerLbw c layer preamble burst s) := by
  refine FrR.via hyp ?_ within; unfold execLayerLbw; try dsimp only
  repeat' (first | (with_reducible first | exact Fr.refl _ _ | assumption | refine frR_next ?_ | exact frR_fault | refine present_fr ?_ | refine Fr.ite ?_ ?_ | refine layLbw_fr ?_) | split)

theorem execLayerMrr_fr {μ : ℕ} {α : State} {c : ℕ} {layer : ℕ} {addr : ℕ} {s : State} (hyp : Fr μ α s) (within : μ ||| 576 = μ := by decide) :
    FrR μ α (execLayerMrr c layer addr s) := by
  refine FrR.via hyp ?_ within; unfold execLayerMrr; try dsimp only
  repeat' (first | (with_reducible first | exact Fr.refl _ _ | assumption | refine frR_next ?_ | exact frR_fault | refine present_fr ?_ | refine Fr.ite ?_ ?_ | refine layMrr_fr ?_ | refine fr_snd (by assumption) (layMrr_fr ?_)) | split)

theorem execLayerMrw_fr {μ : ℕ} {α : State} {c : ℕ} {layer : ℕ} {addr : ℕ} {data : ℕ} {s : State} (hyp : Fr μ α s) (within : μ ||| 576 = μ := by decide) :
    FrR μ α (execLayerMrw c layer addr data s) := by
  refine FrR.via hyp ?_ within; unfold execLayerMrw; try dsimp only
  repeat' (first | (with_reducible first | exact Fr.refl _ _ | assumption | refine frR_next ?_ | exact frR_fault | refine present_fr ?_ | refine Fr.ite ?_ ?_ | refine layMrw_fr ?_) | split)

theorem execLayerMrwb_fr {μ : ℕ} {α : State} {c : ℕ} {addr : ℕ} {data : ℕ} {s : State} (hyp : Fr μ α s) (within : μ ||| 576 = μ := by decide) :
    FrR μ α (execLayerMrwb c addr data s) := by
  refine FrR.via hyp ?_ within; unfold execLayerMrwb; try dsimp only
  repeat' (first | (with_reducible first | exact Fr.refl _ _ | assumption | refine frR_next ?_ | exact frR_fault | refine present_fr ?_ | refine Fr.ite ?_ ?_ | refine layMrwb_fr ?_) | split)

theorem execLayerPre_fr {μ : ℕ} {α : State} {c : ℕ} {layer : ℕ} {bank : ℕ} {s : State} (hyp : Fr μ α s) (within : μ ||| 576 = μ := by decide) :
    FrR μ α (execLayerPre c layer bank s) := by
  refine FrR.via hyp ?_ within; unfold execLayerPre; try dsimp only
  repeat' (first | (with_reducible first | exact Fr.refl _ _ | assumption | refine frR_next ?_ | exact frR_fault | refine present_fr ?_ | refine Fr.ite ?_ ?_ | refine layPre_fr ?_) | split)

theorem execLayerPreab_fr {μ : ℕ} {α : State} {c : ℕ} {layer : ℕ} {all : Bool} {s : State} (hyp : Fr μ α s) (within : μ ||| 576 = μ := by decide) :
    FrR μ α (execLayerPreab c layer all s) := by
  refine FrR.via hyp ?_ within; unfold execLayerPreab; try dsimp only
  repeat' (first | (with_reducible first | exact Fr.refl _ _ | assumption | refine frR_next ?_ | exact frR_fault | refine present_fr ?_ | refine Fr.ite ?_ ?_ | refine layPreab_fr ?_) | split)

theorem execLayerPreset_fr {μ : ℕ} {α : State} {c : ℕ} {layer : ℕ} {all : Bool} {s : State} (hyp : Fr μ α s) (within : μ ||| 512 = μ := by decide) :
    FrR μ α (execLayerPreset c layer all s) := by
  refine FrR.via hyp ?_ within; unfold execLayerPreset; try dsimp only
  repeat' (first | (with_reducible first | exact Fr.refl _ _ | assumption | refine frR_next ?_ | exact frR_fault | refine present_fr ?_ | refine Fr.ite ?_ ?_ | refine layPreset_fr ?_) | split)

theorem execLayerRd_fr {μ : ℕ} {α : State} {c : ℕ} {layer : ℕ} {bank : ℕ} {line : ℕ} {autoPre : Bool} {s : State} (hyp : Fr μ α s) (within : μ ||| 8768 = μ := by decide) :
    FrR μ α (execLayerRd c layer bank line autoPre s) := by
  refine FrR.via hyp ?_ within; unfold execLayerRd; try dsimp only
  repeat' (first | (with_reducible first | exact Fr.refl _ _ | assumption | refine frR_next ?_ | exact frR_fault | refine present_fr ?_ | refine Fr.ite ?_ ?_ | refine layRd_fr ?_ | refine fr_snd (by assumption) (layRd_fr ?_)) | split)

theorem execLayerRdc_fr {μ : ℕ} {α : State} {c : ℕ} {layer : ℕ} {bank : ℕ} {_line : ℕ} {autoPre : Bool} {s : State} (hyp : Fr μ α s) (within : μ ||| 576 = μ := by decide) :
    FrR μ α (execLayerRdc c layer bank _line autoPre s) := by
  refine FrR.via hyp ?_ within; unfold execLayerRdc; try dsimp only
  repeat' (first | (with_reducible first | exact Fr.refl _ _ | assumption | refine frR_next ?_ | exact frR_fault | refine present_fr ?_ | refine Fr.ite ?_ ?_ | refine layRdc_fr ?_) | split)

theorem execLayerRdp_fr {μ : ℕ} {α : State} {c : ℕ} {layer : ℕ} {s : State} (hyp : Fr μ α s) (within : μ ||| 512 = μ := by decide) :
    FrR μ α (execLayerRdp c layer s) := by
  refine FrR.via hyp ?_ within; unfold execLayerRdp; try dsimp only
  repeat' (first | (with_reducible first | exact Fr.refl _ _ | assumption | refine frR_next ?_ | exact frR_fault | refine present_fr ?_ | refine Fr.ite ?_ ?_ | refine layRdp_fr ?_) | split)

theorem execLayerRefpb_fr {μ : ℕ} {α : State} {c : ℕ} {layer : ℕ} {bank : ℕ} {mask : ℕ} {s : State} (hyp : Fr μ α s) (within : μ ||| 576 = μ := by decide) :
    FrR μ α (execLayerRefpb c layer bank mask s) := by
  refine FrR.via hyp ?_ within; unfold execLayerRefpb; try dsimp only
  repeat' (first | (with_reducible first | exact Fr.refl _ _ | assumption | refine frR_next ?_ | exact frR_fault | refine present_fr ?_ | refine Fr.ite ?_ ?_ | refine layRefpb_fr ?_) | split)

theorem execLayerRpr_fr {μ : ℕ} {α : State} {c : ℕ} {layer : ℕ} {bank : ℕ} {row : ℕ} {s : State} (hyp : Fr μ α s) (within : μ ||| 576 = μ := by decide) :
    FrR μ α (execLayerRpr c layer bank row s) := by
  refine FrR.via hyp ?_ within; unfold execLayerRpr; try dsimp only
  repeat' (first | (with_reducible first | exact Fr.refl _ _ | assumption | refine frR_next ?_ | exact frR_fault | refine present_fr ?_ | refine Fr.ite ?_ ?_ | refine layRpr_fr ?_) | split)

theorem execLayerSensorConversion_fr {μ : ℕ} {α : State} {s : ℕ} {layer : ℕ} {sensor : ℕ} {code : ℕ} {t : State} (hyp : Fr μ α t) (within : μ ||| 512 = μ := by decide) :
    FrR μ α (execLayerSensorConversion s layer sensor code t) := by
  refine FrR.via hyp ?_ within; unfold execLayerSensorConversion; try dsimp only
  repeat' (first | (with_reducible first | exact Fr.refl _ _ | assumption | refine frR_next ?_ | exact frR_fault | refine present_fr ?_ | refine Fr.ite ?_ ?_ | refine laySensor_fr ?_) | split)

theorem execLayerSre_fr {μ : ℕ} {α : State} {c : ℕ} {cls : ℕ} {mask : ℕ} {s : State} (hyp : Fr μ α s) (within : μ ||| 576 = μ := by decide) :
    FrR μ α (execLayerSre c cls mask s) := by
  refine FrR.via hyp ?_ within; unfold execLayerSre; try dsimp only
  repeat' (first | (with_reducible first | exact Fr.refl _ _ | assumption | refine frR_next ?_ | exact frR_fault | refine present_fr ?_ | refine Fr.ite ?_ ?_ | refine laySre_fr ?_) | split)

theorem execLayerSrx_fr {μ : ℕ} {α : State} {c : ℕ} {s : State} (hyp : Fr μ α s) (within : μ ||| 512 = μ := by decide) :
    FrR μ α (execLayerSrx c s) := by
  refine FrR.via hyp ?_ within; unfold execLayerSrx; try dsimp only
  repeat' (first | (with_reducible first | exact Fr.refl _ _ | assumption | refine frR_next ?_ | exact frR_fault | refine present_fr ?_ | refine Fr.ite ?_ ?_ | refine laySrx_fr ?_) | split)

theorem execLayerWr_fr {μ : ℕ} {α : State} {c : ℕ} {layer : ℕ} {bank : ℕ} {line : ℕ} {autoPre : Bool} {preamble : Bool} {burst : ℕ} {s : State} (hyp : Fr μ α s) (within : μ ||| 576 = μ := by decide) :
    FrR μ α (execLayerWr c layer bank line autoPre preamble burst s) := by
  refine FrR.via hyp ?_ within; unfold execLayerWr; try dsimp only
  repeat' (first | (with_reducible first | exact Fr.refl _ _ | assumption | refine frR_next ?_ | exact frR_fault | refine present_fr ?_ | refine Fr.ite ?_ ?_ | refine layWr_fr ?_ | refine fr_snd (by assumption) (layWr_fr ?_)) | split)

theorem execLayerWrp_fr {μ : ℕ} {α : State} {c : ℕ} {layer : ℕ} {all : Bool} {preamble : Bool} {burst : ℕ} {s : State} (hyp : Fr μ α s) (within : μ ||| 576 = μ := by decide) :
    FrR μ α (execLayerWrp c layer all preamble burst s) := by
  refine FrR.via hyp ?_ within; unfold execLayerWrp; try dsimp only
  repeat' (first | (with_reducible first | exact Fr.refl _ _ | assumption | refine frR_next ?_ | exact frR_fault | refine present_fr ?_ | refine Fr.ite ?_ ?_ | refine layWrp_fr ?_) | split)

theorem execLedgerZeroingDone_fr {μ : ℕ} {α : State} {s : State} (hyp : Fr μ α s) (within : μ ||| 1049152 = μ := by decide) :
    FrR μ α (execLedgerZeroingDone s) := by
  refine FrR.via hyp ?_ within; unfold execLedgerZeroingDone; try dsimp only
  repeat' (first | (with_reducible first | exact Fr.refl _ _ | assumption | refine frR_next ?_ | exact frR_fault | refine present_fr ?_ | refine Fr.ite ?_ ?_ | refine ledgerZeroed_fr ?_) | split)

theorem execLfsrSeedWrite_fr {μ : ℕ} {α : State} {r : Req} {value : ℕ} {s : State} (hyp : Fr μ α s) (within : μ ||| 67130840 = μ := by decide) :
    FrR μ α (execLfsrSeedWrite r value s) := by
  refine FrR.via hyp ?_ within; unfold execLfsrSeedWrite; try dsimp only
  repeat' (first | (with_reducible first | exact Fr.refl _ _ | assumption | refine frR_next ?_ | exact frR_fault | refine present_fr ?_ | refine Fr.ite ?_ ?_ | refine samplerHome_fr ?_ | refine FrW.of_done (samplerHome_fr ?_) (by assumption) | refine FrW.of_refused (samplerHome_fr ?_) (by assumption) | refine FrW.of_wait (samplerHome_fr ?_) (by assumption) | refine dictWrite_fr ?_ (fun _ _ => ?_)) | split)

theorem execLinkReset_fr {μ : ℕ} {α : State} {h : ℕ} {s : State} (hyp : Fr μ α s) (within : μ ||| 20952 = μ := by decide) :
    FrR μ α (execLinkReset h s) := by
  refine FrR.via hyp ?_ within; unfold execLinkReset; try dsimp only
  repeat' (first | (with_reducible first | exact Fr.refl _ _ | assumption | refine frR_next ?_ | exact frR_fault | refine present_fr ?_ | refine Fr.ite ?_ ?_ | refine linkReset_fr ?_) | split)

theorem execLinkSilent_fr {μ : ℕ} {α : State} {h : ℕ} {s : State} (hyp : Fr μ α s) (within : μ ||| 71258588 = μ := by decide) :
    FrR μ α (execLinkSilent h s) := by
  refine FrR.via hyp ?_ within; unfold execLinkSilent; try dsimp only
  repeat' (first | (with_reducible first | exact Fr.refl _ _ | assumption | refine frR_next ?_ | exact frR_fault | refine present_fr ?_ | refine Fr.ite ?_ ?_ | refine linkSilent_fr ?_) | split)

theorem execLinkState_fr {μ : ℕ} {α : State} {h : ℕ} {hdr : Hdr} {links : ℕ} {s : State} (hyp : Fr μ α s) (within : μ ||| 71258588 = μ := by decide) :
    FrR μ α (execLinkState h hdr links s) := by
  refine FrR.via hyp ?_ within; unfold execLinkState; try dsimp only
  repeat' (first | (with_reducible first | exact Fr.refl _ _ | assumption | refine frR_next ?_ | exact frR_fault | refine present_fr ?_ | refine Fr.ite ?_ ?_ | refine linksTaken_fr ?_ | refine takeParcel_fr ?_ (fun _ => ?_)) | split)

theorem execLinkTrainingDone_fr {μ : ℕ} {α : State} {h : ℕ} {modules : ℕ} {s : State} (hyp : Fr μ α s) (within : μ ||| 20952 = μ := by decide) :
    FrR μ α (execLinkTrainingDone h modules s) := by
  refine FrR.via hyp ?_ within; unfold execLinkTrainingDone; try dsimp only
  repeat' (first | (with_reducible first | exact Fr.refl _ _ | assumption | refine frR_next ?_ | exact frR_fault | refine present_fr ?_ | refine Fr.ite ?_ ?_ | refine trainingDone_fr ?_) | split)

theorem execLogClear_fr {μ : ℕ} {α : State} {r : Req} {s : State} (hyp : Fr μ α s) (within : μ ||| 21976 = μ := by decide) :
    FrR μ α (execLogClear r s) := by
  refine FrR.via hyp ?_ within; unfold execLogClear; try dsimp only
  repeat' (first | (with_reducible first | exact Fr.refl _ _ | assumption | refine frR_next ?_ | exact frR_fault | refine present_fr ?_ | refine Fr.ite ?_ ?_ | refine clearLog_fr ?_ | refine applyHome_fr ?_ (fun _ => ?_) | refine dictWrite_fr ?_ (fun _ _ => ?_)) | split)

theorem execLogicSensorRead_fr {μ : ℕ} {α : State} {readings : List ℕ} {s : State} (hyp : Fr μ α s) (within : μ ||| 4215000 = μ := by decide) :
    FrR μ α (execLogicSensorRead readings s) := by
  refine FrR.via hyp ?_ within; unfold execLogicSensorRead; try dsimp only
  repeat' (first | (with_reducible first | exact Fr.refl _ _ | assumption | refine frR_next ?_ | exact frR_fault | refine present_fr ?_ | refine Fr.ite ?_ ?_ | refine readLogic_fr ?_) | split)

theorem execLost_fr {μ : ℕ} {α : State} {via : Option (ℕ × Hdr)} {node : ℕ} {mask : ℕ} {s : State} (hyp : Fr μ α s) (within : μ ||| 71258588 = μ := by decide) :
    FrR μ α (execLost via node mask s) := by
  refine FrR.via hyp ?_ within; unfold execLost; try dsimp only
  repeat' (first | (with_reducible first | exact Fr.refl _ _ | assumption | refine frR_next ?_ | exact frR_fault | refine present_fr ?_ | refine Fr.ite ?_ ?_ | refine findLost_fr ?_ | refine nodeLost_fr ?_ | refine takeParcel_fr ?_ (fun _ => ?_)) | split)

theorem execMarginDone_fr {μ : ℕ} {α : State} {c : ℕ} {low : ℕ} {high : ℕ} {worst : ℕ} {errors : ℕ} {late : Bool} {s : State} (hyp : Fr μ α s) (within : μ ||| 8409304 = μ := by decide) :
    FrR μ α (execMarginDone c low high worst errors late s) := by
  refine FrR.via hyp ?_ within; unfold execMarginDone; try dsimp only
  repeat' (first | (with_reducible first | exact Fr.refl _ _ | assumption | refine frR_next ?_ | exact frR_fault | refine present_fr ?_ | refine Fr.ite ?_ ?_ | refine marginDone_fr ?_) | split)

theorem execMarginRequest_fr {μ : ℕ} {α : State} {r : Req} {c : ℕ} {value : ℕ} {s : State} (hyp : Fr μ α s) (within : μ ||| 8410584 = μ := by decide) :
    FrR μ α (execMarginRequest r c value s) := by
  refine FrR.via hyp ?_ within; unfold execMarginRequest; try dsimp only
  repeat' (first | (with_reducible first | exact Fr.refl _ _ | assumption | refine frR_next ?_ | exact frR_fault | refine present_fr ?_ | refine Fr.ite ?_ ?_ | refine marginHome_fr ?_ | refine FrW.of_done (marginHome_fr ?_) (by assumption) | refine FrW.of_refused (marginHome_fr ?_) (by assumption) | refine FrW.of_wait (marginHome_fr ?_) (by assumption) | refine dictWrite_fr ?_ (fun _ _ => ?_)) | split)

theorem execMaskReadDone_fr {μ : ℕ} {α : State} {n : ℕ} {s : State} (hyp : Fr μ α s) (within : μ ||| 393216 = μ := by decide) :
    FrR μ α (execMaskReadDone n s) := by
  refine FrR.via hyp ?_ within; unfold execMaskReadDone; try dsimp only
  repeat' (first | (with_reducible first | exact Fr.refl _ _ | assumption | refine frR_next ?_ | exact frR_fault | refine present_fr ?_ | refine Fr.ite ?_ ?_ | refine takeMasks_fr ?_) | split)

theorem execMember_fr {μ : ℕ} {α : State} {h : ℕ} {hdr : Hdr} {node : ℕ} {mask : ℕ} {links : ℕ} {s : State} (hyp : Fr μ α s) (within : μ ||| 20952 = μ := by decide) :
    FrR μ α (execMember h hdr node mask links s) := by
  refine FrR.via hyp ?_ within; unfold execMember; try dsimp only
  repeat' (first | (with_reducible first | exact Fr.refl _ _ | assumption | refine frR_next ?_ | exact frR_fault | refine present_fr ?_ | refine Fr.ite ?_ ?_ | refine flood_fr ?_ | refine tryForm_fr ?_ | refine State.setSet_fr ?_ | refine refreshView_fr ?_ | refine tellReturning_fr ?_ | refine takeParcel_fr ?_ (fun _ => ?_)) | split)

theorem execMirrorClear_fr {μ : ℕ} {α : State} {r : Req} {s : State} (hyp : Fr μ α s) (within : μ ||| 21976 = μ := by decide) :
    FrR μ α (execMirrorClear r s) := by
  refine FrR.via hyp ?_ within; unfold execMirrorClear; try dsimp only
  repeat' (first | (with_reducible first | exact Fr.refl _ _ | assumption | refine frR_next ?_ | exact frR_fault | refine present_fr ?_ | refine Fr.ite ?_ ?_ | refine clearMirror_fr ?_ | refine applyHome_fr ?_ (fun _ => ?_) | refine dictWrite_fr ?_ (fun _ _ => ?_)) | split)

theorem execMissingDataBeats_fr {μ : ℕ} {α : State} {c : ℕ} {s : State} (hyp : Fr μ α s) (within : μ ||| 4456512 = μ := by decide) :
    FrR μ α (execMissingDataBeats c s) := by
  refine FrR.via hyp ?_ within; unfold execMissingDataBeats; try dsimp only
  repeat' (first | (with_reducible first | exact Fr.refl _ _ | assumption | refine frR_next ?_ | exact frR_fault | refine present_fr ?_ | refine Fr.ite ?_ ?_ | refine missingBeats_fr ?_) | split)

theorem execNegotiateAlgorithms_fr {μ : ℕ} {α : State} {r : Req} {ecdsa : Bool} {mlDsa : Bool} {sha384 : Bool} {secp384 : Bool} {gcm : Bool} {s : State} (hyp : Fr μ α s) (within : μ ||| 17600 = μ := by decide) :
    FrR μ α (execNegotiateAlgorithms r ecdsa mlDsa sha384 secp384 gcm s) := by
  refine FrR.via hyp ?_ within; unfold execNegotiateAlgorithms; try dsimp only
  repeat' (first | (with_reducible first | exact Fr.refl _ _ | assumption | refine frR_next ?_ | exact frR_fault | refine present_fr ?_ | refine Fr.ite ?_ ?_ | refine negotiateAlgorithmsAct_fr ?_ | refine spdmTake_fr ?_ (fun _ => ?_)) | split)

theorem execNodeRejoin_fr {μ : ℕ} {α : State} {r : Req} {node : ℕ} {s : State} (hyp : Fr μ α s) (within : μ ||| 71259612 = μ := by decide) :
    FrR μ α (execNodeRejoin r node s) := by
  refine FrR.via hyp ?_ within; unfold execNodeRejoin; try dsimp only
  repeat' (first | (with_reducible first | exact Fr.refl _ _ | assumption | refine frR_next ?_ | exact frR_fault | refine present_fr ?_ | refine Fr.ite ?_ ?_ | refine nodeRejoinHome_fr ?_ | refine FrW.of_done (nodeRejoinHome_fr ?_) (by assumption) | refine FrW.of_refused (nodeRejoinHome_fr ?_) (by assumption) | refine FrW.of_wait (nodeRejoinHome_fr ?_) (by assumption) | refine dictWrite_fr ?_ (fun _ _ => ?_)) | split)

theorem execNotice_fr {μ : ℕ} {α : State} {h : ℕ} {hdr : Hdr} {object : ℕ} {value : ℕ} {s : State} (hyp : Fr μ α s) (within : μ ||| 152024 = μ := by decide) :
    FrR μ α (execNotice h hdr object value s) := by
  refine FrR.via hyp ?_ within; unfold execNotice; try dsimp only
  repeat' (first | (with_reducible first | exact Fr.refl _ _ | assumption | refine frR_next ?_ | exact frR_fault | refine present_fr ?_ | refine Fr.ite ?_ ?_ | refine noticeTaken_fr ?_ | refine takeParcel_fr ?_ (fun _ => ?_)) | split)

theorem execNotifyResponse_fr {μ : ℕ} {α : State} {n : ℕ} {seq : ℕ} {s : State} (hyp : Fr μ α s) (within : μ ||| 16576 = μ := by decide) :
    FrR μ α (execNotifyResponse n seq s) := by
  refine FrR.via hyp ?_ within; unfold execNotifyResponse; try dsimp only
  repeat' (first | (with_reducible first | exact Fr.refl _ _ | assumption | refine frR_next ?_ | exact frR_fault | refine present_fr ?_ | refine Fr.ite ?_ ?_ | refine notifyNext_fr ?_ | refine forEach_fr ?_ (fun _ _ => ?_)) | split | with_reducible refine Fr.set_mgmt ?_)

theorem execNotifyRetryTimer_fr {μ : ℕ} {α : State} {n : ℕ} {s : State} (hyp : Fr μ α s) (within : μ ||| 20696 = μ := by decide) :
    FrR μ α (execNotifyRetryTimer n s) := by
  refine FrR.via hyp ?_ within; unfold execNotifyRetryTimer; try dsimp only
  repeat' (first | (with_reducible first | exact Fr.refl _ _ | assumption | refine frR_next ?_ | exact frR_fault | refine present_fr ?_ | refine Fr.ite ?_ ?_ | refine State.bump_fr ?_ | refine notifyNext_fr ?_ | refine raiseNode_fr ?_ | refine State.setNotifyQ_fr ?_ | refine sendNotify_fr ?_) | split)

theorem execNvmRecordWrite_fr {μ : ℕ} {α : State} {area : ℕ} {index : ℕ} {s : State} (hyp : Fr μ α s) (within : μ ||| 20952 = μ := by decide) :
    FrR μ α (execNvmRecordWrite area index s) := by
  refine FrR.via hyp ?_ within; unfold execNvmRecordWrite; try dsimp only
  repeat' (first | (with_reducible first | exact Fr.refl _ _ | assumption | refine frR_next ?_ | exact frR_fault | refine present_fr ?_ | refine Fr.ite ?_ ?_ | refine areaWritten_fr ?_) | split)

theorem execNvmWriteFailed_fr {μ : ℕ} {α : State} {area : ℕ} {index : ℕ} {copyB : Bool} {s : State} (hyp : Fr μ α s) (within : μ ||| 33575388 = μ := by decide) :
    FrR μ α (execNvmWriteFailed area index copyB s) := by
  refine FrR.via hyp ?_ within; unfold execNvmWriteFailed; try dsimp only
  repeat' (first | (with_reducible first | exact Fr.refl _ _ | assumption | refine frR_next ?_ | exact frR_fault | refine present_fr ?_ | refine Fr.ite ?_ ?_ | refine copyFailed_fr ?_) | split)

theorem execObjectWrite_fr {μ : ℕ} {α : State} {h : ℕ} {hdr : Hdr} {idx : ℕ} {sub : ℕ} {order : ℕ} {value : List Byte} {s : State} (hyp : Fr μ α s) (within : μ ||| 134184956 = μ := by decide) :
    FrR μ α (execObjectWrite h hdr idx sub order value s) := by
  refine FrR.via hyp ?_ within; unfold execObjectWrite; try dsimp only
  repeat' (first | (with_reducible first | exact Fr.refl _ _ | assumption | refine frR_next ?_ | exact frR_fault | refine present_fr ?_ | refine Fr.ite ?_ ?_ | refine objectTaken_fr ?_ | refine takeParcel_fr ?_ (fun _ => ?_)) | split)

theorem execOfferHoldExpiry_fr {μ : ℕ} {α : State} {s : State} (hyp : Fr μ α s) (within : μ ||| 71193048 = μ := by decide) :
    FrR μ α (execOfferHoldExpiry s) := by
  refine FrR.via hyp ?_ within; unfold execOfferHoldExpiry; try dsimp only
  repeat' (first | (with_reducible first | exact Fr.refl _ _ | assumption | refine frR_next ?_ | exact frR_fault | refine present_fr ?_ | refine Fr.ite ?_ ?_ | refine expireHolds_fr ?_) | split)

theorem execOpenRead_fr {μ : ℕ} {α : State} {q : Side} {a : ℕ} {s : State} (hyp : Fr μ α s) (within : μ ||| 71193048 = μ := by decide) :
    FrR μ α (execOpenRead q a s) := by
  refine FrR.via hyp ?_ within; unfold execOpenRead; try dsimp only
  repeat' (first | (with_reducible first | exact Fr.refl _ _ | assumption | refine frR_next ?_ | exact frR_fault | refine present_fr ?_ | refine Fr.ite ?_ ?_ | refine lineRequest_fr ?_) | split)

theorem execOpenWiden_fr {μ : ℕ} {α : State} {q : Side} {a : ℕ} {x : ℕ} {j : ℕ} {s : State} (hyp : Fr μ α s) (within : μ ||| 71193048 = μ := by decide) :
    FrR μ α (execOpenWiden q a x j s) := by
  refine FrR.via hyp ?_ within; unfold execOpenWiden; try dsimp only
  repeat' (first | (with_reducible first | exact Fr.refl _ _ | assumption | refine frR_next ?_ | exact frR_fault | refine present_fr ?_ | refine Fr.ite ?_ ?_ | refine lineRequest_fr ?_) | split)

theorem execOpenWrite_fr {μ : ℕ} {α : State} {q : Side} {a : ℕ} {mask : ℕ} {data : ℕ} {s : State} (hyp : Fr μ α s) (within : μ ||| 71193048 = μ := by decide) :
    FrR μ α (execOpenWrite q a mask data s) := by
  refine FrR.via hyp ?_ within; unfold execOpenWrite; try dsimp only
  repeat' (first | (with_reducible first | exact Fr.refl _ _ | assumption | refine frR_next ?_ | exact frR_fault | refine present_fr ?_ | refine Fr.ite ?_ ?_ | refine lineRequest_fr ?_) | split)

theorem execOscTrimStale_fr {μ : ℕ} {α : State} {s : State} (hyp : Fr μ α s) (within : μ ||| 16797912 = μ := by decide) :
    FrR μ α (execOscTrimStale s) := by
  refine FrR.via hyp ?_ within; unfold execOscTrimStale; try dsimp only
  repeat' (first | (with_reducible first | exact Fr.refl _ _ | assumption | refine frR_next ?_ | exact frR_fault | refine present_fr ?_ | refine Fr.ite ?_ ?_ | refine State.setClk_fr ?_ | refine raiseNode_fr ?_) | split)

theorem execPanicInputTaken_fr {μ : ℕ} {α : State} {p : ℕ} {level : ℕ} {s : State} (hyp : Fr μ α s) (within : μ ||| 262208 = μ := by decide) :
    FrR μ α (execPanicInputTaken p level s) := by
  refine FrR.via hyp ?_ within; unfold execPanicInputTaken; try dsimp only
  repeat' (first | (with_reducible first | exact Fr.refl _ _ | assumption | refine frR_next ?_ | exact frR_fault | refine present_fr ?_ | refine Fr.ite ?_ ?_ | refine takePanic_fr ?_) | split)

theorem execPanicReleased_fr {μ : ℕ} {α : State} {p : ℕ} {s : State} (hyp : Fr μ α s) (within : μ ||| 20696 = μ := by decide) :
    FrR μ α (execPanicReleased p s) := by
  refine FrR.via hyp ?_ within; unfold execPanicReleased; try dsimp only
  repeat' (first | (with_reducible first | exact Fr.refl _ _ | assumption | refine frR_next ?_ | exact frR_fault | refine present_fr ?_ | refine Fr.ite ?_ ?_ | refine State.setOb_fr ?_ | refine raise_fr ?_) | split)

theorem execPanicStuck_fr {μ : ℕ} {α : State} {p : ℕ} {s : State} (hyp : Fr μ α s) (within : μ ||| 20696 = μ := by decide) :
    FrR μ α (execPanicStuck p s) := by
  refine FrR.via hyp ?_ within; unfold execPanicStuck; try dsimp only
  repeat' (first | (with_reducible first | exact Fr.refl _ _ | assumption | refine frR_next ?_ | exact frR_fault | refine present_fr ?_ | refine Fr.ite ?_ ?_ | refine State.setOb_fr ?_ | refine State.bump_fr ?_ | refine raise_fr ?_) | split)

theorem execParcelMalformed_fr {μ : ℕ} {α : State} {h : ℕ} {sequenced : Bool} {s : State} (hyp : Fr μ α s) (within : μ ||| 20952 = μ := by decide) :
    FrR μ α (execParcelMalformed h sequenced s) := by
  refine FrR.via hyp ?_ within; unfold execParcelMalformed; try dsimp only
  repeat' (first | (with_reducible first | exact Fr.refl _ _ | assumption | refine frR_next ?_ | exact frR_fault | refine present_fr ?_ | refine Fr.ite ?_ ?_ | refine malformedParcel_fr ?_) | split)

theorem execParcelTransmit_fr {μ : ℕ} {α : State} {h : ℕ} {s : State} (hyp : Fr μ α s) (within : μ ||| 16704 = μ := by decide) :
    FrR μ α (execParcelTransmit h s) := by
  refine FrR.via hyp ?_ within; unfold execParcelTransmit; try dsimp only
  repeat' (first | (with_reducible first | exact Fr.refl _ _ | assumption | refine frR_next ?_ | exact frR_fault | refine present_fr ?_ | refine Fr.ite ?_ ?_ | refine transmit_fr ?_) | split)

theorem execPartnerHeartbeat_fr {μ : ℕ} {α : State} {address : ℕ} {node : ℕ} {state : ℕ} {period : ℕ} {s : State} (hyp : Fr μ α s) (within : μ ||| 86488 = μ := by decide) :
    FrR μ α (execPartnerHeartbeat address node state period s) := by
  refine FrR.via hyp ?_ within; unfold execPartnerHeartbeat; try dsimp only
  repeat' (first | (with_reducible first | exact Fr.refl _ _ | assumption | refine frR_next ?_ | exact frR_fault | refine present_fr ?_ | refine Fr.ite ?_ ?_ | refine State.bump_fr ?_ | refine memberHeard_fr ?_ | refine partnerHeard_fr ?_) | split)

theorem execPartnerLost_fr {μ : ℕ} {α : State} {s : State} (hyp : Fr μ α s) (within : μ ||| 20696 = μ := by decide) :
    FrR μ α (execPartnerLost s) := by
  refine FrR.via hyp ?_ within; unfold execPartnerLost; try dsimp only
  repeat' (first | (with_reducible first | exact Fr.refl _ _ | assumption | refine frR_next ?_ | exact frR_fault | refine present_fr ?_ | refine Fr.ite ?_ ?_ | refine State.bump_fr ?_ | refine raiseNode_fr ?_) | split | with_reducible refine Fr.set_mgmt ?_)

theorem execPersistGatherTimer_fr {μ : ℕ} {α : State} {s : State} (hyp : Fr μ α s) (within : μ ||| 4096 = μ := by decide) :
    FrR μ α (execPersistGatherTimer s) := by
  refine FrR.via hyp ?_ within; unfold execPersistGatherTimer; try dsimp only
  repeat' (first | (with_reducible first | exact Fr.refl _ _ | assumption | refine frR_next ?_ | exact frR_fault | refine present_fr ?_ | refine Fr.ite ?_ ?_) | split | with_reducible refine Fr.set_nvm ?_)

theorem execPlanArm_fr {μ : ℕ} {α : State} {r : Req} {s : State} (hyp : Fr μ α s) (within : μ ||| 71259608 = μ := by decide) :
    FrR μ α (execPlanArm r s) := by
  refine FrR.via hyp ?_ within; unfold execPlanArm; try dsimp only
  repeat' (first | (with_reducible first | exact Fr.refl _ _ | assumption | refine frR_next ?_ | exact frR_fault | refine present_fr ?_ | refine Fr.ite ?_ ?_ | refine planHome_fr ?_ | refine FrW.of_done (planHome_fr ?_) (by assumption) | refine FrW.of_refused (planHome_fr ?_) (by assumption) | refine FrW.of_wait (planHome_fr ?_) (by assumption) | refine dictWrite_fr ?_ (fun _ _ => ?_)) | split)

theorem execPlanDisarm_fr {μ : ℕ} {α : State} {r : Req} {s : State} (hyp : Fr μ α s) (within : μ ||| 71259608 = μ := by decide) :
    FrR μ α (execPlanDisarm r s) := by
  refine FrR.via hyp ?_ within; unfold execPlanDisarm; try dsimp only
  repeat' (first | (with_reducible first | exact Fr.refl _ _ | assumption | refine frR_next ?_ | exact frR_fault | refine present_fr ?_ | refine Fr.ite ?_ ?_ | refine planHome_fr ?_ | refine FrW.of_done (planHome_fr ?_) (by assumption) | refine FrW.of_refused (planHome_fr ?_) (by assumption) | refine FrW.of_wait (planHome_fr ?_) (by assumption) | refine dictWrite_fr ?_ (fun _ _ => ?_)) | split)

theorem execPlanDiscard_fr {μ : ℕ} {α : State} {r : Req} {s : State} (hyp : Fr μ α s) (within : μ ||| 71259608 = μ := by decide) :
    FrR μ α (execPlanDiscard r s) := by
  refine FrR.via hyp ?_ within; unfold execPlanDiscard; try dsimp only
  repeat' (first | (with_reducible first | exact Fr.refl _ _ | assumption | refine frR_next ?_ | exact frR_fault | refine present_fr ?_ | refine Fr.ite ?_ ?_ | refine planHome_fr ?_ | refine FrW.of_done (planHome_fr ?_) (by assumption) | refine FrW.of_refused (planHome_fr ?_) (by assumption) | refine FrW.of_wait (planHome_fr ?_) (by assumption) | refine dictWrite_fr ?_ (fun _ _ => ?_)) | split)

theorem execPlanImageChecked_fr {μ : ℕ} {α : State} {reason : ℕ} {place : ℕ} {detail : ℕ} {rejoin : Bool} {id : ℕ} {crc : ℕ} {s : State} (hyp : Fr μ α s) (within : μ ||| 71258588 = μ := by decide) :
    FrR μ α (execPlanImageChecked reason place detail rejoin id crc s) := by
  refine FrR.via hyp ?_ within; unfold execPlanImageChecked; try dsimp only
  repeat' (first | (with_reducible first | exact Fr.refl _ _ | assumption | refine frR_next ?_ | exact frR_fault | refine present_fr ?_ | refine Fr.ite ?_ ?_ | refine imageChecked_fr ?_ | refine rejoinChecked_fr ?_) | split)

theorem execPlanLoad_fr {μ : ℕ} {α : State} {r : Req} {s : State} (hyp : Fr μ α s) (within : μ ||| 71259608 = μ := by decide) :
    FrR μ α (execPlanLoad r s) := by
  refine FrR.via hyp ?_ within; unfold execPlanLoad; try dsimp only
  repeat' (first | (with_reducible first | exact Fr.refl _ _ | assumption | refine frR_next ?_ | exact frR_fault | refine present_fr ?_ | refine Fr.ite ?_ ?_ | refine planHome_fr ?_ | refine FrW.of_done (planHome_fr ?_) (by assumption) | refine FrW.of_refused (planHome_fr ?_) (by assumption) | refine FrW.of_wait (planHome_fr ?_) (by assumption) | refine dictWrite_fr ?_ (fun _ _ => ?_)) | split)

theorem execPlanLoadTimeout_fr {μ : ℕ} {α : State} {s : State} (hyp : Fr μ α s) (within : μ ||| 67457240 = μ := by decide) :
    FrR μ α (execPlanLoadTimeout s) := by
  refine FrR.via hyp ?_ within; unfold execPlanLoadTimeout; try dsimp only
  repeat' (first | (with_reducible first | exact Fr.refl _ _ | assumption | refine frR_next ?_ | exact frR_fault | refine present_fr ?_ | refine Fr.ite ?_ ?_ | refine refusePlan_fr ?_) | split)

theorem execPlanStop_fr {μ : ℕ} {α : State} {r : Req} {s : State} (hyp : Fr μ α s) (within : μ ||| 71259608 = μ := by decide) :
    FrR μ α (execPlanStop r s) := by
  refine FrR.via hyp ?_ within; unfold execPlanStop; try dsimp only
  repeat' (first | (with_reducible first | exact Fr.refl _ _ | assumption | refine frR_next ?_ | exact frR_fault | refine present_fr ?_ | refine Fr.ite ?_ ?_ | refine planHome_fr ?_ | refine FrW.of_done (planHome_fr ?_) (by assumption) | refine FrW.of_refused (planHome_fr ?_) (by assumption) | refine FrW.of_wait (planHome_fr ?_) (by assumption) | refine dictWrite_fr ?_ (fun _ _ => ?_)) | split)

theorem execPlcaStatusChange_fr {μ : ℕ} {α : State} {active : Bool} {s : State} (hyp : Fr μ α s) (within : μ ||| 20696 = μ := by decide) :
    FrR μ α (execPlcaStatusChange active s) := by
  refine FrR.via hyp ?_ within; unfold execPlcaStatusChange; try dsimp only
  repeat' (first | (with_reducible first | exact Fr.refl _ _ | assumption | refine frR_next ?_ | exact frR_fault | refine present_fr ?_ | refine Fr.ite ?_ ?_ | refine State.bump_fr ?_ | refine raiseNode_fr ?_ | refine State.setOb_fr ?_) | split)

theorem execPoolReset_fr {μ : ℕ} {α : State} {r : Req} {d : ℕ} {s : State} (hyp : Fr μ α s) (within : μ ||| 153048 = μ := by decide) :
    FrR μ α (execPoolReset r d s) := by
  refine FrR.via hyp ?_ within; unfold execPoolReset; try dsimp only
  repeat' (first | (with_reducible first | exact Fr.refl _ _ | assumption | refine frR_next ?_ | exact frR_fault | refine present_fr ?_ | refine Fr.ite ?_ ?_ | refine poolResetHome_fr ?_ | refine FrW.of_done (poolResetHome_fr ?_) (by assumption) | refine FrW.of_refused (poolResetHome_fr ?_) (by assumption) | refine FrW.of_wait (poolResetHome_fr ?_) (by assumption) | refine dictWrite_fr ?_ (fun _ _ => ?_)) | split)

theorem execPortReadyAsserted_fr {μ : ℕ} {α : State} {port : Port} {s : State} (hyp : Fr μ α s) (within : μ ||| 131136 = μ := by decide) :
    FrR μ α (execPortReadyAsserted port s) := by
  refine FrR.via hyp ?_ within; unfold execPortReadyAsserted; try dsimp only
  repeat' (first | (with_reducible first | exact Fr.refl _ _ | assumption | refine frR_next ?_ | exact frR_fault | refine present_fr ?_ | refine Fr.ite ?_ ?_ | refine State.setFeeds_fr ?_ | refine portReady_fr ?_) | split)

theorem execPortReadyWithdrawn_fr {μ : ℕ} {α : State} {port : Port} {s : State} (hyp : Fr μ α s) (within : μ ||| 70144472 = μ := by decide) :
    FrR μ α (execPortReadyWithdrawn port s) := by
  refine FrR.via hyp ?_ within; unfold execPortReadyWithdrawn; try dsimp only
  repeat' (first | (with_reducible first | exact Fr.refl _ _ | assumption | refine frR_next ?_ | exact frR_fault | refine present_fr ?_ | refine Fr.ite ?_ ?_ | refine State.setFeeds_fr ?_ | refine portDown_fr ?_) | split)

theorem execPortRejoin_fr {μ : ℕ} {α : State} {r : Req} {t : ℕ} {s : State} (hyp : Fr μ α s) (within : μ ||| 218584 = μ := by decide) :
    FrR μ α (execPortRejoin r t s) := by
  refine FrR.via hyp ?_ within; unfold execPortRejoin; try dsimp only
  repeat' (first | (with_reducible first | exact Fr.refl _ _ | assumption | refine frR_next ?_ | exact frR_fault | refine present_fr ?_ | refine Fr.ite ?_ ?_ | refine portRejoinHome_fr ?_ | refine FrW.of_done (portRejoinHome_fr ?_) (by assumption) | refine FrW.of_refused (portRejoinHome_fr ?_) (by assumption) | refine FrW.of_wait (portRejoinHome_fr ?_) (by assumption) | refine dictWrite_fr ?_ (fun _ _ => ?_)) | split)

theorem execPowerOnReset_fr {μ : ℕ} {α : State} {s : State} (hyp : Fr μ α s) (within : μ ||| 134158332 = μ := by decide) :
    FrR μ α (execPowerOnReset s) := by
  refine FrR.via hyp ?_ within; unfold execPowerOnReset; try dsimp only
  repeat' (first | (with_reducible first | exact Fr.refl _ _ | assumption | refine frR_next ?_ | exact frR_fault | refine present_fr ?_ | refine Fr.ite ?_ ?_ | refine powerOn_fr ?_) | split)

theorem execPowerWarnTaken_fr {μ : ℕ} {α : State} {level : Bool} {s : State} (hyp : Fr μ α s) (within : μ ||| 16 = μ := by decide) :
    FrR μ α (execPowerWarnTaken level s) := by
  refine FrR.via hyp ?_ within; unfold execPowerWarnTaken; try dsimp only
  repeat' (first | (with_reducible first | exact Fr.refl _ _ | assumption | refine frR_next ?_ | exact frR_fault | refine present_fr ?_ | refine Fr.ite ?_ ?_ | refine takePowerWarn_fr ?_) | split)

theorem execPrepare_fr {μ : ℕ} {α : State} {h : ℕ} {hdr : Hdr} {frame : ℕ} {plan : ℕ} {s : State} (hyp : Fr μ α s) (within : μ ||| 86488 = μ := by decide) :
    FrR μ α (execPrepare h hdr frame plan s) := by
  refine FrR.via hyp ?_ within; unfold execPrepare; try dsimp only
  repeat' (first | (with_reducible first | exact Fr.refl _ _ | assumption | refine frR_next ?_ | exact frR_fault | refine present_fr ?_ | refine Fr.ite ?_ ?_ | refine takePrepare_fr ?_ | refine takeParcel_fr ?_ (fun _ => ?_)) | split)

theorem execProcessorFault_fr {μ : ℕ} {α : State} {p : ProcId} {s : State} (hyp : Fr μ α s) (within : μ ||| 67982812 = μ := by decide) :
    FrR μ α (execProcessorFault p s) := by
  refine FrR.via hyp ?_ within; unfold execProcessorFault; try dsimp only
  repeat' (first | (with_reducible first | exact Fr.refl _ _ | assumption | refine frR_next ?_ | exact frR_fault | refine present_fr ?_ | refine Fr.ite ?_ ?_ | refine restartProc_fr ?_) | split)

theorem execProcessorRestartDone_fr {μ : ℕ} {α : State} {p : ProcId} {s : State} (hyp : Fr μ α s) (within : μ ||| 78533592 = μ := by decide) :
    FrR μ α (execProcessorRestartDone p s) := by
  refine FrR.via hyp ?_ within; unfold execProcessorRestartDone; try dsimp only
  repeat' (first | (with_reducible first | exact Fr.refl _ _ | assumption | refine frR_next ?_ | exact frR_fault | refine present_fr ?_ | refine Fr.ite ?_ ?_ | refine procBack_fr ?_) | split)

theorem execProcessorWatchdogExpiry_fr {μ : ℕ} {α : State} {p : ProcId} {s : State} (hyp : Fr μ α s) (within : μ ||| 67982812 = μ := by decide) :
    FrR μ α (execProcessorWatchdogExpiry p s) := by
  refine FrR.via hyp ?_ within; unfold execProcessorWatchdogExpiry; try dsimp only
  repeat' (first | (with_reducible first | exact Fr.refl _ _ | assumption | refine frR_next ?_ | exact frR_fault | refine present_fr ?_ | refine Fr.ite ?_ ?_ | refine restartProc_fr ?_) | split)

theorem execQosStateFault_fr {μ : ℕ} {α : State} {kind : ℕ} {n : ℕ} {s : State} (hyp : Fr μ α s) (within : μ ||| 282840 = μ := by decide) :
    FrR μ α (execQosStateFault kind n s) := by
  refine FrR.via hyp ?_ within; unfold execQosStateFault; try dsimp only
  repeat' (first | (with_reducible first | exact Fr.refl _ _ | assumption | refine frR_next ?_ | exact frR_fault | refine present_fr ?_ | refine Fr.ite ?_ ?_ | refine resetQos_fr ?_ | refine State.bump_fr ?_ | refine raiseNode_fr ?_) | split)

theorem execQueueEntryGrant_fr {μ : ℕ} {α : State} {c : ℕ} {write : Bool} {s : State} (hyp : Fr μ α s) (within : μ ||| 71193048 = μ := by decide) :
    FrR μ α (execQueueEntryGrant c write s) := by
  refine FrR.via hyp ?_ within; unfold execQueueEntryGrant; try dsimp only
  repeat' (first | (with_reducible first | exact Fr.refl _ _ | assumption | refine frR_next ?_ | exact frR_fault | refine present_fr ?_ | refine Fr.ite ?_ ?_ | refine grantOne_fr ?_) | split)

theorem execReadReturn_fr {μ : ℕ} {α : State} {c : ℕ} {s : State} (hyp : Fr μ α s) (within : μ ||| 75387356 = μ := by decide) :
    FrR μ α (execReadReturn c s) := by
  refine FrR.via hyp ?_ within; unfold execReadReturn; try dsimp only
  repeat' (first | (with_reducible first | exact Fr.refl _ _ | assumption | refine frR_next ?_ | exact frR_fault | refine present_fr ?_ | refine Fr.ite ?_ ?_ | refine readBack_fr ?_ | refine pump_fr ?_) | split)

theorem execReceiveBufferFull_fr {μ : ℕ} {α : State} {s : State} (hyp : Fr μ α s) (within : μ ||| 64 = μ := by decide) :
    FrR μ α (execReceiveBufferFull s) := by
  refine FrR.via hyp ?_ within; unfold execReceiveBufferFull; try dsimp only
  repeat' (first | (with_reducible first | exact Fr.refl _ _ | assumption | refine frR_next ?_ | exact frR_fault | refine present_fr ?_ | refine Fr.ite ?_ ?_ | refine State.bump_fr ?_) | split)

theorem execReconstitute_fr {μ : ℕ} {α : State} {r : Req} {c : ℕ} {s : State} (hyp : Fr μ α s) (within : μ ||| 284120 = μ := by decide) :
    FrR μ α (execReconstitute r c s) := by
  refine FrR.via hyp ?_ within; unfold execReconstitute; try dsimp only
  repeat' (first | (with_reducible first | exact Fr.refl _ _ | assumption | refine frR_next ?_ | exact frR_fault | refine present_fr ?_ | refine Fr.ite ?_ ?_ | refine reconstituteHome_fr ?_ | refine FrW.of_done (reconstituteHome_fr ?_) (by assumption) | refine FrW.of_refused (reconstituteHome_fr ?_) (by assumption) | refine FrW.of_wait (reconstituteHome_fr ?_) (by assumption) | refine dictWrite_fr ?_ (fun _ _ => ?_)) | split)

theorem execReconstitutionDone_fr {μ : ℕ} {α : State} {s : State} (hyp : Fr μ α s) (within : μ ||| 71193560 = μ := by decide) :
    FrR μ α (execReconstitutionDone s) := by
  refine FrR.via hyp ?_ within; unfold execReconstitutionDone; try dsimp only
  repeat' (first | (with_reducible first | exact Fr.refl _ _ | assumption | refine frR_next ?_ | exact frR_fault | refine present_fr ?_ | refine Fr.ite ?_ ?_ | refine reconstitutionDone_fr ?_ | refine serveAll_fr ?_) | split)

theorem execRecoveryRecordFreed_fr {μ : ℕ} {α : State} {c : ℕ} {s : State} (hyp : Fr μ α s) (within : μ ||| 71193052 = μ := by decide) :
    FrR μ α (execRecoveryRecordFreed c s) := by
  refine FrR.via hyp ?_ within; unfold execRecoveryRecordFreed; try dsimp only
  repeat' (first | (with_reducible first | exact Fr.refl _ _ | assumption | refine frR_next ?_ | exact frR_fault | refine present_fr ?_ | refine Fr.ite ?_ ?_ | refine placeRecovery_fr ?_ | refine takeWaiting_fr ?_ | refine pump_fr ?_) | split)

theorem execReduce_fr {μ : ℕ} {α : State} {q : Side} {a : ℕ} {w : RedWord} {data : ℕ} {s : State} (hyp : Fr μ α s) (within : μ ||| 71193048 = μ := by decide) :
    FrR μ α (execReduce q a w data s) := by
  refine FrR.via hyp ?_ within; unfold execReduce; try dsimp only
  repeat' (first | (with_reducible first | exact Fr.refl _ _ | assumption | refine frR_next ?_ | exact frR_fault | refine present_fr ?_ | refine Fr.ite ?_ ?_ | refine lineRequest_fr ?_) | split)

theorem execReduceTimeout_fr {μ : ℕ} {α : State} {s : State} (hyp : Fr μ α s) (within : μ ||| 71193048 = μ := by decide) :
    FrR μ α (execReduceTimeout s) := by
  refine FrR.via hyp ?_ within; unfold execReduceTimeout; try dsimp only
  repeat' (first | (with_reducible first | exact Fr.refl _ _ | assumption | refine frR_next ?_ | exact frR_fault | refine present_fr ?_ | refine Fr.ite ?_ ?_ | refine reduceTimeouts_fr ?_ | refine serveAll_fr ?_) | split)

theorem execRefBAbsent_fr {μ : ℕ} {α : State} {s : State} (hyp : Fr μ α s) (within : μ ||| 16777280 = μ := by decide) :
    FrR μ α (execRefBAbsent s) := by
  refine FrR.via hyp ?_ within; unfold execRefBAbsent; try dsimp only
  repeat' (first | (with_reducible first | exact Fr.refl _ _ | assumption | refine frR_next ?_ | exact frR_fault | refine present_fr ?_ | refine Fr.ite ?_ ?_ | refine refBAbsent_fr ?_) | split)

theorem execRefreshClassChange_fr {μ : ℕ} {α : State} {u : ℕ} {s : State} (hyp : Fr μ α s) (within : μ ||| 282840 = μ := by decide) :
    FrR μ α (execRefreshClassChange u s) := by
  refine FrR.via hyp ?_ within; unfold execRefreshClassChange; try dsimp only
  repeat' (first | (with_reducible first | exact Fr.refl _ _ | assumption | refine frR_next ?_ | exact frR_fault | refine present_fr ?_ | refine Fr.ite ?_ ?_ | refine classChange_fr ?_) | split)

theorem execRefreshIntervalTick_fr {μ : ℕ} {α : State} {c : ℕ} {bank : ℕ} {s : State} (hyp : Fr μ α s) (within : μ ||| 262208 = μ := by decide) :
    FrR μ α (execRefreshIntervalTick c bank s) := by
  refine FrR.via hyp ?_ within; unfold execRefreshIntervalTick; try dsimp only
  repeat' (first | (with_reducible first | exact Fr.refl _ _ | assumption | refine frR_next ?_ | exact frR_fault | refine present_fr ?_ | refine Fr.ite ?_ ?_ | refine debtRise_fr ?_) | split)

theorem execRegionDescriptorWrite_fr {μ : ℕ} {α : State} {r : Req} {n : ℕ} {value : List Byte} {s : State} (hyp : Fr μ α s) (within : μ ||| 68507096 = μ := by decide) :
    FrR μ α (execRegionDescriptorWrite r n value s) := by
  refine FrR.via hyp ?_ within; unfold execRegionDescriptorWrite; try dsimp only
  repeat' (first | (with_reducible first | exact Fr.refl _ _ | assumption | refine frR_next ?_ | exact frR_fault | refine present_fr ?_ | refine Fr.ite ?_ ?_ | refine regionHome_fr ?_ | refine FrW.of_done (regionHome_fr ?_) (by assumption) | refine FrW.of_refused (regionHome_fr ?_) (by assumption) | refine FrW.of_wait (regionHome_fr ?_) (by assumption) | refine dictWrite_fr ?_ (fun _ _ => ?_)) | split)

theorem execRegulatorWindowStart_fr {μ : ℕ} {α : State} {n : ℕ} {s : State} (hyp : Fr μ α s) (within : μ ||| 262208 = μ := by decide) :
    FrR μ α (execRegulatorWindowStart n s) := by
  refine FrR.via hyp ?_ within; unfold execRegulatorWindowStart; try dsimp only
  repeat' (first | (with_reducible first | exact Fr.refl _ _ | assumption | refine frR_next ?_ | exact frR_fault | refine present_fr ?_ | refine Fr.ite ?_ ?_ | refine startWindow_fr ?_) | split)

theorem execRejoin_fr {μ : ℕ} {α : State} {h : ℕ} {hdr : Hdr} {node : ℕ} {s : State} (hyp : Fr μ α s) (within : μ ||| 20952 = μ := by decide) :
    FrR μ α (execRejoin h hdr node s) := by
  refine FrR.via hyp ?_ within; unfold execRejoin; try dsimp only
  repeat' (first | (with_reducible first | exact Fr.refl _ _ | assumption | refine frR_next ?_ | exact frR_fault | refine present_fr ?_ | refine Fr.ite ?_ ?_ | refine nodeReturns_fr ?_ | refine takeParcel_fr ?_ (fun _ => ?_)) | split)

theorem execRelease_fr {μ : ℕ} {α : State} {r : Req} {s : State} (hyp : Fr μ α s) (within : μ ||| 71196120 = μ := by decide) :
    FrR μ α (execRelease r s) := by
  refine FrR.via hyp ?_ within; unfold execRelease; try dsimp only
  repeat' (first | (with_reducible first | exact Fr.refl _ _ | assumption | refine frR_next ?_ | exact frR_fault | refine present_fr ?_ | refine Fr.ite ?_ ?_ | refine ownerHome_fr ?_ | refine FrW.of_done (ownerHome_fr ?_) (by assumption) | refine FrW.of_refused (ownerHome_fr ?_) (by assumption) | refine FrW.of_wait (ownerHome_fr ?_) (by assumption) | refine dictWrite_fr ?_ (fun _ _ => ?_)) | split)

theorem execRequestParcel_fr {μ : ℕ} {α : State} {h : ℕ} {hdr : Hdr} {body : List Byte} {s : State} (hyp : Fr μ α s) (within : μ ||| 71193048 = μ := by decide) :
    FrR μ α (execRequestParcel h hdr body s) := by
  refine FrR.via hyp ?_ within; unfold execRequestParcel; try dsimp only
  repeat' (first | (with_reducible first | exact Fr.refl _ _ | assumption | refine frR_next ?_ | exact frR_fault | refine present_fr ?_ | refine Fr.ite ?_ ?_ | refine requestTaken_fr ?_ | refine takeChecked_fr ?_ (fun _ => ?_)) | split)

theorem execRereadReturn_fr {μ : ℕ} {α : State} {c : ℕ} {s : State} (hyp : Fr μ α s) (within : μ ||| 71193052 = μ := by decide) :
    FrR μ α (execRereadReturn c s) := by
  refine FrR.via hyp ?_ within; unfold execRereadReturn; try dsimp only
  repeat' (first | (with_reducible first | exact Fr.refl _ _ | assumption | refine frR_next ?_ | exact frR_fault | refine present_fr ?_ | refine Fr.ite ?_ ?_ | refine rereadBack_fr ?_ | refine pump_fr ?_) | split)

theorem execResetPattern_fr {μ : ℕ} {α : State} {c : ℕ} {s : State} (hyp : Fr μ α s) (within : μ ||| 512 = μ := by decide) :
    FrR μ α (execResetPattern c s) := by
  refine FrR.via hyp ?_ within; unfold execResetPattern; try dsimp only
  repeat' (first | (with_reducible first | exact Fr.refl _ _ | assumption | refine frR_next ?_ | exact frR_fault | refine present_fr ?_ | refine Fr.ite ?_ ?_ | refine layReset_fr ?_) | split)

theorem execRespondIfReady_fr {μ : ℕ} {α : State} {r : Req} {s : State} (hyp : Fr μ α s) (within : μ ||| 17600 = μ := by decide) :
    FrR μ α (execRespondIfReady r s) := by
  refine FrR.via hyp ?_ within; unfold execRespondIfReady; try dsimp only
  repeat' (first | (with_reducible first | exact Fr.refl _ _ | assumption | refine frR_next ?_ | exact frR_fault | refine present_fr ?_ | refine Fr.ite ?_ ?_ | refine respondIfReadyAct_fr ?_ | refine spdmTake_fr ?_ (fun _ => ?_)) | split)

theorem execRestEntryDrained_fr {μ : ℕ} {α : State} {s : State} (hyp : Fr μ α s) (within : μ ||| 17585628 = μ := by decide) :
    FrR μ α (execRestEntryDrained s) := by
  refine FrR.via hyp ?_ within; unfold execRestEntryDrained; try dsimp only
  repeat' (first | (with_reducible first | exact Fr.refl _ _ | assumption | refine frR_next ?_ | exact frR_fault | refine present_fr ?_ | refine Fr.ite ?_ ?_ | refine restStep_fr ?_) | split)

theorem execRestartLimitExpiry_fr {μ : ℕ} {α : State} {p : ProcId} {s : State} (hyp : Fr μ α s) (within : μ ||| 67981788 = μ := by decide) :
    FrR μ α (execRestartLimitExpiry p s) := by
  refine FrR.via hyp ?_ within; unfold execRestartLimitExpiry; try dsimp only
  repeat' (first | (with_reducible first | exact Fr.refl _ _ | assumption | refine frR_next ?_ | exact frR_fault | refine present_fr ?_ | refine Fr.ite ?_ ?_ | refine enterHalted_fr ?_) | split)

theorem execRestoreReadDone_fr {μ : ℕ} {α : State} {c : ℕ} {s : State} (hyp : Fr μ α s) (within : μ ||| 71193052 = μ := by decide) :
    FrR μ α (execRestoreReadDone c s) := by
  refine FrR.via hyp ?_ within; unfold execRestoreReadDone; try dsimp only
  repeat' (first | (with_reducible first | exact Fr.refl _ _ | assumption | refine frR_next ?_ | exact frR_fault | refine present_fr ?_ | refine Fr.ite ?_ ?_ | refine State.setFar_fr ?_ | refine restoreEnded_fr ?_ | refine pump_fr ?_) | split)

theorem execRestoredTrainingDone_fr {μ : ℕ} {α : State} {c : ℕ} {ok : Bool} {s : State} (hyp : Fr μ α s) (within : μ ||| 79582168 = μ := by decide) :
    FrR μ α (execRestoredTrainingDone c ok s) := by
  refine FrR.via hyp ?_ within; unfold execRestoredTrainingDone; try dsimp only
  repeat' (first | (with_reducible first | exact Fr.refl _ _ | assumption | refine frR_next ?_ | exact frR_fault | refine present_fr ?_ | refine Fr.ite ?_ ?_ | refine restoreDone_fr ?_ | refine serveAll_fr ?_) | split)

theorem execRetrainLimitExpiry_fr {μ : ℕ} {α : State} {h : ℕ} {s : State} (hyp : Fr μ α s) (within : μ ||| 71258588 = μ := by decide) :
    FrR μ α (execRetrainLimitExpiry h s) := by
  refine FrR.via hyp ?_ within; unfold execRetrainLimitExpiry; try dsimp only
  repeat' (first | (with_reducible first | exact Fr.refl _ _ | assumption | refine frR_next ?_ | exact frR_fault | refine present_fr ?_ | refine Fr.ite ?_ ?_ | refine retrainLimit_fr ?_) | split)

theorem execRetrainRequest_fr {μ : ℕ} {α : State} {r : Req} {c : ℕ} {s : State} (hyp : Fr μ α s) (within : μ ||| 8410584 = μ := by decide) :
    FrR μ α (execRetrainRequest r c s) := by
  refine FrR.via hyp ?_ within; unfold execRetrainRequest; try dsimp only
  repeat' (first | (with_reducible first | exact Fr.refl _ _ | assumption | refine frR_next ?_ | exact frR_fault | refine present_fr ?_ | refine Fr.ite ?_ ?_ | refine retrainHome_fr ?_ | refine FrW.of_done (retrainHome_fr ?_) (by assumption) | refine FrW.of_refused (retrainHome_fr ?_) (by assumption) | refine FrW.of_wait (retrainHome_fr ?_) (by assumption) | refine dictWrite_fr ?_ (fun _ _ => ?_)) | split)

theorem execRetrainRoundStart_fr {μ : ℕ} {α : State} {c : ℕ} {s : State} (hyp : Fr μ α s) (within : μ ||| 8388672 = μ := by decide) :
    FrR μ α (execRetrainRoundStart c s) := by
  refine FrR.via hyp ?_ within; unfold execRetrainRoundStart; try dsimp only
  repeat' (first | (with_reducible first | exact Fr.refl _ _ | assumption | refine frR_next ?_ | exact frR_fault | refine present_fr ?_ | refine Fr.ite ?_ ?_ | refine roundStart_fr ?_) | split)

theorem execRingPop_fr {μ : ℕ} {α : State} {s : State} (hyp : Fr μ α s) (within : μ ||| 128 = μ := by decide) :
    FrR μ α (execRingPop s) := by
  refine FrR.via hyp ?_ within; unfold execRingPop; try dsimp only
  repeat' (first | (with_reducible first | exact Fr.refl _ _ | assumption | refine frR_next ?_ | exact frR_fault | refine present_fr ?_ | refine Fr.ite ?_ ?_) | split | with_reducible refine Fr.set_mgmt ?_)

theorem execRowMoveBufferComplete_fr {μ : ℕ} {α : State} {c : ℕ} {s : State} (hyp : Fr μ α s) (within : μ ||| 71193564 = μ := by decide) :
    FrR μ α (execRowMoveBufferComplete c s) := by
  refine FrR.via hyp ?_ within; unfold execRowMoveBufferComplete; try dsimp only
  repeat' (first | (with_reducible first | exact Fr.refl _ _ | assumption | refine frR_next ?_ | exact frR_fault | refine present_fr ?_ | refine Fr.ite ?_ ?_ | refine bufferComplete_fr ?_ | refine pumpMoves_fr ?_) | split)

theorem execRowMoveConfirmed_fr {μ : ℕ} {α : State} {c : ℕ} {s : State} (hyp : Fr μ α s) (within : μ ||| 71193052 = μ := by decide) :
    FrR μ α (execRowMoveConfirmed c s) := by
  refine FrR.via hyp ?_ within; unfold execRowMoveConfirmed; try dsimp only
  repeat' (first | (with_reducible first | exact Fr.refl _ _ | assumption | refine frR_next ?_ | exact frR_fault | refine present_fr ?_ | refine Fr.ite ?_ ?_ | refine pumpMoves_fr ?_ | refine finishMove_fr ?_) | split)

theorem execRowMoveStart_fr {μ : ℕ} {α : State} {c : ℕ} {s : State} (hyp : Fr μ α s) (within : μ ||| 282840 = μ := by decide) :
    FrR μ α (execRowMoveStart c s) := by
  refine FrR.via hyp ?_ within; unfold execRowMoveStart; try dsimp only
  repeat' (first | (with_reducible first | exact Fr.refl _ _ | assumption | refine frR_next ?_ | exact frR_fault | refine present_fr ?_ | refine Fr.ite ?_ ?_ | refine startMove_fr ?_) | split)

theorem execRspAck_fr {μ : ℕ} {α : State} {s : State} (hyp : Fr μ α s) (within : μ ||| 16576 = μ := by decide) :
    FrR μ α (execRspAck s) := by
  refine FrR.via hyp ?_ within; unfold execRspAck; try dsimp only
  repeat' (first | (with_reducible first | exact Fr.refl _ _ | assumption | refine frR_next ?_ | exact frR_fault | refine present_fr ?_ | refine Fr.ite ?_ ?_ | refine sendResponse_fr ?_) | split | with_reducible refine Fr.set_mgmt ?_)

theorem execSampleControlWrite_fr {μ : ℕ} {α : State} {r : Req} {value : ℕ} {s : State} (hyp : Fr μ α s) (within : μ ||| 67130840 = μ := by decide) :
    FrR μ α (execSampleControlWrite r value s) := by
  refine FrR.via hyp ?_ within; unfold execSampleControlWrite; try dsimp only
  repeat' (first | (with_reducible first | exact Fr.refl _ _ | assumption | refine frR_next ?_ | exact frR_fault | refine present_fr ?_ | refine Fr.ite ?_ ?_ | refine samplerHome_fr ?_ | refine FrW.of_done (samplerHome_fr ?_) (by assumption) | refine FrW.of_refused (samplerHome_fr ?_) (by assumption) | refine FrW.of_wait (samplerHome_fr ?_) (by assumption) | refine dictWrite_fr ?_ (fun _ _ => ?_)) | split)

theorem execSegAbort_fr {μ : ℕ} {α : State} {r : Req} {idx : ℕ} {sub : ℕ} {s : State} (hyp : Fr μ α s) (within : μ ||| 17600 = μ := by decide) :
    FrR μ α (execSegAbort r idx sub s) := by
  refine FrR.via hyp ?_ within; unfold execSegAbort; try dsimp only
  repeat' (first | (with_reducible first | exact Fr.refl _ _ | assumption | refine frR_next ?_ | exact frR_fault | refine present_fr ?_ | refine Fr.ite ?_ ?_ | refine segAbort_fr ?_ | refine takeRequest_fr ?_ (fun _ => ?_)) | split)

theorem execSegData_fr {μ : ℕ} {α : State} {r : Req} {idx : ℕ} {sub : ℕ} {offset : ℕ} {data : List Byte} {s : State} (hyp : Fr μ α s) (within : μ ||| 17600 = μ := by decide) :
    FrR μ α (execSegData r idx sub offset data s) := by
  refine FrR.via hyp ?_ within; unfold execSegData; try dsimp only
  repeat' (first | (with_reducible first | exact Fr.refl _ _ | assumption | refine frR_next ?_ | exact frR_fault | refine present_fr ?_ | refine Fr.ite ?_ ?_ | refine segData_fr ?_ | refine takeRequest_fr ?_ (fun _ => ?_)) | split)

theorem execSegEnd_fr {μ : ℕ} {α : State} {r : Req} {idx : ℕ} {sub : ℕ} {crc : ℕ} {s : State} (hyp : Fr μ α s) (within : μ ||| 134184956 = μ := by decide) :
    FrR μ α (execSegEnd r idx sub crc s) := by
  refine FrR.via hyp ?_ within; unfold execSegEnd; try dsimp only
  repeat' (first | (with_reducible first | exact Fr.refl _ _ | assumption | refine frR_next ?_ | exact frR_fault | refine present_fr ?_ | refine Fr.ite ?_ ?_ | refine segEnd_fr ?_ | refine takeRequest_fr ?_ (fun _ => ?_)) | split)

theorem execSegStart_fr {μ : ℕ} {α : State} {r : Req} {idx : ℕ} {sub : ℕ} {total : ℕ} {base : ℕ} {s : State} (hyp : Fr μ α s) (within : μ ||| 21720 = μ := by decide) :
    FrR μ α (execSegStart r idx sub total base s) := by
  refine FrR.via hyp ?_ within; unfold execSegStart; try dsimp only
  repeat' (first | (with_reducible first | exact Fr.refl _ _ | assumption | refine frR_next ?_ | exact frR_fault | refine present_fr ?_ | refine Fr.ite ?_ ?_ | refine segStart_fr ?_ | refine takeRequest_fr ?_ (fun _ => ?_)) | split)

theorem execSelfRefreshEntry_fr {μ : ℕ} {α : State} {c : ℕ} {s : State} (hyp : Fr μ α s) (within : μ ||| 8671960 = μ := by decide) :
    FrR μ α (execSelfRefreshEntry c s) := by
  refine FrR.via hyp ?_ within; unfold execSelfRefreshEntry; try dsimp only
  repeat' (first | (with_reducible first | exact Fr.refl _ _ | assumption | refine frR_next ?_ | exact frR_fault | refine present_fr ?_ | refine Fr.ite ?_ ?_ | refine selfRefreshEntry_fr ?_) | split)

theorem execSelfRefreshExit_fr {μ : ℕ} {α : State} {c : ℕ} {s : State} (hyp : Fr μ α s) (within : μ ||| 79582168 = μ := by decide) :
    FrR μ α (execSelfRefreshExit c s) := by
  refine FrR.via hyp ?_ within; unfold execSelfRefreshExit; try dsimp only
  repeat' (first | (with_reducible first | exact Fr.refl _ _ | assumption | refine frR_next ?_ | exact frR_fault | refine present_fr ?_ | refine Fr.ite ?_ ?_ | refine selfRefreshExit_fr ?_ | refine serveAll_fr ?_) | split)

theorem execSensorExclude_fr {μ : ℕ} {α : State} {r : Req} {logic : Bool} {st : ℕ} {part : ℕ} {mask : ℕ} {s : State} (hyp : Fr μ α s) (within : μ ||| 21976 = μ := by decide) :
    FrR μ α (execSensorExclude r logic st part mask s) := by
  refine FrR.via hyp ?_ within; unfold execSensorExclude; try dsimp only
  repeat' (first | (with_reducible first | exact Fr.refl _ _ | assumption | refine frR_next ?_ | exact frR_fault | refine present_fr ?_ | refine Fr.ite ?_ ?_ | refine layerExcludeHome_fr ?_ | refine FrW.of_done (layerExcludeHome_fr ?_) (by assumption) | refine FrW.of_refused (layerExcludeHome_fr ?_) (by assumption) | refine FrW.of_wait (layerExcludeHome_fr ?_) (by assumption) | refine dictWrite_fr ?_ (fun _ _ => ?_) | refine logicExcludeHome_fr ?_ | refine FrW.of_done (logicExcludeHome_fr ?_) (by assumption) | refine FrW.of_refused (logicExcludeHome_fr ?_) (by assumption) | refine FrW.of_wait (logicExcludeHome_fr ?_) (by assumption)) | split)

theorem execSensorNoReading_fr {μ : ℕ} {α : State} {st : ℕ} {n : ℕ} {s : State} (hyp : Fr μ α s) (within : μ ||| 4215000 = μ := by decide) :
    FrR μ α (execSensorNoReading st n s) := by
  refine FrR.via hyp ?_ within; unfold execSensorNoReading; try dsimp only
  repeat' (first | (with_reducible first | exact Fr.refl _ _ | assumption | refine frR_next ?_ | exact frR_fault | refine present_fr ?_ | refine Fr.ite ?_ ?_ | refine silentSensor_fr ?_) | split)

theorem execSessionDropped_fr {μ : ℕ} {α : State} {src : Source} {idx : ℕ} {sub : ℕ} {s : State} (hyp : Fr μ α s) (within : μ ||| 20696 = μ := by decide) :
    FrR μ α (execSessionDropped src idx sub s) := by
  refine FrR.via hyp ?_ within; unfold execSessionDropped; try dsimp only
  repeat' (first | (with_reducible first | exact Fr.refl _ _ | assumption | refine frR_next ?_ | exact frR_fault | refine present_fr ?_ | refine Fr.ite ?_ ?_ | refine State.setSegments_fr ?_ | refine raiseNode_fr ?_) | split)

theorem execSessionIdleTimeout_fr {μ : ℕ} {α : State} {id : ℕ} {s : State} (hyp : Fr μ α s) (within : μ ||| 21720 = μ := by decide) :
    FrR μ α (execSessionIdleTimeout id s) := by
  refine FrR.via hyp ?_ within; unfold execSessionIdleTimeout; try dsimp only
  repeat' (first | (with_reducible first | exact Fr.refl _ _ | assumption | refine frR_next ?_ | exact frR_fault | refine present_fr ?_ | refine Fr.ite ?_ ?_ | refine endSession_fr ?_) | split)

theorem execSetReset_fr {μ : ℕ} {α : State} {s : State} (hyp : Fr μ α s) (within : μ ||| 134158332 = μ := by decide) :
    FrR μ α (execSetReset s) := by
  refine FrR.via hyp ?_ within; unfold execSetReset; try dsimp only
  repeat' (first | (with_reducible first | exact Fr.refl _ _ | assumption | refine frR_next ?_ | exact frR_fault | refine present_fr ?_ | refine Fr.ite ?_ ?_ | refine setReset_fr ?_) | split)

theorem execSheafPllRestartLimit_fr {μ : ℕ} {α : State} {u : ℕ} {s : State} (hyp : Fr μ α s) (within : μ ||| 87970776 = μ := by decide) :
    FrR μ α (execSheafPllRestartLimit u s) := by
  refine FrR.via hyp ?_ within; unfold execSheafPllRestartLimit; try dsimp only
  repeat' (first | (with_reducible first | exact Fr.refl _ _ | assumption | refine frR_next ?_ | exact frR_fault | refine present_fr ?_ | refine Fr.ite ?_ ?_ | refine pllRestartLimit_fr ?_ | refine serveAll_fr ?_) | split)

theorem execShutdownClear_fr {μ : ℕ} {α : State} {r : Req} {s : State} (hyp : Fr μ α s) (within : μ ||| 21976 = μ := by decide) :
    FrR μ α (execShutdownClear r s) := by
  refine FrR.via hyp ?_ within; unfold execShutdownClear; try dsimp only
  repeat' (first | (with_reducible first | exact Fr.refl _ _ | assumption | refine frR_next ?_ | exact frR_fault | refine present_fr ?_ | refine Fr.ite ?_ ?_ | refine shutdownClearHome_fr ?_ | refine FrW.of_done (shutdownClearHome_fr ?_) (by assumption) | refine FrW.of_refused (shutdownClearHome_fr ?_) (by assumption) | refine FrW.of_wait (shutdownClearHome_fr ?_) (by assumption) | refine dictWrite_fr ?_ (fun _ _ => ?_)) | split)

theorem execShutdownRecordWritten_fr {μ : ℕ} {α : State} {s : State} (hyp : Fr μ α s) (within : μ ||| 4198464 = μ := by decide) :
    FrR μ α (execShutdownRecordWritten s) := by
  refine FrR.via hyp ?_ within; unfold execShutdownRecordWritten; try dsimp only
  repeat' (first | (with_reducible first | exact Fr.refl _ _ | assumption | refine frR_next ?_ | exact frR_fault | refine present_fr ?_ | refine Fr.ite ?_ ?_ | refine recordWritten_fr ?_) | split)

theorem execSlackCleared_fr {μ : ℕ} {α : State} {s : State} (hyp : Fr μ α s) (within : μ ||| 20696 = μ := by decide) :
    FrR μ α (execSlackCleared s) := by
  refine FrR.via hyp ?_ within; unfold execSlackCleared; try dsimp only
  repeat' (first | (with_reducible first | exact Fr.refl _ _ | assumption | refine frR_next ?_ | exact frR_fault | refine present_fr ?_ | refine Fr.ite ?_ ?_ | refine State.setOb_fr ?_ | refine endDerate_fr ?_ | refine raiseNode_fr ?_ | refine driveVreq_fr ?_) | split)

theorem execSlackMeasurement_fr {μ : ℕ} {α : State} {counts : List (Option ℕ)} {s : State} (hyp : Fr μ α s) (within : μ ||| 16797912 = μ := by decide) :
    FrR μ α (execSlackMeasurement counts s) := by
  refine FrR.via hyp ?_ within; unfold execSlackMeasurement; try dsimp only
  repeat' (first | (with_reducible first | exact Fr.refl _ _ | assumption | refine frR_next ?_ | exact frR_fault | refine present_fr ?_ | refine Fr.ite ?_ ?_ | refine slackMeasurement_fr ?_) | split)

theorem execSliceFault_fr {μ : ℕ} {α : State} {x : ℕ} {s : State} (hyp : Fr μ α s) (within : μ ||| 71258588 = μ := by decide) :
    FrR μ α (execSliceFault x s) := by
  refine FrR.via hyp ?_ within; unfold execSliceFault; try dsimp only
  repeat' (first | (with_reducible first | exact Fr.refl _ _ | assumption | refine frR_next ?_ | exact frR_fault | refine present_fr ?_ | refine Fr.ite ?_ ?_ | refine sliceFault_fr ?_ | refine singleFault_fr ?_ (fun _ => ?_) | refine serveAll_fr ?_) | split)

theorem execSliceRejoin_fr {μ : ℕ} {α : State} {r : Req} {x : ℕ} {s : State} (hyp : Fr μ α s) (within : μ ||| 611800 = μ := by decide) :
    FrR μ α (execSliceRejoin r x s) := by
  refine FrR.via hyp ?_ within; unfold execSliceRejoin; try dsimp only
  repeat' (first | (with_reducible first | exact Fr.refl _ _ | assumption | refine frR_next ?_ | exact frR_fault | refine present_fr ?_ | refine Fr.ite ?_ ?_ | refine sliceRejoinHome_fr ?_ | refine FrW.of_done (sliceRejoinHome_fr ?_) (by assumption) | refine FrW.of_refused (sliceRejoinHome_fr ?_) (by assumption) | refine FrW.of_wait (sliceRejoinHome_fr ?_) (by assumption) | refine dictWrite_fr ?_ (fun _ _ => ?_)) | split)

theorem execSliceTakenOver_fr {μ : ℕ} {α : State} {x : ℕ} {repaired : Bool} {s : State} (hyp : Fr μ α s) (within : μ ||| 71193048 = μ := by decide) :
    FrR μ α (execSliceTakenOver x repaired s) := by
  refine FrR.via hyp ?_ within; unfold execSliceTakenOver; try dsimp only
  repeat' (first | (with_reducible first | exact Fr.refl _ _ | assumption | refine frR_next ?_ | exact frR_fault | refine present_fr ?_ | refine Fr.ite ?_ ?_ | refine sliceTaken_fr ?_ | refine serveAll_fr ?_) | split)

theorem execSlotCopyDone_fr {μ : ℕ} {α : State} {s : State} (hyp : Fr μ α s) (within : μ ||| 108942812 = μ := by decide) :
    FrR μ α (execSlotCopyDone s) := by
  refine FrR.via hyp ?_ within; unfold execSlotCopyDone; try dsimp only
  repeat' (first | (with_reducible first | exact Fr.refl _ _ | assumption | refine frR_next ?_ | exact frR_fault | refine present_fr ?_ | refine Fr.ite ?_ ?_ | refine slotCopied_fr ?_) | split)

theorem execSnapshotCapture_fr {μ : ℕ} {α : State} {s : State} (hyp : Fr μ α s) (within : μ ||| 64 = μ := by decide) :
    FrR μ α (execSnapshotCapture s) := by
  refine FrR.via hyp ?_ within; unfold execSnapshotCapture; try dsimp only
  repeat' (first | (with_reducible first | exact Fr.refl _ _ | assumption | refine frR_next ?_ | exact frR_fault | refine present_fr ?_ | refine Fr.ite ?_ ?_ | refine snapshotCapture_fr ?_) | split)

theorem execSnapshotRequest_fr {μ : ℕ} {α : State} {r : Req} {time : ℕ} {s : State} (hyp : Fr μ α s) (within : μ ||| 21976 = μ := by decide) :
    FrR μ α (execSnapshotRequest r time s) := by
  refine FrR.via hyp ?_ within; unfold execSnapshotRequest; try dsimp only
  repeat' (first | (with_reducible first | exact Fr.refl _ _ | assumption | refine frR_next ?_ | exact frR_fault | refine present_fr ?_ | refine Fr.ite ?_ ?_ | refine snapshotHome_fr ?_ | refine FrW.of_done (snapshotHome_fr ?_) (by assumption) | refine FrW.of_refused (snapshotHome_fr ?_) (by assumption) | refine FrW.of_wait (snapshotHome_fr ?_) (by assumption) | refine dictWrite_fr ?_ (fun _ _ => ?_)) | split)

theorem execSourceStable_fr {μ : ℕ} {α : State} {m : ℕ} {s : State} (hyp : Fr μ α s) (within : μ ||| 87970264 = μ := by decide) :
    FrR μ α (execSourceStable m s) := by
  refine FrR.via hyp ?_ within; unfold execSourceStable; try dsimp only
  repeat' (first | (with_reducible first | exact Fr.refl _ _ | assumption | refine frR_next ?_ | exact frR_fault | refine present_fr ?_ | refine Fr.ite ?_ ?_ | refine sourceStable_fr ?_ | refine serveAll_fr ?_) | split)

theorem execSpdmUnsupportedRequest_fr {μ : ℕ} {α : State} {r : Req} {s : State} (hyp : Fr μ α s) (within : μ ||| 21720 = μ := by decide) :
    FrR μ α (execSpdmUnsupportedRequest r s) := by
  refine FrR.via hyp ?_ within; unfold execSpdmUnsupportedRequest; try dsimp only
  repeat' (first | (with_reducible first | exact Fr.refl _ _ | assumption | refine frR_next ?_ | exact frR_fault | refine present_fr ?_ | refine Fr.ite ?_ ?_ | refine spdmUnsupportedRequestAct_fr ?_ | refine spdmTake_fr ?_ (fun _ => ?_)) | split)

theorem execStallTimeout_fr {μ : ℕ} {α : State} {n : ℕ} {s : State} (hyp : Fr μ α s) (within : μ ||| 70144472 = μ := by decide) :
    FrR μ α (execStallTimeout n s) := by
  refine FrR.via hyp ?_ within; unfold execStallTimeout; try dsimp only
  repeat' (first | (with_reducible first | exact Fr.refl _ _ | assumption | refine frR_next ?_ | exact frR_fault | refine present_fr ?_ | refine Fr.ite ?_ ?_ | refine stall_fr ?_) | split)

theorem execStandingEntryWrite_fr {μ : ℕ} {α : State} {r : Req} {x : ℕ} {value : List Byte} {s : State} (hyp : Fr μ α s) (within : μ ||| 21976 = μ := by decide) :
    FrR μ α (execStandingEntryWrite r x value s) := by
  refine FrR.via hyp ?_ within; unfold execStandingEntryWrite; try dsimp only
  repeat' (first | (with_reducible first | exact Fr.refl _ _ | assumption | refine frR_next ?_ | exact frR_fault | refine present_fr ?_ | refine Fr.ite ?_ ?_ | refine standingHome_fr ?_ | refine FrW.of_done (standingHome_fr ?_) (by assumption) | refine FrW.of_refused (standingHome_fr ?_) (by assumption) | refine FrW.of_wait (standingHome_fr ?_) (by assumption) | refine dictWrite_fr ?_ (fun _ _ => ?_)) | split)

theorem execStateRequestDeep_fr {μ : ℕ} {α : State} {r : Req} {s : State} (hyp : Fr μ α s) (within : μ ||| 85743068 = μ := by decide) :
    FrR μ α (execStateRequestDeep r s) := by
  refine FrR.via hyp ?_ within; unfold execStateRequestDeep; try dsimp only
  repeat' (first | (with_reducible first | exact Fr.refl _ _ | assumption | refine frR_next ?_ | exact frR_fault | refine present_fr ?_ | refine Fr.ite ?_ ?_ | refine stateHome_fr ?_ | refine FrW.of_done (stateHome_fr ?_) (by assumption) | refine FrW.of_refused (stateHome_fr ?_) (by assumption) | refine FrW.of_wait (stateHome_fr ?_) (by assumption) | refine dictWrite_fr ?_ (fun _ _ => ?_)) | split)

theorem execStateRequestReady_fr {μ : ℕ} {α : State} {r : Req} {s : State} (hyp : Fr μ α s) (within : μ ||| 85743068 = μ := by decide) :
    FrR μ α (execStateRequestReady r s) := by
  refine FrR.via hyp ?_ within; unfold execStateRequestReady; try dsimp only
  repeat' (first | (with_reducible first | exact Fr.refl _ _ | assumption | refine frR_next ?_ | exact frR_fault | refine present_fr ?_ | refine Fr.ite ?_ ?_ | refine stateHome_fr ?_ | refine FrW.of_done (stateHome_fr ?_) (by assumption) | refine FrW.of_refused (stateHome_fr ?_) (by assumption) | refine FrW.of_wait (stateHome_fr ?_) (by assumption) | refine dictWrite_fr ?_ (fun _ _ => ?_)) | split)

theorem execStateRequestRest_fr {μ : ℕ} {α : State} {r : Req} {s : State} (hyp : Fr μ α s) (within : μ ||| 85743068 = μ := by decide) :
    FrR μ α (execStateRequestRest r s) := by
  refine FrR.via hyp ?_ within; unfold execStateRequestRest; try dsimp only
  repeat' (first | (with_reducible first | exact Fr.refl _ _ | assumption | refine frR_next ?_ | exact frR_fault | refine present_fr ?_ | refine Fr.ite ?_ ?_ | refine stateHome_fr ?_ | refine FrW.of_done (stateHome_fr ?_) (by assumption) | refine FrW.of_refused (stateHome_fr ?_) (by assumption) | refine FrW.of_wait (stateHome_fr ?_) (by assumption) | refine dictWrite_fr ?_ (fun _ _ => ?_)) | split)

theorem execStepTimeout_fr {μ : ℕ} {α : State} {c : ℕ} {g : ℕ} {s : State} (hyp : Fr μ α s) (within : μ ||| 79582168 = μ := by decide) :
    FrR μ α (execStepTimeout c g s) := by
  refine FrR.via hyp ?_ within; unfold execStepTimeout; try dsimp only
  repeat' (first | (with_reducible first | exact Fr.refl _ _ | assumption | refine frR_next ?_ | exact frR_fault | refine present_fr ?_ | refine Fr.ite ?_ ?_ | refine stepTimeout_fr ?_ | refine serveAll_fr ?_) | split)

theorem execStrapSample_fr {μ : ℕ} {α : State} {nodeId : ℕ} {setSize : ℕ} {recovery : Bool} {s : State} (hyp : Fr μ α s) (within : μ ||| 67129596 = μ := by decide) :
    FrR μ α (execStrapSample nodeId setSize recovery s) := by
  refine FrR.via hyp ?_ within; unfold execStrapSample; try dsimp only
  repeat' (first | (with_reducible first | exact Fr.refl _ _ | assumption | refine frR_next ?_ | exact frR_fault | refine present_fr ?_ | refine Fr.ite ?_ ?_ | refine sampleStraps_fr ?_) | split)

theorem execStreamEnd_fr {μ : ℕ} {α : State} {n : ℕ} {s : State} (hyp : Fr μ α s) (within : μ ||| 131072 = μ := by decide) :
    FrR μ α (execStreamEnd n s) := by
  refine FrR.via hyp ?_ within; unfold execStreamEnd; try dsimp only
  repeat' (first | (with_reducible first | exact Fr.refl _ _ | assumption | refine frR_next ?_ | exact frR_fault | refine present_fr ?_ | refine Fr.ite ?_ ?_ | refine decodeCmd_fr ?_ (fun _ _ _ => ?_)) | split)

theorem execStreamFmt_fr {μ : ℕ} {α : State} {n : ℕ} {s : State} (hyp : Fr μ α s) (within : μ ||| 131072 = μ := by decide) :
    FrR μ α (execStreamFmt n s) := by
  refine FrR.via hyp ?_ within; unfold execStreamFmt; try dsimp only
  repeat' (first | (with_reducible first | exact Fr.refl _ _ | assumption | refine frR_next ?_ | exact frR_fault | refine present_fr ?_ | refine Fr.ite ?_ ?_ | refine decodeCmd_fr ?_ (fun _ _ _ => ?_)) | split)

theorem execStreamMask_fr {μ : ℕ} {α : State} {n : ℕ} {s : State} (hyp : Fr μ α s) (within : μ ||| 71193048 = μ := by decide) :
    FrR μ α (execStreamMask n s) := by
  refine FrR.via hyp ?_ within; unfold execStreamMask; try dsimp only
  repeat' (first | (with_reducible first | exact Fr.refl _ _ | assumption | refine frR_next ?_ | exact frR_fault | refine present_fr ?_ | refine Fr.ite ?_ ?_ | refine readMask_fr ?_ | refine decodeCmd_fr ?_ (fun _ _ _ => ?_)) | split)

theorem execStreamMove_fr {μ : ℕ} {α : State} {n : ℕ} {s : State} (hyp : Fr μ α s) (within : μ ||| 131072 = μ := by decide) :
    FrR μ α (execStreamMove n s) := by
  refine FrR.via hyp ?_ within; unfold execStreamMove; try dsimp only
  repeat' (first | (with_reducible first | exact Fr.refl _ _ | assumption | refine frR_next ?_ | exact frR_fault | refine present_fr ?_ | refine Fr.ite ?_ ?_ | refine decodeCmd_fr ?_ (fun _ _ _ => ?_)) | split)

theorem execStreamRepeat_fr {μ : ℕ} {α : State} {n : ℕ} {s : State} (hyp : Fr μ α s) (within : μ ||| 131072 = μ := by decide) :
    FrR μ α (execStreamRepeat n s) := by
  refine FrR.via hyp ?_ within; unfold execStreamRepeat; try dsimp only
  repeat' (first | (with_reducible first | exact Fr.refl _ _ | assumption | refine frR_next ?_ | exact frR_fault | refine present_fr ?_ | refine Fr.ite ?_ ?_ | refine decodeCmd_fr ?_ (fun _ _ _ => ?_)) | split)

theorem execStreamSeta_fr {μ : ℕ} {α : State} {n : ℕ} {s : State} (hyp : Fr μ α s) (within : μ ||| 131072 = μ := by decide) :
    FrR μ α (execStreamSeta n s) := by
  refine FrR.via hyp ?_ within; unfold execStreamSeta; try dsimp only
  repeat' (first | (with_reducible first | exact Fr.refl _ _ | assumption | refine frR_next ?_ | exact frR_fault | refine present_fr ?_ | refine Fr.ite ?_ ?_ | refine decodeCmd_fr ?_ (fun _ _ _ => ?_)) | split)

theorem execStreamSetd_fr {μ : ℕ} {α : State} {n : ℕ} {s : State} (hyp : Fr μ α s) (within : μ ||| 131072 = μ := by decide) :
    FrR μ α (execStreamSetd n s) := by
  refine FrR.via hyp ?_ within; unfold execStreamSetd; try dsimp only
  repeat' (first | (with_reducible first | exact Fr.refl _ _ | assumption | refine frR_next ?_ | exact frR_fault | refine present_fr ?_ | refine Fr.ite ?_ ?_ | refine decodeCmd_fr ?_ (fun _ _ _ => ?_)) | split)

theorem execStreamSignal_fr {μ : ℕ} {α : State} {n : ℕ} {s : State} (hyp : Fr μ α s) (within : μ ||| 70144472 = μ := by decide) :
    FrR μ α (execStreamSignal n s) := by
  refine FrR.via hyp ?_ within; unfold execStreamSignal; try dsimp only
  repeat' (first | (with_reducible first | exact Fr.refl _ _ | assumption | refine frR_next ?_ | exact frR_fault | refine present_fr ?_ | refine Fr.ite ?_ ?_ | refine enterSignal_fr ?_ | refine decodeCmd_fr ?_ (fun _ _ _ => ?_)) | split)

theorem execStreamSkip_fr {μ : ℕ} {α : State} {n : ℕ} {s : State} (hyp : Fr μ α s) (within : μ ||| 131072 = μ := by decide) :
    FrR μ α (execStreamSkip n s) := by
  refine FrR.via hyp ?_ within; unfold execStreamSkip; try dsimp only
  repeat' (first | (with_reducible first | exact Fr.refl _ _ | assumption | refine frR_next ?_ | exact frR_fault | refine present_fr ?_ | refine Fr.ite ?_ ?_ | refine decodeCmd_fr ?_ (fun _ _ _ => ?_)) | split)

theorem execStreamWait_fr {μ : ℕ} {α : State} {n : ℕ} {s : State} (hyp : Fr μ α s) (within : μ ||| 70144472 = μ := by decide) :
    FrR μ α (execStreamWait n s) := by
  refine FrR.via hyp ?_ within; unfold execStreamWait; try dsimp only
  repeat' (first | (with_reducible first | exact Fr.refl _ _ | assumption | refine frR_next ?_ | exact frR_fault | refine present_fr ?_ | refine Fr.ite ?_ ?_ | refine State.modStream_fr ?_ | refine registerWatch_fr ?_ | refine decodeCmd_fr ?_ (fun _ _ _ => ?_)) | split)

theorem execSupplyLoss_fr {μ : ℕ} {α : State} {vphy : Bool} {s : State} (hyp : Fr μ α s) (within : μ ||| 84767196 = μ := by decide) :
    FrR μ α (execSupplyLoss vphy s) := by
  refine FrR.via hyp ?_ within; unfold execSupplyLoss; try dsimp only
  repeat' (first | (with_reducible first | exact Fr.refl _ _ | assumption | refine frR_next ?_ | exact frR_fault | refine present_fr ?_ | refine Fr.ite ?_ ?_ | refine supplyLoss_fr ?_) | split)

theorem execSvDramAccess_fr {μ : ℕ} {α : State} {s : State} (hyp : Fr μ α s) (within : μ ||| 71202296 = μ := by decide) :
    FrR μ α (execSvDramAccess s) := by
  refine FrR.via hyp ?_ within; unfold execSvDramAccess; try dsimp only
  repeat' (first | (with_reducible first | exact Fr.refl _ _ | assumption | refine frR_next ?_ | exact frR_fault | refine present_fr ?_ | refine Fr.ite ?_ ?_ | refine wrapDebug_fr ?_ | refine wrapPowered_fr ?_ (fun _ => ?_)) | split)

theorem execSvIdcode_fr {μ : ℕ} {α : State} {s : State} (hyp : Fr μ α s) (within : μ ||| 32 = μ := by decide) :
    FrR μ α (execSvIdcode s) := by
  refine FrR.via hyp ?_ within; unfold execSvIdcode; try dsimp only
  repeat' (first | (with_reducible first | exact Fr.refl _ _ | assumption | refine frR_next ?_ | exact frR_fault | refine present_fr ?_ | refine Fr.ite ?_ ?_ | refine wrapFree_fr ?_ | refine wrapPowered_fr ?_ (fun _ => ?_)) | split)

theorem execSvMbistCache_fr {μ : ℕ} {α : State} {s : State} (hyp : Fr μ α s) (within : μ ||| 71202296 = μ := by decide) :
    FrR μ α (execSvMbistCache s) := by
  refine FrR.via hyp ?_ within; unfold execSvMbistCache; try dsimp only
  repeat' (first | (with_reducible first | exact Fr.refl _ _ | assumption | refine frR_next ?_ | exact frR_fault | refine present_fr ?_ | refine Fr.ite ?_ ?_ | refine wrapDebug_fr ?_ | refine wrapPowered_fr ?_ (fun _ => ?_)) | split)

theorem execSvMbistLogic_fr {μ : ℕ} {α : State} {s : State} (hyp : Fr μ α s) (within : μ ||| 8228 = μ := by decide) :
    FrR μ α (execSvMbistLogic s) := by
  refine FrR.via hyp ?_ within; unfold execSvMbistLogic; try dsimp only
  repeat' (first | (with_reducible first | exact Fr.refl _ _ | assumption | refine frR_next ?_ | exact frR_fault | refine present_fr ?_ | refine Fr.ite ?_ ?_ | refine wrapTest_fr ?_ | refine wrapPowered_fr ?_ (fun _ => ?_)) | split)

theorem execSvMbistVkeep_fr {μ : ℕ} {α : State} {s : State} (hyp : Fr μ α s) (within : μ ||| 71202296 = μ := by decide) :
    FrR μ α (execSvMbistVkeep s) := by
  refine FrR.via hyp ?_ within; unfold execSvMbistVkeep; try dsimp only
  repeat' (first | (with_reducible first | exact Fr.refl _ _ | assumption | refine frR_next ?_ | exact frR_fault | refine present_fr ?_ | refine Fr.ite ?_ ?_ | refine wrapDebug_fr ?_ | refine wrapPowered_fr ?_ (fun _ => ?_)) | split)

theorem execSvProcDebug_fr {μ : ℕ} {α : State} {s : State} (hyp : Fr μ α s) (within : μ ||| 71202296 = μ := by decide) :
    FrR μ α (execSvProcDebug s) := by
  refine FrR.via hyp ?_ within; unfold execSvProcDebug; try dsimp only
  repeat' (first | (with_reducible first | exact Fr.refl _ _ | assumption | refine frR_next ?_ | exact frR_fault | refine present_fr ?_ | refine Fr.ite ?_ ?_ | refine wrapDebug_fr ?_ | refine wrapPowered_fr ?_ (fun _ => ?_)) | split)

theorem execSvSdiLoop_fr {μ : ℕ} {α : State} {s : State} (hyp : Fr μ α s) (within : μ ||| 8228 = μ := by decide) :
    FrR μ α (execSvSdiLoop s) := by
  refine FrR.via hyp ?_ within; unfold execSvSdiLoop; try dsimp only
  repeat' (first | (with_reducible first | exact Fr.refl _ _ | assumption | refine frR_next ?_ | exact frR_fault | refine present_fr ?_ | refine Fr.ite ?_ ?_ | refine wrapTest_fr ?_ | refine wrapPowered_fr ?_ (fun _ => ?_)) | split)

theorem execSvStatus_fr {μ : ℕ} {α : State} {s : State} (hyp : Fr μ α s) (within : μ ||| 32 = μ := by decide) :
    FrR μ α (execSvStatus s) := by
  refine FrR.via hyp ?_ within; unfold execSvStatus; try dsimp only
  repeat' (first | (with_reducible first | exact Fr.refl _ _ | assumption | refine frR_next ?_ | exact frR_fault | refine present_fr ?_ | refine Fr.ite ?_ ?_ | refine wrapFree_fr ?_ | refine wrapPowered_fr ?_ (fun _ => ?_)) | split)

theorem execSvWardenDebug_fr {μ : ℕ} {α : State} {s : State} (hyp : Fr μ α s) (within : μ ||| 71202296 = μ := by decide) :
    FrR μ α (execSvWardenDebug s) := by
  refine FrR.via hyp ?_ within; unfold execSvWardenDebug; try dsimp only
  repeat' (first | (with_reducible first | exact Fr.refl _ _ | assumption | refine frR_next ?_ | exact frR_fault | refine present_fr ?_ | refine Fr.ite ?_ ?_ | refine wrapDebug_fr ?_ | refine wrapPowered_fr ?_ (fun _ => ?_)) | split)

theorem execSyncAdd_fr {μ : ℕ} {α : State} {q : Side} {obj : ℕ} {addend : ℕ} {s : State} (hyp : Fr μ α s) (within : μ ||| 71193048 = μ := by decide) :
    FrR μ α (execSyncAdd q obj addend s) := by
  refine FrR.via hyp ?_ within; unfold execSyncAdd; try dsimp only
  repeat' (first | (with_reducible first | exact Fr.refl _ _ | assumption | refine frR_next ?_ | exact frR_fault | refine present_fr ?_ | refine Fr.ite ?_ ?_ | refine syncRequest_fr ?_) | split)

theorem execSyncObjectWrite_fr {μ : ℕ} {α : State} {r : Req} {o : ℕ} {value : ℕ} {s : State} (hyp : Fr μ α s) (within : μ ||| 70145496 = μ := by decide) :
    FrR μ α (execSyncObjectWrite r o value s) := by
  refine FrR.via hyp ?_ within; unfold execSyncObjectWrite; try dsimp only
  repeat' (first | (with_reducible first | exact Fr.refl _ _ | assumption | refine frR_next ?_ | exact frR_fault | refine present_fr ?_ | refine Fr.ite ?_ ?_ | refine syncObjectHome_fr ?_ | refine FrW.of_done (syncObjectHome_fr ?_) (by assumption) | refine FrW.of_refused (syncObjectHome_fr ?_) (by assumption) | refine FrW.of_wait (syncObjectHome_fr ?_) (by assumption) | refine dictWrite_fr ?_ (fun _ _ => ?_)) | split)

theorem execSyncRead_fr {μ : ℕ} {α : State} {q : Side} {obj : ℕ} {s : State} (hyp : Fr μ α s) (within : μ ||| 71193048 = μ := by decide) :
    FrR μ α (execSyncRead q obj s) := by
  refine FrR.via hyp ?_ within; unfold execSyncRead; try dsimp only
  repeat' (first | (with_reducible first | exact Fr.refl _ _ | assumption | refine frR_next ?_ | exact frR_fault | refine present_fr ?_ | refine Fr.ite ?_ ?_ | refine syncRequest_fr ?_) | split)

theorem execSyncReset_fr {μ : ℕ} {α : State} {q : Side} {obj : ℕ} {s : State} (hyp : Fr μ α s) (within : μ ||| 71193048 = μ := by decide) :
    FrR μ α (execSyncReset q obj s) := by
  refine FrR.via hyp ?_ within; unfold execSyncReset; try dsimp only
  repeat' (first | (with_reducible first | exact Fr.refl _ _ | assumption | refine frR_next ?_ | exact frR_fault | refine present_fr ?_ | refine Fr.ite ?_ ?_ | refine syncRequest_fr ?_) | split)

theorem execSyncSet_fr {μ : ℕ} {α : State} {q : Side} {obj : ℕ} {value : ℕ} {s : State} (hyp : Fr μ α s) (within : μ ||| 71193048 = μ := by decide) :
    FrR μ α (execSyncSet q obj value s) := by
  refine FrR.via hyp ?_ within; unfold execSyncSet; try dsimp only
  repeat' (first | (with_reducible first | exact Fr.refl _ _ | assumption | refine frR_next ?_ | exact frR_fault | refine present_fr ?_ | refine Fr.ite ?_ ?_ | refine syncRequest_fr ?_) | split)

theorem execSyncSignal_fr {μ : ℕ} {α : State} {q : Side} {obj : ℕ} {addend : ℕ} {s : State} (hyp : Fr μ α s) (within : μ ||| 71193048 = μ := by decide) :
    FrR μ α (execSyncSignal q obj addend s) := by
  refine FrR.via hyp ?_ within; unfold execSyncSignal; try dsimp only
  repeat' (first | (with_reducible first | exact Fr.refl _ _ | assumption | refine frR_next ?_ | exact frR_fault | refine present_fr ?_ | refine Fr.ite ?_ ?_ | refine syncRequest_fr ?_) | split)

theorem execSyncWait_fr {μ : ℕ} {α : State} {q : Side} {obj : ℕ} {threshold : ℕ} {s : State} (hyp : Fr μ α s) (within : μ ||| 71193048 = μ := by decide) :
    FrR μ α (execSyncWait q obj threshold s) := by
  refine FrR.via hyp ?_ within; unfold execSyncWait; try dsimp only
  repeat' (first | (with_reducible first | exact Fr.refl _ _ | assumption | refine frR_next ?_ | exact frR_fault | refine present_fr ?_ | refine Fr.ite ?_ ?_ | refine syncRequest_fr ?_) | split)

theorem execSyncWaitTimeout_fr {μ : ℕ} {α : State} {s : State} (hyp : Fr μ α s) (within : μ ||| 71193048 = μ := by decide) :
    FrR μ α (execSyncWaitTimeout s) := by
  refine FrR.via hyp ?_ within; unfold execSyncWaitTimeout; try dsimp only
  repeat' (first | (with_reducible first | exact Fr.refl _ _ | assumption | refine frR_next ?_ | exact frR_fault | refine present_fr ?_ | refine Fr.ite ?_ ?_ | refine syncTimeouts_fr ?_ | refine serveAll_fr ?_) | split)

theorem execTapStepConfirmed_fr {μ : ℕ} {α : State} {c : ℕ} {s : State} (hyp : Fr μ α s) (within : μ ||| 8393280 = μ := by decide) :
    FrR μ α (execTapStepConfirmed c s) := by
  refine FrR.via hyp ?_ within; unfold execTapStepConfirmed; try dsimp only
  repeat' (first | (with_reducible first | exact Fr.refl _ _ | assumption | refine frR_next ?_ | exact frR_fault | refine present_fr ?_ | refine Fr.ite ?_ ?_ | refine tapConfirmed_fr ?_) | split)

theorem execThermalFlagAlert_fr {μ : ℕ} {α : State} {c : ℕ} {layer : ℕ} {s : State} (hyp : Fr μ α s) (within : μ ||| 4215000 = μ := by decide) :
    FrR μ α (execThermalFlagAlert c layer s) := by
  refine FrR.via hyp ?_ within; unfold execThermalFlagAlert; try dsimp only
  repeat' (first | (with_reducible first | exact Fr.refl _ _ | assumption | refine frR_next ?_ | exact frR_fault | refine present_fr ?_ | refine Fr.ite ?_ ?_ | refine flagAlert_fr ?_) | split)

theorem execThrottleAckMissing_fr {μ : ℕ} {α : State} {s : State} (hyp : Fr μ α s) (within : μ ||| 4215000 = μ := by decide) :
    FrR μ α (execThrottleAckMissing s) := by
  refine FrR.via hyp ?_ within; unfold execThrottleAckMissing; try dsimp only
  repeat' (first | (with_reducible first | exact Fr.refl _ _ | assumption | refine frR_next ?_ | exact frR_fault | refine present_fr ?_ | refine Fr.ite ?_ ?_ | refine ackMissing_fr ?_) | split)

theorem execThrottleAckToggle_fr {μ : ℕ} {α : State} {s : State} (hyp : Fr μ α s) (within : μ ||| 4194384 = μ := by decide) :
    FrR μ α (execThrottleAckToggle s) := by
  refine FrR.via hyp ?_ within; unfold execThrottleAckToggle; try dsimp only
  repeat' (first | (with_reducible first | exact Fr.refl _ _ | assumption | refine frR_next ?_ | exact frR_fault | refine present_fr ?_ | refine Fr.ite ?_ ?_ | refine ackToggle_fr ?_) | split)

theorem execTide_fr {μ : ℕ} {α : State} {s : State} (hyp : Fr μ α s) (within : μ ||| 92231644 = μ := by decide) :
    FrR μ α (execTide s) := by
  refine FrR.via hyp ?_ within; unfold execTide; try dsimp only
  repeat' (first | (with_reducible first | exact Fr.refl _ _ | assumption | refine frR_next ?_ | exact frR_fault | refine present_fr ?_ | refine Fr.ite ?_ ?_ | refine tide_fr ?_) | split)

theorem execTideDecisionMissing_fr {μ : ℕ} {α : State} {s : State} (hyp : Fr μ α s) (within : μ ||| 86232 = μ := by decide) :
    FrR μ α (execTideDecisionMissing s) := by
  refine FrR.via hyp ?_ within; unfold execTideDecisionMissing; try dsimp only
  repeat' (first | (with_reducible first | exact Fr.refl _ _ | assumption | refine frR_next ?_ | exact frR_fault | refine present_fr ?_ | refine Fr.ite ?_ ?_ | refine decisionMissing_fr ?_) | split)

theorem execTideIntervalWrite_fr {μ : ℕ} {α : State} {r : Req} {value : ℕ} {s : State} (hyp : Fr μ α s) (within : μ ||| 87512 = μ := by decide) :
    FrR μ α (execTideIntervalWrite r value s) := by
  refine FrR.via hyp ?_ within; unfold execTideIntervalWrite; try dsimp only
  repeat' (first | (with_reducible first | exact Fr.refl _ _ | assumption | refine frR_next ?_ | exact frR_fault | refine present_fr ?_ | refine Fr.ite ?_ ?_ | refine intervalHome_fr ?_ | refine FrW.of_done (intervalHome_fr ?_) (by assumption) | refine FrW.of_refused (intervalHome_fr ?_) (by assumption) | refine FrW.of_wait (intervalHome_fr ?_) (by assumption) | refine dictWrite_fr ?_ (fun _ _ => ?_)) | split)

theorem execTidePreparePoint_fr {μ : ℕ} {α : State} {s : State} (hyp : Fr μ α s) (within : μ ||| 65856 = μ := by decide) :
    FrR μ α (execTidePreparePoint s) := by
  refine FrR.via hyp ?_ within; unfold execTidePreparePoint; try dsimp only
  repeat' (first | (with_reducible first | exact Fr.refl _ _ | assumption | refine frR_next ?_ | exact frR_fault | refine present_fr ?_ | refine Fr.ite ?_ ?_ | refine prepareTide_fr ?_) | split)

theorem execTideSwitchRetired_fr {μ : ℕ} {α : State} {s : State} (hyp : Fr μ α s) (within : μ ||| 217304 = μ := by decide) :
    FrR μ α (execTideSwitchRetired s) := by
  refine FrR.via hyp ?_ within; unfold execTideSwitchRetired; try dsimp only
  repeat' (first | (with_reducible first | exact Fr.refl _ _ | assumption | refine frR_next ?_ | exact frR_fault | refine present_fr ?_ | refine Fr.ite ?_ ?_ | refine retireSwitch_fr ?_) | split)

theorem execTimeOffset_fr {μ : ℕ} {α : State} {s : State} (hyp : Fr μ α s) (within : μ ||| 20696 = μ := by decide) :
    FrR μ α (execTimeOffset s) := by
  refine FrR.via hyp ?_ within; unfold execTimeOffset; try dsimp only
  repeat' (first | (with_reducible first | exact Fr.refl _ _ | assumption | refine frR_next ?_ | exact frR_fault | refine present_fr ?_ | refine Fr.ite ?_ ?_ | refine raiseNode_fr ?_) | split)

theorem execTimeParcel_fr {μ : ℕ} {α : State} {h : ℕ} {tx : ℕ} {echo : ℕ} {echoRx : ℕ} {rx : ℕ} {s : State} (hyp : Fr μ α s) (within : μ ||| 29144 = μ := by decide) :
    FrR μ α (execTimeParcel h tx echo echoRx rx s) := by
  refine FrR.via hyp ?_ within; unfold execTimeParcel; try dsimp only
  repeat' (first | (with_reducible first | exact Fr.refl _ _ | assumption | refine frR_next ?_ | exact frR_fault | refine present_fr ?_ | refine Fr.ite ?_ ?_ | refine timeTaken_fr ?_) | split)

theorem execTimeSendTimer_fr {μ : ℕ} {α : State} {h : ℕ} {s : State} (hyp : Fr μ α s) (within : μ ||| 256 = μ := by decide) :
    FrR μ α (execTimeSendTimer h s) := by
  refine FrR.via hyp ?_ within; unfold execTimeSendTimer; try dsimp only
  repeat' (first | (with_reducible first | exact Fr.refl _ _ | assumption | refine frR_next ?_ | exact frR_fault | refine present_fr ?_ | refine Fr.ite ?_ ?_ | refine State.setPort_fr ?_ | refine sendLink_fr ?_) | split)

theorem execTimeUnsynchronised_fr {μ : ℕ} {α : State} {s : State} (hyp : Fr μ α s) (within : μ ||| 20952 = μ := by decide) :
    FrR μ α (execTimeUnsynchronised s) := by
  refine FrR.via hyp ?_ within; unfold execTimeUnsynchronised; try dsimp only
  repeat' (first | (with_reducible first | exact Fr.refl _ _ | assumption | refine frR_next ?_ | exact frR_fault | refine present_fr ?_ | refine Fr.ite ?_ ?_ | refine State.setSet_fr ?_ | refine raiseNode_fr ?_) | split)

theorem execTrackerAgeExpiry_fr {μ : ℕ} {α : State} {c : ℕ} {s : State} (hyp : Fr μ α s) (within : μ ||| 262208 = μ := by decide) :
    FrR μ α (execTrackerAgeExpiry c s) := by
  refine FrR.via hyp ?_ within; unfold execTrackerAgeExpiry; try dsimp only
  repeat' (first | (with_reducible first | exact Fr.refl _ _ | assumption | refine frR_next ?_ | exact frR_fault | refine present_fr ?_ | refine Fr.ite ?_ ?_ | refine ageWeak_fr ?_) | split)

theorem execTrafficResumed_fr {μ : ℕ} {α : State} {st : ℕ} {s : State} (hyp : Fr μ α s) (within : μ ||| 75387352 = μ := by decide) :
    FrR μ α (execTrafficResumed st s) := by
  refine FrR.via hyp ?_ within; unfold execTrafficResumed; try dsimp only
  repeat' (first | (with_reducible first | exact Fr.refl _ _ | assumption | refine frR_next ?_ | exact frR_fault | refine present_fr ?_ | refine Fr.ite ?_ ?_ | refine resumeTraffic_fr ?_ | refine serveAll_fr ?_) | split)

theorem execTrainingTimeout_fr {μ : ℕ} {α : State} {c : ℕ} {s : State} (hyp : Fr μ α s) (within : μ ||| 79582168 = μ := by decide) :
    FrR μ α (execTrainingTimeout c s) := by
  refine FrR.via hyp ?_ within; unfold execTrainingTimeout; try dsimp only
  repeat' (first | (with_reducible first | exact Fr.refl _ _ | assumption | refine frR_next ?_ | exact frR_fault | refine present_fr ?_ | refine Fr.ite ?_ ?_ | refine trainingTimeout_fr ?_ | refine serveAll_fr ?_) | split)

theorem execTransferDone_fr {μ : ℕ} {α : State} {num : ℕ} {s : State} (hyp : Fr μ α s) (within : μ ||| 71193048 = μ := by decide) :
    FrR μ α (execTransferDone num s) := by
  refine FrR.via hyp ?_ within; unfold execTransferDone; try dsimp only
  repeat' (first | (with_reducible first | exact Fr.refl _ _ | assumption | refine frR_next ?_ | exact frR_fault | refine present_fr ?_ | refine Fr.ite ?_ ?_ | refine pumpTransfers_fr ?_ | refine endTransfer_fr ?_ | refine serveAll_fr ?_) | split)

theorem execTransferOwner_fr {μ : ℕ} {α : State} {r : Req} {s : State} (hyp : Fr μ α s) (within : μ ||| 71196120 = μ := by decide) :
    FrR μ α (execTransferOwner r s) := by
  refine FrR.via hyp ?_ within; unfold execTransferOwner; try dsimp only
  repeat' (first | (with_reducible first | exact Fr.refl _ _ | assumption | refine frR_next ?_ | exact frR_fault | refine present_fr ?_ | refine Fr.ite ?_ ?_ | refine ownerHome_fr ?_ | refine FrW.of_done (ownerHome_fr ?_) (by assumption) | refine FrW.of_refused (ownerHome_fr ?_) (by assumption) | refine FrW.of_wait (ownerHome_fr ?_) (by assumption) | refine dictWrite_fr ?_ (fun _ _ => ?_)) | split)

theorem execTransferStart_fr {μ : ℕ} {α : State} {held : ℕ} {s : State} (hyp : Fr μ α s) (within : μ ||| 71193052 = μ := by decide) :
    FrR μ α (execTransferStart held s) := by
  refine FrR.via hyp ?_ within; unfold execTransferStart; try dsimp only
  repeat' (first | (with_reducible first | exact Fr.refl _ _ | assumption | refine frR_next ?_ | exact frR_fault | refine present_fr ?_ | refine Fr.ite ?_ ?_ | refine startTransfer_fr ?_) | split)

theorem execTransferSubmit_fr {μ : ℕ} {α : State} {r : Req} {value : List Byte} {s : State} (hyp : Fr μ α s) (within : μ ||| 1070552 = μ := by decide) :
    FrR μ α (execTransferSubmit r value s) := by
  refine FrR.via hyp ?_ within; unfold execTransferSubmit; try dsimp only
  repeat' (first | (with_reducible first | exact Fr.refl _ _ | assumption | refine frR_next ?_ | exact frR_fault | refine present_fr ?_ | refine Fr.ite ?_ ?_ | refine transferHome_fr ?_ | refine FrW.of_done (transferHome_fr ?_) (by assumption) | refine FrW.of_refused (transferHome_fr ?_) (by assumption) | refine FrW.of_wait (transferHome_fr ?_) (by assumption) | refine dictWrite_fr ?_ (fun _ _ => ?_)) | split)

theorem execUnitRejoin_fr {μ : ℕ} {α : State} {r : Req} {u : ℕ} {s : State} (hyp : Fr μ α s) (within : μ ||| 218584 = μ := by decide) :
    FrR μ α (execUnitRejoin r u s) := by
  refine FrR.via hyp ?_ within; unfold execUnitRejoin; try dsimp only
  repeat' (first | (with_reducible first | exact Fr.refl _ _ | assumption | refine frR_next ?_ | exact frR_fault | refine present_fr ?_ | refine Fr.ite ?_ ?_ | refine unitRejoinHome_fr ?_ | refine FrW.of_done (unitRejoinHome_fr ?_) (by assumption) | refine FrW.of_refused (unitRejoinHome_fr ?_) (by assumption) | refine FrW.of_wait (unitRejoinHome_fr ?_) (by assumption) | refine dictWrite_fr ?_ (fun _ _ => ?_)) | split)

theorem execUnretainedChannelTimeout_fr {μ : ℕ} {α : State} {c : ℕ} {s : State} (hyp : Fr μ α s) (within : μ ||| 68 = μ := by decide) :
    FrR μ α (execUnretainedChannelTimeout c s) := by
  refine FrR.via hyp ?_ within; unfold execUnretainedChannelTimeout; try dsimp only
  repeat' (first | (with_reducible first | exact Fr.refl _ _ | assumption | refine frR_next ?_ | exact frR_fault | refine present_fr ?_ | refine Fr.ite ?_ ?_ | refine markUnretained_fr ?_) | split)

theorem execUnretainedPoisonFillDone_fr {μ : ℕ} {α : State} {c : ℕ} {s : State} (hyp : Fr μ α s) (within : μ ||| 21212 = μ := by decide) :
    FrR μ α (execUnretainedPoisonFillDone c s) := by
  refine FrR.via hyp ?_ within; unfold execUnretainedPoisonFillDone; try dsimp only
  repeat' (first | (with_reducible first | exact Fr.refl _ _ | assumption | refine frR_next ?_ | exact frR_fault | refine present_fr ?_ | refine Fr.ite ?_ ?_ | refine unretainedFilled_fr ?_) | split)

theorem execUpBeatDiscarded_fr {μ : ℕ} {α : State} {port : Port} {s : State} (hyp : Fr μ α s) (within : μ ||| 64 = μ := by decide) :
    FrR μ α (execUpBeatDiscarded port s) := by
  refine FrR.via hyp ?_ within; unfold execUpBeatDiscarded; try dsimp only
  repeat' (first | (with_reducible first | exact Fr.refl _ _ | assumption | refine frR_next ?_ | exact frR_fault | refine present_fr ?_ | refine Fr.ite ?_ ?_ | refine State.bump_fr ?_ | refine discardBeat_fr ?_) | split)

theorem execUpdateActivate_fr {μ : ℕ} {α : State} {r : Req} {others : Bool} {s : State} (hyp : Fr μ α s) (within : μ ||| 33584600 = μ := by decide) :
    FrR μ α (execUpdateActivate r others s) := by
  refine FrR.via hyp ?_ within; unfold execUpdateActivate; try dsimp only
  repeat' (first | (with_reducible first | exact Fr.refl _ _ | assumption | refine frR_next ?_ | exact frR_fault | refine present_fr ?_ | refine Fr.ite ?_ ?_ | refine updateHome_fr ?_ | refine FrW.of_done (updateHome_fr ?_) (by assumption) | refine FrW.of_refused (updateHome_fr ?_) (by assumption) | refine FrW.of_wait (updateHome_fr ?_) (by assumption) | refine dictWrite_fr ?_ (fun _ _ => ?_)) | split)

theorem execUpdateBegin_fr {μ : ℕ} {α : State} {r : Req} {s : State} (hyp : Fr μ α s) (within : μ ||| 33584600 = μ := by decide) :
    FrR μ α (execUpdateBegin r s) := by
  refine FrR.via hyp ?_ within; unfold execUpdateBegin; try dsimp only
  repeat' (first | (with_reducible first | exact Fr.refl _ _ | assumption | refine frR_next ?_ | exact frR_fault | refine present_fr ?_ | refine Fr.ite ?_ ?_ | refine updateHome_fr ?_ | refine FrW.of_done (updateHome_fr ?_) (by assumption) | refine FrW.of_refused (updateHome_fr ?_) (by assumption) | refine FrW.of_wait (updateHome_fr ?_) (by assumption) | refine dictWrite_fr ?_ (fun _ _ => ?_)) | split)

theorem execUpdateDiscard_fr {μ : ℕ} {α : State} {r : Req} {s : State} (hyp : Fr μ α s) (within : μ ||| 33584600 = μ := by decide) :
    FrR μ α (execUpdateDiscard r s) := by
  refine FrR.via hyp ?_ within; unfold execUpdateDiscard; try dsimp only
  repeat' (first | (with_reducible first | exact Fr.refl _ _ | assumption | refine frR_next ?_ | exact frR_fault | refine present_fr ?_ | refine Fr.ite ?_ ?_ | refine updateHome_fr ?_ | refine FrW.of_done (updateHome_fr ?_) (by assumption) | refine FrW.of_refused (updateHome_fr ?_) (by assumption) | refine FrW.of_wait (updateHome_fr ?_) (by assumption) | refine dictWrite_fr ?_ (fun _ _ => ?_)) | split)

theorem execUpdateVerify_fr {μ : ℕ} {α : State} {r : Req} {s : State} (hyp : Fr μ α s) (within : μ ||| 33584600 = μ := by decide) :
    FrR μ α (execUpdateVerify r s) := by
  refine FrR.via hyp ?_ within; unfold execUpdateVerify; try dsimp only
  repeat' (first | (with_reducible first | exact Fr.refl _ _ | assumption | refine frR_next ?_ | exact frR_fault | refine present_fr ?_ | refine Fr.ite ?_ ?_ | refine updateHome_fr ?_ | refine FrW.of_done (updateHome_fr ?_) (by assumption) | refine FrW.of_refused (updateHome_fr ?_) (by assumption) | refine FrW.of_wait (updateHome_fr ?_) (by assumption) | refine dictWrite_fr ?_ (fun _ _ => ?_)) | split)

theorem execVcoreGood_fr {μ : ℕ} {α : State} {s : State} (hyp : Fr μ α s) (within : μ ||| 92165596 = μ := by decide) :
    FrR μ α (execVcoreGood s) := by
  refine FrR.via hyp ?_ within; unfold execVcoreGood; try dsimp only
  repeat' (first | (with_reducible first | exact Fr.refl _ _ | assumption | refine frR_next ?_ | exact frR_fault | refine present_fr ?_ | refine Fr.ite ?_ ?_ | refine vcoreGood_fr ?_) | split)

theorem execVerificationDone_fr {μ : ℕ} {α : State} {s : State} (hyp : Fr μ α s) (within : μ ||| 33575128 = μ := by decide) :
    FrR μ α (execVerificationDone s) := by
  refine FrR.via hyp ?_ within; unfold execVerificationDone; try dsimp only
  repeat' (first | (with_reducible first | exact Fr.refl _ _ | assumption | refine frR_next ?_ | exact frR_fault | refine present_fr ?_ | refine Fr.ite ?_ ?_ | refine verificationDone_fr ?_) | split)

theorem execVkeepLoss_fr {μ : ℕ} {α : State} {s : State} (hyp : Fr μ α s) (within : μ ||| 134158332 = μ := by decide) :
    FrR μ α (execVkeepLoss s) := by
  refine FrR.via hyp ?_ within; unfold execVkeepLoss; try dsimp only
  repeat' (first | (with_reducible first | exact Fr.refl _ _ | assumption | refine frR_next ?_ | exact frR_fault | refine present_fr ?_ | refine Fr.ite ?_ ?_ | refine vkeepLost_fr ?_) | split)

theorem execVote_fr {μ : ℕ} {α : State} {h : ℕ} {hdr : Hdr} {frame : ℕ} {vote : ℕ} {s : State} (hyp : Fr μ α s) (within : μ ||| 86488 = μ := by decide) :
    FrR μ α (execVote h hdr frame vote s) := by
  refine FrR.via hyp ?_ within; unfold execVote; try dsimp only
  repeat' (first | (with_reducible first | exact Fr.refl _ _ | assumption | refine frR_next ?_ | exact frR_fault | refine present_fr ?_ | refine Fr.ite ?_ ?_ | refine takeVote_fr ?_ | refine takeParcel_fr ?_ (fun _ => ?_)) | split)

theorem execVreqLowerTimer_fr {μ : ℕ} {α : State} {s : State} (hyp : Fr μ α s) (within : μ ||| 80 = μ := by decide) :
    FrR μ α (execVreqLowerTimer s) := by
  refine FrR.via hyp ?_ within; unfold execVreqLowerTimer; try dsimp only
  repeat' (first | (with_reducible first | exact Fr.refl _ _ | assumption | refine frR_next ?_ | exact frR_fault | refine present_fr ?_ | refine Fr.ite ?_ ?_ | refine driveVreq_fr ?_) | split)

theorem execWaitSatisfied_fr {μ : ℕ} {α : State} {n : ℕ} {s : State} (hyp : Fr μ α s) (within : μ ||| 655360 = μ := by decide) :
    FrR μ α (execWaitSatisfied n s) := by
  refine FrR.via hyp ?_ within; unfold execWaitSatisfied; try dsimp only
  repeat' (first | (with_reducible first | exact Fr.refl _ _ | assumption | refine frR_next ?_ | exact frR_fault | refine present_fr ?_ | refine Fr.ite ?_ ?_ | refine passWait_fr ?_) | split)

theorem execWakeExitComplete_fr {μ : ℕ} {α : State} {s : State} (hyp : Fr μ α s) (within : μ ||| 75388892 = μ := by decide) :
    FrR μ α (execWakeExitComplete s) := by
  refine FrR.via hyp ?_ within; unfold execWakeExitComplete; try dsimp only
  repeat' (first | (with_reducible first | exact Fr.refl _ _ | assumption | refine frR_next ?_ | exact frR_fault | refine present_fr ?_ | refine Fr.ite ?_ ?_ | refine wakeDone_fr ?_) | split)

theorem execWarmReset_fr {μ : ℕ} {α : State} {r : Req} {s : State} (hyp : Fr μ α s) (within : μ ||| 134174716 = μ := by decide) :
    FrR μ α (execWarmReset r s) := by
  refine FrR.via hyp ?_ within; unfold execWarmReset; try dsimp only
  repeat' (first | (with_reducible first | exact Fr.refl _ _ | assumption | refine frR_next ?_ | exact frR_fault | refine present_fr ?_ | refine Fr.ite ?_ ?_ | refine warmHome_fr ?_ | refine FrW.of_done (warmHome_fr ?_) (by assumption) | refine FrW.of_refused (warmHome_fr ?_) (by assumption) | refine FrW.of_wait (warmHome_fr ?_) (by assumption) | refine dictWrite_fr ?_ (fun _ _ => ?_)) | split)

theorem execWarmResetLimitExpiry_fr {μ : ℕ} {α : State} {node : ℕ} {s : State} (hyp : Fr μ α s) (within : μ ||| 71258588 = μ := by decide) :
    FrR μ α (execWarmResetLimitExpiry node s) := by
  refine FrR.via hyp ?_ within; unfold execWarmResetLimitExpiry; try dsimp only
  repeat' (first | (with_reducible first | exact Fr.refl _ _ | assumption | refine frR_next ?_ | exact frR_fault | refine present_fr ?_ | refine Fr.ite ?_ ?_ | refine warmResetLimit_fr ?_) | split)

theorem execWarmResetParcel_fr {μ : ℕ} {α : State} {h : ℕ} {hdr : Hdr} {node : ℕ} {s : State} (hyp : Fr μ α s) (within : μ ||| 20952 = μ := by decide) :
    FrR μ α (execWarmResetParcel h hdr node s) := by
  refine FrR.via hyp ?_ within; unfold execWarmResetParcel; try dsimp only
  repeat' (first | (with_reducible first | exact Fr.refl _ _ | assumption | refine frR_next ?_ | exact frR_fault | refine present_fr ?_ | refine Fr.ite ?_ ?_ | refine peerResets_fr ?_ | refine takeParcel_fr ?_ (fun _ => ?_)) | split)

theorem execWriteBackAccepted_fr {μ : ℕ} {α : State} {x : ℕ} {s : State} (hyp : Fr μ α s) (within : μ ||| 71193048 = μ := by decide) :
    FrR μ α (execWriteBackAccepted x s) := by
  refine FrR.via hyp ?_ within; unfold execWriteBackAccepted; try dsimp only
  repeat' (first | (with_reducible first | exact Fr.refl _ _ | assumption | refine frR_next ?_ | exact frR_fault | refine present_fr ?_ | refine Fr.ite ?_ ?_ | refine takeWriteBack_fr ?_ | refine retryAllocs_fr ?_ | refine serveAll_fr ?_) | split)

theorem execWriteBackLimitExpiry_fr {μ : ℕ} {α : State} {s : State} (hyp : Fr μ α s) (within : μ ||| 67981788 = μ := by decide) :
    FrR μ α (execWriteBackLimitExpiry s) := by
  refine FrR.via hyp ?_ within; unfold execWriteBackLimitExpiry; try dsimp only
  repeat' (first | (with_reducible first | exact Fr.refl _ _ | assumption | refine frR_next ?_ | exact frR_fault | refine present_fr ?_ | refine Fr.ite ?_ ?_ | refine writeBackLimit_fr ?_) | split)

theorem execWriteConfirm_fr {μ : ℕ} {α : State} {c : ℕ} {s : State} (hyp : Fr μ α s) (within : μ ||| 71193052 = μ := by decide) :
    FrR μ α (execWriteConfirm c s) := by
  refine FrR.via hyp ?_ within; unfold execWriteConfirm; try dsimp only
  repeat' (first | (with_reducible first | exact Fr.refl _ _ | assumption | refine frR_next ?_ | exact frR_fault | refine present_fr ?_ | refine Fr.ite ?_ ?_ | refine confirmWrite_fr ?_ | refine pump_fr ?_) | split)

theorem execWritebackAgeExpiry_fr {μ : ℕ} {α : State} {s : State} (hyp : Fr μ α s) (within : μ ||| 67916248 = μ := by decide) :
    FrR μ α (execWritebackAgeExpiry s) := by
  refine FrR.via hyp ?_ within; unfold execWritebackAgeExpiry; try dsimp only
  repeat' (first | (with_reducible first | exact Fr.refl _ _ | assumption | refine frR_next ?_ | exact frR_fault | refine present_fr ?_ | refine Fr.ite ?_ ?_ | refine writeBackAll_fr ?_) | split)

theorem execWsBypass_fr {μ : ℕ} {α : State} {s : State} (hyp : Fr μ α s) (within : μ ||| 32 = μ := by decide) :
    FrR μ α (execWsBypass s) := by
  refine FrR.via hyp ?_ within; unfold execWsBypass; try dsimp only
  repeat' (first | (with_reducible first | exact Fr.refl _ _ | assumption | refine frR_next ?_ | exact frR_fault | refine present_fr ?_ | refine Fr.ite ?_ ?_ | refine wrapFree_fr ?_ | refine wrapPowered_fr ?_ (fun _ => ?_)) | split)

theorem execWsExtest_fr {μ : ℕ} {α : State} {s : State} (hyp : Fr μ α s) (within : μ ||| 8228 = μ := by decide) :
    FrR μ α (execWsExtest s) := by
  refine FrR.via hyp ?_ within; unfold execWsExtest; try dsimp only
  repeat' (first | (with_reducible first | exact Fr.refl _ _ | assumption | refine frR_next ?_ | exact frR_fault | refine present_fr ?_ | refine Fr.ite ?_ ?_ | refine wrapTest_fr ?_ | refine wrapPowered_fr ?_ (fun _ => ?_)) | split)

theorem execWsIntestScan_fr {μ : ℕ} {α : State} {s : State} (hyp : Fr μ α s) (within : μ ||| 71202296 = μ := by decide) :
    FrR μ α (execWsIntestScan s) := by
  refine FrR.via hyp ?_ within; unfold execWsIntestScan; try dsimp only
  repeat' (first | (with_reducible first | exact Fr.refl _ _ | assumption | refine frR_next ?_ | exact frR_fault | refine present_fr ?_ | refine Fr.ite ?_ ?_ | refine wrapDebug_fr ?_ | refine wrapPowered_fr ?_ (fun _ => ?_)) | split)

theorem execZeroisationPoisonDone_fr {μ : ℕ} {α : State} {s : State} (hyp : Fr μ α s) (within : μ ||| 71196668 = μ := by decide) :
    FrR μ α (execZeroisationPoisonDone s) := by
  refine FrR.via hyp ?_ within; unfold execZeroisationPoisonDone; try dsimp only
  repeat' (first | (with_reducible first | exact Fr.refl _ _ | assumption | refine frR_next ?_ | exact frR_fault | refine present_fr ?_ | refine Fr.ite ?_ ?_ | refine zeroPoisoned_fr ?_ | refine serveAll_fr ?_) | split)

theorem execZeroise_fr {μ : ℕ} {α : State} {r : Req} {s : State} (hyp : Fr μ α s) (within : μ ||| 71196120 = μ := by decide) :
    FrR μ α (execZeroise r s) := by
  refine FrR.via hyp ?_ within; unfold execZeroise; try dsimp only
  repeat' (first | (with_reducible first | exact Fr.refl _ _ | assumption | refine frR_next ?_ | exact frR_fault | refine present_fr ?_ | refine Fr.ite ?_ ?_ | refine ownerHome_fr ?_ | refine FrW.of_done (ownerHome_fr ?_) (by assumption) | refine FrW.of_refused (ownerHome_fr ?_) (by assumption) | refine FrW.of_wait (ownerHome_fr ?_) (by assumption) | refine dictWrite_fr ?_ (fun _ _ => ?_)) | split)

end Sys2Proof.Machine
end

