-- ==== Sys2Proof/WellFormed.lean ====
section
/-!
DEFINITION. Well-formed commands: every operand fits the field that carries it (R16, R106, R216, R218, R323, R440, R550). The
block's meanings are total all the same: an operand outside its field names no unit, or is cut to the field.
-/
namespace Sys2Proof

/-- A source of dictionary requests: a 48-bit MAC address, or a 32-bit session identifier (R440, R462). -/
def sourceWf : Source → Bool
  | .mac a => decide (a < 2 ^ 48)
  | .window => true
  | .session id => decide (id < 2 ^ 32)

/-- A request's envelope: a well-formed source and a 16-bit transaction number (R440). -/
def reqWf (r : Req) : Bool := sourceWf r.src && decide (r.txn < 65536)

/-- The fields of a parcel header (R323). -/
def hdrWf (h : Hdr) : Bool :=
  decide (h.kind < 16) && decide (h.cls < 16) && decide (h.dest < 8) && decide (h.origin < 8) && decide (h.len ≤ 8) &&
  decide (h.e2e < 65536) && decide (h.hop < 65536) && decide (h.colour < 4) && decide (h.opcode < 64) &&
  decide (h.context < 64) && decide (h.stream < 4096) && decide (h.rseq < 65536) && decide (h.portKind < 4) &&
  decide (h.portIndex < 256) && decide (h.free < 2 ^ 14) && decide (h.tag < 2 ^ 32) && decide (h.due < 2 ^ 32) && decide (h.line < 2 ^ 46)

/-- A port: one of 256 tile feed ports, 8 real-time ports, 4 Headland ports or the internal units of R465. -/
def portWf : Port → Bool
  | .tile t => decide (t < 256)
  | .rt p => decide (p < 8)
  | .headland h hdr => decide (h < 4) && hdrWf hdr
  | .unit code => decide (code < 256)

/-- The sideband of an open request (R106, R216). -/
def sideWf (q : Side) : Bool :=
  portWf q.port && decide (q.stream < 4096) && decide (q.seq < 65536) && decide (q.core < 512) && decide (q.cls < 16) &&
  decide (q.ctx < 64) && decide (q.deadline < 2 ^ 24) && decide (q.pre < 4) && decide (q.tag < 2 ^ 32)

/-- The operand word of a contribution (R218). -/
def redWf (w : RedWord) : Bool :=
  decide (w.function < 4) && decide (w.type < 4) && decide (w.tag < 256) && decide (w.index < 4096) && decide (w.count < 4096) &&
  decide (w.object < 2 ^ 17)

/-- A well-formed command. -/
def wellFormed (i : Instr) : Bool :=
  match i with
  | .powerOnReset => true
  | .vkeepLoss => true
  | .vcoreGood => true
  | .supplyLoss _ => true
  | .setReset => true
  | .warmReset r => reqWf r
  | .stateRequestReady r => reqWf r
  | .stateRequestRest r => reqWf r
  | .stateRequestDeep r => reqWf r
  | .configBlockersClear => true
  | .restEntryDrained => true
  | .wakeExitComplete => true
  | .unretainedChannelTimeout c => decide (c < 288)
  | .unretainedPoisonFillDone c => decide (c < 288)
  | .checkerSelfTestDone _ _ _ _ _ _ _ => true
  | .nodeRejoin r node => reqWf r && decide (node < 8)
  | .processorWatchdogExpiry _ => true
  | .processorFault _ => true
  | .keeperWatchdogExpiry => true
  | .processorRestartDone _ => true
  | .restartLimitExpiry _ => true
  | .dictionaryWrite r idx sub _ => reqWf r && decide (idx < 65536) && decide (sub < 256)
  | .regionDescriptorWrite r n _ => reqWf r && decide (n < 1024)
  | .planLoad r => reqWf r
  | .planArm r => reqWf r
  | .planStop r => reqWf r
  | .planDiscard r => reqWf r
  | .planDisarm r => reqWf r
  | .planImageChecked _ _ _ _ _ _ => true
  | .planLoadTimeout => true
  | .frameBoundary => true
  | .tide => true
  | .tidePreparePoint => true
  | .commitPoint => true
  | .tideDecisionMissing => true
  | .tideSwitchRetired => true
  | .tideIntervalWrite r value => reqWf r && decide (value < 2 ^ 32)
  | .fenceClear r mask => reqWf r && decide (mask < 2 ^ 64)
  | .channelSlot c fault => decide (c < 288) && decide (fault < 4)
  | .streamEnd n => decide (n < 4096)
  | .streamSeta n => decide (n < 4096)
  | .streamSetd n => decide (n < 4096)
  | .streamMove n => decide (n < 4096)
  | .streamSkip n => decide (n < 4096)
  | .streamMask n => decide (n < 4096)
  | .streamWait n => decide (n < 4096)
  | .streamSignal n => decide (n < 4096)
  | .streamRepeat n => decide (n < 4096)
  | .streamFmt n => decide (n < 4096)
  | .maskReadDone n => decide (n < 4096)
  | .waitSatisfied n => decide (n < 4096)
  | .drainBeat t n _ _ => decide (t < 256) && decide (n < 4096)
  | .feedCreditReturn t n amount => decide (t < 256) && decide (n < 4096) && decide (amount < 65536)
  | .landedBeat t n => decide (t < 256) && decide (n < 4096)
  | .upBeatDiscarded port => portWf port
  | .feedPortTimeout t _ => decide (t < 256)
  | .portReadyWithdrawn port => portWf port
  | .portReadyAsserted port => portWf port
  | .stallTimeout n => decide (n < 4096)
  | .fenceRequest r mask => reqWf r && decide (mask < 2 ^ 64)
  | .engineFault e => decide (e < 64)
  | .portRejoin r t => reqWf r && decide (t < 256)
  | .engineRejoin r e => reqWf r && decide (e < 64)
  | .drainLineNarrowed n => decide (n < 4096)
  | .escapeReadDone => true
  | .poolReset r d => reqWf r && decide (d < 1024)
  | .beyondBoundClear r d => reqWf r && decide (d < 1024)
  | .standingEntryWrite r x _ => reqWf r && decide (x < 64)
  | .formatUnitFault u => decide (u < 32)
  | .unitRejoin r u => reqWf r && decide (u < 32)
  | .openRead q a => sideWf q && decide (a < 2 ^ 53)
  | .openWrite q a mask data => sideWf q && decide (a < 2 ^ 53) && decide (mask < 2 ^ 128) && decide (data < 2 ^ 1024)
  | .openWiden q a x j => sideWf q && decide (a < 2 ^ 53) && decide (x < 64) && decide (j < 8)
  | .atomicSwap q a offset _ _ _ => sideWf q && decide (a < 2 ^ 53) && decide (offset < 128)
  | .atomicCas q a offset _ _ _ _ => sideWf q && decide (a < 2 ^ 53) && decide (offset < 128)
  | .atomicAdd q a offset _ _ _ => sideWf q && decide (a < 2 ^ 53) && decide (offset < 128)
  | .atomicAnd q a offset _ _ _ => sideWf q && decide (a < 2 ^ 53) && decide (offset < 128)
  | .atomicOr q a offset _ _ _ => sideWf q && decide (a < 2 ^ 53) && decide (offset < 128)
  | .atomicXor q a offset _ _ _ => sideWf q && decide (a < 2 ^ 53) && decide (offset < 128)
  | .atomicSmin q a offset _ _ _ => sideWf q && decide (a < 2 ^ 53) && decide (offset < 128)
  | .atomicSmax q a offset _ _ _ => sideWf q && decide (a < 2 ^ 53) && decide (offset < 128)
  | .atomicUmin q a offset _ _ _ => sideWf q && decide (a < 2 ^ 53) && decide (offset < 128)
  | .atomicUmax q a offset _ _ _ => sideWf q && decide (a < 2 ^ 53) && decide (offset < 128)
  | .atomicFadd q a offset _ _ _ => sideWf q && decide (a < 2 ^ 53) && decide (offset < 128)
  | .atomicFmin q a offset _ _ _ => sideWf q && decide (a < 2 ^ 53) && decide (offset < 128)
  | .atomicFmax q a offset _ _ _ => sideWf q && decide (a < 2 ^ 53) && decide (offset < 128)
  | .atomicIncwrap q a offset _ _ _ => sideWf q && decide (a < 2 ^ 53) && decide (offset < 128)
  | .atomicRead q a offset _ => sideWf q && decide (a < 2 ^ 53) && decide (offset < 128)
  | .atomicFlush q a offset _ => sideWf q && decide (a < 2 ^ 53) && decide (offset < 128)
  | .reduce q a w data => sideWf q && decide (a < 2 ^ 53) && redWf w && decide (data < 2 ^ 1024)
  | .contributionApply a => decide (a < 2 ^ 53)
  | .reduceTimeout => true
  | .closedRecordExpiry => true
  | .syncRead q obj => sideWf q && decide (obj < 2 ^ 17)
  | .syncSet q obj value => sideWf q && decide (obj < 2 ^ 17) && decide (value < 2 ^ 32)
  | .syncAdd q obj addend => sideWf q && decide (obj < 2 ^ 17) && decide (addend < 2 ^ 32)
  | .syncSignal q obj addend => sideWf q && decide (obj < 2 ^ 17) && decide (addend < 2 ^ 32)
  | .syncWait q obj threshold => sideWf q && decide (obj < 2 ^ 17) && decide (threshold < 2 ^ 32)
  | .syncReset q obj => sideWf q && decide (obj < 2 ^ 17)
  | .syncWaitTimeout => true
  | .syncObjectWrite r o value => reqWf r && decide (o < 16384) && decide (value < 2 ^ 64)
  | .cacheMissFill => true
  | .writebackAgeExpiry => true
  | .flushAll r => reqWf r
  | .writeBackAccepted _ => true
  | .sliceFault x => decide (x < 16)
  | .sliceTakenOver x _ => decide (x < 16)
  | .sliceRejoin r x => reqWf r && decide (x < 16)
  | .refreshIntervalTick c bank => decide (c < 288) && decide (bank < 256)
  | .refreshClassChange u => decide (u < 32)
  | .selfRefreshEntry c => decide (c < 288)
  | .selfRefreshExit c => decide (c < 288)
  | .deepSegmentPoisonDone c => decide (c < 288)
  | .channelFault c _ => decide (c < 288)
  | .channelRecovered c _ => decide (c < 288)
  | .channelRecoveryTimeout c => decide (c < 288)
  | .channelRejoin r c => reqWf r && decide (c < 288)
  | .fillReadReturn c => decide (c < 288)
  | .readReturn c => decide (c < 288)
  | .writeConfirm c => decide (c < 288)
  | .alertSampled c _ => decide (c < 288)
  | .missingDataBeats c => decide (c < 288)
  | .offerHoldExpiry => true
  | .queueEntryGrant c _ => decide (c < 288)
  | .completionDelivery port => portWf port
  | .regulatorWindowStart n => decide (n < 64)
  | .panicInputTaken p level => decide (p < 8) && decide (level < 4)
  | .panicStuck p => decide (p < 8)
  | .panicReleased p => decide (p < 8)
  | .degradeStepEnd n => decide (1 ≤ n) && decide (n ≤ 5)
  | .qosStateFault _ _ => true
  | .recoveryRecordFreed c => decide (c < 288)
  | .rereadReturn c => decide (c < 288)
  | .restoreReadDone c => decide (c < 288)
  | .gleanerSlow c => decide (c < 288)
  | .trackerAgeExpiry c => decide (c < 288)
  | .healWriteConfirmed c => decide (c < 288)
  | .rowMoveStart c => decide (c < 288)
  | .rowMoveBufferComplete c => decide (c < 288)
  | .rowMoveConfirmed c => decide (c < 288)
  | .reconstitute r c => reqWf r && decide (c < 288)
  | .displacingDone => true
  | .reconstitutionDone => true
  | .copyBack r c => reqWf r && decide (c < 288)
  | .copyBackDone => true
  | .journalCopyFault _ => true
  | .journalRebuildDone => true
  | .journalLost => true
  | .logicSensorRead _ => true
  | .sensorNoReading st n => decide (st < 4) && decide (n < 144)
  | .sensorExclude r _ st _ _ => reqWf r && decide (st < 4)
  | .hardwareComparator => true
  | .throttleAckToggle => true
  | .throttleAckMissing => true
  | .graceExpired st => decide (st < 4)
  | .graceRearm st => decide (st < 4)
  | .haltedSensorCheck st => decide (st < 4)
  | .trafficResumed st => decide (st < 4)
  | .shutdownRecordWritten => true
  | .cooledRestart => true
  | .shutdownClear r => reqWf r
  | .thermalFlagAlert c layer => decide (c < 288) && decide (layer < 16)
  | .fullTrainingDone c _ _ _ _ _ => decide (c < 288)
  | .trainingTimeout c => decide (c < 288)
  | .restoredTrainingDone c _ => decide (c < 288)
  | .tapStepConfirmed c => decide (c < 288)
  | .stepTimeout c g => decide (c < 288) && decide (g < 18)
  | .retrainRoundStart c => decide (c < 288)
  | .groupRetrainDone c _ _ _ _ => decide (c < 288)
  | .marginRequest r c value => reqWf r && decide (c < 288) && decide (value < 2 ^ 64)
  | .marginDone c _ _ _ _ _ => decide (c < 288)
  | .retrainRequest r c => reqWf r && decide (c < 288)
  | .hello h node setNodes _ _ _ _ _ => decide (h < 4) && decide (node < 8) && decide (setNodes < 16)
  | .joinTimeout h => decide (h < 4)
  | .formationTimeout => true
  | .member h hdr node _ _ => decide (h < 4) && hdrWf hdr && decide (node < 8)
  | .formed h hdr _ _ _ _ => decide (h < 4) && hdrWf hdr
  | .frameEpoch => true
  | .lost _ node _ => decide (node < 8)
  | .linkState h hdr _ => decide (h < 4) && hdrWf hdr
  | .flowReset h hdr _ => decide (h < 4) && hdrWf hdr
  | .prepare h hdr frame plan => decide (h < 4) && hdrWf hdr && decide (frame < 2 ^ 64) && decide (plan < 2 ^ 64)
  | .vote h hdr frame _ => decide (h < 4) && hdrWf hdr && decide (frame < 2 ^ 64)
  | .commitTide h hdr frame => decide (h < 4) && hdrWf hdr && decide (frame < 2 ^ 64)
  | .deferTide h hdr frame => decide (h < 4) && hdrWf hdr && decide (frame < 2 ^ 64)
  | .objectWrite h hdr idx sub _ _ => decide (h < 4) && hdrWf hdr && decide (idx < 65536) && decide (sub < 256)
  | .warmResetParcel h hdr node => decide (h < 4) && hdrWf hdr && decide (node < 8)
  | .rejoin h hdr node => decide (h < 4) && hdrWf hdr && decide (node < 8)
  | .requestParcel h hdr _ => decide (h < 4) && hdrWf hdr
  | .completionParcel h hdr _ => decide (h < 4) && hdrWf hdr
  | .acceptParcel h hdr => decide (h < 4) && hdrWf hdr
  | .doneParcel h hdr => decide (h < 4) && hdrWf hdr
  | .notice h hdr _ _ => decide (h < 4) && hdrWf hdr
  | .timeParcel h _ _ _ _ => decide (h < 4)
  | .keepalive h => decide (h < 4)
  | .hopAck h hop _ => decide (h < 4) && decide (hop < 65536)
  | .parcelMalformed h _ => decide (h < 4)
  | .parcelTransmit h => decide (h < 4)
  | .keepaliveSendTimer h => decide (h < 4)
  | .hopAckSendTimer h => decide (h < 4)
  | .timeSendTimer h => decide (h < 4)
  | .linkSilent h => decide (h < 4)
  | .linkReset h => decide (h < 4)
  | .retrainLimitExpiry h => decide (h < 4)
  | .warmResetLimitExpiry node => decide (node < 8)
  | .timeOffset => true
  | .timeUnsynchronised => true
  | .coalesceAgeExpiry => true
  | .baleWriteDone _ _ => true
  | .baleReadDone _ _ => true
  | .baleReadTimeout _ => true
  | .transferSubmit r _ => reqWf r
  | .transferStart _ => true
  | .transferDone _ => true
  | .ledgerZeroingDone => true
  | .farPortDown => true
  | .farPortRejoin r => reqWf r
  | .generateXts r _ slot => reqWf r && decide (slot < 256)
  | .generateGcm r _ slot => reqWf r && decide (slot < 256)
  | .importVerify r _ slot => reqWf r && decide (slot < 256)
  | .erase r _ slot => reqWf r && decide (slot < 256)
  | .claim r => reqWf r
  | .transferOwner r => reqWf r
  | .release r => reqWf r
  | .zeroise r => reqWf r
  | .zeroisationPoisonDone => true
  | .getVersion r => reqWf r
  | .getCapabilities r => reqWf r
  | .negotiateAlgorithms r _ _ _ _ _ => reqWf r
  | .getDigests r => reqWf r
  | .getCertificate r slot _ _ => reqWf r && decide (slot < 256)
  | .challenge r slot _ => reqWf r && decide (slot < 256)
  | .getMeasurements r _ _ _ => reqWf r
  | .keyExchange r slot _ => reqWf r && decide (slot < 256)
  | .finish r _ _ _ => reqWf r
  | .heartbeat r _ => reqWf r
  | .keyUpdate r _ => reqWf r
  | .endSession r _ => reqWf r
  | .respondIfReady r => reqWf r
  | .chunkSend r _ _ _ => reqWf r
  | .chunkGet r _ => reqWf r
  | .spdmUnsupportedRequest r => reqWf r
  | .sessionIdleTimeout _ => true
  | .debugUnlock code => decide (code < 64)
  | .slackMeasurement _ => true
  | .slackCleared => true
  | .vreqLowerTimer => true
  | .clockMonitorWindow m _ _ _ _ _ => decide (m < 64)
  | .sourceStable m => decide (m < 64)
  | .fallbackTimeout d => decide (d < 65)
  | .dividerStep d => decide (d < 65)
  | .refBAbsent => true
  | .ksoTrimMeasurement _ _ _ => true
  | .oscTrimStale => true
  | .clockEnableWrite r sub value => reqWf r && decide (sub < 256) && decide (value < 2 ^ 32)
  | .crossingReset _ => true
  | .crossingReopened _ => true
  | .segStart r idx sub total base => reqWf r && decide (idx < 65536) && decide (sub < 256) && decide (total < 2 ^ 32) && decide (base < 2 ^ 32)
  | .segData r idx sub offset _ => reqWf r && decide (idx < 65536) && decide (sub < 256) && decide (offset < 2 ^ 32)
  | .segEnd r idx sub crc => reqWf r && decide (idx < 65536) && decide (sub < 256) && decide (crc < 2 ^ 32)
  | .segAbort r idx sub => reqWf r && decide (idx < 65536) && decide (sub < 256)
  | .sessionDropped src idx sub => sourceWf src && decide (idx < 65536) && decide (sub < 256)
  | .frameMalformed => true
  | .receiveBufferFull => true
  | .notifyResponse n _ => decide (n < 6)
  | .notifyRetryTimer n => decide (n < 6)
  | .heartbeatTimer => true
  | .partnerHeartbeat address node _ period => decide (address < 2 ^ 48) && decide (node < 256) && decide (period < 65536)
  | .partnerLost => true
  | .plcaStatusChange _ => true
  | .doorbell _ => true
  | .rspAck => true
  | .ringPop => true
  | .alarmClear r => reqWf r
  | .logClear r => reqWf r
  | .mirrorClear r => reqWf r
  | .nvmRecordWrite area _ => decide (area < 10)
  | .nvmWriteFailed area _ _ => decide (area < 10)
  | .persistGatherTimer => true
  | .updateBegin r => reqWf r
  | .updateVerify r => reqWf r
  | .updateActivate r _ => reqWf r
  | .updateDiscard r => reqWf r
  | .verificationDone => true
  | .imageSelection _ _ _ => true
  | .slotCopyDone => true
  | .snapshotRequest r time => reqWf r && decide (time < 2 ^ 64)
  | .snapshotCapture => true
  | .bankClear r bank => reqWf r && decide (bank < 65536)
  | .clearAll r => reqWf r
  | .bankFilterWrite r bank sub value => reqWf r && decide (bank < 65536) && decide (sub < 256) && decide (value < 2 ^ 64)
  | .sampleControlWrite r value => reqWf r && decide (value < 2 ^ 32)
  | .lfsrSeedWrite r value => reqWf r && decide (value < 2 ^ 32)
  | .consumedWrite r seq => reqWf r && decide (seq < 2 ^ 32)
  | .layerAct c layer bank row => decide (c < 288) && decide (layer < 16) && decide (bank < 16) && decide (row < 4104)
  | .layerPre c layer bank => decide (c < 288) && decide (layer < 16) && decide (bank < 16)
  | .layerPreab c layer _ => decide (c < 288) && decide (layer < 16)
  | .layerMrwb c addr data => decide (c < 288) && decide (addr < 256) && decide (data < 256)
  | .layerMrw c layer addr data => decide (c < 288) && decide (layer < 16) && decide (addr < 256) && decide (data < 256)
  | .layerSre c cls mask => decide (c < 288) && decide (cls < 4) && decide (mask < 65536)
  | .layerSrx c => decide (c < 288)
  | .layerRpr c layer bank row => decide (c < 288) && decide (layer < 16) && decide (bank < 16) && decide (row < 4104)
  | .hardRepairDone c layer _ => decide (c < 288) && decide (layer < 16)
  | .layerRd c layer bank line _ => decide (c < 288) && decide (layer < 16) && decide (bank < 16) && decide (line < 8)
  | .layerRdc c layer bank line _ => decide (c < 288) && decide (layer < 16) && decide (bank < 16) && decide (line < 8)
  | .layerWr c layer bank line _ _ burst => decide (c < 288) && decide (layer < 16) && decide (bank < 16) && decide (line < 8) && decide (burst < 2 ^ 2304)
  | .layerMrr c layer addr => decide (c < 288) && decide (layer < 16) && decide (addr < 256)
  | .layerRefpb c layer bank _ => decide (c < 288) && decide (layer < 16) && decide (bank < 16)
  | .layerRdp c layer => decide (c < 288) && decide (layer < 16)
  | .layerWrp c layer _ _ burst => decide (c < 288) && decide (layer < 16) && decide (burst < 2 ^ 2304)
  | .layerErrclr c layer _ => decide (c < 288) && decide (layer < 16)
  | .layerPreset c layer _ => decide (c < 288) && decide (layer < 16)
  | .layerLbw c layer _ burst => decide (c < 288) && decide (layer < 16) && decide (burst < 2 ^ 2304)
  | .layerLbr c layer => decide (c < 288) && decide (layer < 16)
  | .commandParityError c => decide (c < 288)
  | .resetPattern c => decide (c < 288)
  | .caCaptureExit c layer => decide (c < 288) && decide (layer < 16)
  | .layerSensorConversion st layer sensor code => decide (st < 4) && decide (layer < 16) && decide (sensor < 9) && decide (code < 65536)
  | .powerWarnTaken _ => true
  | .strapSample nodeId setSize _ => decide (nodeId < 8) && decide (setSize < 8)
  | .wsBypass => true
  | .wsExtest => true
  | .wsIntestScan => true
  | .svIdcode => true
  | .svStatus => true
  | .svMbistLogic => true
  | .svMbistCache => true
  | .svMbistVkeep => true
  | .svSdiLoop => true
  | .svDramAccess => true
  | .svProcDebug => true
  | .svWardenDebug => true
  | .linkTrainingDone h modules => decide (h < 4) && decide (modules < 5)
  | .bundleVerified => true
  | .writeBackLimitExpiry => true
  | .sheafPllRestartLimit u => decide (u < 32)

end Sys2Proof
end

