-- ==== Sys2Proof/Tests/Slice0.lean ====
section
/-!
SUPPORT. The model's own tests: for every statement of Certificates/Slice0/Obligations.lean a theorem that shows states and operands that
meet its hypotheses, clause by clause and at the ends of their ranges; what well-formedness refuses, one ill-formed command for each check;
and single steps whose results the rules of spec/ give.
-/
open Sys2Proof Sys2Proof.Machine

namespace Sys2Proof.Tests

set_option Elab.async false

/-- Objects set one after another. -/
def setObs (l : List (Nat × Nat × Nat)) (s : State) : State := l.foldl (fun s p => s.setOb p.1 p.2.1 p.2.2) s

/-- A node on its own, formed and leading its set of one, long after its start, every processor running, every clock source stable and
every enable set; session 1 is its owner's. -/
def lone (n : NodeState) : State :=
  setObs [(0x2020, 1, 2 ^ 32 - 1), (0x2020, 2, 0xFF)] { State.reset with
    now := 100000 * secT
    power := { Power.reset with node := n, vcore := true, vphy := true, strapped := true }
    procs := { Procs.reset with sequencer := ⟨true, none⟩, steward := ⟨true, none⟩, warden := ⟨true, none⟩ }
    hl := { State.reset.hl with set := { State.reset.hl.set with state := 1, members := 1, reachable := 1, lead := 0 } }
    clk := { Clocks.reset with sources :=
      ([1, 2, 3, 4, 5, 6, 7] ++ (List.range 32).map (0x10 + ·) ++ (List.range 4).map (0x30 + ·)).map fun m => (m, .stable) }
    sec := { State.reset.sec with lifecycle := .owned, sessions := [⟨1, .window, true, true, true, 0, 0⟩], nextSession := 2 }
    nvm := { State.reset.nvm with usable := true }
    upd := { State.reset.upd with selected := true }
    mgmt := { State.reset.mgmt with nextOrder := 1 } }

/-- A request of the owner, and one of the window. -/
def own : Req := ⟨.session 1, 5⟩
def win : Req := ⟨.window, 6⟩
def cfg : State := lone .config
def run : State := lone .run

/-- A key is not among those listed as rising keys of a store. -/
def risingB {V : Type} : Store V → Bool
  | [] => true
  | p :: m => m.all (fun q => decide (p.1 < q.1)) && risingB m

def canonB {V : Type} [DecidableEq V] (d : Nat → V) (m : Store V) : Bool := risingB m && m.all fun p => decide (p.2 ≠ d p.1)

/-- The invariant, evaluated. -/
def invB (s : State) : Bool :=
  decide (1 ≤ s.cfg.nstacks) && decide (s.cfg.nstacks ≤ 4) && canonB objDefault s.obj && canonB (fun _ => 0) s.syncs &&
  canonB (fun _ => 0) s.dram.fill && s.dram.fill.all (fun p => decide (p.1 % 2 = 0)) && canonB (cellDefault s.dram.fill) s.dram.cells &&
  decide (s.mgmt.log.length ≤ 1024) && decide (s.nvm.mirror.length ≤ 256) && decide (s.mgmt.window.ring.length ≤ 64) &&
  decide (s.mgmt.sources.length ≤ 16) && decide (s.procs.staged.length ≤ 64) && decide (s.sec.sessions.length ≤ 4) &&
  decide (s.sampler.ring.length ≤ 4096)

/-! ### Witnesses: states that meet the hypotheses of the statements, clause by clause -/

/-- The last channel's last layer, changed. -/
def withLay (f : LayerChan → LayerChan) (s : State) : State := s.setLay 287 15 (f (s.lay 287 15))
/-- The last channel in self-refresh, and the last but one sheaf's spare. -/
def asleep (c : Nat) (s : State) : State := s.setDch c { s.dch c with selfRef := some (0, 0xFFFF) }
/-- Row 4095 of bank 15 open. -/
def opened : State := withLay (·.setOpen 15 (some 4095)) run
def repairing : State := withLay (fun x => { x with busy := some (15, 4095, 7) }) run
def caught : State := withLay (fun x => { x with capturing := true }) run

theorem witness_StepRunsTheFrontCommand :
    ({ run with pending := [.wsBypass, .layerSrx 0] } : State).pending = .wsBypass :: [.layerSrx 0] := by decide +kernel

theorem witness_RowCommands : run.chanOk 287 = true ∧ run.layOn 287 15 = true ∧ caught.layOn 287 15 = false ∧
    (run.lay 287 15).openRow 15 = none ∧ (run.lay 287 15).inRepair 15 = false ∧ opened.layOn 287 15 = true ∧
    ((opened.lay 287 15).openRow 15).isSome = true ∧ repairing.layOn 287 15 = true ∧ (repairing.lay 287 15).inRepair 15 = true ∧
    (∀ k ∈ refBanks 3 15, (run.lay 287 15).openRow k = none ∧ (run.lay 287 15).inRepair k = false) ∧
    (∃ k ∈ refBanks 3 15, ((opened.lay 287 15).openRow k).isSome ∨ (opened.lay 287 15).inRepair k = true) := by decide +kernel

theorem witness_ColumnCommands : run.chanOk 287 = true ∧ caught.layOn 287 15 = false ∧ run.layOn 287 15 = true ∧
    run.rowOf 287 15 15 = none ∧ opened.rowOf 287 15 15 = some 4095 ∧
    undefinedLine opened.dram (opened.cellLine 287 15 15 4095 7) = false ∧
    undefinedLine { opened.dram with lost := [(fillKey (opened.cellLine 287 15 15 4095 7), 1)] } (opened.cellLine 287 15 15 4095 7) = true := by decide +kernel

theorem witness_RegisterWrites : run.chanOk 287 = true ∧ run.layOn 287 15 = true ∧ regWritable 255 255 = false ∧
    regWritable 0x10 5 = true ∧ regWritable 0x18 15 = true ∧ regWritable 0x17 2 = true ∧ regWritable 0x14 3 = true ∧
    regWritable 0x16 127 = true ∧ regWritable 0x17 3 = true ∧ regWritable 0x13 127 = true := by decide +kernel

theorem witness_ReadoutAndCalibration : run.chanOk 287 = true ∧ run.layOn 287 15 = true ∧ 255 % 8 ≠ 0 ∧ 248 % 8 = 0 ∧
    ((withLay (fun x => { x with regs := put (regReset 0x14) 0x14 3 x.regs }) run).lay 287 15).reg 0x14 % 4 = 3 ∧
    (withLay (fun x => { x with regs := put (regReset 0x14) 0x14 3 x.regs }) run).layOn 287 15 = true ∧
    (run.lay 287 15).reg 0x14 % 4 ≠ 3 := by decide +kernel

theorem witness_LayerModes : run.chanOk 287 = true ∧ (∃ k ∈ layers16, run.layOn 287 k = true) ∧
    (∀ k ∈ layers16, run.layOn 287 k = true → (run.lay 287 k).idle = true) ∧
    (∃ k ∈ layers16, opened.layOn 287 k = true ∧ (opened.lay 287 k).idle = false) ∧
    ((asleep 287 run).dch 287).selfRef = some (0, 0xFFFF) ∧ (run.dch 287).selfRef = none ∧
    (caught.lay 287 15).capturing = true ∧ (run.lay 287 15).capturing = false := by decide +kernel

/-- The repair register of the last layer at a value. -/
def repairReg (v : Nat) : State := withLay (fun x => { x with regs := put (regReset 0x18) 0x18 v x.regs }) run

theorem witness_RowRepair : run.chanOk 287 = true ∧ run.layOn 287 15 = true ∧ (run.lay 287 15).idle = true ∧
    (run.lay 287 15).inRepair 15 = false ∧ ((run.lay 287 15).reg 0x18).testBit 3 = false ∧
    look 0 (4096 * 15 + 4095) (run.lay 287 15).soft ≠ (run.lay 287 15).reg 0x18 % 8 + 1 ∧
    look 0 (4096 * 15 + 4095) ((withLay (fun x => { x with soft := [(65535, 8)] }) (repairReg 7)).lay 287 15).soft =
      ((repairReg 7).lay 287 15).reg 0x18 % 8 + 1 ∧
    (repairReg 15).layOn 287 15 = true ∧ (((repairReg 15).lay 287 15).reg 0x18).testBit 3 = true ∧
    (opened.lay 287 15).idle = false ∧ (repairing.lay 287 15).inRepair 15 = true ∧ (run.lay 287 15).busy = none ∧
    (repairing.lay 287 15).busy = some (15, 4095, 7) ∧ look 0 (4096 * 15 + 4095) (repairing.lay 287 15).soft ≠ 8 ∧
    look 0 (4096 * 15 + 4095) (repairing.lay 287 15).hard ≠ 8 ∧
    look 0 (4096 * 15 + 4095) ((withLay (fun x => { x with soft := [(65535, 8)] }) repairing).lay 287 15).soft = 8 ∧ invB repairing = true := by decide +kernel

theorem witness_SensorConversion : 3 < run.cfg.nstacks ∧ (-256 ≤ signed 16 767 ∧ signed 16 767 ≤ 767) ∧ signed 16 0x8000 < -256 := by
  decide +kernel

theorem witness_BurstRoundTrip : (run.lay 287 15).width ≤ 2 ∧ (zeroBytes 136).length = 136 := by decide +kernel

theorem witness_WriteThenRead : opened.chanOk 287 = true ∧ opened.layOn 287 15 = true ∧ opened.rowOf 287 15 15 = some 4095 ∧
    invB opened = true := by decide +kernel

def off : State := lone .off
def heldReset : State := { run with power := { run.power with setHeld := true } }
theorem witness_ColdResets : off.power.node = .off ∧ run.power.node ≠ .off ∧ run.power.setHeld = false ∧
    heldReset.power.setHeld = true := by decide +kernel

def boot : State := lone .boot
theorem witness_SuppliesAndStraps : boot.power.node = .boot ∧ boot.upd.selected = true ∧ boot.power.warm = false ∧
    boot.power.setHeld = false ∧ run.power.vcore = true ∧ run.power.vphy = true ∧ run.power.node ≠ .halted ∧
    ({ boot with power := { boot.power with strapped := false } } : State).power.strapped = false ∧ boot.stable srcKfo = true ∧
    heldReset.power.setHeld = true ∧ boot.power.strapped = true ∧ run.pins.powerWarn.value ≠ b2n true ∧
    run.pins.powerWarn.ever = false ∧ run.pins.powerWarn.value = b2n false ∧
    ({ run with pins := { run.pins with powerWarn := ⟨0, run.now, true⟩ } } : State).elapsed run.now (10 * usTicks) = false := by
  decide +kernel

def rest : State := lone .rest
def ready : State := lone .ready
/-- The same node with one stack. -/
def small (s : State) : State := { s with cfg := { s.cfg with nstacks := 1 } }
theorem witness_StateRequests : run.applies own 0x2000 4 [1] = true ∧ run.power.testUsed = false ∧ run.power.warm = false ∧
    run.upd.selected = true ∧ cfg.applies own 0x2000 2 [4] = true ∧ cfg.power.node = .config ∧ rest.applies own 0x2000 2 [4] = true ∧
    (cfg.begun own).moveRefusal false = 0 ∧ (rest.begun own).moveRefusal false = 0 ∧
    (setObs [(0xA003, 2, 1)] cfg).applies own 0x2000 2 [4] = true ∧ ((setObs [(0xA003, 2, 1)] cfg).begun own).moveRefusal false ≠ 0 ∧
    rest.power.entering = false ∧ rest.power.waking = false ∧
    ({ rest with power := { rest.power with entering := true } } : State).applies own 0x2000 2 [4] = true ∧
    (small ready).applies own 0x2000 2 [6] = true ∧ ((small ready).begun own).restRefusal false = 0 ∧
    (small ready).applies own 0x2000 2 [7] = true ∧ ((small ready).begun own).restRefusal true = 0 := by decide +kernel
def halted : State := lone .halted
def deep : State := lone .deep
/-- A state with another power part. -/
def pow (f : Power → Power) (s : State) : State := { s with power := f s.power }
/-- A node of one stack, every channel in a given state and, where asked, in self-refresh. -/
def channelsAt (v : Nat) (sr : Bool) (s : State) : State :=
  { s with
    cfg := { s.cfg with nstacks := 1 }
    obj := (List.range 72).map fun c => (objKey (0x4000 + c) 1, v)
    dram := { s.dram with chans := (List.range 72).map fun c => (c, { DramChan.reset with selfRef := if sr then some (0, 0xFFFF) else none }) } }
def settled : State := channelsAt 6 true (pow (fun p => { p with entering := true }) rest)
def awake : State := channelsAt 3 false (pow (fun p => { p with waking := true }) rest)
theorem witness_IntoAndOutOfService : cfg.power.node = .config ∧ cfg.power.warm = false ∧
    settled.drained = true ∧ ((List.range settled.channels).all settled.restsNow) = true ∧ settled.power.heldWake = false ∧
    (pow (fun p => { p with heldWake := true }) settled).drained = true ∧
    (pow (fun p => { p with entering := true }) rest).drained = true ∧
    (pow (fun p => { p with entering := true }) rest).restsNow 287 = false ∧ (rest.chan 287).draining = none ∧
    (rest.dch 287).selfRef = none ∧
    (∀ k < awake.channels, awake.chanState k = 2 ∨ ((awake.dch k).selfRef = none ∧ awake.chanState k ≠ 6 ∧ (awake.chan k).poisonDue = 0)) ∧
    halted.elapsed halted.power.warmAt (100 * usTicks) = true ∧ halted.chanState 287 ≠ 2 ∧ 287 ∉ halted.power.unretained ∧
    287 ∈ (pow (fun p => { p with fill := [287] }) (setObs [(0x411F, 0x40, 3)] cfg)).power.fill ∧
    (setObs [(0x411F, 0x40, 3)] cfg).ob (chanIdx 287) 0x40 = 3 ∧ cfg.clockFull 287 = (cfg.domain 31 == 258) ∧
    (setObs [(0xB010, 32, 258)] cfg).clockFull 287 = true ∧ cfg.power.selfTested = false ∧
    (pow (fun p => { p with shadow := true }) run).orders own 0x2000 5 (leBytes 1 0) = true ∧ run.me < 8 ∧
    (pow (fun p => { p with waking := true }) deep).power.reloaded = false ∧
    (pow (fun p => { p with warm := true }) boot).dirtyLines = [] ∧ boot.balesDirty = false ∧
    ((List.range settled.channels).all (pow (fun p => { p with node := .boot, warm := true, entering := false }) settled).restsNow) = true := by
  decide +kernel

/-- A state with another processor in a restart. -/
def restarting (since : Nat) : State := { run with procs := { run.procs with steward := ⟨true, some since⟩ } }
theorem witness_ProcessorRestarts : run.power.node ≠ .off ∧ (run.procs.get .warden).running = true ∧
    (restarting 0).procs.anyRestart = true ∧ run.power.node ≠ .halted ∧ (boot.procs.set .warden ⟨false, none⟩ |>.get .warden).running = false ∧
    run.procs.anyRestart = false ∧ run.procs.keeper.running = true ∧ ((restarting 7).procs.get .steward).restart = some 7 ∧
    (run.procs.get .keeper).restart = none ∧ (restarting 0).elapsed 0 (50 * msT) = true := by decide +kernel

theorem witness_WrapperInstructions : off.power.node = .off ∧ run.power.node ≠ .off ∧ heldReset.power.setHeld = true ∧
    halted.power.node = .halted ∧ run.power.setHeld = false ∧ run.power.node ≠ .halted := by decide +kernel

def unlocked : State := { halted with fuses := { halted.fuses with debugDisable := false }, sec := { halted.sec with lifecycle := .unowned } }
def locked : State := { halted with fuses := { halted.fuses with debugDisable := true } }
theorem witness_DebugInstructions : unlocked.power.node ≠ .off ∧ run.wrapHeldOk = false ∧ unlocked.wrapHeldOk = true ∧
    unlocked.sec.zeroing = none ∧ unlocked.debugRefusal = 0 ∧ locked.wrapHeldOk = true ∧ locked.debugRefusal ≠ 0 := by decide +kernel

def withKey (k : KeyKind) : State := { run with sec := { run.sec with keys := [(255, { KeySlot.reset with kind := k })] } }
theorem witness_KeyCommands : keyBusy run = false ∧ run.applies own 0x6030 1 (keyWord 1 true 255) = true ∧ (run.key 255).kind = .empty ∧
    run.applies own 0x6030 1 (keyWord 2 false 0) = true ∧
    ({ run with sec := { run.sec with stagedVerify := [1] } } : State).applies own 0x6030 1 (keyWord 3 true 255) = true ∧
    (withKey .xts).applies own 0x6030 1 (keyWord 4 true 255) = true ∧ slotNamed 255 (withKey .xts).signedPlan ((withKey .xts).begun own) = false ∧
    (withKey .gcm).applies own 0x6030 1 (keyWord 1 true 255) = true ∧ ((withKey .gcm).key 255).kind ≠ .empty ∧
    keyBusy (withKey .gcm) = false := by decide +kernel
def named255 : State := setObs [(0x2204, 1, 1), (0x2204, 2, 255)] (withKey .gcm)
theorem witness_KeyCommands_named : named255.applies own 0x6030 1 (keyWord 4 true 255) = true ∧
    slotNamed 255 named255.signedPlan (named255.begun own) = true := by decide +kernel

def staged : State := { cfg with sec := { cfg.sec with stagedEc := zeroBytes 96, stagedMl := zeroBytes 2592, lifecycle := .unowned } }
def stagedOwned : State := { staged with sec := { staged.sec with lifecycle := .owned } }
theorem witness_OwnerCommands : cfg.sec.zeroing = none ∧ cfg.procs.warden.restart = none ∧ staged.orders own 0x6020 4 [1] = true ∧
    staged.inSession own = true ∧ keysStaged staged = true ∧ staged.fuses.epoch < 64 ∧ stagedOwned.isOwner own = true ∧
    stagedOwned.orders own 0x6020 4 [2] = true ∧ keysStaged stagedOwned = true ∧ stagedOwned.orders own 0x6020 4 [3] = true ∧
    stagedOwned.orders own 0x6020 4 [4] = true ∧ staged.canRecord 4 = true ∧ stagedOwned.canRecord 4 = true := by decide +kernel

def zeroising (c : ZeroCause) (n : Nat) : State := { run with sec := { run.sec with zeroing := some c, zeroStage := n, lifecycle := .zeroising } }
theorem witness_Zeroisation : debugCode 11 = true ∧ unlocked.debugRefusal = 0 ∧ locked.debugRefusal ≠ 0 ∧ unlocked.sec.zeroing = none ∧
    (zeroising .transfer 2).sec.zeroing = some .transfer ∧ (zeroising .transfer 2).sec.zeroStage = 2 ∧
    (zeroising .release 1).sec.zeroStage = 1 ∧ (zeroising .release 1).secureWork = false ∧
    canonB (fun _ => KeySlot.reset) (zeroising .release 1).sec.keys = true := by decide +kernel

/-- The requester at a stage of its SPDM exchange. -/
def atStage (n : Nat) (s : State) : State :=
  s.setSpdm { s.spdmOf own.src with stage := n, deferred := some (.version 1 3), large := [1, 2], largeSeq := 3 }
theorem witness_AttestationRequests : (atStage 3 run).begins own = true ∧ spdmBusy (atStage 3 run) = false ∧
    ((atStage 3 run).spdmOf own.src).stage = 3 ∧ ((atStage 3 run).spdmOf own.src).deferred.isSome = true ∧
    ((atStage 3 run).spdmOf own.src).large ≠ [] ∧ (atStage 3 run).sec.identityOk = true ∧
    ({ atStage 3 run with sec := { (atStage 3 run).sec with identityOk := false } } : State).begins own = true ∧ ([] : List Byte).length ≤ 65536 := by
  decide +kernel

/-- A node with sessions that are not finished. -/
def talking (l : List Nat) (auth : Bool) : State := atStage 3 { run with sec := { run.sec with
  sessions := l.map fun i => ⟨i, .window, auth, false, false, 0, 0⟩ } }
theorem witness_SecuredSessions : (talking [7] true).begins win = true ∧ spdmBusy (talking [7] true) = false ∧
    3 ≤ ((atStage 3 run).spdmOf own.src).stage ∧ (talking [1, 2, 3] true).sec.sessions.length < 4 ∧ (talking [7] true).sec.zeroing = none ∧
    4 ≤ (talking [1, 2, 3, 4] true).sec.sessions.length ∧
    (talking [7] true).sec.sessions.find? (fun y => y.id == 7) = some ⟨7, .window, true, false, false, 0, 0⟩ ∧
    (talking [7] false).sec.sessions.find? (fun y => y.id == 7) = some ⟨7, .window, false, false, false, 0, 0⟩ ∧
    (talking [7] true).sec.sessions.find? (fun y => y.id == 8) = none ∧
    (talking [7] true).elapsed 0 ((talking [7] true).ob 0x6010 2 * secT) = true ∧
    (talking [7] true).elapsed run.now ((talking [7] true).ob 0x6010 2 * secT) = false := by decide +kernel

theorem witness_KeyStoreStaysCanonical : canonB (fun _ => KeySlot.reset) run.sec.keys = true ∧
    ∃ t, step { run with pending := [.wsBypass] } = .next t := ⟨by decide +kernel, _, rfl⟩

def mg (f : Mgmt → Mgmt) (s : State) : State := { s with mgmt := f s.mgmt }
def nv (f : Nvm → Nvm) (s : State) : State := { s with nvm := f s.nvm }
def up (f : Update → Update) (s : State) : State := { s with upd := f s.upd }
/-- An entry of the log. -/
def entryAt (sev seq : Nat) : LogEntry := ⟨5, seq, 0x2000, sev, false, false, false, 0, 0, 0, 0, 0⟩
/-- The Keeper in its restart. -/
def keeperDown : State := { run with procs := { run.procs with keeper := { run.procs.keeper with restart := some run.now } } }
/-- The owner's transaction 5, remembered with an answer or without one. -/
def known (a : Option Answer) : State := mg (fun m => { m with sources := [⟨own.src, [⟨5, a⟩]⟩] }) run
def crowded (n : Nat) : State := mg (fun m => { m with waiting := List.replicate n ⟨win, .write 0x2000 2 [4]⟩, sources := [⟨own.src, [⟨4, none⟩]⟩] }) run
/-- The window carries another request. -/
def windowed : State := mg (fun m => { m with window := { m.window with busy := true } }) run
theorem witness_DictionaryWrites : windowed.reaches win = true ∧ windowed.windowHeld win = true ∧ (crowded 7).windowHeld own = false ∧
    (crowded 8).windowHeld own = false ∧ run.applies own 0x2000 4 [1] = true ∧ offsetObject 0x2000 4 = false ∧ run.begins own = true ∧
    writeChecks own 0x1000 1 (run.begun own) ≠ none ∧ (crowded 7).reaches own = true ∧ (crowded 7).procs.keeper.restart = none ∧
    (crowded 7).findTxn own = none ∧ (crowded 7).srcBusy own.src = true ∧ (crowded 7).mgmt.waiting.length < 8 ∧
    (crowded 8).findTxn own = none ∧ (crowded 8).srcBusy own.src = true ∧ 8 ≤ (crowded 8).mgmt.waiting.length ∧
    off.reaches own = false := by decide +kernel
theorem witness_RepeatedRequests : (known none).windowHeld own = false ∧ keeperDown.windowHeld own = false ∧
    (known (some ⟨0, 0, [], none, false⟩)).windowHeld own = false ∧ (known (some ⟨0, 0, [], none, false⟩)).reaches own = true ∧
    (known (some ⟨0, 0, [], none, false⟩)).findTxn own = some ⟨5, some ⟨0, 0, [], none, false⟩⟩ ∧
    (known none).reaches own = true ∧ (known none).findTxn own = some ⟨5, none⟩ ∧ keeperDown.reaches own = true ∧
    keeperDown.procs.keeper.restart.isSome = true ∧ run.procs.keeper.restart = none := by decide +kernel

def paired (v at_ : Nat) : State := mg (fun m => { m with partner := ⟨v, at_, 100⟩ }) run
theorem witness_LinkEvents : invB run = true ∧ run.keeperUp = true ∧ run.elapsed run.mgmt.heartbeatAt (run.ob 0x1020 1 * msT) = true ∧
    (mg (fun m => { m with heartbeatAt := run.now }) run).elapsed run.now (run.ob 0x1020 1 * msT) = decide (run.ob 0x1020 1 = 0) ∧
    off.keeperUp = false ∧ (paired 1 0).mgmt.partner.state = 1 ∧ (paired 1 0).elapsed 0 ((3 * 100 + 15) * msT) = true ∧
    (paired 2 0).mgmt.partner.state ≠ 1 ∧ (setObs [(0x1010, 8, 1)] run).ob 0x1010 8 = 1 := by decide +kernel

def queued (sev tries : Nat) (more : List LogEntry) : State :=
  mg (fun m => { m with notify := [(0, ⟨some (entryAt sev 9), tries, 0, more⟩)] }) run
theorem witness_Notifications : ((queued 2 2 [entryAt 1 10]).notifyQ 0).outstanding = some (entryAt 2 9) ∧ (queued 2 2 []).keeperUp = true ∧
    (entryAt 2 9).sev < 3 ∧ ((queued 2 2 [entryAt 1 10]).notifyQ 0).waiting = [entryAt 1 10] ∧ ((queued 2 2 []).notifyQ 0).waiting = [] ∧
    3 ≤ (entryAt 3 9).sev ∧ ((queued 3 0 []).notifyQ 0).outstanding = some (entryAt 3 9) ∧
    (queued 2 2 []).elapsed 0 ((queued 2 2 []).ob 0x1050 5 * msT) = true ∧ ((queued 2 2 []).notifyQ 0).tries < 3 ∧
    3 ≤ ((queued 2 3 []).notifyQ 0).tries ∧
    ({ queued 2 2 [] with now := 0 } : State).elapsed 0 (run.ob 0x1050 5 * msT) = decide (run.ob 0x1050 5 = 0) := by decide +kernel

def segs (got total last : Nat) : State := mg (fun m => { m with segments := [⟨own.src, 0x8010, 1, 0, total, zeroBytes got, last⟩] }) run
theorem witness_SegmentedWrites : run.begins own = true ∧ (∃ o, findObj 0x6020 1 = some o ∧ 96 ≤ o.ty.sizes.2) ∧
    writeChecks own 0x6020 1 (run.begun own) = none ∧ (dropSegment own.src 0x6020 1 run.mgmt.segments).length < 4 ∧
    (segs 2 4 0).begins own = true ∧ (segs 2 4 0).segment own.src 0x8010 1 = some ⟨own.src, 0x8010, 1, 0, 4, zeroBytes 2, 0⟩ ∧
    (zeroBytes 2).length + (zeroBytes 2).length ≤ 4 ∧ (segs 4 4 0).segment own.src 0x8010 1 = some ⟨own.src, 0x8010, 1, 0, 4, zeroBytes 4, 0⟩ ∧
    offsetObject 0x6020 1 = false ∧ (segs 2 4 0).elapsed 0 secT = true ∧ (segs 2 4 run.now).elapsed run.now secT = false := by decide +kernel

def answered : State := mg (fun m => { m with window := { m.window with ready := true, ring := [entryAt 2 9] } }) run
def calling : State := mg (fun m => { m with window := { m.window with busy := true } }) run
def gathering (due : Bool) (at_ : Nat) : State := nv (fun n => { n with gather := [⟨0x1050, 5, 100, .req own⟩], gatherDue := due, gatherAt := at_ }) run
theorem witness_LogAlarmAndWindow : run.applies own 0x1040 0x0A [1] = true ∧ run.applies own 0x1040 9 [1] = true ∧
    run.applies own 0x1041 5 [1] = true ∧ answered.mgmt.window.ready = true ∧ answered.mgmt.window.second = none ∧
    run.mgmt.window.ready = false ∧ answered.mgmt.window.ring = [entryAt 2 9] ∧ run.mgmt.window.ring = [] ∧ run.power.node ≠ .off ∧
    calling.mgmt.window.busy = true ∧ run.mgmt.window.busy = false ∧ messageBad [0xFF, 0xFF] = true ∧
    (gathering false 0).nvm.gather ≠ [] ∧ (gathering false 0).elapsed 0 secT = true ∧ run.nvm.gather = [] ∧
    (gathering false run.now).elapsed run.now secT = false := by decide +kernel

theorem witness_RecordWrites : invB run = true ∧ run.power.node ≠ .off ∧ run.nvm.usable = true ∧ run.reduced = false ∧
    (run.recordArea 6 0).usableCopies ≠ 0 ∧ (run.recordArea 1 0).usableCopies ≠ 0 ∧ (gathering true 0).nvm.gatherDue = true ∧
    (gathering true 0).nvm.gather = [⟨0x1050, 5, 100, .req own⟩] ∧ 287 < run.channels ∧
    287 ∈ (nv (fun n => { n with trainDue := [287] }) run).nvm.trainDue ∧ (run.recordArea 7 287).usableCopies ≠ 0 ∧ ¬ 288 < run.channels ∧
    (run.recordArea 6 0).failedB = false ∧ (run.recordArea 6 0).failedA = false ∧ (run.recordArea 9 0).failedA = false ∧
    (up (fun u => { u with copying := true }) run).upd.copying = true ∧ (run.recordArea 8 0).failedB = false ∧
    (nv (fun n => { n with gather := [⟨0x1050, 5, 100, .req own⟩], gatherDue := true }) halted).nvm.gatherDue = true := by decide +kernel

theorem witness_UpdateCommands : invB run = true ∧ run.orders own 0x8000 4 [1] = true ∧ run.staging ≠ 3 ∧ run.staging ≠ 6 ∧ run.updateBar = 0 ∧
    run.orders own 0x8000 4 [2] = true ∧ run.procs.warden.restart = none ∧ (setObs [(0x8000, 2, 2)] run).staging = 2 ∧
    (setObs [(0x8000, 2, 2)] run).orders own 0x8000 4 [2] = true ∧ (setObs [(0x8000, 2, 5)] run).staging = 5 ∧
    (setObs [(0x8000, 2, 4)] run).orders own 0x8000 4 [3] = true ∧ (setObs [(0x8000, 2, 4)] run).staging = 4 ∧
    (setObs [(0x8000, 2, 4)] run).updateBar = 0 ∧ run.orders own 0x8000 4 [4] = true := by decide +kernel

def selecting (recovery : Bool) : State := let s := up (fun u => { u with selected := false }) boot
  { s with power := { s.power with vcore := false }, pins := { s.pins with recovery := recovery } }
theorem witness_ImagesAndVerification : invB (selecting false) = true ∧ (setObs [(0x8000, 2, 3)] run).staging = 3 ∧
    run.procs.warden.restart = none ∧ run.staging ≠ 3 ∧ (selecting true).power.node = .boot ∧ (selecting true).upd.selected = false ∧
    (selecting true).upd.copying = false ∧ (selecting true).power.warm = false ∧ (selecting true).power.setHeld = false ∧
    (selecting true).power.strapped = true ∧ (selecting true).pins.recovery = true ∧ (selecting false).pins.recovery = false ∧
    (selecting false).nvm.persisted = [] ∧ (selecting false).nvm.persistedKeys = [] ∧ (selecting false).nvm.areas = [] ∧
    (selecting false).ob 0x8000 0x0B = 0 ∧ (selecting false).power.vcore = false ∧
    (up (fun u => { u with copying := true }) (selecting false)).upd.copying = true ∧ run.upd.copying = false := by decide +kernel

def sampled : State := { run with sampler := { run.sampler with ring := [⟨7, zeroBytes 16, false⟩, ⟨8, zeroBytes 16, false⟩] } }
theorem witness_CountersAndSampler : run.orders own 0x7000 1 (leBytes 8 (2 ^ 64 - 1)) = true ∧ run.ob 0x7000 3 ≠ 1 ∧
    run.setNs + 10000 ≤ 2 ^ 64 - 1 ∧ (setObs [(0x7000, 3, 1), (0x7000, 1, 1)] run).ob 0x7000 3 = 1 ∧
    (setObs [(0x7000, 3, 1), (0x7000, 1, 1)] run).ob 0x7000 1 ≤ (setObs [(0x7000, 3, 1), (0x7000, 1, 1)] run).setNs ∧
    (0x76F0, 7) ∈ run.banks ∧ run.applies own 0x76F0 4 [1] = true ∧ run.orders own 0x7000 6 [1] = true ∧
    run.applies own 0x7400 1 (leBytes 8 0) = true ∧ (0x7400, 16) ∈ run.banks ∧ run.applies own 0x7400 2 (leBytes 8 128) = true ∧ 128 ≤ run.ob 0x7400 3 ∧
    run.orders own 0x7100 1 (leBytes 4 24) = true ∧ run.orders own 0x7100 5 (leBytes 4 (2 ^ 32 - 1)) = true ∧
    bits 9 5 ((setObs [(0x7100, 1, 0)] run).ob 0x7100 1) = 0 ∧ (setObs [(0x7100, 1, 0)] run).orders own 0x7100 5 (leBytes 4 0) = true ∧
    sampled.applies own 0x7100 8 (leBytes 4 8) = true ∧ 8 ∈ sampled.sampler.ring.map (·.seq) ∧ sampled.ob 0x7100 6 ≠ 8 ∧
    sampled.sampleControl.testBit 13 = false ∧ invB sampled = true := by decide +kernel

def pl (f : Plans → Plans) (s : State) : State := { s with plans := f s.plans }
def vw (f : SetView → SetView) (s : State) : State := { s with hl := { s.hl with set := f s.hl.set } }
/-- A plan of nothing, and the lead's set with its epoch at 0. -/
def emptyPlan : Plan := ⟨77, 0, 0, false, false, 0, 1, 0, [], [], [], [], none, none⟩
def epochal (n : NodeState) : State := vw (fun v => { v with epoch := some 0 }) (lone n)
/-- The plan state, the armed tide's frame and the plans. -/
def inPlan (v f : Nat) (g : Plans → Plans) : State := pl g (setObs [(0x2200, 6, v), (0x2200, 7, f)] (epochal .run))
def loadedP : State := inPlan 2 0 fun p => { p with loaded := some emptyPlan, active := some emptyPlan }
def armedAt (f : Nat) (g : Plans → Plans) : State := inPlan 3 f g
/-- A frame long past, and one to come. -/
def farFrame : Nat := 2 ^ 40
theorem witness_PlanCommands : invB loadedP = true ∧ run.procs.sequencer.restart = none ∧ run.orders own 0x2201 4 [1] = true ∧
    commandNode 1 run = true ∧ run.planState = 0 ∧ loadedP.orders own 0x2201 4 [2] = true ∧ loadedP.planState = 2 ∧
    loadedP.target.isSome = true ∧ loadedP.plans.loaded = some emptyPlan ∧ loadedP.inheritOk emptyPlan = true ∧
    loadedP.orders own 0x2201 4 [3] = true ∧ loadedP.plans.active.isSome = true ∧ loadedP.orders own 0x2201 4 [4] = true ∧
    (armedAt farFrame id).orders own 0x2201 4 [5] = true ∧ (armedAt farFrame id).planState = 3 ∧ (armedAt farFrame id).pastCommit = false ∧
    (inPlan 1 0 fun p => { p with loading := some (0, true) }).plans.loading = some (0, true) ∧
    (inPlan 1 0 fun p => { p with loading := some (0, true) }).planState = 1 ∧ run.plans.loading = none ∧
    (inPlan 1 0 fun p => { p with loading := some (0, true) }).elapsed 0 (2 * secT) = true := by decide +kernel

def linkPort : HPort := { HPort.reset with state := .up, greeted := true, everUp := true, modules := 4 }
/-- A set of two whose other node is this node's neighbour at port 1, the port in a given state. -/
def pair (formed : Bool) (p : HPort) (s : State) : State :=
  { s with pins := { s.pins with setSize := 1 }
           hl := { s.hl with ports := [(1, p)], set := { s.hl.set with
             state := if formed then 1 else 0, members := 3, reachable := 3, links := 2 ^ 2 + 2 ^ 14, timeSet := true, timeAt := s.now } } }
def linked : State := pair true linkPort run
def hdr1 : Hdr := { Hdr.zero with origin := 1 }
/-- The same, with the plan states of a member. -/
def memberOf (v : Nat) (g : Plans → Plans) : State := pl g (setObs [(0x2200, 6, v), (0x2200, 7, 9)] (vw (fun v => { v with lead := 1 }) linked))
theorem witness_TideVotes : invB (armedAt 5 id) = true ∧ (armedAt 5 id).isLead = true ∧ (armedAt 5 id).planArmed = true ∧
    (armedAt 5 id).tideAhead = true ∧ run.tideAhead = false ∧ (armedAt 5 id).plans.decision = none ∧ (armedAt 5 id).plans.prepared = false ∧
    (armedAt 5 id).before (armedAt 5 id).armedTide 8 = true ∧ (armedAt 5 fun p => { p with prepared := true, votes := [(0, true)] }).allReady = true ∧
    (armedAt 5 fun p => { p with prepared := true }).before 5 4 = true ∧ (armedAt 5 fun p => { p with prepared := true }).allReady = false ∧
    (memberOf 0 id).isLead = false ∧ (armedAt 5 id).before (armedAt 5 id).armedTide 1 = true ∧
    (armedAt 5 fun p => { p with decision := some true }).plans.decision ≠ none ∧ (memberOf 3 id).takes 1 hdr1 = true ∧
    ((memberOf 3 id).taken 1 hdr1).planArmed = true ∧ ((memberOf 0 id).taken 1 hdr1).planArmed = false ∧
    ((memberOf 3 id).taken 1 hdr1).armedTide = (memberOf 3 id).tideFrom 9 ∧ ((memberOf 3 id).taken 1 hdr1).ob 0x2200 8 + 1 < 16 ∧
    16 ≤ ((setObs [(0x2200, 8, 15)] (memberOf 3 id)).taken 1 hdr1).ob 0x2200 8 + 1 ∧
    (linked.taken 1 hdr1).isLead = true ∧ ((pl (fun p => { p with prepared := true }) linked).taken 1 hdr1).plans.prepared = true ∧
    ((pl (fun p => { p with prepared := true }) linked).taken 1 hdr1).armedTide = linked.armedTide := by decide +kernel

def begun : State := pl (fun p => { p with begun := true }) (epochal .run)
theorem witness_TidesAndFrames : invB begun = true ∧ (epochal .run).formed = true ∧ (epochal .run).hl.set.epochReached = false ∧
    (epochal .run).before 0 0 = true ∧ (vw (fun v => { v with epochReached := true }) run).hl.set.epochReached = true ∧
    begun.plans.begun = true ∧ begun.plans.frame < begun.frame ∧ run.plans.begun = false ∧
    (setObs [(0x2200, 2, 1)] begun).isTide (setObs [(0x2200, 2, 1)] begun).frame = true ∧ begun.plans.tideDone ≠ some begun.frame ∧
    begun.plans.decision = none ∧ begun.power.node = .run ∧
    (pl (fun p => { p with retiring := some (3, 7) }) begun).plans.retiring = some (3, 7) ∧
    (pl (fun p => { p with retiring := some (3, 7) }) begun).before (3 + 1) 0 = true ∧ begun.plans.retiring = none ∧
    cfg.orders own 0x2200 2 (leBytes 4 100) = true ∧ cfg.periods = [] ∧ cfg.rwlAtOnce true = true ∧
    run.orders own 0x2203 2 (leBytes 8 (2 ^ 64 - 1)) = true := by decide +kernel

/-- A request of this node that is with the other, and one of the other's that is here. -/
def sentAsk : Ask := ⟨3, ⟨.tile 0, 0, 0, 0, 0, 0, false, 0, 0, 0, false⟩, 0, .sync 0 (2 ^ 14) 0, .port, 0, 0, 0, false, 0, 0, .accepted, none, none, none,
  true, false, false, false, 1, false, 0, 0, 0⟩
def heldAsk : Ask := { sentAsk with side := { sentAsk.side with port := .headland 1 hdr1 }, op := .read, stage := .finished, result := some (0, none), fwd := 0 }
def withAsks (l : List Ask) (s : State) : State := { s with path := { s.path with asks := l } }
/-- An image of a plan for two nodes of four stacks: a header, a table of one entry, and a context table of nothing for every node. -/
def imageHead (crc : Nat) : List Byte :=
  leBytes 4 0x504E4C47 ++ leBytes 2 0x100 ++ leBytes 2 0x80 ++ leBytes 4 400 ++ leBytes 4 0 ++ leBytes 8 77 ++ [2, 4, 0, 1, 6, 0, 0, 0] ++
  leBytes 4 1 ++ leBytes 4 0x80 ++ leBytes 4 crc ++ zeroBytes 84
def imageTail : List Byte := [1, 0xFF, 0, 0] ++ leBytes 4 144 ++ leBytes 4 256 ++ leBytes 4 (crc32c (zeroBytes 256)) ++ zeroBytes 256
def planImage : List Byte := imageHead (crc32c (imageHead 0 ++ imageTail)) ++ imageTail
/-- A LOAD of it in progress, its four lines read. -/
def imaging (lines : List Nat) : State := pl (fun p => { p with loading := some (0, true) })
  (setObs [(0x2200, 6, 1), (0x2201, 2, 400)] (withAsks ((lines.zip (List.range 4)).map fun p =>
    { sentAsk with id := p.2, why := .image p.2, op := .read, stage := .finished, fwd := 0, result := some (0, some p.1) }) linked))
def imageLines : List Nat := (List.range 4).map fun i => leNat (sliceBytes (128 * i) 128 planImage)
set_option maxRecDepth 100000 in
theorem witness_PlanCommands_image : invB (imaging imageLines) = true ∧ (imaging imageLines).planState = 1 ∧
    (imaging imageLines).plans.loading = some (0, true) ∧ (imaging imageLines).ownFault true = some (none, planImage) ∧
    (imaging []).ownFault true = none ∧ (imaging [0, 0, 0, 0]).planState = 1 ∧
    (imaging [0, 0, 0, 0]).ownFault true = some (some ⟨2, 0, 0⟩, zeroBytes 400) ∧ invB (imaging []) = true ∧
    (pow (fun p => { p with shadow := true, rejoin := true }) run).mustReread = true := by decide +kernel

def replied : Hdr := { hdr1 with portKind := portKindOf sentAsk.side.port }
theorem witness_SequencedParcels : linked.takes 1 hdr1 = true ∧ (linked.port 1).live = true ∧ (linked.port 1).greeted = true ∧
    (linked.port 1).silent = false ∧ hdr1.hop = (linked.port 1).rxHop ∧ hdr1.len ≤ 8 ∧ 8 < ({ hdr1 with len := 9 } : Hdr).len ∧ ({ hdr1 with free := 1 } : Hdr).free ≠ 0 ∧ hdr1.free = 0 ∧
    requestOk { hdr1 with portKind := 3 } [] = false ∧ requestOk { hdr1 with opcode := 1 } [] = true ∧ requestOk hdr1 [] = true ∧ completionOk hdr1 [] = true ∧ completionOk replied [] = true ∧ ({ hdr1 with dest := 1 } : Hdr).dest ≠ linked.me ∧
    ({ hdr1 with e2e := 65535 } : Hdr).e2e ≠ (linked.flow (flowKey 1 linked.me 0)).rx ∧
    seqBefore 65535 (linked.flow (flowKey 1 linked.me 0)).rx = true ∧ ({ hdr1 with hop := 65535 } : Hdr).hop ≠ (linked.port 1).rxHop ∧
    seqBefore 65535 (linked.port 1).rxHop = true ∧ ((pair false linkPort run).taken 1 hdr1).formed = false ∧
    (pair false linkPort run).takes 1 hdr1 = true ∧
    mergeLinks 0 1 ((pair false linkPort run).taken 1 hdr1).hl.set.links 0 ≠ ((pair false linkPort run).taken 1 hdr1).hl.set.links ∧
    mergeLinks 0 1 0 0 = 0 ∧ (3 : Nat).testBit linked.me = true ∧ (zeroBytes 248).length = 248 ∧ (memberOf 0 id).takes 1 hdr1 = true ∧
    ((memberOf 0 id).taken 1 hdr1).isLead = false ∧ ((memberOf 0 id).taken 1 hdr1).mgmt.setWrites = [] ∧
    (pl (fun p => { p with isolated := true }) linked).plans.isolated = true ∧ linked.plans.isolated = false ∧
    linked.offersFull 1 = false ∧ (withAsks [heldAsk] linked).offersFull 1 = false ∧
    (withAsks (List.replicate 256 { heldAsk with stage := .offered }) linked).takes 1 hdr1 = true ∧
    (withAsks (List.replicate 256 { heldAsk with stage := .offered }) linked).offersFull 1 = true ∧
    ((vw (fun v => { v with reachable := 1 }) linked).taken 1 hdr1).hl.set.reachable.testBit 1 = false ∧ 1 < linked.setNodes ∧
    (linked.taken 1 hdr1).formed = true ∧ opOf 1 [] = some .read ∧
    (linked.taken 1 hdr1).duplicate ((linked.taken 1 hdr1).newAsk ⟨.headland 1 hdr1, 0, 0, 0, 0, 0, false, 0, 0, 0, false⟩ 0 .read .port) = false ∧
    (withAsks [heldAsk] linked).takes 1 hdr1 = true ∧
    ((withAsks [heldAsk] linked).taken 1 hdr1).duplicate (((withAsks [heldAsk] linked).taken 1 hdr1).newAsk
      ⟨.headland 1 hdr1, 0, 0, 0, 0, 0, false, 0, 0, 0, false⟩ 0 .read .port) = true ∧
    hdrOfOrder hdr1 = false ∧ look 0 1 (linked.taken 1 hdr1).hl.set.resetting = 0 ∧
    ((withAsks [sentAsk] linked).taken 1 replied).forwardOf replied = some sentAsk ∧ sentAsk.fwd = 1 ∧ sentAsk.stage ≠ .finished ∧
    sentAsk.internal = false ∧ replied.opcode ≠ St.retry ∧ replied.opcode < 8 ∧
    ((withAsks [sentAsk] linked).taken 1 { replied with opcode := 9 }).forwardOf { replied with opcode := 9 } = some sentAsk ∧ (linked.taken 1 hdr1).forwardOf hdr1 = none ∧
    hdrOfOrder { hdr1 with portKind := 2, portIndex := 3, tag := 1 } = true ∧
    ((withAsks [heldAsk] linked).taken 1 hdr1).remoteOf hdr1 = some heldAsk ∧ heldAsk.stage = .finished := by decide +kernel

def portIn (p : HPort) : State := pair false p cfg
def trainingPort : HPort := { HPort.reset with state := .training }
theorem witness_PortsAndFormation : invB (portIn trainingPort) = true ∧ ((portIn trainingPort).port 1).state ≠ .unconnected ∧
    ((portIn trainingPort).port 1).state ≠ .down ∧ ((portIn { trainingPort with retraining := true }).port 1).state = .training ∧
    ((portIn { trainingPort with retraining := true }).port 1).retraining = true ∧ ((portIn { trainingPort with retraining := true }).port 1).everUp = false ∧
    helloReason 1 1 2 (portIn trainingPort).cfg.nstacks 1 5 ((portIn trainingPort).ob 0x1000 5)
      { portIn trainingPort with sec := { (portIn trainingPort).sec with setTag := 5 } } = 0 ∧
    helloReason 1 0 2 1 1 5 0 (portIn trainingPort) ≠ 0 ∧ (neighbour (portIn trainingPort).setNodes (portIn trainingPort).me 1).isSome = true ∧
    ((portIn trainingPort).port 1).everUp = false ∧ ((portIn linkPort).port 1).everUp = true ∧
    (portIn trainingPort).elapsed (portIn trainingPort).hl.set.configAt ((portIn trainingPort).ob 0x5808 8 * msT) = true ∧
    ((portIn linkPort).port 1).state ≠ .training ∧ ((portIn { linkPort with malformed := 2 }).port 1).malformed = 2 ∧
    (portIn linkPort).elapsed (portIn linkPort).hl.set.configAt ((portIn linkPort).ob 0x5808 2 * msT) = true ∧
    (portIn linkPort).formed = false ∧ (portIn linkPort).strapsValid = true ∧ (portIn linkPort).power.node = .config ∧
    (portIn linkPort).hl.set.reachable ≠ 0 ∧ lowestNode (portIn linkPort).hl.set.reachable = (portIn linkPort).me ∧
    quorum (2 ^ (portIn linkPort).setNodes - 1) (portIn linkPort).hl.set.reachable = true ∧
    (vw (fun v => { v with configAt := run.now }) (portIn linkPort)).elapsed run.now ((portIn linkPort).ob 0x5808 2 * msT) = false := by
  decide +kernel

def led : State := vw (fun v => { v with lead := 1 }) linked
/-- A link parcel, and one of a flow. -/
def beat : Parcel := ⟨{ Hdr.zero with kind := 8 }, []⟩
def asked : Parcel := ⟨{ Hdr.zero with kind := 1, dest := 1 }, []⟩
def choosing (p : HPort) : State :=
  let u := settleRoutes 1 (pair true p run)
  forEach ((u.classOrder 1).flatMap (u.port 1).heads) (noteWait 1) u
theorem witness_LinkTimers : (linked.port 1).silent = false ∧ (linked.port 1).live = true ∧
    linked.elapsed (linked.port 1).lastSent (500 * nsT) = true ∧ linked.elapsed (linked.port 1).ackAt (100 * nsT) = true ∧
    linked.elapsed (linked.port 1).timeSent (10000 * nsT) = true ∧
    (pair true { linkPort with lastSent := run.now, ackAt := run.now, timeSent := run.now, lastReceived := run.now } run).elapsed run.now (100 * nsT) = false ∧
    linked.isLead = true ∧ led.isLead = false ∧ led.timeParent ≠ some 1 ∧ (computeRoutes led).timeParent = some 1 ∧ (linked.port 1).retraining = false ∧ (linked.port 1).peerReset = none ∧
    linked.elapsed (linked.port 1).lastReceived (2 * usTicks) = true ∧
    ((pair true { trainingPort with everUp := true } run).port 1).state = .training ∧
    ((pair true { trainingPort with everUp := true } run).port 1).everUp = true ∧
    ((pair true { trainingPort with everUp := true, retraining := true } run).port 1).retraining = true ∧
    (pair true { trainingPort with everUp := true } run).elapsed 0 (run.ob (hIdx 1) 7 * usTicks) = true ∧ (linked.port 1).state ≠ .training ∧
    1 ∉ linked.cutOff ∧ 1 ∈ (vw (fun v => { v with links := 0 }) linked).cutOff ∧ linked.formed = true ∧ 1 ≠ linked.me ∧
    linked.hl.set.reachable.testBit 1 = true ∧ look 0 1 linked.hl.set.resetting = 0 ∧
    look 0 1 (vw (fun v => { v with resetting := [(1, 1)] }) linked).hl.set.resetting ≠ 0 ∧
    linked.elapsed (1 - 1) (linked.ob 0x5808 0x0C * msT) = true ∧
    (vw (fun v => { v with beyond5 := some 0, beyond10 := some 0 }) linked).elapsed 0 (100 * usTicks) = true ∧
    (vw (fun v => { v with beyond5 := some 0, beyond10 := some 0 }) linked).elapsed 0 msT = true ∧ linked.hl.set.beyond5 = none ∧
    linked.hl.set.beyond10 = none ∧ (choosing linkPort).choose 1 = none ∧
    (choosing { linkPort with egress := [beat] }).choose 1 = some (.link beat) ∧
    ((choosing { linkPort with egress := [beat] }).port 1).state ≠ .down ∧
    ((choosing { linkPort with egress := [asked] }).choose 1).isSome = true := by decide +kernel

/-- The last channel in service, with another controller state. -/
def served (f : Chan → Chan) (s : State) : State :=
  let s := setObs [(0x411F, 1, 0), (0x411F, 0x40, 3), (0xB010, 32, 0x102)] s
  s.setChan 287 (f (s.chan 287))
/-- Stream 4,095 of engine 63, feeding or draining, and a node that runs it with one instruction in its program. -/
def streamOf (drain : Bool) : Stream :=
  { desc := ⟨0, 5, false, false, false, false, drain, 0, 255, 4, 1, 0, 0, 1⟩, cur := ⟨0, [], [.reset, .reset, .reset, .reset], 0, 0, 0, none, false⟩
    runs := [], pos := 0, sigma := 0, lag := 0, first := 0, issued := 0, landed := 0, decoded := 0, credits := 2, ring := 0, waiting := none
    watched := none, masks := [], signals := [], feed := [], drain := [], collected := [], drained := 0, fences := [], fed := 0
    lastIssue := 0, fenced := false }
def fd (f : Feeds → Feeds) (s : State) : State := { s with feeds := f s.feeds }
def streaming (x : Stream) (w : Nat) : State :=
  pl (fun p => { p with active := some { emptyPlan with programs := [(63, ⟨[x.desc], [w]⟩)] } }) (fd (fun f => { f with streams := [(4095, x)] }) run)
def insW (op : Nat) : Nat := op * 2 ^ 120
def slotAgo (back : Nat) : State := served (fun x => { x with issued := [⟨run.ck - back, .preAll, 1⟩] }) run
theorem witness_SlotsAndDecoding : engineOf 4095 < 16 * run.cfg.nstacks ∧
    (∀ op ∈ List.range 10, (streaming (streamOf false) (insW op)).stream? 4095 = some (streamOf false) ∧
      insOp ((streaming (streamOf false) (insW op)).instrOf 4095 (streamOf false)) = op) ∧ (streamOf false).mayDecode = true ∧
    (insW 3).testBit 111 = false ∧ (insW 3 + 2 ^ 111).testBit 111 = true ∧ ({ (streamOf false).cur with mask := 1 } : Cursor).mask ≠ 0 ∧
    syncNode (insObject (insW 6)) = run.me ∧ ({ streamOf false with fenced := true } : Stream).mayDecode = false ∧ 287 < run.channels ∧
    run.slotRuns 287 = false ∧ (served id run).slotRuns 287 = true ∧ ((served id run).chan 287).lastSlot = none ∧
    ((served (fun x => { x with lastSlot := some (2 ^ 60) }) run).chan 287).lastSlot = some (2 ^ 60) ∧
    (served (fun x => { x with lastSlot := some (2 ^ 60) }) run).slotOf 287 ≤ 2 ^ 60 ∧ run.syncSecure (syncIndex (insObject (insW 6))) = false ∧
    ((slotAgo 0).chan 287).rowFree (run.slotOf 287) = false ∧ ((served id run).chan 287).rowFree (run.slotOf 287) = true ∧
    allowed ((served (fun x => { x with preabDue := true }) run).chan 287).time
      ((served (fun x => { x with preabDue := true }) run).half 287) (rowCk (run.slotOf 287)) .preAll = true ∧
    ((served (fun x => { x with preabDue := true }) run).chan 287).again = [] ∧
    ((served (fun x => { x with preabDue := true }) run).chan 287).preabDue = true ∧ run.channels ≤ 288 ∧
    16 * run.cfg.nstacks ≤ engineOf 4096 := by decide +kernel
theorem witness_SlotsAndDecoding_passed : run.slotRuns 287 = false ∧ (run.chan 287).lastSlot = none ∧
    ((setObs [(0x411F, 1, 2)] (served (fun x => { x with lastSlot := some 3 }) run)).chan 287).lastSlot = some 3 ∧ 3 < run.slotOf 287 := by decide +kernel

def waitStream (v : Nat) : Stream := { streamOf false with waiting := some (16383, 4), watched := some v }
def maskAsk : Ask := { sentAsk with why := .mask 4095 1, op := .read, stage := .finished, result := some (0, some 9), fwd := 0 }
def feeding (x : Stream) : State := setObs [(0x2321, 255, 0)] (streaming x 0)
/-- A pool of region 1,023. -/
def inObject (idx sub v : Nat) (s : State) : State := setObs [(idx, sub, v)] s
theorem witness_FeedAndDrain : invB (feeding (streamOf false)) = true ∧ engineOf 4095 < 16 * run.cfg.nstacks ∧ 255 < 64 * run.cfg.nstacks ∧
    (streaming (waitStream 4) 0).stream? 4095 = some (waitStream 4) ∧ (streaming (waitStream 3) 0).stream? 4095 = some (waitStream 3) ∧
    ((withAsks [maskAsk] (feeding (streamOf false))).path.asks.filter fun q =>
      q.stage == .finished && (match q.why with | .mask k _ => k == 4095 | _ => false)) = [maskAsk] ∧
    (feeding (streamOf true)).portState 255 = 0 ∧ (feeding (streamOf true)).serves 255 4095 true = true ∧ (streamOf true).fenced = false ∧
    [some 1].length ≤ (streamOf true).credits ∧ ({ streamOf true with credits := 0 } : Stream).credits < [some 1].length ∧
    (feeding { streamOf true with credits := 0 }).serves 255 4095 true = true ∧ (feeding (streamOf false)).serves 255 4095 true = false ∧
    2 + 14 ≤ ringSize (streamOf false).desc ∧ (feeding (streamOf true)).serves 254 4095 true = false ∧
    (feeding (streamOf true)).serves 254 4095 false = false ∧ (feeding (streamOf false)).oldStream? 4095 = none ∧
    (feeding (streamOf false)).landedLate 255 = false ∧ (inObject 0x2321 255 1 run).portState 255 = 1 ∧ ((feeding (streamOf true)).feeds.streams.all fun p => p.1 == 4095) = true ∧
    (feeding { streamOf false with lag := 1 }).halted (engineOf 4095 / 16) = false ∧
    (feeding { streamOf false with lag := 1 }).elapsed 0 (run.ob 0x2300 3 * 1000 * nsT) = true ∧
    run.fenced 63 = false ∧ run.procs.sequencer.restart = none ∧ run.applies own 0x2300 5 (leBytes 8 (2 ^ 63)) = true ∧
    (inObject 0x2321 255 2 run).portState 255 = 2 ∧ (inObject 0x2321 255 2 run).applies own 0x2322 255 [1] = true ∧
    (inObject (engineIdx 63) 1 3 run).ob (engineIdx 63) 1 = 3 ∧ (inObject (engineIdx 63) 1 3 run).applies own (engineIdx 63) 8 [1] = true ∧
    (inObject (unitIdx 31) 0x0F 2 run).unitState 31 = 2 ∧ (inObject (unitIdx 31) 0x0F 2 run).applies own (unitIdx 31) 0x10 [1] = true ∧
    ({ streamOf true with collected := [(7, 0)], runs := [⟨false, 1, .reset, 0, 0, 0, none, 0, 0⟩] } : Stream).lineItem 0 ≠ none := by decide +kernel

/-- A WIDEN that waits for one escape line, which has been read. -/
def widening : Ask := { maskAsk with op := .widen 63 1, why := .port, stage := .accepted, result := none, entry := 257, applied := some 0 }
def escRead : Ask := { maskAsk with id := 4, result := some (0, some 0), why := .escapeRead 3 0, info := infoOf 6 false false false
                                    side := { maskAsk.side with port := .unit 1 } }
def escaping : State := { run with path := { run.path with asks := [widening, escRead] } }
theorem witness_FeedAndDrain_escape : escaping.far.waiting = [] ∧ widening.side.port = .tile 0 ∧
    escaping.escapeReads (fun p => match p with | .escapeRead a i => if a = widening.id then some i else none | _ => none) = [escRead] ∧
    escRead.stage = .finished ∧ (match escaping.widenEscape (decodeEntry widening.entry) widening.addr (widening.applied.getD 0, widening.info)
      [escRead.gotLine] with | .lines ls _ _ => ls.length | _ => 0) = 2 := by decide +kernel

def resting : State := served (fun x => { x with draining := some (2, 0xFFFF) }) run
def hotHalt : State := setObs [(0x900B, 1, 4)] resting
/-- The last channel in self-refresh. -/
def inRefresh : State := asleep 287 (setObs [(0x411F, 1, 6)] (served id run))
def faulted (s : State) : State := setObs [(0x411F, 1, 1)] (served id s)
def hasRow (s : State) : State := s.setChan 287 (s.chan 287)
/-- Its PREab issued, or its SRE. -/
def entering (sre : Bool) : State := served (fun x => { x with draining := some (2, 0xFFFF), entry := some (sre, 7) }) run
/-- Its SRX issued, tXS over. -/
def leaving : State := setObs [(0x411F, 1, 6)] (served id run)
theorem witness_RefreshAndFaults : invB resting = true ∧ 287 < run.channels ∧ (served id run).refreshes 287 = true ∧
    riseDue 0 ((served id run).refreshClass 287) 255 0 run.now = true ∧ ((served id run).chan 287).debtOf 255 < 32 ∧
    run.refreshes 287 = false ∧ 31 < 8 * run.cfg.nstacks ∧ run.stewardUp = true ∧ run.running = none ∧
    look 0 31 ({ run with heat := { run.heat with classDue := [(31, 1)] } } : State).heat.classDue ≠ run.refreshClass (9 * 31) ∧
    (resting.chan 287).draining = some (2, 0xFFFF) ∧ (resting.dch 287).selfRef = none ∧ resting.chanState 287 = 0 ∧
    resting.haltEntry 287 = false ∧ resting.settling 287 = true ∧ (resting.chan 287).unconf = [] ∧ (resting.chan 287).debt = [] ∧
    hotHalt.haltEntry 287 = true ∧ (run.chan 287).draining = none ∧ inRefresh.chanState 287 = 6 ∧
    (inRefresh.dch 287).selfRef.isSome = true ∧ inRefresh.srxAllowed 287 = true ∧ inRefresh.exitWanted 287 = true ∧
    inRefresh.ob (chanIdx 287) 0x40 = 3 ∧ (run.chan 287).poisonDue = 0 ∧
    ((served (fun x => { x with poisonDue := 1, lastSlot := some 4 }) run).chan 287).poisonDue ≠ 0 ∧
    ((served (fun x => { x with poisonDue := 1 }) run).dch 287).selfRef = none ∧ run.recovering = false ∧
    (inObject 0xA002 3 1 run).recovering = true ∧ (faulted run).chanState 287 = 1 ∧
    (faulted run).elapsed ((faulted run).chan 287).faultAt recoveryLimit = true ∧ run.chanState 287 ≠ 1 ∧
    (inObject 0x411F 1 3 run).applies own (chanIdx 287) 0x1C [1] = true ∧ (inObject 0x411F 1 3 run).chanState 287 = 3 ∧
    run.path.copyBack = none ∧ run.path.reconst = none ∧ isSpare 287 = true := by decide +kernel

theorem witness_RefreshAndFaults_selfRefresh : resting.backsWaiting 287 = false ∧ (resting.chan 287).entry = none ∧ resting.rowAllowed 287 .preAll = true ∧
    hotHalt.backsWaiting 287 = false ∧ (hotHalt.chan 287).entry = none ∧ hotHalt.rowAllowed 287 .preAll = true ∧
    ((entering false).chan 287).draining = some (2, 0xFFFF) ∧ (entering false).backsWaiting 287 = false ∧
    ((entering false).dch 287).selfRef = none ∧ (entering false).chanState 287 = 0 ∧ ((entering false).chan 287).entry = some (false, 7) ∧
    (entering false).rowAllowed 287 (.sre ((entering false).sreClass 287 2) 0xFFFF) = true ∧
    ((entering true).chan 287).entry = some (true, 7) ∧ 7 + 8 ≤ rowCk ((entering true).slotOf 287) ∧
    leaving.chanState 287 = 6 ∧ (leaving.dch 287).selfRef = none ∧ leaving.ob (chanIdx 287) 0x40 = 3 ∧
    within (rowCk (leaving.slotOf 287)) 240 (leaving.chan 287).time.srx = false ∧
    (faulted run).ob (chanIdx 287) 0x40 = 3 ∧ ((faulted run).dch 287).selfRef = none ∧
    within (rowCk ((faulted run).slotOf 287)) 240 ((faulted run).chan 287).time.srx = false ∧ (asleep 287 (faulted run)).chanState 287 = 1 ∧
    ((asleep 287 (faulted run)).dch 287).selfRef.isSome = true ∧ (asleep 287 (faulted run)).srxAllowed 287 = true ∧
    (asleep 287 (faulted run)).ob (chanIdx 287) 0x40 = 3 := by decide +kernel

theorem witness_RefreshAndFaults_effects : run.path.asks = [] ∧ run.far.waiting = [] ∧ run.recovering = false ∧
    (served id run).recovering = false ∧ (served id run).chanState 287 = 0 ∧ (faulted run).path.asks = [] := by decide +kernel
/-- A mode register write before SRE, in a slot whose row position is free and in one whose is not. -/
def moded (l : List Issued) : State :=
  served (fun x => { x with draining := some (2, 0xFFFF), entry := some (false, 7), again := [.mrw 15 0x18 0], issued := l }) run
theorem witness_RefreshAndFaults_modes : ((moded []).chan 287).draining = some (2, 0xFFFF) ∧ (moded []).chanState 287 = 0 ∧
    (moded []).backsWaiting 287 = false ∧ ((moded []).chan 287).entry = some (false, 7) ∧ ((moded []).chan 287).again = [.mrw 15 0x18 0] ∧
    (moded []).rowAllowed 287 (.mrw 15 0x18 0) = true ∧ (moded [⟨run.ck, .preAll, 1⟩]).rowAllowed 287 (.mrw 15 0x18 0) = false ∧
    ((entering false).chan 287).again = [] := by decide +kernel

def sideT : Side := ⟨.tile 255, 3, 4, 5, 15, 63, false, 0, 0, 255, false⟩
/-- Every class allowed to tiles. -/
def openNode : State := setObs [(0x3000, 5, 0xFFFF)] run
def twice : State := withAsks [{ sentAsk with side := sideT, journal := true }] openNode
theorem witness_OpenRequests : portPresent sideT.port run = true ∧ portPresent (.tile 256) run = false ∧ off.power.node = .off ∧
    halted.power.node = .halted ∧ run.power.node ≠ .off ∧ run.power.node ≠ .halted ∧
    twice.duplicate (twice.newAsk sideT 0 .read .port) = true ∧ openNode.duplicate (openNode.newAsk sideT 0 .read .port) = false ∧
    offerSize sideT.port ≤ (withAsks (List.replicate 16 { sentAsk with side := sideT, stage := .offered, fwd := 0 }) run).offersOf
      (run.newAsk sideT 0 .read .port) ∧
    openNode.offersOf (openNode.newAsk sideT 0 .read .port) < offerSize sideT.port ∧
    portDenied (run.newAsk { sideT with rsvd := true } 0 .read .port) run = true ∧
    portDenied (openNode.newAsk sideT 0 .read .port) (endChain (openNode.newAsk sideT 0 .read .port) openNode) = false ∧
    (endChain (openNode.newAsk sideT 0 .read .port) openNode).chained (openNode.newAsk sideT 0 .read .port) = false ∧
    ({ openNode with path := { openNode.path with chains := [(.tile 255, 3, 3)] } } : State).chained (openNode.newAsk sideT 0 .read .port) = true ∧
    (openNode.newAsk sideT 0 .read .port).owner = openNode.me ∧ (openNode.newAsk sideT (2 ^ 50 - 128) .read .port).owner ≠ openNode.me := by
  decide +kernel

/-- A line of the private slice of core 5 of tile 255, a way that holds it, and a node that has it in the cache. -/
def addrA : Nat := 3 * 2 ^ 36 + 63 * 2 ^ 30 + 5 * 2 ^ 21 + 128
def wayOf (k : WayKind) : Nat × CWay := (wayKey (sliceOf addrA) (setOf addrA) 15, ⟨addrA / 128, 5, 0, k, 0, 0, false⟩)
def hot (k : WayKind) : State := { openNode with cache := { openNode.cache with ways := [((wayOf k).1, some (wayOf k).2)] } }
/-- A standing entry that delivers eight lines, and one that delivers two with a line of its format in the cache. -/
def wide : State := setObs [(0x2410, 64, 1287)] openNode
def narrowInfo : Nat := infoOf 1 false false false
def wideHot : State := setObs [(0x2410, 64, 257)] { openNode with cache := { openNode.cache with
  ways := [((wayOf .clean).1, some { (wayOf .clean).2 with data := 0, info := narrowInfo })] } }
theorem witness_OpenRequests_admitted : farAddr addrA = false ∧ openNode.redOn addrA = none ∧ openNode.cached addrA = none ∧
    openNode.admits (openNode.req sideT addrA .read) = true ∧ wide.admits (wide.req sideT addrA (.widen 63 7)) = true ∧
    wide.cached addrA = none ∧ openNode.admits (openNode.req sideT addrA (.write fullMask (2 ^ 1024 - 1))) = true ∧
    (hot .clean).admits ((hot .clean).req sideT addrA .read) = true ∧ (hot .clean).cached addrA = some (wayOf .clean) ∧
    (wayOf .clean).2.info.testBit 11 = false ∧
    (wayOf .clean).2.info.testBit 9 = Ask.sealed { (hot .clean).req sideT addrA .read with region := (hot .clean).regionRaw addrA } ∧
    wideHot.admits (wideHot.req sideT addrA (.widen 63 1)) = true ∧ (wideHot.cached addrA).isSome = true ∧
    (match wideHot.widen (decodeEntry (wideHot.standing 63)) addrA (0, narrowInfo) with | .lines ls _ => ls.length | _ => 0) = 2 ∧
    (hot .dirty).admits ((hot .dirty).req sideT addrA (.write 1 7)) = true ∧ (hot .dirty).cached addrA = some (wayOf .dirty) ∧
    (hot .dirty).redOn addrA = none := by decide +kernel

theorem witness_OperationResults : (2 ^ 32 - 1 : Nat) < 2 ^ 32 ∧ fieldAt (withField 0 124 32 (2 ^ 32 - 1)) 124 32 = 2 ^ 32 - 1 ∧
    atomicFn 2 32 (2 ^ 32 - 1) 1 0 = 0 ∧ atomicFn 6 32 (2 ^ 31) 0 0 = 2 ^ 31 ∧ syncValue (addSync (2 ^ 32 - 1) 1) = 2 ^ 32 - 1 := by
  decide +kernel

theorem witness_OperationResults_admitted : portPresent sideT.port openNode = true ∧ (hot .clean).sliceState (sliceOf addrA) ≠ 1 ∧
    (hot .clean).sliceState (sliceOf addrA) ≠ 4 ∧ (hot .clean).redOn addrA = none ∧
    (∀ g ∈ List.range 14, atomicDenied g 124 false addrA = false ∧
      openNode.admits (openNode.req sideT addrA (.atomic g 124 false true (2 ^ 64 - 1) 0)) = true ∧
      (hot .clean).admits ((hot .clean).req sideT addrA (.atomic g 124 false true (2 ^ 64 - 1) 0)) = true) ∧
    openNode.cached addrA = none ∧ (hot .clean).mirrored (sliceOf addrA) = true ∧
    (hot .clean).cached addrA = some (wayOf .clean) ∧ (hot .clean).dirtyLimit addrA (wayOf .clean).2 = none ∧
    (hot .clean).admits ((hot .clean).req sideT addrA (.atomic 14 120 true true 0 0)) = true ∧ atomicDenied 14 120 true addrA = false ∧
    (hot .clean).admits ((hot .clean).req sideT addrA (.atomic 15 124 false false 0 0)) = true ∧ atomicDenied 15 124 false addrA = false ∧
    (wayOf .clean).2.kind ≠ .dirty := by decide +kernel

def word0 : RedWord := ⟨0, 3, false, true, 9, 0, 0, false, 0⟩
/-- A reduction of one contribution that has it staged, and one of two that waits for its second. -/
def redOne : Red := ⟨128, word0, 0, 0, 0, some (List.replicate 32 0), [(0, 3, 5)], 0, [], false⟩
def redTwo : Red := { redOne with word := { word0 with count := 1 } }
def redLate : Red := { redTwo with staged := [] }
def caching (f : Cache → Cache) (s : State) : State := { s with cache := f s.cache }
def reducing (d : Red) : State := caching (fun c => { c with reds := [d] }) run
def waitAsk : Ask := { sentAsk with id := 3, arrived := 0, rule := 1000 }
theorem witness_ReductionsAndSync : run.redOn 128 = none ∧ (reducing redOne).redOn 128 = some redOne ∧ redOne.closing = false ∧
    (applyAll (redOne.staged.length + 1) redOne (reducing redOne)).1.next = redK redOne.word ∧
    (applyAll (redTwo.staged.length + 1) redTwo (reducing redTwo)).1.next ≠ redK redTwo.word ∧
    (redOne.staged.find? fun x => x.1 == redOne.next) = some (0, 3, 5) ∧
    (reducing redLate).cache.reds.filter (reducing redLate).redExpired = [redLate] ∧
    (reducing redOne).cache.reds.filter (reducing redOne).redExpired = [] ∧
    (caching (fun c => { c with waiters := [(16383, 1, 3)] }) (withAsks [waitAsk] run)).ask? 3 = some waitAsk ∧
    run.elapsed waitAsk.arrived (waitAsk.rule * 1000 * nsT) = true ∧ run.elapsed run.now (waitAsk.rule * 1000 * nsT) = false ∧
    run.applies own (0x2540 + 16383 / 256) (16383 % 256) (leBytes 8 (2 ^ 32 - 1)) = true ∧ run.isOwner own = true ∧
    run.syncSecure 16383 = false := by decide +kernel

/-- A contribution of one request, and a wait of one. -/
def joined : State := withAsks [sentAsk] (reducing redTwo)
def timedWait : State := caching (fun c => { c with waiters := [(16383, 1, 3)] }) (withAsks [waitAsk] run)
theorem witness_ReductionsAndSync_admitted : redDenied { word0 with count := 1 } addrA = false ∧
    openNode.admits (openNode.req sideT addrA (.reduce { word0 with count := 1 } (2 ^ 1024 - 1))) = true ∧
    (match openNode.redDecide addrA { word0 with count := 1 } with | .take b => b | _ => false) = true ∧ openNode.cached addrA = none ∧
    (∀ f ∈ List.range 6, openNode.admits (openNode.req sideT 0 (.sync f 16383 7)) = true) ∧ openNode.admits (openNode.req sideT 0 (.sync 0 16383 0)) = true ∧ openNode.cache.waiters = [] ∧
    openNode.syncSecure (syncIndex 16383) = false ∧ openNode.sliceState (syncSlice (syncIndex 16383)) ≠ 1 ∧
    syncValue (openNode.syncState 16383) < 7 ∧ 0 ≤ syncValue (openNode.syncState 16383) ∧
    joined.still = true ∧ joined.path.asks = [sentAsk] ∧ sentAsk.side.port = .tile 0 ∧ sentAsk.stage = .accepted ∧
    joined.redOn 128 = some redTwo ∧ redTwo.acc.isSome = true ∧ redTwo.staged = [(redTwo.next, sentAsk.id, 5)] ∧
    redTwo.next + 1 ≠ redK redTwo.word ∧ (reducing redLate).still = true ∧ (reducing redLate).redExpired redLate = true ∧
    redLate.staged = [] ∧ redLate.readers = [] ∧ timedWait.still = true ∧ timedWait.cache.waiters = [(16383, 1, waitAsk.id)] ∧
    timedWait.elapsed waitAsk.arrived (waitAsk.rule * 1000 * nsT) = true := by decide +kernel

def way (k : WayKind) : CWay := ⟨1, 5, 0, k, 0, 0, false⟩
def dirtyNode : State := caching (fun c => { c with ways := [(0, some (way .dirty))] }) run
def fillAsk : Ask := { sentAsk with op := .read, fwd := 0 }
def backAsk : Ask := { sentAsk with addr := 128, op := .put 5 0, stage := .finished, fwd := 0, why := .writeBack 1, result := some (0, none)
                                    side := { sentAsk.side with port := .unit 1 } }
def written : State := withAsks [backAsk] dirtyNode
theorem witness_CacheAndSlices : run.cache.fills = [] ∧ (withAsks [fillAsk] run).ask? 3 = some fillAsk ∧ run.ask? 3 = none ∧
    rulePolicy fillAsk.rule = 0 ∧ run.dirtyLines = [] ∧ dirtyNode.dirtyLines = [1] ∧ run.applies own 0x2500 6 [1] = true ∧
    dirtyNode.applies own 0x2500 6 [1] = true ∧ run.endedBack 15 = none ∧ written.endedBack (sliceOf 128) = some backAsk ∧
    sliceOf 128 < 16 ∧ run.sliceState 15 = 0 ∧ run.sliceState (partnerOf 15) = 0 ∧
    (inObject 0x251F 1 2 run).sliceState 15 ≠ 0 ∧ (inObject 0x251F 1 2 run).sliceState 15 ≠ 3 ∧ (inObject 0x251F 1 1 run).sliceState 15 = 1 ∧
    run.arrayOf (partnerOf 15) = [] ∧ (inObject 0x251F 1 3 run).applies own (0x2510 + 15) 8 [1] = true ∧
    (inObject 0x251F 1 3 run).sliceState 15 = 3 := by decide +kernel

def filled : State := caching (fun c => { c with fills := [(3, some (7, 0))] }) (withAsks [fillAsk] run)
def backA : Ask := { backAsk with addr := addrA, why := .writeBack (addrA / 128) }
theorem witness_CacheAndSlices_effects : filled.far.waiting = [] ∧ filled.path.asks = [fillAsk] ∧ fillAsk.side.port = .tile 0 ∧
    fillAsk.stage = .accepted ∧ fillAsk.op = .read ∧ filled.cache.fills = [(fillAsk.id, some (7, 0))] ∧ fillAsk.sealed = false ∧
    (0 : Nat).testBit 9 = false ∧ (hot .dirty).cached addrA = some (wayOf .dirty) ∧ (wayOf .dirty).2.writing = false ∧
    addrA = 128 * (wayOf .dirty).2.line ∧ adNode addrA = (hot .dirty).me ∧ unmapped addrA (hot .dirty) = false ∧
    (hot .dirty).reachable addrA = true ∧ (hot .dirty).elapsed 0 ((hot .dirty).ob 0x2500 5 * 1000 * nsT) = true ∧
    (withAsks [backA] (hot .dirty)).endedBack (sliceOf addrA) = some backA ∧ (withAsks [backA] (hot .dirty)).cache.reds = [] ∧
    (withAsks [backA] (hot .dirty)).cache.allocs = [] ∧ (withAsks [backA] (hot .dirty)).cached backA.addr = some (wayOf .dirty) ∧
    (inObject 0x251F 1 1 run).cache.ways = [] ∧ run.recovering = false := by decide +kernel

def rdEntry (who : Reader) : RdEntry := ⟨who, 0, ⟨287, 15, 15, 4095, 7⟩, 0, 1, 0, none, false, none, false, none⟩
def offeredAsk : Ask := { sentAsk with stage := .offered, fwd := 0, op := .read }
def doneAsk : Ask := { sentAsk with stage := .finished, fwd := 0, op := .read, result := some (0, some 7), side := sideT }
/-- Partition 63 enabled, and a panic input stuck at level 2. -/
def pth (f : Path → Path) (s : State) : State := { s with path := f s.path }
def budgeted : State := pth (fun p => { p with regs := [(63, ⟨0, false, true⟩)] }) (setObs [(regIdx 63, 1, 1000), (regIdx 63, 2, 1), (regIdx 63, 3, 1)] run)
/-- A panic input that has just changed. -/
def panicked : State := pth (fun p => { p with panics := [(7, ⟨1, some run.now, run.now, 0⟩)] }) run
def stuck (lvl : Nat) : State := setObs [(rtIdx 7, 4, 2), (rtIdx 7, 3, lvl)] run
/-- One that has stood at level 3. -/
def pressed : State := pth (fun p => { p with panics := [(7, ⟨3, none, 0, 0⟩)] }) run
theorem witness_QualityOfService : invB run = true ∧ run.path.asks.filter run.holdOver = [] ∧
    (withAsks [offeredAsk] run).path.asks.filter (withAsks [offeredAsk] run).holdOver = [offeredAsk] ∧
    (withAsks [offeredAsk] run).ask? offeredAsk.id = some offeredAsk ∧ run.chosen 287 true = none ∧
    (withAsks [offeredAsk] run).chosen 0 false = some offeredAsk ∧
    portPresent (.tile 255) run = true ∧
    run.portTakes (.tile 255) = true ∧ (withAsks [doneAsk] run).deliverable (.tile 255) = some doneAsk ∧ doneAsk.due = 0 ∧
    (inObject 0x2321 255 1 run).portTakes (.tile 255) = false ∧ budgeted.windowDue 63 = true ∧ (budgeted.regWindow 63).running = false ∧ (pth (fun p => { p with regs := [(63, ⟨0, true, false⟩)] }) budgeted).windowDue 63 =
      decide (1 ≤ budgeted.frame) ∧ run.windowDue 63 = false ∧
    run.ob (rtIdx 7) 4 ≠ 2 ∧ run.panicFree (run.panicState 7) = true ∧ (stuck 2).ob (rtIdx 7) 4 = 2 ∧ (stuck 2).panicFree ((stuck 2).panicState 7) = true ∧ (1 : Nat) ≠ run.ob (rtIdx 7) 3 ∧
    panicked.panicFree (panicked.panicState 7) = false ∧ run.panicIn 7 = 0 ∧
    pressed.panicIn 7 ≠ 0 ∧ pressed.ob (rtIdx 7) 4 ≠ 2 ∧
    pressed.elapsed (pressed.panicState 7).since (pressed.ob 0x3000 4 * 1000 * nsT) = true ∧
    (stuck 0).ob (rtIdx 7) 3 = 0 ∧ (stuck 0).elapsed ((stuck 0).panicState 7).zeroSince (1000 * nsT) = true ∧
    ((inObject 0x3000 6 16 begun).ob 0x3000 6).testBit (5 - 1) = true ∧ look 0 5 begun.path.degrade + 64 ≤ begun.frame ∧
    (run.ob 0x3000 6).testBit (5 - 1) = false := by decide +kernel

/-- A write offered to a line under reduction. -/
def heldUp : Ask := { offeredAsk with addr := 128 }
def heldRed : State := withAsks [heldUp] (reducing redOne)
def lineChan : Nat := (run.place 128).c
/-- Offered to a channel that drains, and a queue with its reserve alone free. -/
def shut : State := (withAsks [offeredAsk] run).modChan 0 fun x => { x with draining := some (2, 0xFFFF) }
def scarce (tier : Nat) : State := (withAsks [{ offeredAsk with tier := tier }] run).modChan 0 fun x =>
  { x with rq := List.replicate (rqSize - 1) (rdEntry (.ask 3)) }
theorem witness_QualityOfService_grants : (withAsks [offeredAsk] run).path.asks.filter (withAsks [offeredAsk] run).holdOver = [offeredAsk] ∧
    (grantEntry offeredAsk false (syncWfq 0 false (withAsks [offeredAsk] run))).freeEntries 0 false <
      (syncWfq 0 false (withAsks [offeredAsk] run)).freeEntries 0 false ∧
    heldRed.chosen lineChan false = some heldUp ∧ (syncWfq lineChan false heldRed).freeEntries lineChan false ≤
      (grantEntry heldUp false (syncWfq lineChan false heldRed)).freeEntries lineChan false ∧
    (scarce 1).candidates 0 false ≠ [] ∧ (scarce 2).candidates 0 false = [] ∧
    (withAsks [offeredAsk] run).candidates 0 false = [offeredAsk] ∧
    shut.path.asks.filter shut.holdOver = [offeredAsk] ∧
    ((grantAll (shut.queueOf offeredAsk).1 (shut.queueOf offeredAsk).2 (serveAll shut)).ask? offeredAsk.id).map (·.stage) = some .offered ∧
    ((grantAll ((withAsks [offeredAsk] run).queueOf offeredAsk).1 ((withAsks [offeredAsk] run).queueOf offeredAsk).2
      (serveAll (withAsks [offeredAsk] run))).ask? offeredAsk.id).map (·.stage) = some .accepted := by decide +kernel

def offeredWrite : Ask := { offeredAsk with op := .write 1 9 }
theorem witness_QualityOfService_single : (withAsks [offeredAsk] run).redOn 0 = none ∧ (withAsks [offeredAsk] run).cached 0 = none ∧
    offeredAsk.side.port = .tile 0 ∧ (withAsks [offeredAsk] run).chosen 0 false = some offeredAsk ∧
    offeredAsk.tides = (withAsks [offeredAsk] run).path.tides ∧ (withAsks [offeredAsk] run).entryFree offeredAsk = true ∧
    (withAsks [offeredWrite] run).chosen 0 true = some offeredWrite ∧ (withAsks [offeredWrite] run).entryFree offeredWrite = true ∧
    shut.holdOver offeredAsk = true ∧ shut.candidates (shut.place 0).c false = [] ∧ shut.far.waiting = [] ∧ farAddr 0 = false := by decide +kernel

def loc0 : Loc := ⟨287, 15, 15, 4095, 7⟩

def wrEntry (who : Writer) : WrEntry := ⟨1, who, 0, loc0, 0, 0, 0, false, false, 0, 1, 0, none⟩
/-- A read that is back, with a line that passes its check or with none. -/
def goodBytes : List Byte := encodeLine (adOffset 0) ⟨zeroBytes 128, 0⟩
def flight (who : Reader) (ok : Bool) : Flight := ⟨rdEntry who, if ok then some goodBytes else none, 0, [], false⟩
def flying (who : Reader) (ok : Bool) : State := served (fun x => { x with flights := [flight who ok] }) run
def reading : State := served (fun x => { x with flights := [flight (.reread 1) true]
                                                 recs := [⟨1, 0, loc0, [], .reread, true, 1, none, false, none, false, false⟩] }) run
def unconf (who : Writer) : State := served (fun x => { x with unconf := [⟨wrEntry who, 0⟩] }) run
def restored : State := { run with far := { run.far with restored := [⟨287, 1, none⟩] } }
def weakened : State := served (fun x => { x with weak := [(63, some ⟨5, false, 1, 0, false, false⟩)], lastSlot := some 3 }) run
theorem witness_ReadsAndWritesReturn : 287 < run.channels ∧ (flight (.ask 3) true).line.isSome = true ∧ (flight (.ask 3) false).line = none ∧
    (flying (.ask 3) true).flightDue 287 (fun w => !isFill w && !isReread w) = some (flight (.ask 3) true) ∧
    (flying (.temp 15) true).flightDue 287 (fun w => !isFill w && !isReread w) = some (flight (.temp 15) true) ∧
    (flying (.fill 1) true).flightDue 287 (fun w => !isFill w && !isReread w) = none ∧
    (flying (.fill 1) true).flightDue 287 isFill = some (flight (.fill 1) true) ∧
    (flying (.fill 1) false).flightDue 287 isFill = some (flight (.fill 1) false) ∧
    reading.flightDue 287 isReread = some (flight (.reread 1) true) ∧
    (((dropFlight 287 (flight (.reread 1) true) reading).chan 287).rec? 1).isSome = true ∧ run.flightDue 287 isReread = none ∧
    (faulted run).chanState 287 = 1 ∧ (restored.far.restored.find? fun x => x.c == 287) = some ⟨287, 1, none⟩ ∧ run.far.restored = [] ∧
    (unconf (.ask 3)).confirmable 287 (fun w => !isHeal w) = some ⟨wrEntry (.ask 3), 0⟩ ∧
    (withAsks [fillAsk] (unconf (.ask 3))).ask? 3 = some fillAsk ∧ fillAsk.isDrain = false ∧
    (unconf .heal).confirmable 287 (fun w => !isHeal w) = none ∧ (unconf .heal).confirmable 287 isHeal = some ⟨wrEntry .heal, 0⟩ ∧
    run.confirmable 287 isHeal = none ∧ (((slotAgo 31).chan 287).issued.find? fun i => i.ck + 31 == (slotAgo 31).ck).isSome = true ∧
    ((flying (.ask 3) true).chan 287).flights = [flight (.ask 3) true] ∧ (run.chan 287).flights = [] ∧ (run.chan 287).weak = [] ∧
    (weakened.chan 287).weak = [(63, some ⟨5, false, 1, 0, false, false⟩)] ∧ 1440 ≤ (⟨5, false, 1, 0, false, false⟩ : Weak).age weakened.setTicks ∧
    (weakened.chan 287).lastSlot.isSome = true ∧ (run.chan 287).lapSlow = false ∧
    ((setObs [(0xA000, 1, 1), (0x411E, 1, 0)] run).gleanNext 286).isSome = true ∧
    run.elapsed (run.chan 286).lapStart (run.ob 0xA000 2 * msT) = true := by decide +kernel

/-- A request's read that is back, also with its slice out of service; a fill; a restored line; an alert on a RD; a record to write. -/
def arrived : State := withAsks [fillAsk] (flying (.ask 3) true)
def filling : State := served (fun x => { x with flights := [flight (.fill 1) true]
                                                 wq := [{ wrEntry (.ask 3) with mask := 1, partial_ := true, data := 9 }] }) run
def restoring : State := { reading with far := { reading.far with restored := [⟨287, 1, some (7, 0)⟩] } }
def alerting : State := served (fun x => { x with issued := [⟨run.ck - 31, .rd 15 15 31 false, 1⟩] }) run
def toPlace : State := served (fun x => { x with recs := [⟨1, 128, loc0, [], .write, true, 1, none, false, some (7, 0), false, false⟩] }) run
theorem witness_ReadsAndWritesReturn_single : arrived.still = true ∧ (∀ p ∈ arrived.path.chans, p.2.move = none) ∧
    arrived.flightDue 287 (fun w => !isFill w && !isReread w) = some (flight (.ask 3) true) ∧
    (flight (.ask 3) true).line = some (0, 0) ∧ lineBad (0, 0) = false ∧ fillAsk.sealed = false ∧ arrived.cacheable fillAsk = true ∧
    (setObs [(0x2510, 1, 4)] arrived).cacheable fillAsk = false ∧ fillAsk.uncached = false ∧
    filling.flightDue 287 isFill = some (flight (.fill 1) true) ∧ ((filling.chan 287).wq.find? fun w => w.wid == 1).isSome = true ∧
    filling.still = true ∧ reading.still = true ∧ ((reading.chan 287).rec? 1).isSome = true ∧ (unconf .heal).still = true ∧
    ((alerting.chan 287).issued.find? fun i => i.ck + 31 == alerting.ck) = some ⟨run.ck - 31, .rd 15 15 31 false, 1⟩ ∧
    (alerting.chan 287).alerts = [] ∧ alerting.still = true ∧ restoring.still = true ∧
    restoring.far.restored = [⟨287, 1, some (7, 0)⟩] ∧ ((restoring.chan 287).rec? 1).map (·.readers) = some [] ∧
    doneAsk.delivered = false ∧ doneAsk.stage = .finished ∧ doneAsk.side.port = .tile 255 ∧
    (withAsks [doneAsk] (unconf (.ask 3))).confirmable 287 (fun w => !isHeal w) = some ⟨wrEntry (.ask 3), 0⟩ ∧
    toPlace.path.chans.map (·.1) = [287] ∧ (toPlace.chan 287).move = none ∧ (toPlace.chan 287).recWait = [] ∧
    toPlace.urgentRoom 287 = true ∧ toPlace.power.halting = false := by decide +kernel

def moveOf (stage : Nat) (retire : Bool) : Move :=
  ⟨15, 15, 4095, retire, 0, none, List.replicate 8 (some (0, 0)), stage, [0, 1, 2, 3, 4, 5, 6, 7], false, []⟩
def moving (stage : Nat) (retire : Bool) : State := served (fun x => { x with move := some (moveOf stage retire) }) run
def wanting : State := served (fun x => { x with moves := [(15, 15, 4095, false)] }) run
/-- The channel before the last in a failed state, its sheaf's spare in another. -/
def lostChan (v spare : Nat) : State := setObs [(0x411E, 1, v), (0x411F, 1, spare)] run
def rebuilding (st : Nat) : State := setObs [(0xA003, 2, st)] (pth (fun p => { p with reconst := some ⟨286, 287, 0, false⟩ }) run)
theorem witness_RepairAndRecovery : invB run = true ∧ 287 < run.channels ∧ (run.chan 287).moves = [] ∧ (wanting.chan 287).move = none ∧
    (wanting.chan 287).moves = [(15, 15, 4095, false)] ∧ wanting.stewardUp = true ∧ wanting.slotRuns 287 = true ∧
    (wanting.chan 287).bare 15 15 4095 = false ∧ (wanting.chan 287).rowDepth 15 15 4095 < 2 ∧
    look 0 (bankIx 15 15) (wanting.chan 287).spares < 8 ∧ (wanting.chan 287).rq.length + 8 ≤ rqSize ∧
    rqSize < ((served (fun x => { x with rq := List.replicate 121 (rdEntry (.ask 3)) }) run).chan 287).rq.length + 8 ∧
    ((served (fun x => { x with rq := List.replicate 121 (rdEntry (.ask 3)) }) run).chan 287).move = none ∧ (run.chan 287).move = none ∧
    ((moving 0 true).chan 287).move = some (moveOf 0 true) ∧ (moving 0 true).retireGoal 287 15 15 4095 false = none ∧ (moving 0 false).slotRuns 287 = true ∧ ((moveOf 0 true).buffer.any Option.isNone) = false ∧
    ((moving 3 false).chan 287).move = some (moveOf 3 false) ∧ (moving 3 false).moveWritten 287 (moveOf 3 false) = true ∧ (moving 3 false).stewardUp = true ∧
    ((moving 3 false).chan 287).weak = [] ∧ (moveOf 3 false).target = none ∧ ((moving 0 true).stewardUp = true) ∧
    (lostChan 2 4).applies own 0xA003 1 (leBytes 2 286) = true ∧ isSpare 286 = false ∧ (lostChan 2 4).chanState 286 = 2 ∧
    (lostChan 2 4).chanState (spareFor 286) = 4 ∧ (lostChan 2 4).path.reconst = none ∧
    (rebuilding 1).path.reconst = some ⟨286, 287, 0, false⟩ ∧ (rebuilding 1).ob 0xA003 2 = 1 ∧ ((rebuilding 1).chan 287).move = none ∧
    ((rebuilding 1).chan 287).moves = [] ∧ (rebuilding 2).ob 0xA003 2 = 2 ∧ (rebuilding 2).elapsed 0 fillTime = true ∧ (286 : Nat) ≠ 287 ∧
    (setObs [(0x411E, 2, 287)] (lostChan 3 5)).applies own 0xA003 5 (leBytes 2 286) = true ∧
    (setObs [(0x411E, 2, 287)] (lostChan 3 5)).servedBy 286 = spareFor 286 ∧ (lostChan 3 5).chanState 286 = 3 ∧ run.path.copyBack = none ∧
    (pth (fun p => { p with copyBack := some ⟨286, 287, 0, false⟩ }) run).path.copyBack = some ⟨286, 287, 0, false⟩ ∧
    run.path.journalA = true ∧ run.path.journalB = true ∧ run.recovering = false ∧ run.power.node = .run ∧
    (pth (fun p => { p with journalB := false }) run).path.journalB = false := by decide +kernel

def retiring : State := (lostChan 0 4).modChan 286 fun x => { x with move := some (moveOf 0 true) }
theorem witness_RepairAndRecovery_effects : retiring.still = true ∧ (∀ p ∈ retiring.path.chans, p.1 = 286) ∧
    (retiring.chan 286).move = some (moveOf 0 true) ∧ retiring.retireGoal 286 15 15 4095 false = some (287, 4095) ∧
    retiring.stewardUp = true ∧ (moving 3 false).still = true ∧ (∀ p ∈ (moving 3 false).path.chans, p.1 = 287) ∧
    (rebuilding 2).path.asks = [] ∧ (rebuilding 2).far.waiting = [] := by decide +kernel
/-- A soft repair at one of its stages, in a slot that carries a repair. -/
def mending (k : Nat) : State := served (fun x => { x with move := some (moveOf k false), lastSlot := some (run.slotOf 287) }) run
theorem witness_RepairAndRecovery_softRepair : (mending 0).slotRuns 287 = true ∧ ((mending 0).chan 287).move = some (moveOf 0 false) ∧
    (mending 0).stewardUp = true ∧ (mending 0).repairSlot 287 15 15 = true ∧ (mending 0).repairRow 287 (.preLayer 15) = true ∧
    (mending 1).repairRow 287 (.mrw 15 0x18 0) = true ∧ (mending 2).repairCol 287 (.rpr 15 15 4095) = true ∧
    (∀ b, b < 16 → ((mending 1).chan 287).time.row (bankIx 15 b) = none) ∧
    (∀ b, b < 16 → ((mending 2).chan 287).time.row (bankIx 15 b) = none) ∧ (moveOf 3 false).written = List.range 8 ∧
    (setObs [(0x411F, 1, 2)] (mending 0)).slotRuns 287 = false := by decide +kernel

def ht (f : Heat → Heat) (s : State) : State := { s with heat := f s.heat }
/-- The last sensor of a node's one stack reads a temperature, and three others are excluded. -/
def heated (v : Int) (s : State) : State :=
  (setObs [(0x9014, 1, 1), (0x9014, 2, 1), (0x9014, 3, 1)] (small s)).setSensor (sensorKey 0 143) { Sensor.reset with value := v, has := true, at_ := s.now }
def flagged (n : NodeState) : State :=
  let s := asleep 287 (lone n)
  s.setDie 3 15 { s.die 3 15 with flag := true }
theorem witness_ThermalReadings : invB run = true ∧ 3 < run.cfg.nstacks ∧ 287 < run.channels ∧ boot.stewardUp = true ∧
    ({ run with procs := { run.procs with steward := ⟨true, some 0⟩ } } : State).stewardUp = false ∧
    ((run.setSensor (logicKey 0) { Sensor.reset with at_ := run.now }).sensor (logicKey 0)).at_ ≠ 0 ∧
    run.elapsed run.now (10 * usTicks) = false ∧ run.comparing = true ∧ (run.sensor (logicKey 0)).at_ = 0 ∧
    (List.replicate 16 511).length = 16 ∧ (List.replicate 16 511)[15]? = some 511 ∧ (-160 ≤ signed 16 511 ∧ signed 16 511 ≤ 511) ∧
    511 < signed 16 512 ∧ run.power.node ≠ .halted ∧
    run.elapsed (max (run.sensor (sensorKey 3 143)).at_ run.power.resetAt) (run.readLimit 3) = true ∧
    (heated 300 run).elapsed (max ((heated 300 run).sensor (sensorKey 0 143)).at_ run.power.resetAt) ((heated 300 run).readLimit 0) = false ∧
    run.elapsed (max (run.sensor (logicKey 15)).at_ run.power.resetAt) (run.readLimit 255) = true ∧
    cfg.applies own 0x9018 2 (leBytes 2 15) = true ∧ (logicNumbers.filter (15 : Nat).testBit).length ≤ 4 ∧
    cfg.applies own 0x9018 2 (leBytes 2 31) = true ∧ 4 < (logicNumbers.filter (31 : Nat).testBit).length ∧ cfg.reduced = false ∧
    cfg.nvm.usable = true ∧ cfg.applies own (0x9014 + 3) 3 (leBytes 8 (2 ^ 15)) = true ∧ excludeDepends (fun k => k == 143) = false ∧
    excludeDepends (fun k => k == 143 || k == 135) = true ∧
    (ht (fun h => { h with tripAt := 1 }) run).elapsed (1 - 1) (2 * usTicks) = true ∧ run.halted 3 = false ∧ hotHalt.halted 3 = true ∧
    hotHalt.stewardUp = true ∧ hotHalt.elapsed (look 0 3 hotHalt.heat.checkedAt) msT = true ∧ (inRefresh.dch (9 * 31 + 8)).selfRef.isSome = true ∧
    inRefresh.clockFull (9 * 31 + 8) = true ∧ inRefresh.chanState (9 * 31 + 8) ≠ 2 ∧
    inRefresh.elapsed (inRefresh.chan (9 * 31 + 8)).sreAt srMin = true ∧ (run.dch 287).selfRef = none ∧ isSpare 287 = true ∧
    ((flagged .rest).dch 287).selfRef.isSome = true ∧ ((flagged .rest).die (stackOf 287) 15).flag = true ∧ 15 % 8 = sheafOf 287 % 8 ∧
    (flagged .rest).power.node = .rest ∧ (setObs [(0x900B, 1, 4)] (flagged .run)).halted (stackOf 287) = true := by decide +kernel

theorem witness_ThermalReadings_levels : (heated 440 run).tripCause = some ⟨1, 0, 143, 440⟩ ∧
    (heated 440 run).heat.tripped = false ∧ (heated 400 run).tripCause = none ∧ (heated 400 run).stackTemp 0 = some 400 ∧
    (heated 420 run).tripCause = none ∧ (heated 420 run).stackTemp 0 = some 420 ∧ (heated 420 run).level 0 < 4 := by decide +kernel
/-- The same after frame 0. -/
def hotBegun (v : Int) : State := pl (fun p => { p with begun := true }) (heated v run)
theorem witness_ThermalReadings_begun : off.comparing = false ∧ (hotBegun 400).tripCause = none ∧ (hotBegun 400).plans.begun = true ∧
    (∀ u, u < (hotBegun 400).cfg.nstacks → (hotBegun 400).level u < 4 ∧ (hotBegun 400).stackTemp u = some 400) ∧
    (heated 400 run).plans.begun = false ∧ (heated 400 run).heat.tripAt = 0 ∧ (heated 400 run).power.node ≠ .halted ∧
    (hotBegun 420).comparing = true ∧ (hotBegun 420).tripCause = none ∧ (hotBegun 420).level 0 < 4 ∧ (hotBegun 420).stackTemp 0 = some 420 ∧
    (ht (fun h => { h with checkedAt := [(3, run.now)] }) hotHalt).elapsed run.now msT = false ∧ run.chanState (9 * 30 + 8) ≠ 6 ∧
    inRefresh.chanState (9 * 31 + 8) = 6 ∧ inRefresh.srxAllowed (9 * 31 + 8) = true ∧ leaving.chanState (9 * 31 + 8) = 6 ∧
    (leaving.dch (9 * 31 + 8)).selfRef = none ∧ (leaving.chan (9 * 31 + 8)).draining = none ∧
    within (rowCk (leaving.slotOf (9 * 31 + 8))) 240 (leaving.chan (9 * 31 + 8)).time.srx = false := by decide +kernel

def levelled (v : Nat) (s : State) : State := setObs [(0x9008, 1, v)] s
theorem witness_ThrottleGraceAndRecord : invB run = true ∧ 3 < run.cfg.nstacks ∧ 4 ≠ run.level 3 ∧ run.heat.requests = [] ∧
    run.heat.unanswered = false ∧ (ht (fun h => { h with requests := [0] }) run).heat.requests ≠ [] ∧
    (ht (fun h => { h with requests := [0] }) run).elapsed 0 (100 * usTicks) = true ∧
    2 ≤ (levelled 2 run).level 0 ∧ look 0 3 (ht (fun h => { h with grace := [(3, 7)] }) run).heat.grace ≠ 0 ∧
    look 0 3 (ht (fun h => { h with grace := [(3, 7)] }) run).heat.grace ≤ run.now + 1 ∧ look 0 3 run.heat.grace = 0 ∧
    (setObs [(0x900B, 5, 0)] run).ob (stackIdx 3) 5 = 0 ∧ look 0 3 (ht (fun h => { h with coolSince := [(3, 1)] }) run).heat.coolSince ≠ 0 ∧
    run.elapsed (1 - 1) (100 * msT) = true ∧ run.elapsed run.now (100 * msT) = false ∧
    (heated 407 (levelled 4 run)).stackTemp 0 = some 407 ∧ (heated 408 (levelled 4 run)).stackTemp 0 = some 408 ∧
    (heated 408 (levelled 4 run)).level 0 = 4 ∧ run.stewardUp = true ∧ run.heat.tripped = false ∧ run.power.node ≠ .halted ∧
    (ht (fun h => { h with recordDue := true }) run).heat.recordDue = true ∧ run.canRecord 3 = true ∧ run.heat.recordDue = false ∧
    (nv (fun n => { n with usable := false }) run).canRecord 3 = false ∧ cfg.power.node = .config ∧ (nv (fun n => { n with shutdown := [1] }) cfg).nvm.shutdown ≠ [] ∧ cfg.heat.cooled = false ∧
    (ht (fun h => { h with coolFrom := 1 }) cfg).heat.coolFrom ≠ 0 ∧ cfg.elapsed (1 - 1) secT = true ∧ run.power.node ≠ .config ∧
    run.applies own 0x9020 2 [1] = true := by decide +kernel
/-- The acknowledgement toggled just now, and the middle of a frame. -/
def toggled : State := { run with pins := { run.pins with throttleAck := ⟨1, run.now, true⟩ } }
def midFrame : State := { hotBegun 420 with now := run.now + 100 * usTicks }
theorem witness_ThrottleGraceAndRecord_moments : run.pins.throttleAck.ever = false ∧ toggled.pins.throttleAck.ever = true ∧
    toggled.elapsed toggled.pins.throttleAck.at_ (10 * usTicks) = false ∧ midFrame.atBoundary = false ∧ begun.atBoundary = true ∧
    (levelled 4 midFrame).level 0 = 4 ∧ (levelled 4 midFrame).stackTemp 0 = some 420 := by decide +kernel

def trn (f : Train → Train) (s : State) : State := s.modTr 287 f
/-- The last channel at a stage of its training. -/
def trainingAt (v : Nat) (f : Train → Train) (s : State) : State := trn f (setObs [(0x411F, 0x40, v)] s)
theorem leBytes_leNat : ∀ l : List Byte, leBytes l.length (leNat l) = l
  | [] => rfl
  | b :: l => by
    have h : (b.toNat + 256 * leNat l) / 256 = leNat l := by have := b.isLt; omega
    have g : BitVec.ofNat 8 (b.toNat + 256 * leNat l) = b := by
      apply BitVec.eq_of_toNat_eq; simp only [BitVec.toNat_ofNat]; have := b.isLt; omega
    simp only [List.length_cons, leBytes, leNat, h, g, leBytes_leNat l]
theorem witness_TrainingAtStart : invB cfg = true ∧ 287 < cfg.channels ∧ (trainingAt 2 (fun t => { t with began := 1 }) cfg).ob (chanIdx 287) 0x40 = 2 ∧
    ((trainingAt 2 (fun t => { t with began := 1 }) cfg).tr 287).began ≠ 0 ∧ cfg.elapsed 1 (500 * msT) = true ∧
    cfg.elapsed cfg.now (500 * msT) = false ∧ fallback 0 = some (0, none) ∧ fallback (2 ^ 18 - 1) = none ∧
    ((trainingAt 2 (fun t => { t with timeouts := 1 }) cfg).tr 287).timeouts ≠ 0 ∧ cfg.ob (chanIdx 287) 0x40 ≠ 2 ∧
    (trainingAt 1 id cfg).ob (chanIdx 287) 0x40 = 1 ∧ recordValid 287 ((trainingAt 1 id cfg).record 287) (trainingAt 1 id cfg) = false ∧
    (small cfg).cfg.nstacks = 1 ∧ (setObs [(0x4000, 0x40, 2)] cfg).trainingFull 0 = true ∧
    cfg.elapsed ((trainingAt 2 id cfg).tr 287).stepAt (50 * usTicks) = true ∧
    ((trainingAt 3 (fun t => { t with steps := [(3, 17, 5)], groups := [17], before := [(0x50 + 17, 9), (0x62, 8)] }) cfg).tr 287).steps ≠ [] ∧
    cfg.stewardUp = true ∧
    (setObs [(0x411F, 1, 2)] cfg).applies own (chanIdx 287) 0x4C [1] = true ∧ (setObs [(0x411F, 1, 2)] cfg).chanState 287 = 2 ∧
    (setObs [(0x411F, 1, 3)] cfg).chanState 287 ≠ 2 := by decide +kernel
theorem witness_TrainingAtStart_requests : ((setObs [(0x411F, 1, 2)] cfg).dch 287).selfRef = none ∧
    (∀ st, st < cfg.cfg.nstacks → st ≠ stackOf 287 → (setObs [(0x411F, 1, 2)] cfg).trainingFull st = false) ∧
    ((asleep 287 (setObs [(0x411F, 1, 2)] cfg)).dch 287).selfRef.isSome = true ∧ (asleep 287 (setObs [(0x411F, 1, 2)] cfg)).chanState 287 = 2 ∧
    (asleep 287 (setObs [(0x411F, 1, 2)] cfg)).applies own (chanIdx 287) 0x4C [1] = true ∧
    fallback ((0 ||| 2 ^ 18 / 2 ^ 18 ||| 0) % 2 ^ 18) = some (0, some 0) := by decide +kernel

def rounding (f : Train → Train) : State := trn f (served id run)
theorem witness_RetrainingAndMargins : invB (served id run) = true ∧ (served id run).ob (chanIdx 287) 0x40 = 3 ∧ (served id run).stewardUp = true ∧
    (served id run).roundDue 287 = true ∧ ((served id run).tr 287).round = false ∧ (served id run).slotRuns 287 = true ∧
    ((served id run).tr 287).margin = none ∧ (rounding fun t => { t with round := true, late := true }).roundDue 287 = true ∧
    (rounding fun t => { t with roundAt := run.now }).roundDue 287 = false ∧
    ((rounding fun t => { t with steps := [(3, 17, 5)] }).tr 287).steps = [(3, 17, 5)] ∧
    (rounding fun t => { t with steps := [(3, 17, 5)] }).setting 287 3 17 + 1 < 5 ∧ (rounding id).stewardUp = true ∧
    ({ rounding fun t => { t with steps := [(3, 17, 5)] } with procs := { run.procs with steward := { run.procs.steward with restart := some 0 } } } : State).stewardUp = false ∧
    (setSetting 287 3 17 7 (rounding id)).setting 287 3 17 = 7 ∧ (setSetting 287 3 17 4 (rounding id)).setting 287 3 17 + 1 = 5 ∧
    (rounding fun t => { t with steps := [(4, 17, 5)] }).setting 287 4 17 + 1 < 5 ∧
    ((rounding fun t => { t with round := true, groups := [17] }).tr 287).groups = [17] ∧ ((rounding id).tr 287).steps = [] ∧
    (rounding id).stepsTo 287 17 50 50 [] ≠ [] ∧ ((rounding id).tr 287).offline = none ∧
    2 ≤ look 0 16 ((rounding fun t => { t with bad := [(16, 2)] }).tr 287).bad ∧ ((rounding fun t => { t with offline := some 3 }).tr 287).offline.isSome = true := by
  decide +kernel
theorem witness_RetrainingAndMargins_steps : (rounding fun t => { t with steps := [(3, 17, 5)] }).setting 287 3 17 ≠ 5 ∧
    (setSetting 287 3 17 5 (rounding fun t => { t with steps := [(3, 17, 5)] })).setting 287 3 17 = 5 ∧
    ((setSetting 287 3 17 5 (rounding fun t => { t with steps := [(3, 17, 5)] })).tr 287).steps = [(3, 17, 5)] ∧
    (setSetting 287 3 17 5 (rounding fun t => { t with steps := [(3, 17, 5), (0, 17, 9)] })).setting 287 3 17 = 5 ∧
    (trainingAt 1 id cfg).ob (chanIdx 287) 0x40 = 1 ∧ ((rounding id).tr 287).steer = none ∧
    ((rounding fun t => { t with steer := some none }).tr 287).steer.isSome = true := by decide +kernel

/-! ### A training record that is valid: its version is whatever the ROM's is, so its check is proved and not evaluated -/

theorem crcBit_lt (c : Nat) (h : c < 2 ^ 32) : crcBit c < 2 ^ 32 := by
  unfold crcBit
  have h2 : c / 2 < 2 ^ 32 := by omega
  split
  · exact Nat.xor_lt_two_pow (by omega) (by decide)
  · omega
theorem crcByte_lt (c : Nat) (b : Byte) (h : c < 2 ^ 32) : crcByte c b.toNat < 2 ^ 32 := by
  have hb : b.toNat < 2 ^ 32 := lt_of_lt_of_le b.isLt (by decide)
  exact crcBit_lt _ (crcBit_lt _ (crcBit_lt _ (crcBit_lt _ (crcBit_lt _ (crcBit_lt _ (crcBit_lt _ (crcBit_lt _ (Nat.xor_lt_two_pow h hb))))))))
theorem crc32c_lt (l : List Byte) : crc32c l < 2 ^ 32 := by
  have : ∀ (l : List Byte) (c : Nat), c < 2 ^ 32 → l.foldl (fun c b => crcByte c b.toNat) c < 2 ^ 32 := by
    intro l
    induction l with
    | nil => intro c h; exact h
    | cons b l ih => intro c h; exact ih _ (crcByte_lt c b h)
  exact Nat.xor_lt_two_pow (this l _ (by decide)) (by decide)
theorem leNat_leBytes : ∀ (k n : Nat), n < 256 ^ k → leNat (leBytes k n) = n
  | 0, n, h => by simp only [leBytes, leNat]; omega
  | k + 1, n, h => by
    have h' : n / 256 < 256 ^ k := by rw [pow_succ] at h; omega
    simp only [leBytes, leNat, leNat_leBytes k _ h', BitVec.toNat_ofNat]; omega

/-- The first 508 bytes of a record of the last channel at a version, and the record. -/
def recordHead (m v : Nat) : List Byte :=
  leBytes 4 m ++ leBytes 2 1 ++ leBytes 2 287 ++ zeroBytes 8 ++ leBytes 8 (cfg.ob 0x3803 1) ++ zeroBytes 2 ++ leBytes 2 v ++ zeroBytes 480
def recordOf (m v : Nat) : List Byte := recordHead m v ++ leBytes 4 (crc32c (recordHead m v))
def recorded : State := nv (fun n => { n with training := [(287, leNat (recordOf 0x524E5254 (Config.trainingVersion (cfg.ob 0x1000 5)).toNat))] }) (trainingAt 1 id cfg)
theorem leBytes_length : ∀ k n : Nat, (leBytes k n).length = k
  | 0, _ => rfl
  | k + 1, n => by simp only [leBytes, List.length_cons, leBytes_length k]
theorem slice_middle (p x y : List Byte) : sliceBytes p.length x.length (p ++ (x ++ y)) = x := by
  simp [sliceBytes, fitBytes]
theorem slice_at (off k n : Nat) (p y l : List Byte) (hl : l = p ++ (leBytes k n ++ y)) (hp : p.length = off) (hn : n < 256 ^ k) :
    leNat (sliceBytes off k l) = n := by
  subst hl hp
  have h := slice_middle p (leBytes k n) y
  rw [leBytes_length] at h
  rw [h, leNat_leBytes k n hn]
theorem recordHead_length (m v : Nat) : (recordHead m v).length = 508 := by
  simp only [recordHead, List.length_append, leBytes_length, zeroBytes, List.length_replicate]
theorem recordOf_length (m v : Nat) : (recordOf m v).length = 512 := by
  simp only [recordOf, List.length_append, recordHead_length, leBytes_length]
theorem record_fields (m v : Nat) (z : List Byte) (hm : m < 256 ^ 4) (h16 : v < 256 ^ 2) (hd : cfg.ob 0x3803 1 < 256 ^ 8) :
    leNat (sliceBytes 0 4 (recordHead m v ++ z)) = m ∧ leNat (sliceBytes 4 2 (recordHead m v ++ z)) = 1 ∧
    leNat (sliceBytes 6 2 (recordHead m v ++ z)) = 287 ∧ leNat (sliceBytes 0x10 8 (recordHead m v ++ z)) = cfg.ob 0x3803 1 ∧
    leNat (sliceBytes 0x1A 2 (recordHead m v ++ z)) = v ∧ (recordHead m v ++ z).take 508 = recordHead m v := by
  let h : List Byte := leBytes 4 m ++ leBytes 2 1 ++ leBytes 2 287 ++ zeroBytes 8
  have a : leNat (sliceBytes 0x1A 2 (recordHead m v ++ z)) = v :=
    slice_at 0x1A 2 v (h ++ leBytes 8 (cfg.ob 0x3803 1) ++ zeroBytes 2) (zeroBytes 480 ++ z) _
      (by simp [recordHead, h]) (by simp [h, leBytes_length, zeroBytes]) h16
  have c : (recordHead m v ++ z).take 508 = recordHead m v := List.take_left' (recordHead_length m v)
  have d : leNat (sliceBytes 0x10 8 (recordHead m v ++ z)) = cfg.ob 0x3803 1 :=
    slice_at 0x10 8 _ h (zeroBytes 2 ++ leBytes 2 v ++ zeroBytes 480 ++ z) _
      (by simp [recordHead, h]) (by simp [h, leBytes_length, zeroBytes]) hd
  have e : leNat (sliceBytes 0 4 (recordHead m v ++ z)) = m :=
    slice_at 0 4 _ [] (leBytes 2 1 ++ leBytes 2 287 ++ zeroBytes 8 ++ leBytes 8 (cfg.ob 0x3803 1) ++ zeroBytes 2 ++ leBytes 2 v ++ zeroBytes 480 ++
      z) _ (by simp [recordHead]) rfl hm
  have f : leNat (sliceBytes 4 2 (recordHead m v ++ z)) = 1 :=
    slice_at 4 2 _ (leBytes 4 m) (leBytes 2 287 ++ zeroBytes 8 ++ leBytes 8 (cfg.ob 0x3803 1) ++ zeroBytes 2 ++ leBytes 2 v ++ zeroBytes 480 ++
      z) _ (by simp [recordHead]) (leBytes_length 4 _) (by decide)
  have g : leNat (sliceBytes 6 2 (recordHead m v ++ z)) = 287 :=
    slice_at 6 2 _ (leBytes 4 m ++ leBytes 2 1) (zeroBytes 8 ++ leBytes 8 (cfg.ob 0x3803 1) ++ zeroBytes 2 ++ leBytes 2 v ++ zeroBytes 480 ++
      z) _ (by simp [recordHead]) (by simp [leBytes_length]) (by decide)
  exact ⟨e, f, g, d, a, c⟩
theorem record_check (m v : Nat) : leNat (sliceBytes 508 4 (recordOf m v)) = crc32c (recordHead m v) :=
  slice_at 508 4 _ (recordHead m v) [] _ (by simp only [recordOf, List.append_nil]) (recordHead_length m v) (crc32c_lt _)
theorem blank_magic (n : Nat) : leNat (sliceBytes 0 4 (leBytes (n + 4) 0)) = 0 := by
  simp [leBytes, sliceBytes, fitBytes, leNat]
theorem look_second (m : Nat) (s : State) : look 0 (copyKey 287 true) (nv (fun n => { n with training := [(287, m)] }) s).nvm.training = 0 := rfl
theorem look_training (m : Nat) (s : State) : look 0 287 (nv (fun n => { n with training := [(287, m)] }) s).nvm.training = m := rfl
theorem recorded_copy : recorded.recordCopy 287 false = recordOf 0x524E5254 (Config.trainingVersion (cfg.ob 0x1000 5)).toNat := by
  have h := leBytes_leNat (recordOf 0x524E5254 (Config.trainingVersion (cfg.ob 0x1000 5)).toNat)
  rw [recordOf_length] at h
  have hk : look 0 (copyKey 287 false) recorded.nvm.training = leNat (recordOf 0x524E5254 (Config.trainingVersion (cfg.ob 0x1000 5)).toNat) :=
    look_training _ _
  rw [State.recordCopy, hk, h]
theorem blank_copy (s : State) (c : Nat) (b : Bool) (h : look 0 (copyKey c b) s.nvm.training = 0) : recordValid c (s.recordCopy c b) s = false := by
  rw [State.recordCopy, h, recordValid, blank_magic 508]; rfl
theorem recorded_blank : recordValid 287 (recorded.recordCopy 287 true) recorded = false := blank_copy _ _ _ (look_second _ _)
theorem record_first (s : State) (c : Nat) (h : recordValid c (s.recordCopy c true) s = false) : s.record c = s.recordCopy c false := by
  rw [State.record]; simp only [h, Bool.false_and, Bool.false_eq_true, if_false]
theorem witness_TrainingAtStart_record : recorded.ob (chanIdx 287) 0x40 = 1 ∧ recordValid 287 (recorded.record 287) recorded = true := by
  refine ⟨by decide +kernel, ?_⟩
  have hr := (record_first _ _ recorded_blank).trans recorded_copy
  have ho : recorded.ob 0x3803 1 = cfg.ob 0x3803 1 := by decide +kernel
  have hv : recorded.ob 0x1000 5 = cfg.ob 0x1000 5 := by decide +kernel
  have hd : cfg.ob 0x3803 1 < 256 ^ 8 := by decide +kernel
  have k : 0x3800 + stackOf 287 = 0x3803 := by decide
  rw [hr, recordValid, k, ho, hv]
  have b := record_check 0x524E5254 (Config.trainingVersion (cfg.ob 0x1000 5)).toNat
  obtain ⟨e, f, g, d, a, c⟩ := record_fields 0x524E5254 _ (leBytes 4 (crc32c (recordHead 0x524E5254 (Config.trainingVersion (cfg.ob 0x1000 5)).toNat)))
    (by norm_num) (Config.trainingVersion (cfg.ob 0x1000 5)).isLt hd
  rw [← recordOf] at a c d e f g
  simp only [a, b, c, d, e, f, g, beq_self_eq_true, Bool.and_self]

def far (f : Far → Far) (s : State) : State := { s with far := f s.far }
def bale0 : Bale := ⟨0, [], true, 0, [], false, [], 0, 0, 0⟩
/-- A node of one stack with its far tier up: one device, its ledger in region 1,023. -/
def farNode (f : Far → Far) : State := far f (setObs [(0x2123, 255, 2 ^ 63 + 2 * 2 ^ 60), (0x5C00, 1, 1), (0x5C00, 2, 2 ^ 21)] (small run))
def fullBale : Bale := { bale0 with lines := (List.range 128).map fun i => (i, some (0, 0)) }
def readBale (n : Nat) : Bale := { bale0 with readers := [.ask 3 7], tries := n }
def holding (x : Bale) : State := farNode fun f => { f with bales := [x] }
/-- A descriptor of one bale's fetch, with and without a wait, and queues of transfers. -/
def move0 (running : Bool) : Transfer := ⟨0, [0, 0, 0, 0], running, 1, [], 0, 0, true⟩
def waitingMove : Transfer := ⟨0, [0, 0, 2 ^ 31 + 2 ^ 14 + 5 * 2 ^ 32, 0], false, 0, [], 0, 0, false⟩
/-- A descriptor of one bale of granule 1, of world 0 and context 0, that goes to the far tier. -/
def submitted : Transfer := ⟨0, [2 ^ 21, 0, 0, 0], false, 0, [], 0, 0, false⟩
theorem witness_FarTierPort : invB (holding bale0) = true ∧ run.far.bales = [] ∧ (holding bale0).far.bales = [bale0] ∧ bale0.dirty = true ∧
    (holding bale0).elapsed 0 (run.ob 0x5C00 4 * nsT) = true ∧ (holding fullBale).farUp = true ∧ fullBale.full = true ∧
    FarReader.merge ∉ fullBale.readers ∧ ((holding fullBale).ledgerLine 0).isSome = true ∧ run.bale? 0 = none ∧
    (holding { bale0 with writing := true }).bale? 0 = some { bale0 with writing := true } ∧ run.baleReading 0 = false ∧
    (holding (readBale 1)).baleReading 0 = true ∧ (holding (readBale 1)).bale? 0 = some (readBale 1) ∧ (readBale 2).tries ≠ 1 ∧
    (holding (readBale 1)).elapsed 0 (100 * usTicks) = true ∧ run.applies own 0x5C10 1 (zeroBytes 32) = true ∧
    (farNode fun f => { f with transfers := [move0 true] }).far.transfers = [move0 true] ∧
    (farNode fun f => { f with transfers := [move0 false] }).far.transfers.find? (fun x => !x.running) = some (move0 false) ∧
    bit 31 ((move0 false).word 2) = false ∧ bit 31 (waitingMove.word 2) = true ∧
    syncNode (bits 16 0 (waitingMove.word 2)) ≠ run.me ∧ 4 < bits 63 32 (waitingMove.word 2) ∧
    (farNode fun f => { f with transfers := [move0 true] }).transfer? 0 = some (move0 true) ∧ (move0 true).ended = true ∧ ((farNode id).begun own).transferReason submitted = 0 ∧ (farNode id).applies own 0x5C10 1 (leBytes 32 (2 ^ 21)) = true ∧
    (farNode fun f => { f with transfers := List.replicate 64 (move0 false) }).far.transfers.length = 64 ∧
    (run.begun own).transferReason submitted ≠ 0 ∧
    bit 30 ((move0 true).word 2) = false ∧ (move0 true).failed = true ∧ run.far.zeroing = false ∧
    (farNode fun f => { f with zeroing := true }).far.zeroing = true ∧ run.ob 0x5C00 2 = 0 ∧ run.ledgerBase = none ∧ (farNode id).ob 0x5C00 2 ≠ 0 ∧ (farNode id).ledgerBase.isSome = true ∧
    run.farUp = false ∧ run.applies own 0x5C00 0x0D [1] = true ∧ (setObs [(0x5C00, 1, 2)] run).applies own 0x5C00 0x0D [1] = true ∧
    (setObs [(0x5C00, 1, 2)] run).farState = 2 ∧ run.farState ≠ 2 := by decide +kernel

/-- A full bale to write whose version stands in the ledger, and a bale that one request waits for. -/
def ledgered : State := putStored 0 0 (0, 0) (holding fullBale)
def fetching : State := withAsks [sentAsk] (farNode fun f => { f with bales := [{ readBale 2 with dirty := false }] })
theorem witness_FarTierPort_effects : ledgered.far.waiting = [] ∧ ledgered.power.halting = false ∧
    (∀ p ∈ ledgered.path.chans, p.2.recWait = [] ∧ p.2.recs = []) ∧ ledgered.ledgerEntry 0 = .version 0 ∧ ledgered.ledgerLine 0 = some 0 ∧
    ledgered.far.bales = [fullBale] ∧ ledgered.far.transfers = [] ∧ ledgered.farUp = true ∧
    (ledgered.chan (ledgered.place 0).c).wq.length < wqSize ∧ fetching.path.asks = [sentAsk] ∧ fetching.baleReading 0 = true ∧
    (readBale 2).readers = [.ask sentAsk.id 7] ∧ look none 7 (readBale 2).lines = none ∧
    (farNode fun f => { f with transfers := [submitted] }).farUp = true ∧ bit 31 (submitted.word 2) = false ∧
    (farNode fun f => { f with transfers := [submitted] }).far.bales = [] ∧ ({ move0 true with failed := false } : Transfer).ended = true := by
  decide +kernel

/-- A descriptor of the last granule of a node of four stacks, one with a role that no descriptor has, and one of another world. -/
def descOk : List Byte := leBytes 32 (2 ^ 63 + 0x1FFFF)
def descBad : List Byte := leBytes 32 (2 ^ 63 + 3 * 2 ^ 60)
def descWorld : List Byte := leBytes 32 (2 ^ 63 + 2 ^ 62)
def whyOf (r : Req) (s : State) (v : List Byte) : Nat :=
  let t := s.begun r
  regionReason 1023 (t.region 1023) (decodeRegion (leNat v)) (s.isOwner r) (t.regionBreaks 1023 (leNat v)) t
theorem witness_RegionDescriptors : cfg.applies own (regionIdx 1023) (regionSub 1023) descOk = true ∧
    (cfg.begun own).mgmt.pendingTide = [] ∧ whyOf own cfg descOk = 0 ∧ whyOf own run descOk = 0 ∧
    run.applies own (regionIdx 1023) (regionSub 1023) descOk = true ∧ cfg.applies own (regionIdx 1023) (regionSub 1023) descBad = true ∧
    whyOf own cfg descBad = 1 ∧ cfg.applies win (regionIdx 1023) (regionSub 1023) descWorld = true ∧ whyOf win cfg descWorld = 7 ∧
    run.power.node ≠ .config ∧ cfg.power.node = .config := by decide +kernel

def ck (f : Clocks → Clocks) (s : State) : State := { s with clk := f s.clk }
def counting (m : Nat) : State := run.setSource m (.counting 0)
def domainAt (v : Nat) (s : State) : State := setObs [(0xB010, 32, v)] s
def srcOff (m : Nat) (s : State) : State := s.setSource m .off
theorem witness_ClockSourcesAndDomains : invB run = true ∧ run.isSource 0x33 = true ∧ run.isSource (srcSheaf 31) = true ∧ 31 < run.sheaves ∧
    ((counting 0x33).source 0x33).since = some 0 ∧ (counting 0x33).elapsed 0 (stableTime 0x33) = true ∧ (counting 0x33).reference 0x33 = true ∧
    (run.setSource 0x33 (.counting run.now)).elapsed run.now (stableTime 0x33) = false ∧ (run.source 0x33).since = none ∧
    (domainAt 0 run).domain 31 % 256 = 0 ∧ run.waits 31 = false ∧ run.stable srcRefB = true ∧ (srcOff srcRefB run).stable srcRefB = false ∧
    run.elapsed run.power.vkeepAt (2621440 * nsT) = true ∧ run.ob 0xB001 5 = 0 ∧ run.stable srcRefA = true ∧
    (srcOff srcKeeperPll run).source srcKeeperPll = .off ∧ (domainAt (256 * 8 + 1) run).domain 31 % 256 = 1 ∧ run.stable (srcSheaf 31) = true ∧
    run.elapsed run.clk.refAFrom (655360 * nsT) = true ∧ (domainAt (256 * (62 + 2) + 2) run).domain 31 = 256 * (62 + 2) + 2 ∧
    run.elapsed (look 0 31 run.clk.stepped) usTicks = true ∧ (ck (fun c => { c with stepped := [(31, run.now)] }) run).elapsed run.now usTicks = false ∧
    (domainAt (256 + 2) run).domain 31 = 256 + 2 ∧ 1 < (ck (fun c => { c with keeperDiv := 64 }) run).clk.keeperDiv ∧
    look none 31 run.clk.waiting = none ∧ look none 31 (ck (fun c => { c with waiting := [(31, some 0)] }) run).clk.waiting = some 0 ∧
    run.elapsed 0 (run.fallbackLimit 31) = true ∧ halted.power.node = .halted ∧
    look none 31 (ck (fun c => { c with waiting := [(31, some 0)] }) halted).clk.waiting = some 0 ∧ run.elapsed run.now (run.fallbackLimit 31) = false ∧ (srcOff 0x33 run).stable 0x33 = false ∧
    run.stable 0x33 = true ∧ run.stable (partnerSource 0x33) = true ∧ run.countBad srcFo 4096 = false ∧ run.countBad srcFo 0 = true ∧
    srcFo ≠ 7 ∧ run.stable 4 = true ∧ (srcOff srcRefA run).stable srcRefA = false ∧ (srcOff srcRefA run).countBad 4 0 = true ∧
    (srcOff srcRefA run).stable (partnerSource 4) = true ∧ look 0 31 run.clk.pllTrip = 0 ∧
    look 0 31 (ck (fun c => { c with pllTrip := [(31, 1)] }) run).clk.pllTrip ≠ 0 ∧ run.elapsed (1 - 1) (40 * msT) = true ∧
    25000 ≠ 0 ∧ run.stable srcKso = true ∧ run.trimChoice false = true ∧ run.ob 0xB001 2 ≤ 255 ∧
    (srcOff srcKso run).stable srcKso = false ∧ (srcOff srcRefB run).clk.trimStale = false ∧
    (srcOff srcRefB run).elapsed run.clk.trimAt (10 * secT) = true := by decide +kernel

/-- A node in CONFIG whose last sheaf carries nothing. -/
def idleSheaf : State := setObs ((List.range 9).map fun k => (0x4117 + k, 1, 2)) cfg
def slackIn (v : Nat) (f : Plans → Plans) : State := pl f (setObs [(0xB000, 3, v)] run)
/-- Slack that has been easy, and cool logic. -/
def easing : State := (ck (fun c => { c with easySince := 1 }) run).setSensor (logicKey 0) { Sensor.reset with value := 100, has := true, at_ := run.now }
theorem witness_SlackEnablesAndCrossings : invB run = true ∧ run.hasCrossing (.feed 255) = true ∧ run.hasCrossing (.rt 7) = true ∧
    run.hasCrossing (.sheaf 31) = true ∧ run.hasCrossing .far = true ∧ (pow (fun p => { p with vcore := false }) run).power.vcore = false ∧
    (ck (fun c => { c with slackAt := run.now }) run).elapsed run.now usTicks = false ∧ run.power.vcore = true ∧
    run.elapsed run.clk.slackAt usTicks = true ∧ run.clk.replicasOut = [] ∧ run.clk.replicas = [] ∧ run.clk.replicaAt = [] ∧
    run.ob 0xB000 3 = 0 ∧ (slackIn 2 fun p => { p with slackFrames := 64 }).ob 0xB000 3 ≠ 0 ∧
    64 ≤ (slackIn 2 fun p => { p with slackFrames := 64 }).plans.slackFrames ∧ (slackIn 1 id).pins.vreq ≠ 1 ∧ (slackIn 1 id).pins.vreqAt = 0 ∧
    easing.ob 0xB000 3 = 0 ∧ easing.easy = true ∧ easing.junction = some 100 ∧ easing.ob 0x2202 1 = 0 ∧ easing.pins.vreq ≠ 2 ∧
    easing.pins.vreqAt = 0 ∧ (run.easy = false ∨ run.ob 0x2202 1 ≠ 0) ∧
    ({ run with pins := { run.pins with vreq := 2 } } : State).pins.vreq ≠ 0 ∧
    cfg.applies own 0x2020 1 (leBytes 4 (2 ^ 32 - 1)) = true ∧ bit 31 ((setObs [(0x2020, 1, 0)] (small cfg)).ob 0x2020 1) = false ∧
    (small cfg).sheaves ≤ 31 ∧ (setObs [(0x2020, 1, 0)] (small cfg)).applies own 0x2020 1 (leBytes 4 (2 ^ 32 - 1)) = true ∧
    idleSheaf.applies own 0x2020 1 (leBytes 4 (2 ^ 31 - 1)) = true ∧ bit 31 (idleSheaf.ob 0x2020 1) = true ∧ idleSheaf.sheafBusy 31 = false ∧
    run.applies own 0x2020 1 (leBytes 4 (2 ^ 31 - 1)) = true ∧ run.sheafBusy 31 = true ∧
    cfg.applies own 0x2020 2 (leBytes 1 0x1F) = true ∧ bit 5 (cfg.ob 0x2020 2) = true ∧ bit 5 0x1F = false ∧
    cfg.applies own 0x2020 2 (leBytes 1 0x3F) = true ∧ crossingNumber .far ∉ run.clk.closed ∧
    crossingNumber .far ∈ (ck (fun c => { c with closed := [800] }) run).clk.closed := by decide +kernel

/-! ### The whole block -/

theorem canon_of {V : Type} [DecidableEq V] (d : Nat → V) : ∀ m : Store V, canonB d m = true → Canonical d m := by
  intro m h
  simp only [canonB, Bool.and_eq_true] at h
  refine ⟨?_, by simpa [List.all_eq_true] using h.2⟩
  have : ∀ m : Store V, risingB m = true → m.Pairwise (fun p q => p.1 < q.1) := by
    intro m
    induction m with
    | nil => intro _; exact .nil
    | cons p m ih =>
      intro h
      simp only [risingB, Bool.and_eq_true, List.all_eq_true, decide_eq_true_eq] at h
      exact .cons h.1 (ih h.2)
  exact this m h.1

/-- The evaluated invariant is the invariant. -/
theorem inv_of (s : State) (h : invB s = true) : s.Inv := by
  simp only [invB, Bool.and_eq_true, decide_eq_true_eq, List.all_eq_true] at h
  obtain ⟨⟨⟨⟨⟨⟨⟨⟨⟨⟨⟨⟨⟨a, b⟩, c⟩, d⟩, e⟩, f⟩, g⟩, i⟩, j⟩, k⟩, l⟩, m⟩, n⟩, o⟩ := h
  exact { stackCount := ⟨a, b⟩, objects := canon_of _ _ c, syncs := canon_of _ _ d, fills := ⟨canon_of _ _ e, f⟩, cells := canon_of _ _ g
          log := i, mirror := j, ring := k, sources := l, staged := m, sessions := n, samples := o }

theorem witness_StepKeepsInvariant : run.Inv ∧ ∃ t, step { run with pending := [.wsBypass, .layerSrx 0] } = .next t :=
  ⟨inv_of _ (by decide +kernel), _, rfl⟩
theorem witness_StepKeepsInvariant_idle : State.reset.Inv ∧ State.reset.pending = [] ∧ ∃ t, step State.reset = .next t :=
  ⟨inv_of _ (by decide +kernel), rfl, _, rfl⟩
theorem witness_ResetAndIdle : run.pending = [] ∧ run.mgmt.waiting = [] ∧ run.heat.tripAt = 0 := by decide +kernel
theorem witness_FrameOfEveryCommand : Part.now ∉ writes .wsBypass ∧ ∃ t, exec .wsBypass run = .next t := ⟨by decide +kernel, _, rfl⟩


/-! ### What well-formedness refuses -/

def badReq : Req := ⟨.session (2 ^ 32), 0⟩
def badHdr : Hdr := { hdr1 with dest := 8 }
def side0 : Side := ⟨.tile 0, 0, 0, 0, 0, 0, false, 0, 0, 0, false⟩
def badSide : Side := { side0 with cls := 16 }
def badRed : RedWord := { word0 with object := 2 ^ 17 }
/-- Commands with one operand each that its field cannot carry: one for each check of its arm. -/
theorem test_illFormed_1 :
    ([.warmReset badReq, .stateRequestReady badReq, .stateRequestRest badReq, .stateRequestDeep badReq, .unretainedChannelTimeout 288,
      .unretainedPoisonFillDone 288, .nodeRejoin badReq 0, .nodeRejoin own 8, .dictionaryWrite badReq 0 0 [], .dictionaryWrite own 65536 0 [],
      .dictionaryWrite own 0 256 [], .regionDescriptorWrite badReq 0 [], .regionDescriptorWrite own 1024 [], .planLoad badReq, .planArm badReq,
      .planStop badReq, .planDiscard badReq, .planDisarm badReq, .tideIntervalWrite badReq 0, .tideIntervalWrite own (2 ^ 32),
      .fenceClear badReq 0, .fenceClear own (2 ^ 64), .channelSlot 288 0, .channelSlot 0 4, .streamEnd 4096, .streamSeta 4096, .streamSetd 4096,
      .streamMove 4096, .streamSkip 4096, .streamMask 4096, .streamWait 4096, .streamSignal 4096, .streamRepeat 4096, .streamFmt 4096,
      .maskReadDone 4096, .waitSatisfied 4096, .drainBeat 256 0 none none, .drainBeat 0 4096 none none, .feedCreditReturn 256 0 0,
      .feedCreditReturn 0 4096 0, .feedCreditReturn 0 0 65536, .landedBeat 256 0, .landedBeat 0 4096, .upBeatDiscarded (.tile 256),
      .feedPortTimeout 256 true, .portReadyWithdrawn (.tile 256), .portReadyAsserted (.tile 256), .stallTimeout 4096, .fenceRequest badReq 0,
      .fenceRequest own (2 ^ 64)] : List Instr).all (fun i => !wellFormed i) = true := by decide +kernel
/-- Commands with one operand each that its field cannot carry: one for each check of its arm. -/
theorem test_illFormed_2 :
    ([.engineFault 64, .portRejoin badReq 0, .portRejoin own 256, .engineRejoin badReq 0, .engineRejoin own 64, .drainLineNarrowed 4096,
      .poolReset badReq 0, .poolReset own 1024, .beyondBoundClear badReq 0, .beyondBoundClear own 1024, .standingEntryWrite badReq 0 [],
      .standingEntryWrite own 64 [], .formatUnitFault 32, .unitRejoin badReq 0, .unitRejoin own 32, .openRead badSide 0, .openRead side0 (2 ^ 53),
      .openWrite badSide 0 0 0, .openWrite side0 (2 ^ 53) 0 0, .openWrite side0 0 (2 ^ 128) 0, .openWrite side0 0 0 (2 ^ 1024),
      .openWiden badSide 0 0 0, .openWiden side0 (2 ^ 53) 0 0, .openWiden side0 0 64 0, .openWiden side0 0 0 8,
      .atomicSwap badSide 0 0 true true 0, .atomicSwap side0 (2 ^ 53) 0 true true 0, .atomicSwap side0 0 128 true true 0,
      .atomicCas badSide 0 0 true true 0 0, .atomicCas side0 (2 ^ 53) 0 true true 0 0, .atomicCas side0 0 128 true true 0 0,
      .atomicAdd badSide 0 0 true true 0, .atomicAdd side0 (2 ^ 53) 0 true true 0, .atomicAdd side0 0 128 true true 0,
      .atomicAnd badSide 0 0 true true 0, .atomicAnd side0 (2 ^ 53) 0 true true 0, .atomicAnd side0 0 128 true true 0,
      .atomicOr badSide 0 0 true true 0, .atomicOr side0 (2 ^ 53) 0 true true 0, .atomicOr side0 0 128 true true 0,
      .atomicXor badSide 0 0 true true 0, .atomicXor side0 (2 ^ 53) 0 true true 0, .atomicXor side0 0 128 true true 0,
      .atomicSmin badSide 0 0 true true 0, .atomicSmin side0 (2 ^ 53) 0 true true 0, .atomicSmin side0 0 128 true true 0,
      .atomicSmax badSide 0 0 true true 0, .atomicSmax side0 (2 ^ 53) 0 true true 0, .atomicSmax side0 0 128 true true 0,
      .atomicUmin badSide 0 0 true true 0] : List Instr).all (fun i => !wellFormed i) = true := by decide +kernel
/-- Commands with one operand each that its field cannot carry: one for each check of its arm. -/
theorem test_illFormed_3 :
    ([.atomicUmin side0 (2 ^ 53) 0 true true 0, .atomicUmin side0 0 128 true true 0, .atomicUmax badSide 0 0 true true 0,
      .atomicUmax side0 (2 ^ 53) 0 true true 0, .atomicUmax side0 0 128 true true 0, .atomicFadd badSide 0 0 true true 0,
      .atomicFadd side0 (2 ^ 53) 0 true true 0, .atomicFadd side0 0 128 true true 0, .atomicFmin badSide 0 0 true true 0,
      .atomicFmin side0 (2 ^ 53) 0 true true 0, .atomicFmin side0 0 128 true true 0, .atomicFmax badSide 0 0 true true 0,
      .atomicFmax side0 (2 ^ 53) 0 true true 0, .atomicFmax side0 0 128 true true 0, .atomicIncwrap badSide 0 0 true true 0,
      .atomicIncwrap side0 (2 ^ 53) 0 true true 0, .atomicIncwrap side0 0 128 true true 0, .atomicRead badSide 0 0 true,
      .atomicRead side0 (2 ^ 53) 0 true, .atomicRead side0 0 128 true, .atomicFlush badSide 0 0 true, .atomicFlush side0 (2 ^ 53) 0 true,
      .atomicFlush side0 0 128 true, .reduce badSide 0 word0 0, .reduce side0 (2 ^ 53) word0 0, .reduce side0 0 badRed 0,
      .reduce side0 0 word0 (2 ^ 1024), .contributionApply (2 ^ 53), .syncRead badSide 0, .syncRead side0 (2 ^ 17), .syncSet badSide 0 0,
      .syncSet side0 (2 ^ 17) 0, .syncSet side0 0 (2 ^ 32), .syncAdd badSide 0 0, .syncAdd side0 (2 ^ 17) 0, .syncAdd side0 0 (2 ^ 32),
      .syncSignal badSide 0 0, .syncSignal side0 (2 ^ 17) 0, .syncSignal side0 0 (2 ^ 32), .syncWait badSide 0 0, .syncWait side0 (2 ^ 17) 0,
      .syncWait side0 0 (2 ^ 32), .syncReset badSide 0, .syncReset side0 (2 ^ 17), .syncObjectWrite badReq 0 0, .syncObjectWrite own 16384 0,
      .syncObjectWrite own 0 (2 ^ 64), .flushAll badReq, .sliceFault 16, .sliceTakenOver 16 true] : List Instr).all (fun i => !wellFormed i) = true := by decide +kernel
/-- Commands with one operand each that its field cannot carry: one for each check of its arm. -/
theorem test_illFormed_4 :
    ([.sliceRejoin badReq 0, .sliceRejoin own 16, .refreshIntervalTick 288 0, .refreshIntervalTick 0 256, .refreshClassChange 32,
      .selfRefreshEntry 288, .selfRefreshExit 288, .deepSegmentPoisonDone 288, .channelFault 288 true, .channelRecovered 288 true,
      .channelRecoveryTimeout 288, .channelRejoin badReq 0, .channelRejoin own 288, .fillReadReturn 288, .readReturn 288, .writeConfirm 288,
      .alertSampled 288 0, .missingDataBeats 288, .queueEntryGrant 288 true, .completionDelivery (.tile 256), .regulatorWindowStart 64,
      .panicInputTaken 8 0, .panicInputTaken 0 4, .panicStuck 8, .panicReleased 8, .degradeStepEnd 0, .degradeStepEnd 6, .recoveryRecordFreed 288,
      .rereadReturn 288, .restoreReadDone 288, .gleanerSlow 288, .trackerAgeExpiry 288, .healWriteConfirmed 288, .rowMoveStart 288,
      .rowMoveBufferComplete 288, .rowMoveConfirmed 288, .reconstitute badReq 0, .reconstitute own 288, .copyBack badReq 0, .copyBack own 288,
      .sensorNoReading 4 0, .sensorNoReading 0 144, .sensorExclude badReq true 0 0 0, .sensorExclude own true 4 0 0, .graceExpired 4,
      .graceRearm 4, .haltedSensorCheck 4, .trafficResumed 4, .shutdownClear badReq, .thermalFlagAlert 288 0] : List Instr).all (fun i => !wellFormed i) = true := by decide +kernel
/-- Commands with one operand each that its field cannot carry: one for each check of its arm. -/
theorem test_illFormed_5 :
    ([.thermalFlagAlert 0 16, .fullTrainingDone 288 [] 0 0 0 true, .trainingTimeout 288, .restoredTrainingDone 288 true, .tapStepConfirmed 288,
      .stepTimeout 288 0, .stepTimeout 0 18, .retrainRoundStart 288, .groupRetrainDone 288 0 0 0 [], .marginRequest badReq 0 0,
      .marginRequest own 288 0, .marginRequest own 0 (2 ^ 64), .marginDone 288 0 0 0 0 true, .retrainRequest badReq 0, .retrainRequest own 288,
      .hello 4 0 0 0 0 0 0 0, .hello 0 8 0 0 0 0 0 0, .hello 0 0 16 0 0 0 0 0, .joinTimeout 4, .member 4 hdr1 0 0 0, .member 0 badHdr 0 0 0,
      .member 0 hdr1 8 0 0, .formed 4 hdr1 0 0 0 0, .formed 0 badHdr 0 0 0 0, .lost none 8 0, .linkState 4 hdr1 0, .linkState 0 badHdr 0,
      .flowReset 4 hdr1 0, .flowReset 0 badHdr 0, .prepare 4 hdr1 0 0, .prepare 0 badHdr 0 0, .prepare 0 hdr1 (2 ^ 64) 0,
      .prepare 0 hdr1 0 (2 ^ 64), .vote 4 hdr1 0 0, .vote 0 badHdr 0 0, .vote 0 hdr1 (2 ^ 64) 0, .commitTide 4 hdr1 0, .commitTide 0 badHdr 0,
      .commitTide 0 hdr1 (2 ^ 64), .deferTide 4 hdr1 0, .deferTide 0 badHdr 0, .deferTide 0 hdr1 (2 ^ 64), .objectWrite 4 hdr1 0 0 0 [],
      .objectWrite 0 badHdr 0 0 0 [], .objectWrite 0 hdr1 65536 0 0 [], .objectWrite 0 hdr1 0 256 0 [], .warmResetParcel 4 hdr1 0,
      .warmResetParcel 0 badHdr 0, .warmResetParcel 0 hdr1 8, .rejoin 4 hdr1 0] : List Instr).all (fun i => !wellFormed i) = true := by decide +kernel
/-- Commands with one operand each that its field cannot carry: one for each check of its arm. -/
theorem test_illFormed_6 :
    ([.rejoin 0 badHdr 0, .rejoin 0 hdr1 8, .requestParcel 4 hdr1 [], .requestParcel 0 badHdr [], .completionParcel 4 hdr1 [],
      .completionParcel 0 badHdr [], .acceptParcel 4 hdr1, .acceptParcel 0 badHdr, .doneParcel 4 hdr1, .doneParcel 0 badHdr, .notice 4 hdr1 0 0,
      .notice 0 badHdr 0 0, .timeParcel 4 0 0 0 0, .keepalive 4, .hopAck 4 0 0, .hopAck 0 65536 0, .parcelMalformed 4 true, .parcelTransmit 4,
      .keepaliveSendTimer 4, .hopAckSendTimer 4, .timeSendTimer 4, .linkSilent 4, .linkReset 4, .retrainLimitExpiry 4, .warmResetLimitExpiry 8,
      .transferSubmit badReq [], .farPortRejoin badReq, .generateXts badReq true 0, .generateXts own true 256, .generateGcm badReq true 0,
      .generateGcm own true 256, .importVerify badReq true 0, .importVerify own true 256, .erase badReq true 0, .erase own true 256, .claim badReq,
      .transferOwner badReq, .release badReq, .zeroise badReq, .getVersion badReq, .getCapabilities badReq,
      .negotiateAlgorithms badReq true true true true true, .getDigests badReq, .getCertificate badReq 0 0 0, .getCertificate own 256 0 0,
      .challenge badReq 0 0, .challenge own 256 0, .getMeasurements badReq 0 0 true, .keyExchange badReq 0 true,
      .keyExchange own 256 true] : List Instr).all (fun i => !wellFormed i) = true := by decide +kernel
/-- Commands with one operand each that its field cannot carry: one for each check of its arm. -/
theorem test_illFormed_7 :
    ([.finish badReq 0 true [], .heartbeat badReq 0, .keyUpdate badReq 0, .endSession badReq 0, .respondIfReady badReq,
      .chunkSend badReq 0 true [], .chunkGet badReq 0, .spdmUnsupportedRequest badReq, .debugUnlock 64,
      .clockMonitorWindow 64 0 true true true true, .sourceStable 64, .fallbackTimeout 65, .dividerStep 65, .clockEnableWrite badReq 0 0,
      .clockEnableWrite own 256 0, .clockEnableWrite own 0 (2 ^ 32), .segStart badReq 0 0 0 0, .segStart own 65536 0 0 0, .segStart own 0 256 0 0,
      .segStart own 0 0 (2 ^ 32) 0, .segStart own 0 0 0 (2 ^ 32), .segData badReq 0 0 0 [], .segData own 65536 0 0 [], .segData own 0 256 0 [],
      .segData own 0 0 (2 ^ 32) [], .segEnd badReq 0 0 0, .segEnd own 65536 0 0, .segEnd own 0 256 0, .segEnd own 0 0 (2 ^ 32),
      .segAbort badReq 0 0, .segAbort own 65536 0, .segAbort own 0 256, .sessionDropped (.mac (2 ^ 48)) 0 0, .sessionDropped .window 65536 0,
      .sessionDropped .window 0 256, .notifyResponse 6 0, .notifyRetryTimer 6, .partnerHeartbeat (2 ^ 48) 0 0 0, .partnerHeartbeat 0 256 0 0,
      .partnerHeartbeat 0 0 0 65536, .alarmClear badReq, .logClear badReq, .mirrorClear badReq, .nvmRecordWrite 10 0, .nvmWriteFailed 10 0 true,
      .updateBegin badReq, .updateVerify badReq, .updateActivate badReq true, .updateDiscard badReq, .snapshotRequest badReq 0] : List Instr).all (fun i => !wellFormed i) = true := by decide +kernel
/-- Commands with one operand each that its field cannot carry: one for each check of its arm. -/
theorem test_illFormed_8 :
    ([.snapshotRequest own (2 ^ 64), .bankClear badReq 0, .bankClear own 65536, .clearAll badReq, .bankFilterWrite badReq 0 0 0,
      .bankFilterWrite own 65536 0 0, .bankFilterWrite own 0 256 0, .bankFilterWrite own 0 0 (2 ^ 64), .sampleControlWrite badReq 0,
      .sampleControlWrite own (2 ^ 32), .lfsrSeedWrite badReq 0, .lfsrSeedWrite own (2 ^ 32), .consumedWrite badReq 0, .consumedWrite own (2 ^ 32),
      .layerAct 288 0 0 0, .layerAct 0 16 0 0, .layerAct 0 0 16 0, .layerAct 0 0 0 4104, .layerPre 288 0 0, .layerPre 0 16 0, .layerPre 0 0 16,
      .layerPreab 288 0 true, .layerPreab 0 16 true, .layerMrwb 288 0 0, .layerMrwb 0 256 0, .layerMrwb 0 0 256, .layerMrw 288 0 0 0,
      .layerMrw 0 16 0 0, .layerMrw 0 0 256 0, .layerMrw 0 0 0 256, .layerSre 288 0 0, .layerSre 0 4 0, .layerSre 0 0 65536, .layerSrx 288,
      .layerRpr 288 0 0 0, .layerRpr 0 16 0 0, .layerRpr 0 0 16 0, .layerRpr 0 0 0 4104, .hardRepairDone 288 0 true, .hardRepairDone 0 16 true,
      .layerRd 288 0 0 0 true, .layerRd 0 16 0 0 true, .layerRd 0 0 16 0 true, .layerRd 0 0 0 8 true, .layerRdc 288 0 0 0 true,
      .layerRdc 0 16 0 0 true, .layerRdc 0 0 16 0 true, .layerRdc 0 0 0 8 true, .layerWr 288 0 0 0 true true 0,
      .layerWr 0 16 0 0 true true 0] : List Instr).all (fun i => !wellFormed i) = true := by decide +kernel
/-- Commands with one operand each that its field cannot carry: one for each check of its arm. -/
theorem test_illFormed_9 :
    ([.layerWr 0 0 16 0 true true 0, .layerWr 0 0 0 8 true true 0, .layerWr 0 0 0 0 true true (2 ^ 2304), .layerMrr 288 0 0, .layerMrr 0 16 0,
      .layerMrr 0 0 256, .layerRefpb 288 0 0 0, .layerRefpb 0 16 0 0, .layerRefpb 0 0 16 0, .layerRdp 288 0, .layerRdp 0 16,
      .layerWrp 288 0 true true 0, .layerWrp 0 16 true true 0, .layerWrp 0 0 true true (2 ^ 2304), .layerErrclr 288 0 true, .layerErrclr 0 16 true,
      .layerPreset 288 0 true, .layerPreset 0 16 true, .layerLbw 288 0 true 0, .layerLbw 0 16 true 0, .layerLbw 0 0 true (2 ^ 2304),
      .layerLbr 288 0, .layerLbr 0 16, .commandParityError 288, .resetPattern 288, .caCaptureExit 288 0, .caCaptureExit 0 16,
      .layerSensorConversion 4 0 0 0, .layerSensorConversion 0 16 0 0, .layerSensorConversion 0 0 9 0, .layerSensorConversion 0 0 0 65536,
      .strapSample 8 0 true, .strapSample 0 8 true, .linkTrainingDone 4 0, .linkTrainingDone 0 5, .sheafPllRestartLimit 32] : List Instr).all (fun i => !wellFormed i) = true := by decide +kernel

/-- The same commands with operands that fit. -/
theorem test_formed_1 :
    ([.warmReset own, .stateRequestReady own, .stateRequestRest own, .stateRequestDeep own, .unretainedChannelTimeout 0,
      .unretainedPoisonFillDone 0, .nodeRejoin own 0, .dictionaryWrite own 0 0 [], .regionDescriptorWrite own 0 [], .planLoad own, .planArm own,
      .planStop own, .planDiscard own, .planDisarm own, .tideIntervalWrite own 0, .fenceClear own 0, .channelSlot 0 0, .streamEnd 0, .streamSeta 0,
      .streamSetd 0, .streamMove 0, .streamSkip 0, .streamMask 0, .streamWait 0, .streamSignal 0, .streamRepeat 0, .streamFmt 0, .maskReadDone 0,
      .waitSatisfied 0, .drainBeat 0 0 none none, .feedCreditReturn 0 0 0, .landedBeat 0 0, .upBeatDiscarded (.tile 0), .feedPortTimeout 0 true,
      .portReadyWithdrawn (.tile 0), .portReadyAsserted (.tile 0), .stallTimeout 0, .fenceRequest own 0, .engineFault 0, .portRejoin own 0,
      .engineRejoin own 0, .drainLineNarrowed 0, .poolReset own 0, .beyondBoundClear own 0, .standingEntryWrite own 0 [], .formatUnitFault 0,
      .unitRejoin own 0, .openRead side0 0, .openWrite side0 0 0 0, .openWiden side0 0 0 0] : List Instr).all (fun i => wellFormed i) = true := by decide +kernel
/-- The same commands with operands that fit. -/
theorem test_formed_2 :
    ([.atomicSwap side0 0 0 true true 0, .atomicCas side0 0 0 true true 0 0, .atomicAdd side0 0 0 true true 0, .atomicAnd side0 0 0 true true 0,
      .atomicOr side0 0 0 true true 0, .atomicXor side0 0 0 true true 0, .atomicSmin side0 0 0 true true 0, .atomicSmax side0 0 0 true true 0,
      .atomicUmin side0 0 0 true true 0, .atomicUmax side0 0 0 true true 0, .atomicFadd side0 0 0 true true 0, .atomicFmin side0 0 0 true true 0,
      .atomicFmax side0 0 0 true true 0, .atomicIncwrap side0 0 0 true true 0, .atomicRead side0 0 0 true, .atomicFlush side0 0 0 true,
      .reduce side0 0 word0 0, .contributionApply 0, .syncRead side0 0, .syncSet side0 0 0, .syncAdd side0 0 0, .syncSignal side0 0 0,
      .syncWait side0 0 0, .syncReset side0 0, .syncObjectWrite own 0 0, .flushAll own, .sliceFault 0, .sliceTakenOver 0 true, .sliceRejoin own 0,
      .refreshIntervalTick 0 0, .refreshClassChange 0, .selfRefreshEntry 0, .selfRefreshExit 0, .deepSegmentPoisonDone 0, .channelFault 0 true,
      .channelRecovered 0 true, .channelRecoveryTimeout 0, .channelRejoin own 0, .fillReadReturn 0, .readReturn 0, .writeConfirm 0,
      .alertSampled 0 0, .missingDataBeats 0, .queueEntryGrant 0 true, .completionDelivery (.tile 0), .regulatorWindowStart 0,
      .panicInputTaken 0 0, .panicStuck 0, .panicReleased 0, .degradeStepEnd 1] : List Instr).all (fun i => wellFormed i) = true := by decide +kernel
/-- The same commands with operands that fit. -/
theorem test_formed_3 :
    ([.recoveryRecordFreed 0, .rereadReturn 0, .restoreReadDone 0, .gleanerSlow 0, .trackerAgeExpiry 0, .healWriteConfirmed 0, .rowMoveStart 0,
      .rowMoveBufferComplete 0, .rowMoveConfirmed 0, .reconstitute own 0, .copyBack own 0, .sensorNoReading 0 0, .sensorExclude own true 0 0 0,
      .graceExpired 0, .graceRearm 0, .haltedSensorCheck 0, .trafficResumed 0, .shutdownClear own, .thermalFlagAlert 0 0,
      .fullTrainingDone 0 [] 0 0 0 true, .trainingTimeout 0, .restoredTrainingDone 0 true, .tapStepConfirmed 0, .stepTimeout 0 0,
      .retrainRoundStart 0, .groupRetrainDone 0 0 0 0 [], .marginRequest own 0 0, .marginDone 0 0 0 0 0 true, .retrainRequest own 0,
      .hello 0 0 0 0 0 0 0 0, .joinTimeout 0, .member 0 hdr1 0 0 0, .formed 0 hdr1 0 0 0 0, .lost none 0 0, .linkState 0 hdr1 0,
      .flowReset 0 hdr1 0, .prepare 0 hdr1 0 0, .vote 0 hdr1 0 0, .commitTide 0 hdr1 0, .deferTide 0 hdr1 0, .objectWrite 0 hdr1 0 0 0 [],
      .warmResetParcel 0 hdr1 0, .rejoin 0 hdr1 0, .requestParcel 0 hdr1 [], .completionParcel 0 hdr1 [], .acceptParcel 0 hdr1, .doneParcel 0 hdr1,
      .notice 0 hdr1 0 0, .timeParcel 0 0 0 0 0, .keepalive 0] : List Instr).all (fun i => wellFormed i) = true := by decide +kernel
/-- The same commands with operands that fit. -/
theorem test_formed_4 :
    ([.hopAck 0 0 0, .parcelMalformed 0 true, .parcelTransmit 0, .keepaliveSendTimer 0, .hopAckSendTimer 0, .timeSendTimer 0, .linkSilent 0,
      .linkReset 0, .retrainLimitExpiry 0, .warmResetLimitExpiry 0, .transferSubmit own [], .farPortRejoin own, .generateXts own true 0,
      .generateGcm own true 0, .importVerify own true 0, .erase own true 0, .claim own, .transferOwner own, .release own, .zeroise own,
      .getVersion own, .getCapabilities own, .negotiateAlgorithms own true true true true true, .getDigests own, .getCertificate own 0 0 0,
      .challenge own 0 0, .getMeasurements own 0 0 true, .keyExchange own 0 true, .finish own 0 true [], .heartbeat own 0, .keyUpdate own 0,
      .endSession own 0, .respondIfReady own, .chunkSend own 0 true [], .chunkGet own 0, .spdmUnsupportedRequest own, .debugUnlock 0,
      .clockMonitorWindow 0 0 true true true true, .sourceStable 0, .fallbackTimeout 0, .dividerStep 0, .clockEnableWrite own 0 0,
      .segStart own 0 0 0 0, .segData own 0 0 0 [], .segEnd own 0 0 0, .segAbort own 0 0, .sessionDropped .window 0 0, .notifyResponse 0 0,
      .notifyRetryTimer 0, .partnerHeartbeat 0 0 0 0] : List Instr).all (fun i => wellFormed i) = true := by decide +kernel
/-- The same commands with operands that fit. -/
theorem test_formed_5 :
    ([.alarmClear own, .logClear own, .mirrorClear own, .nvmRecordWrite 0 0, .nvmWriteFailed 0 0 true, .updateBegin own, .updateVerify own,
      .updateActivate own true, .updateDiscard own, .snapshotRequest own 0, .bankClear own 0, .clearAll own, .bankFilterWrite own 0 0 0,
      .sampleControlWrite own 0, .lfsrSeedWrite own 0, .consumedWrite own 0, .layerAct 0 0 0 0, .layerPre 0 0 0, .layerPreab 0 0 true,
      .layerMrwb 0 0 0, .layerMrw 0 0 0 0, .layerSre 0 0 0, .layerSrx 0, .layerRpr 0 0 0 0, .hardRepairDone 0 0 true, .layerRd 0 0 0 0 true,
      .layerRdc 0 0 0 0 true, .layerWr 0 0 0 0 true true 0, .layerMrr 0 0 0, .layerRefpb 0 0 0 0, .layerRdp 0 0, .layerWrp 0 0 true true 0,
      .layerErrclr 0 0 true, .layerPreset 0 0 true, .layerLbw 0 0 true 0, .layerLbr 0 0, .commandParityError 0, .resetPattern 0,
      .caCaptureExit 0 0, .layerSensorConversion 0 0 0 0, .strapSample 0 0 true, .linkTrainingDone 0 0, .sheafPllRestartLimit 0] : List Instr).all (fun i => wellFormed i) = true := by decide +kernel

/-- Each field of an envelope, a header, a port, a sideband and an operand word is checked. -/
theorem test_sources : sourceWf (.mac (2 ^ 48)) = false ∧ sourceWf (.session (2 ^ 32)) = false ∧ sourceWf (.mac (2 ^ 48 - 1)) = true ∧
    reqWf ⟨.window, 65536⟩ = false ∧ reqWf ⟨.session (2 ^ 32), 0⟩ = false ∧ reqWf ⟨.window, 65535⟩ = true := by decide +kernel
theorem test_headers : hdrWf hdr1 = true ∧ ([{ hdr1 with kind := 16 }, { hdr1 with cls := 16 }, { hdr1 with dest := 8 },
    { hdr1 with origin := 8 }, { hdr1 with len := 9 }, { hdr1 with e2e := 65536 }, { hdr1 with hop := 65536 }, { hdr1 with colour := 4 },
    { hdr1 with opcode := 64 }, { hdr1 with context := 64 }, { hdr1 with stream := 4096 }, { hdr1 with rseq := 65536 },
    { hdr1 with portKind := 4 }, { hdr1 with portIndex := 256 }, { hdr1 with tag := 2 ^ 32 }, { hdr1 with due := 2 ^ 32 },
    { hdr1 with line := 2 ^ 46 }] : List Hdr).all (fun h => !hdrWf h) = true := by decide +kernel
theorem test_ports : ([.tile 256, .rt 8, .headland 4 hdr1, .headland 0 badHdr, .unit 256] : List Port).all (fun p => !portWf p) = true ∧
    ([.tile 255, .rt 7, .headland 3 hdr1, .unit 255] : List Port).all portWf = true := by decide +kernel
theorem test_sides : sideWf side0 = true ∧ ([{ side0 with port := .rt 8 }, { side0 with stream := 4096 }, { side0 with seq := 65536 },
    { side0 with core := 512 }, { side0 with cls := 16 }, { side0 with ctx := 64 }, { side0 with deadline := 2 ^ 24 },
    { side0 with pre := 4 }, { side0 with tag := 2 ^ 32 }] : List Side).all (fun q => !sideWf q) = true := by decide +kernel
theorem test_words : redWf word0 = true ∧ ([{ word0 with function := 4 }, { word0 with type := 4 }, { word0 with tag := 256 },
    { word0 with index := 4096 }, { word0 with count := 4096 }, { word0 with object := 2 ^ 17 }] : List RedWord).all (fun w => !redWf w) = true := by
  decide +kernel

/-! ### Single steps -/

/-- The state a command answers, or the one before where it answers none. -/
def after (i : Instr) (s : State) : State := match exec i s with | .next t => t | _ => s

/-- A command that stops because its unit is absent. -/
def absent (i : Instr) (s : State) : Bool := match exec i s with | .fault .absentUnit => true | _ => false

/-- Source: spec/opcode_table.json gives no row bits. -/
theorem test_no_words : decodeTableWord 16 0 = none ∧ (run.withFetchWord 16 0) = run := ⟨rfl, rfl⟩
/-- Source: the queue of commands, first in, first out. -/
theorem test_step_takes_the_front : step { run with pending := [.journalLost, .wsBypass] } = exec .journalLost { run with pending := [.wsBypass] } := rfl
/-- Source: R281, the ladder's table: 85 °C enters level 1, 100 °C level 3, 105 °C level 4, 110 °C the trip; level 4 is left below 102 °C. -/
theorem test_ladder : levelFor 0 339 = 0 ∧ levelFor 0 340 = 1 ∧ levelFor 0 400 = 3 ∧ levelFor 0 420 = 4 ∧ levelFor 0 440 = 5 ∧
    levelFor 4 408 = 4 ∧ levelFor 4 407 = 3 := by decide +kernel
/-- Source: R284. -/
theorem test_toggle_without_request : (after .throttleAckToggle run).ob 0x9021 2 = 1 ∧ (after .throttleAckToggle run).heat = run.heat := by
  decide +kernel
/-- Source: R394, R395: 121 steps of 5 ps are 605 ps, above 600; 151 are 755, above 750. -/
theorem test_slack : (after (.slackMeasurement (List.replicate 16 (some 120))) run).ob 0xB000 3 = 0 ∧
    (after (.slackMeasurement (List.replicate 16 (some 121))) run).ob 0xB000 1 = 605 ∧
    (after (.slackMeasurement (List.replicate 16 (some 121))) run).ob 0xB000 3 = 1 ∧
    (after (.slackMeasurement (List.replicate 15 (some 1) ++ [some 151])) run).ob 0xB000 3 = 2 := by decide +kernel
/-- Source: R164: addition wraps, minima are signed where the function says so, INCWRAP returns to 0. -/
theorem test_atomics : atomicFn 2 32 (2 ^ 32 - 1) 2 0 = 1 ∧ atomicFn 6 32 (2 ^ 31) 5 0 = 2 ^ 31 ∧ atomicFn 8 32 (2 ^ 31) 5 0 = 5 ∧
    atomicFn 13 32 7 7 0 = 0 ∧ atomicFn 1 64 3 3 9 = 9 := by decide +kernel
/-- Source: R175: SIGNAL and ADD saturate at 2^32 − 1. -/
theorem test_saturates : syncValue (addSync 0xFFFFFFFF 1) = 0xFFFFFFFF ∧ syncValue (addSync 5 6) = 11 := by decide +kernel
/-- Source: R510: ACT opens the row it names, and PRE closes it. -/
theorem test_act_pre : ((after (.layerAct 287 15 15 4095) run).lay 287 15).openRow 15 = some 4095 ∧
    ((after (.layerPre 287 15 15) opened).lay 287 15).openRow 15 = none := by decide +kernel
/-- Source: R520: every layer counts a parity failure and keeps its banks. -/
theorem test_parity : ((after (.commandParityError 287) opened).lay 287 15).parityErr = true ∧
    ((after (.commandParityError 287) opened).lay 287 15).openRow 15 = some 4095 ∧
    ((after (.commandParityError 287) run).lay 287 0).parityCount = 1 := by decide +kernel
/-- Source: R532: SRX ends self-refresh. -/
theorem test_srx : ((after (.layerSrx 287) (asleep 287 run)).dch 287).selfRef = none := by decide +kernel
/-- Source: R345: a keepalive restarts the silent count. -/
theorem test_keepalive : ((after (.keepalive 1) (pair true linkPort run)).port 1).lastReceived = run.now := by decide +kernel
/-- Source: R540: a stack that the silicon does not hold answers no command. -/
theorem test_absent : absent (.graceExpired 1) (small run) = true ∧ absent (.layerSrx 72) (small run) = true ∧
    absent (.layerSrx 71) (small run) = false := by decide +kernel

end Sys2Proof.Tests
end

/-!
PROOF. Requests that are not begun when they arrive (R439, R443, R463), and the settling of O24.
-/
namespace Sys2Proof.Machine

/-! ### What counting a frame leaves alone -/

@[simp] theorem countFrame_waiting (r : Req) (s : State) : (countFrame r s).mgmt.waiting = s.mgmt.waiting := by
  unfold countFrame; rw [heardFrom_parts]; dsimp only; split <;> rfl

@[simp] theorem countFrame_out (r : Req) (s : State) : (countFrame r s).out = s.out := by
  unfold countFrame; rw [heardFrom_parts]; dsimp only; split <;> rfl

/-! ### Requests that are not begun, branch by branch -/

section
variable {s : State} {r : Req} (i : RequestOp) (act : State → State)

/-- A request that does not reach the Keeper changes nothing. -/
theorem takeRequest_unreached (h : s.reaches r = false) : takeRequest r i act s = s := by
  simp [takeRequest, h]

/-- A second request of the window is only noted (R463). -/
theorem takeRequest_windowHeld (reach : s.reaches r = true) (h : s.windowHeld r = true) :
    takeRequest r i act s = noteSecond r s := by
  simp [takeRequest, reach, h]

/-- A new request of a source that has one still carried out is behind it. -/
theorem behind_of_srcBusy (new : s.findTxn r = none) (busy : s.srcBusy r.src = true) : s.behind r = true := by
  simp [State.behind, new, busy]

/-- A request behind one of its source joins the receive buffer while that has room, its frame counted (R439). -/
theorem takeRequest_waits (reach : s.reaches r = true) (up : s.procs.keeper.restart = none) (free : s.windowHeld r = false)
    (behind : s.behind r = true) (room : s.mgmt.waiting.length < 8) :
    takeRequest r i act s = { countFrame r s with mgmt := { (countFrame r s).mgmt with
      waiting := s.mgmt.waiting ++ [⟨r, i⟩] } } := by
  simp [takeRequest, reach, up, free, behind, room]

/-- A request behind one of its source is dropped and counted when the receive buffer is full (R439). -/
theorem takeRequest_dropped (reach : s.reaches r = true) (up : s.procs.keeper.restart = none) (free : s.windowHeld r = false)
    (behind : s.behind r = true) (full : 8 ≤ s.mgmt.waiting.length) :
    takeRequest r i act s = s.bump 0x1010 0x0C := by
  simp [takeRequest, reach, up, free, behind, Nat.not_lt.mpr full]

end

/-! ### The commands -/

theorem exec_dictionaryWrite (r : Req) (idx sub : Nat) (value : List Byte) (s : State) :
    exec (.dictionaryWrite r idx sub value) s = .next (dictWrite r idx sub value (writeHome r idx sub value s) s) := rfl

theorem exec_segAbort (r : Req) (idx sub : Nat) (s : State) :
    exec (.segAbort r idx sub) s = .next (takeRequest r (.segAbort idx sub) (segAbort r idx sub) s) := rfl

theorem exec_getVersion (r : Req) (s : State) :
    exec (.getVersion r) s = .next (takeRequest r .getVersion (spdmBegin r (getVersionAct r)) s) := rfl

/-- A command that takes a request leaves it waiting behind one of its source: nothing is recorded of it, and nothing is sent. -/
theorem gives_of_waits {c : Instr} {s : State} {r : Req} {i : RequestOp} {act : State → State}
    (takes : exec c s = .next (takeRequest r i act s)) (reach : s.reaches r = true) (up : s.procs.keeper.restart = none)
    (free : s.windowHeld r = false) (behind : s.behind r = true) (room : s.mgmt.waiting.length < 8) :
    Gives c s fun t => t.mgmt.waiting = s.mgmt.waiting ++ [⟨r, i⟩] ∧ t.mgmt.sources = s.mgmt.sources ∧ t.out = s.out := by
  refine ⟨_, takes, ?_⟩
  rw [takeRequest_waits i act reach up free behind room]
  exact ⟨rfl, countFrame_sources r s, countFrame_out r s⟩

/-- A command that gives more gives less. -/
theorem Gives.mono {c : Instr} {s : State} {p q : State → Prop} (h : Gives c s p) (le : ∀ t, p t → q t) : Gives c s q := by
  obtain ⟨t, e, ht⟩ := h
  exact ⟨t, e, le t ht⟩

/-! ### Writes -/

/-- A write that fails one of steps 1 to 5 is answered with that step's status (R444). -/
theorem carryOut_of_writeChecks {s t : State} {r : Req} {idx sub st d : Nat} (h : writeChecks r idx sub s = some (st, d, t))
    (value : List Byte) (home : Home) : carryOut r idx sub value home s = answer r st d (qosRefusal idx sub st t) := by
  simp [carryOut, h]

/-- An object that is not written at offsets is carried out by its own home operation. -/
theorem writeHome_of_not_offset {idx sub : Nat} (h : offsetObject idx sub = false) (r : Req) (value : List Byte) (s : State) :
    writeHome r idx sub value s = homeOf (s.isOwner r) (s.inSession r) idx sub value := by
  simp [writeHome, h]

/-- Settles O24: a request is taken in one of five ways (unreached, noted, waiting, dropped or begun), and each clause says what a write
comes to in one of them. -/
theorem dictionaryWrites : Obligations.DictionaryWrites := by
  unfold Obligations.DictionaryWrites
  intro s r idx sub value
  refine ⟨fun home h => dictWrite_applies h home, ?applied, ?refused, ?behind, ?noted, ?unreached⟩
  case applied =>
    intro h notOffset
    rw [exec_dictionaryWrite, writeHome_of_not_offset notOffset, dictWrite_applies h]
  case refused =>
    intro st d u begins failed
    rw [exec_dictionaryWrite, dictWrite_begins begins, carryOut_of_writeChecks failed]
  case behind =>
    intro reach up free new busy
    have behind := behind_of_srcBusy new busy
    refine ⟨fun room => ⟨?write, ?abort, ?version⟩, fun full => ⟨?writeDropped, ?versionDropped⟩⟩
    case write => exact gives_of_waits (exec_dictionaryWrite r idx sub value s) reach up free behind room
    case abort =>
      exact (gives_of_waits (exec_segAbort r idx sub s) reach up free behind room).mono fun _ ⟨waits, _, out⟩ => ⟨waits, out⟩
    case version =>
      exact (gives_of_waits (exec_getVersion r s) reach up free behind room).mono fun _ ⟨waits, _, out⟩ => ⟨waits, out⟩
    case writeDropped => rw [exec_dictionaryWrite, dictWrite, takeRequest_dropped _ _ reach up free behind full]
    case versionDropped => rw [exec_getVersion, takeRequest_dropped _ _ reach up free behind full]
  case noted =>
    intro reach held
    rw [exec_dictionaryWrite, dictWrite, takeRequest_windowHeld _ _ reach held]
  case unreached =>
    intro away
    rw [exec_dictionaryWrite, dictWrite, takeRequest_unreached _ _ away]

end Sys2Proof.Machine

/-!
PROOF. Faults of a processor while another part of the node recovers (R26, R273, R274), and the settling of O15.
-/
namespace Sys2Proof.Machine

/-! ### An entry to HALTED stops the processors it stops -/

theorem stopProcs_get {i : ProcId} (other : i ≠ .keeper) (s : State) : (stopProcs s).procs.get i = ⟨false, none⟩ := by
  cases i with
  | keeper => exact absurd rfl other
  | sequencer | steward | warden => rfl

/-- A cache that holds no line has none to write back. -/
theorem writeBackAll_of_empty {s : State} (f : CWay → Bool) (empty : s.cache.ways = []) : writeBackAll f s = s := by
  simp [writeBackAll, empty, forEach]

@[simp] theorem haltChannels_procs (s : State) : (haltChannels s).procs = s.procs :=
  (haltChannels_fr (Fr.refl 67387716 s)).procs (by decide)

@[simp] theorem setNode_cache (n : NodeState) (s : State) : (setNode n s).cache = s.cache :=
  (setNode_fr (Fr.refl 20700 s)).cache (by decide)

@[simp] theorem breakContinuity_cache (cause : Nat) (s : State) : (breakContinuity cause s).cache = s.cache :=
  (breakContinuity_fr (Fr.refl 86232 s)).cache (by decide)

@[simp] theorem stopProcs_cache (s : State) : (stopProcs s).cache = s.cache := rfl

/-- The processors that an entry to HALTED stops no longer run, whatever they did before (R24, R35). -/
theorem enterHalted_stops {s : State} {i : ProcId} (code : Nat) (other : i ≠ .keeper)
    (serving : s.power.node = .ready ∨ s.power.node = .run) (empty : s.cache.ways = []) :
    (enterHalted code true s).procs.get i = ⟨false, none⟩ := by
  have enters : ¬ (s.power.node = .halted ∨ s.power.node = .off) := by
    obtain h | h := serving <;> simp [h]
  unfold enterHalted
  rw [if_neg (by simpa using enters)]
  simp only [if_true, Bool.not_true, Bool.false_or]
  rw [writeBackAll_of_empty _ (by simpa using empty)]
  split <;> simp [stopProcs_get other]

/-! ### A processor's fault while another part recovers -/

@[simp] theorem endSessions_power (s : State) : (endSessions s).power = s.power :=
  (endSessions_fr (Fr.refl 21720 s)).power (by decide)

@[simp] theorem endSessions_cache (s : State) : (endSessions s).cache = s.cache :=
  (endSessions_fr (Fr.refl 21720 s)).cache (by decide)

/-- A single-part fault while another part is under recovery ends in an entry to HALTED (R273). -/
theorem singleFault_of_recovering {s : State} (recovering : s.recovering = true)
    (serving : s.power.node = .ready ∨ s.power.node = .run) (code : Nat) (f : State → State) :
    singleFault code f s = enterHalted code true (f (s.setOb 0xB040 1 4)) := by
  obtain h | h := serving <;> simp [singleFault, recovering, h]

/-- A single-part fault while another part is under recovery stops the processors with the node, for any fault that leaves the node's
state and the cache alone. -/
theorem singleFault_stops_of_recovering {s : State} {i : ProcId} {f : State → State} (code : Nat) (other : i ≠ .keeper)
    (recovering : s.recovering = true) (serving : s.power.node = .ready ∨ s.power.node = .run) (empty : s.cache.ways = [])
    (power : ∀ x, (f x).power = x.power) (cache : ∀ x, (f x).cache = x.cache) :
    (singleFault code f s).procs.get i = ⟨false, none⟩ := by
  rw [singleFault_of_recovering recovering serving]
  exact enterHalted_stops code other (by simpa [power] using serving) (by simpa [cache] using empty)

/-- A processor that faults while another part recovers is stopped with the node, and does not restart (R26, R273). -/
theorem restartProc_stops_of_recovering {s : State} {i : ProcId} (other : i ≠ .keeper) (recovering : s.recovering = true)
    (running : (s.procs.get i).running = true) (serving : s.power.node = .ready ∨ s.power.node = .run)
    (empty : s.cache.ways = []) : (restartProc i s).procs.get i = ⟨false, none⟩ := by
  have on : s.power.node ≠ .off := by obtain h | h := serving <;> simp [h]
  unfold restartProc
  rw [if_neg (by simp [running, on])]
  split
  case isTrue => exact enterHalted_stops _ other serving empty
  case isFalse =>
    apply singleFault_stops_of_recovering _ other recovering serving empty
    case power => intro x; dsimp only; split <;> simp
    case cache => intro x; dsimp only; split <;> simp

/-! ### The counterexample -/

theorem exec_processorFault {p : ProcId} (other : p ≠ .keeper) (s : State) :
    exec (.processorFault p) s = .next (restartProc p s) :=
  congrArg Host.Outcome.next (if_neg other)

/-- A node in RUN with its processors running and nothing under recovery. -/
def servingNode : State :=
  { State.reset with
    power := { Power.reset with node := .run }
    procs := { Procs.reset with sequencer := ⟨true, none⟩, steward := ⟨true, none⟩, warden := ⟨true, none⟩ } }

/-- The same node after copy A of its journal has gone out of service (R274). -/
def rebuildingNode : State := journalFault false servingNode

/-- That node is in RUN with a clean cache and no processor restarting, and a part of it, the journal's copy, is under recovery. -/
theorem rebuildingNode_facts : rebuildingNode.power.node = .run ∧ rebuildingNode.cache.ways = [] ∧
    rebuildingNode.procs.steward = ⟨true, none⟩ ∧ rebuildingNode.procs.anyRestart = false ∧ rebuildingNode.recovering = true := by
  decide +kernel

/-- Refutes O15: the clause that a processor restarts when no other one does leaves out the recovery of another part. While a copy of the
journal is out of service any further fault takes the node to HALTED (R273, R274), which stops the Steward instead of restarting it. -/
theorem not_processorRestarts : ¬ Obligations.ProcessorRestarts := by
  unfold Obligations.ProcessorRestarts
  intro holds
  obtain ⟨node, empty, steward, alone, recovering⟩ := rebuildingNode_facts
  have running : (rebuildingNode.procs.get .steward).running = true := by rw [Procs.get, steward]
  have stopped : (restartProc .steward rebuildingNode).procs.get .steward = ⟨false, none⟩ :=
    restartProc_stops_of_recovering (by decide) recovering running (.inr node) empty
  obtain ⟨_, _, restarts, _⟩ := holds rebuildingNode .steward (by rw [node]; decide)
  obtain ⟨⟨t, answers, restarted⟩, _⟩ := restarts (by decide) running alone
  rw [exec_processorFault (by decide)] at answers
  obtain rfl := Host.Outcome.next.inj answers
  simp [stopped] at restarted

end Sys2Proof.Machine

/-!
PROOF. Region descriptors (R49, R50): what a write of one comes to, what the far port's ledger and the node's reports leave of the
descriptors and of the settings that wait for a tide, and the settling of O55.
-/
namespace Sys2Proof.Machine

/-! ### What a write of a descriptor comes to -/

/-- The descriptor as the last accepted write left it: the one that waits for the next tide, else the one in force. -/
def State.regionPending (s : State) (n : Nat) : Region :=
  match s.mgmt.pendingTide.find? fun x => x.1 == objKey (regionIdx n) (regionSub n) with
  | some x => decodeRegion x.2
  | none => s.region n

/-- The reason of R49 that a write of descriptor n meets in state `s`; 0 when it is accepted. -/
def State.regionWriteReason (s : State) (n v : Nat) (owner : Bool) : Nat :=
  regionReason n (if (s.regionPending n).guarded then s.regionPending n else s.region n) (decodeRegion v) owner (s.regionBreaks n v) s

/-- A descriptor's home operation decides by the reason its write meets. -/
theorem regionHome_eq (n v : Nat) (owner : Bool) (who : Completer) (s : State) :
    regionHome n v owner who s =
      if s.regionWriteReason n v owner != 0 then
        .denied (raise Ev.descriptorRefused n (s.regionWriteReason n v owner)
          ((if s.regionWriteReason n v owner = 7 then raiseNode Ev.secureWriteRefused 0 s else s).setOb 0x2110 2
            (s.regionWriteReason n v owner)))
      else if s.rwlAtOnce false then .done (applySetting (objKey (regionIdx n) (regionSub n)) v 0 s)
      else .done (pendTide (objKey (regionIdx n) (regionSub n)) v s) := rfl

theorem rwlAtOnce_of_config {s : State} (config : s.power.node = .config) : s.rwlAtOnce false = true := by
  simp [State.rwlAtOnce, config]

theorem rwlAtOnce_of_not_config {s : State} (other : s.power.node ≠ .config) : s.rwlAtOnce false = false := by
  simp [State.rwlAtOnce, other]

section
variable {s : State} {n v : Nat} {owner : Bool} (who : Completer)

/-- A write that breaks a rule other than that of reason 0x07 is denied, and its reason recorded (R49). -/
theorem regionHome_denied (breaks : s.regionWriteReason n v owner ≠ 0) (other : s.regionWriteReason n v owner ≠ 7) :
    regionHome n v owner who s = .denied (raise Ev.descriptorRefused n (s.regionWriteReason n v owner)
      (s.setOb 0x2110 2 (s.regionWriteReason n v owner))) := by
  simp [regionHome_eq, breaks, other]

/-- A write that only an owner session may make is denied, and the attempt is raised too (R49 reason 0x07). -/
theorem regionHome_guarded (guarded : s.regionWriteReason n v owner = 7) :
    regionHome n v owner who s =
      .denied (raise Ev.descriptorRefused n 7 ((raiseNode Ev.secureWriteRefused 0 s).setOb 0x2110 2 7)) := by
  simp [regionHome_eq, guarded]

/-- An accepted write in CONFIG is in force at once (R50). -/
theorem regionHome_config (accepted : s.regionWriteReason n v owner = 0) (config : s.power.node = .config) :
    regionHome n v owner who s = .done (applySetting (objKey (regionIdx n) (regionSub n)) v 0 s) := by
  simp [regionHome_eq, accepted, rwlAtOnce_of_config config]

/-- An accepted write elsewhere waits for the next tide (R50). -/
theorem regionHome_waits (accepted : s.regionWriteReason n v owner = 0) (other : s.power.node ≠ .config) :
    regionHome n v owner who s = .done (pendTide (objKey (regionIdx n) (regionSub n)) v s) := by
  simp [regionHome_eq, accepted, rwlAtOnce_of_not_config other]

end

/-- A write of a descriptor that is carried out is settled by its home operation. -/
theorem exec_regionDescriptorWrite_applies {s : State} {r : Req} {n : Nat} {value : List Byte} (hn : n < 1024)
    (h : s.applies r (regionIdx n) (regionSub n) value = true) :
    exec (.regionDescriptorWrite r n value) s =
      .next (settle (.req r) (regionHome n (leNat value) (s.isOwner r) (.req r) (s.begun r))) := by
  have command : exec (.regionDescriptorWrite r n value) s =
      .next (dictWrite r (regionIdx (n % 1024)) (regionSub (n % 1024)) value
        (regionHome (n % 1024) (leNat value) (s.isOwner r)) s) := rfl
  rw [command, Nat.mod_eq_of_lt hn, dictWrite_applies h]

/-! ### The place of a descriptor in the dictionary -/

theorem regionSub_lt (n : Nat) : regionSub n < 256 := Nat.mod_lt _ (by decide)

theorem regionIdx_range {n : Nat} (hn : n < 1024) : 0x2120 ≤ regionIdx n ∧ regionIdx n ≤ 0x2123 := by
  unfold regionIdx; omega

theorem logObject_regionIdx {n : Nat} (hn : n < 1024) : logObject (regionIdx n) = false := by
  obtain ⟨low, high⟩ := regionIdx_range hn
  simp [logObject]
  omega

theorem objKey_div_mod {i a : Nat} (ha : a < 256) : objKey i a / 256 = i ∧ objKey i a % 256 = a := by
  unfold objKey; omega

theorem keyRegion_descriptor {n : Nat} (hn : n < 1024) : keyRegion (objKey (regionIdx n) (regionSub n)) = some n := by
  obtain ⟨low, high⟩ := regionIdx_range hn
  obtain ⟨idx, sub⟩ := objKey_div_mod (i := regionIdx n) (regionSub_lt n)
  simp only [keyRegion, idx, sub, low, high, decide_true, Bool.and_self, if_true]
  unfold regionIdx regionSub
  congr 1
  omega

/-! ### Operations that leave every descriptor as it reads -/

/-- What holds between the states before and after each element's change holds between those before and after all of them. -/
theorem forEach_related {α : Type} {rel : State → State → Prop} (refl : ∀ s, rel s s)
    (trans : ∀ {s t u}, rel s t → rel t u → rel s u) (l : List α) (f : α → State → State) (each : ∀ x s, rel s (f x s)) (s : State) :
    rel s (forEach l f s) := by
  unfold forEach
  induction l generalizing s with
  | nil => exact refl s
  | cons x l ih => exact trans (each x s) (ih (f x s))

/-- Every descriptor's object reads in `t` as in `s`. -/
def SameDescriptors (s t : State) : Prop := ∀ n < 1024, t.ob (regionIdx n) (regionSub n) = s.ob (regionIdx n) (regionSub n)

namespace SameDescriptors

theorem refl (s : State) : SameDescriptors s s := fun _ _ => rfl

theorem trans {s t u : State} (h : SameDescriptors s t) (k : SameDescriptors t u) : SameDescriptors s u :=
  fun n hn => (k n hn).trans (h n hn)

theorem region {s t : State} (h : SameDescriptors s t) {n : Nat} (hn : n < 1024) : t.region n = s.region n :=
  congrArg decodeRegion (h n hn)

theorem of_obj {s t : State} (h : t.obj = s.obj) : SameDescriptors s t := fun _ _ => by simp only [State.ob, h]

theorem of_reports {s t : State} (h : ReportsOnly s t) : SameDescriptors s t :=
  fun n hn => h.objects _ _ (regionSub_lt n) (logObject_regionIdx hn)

theorem setOb (s : State) {i a : Nat} (v : Nat) (other : i < 0x2120 ∨ 0x2123 < i := by decide) (ha : a < 256 := by decide) :
    SameDescriptors s (s.setOb i a v) := fun n hn => by
  refine State.ob_setOb_ne s fun same => ?_
  obtain ⟨low, high⟩ := regionIdx_range hn
  obtain ⟨rfl, -⟩ := objKey_inj (regionSub_lt n) ha same
  omega

theorem ite {s x y : State} {c : Prop} [Decidable c] (hx : SameDescriptors s x) (hy : SameDescriptors s y) :
    SameDescriptors s (if c then x else y) := by
  split <;> assumption

theorem forEach {α : Type} (l : List α) (f : α → State → State) (each : ∀ x s, SameDescriptors s (f x s)) (s : State) :
    SameDescriptors s (forEach l f s) := forEach_related refl trans l f each s

end SameDescriptors

theorem countIf_sameDescriptors {b j : Nat} (n : Nat) (c : Cause) (s : State) (hb : 0x2123 < b := by decide)
    (hj : 0x10 + j < 256 := by decide) : SameDescriptors s (countIf b j n c s) :=
  .ite (.ite (.refl s) (.setOb s _ (.inr hb) hj)) (.refl s)

theorem countDecision_sameDescriptors (a : Ask) (status : Nat) (s : State) : SameDescriptors s (countDecision a status s) :=
  .ite (.refl s) <| .ite (countIf_sameDescriptors _ _ s) <| .ite (countIf_sameDescriptors _ _ s) <|
    .ite (countIf_sameDescriptors _ _ s) <| .ite (countIf_sameDescriptors _ _ s) (.refl s)

theorem writeSample_sameDescriptors (b : Building) (status : Nat) (s : State) : SameDescriptors s (writeSample b status s) := by
  unfold writeSample
  dsimp only
  split
  · exact .setOb s _
  · exact (SameDescriptors.ite (.setOb s _) (.refl s)).trans ((SameDescriptors.setOb _ _).trans (.setOb _ _))

theorem sampleEnd_sameDescriptors (kind id num status : Nat) (s : State) : SameDescriptors s (sampleEnd kind id num status s) := by
  unfold sampleEnd
  split
  · exact .refl s
  · exact writeSample_sameDescriptors _ _ _

theorem sampleEffect_obj (id : Nat) (s : State) : (sampleEffect id s).obj = s.obj :=
  (sampleEffect_fr (Fr.refl 67108864 s)).obj (by decide)

theorem sendCompletion_obj (a : Ask) (status : Nat) (data : Option Nat) (s : State) : (sendCompletion a status data s).obj = s.obj :=
  (sendCompletion_fr (Fr.refl 256 s)).obj (by decide)

/-- The completion of a request counts and samples it, and writes no descriptor. -/
theorem finish_sameDescriptors (id status : Nat) (data : Option Nat) (s : State) : SameDescriptors s (finish id status data s) := by
  unfold finish
  split
  · exact .refl s
  next a _ =>
    refine .ite (.refl s) ?_
    have marked : SameDescriptors s (s.modAsk id fun a => { a with stage := .finished, result := some (status, data) }) := .of_obj rfl
    have counted (u : State) : SameDescriptors u (sampleEffect id (countDecision a status u)) :=
      (countDecision_sameDescriptors a status u).trans (.of_obj (sampleEffect_obj id _))
    have sampled (u : State) : SameDescriptors u (if a.internal then (if a.isDrain then u else sampleEnd 0 id 0 status u) else u) :=
      .ite (.ite (.refl u) (sampleEnd_sameDescriptors 0 id 0 status u)) (.refl u)
    have ended := marked.trans ((counted _).trans (sampled _))
    have sent (u : State) : SameDescriptors u (sendCompletion a status data u) := .of_obj (sendCompletion_obj a status data u)
    dsimp only
    split
    · exact .ite (ended.trans (sent _)) (ended.trans (sent _))
    · exact ended

theorem backingDone_sameDescriptors (id : Nat) (s : State) : SameDescriptors s (backingDone id s) := by
  unfold backingDone
  split
  · dsimp only
    split
    · exact .ite (.refl s) (finish_sameDescriptors id _ none _)
    · exact .refl s
  · exact .refl s

theorem endFarWrite_sameDescriptors (id : Nat) (backing : Bool) (status : Nat) (s : State) :
    SameDescriptors s (endFarWrite id backing status s) :=
  .ite (backingDone_sameDescriptors id s) (finish_sameDescriptors id status none s)

theorem dropReader_sameDescriptors (status : Nat) (r : FarReader) (s : State) : SameDescriptors s (dropReader status r s) := by
  cases r with
  | ask id _ | part id _ _ _ => exact finish_sameDescriptors id status none s
  | restore _ _ _ _ | merge | transfer _ => exact .refl s

theorem emptyPort_sameDescriptors (status : Nat) (s : State) : SameDescriptors s (emptyPort status s) := by
  have bale (x : Bale) (u : State) : SameDescriptors u
      (forEach x.waits (fun w s => endFarWrite w.1 w.2 status s) (forEach x.readers (dropReader status) u)) :=
    (SameDescriptors.forEach x.readers _ (dropReader_sameDescriptors status) u).trans
      (.forEach x.waits _ (fun w => endFarWrite_sameDescriptors w.1 w.2 status) _)
  refine (SameDescriptors.forEach s.far.bales _ bale s).trans ((SameDescriptors.forEach _ _ (fun w u => ?_) _).trans (.refl _))
  cases w with
  | write w => exact endFarWrite_sameDescriptors w.ask w.backing status u
  | read _ _ r => exact dropReader_sameDescriptors status r u

/-- The zeroing of the bale ledger begins, and no descriptor changes. -/
theorem startLedgerZero_sameDescriptors (s : State) : SameDescriptors s (startLedgerZero s) :=
  (emptyPort_sameDescriptors St.unitOff s).trans (.setOb _ 0)

/-! ### A descriptor comes into force -/

/-- A descriptor that comes into force is stored, and a change of the bale ledger begins its zeroing (R354). -/
theorem applySetting_descriptor {n : Nat} (hn : n < 1024) (v f : Nat) (s : State) :
    applySetting (objKey (regionIdx n) (regionSub n)) v f s = s.setOb (regionIdx n) (regionSub n) v ∨
      applySetting (objKey (regionIdx n) (regionSub n)) v f s = startLedgerZero (s.setOb (regionIdx n) (regionSub n) v) := by
  obtain ⟨idx, sub⟩ := objKey_div_mod (i := regionIdx n) (regionSub_lt n)
  unfold applySetting
  rw [keyRegion_descriptor hn, idx, sub]
  dsimp only
  split
  · exact .inr rfl
  · exact .inl rfl

/-- A descriptor that comes into force reads as it was written. -/
theorem applySetting_descriptor_ob {s : State} {n : Nat} (hn : n < 1024) (canonical : Canonical objDefault s.obj) (v f : Nat) :
    (applySetting (objKey (regionIdx n) (regionSub n)) v f s).ob (regionIdx n) (regionSub n) = v := by
  have stored := State.ob_setOb_eq canonical (regionIdx n) (regionSub n) v
  obtain e | e := applySetting_descriptor hn v f s <;> rw [e]
  · exact stored
  · exact (startLedgerZero_sameDescriptors _ n hn).trans stored

theorem applySetting_mgmt (key v f : Nat) (s : State) : (applySetting key v f s).mgmt = s.mgmt :=
  (applySetting_fr (Fr.refl 68485440 s)).mgmt (by decide)

/-! ### What reports leave of the settings -/

/-- The settings that wait for a tide in `t` are those of `s`, and its objects are in canonical form if those of `s` are. -/
structure KeepsSettings (s t : State) : Prop where
  pendingTide : t.mgmt.pendingTide = s.mgmt.pendingTide
  objects : Canonical objDefault s.obj → Canonical objDefault t.obj

namespace KeepsSettings

theorem refl (s : State) : KeepsSettings s s := ⟨rfl, id⟩

theorem trans {s t u : State} (h : KeepsSettings s t) (k : KeepsSettings t u) : KeepsSettings s u :=
  ⟨k.pendingTide.trans h.pendingTide, k.objects ∘ h.objects⟩

theorem of_eq {s t : State} (settings : t.mgmt.pendingTide = s.mgmt.pendingTide) (objects : t.obj = s.obj) : KeepsSettings s t :=
  ⟨settings, fun c => objects ▸ c⟩

theorem setOb (s : State) (i a v : Nat) : KeepsSettings s (s.setOb i a v) := ⟨rfl, fun c => State.setOb_canonical c i a v⟩

theorem bump (s : State) (i a : Nat) : KeepsSettings s (s.bump i a) := setOb s i a _

/-- A counter counts once something else has changed that is neither a setting nor an object. -/
theorem bump_of_eq {s t : State} {i a : Nat} (settings : t.mgmt.pendingTide = s.mgmt.pendingTide) (objects : t.obj = s.obj) :
    KeepsSettings s (t.bump i a) := (of_eq settings objects).trans (bump t i a)

theorem ite {s x y : State} {c : Prop} [Decidable c] (hx : KeepsSettings s x) (hy : KeepsSettings s y) :
    KeepsSettings s (if c then x else y) := by
  split <;> assumption

theorem forEach {α : Type} (l : List α) (f : α → State → State) (each : ∀ x s, KeepsSettings s (f x s)) (s : State) :
    KeepsSettings s (forEach l f s) := forEach_related refl trans l f each s

end KeepsSettings

theorem ringPlace_keepsSettings (e : LogEntry) (s : State) : KeepsSettings s (ringPlace e s) := by
  unfold ringPlace
  dsimp only
  refine .ite (.of_eq rfl rfl) (.ite (.bump s _ _) ?_)
  split
  · exact .bump_of_eq rfl rfl
  · exact .bump s _ _

theorem notifyQueue_keepsSettings (n : Nat) (e : LogEntry) (s : State) : KeepsSettings s (notifyQueue n e s) := by
  unfold notifyQueue
  dsimp only
  split
  · exact .bump_of_eq rfl rfl
  · refine .ite (.of_eq rfl rfl) ?_
    split
    · exact .bump_of_eq rfl rfl
    · exact .of_eq rfl rfl

theorem notifyAll_keepsSettings (e : LogEntry) (s : State) : KeepsSettings s (notifyAll e s) :=
  .ite (notifyQueue_keepsSettings 5 e s) (.forEach _ _ (fun n => notifyQueue_keepsSettings n e) s)

theorem logEntry_keepsSettings (e : LogEntry) (s : State) : KeepsSettings s (logEntry e s) := by
  unfold logEntry
  extract_lets seen counted m e' unmirrored _ _ mirrored _ logged notified placed
  have h₁ : KeepsSettings s counted := (KeepsSettings.bump s _ _).trans (.ite (.refl seen) (.bump seen _ _))
  have h₂ : KeepsSettings counted unmirrored := .ite (.bump counted _ _) (.refl counted)
  have h₃ : KeepsSettings unmirrored mirrored := .ite (.of_eq rfl rfl) (.refl unmirrored)
  have h₄ : KeepsSettings mirrored logged := .of_eq rfl rfl
  have h₅ : KeepsSettings logged notified := notifyAll_keepsSettings e' logged
  have h₆ : KeepsSettings notified placed := .ite (ringPlace_keepsSettings e' notified) (.refl notified)
  exact h₁.trans <| h₂.trans <| h₃.trans <| h₄.trans <| h₅.trans <| h₆.trans <| .ite (.of_eq rfl rfl) (.refl placed)

theorem logEvent_keepsSettings (e : Event) (s : State) : KeepsSettings s (logEvent e s) := by
  have limited (l : List Limiter) : KeepsSettings s { s with mgmt := { s.mgmt with limiters := l } } := .of_eq rfl rfl
  unfold logEvent
  refine .ite (.bump s _ _) ?_
  dsimp only
  split
  · exact logEntry_keepsSettings _ _
  · split
    · exact .ite (limited _) ((limited _).trans (logEntry_keepsSettings _ _))
    · exact (limited _).trans (logEntry_keepsSettings _ _)

/-- Raising an event keeps the settings. -/
theorem raiseEvent_keepsSettings (e : Event) (s : State) : KeepsSettings s (raiseEvent e s) :=
  .ite (.refl s) (.ite (.ite (.of_eq rfl rfl) (.bump_of_eq rfl rfl)) (logEvent_keepsSettings e s))

theorem raise_keepsSettings (code inst detail : Nat) (s : State) : KeepsSettings s (raise code inst detail s) :=
  raiseEvent_keepsSettings _ s

theorem raiseNode_keepsSettings (code detail : Nat) (s : State) : KeepsSettings s (raiseNode code detail s) :=
  raiseEvent_keepsSettings _ s

/-- Answering a request keeps the settings. -/
theorem answer_keepsSettings (r : Req) (status detail : Nat) (s : State) : KeepsSettings s (answer r status detail s) := by
  unfold answer respond sendResponse
  split
  · exact .of_eq rfl rfl
  · exact .bump_of_eq rfl rfl
  · exact .of_eq rfl rfl

theorem countFrame_keepsSettings (r : Req) (s : State) : KeepsSettings s (countFrame r s) := by
  have heard : KeepsSettings s (heardFrom r s) := by rw [heardFrom_parts]; exact .of_eq rfl rfl
  refine heard.trans ?_
  unfold countFrame
  dsimp only
  split
  · exact .bump _ _ _
  · exact .bump_of_eq rfl rfl
  · exact .refl _

/-- A request that is begun keeps the settings. -/
theorem begun_keepsSettings (r : Req) (s : State) : KeepsSettings s (s.begun r) :=
  (countFrame_keepsSettings r s).trans (.of_eq rfl rfl)

/-- A request that is begun leaves the descriptors. -/
theorem begun_sameDescriptors (r : Req) (s : State) : SameDescriptors s (s.begun r) := by
  have heard : SameDescriptors s (heardFrom r s) := .of_obj (by rw [heardFrom_parts])
  exact heard.trans ((SameDescriptors.of_reports (countFrame_reports r s)).trans (.of_obj rfl))

theorem begun_power (r : Req) (s : State) : (s.begun r).power = s.power := countFrame_power s r

theorem answer_sameDescriptors (r : Req) (status detail : Nat) (s : State) : SameDescriptors s (answer r status detail s) :=
  .of_reports (answer_reports r status detail s)

/-! ### A refusal for want of an owner session -/

/-- The state that a refusal under reason 0x07 leaves to be answered. -/
def refuseGuarded (n : Nat) (s : State) : State :=
  raise Ev.descriptorRefused n 7 ((raiseNode Ev.secureWriteRefused 0 s).setOb 0x2110 2 7)

theorem refuseGuarded_keepsSettings (n : Nat) (s : State) : KeepsSettings s (refuseGuarded n s) :=
  (raiseNode_keepsSettings _ _ s).trans ((KeepsSettings.setOb _ 0x2110 2 7).trans (raise_keepsSettings _ _ _ _))

theorem refuseGuarded_sameDescriptors (n : Nat) (s : State) : SameDescriptors s (refuseGuarded n s) :=
  (SameDescriptors.of_reports (raiseNode_reports _ _ s)).trans ((SameDescriptors.setOb _ 7).trans (.of_reports (raise_reports _ _ _ _)))

/-- Its reason stands in 0x2110:02. -/
theorem refuseGuarded_reason {s : State} (canonical : Canonical objDefault s.obj) (n : Nat) : (refuseGuarded n s).ob 0x2110 2 = 7 := by
  have raised := (raiseNode_keepsSettings Ev.secureWriteRefused 0 s).objects canonical
  exact ((raise_reports Ev.descriptorRefused n 7 _).objects 0x2110 2 (by decide) rfl).trans (State.ob_setOb_eq raised 0x2110 2 7)

/-! ### The obligation -/

/-- Settles O55: the command comes to the home operation of the descriptor, which denies the write, applies it or leaves it to the next
tide as its reason and the node's state say; counting the frame, raising the events and answering leave the descriptors and what waits. -/
theorem regionDescriptors : Obligations.RegionDescriptors := by
  unfold Obligations.RegionDescriptors
  intro s r n why value t p inv hn applies begun pending reason
  have reason : why = t.regionWriteReason n (leNat value) (s.isOwner r) := by
    have pending : p = t.regionPending n := pending
    rw [reason, pending]
    rfl
  have command := exec_regionDescriptorWrite_applies hn applies
  rw [← begun] at command
  have kept : KeepsSettings s t := begun ▸ begun_keepsSettings r s
  have same : SameDescriptors s t := begun ▸ begun_sameDescriptors r s
  have node : t.power.node = s.power.node := by rw [begun, begun_power]
  have canonical := kept.objects inv.objects
  refine ⟨?denied, ?guarded, ?config, ?waits⟩
  case denied =>
    intro breaks other
    rw [reason] at breaks other
    rw [command, regionHome_denied _ breaks other, reason]
    rfl
  case guarded =>
    intro guarded
    rw [reason] at guarded
    rw [regionHome_guarded _ guarded] at command
    refine ⟨answer r St.denied 9 (refuseGuarded n t), command, ?_, ?_, ?_⟩
    · exact ((answer_reports r _ _ _).objects 0x2110 2 (by decide) rfl).trans (refuseGuarded_reason canonical n)
    · exact (same.trans ((refuseGuarded_sameDescriptors n t).trans (answer_sameDescriptors r _ _ _))).region hn
    · exact (kept.trans ((refuseGuarded_keepsSettings n t).trans (answer_keepsSettings r _ _ _))).pendingTide
  case config =>
    intro accepted config
    rw [reason] at accepted
    rw [regionHome_config _ accepted (node.trans config)] at command
    have stored := (answer_sameDescriptors r St.ok 0 _ n hn).trans (applySetting_descriptor_ob hn canonical (leNat value) 0)
    refine ⟨_, command, stored, congrArg decodeRegion stored, ?_⟩
    calc (answer r St.ok 0 (applySetting (objKey (regionIdx n) (regionSub n)) (leNat value) 0 t)).mgmt.pendingTide
      _ = (applySetting (objKey (regionIdx n) (regionSub n)) (leNat value) 0 t).mgmt.pendingTide :=
        (answer_keepsSettings r _ _ _).pendingTide
      _ = t.mgmt.pendingTide := by rw [applySetting_mgmt]
      _ = s.mgmt.pendingTide := kept.pendingTide
  case waits =>
    intro accepted other
    rw [reason] at accepted
    rw [regionHome_waits _ accepted (node ▸ other)] at command
    refine ⟨_, command, ?_, ?_⟩
    · exact (same.trans (answer_sameDescriptors r _ _ (pendTide _ _ t))).region hn
    · rw [← kept.pendingTide]
      exact (answer_keepsSettings r _ _ (pendTide _ _ t)).pendingTide

end Sys2Proof.Machine

/-!
PROOF. How an armed tide is decided (R78, R79): what a node that takes a sequenced parcel does (R331, R333), the commands of a decision
branch by branch, and the settling of O35.
-/
namespace Sys2Proof.Machine

-- One proof after another: proofs that wait for each other in parallel, each on a stack of its own, would exceed the check's memory.
set_option Elab.async false

/-! ### Stores at a key that holds no default -/

/-- A read after a write of what is no default, in any store. -/
theorem look_put_of_ne {V : Type} [DecidableEq V] {d v : V} (other : v ≠ d) (k : Nat) (m : Store V) : look d k (put d k v m) = v := by
  induction m with
  | nil => simp [put, look, other]
  | cons p m ih =>
    obtain ⟨i, x⟩ := p
    obtain lt | rfl | gt := Nat.lt_trichotomy i k
    · simp [put, look, lt, lt.ne, ih]
    · simp [put, look, other]
    · simp [put, look, gt.not_gt, gt.ne', other]

/-- Of two writes at a key, the first no default, the second stands. -/
theorem put_put_of_ne {V : Type} [DecidableEq V] {d v : V} (other : v ≠ d) (w : V) (k : Nat) (m : Store V) :
    put d k w (put d k v m) = put d k w m := by
  induction m with
  | nil => simp [put, other]
  | cons p m ih =>
    obtain ⟨i, x⟩ := p
    obtain lt | rfl | gt := Nat.lt_trichotomy i k
    · simp [put, lt, ih]
    · simp [put, other]
    · simp [put, gt.not_gt, gt.ne', other]

/-! ### A sequenced parcel that is taken -/

section
variable {s : State} {h : Nat} {p : HPort}

/-- A port that has been greeted is not as reset leaves it. -/
theorem HPort.ne_reset_of_greeted (greeted : p.greeted = true) : p ≠ .reset := by
  rintro rfl
  exact absurd greeted (by decide)

theorem State.setPort_port_of_greeted (greeted : p.greeted = true) : (s.setPort h p).port h = p :=
  look_put_of_ne (HPort.ne_reset_of_greeted greeted) _ _

theorem State.setPort_setPort_of_greeted (greeted : p.greeted = true) (q : HPort) : (s.setPort h p).setPort h q = s.setPort h q := by
  simp only [State.setPort, put_put_of_ne (HPort.ne_reset_of_greeted greeted)]

end

@[simp] theorem countParcel_hl (j h : Nat) (hdr : Hdr) (s : State) : (countParcel j h hdr s).hl = s.hl :=
  (countParcel_fr (Fr.refl 64 s)).hl (by decide)

@[simp] theorem countParcel_pins (j h : Nat) (hdr : Hdr) (s : State) : (countParcel j h hdr s).pins = s.pins :=
  (countParcel_fr (Fr.refl 64 s)).pins (by decide)

@[simp] theorem State.arrived_me (s : State) (h : Nat) (hdr : Hdr) : (s.arrived h hdr).me = s.me := by
  simp [State.arrived, State.me]

@[simp] theorem State.arrived_flow (s : State) (h : Nat) (hdr : Hdr) (k : Nat) : (s.arrived h hdr).flow k = s.flow k := by
  simp [State.arrived, State.flow, State.setPort]

/-- A port on which something has arrived (R344). -/
def HPort.heardAt (p : HPort) (now : Nat) : HPort := { p with lastReceived := now, silent := false }

theorem heard_of_not_silent {s : State} {h : Nat} (heardOf : (s.port h).silent = false) :
    heard h s = s.setPort h ((s.port h).heardAt s.now) := by
  simp [heard, heardOf, HPort.heardAt]

/-- The parcel that a greeted port expects next passes the hop check (R331). -/
theorem hopCheck_expected {s : State} {h : Nat} {hdr : Hdr} (live : (s.port h).live = true) (greeted : (s.port h).greeted = true)
    (heardOf : (s.port h).silent = false) (short : hdr.len ≤ 8) (free : hdr.free = 0) (next : hdr.hop = (s.port h).rxHop)
    (act : State → State) : hopCheck h hdr true act s = ackDue h (act (s.arrived h hdr)) := by
  have hears := heard_of_not_silent heardOf
  have greets : ((s.port h).heardAt s.now).greeted = true := greeted
  have port : (heard h s).port h = (s.port h).heardAt s.now := by rw [hears, State.setPort_port_of_greeted greets]
  have formed : (decide (8 < hdr.len) || hdr.free != 0 || !true) = false := by simp [free, short]
  have expected : hdr.hop = ((s.port h).heardAt s.now).rxHop := next
  unfold hopCheck
  dsimp only
  rw [if_neg (by simp [live, greeted]), formed, if_neg Bool.false_ne_true, port, if_pos expected, hears,
    State.setPort_setPort_of_greeted greets]
  rfl

/-- The number that its flow expects next is delivered (R333). -/
theorem flowCheck_expected {s : State} {hdr : Hdr} (next : hdr.e2e = (s.flow (flowKey hdr.origin s.me hdr.cls)).rx)
    (deliver : State → State) : flowCheck hdr deliver s =
      deliver (s.setFlow (flowKey hdr.origin s.me hdr.cls) { s.flow (flowKey hdr.origin s.me hdr.cls) with
        rx := ((s.flow (flowKey hdr.origin s.me hdr.cls)).rx + 1) % 65536 }) := by
  simp [flowCheck, next]

/-- A parcel that is taken is acted on in the state `taken`, and then HOP_ACK may be due. -/
theorem takeParcel_takes {s : State} {h : Nat} {hdr : Hdr} (takes : s.takes h hdr = true) (body : List Byte)
    (deliver : State → State) : takeParcel h hdr body deliver s = ackDue h (deliver (s.taken h hdr)) := by
  simp only [State.takes, Bool.and_eq_true, decide_eq_true_eq, beq_iff_eq, Bool.not_eq_true'] at takes
  obtain ⟨⟨⟨⟨⟨⟨⟨⟨⟨_, joined⟩, live⟩, greeted⟩, heardOf⟩, short⟩, free⟩, hop⟩, mine⟩, flow⟩ := takes
  have flow' : hdr.e2e = ((s.arrived h hdr).flow (flowKey hdr.origin (s.arrived h hdr).me hdr.cls)).rx := by simpa using flow
  unfold takeParcel takeChecked
  rw [if_neg (by simp [joined]), hopCheck_expected live greeted heardOf short free hop, State.arrived_me, if_pos mine,
    flowCheck_expected flow', State.arrived_me]
  rfl

theorem portOk_of_takes {s : State} {h : Nat} {hdr : Hdr} (takes : s.takes h hdr = true) : portOk h = true := by
  simp only [State.takes, Bool.and_eq_true] at takes
  exact takes.1.1.1.1.1.1.1.1.1

/-! ### The points of a decision -/

@[simp] theorem flood_plans (sub : Nat) (body : List Byte) (s : State) : (flood sub body s).plans = s.plans :=
  (flood_fr (Fr.refl 256 s)).plans (by decide)

section
variable {s : State}

/-- Eight frames before an undecided tide its lead prepares it once. -/
theorem prepareTide_due (lead : s.isLead = true) (ahead : s.tideAhead = true) (undecided : s.plans.decision = none)
    (first : s.plans.prepared = false) (due : s.before s.armedTide 8 = true) :
    prepareTide s =
      let id := if s.planState = 4 then 0 else (s.plans.loaded.map (·.id)).getD 0
      flood 6 (leBytes 8 s.armedTide ++ leBytes 8 id) (s.setPlans { s.plans with prepared := true, votes := [(s.me, s.vote id)] }) := by
  simp [prepareTide, lead, ahead, undecided, first, due]

/-- At the commit point of a prepared, undecided tide its lead floods the decision. -/
theorem commitPoint_due (lead : s.isLead = true) (ahead : s.tideAhead = true) (undecided : s.plans.decision = none)
    (prepared : s.plans.prepared = true) (due : s.before s.armedTide 4 = true) :
    commitPoint s =
      if s.allReady then commitTide (flood 8 (leBytes 8 s.armedTide) s)
      else deferTide (raiseNode Ev.tideDeferred 0 (flood 9 (leBytes 8 s.armedTide) s)) := by
  simp [commitPoint, lead, ahead, undecided, prepared, due]

theorem decisionMissing_due (ahead : s.tideAhead = true) (undecided : s.plans.decision = none) (due : s.before s.armedTide 1 = true) :
    decisionMissing s = (raiseNode Ev.tideIsolated 0 (unarm s)).setPlans
      { (raiseNode Ev.tideIsolated 0 (unarm s)).plans with isolated := true } := by
  simp [decisionMissing, ahead, undecided, due]

/-- Only the lead prepares. -/
theorem prepareTide_of_member (member : s.isLead = false) : prepareTide s = s := by simp [prepareTide, member]

/-- Only the lead decides. -/
theorem commitPoint_of_member (member : s.isLead = false) : commitPoint s = s := by simp [commitPoint, member]

/-- A tide that is not ahead, or is decided, leaves nothing to decide. -/
theorem tideAhead_and_undecided_eq_false (settled : s.plans.decision ≠ none ∨ s.tideAhead = false) :
    (s.tideAhead && s.plans.decision.isNone) = false := by
  obtain decided | past := settled
  · simp [Option.isSome_iff_ne_none, decided]
  · simp [past]

theorem prepareTide_settled (settled : s.plans.decision ≠ none ∨ s.tideAhead = false) : prepareTide s = s := by
  have none_due := tideAhead_and_undecided_eq_false settled
  unfold prepareTide
  rw [if_pos (by grind)]

theorem commitPoint_settled (settled : s.plans.decision ≠ none ∨ s.tideAhead = false) : commitPoint s = s := by
  have none_due := tideAhead_and_undecided_eq_false settled
  unfold commitPoint
  rw [if_pos (by grind)]

theorem decisionMissing_settled (settled : s.plans.decision ≠ none ∨ s.tideAhead = false) : decisionMissing s = s := by
  have none_due := tideAhead_and_undecided_eq_false settled
  unfold decisionMissing
  rw [if_neg (by grind)]

end

/-! ### The end of an arming -/

section
variable (s : State)

@[simp] theorem unarm_plans : (unarm s).plans =
    { s.plans with stopping := false, prepared := false, votes := [], decision := none } := rfl

theorem unarm_canonical {s : State} (canonical : Canonical objDefault s.obj) : Canonical objDefault (unarm s).obj :=
  State.setOb_canonical (s := (setPlanState s.plans.armedFrom s).setPlans _) (State.setOb_canonical canonical _ _ _) _ _ _

/-- The plan state goes back to that held before arming. -/
theorem unarm_planState {s : State} (canonical : Canonical objDefault s.obj) : (unarm s).planState = s.plans.armedFrom :=
  (State.ob_setOb_ne _ (by decide)).trans (State.ob_setOb_eq canonical 0x2200 6 _)

/-- No tide is armed any more. -/
theorem unarm_tide {s : State} (canonical : Canonical objDefault s.obj) : (unarm s).ob 0x2200 7 = 0 :=
  State.ob_setOb_eq (s := (setPlanState s.plans.armedFrom s).setPlans _) (State.setOb_canonical canonical _ _ _) 0x2200 7 0

end

/-! ### The parcels of a decision, as they are taken -/

section
variable {s : State} {h frame plan v : Nat} {hdr : Hdr} (takes : s.takes h hdr = true) (frameFits : frame < 2 ^ 64)
include takes frameFits

theorem exec_prepare_takes (planFits : plan < 2 ^ 64) :
    exec (.prepare h hdr frame plan) s = .next (ackDue h (takePrepare frame plan (s.taken h hdr))) := by
  change execPrepare h hdr frame plan s = _
  rw [execPrepare, if_pos (portOk_of_takes takes), takeParcel_takes takes, Nat.mod_eq_of_lt frameFits, Nat.mod_eq_of_lt planFits]

theorem exec_vote_takes (voteFits : v < 256) :
    exec (.vote h hdr frame v) s = .next (ackDue h (takeVote hdr.origin (v == 1) frame (s.taken h hdr))) := by
  change execVote h hdr frame v s = _
  rw [execVote, if_pos (portOk_of_takes takes), takeParcel_takes takes, Nat.mod_eq_of_lt frameFits, Nat.mod_eq_of_lt voteFits]

/-- COMMIT and DEFER concern the tide that this node is armed for. -/
theorem exec_commitTide_takes : exec (.commitTide h hdr frame) s = .next (ackDue h
    (if (s.taken h hdr).planArmed && (s.taken h hdr).armedTide = frame then commitTide (s.taken h hdr) else s.taken h hdr)) := by
  change execCommitTide h hdr frame s = _
  rw [execCommitTide, if_pos (portOk_of_takes takes), takeParcel_takes takes, Nat.mod_eq_of_lt frameFits]

theorem exec_deferTide_takes : exec (.deferTide h hdr frame) s = .next (ackDue h
    (if (s.taken h hdr).planArmed && (s.taken h hdr).armedTide = frame then deferTide (s.taken h hdr) else s.taken h hdr)) := by
  change execDeferTide h hdr frame s = _
  rw [execDeferTide, if_pos (portOk_of_takes takes), takeParcel_takes takes, Nat.mod_eq_of_lt frameFits]

end

section
variable {s : State} {frame plan : Nat}

/-- What PREPARE leaves of an armed node: the lead's frame is the target, and no decision holds. -/
def retarget (frame : Nat) (s : State) : State := (s.setOb 0x2200 7 frame).setPlans { s.plans with decision := none }

@[simp] theorem retarget_planArmed (frame : Nat) (s : State) : (retarget frame s).planArmed = s.planArmed := by
  have kept : (retarget frame s).planState = s.planState := State.ob_setOb_ne s (by decide)
  simp only [State.planArmed, kept]

/-- The answer to PREPARE: the vote of an armed node, or not ready. -/
def answerPrepare (frame plan : Nat) (s : State) : State :=
  sendControl 7 s.hl.set.lead (leBytes 8 frame ++ leBytes 1 (if s.planArmed && s.vote plan then 1 else 2) ++ zeroBytes 7) s

theorem takePrepare_eq (frame plan : Nat) (s : State) :
    takePrepare frame plan s = answerPrepare frame plan (if s.planArmed then retarget frame s else s) := rfl

/-- An armed node answers PREPARE with its vote for the lead's target. -/
theorem takePrepare_armed (armed : s.planArmed = true) : takePrepare frame plan s =
    sendControl 7 (retarget frame s).hl.set.lead
      (leBytes 8 frame ++ leBytes 1 (if (retarget frame s).vote plan then 1 else 2) ++ zeroBytes 7) (retarget frame s) := by
  rw [takePrepare_eq, if_pos armed, answerPrepare, retarget_planArmed, armed, Bool.true_and]

/-- A node that is not armed answers that it is not ready. -/
theorem takePrepare_not_armed (idle : s.planArmed = false) : takePrepare frame plan s =
    sendControl 7 s.hl.set.lead (leBytes 8 frame ++ leBytes 1 2 ++ zeroBytes 7) s := by
  simp [takePrepare_eq, answerPrepare, idle]

/-- The lead keeps the last vote of each node. -/
theorem takeVote_lead {node : Nat} {ready : Bool} (lead : s.isLead = true) (prepared : s.plans.prepared = true)
    (tide : s.armedTide = frame) : takeVote node ready frame s =
      s.setPlans { s.plans with votes := s.plans.votes.filter (fun x => x.1 != node) ++ [(node, ready)] } := by
  simp [takeVote, lead, prepared, tide]

/-- Below 16 deferrals in a row the plan is armed for the next tide. -/
theorem deferTide_again (few : s.ob 0x2200 8 + 1 < 16) : deferTide s =
    ((s.setOb 0x2200 8 (s.ob 0x2200 8 + 1)).setOb 0x2200 7 (s.tideFrom (s.armedTide + 1))).setPlans
      { s.plans with prepared := false, votes := [], decision := none } := by
  simp [deferTide, few.not_ge]

/-- The sixteenth deferral ends the arming (R78, R79). -/
theorem deferTide_fails (many : 16 ≤ s.ob 0x2200 8 + 1) : deferTide s =
    raiseNode Ev.armFailed (s.ob 0x2200 8 + 1) (unarm (s.setOb 0x2200 8 (s.ob 0x2200 8 + 1))) := by
  simp [deferTide, many]

end

/-! ### The obligation -/

/-- Settles O35: the points of a decision branch by branch, and the parcels in the state in which they are taken. -/
theorem tideVotes : Obligations.TideVotes := by
  unfold Obligations.TideVotes
  intro s inv
  refine ⟨fun lead ahead undecided => ⟨?prepares, ?commits⟩, ?member, ?missing, ?settled, ?parcels⟩
  case prepares =>
    rintro id first due rfl
    exact congrArg Host.Outcome.next (prepareTide_due lead ahead undecided first due)
  case commits =>
    intro prepared due
    have point : exec .commitPoint s = .next (commitPoint s) := rfl
    rw [point, commitPoint_due lead ahead undecided prepared due]
    refine ⟨fun ready => ⟨_, point, ?_⟩, fun waiting => ?_⟩
    · rw [commitPoint_due lead ahead undecided prepared due, if_pos ready]
      simp [commitTide]
    · simp [waiting]
  case member =>
    intro member
    exact ⟨congrArg Host.Outcome.next (prepareTide_of_member member), congrArg Host.Outcome.next (commitPoint_of_member member)⟩
  case missing =>
    intro ahead undecided due
    have raised := raiseNode_reports Ev.tideIsolated 0 (unarm s)
    refine ⟨_, congrArg Host.Outcome.next (decisionMissing_due ahead undecided due), ?_, ?_, ?_⟩
    · exact (raised.objects 0x2200 6 (by decide) rfl).trans (unarm_planState inv.objects)
    · exact (raised.objects 0x2200 7 (by decide) rfl).trans (unarm_tide inv.objects)
    · simp
  case settled =>
    intro settled
    exact ⟨congrArg Host.Outcome.next (decisionMissing_settled settled), congrArg Host.Outcome.next (prepareTide_settled settled),
      congrArg Host.Outcome.next (commitPoint_settled settled)⟩
  case parcels =>
    rintro h hdr frame plan v u takes rfl frameFits planFits
    rw [exec_prepare_takes takes frameFits planFits, exec_commitTide_takes takes frameFits, exec_deferTide_takes takes frameFits]
    refine ⟨fun armed => ?_, fun idle => ?_, fun lead prepared tide voteFits => ?_, fun armed tide => ⟨?_, ?_, ?_⟩, fun idle => ?_⟩
    · rw [takePrepare_armed armed]
      rfl
    · rw [takePrepare_not_armed idle]
    · rw [exec_vote_takes takes frameFits voteFits, takeVote_lead lead prepared tide]
    · simp [armed, tide, commitTide]
    · intro few
      simp [armed, tide, deferTide_again few]
    · intro many
      simp [armed, tide, deferTide_fails many]
    · simp [idle]

end Sys2Proof.Machine

/-!
PROOF. The plan commands and the end of a LOAD (R70, R71, R73, R77, R81). LOAD reads its image through the open path, so the first half says
that no operation which offers, serves, refuses or completes a request, and no event raised on the way, writes the plan objects or the
set-wide writes; the second half says what each command leaves, and settles O34.
-/
namespace Sys2Proof.Machine

-- One proof after another: proofs that wait for each other in parallel, each on a stack of its own, would exceed the check's memory.
set_option Elab.async false

/-! ### The view of a plan command -/

/-- What the plan commands report, and the lead's order: the set-wide writes under way, the objects 0x2200 and the objects 0x2201. -/
def State.planView (s : State) : List SetWrite × (Fin 256 → Nat) × (Fin 256 → Nat) :=
  (s.mgmt.setWrites, fun a => s.ob 0x2200 a, fun a => s.ob 0x2201 a)

section
variable {s t : State}

theorem State.setWrites_of_planView (same : t.planView = s.planView) : t.mgmt.setWrites = s.mgmt.setWrites := congrArg (·.1) same

theorem State.ob2200_of_planView (same : t.planView = s.planView) (a : Nat) (fits : a < 256 := by decide) :
    t.ob 0x2200 a = s.ob 0x2200 a := congrArg (fun v => v.2.1 ⟨a, fits⟩) same

theorem State.ob2201_of_planView (same : t.planView = s.planView) (a : Nat) (fits : a < 256 := by decide) :
    t.ob 0x2201 a = s.ob 0x2201 a := congrArg (fun v => v.2.2 ⟨a, fits⟩) same

theorem planView_of_eq (obj : t.obj = s.obj) (writes : t.mgmt.setWrites = s.mgmt.setWrites) : t.planView = s.planView := by
  simp only [State.planView, State.ob, obj, writes]

/-- An operation that writes neither objects nor management state. -/
theorem planView_of_fr (frame : Fr 134217535 s t) : t.planView = s.planView :=
  planView_of_eq (frame.obj (by decide)) (congrArg _ (frame.mgmt (by decide)))

end

@[simp] theorem forEach_planView {α : Type} (l : List α) (f : α → State → State) (each : ∀ x s, (f x s).planView = s.planView)
    (s : State) : (forEach l f s).planView = s.planView :=
  forEach_related (rel := fun s t => t.planView = s.planView) (fun _ => rfl) (fun h k => k.trans h) l f each s

/-- Of two states that view alike, whichever a command goes on with. -/
theorem ite_planView {s x y : State} {c : Prop} [Decidable c] (hx : x.planView = s.planView) (hy : y.planView = s.planView) :
    (if c then x else y).planView = s.planView := by
  split <;> assumption

/-! ### Other objects -/

section
variable (s : State) {i : Nat} (above : 0x2201 < i)
include above

@[simp] theorem setOb_planView (a v : Nat) : (s.setOb i a v).planView = s.planView := by
  have other (j : Nat) (low : j ≤ 0x2201) (b : Fin 256) : (s.setOb i a v).ob j b = s.ob j b :=
    State.ob_setOb_ne s (by unfold objKey; omega)
  simp only [State.planView, other 0x2200 (by decide), other 0x2201 (by decide), State.setOb_mgmt]

@[simp] theorem bumpBy_planView (a n : Nat) : (s.bumpBy i a n).planView = s.planView := setOb_planView s above _ _
@[simp] theorem bump_planView (a : Nat) : (s.bump i a).planView = s.planView := setOb_planView s above _ _
@[simp] theorem peak_planView (a v : Nat) : (s.peak i a v).planView = s.planView := ite_planView (setOb_planView s above a v) rfl
@[simp] theorem count_planView (j n : Nat) : (count i j n s).planView = s.planView := ite_planView rfl (setOb_planView s above _ _)
@[simp] theorem countIf_planView (j n : Nat) (c : Cause) : (countIf i j n c s).planView = s.planView :=
  ite_planView (count_planView s above j n) rfl

end

@[simp] theorem setOb_planView_below (s : State) {i a : Nat} (below : i < 0x2200) (fits : a < 256) (v : Nat) :
    (s.setOb i a v).planView = s.planView := by
  have other (j : Nat) (high : 0x2200 ≤ j) (b : Fin 256) : (s.setOb i a v).ob j b = s.ob j b :=
    State.ob_setOb_ne s (by unfold objKey; omega)
  simp only [State.planView, other 0x2200 (by decide), other 0x2201 (by decide), State.setOb_mgmt]

@[simp] theorem bump_planView_below (s : State) {i a : Nat} (below : i < 0x2200) (fits : a < 256) :
    (s.bump i a).planView = s.planView := setOb_planView_below s below fits _

/-! ### Their indices -/

@[simp] theorem planObjects_lt_chanIdx (c : Nat) : 0x2201 < chanIdx c := by unfold chanIdx; omega
@[simp] theorem planObjects_lt_unitIdx (u : Nat) : 0x2201 < unitIdx u := by unfold unitIdx; omega
@[simp] theorem planObjects_lt_classIdx (l : Nat) : 0x2201 < classIdx l := by unfold classIdx; omega
@[simp] theorem planObjects_lt_regIdx (r : Nat) : 0x2201 < regIdx r := by unfold regIdx; omega
@[simp] theorem planObjects_lt_sliceIdx (x : Nat) : 0x2201 < 0x2510 + x := by omega
@[simp] theorem planObjects_lt_unitBank (u : Nat) : 0x2201 < unitBank u := by unfold unitBank; omega
@[simp] theorem planObjects_lt_sliceBank (x : Nat) : 0x2201 < sliceBank x := by unfold sliceBank; omega
@[simp] theorem planObjects_lt_farBank : 0x2201 < farBank := by decide
@[simp] theorem planObjects_lt_breakwaterBank : 0x2201 < breakwaterBank := by decide

/-! ### Operations that write no objects -/

section
variable (s : State)
@[simp] theorem setPath_planView (p : Path) : (s.setPath p).planView = s.planView :=
  planView_of_fr (State.setPath_fr (Fr.refl _ s))
@[simp] theorem modChan_planView (c : Nat) (f : Chan → Chan) : (s.modChan c f).planView = s.planView :=
  planView_of_fr (State.modChan_fr (Fr.refl _ s))
@[simp] theorem takeOrder_planView : (s.takeOrder).planView = s.planView :=
  planView_of_fr (State.takeOrder_fr (Fr.refl _ s))
@[simp] theorem setAsks_planView (l : List Ask) : (s.setAsks l).planView = s.planView :=
  planView_of_fr (State.setAsks_fr (Fr.refl _ s))
@[simp] theorem modAsk_planView (id : Nat) (f : Ask → Ask) : (s.modAsk id f).planView = s.planView :=
  planView_of_fr (State.modAsk_fr (Fr.refl _ s))
@[simp] theorem setCache_planView (c : Cache) : (s.setCache c).planView = s.planView :=
  planView_of_fr (State.setCache_fr (Fr.refl _ s))
@[simp] theorem setWay_planView (k : Nat) (w : Option CWay) : (s.setWay k w).planView = s.planView :=
  planView_of_fr (State.setWay_fr (Fr.refl _ s))
@[simp] theorem setSampler_planView (x : Sampler) : (s.setSampler x).planView = s.planView :=
  planView_of_fr (State.setSampler_fr (Fr.refl _ s))
@[simp] theorem setFar_planView (f : Far) : (s.setFar f).planView = s.planView :=
  planView_of_fr (State.setFar_fr (Fr.refl _ s))
@[simp] theorem modBale_planView (b : Nat) (f : Bale → Bale) : (s.modBale b f).planView = s.planView :=
  planView_of_fr (State.modBale_fr (Fr.refl _ s))
@[simp] theorem setSet_planView (v : SetView) : (s.setSet v).planView = s.planView :=
  planView_of_fr (State.setSet_fr (Fr.refl _ s))
@[simp] theorem send_planView (o : Output) : (s.send o).planView = s.planView :=
  planView_of_fr (State.send_fr (Fr.refl _ s))
@[simp] theorem addAsk_planView (a : Ask) : (addAsk a s).planView = s.planView :=
  planView_of_fr (addAsk_fr (Fr.refl _ s))
@[simp] theorem dropAsk_planView (id : Nat) : (dropAsk id s).planView = s.planView :=
  planView_of_fr (dropAsk_fr (Fr.refl _ s))
@[simp] theorem sampleFlag_planView (kind id num flag : Nat) : (sampleFlag kind id num flag s).planView = s.planView :=
  planView_of_fr (sampleFlag_fr (Fr.refl _ s))
@[simp] theorem sampleEffect_planView (id : Nat) : (sampleEffect id s).planView = s.planView :=
  planView_of_fr (sampleEffect_fr (Fr.refl _ s))
@[simp] theorem sendParcel_planView (d : Nat) (hdr : Hdr) (body : List Byte) : (sendParcel d hdr body s).planView = s.planView :=
  planView_of_fr (sendParcel_fr (Fr.refl _ s))
@[simp] theorem sendCompletion_planView (a : Ask) (status : Nat) (data : Option Nat) :
    (sendCompletion a status data s).planView = s.planView :=
  planView_of_fr (sendCompletion_fr (Fr.refl _ s))
@[simp] theorem sendAccept_planView (a : Ask) : (sendAccept a s).planView = s.planView :=
  planView_of_fr (sendAccept_fr (Fr.refl _ s))
@[simp] theorem sendNotice_planView (node obj v : Nat) : (sendNotice node obj v s).planView = s.planView :=
  planView_of_fr (sendNotice_fr (Fr.refl _ s))
@[simp] theorem tellWatcher_planView (o v w : Nat) : (tellWatcher o v w s).planView = s.planView :=
  planView_of_fr (tellWatcher_fr (Fr.refl _ s))
@[simp] theorem noteEntry_planView (q : Ask) : (noteEntry q s).planView = s.planView :=
  planView_of_fr (noteEntry_fr (Fr.refl _ s))
@[simp] theorem touch_planView (k : Nat) : (touch k s).planView = s.planView :=
  planView_of_fr (touch_fr (Fr.refl _ s))
@[simp] theorem mirrorLine_planView (a : Nat) (w : CWay) : (mirrorLine a w s).planView = s.planView :=
  planView_of_fr (mirrorLine_fr (Fr.refl _ s))
@[simp] theorem closeRecord_planView (r : Red) (broken : Bool) : (closeRecord r broken s).planView = s.planView :=
  planView_of_fr (closeRecord_fr (Fr.refl _ s))
@[simp] theorem useBale_planView (b : Nat) : (useBale b s).planView = s.planView :=
  planView_of_fr (useBale_fr (Fr.refl _ s))
@[simp] theorem queueFar_planView (w : FarOp) : (queueFar w s).planView = s.planView :=
  planView_of_fr (queueFar_fr (Fr.refl _ s))
@[simp] theorem fillMissing_planView (b : Nat) (f : Nat → Nat × Nat) : (fillMissing b f s).planView = s.planView :=
  planView_of_fr (fillMissing_fr (Fr.refl _ s))
@[simp] theorem issueBaleRead_planView (b : Nat) : (issueBaleRead b s).planView = s.planView :=
  planView_of_fr (issueBaleRead_fr (Fr.refl _ s))
@[simp] theorem endRestore_planView (c num : Nat) (line : Option (Nat × Nat)) : (endRestore c num line s).planView = s.planView :=
  planView_of_fr (endRestore_fr (Fr.refl _ s))
@[simp] theorem endTransferRead_planView (num : Nat) (line : Nat → Nat × Nat) :
    (endTransferRead num line s).planView = s.planView :=
  planView_of_fr (endTransferRead_fr (Fr.refl _ s))
@[simp] theorem dropImage_planView : (dropImage s).planView = s.planView :=
  planView_of_fr (dropImage_fr (Fr.refl _ s))

end
/-! ### Events -/

section
variable (s : State)

@[simp] theorem ringPlace_planView (e : LogEntry) : (ringPlace e s).planView = s.planView := by
  have placed (l : List LogEntry) : ({ s with mgmt := { s.mgmt with window := { s.mgmt.window with ring := l } } } : State).planView =
      s.planView := planView_of_eq rfl rfl
  unfold ringPlace
  dsimp only
  refine ite_planView (placed _) (ite_planView (by simp) ?_)
  split
  · exact (bump_planView_below _ (by decide) (by decide)).trans (placed _)
  · simp

@[simp] theorem notifyQueue_planView (n : Nat) (e : LogEntry) : (notifyQueue n e s).planView = s.planView := by
  have queued (l : Store NotifyQueue) : ({ s with mgmt := { s.mgmt with notify := l } } : State).planView = s.planView :=
    planView_of_eq rfl rfl
  have sent (u : State) : (sendNotify n e u).planView = u.planView := by simp [sendNotify]
  unfold notifyQueue
  dsimp only
  split
  · exact (sent _).trans (queued _)
  · refine ite_planView (queued _) ?_
    split
    · exact (bump_planView_below _ (by decide) (by decide)).trans (queued _)
    · exact queued _

@[simp] theorem notifyAll_planView (e : LogEntry) : (notifyAll e s).planView = s.planView :=
  ite_planView (notifyQueue_planView s 5 e) (forEach_planView _ _ (fun n u => notifyQueue_planView u n e) s)

/-- Writing a log entry with all that goes with it (R455). -/
@[simp] theorem logEntry_planView (e : LogEntry) : (logEntry e s).planView = s.planView := by
  unfold logEntry
  extract_lets seen counted m e' unmirrored _ _ mirrored _ logged notified placed
  have h₁ : counted.planView = s.planView :=
    (ite_planView (s := seen) rfl (by simp)).trans (by simp [seen])
  have h₂ : unmirrored.planView = counted.planView := ite_planView (by simp) rfl
  have h₃ : mirrored.planView = unmirrored.planView := ite_planView (planView_of_eq rfl rfl) rfl
  have h₄ : logged.planView = mirrored.planView := planView_of_eq rfl rfl
  have h₅ : notified.planView = logged.planView := notifyAll_planView logged e'
  have h₆ : placed.planView = notified.planView := ite_planView (ringPlace_planView notified e') rfl
  have h₇ : placed.planView = s.planView := by rw [h₆, h₅, h₄, h₃, h₂, h₁]
  exact ite_planView ((planView_of_eq rfl rfl).trans h₇) h₇

@[simp] theorem logEvent_planView (e : Event) : (logEvent e s).planView = s.planView := by
  have limited (l : List Limiter) : ({ s with mgmt := { s.mgmt with limiters := l } } : State).planView = s.planView :=
    planView_of_eq rfl rfl
  unfold logEvent
  refine ite_planView (by simp) ?_
  dsimp only
  split
  · simp
  · split
    · exact ite_planView (limited _) ((logEntry_planView _ _).trans (limited _))
    · exact (logEntry_planView _ _).trans (limited _)

/-- Raising an event (R454). -/
@[simp] theorem raiseEvent_planView (e : Event) : (raiseEvent e s).planView = s.planView := by
  have staged (p : Procs) : ({ s with procs := p } : State).planView = s.planView := planView_of_eq rfl rfl
  exact ite_planView rfl (ite_planView
    (ite_planView (staged _) ((bump_planView_below _ (by decide) (by decide)).trans (staged _))) (logEvent_planView s e))

@[simp] theorem raiseNode_planView (code detail : Nat) : (raiseNode code detail s).planView = s.planView := raiseEvent_planView s _
@[simp] theorem raiseAt_planView (code inst detail : Nat) (secure : Bool) :
    (raiseAt code inst detail secure s).planView = s.planView := raiseEvent_planView s _

/-! ### Requests accepted and completed -/

@[simp] theorem candidate_planView (population : Nat) (c : Cause) (mk : State → Building) :
    (candidate population c mk s).planView = s.planView := by
  unfold candidate
  dsimp only
  exact ite_planView rfl (ite_planView (by simp) (ite_planView (by simp) (by simp)))

@[simp] theorem sampleEnd_planView (kind id num status : Nat) : (sampleEnd kind id num status s).planView = s.planView := by
  have written (b : Building) (u : State) : (writeSample b status u).planView = u.planView := by
    unfold writeSample
    dsimp only
    refine ite_planView (by simp) ?_
    simp only [setSampler_planView]
    rw [setOb_planView _ (by decide), setOb_planView _ (by decide)]
    exact ite_planView (by simp) rfl
  unfold sampleEnd
  split
  · rfl
  · simp [written]

@[simp] theorem acceptAsk_planView (id : Nat) (confirmed : Bool) : (acceptAsk id confirmed s).planView = s.planView := by
  unfold acceptAsk
  split
  · rfl
  · simp

@[simp] theorem countDecision_planView (a : Ask) (status : Nat) : (countDecision a status s).planView = s.planView := by
  unfold countDecision
  dsimp only
  exact ite_planView rfl (ite_planView (by simp) (ite_planView (by simp) (ite_planView (by simp) (ite_planView (by simp) rfl))))

/-- The completion of a request (R10, R269). -/
@[simp] theorem finish_planView (id status : Nat) (data : Option Nat) : (finish id status data s).planView = s.planView := by
  unfold finish
  split
  · rfl
  next a _ =>
    have decided (u : State) : (sampleEffect id (countDecision a status u)).planView = u.planView := by simp
    have sampled (u : State) :
        (if a.internal then (if a.isDrain then u else sampleEnd 0 id 0 status u) else u).planView = u.planView :=
      ite_planView (ite_planView rfl (by simp)) rfl
    refine ite_planView rfl ?_
    dsimp only
    split
    · refine ite_planView ?_ ?_ <;> simp only [sendCompletion_planView, setAsks_planView, sampled, decided, modAsk_planView]
    · simp only [sampled, decided, modAsk_planView]

@[simp] theorem applyAsk_planView (id value : Nat) (data : Option Nat) : (applyAsk id value data s).planView = s.planView := by
  simp [applyAsk]

@[simp] theorem countAccess_planView (status a : Nat) : (countAccess status a s).planView = s.planView := by
  unfold countAccess
  exact ite_planView (by simp) (by simp)

@[simp] theorem startChain_planView (a : Ask) (later : List Ask) : (startChain a later s).planView = s.planView := by
  unfold startChain
  exact ite_planView rfl (by simp)

@[simp] theorem refuseLater_planView (id : Nat) : (refuseLater id s).planView = s.planView := by
  unfold refuseLater
  split
  · rfl
  · simp

@[simp] theorem sliceLater_planView (x id : Nat) : (sliceLater x id s).planView = s.planView := by
  unfold sliceLater
  rw [refuseLater_planView]
  split
  · simp
  · rfl

@[simp] theorem denyAsk_planView (id : Nat) : (denyAsk id s).planView = s.planView := by
  unfold denyAsk
  split
  · rfl
  · dsimp only
    split <;> simp

@[simp] theorem acceptOr_planView (id : Nat) (confirmed : Bool) {f : State → State} (acts : ∀ u, (f u).planView = u.planView) :
    (acceptOr id confirmed f s).planView = s.planView := by
  unfold acceptOr
  split
  · rfl
  · exact ite_planView (acts s) (ite_planView (ite_planView rfl (by simp)) (by simp [acts]))

/-! ### Requests forwarded, and requests of the node's own units -/

@[simp] theorem reissue_planView (n : Nat) : (reissue n s).planView = s.planView := by simp [reissue]

@[simp] theorem forwardAsk_planView (a : Ask) : (forwardAsk a s).planView = s.planView := by
  have again (c : Prop) [Decidable c] (n : Nat) : (if c then reissue n s else s).planView = s.planView := ite_planView (by simp) rfl
  unfold forwardAsk
  dsimp only
  refine ite_planView ?_ (ite_planView ?_ (ite_planView ?_ (ite_planView ?_ ?_)))
  · rw [finish_planView, addAsk_planView]
    split <;> simp [again]
  all_goals simp [again]

@[simp] theorem offerInternal_planView (code cls ctx : Nat) (world : Bool) (a : Nat) (op : Op) (why : Purpose) :
    (offerInternal code cls ctx world a op why s).planView = s.planView := by
  unfold offerInternal
  dsimp only
  exact ite_planView (by simp) (ite_planView (by simp) (ite_planView (by simp) (by simp)))

/-! ### Synchronisation objects -/

@[simp] theorem putSync_planView (o v : Nat) : (putSync o v s).planView = s.planView := by
  simp only [putSync, forEach_planView, finish_planView, tellWatcher_planView, implies_true]
  exact planView_of_eq rfl rfl

@[simp] theorem bumpSync_planView (o n : Nat) (broken : Bool) : (bumpSync o n broken s).planView = s.planView := by
  unfold bumpSync
  rw [putSync_planView]
  exact ite_planView (by simp) rfl

@[simp] theorem signalObject_planView (unit obj addend ctx : Nat) (world broken : Bool) :
    (signalObject unit obj addend ctx world broken s).planView = s.planView := by
  unfold signalObject
  exact ite_planView (ite_planView rfl (by simp)) (by simp)

@[simp] theorem syncApply_planView (a : Ask) (op o operand : Nat) : (syncApply a op o operand s).planView = s.planView := by
  have listed (c : Cache) : ({ s with cache := c } : State).planView = s.planView := planView_of_eq rfl rfl
  unfold syncApply
  dsimp only
  split
  case h_5 =>
    split
    · rw [sendNotice_planView]
      exact (applyAsk_planView _ _ _ _).trans (listed _)
    · exact ite_planView (by simp) (listed _)
  all_goals simp

@[simp] theorem serveSync_planView (id : Nat) : (serveSync id s).planView = s.planView := by
  have applied (a : Ask) (c : Prop) [Decidable c] (op o operand x : Nat) (u : State) :
      (if c then syncApply a op o operand (countIf (sliceBank x) 8 1 (u.askCause a) u) else u).planView = u.planView :=
    ite_planView (by simp) rfl
  unfold serveSync
  split
  · rfl
  · split
    · exact ite_planView rfl (ite_planView (by simp) (ite_planView (ite_planView (by simp) rfl)
        (ite_planView (by simp) (acceptOr_planView s _ _ fun u => applied _ _ _ _ _ _ u))))
    · rfl

/-! ### Atomics -/

@[simp] theorem syncDirty_planView (a : Nat) : (syncDirty a s).planView = s.planView := by simp [syncDirty]

@[simp] theorem startWriteBack_planView (line : Nat) : (startWriteBack line s).planView = s.planView := by
  unfold startWriteBack
  dsimp only
  split
  · exact ite_planView rfl (by simp)
  · rfl

@[simp] theorem applyAtomic_planView (q : Ask) (k : Nat) (w : CWay) (f offset : Nat) (wide fetch : Bool) (a b : Nat) :
    (applyAtomic q k w f offset wide fetch a b s).planView = s.planView := by
  unfold applyAtomic
  dsimp only
  exact ite_planView (by simp) (ite_planView (by simp) (by simp))

@[simp] theorem serveFlush_planView (q : Ask) : (serveFlush q s).planView = s.planView := by
  unfold serveFlush
  split
  · exact ite_planView (by simp) (by simp)
  · simp

@[simp] theorem tryAtomic_planView (q : Ask) (f offset : Nat) (wide fetch : Bool) (a b : Nat) :
    (tryAtomic q f offset wide fetch a b s).planView = s.planView := by
  unfold tryAtomic
  refine ite_planView rfl (ite_planView (by simp) ?_)
  split
  · rfl
  · refine ite_planView (by simp) (ite_planView (by simp) ?_)
    split <;> simp

@[simp] theorem serveAtomic_planView (id : Nat) : (serveAtomic id s).planView = s.planView := by
  unfold serveAtomic
  split
  · rfl
  · split
    · exact ite_planView rfl (ite_planView (by simp) (ite_planView (by simp) (ite_planView (ite_planView (by simp) rfl)
        (ite_planView (ite_planView (by simp) rfl) (by simp)))))
    · rfl

/-! ### Reductions -/

@[simp] theorem setReds_planView (l : List Red) : (s.setReds l).planView = s.planView := by simp [State.setReds]
@[simp] theorem modRed_planView (a : Nat) (f : Red → Red) : (s.modRed a f).planView = s.planView := by simp [State.modRed]
@[simp] theorem openRed_planView (a : Nat) (w : RedWord) : (openRed a w s).planView = s.planView := by simp [openRed]
@[simp] theorem poisonWrite_planView (a : Nat) : (poisonWrite a s).planView = s.planView := by simp [poisonWrite]

@[simp] theorem dropLine_planView (a : Nat) : (dropLine a s).planView = s.planView := by
  unfold dropLine
  dsimp only
  rw [syncDirty_planView]
  split
  · rw [setWay_planView]
    split <;> simp
  · split <;> simp

@[simp] theorem redSignal_planView (r : Red) (broken : Bool) : (redSignal r broken s).planView = s.planView := by
  unfold redSignal
  exact ite_planView (by simp) rfl

@[simp] theorem breakRed_planView (r : Red) : (breakRed r s).planView = s.planView := by simp [breakRed]

@[simp] theorem breakPoisoned_planView (a : Nat) : (breakPoisoned a s).planView = s.planView := by
  unfold breakPoisoned
  split
  · exact ite_planView (by simp) rfl
  · rfl

@[simp] theorem openRefused_planView (a : Nat) (w : RedWord) : (openRefused a w s).planView = s.planView := by
  unfold openRefused
  exact ite_planView (by simp) (by simp)

@[simp] theorem serveReduce_planView (id : Nat) : (serveReduce id s).planView = s.planView := by
  have opened (c : Prop) [Decidable c] (a : Nat) (w : RedWord) : (if c then openRed a w s else s).planView = s.planView :=
    ite_planView (by simp) rfl
  have refused (c : Prop) [Decidable c] (a : Nat) (w : RedWord) : (if c then openRefused a w s else s).planView = s.planView :=
    ite_planView (by simp) rfl
  unfold serveReduce
  split
  · rfl
  · split
    · refine ite_planView rfl (ite_planView (by simp) (ite_planView (by simp) (ite_planView (by simp) ?_)))
      split
      · simp
      · simp
      · simp [refused]
      · exact ite_planView (by simp) (by simp [opened])
    · rfl

end

/-! ### The far tier -/

section
variable (s : State)

@[simp] theorem noteLost_planView (b : Nat) : (noteLost b s).planView = s.planView := by
  unfold noteLost
  exact ite_planView rfl (by simp)

@[simp] theorem pushWrite_planView (who : Writer) (a mask data info : Nat) (region : Option (Nat × Nat)) :
    (pushWrite who a mask data info region s).planView = s.planView := by
  have depth (c : Nat) (u : State) : (syncDepth c u).planView = u.planView := by simp [syncDepth]
  unfold pushWrite
  dsimp only
  rw [depth]
  exact ite_planView (by simp) (by simp)

@[simp] theorem advanceLedger_planView (b v : Nat) : (advanceLedger b v s).planView = s.planView := by
  unfold advanceLedger
  split
  · simp
  · rfl

@[simp] theorem endFarWrite_planView (id : Nat) (backing : Bool) (status : Nat) :
    (endFarWrite id backing status s).planView = s.planView := by
  have backed : (backingDone id s).planView = s.planView := by
    unfold backingDone
    split
    · dsimp only
      split
      · exact ite_planView (by simp) (by simp)
      · simp
    · rfl
  exact ite_planView backed (by simp)

@[simp] theorem takeBale_planView (b : Nat) : (takeBale b s).planView = s.planView := by
  unfold takeBale
  exact ite_planView (by simp) (by simp)

@[simp] theorem waitBale_planView (b : Nat) (r : FarReader) : (waitBale b r s).planView = s.planView := by
  unfold waitBale
  dsimp only
  split
  · exact ite_planView (by simp) (by simp)
  · simp

@[simp] theorem issueBaleWrite_planView (b v : Nat) : (issueBaleWrite b v s).planView = s.planView := by
  unfold issueBaleWrite
  split
  · rfl
  · exact ite_planView rfl (by simp)

@[simp] theorem denyBale_planView (b : Nat) : (denyBale b s).planView = s.planView := by
  unfold denyBale
  split
  · rfl
  · simp

@[simp] theorem writeBale_planView (b : Nat) : (writeBale b s).planView = s.planView := by
  unfold writeBale
  split
  · rfl
  · refine ite_planView rfl ?_
    split
    · simp
    · exact ite_planView rfl (ite_planView (by simp) (ite_planView (by simp) (by simp)))

@[simp] theorem mergeBale_planView (w : FarWrite) (l : Nat × Nat) : (mergeBale w l s).planView = s.planView := by
  unfold mergeBale
  dsimp only
  split
  · exact ite_planView (by simp) (by simp)
  · simp

@[simp] theorem takeFarWrite_planView (w : FarWrite) : (takeFarWrite w s).planView = s.planView := by
  unfold takeFarWrite
  split
  · simp
  · refine ite_planView (by simp) ?_
    dsimp only
    split
    · simp
    · exact ite_planView (by simp) (by simp)

@[simp] theorem farWrite_planView (w : FarWrite) : (farWrite w s).planView = s.planView := by
  unfold farWrite
  exact ite_planView (by simp) (ite_planView (by simp) (by simp))

@[simp] theorem endFarRead_planView (id : Nat) (line : Option (Nat × Nat)) : (endFarRead id line s).planView = s.planView := by
  unfold endFarRead
  split
  · dsimp only
    split
    · simp
    · exact ite_planView (by simp) (by simp)
  · simp

@[simp] theorem serveReader_planView (b : Nat) (r : FarReader) : (serveReader b r s).planView = s.planView := by
  unfold serveReader
  split
  · rfl
  · split
    case h_4 =>
      split
      · dsimp only
        split <;> simp
      · rfl
    all_goals simp

@[simp] theorem failReader_planView (b : Nat) (r : FarReader) : (failReader b r s).planView = s.planView := by
  unfold failReader
  cases r with
  | ask | restore | part => exact ite_planView (by simp) (by simp)
  | merge | transfer => simp

@[simp] theorem takeFarRead_planView (b line : Nat) (r : FarReader) : (takeFarRead b line r s).planView = s.planView := by
  unfold takeFarRead
  refine ite_planView (by simp) ?_
  split
  · simp
  · cases r <;> simp
  · simp

@[simp] theorem farRead_planView (b line : Nat) (r : FarReader) : (farRead b line r s).planView = s.planView := by
  unfold farRead
  cases r <;> exact ite_planView (by simp) (ite_planView (by simp) (by simp))

@[simp] theorem drainFar_planView : (drainFar s).planView = s.planView := by
  have evicted (u : State) : (evictBale u).planView = u.planView := by
    unfold evictBale
    refine ite_planView rfl ?_
    dsimp only
    split <;> simp
  have taken (w : FarOp) (u : State) : (takeFarOp w u).planView = u.planView := by cases w <;> simp [takeFarOp]
  unfold drainFar
  rw [evicted]
  exact forEach_planView _ _ (fun w u => ite_planView ((taken w _).trans (by simp)) rfl) s

/-! ### The checks of a request -/

@[simp] theorem accessCheck_planView (op : AccessOp) (world : Bool) (ctx : Nat) (core : Option CoreId) (a : Nat) :
    (accessCheck op world ctx core a s).2.planView = s.planView := by
  unfold accessCheck
  split <;> simp

@[simp] theorem stepAccess_planView (q : Ask) : (stepAccess q s).2.planView = s.planView := by
  have ranged (op : AccessOp) : (match accessCheck op q.side.world q.side.ctx (q.coreId s.me) q.addr s with
      | (some st, s) => (some st, s)
      | (none, s) => if sealDenied q.addr s then (some St.denied, raiseNode Ev.sealKeyAbsent 0 s)
        else ((none : Option Nat), s)).2.planView = s.planView := by
    have checked := accessCheck_planView s op q.side.world q.side.ctx (q.coreId s.me) q.addr
    split
    next e => rwa [e] at checked
    next e =>
      rw [e] at checked
      split
      · exact (raiseNode_planView _ _ _).trans checked
      · exact checked
  unfold stepAccess
  dsimp only
  split
  · split <;> simp
  · exact ranged _
  · exact ranged _

@[simp] theorem step5_planView (q : Ask) : (step5 q s).2.planView = s.planView := by
  have checked := stepAccess_planView s q
  unfold step5
  split
  · rfl
  · split
    · rfl
    · split
      next e => rwa [e] at checked
      next e => rwa [e] at checked

@[simp] theorem recheck_planView (q : Ask) : (recheck q s).2.planView = s.planView := by
  have checked := step5_planView s q
  unfold recheck
  split
  · rfl
  · split
    next e => rwa [e] at checked
    next e =>
      rw [e] at checked
      exact (ite_planView (by simp) (ite_planView (by simp) (by simp))).trans checked
    next e =>
      rw [e] at checked
      exact (dropAsk_planView _ _).trans checked

/-! ### What a grant does -/

@[simp] theorem countWiden_planView (u a : Nat) (cs : Cause) (w : Widened) : (countWiden u a cs w s).planView = s.planView := by
  unfold countWiden
  split <;> simp

@[simp] theorem finishWiden_planView (q : Ask) (j : Nat) (l : Nat × Nat) : (finishWiden q j l s).planView = s.planView := by
  unfold finishWiden
  dsimp only
  refine ite_planView (by simp) ?_
  split
  case h_6 => simp [readEscape]
  all_goals simp

@[simp] theorem finishRead_planView (id : Nat) (l : Nat × Nat) : (finishRead id l s).planView = s.planView := by
  have counted : (if l.2.testBit 11 then s.bump 0xA001 6 else s).planView = s.planView := ite_planView (by simp) rfl
  unfold finishRead
  split
  · rfl
  · refine ite_planView rfl (ite_planView (by simp) ?_)
    dsimp only
    refine ite_planView (by simp [counted]) (ite_planView (by simp [counted]) ?_)
    split <;> simp [counted]

@[simp] theorem countGrant_planView (q : Ask) (credit : Int) : (countGrant q credit s).planView = s.planView := by
  have shaped (c : Int) (u : State) : (setShaper q.side.cls c u).planView = u.planView := by simp [setShaper]
  have settled (u : State) (c : Int) : (if u.unshaped q then u else setShaper q.side.cls c u).planView = u.planView :=
    ite_planView rfl (shaped c u)
  unfold countGrant
  dsimp only
  exact ite_planView (by simp [settled]) (by simp [settled])

@[simp] theorem grant_planView (q : Ask) (confirmed : Bool) {f : State → State} (acts : ∀ u, (f u).planView = u.planView) :
    (grant q confirmed f s).planView = s.planView := by
  have checked := recheck_planView s q
  unfold grant
  split
  next e => rwa [e] at checked
  next e =>
    rw [e] at checked
    refine Eq.trans ?_ checked
    split
    · exact ite_planView (by simp) (by simp)
    · exact ite_planView (ite_planView rfl (by simp)) (by simp [acts])

@[simp] theorem countHit_planView (q : Ask) (sub : Nat) : (countHit q sub s).planView = s.planView := by
  unfold countHit
  dsimp only
  refine ite_planView ?_ rfl
  split
  · simp
  · exact ite_planView (by simp) (by simp)

/-! ### Serving -/

@[simp] theorem serveHit_planView (id : Nat) : (serveHit id s).planView = s.planView := by
  unfold serveHit
  split
  · rfl
  · refine ite_planView rfl ?_
    split
    · exact ite_planView (by simp) (by simp)
    · simp
    · rfl

@[simp] theorem absorbWrite_planView (q : Ask) (mask data k : Nat) (w : CWay) :
    (absorbWrite q mask data k w s).planView = s.planView := by
  simp [absorbWrite]

@[simp] theorem serveAbsorb_planView (id mask data : Nat) : (serveAbsorb id mask data s).planView = s.planView := by
  unfold serveAbsorb
  split
  · rfl
  · refine ite_planView rfl (ite_planView (by simp) ?_)
    split
    · exact ite_planView rfl (by simp)
    · rfl

@[simp] theorem serveFar_planView (id : Nat) : (serveFar id s).planView = s.planView := by
  unfold serveFar
  split
  · rfl
  · refine ite_planView rfl ?_
    dsimp only
    split <;> simp

@[simp] theorem serveSliced_planView (q : Ask) {f : State → State} (acts : ∀ u, (f u).planView = u.planView) :
    (serveSliced q f s).planView = s.planView := by
  have checked := recheck_planView s q
  unfold serveSliced
  refine ite_planView (acts s) (ite_planView rfl ?_)
  split
  next e => rwa [e] at checked
  next e =>
    rw [e] at checked
    refine Eq.trans ?_ checked
    dsimp only
    split
    · exact ite_planView (by simp [acts]) (acts _)
    · exact acts _

@[simp] theorem serveAsk_planView (id : Nat) : (serveAsk id s).planView = s.planView := by
  unfold serveAsk
  split
  · rfl
  · refine ite_planView rfl ?_
    split
    case h_4 => exact ite_planView (by simp) (by simp)
    case h_6 => exact ite_planView (by simp) (by simp)
    all_goals simp

@[simp] theorem serveAll_planView : (serveAll s).planView = s.planView := by simp [serveAll]

/-- A checked request of the node's own units (R560). -/
@[simp] theorem offerChecked_planView (q : Ask) : (offerChecked q s).planView = s.planView := by
  have checked := step5_planView s q
  unfold offerChecked
  refine ite_planView (by simp) ?_
  split
  next e =>
    rw [e] at checked
    simpa using checked
  next e =>
    rw [e] at checked
    simpa using checked
  next e => rwa [e] at checked

/-- The Sequencer begins to read a plan's image (R71). -/
@[simp] theorem readImage_planView (world : Bool) : (readImage world s).planView = s.planView := by
  unfold readImage
  dsimp only
  exact ite_planView (by simp) (by simp)

end

/-! ### A plan command begun and ordered -/

@[simp] theorem countFrame_planView (r : Req) (s : State) : (countFrame r s).planView = s.planView := by
  have heard : (heardFrom r s).planView = s.planView := by
    rw [heardFrom_parts]
    exact planView_of_eq rfl rfl
  refine Eq.trans ?_ heard
  unfold countFrame
  dsimp only
  split
  · exact bump_planView_below _ (by decide) (by decide)
  · exact (bump_planView_below _ (by decide) (by decide)).trans (planView_of_eq rfl rfl)
  · rfl

section
variable (r : Req) (s : State)

/-- Beginning and ordering a request leaves what the plan commands read and write. -/
@[simp] theorem ordered_planView : (s.ordered r).planView = s.planView :=
  (planView_of_eq rfl rfl).trans (countFrame_planView r s)

@[simp] theorem ordered_now : (s.ordered r).now = s.now := countFrame_now s r
@[simp] theorem ordered_hl : (s.ordered r).hl = s.hl := countFrame_hl s r
@[simp] theorem ordered_power : (s.ordered r).power = s.power := countFrame_power s r
@[simp] theorem ordered_plans : (s.ordered r).plans = s.plans := countFrame_plans s r
@[simp] theorem ordered_procs : (s.ordered r).procs = s.procs := countFrame_procs' r s

@[simp] theorem ordered_planState : (s.ordered r).planState = s.planState := State.ob2200_of_planView (ordered_planView r s) 6

theorem ordered_canonical {s : State} (canonical : Canonical objDefault s.obj) : Canonical objDefault (s.ordered r).obj :=
  (begun_keepsSettings r s).objects canonical

theorem ordered_tideFrom (f : Nat) : (s.ordered r).tideFrom f = s.tideFrom f := by
  simp only [State.tideFrom, ordered_plans, State.ob2200_of_planView (ordered_planView r s) 2]

@[simp] theorem ordered_setTicks : (s.ordered r).setTicks = s.setTicks := by simp only [State.setTicks, ordered_hl, ordered_now]

@[simp] theorem ordered_epochT : (s.ordered r).epochT = s.epochT := by
  rw [State.epochT, ordered_hl]
  rfl

theorem ordered_before (f n : Nat) : (s.ordered r).before f n = s.before f n := by
  unfold State.before
  rw [ordered_epochT, ordered_setTicks, ordered_hl]

@[simp] theorem ordered_target : (s.ordered r).target = s.target := by
  have tides (f : Nat) : (s.ordered r).isTide f = s.isTide f := by rw [State.isTide, ordered_tideFrom, State.isTide]
  have frame : (s.ordered r).frame = s.frame := by rw [State.frame, ordered_setTicks, ordered_epochT, State.frame]
  unfold State.target
  dsimp only
  rw [frame, ordered_tideFrom, State.ob2201_of_planView (ordered_planView r s) 5, tides]

@[simp] theorem ordered_pastCommit : (s.ordered r).pastCommit = s.pastCommit := by
  unfold State.pastCommit State.armedTide
  rw [ordered_plans, State.ob2200_of_planView (ordered_planView r s) 7, ordered_tideFrom, ordered_before]

@[simp] theorem ordered_commandNode (code : Nat) : commandNode code (s.ordered r) = commandNode code s := by
  simp only [commandNode, ordered_power]

@[simp] theorem ordered_inheritOk (p : Plan) : (s.ordered r).inheritOk p = s.inheritOk p := by
  simp only [State.inheritOk, ordered_plans]

end

/-- A plan command that the lead orders and that applies at once, leaving the set-wide writes, is answered OK in the state it comes to. -/
theorem dictWrite_plan {s u : State} {r : Req} {code : Nat} {value : List Byte} {session : Bool}
    (orders : s.orders r 0x2201 4 value = true) (done : ∀ who, planCommand code session who (s.ordered r) = .done u)
    (view : u.mgmt.setWrites = (s.ordered r).mgmt.setWrites) :
    dictWrite r 0x2201 4 value (planHome code session) s = answer r St.ok 0 u :=
  dictWrite_orders orders (done _) view

/-- The answer to a plan command changes no plan object. -/
theorem answer_planObject (r : Req) (u : State) {i : Nat} (a : Nat) (plan : logObject i = false := by decide)
    (fits : a < 256 := by decide) : (answer r St.ok 0 u).ob i a = u.ob i a := (answer_reports r St.ok 0 u).objects i a fits plan

/-! ### The plan commands, as they apply (R70, R77) -/

section
variable {s : State} {who : Completer} (session : Bool)

theorem planCommand_load (up : s.procs.sequencer.restart = none) (node : commandNode 1 s = true)
    (state : s.planState = 0 ∨ s.planState = 2 ∨ s.planState = 5) : planCommand 1 session who s = .done (loadPlan session s) := by
  have allowed : commandState 1 s = true := by simpa [commandState, or_assoc] using state
  simp [planCommand, up, node, allowed]

theorem planCommand_arm {f : Nat} {p : Plan} (up : s.procs.sequencer.restart = none) (node : commandNode 2 s = true)
    (state : s.planState = 2) (target : s.target = some f) (loaded : s.plans.loaded = some p) (inherits : s.inheritOk p = true) :
    planCommand 2 session who s = .done (armPlan false f s) := by
  have allowed : commandState 2 s = true := by simpa [commandState] using state
  simp [planCommand, up, node, allowed, target, loaded, inherits]

theorem planCommand_stop {f : Nat} (up : s.procs.sequencer.restart = none) (node : commandNode 3 s = true)
    (state : s.planState = 0 ∨ s.planState = 2 ∨ s.planState = 5) (active : s.plans.active.isSome) (target : s.target = some f) :
    planCommand 3 session who s = .done (armPlan true f s) := by
  have allowed : commandState 3 s = true := by
    simp only [commandState, Bool.and_eq_true, Bool.or_eq_true, beq_iff_eq]
    exact ⟨or_assoc.mpr state, active⟩
  simp [planCommand, up, node, allowed, target]

theorem planCommand_discard (state : s.planState = 2 ∨ s.planState = 5) : planCommand 4 session who s =
    .done (setPlanState 0 ((s.setPlans { s.plans with loaded := none }).setOb 0x2201 6 0)) := by
  have allowed : commandState 4 s = true := by simpa [commandState] using state
  simp [planCommand, commandNode, allowed]

theorem planCommand_disarm (state : s.planState = 3 ∨ s.planState = 4) (early : s.pastCommit = false) :
    planCommand 5 session who s = .done (unarm s) := by
  have allowed : commandState 5 s = true := by simpa [commandState] using state
  simp [planCommand, commandNode, allowed, early]

end

/-! ### What a plan command leaves -/

section
variable {s : State} (canonical : Canonical objDefault s.obj)
include canonical

/-- The plan state reads as it was set. -/
theorem setPlanState_planState (v : Nat) : (setPlanState v s).planState = v := State.ob_setOb_eq canonical 0x2200 6 v

theorem loadPlan_planState (session : Bool) : (loadPlan session s).planState = 1 :=
  (State.ob2200_of_planView (readImage_planView _ session) 6).trans
    (setPlanState_planState (s := (s.setPlans _).setOb 0x2201 6 0) (State.setOb_canonical canonical _ _ _) 1)

theorem loadPlan_identifier (session : Bool) : (loadPlan session s).ob 0x2201 6 = 0 :=
  (State.ob2201_of_planView (readImage_planView _ session) 6).trans
    ((State.ob_setOb_ne _ (by decide)).trans (State.ob_setOb_eq (s := s.setPlans _) canonical 0x2201 6 0))

theorem armPlan_planState (stop : Bool) (f : Nat) : (armPlan stop f s).planState = if stop then 4 else 3 :=
  setPlanState_planState (s := ((s.setPlans _).setOb 0x2200 7 f).setOb 0x2200 8 0)
    (State.setOb_canonical (State.setOb_canonical canonical _ _ _) _ _ _) _

theorem armPlan_tide (stop : Bool) (f : Nat) : (armPlan stop f s).ob 0x2200 7 = f :=
  (State.ob_setOb_ne _ (by decide)).trans
    ((State.ob_setOb_ne _ (by decide)).trans (State.ob_setOb_eq (s := s.setPlans _) canonical 0x2200 7 f))

theorem armPlan_deferrals (stop : Bool) (f : Nat) : (armPlan stop f s).ob 0x2200 8 = 0 :=
  (State.ob_setOb_ne _ (by decide)).trans
    (State.ob_setOb_eq (s := (s.setPlans _).setOb 0x2200 7 f) (State.setOb_canonical canonical _ _ _) 0x2200 8 0)

end

section
variable (s : State)

@[simp] theorem readImage_plans (world : Bool) : (readImage world s).plans = s.plans :=
  (readImage_fr (Fr.refl 71193048 s)).plans (by decide)

theorem loadPlan_plans (session : Bool) :
    (loadPlan session s).plans = { s.plans with loaded := none, loading := some (s.now, session) } := readImage_plans _ _

theorem armPlan_plans (stop : Bool) (f : Nat) : (armPlan stop f s).plans =
    { s.plans with stopping := stop, armedFrom := s.planState, prepared := false, votes := [], decision := none } := rfl

theorem loadPlan_setWrites (session : Bool) : (loadPlan session s).mgmt.setWrites = s.mgmt.setWrites :=
  State.setWrites_of_planView (s := setPlanState 1 ((s.setPlans _).setOb 0x2201 6 0)) (readImage_planView _ session)

@[simp] theorem dropImage_obj : (dropImage s).obj = s.obj := (dropImage_fr (Fr.refl 67371008 s)).obj (by decide)
@[simp] theorem dropImage_plans : (dropImage s).plans = s.plans := (dropImage_fr (Fr.refl 67371008 s)).plans (by decide)
@[simp] theorem dropImage_power : (dropImage s).power = s.power := (dropImage_fr (Fr.refl 67371008 s)).power (by decide)

end

/-! ### The end of a LOAD (R71, R73) -/

/-- The image is refused: the plan state and the three objects say so, and nothing is loaded. -/
structure PlanRefused (f : PlanFault) (s t : State) : Prop where
  planState : t.planState = 5
  reason : t.ob 0x2201 7 = f.reason
  place : t.ob 0x2201 8 = f.at_
  detail : t.ob 0x2201 9 = f.detail
  plans : t.plans = { s.plans with loaded := none, loading := none }

section
variable {s : State} (canonical : Canonical objDefault s.obj)
include canonical

theorem refusePlan_refused (f : PlanFault) : PlanRefused f s (refusePlan f s) := by
  have dropped : Canonical objDefault (dropImage (s.setPlans { s.plans with loaded := none, loading := none })).obj := by
    rw [dropImage_obj]
    exact canonical
  have first := State.setOb_canonical dropped 0x2200 6 5
  have second := State.setOb_canonical first 0x2201 7 f.reason
  have third := State.setOb_canonical second 0x2201 8 f.at_
  have raised (u : State) {i a : Nat} (plan : logObject i = false) (fits : a < 256) :
      (raiseNode Ev.planRefused f.reason u).ob i a = u.ob i a :=
    (raiseNode_reports Ev.planRefused f.reason u).objects i a fits plan
  constructor
  case planState =>
    refine (raised _ rfl (by decide)).trans ?_
    rw [State.ob_setOb_ne _ (by decide), State.ob_setOb_ne _ (by decide), State.ob_setOb_ne _ (by decide)]
    exact State.ob_setOb_eq dropped _ _ _
  case reason =>
    refine (raised _ rfl (by decide)).trans ?_
    rw [State.ob_setOb_ne _ (by decide), State.ob_setOb_ne _ (by decide)]
    exact State.ob_setOb_eq first _ _ _
  case place =>
    refine (raised _ rfl (by decide)).trans ?_
    rw [State.ob_setOb_ne _ (by decide)]
    exact State.ob_setOb_eq second _ _ _
  case detail => exact (raised _ rfl (by decide)).trans (State.ob_setOb_eq third _ _ _)
  case plans => simp [refusePlan, setPlanState]

/-- Noting the format entry at fault keeps the refusal. -/
theorem noteFormatFault_refused (img : List Byte) (f : PlanFault) : PlanRefused f s (noteFormatFault img f (refusePlan f s)) := by
  have refused := refusePlan_refused canonical f
  have noted (x code : Nat) (u : State) : (recordCheck x code u).planView = u.planView := setOb_planView u (by decide) 5 _
  have view : (noteFormatFault img f (refusePlan f s)).planView = (refusePlan f s).planView := by
    unfold noteFormatFault
    refine ite_planView rfl ?_
    split
    · exact noted _ _ _
    · rfl
  have plans : (noteFormatFault img f (refusePlan f s)).plans = (refusePlan f s).plans := by
    unfold noteFormatFault
    split
    · rfl
    · split <;> rfl
  exact ⟨(State.ob2200_of_planView view 6).trans refused.planState, (State.ob2201_of_planView view 7).trans refused.reason,
    (State.ob2201_of_planView view 8).trans refused.place, (State.ob2201_of_planView view 9).trans refused.detail,
    plans.trans refused.plans⟩

end

/-- The plan of an image that every node accepts is loaded. -/
def acceptImage (b : List Byte) (s : State) : State :=
  raiseNode Ev.planLoaded (decodePlan s.me b).id
    ((setPlanState 2 (dropImage (s.setPlans { s.plans with loaded := some (decodePlan s.me b), loading := none }))).setOb 0x2201 6
      (decodePlan s.me b).id)

section
variable {s : State} {at_ : Nat} {session : Bool} (loading : s.plans.loading = some (at_, session)) (state : s.planState = 1)
include loading state

/-- This node's own refusal comes before another's. -/
theorem imageChecked_own {f : PlanFault} {b : List Byte} (own : s.ownFault session = some (some f, b)) (other : Option PlanFault) :
    imageChecked other s = noteFormatFault b f (refusePlan f s) := by
  simp [imageChecked, loading, state, own]

/-- Another node's refusal is taken where this node has none. -/
theorem imageChecked_other (own : s.ownFault session = none ∨ ∃ b, s.ownFault session = some (none, b)) (f : PlanFault) :
    imageChecked (some f) s = refusePlan f s := by
  obtain own | ⟨b, own⟩ := own <;> simp [imageChecked, loading, state, own]

theorem imageChecked_accepted {b : List Byte} (own : s.ownFault session = some (none, b)) : imageChecked none s = acceptImage b s := by
  simp only [imageChecked, loading, state, own, bne_self_eq_false, Bool.false_eq_true, if_false]
  rfl

/-- The check waits for the image's lines. -/
theorem imageChecked_waits (own : s.ownFault session = none) : imageChecked none s = s := by
  simp [imageChecked, loading, state, own]

end

theorem acceptImage_planState {s : State} (canonical : Canonical objDefault s.obj) (b : List Byte) : (acceptImage b s).planState = 2 := by
  refine ((raiseNode_reports _ _ _).objects 0x2200 6 (by decide) rfl).trans ((State.ob_setOb_ne _ (by decide)).trans ?_)
  exact setPlanState_planState (by rw [dropImage_obj]; exact canonical) 2

theorem acceptImage_identifier {s : State} (canonical : Canonical objDefault s.obj) (b : List Byte) :
    (acceptImage b s).ob 0x2201 6 = (decodePlan s.me b).id := by
  refine ((raiseNode_reports _ _ _).objects 0x2201 6 (by decide) rfl).trans (State.ob_setOb_eq ?_ 0x2201 6 _)
  exact State.setOb_canonical (by rw [dropImage_obj]; exact canonical) _ _ _

theorem acceptImage_plans (b : List Byte) (s : State) :
    (acceptImage b s).plans = { s.plans with loaded := some (decodePlan s.me b), loading := none } := by
  simp [acceptImage, setPlanState]

/-- The image of a LOAD is checked: a refusal that another node reports has a reason other than 0. -/
theorem exec_planImageChecked (reason place detail id crc : Nat) (s : State) :
    exec (.planImageChecked reason place detail false id crc) s =
      .next (imageChecked (if reason = 0 then none else some ⟨reason, place, detail⟩) s) := rfl

theorem exec_planImageChecked_accepts (place detail id crc : Nat) (s : State) :
    exec (.planImageChecked 0 place detail false id crc) s = .next (imageChecked none s) := rfl

theorem exec_planImageChecked_refused {reason : Nat} (refused : reason ≠ 0) (place detail id crc : Nat) (s : State) :
    exec (.planImageChecked reason place detail false id crc) s = .next (imageChecked (some ⟨reason, place, detail⟩) s) := by
  rw [exec_planImageChecked, if_neg refused]

/-- Without a LOAD under way there is nothing to check, and nothing to time out. -/
theorem imageChecked_idle {s : State} (idle : s.plans.loading = none) (other : Option PlanFault) : imageChecked other s = s := by
  simp [imageChecked, idle]

theorem exec_planLoadTimeout_idle {s : State} (idle : s.plans.loading = none) : exec .planLoadTimeout s = .next s := by
  change execPlanLoadTimeout s = _
  simp [execPlanLoadTimeout, idle]

theorem exec_planLoadTimeout_due {s : State} {at_ : Nat} {session : Bool} (loading : s.plans.loading = some (at_, session))
    (state : s.planState = 1) (due : s.elapsed at_ (2 * secT) = true) :
    exec .planLoadTimeout s = .next (refusePlan ⟨1, whereAt s.me 0 0 0, 0⟩ s) := by
  change execPlanLoadTimeout s = _
  simp [execPlanLoadTimeout, loading, state, due]

/-- A node that comes back to a set without a plan has no image to read (R81; the model's reading, log 46). -/
theorem exec_planImageChecked_rejoin {s : State} (returns : s.mustReread = true) (reason place detail crc : Nat) :
    exec (.planImageChecked reason place detail true 0 crc) s = .next (rejoinChecked.passed none s) := by
  change execPlanImageChecked reason place detail true 0 crc s = _
  simp [execPlanImageChecked, returns, rejoinChecked]

/-! ### The obligation -/

/-- Settles O34: the five commands as the lead carries them out, and the end of a LOAD by what the node has found. -/
theorem planCommands : Obligations.PlanCommands := by
  unfold Obligations.PlanCommands
  intro s r inv
  have canonical := inv.objects
  have begun := ordered_canonical r canonical
  refine ⟨fun up => ⟨?load, ?arm, ?stop⟩, ?discard, ?disarm, ?checked, ?idle, ?rejoin, ?timeout⟩
  case load =>
    intro orders node state
    have done who := planCommand_load (s := s.ordered r) (who := who) (s.isOwner r) (by simpa using up) (by simpa using node)
      (by simpa using state)
    refine ⟨_, congrArg Host.Outcome.next (dictWrite_plan orders done (loadPlan_setWrites _ _)), ?_, ?_, ?_⟩
    · exact (answer_planObject r _ 6).trans (loadPlan_planState begun _)
    · exact (answer_planObject r _ 6).trans (loadPlan_identifier begun _)
    · simp [loadPlan_plans]
  case arm =>
    intro f p orders node state target loaded inherits
    have done who := planCommand_arm (s := s.ordered r) (who := who) (s.isOwner r) (by simpa using up)
      (by simpa [commandNode] using node) (by simpa using state) (by simpa using target) (by simpa using loaded)
      (by simpa using inherits)
    refine ⟨_, congrArg Host.Outcome.next (dictWrite_plan orders done rfl), ?_, ?_, ?_, ?_⟩
    · exact (answer_planObject r _ 6).trans (armPlan_planState begun false f)
    · exact (answer_planObject r _ 7).trans (armPlan_tide begun false f)
    · exact (answer_planObject r _ 8).trans (armPlan_deferrals begun false f)
    · simp [armPlan_plans, state]
  case stop =>
    intro f orders node state active target
    have done who := planCommand_stop (s := s.ordered r) (who := who) (s.isOwner r) (by simpa using up)
      (by simpa [commandNode] using node) (by simpa using state) (by simpa using active) (by simpa using target)
    refine ⟨_, congrArg Host.Outcome.next (dictWrite_plan orders done rfl), ?_, ?_, ?_, ?_⟩
    · exact (answer_planObject r _ 6).trans (armPlan_planState begun true f)
    · exact (answer_planObject r _ 7).trans (armPlan_tide begun true f)
    · exact (answer_planObject r _ 8).trans (armPlan_deferrals begun true f)
    · simp [armPlan_plans]
  case discard =>
    intro orders state
    have done who := planCommand_discard (s := s.ordered r) (who := who) (s.isOwner r) (by simpa using state)
    refine ⟨_, congrArg Host.Outcome.next (dictWrite_plan orders done rfl), ?_, ?_, ?_⟩
    · exact (answer_planObject r _ 6).trans (setPlanState_planState (State.setOb_canonical begun _ _ _) 0)
    · exact (answer_planObject r _ 6).trans ((State.ob_setOb_ne _ (by decide)).trans (State.ob_setOb_eq begun _ _ _))
    · simp [setPlanState]
  case disarm =>
    intro orders state early
    have done who := planCommand_disarm (s := s.ordered r) (who := who) (s.isOwner r) (by simpa using state) (by simpa using early)
    refine ⟨_, congrArg Host.Outcome.next (dictWrite_plan orders done rfl), ?_, ?_, ?_⟩
    · exact (answer_planObject r _ 6).trans ((unarm_planState begun).trans (by simp))
    · exact (answer_planObject r _ 7).trans (unarm_tide begun)
    · simp
  case checked =>
    intro reason place detail id crc at_ session loading state
    refine ⟨?_, ?_, ?_, ?_⟩
    · rintro b rfl own
      rw [Gives, exec_planImageChecked_accepts, imageChecked_accepted loading state own]
      exact ⟨_, rfl, acceptImage_planState canonical b, acceptImage_identifier canonical b, acceptImage_plans b s⟩
    · intro f b own
      obtain ⟨hstate, hreason, hplace, hdetail, hplans⟩ := noteFormatFault_refused canonical b f
      rw [Gives, exec_planImageChecked, imageChecked_own loading state own]
      exact ⟨_, rfl, hstate, hreason, hplace, hdetail, hplans⟩
    · rintro o refused rfl own
      obtain ⟨hstate, hreason, hplace, hdetail, hplans⟩ := refusePlan_refused canonical ⟨reason, place, detail⟩
      rw [Gives, exec_planImageChecked_refused refused, imageChecked_other loading state own]
      exact ⟨_, rfl, hstate, hreason, hplace, hdetail, hplans⟩
    · rintro rfl own
      rw [exec_planImageChecked_accepts, imageChecked_waits loading state own]
  case idle =>
    intro reason place detail id crc idle
    rw [exec_planImageChecked, imageChecked_idle idle, exec_planLoadTimeout_idle idle]
    exact ⟨rfl, rfl⟩
  case rejoin =>
    intro reason place detail crc returns
    refine ⟨_, exec_planImageChecked_rejoin returns reason place detail crc, ?_, ?_⟩ <;> simp [rejoinChecked.passed]
  case timeout =>
    intro at_ session loading state due
    obtain ⟨hstate, hreason, _, _, hplans⟩ := refusePlan_refused canonical ⟨1, whereAt s.me 0 0 0, 0⟩
    exact ⟨_, exec_planLoadTimeout_due loading state due, hstate, hreason, hplans⟩

end Sys2Proof.Machine

/-!
PROOF. The frame of BUNDLE_VERIFIED: the entry to CONFIG begins the cooled restart anew (R294), which is a part of the node's heat that the
frame of the command does not list; and the refuting of O60.
-/
namespace Sys2Proof.Machine

-- One proof after another, each on a stack of its own, for the check's memory.
set_option Elab.async false

/-- Whatever start leads to CONFIG, the cooled restart of the start before it no longer counts (R294, R418). -/
theorem enterConfig_cooled (cold : Bool) (s : State) : (enterConfig cold s).heat.cooled = false := by
  unfold enterConfig
  extract_lets _ _ _ _ _ _ cleared _ told strapped
  have told_frame : Fr 20952 cleared told := tellExclusions_fr (State.setSet_fr (State.setOb_fr (.refl _ _)))
  have strapped_frame : Fr 20952 cleared strapped := Fr.ite told_frame (raiseNode_fr told_frame)
  refine congrArg Heat.cooled (Fr.heat (w := 20952) (a := cleared) ?_ (by decide))
  exact forEach_fr (refreshView_fr strapped_frame) fun _ _ => Fr.ite (startTraining_fr (.refl _ _)) (.refl _ _)

/-- A warm reset whose data is at rest enters CONFIG when the bundle has been verified (R429). -/
theorem warmVerified_cooled {s : State} (vcore : s.power.vcore = true) (clean : s.dirtyLines = []) (stored : s.balesDirty = false)
    (rests : (List.range s.channels).all s.restsNow = true) : (warmVerified s).heat.cooled = false := by
  unfold warmVerified
  rw [if_neg (by simp only [vcore, clean, stored, rests]; decide)]
  exact enterConfig_cooled _ _

theorem exec_bundleVerified_warm {s : State} (boot : s.power.node = .boot) (warm : s.power.warm = true) :
    exec .bundleVerified s = .next (warmVerified s) :=
  congrArg Host.Outcome.next (if_pos (by simp [boot, warm]))

/-- A node whose cooled restart had ended, warm reset from HALTED with no channel's data retained: every channel is still to be filled. -/
def resettingNode : State :=
  { State.reset with
    power := { Power.reset with node := .boot, vcore := true, warm := true, fill := List.range 288 }
    heat := { Heat.reset with cooled := true } }

theorem resettingNode_rests : resettingNode.power.vcore = true ∧ resettingNode.dirtyLines = [] ∧ resettingNode.balesDirty = false ∧
    (List.range resettingNode.channels).all resettingNode.restsNow = true := by
  decide +kernel

/-- Refutes O60: `writes` leaves heat out of what BUNDLE_VERIFIED may write, and the CONFIG that a warm reset comes to forgets the end of
the cooled restart. -/
theorem not_frameOfEveryCommand : ¬ Obligations.FrameOfEveryCommand := by
  unfold Obligations.FrameOfEveryCommand
  rintro ⟨frame, -⟩
  obtain ⟨vcore, clean, stored, rests⟩ := resettingNode_rests
  have answers : exec .bundleVerified resettingNode = .next (warmVerified resettingNode) := exec_bundleVerified_warm rfl rfl
  have kept : (warmVerified resettingNode).heat = resettingNode.heat := frame _ _ _ .heat answers (by decide)
  have forgotten := warmVerified_cooled vcore clean stored rests
  rw [kept] at forgotten
  exact absurd forgotten (by decide)

end Sys2Proof.Machine

/-!
PROOF. Poisoned segments of a channel that leaves DEEP (R205), in a node whose store of channels lists one channel twice; and the refuting
of O42.
-/
namespace Sys2Proof.Machine

-- One proof after another, each on a stack of its own, for the check's memory.
set_option Elab.async false

/-- A channel none of whose segments is still to be written poisoned. -/
def Chan.poisonWritten (x : Chan) : Chan := { x with poisonDue := 0 }

/-- The end of the poison fill changes one entry of the store of channels, and no other part of the open path. -/
theorem deepPoison_path {c : Nat} {s : State} (due : (s.chan c).poisonDue ≠ 0) (awake : (s.dch c).selfRef = none) :
    (deepPoison c s).path = (s.modChan c Chan.poisonWritten).path := by
  have filled (l : List Nat) : (forEach l (poisonBlock c) s).path = s.path :=
    (forEach_fr (w := 512) (.refl _ s) fun _ _ => poisonBlock_fr (.refl _ _)).path (by decide)
  unfold deepPoison
  rw [if_neg (by simp [due, awake])]
  dsimp only
  rw [raise_path]
  simp only [State.modChan, State.setChan, State.setPath, State.chan, filled]
  rfl

theorem exec_deepSegmentPoisonDone {c : Nat} {s : State} (held : c < s.channels) :
    exec (.deepSegmentPoisonDone c) s = .next (deepPoison c s) := if_pos (decide_eq_true held)

/-! ### The counterexample -/

/-- A channel as at reset, but that a segment of it is still to be written poisoned. -/
def duePoison : Chan := { Chan.reset with poisonDue := 1 }

/-- A node whose store of channels lists channel 0 twice, which the invariant allows. -/
def twiceListed : State := { State.reset with path := { State.reset.path with chans := [(0, duePoison), (0, duePoison)] } }

theorem twiceListed_inv : twiceListed.Inv where
  stackCount := by decide
  objects := ⟨.nil, nofun⟩
  syncs := ⟨.nil, nofun⟩
  fills := ⟨⟨.nil, nofun⟩, nofun⟩
  cells := ⟨.nil, nofun⟩
  log := by decide
  mirror := by decide
  ring := by decide
  sources := by decide
  staged := by decide
  sessions := by decide
  samples := by decide

/-- Once its poison is written the channel is as at reset, so that its first entry goes, and the second shows. -/
theorem twiceListed_poisonWritten : ((twiceListed.modChan 0 Chan.poisonWritten).chan 0).poisonDue = 1 := by decide +kernel

/-- Refutes O42: the clause that the poison fill of a channel leaves nothing due. An entry equal to a channel's reset value is dropped from
the store, so the clause holds only of a store that lists each channel once, and the invariant does not ask this of the channels. -/
theorem not_refreshAndFaults : ¬ Obligations.RefreshAndFaults := by
  unfold Obligations.RefreshAndFaults
  intro holds
  obtain ⟨_, _, _, _, _, _, _, _, written, _⟩ := holds twiceListed 0 twiceListed_inv (by decide)
  have due : (twiceListed.chan 0).poisonDue ≠ 0 := by decide
  obtain ⟨t, answers, cleared⟩ := written due rfl
  rw [exec_deepSegmentPoisonDone (by decide)] at answers
  obtain rfl := Host.Outcome.next.inj answers
  rw [State.chan, deepPoison_path due rfl, ← State.chan, twiceListed_poisonWritten] at cleared
  exact absurd cleared (by decide)

end Sys2Proof.Machine

/-!
PROOF. What the requests of the node leave as it is: the slot a channel has last carried out, and which contexts are fenced.
-/
namespace Sys2Proof.Machine

-- One proof after another, each on a stack of its own, for the check's memory.
set_option Elab.async false

/-- What a state has noted, and what follows is to leave: the last slot of a channel, or which contexts are fenced (0x2203:01). -/
inductive Mark where
  | slot (c k : Nat)
  | fences (bits : Nat)

/-- The state bears a mark. -/
def State.Bears (s : State) : Mark → Prop
  | .slot c k => (s.chan c).lastSlot = some k
  | .fences bits => s.ob 0x2203 1 = bits

section
variable {m : Mark} {s t : State}

theorem State.Bears.of_eq (h : s.Bears m) (path : t.path = s.path) (obj : t.obj = s.obj) : t.Bears m := by
  cases m with
  | slot c k => simpa only [State.Bears, State.chan, path] using h
  | fences bits => simpa only [State.Bears, State.ob, obj] using h

/-- Every part of the state but the open path and the objects. -/
abbrev offMarks : Nat := 2 ^ 27 - 1 - 2 ^ 18 - 2 ^ 6

theorem State.Bears.framed (h : s.Bears m) (kept : Fr offMarks s t) : t.Bears m :=
  h.of_eq (kept.path (by decide)) (kept.obj (by decide))

theorem State.Bears.ite {p : Prop} [Decidable p] (h : s.Bears m) (k : t.Bears m) : (if p then s else t).Bears m := by
  split <;> assumption

theorem State.Bears.forEach {α : Type} {l : List α} {f : α → State → State} (keeps : ∀ a u, u.Bears m → (f a u).Bears m)
    (h : s.Bears m) : (forEach l f s).Bears m := by
  induction l generalizing s with
  | nil => exact h
  | cons a l ih => exact ih (keeps a s h)

/-! ### Channels, requests and objects -/

theorem Chan.ne_reset_of_lastSlot {x : Chan} {k : Nat} (h : x.lastSlot = some k) : x ≠ .reset := by
  rintro rfl
  cases h

/-- A channel that has carried out a slot is not as at reset, so that the store keeps what is put. -/
theorem State.Bears.modChan {d : Nat} {f : Chan → Chan} (h : s.Bears m)
    (keeps : ∀ x : Chan, (f x).lastSlot = x.lastSlot := by intro _; rfl) : (s.modChan d f).Bears m := by
  cases m with
  | fences bits => exact h
  | slot c k =>
    by_cases same : c = d
    · subst same
      have last : (f (s.chan c)).lastSlot = some k := (keeps _).trans h
      have shown : (s.modChan c f).chan c = f (s.chan c) := look_put_of_ne (Chan.ne_reset_of_lastSlot last) _ _
      exact (congrArg Chan.lastSlot shown).trans last
    · exact (congrArg Chan.lastSlot (look_put_ne _ same)).trans h

/-- What changes nothing of the open path but leaves the channels. -/
theorem State.Bears.setPath {p : Path} (h : s.Bears m) (chans : p.chans = s.path.chans := by rfl) : (s.setPath p).Bears m := by
  cases m with
  | fences bits => exact h
  | slot c k => simpa only [State.Bears, State.setPath, State.chan, chans] using h

theorem State.Bears.setCache {c : Cache} (h : s.Bears m) : (s.setCache c).Bears m := h.of_eq rfl rfl
theorem State.Bears.setWay {k : Nat} {w : Option CWay} (h : s.Bears m) : (s.setWay k w).Bears m := h.of_eq rfl rfl
theorem State.Bears.setAsks {l : List Ask} (h : s.Bears m) : (s.setAsks l).Bears m := h.setPath
theorem State.Bears.modAsk {id : Nat} {f : Ask → Ask} (h : s.Bears m) : (s.modAsk id f).Bears m := h.setPath
theorem State.Bears.addAsk {a : Ask} (h : s.Bears m) : (addAsk a s).Bears m := h.setPath
theorem State.Bears.retire {id : Nat} (h : s.Bears m) : (retire id s).Bears m := h.setPath

/-- The objects above 0x2203 are not those of the fences. -/
theorem State.Bears.setOb {i a v : Nat} (h : s.Bears m) (above : 0x2203 < i := by simp) : (s.setOb i a v).Bears m := by
  cases m with
  | slot c k => exact h
  | fences bits => exact (State.ob_setOb_ne s (by unfold objKey; omega)).trans h

theorem State.Bears.bump {i a : Nat} (h : s.Bears m) (above : 0x2203 < i := by simp) : (s.bump i a).Bears m :=
  h.setOb above
theorem State.Bears.peak {i a v : Nat} (h : s.Bears m) (above : 0x2203 < i := by simp) : (s.peak i a v).Bears m :=
  .ite (h.setOb above) h
theorem State.Bears.count {i j n : Nat} (h : s.Bears m) (above : 0x2203 < i := by simp) :
    (Machine.count i j n s).Bears m := .ite h (h.setOb above)
theorem State.Bears.countIf {i j n : Nat} {c : Cause} (h : s.Bears m) (above : 0x2203 < i := by simp) :
    (Machine.countIf i j n c s).Bears m := .ite (h.count above) h

@[simp] theorem fenceObject_lt_chanIdx (c : Nat) : 0x2203 < chanIdx c := by unfold chanIdx; omega

/-- Reports write neither the channels nor the objects of the fences. -/
theorem State.Bears.reports (h : s.Bears m) (only : ReportsOnly s t) : t.Bears m := by
  cases m with
  | slot c k =>
    have path : t.path = s.path := by rw [only.parts]
    simpa only [State.Bears, State.chan, path] using h
  | fences bits => exact (only.objects 0x2203 1 (by decide) rfl).trans h

theorem State.Bears.raiseAt {code inst detail : Nat} {secure : Bool} (h : s.Bears m) :
    (Machine.raiseAt code inst detail secure s).Bears m := h.reports (raiseEvent_reports _ s)
theorem State.Bears.raiseCtx {code inst ctx detail : Nat} (h : s.Bears m) : (Machine.raiseCtx code inst ctx detail s).Bears m :=
  h.reports (raiseEvent_reports _ s)
theorem State.Bears.raiseNode {code detail : Nat} (h : s.Bears m) : (Machine.raiseNode code detail s).Bears m :=
  h.reports (raiseEvent_reports _ s)

theorem State.Bears.syncDepth {c : Nat} (h : s.Bears m) : (syncDepth c s).Bears m := h.setOb.setOb.peak.peak

/-! ### Requests: completed, forwarded, made -/

theorem State.Bears.writeSample {b : Building} {status : Nat} (h : s.Bears m) : (writeSample b status s).Bears m := by
  have kept {u : State} {x : Sampler} (k : u.Bears m) : (u.setSampler x).Bears m := k.framed (State.setSampler_fr (.refl _ _))
  exact .ite (kept h.bump) (kept (State.Bears.ite h.bump h).setOb.setOb)

theorem State.Bears.sampleEnd {kind id num status : Nat} (h : s.Bears m) : (sampleEnd kind id num status s).Bears m := by
  unfold Machine.sampleEnd
  split
  · exact h
  · exact (h.framed (State.setSampler_fr (.refl _ _))).writeSample

@[simp] theorem fenceObject_lt_breakwaterBank : 0x2203 < breakwaterBank := by decide

theorem State.Bears.countDecision {a : Ask} {status : Nat} (h : s.Bears m) : (countDecision a status s).Bears m :=
  .ite h (.ite h.countIf (.ite h.countIf (.ite h.countIf (.ite h.countIf h))))

theorem State.Bears.countAccess {status a : Nat} (h : s.Bears m) : (countAccess status a s).Bears m := by
  have low (sub v : Nat) (other : sub < 256) {u : State} (k : u.Bears m) : (u.setOb 0x2110 sub v).Bears m := by
    cases m with
    | slot c k => exact k
    | fences bits => exact (State.ob_setOb_ne u (by unfold objKey; omega)).trans k
  exact .ite (low 5 _ (by decide) h).raiseAt (low 4 _ (by decide) (low 3 _ (by decide) h)).raiseAt

theorem State.Bears.finish {id status : Nat} {data : Option Nat} (h : s.Bears m) : (finish id status data s).Bears m := by
  unfold Machine.finish
  split
  · exact h
  next a _ =>
    have decided : (sampleEffect id (Machine.countDecision a status
        (s.modAsk id fun a => { a with stage := .finished, result := some (status, data) }))).Bears m :=
      h.modAsk.countDecision.framed (sampleEffect_fr (.refl _ _))
    have sampled := State.Bears.ite (p := a.internal) (.ite (p := a.isDrain) decided (decided.sampleEnd (kind := 0) (id := id)
      (num := 0) (status := status))) decided
    refine .ite h ?_
    dsimp only
    split
    · have sent := sampled.framed (sendCompletion_fr (a := a) (status := status) (data := data) (.refl _ _))
      exact .ite sent sent.setAsks
    · exact sampled

theorem State.Bears.dropAsk {id : Nat} (h : s.Bears m) : (dropAsk id s).Bears m :=
  (h.framed (sampleGone_fr (.refl _ _))).setAsks

theorem State.Bears.abandonReads {f : Purpose → Bool} (h : s.Bears m) : (abandonReads f s).Bears m :=
  .forEach (fun _ _ k => .ite k.modAsk k.dropAsk) h

theorem State.Bears.reissue {n : Nat} (h : s.Bears m) : (reissue n s).Bears m :=
  .forEach (fun _ _ k => k.framed (sendCompletion_fr (.refl _ _)))
    (.forEach (fun _ _ k => k.bump.framed (sendParcel_fr (.refl _ _))) (h.framed (State.setSet_fr (.refl _ _))))

theorem State.Bears.forwardAsk {a : Ask} (h : s.Bears m) : (forwardAsk a s).Bears m := by
  unfold Machine.forwardAsk
  extract_lets dest again _ a
  have h : again.Bears m := .ite h.reissue h
  refine .ite ?_ (.ite h.addAsk.finish (.ite h.addAsk.finish (.ite h.addAsk (h.addAsk.framed (sendParcel_fr (.refl _ _))))))
  refine State.Bears.finish (State.Bears.addAsk ?_)
  show (match a.op with | .sync .. => again | _ => Machine.countAccess St.unreachable a.addr again).Bears m
  split
  · exact h
  · exact h.countAccess

theorem State.Bears.offerInternal {code cls ctx a : Nat} {world : Bool} {op : Op} {why : Purpose} (h : s.Bears m) :
    (offerInternal code cls ctx world a op why s).Bears m :=
  .ite h.forwardAsk (.ite h.countAccess.addAsk.finish (.ite h.addAsk.finish h.addAsk))

/-! ### Synchronisation objects and reductions -/

theorem State.Bears.putSync {o v : Nat} (h : s.Bears m) : (putSync o v s).Bears m :=
  .forEach (fun _ _ k => k.framed (tellWatcher_fr (.refl _ _))) (.forEach (fun _ _ k => k.finish) (h.of_eq rfl rfl))

theorem State.Bears.bumpSync {o n : Nat} {broken : Bool} (h : s.Bears m) : (bumpSync o n broken s).Bears m :=
  (State.Bears.ite h.raiseNode h).putSync

theorem State.Bears.signalObject {unit obj addend ctx : Nat} {world broken : Bool} (h : s.Bears m) :
    (signalObject unit obj addend ctx world broken s).Bears m := .ite (.ite h h.bumpSync) h.forwardAsk

theorem State.Bears.setReds {l : List Red} (h : s.Bears m) : (s.setReds l).Bears m :=
  h.setCache.setOb

theorem State.Bears.syncDirty {a : Nat} (h : s.Bears m) : (syncDirty a s).Bears m := h.setOb (by omega)

theorem State.Bears.dropLine {a : Nat} (h : s.Bears m) : (dropLine a s).Bears m := by
  refine State.Bears.syncDirty ?_
  have h : (match s.cached a with | some q => s.setWay q.1 none | none => s).Bears m := by
    split
    · exact h.setWay
    · exact h
  split
  · exact h.setWay
  · exact h

theorem State.Bears.redSignal {r : Red} {broken : Bool} (h : s.Bears m) : (redSignal r broken s).Bears m := .ite h.signalObject h
theorem State.Bears.poisonWrite {a : Nat} (h : s.Bears m) : (poisonWrite a s).Bears m := h.offerInternal

theorem State.Bears.closeRecord {r : Red} {broken : Bool} (h : s.Bears m) : (closeRecord r broken s).Bears m :=
  h.framed (closeRecord_fr (.refl _ _))

theorem State.Bears.breakRed {r : Red} (h : s.Bears m) : (breakRed r s).Bears m :=
  .raiseAt (.bump (.closeRecord (.redSignal (.forEach (fun _ _ k => k.finish) (.forEach (fun _ _ k => k.finish)
    h.setReds.dropLine.poisonWrite)))))

theorem State.Bears.fenceReds {ctx : Nat} (h : s.Bears m) : (fenceReds ctx s).Bears m :=
  .forEach (fun _ _ k => (State.Bears.forEach (fun _ _ k => k.finish) k).breakRed) h

/-! ### The requests of a context that is fenced -/

theorem State.Bears.abortAsks {ctx : Nat} (h : s.Bears m) : (abortAsks ctx s).Bears m :=
  .forEach (fun _ _ k => k.modAsk.finish.retire) (.abandonReads (.setCache (.forEach (fun _ _ k => k.modChan.syncDepth) h)))

theorem State.Bears.dropEscapes {x : Stream} (h : s.Bears m) : (dropEscapes x s).Bears m := h.framed (dropEscapes_fr (.refl _ _))

end

end Sys2Proof.Machine

/-!
PROOF. A slot that a channel has begun is still its last when the slot ends (R187, R523).
-/
namespace Sys2Proof.Machine

-- One proof after another, each on a stack of its own, for the check's memory.
set_option Elab.async false

section
variable {d k : Nat} {s t : State}

/-! ### What leaves the open path, and pairs -/

/-- Every part of the state but the open path. -/
abbrev offPath : Nat := 2 ^ 27 - 1 - 2 ^ 18

theorem State.Bears.offPath (h : s.Bears (.slot d k)) (kept : Fr offPath s t) : t.Bears (.slot d k) := by
  have path := kept.path (by decide)
  simpa only [State.Bears, State.chan, path] using h

/-- A choice that leaves the state in either case. -/
theorem State.Bears.ite_snd {m : Mark} {β : Type} {p : Prop} [Decidable p] {x y : β × State} (h : x.2.Bears m) (k : y.2.Bears m) :
    (if p then x else y).2.Bears m := by split <;> assumption

theorem State.Bears.foldl {m : Mark} {α : Type} {l : List α} {f : State → α → State} (keeps : ∀ a u, u.Bears m → (f u a).Bears m)
    (h : s.Bears m) : (l.foldl f s).Bears m := .forEach (f := fun a u => f u a) keeps h

theorem State.Bears.setObAny {i a v : Nat} (h : s.Bears (.slot d k)) : (s.setOb i a v).Bears (.slot d k) := h
theorem State.Bears.bumpAny {i a : Nat} (h : s.Bears (.slot d k)) : (s.bump i a).Bears (.slot d k) := h
theorem State.Bears.bumpByAny {i a n : Nat} (h : s.Bears (.slot d k)) : (s.bumpBy i a n).Bears (.slot d k) := h
theorem State.Bears.countAny {i j n : Nat} (h : s.Bears (.slot d k)) : (Machine.count i j n s).Bears (.slot d k) := .ite h h
theorem State.Bears.countIfAny {i j n : Nat} {c : Cause} (h : s.Bears (.slot d k)) : (Machine.countIf i j n c s).Bears (.slot d k) :=
  .ite h.countAny h
theorem State.Bears.modStream {n : Nat} {f : Stream → Stream} (h : s.Bears (.slot d k)) : (s.modStream n f).Bears (.slot d k) := h
theorem State.Bears.modOld {n : Nat} {f : Stream → Stream} (h : s.Bears (.slot d k)) : (s.modOld n f).Bears (.slot d k) := h
theorem State.Bears.takeOrder (h : s.Bears (.slot d k)) : s.takeOrder.Bears (.slot d k) := h
theorem State.Bears.raise {code inst detail : Nat} (h : s.Bears (.slot d k)) : (Machine.raise code inst detail s).Bears (.slot d k) :=
  h.reports (raise_reports _ _ _ _)
theorem State.Bears.withheldMany {c n : Nat} (h : s.Bears (.slot d k)) : (Machine.withheldMany c n s).Bears (.slot d k) := h
theorem State.Bears.withheld {c : Nat} (h : s.Bears (.slot d k)) : (Machine.withheld c s).Bears (.slot d k) := h

/-! ### Queue entries -/

theorem State.Bears.pushRead {who : Reader} {a rank : Nat} {port : Option Nat} {region : Option (Nat × Nat)} (h : s.Bears (.slot d k)) :
    (pushRead who a rank port region s).Bears (.slot d k) := h.modChan.takeOrder.syncDepth

theorem State.Bears.pushWrite {who : Writer} {a mask data info : Nat} {region : Option (Nat × Nat)} (h : s.Bears (.slot d k)) :
    (pushWrite who a mask data info region s).Bears (.slot d k) :=
  .syncDepth (.ite (.bumpAny (.takeOrder (h.modChan fun x => by split <;> rfl))) (.takeOrder (h.modChan fun x => by split <;> rfl)))

/-! ### The copies of a line -/

theorem State.Bears.applyAsk {id value : Nat} {data : Option Nat} (h : s.Bears (.slot d k)) :
    (applyAsk id value data s).Bears (.slot d k) := h.modAsk.finish

theorem State.Bears.lineClean {line : Nat} (h : s.Bears (.slot d k)) : (lineClean line s).Bears (.slot d k) :=
  .forEach (fun _ _ k => k.offPath (complete_fr (.refl _ _)))
    (.setCache (.forEach (fun _ _ k => k.finish) (.forEach (fun _ _ k => k.applyAsk) h.setCache)))

theorem State.Bears.cleanLine {a : Nat} (h : s.Bears (.slot d k)) : (cleanLine a s).Bears (.slot d k) := by
  unfold Machine.cleanLine
  refine .lineClean (.syncDirty ?_)
  split
  · refine State.Bears.setWay ?_
    split <;> exact h
  · split <;> exact h

theorem State.Bears.replaceCopy {a data info : Nat} (h : s.Bears (.slot d k)) : (replaceCopy a data info s).Bears (.slot d k) := by
  unfold Machine.replaceCopy
  split
  · exact h.setWay.setAsks.cleanLine
  · refine .ite ?_ h
    split
    · exact h.setWay.syncDirty
    · exact h

/-! ### Home effects and the far tier -/

theorem State.Bears.advanceLedger {b v : Nat} (h : s.Bears (.slot d k)) : (advanceLedger b v s).Bears (.slot d k) := by
  unfold Machine.advanceLedger
  split
  · exact h.pushWrite
  · exact h

theorem State.Bears.homeEffect {id status : Nat} (h : s.Bears (.slot d k)) : (homeEffect id status s).Bears (.slot d k) := by
  unfold Machine.homeEffect
  split
  · exact .ite h (.ite h.modAsk h.modAsk.finish)
  · exact h

theorem State.Bears.backingDone {id : Nat} (h : s.Bears (.slot d k)) : (backingDone id s).Bears (.slot d k) := by
  unfold Machine.backingDone
  split
  · split
    · exact .ite h.modAsk h.modAsk.finish
    · exact h.modAsk
  · exact h

theorem State.Bears.endFarWrite {id status : Nat} {backing : Bool} (h : s.Bears (.slot d k)) :
    (endFarWrite id backing status s).Bears (.slot d k) := .ite h.backingDone h.finish

theorem State.Bears.modBale {b : Nat} {f : Bale → Bale} (h : s.Bears (.slot d k)) : (s.modBale b f).Bears (.slot d k) := h
theorem State.Bears.noteLost {b : Nat} (h : s.Bears (.slot d k)) : (noteLost b s).Bears (.slot d k) := h.offPath (noteLost_fr (.refl _ _))
theorem State.Bears.takeBale {b : Nat} (h : s.Bears (.slot d k)) : (takeBale b s).Bears (.slot d k) := h.offPath (takeBale_fr (.refl _ _))
theorem State.Bears.waitBale {b : Nat} {r : FarReader} (h : s.Bears (.slot d k)) : (waitBale b r s).Bears (.slot d k) :=
  h.offPath (waitBale_fr (.refl _ _))

theorem State.Bears.issueBaleWrite {b v : Nat} (h : s.Bears (.slot d k)) : (issueBaleWrite b v s).Bears (.slot d k) := by
  unfold Machine.issueBaleWrite
  split
  · exact h
  · exact .ite h (State.Bears.advanceLedger (b := b) (v := v) h)

theorem State.Bears.denyBale {b : Nat} (h : s.Bears (.slot d k)) : (denyBale b s).Bears (.slot d k) := by
  unfold Machine.denyBale
  split
  · exact h
  · exact .forEach (fun _ _ k => k.endFarWrite) (State.Bears.of_eq h.noteLost rfl rfl)

theorem State.Bears.writeBale {b : Nat} (h : s.Bears (.slot d k)) : (writeBale b s).Bears (.slot d k) := by
  unfold Machine.writeBale
  split
  · exact h
  · refine .ite h ?_
    split
    · exact h.denyBale
    · exact .ite h (.ite h.issueBaleWrite (.ite (State.Bears.issueBaleWrite h.modBale) h.waitBale))

theorem State.Bears.mergeBale {w : FarWrite} {l : Nat × Nat} (h : s.Bears (.slot d k)) : (mergeBale w l s).Bears (.slot d k) := by
  unfold Machine.mergeBale
  dsimp only
  split
  · exact .ite h.modBale.writeBale h.modBale
  · exact h.modBale

theorem State.Bears.takeFarWrite {w : FarWrite} (h : s.Bears (.slot d k)) : (takeFarWrite w s).Bears (.slot d k) := by
  unfold Machine.takeFarWrite
  split
  · exact h.noteLost.endFarWrite
  · refine .ite h.raiseNode.endFarWrite ?_
    dsimp only
    split
    · exact h.takeBale.mergeBale
    · exact .ite h.takeBale.endFarWrite h.takeBale.waitBale

theorem State.Bears.farWrite {w : FarWrite} (h : s.Bears (.slot d k)) : (farWrite w s).Bears (.slot d k) :=
  .ite h.finish (.ite h.takeFarWrite h)

theorem State.Bears.backingWrite {id a data info : Nat} (h : s.Bears (.slot d k)) :
    (backingWrite id a data info s).Bears (.slot d k) := by
  unfold Machine.backingWrite
  split
  · exact .ite h.countAccess.backingDone h.farWrite
  · exact h

theorem State.Bears.wholePlaced {id a data info : Nat} (h : s.Bears (.slot d k)) :
    (wholePlaced id a data info s).Bears (.slot d k) := .ite h.modAsk.backingWrite.homeEffect h.homeEffect

/-! ### Streams: signals, fences, and the lines fed -/

theorem State.Bears.fireSignals {n : Nat} {x : Stream} (h : s.Bears (.slot d k)) : (fireSignals n x s).2.Bears (.slot d k) :=
  .forEach (fun _ _ k => k.signalObject) h

theorem State.Bears.fire {old : Bool} {n : Nat} (h : s.Bears (.slot d k)) : (fire old n s).Bears (.slot d k) := by
  unfold Machine.fire
  split
  · exact h
  · exact .ite h.fireSignals.modOld h.fireSignals.modStream

theorem State.Bears.sweepOld (h : s.Bears (.slot d k)) : (sweepOld s).Bears (.slot d k) := .ite h h

theorem State.Bears.settleDrain {old : Bool} {n : Nat} (h : s.Bears (.slot d k)) : (settleDrain old n s).Bears (.slot d k) := by
  unfold Machine.settleDrain
  split
  · exact h
  · exact .ite h (.ite h (.sweepOld (.fire (.ite h.modOld h.modStream))))

theorem State.Bears.fenceContext {cause ctx : Nat} (h : s.Bears (.slot d k)) : (fenceContext cause ctx s).Bears (.slot d k) := by
  refine .ite h (.ite h (.abortAsks (.fenceReds ?_)))
  refine State.Bears.of_eq (s := Machine.forEach _ (fun (p : Nat × Stream) s => Machine.dropEscapes p.2 s) _) ?_ rfl rfl
  exact .forEach (fun _ _ k => k.dropEscapes) (.forEach (fun _ _ k => .ite k k) (.raiseCtx h))

theorem State.Bears.pumpFeed {n j : Nat} {x : Stream} (h : s.Bears (.slot d k)) : (pumpFeed n j x s).2.1.Bears (.slot d k) :=
  h.offPath (pumpFeed_fr (.refl _ _))

theorem State.Bears.feedList {old : Bool} {n : Nat} (h : s.Bears (.slot d k)) : (feedList old n s).Bears (.slot d k) := by
  unfold Machine.feedList
  split
  · exact h
  next x _ =>
    have fed : (Machine.pumpFeed n x.feed.length x s).2.1.Bears (.slot d k) := h.pumpFeed
    exact .ite (.fenceContext (.ite fed.modOld.modStream fed.modStream)) (.ite fed.modOld.modStream fed.modStream)

theorem State.Bears.feedOut {n : Nat} (h : s.Bears (.slot d k)) : (feedOut n s).Bears (.slot d k) :=
  .ite h.feedList h.feedList.sweepOld.feedList

theorem State.Bears.modFeed {n num : Nat} {f : FeedLine → FeedLine} (h : s.Bears (.slot d k)) : (s.modFeed n num f).Bears (.slot d k) := h

theorem State.Bears.feedArrive {n num : Nat} {ls : List Nat} {poison : Bool} (h : s.Bears (.slot d k)) :
    (feedArrive n num ls poison s).Bears (.slot d k) := by
  unfold Machine.feedArrive
  split
  · exact h
  · exact .feedOut (.ite (.setObAny h.modFeed) h.modFeed)

theorem State.Bears.feedRefused {n num : Nat} (h : s.Bears (.slot d k)) : (feedRefused n num s).Bears (.slot d k) := by
  unfold Machine.feedRefused
  split
  · exact h
  · exact h.fenceContext

theorem State.Bears.readEscape {u slot l ctx : Nat} {world : Bool} {why : Nat → Purpose} (h : s.Bears (.slot d k)) :
    (readEscape u slot l ctx world why s).Bears (.slot d k) := .forEach (fun _ _ k => k.offerInternal) h

theorem State.Bears.feedLine {n num : Nat} {l : Nat × Nat} (h : s.Bears (.slot d k)) : (feedLine n num l s).Bears (.slot d k) := by
  unfold Machine.feedLine
  split
  · exact h
  next x f _ =>
    refine .ite h.countAccess.feedRefused (.ite (State.Bears.bumpAny h).feedArrive ?_)
    split
    · exact h.feedArrive
    next e _ =>
      refine .ite h.feedRefused ?_
      have counted {w : Widened} : (countWiden (sheafOfEngine (engineOf n)) f.addr (s.planCause n f.addr) w s).Bears (.slot d k) :=
        h.offPath (countWiden_fr (.refl _ _))
      dsimp only
      split
      · exact counted.feedArrive
      · exact counted.modFeed.readEscape
      · exact counted.feedArrive

/-! ### Windows -/

theorem State.Bears.degrade {n : Nat} (h : s.Bears (.slot d k)) : (degrade n s).Bears (.slot d k) :=
  have noted : s.bump 0x3000 (6 + n) |>.Bears (.slot d k) := h
  .ite noted.setPath (.raiseNode (.setObAny noted.setPath))

theorem State.Bears.breakContinuity {n : Nat} (h : s.Bears (.slot d k)) : (breakContinuity n s).Bears (.slot d k) :=
  h.offPath (breakContinuity_fr (.refl _ _))

theorem State.Bears.plannedTaken {p : Plan} {ctx : Nat} (h : s.Bears (.slot d k)) : (plannedTaken p ctx s).Bears (.slot d k) :=
  .ite h.degrade.breakContinuity h.degrade

theorem State.Bears.takeSlots {c why : Nat} {slots : List Nat} (h : s.Bears (.slot d k)) : (takeSlots c why slots s).Bears (.slot d k) :=
  h.offPath (takeSlots_fr (.refl _ _))
theorem State.Bears.countTaken {c n : Nat} (h : s.Bears (.slot d k)) : (countTaken c n s).Bears (.slot d k) :=
  h.offPath (countTaken_fr (.refl _ _))
theorem State.Bears.markDerated {c : Nat} (h : s.Bears (.slot d k)) : (markDerated c s).Bears (.slot d k) :=
  h.offPath (markDerated_fr (.refl _ _))
theorem State.Bears.setPlans {p : Plans} (h : s.Bears (.slot d k)) : (s.setPlans p).Bears (.slot d k) := h

theorem State.Bears.takeWindow {c first : Nat} {p : Plan} (h : s.Bears (.slot d k)) : (takeWindow c first p s).Bears (.slot d k) := by
  refine .setPlans (.forEach (fun _ _ k => k.degrade) ?_)
  have taken {l₀ l₁ l₂ : List Nat} : (Machine.takeSlots c 2 l₂ (Machine.takeSlots c 1 l₁ (Machine.takeSlots c 0 l₀ s))).Bears
      (.slot d k) := h.takeSlots.takeSlots.takeSlots
  exact .ite (.countTaken (.forEach (fun _ _ k => k.plannedTaken) taken))
    (.markDerated (.countTaken (.forEach (fun _ _ k => k.plannedTaken) taken)))

theorem State.Bears.beginWindow {c slot : Nat} (h : s.Bears (.slot d k)) : (beginWindow c slot s).Bears (.slot d k) := by
  unfold Machine.beginWindow
  dsimp only
  refine .ite h ?_
  split
  · exact .ite (.takeWindow (.setPlans h)) (.setPlans h)
  · exact h

/-! ### Commands issued -/

theorem State.Bears.noteCmd {c ck order : Nat} {cmd : SdiCmd} (h : s.Bears (.slot d k)) : (noteCmd c ck cmd order s).Bears (.slot d k) :=
  h.modChan

theorem State.Bears.driveCmd {c : Nat} {bad : Bool} {cmd : SdiCmd} (h : s.Bears (.slot d k)) : (driveCmd c bad cmd s).Bears (.slot d k) :=
  h.offPath (driveCmd_fr (.refl _ _))

theorem State.Bears.issueRow {c slot : Nat} {bad : Bool} {kind : RowKind} {cmd : SdiCmd} (h : s.Bears (.slot d k)) :
    (issueRow c slot bad kind cmd s).Bears (.slot d k) := by
  refine .driveCmd ?_
  split
  · exact .modChan (.countAny (.bumpAny h.noteCmd)) fun _ => by cases kind <;> rfl
  · exact h.noteCmd.modChan
  · exact h.noteCmd.modChan
  · exact h.noteCmd.modChan
  · exact h.noteCmd

theorem State.Bears.addDebt {c : Nat} {banks : List Nat} {n : Int} (h : s.Bears (.slot d k)) : (addDebt c banks n s).Bears (.slot d k) :=
  .setObAny h.modChan

theorem State.Bears.issueRef {c slot l big mask : Nat} {bad : Bool} (h : s.Bears (.slot d k)) :
    (issueRef c slot bad l big mask s).Bears (.slot d k) :=
  .driveCmd (.countAny (.bumpByAny (.modChan (.addDebt h.noteCmd))))

theorem State.Bears.countTurn {c l : Nat} {wr : Bool} (h : s.Bears (.slot d k)) : (countTurn c l wr s).Bears (.slot d k) :=
  .modChan (.ite (.countAny (.bumpAny (.ite (.countAny (.bumpAny h)) h))) (.ite (.countAny (.bumpAny h)) h))

theorem State.Bears.countData {c slot l : Nat} {wr planned : Bool} (h : s.Bears (.slot d k)) :
    (countData c slot l wr planned s).Bears (.slot d k) := .modChan (.bumpAny h.countTurn)

theorem State.Bears.usedRow {c l b : Nat} (h : s.Bears (.slot d k)) : (usedRow c l b s).Bears (.slot d k) := h.modChan

theorem State.Bears.layParity {c : Nat} (h : s.Bears (.slot d k)) : (layParity c s).Bears (.slot d k) :=
  h.offPath (layParity_fr (.refl _ _))

theorem State.Bears.issueRead {c slot : Nat} {bad ap planned : Bool} {e : RdEntry} {olds : List WrEntry} (h : s.Bears (.slot d k)) :
    (issueRead c slot bad ap planned e olds s).Bears (.slot d k) := by
  unfold Machine.issueRead
  extract_lets l u v
  have counted : v.Bears (.slot d k) :=
    (State.Bears.usedRow (State.Bears.countData (s := u) h.noteCmd)).offPath (countRead_fr (.refl _ _))
  have driven : (if bad then (none, Machine.layParity c v) else layRd c l.layer l.bank l.line ap v).2.Bears (.slot d k) :=
    .ite_snd counted.layParity (counted.offPath (layRd_fr (.refl _ _)))
  exact driven.modChan

theorem State.Bears.issueChaff {c slot l b line : Nat} {bad ap : Bool} (h : s.Bears (.slot d k)) :
    (issueChaff c slot bad ap l b line s).Bears (.slot d k) := by
  have counted := State.Bears.countAny (i := chanBank c) (j := 15) (n := 1) (State.Bears.countTurn (c := c) (l := l) (wr := false)
    (State.Bears.noteCmd (c := c) (ck := colCk slot) (order := 0) (cmd := .rdc l b line ap) h))
  exact .ite counted.layParity (counted.offPath (layRdc_fr (.refl _ _)))

theorem State.Bears.issueWrite {c slot : Nat} {bad preamble ap planned : Bool} {e : WrEntry} (h : s.Bears (.slot d k)) :
    (issueWrite c slot bad preamble ap planned e s).Bears (.slot d k) := by
  unfold Machine.issueWrite
  extract_lets l u v w
  have counted : v.Bears (.slot d k) :=
    (State.Bears.usedRow (State.Bears.countData (s := u) h.noteCmd)).offPath (countWrite_fr (.refl _ _))
  have noted : w.Bears (.slot d k) := counted.modChan
  exact .ite noted.layParity (noted.offPath (layWr_fr (.refl _ _)))

theorem State.Bears.issueTemp {c slot layer : Nat} {bad : Bool} (h : s.Bears (.slot d k)) :
    (issueTemp c slot layer bad s).Bears (.slot d k) := by
  unfold Machine.issueTemp
  extract_lets u
  have noted : u.Bears (.slot d k) := h.noteCmd
  have driven : (if bad then (none, Machine.layParity c u) else layMrr c layer 0x40 u).2.Bears (.slot d k) :=
    .ite_snd noted.layParity (noted.offPath (layMrr_fr (.refl _ _)))
  exact driven.modChan.takeOrder

/-! ### Weak lines, aged reads, the mode, and what a free slot takes -/

theorem State.Bears.setWeak {c n : Nat} {w : Option Weak} (h : s.Bears (.slot d k)) : (setWeak c n w s).Bears (.slot d k) :=
  .setObAny (.setObAny h.modChan)

theorem State.Bears.healedNow {c line : Nat} (h : s.Bears (.slot d k)) : (healedNow c line s).Bears (.slot d k) := by
  unfold Machine.healedNow
  split
  · exact h.setWeak
  · exact h

theorem State.Bears.ageReads {c slot : Nat} (h : s.Bears (.slot d k)) : (ageReads c slot s).Bears (.slot d k) :=
  .modChan (.forEach (fun _ _ k => k.countIfAny) (.bumpByAny (.forEach (fun _ _ k => .raise (.bumpAny k)) h)))

theorem State.Bears.nextMode {c slot : Nat} (h : s.Bears (.slot d k)) : (nextMode c slot s).Bears (.slot d k) := by
  unfold Machine.nextMode
  extract_lets x held waited unheld n mode u
  have moded : u.Bears (.slot d k) := h.modChan
  clear_value mode u
  refine .ite moded ?_
  split <;> exact moded

theorem State.Bears.issuePick {c slot : Nat} {bad preamble : Bool} {p : Pick} (h : s.Bears (.slot d k)) :
    (issuePick c slot bad preamble p s).Bears (.slot d k) := by
  cases p with
  | read e => exact .syncDepth (.issueRead h.modChan)
  | fill w => exact .issueRead h.modChan
  | reread r => exact .issueRead h.modChan
  | write urgent w => exact .syncDepth (.issueWrite (h.modChan fun _ => by cases urgent <;> rfl))

theorem State.Bears.endLap {c : Nat} (h : s.Bears (.slot d k)) : (endLap c s).Bears (.slot d k) :=
  .modChan (.raise (.bumpAny (.setObAny h)))

theorem State.Bears.gleanPast {c n : Nat} (h : s.Bears (.slot d k)) : (gleanPast c n s).Bears (.slot d k) :=
  .ite (.setObAny h) (.endLap (.setObAny h))

theorem State.Bears.calSlot {c slot : Nat} {after : List (Option PLine)} (h : s.Bears (.slot d k)) :
    (calSlot c slot after s).Bears (.slot d k) := .ite h (.ite h.noteCmd h.withheld)

theorem State.Bears.openSlot {c slot : Nat} {bad preamble : Bool} {after : List (Option PLine)} (h : s.Bears (.slot d k)) :
    (openSlot c slot bad preamble after s).2.Bears (.slot d k) := by
  unfold Machine.openSlot
  refine .ite_snd h ?_
  dsimp only
  split
  · exact h
  · split
    · exact h.withheldMany.issuePick
    · exact h.withheldMany

theorem State.Bears.gleanSlot {c slot : Nat} {bad : Bool} {after : List (Option PLine)} (h : s.Bears (.slot d k)) :
    (gleanSlot c slot bad after s).Bears (.slot d k) := by
  unfold Machine.gleanSlot
  refine .ite h ?_
  split
  · exact h
  · exact .ite h.gleanPast (.ite h (.ite h.withheld (.gleanPast (.takeOrder (.issueRead (.bumpAny h))))))

/-! ### The row position, refresh and temperature -/

theorem State.Bears.takeSteer {c : Nat} (h : s.Bears (.slot d k)) : (takeSteer c s).Bears (.slot d k) := h

theorem State.Bears.rowPosition {c slot : Nat} {bad : Bool} {w : List (Option PLine)} (h : s.Bears (.slot d k)) :
    (rowPosition c slot bad w s).Bears (.slot d k) := by
  unfold Machine.rowPosition
  dsimp only
  refine .ite h ?_
  split
  · exact .issueRow h.modChan
  refine .ite (.issueRow h.modChan) ?_
  split
  · exact h.issueRow
  split
  · exact h.issueRow
  split
  · exact h.issueRow.takeSteer
  split
  · split
    · exact h.withheldMany.issueRow
    · exact h.withheldMany
  split
  · exact h
  split
  · exact h
  · exact .ite h (.ite h.issueRow h.withheld)

theorem State.Bears.urgentRefresh {c slot : Nat} {bad : Bool} (h : s.Bears (.slot d k)) (due : urgentRefresh c slot bad s = some t) :
    t.Bears (.slot d k) := by
  unfold Machine.urgentRefresh at due
  dsimp only at due
  split at due
  · cases due
  · cases due
    exact .raise (.countAny (.bumpAny h.issueRef))

theorem State.Bears.readTemp {c slot : Nat} {bad : Bool} {after : List (Option PLine)} (h : s.Bears (.slot d k)) :
    (readTemp c slot bad after s).2.Bears (.slot d k) := by
  unfold Machine.readTemp
  split
  · exact h
  · exact .ite_snd h (.ite_snd h.withheld (.issueTemp (State.Bears.of_eq h rfl rfl)))

theorem State.Bears.reserveRefresh {c slot : Nat} {bad : Bool} {after : List (Option PLine)} (h : s.Bears (.slot d k)) :
    (reserveRefresh c slot bad after s).2.Bears (.slot d k) := by
  unfold Machine.reserveRefresh
  extract_lets g idle passed u temp
  have held : u.Bears (.slot d k) := .ite h.withheld h
  clear_value g
  refine .ite_snd held.readTemp ?_
  split
  · exact held.issueRef
  · exact held.readTemp

/-! ### Planned lines -/

theorem State.Bears.startDerate {n : Nat} (h : s.Bears (.slot d k)) : (startDerate n s).Bears (.slot d k) :=
  h.offPath (startDerate_fr (.refl _ _))

theorem State.Bears.slip {c n : Nat} (h : s.Bears (.slot d k)) : (slip c n s).Bears (.slot d k) := by
  have slipped : (Machine.startDerate 3 (Machine.degrade 5 (Machine.raise Ev.planSlip c 0 ((s.bump 0x2202 4).bump (chanIdx c) 0x19)))).Bears
      (.slot d k) := .startDerate (.degrade (.raise (.bumpAny (.bumpAny h))))
  exact .countTaken (.ite slipped.breakContinuity slipped)

theorem State.Bears.moveRead {c slot : Nat} {e : RdEntry} {olds : List WrEntry} (h : s.Bears (.slot d k)) :
    (moveRead c e olds slot s).Bears (.slot d k) := by
  unfold Machine.moveRead
  split <;> exact h.modChan

theorem State.Bears.advance {n : Nat} {x : Stream} (h : s.Bears (.slot d k)) : (advance n x s).Bears (.slot d k) := h

theorem State.Bears.candidate {p : Nat} {c : Cause} {mk : State → Building} (h : s.Bears (.slot d k)) :
    (candidate p c mk s).Bears (.slot d k) := h.offPath (candidate_fr (.refl _ _))

theorem State.Bears.sampleFlag {kind id num flag : Nat} (h : s.Bears (.slot d k)) : (sampleFlag kind id num flag s).Bears (.slot d k) :=
  h.offPath (sampleFlag_fr (.refl _ _))

theorem State.Bears.issueFeed {c slot nw : Nat} {bad : Bool} {u : Due} {cmd : Option SdiCmd} {x : Stream} (h : s.Bears (.slot d k)) :
    (issueFeed c slot bad u nw cmd x s).Bears (.slot d k) := by
  unfold Machine.issueFeed
  extract_lets e a loc ap fmt masked masked' lag given sampled entry
  have counted : masked.Bears (.slot d k) := .advance (.countIfAny (.bumpAny h))
  have sampled : sampled.Bears (.slot d k) := .ite (.candidate h.advance) h.advance
  refine .ite (.feedOut ?_) ?_
  · unfold masked'
    split
    · exact .issueChaff (.bumpAny counted)
    · exact counted
  · split
    · have gone := fun l => State.Bears.setPath (p := { State.path _ with retired := l }) sampled
      split
      · exact (gone _).feedLine
      · exact (gone _).feedArrive
    · exact .ite (.takeOrder (.moveRead (.ite sampled (.sampleFlag (.bumpAny sampled)))))
        (.takeOrder (.issueRead (.ite sampled (.sampleFlag (.bumpAny sampled)))))

theorem State.Bears.countHealed {w : WrEntry} (h : s.Bears (.slot d k)) : (countHealed w s).Bears (.slot d k) := by
  unfold Machine.countHealed
  split
  · exact h.healedNow
  · exact h

theorem State.Bears.supersedeWrites {c a : Nat} (h : s.Bears (.slot d k)) : (supersedeWrites c a s).Bears (.slot d k) := by
  refine .syncDepth (.forEach (fun w u k => ?_) (.forEach (fun _ _ k => k.countHealed) h.modChan))
  dsimp only
  split
  · exact .retire (.modAsk (.homeEffect (.ite (.modAsk (.bumpAny k)) (.bumpAny k))))
  · exact .bumpAny k

theorem State.Bears.writeMove {l : Loc} {data info : Nat} (h : s.Bears (.slot d k)) : (writeMove l data info s).Bears (.slot d k) :=
  h.modChan fun _ => by dsimp only; split <;> rfl

theorem State.Bears.planOverRed {a : Nat} (h : s.Bears (.slot d k)) : (planOverRed a s).Bears (.slot d k) :=
  h.offPath (planOverRed_fr (.refl _ _))

end

end Sys2Proof.Machine

/-!
PROOF. One slot of a channel that runs: it is carried out, and its number is the channel's last (R186, R187).
-/
namespace Sys2Proof.Machine

-- One proof after another, each on a stack of its own, for the check's memory.
set_option Elab.async false

section
variable {d k : Nat} {s : State}

/-! ### Drain lines and planned lines -/

theorem State.Bears.issueDrain {c slot : Nat} {bad preamble : Bool} {u : Due} {x : DrainLine} {cmd : Option SdiCmd} {y : Stream}
    (h : s.Bears (.slot d k)) : (issueDrain c slot bad preamble u x cmd y s).Bears (.slot d k) := by
  unfold Machine.issueDrain
  extract_lets a e loc id x side asked added peaked mark popped y advanced sent counted sampled feeds pooled checked superseded copied
    overtaken stored ap made w placed
  have peaked : peaked.Bears (.slot d k) := .peak (State.Bears.addAsk h)
  have sent : sent.Bears (.slot d k) := peaked
  have counted : counted.Bears (.slot d k) := .countIfAny (.bumpAny sent)
  have sampled : sampled.Bears (.slot d k) := .ite (.candidate counted) counted
  have pooled : pooled.Bears (.slot d k) := by
    unfold pooled
    split <;> exact sampled
  have superseded : superseded.Bears (.slot d k) := .supersedeWrites (.planOverRed pooled)
  have overtaken : overtaken.Bears (.slot d k) := .modChan (.ite superseded (.replaceCopy superseded))
  exact .settleDrain (.wholePlaced (.ite (.pushWrite overtaken) (.ite (.modAsk (.writeMove overtaken))
    (.takeOrder (.issueWrite overtaken)))))

theorem State.Bears.lateMask {n : Nat} {i : LineItem} (h : s.Bears (.slot d k)) : (lateMask n i s).Bears (.slot d k) :=
  h.offPath (lateMask_fr (.refl _ _))

theorem State.Bears.plannedSlot {c slot n : Nat} {bad preamble own : Bool} {w : List (Option PLine)} (h : s.Bears (.slot d k)) :
    (plannedSlot c slot bad preamble own n w s).2.Bears (.slot d k) := by
  unfold Machine.plannedSlot
  split
  · exact h
  next x _ =>
    extract_lets x' bank
    split
    · exact h
    · exact h
    next i _ =>
      extract_lets masked x₂ u p cmd y fit nw pair starved full
      have counted : full.Bears (.slot d k) := .countIfAny (.countIfAny (.lateMask (State.Bears.modStream h)))
      clear_value full
      refine .ite_snd ?_ (.ite_snd counted (.ite_snd counted.issueFeed (.ite counted.slip counted)))
      split
      · exact counted
      · exact .ite_snd counted (.ite_snd counted.issueDrain (.ite counted.slip counted))

theorem State.Bears.lateLine {c slot : Nat} {bad preamble : Bool} {w after : List (Option PLine)} (h : s.Bears (.slot d k)) :
    (lateLine c slot bad preamble w after s).2.Bears (.slot d k) := by
  unfold Machine.lateLine
  refine .ite_snd h ?_
  split
  · exact .ite (h.plannedSlot.offPath (settleLag_fr (.refl _ _))) h
  · exact h

theorem State.Bears.freeSlot {c slot : Nat} {bad preamble : Bool} {w after : List (Option PLine)} (h : s.Bears (.slot d k)) :
    (freeSlot c slot bad preamble w after s).Bears (.slot d k) := by
  have late : (Machine.lateLine c slot bad preamble w after s).2.Bears (.slot d k) := h.lateLine
  unfold Machine.freeSlot
  split
  next u e => rwa [e] at late
  next u e =>
    rw [e] at late
    have opened : (Machine.openSlot c slot bad preamble after u).2.Bears (.slot d k) := late.openSlot
    split
    next v e => rwa [e] at opened
    next v e => rw [e] at opened; exact opened.gleanSlot

/-! ### The units beside a slot -/

theorem State.Bears.prefetch {c slot : Nat} (h : s.Bears (.slot d k)) : (prefetch c slot s).Bears (.slot d k) := by
  refine .foldl (fun i u k => ?_) h
  dsimp only
  split
  · exact k
  · exact .ite k (.pushRead k.setPath)

theorem State.Bears.serveMove {c slot : Nat} (h : s.Bears (.slot d k)) : (serveMove c slot s).Bears (.slot d k) := by
  refine .syncDepth (.forEach (fun _ _ k => .moveRead k.modChan) (.forEach (fun _ _ k => .moveRead k.modChan)
    (.forEach (fun w u k => ?_) h)))
  dsimp only
  split
  · exact .retire (.modAsk (.countHealed (.writeMove k.modChan)))
  · exact .countHealed (.writeMove k.modChan)

/-! ### The column position and the slot -/

theorem State.Bears.takenSlot {n : Nat} (h : s.Bears (.slot d k)) : (takenSlot n s).Bears (.slot d k) :=
  h.offPath (takenSlot_fr (.refl _ _))
theorem State.Bears.countOwn {n : Nat} (h : s.Bears (.slot d k)) : (countOwn n s).Bears (.slot d k) := h.offPath (countOwn_fr (.refl _ _))
theorem State.Bears.endOwnSlot {n : Nat} (h : s.Bears (.slot d k)) : (endOwnSlot n s).Bears (.slot d k) :=
  h.offPath (endOwnSlot_fr (.refl _ _))

theorem State.Bears.orElse {next : State → State} {r : Bool × State} (h : r.2.Bears (.slot d k))
    (keeps : ∀ u, u.Bears (.slot d k) → (next u).Bears (.slot d k)) : (orElse next r).Bears (.slot d k) := .ite h (keeps _ h)

theorem State.Bears.colPosition {c slot : Nat} {bad preamble : Bool} {w after : List (Option PLine)} (h : s.Bears (.slot d k)) :
    (colPosition c slot bad preamble w after s).Bears (.slot d k) := by
  unfold Machine.colPosition
  split
  next ty n _ =>
  extract_lets taken planned finish
  have ended {u : State} (held : u.Bears (.slot d k)) : (finish u).Bears (.slot d k) := .ite held.endOwnSlot held
  have passed {n : Nat} {u : State} (held : u.Bears (.slot d k)) : (if planned then Machine.takenSlot n u else u).Bears (.slot d k) :=
    .ite held.takenSlot held
  clear_value finish taken
  split
  next u due =>
    have ref : (u.modChan c fun x => { x with busyNext := false }).Bears (.slot d k) := (h.urgentRefresh due).modChan
    exact .ite (ended (.ite ref.takenSlot.slip ref.takenSlot)) (.ite (ended ref.takenSlot) ref)
  · refine .ite (.ite (ended (.takenSlot h.modChan)) h.modChan) (.ite h.reserveRefresh ?_)
    split
    · exact ended (passed h).reserveRefresh
    · exact ended (passed h)
    · refine .ite (.orElse h.reserveRefresh fun _ k => k.gleanSlot)
        (.ite (.ite h.calSlot (.orElse h.readTemp fun _ k => k.gleanSlot)) (.ite ?_ (.ite h h.freeSlot)))
      have line : (Machine.plannedSlot c slot bad preamble true n w (Machine.countOwn n s)).2.Bears (.slot d k) := h.countOwn.plannedSlot
      exact ended (.ite (.countIfAny line) (.freeSlot (.countIfAny line)))

theorem channelSlot_lastSlot {c fault : Nat} (runs : s.slotRuns c = true) (first : (s.chan c).lastSlot = none) :
    ((channelSlot c fault s).chan c).lastSlot = some (s.slotOf c) := by
  have begun : (s.modChan c fun x => { x.pruneIssued (rowCk (s.slotOf c)) with lastSlot := some (s.slotOf c) }).Bears
      (.slot c (s.slotOf c)) := congrArg Chan.lastSlot (look_put_of_ne (Chan.ne_reset_of_lastSlot rfl) _ _)
  unfold channelSlot
  extract_lets slot x taken
  have first : x.lastSlot = none := first
  rw [first, if_neg (by simp), if_neg (by simp [runs])]
  show State.Bears _ (.slot c (s.slotOf c))
  exact .countAny (.colPosition (.rowPosition (.prefetch (.countAny (.countAny (.serveMove (.nextMode (.ageReads begun.beginWindow))))))))

end

end Sys2Proof.Machine

/-!
PROOF. What one instruction does to a stream that may decode it (R94 to R97), and the settling of O40.
-/
namespace Sys2Proof.Machine

-- One proof after another, each on a stack of its own, for the check's memory.
set_option Elab.async false

/-! ### A stream changed, and changed again -/

theorem modStream_modStream (s : State) (n : Nat) (f g : Stream → Stream) :
    (s.modStream n f).modStream n g = s.modStream n fun x => g (f x) := by
  simp only [State.modStream, State.setFeeds, List.map_map]
  congr 2
  refine List.map_congr_left fun p _ => ?_
  by_cases same : p.1 = n <;> simp [same]

theorem stream?_modStream (s : State) (n : Nat) (f : Stream → Stream) : (s.modStream n f).stream? n = (s.stream? n).map f := by
  simp only [State.stream?, State.modStream, State.setFeeds]
  induction s.feeds.streams with
  | nil => rfl
  | cons p l ih => by_cases same : p.1 == n <;> simp_all

section
variable {s : State} {n w op : Nat} {t : Stream}

/-! ### Decoding -/

theorem decodeCmd_eq {act : Nat → Stream → State → State} {u : State} (engine : engineOf n < 16 * s.cfg.nstacks)
    (decoded : decodeOne op n act s = u) : decodeCmd op n act s = .next u := decoded ▸ if_pos (decide_eq_true engine)

theorem decodeOne_of_not {act : Nat → Stream → State → State} (held : s.stream? n = some t)
    (not : t.mayDecode = false ∨ insOp (s.instrOf n t) ≠ op) : decodeOne op n act s = s := by
  unfold decodeOne
  rw [held]
  dsimp only
  rw [if_neg]
  rcases not with no | other
  · simp [no]
  · simp [other]

/-- A stream decodes its next instruction where R97 lets it, and the instruction has the command's opcode: one that yields no items. -/
theorem decodeOne_of_step {act : Nat → Stream → State → State} {c : Cursor} (held : s.stream? n = some t) (may : t.mayDecode = true)
    (same : insOp (s.instrOf n t) = op) (steps : t.cur.step (s.instrOf n t) = (c, none)) :
    decodeOne op n act s = act (s.instrOf n t) { t with cur := c } (s.modStream n fun _ => { t with cur := c }) := by
  unfold decodeOne
  rw [held]
  refine (if_pos (by simp [may, same])).trans ?_
  rw [steps]
  simp

/-- The same for one that yields items. -/
theorem decodeOne_of_yield {act : Nat → Stream → State → State} {c : Cursor} {r : DRun} (held : s.stream? n = some t)
    (may : t.mayDecode = true) (same : insOp (s.instrOf n t) = op) (steps : t.cur.step (s.instrOf n t) = (c, some r)) :
    decodeOne op n act s =
      let y := { t with cur := c, runs := t.runs ++ [r], decoded := t.decoded + if r.skip then 0 else r.count }
      act (s.instrOf n t) y (s.modStream n fun _ => y) := by
  unfold decodeOne
  rw [held]
  refine (if_pos (by simp [may, same])).trans ?_
  rw [steps]
  rfl

end

/-! ### What each instruction does to the cursor (R94 to R96) -/

section
variable {c : Cursor} {w : Nat}

theorem step_end (op : insOp w = 0) : c.step w = ({ c with ended := true }, none) := by simp only [Cursor.step, op]
theorem step_seta (op : insOp w = 1) : c.step w = ((c.modGen (insGen w) fun g => { g with base := bits 52 0 w, p := 0 }).next, none) := by
  simp only [Cursor.step, op]
theorem step_setd (op : insOp w = 2) : c.step w = ((c.modGen (insGen w) fun g =>
    { g with counts := g.counts.set (bits 109 108 w) (bits 95 80 w + 1)
             strides := g.strides.set (bits 109 108 w) (signed 32 (bits 63 32 w)), p := 0 }).next, none) := by
  simp only [Cursor.step, op]
theorem step_move (op : insOp w = 3) (unmasked : w.testBit 111 = false ∨ c.mask = 0) : c.step w =
    ((c.modGen (insGen w) fun g => g.advance (bits 23 0 w + 1)).next,
      some ⟨false, bits 23 0 w + 1, c.gens.getD (insGen w) .reset, 0, c.maskRows, 0, c.fmt, c.pc, 0⟩) := by
  have masked : (w.testBit 111 && c.mask != 0) = false := by rcases unmasked with no | no <;> simp [no]
  simp [Cursor.step, op, masked]
theorem step_maskedMove (op : insOp w = 3) (bit : w.testBit 111 = true) (mask : c.mask ≠ 0) : c.step w =
    (({ c with maskItems := c.maskItems + (bits 23 0 w + 1) }.modGen (insGen w) fun g => g.advance (bits 23 0 w + 1)).next,
      some ⟨false, bits 23 0 w + 1, c.gens.getD (insGen w) .reset, c.mask, c.maskRows, c.maskItems, c.fmt, c.pc, 0⟩) := by
  simp [Cursor.step, op, bit, mask]
theorem step_skip (op : insOp w = 4) : c.step w = (c.next, some ⟨true, bits 23 0 w + 1, .reset, 0, 0, 0, none, c.pc, 0⟩) := by
  simp only [Cursor.step, op]
theorem step_mask (op : insOp w = 5) :
    c.step w = ({ c with mask := c.mask + 1, maskRows := bits 95 80 w + 1, maskItems := 0 }.next, none) := by
  simp only [Cursor.step, op]
theorem step_wait (op : insOp w = 6) : c.step w = (c.next, none) := by simp only [Cursor.step, op]
theorem step_signal (op : insOp w = 7) : c.step w = (c.next, none) := by simp only [Cursor.step, op]
theorem step_repeat (op : insOp w = 8) : c.step w = (c.jump (bits 111 96 w) (bits 15 0 w), none) := by simp only [Cursor.step, op]
theorem step_fmt (op : insOp w = 9) :
    c.step w = ({ c with fmt := if w.testBit 104 then some (bits 103 96 w) else none }.next, none) := by
  simp only [Cursor.step, op]

end

/-! ### The instructions that act beside the cursor -/

section
variable {s : State} {n obj : Nat} {t : Stream}

/-- A WAIT on an object its stream's world may see, kept by this node. -/
theorem registerWatch_here {f g : Stream → Stream} (here : syncNode obj = s.me)
    (seen : s.syncSecure (syncIndex obj) = false ∨ t.desc.world = true) :
    registerWatch n obj t ((s.modStream n f).modStream n g) = (s.setCache { s.cache with
      watches := s.cache.watches.filter (fun w => w != (syncIndex obj, n)) ++ [(syncIndex obj, n)] }).modStream n
        fun x => { g (f x) with watched := some (syncValue (s.syncState (syncIndex obj))) } := by
  have open_ : ¬(s.syncSecure (syncIndex obj) && !t.desc.world) = true := by rcases seen with no | yes <;> simp [*]
  rw [modStream_modStream]
  refine (if_pos here).trans ((if_neg open_).trans ?_)
  exact modStream_modStream (s.setCache { s.cache with
    watches := s.cache.watches.filter (fun w => w != (syncIndex obj, n)) ++ [(syncIndex obj, n)] }) n (fun x => g (f x))
      fun x => { x with watched := some (syncValue (s.syncState (syncIndex obj))) }

/-- A SIGNAL to an object that can be reached. -/
theorem enterSignal_reached {w : Nat} {f : Stream → Stream}
    (reached : syncNode (insObject w) = s.me ∨ s.canReach (syncNode (insObject w)) = true) : enterSignal n w t (s.modStream n f) =
      let u := fire false n (s.modStream n fun x =>
        { f x with signals := (f x).signals ++ [⟨insObject w, bits 31 0 w, (f x).decoded, false⟩] })
      if t.desc.drain then u else lateFence n u := by
  have near : ¬(syncNode (insObject w) != s.me && !s.canReach (syncNode (insObject w))) = true := by
    rcases reached with here | there <;> simp [*]
  refine (if_neg near).trans ?_
  dsimp only
  rw [modStream_modStream]

theorem readMask_modStream {w : Nat} {f : Stream → Stream} : readMask n w t (s.modStream n f) =
    let u := s.modStream n fun x => { f x with masks := (f x).keepMasks ++ [⟨(f x).cur.mask, lineOf (bits 52 0 w), none, false⟩] }
    offerChecked (u.unitAsk (engineUnit n) 0 t.desc.context t.desc.world (lineOf (bits 52 0 w)) .read (.mask n t.cur.mask)) u := by
  unfold readMask
  dsimp only
  rw [modStream_modStream]

end

/-! ### Slots -/

section
variable {s : State} {c : Nat}

theorem exec_channelSlot {fault : Nat} (held : c < s.channels) : exec (.channelSlot c fault) s = .next (channelSlot c fault s) :=
  if_pos (decide_eq_true held)

/-- A channel that does not run: its slot passes. -/
theorem channelSlot_passes {fault : Nat} (halts : s.slotRuns c = false)
    (later : ∀ k, (s.chan c).lastSlot = some k → k < s.slotOf c) : channelSlot c fault s =
      passSlot c (s.slotOf c) (s.modChan c fun x => { x with lastSlot := some (s.slotOf c) }) := by
  unfold channelSlot
  extract_lets slot x
  rw [if_neg, if_pos (by simp [halts])]
  split
  next k last => simpa using later k last
  · simp

/-- A slot is carried out once. -/
theorem channelSlot_once {fault k : Nat} (last : (s.chan c).lastSlot = some k) (over_ : s.slotOf c ≤ k) : channelSlot c fault s = s := by
  unfold channelSlot
  extract_lets slot x
  rw [show x.lastSlot = some k from last, if_pos (decide_eq_true over_)]

theorem rowPosition_busy {k : Nat} {bad : Bool} {l : List (Option PLine)} (busy : (s.chan c).rowFree k = false) :
    rowPosition c k bad l s = s := if_pos (by simp [busy])

/-- PREab of a tide switch goes before what else the row position may carry. -/
theorem rowPosition_preab {k : Nat} {bad : Bool} {l : List (Option PLine)} (free : (s.chan c).rowFree k = true)
    (nothing : (s.chan c).again = []) (due : (s.chan c).preabDue = true)
    (allowed : allowed (s.chan c).time (s.half c) (rowCk k) .preAll = true) :
    rowPosition c k bad l s = issueRow c k bad .planned .preAll (s.modChan c fun x => { x with preabDue := false }) := by
  unfold rowPosition
  extract_lets x ck half ok
  rw [if_neg (by simp [x, free]), show x.again.find? ok = none by rw [show x.again = [] from nothing]; rfl]
  exact if_pos (by simp [x, ok, due, ck, half, allowed])

theorem endOwnSlot_sigma {n : Nat} {t : Stream} (held : s.stream? n = some t) :
    ((endOwnSlot n s).stream? n).map (·.sigma) = some (t.sigma + 1) := by
  unfold endOwnSlot
  rw [held]
  show Option.map (·.sigma) ((s.modStream n fun _ => _).stream? n) = _
  rw [stream?_modStream, held]
  rfl

end

/-- Settles O40: one lemma for each instruction and for each thing a slot may come to. -/
theorem slotsAndDecoding : Obligations.SlotsAndDecoding := by
  unfold Obligations.SlotsAndDecoding
  rintro s n w t engine held rfl
  refine ⟨fun may => ⟨?_, ?_, ?_, ?_, ?_, ?_, ?_, ?_, ?_, ?_, ?_⟩, ?_, ?_, ?_, ?_⟩
  · exact fun op => decodeCmd_eq engine (decodeOne_of_step held may op (step_end op))
  · exact fun op => decodeCmd_eq engine (decodeOne_of_step held may op (step_seta op))
  · exact fun op => decodeCmd_eq engine (decodeOne_of_step held may op (step_setd op))
  · exact fun op unmasked => decodeCmd_eq engine (decodeOne_of_yield held may op (step_move op unmasked))
  · exact fun op bit mask => decodeCmd_eq engine (decodeOne_of_yield held may op (step_maskedMove op bit mask))
  · exact fun op => decodeCmd_eq engine (decodeOne_of_yield held may op (step_skip op))
  · rintro _ op rfl
    exact decodeCmd_eq engine ((decodeOne_of_step held may op (step_mask op)).trans readMask_modStream)
  · intro op here seen
    exact ⟨_, decodeCmd_eq engine ((decodeOne_of_step held may op (step_wait op)).trans (registerWatch_here here seen)),
      rfl, rfl, rfl, rfl⟩
  · intro op reached
    exact decodeCmd_eq engine ((decodeOne_of_step held may op (step_signal op)).trans (enterSignal_reached reached))
  · exact fun op => decodeCmd_eq engine (decodeOne_of_step held may op (step_repeat op))
  · exact fun op => decodeCmd_eq engine (decodeOne_of_step held may op (step_fmt op))
  · exact fun not => decodeCmd_eq engine (decodeOne_of_not held not)
  · intro c fault there
    have carried {u : State} (h : channelSlot c fault s = u) : exec (.channelSlot c fault) s = .next u := h ▸ exec_channelSlot there
    exact ⟨fun halts later => carried (channelSlot_passes halts later), endOwnSlot_sigma held,
      fun k last over_ => carried (channelSlot_once last over_),
      fun runs first => ⟨_, exec_channelSlot there, channelSlot_lastSlot runs first⟩, fun k bad l => rowPosition_busy,
      fun k bad l => rowPosition_preab⟩
  · exact fun c fault absent => if_neg (by simpa using absent)
  · exact fun k absent => if_neg (by simpa using absent)

end Sys2Proof.Machine

/-!
PROOF. Beats of a tile, feed ports, fences and rejoins of the streams (R96 to R121, R144 to R151, R177), command by command.
-/
namespace Sys2Proof.Machine

-- One proof after another, each on a stack of its own, for the check's memory.
set_option Elab.async false

/-! ### Fences (R117) -/

theorem testBit_setBit_true {i m : Nat} (clear : m.testBit i = false) : (setBit i true m).testBit i = true := by
  simp [setBit, clear, Nat.add_comm m, Nat.testBit_two_pow_add_eq]

/-- A context that is fenced while the Sequencer runs is noted in 0x2203:01. -/
theorem fenceContext_fenced {s : State} {cause ctx : Nat} (canonical : Canonical objDefault s.obj) (clear : s.fenced ctx = false)
    (up : s.procs.sequencer.restart = none) : (fenceContext cause ctx s).fenced ctx = true := by
  have noted : (s.setOb 0x2203 1 (setBit ctx true (s.ob 0x2203 1))).Bears (.fences (setBit ctx true (s.ob 0x2203 1))) :=
    State.ob_setOb_eq canonical _ _ _
  have fences : (fenceContext cause ctx s).Bears (.fences (setBit ctx true (s.ob 0x2203 1))) := by
    unfold fenceContext
    rw [if_neg (by simp [clear]), if_neg (by simp [up])]
    refine .abortAsks (.fenceReds ?_)
    refine State.Bears.of_eq (s := forEach _ (fun (p : Nat × Stream) s => dropEscapes p.2 s) _) ?_ rfl rfl
    exact .forEach (fun _ _ k => k.dropEscapes) (.forEach (fun _ _ k => .ite k k) (.raiseCtx (.bump (.setOb (.setOb noted)))))
  exact (congrArg (Nat.testBit · ctx) fences).trans (testBit_setBit_true clear)

section
variable {s : State} {t n : Nat} {x : Stream}

/-! ### Waits and masks (R96, R177) -/

section
variable {obj thr v : Nat} (held : s.stream? n = some x) (waits : x.waiting = some (obj, thr)) (watched : x.watched = some v)
include held waits watched

theorem passWait_reached (reached : thr ≤ v) : passWait n s = { (s.modStream n fun x => { x with waiting := none, watched := none }) with
    cache := { s.cache with watches := s.cache.watches.filter fun w => !(w.2 == n && syncNode obj == s.me && w.1 == syncIndex obj) } } := by
  simp only [passWait, held, waits, watched, reached, decide_true, if_true]
  rfl

theorem passWait_waits (below : v < thr) : passWait n s = s := by
  simp [passWait, held, waits, watched, Nat.not_le.mpr below]

end

/-- The one mask read that has ended OK gives its line to the masks of its number. -/
theorem takeMasks_one {q : Ask} {num d : Nat}
    (one : (s.path.asks.filter fun q => q.stage == .finished && (match q.why with | .mask k _ => k == n | _ => false)) = [q])
    (why : q.why = .mask n num) (result : q.result = some (0, some d)) :
    takeMasks n s = (takeInternal q s).modStream n fun x =>
      { x with masks := x.masks.map fun m => if m.num == num && !m.late then { m with line := some d } else m } := by
  refine (congrArg (forEach · _ s) one).trans ?_
  simp only [forEach, List.foldl_cons, List.foldl_nil, why, result]

/-! ### Beats (R102, R106, R109) -/

section
variable (up : s.portState t = 0)
include up

theorem drainBeat_discarded {halves : List Nat} (other : s.serves t n true = false) : drainBeat t n halves s = discardBeat t s := by
  simp [drainBeat, up, other]

theorem creditBeat_discarded {a : Nat} (other : s.serves t n false = false) : creditBeat t n a s = discardBeat t s := by
  simp [creditBeat, up, other]

theorem landedBeat_served (alone : s.oldStream? n = none) (serves : s.serves t n false = true) :
    landedBeat t n s = fire false n (s.modStream n Stream.land) := by
  simp [landedBeat, up, alone, serves]

variable (held : s.stream? n = some x) (free : x.fenced = false)
include held free

theorem drainBeat_collected {halves : List Nat} (serves : s.serves t n true = true) (granted : halves.length ≤ x.credits) :
    drainBeat t n halves s = s.modStream n fun x =>
      { x with credits := x.credits - halves.length, collected := x.collected ++ halves.map fun d => (d, s.now) } := by
  simp [drainBeat, up, serves, held, free, Nat.not_lt.mpr granted]

theorem drainBeat_overrun {halves : List Nat} (serves : s.serves t n true = true) (beyond : x.credits < halves.length) :
    drainBeat t n halves s = fenceContext 4 x.desc.context (raiseCtx Ev.drainOverrun (engineOf n) x.desc.context n s) := by
  simp [drainBeat, up, serves, held, free, beyond, overrun]

theorem creditBeat_returned {a : Nat} (serves : s.serves t n false = true) (fits : x.credits + a ≤ ringSize x.desc) :
    creditBeat t n a s = s.modStream n fun x => { x with credits := x.credits + a } := by
  simp [creditBeat, up, serves, held, free, Nat.not_lt.mpr fits]

end

/-! ### Ports (R110, R121) -/

theorem portDown_live (live : s.portState t = 0 ∨ s.portState t = 2) : portDown t s =
    fenceStreams 3 (fun _ x => x.desc.port == t) (raise Ev.feedPortDown t 0
      ((setPortState t 1 s).setFeeds { s.feeds with rejoin := s.feeds.rejoin.filter fun x => x != t })) := by
  unfold portDown
  rw [if_neg (by rcases live with up | shadow <;> simp [*])]

theorem portDown_dead (notUp : s.portState t ≠ 0) (notShadow : s.portState t ≠ 2) : portDown t s = s :=
  if_pos (by simp [notUp, notShadow])

theorem exec_portReadyAsserted (tile : t < 64 * s.cfg.nstacks) : exec (.portReadyAsserted (.tile t)) s = .next (portReady t s) :=
  if_pos (decide_eq_true tile)

theorem portState_of_tile (tile : t < 64 * s.cfg.nstacks) : s.portState t = s.ob 0x2321 t % 256 :=
  if_neg (by simpa using tile)

/-- A port's state as it has been set. -/
theorem portState_setPortState {v : Nat} (canonical : Canonical objDefault s.obj) (tile : t < 64 * s.cfg.nstacks) (fits : v < 256) :
    (setPortState t v s).portState t = v := by
  have tile' : t < 64 * (setPortState t v s).cfg.nstacks := tile
  rw [portState_of_tile tile', setPortState, State.ob_setOb_eq canonical]
  omega

theorem portReady_ready : t ∈ (portReady t s).feeds.ready := by
  unfold portReady
  dsimp only
  split <;> exact List.mem_append_right _ (List.mem_singleton.mpr rfl)

theorem portReady_shadow (canonical : Canonical objDefault s.obj) (tile : t < 64 * s.cfg.nstacks) (down : s.portState t = 1) :
    (portReady t s).portState t = 2 := by
  have asserted : portReady t s =
      setPortState t 2 (s.setFeeds { s.feeds with ready := s.feeds.ready.filter (fun x => x != t) ++ [t] }) := if_pos down
  rw [asserted]
  exact portState_setPortState (s := s.setFeeds _) canonical tile (by decide)

/-! ### Stalls -/

theorem stall_late (held : s.stream? n = some x) (lags : x.lag ≠ 0) (free : x.fenced = false) (runs : s.halted (engineOf n / 16) = false)
    (late : s.elapsed x.lastIssue (s.ob 0x2300 3 * 1000 * nsT) = true) :
    stall n s = fenceContext 2 x.desc.context (raiseCtx Ev.streamStall (engineOf n) x.desc.context n s) := by
  simp [stall, held, lags, free, runs, late]

theorem stall_none (held : s.stream? n = some x) (keeps : x.lag = 0) : stall n s = s := by
  simp [stall, held, keeps]

/-! ### Narrowing a raw line (R125, R143) -/

theorem escapesBefore_irrefl (o : Nat × Nat) : escapesBefore o o = false := by simp [escapesBefore]

/-- A line with nothing of the other streams to come before it is the next to be narrowed. -/
theorem narrowBefore_alone {num last : Nat} {i : LineItem} (own : s.narrowDue n = some (num, i, last))
    (others : ∀ p ∈ s.feeds.streams, p.1 ≠ n → s.narrowDue p.1 = none) (k : Nat) :
    narrowBefore (s.narrowOrder n last) k s = s := by
  cases k with
  | zero => rfl
  | succ k =>
    unfold narrowBefore
    dsimp only
    rw [List.filterMap_eq_nil_iff.mpr]
    · rfl
    · intro p mem
      by_cases same : p.1 = n
      · simp [same, own, escapesBefore_irrefl]
      · simp [others p mem same]

section
variable {i : LineItem} {d ts : Nat} (held : s.stream? n = some x) (drains : x.desc.drain = true) (free : x.fenced = false)
  (first : x.collected = (d, ts) :: x.collected.drop 1)
  (item : x.lineItem (x.issued + (x.drain.filter fun y => y.ask.isNone).length) = some i) (raw : i.fmt = none)
include held drains free first item raw

theorem narrowDue_raw : s.narrowDue n = some (x.issued + (x.drain.filter fun y => y.ask.isNone).length, i, ts) := by
  have one : x.collected.take 1 = [(d, ts)] := by rw [first]; rfl
  simp [State.narrowDue, held, drains, free, item, raw, State.nwOf, one]

/-- A raw line passes as it is. -/
theorem narrowNext_raw (others : ∀ p ∈ s.feeds.streams, p.1 ≠ n → s.narrowDue p.1 = none) :
    narrowNext n s = s.modStream n fun y => { y with collected := y.collected.drop 1, drain := y.drain ++
      [⟨x.issued + (x.drain.filter fun y => y.ask.isNone).length, i.addr, 1, d, s.writeInfo i.addr, [], [], none, none⟩] } := by
  have due := narrowDue_raw held drains free first item raw
  have finished : s.narrowed n = some (x.issued + (x.drain.filter fun y => y.ask.isNone).length, i, ts) := by
    simp [State.narrowed, due, raw]
  have one : x.collected.take 1 = [(d, ts)] := by rw [first]; rfl
  unfold narrowNext
  rw [finished]
  dsimp only
  rw [narrowBefore_alone due others]
  simp [narrowOne, due, held, raw, State.nwOf, narrowItem, one]

end

end

end Sys2Proof.Machine

/-!
PROOF. Requests to fence, to clear, to reset and to rejoin (R117, R120, R121, R146, R147, R149, R151), as they apply.
-/
namespace Sys2Proof.Machine

-- One proof after another, each on a stack of its own, for the check's memory.
set_option Elab.async false

section
variable {s : State} {r : Req}

/-! ### What a request that is begun leaves -/

theorem begun_ob (r : Req) (s : State) (i a : Nat) (other : logObject i = false := by rfl) (fits : a < 256 := by decide) :
    (s.begun r).ob i a = s.ob i a := by
  have heard : (heardFrom r s).ob i a = s.ob i a := by rw [heardFrom_parts]; rfl
  exact ((countFrame_reports r s).objects i a fits other).trans heard

@[simp] theorem begun_feeds (r : Req) (s : State) : (s.begun r).feeds = s.feeds := countFrame_feeds s r
@[simp] theorem begun_plans (r : Req) (s : State) : (s.begun r).plans = s.plans := countFrame_plans s r
@[simp] theorem begun_cfg (r : Req) (s : State) : (s.begun r).cfg = s.cfg := countFrame_cfg s r

@[simp] theorem begun_setTicks (r : Req) (s : State) : (s.begun r).setTicks = s.setTicks := by
  have hl : (s.begun r).hl = s.hl := countFrame_hl s r
  have now : (s.begun r).now = s.now := countFrame_now s r
  rw [State.setTicks, hl, now, State.setTicks]

theorem begun_canonical (canonical : Canonical objDefault s.obj) : Canonical objDefault (s.begun r).obj :=
  (begun_keepsSettings r s).objects canonical

/-! ### Requests -/

/-- A write that applies and whose home operation is done is answered OK. -/
theorem dictWrite_done {u : State} {idx sub : Nat} {value : List Byte} {home : Home} (applies : s.applies r idx sub value = true)
    (done : home (.req r) (s.begun r) = .done u) : dictWrite r idx sub value home s = answer r St.ok 0 u := by
  rw [dictWrite_applies applies, done]
  rfl

theorem exec_fenceRequest {m : Nat} (fits : m < 2 ^ 64) (applies : s.applies r 0x2300 5 (leBytes 8 m) = true) :
    exec (.fenceRequest r m) s =
      .next (answer r St.ok 0 (forEach ((List.range 64).filter fun c => m.testBit c) (fenceContext 1) (s.begun r))) := by
  have written : exec (.fenceRequest r m) s = .next (dictWrite r 0x2300 5 (leBytes 8 m) (fenceRequestHome (m % 2 ^ 64)) s) := rfl
  rw [written, Nat.mod_eq_of_lt fits, dictWrite_done applies rfl]

/-- What waits, once a request to rejoin has applied, for a tide after the moment it came (R81). -/
theorem answer_armRejoin {u : State} (k : Nat) (plans : u.plans = s.plans) (ticks : u.setTicks = s.setTicks) :
    (answer r St.ok 0 (u.armRejoin k)).plans = { s.plans with rejoinAt := put 0 k (s.setTicks + 1) s.plans.rejoinAt } := by
  rw [answer_plans]
  simp only [State.armRejoin, plans, ticks]

theorem gives_portRejoin {t : Nat} (fits : t < 256) (shadow : s.portState t = 2) (applies : s.applies r 0x2322 t [1] = true) :
    Gives (.portRejoin r t) s fun u =>
      u.feeds = { s.feeds with rejoin := s.feeds.rejoin.filter (fun y => y != t) ++ [t] } ∧
      u.plans = { s.plans with rejoinAt := put 0 (0x100 + t) (s.setTicks + 1) s.plans.rejoinAt } := by
  have state : (s.begun r).portState t = 2 := by
    rw [State.portState, begun_cfg, begun_ob r s 0x2321 t rfl fits]
    exact shadow
  have done (who : Completer) : portRejoinHome t who (s.begun r) = .done (((s.begun r).setFeeds { (s.begun r).feeds with
      rejoin := (s.begun r).feeds.rejoin.filter (fun y => y != t) ++ [t] }).armRejoin (0x100 + t)) := if_pos state
  have written : exec (.portRejoin r t) s = .next (dictWrite r 0x2322 (t % 256) [1] (portRejoinHome (t % 256)) s) := rfl
  rw [Nat.mod_eq_of_lt fits, dictWrite_done applies (done _)] at written
  exact ⟨_, written, by simp [State.armRejoin, State.setFeeds], answer_armRejoin _ (begun_plans r s) (begun_setTicks r s)⟩

theorem gives_engineRejoin {e : Nat} (fits : e < 64) (shadow : s.ob (engineIdx e) 1 = 3)
    (applies : s.applies r (engineIdx e) 8 [1] = true) : Gives (.engineRejoin r e) s fun u =>
      u.feeds = { s.feeds with engineRejoin := s.feeds.engineRejoin.filter (fun y => y != e) ++ [e] } ∧
      u.plans = { s.plans with rejoinAt := put 0 (0x300 + e) (s.setTicks + 1) s.plans.rejoinAt } := by
  have other : logObject (engineIdx e) = false := by simp [logObject, engineIdx]; omega
  have done (who : Completer) : engineRejoinHome e who (s.begun r) = .done (((s.begun r).setFeeds { (s.begun r).feeds with
      engineRejoin := (s.begun r).feeds.engineRejoin.filter (fun y => y != e) ++ [e] }).armRejoin (0x300 + e)) :=
    if_pos ((begun_ob r s _ 1 other).trans shadow)
  have written : exec (.engineRejoin r e) s = .next (dictWrite r (engineIdx (e % 64)) 8 [1] (engineRejoinHome (e % 64)) s) := rfl
  rw [Nat.mod_eq_of_lt fits, dictWrite_done applies (done _)] at written
  exact ⟨_, written, by simp [State.armRejoin, State.setFeeds], answer_armRejoin _ (begun_plans r s) (begun_setTicks r s)⟩

theorem gives_unitRejoin {k : Nat} (fits : k < 32) (shadow : s.unitState k = 2) (applies : s.applies r (unitIdx k) 0x10 [1] = true) :
    Gives (.unitRejoin r k) s fun u =>
      u.feeds = { s.feeds with unitRejoin := s.feeds.unitRejoin.filter (fun y => y != k) ++ [k] } ∧
      u.plans = { s.plans with rejoinAt := put 0 (0x400 + k) (s.setTicks + 1) s.plans.rejoinAt } := by
  have other : logObject (unitIdx k) = false := by simp [logObject, unitIdx]; omega
  have done (who : Completer) : unitRejoinHome k who (s.begun r) = .done (((s.begun r).setFeeds { (s.begun r).feeds with
      unitRejoin := (s.begun r).feeds.unitRejoin.filter (fun y => y != k) ++ [k] }).armRejoin (0x400 + k)) :=
    if_pos ((begun_ob r s _ 0x0F other).trans shadow)
  have written : exec (.unitRejoin r k) s = .next (dictWrite r (unitIdx (k % 32)) 0x10 [1] (unitRejoinHome (k % 32)) s) := rfl
  rw [Nat.mod_eq_of_lt fits, dictWrite_done applies (done _)] at written
  exact ⟨_, written, by simp [State.armRejoin, State.setFeeds], answer_armRejoin _ (begun_plans r s) (begun_setTicks r s)⟩

theorem gives_poolReset {g : Nat} (fits : g < 65536) (applies : s.applies r 0x2401 1 (leBytes 2 g) = true)
    (valid : (s.region g).valid = true) (pool : (s.region g).role = 1) : Gives (.poolReset r g) s fun u =>
      u.feeds = { s.feeds with poolResets := s.feeds.poolResets.filter (fun y => y != g) ++ [g] } := by
  have other : logObject (regionIdx g) = false := by simp [logObject, regionIdx]; omega
  have same : (s.begun r).region g = s.region g := congrArg decodeRegion (begun_ob r s _ _ other (regionSub_lt g))
  have done (who : Completer) : poolResetHome g who (s.begun r) = .done ((s.begun r).setFeeds { (s.begun r).feeds with
      poolResets := (s.begun r).feeds.poolResets.filter (fun y => y != g) ++ [g] }) := if_pos (by simp [same, valid, pool])
  have written : exec (.poolReset r g) s = .next (dictWrite r 0x2401 1 (leBytes 2 g) (poolResetHome (g % 65536)) s) := rfl
  rw [Nat.mod_eq_of_lt fits, dictWrite_done applies (done _)] at written
  exact ⟨_, written, by simp [State.setFeeds]⟩

/-- The map of beyond-bound blocks goes on past sub-index 255 in the objects behind 0x2440. -/
theorem ob_beyondMap (s : State) (sub : Nat) : s.ob 0x2440 sub = s.ob (0x2440 + sub / 256) (sub % 256) := by
  have key : objKey 0x2440 sub = objKey (0x2440 + sub / 256) (sub % 256) := by unfold objKey; omega
  rw [State.ob, key, State.ob]

theorem gives_beyondBoundClear {g : Nat} (canonical : Canonical objDefault s.obj) (fits : g < 65536)
    (applies : s.applies r 0x2441 1 (leBytes 2 g) = true) (marked : (s.ob 0x2440 (g / 64 + 1)).testBit (g % 64) = true) :
    Gives (.beyondBoundClear r g) s fun u => u.ob 0x2440 (g / 64 + 1) = setBit (g % 64) false (s.ob 0x2440 (g / 64 + 1)) ∧
      u.ob 0x2400 4 = s.ob 0x2400 4 - 1 := by
  have other : logObject (0x2440 + (g / 64 + 1) / 256) = false := by simp [logObject]; omega
  have low : (g / 64 + 1) % 256 < 256 := Nat.mod_lt _ (by decide)
  have kept : (s.begun r).ob 0x2440 (g / 64 + 1) = s.ob 0x2440 (g / 64 + 1) := by
    rw [ob_beyondMap, begun_ob r s _ _ other low, ← ob_beyondMap]
  have number : (s.begun r).ob 0x2400 4 = s.ob 0x2400 4 := begun_ob r s 0x2400 4
  have begun := begun_canonical (r := r) canonical
  have done (who : Completer) : beyondClearHome g who (s.begun r) =
      .done (((s.begun r).setOb 0x2440 (g / 64 + 1) (setBit (g % 64) false (s.ob 0x2440 (g / 64 + 1)))).setOb 0x2400 4
        (s.ob 0x2400 4 - 1)) := by
    rw [← kept, ← number]
    exact congrArg WResult.done (if_pos (by rw [kept]; exact marked))
  have written : exec (.beyondBoundClear r g) s = .next (dictWrite r 0x2441 1 (leBytes 2 g) (beyondClearHome (g % 65536)) s) := rfl
  rw [Nat.mod_eq_of_lt fits, dictWrite_done applies (done _)] at written
  refine ⟨_, written, ?_, ?_⟩
  · rw [ob_beyondMap, (answer_reports r _ _ _).objects _ _ low other, ← ob_beyondMap,
      State.ob_setOb_ne _ (by unfold objKey; omega), State.ob_setOb_eq begun]
  · exact ((answer_reports r _ _ _).objects 0x2400 4 (by decide) rfl).trans
      (State.ob_setOb_eq (State.setOb_canonical begun _ _ _) _ _ _)

theorem gives_standingEntryWrite {k : Nat} {value : List Byte} (canonical : Canonical objDefault s.obj) (fits : k < 64)
    (orders : s.orders r 0x2410 (k + 1) value = true) (sound : entryCheck (decodeEntry (leNat value)) = 0) :
    Gives (.standingEntryWrite r k value) s fun u => u.ob 0x2410 (k + 1) = leNat value ∧ u.feeds = s.feeds := by
  have done (who : Completer) : standingHome k value who (s.ordered r) = .done ((s.ordered r).setOb 0x2410 (k + 1) (leNat value)) :=
    if_pos sound
  have written : exec (.standingEntryWrite r k value) s = .next (dictWrite r 0x2410 (k % 64 + 1) value (standingHome (k % 64) value) s) :=
    rfl
  rw [Nat.mod_eq_of_lt fits, dictWrite_orders orders (done _) rfl] at written
  refine ⟨_, written, ?_, ?_⟩
  · exact ((answer_reports r _ _ _).objects 0x2410 (k + 1) (by omega) rfl).trans
      (State.ob_setOb_eq (ordered_canonical r canonical) _ _ _)
  · rw [answer_feeds]
    exact begun_feeds r s

end

end Sys2Proof.Machine

/-!
PROOF. The reads of an escaped line that a widening read waits for, and the end of that read (R144).
-/
namespace Sys2Proof.Machine

-- One proof after another, each on a stack of its own, for the check's memory.
set_option Elab.async false

/-! ### Lists -/

theorem mem_insertBy {α : Type} (le : α → α → Bool) (a b : α) (l : List α) : b ∈ insertBy le a l ↔ b = a ∨ b ∈ l := by
  induction l with
  | nil => simp [insertBy]
  | cons c l ih =>
    unfold insertBy
    split
    · simp
    · simp only [List.mem_cons, ih]
      tauto

theorem mem_sortList {α : Type} (le : α → α → Bool) (b : α) (l : List α) : b ∈ sortList l le ↔ b ∈ l := by
  induction l with
  | nil => simp [sortList]
  | cons a l ih =>
    have inserted : b ∈ sortList (a :: l) le ↔ b = a ∨ b ∈ sortList l le := mem_insertBy le a b _
    rw [inserted, ih, List.mem_cons]

theorem forEach_of_fixed {α : Type} {f : α → State → State} {s : State} {l : List α} (fixed : ∀ a ∈ l, f a s = s) :
    forEach l f s = s := by
  induction l with
  | nil => rfl
  | cons a l ih =>
    have first : f a s = s := fixed a List.mem_cons_self
    exact (congrArg (forEach l f) first).trans (ih fun b mem => fixed b (List.mem_cons_of_mem a mem))

section
variable {s : State} {q : Ask}

theorem mem_escapeReads {f : Purpose → Option Nat} {r : Ask} : r ∈ s.escapeReads f ↔ r ∈ s.path.asks ∧ (f r.why).isSome = true := by
  rw [State.escapeReads, mem_sortList, List.mem_filter]

/-! ### Reads whose lines are taken -/

/-- A request whose outcome has been used is no longer there. -/
theorem takeInternal_eq (r : Ask) (s : State) : takeInternal r s = s.setAsks (s.path.asks.filter fun a => a.id != r.id) := by
  have left (l : List Ask) : (l.map fun a => if a.id == r.id then { a with delivered := true, confirmed := true } else a).filter
      (fun a => !(a.id == r.id && a.delivered && a.confirmed)) = l.filter fun a => a.id != r.id := by
    induction l with
    | nil => rfl
    | cons a l ih => by_cases same : a.id = r.id <;> simp_all
  exact congrArg s.setAsks (left s.path.asks)

theorem dropReads_eq (l : List Ask) (s : State) :
    dropReads l s = s.setAsks (s.path.asks.filter fun a => l.all fun r => a.id != r.id) := by
  induction l generalizing s with
  | nil => simp [dropReads, forEach, State.setAsks, State.setPath]
  | cons r l ih =>
    have next : dropReads (r :: l) s = dropReads l (takeInternal r s) := rfl
    rw [next, ih, takeInternal_eq]
    simp [State.setAsks, State.setPath, List.filter_filter, Bool.and_comm]

/-! ### Escaped lines whose reads have not ended -/

/-- An escaped feed line waits while a read of it has not ended. -/
theorem escapeFeed_waits {n num : Nat} (waits : ∀ r ∈ s.path.asks, (∃ i, r.why = .feedEscape n num i) → r.stage ≠ .finished) :
    escapeFeed n num s = s := by
  unfold escapeFeed
  extract_lets pick rs
  refine if_pos ?_
  have open_ : ∀ r ∈ rs, r.stage ≠ .finished := fun r mem => by
    obtain ⟨there, picked⟩ := mem_escapeReads.mp mem
    refine waits r there ?_
    unfold pick at picked
    split at picked
    next a b i why =>
      split at picked
      next same =>
        obtain ⟨rfl, rfl⟩ : a = n ∧ b = num := by simpa using same
        exact ⟨i, why⟩
      next => cases picked
    · cases picked
  clear_value rs
  cases rs with
  | nil => rfl
  | cons r l => simp [open_ r List.mem_cons_self]

/-- The number a purpose gives an escape read of a request. -/
def escapeNumber (id : Nat) : Purpose → Option Nat
  | .escapeRead a i => if a = id then some i else none
  | _ => none

theorem escapeAsk_waits
    (waits : s.escapeReads (escapeNumber q.id) = [] ∨ ∃ r ∈ s.escapeReads (escapeNumber q.id), r.stage ≠ .finished) :
    escapeAsk q s = s := by
  refine if_pos ?_
  show ((s.escapeReads (escapeNumber q.id)).isEmpty || !((s.escapeReads (escapeNumber q.id)).all fun r => r.stage == .finished)) = true
  rcases waits with none | ⟨r, mem, open_⟩
  · simp [none]
  · have some_ : (s.escapeReads (escapeNumber q.id)).all (fun r => r.stage == .finished) = false :=
      List.all_eq_false.mpr ⟨r, mem, by simpa using open_⟩
    simp [some_]

/-! ### The end of a widening read -/

/-- The node as it is once the reads of a request have been used, and what they gave has been counted. -/
def escapesCounted (q : Ask) (s : State) : State :=
  let rs := s.escapeReads (escapeNumber q.id)
  countEscape (unitOf (homeChan q.addr)) q.addr ((dropReads rs s).askCause q)
    ((dropReads rs s).widenEscape (decodeEntry q.entry) q.addr (q.applied.getD 0, q.info) (rs.map Ask.gotLine)) (dropReads rs s)

@[simp] theorem countEscape_path (u a : Nat) (cs : Cause) (e : Escaped) (s : State) : (countEscape u a cs e s).path = s.path :=
  (countEscape_fr (Fr.refl 20696 s)).path (by decide)
@[simp] theorem countEscape_far (u a : Nat) (cs : Cause) (e : Escaped) (s : State) : (countEscape u a cs e s).far = s.far :=
  (countEscape_fr (Fr.refl 20696 s)).far (by decide)

theorem escapesCounted_far (q : Ask) (s : State) : (escapesCounted q s).far = s.far := by
  rw [escapesCounted, countEscape_far, dropReads_eq]
  rfl

/-- What an escaped line widens to does not depend on the requests of the node. -/
theorem widenEscape_dropReads (rs : List Ask) (x : FormatEntry) (a : Nat) (home : Nat × Nat) (got : List (Option (Nat × Nat))) :
    (dropReads rs s).widenEscape x a home got = s.widenEscape x a home got := by
  rw [dropReads_eq]
  rfl

section
variable {e j k m : Nat} {ls : List Nat} (op : q.op = .widen e j) (some_ : s.escapeReads (escapeNumber q.id) ≠ [])
  (ended : ∀ r ∈ s.escapeReads (escapeNumber q.id), r.stage = .finished)
  (widens : s.widenEscape (decodeEntry q.entry) q.addr (q.applied.getD 0, q.info)
    ((s.escapeReads (escapeNumber q.id)).map Ask.gotLine) = .lines ls k m)
include op some_ ended widens

theorem escapeAsk_ends : escapeAsk q s = finish q.id St.ok (some (ls.getD j 0)) (escapesCounted q s) := by
  have go : ¬ ((s.escapeReads (escapeNumber q.id)).isEmpty ||
      !((s.escapeReads (escapeNumber q.id)).all fun r => r.stage == .finished)) = true := by
    simpa [some_] using ended
  refine (if_neg go).trans ?_
  have gives := (widenEscape_dropReads (s := s) (s.escapeReads (escapeNumber q.id)) _ _ _ _).trans widens
  show (match (dropReads (s.escapeReads (escapeNumber q.id)) s).widenEscape (decodeEntry q.entry) q.addr (q.applied.getD 0, q.info)
      ((s.escapeReads (escapeNumber q.id)).map Ask.gotLine), q.op with
    | .lines ls _ _, .widen _ j => finish q.id St.ok (some (ls.getD j 0)) (escapesCounted q s)
    | _, _ => finish q.id St.poisoned none (escapesCounted q s)) = _
  rw [gives, op]

end

theorem ask?_of_only {s : State} (only : s.path.asks = [q]) : s.ask? q.id = some q := by
  simp [State.ask?, only]

/-- A request of a tile that is over stands in the path with its result. -/
theorem finish_asks {status : Nat} {data : Option Nat} {p : Nat} (only : s.path.asks = [q]) (open_ : q.stage = .accepted)
    (tile : q.side.port = .tile p) :
    (finish q.id status data s).path.asks = [{ q with stage := .finished, result := some (status, data) }] := by
  have change : (s.modAsk q.id fun a => { a with stage := .finished, result := some (status, data) }).path.asks =
      [{ q with stage := .finished, result := some (status, data) }] := by
    simp [State.modAsk, State.setAsks, State.setPath, only]
  unfold finish
  rw [ask?_of_only only]
  dsimp only
  rw [if_neg (by simp [open_]), tile]
  dsimp only
  refine Eq.trans ?_ change
  refine congrArg Path.asks (Fr.path (w := 67109184) ?_ (by decide))
  exact Fr.ite (Fr.ite (sampleEffect_fr (countDecision_fr (.refl _ _))) (sampleEnd_fr (sampleEffect_fr (countDecision_fr (.refl _ _)))))
    (sampleEffect_fr (countDecision_fr (.refl _ _)))

/-! ### Serving a node whose one request is over -/

theorem drainFar_idle (idle : s.far.waiting = []) : drainFar s = s := by
  unfold drainFar
  rw [idle]
  exact if_pos (by simp [forEach, idle])

theorem serveAll_over (only : s.path.asks = [q]) (over_ : q.stage = .finished) (idle : s.far.waiting = []) : serveAll s = s := by
  unfold serveAll
  rw [drainFar_idle idle, only]
  show serveAsk q.id s = s
  unfold serveAsk
  rw [ask?_of_only only]
  exact if_pos (by simp [over_])

/-! ### The command -/

theorem endEscapes_of_one {es : List Ask} {e j : Nat} (asks : s.path.asks = q :: es) (stage : q.stage = .accepted)
    (op : q.op = .widen e j) (reads : ∀ r ∈ es, (∃ i, r.why = .escapeRead q.id i) ∧ r.op = .read ∧ r.id ≠ q.id) :
    endEscapes s = escapeAsk q s := by
  unfold endEscapes
  extract_lets feeds held
  have fed : forEach feeds (fun p => escapeFeed p.1 p.2) s = s := forEach_of_fixed fun p _ => escapeFeed_waits fun r mem why => by
    obtain ⟨i, why⟩ := why
    rw [asks] at mem
    rcases List.mem_cons.mp mem with rfl | later
    · simp [stage]
    · obtain ⟨⟨i', other⟩, -⟩ := reads r later
      rw [other] at why
      cases why
  have one : held = [q] := by
    unfold held
    rw [asks, List.filter_cons_of_pos (by simp [stage, op]), List.filter_eq_nil_iff.mpr]
    intro r mem
    obtain ⟨-, read, -⟩ := reads r mem
    simp [read]
  rw [fed, one]
  rfl

theorem gives_escapeReadDone {es : List Ask} {e j p k m : Nat} {ls : List Nat} (idle : s.far.waiting = [])
    (asks : s.path.asks = q :: es) (stage : q.stage = .accepted) (op : q.op = .widen e j) (tile : q.side.port = .tile p)
    (reads : ∀ r ∈ es, (∃ i, r.why = .escapeRead q.id i) ∧ r.op = .read ∧ r.id ≠ q.id) (some_ : es ≠ [])
    (ended : ∀ r ∈ s.escapeReads (escapeNumber q.id), r.stage = .finished)
    (widens : s.widenEscape (decodeEntry q.entry) q.addr (q.applied.getD 0, q.info)
      ((s.escapeReads (escapeNumber q.id)).map Ask.gotLine) = .lines ls k m) :
    Gives .escapeReadDone s fun u => u.ends q.id (St.ok, some (ls.getD j 0)) := by
  have read {r : Ask} (mem : r ∈ es) : r ∈ s.escapeReads (escapeNumber q.id) := by
    obtain ⟨⟨i, why⟩, -⟩ := reads r mem
    exact mem_escapeReads.mpr ⟨by rw [asks]; exact List.mem_cons_of_mem q mem, by simp [why, escapeNumber]⟩
  have any : s.escapeReads (escapeNumber q.id) ≠ [] := by
    obtain ⟨r, mem⟩ := List.exists_mem_of_ne_nil es some_
    exact List.ne_nil_of_mem (read mem)
  have other : ∀ r ∈ s.escapeReads (escapeNumber q.id), q.id ≠ r.id := by
    intro r mem
    obtain ⟨there, -⟩ := mem_escapeReads.mp mem
    rw [asks] at there
    rcases List.mem_cons.mp there with rfl | later
    · exact absurd (ended r mem) (by simp [stage])
    · exact (reads r later).2.2.symm
  have only : (escapesCounted q s).path.asks = [q] := by
    rw [escapesCounted, countEscape_path, dropReads_eq]
    show s.path.asks.filter _ = [q]
    rw [asks, List.filter_cons_of_pos (by simpa using other), List.filter_eq_nil_iff.mpr]
    intro r mem
    simpa using ⟨r, read mem, rfl⟩
  have over_ := finish_asks (status := St.ok) (data := some (ls.getD j 0)) only stage tile
  have far : (finish q.id St.ok (some (ls.getD j 0)) (escapesCounted q s)).far.waiting = [] := by
    rw [(finish_fr (Fr.refl 67371328 (escapesCounted q s))).far (by decide), escapesCounted_far, idle]
  refine ⟨_, rfl, ?_⟩
  rw [endEscapes_of_one asks stage op reads, escapeAsk_ends op any ended widens, serveAll_over over_ rfl far]
  exact ⟨_, ask?_of_only (q := { q with stage := .finished, result := some (St.ok, some (ls.getD j 0)) }) over_, rfl, rfl⟩

end

end Sys2Proof.Machine

/-!
PROOF. The settling of O41.
-/
namespace Sys2Proof.Machine

-- One proof after another, each on a stack of its own, for the check's memory.
set_option Elab.async false

theorem exec_maskReadDone {s : State} {n : Nat} (engine : engineOf n < 16 * s.cfg.nstacks) :
    exec (.maskReadDone n) s = .next (takeMasks n s) := if_pos (decide_eq_true engine)

/-- Settles O41: one lemma for each branch of a command, under the hypotheses that lead to it. -/
theorem feedAndDrain : Obligations.FeedAndDrain := by
  unfold Obligations.FeedAndDrain
  intro s t n x r inv engine tile held
  have canonical := inv.objects
  have here {u v : State} (same : u = v) : present (decide (engineOf n < 16 * s.cfg.nstacks)) u = .next v :=
    same ▸ if_pos (decide_eq_true engine)
  have port {u v : State} (same : u = v) : present (decide (t < 64 * s.cfg.nstacks)) u = .next v :=
    same ▸ if_pos (decide_eq_true tile)
  refine ⟨?waits, ?masks, ?beats, port rfl, ?rt, ?late, ?onTime, ?rtReady, ?asserted, ?stays, ?goes, ?stalls, ?runs, ?fences,
    ?fenceRequest, gives_portRejoin, fun e => gives_engineRejoin, fun k => gives_unitRejoin, ?narrowed, rfl, ?escapes, fun g => gives_poolReset,
    fun g => gives_beyondBoundClear canonical, fun k value => gives_standingEntryWrite canonical⟩
  case waits =>
    exact fun obj thr v waits watched => ⟨fun reached => here (passWait_reached held waits watched reached),
      fun below => here (passWait_waits held waits watched below)⟩
  case masks =>
    intro q num d one why result
    refine ⟨_, exec_maskReadDone engine, ?_⟩
    rw [takeMasks_one one why result]
    rfl
  case beats =>
    intro up free
    refine ⟨?_, ?_, ?_, ?_, fun alone serves => port (landedBeat_served up alone serves)⟩
    · intro h0 h1 serves granted
      refine port ((drainBeat_collected up held free serves (by rwa [List.length_map])).trans ?_)
      simp only [List.map_map, List.length_map, Function.comp_def]
    · exact fun h0 h1 serves beyond => port (drainBeat_overrun up held free serves (by rwa [List.length_map]))
    · intro a serves small fits
      refine port ?_
      rw [Nat.mod_eq_of_lt small]
      exact creditBeat_returned up held free serves fits
    · exact fun h0 h1 a drains feeds => ⟨port (drainBeat_discarded up drains), port (creditBeat_discarded up feeds)⟩
  case rt => exact fun p fits => if_pos (decide_eq_true fits)
  case late => exact fun up => port (portDown_live (.inl up))
  case onTime => exact fun early => port (by simp [early])
  case rtReady => exact fun p fits => ⟨if_pos (decide_eq_true fits), if_pos (decide_eq_true fits)⟩
  case asserted => exact ⟨_, exec_portReadyAsserted tile, portReady_ready, portReady_shadow canonical tile⟩
  case stays => exact fun notUp notShadow => port (portDown_dead (s := s.setFeeds _) notUp notShadow)
  case goes => exact fun live => port rfl
  case stalls => exact fun lags free runs late => here (stall_late held lags free runs late)
  case runs => exact fun keeps => here (stall_none held keeps)
  case fences => exact fun cause ctx clear up _ => fenceContext_fenced canonical clear up
  case fenceRequest => exact fun m => exec_fenceRequest
  case narrowed =>
    exact fun i d ts drains free first item raw others => here (narrowNext_raw held drains free first item raw others)
  case escapes =>
    rintro q _ rfl
    exact ⟨escapeAsk_waits, fun es e j p ls k m idle asks stage op tile reads some_ ended widens =>
      gives_escapeReadDone idle asks stage op tile reads some_ ended widens⟩

end Sys2Proof.Machine

/-!
PROOF. What a sequenced parcel does (R323, R331, R333): the checks of a parcel that is not taken here, what each kind does in the state
that has counted it, and the settling of O37.
-/
namespace Sys2Proof.Machine

-- One proof after another, each on a stack of its own, for the check's memory.
set_option Elab.async false

section
variable {s : State} {h : Nat} {hdr : Hdr}

/-! ### Parcels that are not delivered here -/

/-- Where a port carries parcels and its silence is no news, what arrives sets the time it was last heard, and nothing else. -/
theorem heard_eq (silent : (s.port h).silent = false) : heard h s = s.setPort h { s.port h with lastReceived := s.now } := by
  rw [heard_of_not_silent silent, HPort.heardAt, ← silent]

theorem port_heard (greeted : (s.port h).greeted = true) (silent : (s.port h).silent = false) :
    (heard h s).port h = { s.port h with lastReceived := s.now } := by
  have greets : ({ s.port h with lastReceived := s.now } : HPort).greeted = true := greeted
  rw [heard_eq silent]
  exact State.setPort_port_of_greeted greets

section
variable (live : (s.port h).live = true) (greeted : (s.port h).greeted = true) (silent : (s.port h).silent = false)
include live greeted silent

/-- A parcel with a field that is rsvd is malformed (R325). -/
theorem hopCheck_malformed {ok : Bool} (bad : (decide (8 < hdr.len) || hdr.free != 0 || !ok) = true) (act : State → State) :
    hopCheck h hdr ok act s = malformedParcel h true (s.setPort h { s.port h with lastReceived := s.now }) := by
  unfold hopCheck
  dsimp only
  rw [if_neg (by simp [live, greeted]), if_pos bad, heard_eq silent]

/-- A parcel that repeats one of its hop is counted and left (R331). -/
theorem hopCheck_repeated (short : hdr.len ≤ 8) (free : hdr.free = 0) (other : hdr.hop ≠ (s.port h).rxHop)
    (before : seqBefore hdr.hop (s.port h).rxHop = true) (act : State → State) :
    hopCheck h hdr true act s = (s.setPort h { s.port h with lastReceived := s.now }).bump (hIdx h) 0x0B := by
  have formed : (decide (8 < hdr.len) || hdr.free != 0 || !true) = false := by simp [free, short]
  unfold hopCheck
  dsimp only
  rw [if_neg (by simp [live, greeted]), formed, if_neg Bool.false_ne_true, port_heard greeted silent, if_neg other, if_pos before,
    heard_eq silent]

end

theorem takeChecked_isolated (isolated : s.plans.isolated = true) (body : List Byte) (ok : Bool) (deliver : State → State) :
    takeChecked h hdr body ok deliver s = s := if_pos isolated

/-- A parcel that repeats an earlier one of its flow is counted and left (R333). -/
theorem flowCheck_repeated (other : hdr.e2e ≠ (s.flow (flowKey hdr.origin s.me hdr.cls)).rx)
    (before : seqBefore hdr.e2e (s.flow (flowKey hdr.origin s.me hdr.cls)).rx = true) (deliver : State → State) :
    flowCheck hdr deliver s = s.bump 0x5808 0x0A := by
  unfold flowCheck
  dsimp only
  rw [if_neg other, if_pos before]

theorem takeChecked_ok (body : List Byte) {ok : Bool} (formed : ok = true) (deliver : State → State) :
    takeChecked h hdr body ok deliver s = takeParcel h hdr body deliver s := by
  rw [formed]
  rfl

/-- What a port that takes a parcel checks of it holds. -/
theorem State.takes_facts (takes : s.takes h hdr = true) : s.plans.isolated = false ∧ (s.port h).live = true ∧
    (s.port h).greeted = true ∧ (s.port h).silent = false ∧ hdr.len ≤ 8 ∧ hdr.free = 0 ∧ hdr.hop = (s.port h).rxHop ∧ hdr.dest = s.me := by
  simp only [State.takes, Bool.and_eq_true, decide_eq_true_eq, beq_iff_eq, Bool.not_eq_true'] at takes
  obtain ⟨⟨⟨⟨⟨⟨⟨⟨⟨_, joined⟩, live⟩, greeted⟩, silent⟩, short⟩, free⟩, hop⟩, mine⟩, _⟩ := takes
  exact ⟨joined, live, greeted, silent, short, free, hop, mine⟩

/-! ### The state in which a parcel is acted on -/

theorem taken_fr (s : State) (h : Nat) (hdr : Hdr) : Fr 320 s (s.taken h hdr) :=
  peerBack_fr (Fr.set_hl (countParcel_fr (State.bump_fr (Fr.set_hl (.refl _ _)))))

@[simp] theorem taken_now (s : State) (h : Nat) (hdr : Hdr) : (s.taken h hdr).now = s.now := (taken_fr s h hdr).now (by decide)
@[simp] theorem taken_pins (s : State) (h : Nat) (hdr : Hdr) : (s.taken h hdr).pins = s.pins := (taken_fr s h hdr).pins (by decide)
@[simp] theorem taken_me (s : State) (h : Nat) (hdr : Hdr) : (s.taken h hdr).me = s.me := congrArg Pins.nodeId (taken_pins s h hdr)
@[simp] theorem taken_setNodes (s : State) (h : Nat) (hdr : Hdr) : (s.taken h hdr).setNodes = s.setNodes := by
  rw [State.setNodes, taken_pins, State.setNodes]

/-- A HOP_ACK leaves the set's view alone. -/
@[simp] theorem ackDue_set (h : Nat) (s : State) : (ackDue h s).hl.set = s.hl.set := by
  unfold ackDue
  split <;> rfl

/-! ### What the choice of routes leaves -/

/-- Of a set's view the routes alone may differ. -/
def RoutesOnly (v w : SetView) : Prop := w = { v with routes := w.routes, rerouted := w.rerouted, ways := w.ways }

theorem RoutesOnly.trans {v w x : SetView} (vw : RoutesOnly v w) (wx : RoutesOnly w x) : RoutesOnly v x := by
  unfold RoutesOnly at *
  rw [wx, vw]

@[simp] theorem restartFlows_set (d : Nat) (s : State) :
    (restartFlows d s).hl.set = { s.hl.set with rerouted := setBit d true s.hl.set.rerouted } := rfl

@[simp] theorem setSet_set (s : State) (v : SetView) : (s.setSet v).hl.set = v := rfl

theorem computeRoutes_routesOnly (s : State) : RoutesOnly s.hl.set (computeRoutes s).hl.set := by
  unfold computeRoutes
  refine forEach_related (rel := fun s t => RoutesOnly s.hl.set t.hl.set) (fun _ => rfl) RoutesOnly.trans _ _ (fun d s => ?_) s
  dsimp only
  generalize view : s.hl.set = v
  split
  · split
    · exact view ▸ rfl
    · simp only [RoutesOnly, restartFlows_set, setSet_set]
  · simp only [RoutesOnly, raiseNode_hl, restartFlows_set, setSet_set]

/-- Before the set has formed the new links change the routes alone. -/
theorem linksTaken_set {s : State} (origin links : Nat) (forming : s.formed = false) : RoutesOnly
    { s.hl.set with links := mergeLinks s.me origin s.hl.set.links links } (linksTaken origin links s).hl.set := by
  have routes := computeRoutes_routesOnly (s.setSet { s.hl.set with links := mergeLinks s.me origin s.hl.set.links links })
  unfold linksTaken checkLoss
  generalize computeRoutes (s.setSet { s.hl.set with links := mergeLinks s.me origin s.hl.set.links links }) = t at routes ⊢
  rw [setSet_set] at routes
  have still : t.formed = false := by rw [← forming, State.formed, routes, State.formed]
  rwa [still]

theorem nodeReturns_set {s : State} {node : Nat} (formed : s.formed = true) (other : node ≠ s.me) (member : node < s.setNodes)
    (away : s.hl.set.reachable.testBit node = false) : RoutesOnly
    { s.hl.set with returned := setBit node true s.hl.set.returned, lost := setBit node false s.hl.set.lost }
    (nodeReturns node s).hl.set := by
  have routes := computeRoutes_routesOnly (s.setSet { s.hl.set with
    returned := setBit node true s.hl.set.returned, lost := setBit node false s.hl.set.lost })
  have shadow : nodeReturns node s = computeRoutes (s.setSet { s.hl.set with
      returned := setBit node true s.hl.set.returned, lost := setBit node false s.hl.set.lost }) :=
    if_neg (by simp [formed, other, member.not_ge, away])
  rw [setSet_set] at routes
  rw [shadow]
  exact routes

theorem forEach_hl {α : Type} {f : α → State → State} (each : ∀ a s, (f a s).hl = s.hl) (l : List α) (s : State) :
    (forEach l f s).hl = s.hl :=
  forEach_related (rel := fun s t => t.hl = s.hl) (fun _ => rfl) (fun st tu => tu.trans st) l f each s

/-- The set's view as FORMED gives it (R326, R329). -/
def State.formedView (s : State) (lead mask time epoch : Nat) : SetView := { s.hl.set with
  state := 1, lead := lead, reachable := mask, members := 2 ^ s.setNodes - 1
  lost := 2 ^ s.setNodes - 1 - ((2 ^ s.setNodes - 1) &&& mask), fenced := 2 ^ s.setNodes - 1 - ((2 ^ s.setNodes - 1) &&& mask)
  epoch := some epoch, timeBase := time * nsT, timeAt := s.now, rate := 0, timeSet := true, offset := 0
  beyond5 := none, beyond10 := none, within5 := some s.now }

theorem formSet_routesOnly (lead mask time epoch : Nat) (s : State) :
    RoutesOnly (s.formedView lead mask time epoch) (formSet lead mask time epoch s).hl.set := by
  have after : (formSet lead mask time epoch s).hl = (computeRoutes (s.setSet (s.formedView lead mask time epoch))).hl :=
    (forEach_hl (fun _ _ => raiseNode_hl _ _ _) _ _).trans (raiseNode_hl _ _ _)
  rw [after]
  exact computeRoutes_routesOnly _

/-! ### Requests and their answers -/

theorem requestTaken_eq {body : List Byte} {op : Op} {side : Side} (carries : opOf hdr.opcode body = some op)
    (sender : side = ⟨.headland h hdr, hdr.stream, hdr.rseq, 0, hdr.cls, hdr.context, hdr.world, 0, hdr.colour, hdr.tag, false⟩)
    (fresh : (s.path.asks.any fun b => b.stage == .offered && b.sameStream (s.newAsk side (128 * hdr.line) op .port) &&
      b.side.seq == hdr.rseq) = false) :
    requestTaken h hdr body s = if s.duplicate (s.newAsk side (128 * hdr.line) op .port) = true then
      sendParcel hdr.origin { hdr with kind := 3, dest := hdr.origin, origin := s.me, len := 0, opcode := 0, due := 0, line := 0 } []
        (arrive side (128 * hdr.line) op s)
    else serveAll (arrive side (128 * hdr.line) op s) := by
  subst sender
  unfold requestTaken
  simp only [carries, Option.isNone_some, Option.getD_some]
  exact if_neg (by rw [Bool.not_eq_true]; exact fresh)

/-- A completion that is no report is its entry's; one that no entry waits for is discarded. -/
theorem completionTaken_none (request : hdrOfOrder hdr = false) (gone : s.forwardOf hdr = none) (body : List Byte) :
    completionTaken h hdr body s = s := by
  simp only [completionTaken, request, gone, Bool.false_eq_true, if_false]

section
variable {q : Ask} (request : hdrOfOrder hdr = false) (entry : s.forwardOf hdr = some q) (open_ : q.stage ≠ .finished)
  (port : q.internal = false)
include request entry open_ port

/-- A status that the block never produces counts as UNREACHABLE (R11). -/
theorem completionTaken_rsvd (rsvd : 8 ≤ hdr.opcode) (body : List Byte) :
    completionTaken h hdr body s = serveAll (finish q.id St.unreachable none (malformedParcel h false s)) := by
  simp [completionTaken, request, entry, open_, port, rsvd, St.unreachable, St.retry]

theorem completionTaken_status (status : hdr.opcode < 8) (ends : hdr.opcode ≠ St.retry) (body : List Byte) :
    completionTaken h hdr body s = serveAll (finish q.id hdr.opcode (if body.isEmpty then none else some (leNat body)) s) := by
  simp [completionTaken, request, entry, open_, port, status.not_ge, ends]

end

theorem completionTaken_order (report : hdrOfOrder hdr = true) (body : List Byte) : completionTaken h hdr body s = handedBack h hdr s :=
  if_pos report

theorem acceptTaken_waits {q : Ask} (entry : s.forwardOf hdr = some q) (waits : q.fwd = 1) (open_ : q.stage ≠ .finished) :
    acceptTaken hdr s = s.modAsk q.id fun q => { q with fwd := 2 } := by
  simp [acceptTaken, entry, waits, open_]

theorem acceptTaken_none (gone : s.forwardOf hdr = none) : acceptTaken hdr s = s := by simp [acceptTaken, gone]

theorem doneTaken_finished {q : Ask} (request : hdrOfOrder hdr = false) (entry : s.remoteOf hdr = some q) (over_ : q.stage = .finished) :
    doneTaken hdr s = serveAll (retire q.id (sampleEnd 0 q.id 0 (q.result.getD (0, none)).1
      (s.modAsk q.id fun q => { q with delivered := true }))) := by
  simp [doneTaken, request, entry, over_]

/-! ### Writes in the set's order -/

/-- A piece of 248 bytes has another behind it. -/
theorem objectTaken_piece {value : List Byte} (full : value.length = 248) (idx sub order : Nat) :
    objectTaken hdr idx sub order value s = s.setWrites (s.mgmt.setWrites.filter (fun w => !w.partOf hdr.origin order idx sub) ++
      [⟨order, idx, sub, ((s.mgmt.setWrites.find? fun w => w.partOf hdr.origin order idx sub).map (·.value)).getD [] ++ value, 0, none,
        hdr.origin, false, (St.ok, 0)⟩]) := if_pos full

/-- A member with no write under way applies an order that has come whole (R9, R30). -/
theorem objectTaken_order {value : List Byte} {order : Nat} (last : value.length < 248) (numbered : 0 < order) (member : s.isLead = false)
    (idle : s.mgmt.setWrites = []) (idx sub : Nat) :
    objectTaken hdr idx sub order value s = settle (.order order)
      (carriedHome true hdr.world idx sub value (.order order) (noteOrder hdr.origin order hdr.tag idx sub value s)) := by
  have same : s.setWrites [] = s := by rw [← idle]; rfl
  have whole : objectTaken hdr idx sub order value s = wholeWrite hdr idx sub order value s := by
    unfold objectTaken
    simp only [idle, List.find?_nil, Option.map_none, Option.getD_none, List.nil_append, List.filter_nil, same]
    exact if_neg last.ne
  rw [whole, wholeWrite]
  simp only [numbered.ne', member, idle, bne_iff_ne.mpr numbered.ne', if_false, Bool.false_eq_true, List.any_nil]

end

/-! ### Headers -/

theorem bits_eq (hi lo n : Nat) : bits hi lo n = n / 2 ^ lo % 2 ^ (hi + 1 - lo) := by rw [bits, Nat.shiftRight_eq_div_pow]

theorem bit_eq (i n : Nat) (b : Bool) (same : n / 2 ^ i % 2 = b2n b) : bit i n = b := by
  rw [bit, Nat.testBit_eq_decide_div_mod_eq, same]
  cases b <;> rfl

/-- The header's four words hold every field (R323). -/
theorem hdrOfWords_hdrWords {p : Hdr} {a b c d : Nat} (kind : p.kind < 2 ^ 4) (cls : p.cls < 2 ^ 4) (dest : p.dest < 2 ^ 3)
    (origin : p.origin < 2 ^ 3) (len : p.len < 2 ^ 4) (e2e : p.e2e < 2 ^ 16) (hop : p.hop < 2 ^ 16) (colour : p.colour < 2 ^ 2)
    (opcode : p.opcode < 2 ^ 6) (context : p.context < 2 ^ 6) (stream : p.stream < 2 ^ 12) (rseq : p.rseq < 2 ^ 16)
    (portKind : p.portKind < 2 ^ 2) (portIndex : p.portIndex < 2 ^ 8) (free : p.free < 2 ^ 14) (tag : p.tag < 2 ^ 32)
    (due : p.due < 2 ^ 32) (line : p.line < 2 ^ 46) (words : hdrWords p = [a, b, c, d]) : hdrOfWords a b c d = p := by
  obtain ⟨rfl, rfl, rfl, rfl⟩ : _ = a ∧ _ = b ∧ _ = c ∧ _ = d := by simpa [hdrWords] using words
  have detour : b2n p.detour ≤ 1 := by cases p.detour <;> decide
  have world : b2n p.world ≤ 1 := by cases p.world <;> decide
  unfold hdrOfWords
  cases p with
  | mk =>
    dsimp only at *
    congr 1
    case e_detour => apply bit_eq; omega
    case e_world => apply bit_eq; omega
    all_goals rw [bits_eq]; omega

/-! ### The settling -/

section
variable {s : State} {h : Nat} {hdr : Hdr}

/-- A parcel that comes by a port it takes is acted on, whatever command spells it out. -/
theorem next_takes {body : List Byte} {deliver : State → State} (takes : s.takes h hdr = true) :
    (if portOk h then .next (takeParcel h hdr body deliver s) else .fault .absentUnit : Res) =
      .next (ackDue h (deliver (s.taken h hdr))) := by
  rw [if_pos (portOk_of_takes takes), takeParcel_takes takes]

/-- The same, where what is done with it is known. -/
theorem next_taken {body : List Byte} {deliver : State → State} {u : State} (takes : s.takes h hdr = true)
    (acts : deliver (s.taken h hdr) = u) :
    (if portOk h then .next (takeParcel h hdr body deliver s) else .fault .absentUnit : Res) = .next (ackDue h u) := by
  rw [next_takes takes, acts]

theorem exec_requestParcel_room {body : List Byte} (takes : s.takes h hdr = true) (room : s.offersFull h = false) :
    exec (.requestParcel h hdr body) s = .next (takeChecked h hdr body (requestOk hdr body) (requestTaken h hdr body) s) := by
  refine (if_pos (portOk_of_takes takes)).trans ?_
  rw [room, Bool.and_false, if_neg Bool.false_ne_true]

theorem exec_requestParcel_takes {body : List Byte} (takes : s.takes h hdr = true) (room : s.offersFull h = false)
    (formed : requestOk hdr body = true) :
    exec (.requestParcel h hdr body) s = .next (ackDue h (requestTaken h hdr body (s.taken h hdr))) := by
  rw [exec_requestParcel_room takes room, takeChecked_ok body formed, takeParcel_takes takes]

theorem exec_completionParcel_takes {body : List Byte} (takes : s.takes h hdr = true) (formed : completionOk hdr body = true) :
    exec (.completionParcel h hdr body) s = .next (ackDue h (completionTaken h hdr body (s.taken h hdr))) := by
  refine (if_pos (portOk_of_takes takes)).trans ?_
  rw [takeChecked_ok body formed, takeParcel_takes takes]

/-- FLOW_RESET sets the expected number of its flow, whatever number it carries itself (R333). -/
theorem exec_flowReset_takes (takes : s.takes h hdr = true) (base : Nat) :
    exec (.flowReset h hdr base) s = .next (ackDue h ((peerBack hdr.origin (s.arrived h hdr)).setFlow (flowKey hdr.origin s.me hdr.cls)
      { (peerBack hdr.origin (s.arrived h hdr)).flow (flowKey hdr.origin s.me hdr.cls) with rx := base % 65536 })) := by
  obtain ⟨joined, live, greeted, silent, short, free, next, mine⟩ := State.takes_facts takes
  have back : (peerBack hdr.origin (s.arrived h hdr)).me = s.me :=
    congrArg Pins.nodeId ((peerBack_fr (countParcel_fr (State.bump_fr (Fr.set_hl (.refl 320 s))))).pins (by decide))
  refine (if_pos (portOk_of_takes takes)).trans ?_
  unfold flowReset
  rw [if_neg (by simp [joined]), hopCheck_expected live greeted silent short free next, State.arrived_me, if_pos mine]
  dsimp only
  rw [back]

theorem gives_formed (takes : s.takes h hdr = true) {lead mask time epoch : Nat} (forming : (s.taken h hdr).formed = false)
    (reached : mask.testBit s.me = true) : Gives (.formed h hdr lead mask time epoch) s fun t =>
      t.hl.set = { (s.taken h hdr).hl.set with
        state := 1, lead := lead, reachable := mask, members := 2 ^ s.setNodes - 1, epoch := some epoch
        lost := 2 ^ s.setNodes - 1 - ((2 ^ s.setNodes - 1) &&& mask), fenced := 2 ^ s.setNodes - 1 - ((2 ^ s.setNodes - 1) &&& mask)
        timeBase := time * nsT, timeAt := s.now, rate := 0, timeSet := true, offset := 0, beyond5 := none, beyond10 := none
        within5 := some s.now, routes := t.hl.set.routes, rerouted := t.hl.set.rerouted, ways := t.hl.set.ways } := by
  refine ⟨_, next_takes takes, ?_⟩
  dsimp only
  rw [taken_me, forming, reached, if_neg Bool.false_ne_true, if_pos rfl, ackDue_set]
  have formed := formSet_routesOnly lead mask time epoch (s.taken h hdr)
  rw [State.formedView, taken_setNodes, taken_now] at formed
  exact formed

theorem gives_linkState (takes : s.takes h hdr = true) (links : Nat) (forming : (s.taken h hdr).formed = false) :
    Gives (.linkState h hdr links) s fun t => t.hl.set = { (s.taken h hdr).hl.set with
      links := mergeLinks s.me hdr.origin (s.taken h hdr).hl.set.links links, routes := t.hl.set.routes
      rerouted := t.hl.set.rerouted, ways := t.hl.set.ways } := by
  refine ⟨_, next_takes takes, ?_⟩
  have view := linksTaken_set hdr.origin links forming
  rw [taken_me] at view
  dsimp only
  rw [ackDue_set]
  exact view

theorem gives_rejoin (takes : s.takes h hdr = true) (node : Nat) (formed : (s.taken h hdr).formed = true) (other : node ≠ s.me)
    (member : node < s.setNodes) (away : (s.taken h hdr).hl.set.reachable.testBit node = false) :
    Gives (.rejoin h hdr node) s fun t => t.hl.set = { (s.taken h hdr).hl.set with
      returned := setBit node true (s.taken h hdr).hl.set.returned, lost := setBit node false (s.taken h hdr).hl.set.lost
      routes := t.hl.set.routes, rerouted := t.hl.set.rerouted, ways := t.hl.set.ways } := by
  refine ⟨_, next_takes takes, ?_⟩
  have view := nodeReturns_set formed (by rwa [taken_me]) (by rwa [taken_setNodes]) away
  dsimp only
  rw [ackDue_set]
  exact view

theorem gives_warmResetParcel (takes : s.takes h hdr = true) (node : Nat) : Gives (.warmResetParcel h hdr node) s fun t =>
    t.hl.set = { (s.taken h hdr).hl.set with resetting := put 0 node (s.now + 1) (s.taken h hdr).hl.set.resetting } := by
  refine ⟨_, next_takes takes, ?_⟩
  dsimp only
  rw [ackDue_set, peerResets, taken_now]
  refine (forEach_related (rel := fun s t => t.hl.set = s.hl.set) (fun _ => rfl) (fun st tu => tu.trans st) _ _ (fun k t => ?_) _)
  dsimp only
  split <;> rfl

end

/-- Settles O37: what a parcel that is taken does is what its kind does in the state that has counted it, kind by kind. -/
theorem sequencedParcels : Obligations.SequencedParcels := by
  unfold Obligations.SequencedParcels
  rintro s h hdr u rfl
  refine ⟨fun takes body deliver => takeParcel_takes takes body deliver, fun isolated body deliver => takeChecked_isolated isolated _ _ _,
    ?malformed, ?left, fun takes => ?kinds, ?header⟩
  case malformed =>
    intro small joined live greeted silent bad body deliver
    have bad : (decide (8 < hdr.len) || hdr.free != 0 || !true) = true := by simpa using bad
    exact (if_neg (by simp [joined])).trans (hopCheck_malformed live greeted silent bad _)
  case left =>
    intro small joined live greeted silent short free body deliver
    have checked : takeParcel h hdr body deliver s = hopCheck h hdr true (fun s =>
      if hdr.dest = s.me then flowCheck hdr (fun s => deliver (peerBack hdr.origin s)) s else relay h ⟨hdr, body⟩ s) s :=
      if_neg (by simp [joined])
    rw [checked]
    refine ⟨fun next other => ?_, fun next mine ahead before => ?_, fun ahead before => ?_⟩
    · rw [hopCheck_expected live greeted silent short free next, if_neg (by rwa [State.arrived_me])]
    · rw [hopCheck_expected live greeted silent short free next, if_pos (by rwa [State.arrived_me]),
        flowCheck_repeated (by simpa using ahead) (by simpa using before)]
    · exact hopCheck_repeated live greeted silent short free ahead before _
  case kinds =>
    have taking := @next_takes s h hdr
    refine ⟨?member, ?same, fun lead mask time epoch => gives_formed takes, fun node mask => next_takes takes,
      exec_flowReset_takes takes, gives_linkState takes, ?piece, ?order, gives_warmResetParcel takes, gives_rejoin takes,
      ?badRequest, ?request, ?repeated, ?full, ?reports, ?completions, ?accepts, ?noEntry, ?doneOrder, ?done, ?notice⟩
    case member =>
      intro node mask links v forming other viewed
      refine (next_takes takes).trans ?_
      simp only [taken_me, forming, Bool.false_eq_true, if_false, if_neg other, viewed]
    case same =>
      intro node mask links forming same
      refine (next_takes takes).trans ?_
      simp only [taken_me, forming, Bool.false_eq_true, if_false, same, if_true]
    case piece =>
      intro idx sub order value full
      exact ⟨_, next_takes takes, congrArg (ackDue h) (objectTaken_piece full idx sub order)⟩
    case order =>
      intro idx sub order value last numbered member idle
      exact next_taken takes (objectTaken_order last numbered member idle idx sub)
    case badRequest =>
      intro body room bad
      obtain ⟨joined, live, greeted, silent, -⟩ := State.takes_facts takes
      rw [exec_requestParcel_room takes room, bad]
      exact congrArg Host.Outcome.next ((if_neg (by simp [joined])).trans (hopCheck_malformed live greeted silent (by simp) _))
    case request =>
      intro body op side carries formed sender room new fresh
      rw [exec_requestParcel_takes takes room formed, requestTaken_eq carries sender fresh, new, if_neg Bool.false_ne_true]
    case repeated =>
      intro body op side carries formed sender room known fresh
      rw [exec_requestParcel_takes takes room formed, requestTaken_eq carries sender fresh, if_pos known]
      rfl
    case full =>
      intro body full
      obtain ⟨-, -, -, -, -, -, -, mine⟩ := State.takes_facts takes
      refine (if_pos (portOk_of_takes takes)).trans ?_
      rw [if_pos (by simp [mine, full])]
    case reports =>
      intro body report formed
      rw [exec_completionParcel_takes takes formed, completionTaken_order report]
    case completions =>
      intro request body formed
      rw [exec_completionParcel_takes takes formed]
      refine ⟨fun q entry open_ port rsvd => ?_, fun q entry open_ port status ends => ?_, fun gone => ?_⟩
      · rw [completionTaken_rsvd request entry open_ port rsvd]
      · rw [completionTaken_status request entry open_ port status ends]
      · rw [completionTaken_none request gone]
    case accepts =>
      intro q entry waits open_
      exact next_taken takes (acceptTaken_waits entry waits open_)
    case noEntry => exact fun gone => next_taken takes (acceptTaken_none gone)
    case doneOrder => exact fun report => next_taken takes (if_pos report)
    case done =>
      intro q request entry over_
      exact next_taken takes (doneTaken_finished request entry over_)
    case notice => exact fun object value => next_takes takes
  case header =>
    intro p a b c d kind cls dest origin len e2e hop colour opcode context stream rseq portKind portIndex free tag due line words
    exact hdrOfWords_hdrWords kind cls dest origin len e2e hop colour opcode context stream rseq portKind portIndex free tag due line words

end Sys2Proof.Machine


/-!
PROOF. The refutation of O43: its second part, on what completes at once, does not ask that the port be present.
-/
namespace Sys2Proof.Machine

-- One proof after another, each on a stack of its own, for the check's memory.
set_option Elab.async false

/-- A node that runs, alone in its set, with its clocks enabled, every class allowed to tiles and no memory that one core alone may use (R46). -/
def openNodeOf : State :=
  ((({ State.reset with
    power := { Power.reset with node := .run }
    hl := { State.reset.hl with set := { State.reset.hl.set with members := 1 } } }).setOb 0x2020 1 (2 ^ 32 - 1)).setOb 0x3000 5
      0xFFFF).setOb 0x2101 1 0

/-- A tile port past the last of four stacks. -/
def absentTile : Side := ⟨.tile 256, 0, 0, 0, 0, 0, false, 0, 0, 0, false⟩

theorem absentTile_absent : portPresent absentTile.port openNodeOf = false := by decide +kernel

/-- Nothing that admits a request asks whether its port is there. -/
theorem absentTile_admitted : openNodeOf.admits (openNodeOf.req absentTile 0 .read) = true := by decide +kernel

/-- Settles O43: it fails. A read at an absent tile port stops (its second clause), and yet meets what its fourth clause asks of a request
that stays offered, which would have it go on. -/
theorem not_openRequests : ¬ Obligations.OpenRequests := by
  unfold Obligations.OpenRequests
  intro holds
  obtain ⟨-, absent, -, offered, -⟩ := holds openNodeOf absentTile absentTile 0 0 rfl rfl
  obtain ⟨t, goes, -⟩ := offered (.openRead absentTile 0) .read (openNodeOf.req absentTile 0 .read) 0 0 List.mem_cons_self rfl
    absentTile_admitted rfl rfl rfl
  obtain ⟨stops, -⟩ := absent absentTile_absent
  rw [stops] at goes
  cases goes

end Sys2Proof.Machine


/-!
PROOF. What the requests of this node's own ports meet (R215 to R231): the objects below those of the classes, and what their admission
leaves of the cache and of the synchronisation objects.
-/
namespace Sys2Proof.Machine

-- One proof after another, each on a stack of its own, for the check's memory.
set_option Elab.async false

/-! ### Stores seen through some of their keys -/

section
variable {V : Type} [DecidableEq V] {d v : V} {k : Nat} {f : Nat → Bool}

theorem filter_put_of_out (out : f k = false) (m : Store V) :
    (put d k v m).filter (fun p => f p.1) = m.filter fun p => f p.1 := by
  induction m with
  | nil => unfold put; split <;> simp [out]
  | cons p m ih =>
    obtain ⟨i, w⟩ := p
    unfold put
    split
    · simp only [List.filter_cons, ih]
    · split
      · rename_i same
        subst same
        split <;> simp [out]
      · split <;> simp [out]

omit [DecidableEq V] in
theorem look_filter_of_in (in_ : f k = true) (m : Store V) : look d k (m.filter fun p => f p.1) = look d k m := by
  induction m with
  | nil => rfl
  | cons p m ih =>
    obtain ⟨i, w⟩ := p
    by_cases same : i = k
    · subst same
      simp [in_, look]
    · by_cases kept : f i = true <;> simp [kept, look, same, ih]

end

/-! ### Objects below those of the classes -/

/-- The objects below 0x3010, where those of the traffic classes begin, as the store lists them. -/
def State.lowObjects (s : State) : Store Nat := s.obj.filter fun p => decide (p.1 < 0x301000)

section
variable {s t : State}

theorem setOb_lowObjects (s : State) {i : Nat} (a v : Nat) (high : 0x3010 ≤ i) : (s.setOb i a v).lowObjects = s.lowObjects :=
  filter_put_of_out (f := fun k => decide (k < 0x301000)) (by unfold objKey; simp; omega) _

theorem lowObjects_of_obj (same : t.obj = s.obj) : t.lowObjects = s.lowObjects := by rw [State.lowObjects, State.lowObjects, same]

theorem ob_of_lowObjects (same : t.lowObjects = s.lowObjects) {i a : Nat} (low : i < 0x3010) (fits : a < 256) : t.ob i a = s.ob i a := by
  have in_ : decide (objKey i a < 0x301000) = true := decide_eq_true (by unfold objKey; omega)
  have seen (u : State) : look (objDefault (objKey i a)) (objKey i a) u.lowObjects = u.ob i a :=
    look_filter_of_in (f := fun k => decide (k < 0x301000)) in_ u.obj
  rw [← seen t, ← seen s, same]

theorem regionList_of_lowObjects (same : t.lowObjects = s.lowObjects) : t.regionList = s.regionList := by
  have seen (u : State) : u.lowObjects.filterMap (fun p => keyRegion p.1) = u.regionList := by
    unfold State.lowObjects State.regionList
    rw [List.filterMap_filter]
    refine List.filterMap_congr fun p _ => ?_
    split
    · rfl
    · next high => exact (if_neg (by simp only [decide_eq_true_eq, Bool.and_eq_true] at high ⊢; omega)).symm
  rw [← seen t, ← seen s, same]

theorem validRegions_of_lowObjects (same : t.lowObjects = s.lowObjects) : t.validRegions = s.validRegions := by
  have regions : t.regionList = s.regionList := regionList_of_lowObjects same
  have each : ∀ r ∈ s.regionList, t.region r = s.region r := by
    intro r mem
    obtain ⟨p, -, there⟩ := List.mem_filterMap.mp mem
    unfold keyRegion at there
    split at there
    · next range =>
      simp only [Bool.and_eq_true, decide_eq_true_eq] at range
      obtain rfl := Option.some.inj there
      unfold State.region
      rw [ob_of_lowObjects same (by unfold regionIdx; omega) (regionSub_lt _)]
    · cases there
  unfold State.validRegions
  rw [regions, List.map_congr_left fun r mem => by rw [each r mem]]

end

/-! ### What the admission of a request leaves -/

/-- The cache, the synchronisation objects, the far tier's work and the objects below the classes' are as they were. -/
structure Aside (s t : State) : Prop where
  cache : t.cache = s.cache
  syncs : t.syncs = s.syncs
  far : t.far = s.far
  low : t.lowObjects = s.lowObjects

section
variable {s t u : State}

theorem Aside.refl (s : State) : Aside s s := ⟨rfl, rfl, rfl, rfl⟩

theorem Aside.trans (st : Aside s t) (tu : Aside t u) : Aside s u :=
  ⟨tu.cache.trans st.cache, tu.syncs.trans st.syncs, tu.far.trans st.far, tu.low.trans st.low⟩

theorem Aside.ite {p : Prop} [Decidable p] (st : Aside s t) (su : Aside s u) : Aside s (if p then t else u) := by
  split
  · exact st
  · exact su

/-- An operation that writes neither objects nor what `Aside` names. -/
theorem Aside.of_fr {w : Nat} (kept : Fr w s t) (obj : w.testBit 6 = false := by decide) (cache : w.testBit 19 = false := by decide)
    (far : w.testBit 20 = false := by decide) (syncs : w.testBit 21 = false := by decide) : Aside s t :=
  ⟨kept.cache cache, kept.syncs syncs, kept.far far, lowObjects_of_obj (kept.obj obj)⟩

theorem aside_setOb (s : State) {i : Nat} (a v : Nat) (high : 0x3010 ≤ i) : Aside s (s.setOb i a v) :=
  ⟨rfl, rfl, rfl, setOb_lowObjects s a v high⟩

theorem aside_bump (s : State) {i : Nat} (a : Nat) (high : 0x3010 ≤ i) : Aside s (s.bump i a) := aside_setOb s _ _ high

theorem aside_peak (s : State) {i : Nat} (a v : Nat) (high : 0x3010 ≤ i) : Aside s (s.peak i a v) :=
  .ite (aside_setOb s _ _ high) (.refl s)

theorem aside_countIf (s : State) {i : Nat} (j n : Nat) (c : Cause) (high : 0x3010 ≤ i) : Aside s (countIf i j n c s) :=
  .ite (.ite (.refl s) (aside_setOb s _ _ high)) (.refl s)

theorem high_classIdx (l : Nat) : 0x3010 ≤ classIdx l := by unfold classIdx; omega
theorem high_regIdx (r : Nat) : 0x3010 ≤ regIdx r := by unfold regIdx; omega
theorem high_rtIdx (p : Nat) : 0x3010 ≤ rtIdx p := by unfold rtIdx; omega
theorem high_sliceBank (x : Nat) : 0x3010 ≤ sliceBank x := by unfold sliceBank; omega

theorem aside_setPath (s : State) (p : Path) : Aside s (s.setPath p) := ⟨rfl, rfl, rfl, rfl⟩

theorem aside_setShaper (l : Nat) (c : Int) (s : State) : Aside s (setShaper l c s) := by
  unfold setShaper
  exact (aside_setPath s _).trans (aside_setOb _ _ _ (high_classIdx l))

theorem aside_settleShaper (l : Nat) (s : State) : Aside s (settleShaper l s) :=
  .ite (aside_setShaper l _ s) (.refl s)

theorem aside_meterAsk (q : Ask) (s : State) : Aside s (meterAsk q s).2 := by
  unfold meterAsk
  extract_lets l mode free r
  split
  · exact aside_bump s _ (high_classIdx l)
  · exact (aside_setPath s _).trans (aside_bump _ _ (high_classIdx l))

theorem aside_candidate (population : Nat) (c : Cause) (mk : State → Building) (s : State) : Aside s (candidate population c mk s) := by
  have seen := aside_setOb s 0x0D ((s.ob 0x7100 0x0D + 1) % 2 ^ 64) (by decide : 0x3010 ≤ 0x7100)
  unfold candidate
  extract_lets w t x r u
  have sampled (v : State) (y : Sampler) (from_ : Aside s v) : Aside s (v.setSampler y) := from_.trans ⟨rfl, rfl, rfl, rfl⟩
  exact .ite (.refl s) (.ite seen (.ite (sampled t _ seen) (sampled u _ (seen.trans (aside_setOb t _ _ (by decide))))))

theorem aside_acceptAsk (id : Nat) (confirmed : Bool) (s : State) : Aside s (acceptAsk id confirmed s) := by
  unfold acceptAsk
  split
  · exact .refl s
  · next a _ =>
    have peaked (v : State) (n : Nat) : Aside v (v.peak 0xA002 2 n) := aside_peak v _ _ (by decide)
    have counted (v : State) (c : Cause) : Aside v (countIf breakwaterBank 0 1 c v) := aside_countIf v _ _ _ (by decide)
    have sent (v : State) : Aside v (sendAccept a v) := .of_fr (sendAccept_fr (.refl 256 v))
    exact (((aside_setPath s _).trans (peaked _ _)).trans (counted _ _)).trans
      ((aside_candidate _ _ _ _).trans (sent _))

theorem sliceOf_lt (a : Nat) : sliceOf a < 16 := by
  have field (hi lo : Nat) (four : hi + 1 - lo ≤ 4) : bits hi lo a < 2 ^ 4 :=
    (Nat.mod_lt _ (by positivity)).trans_le (Nat.pow_le_pow_right (by decide) four)
  have sum {x y : Nat} (hx : x < 2 ^ 4) (hy : y < 2 ^ 4) : x ^^^ y < 2 ^ 4 := Nat.xor_lt_two_pow hx hy
  exact sum (sum (sum (sum (sum (sum (sum (sum (field _ _ (by decide)) (field _ _ (by decide))) (field _ _ (by decide)))
    (field _ _ (by decide))) (field _ _ (by decide))) (field _ _ (by decide))) (field _ _ (by decide))) (field _ _ (by decide)))
    (field _ _ (by decide))

theorem partnerOf_lt {x : Nat} (small : x < 16) : partnerOf x < 16 := Nat.xor_lt_two_pow (n := 4) small (by decide)

section
variable (aside : Aside s t)
include aside

theorem Aside.ob {i a : Nat} (low : i < 0x3010) (fits : a < 256 := by decide) : t.ob i a = s.ob i a := ob_of_lowObjects aside.low low fits

theorem Aside.sliceState {x : Nat} (small : x < 16) : t.sliceState x = s.sliceState x := aside.ob (by omega)

theorem Aside.serving (a : Nat) : t.serving (sliceOf a) = s.serving (sliceOf a) := by
  rw [State.serving, State.serving, aside.sliceState (sliceOf_lt a)]

theorem Aside.mirrored (a : Nat) : t.mirrored (sliceOf a) = s.mirrored (sliceOf a) := by
  rw [State.mirrored, State.mirrored, aside.sliceState (sliceOf_lt a), aside.sliceState (partnerOf_lt (sliceOf_lt a))]

theorem Aside.way (k : Nat) : t.way k = s.way k := by rw [State.way, State.way, aside.cache]

theorem Aside.findWay (p line : Nat) (f : WayKind → Bool) : t.findWay p line f = s.findWay p line f := by
  simp only [State.findWay, aside.way]

theorem Aside.cached (a : Nat) : t.cached a = s.cached a := by
  simp only [State.cached, aside.serving, aside.findWay]

theorem Aside.redOn (a : Nat) : t.redOn a = s.redOn a := by rw [State.redOn, State.redOn, aside.cache]

theorem Aside.dirtyIn (p y : Nat) : t.dirtyIn p y = s.dirtyIn p y := by
  simp only [State.dirtyIn, aside.way]

theorem Aside.dirtyLimit (a : Nat) (w : CWay) : t.dirtyLimit a w = s.dirtyLimit a w := by
  simp only [State.dirtyLimit, aside.serving, aside.dirtyIn]

theorem Aside.syncState (o : Nat) : t.syncState o = s.syncState o := by rw [State.syncState, State.syncState, aside.syncs]

theorem Aside.syncSecure (o : Nat) : t.syncSecure o = s.syncSecure o := by rw [State.syncSecure, State.syncSecure, aside.ob (by decide)]

end
end

end Sys2Proof.Machine


/-!
PROOF. A request of this node's own ports that is admitted (R215 to R231): it stands alone and offered, and is served at once.
-/
namespace Sys2Proof.Machine

-- One proof after another, each on a stack of its own, for the check's memory.
set_option Elab.async false

/-! ### Requests of this node's own ports -/

/-- The request came by a tile port or a real-time port. -/
def Ask.own (q : Ask) : Bool := match q.side.port with | .tile _ => true | .rt _ => true | _ => false

section
variable {q : Ask}

theorem Ask.own_cases (own : q.own = true) : (∃ t, q.side.port = .tile t) ∨ ∃ p, q.side.port = .rt p := by
  unfold Ask.own at own
  split at own
  · next t port => exact .inl ⟨t, port⟩
  · next p port => exact .inr ⟨p, port⟩
  · cases own

theorem Ask.unitKind_of_own (own : q.own = true) : q.unitKind = false := by
  rcases Ask.own_cases own with ⟨t, port⟩ | ⟨p, port⟩ <;> simp [Ask.unitKind, port]

theorem Ask.internal_of_own (own : q.own = true) : q.internal = false := by
  rcases Ask.own_cases own with ⟨t, port⟩ | ⟨p, port⟩ <;> simp [Ask.internal, port]

theorem Ask.fromReserve_of_own (own : q.own = true) : q.fromReserve = false := by
  rcases Ask.own_cases own with ⟨t, port⟩ | ⟨p, port⟩ <;> simp [Ask.fromReserve, port]

theorem Ask.checks_of_own (own : q.own = true) : q.checks = .full := by
  rcases Ask.own_cases own with ⟨t, port⟩ | ⟨p, port⟩ <;> simp [Ask.checks, port]

theorem Ask.watches_of_own (own : q.own = true) : q.watches = none := by
  rcases Ask.own_cases own with ⟨t, port⟩ | ⟨p, port⟩ <;> simp [Ask.watches, port]

theorem sendAccept_of_own (own : q.own = true) (s : State) : sendAccept q s = s := by
  rcases Ask.own_cases own with ⟨t, port⟩ | ⟨p, port⟩ <;> simp [sendAccept, port]

end

/-! ### What one request alone meets -/

section
variable {s : State} {q : Ask}

theorem modAsk_only (only : s.path.asks = [q]) (f : Ask → Ask) : (s.modAsk q.id f).path.asks = [f q] := by
  simp [State.modAsk, State.setAsks, State.setPath, only]

/-- A request of an own port that is over stands in the path with its result. -/
theorem finish_own {status : Nat} {data : Option Nat} (only : s.path.asks = [q]) (open_ : q.stage ≠ .finished) (own : q.own = true) :
    (finish q.id status data s).path.asks = [{ q with stage := .finished, result := some (status, data) }] := by
  refine Eq.trans ?_ (modAsk_only only fun a => { a with stage := .finished, result := some (status, data) })
  unfold finish
  rw [ask?_of_only only]
  dsimp only
  rw [if_neg (by simpa using open_), Ask.internal_of_own own, if_neg Bool.false_ne_true]
  rcases Ask.own_cases own with ⟨t, port⟩ | ⟨p, port⟩ <;> rw [port] <;>
    exact congrArg Path.asks ((sampleEffect_fr (countDecision_fr (.refl 67108928 _))).path (by decide))

theorem applyAsk_own {value : Nat} {data : Option Nat} (only : s.path.asks = [q]) (open_ : q.stage ≠ .finished) (own : q.own = true) :
    (applyAsk q.id value data s).path.asks =
      [{ q with applied := some value, stage := .finished, result := some (St.ok, data) }] :=
  finish_own (q := { q with applied := some value }) (modAsk_only only _) open_ own

/-- A request that is accepted holds a journal entry, with the region and the rule it was accepted under. -/
theorem acceptAsk_own {confirmed : Bool} (only : s.path.asks = [q]) (own : q.own = true) : (acceptAsk q.id confirmed s).path.asks =
    [{ q with stage := .accepted, journal := true, confirmed := confirmed, region := s.regionRaw q.addr, rule := s.ruleFor q }] := by
  refine Eq.trans ?_ (modAsk_only only fun a => { a with
    stage := .accepted, journal := true, confirmed := confirmed, region := s.regionRaw a.addr, rule := s.ruleFor a })
  unfold acceptAsk
  rw [ask?_of_only only]
  dsimp only
  rw [sendAccept_of_own own]
  exact congrArg Path.asks ((candidate_fr (countIf_fr (State.peak_fr (.refl 67108928 _)))).path (by decide))

theorem earlierAsks_only (only : s.path.asks = [q]) : earlierAsks q.id s.path.asks = [] := by simp [only, earlierAsks]

theorem inTurn_only (only : s.path.asks = [q]) : s.inTurn q = true := by simp [State.inTurn, earlierAsks_only only]

theorem journalFree_only (only : s.path.asks = [q]) (outside : q.journal = false) : s.journalFree = true := by
  simp [State.journalFree, State.openUsed, only, outside, journalReserve, journalSize]

/-- A request that is offered is accepted, and its operation goes on. -/
theorem acceptOr_own {confirmed : Bool} {f : State → State} (only : s.path.asks = [q]) (offered : q.stage = .offered)
    (own : q.own = true) (outside : q.journal = false) : acceptOr q.id confirmed f s = f (acceptAsk q.id confirmed s) := by
  have free : s.entryFree q = true :=
    (if_neg (by rw [Ask.fromReserve_of_own own]; exact Bool.false_ne_true)).trans (journalFree_only only outside)
  unfold acceptOr
  rw [ask?_of_only only]
  dsimp only
  rw [if_neg (by simp [offered]), if_neg (by simp [free])]

end

/-! ### The checks of an own port's request -/

theorem stepAccess_none {q : Ask} {s t : State} (own : q.own = true) (passes : stepAccess q s = (none, t)) : t = s := by
  unfold stepAccess at passes
  rw [Ask.checks_of_own own] at passes
  dsimp only at passes
  unfold accessCheck at passes
  split at passes
  · cases passes
  · next v done =>
    split at done
    · cases done
      split at passes <;> cases passes
      rfl
    · cases done

theorem step5_pass {q : Ask} {s t : State} (own : q.own = true) (passes : step5 q s = (.pass, t)) : t = s := by
  unfold step5 at passes
  split at passes
  · exact (Prod.mk.inj passes).2.symm
  · split at passes
    · cases passes
    · split at passes
      · cases passes
      · next v access =>
        obtain rfl := stepAccess_none own access
        exact (Prod.mk.inj passes).2.symm

/-! ### Credit -/

theorem State.ob_setOb_sub (s : State) {i a j b v : Nat} (other : b ≠ a) (small : a < 256 := by decide) (fits : b < 256 := by decide) :
    (s.setOb i a v).ob j b = s.ob j b :=
  State.ob_setOb_ne s fun same => other (objKey_inj fits small same).2

/-- Credit is read in the shaper's objects and in the panic input's (R220, R224): one written beside them leaves it. -/
theorem hasCredit_setOb (s : State) (q : Ask) (i v : Nat) {a : Nat} (beside : a = 7 ∨ a = 8) :
    (s.setOb i a v).hasCredit q = s.hasCredit q := by
  have ob (j : Nat) {b : Nat} (other : b ≠ a) (fits : b < 256) : (s.setOb i a v).ob j b = s.ob j b :=
    State.ob_setOb_sub s other (by omega) fits
  have four (j : Nat) := ob j (b := 4) (by omega) (by decide)
  have nine (j : Nat) := ob j (b := 9) (by omega) (by decide)
  have ten (j : Nat) := ob j (b := 0x0A) (by omega) (by decide)
  have eleven (j : Nat) := ob j (b := 0x0B) (by omega) (by decide)
  unfold State.hasCredit State.unshaped State.shaped State.shaperNow State.panicIn
  simp only [four, nine, ten, eleven]
  rfl

theorem hasCredit_modAsk {s : State} {q : Ask} (only : s.path.asks = [q]) (t r : Nat) (o : Bool) :
    (s.modAsk q.id fun b => { b with tier := t, rank := r, overBudget := o }).hasCredit { q with tier := t, rank := r, overBudget := o } =
      s.hasCredit q := by
  have offered (l : Nat) : (s.modAsk q.id fun b => { b with tier := t, rank := r, overBudget := o }).offeredOf l = s.offeredOf l := by
    rw [State.offeredOf, modAsk_only only, State.offeredOf, only]
    rfl
  unfold State.hasCredit State.shaperNow
  rw [offered]
  rfl

/-! ### From its arrival to its service -/

/-- Request `k`, come in `s`, stands alone in `w` as `b`: offered, with credit, under the settings it came with. -/
structure Offered (k : Ask) (s : State) (b : Ask) (w : State) : Prop where
  only : w.path.asks = [b]
  like : ∃ t r o, b = { k with tier := t, rank := r, overBudget := o }
  aside : Aside s w
  tides : w.path.tides = s.path.tides
  credit : w.hasCredit b = true

/-- What the admission of a request asks of the node and of the request. -/
theorem State.admits_facts {s : State} {k : Ask} (admitted : s.admits k = true) : k.own = true ∧
    (s.power.node = .ready ∨ s.power.node = .run) ∧ s.path.asks = [] ∧ s.far.waiting = [] ∧ portDenied k (endChain k s) = false ∧
    (endChain k s).chained k = false ∧ k.owner = s.me ∧ ∃ v, step5 k (addAsk k (settleShaper k.side.cls (endChain k s))) = (.pass, v) ∧
      v.widenRefusal k = none ∧ v.sliceHeld k = false ∧ (meterAsk k v).1 ≠ 2 ∧ (meterAsk k v).2.hasCredit k = true := by
  unfold State.admits at admitted
  simp only [Bool.and_eq_true, Bool.or_eq_true, beq_iff_eq, List.isEmpty_iff, Bool.not_eq_true'] at admitted
  obtain ⟨⟨⟨⟨⟨⟨⟨own, runs⟩, alone⟩, idle⟩, allowed⟩, free⟩, mine⟩, passes⟩ := admitted
  refine ⟨own, runs, alone, idle, allowed, free, mine, ?_⟩
  split at passes
  · next v steps =>
    simp only [Bool.and_eq_true, bne_iff_ne, Option.isNone_iff_eq_none, Bool.not_eq_true'] at passes
    obtain ⟨⟨⟨⟨widens, open_⟩, colour⟩, credit⟩, -⟩ := passes
    exact ⟨v, steps, widens, open_, colour, credit⟩
  · cases passes

/-- The state in which request `q` of colour `c` is served (R218 to R221): its tier and rank set, and what counts them. -/
def State.offeredIn (v : State) (q : Ask) (c : Nat) : State :=
  let o := v.overBudget q
  let t := v.tierOf q c o
  let u := if t = 2 then v.bump (regIdx (v.partition q.side.ctx)) 7 else v
  let w := u.modAsk q.id fun b => { b with tier := t, rank := u.rankOf q c o, overBudget := o }
  match q.side.port with | .rt p => w.peak (rtIdx p) 8 (w.offersOf q) | _ => w

section
variable {s v : State} {q : Ask} {c : Nat}

theorem offerAsk_offeredIn (own : q.own = true) (passes : step5 q (addAsk q (settleShaper q.side.cls s)) = (.pass, v))
    (widens : v.widenRefusal q = none) (open_ : v.sliceHeld q = false) (colour : (meterAsk q v).1 ≠ 2) :
    offerAsk q s = serveAll ((meterAsk q v).2.offeredIn q (meterAsk q v).1) := by
  unfold offerAsk
  simp only [passes, widens, open_, Ask.unitKind_of_own own, Bool.false_eq_true, if_false, if_neg colour]
  rfl

/-- What counts a tier leaves of what a request meets. -/
theorem offeredIn_offered (only : v.path.asks = [q]) (credit : v.hasCredit q = true) :
    ∃ b, Offered q v b (v.offeredIn q c) := by
  unfold State.offeredIn
  extract_lets o t u w
  have counted : Offered q v q u := by
    unfold u
    split
    · exact ⟨only, ⟨q.tier, q.rank, q.overBudget, rfl⟩, aside_bump v 7 (high_regIdx _), rfl,
        (hasCredit_setOb v q _ _ (.inl rfl)).trans credit⟩
    · exact ⟨only, ⟨q.tier, q.rank, q.overBudget, rfl⟩, .refl v, rfl, credit⟩
  have ranked : Offered q v { q with tier := t, rank := u.rankOf q c o, overBudget := o } w :=
    ⟨modAsk_only counted.only _, ⟨t, _, o, rfl⟩, counted.aside.trans (aside_setPath _ _), counted.tides,
      (hasCredit_modAsk counted.only t _ o).trans counted.credit⟩
  refine ⟨{ q with tier := t, rank := u.rankOf q c o, overBudget := o }, ?_⟩
  split
  · next p port =>
    unfold State.peak
    split
    · obtain ⟨only, like, aside, tides, credit⟩ := ranked
      exact ⟨only, like, aside.trans (aside_setOb w _ _ (high_rtIdx p)), tides, (hasCredit_setOb w _ _ _ (.inr rfl)).trans credit⟩
    · exact ranked
  · exact ranked

end

/-- A request that its port may send, come while no other stands, is offered where this node owns its line (R215 to R217). -/
theorem arrive_offers {s : State} {k : Ask} {side : Side} {a : Nat} {op : Op} (request : k = s.req side a op) (own : k.own = true)
    (runs : s.power.node = .ready ∨ s.power.node = .run) (alone : s.path.asks = []) (allowed : portDenied k (endChain k s) = false)
    (free : (endChain k s).chained k = false) (mine : k.owner = s.me) : arrive side a op s = offerAsk k (endChain k s) := by
  subst request
  have runs : ¬ (decide (s.power.node = .off) || decide (s.power.node = .halted)) = true := by
    rcases runs with node | node <;> rw [node] <;> decide
  have first : ¬ s.duplicate (s.req side a op) = true := by simp [State.duplicate, alone]
  have room : ¬ offerSize side.port ≤ s.offersOf (s.req side a op) := by
    have none_ : s.offersOf (s.req side a op) = 0 := by simp [State.offersOf, alone]
    rw [none_]
    cases side.port <;> simp [offerSize]
  unfold arrive
  extract_lets _ q here t
  have own : here = true := own
  refine (if_neg runs).trans ((if_neg first).trans ((if_neg room).trans ?_))
  refine (if_neg ?_).trans ((if_neg ?_).trans ((if_neg ?_).trans (if_neg ?_)))
  · exact fun both => Bool.false_ne_true (allowed.symm.trans (Bool.and_eq_true_iff.mp both).2)
  · rw [own]
    exact Bool.false_ne_true
  · exact fun both => Bool.false_ne_true (free.symm.trans (Bool.and_eq_true_iff.mp both).2)
  · exact fun both => bne_iff_ne.mp (Bool.and_eq_true_iff.mp both).2 mine

/-- A request that is admitted is served as it stands alone and offered, and nothing else is done. -/
theorem arrive_admits {s : State} {k : Ask} {side : Side} {a : Nat} {op : Op} (request : k = s.req side a op)
    (admitted : s.admits k = true) : ∃ b w, Offered k s b w ∧ arrive side a op s = serveAsk b.id w := by
  obtain ⟨own, runs, alone, idle, allowed, free, mine, v, passes, widens, open_, colour, credit⟩ := State.admits_facts admitted
  obtain rfl := step5_pass own passes
  generalize stood : addAsk k (settleShaper k.side.cls (endChain k s)) = v at passes widens open_ colour credit
  have settled : Aside s (settleShaper k.side.cls (endChain k s)) := (aside_setPath s _).trans (aside_settleShaper _ _)
  have aside : Aside s v := stood ▸ settled.trans (aside_setPath _ _)
  have path : (settleShaper k.side.cls (endChain k s)).path.asks = s.path.asks ∧
      (settleShaper k.side.cls (endChain k s)).path.tides = s.path.tides := by
    unfold settleShaper setShaper
    split <;> exact ⟨rfl, rfl⟩
  have only : v.path.asks = [k] := by
    rw [← stood]
    show (settleShaper k.side.cls (endChain k s)).path.asks ++ [k] = [k]
    rw [path.1, alone, List.nil_append]
  have metered : (meterAsk k v).2.path.asks = v.path.asks ∧ (meterAsk k v).2.path.tides = v.path.tides := by
    unfold meterAsk
    extract_lets
    split <;> exact ⟨rfl, rfl⟩
  obtain ⟨b, offered⟩ := offeredIn_offered (c := (meterAsk k v).1) (metered.1.trans only) credit
  have placed : Aside s ((meterAsk k v).2.offeredIn k (meterAsk k v).1) := (aside.trans (aside_meterAsk k v)).trans offered.aside
  refine ⟨b, _, ⟨offered.only, offered.like, placed, ?_, offered.credit⟩, ?_⟩
  · rw [offered.tides, metered.2, ← stood]
    exact path.2
  · have taken := arrive_offers request own runs alone allowed free mine
    rw [taken, offerAsk_offeredIn own (stood ▸ passes) widens open_ colour, serveAll, drainFar_idle, offered.only]
    · rfl
    · rw [placed.far, idle]

section
variable {k b : Ask} {s w : State}

/-! ### What an offered request is -/

theorem Offered.id (offered : Offered k s b w) : b.id = k.id := by
  obtain ⟨t, r, o, rfl⟩ := offered.like
  rfl

theorem Offered.ask? (offered : Offered k s b w) : w.ask? b.id = some b := ask?_of_only offered.only

theorem Offered.op (offered : Offered k s b w) : b.op = k.op := by
  obtain ⟨t, r, o, rfl⟩ := offered.like
  rfl

theorem Offered.addr (offered : Offered k s b w) : b.addr = k.addr := by
  obtain ⟨t, r, o, rfl⟩ := offered.like
  rfl

theorem Offered.side (offered : Offered k s b w) : b.side = k.side := by
  obtain ⟨t, r, o, rfl⟩ := offered.like
  rfl

theorem Offered.own (offered : Offered k s b w) (own : k.own = true) : b.own = true := by
  obtain ⟨t, r, o, rfl⟩ := offered.like
  exact own

section
variable {side : Side} {a : Nat} {op : Op} (offered : Offered (s.req side a op) s b w)
include offered

theorem Offered.stage : b.stage = .offered := by
  obtain ⟨t, r, o, rfl⟩ := offered.like
  rfl

theorem Offered.applied : b.applied = none := by
  obtain ⟨t, r, o, rfl⟩ := offered.like
  rfl

theorem Offered.journal : b.journal = false := by
  obtain ⟨t, r, o, rfl⟩ := offered.like
  rfl

theorem Offered.here : (b.fwd != 0 || b.stage == .finished) = false := by
  obtain ⟨t, r, o, rfl⟩ := offered.like
  rfl

/-- The settings are those the request came with, so it is not checked again (R219). -/
theorem Offered.recheck : recheck b w = (true, w) := by
  have settings : b.tides = w.path.tides := by
    obtain ⟨t, r, o, rfl⟩ := offered.like
    exact offered.tides.symm
  exact if_pos settings

/-- Its acceptance, and what goes on from there. -/
theorem Offered.acceptOr {confirmed : Bool} {f : State → State} (own : b.own = true) :
    acceptOr b.id confirmed f w = f (acceptAsk b.id confirmed w) :=
  acceptOr_own offered.only offered.stage own offered.journal

end

/-! ### Requests of the slices and of the synchronisation objects -/

theorem countGrant_asks (q : Ask) (credit : Int) (s : State) : (countGrant q credit s).path.asks = s.path.asks := by
  unfold countGrant setShaper
  dsimp only
  split <;> split <;> rfl

/-- What serving an offered request leaves is what its operation leaves, but for the count of its grant. -/
theorem serveSliced_offered {side : Side} {a : Nat} {op : Op} (offered : Offered (s.req side a op) s b w) (f : State → State) :
    (serveSliced b f w).path.asks = (f w).path.asks ∧ (serveSliced b f w).cache = (f w).cache ∧
      (serveSliced b f w).syncs = (f w).syncs := by
  unfold serveSliced
  rw [if_neg (by simp [offered.stage]), if_neg (by simp [inTurn_only offered.only, offered.credit]), offered.recheck]
  dsimp only
  split
  · split
    · exact ⟨countGrant_asks _ _ _, (countGrant_fr (.refl 262208 (f w))).cache (by decide),
        (countGrant_fr (.refl 262208 (f w))).syncs (by decide)⟩
    · exact ⟨rfl, rfl, rfl⟩
  · exact ⟨rfl, rfl, rfl⟩

end

/-- An own port's request that is admitted for a slice or for a synchronisation object: what its operation leaves is what stands after the
command. -/
theorem arrive_sliced {s : State} {side : Side} {a : Nat} {op : Op} {f : Nat → State → State} (admitted : s.admits (s.req side a op) = true)
    (serves : ∀ b w, b.op = op → w.ask? b.id = some b → (b.fwd != 0 || b.stage == .finished) = false →
      serveAsk b.id w = serveSliced b (f b.id) w) :
    ∃ b w, Offered (s.req side a op) s b w ∧ b.own = true ∧ (arrive side a op s).path.asks = (f b.id w).path.asks ∧
      (arrive side a op s).cache = (f b.id w).cache ∧ (arrive side a op s).syncs = (f b.id w).syncs := by
  obtain ⟨b, w, offered, serve⟩ := arrive_admits rfl admitted
  rw [serve, serves b w offered.op offered.ask? offered.here]
  exact ⟨b, w, offered, offered.own (State.admits_facts admitted).1, serveSliced_offered offered _⟩

section
variable {b : Ask} {w : State} (there : w.ask? b.id = some b) (here : (b.fwd != 0 || b.stage == .finished) = false)
include there here

theorem serveAsk_atomic {f o : Nat} {wide fetch : Bool} {x y : Nat} (op : b.op = .atomic f o wide fetch x y) :
    serveAsk b.id w = serveSliced b (serveAtomic b.id) w := by
  simp only [serveAsk, there, here, op, Bool.false_eq_true, if_false]

theorem serveAsk_reduce {r : RedWord} {d : Nat} (op : b.op = .reduce r d) : serveAsk b.id w = serveSliced b (serveReduce b.id) w := by
  simp only [serveAsk, there, here, op, Bool.false_eq_true, if_false]

theorem serveAsk_sync {f o x : Nat} (op : b.op = .sync f o x) : serveAsk b.id w = serveSliced b (serveSync b.id) w := by
  simp only [serveAsk, there, here, op, Bool.false_eq_true, if_false]

end

end Sys2Proof.Machine


/-!
PROOF. The results of atomics, reductions and synchronisation additions (R163, R164, R168, R175), and the settling of O44.
-/
namespace Sys2Proof.Machine

-- One proof after another, each on a stack of its own, for the check's memory.
set_option Elab.async false

/-! ### Functions on machine words -/

theorem signed_eq_toInt {w : Nat} (pos : 0 < w) (n : Nat) : signed w n = (BitVec.ofNat w n).toInt := by
  have half : 2 ^ w = 2 * 2 ^ (w - 1) := by rw [← pow_succ', Nat.sub_add_cancel pos]
  rw [signed, BitVec.toInt_eq_toNat_cond, BitVec.toNat_ofNat]
  refine if_congr ?_ rfl rfl
  omega

theorem toInt_ite_lt {w : Nat} (pos : 0 < w) (x y : Nat) :
    (BitVec.ofNat w (if signed w x < signed w y then y else x)).toInt = max (BitVec.ofNat w x).toInt (BitVec.ofNat w y).toInt := by
  rw [signed_eq_toInt pos, signed_eq_toInt pos]
  split
  · next less => exact (max_eq_right less.le).symm
  · next more => exact (max_eq_left (not_lt.mp more)).symm

theorem toInt_ite_gt {w : Nat} (pos : 0 < w) (x y : Nat) :
    (BitVec.ofNat w (if signed w y < signed w x then y else x)).toInt = min (BitVec.ofNat w x).toInt (BitVec.ofNat w y).toInt := by
  rw [signed_eq_toInt pos, signed_eq_toInt pos]
  split
  · next less => exact (min_eq_right less.le).symm
  · next more => exact (min_eq_left (not_lt.mp more)).symm

theorem atomicFn_results {w m a b : Nat} (pos : 0 < w) (hm : m < 2 ^ w) (ha : a < 2 ^ w) (hb : b < 2 ^ w) :
    atomicFn 0 w m a b = a ∧ atomicFn 1 w m a b = (if m = a then b else m) ∧
    atomicFn 2 w m a b = (BitVec.ofNat w m + BitVec.ofNat w a).toNat ∧
    atomicFn 3 w m a b = (BitVec.ofNat w m &&& BitVec.ofNat w a).toNat ∧
    atomicFn 4 w m a b = (BitVec.ofNat w m ||| BitVec.ofNat w a).toNat ∧
    atomicFn 5 w m a b = (BitVec.ofNat w m ^^^ BitVec.ofNat w a).toNat ∧
    (BitVec.ofNat w (atomicFn 6 w m a b)).toInt = min (BitVec.ofNat w m).toInt (BitVec.ofNat w a).toInt ∧
    (BitVec.ofNat w (atomicFn 7 w m a b)).toInt = max (BitVec.ofNat w m).toInt (BitVec.ofNat w a).toInt ∧
    atomicFn 8 w m a b = min m a ∧ atomicFn 9 w m a b = max m a ∧
    atomicFn 13 w m a b = (if a ≤ m then 0 else m + 1) ∧ atomicFn 14 w m a b = m := by
  simp only [atomicFn, Nat.mod_eq_of_lt ha, Nat.mod_eq_of_lt hb, BitVec.toNat_add, BitVec.toNat_and, BitVec.toNat_or, BitVec.toNat_xor,
    BitVec.toNat_ofNat, Nat.mod_eq_of_lt hm, toInt_ite_lt pos, toInt_ite_gt pos, and_self]

/-! ### Fields of a line -/

theorem withField_eq (d o w v : Nat) :
    withField d o w v = 2 ^ (8 * o) * (2 ^ w * (d / 2 ^ (8 * o) / 2 ^ w) + v) + d % 2 ^ (8 * o) := by
  have parts : d = fieldAt d o w * 2 ^ (8 * o) + (2 ^ (8 * o) * (2 ^ w * (d / 2 ^ (8 * o) / 2 ^ w)) + d % 2 ^ (8 * o)) := by
    have low := Nat.div_add_mod d (2 ^ (8 * o))
    rw [← Nat.div_add_mod (d / 2 ^ (8 * o)) (2 ^ w)] at low
    rw [fieldAt]
    linarith
  rw [withField, Nat.mul_add, Nat.mul_comm _ v]
  omega

theorem testBit_withField {w v : Nat} (fits : v < 2 ^ w) (d o j : Nat) :
    (withField d o w v).testBit j = if 8 * o ≤ j ∧ j < 8 * o + w then v.testBit (j - 8 * o) else d.testBit j := by
  rw [withField_eq, Nat.testBit_two_pow_mul_add _ (Nat.mod_lt _ (by positivity)), Nat.testBit_two_pow_mul_add _ fits, Nat.testBit_mod_two_pow,
    Nat.testBit_div_two_pow, Nat.testBit_div_two_pow]
  by_cases low : j < 8 * o
  · rw [if_pos low, if_neg (by omega), decide_eq_true low, Bool.true_and]
  · by_cases field : j - 8 * o < w
    · rw [if_neg low, if_pos field, if_pos (by omega)]
    · rw [if_neg low, if_neg field, if_neg (by omega)]
      congr 1
      omega

theorem testBit_fieldAt (d o w i : Nat) : (fieldAt d o w).testBit i = (decide (i < w) && d.testBit (8 * o + i)) := by
  rw [fieldAt, Nat.testBit_mod_two_pow, Nat.testBit_div_two_pow, Nat.add_comm i]

theorem fieldAt_withField_same {w v : Nat} (fits : v < 2 ^ w) (d o : Nat) : fieldAt (withField d o w v) o w = v := by
  refine Nat.eq_of_testBit_eq fun i => ?_
  rw [testBit_fieldAt, testBit_withField fits]
  by_cases field : i < w
  · rw [if_pos (by omega), decide_eq_true field, Bool.true_and, Nat.add_sub_cancel_left]
  · rw [decide_eq_false field, Bool.false_and]
    exact (Nat.testBit_lt_two_pow (fits.trans_le (Nat.pow_le_pow_right (by decide) (not_lt.mp field)))).symm

theorem fieldAt_withField_other {w v o p n : Nat} (fits : v < 2 ^ w) (apart : 8 * p + n ≤ 8 * o ∨ 8 * o + w ≤ 8 * p) (d : Nat) :
    fieldAt (withField d o w v) p n = fieldAt d p n := by
  refine Nat.eq_of_testBit_eq fun i => ?_
  rw [testBit_fieldAt, testBit_fieldAt, testBit_withField fits]
  by_cases field : i < n
  · rw [if_neg (by omega)]
  · rw [decide_eq_false field, Bool.false_and, Bool.false_and]

/-! ### Reductions of integers -/

theorem combine_integers {w : RedWord} {acc c : Nat} (integer : w.type = 3) (hc : c < 2 ^ 32) :
    (w.function = 0 → combine w acc c = (BitVec.ofNat 32 acc + BitVec.ofNat 32 c).toNat) ∧
    (w.function = 1 → (BitVec.ofNat 32 (combine w acc c)).toInt = max (BitVec.ofNat 32 acc).toInt (BitVec.ofNat 32 c).toInt) ∧
    (w.function = 2 → (BitVec.ofNat 32 (combine w acc c)).toInt = min (BitVec.ofNat 32 acc).toInt (BitVec.ofNat 32 c).toInt) ∧
    combine w (redIdentity w) c = c ∨ 2 < w.function := by
  by_cases defined : w.function ≤ 2
  · refine .inl ⟨fun sum => ?_, fun most => ?_, fun least => ?_, ?_⟩
    · simp [combine, integer, sum]
    · simp only [combine, integer, most, if_true, toInt_ite_lt (w := 32) (by decide)]
    · simp only [combine, integer, least, if_true, toInt_ite_gt (w := 32) (by decide)]
    · have each : w.function = 0 ∨ w.function = 1 ∨ w.function = 2 := by omega
      rcases each with sum | most | least
      · simp only [combine, redIdentity, integer, sum, if_true, Nat.zero_add, Nat.mod_eq_of_lt hc]
      · simp only [combine, redIdentity, integer, most, if_true, signed]
        split_ifs <;> omega
      · simp only [combine, redIdentity, integer, least, if_true, signed]
        split_ifs <;> omega
  · exact .inr (not_le.mp defined)

/-! ### Additions to synchronisation objects -/

theorem setBit_true_eq (i n : Nat) : setBit i true n = if n / 2 ^ i % 2 = 1 then n else n + 2 ^ i := by
  unfold setBit
  rw [Nat.testBit_eq_decide_div_mod_eq]
  by_cases set_ : n / 2 ^ i % 2 = 1 <;> simp [set_]

theorem addSync_results {v n : Nat} (fits : n < 2 ^ 32) : syncValue (addSync v n) = min (syncValue v + n) (2 ^ 32 - 1) ∧
    (2 ^ 32 ≤ syncValue v + n → (addSync v n).testBit 32 = true) ∧ (addSync v n).testBit 33 = v.testBit 33 := by
  simp only [addSync, syncValue, Nat.testBit_eq_decide_div_mod_eq, setBit_true_eq, decide_eq_true_eq, decide_eq_decide]
  split_ifs <;> omega

/-! ### Ways of the cache -/

section
variable {s : State} {k n : Nat} {w : CWay}

theorem way_setWay_same (s : State) (k : Nat) (w : CWay) : (s.setWay k (some w)).way k = some w :=
  look_put_of_ne (by simp) k s.cache.ways

theorem way_setWay_other (s : State) {j k : Nat} (w : Option CWay) (other : j ≠ k) : (s.setWay k w).way j = s.way j :=
  look_put_ne s.cache.ways other

theorem touch_way (there : s.way k = some w) : (touch k s).way k = some { w with used := s.cache.use + 1 } := by
  unfold touch
  rw [there]
  exact way_setWay_same _ k _

theorem mem_setKeys {p y : Nat} (small : y < 2048) (mem : n ∈ setKeys p y) : n / 32768 = p := by
  obtain ⟨i, range, rfl⟩ := List.mem_map.mp mem
  have := List.mem_range.mp range
  unfold wayKey
  omega

theorem setOf_lt (a : Nat) : setOf a < 2048 := Nat.mod_lt _ (by decide)

theorem findWay_some {p line : Nat} {f : WayKind → Bool} (found : s.findWay p line f = some (n, w)) :
    s.way n = some w ∧ n / 32768 = p ∧ f w.kind = true := by
  obtain ⟨i, mem, here⟩ := List.exists_of_findSome?_eq_some found
  split at here
  · next v there =>
    split at here
    · next on =>
      obtain ⟨rfl, rfl⟩ := Prod.mk.inj (Option.some.inj here)
      exact ⟨there, mem_setKeys (setOf_lt _) mem, (Bool.and_eq_true_iff.mp on).2⟩
    · cases here
  · cases here

theorem way_of_cached {a : Nat} (hit : s.cached a = some (n, w)) : s.way n = some w := by
  unfold State.cached at hit
  split at hit
  · exact (findWay_some hit).1
  · cases hit

/-- A line of a slice that is in service with its partner stands in its own array. -/
theorem array_of_cached {a : Nat} (pair : s.mirrored (sliceOf a) = true) (hit : s.cached a = some (n, w)) : n / 32768 = sliceOf a := by
  have up : s.sliceState (sliceOf a) = 0 := by simpa using (Bool.and_eq_true_iff.mp pair).1
  unfold State.cached State.serving at hit
  rw [up] at hit
  exact (findWay_some hit).2.1

theorem partnerOf_ne (x : Nat) : partnerOf x ≠ x := by
  intro same
  have eight := congrArg (x ^^^ ·) same
  simp [partnerOf] at eight

theorem mem_of_leastWay {f : CWay → Nat} {l : List (Nat × CWay)} {q : Nat × CWay} (least : leastWay f l = some q) : q ∈ l := by
  have run (b : Option (Nat × CWay)) (fold : l.foldl (fun b p => match b with
      | some q => if f p.2 < f q.2 then some p else some q
      | none => some p) b = some q) : q ∈ l ∨ b = some q := by
    clear least
    induction l generalizing b with
    | nil => exact .inr fold
    | cons p l ih =>
      rcases ih _ fold with later | now
      · exact .inl (List.mem_cons_of_mem p later)
      · beta_reduce at now
        split at now
        · split at now
          · exact .inl (Option.some.inj now ▸ List.mem_cons_self)
          · exact .inr now
        · exact .inl (Option.some.inj now ▸ List.mem_cons_self)
  exact (run none least).resolve_right (by simp)

theorem victim_array {p y mask j : Nat} (small : y < 2048) (found : s.victim p y mask = .way j) : j / 32768 = p := by
  have key {j : Nat} (mem : j ∈ (List.range 16).filterMap fun w => if mask.testBit w then some (wayKey p y w) else none) :
      j / 32768 = p := by
    obtain ⟨i, range, here⟩ := List.mem_filterMap.mp mem
    split at here
    · exact mem_setKeys small (List.mem_map.mpr ⟨i, range, Option.some.inj here⟩)
    · cases here
  unfold State.victim at found
  extract_lets ks ways at found
  split at found
  · next j free =>
    cases found
    exact key (List.mem_of_find?_eq_some free)
  · have way {q : Nat × CWay} {kind : WayKind} {f : CWay → Nat}
        (least : leastWay f (ways.filter fun q => q.2.kind == kind) = some q) : q.1 / 32768 = p := by
      obtain ⟨l, mem, there⟩ := List.mem_filterMap.mp (List.mem_filter.mp (mem_of_leastWay least)).1
      obtain ⟨w, -, rfl⟩ := Option.map_eq_some_iff.mp there
      exact key mem
    split at found
    · next q least =>
      cases found
      exact way least
    · split at found <;> cases found

/-- A mirror line stands in the partner's array. -/
theorem mirrorLine_way {a : Nat} (array : n / 32768 = sliceOf a) (m : CWay) (s : State) : (mirrorLine a m s).way n = s.way n := by
  have other {j : Nat} (away : j / 32768 = partnerOf (sliceOf a)) : n ≠ j := by
    rintro rfl
    exact partnerOf_ne _ (away.symm.trans array)
  unfold mirrorLine
  dsimp only
  split
  · rfl
  · split
    · next q found => exact way_setWay_other _ _ (other (findWay_some found).2.1)
    · split
      · next j found => exact way_setWay_other _ _ (other (victim_array (setOf_lt _) found))
      · rfl

end

/-! ### An atomic on its line -/

/-- The slices are in the states they were in. -/
def SameSlices (s t : State) : Prop := ∀ x, t.sliceState x = s.sliceState x

theorem SameSlices.mirrored {s t : State} (same : SameSlices s t) (x : Nat) : t.mirrored x = s.mirrored x := by
  rw [State.mirrored, State.mirrored, same, same]

theorem sameSlices_setOb (s : State) (i v : Nat) {a : Nat} (beside : a ≠ 1) (small : a < 256) : SameSlices s (s.setOb i a v) :=
  fun _ => State.ob_setOb_sub s beside.symm small

theorem sameSlices_of_obj {s t : State} (same : t.obj = s.obj) : SameSlices s t := fun x => by
  rw [State.sliceState, State.ob, same]
  rfl

theorem sameSlices_countIf (s : State) (b n : Nat) (c : Cause) {j : Nat} (small : j < 240) : SameSlices s (countIf b j n c s) := by
  unfold countIf count
  split
  · split
    · exact fun _ => rfl
    · exact sameSlices_setOb s _ _ (by omega) (by omega)
  · exact fun _ => rfl

theorem SameSlices.trans {s t u : State} (st : SameSlices s t) (tu : SameSlices t u) : SameSlices s u := fun x => (tu x).trans (st x)

section
variable {s : State} {q c : Ask} {k : Nat} {w : CWay} {f o x y : Nat} {wide fetch : Bool}
variable (only : s.path.asks = [c]) (same : q.id = c.id) (open_ : c.stage ≠ .finished) (own : c.own = true) (there : s.way k = some w)
include only same open_ own there

/-- READ answers its field and leaves the line. -/
theorem applyAtomic_read : (applyAtomic q k w 14 o wide fetch x y s).path.asks = [{ c with
      applied := some (fieldAt w.data o (if wide then 64 else 32)), stage := .finished
      result := some (St.ok, some (fieldAt w.data o (if wide then 64 else 32))) }] ∧
    ((applyAtomic q k w 14 o wide fetch x y s).way k).map CWay.data = some w.data := by
  unfold applyAtomic
  extract_lets n old u data w' v z
  have data_ : data = some old := if_pos (by simp)
  have kept : Fr 64 s u := countIf_fr (State.bump_fr (.refl 64 s))
  have hold : (touch k u).way k = some { w with used := u.cache.use + 1 } :=
    touch_way ((congrArg (look none k) (congrArg Cache.ways (kept.cache (by decide)))).trans there)
  rw [if_pos rfl, data_, same]
  refine ⟨applyAsk_own ((congrArg Path.asks (kept.path (by decide))).trans only) open_ own, ?_⟩
  have cache : (applyAsk c.id old (some old) (touch k u)).cache = (touch k u).cache :=
    (applyAsk_fr (.refl 67371328 (touch k u))).cache (by decide)
  rw [State.way, cache]
  exact congrArg (Option.map CWay.data) hold

omit there in
/-- Any other function writes its field of the line, and answers the old one where it is asked for (R163). -/
theorem applyAtomic_write (writes : f < 14) (pair : s.mirrored (sliceOf q.addr) = true) (array : k / 32768 = sliceOf q.addr) :
    (applyAtomic q k w f o wide fetch x y s).path.asks = [{ c with
      applied := some (fieldAt w.data o (if wide then 64 else 32)), stage := .finished
      result := some (St.ok, if fetch then some (fieldAt w.data o (if wide then 64 else 32)) else none) }] ∧
    ((applyAtomic q k w f o wide fetch x y s).way k).map CWay.data = some (withField w.data o (if wide then 64 else 32)
      (atomicFn f (if wide then 64 else 32) (fieldAt w.data o (if wide then 64 else 32)) x y)) := by
  have reads : f ≠ 14 := by omega
  unfold applyAtomic
  extract_lets n old u data w' v z
  have data_ : data = if fetch then some old else none := by simp [data, reads]
  have kept : Fr 524352 s z := syncDirty_fr (mirrorLine_fr (touch_fr (State.setWay_fr (countIf_fr (State.bump_fr (.refl 524352 s))))))
  have slices : SameSlices s z :=
    ((sameSlices_setOb s _ _ (by decide) (by decide)).trans (sameSlices_countIf _ _ _ _ (by decide))).trans
      ((sameSlices_of_obj ((mirrorLine_fr (touch_fr (State.setWay_fr (.refl 524288 u)))).obj (by decide))).trans
        (sameSlices_setOb _ _ _ (by decide) (by decide)))
  have hold : z.way k = some { w' with used := (u.setWay k (some w')).cache.use + 1 } :=
    (mirrorLine_way array w' _).trans (touch_way (way_setWay_same u k w'))
  rw [if_neg reads, slices.mirrored, pair, if_pos rfl, data_, same]
  refine ⟨applyAsk_own ((congrArg Path.asks (kept.path (by decide))).trans only) open_ own, ?_⟩
  have cache : (applyAsk c.id old (if fetch then some old else none) z).cache = z.cache :=
    (applyAsk_fr (.refl 67371328 z)).cache (by decide)
  rw [State.way, cache]
  exact congrArg (Option.map CWay.data) hold

end

/-! ### An atomic that is admitted -/

section
variable {s w : State} {b : Ask} {side : Side} {a f o x y : Nat} {wide fetch : Bool}

/-- An atomic whose line is this node's and in service is accepted and goes on. -/
theorem serveAtomic_offered (offered : Offered (s.req side a (.atomic f o wide fetch x y)) s b w) (own : b.own = true)
    (allowed : atomicDenied f o wide a = false) (free : s.redOn a = none) (held : s.sliceState (sliceOf a) ≠ 1)
    (out : s.sliceState (sliceOf a) ≠ 4) :
    serveAtomic b.id w = tryAtomic b f o wide fetch x y (acceptAsk b.id true w) := by
  have addr : b.addr = a := offered.addr
  have op : b.op = .atomic f o wide fetch x y := offered.op
  have slice : w.sliceState (sliceOf a) = s.sliceState (sliceOf a) := offered.aside.sliceState (sliceOf_lt a)
  unfold serveAtomic
  simp only [offered.ask?, op, addr, slice, offered.aside.redOn, free, offered.stage, offered.applied, allowed, Option.isSome_none,
    Bool.and_false, Bool.false_eq_true, if_false, if_neg held, if_neg out, Bool.or_false]
  exact offered.acceptOr own

theorem lineBusy_only {s : State} {q c : Ask} (only : s.path.asks = [c]) (same : q.id = c.id) : s.lineBusy q = false := by
  rw [State.lineBusy, same, earlierAsks_only only]
  rfl

/-- What stands once the request is accepted: it alone, and all that `Aside` names as it was before the command. -/
theorem Offered.accepted {k : Ask} (offered : Offered k s b w) (own : b.own = true) :
    ∃ c, (acceptAsk b.id true w).path.asks = [c] ∧ c.id = k.id ∧ c.stage = .accepted ∧ c.journal = true ∧ c.own = true ∧
      Aside s (acceptAsk b.id true w) := by
  refine ⟨_, acceptAsk_own offered.only own, offered.id, rfl, rfl, own, offered.aside.trans (aside_acceptAsk _ _ w)⟩

end

section
variable {s : State} {side : Side} {a f o x y : Nat} {wide fetch : Bool}
variable (admitted : s.admits (s.req side a (.atomic f o wide fetch x y)) = true) (allowed : atomicDenied f o wide a = false)
  (free : s.redOn a = none) (held : s.sliceState (sliceOf a) ≠ 1) (out : s.sliceState (sliceOf a) ≠ 4)
include admitted allowed free held out

/-- An atomic that is admitted stands accepted, and what its operation then does is what stands after the command. -/
theorem arrive_atomic : ∃ b c v, b.id = c.id ∧ b.addr = a ∧ v.path.asks = [c] ∧ c.id = (s.req side a (.atomic f o wide fetch x y)).id ∧
    c.stage = .accepted ∧ c.journal = true ∧ c.own = true ∧ Aside s v ∧
    (arrive side a (.atomic f o wide fetch x y) s).path.asks = (tryAtomic b f o wide fetch x y v).path.asks ∧
    (arrive side a (.atomic f o wide fetch x y) s).cache = (tryAtomic b f o wide fetch x y v).cache := by
  obtain ⟨b, w, offered, own, asks, cache, -⟩ :=
    arrive_sliced (f := serveAtomic) admitted fun b w op there here => serveAsk_atomic there here op
  rw [serveAtomic_offered offered own allowed free held out] at asks cache
  obtain ⟨c, only, id, stage, journal, own', aside⟩ := offered.accepted own
  exact ⟨b, c, _, offered.id.trans id.symm, offered.addr, only, id, stage, journal, own', aside, asks, cache⟩

/-- Without a copy of its line it waits for its fill (R164). -/
theorem atomic_waits (other : f ≠ 15) (absent : s.cached a = none) :
    (arrive side a (.atomic f o wide fetch x y) s).accepts (s.req side a (.atomic f o wide fetch x y)).id := by
  obtain ⟨b, c, v, same, addr, only, id, stage, journal, -, aside, asks, -⟩ := arrive_atomic admitted allowed free held out
  have stays : tryAtomic b f o wide fetch x y v = v := by
    unfold tryAtomic
    rw [lineBusy_only only same, if_neg Bool.false_ne_true, if_neg other, addr, aside.cached, absent]
  rw [stays, only] at asks
  exact ⟨c, id ▸ ask?_of_only asks, stage, journal⟩

variable {n : Nat} {w : CWay}

theorem atomic_writes (writes : f < 14) (pair : s.mirrored (sliceOf a) = true) (hit : s.cached a = some (n, w))
    (clean : w.info.testBit 11 = false) (room : s.dirtyLimit a w = none) :
    (arrive side a (.atomic f o wide fetch x y) s).ends (s.req side a (.atomic f o wide fetch x y)).id
      (St.ok, if fetch then some (fieldAt w.data o (if wide then 64 else 32)) else none) ∧
    ((arrive side a (.atomic f o wide fetch x y) s).way n).map CWay.data = some (withField w.data o (if wide then 64 else 32)
      (atomicFn f (if wide then 64 else 32) (fieldAt w.data o (if wide then 64 else 32)) x y)) := by
  obtain ⟨b, c, v, same, addr, only, id, stage, -, own, aside, asks, cache⟩ := arrive_atomic admitted allowed free held out
  have goes : tryAtomic b f o wide fetch x y v = applyAtomic b n w f o wide fetch x y v := by
    unfold tryAtomic
    rw [lineBusy_only only same, if_neg Bool.false_ne_true, if_neg (by omega), addr, aside.cached, hit]
    dsimp only
    rw [clean, if_neg Bool.false_ne_true, if_neg (by omega), aside.dirtyLimit, room]
  obtain ⟨done, line⟩ := applyAtomic_write (s := v) (q := b) (k := n) (w := w) (f := f) (o := o) (x := x) (y := y) (wide := wide)
    (fetch := fetch) only same (by rw [stage]; decide) own writes (by rwa [addr, aside.mirrored]) (by rw [addr]; exact array_of_cached pair hit)
  rw [goes] at asks cache
  refine ⟨⟨_, id ▸ ask?_of_only (asks.trans done), rfl, rfl⟩, ?_⟩
  rw [State.way, cache]
  exact line

end

/-- READ answers its field at once, and FLUSH of a line that is not dirty is over at once (R164). -/
theorem atomic_reads {s : State} {side : Side} {a o : Nat} {wide : Bool} {n : Nat} {w : CWay}
    (admitted : s.admits (s.req side a (.atomic 14 o wide true 0 0)) = true) (allowed : atomicDenied 14 o wide a = false)
    (free : s.redOn a = none) (held : s.sliceState (sliceOf a) ≠ 1) (out : s.sliceState (sliceOf a) ≠ 4)
    (hit : s.cached a = some (n, w)) (clean : w.info.testBit 11 = false) :
    (arrive side a (.atomic 14 o wide true 0 0) s).ends (s.req side a (.atomic 14 o wide true 0 0)).id
      (St.ok, some (fieldAt w.data o (if wide then 64 else 32))) ∧
    ((arrive side a (.atomic 14 o wide true 0 0) s).way n).map CWay.data = some w.data := by
  obtain ⟨b, c, v, same, addr, only, id, stage, -, own, aside, asks, cache⟩ := arrive_atomic admitted allowed free held out
  have goes : tryAtomic b 14 o wide true 0 0 v = applyAtomic b n w 14 o wide true 0 0 v := by
    unfold tryAtomic
    rw [lineBusy_only only same, if_neg Bool.false_ne_true, if_neg (by decide), addr, aside.cached, hit]
    dsimp only
    rw [clean, if_neg Bool.false_ne_true, if_pos rfl]
  obtain ⟨done, line⟩ := applyAtomic_read (s := v) (q := b) (k := n) (w := w) (o := o) (x := 0) (y := 0) (wide := wide)
    (fetch := true) only same (by rw [stage]; decide) own ((aside.way n).trans (way_of_cached hit))
  rw [goes] at asks cache
  refine ⟨⟨_, id ▸ ask?_of_only (asks.trans done), rfl, rfl⟩, ?_⟩
  rw [State.way, cache]
  exact line

theorem atomic_flushes {s : State} {side : Side} {a o : Nat} {wide : Bool}
    (admitted : s.admits (s.req side a (.atomic 15 o wide false 0 0)) = true) (allowed : atomicDenied 15 o wide a = false)
    (free : s.redOn a = none) (held : s.sliceState (sliceOf a) ≠ 1) (out : s.sliceState (sliceOf a) ≠ 4)
    (clean : ∀ n w, s.cached a = some (n, w) → w.kind ≠ .dirty) :
    (arrive side a (.atomic 15 o wide false 0 0) s).ends (s.req side a (.atomic 15 o wide false 0 0)).id (St.ok, none) := by
  obtain ⟨b, c, v, same, addr, only, id, stage, -, own, aside, asks, -⟩ := arrive_atomic admitted allowed free held out
  have goes : tryAtomic b 15 o wide false 0 0 v = applyAsk c.id 0 none v := by
    unfold tryAtomic serveFlush
    rw [lineBusy_only only same, if_neg Bool.false_ne_true, if_pos rfl, addr, aside.cached, same]
    split
    · next n w hit => rw [if_neg (by simpa using clean n w hit)]
    · rfl
  rw [goes, applyAsk_own only (by rw [stage]; decide) own] at asks
  exact ⟨_, id ▸ ask?_of_only asks, rfl, rfl⟩

/-! ### The settling -/

section
variable {s : State} {q : Side} {a o x y : Nat} {wd f : Bool} (present_ : portPresent q.port s = true) (small : o < 128)
  (hx : x < 2 ^ 64) (hy : y < 2 ^ 64)
include present_ small hx hy

/-- An atomic command offers its request: its function, its field and its operands as they are. -/
theorem atomicRequest_present (g : Nat) : atomicRequest g q a o wd f x y s =
    .next (arrive { q with rsvd := q.rsvd || a % 128 != 0 } (a % 2 ^ 53 / 128 * 128) (.atomic g o wd f x y) s) := by
  unfold atomicRequest lineRequest
  rw [present_, Nat.mod_eq_of_lt small, Nat.mod_eq_of_lt hx, Nat.mod_eq_of_lt hy]
  rfl

theorem exec_atomic_of_mem {i : Instr} {g u v : Nat} {fe : Bool} (mem : (i, g, fe, u, v) ∈ [(Instr.atomicSwap q a o wd f x, 0, f, x, 0),
      (.atomicCas q a o wd f x y, 1, f, x, y), (.atomicAdd q a o wd f x, 2, f, x, 0), (.atomicAnd q a o wd f x, 3, f, x, 0),
      (.atomicOr q a o wd f x, 4, f, x, 0), (.atomicXor q a o wd f x, 5, f, x, 0), (.atomicSmin q a o wd f x, 6, f, x, 0),
      (.atomicSmax q a o wd f x, 7, f, x, 0), (.atomicUmin q a o wd f x, 8, f, x, 0), (.atomicUmax q a o wd f x, 9, f, x, 0),
      (.atomicFadd q a o wd f x, 10, f, x, 0), (.atomicFmin q a o wd f x, 11, f, x, 0), (.atomicFmax q a o wd f x, 12, f, x, 0),
      (.atomicIncwrap q a o wd f x, 13, f, x, 0)]) :
    g < 14 ∧ exec i s =
      .next (arrive { q with rsvd := q.rsvd || a % 128 != 0 } (a % 2 ^ 53 / 128 * 128) (.atomic g o wd fe u v) s) := by
  have one (g : Nat) := atomicRequest_present (a := a) (wd := wd) (f := f) present_ small hx (by decide : 0 < 2 ^ 64) g
  have two := atomicRequest_present (a := a) (wd := wd) (f := f) present_ small hx hy 1
  simp only [List.mem_cons, Prod.mk.injEq, List.not_mem_nil, or_false] at mem
  rcases mem with h | h | h | h | h | h | h | h | h | h | h | h | h | h <;> obtain ⟨rfl, rfl, rfl, rfl, rfl⟩ := h
  case inr.inl => exact ⟨by decide, two⟩
  all_goals exact ⟨by decide, one _⟩

end

/-- Settles O44: the functions by their arithmetic, and the atomics that are admitted by what serving them leaves. -/
theorem operationResults : Obligations.OperationResults := by
  unfold Obligations.OperationResults
  refine ⟨?functions, fun d o w v fits => ⟨fieldAt_withField_same fits d o, fun p n apart => fieldAt_withField_other fits apart d⟩,
    fun w acc c integer _ fits => combine_integers integer fits, fun v n fits => addSync_results fits, ?atomics⟩
  case functions => exact fun w m a b width hm ha hb => atomicFn_results (by omega) hm ha hb
  case atomics =>
    rintro s q r a l o wd f x y rfl rfl small hx hy present_ free held out
    have zero : 0 < 2 ^ 64 := by decide
    refine ⟨?writes, ?reads, ?flushes⟩
    case writes =>
      rintro i g fe u v _ mem rfl admitted allowed
      obtain ⟨writes, goes⟩ := exec_atomic_of_mem present_ small hx hy mem
      exact ⟨fun absent => ⟨_, goes, atomic_waits admitted allowed free held out (by omega) absent⟩,
        fun n w pair hit clean room => ⟨_, goes, atomic_writes admitted allowed free held out writes pair hit clean room⟩⟩
    case reads =>
      rintro _ rfl admitted allowed
      exact ⟨fun absent => ⟨_, atomicRequest_present present_ small zero zero 14,
          atomic_waits admitted allowed free held out (by decide) absent⟩,
        fun n w hit clean => ⟨_, atomicRequest_present present_ small zero zero 14,
          atomic_reads admitted allowed free held out hit clean⟩⟩
    case flushes =>
      rintro _ rfl admitted allowed clean
      exact ⟨_, atomicRequest_present present_ small zero zero 15, atomic_flushes admitted allowed free held out clean⟩

end Sys2Proof.Machine


/-!
PROOF. Reductions and synchronisation objects as contributions, timers and operations move them (R169 to R176), and the settling of O45.
-/
namespace Sys2Proof.Machine

-- One proof after another, each on a stack of its own, for the check's memory.
set_option Elab.async false

/-! ### Contributions in their turn -/

section
variable {s t : State} {a : Nat} {d e : Red}

theorem contribute_none (none_ : s.redOn a = none) : contribute a s = s := by rw [contribute, none_]

theorem contribute_some (there : s.redOn a = some d) (open_ : d.closing = false) (applied : applyAll (d.staged.length + 1) d s = (e, t)) :
    contribute a s = if e.next = redK e.word then beginClose e (t.modRed a fun _ => e) else t.modRed a fun _ => e := by
  simp only [contribute, there, open_, applied, Bool.false_eq_true, if_false]

/-- A reduction with the contribution whose turn it is applied (R170). -/
def Red.applied (d : Red) (acc : List Nat) (c : Nat × Nat × Nat) (now : Nat) : Red :=
  { d with acc := some ((acc.zip (lineElems d.word.type c.2.2)).map fun p => combine d.word p.1 p.2), next := d.next + 1
           staged := d.staged.filter fun x => x.1 != c.1, lastApplied := now }

theorem applyNext_turn {c : Nat × Nat × Nat} {acc : List Nat} (started : d.acc = some acc)
    (turn : (d.staged.find? fun x => x.1 == d.next) = some c) : applyNext d s = some (d.applied acc c s.now,
      applyAsk c.2.1 0 none (countIf (sliceBank (sliceOf d.addr)) 4 1 (s.idCause c.2.1 d.addr) (s.bump (0x2510 + sliceOf d.addr) 5))) := by
  simp only [applyNext, started, turn]
  rfl

theorem applyAll_one {id x : Nat} {acc : List Nat} (started : d.acc = some acc) (staged : d.staged = [(d.next, id, x)]) :
    applyAll (d.staged.length + 1) d s = (d.applied acc (d.next, id, x) s.now,
      applyAsk id 0 none (countIf (sliceBank (sliceOf d.addr)) 4 1 (s.idCause id d.addr) (s.bump (0x2510 + sliceOf d.addr) 5))) := by
  have turn : (d.staged.find? fun x => x.1 == d.next) = some (d.next, id, x) := by simp [staged]
  have last (u : State) : applyNext (d.applied acc (d.next, id, x) s.now) u = none := by simp [applyNext, Red.applied, staged]
  rw [staged]
  show (match applyNext d s with | some (r, u) => applyAll 1 r u | none => (d, s)) = _
  rw [applyNext_turn started turn]
  show (match applyNext (d.applied acc (d.next, id, x) s.now) _ with | some (r, u) => applyAll 0 r u | none => _) = _
  rw [last]

theorem redOn_addr (there : s.redOn a = some d) : d.addr = lineOf a := by simpa using List.find?_some there

theorem redOn_modRed {f : Red → Red} (there : s.redOn a = some d) (addr : ∀ r, r.addr = lineOf a → (f r).addr = lineOf a) :
    (s.modRed a f).redOn a = some (f d) := by
  show (s.cache.reds.map fun r => if r.addr == lineOf a then f r else r).find? (fun r => r.addr == lineOf a) = some (f d)
  have same : ((fun r : Red => r.addr == lineOf a) ∘ fun r => if r.addr == lineOf a then f r else r) = fun r => r.addr == lineOf a := by
    funext r
    by_cases on : r.addr = lineOf a <;> simp [on, addr]
  rw [List.find?_map, same]
  have found : s.cache.reds.find? (fun r => r.addr == lineOf a) = some d := there
  rw [found, Option.map_some, if_pos (by simp [redOn_addr there])]

end

section
variable {s : State} {q : Ask}

theorem State.ends_of_only {t : State} {id : Nat} {r : Nat × Option Nat} (only : t.path.asks = [q]) (same : q.id = id)
    (over_ : q.stage = .finished) (result : q.result = some r) : t.ends id r :=
  ⟨q, same ▸ ask?_of_only only, over_, result⟩

theorem far_idle_of_still (still : s.still = true) : s.far.waiting = [] := by
  unfold State.still at still
  simp only [Bool.and_eq_true, List.isEmpty_iff] at still
  obtain ⟨⟨⟨⟨idle, -⟩, -⟩, -⟩, -⟩ := still
  exact idle

theorem Ask.own_of_tile {p : Nat} (tile : q.side.port = .tile p) : q.own = true := by rw [Ask.own, tile]

theorem open_of_accepted (stage : q.stage = .accepted) : q.stage ≠ .finished := by
  rw [stage]
  decide

/-- The one contribution that is staged is applied, and its request is over (R169, R170). -/
theorem gives_contributionApply {d : Red} {acc : List Nat} {a p x : Nat} (still : s.still = true) (only : s.path.asks = [q])
    (tile : q.side.port = .tile p) (stage : q.stage = .accepted) (there : s.redOn a = some d) (open_ : d.closing = false)
    (started : d.acc = some acc) (staged : d.staged = [(d.next, q.id, x)]) (more : d.next + 1 ≠ redK d.word) :
    Gives (.contributionApply a) s fun t => t.ends q.id (St.ok, none) ∧ t.redOn a = some { d with
      acc := some ((acc.zip (lineElems d.word.type x)).map fun p => combine d.word p.1 p.2), next := d.next + 1, staged := []
      lastApplied := s.now } := by
  let u := countIf (sliceBank (sliceOf d.addr)) 4 1 (s.idCause q.id d.addr) (s.bump (0x2510 + sliceOf d.addr) 5)
  have counted : Fr 64 s u := countIf_fr (State.bump_fr (.refl 64 s))
  let v := applyAsk q.id 0 none u
  have ended : Fr 67371328 u v := applyAsk_fr (.refl _ u)
  let e := d.applied acc (d.next, q.id, x) s.now
  have over_ : (v.modRed a fun _ => e).path.asks =
      [{ q with applied := some 0, stage := .finished, result := some (St.ok, none) }] :=
    applyAsk_own ((congrArg Path.asks (counted.path (by decide))).trans only) (open_of_accepted stage) (Ask.own_of_tile tile)
  have acts : contribute a s = v.modRed a fun _ => e :=
    (contribute_some there open_ (applyAll_one started staged)).trans (if_neg more)
  have red : v.redOn a = some d := by
    rw [← there, State.redOn, State.redOn, ended.cache (by decide), counted.cache (by decide)]
  have far : v.far = s.far := (ended.far (by decide)).trans (counted.far (by decide))
  have idle : (v.modRed a fun _ => e).far.waiting = [] := (congrArg Far.waiting far).trans (far_idle_of_still still)
  have done : serveAll (contribute a s) = v.modRed a fun _ => e := by rw [acts, serveAll_over over_ rfl idle]
  refine ⟨_, congrArg Host.Outcome.next done, State.ends_of_only over_ rfl rfl rfl, ?_⟩
  rw [redOn_modRed (f := fun _ => e) red fun _ _ => (redOn_addr there : d.addr = lineOf a)]
  have none_ : (d.staged.filter fun y => y.1 != d.next) = [] := by simp [staged]
  rw [← none_]
  rfl

end

/-! ### Waits whose time is over -/

section
variable {s : State} {q : Ask} {w : Nat × Nat × Nat}

theorem syncTimeouts_one (one : s.cache.waiters = [w]) (there : s.ask? w.2.2 = some q)
    (late : s.elapsed q.arrived (q.rule * 1000 * nsT) = true) :
    syncTimeouts s = finish w.2.2 St.ok (some (s.syncState w.1)) { s with cache := { s.cache with waiters := [] } } := by
  simp only [syncTimeouts, one, there, late, List.filter_cons, List.filter_nil, if_true, List.contains_cons, beq_self_eq_true,
    Bool.true_or, Bool.not_true, Bool.false_eq_true, if_false]
  rfl

theorem syncTimeouts_none (one : s.cache.waiters = [w]) (there : s.ask? w.2.2 = some q)
    (early : s.elapsed q.arrived (q.rule * 1000 * nsT) = false) : syncTimeouts s = s := by
  simp only [syncTimeouts, one, there, early, List.filter_cons, List.filter_nil, Bool.false_eq_true, if_false, List.contains_nil,
    Bool.not_false, if_true]
  rw [← one]
  rfl

theorem gives_syncWaitTimeout {p o x : Nat} (still : s.still = true) (only : s.path.asks = [q]) (tile : q.side.port = .tile p)
    (stage : q.stage = .accepted) (one : s.cache.waiters = [(o, x, q.id)]) (late : s.elapsed q.arrived (q.rule * 1000 * nsT) = true) :
    Gives .syncWaitTimeout s fun t => t.ends q.id (St.ok, some (s.syncState o)) ∧ t.cache.waiters = [] := by
  let u : State := { s with cache := { s.cache with waiters := [] } }
  let v := finish q.id St.ok (some (s.syncState o)) u
  have acts : syncTimeouts s = v := syncTimeouts_one one (ask?_of_only only) late
  have ended : Fr 67371328 u v := finish_fr (.refl _ u)
  have over_ : v.path.asks = [{ q with stage := .finished, result := some (St.ok, some (s.syncState o)) }] :=
    finish_own only (open_of_accepted stage) (Ask.own_of_tile tile)
  have idle : v.far.waiting = [] := (congrArg Far.waiting (ended.far (by decide))).trans (far_idle_of_still still)
  refine ⟨v, ?_, State.ends_of_only over_ rfl rfl rfl, congrArg Cache.waiters (ended.cache (by decide))⟩
  show Host.Outcome.next (serveAll (syncTimeouts s)) = _
  rw [acts, serveAll_over over_ rfl idle]

end

/-! ### What leaves reductions and the requests' operations alone -/

/-- No request comes with an operation that none had, and the reductions and their closed records stay. -/
structure Calm (s t : State) : Prop where
  asks : ∀ q ∈ t.path.asks, ∃ p ∈ s.path.asks, q.op = p.op
  reds : t.cache.reds = s.cache.reds
  closed : t.cache.closed = s.cache.closed

section
variable {s t u : State}

theorem Calm.refl (s : State) : Calm s s := ⟨fun q mem => ⟨q, mem, rfl⟩, rfl, rfl⟩

theorem Calm.trans (st : Calm s t) (tu : Calm t u) : Calm s u where
  asks q mem := by
    obtain ⟨p, there, op⟩ := tu.asks q mem
    obtain ⟨r, first, op'⟩ := st.asks p there
    exact ⟨r, first, op.trans op'⟩
  reds := tu.reds.trans st.reds
  closed := tu.closed.trans st.closed

theorem Calm.of_asks (asks : t.path.asks = s.path.asks) (cache : t.cache = s.cache) : Calm s t :=
  ⟨fun q mem => ⟨q, asks ▸ mem, rfl⟩, by rw [cache], by rw [cache]⟩

theorem Calm.of_fr {w : Nat} (kept : Fr w s t) (path : w.testBit 18 = false := by decide) (cache : w.testBit 19 = false := by decide) :
    Calm s t := .of_asks (congrArg Path.asks (kept.path path)) (kept.cache cache)

theorem Calm.ite {p : Prop} [Decidable p] (st : Calm s t) (su : Calm s u) : Calm s (if p then t else u) := by
  split
  · exact st
  · exact su

theorem calm_forEach {α : Type} {f : α → State → State} (each : ∀ x s, Calm s (f x s)) (l : List α) (s : State) : Calm s (forEach l f s) :=
  forEach_related Calm.refl Calm.trans l f each s

/-! ### The end of a request -/

theorem calm_modAsk (s : State) (id : Nat) {f : Ask → Ask} (same : ∀ q, (f q).op = q.op) : Calm s (s.modAsk id f) where
  asks q mem := by
    obtain ⟨p, there, rfl⟩ := List.mem_map.mp mem
    refine ⟨p, there, ?_⟩
    split
    · exact same p
    · rfl
  reds := rfl
  closed := rfl

theorem calm_filterAsks (s : State) (f : Ask → Bool) : Calm s (s.setAsks (s.path.asks.filter f)) :=
  ⟨fun q mem => ⟨q, (List.mem_filter.mp mem).1, rfl⟩, rfl, rfl⟩

theorem calm_finish (id status : Nat) (data : Option Nat) (s : State) : Calm s (finish id status data s) := by
  unfold finish
  split
  · exact .refl s
  · next a _ =>
    refine .ite (.refl s) ?_
    extract_lets u v w
    have marked : Calm s (s.modAsk id fun a => { a with stage := .finished, result := some (status, data) }) :=
      calm_modAsk s id fun _ => rfl
    have counted : Calm s v := marked.trans (.of_fr (w := 67108928) (sampleEffect_fr (countDecision_fr (.refl _ _))))
    have sampled : Calm v w := .ite (.ite (.refl v) (.of_fr (sampleEnd_fr (.refl 67108928 v)))) (.refl v)
    have ended := counted.trans sampled
    split
    · have sent : Calm w (sendCompletion a status data w) := .of_fr (sendCompletion_fr (.refl 256 w))
      exact (ended.trans sent).trans (.ite (.refl _) (calm_filterAsks _ _))
    · exact ended

theorem calm_dropAsk (id : Nat) (s : State) : Calm s (dropAsk id s) :=
  (Calm.of_fr (sampleGone_fr (.refl 67108864 s))).trans (calm_filterAsks _ _)

theorem calm_setPath {p : Path} (asks : p.asks = s.path.asks) : Calm s (s.setPath p) := .of_asks asks rfl

theorem calm_startChain (a : Ask) (later : List Ask) (s : State) : Calm s (startChain a later s) := by
  unfold startChain
  extract_lets _ u
  have chained : Calm s u := calm_setPath rfl
  exact .ite (.refl s) (chained.trans (calm_forEach (fun (b : Ask) => calm_finish b.id St.retry none) _ u))

theorem calm_refuseLater (id : Nat) (s : State) : Calm s (refuseLater id s) := by
  unfold refuseLater
  split
  · exact .refl s
  · exact (calm_finish id St.retry none s).trans (calm_startChain _ _ _)

theorem calm_sliceLater (x id : Nat) (s : State) : Calm s (sliceLater x id s) := by
  refine Calm.trans ?_ (calm_refuseLater id _)
  split
  · exact .of_fr (countIf_fr (.refl 64 s))
  · exact .refl s

theorem calm_denyAsk (id : Nat) (s : State) : Calm s (denyAsk id s) := by
  have raised (e i a : Nat) (w : Bool) (u : State) : Calm u (raiseAt e i a w (u.bump 0x2500 0x0B)) :=
    .of_fr (raiseAt_fr (State.bump_fr (.refl 20696 u)))
  unfold denyAsk
  split
  · exact .refl s
  · refine (calm_finish id St.denied none s).trans ?_
    dsimp only
    split
    · exact raised _ _ _ _ _
    · exact raised _ _ _ _ _
    · exact .refl _

/-! ### Acceptance -/

theorem calm_acceptAsk (id : Nat) (confirmed : Bool) (s : State) : Calm s (acceptAsk id confirmed s) := by
  unfold acceptAsk
  split
  · exact .refl s
  · next a _ =>
    refine Calm.trans (t := s.modAsk id fun a => { a with
      stage := .accepted, journal := true, confirmed := confirmed, region := s.regionRaw a.addr, rule := s.ruleFor a }) ?_ ?_
    · exact calm_modAsk s id fun _ => rfl
    · exact .of_fr (w := 67109184) (sendAccept_fr (candidate_fr (countIf_fr (State.peak_fr (.refl _ _)))))

theorem calm_countGrant (q : Ask) (credit : Int) (s : State) : Calm s (countGrant q credit s) :=
  .of_asks (countGrant_asks q credit s) ((countGrant_fr (.refl 262208 s)).cache (by decide))

theorem calm_acceptOr {f : State → State} (acts : ∀ s, Calm s (f s)) (id : Nat) (confirmed : Bool) (s : State) :
    Calm s (acceptOr id confirmed f s) := by
  unfold acceptOr
  split
  · exact .refl s
  · exact .ite (acts s) (.ite (.ite (.refl s) (calm_refuseLater id s)) ((calm_acceptAsk _ _ s).trans (acts _)))

theorem calm_recheck (q : Ask) (s : State) : Calm s (recheck q s).2 := by
  have checked : Calm s (step5 q s).2 := .of_fr (step5_fr (.refl 20696 s))
  unfold recheck
  split
  · exact .refl s
  · split
    · next u steps =>
      rw [steps] at checked
      exact checked
    · next st u steps =>
      rw [steps] at checked
      exact checked.trans (.ite (calm_refuseLater _ u) (.ite (calm_denyAsk _ u) (calm_finish _ _ _ u)))
    · next u steps =>
      rw [steps] at checked
      exact checked.trans (calm_dropAsk _ u)

theorem calm_grant {f : State → State} (acts : ∀ s, Calm s (f s)) (q : Ask) (confirmed : Bool) (s : State) :
    Calm s (grant q confirmed f s) := by
  have checked := calm_recheck q s
  unfold grant
  split
  · next u done =>
    rw [done] at checked
    exact checked
  · next u done =>
    rw [done] at checked
    refine checked.trans ?_
    split
    · exact .ite (calm_denyAsk _ u) (calm_finish _ _ _ u)
    · exact .ite (.ite (.refl u) (calm_refuseLater _ u)) ((calm_countGrant _ _ u).trans ((calm_acceptAsk _ _ _).trans (acts _)))

theorem calm_serveSliced {f : State → State} (acts : ∀ s, Calm s (f s)) (q : Ask) (s : State) : Calm s (serveSliced q f s) := by
  have checked := calm_recheck q s
  unfold serveSliced
  refine .ite (acts s) (.ite (.refl s) ?_)
  split
  · next u done =>
    rw [done] at checked
    exact checked
  · next u done =>
    rw [done] at checked
    refine (checked.trans (acts u)).trans ?_
    dsimp only
    split
    · exact .ite (calm_countGrant _ _ _) (.refl _)
    · exact .refl _

/-! ### The far tier -/

theorem calm_endFarWrite (id : Nat) (backing : Bool) (status : Nat) (s : State) : Calm s (endFarWrite id backing status s) := by
  unfold endFarWrite backingDone
  refine .ite ?_ (calm_finish _ _ _ s)
  split
  · have marked : Calm s (s.modAsk id fun q => { q with backing := false }) := calm_modAsk s id fun _ => rfl
    split
    · exact marked.trans (.ite (.refl _) (calm_finish _ _ _ _))
    · exact marked
  · exact .refl s

theorem calm_denyBale (b : Nat) (s : State) : Calm s (denyBale b s) := by
  unfold denyBale
  split
  · exact .refl s
  · extract_lets _ u
    have noted : Calm s u := .of_fr (w := 1069272) (Fr.set_far (noteLost_fr (.refl _ s)))
    exact noted.trans (calm_forEach (fun (w : Nat × Bool) => calm_endFarWrite w.1 w.2 St.denied) _ u)

theorem pushWrite_asks (who : Writer) (a mask data info : Nat) (region : Option (Nat × Nat)) (s : State) :
    (pushWrite who a mask data info region s).path.asks = s.path.asks := by
  unfold pushWrite
  extract_lets loc data e u
  have ordered : u.path.asks = s.path.asks := rfl
  refine Eq.trans ?_ ordered
  refine congrArg Path.asks (Fr.path (w := 64) ?_ (by decide))
  exact syncDepth_fr (Fr.ite (State.bump_fr (.refl _ u)) (.refl _ u))

theorem calm_issueBaleWrite (b v : Nat) (s : State) : Calm s (issueBaleWrite b v s) := by
  unfold issueBaleWrite
  split
  · exact .refl s
  · refine .ite (.refl s) ?_
    extract_lets d
    have advanced : Calm s (advanceLedger b v s) := by
      unfold advanceLedger
      split
      · exact .of_asks (pushWrite_asks _ _ _ _ _ _ s) ((pushWrite_fr (.refl 262208 s)).cache (by decide))
      · exact .refl s
    exact advanced.trans (.of_fr (w := 1064960) (State.send_fr (State.modBale_fr (.refl _ _))))

theorem calm_waitBale (b : Nat) (r : FarReader) (s : State) : Calm s (waitBale b r s) := .of_fr (waitBale_fr (.refl 1065024 s))

theorem calm_writeBale (b : Nat) (s : State) : Calm s (writeBale b s) := by
  unfold writeBale
  split
  · exact .refl s
  · refine .ite (.refl s) ?_
    split
    · exact calm_denyBale b s
    · refine .ite (.refl s) (.ite (calm_issueBaleWrite _ _ s) (.ite ?_ (calm_waitBale _ _ s)))
      exact (Calm.of_fr (fillMissing_fr (.refl 1048576 s))).trans (calm_issueBaleWrite _ _ _)

theorem calm_mergeBale (w : FarWrite) (l : Nat × Nat) (s : State) : Calm s (mergeBale w l s) := by
  unfold mergeBale
  extract_lets u
  have merged : Calm s u := .of_fr (w := 1048576) (State.modBale_fr (.refl _ s))
  split
  · exact merged.trans (.ite (calm_writeBale _ u) (.refl u))
  · exact merged

theorem calm_takeFarWrite (w : FarWrite) (s : State) : Calm s (takeFarWrite w s) := by
  unfold takeFarWrite
  split
  · exact (Calm.of_fr (noteLost_fr (.refl 1069272 s))).trans (calm_endFarWrite _ _ _ _)
  · refine .ite ((Calm.of_fr (raiseNode_fr (.refl 20696 s))).trans (calm_endFarWrite _ _ _ _)) ?_
    extract_lets u cur
    have taken : Calm s u := .of_fr (takeBale_fr (.refl 1048640 s))
    split
    · exact taken.trans (calm_mergeBale _ _ u)
    · exact taken.trans (.ite (calm_endFarWrite _ _ _ u) (calm_waitBale _ _ u))

theorem calm_farWrite (w : FarWrite) (s : State) : Calm s (farWrite w s) :=
  .ite (calm_finish _ _ _ s) (.ite (calm_takeFarWrite w s) (.of_fr (queueFar_fr (.refl 1048576 s))))

/-- A line that is put is served at the far tier alone. -/
theorem calm_serveFar_put {id d i : Nat} {s : State} {q : Ask} (there : s.ask? id = some q) (op : q.op = .put d i) :
    Calm s (serveFar id s) := by
  unfold serveFar
  rw [there]
  dsimp only
  rw [op]
  exact .ite (.refl s) (calm_grant (fun u => calm_farWrite _ u) q true s)

/-! ### Synchronisation operations -/

theorem calm_applyAsk (id value : Nat) (data : Option Nat) (s : State) : Calm s (applyAsk id value data s) :=
  (calm_modAsk s id (f := fun a => { a with applied := some value }) fun _ => rfl).trans (calm_finish _ _ _ _)

theorem calm_putSync (o v : Nat) (s : State) : Calm s (putSync o v s) := by
  unfold putSync
  extract_lets u ready _ w x
  have kept : Calm s w := ⟨fun q mem => ⟨q, mem, rfl⟩, rfl, rfl⟩
  have ended : Calm w x := calm_forEach (fun (k : Nat × Nat × Nat) => calm_finish k.2.2 St.ok (some (v + 2 ^ 34))) ready w
  have told (k : Nat × Nat) (y : State) : Calm y (tellWatcher o v k.2 y) := .of_fr (tellWatcher_fr (.refl 131328 y))
  exact (kept.trans ended).trans (calm_forEach told _ x)

theorem calm_bumpSync (o n : Nat) (broken : Bool) (s : State) : Calm s (bumpSync o n broken s) := by
  unfold bumpSync
  extract_lets v v' u
  have raised : Calm s u := .ite (.of_fr (raiseNode_fr (.refl 20696 s))) (.refl s)
  exact raised.trans (calm_putSync _ _ u)

theorem calm_syncApply (a : Ask) (op o operand : Nat) (s : State) : Calm s (syncApply a op o operand s) := by
  unfold syncApply
  extract_lets v
  split
  · exact calm_applyAsk _ _ _ s
  · exact (calm_applyAsk _ _ _ s).trans (calm_putSync _ _ _)
  · exact (calm_applyAsk _ _ _ s).trans (calm_bumpSync _ _ _ _)
  · exact (calm_applyAsk _ _ _ s).trans (calm_bumpSync _ _ _ _)
  · split
    · next w _ =>
      extract_lets u
      have watched : Calm s u := ⟨fun q mem => ⟨q, mem, rfl⟩, rfl, rfl⟩
      exact (watched.trans (calm_applyAsk _ _ _ u)).trans (.of_fr (sendNotice_fr (.refl 256 _)))
    · exact .ite (calm_applyAsk _ _ _ s) ⟨fun q mem => ⟨q, mem, rfl⟩, rfl, rfl⟩
  · exact (calm_applyAsk _ _ _ s).trans (calm_putSync _ _ _)

theorem calm_serveSync (id : Nat) (s : State) : Calm s (serveSync id s) := by
  unfold serveSync
  split
  · exact .refl s
  · next a _ =>
    split
    · next op obj operand _ =>
      extract_lets o x
      refine .ite (.refl s) (.ite (calm_denyAsk id s) (.ite (.ite (calm_sliceLater x id s) (.refl s)) (.ite (calm_sliceLater x id s) ?_)))
      refine calm_acceptOr (fun u => .ite ?_ (.refl u)) id true s
      exact (Calm.of_fr (countIf_fr (.refl 64 u))).trans (calm_syncApply _ _ _ _ _)
    · exact .refl s

end

/-! ### A reduction that breaks -/

/-- The operations of units that neither begin a reduction nor contribute to one. -/
def offReductionsOp (op : Op) : Prop := (∃ d i, op = .put d i) ∨ ∃ f o x, op = .sync f o x

/-- Every request that stands is of such an operation. -/
def State.offReductions (s : State) : Prop := ∀ q ∈ s.path.asks, offReductionsOp q.op

section
variable {s t : State}

theorem Calm.offReductions (calm : Calm s t) (off : s.offReductions) : t.offReductions := by
  intro q mem
  obtain ⟨p, there, op⟩ := calm.asks q mem
  exact op ▸ off p there

theorem calm_serveAsk {id : Nat} (off : s.offReductions) : Calm s (serveAsk id s) := by
  unfold serveAsk
  split
  · exact .refl s
  · next q there =>
    refine .ite (.refl s) ?_
    rcases off q (List.mem_of_find?_eq_some there) with ⟨d, i, op⟩ | ⟨f, o, x, op⟩
    · simp only [op]
      exact calm_serveFar_put there op
    · simp only [op]
      exact calm_serveSliced (calm_serveSync id) q s

/-- Serving such requests leaves no reduction begun and no record dropped. -/
theorem serveAll_offReductions (idle : s.far.waiting = []) (off : s.offReductions) :
    (serveAll s).cache.reds = s.cache.reds ∧ (serveAll s).cache.closed = s.cache.closed := by
  have run := forEach_related (rel := fun s t => s.offReductions → Calm s t ∧ t.offReductions) (fun s off => ⟨.refl s, off⟩)
    (fun st tu off => by
      obtain ⟨first, off⟩ := st off
      obtain ⟨second, off⟩ := tu off
      exact ⟨first.trans second, off⟩)
    (s.path.asks.map (·.id)) serveAsk (fun id s off => ⟨calm_serveAsk off, (calm_serveAsk off).offReductions off⟩) s
  unfold serveAll
  rw [drainFar_idle idle]
  obtain ⟨calm, -⟩ := run off
  exact ⟨calm.reds, calm.closed⟩

/-- Requests are offered, with operation `op` where one is new, and the reductions and their closed records stay. -/
structure Offers (op : Op) (s t : State) : Prop where
  asks : ∀ q ∈ t.path.asks, q.op = op ∨ ∃ p ∈ s.path.asks, q.op = p.op
  reds : t.cache.reds = s.cache.reds
  closed : t.cache.closed = s.cache.closed

theorem Offers.offReductions {op : Op} (offers : Offers op s t) (new : offReductionsOp op) (off : s.offReductions) : t.offReductions := by
  intro q mem
  rcases offers.asks q mem with same | ⟨p, there, same⟩
  · exact same ▸ new
  · exact same ▸ off p there

theorem offers_addAsk (q : Ask) (s : State) : Offers q.op s (addAsk q s) where
  asks p mem := by
    rcases List.mem_append.mp mem with old | new
    · exact .inr ⟨p, old, rfl⟩
    · exact .inl (by rw [List.mem_singleton.mp new])
  reds := rfl
  closed := rfl

theorem Calm.offers {op : Op} {u : State} (st : Calm s t) (tu : Offers op t u) : Offers op s u where
  asks q mem := by
    rcases tu.asks q mem with new | ⟨p, there, same⟩
    · exact .inl new
    · obtain ⟨r, first, same'⟩ := st.asks p there
      exact .inr ⟨r, first, same.trans same'⟩
  reds := tu.reds.trans st.reds
  closed := tu.closed.trans st.closed

theorem Offers.calm {op : Op} {u : State} (st : Offers op s t) (tu : Calm t u) : Offers op s u where
  asks q mem := by
    obtain ⟨p, there, same⟩ := tu.asks q mem
    rcases st.asks p there with new | ⟨r, first, same'⟩
    · exact .inl (same.trans new)
    · exact .inr ⟨r, first, same.trans same'⟩
  reds := tu.reds.trans st.reds
  closed := tu.closed.trans st.closed

theorem offers_forwardAsk {q : Ask} {op : Op} (same : q.op = op) (s : State) : Offers op s (forwardAsk q s) := by
  subst same
  have adds (a : Ask) (same : a.op = q.op) (u v : State) (su : Calm s u) (v_ : Calm (addAsk a u) v) : Offers q.op s v :=
    same ▸ (su.offers (offers_addAsk a u)).calm v_
  unfold forwardAsk
  extract_lets dest u _ a v
  have reached : Calm s u := .ite (.of_fr (reissue_fr (.refl 320 s))) (.refl s)
  have op : a.op = q.op := by
    unfold a
    split <;> rfl
  have counted : Calm u v := by
    unfold v
    split
    · exact .refl u
    · exact .of_fr (countAccess_fr (.refl 20696 u))
  split
  · exact adds a op v _ (reached.trans counted) (calm_finish _ _ _ _)
  · split
    · exact adds a op u _ reached (calm_finish _ _ _ _)
    · split
      · exact adds a op u _ reached (calm_finish _ _ _ _)
      · split
        · exact adds { a with fwd := 1 } op u _ reached (.refl _)
        · exact adds { a with fwd := 1 } op u _ reached (.of_fr (sendParcel_fr (.refl 256 _)))

theorem offers_offerInternal (code cls ctx : Nat) (world : Bool) (a : Nat) (op : Op) (why : Purpose) (s : State) :
    Offers op s (offerInternal code cls ctx world a op why s) := by
  unfold offerInternal
  extract_lets q
  split
  · exact offers_forwardAsk (q := q) rfl s
  · split
    · exact ((Calm.of_fr (countAccess_fr (.refl 20696 s))).offers (offers_addAsk q _)).calm (calm_finish _ _ _ _)
    · split
      · exact (offers_addAsk q s).calm (calm_finish _ _ _ _)
      · exact offers_addAsk q s

theorem offers_redSignal (r : Red) (broken : Bool) (s : State) : ∃ o, Offers (.sync 3 o 1) s (redSignal r broken s) := by
  refine ⟨r.word.object, ?_⟩
  have stays : Offers (.sync 3 r.word.object 1) s s := ⟨fun q mem => .inr ⟨q, mem, rfl⟩, rfl, rfl⟩
  unfold redSignal signalObject
  split
  · dsimp only
    split
    · split
      · exact stays
      · exact stays.calm (calm_bumpSync _ _ _ s)
    · exact offers_forwardAsk (by rfl) s
  · exact stays

theorem calm_dropLine (a : Nat) (s : State) : Calm s (dropLine a s) := by
  have way (k : Nat) (u : State) : Calm u (u.setWay k none) := ⟨fun q mem => ⟨q, mem, rfl⟩, rfl, rfl⟩
  unfold dropLine
  extract_lets u v
  have first : Calm s u := by
    unfold u
    split
    · exact way _ s
    · exact .refl s
  have second : Calm u v := by
    unfold v
    split
    · exact way _ u
    · exact .refl u
  exact (first.trans second).trans (.of_fr (syncDirty_fr (.refl 64 v)))

/-- The last of a list stays where the first of several that pass a filter is dropped. -/
theorem mem_erase_headD {α : Type} [DecidableEq α] (l : List α) (r d : α) (f : α → Bool) (many : 1 < ((l ++ [r]).filter f).length) :
    r ∈ (l ++ [r]).erase (((l ++ [r]).filter f).headD d) := by
  rw [List.filter_append, List.length_append] at many
  have one : ([r].filter f).length ≤ 1 := List.length_filter_le ..
  rw [List.filter_append]
  cases keeps : l.filter f with
  | nil =>
    rw [keeps, List.length_nil] at many
    omega
  | cons e es =>
    have old : e ∈ l := (List.mem_filter.mp (keeps ▸ List.mem_cons_self : e ∈ l.filter f)).1
    rw [List.cons_append, List.headD_cons, List.erase_append_left _ old]
    exact List.mem_append_right _ List.mem_cons_self

/-- The record that is closed last is among those kept (R173). -/
theorem closeRecord_mem (r : Red) (broken : Bool) (s : State) :
    (⟨r.addr, r.word.tag, broken, s.now⟩ : RedDone) ∈ (closeRecord r broken s).cache.closed := by
  unfold closeRecord
  extract_lets x l mine kept
  show _ ∈ kept
  unfold kept
  split
  · next many => exact mem_erase_headD _ _ _ _ (Nat.lt_of_le_of_lt (by decide) many)
  · exact List.mem_append_right _ List.mem_cons_self

end

section
variable {s : State} {d : Red}

/-- What stands where the one reduction of a node without requests breaks: no reduction, its record among those closed (R172, R173). -/
theorem breakRed_one (alone : s.path.asks = []) (one : s.cache.reds = [d]) (unstaged : d.staged = []) (unread : d.readers = []) :
    (breakRed d s).offReductions ∧ (breakRed d s).cache.reds = [] ∧
      (⟨d.addr, d.word.tag, true, s.now⟩ : RedDone) ∈ (breakRed d s).cache.closed := by
  unfold breakRed
  rw [unstaged, unread]
  let u := s.setReds (s.cache.reds.filter fun q => q.addr != d.addr)
  let v := poisonWrite d.addr (dropLine d.addr u)
  show State.offReductions (raiseAt _ _ _ _ ((closeRecord d true (redSignal d true v)).bump 0x2500 9)) ∧ _
  let w := redSignal d true v
  let x := closeRecord d true w
  have none_ : u.offReductions := by
    intro q mem
    have mem : q ∈ s.path.asks := mem
    rw [alone] at mem
    cases mem
  have empty : u.cache.reds = [] := by
    show s.cache.reds.filter (fun q => q.addr != d.addr) = []
    simp [one]
  have dropped := calm_dropLine d.addr u
  have poisoned : Offers _ (dropLine d.addr u) v := offers_offerInternal _ _ _ _ _ _ _ _
  obtain ⟨o, signalled⟩ := offers_redSignal d true v
  have raised : Calm x (raiseAt Ev.reductionBroken (sliceOf d.addr) d.addr (x.secureAt d.addr) (x.bump 0x2500 9)) :=
    .of_fr (raiseAt_fr (State.bump_fr (.refl 20696 x)))
  have off : w.offReductions := signalled.offReductions (.inr ⟨3, o, 1, rfl⟩)
    (poisoned.offReductions (.inl ⟨0, _, rfl⟩) (dropped.offReductions none_))
  have now : w.now = s.now := by
    have first : v.now = (dropLine d.addr u).now := (poisonWrite_fr (.refl 67391960 _)).now (by decide)
    have second : (dropLine d.addr u).now = u.now := (dropLine_fr (.refl 524352 u)).now (by decide)
    exact ((redSignal_fr (.refl 70144472 v)).now (by decide)).trans (first.trans second)
  refine ⟨raised.offReductions off, ?_, ?_⟩
  · exact raised.reds.trans (signalled.reds.trans (poisoned.reds.trans (dropped.reds.trans empty)))
  · show _ ∈ (raiseAt Ev.reductionBroken (sliceOf d.addr) d.addr (x.secureAt d.addr) (x.bump 0x2500 9)).cache.closed
    rw [raised.closed, ← now]
    exact closeRecord_mem d true w

theorem gives_reduceTimeout (still : s.still = true) (alone : s.path.asks = []) (one : s.cache.reds = [d]) (late : s.redExpired d = true)
    (unstaged : d.staged = []) (unread : d.readers = []) : Gives .reduceTimeout s fun t =>
      t.redOn d.addr = none ∧ (⟨d.addr, d.word.tag, true, s.now⟩ : RedDone) ∈ t.cache.closed := by
  obtain ⟨off, empty, record⟩ := breakRed_one alone one unstaged unread
  have acts : reduceTimeouts s = breakRed d s := by
    rw [reduceTimeouts, one, List.filter_cons_of_pos late]
    rfl
  have idle : (breakRed d s).far.waiting = [] := by
    rw [(breakRed_fr (.refl 70144472 s)).far (by decide), far_idle_of_still still]
  obtain ⟨reds, closed⟩ := serveAll_offReductions idle off
  refine ⟨_, congrArg (fun t => Host.Outcome.next (serveAll t)) acts, ?_, closed ▸ record⟩
  rw [State.redOn, reds, empty]
  rfl

end

/-! ### A contribution that is admitted -/

/-- A reduction word is read as it is written (R168). -/
theorem redOf_redWord {w : RedWord} (function : w.function < 4) (type : w.type < 4) (tag : w.tag < 256) (index : w.index < 4096)
    (count : w.count < 4096) (object : w.object < 2 ^ 17) : redOf (redWord w) = w := by
  have wide : b2n w.wide ≤ 1 := by cases w.wide <;> decide
  have init : b2n w.init ≤ 1 := by cases w.init <;> decide
  have signal : b2n w.signal ≤ 1 := by cases w.signal <;> decide
  unfold redOf redWord
  cases w with
  | mk =>
    dsimp only at *
    congr 1
    case e_wide => apply bit_eq; omega
    case e_init => apply bit_eq; omega
    case e_signal => apply bit_eq; omega
    all_goals rw [bits_eq]; omega

section
variable {s t w : State} {b : Ask} {side : Side} {a d : Nat} {r : RedWord}

theorem Aside.redDecide (aside : Aside s t) (a : Nat) (r : RedWord) : t.redDecide a r = s.redDecide a r := by
  unfold State.redDecide State.redOn State.stagingOf State.redsOf
  rw [aside.cache, aside.ob (i := 0x2500) (a := 2) (by decide)]

theorem redOn_of_take (takes : s.redDecide a r = .take true) : s.redOn a = none := by
  unfold State.redDecide at takes
  dsimp only at takes
  split at takes
  · split at takes <;> cases takes
  · split at takes
    · assumption
    · exfalso
      revert takes
      repeat' split
      all_goals simp

theorem cached_congr (ways : t.cache.ways = s.cache.ways) (slice : t.sliceState (sliceOf a) = s.sliceState (sliceOf a)) :
    t.cached a = s.cached a := by
  have way (k : Nat) : t.way k = s.way k := by rw [State.way, State.way, ways]
  have serving : t.serving (sliceOf a) = s.serving (sliceOf a) := by rw [State.serving, State.serving, slice]
  simp only [State.cached, serving, State.findWay, way]

/-- A line that is not poisoned breaks no reduction. -/
theorem breakPoisoned_clean (clean : ∀ n v, s.cached a = some (n, v) → v.info.testBit 11 = false) : breakPoisoned a s = s := by
  unfold breakPoisoned
  split
  · next n v _ hit => rw [clean n v hit, Bool.and_false, if_neg Bool.false_ne_true]
  · rfl

/-- The reduction that `openRed` begins (R169). -/
def State.newRed (s : State) (a : Nat) (r : RedWord) : Red :=
  { addr := lineOf a, word := r, window := s.ob 0x2500 2, next := 0, lane := s.laneFor (sliceOf a)
    acc := if r.init then some (accInit r)
      else (s.cached a).bind fun q => if q.2.info.testBit 11 then none else some (accFrom r q.2.data)
    staged := [], lastApplied := s.now, readers := [], closing := false }

theorem redOn_openRed (free : s.redOn a = none) : (openRed a r s).redOn a = some (s.newRed a r) := by
  show (s.cache.reds ++ [s.newRed a r]).find? (fun r => r.addr == lineOf a) = _
  have none_ : s.cache.reds.find? (fun r => r.addr == lineOf a) = none := free
  rw [List.find?_append, none_, Option.none_or, List.find?_cons_of_pos]
  simp [State.newRed]

/-- The state in which the first contribution to a reduction is staged. -/
def State.stagedFirst (s : State) (b : Ask) (r : RedWord) (d : Nat) : State :=
  let u := (openRed b.addr r s).modRed b.addr fun e => { e with staged := e.staged ++ [(r.index, b.id, d)] }
  let v := acceptAsk b.id true (countIf (sliceBank (sliceOf b.addr)) 5 1 (u.askCause b) u)
  v.peak (0x2510 + sliceOf b.addr) 7 (u.stagingOf (sliceOf b.addr))

theorem stagedFirst_redOn (free : s.redOn b.addr = none) : (s.stagedFirst b r d).redOn b.addr =
    some { s.newRed b.addr r with staged := [(r.index, b.id, d)] } := by
  unfold State.stagedFirst
  extract_lets u v
  have begun : u.redOn b.addr = some { s.newRed b.addr r with staged := [(r.index, b.id, d)] } :=
    redOn_modRed (redOn_openRed free) fun _ same => same
  have kept : Fr 67371328 u (v.peak (0x2510 + sliceOf b.addr) 7 (u.stagingOf (sliceOf b.addr))) :=
    State.peak_fr (acceptAsk_fr (countIf_fr (.refl _ u)))
  rw [← begun, State.redOn, State.redOn, kept.cache (by decide)]

theorem sameSlices_peak (s : State) (i v : Nat) {a : Nat} (beside : a ≠ 1) (small : a < 256) : SameSlices s (s.peak i a v) := by
  unfold State.peak
  split
  · exact sameSlices_setOb s i v beside small
  · exact fun _ => rfl

theorem stagedFirst_cached (s : State) (b : Ask) (r : RedWord) (d : Nat) : (s.stagedFirst b r d).cached b.addr = s.cached b.addr := by
  unfold State.stagedFirst
  extract_lets u v
  have begun : SameSlices s u := (sameSlices_setOb _ _ _ (by decide) (by decide)).trans (sameSlices_setOb _ _ _ (by decide) (by decide))
  have counted : SameSlices u (countIf (sliceBank (sliceOf b.addr)) 5 1 (u.askCause b) u) := sameSlices_countIf _ _ _ _ (by decide)
  have accepted : v.sliceState (sliceOf b.addr) = (countIf (sliceBank (sliceOf b.addr)) 5 1 (u.askCause b) u).sliceState (sliceOf b.addr) :=
    (aside_acceptAsk _ _ _).sliceState (sliceOf_lt _)
  have kept : Fr 67371328 u (v.peak (0x2510 + sliceOf b.addr) 7 (u.stagingOf (sliceOf b.addr))) :=
    State.peak_fr (acceptAsk_fr (countIf_fr (.refl _ u)))
  refine cached_congr ((congrArg Cache.ways (kept.cache (by decide))).trans (rfl : u.cache.ways = s.cache.ways)) ?_
  exact (sameSlices_peak _ _ _ (by decide) (by decide) _).trans (accepted.trans ((counted _).trans (begun _)))

theorem stagedFirst_asks (only : s.path.asks = [b]) (own : b.own = true) : ∃ c, (s.stagedFirst b r d).path.asks = [c] ∧ c.id = b.id ∧
    c.stage = .accepted ∧ c.journal = true := by
  unfold State.stagedFirst
  extract_lets u v
  have counted : (countIf (sliceBank (sliceOf b.addr)) 5 1 (u.askCause b) u).path = u.path := (countIf_fr (.refl 64 u)).path (by decide)
  have peaked : (v.peak (0x2510 + sliceOf b.addr) 7 (u.stagingOf (sliceOf b.addr))).path = v.path :=
    (State.peak_fr (.refl 64 v)).path (by decide)
  have accepted : v.path.asks = _ := acceptAsk_own (confirmed := true) ((congrArg Path.asks counted).trans only) own
  exact ⟨_, (congrArg Path.asks peaked).trans accepted, rfl, rfl, rfl⟩

theorem serveReduce_stagedFirst (offered : Offered (s.req side a (.reduce r d)) s b w) (allowed : redDenied r a = false)
    (held : s.sliceState (sliceOf a) ≠ 1) (out : s.sliceState (sliceOf a) ≠ 4) (takes : s.redDecide a r = .take true)
    (clean : ∀ n v, s.cached a = some (n, v) → v.info.testBit 11 = false) : serveReduce b.id w = w.stagedFirst b r d := by
  have addr : b.addr = a := offered.addr
  have op : b.op = .reduce r d := offered.op
  have slice : w.sliceState (sliceOf a) = s.sliceState (sliceOf a) := offered.aside.sliceState (sliceOf_lt a)
  have unbroken : breakPoisoned a (w.stagedFirst b r d) = w.stagedFirst b r d := by
    refine breakPoisoned_clean fun n v hit => clean n v ?_
    rw [← offered.aside.cached, ← addr, ← stagedFirst_cached w b r d, addr]
    exact hit
  unfold serveReduce
  simp only [offered.ask?, op, offered.stage, addr, allowed, slice, if_neg held, if_neg out, offered.aside.redDecide, takes, if_true,
    journalFree_only offered.only offered.journal, Bool.false_eq_true, if_false, Bool.not_true, bne_self_eq_false]
  refine Eq.trans ?_ unbroken
  rw [← addr]
  rfl

theorem exec_reduce (present_ : portPresent side.port s = true) (function : r.function < 4) (type : r.type < 4) (tag : r.tag < 256)
    (index : r.index < 4096) (count : r.count < 4096) (object : r.object < 2 ^ 17) (fits : d < 2 ^ 1024) :
    exec (.reduce side a r d) s =
      .next (arrive { side with rsvd := side.rsvd || a % 128 != 0 } (a % 2 ^ 53 / 128 * 128) (.reduce r d) s) := by
  show lineRequest side a (.reduce (redOf (redWord { r with
    function := r.function % 4, type := r.type % 4, tag := r.tag % 256, index := r.index % 4096, count := r.count % 4096
    object := r.object % 2 ^ 17 })) (d % 2 ^ 1024)) s = _
  rw [Nat.mod_eq_of_lt function, Nat.mod_eq_of_lt type, Nat.mod_eq_of_lt tag, Nat.mod_eq_of_lt index, Nat.mod_eq_of_lt count,
    Nat.mod_eq_of_lt object, Nat.mod_eq_of_lt fits, redOf_redWord function type tag index count object, lineRequest, present_]
  rfl

/-- An admitted contribution that begins its reduction is accepted and staged (R169). -/
theorem reduce_stages (admitted : s.admits (s.req side a (.reduce r d)) = true) (allowed : redDenied r a = false)
    (held : s.sliceState (sliceOf a) ≠ 1) (out : s.sliceState (sliceOf a) ≠ 4) (takes : s.redDecide a r = .take true)
    (clean : ∀ n v, s.cached a = some (n, v) → v.info.testBit 11 = false) :
    (arrive side a (.reduce r d) s).accepts (s.req side a (.reduce r d)).id ∧
      ∃ e, (arrive side a (.reduce r d) s).redOn a = some e ∧ e.word = r ∧ e.next = 0 ∧
        e.staged = [(r.index, (s.req side a (.reduce r d)).id, d)] ∧ e.closing = false := by
  obtain ⟨b, w, offered, own, asks, cache, -⟩ :=
    arrive_sliced (f := serveReduce) admitted fun b w op there here => serveAsk_reduce there here op
  rw [serveReduce_stagedFirst offered allowed held out takes clean] at asks cache
  obtain ⟨c, only, id, stage, journal⟩ := stagedFirst_asks (r := r) (d := d) offered.only own
  have free : w.redOn b.addr = none := by
    rw [show b.addr = a from offered.addr, offered.aside.redOn]
    exact redOn_of_take takes
  have begun := stagedFirst_redOn (r := r) (d := d) free
  refine ⟨⟨c, (id.trans offered.id) ▸ ask?_of_only (asks.trans only), stage, journal⟩,
    { w.newRed b.addr r with staged := [(r.index, b.id, d)] }, ?_, rfl, rfl, ?_, rfl⟩
  · rw [State.redOn, cache, ← show b.addr = a from offered.addr]
    exact begun
  · rw [offered.id]

end

/-! ### Operations on synchronisation objects -/

section
variable {s : State}

/-- Where nothing waits, a write of an object ends no request. -/
theorem putSync_asks (idle : s.cache.waiters = []) (o v : Nat) : (putSync o v s).path.asks = s.path.asks := by
  unfold putSync
  extract_lets u ready _ w x
  have none_ : ready = [] := by
    show s.cache.waiters.filter _ = []
    rw [idle]
    rfl
  have ended : x = w := by
    unfold x
    rw [none_]
    rfl
  have told (k : Nat × Nat) (y : State) : (tellWatcher o v k.2 y).path.asks = y.path.asks :=
    congrArg Path.asks ((tellWatcher_fr (.refl 131328 y)).path (by decide))
  have all := forEach_related (rel := fun s t => t.path.asks = s.path.asks) (fun _ => rfl) (fun st tu => tu.trans st)
    (x.cache.watches.filter fun w => w.1 == o) (fun w s => tellWatcher o v w.2 s) told x
  rw [all, ended]

theorem putSync_syncs (o v : Nat) (s : State) : (putSync o v s).syncs = put 0 o v s.syncs := by
  unfold putSync
  extract_lets u ready _ w x
  have ended : x.syncs = w.syncs := forEach_related (rel := fun s t => t.syncs = s.syncs) (fun _ => rfl) (fun st tu => tu.trans st) ready
    (fun w s => finish w.2.2 St.ok (some (v + 2 ^ 34)) s) (fun k y => (finish_fr (.refl 67371328 y)).syncs (by decide)) w
  have told := forEach_related (rel := fun s t => t.syncs = s.syncs) (fun _ => rfl) (fun st tu => tu.trans st)
    (x.cache.watches.filter fun w => w.1 == o) (fun w s => tellWatcher o v w.2 s)
    (fun k y => (tellWatcher_fr (.refl 131328 y)).syncs (by decide)) x
  rw [told, ended]

/-- The state in which an addition to an object is written: its overflow reported. -/
theorem bumpSync_eq (o n : Nat) (s : State) : ∃ u, Fr 20696 s u ∧ bumpSync o n false s = putSync o (addSync (s.syncState o) n) u := by
  unfold bumpSync
  extract_lets v v' u
  refine ⟨u, Fr.ite (raiseNode_fr (.refl _ s)) (.refl _ s), ?_⟩
  rw [if_neg Bool.false_ne_true]

theorem bumpSync_asks (idle : s.cache.waiters = []) (o n : Nat) : (bumpSync o n false s).path.asks = s.path.asks := by
  obtain ⟨u, kept, same⟩ := bumpSync_eq o n s
  rw [same, putSync_asks ((congrArg Cache.waiters (kept.cache (by decide))).trans idle), kept.path (by decide)]

theorem bumpSync_syncs (o n : Nat) (s : State) : (bumpSync o n false s).syncs = put 0 o (addSync (s.syncState o) n) s.syncs := by
  obtain ⟨u, kept, same⟩ := bumpSync_eq o n s
  rw [same, putSync_syncs, kept.syncs (by decide)]

theorem applyAsk_leaves (id value : Nat) (data : Option Nat) (s : State) :
    (applyAsk id value data s).syncs = s.syncs ∧ (applyAsk id value data s).cache = s.cache :=
  have kept : Fr 67371328 s (applyAsk id value data s) := applyAsk_fr (.refl _ s)
  ⟨kept.syncs (by decide), kept.cache (by decide)⟩

/-- A WAIT is over at once where its threshold is reached, and waits otherwise (R175). -/
theorem syncApply_wait {q : Ask} (watches : q.watches = none) (o x : Nat) (s : State) : syncApply q 4 o x s =
    if x ≤ syncValue (s.syncState o) then applyAsk q.id (s.syncState o) (some (s.syncState o + 2 ^ 34)) s
    else { s with cache := { s.cache with waiters := s.cache.waiters ++ [(o, x, q.id)] } } := by
  simp only [syncApply, watches]

theorem syncApply_watch {q : Ask} {w : Nat} (watches : q.watches = some w) (o x : Nat) (s : State) : ∃ u : State, u.syncs = s.syncs ∧
    syncApply q 4 o x s = sendNotice (w - 4096) (s.me * 2 ^ 14 + o) (s.syncState o)
      (applyAsk q.id (s.syncState o) (some (s.syncState o)) u) := by
  refine ⟨{ s with cache := { s.cache with watches := s.cache.watches.filter (fun k => k != (o, w)) ++ [(o, w)] } }, rfl, ?_⟩
  simp only [syncApply, watches]
  rfl

/-- What each operation makes of the objects (R175). -/
theorem syncApply_syncs (q : Ask) (o x : Nat) (s : State) :
    (syncApply q 0 o x s).syncs = s.syncs ∧ (syncApply q 1 o x s).syncs = put 0 o x s.syncs ∧
    (syncApply q 2 o x s).syncs = put 0 o (addSync (s.syncState o) x) s.syncs ∧
    (syncApply q 3 o x s).syncs = put 0 o (addSync (s.syncState o) x) s.syncs ∧
    (syncApply q 4 o x s).syncs = s.syncs ∧ (syncApply q 5 o x s).syncs = put 0 o 0 s.syncs := by
  have syncs (value : Nat) (data : Option Nat) (u : State) : (applyAsk q.id value data u).syncs = u.syncs := (applyAsk_leaves _ _ _ u).1
  have written (v : Nat) (data : Option Nat) :
      (putSync o v (applyAsk q.id (s.syncState o) data s)).syncs = put 0 o v s.syncs := by rw [putSync_syncs, syncs]
  have added (data : Option Nat) : (bumpSync o x false (applyAsk q.id (s.syncState o) data s)).syncs =
      put 0 o (addSync (s.syncState o) x) s.syncs := by rw [bumpSync_syncs, State.syncState, syncs]; rfl
  refine ⟨syncs _ _ s, written _ _, added _, added _, ?_, written _ _⟩
  cases watches : q.watches with
  | some w =>
    obtain ⟨u, same, acts⟩ := syncApply_watch watches o x s
    rw [acts, (sendNotice_fr (.refl 256 _)).syncs (by decide), syncs, same]
  | none =>
    rw [syncApply_wait watches]
    split
    · exact syncs _ _ s
    · rfl

end

/-! ### An operation that is admitted -/

section
variable {s w : State} {b : Ask} {side : Side} {f o x : Nat}

theorem serveSync_offered (offered : Offered (s.req side 0 (.sync f o x)) s b w) (own : b.own = true) (code : f ≤ 5)
    (idle : s.cache.waiters = []) (open_ : s.syncSecure (syncIndex o) = false ∨ side.world = true)
    (held : s.sliceState (syncSlice (syncIndex o)) ≠ 1) : ∃ v c, v.path.asks = [c] ∧ c.id = b.id ∧ c.stage = .accepted ∧
      c.journal = true ∧ c.own = true ∧ v.cache = s.cache ∧ v.syncs = s.syncs ∧
      serveSync b.id w = syncApply b f (syncIndex o) x v := by
  have op : b.op = .sync f o x := offered.op
  have world : b.side.world = side.world := by rw [offered.side]; rfl
  have slice : w.sliceState (syncSlice (syncIndex o)) = s.sliceState (syncSlice (syncIndex o)) :=
    offered.aside.sliceState (Nat.mod_lt _ (by decide))
  have waiters : w.cache.waiters = [] := (congrArg Cache.waiters offered.aside.cache).trans idle
  have none_ : w.waitersOf (syncSlice (syncIndex o)) = 0 := by simp [State.waitersOf, waiters]
  have secure : (s.syncSecure (syncIndex o) && !side.world) = false := by rcases open_ with normal | both <;> simp [*]
  obtain ⟨c, only, id, stage, journal, own', aside⟩ := offered.accepted own
  let u := acceptAsk b.id true w
  let v := countIf (sliceBank (syncSlice (syncIndex o))) 8 1 (u.askCause b) u
  have counted : Fr 64 u v := countIf_fr (.refl _ u)
  refine ⟨v, c, (congrArg Path.asks (counted.path (by decide))).trans only, id.trans offered.id.symm, stage, journal, own',
    (counted.cache (by decide)).trans aside.cache, (counted.syncs (by decide)).trans aside.syncs, ?_⟩
  have first : u.earlierDone b = true := by
    rw [State.earlierDone, show b.id = c.id from offered.id.trans id.symm, earlierAsks_only only]
    rfl
  unfold serveSync
  simp only [offered.ask?, op, offered.stage, offered.applied, waiters, slice, if_neg held, none_, world, offered.aside.syncSecure, secure,
    List.any_nil, Option.isSome_none, Bool.or_false, Bool.and_false, Bool.false_eq_true, if_false, Bool.true_and,
    beq_self_eq_true, decide_eq_false (by omega : ¬ 5 < f), decide_eq_false (by decide : ¬ 256 ≤ 0)]
  refine Eq.trans (if_neg (by decide)) ?_
  rw [offered.acceptOr own]
  show (if f == 0 || f == 4 || u.earlierDone b then _ else _) = _
  rw [first, Bool.or_true, if_pos rfl]

/-- An operation that is admitted is done as its request stands accepted. -/
theorem arrive_sync (admitted : s.admits (s.req side 0 (.sync f o x)) = true) (code : f ≤ 5) (idle : s.cache.waiters = [])
    (open_ : s.syncSecure (syncIndex o) = false ∨ side.world = true) (held : s.sliceState (syncSlice (syncIndex o)) ≠ 1) :
    ∃ v c, v.path.asks = [c] ∧ c.id = (s.req side 0 (.sync f o x)).id ∧ c.stage = .accepted ∧ c.journal = true ∧ c.own = true ∧
      v.cache = s.cache ∧ v.syncs = s.syncs ∧ ∃ b, b.id = c.id ∧ b.watches = none ∧
      (arrive side 0 (.sync f o x) s).path.asks = (syncApply b f (syncIndex o) x v).path.asks ∧
      (arrive side 0 (.sync f o x) s).cache = (syncApply b f (syncIndex o) x v).cache ∧
      (arrive side 0 (.sync f o x) s).syncs = (syncApply b f (syncIndex o) x v).syncs := by
  obtain ⟨b, w, offered, own, asks, cache, syncs⟩ :=
    arrive_sliced (f := serveSync) admitted fun b w op there here => serveAsk_sync there here op
  obtain ⟨v, c, only, id, stage, journal, own', cache', syncs', acts⟩ := serveSync_offered offered own code idle open_ held
  rw [acts] at asks cache syncs
  exact ⟨v, c, only, id.trans offered.id, stage, journal, own', cache', syncs', b, id.symm, Ask.watches_of_own own, asks, cache, syncs⟩

end

section
variable {s v : State} {b c : Ask} {side : Side} {f o x : Nat} {data : Option Nat}

/-- Every operation but WAIT is done as it is applied, with the data it answers. -/
theorem syncApply_asks (only : v.path.asks = [c]) (same : b.id = c.id) (open_ : c.stage ≠ .finished) (own : c.own = true)
    (idle : v.cache.waiters = [])
    (mem : (f, data) ∈ [(0, some (v.syncState o)), (1, none), (2, some (v.syncState o)), (3, none), (5, none)]) :
    (syncApply b f o x v).path.asks =
      [{ c with applied := some (v.syncState o), stage := .finished, result := some (St.ok, data) }] := by
  have waits (data : Option Nat) : (applyAsk b.id (v.syncState o) data v).cache.waiters = [] :=
    (congrArg Cache.waiters (applyAsk_leaves _ _ data v).2).trans idle
  have applied : (syncApply b f o x v).path.asks = (applyAsk b.id (v.syncState o) data v).path.asks := by
    simp only [List.mem_cons, Prod.mk.injEq, List.not_mem_nil, or_false] at mem
    rcases mem with ⟨rfl, rfl⟩ | ⟨rfl, rfl⟩ | ⟨rfl, rfl⟩ | ⟨rfl, rfl⟩ | ⟨rfl, rfl⟩
    · rfl
    · exact putSync_asks (waits _) _ _
    · exact bumpSync_asks (waits _) _ _
    · exact bumpSync_asks (waits _) _ _
    · exact putSync_asks (waits _) _ _
  rw [applied, same]
  exact applyAsk_own only open_ own

variable (idle : s.cache.waiters = []) (open_ : s.syncSecure (syncIndex o) = false ∨ side.world = true)
  (held : s.sliceState (syncSlice (syncIndex o)) ≠ 1) (admitted : s.admits (s.req side 0 (.sync f o x)) = true)
include idle open_ held admitted

theorem sync_ends
    (mem : (f, data) ∈ [(0, some (s.syncState (syncIndex o))), (1, none), (2, some (s.syncState (syncIndex o))), (3, none), (5, none)]) :
    (arrive side 0 (.sync f o x) s).ends (s.req side 0 (.sync f o x)).id (St.ok, data) ∧ ∃ (b : Ask) (v : State), v.syncs = s.syncs ∧
      (arrive side 0 (.sync f o x) s).syncs = (syncApply b f (syncIndex o) x v).syncs := by
  have code : f ≤ 5 := by
    simp only [List.mem_cons, Prod.mk.injEq, List.not_mem_nil, or_false] at mem
    omega
  obtain ⟨v, c, only, id, stage, -, own, cache, syncs, b, same, -, asks, -, done⟩ := arrive_sync admitted code idle open_ held
  have value : v.syncState (syncIndex o) = s.syncState (syncIndex o) := by rw [State.syncState, syncs, State.syncState]
  have over_ := syncApply_asks (x := x) only same (open_of_accepted stage) own ((congrArg Cache.waiters cache).trans idle) (value ▸ mem)
  exact ⟨State.ends_of_only (asks.trans over_) id rfl rfl, b, v, syncs, done⟩

end

section
variable {s : State} {side : Side} {o x : Nat} (idle : s.cache.waiters = [])
  (open_ : s.syncSecure (syncIndex o) = false ∨ side.world = true) (held : s.sliceState (syncSlice (syncIndex o)) ≠ 1)
  (admitted : s.admits (s.req side 0 (.sync 4 o x)) = true)
include idle open_ held admitted

theorem syncWait_reached (reached : x ≤ syncValue (s.syncState (syncIndex o))) :
    (arrive side 0 (.sync 4 o x) s).ends (s.req side 0 (.sync 4 o x)).id (St.ok, some (s.syncState (syncIndex o) + 2 ^ 34)) := by
  obtain ⟨v, c, only, id, stage, -, own, -, syncs, b, same, watches, asks, -, -⟩ := arrive_sync admitted (by decide) idle open_ held
  have value : v.syncState (syncIndex o) = s.syncState (syncIndex o) := by rw [State.syncState, syncs, State.syncState]
  rw [syncApply_wait watches, value, if_pos reached, same, applyAsk_own only (open_of_accepted stage) own] at asks
  exact State.ends_of_only asks id rfl rfl

theorem syncWait_waits (below : syncValue (s.syncState (syncIndex o)) < x) :
    (arrive side 0 (.sync 4 o x) s).accepts (s.req side 0 (.sync 4 o x)).id ∧
      (arrive side 0 (.sync 4 o x) s).cache.waiters = [(syncIndex o, x, (s.req side 0 (.sync 4 o x)).id)] := by
  obtain ⟨v, c, only, id, stage, journal, -, cache, syncs, b, same, watches, asks, waits, -⟩ :=
    arrive_sync admitted (by decide) idle open_ held
  have value : v.syncState (syncIndex o) = s.syncState (syncIndex o) := by rw [State.syncState, syncs, State.syncState]
  rw [syncApply_wait watches, value, if_neg below.not_ge] at asks waits
  refine ⟨⟨c, id ▸ ask?_of_only (asks.trans only), stage, journal⟩, (congrArg Cache.waiters waits).trans ?_⟩
  show v.cache.waiters ++ [_] = _
  rw [cache, idle, same, id]
  rfl

end

/-! ### The settling -/

section
variable {s : State} {q : Side} {o x : Nat}

/-- A synchronisation command offers its request: its object and its operand as they are. -/
theorem syncRequest_present (present_ : portPresent q.port s = true) (object : o < 2 ^ 17) (operand : x < 2 ^ 32) (f : Nat) :
    syncRequest f q o x s = .next (arrive q 0 (.sync f o x) s) := by
  unfold syncRequest
  rw [present_, Nat.mod_eq_of_lt object, Nat.mod_eq_of_lt operand]
  rfl

/-- A write of an object through the dictionary sets it (R174, R176). -/
theorem gives_syncObjectWrite {r : Req} (index : o < 16384) (value : x < 2 ^ 32)
    (applies : s.applies r (0x2540 + o / 256) (o % 256) (leBytes 8 x) = true) (open_ : s.syncSecure o = false ∨ s.isOwner r = true) :
    Gives (.syncObjectWrite r o x) s fun t => t.syncs = put 0 o x s.syncs := by
  have written : exec (.syncObjectWrite r o x) s = .next (dictWrite r (0x2540 + o / 256) (o % 256) (leBytes 8 x)
      (syncObjectHome o x (s.isOwner r)) s) := by
    have command : exec (.syncObjectWrite r o x) s = .next (dictWrite r (0x2540 + o % 16384 / 256) (o % 256) (leBytes 8 x)
      (syncObjectHome (o % 16384) x (s.isOwner r)) s) := rfl
    rw [command, Nat.mod_eq_of_lt index]
  have first : (s.begun r).ob 0x2500 7 = s.ob 0x2500 7 := begun_ob r s 0x2500 7
  have secure : (s.begun r).syncSecure o = s.syncSecure o := by rw [State.syncSecure, first, State.syncSecure]
  have done : syncObjectHome o x (s.isOwner r) (.req r) (s.begun r) = .done (putSync o x (s.begun r)) := by
    have allowed : (s.syncSecure o && !s.isOwner r) = false := by rcases open_ with normal | owner <;> simp [*]
    unfold syncObjectHome
    rw [secure, allowed, if_neg Bool.false_ne_true, Nat.mod_eq_of_lt value]
  refine ⟨_, written.trans (congrArg Host.Outcome.next (dictWrite_done applies done)), ?_⟩
  show (answer r St.ok 0 (putSync o x (s.begun r))).syncs = _
  rw [(answer_fr (.refl 16576 _)).syncs (by decide), putSync_syncs]
  exact congrArg (put 0 o x) ((countFrame_fr (.refl 1216 s)).syncs (by decide))

end

/-- Settles O45: contributions and timers by what one of them does, and the operations that are admitted by what serving them leaves. -/
theorem reductionsAndSync : Obligations.ReductionsAndSync := by
  unfold Obligations.ReductionsAndSync
  intro s a r
  refine ⟨fun none_ => congrArg (fun t => Host.Outcome.next (serveAll t)) (contribute_none none_), ?contributes,
    fun d c acc started turn => ⟨_, applyNext_turn started turn⟩, ?breaks, ?keeps, rfl, fun q o x => syncApply_syncs q o x s, ?times,
    fun o v index value applies open_ => gives_syncObjectWrite index value applies open_, ?reduce, ?sync,
    fun q d acc p x still only tile stage there open_ started staged more =>
      gives_contributionApply still only tile stage there open_ started staged more,
    fun d still alone one late unstaged unread => gives_reduceTimeout still alone one late unstaged unread,
    fun q p o x still only tile stage one late => gives_syncWaitTimeout still only tile stage one late⟩
  case contributes =>
    intro d e t there open_ applied
    have acts := contribute_some there open_ applied
    exact ⟨fun more => congrArg (fun t => Host.Outcome.next (serveAll t)) (acts.trans (if_neg more)),
      fun last => congrArg (fun t => Host.Outcome.next (serveAll t)) (acts.trans (if_pos last))⟩
  case breaks =>
    intro d one
    refine congrArg (fun t => Host.Outcome.next (serveAll t)) ?_
    rw [reduceTimeouts, one]
    rfl
  case keeps =>
    intro none_
    refine congrArg (fun t => Host.Outcome.next (serveAll t)) ?_
    rw [reduceTimeouts, none_]
    rfl
  case times =>
    exact fun w one => ⟨fun q there late => congrArg (fun t => Host.Outcome.next (serveAll t)) (syncTimeouts_one one there late),
      fun q there early => congrArg (fun t => Host.Outcome.next (serveAll t)) (syncTimeouts_none one there early)⟩
  case reduce =>
    rintro q _ _ _ w d rfl rfl present_ function type tag index count object fits rfl admitted allowed held out takes clean
    exact ⟨_, exec_reduce present_ function type tag index count object fits, reduce_stages admitted allowed held out takes clean⟩
  case sync =>
    rintro q o x _ object operand rfl present_ idle open_ held
    have zero : 0 < 2 ^ 32 := by decide
    have done {f y : Nat} {data : Option Nat} := sync_ends (f := f) (x := y) (data := data) idle open_ held
    have values {v : State} (same : v.syncs = s.syncs) : v.syncState (syncIndex o) = s.syncState (syncIndex o) := by
      rw [State.syncState, same, State.syncState]
    refine ⟨?read, ?set, ?add, ?signal, ?wait, ?reset⟩
    case read =>
      rintro _ rfl admitted
      obtain ⟨ends, b, v, same, syncs⟩ := done (data := some (s.syncState (syncIndex o))) admitted (by simp)
      obtain ⟨read, -⟩ := syncApply_syncs b (syncIndex o) 0 v
      exact ⟨_, syncRequest_present present_ object zero 0, ends, syncs.trans (read.trans same)⟩
    case set =>
      rintro _ rfl admitted
      obtain ⟨ends, b, v, same, syncs⟩ := done (data := none) admitted (by simp)
      obtain ⟨-, set, -⟩ := syncApply_syncs b (syncIndex o) x v
      exact ⟨_, syncRequest_present present_ object operand 1, ends, syncs.trans (set.trans (by rw [same]))⟩
    case add =>
      rintro _ rfl admitted
      obtain ⟨ends, b, v, same, syncs⟩ := done (data := some (s.syncState (syncIndex o))) admitted (by simp)
      obtain ⟨-, -, add, -⟩ := syncApply_syncs b (syncIndex o) x v
      exact ⟨_, syncRequest_present present_ object operand 2, ends, syncs.trans (add.trans (by rw [values same, same]))⟩
    case signal =>
      rintro _ rfl admitted
      obtain ⟨ends, b, v, same, syncs⟩ := done (data := none) admitted (by simp)
      obtain ⟨-, -, -, signal, -⟩ := syncApply_syncs b (syncIndex o) x v
      exact ⟨_, syncRequest_present present_ object operand 3, ends, syncs.trans (signal.trans (by rw [values same, same]))⟩
    case wait =>
      rintro _ rfl admitted
      exact ⟨fun reached => ⟨_, syncRequest_present present_ object operand 4, syncWait_reached idle open_ held admitted reached⟩,
        fun below => ⟨_, syncRequest_present present_ object operand 4, syncWait_waits idle open_ held admitted below⟩⟩
    case reset =>
      rintro _ rfl admitted
      obtain ⟨ends, b, v, same, syncs⟩ := done (data := none) admitted (by simp)
      obtain ⟨-, -, -, -, -, reset⟩ := syncApply_syncs b (syncIndex o) 0 v
      exact ⟨_, syncRequest_present present_ object zero 5, ends, syncs.trans (reset.trans (by rw [same]))⟩

end Sys2Proof.Machine


/-!
PROOF. Fills, write-backs, flushes and slices (R157 to R162, R434), and the settling of O46.
-/
namespace Sys2Proof.Machine

-- One proof after another, each on a stack of its own, for the check's memory.
set_option Elab.async false

/-! ### Nodes with nothing to serve -/

/-- Every request that stands is over. -/
def State.allOver (s : State) : Prop := ∀ q ∈ s.path.asks, q.stage = .finished

section
variable {s : State}

theorem allOver_of_none (none_ : s.path.asks = []) : s.allOver := by
  intro q mem
  rw [none_] at mem
  cases mem

theorem finish_allOver (over_ : s.allOver) (id status : Nat) (data : Option Nat) : finish id status data s = s := by
  unfold finish
  split
  · rfl
  · next q there => exact if_pos (by simp [over_ q (List.mem_of_find?_eq_some there)])

theorem serveAsk_allOver (over_ : s.allOver) (id : Nat) : serveAsk id s = s := by
  unfold serveAsk
  split
  · rfl
  · next q there => exact if_pos (by simp [over_ q (List.mem_of_find?_eq_some there)])

theorem serveAll_allOver (over_ : s.allOver) (idle : s.far.waiting = []) : serveAll s = s := by
  unfold serveAll
  rw [drainFar_idle idle]
  exact forEach_of_fixed fun id _ => serveAsk_allOver over_ id

theorem applyAsk_allOver (over_ : s.allOver) (id value : Nat) (data : Option Nat) :
    (applyAsk id value data s).allOver ∧ (applyAsk id value data s).cache = s.cache := by
  have marked : (s.modAsk id fun a => { a with applied := some value }).allOver := by
    intro q mem
    obtain ⟨p, there, rfl⟩ := List.mem_map.mp mem
    split <;> exact over_ p there
  have same : applyAsk id value data s = s.modAsk id fun a => { a with applied := some value } := finish_allOver marked _ _ _
  rw [same]
  exact ⟨marked, rfl⟩

end

/-! ### The states of slices -/

section
variable {s : State} {x : Nat}

theorem sliceDefault (small : x < 16) : objDefault (objKey (0x2510 + x) 1) = 0 := by
  interval_cases x <;> decide

theorem setSlice_sliceState (small : x < 16) {v : Nat} (set_ : v ≠ 0) : (setSlice x v s).sliceState x = v := by
  have first : (s.setOb (0x2510 + x) 1 v).sliceState x = v :=
    look_put_of_ne (by rw [sliceDefault small]; exact set_) _ _
  refine (State.ob_setOb_ne _ fun same => ?_).trans first
  have := (objKey_inj (by decide) (by decide) same).1
  omega

theorem ReportsOnly.sliceState {t : State} (reports : ReportsOnly s t) (small : x < 16) : t.sliceState x = s.sliceState x := by
  refine reports.objects _ _ (by decide) ?_
  interval_cases x <;> rfl

theorem sliceFault_pair (own : s.sliceState x = 0) (partner : s.sliceState (partnerOf x) = 0) (small : x < 16) :
    sliceFault x s = refuseHeld x (setSlice x 1 (clearArray x (raise Ev.sliceFault x 0 s))) := by
  have reports : (raise Ev.sliceFault x 0 s).sliceState (partnerOf x) = s.sliceState (partnerOf x) :=
    (raise_reports _ _ _ s).sliceState (partnerOf_lt small)
  unfold sliceFault
  rw [own]
  exact if_pos (reports.trans partner)

theorem sliceFault_down (off : s.sliceState x ≠ 0) (shadow : s.sliceState x ≠ 3) : sliceFault x s = s := by
  unfold sliceFault
  split
  · exact absurd ‹_› off
  · exact absurd ‹_› shadow
  · rfl

end

/-! ### Fills -/

section
variable {s : State} {id : Nat} {line : Option (Nat × Nat)} {rest : List (Nat × Option (Nat × Nat))} {q : Ask} {l : Nat × Nat}

theorem missFill_nil (none_ : s.cache.fills = []) : missFill s = s := by rw [missFill, none_]

variable (first : s.cache.fills = (id, line) :: rest)
include first

theorem missFill_gone (gone : s.ask? id = none) : missFill s = { s with cache := { s.cache with fills := rest } } := by
  simp only [missFill, first, gone]
  rfl

theorem missFill_poisoned (there : s.ask? id = some q) (poisoned : line = none) (read : q.op = .read) :
    missFill s = finish id St.poisoned none { s with cache := { s.cache with fills := rest } } := by
  simp only [missFill, first, there, poisoned, read]
  rfl

theorem missFill_read (there : s.ask? id = some q) (comes : line = some l) (read : q.op = .read)
    (past : rulePolicy q.rule = 0 ∨ l.2.testBit 11 = true) :
    missFill s = finishRead id l { s with cache := { s.cache with fills := rest } } := by
  have past : (decide (rulePolicy q.rule = 0) || l.2.testBit 11) = true := by simpa using past
  simp only [missFill, first, there, comes, read, past, if_true]
  rfl

end

/-- A read of an own port whose line comes whole, and sealed as its range is, is over with it. -/
theorem finishRead_own {s : State} {q : Ask} {l : Nat × Nat} (there : s.ask? q.id = some q) (open_ : q.stage ≠ .finished)
    (own : q.own = true) (read : q.op = .read) (clean : l.2.testBit 11 = false) (sealed : l.2.testBit 9 = q.sealed) :
    finishRead q.id l s = finish q.id St.ok (some l.1) s := by
  have over_ : (q.stage == .finished) = false := by simpa using open_
  simp only [finishRead, there, over_, clean, sealed, Ask.internal_of_own own, read, bne_self_eq_false, Bool.and_false,
    Bool.false_eq_true, if_false]

theorem gives_cacheMissFill {s : State} {q : Ask} {p : Nat} {l : Nat × Nat} {rest : List (Nat × Option (Nat × Nat))}
    (idle : s.far.waiting = []) (only : s.path.asks = [q]) (tile : q.side.port = .tile p) (stage : q.stage = .accepted)
    (read : q.op = .read) (first : s.cache.fills = (q.id, some l) :: rest) (past : rulePolicy q.rule = 0)
    (clean : l.2.testBit 11 = false) (sealed : l.2.testBit 9 = q.sealed) :
    Gives .cacheMissFill s fun t => t.ends q.id (St.ok, some l.1) ∧ t.cache.fills = rest := by
  let u : State := { s with cache := { s.cache with fills := rest } }
  have own := Ask.own_of_tile tile
  have open_ := open_of_accepted stage
  have acts : missFill s = finish q.id St.ok (some l.1) u :=
    (missFill_read first (ask?_of_only only) rfl read (.inl past)).trans
      (finishRead_own (s := u) (ask?_of_only only) open_ own read clean sealed)
  have ended : Fr 67371328 u (finish q.id St.ok (some l.1) u) := finish_fr (.refl _ u)
  have over_ := finish_own (s := u) (status := St.ok) (data := some l.1) only open_ own
  have far : (finish q.id St.ok (some l.1) u).far.waiting = [] := (congrArg Far.waiting (ended.far (by decide))).trans idle
  refine ⟨finish q.id St.ok (some l.1) u, ?_, State.ends_of_only over_ rfl rfl rfl, congrArg Cache.fills (ended.cache (by decide))⟩
  show Host.Outcome.next (serveAll (missFill s)) = _
  rw [acts, serveAll_over over_ rfl far]

/-! ### Lines written back -/

section
variable {s : State} {r : Req}

theorem writeBackAll_clean (clean : s.dirtyLines = []) (f : CWay → Bool) : writeBackAll f s = s := by
  have none_ : (s.cache.ways.filterMap fun p => match p.2 with
      | some w => if w.kind == .dirty && f w then some w.line else none
      | none => none) = [] := by
    rw [List.filterMap_eq_nil_iff]
    intro p mem
    have out := List.filterMap_eq_nil_iff.mp clean p mem
    split
    · next w there =>
      rw [there] at out
      dsimp only at out
      split at out
      · cases out
      · next other => rw [if_neg (by simp [other])]
    · rfl
  unfold writeBackAll
  refine Eq.trans (congrArg (fun l => forEach l startWriteBack s) ?_) (rfl : forEach [] startWriteBack s = s)
  exact none_

theorem begun_cache (r : Req) (s : State) : (s.begun r).cache = s.cache := (countFrame_fr (.refl 1216 s)).cache (by decide)

theorem begun_dirtyLines (r : Req) (s : State) : (s.begun r).dirtyLines = s.dirtyLines := by
  rw [State.dirtyLines, begun_cache, State.dirtyLines]

/-- A flush with no line dirty is done at once (R159). -/
theorem exec_flushAll_clean (applies : s.applies r 0x2500 6 [1] = true) (clean : s.dirtyLines = []) :
    exec (.flushAll r) s = .next (answer r St.ok 0 (s.begun r)) := by
  have done : flushAllHome (.req r) (s.begun r) = .done (s.begun r) :=
    if_pos (by rw [begun_dirtyLines, clean]; rfl)
  exact congrArg Host.Outcome.next (dictWrite_done applies done)

theorem startWriteBack_flushAll (l : Nat) (s : State) : (startWriteBack l s).cache.flushAll = s.cache.flushAll := by
  unfold startWriteBack
  dsimp only
  split
  · split
    · rfl
    · next k w _ _ =>
      let u := count (sliceBank (sliceOf (l * 128))) 6 1 (s.setWay k (some { w with writing := true }))
      have counted : Fr 64 (s.setWay k (some { w with writing := true })) u := count_fr (.refl _ _)
      have written : u.cache.flushAll = s.cache.flushAll := (congrArg Cache.flushAll (counted.cache (by decide))).trans rfl
      exact (congrArg Cache.flushAll ((offerInternal_fr (.refl 67391960 u)).cache (by decide))).trans written
  · rfl

theorem writeBackAll_flushAll (f : CWay → Bool) (s : State) : (writeBackAll f s).cache.flushAll = s.cache.flushAll :=
  forEach_related (rel := fun s t => t.cache.flushAll = s.cache.flushAll) (fun _ => rfl) (fun st tu => tu.trans st) _ startWriteBack
    startWriteBack_flushAll s

/-- A flush waits for the lines that were dirty when it came (R159). -/
theorem gives_flushAll_dirty (applies : s.applies r 0x2500 6 [1] = true) (dirty : s.dirtyLines ≠ []) : Gives (.flushAll r) s fun t =>
    t.cache.flushAll = s.cache.flushAll ++ [(.req r, s.dirtyLines)] := by
  have waits : flushAllHome (.req r) (s.begun r) = .wait (writeBackAll (fun _ => true) ((s.begun r).setCache { (s.begun r).cache with
      flushAll := (s.begun r).cache.flushAll ++ [(.req r, (s.begun r).dirtyLines)] })) :=
    if_neg (by rw [begun_dirtyLines]; simpa using dirty)
  have written : exec (.flushAll r) s = .next (settle (.req r) (flushAllHome (.req r) (s.begun r))) :=
    congrArg Host.Outcome.next (dictWrite_applies applies flushAllHome)
  refine ⟨_, written.trans (congrArg (fun x => Host.Outcome.next (settle (.req r) x)) waits), ?_⟩
  refine (writeBackAll_flushAll _ _).trans ?_
  show (s.begun r).cache.flushAll ++ [(.req r, (s.begun r).dirtyLines)] = _
  rw [begun_cache, begun_dirtyLines]

end

/-! ### A counter beside what says where a line stands -/

section
variable {s : State} {i a v : Nat}

theorem retirements_setOb (s : State) (st : Nat) (below : i < 0xA040) (fits : a < 256) :
    (s.setOb i a v).retirements st = s.retirements st := by
  have seen (u : State) : (u.obj.filter fun p => decide (0xA04000 ≤ p.1)).filterMap (fun p =>
      let idx := p.1 / 256
      if decide (retireIdx st 0 ≤ idx) && decide (idx < retireIdx st 8) && p.2.testBit 63 then
        some ((idx - retireIdx st 0) * 256 + p.1 % 256, p.2) else none) = u.retirements st := by
    unfold State.retirements
    rw [List.filterMap_filter]
    refine List.filterMap_congr fun p _ => ?_
    split
    · rfl
    · next low =>
      refine (if_neg fun within => low ?_).symm
      have first := of_decide_eq_true (Bool.and_eq_true_iff.mp (Bool.and_eq_true_iff.mp within).1).1
      unfold retireIdx at first
      exact decide_eq_true (by omega)
  have kept : (s.setOb i a v).obj.filter (fun p => decide (0xA04000 ≤ p.1)) = s.obj.filter fun p => decide (0xA04000 ≤ p.1) :=
    filter_put_of_out (f := fun k => decide (0xA04000 ≤ k)) (decide_eq_false (by unfold objKey; omega)) _
  rw [← seen, kept, seen]

/-- The counter of a slice's bank leaves what says where a line stands and whether it is reached (R43, R45). -/
theorem reachable_setOb (s : State) (l : Nat) (below : i < 0xA040) (sub : 2 < a) (fits : a < 256) :
    (s.setOb i a v).reachable l = s.reachable l := by
  have one (j : Nat) : (s.setOb i a v).ob j 1 = s.ob j 1 := State.ob_setOb_sub s (by omega) fits
  have two (j : Nat) : (s.setOb i a v).ob j 2 = s.ob j 2 := State.ob_setOb_sub s (by omega) fits
  have served (c : Nat) : (s.setOb i a v).servedBy c = s.servedBy c := by
    simp only [State.servedBy, State.chanState, one, two]
    rfl
  have retired (c j b r : Nat) : (s.setOb i a v).retiredTo c j b r = s.retiredTo c j b r := by
    simp only [State.retiredTo, retirements_setOb s _ below fits]
  have placed : (s.setOb i a v).place l = s.place l := by
    simp only [State.place, served, retired]
  simp only [State.reachable, placed, State.chanState, one, served]

theorem unmapped_setOb (s : State) (l : Nat) (sub : 2 < a) (fits : a < 256) : unmapped l (s.setOb i a v) = unmapped l s := by
  have two (j : Nat) : (s.setOb i a v).ob j 2 = s.ob j 2 := State.ob_setOb_sub s (by omega) fits
  unfold unmapped
  rw [two]
  rfl

theorem writeInfo_setOb (s : State) (l : Nat) (high : 0x3010 ≤ i) : (s.setOb i a v).writeInfo l = s.writeInfo l := by
  have found : (s.setOb i a v).regionAt l = s.regionAt l :=
    congrArg (List.find? _) (validRegions_of_lowObjects (setOb_lowObjects s a v high))
  rw [State.writeInfo, State.formatAt, State.sealedAt, found, State.writeInfo, State.formatAt, State.sealedAt]

end

section
variable {s : State} {k : Nat} {w : CWay}

theorem cached_line (s : State) (a : Nat) : s.cached (a / 128 * 128) = s.cached a := by
  have field (hi lo : Nat) (above : 7 ≤ lo) : bits hi lo (a / 128 * 128) = bits hi lo a := by
    have shift : a / 128 * 128 / 2 ^ lo = a / 2 ^ lo := by
      obtain ⟨n, rfl⟩ := Nat.exists_eq_add_of_le above
      rw [Nat.pow_add, ← Nat.div_div_eq_div_mul, ← Nat.div_div_eq_div_mul]
      norm_num
    rw [bits_eq, bits_eq, shift]
  have slice : sliceOf (a / 128 * 128) = sliceOf a := by simp [sliceOf, field]
  have line : a / 128 * 128 / 128 = a / 128 := by omega
  rw [State.cached, slice, line, State.cached]

/-- A dirty line whose write-back is begun is offered to its channel (R158). -/
theorem startWriteBack_offers (alone : s.path.asks = []) (dry : w.writing = false)
    (hit : s.cached (128 * w.line) = some (k, w)) (mine : adNode (128 * w.line) = s.me) (mapped : unmapped (128 * w.line) s = false)
    (reached : s.reachable (128 * w.line) = true) :
    (startWriteBack w.line s).way k = some { w with writing := true } ∧ ∃ q, (startWriteBack w.line s).path.asks = [q] ∧
      q.addr = 128 * w.line ∧ q.op = .put w.data (s.writeInfo (128 * w.line)) ∧ q.why = .writeBack w.line ∧ q.stage = .offered := by
  let a := 128 * w.line
  let x := s.setWay k (some { w with writing := true })
  let u := count (sliceBank (sliceOf a)) 6 1 x
  have counted : u = x.setOb (sliceBank (sliceOf a)) 0x16 (counterPlus (x.ob (sliceBank (sliceOf a)) 0x16) 1) := if_neg (by decide)
  let q := u.unitAsk (0x10 + sliceOf a) 0 0 (u.secureAt a) a (.put w.data (u.writeInfo a)) (.writeBack w.line)
  have below : sliceBank (sliceOf a) < 0xA040 := by
    have := sliceOf_lt a
    unfold sliceBank
    omega
  have mapped' : unmapped a u = false := by
    rw [counted, unmapped_setOb x a (by decide) (by decide)]
    exact mapped
  have reached' : u.reachable a = true := by
    rw [counted, reachable_setOb x a below (by decide) (by decide)]
    exact reached
  have info : u.writeInfo a = s.writeInfo a := by
    rw [counted, writeInfo_setOb x a (high_sliceBank _)]
    rfl
  have me : u.me = s.me := by rw [counted]; rfl
  have acts : startWriteBack w.line s = addAsk q u := by
    unfold startWriteBack
    rw [Nat.mul_comm w.line 128]
    simp only [hit, dry, Bool.false_eq_true, if_false]
    show offerInternal (0x10 + sliceOf a) 0 0 (u.secureAt a) a (.put w.data (u.writeInfo a)) (.writeBack w.line) u = _
    refine (if_neg ?_).trans ((if_neg ?_).trans (if_neg ?_))
    · rw [me, bne_iff_ne, not_not]
      exact mine
    · rw [mapped']
      exact Bool.false_ne_true
    · rw [reached', Bool.not_true, Bool.and_false]
      exact Bool.false_ne_true
  rw [acts]
  refine ⟨?_, q, ?_, rfl, congrArg (Op.put w.data) info, rfl, rfl⟩
  · show u.way k = _
    rw [counted]
    exact way_setWay_same s k _
  · show u.path.asks ++ [q] = [q]
    have none_ : u.path.asks = [] := by
      rw [counted]
      exact alone
    rw [none_, List.nil_append]

end

/-! ### Write-backs that are accepted -/

section
variable {s : State} {x : Nat} {q : Ask}

theorem takeWriteBack_none (none_ : s.endedBack x = none) : takeWriteBack x s = s := by rw [takeWriteBack, none_]

theorem takeWriteBack_put {d i : Nat} {o : Option Nat} (ended : s.endedBack x = some q) (op : q.op = .put d i)
    (result : q.result = some (0, o)) : takeWriteBack x s = endClose q.addr d (writtenBack (q.addr / 128) d
      (retire q.id (s.modAsk q.id fun b => { b with delivered := true }))) := by
  simp only [takeWriteBack, ended, op, result]

/-- Where every request is over, what is done with a line that is clean leaves the ways, the reductions and the waiting writes. -/
theorem lineClean_allOver (over_ : s.allOver) (line : Nat) : (lineClean line s).allOver ∧
    (lineClean line s).cache.ways = s.cache.ways ∧ (lineClean line s).cache.reds = s.cache.reds ∧
    (lineClean line s).cache.allocs = s.cache.allocs := by
  unfold lineClean
  extract_lets fl _ u v held w all _ y
  obtain ⟨over_v, cache_v⟩ : v.allOver ∧ v.cache = u.cache := by
    have run := forEach_related (rel := fun s t => s.allOver → t.allOver ∧ t.cache = s.cache) (fun _ over_ => ⟨over_, rfl⟩)
      (fun st tu over_ => by
        obtain ⟨over_, first⟩ := st over_
        obtain ⟨over_, second⟩ := tu over_
        exact ⟨over_, second.trans first⟩)
      fl (fun f s => applyAsk f.1 0 none s) (fun f s over_ => applyAsk_allOver over_ f.1 0 none) u
    exact run over_
  have none_ : held = [] := by
    refine List.filter_eq_nil_iff.mpr fun b mem => ?_
    simp [over_v b mem]
  have same : w = v := by
    unfold w
    rw [none_]
    rfl
  have completes (p : Completer × List Nat) (z : State) : Fr 16832 z (complete p.1 St.ok 0 z) := complete_fr (.refl _ z)
  have run := forEach_related (rel := fun s t => t.path = s.path ∧ t.cache = s.cache) (fun _ => ⟨rfl, rfl⟩)
    (fun st tu => ⟨tu.1.trans st.1, tu.2.trans st.2⟩) (all.filter fun p => p.2.isEmpty) (fun p s => complete p.1 St.ok 0 s)
    (fun p z => ⟨(completes p z).path (by decide), (completes p z).cache (by decide)⟩) y
  obtain ⟨path, cache⟩ := run
  have from_ : y.path = v.path := show w.path = v.path by rw [same]
  refine ⟨?_, ?_, ?_, ?_⟩
  · intro q mem
    rw [path, from_] at mem
    exact over_v q mem
  · exact (congrArg Cache.ways cache).trans (show w.cache.ways = u.cache.ways by rw [same, cache_v])
  · exact (congrArg Cache.reds cache).trans (show w.cache.reds = u.cache.reds by rw [same, cache_v])
  · exact (congrArg Cache.allocs cache).trans (show w.cache.allocs = u.cache.allocs by rw [same, cache_v])

/-- A line that is written back and has not changed since is clean, where every request is over. -/
theorem writtenBack_allOver {a k d : Nat} {w : CWay} (over_ : s.allOver) (hit : s.cached a = some (k, w)) (data : w.data = d) :
    (writtenBack (a / 128) d s).allOver ∧ (writtenBack (a / 128) d s).way k = some { w with kind := .clean, writing := false } ∧
    (writtenBack (a / 128) d s).cache.reds = s.cache.reds ∧ (writtenBack (a / 128) d s).cache.allocs = s.cache.allocs := by
  subst data
  have line : s.cached (a / 128 * 128) = some (k, w) := (cached_line s a).trans hit
  let u := s.setWay k (some { w with kind := .clean, writing := false })
  have cleaned : u.way k = some { w with kind := .clean, writing := false } := way_setWay_same s k _
  let v : State := match u.mirrorOf (a / 128 * 128) with | some q => u.setWay q.1 none | none => u
  have acts : writtenBack (a / 128) w.data s = lineClean (a / 128 * 128 / 128) (syncDirty (a / 128 * 128) v) := by
    simp only [writtenBack, line, if_true, cleanLine]
    rfl
  have kept : v.way k = u.way k ∧ v.path = s.path ∧ v.cache.reds = s.cache.reds ∧ v.cache.allocs = s.cache.allocs := by
    unfold v
    split
    · next q mirror =>
      refine ⟨way_setWay_other _ _ fun same => ?_, rfl, rfl, rfl⟩
      obtain ⟨there, -, kind⟩ := findWay_some mirror
      rw [← same, cleaned] at there
      rw [← Option.some.inj there] at kind
      exact absurd (show (WayKind.clean == WayKind.mirror) = true from kind) (by decide)
    · exact ⟨rfl, rfl, rfl, rfl⟩
  obtain ⟨way, path, reds, allocs⟩ := kept
  have over' : (syncDirty (a / 128 * 128) v).allOver := by
    intro q mem
    exact over_ q (by rw [← path]; exact mem)
  obtain ⟨done, ways', reds', allocs'⟩ := lineClean_allOver over' (a / 128 * 128 / 128)
  rw [acts]
  refine ⟨done, ?_, reds'.trans reds, allocs'.trans allocs⟩
  rw [State.way, ways']
  exact way.trans cleaned

theorem gives_writeBackAccepted {d i k : Nat} {o : Option Nat} {w : CWay} (small : x < 16) (idle : s.far.waiting = [])
    (only : s.path.asks = [q]) (ended : s.endedBack x = some q) (op : q.op = .put d i) (result : q.result = some (0, o))
    (reds : s.cache.reds = []) (allocs : s.cache.allocs = []) (hit : s.cached q.addr = some (k, w)) (data : w.data = d) :
    Gives (.writeBackAccepted x) s fun t => (t.way k).map CWay.kind = some .clean := by
  have finished : q.stage = .finished := by
    have found := List.find?_some ended
    simp only [Bool.and_eq_true, beq_iff_eq] at found
    obtain ⟨⟨⟨⟨over_, -⟩, -⟩, -⟩, -⟩ := found
    exact over_
  let u := retire q.id (s.modAsk q.id fun b => { b with delivered := true })
  have over_ : u.allOver := by
    intro p mem
    have there : p ∈ (s.modAsk q.id fun b => { b with delivered := true }).path.asks := (List.mem_filter.mp mem).1
    rw [modAsk_only only] at there
    rw [List.mem_singleton.mp there]
    exact finished
  obtain ⟨done, way, reds', allocs'⟩ := writtenBack_allOver (s := u) over_ hit data
  let v := writtenBack (q.addr / 128) d u
  have none_ : v.redOn q.addr = none := by
    rw [State.redOn, reds']
    show s.cache.reds.find? _ = none
    rw [reds]
    rfl
  have taken : takeWriteBack x s = v := by
    rw [takeWriteBack_put ended op result, endClose, none_]
  have retried : retryAllocs v = v.setCache { v.cache with allocs := [] } := by
    unfold retryAllocs
    have empty : v.cache.allocs = [] := allocs'.trans allocs
    rw [empty]
    rfl
  have far : v.far = s.far := (writtenBack_fr (.refl 67912128 u)).far (by decide)
  have over_v : (v.setCache { v.cache with allocs := [] }).allOver := done
  refine ⟨v.setCache { v.cache with allocs := [] }, ?_, ?_⟩
  · refine (if_pos (decide_eq_true small)).trans (congrArg Host.Outcome.next ?_)
    rw [taken, retried, serveAll_allOver over_v ((congrArg Far.waiting far).trans idle)]
  · exact congrArg (Option.map CWay.kind) way

end

/-! ### Slices that are taken over, and those that fail -/

section
variable {s : State} {x : Nat}

theorem sliceTaken_other (b : Bool) (other : s.sliceState x ≠ 1) : sliceTaken x b s = s := if_pos (by simpa using other)

/-- The state in which a slice's partner serves its lines. -/
def State.takenOver (s : State) (x : Nat) (b : Bool) : State := raise Ev.sliceTakenOver x 0 (setSlice x (if b then 3 else 2) s)

theorem takenOver_sliceState (small : x < 16) (b : Bool) (s : State) : (s.takenOver x b).sliceState x = if b then 3 else 2 :=
  ((raise_reports _ _ _ _).sliceState small).trans (setSlice_sliceState small (by cases b <;> decide))

theorem takenOver_cache (b : Bool) (s : State) : (s.takenOver x b).cache = s.cache := (raise_reports _ _ _ (setSlice x _ s)).cache

/-- With no line in the partner's array nothing is promoted. -/
theorem sliceTaken_takenOver (b : Bool) (faulted : s.sliceState x = 1) (empty : s.arrayOf (partnerOf x) = []) : sliceTaken x b s =
    writeBackAll (fun w => sliceOf (128 * w.line) == x || sliceOf (128 * w.line) == partnerOf x) (s.takenOver x b) := by
  have array : (s.takenOver x b).arrayOf (partnerOf x) = [] := by rw [State.arrayOf, takenOver_cache, ← State.arrayOf, empty]
  refine (if_neg (by simp [faulted])).trans ?_
  show writeBackAll _ (forEach ((s.takenOver x b).arrayOf (partnerOf x)) _ (s.takenOver x b)) = _
  rw [array]
  rfl

theorem gives_sliceTakenOver (small : x < 16) (idle : s.far.waiting = []) (alone : s.path.asks = []) (faulted : s.sliceState x = 1)
    (empty : s.cache.ways = []) (b : Bool) : Gives (.sliceTakenOver x b) s fun t => t.sliceState x = if b then 3 else 2 := by
  have reports := raise_reports Ev.sliceTakenOver x 0 (setSlice x (if b then 3 else 2) s)
  have acts : sliceTaken x b s = s.takenOver x b := by
    rw [sliceTaken_takenOver b faulted (by simp [State.arrayOf, empty])]
    exact writeBackAll_of_empty _ ((congrArg Cache.ways (takenOver_cache b s)).trans empty)
  have over_ : (s.takenOver x b).allOver := allOver_of_none ((congrArg Path.asks reports.path).trans alone)
  refine ⟨s.takenOver x b, (if_pos (decide_eq_true small)).trans (congrArg Host.Outcome.next ?_), takenOver_sliceState small b s⟩
  rw [acts, serveAll_allOver over_ ((congrArg Far.waiting reports.far).trans idle)]

theorem gives_sliceFault (small : x < 16) (idle : s.far.waiting = []) (alone : s.path.asks = []) (sound : s.recovering = false)
    (own : s.sliceState x = 0) (partner : s.sliceState (partnerOf x) = 0) :
    Gives (.sliceFault x) s fun t => t.sliceState x = 1 := by
  let u := s.setOb 0xB040 1 4
  have same (y : Nat) (bound : y < 16) : u.sliceState y = s.sliceState y := State.ob_setOb_ne s fun key => by
    have := (objKey_inj (by decide) (by decide) key).1
    omega
  let v := clearArray x (raise Ev.sliceFault x 0 u)
  have reports := raise_reports Ev.sliceFault x 0 u
  have none_ : (setSlice x 1 v).path.asks = [] := (congrArg Path.asks reports.path).trans alone
  have acts : sliceFault x u = setSlice x 1 v := by
    rw [sliceFault_pair ((same x small).trans own) ((same _ (partnerOf_lt small)).trans partner) small]
    unfold refuseHeld
    rw [none_]
    rfl
  have faulted : singleFault Ev.sliceFault (sliceFault x) s = setSlice x 1 v := by
    unfold singleFault
    rw [sound, Bool.false_and]
    exact acts
  refine ⟨setSlice x 1 v, (if_pos (decide_eq_true small)).trans (congrArg Host.Outcome.next ?_),
    setSlice_sliceState small (by decide)⟩
  rw [faulted, serveAll_allOver (allOver_of_none none_) ((congrArg Far.waiting reports.far).trans idle)]

/-- A slice in shadow state, or out, rejoins when it is asked to (R434). -/
theorem gives_sliceRejoin {r : Req} (small : x < 16) (applies : s.applies r (0x2510 + x) 8 [1] = true)
    (shadow : s.sliceState x = 3 ∨ s.sliceState x = 4) : Gives (.sliceRejoin r x) s fun t =>
      t.cache = { s.cache with rejoin := (s.cache.rejoin.filter fun z => z != x) ++ [x] } ∧
      t.plans = { s.plans with rejoinAt := put 0 (0x500 + x) (s.setTicks + 1) s.plans.rejoinAt } := by
  have other : logObject (0x2510 + x) = false := by simp [logObject]; omega
  have state : ((s.begun r).sliceState x = 3 || (s.begun r).sliceState x = 4) = true := by
    rw [State.sliceState, begun_ob r s (0x2510 + x) 1 other]
    simpa [State.sliceState] using shadow
  have done (who : Completer) : sliceRejoinHome x who (s.begun r) = .done (((s.begun r).setCache { (s.begun r).cache with
      rejoin := ((s.begun r).cache.rejoin.filter fun z => z != x) ++ [x] }).armRejoin (0x500 + x)) := if_pos state
  have written : exec (.sliceRejoin r x) s = .next (dictWrite r (0x2510 + x % 16) 8 [1] (sliceRejoinHome (x % 16)) s) := rfl
  rw [Nat.mod_eq_of_lt small, dictWrite_done applies (done _)] at written
  refine ⟨_, written, ?_, answer_armRejoin _ (begun_plans r s) (begun_setTicks r s)⟩
  dsimp only
  rw [(answer_fr (.refl 16576 _)).cache (by decide)]
  show { (s.begun r).cache with rejoin := ((s.begun r).cache.rejoin.filter fun z => z != x) ++ [x] } = _
  rw [begun_cache]

end

/-! ### The settling -/

theorem gives_writebackAgeExpiry {s : State} {k a : Nat} {w : CWay} (alone : s.path.asks = []) (one : s.cache.ways = [(k, some w)])
    (dirty : w.kind = .dirty) (dry : w.writing = false) (line : a = 128 * w.line) (hit : s.cached a = some (k, w)) (mine : adNode a = s.me)
    (mapped : unmapped a s = false) (reached : s.reachable a = true)
    (late : s.elapsed w.modified (s.ob 0x2500 5 * 1000 * nsT) = true) : Gives .writebackAgeExpiry s fun t =>
      t.way k = some { w with writing := true } ∧
      ∃ q, t.path.asks = [q] ∧ q.addr = a ∧ q.op = .put w.data (s.writeInfo a) ∧ q.why = .writeBack w.line ∧ q.stage = .offered := by
  subst line
  have lines : (s.cache.ways.filterMap fun p => match p.2 with
      | some w => if w.kind == .dirty && s.elapsed w.modified (s.ob 0x2500 5 * 1000 * nsT) then some w.line else none
      | none => none) = [w.line] := by simp [one, dirty, late]
  have acts : writeBackAll (fun w => s.elapsed w.modified (s.ob 0x2500 5 * 1000 * nsT)) s = startWriteBack w.line s := by
    unfold writeBackAll
    exact (congrArg (fun l => forEach l startWriteBack s) lines).trans rfl
  refine ⟨_, congrArg Host.Outcome.next acts, startWriteBack_offers alone dry hit mine mapped reached⟩

/-- Settles O46: one lemma for each branch of a fill, a write-back, a flush and a slice's fault, and what stands where it alone is under way. -/
theorem cacheAndSlices : Obligations.CacheAndSlices := by
  unfold Obligations.CacheAndSlices
  intro s x r small
  have serves {t u : State} (same : t = u) : Host.Outcome.next (serveAll t) = (.next (serveAll u) : Res) := by rw [same]
  have here {t u : State} (same : t = u) : present (decide (x < 16)) (serveAll t) = .next (serveAll u) :=
    same ▸ if_pos (decide_eq_true small)
  refine ⟨fun none_ => serves (missFill_nil none_), ?fills, rfl, fun clean => congrArg Host.Outcome.next (writeBackAll_clean clean _),
    exec_flushAll_clean, gives_flushAll_dirty, fun none_ => here (congrArg retryAllocs (takeWriteBack_none none_)),
    fun q d i o ended op result => here (congrArg retryAllocs (takeWriteBack_put ended op result)),
    fun own partner => sliceFault_pair own partner small, sliceFault_down, fun b other => here (sliceTaken_other b other), ?taken,
    gives_sliceRejoin small, fun idle => ⟨?fill, ?age, ?back, ?promoted, ?fault⟩⟩
  case fills =>
    intro id line rest first
    refine ⟨fun gone => serves (missFill_gone first gone), fun q there poisoned read => serves (missFill_poisoned first there poisoned read),
      fun q l there comes read past => serves (missFill_read first there comes read past)⟩
  case taken =>
    rintro b _ faulted rfl empty
    exact ⟨takenOver_sliceState small b s, here (sliceTaken_takenOver b faulted empty)⟩
  case fill => exact fun q p l rest only tile stage read first past clean sealed =>
    gives_cacheMissFill idle only tile stage read first past clean sealed
  case age => exact fun k w a alone one dirty dry line hit mine mapped reached late =>
    gives_writebackAgeExpiry alone one dirty dry line hit mine mapped reached late
  case back => exact fun q d i o k w only ended op result reds allocs hit data =>
    gives_writeBackAccepted small idle only ended op result reds allocs hit data
  case promoted => exact fun alone faulted empty b => gives_sliceTakenOver small idle alone faulted empty b
  case fault => exact fun alone sound own partner => gives_sliceFault small idle alone sound own partner

end Sys2Proof.Machine


/-!
PROOF. O58, every step keeps the invariant, the silicon's configuration, the queue and what was sent. The rules by which an operation
is shown to keep them: a change of some parts, an operation whose frame has none of the bounded parts, a choice, and a loop.
-/
namespace Sys2Proof.Machine

-- One proof after another, each on a stack of its own, for the check's memory.
set_option Elab.async false

/-- The parts `Keeps` speaks of, by their numbers in a frame (see Laws/Frame). -/
def keptParts : Nat := 2 ^ 0 + 2 ^ 1 + 2 ^ 3 + 2 ^ 6 + 2 ^ 7 + 2 ^ 9 + 2 ^ 10 + 2 ^ 12 + 2 ^ 14 + 2 ^ 15 + 2 ^ 21 + 2 ^ 26

/-- An operation whose frame has none of those parts keeps them. -/
theorem Keeps.free {μ : Nat} {a s t : State} (h : Keeps a s) (k : Fr μ s t) (away : μ &&& keptParts = 0 := by decide) : Keeps a t := by
  have out (i : Nat) (hi : keptParts.testBit i = true) : μ.testBit i = false := by
    have := congrArg (fun n => n.testBit i) away
    simpa [Nat.testBit_and, hi] using this
  have hd := k.dram (out 9 rfl)
  have hm := k.mgmt (out 7 rfl)
  refine h.same ⟨k.cfg (out 1 rfl), k.pending (out 15 rfl), k.now (out 0 rfl), k.out (out 14 rfl), k.obj (out 6 rfl), k.syncs (out 21 rfl), ?_, ?_,
    ?_, ?_, ?_, ?_, ?_, ?_, ?_⟩
  · rw [hd]
  · rw [hd]
  · rw [hm]
  · rw [k.nvm (out 12 rfl)]
  · rw [hm]
  · rw [hm]
  · rw [k.procs (out 3 rfl)]
  · rw [k.sec (out 10 rfl)]
  · rw [k.sampler (out 26 rfl)]

/-- One change of a state: parts of no bound may be anything, and each of the others is as it was or keeps its bound. -/
theorem Keeps.update {a s : State}
    {power : _} {procs : _} {pins : _} {wrap : _} {obj : _} {mgmt : _} {hl : _} {dram : _} {sec : _} {fuses : _} {nvm : _}
    {free : _} {out : _} {plans : _} {feeds : _} {path : _} {cache : _} {far : _} {syncs : _} {heat : _} {train : _} {clk : _}
    {upd : _} {sampler : _}
    (h : Keeps a s)
    (objects : Canonical objDefault s.obj → Canonical objDefault obj := by exact fun k => k)
    (signals : Canonical (fun _ => 0) s.syncs → Canonical (fun _ => 0) syncs := by exact fun k => k)
    (fills : Fills s.dram.fill → Fills dram.fill := by exact fun k => k)
    (cells : Fills s.dram.fill → Canonical (cellDefault s.dram.fill) s.dram.cells → Canonical (cellDefault dram.fill) dram.cells := by
      exact fun _ k => k)
    (log : s.mgmt.log.length ≤ 1024 → mgmt.log.length ≤ 1024 := by exact fun k => k)
    (mirror : s.nvm.mirror.length ≤ 256 → nvm.mirror.length ≤ 256 := by exact fun k => k)
    (ring : s.mgmt.window.ring.length ≤ 64 → mgmt.window.ring.length ≤ 64 := by exact fun k => k)
    (sources : s.mgmt.sources.length ≤ 16 → mgmt.sources.length ≤ 16 := by exact fun k => k)
    (staged : s.procs.staged.length ≤ 64 → procs.staged.length ≤ 64 := by exact fun k => k)
    (sessions : s.sec.sessions.length ≤ 4 → sec.sessions.length ≤ 4 := by exact fun k => k)
    (samples : s.sampler.ring.length ≤ 4096 → sampler.ring.length ≤ 4096 := by exact fun k => k)
    (sent : s.out <+: out := by exact List.prefix_refl _) :
    Keeps a
      ⟨s.now, s.cfg, power, procs, pins, wrap, obj, mgmt, hl, dram, sec, fuses, nvm, free, out, s.pending, plans,
        feeds, path, cache, far, syncs, heat, train, clk, upd, sampler⟩ :=
  h.change rfl le_rfl sent ⟨rfl, objects, signals, fills, cells, log, mirror, ring, sources, staged, sessions, samples⟩

/-- The choice between two states that are kept. -/
theorem Keeps.ite {a x y : State} {c : Prop} [Decidable c] (h : Keeps a x) (k : Keeps a y) : Keeps a (if c then x else y) :=
  keeps_ite (fun _ => h) fun _ => k

theorem keeps_ite3 {β γ : Type} {a : State} {c : Prop} [Decidable c] {x y : β × State × γ} (h : Keeps a x.2.1) (k : Keeps a y.2.1) :
    Keeps a (if c then x else y).2.1 := by split <;> assumption

theorem KeepsO.trans {a s : State} {o : Option State} (h : Keeps a s) (k : KeepsO s o) : KeepsO a o := fun t e => Keeps.trans h (k t e)

theorem KeepsOS.trans {a s : State} {α : Type} {o : Option (α × State)} (h : Keeps a s) (k : KeepsOS s o) : KeepsOS a o :=
  fun x t e => Keeps.trans h (k x t e)

theorem KeepsW.trans {a s : State} {r : WResult} (h : Keeps a s) (k : KeepsW s r) : KeepsW a r := by
  cases r <;> exact Keeps.trans h k

theorem KeepsR.trans {a s : State} {r : Res} (h : Keeps a s) (k : KeepsR s r) : KeepsR a r := by
  cases r with
  | next t => exact Keeps.trans h k
  | fault => trivial
  | refused => trivial

theorem KeepsO.getD {a s : State} {o : Option State} (h : KeepsO a o) (k : Keeps a s) : Keeps a (o.getD s) := by
  cases o with
  | none => exact k
  | some t => exact h t rfl

theorem keepsW_denied {a t : State} (h : Keeps a t) : KeepsW a (WResult.denied t) := h

theorem present_keeps {a t : State} {p : Bool} (h : Keeps a t) : KeepsR a (present p t) := by
  cases p
  · trivial
  · exact h

theorem applyHome_keeps {a s : State} {f : State → State} {who : Completer} (h : Keeps a s) (k : ∀ s, Keeps s (f s)) :
    KeepsW a (applyHome f who s) := Keeps.trans h (k s)

theorem wrapPowered_keeps {a s : State} {f : State → State} (h : Keeps a s) (k : ∀ s, Keeps s (f s)) : Keeps a (wrapPowered f s) := by
  unfold wrapPowered
  exact Keeps.ite h (h.trans (k s))

theorem orElse_keeps {a : State} {next : State → State} {r : Bool × State} (h : Keeps a r.2) (k : ∀ s, Keeps s (next s)) :
    Keeps a (orElse next r) := by
  unfold orElse
  exact Keeps.ite h (h.trans (k _))

/-! ### Loops of operations that keep the state they are given -/

theorem each_keeps {a s : State} {α : Type} {l : List α} {f : α → State → State} (h : Keeps a s) (k : ∀ x s, Keeps s (f x s)) :
    Keeps a (forEach l f s) := forEach_keeps l f (fun x s h => h.trans (k x s)) h

theorem fold_keeps {a s : State} {α : Type} {l : List α} {f : State → α → State} (h : Keeps a s) (k : ∀ s x, Keeps s (f s x)) :
    Keeps a (l.foldl f s) := foldl_keeps l f (fun s x h => h.trans (k s x)) h

end Sys2Proof.Machine


/-!
PROOF. O58: what the operations on bounded parts come down to. A transaction is remembered, and
the cells of the stacks and the blocks filled whole stay in canonical form under every write, fill, loss and copy.
-/
namespace Sys2Proof.Machine

-- One proof after another, each on a stack of its own, for the check's memory.
set_option Elab.async false

/-! ### Short lists -/

theorem canonical_nil {V : Type} {d : Nat → V} : Canonical d [] := ⟨List.Pairwise.nil, fun _ h => nomatch h⟩

theorem Procs.set_staged (p : Procs) (i : ProcId) (x : Proc) : (p.set i x).staged = p.staged := by cases i <;> rfl

theorem Keeps.setProc {a s : State} (h : Keeps a s) (i : ProcId) (x : Proc) : Keeps a { s with procs := s.procs.set i x } :=
  h.update (staged := fun k => by rw [Procs.set_staged]; exact k)

theorem recordTxn_length (src : Source) (num : Nat) (a : Option Answer) (l : List SourceLog) : (recordTxn src num a l).length ≤ 16 :=
  pushLast_length _ _ _

/-! ### The blocks filled whole -/

theorem Fills.put {t : Store Nat} (h : Fills t) {k v : Nat} (even : k % 2 = 0) : Fills (Machine.put 0 k v t) := by
  refine ⟨h.1.put (d := fun _ => 0), fun p hp => ?_⟩
  rcases mem_put hp with ⟨rfl, -⟩ | hp
  · exact even
  · exact h.2 p hp

theorem look_of_unlisted {V : Type} {d : V} {k : Nat} {t : Store V} (h : ∀ p ∈ t, p.1 ≠ k) : look d k t = d := by
  induction t with
  | nil => rfl
  | cons q t ih =>
    obtain ⟨i, w⟩ := q
    rw [look, if_neg (h (i, w) (List.mem_cons_self ..))]
    exact ih fun p hp => h p (List.mem_cons_of_mem _ hp)

/-- A spare row is in no block that is filled whole. -/
theorem Fills.look_spare {t : Store Nat} (h : Fills t) {k : Nat} (odd : k % 2 = 1) : look 0 k t = 0 :=
  look_of_unlisted fun p hp e => by
    have := h.2 p hp
    omega

theorem blockKey_even (c block : Nat) : blockKey c block % 2 = 0 := by
  unfold blockKey
  omega

theorem blockKey_inj {c d b e : Nat} (hb : b < 512) (he : e < 512) (h : blockKey c b = blockKey d e) : c = d ∧ b = e := by
  unfold blockKey at h
  omega

/-- The fills of a channel's blocks as they stand after every block of channel `src` is copied to channel `dst`, up to block `n`. -/
def copyFills (src dst n : Nat) (t : Store Nat) : Store Nat :=
  forEach (List.range n) (fun b t => put 0 (blockKey dst b) (look 0 (blockKey src b) t) t) t

theorem copyFills_succ (src dst n : Nat) (t : Store Nat) : copyFills src dst (n + 1) t =
    put 0 (blockKey dst n) (look 0 (blockKey src n) (copyFills src dst n t)) (copyFills src dst n t) := by
  simp [copyFills, forEach, List.range_succ]

theorem copyFills_fills {src dst n : Nat} {t : Store Nat} (h : Fills t) : Fills (copyFills src dst n t) := by
  induction n with
  | zero => exact h
  | succ n ih =>
    rw [copyFills_succ]
    exact ih.put (blockKey_even _ _)

/-- Outside the blocks of `dst` the fills stay. -/
theorem copyFills_other {src dst n k : Nat} (t : Store Nat) (h : ∀ b < n, k ≠ blockKey dst b) :
    look 0 k (copyFills src dst n t) = look 0 k t := by
  induction n with
  | zero => rfl
  | succ n ih =>
    rw [copyFills_succ, look_put_ne _ (h n (by omega))]
    exact ih fun b hb => h b (by omega)

/-- The fills of `src` stay, and those of `dst` are the same as far as the copy has gone. -/
theorem copyFills_blocks {src dst n : Nat} {t : Store Nat} (h : Fills t) (hn : n ≤ 512) :
    (∀ b < 512, look 0 (blockKey src b) (copyFills src dst n t) = look 0 (blockKey src b) t) ∧
      ∀ b < n, look 0 (blockKey dst b) (copyFills src dst n t) = look 0 (blockKey src b) t := by
  induction n with
  | zero => exact ⟨fun _ _ => rfl, fun _ hb => absurd hb (by omega)⟩
  | succ n ih =>
    obtain ⟨source, copied⟩ := ih (by omega)
    have sorted := (copyFills_fills (src := src) (dst := dst) (n := n) h).1.1
    refine ⟨fun b hb => ?_, fun b hb => ?_⟩ <;> rw [copyFills_succ]
    · by_cases e : blockKey src b = blockKey dst n
      · obtain ⟨rfl, rfl⟩ := blockKey_inj hb (by omega) e
        rw [look_put_eq sorted, source b hb]
      · rw [look_put_ne _ e, source b hb]
    · by_cases e : b = n
      · rw [e, look_put_eq sorted, source n (by omega)]
      · rw [look_put_ne _ fun k => e (blockKey_inj (by omega) (by omega) k).2, copied b (by omega)]

/-! ### The cells -/

/-- What the cells of a block that was not touched read as when unlisted stays. -/
theorem cellDefault_congr {f g : Store Nat} {a : Nat} (h : look 0 (fillKey (a / 136)) f = look 0 (fillKey (a / 136)) g) :
    cellDefault f a = cellDefault g a := by
  unfold cellDefault defaultLine
  rw [h]

/-- A change of the memory that keeps both of its stores in canonical form. -/
structure KeepsMemory (x y : Dram) : Prop where
  fills : Fills x.fill → Fills y.fill
  cells : Fills x.fill → Canonical (cellDefault x.fill) x.cells → Canonical (cellDefault y.fill) y.cells

theorem KeepsMemory.refl (m : Dram) : KeepsMemory m m := ⟨id, fun _ h => h⟩

theorem KeepsMemory.trans {x y z : Dram} (h : KeepsMemory x y) (k : KeepsMemory y z) : KeepsMemory x z :=
  ⟨k.fills ∘ h.fills, fun f c => k.cells (h.fills f) (h.cells f c)⟩

theorem KeepsMemory.forEach {α : Type} (l : List α) {f : α → Dram → Dram} (k : ∀ a m, KeepsMemory m (f a m)) (m : Dram) :
    KeepsMemory m (Machine.forEach l f m) := by
  induction l generalizing m with
  | nil => exact .refl m
  | cons a l ih => exact (k a m).trans (ih (f a m))

theorem KeepsMemory.same {x y : Dram} (fill : y.fill = x.fill) (cells : y.cells = x.cells) : KeepsMemory x y :=
  ⟨fun h => fill ▸ h, fun _ h => by rw [fill, cells]; exact h⟩

theorem Keeps.memory {a s : State} {m : Dram} (h : Keeps a s) (k : KeepsMemory s.dram m) : Keeps a { s with dram := m } :=
  h.update (fills := k.fills) (cells := k.cells)

theorem writeCells_fill (m : Dram) (addr : Nat) (bs : List Byte) : (writeCells m addr bs).fill = m.fill := by
  induction bs generalizing m addr with
  | nil => rfl
  | cons b bs ih => exact ih _ _

theorem writeCells_canonical {m : Dram} (addr : Nat) (bs : List Byte) (h : Canonical (cellDefault m.fill) m.cells) :
    Canonical (cellDefault m.fill) (writeCells m addr bs).cells := by
  induction bs generalizing m addr with
  | nil => exact h
  | cons b bs ih => exact ih (m := writeCell m addr b) _ h.put

theorem writePhys_memory (m : Dram) (k : Nat) (bs : List Byte) : KeepsMemory m (writePhys m k bs) := by
  have fill : (writePhys m k bs).fill = m.fill := by
    unfold writePhys
    dsimp only
    split <;> exact writeCells_fill _ _ _
  have cells : (writePhys m k bs).cells = (writeCells m (136 * k) (fitBytes 136 bs)).cells := by
    unfold writePhys
    dsimp only
    split <;> rfl
  exact ⟨fun h => fill ▸ h, fun _ h => by rw [fill, cells]; exact writeCells_canonical _ _ h⟩

theorem loseSpare_memory (c layer bank row : Nat) (m : Dram) : KeepsMemory m (loseSpare c layer bank row m) := .same rfl rfl

theorem loseSegments_memory (c mask : Nat) (m : Dram) : KeepsMemory m (loseSegments c mask m) := by
  unfold loseSegments
  refine KeepsMemory.forEach _ (fun g m => ?_) m
  refine KeepsMemory.forEach _ (fun b m => ?_) m
  exact .same rfl rfl

theorem fillBlock_memory (c block code : Nat) (m : Dram) : KeepsMemory m (fillBlock c block code m) := by
  refine ⟨fun h => h.put (blockKey_even c block), fun _ h => ⟨(h.filter _).1, fun p hp => ?_⟩⟩
  obtain ⟨listed, outside⟩ := List.mem_filter.mp hp
  have ne : fillKey (p.1 / 136) ≠ blockKey c block := by simpa using outside
  rw [show cellDefault (fillBlock c block code m).fill p.1 = cellDefault m.fill p.1 from cellDefault_congr (look_put_ne _ ne)]
  exact h.2 p listed

/-! ### A channel copied whole -/

/-- The addresses of a channel's cells: 16 layers, 16 banks, 4,104 rows, 8 lines and 136 bytes. -/
def chanCells : Nat := 16 * 16 * 4104 * 8 * 136

/-- The place in channel `dst` of a cell. -/
def cellAt (dst a : Nat) : Nat := a % chanCells + dst * chanCells

theorem cellAt_chan (dst a : Nat) : cellAt dst a / chanCells = dst := by
  unfold cellAt chanCells
  omega

theorem plChan_cell (a : Nat) : plChan (a / 136) = a / chanCells := by
  unfold plChan chanCells
  omega

/-- A block of a row below the spares is one of the 512 of its channel. -/
theorem fillKey_cases (k : Nat) : (∃ b < 512, plRow k < 4096 ∧ b = plRow k / 8 ∧ fillKey k = blockKey (plChan k) b) ∨ fillKey k % 2 = 1 := by
  unfold fillKey
  split
  · rename_i h
    exact .inl ⟨plRow k / 8, by omega, h, rfl, rfl⟩
  · exact .inr (by omega)

/-- Copying a channel leaves what the cells of every other read as. -/
theorem cellDefault_copy_other {src dst a : Nat} (t : Store Nat) (h : a / chanCells ≠ dst) :
    cellDefault (copyFills src dst 512 t) a = cellDefault t a := by
  refine cellDefault_congr (copyFills_other t fun b hb e => ?_)
  rcases fillKey_cases (a / 136) with ⟨c, hc, -, -, k⟩ | odd
  · exact h (plChan_cell a ▸ (blockKey_inj hc hb (k ▸ e)).1)
  · have := blockKey_even dst b
    omega

/-- A cell of the copy reads, unlisted, as the one it was copied from. -/
theorem cellDefault_copy {src dst a : Nat} {t : Store Nat} (fills : Fills t) (h : a / chanCells = src) :
    cellDefault (copyFills src dst 512 t) (cellAt dst a) = cellDefault t a := by
  have chan : plChan (a / 136) = src := plChan_cell a ▸ h
  have chan' : plChan (cellAt dst a / 136) = dst := by rw [plChan_cell, cellAt_chan]
  have row : plRow (cellAt dst a / 136) = plRow (a / 136) := by
    unfold plRow cellAt chanCells
    omega
  have layer : plLayer (cellAt dst a / 136) = plLayer (a / 136) := by
    unfold plLayer cellAt chanCells
    omega
  have bank : plBank (cellAt dst a / 136) = plBank (a / 136) := by
    unfold plBank cellAt chanCells
    omega
  have line : plLine (cellAt dst a / 136) = plLine (a / 136) := by
    unfold plLine cellAt chanCells
    omega
  have byte : cellAt dst a % 136 = a % 136 := by
    unfold cellAt chanCells
    omega
  have code : look 0 (fillKey (cellAt dst a / 136)) (copyFills src dst 512 t) = look 0 (fillKey (a / 136)) t := by
    unfold fillKey
    rw [row, chan, chan']
    split
    · exact (copyFills_blocks fills le_rfl).2 _ (by omega)
    · rw [(copyFills_fills fills).look_spare (by omega), fills.look_spare (by omega)]
  unfold cellDefault defaultLine
  rw [row, layer, bank, line, byte, code]

/-- The cells of a memory after channel `src` is copied to channel `dst`. -/
def copyCells (src dst : Nat) (m : List Host.Cell) : List Host.Cell :=
  m.filter (fun x => decide (x.1 / chanCells < dst)) ++ (m.filter fun x => x.1 / chanCells == src).map (fun x => (cellAt dst x.1, x.2)) ++
    m.filter fun x => decide (dst < x.1 / chanCells)

theorem copyCells_canonical {src dst : Nat} {t : Store Nat} {m : List Host.Cell} (fills : Fills t) (h : Canonical (cellDefault t) m) :
    Canonical (cellDefault (copyFills src dst 512 t)) (copyCells src dst m) := by
  refine ⟨?_, fun p hp => ?_⟩
  · unfold copyCells
    refine List.pairwise_append.mpr ⟨List.pairwise_append.mpr ⟨h.1.filter _, ?_, ?_⟩, h.1.filter _, ?_⟩
    · refine List.pairwise_map.mpr ((h.1.filter _).imp_of_mem fun {x y} hx hy rising => ?_)
      have hx : x.1 / chanCells = src := by simpa using (List.mem_filter.mp hx).2
      have hy : y.1 / chanCells = src := by simpa using (List.mem_filter.mp hy).2
      unfold chanCells at hx hy
      show cellAt dst x.1 < cellAt dst y.1
      unfold cellAt chanCells
      omega
    · intro x hx y hy
      have hx : x.1 / chanCells < dst := by simpa using (List.mem_filter.mp hx).2
      obtain ⟨z, -, rfl⟩ := List.mem_map.mp hy
      have hz := cellAt_chan dst z.1
      unfold chanCells at hx hz
      show x.1 < cellAt dst z.1
      omega
    · intro x hx y hy
      have hy : dst < y.1 / chanCells := by simpa using (List.mem_filter.mp hy).2
      rcases List.mem_append.mp hx with hx | hx
      · have hx : x.1 / chanCells < dst := by simpa using (List.mem_filter.mp hx).2
        unfold chanCells at hx hy
        omega
      · obtain ⟨z, -, rfl⟩ := List.mem_map.mp hx
        have hz := cellAt_chan dst z.1
        unfold chanCells at hy hz
        show cellAt dst z.1 < y.1
        omega
  · have other (side : p ∈ m) (ne : p.1 / chanCells ≠ dst) : p.2 ≠ cellDefault (copyFills src dst 512 t) p.1 := by
      rw [cellDefault_copy_other t ne]
      exact h.2 p side
    rcases List.mem_append.mp hp with hp | hp
    · rcases List.mem_append.mp hp with hp | hp
      · obtain ⟨listed, below⟩ := List.mem_filter.mp hp
        exact other listed (Nat.ne_of_lt (of_decide_eq_true below))
      · obtain ⟨x, hx, rfl⟩ := List.mem_map.mp hp
        obtain ⟨listed, chan⟩ := List.mem_filter.mp hx
        show x.2 ≠ cellDefault (copyFills src dst 512 t) (cellAt dst x.1)
        rw [cellDefault_copy fills (by simpa using chan)]
        exact h.2 x listed
    · obtain ⟨listed, above⟩ := List.mem_filter.mp hp
      exact other listed (Nat.ne_of_gt (of_decide_eq_true above))

/-- A memory that holds the fills and the cells of a copy. -/
theorem copy_memory (src dst : Nat) {x y : Dram} (fill : y.fill = copyFills src dst 512 x.fill) (cells : y.cells = copyCells src dst x.cells) :
    KeepsMemory x y :=
  ⟨fun h => fill ▸ copyFills_fills h, fun f h => by rw [fill, cells]; exact copyCells_canonical f h⟩

end Sys2Proof.Machine


/-!
PROOF. O58: the operations that units share keep what no command may change, one lemma for each, in the order of their frames in
Laws/FrameOps. A lemma follows its operation's text: a choice is `Keeps.ite`, a loop `each_keeps`, and each call cites the lemma of what is called.
-/
namespace Sys2Proof.Machine

-- One proof after another, each on a stack of its own, for the check's memory.
set_option Elab.async false

theorem State.armRejoin_keeps {α s : State} {k : Nat} (hyp : Keeps α s) : Keeps α (State.armRejoin s k) :=
  hyp.free (State.armRejoin_fr (Fr.refl 65536 s))

theorem State.setOb_keeps {α s : State} {idx sub v : Nat} (hyp : Keeps α s) : Keeps α (s.setOb idx sub v) :=
  hyp.update (objects := Canonical.put)

theorem State.bumpBy_keeps {α s : State} {idx sub n : Nat} (hyp : Keeps α s) : Keeps α (State.bumpBy s idx sub n) :=
  State.setOb_keeps hyp

theorem State.bump_keeps {α s : State} {idx sub : Nat} (hyp : Keeps α s) : Keeps α (State.bump s idx sub) :=
  State.bumpBy_keeps hyp

theorem State.setPath_keeps {α s : State} {p : Path} (hyp : Keeps α s) : Keeps α (State.setPath s p) :=
  hyp.free (State.setPath_fr (Fr.refl 262144 s))

theorem State.setAsks_keeps {α s : State} {l : List Ask} (hyp : Keeps α s) : Keeps α (State.setAsks s l) :=
  hyp.free (State.setAsks_fr (Fr.refl 262144 s))

theorem State.modAsk_keeps {α s : State} {id : Nat} {f : Ask → Ask} (hyp : Keeps α s) : Keeps α (State.modAsk s id f) :=
  hyp.free (State.modAsk_fr (Fr.refl 262144 s))

theorem State.setFar_keeps {α s : State} {f : Far} (hyp : Keeps α s) : Keeps α (State.setFar s f) :=
  hyp.free (State.setFar_fr (Fr.refl 1048576 s))

theorem State.modBale_keeps {α s : State} {b : Nat} {f : Bale → Bale} (hyp : Keeps α s) : Keeps α (State.modBale s b f) :=
  hyp.free (State.modBale_fr (Fr.refl 1048576 s))

theorem State.setChan_keeps {α s : State} {c : Nat} {x : Chan} (hyp : Keeps α s) : Keeps α (State.setChan s c x) :=
  hyp.free (State.setChan_fr (Fr.refl 262144 s))

theorem State.modChan_keeps {α s : State} {c : Nat} {f : Chan → Chan} (hyp : Keeps α s) : Keeps α (State.modChan s c f) :=
  hyp.free (State.modChan_fr (Fr.refl 262144 s))

theorem State.setFeeds_keeps {α s : State} {f : Feeds} (hyp : Keeps α s) : Keeps α (State.setFeeds s f) :=
  hyp.free (State.setFeeds_fr (Fr.refl 131072 s))

theorem State.modStream_keeps {α s : State} {n : Nat} {f : Stream → Stream} (hyp : Keeps α s) : Keeps α (State.modStream s n f) :=
  hyp.free (State.modStream_fr (Fr.refl 131072 s))

theorem State.modOld_keeps {α s : State} {n : Nat} {f : Stream → Stream} (hyp : Keeps α s) : Keeps α (State.modOld s n f) :=
  hyp.free (State.modOld_fr (Fr.refl 131072 s))

theorem State.modFeed_keeps {α s : State} {n num : Nat} {f : FeedLine → FeedLine} (hyp : Keeps α s) : Keeps α (State.modFeed s n num f) :=
  hyp.free (State.modFeed_fr (Fr.refl 131072 s))

theorem State.setCache_keeps {α s : State} {c : Cache} (hyp : Keeps α s) : Keeps α (State.setCache s c) :=
  hyp.free (State.setCache_fr (Fr.refl 524288 s))

theorem State.setReds_keeps {α s : State} {l : List Red} (hyp : Keeps α s) : Keeps α (State.setReds s l) :=
  State.setOb_keeps (State.setCache_keeps hyp)

theorem State.modRed_keeps {α s : State} {a : Nat} {f : Red → Red} (hyp : Keeps α s) : Keeps α (State.modRed s a f) :=
  State.setReds_keeps hyp

theorem State.modTr_keeps {α s : State} {c : Nat} {f : Train → Train} (hyp : Keeps α s) : Keeps α (State.modTr s c f) :=
  hyp.free (State.modTr_fr (Fr.refl 8388608 s))

theorem State.modTransfer_keeps {α s : State} {n : Nat} {f : Transfer → Transfer} (hyp : Keeps α s) : Keeps α (State.modTransfer s n f) :=
  hyp.free (State.modTransfer_fr (Fr.refl 1048576 s))

theorem State.peak_keeps {α s : State} {idx sub v : Nat} (hyp : Keeps α s) : Keeps α (State.peak s idx sub v) :=
  Keeps.ite (State.setOb_keeps hyp) hyp

theorem State.send_keeps {α s : State} {o : Output} (hyp : Keeps α s) : Keeps α (s.send o) :=
  hyp.update (sent := List.prefix_append _ _)

theorem State.setChanState_keeps {α s : State} {c v : Nat} (hyp : Keeps α s) : Keeps α (State.setChanState s c v) :=
  State.setOb_keeps hyp

theorem State.setClk_keeps {α s : State} {k : Clocks} (hyp : Keeps α s) : Keeps α (State.setClk s k) :=
  hyp.free (State.setClk_fr (Fr.refl 16777216 s))

theorem State.setDch_keeps {α s : State} {c : Nat} {x : DramChan} (hyp : Keeps α s) : Keeps α (State.setDch s c x) :=
  Keeps.update hyp

theorem State.setDie_keeps {α s : State} {st l : Nat} {x : LayerDie} (hyp : Keeps α s) : Keeps α (State.setDie s st l x) :=
  Keeps.update hyp

theorem State.setFlow_keeps {α s : State} {k : Nat} {f : Flow} (hyp : Keeps α s) : Keeps α (State.setFlow s k f) :=
  hyp.free (State.setFlow_fr (Fr.refl 256 s))

theorem State.setHeat_keeps {α s : State} {h : Heat} (hyp : Keeps α s) : Keeps α (State.setHeat s h) :=
  hyp.free (State.setHeat_fr (Fr.refl 4194304 s))

theorem State.setSec_keeps {α s : State} {x : Security} (hyp : Keeps α s)
    (sessions : s.sec.sessions.length ≤ 4 → x.sessions.length ≤ 4 := by exact fun k => k) : Keeps α (s.setSec x) :=
  hyp.update (sessions := sessions)

theorem State.setKey_keeps {α s : State} {n : Nat} {k : KeySlot} (hyp : Keeps α s) : Keeps α (State.setKey s n k) :=
  State.setSec_keeps hyp

theorem State.setLay_keeps {α s : State} {c l : Nat} {x : LayerChan} (hyp : Keeps α s) : Keeps α (State.setLay s c l x) :=
  Keeps.update hyp

theorem State.setMeter_keeps {α s : State} {l : Nat} {m : Meter} (hyp : Keeps α s) : Keeps α (State.setMeter s l m) :=
  hyp.free (State.setMeter_fr (Fr.refl 262144 s))

theorem State.setNotifyQ_keeps {α s : State} {n : Nat} {q : NotifyQueue} (hyp : Keeps α s) : Keeps α (State.setNotifyQ s n q) :=
  Keeps.update hyp

theorem State.setPanic_keeps {α s : State} {p : Nat} {x : PanicState} (hyp : Keeps α s) : Keeps α (State.setPanic s p x) :=
  hyp.free (State.setPanic_fr (Fr.refl 262144 s))

theorem State.setPlans_keeps {α s : State} {p : Plans} (hyp : Keeps α s) : Keeps α (State.setPlans s p) :=
  hyp.free (State.setPlans_fr (Fr.refl 65536 s))

theorem State.setPool_keeps {α s : State} {r : Nat} {p : Nat × Nat × Nat × Nat} (hyp : Keeps α s) : Keeps α (State.setPool s r p) :=
  hyp.free (State.setPool_fr (Fr.refl 131072 s))

theorem State.setPort_keeps {α s : State} {h : Nat} {p : HPort} (hyp : Keeps α s) : Keeps α (State.setPort s h p) :=
  hyp.free (State.setPort_fr (Fr.refl 256 s))

theorem State.setPower_keeps {α s : State} {p : Power} (hyp : Keeps α s) : Keeps α (State.setPower s p) :=
  hyp.free (State.setPower_fr (Fr.refl 4 s))

theorem State.setRecordArea_keeps {α s : State} {area index : Nat} {x : RecordArea} (hyp : Keeps α s) :
    Keeps α (State.setRecordArea s area index x) :=
  Keeps.update hyp

theorem State.setRegWindow_keeps {α s : State} {r : Nat} {w : RegWindow} (hyp : Keeps α s) : Keeps α (State.setRegWindow s r w) :=
  hyp.free (State.setRegWindow_fr (Fr.refl 262144 s))

theorem State.setSampler_keeps {α s : State} {x : Sampler} (hyp : Keeps α s)
    (samples : s.sampler.ring.length ≤ 4096 → x.ring.length ≤ 4096 := by exact fun k => k) : Keeps α (s.setSampler x) :=
  hyp.update (samples := samples)

theorem State.setSegments_keeps {α s : State} {l : List Segment} (hyp : Keeps α s) : Keeps α (State.setSegments s l) :=
  Keeps.update hyp

theorem State.setSensor_keeps {α s : State} {k : Nat} {x : Sensor} (hyp : Keeps α s) : Keeps α (State.setSensor s k x) :=
  hyp.free (State.setSensor_fr (Fr.refl 4194304 s))

theorem State.setSet_keeps {α s : State} {v : SetView} (hyp : Keeps α s) : Keeps α (State.setSet s v) :=
  hyp.free (State.setSet_fr (Fr.refl 256 s))

theorem State.setSource_keeps {α s : State} {m : Nat} {x : SourceState} (hyp : Keeps α s) : Keeps α (State.setSource s m x) :=
  hyp.free (State.setSource_fr (Fr.refl 16777216 s))

theorem State.setSpdm_keeps {α s : State} {c : Spdm} (hyp : Keeps α s) : Keeps α (State.setSpdm s c) :=
  State.setSec_keeps hyp

theorem State.setUpd_keeps {α s : State} {u : Update} (hyp : Keeps α s) : Keeps α (State.setUpd s u) :=
  hyp.free (State.setUpd_fr (Fr.refl 33554432 s))

theorem State.setWay_keeps {α s : State} {k : Nat} {w : Option CWay} (hyp : Keeps α s) : Keeps α (State.setWay s k w) :=
  hyp.free (State.setWay_fr (Fr.refl 524288 s))

theorem State.setWfq_keeps {α s : State} {c : Nat} {write : Bool} {w : Wfq} (hyp : Keeps α s) : Keeps α (State.setWfq s c write w) :=
  hyp.free (State.setWfq_fr (Fr.refl 262144 s))

theorem State.setWrap_keeps {α s : State} {w : Wrapper} (hyp : Keeps α s) : Keeps α (State.setWrap s w) :=
  hyp.free (State.setWrap_fr (Fr.refl 32 s))

theorem State.setWrites_keeps {α s : State} {l : List SetWrite} (hyp : Keeps α s) : Keeps α (State.setWrites s l) :=
  Keeps.update hyp

theorem State.takeFree_keeps {α s : State} (hyp : Keeps α s) : Keeps α (State.takeFree s) :=
  hyp.free (State.takeFree_fr (Fr.refl 8192 s))

theorem State.takeOrder_keeps {α s : State} (hyp : Keeps α s) : Keeps α (State.takeOrder s) :=
  hyp.free (State.takeOrder_fr (Fr.refl 262144 s))

theorem sampleGone_keeps {α : State} {kind id num : Nat} {s : State} (hyp : Keeps α s) : Keeps α (sampleGone kind id num s) :=
  Keeps.ite hyp (State.setSampler_keeps hyp)

theorem dropAsk_keeps {α : State} {id : Nat} {s : State} (hyp : Keeps α s) : Keeps α (dropAsk id s) :=
  State.setAsks_keeps (sampleGone_keeps hyp)

theorem abandonReads_keeps {α : State} {f : Purpose → Bool} {s : State} (hyp : Keeps α s) : Keeps α (abandonReads f s) :=
  each_keeps hyp (fun _ _ => Keeps.ite (State.modAsk_keeps (.refl _)) (dropAsk_keeps (.refl _)))

theorem dropRound_keeps {α : State} {c : Nat} {s : State} (hyp : Keeps α s) : Keeps α (dropRound c s) := by
  unfold dropRound
  exact State.modTr_keeps (Keeps.ite (each_keeps hyp (fun _ _ => State.setOb_keeps (.refl _))) hyp)

theorem markAlert_keeps {α : State} {c l : Nat} {s : State} (hyp : Keeps α s) : Keeps α (markAlert c l s) :=
  State.setLay_keeps hyp

theorem alertOn_keeps {α : State} {c : Nat} {s : State} (hyp : Keeps α s) : Keeps α (alertOn c s) :=
  State.bump_keeps (State.setDch_keeps hyp)

theorem layRegWrite_keeps {α : State} {c l a v : Nat} {s : State} (hyp : Keeps α s) : Keeps α (layRegWrite c l a v s) :=
  Keeps.ite hyp (Keeps.ite (State.setOb_keeps (State.setDie_keeps (State.setLay_keeps hyp))) (State.setLay_keeps hyp))

theorem layMrwb_keeps {α : State} {c a v : Nat} {s : State} (hyp : Keeps α s) : Keeps α (layMrwb c a v s) :=
  Keeps.ite (each_keeps hyp (fun _ _ => layRegWrite_keeps (.refl _))) (Keeps.ite hyp (alertOn_keeps (each_keeps hyp (fun _ _ => markAlert_keeps
    (.refl _)))))

theorem layModes_keeps {α : State} {c : Nat} {l : List (Nat × Nat)} {s : State} (hyp : Keeps α s) : Keeps α (layModes c l s) :=
  each_keeps hyp (fun _ _ => layMrwb_keeps (.refl _))

theorem abandonRound_keeps {α : State} {c : Nat} {s : State} (hyp : Keeps α s) : Keeps α (abandonRound c s) :=
  layModes_keeps (dropRound_keeps hyp)

theorem sendParcel_keeps {α : State} {d : Nat} {hdr : Hdr} {body : List Byte} {s : State} (hyp : Keeps α s) :
    Keeps α (sendParcel d hdr body s) :=
  hyp.free (sendParcel_fr (Fr.refl 256 s))

theorem sendCompletion_keeps {α : State} {a : Ask} {status : Nat} {data : Option Nat} {s : State} (hyp : Keeps α s) :
    Keeps α (sendCompletion a status data s) :=
  hyp.free (sendCompletion_fr (Fr.refl 256 s))

theorem writeSample_keeps {α : State} {b : Building} {status : Nat} {s : State} (hyp : Keeps α s) :
    Keeps α (writeSample b status s) := by
  unfold writeSample
  extract_lets x full t seq ring
  refine Keeps.ite (State.setSampler_keeps (State.bump_keeps hyp) fun k => k) ?_
  have kept : Keeps α t := Keeps.ite (State.bump_keeps hyp) hyp
  refine State.setSampler_keeps (State.setOb_keeps (State.setOb_keeps kept)) fun k => ?_
  have same : t.sampler = s.sampler := by
    show (if full then s.bump 0x7100 0x0C else s).sampler = s.sampler
    split <;> rfl
  have old : s.sampler.ring.length ≤ 4096 := same ▸ k
  show ((if full then s.sampler.ring.drop 1 else s.sampler.ring) ++ [_]).length ≤ 4096
  split
  · simp only [List.length_append, List.length_drop, List.length_singleton]
    omega
  · rename_i room
    have : s.sampler.ring.length < 4096 := Nat.lt_of_not_le fun h => room (decide_eq_true h)
    simp only [List.length_append, List.length_singleton]
    omega

theorem sampleEnd_keeps {α : State} {kind id num status : Nat} {s : State} (hyp : Keeps α s) : Keeps α (sampleEnd kind id num status s) := by
  unfold sampleEnd
  split
  · exact hyp
  · exact writeSample_keeps (State.setSampler_keeps hyp)

theorem modBuilding_keeps {α : State} {kind id num : Nat} {f : Building → Building} {s : State} (hyp : Keeps α s) :
    Keeps α (modBuilding kind id num f s) :=
  Keeps.ite hyp (State.setSampler_keeps hyp)

theorem sampleEffect_keeps {α : State} {id : Nat} {s : State} (hyp : Keeps α s) : Keeps α (sampleEffect id s) :=
  modBuilding_keeps hyp

theorem count_keeps {α : State} {b j n : Nat} {s : State} (hyp : Keeps α s) : Keeps α (count b j n s) :=
  Keeps.ite hyp (State.setOb_keeps hyp)

theorem countIf_keeps {α : State} {b j n : Nat} {c : Cause} {s : State} (hyp : Keeps α s) : Keeps α (countIf b j n c s) :=
  Keeps.ite (count_keeps hyp) hyp

theorem countDecision_keeps {α : State} {a : Ask} {status : Nat} {s : State} (hyp : Keeps α s) : Keeps α (countDecision a status s) :=
  Keeps.ite hyp (Keeps.ite (countIf_keeps hyp) (Keeps.ite (countIf_keeps hyp) (Keeps.ite (countIf_keeps hyp) (Keeps.ite (countIf_keeps hyp)
    hyp))))

theorem finish_keeps {α : State} {id status : Nat} {data : Option Nat} {s : State} (hyp : Keeps α s) : Keeps α (finish id status data s) := by
  unfold finish
  dsimp only
  split
  · exact hyp
  · refine Keeps.ite hyp ?_
    split
    · exact Keeps.ite (sendCompletion_keeps (Keeps.ite (Keeps.ite (sampleEffect_keeps (countDecision_keeps (State.modAsk_keeps hyp)))
        (sampleEnd_keeps (sampleEffect_keeps (countDecision_keeps (State.modAsk_keeps hyp))))) (sampleEffect_keeps (countDecision_keeps
        (State.modAsk_keeps hyp))))) (State.setAsks_keeps (sendCompletion_keeps (Keeps.ite (Keeps.ite (sampleEffect_keeps (countDecision_keeps
        (State.modAsk_keeps hyp))) (sampleEnd_keeps (sampleEffect_keeps (countDecision_keeps (State.modAsk_keeps hyp))))) (sampleEffect_keeps
        (countDecision_keeps (State.modAsk_keeps hyp))))))
    · exact Keeps.ite (Keeps.ite (sampleEffect_keeps (countDecision_keeps (State.modAsk_keeps hyp))) (sampleEnd_keeps (sampleEffect_keeps
        (countDecision_keeps (State.modAsk_keeps hyp))))) (sampleEffect_keeps (countDecision_keeps (State.modAsk_keeps hyp)))

theorem retire_keeps {α : State} {id : Nat} {s : State} (hyp : Keeps α s) : Keeps α (retire id s) :=
  hyp.free (retire_fr (Fr.refl 262144 s))

theorem syncDepth_keeps {α : State} {c : Nat} {s : State} (hyp : Keeps α s) : Keeps α (syncDepth c s) :=
  State.peak_keeps (State.peak_keeps (State.setOb_keeps (State.setOb_keeps hyp)))

theorem abortAsks_keeps {α : State} {ctx : Nat} {s : State} (hyp : Keeps α s) : Keeps α (abortAsks ctx s) :=
  each_keeps (abandonReads_keeps (State.setCache_keeps (each_keeps hyp (fun _ _ => syncDepth_keeps (State.modChan_keeps (.refl _))))))
    (fun _ _ => retire_keeps (finish_keeps (State.modAsk_keeps (.refl _))))

theorem touch_keeps {α : State} {k : Nat} {s : State} (hyp : Keeps α s) : Keeps α (touch k s) :=
  hyp.free (touch_fr (Fr.refl 524288 s))

theorem mirrorLine_keeps {α : State} {a : Nat} {w : CWay} {s : State} (hyp : Keeps α s) : Keeps α (mirrorLine a w s) :=
  hyp.free (mirrorLine_fr (Fr.refl 524288 s))

theorem sampleFlag_keeps {α : State} {kind id num flag : Nat} {s : State} (hyp : Keeps α s) : Keeps α (sampleFlag kind id num flag s) :=
  modBuilding_keeps hyp

theorem countHit_keeps {α : State} {q : Ask} {sub : Nat} {s : State} (hyp : Keeps α s) : Keeps α (countHit q sub s) := by
  unfold countHit
  refine Keeps.ite ?_ hyp
  split
  · exact State.bump_keeps hyp
  · exact Keeps.ite (sampleFlag_keeps (countIf_keeps (State.bump_keeps hyp))) (countIf_keeps (State.bump_keeps hyp))

theorem applyAsk_keeps {α : State} {id value : Nat} {data : Option Nat} {s : State} (hyp : Keeps α s) : Keeps α (applyAsk id value data s) :=
  finish_keeps (State.modAsk_keeps hyp)

theorem absorbWrite_keeps {α : State} {q : Ask} {mask data k : Nat} {w : CWay} {s : State} (hyp : Keeps α s) :
    Keeps α (absorbWrite q mask data k w s) :=
  applyAsk_keeps (countHit_keeps (mirrorLine_keeps (touch_keeps (State.setWay_keeps hyp))))

theorem sendAccept_keeps {α : State} {a : Ask} {s : State} (hyp : Keeps α s) : Keeps α (sendAccept a s) :=
  hyp.free (sendAccept_fr (Fr.refl 256 s))

theorem candidate_keeps {α : State} {population : Nat} {c : Cause} {mk : State → Building} {s : State} (hyp : Keeps α s) :
    Keeps α (candidate population c mk s) := by
  unfold candidate
  dsimp only
  have counted := State.setOb_keeps (idx := 0x7100) (sub := 0x0D) (v := (s.ob 0x7100 0x0D + 1) % 2 ^ 64) hyp
  exact Keeps.ite hyp (Keeps.ite counted (Keeps.ite (State.setSampler_keeps counted fun k => k)
    (State.setSampler_keeps (State.setOb_keeps counted) fun k => k)))

theorem acceptAsk_keeps {α : State} {id : Nat} {confirmed : Bool} {s : State} (hyp : Keeps α s) : Keeps α (acceptAsk id confirmed s) := by
  unfold acceptAsk
  split
  · exact hyp
  · exact sendAccept_keeps (candidate_keeps (countIf_keeps (State.peak_keeps (State.modAsk_keeps hyp))))

theorem startChain_keeps {α : State} {a : Ask} {later : List Ask} {s : State} (hyp : Keeps α s) : Keeps α (startChain a later s) :=
  Keeps.ite hyp (each_keeps (State.setPath_keeps hyp) (fun _ _ => finish_keeps (.refl _)))

theorem refuseLater_keeps {α : State} {id : Nat} {s : State} (hyp : Keeps α s) : Keeps α (refuseLater id s) := by
  unfold refuseLater
  split
  · exact hyp
  · exact startChain_keeps (finish_keeps hyp)

theorem acceptOr_keeps {α : State} {id : Nat} {confirmed : Bool} {f : State → State} {s : State} (hyp : Keeps α s) (hf_f : ∀ y, Keeps y (f y)) :
    Keeps α (acceptOr id confirmed f s) := by
  unfold acceptOr
  split
  · exact hyp
  · exact Keeps.ite (Keeps.trans hyp (hf_f _)) (Keeps.ite (Keeps.ite hyp (refuseLater_keeps hyp)) (Keeps.trans (acceptAsk_keeps hyp) (hf_f _)))

theorem acceptTaken_keeps {α : State} {hdr : Hdr} {s : State} (hyp : Keeps α s) : Keeps α (acceptTaken hdr s) :=
  hyp.free (acceptTaken_fr (Fr.refl 262144 s))

theorem ringPlace_keeps {α : State} {e : LogEntry} {s : State} (hyp : Keeps α s) :
    Keeps α (ringPlace e s) := by
  unfold ringPlace
  dsimp only
  split
  · rename_i room
    refine hyp.update (ring := fun _ => ?_)
    simpa using room
  · refine Keeps.ite (State.bump_keeps hyp) ?_
    split
    · rename_i i found
      have inside : i < s.mgmt.window.ring.length := (List.findIdx?_eq_some_iff_getElem.mp found).1
      refine State.bump_keeps (hyp.update (ring := fun k => ?_))
      simp only [List.length_append, List.length_eraseIdx, if_pos inside, List.length_singleton]
      omega
    · exact State.bump_keeps hyp

theorem sendNotify_keeps {α : State} {n : Nat} {e : LogEntry} {s : State} (hyp : Keeps α s) : Keeps α (sendNotify n e s) :=
  State.bump_keeps (State.send_keeps hyp)

theorem notifyQueue_keeps {α : State} {n : Nat} {e : LogEntry} {s : State} (hyp : Keeps α s) : Keeps α (notifyQueue n e s) := by
  unfold notifyQueue
  dsimp only
  split
  · exact sendNotify_keeps (Keeps.update hyp)
  · refine Keeps.ite (Keeps.update hyp) ?_
    split
    · exact State.bump_keeps (Keeps.update hyp)
    · exact Keeps.update hyp

theorem notifyAll_keeps {α : State} {e : LogEntry} {s : State} (hyp : Keeps α s) : Keeps α (notifyAll e s) :=
  Keeps.ite (notifyQueue_keeps hyp) (each_keeps hyp (fun _ _ => notifyQueue_keeps (.refl _)))

theorem logEntry_keeps {α : State} {e : LogEntry} {s : State} (hyp : Keeps α s) :
    Keeps α (logEntry e s) := by
  unfold logEntry
  extract_lets s1 s2 m e' s3 g3 n3 s4 g4 s5 s6 s7 p7
  have h1 : Keeps α s1 := State.bump_keeps hyp
  have h2 : Keeps α s2 := Keeps.ite h1 (State.bump_keeps h1)
  have h3 : Keeps α s3 := Keeps.ite (State.bump_keeps h2) h2
  clear_value s3
  have h4 : Keeps α s4 := by
    refine Keeps.ite (h3.update (mirror := fun _ => ?_)) h3
    dsimp only
    exact pushLast_length _ _ _
  clear_value s4
  have h5 : Keeps α s5 := by
    refine h4.update (log := fun _ => ?_)
    dsimp only
    exact pushLast_length _ _ _
  have h6 : Keeps α s6 := notifyAll_keeps h5
  have h7 : Keeps α s7 := Keeps.ite (ringPlace_keeps h6) h6
  clear_value s7
  exact Keeps.ite h7.update h7

theorem logEvent_keeps {α : State} {e : Event} {s : State} (hyp : Keeps α s) : Keeps α (logEvent e s) := by
  unfold logEvent
  refine Keeps.ite (State.bump_keeps hyp) ?_
  split
  · exact logEntry_keeps hyp
  · split
    · exact Keeps.ite (Keeps.update hyp) (logEntry_keeps (Keeps.update hyp))
    · exact logEntry_keeps (Keeps.update hyp)

theorem raiseEvent_keeps {α : State} {e : Event} {s : State} (hyp : Keeps α s) :
    Keeps α (raiseEvent e s) := by
  unfold raiseEvent
  refine Keeps.ite hyp (Keeps.ite (keeps_ite (fun room => ?_) fun _ => State.bump_keeps hyp.update) (logEvent_keeps hyp))
  refine hyp.update (staged := fun _ => ?_)
  simpa using room

theorem raiseAt_keeps {α : State} {code inst detail : Nat} {secure : Bool} {s : State} (hyp : Keeps α s) :
    Keeps α (raiseAt code inst detail secure s) :=
  raiseEvent_keeps hyp

theorem countAccess_keeps {α : State} {status a : Nat} {s : State} (hyp : Keeps α s) : Keeps α (countAccess status a s) :=
  Keeps.ite (raiseAt_keeps (State.bump_keeps hyp)) (raiseAt_keeps (State.setOb_keeps (State.bump_keeps hyp)))

theorem accessCheck_keeps {α : State} {op : AccessOp} {world : Bool} {ctx : Nat} {core : Option CoreId} {a : Nat} {s : State} (hyp : Keeps α s) :
    Keeps α (accessCheck op world ctx core a s).2 := by
  unfold accessCheck
  split
  · exact hyp
  · exact countAccess_keeps hyp

theorem endGrace_keeps {α : State} {st : Nat} {s : State} (hyp : Keeps α s) : Keeps α (endGrace st s) :=
  State.setOb_keeps (State.setHeat_keeps hyp)

theorem raise_keeps {α : State} {code inst detail : Nat} {s : State} (hyp : Keeps α s) : Keeps α (raise code inst detail s) :=
  raiseEvent_keeps hyp

theorem raiseNode_keeps {α : State} {code detail : Nat} {s : State} (hyp : Keeps α s) : Keeps α (raiseNode code detail s) :=
  raise_keeps hyp

theorem startDerate_keeps {α : State} {b : Nat} {s : State} (hyp : Keeps α s) : Keeps α (startDerate b s) :=
  Keeps.ite hyp (raiseNode_keeps (State.setOb_keeps hyp))

theorem ackMissing_keeps {α s : State} (hyp : Keeps α s) : Keeps α (ackMissing s) :=
  Keeps.ite hyp (each_keeps (each_keeps (State.bumpBy_keeps (State.setHeat_keeps hyp)) (fun _ _ => raiseNode_keeps (.refl _)))
    (fun _ _ => Keeps.ite (startDerate_keeps (endGrace_keeps (.refl _))) (.refl _)))

theorem sendResponse_keeps {α : State} {r : Req} {a : Answer} {s : State} (hyp : Keeps α s) : Keeps α (sendResponse r a s) := by
  unfold sendResponse
  split
  · exact State.send_keeps (Keeps.update hyp)
  · exact State.bump_keeps (State.send_keeps hyp)
  · exact State.send_keeps hyp

theorem respond_keeps {α : State} {r : Req} {a : Answer} {s : State} (hyp : Keeps α s) :
    Keeps α (respond r a s) :=
  sendResponse_keeps (hyp.update (sources := fun _ => recordTxn_length _ _ _ _))

theorem answer_keeps {α : State} {r : Req} {status detail : Nat} {s : State} (hyp : Keeps α s) : Keeps α (answer r status detail s) :=
  respond_keeps hyp

theorem finishOrder_keeps {α : State} {w : SetWrite} {status detail : Nat} {s : State} (hyp : Keeps α s) :
    Keeps α (finishOrder w status detail s) := by
  unfold finishOrder
  split
  · exact answer_keeps hyp
  · exact Keeps.ite hyp (sendParcel_keeps hyp)

theorem ackOrder_keeps {α : State} {order n status detail : Nat} {s : State} (hyp : Keeps α s) :
    Keeps α (ackOrder order n status detail s) := by
  unfold ackOrder
  split
  · exact hyp
  · exact Keeps.ite (finishOrder_keeps (State.setWrites_keeps hyp)) (State.setWrites_keeps hyp)

theorem ackToggle_keeps {α s : State} (hyp : Keeps α s) : Keeps α (ackToggle s) :=
  Keeps.ite hyp (Keeps.ite (State.bump_keeps (Keeps.update hyp)) (State.setHeat_keeps (Keeps.update hyp)))

theorem addAsk_keeps {α : State} {a : Ask} {s : State} (hyp : Keeps α s) : Keeps α (addAsk a s) :=
  hyp.free (addAsk_fr (Fr.refl 262144 s))

theorem showDebt_keeps {α : State} {c : Nat} {s : State} (hyp : Keeps α s) : Keeps α (showDebt c s) :=
  State.setOb_keeps hyp

theorem addDebt_keeps {α : State} {c : Nat} {banks : List Nat} {d : ℤ} {s : State} (hyp : Keeps α s) : Keeps α (addDebt c banks d s) :=
  showDebt_keeps (State.modChan_keeps hyp)

theorem addFill_keeps {α : State} {id : Nat} {l : Option (Nat × Nat)} {s : State} (hyp : Keeps α s) : Keeps α (addFill id l s) :=
  hyp.free (addFill_fr (Fr.refl 524288 s))

theorem stopWindow_keeps {α : State} {r : Nat} {s : State} (hyp : Keeps α s) : Keeps α (stopWindow r s) :=
  hyp.free (stopWindow_fr (Fr.refl 262144 s))

theorem setBudgets_keeps {α : State} {bs : List Budget} {s : State} (hyp : Keeps α s) : Keeps α (setBudgets bs s) :=
  each_keeps hyp (fun _ _ => stopWindow_keeps (State.setOb_keeps (State.setOb_keeps (State.setOb_keeps (State.setOb_keeps (.refl _))))))

theorem setEngines_keeps {α s : State} (hyp : Keeps α s) : Keeps α (setEngines s) :=
  each_keeps hyp (fun _ _ => Keeps.ite (.refl _) (State.setOb_keeps (.refl _)))

theorem startStreams_keeps {α : State} {p : Plan} {s : State} (hyp : Keeps α s) : Keeps α (startStreams p s) :=
  each_keeps (State.setFeeds_keeps hyp) (fun _ _ => Keeps.ite (State.send_keeps (.refl _)) (.refl _))

theorem joinEngines_keeps {α : State} {f : Nat} {s : State} (hyp : Keeps α s) : Keeps α (joinEngines f s) :=
  each_keeps (each_keeps (State.setFeeds_keeps hyp) (fun _ _ => raise_keeps (State.setOb_keeps (.refl _)))) (fun _ _ => State.setOb_keeps (.refl
    _))

theorem dropEscapes_keeps {α : State} {t : Stream} {s : State} (hyp : Keeps α s) : Keeps α (dropEscapes t s) :=
  hyp.free (dropEscapes_fr (Fr.refl 131072 s))

theorem retireStreams_keeps {α s : State} (hyp : Keeps α s) : Keeps α (retireStreams s) := by
  unfold retireStreams
  exact abandonReads_keeps (Keeps.update (State.setFeeds_keeps (each_keeps hyp (fun _ _ => dropEscapes_keeps (.refl _)))))

theorem clearFences_keeps {α : State} {p : Option Plan} {s : State} (hyp : Keeps α s) : Keeps α (clearFences p s) :=
  State.setOb_keeps (State.setPlans_keeps hyp)

theorem switchPlan_keeps {α : State} {f : Nat} {s : State} (hyp : Keeps α s) : Keeps α (switchPlan f s) := by
  unfold switchPlan
  refine each_keeps (State.setOb_keeps (State.setOb_keeps ?_)) (fun _ _ => State.modChan_keeps (.refl _))
  split
  · refine setBudgets_keeps (setEngines_keeps ?_)
    split
    · exact startStreams_keeps (State.setPlans_keeps (joinEngines_keeps (clearFences_keeps (retireStreams_keeps hyp))))
    · exact State.setPlans_keeps (joinEngines_keeps (clearFences_keeps (retireStreams_keeps hyp)))
  · refine setEngines_keeps ?_
    split
    · exact startStreams_keeps (State.setPlans_keeps (joinEngines_keeps (clearFences_keeps (retireStreams_keeps hyp))))
    · exact State.setPlans_keeps (joinEngines_keeps (clearFences_keeps (retireStreams_keeps hyp)))

theorem adoptPlan_keeps {α : State} {f : Nat} {s : State} (hyp : Keeps α s) : Keeps α (adoptPlan f s) := by
  unfold adoptPlan
  split
  · exact State.setOb_keeps (State.setOb_keeps (State.setPlans_keeps hyp))
  · exact State.setOb_keeps (State.setPlans_keeps (switchPlan_keeps (State.setPlans_keeps hyp)))

theorem advance_keeps {α : State} {n : Nat} {t : Stream} {s : State} (hyp : Keeps α s) : Keeps α (advance n t s) :=
  hyp.free (advance_fr (Fr.refl 131072 s))

theorem pushWrite_keeps {α : State} {who : Writer} {a mask data info : Nat} {region : Option (Nat × Nat)} {s : State} (hyp : Keeps α s) :
    Keeps α (pushWrite who a mask data info region s) :=
  syncDepth_keeps (Keeps.ite (State.bump_keeps (State.takeOrder_keeps (State.modChan_keeps hyp))) (State.takeOrder_keeps (State.modChan_keeps
    hyp)))

theorem advanceLedger_keeps {α : State} {b v : Nat} {s : State} (hyp : Keeps α s) : Keeps α (advanceLedger b v s) := by
  unfold advanceLedger
  split
  · exact pushWrite_keeps hyp
  · exact hyp

theorem showSensor_keeps {α : State} {st n : Nat} {s : State} (hyp : Keeps α s) : Keeps α (showSensor st n s) := by
  unfold showSensor
  split
  · exact State.setOb_keeps hyp
  · exact hyp

theorem showStack_keeps {α : State} {st : Nat} {s : State} (hyp : Keeps α s) : Keeps α (showStack st s) := by
  unfold showStack
  refine State.setOb_keeps ?_
  split
  · exact State.setOb_keeps (State.setOb_keeps (each_keeps hyp (fun _ _ => showSensor_keeps (.refl _))))
  · exact each_keeps hyp (fun _ _ => showSensor_keeps (.refl _))

theorem afterReadings_keeps {α : State} {st : Nat} {s : State} (hyp : Keeps α s) : Keeps α (afterReadings st s) :=
  State.setHeat_keeps (showStack_keeps hyp)

theorem ageReads_keeps {α : State} {c slot : Nat} {s : State} (hyp : Keeps α s) : Keeps α (ageReads c slot s) := by
  unfold ageReads
  exact State.modChan_keeps (each_keeps (State.bumpBy_keeps (each_keeps hyp (fun _ _ => raise_keeps (State.bump_keeps (.refl _)))))
    (fun _ _ => countIf_keeps (.refl _)))

theorem setWeak_keeps {α : State} {c n : Nat} {w : Option Weak} {s : State} (hyp : Keeps α s) : Keeps α (setWeak c n w s) :=
  State.setOb_keeps (State.setOb_keeps (State.modChan_keeps hyp))

theorem ageWeak_keeps {α : State} {c : Nat} {s : State} (hyp : Keeps α s) : Keeps α (ageWeak c s) := by
  unfold ageWeak
  refine each_keeps hyp (fun _ _ => ?_)
  split
  · exact (.refl _)
  · exact Keeps.ite (setWeak_keeps (.refl _)) (setWeak_keeps (.refl _))

theorem beginTraining_keeps {α : State} {c : Nat} {full : Bool} {s : State} (hyp : Keeps α s) : Keeps α (beginTraining c full s) := by
  unfold beginTraining
  exact State.modTr_keeps (State.setOb_keeps hyp)

theorem protoAlert_keeps {α : State} {c l : Nat} {s : State} (hyp : Keeps α s) : Keeps α (protoAlert c l s) :=
  alertOn_keeps (markAlert_keeps hyp)

theorem layPreLayer_keeps {α : State} {c l : Nat} {s : State} (hyp : Keeps α s) : Keeps α (layPreLayer c l s) :=
  Keeps.ite (State.setLay_keeps hyp) hyp

theorem layPreab_keeps {α : State} {c l : Nat} {all : Bool} {s : State} (hyp : Keeps α s) : Keeps α (layPreab c l all s) :=
  Keeps.ite (layPreLayer_keeps hyp) (Keeps.ite (each_keeps hyp (fun _ _ => layPreLayer_keeps (.refl _))) (Keeps.ite (protoAlert_keeps hyp) hyp))

theorem laySre_keeps {α : State} {c cls mask : Nat} {s : State} (hyp : Keeps α s) : Keeps α (laySre c cls mask s) :=
  Keeps.ite hyp (Keeps.ite (alertOn_keeps (each_keeps hyp (fun _ _ => markAlert_keeps (.refl _)))) (State.setDch_keeps (each_keeps hyp
    (fun _ _ => State.setLay_keeps (.refl _)))))

theorem reissue_keeps {α : State} {n : Nat} {s : State} (hyp : Keeps α s) : Keeps α (reissue n s) :=
  each_keeps (each_keeps (State.setSet_keeps hyp) (fun _ _ => sendParcel_keeps (State.bump_keeps (.refl _)))) (fun _ _ => sendCompletion_keeps
    (.refl _))

theorem forwardAsk_keeps {α : State} {a : Ask} {s : State} (hyp : Keeps α s) : Keeps α (forwardAsk a s) := by
  unfold forwardAsk
  refine Keeps.ite (finish_keeps (addAsk_keeps ?_)) (Keeps.ite (finish_keeps (addAsk_keeps (Keeps.ite (reissue_keeps hyp) hyp))) (Keeps.ite
    (finish_keeps (addAsk_keeps (Keeps.ite (reissue_keeps hyp) hyp))) (Keeps.ite (addAsk_keeps (Keeps.ite (reissue_keeps hyp) hyp))
    (sendParcel_keeps (addAsk_keeps (Keeps.ite (reissue_keeps hyp) hyp))))))
  split
  · exact Keeps.ite (reissue_keeps hyp) hyp
  · exact countAccess_keeps (Keeps.ite (reissue_keeps hyp) hyp)

theorem sendNotice_keeps {α : State} {node obj v : Nat} {s : State} (hyp : Keeps α s) : Keeps α (sendNotice node obj v s) :=
  hyp.free (sendNotice_fr (Fr.refl 256 s))

theorem tellWatcher_keeps {α : State} {o v w : Nat} {s : State} (hyp : Keeps α s) : Keeps α (tellWatcher o v w s) :=
  hyp.free (tellWatcher_fr (Fr.refl 131328 s))

theorem putSync_keeps {α : State} {o : Nat} {v : Nat} {s : State} (hyp : Keeps α s) :
    Keeps α (putSync o v s) := by
  unfold putSync
  extract_lets s1 ready c1 s2 s3
  have h1 : Keeps α s1 := hyp.update (signals := Canonical.put (d := fun _ => 0))
  have h2 : Keeps α s2 := h1.update
  have h3 : Keeps α s3 := each_keeps h2 fun _ s => finish_keeps (Keeps.refl s)
  exact each_keeps h3 fun _ s => tellWatcher_keeps (Keeps.refl s)

theorem bumpSync_keeps {α : State} {o n : Nat} {broken : Bool} {s : State} (hyp : Keeps α s) : Keeps α (bumpSync o n broken s) :=
  putSync_keeps (Keeps.ite (raiseNode_keeps hyp) hyp)

theorem signalObject_keeps {α : State} {unit obj addend ctx : Nat} {world broken : Bool} {s : State} (hyp : Keeps α s) :
    Keeps α (signalObject unit obj addend ctx world broken s) :=
  Keeps.ite (Keeps.ite hyp (bumpSync_keeps hyp)) (forwardAsk_keeps hyp)

theorem redSignal_keeps {α : State} {r : Red} {broken : Bool} {s : State} (hyp : Keeps α s) : Keeps α (redSignal r broken s) :=
  Keeps.ite (signalObject_keeps hyp) hyp

theorem closeRecord_keeps {α : State} {r : Red} {broken : Bool} {s : State} (hyp : Keeps α s) : Keeps α (closeRecord r broken s) :=
  hyp.free (closeRecord_fr (Fr.refl 524288 s))

theorem syncDirty_keeps {α : State} {a : Nat} {s : State} (hyp : Keeps α s) : Keeps α (syncDirty a s) :=
  State.setOb_keeps hyp

theorem dropLine_keeps {α : State} {a : Nat} {s : State} (hyp : Keeps α s) : Keeps α (dropLine a s) := by
  unfold dropLine
  refine syncDirty_keeps ?_
  split
  · refine State.setWay_keeps ?_
    split
    · exact State.setWay_keeps hyp
    · exact hyp
  · split
    · exact State.setWay_keeps hyp
    · exact hyp

theorem offerInternal_keeps {α : State} {code cls ctx : Nat} {world : Bool} {a : Nat} {op : Op} {why : Purpose} {s : State} (hyp : Keeps α s) :
    Keeps α (offerInternal code cls ctx world a op why s) :=
  Keeps.ite (forwardAsk_keeps hyp) (Keeps.ite (finish_keeps (addAsk_keeps (countAccess_keeps hyp))) (Keeps.ite (finish_keeps (addAsk_keeps hyp))
    (addAsk_keeps hyp)))

theorem poisonWrite_keeps {α : State} {a : Nat} {s : State} (hyp : Keeps α s) : Keeps α (poisonWrite a s) :=
  offerInternal_keeps hyp

theorem breakRed_keeps {α : State} {r : Red} {s : State} (hyp : Keeps α s) : Keeps α (breakRed r s) :=
  raiseAt_keeps (State.bump_keeps (closeRecord_keeps (redSignal_keeps (each_keeps (each_keeps (poisonWrite_keeps (dropLine_keeps
    (State.setReds_keeps hyp))) (fun _ _ => finish_keeps (.refl _))) (fun _ _ => finish_keeps (.refl _))))))

theorem fenceReds_keeps {α : State} {ctx : Nat} {s : State} (hyp : Keeps α s) : Keeps α (fenceReds ctx s) :=
  each_keeps hyp (fun _ _ => breakRed_keeps (each_keeps (.refl _) (fun _ _ => finish_keeps (.refl _))))

theorem raiseCtx_keeps {α : State} {code inst ctx detail : Nat} {s : State} (hyp : Keeps α s) : Keeps α (raiseCtx code inst ctx detail s) :=
  raiseEvent_keeps hyp

theorem fenceContext_keeps {α : State} {cause : Nat} {ctx : Nat} {s : State} (hyp : Keeps α s) :
    Keeps α (fenceContext cause ctx s) := by
  unfold fenceContext
  refine Keeps.ite hyp (Keeps.ite (State.setFeeds_keeps hyp).update ?_)
  extract_lets s1 s2 s3 ts told s4 s5 ns cut f5 s6 c6 s7
  have h1 : Keeps α s1 := State.setOb_keeps hyp
  have h2 : Keeps α s2 := State.bump_keeps (State.setOb_keeps (State.setOb_keeps h1))
  have h3 : Keeps α s3 := raiseCtx_keeps h2
  have h4 : Keeps α s4 := each_keeps h3 fun _ s => Keeps.ite (State.send_keeps (Keeps.refl s)) (Keeps.refl s)
  have h5 : Keeps α s5 := each_keeps h4 fun _ s => dropEscapes_keeps (Keeps.refl s)
  have h6 : Keeps α s6 := State.setFeeds_keeps h5
  have h7 : Keeps α s7 := h6.update
  exact abortAsks_keeps (fenceReds_keeps h7)

theorem fenceStreams_keeps {α : State} {cause : Nat} {want : Nat → Stream → Bool} {s : State} (hyp : Keeps α s) :
    Keeps α (fenceStreams cause want s) :=
  each_keeps hyp (fun _ _ => fenceContext_keeps (.refl _))

theorem feedRefused_keeps {α : State} {n num : Nat} {s : State} (hyp : Keeps α s) : Keeps α (feedRefused n num s) := by
  unfold feedRefused
  split
  · exact hyp
  · exact fenceContext_keeps hyp

theorem loseContent_keeps {α : State} {c : Nat} {mask : Nat} {s : State} (hyp : Keeps α s) :
    Keeps α (loseContent c mask s) :=
  each_keeps (hyp.memory (loseSegments_memory c mask s.dram)) fun _ s => (Keeps.refl s).memory (loseSpare_memory ..)

theorem failChannel_keeps {α : State} {c : Nat} {s : State} (hyp : Keeps α s) : Keeps α (failChannel c s) := by
  unfold failChannel
  refine Keeps.ite hyp (syncDepth_keeps (fenceStreams_keeps (each_keeps (each_keeps (each_keeps (each_keeps (loseContent_keeps
    (State.setChan_keeps (raise_keeps (State.setChanState_keeps hyp)))) (fun _ _ => ?_)) (fun _ _ => finish_keeps (.refl _)))
    (fun _ _ => finish_keeps (.refl _))) (fun _ _ => retire_keeps (State.modAsk_keeps (.refl _))))))
  split
  · exact finish_keeps (.refl _)
  · exact feedRefused_keeps (.refl _)
  · exact State.setPath_keeps (.refl _)
  · exact (.refl _)

theorem channelFault_keeps {α : State} {c : Nat} {placed : Bool} {s : State} (hyp : Keeps α s) : Keeps α (channelFault c placed s) :=
  Keeps.ite hyp (Keeps.ite (failChannel_keeps (raise_keeps hyp)) (beginTraining_keeps (State.setChanState_keeps (State.modChan_keeps
    (abandonRound_keeps (Keeps.ite (fenceStreams_keeps (raise_keeps hyp)) (raise_keeps (laySre_keeps (layPreab_keeps (fenceStreams_keeps
    (raise_keeps hyp)))))))))))

theorem markUnretained_keeps {α : State} {c : Nat} {s : State} (hyp : Keeps α s) : Keeps α (markUnretained c s) :=
  Keeps.ite hyp (State.setOb_keeps (Keeps.update hyp))

theorem drainChannel_keeps {α : State} {c cls mask : Nat} {s : State} (hyp : Keeps α s) : Keeps α (drainChannel c cls mask s) :=
  hyp.free (drainChannel_fr (Fr.refl 262144 s))

theorem dropUnknown_keeps {α s : State} (hyp : Keeps α s) : Keeps α (dropUnknown s) :=
  each_keeps hyp (fun _ _ => State.bumpBy_keeps (State.modChan_keeps (.refl _)))

theorem journalHalt_keeps {α s : State} (hyp : Keeps α s) : Keeps α (journalHalt s) :=
  each_keeps (dropUnknown_keeps (State.setAsks_keeps (State.bumpBy_keeps hyp))) (fun _ _ => finish_keeps (.refl _))

theorem stopPorts_keeps {α s : State} (hyp : Keeps α s) : Keeps α (stopPorts s) :=
  each_keeps hyp (fun _ _ => Keeps.ite (.refl _) (State.setPort_keeps (each_keeps (.refl _) (fun _ _ => State.send_keeps (.refl _)))))

theorem haltChannels_keeps {α s : State} (hyp : Keeps α s) : Keeps α (haltChannels s) :=
  each_keeps (stopPorts_keeps (journalHalt_keeps (Keeps.update hyp))) (fun _ _ => Keeps.ite (.refl _) (Keeps.ite (drainChannel_keeps (.refl _))
    (markUnretained_keeps (.refl _))))

theorem startWriteBack_keeps {α : State} {line : Nat} {s : State} (hyp : Keeps α s) : Keeps α (startWriteBack line s) := by
  unfold startWriteBack
  dsimp only
  split
  · exact Keeps.ite hyp (offerInternal_keeps (count_keeps (State.setWay_keeps hyp)))
  · exact hyp

theorem writeBackAll_keeps {α : State} {f : CWay → Bool} {s : State} (hyp : Keeps α s) : Keeps α (writeBackAll f s) :=
  each_keeps hyp (fun _ _ => startWriteBack_keeps (.refl _))

theorem stopProcs_keeps {α s : State} (hyp : Keeps α s) : Keeps α (stopProcs s) :=
  Keeps.update hyp

theorem breakContinuity_keeps {α : State} {cause : Nat} {s : State} (hyp : Keeps α s) : Keeps α (breakContinuity cause s) :=
  Keeps.ite (raiseNode_keeps (State.setPlans_keeps hyp)) hyp

theorem closeSegments_keeps {α s : State} (hyp : Keeps α s) : Keeps α (closeSegments s) :=
  State.setSegments_keeps hyp

theorem setNode_keeps {α : State} {n : NodeState} {s : State} (hyp : Keeps α s) : Keeps α (setNode n s) :=
  Keeps.ite hyp (raiseNode_keeps (closeSegments_keeps (State.setOb_keeps (Keeps.update hyp))))

theorem enterHalted_keeps {α : State} {code : Nat} {back : Bool} {s : State} (hyp : Keeps α s) : Keeps α (enterHalted code back s) :=
  Keeps.ite hyp (Keeps.ite (haltChannels_keeps (Keeps.ite (writeBackAll_keeps (stopProcs_keeps (State.setOb_keeps (State.setOb_keeps (Keeps.update
    (breakContinuity_keeps (raiseNode_keeps (setNode_keeps (State.setOb_keeps hyp))))))))) (stopProcs_keeps (State.setOb_keeps (State.setOb_keeps
    (Keeps.update (breakContinuity_keeps (raiseNode_keeps (setNode_keeps (State.setOb_keeps hyp)))))))))) (Keeps.ite (writeBackAll_keeps
    (stopProcs_keeps (State.setOb_keeps (State.setOb_keeps (Keeps.update (breakContinuity_keeps (raiseNode_keeps (setNode_keeps (State.setOb_keeps
    hyp))))))))) (stopProcs_keeps (State.setOb_keeps (State.setOb_keeps (Keeps.update (breakContinuity_keeps (raiseNode_keeps (setNode_keeps
    (State.setOb_keeps hyp))))))))))

theorem singleFault_keeps {α : State} {code : Nat} {f : State → State} {s : State} (hyp : Keeps α s) (hf_f : ∀ y, Keeps y (f y)) :
    Keeps α (singleFault code f s) :=
  Keeps.ite (enterHalted_keeps (Keeps.trans (State.setOb_keeps hyp) (hf_f _))) (Keeps.trans (State.setOb_keeps hyp) (hf_f _))

theorem reissueRow_keeps {α : State} {c : Nat} {cmd : SdiCmd} {s : State} (hyp : Keeps α s) : Keeps α (reissueRow c cmd s) :=
  hyp.free (reissueRow_fr (Fr.refl 262144 s))

theorem failFlight_keeps {α : State} {c order : Nat} {s : State} (hyp : Keeps α s) : Keeps α (failFlight c order s) :=
  hyp.free (failFlight_fr (Fr.refl 262144 s))

theorem redoTemp_keeps {α : State} {c layer order : Nat} {s : State} (hyp : Keeps α s) : Keeps α (redoTemp c layer order s) :=
  hyp.free (redoTemp_fr (Fr.refl 4456448 s))

theorem resyncBank_keeps {α : State} {c l b : Nat} {s : State} (hyp : Keeps α s) : Keeps α (resyncBank c l b s) :=
  hyp.free (resyncBank_fr (Fr.refl 262144 s))

theorem reissueWrite_keeps {α : State} {c order : Nat} {s : State} (hyp : Keeps α s) : Keeps α (reissueWrite c order s).2 := by
  unfold reissueWrite
  split
  · exact hyp
  · refine syncDepth_keeps (each_keeps hyp (fun _ _ => State.modChan_keeps ?_))
    split
    · exact sampleFlag_keeps (State.bump_keeps (.refl _))
    · exact State.bump_keeps (.refl _)

theorem alerted_keeps {α : State} {c : Nat} {i : Issued} {s : State} (hyp : Keeps α s) : Keeps α (alerted c i s) := by
  unfold alerted
  extract_lets k rest s1
  have h1 : Keeps α s1 := State.modChan_keeps hyp
  have awake : Keeps α (if s1.chanState c = 6 then s1.setChanState c (s1.chan c).srFrom else s1) := Keeps.ite (State.setChanState_keeps h1) h1
  split
  rename_i fault t again
  have h2 : Keeps α t := by
    refine keepsS_of_eq again ?_
    split
    · exact reissueRow_keeps (resyncBank_keeps h1)
    · exact reissueRow_keeps (resyncBank_keeps h1)
    · exact reissueRow_keeps (each_keeps h1 fun _ _ => resyncBank_keeps (.refl _))
    · exact reissueRow_keeps (each_keeps h1 fun _ _ => each_keeps (.refl _) fun _ _ => resyncBank_keeps (.refl _))
    · exact reissueRow_keeps h1
    · exact failFlight_keeps (resyncBank_keeps h1)
    · exact resyncBank_keeps h1
    · exact reissueWrite_keeps (resyncBank_keeps h1)
    · exact addDebt_keeps h1
    · exact Keeps.ite (redoTemp_keeps h1) (failFlight_keeps h1)
    · exact h1
    · exact keepsS_mk (State.modChan_keeps awake)
    · exact reissueRow_keeps h1
    · exact reissueRow_keeps h1
  exact Keeps.ite (singleFault_keeps h2 fun _ => channelFault_keeps (.refl _)) h2

theorem allocSlot_keeps {α : State} {r : Nat} {g : Region} {s : State} (hyp : Keeps α s) : Keeps α (allocSlot r g s).2 := by
  unfold allocSlot
  dsimp only
  split
  · split
    · exact hyp
    · exact raiseNode_keeps (State.setPool_keeps hyp)
  · exact Keeps.ite (raiseNode_keeps (State.setPool_keeps hyp)) (State.setPool_keeps hyp)

theorem installAt_keeps {α : State} {k a data info : Nat} {s : State} (hyp : Keeps α s) : Keeps α (installAt k a data info s) :=
  hyp.free (installAt_fr (Fr.refl 524288 s))

theorem tryInstall_keeps {α : State} {a mask data info : Nat} {s : State} (hyp : Keeps α s) : Keeps α (tryInstall a mask data info s).2 := by
  unfold tryInstall
  split
  · exact hyp
  · split
    · exact Keeps.ite (State.setWay_keeps hyp) hyp
    · split
      · exact installAt_keeps hyp
      · exact startWriteBack_keeps hyp
      · exact hyp

theorem allocWrite_keeps {α : State} {a mask data info : Nat} {s : State} (hyp : Keeps α s) : Keeps α (allocWrite a mask data info s) :=
  Keeps.ite (tryInstall_keeps hyp) (State.setCache_keeps (tryInstall_keeps hyp))

theorem answerHanded_keeps {α s : State} (hyp : Keeps α s) : Keeps α (answerHanded s) := by
  unfold answerHanded
  refine each_keeps (State.setWrites_keeps hyp) (fun _ _ => ?_)
  split
  · exact answer_keeps (.refl _)
  · exact (.refl _)

theorem answerInternal_keeps {α : State} {id : Nat} {s : State} (hyp : Keeps α s) : Keeps α (answerInternal id s) := by
  unfold answerInternal
  split
  · split
    · exact State.modAsk_keeps hyp
    · exact State.modAsk_keeps hyp
    · exact dropAsk_keeps hyp
  · exact hyp

theorem applyNext_keeps {α : State} {r : Red} {s : State} (hyp : Keeps α s) : KeepsOS α (applyNext r s) := by
  unfold applyNext
  split
  · exact keepsOS_some (applyAsk_keeps (countIf_keeps (State.bump_keeps hyp)))
  · exact keepsOS_none

theorem applyAll_keeps {α : State} {k : Nat} {r : Red} {s : State} (hyp : Keeps α s) :
    Keeps α (applyAll k r s).2 := by
  induction k generalizing r s with
  | zero => exact hyp
  | succ k ih =>
    unfold applyAll
    split
    · exact ih (keepsOS_of_eq (by assumption) (applyNext_keeps hyp))
    · exact hyp

theorem applyAtomic_keeps {α : State} {q : Ask} {k : Nat} {w : CWay} {f offset : Nat} {wide fetch : Bool} {a b : Nat} {s : State}
    (hyp : Keeps α s) : Keeps α (applyAtomic q k w f offset wide fetch a b s) :=
  Keeps.ite (applyAsk_keeps (touch_keeps (countIf_keeps (State.bump_keeps hyp)))) (Keeps.ite (applyAsk_keeps (syncDirty_keeps (mirrorLine_keeps
    (touch_keeps (State.setWay_keeps (countIf_keeps (State.bump_keeps hyp))))))) (startWriteBack_keeps (State.modAsk_keeps (syncDirty_keeps
    (mirrorLine_keeps (touch_keeps (State.setWay_keeps (countIf_keeps (State.bump_keeps hyp)))))))))

theorem layerVref_keeps {α : State} {c g v : Nat} {s : State} (hyp : Keeps α s) : Keeps α (layerVref c g v s) :=
  layMrwb_keeps hyp

theorem setSetting_keeps {α : State} {c code inst v : Nat} {s : State} (hyp : Keeps α s) : Keeps α (setSetting c code inst v s) :=
  State.setOb_keeps hyp

theorem writeStep_keeps {α : State} {c : Nat} {s : State} (hyp : Keeps α s) : Keeps α (writeStep c s) := by
  unfold writeStep
  split
  · exact hyp
  · exact State.modTr_keeps (Keeps.ite (layerVref_keeps (setSetting_keeps hyp)) (setSetting_keeps hyp))

theorem wantSteer_keeps {α : State} {c : Nat} {g : Option Nat} {s : State} (hyp : Keeps α s) : Keeps α (wantSteer c g s) :=
  hyp.free (wantSteer_fr (Fr.refl 8388608 s))

theorem groupOffline_keeps {α : State} {c : Nat} {s : State} (hyp : Keeps α s) : Keeps α (groupOffline c s) :=
  hyp.free (groupOffline_fr (Fr.refl 8388608 s))

theorem recordDue_keeps {α : State} {c : Nat} {s : State} (hyp : Keeps α s) : Keeps α (recordDue c s) := by
  unfold recordDue
  split
  · exact hyp
  · exact Keeps.update hyp

theorem roundEnd_keeps {α : State} {c : Nat} {s : State} (hyp : Keeps α s) : Keeps α (roundEnd c s) :=
  Keeps.ite (recordDue_keeps (State.modTr_keeps (groupOffline_keeps (State.bump_keeps (State.modTr_keeps hyp))))) (groupOffline_keeps
    (State.bump_keeps (State.modTr_keeps hyp)))

theorem nextGroup_keeps {α : State} {c : Nat} {s : State} (hyp : Keeps α s) : Keeps α (nextGroup c s) :=
  Keeps.ite (roundEnd_keeps (State.modTr_keeps hyp)) (groupOffline_keeps (State.modTr_keeps hyp))

theorem centresDone_keeps {α : State} {c g : Nat} {s : State} (hyp : Keeps α s) : Keeps α (centresDone c g s) :=
  nextGroup_keeps (State.modTr_keeps hyp)

theorem applyCentres_keeps {α : State} {c g rv wv : Nat} {delays : List Nat} {s : State} (hyp : Keeps α s) :
    Keeps α (applyCentres c g rv wv delays s) :=
  Keeps.ite (centresDone_keeps hyp) (writeStep_keeps (State.modTr_keeps hyp))

theorem setShaper_keeps {α : State} {l : Nat} {c : ℤ} {s : State} (hyp : Keeps α s) : Keeps α (setShaper l c s) :=
  State.setOb_keeps (State.setPath_keeps hyp)

theorem fillMeter_keeps {α : State} {l : Nat} {s : State} (hyp : Keeps α s) : Keeps α (fillMeter l s) :=
  hyp.free (fillMeter_fr (Fr.refl 262144 s))

theorem endRestore_keeps {α : State} {c num : Nat} {line : Option (Nat × Nat)} {s : State} (hyp : Keeps α s) :
    Keeps α (endRestore c num line s) :=
  hyp.free (endRestore_fr (Fr.refl 1048576 s))

theorem dropReader_keeps {α : State} {status : Nat} {r : FarReader} {s : State} (hyp : Keeps α s) : Keeps α (dropReader status r s) := by
  unfold dropReader
  split
  · exact finish_keeps hyp
  · exact endRestore_keeps hyp
  · exact hyp
  · exact finish_keeps hyp
  · exact State.setFar_keeps hyp

theorem backingDone_keeps {α : State} {id : Nat} {s : State} (hyp : Keeps α s) : Keeps α (backingDone id s) := by
  unfold backingDone
  split
  · split
    · exact Keeps.ite (State.modAsk_keeps hyp) (finish_keeps (State.modAsk_keeps hyp))
    · exact State.modAsk_keeps hyp
  · exact hyp

theorem endFarWrite_keeps {α : State} {id : Nat} {backing : Bool} {status : Nat} {s : State} (hyp : Keeps α s) :
    Keeps α (endFarWrite id backing status s) :=
  Keeps.ite (backingDone_keeps hyp) (finish_keeps hyp)

theorem emptyPort_keeps {α : State} {status : Nat} {s : State} (hyp : Keeps α s) : Keeps α (emptyPort status s) := by
  unfold emptyPort
  refine State.setFar_keeps (each_keeps (each_keeps hyp (fun _ _ => each_keeps (each_keeps (.refl _) (fun _ _ => dropReader_keeps (.refl _)))
    (fun _ _ => endFarWrite_keeps (.refl _)))) (fun _ _ => ?_))
  split
  · exact endFarWrite_keeps (.refl _)
  · exact dropReader_keeps (.refl _)

theorem startLedgerZero_keeps {α s : State} (hyp : Keeps α s) : Keeps α (startLedgerZero s) :=
  State.setOb_keeps (State.setFar_keeps (emptyPort_keeps hyp))

theorem applySetting_keeps {α : State} {key v f : Nat} {s : State} (hyp : Keeps α s) : Keeps α (applySetting key v f s) := by
  unfold applySetting
  split
  · exact Keeps.ite (startLedgerZero_keeps (State.setOb_keeps hyp)) (State.setOb_keeps hyp)
  · exact Keeps.ite (State.setPlans_keeps (State.setOb_keeps hyp)) (Keeps.ite (stopWindow_keeps (State.setOb_keeps hyp)) (Keeps.ite
      (fillMeter_keeps (State.setOb_keeps hyp)) (Keeps.ite (setShaper_keeps (State.setOb_keeps hyp)) (Keeps.ite (State.setPort_keeps
      (State.setOb_keeps hyp)) (State.setOb_keeps hyp)))))

theorem syncWfq_keeps {α : State} {c : Nat} {write : Bool} {s : State} (hyp : Keeps α s) : Keeps α (syncWfq c write s) :=
  hyp.free (syncWfq_fr (Fr.refl 262144 s))

theorem syncQueues_keeps {α s : State} (hyp : Keeps α s) : Keeps α (syncQueues s) :=
  hyp.free (syncQueues_fr (Fr.refl 262144 s))

theorem applyPending_keeps {α : State} {f : Nat} {s : State} (hyp : Keeps α s) : Keeps α (applyPending f s) :=
  each_keeps (Keeps.update (syncQueues_keeps hyp)) (fun _ _ => applySetting_keeps (.refl _))

theorem setLayers_keeps {α : State} {c : Nat} {s : State} (hyp : Keeps α s) : Keeps α (setLayers c s) :=
  layModes_keeps hyp

theorem takeFallback_keeps {α : State} {c mask width : Nat} {spare : Option Nat} {s : State} (hyp : Keeps α s) :
    Keeps α (takeFallback c mask width spare s) :=
  Keeps.ite (raise_keeps (Keeps.ite (raise_keeps (setLayers_keeps (State.setOb_keeps (State.modTr_keeps (each_keeps (State.setOb_keeps
    (State.setOb_keeps hyp)) (fun _ _ => State.setOb_keeps (.refl _))))))) (setLayers_keeps (State.setOb_keeps (State.modTr_keeps (each_keeps
    (State.setOb_keeps (State.setOb_keeps hyp)) (fun _ _ => State.setOb_keeps (.refl _)))))))) (Keeps.ite (raise_keeps (setLayers_keeps
    (State.setOb_keeps (State.modTr_keeps (each_keeps (State.setOb_keeps (State.setOb_keeps hyp)) (fun _ _ => State.setOb_keeps (.refl _)))))))
    (setLayers_keeps (State.setOb_keeps (State.modTr_keeps (each_keeps (State.setOb_keeps (State.setOb_keeps hyp)) (fun _ _ => State.setOb_keeps
    (.refl _)))))))

theorem takeSettings_keeps {α : State} {c : Nat} {group : Nat → Nat} {lanes ca : Nat} {s : State} (hyp : Keeps α s) :
    Keeps α (takeSettings c group lanes ca s) :=
  layMrwb_keeps (State.setOb_keeps (State.setOb_keeps (each_keeps hyp (fun _ _ => layerVref_keeps (State.setOb_keeps (.refl _))))))

theorem applyRecord_keeps {α : State} {c : Nat} {b : List Byte} {s : State} (hyp : Keeps α s) : Keeps α (applyRecord c b s) :=
  takeFallback_keeps (State.modTr_keeps (takeSettings_keeps (State.setOb_keeps hyp)))

theorem trainCopy_keeps {α : State} {c : Nat} {b : Bool} {seq : Nat} {s : State} (hyp : Keeps α s) : Keeps α (trainCopy c b seq s) :=
  Keeps.update hyp

theorem trainSettled_keeps {α : State} {c : Nat} {s : State} (hyp : Keeps α s) : Keeps α (trainSettled c s) :=
  Keeps.update hyp

theorem trainWritten_keeps {α : State} {c : Nat} {x : RecordArea} {seq : Nat} {s : State} (hyp : Keeps α s) :
    Keeps α (trainWritten c x seq s) :=
  State.setOb_keeps (Keeps.ite (Keeps.ite (trainSettled_keeps hyp) (trainCopy_keeps (trainSettled_keeps hyp))) (trainCopy_keeps (Keeps.ite
    (trainSettled_keeps hyp) (trainCopy_keeps (trainSettled_keeps hyp)))))

theorem forgetOrder_keeps {α : State} {n : Nat} {s : State} (hyp : Keeps α s) : Keeps α (forgetOrder n s) :=
  State.setWrites_keeps hyp

theorem complete_keeps {α : State} {who : Completer} {status detail : Nat} {s : State} (hyp : Keeps α s) :
    Keeps α (complete who status detail s) := by
  unfold complete
  split
  · exact answer_keeps hyp
  · exact Keeps.ite (ackOrder_keeps hyp) (sendParcel_keeps (Keeps.ite hyp (forgetOrder_keeps hyp)))

theorem gatherWritten_keeps {α : State} {s : State} (hyp : Keeps α s) :
    Keeps α (gatherWritten s) :=
  each_keeps hyp.update fun _ s => complete_keeps (Keeps.update (State.setOb_keeps (Keeps.refl s)))

theorem gatherRefused_keeps {α s : State} (hyp : Keeps α s) : Keeps α (gatherRefused s) :=
  each_keeps (Keeps.update hyp) (fun _ _ => complete_keeps (.refl _))

theorem recordRefused_keeps {α : State} {area index : Nat} {s : State} (hyp : Keeps α s) : Keeps α (recordRefused area index s) :=
  Keeps.ite (gatherRefused_keeps hyp) (Keeps.ite (raise_keeps (trainSettled_keeps hyp)) hyp)

theorem areaWritten_keeps {α : State} {area index : Nat} {s : State} (hyp : Keeps α s) : Keeps α (areaWritten area index s) :=
  Keeps.ite hyp (Keeps.ite (Keeps.ite (gatherRefused_keeps hyp) hyp) (Keeps.ite (recordRefused_keeps hyp) (Keeps.ite (gatherWritten_keeps
    (State.bumpBy_keeps (State.setRecordArea_keeps hyp))) (Keeps.ite (Keeps.update (State.bumpBy_keeps (State.setRecordArea_keeps hyp)))
    (Keeps.ite (trainWritten_keeps (State.bumpBy_keeps (State.setRecordArea_keeps hyp))) (State.bumpBy_keeps (State.setRecordArea_keeps hyp)))))))

theorem pendTide_keeps {α : State} {key v : Nat} {s : State} (hyp : Keeps α s) : Keeps α (pendTide key v s) :=
  Keeps.update hyp

theorem gatherPersist_keeps {α : State} {who : Completer} {idx sub v : Nat} {s : State} (hyp : Keeps α s) :
    KeepsW α (gatherPersist who idx sub v s) := by
  unfold gatherPersist
  split
  · exact keepsW_refused hyp
  · split
    · exact keepsW_refused hyp
    · refine keepsW_wait ?_
      split
      · exact Keeps.update hyp
      · exact Keeps.update hyp

theorem settingHome_keeps {α : State} {idx sub v : Nat} {who : Completer} {s0 : State} (hyp : Keeps α s0) :
    KeepsW α (settingHome idx sub v who s0) := by
  unfold settingHome
  split
  · exact keepsW_done hyp
  · split
    · exact gatherPersist_keeps hyp
    · split
      · exact keepsW_done (pendTide_keeps hyp)
      · exact keepsW_done (applySetting_keeps hyp)

theorem armFrameHome_keeps {α : State} {v : Nat} {who : Completer} {s0 : State} (hyp : Keeps α s0) : KeepsW α (armFrameHome v who s0) := by
  unfold armFrameHome
  split
  · exact keepsW_refused hyp
  · exact settingHome_keeps hyp

theorem setPlanState_keeps {α : State} {v : Nat} {s : State} (hyp : Keeps α s) : Keeps α (setPlanState v s) :=
  State.setOb_keeps hyp

theorem armPlan_keeps {α : State} {stop : Bool} {f : Nat} {s : State} (hyp : Keeps α s) : Keeps α (armPlan stop f s) :=
  setPlanState_keeps (State.setOb_keeps (State.setOb_keeps (State.setPlans_keeps hyp)))

theorem armWindows_keeps {α : State} {f : Nat} {s : State} (hyp : Keeps α s) : Keeps α (armWindows f s) :=
  hyp.free (armWindows_fr (Fr.refl 262144 s))

theorem issueBaleRead_keeps {α : State} {b : Nat} {s : State} (hyp : Keeps α s) : Keeps α (issueBaleRead b s) :=
  State.send_keeps (State.modBale_keeps hyp)

theorem useBale_keeps {α : State} {b : Nat} {s : State} (hyp : Keeps α s) : Keeps α (useBale b s) :=
  hyp.free (useBale_fr (Fr.refl 1048576 s))

theorem takeBale_keeps {α : State} {b : Nat} {s : State} (hyp : Keeps α s) : Keeps α (takeBale b s) :=
  Keeps.ite (useBale_keeps hyp) (State.peak_keeps (State.setFar_keeps hyp))

theorem waitBale_keeps {α : State} {b : Nat} {r : FarReader} {s : State} (hyp : Keeps α s) : Keeps α (waitBale b r s) := by
  unfold waitBale
  dsimp only
  split
  · exact Keeps.ite (issueBaleRead_keeps (State.modBale_keeps (takeBale_keeps hyp))) (State.modBale_keeps (takeBale_keeps hyp))
  · exact State.modBale_keeps (takeBale_keeps hyp)

theorem endFarRead_keeps {α : State} {id : Nat} {line : Option (Nat × Nat)} {s : State} (hyp : Keeps α s) : Keeps α (endFarRead id line s) := by
  unfold endFarRead
  dsimp only
  split
  · split
    · exact finish_keeps (countAccess_keeps hyp)
    · exact Keeps.ite (finish_keeps hyp) (finish_keeps hyp)
  · exact finish_keeps hyp

theorem noteLost_keeps {α : State} {b : Nat} {s : State} (hyp : Keeps α s) : Keeps α (noteLost b s) :=
  Keeps.ite hyp (raiseNode_keeps (State.setFar_keeps hyp))

theorem endTransferRead_keeps {α : State} {num : Nat} {line : Nat → Nat × Nat} {s : State} (hyp : Keeps α s) :
    Keeps α (endTransferRead num line s) :=
  hyp.free (endTransferRead_fr (Fr.refl 1048576 s))

theorem fillMissing_keeps {α : State} {b : Nat} {f : Nat → Nat × Nat} {s : State} (hyp : Keeps α s) : Keeps α (fillMissing b f s) :=
  hyp.free (fillMissing_fr (Fr.refl 1048576 s))

theorem issueBaleWrite_keeps {α : State} {b v : Nat} {s : State} (hyp : Keeps α s) : Keeps α (issueBaleWrite b v s) := by
  unfold issueBaleWrite
  split
  · exact hyp
  · exact Keeps.ite hyp (State.send_keeps (State.modBale_keeps (advanceLedger_keeps hyp)))

theorem denyBale_keeps {α : State} {b : Nat} {s : State} (hyp : Keeps α s) : Keeps α (denyBale b s) := by
  unfold denyBale
  split
  · exact hyp
  · exact each_keeps (State.setFar_keeps (noteLost_keeps hyp)) (fun _ _ => endFarWrite_keeps (.refl _))

theorem writeBale_keeps {α : State} {b : Nat} {s : State} (hyp : Keeps α s) : Keeps α (writeBale b s) := by
  unfold writeBale
  split
  · exact hyp
  · refine Keeps.ite hyp ?_
    split
    · exact denyBale_keeps hyp
    · exact Keeps.ite hyp (Keeps.ite (issueBaleWrite_keeps hyp) (Keeps.ite (issueBaleWrite_keeps (fillMissing_keeps hyp)) (waitBale_keeps hyp)))

theorem mergeBale_keeps {α : State} {w : FarWrite} {l : Nat × Nat} {s : State} (hyp : Keeps α s) : Keeps α (mergeBale w l s) := by
  unfold mergeBale
  dsimp only
  split
  · exact Keeps.ite (writeBale_keeps (State.modBale_keeps hyp)) (State.modBale_keeps hyp)
  · exact State.modBale_keeps hyp

theorem serveReader_keeps {α : State} {b : Nat} {r : FarReader} {s : State} (hyp : Keeps α s) : Keeps α (serveReader b r s) := by
  unfold serveReader
  dsimp only
  split
  · exact hyp
  · split
    · exact endFarRead_keeps hyp
    · exact endRestore_keeps hyp
    · exact hyp
    · split
      · split
        · exact mergeBale_keeps hyp
        · exact finish_keeps hyp
      · exact hyp
    · exact endTransferRead_keeps hyp

theorem failReader_keeps {α : State} {b : Nat} {r : FarReader} {s : State} (hyp : Keeps α s) : Keeps α (failReader b r s) := by
  unfold failReader
  split
  · exact Keeps.ite (serveReader_keeps hyp) (finish_keeps hyp)
  · exact Keeps.ite (serveReader_keeps hyp) (endRestore_keeps hyp)
  · exact raiseNode_keeps (fillMissing_keeps hyp)
  · exact Keeps.ite (serveReader_keeps hyp) (finish_keeps hyp)
  · exact endTransferRead_keeps hyp

theorem takeFarRead_keeps {α : State} {b line : Nat} {r : FarReader} {s : State} (hyp : Keeps α s) : Keeps α (takeFarRead b line r s) := by
  unfold takeFarRead
  refine Keeps.ite (waitBale_keeps hyp) ?_
  split
  · exact failReader_keeps (noteLost_keeps hyp)
  · split
    · exact endFarRead_keeps (useBale_keeps hyp)
    · exact endRestore_keeps (useBale_keeps hyp)
    · exact waitBale_keeps hyp
  · exact waitBale_keeps hyp

theorem takeFarWrite_keeps {α : State} {w : FarWrite} {s : State} (hyp : Keeps α s) : Keeps α (takeFarWrite w s) := by
  unfold takeFarWrite
  dsimp only
  split
  · exact endFarWrite_keeps (noteLost_keeps hyp)
  · refine Keeps.ite (endFarWrite_keeps (raiseNode_keeps hyp)) ?_
    split
    · exact mergeBale_keeps (takeBale_keeps hyp)
    · exact Keeps.ite (endFarWrite_keeps (takeBale_keeps hyp)) (waitBale_keeps (takeBale_keeps hyp))

theorem takeFarOp_keeps {α : State} {a : FarOp} {a_ : State} (hyp : Keeps α a_) : Keeps α (takeFarOp a a_) := by
  unfold takeFarOp
  split
  · exact takeFarWrite_keeps hyp
  · exact takeFarRead_keeps hyp

theorem evictBale_keeps {α s : State} (hyp : Keeps α s) : Keeps α (evictBale s) := by
  unfold evictBale
  dsimp only
  refine Keeps.ite hyp ?_
  split
  · exact writeBale_keeps hyp
  · exact hyp

theorem drainFar_keeps {α s : State} (hyp : Keeps α s) : Keeps α (drainFar s) :=
  evictBale_keeps (each_keeps hyp (fun _ _ => Keeps.ite (takeFarOp_keeps (State.setFar_keeps (.refl _))) (.refl _)))

theorem noteEntry_keeps {α : State} {q : Ask} {s : State} (hyp : Keeps α s) : Keeps α (noteEntry q s) :=
  hyp.free (noteEntry_fr (Fr.refl 262144 s))

theorem readEscape_keeps {α : State} {u slot l ctx : Nat} {world : Bool} {why : Nat → Purpose} {s : State} (hyp : Keeps α s) :
    Keeps α (readEscape u slot l ctx world why s) :=
  each_keeps hyp (fun _ _ => offerInternal_keeps (.refl _))

theorem countWiden_keeps {α : State} {u a : Nat} {cs : Cause} {w : Widened} {s : State} (hyp : Keeps α s) :
    Keeps α (countWiden u a cs w s) := by
  unfold countWiden
  split
  · exact raiseAt_keeps (State.bump_keeps hyp)
  · exact raiseAt_keeps (State.bump_keeps hyp)
  · exact raiseAt_keeps (State.bump_keeps hyp)
  · exact countIf_keeps (countIf_keeps (State.bumpBy_keeps (State.bump_keeps hyp)))
  · exact hyp

theorem finishWiden_keeps {α : State} {q : Ask} {j : Nat} {l : Nat × Nat} {s : State} (hyp : Keeps α s) : Keeps α (finishWiden q j l s) := by
  unfold finishWiden
  dsimp only
  refine Keeps.ite (finish_keeps hyp) ?_
  split
  · exact finish_keeps (countWiden_keeps hyp)
  · exact finish_keeps (countWiden_keeps hyp)
  · exact finish_keeps (countWiden_keeps hyp)
  · exact finish_keeps (countWiden_keeps hyp)
  · exact finish_keeps (countWiden_keeps hyp)
  · exact readEscape_keeps (State.modAsk_keeps (countWiden_keeps hyp))

theorem finishRead_keeps {α : State} {id : Nat} {l : Nat × Nat} {s : State} (hyp : Keeps α s) : Keeps α (finishRead id l s) := by
  unfold finishRead
  split
  · exact hyp
  · refine Keeps.ite hyp (Keeps.ite (finish_keeps (countAccess_keeps hyp)) (Keeps.ite (finish_keeps (State.modAsk_keeps (Keeps.ite
      (State.bump_keeps hyp) hyp))) (Keeps.ite (finish_keeps (Keeps.ite (State.bump_keeps hyp) hyp)) ?_)))
    split
    · exact finishWiden_keeps (Keeps.ite (State.bump_keeps hyp) hyp)
    · exact finish_keeps (Keeps.ite (State.bump_keeps hyp) hyp)

theorem countGrant_keeps {α : State} {q : Ask} {credit : ℤ} {s : State} (hyp : Keeps α s) : Keeps α (countGrant q credit s) :=
  Keeps.ite (Keeps.ite (State.bump_keeps hyp) (setShaper_keeps (State.bump_keeps hyp))) (State.setOb_keeps (Keeps.ite (State.bump_keeps hyp)
    (setShaper_keeps (State.bump_keeps hyp))))

theorem denyAsk_keeps {α : State} {id : Nat} {s : State} (hyp : Keeps α s) : Keeps α (denyAsk id s) := by
  unfold denyAsk
  split
  · exact hyp
  · split
    · exact raiseAt_keeps (State.bump_keeps (finish_keeps hyp))
    · exact raiseAt_keeps (State.bump_keeps (finish_keeps hyp))
    · exact finish_keeps hyp

theorem stepAccess_keeps {α : State} {q : Ask} {s : State} (hyp : Keeps α s) : Keeps α (stepAccess q s).2 := by
  unfold stepAccess
  extract_lets ranged
  have checked (op : AccessOp) : Keeps α (ranged op).2 := by
    dsimp only [ranged]
    split
    · rename_i st t access
      exact keepsS_of_eq access (accessCheck_keeps hyp)
    · rename_i t access
      have h1 : Keeps α t := keepsS_of_eq access (accessCheck_keeps hyp)
      exact keepsS_ite (fun _ => raiseNode_keeps h1) fun _ => h1
  split
  · exact keepsS_ite (fun _ => keepsS_mk (countAccess_keeps hyp)) fun _ => hyp
  · exact checked _
  · exact checked _

theorem step5_keeps {α : State} {q : Ask} {s : State} (hyp : Keeps α s) : Keeps α (step5 q s).2 := by
  unfold step5
  split
  · exact hyp
  · split
    · exact hyp
    · split
      · exact keepsS_of_eq ‹_› (stepAccess_keeps hyp)
      · exact keepsS_of_eq ‹_› (stepAccess_keeps hyp)

theorem recheck_keeps {α : State} {q : Ask} {s : State} (hyp : Keeps α s) : Keeps α (recheck q s).2 := by
  unfold recheck
  split
  · exact hyp
  · split
    · exact keepsS_of_eq ‹_› (step5_keeps hyp)
    · exact Keeps.ite (refuseLater_keeps (keepsS_of_eq ‹_› (step5_keeps hyp))) (Keeps.ite (denyAsk_keeps (keepsS_of_eq ‹_› (step5_keeps hyp)))
        (finish_keeps (keepsS_of_eq ‹_› (step5_keeps hyp))))
    · exact dropAsk_keeps (keepsS_of_eq ‹_› (step5_keeps hyp))

theorem grant_keeps {α : State} {q : Ask} {confirmed : Bool} {f : State → State} {s : State} (hyp : Keeps α s) (hf_f : ∀ y, Keeps y (f y)) :
    Keeps α (grant q confirmed f s) := by
  unfold grant
  split
  · exact keepsS_of_eq ‹_› (recheck_keeps hyp)
  · split
    · exact Keeps.ite (denyAsk_keeps (keepsS_of_eq ‹_› (recheck_keeps hyp))) (finish_keeps (keepsS_of_eq ‹_› (recheck_keeps hyp)))
    · exact Keeps.ite (Keeps.ite (keepsS_of_eq ‹_› (recheck_keeps hyp)) (refuseLater_keeps (keepsS_of_eq ‹_› (recheck_keeps hyp)))) (Keeps.trans
        (acceptAsk_keeps (countGrant_keeps (keepsS_of_eq ‹_› (recheck_keeps hyp)))) (hf_f _))

theorem serveHit_keeps {α : State} {id : Nat} {s : State} (hyp : Keeps α s) : Keeps α (serveHit id s) := by
  unfold serveHit
  split
  · exact hyp
  · refine Keeps.ite hyp ?_
    split
    · exact Keeps.ite (grant_keeps hyp (fun _ => finishRead_keeps (noteEntry_keeps (.refl _)))) (grant_keeps hyp (fun _ => State.modRed_keeps
        (noteEntry_keeps (.refl _))))
    · exact grant_keeps hyp (fun _ => finishRead_keeps (touch_keeps (countHit_keeps (noteEntry_keeps (.refl _)))))
    · exact hyp

theorem queueFar_keeps {α : State} {w : FarOp} {s : State} (hyp : Keeps α s) : Keeps α (queueFar w s) :=
  hyp.free (queueFar_fr (Fr.refl 1048576 s))

theorem farWrite_keeps {α : State} {w : FarWrite} {s : State} (hyp : Keeps α s) : Keeps α (farWrite w s) :=
  Keeps.ite (finish_keeps hyp) (Keeps.ite (takeFarWrite_keeps hyp) (queueFar_keeps hyp))

theorem farRead_keeps {α : State} {b line : Nat} {r : FarReader} {s : State} (hyp : Keeps α s) : Keeps α (farRead b line r s) := by
  unfold farRead
  refine Keeps.ite ?_ (Keeps.ite (takeFarRead_keeps ?_) (queueFar_keeps ?_))
  · split
    · exact finish_keeps hyp
    · refine failReader_keeps ?_
      split
      · exact count_keeps hyp
      · exact hyp
  · split
    · exact count_keeps hyp
    · exact hyp
  · split
    · exact count_keeps hyp
    · exact hyp

theorem serveFar_keeps {α : State} {id : Nat} {s : State} (hyp : Keeps α s) : Keeps α (serveFar id s) := by
  unfold serveFar
  split
  · exact hyp
  · refine Keeps.ite hyp ?_
    split
    · exact grant_keeps hyp (fun _ => farRead_keeps (.refl _))
    · exact grant_keeps hyp (fun _ => farWrite_keeps (.refl _))
    · exact grant_keeps hyp (fun _ => farWrite_keeps (.refl _))
    · exact hyp

theorem serveAbsorb_keeps {α : State} {id mask data : Nat} {s : State} (hyp : Keeps α s) : Keeps α (serveAbsorb id mask data s) := by
  unfold serveAbsorb
  split
  · exact hyp
  · refine Keeps.ite hyp (Keeps.ite (refuseLater_keeps hyp) ?_)
    split
    · exact Keeps.ite hyp (grant_keeps hyp (fun _ => absorbWrite_keeps (.refl _)))
    · exact hyp

theorem breakPoisoned_keeps {α : State} {a : Nat} {s : State} (hyp : Keeps α s) : Keeps α (breakPoisoned a s) := by
  unfold breakPoisoned
  split
  · exact Keeps.ite (breakRed_keeps hyp) hyp
  · exact hyp

theorem openRed_keeps {α : State} {a : Nat} {w : RedWord} {s : State} (hyp : Keeps α s) : Keeps α (openRed a w s) :=
  State.setReds_keeps hyp

theorem openRefused_keeps {α : State} {a : Nat} {w : RedWord} {s : State} (hyp : Keeps α s) : Keeps α (openRefused a w s) :=
  Keeps.ite (offerInternal_keeps (breakPoisoned_keeps (openRed_keeps hyp))) (breakPoisoned_keeps (openRed_keeps hyp))

theorem sliceLater_keeps {α : State} {x id : Nat} {s : State} (hyp : Keeps α s) : Keeps α (sliceLater x id s) := by
  unfold sliceLater
  refine refuseLater_keeps ?_
  split
  · exact countIf_keeps hyp
  · exact hyp

theorem serveReduce_keeps {α : State} {id : Nat} {s : State} (hyp : Keeps α s) : Keeps α (serveReduce id s) := by
  unfold serveReduce
  split
  · exact hyp
  · split
    · refine Keeps.ite hyp (Keeps.ite (denyAsk_keeps hyp) (Keeps.ite (finish_keeps hyp) (Keeps.ite (sliceLater_keeps hyp) ?_)))
      split
      · exact acceptOr_keeps hyp (fun _ => finish_keeps (.refl _))
      · exact denyAsk_keeps hyp
      · exact sliceLater_keeps (Keeps.ite (openRefused_keeps hyp) hyp)
      · exact Keeps.ite (refuseLater_keeps hyp) (breakPoisoned_keeps (State.peak_keeps (acceptAsk_keeps (countIf_keeps (State.modRed_keeps
          (Keeps.ite (openRed_keeps hyp) hyp))))))
    · exact hyp

theorem serveSliced_keeps {α : State} {q : Ask} {f : State → State} {s : State} (hyp : Keeps α s) (hf_f : ∀ y, Keeps y (f y)) :
    Keeps α (serveSliced q f s) := by
  unfold serveSliced
  dsimp only
  refine Keeps.ite (Keeps.trans hyp (hf_f _)) (Keeps.ite hyp ?_)
  split
  · exact keepsS_of_eq ‹_› (recheck_keeps hyp)
  · split
    · exact Keeps.ite (countGrant_keeps (Keeps.trans (keepsS_of_eq ‹_› (recheck_keeps hyp)) (hf_f _))) (Keeps.trans (keepsS_of_eq ‹_›
        (recheck_keeps hyp)) (hf_f _))
    · exact Keeps.trans (keepsS_of_eq ‹_› (recheck_keeps hyp)) (hf_f _)

theorem serveFlush_keeps {α : State} {q : Ask} {s : State} (hyp : Keeps α s) : Keeps α (serveFlush q s) := by
  unfold serveFlush
  split
  · exact Keeps.ite (startWriteBack_keeps (State.setCache_keeps hyp)) (applyAsk_keeps hyp)
  · exact applyAsk_keeps hyp

theorem tryAtomic_keeps {α : State} {q : Ask} {f offset : Nat} {wide fetch : Bool} {a b : Nat} {s : State} (hyp : Keeps α s) :
    Keeps α (tryAtomic q f offset wide fetch a b s) := by
  unfold tryAtomic
  refine Keeps.ite hyp (Keeps.ite (serveFlush_keeps hyp) ?_)
  split
  · exact hyp
  · refine Keeps.ite (finish_keeps hyp) (Keeps.ite (applyAtomic_keeps hyp) ?_)
    split
    · exact startWriteBack_keeps hyp
    · exact applyAtomic_keeps hyp

theorem serveAtomic_keeps {α : State} {id : Nat} {s : State} (hyp : Keeps α s) : Keeps α (serveAtomic id s) := by
  unfold serveAtomic
  split
  · exact hyp
  · split
    · exact Keeps.ite hyp (Keeps.ite (denyAsk_keeps hyp) (Keeps.ite (finish_keeps hyp) (Keeps.ite (Keeps.ite (sliceLater_keeps hyp) hyp)
        (Keeps.ite (Keeps.ite (sliceLater_keeps hyp) hyp) (acceptOr_keeps hyp (fun _ => tryAtomic_keeps (.refl _)))))))
    · exact hyp

theorem syncApply_keeps {α : State} {a : Ask} {op o operand : Nat} {s : State} (hyp : Keeps α s) : Keeps α (syncApply a op o operand s) := by
  unfold syncApply
  split
  · exact applyAsk_keeps hyp
  · exact putSync_keeps (applyAsk_keeps hyp)
  · exact bumpSync_keeps (applyAsk_keeps hyp)
  · exact bumpSync_keeps (applyAsk_keeps hyp)
  · split
    · exact sendNotice_keeps (applyAsk_keeps (Keeps.update hyp))
    · exact Keeps.ite (applyAsk_keeps hyp) (Keeps.update hyp)
  · exact putSync_keeps (applyAsk_keeps hyp)

theorem serveSync_keeps {α : State} {id : Nat} {s : State} (hyp : Keeps α s) : Keeps α (serveSync id s) := by
  unfold serveSync
  split
  · exact hyp
  · split
    · exact Keeps.ite hyp (Keeps.ite (denyAsk_keeps hyp) (Keeps.ite (Keeps.ite (sliceLater_keeps hyp) hyp) (Keeps.ite (sliceLater_keeps hyp)
        (acceptOr_keeps hyp (fun _ => Keeps.ite (syncApply_keeps (countIf_keeps (.refl _))) (.refl _))))))
    · exact hyp

theorem serveAsk_keeps {α : State} {id : Nat} {s : State} (hyp : Keeps α s) : Keeps α (serveAsk id s) := by
  unfold serveAsk
  split
  · exact hyp
  · refine Keeps.ite hyp ?_
    split
    · exact serveSliced_keeps hyp (fun _ => serveSync_keeps (.refl _))
    · exact serveSliced_keeps hyp (fun _ => serveAtomic_keeps (.refl _))
    · exact serveSliced_keeps hyp (fun _ => serveReduce_keeps (.refl _))
    · exact Keeps.ite (serveFar_keeps hyp) (serveAbsorb_keeps hyp)
    · exact serveFar_keeps hyp
    · exact Keeps.ite (serveFar_keeps hyp) (serveHit_keeps hyp)

theorem serveAll_keeps {α s : State} (hyp : Keeps α s) : Keeps α (serveAll s) :=
  each_keeps (drainFar_keeps hyp) (fun _ _ => serveAsk_keeps (.refl _))

theorem meterAsk_keeps {α : State} {q : Ask} {s : State} (hyp : Keeps α s) : Keeps α (meterAsk q s).2 := by
  unfold meterAsk
  dsimp only
  split
  · split
    · exact State.bump_keeps hyp
    · exact State.bump_keeps (State.setMeter_keeps hyp)
  · split
    · exact State.bump_keeps hyp
    · exact State.bump_keeps (State.setMeter_keeps hyp)

theorem settleShaper_keeps {α : State} {l : Nat} {s : State} (hyp : Keeps α s) : Keeps α (settleShaper l s) :=
  Keeps.ite (setShaper_keeps hyp) hyp

theorem offerAsk_keeps {α : State} {q : Ask} {s : State} (hyp : Keeps α s) : Keeps α (offerAsk q s) := by
  unfold offerAsk
  extract_lets refuse s1
  have h1 : Keeps α s1 := addAsk_keeps (settleShaper_keeps hyp)
  have refused {st : Nat} {t : State} (h : Keeps α t) : Keeps α (refuse st t) :=
    Keeps.ite (refuseLater_keeps h) (Keeps.ite (denyAsk_keeps h) (finish_keeps h))
  split
  · rename_i t admitted
    exact dropAsk_keeps (keepsS_of_eq admitted (step5_keeps h1))
  · rename_i st t admitted
    exact refused (keepsS_of_eq admitted (step5_keeps h1))
  · rename_i t admitted
    have h2 : Keeps α t := keepsS_of_eq admitted (step5_keeps h1)
    split
    · exact refused h2
    · refine Keeps.ite (sliceLater_keeps h2) ?_
      split
      rename_i colour u metered
      have h3 : Keeps α u := keepsS_of_eq metered (keepsS_ite (fun _ => h2) fun _ => meterAsk_keeps h2)
      refine Keeps.ite (refuseLater_keeps (raiseNode_keeps h3)) (serveAll_keeps ?_)
      have h4 : Keeps α (if u.tierOf q colour (u.overBudget q) = 2 then u.bump (regIdx (u.partition q.side.ctx)) 7 else u) :=
        Keeps.ite (State.bump_keeps h3) h3
      split
      · exact State.peak_keeps (State.modAsk_keeps h4)
      · exact State.modAsk_keeps h4

theorem chainForward_keeps {α : State} {q : Ask} {s : State} (hyp : Keeps α s) : Keeps α (chainForward q s) := by
  unfold chainForward
  split
  · exact Keeps.ite (startChain_keeps hyp) hyp
  · exact hyp

theorem endChain_keeps {α : State} {a : Ask} {s : State} (hyp : Keeps α s) : Keeps α (endChain a s) :=
  hyp.free (endChain_fr (Fr.refl 262144 s))

theorem arrive_keeps {α : State} {side : Side} {a : Nat} {op : Op} {s : State} (hyp : Keeps α s) : Keeps α (arrive side a op s) :=
  Keeps.ite hyp (Keeps.ite (raiseNode_keeps (count_keeps (State.bump_keeps hyp))) (Keeps.ite hyp (Keeps.ite (denyAsk_keeps (addAsk_keeps
    (endChain_keeps hyp))) (Keeps.ite (denyAsk_keeps (addAsk_keeps (endChain_keeps hyp))) (Keeps.ite (finish_keeps (addAsk_keeps (endChain_keeps
    hyp))) (Keeps.ite (chainForward_keeps (forwardAsk_keeps (endChain_keeps hyp))) (offerAsk_keeps (endChain_keeps hyp))))))))

theorem lineRequest_keeps {α : State} {q : Side} {a : Nat} {op : Op} {s : State} (hyp : Keeps α s) : KeepsR α (lineRequest q a op s) :=
  present_keeps (arrive_keeps hyp)

theorem atomicRequest_keeps {α : State} {f : Nat} {q : Side} {a offset : Nat} {wide fetch : Bool} {x y : Nat} {s : State} (hyp : Keeps α s) :
    KeepsR α (atomicRequest f q a offset wide fetch x y s) :=
  lineRequest_keeps hyp

theorem autoPre_keeps {α : State} {c l bank : Nat} {ap : Bool} {s : State} (hyp : Keeps α s) : Keeps α (autoPre c l bank ap s) :=
  Keeps.ite (State.setLay_keeps hyp) hyp

theorem backingWrite_keeps {α : State} {id a data info : Nat} {s : State} (hyp : Keeps α s) : Keeps α (backingWrite id a data info s) := by
  unfold backingWrite
  split
  · exact Keeps.ite (backingDone_keeps (countAccess_keeps hyp)) (farWrite_keeps hyp)
  · exact hyp

theorem doneReaders_keeps {α : State} {b : Nat} {each : FarReader → State → State} {s : State} (hyp : Keeps α s)
    (hf_each : ∀ y0 y, Keeps y (each y0 y)) : Keeps α (doneReaders b each s) := by
  unfold doneReaders
  split
  · exact hyp
  · exact Keeps.ite (writeBale_keeps (each_keeps (State.modBale_keeps hyp) (fun _ _ => Keeps.trans (.refl _) (hf_each _ _)))) (each_keeps
      (State.modBale_keeps hyp) (fun _ _ => Keeps.trans (.refl _) (hf_each _ _)))

theorem baleAltered_keeps {α : State} {b : Nat} {s : State} (hyp : Keeps α s) : Keeps α (baleAltered b s) :=
  doneReaders_keeps (raiseNode_keeps (count_keeps (State.bump_keeps (count_keeps (count_keeps (State.bump_keeps hyp))))))
    (fun _ _ => failReader_keeps (.refl _))

theorem baleArrived_keeps {α : State} {b : Nat} {s : State} (hyp : Keeps α s) : Keeps α (baleArrived b s) := by
  unfold baleArrived
  dsimp only
  split
  · exact doneReaders_keeps (fillMissing_keeps (count_keeps (count_keeps (State.bump_keeps hyp)))) (fun _ _ => serveReader_keeps (.refl _))
  · exact doneReaders_keeps (raiseNode_keeps (count_keeps (State.bump_keeps (count_keeps (count_keeps (State.bump_keeps hyp))))))
      (fun _ _ => failReader_keeps (.refl _))

theorem baleKeyHome_keeps {α : State} {v : Nat} {who : Completer} {s0 : State} (hyp : Keeps α s0) : KeepsW α (baleKeyHome v who s0) := by
  unfold baleKeyHome
  split
  · exact keepsW_done hyp
  · exact keepsW_done (startLedgerZero_keeps (State.setOb_keeps hyp))

theorem baleReadError_keeps {α : State} {b : Nat} {s : State} (hyp : Keeps α s) : Keeps α (baleReadError b s) := by
  unfold baleReadError
  split
  · exact hyp
  · exact Keeps.ite (issueBaleRead_keeps hyp) (doneReaders_keeps (raiseNode_keeps (count_keeps (State.bump_keeps hyp)))
      (fun _ _ => failReader_keeps (.refl _)))

theorem transferStep_keeps {α : State} {b : Nat} {s : State} (hyp : Keeps α s) : Keeps α (transferStep b s) :=
  State.setFar_keeps (count_keeps hyp)

end Sys2Proof.Machine


/-!
PROOF. O58: the operations of the units keep what no command may change (see Laws/FrameUnits for their frames).
-/
namespace Sys2Proof.Machine

-- One proof after another, each on a stack of its own, for the check's memory.
set_option Elab.async false

theorem baleStale_keeps {α : State} {b : Nat} {s : State} (hyp : Keeps α s) : Keeps α (baleStale b s) := by
  unfold baleStale
  split
  · exact Keeps.ite hyp (transferStep_keeps (each_keeps (raiseNode_keeps (State.setFar_keeps (State.bump_keeps hyp)))
      (fun _ _ => endFarWrite_keeps (.refl _))))
  · exact hyp

theorem baleWritten_keeps {α : State} {b : Nat} {s : State} (hyp : Keeps α s) : Keeps α (baleWritten b s) := by
  unfold baleWritten
  split
  · exact Keeps.ite hyp (transferStep_keeps (each_keeps (State.modBale_keeps (count_keeps (count_keeps (State.bump_keeps (State.setFar_keeps
      hyp))))) (fun _ _ => endFarWrite_keeps (.refl _))))
  · exact Keeps.ite (denyBale_keeps hyp) hyp
  · exact hyp

theorem clearBank_keeps {α : State} {b n : Nat} {s : State} (hyp : Keeps α s) : Keeps α (clearBank b n s) :=
  each_keeps hyp (fun _ _ => State.setOb_keeps (.refl _))

theorem bankClearHome_keeps {α : State} {b : Nat} {who : Completer} {s0 : State} (hyp : Keeps α s0) : KeepsW α (bankClearHome b who s0) := by
  unfold bankClearHome
  dsimp only [applyHome]
  refine keepsW_done ?_
  split
  · exact clearBank_keeps hyp
  · exact hyp

theorem lineClean_keeps {α : State} {line : Nat} {s : State} (hyp : Keeps α s) : Keeps α (lineClean line s) :=
  each_keeps (State.setCache_keeps (each_keeps (each_keeps (State.setCache_keeps hyp) (fun _ _ => applyAsk_keeps (.refl _)))
    (fun _ _ => finish_keeps (.refl _)))) (fun _ _ => complete_keeps (.refl _))

theorem cleanLine_keeps {α : State} {a : Nat} {s : State} (hyp : Keeps α s) : Keeps α (cleanLine a s) := by
  unfold cleanLine
  refine lineClean_keeps (syncDirty_keeps ?_)
  split
  · refine State.setWay_keeps ?_
    split
    · exact State.setWay_keeps hyp
    · exact hyp
  · split
    · exact State.setWay_keeps hyp
    · exact hyp

theorem replaceCopy_keeps {α : State} {a data info : Nat} {s : State} (hyp : Keeps α s) : Keeps α (replaceCopy a data info s) := by
  unfold replaceCopy
  split
  · exact cleanLine_keeps (State.setWay_keeps (State.setAsks_keeps hyp))
  · refine Keeps.ite ?_ hyp
    split
    · exact syncDirty_keeps (State.setWay_keeps hyp)
    · exact hyp

theorem beginClose_keeps {α : State} {r : Red} {s : State} (hyp : Keeps α s) : Keeps α (beginClose r s) :=
  offerInternal_keeps (State.modRed_keeps (each_keeps (tryInstall_keeps (replaceCopy_keeps hyp)) (fun _ _ => finishRead_keeps (.refl _))))

theorem beginRequest_keeps {α : State} {req : Req} {act : State → State} {s : State} (hyp : Keeps α s) (hf_act : ∀ y, Keeps y (act y)) :
    Keeps α (beginRequest req act s) := by
  unfold beginRequest
  refine Keeps.ite (sendResponse_keeps hyp) ?_
  split
  · exact sendResponse_keeps hyp
  · exact sendResponse_keeps hyp
  · exact (hyp.update (sources := fun _ => recordTxn_length _ _ _ _)).trans (hf_act _)

theorem endSession_keeps {α : State} {id : Nat} {s : State} (hyp : Keeps α s) :
    Keeps α (endSession id s) :=
  Keeps.ite (raiseNode_keeps (State.setSec_keeps hyp fun k => (List.length_filter_le _ _).trans k)) hyp

theorem endSessions_keeps {α s : State} (hyp : Keeps α s) : Keeps α (endSessions s) :=
  each_keeps hyp (fun _ _ => endSession_keeps (.refl _))

theorem refuseOffers_keeps {α s : State} (hyp : Keeps α s) : Keeps α (refuseOffers s) :=
  each_keeps hyp (fun _ _ => refuseLater_keeps (.refl _))

theorem writeBales_keeps {α s : State} (hyp : Keeps α s) : Keeps α (writeBales s) :=
  each_keeps hyp (fun _ _ => writeBale_keeps (.refl _))

theorem beginRest_keeps {α : State} {deep : Bool} {s : State} (hyp : Keeps α s) : Keeps α (beginRest deep s) :=
  writeBales_keeps (writeBackAll_keeps (refuseOffers_keeps (endSessions_keeps (closeSegments_keeps (State.setOb_keeps (State.setOb_keeps
    (State.setOb_keeps (State.setPower_keeps hyp))))))))

theorem startProcs_keeps {α s : State} (hyp : Keeps α s) : Keeps α (startProcs s) :=
  Keeps.update hyp

theorem beginWake_keeps {α s : State} (hyp : Keeps α s) : Keeps α (beginWake s) :=
  Keeps.ite (startProcs_keeps (each_keeps (State.setPower_keeps hyp) (fun _ _ => Keeps.ite (State.setSource_keeps (.refl _)) (.refl _))))
    (each_keeps (State.setPower_keeps hyp) (fun _ _ => Keeps.ite (State.setSource_keeps (.refl _)) (.refl _)))

theorem qosStart_keeps {α : State} {s : State} (hyp : Keeps α s) :
    Keeps α (qosStart s) :=
  State.setPath_keeps (hyp.update (objects := fun c => c.filter _))

theorem discardSamples_keeps {α : State} {s : State} (hyp : Keeps α s) :
    Keeps α (discardSamples s) :=
  State.setSampler_keeps (State.bumpBy_keeps hyp) fun k => k

theorem emptyEngines_keeps {α s : State} (hyp : Keeps α s) : Keeps α (emptyEngines s) :=
  each_keeps (State.setFeeds_keeps hyp) (fun _ _ => State.setOb_keeps (.refl _))

theorem layResetOne_keeps {α : State} {c l : Nat} {s : State} (hyp : Keeps α s) : Keeps α (layResetOne c l s) :=
  State.setDie_keeps (State.setLay_keeps hyp)

theorem srAdvance_keeps {α : State} {c l : Nat} {s : State} (hyp : Keeps α s) : Keeps α (srAdvance c l s) := by
  unfold srAdvance
  split
  · exact hyp
  · exact State.setLay_keeps hyp

theorem layReset_keeps {α : State} {c : Nat} {s : State} (hyp : Keeps α s) : Keeps α (layReset c s) := by
  unfold layReset
  refine State.setDch_keeps (each_keeps ?_ (fun _ _ => layResetOne_keeps (.refl _)))
  split
  · exact loseContent_keeps (each_keeps hyp (fun _ _ => srAdvance_keeps (.refl _)))
  · exact each_keeps hyp (fun _ _ => srAdvance_keeps (.refl _))

theorem driveHeat_keeps {α : State} {st v : Nat} {s : State} (hyp : Keeps α s) : Keeps α (driveHeat st v s) :=
  hyp.free (driveHeat_fr (Fr.refl 4194320 s))

theorem warmFromHalted_keeps {α s : State} (hyp : Keeps α s) : Keeps α (warmFromHalted s) := by
  unfold warmFromHalted
  dsimp only
  exact State.setSet_keeps (Keeps.update (State.setPower_keeps (each_keeps (each_keeps (Keeps.update hyp) (fun _ _ => driveHeat_keeps (.refl _)))
    (fun _ _ => State.modChan_keeps (Keeps.ite (State.setChanState_keeps (layReset_keeps (.refl _))) (layReset_keeps (.refl _)))))))

theorem sendControl_keeps {α : State} {sub d : Nat} {body : List Byte} {s : State} (hyp : Keeps α s) : Keeps α (sendControl sub d body s) :=
  hyp.free (sendControl_fr (Fr.refl 256 s))

theorem flood_keeps {α : State} {sub : Nat} {body : List Byte} {s : State} (hyp : Keeps α s) : Keeps α (flood sub body s) :=
  hyp.free (flood_fr (Fr.refl 256 s))

theorem beginWarm_keeps {α : State} {s : State} (hyp : Keeps α s) : Keeps α (beginWarm s) := by
  unfold beginWarm
  extract_lets halted s1 s2 p2 s3 s4 s5 s6 s7 s8 s9 s10 s11 x11 s12 s13
  have h1 : Keeps α s1 := Keeps.ite hyp (flood_keeps hyp)
  have h4 : Keeps α s4 := State.setOb_keeps (State.setPower_keeps (setNode_keeps h1))
  have h5 : Keeps α s5 := Keeps.ite (warmFromHalted_keeps h4) h4
  have h6 : Keeps α s6 := emptyEngines_keeps (fenceStreams_keeps h5)
  have h7 : Keeps α s7 := raiseNode_keeps (State.bump_keeps (State.setOb_keeps h6))
  have h8 : Keeps α s8 := discardSamples_keeps (refuseOffers_keeps h7)
  have h9 : Keeps α s9 := each_keeps h8 fun _ _ => breakRed_keeps (.refl _)
  have h11 : Keeps α s11 := qosStart_keeps (endSessions_keeps (writeBales_keeps (writeBackAll_keeps h9)))
  clear_value s11
  have h12 : Keeps α s12 := State.setSec_keeps h11
  have h13 : Keeps α s13 := each_keeps h12 fun _ _ => Keeps.ite (.refl _) (drainChannel_keeps (.refl _))
  exact stopProcs_keeps h13

theorem degrade_keeps {α : State} {n : Nat} {s : State} (hyp : Keeps α s) : Keeps α (degrade n s) :=
  Keeps.ite (State.setPath_keeps (State.bump_keeps hyp)) (raiseNode_keeps (State.setOb_keeps (State.setPath_keeps (State.bump_keeps hyp))))

theorem markDerated_keeps {α : State} {c : Nat} {s : State} (hyp : Keeps α s) : Keeps α (markDerated c s) :=
  State.setOb_keeps (State.setPlans_keeps hyp)

theorem countTaken_keeps {α : State} {c k : Nat} {s : State} (hyp : Keeps α s) : Keeps α (countTaken c k s) :=
  State.setOb_keeps (State.peak_keeps (State.setPlans_keeps hyp))

theorem plannedTaken_keeps {α : State} {p : Plan} {ctx : Nat} {s : State} (hyp : Keeps α s) : Keeps α (plannedTaken p ctx s) :=
  Keeps.ite (breakContinuity_keeps (degrade_keeps hyp)) (degrade_keeps hyp)

theorem takeSlots_keeps {α : State} {c cause : Nat} {l : List Nat} {s : State} (hyp : Keeps α s) : Keeps α (takeSlots c cause l s) :=
  hyp.free (takeSlots_fr (Fr.refl 65536 s))

theorem takeWindow_keeps {α : State} {c first : Nat} {p : Plan} {s : State} (hyp : Keeps α s) : Keeps α (takeWindow c first p s) :=
  State.setPlans_keeps (each_keeps (Keeps.ite (countTaken_keeps (each_keeps (takeSlots_keeps (takeSlots_keeps (takeSlots_keeps hyp)))
    (fun _ _ => plannedTaken_keeps (.refl _)))) (markDerated_keeps (countTaken_keeps (each_keeps (takeSlots_keeps (takeSlots_keeps
    (takeSlots_keeps hyp))) (fun _ _ => plannedTaken_keeps (.refl _)))))) (fun _ _ => degrade_keeps (.refl _)))

theorem beginWindow_keeps {α : State} {c slot : Nat} {s : State} (hyp : Keeps α s) : Keeps α (beginWindow c slot s) := by
  unfold beginWindow
  dsimp only
  refine Keeps.ite hyp ?_
  split
  · exact Keeps.ite (takeWindow_keeps (State.setPlans_keeps hyp)) (State.setPlans_keeps hyp)
  · exact State.setPlans_keeps hyp

theorem beyondClearHome_keeps {α : State} {r : Nat} {who : Completer} {s0 : State} (hyp : Keeps α s0) :
    KeepsW α (beyondClearHome r who s0) :=
  keepsW_done (Keeps.ite (State.setOb_keeps (State.setOb_keeps hyp)) hyp)

theorem setStaging_keeps {α : State} {v : Nat} {s : State} (hyp : Keeps α s) : Keeps α (setStaging v s) :=
  State.setOb_keeps hyp

theorem blockPlaced_keeps {α s : State} (hyp : Keeps α s) : Keeps α (blockPlaced s) :=
  Keeps.ite (raiseNode_keeps (setStaging_keeps hyp)) (setStaging_keeps hyp)

theorem unverify_keeps {α s : State} (hyp : Keeps α s) : Keeps α (unverify s) :=
  State.setOb_keeps (State.setOb_keeps hyp)

theorem updateRefused_keeps {α : State} {reason : Nat} {s : State} (hyp : Keeps α s) : Keeps α (updateRefused reason s) :=
  raiseNode_keeps (Keeps.ite hyp (State.setOb_keeps hyp))

theorem updateDenied_keeps {α : State} {reason : Nat} {s : State} (hyp : Keeps α s) : KeepsW α (updateDenied reason s) :=
  keepsW_refused (updateRefused_keeps hyp)

theorem blockHome_keeps {α : State} {base : Nat} {bytes : List Byte} {who : Completer} {s0 : State} (hyp : Keeps α s0) :
    KeepsW α (blockHome base bytes who s0) := by
  unfold blockHome
  split
  · exact keepsW_refused hyp
  · split
    · exact updateDenied_keeps hyp
    · split
      · exact updateDenied_keeps hyp
      · split
        · exact keepsW_denied hyp
        · exact keepsW_done (blockPlaced_keeps (State.bump_keeps (State.setOb_keeps (unverify_keeps (Keeps.update hyp)))))

theorem setPortState_keeps {α : State} {t v : Nat} {s : State} (hyp : Keeps α s) : Keeps α (setPortState t v s) :=
  State.setOb_keeps hyp

theorem closePorts_keeps {α s : State} (hyp : Keeps α s) : Keeps α (closePorts s) :=
  each_keeps hyp (fun _ _ => setPortState_keeps (.refl _))

theorem persistOwn_keeps {α : State} {idx : Nat} {sub : Nat} {v : Nat} {s : State} (hyp : Keeps α s) :
    Keeps α (persistOwn idx sub v s) :=
  Keeps.ite (State.setOb_keeps hyp).update (State.setOb_keeps hyp)

theorem enterService_keeps {α : State} {n : NodeState} {s : State} (hyp : Keeps α s) : Keeps α (enterService n s) :=
  raiseNode_keeps (closePorts_keeps (State.setPath_keeps (State.setPower_keeps (Keeps.ite (persistOwn_keeps (State.setOb_keeps (setNode_keeps
    hyp))) (State.setOb_keeps (setNode_keeps hyp))))))

theorem blockersClear_keeps {α s : State} (hyp : Keeps α s) : Keeps α (blockersClear s) :=
  Keeps.ite (enterService_keeps hyp) hyp

theorem blowEpoch_keeps {α s : State} (hyp : Keeps α s) : Keeps α (blowEpoch s) :=
  hyp.free (blowEpoch_fr (Fr.refl 2048 s))

theorem enterRecovery_keeps {α : State} {bothFailed : Bool} {s : State} (hyp : Keeps α s) : Keeps α (enterRecovery bothFailed s) :=
  raiseNode_keeps (setNode_keeps (State.setUpd_keeps hyp))

theorem restartFlows_keeps {α : State} {d : Nat} {s : State} (hyp : Keeps α s) : Keeps α (restartFlows d s) :=
  hyp.free (restartFlows_fr (Fr.refl 256 s))

theorem computeRoutes_keeps {α s : State} (hyp : Keeps α s) : Keeps α (computeRoutes s) :=
  each_keeps hyp (fun _ _ => Keeps.ite (Keeps.ite (.refl _) (restartFlows_keeps (State.setSet_keeps (.refl _)))) (raiseNode_keeps
    (restartFlows_keeps (State.setSet_keeps (.refl _)))))

theorem refreshView_keeps {α s : State} (hyp : Keeps α s) : Keeps α (refreshView s) := by
  unfold refreshView
  exact Keeps.ite (computeRoutes_keeps hyp) (State.setSet_keeps (computeRoutes_keeps hyp))

theorem startTraining_keeps {α : State} {h : Nat} {s : State} (hyp : Keeps α s) : Keeps α (startTraining h s) :=
  hyp.free (startTraining_fr (Fr.refl 256 s))

theorem tellExclusions_keeps {α s : State} (hyp : Keeps α s) : Keeps α (tellExclusions s) :=
  each_keeps (each_keeps hyp (fun _ _ => each_keeps (.refl _) (fun _ _ => raise_keeps (.refl _)))) (fun _ _ => raise_keeps (.refl _))

theorem enableUnits_keeps {α s : State} (hyp : Keeps α s) : Keeps α (enableUnits s) :=
  State.setOb_keeps (State.setOb_keeps hyp)

theorem dropGuarded_keeps {α s : State} (hyp : Keeps α s) : Keeps α (dropGuarded s) :=
  each_keeps hyp (fun _ _ => dropLine_keeps (.refl _))

theorem eraseKeys_keeps {α s : State} (hyp : Keeps α s) : Keeps α (eraseKeys s) :=
  startLedgerZero_keeps (State.setSec_keeps (each_keeps hyp (fun _ _ => State.setKey_keeps (.refl _))))

theorem dropSecure_keeps {α : State} {s : State} (hyp : Keeps α s) :
    Keeps α (dropSecure s) := by
  unfold dropSecure
  extract_lets old ranges keep m1 s1 s2 s3 s4 objs s5
  have h1 : Keeps α s1 := hyp.update
  have h2 : Keeps α s2 := each_keeps h1 fun _ s => State.setOb_keeps (Keeps.refl s)
  have h3 : Keeps α s3 := each_keeps h2 fun _ s => State.setOb_keeps (Keeps.refl s)
  have h4 : Keeps α s4 := each_keeps h3 fun _ s => State.setOb_keeps (Keeps.refl s)
  have h5 : Keeps α s5 := each_keeps h4 fun _ s => putSync_keeps (Keeps.refl s)
  exact State.setSec_keeps (State.setOb_keeps h5) fun k => k

theorem zeroAdvance_keeps {α s : State} (hyp : Keeps α s) : Keeps α (zeroAdvance s) :=
  Keeps.ite hyp (dropSecure_keeps (eraseKeys_keeps (dropGuarded_keeps hyp)))

theorem runZero_keeps {α : State} {cause : ZeroCause} {s : State} (hyp : Keeps α s) : Keeps α (runZero cause s) :=
  zeroAdvance_keeps (each_keeps (each_keeps (endSessions_keeps (State.setSec_keeps hyp)) (fun _ _ => fenceContext_keeps (.refl _)))
    (fun _ _ => refuseLater_keeps (.refl _)))

theorem startZero_keeps {α : State} {cause : ZeroCause} {s : State} (hyp : Keeps α s) : Keeps α (startZero cause s) :=
  runZero_keeps (State.setSec_keeps hyp)

theorem deriveIdentity_keeps {α s : State} (hyp : Keeps α s) : Keeps α (deriveIdentity s) :=
  Keeps.ite (raiseNode_keeps (State.setSec_keeps (State.setOb_keeps (State.setSec_keeps hyp)))) (raiseNode_keeps (Keeps.ite (State.setSec_keeps
    (State.setOb_keeps (State.setSec_keeps hyp))) (raiseNode_keeps (State.setSec_keeps (State.setOb_keeps (State.setSec_keeps hyp))))))

theorem wardenStart_keeps {α : State} {cold : Bool} {s : State} (hyp : Keeps α s) : Keeps α (wardenStart cold s) := by
  unfold wardenStart
  refine Keeps.ite (deriveIdentity_keeps hyp) ?_
  split
  · exact runZero_keeps (deriveIdentity_keeps hyp)
  · exact Keeps.ite (startZero_keeps (Keeps.ite (State.setOb_keeps (State.setSec_keeps (deriveIdentity_keeps hyp))) (State.setSec_keeps
      (deriveIdentity_keeps hyp)))) (Keeps.ite (State.setOb_keeps (State.setSec_keeps (deriveIdentity_keeps hyp))) (State.setSec_keeps
      (deriveIdentity_keeps hyp)))

theorem enterConfig_keeps {α : State} {cold : Bool} {s : State} (hyp : Keeps α s) : Keeps α (enterConfig cold s) := by
  unfold enterConfig
  exact each_keeps (refreshView_keeps (Keeps.ite (tellExclusions_keeps (State.setSet_keeps (State.setOb_keeps (State.setHeat_keeps
    (State.setPower_keeps (Keeps.ite (enableUnits_keeps (setNode_keeps (wardenStart_keeps (startProcs_keeps hyp)))) (setNode_keeps
    (wardenStart_keeps (startProcs_keeps hyp))))))))) (raiseNode_keeps (tellExclusions_keeps (State.setSet_keeps (State.setOb_keeps
    (State.setHeat_keeps (State.setPower_keeps (Keeps.ite (enableUnits_keeps (setNode_keeps (wardenStart_keeps (startProcs_keeps hyp))))
    (setNode_keeps (wardenStart_keeps (startProcs_keeps hyp)))))))))))) (fun _ _ => Keeps.ite (startTraining_keeps (.refl _)) (.refl _))

theorem bootAdvance_keeps {α s : State} (hyp : Keeps α s) : Keeps α (bootAdvance s) :=
  Keeps.ite (enterConfig_keeps hyp) hyp

theorem runActive_keeps {α s : State} (hyp : Keeps α s) : Keeps α (runActive s) :=
  bootAdvance_keeps (State.setUpd_keeps (State.setOb_keeps (State.setOb_keeps hyp)))

theorem bootActive_keeps {α s : State} (hyp : Keeps α s) : Keeps α (bootActive s) :=
  Keeps.ite (runActive_keeps hyp) (Keeps.ite (State.setUpd_keeps (raiseNode_keeps hyp)) (enterRecovery_keeps (raiseNode_keeps hyp)))

theorem breakSensor_keeps {α : State} {k : Nat} {s : State} (hyp : Keeps α s) : Keeps α (breakSensor k s) :=
  Keeps.ite (State.setSensor_keeps hyp) (Keeps.ite (raise_keeps (State.setSensor_keeps hyp)) (raise_keeps (State.setSensor_keeps hyp)))

theorem qosDenied_keeps {α s : State} (hyp : Keeps α s) : KeepsW α (qosDenied s) :=
  keepsW_denied (raiseNode_keeps hyp)

theorem budgetHome_keeps {α : State} {r sub v : Nat} {who : Completer} {s0 : State} (hyp : Keeps α s0) :
    KeepsW α (budgetHome r sub v who s0) := by
  unfold budgetHome
  dsimp only [applyHome]
  split
  · exact qosDenied_keeps hyp
  · exact settingHome_keeps hyp

theorem noteCmd_keeps {α : State} {c ck : Nat} {cmd : SdiCmd} {order : Nat} {s : State} (hyp : Keeps α s) :
    Keeps α (noteCmd c ck cmd order s) :=
  hyp.free (noteCmd_fr (Fr.refl 262144 s))

theorem layMrw_keeps {α : State} {c l a v : Nat} {s : State} (hyp : Keeps α s) : Keeps α (layMrw c l a v s) :=
  Keeps.ite hyp (Keeps.ite (layRegWrite_keeps hyp) (protoAlert_keeps hyp))

theorem laySrx_keeps {α : State} {c : Nat} {s : State} (hyp : Keeps α s) : Keeps α (laySrx c s) := by
  unfold laySrx
  split
  · exact hyp
  · exact State.setDch_keeps (loseContent_keeps (each_keeps (each_keeps hyp (fun _ _ => srAdvance_keeps (.refl _))) (fun _ _ => State.setLay_keeps
      (.refl _))))

theorem layRefpb_keeps {α : State} {c l big mask : Nat} {s : State} (hyp : Keeps α s) : Keeps α (layRefpb c l big mask s) :=
  Keeps.ite hyp (Keeps.ite (protoAlert_keeps hyp) (State.setLay_keeps hyp))

theorem softMap_keeps {α : State} {c : Nat} {l : Nat} {bank : Nat} {row : Nat} {i : Nat} {s : State} (hyp : Keeps α s) :
    Keeps α (softMap c l bank row i s) :=
  Keeps.ite hyp ((State.setLay_keeps hyp).memory (loseSpare_memory ..))

theorem layRpr_keeps {α : State} {c l bank row : Nat} {s : State} (hyp : Keeps α s) : Keeps α (layRpr c l bank row s) :=
  Keeps.ite hyp (Keeps.ite (protoAlert_keeps hyp) (Keeps.ite (State.setLay_keeps hyp) (softMap_keeps hyp)))

theorem layPre_keeps {α : State} {c l bank : Nat} {s : State} (hyp : Keeps α s) : Keeps α (layPre c l bank s) :=
  Keeps.ite hyp (Keeps.ite (protoAlert_keeps hyp) (State.setLay_keeps hyp))

theorem layAct_keeps {α : State} {c l bank row : Nat} {s : State} (hyp : Keeps α s) : Keeps α (layAct c l bank row s) :=
  Keeps.ite hyp (Keeps.ite (protoAlert_keeps hyp) (State.setLay_keeps hyp))

theorem layParity_keeps {α : State} {c : Nat} {s : State} (hyp : Keeps α s) : Keeps α (layParity c s) :=
  Keeps.ite hyp (alertOn_keeps (each_keeps hyp (fun _ _ => State.setLay_keeps (.refl _))))

theorem driveCmd_keeps {α : State} {c : Nat} {bad : Bool} {cmd : SdiCmd} {s : State} (hyp : Keeps α s) : Keeps α (driveCmd c bad cmd s) := by
  unfold driveCmd
  refine Keeps.ite (layParity_keeps hyp) ?_
  split
  · exact layAct_keeps hyp
  · exact layPre_keeps hyp
  · exact layPreab_keeps hyp
  · exact layPreab_keeps hyp
  · exact layRpr_keeps hyp
  · exact layRefpb_keeps hyp
  · exact laySre_keeps hyp
  · exact laySrx_keeps hyp
  · exact Keeps.ite (layMrwb_keeps hyp) (layMrw_keeps hyp)
  · exact hyp

theorem issueRow_keeps {α : State} {c slot : Nat} {bad : Bool} {kind : RowKind} {cmd : SdiCmd} {s : State} (hyp : Keeps α s) :
    Keeps α (issueRow c slot bad kind cmd s) := by
  unfold issueRow
  refine driveCmd_keeps ?_
  split
  · exact State.modChan_keeps (count_keeps (State.bump_keeps (noteCmd_keeps hyp)))
  · exact State.modChan_keeps (noteCmd_keeps hyp)
  · exact State.modChan_keeps (noteCmd_keeps hyp)
  · exact State.modChan_keeps (noteCmd_keeps hyp)
  · exact noteCmd_keeps hyp

theorem softRepair_keeps {α : State} {c : Nat} {m : Move} {s : State} (hyp : Keeps α s) : Keeps α (softRepair c m s) :=
  Keeps.ite hyp (Keeps.ite (Keeps.ite (State.modChan_keeps (issueRow_keeps hyp)) hyp) (Keeps.ite (State.modChan_keeps hyp) (Keeps.ite (Keeps.ite
    (State.modChan_keeps (issueRow_keeps hyp)) hyp) (Keeps.ite (State.modChan_keeps (State.bump_keeps (State.modChan_keeps (driveCmd_keeps
    (noteCmd_keeps hyp))))) hyp))))

theorem logRepair_keeps {α : State} {word c : Nat} {s : State} (hyp : Keeps α s) : Keeps α (logRepair word c s) :=
  Keeps.ite (raise_keeps hyp) (State.setOb_keeps (State.setPath_keeps hyp))

theorem unprotect_keeps {α : State} {c layer bank row : Nat} {s : State} (hyp : Keeps α s) : Keeps α (unprotect c layer bank row s) :=
  raise_keeps (logRepair_keeps (State.bump_keeps (State.modChan_keeps hyp)))

theorem bufferComplete_keeps {α : State} {c : Nat} {s : State} (hyp : Keeps α s) : Keeps α (bufferComplete c s) := by
  unfold bufferComplete
  split
  · exact hyp
  · refine Keeps.ite hyp (Keeps.ite ?_ (softRepair_keeps hyp))
    split
    · exact State.modChan_keeps hyp
    · exact unprotect_keeps (State.modChan_keeps hyp)

theorem withheldMany_keeps {α : State} {c n : Nat} {s : State} (hyp : Keeps α s) : Keeps α (withheldMany c n s) :=
  State.bumpBy_keeps hyp

theorem withheld_keeps {α : State} {c : Nat} {s : State} (hyp : Keeps α s) : Keeps α (withheld c s) :=
  withheldMany_keeps hyp

theorem calSlot_keeps {α : State} {c slot : Nat} {after : List (Option PLine)} {s : State} (hyp : Keeps α s) :
    Keeps α (calSlot c slot after s) :=
  Keeps.ite hyp (Keeps.ite (noteCmd_keeps hyp) (withheld_keeps hyp))

theorem calibrationBad_keeps {α : State} {c : Nat} {s : State} (hyp : Keeps α s) : Keeps α (calibrationBad c s) :=
  raise_keeps (State.bump_keeps hyp)

theorem shaperHome_keeps {α : State} {l sub v : Nat} {who : Completer} {s0 : State} (hyp : Keeps α s0) :
    KeepsW α (shaperHome l sub v who s0) := by
  unfold shaperHome
  dsimp only [applyHome]
  split
  · split
    · split
      · split
        · exact qosDenied_keeps hyp
        · exact settingHome_keeps hyp
      · split
        · exact qosDenied_keeps hyp
        · exact settingHome_keeps hyp
    · split
      · split
        · exact qosDenied_keeps hyp
        · exact settingHome_keeps hyp
      · split
        · exact qosDenied_keeps hyp
        · exact settingHome_keeps hyp
  · split
    · split
      · split
        · exact qosDenied_keeps hyp
        · exact settingHome_keeps hyp
      · split
        · exact qosDenied_keeps hyp
        · exact settingHome_keeps hyp
    · split
      · split
        · exact qosDenied_keeps hyp
        · exact settingHome_keeps hyp
      · split
        · exact qosDenied_keeps hyp
        · exact settingHome_keeps hyp

theorem meterHome_keeps {α : State} {l sub v : Nat} {who : Completer} {s0 : State} (hyp : Keeps α s0) : KeepsW α (meterHome l sub v who s0) :=
  keepsW_ite (fun _ => settingHome_keeps hyp) fun _ => qosDenied_keeps hyp

theorem syncObjectHome_keeps {α : State} {o value : Nat} {owner : Bool} {who : Completer} {s0 : State} (hyp : Keeps α s0) :
    KeepsW α (syncObjectHome o value owner who s0) := by
  unfold syncObjectHome
  split
  · exact keepsW_refused (raiseNode_keeps hyp)
  · exact keepsW_done (putSync_keeps hyp)

theorem sliceRejoinHome_keeps {α : State} {x : Nat} {who : Completer} {s0 : State} (hyp : Keeps α s0) :
    KeepsW α (sliceRejoinHome x who s0) := by
  unfold sliceRejoinHome
  split
  · exact keepsW_done (State.armRejoin_keeps (State.setCache_keeps hyp))
  · exact keepsW_denied hyp

theorem flushAllHome_keeps {α : State} {who : Completer} {s0 : State} (hyp : Keeps α s0) : KeepsW α (flushAllHome who s0) := by
  unfold flushAllHome
  dsimp only [applyHome]
  split
  · exact keepsW_done hyp
  · exact keepsW_wait (writeBackAll_keeps (State.setCache_keeps hyp))

theorem unitRejoinHome_keeps {α : State} {u : Nat} {who : Completer} {s0 : State} (hyp : Keeps α s0) : KeepsW α (unitRejoinHome u who s0) := by
  unfold unitRejoinHome
  split
  · exact keepsW_done (State.armRejoin_keeps (State.setFeeds_keeps hyp))
  · exact keepsW_denied hyp

theorem recordCheck_keeps {α : State} {x code : Nat} {s : State} (hyp : Keeps α s) : Keeps α (recordCheck x code s) :=
  State.setOb_keeps hyp

theorem standingHome_keeps {α : State} {x : Nat} {value : List Byte} {who : Completer} {s0 : State} (hyp : Keeps α s0) :
    KeepsW α (standingHome x value who s0) := by
  unfold standingHome
  dsimp only [applyHome]
  split
  · exact keepsW_done (State.setOb_keeps hyp)
  · exact keepsW_refused (raiseNode_keeps (recordCheck_keeps hyp))

theorem poolResetHome_keeps {α : State} {r : Nat} {who : Completer} {s0 : State} (hyp : Keeps α s0) : KeepsW α (poolResetHome r who s0) := by
  unfold poolResetHome
  dsimp only [applyHome]
  split
  · exact keepsW_done (State.setFeeds_keeps hyp)
  · exact keepsW_denied hyp

theorem portRejoinHome_keeps {α : State} {t : Nat} {who : Completer} {s0 : State} (hyp : Keeps α s0) : KeepsW α (portRejoinHome t who s0) := by
  unfold portRejoinHome
  split
  · exact keepsW_done (State.armRejoin_keeps (State.setFeeds_keeps hyp))
  · exact keepsW_denied hyp

theorem portWorldHome_keeps {α : State} {t v : Nat} {who : Completer} {s0 : State} (hyp : Keeps α s0) :
    KeepsW α (portWorldHome t v who s0) := by
  unfold portWorldHome
  split
  · exact keepsW_denied hyp
  · exact keepsW_done (State.setOb_keeps hyp)

theorem fenceRequestHome_keeps {α : State} {mask : Nat} {who : Completer} {s0 : State} (hyp : Keeps α s0) :
    KeepsW α (fenceRequestHome mask who s0) :=
  keepsW_done (each_keeps hyp (fun _ _ => fenceContext_keeps (.refl _)))

theorem fenceClearHome_keeps {α : State} {mask : Nat} {who : Completer} {s0 : State} (hyp : Keeps α s0) :
    KeepsW α (fenceClearHome mask who s0) :=
  keepsW_done (State.setPlans_keeps hyp)

theorem unarm_keeps {α s : State} (hyp : Keeps α s) : Keeps α (unarm s) :=
  State.setOb_keeps (State.setPlans_keeps (setPlanState_keeps hyp))

theorem offerChecked_keeps {α : State} {q : Ask} {s : State} (hyp : Keeps α s) : Keeps α (offerChecked q s) := by
  unfold offerChecked
  refine Keeps.ite (forwardAsk_keeps hyp) ?_
  split
  · exact serveAll_keeps (addAsk_keeps (keepsS_of_eq ‹_› (step5_keeps hyp)))
  · exact finish_keeps (addAsk_keeps (keepsS_of_eq ‹_› (step5_keeps hyp)))
  · exact keepsS_of_eq ‹_› (step5_keeps hyp)

theorem dropImage_keeps {α s : State} (hyp : Keeps α s) : Keeps α (dropImage s) :=
  abandonReads_keeps hyp

theorem readImage_keeps {α : State} {world : Bool} {s : State} (hyp : Keeps α s) : Keeps α (readImage world s) :=
  Keeps.ite (dropImage_keeps hyp) (each_keeps (dropImage_keeps hyp) (fun _ _ => offerChecked_keeps (.refl _)))

theorem loadPlan_keeps {α : State} {session : Bool} {s : State} (hyp : Keeps α s) : Keeps α (loadPlan session s) :=
  readImage_keeps (setPlanState_keeps (State.setOb_keeps (State.setPlans_keeps hyp)))

theorem planCommand_keeps {α : State} {code : Nat} {session : Bool} {who : Completer} {s0 : State} (hyp : Keeps α s0) :
    KeepsW α (planCommand code session who s0) := by
  unfold planCommand
  split
  · exact keepsW_refused hyp
  · split
    · exact keepsW_denied hyp
    · split
      · split
        · exact keepsW_refused hyp
        · exact keepsW_denied hyp
      · split
        · exact keepsW_done (loadPlan_keeps hyp)
        · split
          · split
            · exact keepsW_done (armPlan_keeps hyp)
            · exact keepsW_denied hyp
          · exact keepsW_denied hyp
        · split
          · exact keepsW_done (armPlan_keeps hyp)
          · exact keepsW_denied hyp
        · exact keepsW_done (setPlanState_keeps (State.setOb_keeps (State.setPlans_keeps hyp)))
        · split
          · exact keepsW_denied hyp
          · exact keepsW_done (unarm_keeps hyp)

theorem planHome_keeps {α : State} {value : Nat} {session : Bool} {who : Completer} {s0 : State} (hyp : Keeps α s0) :
    KeepsW α (planHome value session who s0) :=
  planCommand_keeps hyp

theorem openMinHome_keeps {α : State} {v : Nat} {who : Completer} {s0 : State} (hyp : Keeps α s0) : KeepsW α (openMinHome v who s0) := by
  unfold openMinHome
  dsimp only [applyHome]
  split
  · exact keepsW_denied hyp
  · exact settingHome_keeps hyp

theorem intervalHome_keeps {α : State} {v : Nat} {who : Completer} {s0 : State} (hyp : Keeps α s0) : KeepsW α (intervalHome v who s0) := by
  unfold intervalHome
  split
  · exact keepsW_denied hyp
  · split
    · exact keepsW_done (State.setPlans_keeps (State.setOb_keeps hyp))
    · exact keepsW_done (pendTide_keeps hyp)

theorem regionHome_keeps {α : State} {r v : Nat} {owner : Bool} {who : Completer} {s0 : State} (hyp : Keeps α s0) :
    KeepsW α (regionHome r v owner who s0) := by
  unfold regionHome
  dsimp only [applyHome]
  split
  · split
    · split
      · exact keepsW_denied (raise_keeps (State.setOb_keeps (Keeps.ite (raiseNode_keeps hyp) hyp)))
      · split
        · exact keepsW_done (applySetting_keeps hyp)
        · exact keepsW_done (pendTide_keeps hyp)
    · split
      · exact keepsW_denied (raise_keeps (State.setOb_keeps (Keeps.ite (raiseNode_keeps hyp) hyp)))
      · split
        · exact keepsW_done (applySetting_keeps hyp)
        · exact keepsW_done (pendTide_keeps hyp)
  · split
    · split
      · exact keepsW_denied (raise_keeps (State.setOb_keeps (Keeps.ite (raiseNode_keeps hyp) hyp)))
      · split
        · exact keepsW_done (applySetting_keeps hyp)
        · exact keepsW_done (pendTide_keeps hyp)
    · split
      · exact keepsW_denied (raise_keeps (State.setOb_keeps (Keeps.ite (raiseNode_keeps hyp) hyp)))
      · split
        · exact keepsW_done (applySetting_keeps hyp)
        · exact keepsW_done (pendTide_keeps hyp)

theorem setDomain_keeps {α : State} {u src div : Nat} {s : State} (hyp : Keeps α s) : Keeps α (setDomain u src div s) :=
  State.setOb_keeps (State.setClk_keeps hyp)

theorem gateSheaf_keeps {α : State} {u : Nat} {s : State} (hyp : Keeps α s) : Keeps α (gateSheaf u s) :=
  setDomain_keeps hyp

theorem ungateSheaf_keeps {α : State} {u : Nat} {s : State} (hyp : Keeps α s) : Keeps α (ungateSheaf u s) :=
  Keeps.ite hyp (Keeps.ite (setDomain_keeps hyp) (Keeps.ite (setDomain_keeps hyp) (setDomain_keeps hyp)))

theorem enableHome_keeps {α : State} {sub v : Nat} {who : Completer} {s0 : State} (hyp : Keeps α s0) : KeepsW α (enableHome sub v who s0) := by
  unfold enableHome
  dsimp only [applyHome]
  split
  · split
    · exact keepsW_refused hyp
    · split
      · exact keepsW_denied hyp
      · exact keepsW_done (each_keeps (each_keeps (State.setOb_keeps hyp) (fun _ _ => gateSheaf_keeps (.refl _))) (fun _ _ => ungateSheaf_keeps
          (.refl _)))
  · split
    · exact keepsW_denied hyp
    · exact keepsW_done (each_keeps (each_keeps (State.setOb_keeps hyp) (fun _ _ => Keeps.ite (State.setPort_keeps (.refl _)) (.refl _)))
        (fun _ _ => Keeps.ite (startTraining_keeps (.refl _)) (.refl _)))

theorem nodeRejoinHome_keeps {α : State} {n : Nat} {who : Completer} {s0 : State} (hyp : Keeps α s0) : KeepsW α (nodeRejoinHome n who s0) := by
  unfold nodeRejoinHome
  split
  · split
    · exact keepsW_done (readImage_keeps (State.armRejoin_keeps (State.setPower_keeps hyp)))
    · exact keepsW_denied hyp
  · split
    · exact keepsW_done (State.armRejoin_keeps (State.setPower_keeps hyp))
    · exact keepsW_denied hyp

/-- What a cold start leaves is empty where it is bounded, but for the event mirror, the queue, the time and what was sent. -/
theorem coldState_keeps {α : State} {kind : Nat} {s : State} (hyp : Keeps α s) :
    Keeps α (coldState kind s) := by
  refine State.setOb_keeps (State.setOb_keeps (State.setOb_keeps (hyp.change rfl le_rfl (List.prefix_refl _) ?_)))
  exact ⟨rfl, fun _ => canonical_nil, fun _ => canonical_nil, fun _ => ⟨canonical_nil, fun _ h => nomatch h⟩, fun _ _ => canonical_nil,
    fun _ => Nat.zero_le _, id, fun _ => Nat.zero_le _, fun _ => Nat.zero_le _, fun _ => Nat.zero_le _, fun _ => Nat.zero_le _,
    fun _ => Nat.zero_le _⟩

theorem setReset_keeps {α : State} {held : Bool} {s : State} (hyp : Keeps α s) : Keeps α (setReset held s) := by
  unfold setReset
  refine Keeps.ite hyp (Keeps.ite ?_ (State.setOb_keeps ?_))
  · split
    · split
      · exact Keeps.update (coldState_keeps hyp)
      · exact Keeps.update (coldState_keeps hyp)
    · split
      · exact Keeps.update (coldState_keeps hyp)
      · exact Keeps.update (coldState_keeps hyp)
  · split
    · split
      · exact Keeps.update (coldState_keeps hyp)
      · exact Keeps.update (coldState_keeps hyp)
    · split
      · exact Keeps.update (coldState_keeps hyp)
      · exact Keeps.update (coldState_keeps hyp)

theorem warmReset_keeps {α s : State} (hyp : Keeps α s) : Keeps α (warmReset s) :=
  Keeps.ite (setReset_keeps hyp) (Keeps.ite hyp (Keeps.ite (raiseNode_keeps (State.setUpd_keeps (setNode_keeps (State.bump_keeps
    (State.setOb_keeps hyp))))) (beginWarm_keeps hyp)))

theorem warmHome_keeps {α : State} {who : Completer} {s0 : State} (hyp : Keeps α s0) : KeepsW α (warmHome who s0) :=
  keepsW_done (warmReset_keeps hyp)

theorem stateRefused_keeps {α : State} {reason : Nat} {s : State} (hyp : Keeps α s) : KeepsW α (stateRefused reason s) :=
  keepsW_denied (raiseNode_keeps (State.setOb_keeps hyp))

theorem stateHome_keeps {α : State} {v : Nat} {who : Completer} {s0 : State} (hyp : Keeps α s0) : KeepsW α (stateHome v who s0) := by
  unfold stateHome
  dsimp only [applyHome]
  split
  · exact keepsW_refused hyp
  · split
    · split
      · exact stateRefused_keeps hyp
      · split
        · exact keepsW_done (State.setPower_keeps (State.setOb_keeps hyp))
        · exact keepsW_done (Keeps.ite (State.setPower_keeps (State.setOb_keeps hyp)) (Keeps.ite (State.setOb_keeps hyp) (beginWake_keeps
            (State.setOb_keeps hyp))))
        · exact keepsW_done (Keeps.ite (State.setPower_keeps (State.setOb_keeps hyp)) (Keeps.ite (State.setOb_keeps hyp) (beginWake_keeps
            (State.setOb_keeps hyp))))
        · exact stateRefused_keeps hyp
    · split
      · split
        · exact keepsW_done (beginRest_keeps hyp)
        · exact stateRefused_keeps hyp
      · exact stateRefused_keeps hyp

theorem maskHome_keeps {α : State} {k sub v : Nat} {who : Completer} {s0 : State} (hyp : Keeps α s0) : KeepsW α (maskHome k sub v who s0) :=
  keepsW_done (State.setOb_keeps hyp)

theorem clearMirror_keeps {α : State} {s : State} (hyp : Keeps α s) :
    Keeps α (clearMirror s) :=
  hyp.update (mirror := fun _ => Nat.zero_le _)

theorem clearAlarm_keeps {α s : State} (hyp : Keeps α s) : Keeps α (clearAlarm s) :=
  hyp.free (clearAlarm_fr (Fr.refl 16 s))

theorem clearLog_keeps {α : State} {s : State} (hyp : Keeps α s) :
    Keeps α (clearLog s) :=
  hyp.update (log := fun _ => Nat.zero_le _)

theorem macHome_keeps {α : State} {v : Nat} {who : Completer} {s0 : State} (hyp : Keeps α s0) : KeepsW α (macHome v who s0) := by
  unfold macHome
  split
  · exact keepsW_denied hyp
  · exact settingHome_keeps hyp

theorem spreadHome_keeps {α : State} {sub v : Nat} {who : Completer} {s0 : State} (hyp : Keeps α s0) : KeepsW α (spreadHome sub v who s0) := by
  unfold spreadHome
  split
  · with_reducible exact keepsW_denied hyp
  · with_reducible exact settingHome_keeps hyp

theorem copyBackHome_keeps {α : State} {c : Nat} {who : Completer} {s0 : State} (hyp : Keeps α s0) : KeepsW α (copyBackHome c who s0) := by
  unfold copyBackHome
  dsimp only [applyHome]
  split
  · exact keepsW_denied hyp
  · exact keepsW_done (State.setPath_keeps hyp)

theorem queueMove_keeps {α : State} {c layer bank row : Nat} {displaced : Bool} {s : State} (hyp : Keeps α s) :
    Keeps α (queueMove c layer bank row displaced s) :=
  hyp.free (queueMove_fr (Fr.refl 262144 s))

theorem reconstituteHome_keeps {α : State} {c : Nat} {who : Completer} {s0 : State} (hyp : Keeps α s0) :
    KeepsW α (reconstituteHome c who s0) := by
  unfold reconstituteHome
  dsimp only [applyHome]
  split
  · split
    · exact keepsW_denied hyp
    · exact keepsW_done (State.setOb_keeps (each_keeps (State.setOb_keeps (State.setPath_keeps hyp)) (fun _ _ => queueMove_keeps (.refl _))))
  · split
    · exact keepsW_denied hyp
    · exact keepsW_done (State.setOb_keeps (each_keeps (State.setOb_keeps (State.setPath_keeps hyp)) (fun _ _ => queueMove_keeps (.refl _))))

theorem shutdownClearHome_keeps {α : State} {who : Completer} {s0 : State} (hyp : Keeps α s0) : KeepsW α (shutdownClearHome who s0) :=
  keepsW_done (State.setOb_keeps (Keeps.update hyp))

theorem logicExcludeHome_keeps {α : State} {v : Nat} {who : Completer} {s0 : State} (hyp : Keeps α s0) :
    KeepsW α (logicExcludeHome v who s0) := by
  unfold logicExcludeHome
  split
  · exact keepsW_denied hyp
  · exact gatherPersist_keeps hyp

theorem layerExcludeHome_keeps {α : State} {st sub v : Nat} {who : Completer} {s0 : State} (hyp : Keeps α s0) :
    KeepsW α (layerExcludeHome st sub v who s0) := by
  unfold layerExcludeHome
  dsimp only [applyHome]
  split
  · exact keepsW_denied hyp
  · exact gatherPersist_keeps hyp

theorem updateDiscard_keeps {α s : State} (hyp : Keeps α s) : KeepsW α (updateDiscard s) := by
  unfold updateDiscard
  split
  · exact updateDenied_keeps hyp
  · exact keepsW_done (setStaging_keeps (unverify_keeps (State.setOb_keeps (persistOwn_keeps hyp))))

theorem updateActivate_keeps {α : State} {others : Option Bool} {s : State} (hyp : Keeps α s) : KeepsW α (updateActivate others s) := by
  unfold updateActivate
  dsimp only
  split
  · exact updateDenied_keeps hyp
  · split
    · exact updateDenied_keeps hyp
    · split
      · split
        · exact updateDenied_keeps hyp
        · exact keepsW_done (raiseNode_keeps (setStaging_keeps (persistOwn_keeps hyp)))
      · split
        · exact updateDenied_keeps (State.takeFree_keeps hyp)
        · exact keepsW_done (raiseNode_keeps (setStaging_keeps (persistOwn_keeps (State.takeFree_keeps hyp))))

theorem updateVerify_keeps {α s : State} (hyp : Keeps α s) : KeepsW α (updateVerify s) := by
  unfold updateVerify
  split
  · exact keepsW_refused hyp
  · split
    · exact keepsW_done (setStaging_keeps (unverify_keeps hyp))
    · exact updateDenied_keeps hyp

theorem updateBegin_keeps {α s : State} (hyp : Keeps α s) : KeepsW α (updateBegin s) := by
  unfold updateBegin
  split
  · exact updateDenied_keeps hyp
  · split
    · exact updateDenied_keeps hyp
    · exact keepsW_done (setStaging_keeps (unverify_keeps (State.setUpd_keeps (State.setOb_keeps hyp))))

theorem updateHome_keeps {α : State} {code : Nat} {others : Option Bool} {who : Completer} {s0 : State} (hyp : Keeps α s0) :
    KeepsW α (updateHome code others who s0) := by
  unfold updateHome
  split
  · exact updateBegin_keeps hyp
  · exact updateVerify_keeps hyp
  · exact updateActivate_keeps hyp
  · exact updateDiscard_keeps hyp

theorem filterHome_keeps {α : State} {idx sub v first : Nat} {who : Completer} {s0 : State} (hyp : Keeps α s0) :
    KeepsW α (filterHome idx sub v first who s0) := by
  unfold filterHome
  dsimp only [applyHome]
  split
  · split
    · split
      · exact keepsW_denied hyp
      · exact keepsW_done (State.setOb_keeps hyp)
    · split
      · exact keepsW_denied hyp
      · exact keepsW_done (State.setOb_keeps hyp)
  · split
    · split
      · exact keepsW_denied hyp
      · exact keepsW_done (State.setOb_keeps hyp)
    · split
      · exact keepsW_denied hyp
      · exact keepsW_done (State.setOb_keeps hyp)

theorem consumedHome_keeps {α : State} {v : Nat} {who : Completer} {s0 : State} (hyp : Keeps α s0) :
    KeepsW α (consumedHome v who s0) := by
  unfold consumedHome
  dsimp only
  refine keepsW_ite (fun _ => hyp) fun _ => keepsW_ite (fun _ => State.setOb_keeps hyp) fun _ => ?_
  refine State.setSampler_keeps (State.setOb_keeps (State.setOb_keeps hyp)) fun k => ?_
  have old : s0.sampler.ring.length ≤ 4096 := k
  show (if v = s0.ob 0x7100 6 then [] else s0.sampler.ring.dropWhile fun r => r.seq != v).length ≤ 4096
  split
  · exact Nat.zero_le _
  · exact (List.dropWhile_sublist _).length_le.trans old

theorem loadSampler_keeps {α s : State} (hyp : Keeps α s) : Keeps α (loadSampler s) :=
  State.setSampler_keeps hyp

theorem samplerHome_keeps {α : State} {sub v : Nat} {who : Completer} {s0 : State} (hyp : Keeps α s0) :
    KeepsW α (samplerHome sub v who s0) :=
  keepsW_done (loadSampler_keeps (State.setOb_keeps hyp))

theorem clearAllHome_keeps {α : State} {who : Completer} {s0 : State} (hyp : Keeps α s0) : KeepsW α (clearAllHome who s0) :=
  keepsW_done (each_keeps hyp (fun _ _ => clearBank_keeps (.refl _)))

theorem snapshotHome_keeps {α : State} {v : Nat} {lead : Bool} {who : Completer} {s0 : State} (hyp : Keeps α s0) :
    KeepsW α (snapshotHome v lead who s0) := by
  unfold snapshotHome
  dsimp only [applyHome]
  split
  · exact keepsW_refused hyp
  · split
    · split
      · exact keepsW_denied hyp
      · exact keepsW_done (State.setOb_keeps (State.setOb_keeps hyp))
    · split
      · exact keepsW_denied hyp
      · exact keepsW_done (State.setOb_keeps (State.setOb_keeps hyp))

theorem verifyStageHome_keeps {α : State} {value : List Byte} {who : Completer} {s0 : State} (hyp : Keeps α s0) :
    KeepsW α (verifyStageHome value who s0) := by
  unfold verifyStageHome
  split
  · exact keepsW_refused hyp
  · exact keepsW_done (State.setSec_keeps hyp)

theorem keyDenied_keeps {α : State} {code : Nat} {s : State} (hyp : Keeps α s) : KeepsW α (keyDenied code s) :=
  keepsW_denied (State.setOb_keeps hyp)

theorem eraseKey_keeps {α : State} {n : Nat} {plans : Bool} {s : State} (hyp : Keeps α s) : KeepsW α (eraseKey n plans s) := by
  unfold eraseKey
  split
  · exact keyDenied_keeps hyp
  · exact keepsW_done (raiseNode_keeps (State.setOb_keeps (State.setKey_keeps hyp)))

theorem loadKey_keeps {α : State} {code n : Nat} {kind : KeyKind} {world : Bool} {fp k1 k2 : Nat} {s : State} (hyp : Keeps α s) :
    KeepsW α (loadKey code n kind world fp k1 k2 s) := by
  unfold loadKey
  split
  · exact keyDenied_keeps hyp
  · exact keepsW_done (raiseNode_keeps (State.setOb_keeps (State.setKey_keeps hyp)))

theorem importVerify_keeps {α : State} {n : Nat} {world : Bool} {s : State} (hyp : Keeps α s) : KeepsW α (importVerify n world s) := by
  unfold importVerify
  dsimp only
  split
  · exact keyDenied_keeps (State.setSec_keeps hyp)
  · exact loadKey_keeps (State.setSec_keeps hyp)

theorem generateGcm_keeps {α : State} {n : Nat} {world : Bool} {s : State} (hyp : Keeps α s) : KeepsW α (generateGcm n world s) :=
  loadKey_keeps (State.takeFree_keeps hyp)

theorem generateXts_keeps {α : State} {n : Nat} {world : Bool} {s : State} (hyp : Keeps α s) : KeepsW α (generateXts n world s) :=
  loadKey_keeps (State.takeFree_keeps (State.takeFree_keeps (State.takeFree_keeps hyp)))

theorem keyCommand_keeps {α : State} {v : Nat} {plans : Bool} {s : State} (hyp : Keeps α s) : KeepsW α (keyCommand v plans s) := by
  unfold keyCommand
  dsimp only
  split
  · exact keepsW_refused hyp
  · split
    · exact keyDenied_keeps hyp
    · split
      · exact keyDenied_keeps (Keeps.ite (State.setSec_keeps hyp) hyp)
      · split
        · exact generateXts_keeps hyp
        · split
          · exact generateGcm_keeps hyp
          · split
            · exact importVerify_keeps hyp
            · exact eraseKey_keeps hyp

theorem keyHome_keeps {α : State} {v : Nat} {who : Completer} {s0 : State} (hyp : Keeps α s0) : KeepsW α (keyHome v who s0) :=
  keyCommand_keeps hyp

theorem clearStaged_keeps {α s : State} (hyp : Keeps α s) : Keeps α (clearStaged s) :=
  State.setSec_keeps hyp

theorem writeOwner_keeps {α : State} {ec ml : List Byte} {policy epoch : Nat} {s : State} (hyp : Keeps α s) :
    Keeps α (writeOwner ec ml policy epoch s) :=
  Keeps.update hyp

theorem claim_keeps {α : State} {inSession : Bool} {s : State} (hyp : Keeps α s) : KeepsW α (claim inSession s) := by
  unfold claim
  split
  · split
    · exact keepsW_refused (clearStaged_keeps hyp)
    · exact keepsW_done (raiseNode_keeps (clearStaged_keeps (State.setSec_keeps (writeOwner_keeps (Keeps.update hyp)))))
  · exact keepsW_denied (clearStaged_keeps hyp)

theorem ownerCommand_keeps {α : State} {code : Nat} {session secured ordered : Bool} {s : State} (hyp : Keeps α s) :
    KeepsW α (ownerCommand code session secured ordered s) := by
  unfold ownerCommand
  dsimp only
  split
  · exact keepsW_refused hyp
  · split
    · exact claim_keeps hyp
    · split
      · split
        · exact keepsW_refused (clearStaged_keeps hyp)
        · exact keepsW_done (startZero_keeps (clearStaged_keeps (State.setSec_keeps hyp)))
      · exact keepsW_denied (clearStaged_keeps hyp)
    · split
      · exact keepsW_done (startZero_keeps (clearStaged_keeps hyp))
      · exact keepsW_denied (clearStaged_keeps hyp)
    · split
      · exact keepsW_done (startZero_keeps (clearStaged_keeps hyp))
      · exact keepsW_denied (clearStaged_keeps hyp)

theorem ownerHome_keeps {α : State} {code : Nat} {session secured : Bool} {who : Completer} {s0 : State} (hyp : Keeps α s0) :
    KeepsW α (ownerHome code session secured who s0) :=
  ownerCommand_keeps hyp

theorem writePolicy_keeps {α : State} {v : Nat} {s : State} (hyp : Keeps α s) : Keeps α (writePolicy v s) :=
  Keeps.ite (Keeps.update (State.setOb_keeps hyp)) (State.setOb_keeps hyp)

theorem policyHome_keeps {α : State} {v : Nat} {who : Completer} {s0 : State} (hyp : Keeps α s0) : KeepsW α (policyHome v who s0) := by
  unfold policyHome
  split
  · exact keepsW_refused hyp
  · exact keepsW_done (writePolicy_keeps hyp)

theorem ownerKeyHome_keeps {α : State} {sub : Nat} {value : List Byte} {who : Completer} {s0 : State} (hyp : Keeps α s0) :
    KeepsW α (ownerKeyHome sub value who s0) := by
  unfold ownerKeyHome
  split
  · exact keepsW_refused hyp
  · refine keepsW_done ?_
    split
    · exact State.setSec_keeps hyp
    · exact State.setSec_keeps hyp

theorem showTransfers_keeps {α s : State} (hyp : Keeps α s) : Keeps α (showTransfers s) :=
  State.setOb_keeps hyp

theorem transferHome_keeps {α : State} {value : List Byte} {who : Completer} {s0 : State} (hyp : Keeps α s0) :
    KeepsW α (transferHome value who s0) := by
  unfold transferHome
  dsimp only [applyHome]
  split
  · exact keepsW_denied (State.setOb_keeps hyp)
  · split
    · exact keepsW_refused (State.setOb_keeps hyp)
    · exact keepsW_done (showTransfers_keeps (State.setFar_keeps (State.setOb_keeps hyp)))

theorem openFar_keeps {α s : State} (hyp : Keeps α s) : Keeps α (openFar s) :=
  State.setOb_keeps hyp

theorem deviceHome_keeps {α : State} {i sub v : Nat} {who : Completer} {s0 : State} (hyp : Keeps α s0) :
    KeepsW α (deviceHome i sub v who s0) := by
  unfold deviceHome
  dsimp only [applyHome]
  split
  · exact keepsW_done (State.setOb_keeps hyp)
  · split
    · exact keepsW_denied hyp
    · exact keepsW_done (Keeps.ite (State.setOb_keeps (State.setOb_keeps (State.setOb_keeps hyp))) (openFar_keeps (State.setOb_keeps
        (State.setOb_keeps (State.setOb_keeps hyp)))))

theorem farRejoinHome_keeps {α : State} {who : Completer} {s0 : State} (hyp : Keeps α s0) : KeepsW α (farRejoinHome who s0) := by
  unfold farRejoinHome
  split
  · exact keepsW_done (State.armRejoin_keeps (State.setFar_keeps hyp))
  · exact keepsW_denied hyp

theorem portShaperHome_keeps {α : State} {h sub v : Nat} {who : Completer} {s0 : State} (hyp : Keeps α s0) :
    KeepsW α (portShaperHome h sub v who s0) := by
  unfold portShaperHome
  dsimp only [applyHome]
  split
  · exact qosDenied_keeps hyp
  · exact settingHome_keeps hyp

theorem guardHome_keeps {α : State} {h v : Nat} {who : Completer} {s0 : State} (hyp : Keeps α s0) : KeepsW α (guardHome h v who s0) := by
  unfold guardHome
  dsimp only [applyHome]
  split
  · exact keepsW_denied hyp
  · exact settingHome_keeps hyp

theorem engineRejoinHome_keeps {α : State} {e : Nat} {who : Completer} {s0 : State} (hyp : Keeps α s0) :
    KeepsW α (engineRejoinHome e who s0) := by
  unfold engineRejoinHome
  split
  · exact keepsW_done (State.armRejoin_keeps (State.setFeeds_keeps hyp))
  · exact keepsW_denied hyp

theorem wantFull_keeps {α : State} {c : Nat} {s : State} (hyp : Keeps α s) : Keeps α (wantFull c s) :=
  Keeps.ite (State.setOb_keeps (State.modTr_keeps hyp)) (beginTraining_keeps (State.modTr_keeps hyp))

theorem retrainHome_keeps {α : State} {c : Nat} {who : Completer} {s0 : State} (hyp : Keeps α s0) : KeepsW α (retrainHome c who s0) := by
  unfold retrainHome
  split
  · exact keepsW_denied hyp
  · exact keepsW_done (Keeps.ite (State.setOb_keeps (State.modTr_keeps hyp)) (wantFull_keeps (State.setOb_keeps (State.modTr_keeps hyp))))

theorem marginHome_keeps {α : State} {c v : Nat} {who : Completer} {s0 : State} (hyp : Keeps α s0) : KeepsW α (marginHome c v who s0) := by
  unfold marginHome
  split
  · exact keepsW_denied (State.setOb_keeps hyp)
  · split
    · exact keepsW_refused hyp
    · exact keepsW_done (State.setOb_keeps (Keeps.ite (wantSteer_keeps (State.modTr_keeps hyp)) (State.modTr_keeps hyp)))

theorem channelRejoinHome_keeps {α : State} {c : Nat} {who : Completer} {s0 : State} (hyp : Keeps α s0) :
    KeepsW α (channelRejoinHome c who s0) := by
  unfold channelRejoinHome
  dsimp only [applyHome]
  split
  · split
    · split
      · exact keepsW_denied hyp
      · exact keepsW_done (State.armRejoin_keeps (State.modChan_keeps hyp))
    · split
      · exact keepsW_denied hyp
      · exact keepsW_done (State.armRejoin_keeps (State.modChan_keeps hyp))
  · split
    · split
      · exact keepsW_denied hyp
      · exact keepsW_done (State.armRejoin_keeps (State.modChan_keeps hyp))
    · split
      · exact keepsW_denied hyp
      · exact keepsW_done (State.armRejoin_keeps (State.modChan_keeps hyp))

theorem setSpareMasks_keeps {α s : State} (hyp : Keeps α s) : Keeps α (setSpareMasks s) :=
  each_keeps hyp (fun _ _ => State.setOb_keeps (.refl _))

theorem segmentMaskHome_keeps {α : State} {c v : Nat} {who : Completer} {s0 : State} (hyp : Keeps α s0) :
    KeepsW α (segmentMaskHome c v who s0) := by
  unfold segmentMaskHome
  split
  · exact keepsW_denied hyp
  · exact keepsW_done (setSpareMasks_keeps (State.setOb_keeps hyp))

/-- A home operation that is chosen by the object keeps the state it is given. -/
def KeepsHO (o : Option Home) : Prop := ∀ h, o = some h → ∀ who s, KeepsW s (h who s)

theorem keepsHO_none : KeepsHO none := fun _ e => nomatch e

theorem keepsHO_some {h : Home} (k : ∀ who s, KeepsW s (h who s)) : KeepsHO (some h) := fun _ e => Option.some.inj e ▸ k

theorem KeepsHO.ite {c : Prop} [Decidable c] {x y : Option Home} (h : KeepsHO x) (k : KeepsHO y) : KeepsHO (if c then x else y) := by
  split <;> assumption

theorem homeLow_keeps {owner : Bool} {idx sub : Nat} {value : List Byte} : KeepsHO (homeLow owner idx sub value) := by
  unfold homeLow
  dsimp only
  refine KeepsHO.ite (keepsHO_some fun _ _ => macHome_keeps (.refl _)) ?_
  refine KeepsHO.ite (keepsHO_some fun _ _ => applyHome_keeps (.refl _) fun _ => clearLog_keeps (.refl _)) ?_
  refine KeepsHO.ite (keepsHO_some fun _ _ => applyHome_keeps (.refl _) fun _ => clearAlarm_keeps (.refl _)) ?_
  refine KeepsHO.ite (keepsHO_some fun _ _ => applyHome_keeps (.refl _) fun _ => clearMirror_keeps (.refl _)) ?_
  refine KeepsHO.ite (keepsHO_some fun _ _ => maskHome_keeps (.refl _)) ?_
  refine KeepsHO.ite (keepsHO_some fun _ _ => stateHome_keeps (.refl _)) ?_
  refine KeepsHO.ite (keepsHO_some fun _ _ => warmHome_keeps (.refl _)) ?_
  refine KeepsHO.ite (keepsHO_some fun _ _ => nodeRejoinHome_keeps (.refl _)) ?_
  refine KeepsHO.ite (keepsHO_some fun _ _ => enableHome_keeps (.refl _)) ?_
  refine KeepsHO.ite (keepsHO_some fun _ _ => regionHome_keeps (.refl _)) ?_
  refine KeepsHO.ite (keepsHO_some fun _ _ => intervalHome_keeps (.refl _)) ?_
  refine KeepsHO.ite (keepsHO_some fun _ _ => openMinHome_keeps (.refl _)) ?_
  refine KeepsHO.ite (keepsHO_some fun _ _ => planHome_keeps (.refl _)) ?_
  refine KeepsHO.ite (keepsHO_some fun _ _ => armFrameHome_keeps (.refl _)) ?_
  refine KeepsHO.ite (keepsHO_some fun _ _ => fenceClearHome_keeps (.refl _)) ?_
  refine KeepsHO.ite (keepsHO_some fun _ _ => fenceRequestHome_keeps (.refl _)) ?_
  refine KeepsHO.ite (keepsHO_some fun _ _ => portWorldHome_keeps (.refl _)) ?_
  refine KeepsHO.ite (keepsHO_some fun _ _ => portRejoinHome_keeps (.refl _)) ?_
  refine KeepsHO.ite (keepsHO_some fun _ _ => poolResetHome_keeps (.refl _)) ?_
  refine KeepsHO.ite (keepsHO_some fun _ _ => standingHome_keeps (.refl _)) ?_
  refine KeepsHO.ite (keepsHO_some fun _ _ => unitRejoinHome_keeps (.refl _)) ?_
  refine KeepsHO.ite (keepsHO_some fun _ _ => beyondClearHome_keeps (.refl _)) ?_
  refine KeepsHO.ite (keepsHO_some fun _ _ => flushAllHome_keeps (.refl _)) ?_
  refine KeepsHO.ite (keepsHO_some fun _ _ => sliceRejoinHome_keeps (.refl _)) ?_
  refine KeepsHO.ite (keepsHO_some fun _ _ => syncObjectHome_keeps (.refl _)) ?_
  refine KeepsHO.ite (keepsHO_some fun _ _ => meterHome_keeps (.refl _)) ?_
  refine KeepsHO.ite (keepsHO_some fun _ _ => shaperHome_keeps (.refl _)) ?_
  refine KeepsHO.ite (keepsHO_some fun _ _ => budgetHome_keeps (.refl _)) ?_
  exact keepsHO_none

theorem homeHigh_keeps {owner secured : Bool} {idx sub : Nat} {value : List Byte} : KeepsHO (homeHigh owner secured idx sub value) := by
  unfold homeHigh
  dsimp only
  refine KeepsHO.ite ?_ ?_
  · split
    · with_reducible exact keepsHO_some fun _ _ => segmentMaskHome_keeps (.refl _)
    · exact keepsHO_some fun _ _ => channelRejoinHome_keeps (.refl _)
    · exact keepsHO_some fun _ _ => marginHome_keeps (.refl _)
    · exact keepsHO_some fun _ _ => retrainHome_keeps (.refl _)
    · exact keepsHO_none
  refine KeepsHO.ite (keepsHO_some fun _ _ => engineRejoinHome_keeps (.refl _)) ?_
  refine KeepsHO.ite (keepsHO_some fun _ _ => guardHome_keeps (.refl _)) ?_
  refine KeepsHO.ite (keepsHO_some fun _ _ => portShaperHome_keeps (.refl _)) ?_
  refine KeepsHO.ite (keepsHO_some fun _ _ => baleKeyHome_keeps (.refl _)) ?_
  refine KeepsHO.ite (keepsHO_some fun _ _ => farRejoinHome_keeps (.refl _)) ?_
  refine KeepsHO.ite (keepsHO_some fun _ _ => deviceHome_keeps (.refl _)) ?_
  refine KeepsHO.ite (keepsHO_some fun _ _ => transferHome_keeps (.refl _)) ?_
  refine KeepsHO.ite (keepsHO_some fun _ _ => ownerKeyHome_keeps (.refl _)) ?_
  refine KeepsHO.ite (keepsHO_some fun _ _ => policyHome_keeps (.refl _)) ?_
  refine KeepsHO.ite (keepsHO_some fun _ _ => ownerHome_keeps (.refl _)) ?_
  refine KeepsHO.ite (keepsHO_some fun _ _ => keyHome_keeps (.refl _)) ?_
  refine KeepsHO.ite (keepsHO_some fun _ _ => verifyStageHome_keeps (.refl _)) ?_
  refine KeepsHO.ite (keepsHO_some fun _ _ => snapshotHome_keeps (.refl _)) ?_
  refine KeepsHO.ite (keepsHO_some fun _ _ => clearAllHome_keeps (.refl _)) ?_
  refine KeepsHO.ite (keepsHO_some fun _ _ => samplerHome_keeps (.refl _)) ?_
  refine KeepsHO.ite (keepsHO_some fun _ _ => filterHome_keeps (.refl _)) ?_
  refine KeepsHO.ite (keepsHO_some fun _ _ => consumedHome_keeps (.refl _)) ?_
  refine KeepsHO.ite (keepsHO_some fun _ _ => bankClearHome_keeps (.refl _)) ?_
  refine KeepsHO.ite (keepsHO_some fun _ _ => filterHome_keeps (.refl _)) ?_
  refine KeepsHO.ite (keepsHO_some fun _ _ => blockHome_keeps (.refl _)) ?_
  refine KeepsHO.ite (keepsHO_some fun _ _ => updateHome_keeps (.refl _)) ?_
  refine KeepsHO.ite (keepsHO_some fun _ _ => layerExcludeHome_keeps (.refl _)) ?_
  refine KeepsHO.ite (keepsHO_some fun _ _ => logicExcludeHome_keeps (.refl _)) ?_
  refine KeepsHO.ite (keepsHO_some fun _ _ => shutdownClearHome_keeps (.refl _)) ?_
  refine KeepsHO.ite (keepsHO_some fun _ _ => reconstituteHome_keeps (.refl _)) ?_
  refine KeepsHO.ite (keepsHO_some fun _ _ => copyBackHome_keeps (.refl _)) ?_
  refine KeepsHO.ite (keepsHO_some fun _ _ => spreadHome_keeps (.refl _)) ?_
  exact keepsHO_none

theorem homeOf_keeps {α : State} {owner secured : Bool} {idx sub : Nat} {value : List Byte} {who : Completer} {s : State}
    (hyp : Keeps α s) : KeepsW α (homeOf owner secured idx sub value who s) := by
  refine KeepsW.trans hyp ?_
  unfold homeOf
  cases e : homeLow owner idx sub value with
  | some h => exact homeLow_keeps _ e who s
  | none =>
    cases e' : homeHigh owner secured idx sub value with
    | some h => simpa [e'] using homeHigh_keeps _ e' who s
    | none => simpa [e'] using settingHome_keeps (Keeps.refl s)

theorem carriedHome_keeps {α : State} {ordered owner : Bool} {idx sub : Nat} {value : List Byte} {who : Completer} {s0 : State} (hyp : Keeps α s0)
    : KeepsW α (carriedHome ordered owner idx sub value who s0) := by
  unfold carriedHome
  split
  · exact updateHome_keeps hyp
  · exact homeOf_keeps hyp

theorem sendObject_keeps {α : State} {d idx sub order : Nat} {value : List Byte} {owner : Bool} {s : State} (hyp : Keeps α s) :
    Keeps α (sendObject d idx sub order value owner s) :=
  hyp.free (sendObject_fr (Fr.refl 256 s))

theorem leadOrder_keeps {α : State} {idx sub : Nat} {value : List Byte} {owner : Bool} {req : Option Req} {via : Nat} {home : Home} {s : State}
    (hyp : Keeps α s) (hf_home : ∀ y0 y, KeepsW y (home y0 y)) : Keeps α (leadOrder idx sub value owner req via home s) := by
  unfold leadOrder
  extract_lets n value m1 s1 w
  have h1 : Keeps α s1 := hyp.update
  have led : KeepsW α (home (.order n) s1) := KeepsW.trans h1 (hf_home _ _)
  split
  · rename_i st d t e
    exact finishOrder_keeps (keepsW_of_refused e led)
  · rename_i t e
    exact ackOrder_keeps (each_keeps (State.setWrites_keeps (keepsW_of_done e led)) fun _ _ => sendObject_keeps (.refl _))
  · rename_i t e
    exact each_keeps (State.setWrites_keeps (keepsW_of_wait e led)) fun _ _ => sendObject_keeps (.refl _)

theorem settle_keeps {α : State} {who : Completer} {r : WResult} (hyp : KeepsW α r) :
    Keeps α (settle who r) := by
  unfold settle
  split
  · exact complete_keeps hyp
  · exact complete_keeps hyp
  · exact hyp

theorem orderedWrite_keeps {α : State} {req : Req} {setWide persisted : Bool} {idx sub : Nat} {value : List Byte} {home : Home} {s : State}
    (hyp : Keeps α s) (hf_home : ∀ y0 y, KeepsW y (home y0 y)) : Keeps α (orderedWrite req setWide persisted idx sub value home s) := by
  unfold orderedWrite
  refine Keeps.ite (settle_keeps (KeepsW.trans hyp (hf_home _ _))) (Keeps.ite (Keeps.ite (settle_keeps (KeepsW.trans hyp (hf_home _ _)))
    (answer_keeps hyp)) (Keeps.ite (leadOrder_keeps hyp (fun _ _ => KeepsW.trans (.refl _) (hf_home _ _))) (Keeps.ite ?_ (answer_keeps hyp))))
  split
  · exact answer_keeps (Keeps.trans hyp (keepsW_of_refused ‹_› (hf_home _ _)))
  · exact sendObject_keeps (State.setWrites_keeps hyp)

theorem qosRefusal_keeps {α : State} {idx sub st : Nat} {s : State} (hyp : Keeps α s) : Keeps α (qosRefusal idx sub st s) :=
  Keeps.ite (raiseNode_keeps hyp) hyp

theorem writeChecks_keeps {α : State} {req : Req} {idx sub : Nat} {s : State} (hyp : Keeps α s) :
    ∀ st d t, writeChecks req idx sub s = some (st, d, t) → Keeps α t := by
  intro st d t e
  unfold writeChecks at e
  split at e
  · cases e; exact hyp
  · split at e
    · cases e; exact hyp
    · split at e
      · cases e; exact hyp
      · split at e
        · cases e; exact hyp
        · split at e
          · cases e
          · cases e
            split
            · exact raiseNode_keeps hyp
            · exact hyp

theorem carryOut_keeps {α : State} {req : Req} {idx sub : Nat} {value : List Byte} {home : Home} {s : State} (hyp : Keeps α s)
    (hf_home : ∀ y0 y, KeepsW y (home y0 y)) : Keeps α (carryOut req idx sub value home s) := by
  unfold carryOut
  split
  · exact answer_keeps (qosRefusal_keeps (writeChecks_keeps hyp _ _ _ ‹_›))
  · split
    · exact hyp
    · split
      · exact answer_keeps (qosRefusal_keeps hyp)
      · exact orderedWrite_keeps hyp (fun _ _ => KeepsW.trans (.refl _) (hf_home _ _))

theorem spdmReply_keeps {α : State} {r : Req} {m : SpdmReply} {s : State} (hyp : Keeps α s) : Keeps α (spdmReply r m s) :=
  respond_keeps hyp

theorem spdmError_keeps {α : State} {r : Req} {e : SpdmError} {s : State} (hyp : Keeps α s) : Keeps α (spdmError r e s) :=
  spdmReply_keeps hyp

theorem negotiated_keeps {α : State} {r : Req} {f : State → State} {s : State} (hyp : Keeps α s) (hf_f : ∀ y, Keeps y (f y)) :
    Keeps α (negotiated r f s) :=
  Keeps.ite (spdmError_keeps hyp) (Keeps.trans hyp (hf_f _))

theorem challengeAct_keeps {α : State} {r : Req} {slot nonce : Nat} {a : State} (hyp : Keeps α a) : Keeps α (challengeAct r slot nonce a) :=
  negotiated_keeps hyp (fun _ => Keeps.ite (spdmError_keeps (.refl _)) (spdmReply_keeps (.refl _)))

theorem freshRefresh_keeps {α : State} {c : Nat} {s : State} (hyp : Keeps α s) : Keeps α (freshRefresh c s) :=
  showDebt_keeps (State.modChan_keeps hyp)

theorem leaveSelfRefresh_keeps {α : State} {c : Nat} {s : State} (hyp : Keeps α s) : Keeps α (leaveSelfRefresh c s) :=
  freshRefresh_keeps (layModes_keeps hyp)

theorem resumeChannel_keeps {α : State} {c : Nat} {s : State} (hyp : Keeps α s) : Keeps α (resumeChannel c s) := by
  unfold resumeChannel
  exact Keeps.ite (drainChannel_keeps (raise_keeps (syncDepth_keeps (State.setChanState_keeps (State.bumpBy_keeps (State.setChan_keeps
    (raise_keeps (leaveSelfRefresh_keeps hyp)))))))) (raise_keeps (syncDepth_keeps (State.setChanState_keeps (State.bumpBy_keeps
    (State.setChan_keeps (raise_keeps (leaveSelfRefresh_keeps hyp)))))))

theorem exitSrx_keeps {α : State} {c : Nat} {s : State} (hyp : Keeps α s) : Keeps α (exitSrx c s) :=
  laySrx_keeps (noteCmd_keeps (State.modChan_keeps hyp))

theorem channelRecovered_keeps {α : State} {c : Nat} {ok : Bool} {s : State} (hyp : Keeps α s) : Keeps α (channelRecovered c ok s) := by
  unfold channelRecovered
  exact Keeps.ite hyp (Keeps.ite (failChannel_keeps hyp) (Keeps.ite hyp (Keeps.ite (Keeps.ite (exitSrx_keeps hyp) hyp) (Keeps.ite hyp
    (resumeChannel_keeps hyp)))))

theorem endLap_keeps {α : State} {c : Nat} {s : State} (hyp : Keeps α s) : Keeps α (endLap c s) := by
  unfold endLap
  exact State.modChan_keeps (raise_keeps (State.bump_keeps (State.setOb_keeps hyp)))

theorem gleanPast_keeps {α : State} {c k : Nat} {s : State} (hyp : Keeps α s) : Keeps α (gleanPast c k s) :=
  Keeps.ite (State.setOb_keeps hyp) (endLap_keeps (State.setOb_keeps hyp))

theorem driveBurst_keeps {α : State} {c l beats : Nat} {pattern : Bool} {src : Nat → Nat → Nat} {used : Nat → Bool} {s : State} (hyp : Keeps α s)
    : Keeps α (driveBurst c l beats pattern src used s) :=
  State.setDch_keeps (State.setLay_keeps hyp)

theorem lineBytes_keeps {α : State} {c l bank row line : Nat} {s : State} (hyp : Keeps α s) : Keeps α (lineBytes c l bank row line s).2 :=
  hyp.free (lineBytes_fr (Fr.refl 8192 s))

theorem layRd_keeps {α : State} {c l bank line : Nat} {ap : Bool} {s : State} (hyp : Keeps α s) : Keeps α (layRd c l bank line ap s).2 := by
  unfold layRd
  split
  · exact hyp
  · split
    · exact protoAlert_keeps hyp
    · exact autoPre_keeps (driveBurst_keeps (lineBytes_keeps hyp))

theorem countTurn_keeps {α : State} {c l : Nat} {wr : Bool} {s : State} (hyp : Keeps α s) : Keeps α (countTurn c l wr s) := by
  unfold countTurn
  exact State.modChan_keeps (Keeps.ite (count_keeps (State.bump_keeps (Keeps.ite (count_keeps (State.bump_keeps hyp)) hyp))) (Keeps.ite
    (count_keeps (State.bump_keeps hyp)) hyp))

theorem countData_keeps {α : State} {c slot l : Nat} {wr planned : Bool} {s : State} (hyp : Keeps α s) :
    Keeps α (countData c slot l wr planned s) := by
  unfold countData
  exact State.modChan_keeps (State.bump_keeps (countTurn_keeps hyp))

theorem usedRow_keeps {α : State} {c l b : Nat} {s : State} (hyp : Keeps α s) : Keeps α (usedRow c l b s) :=
  hyp.free (usedRow_fr (Fr.refl 262144 s))

theorem sampleCmd_keeps {α : State} {kind id num : Nat} {s : State} (hyp : Keeps α s) : Keeps α (sampleCmd kind id num s) :=
  modBuilding_keeps hyp

theorem countRead_keeps {α : State} {c : Nat} {planned : Bool} {e : RdEntry} {s : State} (hyp : Keeps α s) :
    Keeps α (countRead c planned e s) := by
  unfold countRead
  dsimp only
  split
  · exact sampleCmd_keeps (Keeps.ite (count_keeps hyp) (countIf_keeps hyp))
  · exact sampleCmd_keeps (Keeps.ite (count_keeps hyp) (countIf_keeps hyp))
  · exact Keeps.ite (count_keeps hyp) (countIf_keeps hyp)

theorem issueRead_keeps {α : State} {c slot : Nat} {bad ap planned : Bool} {e : RdEntry} {over_ : List WrEntry} {s : State} (hyp : Keeps α s) :
    Keeps α (issueRead c slot bad ap planned e over_ s) := by
  unfold issueRead
  dsimp only
  refine State.modChan_keeps ?_
  split
  · exact layParity_keeps (countRead_keeps (usedRow_keeps (countData_keeps (noteCmd_keeps hyp))))
  · exact layRd_keeps (countRead_keeps (usedRow_keeps (countData_keeps (noteCmd_keeps hyp))))

theorem gleanSlot_keeps {α : State} {c slot : Nat} {bad : Bool} {after : List (Option PLine)} {s : State} (hyp : Keeps α s) :
    Keeps α (gleanSlot c slot bad after s) := by
  unfold gleanSlot
  refine Keeps.ite hyp ?_
  split
  · exact hyp
  · exact Keeps.ite (gleanPast_keeps hyp) (Keeps.ite hyp (Keeps.ite (withheld_keeps hyp) (gleanPast_keeps (State.takeOrder_keeps (issueRead_keeps
      (State.bump_keeps hyp))))))

theorem layWr_keeps {α : State} {c : Nat} {l : Nat} {bank : Nat} {line : Nat} {ap : Bool} {preamble : Bool} {burst : Nat} {s : State} (hyp :
    Keeps α s) :
    Keeps α (layWr c l bank line ap preamble burst s).2 := by
  unfold layWr
  split
  · exact hyp
  · split
    · exact protoAlert_keeps hyp
    · split
      · exact alertOn_keeps hyp
      · exact autoPre_keeps (hyp.memory (writePhys_memory ..))

theorem countWrite_keeps {α : State} {c : Nat} {planned : Bool} {e : WrEntry} {s : State} (hyp : Keeps α s) :
    Keeps α (countWrite c planned e s) := by
  unfold countWrite
  dsimp only
  split
  · exact sampleCmd_keeps (countIf_keeps hyp)
  · exact countIf_keeps hyp

theorem issueWrite_keeps {α : State} {c slot : Nat} {bad preamble ap planned : Bool} {e : WrEntry} {s : State} (hyp : Keeps α s) :
    Keeps α (issueWrite c slot bad preamble ap planned e s) :=
  Keeps.ite (layParity_keeps (State.modChan_keeps (countWrite_keeps (usedRow_keeps (countData_keeps (noteCmd_keeps hyp)))))) (layWr_keeps
    (State.modChan_keeps (countWrite_keeps (usedRow_keeps (countData_keeps (noteCmd_keeps hyp))))))

theorem issuePick_keeps {α : State} {c slot : Nat} {bad preamble : Bool} {p : Pick} {s : State} (hyp : Keeps α s) :
    Keeps α (issuePick c slot bad preamble p s) := by
  unfold issuePick
  split
  · exact syncDepth_keeps (issueRead_keeps (State.modChan_keeps hyp))
  · exact issueRead_keeps (State.modChan_keeps hyp)
  · exact issueRead_keeps (State.modChan_keeps hyp)
  · exact syncDepth_keeps (issueWrite_keeps (State.modChan_keeps hyp))

theorem openSlot_keeps {α : State} {c slot : Nat} {bad preamble : Bool} {after : List (Option PLine)} {s : State} (hyp : Keeps α s) :
    Keeps α (openSlot c slot bad preamble after s).2 := by
  unfold openSlot
  dsimp only
  split
  · exact hyp
  · split
    · exact hyp
    · split
      · exact issuePick_keeps (withheldMany_keeps hyp)
      · exact withheldMany_keeps hyp

theorem settleLag_keeps {α : State} {n : Nat} {s : State} (hyp : Keeps α s) : Keeps α (settleLag n s) :=
  hyp.free (settleLag_fr (Fr.refl 131072 s))

theorem slip_keeps {α : State} {c n : Nat} {s : State} (hyp : Keeps α s) : Keeps α (slip c n s) :=
  countTaken_keeps (Keeps.ite (breakContinuity_keeps (startDerate_keeps (degrade_keeps (raise_keeps (State.bump_keeps (State.bump_keeps hyp))))))
    (startDerate_keeps (degrade_keeps (raise_keeps (State.bump_keeps (State.bump_keeps hyp))))))

theorem moveRead_keeps {α : State} {c : Nat} {e : RdEntry} {over_ : List WrEntry} {slot : Nat} {s : State} (hyp : Keeps α s) :
    Keeps α (moveRead c e over_ slot s) :=
  hyp.free (moveRead_fr (Fr.refl 262144 s))

theorem sweepOld_keeps {α s : State} (hyp : Keeps α s) : Keeps α (sweepOld s) :=
  hyp.free (sweepOld_fr (Fr.refl 131072 s))

theorem sendBeats_keeps {α : State} {n : Nat} {d : StreamDesc} {p f : Bool} {l : List (Nat × Option Nat × Option Nat)} {s : State}
    (hyp : Keeps α s) : Keeps α (sendBeats n d p f l s) := by
  induction l generalizing s with
  | nil => exact hyp
  | cons b l ih =>
    unfold sendBeats
    split
    · exact hyp
    · rename_i h; cases h; exact State.send_keeps hyp
    · rename_i h; cases h; exact ih (State.send_keeps hyp)

theorem pumpFeed_keeps {α : State} {n k : Nat} {t : Stream} {s : State} (hyp : Keeps α s) :
    Keeps α (pumpFeed n k t s).2.1 := by
  induction k generalizing t s with
  | zero => exact hyp
  | succ k ih =>
    unfold pumpFeed
    split
    · exact hyp
    · split
      · exact hyp
      · extract_lets t1 fence e ls s1 s2 t2 s3
        have h1 : Keeps α s1 := Keeps.ite (Keeps.ite (State.send_keeps hyp) hyp) (sendBeats_keeps (countIf_keeps (State.bumpBy_keeps hyp)))
        have h2 : Keeps α s2 := sampleEnd_keeps h1
        have h3 : Keeps α s3 := Keeps.ite (raiseCtx_keeps (countIf_keeps (State.bump_keeps h2))) h2
        exact keeps_ite3 h3 (ih h3)

theorem feedList_keeps {α : State} {old : Bool} {n : Nat} {s : State} (hyp : Keeps α s) : Keeps α (feedList old n s) := by
  unfold feedList
  split
  · exact hyp
  · extract_lets r follow s1
    have pumped : Keeps α r.2.1 := pumpFeed_keeps hyp
    have h1 : Keeps α s1 := Keeps.ite (State.modStream_keeps (State.modOld_keeps pumped)) (State.modStream_keeps pumped)
    exact Keeps.ite (fenceContext_keeps h1) h1

theorem feedOut_keeps {α : State} {n : Nat} {s : State} (hyp : Keeps α s) : Keeps α (feedOut n s) :=
  Keeps.ite (feedList_keeps hyp) (feedList_keeps (sweepOld_keeps (feedList_keeps hyp)))

theorem feedArrive_keeps {α : State} {n num : Nat} {ls : List Nat} {poison : Bool} {s : State} (hyp : Keeps α s) :
    Keeps α (feedArrive n num ls poison s) := by
  unfold feedArrive
  split
  · exact hyp
  · exact feedOut_keeps (State.peak_keeps (State.modFeed_keeps hyp))

theorem feedLine_keeps {α : State} {n num : Nat} {l : Nat × Nat} {s : State} (hyp : Keeps α s) : Keeps α (feedLine n num l s) := by
  unfold feedLine
  dsimp only
  split
  · exact hyp
  · refine Keeps.ite (feedRefused_keeps (countAccess_keeps hyp)) (Keeps.ite (feedArrive_keeps (State.bump_keeps hyp)) ?_)
    split
    · exact feedArrive_keeps hyp
    · refine Keeps.ite (feedRefused_keeps hyp) ?_
      split
      · exact feedArrive_keeps (countWiden_keeps hyp)
      · exact readEscape_keeps (State.modFeed_keeps (countWiden_keeps hyp))
      · exact feedArrive_keeps (countWiden_keeps hyp)

theorem layRdc_keeps {α : State} {c l bank : Nat} {ap : Bool} {s : State} (hyp : Keeps α s) : Keeps α (layRdc c l bank ap s) := by
  unfold layRdc
  refine Keeps.ite hyp ?_
  split
  · exact protoAlert_keeps hyp
  · exact autoPre_keeps (driveBurst_keeps hyp)

theorem issueChaff_keeps {α : State} {c slot : Nat} {bad ap : Bool} {l b line : Nat} {s : State} (hyp : Keeps α s) :
    Keeps α (issueChaff c slot bad ap l b line s) :=
  Keeps.ite (layParity_keeps (count_keeps (countTurn_keeps (noteCmd_keeps hyp)))) (layRdc_keeps (count_keeps (countTurn_keeps (noteCmd_keeps
    hyp))))

theorem issueFeed_keeps {α : State} {c slot : Nat} {bad : Bool} {d : Due} {nw : Nat} {cmd : Option SdiCmd} {t : Stream} {s : State}
    (hyp : Keeps α s) : Keeps α (issueFeed c slot bad d nw cmd t s) := by
  unfold issueFeed
  dsimp only
  refine Keeps.ite (feedOut_keeps ?_) ?_
  · split
    · exact issueChaff_keeps (State.bump_keeps (advance_keeps (countIf_keeps (State.bump_keeps hyp))))
    · exact advance_keeps (countIf_keeps (State.bump_keeps hyp))
  · split
    · split
      · exact feedLine_keeps (State.setPath_keeps (Keeps.ite (candidate_keeps (advance_keeps hyp)) (advance_keeps hyp)))
      · exact feedArrive_keeps (State.setPath_keeps (Keeps.ite (candidate_keeps (advance_keeps hyp)) (advance_keeps hyp)))
    · exact Keeps.ite (State.takeOrder_keeps (moveRead_keeps (Keeps.ite (Keeps.ite (candidate_keeps (advance_keeps hyp)) (advance_keeps hyp))
        (sampleFlag_keeps (State.bump_keeps (Keeps.ite (candidate_keeps (advance_keeps hyp)) (advance_keeps hyp))))))) (State.takeOrder_keeps
        (issueRead_keeps (Keeps.ite (Keeps.ite (candidate_keeps (advance_keeps hyp)) (advance_keeps hyp)) (sampleFlag_keeps (State.bump_keeps
        (Keeps.ite (candidate_keeps (advance_keeps hyp)) (advance_keeps hyp)))))))

theorem homeEffect_keeps {α : State} {id status : Nat} {s : State} (hyp : Keeps α s) : Keeps α (homeEffect id status s) := by
  unfold homeEffect
  split
  · exact Keeps.ite hyp (Keeps.ite (State.modAsk_keeps hyp) (finish_keeps (State.modAsk_keeps hyp)))
  · exact hyp

theorem wholePlaced_keeps {α : State} {id a data info : Nat} {s : State} (hyp : Keeps α s) : Keeps α (wholePlaced id a data info s) :=
  Keeps.ite (homeEffect_keeps (backingWrite_keeps (State.modAsk_keeps hyp))) (homeEffect_keeps hyp)

theorem fireSignals_keeps {α : State} {n : Nat} {t : Stream} {s : State} (hyp : Keeps α s) : Keeps α (fireSignals n t s).2 :=
  each_keeps hyp (fun _ _ => signalObject_keeps (.refl _))

theorem fire_keeps {α : State} {old : Bool} {n : Nat} {s : State} (hyp : Keeps α s) : Keeps α (fire old n s) := by
  unfold fire
  split
  · exact hyp
  · exact Keeps.ite (State.modOld_keeps (fireSignals_keeps hyp)) (State.modStream_keeps (fireSignals_keeps hyp))

theorem settleDrain_keeps {α : State} {old : Bool} {n : Nat} {s : State} (hyp : Keeps α s) : Keeps α (settleDrain old n s) := by
  unfold settleDrain
  split
  · exact hyp
  · exact Keeps.ite hyp (Keeps.ite hyp (sweepOld_keeps (fire_keeps (Keeps.ite (State.modOld_keeps hyp) (State.modStream_keeps hyp)))))

theorem writeMove_keeps {α : State} {l : Loc} {data info : Nat} {s : State} (hyp : Keeps α s) : Keeps α (writeMove l data info s) :=
  hyp.free (writeMove_fr (Fr.refl 262144 s))

theorem healedNow_keeps {α : State} {c line : Nat} {s : State} (hyp : Keeps α s) : Keeps α (healedNow c line s) := by
  unfold healedNow
  split
  · exact setWeak_keeps hyp
  · exact hyp

theorem countHealed_keeps {α : State} {w : WrEntry} {s : State} (hyp : Keeps α s) : Keeps α (countHealed w s) := by
  unfold countHealed
  split
  · exact healedNow_keeps hyp
  · exact hyp

theorem supersedeWrites_keeps {α : State} {c a : Nat} {s : State} (hyp : Keeps α s) : Keeps α (supersedeWrites c a s) := by
  unfold supersedeWrites
  refine syncDepth_keeps (each_keeps (each_keeps (State.modChan_keeps hyp) (fun _ _ => countHealed_keeps (.refl _))) (fun _ _ => ?_))
  split
  · exact retire_keeps (State.modAsk_keeps (homeEffect_keeps (Keeps.ite (State.modAsk_keeps (State.bump_keeps (.refl _))) (State.bump_keeps (.refl
      _)))))
  · exact State.bump_keeps (.refl _)

theorem planOverRed_keeps {α : State} {a : Nat} {s : State} (hyp : Keeps α s) : Keeps α (planOverRed a s) := by
  unfold planOverRed
  split
  · exact raiseAt_keeps (State.bump_keeps hyp)
  · exact hyp

theorem issueDrain_keeps {α : State} {c slot : Nat} {bad preamble : Bool} {d : Due} {x : DrainLine} {cmd : Option SdiCmd} {t : Stream}
    {s : State} (hyp : Keeps α s) : Keeps α (issueDrain c slot bad preamble d x cmd t s) := by
  unfold issueDrain
  extract_lets a e loc id x side ask s1 s2 mark popped t s3 s4 s5 s6 feeds s7 s8 s9 s10 s11 stored ap entry w s12
  have h2 : Keeps α s2 := State.peak_keeps (addAsk_keeps hyp)
  have h5 : Keeps α s5 := countIf_keeps (State.bump_keeps (State.send_keeps (advance_keeps h2)))
  have h6 : Keeps α s6 := Keeps.ite (candidate_keeps h5) h5
  have h7 : Keeps α s7 := by
    dsimp only [s7]
    split
    · exact State.setFeeds_keeps h6
    · exact h6
  have h9 : Keeps α s9 := supersedeWrites_keeps (planOverRed_keeps h7)
  have h11 : Keeps α s11 := State.modChan_keeps (Keeps.ite h9 (replaceCopy_keeps h9))
  have h12 : Keeps α s12 := Keeps.ite (pushWrite_keeps h11) (Keeps.ite (State.modAsk_keeps (writeMove_keeps h11))
    (State.takeOrder_keeps (issueWrite_keeps h11)))
  exact settleDrain_keeps (wholePlaced_keeps h12)

theorem lateMask_keeps {α : State} {n : Nat} {i : LineItem} {s : State} (hyp : Keeps α s) : Keeps α (lateMask n i s) := by
  unfold lateMask
  split
  · exact hyp
  · split
    · exact Keeps.ite hyp (raiseCtx_keeps (State.modStream_keeps hyp))
    · exact hyp

theorem plannedSlot_keeps {α : State} {c slot : Nat} {bad preamble own : Bool} {n : Nat} {w : List (Option PLine)} {s : State}
    (hyp : Keeps α s) : Keeps α (plannedSlot c slot bad preamble own n w s).2 := by
  unfold plannedSlot
  extract_lets bank
  split
  · exact hyp
  · extract_lets t1
    split
    · exact keepsS_mk (State.modStream_keeps hyp)
    · exact keepsS_mk (State.modStream_keeps hyp)
    · extract_lets s1 t2 d p cmd x fit nw pair s2 s3
      have h3 : Keeps α s3 := countIf_keeps (countIf_keeps (lateMask_keeps (State.modStream_keeps hyp)))
      have slipped : Keeps α (if own then slip c n s3 else s3) := Keeps.ite (slip_keeps h3) h3
      clear_value s3
      refine keepsS_ite (fun _ => ?_) fun _ => keepsS_ite (fun _ => h3) fun _ =>
        keepsS_ite (fun _ => keepsS_mk (issueFeed_keeps h3)) fun _ => keepsS_mk slipped
      split
      · exact h3
      · exact keepsS_ite (fun _ => h3) fun _ => keepsS_ite (fun _ => keepsS_mk (issueDrain_keeps h3)) fun _ => keepsS_mk slipped

theorem lateLine_keeps {α : State} {c slot : Nat} {bad preamble : Bool} {w after : List (Option PLine)} {s : State} (hyp : Keeps α s) :
    Keeps α (lateLine c slot bad preamble w after s).2 := by
  unfold lateLine
  dsimp only
  split
  · exact hyp
  · split
    · exact Keeps.ite (settleLag_keeps (plannedSlot_keeps hyp)) hyp
    · exact hyp

theorem freeSlot_keeps {α : State} {c slot : Nat} {bad preamble : Bool} {w after : List (Option PLine)} {s : State} (hyp : Keeps α s) :
    Keeps α (freeSlot c slot bad preamble w after s) := by
  unfold freeSlot
  split
  · exact keepsS_of_eq ‹_› (lateLine_keeps hyp)
  · split
    · exact keepsS_of_eq ‹_› (openSlot_keeps (keepsS_of_eq ‹_› (lateLine_keeps hyp)))
    · exact gleanSlot_keeps (keepsS_of_eq ‹_› (openSlot_keeps (keepsS_of_eq ‹_› (lateLine_keeps hyp))))

theorem countOwn_keeps {α : State} {n : Nat} {s : State} (hyp : Keeps α s) : Keeps α (countOwn n s) := by
  unfold countOwn
  split
  · exact Keeps.ite (countIf_keeps hyp) hyp
  · exact hyp

theorem clearOnRead_keeps {α : State} {c l a : Nat} {s : State} (hyp : Keeps α s) : Keeps α (clearOnRead c l a s) :=
  Keeps.ite (State.setLay_keeps hyp) (Keeps.ite (State.setLay_keeps hyp) hyp)

theorem layMrr_keeps {α : State} {c l a : Nat} {s : State} (hyp : Keeps α s) : Keeps α (layMrr c l a s).2 := by
  unfold layMrr
  split
  · exact hyp
  · split
    · exact protoAlert_keeps hyp
    · exact clearOnRead_keeps (driveBurst_keeps hyp)

theorem issueTemp_keeps {α : State} {c slot layer : Nat} {bad : Bool} {s : State} (hyp : Keeps α s) :
    Keeps α (issueTemp c slot layer bad s) := by
  unfold issueTemp
  dsimp only
  refine State.takeOrder_keeps (State.modChan_keeps ?_)
  split
  · exact layParity_keeps (noteCmd_keeps hyp)
  · exact layMrr_keeps (noteCmd_keeps hyp)

theorem readTemp_keeps {α : State} {c slot : Nat} {bad : Bool} {after : List (Option PLine)} {s : State} (hyp : Keeps α s) :
    Keeps α (readTemp c slot bad after s).2 := by
  unfold readTemp
  dsimp only
  split
  · exact hyp
  · split
    · exact hyp
    · split
      · exact withheld_keeps hyp
      · exact issueTemp_keeps (Keeps.update hyp)

theorem issueRef_keeps {α : State} {c slot : Nat} {bad : Bool} {l big mask : Nat} {s : State} (hyp : Keeps α s) :
    Keeps α (issueRef c slot bad l big mask s) := by
  unfold issueRef
  exact driveCmd_keeps (count_keeps (State.bumpBy_keeps (State.modChan_keeps (addDebt_keeps (noteCmd_keeps hyp)))))

theorem reserveRefresh_keeps {α : State} {c slot : Nat} {bad : Bool} {after : List (Option PLine)} {s : State} (hyp : Keeps α s) :
    Keeps α (reserveRefresh c slot bad after s).2 := by
  unfold reserveRefresh
  dsimp only
  split
  · split
    · split
      · exact readTemp_keeps (withheld_keeps hyp)
      · exact issueRef_keeps (withheld_keeps hyp)
    · split
      · exact readTemp_keeps hyp
      · exact issueRef_keeps hyp
  · split
    · split
      · exact readTemp_keeps (withheld_keeps hyp)
      · exact readTemp_keeps (withheld_keeps hyp)
    · split
      · exact readTemp_keeps hyp
      · exact readTemp_keeps hyp

theorem takenSlot_keeps {α : State} {n : Nat} {s : State} (hyp : Keeps α s) : Keeps α (takenSlot n s) :=
  hyp.free (takenSlot_fr (Fr.refl 131072 s))

theorem urgentRefresh_keeps {α : State} {c slot : Nat} {bad : Bool} {s : State} (hyp : Keeps α s) : KeepsO α (urgentRefresh c slot bad s) := by
  unfold urgentRefresh
  dsimp only
  split
  · exact keepsO_none
  · exact keepsO_some (raise_keeps (count_keeps (State.bump_keeps (issueRef_keeps hyp))))

theorem endOwnSlot_keeps {α : State} {n : Nat} {s : State} (hyp : Keeps α s) : Keeps α (endOwnSlot n s) := by
  unfold endOwnSlot
  split
  · exact hyp
  · exact State.setOb_keeps (State.modStream_keeps hyp)

theorem colPosition_keeps {α : State} {c slot : Nat} {bad preamble : Bool} {w after : List (Option PLine)} {s : State} (hyp : Keeps α s) :
    Keeps α (colPosition c slot bad preamble w after s) := by
  unfold colPosition
  split
  rename_i ty n _
  extract_lets taken planned finished
  have closed {t : State} (h : Keeps α t) : Keeps α (finished t) := Keeps.ite (endOwnSlot_keeps h) h
  have took {t : State} (h : Keeps α t) : Keeps α (if planned then takenSlot n t else t) := Keeps.ite (takenSlot_keeps h) h
  split
  · rename_i t refresh
    have h1 : Keeps α t := keepsO_of_eq refresh (urgentRefresh_keeps hyp)
    have h2 := takenSlot_keeps (n := n) (State.modChan_keeps (c := c) (f := fun x => { x with busyNext := false }) h1)
    exact Keeps.ite (closed (Keeps.ite (slip_keeps h2) h2)) (Keeps.ite (closed h2) (State.modChan_keeps h1))
  · refine Keeps.ite (Keeps.ite (closed (takenSlot_keeps (State.modChan_keeps hyp))) (State.modChan_keeps hyp))
      (Keeps.ite (reserveRefresh_keeps hyp) ?_)
    clear_value taken
    split
    · exact closed (reserveRefresh_keeps (took hyp))
    · exact closed (took hyp)
    · refine Keeps.ite (orElse_keeps (reserveRefresh_keeps hyp) fun _ => gleanSlot_keeps (.refl _)) (Keeps.ite (Keeps.ite (calSlot_keeps hyp)
        (orElse_keeps (readTemp_keeps hyp) fun _ => gleanSlot_keeps (.refl _))) (Keeps.ite ?_ (Keeps.ite hyp (freeSlot_keeps hyp))))
      split
      rename_i done t e
      have h3 : Keeps α t := keepsS_of_eq e (plannedSlot_keeps (countOwn_keeps hyp))
      exact closed (Keeps.ite (countIf_keeps h3) (freeSlot_keeps (countIf_keeps h3)))

theorem takeSteer_keeps {α : State} {c : Nat} {s : State} (hyp : Keeps α s) : Keeps α (takeSteer c s) :=
  hyp.free (takeSteer_fr (Fr.refl 8388608 s))

theorem rowPosition_keeps {α : State} {c slot : Nat} {bad : Bool} {w : List (Option PLine)} {s : State} (hyp : Keeps α s) :
    Keeps α (rowPosition c slot bad w s) := by
  unfold rowPosition
  dsimp only
  refine Keeps.ite hyp ?_
  split
  · exact issueRow_keeps (State.modChan_keeps hyp)
  · refine Keeps.ite (issueRow_keeps (State.modChan_keeps hyp)) ?_
    split
    · exact issueRow_keeps hyp
    · split
      · exact issueRow_keeps hyp
      · split
        · exact takeSteer_keeps (issueRow_keeps hyp)
        · split
          · split
            · exact issueRow_keeps (withheldMany_keeps hyp)
            · exact withheldMany_keeps hyp
          · split
            · exact hyp
            · split
              · exact hyp
              · exact Keeps.ite hyp (Keeps.ite (issueRow_keeps hyp) (withheld_keeps hyp))

theorem pushRead_keeps {α : State} {who : Reader} {a rank : Nat} {port : Option Nat} {region : Option (Nat × Nat)} {s : State} (hyp : Keeps α s) :
    Keeps α (pushRead who a rank port region s) :=
  syncDepth_keeps (State.takeOrder_keeps (State.modChan_keeps hyp))

theorem prefetch_keeps {α : State} {c slot : Nat} {s : State} (hyp : Keeps α s) : Keeps α (prefetch c slot s) := by
  unfold prefetch
  refine fold_keeps hyp (fun _ _ => ?_)
  split
  · exact (.refl _)
  · exact Keeps.ite (.refl _) (pushRead_keeps (State.setPath_keeps (.refl _)))

theorem nextMode_keeps {α : State} {c slot : Nat} {s : State} (hyp : Keeps α s) : Keeps α (nextMode c slot s) := by
  unfold nextMode
  refine Keeps.ite (State.modChan_keeps hyp) ?_
  split
  · exact State.bump_keeps (State.modChan_keeps hyp)
  · exact State.bump_keeps (State.modChan_keeps hyp)
  · exact State.bump_keeps (State.modChan_keeps hyp)
  · exact State.modChan_keeps hyp

theorem serveMove_keeps {α : State} {c slot : Nat} {s : State} (hyp : Keeps α s) : Keeps α (serveMove c slot s) := by
  unfold serveMove
  refine syncDepth_keeps (each_keeps (each_keeps (each_keeps hyp (fun _ _ => ?_)) (fun _ _ => moveRead_keeps (State.modChan_keeps (.refl _))))
    (fun _ _ => moveRead_keeps (State.modChan_keeps (.refl _))))
  split
  · exact retire_keeps (State.modAsk_keeps (countHealed_keeps (writeMove_keeps (State.modChan_keeps (.refl _)))))
  · exact countHealed_keeps (writeMove_keeps (State.modChan_keeps (.refl _)))

theorem passSlot_keeps {α : State} {c slot : Nat} {s : State} (hyp : Keeps α s) : Keeps α (passSlot c slot s) := by
  unfold passSlot
  split
  · exact hyp
  · exact Keeps.ite hyp (endOwnSlot_keeps (takenSlot_keeps hyp))

theorem channelSlot_keeps {α : State} {c fault : Nat} {s : State} (hyp : Keeps α s) : Keeps α (channelSlot c fault s) :=
  Keeps.ite hyp (Keeps.ite (passSlot_keeps (State.modChan_keeps hyp)) (count_keeps (colPosition_keeps (rowPosition_keeps (prefetch_keeps
    (count_keeps (count_keeps (serveMove_keeps (nextMode_keeps (ageReads_keeps (beginWindow_keeps (State.modChan_keeps hyp))))))))))))

theorem endSettle_keeps {α s : State} (hyp : Keeps α s) : Keeps α (endSettle s) :=
  answerHanded_keeps (each_keeps (Keeps.update hyp) (fun _ _ => sendParcel_keeps (.refl _)))

theorem settleLead_keeps {α s : State} (hyp : Keeps α s) : Keeps α (settleLead s) :=
  Keeps.ite hyp (Keeps.ite (Keeps.ite hyp (endSettle_keeps hyp)) (Keeps.ite hyp (Keeps.ite (endSettle_keeps hyp) (each_keeps
    (State.setWrites_keeps (Keeps.update hyp)) (fun _ _ => each_keeps (.refl _) (fun _ _ => sendObject_keeps (.refl _)))))))

theorem leadLost_keeps {α s : State} (hyp : Keeps α s) : Keeps α (leadLost s) := by
  unfold leadLost
  dsimp only
  exact Keeps.ite (settleLead_keeps (Keeps.update (State.setWrites_keeps hyp))) (sendParcel_keeps (each_keeps (Keeps.update (State.setWrites_keeps
    hyp)) (fun _ _ => sendObject_keeps (.refl _))))

theorem newLead_keeps {α : State} {lead : Nat} {s : State} (hyp : Keeps α s) : Keeps α (newLead lead s) :=
  leadLost_keeps (State.setSet_keeps hyp)

theorem leadChange_keeps {α : State} {n : Nat} {s : State} (hyp : Keeps α s) : Keeps α (leadChange n s) :=
  Keeps.ite hyp (newLead_keeps (raiseNode_keeps hyp))

theorem lostTarget_keeps {α : State} {n obj : Nat} {t : Stream} {s : State} (hyp : Keeps α s) : Keeps α (lostTarget n obj t s) :=
  fenceContext_keeps (raiseCtx_keeps hyp)

theorem loseTargets_keeps {α : State} {n : Nat} {s : State} (hyp : Keeps α s) : Keeps α (loseTargets n s) := by
  unfold loseTargets
  refine each_keeps hyp (fun _ _ => ?_)
  split
  · exact lostTarget_keeps (.refl _)
  · exact (.refl _)

theorem dropWatcher_keeps {α : State} {node : Nat} {s : State} (hyp : Keeps α s) : Keeps α (dropWatcher node s) :=
  each_keeps (Keeps.update hyp) (fun _ _ => finish_keeps (.refl _))

theorem dropRemote_keeps {α : State} {n : Nat} {s : State} (hyp : Keeps α s) : Keeps α (dropRemote n s) :=
  State.setAsks_keeps (each_keeps hyp (fun _ _ => dropAsk_keeps (.refl _)))

theorem clearPeer_keeps {α : State} {n : Nat} {s : State} (hyp : Keeps α s) : Keeps α (clearPeer n s) :=
  hyp.free (clearPeer_fr (Fr.refl 256 s))

theorem loseMember_keeps {α : State} {n : Nat} {s : State} (hyp : Keeps α s) : Keeps α (loseMember n s) :=
  clearPeer_keeps (dropRemote_keeps (dropWatcher_keeps (loseTargets_keeps (each_keeps (raiseNode_keeps (computeRoutes_keeps (Keeps.update
    (State.setSet_keeps hyp)))) (fun _ _ => Keeps.ite (dropAsk_keeps (finish_keeps (.refl _))) (finish_keeps (.refl _)))))))

theorem nodeLost_keeps {α : State} {n : Nat} {s : State} (hyp : Keeps α s) : Keeps α (nodeLost n s) :=
  Keeps.ite hyp (Keeps.ite (serveAll_keeps (Keeps.ite (settleLead_keeps (each_keeps (breakContinuity_keeps (Keeps.ite (leadChange_keeps
    (each_keeps hyp (fun _ _ => loseMember_keeps (.refl _)))) (each_keeps hyp (fun _ _ => loseMember_keeps (.refl _))))) (fun _ _ => each_keeps
    (.refl _) (fun _ _ => ackOrder_keeps (.refl _))))) (breakContinuity_keeps (Keeps.ite (leadChange_keeps (each_keeps hyp
    (fun _ _ => loseMember_keeps (.refl _)))) (each_keeps hyp (fun _ _ => loseMember_keeps (.refl _))))))) (enterHalted_keeps (raiseNode_keeps
    (State.setSet_keeps (Keeps.ite (settleLead_keeps (each_keeps (breakContinuity_keeps (Keeps.ite (leadChange_keeps (each_keeps hyp
    (fun _ _ => loseMember_keeps (.refl _)))) (each_keeps hyp (fun _ _ => loseMember_keeps (.refl _))))) (fun _ _ => each_keeps (.refl _)
    (fun _ _ => ackOrder_keeps (.refl _))))) (breakContinuity_keeps (Keeps.ite (leadChange_keeps (each_keeps hyp (fun _ _ => loseMember_keeps
    (.refl _)))) (each_keeps hyp (fun _ _ => loseMember_keeps (.refl _))))))))))

theorem findLost_keeps {α : State} {n : Nat} {s : State} (hyp : Keeps α s) : Keeps α (findLost n s) :=
  Keeps.ite hyp (nodeLost_keeps (each_keeps hyp (fun _ _ => sendControl_keeps (.refl _))))

theorem checkLoss_keeps {α s : State} (hyp : Keeps α s) : Keeps α (checkLoss s) :=
  Keeps.ite (each_keeps hyp (fun _ _ => findLost_keeps (.refl _))) hyp

theorem checkerFails_keeps {α : State} {bit_ inst : Nat} {s : State} (hyp : Keeps α s) : Keeps α (checkerFails bit_ inst s) :=
  raise_keeps (State.setOb_keeps hyp)

theorem chunkGetAct_keeps {α : State} {r : Req} {seq : Nat} {a : State} (hyp : Keeps α a) : Keeps α (chunkGetAct r seq a) :=
  Keeps.ite (spdmError_keeps hyp) (spdmReply_keeps (State.setSpdm_keeps hyp))

theorem chunkSendAct_keeps {α : State} {r : Req} {seq : Nat} {last : Bool} {data : List Byte} {a : State} (hyp : Keeps α a) :
    Keeps α (chunkSendAct r seq last data a) :=
  Keeps.ite (spdmError_keeps hyp) (spdmReply_keeps (State.setSpdm_keeps hyp))

theorem takeClass_keeps {α : State} {new c : Nat} {s : State} (hyp : Keeps α s) : Keeps α (takeClass new c s) :=
  showDebt_keeps (State.modChan_keeps (State.setOb_keeps hyp))

theorem classChange_keeps {α : State} {u : Nat} {s : State} (hyp : Keeps α s) : Keeps α (classChange u s) := by
  unfold classChange
  dsimp only
  refine Keeps.ite hyp ?_
  split
  · exact Keeps.ite (startDerate_keeps (raise_keeps (each_keeps hyp (fun _ _ => takeClass_keeps (.refl _))))) (raise_keeps (each_keeps hyp
      (fun _ _ => takeClass_keeps (.refl _))))
  · exact raise_keeps (each_keeps hyp (fun _ _ => takeClass_keeps (.refl _)))

theorem clearArray_keeps {α : State} {p : Nat} {s : State} (hyp : Keeps α s) : Keeps α (clearArray p s) :=
  hyp.free (clearArray_fr (Fr.refl 524288 s))

theorem linkReset_keeps {α : State} {h : Nat} {s : State} (hyp : Keeps α s) : Keeps α (linkReset h s) :=
  Keeps.ite hyp (State.send_keeps (raise_keeps (State.bump_keeps (State.setPort_keeps hyp))))

theorem fellBack_keeps {α : State} {inst : Nat} {s : State} (hyp : Keeps α s) : Keeps α (fellBack inst s) :=
  raise_keeps hyp

theorem sheafFallback_keeps {α : State} {u : Nat} {s : State} (hyp : Keeps α s) : Keeps α (sheafFallback u s) :=
  Keeps.ite (Keeps.ite (fellBack_keeps (setDomain_keeps hyp)) (State.setClk_keeps (setDomain_keeps hyp))) (Keeps.ite (Keeps.ite (fellBack_keeps
    (setDomain_keeps hyp)) (State.setClk_keeps (setDomain_keeps hyp))) hyp)

end Sys2Proof.Machine


/-!
PROOF. O58: the home operations of the dictionary, and the operations that use them, keep what no command may change (see Laws/FrameHomes).
-/
namespace Sys2Proof.Machine

-- One proof after another, each on a stack of its own, for the check's memory.
set_option Elab.async false

theorem noteEscapes_keeps {α s : State} (hyp : Keeps α s) : Keeps α (noteEscapes s) :=
  hyp.free (noteEscapes_fr (Fr.refl 131072 s))

theorem redFill_keeps {α : State} {a : Nat} {line : Option (Nat × Nat)} {s : State} (hyp : Keeps α s) : Keeps α (redFill a line s) := by
  unfold redFill
  split
  · refine Keeps.ite hyp ?_
    split
    · exact State.modRed_keeps hyp
    · exact breakRed_keeps hyp
  · exact hyp

theorem endInternal_keeps {α : State} {q : Ask} {s : State} (hyp : Keeps α s) : Keeps α (endInternal q s) := by
  unfold endInternal
  dsimp only
  split
  · refine Keeps.ite (retire_keeps (State.modAsk_keeps (Keeps.ite hyp (State.modAsk_keeps hyp)))) ?_
    split
    · exact fenceContext_keeps (retire_keeps (State.modAsk_keeps (Keeps.ite hyp (State.modAsk_keeps hyp))))
    · exact retire_keeps (State.modAsk_keeps (Keeps.ite hyp (State.modAsk_keeps hyp)))
  · exact retire_keeps (State.modAsk_keeps (settleDrain_keeps (settleDrain_keeps hyp)))
  · split
    · exact Keeps.ite (State.modAsk_keeps hyp) (signalObject_keeps (retire_keeps (State.modAsk_keeps (Keeps.ite hyp (State.modAsk_keeps hyp)))))
    · exact hyp
  · exact retire_keeps (State.modAsk_keeps (redFill_keeps hyp))
  · exact retire_keeps (State.modAsk_keeps (Keeps.ite hyp (State.modAsk_keeps hyp)))
  · exact hyp

theorem endInternals_keeps {α s : State} (hyp : Keeps α s) : Keeps α (endInternals s) :=
  each_keeps (each_keeps hyp (fun _ _ => endInternal_keeps (.refl _))) (fun _ _ => finish_keeps (.refl _))

theorem haltStep_keeps {α s : State} (hyp : Keeps α s) : Keeps α (haltStep s) :=
  Keeps.ite (haltChannels_keeps hyp) hyp

theorem pushUrgent_keeps {α : State} {who : Writer} {a : Nat} {loc : Loc} {data info : Nat} {s : State} (hyp : Keeps α s) :
    Keeps α (pushUrgent who a loc data info s) :=
  hyp.free (pushUrgent_fr (Fr.refl 262144 s))

theorem freeRec_keeps {α : State} {c num : Nat} {s : State} (hyp : Keeps α s) : Keeps α (freeRec c num s) :=
  hyp.free (freeRec_fr (Fr.refl 262144 s))

theorem placeRecovery_keeps {α : State} {c : Nat} {s : State} (hyp : Keeps α s) : Keeps α (placeRecovery c s) := by
  unfold placeRecovery
  refine each_keeps hyp (fun _ _ => ?_)
  split
  · exact freeRec_keeps (.refl _)
  · exact Keeps.ite (.refl _) (Keeps.ite (freeRec_keeps (Keeps.ite (healedNow_keeps (.refl _)) (.refl _))) (Keeps.ite (.refl _) (freeRec_keeps
      (pushUrgent_keeps (.refl _)))))

theorem modRec_keeps {α : State} {c num : Nat} {f : Rec → Rec} {s : State} (hyp : Keeps α s) : Keeps α (modRec c num f s) :=
  hyp.free (modRec_fr (Fr.refl 262144 s))

theorem retArrived_keeps {α : State} {n num : Nat} {l : Option (Nat × Nat)} {s : State} (hyp : Keeps α s) : Keeps α (retArrived n num l s) :=
  hyp.free (retArrived_fr (Fr.refl 262144 s))

theorem moveArrived_keeps {α : State} {c i : Nat} {l : Nat × Nat} {s : State} (hyp : Keeps α s) : Keeps α (moveArrived c i l s) :=
  hyp.free (moveArrived_fr (Fr.refl 262144 s))

theorem sampleData_keeps {α : State} {kind id num : Nat} {s : State} (hyp : Keeps α s) : Keeps α (sampleData kind id num s) :=
  modBuilding_keeps hyp

theorem mergeFill_keeps {α : State} {c wid : Nat} {l : Nat × Nat} {s : State} (hyp : Keeps α s) : Keeps α (mergeFill c wid l s) := by
  unfold mergeFill
  split
  · exact hyp
  · refine Keeps.ite ?_ ?_
    · split
      · exact retire_keeps (finish_keeps (State.modAsk_keeps (syncDepth_keeps (raiseAt_keeps (State.bump_keeps (State.modChan_keeps hyp))))))
      · exact syncDepth_keeps (raiseAt_keeps (State.bump_keeps (State.modChan_keeps hyp)))
    · split
      · refine wholePlaced_keeps ?_
        split
        · exact Keeps.ite (allocWrite_keeps (State.modChan_keeps hyp)) (State.modChan_keeps hyp)
        · exact State.modChan_keeps hyp
      · exact State.modChan_keeps hyp

theorem deliverAsk_keeps {α : State} {id : Nat} {l : Nat × Nat} {s : State} (hyp : Keeps α s) : Keeps α (deliverAsk id l s) := by
  unfold deliverAsk
  split
  · exact hyp
  · split
    · exact Keeps.ite (addFill_keeps (State.bump_keeps hyp)) (addFill_keeps hyp)
    · exact Keeps.ite (addFill_keeps (State.bump_keeps hyp)) (addFill_keeps hyp)
    · exact Keeps.ite (addFill_keeps hyp) (finishRead_keeps hyp)

theorem deliverLine_keeps {α : State} {c a : Nat} {who : Reader} {over_ : List WrEntry} {l : Nat × Nat} {s : State} (hyp : Keeps α s) :
    Keeps α (deliverLine c a who over_ l s) := by
  unfold deliverLine
  dsimp only
  split
  · exact deliverAsk_keeps (sampleData_keeps hyp)
  · exact mergeFill_keeps hyp
  · exact feedLine_keeps (sampleData_keeps hyp)
  · exact Keeps.ite (State.bump_keeps hyp) hyp
  · exact moveArrived_keeps (Keeps.ite (State.bump_keeps hyp) hyp)
  · exact retArrived_keeps (Keeps.ite (State.bump_keeps hyp) hyp)
  · exact hyp
  · exact hyp
  · exact hyp

theorem joinRec_keeps {α : State} {c : Nat} {who : Reader} {f : Flight} {s : State} (hyp : Keeps α s) : Keeps α (joinRec c who f s) := by
  unfold joinRec
  dsimp only
  split
  · split
    · exact deliverLine_keeps hyp
    · exact modRec_keeps hyp
  · exact Keeps.ite (State.modChan_keeps hyp) (State.takeOrder_keeps (State.modChan_keeps hyp))

theorem takeWaiting_keeps {α : State} {c : Nat} {s : State} (hyp : Keeps α s) : Keeps α (takeWaiting c s) := by
  unfold takeWaiting
  dsimp only
  refine each_keeps hyp (fun _ _ => ?_)
  split
  · exact (.refl _)
  · exact Keeps.ite (.refl _) (joinRec_keeps (State.modChan_keeps (.refl _)))

theorem pump_keeps {α s : State} (hyp : Keeps α s) : Keeps α (pump s) :=
  haltStep_keeps (endInternals_keeps (serveAll_keeps (noteEscapes_keeps (each_keeps hyp (fun _ _ => takeWaiting_keeps (placeRecovery_keeps (.refl
    _)))))))

theorem markStale_keeps {α : State} {b : Nat} {s : State} (hyp : Keeps α s) : Keeps α (markStale b s) := by
  unfold markStale
  split
  · exact baleStale_keeps (State.modBale_keeps (Keeps.ite hyp (advanceLedger_keeps hyp)))
  · exact raiseNode_keeps (State.bump_keeps (advanceLedger_keeps hyp))
  · exact denyBale_keeps hyp

theorem farDown_keeps {α s : State} (hyp : Keeps α s) : Keeps α (farDown s) := by
  unfold farDown
  refine Keeps.ite hyp (pump_keeps (State.setFar_keeps (emptyPort_keeps (each_keeps (raiseNode_keeps (State.setOb_keeps hyp))
    (fun _ _ => markStale_keeps ?_)))))
  split
  · exact each_keeps (.refl _) (fun _ _ => dropReader_keeps (.refl _))
  · exact (.refl _)

theorem setKeeper_keeps {α : State} {src div : Nat} {s : State} (hyp : Keeps α s) : Keeps α (setKeeper src div s) :=
  State.setOb_keeps (State.setClk_keeps hyp)

theorem keeperFallback_keeps {α s : State} (hyp : Keeps α s) : Keeps α (keeperFallback s) :=
  Keeps.ite (fellBack_keeps (setKeeper_keeps hyp)) (Keeps.ite (fellBack_keeps (setKeeper_keeps hyp)) (Keeps.ite (fellBack_keeps (setKeeper_keeps
    hyp)) (State.setClk_keeps hyp)))

theorem tripEffect_keeps {α : State} {m : Nat} {s : State} (hyp : Keeps α s) : Keeps α (tripEffect m s) := by
  unfold tripEffect
  split
  · exact enterHalted_keeps (each_keeps (Keeps.ite (each_keeps (each_keeps hyp (fun _ _ => State.setSource_keeps (.refl _))) (fun _ _ => Keeps.ite
      (sheafFallback_keeps (.refl _)) (.refl _))) (Keeps.ite (keeperFallback_keeps (State.setSource_keeps (each_keeps (each_keeps hyp
      (fun _ _ => State.setSource_keeps (.refl _))) (fun _ _ => Keeps.ite (sheafFallback_keeps (.refl _)) (.refl _))))) (State.setSource_keeps
      (each_keeps (each_keeps hyp (fun _ _ => State.setSource_keeps (.refl _))) (fun _ _ => Keeps.ite (sheafFallback_keeps (.refl _)) (.refl
      _)))))) (fun _ _ => Keeps.ite (linkReset_keeps (.refl _)) (.refl _)))
  · exact State.setSource_keeps (Keeps.ite (keeperFallback_keeps hyp) hyp)
  · exact each_keeps hyp (fun _ _ => Keeps.ite (sheafFallback_keeps (.refl _)) (.refl _))
  · exact Keeps.ite (keeperFallback_keeps hyp) hyp
  · exact Keeps.ite (keeperFallback_keeps hyp) hyp
  · exact Keeps.ite (keeperFallback_keeps hyp) hyp
  · exact farDown_keeps hyp
  · exact Keeps.ite (Keeps.ite hyp (singleFault_keeps (sheafFallback_keeps (State.setClk_keeps hyp)) (fun _ => each_keeps (.refl _)
      (fun _ _ => channelFault_keeps (.refl _))))) (Keeps.ite (linkReset_keeps hyp) hyp)

theorem clockTrip_keeps {α : State} {m : Nat} {s : State} (hyp : Keeps α s) : Keeps α (clockTrip m s) :=
  tripEffect_keeps (raise_keeps (State.bump_keeps (State.setSource_keeps hyp)))

theorem coalesceAged_keeps {α s : State} (hyp : Keeps α s) : Keeps α (coalesceAged s) :=
  each_keeps hyp (fun _ _ => writeBale_keeps (.refl _))

theorem deferTide_keeps {α s : State} (hyp : Keeps α s) : Keeps α (deferTide s) :=
  Keeps.ite (raiseNode_keeps (unarm_keeps (State.setOb_keeps hyp))) (State.setPlans_keeps (State.setOb_keeps (State.setOb_keeps hyp)))

theorem commitTide_keeps {α s : State} (hyp : Keeps α s) : Keeps α (commitTide s) :=
  hyp.free (commitTide_fr (Fr.refl 65536 s))

theorem commitPoint_keeps {α s : State} (hyp : Keeps α s) : Keeps α (commitPoint s) :=
  Keeps.ite hyp (Keeps.ite (commitTide_keeps (flood_keeps hyp)) (deferTide_keeps (raiseNode_keeps (flood_keeps hyp))))

theorem startGrace_keeps {α : State} {st : Nat} {s : State} (hyp : Keeps α s) : Keeps α (startGrace st s) :=
  Keeps.ite hyp (State.setOb_keeps (State.setOb_keeps (State.setHeat_keeps hyp)))

theorem takeLevel_keeps {α : State} {st new : Nat} {s : State} (hyp : Keeps α s) : Keeps α (takeLevel st new s) := by
  unfold takeLevel
  refine Keeps.ite hyp (Keeps.ite (Keeps.ite (startDerate_keeps (Keeps.ite (startGrace_keeps ?_) (endGrace_keeps ?_))) (Keeps.ite
    (startGrace_keeps ?_) (endGrace_keeps ?_))) (Keeps.ite (startDerate_keeps (startGrace_keeps (raise_keeps (driveHeat_keeps (State.setOb_keeps
    hyp))))) (endGrace_keeps (raise_keeps (driveHeat_keeps (State.setOb_keeps hyp))))))
  · split
    · exact raise_keeps (driveHeat_keeps (State.setOb_keeps hyp))
    · exact driveHeat_keeps (State.setOb_keeps hyp)
  · split
    · exact raise_keeps (driveHeat_keeps (State.setOb_keeps hyp))
    · exact driveHeat_keeps (State.setOb_keeps hyp)
  · split
    · exact raise_keeps (driveHeat_keeps (State.setOb_keeps hyp))
    · exact driveHeat_keeps (State.setOb_keeps hyp)
  · split
    · exact raise_keeps (driveHeat_keeps (State.setOb_keeps hyp))
    · exact driveHeat_keeps (State.setOb_keeps hyp)

theorem emergency_keeps {α : State} {st : Nat} {s : State} (hyp : Keeps α s) : Keeps α (emergency st s) :=
  breakContinuity_keeps (each_keeps (State.setHeat_keeps (takeLevel_keeps hyp)) (fun _ _ => Keeps.ite (.refl _) (drainChannel_keeps (.refl _))))

theorem levelFive_keeps {α : State} {st n : Nat} {s : State} (hyp : Keeps α s) : Keeps α (levelFive st n s) :=
  raise_keeps (endGrace_keeps (State.setOb_keeps hyp))

theorem reachTrip_keeps {α s : State} (hyp : Keeps α s) : Keeps α (reachTrip s) := by
  unfold reachTrip
  refine each_keeps hyp (fun _ _ => ?_)
  split
  · exact Keeps.ite (levelFive_keeps (.refl _)) (.refl _)
  · exact (.refl _)

theorem trip_keeps {α : State} {x : TripCause} {s : State} (hyp : Keeps α s) : Keeps α (trip x s) := by
  unfold trip
  refine Keeps.ite (reachTrip_keeps hyp) (each_keeps ?_ (fun _ _ => driveHeat_keeps (.refl _)))
  split
  · exact Keeps.update (State.setHeat_keeps (reachTrip_keeps (levelFive_keeps hyp)))
  · exact Keeps.update (State.setHeat_keeps (reachTrip_keeps (raise_keeps hyp)))

theorem comparators_keeps {α s : State} (hyp : Keeps α s) : Keeps α (comparators s) := by
  unfold comparators
  refine Keeps.ite hyp ?_
  split
  · exact trip_keeps hyp
  · refine each_keeps hyp (fun _ _ => ?_)
    split
    · exact Keeps.ite (emergency_keeps (.refl _)) (.refl _)
    · exact (.refl _)

theorem sendDone_keeps {α : State} {q : Ask} {s : State} (hyp : Keeps α s) : Keeps α (sendDone q s) :=
  hyp.free (sendDone_fr (Fr.refl 256 s))

theorem setOwnLink_keeps {α : State} {h code : Nat} {s : State} (hyp : Keeps α s) : Keeps α (setOwnLink h code s) :=
  Keeps.ite hyp (Keeps.ite (flood_keeps (refreshView_keeps (State.setSet_keeps hyp))) (flood_keeps (refreshView_keeps (State.setSet_keeps hyp))))

theorem malformedParcel_keeps {α : State} {h : Nat} {sequenced : Bool} {s : State} (hyp : Keeps α s) :
    Keeps α (malformedParcel h sequenced s) :=
  Keeps.ite (raise_keeps (State.bump_keeps hyp)) (Keeps.ite (setOwnLink_keeps (State.setPort_keeps (raise_keeps (State.bump_keeps hyp))))
    (linkReset_keeps (State.setPort_keeps (raise_keeps (State.bump_keeps hyp)))))

theorem handedBack_keeps {α : State} {h : Nat} {hdr : Hdr} {s : State} (hyp : Keeps α s) : Keeps α (handedBack h hdr s) := by
  unfold handedBack
  dsimp only
  split
  · exact hyp
  · split
    · exact Keeps.ite (answer_keeps (malformedParcel_keeps (State.setWrites_keeps hyp))) (answer_keeps (State.setWrites_keeps hyp))
    · exact State.setWrites_keeps hyp

theorem completionTaken_keeps {α : State} {h : Nat} {hdr : Hdr} {body : List Byte} {s : State} (hyp : Keeps α s) :
    Keeps α (completionTaken h hdr body s) := by
  unfold completionTaken
  refine Keeps.ite (handedBack_keeps hyp) ?_
  split
  · exact hyp
  · exact Keeps.ite hyp (Keeps.ite (serveAll_keeps (answerInternal_keeps (sendDone_keeps (finish_keeps (Keeps.ite (malformedParcel_keeps hyp)
      hyp))))) (serveAll_keeps (Keeps.ite (startChain_keeps (finish_keeps (Keeps.ite (malformedParcel_keeps hyp) hyp))) (finish_keeps (Keeps.ite
      (malformedParcel_keeps hyp) hyp)))))

theorem confirmWrite_keeps {α : State} {c : Nat} {u : Unconf} {s : State} (hyp : Keeps α s) : Keeps α (confirmWrite c u s) := by
  unfold confirmWrite
  split
  · refine retire_keeps (State.modAsk_keeps ?_)
    split
    · exact Keeps.ite (sampleEnd_keeps (sampleData_keeps (State.modChan_keeps hyp))) (State.modChan_keeps hyp)
    · exact State.modChan_keeps hyp
  · exact State.modChan_keeps hyp

theorem contribute_keeps {α : State} {a : Nat} {s : State} (hyp : Keeps α s) : Keeps α (contribute a s) := by
  unfold contribute
  dsimp only
  split
  · exact hyp
  · exact Keeps.ite hyp (Keeps.ite (beginClose_keeps (State.modRed_keeps (applyAll_keeps hyp))) (State.modRed_keeps (applyAll_keeps hyp)))

theorem cooledRestart_keeps {α s : State} (hyp : Keeps α s) : Keeps α (cooledRestart s) :=
  Keeps.ite hyp (raiseNode_keeps (State.setHeat_keeps hyp))

theorem copyChannel_keeps {α : State} {src : Nat} {dst : Nat} {s : State} (hyp : Keeps α s) :
    Keeps α (copyChannel src dst s) := by
  unfold copyChannel
  dsimp only
  refine each_keeps ?_ fun _ s => each_keeps (Keeps.refl s) fun _ s => (Keeps.refl s).memory (writePhys_memory ..)
  refine hyp.memory (copy_memory src dst ?_ ?_)
  · dsimp only [copyFills]
  · dsimp only [copyCells, cellAt, chanCells]
    rfl

theorem copyBackDone_keeps {α s : State} (hyp : Keeps α s) : Keeps α (copyBackDone s) := by
  unfold copyBackDone
  split
  · exact hyp
  · exact Keeps.ite hyp (raise_keeps (State.setPath_keeps (copyChannel_keeps hyp)))

theorem copyFailed_keeps {α : State} {area index : Nat} {copyB : Bool} {s : State} (hyp : Keeps α s) :
    Keeps α (copyFailed area index copyB s) :=
  Keeps.ite (State.setUpd_keeps (State.setOb_keeps (raiseNode_keeps (State.bump_keeps hyp)))) (Keeps.ite (Keeps.ite (enterRecovery_keeps
    (raiseNode_keeps (State.setUpd_keeps (Keeps.update (State.setOb_keeps (raiseNode_keeps (State.bump_keeps hyp))))))) (State.setOb_keeps
    (raiseNode_keeps (State.bump_keeps hyp)))) (Keeps.ite (recordRefused_keeps (State.setRecordArea_keeps (State.setOb_keeps (raiseNode_keeps
    (State.bump_keeps hyp))))) (Keeps.ite (raise_keeps (State.setRecordArea_keeps (State.setOb_keeps (raiseNode_keeps (State.bump_keeps hyp)))))
    (State.setRecordArea_keeps (State.setOb_keeps (raiseNode_keeps (State.bump_keeps hyp)))))))

theorem coreOff_keeps {α s : State} (hyp : Keeps α s) : Keeps α (coreOff s) :=
  State.setCache_keeps (stopProcs_keeps (each_keeps (State.setClk_keeps hyp) (fun _ _ => setDomain_keeps (.refl _))))

theorem countEscape_keeps {α : State} {u a : Nat} {cs : Cause} {e : Escaped} {s : State} (hyp : Keeps α s) :
    Keeps α (countEscape u a cs e s) := by
  unfold countEscape
  split
  · exact raiseAt_keeps (State.bump_keeps hyp)
  · exact raiseAt_keeps (State.bump_keeps hyp)
  · exact Keeps.ite (countIf_keeps (countIf_keeps (countIf_keeps (State.bumpBy_keeps (State.bumpBy_keeps (State.bump_keeps (State.bump_keeps
      hyp))))))) (raiseAt_keeps (countIf_keeps (countIf_keeps (countIf_keeps (State.bumpBy_keeps (State.bumpBy_keeps (State.bump_keeps
      (State.bump_keeps hyp))))))))

theorem heardFrom_keeps {α : State} {req : Req} {s : State} (hyp : Keeps α s) :
    Keeps α (heardFrom req s) := by
  unfold heardFrom
  split
  · exact hyp.update (sessions := fun k => (List.length_map ..).trans_le k)
  · exact hyp

theorem countFrame_keeps {α : State} {req : Req} {s : State} (hyp : Keeps α s) : Keeps α (countFrame req s) := by
  unfold countFrame
  dsimp only
  split
  · exact State.bump_keeps (heardFrom_keeps hyp)
  · exact State.bump_keeps (Keeps.update (heardFrom_keeps hyp))
  · exact heardFrom_keeps hyp

theorem countParcel_keeps {α : State} {j h : Nat} {hdr : Hdr} {s : State} (hyp : Keeps α s) : Keeps α (countParcel j h hdr s) :=
  countIf_keeps (countIf_keeps hyp)

theorem countScales_keeps {α : State} {u a : Nat} {cs : Cause} {st : NarrowStats} {s : State} (hyp : Keeps α s) :
    Keeps α (countScales u a cs st s) :=
  Keeps.ite (countIf_keeps (State.bumpBy_keeps (State.bumpBy_keeps (State.bumpBy_keeps hyp)))) (raise_keeps (countIf_keeps (State.bumpBy_keeps
    (State.bumpBy_keeps (State.bumpBy_keeps hyp)))))

theorem overrun_keeps {α : State} {n : Nat} {t : Stream} {s : State} (hyp : Keeps α s) : Keeps α (overrun n t s) :=
  fenceContext_keeps (raiseCtx_keeps hyp)

theorem discardBeat_keeps {α : State} {t : Nat} {s : State} (hyp : Keeps α s) : Keeps α (discardBeat t s) :=
  State.setOb_keeps hyp

theorem creditBeat_keeps {α : State} {t n amount : Nat} {s : State} (hyp : Keeps α s) : Keeps α (creditBeat t n amount s) := by
  unfold creditBeat
  refine Keeps.ite hyp (Keeps.ite (discardBeat_keeps hyp) ?_)
  split
  · exact hyp
  · exact Keeps.ite hyp (Keeps.ite (overrun_keeps (State.modStream_keeps hyp)) (State.modStream_keeps hyp))

theorem crossingReopened_keeps {α : State} {x : Crossing} {s : State} (hyp : Keeps α s) : Keeps α (crossingReopened x s) :=
  Keeps.ite hyp (raise_keeps (State.setClk_keeps hyp))

theorem crossingReset_keeps {α : State} {x : Crossing} {s : State} (hyp : Keeps α s) : Keeps α (crossingReset x s) :=
  Keeps.ite hyp (each_keeps (raise_keeps (State.bump_keeps (State.setClk_keeps hyp))) (fun _ _ => refuseLater_keeps (.refl _)))

theorem debtRise_keeps {α : State} {c j : Nat} {s : State} (hyp : Keeps α s) : Keeps α (debtRise c j s) :=
  Keeps.ite hyp (Keeps.ite (addDebt_keeps (State.modChan_keeps hyp)) (State.modChan_keeps hyp))

theorem zeroSet_keeps {α : State} {cause : ZeroCause} {s : State} (hyp : Keeps α s) : Keeps α (zeroSet cause s) :=
  Keeps.ite (startZero_keeps hyp) (Keeps.ite (leadOrder_keeps hyp (fun _ _ => keepsW_done (startZero_keeps (.refl _)))) (sendObject_keeps
    (startZero_keeps hyp)))

theorem debugUnlock_keeps {α : State} {i : Nat} {s : State} (hyp : Keeps α s) : Keeps α (debugUnlock i s) :=
  Keeps.ite hyp (Keeps.ite (raiseNode_keeps hyp) (zeroSet_keeps hyp))

theorem decisionMissing_keeps {α s : State} (hyp : Keeps α s) : Keeps α (decisionMissing s) :=
  Keeps.ite (State.setPlans_keeps (raiseNode_keeps (unarm_keeps hyp))) hyp

theorem decodeOne_keeps {α : State} {op n : Nat} {act : Nat → Stream → State → State} {s : State} (hyp : Keeps α s)
    (hf_act : ∀ y0 y1 y, Keeps y (act y0 y1 y)) : Keeps α (decodeOne op n act s) := by
  unfold decodeOne
  split
  · exact hyp
  · exact Keeps.ite (Keeps.trans (State.modStream_keeps hyp) (hf_act _ _ _)) hyp

theorem decodeCmd_keeps {α : State} {op n : Nat} {act : Nat → Stream → State → State} {s : State} (hyp : Keeps α s)
    (hf_act : ∀ y0 y1 y, Keeps y (act y0 y1 y)) : KeepsR α (decodeCmd op n act s) :=
  present_keeps (decodeOne_keeps hyp (fun _ _ _ => Keeps.trans (.refl _) (hf_act _ _ _)))

theorem fillRows_keeps {α : State} {c : Nat} {block : Nat} {code : Nat} {s : State} (hyp : Keeps α s) :
    Keeps α (fillRows c block code s) :=
  each_keeps (hyp.memory (fillBlock_memory c block code s.dram)) fun _ s => each_keeps (Keeps.refl s) fun _ s =>
    (Keeps.refl s).memory (writePhys_memory ..)

theorem poisonBlock_keeps {α : State} {c block : Nat} {s : State} (hyp : Keeps α s) : Keeps α (poisonBlock c block s) :=
  fillRows_keeps hyp

theorem deepPoison_keeps {α : State} {c : Nat} {s : State} (hyp : Keeps α s) : Keeps α (deepPoison c s) :=
  Keeps.ite hyp (raise_keeps (State.modChan_keeps (each_keeps hyp (fun _ _ => poisonBlock_keeps (.refl _)))))

theorem deepVerified_keeps {α s : State} (hyp : Keeps α s) : Keeps α (deepVerified s) :=
  each_keeps (startProcs_keeps (State.setPower_keeps hyp)) (fun _ _ => beginTraining_keeps (.refl _))

theorem lateStatus_keeps {α : State} {q : Ask} {st : Nat} {s : State} (hyp : Keeps α s) : Keeps α (lateStatus q st s).2 := by
  unfold lateStatus
  split
  · refine raiseNode_keeps (countIf_keeps (State.bump_keeps ?_))
    split
    · exact State.bump_keeps hyp
    · exact hyp
  · exact hyp

theorem deliver_keeps {α : State} {port : Port} {s : State} (hyp : Keeps α s) : Keeps α (deliver port s) := by
  unfold deliver
  split
  · exact hyp
  · exact Keeps.ite (dropAsk_keeps (sendDone_keeps (sampleEnd_keeps (State.modAsk_keeps (State.send_keeps (lateStatus_keeps hyp)))))) (Keeps.ite
      (retire_keeps (sampleEnd_keeps (State.modAsk_keeps (State.send_keeps (lateStatus_keeps hyp))))) (dropAsk_keeps (sampleEnd_keeps
      (State.modAsk_keeps (State.send_keeps (lateStatus_keeps hyp))))))

theorem deliverRec_keeps {α : State} {r : Rec} {l : Nat × Nat} {s : State} (hyp : Keeps α s) : Keeps α (deliverRec r l s) :=
  each_keeps hyp (fun _ _ => deliverLine_keeps (.refl _))

theorem takeNow_keeps {α : State} {req : Req} {act : State → State} {s : State} (hyp : Keeps α s) (hf_act : ∀ y, Keeps y (act y)) :
    Keeps α (takeNow req act s) :=
  Keeps.ite (beginRequest_keeps (countFrame_keeps hyp) (fun _ => Keeps.trans (.refl _) (hf_act _))) hyp

theorem noteSecond_keeps {α : State} {req : Req} {s : State} (hyp : Keeps α s) : Keeps α (noteSecond req s) :=
  State.bump_keeps (Keeps.update hyp)

theorem takeRequest_keeps {α : State} {req : Req} {i : RequestOp} {act : State → State} {s : State} (hyp : Keeps α s)
    (hf_act : ∀ y, Keeps y (act y)) : Keeps α (takeRequest req i act s) :=
  Keeps.ite hyp (Keeps.ite (noteSecond_keeps hyp) (Keeps.ite (Keeps.ite (Keeps.update (countFrame_keeps hyp)) (State.bump_keeps hyp))
    (takeNow_keeps hyp (fun _ => Keeps.trans (.refl _) (hf_act _)))))

theorem dictWrite_keeps {α : State} {req : Req} {idx sub : Nat} {value : List Byte} {home : Home} {s : State} (hyp : Keeps α s)
    (hf_home : ∀ y0 y, KeepsW y (home y0 y)) : Keeps α (dictWrite req idx sub value home s) :=
  takeRequest_keeps hyp (fun _ => carryOut_keeps (.refl _) (fun _ _ => KeepsW.trans (.refl _) (hf_home _ _)))

theorem displacingDone_keeps {α s : State} (hyp : Keeps α s) : Keeps α (displacingDone s) := by
  unfold displacingDone
  split
  · exact hyp
  · exact Keeps.ite hyp (State.setChanState_keeps (State.setPath_keeps (State.setOb_keeps hyp)))

theorem dividerStep_keeps {α : State} {d : Nat} {s : State} (hyp : Keeps α s) : Keeps α (dividerStep d s) :=
  Keeps.ite (Keeps.ite (State.setClk_keeps hyp) hyp) (Keeps.ite (setDomain_keeps hyp) (Keeps.ite (setDomain_keeps hyp) hyp))

theorem orderReported_keeps {α : State} {hdr : Hdr} {s : State} (hyp : Keeps α s) : Keeps α (orderReported hdr s) :=
  Keeps.ite (settleLead_keeps (ackOrder_keeps hyp)) (Keeps.ite (answerHanded_keeps (Keeps.update hyp)) (settleLead_keeps (Keeps.update hyp)))

theorem doneTaken_keeps {α : State} {hdr : Hdr} {s : State} (hyp : Keeps α s) : Keeps α (doneTaken hdr s) := by
  unfold doneTaken
  refine Keeps.ite (orderReported_keeps hyp) ?_
  split
  · exact Keeps.ite hyp (serveAll_keeps (retire_keeps (sampleEnd_keeps (State.modAsk_keeps hyp))))
  · exact hyp

theorem segAbort_keeps {α : State} {r : Req} {idx sub : Nat} {s : State} (hyp : Keeps α s) : Keeps α (segAbort r idx sub s) := by
  unfold segAbort
  split
  · exact answer_keeps hyp
  · exact answer_keeps (State.setSegments_keeps hyp)

theorem segEnd_keeps {α : State} {r : Req} {idx sub crc : Nat} {s : State} (hyp : Keeps α s) : Keeps α (segEnd r idx sub crc s) := by
  unfold segEnd
  split
  · exact answer_keeps hyp
  · exact Keeps.ite (answer_keeps hyp) (Keeps.ite (answer_keeps (Keeps.ite (raiseNode_keeps (State.setSegments_keeps hyp))
      (State.setSegments_keeps hyp))) (carryOut_keeps (State.setSegments_keeps hyp) (fun _ _ => homeOf_keeps (.refl _))))

theorem segData_keeps {α : State} {r : Req} {idx sub offset : Nat} {data : List Byte} {s : State} (hyp : Keeps α s) :
    Keeps α (segData r idx sub offset data s) := by
  unfold segData
  split
  · exact answer_keeps hyp
  · exact Keeps.ite (answer_keeps hyp) (answer_keeps (State.setSegments_keeps hyp))

theorem segStart_keeps {α : State} {r : Req} {idx sub total base : Nat} {s : State} (hyp : Keeps α s) :
    Keeps α (segStart r idx sub total base s) := by
  unfold segStart
  split
  · exact answer_keeps (writeChecks_keeps hyp _ _ _ ‹_›)
  · split
    · exact hyp
    · exact Keeps.ite (answer_keeps hyp) (Keeps.ite (answer_keeps hyp) (answer_keeps (State.setSegments_keeps hyp)))

theorem segRead_keeps {α : State} {r : Req} {idx sub offset count limit : Nat} {s : State} (hyp : Keeps α s) :
    Keeps α (segRead r idx sub offset count limit s) := by
  unfold segRead
  split
  · exact answer_keeps hyp
  · exact Keeps.ite (answer_keeps hyp) (respond_keeps hyp)

theorem writeHome_keeps {α : State} {r : Req} {idx sub : Nat} {value : List Byte} {s : State} {who : Completer} {s0 : State} (hyp : Keeps α s0) :
    KeepsW α (writeHome r idx sub value s who s0) := by
  unfold writeHome
  split
  · exact keepsW_denied hyp
  · exact homeOf_keeps hyp

theorem readRequest_keeps {α : State} {r : Req} {idx sub limit : Nat} {s : State} (hyp : Keeps α s) :
    Keeps α (readRequest r idx sub limit s) := by
  unfold readRequest
  split
  · exact answer_keeps hyp
  · exact Keeps.ite (answer_keeps hyp) (respond_keeps hyp)

theorem windowRequest_keeps {α : State} {m : List Byte} {s : State} (hyp : Keeps α s) : Keeps α (windowRequest m s) := by
  unfold windowRequest
  split
  · exact takeNow_keeps hyp (fun _ => readRequest_keeps (.refl _))
  · exact takeNow_keeps hyp (fun _ => carryOut_keeps (.refl _) (fun _ _ => writeHome_keeps (.refl _)))
  · refine takeNow_keeps hyp (fun _ => ?_)
    split
    · exact segRead_keeps (.refl _)
    · exact answer_keeps (.refl _)
  · refine takeNow_keeps hyp (fun _ => ?_)
    split
    · exact segStart_keeps (.refl _)
    · exact answer_keeps (.refl _)
  · exact takeNow_keeps hyp (fun _ => segData_keeps (.refl _))
  · refine takeNow_keeps hyp (fun _ => ?_)
    split
    · exact segEnd_keeps (.refl _)
    · exact answer_keeps (.refl _)
  · exact takeNow_keeps hyp (fun _ => segAbort_keeps (.refl _))
  · exact hyp

theorem doorbell_keeps {α : State} {m : List Byte} {s : State} (hyp : Keeps α s) : Keeps α (doorbell m s) :=
  Keeps.ite hyp (Keeps.ite (noteSecond_keeps hyp) (Keeps.ite (raiseNode_keeps (State.bump_keeps (Keeps.update hyp))) (Keeps.ite (Keeps.ite
    (Keeps.update hyp) (State.bump_keeps (Keeps.update hyp))) (windowRequest_keeps (Keeps.update hyp)))))

theorem drainBeat_keeps {α : State} {t n : Nat} {halves : List Nat} {s : State} (hyp : Keeps α s) : Keeps α (drainBeat t n halves s) := by
  unfold drainBeat
  refine Keeps.ite hyp (Keeps.ite (discardBeat_keeps hyp) ?_)
  split
  · exact hyp
  · exact Keeps.ite hyp (Keeps.ite (overrun_keeps hyp) (State.modStream_keeps hyp))

theorem spdmUnsupportedRequestAct_keeps {α : State} {r : Req} {a : State} (hyp : Keeps α a) : Keeps α (spdmUnsupportedRequestAct r a) :=
  spdmError_keeps (raiseNode_keeps (State.bump_keeps hyp))

theorem spdmBegin_keeps {α : State} {r : Req} {f : State → State} {s : State} (hyp : Keeps α s) (hf_f : ∀ y, Keeps y (f y)) :
    Keeps α (spdmBegin r f s) :=
  Keeps.ite (spdmError_keeps hyp) (Keeps.trans hyp (hf_f _))

theorem respondIfReadyAct_keeps {α : State} {r : Req} {a : State} (hyp : Keeps α a) : Keeps α (respondIfReadyAct r a) := by
  unfold respondIfReadyAct
  split
  · exact spdmReply_keeps (State.setSpdm_keeps hyp)
  · exact spdmError_keeps hyp

theorem updSession_keeps {α : State} {id : Nat} {f : Session → Session} {s : State} (hyp : Keeps α s) :
    Keeps α (updSession id f s) :=
  State.setSec_keeps hyp fun k => (List.length_map ..).trans_le k

theorem withSession_keeps {α : State} {r : Req} {id : Nat} {f : Session → State → State} {s : State} (hyp : Keeps α s)
    (hf_f : ∀ y0 y, Keeps y (f y0 y)) : Keeps α (withSession r id f s) := by
  unfold withSession
  split
  · exact Keeps.trans (updSession_keeps hyp) (hf_f _ _)
  · exact spdmError_keeps hyp

theorem endSessionAct_keeps {α : State} {r : Req} {id : Nat} {a : State} (hyp : Keeps α a) : Keeps α (endSessionAct r id a) :=
  withSession_keeps hyp (fun _ _ => endSession_keeps (spdmReply_keeps (.refl _)))

theorem keyUpdateAct_keeps {α : State} {r : Req} {id : Nat} {a : State} (hyp : Keeps α a) : Keeps α (keyUpdateAct r id a) :=
  withSession_keeps hyp (fun _ _ => spdmReply_keeps (updSession_keeps (.refl _)))

theorem heartbeatAct_keeps {α : State} {r : Req} {id : Nat} {a : State} (hyp : Keeps α a) : Keeps α (heartbeatAct r id a) :=
  withSession_keeps hyp (fun _ _ => spdmReply_keeps (.refl _))

theorem finishAct_keeps {α : State} {r : Req} {id : Nat} {ml : Bool} {signature : List Byte} {a : State} (hyp : Keeps α a) :
    Keeps α (finishAct r id ml signature a) :=
  withSession_keeps hyp (fun _ _ => Keeps.ite (spdmError_keeps (.refl _)) (Keeps.ite (spdmReply_keeps (updSession_keeps (.refl _))) (Keeps.ite
    (spdmReply_keeps (updSession_keeps (.refl _))) (spdmError_keeps (raiseNode_keeps (State.bump_keeps (endSession_keeps (.refl _))))))))

theorem keyExchangeAct_keeps {α : State} {r : Req} {slot : Nat} {mutAuth : Bool} {a : State} (hyp : Keeps α a) :
    Keeps α (keyExchangeAct r slot mutAuth a) := by
  refine negotiated_keeps hyp fun s => ?_
  have refused (e) : Keeps s (spdmError r e s) := spdmError_keeps (Keeps.refl s)
  refine keeps_ite (fun _ => refused _) fun room => Keeps.ite (refused _) (Keeps.ite (refused _) ?_)
  refine spdmReply_keeps (raiseNode_keeps (State.setSec_keeps (Keeps.refl s) fun _ => ?_))
  simp only [List.length_append, List.length_singleton]
  omega

theorem getMeasurementsAct_keeps {α : State} {r : Req} {index nonce : Nat} {sign : Bool} {a : State} (hyp : Keeps α a) :
    Keeps α (getMeasurementsAct r index nonce sign a) :=
  negotiated_keeps hyp (fun _ => Keeps.ite (spdmError_keeps (.refl _)) (spdmReply_keeps (.refl _)))

theorem getCertificateAct_keeps {α : State} {r : Req} {slot offset length : Nat} {a : State} (hyp : Keeps α a) :
    Keeps α (getCertificateAct r slot offset length a) :=
  negotiated_keeps hyp (fun _ => Keeps.ite (spdmError_keeps (.refl _)) (Keeps.ite (spdmError_keeps (.refl _)) (spdmReply_keeps (.refl _))))

theorem getDigestsAct_keeps {α : State} {r : Req} {a : State} (hyp : Keeps α a) : Keeps α (getDigestsAct r a) :=
  negotiated_keeps hyp (fun _ => spdmReply_keeps (.refl _))

theorem negotiateAlgorithmsAct_keeps {α : State} {r : Req} {ecdsa mlDsa sha384 secp384 gcm : Bool} {a : State} (hyp : Keeps α a) :
    Keeps α (negotiateAlgorithmsAct r ecdsa mlDsa sha384 secp384 gcm a) :=
  Keeps.ite (spdmError_keeps hyp) (Keeps.ite (spdmError_keeps hyp) (spdmReply_keeps (State.setSpdm_keeps hyp)))

theorem getCapabilitiesAct_keeps {α : State} {r : Req} {a : State} (hyp : Keeps α a) : Keeps α (getCapabilitiesAct r a) :=
  Keeps.ite (spdmError_keeps hyp) (spdmReply_keeps (State.setSpdm_keeps hyp))

theorem getVersionAct_keeps {α : State} {r : Req} {a : State} (hyp : Keeps α a) : Keeps α (getVersionAct r a) :=
  spdmReply_keeps (State.setSpdm_keeps hyp)

theorem spdmHeld_keeps {α : State} {r : Req} {i : RequestOp} {s : State} (hyp : Keeps α s) : Keeps α (spdmHeld r i s) := by
  unfold spdmHeld
  split
  · exact spdmBegin_keeps hyp (fun _ => getVersionAct_keeps (.refl _))
  · exact spdmBegin_keeps hyp (fun _ => getCapabilitiesAct_keeps (.refl _))
  · exact spdmBegin_keeps hyp (fun _ => negotiateAlgorithmsAct_keeps (.refl _))
  · exact spdmBegin_keeps hyp (fun _ => getDigestsAct_keeps (.refl _))
  · exact spdmBegin_keeps hyp (fun _ => getCertificateAct_keeps (.refl _))
  · exact spdmBegin_keeps hyp (fun _ => challengeAct_keeps (.refl _))
  · exact spdmBegin_keeps hyp (fun _ => getMeasurementsAct_keeps (.refl _))
  · exact spdmBegin_keeps hyp (fun _ => keyExchangeAct_keeps (.refl _))
  · exact spdmBegin_keeps hyp (fun _ => finishAct_keeps (.refl _))
  · exact spdmBegin_keeps hyp (fun _ => heartbeatAct_keeps (.refl _))
  · exact spdmBegin_keeps hyp (fun _ => keyUpdateAct_keeps (.refl _))
  · exact spdmBegin_keeps hyp (fun _ => endSessionAct_keeps (.refl _))
  · exact spdmBegin_keeps hyp (fun _ => respondIfReadyAct_keeps (.refl _))
  · exact spdmBegin_keeps hyp (fun _ => chunkSendAct_keeps (.refl _))
  · exact spdmBegin_keeps hyp (fun _ => chunkGetAct_keeps (.refl _))
  · exact spdmBegin_keeps hyp (fun _ => spdmUnsupportedRequestAct_keeps (.refl _))
  · exact hyp

theorem heldAct_keeps {α : State} {r : Req} {i : RequestOp} {s : State} (hyp : Keeps α s) : Keeps α (heldAct r i s) := by
  unfold heldAct
  split
  · exact carryOut_keeps hyp (fun _ _ => writeHome_keeps (.refl _))
  · exact segStart_keeps hyp
  · exact segData_keeps hyp
  · exact segEnd_keeps hyp
  · exact segAbort_keeps hyp
  · exact spdmHeld_keeps hyp

theorem drainWaiting_keeps {α s : State} (hyp : Keeps α s) : Keeps α (drainWaiting s) := by
  unfold drainWaiting
  split
  · exact hyp
  · exact beginRequest_keeps (Keeps.update hyp) (fun _ => heldAct_keeps (.refl _))

theorem driveVreq_keeps {α s : State} (hyp : Keeps α s) : Keeps α (driveVreq s) := by
  unfold driveVreq
  refine Keeps.ite hyp (State.setOb_keeps ?_)
  split
  · exact Keeps.update hyp
  · split
    · split
      · exact Keeps.update hyp
      · exact Keeps.update hyp
    · split
      · exact Keeps.update hyp
      · exact Keeps.update hyp

theorem dropFlight_keeps {α : State} {c : Nat} {f : Flight} {s : State} (hyp : Keeps α s) : Keeps α (dropFlight c f s) :=
  hyp.free (dropFlight_fr (Fr.refl 262144 s))

theorem dropReads_keeps {α : State} {l : List Ask} {s : State} (hyp : Keeps α s) : Keeps α (dropReads l s) :=
  hyp.free (dropReads_fr (Fr.refl 262144 s))

theorem enablePlls_keeps {α s : State} (hyp : Keeps α s) : Keeps α (enablePlls s) :=
  hyp.free (enablePlls_fr (Fr.refl 16777216 s))

theorem endClose_keeps {α : State} {a data : Nat} {s : State} (hyp : Keeps α s) : Keeps α (endClose a data s) := by
  unfold endClose
  split
  · exact Keeps.ite (closeRecord_keeps (State.setReds_keeps (redSignal_keeps hyp))) hyp
  · exact hyp

theorem endDerate_keeps {α : State} {b : Nat} {s : State} (hyp : Keeps α s) : Keeps α (endDerate b s) :=
  Keeps.ite hyp (Keeps.ite (raiseNode_keeps (State.setOb_keeps hyp)) (State.setOb_keeps hyp))

theorem escapeFeed_keeps {α : State} {n num : Nat} {s : State} (hyp : Keeps α s) : Keeps α (escapeFeed n num s) := by
  unfold escapeFeed
  dsimp only
  refine Keeps.ite hyp ?_
  split
  · exact dropReads_keeps hyp
  · split
    · split
      · exact feedArrive_keeps (countEscape_keeps (dropReads_keeps hyp))
      · exact feedArrive_keeps (countEscape_keeps (dropReads_keeps hyp))
    · exact dropReads_keeps hyp

theorem escapeAsk_keeps {α : State} {q : Ask} {s : State} (hyp : Keeps α s) : Keeps α (escapeAsk q s) := by
  unfold escapeAsk
  dsimp only
  refine Keeps.ite hyp ?_
  split
  · exact finish_keeps (countEscape_keeps (dropReads_keeps hyp))
  · exact finish_keeps (countEscape_keeps (dropReads_keeps hyp))

theorem endEscapes_keeps {α s : State} (hyp : Keeps α s) : Keeps α (endEscapes s) :=
  each_keeps (each_keeps hyp (fun _ _ => escapeFeed_keeps (.refl _))) (fun _ _ => escapeAsk_keeps (.refl _))

theorem showLast_keeps {α : State} {code : Nat} {t : Transfer} {s : State} (hyp : Keeps α s) : Keeps α (showLast code t s) :=
  State.setOb_keeps hyp

theorem endTransfer_keeps {α : State} {num : Nat} {s : State} (hyp : Keeps α s) : Keeps α (endTransfer num s) := by
  unfold endTransfer
  split
  · exact hyp
  · exact Keeps.ite hyp (Keeps.ite (signalObject_keeps (showLast_keeps (Keeps.ite (raiseCtx_keeps (showTransfers_keeps (State.setFar_keeps hyp)))
      (showTransfers_keeps (State.setFar_keeps hyp))))) (showLast_keeps (Keeps.ite (raiseCtx_keeps (showTransfers_keeps (State.setFar_keeps hyp)))
      (showTransfers_keeps (State.setFar_keeps hyp)))))

theorem endTransferAsk_keeps {α : State} {q : Ask} {s : State} (hyp : Keeps α s) : Keeps α (endTransferAsk q s) :=
  hyp.free (endTransferAsk_fr (Fr.refl 1310720 s))

theorem endZero_keeps {α : State} {cause : ZeroCause} {s : State} (hyp : Keeps α s) : Keeps α (endZero cause s) := by
  unfold endZero
  split
  · exact raiseNode_keeps (State.setSec_keeps (writeOwner_keeps (State.setOb_keeps (blowEpoch_keeps hyp))))
  · exact raiseNode_keeps (State.setSec_keeps (Keeps.update hyp))
  · exact State.setSec_keeps hyp
  · exact raiseNode_keeps (State.setSec_keeps hyp)
  · exact Keeps.ite (Keeps.update (raiseNode_keeps (State.setSec_keeps (State.setSec_keeps hyp)))) (raiseNode_keeps (State.setSec_keeps
      (State.setSec_keeps hyp)))

theorem engineFault_keeps {α : State} {e : Nat} {s : State} (hyp : Keeps α s) : Keeps α (engineFault e s) :=
  State.setOb_keeps (State.setFeeds_keeps (fenceStreams_keeps (raise_keeps (State.setOb_keeps hyp))))

theorem enterSelfRefresh_keeps {α : State} {c : Nat} {s : State} (hyp : Keeps α s) : Keeps α (enterSelfRefresh c s) :=
  raise_keeps (State.setChanState_keeps (State.modChan_keeps hyp))

theorem lateFence_keeps {α : State} {n : Nat} {s : State} (hyp : Keeps α s) : Keeps α (lateFence n s) := by
  unfold lateFence
  dsimp only
  split
  · exact hyp
  · split
    · exact hyp
    · exact State.modStream_keeps (State.send_keeps hyp)

theorem enterSignal_keeps {α : State} {n w : Nat} {t : Stream} {s : State} (hyp : Keeps α s) : Keeps α (enterSignal n w t s) :=
  Keeps.ite (lostTarget_keeps hyp) (Keeps.ite (fire_keeps (State.modStream_keeps hyp)) (lateFence_keeps (fire_keeps (State.modStream_keeps hyp))))

theorem entryMode_keeps {α : State} {c : Nat} {cmd : SdiCmd} {s : State} (hyp : Keeps α s) : Keeps α (entryMode c cmd s) :=
  issueRow_keeps (State.modChan_keeps hyp)

theorem entryPreab_keeps {α : State} {c : Nat} {s : State} (hyp : Keeps α s) : Keeps α (entryPreab c s) := by
  unfold entryPreab
  exact State.modChan_keeps (issueRow_keeps (dropRound_keeps hyp))

theorem entrySre_keeps {α : State} {c cls mask : Nat} {s : State} (hyp : Keeps α s) : Keeps α (entrySre c cls mask s) := by
  unfold entrySre
  exact State.modChan_keeps (issueRow_keeps hyp)

theorem relay_keeps {α : State} {h : Nat} {p : Parcel} {s : State} (hyp : Keeps α s) : Keeps α (relay h p s) :=
  hyp.free (relay_fr (Fr.refl 256 s))

theorem peerBack_keeps {α : State} {n : Nat} {s : State} (hyp : Keeps α s) : Keeps α (peerBack n s) :=
  hyp.free (peerBack_fr (Fr.refl 256 s))

theorem flowCheck_keeps {α : State} {hdr : Hdr} {deliver : State → State} {s : State} (hyp : Keeps α s) (hf_deliver : ∀ y, Keeps y (deliver y)) :
    Keeps α (flowCheck hdr deliver s) :=
  Keeps.ite (Keeps.trans (State.setFlow_keeps hyp) (hf_deliver _)) (Keeps.ite (State.bump_keeps hyp) hyp)

theorem sendLink_keeps {α : State} {h kind : Nat} {hdr : Hdr} {body : List Byte} {s : State} (hyp : Keeps α s) :
    Keeps α (sendLink h kind hdr body s) :=
  hyp.free (sendLink_fr (Fr.refl 256 s))

theorem sendHopAck_keeps {α : State} {h : Nat} {s : State} (hyp : Keeps α s) : Keeps α (sendHopAck h s) :=
  hyp.free (sendHopAck_fr (Fr.refl 256 s))

theorem heard_keeps {α : State} {h : Nat} {s : State} (hyp : Keeps α s) : Keeps α (heard h s) :=
  Keeps.ite (setOwnLink_keeps (State.setPort_keeps hyp)) (State.setPort_keeps hyp)

theorem hopCheck_keeps {α : State} {h : Nat} {hdr : Hdr} {ok : Bool} {act : State → State} {s : State} (hyp : Keeps α s)
    (hf_act : ∀ y, Keeps y (act y)) : Keeps α (hopCheck h hdr ok act s) :=
  Keeps.ite hyp (Keeps.ite (malformedParcel_keeps (heard_keeps hyp)) (Keeps.ite (Keeps.ite (sendHopAck_keeps (Keeps.trans (countParcel_keeps
    (State.bump_keeps (State.setPort_keeps (heard_keeps hyp)))) (hf_act _))) (Keeps.trans (countParcel_keeps (State.bump_keeps
    (State.setPort_keeps (heard_keeps hyp)))) (hf_act _))) (Keeps.ite (State.bump_keeps (heard_keeps hyp)) (linkReset_keeps (heard_keeps hyp)))))

theorem takeChecked_keeps {α : State} {h : Nat} {hdr : Hdr} {body : List Byte} {ok : Bool} {deliver : State → State} {s : State} (hyp : Keeps α s)
    (hf_deliver : ∀ y, Keeps y (deliver y)) : Keeps α (takeChecked h hdr body ok deliver s) :=
  Keeps.ite hyp (hopCheck_keeps hyp (fun _ => Keeps.ite (flowCheck_keeps (.refl _) (fun _ => Keeps.trans (peerBack_keeps (.refl _)) (hf_deliver
    _))) (relay_keeps (.refl _))))

theorem takeParcel_keeps {α : State} {h : Nat} {hdr : Hdr} {body : List Byte} {deliver : State → State} {s : State} (hyp : Keeps α s)
    (hf_deliver : ∀ y, Keeps y (deliver y)) : Keeps α (takeParcel h hdr body deliver s) :=
  takeChecked_keeps hyp (fun _ => Keeps.trans (.refl _) (hf_deliver _))

theorem writeFull_keeps {α s : State} (hyp : Keeps α s) : Keeps α (writeFull s) :=
  each_keeps hyp (fun _ _ => writeBale_keeps (.refl _))

theorem stepTransfer_keeps {α : State} {n : Nat} {s : State} (hyp : Keeps α s) : Keeps α (stepTransfer n s) := by
  unfold stepTransfer
  dsimp only
  split
  · exact hyp
  · refine Keeps.ite hyp ?_
    split
    · exact State.modTransfer_keeps (noteLost_keeps hyp)
    · refine Keeps.ite ?_ ?_
      · split
        · refine Keeps.ite hyp ?_
          split
          · exact Keeps.ite (waitBale_keeps (State.modTransfer_keeps hyp)) (Keeps.ite (endTransferRead_keeps (State.modTransfer_keeps hyp))
              (Keeps.ite (endTransferRead_keeps (State.modTransfer_keeps hyp)) (waitBale_keeps (State.modTransfer_keeps hyp))))
          · exact Keeps.ite (endTransferRead_keeps (State.modTransfer_keeps hyp)) (waitBale_keeps (State.modTransfer_keeps hyp))
        · exact Keeps.ite hyp (each_keeps (State.modTransfer_keeps hyp) (fun _ _ => offerInternal_keeps (.refl _)))
        · exact Keeps.ite (State.modTransfer_keeps (count_keeps hyp)) hyp
      · split
        · exact each_keeps (State.modTransfer_keeps hyp) (fun _ _ => offerInternal_keeps (.refl _))
        · exact Keeps.ite hyp (Keeps.ite (State.modTransfer_keeps (raiseNode_keeps hyp)) (writeBale_keeps (State.modTransfer_keeps
            (State.modBale_keeps (takeBale_keeps hyp)))))
        · exact hyp

theorem pumpTransfers_keeps {α s : State} (hyp : Keeps α s) : Keeps α (pumpTransfers s) :=
  each_keeps (each_keeps (each_keeps hyp (fun _ _ => endTransferAsk_keeps (.refl _))) (fun _ _ => stepTransfer_keeps (.refl _)))
    (fun _ _ => showLast_keeps (.refl _))

theorem pumpFar_keeps {α s : State} (hyp : Keeps α s) : Keeps α (pumpFar s) :=
  pump_keeps (pumpTransfers_keeps (writeFull_keeps (drainFar_keeps hyp)))

theorem warmVerified_keeps {α s : State} (hyp : Keeps α s) : Keeps α (warmVerified s) :=
  Keeps.ite hyp (enterConfig_keeps (each_keeps (State.setCache_keeps hyp) (fun _ _ => syncDepth_keeps (State.bumpBy_keeps (State.setChan_keeps
    (.refl _))))))

theorem layCaptureExit_keeps {α : State} {c l : Nat} {s : State} (hyp : Keeps α s) : Keeps α (layCaptureExit c l s) :=
  Keeps.ite (State.setLay_keeps hyp) hyp

theorem missFill_keeps {α s : State} (hyp : Keeps α s) : Keeps α (missFill s) := by
  unfold missFill
  split
  · exact hyp
  · split
    · exact State.setCache_keeps hyp
    · split
      · exact redFill_keeps (State.setCache_keeps hyp)
      · exact finish_keeps (State.setCache_keeps hyp)
    · split
      · exact redFill_keeps (State.setCache_keeps hyp)
      · exact Keeps.ite (State.modAsk_keeps (State.setCache_keeps (tryInstall_keeps hyp))) (tryInstall_keeps hyp)
      · exact Keeps.ite (finishRead_keeps (State.setCache_keeps hyp)) (Keeps.ite (finishRead_keeps (State.setCache_keeps (tryInstall_keeps hyp)))
          (tryInstall_keeps hyp))

theorem spdmTake_keeps {α : State} {r : Req} {i : RequestOp} {f : State → State} {s : State} (hyp : Keeps α s) (hf_f : ∀ y, Keeps y (f y)) :
    KeepsR α (spdmTake r i f s) :=
  keepsR_next (takeRequest_keeps hyp (fun _ => spdmBegin_keeps (.refl _) (fun _ => Keeps.trans (.refl _) (hf_f _))))

theorem noReading_keeps {α : State} {k : Nat} {s : State} (hyp : Keeps α s) : Keeps α (noReading k s) :=
  hyp.free (noReading_fr (Fr.refl 4194304 s))

theorem tempFailed_keeps {α : State} {u layer : Nat} {s : State} (hyp : Keeps α s) : Keeps α (tempFailed u layer s) :=
  hyp.free (tempFailed_fr (Fr.refl 4194304 s))

theorem noteCool_keeps {α s : State} (hyp : Keeps α s) : Keeps α (noteCool s) :=
  hyp.free (noteCool_fr (Fr.refl 4194304 s))

theorem takeReading_keeps {α : State} {k : Nat} {v : ℤ} {s : State} (hyp : Keeps α s) : Keeps α (takeReading k v s) :=
  Keeps.ite (breakSensor_keeps (State.setSensor_keeps hyp)) (Keeps.ite (State.setSensor_keeps hyp) (Keeps.ite (breakSensor_keeps
    (State.setSensor_keeps hyp)) (State.setSensor_keeps hyp)))

theorem takeCode_keeps {α : State} {st n code : Nat} {s : State} (hyp : Keeps α s) : Keeps α (takeCode st n code s) :=
  showSensor_keeps (Keeps.ite (noReading_keeps hyp) (takeReading_keeps hyp))

theorem tempBlock_keeps {α : State} {u layer : Nat} {bytes : List Byte} {s : State} (hyp : Keeps α s) :
    Keeps α (tempBlock u layer bytes s) :=
  noteCool_keeps (afterReadings_keeps (Keeps.ite (takeCode_keeps (takeCode_keeps hyp)) (takeCode_keeps hyp)))

theorem readSheaf_keeps {α : State} {u c : Nat} {s : State} (hyp : Keeps α s) : Keeps α (readSheaf u c s) := by
  unfold readSheaf
  refine each_keeps hyp (fun _ _ => ?_)
  split
  · exact tempBlock_keeps (keepsS_of_eq ‹_› (layMrr_keeps (.refl _)))
  · exact tempFailed_keeps (keepsS_of_eq ‹_› (layMrr_keeps (.refl _)))

theorem readAllSensors_keeps {α s : State} (hyp : Keeps α s) : Keeps α (readAllSensors s) := by
  unfold readAllSensors
  refine each_keeps hyp (fun _ _ => ?_)
  split
  · exact readSheaf_keeps (.refl _)
  · exact (.refl _)

theorem ladderStep_keeps {α s : State} (hyp : Keeps α s) : Keeps α (ladderStep s) := by
  unfold ladderStep
  refine Keeps.ite hyp (each_keeps (each_keeps hyp (fun _ _ => Keeps.ite (.refl _) ?_)) (fun _ _ => Keeps.ite (raise_keeps (State.setHeat_keeps
    (.refl _))) (State.setHeat_keeps (.refl _))))
  split
  · exact takeLevel_keeps (.refl _)
  · exact (.refl _)

theorem startHard_keeps {α : State} {c layer : Nat} {s : State} (hyp : Keeps α s) : Keeps α (startHard c layer s) := by
  unfold startHard
  refine Keeps.ite hyp ?_
  split
  · exact hyp
  · exact layRpr_keeps (layMrw_keeps (layPreab_keeps hyp))

theorem planHard_keeps {α s : State} (hyp : Keeps α s) : Keeps α (planHard s) :=
  hyp.free (planHard_fr (Fr.refl 262144 s))

theorem setRetirement_keeps {α : State} {st n v : Nat} {s : State} (hyp : Keeps α s) : Keeps α (setRetirement st n v s) :=
  State.setOb_keeps hyp

theorem replayEntry_keeps {α : State} {w : Nat} {s : State} (hyp : Keeps α s) : Keeps α (replayEntry w s) := by
  unfold replayEntry
  dsimp only
  split
  · exact State.bump_keeps (State.bump_keeps (State.modChan_keeps (State.modChan_keeps (layRpr_keeps (layMrw_keeps hyp)))))
  · exact State.bump_keeps (State.modChan_keeps (State.modChan_keeps hyp))
  · split
    · exact Keeps.ite (setRetirement_keeps hyp) (State.bump_keeps (setRetirement_keeps hyp))
    · exact hyp
  · split
    · exact State.modChan_keeps (setRetirement_keeps (State.setOb_keeps hyp))
    · exact State.modChan_keeps hyp
  · exact hyp

theorem replayLog_keeps {α : State} {s : State} (hyp : Keeps α s) :
    Keeps α (replayLog s) := by
  unfold replayLog
  extract_lets s1 s2
  have h1 : Keeps α s1 := each_keeps hyp fun _ s => State.setOb_keeps (Keeps.refl s)
  have h2 : Keeps α s2 := h1.update (objects := fun c => c.filter _)
  exact each_keeps (State.setOb_keeps h2) fun _ s => replayEntry_keeps (Keeps.refl s)

theorem readIdentity_keeps {α : State} {st : Nat} {s : State} (hyp : Keeps α s) : Keeps α (readIdentity st s) :=
  Keeps.ite (each_keeps (State.setOb_keeps (State.setOb_keeps (State.setOb_keeps (State.setOb_keeps (State.setOb_keeps (State.setOb_keeps
    hyp)))))) (fun _ _ => failChannel_keeps (.refl _))) (State.setOb_keeps (State.setOb_keeps (State.setOb_keeps (State.setOb_keeps
    (State.setOb_keeps (State.setOb_keeps hyp))))))

theorem startTrainingAll_keeps {α s : State} (hyp : Keeps α s) : Keeps α (startTrainingAll s) :=
  Keeps.ite (persistOwn_keeps (each_keeps (each_keeps (Keeps.ite (replayLog_keeps (Keeps.ite hyp (each_keeps hyp (fun _ _ => readIdentity_keeps
    (.refl _))))) (planHard_keeps (replayLog_keeps (Keeps.ite hyp (each_keeps hyp (fun _ _ => readIdentity_keeps (.refl _)))))))
    (fun _ _ => startHard_keeps (.refl _))) (fun _ _ => Keeps.ite (wantFull_keeps (State.setOb_keeps (.refl _))) (beginTraining_keeps
    (State.setOb_keeps (.refl _)))))) (each_keeps (each_keeps (Keeps.ite (replayLog_keeps (Keeps.ite hyp (each_keeps hyp
    (fun _ _ => readIdentity_keeps (.refl _))))) (planHard_keeps (replayLog_keeps (Keeps.ite hyp (each_keeps hyp (fun _ _ => readIdentity_keeps
    (.refl _))))))) (fun _ _ => startHard_keeps (.refl _))) (fun _ _ => Keeps.ite (wantFull_keeps (State.setOb_keeps (.refl _)))
    (beginTraining_keeps (State.setOb_keeps (.refl _)))))

theorem setSlice_keeps {α : State} {x v : Nat} {s : State} (hyp : Keeps α s) : Keeps α (setSlice x v s) :=
  State.setOb_keeps (State.setOb_keeps hyp)

theorem pairOut_keeps {α : State} {x : Nat} {s : State} (hyp : Keeps α s) : Keeps α (pairOut x s) :=
  each_keeps (each_keeps (each_keeps (State.setCache_keeps (setSlice_keeps (setSlice_keeps (raise_keeps (clearArray_keeps (clearArray_keeps
    hyp)))))) (fun _ _ => syncDirty_keeps (poisonWrite_keeps (.refl _)))) (fun _ _ => breakRed_keeps (.refl _))) (fun _ _ => finish_keeps (.refl
    _))

theorem refuseHeld_keeps {α : State} {x : Nat} {s : State} (hyp : Keeps α s) : Keeps α (refuseHeld x s) :=
  each_keeps hyp (fun _ _ => sliceLater_keeps (.refl _))

theorem sliceFault_keeps {α : State} {x : Nat} {s : State} (hyp : Keeps α s) : Keeps α (sliceFault x s) := by
  unfold sliceFault
  split
  · exact Keeps.ite (refuseHeld_keeps (setSlice_keeps (clearArray_keeps (raise_keeps hyp)))) (pairOut_keeps (raise_keeps hyp))
  · exact setSlice_keeps (raise_keeps (State.setCache_keeps hyp))
  · exact hyp

theorem holdConfig_keeps {α s : State} (hyp : Keeps α s) : Keeps α (holdConfig s) :=
  hyp.free (holdConfig_fr (Fr.refl 4 s))

theorem selfTestDone_keeps {α : State} {channels : List Nat} {journalA journalB comparators monitors : Bool} {replicas slices : List Nat}
    {s : State} (hyp : Keeps α s) : Keeps α (selfTestDone channels journalA journalB comparators monitors replicas slices s) := by
  unfold selfTestDone
  refine Keeps.ite hyp ?_
  extract_lets s1 s2 p2 s3 s4 s5 out s6 c6 s7 s8 s9 p9 s10
  have h1 : Keeps α s1 := each_keeps hyp fun _ _ => failChannel_keeps (checkerFails_keeps (.refl _))
  have h2 : Keeps α s2 := Keeps.ite (checkerFails_keeps h1) h1
  have h3 : Keeps α s3 := Keeps.ite (holdConfig_keeps h2) (Keeps.ite (State.setOb_keeps (State.setPath_keeps h2)) h2)
  have h4 : Keeps α s4 := Keeps.ite (holdConfig_keeps (checkerFails_keeps h3)) h3
  have h5 : Keeps α s5 := Keeps.ite (holdConfig_keeps (checkerFails_keeps h4)) h4
  have h6 : Keeps α s6 := each_keeps h5 fun _ _ => checkerFails_keeps (.refl _)
  have h7 : Keeps α s7 := State.setClk_keeps h6
  have h8 : Keeps α s8 := Keeps.ite (holdConfig_keeps h7) h7
  have h9 : Keeps α s9 := each_keeps h8 fun _ _ => sliceFault_keeps (checkerFails_keeps (.refl _))
  have h10 : Keeps α s10 := State.setPower_keeps h9
  exact startTrainingAll_keeps (Keeps.ite h10 (ladderStep_keeps (readAllSensors_keeps h10)))

theorem monitorWindow_keeps {α : State} {m count : Nat} {ended lock kfoOff ksoOff : Bool} {s : State} (hyp : Keeps α s) :
    Keeps α (monitorWindow m count ended lock kfoOff ksoOff s) :=
  Keeps.ite hyp (Keeps.ite (State.setOb_keeps hyp) (Keeps.ite (Keeps.ite (clockTrip_keeps (State.setOb_keeps hyp)) (Keeps.ite (clockTrip_keeps
    (Keeps.ite (clockTrip_keeps (State.setOb_keeps hyp)) (State.setOb_keeps hyp))) (Keeps.ite (clockTrip_keeps (State.setOb_keeps hyp))
    (State.setOb_keeps hyp)))) (clockTrip_keeps (State.setOb_keeps hyp))))

theorem expireRecords_keeps {α s : State} (hyp : Keeps α s) : Keeps α (expireRecords s) :=
  hyp.free (expireRecords_fr (Fr.refl 524288 s))

theorem writeEscapes_keeps {α : State} {n num : Nat} {t : Stream} {ws : List (Nat × Nat × Nat)} {s : State} (hyp : Keeps α s) :
    Keeps α (writeEscapes n num t ws s).2 :=
  each_keeps hyp (fun _ _ => offerInternal_keeps (.refl _))

theorem flagBeyond_keeps {α : State} {u a : Nat} {s : State} (hyp : Keeps α s) : Keeps α (flagBeyond u a s) := by
  unfold flagBeyond
  dsimp only
  split
  · exact Keeps.ite (State.setOb_keeps hyp) (raiseAt_keeps (State.setOb_keeps (State.setOb_keeps (State.setOb_keeps hyp))))
  · exact raiseAt_keeps (State.setOb_keeps hyp)

theorem narrow_keeps {α : State} {u : Nat} {cs : Cause} {x : FormatEntry} {a : Nat} {feeds : List Nat} {s : State} (hyp : Keeps α s) :
    Keeps α (narrow u cs x a feeds s).2 := by
  unfold narrow
  extract_lets i xs l parts
  split
  rename_i d st _
  extract_lets s1 s2 s3 seald beyond s4 plain
  have h2 : Keeps α s2 := countIf_keeps (countScales_keeps (State.bumpBy_keeps (State.bump_keeps hyp)))
  have h3 : Keeps α s3 := Keeps.ite h2 (raise_keeps h2)
  have h4 : Keeps α s4 := Keeps.ite (countIf_keeps (State.bump_keeps h3)) h3
  split
  · exact h4
  · split
    · exact h4
    · split
      · exact flagBeyond_keeps h4
      · split
        · rename_i t slot
          exact flagBeyond_keeps (keepsS_of_eq slot (allocSlot_keeps h4))
        · rename_i n t slot
          have h5 : Keeps α t := keepsS_of_eq slot (allocSlot_keeps h4)
          extract_lets gen es s5 s6 s7
          have h6 : Keeps α s6 := countIf_keeps (State.bump_keeps (countScales_keeps h5))
          have h7 : Keeps α s7 := Keeps.ite (raiseAt_keeps (flagBeyond_keeps h6)) h6
          exact keepsS_mk h7

theorem narrowItem_keeps {α : State} {n num : Nat} {t : Stream} {i : LineItem} {feeds : List Nat} {s : State} (hyp : Keeps α s) :
    Keeps α (narrowItem n num t i feeds s).2 := by
  unfold narrowItem
  dsimp only
  split
  · exact hyp
  · split
    · exact writeEscapes_keeps (narrow_keeps hyp)
    · exact State.setFeeds_keeps (writeEscapes_keeps (narrow_keeps hyp))

theorem narrowOne_keeps {α : State} {n : Nat} {s : State} (hyp : Keeps α s) : Keeps α (narrowOne n s) := by
  unfold narrowOne
  split
  · exact Keeps.ite (fenceContext_keeps hyp) (State.modStream_keeps (narrowItem_keeps hyp))
  · exact hyp

theorem narrowBefore_keeps {α : State} {o : Nat × Nat} {k : Nat} {s : State} (hyp : Keeps α s) :
    Keeps α (narrowBefore o k s) := by
  induction k generalizing s with
  | zero => exact hyp
  | succ k ih =>
    unfold narrowBefore
    dsimp only
    split
    · exact ih (narrowOne_keeps hyp)
    · exact hyp

theorem narrowNext_keeps {α : State} {n : Nat} {s : State} (hyp : Keeps α s) : Keeps α (narrowNext n s) := by
  unfold narrowNext
  split
  · exact hyp
  · exact narrowOne_keeps (narrowBefore_keeps hyp)

theorem keyWrite_keeps {α : State} {r : Req} {op : Nat} {world : Bool} {slot : Nat} {s : State} (hyp : Keeps α s) :
    KeepsR α (keyWrite r op world slot s) :=
  keepsR_next (dictWrite_keeps hyp (fun _ _ => keyHome_keeps (.refl _)))

theorem fallbackTimeout_keeps {α : State} {d : Nat} {s : State} (hyp : Keeps α s) : Keeps α (fallbackTimeout d s) := by
  unfold fallbackTimeout
  split
  · exact hyp
  · exact Keeps.ite hyp (Keeps.ite (Keeps.ite (setKeeper_keeps hyp) hyp) (enterHalted_keeps (raise_keeps (setKeeper_keeps hyp))))

theorem portDown_keeps {α : State} {t : Nat} {s : State} (hyp : Keeps α s) : Keeps α (portDown t s) :=
  Keeps.ite hyp (fenceStreams_keeps (raise_keeps (State.setFeeds_keeps (setPortState_keeps hyp))))

theorem healedFails_keeps {α : State} {c : Nat} {l : Loc} {s : State} (hyp : Keeps α s) : Keeps α (healedFails c l s) := by
  unfold healedFails
  split
  · exact Keeps.ite (queueMove_keeps (setWeak_keeps hyp)) hyp
  · exact hyp

theorem failedRead_keeps {α : State} {c : Nat} {f : Flight} {s : State} (hyp : Keeps α s) : Keeps α (failedRead c f s) := by
  unfold failedRead
  extract_lets e s1 s2
  have h1 : Keeps α s1 := countIf_keeps (healedFails_keeps (State.bump_keeps hyp))
  have h2 : Keeps α s2 := by
    dsimp only [s2]
    split
    · exact sampleFlag_keeps h1
    · exact sampleFlag_keeps h1
    · exact h1
  clear_value s2
  split
  rename_i who t served
  have h3 : Keeps α t := by
    refine keepsS_of_eq served ?_
    split
    · exact keepsS_ite (fun _ => keepsS_mk (deliverLine_keeps h2)) fun _ => keepsS_mk h2
    · exact h2
  exact joinRec_keeps (Keeps.ite (State.bump_keeps h3) h3)

theorem readBack_keeps {α : State} {c : Nat} {f : Flight} {s : State} (hyp : Keeps α s) : Keeps α (readBack c f s) := by
  unfold readBack
  split
  · split
    · exact tempBlock_keeps (dropFlight_keeps hyp)
    · exact tempFailed_keeps (dropFlight_keeps hyp)
  · split
    · exact deliverLine_keeps (dropFlight_keeps hyp)
    · exact failedRead_keeps (dropFlight_keeps hyp)

theorem flowReset_keeps {α : State} {h : Nat} {hdr : Hdr} {base : Nat} {s : State} (hyp : Keeps α s) : Keeps α (flowReset h hdr base s) :=
  Keeps.ite hyp (hopCheck_keeps hyp (fun _ => Keeps.ite (State.setFlow_keeps (peerBack_keeps (.refl _))) (relay_keeps (.refl _))))

theorem unitFault_keeps {α : State} {u : Nat} {s : State} (hyp : Keeps α s) : Keeps α (unitFault u s) :=
  State.setOb_keeps (State.setFeeds_keeps (each_keeps (abandonReads_keeps (fenceStreams_keeps (raise_keeps (State.setOb_keeps hyp))))
    (fun _ _ => finish_keeps (.refl _))))

theorem sendSetWide_keeps {α : State} {n : Nat} {s : State} (hyp : Keeps α s) : Keeps α (sendSetWide n s) :=
  hyp.free (sendSetWide_fr (Fr.refl 256 s))

theorem formSet_keeps {α : State} {lead mask time epoch : Nat} {s : State} (hyp : Keeps α s) : Keeps α (formSet lead mask time epoch s) :=
  each_keeps (raiseNode_keeps (computeRoutes_keeps (State.setSet_keeps hyp))) (fun _ _ => raiseNode_keeps (.refl _))

theorem tryForm_keeps {α : State} {timeout : Bool} {s : State} (hyp : Keeps α s) : Keeps α (tryForm timeout s) :=
  Keeps.ite hyp (Keeps.ite hyp (Keeps.ite hyp (each_keeps (flood_keeps (formSet_keeps hyp)) (fun _ _ => sendSetWide_keeps (.refl _)))))

theorem joinFormed_keeps {α : State} {lead mask time epoch : Nat} {s : State} (hyp : Keeps α s) :
    Keeps α (joinFormed lead mask time epoch s) :=
  flood_keeps (raiseNode_keeps (computeRoutes_keeps (Keeps.update (State.setWrites_keeps (State.setSet_keeps hyp)))))

theorem frameBoundary_keeps {α s : State} (hyp : Keeps α s) : Keeps α (frameBoundary s) :=
  Keeps.ite hyp (each_keeps (ladderStep_keeps (State.setClk_keeps (State.setPlans_keeps (Keeps.ite (State.bumpBy_keeps hyp) hyp))))
    (fun _ _ => Keeps.ite (endDerate_keeps (.refl _)) (.refl _)))

theorem frameEpoch_keeps {α s : State} (hyp : Keeps α s) : Keeps α (frameEpoch s) :=
  Keeps.ite (ladderStep_keeps (State.setPlans_keeps (State.setSet_keeps hyp))) hyp

theorem nextStack_keeps {α s : State} (hyp : Keeps α s) : Keeps α (nextStack s) := by
  unfold nextStack
  dsimp only
  refine Keeps.ite hyp ?_
  split
  · exact each_keeps hyp (fun _ _ => beginTraining_keeps (State.modTr_keeps (.refl _)))
  · exact hyp

theorem trained_keeps {α : State} {c source : Nat} {s : State} (hyp : Keeps α s) : Keeps α (trained c source s) :=
  nextStack_keeps (raise_keeps (Keeps.ite (State.modTr_keeps (Keeps.ite (State.setChanState_keeps (State.setOb_keeps (State.setOb_keeps
    (State.setOb_keeps hyp)))) (State.setOb_keeps (State.setOb_keeps (State.setOb_keeps hyp))))) (freshRefresh_keeps (State.modTr_keeps (Keeps.ite
    (State.setChanState_keeps (State.setOb_keeps (State.setOb_keeps (State.setOb_keeps hyp)))) (State.setOb_keeps (State.setOb_keeps
    (State.setOb_keeps hyp))))))))

theorem untrainable_keeps {α : State} {c : Nat} {s : State} (hyp : Keeps α s) : Keeps α (untrainable c s) :=
  nextStack_keeps (failChannel_keeps (State.modTr_keeps (State.setOb_keeps hyp)))

theorem lostFor_keeps {α : State} {c mask : Nat} {s : State} (hyp : Keeps α s) : Keeps α (lostFor c mask s) :=
  untrainable_keeps (recordDue_keeps (State.setOb_keeps hyp))

theorem fullDone_keeps {α : State} {c : Nat} {words : List Nat} {lanes ca bad : Nat} {caOk : Bool} {s : State} (hyp : Keeps α s) :
    Keeps α (fullDone c words lanes ca bad caOk s) := by
  unfold fullDone
  refine Keeps.ite hyp (Keeps.ite (lostFor_keeps (each_keeps hyp (fun _ _ => calibrationBad_keeps (.refl _)))) ?_)
  split
  · exact lostFor_keeps (each_keeps hyp (fun _ _ => calibrationBad_keeps (.refl _)))
  · exact trained_keeps (recordDue_keeps (takeFallback_keeps (takeSettings_keeps (each_keeps hyp (fun _ _ => calibrationBad_keeps (.refl _))))))

theorem graceOver_keeps {α : State} {st : Nat} {s : State} (hyp : Keeps α s) : Keeps α (graceOver st s) :=
  Keeps.ite hyp (raise_keeps (endGrace_keeps hyp))

theorem rearmGrace_keeps {α : State} {st : Nat} {s : State} (hyp : Keeps α s) : Keeps α (rearmGrace st s) :=
  Keeps.ite hyp (State.setOb_keeps hyp)

theorem groupLost_keeps {α : State} {c g : Nat} {s : State} (hyp : Keeps α s) : Keeps α (groupLost c g s) := by
  unfold groupLost
  dsimp only
  split
  · exact lostFor_keeps (abandonRound_keeps hyp)
  · exact recordDue_keeps (State.modTr_keeps (takeFallback_keeps hyp))

theorem groupBad_keeps {α : State} {c g : Nat} {s : State} (hyp : Keeps α s) : Keeps α (groupBad c g s) :=
  Keeps.ite (groupLost_keeps (State.modTr_keeps (State.modTr_keeps hyp))) (State.modTr_keeps hyp)

theorem groupDone_keeps {α : State} {c outcome rv wv : Nat} {delays : List Nat} {s : State} (hyp : Keeps α s) :
    Keeps α (groupDone c outcome rv wv delays s) := by
  unfold groupDone
  dsimp only
  split
  · exact hyp
  · exact Keeps.ite hyp (Keeps.ite (applyCentres_keeps hyp) (Keeps.ite (Keeps.ite (applyCentres_keeps hyp) (nextGroup_keeps (groupLost_keeps
      (Keeps.ite (calibrationBad_keeps hyp) hyp)))) (nextGroup_keeps (groupBad_keeps hyp))))

theorem readHalted_keeps {α : State} {u : Nat} {due : Bool} {s : State} (hyp : Keeps α s) : Keeps α (readHalted u due s) :=
  Keeps.ite hyp (Keeps.ite (Keeps.ite (exitSrx_keeps hyp) hyp) (Keeps.ite hyp (drainChannel_keeps (readSheaf_keeps (raise_keeps hyp)))))

theorem haltedCheck_keeps {α : State} {st : Nat} {s : State} (hyp : Keeps α s) : Keeps α (haltedCheck st s) :=
  Keeps.ite hyp (each_keeps (Keeps.ite (State.setHeat_keeps hyp) hyp) (fun _ _ => readHalted_keeps (.refl _)))

theorem layHardDone_keeps {α : State} {c : Nat} {l : Nat} {ok : Bool} {s : State} (hyp : Keeps α s) :
    Keeps α (layHardDone c l ok s) := by
  unfold layHardDone
  dsimp only
  split
  · exact hyp
  · exact Keeps.ite (Keeps.ite (State.setLay_keeps hyp) ((State.setLay_keeps hyp).memory (loseSpare_memory ..))) (State.setLay_keeps hyp)

theorem hardDone_keeps {α : State} {c layer : Nat} {ok : Bool} {s : State} (hyp : Keeps α s) : Keeps α (hardDone c layer ok s) := by
  unfold hardDone
  split
  · exact hyp
  · exact Keeps.ite (startHard_keeps (raise_keeps (State.bump_keeps (State.setPath_keeps (State.setPath_keeps (layHardDone_keeps hyp))))))
      (startHard_keeps (raise_keeps (State.bump_keeps (State.setPath_keeps (layHardDone_keeps hyp)))))

theorem tripStep_keeps {α s : State} (hyp : Keeps α s) : Keeps α (tripStep s) :=
  Keeps.ite hyp (Keeps.ite (enterHalted_keeps (State.setHeat_keeps hyp)) (Keeps.ite (each_keeps hyp (fun _ _ => Keeps.ite (.refl _)
    (drainChannel_keeps (.refl _)))) hyp))

theorem healConfirmed_keeps {α : State} {c : Nat} {u : Unconf} {s : State} (hyp : Keeps α s) : Keeps α (healConfirmed c u s) :=
  raiseAt_keeps (State.bump_keeps (healedNow_keeps (confirmWrite_keeps hyp)))

theorem linkSeen_keeps {α : State} {h : Nat} {s : State} (hyp : Keeps α s) : Keeps α (linkSeen h s) := by
  unfold linkSeen
  split
  · exact refreshView_keeps (State.setSet_keeps hyp)
  · exact hyp

theorem refusePort_keeps {α : State} {h reason : Nat} {s : State} (hyp : Keeps α s) : Keeps α (refusePort h reason s) :=
  setOwnLink_keeps (raise_keeps (State.setPort_keeps hyp))

theorem helloTaken_keeps {α : State} {h node setNodes nstacks version nextHop setTag bundle : Nat} {s : State} (hyp : Keeps α s) :
    Keeps α (helloTaken h node setNodes nstacks version nextHop setTag bundle s) :=
  Keeps.ite hyp (Keeps.ite (refusePort_keeps (State.setPort_keeps hyp)) (tryForm_keeps (Keeps.ite (setOwnLink_keeps (linkSeen_keeps
    (State.setPort_keeps (State.setPort_keeps hyp)))) (flood_keeps (setOwnLink_keeps (linkSeen_keeps (State.setPort_keeps (State.setPort_keeps
    hyp))))))))

theorem selectImage_keeps {α s : State} (hyp : Keeps α s) : Keeps α (selectImage s) :=
  Keeps.ite (enterRecovery_keeps hyp) (Keeps.ite (enterRecovery_keeps (raiseNode_keeps hyp)) (Keeps.ite (bootActive_keeps hyp) (Keeps.ite
    (bootActive_keeps (updateRefused_keeps (setStaging_keeps (persistOwn_keeps hyp)))) (Keeps.ite (bootActive_keeps (raiseNode_keeps hyp))
    (State.setUpd_keeps hyp)))))

theorem readCopies_keeps {α s : State} (hyp : Keeps α s) : Keeps α (readCopies s) :=
  each_keeps hyp (fun _ _ => raiseNode_keeps (State.bump_keeps (.refl _)))

theorem loadPersisted_keeps {α s : State} (hyp : Keeps α s) : Keeps α (loadPersisted s) :=
  each_keeps (State.setOb_keeps hyp) (fun _ _ => State.setOb_keeps (.refl _))

theorem loadRepairs_keeps {α s : State} (hyp : Keeps α s) : Keeps α (loadRepairs s) :=
  hyp.free (loadRepairs_fr (Fr.refl 262144 s))

theorem imageSelection_keeps {α : State} {usable : Bool} {density mode : Nat} {s : State} (hyp : Keeps α s) :
    Keeps α (imageSelection usable density mode s) :=
  Keeps.ite hyp (selectImage_keeps (setStaging_keeps (Keeps.ite (loadRepairs_keeps (loadPersisted_keeps (readCopies_keeps (State.setOb_keeps
    (State.setOb_keeps (State.setOb_keeps (Keeps.update hyp))))))) (raiseNode_keeps (State.setOb_keeps (State.setOb_keeps (State.setOb_keeps
    (Keeps.update hyp))))))))

theorem joinTimeout_keeps {α : State} {h : Nat} {s : State} (hyp : Keeps α s) : Keeps α (joinTimeout h s) :=
  Keeps.ite (refusePort_keeps hyp) hyp

theorem journalLost_keeps {α s : State} (hyp : Keeps α s) : Keeps α (journalLost s) :=
  enterHalted_keeps (raiseNode_keeps hyp)

theorem journalFault_keeps {α : State} {copyB : Bool} {s : State} (hyp : Keeps α s) : Keeps α (journalFault copyB s) :=
  Keeps.ite hyp (Keeps.ite (journalLost_keeps hyp) (singleFault_keeps hyp (fun _ => raiseNode_keeps (State.setOb_keeps (State.setPath_keeps (.refl
    _))))))

theorem restartProc_keeps {α : State} {i : ProcId} {s : State} (hyp : Keeps α s) :
    Keeps α (restartProc i s) := by
  refine Keeps.ite hyp (Keeps.ite (enterHalted_keeps hyp) (singleFault_keeps hyp fun s => ?_))
  have raised : Keeps s (raise Ev.processorRestart (ProcId.code i) 0 s) := raise_keeps (Keeps.refl s)
  have restarts := raised.setProc i ⟨true, some (raise Ev.processorRestart (ProcId.code i) 0 s).now⟩
  exact Keeps.ite (endSessions_keeps restarts) restarts

theorem trimMeasurement_keeps {α : State} {plca : Bool} {count expected : Nat} {s : State} (hyp : Keeps α s) :
    Keeps α (trimMeasurement plca count expected s) :=
  Keeps.ite hyp (State.setClk_keeps (State.setOb_keeps (State.setOb_keeps (State.setOb_keeps hyp))))

theorem landedBeat_keeps {α : State} {t n : Nat} {s : State} (hyp : Keeps α s) : Keeps α (landedBeat t n s) := by
  unfold landedBeat
  refine Keeps.ite hyp ?_
  split
  · exact sweepOld_keeps (fire_keeps (State.modOld_keeps hyp))
  · exact Keeps.ite (fire_keeps (State.modStream_keeps hyp)) (discardBeat_keeps hyp)

theorem layErrclr_keeps {α : State} {c l : Nat} {all : Bool} {s : State} (hyp : Keeps α s) : Keeps α (layErrclr c l all s) :=
  each_keeps hyp (fun _ _ => State.setLay_keeps (.refl _))

theorem layLbr_keeps {α : State} {c l : Nat} {s : State} (hyp : Keeps α s) : Keeps α (layLbr c l s) :=
  Keeps.ite hyp (State.setDch_keeps hyp)

theorem layLbw_keeps {α : State} {c l : Nat} {preamble : Bool} {burst : Nat} {s : State} (hyp : Keeps α s) :
    Keeps α (layLbw c l preamble burst s) :=
  Keeps.ite hyp (Keeps.ite (alertOn_keeps hyp) (State.setLay_keeps hyp))

theorem layPreset_keeps {α : State} {c l : Nat} {all : Bool} {s : State} (hyp : Keeps α s) : Keeps α (layPreset c l all s) :=
  each_keeps hyp (fun _ _ => State.setLay_keeps (.refl _))

theorem layRdp_keeps {α : State} {c l : Nat} {s : State} (hyp : Keeps α s) : Keeps α (layRdp c l s) :=
  Keeps.ite hyp (Keeps.ite (State.setDch_keeps hyp) (State.setDch_keeps (State.setLay_keeps hyp)))

theorem laySensor_keeps {α : State} {st l i code : Nat} {s : State} (hyp : Keeps α s) : Keeps α (laySensor st l i code s) :=
  State.setDie_keeps (Keeps.ite hyp (each_keeps hyp (fun _ _ => srAdvance_keeps (.refl _))))

theorem layWrpOne_keeps {α : State} {c burst l : Nat} {s : State} (hyp : Keeps α s) : Keeps α (layWrpOne c burst l s) :=
  State.setLay_keeps hyp

theorem layWrp_keeps {α : State} {c l : Nat} {all preamble : Bool} {burst : Nat} {s : State} (hyp : Keeps α s) :
    Keeps α (layWrp c l all preamble burst s) :=
  Keeps.ite hyp (Keeps.ite (alertOn_keeps hyp) (each_keeps hyp (fun _ _ => layWrpOne_keeps (.refl _))))

theorem fillGranule_keeps {α : State} {a : Nat} {code : Nat} {s : State} (hyp : Keeps α s) :
    Keeps α (fillGranule a code s) :=
  Keeps.ite (fillRows_keeps hyp) (each_keeps (fillRows_keeps hyp) fun _ s => each_keeps (Keeps.refl s) fun _ s =>
    (Keeps.refl s).memory (writePhys_memory ..))

theorem ledgerZeroed_keeps {α s : State} (hyp : Keeps α s) : Keeps α (ledgerZeroed s) := by
  unfold ledgerZeroed
  refine Keeps.ite hyp (openFar_keeps (State.setFar_keeps ?_))
  split
  · exact each_keeps hyp (fun _ _ => fillGranule_keeps (.refl _))
  · exact hyp

theorem linkSilent_keeps {α : State} {h : Nat} {s : State} (hyp : Keeps α s) : Keeps α (linkSilent h s) :=
  Keeps.ite hyp (checkLoss_keeps (setOwnLink_keeps (State.setPort_keeps hyp)))

theorem linksTaken_keeps {α : State} {origin links : Nat} {s : State} (hyp : Keeps α s) : Keeps α (linksTaken origin links s) :=
  checkLoss_keeps (computeRoutes_keeps (State.setSet_keeps hyp))

theorem raiseShort_keeps {α : State} {h before : Nat} {s : State} (hyp : Keeps α s) : Keeps α (raiseShort h before s) :=
  each_keeps hyp (fun _ _ => each_keeps (.refl _) (fun _ _ => Keeps.ite (.refl _) (raise_keeps (.refl _))))

theorem trainingDone_keeps {α : State} {h modules : Nat} {s : State} (hyp : Keeps α s) : Keeps α (trainingDone h modules s) :=
  Keeps.ite hyp (Keeps.ite (Keeps.ite hyp (refusePort_keeps hyp)) (sendLink_keeps (State.send_keeps (Keeps.ite (raiseShort_keeps (raise_keeps
    (State.setPort_keeps hyp))) (State.setPort_keeps hyp)))))

theorem showLogic_keeps {α s : State} (hyp : Keeps α s) : Keeps α (showLogic s) := by
  unfold showLogic
  dsimp only
  split
  · exact State.setOb_keeps (State.setOb_keeps hyp)
  · exact State.setOb_keeps hyp

theorem readLogic_keeps {α : State} {codes : List Nat} {s : State} (hyp : Keeps α s) : Keeps α (readLogic codes s) := by
  unfold readLogic
  dsimp only
  refine Keeps.ite hyp ?_
  split
  · exact noteCool_keeps (showLogic_keeps (each_keeps hyp (fun _ _ => Keeps.ite (noReading_keeps (.refl _)) (takeReading_keeps (.refl _)))))
  · exact Keeps.ite (raiseNode_keeps (State.setHeat_keeps (noteCool_keeps (showLogic_keeps (each_keeps hyp (fun _ _ => Keeps.ite (noReading_keeps
      (.refl _)) (takeReading_keeps (.refl _)))))))) (Keeps.ite (State.setHeat_keeps (noteCool_keeps (showLogic_keeps (each_keeps hyp
      (fun _ _ => Keeps.ite (noReading_keeps (.refl _)) (takeReading_keeps (.refl _))))))) (noteCool_keeps (showLogic_keeps (each_keeps hyp
      (fun _ _ => Keeps.ite (noReading_keeps (.refl _)) (takeReading_keeps (.refl _)))))))

theorem marginDone_keeps {α : State} {c low high worst errors : Nat} {late : Bool} {s : State} (hyp : Keeps α s) :
    Keeps α (marginDone c low high worst errors late s) := by
  unfold marginDone
  split
  · exact hyp
  · exact raise_keeps (wantSteer_keeps (State.setOb_keeps (State.modTr_keeps hyp)))

theorem takeMasks_keeps {α : State} {n : Nat} {s : State} (hyp : Keeps α s) : Keeps α (takeMasks n s) :=
  hyp.free (takeMasks_fr (Fr.refl 393216 s))

theorem tellReturning_keeps {α : State} {node : Nat} {s : State} (hyp : Keeps α s) : Keeps α (tellReturning node s) :=
  Keeps.ite hyp (sendControl_keeps (computeRoutes_keeps (State.setSet_keeps hyp)))

theorem missingBeats_keeps {α : State} {c : Nat} {s : State} (hyp : Keeps α s) : Keeps α (missingBeats c s) := by
  unfold missingBeats
  split
  · exact hyp
  · split
    · exact Keeps.ite (failFlight_keeps (State.bump_keeps hyp)) (redoTemp_keeps (State.modChan_keeps (State.bump_keeps hyp)))
    · exact failFlight_keeps (State.bump_keeps hyp)

theorem noticeTaken_keeps {α : State} {object value : Nat} {s : State} (hyp : Keeps α s) : Keeps α (noticeTaken object value s) :=
  hyp.free (noticeTaken_fr (Fr.refl 131072 s))

theorem notifyNext_keeps {α : State} {n : Nat} {s : State} (hyp : Keeps α s) : Keeps α (notifyNext n s) := by
  unfold notifyNext
  split
  · exact sendNotify_keeps (State.setNotifyQ_keeps hyp)
  · exact State.setNotifyQ_keeps hyp

theorem noteOrder_keeps {α : State} {lead order low idx sub : Nat} {value : List Byte} {s : State} (hyp : Keeps α s) :
    Keeps α (noteOrder lead order low idx sub value s) :=
  State.setWrites_keeps hyp

theorem reconcileSet_keeps {α : State} {idx sub : Nat} {value : List Byte} {s : State} (hyp : Keeps α s) :
    Keeps α (reconcileSet idx sub value s) := by
  unfold reconcileSet
  split
  · exact hyp
  · exact Keeps.ite hyp (Keeps.ite (persistOwn_keeps (raise_keeps hyp)) (Keeps.ite (writePolicy_keeps (raise_keeps hyp)) (Keeps.ite
      (loadSampler_keeps (State.setOb_keeps (raise_keeps hyp))) (applySetting_keeps (raise_keeps hyp)))))

theorem wholeWrite_keeps {α : State} {hdr : Hdr} {idx sub order : Nat} {value : List Byte} {s : State} (hyp : Keeps α s) :
    Keeps α (wholeWrite hdr idx sub order value s) := by
  unfold wholeWrite
  refine Keeps.ite (Keeps.ite (reconcileSet_keeps hyp) (Keeps.ite (leadOrder_keeps hyp (fun _ _ => carriedHome_keeps (.refl _))) hyp)) (Keeps.ite
    (Keeps.ite hyp ?_) (Keeps.ite (complete_keeps hyp) (settle_keeps (carriedHome_keeps (noteOrder_keeps hyp)))))
  split
  · exact keepsW_of_done ‹_› (carriedHome_keeps (noteOrder_keeps hyp))
  · exact keepsW_of_refused ‹_› (carriedHome_keeps (noteOrder_keeps hyp))
  · exact keepsW_of_wait ‹_› (carriedHome_keeps (noteOrder_keeps hyp))

theorem objectTaken_keeps {α : State} {hdr : Hdr} {idx sub order : Nat} {value : List Byte} {s : State} (hyp : Keeps α s) :
    Keeps α (objectTaken hdr idx sub order value s) :=
  Keeps.ite (State.setWrites_keeps hyp) (wholeWrite_keeps (State.setWrites_keeps hyp))

theorem expireAsk_keeps {α : State} {q : Ask} {s : State} (hyp : Keeps α s) : Keeps α (expireAsk q s) := by
  unfold expireAsk
  refine syncQueues_keeps (refuseLater_keeps (Keeps.ite (raise_keeps ?_) ?_))
  · split
    · exact degrade_keeps (State.bump_keeps hyp)
    · exact degrade_keeps (State.bump_keeps hyp)
    · exact degrade_keeps (State.bump_keeps hyp)
    · exact raiseNode_keeps (State.bump_keeps (State.bump_keeps hyp))
  · split
    · exact degrade_keeps (State.bump_keeps hyp)
    · exact degrade_keeps (State.bump_keeps hyp)
    · exact degrade_keeps (State.bump_keeps hyp)
    · exact raiseNode_keeps (State.bump_keeps (State.bump_keeps hyp))

theorem placeRead_keeps {α : State} {q : Ask} {s : State} (hyp : Keeps α s) : Keeps α (placeRead q s) :=
  pushRead_keeps (countHit_keeps (noteEntry_keeps hyp))

theorem writeThroughCache_keeps {α : State} {q : Ask} {mask data info : Nat} {s : State} (hyp : Keeps α s) :
    Keeps α (writeThroughCache q mask data info s) := by
  unfold writeThroughCache
  refine Keeps.ite (Keeps.ite (countIf_keeps hyp) hyp) ?_
  split
  · exact countHit_keeps (State.setWay_keeps (Keeps.ite (countIf_keeps hyp) hyp))
  · exact Keeps.ite (allocWrite_keeps (countHit_keeps (Keeps.ite (countIf_keeps hyp) hyp))) (countHit_keeps (Keeps.ite (countIf_keeps hyp) hyp))

theorem placeWrite_keeps {α : State} {q : Ask} {s : State} (hyp : Keeps α s) : Keeps α (placeWrite q s) := by
  unfold placeWrite
  split
  · split
    · exact absorbWrite_keeps (State.modAsk_keeps hyp)
    · exact Keeps.ite (wholePlaced_keeps (writeThroughCache_keeps (pushWrite_keeps hyp))) (Keeps.ite (State.modAsk_keeps (writeThroughCache_keeps
        (pushWrite_keeps hyp))) (writeThroughCache_keeps (pushWrite_keeps hyp)))
  · exact wholePlaced_keeps (pushWrite_keeps hyp)
  · exact hyp

theorem grantEntry_keeps {α : State} {q : Ask} {write : Bool} {s : State} (hyp : Keeps α s) : Keeps α (grantEntry q write s) :=
  Keeps.ite (placeRead_keeps (State.modAsk_keeps hyp)) (Keeps.ite (refuseLater_keeps hyp) (Keeps.ite (serveHit_keeps hyp) (Keeps.ite (grant_keeps
    hyp (fun _ => placeWrite_keeps (.refl _))) (grant_keeps hyp (fun _ => placeRead_keeps (.refl _))))))

theorem grantOne_keeps {α : State} {c : Nat} {write : Bool} {s : State} (hyp : Keeps α s) : Keeps α (grantOne c write s) := by
  unfold grantOne
  split
  · exact syncWfq_keeps hyp
  · exact Keeps.ite (serveAll_keeps (syncWfq_keeps (State.setWfq_keeps (grantEntry_keeps (syncWfq_keeps hyp))))) (serveAll_keeps (syncWfq_keeps
      (grantEntry_keeps (syncWfq_keeps hyp))))

theorem grantAll_keeps {α : State} {c : Nat} {write : Bool} {s : State} (hyp : Keeps α s) : Keeps α (grantAll c write s) :=
  each_keeps hyp (fun _ _ => grantOne_keeps (.refl _))

theorem expireHolds_keeps {α s : State} (hyp : Keeps α s) : Keeps α (expireHolds s) := by
  unfold expireHolds
  refine serveAll_keeps (each_keeps (each_keeps (serveAll_keeps hyp) (fun _ _ => grantAll_keeps (.refl _))) (fun _ _ => ?_))
  split
  · exact Keeps.ite (expireAsk_keeps (.refl _)) (.refl _)
  · exact (.refl _)

theorem takePanic_keeps {α : State} {p level : Nat} {s : State} (hyp : Keeps α s) : Keeps α (takePanic p level s) :=
  Keeps.ite hyp (Keeps.ite (State.setPanic_keeps (State.setOb_keeps hyp)) (Keeps.ite (State.bump_keeps (State.setOb_keeps (State.setPanic_keeps
    (State.setOb_keeps hyp)))) (State.setOb_keeps (State.setPanic_keeps (State.setOb_keeps hyp)))))

theorem launch_keeps {α : State} {h : Nat} {q : Parcel} {s : State} (hyp : Keeps α s) : Keeps α (launch h q s) :=
  State.setPort_keeps (Keeps.ite (State.bump_keeps (State.send_keeps hyp)) (State.bumpBy_keeps (State.bump_keeps (State.send_keeps hyp))))

theorem noteWait_keeps {α : State} {h : Nat} {q : Parcel} {s : State} (hyp : Keeps α s) : Keeps α (noteWait h q s) :=
  Keeps.ite hyp (countIf_keeps (State.setPort_keeps (State.bump_keeps hyp)))

theorem settleRoutes_keeps {α : State} {h : Nat} {s : State} (hyp : Keeps α s) : Keeps α (settleRoutes h s) := by
  unfold settleRoutes
  refine each_keeps ?_ (fun _ _ => reissue_keeps (.refl _))
  split
  · exact Keeps.ite (peerBack_keeps hyp) hyp
  · exact hyp

theorem transmit_keeps {α : State} {h : Nat} {s : State} (hyp : Keeps α s) : Keeps α (transmit h s) := by
  unfold transmit
  dsimp only
  split
  · exact each_keeps (settleRoutes_keeps hyp) (fun _ _ => noteWait_keeps (.refl _))
  · exact count_keeps (launch_keeps (State.setPort_keeps (each_keeps (settleRoutes_keeps hyp) (fun _ _ => noteWait_keeps (.refl _)))))
  · exact countIf_keeps (launch_keeps (State.bump_keeps (State.setPort_keeps (each_keeps (settleRoutes_keeps hyp) (fun _ _ => noteWait_keeps
      (.refl _))))))
  · exact State.peak_keeps (launch_keeps (countParcel_keeps (State.setPort_keeps (each_keeps (settleRoutes_keeps hyp) (fun _ _ => noteWait_keeps
      (.refl _))))))

theorem memberHeard_keeps {α : State} {node state : Nat} {s : State} (hyp : Keeps α s) : Keeps α (memberHeard node state s) :=
  Keeps.ite (Keeps.ite (breakContinuity_keeps (State.setSet_keeps hyp)) (State.setSet_keeps hyp)) (computeRoutes_keeps (Keeps.ite
    (breakContinuity_keeps (State.setSet_keeps hyp)) (State.setSet_keeps hyp)))

theorem partnerHeard_keeps {α : State} {address period : Nat} {s : State} (hyp : Keeps α s) : Keeps α (partnerHeard address period s) :=
  Keeps.ite (raiseNode_keeps (Keeps.update (State.setOb_keeps hyp))) (Keeps.update (State.setOb_keeps hyp))

theorem refusePlan_keeps {α : State} {f : PlanFault} {s : State} (hyp : Keeps α s) : Keeps α (refusePlan f s) :=
  raiseNode_keeps (State.setOb_keeps (State.setOb_keeps (State.setOb_keeps (setPlanState_keeps (dropImage_keeps (State.setPlans_keeps hyp))))))

theorem noteFormatFault_keeps {α : State} {img : List Byte} {f : PlanFault} {s : State} (hyp : Keeps α s) :
    Keeps α (noteFormatFault img f s) := by
  unfold noteFormatFault
  refine Keeps.ite hyp ?_
  split
  · exact recordCheck_keeps hyp
  · exact hyp

theorem imageChecked_keeps {α : State} {other : Option PlanFault} {s : State} (hyp : Keeps α s) : Keeps α (imageChecked other s) := by
  unfold imageChecked
  split
  · exact hyp
  · refine Keeps.ite hyp ?_
    split
    · exact noteFormatFault_keeps (refusePlan_keeps hyp)
    · exact refusePlan_keeps hyp
    · exact raiseNode_keeps (State.setOb_keeps (setPlanState_keeps (dropImage_keeps (State.setPlans_keeps hyp))))
    · exact hyp

theorem rejoinChecked.bad_keeps {α s : State} (hyp : Keeps α s) : Keeps α (rejoinChecked.bad s) :=
  State.setOb_keeps (Keeps.update (dropImage_keeps hyp))

theorem rejoinChecked.passed_keeps {α : State} {p : Option Plan} {s : State} (hyp : Keeps α s) : Keeps α (rejoinChecked.passed p s) :=
  Keeps.update (dropImage_keeps hyp)

theorem rejoinChecked_keeps {α : State} {id crc : Nat} {s : State} (hyp : Keeps α s) : Keeps α (rejoinChecked id crc s) := by
  unfold rejoinChecked
  refine Keeps.ite (rejoinChecked.passed_keeps hyp) (Keeps.ite (rejoinChecked.bad_keeps hyp) ?_)
  split
  · exact Keeps.ite (rejoinChecked.passed_keeps hyp) (rejoinChecked.bad_keeps hyp)
  · exact Keeps.ite (readImage_keeps hyp) (rejoinChecked.bad_keeps hyp)
  · exact Keeps.ite hyp (readImage_keeps hyp)

theorem portReady_keeps {α : State} {t : Nat} {s : State} (hyp : Keeps α s) : Keeps α (portReady t s) :=
  Keeps.ite (setPortState_keeps (State.setFeeds_keeps hyp)) (State.setFeeds_keeps hyp)

theorem powerOn_keeps {α s : State} (hyp : Keeps α s) : Keeps α (powerOn s) :=
  Keeps.ite (coldState_keeps hyp) hyp

theorem takePowerWarn_keeps {α : State} {level : Bool} {s : State} (hyp : Keeps α s) : Keeps α (takePowerWarn level s) :=
  hyp.free (takePowerWarn_fr (Fr.refl 16 s))

theorem takePrepare_keeps {α : State} {f plan : Nat} {s : State} (hyp : Keeps α s) : Keeps α (takePrepare f plan s) :=
  sendControl_keeps (Keeps.ite (State.setPlans_keeps (State.setOb_keeps hyp)) hyp)

theorem flushStaged_keeps {α : State} {s : State} (hyp : Keeps α s) :
    Keeps α (flushStaged s) := by
  unfold flushStaged
  extract_lets staged lost p1 s1 s2
  have h1 : Keeps α s1 := hyp.update (staged := fun _ => Nat.zero_le _)
  have h2 : Keeps α s2 := each_keeps h1 fun _ s => logEvent_keeps (Keeps.refl s)
  exact Keeps.ite h2 (raiseNode_keeps h2)

theorem procBack_keeps {α : State} {i : ProcId} {s : State} (hyp : Keeps α s) :
    Keeps α (procBack i s) := by
  unfold procBack
  refine Keeps.ite hyp ?_
  extract_lets s1
  have h1 : Keeps α s1 := hyp.setProc i _
  split
  · exact each_keeps h1.update fun _ s => fenceContext_keeps (Keeps.refl s)
  · exact flushStaged_keeps h1
  · exact each_keeps h1.update fun _ s => startHard_keeps (Keeps.refl s)
  · exact h1

theorem resetQos_keeps {α : State} {kind n : Nat} {s : State} (hyp : Keeps α s) : Keeps α (resetQos kind n s) := by
  unfold resetQos
  split
  · exact fillMeter_keeps hyp
  · exact setShaper_keeps hyp
  · exact stopWindow_keeps (State.setOb_keeps (State.setOb_keeps hyp))
  · exact State.setPath_keeps hyp

theorem putStored_keeps {α : State} {c : Nat} {a : Nat} {l : Nat × Nat} {s : State} (hyp : Keeps α s) :
    Keeps α (putStored c a l s) :=
  hyp.memory (writePhys_memory ..)

theorem fillFailed_keeps {α : State} {c a : Nat} {restored : Bool} {s : State} (hyp : Keeps α s) : Keeps α (fillFailed c a restored s) :=
  Keeps.ite (raiseAt_keeps (State.bump_keeps (Keeps.ite hyp (raiseAt_keeps (State.bump_keeps hyp))))) (Keeps.ite (raiseAt_keeps (State.bump_keeps
    (State.setOb_keeps (Keeps.ite hyp (raiseAt_keeps (State.bump_keeps hyp)))))) (raiseAt_keeps (State.bump_keeps (State.setOb_keeps (Keeps.ite
    hyp (raiseAt_keeps (State.bump_keeps hyp)))))))

theorem fillSpare_keeps {α : State} {b : Rebuild} {s : State} (hyp : Keeps α s) : Keeps α (fillSpare b s) :=
  each_keeps (raise_keeps (each_keeps (each_keeps (each_keeps hyp (fun _ _ => fillFailed_keeps (.refl _))) (fun _ _ => fillRows_keeps (.refl _)))
    (fun _ _ => putStored_keeps (.refl _)))) (fun _ _ => Keeps.ite (signalObject_keeps (.refl _)) (.refl _))

theorem reconstitutionDone_keeps {α s : State} (hyp : Keeps α s) : Keeps α (reconstitutionDone s) := by
  unfold reconstitutionDone
  split
  · exact hyp
  · exact Keeps.ite hyp (State.setOb_keeps (State.setOb_keeps (State.setPath_keeps (fillSpare_keeps hyp))))

theorem reduceTimeouts_keeps {α s : State} (hyp : Keeps α s) : Keeps α (reduceTimeouts s) :=
  each_keeps hyp (fun _ _ => breakRed_keeps (.refl _))

theorem refBAbsent_keeps {α s : State} (hyp : Keeps α s) : Keeps α (refBAbsent s) :=
  Keeps.ite hyp (Keeps.ite (State.setSource_keeps (State.setOb_keeps (State.setSource_keeps hyp))) (State.setOb_keeps (State.setSource_keeps
    hyp)))

theorem startWindow_keeps {α : State} {r : Nat} {first : Bool} {s : State} (hyp : Keeps α s) : Keeps α (startWindow r first s) :=
  State.setRegWindow_keeps (State.setOb_keeps (State.setOb_keeps hyp))

theorem nodeReturns_keeps {α : State} {node : Nat} {s : State} (hyp : Keeps α s) : Keeps α (nodeReturns node s) :=
  Keeps.ite hyp (computeRoutes_keeps (State.setSet_keeps hyp))

theorem requestTaken_keeps {α : State} {h : Nat} {hdr : Hdr} {body : List Byte} {s : State} (hyp : Keeps α s) :
    Keeps α (requestTaken h hdr body s) :=
  Keeps.ite hyp (Keeps.ite (sendParcel_keeps (arrive_keeps hyp)) (serveAll_keeps (arrive_keeps hyp)))

theorem toWrite_keeps {α : State} {c num : Nat} {l : Nat × Nat} {heal : Bool} {s : State} (hyp : Keeps α s) :
    Keeps α (toWrite c num l heal s) :=
  hyp.free (toWrite_fr (Fr.refl 262144 s))

theorem takeWeak_keeps {α : State} {c : Nat} {w : Weak} {s : State} (hyp : Keeps α s) : Keeps α (takeWeak c w s) := by
  unfold takeWeak
  split
  · exact setWeak_keeps hyp
  · exact raise_keeps (State.bump_keeps hyp)

theorem trackRewritten_keeps {α : State} {c line : Nat} {s : State} (hyp : Keeps α s) : Keeps α (trackRewritten c line s) := by
  unfold trackRewritten
  split
  · exact takeWeak_keeps hyp
  · exact healedNow_keeps hyp

theorem notifyLine_keeps {α : State} {r : Nat} {g : Region} {a cause : Nat} {s : State} (hyp : Keeps α s) :
    Keeps α (notifyLine r g a cause s) :=
  Keeps.ite (signalObject_keeps (raise_keeps (State.bump_keeps hyp))) (offerInternal_keeps (State.setOb_keeps hyp))

theorem poisonRec_keeps {α : State} {c : Nat} {r : Rec} {cause : Nat} {s : State} (hyp : Keeps α s) : Keeps α (poisonRec c r cause s) := by
  unfold poisonRec
  refine trackRewritten_keeps (deliverRec_keeps (toWrite_keeps ?_))
  split
  · exact Keeps.ite (notifyLine_keeps (Keeps.ite (raiseAt_keeps (State.bump_keeps (State.setOb_keeps hyp))) (Keeps.ite (raiseEvent_keeps
      (raiseAt_keeps (State.bump_keeps (State.setOb_keeps hyp)))) (raiseAt_keeps (State.bump_keeps (State.setOb_keeps hyp)))))) (Keeps.ite
      (raiseAt_keeps (State.bump_keeps (State.setOb_keeps hyp))) (Keeps.ite (raiseEvent_keeps (raiseAt_keeps (State.bump_keeps (State.setOb_keeps
      hyp)))) (raiseAt_keeps (State.bump_keeps (State.setOb_keeps hyp)))))
  · exact Keeps.ite (raiseAt_keeps (State.bump_keeps (State.setOb_keeps hyp))) (Keeps.ite (raiseEvent_keeps (raiseAt_keeps (State.bump_keeps
      (State.setOb_keeps hyp)))) (raiseAt_keeps (State.bump_keeps (State.setOb_keeps hyp))))

theorem rereadFailed_keeps {α : State} {c : Nat} {r : Rec} {s : State} (hyp : Keeps α s) : Keeps α (rereadFailed c r s) := by
  unfold rereadFailed
  split
  · exact Keeps.ite (Keeps.ite (endRestore_keeps (countAccess_keeps (modRec_keeps hyp))) (farRead_keeps (modRec_keeps hyp))) (poisonRec_keeps hyp)
  · exact poisonRec_keeps hyp

theorem trackOk_keeps {α : State} {c line : Nat} {s : State} (hyp : Keeps α s) : Keeps α (trackOk c line s).2 := by
  unfold trackOk
  split
  · exact takeWeak_keeps hyp
  · split
    · exact hyp
    · exact setWeak_keeps hyp

theorem rereadPassed_keeps {α : State} {c : Nat} {r : Rec} {l : Nat × Nat} {s : State} (hyp : Keeps α s) : Keeps α (rereadPassed c r l s) :=
  deliverRec_keeps (Keeps.ite (toWrite_keeps (trackOk_keeps (raiseAt_keeps (State.bump_keeps (State.bump_keeps hyp))))) (freeRec_keeps
    (trackOk_keeps (raiseAt_keeps (State.bump_keeps (State.bump_keeps hyp))))))

theorem rereadBack_keeps {α : State} {c : Nat} {f : Flight} {s : State} (hyp : Keeps α s) : Keeps α (rereadBack c f s) := by
  unfold rereadBack
  dsimp only
  split
  · split
    · exact dropFlight_keeps hyp
    · split
      · exact rereadPassed_keeps (dropFlight_keeps hyp)
      · exact rereadFailed_keeps (dropFlight_keeps hyp)
  · exact dropFlight_keeps hyp

theorem rested_keeps {α s : State} (hyp : Keeps α s) : Keeps α (rested s) :=
  Keeps.ite (beginWake_keeps (raiseNode_keeps (State.setOb_keeps (State.setPower_keeps (Keeps.ite (each_keeps (each_keeps (State.setClk_keeps
    (each_keeps (State.setCache_keeps (stopProcs_keeps (State.setSec_keeps hyp))) (fun _ _ => Keeps.ite (State.setPort_keeps (.refl _)) (.refl
    _)))) (fun _ _ => setDomain_keeps (.refl _))) (fun _ _ => State.setOb_keeps (.refl _))) (each_keeps (State.setClk_keeps (each_keeps
    (State.setCache_keeps (stopProcs_keeps (State.setSec_keeps hyp))) (fun _ _ => Keeps.ite (State.setPort_keeps (.refl _)) (.refl _))))
    (fun _ _ => setDomain_keeps (.refl _)))))))) (raiseNode_keeps (State.setOb_keeps (State.setPower_keeps (Keeps.ite (each_keeps (each_keeps
    (State.setClk_keeps (each_keeps (State.setCache_keeps (stopProcs_keeps (State.setSec_keeps hyp))) (fun _ _ => Keeps.ite (State.setPort_keeps
    (.refl _)) (.refl _)))) (fun _ _ => setDomain_keeps (.refl _))) (fun _ _ => State.setOb_keeps (.refl _))) (each_keeps (State.setClk_keeps
    (each_keeps (State.setCache_keeps (stopProcs_keeps (State.setSec_keeps hyp))) (fun _ _ => Keeps.ite (State.setPort_keeps (.refl _)) (.refl
    _)))) (fun _ _ => setDomain_keeps (.refl _)))))))

theorem restStep_keeps {α s : State} (hyp : Keeps α s) : Keeps α (restStep s) :=
  Keeps.ite hyp (Keeps.ite (rested_keeps hyp) (each_keeps (Keeps.ite (setSpareMasks_keeps hyp) hyp) (fun _ _ => drainChannel_keeps (.refl _))))

theorem restoreEnded_keeps {α : State} {x : Restored} {s : State} (hyp : Keeps α s) : Keeps α (restoreEnded x s) := by
  unfold restoreEnded
  dsimp only
  split
  · exact hyp
  · split
    · exact Keeps.ite (poisonRec_keeps (raiseAt_keeps (State.bump_keeps hyp))) (trackRewritten_keeps (deliverRec_keeps (toWrite_keeps
        (raiseAt_keeps (State.bump_keeps hyp)))))
    · exact poisonRec_keeps (raiseAt_keeps (State.bump_keeps hyp))

theorem rejectRestore_keeps {α : State} {c : Nat} {s : State} (hyp : Keeps α s) : Keeps α (rejectRestore c s) :=
  wantFull_keeps (raise_keeps (calibrationBad_keeps hyp))

theorem restoreDone_keeps {α : State} {c : Nat} {ok : Bool} {s : State} (hyp : Keeps α s) : Keeps α (restoreDone c ok s) :=
  Keeps.ite hyp (Keeps.ite (rejectRestore_keeps hyp) (trained_keeps (applyRecord_keeps hyp)))

theorem retrainLimit_keeps {α : State} {h : Nat} {s : State} (hyp : Keeps α s) : Keeps α (retrainLimit h s) :=
  Keeps.ite hyp (checkLoss_keeps (setOwnLink_keeps (raise_keeps (State.setPort_keeps hyp))))

theorem roundStart_keeps {α : State} {c : Nat} {s : State} (hyp : Keeps α s) : Keeps α (roundStart c s) :=
  Keeps.ite hyp (Keeps.ite (Keeps.ite hyp (State.bump_keeps (State.modTr_keeps hyp))) (Keeps.ite hyp (groupOffline_keeps (State.setOb_keeps
    (State.modTr_keeps hyp)))))

theorem placeMove_keeps {α : State} {c : Nat} {s : State} (hyp : Keeps α s) : Keeps α (placeMove c s) :=
  hyp.free (placeMove_fr (Fr.refl 262144 s))

theorem pumpMoves_keeps {α s : State} (hyp : Keeps α s) : Keeps α (pumpMoves s) :=
  pump_keeps (each_keeps hyp (fun _ _ => placeMove_keeps (.refl _)))

theorem relocate_keeps {α : State} {c layer bank row t trow : Nat} {s : State} (hyp : Keeps α s) :
    Keeps α (relocate c layer bank row t trow s) :=
  syncDepth_keeps (syncDepth_keeps (State.modChan_keeps (State.modChan_keeps hyp)))

theorem forgetRow_keeps {α : State} {c layer bank row : Nat} {s : State} (hyp : Keeps α s) : Keeps α (forgetRow c layer bank row s) := by
  unfold forgetRow
  refine each_keeps hyp (fun _ _ => ?_)
  split
  · exact Keeps.ite (setWeak_keeps (.refl _)) (.refl _)
  · exact (.refl _)

theorem finishMove_keeps {α : State} {c : Nat} {s : State} (hyp : Keeps α s) : Keeps α (finishMove c s) := by
  unfold finishMove
  split
  · exact hyp
  · refine Keeps.ite hyp (Keeps.ite (raise_keeps (logRepair_keeps (State.bump_keeps (State.modChan_keeps (forgetRow_keeps (State.modChan_keeps
      (State.modChan_keeps hyp))))))) (Keeps.ite ?_ ?_))
    · split
      · exact forgetRow_keeps (State.modChan_keeps (State.modChan_keeps hyp))
      · exact Keeps.ite (unprotect_keeps (raise_keeps (setRetirement_keeps (State.setOb_keeps (relocate_keeps (forgetRow_keeps
          (State.modChan_keeps (State.modChan_keeps hyp)))))))) (raise_keeps (logRepair_keeps (setRetirement_keeps (relocate_keeps
          (forgetRow_keeps (State.modChan_keeps (State.modChan_keeps hyp)))))))
    · split
      · exact unprotect_keeps (forgetRow_keeps (State.modChan_keeps (State.modChan_keeps hyp)))
      · exact raise_keeps (logRepair_keeps (State.bump_keeps (State.bump_keeps (relocate_keeps (setRetirement_keeps (forgetRow_keeps
          (State.modChan_keeps (State.modChan_keeps hyp))))))))

theorem startMove_keeps {α : State} {c : Nat} {s : State} (hyp : Keeps α s) : Keeps α (startMove c s) := by
  unfold startMove
  dsimp only
  split
  · exact Keeps.ite hyp (Keeps.ite (State.modChan_keeps hyp) (Keeps.ite (unprotect_keeps (State.modChan_keeps hyp)) (each_keeps
      (State.modChan_keeps (State.modChan_keeps hyp)) (fun _ _ => pushRead_keeps (.refl _)))))
  · exact hyp

theorem selfRefreshEntry_keeps {α : State} {c : Nat} {s : State} (hyp : Keeps α s) : Keeps α (selfRefreshEntry c s) := by
  unfold selfRefreshEntry
  dsimp only
  split
  · exact hyp
  · refine Keeps.ite hyp ?_
    split
    · exact Keeps.ite (enterSelfRefresh_keeps hyp) hyp
    · split
      · exact Keeps.ite (entryMode_keeps hyp) hyp
      · exact Keeps.ite (entrySre_keeps hyp) hyp
    · exact Keeps.ite hyp (Keeps.ite (entryPreab_keeps hyp) hyp)

theorem selfRefreshExit_keeps {α : State} {c : Nat} {s : State} (hyp : Keeps α s) : Keeps α (selfRefreshExit c s) :=
  Keeps.ite (Keeps.ite (Keeps.ite (exitSrx_keeps hyp) hyp) (Keeps.ite hyp (wantFull_keeps (raise_keeps hyp)))) (Keeps.ite hyp (Keeps.ite
    (Keeps.ite (exitSrx_keeps hyp) hyp) (Keeps.ite hyp (raise_keeps (State.setChanState_keeps (leaveSelfRefresh_keeps hyp))))))

theorem silentSensor_keeps {α : State} {st n : Nat} {s : State} (hyp : Keeps α s) : Keeps α (silentSensor st n s) :=
  Keeps.ite hyp (noteCool_keeps (Keeps.ite (showLogic_keeps (breakSensor_keeps hyp)) (afterReadings_keeps (showSensor_keeps (breakSensor_keeps
    hyp)))))

theorem pllRestartLimit_keeps {α : State} {u : Nat} {s : State} (hyp : Keeps α s) : Keeps α (pllRestartLimit u s) :=
  Keeps.ite hyp (each_keeps (State.setClk_keeps hyp) (fun _ _ => Keeps.ite (failChannel_keeps (.refl _)) (.refl _)))

theorem recordWritten_keeps {α s : State} (hyp : Keeps α s) : Keeps α (recordWritten s) :=
  Keeps.ite hyp (State.setHeat_keeps (Keeps.update (State.setOb_keeps (State.setOb_keeps hyp))))

theorem takeReplicas_keeps {α : State} {counts : List (Option Nat)} {s : State} (hyp : Keeps α s) : Keeps α (takeReplicas counts s) :=
  hyp.free (takeReplicas_fr (Fr.refl 16777216 s))

theorem slackMeasurement_keeps {α : State} {counts : List (Option Nat)} {s : State} (hyp : Keeps α s) :
    Keeps α (slackMeasurement counts s) :=
  Keeps.ite hyp (driveVreq_keeps (Keeps.ite (startDerate_keeps (raiseNode_keeps (State.setOb_keeps (Keeps.ite (raiseNode_keeps (State.setOb_keeps
    (State.bump_keeps (State.setClk_keeps (State.peak_keeps (State.setOb_keeps (takeReplicas_keeps (State.setClk_keeps hyp))))))))
    (State.setClk_keeps (State.peak_keeps (State.setOb_keeps (takeReplicas_keeps (State.setClk_keeps hyp))))))))) (Keeps.ite (raiseNode_keeps
    (State.setOb_keeps (State.bump_keeps (State.setClk_keeps (State.peak_keeps (State.setOb_keeps (takeReplicas_keeps (State.setClk_keeps
    hyp)))))))) (State.setClk_keeps (State.peak_keeps (State.setOb_keeps (takeReplicas_keeps (State.setClk_keeps hyp))))))))

theorem sliceTaken_keeps {α : State} {x : Nat} {repaired : Bool} {s : State} (hyp : Keeps α s) : Keeps α (sliceTaken x repaired s) :=
  Keeps.ite hyp (writeBackAll_keeps (each_keeps (raise_keeps (setSlice_keeps hyp)) (fun _ _ => Keeps.ite (State.setWay_keeps (.refl _)) (.refl
    _))))

theorem slotCopied_keeps {α s : State} (hyp : Keeps α s) : Keeps α (slotCopied s) :=
  Keeps.ite hyp (runActive_keeps (Keeps.ite (setNode_keeps (raiseNode_keeps (setStaging_keeps (State.setOb_keeps (unverify_keeps
    (State.bumpBy_keeps (persistOwn_keeps (Keeps.update hyp)))))))) (raiseNode_keeps (setStaging_keeps (State.setOb_keeps (unverify_keeps
    (State.bumpBy_keeps (persistOwn_keeps (Keeps.update hyp)))))))))

theorem snapshotCapture_keeps {α s : State} (hyp : Keeps α s) : Keeps α (snapshotCapture s) :=
  Keeps.ite hyp (Keeps.ite (State.setOb_keeps (State.setOb_keeps hyp)) (State.setOb_keeps (State.setOb_keeps (State.setOb_keeps (State.setOb_keeps
    (State.bump_keeps (each_keeps hyp (fun _ _ => each_keeps (.refl _) (fun _ _ => State.setOb_keeps (.refl _))))))))))

theorem sheafPllStable_keeps {α : State} {u : Nat} {s : State} (hyp : Keeps α s) : Keeps α (sheafPllStable u s) := by
  unfold sheafPllStable
  refine Keeps.ite (Keeps.ite (setDomain_keeps (State.setClk_keeps hyp)) (fellBack_keeps (setDomain_keeps (State.setClk_keeps hyp)))) ?_
  split
  · exact setDomain_keeps (State.setClk_keeps hyp)
  · exact Keeps.ite (setDomain_keeps (State.setClk_keeps hyp)) (State.setClk_keeps hyp)
  · exact State.setClk_keeps hyp

theorem foStable_keeps {α s : State} (hyp : Keeps α s) : Keeps α (foStable s) :=
  each_keeps hyp (fun _ _ => Keeps.ite (fellBack_keeps (setDomain_keeps (.refl _))) (Keeps.ite (setDomain_keeps (.refl _)) (.refl _)))

theorem nowStable_keeps {α : State} {m : Nat} {s : State} (hyp : Keeps α s) : Keeps α (nowStable m s) := by
  unfold nowStable
  dsimp only
  split
  · exact enablePlls_keeps hyp
  · split
    · exact State.setSource_keeps (State.setOb_keeps hyp)
    · exact State.setOb_keeps hyp
  · exact foStable_keeps hyp
  · exact Keeps.ite (fellBack_keeps (setKeeper_keeps hyp)) (Keeps.ite (State.setOb_keeps (setKeeper_keeps hyp)) hyp)
  · exact Keeps.ite (fellBack_keeps (setKeeper_keeps hyp)) hyp
  · exact Keeps.ite (setKeeper_keeps hyp) (Keeps.ite (setKeeper_keeps hyp) (Keeps.ite (setKeeper_keeps hyp) hyp))
  · exact hyp
  · exact Keeps.ite (sheafPllStable_keeps hyp) hyp

theorem sourceStable_keeps {α : State} {m : Nat} {s : State} (hyp : Keeps α s) : Keeps α (sourceStable m s) :=
  Keeps.ite hyp (nowStable_keeps (State.setSource_keeps hyp))

theorem stall_keeps {α : State} {n : Nat} {s : State} (hyp : Keeps α s) : Keeps α (stall n s) := by
  unfold stall
  split
  · exact hyp
  · exact Keeps.ite (fenceContext_keeps (raiseCtx_keeps hyp)) hyp

theorem stepTimeout_keeps {α : State} {c g : Nat} {s : State} (hyp : Keeps α s) : Keeps α (stepTimeout c g s) := by
  unfold stepTimeout
  refine Keeps.ite hyp (Keeps.ite (rejectRestore_keeps hyp) (Keeps.ite (Keeps.ite (lostFor_keeps (calibrationBad_keeps hyp)) (calibrationBad_keeps
    (State.modTr_keeps hyp))) (Keeps.ite hyp ?_)))
  split
  · exact nextGroup_keeps (groupBad_keeps (State.modTr_keeps (layerVref_keeps (calibrationBad_keeps (each_keeps hyp (fun _ _ => State.setOb_keeps
      (.refl _)))))))
  · exact State.modTr_keeps (calibrationBad_keeps (each_keeps hyp (fun _ _ => State.setOb_keeps (.refl _))))

theorem takeStraps_keeps {α : State} {nodeId setSize : Nat} {recovery : Bool} {s : State} (hyp : Keeps α s) :
    Keeps α (takeStraps nodeId setSize recovery s) :=
  hyp.free (takeStraps_fr (Fr.refl 16 s))

theorem keeperStarts_keeps {α s : State} (hyp : Keeps α s) : Keeps α (keeperStarts s) :=
  raiseNode_keeps (loadSampler_keeps (State.setPower_keeps hyp))

theorem sampleStraps_keeps {α : State} {nodeId setSize : Nat} {recovery : Bool} {s : State} (hyp : Keeps α s) :
    Keeps α (sampleStraps nodeId setSize recovery s) := by
  unfold sampleStraps
  refine Keeps.ite hyp (Keeps.ite (Keeps.ite (keeperStarts_keeps (State.setPower_keeps ?_)) (State.setPower_keeps ?_)) (Keeps.ite
    (keeperStarts_keeps (takeStraps_keeps hyp)) hyp))
  · split
    · exact Keeps.update (takeStraps_keeps hyp)
    · exact Keeps.update (takeStraps_keeps hyp)
  · split
    · exact Keeps.update (takeStraps_keeps hyp)
    · exact Keeps.update (takeStraps_keeps hyp)

theorem readMask_keeps {α : State} {n w : Nat} {t : Stream} {s : State} (hyp : Keeps α s) : Keeps α (readMask n w t s) :=
  offerChecked_keeps (State.modStream_keeps hyp)

theorem registerWatch_keeps {α : State} {n obj : Nat} {t : Stream} {s : State} (hyp : Keeps α s) : Keeps α (registerWatch n obj t s) :=
  Keeps.ite (Keeps.ite hyp (State.modStream_keeps (State.setCache_keeps hyp))) (Keeps.ite (lostTarget_keeps hyp) (forwardAsk_keeps hyp))

theorem supplyLoss_keeps {α : State} {vphy : Bool} {s : State} (hyp : Keeps α s) : Keeps α (supplyLoss vphy s) :=
  Keeps.ite hyp (Keeps.ite (Keeps.ite (each_keeps (State.setPower_keeps hyp) (fun _ _ => setDomain_keeps (.refl _))) (coreOff_keeps
    (State.setPower_keeps hyp))) (each_keeps (enterHalted_keeps (State.takeFree_keeps (Keeps.ite (each_keeps (State.setPower_keeps hyp)
    (fun _ _ => setDomain_keeps (.refl _))) (coreOff_keeps (State.setPower_keeps hyp))))) (fun _ _ => markUnretained_keeps (.refl _))))

theorem wrapFree_keeps {α : State} {code capture : Nat} {s : State} (hyp : Keeps α s) : Keeps α (wrapFree code capture s) :=
  hyp.free (wrapFree_fr (Fr.refl 32 s))

theorem wrapDebug_keeps {α : State} {code w : Nat} {s : State} (hyp : Keeps α s) : Keeps α (wrapDebug code w s) :=
  Keeps.ite (wrapFree_keeps hyp) (Keeps.ite (State.setWrap_keeps (serveAll_keeps (debugUnlock_keeps (State.setWrap_keeps (State.takeFree_keeps
    hyp))))) (serveAll_keeps (debugUnlock_keeps (State.setWrap_keeps (State.takeFree_keeps hyp)))))

theorem wrapTest_keeps {α : State} {code w : Nat} {s : State} (hyp : Keeps α s) : Keeps α (wrapTest code w s) :=
  hyp.free (wrapTest_fr (Fr.refl 8228 s))

theorem syncRequest_keeps {α : State} {op : Nat} {q : Side} {obj operand : Nat} {s : State} (hyp : Keeps α s) :
    KeepsR α (syncRequest op q obj operand s) :=
  present_keeps (arrive_keeps hyp)

theorem syncTimeouts_keeps {α s : State} (hyp : Keeps α s) : Keeps α (syncTimeouts s) :=
  each_keeps (Keeps.update hyp) (fun _ _ => finish_keeps (.refl _))

theorem restoreStep_keeps {α : State} {c : Nat} {s : State} (hyp : Keeps α s) : Keeps α (restoreStep c s) :=
  Keeps.ite hyp (State.modTr_keeps (takeSettings_keeps hyp))

theorem tapConfirmed_keeps {α : State} {c : Nat} {s : State} (hyp : Keeps α s) : Keeps α (tapConfirmed c s) := by
  unfold tapConfirmed
  refine Keeps.ite (restoreStep_keeps hyp) ?_
  split
  · exact hyp
  · exact Keeps.ite hyp (Keeps.ite (centresDone_keeps (State.modTr_keeps hyp)) (writeStep_keeps (State.modTr_keeps hyp)))

theorem flagAlert_keeps {α : State} {c layer : Nat} {s : State} (hyp : Keeps α s) : Keeps α (flagAlert c layer s) :=
  Keeps.ite hyp (Keeps.ite (trip_keeps (State.bump_keeps hyp)) (Keeps.ite (afterReadings_keeps (showSensor_keeps (takeReading_keeps
    (State.bump_keeps hyp)))) (State.bump_keeps hyp)))

theorem reloadKeys_keeps {α s : State} (hyp : Keeps α s) : Keeps α (reloadKeys s) :=
  State.setSec_keeps hyp

theorem judgeRefresh_keeps {α s : State} (hyp : Keeps α s) : Keeps α (judgeRefresh s) :=
  Keeps.ite (endDerate_keeps hyp) (startDerate_keeps hyp)

theorem warmResume_keeps {α s : State} (hyp : Keeps α s) : Keeps α (warmResume s) :=
  Keeps.ite (judgeRefresh_keeps (enterService_keeps (reloadKeys_keeps hyp))) hyp

theorem tideSwitch_keeps {α : State} {f : Nat} {s : State} (hyp : Keeps α s) : Keeps α (tideSwitch f s) :=
  Keeps.ite (judgeRefresh_keeps (Keeps.ite (switchPlan_keeps hyp) (setNode_keeps (switchPlan_keeps hyp)))) (switchPlan_keeps hyp)

theorem resetPools_keeps {α s : State} (hyp : Keeps α s) : Keeps α (resetPools s) :=
  each_keeps (State.setFeeds_keeps hyp) (fun _ _ => raise_keeps (State.setPool_keeps (.refl _)))

theorem resetPeaks_keeps {α s : State} (hyp : Keeps α s) : Keeps α (resetPeaks s) :=
  State.setOb_keeps (State.setOb_keeps (State.setOb_keeps (each_keeps (each_keeps (each_keeps (each_keeps (each_keeps (State.setPlans_keeps
    (State.setOb_keeps (State.setOb_keeps hyp))) (fun _ _ => State.setOb_keeps (.refl _))) (fun _ _ => State.setOb_keeps (.refl _)))
    (fun _ _ => State.setOb_keeps (State.setOb_keeps (.refl _)))) (fun _ _ => State.setOb_keeps (.refl _))) (fun _ _ => State.setOb_keeps (.refl
    _)))))

theorem warnShort_keeps {α : State} {h : Nat} {s : State} (hyp : Keeps α s) : Keeps α (warnShort h s) :=
  each_keeps hyp (fun _ _ => each_keeps (.refl _) (fun _ _ => raise_keeps (.refl _)))

theorem settleJoined_keeps {α s : State} (hyp : Keeps α s) : Keeps α (settleJoined s) :=
  Keeps.ite hyp (newLead_keeps hyp)

theorem joinNode_keeps {α : State} {n : Nat} {s : State} (hyp : Keeps α s) : Keeps α (joinNode n s) :=
  settleJoined_keeps (Keeps.ite (sendSetWide_keeps (raiseNode_keeps (computeRoutes_keeps (State.setSet_keeps (State.setPower_keeps hyp)))))
    (raiseNode_keeps (computeRoutes_keeps (State.setSet_keeps (State.setPower_keeps hyp)))))

theorem joinNodes_keeps {α : State} {f : Nat} {s : State} (hyp : Keeps α s) : Keeps α (joinNodes f s) :=
  each_keeps hyp (fun _ _ => joinNode_keeps (.refl _))

theorem joinSelf_keeps {α : State} {f : Nat} {s : State} (hyp : Keeps α s) : Keeps α (joinSelf f s) :=
  Keeps.ite (raiseNode_keeps (judgeRefresh_keeps (enterService_keeps (reloadKeys_keeps (settleJoined_keeps (State.setSet_keeps (adoptPlan_keeps
    (State.setPlans_keeps hyp)))))))) hyp

theorem joinPorts_keeps {α : State} {f : Nat} {s : State} (hyp : Keeps α s) : Keeps α (joinPorts f s) :=
  each_keeps (State.setFeeds_keeps hyp) (fun _ _ => raise_keeps (setPortState_keeps (.refl _)))

theorem joinSlice_keeps {α : State} {x : Nat} {s : State} (hyp : Keeps α s) : Keeps α (joinSlice x s) :=
  Keeps.ite (raise_keeps (setSlice_keeps hyp)) (each_keeps (raise_keeps (setSlice_keeps hyp)) (fun _ _ => Keeps.ite (State.setWay_keeps
    (State.setWay_keeps (.refl _))) (Keeps.ite (State.setWay_keeps (.refl _)) (.refl _))))

theorem joinSlices_keeps {α : State} {f : Nat} {s : State} (hyp : Keeps α s) : Keeps α (joinSlices f s) :=
  each_keeps (State.setCache_keeps hyp) (fun _ _ => joinSlice_keeps (.refl _))

theorem joinBack_keeps {α : State} {b : Rebuild} {s : State} (hyp : Keeps α s) :
    Keeps α (joinBack b s) := by
  unfold joinBack
  dsimp only
  refine raise_keeps (syncDepth_keeps (syncDepth_keeps (State.modChan_keeps (State.modChan_keeps (State.setPath_keeps (State.setOb_keeps
    (State.setChanState_keeps (State.setOb_keeps (State.setChanState_keeps ?_)))))))))
  exact each_keeps (copyChannel_keeps hyp) fun _ s => (Keeps.refl s).memory (writePhys_memory ..)

theorem joinSpare_keeps {α : State} {b : Rebuild} {s : State} (hyp : Keeps α s) : Keeps α (joinSpare b s) :=
  raise_keeps (State.setOb_keeps (State.setPath_keeps (State.setOb_keeps (State.setOb_keeps (State.setChanState_keeps hyp)))))

theorem joinChannels_keeps {α : State} {f : Nat} {s : State} (hyp : Keeps α s) : Keeps α (joinChannels f s) := by
  unfold joinChannels
  dsimp only
  refine each_keeps hyp (fun _ _ => ?_)
  split
  · exact joinSpare_keeps (State.modChan_keeps (.refl _))
  · exact joinBack_keeps (State.modChan_keeps (.refl _))
  · exact raise_keeps (State.setChanState_keeps (State.modChan_keeps (.refl _)))

theorem joinFar_keeps {α : State} {f : Nat} {s : State} (hyp : Keeps α s) : Keeps α (joinFar f s) :=
  Keeps.ite hyp (Keeps.ite (State.setFar_keeps hyp) (Keeps.ite (pumpFar_keeps (raiseNode_keeps (openFar_keeps (State.setFar_keeps hyp))))
    (openFar_keeps (State.setFar_keeps hyp))))

theorem tide_keeps {α s : State} (hyp : Keeps α s) : Keeps α (tide s) :=
  Keeps.ite hyp (serveAll_keeps (warmResume_keeps (State.setPlans_keeps (armWindows_keeps (Keeps.ite (tideSwitch_keeps (State.setPath_keeps
    (each_keeps (resetPeaks_keeps (resetPools_keeps (joinSelf_keeps (joinNodes_keeps (joinFar_keeps (joinChannels_keeps (joinSlices_keeps
    (joinPorts_keeps (State.setPlans_keeps (applyPending_keeps (frameBoundary_keeps hyp))))))))))) (fun _ _ => warnShort_keeps (.refl _)))))
    (State.setPath_keeps (each_keeps (resetPeaks_keeps (resetPools_keeps (joinSelf_keeps (joinNodes_keeps (joinFar_keeps (joinChannels_keeps
    (joinSlices_keeps (joinPorts_keeps (State.setPlans_keeps (applyPending_keeps (frameBoundary_keeps hyp))))))))))) (fun _ _ => warnShort_keeps
    (.refl _)))))))))

theorem prepareTide_keeps {α s : State} (hyp : Keeps α s) : Keeps α (prepareTide s) :=
  Keeps.ite hyp (flood_keeps (State.setPlans_keeps hyp))

theorem retireSwitch_keeps {α s : State} (hyp : Keeps α s) : Keeps α (retireSwitch s) := by
  unfold retireSwitch
  split
  · exact Keeps.ite (raiseNode_keeps (Keeps.ite (State.setOb_keeps (State.setOb_keeps (State.setOb_keeps (setPlanState_keeps (sweepOld_keeps
      (State.setPlans_keeps hyp)))))) (State.setOb_keeps (State.setOb_keeps (setPlanState_keeps (sweepOld_keeps (State.setPlans_keeps hyp)))))))
      hyp
  · exact hyp

theorem timeTaken_keeps {α : State} {h tx echo echoRx rx : Nat} {s : State} (hyp : Keeps α s) : Keeps α (timeTaken h tx echo echoRx rx s) :=
  Keeps.ite hyp (Keeps.ite (State.setSet_keeps (State.setPort_keeps (heard_keeps hyp))) (Keeps.ite (State.setPort_keeps (heard_keeps hyp))
    (State.takeFree_keeps (State.setSet_keeps (State.setPort_keeps (heard_keeps hyp))))))

theorem restartStall_keeps {α : State} {st : Nat} {s : State} (hyp : Keeps α s) : Keeps α (restartStall st s) :=
  hyp.free (restartStall_fr (Fr.refl 131072 s))

theorem resumeTraffic_keeps {α : State} {st : Nat} {s : State} (hyp : Keeps α s) : Keeps α (resumeTraffic st s) := by
  unfold resumeTraffic
  split
  · exact hyp
  · exact Keeps.ite hyp (restartStall_keeps (raise_keeps (each_keeps (State.setHeat_keeps (takeLevel_keeps (State.bumpBy_keeps hyp)))
      (fun _ _ => Keeps.ite (State.modChan_keeps (.refl _)) (.refl _)))))

theorem trainingTimeout_keeps {α : State} {c : Nat} {s : State} (hyp : Keeps α s) : Keeps α (trainingTimeout c s) :=
  Keeps.ite hyp (Keeps.ite (beginTraining_keeps (State.modTr_keeps (calibrationBad_keeps hyp))) (untrainable_keeps (calibrationBad_keeps hyp)))

theorem startTransfer_keeps {α : State} {held : Nat} {s : State} (hyp : Keeps α s) : Keeps α (startTransfer held s) := by
  unfold startTransfer
  split
  · exact hyp
  · exact Keeps.ite hyp (pumpFar_keeps (showLast_keeps (State.modTransfer_keeps hyp)))

theorem unretainedFilled_keeps {α : State} {c : Nat} {s : State} (hyp : Keeps α s) : Keeps α (unretainedFilled c s) :=
  Keeps.ite hyp (raise_keeps (State.setPower_keeps (each_keeps hyp (fun _ _ => poisonBlock_keeps (.refl _)))))

theorem vcoreGood_keeps {α s : State} (hyp : Keeps α s) : Keeps α (vcoreGood s) :=
  Keeps.ite hyp (bootAdvance_keeps (State.setPower_keeps (Keeps.ite hyp (Keeps.ite (State.setSource_keeps (Keeps.ite (State.setSource_keeps
    (State.setClk_keeps hyp)) (State.setClk_keeps hyp))) (Keeps.ite (State.setSource_keeps (State.setClk_keeps hyp)) (State.setClk_keeps hyp))))))

theorem verificationDone_keeps {α s : State} (hyp : Keeps α s) : Keeps α (verificationDone s) :=
  Keeps.ite hyp (Keeps.ite (updateRefused_keeps (setStaging_keeps hyp)) (Keeps.ite (State.setUpd_keeps (raiseNode_keeps (setStaging_keeps
    (State.setOb_keeps (State.setOb_keeps hyp))))) (raiseNode_keeps (setStaging_keeps (State.setOb_keeps (State.setOb_keeps hyp))))))

theorem vkeepLost_keeps {α s : State} (hyp : Keeps α s) : Keeps α (vkeepLost s) :=
  Keeps.ite hyp (Keeps.update (coldState_keeps hyp))

theorem takeVote_keeps {α : State} {node : Nat} {ready : Bool} {f : Nat} {s : State} (hyp : Keeps α s) : Keeps α (takeVote node ready f s) :=
  hyp.free (takeVote_fr (Fr.refl 65536 s))

theorem passWait_keeps {α : State} {n : Nat} {s : State} (hyp : Keeps α s) : Keeps α (passWait n s) :=
  hyp.free (passWait_fr (Fr.refl 655360 s))

theorem wakeDone_keeps {α s : State} (hyp : Keeps α s) : Keeps α (wakeDone s) :=
  Keeps.ite hyp (serveAll_keeps (closePorts_keeps (setNode_keeps (ladderStep_keeps (readAllSensors_keeps (reloadKeys_keeps (State.setPower_keeps
    (each_keeps hyp (fun _ _ => Keeps.ite (State.setPort_keeps (.refl _)) (.refl _))))))))))

theorem warmResetLimit_keeps {α : State} {node : Nat} {s : State} (hyp : Keeps α s) : Keeps α (warmResetLimit node s) :=
  Keeps.ite hyp (findLost_keeps hyp)

theorem peerResets_keeps {α : State} {node : Nat} {s : State} (hyp : Keeps α s) : Keeps α (peerResets node s) :=
  hyp.free (peerResets_fr (Fr.refl 256 s))

theorem writtenBack_keeps {α : State} {line data : Nat} {s : State} (hyp : Keeps α s) : Keeps α (writtenBack line data s) := by
  unfold writtenBack
  split
  · exact Keeps.ite (cleanLine_keeps hyp) (State.setWay_keeps hyp)
  · exact lineClean_keeps hyp

theorem takeWriteBack_keeps {α : State} {x : Nat} {s : State} (hyp : Keeps α s) : Keeps α (takeWriteBack x s) := by
  unfold takeWriteBack
  dsimp only
  split
  · exact hyp
  · split
    · exact endClose_keeps (writtenBack_keeps (retire_keeps (State.modAsk_keeps hyp)))
    · split
      · exact State.setWay_keeps (retire_keeps (State.modAsk_keeps hyp))
      · exact retire_keeps (State.modAsk_keeps hyp)

theorem retryAllocs_keeps {α s : State} (hyp : Keeps α s) : Keeps α (retryAllocs s) := by
  unfold retryAllocs
  refine each_keeps (State.setCache_keeps hyp) (fun _ _ => ?_)
  split
  · exact Keeps.ite (.refl _) (allocWrite_keeps (.refl _))
  · exact (.refl _)

theorem writeBackLimit_keeps {α s : State} (hyp : Keeps α s) : Keeps α (writeBackLimit s) :=
  Keeps.ite hyp (Keeps.ite (each_keeps (haltChannels_keeps hyp) (fun _ _ => markUnretained_keeps (.refl _))) (Keeps.ite (enterHalted_keeps
    (State.setPower_keeps hyp)) hyp))

theorem zeroPoisoned_keeps {α s : State} (hyp : Keeps α s) : Keeps α (zeroPoisoned s) := by
  unfold zeroPoisoned
  dsimp only
  split
  · exact Keeps.ite (zeroAdvance_keeps hyp) (endZero_keeps (raiseNode_keeps (each_keeps (zeroAdvance_keeps hyp) (fun _ _ => fillGranule_keeps
      (.refl _)))))
  · exact zeroAdvance_keeps hyp

theorem rebuildJournal_keeps {α s : State} (hyp : Keeps α s) : Keeps α (rebuildJournal s) :=
  Keeps.ite (State.setOb_keeps hyp) hyp

theorem slotSums_keeps {α s : State} (hyp : Keeps α s) : Keeps α (slotSums s) :=
  count_keeps (count_keeps hyp)

theorem tickPort_keeps {α : State} {h : Nat} {s : State} (hyp : Keeps α s) : Keeps α (tickPort h s) :=
  hyp.free (tickPort_fr (Fr.refl 256 s))

theorem tick_keeps {α : State} {s : State} (hyp : Keeps α s) :
    Keeps α (tick s) := by
  unfold tick
  extract_lets t1 t2 t3
  have h1 : Keeps α t1 := hyp.change rfl (Nat.le_succ _) (List.prefix_refl _) ⟨rfl, id, id, id, fun _ c => c, id, id, id, id, id, id, id⟩
  have h2 : Keeps α t2 := each_keeps h1 fun _ s => tickPort_keeps (Keeps.refl s)
  have h3 : Keeps α t3 := Keeps.ite h2 (slotSums_keeps h2)
  exact drainWaiting_keeps (rebuildJournal_keeps (tripStep_keeps h3))

end Sys2Proof.Machine


/-!
PROOF. O58: each command keeps what no command may change (see Laws/FrameExec).
-/
namespace Sys2Proof.Machine

-- One proof after another, each on a stack of its own, for the check's memory.
set_option Elab.async false

theorem execAcceptParcel_keeps {α : State} {h : Nat} {hdr : Hdr} {s : State} (hyp : Keeps α s) : KeepsR α (execAcceptParcel h hdr s) := by
  unfold execAcceptParcel
  split
  · exact keepsR_next (takeParcel_keeps hyp (fun _ => acceptTaken_keeps (.refl _)))
  · exact keepsR_fault

theorem execAlarmClear_keeps {α : State} {r : Req} {s : State} (hyp : Keeps α s) : KeepsR α (execAlarmClear r s) :=
  keepsR_next (dictWrite_keeps hyp (fun _ _ => applyHome_keeps (.refl _) (fun _ => clearAlarm_keeps (.refl _))))

theorem execAlertSampled_keeps {α : State} {c back : Nat} {s : State} (hyp : Keeps α s) : KeepsR α (execAlertSampled c back s) := by
  unfold execAlertSampled
  refine present_keeps ?_
  split
  · exact pump_keeps (alerted_keeps hyp)
  · exact hyp

theorem execAtomicAdd_keeps {α : State} {q : Side} {a offset : Nat} {wide fetch : Bool} {x : Nat} {s : State} (hyp : Keeps α s) :
    KeepsR α (execAtomicAdd q a offset wide fetch x s) :=
  atomicRequest_keeps hyp

theorem execAtomicAnd_keeps {α : State} {q : Side} {a offset : Nat} {wide fetch : Bool} {x : Nat} {s : State} (hyp : Keeps α s) :
    KeepsR α (execAtomicAnd q a offset wide fetch x s) :=
  atomicRequest_keeps hyp

theorem execAtomicCas_keeps {α : State} {q : Side} {a offset : Nat} {wide fetch : Bool} {x y : Nat} {s : State} (hyp : Keeps α s) :
    KeepsR α (execAtomicCas q a offset wide fetch x y s) :=
  atomicRequest_keeps hyp

theorem execAtomicFadd_keeps {α : State} {q : Side} {a offset : Nat} {wide fetch : Bool} {x : Nat} {s : State} (hyp : Keeps α s) :
    KeepsR α (execAtomicFadd q a offset wide fetch x s) :=
  atomicRequest_keeps hyp

theorem execAtomicFlush_keeps {α : State} {q : Side} {a offset : Nat} {wide : Bool} {s : State} (hyp : Keeps α s) :
    KeepsR α (execAtomicFlush q a offset wide s) :=
  atomicRequest_keeps hyp

theorem execAtomicFmax_keeps {α : State} {q : Side} {a offset : Nat} {wide fetch : Bool} {x : Nat} {s : State} (hyp : Keeps α s) :
    KeepsR α (execAtomicFmax q a offset wide fetch x s) :=
  atomicRequest_keeps hyp

theorem execAtomicFmin_keeps {α : State} {q : Side} {a offset : Nat} {wide fetch : Bool} {x : Nat} {s : State} (hyp : Keeps α s) :
    KeepsR α (execAtomicFmin q a offset wide fetch x s) :=
  atomicRequest_keeps hyp

theorem execAtomicIncwrap_keeps {α : State} {q : Side} {a offset : Nat} {wide fetch : Bool} {x : Nat} {s : State} (hyp : Keeps α s) :
    KeepsR α (execAtomicIncwrap q a offset wide fetch x s) :=
  atomicRequest_keeps hyp

theorem execAtomicOr_keeps {α : State} {q : Side} {a offset : Nat} {wide fetch : Bool} {x : Nat} {s : State} (hyp : Keeps α s) :
    KeepsR α (execAtomicOr q a offset wide fetch x s) :=
  atomicRequest_keeps hyp

theorem execAtomicRead_keeps {α : State} {q : Side} {a offset : Nat} {wide : Bool} {s : State} (hyp : Keeps α s) :
    KeepsR α (execAtomicRead q a offset wide s) :=
  atomicRequest_keeps hyp

theorem execAtomicSmax_keeps {α : State} {q : Side} {a offset : Nat} {wide fetch : Bool} {x : Nat} {s : State} (hyp : Keeps α s) :
    KeepsR α (execAtomicSmax q a offset wide fetch x s) :=
  atomicRequest_keeps hyp

theorem execAtomicSmin_keeps {α : State} {q : Side} {a offset : Nat} {wide fetch : Bool} {x : Nat} {s : State} (hyp : Keeps α s) :
    KeepsR α (execAtomicSmin q a offset wide fetch x s) :=
  atomicRequest_keeps hyp

theorem execAtomicSwap_keeps {α : State} {q : Side} {a offset : Nat} {wide fetch : Bool} {x : Nat} {s : State} (hyp : Keeps α s) :
    KeepsR α (execAtomicSwap q a offset wide fetch x s) :=
  atomicRequest_keeps hyp

theorem execAtomicUmax_keeps {α : State} {q : Side} {a offset : Nat} {wide fetch : Bool} {x : Nat} {s : State} (hyp : Keeps α s) :
    KeepsR α (execAtomicUmax q a offset wide fetch x s) :=
  atomicRequest_keeps hyp

theorem execAtomicUmin_keeps {α : State} {q : Side} {a offset : Nat} {wide fetch : Bool} {x : Nat} {s : State} (hyp : Keeps α s) :
    KeepsR α (execAtomicUmin q a offset wide fetch x s) :=
  atomicRequest_keeps hyp

theorem execAtomicXor_keeps {α : State} {q : Side} {a offset : Nat} {wide fetch : Bool} {x : Nat} {s : State} (hyp : Keeps α s) :
    KeepsR α (execAtomicXor q a offset wide fetch x s) :=
  atomicRequest_keeps hyp

theorem execBaleReadDone_keeps {α : State} {bale outcome : Nat} {s : State} (hyp : Keeps α s) : KeepsR α (execBaleReadDone bale outcome s) := by
  unfold execBaleReadDone
  refine keepsR_next (Keeps.ite hyp (pumpFar_keeps ?_))
  split
  · exact baleArrived_keeps hyp
  · exact baleReadError_keeps hyp
  · exact baleAltered_keeps hyp

theorem execBaleReadTimeout_keeps {α : State} {bale : Nat} {s : State} (hyp : Keeps α s) : KeepsR α (execBaleReadTimeout bale s) :=
  keepsR_next (Keeps.ite (pumpFar_keeps (baleReadError_keeps hyp)) hyp)

theorem execBaleWriteDone_keeps {α : State} {bale : Nat} {ok : Bool} {s : State} (hyp : Keeps α s) :
    KeepsR α (execBaleWriteDone bale ok s) :=
  keepsR_next (pumpFar_keeps (Keeps.ite (baleWritten_keeps hyp) (baleStale_keeps hyp)))

theorem execBankClear_keeps {α : State} {r : Req} {bank : Nat} {s : State} (hyp : Keeps α s) : KeepsR α (execBankClear r bank s) :=
  keepsR_next (dictWrite_keeps hyp (fun _ _ => bankClearHome_keeps (.refl _)))

theorem execBankFilterWrite_keeps {α : State} {r : Req} {bank sub value : Nat} {s : State} (hyp : Keeps α s) :
    KeepsR α (execBankFilterWrite r bank sub value s) :=
  keepsR_next (dictWrite_keeps hyp (fun _ _ => filterHome_keeps (.refl _)))

theorem execBeyondBoundClear_keeps {α : State} {r : Req} {d : Nat} {s : State} (hyp : Keeps α s) : KeepsR α (execBeyondBoundClear r d s) :=
  keepsR_next (dictWrite_keeps hyp (fun _ _ => beyondClearHome_keeps (.refl _)))

theorem execBundleVerified_keeps {α s : State} (hyp : Keeps α s) : KeepsR α (execBundleVerified s) :=
  keepsR_next (Keeps.ite (warmVerified_keeps hyp) (Keeps.ite (deepVerified_keeps hyp) hyp))

theorem execCaCaptureExit_keeps {α : State} {c layer : Nat} {s : State} (hyp : Keeps α s) : KeepsR α (execCaCaptureExit c layer s) := by
  unfold execCaCaptureExit
  split
  · exact keepsR_next (layCaptureExit_keeps hyp)
  · exact keepsR_fault

theorem execCacheMissFill_keeps {α s : State} (hyp : Keeps α s) : KeepsR α (execCacheMissFill s) :=
  keepsR_next (serveAll_keeps (missFill_keeps hyp))

theorem execChallenge_keeps {α : State} {r : Req} {slot nonce : Nat} {s : State} (hyp : Keeps α s) :
    KeepsR α (execChallenge r slot nonce s) :=
  spdmTake_keeps hyp (fun _ => challengeAct_keeps (.refl _))

theorem execChannelFault_keeps {α : State} {c : Nat} {placed : Bool} {s : State} (hyp : Keeps α s) :
    KeepsR α (execChannelFault c placed s) :=
  present_keeps (serveAll_keeps (singleFault_keeps hyp (fun _ => channelFault_keeps (.refl _))))

theorem execChannelRecovered_keeps {α : State} {c : Nat} {ok : Bool} {s : State} (hyp : Keeps α s) :
    KeepsR α (execChannelRecovered c ok s) :=
  present_keeps (serveAll_keeps (channelRecovered_keeps hyp))

theorem execChannelRecoveryTimeout_keeps {α : State} {c : Nat} {s : State} (hyp : Keeps α s) : KeepsR α (execChannelRecoveryTimeout c s) :=
  present_keeps (Keeps.ite (serveAll_keeps (failChannel_keeps hyp)) hyp)

theorem execChannelRejoin_keeps {α : State} {r : Req} {c : Nat} {s : State} (hyp : Keeps α s) : KeepsR α (execChannelRejoin r c s) :=
  keepsR_next (dictWrite_keeps hyp (fun _ _ => channelRejoinHome_keeps (.refl _)))

theorem execChannelSlot_keeps {α : State} {c fault : Nat} {s : State} (hyp : Keeps α s) : KeepsR α (execChannelSlot c fault s) :=
  present_keeps (channelSlot_keeps hyp)

theorem execCheckerSelfTestDone_keeps {α : State} {channels : List Nat} {journalA journalB comparators monitors : Bool}
    {replicas slices : List Nat} {s : State} (hyp : Keeps α s) :
    KeepsR α (execCheckerSelfTestDone channels journalA journalB comparators monitors replicas slices s) :=
  keepsR_next (selfTestDone_keeps hyp)

theorem execChunkGet_keeps {α : State} {r : Req} {seq : Nat} {s : State} (hyp : Keeps α s) : KeepsR α (execChunkGet r seq s) :=
  spdmTake_keeps hyp (fun _ => chunkGetAct_keeps (.refl _))

theorem execChunkSend_keeps {α : State} {r : Req} {seq : Nat} {last : Bool} {data : List Byte} {s : State} (hyp : Keeps α s) :
    KeepsR α (execChunkSend r seq last data s) :=
  spdmTake_keeps hyp (fun _ => chunkSendAct_keeps (.refl _))

theorem execClaim_keeps {α : State} {r : Req} {s : State} (hyp : Keeps α s) : KeepsR α (execClaim r s) :=
  keepsR_next (dictWrite_keeps hyp (fun _ _ => ownerHome_keeps (.refl _)))

theorem execClearAll_keeps {α : State} {r : Req} {s : State} (hyp : Keeps α s) : KeepsR α (execClearAll r s) :=
  keepsR_next (dictWrite_keeps hyp (fun _ _ => clearAllHome_keeps (.refl _)))

theorem execClockEnableWrite_keeps {α : State} {r : Req} {sub value : Nat} {s : State} (hyp : Keeps α s) :
    KeepsR α (execClockEnableWrite r sub value s) :=
  keepsR_next (dictWrite_keeps hyp (fun _ _ => enableHome_keeps (.refl _)))

theorem execClockMonitorWindow_keeps {α : State} {m count : Nat} {ended lock kfoOff ksoOff : Bool} {s : State} (hyp : Keeps α s) :
    KeepsR α (execClockMonitorWindow m count ended lock kfoOff ksoOff s) :=
  present_keeps (serveAll_keeps (monitorWindow_keeps hyp))

theorem execClosedRecordExpiry_keeps {α s : State} (hyp : Keeps α s) : KeepsR α (execClosedRecordExpiry s) :=
  keepsR_next (expireRecords_keeps hyp)

theorem execCoalesceAgeExpiry_keeps {α s : State} (hyp : Keeps α s) : KeepsR α (execCoalesceAgeExpiry s) :=
  keepsR_next (pumpFar_keeps (coalesceAged_keeps hyp))

theorem execCommandParityError_keeps {α : State} {c : Nat} {s : State} (hyp : Keeps α s) : KeepsR α (execCommandParityError c s) := by
  unfold execCommandParityError
  split
  · exact keepsR_next (layParity_keeps hyp)
  · exact keepsR_fault

theorem execCommitPoint_keeps {α s : State} (hyp : Keeps α s) : KeepsR α (execCommitPoint s) :=
  keepsR_next (commitPoint_keeps hyp)

theorem execCommitTide_keeps {α : State} {h : Nat} {hdr : Hdr} {frame : Nat} {s : State} (hyp : Keeps α s) :
    KeepsR α (execCommitTide h hdr frame s) := by
  unfold execCommitTide
  split
  · exact keepsR_next (takeParcel_keeps hyp (fun _ => Keeps.ite (commitTide_keeps (.refl _)) (.refl _)))
  · exact keepsR_fault

theorem execCompletionDelivery_keeps {α : State} {port : Port} {s : State} (hyp : Keeps α s) : KeepsR α (execCompletionDelivery port s) :=
  present_keeps (deliver_keeps hyp)

theorem execCompletionParcel_keeps {α : State} {h : Nat} {hdr : Hdr} {body : List Byte} {s : State} (hyp : Keeps α s) :
    KeepsR α (execCompletionParcel h hdr body s) := by
  unfold execCompletionParcel
  split
  · exact keepsR_next (takeChecked_keeps hyp (fun _ => completionTaken_keeps (.refl _)))
  · exact keepsR_fault

theorem execConfigBlockersClear_keeps {α s : State} (hyp : Keeps α s) : KeepsR α (execConfigBlockersClear s) :=
  keepsR_next (serveAll_keeps (blockersClear_keeps hyp))

theorem execConsumedWrite_keeps {α : State} {r : Req} {seq : Nat} {s : State} (hyp : Keeps α s) : KeepsR α (execConsumedWrite r seq s) :=
  keepsR_next (dictWrite_keeps hyp (fun _ _ => consumedHome_keeps (.refl _)))

theorem execContributionApply_keeps {α : State} {a : Nat} {s : State} (hyp : Keeps α s) : KeepsR α (execContributionApply a s) :=
  keepsR_next (serveAll_keeps (contribute_keeps hyp))

theorem execCooledRestart_keeps {α s : State} (hyp : Keeps α s) : KeepsR α (execCooledRestart s) :=
  keepsR_next (cooledRestart_keeps hyp)

theorem execCopyBack_keeps {α : State} {r : Req} {c : Nat} {s : State} (hyp : Keeps α s) : KeepsR α (execCopyBack r c s) :=
  keepsR_next (dictWrite_keeps hyp (fun _ _ => copyBackHome_keeps (.refl _)))

theorem execCopyBackDone_keeps {α s : State} (hyp : Keeps α s) : KeepsR α (execCopyBackDone s) :=
  keepsR_next (copyBackDone_keeps hyp)

theorem execCrossingReopened_keeps {α : State} {x : Crossing} {s : State} (hyp : Keeps α s) : KeepsR α (execCrossingReopened x s) :=
  present_keeps (pump_keeps (crossingReopened_keeps hyp))

theorem execCrossingReset_keeps {α : State} {x : Crossing} {s : State} (hyp : Keeps α s) : KeepsR α (execCrossingReset x s) :=
  present_keeps (pump_keeps (crossingReset_keeps hyp))

theorem execDebugUnlock_keeps {α : State} {code : Nat} {s : State} (hyp : Keeps α s) : KeepsR α (execDebugUnlock code s) :=
  keepsR_next (Keeps.ite (serveAll_keeps (debugUnlock_keeps hyp)) hyp)

theorem execDeepSegmentPoisonDone_keeps {α : State} {c : Nat} {s : State} (hyp : Keeps α s) : KeepsR α (execDeepSegmentPoisonDone c s) :=
  present_keeps (deepPoison_keeps hyp)

theorem execDeferTide_keeps {α : State} {h : Nat} {hdr : Hdr} {frame : Nat} {s : State} (hyp : Keeps α s) :
    KeepsR α (execDeferTide h hdr frame s) := by
  unfold execDeferTide
  split
  · exact keepsR_next (takeParcel_keeps hyp (fun _ => Keeps.ite (deferTide_keeps (.refl _)) (.refl _)))
  · exact keepsR_fault

theorem execDegradeStepEnd_keeps {α : State} {n : Nat} {s : State} (hyp : Keeps α s) : KeepsR α (execDegradeStepEnd n s) :=
  present_keeps (Keeps.ite (Keeps.ite (raiseNode_keeps (State.setOb_keeps hyp)) (State.setOb_keeps hyp)) hyp)

theorem execDictionaryWrite_keeps {α : State} {r : Req} {idx sub : Nat} {value : List Byte} {s : State} (hyp : Keeps α s) :
    KeepsR α (execDictionaryWrite r idx sub value s) :=
  keepsR_next (dictWrite_keeps hyp (fun _ _ => writeHome_keeps (.refl _)))

theorem execDisplacingDone_keeps {α s : State} (hyp : Keeps α s) : KeepsR α (execDisplacingDone s) :=
  keepsR_next (displacingDone_keeps hyp)

theorem execDividerStep_keeps {α : State} {d : Nat} {s : State} (hyp : Keeps α s) : KeepsR α (execDividerStep d s) :=
  present_keeps (serveAll_keeps (dividerStep_keeps hyp))

theorem execDoneParcel_keeps {α : State} {h : Nat} {hdr : Hdr} {s : State} (hyp : Keeps α s) : KeepsR α (execDoneParcel h hdr s) := by
  unfold execDoneParcel
  split
  · exact keepsR_next (takeParcel_keeps hyp (fun _ => doneTaken_keeps (.refl _)))
  · exact keepsR_fault

theorem execDoorbell_keeps {α : State} {message : List Byte} {s : State} (hyp : Keeps α s) : KeepsR α (execDoorbell message s) :=
  keepsR_next (doorbell_keeps hyp)

theorem execDrainBeat_keeps {α : State} {t n : Nat} {h0 h1 : Option Nat} {s : State} (hyp : Keeps α s) :
    KeepsR α (execDrainBeat t n h0 h1 s) :=
  present_keeps (drainBeat_keeps hyp)

theorem execDrainLineNarrowed_keeps {α : State} {n : Nat} {s : State} (hyp : Keeps α s) : KeepsR α (execDrainLineNarrowed n s) :=
  present_keeps (narrowNext_keeps hyp)

theorem execEndSession_keeps {α : State} {r : Req} {id : Nat} {s : State} (hyp : Keeps α s) : KeepsR α (execEndSession r id s) :=
  spdmTake_keeps hyp (fun _ => endSessionAct_keeps (.refl _))

theorem execEngineFault_keeps {α : State} {e : Nat} {s : State} (hyp : Keeps α s) : KeepsR α (execEngineFault e s) :=
  present_keeps (serveAll_keeps (singleFault_keeps hyp (fun _ => engineFault_keeps (.refl _))))

theorem execEngineRejoin_keeps {α : State} {r : Req} {e : Nat} {s : State} (hyp : Keeps α s) : KeepsR α (execEngineRejoin r e s) :=
  keepsR_next (dictWrite_keeps hyp (fun _ _ => engineRejoinHome_keeps (.refl _)))

theorem execErase_keeps {α : State} {r : Req} {world : Bool} {slot : Nat} {s : State} (hyp : Keeps α s) :
    KeepsR α (execErase r world slot s) :=
  keyWrite_keeps hyp

theorem execEscapeReadDone_keeps {α s : State} (hyp : Keeps α s) : KeepsR α (execEscapeReadDone s) :=
  keepsR_next (serveAll_keeps (endEscapes_keeps hyp))

theorem execFallbackTimeout_keeps {α : State} {d : Nat} {s : State} (hyp : Keeps α s) : KeepsR α (execFallbackTimeout d s) :=
  present_keeps (serveAll_keeps (fallbackTimeout_keeps hyp))

theorem execFarPortDown_keeps {α s : State} (hyp : Keeps α s) : KeepsR α (execFarPortDown s) :=
  keepsR_next (farDown_keeps hyp)

theorem execFarPortRejoin_keeps {α : State} {r : Req} {s : State} (hyp : Keeps α s) : KeepsR α (execFarPortRejoin r s) :=
  keepsR_next (dictWrite_keeps hyp (fun _ _ => farRejoinHome_keeps (.refl _)))

theorem execFeedCreditReturn_keeps {α : State} {t n amount : Nat} {s : State} (hyp : Keeps α s) :
    KeepsR α (execFeedCreditReturn t n amount s) :=
  present_keeps (creditBeat_keeps hyp)

theorem execFeedPortTimeout_keeps {α : State} {t : Nat} {beat : Bool} {s : State} (hyp : Keeps α s) :
    KeepsR α (execFeedPortTimeout t beat s) :=
  present_keeps (Keeps.ite (portDown_keeps hyp) hyp)

theorem execFenceClear_keeps {α : State} {r : Req} {mask : Nat} {s : State} (hyp : Keeps α s) : KeepsR α (execFenceClear r mask s) :=
  keepsR_next (dictWrite_keeps hyp (fun _ _ => fenceClearHome_keeps (.refl _)))

theorem execFenceRequest_keeps {α : State} {r : Req} {mask : Nat} {s : State} (hyp : Keeps α s) : KeepsR α (execFenceRequest r mask s) :=
  keepsR_next (dictWrite_keeps hyp (fun _ _ => fenceRequestHome_keeps (.refl _)))

theorem execFillReadReturn_keeps {α : State} {c : Nat} {s : State} (hyp : Keeps α s) : KeepsR α (execFillReadReturn c s) := by
  unfold execFillReadReturn
  refine present_keeps ?_
  split
  · exact pump_keeps (readBack_keeps hyp)
  · exact hyp

theorem execFinish_keeps {α : State} {r : Req} {id : Nat} {ml : Bool} {signature : List Byte} {s : State} (hyp : Keeps α s) :
    KeepsR α (execFinish r id ml signature s) :=
  spdmTake_keeps hyp (fun _ => finishAct_keeps (.refl _))

theorem execFlowReset_keeps {α : State} {h : Nat} {hdr : Hdr} {base : Nat} {s : State} (hyp : Keeps α s) :
    KeepsR α (execFlowReset h hdr base s) := by
  unfold execFlowReset
  split
  · exact keepsR_next (flowReset_keeps hyp)
  · exact keepsR_fault

theorem execFlushAll_keeps {α : State} {r : Req} {s : State} (hyp : Keeps α s) : KeepsR α (execFlushAll r s) :=
  keepsR_next (dictWrite_keeps hyp (fun _ _ => flushAllHome_keeps (.refl _)))

theorem execFormatUnitFault_keeps {α : State} {u : Nat} {s : State} (hyp : Keeps α s) : KeepsR α (execFormatUnitFault u s) :=
  present_keeps (serveAll_keeps (singleFault_keeps hyp (fun _ => unitFault_keeps (.refl _))))

theorem execFormationTimeout_keeps {α s : State} (hyp : Keeps α s) : KeepsR α (execFormationTimeout s) :=
  keepsR_next (Keeps.ite (tryForm_keeps hyp) hyp)

theorem execFormed_keeps {α : State} {h : Nat} {hdr : Hdr} {lead mask time epoch : Nat} {s : State} (hyp : Keeps α s) :
    KeepsR α (execFormed h hdr lead mask time epoch s) := by
  unfold execFormed
  split
  · exact keepsR_next (takeParcel_keeps hyp (fun _ => Keeps.ite (.refl _) (Keeps.ite (formSet_keeps (.refl _)) (joinFormed_keeps (.refl _)))))
  · exact keepsR_fault

theorem execFrameBoundary_keeps {α s : State} (hyp : Keeps α s) : KeepsR α (execFrameBoundary s) :=
  keepsR_next (frameBoundary_keeps hyp)

theorem execFrameEpoch_keeps {α s : State} (hyp : Keeps α s) : KeepsR α (execFrameEpoch s) :=
  keepsR_next (frameEpoch_keeps hyp)

theorem execFrameMalformed_keeps {α s : State} (hyp : Keeps α s) : KeepsR α (execFrameMalformed s) :=
  keepsR_next (raiseNode_keeps (State.bump_keeps hyp))

theorem execFullTrainingDone_keeps {α : State} {c : Nat} {words : List Nat} {lanes ca bad : Nat} {caOk : Bool} {s : State} (hyp : Keeps α s) :
    KeepsR α (execFullTrainingDone c words lanes ca bad caOk s) :=
  present_keeps (serveAll_keeps (fullDone_keeps hyp))

theorem execGenerateGcm_keeps {α : State} {r : Req} {world : Bool} {slot : Nat} {s : State} (hyp : Keeps α s) :
    KeepsR α (execGenerateGcm r world slot s) :=
  keyWrite_keeps hyp

theorem execGenerateXts_keeps {α : State} {r : Req} {world : Bool} {slot : Nat} {s : State} (hyp : Keeps α s) :
    KeepsR α (execGenerateXts r world slot s) :=
  keyWrite_keeps hyp

theorem execGetCapabilities_keeps {α : State} {r : Req} {s : State} (hyp : Keeps α s) : KeepsR α (execGetCapabilities r s) :=
  spdmTake_keeps hyp (fun _ => getCapabilitiesAct_keeps (.refl _))

theorem execGetCertificate_keeps {α : State} {r : Req} {slot offset length : Nat} {s : State} (hyp : Keeps α s) :
    KeepsR α (execGetCertificate r slot offset length s) :=
  spdmTake_keeps hyp (fun _ => getCertificateAct_keeps (.refl _))

theorem execGetDigests_keeps {α : State} {r : Req} {s : State} (hyp : Keeps α s) : KeepsR α (execGetDigests r s) :=
  spdmTake_keeps hyp (fun _ => getDigestsAct_keeps (.refl _))

theorem execGetMeasurements_keeps {α : State} {r : Req} {index nonce : Nat} {sign : Bool} {s : State} (hyp : Keeps α s) :
    KeepsR α (execGetMeasurements r index nonce sign s) :=
  spdmTake_keeps hyp (fun _ => getMeasurementsAct_keeps (.refl _))

theorem execGetVersion_keeps {α : State} {r : Req} {s : State} (hyp : Keeps α s) : KeepsR α (execGetVersion r s) :=
  spdmTake_keeps hyp (fun _ => getVersionAct_keeps (.refl _))

theorem execGleanerSlow_keeps {α : State} {c : Nat} {s : State} (hyp : Keeps α s) : KeepsR α (execGleanerSlow c s) :=
  present_keeps (Keeps.ite hyp (raise_keeps (State.modChan_keeps hyp)))

theorem execGraceExpired_keeps {α : State} {st : Nat} {s : State} (hyp : Keeps α s) : KeepsR α (execGraceExpired st s) :=
  present_keeps (graceOver_keeps hyp)

theorem execGraceRearm_keeps {α : State} {st : Nat} {s : State} (hyp : Keeps α s) : KeepsR α (execGraceRearm st s) :=
  present_keeps (rearmGrace_keeps hyp)

theorem execGroupRetrainDone_keeps {α : State} {c outcome rv wv : Nat} {delays : List Nat} {s : State} (hyp : Keeps α s) :
    KeepsR α (execGroupRetrainDone c outcome rv wv delays s) :=
  present_keeps (groupDone_keeps hyp)

theorem execHaltedSensorCheck_keeps {α : State} {st : Nat} {s : State} (hyp : Keeps α s) : KeepsR α (execHaltedSensorCheck st s) :=
  present_keeps (haltedCheck_keeps hyp)

theorem execHardRepairDone_keeps {α : State} {c layer : Nat} {verified : Bool} {s : State} (hyp : Keeps α s) :
    KeepsR α (execHardRepairDone c layer verified s) :=
  present_keeps (hardDone_keeps hyp)

theorem execHardwareComparator_keeps {α s : State} (hyp : Keeps α s) : KeepsR α (execHardwareComparator s) :=
  keepsR_next (serveAll_keeps (Keeps.ite (tripStep_keeps (comparators_keeps hyp)) (ladderStep_keeps (tripStep_keeps (comparators_keeps hyp)))))

theorem execHealWriteConfirmed_keeps {α : State} {c : Nat} {s : State} (hyp : Keeps α s) : KeepsR α (execHealWriteConfirmed c s) := by
  unfold execHealWriteConfirmed
  refine present_keeps ?_
  split
  · exact pump_keeps (healConfirmed_keeps hyp)
  · exact hyp

theorem execHeartbeat_keeps {α : State} {r : Req} {id : Nat} {s : State} (hyp : Keeps α s) : KeepsR α (execHeartbeat r id s) :=
  spdmTake_keeps hyp (fun _ => heartbeatAct_keeps (.refl _))

theorem execHeartbeatTimer_keeps {α s : State} (hyp : Keeps α s) : KeepsR α (execHeartbeatTimer s) :=
  keepsR_next (Keeps.ite (State.bump_keeps (Keeps.update (State.send_keeps (State.bump_keeps hyp)))) hyp)

theorem execHello_keeps {α : State} {h node setNodes nstacks version nextHop setTag bundle : Nat} {s : State} (hyp : Keeps α s) :
    KeepsR α (execHello h node setNodes nstacks version nextHop setTag bundle s) := by
  unfold execHello
  split
  · exact keepsR_next (helloTaken_keeps hyp)
  · exact keepsR_fault

theorem execHopAck_keeps {α : State} {h hop room : Nat} {s : State} (hyp : Keeps α s) : KeepsR α (execHopAck h hop room s) := by
  unfold execHopAck
  split
  · exact keepsR_next (State.setPort_keeps (heard_keeps hyp))
  · exact keepsR_fault

theorem execHopAckSendTimer_keeps {α : State} {h : Nat} {s : State} (hyp : Keeps α s) : KeepsR α (execHopAckSendTimer h s) := by
  unfold execHopAckSendTimer
  split
  · exact keepsR_next (Keeps.ite (sendHopAck_keeps hyp) hyp)
  · exact keepsR_fault

theorem execImageSelection_keeps {α : State} {usable : Bool} {density mode : Nat} {s : State} (hyp : Keeps α s) :
    KeepsR α (execImageSelection usable density mode s) :=
  keepsR_next (imageSelection_keeps hyp)

theorem execImportVerify_keeps {α : State} {r : Req} {world : Bool} {slot : Nat} {s : State} (hyp : Keeps α s) :
    KeepsR α (execImportVerify r world slot s) :=
  keyWrite_keeps hyp

theorem execJoinTimeout_keeps {α : State} {h : Nat} {s : State} (hyp : Keeps α s) : KeepsR α (execJoinTimeout h s) := by
  unfold execJoinTimeout
  split
  · exact keepsR_next (joinTimeout_keeps hyp)
  · exact keepsR_fault

theorem execJournalCopyFault_keeps {α : State} {copyB : Bool} {s : State} (hyp : Keeps α s) : KeepsR α (execJournalCopyFault copyB s) :=
  keepsR_next (journalFault_keeps hyp)

theorem execJournalLost_keeps {α s : State} (hyp : Keeps α s) : KeepsR α (execJournalLost s) :=
  keepsR_next (journalLost_keeps hyp)

theorem execJournalRebuildDone_keeps {α s : State} (hyp : Keeps α s) : KeepsR α (execJournalRebuildDone s) :=
  keepsR_next (State.setOb_keeps (State.setPath_keeps hyp))

theorem execKeepalive_keeps {α : State} {h : Nat} {s : State} (hyp : Keeps α s) : KeepsR α (execKeepalive h s) := by
  unfold execKeepalive
  split
  · exact keepsR_next (heard_keeps hyp)
  · exact keepsR_fault

theorem execKeepaliveSendTimer_keeps {α : State} {h : Nat} {s : State} (hyp : Keeps α s) : KeepsR α (execKeepaliveSendTimer h s) := by
  unfold execKeepaliveSendTimer
  split
  · exact keepsR_next (Keeps.ite (sendLink_keeps hyp) hyp)
  · exact keepsR_fault

theorem execKeeperWatchdogExpiry_keeps {α s : State} (hyp : Keeps α s) : KeepsR α (execKeeperWatchdogExpiry s) :=
  keepsR_next (restartProc_keeps hyp)

theorem execKeyExchange_keeps {α : State} {r : Req} {slot : Nat} {mutAuth : Bool} {s : State} (hyp : Keeps α s) :
    KeepsR α (execKeyExchange r slot mutAuth s) :=
  spdmTake_keeps hyp (fun _ => keyExchangeAct_keeps (.refl _))

theorem execKeyUpdate_keeps {α : State} {r : Req} {id : Nat} {s : State} (hyp : Keeps α s) : KeepsR α (execKeyUpdate r id s) :=
  spdmTake_keeps hyp (fun _ => keyUpdateAct_keeps (.refl _))

theorem execKsoTrimMeasurement_keeps {α : State} {plca : Bool} {count expected : Nat} {s : State} (hyp : Keeps α s) :
    KeepsR α (execKsoTrimMeasurement plca count expected s) :=
  keepsR_next (trimMeasurement_keeps hyp)

theorem execLandedBeat_keeps {α : State} {t n : Nat} {s : State} (hyp : Keeps α s) : KeepsR α (execLandedBeat t n s) :=
  present_keeps (landedBeat_keeps hyp)

theorem execLayerAct_keeps {α : State} {c layer bank row : Nat} {s : State} (hyp : Keeps α s) : KeepsR α (execLayerAct c layer bank row s) := by
  unfold execLayerAct
  split
  · exact keepsR_next (layAct_keeps hyp)
  · exact keepsR_fault

theorem execLayerErrclr_keeps {α : State} {c layer : Nat} {all : Bool} {s : State} (hyp : Keeps α s) :
    KeepsR α (execLayerErrclr c layer all s) := by
  unfold execLayerErrclr
  split
  · exact keepsR_next (layErrclr_keeps hyp)
  · exact keepsR_fault

theorem execLayerLbr_keeps {α : State} {c layer : Nat} {s : State} (hyp : Keeps α s) : KeepsR α (execLayerLbr c layer s) := by
  unfold execLayerLbr
  split
  · exact keepsR_next (layLbr_keeps hyp)
  · exact keepsR_fault

theorem execLayerLbw_keeps {α : State} {c layer : Nat} {preamble : Bool} {burst : Nat} {s : State} (hyp : Keeps α s) :
    KeepsR α (execLayerLbw c layer preamble burst s) := by
  unfold execLayerLbw
  split
  · exact keepsR_next (layLbw_keeps hyp)
  · exact keepsR_fault

theorem execLayerMrr_keeps {α : State} {c layer addr : Nat} {s : State} (hyp : Keeps α s) : KeepsR α (execLayerMrr c layer addr s) := by
  unfold execLayerMrr
  split
  · exact keepsR_next (layMrr_keeps hyp)
  · exact keepsR_fault

theorem execLayerMrw_keeps {α : State} {c layer addr data : Nat} {s : State} (hyp : Keeps α s) :
    KeepsR α (execLayerMrw c layer addr data s) := by
  unfold execLayerMrw
  split
  · exact keepsR_next (layMrw_keeps hyp)
  · exact keepsR_fault

theorem execLayerMrwb_keeps {α : State} {c addr data : Nat} {s : State} (hyp : Keeps α s) : KeepsR α (execLayerMrwb c addr data s) := by
  unfold execLayerMrwb
  split
  · exact keepsR_next (layMrwb_keeps hyp)
  · exact keepsR_fault

theorem execLayerPre_keeps {α : State} {c layer bank : Nat} {s : State} (hyp : Keeps α s) : KeepsR α (execLayerPre c layer bank s) := by
  unfold execLayerPre
  split
  · exact keepsR_next (layPre_keeps hyp)
  · exact keepsR_fault

theorem execLayerPreab_keeps {α : State} {c layer : Nat} {all : Bool} {s : State} (hyp : Keeps α s) :
    KeepsR α (execLayerPreab c layer all s) := by
  unfold execLayerPreab
  split
  · exact keepsR_next (layPreab_keeps hyp)
  · exact keepsR_fault

theorem execLayerPreset_keeps {α : State} {c layer : Nat} {all : Bool} {s : State} (hyp : Keeps α s) :
    KeepsR α (execLayerPreset c layer all s) := by
  unfold execLayerPreset
  split
  · exact keepsR_next (layPreset_keeps hyp)
  · exact keepsR_fault

theorem execLayerRd_keeps {α : State} {c layer bank line : Nat} {autoPre : Bool} {s : State} (hyp : Keeps α s) :
    KeepsR α (execLayerRd c layer bank line autoPre s) := by
  unfold execLayerRd
  split
  · exact keepsR_next (layRd_keeps hyp)
  · exact keepsR_fault

theorem execLayerRdc_keeps {α : State} {c layer bank _line : Nat} {autoPre : Bool} {s : State} (hyp : Keeps α s) :
    KeepsR α (execLayerRdc c layer bank _line autoPre s) := by
  unfold execLayerRdc
  split
  · exact keepsR_next (layRdc_keeps hyp)
  · exact keepsR_fault

theorem execLayerRdp_keeps {α : State} {c layer : Nat} {s : State} (hyp : Keeps α s) : KeepsR α (execLayerRdp c layer s) := by
  unfold execLayerRdp
  split
  · exact keepsR_next (layRdp_keeps hyp)
  · exact keepsR_fault

theorem execLayerRefpb_keeps {α : State} {c layer bank mask : Nat} {s : State} (hyp : Keeps α s) :
    KeepsR α (execLayerRefpb c layer bank mask s) := by
  unfold execLayerRefpb
  split
  · exact keepsR_next (layRefpb_keeps hyp)
  · exact keepsR_fault

theorem execLayerRpr_keeps {α : State} {c layer bank row : Nat} {s : State} (hyp : Keeps α s) : KeepsR α (execLayerRpr c layer bank row s) := by
  unfold execLayerRpr
  split
  · exact keepsR_next (layRpr_keeps hyp)
  · exact keepsR_fault

theorem execLayerSensorConversion_keeps {α : State} {s layer sensor code : Nat} {t : State} (hyp : Keeps α t) :
    KeepsR α (execLayerSensorConversion s layer sensor code t) := by
  unfold execLayerSensorConversion
  split
  · exact keepsR_next (laySensor_keeps hyp)
  · exact keepsR_fault

theorem execLayerSre_keeps {α : State} {c cls mask : Nat} {s : State} (hyp : Keeps α s) : KeepsR α (execLayerSre c cls mask s) := by
  unfold execLayerSre
  split
  · exact keepsR_next (laySre_keeps hyp)
  · exact keepsR_fault

theorem execLayerSrx_keeps {α : State} {c : Nat} {s : State} (hyp : Keeps α s) : KeepsR α (execLayerSrx c s) := by
  unfold execLayerSrx
  split
  · exact keepsR_next (laySrx_keeps hyp)
  · exact keepsR_fault

theorem execLayerWr_keeps {α : State} {c layer bank line : Nat} {autoPre preamble : Bool} {burst : Nat} {s : State} (hyp : Keeps α s) :
    KeepsR α (execLayerWr c layer bank line autoPre preamble burst s) := by
  unfold execLayerWr
  split
  · exact keepsR_next (layWr_keeps hyp)
  · exact keepsR_fault

theorem execLayerWrp_keeps {α : State} {c layer : Nat} {all preamble : Bool} {burst : Nat} {s : State} (hyp : Keeps α s) :
    KeepsR α (execLayerWrp c layer all preamble burst s) := by
  unfold execLayerWrp
  split
  · exact keepsR_next (layWrp_keeps hyp)
  · exact keepsR_fault

theorem execLedgerZeroingDone_keeps {α s : State} (hyp : Keeps α s) : KeepsR α (execLedgerZeroingDone s) :=
  keepsR_next (ledgerZeroed_keeps hyp)

theorem execLfsrSeedWrite_keeps {α : State} {r : Req} {value : Nat} {s : State} (hyp : Keeps α s) : KeepsR α (execLfsrSeedWrite r value s) :=
  keepsR_next (dictWrite_keeps hyp (fun _ _ => samplerHome_keeps (.refl _)))

theorem execLinkReset_keeps {α : State} {h : Nat} {s : State} (hyp : Keeps α s) : KeepsR α (execLinkReset h s) := by
  unfold execLinkReset
  split
  · exact keepsR_next (linkReset_keeps hyp)
  · exact keepsR_fault

theorem execLinkSilent_keeps {α : State} {h : Nat} {s : State} (hyp : Keeps α s) : KeepsR α (execLinkSilent h s) := by
  unfold execLinkSilent
  split
  · exact keepsR_next (linkSilent_keeps hyp)
  · exact keepsR_fault

theorem execLinkState_keeps {α : State} {h : Nat} {hdr : Hdr} {links : Nat} {s : State} (hyp : Keeps α s) :
    KeepsR α (execLinkState h hdr links s) := by
  unfold execLinkState
  split
  · exact keepsR_next (takeParcel_keeps hyp (fun _ => linksTaken_keeps (.refl _)))
  · exact keepsR_fault

theorem execLinkTrainingDone_keeps {α : State} {h modules : Nat} {s : State} (hyp : Keeps α s) :
    KeepsR α (execLinkTrainingDone h modules s) := by
  unfold execLinkTrainingDone
  split
  · exact keepsR_next (trainingDone_keeps hyp)
  · exact keepsR_fault

theorem execLogClear_keeps {α : State} {r : Req} {s : State} (hyp : Keeps α s) : KeepsR α (execLogClear r s) :=
  keepsR_next (dictWrite_keeps hyp (fun _ _ => applyHome_keeps (.refl _) (fun _ => clearLog_keeps (.refl _))))

theorem execLogicSensorRead_keeps {α : State} {readings : List Nat} {s : State} (hyp : Keeps α s) :
    KeepsR α (execLogicSensorRead readings s) :=
  keepsR_next (readLogic_keeps hyp)

theorem execLost_keeps {α : State} {via : Option (Nat × Hdr)} {node mask : Nat} {s : State} (hyp : Keeps α s) :
    KeepsR α (execLost via node mask s) := by
  unfold execLost
  split
  · split
    · exact keepsR_next (takeParcel_keeps hyp (fun _ => nodeLost_keeps (.refl _)))
    · exact keepsR_fault
  · exact keepsR_next (Keeps.ite (findLost_keeps hyp) hyp)

theorem execMarginDone_keeps {α : State} {c low high worst errors : Nat} {late : Bool} {s : State} (hyp : Keeps α s) :
    KeepsR α (execMarginDone c low high worst errors late s) :=
  present_keeps (marginDone_keeps hyp)

theorem execMarginRequest_keeps {α : State} {r : Req} {c value : Nat} {s : State} (hyp : Keeps α s) :
    KeepsR α (execMarginRequest r c value s) :=
  keepsR_next (dictWrite_keeps hyp (fun _ _ => marginHome_keeps (.refl _)))

theorem execMaskReadDone_keeps {α : State} {n : Nat} {s : State} (hyp : Keeps α s) : KeepsR α (execMaskReadDone n s) :=
  present_keeps (takeMasks_keeps hyp)

theorem execMember_keeps {α : State} {h : Nat} {hdr : Hdr} {node mask links : Nat} {s : State} (hyp : Keeps α s) :
    KeepsR α (execMember h hdr node mask links s) := by
  unfold execMember
  split
  · exact keepsR_next (takeParcel_keeps hyp (fun _ => Keeps.ite (tellReturning_keeps (refreshView_keeps (State.setSet_keeps (.refl _))))
      (Keeps.ite (tryForm_keeps (.refl _)) (tryForm_keeps (flood_keeps (refreshView_keeps (State.setSet_keeps (.refl _))))))))
  · exact keepsR_fault

theorem execMirrorClear_keeps {α : State} {r : Req} {s : State} (hyp : Keeps α s) : KeepsR α (execMirrorClear r s) :=
  keepsR_next (dictWrite_keeps hyp (fun _ _ => applyHome_keeps (.refl _) (fun _ => clearMirror_keeps (.refl _))))

theorem execMissingDataBeats_keeps {α : State} {c : Nat} {s : State} (hyp : Keeps α s) : KeepsR α (execMissingDataBeats c s) :=
  present_keeps (missingBeats_keeps hyp)

theorem execNegotiateAlgorithms_keeps {α : State} {r : Req} {ecdsa mlDsa sha384 secp384 gcm : Bool} {s : State} (hyp : Keeps α s) :
    KeepsR α (execNegotiateAlgorithms r ecdsa mlDsa sha384 secp384 gcm s) :=
  spdmTake_keeps hyp (fun _ => negotiateAlgorithmsAct_keeps (.refl _))

theorem execNodeRejoin_keeps {α : State} {r : Req} {node : Nat} {s : State} (hyp : Keeps α s) : KeepsR α (execNodeRejoin r node s) :=
  keepsR_next (dictWrite_keeps hyp (fun _ _ => nodeRejoinHome_keeps (.refl _)))

theorem execNotice_keeps {α : State} {h : Nat} {hdr : Hdr} {object value : Nat} {s : State} (hyp : Keeps α s) :
    KeepsR α (execNotice h hdr object value s) := by
  unfold execNotice
  split
  · exact keepsR_next (takeParcel_keeps hyp (fun _ => noticeTaken_keeps (.refl _)))
  · exact keepsR_fault

theorem execNotifyResponse_keeps {α : State} {n seq : Nat} {s : State} (hyp : Keeps α s) : KeepsR α (execNotifyResponse n seq s) := by
  unfold execNotifyResponse
  refine keepsR_next ?_
  split
  · refine Keeps.ite hyp (Keeps.ite (notifyNext_keeps hyp) (each_keeps (Keeps.update hyp) (fun _ _ => ?_)))
    split
    · exact Keeps.ite (notifyNext_keeps (.refl _)) (.refl _)
    · exact (.refl _)
  · exact hyp

theorem execNotifyRetryTimer_keeps {α : State} {n : Nat} {s : State} (hyp : Keeps α s) : KeepsR α (execNotifyRetryTimer n s) := by
  unfold execNotifyRetryTimer
  refine keepsR_next ?_
  split
  · exact hyp
  · exact Keeps.ite hyp (Keeps.ite (notifyNext_keeps hyp) (Keeps.ite (sendNotify_keeps (State.setNotifyQ_keeps hyp)) (raiseNode_keeps
      (notifyNext_keeps (State.bump_keeps hyp)))))

theorem execNvmRecordWrite_keeps {α : State} {area index : Nat} {s : State} (hyp : Keeps α s) : KeepsR α (execNvmRecordWrite area index s) := by
  unfold execNvmRecordWrite
  split
  · exact keepsR_fault
  · exact keepsR_next (areaWritten_keeps hyp)

theorem execNvmWriteFailed_keeps {α : State} {area index : Nat} {copyB : Bool} {s : State} (hyp : Keeps α s) :
    KeepsR α (execNvmWriteFailed area index copyB s) := by
  unfold execNvmWriteFailed
  dsimp only
  split
  · exact keepsR_fault
  · split
    · split
      · exact keepsR_next hyp
      · exact keepsR_next (copyFailed_keeps hyp)
    · split
      · exact keepsR_next hyp
      · exact keepsR_next (copyFailed_keeps hyp)

theorem execObjectWrite_keeps {α : State} {h : Nat} {hdr : Hdr} {idx sub order : Nat} {value : List Byte} {s : State} (hyp : Keeps α s) :
    KeepsR α (execObjectWrite h hdr idx sub order value s) := by
  unfold execObjectWrite
  split
  · exact keepsR_next (takeParcel_keeps hyp (fun _ => objectTaken_keeps (.refl _)))
  · exact keepsR_fault

theorem execOfferHoldExpiry_keeps {α s : State} (hyp : Keeps α s) : KeepsR α (execOfferHoldExpiry s) :=
  keepsR_next (expireHolds_keeps hyp)

theorem execOpenRead_keeps {α : State} {q : Side} {a : Nat} {s : State} (hyp : Keeps α s) : KeepsR α (execOpenRead q a s) :=
  lineRequest_keeps hyp

theorem execOpenWiden_keeps {α : State} {q : Side} {a x j : Nat} {s : State} (hyp : Keeps α s) : KeepsR α (execOpenWiden q a x j s) :=
  lineRequest_keeps hyp

theorem execOpenWrite_keeps {α : State} {q : Side} {a mask data : Nat} {s : State} (hyp : Keeps α s) :
    KeepsR α (execOpenWrite q a mask data s) :=
  lineRequest_keeps hyp

theorem execOscTrimStale_keeps {α s : State} (hyp : Keeps α s) : KeepsR α (execOscTrimStale s) :=
  keepsR_next (Keeps.ite hyp (raiseNode_keeps (State.setClk_keeps hyp)))

theorem execPanicInputTaken_keeps {α : State} {p level : Nat} {s : State} (hyp : Keeps α s) : KeepsR α (execPanicInputTaken p level s) :=
  present_keeps (takePanic_keeps hyp)

theorem execPanicReleased_keeps {α : State} {p : Nat} {s : State} (hyp : Keeps α s) : KeepsR α (execPanicReleased p s) :=
  present_keeps (Keeps.ite (raise_keeps (State.setOb_keeps hyp)) hyp)

theorem execPanicStuck_keeps {α : State} {p : Nat} {s : State} (hyp : Keeps α s) : KeepsR α (execPanicStuck p s) :=
  present_keeps (Keeps.ite (raise_keeps (State.bump_keeps (State.setOb_keeps hyp))) hyp)

theorem execParcelMalformed_keeps {α : State} {h : Nat} {sequenced : Bool} {s : State} (hyp : Keeps α s) :
    KeepsR α (execParcelMalformed h sequenced s) := by
  unfold execParcelMalformed
  split
  · exact keepsR_next (malformedParcel_keeps hyp)
  · exact keepsR_fault

theorem execParcelTransmit_keeps {α : State} {h : Nat} {s : State} (hyp : Keeps α s) : KeepsR α (execParcelTransmit h s) := by
  unfold execParcelTransmit
  split
  · exact keepsR_next (transmit_keeps hyp)
  · exact keepsR_fault

theorem execPartnerHeartbeat_keeps {α : State} {address node state period : Nat} {s : State} (hyp : Keeps α s) :
    KeepsR α (execPartnerHeartbeat address node state period s) :=
  keepsR_next (Keeps.ite hyp (Keeps.ite (partnerHeard_keeps (State.bump_keeps hyp)) (Keeps.ite (memberHeard_keeps (State.bump_keeps hyp)) hyp)))

theorem execPartnerLost_keeps {α s : State} (hyp : Keeps α s) : KeepsR α (execPartnerLost s) :=
  keepsR_next (Keeps.ite (raiseNode_keeps (State.bump_keeps (Keeps.update hyp))) hyp)

theorem execPersistGatherTimer_keeps {α s : State} (hyp : Keeps α s) : KeepsR α (execPersistGatherTimer s) :=
  keepsR_next (Keeps.ite (Keeps.update hyp) hyp)

theorem execPlanArm_keeps {α : State} {r : Req} {s : State} (hyp : Keeps α s) : KeepsR α (execPlanArm r s) :=
  keepsR_next (dictWrite_keeps hyp (fun _ _ => planHome_keeps (.refl _)))

theorem execPlanDisarm_keeps {α : State} {r : Req} {s : State} (hyp : Keeps α s) : KeepsR α (execPlanDisarm r s) :=
  keepsR_next (dictWrite_keeps hyp (fun _ _ => planHome_keeps (.refl _)))

theorem execPlanDiscard_keeps {α : State} {r : Req} {s : State} (hyp : Keeps α s) : KeepsR α (execPlanDiscard r s) :=
  keepsR_next (dictWrite_keeps hyp (fun _ _ => planHome_keeps (.refl _)))

theorem execPlanImageChecked_keeps {α : State} {reason place detail : Nat} {rejoin : Bool} {id crc : Nat} {s : State} (hyp : Keeps α s) :
    KeepsR α (execPlanImageChecked reason place detail rejoin id crc s) :=
  keepsR_next (Keeps.ite (Keeps.ite (rejoinChecked_keeps hyp) hyp) (imageChecked_keeps hyp))

theorem execPlanLoad_keeps {α : State} {r : Req} {s : State} (hyp : Keeps α s) : KeepsR α (execPlanLoad r s) :=
  keepsR_next (dictWrite_keeps hyp (fun _ _ => planHome_keeps (.refl _)))

theorem execPlanLoadTimeout_keeps {α s : State} (hyp : Keeps α s) : KeepsR α (execPlanLoadTimeout s) := by
  unfold execPlanLoadTimeout
  refine keepsR_next ?_
  split
  · exact Keeps.ite (refusePlan_keeps hyp) hyp
  · exact hyp

theorem execPlanStop_keeps {α : State} {r : Req} {s : State} (hyp : Keeps α s) : KeepsR α (execPlanStop r s) :=
  keepsR_next (dictWrite_keeps hyp (fun _ _ => planHome_keeps (.refl _)))

theorem execPlcaStatusChange_keeps {α : State} {active : Bool} {s : State} (hyp : Keeps α s) : KeepsR α (execPlcaStatusChange active s) :=
  keepsR_next (Keeps.ite (raiseNode_keeps (State.bump_keeps (State.setOb_keeps hyp))) (State.setOb_keeps hyp))

theorem execPoolReset_keeps {α : State} {r : Req} {d : Nat} {s : State} (hyp : Keeps α s) : KeepsR α (execPoolReset r d s) :=
  keepsR_next (dictWrite_keeps hyp (fun _ _ => poolResetHome_keeps (.refl _)))

theorem execPortReadyAsserted_keeps {α : State} {port : Port} {s : State} (hyp : Keeps α s) : KeepsR α (execPortReadyAsserted port s) := by
  unfold execPortReadyAsserted
  split
  · exact present_keeps (portReady_keeps hyp)
  · exact present_keeps (State.setFeeds_keeps hyp)
  · exact keepsR_next hyp

theorem execPortReadyWithdrawn_keeps {α : State} {port : Port} {s : State} (hyp : Keeps α s) : KeepsR α (execPortReadyWithdrawn port s) := by
  unfold execPortReadyWithdrawn
  split
  · exact present_keeps (portDown_keeps (State.setFeeds_keeps hyp))
  · exact present_keeps (State.setFeeds_keeps hyp)
  · exact keepsR_next hyp

theorem execPortRejoin_keeps {α : State} {r : Req} {t : Nat} {s : State} (hyp : Keeps α s) : KeepsR α (execPortRejoin r t s) :=
  keepsR_next (dictWrite_keeps hyp (fun _ _ => portRejoinHome_keeps (.refl _)))

theorem execPowerOnReset_keeps {α s : State} (hyp : Keeps α s) : KeepsR α (execPowerOnReset s) :=
  keepsR_next (powerOn_keeps hyp)

theorem execPowerWarnTaken_keeps {α : State} {level : Bool} {s : State} (hyp : Keeps α s) : KeepsR α (execPowerWarnTaken level s) :=
  keepsR_next (takePowerWarn_keeps hyp)

theorem execPrepare_keeps {α : State} {h : Nat} {hdr : Hdr} {frame plan : Nat} {s : State} (hyp : Keeps α s) :
    KeepsR α (execPrepare h hdr frame plan s) := by
  unfold execPrepare
  split
  · exact keepsR_next (takeParcel_keeps hyp (fun _ => takePrepare_keeps (.refl _)))
  · exact keepsR_fault

theorem execProcessorFault_keeps {α : State} {p : ProcId} {s : State} (hyp : Keeps α s) : KeepsR α (execProcessorFault p s) :=
  keepsR_next (Keeps.ite hyp (restartProc_keeps hyp))

theorem execProcessorRestartDone_keeps {α : State} {p : ProcId} {s : State} (hyp : Keeps α s) : KeepsR α (execProcessorRestartDone p s) :=
  keepsR_next (procBack_keeps hyp)

theorem execProcessorWatchdogExpiry_keeps {α : State} {p : ProcId} {s : State} (hyp : Keeps α s) :
    KeepsR α (execProcessorWatchdogExpiry p s) :=
  keepsR_next (Keeps.ite hyp (restartProc_keeps hyp))

theorem execQosStateFault_keeps {α : State} {kind n : Nat} {s : State} (hyp : Keeps α s) : KeepsR α (execQosStateFault kind n s) :=
  keepsR_next (raiseNode_keeps (State.bump_keeps (resetQos_keeps hyp)))

theorem execQueueEntryGrant_keeps {α : State} {c : Nat} {write : Bool} {s : State} (hyp : Keeps α s) :
    KeepsR α (execQueueEntryGrant c write s) :=
  present_keeps (grantOne_keeps hyp)

theorem execReadReturn_keeps {α : State} {c : Nat} {s : State} (hyp : Keeps α s) : KeepsR α (execReadReturn c s) := by
  unfold execReadReturn
  refine present_keeps ?_
  split
  · exact pump_keeps (readBack_keeps hyp)
  · exact hyp

theorem execReceiveBufferFull_keeps {α s : State} (hyp : Keeps α s) : KeepsR α (execReceiveBufferFull s) :=
  keepsR_next (State.bump_keeps hyp)

theorem execReconstitute_keeps {α : State} {r : Req} {c : Nat} {s : State} (hyp : Keeps α s) : KeepsR α (execReconstitute r c s) :=
  keepsR_next (dictWrite_keeps hyp (fun _ _ => reconstituteHome_keeps (.refl _)))

theorem execReconstitutionDone_keeps {α s : State} (hyp : Keeps α s) : KeepsR α (execReconstitutionDone s) :=
  keepsR_next (serveAll_keeps (reconstitutionDone_keeps hyp))

theorem execRecoveryRecordFreed_keeps {α : State} {c : Nat} {s : State} (hyp : Keeps α s) : KeepsR α (execRecoveryRecordFreed c s) :=
  present_keeps (pump_keeps (takeWaiting_keeps (placeRecovery_keeps hyp)))

theorem execReduce_keeps {α : State} {q : Side} {a : Nat} {w : RedWord} {data : Nat} {s : State} (hyp : Keeps α s) :
    KeepsR α (execReduce q a w data s) :=
  lineRequest_keeps hyp

theorem execReduceTimeout_keeps {α s : State} (hyp : Keeps α s) : KeepsR α (execReduceTimeout s) :=
  keepsR_next (serveAll_keeps (reduceTimeouts_keeps hyp))

theorem execRefBAbsent_keeps {α s : State} (hyp : Keeps α s) : KeepsR α (execRefBAbsent s) :=
  keepsR_next (refBAbsent_keeps hyp)

theorem execRefreshClassChange_keeps {α : State} {u : Nat} {s : State} (hyp : Keeps α s) : KeepsR α (execRefreshClassChange u s) :=
  present_keeps (classChange_keeps hyp)

theorem execRefreshIntervalTick_keeps {α : State} {c bank : Nat} {s : State} (hyp : Keeps α s) :
    KeepsR α (execRefreshIntervalTick c bank s) :=
  present_keeps (debtRise_keeps hyp)

theorem execRegionDescriptorWrite_keeps {α : State} {r : Req} {n : Nat} {value : List Byte} {s : State} (hyp : Keeps α s) :
    KeepsR α (execRegionDescriptorWrite r n value s) :=
  keepsR_next (dictWrite_keeps hyp (fun _ _ => regionHome_keeps (.refl _)))

theorem execRegulatorWindowStart_keeps {α : State} {n : Nat} {s : State} (hyp : Keeps α s) : KeepsR α (execRegulatorWindowStart n s) :=
  present_keeps (Keeps.ite (startWindow_keeps hyp) hyp)

theorem execRejoin_keeps {α : State} {h : Nat} {hdr : Hdr} {node : Nat} {s : State} (hyp : Keeps α s) : KeepsR α (execRejoin h hdr node s) := by
  unfold execRejoin
  split
  · exact keepsR_next (takeParcel_keeps hyp (fun _ => nodeReturns_keeps (.refl _)))
  · exact keepsR_fault

theorem execRelease_keeps {α : State} {r : Req} {s : State} (hyp : Keeps α s) : KeepsR α (execRelease r s) :=
  keepsR_next (dictWrite_keeps hyp (fun _ _ => ownerHome_keeps (.refl _)))

theorem execRequestParcel_keeps {α : State} {h : Nat} {hdr : Hdr} {body : List Byte} {s : State} (hyp : Keeps α s) :
    KeepsR α (execRequestParcel h hdr body s) := by
  unfold execRequestParcel
  split
  · exact keepsR_next (Keeps.ite hyp (takeChecked_keeps hyp (fun _ => requestTaken_keeps (.refl _))))
  · exact keepsR_fault

theorem execRereadReturn_keeps {α : State} {c : Nat} {s : State} (hyp : Keeps α s) : KeepsR α (execRereadReturn c s) := by
  unfold execRereadReturn
  refine present_keeps ?_
  split
  · exact pump_keeps (rereadBack_keeps hyp)
  · exact hyp

theorem execResetPattern_keeps {α : State} {c : Nat} {s : State} (hyp : Keeps α s) : KeepsR α (execResetPattern c s) := by
  unfold execResetPattern
  split
  · exact keepsR_next (layReset_keeps hyp)
  · exact keepsR_fault

theorem execRespondIfReady_keeps {α : State} {r : Req} {s : State} (hyp : Keeps α s) : KeepsR α (execRespondIfReady r s) :=
  spdmTake_keeps hyp (fun _ => respondIfReadyAct_keeps (.refl _))

theorem execRestEntryDrained_keeps {α s : State} (hyp : Keeps α s) : KeepsR α (execRestEntryDrained s) :=
  keepsR_next (restStep_keeps hyp)

theorem execRestartLimitExpiry_keeps {α : State} {p : ProcId} {s : State} (hyp : Keeps α s) : KeepsR α (execRestartLimitExpiry p s) := by
  unfold execRestartLimitExpiry
  refine keepsR_next ?_
  split
  · exact Keeps.ite (enterHalted_keeps hyp) hyp
  · exact hyp

theorem execRestoreReadDone_keeps {α : State} {c : Nat} {s : State} (hyp : Keeps α s) : KeepsR α (execRestoreReadDone c s) := by
  unfold execRestoreReadDone
  refine present_keeps ?_
  split
  · exact pump_keeps (restoreEnded_keeps (State.setFar_keeps hyp))
  · exact hyp

theorem execRestoredTrainingDone_keeps {α : State} {c : Nat} {ok : Bool} {s : State} (hyp : Keeps α s) :
    KeepsR α (execRestoredTrainingDone c ok s) :=
  present_keeps (serveAll_keeps (restoreDone_keeps hyp))

theorem execRetrainLimitExpiry_keeps {α : State} {h : Nat} {s : State} (hyp : Keeps α s) : KeepsR α (execRetrainLimitExpiry h s) := by
  unfold execRetrainLimitExpiry
  split
  · exact keepsR_next (retrainLimit_keeps hyp)
  · exact keepsR_fault

theorem execRetrainRequest_keeps {α : State} {r : Req} {c : Nat} {s : State} (hyp : Keeps α s) : KeepsR α (execRetrainRequest r c s) :=
  keepsR_next (dictWrite_keeps hyp (fun _ _ => retrainHome_keeps (.refl _)))

theorem execRetrainRoundStart_keeps {α : State} {c : Nat} {s : State} (hyp : Keeps α s) : KeepsR α (execRetrainRoundStart c s) :=
  present_keeps (roundStart_keeps hyp)

theorem execRingPop_keeps {α : State} {s : State} (hyp : Keeps α s) :
    KeepsR α (execRingPop s) := by
  unfold execRingPop
  refine keepsR_next ?_
  split
  · exact hyp
  · rename_i e l ring
    refine hyp.update (ring := fun k => ?_)
    have : s.mgmt.window.ring.length = l.length + 1 := by rw [ring, List.length_cons]
    show l.length ≤ 64
    omega

theorem execRowMoveBufferComplete_keeps {α : State} {c : Nat} {s : State} (hyp : Keeps α s) : KeepsR α (execRowMoveBufferComplete c s) :=
  present_keeps (pumpMoves_keeps (bufferComplete_keeps hyp))

theorem execRowMoveConfirmed_keeps {α : State} {c : Nat} {s : State} (hyp : Keeps α s) : KeepsR α (execRowMoveConfirmed c s) :=
  present_keeps (pumpMoves_keeps (finishMove_keeps (pumpMoves_keeps hyp)))

theorem execRowMoveStart_keeps {α : State} {c : Nat} {s : State} (hyp : Keeps α s) : KeepsR α (execRowMoveStart c s) :=
  present_keeps (startMove_keeps hyp)

theorem execRspAck_keeps {α s : State} (hyp : Keeps α s) : KeepsR α (execRspAck s) := by
  unfold execRspAck
  refine keepsR_next (Keeps.ite hyp ?_)
  split
  · exact sendResponse_keeps (Keeps.update hyp)
  · exact Keeps.update hyp

theorem execSampleControlWrite_keeps {α : State} {r : Req} {value : Nat} {s : State} (hyp : Keeps α s) :
    KeepsR α (execSampleControlWrite r value s) :=
  keepsR_next (dictWrite_keeps hyp (fun _ _ => samplerHome_keeps (.refl _)))

theorem execSegAbort_keeps {α : State} {r : Req} {idx sub : Nat} {s : State} (hyp : Keeps α s) : KeepsR α (execSegAbort r idx sub s) :=
  keepsR_next (takeRequest_keeps hyp (fun _ => segAbort_keeps (.refl _)))

theorem execSegData_keeps {α : State} {r : Req} {idx sub offset : Nat} {data : List Byte} {s : State} (hyp : Keeps α s) :
    KeepsR α (execSegData r idx sub offset data s) :=
  keepsR_next (takeRequest_keeps hyp (fun _ => segData_keeps (.refl _)))

theorem execSegEnd_keeps {α : State} {r : Req} {idx sub crc : Nat} {s : State} (hyp : Keeps α s) : KeepsR α (execSegEnd r idx sub crc s) :=
  keepsR_next (takeRequest_keeps hyp (fun _ => segEnd_keeps (.refl _)))

theorem execSegStart_keeps {α : State} {r : Req} {idx sub total base : Nat} {s : State} (hyp : Keeps α s) :
    KeepsR α (execSegStart r idx sub total base s) :=
  keepsR_next (takeRequest_keeps hyp (fun _ => segStart_keeps (.refl _)))

theorem execSelfRefreshEntry_keeps {α : State} {c : Nat} {s : State} (hyp : Keeps α s) : KeepsR α (execSelfRefreshEntry c s) :=
  present_keeps (selfRefreshEntry_keeps hyp)

theorem execSelfRefreshExit_keeps {α : State} {c : Nat} {s : State} (hyp : Keeps α s) : KeepsR α (execSelfRefreshExit c s) :=
  present_keeps (serveAll_keeps (selfRefreshExit_keeps hyp))

theorem execSensorExclude_keeps {α : State} {r : Req} {logic : Bool} {st part mask : Nat} {s : State} (hyp : Keeps α s) :
    KeepsR α (execSensorExclude r logic st part mask s) := by
  unfold execSensorExclude
  split
  · exact keepsR_next (dictWrite_keeps hyp (fun _ _ => logicExcludeHome_keeps (.refl _)))
  · exact keepsR_next (dictWrite_keeps hyp (fun _ _ => layerExcludeHome_keeps (.refl _)))

theorem execSensorNoReading_keeps {α : State} {st n : Nat} {s : State} (hyp : Keeps α s) : KeepsR α (execSensorNoReading st n s) :=
  present_keeps (silentSensor_keeps hyp)

theorem execSessionDropped_keeps {α : State} {src : Source} {idx sub : Nat} {s : State} (hyp : Keeps α s) :
    KeepsR α (execSessionDropped src idx sub s) := by
  unfold execSessionDropped
  refine keepsR_next ?_
  split
  · exact Keeps.ite (raiseNode_keeps (State.setSegments_keeps hyp)) hyp
  · exact hyp

theorem execSessionIdleTimeout_keeps {α : State} {id : Nat} {s : State} (hyp : Keeps α s) : KeepsR α (execSessionIdleTimeout id s) := by
  unfold execSessionIdleTimeout
  refine keepsR_next ?_
  split
  · exact Keeps.ite (endSession_keeps hyp) hyp
  · exact hyp

theorem execSetReset_keeps {α s : State} (hyp : Keeps α s) : KeepsR α (execSetReset s) :=
  keepsR_next (Keeps.ite hyp (setReset_keeps hyp))

theorem execSheafPllRestartLimit_keeps {α : State} {u : Nat} {s : State} (hyp : Keeps α s) : KeepsR α (execSheafPllRestartLimit u s) :=
  present_keeps (serveAll_keeps (pllRestartLimit_keeps hyp))

theorem execShutdownClear_keeps {α : State} {r : Req} {s : State} (hyp : Keeps α s) : KeepsR α (execShutdownClear r s) :=
  keepsR_next (dictWrite_keeps hyp (fun _ _ => shutdownClearHome_keeps (.refl _)))

theorem execShutdownRecordWritten_keeps {α s : State} (hyp : Keeps α s) : KeepsR α (execShutdownRecordWritten s) :=
  keepsR_next (recordWritten_keeps hyp)

theorem execSlackCleared_keeps {α s : State} (hyp : Keeps α s) : KeepsR α (execSlackCleared s) :=
  keepsR_next (Keeps.ite hyp (driveVreq_keeps (raiseNode_keeps (endDerate_keeps (State.setOb_keeps hyp)))))

theorem execSlackMeasurement_keeps {α : State} {counts : List (Option Nat)} {s : State} (hyp : Keeps α s) :
    KeepsR α (execSlackMeasurement counts s) :=
  keepsR_next (slackMeasurement_keeps hyp)

theorem execSliceFault_keeps {α : State} {x : Nat} {s : State} (hyp : Keeps α s) : KeepsR α (execSliceFault x s) :=
  present_keeps (serveAll_keeps (singleFault_keeps hyp (fun _ => sliceFault_keeps (.refl _))))

theorem execSliceRejoin_keeps {α : State} {r : Req} {x : Nat} {s : State} (hyp : Keeps α s) : KeepsR α (execSliceRejoin r x s) :=
  keepsR_next (dictWrite_keeps hyp (fun _ _ => sliceRejoinHome_keeps (.refl _)))

theorem execSliceTakenOver_keeps {α : State} {x : Nat} {repaired : Bool} {s : State} (hyp : Keeps α s) :
    KeepsR α (execSliceTakenOver x repaired s) :=
  present_keeps (serveAll_keeps (sliceTaken_keeps hyp))

theorem execSlotCopyDone_keeps {α s : State} (hyp : Keeps α s) : KeepsR α (execSlotCopyDone s) :=
  keepsR_next (slotCopied_keeps hyp)

theorem execSnapshotCapture_keeps {α s : State} (hyp : Keeps α s) : KeepsR α (execSnapshotCapture s) :=
  keepsR_next (snapshotCapture_keeps hyp)

theorem execSnapshotRequest_keeps {α : State} {r : Req} {time : Nat} {s : State} (hyp : Keeps α s) :
    KeepsR α (execSnapshotRequest r time s) :=
  keepsR_next (dictWrite_keeps hyp (fun _ _ => snapshotHome_keeps (.refl _)))

theorem execSourceStable_keeps {α : State} {m : Nat} {s : State} (hyp : Keeps α s) : KeepsR α (execSourceStable m s) :=
  present_keeps (serveAll_keeps (sourceStable_keeps hyp))

theorem execSpdmUnsupportedRequest_keeps {α : State} {r : Req} {s : State} (hyp : Keeps α s) : KeepsR α (execSpdmUnsupportedRequest r s) :=
  spdmTake_keeps hyp (fun _ => spdmUnsupportedRequestAct_keeps (.refl _))

theorem execStallTimeout_keeps {α : State} {n : Nat} {s : State} (hyp : Keeps α s) : KeepsR α (execStallTimeout n s) :=
  present_keeps (stall_keeps hyp)

theorem execStandingEntryWrite_keeps {α : State} {r : Req} {x : Nat} {value : List Byte} {s : State} (hyp : Keeps α s) :
    KeepsR α (execStandingEntryWrite r x value s) :=
  keepsR_next (dictWrite_keeps hyp (fun _ _ => standingHome_keeps (.refl _)))

theorem execStateRequestDeep_keeps {α : State} {r : Req} {s : State} (hyp : Keeps α s) : KeepsR α (execStateRequestDeep r s) :=
  keepsR_next (dictWrite_keeps hyp (fun _ _ => stateHome_keeps (.refl _)))

theorem execStateRequestReady_keeps {α : State} {r : Req} {s : State} (hyp : Keeps α s) : KeepsR α (execStateRequestReady r s) :=
  keepsR_next (dictWrite_keeps hyp (fun _ _ => stateHome_keeps (.refl _)))

theorem execStateRequestRest_keeps {α : State} {r : Req} {s : State} (hyp : Keeps α s) : KeepsR α (execStateRequestRest r s) :=
  keepsR_next (dictWrite_keeps hyp (fun _ _ => stateHome_keeps (.refl _)))

theorem execStepTimeout_keeps {α : State} {c g : Nat} {s : State} (hyp : Keeps α s) : KeepsR α (execStepTimeout c g s) :=
  present_keeps (serveAll_keeps (stepTimeout_keeps hyp))

theorem execStrapSample_keeps {α : State} {nodeId setSize : Nat} {recovery : Bool} {s : State} (hyp : Keeps α s) :
    KeepsR α (execStrapSample nodeId setSize recovery s) :=
  keepsR_next (sampleStraps_keeps hyp)

theorem execStreamEnd_keeps {α : State} {n : Nat} {s : State} (hyp : Keeps α s) : KeepsR α (execStreamEnd n s) :=
  decodeCmd_keeps hyp (fun _ _ _ => (.refl _))

theorem execStreamFmt_keeps {α : State} {n : Nat} {s : State} (hyp : Keeps α s) : KeepsR α (execStreamFmt n s) :=
  decodeCmd_keeps hyp (fun _ _ _ => (.refl _))

theorem execStreamMask_keeps {α : State} {n : Nat} {s : State} (hyp : Keeps α s) : KeepsR α (execStreamMask n s) :=
  decodeCmd_keeps hyp (fun _ _ _ => readMask_keeps (.refl _))

theorem execStreamMove_keeps {α : State} {n : Nat} {s : State} (hyp : Keeps α s) : KeepsR α (execStreamMove n s) :=
  decodeCmd_keeps hyp (fun _ _ _ => (.refl _))

theorem execStreamRepeat_keeps {α : State} {n : Nat} {s : State} (hyp : Keeps α s) : KeepsR α (execStreamRepeat n s) :=
  decodeCmd_keeps hyp (fun _ _ _ => (.refl _))

theorem execStreamSeta_keeps {α : State} {n : Nat} {s : State} (hyp : Keeps α s) : KeepsR α (execStreamSeta n s) :=
  decodeCmd_keeps hyp (fun _ _ _ => (.refl _))

theorem execStreamSetd_keeps {α : State} {n : Nat} {s : State} (hyp : Keeps α s) : KeepsR α (execStreamSetd n s) :=
  decodeCmd_keeps hyp (fun _ _ _ => (.refl _))

theorem execStreamSignal_keeps {α : State} {n : Nat} {s : State} (hyp : Keeps α s) : KeepsR α (execStreamSignal n s) :=
  decodeCmd_keeps hyp (fun _ _ _ => enterSignal_keeps (.refl _))

theorem execStreamSkip_keeps {α : State} {n : Nat} {s : State} (hyp : Keeps α s) : KeepsR α (execStreamSkip n s) :=
  decodeCmd_keeps hyp (fun _ _ _ => (.refl _))

theorem execStreamWait_keeps {α : State} {n : Nat} {s : State} (hyp : Keeps α s) : KeepsR α (execStreamWait n s) :=
  decodeCmd_keeps hyp (fun _ _ _ => registerWatch_keeps (State.modStream_keeps (.refl _)))

theorem execSupplyLoss_keeps {α : State} {vphy : Bool} {s : State} (hyp : Keeps α s) : KeepsR α (execSupplyLoss vphy s) :=
  keepsR_next (supplyLoss_keeps hyp)

theorem execSvDramAccess_keeps {α s : State} (hyp : Keeps α s) : KeepsR α (execSvDramAccess s) :=
  keepsR_next (wrapPowered_keeps hyp (fun _ => wrapDebug_keeps (.refl _)))

theorem execSvIdcode_keeps {α s : State} (hyp : Keeps α s) : KeepsR α (execSvIdcode s) :=
  keepsR_next (wrapPowered_keeps hyp (fun _ => wrapFree_keeps (.refl _)))

theorem execSvMbistCache_keeps {α s : State} (hyp : Keeps α s) : KeepsR α (execSvMbistCache s) :=
  keepsR_next (wrapPowered_keeps hyp (fun _ => wrapDebug_keeps (.refl _)))

theorem execSvMbistLogic_keeps {α s : State} (hyp : Keeps α s) : KeepsR α (execSvMbistLogic s) :=
  keepsR_next (wrapPowered_keeps hyp (fun _ => wrapTest_keeps (.refl _)))

theorem execSvMbistVkeep_keeps {α s : State} (hyp : Keeps α s) : KeepsR α (execSvMbistVkeep s) :=
  keepsR_next (wrapPowered_keeps hyp (fun _ => wrapDebug_keeps (.refl _)))

theorem execSvProcDebug_keeps {α s : State} (hyp : Keeps α s) : KeepsR α (execSvProcDebug s) :=
  keepsR_next (wrapPowered_keeps hyp (fun _ => wrapDebug_keeps (.refl _)))

theorem execSvSdiLoop_keeps {α s : State} (hyp : Keeps α s) : KeepsR α (execSvSdiLoop s) :=
  keepsR_next (wrapPowered_keeps hyp (fun _ => wrapTest_keeps (.refl _)))

theorem execSvStatus_keeps {α s : State} (hyp : Keeps α s) : KeepsR α (execSvStatus s) :=
  keepsR_next (wrapPowered_keeps hyp (fun _ => wrapFree_keeps (.refl _)))

theorem execSvWardenDebug_keeps {α s : State} (hyp : Keeps α s) : KeepsR α (execSvWardenDebug s) :=
  keepsR_next (wrapPowered_keeps hyp (fun _ => wrapDebug_keeps (.refl _)))

theorem execSyncAdd_keeps {α : State} {q : Side} {obj addend : Nat} {s : State} (hyp : Keeps α s) : KeepsR α (execSyncAdd q obj addend s) :=
  syncRequest_keeps hyp

theorem execSyncObjectWrite_keeps {α : State} {r : Req} {o value : Nat} {s : State} (hyp : Keeps α s) :
    KeepsR α (execSyncObjectWrite r o value s) :=
  keepsR_next (dictWrite_keeps hyp (fun _ _ => syncObjectHome_keeps (.refl _)))

theorem execSyncRead_keeps {α : State} {q : Side} {obj : Nat} {s : State} (hyp : Keeps α s) : KeepsR α (execSyncRead q obj s) :=
  syncRequest_keeps hyp

theorem execSyncReset_keeps {α : State} {q : Side} {obj : Nat} {s : State} (hyp : Keeps α s) : KeepsR α (execSyncReset q obj s) :=
  syncRequest_keeps hyp

theorem execSyncSet_keeps {α : State} {q : Side} {obj value : Nat} {s : State} (hyp : Keeps α s) : KeepsR α (execSyncSet q obj value s) :=
  syncRequest_keeps hyp

theorem execSyncSignal_keeps {α : State} {q : Side} {obj addend : Nat} {s : State} (hyp : Keeps α s) :
    KeepsR α (execSyncSignal q obj addend s) :=
  syncRequest_keeps hyp

theorem execSyncWait_keeps {α : State} {q : Side} {obj threshold : Nat} {s : State} (hyp : Keeps α s) :
    KeepsR α (execSyncWait q obj threshold s) :=
  syncRequest_keeps hyp

theorem execSyncWaitTimeout_keeps {α s : State} (hyp : Keeps α s) : KeepsR α (execSyncWaitTimeout s) :=
  keepsR_next (serveAll_keeps (syncTimeouts_keeps hyp))

theorem execTapStepConfirmed_keeps {α : State} {c : Nat} {s : State} (hyp : Keeps α s) : KeepsR α (execTapStepConfirmed c s) :=
  present_keeps (tapConfirmed_keeps hyp)

theorem execThermalFlagAlert_keeps {α : State} {c layer : Nat} {s : State} (hyp : Keeps α s) : KeepsR α (execThermalFlagAlert c layer s) :=
  present_keeps (flagAlert_keeps hyp)

theorem execThrottleAckMissing_keeps {α s : State} (hyp : Keeps α s) : KeepsR α (execThrottleAckMissing s) :=
  keepsR_next (ackMissing_keeps hyp)

theorem execThrottleAckToggle_keeps {α s : State} (hyp : Keeps α s) : KeepsR α (execThrottleAckToggle s) :=
  keepsR_next (ackToggle_keeps hyp)

theorem execTide_keeps {α s : State} (hyp : Keeps α s) : KeepsR α (execTide s) :=
  keepsR_next (tide_keeps hyp)

theorem execTideDecisionMissing_keeps {α s : State} (hyp : Keeps α s) : KeepsR α (execTideDecisionMissing s) :=
  keepsR_next (decisionMissing_keeps hyp)

theorem execTideIntervalWrite_keeps {α : State} {r : Req} {value : Nat} {s : State} (hyp : Keeps α s) :
    KeepsR α (execTideIntervalWrite r value s) :=
  keepsR_next (dictWrite_keeps hyp (fun _ _ => intervalHome_keeps (.refl _)))

theorem execTidePreparePoint_keeps {α s : State} (hyp : Keeps α s) : KeepsR α (execTidePreparePoint s) :=
  keepsR_next (prepareTide_keeps hyp)

theorem execTideSwitchRetired_keeps {α s : State} (hyp : Keeps α s) : KeepsR α (execTideSwitchRetired s) :=
  keepsR_next (retireSwitch_keeps hyp)

theorem execTimeOffset_keeps {α s : State} (hyp : Keeps α s) : KeepsR α (execTimeOffset s) := by
  unfold execTimeOffset
  refine keepsR_next ?_
  split
  · exact Keeps.ite (raiseNode_keeps hyp) hyp
  · exact hyp

theorem execTimeParcel_keeps {α : State} {h tx echo echoRx rx : Nat} {s : State} (hyp : Keeps α s) :
    KeepsR α (execTimeParcel h tx echo echoRx rx s) := by
  unfold execTimeParcel
  split
  · exact keepsR_next (timeTaken_keeps hyp)
  · exact keepsR_fault

theorem execTimeSendTimer_keeps {α : State} {h : Nat} {s : State} (hyp : Keeps α s) : KeepsR α (execTimeSendTimer h s) := by
  unfold execTimeSendTimer
  split
  · exact keepsR_next (Keeps.ite (sendLink_keeps (State.setPort_keeps hyp)) hyp)
  · exact keepsR_fault

theorem execTimeUnsynchronised_keeps {α s : State} (hyp : Keeps α s) : KeepsR α (execTimeUnsynchronised s) := by
  unfold execTimeUnsynchronised
  refine keepsR_next ?_
  split
  · exact Keeps.ite (raiseNode_keeps (State.setSet_keeps hyp)) hyp
  · exact hyp

theorem execTrackerAgeExpiry_keeps {α : State} {c : Nat} {s : State} (hyp : Keeps α s) : KeepsR α (execTrackerAgeExpiry c s) :=
  present_keeps (ageWeak_keeps hyp)

theorem execTrafficResumed_keeps {α : State} {st : Nat} {s : State} (hyp : Keeps α s) : KeepsR α (execTrafficResumed st s) :=
  present_keeps (serveAll_keeps (resumeTraffic_keeps hyp))

theorem execTrainingTimeout_keeps {α : State} {c : Nat} {s : State} (hyp : Keeps α s) : KeepsR α (execTrainingTimeout c s) :=
  present_keeps (serveAll_keeps (trainingTimeout_keeps hyp))

theorem execTransferDone_keeps {α : State} {num : Nat} {s : State} (hyp : Keeps α s) : KeepsR α (execTransferDone num s) :=
  keepsR_next (serveAll_keeps (endTransfer_keeps (pumpTransfers_keeps hyp)))

theorem execTransferOwner_keeps {α : State} {r : Req} {s : State} (hyp : Keeps α s) : KeepsR α (execTransferOwner r s) :=
  keepsR_next (dictWrite_keeps hyp (fun _ _ => ownerHome_keeps (.refl _)))

theorem execTransferStart_keeps {α : State} {held : Nat} {s : State} (hyp : Keeps α s) : KeepsR α (execTransferStart held s) :=
  keepsR_next (startTransfer_keeps hyp)

theorem execTransferSubmit_keeps {α : State} {r : Req} {value : List Byte} {s : State} (hyp : Keeps α s) :
    KeepsR α (execTransferSubmit r value s) :=
  keepsR_next (dictWrite_keeps hyp (fun _ _ => transferHome_keeps (.refl _)))

theorem execUnitRejoin_keeps {α : State} {r : Req} {u : Nat} {s : State} (hyp : Keeps α s) : KeepsR α (execUnitRejoin r u s) :=
  keepsR_next (dictWrite_keeps hyp (fun _ _ => unitRejoinHome_keeps (.refl _)))

theorem execUnretainedChannelTimeout_keeps {α : State} {c : Nat} {s : State} (hyp : Keeps α s) :
    KeepsR α (execUnretainedChannelTimeout c s) :=
  present_keeps (Keeps.ite (markUnretained_keeps hyp) hyp)

theorem execUnretainedPoisonFillDone_keeps {α : State} {c : Nat} {s : State} (hyp : Keeps α s) :
    KeepsR α (execUnretainedPoisonFillDone c s) :=
  present_keeps (unretainedFilled_keeps hyp)

theorem execUpBeatDiscarded_keeps {α : State} {port : Port} {s : State} (hyp : Keeps α s) : KeepsR α (execUpBeatDiscarded port s) := by
  unfold execUpBeatDiscarded
  split
  · exact present_keeps (discardBeat_keeps hyp)
  · exact present_keeps (State.bump_keeps hyp)
  · exact keepsR_next hyp

theorem execUpdateActivate_keeps {α : State} {r : Req} {others : Bool} {s : State} (hyp : Keeps α s) :
    KeepsR α (execUpdateActivate r others s) :=
  keepsR_next (dictWrite_keeps hyp (fun _ _ => updateHome_keeps (.refl _)))

theorem execUpdateBegin_keeps {α : State} {r : Req} {s : State} (hyp : Keeps α s) : KeepsR α (execUpdateBegin r s) :=
  keepsR_next (dictWrite_keeps hyp (fun _ _ => updateHome_keeps (.refl _)))

theorem execUpdateDiscard_keeps {α : State} {r : Req} {s : State} (hyp : Keeps α s) : KeepsR α (execUpdateDiscard r s) :=
  keepsR_next (dictWrite_keeps hyp (fun _ _ => updateHome_keeps (.refl _)))

theorem execUpdateVerify_keeps {α : State} {r : Req} {s : State} (hyp : Keeps α s) : KeepsR α (execUpdateVerify r s) :=
  keepsR_next (dictWrite_keeps hyp (fun _ _ => updateHome_keeps (.refl _)))

theorem execVcoreGood_keeps {α s : State} (hyp : Keeps α s) : KeepsR α (execVcoreGood s) :=
  keepsR_next (vcoreGood_keeps hyp)

theorem execVerificationDone_keeps {α s : State} (hyp : Keeps α s) : KeepsR α (execVerificationDone s) :=
  keepsR_next (verificationDone_keeps hyp)

theorem execVkeepLoss_keeps {α s : State} (hyp : Keeps α s) : KeepsR α (execVkeepLoss s) :=
  keepsR_next (vkeepLost_keeps hyp)

theorem execVote_keeps {α : State} {h : Nat} {hdr : Hdr} {frame vote : Nat} {s : State} (hyp : Keeps α s) :
    KeepsR α (execVote h hdr frame vote s) := by
  unfold execVote
  split
  · exact keepsR_next (takeParcel_keeps hyp (fun _ => takeVote_keeps (.refl _)))
  · exact keepsR_fault

theorem execVreqLowerTimer_keeps {α s : State} (hyp : Keeps α s) : KeepsR α (execVreqLowerTimer s) :=
  keepsR_next (driveVreq_keeps hyp)

theorem execWaitSatisfied_keeps {α : State} {n : Nat} {s : State} (hyp : Keeps α s) : KeepsR α (execWaitSatisfied n s) :=
  present_keeps (passWait_keeps hyp)

theorem execWakeExitComplete_keeps {α s : State} (hyp : Keeps α s) : KeepsR α (execWakeExitComplete s) :=
  keepsR_next (wakeDone_keeps hyp)

theorem execWarmReset_keeps {α : State} {r : Req} {s : State} (hyp : Keeps α s) : KeepsR α (execWarmReset r s) :=
  keepsR_next (dictWrite_keeps hyp (fun _ _ => warmHome_keeps (.refl _)))

theorem execWarmResetLimitExpiry_keeps {α : State} {node : Nat} {s : State} (hyp : Keeps α s) : KeepsR α (execWarmResetLimitExpiry node s) :=
  keepsR_next (warmResetLimit_keeps hyp)

theorem execWarmResetParcel_keeps {α : State} {h : Nat} {hdr : Hdr} {node : Nat} {s : State} (hyp : Keeps α s) :
    KeepsR α (execWarmResetParcel h hdr node s) := by
  unfold execWarmResetParcel
  split
  · exact keepsR_next (takeParcel_keeps hyp (fun _ => peerResets_keeps (.refl _)))
  · exact keepsR_fault

theorem execWriteBackAccepted_keeps {α : State} {x : Nat} {s : State} (hyp : Keeps α s) : KeepsR α (execWriteBackAccepted x s) :=
  present_keeps (serveAll_keeps (retryAllocs_keeps (takeWriteBack_keeps hyp)))

theorem execWriteBackLimitExpiry_keeps {α s : State} (hyp : Keeps α s) : KeepsR α (execWriteBackLimitExpiry s) :=
  keepsR_next (writeBackLimit_keeps hyp)

theorem execWriteConfirm_keeps {α : State} {c : Nat} {s : State} (hyp : Keeps α s) : KeepsR α (execWriteConfirm c s) := by
  unfold execWriteConfirm
  dsimp only
  refine present_keeps ?_
  split
  · exact pump_keeps (confirmWrite_keeps hyp)
  · exact hyp

theorem execWritebackAgeExpiry_keeps {α s : State} (hyp : Keeps α s) : KeepsR α (execWritebackAgeExpiry s) :=
  keepsR_next (writeBackAll_keeps hyp)

theorem execWsBypass_keeps {α s : State} (hyp : Keeps α s) : KeepsR α (execWsBypass s) :=
  keepsR_next (wrapPowered_keeps hyp (fun _ => wrapFree_keeps (.refl _)))

theorem execWsExtest_keeps {α s : State} (hyp : Keeps α s) : KeepsR α (execWsExtest s) :=
  keepsR_next (wrapPowered_keeps hyp (fun _ => wrapTest_keeps (.refl _)))

theorem execWsIntestScan_keeps {α s : State} (hyp : Keeps α s) : KeepsR α (execWsIntestScan s) :=
  keepsR_next (wrapPowered_keeps hyp (fun _ => wrapDebug_keeps (.refl _)))

theorem execZeroisationPoisonDone_keeps {α s : State} (hyp : Keeps α s) : KeepsR α (execZeroisationPoisonDone s) :=
  keepsR_next (serveAll_keeps (zeroPoisoned_keeps hyp))

theorem execZeroise_keeps {α : State} {r : Req} {s : State} (hyp : Keeps α s) : KeepsR α (execZeroise r s) :=
  keepsR_next (dictWrite_keeps hyp (fun _ _ => ownerHome_keeps (.refl _)))

end Sys2Proof.Machine


/-!
PROOF. O58: every command and every step keeps what no command may change, and the settling of O58.
-/
namespace Sys2Proof.Machine

-- One proof after another, each on a stack of its own, for the check's memory.
set_option Elab.async false

/-- A command of any kind keeps what no command may change. -/
theorem exec_keeps {α s : State} (i : Instr) (hyp : Keeps α s) : KeepsR α (exec i s) :=
  match i with
  | .powerOnReset => execPowerOnReset_keeps hyp
  | .vkeepLoss => execVkeepLoss_keeps hyp
  | .vcoreGood => execVcoreGood_keeps hyp
  | .supplyLoss .. => execSupplyLoss_keeps hyp
  | .setReset => execSetReset_keeps hyp
  | .warmReset .. => execWarmReset_keeps hyp
  | .stateRequestReady .. => execStateRequestReady_keeps hyp
  | .stateRequestRest .. => execStateRequestRest_keeps hyp
  | .stateRequestDeep .. => execStateRequestDeep_keeps hyp
  | .configBlockersClear => execConfigBlockersClear_keeps hyp
  | .restEntryDrained => execRestEntryDrained_keeps hyp
  | .wakeExitComplete => execWakeExitComplete_keeps hyp
  | .unretainedChannelTimeout .. => execUnretainedChannelTimeout_keeps hyp
  | .unretainedPoisonFillDone .. => execUnretainedPoisonFillDone_keeps hyp
  | .checkerSelfTestDone .. => execCheckerSelfTestDone_keeps hyp
  | .nodeRejoin .. => execNodeRejoin_keeps hyp
  | .processorWatchdogExpiry .. => execProcessorWatchdogExpiry_keeps hyp
  | .processorFault .. => execProcessorFault_keeps hyp
  | .keeperWatchdogExpiry => execKeeperWatchdogExpiry_keeps hyp
  | .processorRestartDone .. => execProcessorRestartDone_keeps hyp
  | .restartLimitExpiry .. => execRestartLimitExpiry_keeps hyp
  | .dictionaryWrite .. => execDictionaryWrite_keeps hyp
  | .regionDescriptorWrite .. => execRegionDescriptorWrite_keeps hyp
  | .planLoad .. => execPlanLoad_keeps hyp
  | .planArm .. => execPlanArm_keeps hyp
  | .planStop .. => execPlanStop_keeps hyp
  | .planDiscard .. => execPlanDiscard_keeps hyp
  | .planDisarm .. => execPlanDisarm_keeps hyp
  | .planImageChecked .. => execPlanImageChecked_keeps hyp
  | .planLoadTimeout => execPlanLoadTimeout_keeps hyp
  | .frameBoundary => execFrameBoundary_keeps hyp
  | .tide => execTide_keeps hyp
  | .tidePreparePoint => execTidePreparePoint_keeps hyp
  | .commitPoint => execCommitPoint_keeps hyp
  | .tideDecisionMissing => execTideDecisionMissing_keeps hyp
  | .tideSwitchRetired => execTideSwitchRetired_keeps hyp
  | .tideIntervalWrite .. => execTideIntervalWrite_keeps hyp
  | .fenceClear .. => execFenceClear_keeps hyp
  | .channelSlot .. => execChannelSlot_keeps hyp
  | .streamEnd .. => execStreamEnd_keeps hyp
  | .streamSeta .. => execStreamSeta_keeps hyp
  | .streamSetd .. => execStreamSetd_keeps hyp
  | .streamMove .. => execStreamMove_keeps hyp
  | .streamSkip .. => execStreamSkip_keeps hyp
  | .streamMask .. => execStreamMask_keeps hyp
  | .streamWait .. => execStreamWait_keeps hyp
  | .streamSignal .. => execStreamSignal_keeps hyp
  | .streamRepeat .. => execStreamRepeat_keeps hyp
  | .streamFmt .. => execStreamFmt_keeps hyp
  | .maskReadDone .. => execMaskReadDone_keeps hyp
  | .waitSatisfied .. => execWaitSatisfied_keeps hyp
  | .drainBeat .. => execDrainBeat_keeps hyp
  | .feedCreditReturn .. => execFeedCreditReturn_keeps hyp
  | .landedBeat .. => execLandedBeat_keeps hyp
  | .upBeatDiscarded .. => execUpBeatDiscarded_keeps hyp
  | .feedPortTimeout .. => execFeedPortTimeout_keeps hyp
  | .portReadyWithdrawn .. => execPortReadyWithdrawn_keeps hyp
  | .portReadyAsserted .. => execPortReadyAsserted_keeps hyp
  | .stallTimeout .. => execStallTimeout_keeps hyp
  | .fenceRequest .. => execFenceRequest_keeps hyp
  | .engineFault .. => execEngineFault_keeps hyp
  | .portRejoin .. => execPortRejoin_keeps hyp
  | .engineRejoin .. => execEngineRejoin_keeps hyp
  | .drainLineNarrowed .. => execDrainLineNarrowed_keeps hyp
  | .escapeReadDone => execEscapeReadDone_keeps hyp
  | .poolReset .. => execPoolReset_keeps hyp
  | .beyondBoundClear .. => execBeyondBoundClear_keeps hyp
  | .standingEntryWrite .. => execStandingEntryWrite_keeps hyp
  | .formatUnitFault .. => execFormatUnitFault_keeps hyp
  | .unitRejoin .. => execUnitRejoin_keeps hyp
  | .openRead .. => execOpenRead_keeps hyp
  | .openWrite .. => execOpenWrite_keeps hyp
  | .openWiden .. => execOpenWiden_keeps hyp
  | .atomicSwap .. => execAtomicSwap_keeps hyp
  | .atomicCas .. => execAtomicCas_keeps hyp
  | .atomicAdd .. => execAtomicAdd_keeps hyp
  | .atomicAnd .. => execAtomicAnd_keeps hyp
  | .atomicOr .. => execAtomicOr_keeps hyp
  | .atomicXor .. => execAtomicXor_keeps hyp
  | .atomicSmin .. => execAtomicSmin_keeps hyp
  | .atomicSmax .. => execAtomicSmax_keeps hyp
  | .atomicUmin .. => execAtomicUmin_keeps hyp
  | .atomicUmax .. => execAtomicUmax_keeps hyp
  | .atomicFadd .. => execAtomicFadd_keeps hyp
  | .atomicFmin .. => execAtomicFmin_keeps hyp
  | .atomicFmax .. => execAtomicFmax_keeps hyp
  | .atomicIncwrap .. => execAtomicIncwrap_keeps hyp
  | .atomicRead .. => execAtomicRead_keeps hyp
  | .atomicFlush .. => execAtomicFlush_keeps hyp
  | .reduce .. => execReduce_keeps hyp
  | .contributionApply .. => execContributionApply_keeps hyp
  | .reduceTimeout => execReduceTimeout_keeps hyp
  | .closedRecordExpiry => execClosedRecordExpiry_keeps hyp
  | .syncRead .. => execSyncRead_keeps hyp
  | .syncSet .. => execSyncSet_keeps hyp
  | .syncAdd .. => execSyncAdd_keeps hyp
  | .syncSignal .. => execSyncSignal_keeps hyp
  | .syncWait .. => execSyncWait_keeps hyp
  | .syncReset .. => execSyncReset_keeps hyp
  | .syncWaitTimeout => execSyncWaitTimeout_keeps hyp
  | .syncObjectWrite .. => execSyncObjectWrite_keeps hyp
  | .cacheMissFill => execCacheMissFill_keeps hyp
  | .writebackAgeExpiry => execWritebackAgeExpiry_keeps hyp
  | .flushAll .. => execFlushAll_keeps hyp
  | .writeBackAccepted .. => execWriteBackAccepted_keeps hyp
  | .sliceFault .. => execSliceFault_keeps hyp
  | .sliceTakenOver .. => execSliceTakenOver_keeps hyp
  | .sliceRejoin .. => execSliceRejoin_keeps hyp
  | .refreshIntervalTick .. => execRefreshIntervalTick_keeps hyp
  | .refreshClassChange .. => execRefreshClassChange_keeps hyp
  | .selfRefreshEntry .. => execSelfRefreshEntry_keeps hyp
  | .selfRefreshExit .. => execSelfRefreshExit_keeps hyp
  | .deepSegmentPoisonDone .. => execDeepSegmentPoisonDone_keeps hyp
  | .channelFault .. => execChannelFault_keeps hyp
  | .channelRecovered .. => execChannelRecovered_keeps hyp
  | .channelRecoveryTimeout .. => execChannelRecoveryTimeout_keeps hyp
  | .channelRejoin .. => execChannelRejoin_keeps hyp
  | .fillReadReturn .. => execFillReadReturn_keeps hyp
  | .readReturn .. => execReadReturn_keeps hyp
  | .writeConfirm .. => execWriteConfirm_keeps hyp
  | .alertSampled .. => execAlertSampled_keeps hyp
  | .missingDataBeats .. => execMissingDataBeats_keeps hyp
  | .offerHoldExpiry => execOfferHoldExpiry_keeps hyp
  | .queueEntryGrant .. => execQueueEntryGrant_keeps hyp
  | .completionDelivery .. => execCompletionDelivery_keeps hyp
  | .regulatorWindowStart .. => execRegulatorWindowStart_keeps hyp
  | .panicInputTaken .. => execPanicInputTaken_keeps hyp
  | .panicStuck .. => execPanicStuck_keeps hyp
  | .panicReleased .. => execPanicReleased_keeps hyp
  | .degradeStepEnd .. => execDegradeStepEnd_keeps hyp
  | .qosStateFault .. => execQosStateFault_keeps hyp
  | .recoveryRecordFreed .. => execRecoveryRecordFreed_keeps hyp
  | .rereadReturn .. => execRereadReturn_keeps hyp
  | .restoreReadDone .. => execRestoreReadDone_keeps hyp
  | .gleanerSlow .. => execGleanerSlow_keeps hyp
  | .trackerAgeExpiry .. => execTrackerAgeExpiry_keeps hyp
  | .healWriteConfirmed .. => execHealWriteConfirmed_keeps hyp
  | .rowMoveStart .. => execRowMoveStart_keeps hyp
  | .rowMoveBufferComplete .. => execRowMoveBufferComplete_keeps hyp
  | .rowMoveConfirmed .. => execRowMoveConfirmed_keeps hyp
  | .reconstitute .. => execReconstitute_keeps hyp
  | .displacingDone => execDisplacingDone_keeps hyp
  | .reconstitutionDone => execReconstitutionDone_keeps hyp
  | .copyBack .. => execCopyBack_keeps hyp
  | .copyBackDone => execCopyBackDone_keeps hyp
  | .journalCopyFault .. => execJournalCopyFault_keeps hyp
  | .journalRebuildDone => execJournalRebuildDone_keeps hyp
  | .journalLost => execJournalLost_keeps hyp
  | .logicSensorRead .. => execLogicSensorRead_keeps hyp
  | .sensorNoReading .. => execSensorNoReading_keeps hyp
  | .sensorExclude .. => execSensorExclude_keeps hyp
  | .hardwareComparator => execHardwareComparator_keeps hyp
  | .throttleAckToggle => execThrottleAckToggle_keeps hyp
  | .throttleAckMissing => execThrottleAckMissing_keeps hyp
  | .graceExpired .. => execGraceExpired_keeps hyp
  | .graceRearm .. => execGraceRearm_keeps hyp
  | .haltedSensorCheck .. => execHaltedSensorCheck_keeps hyp
  | .trafficResumed .. => execTrafficResumed_keeps hyp
  | .shutdownRecordWritten => execShutdownRecordWritten_keeps hyp
  | .cooledRestart => execCooledRestart_keeps hyp
  | .shutdownClear .. => execShutdownClear_keeps hyp
  | .thermalFlagAlert .. => execThermalFlagAlert_keeps hyp
  | .fullTrainingDone .. => execFullTrainingDone_keeps hyp
  | .trainingTimeout .. => execTrainingTimeout_keeps hyp
  | .restoredTrainingDone .. => execRestoredTrainingDone_keeps hyp
  | .tapStepConfirmed .. => execTapStepConfirmed_keeps hyp
  | .stepTimeout .. => execStepTimeout_keeps hyp
  | .retrainRoundStart .. => execRetrainRoundStart_keeps hyp
  | .groupRetrainDone .. => execGroupRetrainDone_keeps hyp
  | .marginRequest .. => execMarginRequest_keeps hyp
  | .marginDone .. => execMarginDone_keeps hyp
  | .retrainRequest .. => execRetrainRequest_keeps hyp
  | .hello .. => execHello_keeps hyp
  | .joinTimeout .. => execJoinTimeout_keeps hyp
  | .formationTimeout => execFormationTimeout_keeps hyp
  | .member .. => execMember_keeps hyp
  | .formed .. => execFormed_keeps hyp
  | .frameEpoch => execFrameEpoch_keeps hyp
  | .lost .. => execLost_keeps hyp
  | .linkState .. => execLinkState_keeps hyp
  | .flowReset .. => execFlowReset_keeps hyp
  | .prepare .. => execPrepare_keeps hyp
  | .vote .. => execVote_keeps hyp
  | .commitTide .. => execCommitTide_keeps hyp
  | .deferTide .. => execDeferTide_keeps hyp
  | .objectWrite .. => execObjectWrite_keeps hyp
  | .warmResetParcel .. => execWarmResetParcel_keeps hyp
  | .rejoin .. => execRejoin_keeps hyp
  | .requestParcel .. => execRequestParcel_keeps hyp
  | .completionParcel .. => execCompletionParcel_keeps hyp
  | .acceptParcel .. => execAcceptParcel_keeps hyp
  | .doneParcel .. => execDoneParcel_keeps hyp
  | .notice .. => execNotice_keeps hyp
  | .timeParcel .. => execTimeParcel_keeps hyp
  | .keepalive .. => execKeepalive_keeps hyp
  | .hopAck .. => execHopAck_keeps hyp
  | .parcelMalformed .. => execParcelMalformed_keeps hyp
  | .parcelTransmit .. => execParcelTransmit_keeps hyp
  | .keepaliveSendTimer .. => execKeepaliveSendTimer_keeps hyp
  | .hopAckSendTimer .. => execHopAckSendTimer_keeps hyp
  | .timeSendTimer .. => execTimeSendTimer_keeps hyp
  | .linkSilent .. => execLinkSilent_keeps hyp
  | .linkReset .. => execLinkReset_keeps hyp
  | .retrainLimitExpiry .. => execRetrainLimitExpiry_keeps hyp
  | .warmResetLimitExpiry .. => execWarmResetLimitExpiry_keeps hyp
  | .timeOffset => execTimeOffset_keeps hyp
  | .timeUnsynchronised => execTimeUnsynchronised_keeps hyp
  | .coalesceAgeExpiry => execCoalesceAgeExpiry_keeps hyp
  | .baleWriteDone .. => execBaleWriteDone_keeps hyp
  | .baleReadDone .. => execBaleReadDone_keeps hyp
  | .baleReadTimeout .. => execBaleReadTimeout_keeps hyp
  | .transferSubmit .. => execTransferSubmit_keeps hyp
  | .transferStart .. => execTransferStart_keeps hyp
  | .transferDone .. => execTransferDone_keeps hyp
  | .ledgerZeroingDone => execLedgerZeroingDone_keeps hyp
  | .farPortDown => execFarPortDown_keeps hyp
  | .farPortRejoin .. => execFarPortRejoin_keeps hyp
  | .generateXts .. => execGenerateXts_keeps hyp
  | .generateGcm .. => execGenerateGcm_keeps hyp
  | .importVerify .. => execImportVerify_keeps hyp
  | .erase .. => execErase_keeps hyp
  | .claim .. => execClaim_keeps hyp
  | .transferOwner .. => execTransferOwner_keeps hyp
  | .release .. => execRelease_keeps hyp
  | .zeroise .. => execZeroise_keeps hyp
  | .zeroisationPoisonDone => execZeroisationPoisonDone_keeps hyp
  | .getVersion .. => execGetVersion_keeps hyp
  | .getCapabilities .. => execGetCapabilities_keeps hyp
  | .negotiateAlgorithms .. => execNegotiateAlgorithms_keeps hyp
  | .getDigests .. => execGetDigests_keeps hyp
  | .getCertificate .. => execGetCertificate_keeps hyp
  | .challenge .. => execChallenge_keeps hyp
  | .getMeasurements .. => execGetMeasurements_keeps hyp
  | .keyExchange .. => execKeyExchange_keeps hyp
  | .finish .. => execFinish_keeps hyp
  | .heartbeat .. => execHeartbeat_keeps hyp
  | .keyUpdate .. => execKeyUpdate_keeps hyp
  | .endSession .. => execEndSession_keeps hyp
  | .respondIfReady .. => execRespondIfReady_keeps hyp
  | .chunkSend .. => execChunkSend_keeps hyp
  | .chunkGet .. => execChunkGet_keeps hyp
  | .spdmUnsupportedRequest .. => execSpdmUnsupportedRequest_keeps hyp
  | .sessionIdleTimeout .. => execSessionIdleTimeout_keeps hyp
  | .debugUnlock .. => execDebugUnlock_keeps hyp
  | .slackMeasurement .. => execSlackMeasurement_keeps hyp
  | .slackCleared => execSlackCleared_keeps hyp
  | .vreqLowerTimer => execVreqLowerTimer_keeps hyp
  | .clockMonitorWindow .. => execClockMonitorWindow_keeps hyp
  | .sourceStable .. => execSourceStable_keeps hyp
  | .fallbackTimeout .. => execFallbackTimeout_keeps hyp
  | .dividerStep .. => execDividerStep_keeps hyp
  | .refBAbsent => execRefBAbsent_keeps hyp
  | .ksoTrimMeasurement .. => execKsoTrimMeasurement_keeps hyp
  | .oscTrimStale => execOscTrimStale_keeps hyp
  | .clockEnableWrite .. => execClockEnableWrite_keeps hyp
  | .crossingReset .. => execCrossingReset_keeps hyp
  | .crossingReopened .. => execCrossingReopened_keeps hyp
  | .segStart .. => execSegStart_keeps hyp
  | .segData .. => execSegData_keeps hyp
  | .segEnd .. => execSegEnd_keeps hyp
  | .segAbort .. => execSegAbort_keeps hyp
  | .sessionDropped .. => execSessionDropped_keeps hyp
  | .frameMalformed => execFrameMalformed_keeps hyp
  | .receiveBufferFull => execReceiveBufferFull_keeps hyp
  | .notifyResponse .. => execNotifyResponse_keeps hyp
  | .notifyRetryTimer .. => execNotifyRetryTimer_keeps hyp
  | .heartbeatTimer => execHeartbeatTimer_keeps hyp
  | .partnerHeartbeat .. => execPartnerHeartbeat_keeps hyp
  | .partnerLost => execPartnerLost_keeps hyp
  | .plcaStatusChange .. => execPlcaStatusChange_keeps hyp
  | .doorbell .. => execDoorbell_keeps hyp
  | .rspAck => execRspAck_keeps hyp
  | .ringPop => execRingPop_keeps hyp
  | .alarmClear .. => execAlarmClear_keeps hyp
  | .logClear .. => execLogClear_keeps hyp
  | .mirrorClear .. => execMirrorClear_keeps hyp
  | .nvmRecordWrite .. => execNvmRecordWrite_keeps hyp
  | .nvmWriteFailed .. => execNvmWriteFailed_keeps hyp
  | .persistGatherTimer => execPersistGatherTimer_keeps hyp
  | .updateBegin .. => execUpdateBegin_keeps hyp
  | .updateVerify .. => execUpdateVerify_keeps hyp
  | .updateActivate .. => execUpdateActivate_keeps hyp
  | .updateDiscard .. => execUpdateDiscard_keeps hyp
  | .verificationDone => execVerificationDone_keeps hyp
  | .imageSelection .. => execImageSelection_keeps hyp
  | .slotCopyDone => execSlotCopyDone_keeps hyp
  | .snapshotRequest .. => execSnapshotRequest_keeps hyp
  | .snapshotCapture => execSnapshotCapture_keeps hyp
  | .bankClear .. => execBankClear_keeps hyp
  | .clearAll .. => execClearAll_keeps hyp
  | .bankFilterWrite .. => execBankFilterWrite_keeps hyp
  | .sampleControlWrite .. => execSampleControlWrite_keeps hyp
  | .lfsrSeedWrite .. => execLfsrSeedWrite_keeps hyp
  | .consumedWrite .. => execConsumedWrite_keeps hyp
  | .layerAct .. => execLayerAct_keeps hyp
  | .layerPre .. => execLayerPre_keeps hyp
  | .layerPreab .. => execLayerPreab_keeps hyp
  | .layerMrwb .. => execLayerMrwb_keeps hyp
  | .layerMrw .. => execLayerMrw_keeps hyp
  | .layerSre .. => execLayerSre_keeps hyp
  | .layerSrx .. => execLayerSrx_keeps hyp
  | .layerRpr .. => execLayerRpr_keeps hyp
  | .hardRepairDone .. => execHardRepairDone_keeps hyp
  | .layerRd .. => execLayerRd_keeps hyp
  | .layerRdc _ _ _ line _ => execLayerRdc_keeps (_line := line) hyp
  | .layerWr .. => execLayerWr_keeps hyp
  | .layerMrr .. => execLayerMrr_keeps hyp
  | .layerRefpb .. => execLayerRefpb_keeps hyp
  | .layerRdp .. => execLayerRdp_keeps hyp
  | .layerWrp .. => execLayerWrp_keeps hyp
  | .layerErrclr .. => execLayerErrclr_keeps hyp
  | .layerPreset .. => execLayerPreset_keeps hyp
  | .layerLbw .. => execLayerLbw_keeps hyp
  | .layerLbr .. => execLayerLbr_keeps hyp
  | .commandParityError .. => execCommandParityError_keeps hyp
  | .resetPattern .. => execResetPattern_keeps hyp
  | .caCaptureExit .. => execCaCaptureExit_keeps hyp
  | .layerSensorConversion .. => execLayerSensorConversion_keeps hyp
  | .powerWarnTaken .. => execPowerWarnTaken_keeps hyp
  | .strapSample .. => execStrapSample_keeps hyp
  | .wsBypass => execWsBypass_keeps hyp
  | .wsExtest => execWsExtest_keeps hyp
  | .wsIntestScan => execWsIntestScan_keeps hyp
  | .svIdcode => execSvIdcode_keeps hyp
  | .svStatus => execSvStatus_keeps hyp
  | .svMbistLogic => execSvMbistLogic_keeps hyp
  | .svMbistCache => execSvMbistCache_keeps hyp
  | .svMbistVkeep => execSvMbistVkeep_keeps hyp
  | .svSdiLoop => execSvSdiLoop_keeps hyp
  | .svDramAccess => execSvDramAccess_keeps hyp
  | .svProcDebug => execSvProcDebug_keeps hyp
  | .svWardenDebug => execSvWardenDebug_keeps hyp
  | .linkTrainingDone .. => execLinkTrainingDone_keeps hyp
  | .bundleVerified => execBundleVerified_keeps hyp
  | .writeBackLimitExpiry => execWriteBackLimitExpiry_keeps hyp
  | .sheafPllRestartLimit .. => execSheafPllRestartLimit_keeps hyp

theorem KeepsR.of_next {α t : State} {r : Res} (h : KeepsR α r) (e : r = .next t) : Keeps α t := by
  subst e
  exact h

/-- A step keeps it from the state that has taken the front command off the queue; on an empty queue, that is the state itself. -/
theorem step_keeps {s t : State} (h : step s = .next t) : Keeps { s with pending := s.pending.drop 1 } t := by
  unfold step at h
  split at h
  · rename_i empty
    obtain rfl : tick s = t := by simpa using h
    have here : ({ s with pending := s.pending.drop 1 } : State) = s := by rw [empty, List.drop_nil, ← empty]
    rw [here]
    exact tick_keeps (Keeps.refl s)
  · rename_i c rest queue
    have here : ({ s with pending := s.pending.drop 1 } : State) = { s with pending := rest } := by rw [queue]; rfl
    rw [here]
    exact (exec_keeps c (Keeps.refl _)).of_next h

/-- The invariant does not speak of the queue. -/
theorem State.Inv.withPending {s : State} (h : s.Inv) (l : List Instr) : ({ s with pending := l } : State).Inv :=
  ⟨h.stackCount, h.objects, h.syncs, h.fills, h.cells, h.log, h.mirror, h.ring, h.sources, h.staged, h.sessions, h.samples⟩

/-- Settles O58: `Keeps` is shown of every operation of the model, from the writers of the bounded parts up to the commands and the tick. -/
theorem stepKeepsInvariant : Obligations.StepKeepsInvariant := by
  unfold Obligations.StepKeepsInvariant
  intro s t inv h
  have k := step_keeps h
  exact ⟨k.inv (inv.withPending _), k.cfg, k.pending, k.now, k.out⟩

end Sys2Proof.Machine

/-!
PROOF. The refutation of O47: the entry that a read is granted, where the count of the grant falls into the table that says where the
read's row lives (R225, R261).
-/
namespace Sys2Proof.Machine

-- One proof after another, each on a stack of its own, for the check's memory.
set_option Elab.async false

theorem exec_queueEntryGrant {c : Nat} {write : Bool} {s : State} (held : c < s.channels) :
    exec (.queueEntryGrant c write) s = .next (grantOne c write s) := if_pos (decide_eq_true held)

/-! ### The counterexample -/

/-- A partition number far past the last, 63, which the invariant allows: the objects of this partition's regulator are entries of the
retirement table of stack 0. -/
def strayPartition : Nat := retireIdx 0 0 - regIdx 0

/-- A read of line 0 by a tile, offered in context 0. -/
def strayRead : Ask := State.reset.newAsk ⟨.tile 0, 0, 0, 0, 0, 0, false, 0, 0, 0, false⟩ 0 .read .port

/-- A node whose context 0 is of that partition, with the partition's regulator enabled and its window running. Entry 5 of the table,
where the partition counts what it has used, retires the row of line 0 to a row of spare channel 8. -/
def strayNode : State :=
  let s := State.reset.setPath { Path.reset with asks := [strayRead], regs := [(strayPartition, ⟨0, true, false⟩)] }
  ((s.setOb 0x3040 1 strayPartition).setOb (regIdx strayPartition) 3 1).setOb (retireIdx 0 0) 5 (2 ^ 63)

theorem strayNode_inv : strayNode.Inv where
  stackCount := by decide
  objects := State.setOb_canonical (State.setOb_canonical (State.setOb_canonical canonical_nil _ _ _) _ _ _) _ _ _
  syncs := canonical_nil
  fills := ⟨canonical_nil, nofun⟩
  cells := canonical_nil
  log := by decide
  mirror := by decide
  ring := by decide
  sources := by decide
  staged := by decide
  sessions := by decide
  samples := by decide

/-- The read is alone, misses the cache, and is the one that the next free entry of channel 8's read queue goes to. -/
theorem strayRead_chosen : strayNode.redOn strayRead.addr = none ∧ strayNode.cached strayRead.addr = none ∧
    strayNode.chosen 8 false = some strayRead ∧ strayNode.entryFree strayRead = true := by decide +kernel

/-- The count of the grant clears bit 63 of the entry, so that it retires no row any more: the read waits at the home channel of its line, 0,
and channel 8, whose entry was granted, has no read queued. -/
theorem grantOne_strayNode : ((grantOne 8 false strayNode).chan 8).rq = [] ∧
    ((grantOne 8 false strayNode).chan 0).rq.map (·.who) = [.ask strayRead.id] := by decide +kernel

/-- Refutes O47: the clause that the entry of a single read stands at the end of the queue it was granted on. A context's partition number
may be any number where only the invariant is asked for, and for one past 63 the count of the grant changes another unit's objects: here the
table of retired rows, which moves the line to another channel before the read takes its place there. -/
theorem not_qualityOfService : ¬ Obligations.QualityOfService := by
  unfold Obligations.QualityOfService
  intro holds
  have held : 8 < strayNode.channels := by decide
  obtain ⟨_, _, _, _, _, _, _, _, _, _, _, _, _, _, _, _, _, _, _, _, _, single⟩ := holds strayNode 0 8 0 strayNode_inv (by decide) held
  obtain ⟨off, miss, chosen, free⟩ := strayRead_chosen
  obtain ⟨read, -⟩ := single strayRead 0 rfl rfl rfl rfl off miss
  obtain ⟨t, answers, -, e, queued, -⟩ := read chosen rfl rfl free
  rw [exec_queueEntryGrant held] at answers
  obtain rfl := Host.Outcome.next.inj answers
  obtain ⟨none_, -⟩ := grantOne_strayNode
  rw [none_] at queued
  exact List.append_ne_nil_of_right_ne_nil _ (List.cons_ne_nil e []) queued.symm

end Sys2Proof.Machine

/-!
PROOF. The refutation of O49: a soft repair that ends in a node whose store of channels lists one channel twice (R259).
-/
namespace Sys2Proof.Machine

-- One proof after another, each on a stack of its own, for the check's memory.
set_option Elab.async false

/-! ### The counterexample -/

/-- A soft repair of row 0 of layer 0, bank 0, that has placed its 8 writes. -/
def placedMove : Move :=
  { layer := 0, bank := 0, row := 0, retire := false, spare := 0, target := none, buffer := List.replicate 8 (some (0, 0))
    stage := 3, written := List.range 8, displaced := false, waiting := [] }

/-- A channel as at reset, but for that soft repair. -/
def repairingChan : Chan := { Chan.reset with move := some placedMove }

/-- A node with its Steward running whose store of channels lists channel 0 twice, which the invariant allows. -/
def twiceRepairing : State :=
  { State.reset with
    path := { State.reset.path with chans := [(0, repairingChan), (0, repairingChan)] }
    procs := { State.reset.procs with steward := ⟨true, none⟩ } }

/-- It meets the invariant as `twiceListed` does, for the invariant asks nothing of the channels or of the Steward. -/
theorem twiceRepairing_inv : twiceRepairing.Inv := { twiceListed_inv with }

/-- The move of the channel is the soft repair, and no write of it waits to be issued or confirmed. -/
theorem twiceRepairing_ready : (twiceRepairing.chan 0).move = some placedMove ∧ twiceRepairing.stewardUp = true ∧
    twiceRepairing.moveWritten 0 placedMove = true := by decide +kernel

/-- The end of the repair takes the move from the first entry, which is then a channel as at reset and goes before the depth of the row is
noted: the second entry shows, and the channel still has its move. -/
theorem finishMove_twiceRepairing : ((finishMove 0 twiceRepairing).chan 0).move = some placedMove := by decide +kernel

/-- Refutes O49: the clause that a soft repair whose writes are confirmed leaves its channel without a move. An entry equal to a channel's
reset value is dropped from the store, so the clause holds only of a store that lists each channel once, and the invariant does not ask this
of the channels. -/
theorem not_repairAndRecovery : ¬ Obligations.RepairAndRecovery := by
  unfold Obligations.RepairAndRecovery
  intro holds
  obtain ⟨_, _, _, _, _, _, ended, _⟩ := holds twiceRepairing 0 ⟨.window, 0⟩ twiceRepairing_inv (by decide)
  obtain ⟨move, up, written⟩ := twiceRepairing_ready
  obtain ⟨gone, -, -⟩ := ended placedMove move rfl up written rfl rfl rfl
  rw [finishMove_twiceRepairing] at gone
  exact absurd gone (by decide)

end Sys2Proof.Machine

/-!
PROOF. The settling of O59: what reset leaves, and the tick of an empty queue (R296, R428).
-/
namespace Sys2Proof.Machine

-- One proof after another, each on a stack of its own, for the check's memory.
set_option Elab.async false

/-! ### Defaults that are 0 over a range of objects -/

/-- An object has default 0 where every row that meets a range around it gives 0. -/
theorem objDefault_zero_of_rows {lo hi a b i j : Nat}
    (rows : ∀ r ∈ objRows, r.lo ≤ hi → lo ≤ r.hi → r.slo ≤ b → a ≤ r.shi → r.dflt = 0)
    (idx : lo ≤ i ∧ i ≤ hi) (sub : a ≤ j ∧ j ≤ b) (other : i ≠ 0x3040) (fits : j < 256) : objDefault (objKey i j) = 0 := by
  have index : objKey i j / 256 = i := by unfold objKey; omega
  have subindex : objKey i j % 256 = j := by unfold objKey; omega
  unfold objDefault
  rw [index, subindex, if_neg other]
  cases found : findObj i j with
  | none => rfl
  | some r =>
    have meets := List.find?_some found
    simp only [Bool.and_eq_true, decide_eq_true_eq] at meets
    obtain ⟨⟨⟨low, high⟩, slow⟩, shigh⟩ := meets
    exact rows r (List.mem_of_find?_eq_some found) (by omega) (by omega) (by omega) (by omega)

theorem refreshClass_default {c : Nat} (h : c < 288) : objDefault (objKey (chanIdx c) 4) = 0 :=
  objDefault_zero_of_rows (lo := 0x4000) (hi := 0x411F) (a := 4) (b := 4) (by decide +kernel) (by unfold chanIdx; omega) (by omega)
    (by unfold chanIdx; omega) (by omega)

theorem region_default {n : Nat} (h : n < 1024) : objDefault (objKey (regionIdx n) (regionSub n)) = 0 :=
  objDefault_zero_of_rows (lo := 0x2120) (hi := 0x2123) (a := 0) (b := 255) (by decide +kernel) (by unfold regionIdx; omega)
    (by unfold regionSub; omega) (by unfold regionIdx; omega) (by unfold regionSub; omega)

/-! ### Reset -/

theorem State.reset_ob (idx sub : Nat) : State.reset.ob idx sub = objDefault (objKey idx sub) := rfl

theorem State.reset_inv : State.reset.Inv where
  stackCount := by decide
  objects := ⟨.nil, nofun⟩
  syncs := ⟨.nil, nofun⟩
  fills := ⟨⟨.nil, nofun⟩, nofun⟩
  cells := ⟨.nil, nofun⟩
  log := by decide
  mirror := by decide
  ring := by decide
  sources := by decide
  staged := by decide
  sessions := by decide
  samples := by decide

/-! ### The idle tick -/

/-- The state a tick starts from: time has gone on by one. -/
def State.later (s : State) : State := { s with now := s.now + 1 }

/-- What a tick does of time alone: the shapers of the ports, and the counters of the slot that ends. -/
def State.ticked (s : State) : State :=
  let t := forEach (List.range 4) tickPort s.later
  if t.setTicks / slotT = s.setTicks / slotT then t else slotSums t

theorem tick_eq (s : State) : tick s = drainWaiting (rebuildJournal (tripStep s.ticked)) := rfl

/-- The shapers and the counters write nothing but the ports and the objects. -/
theorem State.ticked_fr (s : State) : Fr 320 s.later s.ticked := by
  have ports : Fr 320 s.later (forEach (List.range 4) tickPort s.later) :=
    forEach_fr (.refl _ _) fun h u => tickPort_fr (.refl _ u)
  exact Fr.ite ports (slotSums_fr ports)

/-- A tick turns time on by one, and no more of time, silicon and queue. -/
theorem tick_fr_later (s : State) : Fr 134184956 s.later (tick s) :=
  drainWaiting_fr (rebuildJournal_fr (tripStep_fr (s.ticked_fr.mono (by decide))))

theorem tripStep_of_none {s : State} (none_ : s.heat.tripAt = 0) : tripStep s = s := if_pos none_

theorem drainWaiting_of_none {s : State} (none_ : s.mgmt.waiting = []) : drainWaiting s = s := by
  simp [drainWaiting, none_]

/-- With no trip under way and no write waiting, a tick writes nothing but the ports and the objects. -/
theorem tick_fr_of_quiet {s : State} (waiting : s.mgmt.waiting = []) (trip : s.heat.tripAt = 0) : Fr 320 s.later (tick s) := by
  have cool : s.ticked.heat.tripAt = 0 := by rw [s.ticked_fr.heat (by decide)]; exact trip
  have rebuilt : Fr 320 s.later (rebuildJournal s.ticked) := rebuildJournal_fr s.ticked_fr
  have idle : (rebuildJournal s.ticked).mgmt.waiting = [] := by rw [rebuilt.mgmt (by decide)]; exact waiting
  rw [tick_eq, tripStep_of_none cool, drainWaiting_of_none idle]
  exact rebuilt

/-- A state that agrees with another outside the ports and the objects is that state with its own ports and objects. -/
theorem Fr.eq_of_objHl {a t : State} (h : Fr 320 a t) : t = { a with obj := t.obj, hl := t.hl } := by
  obtain ⟨now, cfg, power, procs, pins, wrap, -, mgmt, -, dram, sec, fuses, nvm, free, out, pending, plans, feeds, path, cache, far, syncs,
    heat, train, clk, upd, sampler⟩ := h
  cases t
  simp_all [Nat.testBit]

/-- Settles O59: the parts of the reset state one by one, and the tick by what each of its units may write. -/
theorem resetAndIdle : Obligations.ResetAndIdle := by
  unfold Obligations.ResetAndIdle
  refine ⟨State.reset_inv, rfl, rfl, rfl, ?levels, ?classes, fun _ => rfl, fun _ => rfl, ?regions, rfl, rfl, State.reset_ob, ?idle⟩
  case levels => decide +kernel
  case classes => exact fun c h => refreshClass_default h
  case regions => exact fun n h => congrArg decodeRegion (region_default h)
  case idle =>
    intro s empty
    have later := tick_fr_later s
    refine ⟨tick s, by simp [step, empty], later.now (by decide), ?_, later.cfg (by decide), fun waiting trip => ?_⟩
    · rw [later.pending (by decide)]
      exact empty
    · exact (tick_fr_of_quiet waiting trip).eq_of_objHl

end Sys2Proof.Machine

/-!
PROOF. Readings of the sensors: what they leave of a sensor, and how the sensors that bring none break (R278 to R280).
-/
namespace Sys2Proof.Machine

-- One proof after another, each on a stack of its own, for the check's memory.
set_option Elab.async false

/-! ### One element of a run over a list -/

/-- An element of a list without repeated keys stands between others of other keys. -/
theorem exists_split_of_nodup {α : Type} {key : α → Nat} {l : List α} {a : α} (mem : a ∈ l) (nodup : (l.map key).Nodup) :
    ∃ before after, l = before ++ a :: after ∧ (∀ b ∈ before, key b ≠ key a) ∧ ∀ b ∈ after, key b ≠ key a := by
  obtain ⟨before, after, rfl⟩ := List.append_of_mem mem
  rw [List.map_append, List.map_cons, List.nodup_append] at nodup
  obtain ⟨-, tail, apart⟩ := nodup
  refine ⟨before, after, rfl, fun b hb => ?_, fun b hb same => ?_⟩
  · exact apart _ (List.mem_map_of_mem hb) _ List.mem_cons_self
  · exact (List.nodup_cons.mp tail).1 (same ▸ List.mem_map_of_mem hb)

/-- Where a relation holds over the changes of all other elements of a list, it holds up to one element's change, and from there on. -/
theorem forEach_at {α : Type} {key : α → Nat} {f : α → State → State} {l : List α} {a : α} {rel : State → State → Prop}
    (mem : a ∈ l) (nodup : (l.map key).Nodup) (refl : ∀ s, rel s s) (trans : ∀ {s t u}, rel s t → rel t u → rel s u)
    (others : ∀ b ∈ l, key b ≠ key a → ∀ s, rel s (f b s)) (s : State) : ∃ t, rel s t ∧ rel (f a t) (forEach l f s) := by
  obtain ⟨before, after, rfl, first, last⟩ := exists_split_of_nodup mem nodup
  have run (part : List α) (within : ∀ b ∈ part, b ∈ before ++ a :: after) (apart : ∀ b ∈ part, key b ≠ key a) (u : State) :
      rel u (forEach part f u) := by
    unfold forEach
    induction part generalizing u with
    | nil => exact refl u
    | cons b part ih =>
      refine trans (others b (within b List.mem_cons_self) (apart b List.mem_cons_self) u) ?_
      exact ih (fun c hc => within c (List.mem_cons_of_mem b hc)) (fun c hc => apart c (List.mem_cons_of_mem b hc)) (f b u)
  refine ⟨forEach before f s, run before (fun b hb => List.mem_append_left _ hb) first s, ?_⟩
  have joined : forEach (before ++ a :: after) f s = forEach after f (f a (forEach before f s)) := by
    simp [forEach, List.foldl_append]
  rw [joined]
  exact run after (fun b hb => List.mem_append_right _ (List.mem_cons_of_mem a hb)) last _

section
variable {s t : State} {k j : Nat} {v : Int}

/-! ### The store of the sensors -/

theorem State.sensor_congr (same : t.heat.sensors = s.heat.sensors) (k : Nat) : t.sensor k = s.sensor k := by
  rw [State.sensor, same, State.sensor]

theorem State.sensor_setSensor {x : Sensor} (other : x ≠ .reset) : (s.setSensor k x).sensor k = x := look_put_of_ne other _ _

theorem State.sensor_setSensor_ne {x : Sensor} (other : j ≠ k) : (s.setSensor k x).sensor j = s.sensor j := look_put_ne _ other

@[simp] theorem noteCool_sensors (s : State) : (noteCool s).heat.sensors = s.heat.sensors := by
  unfold noteCool
  split <;> rfl

@[simp] theorem showSensor_heat (st n : Nat) (s : State) : (showSensor st n s).heat = s.heat :=
  (showSensor_fr (.refl 64 s)).heat (by decide)

@[simp] theorem showLogic_heat (s : State) : (showLogic s).heat = s.heat := (showLogic_fr (.refl 64 s)).heat (by decide)

@[simp] theorem showStack_heat (st : Nat) (s : State) : (showStack st s).heat = s.heat := (showStack_fr (.refl 64 s)).heat (by decide)

@[simp] theorem afterReadings_sensors (st : Nat) (s : State) : (afterReadings st s).heat.sensors = s.heat.sensors := by
  unfold afterReadings
  dsimp only [State.setHeat]
  rw [showStack_heat]

/-! ### What a reading leaves of its sensor (R279) -/

/-- A sensor shows a value that came at a time. -/
def Sensor.Shows (x : Sensor) (v : Int) (at_ : Nat) : Prop := x.value = v ∧ x.has = true ∧ x.at_ = at_

theorem Sensor.Shows.ne_reset {x : Sensor} {at_ : Nat} (h : x.Shows v at_) : x ≠ .reset := by
  rintro rfl
  exact absurd h.2.1 (by decide)

/-- A sensor that breaks, again or for the first time, is set broken. -/
theorem breakSensor_heat (k : Nat) (s : State) :
    (breakSensor k s).heat = (s.setSensor k { s.sensor k with broken := true, good := 0 }).heat := by
  unfold breakSensor
  dsimp only
  split
  next already => rw [← already]
  next => split <;> exact raise_heat _ _ _ _

/-- A sensor that breaks keeps its value. -/
theorem breakSensor_sensor (k : Nat) (s : State) : (breakSensor k s).sensor k = { s.sensor k with broken := true, good := 0 } := by
  rw [State.sensor_congr (congrArg Heat.sensors (breakSensor_heat k s)), State.sensor_setSensor]
  exact fun same => Bool.false_ne_true (congrArg Sensor.broken same).symm

theorem breakSensor_broken (k : Nat) (s : State) : ((breakSensor k s).sensor k).broken = true := by rw [breakSensor_sensor]

theorem breakSensor_sensor_ne (other : j ≠ k) : (breakSensor k s).sensor j = s.sensor j := by
  rw [State.sensor_congr (congrArg Heat.sensors (breakSensor_heat k s)), State.sensor_setSensor_ne other]

/-- A sensor that breaks goes on showing what it last read. -/
theorem breakSensor_shows {at_ : Nat} (h : (s.sensor k).Shows v at_) : ((breakSensor k s).sensor k).Shows v at_ := by
  rw [breakSensor_sensor]
  exact h

/-- A reading within the range sets its sensor to show it, and the sensor may then break as stuck. -/
theorem takeReading_of_within (low : -160 ≤ v) (high : v ≤ hottest) : ∃ x : Sensor, x.Shows v s.now ∧
    (takeReading k v s = s.setSensor k x ∨ takeReading k v s = breakSensor k (s.setSensor k x)) := by
  have within_ : ¬ (decide (v < -160) || decide (hottest < v)) = true := by simp; omega
  unfold takeReading
  rw [if_neg within_]
  by_cases broken : (s.sensor k).broken = true
  · refine ⟨_, ?_, .inl (if_pos broken)⟩
    split_ifs <;> exact ⟨rfl, rfl, rfl⟩
  · refine ⟨_, ?_, (ite_eq_or_eq _ _ _).symm.imp (if_neg broken).trans (if_neg broken).trans⟩
    split_ifs <;> exact ⟨rfl, rfl, rfl⟩

/-- A reading within the range is the sensor's value, and came now. -/
theorem takeReading_shows (low : -160 ≤ v) (high : v ≤ hottest) : ((takeReading k v s).sensor k).Shows v s.now := by
  obtain ⟨x, shows, set_ | breaks⟩ := takeReading_of_within (s := s) (k := k) low high
  · rwa [set_, State.sensor_setSensor shows.ne_reset]
  · rw [breaks]
    exact breakSensor_shows (by rwa [State.sensor_setSensor shows.ne_reset])

/-- A reading outside the range breaks its sensor. -/
theorem takeReading_of_outside (outside : v < -160 ∨ hottest < v) :
    takeReading k v s = breakSensor k (s.setSensor k { s.sensor k with at_ := s.now }) := if_pos (by simpa using outside)

theorem takeReading_sensor_ne (other : j ≠ k) : (takeReading k v s).sensor j = s.sensor j := by
  by_cases outside : v < -160 ∨ hottest < v
  · rw [takeReading_of_outside outside, breakSensor_sensor_ne other, State.sensor_setSensor_ne other]
  · obtain ⟨x, -, set_ | breaks⟩ := takeReading_of_within (s := s) (k := k) (v := v) (by omega) (by omega)
    · rw [set_, State.sensor_setSensor_ne other]
    · rw [breaks, breakSensor_sensor_ne other, State.sensor_setSensor_ne other]

theorem takeReading_now (k : Nat) (v : Int) (s : State) : (takeReading k v s).now = s.now :=
  (takeReading_fr (.refl 4215000 s)).now (by decide)

/-! ### The reads of the logic side (R278) -/

/-- One code of a read of the logic side, with its sensor's number. -/
def takeLogicCode (p : Nat × Nat) (s : State) : State :=
  if p.1 % 2 ^ 16 = 0x8000 then noReading (logicKey p.2) s else takeReading (logicKey p.2) (signed 16 (p.1 % 2 ^ 16)) s

theorem readLogic_of_not_comparing {codes : List Nat} (off : s.comparing = false) : readLogic codes s = s := if_pos (by simp [off])

/-- A read comes at most every 10 µs. -/
theorem readLogic_of_early {codes : List Nat} (read : (s.sensor (logicKey 0)).at_ ≠ 0)
    (early : s.elapsed (s.sensor (logicKey 0)).at_ (10 * usTicks) = false) : readLogic codes s = s := by
  have early : s.elapsed (s.sensor (logicKey 0)).at_ (10 * 1000 * nsT) = false := early
  exact if_pos (by simp [read, early])

/-- The sensors after a first read of the logic side are those its codes leave. -/
theorem readLogic_sensor {codes : List Nat} (on : s.comparing = true) (first : (s.sensor (logicKey 0)).at_ = 0) (k : Nat) :
    (readLogic codes s).sensor k = (forEach (codes.zip logicNumbers) takeLogicCode s).sensor k := by
  apply State.sensor_congr
  have shown (u : State) : (noteCool (showLogic u)).heat.sensors = u.heat.sensors := by rw [noteCool_sensors, showLogic_heat]
  unfold readLogic
  dsimp only
  rw [if_neg (by simp [on, first])]
  split
  · exact shown _
  · split
    · exact (congrArg Heat.sensors (raiseNode_heat _ _ _)).trans (shown _)
    · split
      · exact shown _
      · exact shown _

/-- The code of one sensor does not change another. -/
theorem takeLogicCode_other {m : Nat} {p : Nat × Nat} (other : p.2 ≠ m) (s : State) :
    (takeLogicCode p s).now = s.now ∧ (takeLogicCode p s).sensor (logicKey m) = s.sensor (logicKey m) := by
  have key : logicKey m ≠ logicKey p.2 := by unfold logicKey; omega
  unfold takeLogicCode
  split
  · exact ⟨rfl, State.sensor_setSensor_ne key⟩
  · exact ⟨takeReading_now _ _ _, takeReading_sensor_ne key⟩

/-- After a read of the logic side, a sensor stands as its own code leaves it, at the time of the read. -/
theorem forEach_takeLogicCode {codes : List Nat} {m code : Nat} (length : codes.length = 16) (given : codes[m]? = some code) :
    ∃ t : State, t.now = s.now ∧
      (forEach (codes.zip logicNumbers) takeLogicCode s).sensor (logicKey m) = (takeLogicCode (code, m) t).sensor (logicKey m) := by
  obtain ⟨small, rfl⟩ := List.getElem?_eq_some_iff.mp given
  have mem : (codes[m], m) ∈ codes.zip logicNumbers := by
    refine List.mem_iff_getElem.mpr ⟨m, by simp [logicNumbers]; omega, ?_⟩
    simp [logicNumbers]
  have keys : ((codes.zip logicNumbers).map Prod.snd).Nodup := by
    rw [List.map_snd_zip (by simp [logicNumbers, length])]
    exact List.nodup_range
  obtain ⟨t, ⟨now, -⟩, -, same⟩ := forEach_at (f := takeLogicCode)
    (rel := fun s t => t.now = s.now ∧ t.sensor (logicKey m) = s.sensor (logicKey m)) mem keys (fun _ => ⟨rfl, rfl⟩)
    (fun st tu => ⟨tu.1.trans st.1, tu.2.trans st.2⟩) (fun p _ other u => takeLogicCode_other other u) s
  exact ⟨t, now, same⟩

/-- What the first read of the logic side leaves of a sensor whose code is a reading. -/
theorem gives_logicSensorRead {codes : List Nat} {m code : Nat} (on : s.comparing = true) (first : (s.sensor (logicKey 0)).at_ = 0)
    (length : codes.length = 16) (given : codes[m]? = some code) (fits : code < 2 ^ 16) (valid : code ≠ 0x8000) :
    Gives (.logicSensorRead codes) s fun t =>
      ((-160 ≤ signed 16 code ∧ signed 16 code ≤ 511) → (t.sensor (logicKey m)).value = signed 16 code ∧
        (t.sensor (logicKey m)).has = true ∧ (t.sensor (logicKey m)).at_ = s.now) ∧
      ((signed 16 code < -160 ∨ 511 < signed 16 code) → (t.sensor (logicKey m)).broken = true) := by
  obtain ⟨t, now, left⟩ := forEach_takeLogicCode (s := s) length given
  have taken : takeLogicCode (code, m) t = takeReading (logicKey m) (signed 16 code) t := by
    simp only [takeLogicCode, Nat.mod_eq_of_lt fits, if_neg valid]
  have reads : (readLogic codes s).sensor (logicKey m) = (takeReading (logicKey m) (signed 16 code) t).sensor (logicKey m) := by
    rw [readLogic_sensor on first, left, taken]
  refine ⟨readLogic codes s, rfl, fun ⟨low, high⟩ => ?_, fun outside => ?_⟩
  · rw [reads, ← now]
    exact takeReading_shows low high
  · rw [reads, takeReading_of_outside outside, breakSensor_broken]

/-! ### Sensors without a reading (R279) -/

/-- How long a sensor has been without a reading counts from its last one or the last reset. -/
theorem silentSensor_of_recent {st n : Nat} (layer : st < 4)
    (recent : s.elapsed (max (s.sensor (sensorKey st n)).at_ s.power.resetAt) (s.readLimit st) = false) : silentSensor st n s = s := by
  unfold silentSensor
  rw [if_neg (by omega : st ≠ 255)]
  exact if_pos (by simp [recent])

theorem silentSensor_layer_broken {st n : Nat} (layer : st < 4) (on : s.comparing = true) (runs : s.power.node ≠ .halted)
    (late : s.elapsed (max (s.sensor (sensorKey st n)).at_ s.power.resetAt) (s.readLimit st) = true) :
    ((silentSensor st n s).sensor (sensorKey st n)).broken = true := by
  have logic : st ≠ 255 := by omega
  unfold silentSensor
  simp only [if_neg logic, on, late, beq_eq_false_iff_ne.mpr runs, Bool.not_true, Bool.or_self, Bool.false_eq_true, if_false]
  rw [State.sensor_congr (s := breakSensor (sensorKey st n) s) (by simp), breakSensor_broken]

theorem silentSensor_logic_broken {n : Nat} (on : s.comparing = true) (runs : s.power.node ≠ .halted)
    (late : s.elapsed (max (s.sensor (logicKey n)).at_ s.power.resetAt) (s.readLimit 255) = true) :
    ((silentSensor 255 n s).sensor (logicKey n)).broken = true := by
  unfold silentSensor
  simp only [if_true, on, late, beq_eq_false_iff_ne.mpr runs, Bool.not_true, Bool.or_self, Bool.false_eq_true, if_false]
  rw [State.sensor_congr (s := breakSensor (logicKey n) s) (by simp), breakSensor_broken]

theorem exec_sensorNoReading_layer {st n : Nat} (stack : st < s.cfg.nstacks) (sensor : n < 144) :
    exec (.sensorNoReading st n) s = .next (silentSensor st n s) :=
  if_pos (by simp [stack, sensor])

theorem exec_sensorNoReading_logic {n : Nat} (sensor : n < 16) : exec (.sensorNoReading 255 n) s = .next (silentSensor 255 n s) :=
  if_pos (by simp [sensor])

/-- A sensor that no stack and not the logic side has is absent. -/
theorem exec_sensorNoReading_absent {st n : Nat} (logic : st ≠ 255) (absent : s.cfg.nstacks ≤ st ∨ 144 ≤ n) :
    exec (.sensorNoReading st n) s = .fault .absentUnit :=
  if_neg (by simp [logic]; omega)

end

end Sys2Proof.Machine

/-!
PROOF. The comparators: what a stack that takes level 4 leaves of the others, and a trip (R281, R282, R291).
-/
namespace Sys2Proof.Machine

-- One proof after another, each on a stack of its own, for the check's memory.
set_option Elab.async false

/-! ### Changes that leave what the comparators read -/

/-- What the comparators read, the layers, and every object outside `w`, the log's and the derate causes are in `t` as in `s`. -/
structure SameBut (w : Nat → Nat → Prop) (s t : State) : Prop where
  cfg : t.cfg = s.cfg
  power : t.power = s.power
  dram : t.dram = s.dram
  begun : t.plans.begun = s.plans.begun
  sensors : t.heat.sensors = s.heat.sensors
  objects : ∀ i a, a < 256 → logObject i = false → i ≠ 0x2202 → ¬ w i a → t.ob i a = s.ob i a

/-- The objects of a stack's level. -/
def ownLevel (st i _a : Nat) : Prop := i = stackIdx st

/-- The objects of a stack's level but the level itself. -/
def besideLevel (st i a : Nat) : Prop := i = stackIdx st ∧ a ≠ 1

/-- The objects of the level of some stack other than this. -/
def otherLevels (st i _a : Nat) : Prop := ∃ u < 4, u ≠ st ∧ i = stackIdx u

section
variable {w v : Nat → Nat → Prop} {s t u : State} {st k : Nat}

theorem SameBut.refl (w : Nat → Nat → Prop) (s : State) : SameBut w s s := ⟨rfl, rfl, rfl, rfl, rfl, fun _ _ _ _ _ _ => rfl⟩

theorem SameBut.trans (h : SameBut w s t) (k : SameBut w t u) : SameBut w s u where
  cfg := k.cfg.trans h.cfg
  power := k.power.trans h.power
  dram := k.dram.trans h.dram
  begun := k.begun.trans h.begun
  sensors := k.sensors.trans h.sensors
  objects i a fits log derates out := (k.objects i a fits log derates out).trans (h.objects i a fits log derates out)

theorem SameBut.mono (h : SameBut w s t) (le : ∀ i a, w i a → v i a) : SameBut v s t :=
  { h with objects := fun i a fits log derates out => h.objects i a fits log derates fun on => out (le i a on) }

/-- Reporting leaves all of it. -/
theorem ReportsOnly.sameBut (h : ReportsOnly s t) (w : Nat → Nat → Prop) : SameBut w s t :=
  ⟨h.cfg, h.power, h.dram, congrArg _ h.plans, congrArg _ h.heat, fun i a fits log _ _ => h.objects i a fits log⟩

theorem sameBut_setOb (s : State) {i a : Nat} (x : Nat) (on : w i a) (fits : a < 256) : SameBut w s (s.setOb i a x) :=
  ⟨rfl, rfl, rfl, rfl, rfl, fun j b small _ _ out => State.ob_setOb_ne s fun same => by
    obtain ⟨rfl, rfl⟩ := objKey_inj small fits same
    exact out on⟩

theorem sameBut_setHeat (s : State) (h : Heat) (sensors : h.sensors = s.heat.sensors) : SameBut w s (s.setHeat h) :=
  ⟨rfl, rfl, rfl, rfl, sensors, fun _ _ _ _ _ _ => rfl⟩

theorem sameBut_forEach {α : Type} (l : List α) {f : α → State → State} (each : ∀ x s, SameBut w s (f x s)) (s : State) :
    SameBut w s (forEach l f s) := forEach_related (SameBut.refl w) SameBut.trans l f each s

theorem sameBut_driveHeat (st x : Nat) (s : State) : SameBut w s (driveHeat st x s) := by
  unfold driveHeat
  dsimp only
  split <;> exact ⟨rfl, rfl, rfl, rfl, rfl, fun _ _ _ _ _ _ => rfl⟩

/-- The end of grace writes the time it has left (R287). -/
theorem sameBut_endGrace (s : State) (on : w (stackIdx st) 4) : SameBut w s (endGrace st s) :=
  (sameBut_setHeat s { s.heat with grace := put 0 st 0 s.heat.grace } rfl).trans (sameBut_setOb _ 0 on (by decide))

theorem sameBut_startDerate (b : Nat) (s : State) : SameBut w s (startDerate b s) := by
  unfold startDerate
  split
  · exact .refl w s
  · refine SameBut.trans ?_ ((raiseNode_reports _ _ _).sameBut w)
    exact ⟨rfl, rfl, rfl, rfl, rfl, fun i a fits _ derates _ =>
      State.ob_setOb_ne s fun same => derates (objKey_inj fits (by decide) same).1⟩

theorem sameBut_breakContinuity (cause : Nat) (s : State) : SameBut w s (breakContinuity cause s) := by
  unfold breakContinuity
  split
  · refine SameBut.trans ?_ ((raiseNode_reports _ _ _).sameBut w)
    exact ⟨rfl, rfl, rfl, rfl, rfl, fun _ _ _ _ _ _ => rfl⟩
  · exact .refl w s

theorem sameBut_drainChannel (c cls mask : Nat) (s : State) : SameBut w s (drainChannel c cls mask s) := by
  unfold drainChannel
  split
  · exact .refl w s
  · exact ⟨rfl, rfl, rfl, rfl, rfl, fun _ _ _ _ _ _ => rfl⟩

/-! ### The temperature of a stack rests on what is left -/

theorem SameBut.excluded (h : SameBut w s t) (apart : ∀ a, ¬ w (0x9014 + st) a) (small : st < 4) {n : Nat} (sensor : n < 144) :
    t.excluded st n = s.excluded st n := by
  have log : logObject (0x9014 + st) = false := by interval_cases st <;> rfl
  exact congrArg (fun x => Nat.testBit x (n % 64)) (h.objects _ _ (by omega) log (by omega) (apart _))

theorem SameBut.sensor (h : SameBut w s t) (k : Nat) : t.sensor k = s.sensor k := State.sensor_congr h.sensors k

theorem SameBut.stackTemp (h : SameBut w s t) (apart : ∀ a, ¬ w (0x9014 + st) a) (small : st < 4) : t.stackTemp st = s.stackTemp st := by
  unfold State.stackTemp
  rw [h.power]
  refine congrArg maxReading (List.map_congr_left fun n mem => ?_)
  have same := h.excluded apart small (List.mem_range.mp mem)
  have reads : t.layerReading st n = s.layerReading st n := by simp only [State.layerReading, same, h.sensor]
  have broken : t.layerBroken st n = s.layerBroken st n := by simp only [State.layerBroken, same, h.sensor]
  rw [reads, broken]

theorem SameBut.chanState (h : SameBut w s t) {c : Nat} (held : c < 288) (apart : ∀ a, ¬ w (chanIdx c) a) : t.chanState c = s.chanState c := by
  refine h.objects _ _ (by decide) ?_ (by unfold chanIdx; omega) (apart _)
  simp only [logObject, chanIdx, Bool.or_eq_false_iff, beq_eq_false_iff_ne]
  omega

theorem SameBut.level (h : SameBut w s t) (apart : ¬ w (stackIdx st) 1) (small : st < 4) : t.level st = s.level st := by
  have log : logObject (stackIdx st) = false := by interval_cases st <;> rfl
  exact h.objects _ _ (by decide) log (by unfold stackIdx; omega) apart

/-! ### A stack takes level 4 (R281, R288) -/

/-- A stack below level 4 that takes it: the event, the pin, the end of grace and the derate. -/
theorem takeLevel_four (below : s.level st < 4) :
    takeLevel st 4 s = startDerate 2 (endGrace st (raise Ev.thermalEmergency st 4 (driveHeat st (heatPin 4) (s.setOb (stackIdx st) 1 4)))) := by
  unfold takeLevel
  dsimp only
  rw [if_neg (by omega), if_pos below]
  rfl

theorem setOb_level_four (small : st < 4) (s : State) : (s.setOb (stackIdx st) 1 4).level st = 4 := by
  refine look_put_of_ne ?_ _ _
  interval_cases st <;> decide

/-- A channel of a stack that halts drains, unless it has failed. -/
def haltChannel (c : Nat) (s : State) : State := if s.chanState c = 2 then s else drainChannel c 2 0xFFFF s

theorem sameBut_haltChannel (c : Nat) (s : State) : SameBut w s (haltChannel c s) := by
  unfold haltChannel
  split
  · exact .refl w s
  · exact sameBut_drainChannel _ _ _ s

theorem haltChannel_chan_ne {c d : Nat} (other : c ≠ d) (s : State) : (haltChannel d s).chan c = s.chan c := by
  unfold haltChannel drainChannel
  split
  · rfl
  · split
    · rfl
    · exact look_put_ne _ other

theorem haltChannel_draining {c : Nat} (serves : s.chanState c ≠ 2) (awake : (s.dch c).selfRef = none) :
    ((haltChannel c s).chan c).draining = some (2, 0xFFFF) := by
  have drains : haltChannel c s = s.modChan c fun x => { x with draining := some (2, 0xFFFF) } := by
    simp [haltChannel, drainChannel, serves, awake]
  have other : ({ s.chan c with draining := some (2, 0xFFFF) } : Chan) ≠ .reset := fun same =>
    Option.some_ne_none _ (congrArg Chan.draining same)
  rw [drains]
  exact congrArg Chan.draining (look_put_of_ne other _ _)

/-- The state in which the channels of a stack that has taken level 4 halt. -/
def State.halting (st : Nat) (s : State) : State :=
  let t := takeLevel st 4 s
  t.setHeat { t.heat with haltedAt := put 0 st (t.now + 1) t.heat.haltedAt, checkedAt := put 0 st t.now t.heat.checkedAt }

theorem emergency_eq (st : Nat) (s : State) :
    emergency st s = breakContinuity 0 (forEach (channelsOf st) haltChannel (s.halting st)) := rfl

/-- What a stack does of itself once it shows level 4 leaves the level. -/
theorem sameBut_halting (below : s.level st < 4) : SameBut (besideLevel st) (s.setOb (stackIdx st) 1 4) (s.halting st) := by
  refine SameBut.trans ?_ (sameBut_setHeat _ _ rfl)
  rw [takeLevel_four below]
  refine SameBut.trans ?_ (sameBut_startDerate 2 _)
  refine SameBut.trans ?_ (sameBut_endGrace _ ⟨rfl, by decide⟩)
  exact (sameBut_driveHeat _ _ _).trans ((raise_reports _ _ _ _).sameBut _)

theorem sameBut_emergency_four (below : s.level st < 4) : SameBut (besideLevel st) (s.setOb (stackIdx st) 1 4) (emergency st s) := by
  rw [emergency_eq]
  exact (sameBut_halting below).trans ((sameBut_forEach _ sameBut_haltChannel _).trans (sameBut_breakContinuity 0 _))

theorem emergency_level (below : s.level st < 4) (small : st < 4) : (emergency st s).level st = 4 :=
  ((sameBut_emergency_four below).level (fun on => on.2 rfl) small).trans (setOb_level_four small s)

/-- Level 4 of a stack changes no object but those of its level. -/
theorem sameBut_emergency (below : s.level st < 4) : SameBut (ownLevel st) s (emergency st s) :=
  (sameBut_setOb s (w := ownLevel st) 4 rfl (by decide)).trans ((sameBut_emergency_four below).mono fun _ _ on => on.1)

theorem halting_path (st : Nat) (s : State) : (s.halting st).path = s.path := (takeLevel_fr (.refl 4215000 s)).path (by decide)

theorem breakContinuity_path (cause : Nat) (s : State) : (breakContinuity cause s).path = s.path :=
  (breakContinuity_fr (.refl 86232 s)).path (by decide)

theorem chan_congr (path : t.path = s.path) (c : Nat) : t.chan c = s.chan c := by rw [State.chan, path, State.chan]

theorem channel_mem (st : Nat) (small : k < 72) : 72 * st + k ∈ channelsOf st := List.mem_map_of_mem (List.mem_range.mpr small)

theorem forEach_haltChannel_chan_ne {c : Nat} {l : List Nat} (other : c ∉ l) (s : State) : (forEach l haltChannel s).chan c = s.chan c := by
  unfold forEach
  induction l generalizing s with
  | nil => rfl
  | cons d l ih =>
    rw [List.mem_cons, not_or] at other
    exact (ih other.2 (haltChannel d s)).trans (haltChannel_chan_ne other.1 s)

/-- The channels of another stack go on. -/
theorem emergency_chan_ne {c : Nat} (other : c ∉ channelsOf st) (s : State) : (emergency st s).chan c = s.chan c := by
  rw [emergency_eq, chan_congr (breakContinuity_path _ _), forEach_haltChannel_chan_ne other, chan_congr (halting_path st s)]

/-- Every channel of a stack that takes level 4 drains, unless it has failed or is in self-refresh. -/
theorem emergency_draining (below : s.level st < 4) (small : st < 4) (within_ : k < 72) (serves : s.chanState (72 * st + k) ≠ 2)
    (awake : (s.dch (72 * st + k)).selfRef = none) : ((emergency st s).chan (72 * st + k)).draining = some (2, 0xFFFF) := by
  have halting : SameBut (ownLevel st) s (s.halting st) :=
    (sameBut_setOb s (w := ownLevel st) 4 rfl (by decide)).trans ((sameBut_halting below).mono fun _ _ on => on.1)
  have nodup : ((channelsOf st).map id).Nodup := by
    rw [List.map_id]
    exact List.nodup_range.map fun _ _ same => Nat.add_left_cancel same
  obtain ⟨t, ⟨-, same⟩, kept, -⟩ := forEach_at (f := haltChannel)
    (rel := fun s t => t.chan (72 * st + k) = s.chan (72 * st + k) ∧ SameBut (ownLevel st) s t)
    (channel_mem st within_) nodup (fun _ => ⟨rfl, .refl _ _⟩) (fun st tu => ⟨tu.1.trans st.1, st.2.trans tu.2⟩)
    (fun c _ other u => ⟨haltChannel_chan_ne (Ne.symm other) u, sameBut_haltChannel c u⟩) (s.halting st)
  have all := halting.trans same
  have state : t.chanState (72 * st + k) = s.chanState (72 * st + k) :=
    all.chanState (by omega) fun _ => by unfold ownLevel chanIdx stackIdx; omega
  have dch : t.dch (72 * st + k) = s.dch (72 * st + k) := by rw [State.dch, all.dram, State.dch]
  rw [emergency_eq, chan_congr (breakContinuity_path _ _), kept]
  exact haltChannel_draining (state ▸ serves) (dch ▸ awake)

/-! ### The comparators (R282) -/

/-- What the comparators do of one stack while no trip is called for. -/
def alarm (st : Nat) (s : State) : State :=
  match s.stackTemp st with
  | some t => if s.level st < 4 && decide (420 ≤ t) then emergency st s else s
  | none => s

theorem comparators_of_trip {x : TripCause} (on : s.comparing = true) (cause : s.tripCause = some x) : comparators s = trip x s := by
  simp [comparators, on, cause]

theorem comparators_of_none (on : s.comparing = true) (none_ : s.tripCause = none) : comparators s = forEach s.stacks_ alarm s := by
  unfold comparators
  rw [if_neg (by simp [on]), none_]
  rfl

theorem alarm_cases (st : Nat) (s : State) : alarm st s = s ∨ s.level st < 4 ∧ alarm st s = emergency st s := by
  unfold alarm
  split
  · split
    next high =>
      simp only [Bool.and_eq_true, decide_eq_true_eq] at high
      exact .inr ⟨high.1, rfl⟩
    next => exact .inl rfl
  · exact .inl rfl

theorem alarm_of_hot {t : Int} (below : s.level st < 4) (reads : s.stackTemp st = some t) (hot : 420 ≤ t) : alarm st s = emergency st s := by
  unfold alarm
  rw [reads]
  exact if_pos (by simp [below, hot])

theorem alarm_of_cool (cool : ∀ t, s.level st < 4 → s.stackTemp st = some t → t < 420) : alarm st s = s := by
  unfold alarm
  split
  next t reads =>
    refine if_neg fun high => ?_
    simp only [Bool.and_eq_true, decide_eq_true_eq] at high
    have := cool t high.1 reads
    omega
  next => rfl

/-- Below 105 °C the comparators find nothing to do. -/
theorem comparators_of_cool (on : s.comparing = true) (none_ : s.tripCause = none)
    (cool : ∀ u t, u < s.cfg.nstacks → s.level u < 4 → s.stackTemp u = some t → t < 420) : comparators s = s := by
  rw [comparators_of_none on none_]
  exact forEach_of_fixed fun u mem => alarm_of_cool fun t => cool u t (List.mem_range.mp mem)

/-- Another stack's alarm leaves a stack's channels, and all but the other's level. -/
theorem alarm_other {u : Nat} (small : u < 4) (other : u ≠ st) (s : State) :
    SameBut (otherLevels st) s (alarm u s) ∧ ∀ k < 72, (alarm u s).chan (72 * st + k) = s.chan (72 * st + k) := by
  obtain same | ⟨below, halts⟩ := alarm_cases u s
  · rw [same]
    exact ⟨.refl _ s, fun _ _ => rfl⟩
  · rw [halts]
    refine ⟨(sameBut_emergency below).mono fun i _ on => ⟨u, small, other, on⟩, fun k within_ => emergency_chan_ne (fun mem => ?_) s⟩
    obtain ⟨j, range, same⟩ := List.mem_map.mp mem
    have := List.mem_range.mp range
    omega

/-- The alarm of a stack stands in a run of the comparators between changes that do not concern it. -/
theorem comparators_at (on : s.comparing = true) (none_ : s.tripCause = none) (stack : st < s.cfg.nstacks) (fits : s.cfg.nstacks ≤ 4) :
    ∃ t, SameBut (otherLevels st) s t ∧ SameBut (otherLevels st) (alarm st t) (comparators s) ∧
      ∀ k < 72, (comparators s).chan (72 * st + k) = (alarm st t).chan (72 * st + k) := by
  have nodup : (s.stacks_.map id).Nodup := by
    rw [List.map_id]
    exact List.nodup_range
  obtain ⟨t, ⟨first, -⟩, last, chans⟩ := forEach_at (f := alarm)
    (rel := fun s t => SameBut (otherLevels st) s t ∧ ∀ k < 72, t.chan (72 * st + k) = s.chan (72 * st + k))
    (List.mem_range.mpr stack) nodup (fun s => ⟨.refl _ s, fun _ _ => rfl⟩)
    (fun st tu => ⟨st.1.trans tu.1, fun k small => (tu.2 k small).trans (st.2 k small)⟩)
    (fun u mem other => alarm_other (lt_of_lt_of_le (List.mem_range.mp mem) fits) other) s
  rw [comparators_of_none on none_]
  exact ⟨t, first, last, chans⟩

theorem not_otherLevels_level (st a : Nat) : ¬ otherLevels st (stackIdx st) a := by
  rintro ⟨u, -, other, same⟩
  unfold stackIdx at same
  omega

/-- A stack at 105 °C halts: it is at level 4, its channels drain, and frames go on (R282, R288). -/
theorem comparators_of_hot {x : Int} (on : s.comparing = true) (none_ : s.tripCause = none) (stack : st < s.cfg.nstacks)
    (fits : s.cfg.nstacks ≤ 4) (below : s.level st < 4) (reads : s.stackTemp st = some x) (hot : 420 ≤ x) :
    (comparators s).plans.begun = s.plans.begun ∧ (comparators s).level st = 4 ∧
      ∀ k < 72, s.chanState (72 * st + k) ≠ 2 → (s.dch (72 * st + k)).selfRef = none →
        ((comparators s).chan (72 * st + k)).draining = some (2, 0xFFFF) := by
  have small : st < 4 := by omega
  obtain ⟨t, first, last, chans⟩ := comparators_at on none_ stack fits
  have below' : t.level st < 4 := by rwa [first.level (not_otherLevels_level st 1) small]
  have reads' : t.stackTemp st = some x := by
    rw [first.stackTemp (fun a ⟨u, range, _, same⟩ => ?_) small, reads]
    unfold stackIdx at same
    omega
  rw [alarm_of_hot below' reads' hot] at last chans
  refine ⟨last.begun.trans ((sameBut_emergency below').begun.trans first.begun), ?_, fun k within_ serves awake => ?_⟩
  · rw [last.level (not_otherLevels_level st 1) small, emergency_level below' small]
  · rw [chans k within_]
    refine emergency_draining below' small within_ ?_ ?_
    · rwa [first.chanState (by omega) fun a ⟨u, range, _, same⟩ => by unfold chanIdx stackIdx at same; omega]
    · rwa [State.dch, first.dram]

/-! ### A trip (R291) -/

/-- A trip has just been decided. -/
structure State.TripNow (s : State) : Prop where
  at_ : s.heat.tripAt = s.now + 1
  tripped : s.heat.tripped = true
  record : s.heat.recordDue = true
  pin : s.pins.trip = true

theorem State.TripNow.driveHeat (h : s.TripNow) (st x : Nat) : (driveHeat st x s).TripNow := by
  unfold Machine.driveHeat
  dsimp only
  split <;> exact ⟨h.at_, h.tripped, h.record, h.pin⟩

theorem State.TripNow.forEach_driveHeat (h : s.TripNow) (l : List Nat) (x : Nat) :
    (forEach l (fun st s => Machine.driveHeat st x s) s).TripNow :=
  forEach_related (rel := fun s t => s.TripNow → t.TripNow) (fun _ => id) (fun st tu h => tu (st h)) l _
    (fun st _ h => h.driveHeat st x) s h

theorem trip_tripNow {x : TripCause} (first : s.heat.tripped = false) : (trip x s).TripNow := by
  unfold trip
  rw [if_neg (by simp [first])]
  exact State.TripNow.forEach_driveHeat (by exact ⟨rfl, rfl, rfl, rfl⟩) _ 3

/-- A trip goes on 1 µs after it was decided, and not before. -/
theorem tripStep_of_now (h : s.TripNow) : tripStep s = s := by
  unfold tripStep
  simp [h.at_, State.elapsed, usTicks]

/-- While a trip is under way the ladder shows what it showed. -/
theorem ladderStep_of_tripped (h : s.heat.tripped = true) : ladderStep s = s := if_pos (by simp [h])

/-- Whether frames have begun is not a matter of heat. -/
theorem enterHalted_begun (code : Nat) (s : State) : (enterHalted code false s).plans.begun = s.plans.begun := by
  have halts (u : State) : (haltChannels u).plans = u.plans := (haltChannels_fr (.refl 67387716 u)).plans (by decide)
  have node (n : NodeState) (u : State) : (setNode n u).plans = u.plans := (setNode_fr (.refl 20700 u)).plans (by decide)
  have broken (u : State) : (breakContinuity 1 u).plans.begun = u.plans.begun :=
    (sameBut_breakContinuity (w := fun _ _ => False) 1 u).begun
  have entered (u : State) : (breakContinuity 1 (raiseNode Ev.nodeHalted code (setNode .halted (u.setOb 0xB040 3 code)))).plans.begun =
      u.plans.begun := by rw [broken, raiseNode_plans, node]; rfl
  unfold enterHalted
  split
  · rfl
  · simp only [Bool.not_false, Bool.true_or, if_true, Bool.false_eq_true, if_false, halts]
    exact entered s

theorem tripStep_begun (s : State) : (tripStep s).plans.begun = s.plans.begun := by
  unfold tripStep
  split
  · rfl
  · split
    · exact enterHalted_begun _ _
    · split
      · refine congrArg Plans.begun ((forEach_fr (.refl 262144 s) fun c u => ?_).plans (by decide))
        exact Fr.ite (.refl _ u) (drainChannel_fr (.refl _ u))
      · rfl

/-- Once frames have begun, the ladder waits for a frame boundary. -/
theorem exec_hardwareComparator_of_begun (begun : (comparators s).plans.begun = true) :
    exec .hardwareComparator s = .next (serveAll (tripStep (comparators s))) := by
  refine congrArg (fun x => Host.Outcome.next (serveAll x)) (if_pos ?_)
  rw [tripStep_begun, begun]
  rfl

/-- Before frame 0 the ladder follows at once (R296). -/
theorem exec_hardwareComparator_of_ladder (quiet : comparators s = s) (trip : s.heat.tripAt = 0) (on : s.comparing = true)
    (before : s.plans.begun = false) (runs : s.power.node ≠ .halted) :
    exec .hardwareComparator s = .next (serveAll (ladderStep s)) := by
  have still : tripStep (comparators s) = s := by rw [quiet, tripStep_of_none trip]
  have command : exec .hardwareComparator s = execHardwareComparator s := rfl
  simp only [execHardwareComparator, still] at command
  rw [command, if_neg (by simp [before, on, runs])]

theorem exec_hardwareComparator_of_trip {x : TripCause} (on : s.comparing = true) (cause : s.tripCause = some x)
    (first : s.heat.tripped = false) : exec .hardwareComparator s = .next (serveAll (trip x s)) := by
  have now := trip_tripNow (x := x) first
  have still : tripStep (comparators s) = trip x s := by rw [comparators_of_trip on cause, tripStep_of_now now]
  have command : exec .hardwareComparator s = execHardwareComparator s := rfl
  simp only [execHardwareComparator, still] at command
  rw [command, ladderStep_of_tripped now.tripped, ite_self]

end

end Sys2Proof.Machine

/-!
PROOF. The exclusion of sensors, halted stacks, the flag of a layer in self-refresh, and the settling of O50 (R280, R289, R295).
-/
namespace Sys2Proof.Machine

-- One proof after another, each on a stack of its own, for the check's memory.
set_option Elab.async false

/-! ### Exclusion (R280) -/

section
variable {s : State} {r : Req}

/-- A write of a mask beyond its limit is denied. -/
theorem dictWrite_denied {idx sub : Nat} {value : List Byte} {home : Home} (applies : s.applies r idx sub value = true)
    (denied : home (.req r) (s.begun r) = .denied (s.begun r)) :
    dictWrite r idx sub value home s = answer r St.denied 9 (s.begun r) := by
  rw [dictWrite_applies applies, denied]
  rfl

theorem begun_pins (r : Req) (s : State) : (s.begun r).pins = s.pins := (countFrame_fr (.refl 1216 s)).pins (by decide)

theorem begun_nvm (r : Req) (s : State) : (s.begun r).nvm = s.nvm := (countFrame_fr (.refl 1216 s)).nvm (by decide)

/-- A value to persist is gathered while NVM can be written (R469). -/
theorem dictWrite_gathers {idx sub v : Nat} {value : List Byte} {home : Home} (applies : s.applies r idx sub value = true)
    (gathers : home (.req r) (s.begun r) = gatherPersist (.req r) idx sub v (s.begun r)) (full : s.reduced = false)
    (usable : s.nvm.usable = true) :
    (dictWrite r idx sub value home s).nvm.gather = s.nvm.gather ++ [⟨idx, sub, v, .req r⟩] := by
  have full : (s.begun r).reduced = false := by rw [State.reduced, begun_pins]; exact full
  have usable : (s.begun r).nvm.usable = true := by rw [begun_nvm]; exact usable
  rw [dictWrite_applies applies, gathers, gatherPersist, full, usable]
  exact congrArg (fun n : Nvm => n.gather ++ [⟨idx, sub, v, .req r⟩]) (begun_nvm r s)

theorem exec_sensorExclude_logic (st part : Nat) {mask : Nat} (fits : mask < 2 ^ 16) :
    exec (.sensorExclude r true st part mask) s = .next (dictWrite r 0x9018 2 (leBytes 2 mask) (logicExcludeHome mask) s) := by
  have command : exec (.sensorExclude r true st part mask) s =
      .next (dictWrite r 0x9018 2 (leBytes 2 mask) (logicExcludeHome (mask % 2 ^ 16)) s) := rfl
  rw [command, Nat.mod_eq_of_lt fits]

theorem exec_sensorExclude_layer {st part mask : Nat} (stack : st < 4) (third : part < 3) (fits : mask < 2 ^ 64) :
    exec (.sensorExclude r false st part mask) s =
      .next (dictWrite r (0x9014 + st) (part + 1) (leBytes 8 mask) (layerExcludeHome st (part + 1) mask) s) := by
  have command : exec (.sensorExclude r false st part mask) s = .next (dictWrite r (0x9014 + st % 4) (part % 3 + 1) (leBytes 8 mask)
      (layerExcludeHome (st % 4) (part % 3 + 1) (mask % 2 ^ 64)) s) := rfl
  rw [command, Nat.mod_eq_of_lt stack, Nat.mod_eq_of_lt third, Nat.mod_eq_of_lt fits]

/-- The sensors that stand for an excluded one are sensors of the stack. -/
theorem layerSources_lt {n m : Nat} (sensor : n < 144) (mem : m ∈ layerSources n) : m < 144 := by
  unfold layerSources at mem
  split at mem
  · obtain ⟨w, range, rfl⟩ := List.mem_map.mp mem
    have := List.mem_range.mp range
    omega
  · rw [List.mem_append] at mem
    split_ifs at mem <;> simp at mem <;> omega

/-- Only the masks of the stack's sensors count. -/
theorem excludeDepends_congr {f g : Nat → Bool} (same : ∀ n < 144, f n = g n) : excludeDepends f = excludeDepends g := by
  unfold excludeDepends
  rw [Bool.eq_iff_iff, List.any_eq_true, List.any_eq_true]
  refine exists_congr fun n => and_congr_right fun mem => ?_
  have sensor := List.mem_range.mp mem
  have sources : (layerSources n).any f = (layerSources n).any g := by
    rw [Bool.eq_iff_iff, List.any_eq_true, List.any_eq_true]
    exact exists_congr fun m => and_congr_right fun mem => by rw [same m (layerSources_lt sensor mem)]
  rw [same n sensor, sources]

theorem excludedCount_congr {f g : Nat → Bool} (same : ∀ n < 144, f n = g n) :
    ((List.range 144).filter f).length = ((List.range 144).filter g).length :=
  congrArg List.length (List.filter_congr fun n mem => same n (List.mem_range.mp mem))

/-- A sensor is excluded once a mask is written over what is to come of the others. -/
def State.excludedAfter (s : State) (st part mask k : Nat) : Bool :=
  (if k / 64 = part then mask else s.comingValue (0x9014 + st) (k / 64 + 1)).testBit (k % 64)

theorem begun_comingValue (idx : Nat) {sub : Nat} (other : logObject idx = false) (fits : sub < 256) :
    (s.begun r).comingValue idx sub = s.comingValue idx sub := by
  rw [State.comingValue, begun_nvm, begun_ob r s idx sub other fits, State.comingValue]

/-- The masks a write of one part comes to are those it comes to before it is begun. -/
theorem layerExcludeHome_begun {st part mask : Nat} (stack : st < 4) :
    layerExcludeHome st (part + 1) mask (.req r) (s.begun r) =
      if excludeDepends (s.excludedAfter st part mask) || decide (16 < ((List.range 144).filter (s.excludedAfter st part mask)).length)
      then .denied (s.begun r) else gatherPersist (.req r) (0x9014 + st) (part + 1) mask (s.begun r) := by
  have log : logObject (0x9014 + st) = false := by interval_cases st <;> rfl
  have same (n : Nat) (sensor : n < 144) :
      (if n / 64 + 1 = part + 1 then mask else (s.begun r).comingValue (0x9014 + st) (n / 64 + 1)).testBit (n % 64) =
        s.excludedAfter st part mask n := by
    rw [begun_comingValue _ log (by omega)]
    simp only [State.excludedAfter, Nat.add_right_cancel_iff]
  unfold layerExcludeHome
  dsimp only
  rw [excludeDepends_congr same, excludedCount_congr same]

/-- The limits of a stack's masks (R280). -/
theorem exec_sensorExclude_layer_denied {st part mask : Nat} (stack : st < 4) (third : part < 3) (fits : mask < 2 ^ 64)
    (applies : s.applies r (0x9014 + st) (part + 1) (leBytes 8 mask) = true)
    (over_ : excludeDepends (s.excludedAfter st part mask) = true ∨
      16 < ((List.range 144).filter (s.excludedAfter st part mask)).length) :
    exec (.sensorExclude r false st part mask) s = .next (answer r St.denied 9 (s.begun r)) := by
  rw [exec_sensorExclude_layer stack third fits, dictWrite_denied applies]
  rw [layerExcludeHome_begun stack]
  exact if_pos (by simpa using over_)

theorem gives_sensorExclude_layer {st part mask : Nat} (stack : st < 4) (third : part < 3) (fits : mask < 2 ^ 64)
    (applies : s.applies r (0x9014 + st) (part + 1) (leBytes 8 mask) = true)
    (depends : excludeDepends (s.excludedAfter st part mask) = false)
    (few : ((List.range 144).filter (s.excludedAfter st part mask)).length ≤ 16) (full : s.reduced = false) (usable : s.nvm.usable = true) :
    Gives (.sensorExclude r false st part mask) s fun t => t.nvm.gather = s.nvm.gather ++ [⟨0x9014 + st, part + 1, mask, .req r⟩] := by
  refine ⟨_, exec_sensorExclude_layer stack third fits, dictWrite_gathers applies ?_ full usable⟩
  rw [layerExcludeHome_begun stack]
  exact if_neg (by simp [depends, few])

/-- The limit of the logic side's mask (R280). -/
theorem exec_sensorExclude_logic_denied {st part mask : Nat} (fits : mask < 2 ^ 16) (applies : s.applies r 0x9018 2 (leBytes 2 mask) = true)
    (many : 4 < (logicNumbers.filter mask.testBit).length) :
    exec (.sensorExclude r true st part mask) s = .next (answer r St.denied 9 (s.begun r)) := by
  rw [exec_sensorExclude_logic st part fits, dictWrite_denied applies (if_pos many)]

theorem gives_sensorExclude_logic {st part mask : Nat} (fits : mask < 2 ^ 16) (applies : s.applies r 0x9018 2 (leBytes 2 mask) = true)
    (few : (logicNumbers.filter mask.testBit).length ≤ 4) (full : s.reduced = false) (usable : s.nvm.usable = true) :
    Gives (.sensorExclude r true st part mask) s fun t => t.nvm.gather = s.nvm.gather ++ [⟨0x9018, 2, mask, .req r⟩] :=
  ⟨_, exec_sensorExclude_logic st part fits, dictWrite_gathers applies (if_neg (by omega)) full usable⟩

end

section
variable {s : State} {st u c layer : Nat} {due : Bool}

/-! ### A halted stack's spare channels (R289) -/

theorem exec_haltedSensorCheck (stack : st < s.cfg.nstacks) : exec (.haltedSensorCheck st) s = .next (haltedCheck st s) :=
  if_pos (by simp [stack])

theorem haltedCheck_of_not_halted (runs : s.halted st = false) : haltedCheck st s = s := if_pos (by simp [runs])

/-- A reading that is due begins, and the time of it is noted. -/
theorem haltedCheck_of_due (halted : s.halted st = true) (up : s.stewardUp = true)
    (due : s.elapsed (look 0 st s.heat.checkedAt) msT = true) :
    haltedCheck st s = forEach (List.range 8) (fun w t => readHalted (8 * st + w) true t)
      { s with heat := { s.heat with checkedAt := put 0 st s.now s.heat.checkedAt } } := by
  have due : s.checkDue st = true := due
  unfold haltedCheck
  dsimp only
  rw [if_neg (by simp [halted, up]), due]
  rfl

theorem haltedCheck_of_not_due (halted : s.halted st = true) (up : s.stewardUp = true)
    (early : s.elapsed (look 0 st s.heat.checkedAt) msT = false) :
    haltedCheck st s = forEach (List.range 8) (fun w t => readHalted (8 * st + w) false t) s := by
  have early : s.checkDue st = false := early
  unfold haltedCheck
  dsimp only
  rw [if_neg (by simp [halted, up]), early]
  rfl

/-- Only the spare channel in its halted stack's self-refresh is read. -/
theorem readHalted_of_other (other : s.chanState (9 * u + 8) ≠ 6) : readHalted u due s = s := if_pos (by simpa using other)

theorem readHalted_of_asleep (state : s.chanState (9 * u + 8) = 6) (asleep : (s.dch (9 * u + 8)).selfRef.isSome = true) :
    readHalted u due s = if due && s.srxAllowed (9 * u + 8) then exitSrx (9 * u + 8) s else s := by
  unfold readHalted
  dsimp only
  rw [if_neg (by simp [state]), if_pos asleep]

/-- Once it is out of self-refresh, the sheaf's sensors are read and the channel drains towards self-refresh again. -/
theorem readHalted_of_awake (state : s.chanState (9 * u + 8) = 6) (awake : (s.dch (9 * u + 8)).selfRef = none)
    (idle : (s.chan (9 * u + 8)).draining = none)
    (out : within (rowCk (s.slotOf (9 * u + 8))) 240 (s.chan (9 * u + 8)).time.srx = false) :
    readHalted u due s = drainChannel (9 * u + 8) 2 0xFFFF (readSheaf u (9 * u + 8) (raise Ev.selfRefreshExit (9 * u + 8) 0 s)) := by
  unfold readHalted
  dsimp only
  rw [if_neg (by simp [state]), if_neg (by simp [awake]), if_neg (by simp [out, idle])]

/-! ### The flag of a layer in self-refresh (R289, R295) -/

theorem exec_thermalFlagAlert (held : c < s.channels) : exec (.thermalFlagAlert c layer) s = .next (flagAlert c layer s) :=
  if_pos (by simp [held])

theorem flagAlert_of_awake (awake : (s.dch c).selfRef = none) : flagAlert c layer s = s := if_pos (by simp [awake])

/-- The flag of a layer comes on a channel: the spare one of the layer's sheaf, in self-refresh. -/
structure State.FlagComes (s : State) (c layer : Nat) : Prop where
  spare : isSpare c = true
  asleep : (s.dch c).selfRef.isSome = true
  flag : (s.die (stackOf c) layer).flag = true
  within_ : layer < 16
  sheaf : layer % 8 = sheafOf c % 8

theorem State.FlagComes.taken (h : s.FlagComes c layer) : (!isSpare c || (s.dch c).selfRef.isNone || !(s.die (stackOf c) layer).flag ||
    decide (16 ≤ layer) || layer % 8 != sheafOf c % 8) = false := by
  have awake : (s.dch c).selfRef.isNone = false := by rw [← Option.not_isSome, h.asleep]; rfl
  simp [h.spare, awake, h.flag, h.sheaf, h.within_]

/-- In REST and DEEP the flag trips. -/
theorem flagAlert_of_rest (h : s.FlagComes c layer) (rests : s.power.node = .rest ∨ s.power.node = .deep) :
    flagAlert c layer s = trip ⟨1, stackOf c, 9 * layer + 8, 440⟩ (s.bump (0x3800 + stackOf c) 0x0B) := by
  unfold flagAlert
  dsimp only
  rw [h.taken, if_neg Bool.false_ne_true, if_pos (by obtain node | node := rests <;> simp [node])]

theorem halted_bump (st : Nat) (s : State) : (s.bump (0x3800 + st) 0x0B).halted st = s.halted st := by
  have apart : (s.bump (0x3800 + st) 0x0B).ob (0x9008 + st) 1 = s.ob (0x9008 + st) 1 := State.ob_setOb_ne s fun same => by
    have := (objKey_inj (by decide) (by decide) same).1
    omega
  rw [State.halted, apart, State.halted]

/-- In a halted stack the flag is a reading of 110 °C. -/
theorem flagAlert_of_halted (h : s.FlagComes c layer) (run : s.power.node = .run)
    (halted : s.halted (stackOf c) = true) :
    ((flagAlert c layer s).sensor (sensorKey (stackOf c) (9 * layer + 8))).Shows 440 s.now := by
  have reads : flagAlert c layer s = afterReadings (stackOf c) (showSensor (stackOf c) (9 * layer + 8)
      (takeReading (sensorKey (stackOf c) (9 * layer + 8)) 440 (s.bump (0x3800 + stackOf c) 0x0B))) := by
    unfold flagAlert
    dsimp only
    rw [h.taken, if_neg Bool.false_ne_true, if_neg (by simp [run]), if_pos (by rw [halted_bump, halted])]
  have same := State.sensor_congr (s := takeReading (sensorKey (stackOf c) (9 * layer + 8)) 440 (s.bump (0x3800 + stackOf c) 0x0B))
    (t := flagAlert c layer s) (by rw [reads, afterReadings_sensors, showSensor_heat]) (sensorKey (stackOf c) (9 * layer + 8))
  rw [same]
  exact takeReading_shows (by decide) (by decide)

end

/-- Settles O50: one lemma for each command and each branch of it. -/
theorem thermalReadings : Obligations.ThermalReadings := by
  unfold Obligations.ThermalReadings
  intro s st n m c layer codes r inv stack sensor logic held
  have most : s.cfg.nstacks ≤ 4 := inv.stackCount.2
  have small : st < 4 := by omega
  refine ⟨?off, ?early, ?reading, ?silent, ?absent, ?logicMask, ?layerMask, ?trips, ?cool, ?hot, ?tripEnds, ?running, ?halted, ?spares,
    ?awake, ?flag⟩
  case off => exact fun off => congrArg Host.Outcome.next (readLogic_of_not_comparing off)
  case early => exact fun read early => congrArg Host.Outcome.next (readLogic_of_early read early)
  case reading => exact fun code on first length given fits valid => gives_logicSensorRead on first length given fits valid
  case silent =>
    refine fun on runs => ⟨fun late => ?_, fun recent => ?_, fun late => ?_⟩
    · exact ⟨_, exec_sensorNoReading_layer stack sensor, silentSensor_layer_broken small on runs late⟩
    · rw [exec_sensorNoReading_layer stack sensor, silentSensor_of_recent small recent]
    · exact ⟨_, exec_sensorNoReading_logic logic, silentSensor_logic_broken on runs late⟩
  case absent =>
    exact ⟨exec_sensorNoReading_absent (by decide) (.inl most), exec_sensorNoReading_absent (by omega) (.inr le_rfl)⟩
  case logicMask =>
    exact fun mask fits applies => ⟨exec_sensorExclude_logic_denied fits applies, gives_sensorExclude_logic fits applies⟩
  case layerMask =>
    exact fun mask part fits third applies =>
      ⟨exec_sensorExclude_layer_denied small third fits applies, gives_sensorExclude_layer small third fits applies⟩
  case trips =>
    intro x on cause first
    have now := trip_tripNow (x := x) first
    exact ⟨exec_hardwareComparator_of_trip on cause first, now.pin, now.tripped, now.record⟩
  case cool =>
    intro on none_ cool
    have quiet := comparators_of_cool on none_ cool
    refine ⟨fun begun => ?_, fun before trip runs => exec_hardwareComparator_of_ladder quiet trip on before runs⟩
    rw [exec_hardwareComparator_of_begun (by rw [quiet, begun]), quiet]
  case hot =>
    intro t on begun none_ below reads hot
    obtain ⟨same, level, drains⟩ := comparators_of_hot on none_ stack most below reads hot
    exact ⟨exec_hardwareComparator_of_begun (same.trans begun), level, drains⟩
  case tripEnds => exact fun trip late => (if_neg trip).trans (if_pos late)
  case running =>
    intro runs
    rw [exec_haltedSensorCheck stack, haltedCheck_of_not_halted runs]
  case halted =>
    refine fun halted up => ⟨fun due => ?_, fun early => ?_⟩
    · rw [exec_haltedSensorCheck stack, haltedCheck_of_due halted up due]
    · rw [exec_haltedSensorCheck stack, haltedCheck_of_not_due halted up early]
  case spares =>
    refine fun u => ⟨fun other due => readHalted_of_other other, fun state asleep => ⟨?_, fun allowed => ?_⟩,
      fun state awake idle out due => readHalted_of_awake state awake idle out⟩
    · exact readHalted_of_asleep state asleep
    · exact (readHalted_of_asleep state asleep).trans (if_pos allowed)
  case awake =>
    intro awake
    rw [exec_thermalFlagAlert held, flagAlert_of_awake awake]
  case flag =>
    rintro ⟨spare, asleep, flag, layers, sheaf⟩
    have comes : s.FlagComes c layer := ⟨spare, asleep, flag, layers, sheaf⟩
    refine ⟨fun rests => ?_, fun run halted => ?_⟩
    · rw [exec_thermalFlagAlert held, flagAlert_of_rest comes rests]
    · obtain ⟨value, -, at_⟩ := flagAlert_of_halted comes run halted
      exact ⟨_, exec_thermalFlagAlert held, value, at_⟩

end Sys2Proof.Machine

/-!
PROOF. The lanes of a burst: what a controller drives for a line is what the layer takes, and the settling of O9 (R308, R507, R508).
-/
namespace Sys2Proof.Machine

-- One proof after another, each on a stack of its own, for the check's memory.
set_option Elab.async false

/-! ### Fields of equal width side by side -/

/-- Fields of `w` bits side by side, field `i` at bit `w * i`. -/
def packed (w : Nat) (v : Nat → Nat) (n : Nat) : Nat := (List.range n).foldl (fun a i => a + v i * 2 ^ (w * i)) 0

section
variable {w : Nat} {v : Nat → Nat}

theorem packed_succ (n : Nat) : packed w v (n + 1) = packed w v n + v n * 2 ^ (w * n) := by
  simp [packed, List.range_succ]

theorem packed_lt (fits : ∀ i, v i < 2 ^ w) (n : Nat) : packed w v n < 2 ^ (w * n) := by
  induction n with
  | zero => simp [packed]
  | succ n ih =>
    have last : (v n + 1) * 2 ^ (w * n) ≤ 2 ^ w * 2 ^ (w * n) := Nat.mul_le_mul_right _ (fits n)
    rw [packed_succ, Nat.mul_succ, Nat.pow_add, Nat.mul_comm (2 ^ (w * n))]
    linarith

/-- A field read back. -/
theorem packed_field (fits : ∀ i, v i < 2 ^ w) {i n : Nat} (held : i < n) : packed w v n / 2 ^ (w * i) % 2 ^ w = v i := by
  induction n with
  | zero => omega
  | succ n ih =>
    rw [packed_succ]
    rcases Nat.lt_succ_iff_lt_or_eq.mp held with lower | rfl
    · have above : v n * 2 ^ (w * n) = 2 ^ (w * i) * (2 ^ w * (v n * 2 ^ (w * (n - i - 1)))) := by
        obtain ⟨k, rfl⟩ : ∃ k, n = i + 1 + k := ⟨n - (i + 1), by omega⟩
        rw [show i + 1 + k - i - 1 = k by omega, Nat.mul_add, Nat.mul_add, Nat.pow_add, Nat.pow_add, Nat.mul_one]
        ring
      rw [above, Nat.add_mul_div_left _ _ (by positivity), Nat.add_mul_mod_self_left, ih lower]
    · rw [Nat.add_mul_div_right _ _ (by positivity), Nat.div_eq_of_lt (packed_lt fits i), Nat.zero_add, Nat.mod_eq_of_lt (fits i)]

/-- The fields of one beat after those of the beats before it. -/
theorem foldl_add_packed (n a o : Nat) :
    (List.range n).foldl (fun a i => a + v i * 2 ^ (o + w * i)) a = a + packed w v n * 2 ^ o := by
  induction n with
  | zero => simp [packed]
  | succ n ih => rw [List.range_succ, List.foldl_concat, ih, packed_succ, Nat.pow_add]; ring

end

/-! ### The byte of a group in a beat (R507, R508) -/

section
variable (x : LayerChan) (bytes : List Byte)

/-- The group whose bits the lanes of a group carry; none where they carry 0. -/
def LayerChan.carried (x : LayerChan) (g : Nat) : Option Nat :=
  if g = 17 then x.steer else if x.steer == some g then none else if x.inWidth g then some g else none

/-- What a controller drives on the lanes of a group in a beat. -/
def LayerChan.driven (x : LayerChan) (bytes : List Byte) (b g : Nat) : Nat :=
  match x.carried g with
  | some h => match x.byteAt h b with | some k => (bytes.getD k 0).toNat | none => 0
  | none => 0

theorem LayerChan.driven_lt (b g : Nat) : x.driven bytes b g < 2 ^ 8 := by
  unfold LayerChan.driven
  split
  · split
    · exact BitVec.isLt _
    · decide
  · decide

theorem LayerChan.makeBurst_eq_packed : x.makeBurst bytes = packed 144 (fun b => packed 8 (x.driven bytes b) 18) x.beats := by
  have beat (a b : Nat) : (List.range 18).foldl (fun a g => a + x.driven bytes b g * 2 ^ (144 * b + 8 * g)) a =
      a + packed 8 (x.driven bytes b) 18 * 2 ^ (144 * b) := foldl_add_packed 18 a (144 * b)
  exact congrArg (fun f => (List.range x.beats).foldl f 0) (funext fun a => funext fun b => beat a b)

/-- A layer finds on the lanes of a group what was driven there. -/
theorem laneByte_makeBurst {b g : Nat} (beat : b < x.beats) (group : g < 18) :
    laneByte (x.makeBurst bytes) b g = x.driven bytes b g := by
  have fields : ∀ g, x.driven bytes b g < 2 ^ 8 := x.driven_lt bytes b
  have beats : ∀ b, packed 8 (x.driven bytes b) 18 < 2 ^ 144 := fun b => packed_lt (x.driven_lt bytes b) 18
  rw [← packed_field fields group, ← packed_field beats beat, ← x.makeBurst_eq_packed bytes, ← Nat.mod_mul_right_div_self,
    Nat.mod_mod_of_dvd _ ⟨2 ^ (144 - (8 * g + 8)), by rw [← Nat.pow_add, ← Nat.pow_add]; congr 1; omega⟩, Nat.mod_mul_right_div_self,
    Nat.div_div_eq_div_mul, ← Nat.pow_add, laneByte, Nat.shiftRight_eq_div_pow]
  rfl

/-- Where byte `k` of the line stands: its beat and its group (R507, R508). -/
def LayerChan.place (x : LayerChan) (k : Nat) : Nat × Nat :=
  if 128 ≤ k then (k - 128, 16)
  else if x.width = 0 then (k / 16, k % 16)
  else (k / 8, k % 8 + if x.width = 2 then 8 else 0)

/-- The lanes that carry a group: those of the spare group where it is steered there (R308). -/
def LayerChan.lanesOf (x : LayerChan) (g : Nat) : Nat := if x.steer == some g then 17 else g

theorem LayerChan.takeBurst_eq (burst : Nat) : x.takeBurst burst =
    (List.range 136).map fun k => BitVec.ofNat 8 (laneByte burst (x.place k).1 (x.lanesOf (x.place k).2)) := rfl

variable {x} {k : Nat}

/-- The lanes of a group in the width in use carry it, or those of the spare group do. -/
theorem LayerChan.carried_lanesOf {g : Nat} (real : g < 17) (used : x.inWidth g = true) : x.carried (x.lanesOf g) = some g := by
  unfold LayerChan.carried LayerChan.lanesOf
  by_cases spare : x.steer = some g
  · simp [spare]
  · simp [spare, used, real.ne]

/-- Byte `k` stands in a beat of the burst, on a group in use, and is the byte this group carries in that beat. -/
theorem LayerChan.place_spec (width : x.width ≤ 2) (held : k < 136) : (x.place k).1 < x.beats ∧ (x.place k).2 < 17 ∧
    x.inWidth (x.place k).2 = true ∧ x.byteAt (x.place k).2 (x.place k).1 = some k := by
  unfold LayerChan.place LayerChan.beats LayerChan.inWidth LayerChan.byteAt
  by_cases check : 128 ≤ k
  · simp only [if_pos check, BEq.rfl, Bool.true_or, if_true, true_and]
    refine ⟨by split <;> omega, by decide, ?_⟩
    rw [if_pos (by omega), Nat.add_sub_cancel' check]
  · obtain full | halfA | halfB : x.width = 0 ∨ x.width = 1 ∨ x.width = 2 := by omega
    · have group : k % 16 < 16 := Nat.mod_lt k (by decide)
      simp [full, check, group, group.ne, Nat.div_add_mod]
      omega
    · have group : k % 8 < 8 := Nat.mod_lt k (by decide)
      simp [halfA, check, group, Nat.div_add_mod]
      omega
    · have group : k % 8 < 8 := Nat.mod_lt k (by decide)
      simp [halfB, check, group.ne, Nat.div_add_mod]
      omega

end

/-- Settles O9: each byte of the line is driven on lanes of its own, and read back from them. -/
theorem burstRoundTrip : Obligations.BurstRoundTrip := by
  unfold Obligations.BurstRoundTrip
  intro x bytes width length
  rw [LayerChan.takeBurst_eq]
  refine List.ext_getElem (by simp [length]) fun k _ held => ?_
  obtain ⟨beat, group, used, byte⟩ := LayerChan.place_spec width (length ▸ held : k < 136)
  have lanes : x.lanesOf (x.place k).2 < 18 := by unfold LayerChan.lanesOf; split <;> omega
  have value : x.driven bytes (x.place k).1 (x.lanesOf (x.place k).2) = bytes[k].toNat := by
    rw [LayerChan.driven, LayerChan.carried_lanesOf group used]
    simp only [byte, List.getD_eq_getElem _ _ held]
  rw [List.getElem_map, List.getElem_range, laneByte_makeBurst x bytes beat lanes, value, BitVec.ofNat_toNat, BitVec.setWidth_eq]

end Sys2Proof.Machine

/-!
PROOF. The refutation of O53: a last tap that is confirmed in a node whose store of trainings lists one channel twice (R303).
-/
namespace Sys2Proof.Machine

-- One proof after another, each on a stack of its own, for the check's memory.
set_option Elab.async false

theorem exec_tapStepConfirmed {c : Nat} {s : State} (held : c < s.channels) : exec (.tapStepConfirmed c) s = .next (tapConfirmed c s) :=
  if_pos (decide_eq_true held)

/-! ### The counterexample -/

/-- A channel as never trained, but for the last step of its settings, whose goal the setting has met. -/
def lastTap : Train := { Train.reset with steps := [(0, 0, 0)] }

/-- A channel that has groups 5 and 6 still to retrain, two rounds of group 5 having gone wrong. -/
def twoGroupsLeft : Train := { Train.reset with groups := [5, 6], bad := [(5, 2)] }

/-- A node with its Steward running whose store of trainings lists channel 0 twice, which the invariant allows. -/
def twiceTrained : State :=
  { State.reset with
    train := [(0, lastTap), (0, twoGroupsLeft)]
    procs := { State.reset.procs with steward := ⟨true, none⟩ } }

/-- It meets the invariant as reset does, for the invariant asks nothing of the trainings or of the Steward. -/
theorem twiceTrained_inv : twiceTrained.Inv := { State.reset_inv with }

/-- The channel is not in restored training, and its one step has met its goal. -/
theorem twiceTrained_ready : (twiceTrained.tr 0).steps = [(0, 0, 0)] ∧ twiceTrained.ob (chanIdx 0) 0x40 ≠ 1 ∧
    twiceTrained.stewardUp = true ∧ twiceTrained.setting 0 0 0 = 0 := by decide +kernel

/-- Without its step the first entry is as never trained and goes: the second shows, and its first group is taken to be the one whose centres
stand, so that its count of bad rounds is cleared. -/
theorem tapConfirmed_twiceTrained : ((tapConfirmed 0 twiceTrained).tr 0).bad = [] := by decide +kernel

/-- The channel had no group to retrain, so that the statement takes group 0 for the one whose centres stand: the count of group 5 is left. -/
theorem centresDone_twiceTrained :
    ((centresDone 0 ((twiceTrained.tr 0).groups.headD 0) (twiceTrained.modTr 0 fun t => { t with steps := [] })).tr 0).bad = [(5, 2)] := by
  decide +kernel

/-- Refutes O53: the clause that the last tap of a group, once confirmed, leaves the centres of the first group under way done. An entry equal
to a channel's reset value is dropped from the store, so the clause holds only of a store that lists each channel once, and the invariant does
not ask this of the trainings. -/
theorem not_retrainingAndMargins : ¬ Obligations.RetrainingAndMargins := by
  unfold Obligations.RetrainingAndMargins
  intro holds
  obtain ⟨_, _, _, confirmed, _⟩ := holds twiceTrained 0 ⟨.window, 0⟩ twiceTrained_inv (by decide)
  obtain ⟨steps, other, up, met⟩ := twiceTrained_ready
  obtain ⟨-, -, last⟩ := confirmed 0 0 0 [] steps other up
  have ended := last met rfl
  rw [exec_tapStepConfirmed (by decide)] at ended
  have bad := congrArg (fun t => (t.tr 0).bad) (Host.Outcome.next.inj ended)
  simp only [tapConfirmed_twiceTrained, centresDone_twiceTrained] at bad
  cases bad

end Sys2Proof.Machine

/-!
PROOF. What the requests and the fences that follow a channel's failure leave of its controller: the objects of its state and its training,
and the training records due (R209, R315).
-/
namespace Sys2Proof.Machine

-- One proof after another, each on a stack of its own, for the check's memory.
set_option Elab.async false

theorem logObject_chanIdx (c : Nat) : logObject (chanIdx c) = false := by
  simp only [logObject, chanIdx, Bool.or_eq_false_iff, beq_eq_false_iff_ne]
  omega

/-- The training records due in `s` are due in `t`, and the objects of channel `c` whose subindex is in `kept` read as they did. -/
structure ChanKept (c : Nat) (kept : Nat → Prop) (s t : State) : Prop where
  due : ∀ d ∈ s.nvm.trainDue, d ∈ t.nvm.trainDue
  objects : ∀ a < 256, kept a → t.ob (chanIdx c) a = s.ob (chanIdx c) a

/-- The subindices of a channel's state, and of its training and settings. -/
def trainingSub (a : Nat) : Prop := a = 1 ∨ 0x40 ≤ a

/-- Every part of the state but the objects and the NVM. -/
abbrev offTraining : Nat := 2 ^ 27 - 1 - 2 ^ 12 - 2 ^ 6

namespace ChanKept

section
variable {c : Nat} {kept : Nat → Prop} {s t u : State}

theorem refl (c : Nat) (kept : Nat → Prop) (s : State) : ChanKept c kept s s := ⟨fun _ listed => listed, fun _ _ _ => rfl⟩

theorem trans (h : ChanKept c kept s t) (k : ChanKept c kept t u) : ChanKept c kept s u :=
  ⟨fun d listed => k.due d (h.due d listed), fun a fits on => (k.objects a fits on).trans (h.objects a fits on)⟩

theorem mono {fewer : Nat → Prop} (h : ChanKept c kept s t) (le : ∀ a, fewer a → kept a) : ChanKept c fewer s t :=
  ⟨h.due, fun a fits on => h.objects a fits (le a on)⟩

theorem framed (h : ChanKept c kept s t) (frame : Fr offTraining t u) : ChanKept c kept s u := by
  have obj := frame.obj (by decide)
  have nvm := frame.nvm (by decide)
  exact h.trans ⟨fun d listed => by rw [nvm]; exact listed, fun a _ _ => by rw [State.ob, obj, State.ob]⟩

theorem reports (h : ChanKept c kept s t) (only : ReportsOnly t u) : ChanKept c kept s u := by
  refine h.trans ⟨fun d listed => ?_, fun a fits _ => only.objects _ a fits (logObject_chanIdx c)⟩
  rw [only.parts]
  exact listed

theorem ite {p : Prop} [Decidable p] (h : ChanKept c kept s t) (k : ChanKept c kept s u) : ChanKept c kept s (if p then t else u) := by
  split <;> assumption

theorem forEachMem {α : Type} {l : List α} {f : α → State → State} (each : ∀ a ∈ l, ∀ u, ChanKept c kept u (f a u)) (h : ChanKept c kept s t) :
    ChanKept c kept s (forEach l f t) := by
  induction l generalizing t with
  | nil => exact h
  | cons a l ih =>
    exact ih (fun b mem => each b (List.mem_cons_of_mem a mem)) (h.trans (each a List.mem_cons_self t))

theorem forEach {α : Type} {l : List α} {f : α → State → State} (each : ∀ a u, ChanKept c kept u (f a u)) (h : ChanKept c kept s t) :
    ChanKept c kept s (forEach l f t) := h.forEachMem fun a _ => each a

theorem setObAt (h : ChanKept c kept s t) {i a : Nat} (v : Nat) (fits : a < 256) (out : i = chanIdx c → ¬ kept a) :
    ChanKept c kept s (t.setOb i a v) :=
  h.trans ⟨fun _ listed => listed, fun b small on => State.ob_setOb_ne t fun same => by
    obtain ⟨rfl, rfl⟩ := objKey_inj small fits same
    exact out rfl on⟩

end

/-! ### The objects of the open path's units -/

section
variable {c : Nat} {s t : State}

theorem setOb {i a v : Nat} (h : ChanKept c trainingSub s t) (low : a ≠ 1 ∧ a < 0x40 := by decide) :
    ChanKept c trainingSub s (t.setOb i a v) :=
  h.setObAt v (by omega) fun _ => by unfold trainingSub; omega

theorem bump {i a : Nat} (h : ChanKept c trainingSub s t) (low : a ≠ 1 ∧ a < 0x40 := by decide) :
    ChanKept c trainingSub s (t.bump i a) := h.setOb low

theorem peak {i a v : Nat} (h : ChanKept c trainingSub s t) (low : a ≠ 1 ∧ a < 0x40 := by decide) :
    ChanKept c trainingSub s (t.peak i a v) := .ite (h.setOb low) h

theorem countIf {i j n : Nat} {x : Cause} (h : ChanKept c trainingSub s t) (low : 0x10 + j ≠ 1 ∧ 0x10 + j < 0x40 := by decide) :
    ChanKept c trainingSub s (countIf i j n x t) := .ite (.ite h (h.setOb low)) h

theorem syncDepth {d : Nat} (h : ChanKept c trainingSub s t) : ChanKept c trainingSub s (syncDepth d t) := h.setOb.setOb.peak.peak

/-! ### Requests: completed, forwarded, made -/

theorem modAsk {id : Nat} {f : Ask → Ask} (h : ChanKept c trainingSub s t) : ChanKept c trainingSub s (t.modAsk id f) :=
  h.framed (State.modAsk_fr (.refl _ _))
theorem setAsks {l : List Ask} (h : ChanKept c trainingSub s t) : ChanKept c trainingSub s (t.setAsks l) :=
  h.framed (State.setAsks_fr (.refl _ _))
theorem addAsk {a : Ask} (h : ChanKept c trainingSub s t) : ChanKept c trainingSub s (addAsk a t) := h.framed (addAsk_fr (.refl _ _))
theorem retire {id : Nat} (h : ChanKept c trainingSub s t) : ChanKept c trainingSub s (retire id t) := h.framed (retire_fr (.refl _ _))

theorem sampleEnd {kind id num status : Nat} (h : ChanKept c trainingSub s t) :
    ChanKept c trainingSub s (sampleEnd kind id num status t) := by
  have set {u : State} {x : Sampler} (k : ChanKept c trainingSub s u) : ChanKept c trainingSub s (u.setSampler x) :=
    k.framed (State.setSampler_fr (.refl _ _))
  have written {u : State} {b : Building} (k : ChanKept c trainingSub s u) : ChanKept c trainingSub s (writeSample b status u) :=
    .ite (set k.bump) (set (ChanKept.ite k.bump k).setOb.setOb)
  unfold Machine.sampleEnd
  split
  · exact h
  · exact written (set h)

theorem countDecision {a : Ask} {status : Nat} (h : ChanKept c trainingSub s t) : ChanKept c trainingSub s (countDecision a status t) :=
  .ite h (.ite h.countIf (.ite h.countIf (.ite h.countIf (.ite h.countIf h))))

theorem countAccess {status a : Nat} (h : ChanKept c trainingSub s t) : ChanKept c trainingSub s (countAccess status a t) :=
  .ite (h.setOb.reports (raiseAt_reports _ _ _ _ _)) (h.setOb.setOb.reports (raiseAt_reports _ _ _ _ _))

theorem finish {id status : Nat} {data : Option Nat} (h : ChanKept c trainingSub s t) : ChanKept c trainingSub s (finish id status data t) := by
  unfold Machine.finish
  split
  · exact h
  next a _ =>
    have decided : ChanKept c trainingSub s (sampleEffect id (Machine.countDecision a status
        (t.modAsk id fun a => { a with stage := .finished, result := some (status, data) }))) :=
      h.modAsk.countDecision.framed (sampleEffect_fr (.refl _ _))
    have sampled := ChanKept.ite (p := a.internal) (.ite (p := a.isDrain) decided (decided.sampleEnd (kind := 0) (id := id)
      (num := 0) (status := status))) decided
    refine .ite h ?_
    dsimp only
    split
    · have sent := sampled.framed (sendCompletion_fr (a := a) (status := status) (data := data) (.refl _ _))
      exact .ite sent sent.setAsks
    · exact sampled

theorem abandonReads {f : Purpose → Bool} (h : ChanKept c trainingSub s t) : ChanKept c trainingSub s (abandonReads f t) :=
  h.framed (abandonReads_fr (.refl _ _))

theorem reissue {n : Nat} (h : ChanKept c trainingSub s t) : ChanKept c trainingSub s (reissue n t) :=
  .forEach (fun _ u => (refl c _ u).framed (sendCompletion_fr (.refl _ _)))
    (.forEach (fun _ u => (refl c _ u).bump.framed (sendParcel_fr (.refl _ _))) (h.framed (State.setSet_fr (.refl _ _))))

theorem forwardAsk {a : Ask} (h : ChanKept c trainingSub s t) : ChanKept c trainingSub s (forwardAsk a t) := by
  unfold Machine.forwardAsk
  extract_lets dest again _ a
  have h : ChanKept c trainingSub s again := .ite h.reissue h
  refine .ite ?_ (.ite h.addAsk.finish (.ite h.addAsk.finish (.ite h.addAsk (h.addAsk.framed (sendParcel_fr (.refl _ _))))))
  refine ChanKept.finish (ChanKept.addAsk ?_)
  show ChanKept c trainingSub s (match a.op with | .sync .. => again | _ => Machine.countAccess St.unreachable a.addr again)
  split
  · exact h
  · exact h.countAccess

theorem offerInternal {code cls ctx a : Nat} {world : Bool} {op : Op} {why : Purpose} (h : ChanKept c trainingSub s t) :
    ChanKept c trainingSub s (offerInternal code cls ctx world a op why t) :=
  .ite h.forwardAsk (.ite h.countAccess.addAsk.finish (.ite h.addAsk.finish h.addAsk))

/-! ### Synchronisation objects, reductions and fences -/

theorem putSync {o v : Nat} (h : ChanKept c trainingSub s t) : ChanKept c trainingSub s (putSync o v t) := by
  have put : ChanKept c trainingSub t { t with syncs := Machine.put 0 o v t.syncs } := ⟨fun _ listed => listed, fun _ _ _ => rfl⟩
  have waits (u : State) (x : Cache) : ChanKept c trainingSub u { u with cache := x } := ⟨fun _ listed => listed, fun _ _ _ => rfl⟩
  exact .forEach (fun _ u => (refl c _ u).framed (tellWatcher_fr (.refl _ _)))
    (.forEach (fun _ u => (refl c _ u).finish) ((h.trans put).trans (waits _ _)))

theorem signalObject {unit obj addend ctx : Nat} {world broken : Bool} (h : ChanKept c trainingSub s t) :
    ChanKept c trainingSub s (signalObject unit obj addend ctx world broken t) :=
  .ite (.ite h (ChanKept.ite (h.reports (raiseNode_reports _ _ _)) h).putSync) h.forwardAsk

theorem dropLine {a : Nat} (h : ChanKept c trainingSub s t) : ChanKept c trainingSub s (dropLine a t) := by
  have way {u : State} {k : Nat} {w : Option CWay} (h : ChanKept c trainingSub s u) : ChanKept c trainingSub s (u.setWay k w) :=
    h.framed (State.setWay_fr (.refl _ _))
  have dropped : ChanKept c trainingSub s (match t.cached a with | some q => t.setWay q.1 none | none => t) := by
    split
    · exact way h
    · exact h
  refine ChanKept.setOb ?_
  split
  · exact way dropped
  · exact dropped

theorem breakRed {r : Red} (h : ChanKept c trainingSub s t) : ChanKept c trainingSub s (breakRed r t) := by
  have set : ChanKept c trainingSub s (t.setReds (t.cache.reds.filter fun q => q.addr != r.addr)) :=
    (h.framed (State.setCache_fr (.refl _ _))).setOb
  have ended : ChanKept c trainingSub s (Machine.forEach r.readers (fun id s => Machine.finish id St.poisoned none s)
      (Machine.forEach r.staged (fun c s => Machine.finish c.2.1 St.poisoned none s) (poisonWrite r.addr (Machine.dropLine r.addr
        (t.setReds (t.cache.reds.filter fun q => q.addr != r.addr)))))) :=
    .forEach (fun _ u => (refl c _ u).finish) (.forEach (fun _ u => (refl c _ u).finish) set.dropLine.offerInternal)
  have signalled : ChanKept c trainingSub s (redSignal r true _) := .ite ended.signalObject ended
  exact (signalled.framed (closeRecord_fr (.refl _ _))).bump.reports (raiseAt_reports _ _ _ _ _)

theorem fenceReds {ctx : Nat} (h : ChanKept c trainingSub s t) : ChanKept c trainingSub s (fenceReds ctx t) :=
  .forEach (fun _ u => (ChanKept.forEach (fun _ v => (refl c _ v).finish) (refl c _ u)).breakRed) h

theorem abortAsks {ctx : Nat} (h : ChanKept c trainingSub s t) : ChanKept c trainingSub s (abortAsks ctx t) :=
  .forEach (fun _ u => (refl c _ u).modAsk.finish.retire) (.abandonReads (.framed (.forEach
    (fun _ u => ((refl c _ u).framed (State.modChan_fr (.refl _ _))).syncDepth) h) (State.setCache_fr (.refl _ _))))

theorem fenceContext {cause ctx : Nat} (h : ChanKept c trainingSub s t) : ChanKept c trainingSub s (fenceContext cause ctx t) := by
  have stopped (u : State) (p : Procs) : ChanKept c trainingSub u { u with procs := p } := ⟨fun _ listed => listed, fun _ _ _ => rfl⟩
  have watched (u : State) (x : Cache) : ChanKept c trainingSub u { u with cache := x } := ⟨fun _ listed => listed, fun _ _ _ => rfl⟩
  have fenced : ChanKept c trainingSub s (t.setOb 0x2203 1 (setBit ctx true (t.ob 0x2203 1))) :=
    h.setObAt _ (by decide) fun same => absurd same (by unfold chanIdx; omega)
  refine .ite h (.ite ((h.framed (State.setFeeds_fr (.refl _ _))).trans (stopped _ _)) (.abortAsks (.fenceReds ?_)))
  refine ChanKept.trans (ChanKept.framed ?_ (State.setFeeds_fr (.refl _ _))) (watched _ _)
  exact .forEach (fun _ u => (refl c _ u).framed (dropEscapes_fr (.refl _ _))) (.forEach
    (fun _ u => .ite ((refl c _ u).framed (State.send_fr (.refl _ _))) (refl c _ u))
    (fenced.setOb.setOb.bump.reports (raiseCtx_reports _ _ _ _ _)))

theorem feedRefused {n num : Nat} (h : ChanKept c trainingSub s t) : ChanKept c trainingSub s (feedRefused n num t) := by
  unfold Machine.feedRefused
  split
  · exact h
  · exact h.fenceContext

theorem fenceStreams {cause : Nat} {want : Nat → Stream → Bool} (h : ChanKept c trainingSub s t) :
    ChanKept c trainingSub s (fenceStreams cause want t) := .forEach (fun _ u => (refl c _ u).fenceContext) h

end
end ChanKept

end Sys2Proof.Machine

/-!
PROOF. What training at a start leaves: the failure of a channel, the settings its layers take, and the end of training (R209, R303 to R306,
R311 to R316).
-/
namespace Sys2Proof.Machine

-- One proof after another, each on a stack of its own, for the check's memory.
set_option Elab.async false

section
variable {c : Nat} {kept : Nat → Prop} {s t : State}

/-! ### The failure of a channel (R209) -/

/-- Once its state shows that it has failed, the rest of a channel's failure leaves its state and its training objects. -/
theorem failChannel_kept_of_serving (serves : s.chanState c ≠ 2) : ChanKept c trainingSub (s.setChanState c 2) (failChannel c s) := by
  have raised : ChanKept c trainingSub (s.setChanState c 2) (raise Ev.channelFailed c 0 (s.setChanState c 2)) :=
    (ChanKept.refl _ _ _).reports (raise_reports _ _ _ _)
  unfold failChannel
  rw [if_neg serves]
  refine ChanKept.syncDepth (ChanKept.fenceStreams (.forEach (fun _ u => (ChanKept.refl _ _ u).modAsk.retire) (.forEach
    (fun _ u => (ChanKept.refl _ _ u).finish) (.forEach (fun _ u => (ChanKept.refl _ _ u).finish) (.forEach (fun r u => ?_)
      ((raised.framed (State.setChan_fr (.refl _ _))).framed (loseContent_fr (.refl _ _))))))))
  have same := ChanKept.refl c trainingSub u
  split
  · exact same.finish
  · exact same.feedRefused
  · exact same.framed (State.setPath_fr (.refl _ _))
  · exact same

theorem failChannel_kept (c : Nat) (s : State) : ChanKept c (0x40 ≤ ·) s (failChannel c s) := by
  by_cases failed : s.chanState c = 2
  · rw [failChannel, if_pos failed]
    exact .refl _ _ _
  · exact ((ChanKept.refl c _ s).setObAt 2 (by decide) fun _ => by decide).trans
      ((failChannel_kept_of_serving failed).mono fun _ => Or.inr)

theorem failChannel_chanState (inv : s.Inv) (c : Nat) : (failChannel c s).chanState c = 2 := by
  by_cases failed : s.chanState c = 2
  · rw [failChannel, if_pos failed, failed]
  · exact ((failChannel_kept_of_serving failed).objects 1 (by decide) (.inl rfl)).trans (State.ob_setOb_eq inv.objects _ _ _)

/-! ### The training of a channel, read back -/

theorem State.tr_congr (same : t.train = s.train) (c : Nat) : t.tr c = s.tr c := by rw [State.tr, same, State.tr]

/-- A store does not list what equals its default, so that what is put is read back where it does not. -/
theorem State.tr_modTr {f : Train → Train} (listed : f (s.tr c) ≠ .reset) : (s.modTr c f).tr c = f (s.tr c) := look_put_of_ne listed _ _

theorem Train.ne_reset_of_began {x : Train} (begun : x.began ≠ 0) : x ≠ .reset := fun same => begun (congrArg Train.began same)

/-- A training that has begun is listed, and a change that leaves its beginning is read back. -/
theorem State.tr_modTr_of_began {f : Train → Train} (begun : (s.tr c).began ≠ 0) (leaves : ∀ x : Train, (f x).began = x.began := by intro _; rfl) :
    (s.modTr c f).tr c = f (s.tr c) := State.tr_modTr (Train.ne_reset_of_began ((leaves _).trans_ne begun))

theorem ChanKept.modTr {f : Train → Train} {d : Nat} (h : ChanKept c kept s t) : ChanKept c kept s (t.modTr d f) :=
  h.framed (State.modTr_fr (.refl _ _))

/-! ### Mode registers, settings and events -/

theorem stackIdx_ne_chanIdx (c : Nat) : 0x3800 + stackOf c ≠ chanIdx c := by unfold stackOf chanIdx; omega

/-- A mode register write of a channel writes objects of its stack alone. -/
theorem layMrwb_kept (c a v : Nat) (s : State) : ChanKept c kept s (layMrwb c a v s) := by
  have set {u : State} {l : Nat} {x : LayerChan} : ChanKept c kept u (u.setLay c l x) := (ChanKept.refl _ _ _).framed (State.setLay_fr (.refl _ _))
  have written (l : Nat) (u : State) : ChanKept c kept u (layRegWrite c l a v u) := by
    refine .ite (.refl _ _ _) (.ite ?_ set)
    exact (set.framed (State.setDie_fr (.refl _ _))).setObAt v (by decide) fun same => absurd same (stackIdx_ne_chanIdx c)
  have marked (l : Nat) (u : State) : ChanKept c kept u (markAlert c l u) := set
  refine .ite (.forEach written (.refl _ _ _)) (.ite (.refl _ _ _) ?_)
  exact ((ChanKept.forEach marked (.refl _ _ _)).framed (State.setDch_fr (.refl _ _))).setObAt _ (by decide)
    fun same => absurd same (stackIdx_ne_chanIdx c)

theorem setLayers_kept (c : Nat) (s : State) : ChanKept c kept s (setLayers c s) := .forEach (fun _ u => layMrwb_kept c _ _ u) (.refl _ _ _)

theorem ChanKept.raise {code inst detail : Nat} (h : ChanKept c kept s t) : ChanKept c kept s (raise code inst detail t) :=
  h.reports (raise_reports _ _ _ _)

/-- A bad calibration is counted in 0x4000+c:47. -/
theorem calibrationBad_kept (c : Nat) (s : State) (other : ¬ kept 0x47) : ChanKept c kept s (calibrationBad c s) :=
  ((ChanKept.refl c kept s).setObAt _ (by decide) fun _ => other).raise

@[simp] theorem calibrationBad_train (c : Nat) (s : State) : (calibrationBad c s).train = s.train := raise_train _ _ _ _

theorem recordDue_kept (c : Nat) (s : State) : ChanKept c kept s (recordDue c s) where
  due d listed := by
    unfold recordDue
    split
    · exact listed
    · exact List.mem_append_left _ listed
  objects _ _ _ := rfl

theorem mem_recordDue (c : Nat) (s : State) : c ∈ (recordDue c s).nvm.trainDue := by
  unfold recordDue
  split
  · next listed => exact List.contains_iff_mem.mp listed
  · exact List.mem_append_right _ (List.mem_singleton_self c)

theorem State.ob_setOb_other {a b : Nat} (v : Nat) (other : b ≠ a) (fits : a < 256 := by decide) (small : b < 256 := by decide) :
    (s.setOb (chanIdx c) a v).ob (chanIdx c) b = s.ob (chanIdx c) b :=
  State.ob_setOb_ne s fun same => other (objKey_inj small fits same).2

/-- The lane delays and the CA settings a channel has taken. -/
theorem takeSettings_spec (inv : s.Inv) (group : Nat → Nat) (lanes ca : Nat) :
    (takeSettings c group lanes ca s).ob (chanIdx c) 0x62 = lanes ∧ (takeSettings c group lanes ca s).ob (chanIdx c) 0x63 = ca := by
  unfold takeSettings
  extract_lets i groups
  have canonical : Canonical objDefault groups.obj :=
    ((each_keeps (.refl s) fun _ _ => layerVref_keeps (State.setOb_keeps (.refl _))).inv inv).objects
  have kept := layMrwb_kept (kept := fun _ => True) c 0x12 (byteOf ca 13) ((groups.setOb i 0x62 lanes).setOb i 0x63 ca)
  exact ⟨(kept.objects 0x62 (by decide) trivial).trans ((State.ob_setOb_other ca (by decide)).trans (State.ob_setOb_eq canonical _ _ _)),
    (kept.objects 0x63 (by decide) trivial).trans (State.ob_setOb_eq (State.setOb_canonical canonical _ _ _) _ _ _)⟩

theorem takeSettings_train (c : Nat) (group : Nat → Nat) (lanes ca : Nat) (s : State) : (takeSettings c group lanes ca s).train = s.train :=
  (takeSettings_fr (μ := 576) (.refl _ _)).train (by decide)

/-- The groups without a working setting are marked in their words, 0x4000+c:50 to 61. -/
def markGroups (c mask : Nat) (s : State) : State := forEach (List.range 18) (fun g s =>
  s.setOb (chanIdx c) (0x50 + g) (s.ob (chanIdx c) (0x50 + g) % 2 ^ 40 + b2n (mask.testBit g) * 2 ^ 40)) s

theorem markGroups_kept (c mask : Nat) (s : State) : ChanKept c (fun a => a < 0x50 ∨ 0x62 ≤ a) s (markGroups c mask s) := by
  refine .forEachMem (fun g mem u => ?_) (.refl _ _ _)
  have group : g < 18 := List.mem_range.mp mem
  exact (ChanKept.refl _ _ _).setObAt _ (by omega) fun _ => by omega

theorem markGroups_keeps (c mask : Nat) (s : State) : Keeps s (markGroups c mask s) := each_keeps (.refl s) fun _ _ => State.setOb_keeps (.refl _)

theorem markGroups_train (c mask : Nat) (s : State) : (markGroups c mask s).train = s.train :=
  (forEach_fr (w := 64) (.refl _ s) fun _ _ => State.setOb_fr (.refl _ _)).train (by decide)

/-- The spare group's assignment and the bad groups, as the objects show them. -/
def spareNoted (c mask : Nat) (spare : Option Nat) (s : State) : State :=
  (s.setOb (chanIdx c) 0x43 mask).setOb (chanIdx c) 0x42 (spare.getD 0xFF)

/-- A channel whose assignment of the spare group and whose bad groups are noted, before its width is (R311, R312). -/
def spareTaken (c mask width : Nat) (spare : Option Nat) (s : State) : State :=
  (markGroups c mask (spareNoted c mask spare s)).modTr c
    fun t => { t with width := width, offline := none }

/-- With its width shown, a fallback writes mode registers and raises events, and no more. -/
theorem takeFallback_kept (mask width : Nat) (spare : Option Nat) (s : State) : ChanKept c kept
    ((spareTaken c mask width spare s).setOb (chanIdx c) 3 (if width = 0 then 0 else 1)) (takeFallback c mask width spare s) := by
  unfold takeFallback
  extract_lets i old new wasHalf noted marked taken shown used
  have layers : ChanKept c kept (taken.setOb i 3 (if width = 0 then 0 else 1)) shown := setLayers_kept c _
  have raised : ChanKept c kept (taken.setOb i 3 (if width = 0 then 0 else 1)) used := .ite layers.raise layers
  exact .ite raised.raise raised

theorem spareTaken_kept (mask width : Nat) (spare : Option Nat) (s : State) :
    ChanKept c (fun a => a < 0x50 ∨ 0x62 ≤ a) (spareNoted c mask spare s) (spareTaken c mask width spare s) := (markGroups_kept c mask _).modTr

theorem spareNoted_keeps (c mask : Nat) (spare : Option Nat) (s : State) : Keeps s (spareNoted c mask spare s) :=
  State.setOb_keeps (State.setOb_keeps (.refl s))

theorem spareTaken_keeps (mask width : Nat) (spare : Option Nat) (s : State) : Keeps s (spareTaken c mask width spare s) :=
  State.modTr_keeps ((spareNoted_keeps c mask spare s).trans (markGroups_keeps c mask _))

section
variable (inv : s.Inv) (mask width : Nat) (spare : Option Nat)
include inv

theorem spareNoted_mask : (spareNoted c mask spare s).ob (chanIdx c) 0x43 = mask :=
  (State.ob_setOb_other _ (by decide)).trans (State.ob_setOb_eq inv.objects _ _ _)

theorem spareNoted_spare : (spareNoted c mask spare s).ob (chanIdx c) 0x42 = spare.getD 0xFF :=
  State.ob_setOb_eq (State.setOb_canonical inv.objects _ _ _) _ _ _

end

/-- A fallback leaves what was noted of the spare group. -/
theorem takeFallback_ob_of_noted (mask width : Nat) (spare : Option Nat) (s : State) {a : Nat} (other : a ≠ 3) (fits : a < 256)
    (apart : a < 0x50 ∨ 0x62 ≤ a) : (takeFallback c mask width spare s).ob (chanIdx c) a = (spareNoted c mask spare s).ob (chanIdx c) a :=
  ((takeFallback_kept (kept := fun _ => True) mask width spare s).objects a fits trivial).trans
    ((State.ob_setOb_other _ other (by decide) fits).trans ((spareTaken_kept mask width spare s).objects a fits apart))

theorem takeFallback_half (inv : s.Inv) (mask width : Nat) (spare : Option Nat) :
    (takeFallback c mask width spare s).ob (chanIdx c) 3 = if width = 0 then 0 else 1 :=
  ((takeFallback_kept (kept := fun _ => True) mask width spare s).objects 3 (by decide) trivial).trans
    (State.ob_setOb_eq ((spareTaken_keeps mask width spare s).inv inv).objects _ _ _)

theorem takeFallback_settings (mask width : Nat) (spare : Option Nat) (s : State) : ChanKept c (0x62 ≤ ·) s (takeFallback c mask width spare s) := by
  have noted : ChanKept c (0x62 ≤ ·) s (spareNoted c mask spare s) :=
    ((ChanKept.refl c _ s).setObAt mask (by decide) fun _ => by decide).setObAt _ (by decide) fun _ => by decide
  exact ((noted.trans ((spareTaken_kept mask width spare s).mono fun _ => Or.inr)).setObAt _ (by decide) fun _ => by decide).trans
    (takeFallback_kept mask width spare s)

theorem spareTaken_began (begun : (s.tr c).began ≠ 0) (mask width : Nat) (spare : Option Nat) :
    ((spareTaken c mask width spare s).tr c).began = (s.tr c).began := by
  have words : (markGroups c mask (spareNoted c mask spare s)).train = s.train := markGroups_train _ _ _
  have same := State.tr_congr words c
  rw [spareTaken, State.tr_modTr_of_began (by rwa [same]), same]

theorem takeFallback_train (mask width : Nat) (spare : Option Nat) (s : State) :
    (takeFallback c mask width spare s).train = (spareTaken c mask width spare s).train := by
  unfold takeFallback
  extract_lets i old new wasHalf noted marked taken shown used
  have layers : shown.train = taken.train :=
    ((setLayers_fr (μ := 576) (.refl _ (taken.setOb i 3 (if width = 0 then 0 else 1)))).train (by decide)).trans (State.setOb_train _ _ _ _)
  have raised : used.train = taken.train := by simp only [used]; split <;> simp [layers]
  have final : taken = spareTaken c mask width spare s := rfl
  rw [← final, ← raised]
  split
  · exact raise_train _ _ _ _
  · rfl

/-- A fallback leaves when training began. -/
theorem takeFallback_began (begun : (s.tr c).began ≠ 0) (mask width : Nat) (spare : Option Nat) :
    ((takeFallback c mask width spare s).tr c).began = (s.tr c).began := by
  rw [State.tr_congr (takeFallback_train mask width spare s), spareTaken_began begun]

/-! ### The end of training (R304, R313) -/

theorem beginTraining_kept {d : Nat} (full : Bool) (s : State) (out : chanIdx d = chanIdx c → ¬ kept 0x40) :
    ChanKept c kept s (beginTraining d full s) := by
  unfold beginTraining
  exact ((ChanKept.refl c kept s).setObAt _ (by decide) out).modTr

theorem nextStack_kept (turn : (s.tr c).timeouts ≠ waitingTurn) : ChanKept c kept s (nextStack s) := by
  unfold nextStack
  split
  · exact .refl _ _ _
  · dsimp only
    split
    · refine .forEachMem (fun d waits u => ?_) (.refl _ _ _)
      have other : chanIdx d ≠ chanIdx c := by
        intro same
        obtain rfl : d = c := by unfold chanIdx at same; omega
        exact turn (by simpa using (List.mem_filter.mp waits).2)
      exact (ChanKept.refl c kept u).modTr.trans (beginTraining_kept true _ fun same => absurd same other)
    · exact .refl _ _ _

/-- Training that ends in service shows it, and how it came about. -/
theorem trained_kept (begun : (s.tr c).began ≠ 0) (source : Nat) : ∃ us, ChanKept c (fun a => a ≠ 1 ∧ a ≠ 5)
    (((s.setOb (chanIdx c) 0x40 3).setOb (chanIdx c) 0x41 source).setOb (chanIdx c) 0x48 us) (trained c source s) := by
  refine ⟨(s.now - (s.tr c).began) / (1000 * nsT) % 2 ^ 32, ?_⟩
  unfold trained
  extract_lets i t us shown placed temp ended fresh
  have placed_kept : ChanKept c (fun a => a ≠ 1 ∧ a ≠ 5) shown placed :=
    .ite ((ChanKept.refl _ _ _).setObAt 3 (by decide) fun _ => by decide) (.refl _ _ _)
  have placed_train : placed.train = s.train := by simp only [placed]; split <;> rfl
  have fresh_kept : ChanKept c (fun a => a ≠ 1 ∧ a ≠ 5) shown fresh := by
    refine .ite placed_kept.modTr ?_
    exact (placed_kept.modTr.framed (State.modChan_fr (.refl _ _))).setObAt _ (by decide) fun _ => by decide
  have fresh_train : fresh.train = ended.train := by simp only [fresh]; split <;> rfl
  refine fresh_kept.raise.trans (nextStack_kept ?_)
  rw [State.tr_congr (raise_train _ _ _ _), State.tr_congr fresh_train, State.tr_modTr_of_began (by rwa [State.tr_congr placed_train])]
  exact (by decide : 0 ≠ waitingTurn)

theorem trained_spec (inv : s.Inv) (begun : (s.tr c).began ≠ 0) (source : Nat) :
    ChanKept c (fun a => a ∉ [1, 5, 0x40, 0x41, 0x48]) s (trained c source s) ∧
    (trained c source s).ob (chanIdx c) 0x40 = 3 ∧ (trained c source s).ob (chanIdx c) 0x41 = source := by
  obtain ⟨us, kept⟩ := trained_kept begun source
  have shown : Canonical objDefault (s.setOb (chanIdx c) 0x40 3).obj := State.setOb_canonical inv.objects _ _ _
  refine ⟨ChanKept.trans ?_ (kept.mono fun a out => by simp at out; tauto), ?_, ?_⟩
  · have self := ChanKept.refl c (fun a => a ∉ [1, 5, 0x40, 0x41, 0x48]) s
    exact ((self.setObAt 3 (by decide) fun _ => by decide).setObAt source (by decide) fun _ => by decide).setObAt us (by decide)
      fun _ => by decide
  · rw [kept.objects 0x40 (by decide) (by decide), State.ob_setOb_other _ (by decide), State.ob_setOb_other _ (by decide),
      State.ob_setOb_eq inv.objects]
  · rw [kept.objects 0x41 (by decide) (by decide), State.ob_setOb_other _ (by decide), State.ob_setOb_eq shown]

theorem untrainable_kept (begun : (s.tr c).began ≠ 0) : ChanKept c trainingSub (failChannel c ((s.setOb (chanIdx c) 0x40 4).modTr c
    fun t => { t with asked := false, timeouts := 0 })) (untrainable c s) := by
  refine nextStack_kept ?_
  rw [State.tr_congr ((failChannel_fr (μ := 70144984) (.refl _ _)).train (by decide)), State.tr_modTr_of_began (s := s.setOb (chanIdx c) 0x40 4) begun]
  exact (by decide : 0 ≠ waitingTurn)

theorem untrainable_spec (inv : s.Inv) (begun : (s.tr c).began ≠ 0) :
    (untrainable c s).ob (chanIdx c) 0x40 = 4 ∧ (untrainable c s).chanState c = 2 := by
  have left := untrainable_kept begun
  refine ⟨?_, ?_⟩
  · exact (left.objects _ (by decide) (.inr le_rfl)).trans (((failChannel_kept c _).objects _ (by decide) le_rfl).trans
      (State.ob_setOb_eq inv.objects _ _ _))
  · refine (left.objects _ (by decide) (.inl rfl)).trans (failChannel_chanState ?_ c)
    exact (State.modTr_keeps ((State.setOb_keeps (Keeps.refl s)))).inv inv

theorem mem_lostFor (begun : (s.tr c).began ≠ 0) (mask : Nat) : c ∈ (lostFor c mask s).nvm.trainDue := by
  refine (untrainable_kept (s := recordDue c (s.setOb (chanIdx c) 0x43 mask)) begun).due c ?_
  exact (failChannel_kept c _).due c (mem_recordDue c _)

end
end Sys2Proof.Machine

/-!
PROOF. Training of a channel at a start and on request, and the settling of O52 (R303 to R306, R310, R311, R313, R314).
-/
namespace Sys2Proof.Machine

-- One proof after another, each on a stack of its own, for the check's memory.
set_option Elab.async false

section
variable {c : Nat} {s : State}

theorem State.Inv.channels_le (inv : s.Inv) : s.channels ≤ 288 := by
  have few : s.cfg.nstacks ≤ 4 := inv.stackCount.2
  unfold State.channels
  omega

/-! ### Full training that ends (R304, R306, R311, R313) -/

section
variable {words : List Nat} {lanes ca bad : Nat} {caOk : Bool}

theorem recordDue_train (c : Nat) (s : State) : (recordDue c s).train = s.train := rfl

theorem exec_fullTrainingDone (held : c < s.channels) :
    exec (.fullTrainingDone c words lanes ca bad caOk) s = .next (serveAll (fullDone c words lanes ca bad caOk s)) := if_pos (by simp [held])

/-- The groups without a working setting: those found so, those that failed stage 8, and those a step timeout has cost. -/
def State.badGroups (s : State) (c bad : Nat) : Nat := (bad ||| bad / 2 ^ 18 ||| (s.tr c).lost) % 2 ^ 18

/-- Each group that failed stage 8 is a bad calibration. -/
def noteBadGroups (c bad : Nat) (s : State) : State :=
  forEach ((List.range 18).filter fun g => (bad / 2 ^ 18).testBit g) (fun _ => calibrationBad c) s

theorem noteBadGroups_train (c bad : Nat) (s : State) : (noteBadGroups c bad s).train = s.train :=
  (forEach_fr (w := 20696) (.refl _ s) fun _ _ => calibrationBad_fr (.refl _ _)).train (by decide)

theorem noteBadGroups_keeps (c bad : Nat) (s : State) : Keeps s (noteBadGroups c bad s) := each_keeps (.refl s) fun _ _ => calibrationBad_keeps (.refl _)

/-- The settings a full training has found, as the channel and its layers take them. -/
def takeFound (c : Nat) (words : List Nat) (lanes ca bad : Nat) (s : State) : State :=
  let u := noteBadGroups c bad s
  takeSettings c (fun g => clampGroup (words.getD g (u.ob (chanIdx c) (0x50 + g)))) (clampLanes lanes) (clampCa ca) u

theorem takeFound_keeps (c : Nat) (words : List Nat) (lanes ca bad : Nat) (s : State) : Keeps s (takeFound c words lanes ca bad s) :=
  takeSettings_keeps (noteBadGroups_keeps c bad s)

theorem takeFound_train (c : Nat) (words : List Nat) (lanes ca bad : Nat) (s : State) : (takeFound c words lanes ca bad s).train = s.train :=
  (takeSettings_train _ _ _ _ _).trans (noteBadGroups_train c bad s)

theorem takeFound_settings (inv : s.Inv) : (takeFound c words lanes ca bad s).ob (chanIdx c) 0x62 = clampLanes lanes ∧
    (takeFound c words lanes ca bad s).ob (chanIdx c) 0x63 = clampCa ca :=
  takeSettings_spec ((noteBadGroups_keeps c bad s).inv inv) _ _ _

theorem fullDone_of_other (other : s.ob (chanIdx c) 0x40 ≠ 2) : fullDone c words lanes ca bad caOk s = s := if_pos (by simp [other])

theorem fullDone_of_late (late : s.elapsed (s.tr c).began (500 * msT) = true) : fullDone c words lanes ca bad caOk s = s :=
  if_pos (by simp [late])

section
variable (trains : s.ob (chanIdx c) 0x40 = 2) (early : s.elapsed (s.tr c).began (500 * msT) = false)
include trains early

theorem fullDone_of_early : fullDone c words lanes ca bad caOk s =
    if !caOk then lostFor c (s.badGroups c bad) (noteBadGroups c bad s)
    else match fallback (s.badGroups c bad) with
      | none => lostFor c (s.badGroups c bad) (noteBadGroups c bad s)
      | some (width, spare) => trained c 2 (recordDue c (takeFallback c (s.badGroups c bad) width spare (takeFound c words lanes ca bad s))) :=
  if_neg (by simp [trains, early])

theorem fullDone_of_ca_lost : fullDone c words lanes ca bad false s = lostFor c (s.badGroups c bad) (noteBadGroups c bad s) :=
  (fullDone_of_early trains early).trans (if_pos rfl)

theorem fullDone_of_none (lost : fallback (s.badGroups c bad) = none) :
    fullDone c words lanes ca bad true s = lostFor c (s.badGroups c bad) (noteBadGroups c bad s) := by
  rw [fullDone_of_early trains early, lost]
  rfl

/-- Settings that are found stand in the channel's objects, and its record is due. -/
theorem fullDone_spec (inv : s.Inv) (begun : (s.tr c).began ≠ 0) {width : Nat} {spare : Option Nat}
    (found : fallback (s.badGroups c bad) = some (width, spare)) : ∃ t, fullDone c words lanes ca bad true s = t ∧
      t.ob (chanIdx c) 0x40 = 3 ∧ t.ob (chanIdx c) 0x41 = 2 ∧ t.ob (chanIdx c) 0x43 = s.badGroups c bad ∧
      t.ob (chanIdx c) 0x42 = spare.getD 0xFF ∧ t.ob (chanIdx c) 3 = (if width = 0 then 0 else 1) ∧
      t.ob (chanIdx c) 0x62 = clampLanes lanes ∧ t.ob (chanIdx c) 0x63 = clampCa ca ∧ c ∈ t.nvm.trainDue := by
  have settled : (takeFound c words lanes ca bad s).Inv := (takeFound_keeps c words lanes ca bad s).inv inv
  have since : ((takeFound c words lanes ca bad s).tr c).began ≠ 0 := by rwa [State.tr_congr (takeFound_train c words lanes ca bad s)]
  have fallen : ((takeFallback c (s.badGroups c bad) width spare (takeFound c words lanes ca bad s)).tr c).began ≠ 0 := by
    rwa [takeFallback_began since]
  obtain ⟨lanesTaken, caTaken⟩ := takeFound_settings (words := words) (lanes := lanes) (ca := ca) (bad := bad) (c := c) inv
  have left := takeFallback_settings (c := c) (s.badGroups c bad) width spare (takeFound c words lanes ca bad s)
  obtain ⟨kept, done, full⟩ := trained_spec
    (s := recordDue c (takeFallback c (s.badGroups c bad) width spare (takeFound c words lanes ca bad s)))
    ((recordDue_keeps (takeFallback_keeps (.refl _))).inv settled) (by rwa [State.tr_congr (recordDue_train c _)]) 2
  refine ⟨_, by rw [fullDone_of_early trains early, found]; rfl, done, full, ?_, ?_, ?_, ?_, ?_, kept.due c (mem_recordDue c _)⟩
  · exact (kept.objects 0x43 (by decide) (by decide)).trans ((takeFallback_ob_of_noted _ _ _ _ (by decide) (by decide) (by decide)).trans
      (spareNoted_mask settled _ _))
  · exact (kept.objects 0x42 (by decide) (by decide)).trans ((takeFallback_ob_of_noted _ _ _ _ (by decide) (by decide) (by decide)).trans
      (spareNoted_spare settled _ _))
  · exact (kept.objects 3 (by decide) (by decide)).trans (takeFallback_half settled _ _ _)
  · exact (kept.objects 0x62 (by decide) (by decide)).trans ((left.objects 0x62 (by decide) (by decide)).trans lanesTaken)
  · exact (kept.objects 0x63 (by decide) (by decide)).trans ((left.objects 0x63 (by decide) (by decide)).trans caTaken)

end
end

/-! ### Training that times out (R304) -/

theorem exec_trainingTimeout (held : c < s.channels) : exec (.trainingTimeout c) s = .next (serveAll (trainingTimeout c s)) :=
  if_pos (by simp [held])

theorem trainingTimeout_of_idle (idle : s.ob (chanIdx c) 0x40 ≠ 2 ∨ s.elapsed (s.tr c).began (500 * msT) = false) : trainingTimeout c s = s :=
  if_pos (by simpa using idle)

/-- A first timeout begins the training anew, a second one ends it. -/
theorem trainingTimeout_of_late (trains : s.ob (chanIdx c) 0x40 = 2) (late : s.elapsed (s.tr c).began (500 * msT) = true) :
    trainingTimeout c s = if (s.tr c).timeouts = 0 then beginTraining c true ((calibrationBad c s).modTr c fun t => { t with timeouts := 1 })
      else untrainable c (calibrationBad c s) := by
  have same : (calibrationBad c s).tr c = s.tr c := State.tr_congr (calibrationBad_train c s) c
  unfold trainingTimeout
  rw [if_neg (by simp [trains, late])]
  dsimp only
  rw [same]

/-! ### Restored training (R303, R305, R310) -/

theorem exec_restoredTrainingDone (held : c < s.channels) (ok : Bool) :
    exec (.restoredTrainingDone c ok) s = .next (serveAll (restoreDone c ok s)) := if_pos (by simp [held])

theorem restoreDone_of_other (other : s.ob (chanIdx c) 0x40 ≠ 1) (ok : Bool) : restoreDone c ok s = s := if_pos (by simp [other])

theorem restoreDone_eq (restores : s.ob (chanIdx c) 0x40 = 1) (ok : Bool) : restoreDone c ok s =
    if !recordValid c (s.record c) s || !ok then rejectRestore c s else trained c 1 (applyRecord c (s.record c) s) :=
  if_neg (by simp [restores])

/-! ### Full training and its turn (R304) -/

/-- While no other stack trains in full, the training begins. -/
theorem wantFull_of_free (free : ∀ st, st < s.cfg.nstacks → st ≠ stackOf c → s.trainingFull st = false) :
    wantFull c s = beginTraining c true (s.modTr c fun t => { t with timeouts := 0 }) := by
  have idle : ((List.range s.cfg.nstacks).any fun st => st != stackOf c && s.trainingFull st) = false := by simpa using free
  unfold wantFull
  rw [idle]
  rfl

/-- While another stack trains in full, the channel waits for its stack's turn. -/
theorem wantFull_of_busy {st : Nat} (stack : st < s.cfg.nstacks) (other : st ≠ stackOf c) (trains : s.trainingFull st = true) :
    wantFull c s = (s.modTr c fun t => { t with timeouts := waitingTurn }).setOb (chanIdx c) 0x40 0 := by
  have busy : ((List.range s.cfg.nstacks).any fun st => st != stackOf c && s.trainingFull st) = true := by
    simpa using ⟨st, stack, other, trains⟩
  unfold wantFull
  rw [busy]
  rfl

theorem beginTraining_full_ob (canonical : Canonical objDefault s.obj) : (beginTraining c true s).ob (chanIdx c) 0x40 = 2 :=
  State.ob_setOb_eq canonical _ _ _

/-! ### Steps that are not confirmed (R310, R314) -/

theorem exec_stepTimeout (held : c < s.channels) (g : Nat) : exec (.stepTimeout c g) s = .next (serveAll (stepTimeout c g s)) :=
  if_pos (by simp [held])

theorem stepTimeout_of_early (early : s.elapsed (s.tr c).stepAt (50 * usTicks) = false) (g : Nat) : stepTimeout c g s = s :=
  if_pos (by rw [show stepLimit = 50 * usTicks from rfl, early]; rfl)

/-- The settings of a round's group as they stood before, and the mode register that follows them; its steps are dropped. -/
def stepsUndone (c h : Nat) (s : State) : State :=
  let u := calibrationBad c (forEach (s.tr c).before (fun p s => s.setOb (chanIdx c) p.1 p.2) s)
  (layerVref c h (u.setting c 4 h) u).modTr c fun t => { t with steps := [] }

section
variable (late : s.elapsed (s.tr c).stepAt (50 * usTicks) = true)
include late

theorem stepTimeout_of_late (g : Nat) : stepTimeout c g s =
    if s.ob (chanIdx c) 0x40 = 1 then rejectRestore c s
    else if s.ob (chanIdx c) 0x40 = 2 then
      if 18 ≤ g then lostFor c (s.ob (chanIdx c) 0x43) (calibrationBad c s)
      else calibrationBad c (s.modTr c fun t => { t with lost := t.lost ||| 2 ^ g, stepAt := s.now })
    else if (s.tr c).steps.isEmpty || !s.stewardUp then s
    else match (s.tr c).groups with
      | h :: _ => nextGroup c (groupBad c h (stepsUndone c h s))
      | [] => (calibrationBad c (forEach (s.tr c).before (fun p s => s.setOb (chanIdx c) p.1 p.2) s)).modTr c fun t => { t with steps := [] } :=
  if_neg (by rw [show stepLimit = 50 * usTicks from rfl, late]; decide)

end

/-- The words of a group and the lane delays go back to what they were. -/
theorem stepsUndone_ob (inv : s.Inv) {h g v w : Nat} (group : g < 18) (before : (s.tr c).before = [(0x50 + g, v), (0x62, w)]) :
    (stepsUndone c h s).ob (chanIdx c) (0x50 + g) = v ∧ (stepsUndone c h s).ob (chanIdx c) 0x62 = w := by
  have kept : ChanKept c (0x50 ≤ ·) ((s.setOb (chanIdx c) (0x50 + g) v).setOb (chanIdx c) 0x62 w) (stepsUndone c h s) := by
    unfold stepsUndone
    rw [before]
    exact ((calibrationBad_kept c _ (by decide)).trans (layMrwb_kept c _ _ _)).modTr
  refine ⟨?_, ?_⟩
  · rw [kept.objects _ (by omega) (Nat.le_add_right _ _), State.ob_setOb_other _ (by omega) (by decide) (by omega), State.ob_setOb_eq inv.objects]
  · rw [kept.objects _ (by decide) (by decide), State.ob_setOb_eq (State.setOb_canonical inv.objects _ _ _)]

/-! ### A new training on request (R205, R304, R313) -/

section
variable {r : Req}

theorem exec_retrainRequest (few : c < 288) (r : Req) :
    exec (.retrainRequest r c) s = .next (dictWrite r (chanIdx c) 0x4C [1] (retrainHome c) s) := by
  have written : exec (.retrainRequest r c) s = .next (dictWrite r (chanIdx (c % 4096)) 0x4C [1] (retrainHome (c % 4096)) s) := rfl
  rw [written, Nat.mod_eq_of_lt (by omega)]

theorem retrainHome_of_other {who : Completer} (other : s.chanState c ≠ 2) : retrainHome c who s = .denied s := if_pos (by simp [other])

/-- A channel whose new training has been asked for, and has not begun. -/
def askTraining (c : Nat) (s : State) : State := (s.modTr c fun t => { t with asked := true, timeouts := 0 }).setOb (chanIdx c) 0x40 0

theorem retrainHome_of_failed {who : Completer} (failed : s.chanState c = 2) : retrainHome c who s =
    .done (if (s.dch c).selfRef.isSome then askTraining c s else wantFull c (askTraining c s)) := if_neg (by simp [failed])

theorem askTraining_tr : (askTraining c s).tr c = { s.tr c with asked := true, timeouts := 0 } :=
  State.tr_modTr (s := s) (f := fun t => { t with asked := true, timeouts := 0 }) fun same => Bool.noConfusion (congrArg Train.asked same)

theorem askTraining_ob_of_apart {i : Nat} (apart : i ≠ chanIdx c) {a : Nat} (fits : a < 256) : (askTraining c s).ob i a = s.ob i a :=
  State.ob_setOb_ne (s.modTr c _) fun same => apart (objKey_inj fits (by decide) same).1

/-- The channels of other stacks train as they did. -/
theorem askTraining_trainingFull {st : Nat} (other : st ≠ stackOf c) (free : s.trainingFull st = false) :
    (askTraining c s).trainingFull st = false := by
  simp only [State.trainingFull, List.any_eq_false, List.mem_range] at free ⊢
  intro i small
  have apart : chanIdx (72 * st + i) ≠ chanIdx c := by unfold chanIdx stackOf at *; omega
  rw [askTraining_ob_of_apart apart (by decide)]
  exact free i small

theorem askTraining_canonical (canonical : Canonical objDefault s.obj) : Canonical objDefault (askTraining c s).obj :=
  State.setOb_canonical (s := s.modTr c _) canonical _ _ _

theorem askTraining_chanState : (askTraining c s).chanState c = s.chanState c := State.ob_setOb_other (s := s.modTr c _) 0 (by decide)

/-- A training asked for that begins at once. -/
theorem wantFull_askTraining_spec (canonical : Canonical objDefault s.obj)
    (free : ∀ st, st < s.cfg.nstacks → st ≠ stackOf c → s.trainingFull st = false) :
    (wantFull c (askTraining c s)).ob (chanIdx c) 0x40 = 2 ∧ ((wantFull c (askTraining c s)).tr c).asked = true ∧
      ((wantFull c (askTraining c s)).tr c).began = s.now ∧ (wantFull c (askTraining c s)).chanState c = s.chanState c := by
  have asked : ((askTraining c s).tr c).asked = true := by rw [askTraining_tr]
  have listed {x : Train} (asked : x.asked = true) : x ≠ .reset := fun same => Bool.noConfusion (asked.symm.trans (congrArg Train.asked same))
  have turn := State.tr_modTr (s := askTraining c s) (c := c) (f := fun t => { t with timeouts := 0 }) (listed asked)
  have tr : (beginTraining c true ((askTraining c s).modTr c fun t => { t with timeouts := 0 })).tr c = _ :=
    State.tr_modTr (listed ((congrArg Train.asked turn).trans asked))
  rw [wantFull_of_free fun st stack other => askTraining_trainingFull other (free st stack other)]
  refine ⟨beginTraining_full_ob (askTraining_canonical canonical), ?_, ?_, ?_⟩
  · rw [tr]
    exact (congrArg Train.asked turn).trans asked
  · rw [tr]
    rfl
  · exact (State.ob_setOb_other (s := (askTraining c s).modTr c _) 2 (by decide)).trans askTraining_chanState

/-- An answer leaves a channel's objects and its training. -/
theorem answer_ob_chanIdx (r : Req) (status detail : Nat) (s : State) {a : Nat} (fits : a < 256) :
    (answer r status detail s).ob (chanIdx c) a = s.ob (chanIdx c) a :=
  (answer_reports r status detail s).objects _ _ fits (logObject_chanIdx c)

section
variable (few : c < 288) (applies : s.applies r (chanIdx c) 0x4C [1] = true)
include few applies

theorem exec_retrainRequest_of_other (other : s.chanState c ≠ 2) :
    exec (.retrainRequest r c) s = .next (answer r St.denied 9 (s.begun r)) := by
  have state : (s.begun r).chanState c ≠ 2 := (begun_ob r s _ 1 (logObject_chanIdx c)).trans_ne other
  rw [exec_retrainRequest few, dictWrite_applies applies, retrainHome_of_other state]
  rfl

section
variable (failed : s.chanState c = 2)
include failed

theorem exec_retrainRequest_of_failed : exec (.retrainRequest r c) s = .next (answer r St.ok 0
    (if (s.dch c).selfRef.isSome then askTraining c (s.begun r) else wantFull c (askTraining c (s.begun r)))) := by
  have dram : (s.begun r).dram = s.dram := countFrame_dram s r
  have layers : (s.begun r).dch c = s.dch c := by rw [State.dch, dram, State.dch]
  rw [exec_retrainRequest few, dictWrite_done applies (retrainHome_of_failed ((begun_ob r s _ 1 (logObject_chanIdx c)).trans failed)), layers]

theorem gives_retrainRequest_of_free (inv : s.Inv) (awake : (s.dch c).selfRef = none)
    (free : ∀ st, st < s.cfg.nstacks → st ≠ stackOf c → s.trainingFull st = false) :
    Gives (.retrainRequest r c) s fun t => t.ob (chanIdx c) 0x40 = 2 ∧ (t.tr c).asked = true ∧ (t.tr c).began = s.now ∧ t.chanState c = 2 := by
  have begunFree : ∀ st, st < (s.begun r).cfg.nstacks → st ≠ stackOf c → (s.begun r).trainingFull st = false := by
    intro st stack other
    rw [begun_cfg] at stack
    have idle := free st stack other
    simp only [State.trainingFull, List.any_eq_false, List.mem_range] at idle ⊢
    intro i small
    rw [begun_ob r s _ 0x40 (logObject_chanIdx _)]
    exact idle i small
  obtain ⟨code, asked, began, state⟩ := wantFull_askTraining_spec (begun_canonical (r := r) inv.objects) begunFree
  have answered := State.tr_congr (answer_train (wantFull c (askTraining c (s.begun r))) r St.ok 0) c
  refine ⟨_, exec_retrainRequest_of_failed few applies failed, ?_⟩
  rw [if_neg (by simp [awake])]
  refine ⟨(answer_ob_chanIdx r _ _ _ (by decide)).trans code, ?_, ?_, ?_⟩
  · rw [answered, asked]
  · rw [answered, began]
    exact countFrame_now s r
  · exact (answer_ob_chanIdx r _ _ _ (by decide)).trans (state.trans ((begun_ob r s _ 1 (logObject_chanIdx c)).trans failed))

theorem gives_retrainRequest_of_asleep (inv : s.Inv) (asleep : (s.dch c).selfRef.isSome = true) :
    Gives (.retrainRequest r c) s fun t => t.ob (chanIdx c) 0x40 = 0 ∧ (t.tr c).asked = true ∧ t.chanState c = 2 := by
  refine ⟨_, exec_retrainRequest_of_failed few applies failed, ?_⟩
  rw [if_pos asleep]
  refine ⟨(answer_ob_chanIdx r _ _ _ (by decide)).trans ?_, ?_, (answer_ob_chanIdx r _ _ _ (by decide)).trans ?_⟩
  · exact State.ob_setOb_eq (s := (s.begun r).modTr c _) (begun_canonical inv.objects) _ _ _
  · rw [State.tr_congr (answer_train _ _ _ _), askTraining_tr]
  · exact askTraining_chanState.trans ((begun_ob r s _ 1 (logObject_chanIdx c)).trans failed)

end
end
end
end

/-- Settles O52: how a training ends, times out, gives way or begins, one lemma for each branch. -/
theorem trainingAtStart : Obligations.TrainingAtStart := by
  unfold Obligations.TrainingAtStart
  intro s c words lanes ca bad r inv held
  have few : c < 288 := held.trans_le inv.channels_le
  refine ⟨?training, ?noFullTraining, ?fallbacks, ?restoring, ?noRestoring, ?free, ?busy, ?late, ?early, ?request⟩
  case training =>
    refine fun trains begun => ⟨?_, ?_, ?_⟩
    · rintro early mask u rfl rfl
      refine ⟨fun width spare found => ?_, fun lost => ?_, ?_, ?_⟩
      · obtain ⟨t, done, rest⟩ := fullDone_spec (words := words) (lanes := lanes) (ca := ca) trains early inv begun found
        exact ⟨t, by rw [exec_fullTrainingDone held, done], rest⟩
      · rw [exec_fullTrainingDone held, fullDone_of_none trains early lost]
        rfl
      · rw [exec_fullTrainingDone held, fullDone_of_ca_lost trains early]
        rfl
      · rw [exec_trainingTimeout held, trainingTimeout_of_idle (.inr early)]
    · intro late
      refine ⟨?_, fun first => ?_, fun second => ?_⟩
      · rw [exec_fullTrainingDone held, fullDone_of_late late]
      · rw [exec_trainingTimeout held, trainingTimeout_of_late trains late, if_pos first]
      · rw [exec_trainingTimeout held, trainingTimeout_of_late trains late, if_neg second]
    · obtain ⟨code, state⟩ := untrainable_spec inv begun
      exact ⟨code, state, mem_lostFor begun⟩
  case noFullTraining =>
    intro other
    rw [exec_fullTrainingDone held, fullDone_of_other other, exec_trainingTimeout held, trainingTimeout_of_idle (.inl other)]
    exact ⟨rfl, rfl⟩
  case fallbacks => decide
  case restoring =>
    refine fun restores => ⟨fun valid => ?_, fun invalid => ?_, ?_⟩ <;> rw [exec_restoredTrainingDone held, restoreDone_eq restores]
    · rw [if_neg (by simp [valid])]
    · rw [if_pos (by simp [invalid])]
      rfl
    · rw [if_pos (by simp)]
      rfl
  case noRestoring =>
    intro other ok
    rw [exec_restoredTrainingDone held, restoreDone_of_other other]
  case free =>
    intro free
    rw [wantFull_of_free free]
    exact beginTraining_full_ob inv.objects
  case busy =>
    intro st stack other trains
    rw [wantFull_of_busy stack other trains]
    exact ⟨congrArg Train.timeouts (State.tr_modTr (s := s) (f := fun t => { t with timeouts := waitingTurn }) fun same =>
      (by decide : waitingTurn ≠ 0) (congrArg Train.timeouts same)), State.ob_setOb_eq inv.objects _ _ _⟩
  case late =>
    intro g late
    rw [exec_stepTimeout held, stepTimeout_of_late late]
    refine ⟨fun restores => ?_, fun trains group => ?_, fun trains group => ?_, fun serves steps up h rest groups => ?_⟩
    · rw [if_pos restores]
      rfl
    · rw [if_neg (by omega), if_pos trains, if_neg (by omega)]
    · rw [if_neg (by omega), if_pos trains, if_pos group]
    · rw [if_neg (by omega), if_neg (by omega), if_neg (by simp [steps, up]), groups]
      exact ⟨_, stepsUndone c h s, rfl, rfl, fun g' v w before group => stepsUndone_ob inv group before⟩
  case early =>
    intro g early
    rw [exec_stepTimeout held, stepTimeout_of_early early]
  case request =>
    exact fun applies => ⟨fun failed => gives_retrainRequest_of_free few applies failed inv,
      fun failed => gives_retrainRequest_of_asleep few applies failed inv,
      exec_retrainRequest_of_other few applies⟩

end Sys2Proof.Machine


/-!
PROOF. What the ports of a node keep while it sends: sending only lengthens what waits to leave a port, so that every other field of a port
is as the last command that changed it says (R323 to R326, R330, R331).
-/
namespace Sys2Proof.Machine

-- One proof after another, each on a stack of its own, for the check's memory.
set_option Elab.async false

/-! ### A port that is written -/

section
variable {s : State} {h : Nat} {p : HPort}

theorem State.setPort_port_of_ne (other : p ≠ .reset) : (s.setPort h p).port h = p := look_put_of_ne other _ _

theorem State.setPort_port_ne {k : Nat} (apart : k ≠ h) : (s.setPort h p).port k = s.port k := look_put_ne _ apart

theorem State.setPort_setPort_of_ne (other : p ≠ .reset) (q : HPort) : (s.setPort h p).setPort h q = s.setPort h q := by
  simp only [State.setPort, put_put_of_ne other]

/-- A port that carries parcels is not as reset leaves it. -/
theorem HPort.ne_reset_of_live (live : p.live = true) : p ≠ .reset := by
  rintro rfl
  exact absurd live (by decide)

/-- A port that is not down is not as reset leaves it. -/
theorem HPort.ne_reset_of_state (up : p.state ≠ .down) : p ≠ .reset := ne_of_apply_ne HPort.state up

/-- A port on which something waits is not as reset leaves it. -/
theorem HPort.ne_reset_of_egress (waits : p.egress ≠ []) : p ≠ .reset := ne_of_apply_ne HPort.egress waits

end

/-! ### Sending -/

/-- A port as it is with more parcels that wait to leave. -/
def HPort.queued (p : HPort) (more : List Parcel) : HPort := { p with egress := p.egress ++ more }

/-- From `s` to `t` nothing has changed at the ports but that more parcels wait to leave them. -/
def QueuesOnly (s t : State) : Prop := ∀ h, ∃ more, t.port h = (s.port h).queued more

namespace QueuesOnly

theorem of_hl {s t : State} (same : t.hl.ports = s.hl.ports) : QueuesOnly s t := fun h =>
  ⟨[], by simp [State.port, same, HPort.queued]⟩

theorem refl (s : State) : QueuesOnly s s := of_hl rfl

theorem trans {s t u : State} (st : QueuesOnly s t) (tu : QueuesOnly t u) : QueuesOnly s u := by
  intro h
  obtain ⟨first, after⟩ := st h
  obtain ⟨more, last⟩ := tu h
  exact ⟨first ++ more, by simp [last, after, HPort.queued]⟩

theorem of_reports {s t : State} (reports : ReportsOnly s t) : QueuesOnly s t := of_hl (congrArg Headland.ports reports.hl)

theorem forEach {α : Type} (l : List α) (f : α → State → State) (each : ∀ x s, QueuesOnly s (f x s)) (s : State) :
    QueuesOnly s (forEach l f s) := forEach_related refl trans l f each s

theorem ite {s x y : State} {c : Prop} [Decidable c] (hx : QueuesOnly s x) (hy : QueuesOnly s y) : QueuesOnly s (if c then x else y) := by
  split <;> assumption

end QueuesOnly

section
variable (s : State)

theorem enqueue_port (h : Nat) (q : Parcel) :
    (enqueue h q s).port h = (s.port h).queued [{ q with body := padBody q.body }] :=
  State.setPort_port_of_ne (HPort.ne_reset_of_egress (by simp))

theorem enqueue_queuesOnly (h : Nat) (q : Parcel) : QueuesOnly s (enqueue h q s) := by
  intro k
  by_cases same : k = h
  · subst same
    exact ⟨_, enqueue_port s k q⟩
  · exact ⟨[], by simp [enqueue, State.setPort_port_ne same, HPort.queued]⟩

theorem setFlow_queuesOnly (k : Nat) (f : Flow) : QueuesOnly s (s.setFlow k f) := .of_hl rfl

theorem setSet_queuesOnly (v : SetView) : QueuesOnly s (s.setSet v) := .of_hl rfl

theorem raiseNode_queuesOnly (code detail : Nat) : QueuesOnly s (raiseNode code detail s) := .of_reports (raiseNode_reports code detail s)

theorem raise_queuesOnly (code inst detail : Nat) : QueuesOnly s (raise code inst detail s) :=
  .of_reports (raise_reports code inst detail s)

/-- A sequenced parcel waits behind a FLOW_RESET or alone, or is not sent at all (R330, R333). -/
theorem sendParcel_queuesOnly (d : Nat) (hdr : Hdr) (body : List Byte) : QueuesOnly s (sendParcel d hdr body s) := by
  unfold sendParcel
  dsimp only
  split
  · exact .refl s
  · refine .trans (.trans ?_ (setFlow_queuesOnly _ _ _)) (enqueue_queuesOnly _ _ _)
    split
    · exact enqueue_queuesOnly _ _ _
    · exact .refl s

theorem sendControl_queuesOnly (sub d : Nat) (body : List Byte) : QueuesOnly s (sendControl sub d body s) :=
  sendParcel_queuesOnly s _ _ _

theorem flood_queuesOnly (sub : Nat) (body : List Byte) : QueuesOnly s (flood sub body s) :=
  .forEach _ _ (fun n t => sendControl_queuesOnly t sub n body) s

theorem sendSetWide_queuesOnly (n : Nat) : QueuesOnly s (sendSetWide n s) := .forEach _ _ (fun _ t => sendParcel_queuesOnly t _ _ _) s

/-! ### Routes, link states and the set -/

theorem restartFlows_queuesOnly (d : Nat) : QueuesOnly s (restartFlows d s) := .of_hl rfl

/-- The choice of routes sends nothing. -/
theorem computeRoutes_queuesOnly : QueuesOnly s (computeRoutes s) := by
  refine .forEach _ _ (fun d t => ?_) s
  dsimp only
  split
  · split
    · exact .refl t
    · exact (setSet_queuesOnly t _).trans (restartFlows_queuesOnly _ _)
  · exact ((setSet_queuesOnly t _).trans (restartFlows_queuesOnly _ _)).trans (raiseNode_queuesOnly _ _ _)

theorem refreshView_queuesOnly : QueuesOnly s (refreshView s) := by
  unfold refreshView
  dsimp only
  exact .ite (computeRoutes_queuesOnly s) ((computeRoutes_queuesOnly s).trans (setSet_queuesOnly _ _))

theorem linkSeen_queuesOnly (h : Nat) : QueuesOnly s (linkSeen h s) := by
  unfold linkSeen
  split
  · exact (setSet_queuesOnly s _).trans (refreshView_queuesOnly _)
  · exact .refl s

/-- A change of a link's state is told to the set, and changes no port (R345). -/
theorem setOwnLink_queuesOnly (h code : Nat) : QueuesOnly s (setOwnLink h code s) := by
  unfold setOwnLink
  dsimp only
  refine .ite (.refl s) (.ite ?_ ?_) <;>
    exact ((setSet_queuesOnly s _).trans (refreshView_queuesOnly _)).trans (flood_queuesOnly _ _ _)

theorem formSet_queuesOnly (lead mask time epoch : Nat) : QueuesOnly s (formSet lead mask time epoch s) := by
  unfold formSet
  exact (((setSet_queuesOnly s _).trans (computeRoutes_queuesOnly _)).trans (raiseNode_queuesOnly _ _ _)).trans
    (.forEach _ _ (fun n t => raiseNode_queuesOnly t _ n) _)

/-- The set as its lowest node forms it: every node is told, and is sent the set-wide values (R326, R329, R448). -/
def formHere (s : State) : State :=
  let formed := formSet s.me s.hl.set.reachable s.keeperNs (epochAfter s.keeperNs) s
  let told := flood 2 (formedBody formed.me s.hl.set.reachable s.keeperNs (epochAfter s.keeperNs)) formed
  forEach told.others (fun n t => sendSetWide n t) told

theorem tryForm_eq_or (timeout : Bool) : tryForm timeout s = s ∨ tryForm timeout s = formHere s := by
  unfold tryForm
  dsimp only
  split
  · exact .inl rfl
  · split
    · exact .inl rfl
    · split
      · exact .inl rfl
      · exact .inr rfl

theorem formHere_queuesOnly : QueuesOnly s (formHere s) :=
  ((formSet_queuesOnly s _ _ _ _).trans (flood_queuesOnly _ _ _)).trans (.forEach _ _ (fun n t => sendSetWide_queuesOnly t n) _)

theorem tryForm_queuesOnly (timeout : Bool) : QueuesOnly s (tryForm timeout s) := by
  obtain same | forms := tryForm_eq_or s timeout
  · rw [same]
    exact .refl s
  · rw [forms]
    exact formHere_queuesOnly s

end

end Sys2Proof.Machine


/-!
PROOF. How a port comes up, is refused or goes down, how the set is formed, and the settling of O38 (R322, R325 to R327, R329, R332).
-/
namespace Sys2Proof.Machine

-- One proof after another, each on a stack of its own, for the check's memory.
set_option Elab.async false

section
variable {s : State} {h : Nat}

theorem portOk_of_lt (small : h < 4) : portOk h = true := decide_eq_true small

theorem portOk_of_ge (large : 4 ≤ h) : portOk h = false := decide_eq_false large.not_gt

/-! ### A port that is refused -/

/-- A port as a refusal leaves it (R327). -/
def HPort.refusedFor (p : HPort) (reason : Nat) : HPort := { p with state := .refused, refusal := reason, greeted := false }

theorem refusePort_port (reason : Nat) (s : State) : ∃ more, (refusePort h reason s).port h = ((s.port h).refusedFor reason).queued more := by
  have written : (s.setPort h ((s.port h).refusedFor reason)).port h = (s.port h).refusedFor reason :=
    State.setPort_port_of_ne (HPort.ne_reset_of_state PortState.noConfusion)
  have told : QueuesOnly (s.setPort h ((s.port h).refusedFor reason)) (refusePort h reason s) := by
    unfold refusePort
    exact (raise_queuesOnly _ _ _ _).trans (setOwnLink_queuesOnly _ _ _)
  obtain ⟨more, after⟩ := told h
  exact ⟨more, by rw [after, written]⟩

theorem refusePort_refused (reason : Nat) (s : State) : ((refusePort h reason s).port h).state = .refused ∧
    ((refusePort h reason s).port h).refusal = reason ∧ ((refusePort h reason s).port h).greeted = false := by
  obtain ⟨more, after⟩ := refusePort_port (h := h) reason s
  rw [after]
  exact ⟨rfl, rfl, rfl⟩

/-! ### HELLO (R327) -/

section
variable {node k st ver hop tag bundle : Nat}

/-- A port as a HELLO that passes leaves it: what the peer has not yet taken is sent again (R327, R332). -/
def HPort.greetedAt (p : HPort) (state : PortState) (now hop : Nat) : HPort :=
  let keep := p.replay.filter fun q => !seqBefore q.hdr.hop hop
  { p with state := state, refusal := 0, greeted := true, everUp := true, silent := false, retraining := false, peerReset := none
           lastReceived := now, replay := keep, resend := keep, room := 1024, txHop := if keep.isEmpty then hop % 65536 else p.txHop }

/-- What follows where a port has come up: its link is up at both of its ends, the set is told, and may form (R326). -/
def tellUp (h : Nat) (s : State) : State :=
  let t := setOwnLink h 1 (linkSeen h s)
  tryForm false (if t.formed then t else flood 1 (memberBody t) t)

theorem tellUp_queuesOnly (h : Nat) (s : State) : QueuesOnly s (tellUp h s) := by
  have seen : QueuesOnly s (setOwnLink h 1 (linkSeen h s)) := (linkSeen_queuesOnly s h).trans (setOwnLink_queuesOnly _ h 1)
  exact (seen.trans (.ite (.refl _) (flood_queuesOnly _ _ _))).trans (tryForm_queuesOnly _ _)

/-- The state of a port that comes up: keepalive rate while the node rests (R322). -/
def State.upState (s : State) : PortState := if s.power.node = .rest || s.power.node = .deep then .keepalive else .up

theorem State.upState_eq (s : State) : s.upState = if s.power.node = .rest ∨ s.power.node = .deep then .keepalive else .up := by
  simp [State.upState]

section
variable (joined : (s.port h).state ≠ .unconnected) (up : (s.port h).state ≠ .down)
include joined up

theorem helloTaken_refused (fails : helloReason h node k st ver tag bundle s ≠ 0) : helloTaken h node k st ver hop tag bundle s =
    refusePort h (helloReason h node k st ver tag bundle s) (s.setPort h { s.port h with lastReceived := s.now }) := by
  unfold helloTaken
  rw [if_neg (by simp [joined, up])]
  exact if_pos fails

/-- A HELLO that passes writes the port and then tells the set. -/
theorem helloTaken_passed (passes : helloReason h node k st ver tag bundle s = 0) : helloTaken h node k st ver hop tag bundle s =
    tellUp h ((s.setPort h { s.port h with lastReceived := s.now }).setPort h ((s.port h).greetedAt s.upState s.now hop)) := by
  unfold helloTaken
  rw [if_neg (by simp [joined, up])]
  exact if_neg (not_not.mpr passes)

theorem helloTaken_port (passes : helloReason h node k st ver tag bundle s = 0) : ∃ more,
    (helloTaken h node k st ver hop tag bundle s).port h = ((s.port h).greetedAt s.upState s.now hop).queued more := by
  rw [helloTaken_passed joined up passes]
  obtain ⟨more, after⟩ := tellUp_queuesOnly h ((s.setPort h { s.port h with lastReceived := s.now }).setPort h
    ((s.port h).greetedAt s.upState s.now hop)) h
  exact ⟨more, by rw [after, State.setPort_port_of_greeted rfl]⟩

end

end

/-! ### Training and the join timeout (R322, R326) -/

/-- A port as training on some modules leaves it. -/
def HPort.trainedOn (p : HPort) (m now : Nat) : HPort :=
  { p with state := if p.state == .down then .training else p.state, modules := m, retraining := false, lastReceived := now }

theorem raiseShort_reports (before : Nat) (s : State) : ReportsOnly s (raiseShort h before s) := by
  unfold raiseShort
  exact forEach_reports _ _ (fun l t => forEach_reports _ _ (fun i u => ite_reports (.refl u) (raise_reports _ _ _ u)) t) s

theorem ReportsOnly.me {s t : State} (reports : ReportsOnly s t) : t.me = s.me := by rw [State.me, reports.parts, State.me]

theorem ReportsOnly.port {s t : State} (reports : ReportsOnly s t) (h : Nat) : t.port h = s.port h := by
  rw [State.port, reports.hl, State.port]

theorem sendLink_port (kind : Nat) (hdr : Hdr) (body : List Byte) (s : State) : (sendLink h kind hdr body s).port h =
    (s.port h).queued [⟨{ hdr with kind := kind, origin := s.me, len := lenCode body }, padBody body⟩] := enqueue_port s h _

theorem lenCode_helloBody (h : Nat) (s : State) : lenCode (helloBody h s) = 1 := by
  have length : (helloBody h s).length = 32 := by simp [helloBody, leBytes, zeroBytes]
  rw [lenCode, length]

section
variable {m : Nat} (faces : (neighbour s.setNodes s.me h).isSome = true) (joined : (s.port h).state ≠ .unconnected)
include faces joined

/-- Training that fails is settled by the refusal of a link that has never been up. -/
theorem trainingDone_failed : trainingDone h 0 s = if (s.port h).everUp then s else refusePort h 1 s := by
  unfold trainingDone
  rw [if_neg (by simp [joined, Option.isSome_iff_ne_none.mp faces])]
  exact if_pos rfl

/-- Training that has found modules writes the port, reports what is narrow, and sends HELLO. -/
theorem trainingDone_found (found : 0 < m) : ∃ t, ReportsOnly (s.setPort h ((s.port h).trainedOn (min m 4) s.now)) t ∧
    trainingDone h m s = sendLink h 9 Hdr.zero (helloBody h t) (t.send (.sideband h 1)) := by
  unfold trainingDone
  rw [if_neg (by simp [joined, Option.isSome_iff_ne_none.mp faces])]
  exact ⟨_, ite_reports ((raise_reports _ _ _ _).trans (raiseShort_reports _ _)) (.refl _), if_neg found.ne'⟩

theorem trainingDone_port (found : 0 < m) : ∃ body, (trainingDone h m s).port h = ((s.port h).trainedOn (min m 4) s.now).queued
    [⟨{ Hdr.zero with kind := 9, origin := s.me, len := 1 }, body⟩] := by
  obtain ⟨t, reports, done⟩ := trainingDone_found faces joined found
  have some_ : ((s.port h).trainedOn (min m 4) s.now).modules ≠ 0 := by
    have modules : ((s.port h).trainedOn (min m 4) s.now).modules = min m 4 := rfl
    omega
  have written : t.port h = (s.port h).trainedOn (min m 4) s.now :=
    (reports.port h).trans (State.setPort_port_of_ne (ne_of_apply_ne HPort.modules some_))
  have sent : ((t.send (.sideband h 1)).port h) = (s.port h).trainedOn (min m 4) s.now := written
  have sender : (t.send (.sideband h 1)).me = s.me := reports.me
  exact ⟨_, by rw [done, sendLink_port, sent, sender, lenCode_helloBody]⟩

end

theorem joinTimeout_late (trains : (s.port h).state = .training) (under : (s.port h).retraining = true)
    (new : (s.port h).everUp = false) (late : s.elapsed s.hl.set.configAt (s.ob 0x5808 8 * msT) = true) :
    joinTimeout h s = refusePort h 1 s := if_pos (by simp [trains, under, new, late])

theorem joinTimeout_idle (idle : (s.port h).state ≠ .training ∨ (s.port h).retraining = false) : joinTimeout h s = s :=
  if_neg (by grind)

/-! ### Link reset and malformed parcels (R325, R332) -/

/-- A port as a reset of its link leaves it. -/
def HPort.resetAt (p : HPort) (now : Nat) : HPort := { p with state := .training, trainAt := now, retraining := true, greeted := false }

theorem linkReset_eq (joined : (s.port h).state ≠ .unconnected) : linkReset h s =
    (raise Ev.linkReset h 0 ((s.setPort h ((s.port h).resetAt s.now)).bump (hIdx h) 0x0C)).send (.sideband h 0) :=
  if_neg (by simp [joined])

theorem linkReset_port (joined : (s.port h).state ≠ .unconnected) : (linkReset h s).port h = (s.port h).resetAt s.now := by
  have raised := (raise_reports Ev.linkReset h 0 ((s.setPort h ((s.port h).resetAt s.now)).bump (hIdx h) 0x0C)).port h
  rw [linkReset_eq joined]
  exact raised.trans (State.setPort_port_of_ne (HPort.ne_reset_of_state PortState.noConfusion))

/-- The objects of a port are no reports. -/
theorem logObject_hIdx (h : Nat) : logObject (hIdx h) = false := by
  simp [logObject, hIdx]
  omega

theorem linkReset_ob (inv : s.Inv) (joined : (s.port h).state ≠ .unconnected) :
    (linkReset h s).ob (hIdx h) 0x0C = (s.ob (hIdx h) 0x0C + 1) % 2 ^ objWidth (objKey (hIdx h) 0x0C) := by
  have raised := (raise_reports Ev.linkReset h 0 ((s.setPort h ((s.port h).resetAt s.now)).bump (hIdx h) 0x0C)).objects
    (hIdx h) 0x0C (by decide) (logObject_hIdx h)
  rw [linkReset_eq joined]
  exact raised.trans (State.ob_setOb_eq (s := s.setPort h _) inv.objects _ _ _)

theorem linkReset_out (joined : (s.port h).state ≠ .unconnected) : Output.sideband h 0 ∈ (linkReset h s).out := by
  rw [linkReset_eq joined]
  exact List.mem_append_right _ List.mem_cons_self

/-- The state in which a malformed parcel has been counted and raised (R325). -/
def State.countedMalformed (s : State) (h : Nat) : State := raise Ev.parcelMalformed h 0 (s.bump (hIdx h) 0x0D)

@[simp] theorem countedMalformed_port (s : State) (h k : Nat) : (s.countedMalformed h).port k = s.port k :=
  (raise_reports Ev.parcelMalformed h 0 (s.bump (hIdx h) 0x0D)).port k

theorem malformedParcel_unsequenced (s : State) (h : Nat) : malformedParcel h false s = s.countedMalformed h := by
  unfold malformedParcel
  exact if_pos rfl

/-- A port on which one more malformed sequenced parcel has come. -/
def HPort.spoilt (p : HPort) : HPort := { p with malformed := p.malformed + 1 }

theorem HPort.spoilt_ne_reset (p : HPort) : p.spoilt ≠ .reset := ne_of_apply_ne HPort.malformed (Nat.succ_ne_zero _)

theorem malformedParcel_sequenced (s : State) (h : Nat) : malformedParcel h true s = if 3 ≤ (s.port h).malformed + 1 then
      setOwnLink h 3 ((s.countedMalformed h).setPort h { (s.port h).spoilt with state := .down })
    else linkReset h ((s.countedMalformed h).setPort h (s.port h).spoilt) := by
  rw [← countedMalformed_port s h h]
  rfl

/-- The third in a row takes the port down. -/
theorem malformedParcel_third (two : (s.port h).malformed = 2) :
    ((malformedParcel h true s).port h).state = .down ∧ ((malformedParcel h true s).port h).malformed = 3 := by
  have written := State.setPort_port_of_ne (s := s.countedMalformed h) (h := h) (p := { (s.port h).spoilt with state := .down })
    (ne_of_apply_ne HPort.malformed (Nat.succ_ne_zero _))
  obtain ⟨more, told⟩ := setOwnLink_queuesOnly ((s.countedMalformed h).setPort h { (s.port h).spoilt with state := .down }) h 3 h
  rw [malformedParcel_sequenced, if_pos (by omega), told, written]
  exact ⟨rfl, congrArg (· + 1) two⟩

/-- One before resets its link. -/
theorem malformedParcel_first (few : (s.port h).malformed < 2) (joined : (s.port h).state ≠ .unconnected) :
    (malformedParcel h true s).port h = (s.port h).spoilt.resetAt s.now := by
  have written := State.setPort_port_of_ne (s := s.countedMalformed h) (h := h) (s.port h).spoilt_ne_reset
  have now : ((s.countedMalformed h).setPort h (s.port h).spoilt).now = s.now := raise_now _ _ _ _
  rw [malformedParcel_sequenced, if_neg (by omega), linkReset_port (by rwa [written]), written, now]

/-! ### Formation (R326, R328, R329) -/

theorem sendParcel_set (d : Nat) (hdr : Hdr) (body : List Byte) (s : State) : (sendParcel d hdr body s).hl.set = s.hl.set := by
  unfold sendParcel
  dsimp only
  split
  · rfl
  · split <;> rfl

theorem formHere_set (s : State) :
    (formHere s).hl.set = (formSet s.me s.hl.set.reachable s.keeperNs (epochAfter s.keeperNs) s).hl.set := by
  have sends {α : Type} (l : List α) (f : α → State → State) (each : ∀ a t, (f a t).hl.set = t.hl.set) (t : State) :
      (forEach l f t).hl.set = t.hl.set :=
    forEach_related (rel := fun t u => u.hl.set = t.hl.set) (fun _ => rfl) (fun tu uv => uv.trans tu) l f each t
  exact (sends _ _ (fun n t => sends _ _ (fun k u => sendParcel_set _ _ _ u) t) _).trans
    (sends _ _ (fun n t => sendParcel_set _ _ _ t) _)

theorem tryForm_quorum (forming : s.formed = false)
    (straps : s.strapsValid = true) (config : s.power.node = .config) (some_ : s.hl.set.reachable ≠ 0)
    (lowest : lowestNode s.hl.set.reachable = s.me) (enough : quorum (2 ^ s.setNodes - 1) s.hl.set.reachable = true) :
    tryForm true s = formHere s := by
  unfold tryForm
  dsimp only
  rw [if_neg (by simp [forming, straps, config, some_]), if_neg (by simp [lowest]), if_neg (by simp [enough])]
  rfl

/-- The set as the node that forms it sees it. -/
theorem formHere_facts (s : State) : (formHere s).hl.set.state = 1 ∧ (formHere s).hl.set.lead = s.me ∧
    (formHere s).hl.set.reachable = s.hl.set.reachable ∧ (formHere s).hl.set.epoch = some (epochAfter s.keeperNs) := by
  have view := formSet_routesOnly s.me s.hl.set.reachable s.keeperNs (epochAfter s.keeperNs) s
  rw [← formHere_set] at view
  rw [view]
  exact ⟨rfl, rfl, rfl, rfl⟩

end

/-! ### The settling -/

/-- Settles O38: each command answers what its branch of HELLO, training, reset or formation leaves of the port and of the set. -/
theorem portsAndFormation : Obligations.PortsAndFormation := by
  unfold Obligations.PortsAndFormation
  intro s h inv small
  have here {t : State} : (if portOk h then .next t else .fault .absentUnit : Res) = .next t := if_pos (portOk_of_lt small)
  have fails {why : Nat} (t : State) : ((refusePort h why t).port h).state = .refused ∧ ((refusePort h why t).port h).refusal = why :=
    ⟨(refusePort_refused why t).1, (refusePort_refused why t).2.1⟩
  refine ⟨?hello, ?training, ?late, ?early, ?reset, here.trans (congrArg Host.Outcome.next (malformedParcel_unsequenced s h)), ?third, ?first, ?forms, ?waits, ?absent⟩
  case hello =>
    intro node k st ver hop tag bundle joined up
    refine ⟨fun passes => ⟨_, here, ?_⟩, fun refused => ⟨_, here, ?_⟩⟩
    · obtain ⟨more, port⟩ := helloTaken_port (hop := hop) joined up passes
      rw [port, ← State.upState_eq]
      exact ⟨rfl, rfl, rfl, rfl, rfl, rfl⟩
    · rw [helloTaken_refused joined up refused]
      exact refusePort_refused _ _
  case training =>
    intro m faces joined
    refine ⟨fun found => ⟨_, here, ?_⟩, fun new => ⟨_, here, ?_⟩, fun known => ?_⟩
    · obtain ⟨body, port⟩ := trainingDone_port faces joined found
      rw [port]
      exact ⟨rfl, rfl, body, rfl⟩
    · rw [trainingDone_failed faces joined, new]
      exact fails s
    · refine here.trans ?_
      rw [trainingDone_failed faces joined, known, if_pos rfl]
  case late =>
    intro trains under new late
    refine ⟨_, here, ?_⟩
    rw [joinTimeout_late trains under new late]
    exact fails s
  case early =>
    intro idle
    refine here.trans ?_
    rw [joinTimeout_idle idle]
  case reset =>
    intro joined
    exact ⟨_, here, linkReset_port joined, linkReset_ob inv joined, linkReset_out joined⟩
  case third => exact fun two => ⟨_, here, malformedParcel_third two⟩
  case first =>
    intro few joined
    refine ⟨_, here, ?_⟩
    beta_reduce
    rw [malformedParcel_first few joined]
    exact ⟨rfl, rfl⟩
  case forms =>
    intro late forming straps config some_ lowest enough
    refine ⟨_, congrArg Host.Outcome.next (if_pos late), ?_⟩
    rw [tryForm_quorum forming straps config some_ lowest enough]
    exact formHere_facts s
  case waits =>
    intro early
    exact congrArg Host.Outcome.next (if_neg (by simp [early]))
  case absent =>
    intro g large
    have gone {t : State} : (if portOk g then .next t else .fault .absentUnit : Res) = .fault .absentUnit :=
      if_neg (by simp [portOk_of_ge large])
    exact ⟨gone, gone, gone, gone⟩

end Sys2Proof.Machine


/-!
PROOF. The timers of a link, set time, the loss of nodes and the parcel a port begins, branch by branch, and the settling of O39 (R324, R331,
R332, R335, R338, R342 to R346).
-/
namespace Sys2Proof.Machine

-- One proof after another, each on a stack of its own, for the check's memory.
set_option Elab.async false

section
variable {s : State} {h : Nat}

/-! ### Set time (R342, R343) -/

/-- A test of what may not be there. Stated of any test, for at one against a limit in ticks the kernel would count up to that limit. -/
theorem match_eq_elim (o : Option Nat) (f : Nat → Bool) : (match o with | some a => f a | none => false) = o.elim false f := by
  cases o <;> rfl

/-- A port on which a TIME parcel has come. -/
def HPort.timedAt (p : HPort) (now tx rx : Nat) : HPort := { p with lastReceived := now, peerTx := tx, peerRx := rx }

section
variable (live : (s.port h).live = true) (silent : (s.port h).silent = false)
include live silent

theorem port_heard_of_live : (heard h s).port h = { s.port h with lastReceived := s.now } := by
  have carries : ({ s.port h with lastReceived := s.now } : HPort).live = true := live
  rw [heard_eq silent]
  exact State.setPort_port_of_ne (HPort.ne_reset_of_live carries)

/-- Where something arrives on a link that carries parcels and changes its port, the port is written once. -/
theorem heard_setPort (p : HPort) : (heard h s).setPort h p = s.setPort h p := by
  have carries : ({ s.port h with lastReceived := s.now } : HPort).live = true := live
  rw [heard_eq silent]
  exact State.setPort_setPort_of_ne (HPort.ne_reset_of_live carries) p

section
variable {tx echo echoRx rx : Nat}

/-- A TIME parcel is noted on its port; what the set makes of it rests on who this node is (R342, R343). -/
theorem timed_port : (heard h s).setPort h { (heard h s).port h with peerTx := tx, peerRx := rx } =
    s.setPort h ((s.port h).timedAt s.now tx rx) := by
  rw [heard_setPort live silent, port_heard_of_live live silent]
  rfl

/-- The lead keeps set time itself: it is synchronised again once within bounds for 1 ms (R343). -/
theorem timeTaken_lead (lead : s.isLead = true) : timeTaken h tx echo echoRx rx s =
    (s.setPort h ((s.port h).timedAt s.now tx rx)).setSet { s.hl.set with unsynchronised :=
      s.hl.set.unsynchronised && !(s.hl.set.within5.elim false fun a => s.elapsed a msT) } := by
  obtain ⟨t, written⟩ : ∃ t, t = s.setPort h ((s.port h).timedAt s.now tx rx) := ⟨_, rfl⟩
  have view : t.hl.set = s.hl.set := by rw [written]; rfl
  have elapsed (a n : Nat) : t.elapsed a n = s.elapsed a n := by rw [written, State.elapsed, State.setPort_now, State.elapsed]
  have lead' : t.isLead = true := by rw [written]; exact lead
  unfold timeTaken
  rw [if_neg (by simp [live])]
  dsimp only
  rw [timed_port live silent, ← written, if_pos lead', view]
  simp only [elapsed]
  exact congrArg (fun b => t.setSet { s.hl.set with unsynchronised := s.hl.set.unsynchronised && !b })
    (match_eq_elim s.hl.set.within5 fun a => s.elapsed a msT)

/-- A member steps set time at its parent's TIME parcels alone. -/
theorem timeTaken_other (member : s.isLead = false) (other : s.timeParent ≠ some h) : timeTaken h tx echo echoRx rx s =
    s.setPort h ((s.port h).timedAt s.now tx rx) := by
  have member' : ¬(s.setPort h ((s.port h).timedAt s.now tx rx)).isLead = true := ne_true_of_eq_false member
  have other' : ((s.setPort h ((s.port h).timedAt s.now tx rx)).timeParent != some h) = true := bne_iff_ne.mpr other
  unfold timeTaken
  rw [if_neg (by simp [live])]
  dsimp only
  rw [timed_port live silent, if_neg member', if_pos other']

/-- The parent's TIME parcel gives the offset, and with it the rate of set time from now on. -/
theorem timeTaken_parent (parent : s.timeParent = some h) :
    (timeTaken h tx echo echoRx rx s).hl.set.timeBase = s.setTicks ∧ (timeTaken h tx echo echoRx rx s).hl.set.timeAt = s.now ∧
      (timeTaken h tx echo echoRx rx s).hl.set.offset = timeOffsetPs tx echo echoRx rx (signed 16 (s.ob (hIdx h) 6)) ∧
      (timeTaken h tx echo echoRx rx s).hl.set.rate = s.rateFor (timeTaken h tx echo echoRx rx s).hl.set.offset ∧
      (timeTaken h tx echo echoRx rx s).obj = s.obj ∧ (timeTaken h tx echo echoRx rx s).out = s.out := by
  have member : ¬s.isLead = true := by
    intro lead
    simp [State.timeParent, lead] at parent
  have member' : ¬(s.setPort h ((s.port h).timedAt s.now tx rx)).isLead = true := member
  have parent' : ¬((s.setPort h ((s.port h).timedAt s.now tx rx)).timeParent != some h) = true :=
    fun other => bne_iff_ne.mp other parent
  unfold timeTaken
  rw [if_neg (by simp [live])]
  dsimp only
  rw [timed_port live silent, if_neg member', if_neg parent']
  exact ⟨rfl, rfl, rfl, rfl, rfl, rfl⟩

end

/-! ### HOP_ACK (R331) -/

theorem exec_hopAck (small : h < 4) (hop room : Nat) : exec (.hopAck h hop room) s = .next (s.setPort h { s.port h with
    lastReceived := s.now, replay := (s.port h).replay.filter (fun q => q.hdr.hop != hop && !seqBefore q.hdr.hop hop)
    resend := (s.port h).resend.filter (fun q => q.hdr.hop != hop && !seqBefore q.hdr.hop hop), room := 8 * room }) := by
  refine (if_pos (portOk_of_lt small)).trans (congrArg Host.Outcome.next ?_)
  dsimp only
  rw [heard_setPort live silent, port_heard_of_live live silent]

end

/-! ### The parcel a port begins (R338) -/

/-- The state in which a port makes its choice: routes settled, and the heads that wait for a window counted (R335, R340). -/
def State.weighed (s : State) (h : Nat) : State :=
  forEach (((settleRoutes h s).classOrder h).flatMap ((settleRoutes h s).port h).heads) (noteWait h) (settleRoutes h s)

theorem weighed_now (s : State) (h : Nat) : (s.weighed h).now = s.now :=
  (forEach_fr (settleRoutes_fr (.refl 320 s)) fun _ _ => noteWait_fr (.refl _ _)).now (by decide)

theorem launch_out (q : Parcel) (s : State) : (launch h q s).out = s.out ++ [.parcel h q] := by
  unfold launch
  dsimp only
  split <;> rfl

theorem launch_hl (q : Parcel) (s : State) : (launch h q s).hl = (s.setPort h { s.port h with lastSent := s.now }).hl := by
  unfold launch
  dsimp only
  split <;> rfl

theorem launch_setPort_hl {p : HPort} (stands : p ≠ .reset) (q : Parcel) (s : State) :
    (launch h q (s.setPort h p)).hl = (s.setPort h { p with lastSent := s.now }).hl := by
  rw [launch_hl, State.setPort_port_of_ne stands, State.setPort_setPort_of_ne stands, State.setPort_now]

theorem peak_hl (i a v : Nat) (s : State) : (s.peak i a v).hl = s.hl := by
  unfold State.peak
  split <;> rfl

theorem peak_out (i a v : Nat) (s : State) : (s.peak i a v).out = s.out := by
  unfold State.peak
  split <;> rfl

theorem weighed_eq (s : State) (h : Nat) :
    forEach (((settleRoutes h s).classOrder h).flatMap ((settleRoutes h s).port h).heads) (noteWait h) (settleRoutes h s) = s.weighed h := rfl

theorem transmit_none (idle : (s.weighed h).choose h = none) : transmit h s = s.weighed h := by
  unfold transmit
  simp only [weighed_eq, idle]

section
variable {q : Parcel}

theorem transmit_link (chosen : (s.weighed h).choose h = some (.link q)) : transmit h s =
    count (headlandBank h) 6 1 (launch h (stamped h q (s.weighed h)) ((s.weighed h).setPort h
      { (s.weighed h).port h with egress := dropFirst q ((s.weighed h).port h).egress })) := by
  unfold transmit
  simp only [weighed_eq, chosen]

/-- A parcel with its hop sequence. -/
def Parcel.numbered (q : Parcel) (hop : Nat) : Parcel := { q with hdr := { q.hdr with hop := hop } }

/-- A parcel that is begun for the first time takes the next hop sequence and a place in the replay buffer (R331). -/
theorem transmit_fresh (chosen : (s.weighed h).choose h = some (.fresh q)) : ∃ p : HPort,
    p.txHop = (((s.weighed h).port h).txHop + 1) % 65536 ∧
    p.replay = ((s.weighed h).port h).replay ++ [q.numbered ((s.weighed h).port h).txHop] ∧
    p.egress = dropFirst q ((s.weighed h).port h).egress ∧ ∃ n, transmit h s =
      (launch h (q.numbered ((s.weighed h).port h).txHop) (countParcel 0 h (q.numbered ((s.weighed h).port h).txHop).hdr
        ((s.weighed h).setPort h p))).peak (hIdx h) 0x0F n := by
  unfold transmit
  simp only [weighed_eq, chosen]
  refine ⟨_, ?_, ?_, ?_, _, rfl⟩ <;> rfl

/-- A link parcel leaves as it is stamped, and of the headland its port alone changes (R324, R342). -/
theorem transmit_link_facts (chosen : (s.weighed h).choose h = some (.link q)) (up : ((s.weighed h).port h).state ≠ .down) :
    (transmit h s).out = (s.weighed h).out ++ [.parcel h (stamped h q (s.weighed h))] ∧
    (transmit h s).hl = ((s.weighed h).setPort h
      { (s.weighed h).port h with egress := dropFirst q ((s.weighed h).port h).egress, lastSent := s.now }).hl := by
  have counted (t : State) : Fr 64 t (count (headlandBank h) 6 1 t) := count_fr (.refl 64 t)
  have stands : ({ (s.weighed h).port h with egress := dropFirst q ((s.weighed h).port h).egress } : HPort) ≠ .reset :=
    HPort.ne_reset_of_state up
  rw [transmit_link chosen]
  constructor
  · rw [(counted _).out (by decide), launch_out, State.setPort_out]
  · rw [(counted _).hl (by decide), launch_setPort_hl stands, weighed_now]

/-- A parcel that is begun for the first time is sent with its hop sequence, and waits for its HOP_ACK (R331). -/
theorem transmit_fresh_facts (chosen : (s.weighed h).choose h = some (.fresh q)) :
    (transmit h s).out = (s.weighed h).out ++ [.parcel h (q.numbered ((s.weighed h).port h).txHop)] ∧
    ((transmit h s).port h).txHop = (((s.weighed h).port h).txHop + 1) % 65536 ∧
    ((transmit h s).port h).replay = ((s.weighed h).port h).replay ++ [q.numbered ((s.weighed h).port h).txHop] ∧
    ((transmit h s).port h).egress = dropFirst q ((s.weighed h).port h).egress := by
  obtain ⟨p, tx, replay, egress, n, sent⟩ := transmit_fresh chosen
  have kept : p.replay ≠ HPort.reset.replay := by simp [replay, HPort.reset]
  have counted : Fr 64 ((s.weighed h).setPort h p) (countParcel 0 h (q.numbered ((s.weighed h).port h).txHop).hdr
    ((s.weighed h).setPort h p)) := countParcel_fr (.refl _ _)
  have port : (transmit h s).port h = { p with lastSent := (countParcel 0 h (q.numbered ((s.weighed h).port h).txHop).hdr
      ((s.weighed h).setPort h p)).now } := by
    have before : (countParcel 0 h (q.numbered ((s.weighed h).port h).txHop).hdr ((s.weighed h).setPort h p)).port h = p := by
      rw [State.port, countParcel_hl]
      exact State.setPort_port_of_ne (ne_of_apply_ne HPort.replay kept)
    rw [sent, State.port, peak_hl, launch_hl, before]
    exact State.setPort_port_of_ne (ne_of_apply_ne HPort.replay kept)
  rw [port]
  refine ⟨?_, tx, replay, egress⟩
  rw [sent, peak_out, launch_out, counted.out (by decide), State.setPort_out]

end

/-! ### Offsets beyond their bounds (R343) -/

section
variable {a : Nat}

theorem exec_timeOffset_late (since : s.hl.set.beyond5 = some a) (late : s.elapsed a (100 * usTicks) = true) :
    exec .timeOffset s = .next (raiseNode Ev.timeOffset 0 s) := by
  refine congrArg Host.Outcome.next ?_
  rw [since]
  exact if_pos late

theorem exec_timeOffset_inside (inside : s.hl.set.beyond5 = none) : exec .timeOffset s = .next s := by
  refine congrArg Host.Outcome.next ?_
  rw [inside]

theorem exec_timeUnsynchronised_late (since : s.hl.set.beyond10 = some a) (late : s.elapsed a msT = true) :
    exec .timeUnsynchronised s = .next (raiseNode Ev.timeUnsynchronised 0 (s.setSet { s.hl.set with unsynchronised := true })) := by
  refine congrArg Host.Outcome.next ?_
  rw [since]
  exact if_pos late

theorem exec_timeUnsynchronised_inside (inside : s.hl.set.beyond10 = none) : exec .timeUnsynchronised s = .next s := by
  refine congrArg Host.Outcome.next ?_
  rw [inside]

end

/-! ### Silence, retraining and loss (R332, R344, R345) -/

theorem linkSilent_late (live : (s.port h).live = true) (silent : (s.port h).silent = false) (up : (s.port h).retraining = false)
    (awake : (s.port h).peerReset = none) (late : s.elapsed (s.port h).lastReceived (2 * usTicks) = true) :
    linkSilent h s = checkLoss (setOwnLink h 2 (s.setPort h { s.port h with silent := true })) :=
  if_neg (by simp [live, silent, up, awake, late])

theorem linkSilent_early (early : s.elapsed (s.port h).lastReceived (2 * usTicks) = false) : linkSilent h s = s :=
  if_pos (by simp [early])

theorem retrainLimit_late (trains : (s.port h).state = .training) (under : (s.port h).retraining = true)
    (known : (s.port h).everUp = true) (late : s.elapsed (s.port h).trainAt (s.ob (hIdx h) 7 * usTicks) = true) :
    retrainLimit h s = checkLoss (setOwnLink h 3 (raise Ev.linkDown h 0
      (s.setPort h { s.port h with state := .down, retraining := false }))) := if_neg (by simp [trains, under, known, late])

theorem retrainLimit_idle (idle : (s.port h).state ≠ .training ∨ (s.port h).retraining = false) : retrainLimit h s = s :=
  if_pos (by grind)

theorem findLost_reachable {n : Nat} (formed : s.formed = true) (other : n ≠ s.me) (reached : s.hl.set.reachable.testBit n = true) :
    findLost n s = nodeLost n (forEach (s.others.filter fun m => m != n) (fun m t => sendControl 3 m
      (lostBody n (s.component (setBit n false s.hl.set.reachable))) t) s) := if_neg (by simp [formed, other, reached])

theorem warmResetLimit_late {n : Nat} (resets : look 0 n s.hl.set.resetting ≠ 0)
    (late : s.elapsed (look 0 n s.hl.set.resetting - 1) (s.ob 0x5808 0x0C * msT) = true) : warmResetLimit n s = findLost n s :=
  if_neg (by simp [resets, late])

theorem warmResetLimit_idle {n : Nat} (idle : look 0 n s.hl.set.resetting = 0) : warmResetLimit n s = s := if_pos (by simp [idle])

end

/-! ### The settling -/

/-- Settles O39: what each timer, TIME parcel, loss and transmission comes to, one lemma for each branch. -/
theorem linkTimers : Obligations.LinkTimers := by
  unfold Obligations.LinkTimers
  intro s h small silent
  have here {t u : State} (same : t = u) : (if portOk h then .next t else .fault .absentUnit : Res) = .next u := by
    rw [if_pos (portOk_of_lt small), same]
  have next {t u : State} (same : t = u) : (.next t : Res) = .next u := congrArg Host.Outcome.next same
  refine ⟨here (heard_eq silent), fun hop room live => exec_hopAck live silent small hop room, fun live => ?timers, ?retrains, ?settled,
    ?lost, ?found, ?warmIdle, ?warmLate, ?offset, ?inside, ?unsynchronised, ?synchronised, ?transmits⟩
  case timers =>
    refine ⟨fun due => ?_, fun due => ?_, fun due => ?_, fun early => ?_, fun early => ?_, fun early => ?_, fun tx echo echoRx rx => ?_,
      fun up awake late => here (linkSilent_late live silent up awake late), fun early => here (linkSilent_early early)⟩
    · exact here (if_pos (by simp [live, due]))
    · exact here (if_pos (by simp [live, due]))
    · exact here (if_pos (by simp [live, due]))
    · exact here (if_neg (by simp [early]))
    · exact here (if_neg (by simp [early]))
    · exact here (if_neg (by simp [early]))
    · exact ⟨fun lead => here (timeTaken_lead live silent lead), fun member other => here (timeTaken_other live silent member other),
        fun parent => ⟨_, here rfl, timeTaken_parent live silent parent⟩⟩
  case retrains => exact fun trains under known late => here (retrainLimit_late trains under known late)
  case settled => exact fun idle => here (retrainLimit_idle idle)
  case lost => exact fun n mask => ⟨fun cut => next (if_pos (by simpa using cut)), fun joined => next (if_neg (by simpa using joined))⟩
  case found => exact fun n formed other reached => findLost_reachable formed other reached
  case warmIdle => exact fun n idle => next (warmResetLimit_idle idle)
  case warmLate => exact fun n resets late => next (warmResetLimit_late resets late)
  case offset => exact fun a since late => exec_timeOffset_late since late
  case inside => exact fun inside => exec_timeOffset_inside inside
  case unsynchronised => exact fun a since late => ⟨_, exec_timeUnsynchronised_late since late, raiseNode_hl _ _ _⟩
  case synchronised => exact fun inside => exec_timeUnsynchronised_inside inside
  case transmits =>
    rintro u rfl
    refine ⟨fun idle => here (transmit_none idle), fun q chosen up => ⟨_, here rfl, transmit_link_facts chosen up⟩,
      fun q chosen => ⟨_, here rfl, transmit_fresh_facts chosen⟩⟩

end Sys2Proof.Machine

/-!
PROOF. The commands of the stack die interface on a layer that takes them and on one that does not, one lemma for each branch, and the
settling of O1, O2, O3, O4 and O5 (R508, R510, R511, R513, R515 to R523, R525).
-/
namespace Sys2Proof.Machine

-- One proof after another, each on a stack of its own, for the check's memory.
set_option Elab.async false

/-- Settles O1: on a queue with a front a step is its command with the queue's rest, by definition. -/
theorem stepRunsTheFrontCommand : Obligations.StepRunsTheFrontCommand := by
  unfold Obligations.StepRunsTheFrontCommand
  intro s c rest front
  rw [step, front]

section
variable {s : State} {c l b k r m a v burst : Nat} {ap all : Bool}

/-! ### Commands that reach their layer -/

section
variable (held : s.chanOk c = true) (layer : l < 16)
include held

theorem exec_layerMrwb (addr : a < 256) (data : v < 256) : exec (.layerMrwb c a v) s = .next (layMrwb c a v s) :=
  (if_pos held).trans (by rw [Nat.mod_eq_of_lt addr, Nat.mod_eq_of_lt data])

include layer

theorem exec_layerAct (bank : b < 16) (row : r < 4096) : exec (.layerAct c l b r) s = .next (layAct c l b r s) :=
  (if_pos held).trans (by rw [Nat.mod_eq_of_lt layer, Nat.mod_eq_of_lt bank, Nat.mod_eq_of_lt row])

theorem exec_layerPre (bank : b < 16) : exec (.layerPre c l b) s = .next (layPre c l b s) :=
  (if_pos held).trans (by rw [Nat.mod_eq_of_lt layer, Nat.mod_eq_of_lt bank])

theorem exec_layerPreab : exec (.layerPreab c l all) s = .next (layPreab c l all s) :=
  (if_pos held).trans (by rw [Nat.mod_eq_of_lt layer])

theorem exec_layerRefpb (mask : m < 16) : exec (.layerRefpb c l (b % 4) m) s = .next (layRefpb c l (b % 4) m s) :=
  (if_pos held).trans (by rw [Nat.mod_eq_of_lt layer, Nat.mod_mod, Nat.mod_eq_of_lt mask])

theorem exec_layerRd (bank : b < 16) (line : k < 8) : exec (.layerRd c l b k ap) s = .next (layRd c l b k ap s).2 :=
  (if_pos held).trans (by rw [Nat.mod_eq_of_lt layer, Nat.mod_eq_of_lt bank, Nat.mod_eq_of_lt line])

theorem exec_layerRdc (bank : b < 16) : exec (.layerRdc c l b k ap) s = .next (layRdc c l b ap s) :=
  (if_pos held).trans (by rw [Nat.mod_eq_of_lt layer, Nat.mod_eq_of_lt bank])

theorem exec_layerWr (bank : b < 16) (line : k < 8) (preamble : Bool) :
    exec (.layerWr c l b k ap preamble burst) s = .next (layWr c l b k ap preamble burst s).2 :=
  (if_pos held).trans (by rw [Nat.mod_eq_of_lt layer, Nat.mod_eq_of_lt bank, Nat.mod_eq_of_lt line])

theorem exec_layerMrw (addr : a < 256) (data : v < 256) : exec (.layerMrw c l a v) s = .next (layMrw c l a v s) :=
  (if_pos held).trans (by rw [Nat.mod_eq_of_lt layer, Nat.mod_eq_of_lt addr, Nat.mod_eq_of_lt data])

theorem exec_layerMrr (addr : a < 256) : exec (.layerMrr c l a) s = .next (layMrr c l a s).2 :=
  (if_pos held).trans (by rw [Nat.mod_eq_of_lt layer, Nat.mod_eq_of_lt addr])

theorem exec_layerRdp : exec (.layerRdp c l) s = .next (layRdp c l s) := (if_pos held).trans (by rw [Nat.mod_eq_of_lt layer])

theorem exec_layerWrp (preamble : Bool) : exec (.layerWrp c l all preamble burst) s = .next (layWrp c l all preamble burst s) :=
  (if_pos held).trans (by rw [Nat.mod_eq_of_lt layer])

theorem exec_layerErrclr : exec (.layerErrclr c l all) s = .next (layErrclr c l all s) :=
  (if_pos held).trans (by rw [Nat.mod_eq_of_lt layer])

theorem exec_layerPreset : exec (.layerPreset c l all) s = .next (layPreset c l all s) :=
  (if_pos held).trans (by rw [Nat.mod_eq_of_lt layer])

theorem exec_layerLbw (preamble : Bool) : exec (.layerLbw c l preamble burst) s = .next (layLbw c l preamble burst s) :=
  (if_pos held).trans (by rw [Nat.mod_eq_of_lt layer])

theorem exec_layerLbr : exec (.layerLbr c l) s = .next (layLbr c l s) := (if_pos held).trans (by rw [Nat.mod_eq_of_lt layer])

end

/-! ### A layer that takes no command (R519, R530) -/

section
variable (off : s.layOn c l = false)
include off

theorem layAct_of_off : layAct c l b r s = s := if_pos (by simp [off])
theorem layPre_of_off : layPre c l b s = s := if_pos (by simp [off])
theorem layPreab_of_off : layPreab c l false s = s := by simp [layPreab, layPreLayer, off]
theorem layRefpb_of_off : layRefpb c l b m s = s := if_pos (by simp [off])
theorem layRd_of_off : layRd c l b k ap s = (none, s) := if_pos (by simp [off])
theorem layRdc_of_off : layRdc c l b ap s = s := if_pos (by simp [off])
theorem layWr_of_off (preamble : Bool) : layWr c l b k ap preamble burst s = (false, s) := if_pos (by simp [off])

end

section
variable (on : s.layOn c l = true)
include on

/-! ### Row commands on a layer that takes them (R510, R521, R525) -/

theorem layAct_opens (closed : (s.lay c l).openRow b = none) (whole : (s.lay c l).inRepair b = false) :
    layAct c l b r s = s.setLay c l ((s.lay c l).setOpen b (some r)) := by
  simp [layAct, on, closed, whole]

theorem layAct_alerts (bad : ((s.lay c l).openRow b).isSome = true ∨ (s.lay c l).inRepair b = true) :
    layAct c l b r s = protoAlert c l s := by
  simp [layAct, on, bad]

theorem layPre_closes (whole : (s.lay c l).inRepair b = false) :
    layPre c l b s = s.setLay c l ((s.lay c l).setOpen b none) := by
  simp [layPre, on, whole]

theorem layPre_alerts (repair : (s.lay c l).inRepair b = true) : layPre c l b s = protoAlert c l s := by
  simp [layPre, on, repair]

theorem layPreab_one : layPreab c l false s = s.setLay c l { s.lay c l with open_ := [] } := if_pos on

theorem layPreab_alerts (other : l ≠ 0) : layPreab c l true s = protoAlert c l s := by
  simp [layPreab, on, other]

theorem layRefpb_refreshes (ready : ∀ j ∈ refBanks b m, (s.lay c l).openRow j = none ∧ (s.lay c l).inRepair j = false) :
    layRefpb c l b m s = s.setLay c l { s.lay c l with
      refRow := forEach (refBanks b m) (fun j => alter 0 j fun n => (n + 2) % 4096) (s.lay c l).refRow } := by
  have none_bad : ((refBanks b m).any fun j => ((s.lay c l).openRow j).isSome || (s.lay c l).inRepair j) = false :=
    List.any_eq_false.mpr fun j named => by simp [ready j named]
  unfold layRefpb
  dsimp only
  rw [if_neg (by simp [on]), if_neg (by simp [none_bad])]

theorem layRefpb_alerts (bad : ∃ j ∈ refBanks b m, ((s.lay c l).openRow j).isSome = true ∨ (s.lay c l).inRepair j = true) :
    layRefpb c l b m s = protoAlert c l s := by
  have some_bad : ((refBanks b m).any fun j => ((s.lay c l).openRow j).isSome || (s.lay c l).inRepair j) = true := by
    obtain ⟨j, named, broken⟩ := bad
    exact List.any_eq_true.mpr ⟨j, named, by simpa using broken⟩
  unfold layRefpb
  dsimp only
  rw [if_neg (by simp [on]), if_pos some_bad]

/-! ### Column commands on a layer that takes them (R508, R510, R511, R521) -/

section
variable (closed : s.rowOf c l b = none)
include closed

theorem layRd_alerts : layRd c l b k ap s = (none, protoAlert c l s) := by
  simp [layRd, on, closed]
theorem layRdc_alerts : layRdc c l b ap s = protoAlert c l s := by
  simp [layRdc, on, closed]
theorem layWr_alerts (preamble : Bool) : layWr c l b k ap preamble burst s = (true, protoAlert c l s) := by
  simp [layWr, on, closed]

end

section
variable {row : Nat} (open_ : s.rowOf c l b = some row)
include open_

theorem layRdc_drives : layRdc c l b ap s = autoPre c l b ap
    (driveBurst c l (s.lay c l).beats true (fun beat _ => if beat % 2 = 0 then 0xAA else 0x55) (s.lay c l).inWidth s) := by
  simp [layRdc, on, open_]

theorem layWr_without_preamble : layWr c l b k ap false burst s = (true, alertOn c s) := by
  simp [layWr, on, open_]

theorem layWr_writes : layWr c l b k ap true burst s = (false, autoPre c l b ap
    { s with dram := writePhys s.dram (s.cellLine c l b row k) ((s.lay c l).takeBurst burst) }) := by
  simp [layWr, on, open_]

/-- What RD drives: the bytes of its line, those of a free value where their content is undefined. -/
theorem layRd_drives : (layRd c l b k ap s).2 =
    autoPre c l b ap (driveBurst c l (s.lay c l).beats true
      (fun beat g => match (s.lay c l).byteAt g beat with
        | some n => ((lineBytes c l b row k s).1.getD n 0).toNat
        | none => 0)
      (s.lay c l).inWidth (lineBytes c l b row k s).2) := by
  have same : (lineBytes c l b row k s).2.lay c l = s.lay c l := by unfold lineBytes; dsimp only; split <;> rfl
  simp only [layRd, on, open_, same]
  rfl

end

/-! ### Mode registers (R513, R517, R519, R533) -/

theorem layMrw_refused (bad : regWritable a v = false) : layMrw c l a v s = protoAlert c l s := by
  simp [layMrw, on, bad]

theorem layMrw_writes (good : regWritable a v = true) : layMrw c l a v s = layRegWrite c l a v s := by
  simp [layMrw, on, good]

theorem layMrwb_refused (layer : l < 16) (bad : regWritable a v = false) :
    layMrwb c a v s = alertOn c (forEach (layers16.filter fun j => s.layOn c j) (markAlert c) s) := by
  have some_on : (layers16.filter fun j => s.layOn c j).isEmpty = false := by
    rw [List.isEmpty_eq_false_iff]
    exact List.ne_nil_of_mem (List.mem_filter.mpr ⟨List.mem_range.mpr layer, on⟩)
  simp [layMrwb, bad, some_on]

theorem layRegWrite_plain (plain : a < 0x13 ∨ 0x17 < a ∨ (a = 0x17 ∧ v.testBit 0 = false)) :
    layRegWrite c l a v s = s.setLay c l { s.lay c l with regs := put (regReset a) a v (s.lay c l).regs } := by
  have seeds : ¬(a = 0x14 ∨ a = 0x15 ∨ a = 0x16) := by omega
  have capture : ¬(a = 0x17 ∧ v.testBit 0 = true) := by
    rintro ⟨rfl, set⟩
    simp [set] at plain
  have flag : a ≠ 0x13 := by omega
  unfold layRegWrite
  dsimp only
  rw [if_neg (by simp [on]), if_neg flag, if_neg (by simpa using capture), if_neg (by simpa [or_assoc] using seeds)]

theorem layRegWrite_seed (seed : a = 0x14 ∨ a = 0x15 ∨ a = 0x16) : layRegWrite c l a v s =
    s.setLay c l ({ s.lay c l with regs := put (regReset a) a v (s.lay c l).regs } : LayerChan).loadGens := by
  have capture : a ≠ 0x17 := by omega
  have flag : a ≠ 0x13 := by omega
  unfold layRegWrite
  dsimp only
  rw [if_neg (by simp [on]), if_neg flag, if_neg (by simp [capture]), if_pos (by simpa [or_assoc] using seed)]

theorem layRegWrite_capture (set : v.testBit 0 = true) : layRegWrite c l 0x17 v s =
    s.setLay c l { s.lay c l with regs := put (regReset 0x17) 0x17 v (s.lay c l).regs, capturing := true } := by
  unfold layRegWrite
  dsimp only
  rw [if_neg (by simp [on]), if_neg (by decide), if_pos (by simp [set]), if_neg (by decide)]

theorem layRegWrite_flag : layRegWrite c l 0x13 v s =
    ((s.setLay c l { s.lay c l with regs := put (regReset 0x13) 0x13 v (s.lay c l).regs }).setDie (stackOf c) l
      ({ s.die (stackOf c) l with flagTemp := v } : LayerDie).refreshFlag).setOb (0x3800 + stackOf c) 0x0C v := by
  unfold layRegWrite
  dsimp only
  rw [if_neg (by simp [on]), if_pos rfl]
  rfl

end

theorem layMrwb_writes (good : regWritable a v = true) : layMrwb c a v s = forEach layers16 (fun j => layRegWrite c j a v) s := if_pos good

end

/-- Settles O2, branch by branch. -/
theorem rowCommands : Obligations.RowCommands := by
  unfold Obligations.RowCommands
  intro s c l b r m held layer bank row mask
  rw [exec_layerAct held layer bank row, exec_layerPre held layer bank, exec_layerPreab held layer, exec_layerPreab held layer,
    exec_layerPreab held (by decide), exec_layerRefpb held layer mask]
  refine ⟨fun off => ?_, fun on => ⟨fun closed whole => ?_, fun bad => ?_, fun whole => ?_, fun repair => ?_, ?_, rfl, fun other => ?_,
    fun ready => ?_, fun bad => ?_⟩⟩
  · rw [layAct_of_off off, layPre_of_off off, layPreab_of_off off, layRefpb_of_off off]
    exact ⟨rfl, rfl, rfl, rfl⟩
  · rw [layAct_opens on closed whole]
  · rw [layAct_alerts on bad]
  · rw [layPre_closes on whole]
  · rw [layPre_alerts on repair]
  · rw [layPreab_one on]
  · rw [layPreab_alerts on other]
  · rw [layRefpb_refreshes on ready]
  · rw [layRefpb_alerts on bad]

/-- Settles O3, branch by branch. -/
theorem columnCommands : Obligations.ColumnCommands := by
  unfold Obligations.ColumnCommands
  intro s c l b k ap burst held layer bank line
  rw [exec_layerRd held layer bank line, exec_layerRdc held layer bank, exec_layerWr held layer bank line, exec_layerWr held layer bank line]
  refine ⟨fun off => ?_, fun on closed => ?_, fun row on open_ => ⟨?_, ?_, ?_, fun defined => ?_, fun undefined => ?_⟩⟩
  · rw [layRd_of_off off, layRdc_of_off off, layWr_of_off off]
    exact ⟨rfl, rfl, rfl⟩
  · rw [layRd_alerts on closed, layRdc_alerts on closed, layWr_alerts on closed]
    exact ⟨rfl, rfl, rfl⟩
  · rw [layRdc_drives on open_]
  · rw [layWr_without_preamble on open_]
  · rw [layWr_writes on open_]
  · have bytes : lineBytes c l b row k s = (readPhys s.dram (s.cellLine c l b row k), s) := if_neg (by simp [defined])
    rw [layRd_drives on open_, bytes] <;> rfl
  · have bytes : lineBytes c l b row k s = (leBytes 136 (s.freeValue 1088), s.takeFree) := if_pos undefined
    rw [layRd_drives on open_, bytes] <;> rfl

/-- Settles O4: what a register may hold is written as its kind asks, and the rest refused. -/
theorem registerWrites : Obligations.RegisterWrites := by
  unfold Obligations.RegisterWrites
  intro s c l a v held layer addr data on
  rw [exec_layerMrw held layer addr data, exec_layerMrwb held addr data]
  refine ⟨fun bad => ?_, fun good => ?_, fun good plain => ?_, fun good seed => ?_, fun good at_ set => ?_, fun good at_ => ?_⟩
  · rw [layMrw_refused on bad, layMrwb_refused on layer bad]
    exact ⟨rfl, rfl⟩
  · rw [layMrwb_writes good]
  · rw [layMrw_writes on good, layRegWrite_plain on plain]
  · rw [layMrw_writes on good, layRegWrite_seed on seed]
  · subst at_
    rw [layMrw_writes on good, layRegWrite_capture on set]
  · subst at_
    rw [layMrw_writes on good, layRegWrite_flag on]

end Sys2Proof.Machine

/-!
PROOF. Readout and calibration of a layer, one lemma for each branch, and the settling of O5 (R515, R517, R518).
-/
namespace Sys2Proof.Machine

-- One proof after another, each on a stack of its own, for the check's memory.
set_option Elab.async false

section
variable {s : State} {c l a burst : Nat} {all : Bool}

/-! ### The lanes of a burst of fields (R507) -/

/-- The byte on the lanes of a group in a beat is the field that stands there. -/
theorem laneByte_packed {v : Nat → Nat → Nat} (fits : ∀ b g, v b g < 2 ^ 8) {b g n : Nat} (beat : b < n) (group : g < 18) :
    laneByte (packed 144 (fun b => packed 8 (v b) 18) n) b g = v b g := by
  have beats : ∀ b, packed 8 (v b) 18 < 2 ^ 144 := fun b => packed_lt (fits b) 18
  rw [← packed_field (fits b) group, ← packed_field beats beat, ← Nat.mod_mul_right_div_self,
    Nat.mod_mod_of_dvd _ ⟨2 ^ (144 - (8 * g + 8)), by rw [← Nat.pow_add, ← Nat.pow_add]; congr 1; omega⟩, Nat.mod_mul_right_div_self,
    Nat.div_div_eq_div_mul, ← Nat.pow_add, laneByte, Nat.shiftRight_eq_div_pow]
  rfl

/-! ### The pattern (R517) -/

theorem genBit_lt (g : Nat) : genBit g < 2 := Nat.xor_lt_two_pow (n := 1) (Nat.mod_lt _ (by decide)) (Nat.mod_lt _ (by decide))

theorem LayerChan.patternBit_lt (x : LayerChan) (g i b : Nat) : (x.patternBit g i b).getD 0 < 2 ^ 1 := by
  unfold LayerChan.patternBit
  split
  · exact Nat.mod_lt _ (by decide)
  · exact genBit_lt _
  · exact Nat.xor_lt_two_pow (genBit_lt _) (Nat.mod_lt _ (by decide))
  · decide

theorem LayerChan.patternByte_lt (x : LayerChan) (g b : Nat) : (x.patternByte g b).getD 0 < 2 ^ 8 := by
  unfold LayerChan.patternByte
  split
  · decide
  · have bits := packed_lt (w := 1) (fun i => x.patternBit_lt g i b) 8
    simpa [packed] using bits

theorem LayerChan.patternByte_isSome (x : LayerChan) (drives : x.reg 0x14 % 4 ≠ 3) (g b : Nat) :
    some ((x.patternByte g b).getD 0) = x.patternByte g b := by
  rw [LayerChan.patternByte, if_neg drives, Option.getD_some]

/-- One burst of the pattern on all lanes. -/
def LayerChan.patternBurst (x : LayerChan) : Nat := packed 144 (fun b => packed 8 (fun g => (x.patternByte g b).getD 0) 18) 8

theorem LayerChan.laneByte_patternBurst (x : LayerChan) (drives : x.reg 0x14 % 4 ≠ 3) {b g : Nat} (beat : b < 8) (group : g < 18) :
    some (laneByte x.patternBurst b g) = x.patternByte g b := by
  rw [LayerChan.patternBurst, laneByte_packed (fun b g => x.patternByte_lt g b) beat group, x.patternByte_isSome drives]

/-! ### The layers of a calibration command (R518) -/

theorem calLayers_all : calLayers c l true s = layers16.filter fun j => s.layOn c j := rfl

section
variable (on : s.layOn c l = true)
include on

theorem calLayers_one : calLayers c l false s = [l] := by simp [calLayers, on]

theorem calLayers_ne_nil (layer : l < 16) : (calLayers c l all s).isEmpty = false := by
  rw [List.isEmpty_eq_false_iff]
  refine List.ne_nil_of_mem (a := l) ?_
  cases all with
  | false => simp [calLayers_one on]
  | true => exact List.mem_filter.mpr ⟨List.mem_range.mpr layer, on⟩

/-! ### Readout (R515) -/

theorem layMrr_alerts (odd : a % 8 ≠ 0) : (layMrr c l a s).2 = protoAlert c l s := by
  simp [layMrr, on, odd]

theorem layMrr_drives (aligned : a % 8 = 0) : (layMrr c l a s).2 = clearOnRead c l a
    (driveBurst c l 8 false (fun b _ => ((List.range 8).map fun i => layReg c l (a + i) s).getD b 0) (fun g => g == 16) s) := by
  unfold layMrr
  rw [if_neg (by simp [on]), if_neg (by simp [aligned])]

/-! ### Calibration (R517, R518) -/

theorem layRdp_silent (none_ : (s.lay c l).reg 0x14 % 4 = 3) : layRdp c l s = s.setDch c { s.dch c with bus := 0, driven := 0 } := by
  unfold layRdp
  rw [if_neg (by simp [on])]
  exact if_pos none_

theorem layRdp_drives (drives : (s.lay c l).reg 0x14 % 4 ≠ 3) : layRdp c l s =
    (s.setLay c l (forEach (List.range 18) (fun g x => x.stepGroup g 8) (s.lay c l))).setDch c
      { s.dch c with bus := (s.lay c l).patternBurst, driven := 2 ^ 144 - 1 } := by
  have beat (a b : Nat) : (List.range 18).foldl (fun a g => a + ((s.lay c l).patternByte g b).getD 0 * 2 ^ (144 * b + 8 * g)) a =
      a + packed 8 (fun g => ((s.lay c l).patternByte g b).getD 0) 18 * 2 ^ (144 * b) := foldl_add_packed 18 a (144 * b)
  unfold layRdp
  rw [if_neg (by simp [on])]
  dsimp only
  rw [if_neg drives]
  simp only [beat]
  rfl

theorem layWrp_without_preamble (layer : l < 16) : layWrp c l all false burst s = alertOn c s := by
  unfold layWrp
  dsimp only
  rw [if_neg (by simp [calLayers_ne_nil on layer]), if_pos (by rfl)]

theorem layWrp_compares (layer : l < 16) : layWrp c l all true burst s = forEach (calLayers c l all s) (layWrpOne c burst) s := by
  unfold layWrp
  dsimp only
  rw [if_neg (by simp [calLayers_ne_nil on layer]), if_neg (by decide)]

theorem layLbw_captures : layLbw c l true burst s = s.setLay c l { s.lay c l with loop := burst % 2 ^ 1152 } := by
  unfold layLbw
  rw [if_neg (by simp [on]), if_neg (by decide)]

theorem layLbw_without_preamble : layLbw c l false burst s = alertOn c s := by
  unfold layLbw
  rw [if_neg (by simp [on]), if_pos (by rfl)]

theorem layLbr_drives : layLbr c l s = s.setDch c { s.dch c with bus := (s.lay c l).loop, driven := 2 ^ 144 - 1 } :=
  if_neg (by simp [on])

end
end

/-- Settles O5, branch by branch. -/
theorem readoutAndCalibration : Obligations.ReadoutAndCalibration := by
  unfold Obligations.ReadoutAndCalibration
  intro s c l a burst held layer addr on
  rw [exec_layerMrr held layer addr, exec_layerRdp held layer, exec_layerLbw held layer, exec_layerLbw held layer, exec_layerLbr held layer]
  refine ⟨fun odd => ?_, fun aligned => ?_, fun silent => ?_, fun drives => ?_, fun all => ⟨?_, ?_, ?_, ?_⟩, ⟨calLayers_one on, calLayers_all⟩,
    ?_, ?_, ?_⟩
  · rw [layMrr_alerts on odd]
  · rw [layMrr_drives on aligned]
  · rw [layRdp_silent on silent]
  · refine ⟨_, (exec_layerRdp held layer).trans (congrArg _ (layRdp_drives on drives)), _, rfl, fun b g beat group => ?_⟩
    exact (s.lay c l).laneByte_patternBurst drives beat group
  · rw [exec_layerWrp held layer, layWrp_without_preamble on layer]
  · rw [exec_layerWrp held layer, layWrp_compares on layer]
    rfl
  · rw [exec_layerErrclr held layer, layErrclr]
  · rw [exec_layerPreset held layer, layPreset]
  · rw [layLbw_captures on]
  · rw [layLbw_without_preamble on]
  · rw [layLbr_drives on]

end Sys2Proof.Machine

/-!
PROOF. The modes of a layer, one lemma for each branch, and the settling of O6 (R519, R520, R530 to R532, R534).
-/
namespace Sys2Proof.Machine

-- One proof after another, each on a stack of its own, for the check's memory.
set_option Elab.async false

/-! ### Runs over a list -/

/-- What every element of a run keeps, the run keeps. -/
theorem forEach_invariant {σ α : Type} {p : σ → Prop} {f : α → σ → σ} (each : ∀ a s, p s → p (f a s)) (l : List α) {s : σ} (start : p s) :
    p (forEach l f s) := by
  induction l generalizing s with
  | nil => exact start
  | cons a l ih => exact ih (each a s start)

/-- Two runs that agree wherever what they keep holds. -/
theorem forEach_congr_of {σ α : Type} {p : σ → Prop} {f g : α → σ → σ} (each : ∀ a s, p s → p (g a s)) (same : ∀ a s, p s → f a s = g a s)
    (l : List α) {s : σ} (start : p s) : forEach l f s = forEach l g s := by
  induction l generalizing s with
  | nil => rfl
  | cons a l ih =>
    have first : forEach (a :: l) f s = forEach l f (g a s) := congrArg (forEach l f) (same a s start)
    exact first.trans (ih (each a s start))

/-! ### What the operations of a layer may change -/

/-- Two states that differ in what layers and dies hold, and in nothing else. -/
def LayersOnly (s t : State) : Prop := ∃ layers dies, t = { s with dram := { s.dram with layers := layers, dies := dies } }

namespace LayersOnly
variable {s t u : State}

theorem refl (s : State) : LayersOnly s s := ⟨_, _, rfl⟩

theorem trans (h : LayersOnly s t) (k : LayersOnly t u) : LayersOnly s u := by
  obtain ⟨_, _, rfl⟩ := h
  obtain ⟨_, _, rfl⟩ := k
  exact ⟨_, _, rfl⟩

theorem forEach {α : Type} {f : α → State → State} (each : ∀ a s, LayersOnly s (f a s)) (l : List α) (s : State) :
    LayersOnly s (forEach l f s) :=
  forEach_invariant (p := LayersOnly s) (fun a t h => h.trans (each a t)) l (refl s)

theorem setLay (s : State) (c l : Nat) (x : LayerChan) : LayersOnly s (s.setLay c l x) := ⟨_, _, rfl⟩
theorem setDie (s : State) (st l : Nat) (d : LayerDie) : LayersOnly s (s.setDie st l d) := ⟨_, _, rfl⟩

theorem dch (h : LayersOnly s t) (c : Nat) : t.dch c = s.dch c := by
  obtain ⟨_, _, rfl⟩ := h
  rfl

theorem now (h : LayersOnly s t) : t.now = s.now := by
  obtain ⟨_, _, rfl⟩ := h
  rfl

theorem srAdvance (c l : Nat) (s : State) : LayersOnly s (srAdvance c l s) := by
  unfold Machine.srAdvance
  split
  · exact refl s
  · exact setLay s _ _ _

theorem layResetOne (c l : Nat) (s : State) : LayersOnly s (layResetOne c l s) := (setLay s _ _ _).trans (setDie _ _ _ _)

end LayersOnly

/-- Two memories that differ in what is undefined, and in nothing else. -/
def LostOnly (m n : Dram) : Prop := ∃ lost rewritten, n = { m with lost := lost, rewritten := rewritten }

namespace LostOnly
variable {m n o : Dram}

theorem refl (m : Dram) : LostOnly m m := ⟨_, _, rfl⟩

theorem trans (h : LostOnly m n) (k : LostOnly n o) : LostOnly m o := by
  obtain ⟨_, _, rfl⟩ := h
  obtain ⟨_, _, rfl⟩ := k
  exact ⟨_, _, rfl⟩

theorem forEach {α : Type} {f : α → Dram → Dram} (each : ∀ a m, LostOnly m (f a m)) (l : List α) (m : Dram) : LostOnly m (forEach l f m) :=
  forEach_invariant (p := LostOnly m) (fun a t h => h.trans (each a t)) l (refl m)

theorem loseSegments (c mask : Nat) (m : Dram) : LostOnly m (loseSegments c mask m) :=
  forEach (fun _ m => forEach (fun _ _ => ⟨_, _, rfl⟩) _ m) _ m

/-- What is lost of the segments that are not retained changes nothing but what is undefined. -/
theorem loseContent (c mask : Nat) (s : State) : ∃ n, LostOnly s.dram n ∧ loseContent c mask s = { s with dram := n } := by
  refine forEach_invariant (p := fun t => ∃ n, LostOnly s.dram n ∧ t = { s with dram := n }) ?_ _ ⟨_, loseSegments c mask s.dram, rfl⟩
  rintro p _ ⟨n, lost, rfl⟩
  exact ⟨_, lost.trans ⟨_, _, rfl⟩, rfl⟩

end LostOnly

section
variable {s : State} {c l cls mask : Nat}

theorem loseContent_dch (c mask d : Nat) (s : State) : (loseContent c mask s).dch d = s.dch d := by
  obtain ⟨_, ⟨_, _, rfl⟩, same⟩ := LostOnly.loseContent c mask s
  rw [same]
  rfl

/-! ### Self-refresh (R530 to R532) -/

section
variable (some_on : ∃ j ∈ layers16, s.layOn c j = true)
include some_on

theorem layersOn_ne_nil : (layers16.filter fun j => s.layOn c j).isEmpty = false := by
  obtain ⟨j, listed, on⟩ := some_on
  exact List.isEmpty_eq_false_iff.mpr (List.ne_nil_of_mem (List.mem_filter.mpr ⟨listed, on⟩))

theorem laySre_enters (real : cls < 3) (idle : ∀ j ∈ layers16, s.layOn c j = true → (s.lay c j).idle = true) :
    laySre c cls mask s = (forEach layers16 (fun j s' => s'.setLay c j { s'.lay c j with srSince := s.now }) s).setDch c
      { s.dch c with selfRef := some (cls, mask) } := by
  have none_open : ((layers16.filter fun j => s.layOn c j).any fun j => !(s.lay c j).idle) = false := by
    refine List.any_eq_false.mpr fun j listed => ?_
    obtain ⟨layer, on⟩ := List.mem_filter.mp listed
    simp [idle j layer on]
  have runs : forEach layers16 (fun j s' => s'.setLay c j { s'.lay c j with srSince := s'.now }) s =
      forEach layers16 (fun j s' => s'.setLay c j { s'.lay c j with srSince := s.now }) s := by
    refine forEach_congr_of (p := fun t : State => t.now = s.now) (fun j t kept => ?_) (fun j t kept => ?_) layers16 ?_
    · exact kept
    · rw [kept]
    · rfl
  have asleep : (forEach layers16 (fun j s' => s'.setLay c j { s'.lay c j with srSince := s.now }) s).dch c = s.dch c := by
    refine (LayersOnly.forEach (fun j t => ?_) layers16 s).dch c
    exact .setLay t c j _
  unfold laySre
  dsimp only
  rw [if_neg (by simp [layersOn_ne_nil some_on]), if_neg (by simp [none_open, real.ne]), runs, asleep]

theorem layParity_alerts : layParity c s = alertOn c (forEach (layers16.filter fun j => s.layOn c j) (fun j s' =>
    s'.setLay c j { s'.lay c j with parityErr := true, parityCount := min 255 ((s'.lay c j).parityCount + 1) }) s) :=
  if_neg (by simp [layersOn_ne_nil some_on])

end

/-- A layer with an open bank draws an alert, as each such layer notes. -/
theorem laySre_alerts (real : cls < 3) (bad : ∃ j ∈ layers16, s.layOn c j = true ∧ (s.lay c j).idle = false) : laySre c cls mask s =
    alertOn c (forEach (layers16.filter fun j => s.layOn c j && !(s.lay c j).idle) (markAlert c) s) := by
  obtain ⟨j, listed, on, open_⟩ := bad
  have some_open : ((layers16.filter fun j => s.layOn c j).any fun j => !(s.lay c j).idle) = true :=
    List.any_eq_true.mpr ⟨j, List.mem_filter.mpr ⟨listed, on⟩, by simp [open_]⟩
  have marked : ((layers16.filter fun j => s.layOn c j).filter fun j => cls == 3 || !(s.lay c j).idle) =
      layers16.filter fun j => s.layOn c j && !(s.lay c j).idle := by
    rw [List.filter_filter]
    exact congrArg (List.filter · layers16) (funext fun j => by simp [beq_eq_false_iff_ne.mpr real.ne, Bool.and_comm])
  unfold laySre
  dsimp only
  rw [if_neg (by simp [layersOn_ne_nil ⟨j, listed, on⟩]), if_pos (by simp [some_open]), marked]

theorem laySrx_awake (awake : (s.dch c).selfRef = none) : laySrx c s = s := by simp [laySrx, awake]

/-- The node as SRX finds it, its refresh counters brought up. -/
def State.roused (s : State) (c : Nat) : State :=
  forEach layers16 (fun j s' => s'.setLay c j { s'.lay c j with srSince := 0 }) (forEach layers16 (fun j => srAdvance c j) s)

theorem laySrx_leaves (asleep : (s.dch c).selfRef = some (cls, mask)) : laySrx c s = (loseContent c mask (s.roused c)).setDch c
    { (loseContent c mask (s.roused c)).dch c with selfRef := none } := by
  rw [loseContent_dch]
  simp only [laySrx, asleep]
  rfl

/-! ### The reset pattern and capture mode (R519, R534) -/

/-- The reset pattern resets the layers of a node whose refresh counters are brought up and whose cells are as SRX would leave them. -/
theorem layReset_eq (c : Nat) (s : State) : ∃ t,
    layReset c s = (forEach layers16 (layResetOne c) t).setDch c { t.dch c with selfRef := none } ∧
    (∃ layers dies lost rewritten,
      t = { s with dram := { s.dram with layers := layers, dies := dies, lost := lost, rewritten := rewritten } }) ∧
    ((s.dch c).selfRef = none → t = s) := by
  cases asleep : (s.dch c).selfRef with
  | none =>
    have still : forEach layers16 (srAdvance c) s = s := forEach_of_fixed fun j _ => by simp [srAdvance, asleep]
    refine ⟨s, ?_, ⟨_, _, _, _, rfl⟩, fun _ => rfl⟩
    unfold layReset
    dsimp only
    rw [still, asleep]
  | some p =>
    have advanced := LayersOnly.forEach (LayersOnly.srAdvance c) layers16 s
    have still : ((forEach layers16 (srAdvance c) s).dch c).selfRef = some p := by rw [advanced.dch, asleep]
    refine ⟨loseContent c p.2 (forEach layers16 (srAdvance c) s), ?_, ?_, nofun⟩
    · unfold layReset
      dsimp only
      rw [still]
    · obtain ⟨layers, dies, same⟩ := advanced
      obtain ⟨_, ⟨lost, rewritten, rfl⟩, memory⟩ := LostOnly.loseContent c p.2 (forEach layers16 (srAdvance c) s)
      rw [memory, same]
      exact ⟨layers, dies, lost, rewritten, rfl⟩

theorem layReset_spec (c : Nat) (s : State) : ∃ u : Dram,
    layReset c s = ({ s with dram := u } : State).setDch c { ({ s with dram := u } : State).dch c with selfRef := none } ∧
    u.cells = s.dram.cells ∧ u.fill = s.dram.fill ∧
    ((s.dch c).selfRef = none → u.lost = s.dram.lost ∧ u.rewritten = s.dram.rewritten) := by
  obtain ⟨t, eq, ⟨_, _, _, _, memory⟩, awake⟩ := layReset_eq c s
  obtain ⟨_, _, reset⟩ := LayersOnly.forEach (LayersOnly.layResetOne c) layers16 t
  refine ⟨(forEach layers16 (layResetOne c) t).dram, ?_, ?_, ?_, fun up => ?_⟩
  · rw [eq, reset, memory]
    rfl
  · rw [reset, memory]
  · rw [reset, memory]
  · rw [reset, awake up]
    exact ⟨rfl, rfl⟩

theorem layCaptureExit_leaves (capturing : (s.lay c l).capturing = true) : layCaptureExit c l s =
    s.setLay c l { s.lay c l with capturing := false, regs := put 0 0x17 0 (s.lay c l).regs } := if_pos capturing

theorem layCaptureExit_idle (idle : (s.lay c l).capturing = false) : layCaptureExit c l s = s := if_neg (by simp [idle])

end

/-- Settles O6, branch by branch. -/
theorem layerModes : Obligations.LayerModes := by
  unfold Obligations.LayerModes
  intro s c l cls mask held layer
  have exit : exec (.caCaptureExit c l) s = .next (layCaptureExit c l s) := (if_pos held).trans (by rw [Nat.mod_eq_of_lt layer])
  rw [exit]
  refine ⟨fun some_on real fits idle => ?_, fun bad real => ?_, fun cl m asleep => ?_, fun awake => ?_, fun some_on => ?_, ?_,
    fun capturing => ?_, fun idle => ?_⟩
  · refine ⟨_, (if_pos held).trans ?_, laySre_enters some_on real idle⟩
    rw [Nat.mod_eq_of_lt (by omega : cls < 4), Nat.mod_eq_of_lt fits]
  · refine ⟨_, (if_pos held).trans ?_, laySre_alerts (mask := mask % 65536) real bad⟩
    rw [Nat.mod_eq_of_lt (by omega : cls < 4)]
  · exact ⟨_, if_pos held, laySrx_leaves asleep⟩
  · exact (if_pos held).trans (congrArg Host.Outcome.next (laySrx_awake awake))
  · exact (if_pos held).trans (congrArg Host.Outcome.next (layParity_alerts some_on))
  · exact ⟨_, if_pos held, layReset_spec c s⟩
  · rw [layCaptureExit_leaves capturing]
  · rw [layCaptureExit_idle idle]

end Sys2Proof.Machine

/-!
PROOF. Row repair, sensor conversions and the line that WR stores, and the settling of O7, O8 and O10 (R505, R510, R516, R527, R528, R530,
R531, R533).
-/
namespace Sys2Proof.Machine

-- One proof after another, each on a stack of its own, for the check's memory.
set_option Elab.async false

section
variable {s : State} {c l b r i : Nat}

/-! ### Row repair (R527, R528) -/

/-- A spare row that is lost is undefined. -/
theorem undefinedLine_loseSpare (c l b row : Nat) (m : Dram) : undefinedLine (loseSpare c l b row m) (physLine c l b row 0) = true := by
  have lost : look 0 (fillKey (physLine c l b row 0)) (loseSpare c l b row m).lost = 1 := look_put_of_ne (by decide) _ _
  have fresh : look 0 (physLine c l b row 0) (loseSpare c l b row m).rewritten = 0 := look_of_unlisted fun p listed same => by
    simp [loseSpare, same] at listed
  simp [undefinedLine, lost, fresh]

theorem softMap_repeat (held : look 0 (4096 * b + r) (s.lay c l).soft = i + 1) : softMap c l b r i s = s := if_pos held

theorem softMap_undefined (fresh : look 0 (4096 * b + r) (s.lay c l).soft ≠ i + 1) :
    undefinedLine (softMap c l b r i s).dram (physLine c l b (4096 + i) 0) = true := by
  have maps : softMap c l b r i s = _ := if_neg fresh
  rw [maps]
  exact undefinedLine_loseSpare _ _ _ _ _

section
variable (on : s.layOn c l = true)
include on

theorem layRpr_alerts (bad : (s.lay c l).idle = false ∨ (s.lay c l).inRepair b = true) : layRpr c l b r s = protoAlert c l s := by
  unfold layRpr
  dsimp only
  rw [if_neg (by simp [on]), if_pos (by simpa using bad)]

section
variable (idle : (s.lay c l).idle = true) (whole : (s.lay c l).inRepair b = false)
include idle whole

theorem layRpr_soft (soft : ((s.lay c l).reg 0x18).testBit 3 = false) :
    layRpr c l b r s = softMap c l b r ((s.lay c l).reg 0x18 % 8) s := by
  unfold layRpr
  dsimp only
  rw [if_neg (by simp [on]), if_neg (by simp [idle, whole]), if_neg (by simp [soft])]

theorem layRpr_hard (hard : ((s.lay c l).reg 0x18).testBit 3 = true) :
    layRpr c l b r s = s.setLay c l { s.lay c l with busy := some (b, r, (s.lay c l).reg 0x18 % 8) } := by
  unfold layRpr
  dsimp only
  rw [if_neg (by simp [on]), if_neg (by simp [idle, whole]), if_pos hard]

end
end

section
variable (busy : (s.lay c l).busy = some (b, r, i))
include busy

/-- A mapping that is fused; a spare row to which the row was not mapped is lost. -/
theorem layHardDone_fused : layHardDone c l true s =
    let u := s.setLay c l { s.lay c l with busy := none, hardFailed := false, hard := put 0 (4096 * b + r) (i + 1) (s.lay c l).hard }
    if look 0 (4096 * b + r) (s.lay c l).soft = i + 1 ∨ look 0 (4096 * b + r) (s.lay c l).hard = i + 1 then u
    else { u with dram := loseSpare c l b (4096 + i) u.dram } := by
  simp [layHardDone, busy]

theorem layHardDone_failed : layHardDone c l false s = s.setLay c l { s.lay c l with busy := none, hardFailed := true } := by
  simp [layHardDone, busy]

/-- The layer's own part of a hard repair that ends writes the memory alone. -/
theorem layHardDone_parts (ok : Bool) : layHardDone c l ok s = { s with dram := (layHardDone c l ok s).dram } := by
  cases ok with
  | false => rw [layHardDone_failed busy]; rfl
  | true => rw [layHardDone_fused busy]; dsimp only; split <;> rfl

/-- The end of a hard repair: the layer's part, then what the controller counts, raises and begins next. -/
theorem hardDone_spec (ok : Bool) (canonical : Canonical objDefault s.obj) : ∃ u, hardDone c l ok s = startHard c l u ∧
    u.dram = (layHardDone c l ok s).dram ∧ u.ob (0x3800 + stackOf c) (if ok then 9 else 0x0A) =
      (s.ob (0x3800 + stackOf c) (if ok then 9 else 0x0A) + 1) % 2 ^ objWidth (objKey (0x3800 + stackOf c) (if ok then 9 else 0x0A)) := by
  have counted (t : State) (sub : Nat) (objects : t.obj = s.obj) : (t.bump (0x3800 + stackOf c) sub).ob (0x3800 + stackOf c) sub =
      (s.ob (0x3800 + stackOf c) sub + 1) % 2 ^ objWidth (objKey (0x3800 + stackOf c) sub) := by
    have reads : t.ob (0x3800 + stackOf c) sub = s.ob (0x3800 + stackOf c) sub := by rw [State.ob, objects, State.ob]
    rw [← reads]
    exact State.ob_setOb_eq (objects ▸ canonical) _ _ _
  have objects : (layHardDone c l ok s).obj = s.obj := by rw [layHardDone_parts busy ok]
  have quiet : logObject (0x3800 + stackOf c) = false := by simp [logObject]; omega
  unfold hardDone
  rw [busy]
  cases ok with
  | true =>
    exact ⟨_, rfl, by rw [raise_dram]; rfl, ((raise_reports _ _ _ _).objects _ _ (by decide) quiet).trans (counted _ 9 objects)⟩
  | false =>
    exact ⟨_, rfl, by rw [raise_dram]; rfl, ((raise_reports _ _ _ _).objects _ _ (by decide) quiet).trans (counted _ 0x0A objects)⟩

end

theorem hardDone_idle {ok : Bool} (idle : (s.lay c l).busy = none) : hardDone c l ok s = s := by simp [hardDone, idle]

end

/-- Settles O7, branch by branch. -/
theorem rowRepair : Obligations.RowRepair := by
  unfold Obligations.RowRepair
  intro s c l b r held layer bank row
  have rpr : exec (.layerRpr c l b r) s = .next (layRpr c l b r s) :=
    (if_pos held).trans (by rw [Nat.mod_eq_of_lt layer, Nat.mod_eq_of_lt bank, Nat.mod_eq_of_lt row])
  have done (ok : Bool) : exec (.hardRepairDone c l ok) s = .next (hardDone c l ok s) :=
    if_pos (by simpa [layer] using of_decide_eq_true held)
  refine ⟨fun on idle whole soft => ?_, fun on idle whole hard => ?_, fun on bad => ?_, fun ok idle => ?_, fun ok i busy canonical => ?_,
    fun i busy => ⟨⟨fun mapped => ?_, fun soft hard => ?_⟩, layHardDone_failed busy⟩⟩
  · have maps := layRpr_soft (r := r) on idle whole soft
    refine ⟨rpr.trans (congrArg _ maps), fun held => ?_, fun fresh => ⟨_, rpr, ?_⟩⟩
    · rw [rpr, maps, softMap_repeat held]
    · rw [maps]
      exact softMap_undefined fresh
  · rw [rpr, layRpr_hard on idle whole hard]
  · rw [rpr, layRpr_alerts on bad]
  · rw [done, hardDone_idle idle]
  · exact ⟨_, done ok, hardDone_spec busy ok canonical⟩
  · exact (layHardDone_fused busy).trans (if_pos mapped)
  · exact (layHardDone_fused busy).trans (if_neg (by simp [soft, hard]))

/-- Settles O8: the branches of the conversion's own definition, the code being one of 16 bits. -/
theorem sensorConversion : Obligations.SensorConversion := by
  unfold Obligations.SensorConversion
  intro s st l i code stack layer sensor fits
  have stored : (if decide (-256 ≤ signed 16 code) && decide (signed 16 code ≤ 767) then code % 65536 else 0x8000) =
      if -256 ≤ signed 16 code ∧ signed 16 code ≤ 767 then code else 0x8000 := by
    simp [Nat.mod_eq_of_lt fits]
  refine ⟨_, (if_pos (by simp [stack, sensor])).trans (by rw [Nat.mod_eq_of_lt layer]), ?_⟩
  unfold laySensor
  dsimp only
  rw [stored]

/-! ### The cells a write stores (R510) -/

section
variable {m : Dram}

theorem writeCells_parts (m : Dram) (addr : Nat) (bs : List Byte) :
    writeCells m addr bs = { m with cells := (writeCells m addr bs).cells } := by
  induction bs generalizing m addr with
  | nil => rfl
  | cons b bs ih => exact ih (writeCell m addr b) (addr + 1)

/-- Cells outside those written read as they did. -/
theorem readCell_writeCells_other {addr j : Nat} (bs : List Byte) (out : j < addr ∨ addr + bs.length ≤ j) :
    readCell (writeCells m addr bs) j = readCell m j := by
  induction bs generalizing m addr with
  | nil => rfl
  | cons b bs ih =>
    rw [List.length_cons] at out
    have apart : j ≠ addr := by omega
    exact (ih (m := writeCell m addr b) (by omega)).trans (look_put_ne _ apart)

/-- A cell that is written reads as its byte. -/
theorem readCell_writeCells_at {addr i : Nat} {bs : List Byte} (canonical : Canonical (cellDefault m.fill) m.cells) (held : i < bs.length) :
    readCell (writeCells m addr bs) (addr + i) = bs[i] := by
  induction bs generalizing m addr i with
  | nil => exact absurd held (by simp)
  | cons b bs ih =>
    cases i with
    | zero =>
      exact (readCell_writeCells_other (m := writeCell m addr b) bs (.inl (Nat.lt_succ_self addr))).trans (look_put_eq canonical.1)
    | succ i =>
      have shift : addr + (i + 1) = addr + 1 + i := by omega
      rw [shift]
      exact ih (m := writeCell m addr b) canonical.put (by simpa using held)

theorem writePhys_cells (m : Dram) (k : Nat) (bs : List Byte) : (writePhys m k bs).cells = (writeCells m (136 * k) (fitBytes 136 bs)).cells := by
  unfold writePhys
  dsimp only
  split <;> rfl

theorem writePhys_parts (m : Dram) (k : Nat) (bs : List Byte) :
    writePhys m k bs = { m with cells := (writePhys m k bs).cells, rewritten := (writePhys m k bs).rewritten } := by
  rw [writePhys_cells]
  unfold writePhys
  dsimp only
  split
  · rw [writeCells_parts]
  · rw [writeCells_parts]

theorem readCell_writePhys (m : Dram) (k : Nat) (bs : List Byte) (j : Nat) :
    readCell (writePhys m k bs) j = readCell (writeCells m (136 * k) (fitBytes 136 bs)) j := by
  have fill : (writePhys m k bs).fill = (writeCells m (136 * k) (fitBytes 136 bs)).fill := by rw [writePhys_parts, writeCells_parts]
  rw [readCell, fill, writePhys_cells, readCell]

theorem fitBytes_length (k : Nat) (bs : List Byte) : (fitBytes k bs).length = k := by
  simp [fitBytes, zeroBytes]
  omega

theorem fitBytes_of_length {k : Nat} {bs : List Byte} (length : bs.length = k) : fitBytes k bs = bs := by
  simp [fitBytes, zeroBytes, ← length]

/-- A line that is written and read back. -/
theorem readPhys_writePhys {k : Nat} {bs : List Byte} (canonical : Canonical (cellDefault m.fill) m.cells) (length : bs.length = 136) :
    readPhys (writePhys m k bs) k = bs := by
  refine List.ext_getElem (by simp [readPhys, length]) fun i _ held => ?_
  simp only [readPhys, List.getElem_map, List.getElem_range, readCell_writePhys, fitBytes_of_length length]
  exact readCell_writeCells_at canonical held

/-- The cells of other lines read as they did. -/
theorem readCell_writePhys_other {k j : Nat} (bs : List Byte) (other : j / 136 ≠ k) :
    readCell (writePhys m k bs) j = readCell m j := by
  rw [readCell_writePhys]
  exact readCell_writeCells_other _ (by rw [fitBytes_length]; omega)

/-- A line that is written is defined. -/
theorem undefinedLine_writePhys (m : Dram) (k : Nat) (bs : List Byte) : undefinedLine (writePhys m k bs) k = false := by
  have lost : (writePhys m k bs).lost = m.lost := by rw [writePhys_parts]
  by_cases was : look 0 (fillKey k) m.lost = 1
  · have kept : (writeCells m (136 * k) (fitBytes 136 bs)).lost = m.lost := by rw [writeCells_parts]
    have rewritten : look 0 k (writePhys m k bs).rewritten = 1 := by
      unfold writePhys
      dsimp only
      rw [kept, if_pos was]
      exact look_put_of_ne (by decide) _ _
    simp [undefinedLine, rewritten]
  · simp [undefinedLine, lost, was]

theorem writePhys_canonical {k : Nat} {bs : List Byte} (canonical : Canonical (cellDefault m.fill) m.cells) :
    Canonical (cellDefault (writePhys m k bs).fill) (writePhys m k bs).cells := by
  rw [writePhys_cells, writePhys_parts]
  exact writeCells_canonical _ _ canonical

end

/-- Settles O10: the memory after WR is `writePhys` of the line that the lanes give. -/
theorem writeThenRead : Obligations.WriteThenRead := by
  unfold Obligations.WriteThenRead
  intro s t c l b k row burst held layer bank line on open_ canonical gives
  have length : ((s.lay c l).takeBurst burst).length = 136 := by simp [LayerChan.takeBurst]
  rw [exec_layerWr held layer bank line, layWr_writes on open_] at gives
  obtain rfl : { s with dram := writePhys s.dram (s.cellLine c l b row k) ((s.lay c l).takeBurst burst) } = t := Host.Outcome.next.inj gives
  exact ⟨readPhys_writePhys canonical length, fun addr other => readCell_writePhys_other _ other, undefinedLine_writePhys _ _ _,
    writePhys_canonical canonical, congrArg (fun m => ({ s with dram := m } : State)) (writePhys_parts _ _ _)⟩

end Sys2Proof.Machine

/-!
PROOF. What a cold reset leaves, the wrapper instructions that unlock nothing, and the settling of O11 and O16 (R414, R427, R428, R555,
R556).
-/
namespace Sys2Proof.Machine

-- One proof after another, each on a stack of its own, for the check's memory.
set_option Elab.async false

section
variable {s : State}

/-! ### Cold resets (R414, R427, R428) -/

/-- A fresh object store holds every object's default. -/
theorem ob_of_no_objects {idx sub : Nat} (fresh : s.obj = []) : s.ob idx sub = objDefault (objKey idx sub) := by
  simp [State.ob, fresh, look]

/-- The objects that a cold reset sets are at subindexes of a byte, so that every other index keeps its own. -/
theorem ob_setOb_other_index {idx sub other j v : Nat} (small : sub < 256) (fits : j < 256) (ne : idx ≠ other) :
    (s.setOb other j v).ob idx sub = s.ob idx sub :=
  State.ob_setOb_ne s fun same => ne (objKey_inj small fits same).1

/-- A value other than its default is read back from any store. -/
theorem ob_setOb_given {idx sub v : Nat} (given : v ≠ objDefault (objKey idx sub)) : (s.setOb idx sub v).ob idx sub = v :=
  look_put_of_ne given _ _

section
variable {kind idx sub : Nat}

theorem coldState_ob (small : sub < 256) (notPower : idx ≠ 0xB040) (notTrim : idx ≠ 0xB001) (notPolicy : idx ≠ 0x6020) :
    (coldState kind s).ob idx sub = objDefault (objKey idx sub) := by
  unfold coldState
  rw [ob_setOb_other_index small (by decide) notPolicy, ob_setOb_other_index small (by decide) notTrim,
    ob_setOb_other_index small (by decide) notPower]
  exact ob_of_no_objects rfl

theorem coldState_kind : (coldState kind s).ob 0xB040 1 = kind := by
  unfold coldState
  rw [ob_setOb_other_index (by decide) (by decide) (by decide), ob_setOb_other_index (by decide) (by decide) (by decide)]
  exact State.ob_setOb_eq canonical_nil _ _ _

end

/-- What every cold reset leaves. -/
def ColdOf (s t : State) : Prop :=
  t.cfg = s.cfg ∧ t.fuses = s.fuses ∧ t.nvm = coldNvm s.upd.copying s.nvm ∧ t.dram = coldDram s.dram ∧
    t.syncs = [] ∧ t.cache = .reset ∧ t.sec = .reset ∧ t.hl = .reset ∧ t.plans = .reset ∧ t.feeds = .reset ∧ t.far = .reset ∧
    t.path.asks = [] ∧ t.out = s.out ∧ t.pending = s.pending ∧ t.now = s.now

theorem coldState_coldOf (kind : Nat) (s : State) : ColdOf s (coldState kind s) :=
  ⟨rfl, rfl, rfl, rfl, rfl, rfl, rfl, rfl, rfl, rfl, rfl, rfl, rfl, rfl, rfl⟩

/-- What a set reset makes of a node that runs, before the rollback floor's copy is put back. -/
def setResetCore (held : Bool) (s : State) : State :=
  let c := coldState 2 s
  let sources := if s.power.vcore then (1, SourceState.counting s.now) :: (2, .counting s.now) :: [(3, .counting s.now)] else [(2, .counting s.now)]
  { c with
    power := { c.power with vcore := s.power.vcore, vphy := s.power.vphy, setHeld := held }
    pins := { c.pins with setResetN := if held then ⟨0, s.now, true⟩ else c.pins.setResetN }
    wrap := { Wrapper.reset with capture := s.wrap.capture }
    clk := { c.clk with sources := sources ++ [(4, .counting s.now), (5, .counting s.now)], refAFrom := s.now } }

theorem setResetCore_coldOf (held : Bool) (s : State) : ColdOf s (setResetCore held s) :=
  ⟨rfl, rfl, rfl, rfl, rfl, rfl, rfl, rfl, rfl, rfl, rfl, rfl, rfl, rfl, rfl⟩

theorem ColdOf.setOb {t : State} (h : ColdOf s t) (idx sub v : Nat) : ColdOf s (t.setOb idx sub v) := by
  unfold ColdOf at *
  exact h

theorem setResetCore_ob {held : Bool} {idx sub : Nat} : (setResetCore held s).ob idx sub = (coldState 2 s).ob idx sub := by
  unfold State.ob setResetCore
  dsimp only

theorem setReset_of_on {held : Bool} (on : s.power.node ≠ .off) :
    setReset held s = if s.ob 0x8000 7 = 0 then setResetCore held s else (setResetCore held s).setOb 0x8000 7 (s.ob 0x8000 7) :=
  if_neg on

section
variable {held : Bool} (on : s.power.node ≠ .off)
include on

theorem setReset_coldOf : ColdOf s (setReset held s) := by
  rw [setReset_of_on on]
  split
  · exact setResetCore_coldOf held s
  · exact (setResetCore_coldOf held s).setOb 0x8000 7 _

theorem setReset_power : (setReset held s).power = (setResetCore held s).power := by
  rw [setReset_of_on on]
  split <;> rfl

/-- R479: the rollback floor has its copy in VKEEP. -/
theorem setReset_floor : (setReset held s).ob 0x8000 7 = s.ob 0x8000 7 := by
  have unset : objDefault (objKey 0x8000 7) = 0 := by decide +kernel
  rw [setReset_of_on on]
  split
  next zero => rw [setResetCore_ob, coldState_ob (by decide) (by decide) (by decide) (by decide), unset, zero]
  next given => exact ob_setOb_given (unset ▸ given)

theorem setReset_ob {idx sub : Nat} (small : sub < 256) (notFloor : idx ≠ 0x8000) :
    (setReset held s).ob idx sub = (coldState 2 s).ob idx sub := by
  rw [setReset_of_on on]
  split
  · exact setResetCore_ob
  · exact (ob_setOb_other_index small (by decide) notFloor).trans setResetCore_ob

end

theorem powerOnReset_gives (off : s.power.node = .off) : Gives .powerOnReset s fun t => t = coldState 1 s :=
  ⟨_, rfl, if_pos off⟩

/-- What a loss of VKEEP makes of a node that was on. -/
def vkeepLostCore (s : State) : State :=
  let c := coldState 1 s
  { c with power := { c.power with node := .off, vkeep := false }
           procs := { c.procs with keeper := ⟨false, none⟩ }, clk := { c.clk with sources := [] } }

theorem vkeepLostCore_coldOf (s : State) : ColdOf s (vkeepLostCore s) :=
  ⟨rfl, rfl, rfl, rfl, rfl, rfl, rfl, rfl, rfl, rfl, rfl, rfl, rfl, rfl, rfl⟩

theorem vkeepLoss_gives (on : s.power.node ≠ .off) : Gives .vkeepLoss s fun t => t = vkeepLostCore s :=
  ⟨_, rfl, if_neg on⟩

theorem setReset_gives (released : s.power.setHeld = false) : Gives .setReset s fun t => t = setReset true s :=
  ⟨_, rfl, if_neg (by simp [released])⟩

/-- Settles O11: each reset is built on the cold state, whose objects are the three it sets over an empty store. -/
theorem coldResets : Obligations.ColdResets := by
  intro s
  refine ⟨fun off => ?_, fun on => ?_, fun on => ?_, fun off => ?_, fun on released => ?_, fun held => ?_⟩
  · refine (powerOnReset_gives off).mono fun t is => ?_
    subst is
    exact ⟨rfl, coldState_coldOf 1 s, coldState_kind, fun idx sub small => coldState_ob small⟩
  · exact congrArg Host.Outcome.next (if_neg on)
  · refine (vkeepLoss_gives on).mono fun t is => ?_
    subst is
    exact ⟨rfl, rfl, vkeepLostCore_coldOf s, rfl⟩
  · exact congrArg Host.Outcome.next (if_pos off)
  · refine (setReset_gives released).mono fun t is => ?_
    subst is
    rw [setReset_power on]
    refine ⟨rfl, rfl, rfl, rfl, setReset_coldOf on, ?_, setReset_floor on, fun idx sub small notPower notTrim notPolicy notFloor => ?_⟩
    · rw [setReset_ob on (by decide) (by decide)]
      exact coldState_kind
    · rw [setReset_ob on small notFloor]
      exact coldState_ob small notPower notTrim notPolicy
  · exact congrArg Host.Outcome.next (if_pos held)

/-! ### The wrapper (R555, R556) -/

theorem wrapPowered_off {f : State → State} (off : s.power.node = .off) : wrapPowered f s = s := if_pos off

theorem wrapPowered_on {f : State → State} (on : s.power.node ≠ .off) : wrapPowered f s = f s := if_neg on

theorem wrapHeldOk_iff : s.wrapHeldOk = true ↔ s.power.setHeld = true ∨ s.power.node = .halted := by
  simp [State.wrapHeldOk]

theorem wrapTest_held {code w : Nat} (may : s.power.setHeld = true ∨ s.power.node = .halted) : wrapTest code w s = wrapHeld code w s :=
  if_pos (wrapHeldOk_iff.mpr may)

theorem wrapTest_bypass {code w : Nat} (released : s.power.setHeld = false) (runs : s.power.node ≠ .halted) :
    wrapTest code w s = wrapFree 0 0 s :=
  if_neg (by simp [wrapHeldOk_iff, released, runs])

/-- Settles O16: each instruction is its wrapper function behind the test for VKEEP. -/
theorem wrapperInstructions : Obligations.WrapperInstructions := by
  intro s
  refine ⟨fun off c listed => ?_, fun on => ?_⟩
  · simp only [List.mem_cons, List.not_mem_nil, or_false] at listed
    obtain rfl | rfl | rfl | rfl | rfl | rfl | rfl | rfl | rfl | rfl | rfl | rfl := listed <;>
      exact congrArg Host.Outcome.next (wrapPowered_off off)
  refine ⟨congrArg Host.Outcome.next (wrapPowered_on on), congrArg Host.Outcome.next (wrapPowered_on on),
    congrArg Host.Outcome.next (wrapPowered_on on), fun c n w listed => ?_⟩
  have runs : exec c s = .next (wrapTest n w s) := by
    simp only [List.mem_cons, List.not_mem_nil, or_false, Prod.mk.injEq] at listed
    obtain ⟨rfl, rfl, rfl⟩ | ⟨rfl, rfl, rfl⟩ | ⟨rfl, rfl, rfl⟩ := listed <;> exact congrArg Host.Outcome.next (wrapPowered_on on)
  refine ⟨fun may => ?_, fun released notHalted => ?_⟩
  · rw [runs, wrapTest_held may]
    rfl
  · rw [runs, wrapTest_bypass released notHalted]
    rfl

end

end Sys2Proof.Machine

/-!
PROOF. The SPDM responder and its secured sessions, and the settling of O21 and O22 (R374 to R378).
-/
namespace Sys2Proof.Machine

-- One proof after another, each on a stack of its own, for the check's memory.
set_option Elab.async false

section
variable {s : State} {r : Req}

/-! ### What a request that is begun leaves of the Warden's state -/

theorem begun_sec (r : Req) (s : State) : (s.begun r).sec = { s.sec with sessions := (s.begun r).sec.sessions } := by
  have counted : (s.begun r).sec = (heardFrom r s).sec := countFrame_sec s r
  rw [counted, heardFrom_parts]

theorem begun_procs (r : Req) (s : State) : (s.begun r).procs = s.procs := countFrame_procs' r s

theorem begun_fuses (r : Req) (s : State) : (s.begun r).fuses = s.fuses := countFrame_fuses s r

theorem begun_now (r : Req) (s : State) : (s.begun r).now = s.now := countFrame_now s r

theorem begun_identityOk (r : Req) (s : State) : (s.begun r).sec.identityOk = s.sec.identityOk := by rw [begun_sec]

theorem begun_aliasKey (r : Req) (s : State) : (s.begun r).sec.aliasKey = s.sec.aliasKey := by rw [begun_sec]

theorem begun_spdmOf (r : Req) (s : State) (src : Source) : (s.begun r).spdmOf src = s.spdmOf src := by
  rw [State.spdmOf, begun_sec, State.spdmOf]

theorem begun_spdmBusy (r : Req) (s : State) : spdmBusy (s.begun r) = spdmBusy s := by
  rw [spdmBusy, begun_power, begun_procs, spdmBusy]

theorem begun_certChain (r : Req) (s : State) (slot : Nat) : certChain slot (s.begun r) = certChain slot s := by
  rw [certChain, begun_nvm, begun_sec, State.me, begun_pins, certChain, State.me]

theorem begun_measurement (r : Req) (s : State) (i : Nat) : measurement i (s.begun r) = measurement i s := by
  unfold measurement
  rw [begun_plans, begun_sec, begun_nvm, begun_fuses, begun_ob r s 0x6020 3, begun_ob r s 0x1000 5]

/-- Hearing from a session changes only when it was last heard. -/
theorem heardFrom_sessions (r : Req) (s : State) :
    ∃ at_ : Session → Nat, (heardFrom r s).sec.sessions = s.sec.sessions.map fun x => { x with last := at_ x } := by
  unfold heardFrom
  split
  next id _ =>
    refine ⟨fun x => if x.id = id then s.now else x.last, List.map_congr_left fun x _ => ?_⟩
    dsimp only
    split <;> rfl
  next => exact ⟨Session.last, (List.map_id _).symm⟩

theorem begun_sessions (r : Req) (s : State) :
    ∃ at_ : Session → Nat, (s.begun r).sec.sessions = s.sec.sessions.map fun x => { x with last := at_ x } := by
  have counted : (s.begun r).sec = (heardFrom r s).sec := countFrame_sec s r
  rw [counted]
  exact heardFrom_sessions r s

theorem begun_sessions_length (r : Req) (s : State) : (s.begun r).sec.sessions.length = s.sec.sessions.length := by
  obtain ⟨at_, heard⟩ := begun_sessions r s
  rw [heard, List.length_map]

/-! ### Requests outside a session (R374 to R376) -/

/-- A request that is begun, with a responder that answers, does its work at once. -/
theorem spdmTake_begun (begins : s.begins r = true) (free : spdmBusy s = false) (i : RequestOp) (f : State → State) :
    spdmTake r i f s = .next (f (s.begun r)) := by
  unfold spdmTake spdmBegin
  rw [takeRequest_begins begins, if_neg (by simp [begun_spdmBusy, free])]

theorem negotiated_of_stage (stage : 3 ≤ (s.spdmOf r.src).stage) (f : State → State) : negotiated r f (s.begun r) = f (s.begun r) :=
  if_neg (by rw [begun_spdmOf]; omega)

/-- Settles O21: each request's work on the state in which it is begun, whose Warden state is the one it came to. -/
theorem attestationRequests : Obligations.AttestationRequests := by
  intro s r x n data begins free b c
  have takes (i : RequestOp) (f : State → State) {t : State} (does : f b = t) : spdmTake r i f s = .next t := by
    rw [spdmTake_begun begins free, does]
  have conn : b.spdmOf r.src = c := begun_spdmOf r s r.src
  refine ⟨takes _ _ ?_, fun stage => takes _ _ ?_, fun stage e m k g some_ => takes _ _ ?_, fun stage => ?_, fun m deferred => takes _ _ ?_,
    fun fits => takes _ _ ?_, fun more => takes _ _ ?_, takes _ _ rfl⟩
  · rw [getVersionAct, conn]
  · rw [getCapabilitiesAct, conn, if_neg (by omega)]
  · rw [negotiateAlgorithmsAct, conn, if_neg (by omega), if_neg (by obtain rfl | rfl := some_ <;> simp)]
  · have passes (f : State → State) : negotiated r f b = f b := negotiated_of_stage stage f
    refine ⟨takes _ _ ?_, fun slot ok => takes _ _ ?_, fun slot bad => takes _ _ ?_, fun slot => takes _ _ ?_, fun low high => takes _ _ ?_,
      takes _ _ ?_⟩
    · rw [getDigestsAct, passes, begun_certChain, begun_certChain]
    · rw [getCertificateAct, passes, if_neg (by omega), if_neg (by simp [b, begun_identityOk, ok])]
      dsimp only
      rw [begun_certChain, Nat.min_self]
    · rw [getCertificateAct, passes, if_neg (by omega), if_pos (by simp [b, begun_identityOk, bad])]
    · rw [challengeAct, passes, if_neg (by omega), begun_aliasKey]
    · rw [getMeasurementsAct, passes]
      simp [show x ≠ 0xFF by omega, low, high, begun_measurement, begun_aliasKey, b]
    · rw [getMeasurementsAct, passes]
      simp [begun_measurement, b]
  · rw [respondIfReadyAct, conn]
    dsimp only
    rw [deferred]
  · rw [chunkSendAct, conn]
    simp [fits]
  · rw [chunkGetAct, conn]
    simp [more]

/-! ### Secured sessions (R377, R378) -/

theorem spdmReply_sec (r : Req) (m : SpdmReply) (s : State) : (spdmReply r m s).sec = s.sec := (respond_reports r _ s).sec

theorem spdmError_sec (r : Req) (e : SpdmError) (s : State) : (spdmError r e s).sec = s.sec := spdmReply_sec r _ s

theorem updSession_sessions (id : Nat) (f : Session → Session) (s : State) :
    (updSession id f s).sec.sessions = s.sec.sessions.map fun x => if x.id = id then f x else x := rfl

/-- Two changes of one session that keep its identifier are one. -/
theorem updSession_twice {id : Nat} {f g : Session → Session} (kept : ∀ x, (f x).id = x.id) :
    (updSession id g (updSession id f s)).sec.sessions = s.sec.sessions.map fun x => if x.id = id then g (f x) else x := by
  rw [updSession_sessions, updSession_sessions, List.map_map]
  refine List.map_congr_left fun x _ => ?_
  dsimp only [Function.comp]
  by_cases this : x.id = id
  · simp [this, kept]
  · simp [this]

/-- Ending a session takes it, and no other, out of the list. -/
theorem endSession_sessions (id : Nat) (s : State) : (endSession id s).sec.sessions = s.sec.sessions.filter fun x => x.id != id := by
  unfold endSession
  split
  · exact congrArg Security.sessions (raiseNode_reports _ _ _).sec
  next none_ =>
    refine (List.filter_eq_self.mpr fun x listed => ?_).symm
    simp only [List.any_eq_true, beq_iff_eq, not_exists, not_and] at none_
    simpa using none_ x listed

/-- What is heard of a session does not matter once it has ended. -/
theorem endSession_updSession {id : Nat} {f : Session → Session} (kept : ∀ x, (f x).id = x.id) :
    (endSession id (updSession id f s)).sec.sessions = s.sec.sessions.filter fun x => x.id != id := by
  rw [endSession_sessions, updSession_sessions, List.filter_map]
  have same : (fun x : Session => x.id != id) ∘ (fun x => if x.id = id then f x else x) = fun x => x.id != id := by
    funext x
    dsimp only [Function.comp]
    split
    · rw [kept]
    · rfl
  rw [same]
  refine (List.map_congr_left fun x listed => ?_).trans (List.map_id _)
  have other : x.id ≠ id := by simpa using (List.mem_filter.mp listed).2
  exact if_neg other

/-- A request over a session that is open finds it, and hears from it. -/
theorem withSession_begun {id : Nat} {x : Session} (open_ : s.sec.sessions.find? (fun y => y.id == id) = some x)
    (f : Session → State → State) : ∃ y : Session, y.finished = x.finished ∧ y.mutAuth = x.mutAuth ∧
      withSession r id f (s.begun r) = f y (updSession id (fun x => { x with last := s.now }) (s.begun r)) := by
  obtain ⟨at_, heard⟩ := begun_sessions r s
  have found : (s.begun r).sec.sessions.find? (fun y => y.id == id) = some { x with last := at_ x } := by
    rw [heard, List.find?_map]
    exact congrArg (Option.map fun x : Session => { x with last := at_ x }) open_
  refine ⟨{ x with last := at_ x }, rfl, rfl, ?_⟩
  unfold withSession
  rw [found, begun_now]

theorem withSession_unknown {id : Nat} (closed : s.sec.sessions.find? (fun y => y.id == id) = none) (f : Session → State → State) :
    withSession r id f (s.begun r) = spdmError r .invalidSession (s.begun r) := by
  obtain ⟨at_, heard⟩ := begun_sessions r s
  have found : (s.begun r).sec.sessions.find? (fun y => y.id == id) = none := by
    rw [heard, List.find?_map]
    exact congrArg (Option.map fun x : Session => { x with last := at_ x }) closed
  unfold withSession
  rw [found]

/-- Whether a signature verifies is told by the records, the fuses and the policy word. -/
theorem ownerSigned_begun {id : Nat} {f : Session → Session} (n : Nat) (ml : Bool) (sig : List Byte) :
    ownerSigned n ml sig (updSession id f (s.begun r)) = ownerSigned n ml sig s := by
  have record : (updSession id f (s.begun r)).nvm.owner = s.nvm.owner := congrArg Nvm.owner (begun_nvm r s)
  have fuses : (updSession id f (s.begun r)).fuses = s.fuses := begun_fuses r s
  have policy : (updSession id f (s.begun r)).ob 0x6020 3 = s.ob 0x6020 3 := begun_ob r s _ _
  rw [ownerSigned, ownerAbsent, record, fuses, policy, ownerSigned, ownerAbsent]

/-- KEY_EXCHANGE opens a session behind those that are open. -/
theorem keyExchangeAct_opens {n : Nat} {auth : Bool} (stage : 3 ≤ (s.spdmOf r.src).stage) (room : s.sec.sessions.length < 4) (slot : n ≤ 1)
    (idle : s.sec.zeroing = none) :
    (keyExchangeAct r n auth (s.begun r)).sec.sessions =
        (s.begun r).sec.sessions ++ [⟨s.sec.nextSession, r.src, auth, false, false, s.now, 0⟩] ∧
      (keyExchangeAct r n auth (s.begun r)).sec.nextSession = s.sec.nextSession + 1 := by
  have count := begun_sessions_length r s
  have quiet : (s.begun r).sec.zeroing = none := by rw [begun_sec, idle]
  have next : (s.begun r).sec.nextSession = s.sec.nextSession := by rw [begun_sec]
  rw [keyExchangeAct, negotiated_of_stage stage, if_neg (by omega), if_neg (by omega), if_neg (by simp [quiet])]
  dsimp only
  rw [spdmReply_sec, (raiseNode_reports _ _ _).sec, next, begun_now]
  exact ⟨rfl, rfl⟩

theorem finishAct_signed {id : Nat} {x : Session} (open_ : s.sec.sessions.find? (fun y => y.id == id) = some x) (ml : Bool) (sig : List Byte)
    (first : x.finished = false) :
    (finishAct r id ml sig (s.begun r)).sec.sessions =
      if x.mutAuth = false then
        (s.begun r).sec.sessions.map fun y => if y.id = id then { y with last := s.now, finished := true } else y
      else if ownerSigned id ml sig s = true then
        (s.begun r).sec.sessions.map fun y => if y.id = id then { y with last := s.now, finished := true, owner := true } else y
      else (s.begun r).sec.sessions.filter fun y => y.id != id := by
  obtain ⟨y, finished, asked, does⟩ := withSession_begun open_ fun x s =>
    if x.finished then spdmError r .unexpectedRequest s
    else if !x.mutAuth then spdmReply r .finishRsp (updSession id (fun x => { x with finished := true }) s)
    else if ownerSigned id ml sig s then
      spdmReply r .finishRsp (updSession id (fun x => { x with finished := true, owner := true }) s)
    else spdmError r .decryptError (raiseNode Ev.ownerAuthFailed 0 ((endSession id s).bump 0x6010 5))
  rw [finishAct, does, finished, first, asked, if_neg (by decide), ownerSigned_begun]
  cases x.mutAuth with
  | false =>
    rw [if_pos (by decide), if_pos rfl, spdmReply_sec]
    exact updSession_twice fun _ => rfl
  | true =>
    rw [if_neg (by decide : ¬(!true) = true), if_neg (by decide : ¬true = false)]
    split
    · rw [spdmReply_sec]
      exact updSession_twice fun _ => rfl
    · rw [spdmError_sec, (raiseNode_reports _ _ _).sec]
      exact endSession_updSession fun _ => rfl

/-- Settles O22: the session that a request names is found in the state in which it is begun, and only that session changes. -/
theorem securedSessions : Obligations.SecuredSessions := by
  intro s r id n auth ml sig
  refine ⟨fun begins free => ?_, fun x open_ => ⟨fun silent => ?_, fun heard => ?_⟩⟩
  · have takes (i : RequestOp) (f : State → State) : spdmTake r i f s = .next (f (s.begun r)) := spdmTake_begun begins free i f
    refine ⟨fun stage room slot idle => ⟨_, takes _ _, keyExchangeAct_opens stage room slot idle⟩, fun stage full => (takes _ _).trans ?_,
      fun x open_ => ⟨fun first plain => ?_, fun first both => ?_, ?_, ?_, ?_⟩, fun closed => (takes _ _).trans ?_⟩
    · rw [keyExchangeAct, negotiated_of_stage stage, if_pos (by rw [begun_sessions_length]; exact full)]
    · exact ⟨_, takes _ _, (finishAct_signed open_ ml sig first).trans (if_pos plain)⟩
    · exact ⟨_, takes _ _, (finishAct_signed open_ ml sig first).trans (if_neg (by simp [both]))⟩
    · obtain ⟨y, -, -, does⟩ := withSession_begun (r := r) open_ fun _ s => spdmReply r .heartbeatAck s
      refine ⟨_, takes _ _, ?_⟩
      dsimp only
      rw [heartbeatAct, does, spdmReply_sec]
      rfl
    · obtain ⟨y, -, -, does⟩ := withSession_begun (r := r) open_ fun _ s =>
        spdmReply r .keyUpdateAck (updSession id (fun x => { x with keyGen := x.keyGen + 1 }) s)
      refine ⟨_, takes _ _, ?_⟩
      dsimp only
      rw [keyUpdateAct, does, spdmReply_sec]
      exact updSession_twice fun _ => rfl
    · obtain ⟨y, -, -, does⟩ := withSession_begun (r := r) open_ fun _ s => endSession id (spdmReply r .endSessionAck s)
      refine ⟨_, takes _ _, ?_⟩
      dsimp only
      rw [endSessionAct, does, endSession_sessions, spdmReply_sec, ← endSession_sessions]
      exact endSession_updSession fun _ => rfl
    · rw [heartbeatAct, withSession_unknown closed]
  · refine ⟨endSession id s, ?_, endSession_sessions id s⟩
    refine congrArg Host.Outcome.next ?_
    rw [open_]
    exact if_pos silent
  · refine congrArg Host.Outcome.next ?_
    rw [open_]
    exact if_neg (by simp [heard])

end

end Sys2Proof.Machine

/-!
PROOF. The key commands, and the settling of O18 (R382, R383, R387).
-/
namespace Sys2Proof.Machine

-- One proof after another, each on a stack of its own, for the check's memory.
set_option Elab.async false

section
variable {s : State} {r : Req} {n : Nat} {world : Bool}

/-! ### The command word (R383) -/

/-- The low bytes of a number read back as the number below their bound. -/
theorem leNat_leBytes_mod (k v : Nat) : leNat (leBytes k v) = v % 256 ^ k := by
  induction k generalizing v with
  | zero => simp [leBytes, leNat, Nat.mod_one]
  | succ k ih =>
    have low : (BitVec.ofNat 8 v).toNat = v % 256 := BitVec.toNat_ofNat v 8
    rw [leBytes, leNat, ih, low, pow_succ', Nat.mod_mul]

/-- The word of a key command, as its 8 bytes read back. -/
theorem leNat_keyWord {op : Nat} (small : op < 256) (fits : n < 256) :
    leNat (keyWord op world n) = op * 2 ^ 56 + b2n world * 2 ^ 48 + n := by
  have bit : b2n world ≤ 1 := by cases world <;> decide
  rw [keyWord, leNat_leBytes_mod, Nat.mod_eq_of_lt fits, Nat.mod_eq_of_lt (by omega)]

section
variable {op : Nat} (fits : n < 256)
include fits

theorem keyWord_op (small : op < 256) : bits 63 56 (op * 2 ^ 56 + b2n world * 2 ^ 48 + n) = op := by
  have bit : b2n world ≤ 1 := by cases world <;> decide
  rw [bits_eq]
  omega

theorem keyWord_slot : bits 7 0 (op * 2 ^ 56 + b2n world * 2 ^ 48 + n) = n := by
  rw [bits_eq]
  omega

theorem keyWord_world : bit 48 (op * 2 ^ 56 + b2n world * 2 ^ 48 + n) = world := by
  have small : b2n world ≤ 1 := by cases world <;> decide
  refine bit_eq _ _ _ ?_
  omega

theorem keyWord_reserved : bits 55 49 (op * 2 ^ 56 + b2n world * 2 ^ 48 + n) = 0 ∧ bits 47 8 (op * 2 ^ 56 + b2n world * 2 ^ 48 + n) = 0 := by
  have small : b2n world ≤ 1 := by cases world <;> decide
  rw [bits_eq, bits_eq]
  omega

/-- A well-formed command of a Warden that is free is the command its code names. -/
theorem keyCommand_word (plans : Bool) (free : keyBusy s = false) (low : 1 ≤ op) (high : op ≤ 4) :
    keyCommand (leNat (keyWord op world n)) plans s =
      if op = 1 then generateXts n world s else if op = 2 then generateGcm n world s else if op = 3 then importVerify n world s
      else eraseKey n plans s := by
  rw [leNat_keyWord (by omega) fits, keyCommand]
  dsimp only
  rw [keyWord_op fits (by omega), keyWord_slot fits, keyWord_world fits, (keyWord_reserved fits).1, (keyWord_reserved fits).2,
    if_neg (by simp [free]), if_neg (by simp; omega), if_neg (by decide)]

end

/-! ### The slot that a command fills (R382, R383) -/

theorem begun_keyBusy (r : Req) (s : State) : keyBusy (s.begun r) = keyBusy s := by
  rw [keyBusy, begun_procs, begun_sec, keyBusy]

theorem begun_keys (r : Req) (s : State) : (s.begun r).sec.keys = s.sec.keys := by rw [begun_sec]

theorem begun_key (r : Req) (s : State) (n : Nat) : (s.begun r).key n = s.key n := by rw [State.key, begun_keys, State.key]

theorem begun_free (r : Req) (s : State) : (s.begun r).free = s.free := countFrame_free s r

theorem begun_freeValue (r : Req) (s : State) (w : Nat) : (s.begun r).freeValue w = s.freeValue w := by
  rw [State.freeValue, begun_free, State.freeValue]

theorem begun_signedPlan (r : Req) (s : State) : (s.begun r).signedPlan = s.signedPlan := by
  rw [State.signedPlan, begun_plans, State.signedPlan]

/-- A key command that applies is settled with what its code gives. -/
theorem keyWrite_applies {op : Nat} (fits : n < 256) (free : keyBusy s = false) (low : 1 ≤ op) (high : op ≤ 4)
    (applies : s.applies r 0x6030 1 (keyWord op world n) = true) : keyWrite r op world n s = .next (settle (.req r)
      (if op = 1 then generateXts n world (s.begun r) else if op = 2 then generateGcm n world (s.begun r)
      else if op = 3 then importVerify n world (s.begun r) else eraseKey n s.signedPlan (s.begun r))) := by
  have does := dictWrite_applies applies (keyHome (leNat (keyWord op world n)))
  rw [keyHome, keyCommand_word fits _ (by rw [begun_keyBusy, free]) low high, begun_signedPlan] at does
  exact congrArg Host.Outcome.next does

/-- A slot that is given a key reads it back, and is loaded. -/
theorem key_setKey {k : KeySlot} (full : k.kind ≠ .empty) (s : State) : (s.setKey n k).key n = k ∧ n ∈ (s.setKey n k).sec.loaded := by
  refine ⟨look_put_of_ne (fun is => full (by rw [is]; rfl)) _ _, ?_⟩
  have loaded : (s.setKey n k).sec.loaded = (s.sec.loaded.filter fun m => m != n) ++ [n] := if_neg (by simpa using full)
  simp [loaded]

theorem key_of_sec {t : State} (same : t.sec = s.sec) (n : Nat) : t.key n = s.key n := by rw [State.key, same, State.key]

/-- Loading an empty slot gives it the key; its loads are counted and the command is answered OK. -/
theorem loadKey_empty {code fp k1 k2 : Nat} {kind : KeyKind} (empty : (s.key n).kind = .empty) (full : kind ≠ .empty) :
    let t := settle (.req r) (loadKey code n kind world fp k1 k2 s)
    let k : KeySlot := { kind := kind, world := world, loads := ((s.key n).loads + 1) % 65536, fingerprint := fp, key := k1, key2 := k2 }
    t.sec = (s.setKey n k).sec ∧ t.key n = k ∧ n ∈ t.sec.loaded ∧ t.free = s.free := by
  intro t k
  have does : loadKey code n kind world fp k1 k2 s = .done (raiseNode Ev.keyLoaded n ((s.setKey n k).setOb 0x6030 2 0)) :=
    if_neg (by rw [empty]; decide)
  have is : t = answer r St.ok 0 (raiseNode Ev.keyLoaded n ((s.setKey n k).setOb 0x6030 2 0)) := congrArg (settle (.req r)) does
  have reports := (raiseNode_reports Ev.keyLoaded n ((s.setKey n k).setOb 0x6030 2 0)).trans (answer_reports r St.ok 0 _)
  have sec : t.sec = (s.setKey n k).sec := by rw [is]; exact reports.sec
  obtain ⟨reads, loaded⟩ := key_setKey (k := k) full s
  exact ⟨sec, (key_of_sec sec n).trans reads, by rw [sec]; exact loaded, by rw [is]; exact reports.free⟩

/-- A refused command is told by its code, and leaves the keys. -/
theorem keyDenied_settled {code : Nat} (given : code ≠ 0) (r : Req) (s : State) :
    (settle (.req r) (keyDenied code s)).ob 0x6030 2 = code ∧ (settle (.req r) (keyDenied code s)).sec = s.sec := by
  have unset : objDefault (objKey 0x6030 2) = 0 := by decide +kernel
  have reports : ReportsOnly (s.setOb 0x6030 2 code) (settle (.req r) (keyDenied code s)) := answer_reports r _ _ _
  exact ⟨(reports.objects 0x6030 2 (by decide) rfl).trans (ob_setOb_given (unset ▸ given)), reports.sec⟩

theorem loadKey_full {code fp k1 k2 : Nat} {kind : KeyKind} (full : (s.key n).kind ≠ .empty) :
    loadKey code n kind world fp k1 k2 s = keyDenied code s := if_pos (by simpa using full)

/-- The two keys of a slot differ: where the second draw is the first key again, a step of 1 to 2^256 − 1 leads away from it. -/
theorem second_key_differs (k d e : Nat) (_ : k < 2 ^ 256) :
    k ≠ (if d = k then (k + 1 + e % (2 ^ 256 - 1)) % 2 ^ 256 else d) := by
  split
  · have := Nat.mod_lt e (by decide : 2 ^ 256 - 1 > 0)
    omega
  next other => exact fun same => other same.symm

theorem freeValue_lt (s : State) (w : Nat) : s.freeValue w < 2 ^ w := Nat.mod_lt _ (Nat.two_pow_pos w)

/-- Settles O18: each command word is decoded to its command, whose loads and refusals are those of every key command. -/
theorem keyCommands : Obligations.KeyCommands := by
  intro s r world n fits free
  have empties (empty : (s.key n).kind = .empty) : ((s.begun r).key n).kind = .empty := by rw [begun_key, empty]
  refine ⟨fun applies empty => ?_, fun applies empty => ?_, fun applies empty staged => ?_, fun applies unnamed => ?_,
    fun applies full => ?_, fun applies named => ?_⟩
  · refine ⟨_, keyWrite_applies fits free (by decide) (by decide) applies, ?_⟩
    obtain ⟨-, key, loaded, drawn⟩ := loadKey_empty (s := (s.begun r).takeFree.takeFree.takeFree) (r := r) (world := world) (code := 1) (fp := 0)
      (k1 := (s.begun r).freeValue 256) (k2 := if (s.begun r).takeFree.freeValue 256 = (s.begun r).freeValue 256 then
        ((s.begun r).freeValue 256 + 1 + (s.begun r).takeFree.takeFree.freeValue 256 % (2 ^ 256 - 1)) % 2 ^ 256
        else (s.begun r).takeFree.freeValue 256) (kind := .xts) (empties empty) (by decide)
    rw [if_pos rfl, generateXts, key]
    refine ⟨rfl, rfl, second_key_differs _ _ _ (freeValue_lt _ _), begun_freeValue r s 256, ?_, loaded, ?_⟩
    · exact congrArg (fun k : KeySlot => (k.loads + 1) % 65536) (begun_key r s n)
    · rw [drawn]
      exact congrArg (· + 3) (begun_free r s)
  · refine ⟨_, keyWrite_applies fits free (by decide) (by decide) applies, ?_⟩
    obtain ⟨-, key, loaded, drawn⟩ := loadKey_empty (s := (s.begun r).takeFree) (r := r) (world := world) (code := 2) (fp := 0)
      (k1 := (s.begun r).freeValue 256) (k2 := 0) (kind := .gcm) (empties empty) (by decide)
    rw [if_neg (by decide), if_pos rfl, generateGcm]
    refine ⟨key.trans ?_, loaded, drawn.trans (congrArg (· + 1) (begun_free r s))⟩
    have same : (s.begun r).takeFree.key n = s.key n := begun_key r s n
    rw [same, begun_freeValue]
  · refine ⟨_, keyWrite_applies fits free (by decide) (by decide) applies, ?_⟩
    have verify : (s.begun r).sec.stagedVerify = s.sec.stagedVerify := by rw [begun_sec]
    dsimp only
    rw [if_neg (by decide), if_neg (by decide), if_pos rfl, importVerify, verify]
    dsimp only
    by_cases valid : Config.validPublicKey false (s.sec.stagedVerify.take 97) = true ∧ Config.validPublicKey true (s.sec.stagedVerify.drop 97) = true
    · obtain ⟨sec, key, loaded, -⟩ := loadKey_empty (s := (s.begun r).setSec { (s.begun r).sec with stagedVerify := [] }) (r := r) (world := world)
        (code := 3) (fp := (Config.sha384 s.sec.stagedVerify).toNat % 2 ^ 32) (k1 := leNat (s.sec.stagedVerify.take 97))
        (k2 := leNat (s.sec.stagedVerify.drop 97)) (kind := .verify) (empties empty) (by decide)
      rw [if_neg (by simp [staged, valid]), if_pos valid, key]
      exact ⟨congrArg Security.stagedVerify sec, rfl, rfl, rfl, rfl, loaded⟩
    · obtain ⟨told, sec⟩ := keyDenied_settled (code := 3) (by decide) r ((s.begun r).setSec { (s.begun r).sec with stagedVerify := [] })
      rw [if_pos (by simpa [staged, imp_iff_not_or, or_assoc] using valid), if_neg valid, sec]
      exact ⟨rfl, told, begun_keys r s⟩
  · refine ⟨_, keyWrite_applies fits free (by decide) (by decide) applies, ?_⟩
    have does : eraseKey n s.signedPlan (s.begun r) = .done _ := if_neg (by simp [unnamed])
    dsimp only
    rw [if_neg (by decide), if_neg (by decide), if_neg (by decide), does]
    have sec : (settle (.req r) (.done (raiseNode Ev.keyErased n (((s.begun r).setKey n
        { KeySlot.reset with loads := ((s.begun r).key n).loads }).setOb 0x6030 2 0)))).sec =
        ((s.begun r).setKey n { KeySlot.reset with loads := ((s.begun r).key n).loads }).sec :=
      ((raiseNode_reports _ _ _).trans (answer_reports r St.ok 0 _)).sec
    rw [sec, begun_key]
    refine ⟨congrArg (put _ n _) (begun_keys r s), fun listed => ?_⟩
    have kept : n ∈ (s.begun r).sec.loaded.filter fun m => m != n := listed
    simp at kept
  · refine ⟨_, keyWrite_applies fits free (by decide) (by decide) applies, ?_⟩
    have full : ((s.begun r).takeFree.takeFree.takeFree.key n).kind ≠ .empty := fun empty =>
      full ((congrArg KeySlot.kind (begun_key r s n)).symm.trans empty)
    rw [if_pos rfl, generateXts]
    dsimp only
    rw [loadKey_full full]
    exact keyDenied_settled (by decide) r _
  · refine ⟨_, keyWrite_applies fits free (by decide) (by decide) applies, ?_⟩
    have does : eraseKey n s.signedPlan (s.begun r) = keyDenied 4 (s.begun r) := if_pos named
    dsimp only
    rw [if_neg (by decide), if_neg (by decide), if_neg (by decide), does]
    exact keyDenied_settled (by decide) r _

end

end Sys2Proof.Machine

/-!
PROOF. Requests that are repeated, the link's own events, notifications, segmented writes and the window, and the settling of O25 to O29
(R438, R439, R441, R443, R450, R452, R453, R455, R457 to R459, R463, R464, R548).
-/
namespace Sys2Proof.Machine

-- One proof after another, each on a stack of its own, for the check's memory.
set_option Elab.async false

/-! ### What logging and answering leave of the management state -/

/-- The management state without what logging, notifying and answering change. -/
def Mgmt.settled (m : Mgmt) : Mgmt :=
  { m with sources := [], sinceBeat := none, log := [], limiters := [], mirrorTimes := [], notify := [], window := Window.reset }

section
variable {s t : State} {r : Req}

theorem ringPlace_settled (e : LogEntry) (s : State) : (ringPlace e s).mgmt.settled = s.mgmt.settled := by
  unfold ringPlace
  dsimp only
  split
  · rfl
  · split
    · rfl
    · split <;> rfl

theorem notifyQueue_settled (n : Nat) (e : LogEntry) (s : State) : (notifyQueue n e s).mgmt.settled = s.mgmt.settled := by
  unfold notifyQueue
  dsimp only
  split
  · rfl
  · split
    · rfl
    · split <;> rfl

theorem forEach_settled {α : Type} {f : α → State → State} (each : ∀ a s, (f a s).mgmt.settled = s.mgmt.settled) (l : List α) (s : State) :
    (forEach l f s).mgmt.settled = s.mgmt.settled :=
  forEach_related (rel := fun s t => t.mgmt.settled = s.mgmt.settled) (fun _ => rfl) (fun st tu => tu.trans st) l f each s

theorem notifyAll_settled (e : LogEntry) (s : State) : (notifyAll e s).mgmt.settled = s.mgmt.settled := by
  unfold notifyAll
  dsimp only
  split
  · exact notifyQueue_settled _ _ _
  · exact forEach_settled (fun _ _ => notifyQueue_settled _ _ _) _ _

/-- One more step on one side of a branch. -/
theorem ite_then_settled {c : Prop} [Decidable c] {x y z : State} (h : y.mgmt.settled = x.mgmt.settled) (k : z.mgmt.settled = y.mgmt.settled) :
    (if c then z else y).mgmt.settled = x.mgmt.settled := by
  split
  · exact k.trans h
  · exact h

theorem ite_else_settled {c : Prop} [Decidable c] {x y z : State} (h : y.mgmt.settled = x.mgmt.settled) (k : z.mgmt.settled = y.mgmt.settled) :
    (if c then y else z).mgmt.settled = x.mgmt.settled := by
  split
  · exact h
  · exact k.trans h

theorem logEntry_settled (e : LogEntry) (s : State) : (logEntry e s).mgmt.settled = s.mgmt.settled := by
  have counted (x : State) (i a : Nat) : (x.bump i a).mgmt.settled = x.mgmt.settled := rfl
  unfold logEntry
  exact ite_then_settled (ite_then_settled ((notifyAll_settled _ _).trans
    (ite_then_settled (ite_then_settled (ite_else_settled (counted s _ _) (counted _ _ _)) (counted _ _ _)) rfl)) (ringPlace_settled _ _)) rfl

theorem logEvent_settled (e : Event) (s : State) : (logEvent e s).mgmt.settled = s.mgmt.settled := by
  unfold logEvent
  split
  · rfl
  · dsimp only
    split
    · exact logEntry_settled _ _
    · split
      · split
        · rfl
        · exact logEntry_settled _ _
      · exact logEntry_settled _ _

theorem raiseEvent_settled (e : Event) (s : State) : (raiseEvent e s).mgmt.settled = s.mgmt.settled := by
  unfold raiseEvent
  split
  · rfl
  · split
    · split <;> rfl
    · exact logEvent_settled e s

theorem raiseNode_settled (code detail : Nat) (s : State) : (raiseNode code detail s).mgmt.settled = s.mgmt.settled :=
  raiseEvent_settled _ s

theorem sendResponse_settled (r : Req) (a : Answer) (s : State) : (sendResponse r a s).mgmt.settled = s.mgmt.settled := by
  unfold sendResponse
  split <;> rfl

theorem respond_settled (r : Req) (a : Answer) (s : State) : (respond r a s).mgmt.settled = s.mgmt.settled := sendResponse_settled r a _

theorem answer_settled (r : Req) (status detail : Nat) (s : State) : (answer r status detail s).mgmt.settled = s.mgmt.settled :=
  respond_settled r _ s

theorem countFrame_settled (r : Req) (s : State) : (countFrame r s).mgmt.settled = s.mgmt.settled := by
  unfold countFrame
  rw [heardFrom_parts]
  dsimp only
  split <;> rfl

theorem begun_settled (r : Req) (s : State) : (s.begun r).mgmt.settled = s.mgmt.settled := countFrame_settled r s

/-- Each part that `settled` leaves is the same where that is. -/
theorem partner_of_settled (same : t.mgmt.settled = s.mgmt.settled) : t.mgmt.partner = s.mgmt.partner := by
  have parts := congrArg Mgmt.partner same
  exact parts

theorem segments_of_settled (same : t.mgmt.settled = s.mgmt.settled) : t.mgmt.segments = s.mgmt.segments := by
  have parts := congrArg Mgmt.segments same
  exact parts

theorem alarmsAnswered_of_settled (same : t.mgmt.settled = s.mgmt.settled) : t.mgmt.alarmsAnswered = s.mgmt.alarmsAnswered := by
  have parts := congrArg Mgmt.alarmsAnswered same
  exact parts

/-! ### Repeated requests (R443) -/

theorem countFrame_findTxn (r : Req) (s : State) : (countFrame r s).findTxn r = s.findTxn r := by
  rw [State.findTxn, countFrame_sources, State.findTxn]

/-- A request that has been remembered, or that finds the Keeper restarting, is not behind another: it is begun. -/
theorem takeRequest_now (reach : s.reaches r = true) (free : s.windowHeld r = false)
    (first : (s.findTxn r).isSome = true ∨ s.procs.keeper.restart.isSome = true) (i : RequestOp) (act : State → State) :
    takeRequest r i act s = beginRequest r act (countFrame r s) := by
  have ahead : ¬(s.behind r && s.procs.keeper.restart.isNone) = true := by
    obtain known | restarts := first
    · simp [State.behind, Option.isSome_iff_ne_none.mp known]
    · simp [Option.isSome_iff_ne_none.mp restarts]
  unfold takeRequest
  rw [if_neg (by simp [reach]), if_neg (by simp [free]), if_neg ahead]
  exact if_pos reach

theorem takeRequest_remembered (reach : s.reaches r = true) (free : s.windowHeld r = false) (up : s.procs.keeper.restart = none) {n : Nat}
    {a : Option Answer} (known : s.findTxn r = some ⟨n, a⟩) (i : RequestOp) (act : State → State) :
    takeRequest r i act s = sendResponse r (a.getD ⟨St.retry, 6, [], none, false⟩) (countFrame r s) := by
  have runs : ¬(countFrame r s).procs.keeper.restart.isSome = true := by rw [countFrame_procs', up]; decide
  rw [takeRequest_now reach free (.inl (by rw [known]; rfl)), beginRequest, if_neg runs, countFrame_findTxn, known]
  cases a <;> rfl

/-- Settles O25: a repeat is not behind its source's request, so it is begun, which answers it. -/
theorem repeatedRequests : Obligations.RepeatedRequests := by
  intro s r idx sub total base value reach free
  refine ⟨fun up => ⟨fun n a known => ?_, fun n known => ?_⟩, fun restarts => ?_⟩
  · have answers (i : RequestOp) (act : State → State) : takeRequest r i act s = sendResponse r a (countFrame r s) :=
      takeRequest_remembered reach free up known i act
    exact ⟨congrArg Host.Outcome.next (answers _ _), congrArg Host.Outcome.next (answers _ _), congrArg Host.Outcome.next (answers _ _)⟩
  · exact congrArg Host.Outcome.next (takeRequest_remembered reach free up known _ _)
  · have restart : (countFrame r s).procs.keeper.restart.isSome = true := by rw [countFrame_procs']; exact restarts
    exact congrArg Host.Outcome.next ((takeRequest_now reach free (.inr restarts) _ _).trans (if_pos restart))

/-! ### The link's own events (R438, R439, R441, R452, R453) -/

/-- What a heartbeat says does not turn on the count of those sent. -/
theorem heartbeatBody_bump (seq : Nat) (s : State) : heartbeatBody seq (s.bump 0x1020 6) = heartbeatBody seq s := by
  have other (i a : Nat) (small : a < 256) (ne : objKey i a ≠ objKey 0x1020 6) : (s.bump 0x1020 6).ob i a = s.ob i a := State.ob_setOb_ne s ne
  unfold heartbeatBody
  rw [other 0x1040 2 (by decide) (by decide), other 0x1020 1 (by decide) (by decide)]
  rfl

theorem memberHeard_view (n st : Nat) (s : State) :
    (memberHeard n st s).hl.set.peerStates = put 0 n st s.hl.set.peerStates ∧
      (memberHeard n st s).hl.set.resting = setBit n (st == 6 || st == 7) s.hl.set.resting := by
  have resting : (if st = 6 || st = 7 then setBit n true s.hl.set.resting else setBit n false s.hl.set.resting) =
      setBit n (st == 6 || st == 7) s.hl.set.resting := by
    by_cases rests : st = 6 ∨ st = 7
    · obtain rfl | rfl := rests <;> rfl
    · have six : (st == 6 || st == 7) = false := by simpa [not_or] using rests
      rw [six, if_neg (by simpa using rests)]
  have broken (cause : Nat) (t : State) : (breakContinuity cause t).hl = t.hl := (breakContinuity_fr (.refl 86232 t)).hl (by decide)
  unfold memberHeard
  extract_lets v x told met
  have view : met.hl.set = { v with peerStates := put 0 n st v.peerStates, resting := x } := by
    dsimp only [met]
    split
    · rw [broken]
      rfl
    · rfl
  have shown : x = setBit n (st == 6 || st == 7) v.resting := resting
  split
  · rw [view]
    exact ⟨rfl, shown⟩
  · rw [computeRoutes_routesOnly met, view]
    exact ⟨rfl, shown⟩

/-- Settles O26: each event's own function, with the frames of what it reports. -/
theorem linkEvents : Obligations.LinkEvents := by
  intro s a n st p inv
  refine ⟨fun up due => ?_, fun early => ?_, fun up => ?_, fun up member => ?_, fun down => ?_, fun present silent => ?_, fun absent => ?_,
    fun b => ?_, rfl, rfl⟩
  · have counted : (s.bump 0x1020 6).ob 0x1020 6 = (s.ob 0x1020 6 + 1) % 2 ^ objWidth (objKey 0x1020 6) :=
      State.ob_setOb_eq inv.objects _ _ _
    have dest : (s.bump 0x1020 6).ob 0x1020 2 = s.ob 0x1020 2 := State.ob_setOb_ne s (by decide)
    have body := heartbeatBody_bump ((s.bump 0x1020 6).ob 0x1020 6) s
    refine ⟨_, congrArg Host.Outcome.next (if_pos (by simp [up, due])), ?_, rfl, rfl⟩
    rw [counted] at body
    rw [← body, ← counted, ← dest]
    rfl
  · exact congrArg Host.Outcome.next (if_neg (by simp [early]))
  · refine ⟨partnerHeard a p (s.bump 0x1010 9), congrArg Host.Outcome.next ((if_neg (by simp [up])).trans (if_pos rfl)), ?_, ?_⟩
    · unfold partnerHeard
      dsimp only
      split
      · exact partner_of_settled (raiseNode_settled _ _ _)
      · rfl
    · have stored : (((s.bump 0x1010 9).setOb 0x1020 3 a)).ob 0x1020 3 = a :=
        State.ob_setOb_eq (State.setOb_canonical inv.objects _ _ _) _ _ _
      unfold partnerHeard
      dsimp only
      split
      · exact ((raiseNode_reports _ _ _).objects _ _ (by decide) rfl).trans stored
      · exact stored
  · refine ⟨memberHeard n st (s.bump 0x1010 9), congrArg Host.Outcome.next ?_, memberHeard_view n st (s.bump 0x1010 9)⟩
    exact (if_neg (by simp [up])).trans ((if_neg (by omega)).trans (if_pos member))
  · exact congrArg Host.Outcome.next (if_pos (by simp [down]))
  · refine ⟨_, congrArg Host.Outcome.next (if_pos (by simp [present, silent])), ?_, ?_⟩
    · exact partner_of_settled (raiseNode_settled _ _ _)
    · refine ((raiseNode_reports _ _ _).objects _ _ (by decide) rfl).trans ?_
      exact State.ob_setOb_eq (s := { s with mgmt := { s.mgmt with partner := { s.mgmt.partner with state := 2 } } }) inv.objects _ _ _
  · exact congrArg Host.Outcome.next (if_neg (by simp [absent]))
  · refine congrArg Host.Outcome.next ?_
    by_cases was : s.ob 0x1010 8 = 1
    · cases b <;> simp [was, b2n]
    · simp [was]

/-! ### Notifications (R457) -/

theorem notifyNext_sends {n : Nat} {x : LogEntry} {w : List LogEntry} (waits : (s.notifyQ n).waiting = x :: w) :
    notifyNext n s = sendNotify n x (s.setNotifyQ n ⟨some x, 1, s.now, w⟩) := by
  unfold notifyNext
  rw [waits]

theorem notifyNext_empties {n : Nat} (none_ : (s.notifyQ n).waiting = []) : notifyNext n s = s.setNotifyQ n .reset := by
  unfold notifyNext
  rw [none_] <;> rfl

/-- A queue with a notification outstanding reads back. -/
theorem notifyQ_setNotifyQ {n : Nat} {q : NotifyQueue} (sent : q.outstanding.isSome = true) (s : State) : (s.setNotifyQ n q).notifyQ n = q :=
  look_put_of_ne (fun is => by rw [is] at sent; exact absurd sent (by decide)) _ _

/-- A notification goes to its queue's address. -/
theorem sendNotify_setNotifyQ (n : Nat) (e : LogEntry) (q : NotifyQueue) (s : State) :
    (sendNotify n e (s.setNotifyQ n q)).out = s.out ++ [.notify (s.notifyDest n) e.forOthers] := rfl

theorem notifyNext_settled (n : Nat) (s : State) : (notifyNext n s).mgmt.settled = s.mgmt.settled := by
  unfold notifyNext
  split <;> rfl

theorem mem_pushLast {V : Type} {k : Nat} (room : 0 < k) (x : V) (l : List V) : x ∈ pushLast k x l := by
  have length : (l ++ [x]).length = l.length + 1 := List.length_append
  unfold pushLast
  rw [List.drop_append_of_le_length (by omega)]
  exact List.mem_append_right _ (List.mem_singleton_self x)

section
variable {n : Nat} {e : LogEntry} (out_ : (s.notifyQ n).outstanding = some e)
include out_

theorem exec_notifyResponse_low (up : s.keeperUp = true) (low : e.sev < 3) : exec (.notifyResponse n e.seq) s = .next (notifyNext n s) := by
  refine congrArg Host.Outcome.next ?_
  rw [out_]
  dsimp only
  rw [if_neg (by simp [up]), if_pos low]

theorem exec_notifyResponse_other {q : Nat} (other : q ≠ e.seq) : exec (.notifyResponse n q) s = .next s := by
  refine congrArg Host.Outcome.next ?_
  rw [out_]
  exact if_pos (by simp [Ne.symm other])

/-- The answer to an ALARM is remembered; what it sends next does not touch that. -/
theorem gives_notifyResponse_alarm (up : s.keeperUp = true) (alarm : 3 ≤ e.sev) :
    Gives (.notifyResponse n e.seq) s fun t => e.seq ∈ t.mgmt.alarmsAnswered := by
  refine ⟨_, rfl, ?_⟩
  dsimp only
  rw [out_]
  dsimp only
  rw [if_neg (by simp [up]), if_neg (by omega)]
  refine (alarmsAnswered_of_settled (forEach_settled (fun k t => ?_) _ _)).symm ▸ mem_pushLast (by decide) _ _
  split
  · split
    · exact notifyNext_settled k t
    · rfl
  · rfl

theorem exec_notifyRetryTimer : exec (.notifyRetryTimer n) s = .next
    (if !s.keeperUp || !s.elapsed (s.notifyQ n).sentAt (s.ob 0x1050 5 * msT) then s
    else if e.sev = 3 && s.mgmt.alarmsAnswered.contains e.seq then notifyNext n s
    else if e.sev = 3 || (s.notifyQ n).tries < 3 then
      sendNotify n e (s.setNotifyQ n { s.notifyQ n with tries := (s.notifyQ n).tries + 1, sentAt := s.now })
    else raiseNode Ev.notifyUnacked 0 (notifyNext n (s.bump 0x1050 6))) := by
  refine congrArg Host.Outcome.next ?_
  rw [out_]

end

/-- Settles O27: the branches of an answer and of a retry, and the queue that each leaves. -/
theorem notifications : Obligations.Notifications := by
  intro s n e out_
  refine ⟨fun up low => ⟨notifyNext n s, exec_notifyResponse_low out_ up low, fun x w waits => ?_, fun none_ => ?_⟩,
    fun up alarm => gives_notifyResponse_alarm out_ up alarm, fun q other => exec_notifyResponse_other out_ other,
    fun up due low => ⟨fun again => ?_, fun enough => ?_⟩, fun early => ?_⟩
  · rw [notifyNext_sends waits]
    exact ⟨notifyQ_setNotifyQ rfl s, sendNotify_setNotifyQ _ _ _ _⟩
  · rw [notifyNext_empties none_]
    exact ⟨rfl, rfl⟩
  · refine ⟨_, (exec_notifyRetryTimer out_).trans (congrArg Host.Outcome.next ?_), sendNotify_setNotifyQ n e { s.notifyQ n with
        tries := (s.notifyQ n).tries + 1, sentAt := s.now } s, ?_⟩
    · rw [if_neg (by simp [up, due]), if_neg (by simp; omega), if_pos (by simp [again])]
    · exact notifyQ_setNotifyQ (by rw [out_]; rfl) s
  · refine (exec_notifyRetryTimer out_).trans (congrArg Host.Outcome.next ?_)
    rw [if_neg (by simp [up, due]), if_neg (by simp; omega), if_neg (by simp; omega)]
  · exact (exec_notifyRetryTimer out_).trans (congrArg Host.Outcome.next (if_pos (by simp [early])))

/-! ### Segmented writes (R450) -/

theorem begun_segments (r : Req) (s : State) : (s.begun r).mgmt.segments = s.mgmt.segments := segments_of_settled (begun_settled r s)

theorem begun_segment (r : Req) (s : State) (src : Source) (idx sub : Nat) : (s.begun r).segment src idx sub = s.segment src idx sub := by
  rw [State.segment, begun_segments, State.segment]

theorem begun_isOwner (r : Req) (s : State) : (s.begun r).isOwner r = s.isOwner r := by
  obtain ⟨at_, heard⟩ := begun_sessions r s
  unfold State.isOwner
  split
  · rw [heard, List.any_map]
    rfl
  · rfl

theorem begun_inSession (r : Req) (s : State) : (s.begun r).inSession r = s.inSession r := by
  obtain ⟨at_, heard⟩ := begun_sessions r s
  unfold State.inSession
  split
  · rw [heard, List.any_map]
    rfl
  · rfl

theorem answer_segments (r : Req) (status detail : Nat) (l : List Segment) (s : State) :
    (answer r status detail (s.setSegments l)).mgmt.segments = l := segments_of_settled (answer_settled r status detail _)

section
variable {idx sub total : Nat} {o : ObjRow} {g : Segment}

theorem segStart_opens (passes : writeChecks r idx sub s = none) (row : findObj idx sub = some o) (fits : total ≤ o.ty.sizes.2)
    (room : (dropSegment r.src idx sub s.mgmt.segments).length < 4) : segStart r idx sub total 0 s =
      answer r St.ok 0 (s.setSegments (dropSegment r.src idx sub s.mgmt.segments ++ [⟨r.src, idx, sub, 0, total, [], s.now⟩])) := by
  unfold segStart
  rw [passes]
  dsimp only
  rw [row]
  dsimp only
  rw [if_neg (by simp; omega), if_neg (by omega)]

section
variable (open_ : s.segment r.src idx sub = some g)
include open_

theorem segData_open (off : Nat) (data : List Byte) : segData r idx sub off data s =
    if off ≠ g.got.length || g.total < g.got.length + data.length then answer r St.denied 4 s
    else answer r St.ok 0 (s.setSegments (dropSegment r.src idx sub s.mgmt.segments ++ [{ g with got := g.got ++ data, last := s.now }])) := by
  unfold segData
  rw [open_]

theorem segAbort_open : segAbort r idx sub s = answer r St.ok 0 (s.setSegments (dropSegment r.src idx sub s.mgmt.segments)) := by
  unfold segAbort
  rw [open_]

theorem segEnd_short (crc : Nat) (short : g.got.length ≠ g.total) : segEnd r idx sub crc s = answer r St.denied 4 s := by
  unfold segEnd
  rw [open_]
  exact if_pos (by simpa using short)

theorem segEnd_whole (whole : g.got.length = g.total) (plain : offsetObject idx sub = false) : segEnd r idx sub (crc32c g.got) s =
    carryOut r idx sub g.got (homeOf (s.isOwner r) (s.inSession r) idx sub g.got)
      (s.setSegments (dropSegment r.src idx sub s.mgmt.segments)) := by
  unfold segEnd
  rw [open_]
  dsimp only
  rw [if_neg (by simp [whole]), if_neg (by simp), if_neg (by simp [plain])]
  rfl

end
end

theorem exec_sessionDropped {src : Source} {idx sub : Nat} {g : Segment} (open_ : s.segment src idx sub = some g) :
    exec (.sessionDropped src idx sub) s = .next (if s.elapsed g.last secT then
      raiseNode Ev.sessionDropped 0 (s.setSegments (dropSegment src idx sub s.mgmt.segments)) else s) := by
  refine congrArg Host.Outcome.next ?_
  rw [open_]

/-- Settles O28: each request on the state in which it is begun, which has the sessions it came to. -/
theorem segmentedWrites : Obligations.SegmentedWrites := by
  intro s r idx sub total off crc data o g begins
  have takes {i : RequestOp} {act : State → State} : takeRequest r i act s = act (s.begun r) := takeRequest_begins begins i act
  refine ⟨fun passes row fits room => ?_, fun open_ => ?_, fun src open_ => ⟨fun silent => ?_, fun heard => ?_⟩⟩
  · refine ⟨_, congrArg Host.Outcome.next takes, ?_⟩
    dsimp only
    rw [segStart_opens passes row fits (by rw [begun_segments]; exact room), answer_segments, begun_segments, begun_now]
  · rw [← begun_segment r] at open_
    refine ⟨fun next fits => ⟨_, congrArg Host.Outcome.next takes, ?_⟩, fun gap => congrArg Host.Outcome.next (takes.trans ?_),
      ⟨_, congrArg Host.Outcome.next takes, ?_⟩, fun whole agrees plain => congrArg Host.Outcome.next (takes.trans ?_),
      fun short => congrArg Host.Outcome.next (takes.trans (segEnd_short open_ crc short))⟩
    · dsimp only
      rw [segData_open open_, if_neg (by simp [next]; omega), answer_segments, begun_segments, begun_now]
    · rw [segData_open open_, if_pos (by simp [gap])]
    · dsimp only
      rw [segAbort_open open_, answer_segments, begun_segments]
    · rw [← agrees, segEnd_whole open_ whole plain, begun_isOwner, begun_inSession, begun_segments]
  · exact ⟨_, (exec_sessionDropped open_).trans (congrArg Host.Outcome.next (if_pos silent)), segments_of_settled (raiseNode_settled _ _ _)⟩
  · exact (exec_sessionDropped open_).trans (congrArg Host.Outcome.next (if_neg (by simp [heard])))

/-! ### The log, the alarm and the window (R455, R458, R459, R463, R464, R548) -/

/-- A command whose home operation always applies is answered OK. -/
theorem dictWrite_applyHome {idx sub : Nat} {value : List Byte} (applies : s.applies r idx sub value = true) (f : State → State) :
    dictWrite r idx sub value (applyHome f) s = answer r St.ok 0 (f (s.begun r)) := dictWrite_done applies rfl

theorem doorbell_of_on {m : List Byte} (on : s.power.node ≠ .off) (fits : m.length ≤ 4096) : exec (.doorbell m) s = .next
    (if s.mgmt.window.busy then noteSecond ⟨.window, leNat (sliceBytes 2 2 m)⟩ s
    else if messageBad m then raiseNode Ev.frameMalformed 0
      (({ s with mgmt := { s.mgmt with window := { s.mgmt.window with reqBuf := m } } } : State).bump 0x1010 0x0B)
    else if leNat (sliceBytes 1 1 m) = 0x0A then
      if ((m.drop 16).getD 0 2).toNat < 2 then { s with mgmt := { s.mgmt with window := { s.mgmt.window with
        reqBuf := m, busy := bits 2 2 (m.getD 0 0).toNat == 0, unit := bits 2 2 (m.getD 0 0).toNat == 0 } } }
      else ({ s with mgmt := { s.mgmt with window := { s.mgmt.window with reqBuf := m } } } : State).bump 0x1010 0x0B
    else windowRequest m { s with mgmt := { s.mgmt with window := { s.mgmt.window with reqBuf := m, busy := true } } }) := by
  have whole : m.take 4096 = m := List.take_of_length_le fits
  refine congrArg Host.Outcome.next ?_
  rw [whole]
  exact if_neg on

/-- Settles O29: the commands by the rule of a write that applies, the window's registers by their branches. -/
theorem logAlarmAndWindow : Obligations.LogAlarmAndWindow := by
  intro s r m
  refine ⟨fun applies => ?_, fun applies => congrArg Host.Outcome.next (dictWrite_applyHome applies _), fun applies => ?_,
    fun ready second => ?_, fun idle => congrArg Host.Outcome.next (if_pos (by simp [idle])), fun e l ring => ?_, fun ring => ?_,
    fun on fits => ⟨fun busy => ?_, fun free good op => ?_, fun free bad => ?_⟩, fun gathered due => ?_, fun early => ?_⟩
  · refine congrArg Host.Outcome.next ((dictWrite_applyHome applies _).trans ?_)
    rw [clearAlarm, begun_pins]
  · refine congrArg Host.Outcome.next ((dictWrite_applyHome applies _).trans ?_)
    rw [clearMirror, begun_nvm]
  · refine congrArg Host.Outcome.next ((if_neg (by simp [ready])).trans ?_)
    split
    next r held => exact absurd held (by rw [second]; exact nofun)
    next => rfl
  · refine congrArg Host.Outcome.next ?_
    rw [ring]
  · refine congrArg Host.Outcome.next ?_
    rw [ring]
  · exact (doorbell_of_on on fits).trans (congrArg Host.Outcome.next (if_pos busy))
  · refine (doorbell_of_on on fits).trans (congrArg Host.Outcome.next ?_)
    rw [if_neg (by simp [free]), if_neg (by simp [good]), if_neg op]
  · refine (doorbell_of_on on fits).trans (congrArg Host.Outcome.next ?_)
    rw [if_neg (by simp [free]), if_pos bad]
  · exact congrArg Host.Outcome.next (if_pos (by simp [gathered, due]))
  · refine congrArg Host.Outcome.next (if_neg ?_)
    obtain none_ | early := early
    · simp [none_]
    · simp [early]

end

end Sys2Proof.Machine

/-!
PROOF. What service of requests, fences and write-backs leaves of the records: the processors, the pins, the NVM and the management state are
disturbed by events alone (R26, R455, R458, R459).
-/
namespace Sys2Proof.Machine

-- One proof after another, each on a stack of its own, for the check's memory.
set_option Elab.async false

/-- The parts that events write to, without what they write there and without the fences that wait for the Sequencer. -/
def State.beneath (s : State) : Mgmt × Procs × Pins × Nvm :=
  (s.mgmt.settled, { s.procs with staged := [], stagedLost := 0, fences := [] }, { s.pins with alarm := false }, { s.nvm with mirror := [] })

/-- Nothing but events, and fences that wait for the Sequencer, has written to those parts. -/
def Undisturbed (s t : State) : Prop := t.beneath = s.beneath

theorem Undisturbed.refl (s : State) : Undisturbed s s := rfl

theorem Undisturbed.trans {a s t : State} (h : Undisturbed a s) (k : Undisturbed s t) : Undisturbed a t := Eq.trans k h

theorem Undisturbed.ite {a x y : State} {c : Prop} [Decidable c] (h : Undisturbed a x) (k : Undisturbed a y) :
    Undisturbed a (if c then x else y) := by
  split <;> assumption

theorem Undisturbed.of_eq {a t : State} {α : Type} {p : α × State} {x : α} (e : p = (x, t)) (h : Undisturbed a p.2) : Undisturbed a t := by
  subst e
  exact h

/-- An operation whose frame leaves those parts out: every part but `procs`, `pins`, `mgmt` and `nvm` is in the mask. -/
theorem Fr.leaves {a s t : State} (k : Fr 134213479 s t) (h : Undisturbed a s) : Undisturbed a t := by
  refine h.trans ?_
  unfold Undisturbed State.beneath
  rw [k.mgmt (by decide), k.procs (by decide), k.pins (by decide), k.nvm (by decide)]

section
variable {s t : State} (h : Undisturbed s t)
include h

theorem Undisturbed.settled : t.mgmt.settled = s.mgmt.settled := congrArg (fun b => b.1) h

theorem Undisturbed.setWrites : t.mgmt.setWrites = s.mgmt.setWrites := by
  have same := congrArg Mgmt.setWrites h.settled
  exact same

/-- The processors run, or restart, as they did. -/
theorem Undisturbed.proc (p : ProcId) : t.procs.get p = s.procs.get p := by
  have same : ({ t.procs with staged := [], stagedLost := 0, fences := [] } : Procs) = { s.procs with staged := [], stagedLost := 0, fences := [] } :=
    congrArg (fun b => b.2.1) h
  cases p
  · exact congrArg (·.sequencer) same
  · exact congrArg (·.steward) same
  · exact congrArg (·.warden) same
  · exact congrArg (·.keeper) same

theorem Undisturbed.owner : t.nvm.owner = s.nvm.owner := by
  have same : ({ t.nvm with mirror := [] } : Nvm) = { s.nvm with mirror := [] } := congrArg (fun b => b.2.2.2) h
  exact congrArg (·.owner) same

end

/-- Reports write to those parts what events write. -/
theorem ReportsOnly.undisturbed {s t : State} (reports : ReportsOnly s t) (settled : t.mgmt.settled = s.mgmt.settled) : Undisturbed s t := by
  unfold Undisturbed State.beneath
  rw [settled, reports.parts]

/-! ### Each operation -/

theorem raiseEvent_undisturbed {α : State} {e : Event} {s : State} (hyp : Undisturbed α s) : Undisturbed α (raiseEvent e s) :=
  hyp.trans ((raiseEvent_reports e s).undisturbed (raiseEvent_settled e s))

theorem raise_undisturbed {α : State} {code inst detail : Nat} {s : State} (hyp : Undisturbed α s) :
    Undisturbed α (raise code inst detail s) := raiseEvent_undisturbed hyp

theorem raiseNode_undisturbed {α : State} {code detail : Nat} {s : State} (hyp : Undisturbed α s) : Undisturbed α (raiseNode code detail s) :=
  raiseEvent_undisturbed hyp

theorem raiseCtx_undisturbed {α : State} {code inst ctx detail : Nat} {s : State} (hyp : Undisturbed α s) :
    Undisturbed α (raiseCtx code inst ctx detail s) := raiseEvent_undisturbed hyp

theorem raiseAt_undisturbed {α : State} {code inst detail : Nat} {secure : Bool} {s : State} (hyp : Undisturbed α s) :
    Undisturbed α (raiseAt code inst detail secure s) := raiseEvent_undisturbed hyp

theorem each_undisturbed {a s : State} {α : Type} {l : List α} {f : α → State → State} (h : Undisturbed a s)
    (k : ∀ x s, Undisturbed s (f x s)) : Undisturbed a (forEach l f s) :=
  forEach_invariant (fun x _ done => Undisturbed.trans done (k x _)) l h

theorem acceptOr_undisturbed {α : State} {id : Nat} {confirmed : Bool} {f : State → State} {s : State} (hyp : Undisturbed α s)
    (acts : ∀ y, Undisturbed y (f y)) : Undisturbed α (acceptOr id confirmed f s) := by
  unfold acceptOr
  split
  · exact hyp
  · exact .ite (hyp.trans (acts _)) (.ite (.ite hyp ((refuseLater_fr (.refl _ _)).leaves hyp))
      (.trans ((acceptAsk_fr (.refl _ _)).leaves hyp) (acts _)))

theorem countAccess_undisturbed {α : State} {status a : Nat} {s : State} (hyp : Undisturbed α s) : Undisturbed α (countAccess status a s) :=
  .ite (raiseAt_undisturbed ((State.bump_fr (.refl _ _)).leaves hyp)) (raiseAt_undisturbed ((State.setOb_fr (State.bump_fr (.refl _ _))).leaves hyp))

theorem accessCheck_undisturbed {α : State} {op : AccessOp} {world : Bool} {ctx : Nat} {core : Option CoreId} {a : Nat} {s : State}
    (hyp : Undisturbed α s) :
    Undisturbed α (accessCheck op world ctx core a s).2 := by
  unfold accessCheck
  split
  · exact hyp
  · exact countAccess_undisturbed hyp

theorem forwardAsk_undisturbed {α : State} {a : Ask} {s : State} (hyp : Undisturbed α s) : Undisturbed α (forwardAsk a s) := by
  have again {c : Prop} [Decidable c] {n : Nat} : Undisturbed α (if c then reissue n s else s) := .ite ((reissue_fr (.refl _ _)).leaves hyp) hyp
  have done {b : Ask} {id st : Nat} {d : Option Nat} {u : State} (k : Undisturbed α u) : Undisturbed α (finish id st d (addAsk b u)) :=
    (finish_fr (addAsk_fr (.refl _ _))).leaves k
  unfold forwardAsk
  refine .ite (done ?_) (.ite (done again) (.ite (done again) (.ite ((addAsk_fr (.refl _ _)).leaves again)
    ((sendParcel_fr (addAsk_fr (.refl _ _))).leaves again))))
  split
  · exact again
  · exact countAccess_undisturbed again

theorem bumpSync_undisturbed {α : State} {o n : Nat} {broken : Bool} {s : State} (hyp : Undisturbed α s) : Undisturbed α (bumpSync o n broken s) :=
  (putSync_fr (.refl _ _)).leaves (.ite (raiseNode_undisturbed hyp) hyp)

theorem signalObject_undisturbed {α : State} {unit obj addend ctx : Nat} {world broken : Bool} {s : State} (hyp : Undisturbed α s) :
    Undisturbed α (signalObject unit obj addend ctx world broken s) :=
  .ite (.ite hyp (bumpSync_undisturbed hyp)) (forwardAsk_undisturbed hyp)

theorem redSignal_undisturbed {α : State} {r : Red} {broken : Bool} {s : State} (hyp : Undisturbed α s) : Undisturbed α (redSignal r broken s) :=
  .ite (signalObject_undisturbed hyp) hyp

theorem offerInternal_undisturbed {α : State} {code cls ctx : Nat} {world : Bool} {a : Nat} {op : Op} {why : Purpose} {s : State}
    (hyp : Undisturbed α s) :
    Undisturbed α (offerInternal code cls ctx world a op why s) :=
  .ite (forwardAsk_undisturbed hyp) (.ite ((finish_fr (addAsk_fr (.refl _ _))).leaves (countAccess_undisturbed hyp))
    (.ite ((finish_fr (addAsk_fr (.refl _ _))).leaves hyp)
    ((addAsk_fr (.refl _ _)).leaves hyp)))

theorem poisonWrite_undisturbed {α : State} {a : Nat} {s : State} (hyp : Undisturbed α s) : Undisturbed α (poisonWrite a s) :=
  offerInternal_undisturbed hyp

theorem breakRed_undisturbed {α : State} {r : Red} {s : State} (hyp : Undisturbed α s) : Undisturbed α (breakRed r s) :=
  raiseAt_undisturbed ((State.bump_fr (closeRecord_fr (.refl _ _))).leaves (redSignal_undisturbed
    (each_undisturbed (each_undisturbed (poisonWrite_undisturbed ((dropLine_fr (State.setReds_fr (.refl _ _))).leaves hyp))
    (fun _ _ => (finish_fr (.refl _ _)).leaves (.refl _))) (fun _ _ => (finish_fr (.refl _ _)).leaves (.refl _)))))

theorem fenceReds_undisturbed {α : State} {ctx : Nat} {s : State} (hyp : Undisturbed α s) : Undisturbed α (fenceReds ctx s) :=
  each_undisturbed hyp (fun _ _ => breakRed_undisturbed (each_undisturbed (.refl _) (fun _ _ => (finish_fr (.refl _ _)).leaves (.refl _))))

theorem fenceContext_undisturbed {α : State} {cause : Nat} {ctx : Nat} {s : State} (hyp : Undisturbed α s) :
    Undisturbed α (fenceContext cause ctx s) := by
  unfold fenceContext
  refine .ite hyp (.ite hyp ?_)
  extract_lets s1 s2 s3 ts told s4 s5 ns cut f5 s6 c6 s7
  have h1 : Undisturbed α s1 := (State.setOb_fr (.refl _ _)).leaves hyp
  have h2 : Undisturbed α s2 := (State.bump_fr (State.setOb_fr (State.setOb_fr (.refl _ _)))).leaves h1
  have h3 : Undisturbed α s3 := raiseCtx_undisturbed h2
  have h4 : Undisturbed α s4 := each_undisturbed h3 fun _ s => .ite ((State.send_fr (.refl _ _)).leaves (.refl s)) (.refl s)
  have h5 : Undisturbed α s5 := each_undisturbed h4 fun _ s => (dropEscapes_fr (.refl _ _)).leaves (.refl s)
  have h6 : Undisturbed α s6 := (State.setFeeds_fr (.refl _ _)).leaves h5
  have h7 : Undisturbed α s7 := h6
  exact (abortAsks_fr (.refl _ _)).leaves (fenceReds_undisturbed h7)

theorem startWriteBack_undisturbed {α : State} {line : Nat} {s : State} (hyp : Undisturbed α s) : Undisturbed α (startWriteBack line s) := by
  unfold startWriteBack
  dsimp only
  split
  · exact .ite hyp (offerInternal_undisturbed ((count_fr (State.setWay_fr (.refl _ _))).leaves hyp))
  · exact hyp

theorem applyAtomic_undisturbed {α : State} {q : Ask} {k : Nat} {w : CWay} {f offset : Nat} {wide fetch : Bool} {a b : Nat} {s : State}
    (hyp : Undisturbed α s) : Undisturbed α (applyAtomic q k w f offset wide fetch a b s) :=
  .ite ((applyAsk_fr (touch_fr (countIf_fr (State.bump_fr (.refl _ _))))).leaves hyp)
    (.ite ((applyAsk_fr (syncDirty_fr (mirrorLine_fr (touch_fr (State.setWay_fr (countIf_fr (State.bump_fr (.refl _ _)))))))).leaves hyp)
    (startWriteBack_undisturbed ((State.modAsk_fr (syncDirty_fr (mirrorLine_fr (touch_fr
    (State.setWay_fr (countIf_fr (State.bump_fr (.refl _ _)))))))).leaves hyp)))

theorem endFarRead_undisturbed {α : State} {id : Nat} {line : Option (Nat × Nat)} {s : State} (hyp : Undisturbed α s) : Undisturbed α
    (endFarRead id line s) := by
  unfold endFarRead
  dsimp only
  split
  · split
    · exact (finish_fr (.refl _ _)).leaves (countAccess_undisturbed hyp)
    · exact .ite ((finish_fr (.refl _ _)).leaves hyp) ((finish_fr (.refl _ _)).leaves hyp)
  · exact (finish_fr (.refl _ _)).leaves hyp

theorem noteLost_undisturbed {α : State} {b : Nat} {s : State} (hyp : Undisturbed α s) : Undisturbed α (noteLost b s) :=
  .ite hyp (raiseNode_undisturbed ((State.setFar_fr (.refl _ _)).leaves hyp))

theorem denyBale_undisturbed {α : State} {b : Nat} {s : State} (hyp : Undisturbed α s) : Undisturbed α (denyBale b s) := by
  unfold denyBale
  split
  · exact hyp
  · exact each_undisturbed ((State.setFar_fr (.refl _ _)).leaves (noteLost_undisturbed hyp))
      (fun _ _ => (endFarWrite_fr (.refl _ _)).leaves (.refl _))

theorem writeBale_undisturbed {α : State} {b : Nat} {s : State} (hyp : Undisturbed α s) : Undisturbed α (writeBale b s) := by
  unfold writeBale
  split
  · exact hyp
  · refine .ite hyp ?_
    split
    · exact denyBale_undisturbed hyp
    · exact .ite hyp (.ite ((issueBaleWrite_fr (.refl _ _)).leaves hyp) (.ite ((issueBaleWrite_fr (fillMissing_fr (.refl _ _))).leaves hyp)
        ((waitBale_fr (.refl _ _)).leaves hyp)))

theorem mergeBale_undisturbed {α : State} {w : FarWrite} {l : Nat × Nat} {s : State} (hyp : Undisturbed α s) : Undisturbed α (mergeBale w l s) := by
  unfold mergeBale
  dsimp only
  split
  · exact .ite (writeBale_undisturbed ((State.modBale_fr (.refl _ _)).leaves hyp)) ((State.modBale_fr (.refl _ _)).leaves hyp)
  · exact (State.modBale_fr (.refl _ _)).leaves hyp

theorem serveReader_undisturbed {α : State} {b : Nat} {r : FarReader} {s : State} (hyp : Undisturbed α s) : Undisturbed α (serveReader b r s) := by
  unfold serveReader
  dsimp only
  split
  · exact hyp
  · split
    · exact endFarRead_undisturbed hyp
    · exact (endRestore_fr (.refl _ _)).leaves hyp
    · exact hyp
    · split
      · split
        · exact mergeBale_undisturbed hyp
        · exact (finish_fr (.refl _ _)).leaves hyp
      · exact hyp
    · exact (endTransferRead_fr (.refl _ _)).leaves hyp

theorem failReader_undisturbed {α : State} {b : Nat} {r : FarReader} {s : State} (hyp : Undisturbed α s) : Undisturbed α (failReader b r s) := by
  unfold failReader
  split
  · exact .ite (serveReader_undisturbed hyp) ((finish_fr (.refl _ _)).leaves hyp)
  · exact .ite (serveReader_undisturbed hyp) ((endRestore_fr (.refl _ _)).leaves hyp)
  · exact raiseNode_undisturbed ((fillMissing_fr (.refl _ _)).leaves hyp)
  · exact .ite (serveReader_undisturbed hyp) ((finish_fr (.refl _ _)).leaves hyp)
  · exact (endTransferRead_fr (.refl _ _)).leaves hyp

theorem takeFarRead_undisturbed {α : State} {b line : Nat} {r : FarReader} {s : State} (hyp : Undisturbed α s) : Undisturbed α
    (takeFarRead b line r s) := by
  unfold takeFarRead
  refine .ite ((waitBale_fr (.refl _ _)).leaves hyp) ?_
  split
  · exact failReader_undisturbed (noteLost_undisturbed hyp)
  · split
    · exact endFarRead_undisturbed ((useBale_fr (.refl _ _)).leaves hyp)
    · exact (endRestore_fr (useBale_fr (.refl _ _))).leaves hyp
    · exact (waitBale_fr (.refl _ _)).leaves hyp
  · exact (waitBale_fr (.refl _ _)).leaves hyp

theorem takeFarWrite_undisturbed {α : State} {w : FarWrite} {s : State} (hyp : Undisturbed α s) : Undisturbed α (takeFarWrite w s) := by
  unfold takeFarWrite
  dsimp only
  split
  · exact (endFarWrite_fr (.refl _ _)).leaves (noteLost_undisturbed hyp)
  · refine .ite ((endFarWrite_fr (.refl _ _)).leaves (raiseNode_undisturbed hyp)) ?_
    split
    · exact mergeBale_undisturbed ((takeBale_fr (.refl _ _)).leaves hyp)
    · exact .ite ((endFarWrite_fr (takeBale_fr (.refl _ _))).leaves hyp) ((waitBale_fr (takeBale_fr (.refl _ _))).leaves hyp)

theorem takeFarOp_undisturbed {α : State} {a : FarOp} {a_ : State} (hyp : Undisturbed α a_) : Undisturbed α (takeFarOp a a_) := by
  unfold takeFarOp
  split
  · exact takeFarWrite_undisturbed hyp
  · exact takeFarRead_undisturbed hyp

theorem evictBale_undisturbed {α s : State} (hyp : Undisturbed α s) : Undisturbed α (evictBale s) := by
  unfold evictBale
  dsimp only
  refine .ite hyp ?_
  split
  · exact writeBale_undisturbed hyp
  · exact hyp

theorem drainFar_undisturbed {α s : State} (hyp : Undisturbed α s) : Undisturbed α (drainFar s) :=
  evictBale_undisturbed (each_undisturbed hyp (fun _ _ => .ite (takeFarOp_undisturbed ((State.setFar_fr (.refl _ _)).leaves (.refl _))) (.refl _)))

theorem readEscape_undisturbed {α : State} {u slot l ctx : Nat} {world : Bool} {why : Nat → Purpose} {s : State} (hyp : Undisturbed α s) :
    Undisturbed α (readEscape u slot l ctx world why s) :=
  each_undisturbed hyp (fun _ _ => offerInternal_undisturbed (.refl _))

theorem countWiden_undisturbed {α : State} {u a : Nat} {cs : Cause} {w : Widened} {s : State} (hyp : Undisturbed α s) :
    Undisturbed α (countWiden u a cs w s) := by
  unfold countWiden
  split
  · exact raiseAt_undisturbed ((State.bump_fr (.refl _ _)).leaves hyp)
  · exact raiseAt_undisturbed ((State.bump_fr (.refl _ _)).leaves hyp)
  · exact raiseAt_undisturbed ((State.bump_fr (.refl _ _)).leaves hyp)
  · exact (countIf_fr (countIf_fr (State.bumpBy_fr (State.bump_fr (.refl _ _))))).leaves hyp
  · exact hyp

theorem finishWiden_undisturbed {α : State} {q : Ask} {j : Nat} {l : Nat × Nat} {s : State} (hyp : Undisturbed α s) : Undisturbed α
    (finishWiden q j l s) := by
  unfold finishWiden
  dsimp only
  refine .ite ((finish_fr (.refl _ _)).leaves hyp) ?_
  split
  · exact (finish_fr (.refl _ _)).leaves (countWiden_undisturbed hyp)
  · exact (finish_fr (.refl _ _)).leaves (countWiden_undisturbed hyp)
  · exact (finish_fr (.refl _ _)).leaves (countWiden_undisturbed hyp)
  · exact (finish_fr (.refl _ _)).leaves (countWiden_undisturbed hyp)
  · exact (finish_fr (.refl _ _)).leaves (countWiden_undisturbed hyp)
  · exact readEscape_undisturbed ((State.modAsk_fr (.refl _ _)).leaves (countWiden_undisturbed hyp))

theorem finishRead_undisturbed {α : State} {id : Nat} {l : Nat × Nat} {s : State} (hyp : Undisturbed α s) : Undisturbed α (finishRead id l s) := by
  unfold finishRead
  split
  · exact hyp
  · refine .ite hyp (.ite ((finish_fr (.refl _ _)).leaves (countAccess_undisturbed hyp)) (.ite ((finish_fr (State.modAsk_fr (.refl _ _))).leaves (.ite
      ((State.bump_fr (.refl _ _)).leaves hyp) hyp)) (.ite ((finish_fr (.refl _ _)).leaves (.ite ((State.bump_fr (.refl _ _)).leaves hyp) hyp)) ?_)))
    split
    · exact finishWiden_undisturbed (.ite ((State.bump_fr (.refl _ _)).leaves hyp) hyp)
    · exact (finish_fr (.refl _ _)).leaves (.ite ((State.bump_fr (.refl _ _)).leaves hyp) hyp)

theorem denyAsk_undisturbed {α : State} {id : Nat} {s : State} (hyp : Undisturbed α s) : Undisturbed α (denyAsk id s) := by
  unfold denyAsk
  split
  · exact hyp
  · split
    · exact raiseAt_undisturbed ((State.bump_fr (finish_fr (.refl _ _))).leaves hyp)
    · exact raiseAt_undisturbed ((State.bump_fr (finish_fr (.refl _ _))).leaves hyp)
    · exact (finish_fr (.refl _ _)).leaves hyp

theorem stepAccess_undisturbed {α : State} {q : Ask} {s : State} (hyp : Undisturbed α s) : Undisturbed α (stepAccess q s).2 := by
  unfold stepAccess
  extract_lets ranged
  have checked (op : AccessOp) : Undisturbed α (ranged op).2 := by
    dsimp only [ranged]
    split
    · rename_i st t access
      exact Undisturbed.of_eq access (accessCheck_undisturbed hyp)
    · rename_i t access
      have h1 : Undisturbed α t := Undisturbed.of_eq access (accessCheck_undisturbed hyp)
      split
      · exact raiseNode_undisturbed h1
      · exact h1
  split
  · split
    · exact countAccess_undisturbed hyp
    · exact hyp
  · exact checked _
  · exact checked _

theorem step5_undisturbed {α : State} {q : Ask} {s : State} (hyp : Undisturbed α s) : Undisturbed α (step5 q s).2 := by
  unfold step5
  split
  · exact hyp
  · split
    · exact hyp
    · split
      · exact Undisturbed.of_eq ‹_› (stepAccess_undisturbed hyp)
      · exact Undisturbed.of_eq ‹_› (stepAccess_undisturbed hyp)

theorem recheck_undisturbed {α : State} {q : Ask} {s : State} (hyp : Undisturbed α s) : Undisturbed α (recheck q s).2 := by
  unfold recheck
  split
  · exact hyp
  · split
    · exact Undisturbed.of_eq ‹_› (step5_undisturbed hyp)
    · exact .ite ((refuseLater_fr (.refl _ _)).leaves (.of_eq ‹_› (step5_undisturbed hyp)))
        (.ite (denyAsk_undisturbed (.of_eq ‹_› (step5_undisturbed hyp)))
        ((finish_fr (.refl _ _)).leaves (.of_eq ‹_› (step5_undisturbed hyp))))
    · exact (dropAsk_fr (.refl _ _)).leaves (.of_eq ‹_› (step5_undisturbed hyp))

theorem grant_undisturbed {α : State} {q : Ask} {confirmed : Bool} {f : State → State} {s : State} (hyp : Undisturbed α s)
    (acts : ∀ y, Undisturbed y (f y)) :
    Undisturbed α (grant q confirmed f s) := by
  unfold grant
  split
  · exact Undisturbed.of_eq ‹_› (recheck_undisturbed hyp)
  · split
    · exact .ite (denyAsk_undisturbed (.of_eq ‹_› (recheck_undisturbed hyp))) ((finish_fr (.refl _ _)).leaves (.of_eq ‹_› (recheck_undisturbed hyp)))
    · exact .ite (.ite (.of_eq ‹_› (recheck_undisturbed hyp)) ((refuseLater_fr (.refl _ _)).leaves (.of_eq ‹_› (recheck_undisturbed hyp)))) (.trans
        ((acceptAsk_fr (countGrant_fr (.refl _ _))).leaves (.of_eq ‹_› (recheck_undisturbed hyp))) (acts _))

theorem serveHit_undisturbed {α : State} {id : Nat} {s : State} (hyp : Undisturbed α s) : Undisturbed α (serveHit id s) := by
  unfold serveHit
  split
  · exact hyp
  · refine .ite hyp ?_
    split
    · exact .ite (grant_undisturbed hyp (fun _ => finishRead_undisturbed ((noteEntry_fr (.refl _ _)).leaves (.refl _))))
        (grant_undisturbed hyp (fun _ => (State.modRed_fr (noteEntry_fr (.refl _ _))).leaves (.refl _)))
    · exact grant_undisturbed hyp (fun _ => finishRead_undisturbed ((touch_fr (countHit_fr (noteEntry_fr (.refl _ _)))).leaves (.refl _)))
    · exact hyp

theorem farWrite_undisturbed {α : State} {w : FarWrite} {s : State} (hyp : Undisturbed α s) : Undisturbed α (farWrite w s) :=
  .ite ((finish_fr (.refl _ _)).leaves hyp) (.ite (takeFarWrite_undisturbed hyp) ((queueFar_fr (.refl _ _)).leaves hyp))

theorem farRead_undisturbed {α : State} {b line : Nat} {r : FarReader} {s : State} (hyp : Undisturbed α s) : Undisturbed α (farRead b line r s) := by
  unfold farRead
  refine .ite ?_ (.ite (takeFarRead_undisturbed ?_) ((queueFar_fr (.refl _ _)).leaves ?_))
  · split
    · exact (finish_fr (.refl _ _)).leaves hyp
    · refine failReader_undisturbed ?_
      split
      · exact (count_fr (.refl _ _)).leaves hyp
      · exact hyp
  · split
    · exact (count_fr (.refl _ _)).leaves hyp
    · exact hyp
  · split
    · exact (count_fr (.refl _ _)).leaves hyp
    · exact hyp

theorem serveFar_undisturbed {α : State} {id : Nat} {s : State} (hyp : Undisturbed α s) : Undisturbed α (serveFar id s) := by
  unfold serveFar
  split
  · exact hyp
  · refine .ite hyp ?_
    split
    · exact grant_undisturbed hyp (fun _ => farRead_undisturbed (.refl _))
    · exact grant_undisturbed hyp (fun _ => farWrite_undisturbed (.refl _))
    · exact grant_undisturbed hyp (fun _ => farWrite_undisturbed (.refl _))
    · exact hyp

theorem serveAbsorb_undisturbed {α : State} {id mask data : Nat} {s : State} (hyp : Undisturbed α s) : Undisturbed α (serveAbsorb id mask data s)
    := by
  unfold serveAbsorb
  split
  · exact hyp
  · refine .ite hyp (.ite ((refuseLater_fr (.refl _ _)).leaves hyp) ?_)
    split
    · exact .ite hyp (grant_undisturbed hyp (fun _ => (absorbWrite_fr (.refl _ _)).leaves (.refl _)))
    · exact hyp

theorem breakPoisoned_undisturbed {α : State} {a : Nat} {s : State} (hyp : Undisturbed α s) : Undisturbed α (breakPoisoned a s) := by
  unfold breakPoisoned
  split
  · exact .ite (breakRed_undisturbed hyp) hyp
  · exact hyp

theorem openRefused_undisturbed {α : State} {a : Nat} {w : RedWord} {s : State} (hyp : Undisturbed α s) : Undisturbed α (openRefused a w s) :=
  .ite (offerInternal_undisturbed (breakPoisoned_undisturbed ((openRed_fr (.refl _ _)).leaves hyp)))
    (breakPoisoned_undisturbed ((openRed_fr (.refl _ _)).leaves hyp))

theorem serveReduce_undisturbed {α : State} {id : Nat} {s : State} (hyp : Undisturbed α s) : Undisturbed α (serveReduce id s) := by
  unfold serveReduce
  split
  · exact hyp
  · split
    · refine .ite hyp (.ite (denyAsk_undisturbed hyp) (.ite ((finish_fr (.refl _ _)).leaves hyp) (.ite ((sliceLater_fr (.refl _ _)).leaves hyp) ?_)))
      split
      · exact acceptOr_undisturbed hyp (fun _ => (finish_fr (.refl _ _)).leaves (.refl _))
      · exact denyAsk_undisturbed hyp
      · exact (sliceLater_fr (.refl _ _)).leaves (.ite (openRefused_undisturbed hyp) hyp)
      · exact .ite ((refuseLater_fr (.refl _ _)).leaves hyp) (breakPoisoned_undisturbed
          ((State.peak_fr (acceptAsk_fr (countIf_fr (State.modRed_fr (.refl _ _))))).leaves (.ite ((openRed_fr (.refl _ _)).leaves hyp) hyp)))
    · exact hyp

theorem serveSliced_undisturbed {α : State} {q : Ask} {f : State → State} {s : State} (hyp : Undisturbed α s) (acts : ∀ y, Undisturbed y (f y)) :
    Undisturbed α (serveSliced q f s) := by
  unfold serveSliced
  dsimp only
  refine .ite (.trans hyp (acts _)) (.ite hyp ?_)
  split
  · exact Undisturbed.of_eq ‹_› (recheck_undisturbed hyp)
  · split
    · exact .ite ((countGrant_fr (.refl _ _)).leaves (.trans (.of_eq ‹_› (recheck_undisturbed hyp)) (acts _))) (.trans (.of_eq ‹_›
        (recheck_undisturbed hyp)) (acts _))
    · exact .trans (.of_eq ‹_› (recheck_undisturbed hyp)) (acts _)

theorem serveFlush_undisturbed {α : State} {q : Ask} {s : State} (hyp : Undisturbed α s) : Undisturbed α (serveFlush q s) := by
  unfold serveFlush
  split
  · exact .ite (startWriteBack_undisturbed ((State.setCache_fr (.refl _ _)).leaves hyp)) ((applyAsk_fr (.refl _ _)).leaves hyp)
  · exact (applyAsk_fr (.refl _ _)).leaves hyp

theorem tryAtomic_undisturbed {α : State} {q : Ask} {f offset : Nat} {wide fetch : Bool} {a b : Nat} {s : State} (hyp : Undisturbed α s) :
    Undisturbed α (tryAtomic q f offset wide fetch a b s) := by
  unfold tryAtomic
  refine .ite hyp (.ite (serveFlush_undisturbed hyp) ?_)
  split
  · exact hyp
  · refine .ite ((finish_fr (.refl _ _)).leaves hyp) (.ite (applyAtomic_undisturbed hyp) ?_)
    split
    · exact startWriteBack_undisturbed hyp
    · exact applyAtomic_undisturbed hyp

theorem serveAtomic_undisturbed {α : State} {id : Nat} {s : State} (hyp : Undisturbed α s) : Undisturbed α (serveAtomic id s) := by
  unfold serveAtomic
  split
  · exact hyp
  · split
    · exact .ite hyp (.ite (denyAsk_undisturbed hyp) (.ite ((finish_fr (.refl _ _)).leaves hyp)
        (.ite (.ite ((sliceLater_fr (.refl _ _)).leaves hyp) hyp)
        (.ite (.ite ((sliceLater_fr (.refl _ _)).leaves hyp) hyp) (acceptOr_undisturbed hyp (fun _ => tryAtomic_undisturbed (.refl _)))))))
    · exact hyp

theorem syncApply_undisturbed {α : State} {a : Ask} {op o operand : Nat} {s : State} (hyp : Undisturbed α s) : Undisturbed α
    (syncApply a op o operand s) := by
  unfold syncApply
  split
  · exact (applyAsk_fr (.refl _ _)).leaves hyp
  · exact (putSync_fr (applyAsk_fr (.refl _ _))).leaves hyp
  · exact bumpSync_undisturbed ((applyAsk_fr (.refl _ _)).leaves hyp)
  · exact bumpSync_undisturbed ((applyAsk_fr (.refl _ _)).leaves hyp)
  · split
    · exact (sendNotice_fr (applyAsk_fr (.refl _ _))).leaves (hyp)
    · exact .ite ((applyAsk_fr (.refl _ _)).leaves hyp) (hyp)
  · exact (putSync_fr (applyAsk_fr (.refl _ _))).leaves hyp

theorem serveSync_undisturbed {α : State} {id : Nat} {s : State} (hyp : Undisturbed α s) : Undisturbed α (serveSync id s) := by
  unfold serveSync
  split
  · exact hyp
  · split
    · exact .ite hyp (.ite (denyAsk_undisturbed hyp) (.ite (.ite ((sliceLater_fr (.refl _ _)).leaves hyp) hyp)
        (.ite ((sliceLater_fr (.refl _ _)).leaves hyp)
        (acceptOr_undisturbed hyp (fun _ => .ite (syncApply_undisturbed ((countIf_fr (.refl _ _)).leaves (.refl _))) (.refl _))))))
    · exact hyp

theorem serveAsk_undisturbed {α : State} {id : Nat} {s : State} (hyp : Undisturbed α s) : Undisturbed α (serveAsk id s) := by
  unfold serveAsk
  split
  · exact hyp
  · refine .ite hyp ?_
    split
    · exact serveSliced_undisturbed hyp (fun _ => serveSync_undisturbed (.refl _))
    · exact serveSliced_undisturbed hyp (fun _ => serveAtomic_undisturbed (.refl _))
    · exact serveSliced_undisturbed hyp (fun _ => serveReduce_undisturbed (.refl _))
    · exact .ite (serveFar_undisturbed hyp) (serveAbsorb_undisturbed hyp)
    · exact serveFar_undisturbed hyp
    · exact .ite (serveFar_undisturbed hyp) (serveHit_undisturbed hyp)

theorem serveAll_undisturbed {α s : State} (hyp : Undisturbed α s) : Undisturbed α (serveAll s) :=
  each_undisturbed (drainFar_undisturbed hyp) (fun _ _ => serveAsk_undisturbed (.refl _))

theorem endSession_undisturbed {α : State} {id : Nat} {s : State} (hyp : Undisturbed α s) :
    Undisturbed α (endSession id s) :=
  .ite (raiseNode_undisturbed ((State.setSec_fr (.refl _ _)).leaves hyp)) hyp

theorem endSessions_undisturbed {α s : State} (hyp : Undisturbed α s) : Undisturbed α (endSessions s) :=
  each_undisturbed hyp (fun _ _ => endSession_undisturbed (.refl _))

end Sys2Proof.Machine

/-!
PROOF. Zeroisation, the owner commands and debug unlock, and the settling of O17, O19 and O20 (R379, R387, R389, R556).
-/
namespace Sys2Proof.Machine

-- One proof after another, each on a stack of its own, for the check's memory.
set_option Elab.async false

/-! ### What the steps of a zeroisation leave of the Warden's state (R387) -/

/-- The Warden's state without what the steps of a zeroisation take from it. -/
def Security.lasting (x : Security) : Security :=
  { x with sessions := [], keys := [], loaded := [], poisonRanges := [], zeroStage := 0 }

/-- The Warden's state as a zeroisation of a cause begins. -/
def Security.zeroed (x : Security) (cause : ZeroCause) : Security :=
  { x with zeroing := some cause, lifecycle := .zeroising, lifecycleAfter := x.lifecycle }

section
variable {s t : State} {cause : ZeroCause}

section
variable {x y : Security} (same : x.lasting = y.lasting)
include same

theorem Security.zeroing_of_lasting : x.zeroing = y.zeroing := by
  have parts := congrArg Security.zeroing same
  exact parts

theorem Security.lifecycle_of_lasting : x.lifecycle = y.lifecycle ∧ x.lifecycleAfter = y.lifecycleAfter := by
  have parts := congrArg (fun z : Security => (z.lifecycle, z.lifecycleAfter)) same
  exact Prod.mk.inj parts

theorem Security.transfer_of_lasting : x.transferEc = y.transferEc ∧ x.transferMl = y.transferMl := by
  have parts := congrArg (fun z : Security => (z.transferEc, z.transferMl)) same
  exact Prod.mk.inj parts

end

theorem forEach_lasting {α : Type} {l : List α} {f : α → State → State} (each : ∀ a s, (f a s).sec.lasting = s.sec.lasting) (s : State) :
    (forEach l f s).sec.lasting = s.sec.lasting :=
  forEach_related (rel := fun s t => t.sec.lasting = s.sec.lasting) (fun _ => rfl) (fun st tu => tu.trans st) l f each s

theorem endSession_lasting (id : Nat) (s : State) : (endSession id s).sec.lasting = s.sec.lasting := by
  unfold endSession
  split
  · rw [(raiseNode_reports _ _ _).sec]
    rfl
  · rfl

theorem eraseKeys_lasting (s : State) : (eraseKeys s).sec.lasting = s.sec.lasting := by
  have erased (l : List Nat) (t : State) : (forEach l (fun n s => s.setKey n { KeySlot.reset with loads := (s.key n).loads }) t).sec.lasting =
      t.sec.lasting := forEach_lasting (f := fun n s => s.setKey n { KeySlot.reset with loads := (s.key n).loads }) (fun _ _ => rfl) t
  unfold eraseKeys
  dsimp only
  rw [(startLedgerZero_fr (.refl 68419904 _)).sec (by decide)]
  exact erased _ s

/-- What the end of the fences does to the Warden's state: the ranges are listed, and the poison fill is next. -/
theorem dropSecure_sec (s : State) : ∃ ranges, (dropSecure s).sec = { s.sec with poisonRanges := ranges, zeroStage := 2 } := by
  unfold dropSecure
  extract_lets old ranges keep m s1 s2 s3 s4 objs s5
  have valid : s2.sec = s1.sec := (forEach_fr (.refl 64 s1) fun _ _ => State.setOb_fr (.refl _ _)).sec (by decide)
  have slots : s3.sec = s2.sec := (forEach_fr (.refl 64 s2) fun _ _ => State.setOb_fr (.refl _ _)).sec (by decide)
  have ports : s4.sec = s3.sec := (forEach_fr (.refl 64 s3) fun _ _ => State.setOb_fr (.refl _ _)).sec (by decide)
  have objects : s5.sec = s4.sec := (forEach_fr (.refl 70123840 s4) fun _ _ => putSync_fr (.refl _ _)).sec (by decide)
  have sec : s5.sec = s.sec := objects.trans (ports.trans (slots.trans valid))
  exact ⟨s5.sec.poisonRanges ++ ranges,
    congrArg (fun x : Security => { x with poisonRanges := s5.sec.poisonRanges ++ ranges, zeroStage := 2 }) sec⟩

theorem dropSecure_lasting (s : State) : (dropSecure s).sec.lasting = s.sec.lasting := by
  obtain ⟨ranges, sec⟩ := dropSecure_sec s
  rw [sec]
  rfl

theorem dropGuarded_sec (s : State) : (dropGuarded s).sec = s.sec := (dropGuarded_fr (.refl 524352 s)).sec (by decide)

theorem zeroAdvance_lasting (s : State) : (zeroAdvance s).sec.lasting = s.sec.lasting := by
  unfold zeroAdvance
  split
  · rfl
  · rw [dropSecure_lasting, eraseKeys_lasting, dropGuarded_sec]

theorem startZero_lasting (cause : ZeroCause) (s : State) : (startZero cause s).sec.lasting = (s.sec.zeroed cause).lasting := by
  have fenced (l : List Nat) (t : State) : (forEach l (fenceContext 8) t).sec = t.sec :=
    (forEach_fr (.refl 70144472 t) fun _ _ => fenceContext_fr (.refl _ _)).sec (by decide)
  have refused (l : List Nat) (t : State) : (forEach l refuseLater t).sec = t.sec :=
    (forEach_fr (.refl 67371328 t) fun _ _ => refuseLater_fr (.refl _ _)).sec (by decide)
  unfold startZero runZero
  dsimp only
  rw [zeroAdvance_lasting, refused, fenced]
  exact forEach_lasting endSession_lasting _

/-- A zeroisation that has begun runs for its cause; the lifecycle it found is kept for its end. -/
theorem startZero_begins (cause : ZeroCause) (s : State) : (startZero cause s).sec.zeroing = some cause ∧
    (startZero cause s).sec.lifecycle = .zeroising ∧ (startZero cause s).sec.lifecycleAfter = s.sec.lifecycle :=
  ⟨Security.zeroing_of_lasting (startZero_lasting cause s), Security.lifecycle_of_lasting (startZero_lasting cause s)⟩

theorem zeroAdvance_setWrites (s : State) : (zeroAdvance s).mgmt.setWrites = s.mgmt.setWrites := by
  have dropped (t : State) : (dropSecure t).mgmt.setWrites = t.mgmt.setWrites := by
    unfold dropSecure
    extract_lets old ranges keep m s1 s2 s3 s4 objs s5
    have valid : s2.mgmt = s1.mgmt := (forEach_fr (.refl 64 s1) fun _ _ => State.setOb_fr (.refl _ _)).mgmt (by decide)
    have slots : s3.mgmt = s2.mgmt := (forEach_fr (.refl 64 s2) fun _ _ => State.setOb_fr (.refl _ _)).mgmt (by decide)
    have ports : s4.mgmt = s3.mgmt := (forEach_fr (.refl 64 s3) fun _ _ => State.setOb_fr (.refl _ _)).mgmt (by decide)
    have objects : s5.mgmt.setWrites = s4.mgmt.setWrites :=
      (each_undisturbed (.refl s4) fun _ _ => (putSync_fr (.refl _ _)).leaves (.refl _)).setWrites
    have before : s4.mgmt.setWrites = s1.mgmt.setWrites := congrArg Mgmt.setWrites (ports.trans (slots.trans valid))
    exact objects.trans before
  have erased (t : State) : (eraseKeys t).mgmt = t.mgmt := (eraseKeys_fr (.refl 68420928 t)).mgmt (by decide)
  have guarded (t : State) : (dropGuarded t).mgmt = t.mgmt := (dropGuarded_fr (.refl 524352 t)).mgmt (by decide)
  unfold zeroAdvance
  split
  · rfl
  · rw [dropped, erased, guarded]

theorem startZero_setWrites (cause : ZeroCause) (s : State) : (startZero cause s).mgmt.setWrites = s.mgmt.setWrites := by
  have ended (t : State) : Undisturbed t (endSessions t) := endSessions_undisturbed (.refl t)
  have fenced (l : List Nat) (t : State) : Undisturbed t (forEach l (fenceContext 8) t) :=
    each_undisturbed (.refl t) fun _ _ => fenceContext_undisturbed (.refl _)
  have refused (l : List Nat) (t : State) : Undisturbed t (forEach l refuseLater t) :=
    each_undisturbed (.refl t) fun _ _ => (refuseLater_fr (.refl _ _)).leaves (.refl _)
  unfold startZero runZero
  dsimp only
  rw [zeroAdvance_setWrites, (refused _ _).setWrites, (fenced _ _).setWrites, (ended _).setWrites]
  rfl

theorem startZero_others (cause : ZeroCause) (s : State) : (startZero cause s).fuses = s.fuses ∧ (startZero cause s).wrap = s.wrap ∧
    (startZero cause s).free = s.free := by
  have frame := startZero_fr (cause := cause) (.refl 71194072 s)
  exact ⟨frame.fuses (by decide), frame.wrap (by decide), frame.free (by decide)⟩

/-! ### Zeroisation of a set (R387) -/

/-- What a lead's order does beyond its home operation lies in objects, management state, ports and what is sent. -/
theorem leadOrder_done_fr {idx sub : Nat} {value : List Byte} {owner : Bool} {req : Option Req} {via : Nat} {home : Home} {u : State}
    (done : home (.order s.mgmt.nextOrder) { s with mgmt := { s.mgmt with nextOrder := s.mgmt.nextOrder + 1 } } = .done u) :
    Fr 16832 u (leadOrder idx sub value owner req via home s) := by
  unfold leadOrder
  dsimp only
  rw [done]
  exact ackOrder_fr (forEach_fr (State.setWrites_fr (.refl _ _)) fun _ _ => sendObject_fr (.refl _ _))

/-- Wherever it is started, this node's zeroisation is begun here. -/
theorem zeroSet_begins (cause : ZeroCause) (s : State) : ((zeroSet cause s).sec.zeroing = some cause ∧
    (zeroSet cause s).sec.lifecycle = .zeroising ∧ (zeroSet cause s).sec.lifecycleAfter = s.sec.lifecycle) ∧
    (zeroSet cause s).wrap = s.wrap ∧ (zeroSet cause s).free = s.free := by
  unfold zeroSet
  split
  · exact ⟨startZero_begins cause s, (startZero_others cause s).2⟩
  · split
    · have led := leadOrder_done_fr (s := s) (idx := 0x6020) (sub := 4) (value := [4]) (owner := true) (req := none) (via := s.me)
        (home := fun _ s => .done (startZero cause s)) rfl
      rw [led.sec (by decide), led.wrap (by decide), led.free (by decide)]
      exact ⟨startZero_begins cause _, (startZero_others cause _).2⟩
    · have told := sendObject_fr (d := s.hl.set.lead) (idx := 0x6020) (sub := 4) (order := 0) (value := [4]) (owner := true)
        (.refl 256 (startZero cause s))
      rw [told.sec (by decide), told.wrap (by decide), told.free (by decide)]
      exact ⟨startZero_begins cause s, (startZero_others cause s).2⟩

theorem serveAll_sec (s : State) : (serveAll s).sec = s.sec := (serveAll_fr (.refl 71193048 s)).sec (by decide)
theorem serveAll_wrap (s : State) : (serveAll s).wrap = s.wrap := (serveAll_fr (.refl 71193048 s)).wrap (by decide)
theorem serveAll_free (s : State) : (serveAll s).free = s.free := (serveAll_fr (.refl 71193048 s)).free (by decide)

section
variable {i : Nat} (on : s.power.node ≠ .off) (idle : s.sec.zeroing = none)
include on idle

theorem debugUnlock_refused (refused : s.debugRefusal ≠ 0) : debugUnlock i s = raiseNode Ev.debugRefused s.debugRefusal s := by
  unfold debugUnlock
  rw [if_neg (by simp [on, idle]), if_pos (by simpa using refused)]

theorem debugUnlock_begins (allowed : s.debugRefusal = 0) : debugUnlock i s = zeroSet (.debug i) s := by
  unfold debugUnlock
  rw [if_neg (by simp [on, idle]), if_neg (by simp [allowed])]

end

/-! ### Held debug unlocks (R389, R556) -/

section
variable {n w : Nat}

theorem wrapDebug_bypass (not : s.wrapHeldOk = false ∨ s.sec.zeroing.isSome = true) : wrapDebug n w s = wrapFree 0 0 s := by
  refine if_pos ?_
  obtain held | runs := not
  · simp [held]
  · simp [runs]

theorem wrapDebug_waits (held : s.wrapHeldOk = true) (idle : s.sec.zeroing = none) {t : State}
    (unlock : serveAll (debugUnlock n (s.takeFree.setWrap ⟨0, false, some n, s.freeValue w⟩)) = t) :
    wrapDebug n w s = if t.wrap.waiting.isSome && t.sec.zeroing.isNone then t.setWrap ⟨0, false, none, 0⟩ else t := by
  have taken : wrapDebug n w s = _ := if_neg (by simp [held, idle])
  rw [taken, unlock]

end

/-- An unlock that is refused loads WS_BYPASS. -/
theorem wrapDebug_refused {n w : Nat} (on : s.power.node ≠ .off) (held : s.wrapHeldOk = true) (idle : s.sec.zeroing = none)
    (refused : s.debugRefusal ≠ 0) : ∃ u : State, wrapDebug n w s = u.setWrap ⟨0, false, none, 0⟩ ∧ u.sec.zeroing = none ∧ u.free = s.free + 1 := by
  have unlock := debugUnlock_refused (s := s.takeFree.setWrap ⟨0, false, some n, s.freeValue w⟩) (i := n) on idle refused
  have tells := raiseNode_reports Ev.debugRefused (s.takeFree.setWrap ⟨0, false, some n, s.freeValue w⟩).debugRefusal
    (s.takeFree.setWrap ⟨0, false, some n, s.freeValue w⟩)
  generalize raiseNode _ _ _ = t at unlock tells
  have quiet : (serveAll t).sec.zeroing = none := by rw [serveAll_sec, tells.sec]; exact idle
  have waits : (serveAll t).wrap.waiting = some n := by rw [serveAll_wrap, tells.wrap]; rfl
  refine ⟨serveAll t, ?_, quiet, (serveAll_free t).trans tells.free⟩
  rw [wrapDebug_waits held idle (congrArg serveAll unlock), if_pos (by rw [waits, quiet]; rfl)]

/-- An unlock that the Warden takes waits for the end of the zeroisation it begins. -/
theorem wrapDebug_begins {n w : Nat} (on : s.power.node ≠ .off) (held : s.wrapHeldOk = true) (idle : s.sec.zeroing = none)
    (allowed : s.debugRefusal = 0) : (wrapDebug n w s).sec.zeroing = some (.debug n) ∧
      (wrapDebug n w s).wrap = ⟨0, false, some n, s.freeValue w⟩ ∧ (wrapDebug n w s).free = s.free + 1 := by
  have unlock := debugUnlock_begins (s := s.takeFree.setWrap ⟨0, false, some n, s.freeValue w⟩) (i := n) on idle allowed
  obtain ⟨⟨zeroing, -, -⟩, wrap, free⟩ := zeroSet_begins (.debug n) (s.takeFree.setWrap ⟨0, false, some n, s.freeValue w⟩)
  rw [wrapDebug_waits held idle (congrArg serveAll unlock)]
  generalize zeroSet _ _ = t at zeroing wrap free
  have begun : (serveAll t).sec.zeroing = some (.debug n) := by rw [serveAll_sec, zeroing]
  rw [if_neg (by simp [begun])]
  exact ⟨begun, (serveAll_wrap t).trans wrap, (serveAll_free t).trans free⟩

/-- Settles O17: the unlock reaches the Warden with its instruction waiting; what the Warden says of it decides. -/
theorem debugInstructions : Obligations.DebugInstructions := by
  intro s c n w on listed
  have runs : exec c s = .next (wrapDebug n w s) := by
    simp only [List.mem_cons, List.not_mem_nil, or_false, Prod.mk.injEq] at listed
    obtain ⟨rfl, rfl, rfl⟩ | ⟨rfl, rfl, rfl⟩ | ⟨rfl, rfl, rfl⟩ | ⟨rfl, rfl, rfl⟩ | ⟨rfl, rfl, rfl⟩ | ⟨rfl, rfl, rfl⟩ := listed <;>
      exact congrArg Host.Outcome.next (wrapPowered_on on)
  refine ⟨fun not => ?_, fun held idle refused => ⟨_, runs, ?_⟩, fun held idle allowed => ⟨_, runs, ?_⟩⟩
  · rw [runs, wrapDebug_bypass not]
    rfl
  · obtain ⟨u, is, quiet, free⟩ := wrapDebug_refused (n := n) (w := w) on held idle refused
    rw [is]
    exact ⟨rfl, quiet, free⟩
  · obtain ⟨zeroing, wrap, free⟩ := wrapDebug_begins (n := n) (w := w) on held idle allowed
    exact ⟨by rw [zeroing]; rfl, wrap, free⟩

/-! ### The end of a zeroisation (R379, R380, R387, R389) -/

/-- The Warden's state as a zeroisation ends. -/
def Security.ended (x : Security) (l : Lifecycle) : Security :=
  { x with zeroing := none, zeroStage := 0, poisonRanges := [], lifecycle := l, transferEc := [], transferMl := [] }

/-- The lifecycle that a cause ends in. -/
def ZeroCause.leads (cause : ZeroCause) (after : Lifecycle) : Lifecycle :=
  match cause with
  | .transfer => .owned
  | .release => .unowned
  | .zeroise => after
  | .absentRecord => .unowned
  | .debug _ => after

/-- Whether a cause sets the debug flag. -/
def ZeroCause.unlocks (cause : ZeroCause) (flag : Bool) : Bool :=
  match cause with
  | .debug _ => true
  | _ => flag

theorem endZero_sec (cause : ZeroCause) (s : State) : (endZero cause s).sec =
    { s.sec.ended (cause.leads s.sec.lifecycleAfter) with debugFlag := cause.unlocks s.sec.debugFlag } := by
  cases cause with
  | transfer | release | absentRecord => exact (raiseNode_reports _ _ _).sec
  | zeroise => rfl
  | debug i =>
    have told (u : State) : (raiseNode Ev.debugUnlocked i u).sec = u.sec := (raiseNode_reports _ _ _).sec
    unfold endZero
    dsimp only
    split
    · exact told _
    · exact told _

theorem endZero_transfer (s : State) : (endZero .transfer s).fuses.epoch = s.fuses.epoch + 1 ∧
    (endZero .transfer s).nvm.owner = ⟨true, s.sec.transferEc, s.sec.transferMl, 0, s.fuses.epoch + 1, true⟩ :=
  ⟨congrArg Fuses.epoch (raiseNode_reports _ _ _).fuses, (raiseNode_undisturbed (.refl _)).owner⟩

theorem endZero_release (s : State) : (endZero .release s).nvm.owner = .none := (raiseNode_undisturbed (.refl _)).owner

theorem fillGranules_sec (l : List Nat) (s : State) : Fr 512 s (forEach l (fun a s => fillGranule a 1 s) s) :=
  forEach_fr (.refl 512 s) fun _ _ => fillGranule_fr (.refl _ _)

/-- Once its steps are done, a zeroisation ends from a state with the Warden's state, fuses and owner record it had. -/
theorem zeroPoisoned_ends {u : State} (advances : zeroAdvance s = u) (runs : u.sec.zeroing = some cause) (last : u.sec.zeroStage = 2) :
    ∃ w : State, zeroPoisoned s = endZero cause w ∧ w.sec = u.sec ∧ w.fuses = u.fuses := by
  have filled := fillGranules_sec (u.sec.poisonRanges.flatMap fun p => (List.range p.2).map fun i => p.1 + i * 2 ^ 21) u
  have told := raiseNode_reports Ev.zeroised 0
    (forEach (u.sec.poisonRanges.flatMap fun p => (List.range p.2).map fun i => p.1 + i * 2 ^ 21) (fun a s => fillGranule a 1 s) u)
  refine ⟨_, ?_, told.sec.trans (filled.sec (by decide)), told.fuses.trans (filled.fuses (by decide))⟩
  unfold zeroPoisoned
  dsimp only
  rw [advances, runs]
  exact if_neg (by simp [last])

theorem exec_zeroisationPoisonDone (s : State) : exec .zeroisationPoisonDone s = .next (serveAll (zeroPoisoned s)) := rfl

theorem zeroAdvance_of_stage (stage : s.sec.zeroStage ≠ 1) : zeroAdvance s = s := if_pos (by simp [stage])

/-! ### The key slots are erased (R387) -/

theorem key_setKey_same {n : Nat} {k : KeySlot} (canonical : Canonical (fun _ => KeySlot.reset) s.sec.keys) : (s.setKey n k).key n = k :=
  look_put_eq canonical.1

theorem key_setKey_other {m n : Nat} {k : KeySlot} (other : n ≠ m) : (s.setKey m k).key n = s.key n := look_put_ne _ other

/-- Erasing slots keeps the store canonical and leaves every slot listed, and every slot that was empty, empty. -/
theorem erase_empties (l : List Nat) (s : State) (canonical : Canonical (fun _ => KeySlot.reset) s.sec.keys) (n : Nat)
    (covered : n ∈ l ∨ (s.key n).kind = .empty) :
    ((forEach l (fun n s => s.setKey n { KeySlot.reset with loads := (s.key n).loads }) s).key n).kind = .empty := by
  induction l generalizing s with
  | nil => exact covered.resolve_left (List.not_mem_nil)
  | cons m l ih =>
    refine ih _ canonical.put ?_
    by_cases same : n = m
    · subst same
      exact .inr (by rw [key_setKey_same canonical]; rfl)
    · refine covered.imp (fun listed => (List.mem_cons.mp listed).resolve_left same) fun empty => ?_
      rw [key_setKey_other same]
      exact empty

/-- A slot that is not listed as full is empty. -/
theorem full_or_empty (s : State) (n : Nat) :
    n ∈ (s.sec.keys.filter fun p => p.2.kind != .empty).map (·.1) ∨ (s.key n).kind = .empty := by
  unfold State.key
  induction s.sec.keys with
  | nil => exact .inr rfl
  | cons p l ih =>
    obtain ⟨m, k⟩ := p
    by_cases same : m = n
    · subst same
      by_cases empty : k.kind = .empty
      · exact .inr (by simp [look, empty])
      · exact .inl (by simp [empty])
    · refine ih.imp (fun listed => ?_) fun empty => by simpa [look, same] using empty
      by_cases empty : k.kind = .empty <;> simp_all

theorem eraseKeys_empties (canonical : Canonical (fun _ => KeySlot.reset) s.sec.keys) : (eraseKeys s).sec.loaded = [] ∧
    ∀ n, ((eraseKeys s).key n).kind = .empty := by
  have zeroed (t : State) : (startLedgerZero t).sec = t.sec := (startLedgerZero_fr (.refl 68419904 t)).sec (by decide)
  unfold eraseKeys
  dsimp only
  refine ⟨by rw [zeroed]; rfl, fun n => ?_⟩
  rw [key_of_sec (zeroed _)]
  exact erase_empties _ s canonical n (full_or_empty s n)

/-- The steps of a zeroisation that can go on leave every slot empty and none loaded. -/
theorem zeroAdvance_empties (stage : s.sec.zeroStage = 1) (free : s.secureWork = false)
    (canonical : Canonical (fun _ => KeySlot.reset) s.sec.keys) : (zeroAdvance s).sec.zeroStage = 2 ∧ (zeroAdvance s).sec.loaded = [] ∧
      ∀ n, ((zeroAdvance s).key n).kind = .empty := by
  have advances : zeroAdvance s = dropSecure (eraseKeys (dropGuarded s)) := if_neg (by simp [stage, free])
  obtain ⟨loaded, empty⟩ := eraseKeys_empties (s := dropGuarded s) (by rw [dropGuarded_sec]; exact canonical)
  obtain ⟨ranges, sec⟩ := dropSecure_sec (eraseKeys (dropGuarded s))
  rw [advances, sec]
  refine ⟨rfl, loaded, fun n => ?_⟩
  rw [State.key, sec]
  exact empty n

/-- Settles O20: how a zeroisation begins, goes on and ends, step by step; what is served afterwards touches none of it. -/
theorem zeroisation : Obligations.Zeroisation := by
  intro s i
  refine ⟨fun code on idle allowed => ⟨_, congrArg Host.Outcome.next (if_pos code), ?_⟩,
    fun code on idle refused => ⟨_, congrArg Host.Outcome.next (if_pos code), ?_⟩, fun cause runs last => ?_,
    fun cause runs stage free canonical => ?_⟩
  · dsimp only
    rw [serveAll_sec, debugUnlock_begins on idle allowed]
    exact (zeroSet_begins (.debug i) s).1
  · dsimp only
    rw [serveAll_sec, debugUnlock_refused on idle refused]
    exact (raiseNode_reports _ _ _).sec
  · obtain ⟨w, ends, sec, fuses⟩ := zeroPoisoned_ends (zeroAdvance_of_stage (by rw [last]; decide)) runs last
    have owner (t : State) : (serveAll t).nvm.owner = t.nvm.owner := (serveAll_undisturbed (.refl t)).owner
    have blown (t : State) : (serveAll t).fuses = t.fuses := (serveAll_fr (.refl 71193048 t)).fuses (by decide)
    refine ⟨_, exec_zeroisationPoisonDone s, ?_⟩
    dsimp only
    rw [serveAll_sec, owner, blown, ends, endZero_sec, sec]
    refine ⟨rfl, rfl, rfl, rfl, ?_, ?_, ?_, ?_, ?_⟩
    · rintro rfl
      rfl
    · rintro rfl
      exact ⟨rfl, endZero_release w⟩
    · rintro rfl
      obtain ⟨epoch, record⟩ := endZero_transfer w
      rw [epoch, record, sec, fuses]
      exact ⟨rfl, rfl, rfl, rfl, rfl⟩
    · rintro rfl
      rfl
    · rintro k rfl
      exact ⟨rfl, rfl⟩
  · obtain ⟨after, loaded, empty⟩ := zeroAdvance_empties stage free canonical
    have goes : (zeroAdvance s).sec.zeroing = some cause := (Security.zeroing_of_lasting (zeroAdvance_lasting s)).trans runs
    obtain ⟨w, ends, sec, -⟩ := zeroPoisoned_ends rfl goes after
    have final : (serveAll (zeroPoisoned s)).sec = _ := (serveAll_sec _).trans (by rw [ends, endZero_sec, sec])
    have keys : (serveAll (zeroPoisoned s)).sec.keys = (zeroAdvance s).sec.keys := (congrArg Security.keys final).trans rfl
    refine ⟨_, exec_zeroisationPoisonDone s, congrArg Security.zeroing final, (congrArg Security.loaded final).trans loaded, fun n => ?_⟩
    have same : (serveAll (zeroPoisoned s)).key n = (zeroAdvance s).key n := congrArg (look KeySlot.reset n) keys
    rw [same]
    exact empty n

/-! ### The owner commands (R379, R387) -/

section
variable {secured ordered : Bool} (idle : s.sec.zeroing = none) (runs : s.procs.warden.restart = none)
include idle runs

theorem ownerCommand_claim {session : Bool} : ownerCommand 1 session secured ordered s = claim secured s :=
  if_neg (by simp [idle, runs])

section
variable (owned : s.sec.lifecycle = .owned)
include owned

theorem ownerCommand_transfer (staged : keysStaged s = true) (left : s.fuses.epoch < 64) (record : s.canRecord 4 = true) :
    ownerCommand 2 true secured ordered s = .done (startZero .transfer (clearStaged
      (s.setSec { s.sec with transferEc := s.sec.stagedEc, transferMl := s.sec.stagedMl }))) := by
  have goes : ownerCommand 2 true secured ordered s = _ := if_neg (by simp [idle, runs])
  rw [goes]
  exact (if_pos (by simp [owned, staged, left])).trans (if_neg (by simp [record]))

theorem ownerCommand_release : ownerCommand 3 true secured ordered s = .done (startZero .release (clearStaged s)) := by
  have goes : ownerCommand 3 true secured ordered s = _ := if_neg (by simp [idle, runs])
  rw [goes]
  exact if_pos (by simp [owned])

theorem ownerCommand_zeroise : ownerCommand 4 true secured ordered s = .done (startZero .zeroise (clearStaged s)) := by
  have goes : ownerCommand 4 true secured ordered s = _ := if_neg (by simp [idle, runs])
  rw [goes]
  exact if_pos (by simp [owned])

end
end

/-- A node as a claim leaves it, before the claim is told. -/
def claimed (s : State) : State :=
  let e := s.fuses.epoch + 1
  let u := writeOwner s.sec.stagedEc s.sec.stagedMl (s.ob 0x6020 3) e { s with fuses := { s.fuses with epoch := e } }
  clearStaged (u.setSec { u.sec with lifecycle := .owned })

theorem claim_done (unowned : s.sec.lifecycle = .unowned) (config : s.power.node = .config) (staged : keysStaged s = true)
    (left : s.fuses.epoch < 64) (record : s.canRecord 4 = true) : claim true s = .done (raiseNode Ev.ownerClaimed 0 (claimed s)) :=
  (if_pos (by simp [unowned, config, staged, left])).trans (if_neg (by simp [record]))

section
variable {r : Req}

theorem ordered_sec (r : Req) (s : State) : (s.ordered r).sec = { s.sec with sessions := (s.begun r).sec.sessions } := begun_sec r s

theorem ordered_fuses (r : Req) (s : State) : (s.ordered r).fuses = s.fuses := begun_fuses r s

theorem ordered_canRecord (r : Req) (s : State) (area : Nat) : (s.ordered r).canRecord area = s.canRecord area := by
  have nvm : (s.ordered r).nvm = s.nvm := begun_nvm r s
  rw [State.canRecord, nvm, State.canRecord]

theorem ordered_keysStaged (r : Req) (s : State) : keysStaged (s.ordered r) = keysStaged s := by
  rw [keysStaged, ordered_sec, keysStaged]

/-- An ordered owner command whose zeroisation begins is answered once it has begun. -/
theorem zeroises {c : Instr} {code : Nat} {cause : ZeroCause} {u : State}
    (runs : exec c s = .next (dictWrite r 0x6020 4 [BitVec.ofNat 8 code] (ownerHome code (s.isOwner r) (s.inSession r)) s))
    (orders : s.orders r 0x6020 4 [BitVec.ofNat 8 code] = true)
    (owner : s.isOwner r = true) (does : ownerCommand code true (s.inSession r) true (s.ordered r) = .done (startZero cause u))
    (writes : u.mgmt.setWrites = (s.begun r).mgmt.setWrites) :
    Gives c s fun t => t.sec.lasting = (u.sec.zeroed cause).lasting ∧ t.fuses = u.fuses := by
  have home : ownerHome code (s.isOwner r) (s.inSession r) (.order (s.begun r).mgmt.nextOrder) (s.ordered r) = .done (startZero cause u) := by
    rw [owner]
    exact does
  refine ⟨_, runs, ?_⟩
  dsimp only
  rw [dictWrite_orders orders home ((startZero_setWrites cause u).trans writes), (answer_reports _ _ _ _).sec, (answer_reports _ _ _ _).fuses]
  exact ⟨startZero_lasting cause u, (startZero_others cause u).1⟩

end

/-- Settles O19: the lead orders each command and applies it at once; a zeroisation keeps what the command gave it. -/
theorem ownerCommands : Obligations.OwnerCommands := by
  intro s r idle runs
  have quiet : (s.ordered r).sec.zeroing = none := by rw [ordered_sec]; exact idle
  have up : (s.ordered r).procs.warden.restart = none := by rw [ordered_procs]; exact runs
  have lifecycle : (s.ordered r).sec.lifecycle = s.sec.lifecycle := by rw [ordered_sec]
  refine ⟨fun orders unowned config secured staged left record => ?_, fun owned owner => ?_⟩
  · have does : ownerHome 1 (s.isOwner r) (s.inSession r) (.order (s.begun r).mgmt.nextOrder) (s.ordered r) =
        .done (raiseNode Ev.ownerClaimed 0 (claimed (s.ordered r))) := by
      refine (ownerCommand_claim quiet up).trans ?_
      rw [secured]
      exact claim_done (lifecycle.trans unowned) (by rw [ordered_power]; exact config) ((ordered_keysStaged r s).trans staged)
        (by rw [ordered_fuses]; exact left) ((ordered_canRecord r s 4).trans record)
    have told := (raiseNode_reports Ev.ownerClaimed 0 (claimed (s.ordered r))).trans (answer_reports r St.ok 0 _)
    have owner := ((raiseNode_reports Ev.ownerClaimed 0 (claimed (s.ordered r))).undisturbed (raiseNode_settled _ _ _)).trans
      ((answer_reports r St.ok 0 _).undisturbed (answer_settled r _ _ _)) |>.owner
    refine ⟨_, congrArg Host.Outcome.next (dictWrite_orders orders does ?_), ?_⟩
    · exact ((raiseNode_reports _ _ _).undisturbed (raiseNode_settled _ _ _)).setWrites
    · dsimp only
      rw [told.fuses, told.sec, owner]
      have record : (claimed (s.ordered r)).nvm.owner = ⟨true, (s.ordered r).sec.stagedEc, (s.ordered r).sec.stagedMl, (s.ordered r).ob 0x6020 3,
        (s.ordered r).fuses.epoch + 1, true⟩ := rfl
      have policy : (s.ordered r).ob 0x6020 3 = s.ob 0x6020 3 := begun_ob r s _ _
      refine ⟨congrArg (fun f : Fuses => { f with epoch := f.epoch + 1 }) (ordered_fuses r s), rfl, ?_, rfl, rfl⟩
      rw [record, policy, ordered_fuses, ordered_sec]
  · refine ⟨fun orders staged left record => ?_, fun orders => ?_, fun orders => ?_⟩
    · have does := ownerCommand_transfer (secured := s.inSession r) (ordered := true) quiet up (lifecycle.trans owned)
        ((ordered_keysStaged r s).trans staged) (by rw [ordered_fuses]; exact left) ((ordered_canRecord r s 4).trans record)
      refine (zeroises rfl orders owner does rfl).mono fun t ⟨sec, fuses⟩ => ?_
      obtain ⟨ec, ml⟩ := Security.transfer_of_lasting sec
      refine ⟨Security.zeroing_of_lasting sec, ec.trans ?_, ml.trans ?_, (Security.lifecycle_of_lasting sec).1, fuses.trans (ordered_fuses r s)⟩
      · exact (congrArg Security.stagedEc (ordered_sec r s)).trans rfl
      · exact (congrArg Security.stagedMl (ordered_sec r s)).trans rfl
    · have does := ownerCommand_release (secured := s.inSession r) (ordered := true) quiet up (lifecycle.trans owned)
      refine (zeroises rfl orders owner does rfl).mono fun t ⟨sec, _⟩ => ?_
      exact ⟨Security.zeroing_of_lasting sec, (Security.lifecycle_of_lasting sec).1⟩
    · have does := ownerCommand_zeroise (secured := s.inSession r) (ordered := true) quiet up (lifecycle.trans owned)
      refine (zeroises rfl orders owner does rfl).mono fun t ⟨sec, _⟩ => ?_
      obtain ⟨now, after⟩ := Security.lifecycle_of_lasting sec
      exact ⟨Security.zeroing_of_lasting sec, now, after.trans (lifecycle.trans owned)⟩

end

end Sys2Proof.Machine

/-!
PROOF. Warm reset and the requests for READY, REST and DEEP, and the settling of O13 (R415, R416, R424, R425, R429).
-/
namespace Sys2Proof.Machine

-- One proof after another, each on a stack of its own, for the check's memory.
set_option Elab.async false

section
variable {s : State} {r : Req}

/-! ### Node states (R413) -/

/-- A move to another state changes nothing of the supplies and of what the resets keep. -/
theorem setNode_power (n : NodeState) (s : State) : (setNode n s).power = { s.power with node := n } := by
  unfold setNode
  dsimp only
  split
  next already => rw [← already]
  next => exact (raiseNode_reports _ _ _).power

theorem setNode_others (n : NodeState) (s : State) : Fr 20700 s (setNode n s) := setNode_fr (.refl _ _)

/-! ### Warm reset (R415, R429, R430) -/

/-- What is retained at a warm reset from HALTED adds to the power state the channels that are to be filled. -/
theorem warmFromHalted_power (s : State) : (warmFromHalted s).power = { s.power with fill := s.power.unretained } := by
  have heats (l : List Nat) (u : State) : (forEach l (fun st s => driveHeat st (heatPin (s.level st)) s) u).power = u.power :=
    (forEach_fr (.refl 4194320 u) fun _ _ => driveHeat_fr (.refl _ _)).power (by decide)
  have fills (l : List Nat) (f : Nat → State → State) (each : ∀ c u, Fr 262720 u (f c u)) (u : State) : (forEach l f u).power = u.power :=
    (forEach_fr (.refl 262720 u) each).power (by decide)
  unfold warmFromHalted
  extract_lets fill pins heat s1 s2 s3
  have h2 : s2.power = s.power := heats _ s1
  have h3 : s3.power = s2.power := fills _ _ (fun c u => by
    refine State.modChan_fr ?_
    split
    · exact State.setChanState_fr (layReset_fr (.refl _ _))
    · exact layReset_fr (.refl _ _)) s2
  exact congrArg (fun p : Power => { p with fill := fill }) (h3.trans h2)

/-- A warm reset that begins: the node is in BOOT, its processors stand and no key is loaded. -/
theorem beginWarm_spec (s : State) : ((beginWarm s).power.node = .boot ∧ (beginWarm s).power.warm = true ∧ (beginWarm s).power.warmAt = s.now) ∧
    (∀ i, i ≠ .keeper → (beginWarm s).procs.get i = ⟨false, none⟩) ∧ (beginWarm s).sec.loaded = [] := by
  have told : (if s.power.node == .halted then s else flood 0x0B (leBytes 1 s.me) s).now = s.now := by
    split
    · rfl
    · exact (flood_fr (.refl 256 s)).now (by decide)
  unfold beginWarm
  extract_lets halted s1 s2 p s3 s4 s5 s6 s7 s8 s9 s10 s11 x s12 s13
  have now3 : s3.power.node = .boot ∧ s3.power.warm = true ∧ s3.power.warmAt = s.now := by
    have now2 : s2.now = s1.now := (setNode_others .boot s1).now (by decide)
    exact ⟨congrArg Power.node (setNode_power .boot s1), rfl, now2.trans told⟩
  have now5 : s5.power.node = .boot ∧ s5.power.warm = true ∧ s5.power.warmAt = s.now := by
    dsimp only [s5]
    split
    · rw [warmFromHalted_power]
      exact now3
    · exact now3
  have h6 : s6.power = s5.power := (emptyEngines_fr (fenceStreams_fr (.refl 134217723 s5))).power (by decide)
  have h8 : s8.power = s6.power := (discardSamples_fr (refuseOffers_fr (raiseNode_fr (State.bump_fr (State.setOb_fr (.refl 134217723 s6)))))).power (by decide)
  have h9 : s9.power = s8.power := (forEach_fr (.refl 70144472 s8) fun _ _ => breakRed_fr (.refl _ _)).power (by decide)
  have h11 : s11.power = s9.power := (qosStart_fr (endSessions_fr (writeBales_fr (writeBackAll_fr (.refl 134217723 s9))))).power (by decide)
  have h12 : s12.power = s11.power := (State.setSec_fr (.refl 134217723 s11)).power (by decide)
  have loaded : s12.sec.loaded = [] := rfl
  clear_value s12
  have drains : Fr 262144 s12 s13 := forEach_fr (.refl _ _) fun _ _ => Fr.ite (.refl _ _) (drainChannel_fr (.refl _ _))
  have power : s13.power = s5.power := (drains.power (by decide)).trans (h12.trans (h11.trans (h9.trans (h8.trans h6))))
  refine ⟨?_, fun i other => stopProcs_get other s13, (congrArg Security.loaded (drains.sec (by decide))).trans loaded⟩
  rw [← power] at now5
  exact now5

theorem warmReset_begins (unused : s.power.testUsed = false) (first : s.power.warm = false ∨ s.power.node ≠ .boot)
    (image : s.upd.selected = true) : warmReset s = beginWarm s := by
  unfold warmReset
  rw [if_neg (by simp [unused]), if_neg (by obtain cold | moves := first <;> simp_all), if_neg (by simp [image])]

/-! ### Requests for a state (R416, R424, R425) -/

section
variable {who : Completer} (cold : s.power.warm = false)
include cold

theorem stateHome_refused (refused : s.moveRefusal false ≠ 0)
    (asks : s.power.node = .config ∨ s.power.node = .rest ∨ s.power.node = .deep) :
    stateHome 4 who s = stateRefused (s.moveRefusal false) s := by
  unfold stateHome
  dsimp only
  rw [if_neg (by simp [cold]), if_pos rfl, if_pos (by obtain is | is | is := asks <;> simp [refused, is])]

section
variable (allowed : s.moveRefusal false = 0)
include allowed

theorem stateHome_config (config : s.power.node = .config) :
    stateHome 4 who s = .done ((s.setOb 0x2000 2 4).setPower { s.power with readyAsked := true }) := by
  unfold stateHome
  dsimp only
  rw [if_neg (by simp [cold]), if_pos rfl, if_neg (by simp [allowed]), config]

theorem stateHome_asleep (asleep : s.power.node = .rest ∨ s.power.node = .deep) : stateHome 4 who s =
    .done (if s.power.entering then (s.setOb 0x2000 2 4).setPower { s.power with heldWake := true }
      else if s.power.waking then s.setOb 0x2000 2 4 else beginWake (s.setOb 0x2000 2 4)) := by
  unfold stateHome
  dsimp only
  rw [if_neg (by simp [cold]), if_pos rfl, if_neg (by simp [allowed])]
  obtain is | is := asleep <;> rw [is]

end

theorem stateHome_rest {deep : Bool} {v : Nat} (code : v = if deep then 7 else 6) (allowed : s.restRefusal deep = 0) :
    stateHome v who s = .done (beginRest deep s) := by
  have which : (v == 7) = deep := by cases deep <;> subst code <;> rfl
  have low : v ≠ 4 := by cases deep <;> subst code <;> decide
  unfold stateHome
  dsimp only
  rw [if_neg (by simp [cold]), if_neg low, if_pos (by cases deep <;> subst code <;> rfl), which, allowed] <;> rfl

end

/-- A wake starts clocks, and in REST the processors. -/
theorem beginWake_spec (s : State) : (beginWake s).power = { s.power with waking := true, heldWake := false } ∧
    (beginWake s).procs.sequencer.running = (s.power.node = .rest || s.procs.sequencer.running) := by
  unfold beginWake
  extract_lets p s1 start s2
  have clocks : Fr 16777216 s1 s2 := forEach_fr (.refl _ _) fun _ _ => .ite (State.setSource_fr (.refl _ _)) (.refl _ _)
  have power : s2.power = { s.power with waking := true, heldWake := false } := clocks.power (by decide)
  have procs : s2.procs = s.procs := clocks.procs (by decide)
  have node : s2.power.node = s.power.node := (congrArg Power.node power).trans rfl
  rw [node]
  split
  next rest => exact ⟨power, by simp [rest, startProcs]⟩
  next other => exact ⟨power, by simp [other, procs]⟩

theorem beginRest_power (deep : Bool) (s : State) : (beginRest deep s).power = { s.power with
    resetFrom := s.power.node.code, node := if deep then .deep else .rest, entering := true, reloaded := false } := by
  have frame (u : State) : Fr 134217723 u (writeBales (writeBackAll (fun _ => true) (refuseOffers (endSessions (closeSegments u))))) :=
    writeBales_fr (writeBackAll_fr (refuseOffers_fr (endSessions_fr (closeSegments_fr (.refl _ _)))))
  exact (frame _).power (by decide)

/-- A refused request is told by its reason, and leaves the power state. -/
theorem stateRefused_settled {reason : Nat} (given : reason ≠ 0) (r : Req) (s : State) :
    (settle (.req r) (stateRefused reason s)).power = s.power ∧ (settle (.req r) (stateRefused reason s)).ob 0x2000 6 = reason := by
  have unset : objDefault (objKey 0x2000 6) = 0 := by decide +kernel
  have reports : ReportsOnly (s.setOb 0x2000 6 reason) (settle (.req r) (stateRefused reason s)) :=
    (raiseNode_reports _ _ _).trans (answer_reports r _ _ _)
  exact ⟨reports.power, (reports.objects 0x2000 6 (by decide) rfl).trans (ob_setOb_given (unset ▸ given))⟩

/-- A request for a state that applies, and is done. -/
theorem stateRequest_done {c : Instr} {v : Nat} {value : List Byte} {u : State} (runs : exec c s = .next (dictWrite r 0x2000 2 value (stateHome v) s))
    (applies : s.applies r 0x2000 2 value = true) (done : stateHome v (.req r) (s.begun r) = .done u) :
    Gives c s fun t => t.power = u.power ∧ ∀ i, t.procs.get i = u.procs.get i := by
  refine ⟨_, runs, ?_⟩
  dsimp only
  rw [dictWrite_done applies done]
  exact ⟨(answer_reports _ _ _ _).power, ((answer_reports _ _ _ _).undisturbed (answer_settled _ _ _ _)).proc⟩

/-- Settles O13: each home operation on the state in which the request is begun, whose power state is the one it came to. -/
theorem stateRequests : Obligations.StateRequests := by
  intro s r
  refine ⟨fun applies unused first image => ?_, fun applies cold allowed => ⟨fun config => ?_, fun asleep enters => ?_, fun asleep still rests => ?_⟩,
    fun applies cold refused asks => ?_, fun applies cold allowed => ?_, fun applies cold allowed => ?_⟩
  · have begins : warmReset (s.begun r) = beginWarm (s.begun r) := warmReset_begins (by rw [begun_power]; exact unused)
      (by rw [begun_power]; exact first) (image ▸ congrArg Update.selected (countFrame_upd s r))
    obtain ⟨⟨node, warm, at_⟩, stopped, loaded⟩ := beginWarm_spec (s.begun r)
    have runs : exec (.warmReset r) s = .next (answer r St.ok 0 (beginWarm (s.begun r))) :=
      congrArg Host.Outcome.next (dictWrite_done applies (congrArg WResult.done begins))
    have told := answer_reports r St.ok 0 (beginWarm (s.begun r))
    have procs := (told.undisturbed (answer_settled _ _ _ _)).proc
    refine ⟨_, runs, ?_⟩
    dsimp only
    rw [told.power, told.sec]
    have stands (i : ProcId) (other : i ≠ .keeper) : ((answer r St.ok 0 (beginWarm (s.begun r))).procs.get i).running = false := by
      rw [procs, stopped i other]
    exact ⟨node, warm, at_.trans (begun_now r s), stands .sequencer (by decide), stands .steward (by decide), stands .warden (by decide), loaded⟩
  · have done := stateHome_config (who := .req r) (by rw [begun_power]; exact cold) allowed (by rw [begun_power]; exact config)
    refine (stateRequest_done rfl applies done).mono fun t ⟨power, _⟩ => power.trans ?_
    exact congrArg (fun p : Power => { p with readyAsked := true }) (begun_power r s)
  · have done := stateHome_asleep (who := .req r) (by rw [begun_power]; exact cold) allowed (by rw [begun_power]; exact asleep)
    rw [begun_power, if_pos enters] at done
    exact (stateRequest_done rfl applies done).mono fun t ⟨power, _⟩ => power
  · have done := stateHome_asleep (who := .req r) (by rw [begun_power]; exact cold) allowed (by rw [begun_power]; exact asleep)
    rw [begun_power, if_neg (by simp [still]), if_neg (by simp [rests])] at done
    obtain ⟨wakes, sequencer⟩ := beginWake_spec ((s.begun r).setOb 0x2000 2 4)
    refine (stateRequest_done rfl applies done).mono fun t ⟨power, procs⟩ => ⟨(power.trans wakes).trans ?_, ?_⟩
    · exact congrArg (fun p : Power => { p with waking := true, heldWake := false }) (begun_power r s)
    · have node : ((s.begun r).setOb 0x2000 2 4).power.node = s.power.node := congrArg Power.node (begun_power r s)
      have before : ((s.begun r).setOb 0x2000 2 4).procs.sequencer = s.procs.sequencer := congrArg Procs.sequencer (begun_procs r s)
      rw [node, before] at sequencer
      exact (congrArg Proc.running (procs .sequencer)).trans sequencer
  · have does := stateHome_refused (who := .req r) (by rw [begun_power]; exact cold) refused (by rw [begun_power]; exact asks)
    obtain ⟨power, told⟩ := stateRefused_settled refused r (s.begun r)
    have runs : dictWrite r 0x2000 2 [4] (stateHome 4) s = _ := dictWrite_applies applies _
    rw [does] at runs
    exact ⟨_, congrArg Host.Outcome.next runs, power.trans (begun_power r s), told⟩
  all_goals
    have done := stateHome_rest (who := .req r) (by rw [begun_power]; exact cold) rfl allowed
    refine (stateRequest_done rfl applies done).mono fun t ⟨power, _⟩ => power.trans ?_
    rw [beginRest_power, begun_power]
    rfl

end

end Sys2Proof.Machine

/-!
PROOF. The supplies, the straps and the power warning, and the settling of O12 (R418, R542, R551, R552, R554).
-/
namespace Sys2Proof.Machine

-- One proof after another, each on a stack of its own, for the check's memory.
set_option Elab.async false

section
variable {s : State}

/-! ### The entry to CONFIG (R418) -/

theorem computeRoutes_undisturbed {α s : State} (hyp : Undisturbed α s) : Undisturbed α (computeRoutes s) := by
  unfold computeRoutes
  refine each_undisturbed hyp fun d s => ?_
  dsimp only
  exact .ite (.ite (.refl _) ((restartFlows_fr (State.setSet_fr (.refl _ _))).leaves (.refl _)))
    (raiseNode_undisturbed ((restartFlows_fr (State.setSet_fr (.refl _ _))).leaves (.refl _)))

theorem refreshView_undisturbed {α s : State} (hyp : Undisturbed α s) : Undisturbed α (refreshView s) := by
  unfold refreshView
  exact .ite (computeRoutes_undisturbed hyp) ((State.setSet_fr (.refl _ _)).leaves (computeRoutes_undisturbed hyp))

/-- Every exclusion of a list is told. -/
theorem tellEach_undisturbed {α s : State} (l : List Nat) (inst detail : Nat → Nat) (hyp : Undisturbed α s) :
    Undisturbed α (forEach l (fun n => raise Ev.sensorExcluded (inst n) (detail n)) s) :=
  each_undisturbed hyp fun _ u => raise_undisturbed (.refl u)

theorem tellExclusions_undisturbed {α s : State} (hyp : Undisturbed α s) : Undisturbed α (tellExclusions s) := by
  unfold tellExclusions
  refine tellEach_undisturbed _ (0x80 + ·) (fun _ => 0) (each_undisturbed hyp fun st u => ?_)
  exact tellEach_undisturbed _ (fun _ => st) id (.refl u)

theorem deriveIdentity_undisturbed {α s : State} (hyp : Undisturbed α s) : Undisturbed α (deriveIdentity s) := by
  unfold deriveIdentity
  extract_lets x1 s1 s2 x3 ok s3 s4
  have h2 : Undisturbed α s2 := (State.setOb_fr (State.setSec_fr (.refl _ _))).leaves hyp
  have h3 : Undisturbed α s3 := (State.setSec_fr (.refl _ _)).leaves h2
  have h4 : Undisturbed α s4 := .ite h3 (raiseNode_undisturbed h3)
  exact .ite (raiseNode_undisturbed ((State.setSec_fr (.refl _ _)).leaves h2)) (raiseNode_undisturbed h4)

theorem setNode_proc (n : NodeState) (s : State) (p : ProcId) : (setNode n s).procs.get p = s.procs.get p := by
  unfold setNode
  dsimp only
  split
  · rfl
  · exact (raiseNode_undisturbed (.refl _)).proc p

theorem runZero_proc (cause : ZeroCause) (s : State) (p : ProcId) : (runZero cause s).procs.get p = s.procs.get p := by
  have goes (l : List Nat) (u : State) : Undisturbed u (forEach l (fenceContext 8) u) :=
    each_undisturbed (.refl u) fun _ _ => fenceContext_undisturbed (.refl _)
  have refused (l : List Nat) (u : State) : Undisturbed u (forEach l refuseLater u) :=
    each_undisturbed (.refl u) fun _ _ => (refuseLater_fr (.refl _ _)).leaves (.refl _)
  have ended (u : State) : Undisturbed u (endSessions u) := endSessions_undisturbed (.refl u)
  have advanced (u : State) : (zeroAdvance u).procs = u.procs := (zeroAdvance_fr (.refl 71173568 u)).procs (by decide)
  unfold runZero
  dsimp only
  rw [advanced, (refused _ _).proc, (goes _ _).proc, (ended _).proc]
  rfl

theorem wardenStart_proc (cold : Bool) (s : State) (p : ProcId) : (wardenStart cold s).procs.get p = s.procs.get p := by
  have derived : (deriveIdentity s).procs.get p = s.procs.get p := (deriveIdentity_undisturbed (.refl s)).proc p
  unfold wardenStart
  extract_lets d x s1 s2
  have h1 : s1.procs = d.procs := (State.setSec_fr (.refl 1024 d)).procs (by decide)
  have h2 : s2.procs = s1.procs := (Fr.ite (State.setOb_fr (.refl 64 s1)) (.refl _ _)).procs (by decide)
  have kept : s2.procs.get p = s.procs.get p := by rw [h2, h1]; exact derived
  split
  · exact derived
  · split
    · exact (runZero_proc _ _ p).trans derived
    · split
      · exact (runZero_proc _ _ p).trans kept
      · exact kept

theorem wardenStart_power (cold : Bool) (s : State) : (wardenStart cold s).power = s.power :=
  (wardenStart_fr (.refl 71194072 s)).power (by decide)

/-- A node that enters CONFIG has its processors running and its self-test to come. -/
theorem enterConfig_spec (cold : Bool) (s : State) : (enterConfig cold s).power =
      { s.power with node := .config, readyAsked := false, selfTested := false, checkerFailed := false } ∧
    ∀ p, (enterConfig cold s).procs.get p = (startProcs s).procs.get p := by
  unfold enterConfig
  extract_lets s1 s2 s3 p s4 heat s5 view s6 s7
  have enabled : Fr 64 s2 s3 := .ite (enableUnits_fr (.refl _ _)) (.refl _ _)
  have power2 : s2.power = { s.power with node := .config } := (setNode_power _ _).trans (congrArg (fun p : Power => { p with node := .config })
    (wardenStart_power cold (startProcs s)))
  have power3 : s3.power = { s.power with node := .config } := (enabled.power (by decide)).trans power2
  have power4 : s4.power = { s.power with node := .config, readyAsked := false, selfTested := false, checkerFailed := false } :=
    congrArg (fun p : Power => { p with readyAsked := false, selfTested := false, checkerFailed := false }) power3
  have told : Undisturbed s5 s6 := tellExclusions_undisturbed ((State.setSet_fr (State.setOb_fr (.refl _ _))).leaves (.refl _))
  have checked : Undisturbed s6 s7 := .ite (.refl _) (raiseNode_undisturbed (.refl _))
  have viewed : Undisturbed s7 (refreshView s7) := refreshView_undisturbed (.refl s7)
  have trains {w : Nat} (within : w ||| 256 = w) (l : List Nat) (u : State) : Fr w u (forEach l (fun h s =>
      if (neighbour s.setNodes s.me h).isNone || (s.strapsValid && s.adapterOn h) then startTraining h s else s) u) :=
    forEach_fr (.refl w u) fun _ _ => .ite (startTraining_fr (.refl _ _) within) (.refl _ _)
  have rest : Fr 134217723 s4 (refreshView s7) :=
    refreshView_fr (.ite (tellExclusions_fr (State.setSet_fr (State.setOb_fr (State.setHeat_fr (.refl _ _)))))
      (raiseNode_fr (tellExclusions_fr (State.setSet_fr (State.setOb_fr (State.setHeat_fr (.refl _ _)))))))
  refine ⟨((trains (w := 256) rfl _ _).power (by decide)).trans ((rest.power (by decide)).trans power4), fun i => ?_⟩
  have procs4 : s4.procs.get i = (startProcs s).procs.get i :=
    (congrArg (Procs.get · i) (enabled.procs (by decide))).trans ((setNode_proc .config s1 i).trans (wardenStart_proc cold _ i))
  exact (((trains rfl _ _).leaves (told.trans (checked.trans viewed))).proc i).trans procs4

theorem bootAdvance_starts (boots : s.power.node = .boot) (image : s.upd.selected = true) (good : s.power.vcore = true)
    (cold : s.power.warm = false) (released : s.power.setHeld = false) : bootAdvance s = enterConfig true s :=
  if_pos (by simp [boots, image, good, cold, released])

/-- BOOT goes on or it does not: the supplies are as they were. -/
theorem bootAdvance_supplies (s : State) : (bootAdvance s).power.vcore = s.power.vcore ∧ (bootAdvance s).power.vphy = s.power.vphy := by
  unfold bootAdvance
  split
  · rw [(enterConfig_spec true s).1]
    exact ⟨rfl, rfl⟩
  · exact ⟨rfl, rfl⟩

/-- What VCORE starts before BOOT goes on: the source FO and sv_ref_a (R399). -/
theorem vcoreGood_advances (on : s.power.node ≠ .off) :
    ∃ u : State, u.power = { s.power with vcore := true, vphy := true } ∧ u.upd = s.upd ∧ vcoreGood s = bootAdvance u := by
  unfold vcoreGood
  rw [if_neg on]
  extract_lets p start clock u
  have starts {m : Nat} {x y : State} (h : Fr 16777216 x y) : Fr 16777216 x (start m y) := .ite (State.setSource_fr h) h
  have sources : Fr 16777216 s u := .ite (.refl _ _) (starts (starts (State.setClk_fr (.refl _ _))))
  exact ⟨u.setPower { u.power with vcore := true, vphy := true },
    congrArg (fun p : Power => { p with vcore := true, vphy := true }) (sources.power (by decide)),
    sources.upd (by decide), rfl⟩

/-! ### The entry to HALTED at a supply's loss (R273, R431) -/

/-- The state of the node and its supplies. -/
def Power.stands (p : Power) : NodeState × Bool × Bool := (p.node, p.vcore, p.vphy)

theorem markUnretained_stands (c : Nat) (s : State) : (markUnretained c s).power.stands = s.power.stands := by
  unfold markUnretained
  split <;> rfl

theorem haltChannels_stands (s : State) : (haltChannels s).power.stands = s.power.stands := by
  have stops (u : State) : (stopPorts (journalHalt u)).power = u.power :=
    (stopPorts_fr (journalHalt_fr (.refl 67387712 u))).power (by decide)
  unfold haltChannels
  refine forEach_invariant (p := fun u : State => u.power.stands = s.power.stands) (fun c u kept => ?_) _
    ((congrArg Power.stands (stops _)).trans rfl)
  have drained : (drainChannel c 2 0xFFFF u).power = u.power := (drainChannel_fr (.refl 262144 u)).power (by decide)
  split
  · exact kept
  · split
    · exact (congrArg Power.stands drained).trans kept
    · exact (markUnretained_stands c u).trans kept

/-- An entry to HALTED that writes nothing back halts the channels at once. -/
theorem enterHalted_spec {code : Nat} (on : s.power.node ≠ .off) (serves : s.power.node ≠ .halted) :
    (enterHalted code false s).power.stands = (.halted, s.power.vcore, s.power.vphy) ∧
      (enterHalted code false s).cache = s.cache ∧ (enterHalted code false s).procs.sequencer.running = false := by
  have still : ¬ (s.power.node = .halted ∨ s.power.node = .off) := by simp [on, serves]
  unfold enterHalted
  rw [if_neg (by simpa using still)]
  extract_lets s1 s2 p s3 s4 s5
  have power2 : s2.power = { s.power with node := .halted } :=
    calc s2.power = (raiseNode Ev.nodeHalted code s1).power := (breakContinuity_fr (.refl 86232 _)).power (by decide)
      _ = s1.power := (raiseNode_reports _ _ _).power
      _ = { s.power with node := .halted } := setNode_power _ _
  have wrote : Fr 72 s3 s4 := stopProcs_fr (State.setOb_fr (State.setOb_fr (.refl _ _)))
  have stands3 : s3.power.stands = (.halted, s.power.vcore, s.power.vphy) := (congrArg Power.stands power2).trans rfl
  have cache3 : s3.cache = s.cache := (breakContinuity_fr (raiseNode_fr (setNode_fr (State.setOb_fr (.refl 86236 s))))).cache (by decide)
  have stopped : s4.procs.sequencer = ⟨false, none⟩ := rfl
  have written : s5 = s4 := if_neg (by decide)
  clear_value s5 s4 s3
  subst written
  rw [if_pos (show (!false || s5.dirtyLines.isEmpty) = true from rfl)]
  refine ⟨?_, ?_, ?_⟩
  · rw [haltChannels_stands, wrote.power (by decide), stands3]
  · rw [(haltChannels_fr (.refl 67387716 s5)).cache (by decide), wrote.cache (by decide), cache3]
  · rw [haltChannels_procs, stopped]

/-- What is dirty and not written back is marked. -/
theorem markEach_spec (l : List Nat) (s : State) : (forEach l markUnretained s).power.stands = s.power.stands ∧ Fr 68 s (forEach l markUnretained s) :=
  ⟨forEach_invariant (p := fun u : State => u.power.stands = s.power.stands) (fun c u kept => (markUnretained_stands c u).trans kept) l rfl,
    forEach_fr (.refl _ _) fun _ _ => markUnretained_fr (.refl _ _)⟩

/-- A loss of VCORE, or of VPHY, in a node that is not halted leads to HALTED. -/
theorem supplyLoss_halts {vphy : Bool} (on : s.power.node ≠ .off) (serves : s.power.node ≠ .halted)
    (lost : (if vphy then s.power.vphy else s.power.vcore) = true) :
    (supplyLoss vphy s).power.stands = (.halted, s.power.vcore && vphy, s.power.vphy && !vphy) ∧
      (vphy = false → (supplyLoss vphy s).cache.ways = [] ∧ (supplyLoss vphy s).procs.sequencer.running = false) := by
  have held : ¬ (s.power.node = .off ∨ s.power.vcore = false ∧ (vphy = true → s.power.vphy = false)) := by
    cases vphy <;> simp_all
  unfold supplyLoss
  rw [if_neg (by simpa using held)]
  extract_lets dirty p s1 s2
  have stands1 : s1.power.stands = (s.power.node, s.power.vcore && vphy, s.power.vphy && !vphy) := by
    cases vphy <;> simp [s1, p, Power.stands]
  have clocks : Fr 17301576 s1 s2 := .ite (forEach_fr (.refl _ _) fun _ _ => setDomain_fr (.refl _ _)) (coreOff_fr (.refl _ _))
  have core : vphy = false → s2.cache.ways = [] ∧ s2.procs.sequencer.running = false := by
    rintro rfl
    exact ⟨rfl, rfl⟩
  clear_value s2
  have stands2 : s2.power.stands = (s.power.node, s.power.vcore && vphy, s.power.vphy && !vphy) := by
    rw [clocks.power (by decide), stands1]
  have node2 : s2.power.node = s.power.node := congrArg (·.1) stands2
  obtain ⟨halted, cache, stopped⟩ := enterHalted_spec (s := s2.takeFree) (code := s2.freeValue 16) (node2 ▸ on) (node2 ▸ serves)
  obtain ⟨stays, marks⟩ := markEach_spec dirty (enterHalted (s2.freeValue 16) false s2.takeFree)
  rw [if_neg (node2 ▸ serves), stays, halted, marks.cache (by decide), marks.procs (by decide), cache]
  exact ⟨congrArg (NodeState.halted, ·.2) stands2, fun whole => ⟨(core whole).1, stopped⟩⟩

/-! ### The straps (R552) -/

/-- The straps as the pins hold them. -/
def Pins.straps (p : Pins) : Nat × Nat × Bool := (p.nodeId, p.setSize, p.recovery)

theorem Undisturbed.straps {s t : State} (h : Undisturbed s t) : t.pins.straps = s.pins.straps := by
  have same : ({ t.pins with alarm := false } : Pins) = { s.pins with alarm := false } := congrArg (fun b => b.2.2.1) h
  have straps := congrArg Pins.straps same
  exact straps

/-- The Keeper starts with the straps as they are held. -/
theorem keeperStarts_spec (s : State) : (keeperStarts s).power = { s.power with strapped := true } ∧
    (keeperStarts s).pins.straps = s.pins.straps ∧ (keeperStarts s).wrap = s.wrap := by
  unfold keeperStarts
  extract_lets p s1
  have loaded : Fr 67108864 s1 (loadSampler s1) := loadSampler_fr (.refl _ _)
  have told := raiseNode_reports Ev.nodeState (256 * s1.power.resetFrom + 1) (loadSampler s1)
  refine ⟨told.power.trans (loaded.power (by decide)), ?_, told.wrap.trans (loaded.wrap (by decide))⟩
  exact (raiseNode_undisturbed (.refl _)).straps.trans (congrArg Pins.straps (loaded.pins (by decide)))

/-- The release of a set reset takes the straps. -/
theorem sampleStraps_releases {n z : Nat} {rec : Bool} (on : s.power.node ≠ .off) (held : s.power.setHeld = true) :
    (sampleStraps n z rec s).pins.straps = (n % 8, z % 8, rec) ∧ (sampleStraps n z rec s).power.setHeld = false ∧
      (sampleStraps n z rec s).wrap.held = false := by
  unfold sampleStraps
  rw [if_neg on, if_pos held]
  extract_lets s1 p w s2 q s3
  have released : s3.pins.straps = (n % 8, z % 8, rec) ∧ s3.power.setHeld = false ∧ s3.wrap.held = false := ⟨rfl, rfl, rfl⟩
  clear_value s3
  split
  · obtain ⟨power, straps, wrap⟩ := keeperStarts_spec s3
    rw [power, straps, wrap]
    exact released
  · exact released

/-- The start of the Keeper takes the straps. -/
theorem sampleStraps_starts {n z : Nat} {rec : Bool} (on : s.power.node ≠ .off) (free : s.power.setHeld = false)
    (first : s.power.strapped = false) (stable : s.stable srcKfo = true) :
    sampleStraps n z rec s = keeperStarts (takeStraps n z rec s) := by
  unfold sampleStraps
  rw [if_neg on, if_neg (by simp [free]), if_pos (by simp [first, stable])]

/-- Settles O12. -/
theorem suppliesAndStraps : Obligations.SuppliesAndStraps := by
  unfold Obligations.SuppliesAndStraps
  intro s n z rec level on
  refine ⟨?_, fun boots image cold released => ?_, fun good serves => ?_, fun good serves => ?_, fun free first stable => ?_, fun held => ?_,
    fun free first => ?_, fun differs due => ?_, fun stays => ?_⟩
  · obtain ⟨u, power, -, rises⟩ := vcoreGood_advances on
    obtain ⟨vcore, vphy⟩ := bootAdvance_supplies u
    rw [power] at vcore vphy
    exact ⟨_, rfl, rises ▸ vcore, rises ▸ vphy⟩
  · obtain ⟨u, power, upd, rises⟩ := vcoreGood_advances on
    rw [bootAdvance_starts (by simpa [power] using boots) (by simpa [upd] using image) (by rw [power]) (by simpa [power] using cold)
      (by simpa [power] using released)] at rises
    obtain ⟨config, procs⟩ := enterConfig_spec true u
    refine ⟨_, rfl, ?_⟩
    dsimp only
    rw [rises, config]
    exact ⟨rfl, rfl, procs .sequencer, procs .steward, procs .warden⟩
  · obtain ⟨stands, core⟩ := supplyLoss_halts (vphy := false) on serves good
    obtain ⟨emptied, stopped⟩ := core rfl
    exact ⟨_, rfl, congrArg (·.1) stands, (congrArg (·.2.1) stands).trans (Bool.and_false _), emptied, stopped⟩
  · obtain ⟨stands, -⟩ := supplyLoss_halts (vphy := true) on serves good
    exact ⟨_, rfl, congrArg (·.1) stands, (congrArg (·.2.2) stands).trans (Bool.and_false _)⟩
  · obtain ⟨power, straps, -⟩ := keeperStarts_spec (takeStraps n z rec s)
    refine ⟨_, rfl, ?_⟩
    dsimp only
    rw [sampleStraps_starts on free first stable, power]
    exact ⟨congrArg (·.1) straps, congrArg (·.2.1) straps, congrArg (·.2.2) straps, rfl⟩
  · obtain ⟨straps, released, unheld⟩ := sampleStraps_releases (n := n) (z := z) (rec := rec) on held
    exact ⟨_, rfl, congrArg (·.1) straps, congrArg (·.2.1) straps, congrArg (·.2.2) straps, released, unheld⟩
  · refine congrArg Host.Outcome.next ?_
    unfold sampleStraps
    rw [if_neg on, if_neg (by simp [free]), if_neg (by simp [first])]
  · refine congrArg Host.Outcome.next ?_
    unfold takePowerWarn
    exact if_neg (by obtain never | past := due <;> simp [*])
  · refine congrArg Host.Outcome.next ?_
    unfold takePowerWarn
    exact if_pos (by obtain same | ⟨ever, early⟩ := stays <;> simp [*])

end

end Sys2Proof.Machine

/-!
PROOF. The canonical form of the key store over every operation that writes the security state (R382, R387).
-/
namespace Sys2Proof.Machine

-- One proof after another, each on a stack of its own, for the check's memory.
set_option Elab.async false

/-- A key store in canonical form stays so. -/
def KeepsKeys (a s : State) : Prop := Canonical (fun _ => KeySlot.reset) a.sec.keys → Canonical (fun _ => KeySlot.reset) s.sec.keys

theorem KeepsKeys.refl (s : State) : KeepsKeys s s := id

theorem KeepsKeys.trans {a s t : State} (h : KeepsKeys a s) (k : KeepsKeys s t) : KeepsKeys a t := fun c => k (h c)

theorem KeepsKeys.ite {a x y : State} {c : Prop} [Decidable c] (h : KeepsKeys a x) (k : KeepsKeys a y) : KeepsKeys a (if c then x else y) := by
  split <;> assumption

/-- An operation that does not write the security state: every part but `sec` is in the mask. -/
theorem Fr.keys {a s t : State} (k : Fr 134216703 s t) (h : KeepsKeys a s) : KeepsKeys a t := fun c => by
  rw [k.sec (by decide)]
  exact h c

theorem each_keys {a s : State} {α : Type} {l : List α} {f : α → State → State} (h : KeepsKeys a s) (each : ∀ x u, KeepsKeys u (f x u)) :
    KeepsKeys a (forEach l f s) :=
  forEach_invariant (p := KeepsKeys a) (fun x u k => k.trans (each x u)) l h

/-- The state that a home operation answers keeps it. -/
def KeysW (a : State) : WResult → Prop
  | .done t => KeepsKeys a t
  | .refused _ _ t => KeepsKeys a t
  | .wait t => KeepsKeys a t

theorem KeysW.trans {a s : State} {w : WResult} (h : KeepsKeys a s) (k : KeysW s w) : KeysW a w := by
  cases w <;> exact KeepsKeys.trans h k

section
variable {a t : State} {w : WResult} {st d : Nat}

theorem KeysW.of_done (e : w = .done t) (k : KeysW a w) : KeepsKeys a t := by
  subst e
  exact k

theorem KeysW.of_refused (e : w = .refused st d t) (k : KeysW a w) : KeepsKeys a t := by
  subst e
  exact k

theorem KeysW.of_wait (e : w = .wait t) (k : KeysW a w) : KeepsKeys a t := by
  subst e
  exact k

end

theorem FrW.keys {a s : State} {w : WResult} (k : FrW 134216703 s w) (h : KeepsKeys a s) : KeysW a w := by
  cases w <;> exact Fr.keys k h

/-- A home operation that is chosen by the object keeps it. -/
def KeysHO (o : Option Home) : Prop := ∀ h, o = some h → ∀ who s, KeysW s (h who s)

theorem keysHO_none : KeysHO none := fun _ e => nomatch e

theorem keysHO_some {h : Home} (k : ∀ who s, KeysW s (h who s)) : KeysHO (some h) := fun _ e => Option.some.inj e ▸ k

theorem keysHO_frame {h : Home} (k : ∀ who s, FrW 134216703 s (h who s)) : KeysHO (some h) := keysHO_some fun who s => (k who s).keys (.refl s)

theorem KeysHO.ite {c : Prop} [Decidable c] {x y : Option Home} (h : KeysHO x) (k : KeysHO y) : KeysHO (if c then x else y) := by
  split <;> assumption

/-! ### Each operation -/

theorem wrapPowered_keys {a s : State} {f : State → State} (h : KeepsKeys a s) (k : ∀ s, KeepsKeys s (f s)) : KeepsKeys a (wrapPowered f s) := by
  unfold wrapPowered
  exact .ite h (h.trans (k s))

/-- The security state is written with the key store as it was. -/
theorem State.setSec_keys {α s : State} {x : Security} (hyp : KeepsKeys α s) (same : x.keys = s.sec.keys := by rfl) :
    KeepsKeys α (s.setSec x) := fun h => by
  rw [State.setSec_sec, same]
  exact hyp h

/-- One key slot is written. -/
theorem State.setKey_keys {α s : State} {n : Nat} {k : KeySlot} (hyp : KeepsKeys α s) : KeepsKeys α (State.setKey s n k) := fun h =>
  (hyp h).put

theorem State.setSpdm_keys {α s : State} {c : Spdm} (hyp : KeepsKeys α s) : KeepsKeys α (State.setSpdm s c) := State.setSec_keys hyp

theorem singleFault_keys {α : State} {code : Nat} {f : State → State} {s : State} (hyp : KeepsKeys α s) (hf_f : ∀ y, KeepsKeys y (f y)) : KeepsKeys α
    (singleFault code f s) := .ite ((enterHalted_fr (.refl _ _)).keys (.trans ((State.setOb_fr (.refl _ _)).keys hyp) (hf_f _)))
    (.trans ((State.setOb_fr (.refl _ _)).keys hyp) (hf_f _))

theorem beginRequest_keys {α : State} {req : Req} {act : State → State} {s : State} (hyp : KeepsKeys α s) (hf_act : ∀ y, KeepsKeys y (act y)) :
    KeepsKeys α (beginRequest req act s) := by
  unfold beginRequest
  refine .ite ((sendResponse_fr (.refl _ _)).keys hyp) ?_
  split
  · exact (sendResponse_fr (.refl _ _)).keys hyp
  · exact (sendResponse_fr (.refl _ _)).keys hyp
  · exact fun c => hf_act _ (hyp c)

theorem endSession_keys {α : State} {id : Nat} {s : State} (hyp : KeepsKeys α s) : KeepsKeys α (endSession id s) :=
  .ite ((raiseNode_fr (.refl _ _)).keys (State.setSec_keys hyp)) hyp

theorem endSessions_keys {α s : State} (hyp : KeepsKeys α s) : KeepsKeys α (endSessions s) := each_keys hyp (fun _ _ => endSession_keys (.refl _))

theorem beginRest_keys {α : State} {deep : Bool} {s : State} (hyp : KeepsKeys α s) : KeepsKeys α (beginRest deep s) :=
    (writeBales_fr (writeBackAll_fr (refuseOffers_fr (.refl _ _)))).keys
    (endSessions_keys ((closeSegments_fr (State.setOb_fr (State.setOb_fr (State.setOb_fr (State.setPower_fr (.refl _ _)))))).keys hyp))

theorem beginWarm_keys {α : State} {s : State} (hyp : KeepsKeys α s) : KeepsKeys α (beginWarm s) := by
  unfold beginWarm
  extract_lets halted s1 s2 p2 s3 s4 s5 s6 s7 s8 s9 s10 s11 x11 s12 s13
  have h1 : KeepsKeys α s1 := .ite hyp ((flood_fr (.refl _ _)).keys hyp)
  have h4 : KeepsKeys α s4 := (State.setOb_fr (State.setPower_fr (setNode_fr (.refl _ _)))).keys h1
  have h5 : KeepsKeys α s5 := .ite ((warmFromHalted_fr (.refl _ _)).keys h4) h4
  have h6 : KeepsKeys α s6 := (emptyEngines_fr (fenceStreams_fr (.refl _ _))).keys h5
  have h7 : KeepsKeys α s7 := (raiseNode_fr (State.bump_fr (State.setOb_fr (.refl _ _)))).keys h6
  have h8 : KeepsKeys α s8 := (discardSamples_fr (refuseOffers_fr (.refl _ _))).keys h7
  have h9 : KeepsKeys α s9 := each_keys h8 fun _ _ => (breakRed_fr (.refl _ _)).keys (.refl _)
  have h11 : KeepsKeys α s11 := (qosStart_fr (.refl _ _)).keys (endSessions_keys ((writeBales_fr (writeBackAll_fr (.refl _ _))).keys h9))
  clear_value s11
  have h12 : KeepsKeys α s12 := State.setSec_keys h11
  have h13 : KeepsKeys α s13 := each_keys h12 fun _ _ => .ite (.refl _) ((drainChannel_fr (.refl _ _)).keys (.refl _))
  exact (stopProcs_fr (.refl _ _)).keys h13

theorem eraseKeys_keys {α s : State} (hyp : KeepsKeys α s) : KeepsKeys α (eraseKeys s) :=
    (startLedgerZero_fr (.refl _ _)).keys (State.setSec_keys (each_keys hyp (fun _ _ => State.setKey_keys (.refl _))))

theorem dropSecure_keys {α : State} {s : State} (hyp : KeepsKeys α s) : KeepsKeys α (dropSecure s) := by
  unfold dropSecure
  extract_lets old ranges keep m1 s1 s2 s3 s4 objs s5
  have h1 : KeepsKeys α s1 := hyp
  have h2 : KeepsKeys α s2 := each_keys h1 fun _ s => (State.setOb_fr (.refl _ _)).keys (.refl s)
  have h3 : KeepsKeys α s3 := each_keys h2 fun _ s => (State.setOb_fr (.refl _ _)).keys (.refl s)
  have h4 : KeepsKeys α s4 := each_keys h3 fun _ s => (State.setOb_fr (.refl _ _)).keys (.refl s)
  have h5 : KeepsKeys α s5 := each_keys h4 fun _ s => (putSync_fr (.refl _ _)).keys (.refl s)
  exact State.setSec_keys ((State.setOb_fr (.refl _ _)).keys h5)

theorem zeroAdvance_keys {α s : State} (hyp : KeepsKeys α s) : KeepsKeys α (zeroAdvance s) :=
    .ite hyp (dropSecure_keys (eraseKeys_keys ((dropGuarded_fr (.refl _ _)).keys hyp)))

theorem runZero_keys {α : State} {cause : ZeroCause} {s : State} (hyp : KeepsKeys α s) : KeepsKeys α (runZero cause s) :=
    zeroAdvance_keys (each_keys (each_keys (endSessions_keys (State.setSec_keys hyp)) (fun _ _ => (fenceContext_fr (.refl _ _)).keys (.refl _)))
    (fun _ _ => (refuseLater_fr (.refl _ _)).keys (.refl _)))

theorem startZero_keys {α : State} {cause : ZeroCause} {s : State} (hyp : KeepsKeys α s) : KeepsKeys α (startZero cause s) :=
    runZero_keys (State.setSec_keys hyp)

theorem deriveIdentity_keys {α s : State} (hyp : KeepsKeys α s) : KeepsKeys α (deriveIdentity s) :=
    .ite ((raiseNode_fr (.refl _ _)).keys (State.setSec_keys ((State.setOb_fr (.refl _ _)).keys (State.setSec_keys hyp))))
    ((raiseNode_fr (.refl _ _)).keys (.ite (State.setSec_keys ((State.setOb_fr (.refl _ _)).keys (State.setSec_keys hyp)))
    ((raiseNode_fr (.refl _ _)).keys (State.setSec_keys ((State.setOb_fr (.refl _ _)).keys (State.setSec_keys hyp))))))

theorem wardenStart_keys {α : State} {cold : Bool} {s : State} (hyp : KeepsKeys α s) : KeepsKeys α (wardenStart cold s) := by
  unfold wardenStart
  refine .ite (deriveIdentity_keys hyp) ?_
  split
  · exact runZero_keys (deriveIdentity_keys hyp)
  · exact .ite (startZero_keys (.ite ((State.setOb_fr (.refl _ _)).keys (State.setSec_keys (deriveIdentity_keys hyp)))
      (State.setSec_keys (deriveIdentity_keys hyp)))) (.ite ((State.setOb_fr (.refl _ _)).keys (State.setSec_keys (deriveIdentity_keys hyp)))
      (State.setSec_keys (deriveIdentity_keys hyp)))

theorem enterConfig_keys {α s : State} {cold : Bool} (hyp : KeepsKeys α s) : KeepsKeys α (enterConfig cold s) := by
  have started := wardenStart_keys (cold := cold) ((startProcs_fr (.refl _ s)).keys hyp)
  unfold enterConfig
  extract_lets s1 s2 s3 p s4 heat s5 view s6 s7
  have h2 : KeepsKeys α s2 := (setNode_fr (.refl _ _)).keys started
  have h3 : KeepsKeys α s3 := .ite ((enableUnits_fr (.refl _ _)).keys h2) h2
  have h6 : KeepsKeys α s6 := (tellExclusions_fr (State.setSet_fr (State.setOb_fr (State.setHeat_fr (State.setPower_fr (.refl _ _)))))).keys h3
  have h7 : KeepsKeys α s7 := .ite h6 ((raiseNode_fr (.refl _ _)).keys h6)
  exact each_keys ((refreshView_fr (.refl _ _)).keys h7) fun _ _ => .ite ((startTraining_fr (.refl _ _)).keys (.refl _)) (.refl _)

theorem bootAdvance_keys {α s : State} (hyp : KeepsKeys α s) : KeepsKeys α (bootAdvance s) := .ite (enterConfig_keys hyp) hyp

theorem runActive_keys {α s : State} (hyp : KeepsKeys α s) : KeepsKeys α (runActive s) :=
    bootAdvance_keys ((State.setUpd_fr (State.setOb_fr (State.setOb_fr (.refl _ _)))).keys hyp)

theorem bootActive_keys {α s : State} (hyp : KeepsKeys α s) : KeepsKeys α (bootActive s) :=
    .ite (runActive_keys hyp) (.ite ((State.setUpd_fr (raiseNode_fr (.refl _ _))).keys hyp) ((enterRecovery_fr (raiseNode_fr (.refl _ _))).keys hyp))

/-- A cold start leaves an empty key store. -/
theorem coldState_keys {α s : State} {kind : Nat} : KeepsKeys α (coldState kind s) := fun _ => canonical_nil

theorem setReset_keys {α s : State} {held : Bool} (hyp : KeepsKeys α s) : KeepsKeys α (setReset held s) := by
  unfold setReset
  extract_lets c sources p x w k c2
  have start : KeepsKeys α c := coldState_keys
  clear_value c
  have cold : KeepsKeys α c2 := start
  exact .ite hyp (.ite cold ((State.setOb_fr (.refl _ _)).keys cold))

theorem warmReset_keys {α s : State} (hyp : KeepsKeys α s) : KeepsKeys α (warmReset s) :=
    .ite (setReset_keys hyp) (.ite hyp (.ite ((raiseNode_fr (State.setUpd_fr (setNode_fr (State.bump_fr (State.setOb_fr (.refl _ _)))))).keys hyp)
    (beginWarm_keys hyp)))

theorem warmHome_keys {α : State} {who : Completer} {s0 : State} (hyp : KeepsKeys α s0) : KeysW α (warmHome who s0) := (warmReset_keys hyp)

theorem stateHome_keys {α : State} {v : Nat} {who : Completer} {s0 : State} (hyp : KeepsKeys α s0) : KeysW α (stateHome v who s0) := by
  unfold stateHome
  dsimp only [applyHome]
  split
  · exact hyp
  · split
    · split
      · exact (stateRefused_fr (.refl _ _)).keys hyp
      · split
        · exact (State.setPower_fr (State.setOb_fr (.refl _ _))).keys hyp
        · exact .ite ((State.setPower_fr (State.setOb_fr (.refl _ _))).keys hyp)
            (.ite ((State.setOb_fr (.refl _ _)).keys hyp) ((beginWake_fr (State.setOb_fr (.refl _ _))).keys hyp))
        · exact .ite ((State.setPower_fr (State.setOb_fr (.refl _ _))).keys hyp)
            (.ite ((State.setOb_fr (.refl _ _)).keys hyp) ((beginWake_fr (State.setOb_fr (.refl _ _))).keys hyp))
        · exact (stateRefused_fr (.refl _ _)).keys hyp
    · split
      · split
        · exact beginRest_keys hyp
        · exact (stateRefused_fr (.refl _ _)).keys hyp
      · exact (stateRefused_fr (.refl _ _)).keys hyp

theorem verifyStageHome_keys {α : State} {value : List Byte} {who : Completer} {s0 : State} (hyp : KeepsKeys α s0) : KeysW α
    (verifyStageHome value who s0) := by
  unfold verifyStageHome
  split
  · exact hyp
  · exact State.setSec_keys hyp

theorem eraseKey_keys {α : State} {n : Nat} {plans : Bool} {s : State} (hyp : KeepsKeys α s) : KeysW α (eraseKey n plans s) := by
  unfold eraseKey
  split
  · exact (keyDenied_fr (.refl _ _)).keys hyp
  · exact (raiseNode_fr (State.setOb_fr (.refl _ _))).keys (State.setKey_keys hyp)

theorem loadKey_keys {α : State} {code n : Nat} {kind : KeyKind} {world : Bool} {fp k1 k2 : Nat} {s : State} (hyp : KeepsKeys α s) : KeysW α
    (loadKey code n kind world fp k1 k2 s) := by
  unfold loadKey
  split
  · exact (keyDenied_fr (.refl _ _)).keys hyp
  · exact (raiseNode_fr (State.setOb_fr (.refl _ _))).keys (State.setKey_keys hyp)

theorem importVerify_keys {α : State} {n : Nat} {world : Bool} {s : State} (hyp : KeepsKeys α s) : KeysW α (importVerify n world s) := by
  unfold importVerify
  dsimp only
  split
  · exact (keyDenied_fr (.refl _ _)).keys (State.setSec_keys hyp)
  · exact loadKey_keys (State.setSec_keys hyp)

theorem generateGcm_keys {α : State} {n : Nat} {world : Bool} {s : State} (hyp : KeepsKeys α s) : KeysW α (generateGcm n world s) :=
    loadKey_keys ((State.takeFree_fr (.refl _ _)).keys hyp)

theorem generateXts_keys {α : State} {n : Nat} {world : Bool} {s : State} (hyp : KeepsKeys α s) : KeysW α (generateXts n world s) :=
    loadKey_keys ((State.takeFree_fr (State.takeFree_fr (State.takeFree_fr (.refl _ _)))).keys hyp)

theorem keyCommand_keys {α : State} {v : Nat} {plans : Bool} {s : State} (hyp : KeepsKeys α s) : KeysW α (keyCommand v plans s) := by
  unfold keyCommand
  dsimp only
  split
  · exact hyp
  · split
    · exact (keyDenied_fr (.refl _ _)).keys hyp
    · split
      · exact (keyDenied_fr (.refl _ _)).keys (.ite (State.setSec_keys hyp) hyp)
      · split
        · exact generateXts_keys hyp
        · split
          · exact generateGcm_keys hyp
          · split
            · exact importVerify_keys hyp
            · exact eraseKey_keys hyp

theorem keyHome_keys {α : State} {v : Nat} {who : Completer} {s0 : State} (hyp : KeepsKeys α s0) : KeysW α (keyHome v who s0) := keyCommand_keys hyp

theorem clearStaged_keys {α s : State} (hyp : KeepsKeys α s) : KeepsKeys α (clearStaged s) := State.setSec_keys hyp

theorem claim_keys {α : State} {inSession : Bool} {s : State} (hyp : KeepsKeys α s) : KeysW α (claim inSession s) := by
  unfold claim
  split
  · split
    · exact clearStaged_keys hyp
    · exact (raiseNode_fr (.refl _ _)).keys (clearStaged_keys (State.setSec_keys ((writeOwner_fr (.refl _ _)).keys hyp)))
  · exact clearStaged_keys hyp

theorem ownerCommand_keys {α : State} {code : Nat} {session secured ordered : Bool} {s : State} (hyp : KeepsKeys α s) : KeysW α
    (ownerCommand code session secured ordered s) := by
  unfold ownerCommand
  dsimp only
  split
  · exact hyp
  · split
    · exact claim_keys hyp
    · split
      · split
        · exact clearStaged_keys hyp
        · exact startZero_keys (clearStaged_keys (State.setSec_keys hyp))
      · exact clearStaged_keys hyp
    · split
      · exact startZero_keys (clearStaged_keys hyp)
      · exact clearStaged_keys hyp
    · split
      · exact startZero_keys (clearStaged_keys hyp)
      · exact clearStaged_keys hyp

theorem ownerHome_keys {α : State} {code : Nat} {session secured : Bool} {who : Completer} {s0 : State} (hyp : KeepsKeys α s0) : KeysW α
    (ownerHome code session secured who s0) := ownerCommand_keys hyp

theorem ownerKeyHome_keys {α : State} {sub : Nat} {value : List Byte} {who : Completer} {s0 : State} (hyp : KeepsKeys α s0) : KeysW α
    (ownerKeyHome sub value who s0) := by
  unfold ownerKeyHome
  split
  · exact hyp
  · show KeepsKeys α _
    split
    · exact State.setSec_keys hyp
    · exact State.setSec_keys hyp

theorem homeLow_keys {owner : Bool} {idx sub : Nat} {value : List Byte} : KeysHO (homeLow owner idx sub value) := by
  unfold homeLow
  dsimp only
  refine KeysHO.ite (keysHO_frame fun _ _ => macHome_fr (.refl _ _)) ?_
  refine KeysHO.ite (keysHO_some fun _ _ => (applyHome_fr (.refl _ _) fun _ => clearLog_fr (.refl _ _)).keys (.refl _)) ?_
  refine KeysHO.ite (keysHO_some fun _ _ => (applyHome_fr (.refl _ _) fun _ => clearAlarm_fr (.refl _ _)).keys (.refl _)) ?_
  refine KeysHO.ite (keysHO_some fun _ _ => (applyHome_fr (.refl _ _) fun _ => clearMirror_fr (.refl _ _)).keys (.refl _)) ?_
  refine KeysHO.ite (keysHO_frame fun _ _ => maskHome_fr (.refl _ _)) ?_
  refine KeysHO.ite (keysHO_some fun _ _ => stateHome_keys (.refl _)) ?_
  refine KeysHO.ite (keysHO_some fun _ _ => warmHome_keys (.refl _)) ?_
  refine KeysHO.ite (keysHO_frame fun _ _ => nodeRejoinHome_fr (.refl _ _)) ?_
  refine KeysHO.ite (keysHO_frame fun _ _ => enableHome_fr (.refl _ _)) ?_
  refine KeysHO.ite (keysHO_frame fun _ _ => regionHome_fr (.refl _ _)) ?_
  refine KeysHO.ite (keysHO_frame fun _ _ => intervalHome_fr (.refl _ _)) ?_
  refine KeysHO.ite (keysHO_frame fun _ _ => openMinHome_fr (.refl _ _)) ?_
  refine KeysHO.ite (keysHO_frame fun _ _ => planHome_fr (.refl _ _)) ?_
  refine KeysHO.ite (keysHO_frame fun _ _ => armFrameHome_fr (.refl _ _)) ?_
  refine KeysHO.ite (keysHO_frame fun _ _ => fenceClearHome_fr (.refl _ _)) ?_
  refine KeysHO.ite (keysHO_frame fun _ _ => fenceRequestHome_fr (.refl _ _)) ?_
  refine KeysHO.ite (keysHO_frame fun _ _ => portWorldHome_fr (.refl _ _)) ?_
  refine KeysHO.ite (keysHO_frame fun _ _ => portRejoinHome_fr (.refl _ _)) ?_
  refine KeysHO.ite (keysHO_frame fun _ _ => poolResetHome_fr (.refl _ _)) ?_
  refine KeysHO.ite (keysHO_frame fun _ _ => standingHome_fr (.refl _ _)) ?_
  refine KeysHO.ite (keysHO_frame fun _ _ => unitRejoinHome_fr (.refl _ _)) ?_
  refine KeysHO.ite (keysHO_frame fun _ _ => beyondClearHome_fr (.refl _ _)) ?_
  refine KeysHO.ite (keysHO_frame fun _ _ => flushAllHome_fr (.refl _ _)) ?_
  refine KeysHO.ite (keysHO_frame fun _ _ => sliceRejoinHome_fr (.refl _ _)) ?_
  refine KeysHO.ite (keysHO_frame fun _ _ => syncObjectHome_fr (.refl _ _)) ?_
  refine KeysHO.ite (keysHO_frame fun _ _ => meterHome_fr (.refl _ _)) ?_
  refine KeysHO.ite (keysHO_frame fun _ _ => shaperHome_fr (.refl _ _)) ?_
  refine KeysHO.ite (keysHO_frame fun _ _ => budgetHome_fr (.refl _ _)) ?_
  exact keysHO_none

theorem homeHigh_keys {owner secured : Bool} {idx sub : Nat} {value : List Byte} : KeysHO (homeHigh owner secured idx sub value) := by
  unfold homeHigh
  dsimp only
  refine KeysHO.ite ?_ ?_
  · split
    · with_reducible exact keysHO_frame fun _ _ => segmentMaskHome_fr (.refl _ _)
    · exact keysHO_frame fun _ _ => channelRejoinHome_fr (.refl _ _)
    · exact keysHO_frame fun _ _ => marginHome_fr (.refl _ _)
    · exact keysHO_frame fun _ _ => retrainHome_fr (.refl _ _)
    · exact keysHO_none
  refine KeysHO.ite (keysHO_frame fun _ _ => engineRejoinHome_fr (.refl _ _)) ?_
  refine KeysHO.ite (keysHO_frame fun _ _ => guardHome_fr (.refl _ _)) ?_
  refine KeysHO.ite (keysHO_frame fun _ _ => portShaperHome_fr (.refl _ _)) ?_
  refine KeysHO.ite (keysHO_frame fun _ _ => baleKeyHome_fr (.refl _ _)) ?_
  refine KeysHO.ite (keysHO_frame fun _ _ => farRejoinHome_fr (.refl _ _)) ?_
  refine KeysHO.ite (keysHO_frame fun _ _ => deviceHome_fr (.refl _ _)) ?_
  refine KeysHO.ite (keysHO_frame fun _ _ => transferHome_fr (.refl _ _)) ?_
  refine KeysHO.ite (keysHO_some fun _ _ => ownerKeyHome_keys (.refl _)) ?_
  refine KeysHO.ite (keysHO_frame fun _ _ => policyHome_fr (.refl _ _)) ?_
  refine KeysHO.ite (keysHO_some fun _ _ => ownerHome_keys (.refl _)) ?_
  refine KeysHO.ite (keysHO_some fun _ _ => keyHome_keys (.refl _)) ?_
  refine KeysHO.ite (keysHO_some fun _ _ => verifyStageHome_keys (.refl _)) ?_
  refine KeysHO.ite (keysHO_frame fun _ _ => snapshotHome_fr (.refl _ _)) ?_
  refine KeysHO.ite (keysHO_frame fun _ _ => clearAllHome_fr (.refl _ _)) ?_
  refine KeysHO.ite (keysHO_frame fun _ _ => samplerHome_fr (.refl _ _)) ?_
  refine KeysHO.ite (keysHO_frame fun _ _ => filterHome_fr (.refl _ _)) ?_
  refine KeysHO.ite (keysHO_frame fun _ _ => consumedHome_fr (.refl _ _)) ?_
  refine KeysHO.ite (keysHO_frame fun _ _ => bankClearHome_fr (.refl _ _)) ?_
  refine KeysHO.ite (keysHO_frame fun _ _ => filterHome_fr (.refl _ _)) ?_
  refine KeysHO.ite (keysHO_frame fun _ _ => blockHome_fr (.refl _ _)) ?_
  refine KeysHO.ite (keysHO_frame fun _ _ => updateHome_fr (.refl _ _)) ?_
  refine KeysHO.ite (keysHO_frame fun _ _ => layerExcludeHome_fr (.refl _ _)) ?_
  refine KeysHO.ite (keysHO_frame fun _ _ => logicExcludeHome_fr (.refl _ _)) ?_
  refine KeysHO.ite (keysHO_frame fun _ _ => shutdownClearHome_fr (.refl _ _)) ?_
  refine KeysHO.ite (keysHO_frame fun _ _ => reconstituteHome_fr (.refl _ _)) ?_
  refine KeysHO.ite (keysHO_frame fun _ _ => copyBackHome_fr (.refl _ _)) ?_
  refine KeysHO.ite (keysHO_frame fun _ _ => spreadHome_fr (.refl _ _)) ?_
  exact keysHO_none

theorem homeOf_keys {α : State} {owner secured : Bool} {idx sub : Nat} {value : List Byte} {who : Completer} {s : State} (hyp : KeepsKeys α s) :
    KeysW α (homeOf owner secured idx sub value who s) := by
  refine KeysW.trans hyp ?_
  unfold homeOf
  cases e : homeLow owner idx sub value with
  | some h => exact homeLow_keys _ e who s
  | none =>
    cases e' : homeHigh owner secured idx sub value with
    | some h => simpa [e'] using homeHigh_keys _ e' who s
    | none => simpa [e'] using (settingHome_fr (.refl _ _)).keys (.refl s)

theorem carriedHome_keys {α : State} {ordered owner : Bool} {idx sub : Nat} {value : List Byte} {who : Completer} {s0 : State} (hyp : KeepsKeys α s0)
    : KeysW α (carriedHome ordered owner idx sub value who s0) := by
  unfold carriedHome
  split
  · exact (updateHome_fr (.refl _ _)).keys hyp
  · exact homeOf_keys hyp

theorem leadOrder_keys {α : State} {idx sub : Nat} {value : List Byte} {owner : Bool} {req : Option Req} {via : Nat} {home : Home} {s : State}
    (hyp : KeepsKeys α s) (hf_home : ∀ y0 y, KeysW y (home y0 y)) : KeepsKeys α (leadOrder idx sub value owner req via home s) := by
  unfold leadOrder
  extract_lets n value m1 s1 w
  have h1 : KeepsKeys α s1 := hyp
  have led : KeysW α (home (.order n) s1) := KeysW.trans h1 (hf_home _ _)
  split
  · rename_i st d t e
    exact (finishOrder_fr (.refl _ _)).keys (KeysW.of_refused e led)
  · rename_i t e
    exact (ackOrder_fr (.refl _ _)).keys (each_keys ((State.setWrites_fr (.refl _ _)).keys (KeysW.of_done e led)) fun _ _ =>
        (sendObject_fr (.refl _ _)).keys (.refl _))
  · rename_i t e
    exact each_keys ((State.setWrites_fr (.refl _ _)).keys (KeysW.of_wait e led)) fun _ _ => (sendObject_fr (.refl _ _)).keys (.refl _)

theorem settle_keys {α : State} {who : Completer} {r : WResult} (hyp : KeysW α r) : KeepsKeys α (settle who r) := by
  unfold settle
  split
  · exact (complete_fr (.refl _ _)).keys hyp
  · exact (complete_fr (.refl _ _)).keys hyp
  · exact hyp

theorem orderedWrite_keys {α : State} {req : Req} {setWide persisted : Bool} {idx sub : Nat} {value : List Byte} {home : Home} {s : State}
    (hyp : KeepsKeys α s) (hf_home : ∀ y0 y, KeysW y (home y0 y)) : KeepsKeys α (orderedWrite req setWide persisted idx sub value home s) := by
  unfold orderedWrite
  refine .ite (settle_keys (KeysW.trans hyp (hf_home _ _))) (.ite
      (.ite (settle_keys (KeysW.trans hyp (hf_home _ _))) ((answer_fr (.refl _ _)).keys hyp))
      (.ite (leadOrder_keys hyp (fun _ _ => KeysW.trans (.refl _) (hf_home _ _))) (.ite ?_ ((answer_fr (.refl _ _)).keys hyp))))
  split
  · exact (answer_fr (.refl _ _)).keys (.trans hyp (KeysW.of_refused ‹_› (hf_home _ _)))
  · exact (sendObject_fr (State.setWrites_fr (.refl _ _))).keys hyp

theorem carryOut_keys {α : State} {req : Req} {idx sub : Nat} {value : List Byte} {home : Home} {s : State} (hyp : KeepsKeys α s)
    (hf_home : ∀ y0 y, KeysW y (home y0 y)) : KeepsKeys α (carryOut req idx sub value home s) := by
  unfold carryOut
  split
  · exact (answer_fr (qosRefusal_fr (writeChecks_fr (.refl _ _) (by decide) _ _ _ ‹_›))).keys hyp
  · split
    · exact hyp
    · split
      · exact (answer_fr (qosRefusal_fr (.refl _ _))).keys hyp
      · exact orderedWrite_keys hyp (fun _ _ => KeysW.trans (.refl _) (hf_home _ _))

theorem negotiated_keys {α : State} {r : Req} {f : State → State} {s : State} (hyp : KeepsKeys α s) (hf_f : ∀ y, KeepsKeys y (f y)) : KeepsKeys α
    (negotiated r f s) := .ite ((spdmError_fr (.refl _ _)).keys hyp) (.trans hyp (hf_f _))

theorem chunkGetAct_keys {α : State} {r : Req} {seq : Nat} {a : State} (hyp : KeepsKeys α a) : KeepsKeys α (chunkGetAct r seq a) :=
    .ite ((spdmError_fr (.refl _ _)).keys hyp) ((spdmReply_fr (.refl _ _)).keys (State.setSpdm_keys hyp))

theorem chunkSendAct_keys {α : State} {r : Req} {seq : Nat} {last : Bool} {data : List Byte} {a : State} (hyp : KeepsKeys α a) : KeepsKeys α
    (chunkSendAct r seq last data a) := .ite ((spdmError_fr (.refl _ _)).keys hyp) ((spdmReply_fr (.refl _ _)).keys (State.setSpdm_keys hyp))

theorem heardFrom_keys {α : State} {req : Req} {s : State} (hyp : KeepsKeys α s) : KeepsKeys α (heardFrom req s) := by
  unfold heardFrom
  split
  · exact hyp
  · exact hyp

theorem countFrame_keys {α : State} {req : Req} {s : State} (hyp : KeepsKeys α s) : KeepsKeys α (countFrame req s) := by
  unfold countFrame
  dsimp only
  split
  · exact (State.bump_fr (.refl _ _)).keys (heardFrom_keys hyp)
  · exact (State.bump_fr (.refl _ _)).keys ((heardFrom_keys hyp))
  · exact heardFrom_keys hyp

theorem zeroSet_keys {α : State} {cause : ZeroCause} {s : State} (hyp : KeepsKeys α s) : KeepsKeys α (zeroSet cause s) :=
    .ite (startZero_keys hyp) (.ite (leadOrder_keys hyp (fun _ _ => startZero_keys (.refl _)))
    ((sendObject_fr (.refl _ _)).keys (startZero_keys hyp)))

theorem debugUnlock_keys {α : State} {i : Nat} {s : State} (hyp : KeepsKeys α s) : KeepsKeys α (debugUnlock i s) :=
    .ite hyp (.ite ((raiseNode_fr (.refl _ _)).keys hyp) (zeroSet_keys hyp))

theorem takeNow_keys {α : State} {req : Req} {act : State → State} {s : State} (hyp : KeepsKeys α s) (hf_act : ∀ y, KeepsKeys y (act y)) : KeepsKeys
    α (takeNow req act s) := .ite (beginRequest_keys (countFrame_keys hyp) (fun _ => .trans (.refl _) (hf_act _))) hyp

theorem takeRequest_keys {α : State} {req : Req} {i : RequestOp} {act : State → State} {s : State} (hyp : KeepsKeys α s)
    (hf_act : ∀ y, KeepsKeys y (act y)) : KeepsKeys α (takeRequest req i act s) :=
    .ite hyp (.ite ((noteSecond_fr (.refl _ _)).keys hyp) (.ite (.ite ((countFrame_keys hyp)) ((State.bump_fr (.refl _ _)).keys hyp))
    (takeNow_keys hyp (fun _ => .trans (.refl _) (hf_act _)))))

theorem dictWrite_keys {α : State} {req : Req} {idx sub : Nat} {value : List Byte} {home : Home} {s : State} (hyp : KeepsKeys α s)
    (hf_home : ∀ y0 y, KeysW y (home y0 y)) : KeepsKeys α (dictWrite req idx sub value home s) :=
    takeRequest_keys hyp (fun _ => carryOut_keys (.refl _) (fun _ _ => KeysW.trans (.refl _) (hf_home _ _)))

theorem segEnd_keys {α : State} {r : Req} {idx sub crc : Nat} {s : State} (hyp : KeepsKeys α s) : KeepsKeys α (segEnd r idx sub crc s) := by
  unfold segEnd
  split
  · exact (answer_fr (.refl _ _)).keys hyp
  · exact .ite ((answer_fr (.refl _ _)).keys hyp) (.ite ((answer_fr (.refl _ _)).keys
      (.ite ((raiseNode_fr (State.setSegments_fr (.refl _ _))).keys hyp) ((State.setSegments_fr (.refl _ _)).keys hyp)))
      (carryOut_keys ((State.setSegments_fr (.refl _ _)).keys hyp) (fun _ _ => homeOf_keys (.refl _))))

theorem writeHome_keys {α : State} {r : Req} {idx sub : Nat} {value : List Byte} {s : State} {who : Completer} {s0 : State} (hyp : KeepsKeys α s0) :
    KeysW α (writeHome r idx sub value s who s0) := by
  unfold writeHome
  split
  · exact hyp
  · exact homeOf_keys hyp

theorem windowRequest_keys {α : State} {m : List Byte} {s : State} (hyp : KeepsKeys α s) : KeepsKeys α (windowRequest m s) := by
  unfold windowRequest
  split
  · exact takeNow_keys hyp (fun _ => (readRequest_fr (.refl _ _)).keys (.refl _))
  · exact takeNow_keys hyp (fun _ => carryOut_keys (.refl _) (fun _ _ => writeHome_keys (.refl _)))
  · refine takeNow_keys hyp (fun _ => ?_)
    split
    · exact (segRead_fr (.refl _ _)).keys (.refl _)
    · exact (answer_fr (.refl _ _)).keys (.refl _)
  · refine takeNow_keys hyp (fun _ => ?_)
    split
    · exact (segStart_fr (.refl _ _)).keys (.refl _)
    · exact (answer_fr (.refl _ _)).keys (.refl _)
  · exact takeNow_keys hyp (fun _ => (segData_fr (.refl _ _)).keys (.refl _))
  · refine takeNow_keys hyp (fun _ => ?_)
    split
    · exact segEnd_keys (.refl _)
    · exact (answer_fr (.refl _ _)).keys (.refl _)
  · exact takeNow_keys hyp (fun _ => (segAbort_fr (.refl _ _)).keys (.refl _))
  · exact hyp

theorem doorbell_keys {α : State} {m : List Byte} {s : State} (hyp : KeepsKeys α s) : KeepsKeys α (doorbell m s) :=
    .ite hyp (.ite ((noteSecond_fr (.refl _ _)).keys hyp) (.ite ((raiseNode_fr (State.bump_fr (.refl _ _))).keys hyp)
    (.ite (.ite hyp ((State.bump_fr (.refl _ _)).keys hyp)) (windowRequest_keys hyp))))

theorem spdmBegin_keys {α : State} {r : Req} {f : State → State} {s : State} (hyp : KeepsKeys α s) (hf_f : ∀ y, KeepsKeys y (f y)) : KeepsKeys α
    (spdmBegin r f s) := .ite ((spdmError_fr (.refl _ _)).keys hyp) (.trans hyp (hf_f _))

theorem respondIfReadyAct_keys {α : State} {r : Req} {a : State} (hyp : KeepsKeys α a) : KeepsKeys α (respondIfReadyAct r a) := by
  unfold respondIfReadyAct
  split
  · exact (spdmReply_fr (.refl _ _)).keys (State.setSpdm_keys hyp)
  · exact (spdmError_fr (.refl _ _)).keys hyp

theorem updSession_keys {α : State} {id : Nat} {f : Session → Session} {s : State} (hyp : KeepsKeys α s) : KeepsKeys α (updSession id f s) :=
    State.setSec_keys hyp

theorem withSession_keys {α : State} {r : Req} {id : Nat} {f : Session → State → State} {s : State} (hyp : KeepsKeys α s)
    (hf_f : ∀ y0 y, KeepsKeys y (f y0 y)) : KeepsKeys α (withSession r id f s) := by
  unfold withSession
  split
  · exact .trans (updSession_keys hyp) (hf_f _ _)
  · exact (spdmError_fr (.refl _ _)).keys hyp

theorem endSessionAct_keys {α : State} {r : Req} {id : Nat} {a : State} (hyp : KeepsKeys α a) : KeepsKeys α (endSessionAct r id a) :=
    withSession_keys hyp (fun _ _ => endSession_keys ((spdmReply_fr (.refl _ _)).keys (.refl _)))

theorem keyUpdateAct_keys {α : State} {r : Req} {id : Nat} {a : State} (hyp : KeepsKeys α a) : KeepsKeys α (keyUpdateAct r id a) :=
    withSession_keys hyp (fun _ _ => (spdmReply_fr (.refl _ _)).keys (updSession_keys (.refl _)))

theorem heartbeatAct_keys {α : State} {r : Req} {id : Nat} {a : State} (hyp : KeepsKeys α a) : KeepsKeys α (heartbeatAct r id a) :=
    withSession_keys hyp (fun _ _ => (spdmReply_fr (.refl _ _)).keys (.refl _))

theorem finishAct_keys {α : State} {r : Req} {id : Nat} {ml : Bool} {signature : List Byte} {a : State} (hyp : KeepsKeys α a) : KeepsKeys α
    (finishAct r id ml signature a) := withSession_keys hyp (fun _ _ => .ite ((spdmError_fr (.refl _ _)).keys (.refl _))
    (.ite ((spdmReply_fr (.refl _ _)).keys (updSession_keys (.refl _)))
    (.ite ((spdmReply_fr (.refl _ _)).keys (updSession_keys (.refl _)))
    ((spdmError_fr (raiseNode_fr (State.bump_fr (.refl _ _)))).keys (endSession_keys (.refl _))))))

theorem keyExchangeAct_keys {α : State} {r : Req} {slot : Nat} {mutAuth : Bool} {a : State} (hyp : KeepsKeys α a) : KeepsKeys α
    (keyExchangeAct r slot mutAuth a) := by
  refine negotiated_keys hyp fun s => ?_
  have refused (e) : KeepsKeys s (spdmError r e s) := (spdmError_fr (.refl _ _)).keys (.refl s)
  exact .ite (refused _) (.ite (refused _) (.ite (refused _) ((spdmReply_fr (raiseNode_fr (.refl _ _))).keys (State.setSec_keys (.refl s)))))

theorem negotiateAlgorithmsAct_keys {α : State} {r : Req} {ecdsa mlDsa sha384 secp384 gcm : Bool} {a : State} (hyp : KeepsKeys α a) : KeepsKeys α
    (negotiateAlgorithmsAct r ecdsa mlDsa sha384 secp384 gcm a) :=
    .ite ((spdmError_fr (.refl _ _)).keys hyp) (.ite ((spdmError_fr (.refl _ _)).keys hyp) ((spdmReply_fr (.refl _ _)).keys (State.setSpdm_keys hyp)))

theorem getCapabilitiesAct_keys {α : State} {r : Req} {a : State} (hyp : KeepsKeys α a) : KeepsKeys α (getCapabilitiesAct r a) :=
    .ite ((spdmError_fr (.refl _ _)).keys hyp) ((spdmReply_fr (.refl _ _)).keys (State.setSpdm_keys hyp))

theorem getVersionAct_keys {α : State} {r : Req} {a : State} (hyp : KeepsKeys α a) : KeepsKeys α (getVersionAct r a) :=
    (spdmReply_fr (.refl _ _)).keys (State.setSpdm_keys hyp)

theorem spdmHeld_keys {α : State} {r : Req} {i : RequestOp} {s : State} (hyp : KeepsKeys α s) : KeepsKeys α (spdmHeld r i s) := by
  unfold spdmHeld
  split
  · exact spdmBegin_keys hyp (fun _ => getVersionAct_keys (.refl _))
  · exact spdmBegin_keys hyp (fun _ => getCapabilitiesAct_keys (.refl _))
  · exact spdmBegin_keys hyp (fun _ => negotiateAlgorithmsAct_keys (.refl _))
  · exact spdmBegin_keys hyp (fun _ => (getDigestsAct_fr (.refl _ _)).keys (.refl _))
  · exact spdmBegin_keys hyp (fun _ => (getCertificateAct_fr (.refl _ _)).keys (.refl _))
  · exact spdmBegin_keys hyp (fun _ => (challengeAct_fr (.refl _ _)).keys (.refl _))
  · exact spdmBegin_keys hyp (fun _ => (getMeasurementsAct_fr (.refl _ _)).keys (.refl _))
  · exact spdmBegin_keys hyp (fun _ => keyExchangeAct_keys (.refl _))
  · exact spdmBegin_keys hyp (fun _ => finishAct_keys (.refl _))
  · exact spdmBegin_keys hyp (fun _ => heartbeatAct_keys (.refl _))
  · exact spdmBegin_keys hyp (fun _ => keyUpdateAct_keys (.refl _))
  · exact spdmBegin_keys hyp (fun _ => endSessionAct_keys (.refl _))
  · exact spdmBegin_keys hyp (fun _ => respondIfReadyAct_keys (.refl _))
  · exact spdmBegin_keys hyp (fun _ => chunkSendAct_keys (.refl _))
  · exact spdmBegin_keys hyp (fun _ => chunkGetAct_keys (.refl _))
  · exact spdmBegin_keys hyp (fun _ => (spdmUnsupportedRequestAct_fr (.refl _ _)).keys (.refl _))
  · exact hyp

theorem heldAct_keys {α : State} {r : Req} {i : RequestOp} {s : State} (hyp : KeepsKeys α s) : KeepsKeys α (heldAct r i s) := by
  unfold heldAct
  split
  · exact carryOut_keys hyp (fun _ _ => writeHome_keys (.refl _))
  · exact (segStart_fr (.refl _ _)).keys hyp
  · exact (segData_fr (.refl _ _)).keys hyp
  · exact segEnd_keys hyp
  · exact (segAbort_fr (.refl _ _)).keys hyp
  · exact spdmHeld_keys hyp

theorem drainWaiting_keys {α s : State} (hyp : KeepsKeys α s) : KeepsKeys α (drainWaiting s) := by
  unfold drainWaiting
  split
  · exact hyp
  · exact beginRequest_keys hyp (fun _ => heldAct_keys (.refl _))

theorem endZero_keys {α : State} {cause : ZeroCause} {s : State} (hyp : KeepsKeys α s) : KeepsKeys α (endZero cause s) := by
  unfold endZero
  split
  · exact (raiseNode_fr (.refl _ _)).keys (State.setSec_keys ((writeOwner_fr (State.setOb_fr (blowEpoch_fr (.refl _ _)))).keys hyp))
  · exact (raiseNode_fr (.refl _ _)).keys (State.setSec_keys hyp)
  · exact State.setSec_keys hyp
  · exact (raiseNode_fr (.refl _ _)).keys (State.setSec_keys hyp)
  · exact .ite (((raiseNode_fr (.refl _ _)).keys (State.setSec_keys (State.setSec_keys hyp))))
      ((raiseNode_fr (.refl _ _)).keys (State.setSec_keys (State.setSec_keys hyp)))

theorem flowCheck_keys {α : State} {hdr : Hdr} {deliver : State → State} {s : State} (hyp : KeepsKeys α s)
    (hf_deliver : ∀ y, KeepsKeys y (deliver y)) : KeepsKeys α (flowCheck hdr deliver s) :=
    .ite (.trans ((State.setFlow_fr (.refl _ _)).keys hyp) (hf_deliver _)) (.ite ((State.bump_fr (.refl _ _)).keys hyp) hyp)

theorem hopCheck_keys {α : State} {h : Nat} {hdr : Hdr} {ok : Bool} {act : State → State} {s : State} (hyp : KeepsKeys α s)
    (hf_act : ∀ y, KeepsKeys y (act y)) : KeepsKeys α (hopCheck h hdr ok act s) :=
    .ite hyp (.ite ((malformedParcel_fr (heard_fr (.refl _ _))).keys hyp)
    (.ite (.ite ((sendHopAck_fr (.refl _ _)).keys (.trans ((countParcel_fr (State.bump_fr (State.setPort_fr (heard_fr (.refl _ _))))).keys hyp)
    (hf_act _))) (.trans ((countParcel_fr (State.bump_fr (State.setPort_fr (heard_fr (.refl _ _))))).keys hyp) (hf_act _)))
    (.ite ((State.bump_fr (heard_fr (.refl _ _))).keys hyp) ((linkReset_fr (heard_fr (.refl _ _))).keys hyp))))

theorem takeChecked_keys {α : State} {h : Nat} {hdr : Hdr} {body : List Byte} {ok : Bool} {deliver : State → State} {s : State} (hyp : KeepsKeys α s)
    (hf_deliver : ∀ y, KeepsKeys y (deliver y)) : KeepsKeys α (takeChecked h hdr body ok deliver s) :=
    .ite hyp (hopCheck_keys hyp (fun _ => .ite (flowCheck_keys (.refl _) (fun _ => .trans ((peerBack_fr (.refl _ _)).keys (.refl _)) (hf_deliver _)))
    ((relay_fr (.refl _ _)).keys (.refl _))))

theorem takeParcel_keys {α : State} {h : Nat} {hdr : Hdr} {body : List Byte} {deliver : State → State} {s : State} (hyp : KeepsKeys α s)
    (hf_deliver : ∀ y, KeepsKeys y (deliver y)) : KeepsKeys α (takeParcel h hdr body deliver s) :=
    takeChecked_keys hyp (fun _ => .trans (.refl _) (hf_deliver _))

theorem warmVerified_keys {α s : State} (hyp : KeepsKeys α s) : KeepsKeys α (warmVerified s) :=
    .ite hyp (enterConfig_keys (each_keys ((State.setCache_fr (.refl _ _)).keys hyp)
    (fun _ _ => (syncDepth_fr (State.bumpBy_fr (State.setChan_fr (.refl _ _)))).keys (.refl _))))

theorem selectImage_keys {α s : State} (hyp : KeepsKeys α s) : KeepsKeys α (selectImage s) :=
    .ite ((enterRecovery_fr (.refl _ _)).keys hyp) (.ite ((enterRecovery_fr (raiseNode_fr (.refl _ _))).keys hyp)
    (.ite (bootActive_keys hyp) (.ite (bootActive_keys ((updateRefused_fr (setStaging_fr (persistOwn_fr (.refl _ _)))).keys hyp))
    (.ite (bootActive_keys ((raiseNode_fr (.refl _ _)).keys hyp)) ((State.setUpd_fr (.refl _ _)).keys hyp)))))

theorem imageSelection_keys {α : State} {usable : Bool} {density mode : Nat} {s : State} (hyp : KeepsKeys α s) : KeepsKeys α
    (imageSelection usable density mode s) := .ite hyp (selectImage_keys
    ((setStaging_fr (.refl _ _)).keys (.ite ((loadRepairs_fr
    (loadPersisted_fr (readCopies_fr (State.setOb_fr (State.setOb_fr (State.setOb_fr (.refl _ _))))))).keys hyp)
    ((raiseNode_fr (State.setOb_fr (State.setOb_fr (State.setOb_fr (.refl _ _))))).keys hyp))))

theorem restartProc_keys {α : State} {i : ProcId} {s : State} (hyp : KeepsKeys α s) : KeepsKeys α (restartProc i s) := by
  refine .ite hyp (.ite ((enterHalted_fr (.refl _ _)).keys hyp) (singleFault_keys hyp fun s => ?_))
  have raised : KeepsKeys s (raise Ev.processorRestart (ProcId.code i) 0 s) := (raise_fr (.refl _ _)).keys (.refl s)
  exact .ite (endSessions_keys raised) raised

theorem wholeWrite_keys {α : State} {hdr : Hdr} {idx sub order : Nat} {value : List Byte} {s : State} (hyp : KeepsKeys α s) : KeepsKeys α
    (wholeWrite hdr idx sub order value s) := by
  unfold wholeWrite
  refine .ite (.ite ((reconcileSet_fr (.refl _ _)).keys hyp) (.ite (leadOrder_keys hyp (fun _ _ => carriedHome_keys (.refl _))) hyp))
      (.ite (.ite hyp ?_) (.ite ((complete_fr (.refl _ _)).keys hyp) (settle_keys (carriedHome_keys ((noteOrder_fr (.refl _ _)).keys hyp)))))
  split
  · exact KeysW.of_done ‹_› (carriedHome_keys ((noteOrder_fr (.refl _ _)).keys hyp))
  · exact KeysW.of_refused ‹_› (carriedHome_keys ((noteOrder_fr (.refl _ _)).keys hyp))
  · exact KeysW.of_wait ‹_› (carriedHome_keys ((noteOrder_fr (.refl _ _)).keys hyp))

theorem objectTaken_keys {α : State} {hdr : Hdr} {idx sub order : Nat} {value : List Byte} {s : State} (hyp : KeepsKeys α s) : KeepsKeys α
    (objectTaken hdr idx sub order value s) := .ite ((State.setWrites_fr (.refl _ _)).keys hyp)
    (wholeWrite_keys ((State.setWrites_fr (.refl _ _)).keys hyp))

theorem powerOn_keys {α s : State} (hyp : KeepsKeys α s) : KeepsKeys α (powerOn s) := .ite coldState_keys hyp

theorem rested_keys {α s : State} (hyp : KeepsKeys α s) : KeepsKeys α (rested s) := by
  unfold rested
  extract_lets deep x s1 y s2 s3 z s4 s5 s6 p s7 s8
  have h2 : KeepsKeys α s2 := (State.setCache_fr (stopProcs_fr (.refl _ _))).keys (State.setSec_keys hyp)
  have h3 : KeepsKeys α s3 := each_keys h2 fun _ _ => .ite ((State.setPort_fr (.refl _ _)).keys (.refl _)) (.refl _)
  have h5 : KeepsKeys α s5 := each_keys ((State.setClk_fr (.refl _ _)).keys h3) fun _ _ => (setDomain_fr (.refl _ _)).keys (.refl _)
  have h6 : KeepsKeys α s6 := .ite (each_keys h5 fun _ _ => (State.setOb_fr (.refl _ _)).keys (.refl _)) h5
  have h8 : KeepsKeys α s8 := (raiseNode_fr (State.setOb_fr (State.setPower_fr (.refl _ _)))).keys h6
  exact .ite ((beginWake_fr (.refl _ _)).keys h8) h8

theorem restStep_keys {α s : State} (hyp : KeepsKeys α s) : KeepsKeys α (restStep s) :=
    .ite hyp (.ite (rested_keys hyp) (each_keys (.ite ((setSpareMasks_fr (.refl _ _)).keys hyp) hyp)
    (fun _ _ => (drainChannel_fr (.refl _ _)).keys (.refl _))))

theorem slotCopied_keys {α s : State} (hyp : KeepsKeys α s) : KeepsKeys α (slotCopied s) :=
    .ite hyp (runActive_keys (.ite ((setNode_fr (raiseNode_fr
    (setStaging_fr (State.setOb_fr (unverify_fr (State.bumpBy_fr (persistOwn_fr (.refl _ _)))))))).keys hyp)
    ((raiseNode_fr (setStaging_fr (State.setOb_fr (unverify_fr (State.bumpBy_fr (persistOwn_fr (.refl _ _))))))).keys hyp)))

theorem wrapDebug_keys {α : State} {code w : Nat} {s : State} (hyp : KeepsKeys α s) : KeepsKeys α (wrapDebug code w s) :=
    .ite ((wrapFree_fr (.refl _ _)).keys hyp) (.ite ((State.setWrap_fr (serveAll_fr (.refl _ _))).keys
    (debugUnlock_keys ((State.setWrap_fr (State.takeFree_fr (.refl _ _))).keys hyp)))
    ((serveAll_fr (.refl _ _)).keys (debugUnlock_keys ((State.setWrap_fr (State.takeFree_fr (.refl _ _))).keys hyp))))

theorem reloadKeys_keys {α s : State} (hyp : KeepsKeys α s) : KeepsKeys α (reloadKeys s) := State.setSec_keys hyp

theorem warmResume_keys {α s : State} (hyp : KeepsKeys α s) : KeepsKeys α (warmResume s) :=
    .ite ((judgeRefresh_fr (enterService_fr (.refl _ _))).keys (reloadKeys_keys hyp)) hyp

theorem joinSelf_keys {α : State} {f : Nat} {s : State} (hyp : KeepsKeys α s) : KeepsKeys α (joinSelf f s) :=
    .ite ((raiseNode_fr (judgeRefresh_fr (enterService_fr (.refl _ _)))).keys
    (reloadKeys_keys ((settleJoined_fr (State.setSet_fr (adoptPlan_fr (State.setPlans_fr (.refl _ _))))).keys hyp))) hyp

theorem tide_keys {α s : State} (hyp : KeepsKeys α s) : KeepsKeys α (tide s) := by
  unfold tide
  extract_lets f s1 s2 p s3 s4 s5 s6 q s7 s8
  have h4 : KeepsKeys α s4 := (joinFar_fr (joinChannels_fr (joinSlices_fr (joinPorts_fr (State.setPlans_fr (applyPending_fr (frameBoundary_fr
    (.refl _ _)))))))).keys hyp
  have h5 : KeepsKeys α s5 := joinSelf_keys ((joinNodes_fr (.refl _ _)).keys h4)
  have h6 : KeepsKeys α s6 := each_keys ((resetPeaks_fr (resetPools_fr (.refl _ _))).keys h5) fun _ _ => (warnShort_fr (.refl _ _)).keys (.refl _)
  have h7 : KeepsKeys α s7 := (State.setPath_fr (.refl _ _)).keys h6
  have h8 : KeepsKeys α s8 := (armWindows_fr (.ite (tideSwitch_fr (.refl _ _)) (.refl _ _))).keys h7
  exact .ite hyp ((serveAll_fr (.refl _ _)).keys (warmResume_keys ((State.setPlans_fr (.refl _ _)).keys h8)))

theorem vcoreGood_keys {α s : State} (hyp : KeepsKeys α s) : KeepsKeys α (vcoreGood s) := by
  unfold vcoreGood
  extract_lets start clock u p
  have starts {m : Nat} {x : State} (h : KeepsKeys α x) : KeepsKeys α (start m x) := .ite ((State.setSource_fr (.refl _ _)).keys h) h
  have sources : KeepsKeys α u := .ite hyp (starts (starts ((State.setClk_fr (.refl _ _)).keys hyp)))
  exact .ite hyp (bootAdvance_keys ((State.setPower_fr (.refl _ _)).keys sources))

theorem vkeepLost_keys {α s : State} (hyp : KeepsKeys α s) : KeepsKeys α (vkeepLost s) := by
  unfold vkeepLost
  extract_lets c p q k
  have start : KeepsKeys α c := coldState_keys
  clear_value c
  exact .ite hyp start

theorem wakeDone_keys {α s : State} (hyp : KeepsKeys α s) : KeepsKeys α (wakeDone s) :=
    .ite hyp ((serveAll_fr (closePorts_fr (setNode_fr (ladderStep_fr (readAllSensors_fr (.refl _ _)))))).keys
    (reloadKeys_keys ((State.setPower_fr (.refl _ _)).keys (each_keys hyp
    (fun _ _ => .ite ((State.setPort_fr (.refl _ _)).keys (.refl _)) (.refl _))))))

theorem zeroPoisoned_keys {α s : State} (hyp : KeepsKeys α s) : KeepsKeys α (zeroPoisoned s) := by
  unfold zeroPoisoned
  dsimp only
  split
  · exact .ite (zeroAdvance_keys hyp) (endZero_keys ((raiseNode_fr (.refl _ _)).keys
      (each_keys (zeroAdvance_keys hyp) (fun _ _ => (fillGranule_fr (.refl _ _)).keys (.refl _)))))
  · exact zeroAdvance_keys hyp

theorem tick_keys {α : State} {s : State} (hyp : KeepsKeys α s) : KeepsKeys α (tick s) := by
  unfold tick
  extract_lets t1 t2 t3
  have h1 : KeepsKeys α t1 := hyp
  have h2 : KeepsKeys α t2 := each_keys h1 fun _ s => (tickPort_fr (.refl _ _)).keys (.refl s)
  have h3 : KeepsKeys α t3 := .ite h2 ((slotSums_fr (.refl _ _)).keys h2)
  exact drainWaiting_keys ((rebuildJournal_fr (tripStep_fr (.refl _ _))).keys h3)

end Sys2Proof.Machine

/-!
PROOF. The canonical form of the key store over every command and every step, and the settling of O23 (R382, R387).
-/
namespace Sys2Proof.Machine

-- One proof after another, each on a stack of its own, for the check's memory.
set_option Elab.async false

/-- The next state of a meaning, where it answers one, keeps it. -/
def KeysR (a : State) : Res → Prop
  | .next t => KeepsKeys a t
  | .fault _ => True
  | .refused _ => True

theorem KeysR.of_next {a t : State} {r : Res} (e : r = .next t) (k : KeysR a r) : KeepsKeys a t := by
  subst e
  exact k

theorem FrR.keys {s : State} {r : Res} (k : FrR 134216703 s r) : KeysR s r := by
  cases r with
  | next t => exact Fr.keys k (.refl s)
  | fault => trivial
  | refused => trivial

section
variable {s : State} {r : Req}

/-- A dictionary write whose home operation does not write the security state. -/
theorem dictWrite_frame {idx sub : Nat} {value : List Byte} {home : Home} (k : ∀ who u, FrW 134216703 u (home who u)) :
    KeepsKeys s (dictWrite r idx sub value home s) :=
  dictWrite_keys (.refl s) fun who u => (k who u).keys (.refl u)

theorem spdmTake_keys {i : RequestOp} {act : State → State} (k : ∀ u, KeepsKeys u (act u)) : KeysR s (spdmTake r i act s) :=
  takeRequest_keys (.refl s) fun _ => spdmBegin_keys (.refl _) k

/-- An SPDM request whose action does not write the security state. -/
theorem spdmTake_frame {i : RequestOp} {act : State → State} (k : ∀ u, Fr 134216703 u (act u)) : KeysR s (spdmTake r i act s) :=
  spdmTake_keys fun u => (k u).keys (.refl u)

theorem keyWrite_keys {op slot : Nat} {world : Bool} : KeysR s (keyWrite r op world slot s) :=
  dictWrite_keys (.refl s) fun _ _ => keyHome_keys (.refl _)

theorem execObjectWrite_keys {h idx sub order : Nat} {hdr : Hdr} {value : List Byte} : KeysR s (execObjectWrite h hdr idx sub order value s) := by
  unfold execObjectWrite
  split
  · exact takeParcel_keys (.refl s) fun _ => objectTaken_keys (.refl _)
  · trivial

theorem execSensorExclude_keys {logic : Bool} {st part mask : Nat} : KeysR s (execSensorExclude r logic st part mask s) := by
  unfold execSensorExclude
  split
  · exact dictWrite_frame fun _ _ => logicExcludeHome_fr (.refl _ _)
  · exact dictWrite_frame fun _ _ => layerExcludeHome_fr (.refl _ _)

theorem execSessionIdleTimeout_keys {id : Nat} : KeysR s (execSessionIdleTimeout id s) := by
  unfold execSessionIdleTimeout
  show KeepsKeys s _
  split
  · exact .ite (endSession_keys (.refl s)) (.refl s)
  · exact .refl s

end

/-- Every command keeps the canonical form of the key store. -/
theorem exec_keys {s : State} (i : Instr) : KeysR s (exec i s) :=
  match i with
  | .powerOnReset => powerOn_keys (.refl _)
  | .vkeepLoss => vkeepLost_keys (.refl _)
  | .vcoreGood => vcoreGood_keys (.refl _)
  | .supplyLoss .. => (execSupplyLoss_fr (.refl _ _)).keys
  | .setReset => .ite (.refl _) (setReset_keys (.refl _))
  | .warmReset .. => dictWrite_keys (.refl _) fun _ _ => warmHome_keys (.refl _)
  | .stateRequestReady .. => dictWrite_keys (.refl _) fun _ _ => stateHome_keys (.refl _)
  | .stateRequestRest .. => dictWrite_keys (.refl _) fun _ _ => stateHome_keys (.refl _)
  | .stateRequestDeep .. => dictWrite_keys (.refl _) fun _ _ => stateHome_keys (.refl _)
  | .configBlockersClear => (execConfigBlockersClear_fr (.refl _ _)).keys
  | .restEntryDrained => restStep_keys (.refl _)
  | .wakeExitComplete => wakeDone_keys (.refl _)
  | .unretainedChannelTimeout .. => (execUnretainedChannelTimeout_fr (.refl _ _)).keys
  | .unretainedPoisonFillDone .. => (execUnretainedPoisonFillDone_fr (.refl _ _)).keys
  | .checkerSelfTestDone .. => (execCheckerSelfTestDone_fr (.refl _ _)).keys
  | .nodeRejoin .. => dictWrite_frame fun _ _ => nodeRejoinHome_fr (.refl _ _)
  | .processorWatchdogExpiry .. => .ite (.refl _) (restartProc_keys (.refl _))
  | .processorFault .. => .ite (.refl _) (restartProc_keys (.refl _))
  | .keeperWatchdogExpiry => restartProc_keys (.refl _)
  | .processorRestartDone .. => (execProcessorRestartDone_fr (.refl _ _)).keys
  | .restartLimitExpiry .. => (execRestartLimitExpiry_fr (.refl _ _)).keys
  | .dictionaryWrite .. => dictWrite_keys (.refl _) fun _ _ => writeHome_keys (.refl _)
  | .regionDescriptorWrite .. => dictWrite_frame fun _ _ => regionHome_fr (.refl _ _)
  | .planLoad .. => dictWrite_frame fun _ _ => planHome_fr (.refl _ _)
  | .planArm .. => dictWrite_frame fun _ _ => planHome_fr (.refl _ _)
  | .planStop .. => dictWrite_frame fun _ _ => planHome_fr (.refl _ _)
  | .planDiscard .. => dictWrite_frame fun _ _ => planHome_fr (.refl _ _)
  | .planDisarm .. => dictWrite_frame fun _ _ => planHome_fr (.refl _ _)
  | .planImageChecked .. => (execPlanImageChecked_fr (.refl _ _)).keys
  | .planLoadTimeout => (execPlanLoadTimeout_fr (.refl _ _)).keys
  | .frameBoundary => (execFrameBoundary_fr (.refl _ _)).keys
  | .tide => tide_keys (.refl _)
  | .tidePreparePoint => (execTidePreparePoint_fr (.refl _ _)).keys
  | .commitPoint => (execCommitPoint_fr (.refl _ _)).keys
  | .tideDecisionMissing => (execTideDecisionMissing_fr (.refl _ _)).keys
  | .tideSwitchRetired => (execTideSwitchRetired_fr (.refl _ _)).keys
  | .tideIntervalWrite .. => dictWrite_frame fun _ _ => intervalHome_fr (.refl _ _)
  | .fenceClear .. => dictWrite_frame fun _ _ => fenceClearHome_fr (.refl _ _)
  | .channelSlot .. => (execChannelSlot_fr (.refl _ _)).keys
  | .streamEnd .. => (execStreamEnd_fr (.refl _ _)).keys
  | .streamSeta .. => (execStreamSeta_fr (.refl _ _)).keys
  | .streamSetd .. => (execStreamSetd_fr (.refl _ _)).keys
  | .streamMove .. => (execStreamMove_fr (.refl _ _)).keys
  | .streamSkip .. => (execStreamSkip_fr (.refl _ _)).keys
  | .streamMask .. => (execStreamMask_fr (.refl _ _)).keys
  | .streamWait .. => (execStreamWait_fr (.refl _ _)).keys
  | .streamSignal .. => (execStreamSignal_fr (.refl _ _)).keys
  | .streamRepeat .. => (execStreamRepeat_fr (.refl _ _)).keys
  | .streamFmt .. => (execStreamFmt_fr (.refl _ _)).keys
  | .maskReadDone .. => (execMaskReadDone_fr (.refl _ _)).keys
  | .waitSatisfied .. => (execWaitSatisfied_fr (.refl _ _)).keys
  | .drainBeat .. => (execDrainBeat_fr (.refl _ _)).keys
  | .feedCreditReturn .. => (execFeedCreditReturn_fr (.refl _ _)).keys
  | .landedBeat .. => (execLandedBeat_fr (.refl _ _)).keys
  | .upBeatDiscarded .. => (execUpBeatDiscarded_fr (.refl _ _)).keys
  | .feedPortTimeout .. => (execFeedPortTimeout_fr (.refl _ _)).keys
  | .portReadyWithdrawn .. => (execPortReadyWithdrawn_fr (.refl _ _)).keys
  | .portReadyAsserted .. => (execPortReadyAsserted_fr (.refl _ _)).keys
  | .stallTimeout .. => (execStallTimeout_fr (.refl _ _)).keys
  | .fenceRequest .. => dictWrite_frame fun _ _ => fenceRequestHome_fr (.refl _ _)
  | .engineFault .. => (execEngineFault_fr (.refl _ _)).keys
  | .portRejoin .. => dictWrite_frame fun _ _ => portRejoinHome_fr (.refl _ _)
  | .engineRejoin .. => dictWrite_frame fun _ _ => engineRejoinHome_fr (.refl _ _)
  | .drainLineNarrowed .. => (execDrainLineNarrowed_fr (.refl _ _)).keys
  | .escapeReadDone => (execEscapeReadDone_fr (.refl _ _)).keys
  | .poolReset .. => dictWrite_frame fun _ _ => poolResetHome_fr (.refl _ _)
  | .beyondBoundClear .. => dictWrite_frame fun _ _ => beyondClearHome_fr (.refl _ _)
  | .standingEntryWrite .. => dictWrite_frame fun _ _ => standingHome_fr (.refl _ _)
  | .formatUnitFault .. => (execFormatUnitFault_fr (.refl _ _)).keys
  | .unitRejoin .. => dictWrite_frame fun _ _ => unitRejoinHome_fr (.refl _ _)
  | .openRead .. => (execOpenRead_fr (.refl _ _)).keys
  | .openWrite .. => (execOpenWrite_fr (.refl _ _)).keys
  | .openWiden .. => (execOpenWiden_fr (.refl _ _)).keys
  | .atomicSwap .. => (execAtomicSwap_fr (.refl _ _)).keys
  | .atomicCas .. => (execAtomicCas_fr (.refl _ _)).keys
  | .atomicAdd .. => (execAtomicAdd_fr (.refl _ _)).keys
  | .atomicAnd .. => (execAtomicAnd_fr (.refl _ _)).keys
  | .atomicOr .. => (execAtomicOr_fr (.refl _ _)).keys
  | .atomicXor .. => (execAtomicXor_fr (.refl _ _)).keys
  | .atomicSmin .. => (execAtomicSmin_fr (.refl _ _)).keys
  | .atomicSmax .. => (execAtomicSmax_fr (.refl _ _)).keys
  | .atomicUmin .. => (execAtomicUmin_fr (.refl _ _)).keys
  | .atomicUmax .. => (execAtomicUmax_fr (.refl _ _)).keys
  | .atomicFadd .. => (execAtomicFadd_fr (.refl _ _)).keys
  | .atomicFmin .. => (execAtomicFmin_fr (.refl _ _)).keys
  | .atomicFmax .. => (execAtomicFmax_fr (.refl _ _)).keys
  | .atomicIncwrap .. => (execAtomicIncwrap_fr (.refl _ _)).keys
  | .atomicRead .. => (execAtomicRead_fr (.refl _ _)).keys
  | .atomicFlush .. => (execAtomicFlush_fr (.refl _ _)).keys
  | .reduce .. => (execReduce_fr (.refl _ _)).keys
  | .contributionApply .. => (execContributionApply_fr (.refl _ _)).keys
  | .reduceTimeout => (execReduceTimeout_fr (.refl _ _)).keys
  | .closedRecordExpiry => (execClosedRecordExpiry_fr (.refl _ _)).keys
  | .syncRead .. => (execSyncRead_fr (.refl _ _)).keys
  | .syncSet .. => (execSyncSet_fr (.refl _ _)).keys
  | .syncAdd .. => (execSyncAdd_fr (.refl _ _)).keys
  | .syncSignal .. => (execSyncSignal_fr (.refl _ _)).keys
  | .syncWait .. => (execSyncWait_fr (.refl _ _)).keys
  | .syncReset .. => (execSyncReset_fr (.refl _ _)).keys
  | .syncWaitTimeout => (execSyncWaitTimeout_fr (.refl _ _)).keys
  | .syncObjectWrite .. => dictWrite_frame fun _ _ => syncObjectHome_fr (.refl _ _)
  | .cacheMissFill => (execCacheMissFill_fr (.refl _ _)).keys
  | .writebackAgeExpiry => (execWritebackAgeExpiry_fr (.refl _ _)).keys
  | .flushAll .. => dictWrite_frame fun _ _ => flushAllHome_fr (.refl _ _)
  | .writeBackAccepted .. => (execWriteBackAccepted_fr (.refl _ _)).keys
  | .sliceFault .. => (execSliceFault_fr (.refl _ _)).keys
  | .sliceTakenOver .. => (execSliceTakenOver_fr (.refl _ _)).keys
  | .sliceRejoin .. => dictWrite_frame fun _ _ => sliceRejoinHome_fr (.refl _ _)
  | .refreshIntervalTick .. => (execRefreshIntervalTick_fr (.refl _ _)).keys
  | .refreshClassChange .. => (execRefreshClassChange_fr (.refl _ _)).keys
  | .selfRefreshEntry .. => (execSelfRefreshEntry_fr (.refl _ _)).keys
  | .selfRefreshExit .. => (execSelfRefreshExit_fr (.refl _ _)).keys
  | .deepSegmentPoisonDone .. => (execDeepSegmentPoisonDone_fr (.refl _ _)).keys
  | .channelFault .. => (execChannelFault_fr (.refl _ _)).keys
  | .channelRecovered .. => (execChannelRecovered_fr (.refl _ _)).keys
  | .channelRecoveryTimeout .. => (execChannelRecoveryTimeout_fr (.refl _ _)).keys
  | .channelRejoin .. => dictWrite_frame fun _ _ => channelRejoinHome_fr (.refl _ _)
  | .fillReadReturn .. => (execFillReadReturn_fr (.refl _ _)).keys
  | .readReturn .. => (execReadReturn_fr (.refl _ _)).keys
  | .writeConfirm .. => (execWriteConfirm_fr (.refl _ _)).keys
  | .alertSampled .. => (execAlertSampled_fr (.refl _ _)).keys
  | .missingDataBeats .. => (execMissingDataBeats_fr (.refl _ _)).keys
  | .offerHoldExpiry => (execOfferHoldExpiry_fr (.refl _ _)).keys
  | .queueEntryGrant .. => (execQueueEntryGrant_fr (.refl _ _)).keys
  | .completionDelivery .. => (execCompletionDelivery_fr (.refl _ _)).keys
  | .regulatorWindowStart .. => (execRegulatorWindowStart_fr (.refl _ _)).keys
  | .panicInputTaken .. => (execPanicInputTaken_fr (.refl _ _)).keys
  | .panicStuck .. => (execPanicStuck_fr (.refl _ _)).keys
  | .panicReleased .. => (execPanicReleased_fr (.refl _ _)).keys
  | .degradeStepEnd .. => (execDegradeStepEnd_fr (.refl _ _)).keys
  | .qosStateFault .. => (execQosStateFault_fr (.refl _ _)).keys
  | .recoveryRecordFreed .. => (execRecoveryRecordFreed_fr (.refl _ _)).keys
  | .rereadReturn .. => (execRereadReturn_fr (.refl _ _)).keys
  | .restoreReadDone .. => (execRestoreReadDone_fr (.refl _ _)).keys
  | .gleanerSlow .. => (execGleanerSlow_fr (.refl _ _)).keys
  | .trackerAgeExpiry .. => (execTrackerAgeExpiry_fr (.refl _ _)).keys
  | .healWriteConfirmed .. => (execHealWriteConfirmed_fr (.refl _ _)).keys
  | .rowMoveStart .. => (execRowMoveStart_fr (.refl _ _)).keys
  | .rowMoveBufferComplete .. => (execRowMoveBufferComplete_fr (.refl _ _)).keys
  | .rowMoveConfirmed .. => (execRowMoveConfirmed_fr (.refl _ _)).keys
  | .reconstitute .. => dictWrite_frame fun _ _ => reconstituteHome_fr (.refl _ _)
  | .displacingDone => (execDisplacingDone_fr (.refl _ _)).keys
  | .reconstitutionDone => (execReconstitutionDone_fr (.refl _ _)).keys
  | .copyBack .. => dictWrite_frame fun _ _ => copyBackHome_fr (.refl _ _)
  | .copyBackDone => (execCopyBackDone_fr (.refl _ _)).keys
  | .journalCopyFault .. => (execJournalCopyFault_fr (.refl _ _)).keys
  | .journalRebuildDone => (execJournalRebuildDone_fr (.refl _ _)).keys
  | .journalLost => (execJournalLost_fr (.refl _ _)).keys
  | .logicSensorRead .. => (execLogicSensorRead_fr (.refl _ _)).keys
  | .sensorNoReading .. => (execSensorNoReading_fr (.refl _ _)).keys
  | .sensorExclude .. => execSensorExclude_keys
  | .hardwareComparator => (execHardwareComparator_fr (.refl _ _)).keys
  | .throttleAckToggle => (execThrottleAckToggle_fr (.refl _ _)).keys
  | .throttleAckMissing => (execThrottleAckMissing_fr (.refl _ _)).keys
  | .graceExpired .. => (execGraceExpired_fr (.refl _ _)).keys
  | .graceRearm .. => (execGraceRearm_fr (.refl _ _)).keys
  | .haltedSensorCheck .. => (execHaltedSensorCheck_fr (.refl _ _)).keys
  | .trafficResumed .. => (execTrafficResumed_fr (.refl _ _)).keys
  | .shutdownRecordWritten => (execShutdownRecordWritten_fr (.refl _ _)).keys
  | .cooledRestart => (execCooledRestart_fr (.refl _ _)).keys
  | .shutdownClear .. => dictWrite_frame fun _ _ => shutdownClearHome_fr (.refl _ _)
  | .thermalFlagAlert .. => (execThermalFlagAlert_fr (.refl _ _)).keys
  | .fullTrainingDone .. => (execFullTrainingDone_fr (.refl _ _)).keys
  | .trainingTimeout .. => (execTrainingTimeout_fr (.refl _ _)).keys
  | .restoredTrainingDone .. => (execRestoredTrainingDone_fr (.refl _ _)).keys
  | .tapStepConfirmed .. => (execTapStepConfirmed_fr (.refl _ _)).keys
  | .stepTimeout .. => (execStepTimeout_fr (.refl _ _)).keys
  | .retrainRoundStart .. => (execRetrainRoundStart_fr (.refl _ _)).keys
  | .groupRetrainDone .. => (execGroupRetrainDone_fr (.refl _ _)).keys
  | .marginRequest .. => dictWrite_frame fun _ _ => marginHome_fr (.refl _ _)
  | .marginDone .. => (execMarginDone_fr (.refl _ _)).keys
  | .retrainRequest .. => dictWrite_frame fun _ _ => retrainHome_fr (.refl _ _)
  | .hello .. => (execHello_fr (.refl _ _)).keys
  | .joinTimeout .. => (execJoinTimeout_fr (.refl _ _)).keys
  | .formationTimeout => (execFormationTimeout_fr (.refl _ _)).keys
  | .member .. => (execMember_fr (.refl _ _)).keys
  | .formed .. => (execFormed_fr (.refl _ _)).keys
  | .frameEpoch => (execFrameEpoch_fr (.refl _ _)).keys
  | .lost .. => (execLost_fr (.refl _ _)).keys
  | .linkState .. => (execLinkState_fr (.refl _ _)).keys
  | .flowReset .. => (execFlowReset_fr (.refl _ _)).keys
  | .prepare .. => (execPrepare_fr (.refl _ _)).keys
  | .vote .. => (execVote_fr (.refl _ _)).keys
  | .commitTide .. => (execCommitTide_fr (.refl _ _)).keys
  | .deferTide .. => (execDeferTide_fr (.refl _ _)).keys
  | .objectWrite .. => execObjectWrite_keys
  | .warmResetParcel .. => (execWarmResetParcel_fr (.refl _ _)).keys
  | .rejoin .. => (execRejoin_fr (.refl _ _)).keys
  | .requestParcel .. => (execRequestParcel_fr (.refl _ _)).keys
  | .completionParcel .. => (execCompletionParcel_fr (.refl _ _)).keys
  | .acceptParcel .. => (execAcceptParcel_fr (.refl _ _)).keys
  | .doneParcel .. => (execDoneParcel_fr (.refl _ _)).keys
  | .notice .. => (execNotice_fr (.refl _ _)).keys
  | .timeParcel .. => (execTimeParcel_fr (.refl _ _)).keys
  | .keepalive .. => (execKeepalive_fr (.refl _ _)).keys
  | .hopAck .. => (execHopAck_fr (.refl _ _)).keys
  | .parcelMalformed .. => (execParcelMalformed_fr (.refl _ _)).keys
  | .parcelTransmit .. => (execParcelTransmit_fr (.refl _ _)).keys
  | .keepaliveSendTimer .. => (execKeepaliveSendTimer_fr (.refl _ _)).keys
  | .hopAckSendTimer .. => (execHopAckSendTimer_fr (.refl _ _)).keys
  | .timeSendTimer .. => (execTimeSendTimer_fr (.refl _ _)).keys
  | .linkSilent .. => (execLinkSilent_fr (.refl _ _)).keys
  | .linkReset .. => (execLinkReset_fr (.refl _ _)).keys
  | .retrainLimitExpiry .. => (execRetrainLimitExpiry_fr (.refl _ _)).keys
  | .warmResetLimitExpiry .. => (execWarmResetLimitExpiry_fr (.refl _ _)).keys
  | .timeOffset => (execTimeOffset_fr (.refl _ _)).keys
  | .timeUnsynchronised => (execTimeUnsynchronised_fr (.refl _ _)).keys
  | .coalesceAgeExpiry => (execCoalesceAgeExpiry_fr (.refl _ _)).keys
  | .baleWriteDone .. => (execBaleWriteDone_fr (.refl _ _)).keys
  | .baleReadDone .. => (execBaleReadDone_fr (.refl _ _)).keys
  | .baleReadTimeout .. => (execBaleReadTimeout_fr (.refl _ _)).keys
  | .transferSubmit .. => dictWrite_frame fun _ _ => transferHome_fr (.refl _ _)
  | .transferStart .. => (execTransferStart_fr (.refl _ _)).keys
  | .transferDone .. => (execTransferDone_fr (.refl _ _)).keys
  | .ledgerZeroingDone => (execLedgerZeroingDone_fr (.refl _ _)).keys
  | .farPortDown => (execFarPortDown_fr (.refl _ _)).keys
  | .farPortRejoin .. => dictWrite_frame fun _ _ => farRejoinHome_fr (.refl _ _)
  | .generateXts .. => keyWrite_keys
  | .generateGcm .. => keyWrite_keys
  | .importVerify .. => keyWrite_keys
  | .erase .. => keyWrite_keys
  | .claim .. => dictWrite_keys (.refl _) fun _ _ => ownerHome_keys (.refl _)
  | .transferOwner .. => dictWrite_keys (.refl _) fun _ _ => ownerHome_keys (.refl _)
  | .release .. => dictWrite_keys (.refl _) fun _ _ => ownerHome_keys (.refl _)
  | .zeroise .. => dictWrite_keys (.refl _) fun _ _ => ownerHome_keys (.refl _)
  | .zeroisationPoisonDone => (serveAll_fr (.refl _ _)).keys (zeroPoisoned_keys (.refl _))
  | .getVersion .. => spdmTake_keys fun _ => getVersionAct_keys (.refl _)
  | .getCapabilities .. => spdmTake_keys fun _ => getCapabilitiesAct_keys (.refl _)
  | .negotiateAlgorithms .. => spdmTake_keys fun _ => negotiateAlgorithmsAct_keys (.refl _)
  | .getDigests .. => spdmTake_frame fun _ => getDigestsAct_fr (.refl _ _)
  | .getCertificate .. => spdmTake_frame fun _ => getCertificateAct_fr (.refl _ _)
  | .challenge .. => spdmTake_frame fun _ => challengeAct_fr (.refl _ _)
  | .getMeasurements .. => spdmTake_frame fun _ => getMeasurementsAct_fr (.refl _ _)
  | .keyExchange .. => spdmTake_keys fun _ => keyExchangeAct_keys (.refl _)
  | .finish .. => spdmTake_keys fun _ => finishAct_keys (.refl _)
  | .heartbeat .. => spdmTake_keys fun _ => heartbeatAct_keys (.refl _)
  | .keyUpdate .. => spdmTake_keys fun _ => keyUpdateAct_keys (.refl _)
  | .endSession .. => spdmTake_keys fun _ => endSessionAct_keys (.refl _)
  | .respondIfReady .. => spdmTake_keys fun _ => respondIfReadyAct_keys (.refl _)
  | .chunkSend .. => spdmTake_keys fun _ => chunkSendAct_keys (.refl _)
  | .chunkGet .. => spdmTake_keys fun _ => chunkGetAct_keys (.refl _)
  | .spdmUnsupportedRequest .. => spdmTake_frame fun _ => spdmUnsupportedRequestAct_fr (.refl _ _)
  | .sessionIdleTimeout .. => execSessionIdleTimeout_keys
  | .debugUnlock .. => .ite ((serveAll_fr (.refl _ _)).keys (debugUnlock_keys (.refl _))) (.refl _)
  | .slackMeasurement .. => (execSlackMeasurement_fr (.refl _ _)).keys
  | .slackCleared => (execSlackCleared_fr (.refl _ _)).keys
  | .vreqLowerTimer => (execVreqLowerTimer_fr (.refl _ _)).keys
  | .clockMonitorWindow .. => (execClockMonitorWindow_fr (.refl _ _)).keys
  | .sourceStable .. => (execSourceStable_fr (.refl _ _)).keys
  | .fallbackTimeout .. => (execFallbackTimeout_fr (.refl _ _)).keys
  | .dividerStep .. => (execDividerStep_fr (.refl _ _)).keys
  | .refBAbsent => (execRefBAbsent_fr (.refl _ _)).keys
  | .ksoTrimMeasurement .. => (execKsoTrimMeasurement_fr (.refl _ _)).keys
  | .oscTrimStale => (execOscTrimStale_fr (.refl _ _)).keys
  | .clockEnableWrite .. => dictWrite_frame fun _ _ => enableHome_fr (.refl _ _)
  | .crossingReset .. => (execCrossingReset_fr (.refl _ _)).keys
  | .crossingReopened .. => (execCrossingReopened_fr (.refl _ _)).keys
  | .segStart .. => takeRequest_keys (.refl _) fun _ => (segStart_fr (.refl _ _)).keys (.refl _)
  | .segData .. => takeRequest_keys (.refl _) fun _ => (segData_fr (.refl _ _)).keys (.refl _)
  | .segEnd .. => takeRequest_keys (.refl _) fun _ => segEnd_keys (.refl _)
  | .segAbort .. => takeRequest_keys (.refl _) fun _ => (segAbort_fr (.refl _ _)).keys (.refl _)
  | .sessionDropped .. => (execSessionDropped_fr (.refl _ _)).keys
  | .frameMalformed => (execFrameMalformed_fr (.refl _ _)).keys
  | .receiveBufferFull => (execReceiveBufferFull_fr (.refl _ _)).keys
  | .notifyResponse .. => (execNotifyResponse_fr (.refl _ _)).keys
  | .notifyRetryTimer .. => (execNotifyRetryTimer_fr (.refl _ _)).keys
  | .heartbeatTimer => (execHeartbeatTimer_fr (.refl _ _)).keys
  | .partnerHeartbeat .. => (execPartnerHeartbeat_fr (.refl _ _)).keys
  | .partnerLost => (execPartnerLost_fr (.refl _ _)).keys
  | .plcaStatusChange .. => (execPlcaStatusChange_fr (.refl _ _)).keys
  | .doorbell .. => doorbell_keys (.refl _)
  | .rspAck => (execRspAck_fr (.refl _ _)).keys
  | .ringPop => (execRingPop_fr (.refl _ _)).keys
  | .alarmClear .. => dictWrite_frame fun _ _ => applyHome_fr (.refl _ _) fun _ => clearAlarm_fr (.refl _ _)
  | .logClear .. => dictWrite_frame fun _ _ => applyHome_fr (.refl _ _) fun _ => clearLog_fr (.refl _ _)
  | .mirrorClear .. => dictWrite_frame fun _ _ => applyHome_fr (.refl _ _) fun _ => clearMirror_fr (.refl _ _)
  | .nvmRecordWrite .. => (execNvmRecordWrite_fr (.refl _ _)).keys
  | .nvmWriteFailed .. => (execNvmWriteFailed_fr (.refl _ _)).keys
  | .persistGatherTimer => (execPersistGatherTimer_fr (.refl _ _)).keys
  | .updateBegin .. => dictWrite_frame fun _ _ => updateHome_fr (.refl _ _)
  | .updateVerify .. => dictWrite_frame fun _ _ => updateHome_fr (.refl _ _)
  | .updateActivate .. => dictWrite_frame fun _ _ => updateHome_fr (.refl _ _)
  | .updateDiscard .. => dictWrite_frame fun _ _ => updateHome_fr (.refl _ _)
  | .verificationDone => (execVerificationDone_fr (.refl _ _)).keys
  | .imageSelection .. => imageSelection_keys (.refl _)
  | .slotCopyDone => slotCopied_keys (.refl _)
  | .snapshotRequest .. => dictWrite_frame fun _ _ => snapshotHome_fr (.refl _ _)
  | .snapshotCapture => (execSnapshotCapture_fr (.refl _ _)).keys
  | .bankClear .. => dictWrite_frame fun _ _ => bankClearHome_fr (.refl _ _)
  | .clearAll .. => dictWrite_frame fun _ _ => clearAllHome_fr (.refl _ _)
  | .bankFilterWrite .. => dictWrite_frame fun _ _ => filterHome_fr (.refl _ _)
  | .sampleControlWrite .. => dictWrite_frame fun _ _ => samplerHome_fr (.refl _ _)
  | .lfsrSeedWrite .. => dictWrite_frame fun _ _ => samplerHome_fr (.refl _ _)
  | .consumedWrite .. => dictWrite_frame fun _ _ => consumedHome_fr (.refl _ _)
  | .layerAct .. => (execLayerAct_fr (.refl _ _)).keys
  | .layerPre .. => (execLayerPre_fr (.refl _ _)).keys
  | .layerPreab .. => (execLayerPreab_fr (.refl _ _)).keys
  | .layerMrwb .. => (execLayerMrwb_fr (.refl _ _)).keys
  | .layerMrw .. => (execLayerMrw_fr (.refl _ _)).keys
  | .layerSre .. => (execLayerSre_fr (.refl _ _)).keys
  | .layerSrx .. => (execLayerSrx_fr (.refl _ _)).keys
  | .layerRpr .. => (execLayerRpr_fr (.refl _ _)).keys
  | .hardRepairDone .. => (execHardRepairDone_fr (.refl _ _)).keys
  | .layerRd .. => (execLayerRd_fr (.refl _ _)).keys
  | .layerRdc _ _ _ line _ => (execLayerRdc_fr (_line := line) (.refl _ _)).keys
  | .layerWr .. => (execLayerWr_fr (.refl _ _)).keys
  | .layerMrr .. => (execLayerMrr_fr (.refl _ _)).keys
  | .layerRefpb .. => (execLayerRefpb_fr (.refl _ _)).keys
  | .layerRdp .. => (execLayerRdp_fr (.refl _ _)).keys
  | .layerWrp .. => (execLayerWrp_fr (.refl _ _)).keys
  | .layerErrclr .. => (execLayerErrclr_fr (.refl _ _)).keys
  | .layerPreset .. => (execLayerPreset_fr (.refl _ _)).keys
  | .layerLbw .. => (execLayerLbw_fr (.refl _ _)).keys
  | .layerLbr .. => (execLayerLbr_fr (.refl _ _)).keys
  | .commandParityError .. => (execCommandParityError_fr (.refl _ _)).keys
  | .resetPattern .. => (execResetPattern_fr (.refl _ _)).keys
  | .caCaptureExit .. => (execCaCaptureExit_fr (.refl _ _)).keys
  | .layerSensorConversion .. => (execLayerSensorConversion_fr (.refl _ _)).keys
  | .powerWarnTaken .. => (execPowerWarnTaken_fr (.refl _ _)).keys
  | .strapSample .. => (execStrapSample_fr (.refl _ _)).keys
  | .wsBypass => (execWsBypass_fr (.refl _ _)).keys
  | .wsExtest => (execWsExtest_fr (.refl _ _)).keys
  | .wsIntestScan => wrapPowered_keys (.refl _) fun _ => wrapDebug_keys (.refl _)
  | .svIdcode => (execSvIdcode_fr (.refl _ _)).keys
  | .svStatus => (execSvStatus_fr (.refl _ _)).keys
  | .svMbistLogic => (execSvMbistLogic_fr (.refl _ _)).keys
  | .svMbistCache => wrapPowered_keys (.refl _) fun _ => wrapDebug_keys (.refl _)
  | .svMbistVkeep => wrapPowered_keys (.refl _) fun _ => wrapDebug_keys (.refl _)
  | .svSdiLoop => (execSvSdiLoop_fr (.refl _ _)).keys
  | .svDramAccess => wrapPowered_keys (.refl _) fun _ => wrapDebug_keys (.refl _)
  | .svProcDebug => wrapPowered_keys (.refl _) fun _ => wrapDebug_keys (.refl _)
  | .svWardenDebug => wrapPowered_keys (.refl _) fun _ => wrapDebug_keys (.refl _)
  | .linkTrainingDone .. => (execLinkTrainingDone_fr (.refl _ _)).keys
  | .bundleVerified => .ite (warmVerified_keys (.refl _)) (.ite ((deepVerified_fr (.refl _ _)).keys (.refl _)) (.refl _))
  | .writeBackLimitExpiry => (execWriteBackLimitExpiry_fr (.refl _ _)).keys
  | .sheafPllRestartLimit .. => (execSheafPllRestartLimit_fr (.refl _ _)).keys

/-- Settles O23. -/
theorem keyStoreStaysCanonical : Obligations.KeyStoreStaysCanonical := by
  unfold Obligations.KeyStoreStaysCanonical
  intro s t canonical runs
  unfold step at runs
  split at runs
  next =>
    obtain rfl : tick s = t := by simpa using runs
    exact tick_keys (.refl s) canonical
  next c rest queue => exact (exec_keys c).of_next runs canonical

end Sys2Proof.Machine

/-!
PROOF. The ends of NVM record writes and the copies that fail, and the settling of O30 (R469, R470, R554).
-/
namespace Sys2Proof.Machine

-- One proof after another, each on a stack of its own, for the check's memory.
set_option Elab.async false

section
variable {s : State} {area i : Nat}

/-! ### Record areas (R467, R469) -/

/-- An area of which something is in use, or has failed, reads back as it was written. -/
theorem recordArea_setRecordArea {x : RecordArea} (held : x ≠ .reset) : (s.setRecordArea area i x).recordArea area i = x :=
  look_put_of_ne held _ _

theorem written_ne_reset {x : RecordArea} (usable : x.usableCopies ≠ 0) : x.written ≠ .reset := by
  obtain ⟨seq, validA, validB, failedA, failedB⟩ := x
  intro same
  simp only [RecordArea.written, RecordArea.reset, RecordArea.mk.injEq] at same
  obtain ⟨-, a, b, failA, failB⟩ := same
  subst failA failB
  simp at a

/-- The state in which the usable copies of an area have been written, before what the area's content asks for. -/
def copiesWritten (area i : Nat) (s : State) : State :=
  (s.setRecordArea area i (s.recordArea area i).written).bumpBy 0x1070 6 (copySectors area * (s.recordArea area i).usableCopies)

section
variable (on : s.power.node ≠ .off) (usable : s.nvm.usable = true) (copies : (s.recordArea area i).usableCopies ≠ 0)
include on usable copies

/-- A record that has something to write and is not put off is written to its usable copies. -/
theorem areaWritten_eq (due : recordDueIn area i s = true) (now : (putOff area && s.reduced) = false) : areaWritten area i s =
    if area = 1 then gatherWritten (copiesWritten area i s)
    else if area = 6 then { copiesWritten area i s with nvm := { (copiesWritten area i s).nvm with repairs := s.path.repairLog } }
    else if area = 7 then trainWritten i (s.recordArea area i) (s.recordArea area i).written.seq (copiesWritten area i s)
    else copiesWritten area i s := by
  unfold areaWritten
  rw [if_neg (by simp [on, usable, due]), if_neg (by simp [now]), if_neg copies]
  rfl

/-- The areas whose content the model does not gather or train. -/
theorem areaWritten_plain (inv : s.Inv) (low : area < 7) (other : area ≠ 1) (now : area = 2 → s.reduced = false) :
    (areaWritten area i s).recordArea area i = (s.recordArea area i).written ∧
    areaWritten area i s = { s with obj := (areaWritten area i s).obj, nvm := { s.nvm with
      areas := (areaWritten area i s).nvm.areas, repairs := if area = 6 then s.path.repairLog else s.nvm.repairs } } ∧
    (areaWritten area i s).ob 0x1070 6 =
      (s.ob 0x1070 6 + copySectors area * (s.recordArea area i).usableCopies) % 2 ^ objWidth (objKey 0x1070 6) := by
  have train : area ≠ 7 := by omega
  have due : recordDueIn area i s = true := by simp [recordDueIn, other, train, low]
  have timely : (putOff area && s.reduced) = false := by
    by_cases mirror : area = 2
    · simp [now mirror]
    · simp [putOff, other, train, mirror]
  have area' : (copiesWritten area i s).recordArea area i = (s.recordArea area i).written :=
    recordArea_setRecordArea (written_ne_reset copies)
  have counted : (copiesWritten area i s).ob 0x1070 6 = _ :=
    State.ob_setOb_eq (s := s.setRecordArea area i (s.recordArea area i).written) inv.objects 0x1070 6 _
  rw [areaWritten_eq on usable copies due timely, if_neg other]
  split
  · exact ⟨area', rfl, counted⟩
  · exact ⟨area', rfl, counted⟩

end

/-- The state in which a gathered write is in force and none is gathered. -/
def gatherForced (idx sub x : Nat) (s : State) : State :=
  { (s.setOb idx sub x) with nvm := ({ s.nvm with gather := [], gatherDue := false } : Nvm).persist (objKey idx sub) x }

/-- One gathered write that comes into force is answered. -/
theorem gatherWritten_single {idx sub x : Nat} {r : Req} (one : s.nvm.gather = [⟨idx, sub, x, .req r⟩]) :
    gatherWritten s = answer r St.ok 0 (gatherForced idx sub x s) := by
  unfold gatherWritten
  rw [one]
  rfl

theorem gatherRefused_nvm (s : State) : (gatherRefused s).nvm = { s.nvm with gather := [], gatherDue := false } := by
  unfold gatherRefused
  exact (forEach_fr (.refl 16832 _) fun _ _ => complete_fr (.refl _ _)).nvm (by decide)

theorem trainWritten_due (c : Nat) (x : RecordArea) (seq : Nat) (s : State) :
    (trainWritten c x seq s).nvm.trainDue = s.nvm.trainDue.filter fun k => k != c := by
  unfold trainWritten
  extract_lets s1 s2 s3
  have h2 : s2.nvm.trainDue = s1.nvm.trainDue := by
    dsimp only [s2]
    split <;> rfl
  have h3 : s3.nvm.trainDue = s2.nvm.trainDue := by
    dsimp only [s3]
    split <;> rfl
  exact (h3.trans h2).trans rfl

/-! ### Copies that fail (R470) -/

theorem ReportsOnly.nvm_parts {t : State} (reports : ReportsOnly s t) : t.nvm = { s.nvm with mirror := t.nvm.mirror } := by
  have parts := congrArg State.nvm reports.parts
  exact parts

/-- A move to another node state leaves the NVM but for the mirror of its event. -/
theorem setNode_nvm (n : NodeState) (s : State) : (setNode n s).nvm = { s.nvm with mirror := (setNode n s).nvm.mirror } := by
  unfold setNode
  dsimp only
  split
  · rfl
  · exact (raiseNode_reports _ _ _).nvm_parts

/-- RECOVERY is entered, and nothing of the NVM is lost. -/
theorem enterRecovery_spec (both : Bool) (s : State) : (enterRecovery both s).power.node = .recovery ∧
    (enterRecovery both s).upd = { s.upd with bothFailed := both } ∧
    (enterRecovery both s).nvm = { s.nvm with mirror := (enterRecovery both s).nvm.mirror } := by
  have told := raiseNode_reports Ev.recoveryMode 0 (setNode .recovery (s.setUpd { s.upd with bothFailed := both }))
  have moved := setNode_nvm .recovery (s.setUpd { s.upd with bothFailed := both })
  refine ⟨congrArg Power.node (told.power.trans (setNode_power _ _)), told.upd.trans ((setNode_others _ _).upd (by decide)), ?_⟩
  exact told.nvm_parts.trans (congrArg (fun n : Nvm => { n with mirror := (enterRecovery both s).nvm.mirror }) moved)

/-- What every copy that fails leaves: the count, the event and the state of the NVM. -/
def failureTold (s : State) : State := (raiseNode Ev.nvmWriteFailed 0 (s.bump 0x1070 4)).setOb 0x1070 1 2

theorem failureTold_ob (inv : s.Inv) : (failureTold s).ob 0x1070 4 = (s.ob 0x1070 4 + 1) % 2 ^ objWidth (objKey 0x1070 4) ∧
    (failureTold s).ob 0x1070 1 = 2 := by
  have told := raiseNode_reports Ev.nvmWriteFailed 0 (s.bump 0x1070 4)
  have counted : (s.bump 0x1070 4).ob 0x1070 4 = (s.ob 0x1070 4 + 1) % 2 ^ objWidth (objKey 0x1070 4) := State.ob_setOb_eq inv.objects 0x1070 4 _
  refine ⟨?_, ob_setOb_given ?_⟩
  · exact (State.ob_setOb_sub _ (by decide)).trans ((told.objects 0x1070 4 (by decide) rfl).trans counted)
  · decide +kernel

/-- The area with one copy out of use. -/
def RecordArea.failing (x : RecordArea) (b : Bool) : RecordArea :=
  if b then { x with failedB := true, validB := x.validB && x.failedA } else { x with failedA := true, validA := x.validA && x.failedB }

theorem failing_marks (x : RecordArea) (b : Bool) : (b = true → (x.failing b).failedB = true) ∧ (b = false → (x.failing b).failedA = true) := by
  cases b <;> simp [RecordArea.failing]

theorem failing_ne_reset (x : RecordArea) (b : Bool) : x.failing b ≠ .reset := by
  cases b
  · exact fun same => Bool.noConfusion (congrArg RecordArea.failedA same)
  · exact fun same => Bool.noConfusion (congrArg RecordArea.failedB same)

/-- A copy of an area that is neither gathered nor a training record goes out of use, and nothing more. -/
theorem copyFailed_plain {b : Bool} (low : area < 7) (other : area ≠ 1) :
    copyFailed area i b s = (failureTold s).setRecordArea area i (((failureTold s).recordArea area i).failing b) := by
  unfold copyFailed
  rw [if_neg (by omega), if_neg (by omega)]
  extract_lets x y t
  have refused : recordRefused area i t = t := by
    unfold recordRefused
    rw [if_neg other, if_neg (by simp only [Bool.and_eq_true, decide_eq_true_eq]; omega)]
  rw [refused, if_neg (c := (decide (area = 7) && _) = true) (by simp only [Bool.and_eq_true, decide_eq_true_eq]; omega)]
  exact ite_self _

/-- The state in which the copy of a slot has been given up. -/
def copyGivenUp (s : State) : State :=
  ({ failureTold s with nvm := { (failureTold s).nvm with activeSlot := [] } }).setUpd { (failureTold s).upd with copying := false }

/-- A copy of the active slot that fails while a staging slot is copied leads to RECOVERY. -/
theorem copyFailed_active {b : Bool} (copying : s.upd.copying = true) : (copyFailed 8 i b s).power.node = .recovery ∧
    (copyFailed 8 i b s).nvm.activeSlot = [] ∧ (copyFailed 8 i b s).upd.copying = false := by
  have upd : (failureTold s).upd = s.upd := (raiseNode_reports Ev.nvmWriteFailed 0 (s.bump 0x1070 4)).upd
  have recovers : copyFailed 8 i b s = enterRecovery true (raiseNode Ev.imageInvalid 0 (copyGivenUp s)) :=
    if_pos (show (failureTold s).upd.copying = true from upd ▸ copying)
  have told := raiseNode_reports Ev.imageInvalid 0 (copyGivenUp s)
  obtain ⟨node, upd', nvm⟩ := enterRecovery_spec true (raiseNode Ev.imageInvalid 0 (copyGivenUp s))
  rw [recovers, upd', nvm, told.upd, told.nvm_parts]
  exact ⟨node, rfl, rfl⟩

theorem nvmWriteFailed_gives {b : Bool} (on : s.power.node ≠ .off) (usable : s.nvm.usable = true) (known : area ≤ 9) (fixed : area ≠ 7)
    (first : (if b then (s.recordArea area i).failedB else (s.recordArea area i).failedA) = false) :
    exec (.nvmWriteFailed area i b) s = .next (copyFailed area i b s) := by
  show execNvmWriteFailed area i b s = _
  unfold execNvmWriteFailed
  dsimp only
  rw [if_neg (by simp [fixed]), if_neg (by simp [on, usable, first, known])]

theorem recordWrite_gives (there : area ≠ 7 ∨ i < s.channels) : exec (.nvmRecordWrite area i) s = .next (areaWritten area i s) :=
  if_neg (by obtain other | held := there <;> simp [*])

/-- Settles O30. -/
theorem recordWrites : Obligations.RecordWrites := by
  unfold Obligations.RecordWrites
  intro s area i b inv on usable
  refine ⟨fun low other now copies => ?_, fun idx sub x r full copies due one => ?_, fun reduced due gathers => ?_,
    fun held full due copies => ?_, fun absent => ⟨?_, ?_⟩, fun low other first => ?_, fun first => ?_, fun first copying => ?_⟩
  · exact ⟨_, recordWrite_gives (.inl (by omega)), areaWritten_plain on usable copies inv low other now⟩
  · have writes : areaWritten 1 i s = gatherWritten (copiesWritten 1 i s) := by
      rw [areaWritten_eq on usable copies (by simp [recordDueIn, due, one]) (by simp [full]), if_pos rfl]
    have single := writes.trans (gatherWritten_single one)
    have nvm := (answer_fr (r := r) (status := St.ok) (detail := 0) (.refl 16576 (gatherForced idx sub x (copiesWritten 1 i s)))).nvm (by decide)
    have canonical : Canonical objDefault (copiesWritten 1 i s).obj := State.setOb_canonical (s := s.setRecordArea 1 i _) inv.objects _ _ _
    refine ⟨_, recordWrite_gives (.inl (by decide)), ?_⟩
    dsimp only
    rw [single, nvm]
    exact ⟨rfl, rfl, rfl, _, rfl, State.ob_setOb_eq canonical idx sub x⟩
  · have refuses : areaWritten 1 i s = gatherRefused s := by
      unfold areaWritten
      rw [if_neg (by simp [on, usable, recordDueIn, due, gathers]), if_pos (by simp [putOff, reduced]), if_pos rfl]
    refine ⟨_, recordWrite_gives (.inl (by decide)), ?_⟩
    dsimp only
    rw [refuses, gatherRefused_nvm]
    exact ⟨rfl, rfl⟩
  · refine ⟨_, recordWrite_gives (.inr held), ?_⟩
    dsimp only
    rw [areaWritten_eq on usable copies (by simp [recordDueIn, due]) (by simp [full]), if_neg (by decide), if_neg (by decide), if_pos rfl,
      trainWritten_due]
    simp
  · exact if_pos (by simp [absent])
  · exact if_pos (by simp [absent])
  · refine ⟨_, nvmWriteFailed_gives on usable (by omega) (by omega) first, ?_⟩
    obtain ⟨counted, state⟩ := failureTold_ob inv
    have reads : ((failureTold s).setRecordArea area i (((failureTold s).recordArea area i).failing b)).recordArea area i = _ :=
      recordArea_setRecordArea (failing_ne_reset _ _)
    rw [copyFailed_plain low other, reads]
    obtain ⟨second, firstCopy⟩ := failing_marks ((failureTold s).recordArea area i) b
    exact ⟨second, firstCopy, counted, state⟩
  · refine ⟨_, nvmWriteFailed_gives on usable (by decide) (by decide) first, ?_⟩
    exact congrArg (fun u : Update => { u with failed := true }) (raiseNode_reports Ev.nvmWriteFailed 0 (s.bump 0x1070 4)).upd
  · exact ⟨_, nvmWriteFailed_gives on usable (by decide) (by decide) first, copyFailed_active copying⟩

end

end Sys2Proof.Machine

/-!
PROOF. The update commands and what they leave of the update objects, and the settling of O31 (R477, R478, R481).
-/
namespace Sys2Proof.Machine

-- One proof after another, each on a stack of its own, for the check's memory.
set_option Elab.async false

section
variable {s : State} {r : Req}

/-! ### The update objects -/

/-- An object of 0x8000 after the write of one of them. -/
theorem ob_setOb_update (canonical : Canonical objDefault s.obj) {a b : Nat} (v : Nat) (small : a < 256) (fits : b < 256) :
    (s.setOb 0x8000 a v).ob 0x8000 b = if b = a then v else s.ob 0x8000 b := by
  split
  next same => rw [same, State.ob_setOb_eq canonical]
  next other => exact State.ob_setOb_sub _ other small fits

theorem persistOwn_obj (idx sub v : Nat) (s : State) : (persistOwn idx sub v s).obj = (s.setOb idx sub v).obj := by
  unfold persistOwn
  dsimp only
  split <;> rfl

theorem ob_persistOwn_update (canonical : Canonical objDefault s.obj) {a b : Nat} (v : Nat) (small : a < 256)
    (fits : b < 256) : (persistOwn 0x8000 a v s).ob 0x8000 b = if b = a then v else s.ob 0x8000 b := by
  rw [State.ob, persistOwn_obj]
  exact ob_setOb_update canonical v small fits

theorem persistOwn_canonical (canonical : Canonical objDefault s.obj) (idx sub v : Nat) : Canonical objDefault (persistOwn idx sub v s).obj := by
  rw [persistOwn_obj]
  exact State.setOb_canonical canonical _ _ _

/-- No version counts as verified, and no other object is changed. -/
theorem ob_unverify (canonical : Canonical objDefault s.obj) {b : Nat} (fits : b < 256) :
    (unverify s).ob 0x8000 b = if b = 8 ∨ b = 9 then 0 else s.ob 0x8000 b := by
  unfold unverify
  rw [ob_setOb_update (State.setOb_canonical canonical _ _ _) 0 (by decide) fits, ob_setOb_update canonical 0 (by decide) fits]
  split <;> simp [*]

theorem unverify_canonical (canonical : Canonical objDefault s.obj) : Canonical objDefault (unverify s).obj :=
  State.setOb_canonical (State.setOb_canonical canonical _ _ _) _ _ _

theorem ob_setStaging (canonical : Canonical objDefault s.obj) {b : Nat} (v : Nat) (fits : b < 256) :
    (setStaging v s).ob 0x8000 b = if b = 2 then v else s.ob 0x8000 b :=
  ob_setOb_update canonical v (by decide) fits

theorem ordered_ob (r : Req) (s : State) (idx a : Nat) (other : logObject idx = false := by rfl) (fits : a < 256 := by decide) :
    (s.ordered r).ob idx a = s.ob idx a :=
  begun_ob r s idx a other fits

theorem ordered_upd (r : Req) (s : State) : (s.ordered r).upd = s.upd := countFrame_upd s r

/-- What stands against an update stands against it still when the order is counted. -/
theorem ordered_updateBar (r : Req) (inv : s.Inv) : (s.ordered r).updateBar = s.updateBar := by
  have pins : (s.ordered r).pins = s.pins := begun_pins r s
  have nvm : (s.ordered r).nvm = s.nvm := begun_nvm r s
  have fuses : (s.ordered r).fuses = s.fuses := begun_fuses r s
  have lifecycle : (s.ordered r).sec.lifecycle = s.sec.lifecycle := by rw [ordered_sec]
  have hot : ((s.ordered r).stacks_.any fun st => decide (3 ≤ (s.ordered r).level st)) = s.stacks_.any fun st => decide (3 ≤ s.level st) := by
    rw [State.stacks_, show (s.ordered r).cfg = s.cfg from begun_cfg r s]
    rw [Bool.eq_iff_iff, List.any_eq_true, List.any_eq_true]
    refine exists_congr fun st => and_congr_right fun held => ?_
    have low : st < 4 := lt_of_lt_of_le (List.mem_range.mp held) inv.stackCount.2
    have log : logObject (stackIdx st) = false := by interval_cases st <;> rfl
    rw [State.level, ordered_ob r s (stackIdx st) 1 log, State.level]
  unfold State.updateBar State.reduced State.ownedNow ownerAbsent
  rw [hot, ordered_ob r s 0x2204 3, ordered_ob r s 0x6020 3, ordered_power, ordered_upd, pins, nvm, fuses, lifecycle]

/-! ### The commands -/

theorem updateBegin_done (idle : s.staging ≠ 3) (disarmed : s.staging ≠ 6) (allowed : s.updateBar = 0) : updateBegin s =
    .done (setStaging 1 (unverify ((s.setOb 0x8000 5 0).setUpd { s.upd with length := s.ob 0x8000 3 }))) := by
  unfold updateBegin
  rw [if_neg (by simp [idle, disarmed]), if_neg (by simp [allowed])]

theorem updateVerify_done (up : s.procs.warden.restart = none) (there : s.staging = 2 ∨ s.staging = 5) :
    updateVerify s = .done (setStaging 3 (unverify s)) := by
  unfold updateVerify
  rw [if_neg (by simp [up]), if_pos (by simpa using there)]

theorem updateActivate_done (verified : s.staging = 4) (allowed : s.updateBar = 0) :
    updateActivate (some true) s = .done (raiseNode Ev.updateArmed 0 (setStaging 6 (persistOwn 0x8000 0x0B 1 s))) := by
  unfold updateActivate
  rw [if_neg (by simp [verified]), if_neg (by simp [allowed])]
  rfl

theorem updateDiscard_done (idle : s.staging ≠ 3) :
    updateDiscard s = .done (setStaging 0 (unverify ((persistOwn 0x8000 0x0B 0 s).setOb 0x8000 5 0))) :=
  if_neg idle

/-- An update object after a command that the lead orders. -/
theorem answered_ob (r : Req) (u : State) {a : Nat} (fits : a < 256) : (answer r St.ok 0 u).ob 0x8000 a = u.ob 0x8000 a :=
  (answer_reports r St.ok 0 u).objects 0x8000 a fits rfl

/-- Settles O31. -/
theorem updateCommands : Obligations.UpdateCommands := by
  unfold Obligations.UpdateCommands
  intro s r inv
  have c := ordered_canonical (r := r) inv.objects
  have staging : (s.ordered r).staging = s.staging := ordered_ob r s 0x8000 2
  have bar := ordered_updateBar r inv
  refine ⟨fun orders idle disarmed allowed => ?_, fun orders up there => ?_, fun orders verified allowed => ?_, fun orders idle => ?_⟩
  · refine ⟨_, congrArg Host.Outcome.next (dictWrite_orders orders
      (updateBegin_done (staging ▸ idle) (staging ▸ disarmed) (bar.trans allowed)) rfl), ?_⟩
    have c5 := State.setOb_canonical c 0x8000 5 0
    have upd : (answer r St.ok 0 (setStaging 1 (unverify (((s.ordered r).setOb 0x8000 5 0).setUpd { (s.ordered r).upd with
        length := (s.ordered r).ob 0x8000 3 })))).upd = _ := (answer_reports r St.ok 0 _).upd
    have cu : Canonical objDefault (((s.ordered r).setOb 0x8000 5 0).setUpd { (s.ordered r).upd with
        length := (s.ordered r).ob 0x8000 3 }).obj := c5
    have cleared {a : Nat} (fits : a < 256) : (((s.ordered r).setOb 0x8000 5 0).setUpd { (s.ordered r).upd with
        length := (s.ordered r).ob 0x8000 3 }).ob 0x8000 a = if a = 5 then 0 else (s.ordered r).ob 0x8000 a := ob_setOb_update c 0 (by decide) fits
    dsimp only
    rw [upd]
    refine ⟨?_, ?_, ?_, ?_, ?_⟩
    · simp [State.staging, answered_ob, ob_setStaging (unverify_canonical cu)]
    · simp [answered_ob, ob_setStaging (unverify_canonical cu), ob_unverify cu, cleared]
    · simp [answered_ob, ob_setStaging (unverify_canonical cu), ob_unverify cu]
    · simp [answered_ob, ob_setStaging (unverify_canonical cu), ob_unverify cu]
    · rw [← ordered_ob r s 0x8000 3, ← ordered_upd r s]
      rfl
  · refine ⟨_, congrArg Host.Outcome.next (dictWrite_orders orders
      (updateVerify_done ((congrArg (·.warden.restart) (ordered_procs r s)).trans up) (by rw [staging]; exact there)) rfl), ?_⟩
    have cv := unverify_canonical c
    refine ⟨?_, ?_, ?_⟩
    · simp [State.staging, answered_ob, ob_setStaging cv]
    · simp [answered_ob, ob_setStaging cv, ob_unverify c]
    · simp [answered_ob, ob_setStaging cv, ob_unverify c]
  · have told := raiseNode_reports Ev.updateArmed 0 (setStaging 6 (persistOwn 0x8000 0x0B 1 (s.ordered r)))
    have cp := persistOwn_canonical c 0x8000 0x0B 1
    refine ⟨_, congrArg Host.Outcome.next (dictWrite_orders orders (updateActivate_done (staging.trans verified) (bar.trans allowed)) ?_), ?_, ?_⟩
    · have settings : (setStaging 6 (persistOwn 0x8000 0x0B 1 (s.ordered r))).mgmt = (s.ordered r).mgmt :=
        (State.setOb_fr (persistOwn_fr (.refl 4160 _))).mgmt (by decide)
      exact ((raiseNode_reports _ _ _).undisturbed (raiseNode_settled _ _ _)).setWrites.trans ((congrArg Mgmt.setWrites settings).trans rfl)
    · simp [State.staging, answered_ob, told.objects 0x8000 _ _ rfl, ob_setStaging cp]
    · simp [answered_ob, told.objects 0x8000 _ _ rfl, ob_setStaging cp, ob_persistOwn_update c]
  · have cp := persistOwn_canonical c 0x8000 0x0B 0
    have c5 := State.setOb_canonical cp 0x8000 5 0
    refine ⟨_, congrArg Host.Outcome.next (dictWrite_orders orders (updateDiscard_done (staging ▸ idle)) ?_), ?_, ?_, ?_⟩
    · have settings : (setStaging 0 (unverify ((persistOwn 0x8000 0x0B 0 (s.ordered r)).setOb 0x8000 5 0))).mgmt = (s.ordered r).mgmt :=
        (State.setOb_fr (unverify_fr (State.setOb_fr (persistOwn_fr (.refl 4160 _))))).mgmt (by decide)
      exact (congrArg Mgmt.setWrites settings).trans rfl
    · simp [State.staging, answered_ob, ob_setStaging (unverify_canonical c5)]
    · simp [answered_ob, ob_setStaging (unverify_canonical c5), ob_unverify c5, ob_setOb_update cp]
    · simp [answered_ob, ob_setStaging (unverify_canonical c5), ob_unverify c5, ob_setOb_update cp, ob_persistOwn_update c]

end

end Sys2Proof.Machine

/-!
PROOF. The verification of a bundle, the choice of an image at a start and the copy of a slot, and the settling of O32 (R476, R482).
-/
namespace Sys2Proof.Machine

-- One proof after another, each on a stack of its own, for the check's memory.
set_option Elab.async false

/-! ### What the checks of a bundle read (R476) -/

/-- Two states in which a slot's bundle is judged alike. -/
structure JudgesAlike (s t : State) : Prop where
  cfg : t.cfg = s.cfg
  fuses : t.fuses = s.fuses
  owner : t.nvm.owner = s.nvm.owner
  node : t.power.node = s.power.node
  lifecycle : t.sec.lifecycle = s.sec.lifecycle
  policy : t.ob 0x6020 3 = s.ob 0x6020 3
  floor : t.ob 0x8000 7 = s.ob 0x8000 7

/-- At a start, where no block map is asked for. -/
theorem JudgesAlike.reason {s t : State} (alike : JudgesAlike s t) (slot : Store (Option Nat)) :
    bundleReason slot false t = bundleReason slot false s := by
  obtain ⟨cfg, fuses, owner, node, lifecycle, policy, floor⟩ := alike
  have hardware : hardwareOk slot t = hardwareOk slot s := by rw [hardwareOk, cfg, hardwareOk]
  have vendor : vendorOk slot t = vendorOk slot s := by simp only [vendorOk, fuses]
  have absent : ownerAbsent t = ownerAbsent s := by rw [ownerAbsent, owner, fuses, ownerAbsent]
  have owned : t.ownedNow = s.ownedNow := by simp only [State.ownedNow, node, absent, lifecycle]
  have counter : counterOk slot t = counterOk slot s := by simp only [counterOk, ownerSigned2, owned, policy, owner, absent]
  have floor' : floorOk slot t = floorOk slot s := by rw [floorOk, floor, floorOk]
  simp only [bundleReason, hardware, vendor, counter, floor', Bool.false_and]

theorem ReportsOnly.judgesAlike {s t : State} (reports : ReportsOnly s t) : JudgesAlike s t where
  cfg := reports.cfg
  fuses := reports.fuses
  owner := by rw [reports.nvm_parts]
  node := congrArg Power.node reports.power
  lifecycle := congrArg Security.lifecycle reports.sec
  policy := reports.objects _ _ (by decide) rfl
  floor := reports.objects _ _ (by decide) rfl

section
variable {s : State}

/-! ### The end of a verification (R476, R477) -/

theorem updateRefused_reports (reason : Nat) (given : reason ≠ 0) (s : State) :
    ReportsOnly (s.setOb 0x8000 6 reason) (updateRefused reason s) := by
  unfold updateRefused
  rw [if_neg given]
  exact raiseNode_reports _ _ _

theorem verificationDone_refuses (runs : s.staging = 3) (up : s.procs.warden.restart = none) (why : bundleReason s.nvm.staging true s ≠ 0) :
    verificationDone s = updateRefused (bundleReason s.nvm.staging true s) (setStaging 5 s) := by
  unfold verificationDone
  rw [if_neg (by simp [runs, up])]
  exact if_pos (by simpa using why)

/-- The staging slot counts as verified, with the version and the security number of its bundle. -/
def verified (s : State) : State :=
  setStaging 4 ((s.setOb 0x8000 8 (bundleVersion s.nvm.staging)).setOb 0x8000 9 (bundleSecurity s.nvm.staging))

theorem verificationDone_verifies (runs : s.staging = 3) (up : s.procs.warden.restart = none) (sound : bundleReason s.nvm.staging true s = 0) :
    (verificationDone s).obj = (raiseNode Ev.updateVerified 0 (verified s)).obj := by
  unfold verificationDone
  rw [if_neg (by simp [runs, up]), if_neg (by simp [sound])]
  extract_lets s1 s2
  split <;> rfl

theorem verificationDone_shows (canonical : Canonical objDefault s.obj) (runs : s.staging = 3) (up : s.procs.warden.restart = none) :
    if bundleReason s.nvm.staging true s = 0
      then (verificationDone s).staging = 4 ∧ (verificationDone s).ob 0x8000 8 = bundleVersion s.nvm.staging ∧
        (verificationDone s).ob 0x8000 9 = bundleSecurity s.nvm.staging
      else (verificationDone s).staging = 5 ∧ (verificationDone s).ob 0x8000 6 = bundleReason s.nvm.staging true s := by
  split
  next sound =>
    have told := raiseNode_reports Ev.updateVerified 0 (verified s)
    have c8 := State.setOb_canonical canonical 0x8000 8 (bundleVersion s.nvm.staging)
    have c9 := State.setOb_canonical c8 0x8000 9 (bundleSecurity s.nvm.staging)
    have shown {a : Nat} (fits : a < 256) : (verificationDone s).ob 0x8000 a = (verified s).ob 0x8000 a := by
      rw [State.ob, verificationDone_verifies runs up sound]
      exact told.objects 0x8000 a fits rfl
    simp [State.staging, shown, verified, ob_setStaging c9, ob_setOb_update c8, ob_setOb_update canonical]
  next why =>
    have told := updateRefused_reports _ why (setStaging 5 s)
    have c5 : Canonical objDefault (setStaging 5 s).obj := State.setOb_canonical canonical _ _ _
    rw [verificationDone_refuses runs up why]
    simp [State.staging, told.objects 0x8000 _ _ rfl, ob_setOb_update c5, ob_setStaging canonical]

/-! ### The image to run (R482) -/

theorem bootAdvance_waits (off : s.power.vcore = false) : bootAdvance s = s := if_neg (by simp [off])

/-- While VCORE is not good, the active slot is chosen and BOOT goes on later. -/
theorem runActive_waits (off : s.power.vcore = false) : (runActive s).power = s.power ∧ (runActive s).nvm = s.nvm ∧
    (runActive s).upd = { s.upd with selected := true, copying := false, bothFailed := false } := by
  unfold runActive
  extract_lets s1
  rw [bootAdvance_waits (s := s1.setUpd _) off]
  exact ⟨rfl, rfl, rfl⟩

theorem bootActive_chooses (boot : s.power.node = .boot) (off : s.power.vcore = false) : (bootActive s).nvm.usable = s.nvm.usable ∧
    if bundleReason s.nvm.activeSlot false s = 0 then (bootActive s).upd.selected = true ∧ (bootActive s).power.node = .boot
    else if bundleReason s.nvm.staging false s = 0 then (bootActive s).upd.copying = true ∧ (bootActive s).power.node = .boot
    else (bootActive s).power.node = .recovery ∧ (bootActive s).upd.bothFailed = true := by
  have told := raiseNode_reports Ev.imageInvalid 0 s
  have nvm := told.nvm_parts
  have usable : (raiseNode Ev.imageInvalid 0 s).nvm.usable = s.nvm.usable := by rw [nvm]
  have judged : bundleReason (raiseNode Ev.imageInvalid 0 s).nvm.staging false (raiseNode Ev.imageInvalid 0 s) = bundleReason s.nvm.staging false s := by
    rw [told.judgesAlike.reason, nvm]
  unfold bootActive
  by_cases active : bundleReason s.nvm.activeSlot false s = 0
  · obtain ⟨power, nvm, upd⟩ := runActive_waits off
    simp only [if_pos active, power, nvm, upd]
    exact ⟨trivial, trivial, boot⟩
  · simp only [if_neg active, judged]
    by_cases staged : bundleReason s.nvm.staging false s = 0
    · simp only [if_pos staged]
      exact ⟨usable, rfl, (congrArg Power.node told.power).trans boot⟩
    · simp only [if_neg staged]
      obtain ⟨node, upd, nvm'⟩ := enterRecovery_spec true (raiseNode Ev.imageInvalid 0 s)
      exact ⟨(congrArg Nvm.usable nvm').trans usable, node, congrArg Update.bothFailed upd⟩

/-- What the ROM reads of the flash before it chooses. -/
def flashRead (usable : Bool) (density mode : Nat) (s : State) : State :=
  ((({ s with nvm := { s.nvm with usable := usable } } : State).setOb 0x1070 1 (b2n (!usable))).setOb 0x1070 2 (density % 2 ^ 64)).setOb 0x1070 3 (mode % 4)

/-- The state in which the ROM chooses. -/
def romState (usable : Bool) (density mode : Nat) (s : State) : State :=
  let u := if usable then loadRepairs (loadPersisted (readCopies (flashRead usable density mode s)))
    else raiseNode Ev.nvmAbsent 0 (flashRead usable density mode s)
  setStaging (if u.ob 0x8000 0x0B = 1 then 6 else 0) u

theorem Undisturbed.nvm {s t : State} (h : Undisturbed s t) : t.nvm = { s.nvm with mirror := t.nvm.mirror } := by
  have same : ({ t.nvm with mirror := [] } : Nvm) = { s.nvm with mirror := [] } := congrArg (fun b => b.2.2.2) h
  have back := congrArg (fun n : Nvm => { n with mirror := t.nvm.mirror }) same
  exact back

theorem readCopies_undisturbed {α s : State} (hyp : Undisturbed α s) : Undisturbed α (readCopies s) :=
  each_undisturbed hyp fun _ _ => raiseNode_undisturbed ((State.bump_fr (.refl _ _)).leaves (.refl _))

/-- The ROM reads the straps and the NVM as they stand. -/
theorem romState_undisturbed (usable : Bool) (density mode : Nat) (s : State) :
    Undisturbed { s with nvm := { s.nvm with usable := usable } } (romState usable density mode s) := by
  have read : Undisturbed { s with nvm := { s.nvm with usable := usable } } (flashRead usable density mode s) :=
    (State.setOb_fr (State.setOb_fr (State.setOb_fr (.refl _ _)))).leaves (.refl _)
  unfold romState
  extract_lets u
  refine (State.setOb_fr (.refl _ _)).leaves (.ite ?_ (raiseNode_undisturbed read))
  exact (loadRepairs_fr (loadPersisted_fr (.refl _ _))).leaves (readCopies_undisturbed read)

/-- With no record in the NVM, the ROM reads it and no object but its own, the shutdown record's and the staging slot's changes. -/
theorem romState_fresh {density mode : Nat} (noKeys : s.nvm.persistedKeys = []) (noValues : s.nvm.persisted = []) (noAreas : s.nvm.areas = []) :
    romState true density mode s = setStaging (if ((flashRead true density mode s).setOb 0x9020 1 (leNat s.nvm.shutdown)).ob 0x8000 0x0B = 1 then 6 else 0)
      (loadRepairs ((flashRead true density mode s).setOb 0x9020 1 (leNat s.nvm.shutdown))) := by
  have copies : readCopies (flashRead true density mode s) = flashRead true density mode s := by
    unfold readCopies
    rw [show (flashRead true density mode s).nvm.areas = [] from noAreas]
    rfl
  have loaded : loadPersisted (flashRead true density mode s) = (flashRead true density mode s).setOb 0x9020 1 (leNat s.nvm.shutdown) := by
    unfold loadPersisted
    dsimp only
    rw [show ((flashRead true density mode s).setOb 0x9020 1 _).nvm.persistedKeys = [] from noKeys,
      show ((flashRead true density mode s).setOb 0x9020 1 _).nvm.persisted = [] from noValues]
    rfl
  unfold romState
  rw [if_pos rfl, copies, loaded]
  rfl

/-- What the ROM reads, it writes to the objects, the repair log and the NVM; the rest is what its reports write. -/
theorem romState_fr (usable : Bool) (density mode : Nat) (s : State) : Fr 282840 s (romState usable density mode s) := by
  have read : Fr 282840 s (flashRead usable density mode s) := State.setOb_fr (State.setOb_fr (State.setOb_fr (.set_nvm (.refl _ _))))
  exact State.setOb_fr (.ite (loadRepairs_fr (loadPersisted_fr (readCopies_fr read))) (raiseNode_fr read))

section
variable {density mode : Nat} (noKeys : s.nvm.persistedKeys = []) (noValues : s.nvm.persisted = []) (noAreas : s.nvm.areas = [])
include noKeys noValues noAreas

/-- Objects that the ROM does not write in such a node. -/
theorem romState_objects {idx sub : Nat} (small : sub < 256) (notNvm : idx ≠ 0x1070) (notShutdown : idx ≠ 0x9020)
    (notStaging : ¬ (idx = 0x8000 ∧ sub = 2)) : (romState true density mode s).ob idx sub = s.ob idx sub := by
  have read : ((flashRead true density mode s).setOb 0x9020 1 (leNat s.nvm.shutdown)).ob idx sub = s.ob idx sub := by
    unfold flashRead
    rw [ob_setOb_other_index small (by decide) notShutdown, ob_setOb_other_index small (by decide) notNvm,
      ob_setOb_other_index small (by decide) notNvm, ob_setOb_other_index small (by decide) notNvm]
    rfl
  rw [romState_fresh noKeys noValues noAreas]
  by_cases same : idx = 0x8000
  · subst same
    exact (State.ob_setOb_sub _ (fun two => notStaging ⟨rfl, two⟩) (by decide) small).trans read
  · exact (ob_setOb_other_index small (by decide) same).trans read

theorem romState_judges : JudgesAlike s (romState true density mode s) where
  cfg := (romState_fr true density mode s).cfg (by decide)
  fuses := (romState_fr true density mode s).fuses (by decide)
  owner := by rw [(romState_undisturbed true density mode s).nvm]
  node := congrArg Power.node ((romState_fr true density mode s).power (by decide))
  lifecycle := congrArg Security.lifecycle ((romState_fr true density mode s).sec (by decide))
  policy := romState_objects noKeys noValues noAreas (by decide) (by decide) (by decide) (by decide)
  floor := romState_objects noKeys noValues noAreas (by decide) (by decide) (by decide) (by decide)

end

section
variable {usable : Bool} {d m : Nat} (boot : s.power.node = .boot) (open_ : s.upd.selected = false) (idle : s.upd.copying = false)
  (cold : s.power.warm = false) (released : s.power.setHeld = false) (strapped : s.power.strapped = true)
include boot open_ idle cold released strapped

theorem imageSelection_selects : imageSelection usable d m s = selectImage (romState usable d m s) := by
  unfold imageSelection
  rw [if_neg (by simp [boot, open_, idle, cold, released, strapped])]
  rfl

theorem imageSelection_recovery (asked : s.pins.recovery = true) :
    (imageSelection usable d m s).power.node = .recovery ∧ (imageSelection usable d m s).nvm.usable = usable := by
  have read := romState_undisturbed usable d m s
  have straps : (romState usable d m s).pins.recovery = true := (congrArg (·.2.2) read.straps).trans asked
  obtain ⟨node, -, nvm⟩ := enterRecovery_spec false (romState usable d m s)
  rw [imageSelection_selects boot open_ idle cold released strapped, selectImage, if_pos straps]
  exact ⟨node, by rw [nvm, read.nvm]⟩

theorem imageSelection_absent (normal : s.pins.recovery = false) :
    (imageSelection false d m s).power.node = .recovery ∧ (imageSelection false d m s).upd.bothFailed = true := by
  have read := romState_undisturbed false d m s
  have straps : (romState false d m s).pins.recovery = false := (congrArg (·.2.2) read.straps).trans normal
  have absent : (romState false d m s).nvm.usable = false := by rw [read.nvm]
  obtain ⟨node, upd, -⟩ := enterRecovery_spec true (raiseNode Ev.imageInvalid 0 (romState false d m s))
  rw [imageSelection_selects boot open_ idle cold released strapped, selectImage, if_neg (by simp [straps]), if_pos (by simp [absent])]
  exact ⟨node, congrArg Update.bothFailed upd⟩

theorem imageSelection_fresh (normal : s.pins.recovery = false) (noValues : s.nvm.persisted = []) (noKeys : s.nvm.persistedKeys = [])
    (noAreas : s.nvm.areas = []) (unarmed : s.ob 0x8000 0x0B = 0) (off : s.power.vcore = false) :
    (imageSelection true d m s).nvm.usable = true ∧
    if bundleReason s.nvm.activeSlot false s = 0 then (imageSelection true d m s).upd.selected = true ∧ (imageSelection true d m s).power.node = .boot
    else if bundleReason s.nvm.staging false s = 0 then (imageSelection true d m s).upd.copying = true ∧ (imageSelection true d m s).power.node = .boot
    else (imageSelection true d m s).power.node = .recovery ∧ (imageSelection true d m s).upd.bothFailed = true := by
  have alike : JudgesAlike s (romState true d m s) := romState_judges noKeys noValues noAreas
  have read := romState_undisturbed true d m s
  have straps : (romState true d m s).pins.recovery = false := (congrArg (·.2.2) read.straps).trans normal
  have nvm := read.nvm
  have usable : (romState true d m s).nvm.usable = true := by rw [nvm]
  have power : (romState true d m s).power = s.power := (romState_fr true d m s).power (by decide)
  have idle' : (romState true d m s).ob 0x8000 0x0B = 0 := (romState_objects noKeys noValues noAreas (by decide) (by decide) (by decide)
    (by decide)).trans unarmed
  obtain ⟨keeps, chosen⟩ := bootActive_chooses (s := romState true d m s) ((congrArg Power.node power).trans boot) ((congrArg Power.vcore power).trans off)
  rw [imageSelection_selects boot open_ idle cold released strapped, selectImage, if_neg (by simp [straps]), if_neg (by simp [usable]),
    if_pos (by simp [idle'])]
  refine ⟨keeps.trans usable, ?_⟩
  rw [alike.reason, alike.reason, nvm] at chosen
  exact chosen

end

/-! ### The slot copy (R482) -/

theorem slotCopied_runs (copying : s.upd.copying = true) (off : s.power.vcore = false) :
    (slotCopied s).nvm.activeSlot = s.nvm.staging ∧ (slotCopied s).upd.selected = true ∧ (slotCopied s).upd.copying = false ∧
      (s.power.node = .recovery → (slotCopied s).power.node = .boot) := by
  unfold slotCopied
  rw [if_neg (by simp [copying])]
  extract_lets n slots u v w
  have staged (x : State) : (persistOwn 0x8000 0x0B 0 x).nvm.activeSlot = x.nvm.activeSlot := by
    unfold persistOwn
    dsimp only
    split <;> rfl
  have told : ReportsOnly (setStaging 0 ((unverify v).setOb 0x8000 5 0)) w := raiseNode_reports Ev.updateApplied 0 (setStaging 0 ((unverify v).setOb 0x8000 5 0))
  have slot : w.nvm.activeSlot = s.nvm.staging := by
    rw [told.nvm_parts]
    exact staged u
  have moved : Fr 4160 u (setStaging 0 ((unverify v).setOb 0x8000 5 0)) :=
    State.setOb_fr (State.setOb_fr (unverify_fr (State.bumpBy_fr (persistOwn_fr (.refl _ _)))))
  have power : w.power = s.power := told.power.trans (moved.power (by decide))
  clear_value w
  have boots : (if w.power.node = .recovery then setNode .boot w else w).nvm.activeSlot = s.nvm.staging ∧
      (if w.power.node = .recovery then setNode .boot w else w).power.vcore = false ∧
      (s.power.node = .recovery → (if w.power.node = .recovery then setNode .boot w else w).power.node = .boot) := by
    split
    next =>
      rw [setNode_nvm, setNode_power, power]
      exact ⟨slot, off, fun _ => rfl⟩
    next stays =>
      rw [power]
      exact ⟨slot, off, fun is => absurd ((congrArg Power.node power).trans is) stays⟩
  obtain ⟨active, off', node⟩ := boots
  obtain ⟨kept, nvm, upd⟩ := runActive_waits off'
  rw [kept, nvm, upd]
  exact ⟨active, rfl, rfl, node⟩

/-- Settles O32. -/
theorem imagesAndVerification : Obligations.ImagesAndVerification := by
  unfold Obligations.ImagesAndVerification
  intro s usable d m inv
  refine ⟨fun runs up => ⟨_, rfl, verificationDone_shows inv.objects runs up⟩, fun idle => ?_, fun boot selected idle cold released strapped =>
    ⟨fun asked => ⟨_, rfl, imageSelection_recovery boot selected idle cold released strapped asked⟩,
     fun normal => ⟨_, rfl, imageSelection_absent boot selected idle cold released strapped normal⟩,
     fun normal noValues noKeys noAreas unarmed off =>
       ⟨_, rfl, imageSelection_fresh boot selected idle cold released strapped normal noValues noKeys noAreas unarmed off⟩⟩,
    fun copying off => ⟨_, rfl, slotCopied_runs copying off⟩, fun idle => ?_⟩
  · exact congrArg Host.Outcome.next (if_pos (by simp [idle]))
  · exact congrArg Host.Outcome.next (if_pos (by simp [idle]))

end

end Sys2Proof.Machine

/-!
PROOF. Snapshots, clears, filters and the controls of the sampler, and the settling of O33 (R490 to R494, R496, R499).
-/
namespace Sys2Proof.Machine

-- One proof after another, each on a stack of its own, for the check's memory.
set_option Elab.async false

/-! ### Loops over counters -/

section
variable {σ α : Type} {l : List α} {f : α → σ → σ} {inv goal : σ → Prop} {s : σ}

/-- What every step of a loop over the elements of a list keeps. -/
theorem forEach_keeps_of_mem (keeps : ∀ a ∈ l, ∀ t, inv t → inv (f a t)) (start : inv s) : inv (forEach l f s) := by
  induction l generalizing s with
  | nil => exact start
  | cons a l ih => exact ih (fun b at_ => keeps b (.tail a at_)) (keeps a (.head l) s start)

/-- What one step of a loop brings about, and every step keeps. -/
theorem forEach_reaches {a : α} (at_ : a ∈ l) (keeps : ∀ b ∈ l, ∀ t, inv t → inv (f b t))
    (holds : ∀ b ∈ l, ∀ t, inv t → goal t → goal (f b t))
    (makes : ∀ t, inv t → goal (f a t)) (start : inv s) : goal (forEach l f s) := by
  induction l generalizing s with
  | nil => nomatch at_
  | cons b l ih =>
    have next := keeps b (.head l) s start
    have later (c : α) (h : c ∈ l) (t : σ) := keeps c (.tail b h) t
    cases at_ with
    | head =>
      exact (forEach_keeps_of_mem (inv := fun t => inv t ∧ goal t) (fun c h t both =>
        ⟨later c h t both.1, holds c (.tail a h) t both.1 both.2⟩) ⟨next, makes s start⟩).2
    | tail _ h => exact ih h later (fun c h' t => holds c (.tail b h') t) next

end

section
variable {s : State}

/-! ### The banks (R486) -/

/-- How many counters the bank of an index has. -/
def bankSize (b : Nat) : Nat :=
  if b < 0x7600 then 16 else if b < 0x7680 then 8 else if b < 0x76C0 then 6 else if b < 0x76E0 then 9 else if b < 0x76F8 then 7 else 9

theorem mem_banks (few : s.cfg.nstacks ≤ 4) {b n : Nat} (held : (b, n) ∈ s.banks) : 0x7400 ≤ b ∧ b < 0x7700 ∧ n = bankSize b := by
  simp only [State.banks, State.channels, List.mem_append, List.mem_map, List.mem_range, Prod.mk.injEq, List.mem_cons, List.not_mem_nil,
    or_false] at held
  unfold bankSize
  obtain (((((⟨i, lt, rfl, rfl⟩ | ⟨i, lt, rfl, rfl⟩) | ⟨i, lt, rfl, rfl⟩) | ⟨i, lt, rfl, rfl⟩) | ⟨i, lt, rfl, rfl⟩) |
    ⟨rfl, rfl⟩ | ⟨rfl, rfl⟩) := held <;> grind

theorem bankSize_le (b : Nat) : bankSize b ≤ 16 := by
  unfold bankSize
  grind

/-- An object reads what one write of another leaves, or what it wrote. -/
theorem ob_setOb_cases (canonical : Canonical objDefault s.obj) {i a j b : Nat} (v : Nat) (small : a < 256) (fits : b < 256) :
    (s.setOb i a v).ob j b = if j = i ∧ b = a then v else s.ob j b := by
  split
  next same =>
    obtain ⟨rfl, rfl⟩ := same
    exact State.ob_setOb_eq canonical _ _ _
  next other => exact State.ob_setOb_ne s fun same => other (objKey_inj fits small same)

/-! ### Clears (R491) -/

/-- A clear leaves the counters of its bank at 0 and every other object as it was. -/
theorem clearBank_spec (canonical : Canonical objDefault s.obj) {b n : Nat} (size : n ≤ 16) : Canonical objDefault (clearBank b n s).obj ∧
    (∀ j < n, (clearBank b n s).ob b (0x10 + j) = 0) ∧
    ∀ k sub, sub < 256 → ¬ (k = b ∧ 0x10 ≤ sub ∧ sub < 0x10 + n) → (clearBank b n s).ob k sub = s.ob k sub := by
  have canon : ∀ j ∈ List.range n, ∀ t : State, Canonical objDefault t.obj → Canonical objDefault (t.setOb b (0x10 + j) 0).obj :=
    fun _ _ _ h => State.setOb_canonical h _ _ _
  refine ⟨forEach_keeps_of_mem (inv := fun t : State => Canonical objDefault t.obj) canon canonical, fun j lt => ?_, fun k sub fits apart => ?_⟩
  · refine forEach_reaches (inv := fun t : State => Canonical objDefault t.obj) (goal := fun t => t.ob b (0x10 + j) = 0)
      (List.mem_range.mpr lt) canon (fun i held t h zero => ?_) (fun t h => State.ob_setOb_eq h _ _ _) canonical
    have := List.mem_range.mp held
    rw [ob_setOb_cases h 0 (by omega) (by omega), zero, ite_self]
  · refine forEach_keeps_of_mem (inv := fun t : State => t.ob k sub = s.ob k sub) (fun i held t same => ?_) rfl
    have := List.mem_range.mp held
    rw [State.ob_setOb_ne t fun key => apart ?_, same]
    have parts := objKey_inj fits (by omega) key
    omega

/-- A clear of every bank leaves each counter at 0. -/
theorem clearAll_zero (few : s.cfg.nstacks ≤ 4) {u : State} (canonical : Canonical objDefault u.obj) {k c j : Nat} (held : (k, c) ∈ s.banks)
    (lt : j < c) : (forEach s.banks (fun x t => clearBank x.1 x.2 t) u).ob k (0x10 + j) = 0 := by
  have size {x : Nat × Nat} (at_ : x ∈ s.banks) : x.2 ≤ 16 := (mem_banks few at_).2.2 ▸ bankSize_le x.1
  refine forEach_reaches (inv := fun t : State => Canonical objDefault t.obj) (goal := fun t => t.ob k (0x10 + j) = 0) held
    (fun x at_ t h => (clearBank_spec h (size at_)).1) (fun x at_ t h zero => ?_) (fun t h => (clearBank_spec h (size held)).2.1 j lt) canonical
  obtain ⟨-, cleared, others⟩ := clearBank_spec (b := x.1) h (size at_)
  have below := size held
  by_cases here : k = x.1 ∧ 0x10 ≤ 0x10 + j ∧ 0x10 + j < 0x10 + x.2
  · rw [here.1]
    exact cleared j (by omega)
  · rw [others k (0x10 + j) (by omega) here, zero]

/-! ### The capture of a snapshot (R493, R494) -/

/-- Every counter is copied. -/
def copyBanks (l : List (Nat × Nat)) (s : State) : State :=
  forEach l (fun x s => forEach (List.range x.2) (fun j s => s.setOb x.1 (0x30 + j) (s.ob x.1 (0x10 + j))) s) s

/-- The counters themselves, and what else lies below the copies, are as they were. -/
def SourcesKept (s t : State) : Prop := Canonical objDefault t.obj ∧ ∀ i sub, sub < 0x30 → t.ob i sub = s.ob i sub

theorem SourcesKept.copied {t : State} (h : SourcesKept s t) {b j : Nat} (small : j < 16) (v : Nat) : SourcesKept s (t.setOb b (0x30 + j) v) := by
  obtain ⟨canon, same⟩ := h
  refine ⟨State.setOb_canonical canon _ _ _, fun i sub low => ?_⟩
  rw [State.ob_setOb_ne t fun key => ?_, same i sub low]
  have := (objKey_inj (by omega) (by omega) key).2
  omega

/-- The copy of one bank. -/
theorem copyBank_spec {b n : Nat} (size : n ≤ 16) {t : State} (h : SourcesKept s t) :
    SourcesKept s (forEach (List.range n) (fun j t => t.setOb b (0x30 + j) (t.ob b (0x10 + j))) t) ∧
    (∀ j < n, (forEach (List.range n) (fun j t => t.setOb b (0x30 + j) (t.ob b (0x10 + j))) t).ob b (0x30 + j) = s.ob b (0x10 + j)) ∧
    ∀ k j, j < 16 → t.ob k (0x30 + j) = s.ob k (0x10 + j) →
      (forEach (List.range n) (fun j t => t.setOb b (0x30 + j) (t.ob b (0x10 + j))) t).ob k (0x30 + j) = s.ob k (0x10 + j) := by
  have step : ∀ j ∈ List.range n, ∀ t, SourcesKept s t → SourcesKept s (t.setOb b (0x30 + j) (t.ob b (0x10 + j))) := fun j held t h =>
    h.copied (lt_of_lt_of_le (List.mem_range.mp held) size) _
  have keeps (k j : Nat) (small : j < 16) : ∀ i ∈ List.range n, ∀ t, SourcesKept s t → t.ob k (0x30 + j) = s.ob k (0x10 + j) →
      (t.setOb b (0x30 + i) (t.ob b (0x10 + i))).ob k (0x30 + j) = s.ob k (0x10 + j) := fun i held t h copied => by
    have lt := List.mem_range.mp held
    rw [ob_setOb_cases h.1 _ (by omega) (by omega), h.2 b (0x10 + i) (by omega), copied]
    split
    next same => rw [same.1, show i = j by omega]
    next => rfl
  refine ⟨forEach_keeps_of_mem step h, fun j lt => ?_, fun k j small copied => ?_⟩
  · refine forEach_reaches (goal := fun t : State => t.ob b (0x30 + j) = s.ob b (0x10 + j)) (List.mem_range.mpr lt) step
      (keeps b j (by omega)) (fun t h => ?_) h
    rw [State.ob_setOb_eq h.1, h.2 b (0x10 + j) (by omega)]
  · exact (forEach_keeps_of_mem (inv := fun t : State => SourcesKept s t ∧ t.ob k (0x30 + j) = s.ob k (0x10 + j))
      (fun i held t both => ⟨step i held t both.1, keeps k j small i held t both.1 both.2⟩) ⟨h, copied⟩).2

/-- Every copy holds its counter, and no counter has changed. -/
theorem copyBanks_spec {l : List (Nat × Nat)} (sizes : ∀ x ∈ l, x.2 ≤ 16) (canonical : Canonical objDefault s.obj) :
    SourcesKept s (copyBanks l s) ∧ ∀ k c, (k, c) ∈ l → ∀ j < c, (copyBanks l s).ob k (0x30 + j) = s.ob k (0x10 + j) := by
  have start : SourcesKept s s := ⟨canonical, fun _ _ _ => rfl⟩
  refine ⟨forEach_keeps_of_mem (inv := SourcesKept s) (fun x at_ t h => (copyBank_spec (sizes x at_) h).1) start, fun k c held j lt => ?_⟩
  have below : c ≤ 16 := sizes _ held
  exact forEach_reaches (inv := SourcesKept s) (goal := fun t : State => t.ob k (0x30 + j) = s.ob k (0x10 + j)) held
    (fun x at_ t h => (copyBank_spec (sizes x at_) h).1)
    (fun x at_ t h copied => (copyBank_spec (sizes x at_) h).2.2 k j (by omega) copied) (fun t h => (copyBank_spec below h).2.1 j lt) start

theorem snapshotCapture_spec (few : s.cfg.nstacks ≤ 4) (canonical : Canonical objDefault s.obj) (asked : s.ob 0x7000 3 = 1)
    (due : s.ob 0x7000 1 ≤ s.setNs) (on : s.power.node ≠ .off) (runs : s.power.node ≠ .boot) :
    (∀ k c, (k, c) ∈ s.banks → ∀ j < c, (snapshotCapture s).ob k (0x30 + j) = s.ob k (0x10 + j)) ∧
      (snapshotCapture s).ob 0x7000 4 = s.ob 0x7000 1 ∧ (snapshotCapture s).ob 0x7000 5 = s.capturers ∧ (snapshotCapture s).ob 0x7000 3 ≠ 1 := by
  have size {x : Nat × Nat} (at_ : x ∈ s.banks) : x.2 ≤ 16 := (mem_banks few at_).2.2 ▸ bankSize_le x.1
  obtain ⟨copied, copies⟩ := copyBanks_spec (l := s.banks) (fun x => size) canonical
  have copying : Fr 64 s (copyBanks s.banks s) := forEach_fr (.refl _ _) fun _ _ => forEach_fr (.refl _ _) fun _ _ => State.setOb_fr (.refl _ _)
  have members : (copyBanks s.banks s).capturers = s.capturers := by
    simp only [State.capturers, State.others, State.me, copying.hl (by decide), copying.power (by decide), copying.pins (by decide)]
  unfold snapshotCapture
  rw [if_neg (by simp [asked, on]; omega), if_neg runs]
  extract_lets u m v w
  change SourcesKept s u at copied
  change ∀ k c, (k, c) ∈ s.banks → ∀ j < c, u.ob k (0x30 + j) = s.ob k (0x10 + j) at copies
  have shown : m = s.capturers := members
  obtain ⟨canon, sources⟩ := copied
  clear_value u m
  have told : u.ob 0x7000 1 = s.ob 0x7000 1 := sources _ _ (by decide)
  have canon2 : Canonical objDefault (u.bump 0x7000 2).obj := State.setOb_canonical canon _ _ _
  have canon4 : Canonical objDefault v.obj := State.setOb_canonical canon2 _ _ _
  have canon5 : Canonical objDefault (v.setOb 0x7000 5 m).obj := State.setOb_canonical canon4 _ _ _
  refine ⟨fun k c held j lt => ?_, ?_, ?_, ?_⟩
  · have bank := (mem_banks few held).1
    have below : c ≤ 16 := size held
    rw [ob_setOb_other_index (by omega) (by decide) (by omega), ob_setOb_other_index (by omega) (by decide) (by omega),
      ob_setOb_other_index (by omega) (by decide) (by omega), ob_setOb_other_index (by omega) (by decide) (by omega),
      State.bump, State.bumpBy, ob_setOb_other_index (by omega) (by decide) (by omega)]
    exact copies k c held j lt
  · rw [State.ob_setOb_sub _ (by decide), State.ob_setOb_sub _ (by decide), State.ob_setOb_sub _ (by decide), State.ob_setOb_eq canon2, told]
  · rw [State.ob_setOb_sub _ (by decide), State.ob_setOb_sub _ (by decide), State.ob_setOb_eq canon4, shown]
  · rw [State.ob_setOb_sub _ (by decide), State.ob_setOb_eq canon5]
    split <;> decide

/-! ### The commands -/

/-- An object above the log's after the answer of a write. -/
theorem answered_ob_high (r : Req) (u : State) {k a : Nat} (high : 0x7000 ≤ k) (fits : a < 256) : (answer r St.ok 0 u).ob k a = u.ob k a :=
  (answer_reports r St.ok 0 u).objects k a fits (by simp only [logObject, Bool.or_eq_false_iff, beq_eq_false_iff_ne]; omega)

theorem ordered_cfg (r : Req) (s : State) : (s.ordered r).cfg = s.cfg := begun_cfg r s

theorem ordered_setNs (r : Req) (s : State) : (s.ordered r).setNs = s.setNs := by
  simp only [State.setNs, ordered_setTicks, ordered_hl, ordered_now, ordered_power]

theorem ordered_me (r : Req) (s : State) : (s.ordered r).me = s.me := congrArg Pins.nodeId (begun_pins r s)

theorem banks_of_cfg {t : State} (same : t.cfg = s.cfg) : t.banks = s.banks := by
  simp only [State.banks, State.channels, same]

theorem bankIdx_of_mem (few : s.cfg.nstacks ≤ 4) {b n : Nat} (held : (b, n) ∈ s.banks) : bankIdx b = b := by
  obtain ⟨low, high, -⟩ := mem_banks few held
  exact if_pos (by simp [low, high])

theorem bankClearHome_done (few : s.cfg.nstacks ≤ 4) {b n : Nat} (held : (b, n) ∈ s.banks) (who : Completer) :
    bankClearHome b who s = .done (clearBank b n s) := by
  have found : s.banks.find? (fun x => x.1 == b) = some (b, n) := by
    cases looked : s.banks.find? fun x => x.1 == b with
    | none => exact absurd (List.find?_eq_none.mp looked _ held) (by simp)
    | some x =>
      have key : x.1 = b := by simpa using List.find?_some looked
      have size : x.2 = n := (mem_banks few (List.mem_of_find?_eq_some looked)).2.2.trans ((key ▸ rfl : bankSize x.1 = bankSize b).trans
        (mem_banks few held).2.2.symm)
      rw [← key, ← size]
  simp only [bankClearHome, applyHome, found]

theorem snapshotHome_done {v : Nat} {lead : Bool} {who : Completer} (given : 0 < v) (idle : s.ob 0x7000 3 ≠ 1) (later : s.setNs + 10000 ≤ v) :
    snapshotHome v lead who s = .done ((s.setOb 0x7000 1 v).setOb 0x7000 3 1) := by
  have known : (if v = 0 then (s.setNs + 20000 + 999) / 1000 * 1000 else v) = v := if_neg (by omega)
  unfold snapshotHome
  dsimp only
  rw [known, if_neg idle, if_neg (by simp only [Bool.and_eq_true, decide_eq_true_eq]; omega)]

theorem filterHome_base {b v : Nat} {who : Completer} : filterHome b 1 v 1 who s = .done (s.setOb b 1 v) := rfl

theorem filterHome_low {b v : Nat} {who : Completer} (below : v ≤ s.ob b 3) : filterHome b 2 v 1 who s = .done (s.setOb b 2 v) := by
  unfold filterHome
  exact if_neg (by simpa using below)

theorem consumedHome_done {v : Nat} {who : Completer} (held : v ∈ s.sampler.ring.map (·.seq)) (other : s.ob 0x7100 6 ≠ v)
    (stops : s.sampleControl.testBit 13 = false) : consumedHome v who s =
      .done (((s.setOb 0x7100 8 v).setOb 0x7100 7 v).setSampler { s.sampler with ring := s.sampler.ring.dropWhile fun x => x.seq != v }) := by
  have control : (s.setOb 0x7100 8 v).sampleControl = s.sampleControl := State.ob_setOb_sub _ (by decide)
  unfold consumedHome
  dsimp only
  rw [if_neg (by simpa using fun away => absurd held (by simpa using away)), control, if_neg (by simp [stops]), if_neg other.symm] <;> rfl

/-- A countdown without jitter starts from the seed (R496). -/
theorem loadSampler_plain (plain : bits 9 5 s.sampleControl = 0) : (loadSampler s).sampler.lfsr =
    let w := (s.ob 0x7100 5 ^^^ (s.me * 2 ^ 24)) % 2 ^ 32; if w = 0 then 1 else w := by
  unfold loadSampler nextInterval
  dsimp only
  rw [plain]
  rfl

/-- Settles O33. -/
theorem countersAndSampler : Obligations.CountersAndSampler := by
  unfold Obligations.CountersAndSampler
  intro s r v b n inv
  have few := inv.stackCount.2
  have ordered := ordered_canonical (r := r) inv.objects
  have begun := begun_canonical (r := r) inv.objects
  refine ⟨fun orders given fits idle later => ?_, fun asked due on runs => ⟨_, rfl, snapshotCapture_spec few inv.objects asked due on runs⟩,
    fun idle => congrArg Host.Outcome.next (if_pos (by simp [idle])), fun held applies => ?_, fun orders => ?_,
    fun held applies fits => ?_, fun held applies fits above => ?_, fun orders fits => ?_, fun orders fits plain => ?_,
    fun applies fits held other stops => ?_⟩
  · have does : snapshotHome (v % 2 ^ 64) s.isLead (.order (s.begun r).mgmt.nextOrder) (s.ordered r) =
        .done (((s.ordered r).setOb 0x7000 1 v).setOb 0x7000 3 1) := by
      rw [Nat.mod_eq_of_lt fits]
      exact snapshotHome_done given (by rw [ordered_ob r s 0x7000 3]; exact idle) (by rw [ordered_setNs]; exact later)
    refine ⟨_, congrArg Host.Outcome.next (dictWrite_orders orders does rfl), ?_, ?_⟩
    · rw [answered_ob_high r _ (by decide) (by decide), State.ob_setOb_sub _ (by decide), State.ob_setOb_eq ordered]
    · rw [answered_ob_high r _ (by decide) (by decide), State.ob_setOb_eq (State.setOb_canonical ordered _ _ _)]
  · obtain ⟨low, high, size⟩ := mem_banks few held
    obtain ⟨-, cleared, others⟩ := clearBank_spec (s := s.begun r) (b := b) begun (size ▸ bankSize_le b)
    have runs : exec (.bankClear r b) s = .next (answer r St.ok 0 (clearBank b n (s.begun r))) := by
      show Host.Outcome.next (dictWrite r (bankIdx b) 4 [1] (bankClearHome (bankIdx b)) s) = _
      rw [bankIdx_of_mem few held]
      exact congrArg Host.Outcome.next (dictWrite_done applies (bankClearHome_done (begun_cfg r s ▸ few) (banks_of_cfg (begun_cfg r s) ▸ held) _))
    refine ⟨_, runs, fun j lt => ?_, fun k sub apart fits high' => ?_⟩
    · have := size ▸ bankSize_le b
      rw [answered_ob_high r _ (by omega) (by omega), cleared j lt]
    · rw [answered_ob_high r _ high' fits, others k sub fits fun here => apart here.1]
      exact begun_ob r s k sub (by simp only [logObject, Bool.or_eq_false_iff, beq_eq_false_iff_ne]; omega) fits
  · have clears : clearAllHome (.order (s.begun r).mgmt.nextOrder) (s.ordered r) =
        .done (forEach s.banks (fun x t => clearBank x.1 x.2 t) (s.ordered r)) := by
      rw [← banks_of_cfg (ordered_cfg r s)] <;> rfl
    have objects : Fr 64 (s.ordered r) (forEach s.banks (fun x t => clearBank x.1 x.2 t) (s.ordered r)) :=
      forEach_fr (.refl _ _) fun _ _ => clearBank_fr (.refl _ _)
    refine ⟨_, congrArg Host.Outcome.next (dictWrite_orders orders clears ((congrArg Mgmt.setWrites (objects.mgmt (by decide))).trans rfl)),
      fun k c held j lt => ?_⟩
    obtain ⟨low, high, size⟩ := mem_banks few held
    have := size ▸ bankSize_le k
    rw [answered_ob_high r _ (by omega) (by omega), clearAll_zero few ordered held lt]
  · have low := (mem_banks few held).1
    have runs : exec (.bankFilterWrite r b 1 v) s = .next (answer r St.ok 0 ((s.begun r).setOb b 1 v)) := by
      show Host.Outcome.next (dictWrite r (bankIdx b) 1 (leBytes 8 v) (filterHome (bankIdx b) 1 (v % 2 ^ 64) 1) s) = _
      rw [bankIdx_of_mem few held, Nat.mod_eq_of_lt fits]
      exact congrArg Host.Outcome.next (dictWrite_done applies filterHome_base)
    exact ⟨_, runs, (answered_ob_high r _ (by omega) (by decide)).trans (State.ob_setOb_eq begun _ _ _)⟩
  · have low := (mem_banks few held).1
    have runs : exec (.bankFilterWrite r b 2 v) s = .next (answer r St.ok 0 ((s.begun r).setOb b 2 v)) := by
      show Host.Outcome.next (dictWrite r (bankIdx b) 2 (leBytes 8 v) (filterHome (bankIdx b) 2 (v % 2 ^ 64) 1) s) = _
      rw [bankIdx_of_mem few held, Nat.mod_eq_of_lt fits]
      refine congrArg Host.Outcome.next (dictWrite_done applies (filterHome_low ?_))
      rw [begun_ob r s b 3 (by simp only [logObject, Bool.or_eq_false_iff, beq_eq_false_iff_ne]; omega)]
      exact above
    exact ⟨_, runs, (answered_ob_high r _ (by omega) (by decide)).trans (State.ob_setOb_eq begun _ _ _)⟩
  · have runs : exec (.sampleControlWrite r v) s = .next (answer r St.ok 0 (loadSampler ((s.ordered r).setOb 0x7100 1 v))) := by
      show Host.Outcome.next (dictWrite r 0x7100 1 (leBytes 4 v) (samplerHome 1 (v % 2 ^ 32)) s) = _
      rw [Nat.mod_eq_of_lt fits]
      exact congrArg Host.Outcome.next (dictWrite_orders orders rfl rfl)
    have sampler := (answer_reports r St.ok 0 (loadSampler ((s.ordered r).setOb 0x7100 1 v))).sampler
    refine ⟨_, runs, (answered_ob_high r _ (by decide) (by decide)).trans (State.ob_setOb_eq ordered _ _ _), ?_⟩
    rw [sampler]
    have kept := congrArg Sampler.ring (countFrame_sampler s r)
    exact ⟨rfl, kept⟩
  · have runs : exec (.lfsrSeedWrite r v) s = .next (answer r St.ok 0 (loadSampler ((s.ordered r).setOb 0x7100 5 v))) := by
      show Host.Outcome.next (dictWrite r 0x7100 5 (leBytes 4 v) (samplerHome 5 (v % 2 ^ 32)) s) = _
      rw [Nat.mod_eq_of_lt fits]
      exact congrArg Host.Outcome.next (dictWrite_orders orders rfl rfl)
    have control : ((s.ordered r).setOb 0x7100 5 v).sampleControl = s.ob 0x7100 1 :=
      (State.ob_setOb_sub _ (by decide)).trans (ordered_ob r s 0x7100 1)
    have sampler := (answer_reports r St.ok 0 (loadSampler ((s.ordered r).setOb 0x7100 5 v))).sampler
    refine ⟨_, runs, (answered_ob_high r _ (by decide) (by decide)).trans (State.ob_setOb_eq ordered _ _ _), ?_⟩
    rw [sampler, loadSampler_plain (by rw [control]; exact plain), State.ob_setOb_eq ordered, ← ordered_me r s]
    rfl
  · have ring : (s.begun r).sampler = s.sampler := countFrame_sampler s r
    have done := consumedHome_done (s := s.begun r) (v := v) (who := .req r) (by rw [ring]; exact held) (by rw [begun_ob r s 0x7100 6]; exact other)
      (by rw [State.sampleControl, begun_ob r s 0x7100 1]; exact stops)
    have runs : exec (.consumedWrite r v) s = .next (dictWrite r 0x7100 8 (leBytes 4 v) (consumedHome v) s) := by
      show Host.Outcome.next (dictWrite r 0x7100 8 (leBytes 4 v) (consumedHome (v % 2 ^ 32)) s) = _
      rw [Nat.mod_eq_of_lt fits]
    refine ⟨_, runs.trans (congrArg Host.Outcome.next (dictWrite_done applies done)), ?_, ?_, ?_⟩
    · exact (answered_ob_high r _ (by decide) (by decide)).trans ((State.ob_setOb_sub _ (by decide)).trans (State.ob_setOb_eq begun _ _ _))
    · exact (answered_ob_high r _ (by decide) (by decide)).trans (State.ob_setOb_eq (State.setOb_canonical begun _ _ _) _ _ _)
    · rw [(answer_reports r St.ok 0 _).sampler, ring]
      rfl

end

end Sys2Proof.Machine

/-!
PROOF. Sources, domains, monitors and the trim of KSO, and the settling of O56 (R397, R398, R402 to R406).
-/
namespace Sys2Proof.Machine

-- One proof after another, each on a stack of its own, for the check's memory.
set_option Elab.async false

section
variable {s t : State} {m u : Nat}

/-! ### Sources (R397, R398) -/

theorem exec_sourceStable (source : s.isSource m = true) : exec (.sourceStable m) s = .next (serveAll (sourceStable m s)) := if_pos source

theorem sourceStable_of_due {from_ : Nat} (since : (s.source m).since = some from_) (due : s.elapsed from_ (s.stableAfter m) = true)
    (reference : s.reference m = true) : sourceStable m s = nowStable m (s.setSource m .stable) := by
  unfold sourceStable
  simp only [since, due, reference, Bool.not_true, Bool.or_self, Bool.false_eq_true, if_false]

theorem sourceStable_of_early {from_ : Nat} (since : (s.source m).since = some from_) (early : s.elapsed from_ (s.stableAfter m) = false) :
    sourceStable m s = s := by
  unfold sourceStable
  simp only [since, early, Bool.not_false, Bool.true_or, if_true]

theorem sourceStable_of_idle (since : (s.source m).since = none) : sourceStable m s = s := by
  unfold sourceStable
  simp only [since, Bool.not_false, Bool.true_or, if_true]

/-- A domain reads as it was set. -/
theorem setDomain_domain (canonical : Canonical objDefault s.obj) (u src div : Nat) : (setDomain u src div s).domain u = 256 * div + src :=
  State.ob_setOb_eq canonical _ _ _

theorem nowStable_sheaf (few : u < 32) : nowStable (srcSheaf u) s = sheafPllStable u s := by
  have shape : nowStable (u + 16) s = if u + 16 < 0x30 then sheafPllStable (u + 16 - 0x10) s else s := rfl
  rw [srcSheaf, Nat.add_comm, shape, if_pos (by omega), Nat.add_sub_cancel]

/-- The start of a domain on its PLL (R399). -/
theorem sheafPllStable_starts (canonical : Canonical objDefault s.obj) (stopped : s.domain u % 256 = 0) (settled : s.waits u = false) :
    (sheafPllStable u s).domain u = 256 + 2 := by
  unfold sheafPllStable
  extract_lets back src restarted
  have keeps : restarted.waits u = false := settled
  have zero : restarted.domain u % 256 = 0 := stopped
  rw [keeps, zero]
  exact setDomain_domain (s := restarted) canonical u 2 1

/-- Without an edge of sv_ref_b, the Keeper PLL starts on sv_ref_a where that is stable. -/
theorem refBAbsent_spec (canonical : Canonical objDefault s.obj) (due : s.elapsed s.power.vkeepAt (2621440 * nsT) = true)
    (unstable : s.stable srcRefB = false) (absent : s.ob 0xB001 5 = 0) :
    (refBAbsent s).ob 0xB001 5 = 0 ∧
      (s.stable srcRefA = true → s.source srcKeeperPll = .off → (refBAbsent s).source srcKeeperPll = .counting s.now) := by
  have runs : refBAbsent s = (if ((s.setSource srcRefB .off).setOb 0xB001 5 0).stable srcRefA &&
        ((s.setSource srcRefB .off).setOb 0xB001 5 0).source srcKeeperPll == .off then
      ((s.setSource srcRefB .off).setOb 0xB001 5 0).setSource srcKeeperPll (.counting s.now)
      else (s.setSource srcRefB .off).setOb 0xB001 5 0) := by
    refine (if_neg ?_ : refBAbsent s = _)
    simp [due, unstable, absent]
  have zero : ((s.setSource srcRefB .off).setOb 0xB001 5 0).ob 0xB001 5 = 0 :=
    State.ob_setOb_eq (s := s.setSource srcRefB .off) canonical _ _ _
  rw [runs]
  refine ⟨?_, fun stable off => ?_⟩
  · split
    · exact zero
    · exact zero
  · have refA : ((s.setSource srcRefB .off).setOb 0xB001 5 0).stable srcRefA = true := by
      rw [← stable]
      exact congrArg (· == SourceState.stable) (look_put_ne _ (by decide))
    have pll : ((s.setSource srcRefB .off).setOb 0xB001 5 0).source srcKeeperPll = .off := (look_put_ne _ (by decide)).trans off
    rw [if_pos (by rw [refA, pll]; rfl)]
    exact look_put_of_ne (by simp) _ _

/-! ### Dividers and fallbacks (R402, R406) -/

theorem exec_dividerStep (held : u < s.sheaves) : exec (.dividerStep u) s = .next (serveAll (dividerStep u s)) :=
  if_pos (by rw [decide_eq_true held]; rfl)

/-- At a start, a domain on FO moves to its PLL at divider 6. -/
theorem dividerStep_moves (sheaf : u ≠ keeperDomain) (fo : s.domain u % 256 = 1) (stable : s.stable (srcSheaf u) = true)
    (counted : s.elapsed s.clk.refAFrom (655360 * nsT) = true) : dividerStep u s = setDomain u 2 6 s := by
  unfold dividerStep
  dsimp only
  rw [if_neg sheaf, if_pos (by simp [fo, stable, counted])]

/-- A domain that does not move to its PLL steps towards 1 when a step is due. -/
theorem dividerStep_steps (sheaf : u ≠ keeperDomain) (stays : s.domain u % 256 = 1 → s.stable (srcSheaf u) = false)
    {src div : Nat} (runs : src = 1 ∨ src = 2) (word : s.domain u = 256 * (div + 2) + src) :
    dividerStep u s = if s.elapsed (look 0 u s.clk.stepped) usTicks = true then setDomain u src (div + 1) s else s := by
  have source : s.domain u % 256 = src := by omega
  have divider : s.domain u / 256 = div + 2 := by omega
  unfold dividerStep
  dsimp only
  have not_moving : ¬ (decide (s.domain u % 256 = 1) && s.stable (srcSheaf u) && s.elapsed s.clk.refAFrom (655360 * nsT)) = true := by
    by_cases fo : s.domain u % 256 = 1
    · simp [stays fo]
    · simp [fo]
  rw [if_neg sheaf, if_neg not_moving, source, divider]
  by_cases due : s.elapsed (look 0 u s.clk.stepped) usTicks = true
  · rw [if_pos due, if_pos (by simpa [due] using runs)]
    rfl
  · rw [if_neg due, if_neg (by simp [due])]

/-- A domain that is on its PLL at divider 1 stays. -/
theorem dividerStep_of_full (sheaf : u ≠ keeperDomain) (full : s.domain u = 256 + 2) : dividerStep u s = s := by
  unfold dividerStep
  dsimp only
  rw [if_neg sheaf, full, if_neg (by simp), if_neg (by simp)]

theorem exec_fallbackTimeout (held : u < s.sheaves) : exec (.fallbackTimeout u) s = .next (serveAll (fallbackTimeout u s)) :=
  if_pos (by rw [decide_eq_true held]; rfl)

theorem fallbackTimeout_of_none (none_ : look none u s.clk.waiting = none) : fallbackTimeout u s = s := by
  unfold fallbackTimeout
  rw [none_]

theorem fallbackTimeout_of_some {from_ : Nat} (sheaf : u ≠ keeperDomain) (waits : look none u s.clk.waiting = some from_) :
    fallbackTimeout u s = if s.elapsed from_ (s.fallbackLimit u) = true ∧ s.power.node ≠ .halted then
      enterHalted Ev.clockHalt true (raise Ev.clockHalt u 0 (setKeeper 2 1 s)) else s := by
  unfold fallbackTimeout
  rw [waits]
  dsimp only
  rw [if_neg sheaf, if_neg sheaf]
  by_cases due : s.elapsed from_ (s.fallbackLimit u) = true <;> by_cases halted : s.power.node = .halted <;> simp [due, halted]

/-! ### Monitors (R404, R405) -/

theorem exec_clockMonitorWindow (source : s.isSource m = true) (count : Nat) (ended lock off1 off2 : Bool) :
    exec (.clockMonitorWindow m count ended lock off1 off2) s = .next (serveAll (monitorWindow m count ended lock off1 off2 s)) :=
  if_pos source

theorem monitorWindow_of_unstable (unstable : s.stable m = false) (count : Nat) (ended lock off1 off2 : Bool) :
    monitorWindow m count ended lock off1 off2 s = s := by
  unfold monitorWindow
  simp only [unstable, Bool.false_and, Bool.not_false, if_true]

/-- The count shown changes nothing that a window is judged by. -/
theorem countBad_shown (count shown : Nat) (small : m < 256) : (s.setOb 0xB002 m shown).countBad m count = s.countBad m count := by
  have other (idx sub : Nat) (ne : idx ≠ 0xB002) (fits : sub < 256) : (s.setOb 0xB002 m shown).ob idx sub = s.ob idx sub :=
    ob_setOb_other_index fits small ne
  have expected : (s.setOb 0xB002 m shown).expectedCount m = s.expectedCount m := by
    unfold State.expectedCount
    rw [other 0xB005 1 (by decide) (by decide)]
    split <;> try rfl
    split
    · rw [other 0xB020 _ (by decide) (by omega)]
    · rfl
  unfold State.countBad
  rw [expected]

/-- What a window of a monitor that acts does: it shows the count, and where that or the lock is bad the clock trips, KFO for KSO and itself
while there is no sv_ref_a. -/
theorem monitorWindow_of_armed (small : m < 256) (stable : s.stable m = true) (partner : s.stable (partnerSource m) = true) (ne : m ≠ 7)
    {count : Nat} {ended lock bad : Bool} (judged : (!ended || s.countBad m count || (!lock && (m == 6 || decide (0x10 ≤ m)))) = bad)
    (off1 off2 : Bool) :
    (bad = false → monitorWindow m count ended lock off1 off2 s = s.setOb 0xB002 m (count % 2 ^ 24)) ∧
    (bad = true → m ≠ 4 → m ≠ 5 → monitorWindow m count ended lock off1 off2 s = clockTrip m (s.setOb 0xB002 m (count % 2 ^ 24))) ∧
    (bad = true → m = 4 ∨ m = 5 → s.stable srcRefA = false →
      monitorWindow m count ended lock off1 off2 s = clockTrip srcKfo (s.setOb 0xB002 m (count % 2 ^ 24))) := by
  unfold monitorWindow
  extract_lets armed shown bad'
  have acts : ¬ (!armed) = true := by simp [armed, stable, partner, ne]
  have same : bad' = bad := by
    rw [← judged, ← countBad_shown count (count % 2 ^ 24) small]
  rw [if_neg acts, same]
  refine ⟨fun good => if_pos (by simp [good]), fun bad notKfo notKso => ?_, fun bad either unstable => ?_⟩
  · rw [if_neg (by simp [bad]), if_neg (by simp [notKfo, notKso])]
  · have off : shown.stable srcRefA = false := unstable
    rw [if_neg (by simp [bad]), if_pos (by simpa using either), if_pos (by simp [off])]

theorem countBad_fo (count : Nat) : s.countBad srcFo count = (decide (count < 4015) || decide (4177 < count)) := by
  have shape : s.countBad srcFo count = (count == 0 || decide (50 * (count * 1) < 49 * 4096) || decide (51 * 4096 < 50 * (count * 1))) := rfl
  rw [shape, Bool.eq_iff_iff]
  simp only [Bool.or_eq_true, beq_iff_eq, decide_eq_true_eq]
  omega

/-! ### A sheaf PLL that is not back (R209, R405) -/

/-- The failure of one channel leaves the state of every other. -/
theorem failChannel_other {c d : Nat} (ne : c ≠ d) : (failChannel d s).chanState c = s.chanState c := by
  by_cases failed : s.chanState d = 2
  · rw [failChannel, if_pos failed]
  · have set : ChanKept c trainingSub s (s.setChanState d 2) :=
      (ChanKept.refl c trainingSub s).setObAt 2 (by decide) fun same => absurd same (by unfold chanIdx; omega)
    have told := set.reports (raise_reports Ev.channelFailed d 0 _)
    have kept : ChanKept c trainingSub s (failChannel d s) := by
      unfold failChannel
      rw [if_neg failed]
      refine ChanKept.syncDepth (ChanKept.fenceStreams (.forEach (fun _ v => (ChanKept.refl _ _ v).modAsk.retire) (.forEach
        (fun _ v => (ChanKept.refl _ _ v).finish) (.forEach (fun _ v => (ChanKept.refl _ _ v).finish) (.forEach (fun r v => ?_)
          ((told.framed (State.setChan_fr (.refl _ _))).framed (loseContent_fr (.refl _ _))))))))
      have same := ChanKept.refl c trainingSub v
      split
      · exact same.finish
      · exact same.feedRefused
      · exact same.framed (State.setPath_fr (.refl _ _))
      · exact same
    exact kept.objects 1 (by decide) (.inl rfl)

/-- A loop that fails those channels of a list that train or serve fails exactly those. -/
theorem failServing_spec (inv : s.Inv) (l : List Nat) :
    let t := forEach l (fun c s => if s.chanState c = 1 then failChannel c s else s) s
    (∀ c ∈ l, s.chanState c = 1 → t.chanState c = 2) ∧ ∀ c, s.chanState c ≠ 1 → t.chanState c = s.chanState c := by
  have keeps (d : Nat) (v : State) (good : v.Inv) : (if v.chanState d = 1 then failChannel d v else v).Inv :=
    (Keeps.ite (failChannel_keeps (.refl v)) (.refl v)).inv good
  refine ⟨fun c at_ serves => ?_, fun c rests => ?_⟩
  · refine forEach_reaches (inv := fun v : State => v.Inv ∧ (v.chanState c = 1 ∨ v.chanState c = 2)) (goal := fun v => v.chanState c = 2) at_
      (fun d _ v both => ⟨keeps d v both.1, ?_⟩) (fun d _ v both failed => ?_) (fun v both => ?_) ⟨inv, .inl serves⟩
    · by_cases same : c = d
      · subst same
        split
        · exact .inr (failChannel_chanState both.1 c)
        · exact both.2
      · split
        · rw [failChannel_other same]
          exact both.2
        · exact both.2
    · by_cases same : c = d
      · subst same
        rw [if_neg (by omega), failed]
      · split
        · rw [failChannel_other same, failed]
        · exact failed
    · split
      · exact failChannel_chanState both.1 c
      next out => exact both.2.resolve_left out
  · refine forEach_keeps_of_mem (inv := fun v : State => v.chanState c = s.chanState c) (fun d _ v same => ?_) rfl
    by_cases here : c = d
    · subst here
      rw [if_neg (by omega), same]
    · split
      · rw [failChannel_other here, same]
      · exact same

theorem exec_sheafPllRestartLimit (held : u < s.sheaves) : exec (.sheafPllRestartLimit u) s = .next (serveAll (pllRestartLimit u s)) :=
  if_pos (decide_eq_true held)

theorem pllRestartLimit_of_late (tripped : look 0 u s.clk.pllTrip ≠ 0) (late : s.elapsed (look 0 u s.clk.pllTrip - 1) (40 * msT) = true) :
    pllRestartLimit u s = forEach (sheafChannels u) (fun c s => if s.chanState c = 1 then failChannel c s else s)
      (s.setClk { s.clk with pllTrip := put 0 u 0 s.clk.pllTrip }) := by
  unfold pllRestartLimit
  exact if_neg (by simp [tripped, late])

/-! ### The trim of KSO (R403) -/

/-- The error of a measurement, and the step of the trim code it asks for. -/
def trimError (count expected : Nat) : Int := ((expected : Int) - count) * 1000000 / expected
def trimStep (err : Int) : Int := if err.natAbs ≤ 500 then 0 else if (0 < err) == Config.trimRises then -1 else 1

theorem trimMeasurement_spec {plca : Bool} {count expected : Nat} (runs : s.stable srcKso = true) (choice : s.trimChoice plca = true)
    (some_ : expected ≠ 0) :
    trimMeasurement plca count expected s =
      (((s.setOb 0xB001 2 (min 255 ((s.ob 0xB001 2 : Int) + trimStep (trimError count expected)).toNat)).setOb 0xB001 3
        (if plca then 2 else 1)).setOb 0xB001 4 (unsigned 32 (trimError count expected))).setClk { s.clk with
          trimGood := if (trimError count expected).natAbs ≤ 1000 then s.clk.trimGood + 1 else 0, trimAt := s.now, trimStale := false } :=
  if_neg (by simp [runs, choice, some_])

theorem trimStep_small (err : Int) : (err.natAbs ≤ 500 → trimStep err = 0) ∧ -1 ≤ trimStep err ∧ trimStep err ≤ 1 := by
  unfold trimStep
  split
  next small => exact ⟨fun _ => rfl, by decide, by decide⟩
  next large =>
    refine ⟨fun small => absurd small large, ?_⟩
    split
    · decide
    · decide

theorem State.ob_setClk (k : Clocks) (idx sub : Nat) : (s.setClk k).ob idx sub = s.ob idx sub := rfl

/-- The three objects of a trim read as they were set. -/
theorem trimObjects (canonical : Canonical objDefault s.obj) (code source error : Nat) :
    (((s.setOb 0xB001 2 code).setOb 0xB001 3 source).setOb 0xB001 4 error).ob 0xB001 2 = code ∧
    (((s.setOb 0xB001 2 code).setOb 0xB001 3 source).setOb 0xB001 4 error).ob 0xB001 3 = source ∧
    (((s.setOb 0xB001 2 code).setOb 0xB001 3 source).setOb 0xB001 4 error).ob 0xB001 4 = error := by
  have trimmed := State.setOb_canonical canonical 0xB001 2 code
  have sourced := State.setOb_canonical trimmed 0xB001 3 source
  refine ⟨?_, ?_, State.ob_setOb_eq sourced _ _ _⟩
  · rw [State.ob_setOb_sub _ (by decide), State.ob_setOb_sub _ (by decide), State.ob_setOb_eq canonical]
  · rw [State.ob_setOb_sub _ (by decide), State.ob_setOb_eq trimmed]

theorem gives_ksoTrim (canonical : Canonical objDefault s.obj) {plca : Bool} {count expected want : Nat} {err : Int}
    (wanted : want = if plca then expected else 25000) (some_ : want ≠ 0)
    (error : err = ((want : Int) - count) * 1000000 / want) (runs : s.stable srcKso = true) (choice : s.trimChoice plca = true) (fits : s.ob 0xB001 2 ≤ 255) :
    Gives (.ksoTrimMeasurement plca count expected) s fun t =>
      t.ob 0xB001 4 = unsigned 32 err ∧ t.ob 0xB001 3 = (if plca then 2 else 1) ∧ t.clk.trimAt = s.now ∧ t.clk.trimStale = false ∧
      (err.natAbs ≤ 500 → t.ob 0xB001 2 = s.ob 0xB001 2) ∧
      (t.ob 0xB001 2 ≤ s.ob 0xB001 2 + 1 ∧ s.ob 0xB001 2 ≤ t.ob 0xB001 2 + 1 ∧ t.ob 0xB001 2 ≤ 255) ∧
      t.clk.trimGood = (if err.natAbs ≤ 1000 then s.clk.trimGood + 1 else 0) := by
  have measured := trimMeasurement_spec (count := count) runs choice some_
  have named : err = trimError count want := error
  rw [← named] at measured
  have run : exec (.ksoTrimMeasurement plca count expected) s = .next (trimMeasurement plca count want s) := by rw [wanted]; rfl
  obtain ⟨zero, low, high⟩ := trimStep_small err
  obtain ⟨code, source, shown⟩ := trimObjects canonical (min 255 ((s.ob 0xB001 2 : Int) + trimStep err).toNat) (if plca then 2 else 1)
    (unsigned 32 err)
  have stays : err.natAbs ≤ 500 → min 255 ((s.ob 0xB001 2 : Int) + trimStep err).toNat = s.ob 0xB001 2 := fun small => by
    rw [zero small]
    omega
  refine ⟨_, run.trans (congrArg Host.Outcome.next measured), (State.ob_setClk _ _ _).trans shown, (State.ob_setClk _ _ _).trans source, rfl,
    rfl, fun small => (State.ob_setClk _ _ _).trans (code.trans (stays small)), ?_, rfl⟩
  have near : min 255 ((s.ob 0xB001 2 : Int) + trimStep err).toNat ≤ s.ob 0xB001 2 + 1 ∧
      s.ob 0xB001 2 ≤ min 255 ((s.ob 0xB001 2 : Int) + trimStep err).toNat + 1 ∧
      min 255 ((s.ob 0xB001 2 : Int) + trimStep err).toNat ≤ 255 := by omega
  dsimp only
  rw [State.ob_setClk, code]
  exact near

end

/-- Settles O56: one lemma for each command and each branch of it. -/
theorem clockSourcesAndDomains : Obligations.ClockSourcesAndDomains := by
  unfold Obligations.ClockSourcesAndDomains
  intro s m u count expected lock off1 off2 inv source held
  have sheaves : s.sheaves ≤ 32 := Nat.mul_le_mul_left 8 inv.stackCount.2
  have few : u < 32 := by omega
  have sheaf : u ≠ keeperDomain := by unfold keeperDomain; omega
  have small : m < 256 := by
    have bounds := source
    simp only [State.isSource, Bool.or_eq_true, Bool.and_eq_true, decide_eq_true_eq] at bounds
    omega
  refine ⟨?due, ?early, ?idle, ?starts, ?times, ?present, ?absent, ?moves, ?steps, ?full, ?keeper, ?settled, ?fallback, ?unarmed, ?armed,
    ?trip, ?tolerance, ?back, ?late, ?trim, ?untrimmed, ?stale, ?none_⟩
  case due => exact fun from_ since due reference => by rw [exec_sourceStable source, sourceStable_of_due since due reference]
  case early => exact fun from_ since early => by rw [exec_sourceStable source, sourceStable_of_early since early]
  case idle => exact fun since => by rw [exec_sourceStable source, sourceStable_of_idle since]
  case starts =>
    intro stopped settled
    rw [nowStable_sheaf few]
    exact sheafPllStable_starts inv.objects stopped settled
  case times => exact ⟨rfl, rfl⟩
  case present => exact fun stable => congrArg Host.Outcome.next (if_pos (by simp [stable]))
  case absent => exact fun due unstable absent => ⟨_, rfl, refBAbsent_spec inv.objects due unstable absent⟩
  case moves => exact fun fo stable counted => by rw [exec_dividerStep held, dividerStep_moves sheaf fo stable counted]
  case steps =>
    intro src div runs word
    have source : s.domain u % 256 = src := by omega
    have step := dividerStep_steps sheaf (fun fo => (runs.resolve_right fun two => by omega).2) (by omega) word
    rw [exec_dividerStep held, step]
    refine ⟨fun due => ⟨by rw [if_pos due], setDomain_domain inv.objects u src (div + 1)⟩, fun early => ?_⟩
    rw [if_neg (by simp [early])]
  case full => exact fun full => by rw [exec_dividerStep held, dividerStep_of_full sheaf full]
  case keeper =>
    intro above due
    have steps : dividerStep 64 s = s.setClk { s.clk with keeperDiv := s.clk.keeperDiv - 1, stepped := put 0 64 s.now s.clk.stepped } :=
      if_pos (by simp [due, above])
    exact (if_pos (by simp)).trans (congrArg (fun t => Host.Outcome.next (serveAll t)) steps)
  case settled => exact fun none_ => by rw [exec_fallbackTimeout held, fallbackTimeout_of_none none_]
  case fallback =>
    intro from_ waits
    rw [exec_fallbackTimeout held, fallbackTimeout_of_some sheaf waits]
    exact ⟨fun due runs => by rw [if_pos ⟨due, runs⟩], fun halted => by rw [if_neg fun both => both.2 halted],
      fun early => by rw [if_neg fun both => by simp [early] at both]⟩
  case unarmed => exact fun unstable => by rw [exec_clockMonitorWindow source, monitorWindow_of_unstable unstable]
  case armed =>
    intro stable partner ne
    refine ⟨fun good => ?_, fun notKfo notKso => ⟨fun bad => ?_, ?_⟩, fun either unstable bad => ?_⟩
    · rw [exec_clockMonitorWindow source, (monitorWindow_of_armed small stable partner ne (by simp [good]) off1 off2).1 rfl]
    · rw [exec_clockMonitorWindow source, (monitorWindow_of_armed small stable partner ne (by simp [bad]) off1 off2).2.1 rfl notKfo notKso]
    · rw [exec_clockMonitorWindow source, (monitorWindow_of_armed small stable partner ne (by simp) off1 off2).2.1 rfl notKfo notKso]
    · rw [exec_clockMonitorWindow source,
        (monitorWindow_of_armed small stable partner ne (by simp [bad]) off1 off2).2.2 rfl either unstable]
  case trip => rfl
  case tolerance => exact countBad_fo count
  case back => exact fun none_ => (exec_sheafPllRestartLimit held).trans (congrArg (fun t => Host.Outcome.next (serveAll t)) (if_pos (by simp [none_])))
  case late =>
    intro tripped late
    obtain ⟨fails, others⟩ := failServing_spec (s := s.setClk { s.clk with pllTrip := put 0 u 0 s.clk.pllTrip })
      ((State.setClk_keeps (.refl s)).inv inv) (sheafChannels u)
    refine ⟨_, by rw [exec_sheafPllRestartLimit held, pllRestartLimit_of_late tripped late], fun k lt serves => ?_, fun k lt rests => ?_⟩
    · exact fails _ (List.mem_map.mpr ⟨k, List.mem_range.mpr lt, rfl⟩) serves
    · exact others _ rests
  case trim =>
    intro plca want err wanted some_ error runs choice fits
    have natural : want = ((if plca then expected else 25000 : Nat) : Int) := by
      rw [wanted]
      split <;> rfl
    rw [natural] at some_ error
    exact gives_ksoTrim inv.objects rfl (by exact_mod_cast some_) error runs choice fits
  case untrimmed => exact fun stopped plca => congrArg Host.Outcome.next (if_pos (by simp [stopped]))
  case stale =>
    exact fun fresh absent => ⟨fun late => congrArg Host.Outcome.next (if_neg (by simp [fresh, absent, late])),
      fun early => congrArg Host.Outcome.next (if_pos (by simp [early]))⟩
  case none_ =>
    have out {k : Nat} (none_ : k = 0 ∨ k = 8) : exec (.sourceStable k) s = .fault .absentUnit := by
      have no : s.isSource k = false := by
        simp only [State.isSource, Bool.or_eq_false_iff, Bool.and_eq_false_iff, decide_eq_false_iff_not]
        omega
      show present _ _ = _
      rw [no]
      rfl
    exact ⟨out (.inr rfl), out (.inl rfl)⟩

end Sys2Proof.Machine

/-!
PROOF. The slack monitor, `sv_vreq`, clock enables and crossings, and the settling of O57 (R394 to R396, R408, R409).
-/
namespace Sys2Proof.Machine

-- One proof after another, each on a stack of its own, for the check's memory.
set_option Elab.async false

/-! ### What leaves one object -/

/-- An object reads in `t` as in `s`. -/
def SameOb (i a : Nat) (s t : State) : Prop := t.ob i a = s.ob i a

namespace SameOb

section
variable {i a : Nat} {s t u : State}

theorem refl (i a : Nat) (s : State) : SameOb i a s s := Eq.refl (s.ob i a)
theorem trans (h : SameOb i a s t) (k : SameOb i a t u) : SameOb i a s u := Eq.trans k h
theorem ite {p : Prop} [Decidable p] (h : SameOb i a s t) (k : SameOb i a s u) : SameOb i a s (if p then t else u) := by
  split <;> assumption
theorem of_obj (same : t.obj = s.obj) : SameOb i a s t := congrArg (look (objDefault (objKey i a)) (objKey i a)) same
theorem of_reports (h : ReportsOnly s t) (fits : a < 256 := by decide) (other : logObject i = false := by rfl) : SameOb i a s t :=
  h.objects i a fits other
theorem setOb (s : State) {j b : Nat} (v : Nat) (apart : ¬ (i = j ∧ a = b)) (fits : a < 256) (small : b < 256) : SameOb i a s (s.setOb j b v) :=
  State.ob_setOb_ne s fun same => apart (objKey_inj fits small same)
theorem forEach {α : Type} {f : α → State → State} (each : ∀ x s, SameOb i a s (f x s)) (l : List α) (s : State) :
    SameOb i a s (forEach l f s) := forEach_related (refl i a) trans l f each s

end
end SameOb

/-- An index that is neither a bank of counters nor the sampler's. -/
def offCounters (i : Nat) : Prop := i < 0x7000 ∨ 0x7800 ≤ i

section
variable {i a : Nat} (off : offCounters i) (fits : a < 256)
include off fits

theorem countIf_sameOb {b j : Nat} (n : Nat) (c : Cause) (s : State) (bank : 0x7000 ≤ b ∧ b < 0x7800 := by decide)
    (small : 0x10 + j < 256 := by decide) : SameOb i a s (countIf b j n c s) :=
  .ite (.ite (.refl i a s) (.setOb s _ (fun same => by unfold offCounters at off; omega) fits small)) (.refl i a s)

theorem countDecision_sameOb (q : Ask) (status : Nat) (s : State) : SameOb i a s (countDecision q status s) :=
  .ite (.refl i a s) <| .ite (countIf_sameOb off fits 1 _ s) <| .ite (countIf_sameOb off fits 1 _ s) <|
    .ite (countIf_sameOb off fits 1 _ s) <| .ite (countIf_sameOb off fits 1 _ s) (.refl i a s)

theorem sampler_sameOb (s : State) (b v : Nat) (small : b < 256 := by decide) : SameOb i a s (s.setOb 0x7100 b v) :=
  .setOb s v (fun same => by unfold offCounters at off; omega) fits small

theorem writeSample_sameOb (b : Building) (status : Nat) (s : State) : SameOb i a s (writeSample b status s) := by
  have set (u : State) (b v : Nat) (small : b < 256 := by decide) := sampler_sameOb off fits u b v small
  unfold writeSample
  dsimp only
  split
  · exact set s 0x0B _
  · exact (SameOb.ite (set s 0x0C _) (.refl i a s)).trans ((set _ 6 _).trans (set _ 7 _))

theorem sampleEnd_sameOb (kind id num status : Nat) (s : State) : SameOb i a s (sampleEnd kind id num status s) := by
  unfold sampleEnd
  split
  · exact .refl i a s
  · exact writeSample_sameOb off fits _ status _

/-- The completion of a request counts and samples it, and writes no other object. -/
theorem finish_sameOb (id status : Nat) (data : Option Nat) (s : State) : SameOb i a s (finish id status data s) := by
  unfold finish
  split
  · exact .refl i a s
  next q _ =>
    have marked : SameOb i a s (s.modAsk id fun a => { a with stage := .finished, result := some (status, data) }) := .of_obj rfl
    have counted (u : State) : SameOb i a u (sampleEffect id (countDecision q status u)) :=
      (countDecision_sameOb off fits q status u).trans (.of_obj (sampleEffect_obj id _))
    have sampled (u : State) : SameOb i a u (if q.internal then (if q.isDrain then u else sampleEnd 0 id 0 status u) else u) :=
      .ite (.ite (.refl i a u) (sampleEnd_sameOb off fits 0 id 0 status u)) (.refl i a u)
    have ended := marked.trans ((counted _).trans (sampled _))
    have sent (u : State) : SameOb i a u (sendCompletion q status data u) := .of_obj (sendCompletion_obj q status data u)
    refine .ite (.refl i a s) ?_
    dsimp only
    split
    · exact .ite (ended.trans (sent _)) (ended.trans (sent _))
    · exact ended

theorem refuseLater_sameOb (id : Nat) (s : State) : SameOb i a s (refuseLater id s) := by
  unfold refuseLater
  split
  · exact .refl i a s
  next q _ =>
    have finished := finish_sameOb off fits id St.retry none s
    refine .ite finished (finished.trans ?_)
    exact .forEach (fun (b : Ask) u => finish_sameOb off fits b.id St.retry none u) _ _

end

/-! ### The slack reading (R394, R395) -/

section
variable {s t : State} {counts : List (Option Nat)}

/-- A state whose replicas can be read back, at the time of `s`. -/
def ReplicasKept (s t : State) : Prop :=
  t.now = s.now ∧ Canonical (fun _ => 0) t.clk.replicas ∧ Canonical (fun _ => 0) t.clk.replicaAt

/-- One replica of a measurement. -/
def takeReplica (counts : List (Option Nat)) (i : Nat) (s : State) : State :=
  match counts.getD i none with
  | some n => s.setClk { s.clk with replicas := put 0 i (min 1000 (5 * n)) s.clk.replicas, replicaAt := put 0 i s.now s.clk.replicaAt }
  | none => s

theorem takeReplicas_eq (counts : List (Option Nat)) (s : State) : takeReplicas counts s = forEach (List.range 16) (takeReplica counts) s := rfl

theorem takeReplica_some {i n : Nat} (returned : counts.getD i none = some n) :
    takeReplica counts i s = s.setClk { s.clk with replicas := put 0 i (min 1000 (5 * n)) s.clk.replicas, replicaAt := put 0 i s.now s.clk.replicaAt } := by
  unfold takeReplica
  rw [returned]

theorem takeReplica_none {i : Nat} (silent : counts.getD i none = none) : takeReplica counts i s = s := by
  unfold takeReplica
  rw [silent]

theorem takeReplica_other {i j : Nat} (ne : j ≠ i) : look 0 j (takeReplica counts i s).clk.replicas = look 0 j s.clk.replicas ∧
    look 0 j (takeReplica counts i s).clk.replicaAt = look 0 j s.clk.replicaAt := by
  cases returned : counts.getD i none with
  | none => rw [takeReplica_none returned]; exact ⟨rfl, rfl⟩
  | some n => rw [takeReplica_some returned]; exact ⟨look_put_ne _ ne, look_put_ne _ ne⟩

theorem takeReplica_kept (i : Nat) (kept : ReplicasKept s t) : ReplicasKept s (takeReplica counts i t) := by
  cases returned : counts.getD i none with
  | none => rw [takeReplica_none returned]; exact kept
  | some n => rw [takeReplica_some returned]; exact ⟨kept.1, kept.2.1.put, kept.2.2.put⟩

/-- A replica that returned a measurement shows it; any other is as it was. -/
theorem takeReplicas_spec (kept : ReplicasKept s s) (i : Nat) :
    (∀ n, i < 16 → counts.getD i none = some n → look 0 i (takeReplicas counts s).clk.replicas = min 1000 (5 * n) ∧
      look 0 i (takeReplicas counts s).clk.replicaAt = s.now) ∧
    (16 ≤ i ∨ counts.getD i none = none → look 0 i (takeReplicas counts s).clk.replicas = look 0 i s.clk.replicas ∧
      look 0 i (takeReplicas counts s).clk.replicaAt = look 0 i s.clk.replicaAt) := by
  rw [takeReplicas_eq]
  refine ⟨fun n small returned => ?_, fun out => ?_⟩
  · have shows (t : State) (h : ReplicasKept s t) : look 0 i (takeReplica counts i t).clk.replicas = min 1000 (5 * n) ∧
        look 0 i (takeReplica counts i t).clk.replicaAt = s.now := by
      rw [takeReplica_some returned]
      exact ⟨look_put_eq h.2.1.1, (look_put_eq h.2.2.1).trans h.1⟩
    refine forEach_reaches (inv := ReplicasKept s)
      (goal := fun t : State => look 0 i t.clk.replicas = min 1000 (5 * n) ∧ look 0 i t.clk.replicaAt = s.now)
      (List.mem_range.mpr small) (fun j _ t h => takeReplica_kept j h) (fun j _ t h shown => ?_) shows kept
    by_cases same : i = j
    · exact same ▸ shows t h
    · rw [(takeReplica_other same).1, (takeReplica_other same).2]
      exact shown
  · refine forEach_keeps_of_mem (inv := fun t : State => look 0 i t.clk.replicas = look 0 i s.clk.replicas ∧
      look 0 i t.clk.replicaAt = look 0 i s.clk.replicaAt) (fun j listed t same => ?_) ⟨rfl, rfl⟩
    by_cases here : i = j
    · have small := List.mem_range.mp listed
      rw [takeReplica_none (here ▸ out.resolve_left (by omega))]
      exact same
    · rw [(takeReplica_other here).1, (takeReplica_other here).2]
      exact same

/-! ### The slack state and `sv_vreq` (R395, R396) -/

theorem driveVreq_sameOb {i a : Nat} (apart : ¬ (i = 0xB000 ∧ a = 4)) (fits : a < 256) (s : State) : SameOb i a s (driveVreq s) :=
  .ite (.refl i a s) ((SameOb.of_obj rfl).trans (.setOb _ _ apart fits (by decide)))

theorem startDerate_sameOb {i a : Nat} (apart : ¬ (i = 0x2202 ∧ a = 1)) (fits : a < 256) (other : logObject i = false) (b : Nat) (s : State) :
    SameOb i a s (startDerate b s) :=
  .ite (.refl i a s) ((SameOb.setOb s _ apart fits (by decide)).trans (.of_reports (raiseNode_reports _ _ _) fits other))

/-- The clock words after a reading. -/
def slackWords (reading now : Nat) (k : Clocks) : Clocks :=
  { k with slackHigh := k.slackHigh || decide (600 < reading)
           easySince := if 480 < reading then 0 else if k.easySince = 0 then now + 1 else k.easySince }

/-- What follows a slack reading: the object, the clock words, the state and the pin. -/
def judgeSlack (reading : Nat) (s : State) : State :=
  let s := (s.setOb 0xB000 1 reading).peak 0xB000 2 reading
  let s := s.setClk (slackWords reading s.now s.clk)
  let s := if 600 < reading && s.ob 0xB000 3 = 0 then raiseNode Ev.slackLow 0 ((s.bump 0xB000 5).setOb 0xB000 3 1) else s
  let s := if 750 < reading && s.ob 0xB000 3 = 1 then startDerate 1 (raiseNode Ev.slackCritical 0 (s.setOb 0xB000 3 2)) else s
  driveVreq s

/-- The reading of a measurement. -/
def State.slackReading (s : State) : Nat :=
  ((List.range 16).filter fun i => !s.clk.replicasOut.contains i).foldl (fun m i => max m (s.replica i)) 0

theorem slackMeasurement_of_due (on : s.power.vcore = true) (due : s.elapsed s.clk.slackAt usTicks = true) :
    slackMeasurement counts s = judgeSlack (takeReplicas counts (s.setClk { s.clk with slackAt := s.now })).slackReading
      (takeReplicas counts (s.setClk { s.clk with slackAt := s.now })) := if_neg (by simp [on, due])

theorem given_slackState {v : Nat} (some_ : v ≠ 0) (s : State) : (s.setOb 0xB000 3 v).ob 0xB000 3 = v := by
  have zero : objDefault (objKey 0xB000 3) = 0 := by decide +kernel
  exact ob_setOb_given (by rwa [zero])

theorem judgeSlack_clk (reading : Nat) (s : State) : (judgeSlack reading s).clk = slackWords reading s.now s.clk := by
  unfold judgeSlack
  extract_lets shown judged low critical
  have clk : shown.clk = s.clk := (State.peak_fr (State.setOb_fr (.refl 64 s))).clk (by decide)
  have now : shown.now = s.now := (State.peak_fr (State.setOb_fr (.refl 64 s))).now (by decide)
  have lowClk : low.clk = judged.clk := by
    show (if _ then _ else _ : State).clk = _
    split
    · exact (raiseNode_reports _ _ _).clk
    · rfl
  have criticalClk : critical.clk = low.clk := by
    show (if _ then _ else _ : State).clk = _
    split
    · exact (startDerate_fr (raiseNode_fr (State.setOb_fr (.refl 20696 low)))).clk (by decide)
    · rfl
  have driven := (driveVreq_fr (.refl 80 critical)).clk (by decide)
  rw [driven, criticalClk, lowClk, ← clk, ← now]
  exact State.setClk_clk (s := shown) _

theorem judgeSlack_objects (canonical : Canonical objDefault s.obj) (reading : Nat) :
    (judgeSlack reading s).ob 0xB000 1 = reading ∧
    (judgeSlack reading s).ob 0xB000 3 = (if 750 < reading then (if s.ob 0xB000 3 < 2 then 2 else s.ob 0xB000 3)
      else if 600 < reading then (if s.ob 0xB000 3 = 0 then 1 else s.ob 0xB000 3) else s.ob 0xB000 3) := by
  unfold judgeSlack
  extract_lets shown judged low critical
  have readings : shown.ob 0xB000 1 = reading := Eq.trans
    (SameOb.ite (.setOb _ _ (by decide) (by decide) (by decide)) (.refl 0xB000 1 _)) (State.ob_setOb_eq canonical _ _ _)
  have states : shown.ob 0xB000 3 = s.ob 0xB000 3 := SameOb.trans (.setOb s _ (by decide) (by decide) (by decide))
    (.ite (.setOb _ _ (by decide) (by decide) (by decide)) (.refl 0xB000 3 _))
  have lowReads : SameOb 0xB000 1 judged low := .ite ((SameOb.setOb _ _ (by decide) (by decide) (by decide)).trans
    ((SameOb.setOb _ _ (by decide) (by decide) (by decide)).trans (.of_reports (raiseNode_reports _ _ _)))) (.refl _ _ _)
  have criticalReads : SameOb 0xB000 1 low critical := .ite ((SameOb.setOb _ _ (by decide) (by decide) (by decide)).trans
    ((SameOb.of_reports (raiseNode_reports _ _ _)).trans (startDerate_sameOb (by decide) (by decide) rfl 1 _))) (.refl _ _ _)
  have states : judged.ob 0xB000 3 = s.ob 0xB000 3 := states
  have readings : judged.ob 0xB000 1 = reading := readings
  have lowState : low.ob 0xB000 3 = if 600 < reading ∧ judged.ob 0xB000 3 = 0 then 1 else judged.ob 0xB000 3 := by
    by_cases begins : 600 < reading ∧ judged.ob 0xB000 3 = 0
    · have is : low = raiseNode Ev.slackLow 0 ((judged.bump 0xB000 5).setOb 0xB000 3 1) := if_pos (by simpa using begins)
      rw [is, if_pos begins]
      exact Eq.trans (SameOb.of_reports (raiseNode_reports _ _ _)) (given_slackState (by decide) _)
    · have is : low = judged := if_neg (by simpa using begins)
      rw [is, if_neg begins]
  have criticalState : critical.ob 0xB000 3 = if 750 < reading ∧ low.ob 0xB000 3 = 1 then 2 else low.ob 0xB000 3 := by
    by_cases begins : 750 < reading ∧ low.ob 0xB000 3 = 1
    · have is : critical = startDerate 1 (raiseNode Ev.slackCritical 0 (low.setOb 0xB000 3 2)) := if_pos (by simpa using begins)
      rw [is, if_pos begins]
      exact Eq.trans (SameOb.trans (.of_reports (raiseNode_reports _ _ _)) (startDerate_sameOb (by decide) (by decide) rfl 1 _))
        (given_slackState (by decide) _)
    · have is : critical = low := if_neg (by simpa using begins)
      rw [is, if_neg begins]
  refine ⟨Eq.trans (driveVreq_sameOb (by decide) (by decide) critical) (Eq.trans criticalReads (Eq.trans lowReads readings)), ?_⟩
  have driven : (driveVreq critical).ob 0xB000 3 = critical.ob 0xB000 3 := driveVreq_sameOb (by decide) (by decide) critical
  rw [driven, criticalState, lowState, states]
  split_ifs <;> omega

/-- A replica as a measurement shows it. -/
def State.shownReplica (s : State) (counts : List (Option Nat)) (i : Nat) : Nat :=
  (counts.getD i none).elim (if s.elapsed (look 0 i s.clk.replicaAt) (2 * usTicks) then 1000 else look 0 i s.clk.replicas) fun n => min 1000 (5 * n)

theorem takeReplicas_words (counts : List (Option Nat)) (s : State) :
    (takeReplicas counts s).clk.replicasOut = s.clk.replicasOut ∧ (takeReplicas counts s).clk.slackAt = s.clk.slackAt := by
  rw [takeReplicas_eq]
  refine forEach_keeps_of_mem (inv := fun t : State => t.clk.replicasOut = s.clk.replicasOut ∧ t.clk.slackAt = s.clk.slackAt)
    (fun i _ t same => ?_) ⟨rfl, rfl⟩
  unfold takeReplica
  split
  · exact same
  · exact same

/-- The reading with every replica in place: the largest measurement, 1,000 ps for one that has been silent for 2 µs. -/
theorem slackReading_spec (none_ : s.clk.replicasOut = []) (kept : ReplicasKept s s) :
    (takeReplicas counts s).slackReading = ((List.range 16).map (s.shownReplica counts)).foldl max 0 := by
  have now : (takeReplicas counts s).now = s.now := (takeReplicas_fr (.refl 16777216 s)).now (by decide)
  have all : ((List.range 16).filter fun i => !([] : List Nat).contains i) = List.range 16 := List.filter_eq_self.mpr fun _ _ => rfl
  unfold State.slackReading
  rw [(takeReplicas_words counts s).1, none_, all, List.foldl_map]
  refine List.foldl_ext _ _ _ fun m i listed => congrArg (max m) ?_
  have small := List.mem_range.mp listed
  obtain ⟨returns, rests⟩ := takeReplicas_spec (counts := counts) kept i
  unfold State.replica State.shownReplica State.elapsed
  rw [now]
  cases returned : counts.getD i none with
  | none =>
    rw [(rests (.inr returned)).1, (rests (.inr returned)).2]
    exact rfl
  | some n =>
    rw [(returns n small returned).1, (returns n small returned).2]
    exact if_neg (by simp [usTicks])

/-- No replica reads above 1,000 ps. -/
theorem takeReplicas_le (kept : ReplicasKept s s) (below : ∀ i, look 0 i s.clk.replicas ≤ 1000) (i : Nat) :
    look 0 i (takeReplicas counts s).clk.replicas ≤ 1000 := by
  obtain ⟨returns, rests⟩ := takeReplicas_spec (counts := counts) kept i
  by_cases out : 16 ≤ i ∨ counts.getD i none = none
  · rw [(rests out).1]
    exact below i
  · obtain ⟨small, some_⟩ := not_or.mp out
    obtain ⟨n, returned⟩ := Option.ne_none_iff_exists'.mp some_
    rw [(returns n (by omega) returned).1]
    exact min_le_left _ _

theorem gives_slackMeasurement (canonical : Canonical objDefault s.obj) (on : s.power.vcore = true) (due : s.elapsed s.clk.slackAt usTicks = true)
    (none_ : s.clk.replicasOut = []) (first : Canonical (fun _ => 0) s.clk.replicas) (second : Canonical (fun _ => 0) s.clk.replicaAt)
    (below : ∀ i, look 0 i s.clk.replicas ≤ 1000) {reading : Nat} (reads : reading = ((List.range 16).map (s.shownReplica counts)).foldl max 0) :
    Gives (.slackMeasurement counts) s fun t =>
      t.ob 0xB000 1 = reading ∧ t.clk.slackAt = s.now ∧
      (∀ i n, i < 16 → counts.getD i none = some n → look 0 i t.clk.replicas = min 1000 (5 * n) ∧ look 0 i t.clk.replicaAt = s.now) ∧
      (∀ i, counts.getD i none = none → look 0 i t.clk.replicas = look 0 i s.clk.replicas ∧
        look 0 i t.clk.replicaAt = look 0 i s.clk.replicaAt) ∧
      (∀ i, look 0 i t.clk.replicas ≤ 1000) ∧
      t.ob 0xB000 3 = (if 750 < reading then (if s.ob 0xB000 3 < 2 then 2 else s.ob 0xB000 3)
        else if 600 < reading then (if s.ob 0xB000 3 = 0 then 1 else s.ob 0xB000 3) else s.ob 0xB000 3) ∧
      (480 < reading → t.clk.easySince = 0) := by
  have kept : ReplicasKept (s.setClk { s.clk with slackAt := s.now }) (s.setClk { s.clk with slackAt := s.now }) := ⟨rfl, first, second⟩
  have same : (s.setClk { s.clk with slackAt := s.now }).shownReplica counts = s.shownReplica counts := rfl
  have read : (takeReplicas counts (s.setClk { s.clk with slackAt := s.now })).slackReading = reading := by
    rw [slackReading_spec (s := s.setClk { s.clk with slackAt := s.now }) none_ kept, same, reads]
  have obj : (takeReplicas counts (s.setClk { s.clk with slackAt := s.now })).obj = s.obj :=
    (takeReplicas_fr (.refl 16777216 (s.setClk { s.clk with slackAt := s.now }))).obj (by decide)
  have replicas := takeReplicas_spec (counts := counts) kept
  have most := takeReplicas_le (counts := counts) kept below
  have at_ := (takeReplicas_words counts (s.setClk { s.clk with slackAt := s.now })).2
  have run := slackMeasurement_of_due (counts := counts) on due
  rw [read] at run
  generalize takeReplicas counts (s.setClk { s.clk with slackAt := s.now }) = u at obj replicas most at_ run
  have clk := judgeSlack_clk reading u
  obtain ⟨shown, state⟩ := judgeSlack_objects (s := u) (by rw [obj]; exact canonical) reading
  have before : u.ob 0xB000 3 = s.ob 0xB000 3 := SameOb.of_obj obj
  rw [before] at state
  refine ⟨_, congrArg Host.Outcome.next run, shown, ?_⟩
  rw [clk]
  exact ⟨at_, fun i n => (replicas i).1 n, fun i silent => (replicas i).2 (.inr silent), most, state, fun short => if_pos short⟩

/-! ### Slack that has cleared, and `sv_vreq` (R396) -/

theorem testBit_setBit_false {i m : Nat} : (setBit i false m).testBit i = false := by
  unfold setBit
  cases set : m.testBit i with
  | false => simp [set]
  | true =>
    have above : 2 ^ i ≤ m := Nat.ge_two_pow_of_testBit set
    have split : m = 2 ^ i + (m - 2 ^ i) := by omega
    rw [split, Nat.testBit_two_pow_add_eq] at set
    simpa using set

/-- The end of a derate cause leaves every object but the causes. -/
theorem endDerate_sameOb {i a : Nat} (apart : ¬ (i = 0x2202 ∧ a = 1)) (fits : a < 256) (other : logObject i = false) (b : Nat) (s : State) :
    SameOb i a s (endDerate b s) := by
  have set := SameOb.setOb s (setBit b false (s.ob 0x2202 1)) apart fits (by decide)
  exact .ite (.refl i a s) (.ite (set.trans (.of_reports (raiseNode_reports _ _ _) fits other)) set)

theorem endDerate_absent (canonical : Canonical objDefault s.obj) (b : Nat) : (endDerate b s).derated b = false := by
  by_cases absent : s.derated b = false
  · rw [endDerate, if_pos (by simp [absent]), absent]
  · have stored : ((s.setOb 0x2202 1 (setBit b false (s.ob 0x2202 1))).ob 0x2202 1).testBit b = false := by
      rw [State.ob_setOb_eq canonical]
      exact testBit_setBit_false
    have raised : SameOb 0x2202 1 (s.setOb 0x2202 1 (setBit b false (s.ob 0x2202 1))) (endDerate b s) := by
      rw [endDerate, if_neg (by simpa using absent)]
      exact .ite (.of_reports (raiseNode_reports _ _ _)) (.refl _ _ _)
    rw [State.derated, raised, stored]

theorem gives_slackCleared (canonical : Canonical objDefault s.obj) (short : s.ob 0xB000 3 ≠ 0) (frames : 64 ≤ s.plans.slackFrames) :
    Gives .slackCleared s fun t => t.ob 0xB000 3 = 0 ∧ t.derated 1 = false := by
  have run : exec .slackCleared s = .next (driveVreq (raiseNode Ev.slackCleared 0 (endDerate 1 (s.setOb 0xB000 3 0)))) :=
    congrArg Host.Outcome.next (if_neg (by simp [short, frames]))
  have cleared := endDerate_absent (State.setOb_canonical canonical 0xB000 3 0) 1
  have told {i a : Nat} (apart : ¬ (i = 0xB000 ∧ a = 4)) (fits : a < 256) (other : logObject i = false) (u : State) :
      SameOb i a u (driveVreq (raiseNode Ev.slackCleared 0 u)) :=
    (SameOb.of_reports (raiseNode_reports _ _ _) fits other).trans (driveVreq_sameOb apart fits _)
  refine ⟨_, run, Eq.trans (told (by decide) (by decide) rfl _) (Eq.trans (endDerate_sameOb (by decide) (by decide) rfl 1 _)
    (State.ob_setOb_eq canonical _ _ _)), ?_⟩
  have same : SameOb 0x2202 1 _ _ := told (by decide) (by decide) rfl (endDerate 1 (s.setOb 0xB000 3 0))
  rw [State.derated, same]
  exact cleared

/-- What the pin is to ask for. -/
def State.vreqWanted (s : State) : Nat :=
  if s.ob 0xB000 3 != 0 then 1
  else if s.easy && s.junction.elim false (fun t => decide (t < 400)) && s.ob 0x2202 1 == 0 then 2 else 0

/-- The pin may move: it has not for 10 µs. -/
def State.vreqDue (s : State) : Bool := s.pins.vreqAt = 0 || s.elapsed (s.pins.vreqAt - 1) (10 * usTicks)

theorem driveVreq_eq (s : State) : driveVreq s = if s.vreqWanted = s.pins.vreq || !s.vreqDue then s
    else ({ s with pins := { s.pins with vreq := s.vreqWanted, vreqAt := s.now + 1 } } : State).setOb 0xB000 4 s.vreqWanted := by
  unfold driveVreq State.vreqWanted
  cases s.junction <;> rfl

theorem driveVreq_moves {v : Nat} (wants : s.vreqWanted = v) (moves : s.pins.vreq ≠ v)
    (due : s.pins.vreqAt = 0 ∨ s.elapsed (s.pins.vreqAt - 1) (10 * usTicks) = true) :
    driveVreq s = ({ s with pins := { s.pins with vreq := v, vreqAt := s.now + 1 } } : State).setOb 0xB000 4 v := by
  have ready : s.vreqDue = true := by simpa [State.vreqDue] using due
  rw [driveVreq_eq, wants, if_neg (by simp [ready, moves.symm])]

theorem driveVreq_stays (stays : s.vreqWanted = s.pins.vreq ∨ s.vreqDue = false) : driveVreq s = s := by
  rw [driveVreq_eq, if_pos (by simpa using stays)]

/-! ### Clock enables (R408) -/

theorem setDomain_sameOb {i a u src div : Nat} (apart : ¬ (i = 0xB010 ∧ a = u + 1)) (fits : a < 256) (small : u + 1 < 256) (s : State) :
    SameOb i a s (setDomain u src div s) := (SameOb.of_obj rfl).trans (.setOb _ _ apart fits small)

theorem ungateSheaf_sameOb {i a u : Nat} (apart : ¬ (i = 0xB010 ∧ a = u + 1)) (fits : a < 256) (small : u + 1 < 256) (s : State) :
    SameOb i a s (ungateSheaf u s) :=
  have set (src div : Nat) := setDomain_sameOb (src := src) (div := div) apart fits small s
  .ite (.refl i a s) (.ite (set 2 1) (.ite (set 1 1) (set 0 0)))

/-- The enables that a write sets, and those it clears. -/
def enablesSet (old v : Nat) : List Nat := (List.range 32).filter fun i => bit i v && !bit i old
def enablesCleared (old v : Nat) : List Nat := (List.range 32).filter fun i => !bit i v && bit i old

theorem mem_enablesSet {old v i : Nat} : i ∈ enablesSet old v ↔ i < 32 ∧ bit i v = true ∧ bit i old = false := by
  simp [enablesSet]

theorem mem_enablesCleared {old v i : Nat} : i ∈ enablesCleared old v ↔ i < 32 ∧ bit i v = false ∧ bit i old = true := by
  simp [enablesCleared]

/-- The write of the sheaves' enables where nothing speaks against it. -/
def enableSheaves (v : Nat) (s : State) : State :=
  forEach (enablesSet (s.ob 0x2020 1) v) ungateSheaf (forEach (enablesCleared (s.ob 0x2020 1) v) gateSheaf (s.setOb 0x2020 1 v))

theorem enableHome_sheaves (v : Nat) (who : Completer) (s : State) : enableHome 1 v who s =
    if ((enablesSet (s.ob 0x2020 1) v).any fun u => decide (s.sheaves ≤ u)) = true then .refused St.unreachable 0 s
    else if (enablesCleared (s.ob 0x2020 1) v).any s.sheafBusy = true then .denied s else .done (enableSheaves v s) := rfl

/-- The domains of the sheaves that a write gates stop, and those of the sheaves it leaves go on. -/
theorem enableSheaves_spec (canonical : Canonical objDefault s.obj) (v : Nat) :
    (enableSheaves v s).ob 0x2020 1 = v ∧
    (∀ i ∈ enablesCleared (s.ob 0x2020 1) v, (enableSheaves v s).domain i = 3) ∧
    ∀ i < 32, i ∉ enablesCleared (s.ob 0x2020 1) v → i ∉ enablesSet (s.ob 0x2020 1) v → (enableSheaves v s).domain i = s.domain i := by
  have small {i : Nat} (listed : i ∈ enablesCleared (s.ob 0x2020 1) v) : i < 32 := (mem_enablesCleared.mp listed).1
  have small' {i : Nat} (listed : i ∈ enablesSet (s.ob 0x2020 1) v) : i < 32 := (mem_enablesSet.mp listed).1
  have gates {i a : Nat} (fits : a < 256) (apart : ∀ u ∈ enablesCleared (s.ob 0x2020 1) v, ¬ (i = 0xB010 ∧ a = u + 1)) (t : State) :
      SameOb i a t (forEach (enablesCleared (s.ob 0x2020 1) v) gateSheaf t) :=
    forEach_keeps_of_mem (inv := SameOb i a t) (fun u listed w same => same.trans
      (setDomain_sameOb (apart u listed) fits (by have := small listed; omega) w)) (.refl i a t)
  have ungates {i a : Nat} (fits : a < 256) (apart : ∀ u ∈ enablesSet (s.ob 0x2020 1) v, ¬ (i = 0xB010 ∧ a = u + 1)) (t : State) :
      SameOb i a t (forEach (enablesSet (s.ob 0x2020 1) v) ungateSheaf t) :=
    forEach_keeps_of_mem (inv := SameOb i a t) (fun u listed w same => same.trans
      (ungateSheaf_sameOb (apart u listed) fits (by have := small' listed; omega) w)) (.refl i a t)
  have stored := State.setOb_canonical canonical 0x2020 1 v
  refine ⟨?_, fun i cleared => ?_, fun i few notCleared notSet => ?_⟩
  · exact Eq.trans ((gates (by decide) (fun _ _ => by omega) _).trans (ungates (by decide) (fun _ _ => by omega) _))
      (State.ob_setOb_eq canonical _ _ _)
  · have gated : (forEach (enablesCleared (s.ob 0x2020 1) v) gateSheaf (s.setOb 0x2020 1 v)).domain i = 3 := by
      have zero (u : Nat) (listed : u ∈ enablesCleared (s.ob 0x2020 1) v) (w : State) (h : Canonical objDefault w.obj) :
          Canonical objDefault (gateSheaf u w).obj := State.setOb_canonical (s := w.setClk _) h _ _ _
      refine forEach_reaches (inv := fun w : State => Canonical objDefault w.obj) (goal := fun w : State => w.domain i = 3) cleared zero
        (fun u listed w h stopped => ?_) (fun w h => setDomain_domain h i 3 0) stored
      by_cases same : i = u
      · exact same ▸ setDomain_domain h i 3 0
      · have few := small cleared
        have keeps : SameOb 0xB010 (i + 1) w (gateSheaf u w) :=
          setDomain_sameOb (by omega) (by omega) (by have := small listed; omega) w
        exact Eq.trans keeps stopped
    have few := small cleared
    have notSet : ∀ u ∈ enablesSet (s.ob 0x2020 1) v, ¬ (0xB010 = 0xB010 ∧ i + 1 = u + 1) := fun u listed same => by
      have here : i = u := by omega
      have set := (mem_enablesSet.mp listed).2.1
      rw [← here, (mem_enablesCleared.mp cleared).2.1] at set
      exact absurd set (by decide)
    exact Eq.trans (ungates (by omega) notSet _) gated
  · have other (l : List Nat) (out : i ∉ l) (u : Nat) (listed : u ∈ l) : ¬ (0xB010 = 0xB010 ∧ i + 1 = u + 1) := fun same =>
      out ((show i = u by omega) ▸ listed)
    have first : SameOb 0xB010 (i + 1) s (s.setOb 0x2020 1 v) := .setOb s v (by omega) (by omega) (by decide)
    have second := first.trans (gates (by omega) (other _ notCleared) _)
    exact second.trans (ungates (by omega) (other _ notSet) _)

theorem begun_sheafBusy (r : Req) (s : State) : (s.begun r).sheafBusy = s.sheafBusy := by
  have states (c : Nat) : (s.begun r).chanState c = s.chanState c := begun_ob r s (chanIdx c) 1 (logObject_chanIdx c)
  funext u
  simp only [State.sheafBusy, begun_power, states]

theorem begun_sheaves (r : Req) (s : State) : (s.begun r).sheaves = s.sheaves := by rw [State.sheaves, begun_cfg, State.sheaves]

section
variable {r : Req} {v : Nat}

theorem exec_clockEnable_sheaves (fits : v < 2 ^ 32) :
    exec (.clockEnableWrite r 1 v) s = .next (dictWrite r 0x2020 1 (leBytes 4 v) (enableHome 1 v) s) := by
  show Host.Outcome.next (dictWrite r 0x2020 1 (leBytes 4 (v % 2 ^ 32)) (enableHome 1 (v % 2 ^ 32)) s) = _
  rw [Nat.mod_eq_of_lt fits]

/-- What a write of the sheaves' enables answers and does. -/
theorem clockEnable_sheaves (applies : s.applies r 0x2020 1 (leBytes 4 v) = true) (fits : v < 2 ^ 32) :
    (∀ i ∈ enablesSet (s.ob 0x2020 1) v, s.sheaves ≤ i → exec (.clockEnableWrite r 1 v) s = .next (answer r St.unreachable 0 (s.begun r))) ∧
    ((∀ i ∈ enablesSet (s.ob 0x2020 1) v, i < s.sheaves) →
      (∀ i ∈ enablesCleared (s.ob 0x2020 1) v, s.sheafBusy i = true → exec (.clockEnableWrite r 1 v) s = .next (answer r St.denied 9 (s.begun r))) ∧
      ((∀ i ∈ enablesCleared (s.ob 0x2020 1) v, s.sheafBusy i = false) →
        exec (.clockEnableWrite r 1 v) s = .next (answer r St.ok 0 (enableSheaves v (s.begun r))))) := by
  have home := enableHome_sheaves v (.req r) (s.begun r)
  rw [begun_ob r s 0x2020 1, begun_sheaves, begun_sheafBusy] at home
  rw [exec_clockEnable_sheaves fits]
  refine ⟨fun i set beyond => ?_, fun all => ?_⟩
  · rw [if_pos (List.any_eq_true.mpr ⟨i, set, decide_eq_true beyond⟩)] at home
    rw [dictWrite_applies applies, home]
    rfl
  · rw [if_neg (by simpa using all)] at home
    refine ⟨fun i cleared busy => ?_, fun idle => ?_⟩
    · rw [if_pos (List.any_eq_true.mpr ⟨i, cleared, busy⟩)] at home
      rw [dictWrite_denied applies home]
    · rw [if_neg (by simpa using idle)] at home
      rw [dictWrite_done applies home]

/-- An adapter that is at work. -/
def State.adapterHeld (s : State) (k : Nat) : Bool :=
  k == 5 || (decide (k < 4) && ((s.port k).state == .up || (s.port k).state == .keepalive)) || (k == 4 && s.farUp)

/-- The write of the adapters' enables where nothing speaks against it. -/
def enableAdapters (v : Nat) (s : State) : State :=
  forEach (enablesSet (s.ob 0x2020 2) v) (fun k s => if k < 4 && s.power.node = .config then startTraining k s else s)
    (forEach (enablesCleared (s.ob 0x2020 2) v) (fun k s => if k < 4 then s.setPort k { s.port k with state := .down } else s) (s.setOb 0x2020 2 v))

theorem enableHome_adapters (v : Nat) (who : Completer) (s : State) : enableHome 2 v who s =
    if (enablesCleared (s.ob 0x2020 2) v).any s.adapterHeld = true then .denied s else .done (enableAdapters v s) := rfl

theorem enableAdapters_obj (v : Nat) (s : State) : (enableAdapters v s).obj = (s.setOb 0x2020 2 v).obj := by
  refine forEach_keeps_of_mem (inv := fun t : State => t.obj = (s.setOb 0x2020 2 v).obj) (fun k _ t same => ?_)
    (forEach_keeps_of_mem (inv := fun t : State => t.obj = (s.setOb 0x2020 2 v).obj) (fun k _ t same => ?_) rfl)
  · split
    · exact ((startTraining_fr (.refl 256 t)).obj (by decide)).trans same
    · exact same
  · split
    · exact same
    · exact same

theorem begun_adapterHeld (r : Req) (s : State) : (s.begun r).adapterHeld = s.adapterHeld := by
  have ports (k : Nat) : (s.begun r).port k = s.port k := congrArg (fun l : Headland => look HPort.reset k l.ports) (countFrame_hl s r)
  have far : (s.begun r).farUp = s.farUp := congrArg (· == 1) (begun_ob r s 0x5C00 1)
  funext k
  simp only [State.adapterHeld, ports, far]

theorem clockEnable_adapters (canonical : Canonical objDefault s.obj) (applies : s.applies r 0x2020 2 (leBytes 1 v) = true) (fits : v < 256) :
    (∀ k ∈ enablesCleared (s.ob 0x2020 2) v, s.adapterHeld k = true → exec (.clockEnableWrite r 2 v) s = .next (answer r St.denied 9 (s.begun r))) ∧
    ((∀ k ∈ enablesCleared (s.ob 0x2020 2) v, s.adapterHeld k = false) → Gives (.clockEnableWrite r 2 v) s fun t => t.ob 0x2020 2 = v) := by
  have run : exec (.clockEnableWrite r 2 v) s = .next (dictWrite r 0x2020 2 (leBytes 1 v) (enableHome 2 v) s) := by
    show Host.Outcome.next (dictWrite r 0x2020 2 (leBytes 1 (v % 256)) (enableHome 2 (v % 256)) s) = _
    rw [Nat.mod_eq_of_lt fits]
  have home := enableHome_adapters v (.req r) (s.begun r)
  rw [begun_ob r s 0x2020 2, begun_adapterHeld] at home
  refine ⟨fun k cleared held => ?_, fun free => ?_⟩
  · rw [if_pos (List.any_eq_true.mpr ⟨k, cleared, held⟩)] at home
    rw [run, dictWrite_denied applies home]
  · rw [if_neg (by simpa using free)] at home
    refine ⟨_, run.trans (congrArg Host.Outcome.next (dictWrite_done applies home)), ?_⟩
    have stored := State.ob_setOb_eq (begun_canonical (r := r) canonical) 0x2020 2 v
    exact Eq.trans ((SameOb.of_obj (enableAdapters_obj v _)).trans (.of_reports (answer_reports r St.ok 0 _))) stored

end

/-! ### Crossings (R409) -/

section
variable {x : Crossing}

theorem exec_crossingReset (held : s.hasCrossing x = true) : exec (.crossingReset x) s = .next (pump (crossingReset x s)) := if_pos held
theorem exec_crossingReopened (held : s.hasCrossing x = true) : exec (.crossingReopened x) s = .next (pump (crossingReopened x s)) := if_pos held

theorem crossingReset_of_closed (closed : crossingNumber x ∈ s.clk.closed) : crossingReset x s = s := if_pos (by simpa using closed)

theorem crossingReopened_of_not_closed (reopened : crossingNumber x ∉ s.clk.closed) : crossingReopened x s = s := if_pos (by simpa using reopened)

theorem crossingReopened_of_closed (closed : crossingNumber x ∈ s.clk.closed) : crossingReopened x s =
    raise Ev.crossingReopened (crossingInst x) 0 (s.setClk { s.clk with closed := s.clk.closed.filter fun n => n != crossingNumber x }) :=
  if_neg (by simpa using closed)

/-- A crossing that a reset closes is noted and counted. -/
theorem crossingReset_spec (canonical : Canonical objDefault s.obj) (running : crossingNumber x ∉ s.clk.closed) :
    (crossingReset x s).clk = { s.clk with closed := s.clk.closed ++ [crossingNumber x] } ∧
    (crossingReset x s).ob 0xB004 1 = (s.ob 0xB004 1 + 1) % 2 ^ objWidth (objKey 0xB004 1) := by
  unfold crossingReset
  rw [if_neg (by simpa using running)]
  extract_lets old closed told
  have reports : ReportsOnly (closed.bump 0xB004 1) told := raise_reports _ _ _ _
  have toldClk : told.clk = { s.clk with closed := s.clk.closed ++ [crossingNumber x] } := reports.clk
  have counted : told.ob 0xB004 1 = (s.ob 0xB004 1 + 1) % 2 ^ objWidth (objKey 0xB004 1) :=
    Eq.trans (SameOb.of_reports reports) (State.ob_setOb_eq (s := closed) canonical _ _ _)
  refine ⟨Eq.trans (forEach_keeps_of_mem (inv := fun t : State => t.clk = told.clk) (fun id _ t same => ?_) rfl) toldClk, Eq.trans
    (SameOb.forEach (fun id t => refuseLater_sameOb (.inr (by decide)) (by decide) id t) _ told) counted⟩
  exact ((refuseLater_fr (.refl 67371328 t)).clk (by decide)).trans same

end

end

/-- Settles O57: one lemma for each command and each branch of it. -/
theorem slackEnablesAndCrossings : Obligations.SlackEnablesAndCrossings := by
  unfold Obligations.SlackEnablesAndCrossings
  intro s r v x inv held
  have canonical := inv.objects
  refine ⟨?off, ?early, ?measured, ?notYet, ?cleared, rfl, ?lower, ?normal, ?higher, ?sheaves, ?adapters, ?resets, ?reopens, ?noTile, ?noHead⟩
  case off => exact fun off counts => congrArg Host.Outcome.next (if_pos (by simp [off]))
  case early => exact fun early counts => congrArg Host.Outcome.next (if_pos (by simp [early]))
  case measured =>
    intro on due none_ first second below counts reading reads
    refine gives_slackMeasurement canonical on due none_ first second below (reads.trans ?_)
    refine congrArg (List.foldl max 0) (List.map_congr_left fun i _ => ?_)
    unfold State.shownReplica
    cases counts.getD i none <;> rfl
  case notYet => exact fun rests => congrArg Host.Outcome.next (if_pos (by simpa using rests))
  case cleared => exact fun short frames => gives_slackCleared canonical short frames
  case lower =>
    intro j enough easy junction cool whole moves due
    exact congrArg Host.Outcome.next (driveVreq_moves (by simp [State.vreqWanted, enough, easy, junction, cool, whole]) moves due)
  case normal =>
    intro enough hard moves due
    have wants : s.vreqWanted = 0 := by
      unfold State.vreqWanted
      rw [if_neg (by simp [enough]), if_neg (by rcases hard with hard | hard <;> simp [hard])]
    exact congrArg Host.Outcome.next (driveVreq_moves wants moves due)
  case higher =>
    intro short
    have wants : s.vreqWanted = 1 := if_pos (by simpa using short)
    refine ⟨fun moves due => congrArg Host.Outcome.next (driveVreq_moves wants moves due),
      fun asks => congrArg Host.Outcome.next (driveVreq_stays (.inl (wants.trans asks.symm))),
      fun some_ recent => congrArg Host.Outcome.next (driveVreq_stays (.inr (by simp [State.vreqDue, some_, recent])))⟩
  case sheaves =>
    intro applies fits
    obtain ⟨beyond, within⟩ := clockEnable_sheaves applies fits
    refine ⟨fun i few set clear out => beyond i (mem_enablesSet.mpr ⟨few, set, clear⟩) out, fun all => ?_⟩
    obtain ⟨busy, idle⟩ := within fun i listed => all i (mem_enablesSet.mp listed).1 (mem_enablesSet.mp listed).2.1 (mem_enablesSet.mp listed).2.2
    refine ⟨fun free => ?_, fun i few off on busy_ => busy i (mem_enablesCleared.mpr ⟨few, off, on⟩) busy_⟩
    have run := idle fun i listed => free i (mem_enablesCleared.mp listed).1 (mem_enablesCleared.mp listed).2.1 (mem_enablesCleared.mp listed).2.2
    have old := begun_ob r s 0x2020 1
    obtain ⟨shown, stopped, going⟩ := enableSheaves_spec (begun_canonical (r := r) canonical) v
    rw [old] at stopped going
    have answered {i a : Nat} (fits : a < 256) (other : logObject i = false) :
        SameOb i a (enableSheaves v (s.begun r)) (answer r St.ok 0 (enableSheaves v (s.begun r))) :=
      .of_reports (answer_reports r St.ok 0 _) fits other
    refine ⟨_, run, Eq.trans (answered (by decide) rfl) shown, fun i few off on => ?_, fun i few same => ?_⟩
    · exact Eq.trans (answered (i := 0xB010) (by omega) rfl) (stopped i (mem_enablesCleared.mpr ⟨few, off, on⟩))
    · have kept := going i few (fun listed => by have := mem_enablesCleared.mp listed; simp_all)
        (fun listed => by have := mem_enablesSet.mp listed; simp_all)
      exact Eq.trans (answered (i := 0xB010) (by omega) rfl) (kept.trans (begun_ob r s 0xB010 (i + 1) rfl (by omega)))
  case adapters =>
    intro applies fits
    obtain ⟨busy, free⟩ := clockEnable_adapters canonical applies fits
    refine ⟨fun on off => busy 5 (mem_enablesCleared.mpr ⟨by decide, off, on⟩) rfl, fun all => free fun k listed => ?_⟩
    obtain ⟨few, off, on⟩ := mem_enablesCleared.mp listed
    obtain ⟨notKeeper, port, far⟩ := all k few on off
    have portFree : (decide (k < 4) && ((s.port k).state == .up || (s.port k).state == .keepalive)) = false := by
      by_cases low : k < 4
      · simp [low, port low]
      · simp [low]
    have farFree : (k == 4 && s.farUp) = false := by
      by_cases four : k = 4
      · simp [far four]
      · simp [four]
    rw [State.adapterHeld, portFree, farFree, beq_eq_false_iff_ne.mpr notKeeper]
    rfl
  case resets =>
    intro running
    refine ⟨⟨_, exec_crossingReset held, crossingReset_spec canonical running⟩, ?_⟩
    rw [exec_crossingReopened held, crossingReopened_of_not_closed running]
  case reopens =>
    intro closed
    rw [exec_crossingReset held, crossingReset_of_closed closed, exec_crossingReopened held, crossingReopened_of_closed closed]
    exact ⟨rfl, rfl⟩
  case noTile => exact fun p beyond => if_neg (by simpa [State.hasCrossing] using beyond)
  case noHead => exact fun h beyond => if_neg (by simpa [State.hasCrossing] using beyond)

end Sys2Proof.Machine

/-!
PROOF. A failed read of a bale that a request of a transfer's purpose waits for, and the refuting of O54 (R357, R362).
-/
namespace Sys2Proof.Machine

-- One proof after another, each on a stack of its own, for the check's memory.
set_option Elab.async false

theorem exec_baleReadDone_error {s : State} {b : Nat} (reading : s.baleReading b = true) :
    exec (.baleReadDone b 1) s = .next (pumpFar (baleReadError b s)) :=
  congrArg Host.Outcome.next (if_neg (by simp [reading]))

/-- A tile's accepted request with the purpose of a transfer's line write. -/
def misfiledAsk : Ask :=
  { id := 3, side := ⟨.tile 0, 0, 0, 0, 0, 0, false, 0, 0, 0, false⟩, addr := 0, op := .read, why := .transferWrite 0 0, due := 0, tier := 0
    rank := 0, overBudget := false, arrived := 0, tides := 0, stage := .accepted, region := none, applied := none, result := none
    journal := true, confirmed := false, delivered := false, miss := false, fwd := 0, backing := false, entry := 0, rule := 0, info := 0 }

/-- A bale that is being read for it, for the second time. -/
def fetchedBale : Bale :=
  { num := 0, lines := [], dirty := false, mergedAt := 0, waits := [], writing := false, readers := [.ask 3 7], tries := 2, readAt := 0, used := 0 }

/-- A node at which nothing else is under way. -/
def misfiledNode : State :=
  { State.reset with path := { State.reset.path with asks := [misfiledAsk] }, far := { State.reset.far with bales := [fetchedBale] } }

/-- It meets the invariant as reset does, for the invariant asks nothing of the requests or of the far-tier port. -/
theorem misfiledNode_inv : misfiledNode.Inv := { State.reset_inv with }

theorem misfiledNode_reading : misfiledNode.baleReading 0 = true := by decide +kernel

/-- The request completes POISONED, and the pump of transfers takes it for the end of a line write and removes it at once. -/
theorem misfiledNode_removes : ((pumpFar (baleReadError 0 misfiledNode)).ask? 3).isNone = true := by decide +kernel

/-- Refutes O54: its clause on a failed read, where nothing else is under way, leaves the purpose of the tile's request open. One with the
purpose of a transfer's line write, which no port makes, is removed once it has completed, and does not stand there as ended. -/
theorem not_farTierPort : ¬ Obligations.FarTierPort := by
  unfold Obligations.FarTierPort
  intro holds
  obtain ⟨-, -, -, -, -, -, -, -, -, -, -, -, -, -, -, -, -, -, quiet⟩ := holds misfiledNode 0 0 0 ⟨.window, 0⟩ [] misfiledNode_inv
  have clear : misfiledNode.path.chans = [] := rfl
  have settled : ∀ p ∈ misfiledNode.path.chans, p.2.recWait = [] ∧ p.2.recs = [] := by
    rw [clear]
    exact fun _ listed => absurd listed List.not_mem_nil
  obtain ⟨-, failed, -⟩ := quiet rfl rfl settled
  obtain ⟨t, answers, q, stands, -⟩ := failed fetchedBale misfiledAsk 0 7 rfl rfl rfl rfl rfl rfl rfl misfiledNode_reading rfl (by decide) rfl
  obtain rfl := Host.Outcome.next.inj ((exec_baleReadDone_error misfiledNode_reading).symm.trans answers)
  have named : misfiledAsk.id = 3 := rfl
  rw [named, Option.isNone_iff_eq_none.mp misfiledNode_removes] at stands
  nomatch stands

end Sys2Proof.Machine
